-- ==== Sys2Proof/Word.lean ====
section
/-! DEFINITION. The byte and the plain numeric helpers of the model.

The BX6480 has no machine word of its own: dictionary values are numbers of the width of their type
(R397), and only what travels or is stored as bytes (DOMAIN data, packets, memory, records) is a
bit vector. -/
namespace Sys2Proof

/-- One byte of DOMAIN data, of a packet or of memory (R4, R397). -/
abbrev Byte := BitVec 8

/-- One second in nanoseconds, the unit of the model's times (R14). -/
abbrev nsPerS : Nat := 1000000000

end Sys2Proof
end

