-- ==== Sys2Proof/Syntax.lean ====
section
/-! DEFINITION. The commands the BX6480 takes: one constructor for each row of spec/opcode_table.json,
with the operands that the row's rule gives it.  Accesses carry the session they arrive on; physical
events carry what the pins, the links, the devices outside or the sensors present at that moment. -/
namespace Sys2Proof

/-- A UDP datagram as it arrives (Table 14.6): its operation is the command's own. -/
structure UdpDatagram where
  source : Nat
  /-- Where it was sent: IPv4 address and UDP port (R413). -/
  dest : Nat
  port : Nat
  version : Nat
  session : Nat
  seq : Nat
  index : Nat
  sub : Nat
  flags : Nat
  length : Nat
  reserved : Nat
  payload : List Byte
  tag : List Byte
deriving DecidableEq, Repr

/-- An SPI request frame (R417) without its command code, with the CRC it carries. -/
structure SpiFrame where
  more : Bool
  index : Nat
  sub : Nat
  length : Nat
  offset : Nat
  data : List Byte
  crc : Nat
deriving DecidableEq, Repr

/-- The mailbox registers as the host set them up before it wrote MB_GO (Table 14.8). -/
structure MbRequest where
  more : Bool
  address : Nat
  length : Nat
  offset : Nat
  value : Nat
  data : List Byte
deriving DecidableEq, Repr

/-- What an island's monitors and its regulator read at a governor tick (R33, R58): ring pace and the
pace reachable at 0.90 V in Q16.16 G layer-samples/s, voltage in mV, temperature in 1/16 degrees, power
in Q16.16 W. -/
structure IslandReading where
  pace : Nat
  reach : Nat
  mv : Nat
  temp : Int
  power : Nat
deriving DecidableEq, Repr

/-- What the device measures at a governor tick: whole power and that of the rails outside the adaptive
islands and VDDQ in mW, the hottest die sensor in 1/16 degrees (R40, R43), the six islands in the order
of R58, the flits that the links of FAB and of CTL have completed since the last tick (R30, R33), whether each
regulator of 0x2270:10 to 15 acknowledged its PMBus reading (R85), DRAM data traffic in MB/s with the part of it that is of
the regions protected in OPEN mode (R353, R364), store-tier traffic in MB/s, and the progress of the patrol pass in 1/65,536
(R390). -/
structure Telemetry where
  measured : Nat
  other : Nat
  dieTemp : Int
  islands : List IslandReading
  fabFlits : Nat
  ctlFlits : Nat
  acks : List Bool
  traffic : Nat
  guarded : Nat
  tierTraffic : Nat
  patrol : Nat
deriving DecidableEq, Repr

/-- Which strip is meant (R50, R109): kind 0 composition, 1 estimation; the canvas or
input; the slot; the place from left to right; the first line. -/
structure StripId where
  kind : Nat
  owner : Nat
  slot : Nat
  index : Nat
  line : Nat
deriving DecidableEq, Repr

/-- Pixels as they arrive: width, height and three or four 16-bit components for each pixel, row by row. -/
structure Picture where
  width : Nat
  height : Nat
  pixels : List (List Nat)
deriving DecidableEq, Repr


/-- A frame of an input as it ends: its pixels as codes of the descriptor's depth, fields one after the other; the
first damaged line, if any; whether the link corrected errors in it; the measured format of a D-lane input (the 16
bytes of MEASURED_FORMAT); the measured rate in µHz; the RTP time-stamp of an IP input; whether it is protected. -/
structure InputFrame where
  picture : Picture
  damage : Option Nat
  corrected : Bool
  measured : List Byte
  rate : Nat
  rtp : Nat
  isProtected : Bool
deriving DecidableEq, Repr

/-- An RTP packet on an Ethernet port: addresses, UDP port, payload type, sequence number, the active lines of its frame
that are complete once it and all before it have come, and whether its sender, of type W, sends it in a burst that types N
and NL do not make (R96). -/
structure RtpPacket where
  port : Nat
  dest : Nat
  source : Nat
  udp : Nat
  payloadType : Nat
  seq : Nat
  lines : Nat
  wide : Bool
deriving DecidableEq, Repr


/-- What a measurement interval of a reference candidate gives: its mean frequency against OSC_IN's nominal in
Q32.16 ppb, its rate in µHz, the standard rate and the line count it detects, and the timebase time in ps of its last
horizontal sync edge and of its last vertical sync or rising edge (R294). -/
structure RefMeasure where
  offset : Int
  rate : Nat
  detNum : Nat
  detDen : Nat
  detLines : Nat
  line : Nat
  edge : Nat
deriving DecidableEq, Repr

/-- A Sync message of a PTP master: its time of sending in PTP ns, for a two-step master that of its Follow_Up where one
has come, and its interval in ns (R293). -/
structure PtpSync where
  origin : Int
  twoStep : Bool
  followUp : Option Int
  interval : Nat
deriving DecidableEq, Repr

/-- An Announce message on a PTP port: its domain, the data set that the best master clock algorithm compares, its
sender, the UTC offset, the traceability flag and its interval in ns. -/
structure Announce where
  domain : Nat
  priority1 : Nat
  clockClass : Nat
  accuracy : Nat
  variance : Nat
  priority2 : Nat
  identity : Nat
  steps : Nat
  sender : Nat
  utcOffset : Int
  traceable : Bool
  interval : Nat
deriving DecidableEq, Repr


/-- What an uncorrectable word of the store tier belongs to (Table 12.2): pixels of a slot buffer, a line of a head's
scan FIFO, a line of a canvas's IP write-back buffer, a line of an input's band, the Lining of a canvas, an Overcoat
image, or SYSTEM. -/
inductive StoreHit where
  | headBuffer (c : Fin 8) (buffer x y pixels : Nat)
  | scanLine (h : Fin 32) (line x : Nat)
  | ipLine (c : Fin 8) (k : Fin 2) (line x : Nat)
  | band (n : Fin 64) (line : Nat)
  | lining (c : Fin 8)
  | overcoat (i : Fin 16)
  | system
deriving DecidableEq, Repr

/-- A word of the store tier in error: its offset in its partition in KiB, its bank within its slice and row within the
bank (Table 13.1), and what it belongs to. -/
structure StoreWord where
  offset : Nat
  bank : Fin 17
  row : Fin 8192
  hit : StoreHit
deriving DecidableEq, Repr

/-- What an uncorrectable codeword of DRAM belongs to: a protected region, a stored frame of an input, bytes of the
host surface region, bytes of a host surface's copy, two samples of an audio delay line by frame and channel, bytes of a
frame that a recorder holds, bytes of a clip frame that a player holds, or a place that no owner has. -/
inductive DramHit where
  | guarded
  | inputFrame (n : Fin 64) (frame : Nat)
  | region (at_ : Nat)
  | copy (n : Fin 32) (second : Bool) (at_ : Nat)
  | delayLine (source : Nat) (first second : Nat × Nat)
  | captured (k : Fin 2) (frame at_ : Nat)
  | prefetched (n : Fin 32) (frame at_ : Nat)
  | other
deriving DecidableEq, Repr

/-- A codeword of DRAM in error: its address in bytes within the protected or the unprotected data, whether it lies in the
parity block of that address's stripe, its row, and what it belongs to. -/
structure DramWord where
  address : Nat
  parity : Bool
  row : Nat
  hit : DramHit
deriving DecidableEq, Repr

/-- Why a power-down cycle of DRAM starts: its time has come, a channel's write-gather buffer has filled to so many bytes,
or a head's scan FIFO has fallen to so many (R362). -/
inductive DramWake where
  | timer
  | gather (channel : Fin 24) (fill : Nat)
  | fifo (h : Fin 32) (fill : Nat)
deriving DecidableEq, Repr

/-- A copy of the clip directory as a drive holds it: whether its CRC holds, its generation and its entries that are
not free, by clip number. -/
structure DirectoryCopy where
  valid : Bool
  generation : Nat
  entries : List (Nat × List Byte)
deriving DecidableEq, Repr

/-- A drive as Identify and its blocks show it: namespace 1 with 4,096-byte blocks or not, its blocks, and its copies of
the superblock, each valid or not with its generation, and of the directory (R365, R366). -/
structure DriveFound where
  blocksFit : Bool
  blocks : Nat
  supers : List (Bool × Nat)
  copies : List DirectoryCopy
deriving DecidableEq, Repr

/-- What happens in a sector of MRAM: an error corrected on a read, a number of verify failures of one write, or an
uncorrectable read (Table 13.2). -/
inductive MramFault where
  | corrected
  | verify (failures : Nat)
  | uncorrectable
deriving DecidableEq, Repr

/-- What an operating second shows: the hottest die sensor in 1/16 degrees, the six island voltages in mV and the mean
device power in mW. -/
structure LifeSample where
  hottest : Int
  volts : List Nat
  power : Nat
deriving DecidableEq, Repr

/-- The monitored supplies: VNVM, VIO18 and VCTL in mV, and whether PWR_FAIL_N has been asserted for 1 µs. -/
structure Rails where
  vnvm : Nat
  vio18 : Nat
  vctl : Nat
  pwrFail : Bool
deriving DecidableEq, Repr

/-- What start-up finds (R438, R460, R464, R486): saved configuration copies and lifetime copies whose CRC does not hold,
slots of the recorder's ring and journal entries whose CRC does not hold, key slots whose tag fails, and whether
TAMPER_CAP is charged. -/
structure LoadFound where
  badConfig : List Nat
  badLife : List Nat
  torn : List Nat
  badJournal : List Nat
  badSlots : List Nat
  tamperCap : Bool
deriving DecidableEq, Repr

/-- What a link ends training with: the lane rate that it agreed on in kbit/s, whether HDMI runs FRL and at which TxFFE
level, the transmit coefficients c(−3) to c(1) that the partner asked for, and the equaliser settings that converged
(R62, R64, R69, R74 to R76). -/
structure LinkFound where
  rate : Nat
  frl : Bool
  ffe : Nat
  tx : List Int
  settings : List Int
deriving DecidableEq, Repr

/-- What a lane's receiver shows at an update beside SNR and eye height: the eye's width in mUI; FEC symbols corrected,
pattern bits in error, or errors of the D-lane's standard, since the last update; codewords corrected on its port that
are told with it; and the equaliser's settings (R62, R72, R87 to R89). -/
structure LaneReading where
  wide : Fin 65536
  errors : Nat
  codewords : Nat
  settings : List Int
deriving DecidableEq, Repr

/-- A level at a pin, and for how many µs it has held. -/
structure PinLevel where
  high : Bool
  us : Nat
deriving DecidableEq, Repr

/-- The error counters of a CAN interface (R83). -/
structure CanCounts where
  transmit : Nat
  receive : Nat
deriving DecidableEq, Repr

/-- The commands, one constructor per row of the table, in its order: those with operands, then those
without. -/
inductive Instr where
  /-- DICT_WRITE (R400): A write to a dictionary entry that has no row of its own is checked in the order of Table 14.2 and applied by its apply class. -/
  | dictWrite (sess : Fin 12) (index sub : Nat) (data : List Byte)
  /-- EVENT_QUEUE_READ (R422): A read of READ returns up to 64 entries at or above MIN_SEVERITY from CURSOR and advances CURSOR. -/
  | eventQueueRead (sess : Fin 12)
  /-- EVT_N_ACK (R423): EVT_N_ACK clears EVT_N_STATE for the events that entered before its receipt. -/
  | evtNAck (sess : Fin 12) (value : Nat)
  /-- LAST_REFUSAL_CLEAR (R427): Writing CLEAR clears subs 01 to 0A of the session's LAST_REFUSAL. -/
  | lastRefusalClear (sess : Fin 12) (value : Nat)
  /-- TIMEBASE_TIME_READ (R320): Reading TIME_S latches TIME_NS so the pair is read coherently. -/
  | timebaseTimeRead (sess : Fin 12)
  /-- FIFO_LOW_WATER_READ (R256): Reading FIFO_LOW_WATER returns the least fill since the last read and restarts the measurement. -/
  | fifoLowWaterRead (sess : Fin 12) (h : Fin 32)
  /-- LIFECYCLE_CHALLENGE (R441): Each read of CHALLENGE draws a fresh 32-bit random value that serves one CONFIRM. -/
  | lifecycleChallenge (sess : Fin 12)
  /-- UDP_READ (R413): A tagged UDP READ datagram reads one entry and returns its value. -/
  | udpRead (d : UdpDatagram)
  /-- UDP_WRITE (R413): A UDP WRITE datagram writes one entry. -/
  | udpWrite (d : UdpDatagram)
  /-- UDP_READ_BLOCK (R413): A UDP READ_BLOCK datagram returns DOMAIN data from an offset, with MORE set while data remains. -/
  | udpReadBlock (d : UdpDatagram)
  /-- UDP_WRITE_BLOCK (R413): A UDP WRITE_BLOCK segment adds data in offset order; the transfer applies at its last segment. -/
  | udpWriteBlock (d : UdpDatagram)
  /-- UDP_COMMIT (R414): A UDP COMMIT writes its records as one access and then commits the named scope, answering after acknowledgement or refusal. -/
  | udpCommit (d : UdpDatagram)
  /-- UDP_SUBSCRIBE (R416): A SUBSCRIBE request starts or ends the sending of EVENT datagrams at a minimum severity. -/
  | udpSubscribe (d : UdpDatagram)
  /-- UDP_AUTH_PHASE_1 (R415): AUTH phase 1 opens a UDP session and returns DEVICE_NONCE. -/
  | udpAuthPhase1 (d : UdpDatagram)
  /-- UDP_AUTH_PHASE_2 (R415): AUTH phase 2 carries PROOF and returns DEVICE_PROOF; later datagrams are tagged with Ks. -/
  | udpAuthPhase2 (d : UdpDatagram)
  /-- UDP_AUTH_PHASE_3 (R415): AUTH phase 3 closes the UDP session. -/
  | udpAuthPhase3 (d : UdpDatagram)
  /-- UDP_TRANSFER_IDLE (R413): A block transfer left idle for 1 s is abandoned. -/
  | udpTransferIdle (u : Fin 8)
  /-- UDP_SESSION_IDLE (R416): A UDP session idle for UDP_IDLE_TIMEOUT is closed. -/
  | udpSessionIdle (u : Fin 8)
  /-- SPI_READ (R417): An SPI READ frame starts a read when chip select is released. -/
  | spiRead (f : SpiFrame)
  /-- SPI_WRITE (R417): An SPI WRITE frame starts a write when chip select is released. -/
  | spiWrite (f : SpiFrame)
  /-- SPI_READ_BLOCK (R417): An SPI READ_BLOCK frame starts a block read segment. -/
  | spiReadBlock (f : SpiFrame)
  /-- SPI_WRITE_BLOCK (R417): An SPI WRITE_BLOCK frame delivers a block write segment. -/
  | spiWriteBlock (f : SpiFrame)
  /-- MB_READ (R418): MB_GO with MB_OP READ performs a read through the BAR0 mailbox. -/
  | mbRead (r : MbRequest)
  /-- MB_WRITE (R418): MB_GO with MB_OP WRITE performs a write through the BAR0 mailbox. -/
  | mbWrite (r : MbRequest)
  /-- MB_READ_BLOCK (R418): MB_GO with MB_OP READ_BLOCK moves DOMAIN data out through MB_DATA. -/
  | mbReadBlock (r : MbRequest)
  /-- MB_WRITE_BLOCK (R418): MB_GO with MB_OP WRITE_BLOCK moves DOMAIN data in through MB_DATA. -/
  | mbWriteBlock (r : MbRequest)
  /-- DOORBELL_WRITE (R419): A BAR4 doorbell write acts as a PCIe-session write of the entry it names. -/
  | doorbellWrite (offset value : Nat)
  /-- NMT_START_REMOTE_NODE (R410): Start remote node moves DEVICE_STATE to RUN or only the interface, by NMT_CONTROL. -/
  | nmtStartRemoteNode (can : Fin 2)
  /-- NMT_ENTER_PRE_OPERATIONAL (R410): Enter pre-operational moves DEVICE_STATE to STANDBY or only the interface. -/
  | nmtEnterPreOperational (can : Fin 2)
  /-- NMT_STOP_REMOTE_NODE (R410): Stop remote node moves to STANDBY and limits the interface to NMT and heartbeat, or acts on the interface only. -/
  | nmtStopRemoteNode (can : Fin 2)
  /-- NMT_RESET_COMMUNICATION (R410): Reset communication reloads the interface's communication objects and drops the session to base rights. -/
  | nmtResetCommunication (can : Fin 2)
  /-- NMT_RESET_NODE (R410): Reset node acts as reset communication or resets the device, by NMT_RESET_ACTION. -/
  | nmtResetNode (can : Fin 2)
  /-- USDO_TRANSFER (R409): A USDO request reads or writes a dictionary entry over CANopen FD. -/
  | usdoTransfer (can : Fin 2) (write : Bool) (index sub : Nat) (data : List Byte)
  /-- RPDO_RECEIVED (R411): A received RPDO writes its mapped entries in order as one access. -/
  | rpdoReceived (can : Fin 2) (pdo : Fin 8) (payload : List Byte)
  /-- SYNC_RECEIVED (R411): A SYNC applies pending synchronous RPDOs and sends synchronous TPDOs. -/
  | syncReceived (can : Fin 2)
  /-- TPDO_CHANGE_CHECK (R411): Every 1 ms, event-driven TPDOs whose mapped values changed or whose event timer expired are sent. -/
  | tpdoChangeCheck (can : Fin 2)
  /-- CAN_HEARTBEAT (R409): The heartbeat producer sends a heartbeat each HEARTBEAT_TIME. -/
  | canHeartbeat (can : Fin 2)
  /-- HOST_RING_DESCRIPTOR_READ (R424): A completed read of the host ring descriptor refreshes the consumer index and lets queued entries be copied. -/
  | hostRingDescriptorRead (status consumer : Nat)
  /-- CLIENT_NONCE (R402): Writing CLIENT_NONCE checks the slot and draws a fresh DEVICE_NONCE. -/
  | clientNonce (sess : Fin 12) (nonce : List Byte)
  /-- PROOF (R402): Writing PROOF grants AUTH_RIGHTS when correct, or counts a wrong proof. -/
  | proof (sess : Fin 12) (proof : List Byte)
  /-- AUTH_LOCKOUT_EXPIRY (R403): When AUTH_LOCKOUT seconds pass, proofs are accepted again. -/
  | authLockoutExpiry (sess : Fin 12) (source : Nat)
  /-- DROP (R404): Writing DROP returns the session to its base rights. -/
  | drop (sess : Fin 12) (value : Nat)
  /-- STORE (R405): Writing the save signature to 0x1010 copies the values in force to staging and starts the MRAM write. -/
  | store (sess : Fin 12) (sub value : Nat)
  /-- STORE_DONE (R405): The verified MRAM copy is marked valid and the save response is sent. -/
  | storeDone (verified : Bool)
  /-- RESTORE (R408): Writing the load signature to 0x1011 writes a restore marker for the next release of PORST_N. -/
  | restore (sess : Fin 12) (sub value : Nat)
  /-- COMPOSE_LATCH (R26): A canvas compose latch handles frame timing, stitch landing, gating, not-ready resolution, a tick and dispatch in order. -/
  | composeLatch (c : Fin 8) (t : Telemetry) (line0 : List (Nat × Nat))
  /-- GOVERNOR_TIMER_TICK (R36): A governor tick runs when 10 ms have passed since the last tick. -/
  | governorTimerTick (t : Telemetry)
  /-- ENGINE_PACE_FAULT (R55): An engine below 0.35 for 256 consecutive ticks is handed over as permanently faulty and its strips reissued. -/
  | enginePaceFault (e : Fin 104)
  /-- AVS_COMMAND (R34): Each island's AVS loop issues a voltage command toward its target, at most once every 50 µs. -/
  | avsCommand (isl : Fin 5) (ok : Bool) (pace mv : Nat)
  /-- PWR_BUDGET_MEASURE (R504): The duty cycle of PWR_BUDGET is measured over 16 periods and sets the pin cap. -/
  | pwrBudgetMeasure (high period : Nat)
  /-- STRIP_DISPATCH (R50): An engine with credits pulls the strip at the head of the dispatch queue. -/
  | stripDispatch (e : Fin 104)
  /-- CHASE_SEGMENT_READY (R109): A chase segment becomes dispatchable once every source line it reads has arrived in the band. -/
  | chaseSegmentReady (n : Fin 64) (lines : Nat) (p : Picture)
  /-- STRIP_REISSUE (R52): At its reissue point an incomplete strip gets a second copy. -/
  | stripReissue (strip : StripId)
  /-- STRIP_COMPLETE (R53): The first copy to complete marks the strip done and cancels the other. -/
  | stripComplete (e : Fin 104) (strip : StripId)
  /-- COMPOSE_DEADLINE (R54): At the compose deadline a canvas with incomplete strips discards its composition and its heads repeat. -/
  | composeDeadline (c : Fin 8)
  /-- ENGINE_ECC_ERROR (R186): A line-store SEC-DED error is corrected in place or abandons the copy and resets the engine. -/
  | engineEccError (e : Fin 104) (strip : StripId) (entry : Nat) (double : Bool)
  /-- ENGINE_PARITY (R186): A datapath parity error abandons the copy and resets the engine. -/
  | engineParity (e : Fin 104) (strip : StripId) (unit : Nat)
  /-- ENGINE_TIMEOUT (R186): A copy incomplete 4 × e after its start is abandoned and the engine reset. -/
  | engineTimeout (e : Fin 104) (strip : StripId)
  /-- ENGINE_RESET (R186): An engine reset completes within 10 µs and the engine regains credits. -/
  | engineReset (e : Fin 104)
  /-- PORT_ADMIN_UP (R66): Writing ADMIN 1 judges the port's formation and brings its lanes to TRAIN. -/
  | portAdminUp (sess : Fin 12) (p : Fin 48)
  /-- PORT_ADMIN_DOWN (R88): Writing ADMIN 0 takes the port's lanes to OFF and the port DOWN. -/
  | portAdminDown (sess : Fin 12) (p : Fin 48)
  /-- SPARE_OF_WRITE (R66): A write of SPARE_OF makes a lane a bond spare or releases it, judged at the write. -/
  | spareOfWrite (sess : Fin 12) (l : Fin 52) (value : Nat)
  /-- GENERATION_WRITE (R260): A write of GENERATION makes a port carry PTL-1, PTL-2 or no tile link, judged against TYPE and spares. -/
  | generationWrite (sess : Fin 12) (p : Fin 48) (value : Nat)
  /-- LANE_LOST (R70): Loss of signal, CDR or PCS lock on a lane starts a warm restart or a takeover. -/
  | laneLost (l : Fin 68) (alignment : Bool)
  /-- LANE_UP (R69): Training completes and the lane enters UP. -/
  | laneUp (l : Fin 68) (f : LinkFound)
  /-- LANE_TRAIN_FAIL (R69): TRAIN_TIMEOUT of 3 s elapses and the lane cold-restarts. -/
  | laneTrainFail (l : Fin 68) (autoneg : Bool)
  /-- LANE_DEGRADED (R69): Low margin for 1 s, or an uncorrectable codeword, takes the lane to DEGRADED. -/
  | laneDegraded (l : Fin 68)
  /-- LANE_RECOVERED (R69): Ten seconds of sufficient margin with no uncorrectable codeword returns the lane to UP. -/
  | laneRecovered (l : Fin 68)
  /-- FEC_UNCORRECTABLE (R69): An uncorrectable FEC codeword is received on the port. -/
  | fecUncorrectable (p : Fin 48) (count : Nat)
  /-- LANE_MARGIN_UPDATE (R72): Every 10 ms each lane updates SNR, eye figures and MARGIN_CLASS. -/
  | laneMarginUpdate (l : Fin 68) (snr high : Fin 65536) (r : LaneReading)
  /-- PTL_SPARE_READY (R263): A spare's equaliser converges and the spare becomes surveyed. -/
  | ptlSpareReady (l : Fin 52)
  /-- ETHERNET_FRAME_RX (R68): A received Ethernet frame is accepted or discarded and counted. -/
  | ethernetFrameRx (p : Fin 48) (length : Nat) (fcs pause : Bool)
  /-- GROUP_ADMIN_UP (R89): Writing a group's ADMIN 1 judges its mode, lanes and directions and starts the group. -/
  | groupAdminUp (sess : Fin 12) (g : Fin 4)
  /-- GROUP_ADMIN_DOWN (R89): Writing a group's ADMIN 0 stops the group. -/
  | groupAdminDown (sess : Fin 12) (g : Fin 4)
  /-- HPD_CHANGE (R78): A debounced HPD level change on a transmit group is taken, and the sink EDID read at assertion. -/
  | hpdChange (g : Fin 4) (p : PinLevel)
  /-- IRQ_HPD (R78): A low HPD pulse of 0.5 to 1 ms in DisplayPort mode is taken as IRQ_HPD. -/
  | irqHpd (g : Fin 4) (us : Nat)
  /-- EDID_WRITE (R78): Writing EDID loads it and drives HPD low for 200 ms. -/
  | edidWrite (sess : Fin 12) (g : Fin 4) (data : List Byte)
  /-- EDID_HPD_RELEASE (R78): 200 ms after an EDID write the receive group asserts HPD again. -/
  | edidHpdRelease (g : Fin 4)
  /-- SINK_EDID_CHANGED (R78): The sink's EDID read completes into SINK_EDID. -/
  | sinkEdidChanged (g : Fin 4) (data : List Byte)
  /-- HDCP_AUTHENTICATED (R77): HDCP 2.3 authentication of a group completes. -/
  | hdcpAuthenticated (g : Fin 4) (depth : Nat) (ids : List (List Byte))
  /-- HDCP_FAILED (R77): HDCP 2.3 authentication of a group fails. -/
  | hdcpFailed (g : Fin 4) (step : Nat)
  /-- DLINK_TRAIN_FAIL (R92): HDMI FRL or DisplayPort link training of a group fails. -/
  | dlinkTrainFail (g : Fin 4) (rate : Nat)
  /-- CEC_TX (R78): Writing CEC_TX sends a raw CEC frame at once. -/
  | cecTx (sess : Fin 12) (g : Fin 4) (data : List Byte)
  /-- CEC_RX (R78): A received CEC frame is stored in CEC_RX and acknowledged for masked addresses. -/
  | cecRx (g : Fin 4) (data : List Byte)
  /-- PCIE_LINK_UP (R79): The PCIe endpoint link comes up. -/
  | pcieLinkUp (speed width : Fin 5)
  /-- PCIE_LINK_DOWN (R79): The PCIe endpoint link goes down; host surfaces go LOST and the PCIe session drops its rights. -/
  | pcieLinkDown (ltssm : Nat)
  /-- PCIE_AER (R79): An AER error is reported and counted. -/
  | pcieAer (uncorrectable : Bool) (status : Nat)
  /-- BAR2_ACCESS (R356): A BAR2 access outside the host surface region reads all ones or is dropped. -/
  | bar2Access (write : Bool) (offset length : Nat) (data : List Byte)
  /-- TARGET_SPEED_WRITE (R90): Writing TARGET_SPEED requests a link retrain within 1 ms. -/
  | targetSpeedWrite (sess : Fin 12) (value : Nat)
  /-- RP_DEVICE_FOUND (R81): A device other than a directly attached NVMe drive behind a root port is left unconfigured and the port REFUSED. -/
  | rpDeviceFound (k : Fin 2)
  /-- MGMT_LINK (R82): The management PHY's negotiated speed changes and the MAC follows it. -/
  | mgmtLink (v : Fin 4)
  /-- CAN_BUS_OFF (R83): A CAN interface goes bus-off. -/
  | canBusOff (can : Fin 2) (tec : Nat)
  /-- CAN_ERROR_PASSIVE (R83): A CAN interface becomes error-passive. -/
  | canErrorPassive (can : Fin 2) (e : CanCounts)
  /-- INPUT_ENABLE (R94): Writing ENABLE 1 validates the descriptor, allocates the frame store and starts ACQUIRING. -/
  | inputEnable (sess : Fin 12) (n : Fin 64)
  /-- INPUT_DISABLE (R102): Writing ENABLE 0 takes the input to ABSENT. -/
  | inputDisable (sess : Fin 12) (n : Fin 64)
  /-- INPUT_FRAME_END (R102): A received frame completes intact or damaged and drives the health transitions. -/
  | inputFrameEnd (n : Fin 64) (f : InputFrame)
  /-- INPUT_MISSING_FRAME (R102): A frame period passes without an intact frame; two in succession make the input LOST. -/
  | inputMissingFrame (n : Fin 64)
  /-- INPUT_SIGNAL_LOSS (R103): CDR unlock or clock stop on a D-lane input damages the frame in progress. -/
  | inputSignalLoss (n : Fin 64) (line : Nat)
  /-- INPUT_GAP_TIMEOUT (R103): No packet on a path for GAP_TIMEOUT marks that path absent. -/
  | inputGapTimeout (n : Fin 64) (path : Fin 2) (line : Nat)
  /-- INPUT_SIGNAL_DETECTED (R102): Signal or packets return to a LOST input and it goes to ACQUIRING. -/
  | inputSignalDetected (n : Fin 64) (measured : List Byte)
  /-- INPUT_PACKET_RX (R98): An RTP packet of an IP input is reordered and merged across paths into the receive buffer. -/
  | inputPacketRx (n : Fin 64) (k : RtpPacket)
  /-- HOST_SOURCE_ENABLE (R113): Writing a host surface's ENABLE 1 checks its buffers and enables it. -/
  | hostSourceEnable (sess : Fin 12) (n : Fin 32)
  /-- HOST_SOURCE_DISABLE (R121): Writing a host surface's ENABLE 0 disables it. -/
  | hostSourceDisable (sess : Fin 12) (n : Fin 32)
  /-- FLIP (R114): Writing FLIP requests a buffer as front buffer, and for LOCATION 1 starts its fetch. -/
  | flip (sess : Fin 12) (n : Fin 32) (value : Nat)
  /-- HOST_FETCH_COMPLETE (R116): A LOCATION 1 fetch completes and the flip becomes ready. -/
  | hostFetchComplete (n : Fin 32) (data : List Byte)
  /-- HOST_FETCH_FAULT (R116): A completion timeout or error during a fetch cancels the flip. -/
  | hostFetchFault (n : Fin 32) (status : Nat)
  /-- HOST_RELEASED (R115): The last composition reading the old front buffer ends and the buffer is released. -/
  | hostReleased (n : Fin 32)
  /-- POCKET_PLAYER_ENABLE (R122): Writing a player's ENABLE 1 enables it. -/
  | pocketPlayerEnable (sess : Fin 12) (n : Fin 32)
  /-- POCKET_PLAYER_DISABLE (R122): Writing a player's ENABLE 0 disables it. -/
  | pocketPlayerDisable (sess : Fin 12) (n : Fin 32)
  /-- POCKET_STOP (R118): TRANSPORT STOP stops the player at its next base-frame latch. -/
  | pocketStop (sess : Fin 12) (n : Fin 32)
  /-- POCKET_CUE (R118): TRANSPORT CUE prefetches from IN_FRAME and shows it once two frames are held. -/
  | pocketCue (sess : Fin 12) (n : Fin 32)
  /-- POCKET_PLAY (R118): TRANSPORT PLAY plays to OUT_FRAME from the requested start. -/
  | pocketPlay (sess : Fin 12) (n : Fin 32)
  /-- POCKET_LOOP (R118): TRANSPORT LOOP plays and returns to IN_FRAME without a gap. -/
  | pocketLoop (sess : Fin 12) (n : Fin 32)
  /-- POCKET_PAUSE (R118): TRANSPORT PAUSE repeats the frame at POSITION. -/
  | pocketPause (sess : Fin 12) (n : Fin 32)
  /-- POCKET_PREFETCH_COMPLETE (R117): A prefetch read of a clip frame completes. -/
  | pocketPrefetchComplete (n : Fin 32) (frame : Nat) (p : Picture) (audio : List Int) (ok : Bool)
  /-- HEAD_COMMIT (R130): Writing 1 to a head's COMMIT copies its shadows into a validation set. -/
  | headCommit (sess : Fin 12) (h : Fin 32)
  /-- CANVAS_COMMIT (R130): Writing 1 to a canvas's COMMIT copies its shadows into a validation set. -/
  | canvasCommit (sess : Fin 12) (c : Fin 8)
  /-- COMMIT_DISCARD (R127): Writing 2 to COMMIT copies the values in force back to the shadows. -/
  | commitDiscard (sess : Fin 12) (x : Fin 40)
  /-- STITCH_GROUP_COMMIT (R138): Writing 1 to the stitch group's COMMIT validates every member together. -/
  | stitchGroupCommit (sess : Fin 12)
  /-- ROUTE_TABLE_WRITE (R146): A route table transfer writes whole entries, checked on completion. -/
  | routeTableWrite (sess : Fin 12) (data : List Byte)
  /-- SWITCH (R148): Writing SWITCH requests an output to change its active entry at a switch point. -/
  | switch (sess : Fin 12) (value : Nat)
  /-- ROUTE_SWITCHED (R150): A clean switch takes place at the old flow's switch point. -/
  | routeSwitched (o : Fin 8192)
  /-- ROUGH_SWITCH (R151): A rough switch takes place at the new flow's next frame start, truncating the old frame. -/
  | roughSwitch (o : Fin 8192)
  /-- FOLLOW_SWITCH (R152): A following audio or ancillary output switches at the first packet at or after the video switch instant. -/
  | followSwitch (o : Fin 8192) (t : Nat)
  /-- FLOW_PACKET_FORWARD (R154): A packet of an active flow is forwarded to its egress ports within 5 µs. -/
  | flowPacketForward (port : Fin 48) (dest source udp seq : Nat) (start : Bool) (lines full : Nat) (payload : List Byte)
  /-- ROUTE_FLOW_LOST (R154): An active flow that delivers no packet for 100 ms is reported lost. -/
  | routeFlowLost (k : Fin 16384)
  /-- RESERVE_WRITE (R153): A write of RESERVE[p] is judged against traffic now admitted. -/
  | reserveWrite (sess : Fin 12) (p : Fin 48) (value : Nat)
  /-- BANK_DATA_WRITE (R168): A BANK_DATA transfer loads a coefficient bank after its checks. -/
  | bankDataWrite (sess : Fin 12) (data : List Byte)
  /-- LUT_DATA_WRITE (R191): A LUT_DATA transfer loads a 1D LUT library entry. -/
  | lutDataWrite (sess : Fin 12) (data : List Byte)
  /-- LUT3D_DATA_WRITE (R191): A LUT3D_DATA transfer loads a shared 3D LUT. -/
  | lut3dDataWrite (sess : Fin 12) (data : List Byte)
  /-- MOTION_ESTIMATION_START (R182): When the later frame of a pair becomes available its estimation strips are queued. -/
  | motionEstimationStart (n : Fin 64)
  /-- MOTION_ESTIMATION_DONE (R182): A pair's vector field completes and fallback blocks are judged. -/
  | motionEstimationDone (n : Fin 64) (found : List (Int × Int))
  /-- CLEAR_COUNTERS (R189): CLEAR_COUNTERS clears the strip counters and the fault table. -/
  | clearCounters (sess : Fin 12) (value : Nat)
  /-- CANVAS_ENABLE (R194): Writing a canvas's ENABLE 1 starts it at the first FTG base-frame start at least 1 ms later. -/
  | canvasEnable (sess : Fin 12) (c : Fin 8)
  /-- CANVAS_DISABLE (R194): Writing a canvas's ENABLE 0 stops it at its next base-frame compose latch. -/
  | canvasDisable (sess : Fin 12) (c : Fin 8)
  /-- WRITEBACK_FRAME_DONE (R210): A write-back frame completes, WB_FRAMES increments and its vector fires. -/
  | writebackFrameDone (c : Fin 8) (k : Fin 2)
  /-- OVERCOAT_ARM_N_CHANGE (R216): OVERCOAT_ARM_N is stable for 100 µs at a new level and the call for the Overcoat is re-judged. -/
  | overcoatArmNChange (asserted : Bool)
  /-- OVERCOAT_ARM_WRITE (R216): Writing ARM calls for or releases the Overcoat of each canvas. -/
  | overcoatArmWrite (sess : Fin 12) (value : Nat)
  /-- LATCH_CLEAR (R216): Writing LATCH_CLEAR clears the pin latch. -/
  | latchClear (sess : Fin 12) (value : Nat)
  /-- IMAGE_DESC_WRITE (R213): Writing IMAGE_DESC stages or deletes an Overcoat image. -/
  | imageDescWrite (sess : Fin 12) (data : List Byte)
  /-- IMAGE_DATA_WRITE (R213): An IMAGE_DATA transfer loads an Overcoat image and computes IMAGE_CRC. -/
  | imageDataWrite (sess : Fin 12) (data : List Byte)
  /-- LINING_VALID (R223): A Lining rebuild completes and is used from the next judging latch. -/
  | liningValid (c : Fin 8)
  /-- REBUILD (R223): Writing REBUILD invalidates and rebuilds a canvas's Lining. -/
  | rebuild (sess : Fin 12) (value : Nat)
  /-- HEAD_ENABLE (R231): Writing a head's ENABLE 1 validates it and starts it at the first grid frame start at least 1 ms later. -/
  | headEnable (sess : Fin 12) (h : Fin 32)
  /-- HEAD_DISABLE (R231): Writing a head's ENABLE 0 stops it at its next frame start. -/
  | headDisable (sess : Fin 12) (h : Fin 32)
  /-- HEAD_FRAME_START (R232): A head frame starts on its grid, with its flip time-stamp and beacons. -/
  | headFrameStart (h : Fin 32) (low : Nat)
  /-- FLIP_LATCH (R234): At the flip latch the composed buffer becomes the slot's front buffer and head commits land. -/
  | flipLatch (h : Fin 32)
  /-- START_OF_BLANK (R253): At VB0 the legacy START_OF_BLANK bit is set. -/
  | startOfBlank (h : Fin 32)
  /-- LINE_MATCH (R253): At line MATCH_LINE the legacy LINE_MATCH bit is set. -/
  | lineMatch (h : Fin 32)
  /-- HEAD_UNDERRUN (R241): A DRAM-scanned head's FIFO lacks a pixel and the line finishes in BACKGROUND. -/
  | headUnderrun (h : Fin 32) (line x : Nat)
  /-- CHECK_WINDOW_END (R250): A check window's echo CRC is compared with its expected CRC. -/
  | checkWindowEnd (h : Fin 32) (w : Fin 16) (echo : Nat)
  /-- SAFE_CLEAR (R250): Writing SAFE_CLEAR ends SAFE fill. -/
  | safeClear (sess : Fin 12) (h : Fin 32) (value : Nat)
  /-- ECHO_FAULT (R251): An echo receiver loses lock and the head's checks are suspended. -/
  | echoFault (h : Fin 32) (unit : Fin 68)
  /-- RETIME (R254): Writing RETIME validates NEW_TIMING with the head's shadows and starts the retiming sequence. -/
  | retime (sess : Fin 12) (h : Fin 32) (value : Nat)
  /-- RETIME_NEW_TIMING (R254): The head's first frame on the new grid starts. -/
  | retimeNewTiming (h : Fin 32)
  /-- LEGACY_STATUS_CLEAR (R253): Writing 1 to a legacy STATUS bit clears it. -/
  | legacyStatusClear (sess : Fin 12) (which : Fin 4) (value : Nat)
  /-- TILE_MAP_WRITE (R269): A tile map transfer writes shadow entries, checked on completion. -/
  | tileMapWrite (sess : Fin 12) (data : List Byte)
  /-- CALIBRATION_WRITE (R273): A calibration transfer writes shadow calibration entries. -/
  | calibrationWrite (sess : Fin 12) (data : List Byte)
  /-- CALIB_PERIODIC (R286): Every 1,024 base frames CALIB is sent again to RX_CALIB tiles. -/
  | calibPeriodic (h : Fin 32)
  /-- PIXELS_SEND (R276): Once the scan has passed every line a tile's frame reads, its PIXELS packets are sent. -/
  | pixelsSend (h : Fin 32) (k : Fin 65536)
  /-- KEY_SLOT_WRITE (R280): Writing KEY_SLOT names the PTL-2 key slot and starts a rekey. -/
  | keySlotWrite (sess : Fin 12) (value : Nat)
  /-- REKEY (R282): Writing REKEY starts an 8-frame salt countdown. -/
  | rekey (sess : Fin 12) (value : Nat)
  /-- STATUS_RECEIVED (R285): A STATUS packet is authenticated, matched to its tile and updates TILE_STATUS. -/
  | statusReceived (p : Fin 48) (data : List Byte)
  /-- TILE_MISSING (R285): No STATUS arrives from a tile for STATUS_TIMEOUT. -/
  | tileMissing (k : Fin 65536)
  /-- CONTROL_TX (R286): Writing CONTROL_TX sends its payload to one tile or all at once. -/
  | controlTx (sess : Fin 12) (data : List Byte)
  /-- REF_ENABLE (R297): Writing a candidate's ENABLE 1 checks its source and starts it FAILED. -/
  | refEnable (sess : Fin 12) (n : Fin 12)
  /-- REF_DISABLE (R297): Writing a candidate's ENABLE 0 makes it DISABLED. -/
  | refDisable (sess : Fin 12) (n : Fin 12)
  /-- REF_ACTIVITY_FAIL (R298): A missing edge stops the loop following the candidate and, when the activity check expires, disqualifies it. -/
  | refActivityFail (n : Fin 12) (vertical : Bool) (age : Nat)
  /-- REF_GLITCH (R295): An edge interval outside ±5 % of nominal counts as a glitch. -/
  | refGlitch (n : Fin 12) (interval : Nat)
  /-- MEASUREMENT_INTERVAL_END (R295): At each measurement interval end the rate, drift, window and drift checks are updated. -/
  | measurementIntervalEnd (n : Fin 12) (m : RefMeasure)
  /-- REF_QUALIFIED (R297): The wait-to-restore timer expires and the candidate becomes QUALIFIED. -/
  | refQualified (n : Fin 12)
  /-- REF_SWITCH_DONE (R302): The slew ends, build-out is captured and the loop closes on the target. -/
  | refSwitchDone (phase : Int)
  /-- LOOP_MODE_CHANGE (R314): Writing LOOP_MODE opens, closes or free-runs the loop. -/
  | loopModeChange (sess : Fin 12) (value : Nat)
  /-- STEER_FREQ (R314): Writing STEER_FREQ sets the DCO word in OPEN mode within 1 ms. -/
  | steerFreq (sess : Fin 12) (value : Nat)
  /-- STEER_PHASE (R314): Writing STEER_PHASE shifts the timebase at ALIGN_SLEW. -/
  | steerPhase (sess : Fin 12) (value : Nat)
  /-- FORCE_WRITE (R304): Writing FORCE or REVERTIVE runs selection. -/
  | forceWrite (sess : Fin 12) (revertive : Bool) (value : Nat)
  /-- ALIGN (R310): Writing 1 to ALIGN starts a JUMP or SLEW by the chosen target. -/
  | align (sess : Fin 12)
  /-- ALIGN_END_SLEW (R312): Writing 2 to ALIGN ends an alignment slew where it stands. -/
  | alignEndSlew (sess : Fin 12)
  /-- SET (R313): Writing SET performs a JUMP to SET_S and SET_NS. -/
  | set (sess : Fin 12) (value : Nat)
  /-- FTG_ENABLE (R308): Writing an FTG's ENABLE 1 starts it at the first grid instant at least 1 ms later. -/
  | ftgEnable (sess : Fin 12) (n : Fin 8)
  /-- FTG_DISABLE (R308): Writing an FTG's ENABLE 0 stops it at its next base-frame start. -/
  | ftgDisable (sess : Fin 12) (n : Fin 8)
  /-- FTG_BASE_FRAME_START (R308): An FTG's base frame starts, its counter advances and FP_OUT pulses. -/
  | ftgBaseFrameStart (n : Fin 8)
  /-- PTP_SYNC_RX (R293): A PTP Sync message is time-stamped and feeds the candidate's offset. -/
  | ptpSyncRx (n : Fin 12) (domain sender : Nat) (sync : PtpSync) (delay : Option Int)
  /-- PTP_ANNOUNCE_RX (R293): A PTP Announce message feeds the best master clock algorithm. -/
  | ptpAnnounceRx (n : Fin 12) (a : Announce)
  /-- SAMPLE_FRAME (R323): At each sample instant the matrix moves one sample frame with delays, gains and crossfades. -/
  | sampleFrame (saps : List (Nat × List Int)) (inputs : List (Nat × List (List Int)))
  /-- SAP_ENABLE (R340): Writing a SAP's ENABLE 1 checks its rate and leaves it waiting for its start. -/
  | sapEnable (sess : Fin 12) (n : Fin 8)
  /-- SAP_DISABLE (R343): Writing a SAP's ENABLE 0 stops it. -/
  | sapDisable (sess : Fin 12) (n : Fin 8)
  /-- AUDIO_TRIGGER_START (R340): TRIGGER 1 schedules a common start of the masked endpoints. -/
  | audioTriggerStart (sess : Fin 12)
  /-- AUDIO_TRIGGER_STOP (R341): TRIGGER 2 stops the armed endpoints in reverse order. -/
  | audioTriggerStop (sess : Fin 12)
  /-- SAP_CLOCK_LOST (R339): A slave endpoint's clock stops and its channels carry zero. -/
  | sapClockLost (n : Fin 8)
  /-- SAP_CLOCK_RESTORED (R339): After 1 s within ±500 ppm the port resumes through MUTE_RAMP. -/
  | sapClockRestored (kind num : Nat)
  /-- AUDIO_RATE_WINDOW (R339): Each 1 s window updates MEASURED_RATE and judges rate mismatch and change. -/
  | audioRateWindow (kind num rate : Nat) (pcm : Bool)
  /-- STREAM_PACKET_RX (R327): An ST 2110-30 or -31 packet is merged and held for PLAYOUT. -/
  | streamPacketRx (k : Fin 64) (path : Fin 2) (seq : Nat) (frames : List (List Int))
  /-- STREAM_LOST (R327): A receiver with no packet for 3 packet times carries zero. -/
  | streamLost (k : Fin 64) (path : Fin 2)
  /-- CHANNEL_TABLE_WRITE (R331): A matrix channel entry applies at the next sample frame with the RAMP crossfade. -/
  | channelTableWrite (sess : Fin 12) (data : List Byte)
  /-- STREAM_TABLE_WRITE (R327): A stream entry enables or changes a receiver or sender. -/
  | streamTableWrite (sess : Fin 12) (data : List Byte)
  /-- HEAD_MAP_WRITE (R328): A HEAD_MAP transfer sets the embedded channels of heads. -/
  | headMapWrite (sess : Fin 12) (data : List Byte)
  /-- MATRIX_RATE_WRITE (R324): Writing MATRIX_RATE while every endpoint is disabled sets the sample grid. -/
  | matrixRateWrite (sess : Fin 12) (den : Bool) (value : Nat)
  /-- SCAN_MIB_WRITE (R349): Writing SCAN_MIB or STAGE_MIB stages partition sizes for the next entry to RUN. -/
  | scanMibWrite (sess : Fin 12) (stage : Bool) (value : Nat)
  /-- STORE_ECC_ERROR (R351): A store-tier SEC-DED error is corrected or handled by partition. -/
  | storeEccError (w : StoreWord) (double : Bool)
  /-- DRAM_ECC_ERROR (R358): A DRAM SEC-DED error is corrected, rebuilt from parity or read as zero. -/
  | dramEccError (w : DramWord) (double : Bool)
  /-- DRAM_ROW_REMAPPED (R357): A row's background copy completes and the row is redirected. -/
  | dramRowRemapped (m : Fin 24) (row : Nat)
  /-- DRAM_SLEEP_CYCLE (R362): A power-down cycle starts and all channels wake. -/
  | dramSleepCycle (cause : DramWake)
  /-- DRAM_RECENTRE (R360): Every 100 ms each channel recentres its timing. -/
  | dramRecentre (failed : List Nat)
  /-- DRAM_TRAINED (R360): DRAM training, from stored results or full, completes. -/
  | dramTrained (identity : Nat) (verified : Bool) (failed : List (Fin 24))
  /-- POCKET_ENABLE (R365): Writing the Pocket ENABLE takes ownership of the drives and brings them up. -/
  | pocketEnable (sess : Fin 12) (value : Nat)
  /-- POCKET_DRIVE_UP (R366): A drive is brought up and the newest valid directory taken. -/
  | pocketDriveUp (k : Fin 2) (d : DriveFound)
  /-- POCKET_DRIVE_DOWN (R372): A drive failing three commands or dropping its link goes FAILED. -/
  | pocketDriveDown (k : Fin 2) (link : Bool) (status : Nat)
  /-- CAPTURE_START (R370): CAP_COMMAND 1 allocates extents and starts capture from the next frame. -/
  | captureStart (sess : Fin 12) (k : Fin 2)
  /-- CAPTURE_STOP (R370): CAP_COMMAND 2 ends the capture at the next frame boundary. -/
  | captureStop (sess : Fin 12) (k : Fin 2)
  /-- CAPTURE_FRAME_WRITTEN (R370): A captured frame's writes complete, or the capture stops when full or 2 frames behind. -/
  | captureFrameWritten (k : Fin 2) (done : Bool)
  /-- CAPTURE_CHECKPOINT (R370): Every DIR_CHECKPOINT frames a Flush is issued and FRAMES updated. -/
  | captureCheckpoint (k : Fin 2)
  /-- POCKET_FLUSH (R371): A recorder's Flush after the write floor completes. -/
  | pocketFlush (k : Fin 2)
  /-- CLIP_DELETE (R371): Writing CLIP_DELETE frees a clip's entry and extents. -/
  | clipDelete (sess : Fin 12) (value : Nat)
  /-- POCKET_FORMAT (R372): Writing FORMAT erases every clip on the selected drive. -/
  | pocketFormat (sess : Fin 12) (value : Nat)
  /-- UNIT_PERMANENT_FAULT (R383): A unit becomes permanently faulty and is retired and patched. -/
  | unitPermanentFault (kind : Fin 12) (units : List Nat)
  /-- STORE_ROW_SPARED (R383): A store-tier row or bank's background copy to its spare completes. -/
  | storeRowSpared (bank : Bool) (unit : Nat)
  /-- MESH_LINK_CRC_ERROR (R380): A flit CRC error on a mesh link triggers replay and adds weight. -/
  | meshLinkCrcError (link : Fin 128)
  /-- HOLD_RETIRE_WRITE (R382): Clearing a HOLD_RETIRE bit retires held units at or above threshold. -/
  | holdRetireWrite (sess : Fin 12) (value : Nat)
  /-- SPARE_CHECK (R386): A spare runs its periodic check and is retired if it fails. -/
  | spareCheck (kind : Fin 12) (unit : Nat) (good : Bool)
  /-- PATCH_MAP_CLEAR (R389): Writing CLEAR clears a patch map entry and returns the unit. -/
  | patchMapClear (sess : Fin 12) (value : Nat)
  /-- CLEAR_WEIGHTS (R394): Writing CLEAR_WEIGHTS sets the weights of the selected kinds to 0. -/
  | clearWeights (sess : Fin 12) (value : Nat)
  /-- EXPORT_NONCE (R462): Writing EXPORT_NONCE stages a range of records and seals the export. -/
  | exportNonce (sess : Fin 12) (nonce : List Byte)
  /-- HISTOGRAM_SAMPLE (R465): Each operating second the counters advance and histogram samples accumulate. -/
  | histogramSample (v : LifeSample)
  /-- WRITE_FLOOR_ENTERED (R466): A supply falls below its floor or PWR_FAIL_N asserts and non-volatile writes stop. -/
  | writeFloorEntered (r : Rails)
  /-- WRITE_FLOOR_LEFT (R470): Supplies good for 50 ms resume non-volatile writes in the order of Table 17.4. -/
  | writeFloorLeft (r : Rails)
  /-- SHUTDOWN (R471): Writing SHUTDOWN completes writes, drains, checkpoints and enters FLOOR_STATE 3. -/
  | shutdown (sess : Fin 12) (value : Nat)
  /-- KEY_WRITE (R442): Writing KEY applies the staged slot fields and the key. -/
  | keyWrite (sess : Fin 12) (n : Fin 72) (key : List Byte)
  /-- KEY_ERASE (R454): Writing ERASE empties the slot. -/
  | keyErase (sess : Fin 12) (n : Fin 72) (value : Nat)
  /-- HDCP_KEYS_WRITE (R451): Writing HDCP_KEYS wraps and stores the HDCP key set. -/
  | hdcpKeysWrite (sess : Fin 12) (data : List Byte)
  /-- LIFECYCLE_TARGET (R441): Writing TARGET names the life-cycle state to move to. -/
  | lifecycleTarget (sess : Fin 12) (value : Nat)
  /-- LIFECYCLE_CONFIRM (R441): Writing CONFIRM with the challenge starts the life-cycle transition. -/
  | lifecycleConfirm (sess : Fin 12) (value : Nat)
  /-- PORST_N_RELEASED (R481): PORST_N rises, the straps are sampled and LOAD begins. -/
  | porstNReleased (straps : Fin 4096) (found : LoadFound)
  /-- BIST_DONE (R485): The quick BIST of engines and store tier completes and failing units are retired. -/
  | bistDone (engines : List (Fin 104)) (banks : List (Fin 1088))
  /-- REQUEST_RUN (R487): REQUEST RUN validates every enabled canvas and head and enters RUN. -/
  | requestRun (sess : Fin 12)
  /-- REQUEST_STANDBY (R483): REQUEST STANDBY moves RUN or SAFE to STANDBY. -/
  | requestStandby (sess : Fin 12)
  /-- REQUEST_SAFE (R491): REQUEST SAFE stops composition without a reset. -/
  | requestSafe (sess : Fin 12)
  /-- RESET (R495): Writing RESET resets the device as PORST_N after the response. -/
  | reset (sess : Fin 12) (value : Nat)
  /-- FULL_BIST (R494): Writing FULL_BIST in TEST starts a complete memory and engine test. -/
  | fullBist (sess : Fin 12) (value : Nat)
  /-- FULL_BIST_DONE (R494): The full BIST completes and reports failures without retiring units. -/
  | fullBistDone (failures : List (Nat × Nat))
  /-- ECHO_RECEIVER_RELOCK (R380): An echo receiver that lost lock regains lock on its pad's signal, ECHO_STATE returns to locked and the head's checks resume. -/
  | echoReceiverRelock (h : Fin 32) (unit : Fin 68)
  /-- STORE_BANK_PARITY_ERROR (R380): A store-tier bank detects an address or control parity error, repeats the access once and adds weight to the bank. -/
  | storeBankParityError (bank : Fin 1088)
  /-- DRAM_CHANNEL_PARITY_ERROR (R380): A DRAM channel detects a command or address parity error or an unanswered access, repeats the access up to 3 times and adds weight to the channel. -/
  | dramChannelParityError (m : Fin 24)
  /-- MRAM_WRITE_VERIFY_FAILURE (R380): An MRAM sector fails write verify or has an ECC error, is rewritten up to 2 times, and on a third failure or an uncorrectable read is moved to a spare sector. -/
  | mramWriteVerifyFailure (sector : Fin 2112) (fault : MramFault)
  /-- SLAVE_SAP_FRAME (R337): A clock-slave SAP's FSYNC frames a sample frame at its pins, which enters or leaves the 64-frame elastic buffer, with overrun or underrun handled on whole frames. -/
  | slaveSapFrame (n : Fin 8) (samples : List Int)
  /-- SPI_FETCH (R417): A FETCH frame returns the status, abort, detail and data of the outstanding request. -/
  | spiFetch
  /-- CAP_PIN_FAULT (R42): With no valid PWM for 100 ms the pin cap becomes 60 W. -/
  | capPinFault
  /-- MGMT_HALT_APPLY (R86): A written HALT field of MANAGEMENT takes effect 100 ms after its response. -/
  | mgmtHaltApply
  /-- COMMIT_ACKNOWLEDGED (R130): Validation completes and the set enters the scope's pending set or is refused. -/
  | commitAcknowledged
  /-- PTL_REKEY (R282): At the 9th frame the new salt is used and KEY_EPOCH increments. -/
  | ptlRekey
  /-- HEARTBEAT (R286): A HEARTBEAT is sent on every PTL port each HEARTBEAT_INTERVAL. -/
  | heartbeat
  /-- HENTIS_LOCKED (R300): Phase and frequency error stay within bounds for 10 time constants and Hentis becomes LOCKED. -/
  | hentisLocked
  /-- HENTIS_LOST (R300): Time in holdover reaches LIMIT and Hentis becomes LOST. -/
  | hentisLost
  /-- HOLDOVER_HISTORY_APPEND (R305): Each second the mean DCO word is appended to the history ring. -/
  | holdoverHistoryAppend
  /-- ALIGN_JUMP (R311): At the next base-frame start of the slowest FTG the timebase jumps and frames lengthen. -/
  | alignJump
  /-- ALIGN_DONE (R312): An alignment slew has removed its step. -/
  | alignDone
  /-- AUD_START_ASSERTED (R340): AUD_START stable for 10 µs schedules a common start. -/
  | audStartAsserted
  /-- AUDIO_STARTED (R340): At the start instant clocks run, zero frames then ramped data follow. -/
  | audioStarted
  /-- DRAM_IDLE_SLEEP (R362): Channels sleep once no request has been queued for IDLE_TIMER. -/
  | dramIdleSleep
  /-- FAULT_WEIGHT_DECAY (R381): A full operating hour without a decrement lowers a unit's weight by 1. -/
  | faultWeightDecay
  /-- PATROL_PASS_DONE (R390): A patrol scrub pass over every memory completes. -/
  | patrolPassDone
  /-- CHECKPOINT (R464): Every 600 operating seconds the lifetime counters, histograms and weights are written to MRAM. -/
  | checkpoint
  /-- HISTOGRAM_FLUSH (R465): A histogram flush adds the accumulators to the bins. -/
  | histogramFlush
  /-- KEY_COMMITTED (R445): A key's wrapped copy is committed in MRAM and the slot becomes usable. -/
  | keyCommitted
  /-- LIFECYCLE_CHANGED (R441): A life-cycle transition completes and every session drops to base rights. -/
  | lifecycleChanged
  /-- TAMPER_N_ASSERTED (R448): TAMPER_N asserted for 1 µs starts zeroisation. -/
  | tamperNAsserted
  /-- SUPPLY_GLITCH (R448): A VCTL or VNVM glitch while the detector is armed starts zeroisation. -/
  | supplyGlitch
  /-- TAMPER_TEMPERATURE (R448): Die temperature outside −55 to 125 °C for 10 ms starts zeroisation. -/
  | tamperTemperature
  /-- KEY_OVERWRITE_DONE (R448): Above the write floor the MRAM copies of all slots are overwritten and slots become EMPTY. -/
  | keyOverwriteDone
  /-- TAMPER_CAP_LOW (R448): TAMPER_CAP_OK falls to 0. -/
  | tamperCapLow
  /-- PORST_N_ASSERTED (R483): PORST_N low resets the device and clears all volatile state. -/
  | porstNAsserted
  /-- LOAD_DONE (R484): LOAD completes and the device enters STANDBY, RECOVERY or TEST with the dictionary available. -/
  | loadDone
  /-- AUTO_RUN (R488): Once the AUTO_RUN_WAIT condition is met the device requests RUN by itself. -/
  | autoRun
  /-- AUTO_RUN_TIMEOUT (R488): AUTO_RUN_TIMEOUT passes without the condition and RUN is requested anyway. -/
  | autoRunTimeout
  /-- SAFE_ENTERED (R483): The hottest sensor at or above SAFE_TEMP for 1 s enters SAFE. -/
  | safeEntered
  /-- THERMTRIP (R507): A sensor at 115 °C asserts THERMTRIP_N and stops the core. -/
  | thermtrip
  /-- HOLDOVER_SLEW_DONE (R306): The DCO word reaches the holdover value after its slew at SLEW_LIMIT and is then held. -/
  | holdoverSlewDone
deriving DecidableEq, Repr

end Sys2Proof
end

