-- ==== Sys2Proof/Decode.lean ====
section
/-! DEFINITION. The decoder.  No row of spec/opcode_table.json gives bits: the BX6480 takes accesses and
events, not words, so no word spells a command. -/
namespace Sys2Proof

/-- The command that a word spells by the bits of the table: none, since no row gives any. -/
def decodeTableWord (_nbits _w : Nat) : Option Instr := none

end Sys2Proof
end

