-- ==== Sys2Proof/Config.lean ====
section
/-! DEFINITION. What one device fixes and the spec leaves open: constants without a value.  Nothing in
Lean can evaluate one or prove a value of it; each is named in the assumption log. -/
namespace Sys2Proof.Config

/-- The device's own numbers, by place: 0 vendor ID, 1 revision and 2 serial number of 0x1018, 3 PCI
vendor ID (R91, R409). -/
opaque deviceNumber : Nat → Nat
/-- The device's base MAC address (R87). -/
opaque baseMac : Nat
/-- The silicon revision in IDCODE, and Novymal's JEDEC manufacturer identity there: not stated (R509, log 56). -/
opaque siliconRevision : Nat
opaque jedecIdentity : Nat
/-- The code of a JTAG instruction, 0 BYPASS, 1 IDCODE, 2 boundary scan, 3 a test instruction, and how many bits an
instruction has, less 2: IEEE 1149.1 leaves both to the device (R509, log 56). -/
opaque jtagCode : Nat → Nat
opaque jtagLength : Nat
/-- Number of boundary cells, and what cell `n` captures of its ball's level; bits and contents of a test instruction's
data register: not stated (R509, log 56). -/
opaque boundaryCells : Nat
opaque boundaryLevel : Nat → Bool
opaque testBits : Nat
opaque testData : Nat → Bool
/-- The MAC address of the management Ethernet: no entry gives one (R413, log 56). -/
opaque mgmtMac : Nat
/-- INDEX and SUB in the header of an EVENT datagram, as index * 256 + sub: not stated (R416, log 34). -/
opaque eventEntry : Nat
/-- Parameter B of RIGHTS_DROPPED and SESSION_CLOSED at a reset: their causes name none (R404, log 49). -/
opaque resetCause : Nat
/-- What a read of MB_GO gives: not stated (R418, log 34). -/
opaque goReads : Nat
/-- The silicon revision that 0x1009 reads (R409). -/
opaque hwVersion : List Byte
/-- The dictionary revision that 0x100A reads (R409). -/
opaque swVersion : List Byte
/-- The random source: draw number `n`, byte `k` (R402, R441, R282). -/
opaque randomByte : Nat → Nat → Byte
/-- The work rate of FAB that follows from a demand, both in 1/24 layer-samples/s: the spec gives no
formula for the flit traffic of R38 (log 3). -/
opaque fabricWork : Nat → Nat
/-- The target pace of FAB in Q16.16 that follows from a demand: not stated (log 3). -/
opaque fabTarget : Nat → Nat
/-- Power in mW of one more U-lane, D-lane, port or DRAM channel on the rails outside the adaptive islands, by kind: not
stated (R40, log 3). -/
opaque linkPower : Nat → Nat
/-- By how many 5 mV steps an AVS loop raises the voltage for a ring pace and a target, less 1; at most 8
steps are taken (R34, log 4). -/
opaque avsRaise : Nat → Nat → Nat
/-- Number in bits 7:0 of a management interface in events: 0 the management Ethernet, 1 PMBus; the spec
numbers only CAN (R92, log 5). -/
opaque interfaceNumber : Nat → Nat
/-- Power in mW of a background work of Table 2.7 while it runs: not stated (log 3). -/
opaque backgroundPower : Nat → Nat
/-- Whether a number that is not whole is rounded up, where the spec states no rounding; by place, numerator and
denominator.  Places: 1 3D LUT, 2 gamut matrix, 3 key luma, 4 displaced reads, 5 step 1 of R173, 6 leakage factor,
7 the smoothed frame time, 8 pre-decimation, 9 a gain in a ramp or crossfade, 10 a sample under a gain, 11 a sample
narrowed to fewer bits, 12 an entry of a curve, 13 a coefficient of a fixed bank, 14 a coefficient of BT.2087, 15 a gain in
dB, 16 a gain of an equal-power crossfade (log 6). -/
opaque roundUp : Nat → Int → Nat → Bool
/-- Byte `i` of root `k`, 1 ROOT-P, 2 ROOT-F, 3 ROOT-S: per-device random values of 32 bytes that nothing reads out (R436,
log 30). -/
opaque rootByte : Nat → Nat → Byte
/-- ST 2110-20 packets that an IP video frame of so many pixels takes: the spec gives no packet size (R246, log 39). -/
opaque ipPackets : Nat → Nat
/-- Whether a head is opaque, so that its P32D buffer takes alpha 0b11: the spec does not say which heads are
(R8, R212, log 60). -/
opaque opaqueHead : Nat → Bool
/-- Total lines of an input's raster for its active lines: the descriptor gives the active ones only, and
R106 measures in line periods (log 9). -/
opaque totalLines : Nat → Nat
/-- What a write-back buffer holds after its composition was discarded, by draw and byte (R210, log 10). -/
opaque discardedByte : Nat → Nat → Byte
/-- Whether a value halfway between two codes rounds up, by place, numerator and denominator: the spec says
"to nearest" (R244, log 6). -/
opaque tieUp : Nat → Int → Nat → Bool

/-- Whether a raster, by active and total pixels and lines and its frame period as a fraction, is one that the
single-link SDI mappings define at an SDI_RATE code: the standards are named, not restated (R245, log 12). -/
opaque sdiRaster : Nat → Nat → Nat → Nat → Nat → Nat → Nat → Bool

/-- Packets that the receive buffer of an IP input holds out of order, by RX_TIMING: not stated (R96, log 70). -/
opaque receiveBuffer : Nat → Nat
/-- Whether the receive buffer of an input with RX_TIMING 0 overflows at a packet that a type W sender sends in a burst, by
time and sequence number: it may (R96, log 70). -/
opaque bufferOverflows : Nat → Nat → Bool
/-- Whether lines lost from a LOCKED frame show HOLE whatever NOT_READY says, as R206 has it, or as the policy directs, as
R110 has it: the two rules differ (log 70). -/
opaque lostLinesHole : Bool
/-- Whether CHANNEL_STATE shows a lost channel whose group still rebuilds its data as 2 rebuilding or as 3 lost: no rule says
(R359, R374, log 72). -/
opaque rebuildingShown : Nat → Bool

/-- The CRC-32 computed over an Overcoat image with an uncorrectable word, by image and time: what the word reads as is not
stated (R229, R351, log 72). -/
opaque faultCrc : Nat → Nat → Nat

/-- The fixed 4-tap filter that interpolates chroma at ingest, by transport and the four neighbours: its
coefficients are not stated (R100, log 20). -/
opaque chromaFilter : Nat → List Nat → Nat

/-- What CALIB carries as entry `i` of the curve of a tile that names no curve: not stated (R286, log 23). -/
opaque noCurve : Nat → Nat
/-- Address that CONTROL to a tile takes where no entry in force names that tile on the port: not stated (R266,
R286, log 23). -/
opaque unknownMac : Nat → Nat

/-- How long in ns a change holds CLK_OUT low, by pin and time: at most 10 µs, which the model keeps to (R309, log 24). -/
opaque clkHold : Nat → Nat → Nat
/-- The filtered PTP offset in ns from its last value and a sample: the filter is not stated (R293, R295, log 24). -/
opaque ptpFilter : Int → Int → Int

/-- What a saved copy takes beyond the bytes of its tables, for so many scalars, table entries and runs of equal
pixels: R406 gives no layout (log 32). -/
opaque copyOverhead : Nat → Nat → Nat → Nat
/-- MRAM writes that a sector has had by the checkpoint of a number: R465 counts them, and no rule says where in MRAM a
structure lies (log 31). -/
opaque sectorWrites : Nat → Nat → Nat

end Sys2Proof.Config
end

