-- ==== Sys2Proof/Machine/Bits.lean ====
section
/-! DEFINITION. Bit fields, byte order, fixed point and the two CRCs of the spec. -/
namespace Sys2Proof.Machine
open Sys2Proof

/-- Bits `hi:lo` of a number. -/
def field (v hi lo : Nat) : Nat := v / 2 ^ lo % 2 ^ (hi + 1 - lo)

/-- Bit `k` of a number. -/
def bit (v k : Nat) : Bool := v / 2 ^ k % 2 == 1

/-- `v` with bit `k` set or cleared. -/
def putBit (v k : Nat) (b : Bool) : Nat :=
  match bit v k, b with
  | false, true => v + 2 ^ k
  | true, false => v - 2 ^ k
  | _, _ => v

/-- The bits of `v` set among bits 0 to `n - 1`, lowest first. -/
def bitsSet (v n : Nat) : List Nat := (List.range n).filter (bit v)

/-- How many of bits 0 to `n - 1` are set. -/
def popCount (v n : Nat) : Nat := (bitsSet v n).length

/-- A list of bit numbers as a mask. -/
def maskOf (l : List Nat) : Nat := l.foldl (fun m k => putBit m k true) 0

/-- The two's complement value of the low `w` bits of `v` (R6). -/
def signed (w v : Nat) : Int :=
  let u := v % 2 ^ w
  if u < 2 ^ (w - 1) then (u : Int) else (u : Int) - 2 ^ w

/-- The low `w` bits of an integer in two's complement (R6). -/
def unsigned (w : Nat) (i : Int) : Nat := (i % (2 ^ w : Nat)).toNat

/-- `n` bytes of `v`, least significant first (R4, R397). -/
def leBytes : Nat → Nat → List Byte
  | 0, _ => []
  | n + 1, v => BitVec.ofNat 8 v :: leBytes n (v / 256)

/-- `n` bytes of `v`, most significant first (R4). -/
def beBytes (n v : Nat) : List Byte := (leBytes n v).reverse

/-- The number that bytes spell, least significant first (R4, R397). -/
def leNat : List Byte → Nat
  | [] => 0
  | b :: bs => b.toNat + 256 * leNat bs

/-- The number that bytes spell, most significant first (R4). -/
def beNat (bs : List Byte) : Nat := leNat bs.reverse

/-- The little-endian number in bytes `off` to `off + n - 1`. -/
def leAt (bs : List Byte) (off n : Nat) : Nat := leNat ((bs.drop off).take n)

/-- The number in bytes `off` to `off + n - 1` in network order (R4). -/
def beAt (bs : List Byte) (off n : Nat) : Nat := beNat ((bs.drop off).take n)

/-- Byte `off` as a number; 0 past the end. -/
def byteAt (bs : List Byte) (off : Nat) : Nat := ((bs[off]?).getD 0).toNat

/-- `n` bytes of zero. -/
def zeros (n : Nat) : List Byte := List.replicate n 0

/-- A DOMAIN with the bytes at `off` replaced. -/
def patchBytes (bs : List Byte) (off : Nat) (new : List Byte) : List Byte :=
  bs.take off ++ new ++ bs.drop (off + new.length)

/-- Eight bytes from the start of their codeword at `a` read as zero (R358). -/
def blankWord (l : List Byte) (a : Nat) : List Byte :=
  if a / 8 * 8 < l.length then patchBytes l (a / 8 * 8) (zeros (min 8 (l.length - a / 8 * 8))) else l

/-- ASCII text as bytes, without a terminator (R397, R402). -/
def ascii (t : String) : List Byte := t.toList.map (fun c => BitVec.ofNat 8 c.toNat)

/-- Cut a list into pieces of `n`, the last one perhaps shorter; `fuel` bounds the pieces. -/
def chunks (n : Nat) : Nat → List α → List (List α)
  | 0, _ => []
  | _, [] => []
  | fuel + 1, l => l.take n :: chunks n fuel (l.drop n)

/-- One bit of CRC-16/CCITT, polynomial 0x1021 (R417, R457). -/
def crc16Bit (c : Nat) : Nat :=
  if bit c 15 then (c * 2 % 0x10000) ^^^ 0x1021 else c * 2 % 0x10000

/-- One byte of CRC-16/CCITT. -/
def crc16Byte (c : Nat) (b : Byte) : Nat :=
  crc16Bit (crc16Bit (crc16Bit (crc16Bit (crc16Bit (crc16Bit (crc16Bit (crc16Bit
    (c ^^^ (b.toNat * 256)))))))))

/-- CRC-16/CCITT, polynomial 0x1021, preset 0xFFFF, no final inversion (R417, R457). -/
def crc16 (bs : List Byte) : Nat := bs.foldl crc16Byte 0xFFFF

/-- One bit of the reflected CRC-32. -/
def crc32Bit (c : Nat) : Nat :=
  if bit c 0 then (c / 2) ^^^ 0xEDB88320 else c / 2

/-- One byte of the reflected CRC-32. -/
def crc32Byte (c : Nat) (b : Byte) : Nat :=
  crc32Bit (crc32Bit (crc32Bit (crc32Bit (crc32Bit (crc32Bit (crc32Bit (crc32Bit
    (c ^^^ b.toNat))))))))

/-- CRC-32 of IEEE 802.3: reflected, preset and final inversion of all ones (R213, R249). -/
def crc32 (bs : List Byte) : Nat := (bs.foldl crc32Byte 0xFFFFFFFF) ^^^ 0xFFFFFFFF

/-- A number limited to the greatest value of `w` bits. -/
def saturate (w v : Nat) : Nat := min v (2 ^ w - 1)

/-- Division rounded up. -/
def ceilDiv (a b : Nat) : Nat := (a + b - 1) / b

/-- KiB of the whole 4 KiB stripes that a buffer of the store tier takes (R348). -/
def stripeKib (bytes : Nat) : Nat := 4 * ceilDiv bytes 4096

/-- Nearest integer, halves away from zero, of `a / b` for a positive `b`. -/
def roundDiv (a : Int) (b : Nat) : Int :=
  if 0 ≤ a then (2 * a + b) / (2 * b) else -((2 * (-a) + b) / (2 * b))

/-- `a / b` where the spec states no rounding: the quotient where it is whole, else one of the two whole numbers next to
it, which is left free (log 6). -/
def nearby (place : Nat) (a : Int) (b : Nat) : Int :=
  if a % b = 0 then a / b else a / b + (Config.roundUp place a b).toNat

/-- An integer limited to `lo` to `hi`. -/
def clampInt (lo hi x : Int) : Int := if x < lo then lo else if hi < x then hi else x

/-- Whether a number is a power of two. -/
def isPow2 (v : Nat) : Bool := v != 0 && v &&& (v - 1) == 0

/-- Two rates compared by cross-multiplication (R16). -/
def rateEq (n1 d1 n2 d2 : Nat) : Bool := n1 * d2 == n2 * d1

/-- An element put in its place in a list ordered by `before`. -/
def insertBy (before : α → α → Bool) (a : α) : List α → List α
  | [] => [a]
  | b :: l => if before a b then a :: b :: l else b :: insertBy before a l

/-- A list put in order. -/
def sortBy (before : α → α → Bool) (l : List α) : List α := l.foldr (insertBy before) []

end Sys2Proof.Machine
end

