-- ==== Sys2Proof/Machine/State.lean ====
section
/-! DEFINITION. The state of the BX6480 as plain data, its faults and refusals, and the state at
power-on.  Every scalar dictionary register lives in `State.regs` (one key per index and sub-index);
everything the rules of the spec keep behind the dictionary has a field of its own below. -/
namespace Sys2Proof.Machine
open Sys2Proof

/-- A table held sparsely: keys strictly rising, no entry equal to what an unlisted key reads as.
The reading of an unlisted key is given where the table is read (`Machine/Store.lean`). -/
abbrev Store (α : Type) := List (Nat × α)

/-- The ways the model stops with a fault.  No rule of the spec stops the BX6480 with an error that
its interface does not report, so no meaning raises one. -/
inductive Fault where
  /-- Raised by no meaning; kept so that the type is inhabited.  Safe: it only stops. -/
  | unreachable
deriving DecidableEq, Repr

/-- The ways the model declines a command. -/
inductive Refusal where
  /-- A command whose meaning is not written; raised by `exec` alone.  Safe: nothing is claimed. -/
  | notModelled (mnemonic : String)
deriving DecidableEq, Repr

/-- Session rights, lowest to highest (R398). -/
inductive Rights where
  | none | operator | integrator | service
deriving DecidableEq, Repr

/-- One event queue entry, Table 14.10 (R421). -/
structure Ev where
  seq : Nat
  code : Nat
  source : Nat
  severity : Nat
  recorded : Bool
  timeS : Nat
  timeNs : Nat
  paramA : Nat
  paramB : Nat
deriving DecidableEq, Repr

/-- One recorder record, Table 17.1 (R457); its CRC is computed when its bytes are formed. -/
structure Rec where
  seq : Nat
  code : Nat
  source : Nat
  severity : Nat
  deferred : Bool
  saturated : Bool
  synthesised : Bool
  firstS : Nat
  cycles : Nat
  rep : Nat
  paramA : Nat
  paramB : Nat
  lastS : Nat
  /-- False for a slot whose stored CRC does not hold (torn, R460). -/
  intact : Bool
deriving DecidableEq, Repr

/-- The event queue, the recorder and the event outputs (chapters 14 and 17): all that raising an
event changes. -/
structure EventLog where
  /-- Newest first, at most 32,768 entries (R421). -/
  queue : List Ev
  /-- Sequence of the next queue entry, 32 bits, wrapping (R421). -/
  nextSeq : Nat
  /-- The MRAM ring, newest first, at most 32,768 records (R459). -/
  ring : List Rec
  /-- Sequence of the next record, continuing across resets (R459). -/
  nextRec : Nat
  /-- The journal: slot and record of the last ring write (R460). -/
  journal : List (Nat × Rec)
  /-- Records queued below the write floor, oldest first, at most 256 (R469). -/
  deferred : List Rec
  /-- MERGES (R458). -/
  merges : Nat
  /-- DROPPED (R469). -/
  dropped : Nat
  /-- Records lost since the floor was entered, and the highest severity lost (R469). -/
  lostNow : Nat
  lostSeverity : Nat
  /-- TORN (R460). -/
  torn : Nat
  /-- Whether the queue holds EVT_N asserted (R423). -/
  evtN : Bool
  /-- Vectors fired, newest first; the MSI-X table by its dwords, and the vectors whose pending bit is set (R419, R420). -/
  fired : List Nat
  msix : Store Nat
  msixPending : List Nat
  /-- Entries copied to the host ring, newest first (R424). -/
  hostRing : List Ev
  hostProducer : Nat
  hostConsumer : Nat
  hostDropped : Nat
  /-- EMCY messages sent, newest first: interface and bytes (R412). -/
  emcy : List (Nat × List Byte)
  /-- Time of the last EMCY of each interface plus 1, 0 none (R412). -/
  emcyAt : Store Nat
  /-- Entries that found no room in the host ring and wait for a descriptor read, oldest first (R424). -/
  hostWaiting : List Ev
  /-- Entries sent in EVENT datagrams, with the session and its own sequence, newest first (R416). -/
  udpEvents : List (Nat × Nat × Ev)
  /-- Next sequence of a session's EVENT datagrams, less 1 (R416). -/
  udpSeq : Store Nat
deriving DecidableEq, Repr

/-- One open DOMAIN transfer of a session (R400 check 7, R413). -/
structure Transfer where
  index : Nat
  sub : Nat
  data : List Byte
  /-- Time of its last segment (R413). -/
  at_ : Nat
deriving DecidableEq, Repr

/-- A UDP request that waits for its answer: operation, sequence, entry, and what goes before the data of the answer
(R413, R416). -/
structure Asked where
  op : Nat
  seq : Nat
  index : Nat
  sub : Nat
  lead : List Byte
deriving DecidableEq, Repr

/-- What is held once per session (R399, R401 to R404, R413 to R416, R426, R427). -/
structure Sess where
  rights : Rights
  /-- Whether the session is open; CAN, SPI and PCIe sessions always are (R401). -/
  isOpen : Bool
  /-- AUTH_SLOT, AUTH_RIGHTS and CLIENT_NONCE as the session wrote them, and the DEVICE_NONCE drawn for it (R402). -/
  authSlot : Nat
  authRights : Nat
  clientNonce : List Byte
  deviceNonce : List Byte
  /-- Whether DEVICE_NONCE may still serve a PROOF (R402). -/
  nonceFresh : Bool
  /-- DEVICE_PROOF of the last grant (R402). -/
  deviceProof : List Byte
  /-- The slot that granted the rights, 0xFF none (R404). -/
  grantSlot : Nat
  /-- Failures in a row (R403). -/
  failures : Nat
  /-- Proofs are refused until this time, 0 none (R403). -/
  lockedUntil : Nat
  /-- Session values of LAST_REFUSAL, subs 01 to 0A (R427). -/
  refIndex : Nat
  refSub : Nat
  refAbort : Nat
  refDetail : Nat
  refFieldIndex : Nat
  refFieldSub : Nat
  refEntry : Nat
  refTimeS : Nat
  refTimeNs : Nat
  refCount : Nat
  /-- CURSOR, MIN_SEVERITY and LOST of EVENT_QUEUE (R399, R422). -/
  cursor : Nat
  minSeverity : Nat
  lost : Nat
  /-- The session's copies of the window entries, by register key (R399). -/
  windows : Store Nat
  /-- The block transfer open on the session (R400). -/
  transfer : Option Transfer
  /-- A block read in progress: the data read when it began, with what of it has gone (R413). -/
  reading : Option Transfer
  /-- UDP: key, last sequence served, cached response, source address, last activity (R413 to R416). -/
  ks : List Byte
  lastSeq : Nat
  cached : List Byte
  sourceAddr : Nat
  lastAt : Nat
  /-- UDP requests that wait for their answers, oldest first. -/
  asked : List Asked
  /-- UDP subscription: minimum severity, 0xFF none (R416). -/
  subSeverity : Nat
deriving DecidableEq, Repr

/-- The response of the access last made on a session. -/
structure Response where
  sess : Nat
  abort : Nat
  detail : Nat
  data : List Byte
  more : Bool
deriving DecidableEq, Repr

/-- An NVMe command that a drive is given (R365, R366): admin commands to Identify it, ask for I/O queue pairs, enable the
volatile write cache, create or delete a queue pair of a depth, and format to a block size; I/O commands that read blocks,
write bytes from a block on, write a copy of the clip directory with its generation and CRC-32 from a block on, and flush. -/
inductive NvmeOp where
  | identify
  | setQueues (n : Nat)
  | setWriteCache (on : Bool)
  | createQueue (q depth : Nat)
  | deleteQueue (q : Nat)
  | formatNvm (blockSize : Nat)
  | read (block count : Nat)
  | write (block : Nat) (data : List Byte)
  | directory (block generation crc : Nat) (entries : List Byte)
  | flush
deriving DecidableEq, Repr

/-- What the present command put on the pins. -/
inductive WireItem where
  /-- The answer to an access (R400, R413, R417, R418). -/
  | response (r : Response)
  /-- A frame or datagram sent on an interface: kind, number, bytes. -/
  | packet (kind num : Nat) (bytes : List Byte)
  /-- One raster line or burst of pixel codes sent by a head: head, line, codes. -/
  | pixels (head line : Nat) (codes : List Nat)
  /-- A side-band or control action: kind, number, value (HPD drive, voltage command, FP pulse ...). -/
  | pin (kind num value : Nat)
  /-- Audio samples leaving an endpoint: kind, number, samples. -/
  | audio (kind num : Nat) (samples : List Int)
  /-- The clocks that a master SAP drives for one sample frame: MCLK in Hz, 0 where MCLK_OUT keeps it off, BCLK in Hz, whether
  data are launched on its rising edge, and the level of FSYNC in each BCLK cycle from the first bit of slot 0 (R335, R336). -/
  | clocks (num mclk bclk : Nat) (inverse : Bool) (fsync : List Bool)
  /-- A command to an NVMe drive (R365). -/
  | nvme (drive : Nat) (op : NvmeOp)
  /-- Bytes written to host memory over PCIe: address, bytes (R424). -/
  | host (address : Nat) (bytes : List Byte)
  /-- An IGMPv3 report by which a port joins a multicast group, from a source or, with 0, from any (R96, R147). -/
  | join (port group source : Nat)
deriving DecidableEq, Repr

/-- The SPI target's outstanding request (R417): 0 none, 1 busy, 2 done, 3 refused; the index it names. -/
structure SpiPort where
  status : Nat
  index : Nat
  abort : Nat
  detail : Nat
  data : List Byte
deriving DecidableEq, Repr

/-- The BAR0 mailbox registers of Table 14.8 (R418). -/
structure Mailbox where
  op : Nat
  address : Nat
  length : Nat
  offset : Nat
  value : Nat
  status : Nat
  abort : Nat
  detail : Nat
  receipt : Nat
  data : List Byte
deriving DecidableEq, Repr

/-- One CANopen interface (R409 to R411). -/
structure CanNode where
  /-- 0 boot-up not sent, 4 Stopped, 5 Operational, 127 Pre-operational. -/
  nmt : Nat
  heartbeatAt : Nat
  /-- Synchronous RPDOs waiting for SYNC: PDO number and payload, oldest first. -/
  pendingRpdo : List (Nat × List Byte)
  /-- Per TPDO: last values sent, time sent, SYNC count. -/
  tpdoLast : Store (List Byte)
  tpdoAt : Store Nat
  tpdoSync : Store Nat
  /-- When it last went bus-off (R83). -/
  offAt : Nat
deriving DecidableEq, Repr

/-- A saved configuration copy in MRAM (R405, R406). -/
structure SavedCopy where
  valid : Bool
  generation : Nat
  regs : Store Nat
  doms : Store (List Byte)
  /-- MIN_SEVERITY of the session that saved (R399). -/
  minSeverity : Nat
  /-- The saved tables: routes, tile map, calibration, coefficient banks, LUTs, 3D LUTs, images, channels and streams
  (R405). -/
  routes : Store (List Byte)
  tileMap : Store (List Byte)
  calib : Store (List Byte)
  banks : Store (List Byte)
  luts : Store (List Byte)
  luts3d : Store (List Byte)
  imageDesc : Store (List Byte)
  imageData : Store (List Byte)
  imageCrc : Store Nat
  channelTable : Store (List Byte)
  streamTable : Store (List Byte)
deriving DecidableEq, Repr

/-- One governor yield in force (R45, R48, R60): `fits` counts consecutive fitting ticks, `ceiling` says that it was made
for the thermal limit and not for the cap (Table 2.5). -/
structure Yield where
  step : Nat
  kind : Nat
  item : Nat
  saving : Nat
  fits : Nat
  ceiling : Bool
deriving DecidableEq, Repr

/-- The work governor and the AVS loops (chapter 2). -/
structure Gov where
  /-- Yields in force, most recent first (R48). -/
  yields : List Yield
  /-- Thermal limit in mW while it applies (R43). -/
  thermal : Option Nat
  /-- Whether the limit is exceeded with every yield applied (R49). -/
  breach : Bool
  /-- The CAP_EXCEEDED condition (R49). -/
  capExceeded : Bool
  /-- Islands now at their pace ceiling (R35). -/
  ceilings : List Nat
  /-- Time of the last tick (R36). -/
  lastTick : Nat
  /-- Base frame of the tick FTG whose latch tick has run, plus 1 (R36). -/
  latchTick : Nat
  /-- PWR_BUDGET pin cap in W, its fault and the last valid cap (R42, R504). -/
  pinCap : Nat
  pinFault : Bool
  pinLast : Nat
  /-- When PWR_BUDGET was last measured valid (R42). -/
  pwmAt : Nat
  /-- Per island: successive failed AVSBus transactions, fault, time of last command plus 1 (R34, R35). -/
  avsFails : Store Nat
  avsFault : Store Bool
  avsAt : Store Nat
  /-- Per island: calibration of k and L_ref in 1/65,536 (R40). -/
  calK : Store Nat
  calL : Store Nat
  /-- Per island: its pace at 0.90 V as last read, plus 1, and when its target last rose, plus 1 (R34, R35). -/
  reachAt : Store Nat
  targetAt : Store Nat
  /-- Flits that the links of FAB (4) and CTL (5) have completed (R30, R33). -/
  flits : Store Nat
  /-- U-lanes, D-lanes, ports and DRAM channels in use at the last tick (R40). -/
  linked : List Nat
  /-- Per canvas: the demand that pending commits will bring (R39). -/
  wanted : Store Nat
  /-- Per background work, nanoseconds deferred in each operating second of the last 24 hours, by work * 2^40 + second,
  whether the work is forced, and whether a forced patrol still owes its pass (R46). -/
  deferred : Store Nat
  forced : Store Bool
  passOwed : Bool
  /-- Per regulator: successive unacknowledged PMBus transactions (R85). -/
  nacks : Store Nat
  /-- Time since when the hottest sensor is at or above SAFE_TEMP plus 1, 0 not (R483). -/
  hotSince : Nat
  /-- Measured power in mW and hottest sensor in 1/16 degrees, as two's complement of 16 bits (R43, R507). -/
  measured : Nat
  dieTemp : Int
deriving DecidableEq, Repr

/-- Engine states of RATIO_TABLE (R59). -/
inductive EngineState where
  | active | lagging | spare | retired | resetting
deriving DecidableEq, Repr

/-- One engine (R51, R55, R59, R186, Table 6.7). -/
structure Engine where
  state : EngineState
  /-- The state a reset returns to (R186). -/
  prior : EngineState
  /-- Pace ratio in 1/4,096 (R55). -/
  ratio : Nat
  /-- Consecutive ticks below 0.35 (R55). -/
  below : Nat
  /-- Work in 1/24 layer-samples and busy ns of the last 64 ticks, newest first, and of the ticks since; the instant up to
  which its busy time is counted (R55). -/
  history : List (Nat × Nat)
  work : Nat
  busy : Nat
  busyTo : Nat
  /-- When its reset began, and why (R186). -/
  resetAt : Nat
  resetCause : Nat
  /-- Its counters: ECC words corrected and not, parity errors, timeouts, resets and strips done (R186, R189). -/
  eccCorrected : Nat
  eccUncorrected : Nat
  parity : Nat
  timeouts : Nat
  resets : Nat
  strips : Nat
deriving DecidableEq, Repr

/-- What a strip computes (R50, R183, R223). -/
inductive StripKind where
  | compose | estimate
deriving DecidableEq, Repr

/-- A copy of a strip on an engine, with its start time (R52). -/
structure Copy where
  engine : Nat
  start : Nat
deriving DecidableEq, Repr

/-- A work strip or chase segment (R50 to R54, R109, R187). -/
structure Strip where
  kind : StripKind
  /-- Canvas, or input for estimation (R183). -/
  owner : Nat
  /-- The slot frame that it composes (R50). -/
  slot : Nat
  /-- Position from left to right, and first line with line count (R50, R109). -/
  index : Nat
  firstLine : Nat
  lines : Nat
  /-- When it is to be complete (R50). -/
  deadline : Nat
  /-- Weighted layer-samples, in units of 1/24 (R32). -/
  work : Nat
  /-- The copies that engines hold (R52). -/
  copies : List Copy
  /-- Copies that should run now, and whether a second copy has been issued since the last retry (R52, R187). -/
  issued : Nat
  reissued : Bool
  /-- Engines that have faulted on it (R187). -/
  faulted : List Nat
  /-- How often it has been abandoned (R187). -/
  abandonments : Nat
  /-- When its first copy was dispatched, the time it is expected to take, and when a second copy is issued (R51, R52). -/
  dispatched : Nat
  expected : Nat
  reissueAt : Nat
  /-- Dispatchable: false while a chase segment waits for source lines (R109). -/
  ready : Bool
  /-- Whether it is complete, and whether its composition has given it up (R53, R187). -/
  done : Bool
  abandoned : Bool
  /-- Put at the head of the queue by a reissue or a retry (R52, R187). -/
  front : Bool
deriving DecidableEq, Repr

/-- One pixel, four 16-bit components (R172). -/
structure Px where
  r : Nat
  g : Nat
  b : Nat
  a : Nat
deriving DecidableEq, Repr

/-- A picture: size and its pixels by y * width + x; an unlisted pixel is all zero. -/
structure Raster where
  width : Nat
  height : Nat
  px : Store Px
deriving DecidableEq, Repr

/-- A stored source frame: its picture, smoothed frame time and arrival (R179). -/
structure Frame where
  number : Nat
  picture : Raster
  arrival : Nat
  time : Nat
deriving DecidableEq, Repr

/-- The vector field of a pair of stored frames: the later frame's number, whether it is complete, whether it
fell back as a whole, and by block its vector in quarter pixels and whether the block fell back (R182);
MOTION_FALLBACK_MAD and MOTION_CUT_FRACTION as its pass took them at its start (R189). -/
structure VectorField where
  pair : Nat
  complete : Bool
  cut : Bool
  vectors : Store (Int × Int × Bool)
  limit : Nat
  fraction : Nat
deriving DecidableEq, Repr

/-- A video input (chapter 4). -/
structure Input where
  /-- Stored frames, newest first, at most as Table 4.4 holds (R111). -/
  frames : List Frame
  /-- Number of the next stored frame (R111). -/
  nextFrame : Nat
  /-- Number and arrival of the last 16 intact frames, newest first (R179). -/
  arrivals : List (Nat × Nat)
  /-- Consecutive intact frames, of these without errors, and consecutive missing (R102). -/
  intact : Nat
  clean : Nat
  missing : Nat
  /-- Whether errors were corrected in the frame in progress (R102). -/
  errorsNow : Bool
  /-- Whether the frame in progress is damaged, its first damaged line, and the fault cause (R103). -/
  damaged : Bool
  damagedLine : Nat
  /-- When it was found damaged (R103). -/
  damagedAt : Nat
  /-- FAULT_CAUSE (R103). -/
  cause : Nat
  /-- Bytes of the last measured format, how many consecutive frames agree on it, and the differing format last
  reported (R99). -/
  measured : List Byte
  agree : Nat
  reported : List Byte
  /-- Arrival of the last line 0, and of each path's last packet plus 1 (R103, R105). -/
  line0 : Nat
  pathAt : Store Nat
  /-- When the last intact frame ended, plus 1 (R103). -/
  lastIntactAt : Nat
  /-- Packets of a pair whose second copy has not come: sequence, path, arrival (R98). -/
  packets : List (Nat × Nat × Nat)
  /-- The sequence number that the receive buffer delivers next, plus 1; 0 none since a path delivers (R96). -/
  nextSeq : Nat
  /-- Packets that the receive buffer holds out of order: sequence, arrival, lines complete with it (R96). -/
  buffer : List (Nat × Nat × Nat)
  /-- Lines of the frame in progress that the packets delivered complete (R96, R103). -/
  lines : Nat
  /-- Whether packets were lost since the last frame that ended (R103). -/
  gapSeen : Bool
  /-- RTP time-stamp of the last frame that ended, plus 1; 0 none since it acquires (R103). -/
  lastRtp : Nat
  /-- Whether the step of the RTP time-stamp to that frame was not the descriptor's (R103, R104). -/
  stepBad : Bool
  /-- Whether a frame has ended since the last frame period that counted as missing (R102). -/
  sawFrame : Bool
  /-- The last LOCKED frame, repeated until the store holds the one that is called for (R112). -/
  carried : Option Frame
  /-- Leads of the last base frames in 1/65,536, newest first, and of the last reference latch (R105, R106). -/
  leads : List Int
  leadBase : Nat
  /-- Lines arrived in the band for the frame in progress, and what they show (R108). -/
  bandLines : Nat
  band : Raster
  /-- Whether the STAGE partition lacks room for its band (R108). -/
  stageFull : Bool
  /-- Whether a change of class is still to be reported with its new latency (R107, R112). -/
  tellClass : Bool
  /-- Latencies of the base frames since the last class change, µs, per canvas, newest first (R185). -/
  latencies : Store (List Nat)
  /-- Vector fields of its last pairs, newest first (R182). -/
  fields : List VectorField
  /-- Whether MOTION waits for its first complete field since a yield was restored (R48, R184). -/
  motionWaits : Bool
  /-- Number of the first later frame that an estimated pair may have: the next to become available after a restore (R184). -/
  estimateFrom : Nat
  /-- Whether a change of ENABLE waits for a latch (R120). -/
  enablePending : Bool
deriving DecidableEq, Repr

/-- A host surface (R113 to R116). -/
structure HostSurf where
  /-- The buffer requested by the flip in progress (R114). -/
  want : Nat
  /-- Whether it is ready, and latches passed while it was not (R116). -/
  ready : Bool
  latches : Nat
  /-- Former front buffers waiting for release, oldest first, each with the canvases that have not latched since its flip
  landed and so may still read it (R114, R115). -/
  releases : List (Nat × List Nat)
  /-- Fetched copies of the buffers for LOCATION 1 (R116). -/
  copy0 : List Byte
  copy1 : List Byte
  /-- Whether the loss of a DRAM channel took its buffers (R359). -/
  lostChannel : Bool
deriving DecidableEq, Repr

/-- A pocket player (R117 to R119). -/
structure Player where
  /-- ENABLE as the last base-frame latch of its FTG took it (R118). -/
  on : Bool
  /-- Prefetched clip frames: number and picture, and their audio. -/
  held : List (Nat × Raster × List Int)
  /-- TRANSPORT accepted and waiting for the next base-frame latch, 0xFF none (R118). -/
  request : Nat
  /-- Base frame at which play was asked to start, plus 1, and base frame it started (R118). -/
  askedBase : Nat
  startBase : Nat
  /-- Clip frame that it started from (R118). -/
  startFrame : Nat
  /-- Whether it is paused (R118). -/
  paused : Bool
  /-- The frame that it shows, none before the first (R118). -/
  shown : Option Raster
  /-- Whether a clip read has failed (R119). -/
  readFault : Bool
  /-- Base frame of the last latch that it took, plus 1 (R118). -/
  lastLatch : Nat
  /-- CLIP, IN_FRAME, OUT_FRAME, PREFETCH and END_ACTION as the last base-frame latch of its FTG took them (R118). -/
  live : List Nat
  /-- Whether playback returns to IN_FRAME at its end, and clip frames of the loops that a change to PLAY left behind
  (R118). -/
  loops : Bool
  looped : Nat
  /-- Which frame it shows: clip, clip frame and weight of the next (R223). -/
  shownKey : List Nat
  /-- Audio of the frames shown last: instant and sample frames, newest first, and the frame it came from plus 1
  (R326). -/
  sound : List (Nat × List (List Int))
  soundFrame : Nat
deriving DecidableEq, Repr

/-- A mix in progress on a layer (R141, R204). -/
structure Mix where
  outKind : Nat
  outNum : Nat
  length : Nat
  elapsed : Nat
deriving DecidableEq, Repr

/-- What a source of a layer resolved to at the last judging latch (R206, R208):
0 ready, 1 REPEAT, 2 HOLE, 3 FILL, 4 POCKET, 5 protected fill. -/
structure Shown where
  how : Nat
  picture : Raster
deriving DecidableEq, Repr

/-- A layer at run time (R204 to R208, R220). -/
structure Layer where
  shown : Shown
  outShown : Shown
  reps : Nat
  outReps : Nat
  mix : Option Mix
  /-- Whether a MIX of one base frame began and ended at the last base-frame latch (R141, R330). -/
  mixedAt : Bool
  /-- Whether its source was not ready at the last latch, for how many base frames, and whether it is gated (R206, R145). -/
  notReady : Bool
  framesNotReady : Nat
  gated : Bool
  /-- The last frame the layer composed, for REPEAT (R206). -/
  last : Option Raster
  /-- Vertical taps that DEGRADE_OK gave at commit, 0 none (R171). -/
  degraded : Nat
  /-- The last frame of the outgoing source of a MIX (R204, R206). -/
  outLast : Option Raster
  /-- First stored line of a LOCKED frame that did not arrive, plus 1; 0 none; of its own and the outgoing source
  (R110). -/
  lostFrom : Nat
  outLost : Nat
  /-- The frame of a LOCKED input that it composes as its lines arrive: 64 times its number, plus the input, plus 1; 0
  none; likewise (R109). -/
  chased : Nat
  outChased : Nat
  /-- Which frame of its source it shows (R223). -/
  shownKey : List Nat
deriving DecidableEq, Repr

/-- A canvas at run time (R194 to R197, R210, R217, R218, R220 to R223). -/
structure Canvas where
  running : Bool
  /-- Earliest start time once enabled, 0 not waiting (R194). -/
  startAfter : Nat
  /-- Whether it stops at the end of its base frame (R194). -/
  stopping : Bool
  /-- Composing a slot frame now, which, and to which buffer of the slot (R50, R54). -/
  composing : Bool
  slot : Nat
  /-- Slot the next compose latch begins. -/
  nextSlot : Nat
  /-- Timebase instant of the last compose latch plus 1, 0 none, and the compose deadline (R50, R131). -/
  composeAt : Nat
  deadline : Nat
  /-- Whether every strip of the composition is complete (R53). -/
  complete : Bool
  /-- From the completion of the composition that each slot buffer holds to its compose deadline, in ns
  (COMPOSE_MARGIN_MIN, R256). -/
  margins : Store Int
  /-- Whether the next base frame is skipped (R54). -/
  skip : Bool
  /-- Inputs that the last compose latch found gated: fill stands in for them (R27). -/
  fills : List Nat
  /-- Front buffer of each slot, 1 or 2, 0 none yet, and the slot frames stored, by 2 * slot + buffer (R235,
  R237). -/
  front : Store Nat
  buffers : Store Raster
  /-- Whether the Overcoat is composed into each stored slot frame (R215). -/
  bufferOvercoat : Store Bool
  /-- Overcoat: armed base frames, and base-frame latches since it first ran (R216, R217, R490). -/
  armedFrames : Nat
  runLatches : Nat
  /-- Whether its second base-frame latch since its first entry to RUN has come (R490). -/
  everRun : Bool
  /-- Whether its last compose latch found its image failed (R219, R351). -/
  imageBad : Bool
  /-- Lining: state of the rebuild, rectangle and lined picture (R220 to R223). -/
  liningState : Nat
  liningPicture : Option Raster
  /-- Whether LINING_NO_ROOM has been raised for this configuration, whether something invalidated the rebuild in
  progress, and whether compositions read the Lining since the last judging latch (R221, R223). -/
  liningRoom : Bool
  liningRestart : Bool
  liningUsed : Bool
  /-- Write-back: last complete frame of each destination, what is due there (0 nothing, 1 a frame, 2 of a discarded and
  3 of a skipped base frame), the descriptor and picture of the composition in progress, and those of the frame that
  is due (R160, R210). -/
  wbLast : Store Raster
  wbNext : Store Nat
  wbNow : Store (List Byte × Raster)
  wbDone : Store (List Byte × Raster)
  /-- Base-frame number of its FTG at the last base-frame compose latch. -/
  baseNumber : Nat
  /-- Governor yields as this canvas's last base-frame compose latch took them (R37). -/
  yields : List Yield
  /-- Fields of its scope in force at the slot-0 latch of the last composed base frame (R197, R218). -/
  config : Store Nat
  configDoms : Store (List Byte)
  /-- Its layers as that latch judged them (R197, R218). -/
  seen : Store Layer
  /-- Slots whose front buffer was lost with its DRAM: BACKGROUND until the next composition (R359). -/
  spoiled : List Nat
  /-- Whether its head buffers were dropped when DRAM groups were lost (R359). -/
  noBuffers : Bool
  /-- Presentation instants to come of composed base frames, oldest first, with what each layer showed: kind, number
  and length of its mix; and the same of the base frame presented last (R329). -/
  presents : List (Nat × List (Nat × Nat × Nat))
  heard : List (Nat × Nat × Nat)
  /-- Words of slot buffers that were uncorrectable: buffer, first pixel and pixels (Table 12.2). -/
  damaged : List (Nat × Nat × Nat × Nat)
deriving DecidableEq, Repr

/-- A RETIME in progress (R254). -/
structure Retime where
  timing : List Byte
  countdown : Nat
  oldEnd : Nat
  background : Nat
  sess : Nat
deriving DecidableEq, Repr

/-- What a head sends in a frame (R242, R243, R250, R254, R487, R489). -/
inductive FrameKind where
  | idle | boot | content | background | safe
deriving DecidableEq, Repr

/-- A head at run time (R231 to R254). -/
structure Head where
  running : Bool
  startAfter : Nat
  stopping : Bool
  /-- Time of line 0 of the frame in progress, and slot and base-frame it carries. -/
  frameStart : Nat
  /-- Slot that the frame in progress carries, and whether any frame has started (R235). -/
  carried : Nat
  started : Bool
  /-- What the frame in progress shows, and the front buffer that it scans, as in `Canvas.front` (R235, R243). -/
  shown : FrameKind
  front : Nat
  /-- The head's fields and tables as the frame in progress took them: STITCH fields, its parent's among them,
  DOMAINs, the tile-map entries it sends and the calibration entries they name (R133, R247). -/
  config : Store Nat
  /-- The canvas among them (R133). -/
  canvas : Nat
  /-- Its DOMAIN fields, tile-map entries and calibration entries among them (R133, R247). -/
  configDoms : Store (List Byte)
  tiles : Store (List Byte)
  calibs : Store (List Byte)
  /-- Front buffer last scanned of each slot, with its canvas: 3 * canvas + buffer (R235); underrun lines of the
  frame, each with the first pixel that its FIFO lacked (R241). -/
  scanned : Store Nat
  underruns : Nat
  short : Store Nat
  /-- Whether the flip latch of the frame in progress has passed (R131). -/
  flipped : Bool
  /-- Whether HEAD_IDLE has been raised and not ended (R243). -/
  idle : Bool
  /-- SAFE: whether the head is in it, frames left of it, and the colour or window that asks for it (R250). -/
  safe : Bool
  safeFrames : Nat
  safeRequest : Option Nat
  /-- Whether SAFE_CLEAR waits for the next frame start (R250, R255). -/
  safeClear : Bool
  /-- The RETIME that is pending (R254). -/
  retime : Option Retime
  /-- Consecutive mismatching checked frames per window; frames checked and mismatches (R250). -/
  consecutive : Store Nat
  checked : Store Nat
  mismatches : Store Nat
  /-- CRC that each window of the frame is expected to have (R249). -/
  expected : Store Nat
  /-- Its echo receivers without lock, by unit number (R251). -/
  echoFaults : List Nat
  /-- Margins of its last base frames, newest first, at most 64 (R256). -/
  margins : List Int
  /-- IDLE_COLOUR, CHECK_THRESHOLD, OVERCOAT_ACTION and SAFE_COLOUR as the last frame start took them (R255). -/
  live : List Nat
  /-- Whether the frame in progress is a background frame of a RETIME (R254). -/
  background : Bool
  /-- Whether VB0 and line MATCH_LINE of the frame in progress have passed (R253). -/
  blanked : Bool
  matched : Bool
  /-- Time of the first frame start of the new grid, for RETIME and JUMP (R254, R311). -/
  nextStart : Nat
  /-- Packets of each tile's frame sent so far, by 2 * entry, plus 1 for ALT_PORT (R276). -/
  sent : Store Nat
  /-- Tile-map entries whose CALIB is due at the next frame, and the base-frame count at which CALIB was last
  sent to every tile (R286). -/
  calibDue : List Nat
  calibBase : Nat
deriving DecidableEq, Repr

/-- A commit from receipt to landing (R130 to R139). Scope kinds as R159. -/
structure Commit where
  kind : Nat
  num : Nat
  sess : Nat
  receipt : Nat
  ack : Nat
  /-- Validation set: register keys with values, and DOMAIN fields (R130). -/
  vals : Store Nat
  doms : Store (List Byte)
  /-- Tile-map and calibration entries of the set (R275). -/
  tiles : List (Nat × List Byte)
  calibs : List (Nat × List Byte)
  /-- Heads and canvases of the set, as masks (R130, R138). -/
  heads : Nat
  canvases : Nat
  /-- Whether it is a group's commit (R138). -/
  grouped : Bool
  /-- HEAD_TIMING of the RETIME that it carries (R254). -/
  retime : Option (List Byte)
  /-- Instants of the latch aimed at and of the latch at which it lands (R131, R132). -/
  aim : Nat
  land : Nat
  /-- How it is answered: 0xFF plainly, 4 to 11 as the UDP COMMIT of that session (R414), 0xFD not at all, as an RPDO,
  from 0x1000 on as the doorbell at that offset (R419). -/
  udpSess : Nat
deriving DecidableEq, Repr

/-- A STITCH write that waits for a validation to end (R25). -/
structure Deferred where
  key : Nat
  value : Nat
  domain : Option (List Byte)
deriving DecidableEq, Repr

/-- Lane states (R69). -/
inductive LaneState where
  | off | train | up | degraded | retired
deriving DecidableEq, Repr

/-- A U-lane or D-lane (R66, R69 to R72, R263, R264). -/
structure Lane where
  state : LaneState
  trainSince : Nat
  warm : Bool
  restarts : Nat
  /-- Since when MARGIN_CLASS has been below DEGRADE_CLASS, or has sufficed, plus 1 (R69). -/
  lowSince : Nat
  goodSince : Nat
  /-- Time of the last uncorrectable codeword plus 1 (R69). -/
  badAt : Nat
  /-- Whether it is surveyed as a spare of its port (R263). -/
  surveyed : Bool
  /-- The lane whose PCS lanes it carries after a takeover (R264). -/
  carries : Nat
  /-- Equaliser settings in use and those that converged last (R62, R70); transmit coefficients in force and those
  that link training set, none without it (R64, R87). -/
  eq : List Int
  converged : List Int
  tx : List Int
  trained : List Int
  /-- Symbols corrected in the last second, with their times (PRE_FEC_SER, R88). -/
  corrected : List (Nat × Nat)
deriving DecidableEq, Repr

/-- A D-lane group (R73 to R78). -/
structure Group where
  /-- HPD driven low until this time, 0 not (R78). -/
  hpdLowUntil : Nat
  /-- The link rate last tried (Table 3.11). -/
  lastRate : Nat
  /-- Downstream HDCP: how many devices, and their identifiers (R77). -/
  devices : Nat
  hdcpDown : List (List Byte)
  /-- Depth of what lies downstream, and the report last given upstream as a repeater (R77). -/
  depth : Nat
  told : List Byte
  /-- HDCP, CEC_ADDRESS_MASK and EDID in force, and whether a written EDID waits for a frame start (R89). -/
  hdcp : Bool
  cec : Nat
  edid : List Byte
  edidDue : Bool
  /-- Whether its HDMI link runs FRL, at which TxFFE level, and whether it scrambles TMDS (R74). -/
  frl : Bool
  ffe : Nat
  scrambled : Bool
deriving DecidableEq, Repr

/-- A flow of the route table as observed (R147 to R154). -/
structure Flow where
  /-- Arrival of its last packet, plus 1, in OSC_IN ns (R148, R154). -/
  lastPacket : Nat
  /-- Starts of its last frames, newest first, at most 65, and their line counts (R149). -/
  starts : List Nat
  lineCounts : List Nat
  /-- Whether the flow is lost (R154). -/
  lost : Bool
deriving DecidableEq, Repr

/-- A switch request of an output (R148). -/
structure SwitchReq where
  entry : Nat
  at_ : Nat
  sess : Nat
  /-- When it was made (R152), and WINDOW_LINES then (R157). -/
  asked : Nat
  window : Nat
deriving DecidableEq, Repr

/-- A tile's status (R285, Table 9.13). -/
structure Tile where
  state : Nat
  flags : Nat
  temperature : Nat
  port : Nat
  /-- Times plus 1: of the last STATUS, since when one is awaited, and of the last TILE_LATE. -/
  seenAt : Nat
  watchAt : Nat
  lateAt : Nat
  /-- Counts that its STATUS reports: frames incomplete and frames that failed their tag; and the frame last presented
  (R285). -/
  incomplete : Nat
  authFailures : Nat
  presented : Nat
deriving DecidableEq, Repr

/-- The tile link keys and rekey (R280 to R283, R286). -/
structure PtlKeys where
  salt : List Byte
  nextSalt : List Byte
  /-- Key slot in force, 0xFF none, and the one that the rekey in progress brings (R280, R282). -/
  slot : Nat
  nextSlot : Nat
  /-- 0 no rekey; 9 asked for; 8 to 1 as the last beacon carried it (R282). -/
  countdown : Nat
  again : Bool
  /-- Time of the last HEARTBEAT plus 1 (R286). -/
  heartbeatAt : Nat
deriving DecidableEq, Repr

/-- A reference candidate (R292 to R299).  Times are in OSC_IN ns; those that may be absent are held plus 1. -/
structure Ref where
  /-- Start and length in s of the wait-to-restore timer (R297). -/
  waitSince : Nat
  wait : Nat
  /-- Times of its glitches that still count (R295). -/
  glitchTimes : List Nat
  /-- Start of the measurement interval in progress (R295). -/
  intervalAt : Nat
  /-- Mean frequency of the last interval, and when last QUALIFIED, as Q32.16 ppb (R296). -/
  mean : Int
  meanAtQual : Int
  everQual : Bool
  /-- Whether an interval has ended since it was enabled (R295). -/
  measured : Bool
  /-- First of the interval ends at which the drift has reached FREQ_WINDOW, and start of the drift alarm (R295,
  R296, R305). -/
  dwellSince : Nat
  alarmSince : Nat
  /-- Last good edge before it failed (R305). -/
  failedAt : Nat
  /-- Nominal detected when NOMINAL_NUM is 0, and line count when LINES is 0 (R292, R299). -/
  detNum : Nat
  detDen : Nat
  detLines : Nat
  /-- PTP: filtered offset, timebase less PTP time in ns, and the masters heard, with times (R293, R302). -/
  offset : Int
  offsetValid : Bool
  masters : List (Announce × Nat)
  /-- Identity of the master that it follows (R293). -/
  chosen : Nat
  /-- Last good edge before a glitch, in OSC_IN ns plus 1 (R305). -/
  goodAt : Nat
  /-- When PHASE_OFFSET was last taken: in OSC_IN ns, and in ps of the timebase (R302). -/
  phaseAt : Nat
  phaseTb : Int
  /-- PTP: the last Sync of the chosen master plus 1 with its interval, the timebase time of the last Delay_Req plus 1 while
  it is not answered, and whether MEAN_PATH_DELAY has been measured against this master (R293, R295). -/
  syncAt : Nat
  syncInterval : Nat
  reqAt : Nat
  delayValid : Bool
deriving DecidableEq, Repr

/-- One holdover history entry (R305, R319). -/
structure HistEntry where
  word : Int
  opSeconds : Nat
  valid : Bool
  locked : Bool
  moving : Bool
  alarm : Bool
  followed : Nat
  endAt : Nat
deriving DecidableEq, Repr

/-- Hentis (chapter 10).  DCO words are in Q32.16 ppb; times in OSC_IN ns, plus 1 where they may be absent. -/
structure Hentis where
  /-- DCO word held; while the loop runs its integrator at the last interval end (R300). -/
  word : Int
  /-- The loop since the last interval end: its bandwidth in mHz, 0 while it does not run; the reference's frequency; the
  phase error and its sum over the ns, in units of the DCO accumulator (R300). -/
  loopBw : Nat
  loopFreq : Int
  loopErr : Int
  loopSum : Int
  /-- Where a slew of the word ends, and the word and time it started from (R302, R306). -/
  slewTo : Option Int
  slewFrom : Int
  slewAt : Nat
  /-- Build-out of the candidate followed, in ps (R302). -/
  buildOut : Int
  /-- Since when phase and frequency error have been in bounds (R300). -/
  boundSince : Nat
  /-- The reference is ignored since a missing or glitched edge (R298). -/
  ignoring : Bool
  /-- Holdover history, newest first, at most 1,024, and the second in progress: sum and count of its words, whether
  it has been good throughout, and when it began (R305). -/
  history : List HistEntry
  wordSum : Int
  wordCount : Nat
  secondClean : Bool
  secondAt : Nat
  /-- HOLDOVER: its entry, its end, value, entries used and LIMIT in force (R305, R306, R319). -/
  holdSince : Nat
  holdEnd : Nat
  holdValue : Int
  holdUsed : Nat
  holdLimit : Nat
  /-- Whether FREERUN has been left since start-up (R300). -/
  leftFreerun : Bool
  /-- Whether LOCKED has been reached since start-up (R300). -/
  firstLock : Bool
  /-- An alignment slew: its step in ps and what is left of it in 1/65,536e9 ns; PTP gives the step (R310, R312). -/
  slewing : Bool
  alignStep : Int
  alignLeft : Int
  byPtp : Bool
  /-- A JUMP that waits for the slowest FTG: its mode and its step in ps (R311, R313). -/
  jump : Option (Nat × Int)
  /-- Until when a change holds each CLK_OUT pin low (R309). -/
  clkLow : Store Nat
deriving DecidableEq, Repr

/-- A frame timing generator (R308, R309, R311). -/
structure Ftg where
  running : Bool
  startAfter : Nat
  stopping : Bool
  /-- Timebase instant, in ns, of its last and next base-frame start. -/
  lastStart : Nat
  nextStart : Nat
  /-- Whether it has run since start-up (R308). -/
  everRun : Bool
deriving DecidableEq, Repr

/-- An audio endpoint: SAP, embedded source, stream receiver or sender, or player (R324, R337 to R341).  Samples are
left-aligned in 32 bits. -/
structure Endpoint where
  /-- The elastic buffer or output FIFO, oldest frame first (R337, R338). -/
  fifo : List (List Int)
  /-- Packets held for PLAYOUT: sequence, instant their first frame enters the matrix, frames (R327). -/
  held : List (Nat × Nat × List (List Int))
  /-- Whether its samples flow (R337, R341). -/
  started : Bool
  /-- Sample index of its start plus 1, 0 none (R340). -/
  startAt : Nat
  /-- Sample frames of zero left, and of the ramp, with the ramp's length; whether it stops (R341). -/
  zeroLeft : Nat
  rampLeft : Nat
  rampLength : Nat
  stopping : Bool
  /-- Clock loss, lost paths, rate mismatch, and whether the last window was within 500 ppm (R327, R339). -/
  lostNow : Bool
  lostPaths : Nat
  mismatch : Bool
  good : Bool
  /-- Rate of the last window, µHz (R339). -/
  rate : Nat
  /-- Times of the slips and of the underruns or overruns of the last second, and of their last events plus 1. -/
  slips : List Nat
  slipAt : Nat
  errors : List Nat
  errorAt : Nat
  /-- Time of the last frame or packet plus 1, by path (R327, R339). -/
  seenAt : Store Nat
  /-- Next sequence number expected, plus 1, 0 none (R327). -/
  nextSeq : Nat
  /-- The frame sent last (R338), and the frames of a sender's packet in the making. -/
  last : List Int
  packet : List (List Int)
deriving DecidableEq, Repr

/-- A source that a matrix channel carries, alone or in a crossfade (R329 to R332): its source by kind * 2^16 +
number, its channel, its gain in 1/65,536 and its read position in sample frames. -/
structure Voice where
  source : Nat
  channel : Nat
  fromGain : Int
  toGain : Int
  length : Nat
  left : Nat
  equalPower : Bool
  delay : Nat
  oldDelay : Nat
  delayLeft : Nat
  /-- Timing class, latency in µs and lead in ns that its alignment is made of (R332). -/
  timing : Nat
  latency : Nat
  lead : Nat
deriving DecidableEq, Repr

/-- A matrix channel at run time (R325 to R334). -/
structure Channel where
  /-- The entry in force since the last sample frame (R344). -/
  entry : List Byte
  /-- What the layer followed showed when the present voice came in: kind and number (R331). -/
  shown : Nat × Nat
  /-- The source carried, then those that fade out. -/
  voices : List Voice
  /-- Gain ramp in 1/65,536, and sample frames left of it (R325). -/
  gainFrom : Int
  gainTo : Int
  gainLeft : Nat
  /-- CLIPPED, whether it is gated, and the sample that it gave last (R325, R334). -/
  clamped : Bool
  gated : Bool
  value : Int
deriving DecidableEq, Repr

/-- The audio matrix (chapter 11). -/
structure Audio where
  /-- Index of the next sample instant (R323). -/
  next : Nat
  /-- Delay lines: the sample frames that each source has given, newest first, by kind * 2^16 + number (R332). -/
  lines : Store (List (List Int))
  /-- Whether DRAM lost their place (R359). -/
  lost : Bool
  /-- Sample index of the common start that is scheduled, plus 1, 0 none (R340). -/
  startAt : Nat
deriving DecidableEq, Repr

/-- The DRAM controller (R352 to R364). -/
structure Dram where
  /-- Per channel: 0 awake, 1 asleep, 2 rebuilding, 3 lost; rows remapped; row targets. -/
  channel : Store Nat
  remapped : Store Nat
  copying : List (Nat × Nat)
  /-- When the power-down cycle in progress began, and whether sleeping is held off (R362). -/
  cycleAt : Nat
  held : Bool
  /-- Utilisation at the last governor tick, in 1/65,536 (R364). -/
  utilisation : Nat
  /-- When the eyes were last recentred (R360). -/
  recentreAt : Nat
  /-- POWER_DOWN, SLEEP_CYCLE and IDLE_TIMER in force since the last governor tick (R374). -/
  power : List Nat
  /-- 2 MiB units taken from the pool, by owner key (R355). -/
  alloc : Store Nat
  /-- RATE, DEVICE, RANKS, MODE and HOST_REGION_MIB in force since the last release of PORST_N (R360). -/
  inForce : List Nat
  /-- Identity and settings of the stored training results (R360). -/
  trained : List Nat
  /-- Identity and settings of the results in use, and whether they wait for the write floor to end (Table 17.4). -/
  training : List Nat
  trainedNew : Bool
  /-- The host surface region as bytes; an unlisted byte reads as `Memory` says (R354, R356). -/
  host : List Host.Cell
deriving DecidableEq, Repr

/-- One clip directory entry (R367) with its frames' pictures as the drives hold them. -/
structure Clip where
  state : Nat
  drive : Nat
  format : Nat
  colour : Nat
  width : Nat
  height : Nat
  rateNum : Nat
  rateDen : Nat
  frames : Nat
  frameBlocks : Nat
  audioChannels : Nat
  audioRate : Nat
  createdS : Nat
  generation : Nat
  extents : List (Nat × Nat)
deriving DecidableEq, Repr

/-- A capture recorder (R370, R371). -/
structure Capture where
  /-- Clip plus 1, 0 not capturing; its source as CAP_SOURCE codes it, its drive and first matrix channel. -/
  clip : Nat
  source : Nat
  drive : Nat
  first : Nat
  /-- When it was started: an input's frame that began earlier is not captured (R370, log 29). -/
  from_ : Nat
  /-- Sample frames captured and not yet written, newest first (R368, R370). -/
  sound : List (List Int)
  /-- Frames captured and not yet written, oldest first, and how many of them have been submitted (R371). -/
  queue : List Raster
  submitted : Nat
  /-- Codewords of held frames that read as zero: the frame's number in the clip and an address within it (R358). -/
  holes : List (Nat × Nat)
  /-- Frames written, and those that the last checkpoint or Flush covered. -/
  written : Nat
  covered : Nat
  /-- Whether it ends at the next frame boundary, whether that has come, and whether the write floor stopped it (R370,
  R371). -/
  stopping : Bool
  closed : Bool
  flushed : Bool
deriving DecidableEq, Repr

/-- The Pocket store (R365 to R372). -/
structure Pocket where
  /-- The directory in force, by clip number, and its generation (R366, R367). -/
  directory : Store Clip
  dirGen : Nat
  /-- The two recorders (R370). -/
  capture : Store Capture
  /-- Clips whose directory updates wait for the write floor to end (R371). -/
  waiting : List Nat
  /-- By drive: I/O queue pairs created, generation of the superblock in force, and which copy of the directory is in force
  (R365, R366). -/
  queues : Store Nat
  supers : Store Nat
  copyAt : Store Nat
  /-- Drives that FORMAT erased, while the directories still hold their entries (R372). -/
  formatted : List Nat
deriving DecidableEq, Repr

/-- A unit's fault weight (R381, R394). -/
structure Weight where
  weight : Nat
  decrementAt : Nat
  halfRaised : Bool
  /-- Cause of the retirement that HOLD_RETIRE holds back, 0 none (R382). -/
  held : Nat
  /-- Times of its faults in the last 24 hours, in operating seconds (R394). -/
  faultTimes : List Nat
  /-- Whether it has been reported that no spare is left for it (R385). -/
  noSpareRaised : Bool
deriving DecidableEq, Repr

/-- One patch map entry (R393). -/
structure Patch where
  kind : Nat
  unit : Nat
  spare : Nat
  noSpare : Bool
  cause : Nat
  weight : Nat
  cycles : Nat
  opSeconds : Nat
  /-- Still waiting for the write floor to end (R388). -/
  pending : Bool
  /-- Cleared by CLEAR (R389, Table 13.6). -/
  cleared : Bool
deriving DecidableEq, Repr

/-- The resilience logic (chapter 13); kinds and units as Table 13.1, keyed kind * 2^24 + unit. -/
structure Resil where
  weights : Store Weight
  /-- Spares taken, by kind and spare: the unit that each replaced, plus 1. -/
  taken : Store Nat
  /-- Units retired, and kinds whose spares are exhausted (R383, R385). -/
  retired : Store Bool
  exhausted : Store Bool
  /-- Store-tier banks, mesh links and MRAM sectors that stand by as spares (R379, R383, R389). -/
  idle : Store Bool
  /-- The patch map, by entry (R389). -/
  patches : Store Patch
  /-- Per row: when an uncorrectable word was last found in it, in operating seconds, plus 1 (R380). -/
  rowFault : Store Nat
  /-- Units being copied to their spares: cause of the retirement and the spare (R383). -/
  copying : Store (Nat × Nat)
  /-- RETIREMENTS, since manufacture (Table 13.4). -/
  retirements : Nat
  /-- Units in service that were retired with no spare to replace them (Table 13.5). -/
  unspared : Store Bool
  /-- When the present pass of patrol scrub began, and the errors corrected in it (R390). -/
  scrubSince : Nat
  scrubErrors : Nat
deriving DecidableEq, Repr

/-- States of a key slot (Table 16.7, R437, R438, R445, R448). -/
inductive SlotState where
  | empty | loading | loaded | stale | bad | spare | patch
deriving DecidableEq, Repr

/-- One physical key slot (R435, R436, R442 to R449): its key as the cache has it, and the wrapped key with its tag as
MRAM has them. -/
structure Slot where
  state : SlotState
  key : List Byte
  wrapped : List Byte
  tag : List Byte
  attr : Nat
  algorithm : Nat
  owner : Nat
  root : Nat
  generation : Nat
  kcv : Nat
  serves : Nat
  writes : Nat
  /-- A write in progress: its key and staged attributes, to be committed. -/
  incoming : Option (List Byte × Nat × Nat × Nat × Nat)
  former : SlotState
deriving DecidableEq, Repr

/-- The key store and life-cycle (chapter 16). -/
structure KeyStore where
  slots : Store Slot
  /-- Life-cycle state (MRAM and fuses), generation fuses programmed, generation recorded in MRAM, END fuse. -/
  lifecycle : Nat
  fuses : Nat
  recorded : Nat
  endFuse : Bool
  /-- Slots wait to be overwritten; the fuse waits for the next start-up (R448). -/
  overwritePending : Bool
  markOverwrite : Bool
  /-- The last CHALLENGE drawn, until a CONFIRM uses it, and when; the transition in progress (R441). -/
  challenge : Option Nat
  challengeAt : Nat
  transition : Option Nat
  /-- A write being committed to MRAM: its slot's number, 72 the HDCP key set (R444, R445, R451). -/
  writing : Bool
  writingSlot : Nat
  /-- HDCP key set loaded, its check value and the key that wrapped it; the same of one in the making (R451). -/
  hdcpKeys : List Byte
  hdcpKcv : Nat
  hdcpWrap : List Byte
  hdcpIncoming : Option (List Byte × List Byte)
  /-- Session that waits for the end of an atomic replacement, 0xFF none (R444). -/
  writingSess : Nat
  /-- Session whose access began the write or the transition in progress, 0xFF the device (R421). -/
  writer : Nat
  /-- Whether the glitch detector is armed (R448). -/
  glitchArmed : Bool
deriving DecidableEq, Repr

/-- One MRAM copy of the lifetime data (R464). -/
structure LifeCopy where
  valid : Bool
  generation : Nat
  opSeconds : Nat
  cycles : Nat
  brownouts : Nat
  patches : Nat
  checkpoints : Nat
  lastCheckpoint : Nat
  maxTemp : Int
  bins : Store Nat
  samples : Store Nat
  lastFlush : Store Nat
  weights : Store Weight
deriving DecidableEq, Repr

/-- The states of a TAP controller of IEEE 1149.1 (R509). -/
inductive TapState where
  | testLogicReset | runTestIdle
  | selectDr | captureDr | shiftDr | exit1Dr | pauseDr | exit2Dr | updateDr
  | selectIr | captureIr | shiftIr | exit1Ir | pauseIr | exit2Ir | updateIr
deriving DecidableEq, Repr

/-- What a JTAG instruction does, of those that R494 and R509 name: BYPASS, IDCODE, boundary scan of IEEE 1149.1 and
1149.6, or a test instruction beyond them. -/
inductive JtagInstr where
  | bypass | idcode | boundary | test
deriving DecidableEq, Repr

/-- The JTAG test access port (R509): TRST_N, the controller, the instruction in force, the shift registers of
instruction and data with the bit nearest to TDO first, and the boundary cells as last updated. -/
structure Tap where
  trstN : Bool
  state : TapState
  instr : JtagInstr
  ir : List Bool
  dr : List Bool
  cells : List Bool
deriving DecidableEq, Repr

/-- Lifetime data: the volatile counters and the two MRAM copies (R463 to R465). -/
structure Lifetime where
  opSeconds : Nat
  cycles : Nat
  brownouts : Nat
  patches : Nat
  checkpoints : Nat
  lastCheckpoint : Nat
  /-- Highest hottest-sensor reading, 1/16 degrees. -/
  maxTemp : Int
  /-- Bins as flushed and the accumulators, by 16 * histogram + bin; samples and time of the last flush, by histogram. -/
  bins : Store Nat
  acc : Store Nat
  samples : Store Nat
  lastFlush : Store Nat
  copies : Store LifeCopy
  /-- Whether the checkpoint of start-up is still to be taken (R464). -/
  due : Bool
  /-- When the last operating second ended (R15). -/
  secondAt : Nat
  /-- DRAM corrections of each channel in the present 2,592,000 operating seconds (histogram 9). -/
  dramCorrections : Store Nat
deriving DecidableEq, Repr

/-- The supply monitor and the write floor (R466 to R471). -/
structure Supply where
  /-- Since when every rail has been good enough to resume, plus 1, 0 not (R470); when the floor was reached; whether
  it has held since PORST_N was released (R463). -/
  goodSince : Nat
  floorAt : Nat
  heldSincePorst : Bool
deriving DecidableEq, Repr

/-- Device control: pins, straps, start-up progress (chapter 18). -/
structure Device where
  /-- PORST_N as the core has it: a RESET write or an NMT device reset holds it low inside (R410, R495). -/
  porstN : Bool
  /-- Whether THERMTRIP has stopped the core (R480). -/
  stopped : Bool
  /-- The straps as sampled (R486). -/
  straps : Nat
  /-- BOOT_CAUSE, and that of the next release of PORST_N. -/
  bootCause : Nat
  nextCause : Nat
  /-- When the straps were sampled, which parts of LOAD are done, and when STANDBY was first entered (R484). -/
  bootAt : Nat
  bistDone : Bool
  dramDone : Bool
  standbyAt : Nat
  /-- START_TIMES in ms, by milestone (R484). -/
  startTimes : List Nat
  /-- Whether auto-run has been tried or given up, and whether the boot suppresses it (R486, R488). -/
  autoTried : Bool
  autoSuppressed : Bool
  /-- Scopes of the restore markers set in MRAM (R408). -/
  restoreMarker : List Nat
  /-- The level of THERMTRIP_N (R480). -/
  thermtripN : Bool
  /-- BIST_FAILURES, by kind and unit, and whether the full BIST runs (R494). -/
  bistFailures : List (Nat × Nat)
  fullBist : Bool
  /-- The level of OVERCOAT_ARM_N as armed, and the latched arming (R216). -/
  overcoatPin : Bool
  overcoatLatched : Bool
  /-- Scopes of 0x1011 whose entries start from their defaults in this start-up (R408, R486). -/
  restoring : List Nat
  /-- SUBSYS_VENDOR and SUBSYS_ID in force since the last release of PORST_N (R90). -/
  subsystem : List Nat
deriving DecidableEq, Repr

/-- The whole machine. -/
structure State where
  /-- OSC_IN nanoseconds since the model's power-on. -/
  now : Nat
  /-- Timebase time in ns, and the remainder of the DCO accumulator (R307). -/
  timebase : Nat
  dcoRest : Nat
  /-- Commands waiting, first in, first out. -/
  pending : List Instr
  /-- What the present command put on the pins. -/
  wire : List WireItem
  /-- The session whose access the present command serves, 0xFF none: the SOURCE of the events it causes (R421). -/
  actor : Nat
  /-- The JTAG test access port (R509). -/
  tap : Tap
  /-- Scalar dictionary registers in force, by index * 256 + sub. -/
  regs : Store Nat
  /-- Shadows of STITCH scalars (R25, R127). -/
  shadow : Store Nat
  /-- DOMAIN registers in force and their STITCH shadows. -/
  doms : Store (List Byte)
  shadowDoms : Store (List Byte)
  /-- The session default of MIN_SEVERITY (R399). -/
  minSeverityDefault : Nat
  /-- The sessions (R401). -/
  sess : Store Sess
  /-- The event queue and its outputs (R421 to R424). -/
  ev : EventLog
  /-- The SPI port, the BAR0 mailbox and the CAN interfaces (R409, R417, R418). -/
  spi : SpiPort
  mailbox : Mailbox
  can : Store CanNode
  /-- When TAG_REJECTED was last raised, plus 1 (R413). -/
  tagRejectAt : Nat
  /-- UDP failures by source address, with lockout time (R403). -/
  udpFailures : Store Nat
  udpLocked : Store Nat
  /-- Draws made from the random source: the model's own counter for free values. -/
  draws : Nat
  /-- A save in progress: staging, and the two MRAM copies (R405 to R407). -/
  staging : Option SavedCopy
  stagingSess : Nat
  copy0 : SavedCopy
  copy1 : SavedCopy
  /-- HALT fields of MANAGEMENT that wait 100 ms: key, value, due (R86). -/
  mgmtWait : List (Nat × Nat × Nat)
  /-- The governor, the engines and the dispatch queue (chapters 2 and 6). -/
  gov : Gov
  engines : Store Engine
  strips : List Strip
  /-- Window entries and other counters of the dispatch are in `regs`. -/
  inputs : Store Input
  /-- Host surfaces, players, layers, canvases and heads (chapters 4, 7 and 8). -/
  hosts : Store HostSurf
  players : Store Player
  layers : Store Layer
  canvases : Store Canvas
  heads : Store Head
  /-- Commits being validated, in receipt order, and pending, by kind * 64 + number (R130). -/
  validating : List Commit
  pendingCommits : Store Commit
  /-- Writes of STITCH fields that wait for the end of a validation (R25). -/
  deferredWrites : List Deferred
  /-- The lanes and the D-lane groups (chapter 3). -/
  ulanes : Store Lane
  dlanes : Store Lane
  groups : Store Group
  /-- Uncorrectable codewords of each port in the last second: time and count (Table 3.11). -/
  fecTimes : Store (List (Nat × Nat))
  /-- The route table, the entry active for each output, the flows and the switches asked for (R146 to R154). -/
  routes : Store (List Byte)
  activeEntry : Store Nat
  flows : Store Flow
  switches : Store SwitchReq
  /-- Instant of each output's last switch, plus 1 (R152). -/
  switchedAt : Store Nat
  /-- Egress drops: per port, the times of those in the last second, and time of the last event plus 1 (R153, R159). -/
  dropCount : Store (List Nat)
  dropAt : Store Nat
  /-- Sequence numbering of each output (R150). -/
  rtpSeq : Store Nat
  /-- Coefficient banks, LUTs, 3D LUTs and the image store with its CRCs and failed images (R190 to R192, R213). -/
  banks : Store (List Byte)
  luts : Store (List Byte)
  luts3d : Store (List Byte)
  imageDesc : Store (List Byte)
  imageData : Store (List Byte)
  imageCrc : Store Nat
  imageBad : Store Bool
  /-- The tile map and the calibration table with their shadows, and the tiles (R275, R285). -/
  tileMap : Store (List Byte)
  tileShadow : Store (List Byte)
  calib : Store (List Byte)
  calibShadow : Store (List Byte)
  tiles : Store Tile
  /-- Keys and counters of the tile link, and times of its authentication failures (R280 to R284). -/
  ptl : PtlKeys
  ptlCounters : Store Nat
  authFailTimes : Store Nat
  /-- Hentis, its reference candidates and the frame timing generators (chapter 10). -/
  hentis : Hentis
  refs : Store Ref
  ftgs : Store Ftg
  /-- The audio matrix, its tables, channels and endpoints (chapter 11). -/
  audio : Audio
  channelTable : Store (List Byte)
  streamTable : Store (List Byte)
  channels : Store Channel
  endpoints : Store Endpoint
  /-- The DRAM channels and what they hold (R353 to R364). -/
  dram : Dram
  /-- Store tier: allocations in KiB by owner key, per partition (R348). -/
  scanAlloc : Store Nat
  stageAlloc : Store Nat
  liningAlloc : Store Nat
  /-- KiB that banks lost without a spare took from the LINING partition, and beyond it from SCAN (R385). -/
  liningLostKib : Nat
  /-- The Pocket store, the resilience logic, the key store, the lifetime data, the supplies and the device (chapters
  12, 13, 16 to 18). -/
  pocket : Pocket
  resil : Resil
  keys : KeyStore
  life : Lifetime
  supply : Supply
  dev : Device
deriving DecidableEq, Repr

/-! ### Values at power-on

Every field the spec gives a reset value has it; the others are named in the assumption log. -/

/-- The EventLog at power-on. -/
def EventLog.init : EventLog where
  queue := []
  nextSeq := 1
  ring := []
  nextRec := 1
  journal := []
  deferred := []
  merges := 0
  dropped := 0
  lostNow := 0
  lostSeverity := 0
  torn := 0
  evtN := false
  fired := []
  msix := []
  msixPending := []
  hostRing := []
  hostProducer := 0
  hostConsumer := 0
  hostDropped := 0
  emcy := []
  emcyAt := []
  hostWaiting := []
  udpEvents := []
  udpSeq := []

/-- The Sess at power-on. -/
def Sess.init : Sess where
  rights := .none
  isOpen := false
  authSlot := 0xFF
  authRights := 2
  clientNonce := []
  deviceNonce := List.replicate 16 0
  nonceFresh := false
  deviceProof := List.replicate 16 0
  grantSlot := 0xFF
  failures := 0
  lockedUntil := 0
  refIndex := 0
  refSub := 0
  refAbort := 0
  refDetail := 0
  refFieldIndex := 0
  refFieldSub := 0
  refEntry := 0xFFFFFFFF
  refTimeS := 0
  refTimeNs := 0
  refCount := 0
  cursor := 0
  minSeverity := 1
  lost := 0
  windows := []
  transfer := none
  reading := none
  ks := []
  lastSeq := 0
  cached := []
  sourceAddr := 0
  lastAt := 0
  asked := []
  subSeverity := 0xFF

/-- The test access port at power-on: TRST_N is pulled down, so the TAP is held in reset, where IDCODE is the instruction
in force (R509; IEEE 1149.1, log 56). -/
def Tap.init : Tap where
  trstN := false
  state := .testLogicReset
  instr := .idcode
  ir := []
  dr := []
  cells := []

/-- The SpiPort at power-on. -/
def SpiPort.init : SpiPort where
  status := 0
  index := 0
  abort := 0
  detail := 0
  data := []

/-- The Mailbox at power-on. -/
def Mailbox.init : Mailbox where
  op := 0
  address := 0
  length := 0
  offset := 0
  value := 0
  status := 0
  abort := 0
  detail := 0
  receipt := 0
  data := []

/-- The CanNode at power-on. -/
def CanNode.init : CanNode where
  nmt := 0
  heartbeatAt := 0
  pendingRpdo := []
  tpdoLast := []
  tpdoAt := []
  tpdoSync := []
  offAt := 0

/-- The SavedCopy at power-on. -/
def SavedCopy.init : SavedCopy where
  valid := false
  generation := 0
  regs := []
  doms := []
  minSeverity := 1
  routes := []
  tileMap := []
  calib := []
  banks := []
  luts := []
  luts3d := []
  imageDesc := []
  imageData := []
  imageCrc := []
  channelTable := []
  streamTable := []

/-- The Gov at power-on. -/
def Gov.init : Gov where
  yields := []
  thermal := none
  breach := false
  capExceeded := false
  ceilings := []
  lastTick := 0
  latchTick := 0
  pinCap := 180
  pinFault := false
  pinLast := 180
  pwmAt := 0
  avsFails := []
  avsFault := []
  avsAt := []
  calK := []
  calL := []
  reachAt := []
  targetAt := []
  flits := []
  linked := [0, 0, 0, 24]
  wanted := []
  deferred := []
  forced := []
  passOwed := false
  nacks := []
  hotSince := 0
  measured := 0
  dieTemp := 0

/-- The Engine at power-on. -/
def Engine.init : Engine where
  state := .active
  prior := .active
  ratio := 0x1000
  below := 0
  history := []
  work := 0
  busy := 0
  busyTo := 0
  resetAt := 0
  resetCause := 0
  eccCorrected := 0
  eccUncorrected := 0
  parity := 0
  timeouts := 0
  resets := 0
  strips := 0

/-- The Raster at power-on. -/
def Raster.init : Raster where
  width := 0
  height := 0
  px := []

/-- The Input at power-on. -/
def Input.init : Input where
  frames := []
  nextFrame := 0
  arrivals := []
  intact := 0
  clean := 0
  missing := 0
  errorsNow := false
  damaged := false
  damagedLine := 0
  damagedAt := 0
  cause := 0
  measured := []
  agree := 0
  reported := []
  line0 := 0
  pathAt := []
  lastIntactAt := 0
  packets := []
  nextSeq := 0
  buffer := []
  lines := 0
  gapSeen := false
  lastRtp := 0
  stepBad := false
  sawFrame := false
  carried := none
  leads := []
  leadBase := 0
  bandLines := 0
  band := Raster.init
  stageFull := false
  tellClass := false
  latencies := []
  fields := []
  motionWaits := false
  estimateFrom := 0
  enablePending := false

/-- The HostSurf at power-on. -/
def HostSurf.init : HostSurf where
  want := 0
  ready := false
  latches := 0
  releases := []
  copy0 := []
  copy1 := []
  lostChannel := false

/-- The Player at power-on. -/
def Player.init : Player where
  on := false
  held := []
  request := 0xFF
  askedBase := 0
  startBase := 0
  startFrame := 0
  paused := false
  shown := none
  readFault := false
  lastLatch := 0
  live := []
  loops := false
  looped := 0
  shownKey := []
  sound := []
  soundFrame := 0

/-- The Shown at power-on. -/
def Shown.init : Shown where
  how := 0
  picture := Raster.init

/-- The Layer at power-on. -/
def Layer.init : Layer where
  shown := Shown.init
  outShown := Shown.init
  reps := 0
  outReps := 0
  mix := none
  mixedAt := false
  notReady := false
  framesNotReady := 0
  gated := false
  last := none
  degraded := 0
  outLast := none
  lostFrom := 0
  outLost := 0
  chased := 0
  outChased := 0
  shownKey := []

/-- The Canvas at power-on. -/
def Canvas.init : Canvas where
  running := false
  startAfter := 0
  stopping := false
  composing := false
  slot := 0
  nextSlot := 0
  composeAt := 0
  deadline := 0
  complete := false
  margins := []
  skip := false
  fills := []
  front := []
  buffers := []
  bufferOvercoat := []
  armedFrames := 0
  runLatches := 0
  everRun := false
  imageBad := false
  liningState := 0
  liningPicture := none
  liningRoom := false
  liningRestart := false
  liningUsed := false
  wbLast := []
  wbNext := []
  wbNow := []
  wbDone := []
  baseNumber := 0
  yields := []
  config := []
  configDoms := []
  seen := []
  spoiled := []
  noBuffers := false
  presents := []
  heard := []
  damaged := []

/-- The Head at power-on. -/
def Head.init : Head where
  running := false
  startAfter := 0
  stopping := false
  frameStart := 0
  carried := 0
  started := false
  shown := .idle
  front := 0
  config := []
  canvas := 0xFF
  configDoms := []
  tiles := []
  calibs := []
  scanned := []
  underruns := 0
  short := []
  flipped := false
  idle := false
  safe := false
  safeFrames := 0
  safeRequest := none
  safeClear := false
  retime := none
  consecutive := []
  checked := []
  mismatches := []
  expected := []
  echoFaults := []
  margins := []
  live := []
  background := false
  blanked := false
  matched := false
  nextStart := 0
  sent := []
  calibDue := []
  calibBase := 0

/-- The Lane at power-on. -/
def Lane.init : Lane where
  state := .off
  trainSince := 0
  warm := false
  restarts := 0
  lowSince := 0
  goodSince := 0
  badAt := 0
  surveyed := false
  carries := 0xFF
  eq := []
  converged := []
  tx := []
  trained := []
  corrected := []

/-- The Group at power-on. -/
def Group.init : Group where
  hpdLowUntil := 0
  lastRate := 0
  devices := 0
  hdcpDown := []
  depth := 0
  told := []
  hdcp := false
  cec := 0
  edid := []
  edidDue := false
  frl := false
  ffe := 0
  scrambled := false

/-- The Flow at power-on. -/
def Flow.init : Flow where
  lastPacket := 0
  starts := []
  lineCounts := []
  lost := false

/-- The Tile at power-on. -/
def Tile.init : Tile where
  state := 0
  flags := 0
  temperature := 0
  port := 0
  seenAt := 0
  watchAt := 0
  lateAt := 0
  incomplete := 0
  authFailures := 0
  presented := 0

/-- The PtlKeys at power-on. -/
def PtlKeys.init : PtlKeys where
  salt := []
  nextSalt := []
  slot := 0xFF
  nextSlot := 0xFF
  countdown := 0
  again := false
  heartbeatAt := 0

/-- The Ref at power-on. -/
def Ref.init : Ref where
  waitSince := 0
  wait := 0
  glitchTimes := []
  intervalAt := 0
  mean := 0
  meanAtQual := 0
  everQual := false
  measured := false
  dwellSince := 0
  alarmSince := 0
  failedAt := 0
  detNum := 0
  detDen := 0
  detLines := 0
  offset := 0
  offsetValid := false
  masters := []
  chosen := 0
  goodAt := 0
  phaseAt := 0
  phaseTb := 0
  syncAt := 0
  syncInterval := 0
  reqAt := 0
  delayValid := false

/-- The Hentis at power-on. -/
def Hentis.init : Hentis where
  word := 0
  loopBw := 0
  loopFreq := 0
  loopErr := 0
  loopSum := 0
  slewTo := none
  slewFrom := 0
  slewAt := 0
  buildOut := 0
  boundSince := 0
  ignoring := false
  history := []
  wordSum := 0
  wordCount := 0
  secondClean := false
  secondAt := 0
  holdSince := 0
  holdEnd := 0
  holdValue := 0
  holdUsed := 0
  holdLimit := 0
  leftFreerun := false
  firstLock := false
  slewing := false
  alignStep := 0
  alignLeft := 0
  byPtp := false
  jump := none
  clkLow := []

/-- The Ftg at power-on. -/
def Ftg.init : Ftg where
  running := false
  startAfter := 0
  stopping := false
  lastStart := 0
  nextStart := 0
  everRun := false

/-- The Endpoint at power-on. -/
def Endpoint.init : Endpoint where
  fifo := []
  held := []
  started := false
  startAt := 0
  zeroLeft := 0
  rampLeft := 0
  rampLength := 0
  stopping := false
  lostNow := false
  lostPaths := 0
  mismatch := false
  good := false
  rate := 0
  slips := []
  slipAt := 0
  errors := []
  errorAt := 0
  seenAt := []
  nextSeq := 0
  last := []
  packet := []

/-- The Channel at power-on. -/
def Channel.init : Channel where
  entry := List.replicate 16 0
  shown := (0, 0)
  voices := []
  gainFrom := 0
  gainTo := 0
  gainLeft := 0
  clamped := false
  gated := false
  value := 0

/-- The Audio at power-on. -/
def Audio.init : Audio where
  next := 0
  lines := []
  lost := false
  startAt := 0

/-- The Dram at power-on. -/
def Dram.init : Dram where
  channel := []
  remapped := []
  copying := []
  cycleAt := 0
  held := false
  utilisation := 0
  recentreAt := 0
  power := [1, 100, 2]
  alloc := []
  inForce := [3, 0, 1, 1, 1024]
  trained := []
  training := []
  trainedNew := false
  host := []

/-- The Clip at power-on. -/
def Clip.init : Clip where
  state := 0
  drive := 0
  format := 0
  colour := 0
  width := 0
  height := 0
  rateNum := 0
  rateDen := 0
  frames := 0
  frameBlocks := 0
  audioChannels := 0
  audioRate := 0
  createdS := 0
  generation := 0
  extents := []

/-- The Capture at power-on. -/
def Capture.init : Capture where
  clip := 0
  source := 0xFFFF
  drive := 0
  first := 0
  from_ := 0
  sound := []
  queue := []
  submitted := 0
  holes := []
  written := 0
  covered := 0
  stopping := false
  closed := false
  flushed := false

/-- The Pocket at power-on. -/
def Pocket.init : Pocket where
  directory := []
  dirGen := 0
  capture := []
  waiting := []
  queues := []
  supers := []
  copyAt := []
  formatted := []

/-- The Weight at power-on. -/
def Weight.init : Weight where
  weight := 0
  decrementAt := 0
  halfRaised := false
  held := 0
  faultTimes := []
  noSpareRaised := false

/-- The Resil at power-on. -/
def Resil.init : Resil where
  weights := []
  taken := []
  retired := []
  exhausted := []
  idle := []
  patches := []
  rowFault := []
  copying := []
  retirements := 0
  unspared := []
  scrubSince := 0
  scrubErrors := 0

/-- The Slot at power-on. -/
def Slot.init : Slot where
  state := .empty
  key := []
  wrapped := []
  tag := []
  attr := 3
  algorithm := 2
  owner := 2
  root := 0
  generation := 0
  kcv := 0
  serves := 0xFF
  writes := 0
  incoming := none
  former := .empty

/-- The KeyStore at power-on. -/
def KeyStore.init : KeyStore where
  slots := []
  lifecycle := 1
  fuses := 0
  recorded := 0
  endFuse := false
  overwritePending := false
  markOverwrite := false
  challenge := none
  challengeAt := 0
  transition := none
  writing := false
  writingSlot := 0
  hdcpKeys := []
  hdcpKcv := 0
  hdcpWrap := []
  hdcpIncoming := none
  writingSess := 0xFF
  writer := 0xFF
  glitchArmed := false

/-- An MRAM copy of the lifetime data before it is first written. -/
def LifeCopy.init : LifeCopy where
  valid := false
  generation := 0
  opSeconds := 0
  cycles := 0
  brownouts := 0
  patches := 0
  checkpoints := 0
  lastCheckpoint := 0
  maxTemp := -32768
  bins := []
  samples := []
  lastFlush := []
  weights := []

/-- The Lifetime at power-on. -/
def Lifetime.init : Lifetime where
  opSeconds := 0
  cycles := 0
  brownouts := 0
  patches := 0
  checkpoints := 0
  lastCheckpoint := 0
  maxTemp := -32768
  bins := []
  acc := []
  samples := []
  lastFlush := []
  copies := []
  due := false
  secondAt := 0
  dramCorrections := []

/-- The Supply at power-on. -/
def Supply.init : Supply where
  goodSince := 0
  floorAt := 0
  heldSincePorst := false

/-- The Device at power-on. -/
def Device.init : Device where
  porstN := false
  stopped := false
  straps := 0
  bootCause := 0
  nextCause := 0
  bootAt := 0
  bistDone := false
  dramDone := false
  standbyAt := 0
  startTimes := []
  autoTried := false
  autoSuppressed := false
  restoreMarker := []
  thermtripN := true
  bistFailures := []
  fullBist := false
  overcoatPin := false
  overcoatLatched := false
  restoring := []
  subsystem := [0, 0]

/-- The machine at power-on: PORST_N low, nothing placed, no command waiting (R478, R483). -/
def State.reset : State where
  now := 0
  timebase := 0
  dcoRest := 0
  pending := []
  wire := []
  actor := 0xFF
  tap := Tap.init
  regs := []
  shadow := []
  doms := []
  shadowDoms := []
  minSeverityDefault := 1
  sess := []
  ev := EventLog.init
  spi := SpiPort.init
  mailbox := Mailbox.init
  can := []
  tagRejectAt := 0
  udpFailures := []
  udpLocked := []
  draws := 0
  staging := none
  stagingSess := 0
  copy0 := SavedCopy.init
  copy1 := SavedCopy.init
  mgmtWait := []
  gov := Gov.init
  engines := []
  strips := []
  inputs := []
  hosts := []
  players := []
  layers := []
  canvases := []
  heads := []
  validating := []
  pendingCommits := []
  deferredWrites := []
  ulanes := []
  dlanes := []
  groups := []
  fecTimes := []
  routes := []
  activeEntry := []
  flows := []
  switches := []
  switchedAt := []
  dropCount := []
  dropAt := []
  rtpSeq := []
  banks := []
  luts := []
  luts3d := []
  imageDesc := []
  imageData := []
  imageCrc := []
  imageBad := []
  tileMap := []
  tileShadow := []
  calib := []
  calibShadow := []
  tiles := []
  ptl := PtlKeys.init
  ptlCounters := []
  authFailTimes := []
  hentis := Hentis.init
  refs := []
  ftgs := []
  audio := Audio.init
  channelTable := []
  streamTable := []
  channels := []
  endpoints := []
  dram := Dram.init
  scanAlloc := []
  stageAlloc := []
  liningAlloc := []
  liningLostKib := 0
  pocket := Pocket.init
  resil := Resil.init
  keys := KeyStore.init
  life := Lifetime.init
  supply := Supply.init
  dev := Device.init

end Sys2Proof.Machine
end

