-- ==== Sys2Proof/Machine/Store.lean ====
section
/-! DEFINITION. The one way the sparse tables of the state are read and written: a key that is not
listed reads as the table's default for that key, and a write keeps the canonical form (keys strictly
rising, no entry equal to the default). -/
namespace Sys2Proof.Machine

/-- The value of key `k`, the default `d k` where the table does not list it. -/
def Store.read (d : Nat → α) : Store α → Nat → α
  | [], k => d k
  | (j, v) :: m, k => if j = k then v else Store.read d m k

/-- The table without key `k`. -/
def Store.erase (m : Store α) (k : Nat) : Store α := m.filter (fun c => decide (c.1 ≠ k))

/-- The table with `(k, v)` put before the first greater key. -/
def Store.put : Store α → Nat → α → Store α
  | [], k, v => [(k, v)]
  | (j, w) :: m, k, v => if k < j then (k, v) :: (j, w) :: m else (j, w) :: Store.put m k v

/-- The table with key `k` reading as `v`, in canonical form. -/
def Store.write [DecidableEq α] (d : Nat → α) (m : Store α) (k : Nat) (v : α) : Store α :=
  if v = d k then Store.erase m k else Store.put (Store.erase m k) k v

/-- The table changed at key `k` by a function of its present value. -/
def Store.change [DecidableEq α] (d : Nat → α) (m : Store α) (k : Nat) (f : α → α) : Store α :=
  Store.write d m k (f (Store.read d m k))

/-- The listed keys from `lo` up to but without `hi`. -/
def Store.keysIn (m : Store α) (lo hi : Nat) : List Nat :=
  (m.map Prod.fst).filter (fun k => decide (lo ≤ k ∧ k < hi))

/-- The table without the keys that `p` holds of. -/
def Store.drop (m : Store α) (p : Nat → Bool) : Store α := m.filter (fun c => !p c.1)

/-- Keys strictly rising from above `lo`. -/
def Store.risingFrom : Option Nat → Store α → Bool
  | _, [] => true
  | none, (j, _) :: m => Store.risingFrom (some j) m
  | some i, (j, _) :: m => decide (i < j) && Store.risingFrom (some j) m

/-- The canonical form: keys strictly rising and no entry equal to its default. -/
def Store.wf [DecidableEq α] (d : Nat → α) (m : Store α) : Bool :=
  Store.risingFrom none m && m.all (fun c => decide (c.2 ≠ d c.1))

end Sys2Proof.Machine
end

