-- ==== Sys2Proof/Machine/Access.lean ====
section
/-! DEFINITION. For each numbered unit of the machine: what it is before anything touches it, and the one
way its state is read and written. -/
namespace Sys2Proof.Machine
open Sys2Proof

/-- A session of Table 14.3; sessions 0 to 3 are always open (R401). Its value before anything writes it. -/
def initialSess (k : Nat) : Sess :=
  if k < 4 then { Sess.init with isOpen := true } else Sess.init
/-- A session of Table 14.3; sessions 0 to 3 are always open (R401). -/
def State.sessAt (s : State) (k : Nat) : Sess :=
  Store.read initialSess s.sess k
/-- `sess` with a new value for number `k`. -/
def State.putSess (s : State) (k : Nat) (v : Sess) : State :=
  { s with sess := Store.write initialSess s.sess k v }
/-- `sess` changed at number `k`. -/
def State.modSess (s : State) (k : Nat) (f : Sess → Sess) : State :=
  s.putSess k (f (s.sessAt k))

/-- A CANopen interface (R409). Its value before anything writes it. -/
def initialCan (_ : Nat) : CanNode :=
  CanNode.init
/-- A CANopen interface (R409). -/
def State.canAt (s : State) (k : Nat) : CanNode :=
  Store.read initialCan s.can k
/-- `can` with a new value for number `k`. -/
def State.putCan (s : State) (k : Nat) (v : CanNode) : State :=
  { s with can := Store.write initialCan s.can k v }
/-- `can` changed at number `k`. -/
def State.modCan (s : State) (k : Nat) (f : CanNode → CanNode) : State :=
  s.putCan k (f (s.canAt k))

/-- An engine; the two highest-numbered of each island start as spares (Table 1.1). Its value before anything writes it. -/
def initialEngine (k : Nat) : Engine :=
  if k ∈ [24, 25, 50, 51, 76, 77, 102, 103] then
    { Engine.init with state := .spare, prior := .spare } else Engine.init
/-- An engine; the two highest-numbered of each island start as spares (Table 1.1). -/
def State.engineAt (s : State) (k : Nat) : Engine :=
  Store.read initialEngine s.engines k
/-- `engines` with a new value for number `k`. -/
def State.putEngine (s : State) (k : Nat) (v : Engine) : State :=
  { s with engines := Store.write initialEngine s.engines k v }
/-- `engines` changed at number `k`. -/
def State.modEngine (s : State) (k : Nat) (f : Engine → Engine) : State :=
  s.putEngine k (f (s.engineAt k))

/-- A video input (chapter 4). Its value before anything writes it. -/
def initialInput (_ : Nat) : Input :=
  Input.init
/-- A video input (chapter 4). -/
def State.inputAt (s : State) (k : Nat) : Input :=
  Store.read initialInput s.inputs k
/-- `inputs` with a new value for number `k`. -/
def State.putInput (s : State) (k : Nat) (v : Input) : State :=
  { s with inputs := Store.write initialInput s.inputs k v }
/-- `inputs` changed at number `k`. -/
def State.modInput (s : State) (k : Nat) (f : Input → Input) : State :=
  s.putInput k (f (s.inputAt k))

/-- A host surface (R113). Its value before anything writes it. -/
def initialHost (_ : Nat) : HostSurf :=
  HostSurf.init
/-- A host surface (R113). -/
def State.hostAt (s : State) (k : Nat) : HostSurf :=
  Store.read initialHost s.hosts k
/-- `hosts` with a new value for number `k`. -/
def State.putHost (s : State) (k : Nat) (v : HostSurf) : State :=
  { s with hosts := Store.write initialHost s.hosts k v }
/-- `hosts` changed at number `k`. -/
def State.modHost (s : State) (k : Nat) (f : HostSurf → HostSurf) : State :=
  s.putHost k (f (s.hostAt k))

/-- A pocket player (R117). Its value before anything writes it. -/
def initialPlayer (_ : Nat) : Player :=
  Player.init
/-- A pocket player (R117). -/
def State.playerAt (s : State) (k : Nat) : Player :=
  Store.read initialPlayer s.players k
/-- `players` with a new value for number `k`. -/
def State.putPlayer (s : State) (k : Nat) (v : Player) : State :=
  { s with players := Store.write initialPlayer s.players k v }
/-- `players` changed at number `k`. -/
def State.modPlayer (s : State) (k : Nat) (f : Player → Player) : State :=
  s.putPlayer k (f (s.playerAt k))

/-- A layer at run time, by 8c + l (R204). Its value before anything writes it. -/
def initialLayer (_ : Nat) : Layer :=
  Layer.init
/-- A layer at run time, by 8c + l (R204). -/
def State.layerAt (s : State) (k : Nat) : Layer :=
  Store.read initialLayer s.layers k
/-- `layers` with a new value for number `k`. -/
def State.putLayer (s : State) (k : Nat) (v : Layer) : State :=
  { s with layers := Store.write initialLayer s.layers k v }
/-- `layers` changed at number `k`. -/
def State.modLayer (s : State) (k : Nat) (f : Layer → Layer) : State :=
  s.putLayer k (f (s.layerAt k))

/-- A canvas at run time (R194). Its value before anything writes it. -/
def initialCanvas (_ : Nat) : Canvas :=
  Canvas.init
/-- A canvas at run time (R194). -/
def State.canvasAt (s : State) (k : Nat) : Canvas :=
  Store.read initialCanvas s.canvases k
/-- `canvases` with a new value for number `k`. -/
def State.putCanvas (s : State) (k : Nat) (v : Canvas) : State :=
  { s with canvases := Store.write initialCanvas s.canvases k v }
/-- `canvases` changed at number `k`. -/
def State.modCanvas (s : State) (k : Nat) (f : Canvas → Canvas) : State :=
  s.putCanvas k (f (s.canvasAt k))

/-- A head at run time (R231). Its value before anything writes it. -/
def initialHead (_ : Nat) : Head :=
  Head.init
/-- A head at run time (R231). -/
def State.headAt (s : State) (k : Nat) : Head :=
  Store.read initialHead s.heads k
/-- `heads` with a new value for number `k`. -/
def State.putHead (s : State) (k : Nat) (v : Head) : State :=
  { s with heads := Store.write initialHead s.heads k v }
/-- `heads` changed at number `k`. -/
def State.modHead (s : State) (k : Nat) (f : Head → Head) : State :=
  s.putHead k (f (s.headAt k))

/-- A U-lane (R69). Its value before anything writes it. -/
def initialUlane (_ : Nat) : Lane :=
  Lane.init
/-- A U-lane (R69). -/
def State.ulaneAt (s : State) (k : Nat) : Lane :=
  Store.read initialUlane s.ulanes k
/-- `ulanes` with a new value for number `k`. -/
def State.putUlane (s : State) (k : Nat) (v : Lane) : State :=
  { s with ulanes := Store.write initialUlane s.ulanes k v }
/-- `ulanes` changed at number `k`. -/
def State.modUlane (s : State) (k : Nat) (f : Lane → Lane) : State :=
  s.putUlane k (f (s.ulaneAt k))

/-- A D-lane (R69). Its value before anything writes it. -/
def initialDlane (_ : Nat) : Lane :=
  Lane.init
/-- A D-lane (R69). -/
def State.dlaneAt (s : State) (k : Nat) : Lane :=
  Store.read initialDlane s.dlanes k
/-- `dlanes` with a new value for number `k`. -/
def State.putDlane (s : State) (k : Nat) (v : Lane) : State :=
  { s with dlanes := Store.write initialDlane s.dlanes k v }
/-- `dlanes` changed at number `k`. -/
def State.modDlane (s : State) (k : Nat) (f : Lane → Lane) : State :=
  s.putDlane k (f (s.dlaneAt k))

/-- A D-lane group (R78). Its value before anything writes it. -/
def initialGroup (_ : Nat) : Group :=
  Group.init
/-- A D-lane group (R78). -/
def State.groupAt (s : State) (k : Nat) : Group :=
  Store.read initialGroup s.groups k
/-- `groups` with a new value for number `k`. -/
def State.putGroup (s : State) (k : Nat) (v : Group) : State :=
  { s with groups := Store.write initialGroup s.groups k v }
/-- `groups` changed at number `k`. -/
def State.modGroup (s : State) (k : Nat) (f : Group → Group) : State :=
  s.putGroup k (f (s.groupAt k))

/-- The observed flow of a route table entry (R149). Its value before anything writes it. -/
def initialFlow (_ : Nat) : Flow :=
  Flow.init
/-- The observed flow of a route table entry (R149). -/
def State.flowAt (s : State) (k : Nat) : Flow :=
  Store.read initialFlow s.flows k
/-- `flows` with a new value for number `k`. -/
def State.putFlow (s : State) (k : Nat) (v : Flow) : State :=
  { s with flows := Store.write initialFlow s.flows k v }
/-- `flows` changed at number `k`. -/
def State.modFlow (s : State) (k : Nat) (f : Flow → Flow) : State :=
  s.putFlow k (f (s.flowAt k))

/-- A tile's status (R285). Its value before anything writes it. -/
def initialTile (_ : Nat) : Tile :=
  Tile.init
/-- A tile's status (R285). -/
def State.tileAt (s : State) (k : Nat) : Tile :=
  Store.read initialTile s.tiles k
/-- `tiles` with a new value for number `k`. -/
def State.putTile (s : State) (k : Nat) (v : Tile) : State :=
  { s with tiles := Store.write initialTile s.tiles k v }
/-- `tiles` changed at number `k`. -/
def State.modTile (s : State) (k : Nat) (f : Tile → Tile) : State :=
  s.putTile k (f (s.tileAt k))

/-- A reference candidate (R292). Its value before anything writes it. -/
def initialRef (_ : Nat) : Ref :=
  Ref.init
/-- A reference candidate (R292). -/
def State.refAt (s : State) (k : Nat) : Ref :=
  Store.read initialRef s.refs k
/-- `refs` with a new value for number `k`. -/
def State.putRef (s : State) (k : Nat) (v : Ref) : State :=
  { s with refs := Store.write initialRef s.refs k v }
/-- `refs` changed at number `k`. -/
def State.modRef (s : State) (k : Nat) (f : Ref → Ref) : State :=
  s.putRef k (f (s.refAt k))

/-- A frame timing generator (R308). Its value before anything writes it. -/
def initialFtg (_ : Nat) : Ftg :=
  Ftg.init
/-- A frame timing generator (R308). -/
def State.ftgAt (s : State) (k : Nat) : Ftg :=
  Store.read initialFtg s.ftgs k
/-- `ftgs` with a new value for number `k`. -/
def State.putFtg (s : State) (k : Nat) (v : Ftg) : State :=
  { s with ftgs := Store.write initialFtg s.ftgs k v }
/-- `ftgs` changed at number `k`. -/
def State.modFtg (s : State) (k : Nat) (f : Ftg → Ftg) : State :=
  s.putFtg k (f (s.ftgAt k))

/-- A matrix channel at run time (R331). Its value before anything writes it. -/
def initialChannel (_ : Nat) : Channel :=
  Channel.init
/-- A matrix channel at run time (R331). -/
def State.channelAt (s : State) (k : Nat) : Channel :=
  Store.read initialChannel s.channels k
/-- `channels` with a new value for number `k`. -/
def State.putChannel (s : State) (k : Nat) (v : Channel) : State :=
  { s with channels := Store.write initialChannel s.channels k v }
/-- `channels` changed at number `k`. -/
def State.modChannel (s : State) (k : Nat) (f : Channel → Channel) : State :=
  s.putChannel k (f (s.channelAt k))

/-- An audio endpoint, by its number in events (R345). Its value before anything writes it. -/
def initialEndpoint (_ : Nat) : Endpoint :=
  Endpoint.init
/-- An audio endpoint, by its number in events (R345). -/
def State.endpointAt (s : State) (k : Nat) : Endpoint :=
  Store.read initialEndpoint s.endpoints k
/-- `endpoints` with a new value for number `k`. -/
def State.putEndpoint (s : State) (k : Nat) (v : Endpoint) : State :=
  { s with endpoints := Store.write initialEndpoint s.endpoints k v }
/-- `endpoints` changed at number `k`. -/
def State.modEndpoint (s : State) (k : Nat) (f : Endpoint → Endpoint) : State :=
  s.putEndpoint k (f (s.endpointAt k))

/-- Whether an Overcoat image failed its check (R219). Its value before anything writes it. -/
def initialImageBad (_ : Nat) : Bool :=
  false
/-- Whether an Overcoat image failed its check (R219). -/
def State.imageBadAt (s : State) (k : Nat) : Bool :=
  Store.read initialImageBad s.imageBad k
/-- `imageBad` with a new value for number `k`. -/
def State.putImageBad (s : State) (k : Nat) (v : Bool) : State :=
  { s with imageBad := Store.write initialImageBad s.imageBad k v }
/-- `imageBad` changed at number `k`. -/
def State.modImageBad (s : State) (k : Nat) (f : Bool → Bool) : State :=
  s.putImageBad k (f (s.imageBadAt k))

/-- The active route table entry of an output, 0xFFFF none (R147). Its value before anything writes it. -/
def initialActive (_ : Nat) : Nat :=
  0xFFFF
/-- The active route table entry of an output, 0xFFFF none (R147). -/
def State.activeAt (s : State) (k : Nat) : Nat :=
  Store.read initialActive s.activeEntry k
/-- `activeEntry` with a new value for number `k`. -/
def State.putActive (s : State) (k : Nat) (v : Nat) : State :=
  { s with activeEntry := Store.write initialActive s.activeEntry k v }
/-- `activeEntry` changed at number `k`. -/
def State.modActive (s : State) (k : Nat) (f : Nat → Nat) : State :=
  s.putActive k (f (s.activeAt k))

/-- Consecutive wrong proofs from a source address (R403). Its value before anything writes it. -/
def initialUdpFail (_ : Nat) : Nat :=
  0
/-- Consecutive wrong proofs from a source address (R403). -/
def State.udpFailAt (s : State) (k : Nat) : Nat :=
  Store.read initialUdpFail s.udpFailures k
/-- `udpFailures` with a new value for number `k`. -/
def State.putUdpFail (s : State) (k : Nat) (v : Nat) : State :=
  { s with udpFailures := Store.write initialUdpFail s.udpFailures k v }
/-- `udpFailures` changed at number `k`. -/
def State.modUdpFail (s : State) (k : Nat) (f : Nat → Nat) : State :=
  s.putUdpFail k (f (s.udpFailAt k))

/-- Lockout end of a source address (R403). Its value before anything writes it. -/
def initialUdpLock (_ : Nat) : Nat :=
  0
/-- Lockout end of a source address (R403). -/
def State.udpLockAt (s : State) (k : Nat) : Nat :=
  Store.read initialUdpLock s.udpLocked k
/-- `udpLocked` with a new value for number `k`. -/
def State.putUdpLock (s : State) (k : Nat) (v : Nat) : State :=
  { s with udpLocked := Store.write initialUdpLock s.udpLocked k v }
/-- `udpLocked` changed at number `k`. -/
def State.modUdpLock (s : State) (k : Nat) (f : Nat → Nat) : State :=
  s.putUdpLock k (f (s.udpLockAt k))

/-- Times at which packets were dropped on a port in the last second (R153). Its value before anything writes it. -/
def initialDropped (_ : Nat) : List Nat :=
  []
/-- Times at which packets were dropped on a port in the last second (R153). -/
def State.droppedAt (s : State) (k : Nat) : List Nat :=
  Store.read initialDropped s.dropCount k
/-- `dropCount` with a new value for number `k`. -/
def State.putDropped (s : State) (k : Nat) (v : List Nat) : State :=
  { s with dropCount := Store.write initialDropped s.dropCount k v }
/-- `dropCount` changed at number `k`. -/
def State.modDropped (s : State) (k : Nat) (f : List Nat → List Nat) : State :=
  s.putDropped k (f (s.droppedAt k))

/-- Time of a port's last EGRESS_DROPS plus 1 (R153). Its value before anything writes it. -/
def initialDropTime (_ : Nat) : Nat :=
  0
/-- Time of a port's last EGRESS_DROPS plus 1 (R153). -/
def State.dropTimeAt (s : State) (k : Nat) : Nat :=
  Store.read initialDropTime s.dropAt k
/-- `dropAt` with a new value for number `k`. -/
def State.putDropTime (s : State) (k : Nat) (v : Nat) : State :=
  { s with dropAt := Store.write initialDropTime s.dropAt k v }
/-- `dropAt` changed at number `k`. -/
def State.modDropTime (s : State) (k : Nat) (f : Nat → Nat) : State :=
  s.putDropTime k (f (s.dropTimeAt k))

/-- Sequence number of an output's next packet (R150). Its value before anything writes it. -/
def initialRtp (_ : Nat) : Nat :=
  0
/-- Sequence number of an output's next packet (R150). -/
def State.rtpAt (s : State) (k : Nat) : Nat :=
  Store.read initialRtp s.rtpSeq k
/-- `rtpSeq` with a new value for number `k`. -/
def State.putRtp (s : State) (k : Nat) (v : Nat) : State :=
  { s with rtpSeq := Store.write initialRtp s.rtpSeq k v }
/-- `rtpSeq` changed at number `k`. -/
def State.modRtp (s : State) (k : Nat) (f : Nat → Nat) : State :=
  s.putRtp k (f (s.rtpAt k))

/-- IMAGE_CRC of an Overcoat image (R213). Its value before anything writes it. -/
def initialImageCrc (_ : Nat) : Nat :=
  0
/-- IMAGE_CRC of an Overcoat image (R213). -/
def State.imageCrcAt (s : State) (k : Nat) : Nat :=
  Store.read initialImageCrc s.imageCrc k
/-- `imageCrc` with a new value for number `k`. -/
def State.putImageCrc (s : State) (k : Nat) (v : Nat) : State :=
  { s with imageCrc := Store.write initialImageCrc s.imageCrc k v }
/-- `imageCrc` changed at number `k`. -/
def State.modImageCrc (s : State) (k : Nat) (f : Nat → Nat) : State :=
  s.putImageCrc k (f (s.imageCrcAt k))

/-- Packet counter of a PTL port (R266). Its value before anything writes it. -/
def initialPtlCounter (_ : Nat) : Nat :=
  0
/-- Packet counter of a PTL port (R266). -/
def State.ptlCounterAt (s : State) (k : Nat) : Nat :=
  Store.read initialPtlCounter s.ptlCounters k
/-- `ptlCounters` with a new value for number `k`. -/
def State.putPtlCounter (s : State) (k : Nat) (v : Nat) : State :=
  { s with ptlCounters := Store.write initialPtlCounter s.ptlCounters k v }
/-- `ptlCounters` changed at number `k`. -/
def State.modPtlCounter (s : State) (k : Nat) (f : Nat → Nat) : State :=
  s.putPtlCounter k (f (s.ptlCounterAt k))

/-- Time of a port's last PTL_AUTH_FAIL plus 1 (R284). Its value before anything writes it. -/
def initialAuthFail (_ : Nat) : Nat :=
  0
/-- Time of a port's last PTL_AUTH_FAIL plus 1 (R284). -/
def State.authFailAt (s : State) (k : Nat) : Nat :=
  Store.read initialAuthFail s.authFailTimes k
/-- `authFailTimes` with a new value for number `k`. -/
def State.putAuthFail (s : State) (k : Nat) (v : Nat) : State :=
  { s with authFailTimes := Store.write initialAuthFail s.authFailTimes k v }
/-- `authFailTimes` changed at number `k`. -/
def State.modAuthFail (s : State) (k : Nat) (f : Nat → Nat) : State :=
  s.putAuthFail k (f (s.authFailAt k))

/-- SCAN taken by an owner in KiB (R348). Its value before anything writes it. -/
def initialScan (_ : Nat) : Nat :=
  0
/-- SCAN taken by an owner in KiB (R348). -/
def State.scanAt (s : State) (k : Nat) : Nat :=
  Store.read initialScan s.scanAlloc k
/-- `scanAlloc` with a new value for number `k`. -/
def State.putScan (s : State) (k : Nat) (v : Nat) : State :=
  { s with scanAlloc := Store.write initialScan s.scanAlloc k v }
/-- `scanAlloc` changed at number `k`. -/
def State.modScan (s : State) (k : Nat) (f : Nat → Nat) : State :=
  s.putScan k (f (s.scanAt k))

/-- STAGE taken by an owner in KiB (R348). Its value before anything writes it. -/
def initialStage (_ : Nat) : Nat :=
  0
/-- STAGE taken by an owner in KiB (R348). -/
def State.stageAt (s : State) (k : Nat) : Nat :=
  Store.read initialStage s.stageAlloc k
/-- `stageAlloc` with a new value for number `k`. -/
def State.putStage (s : State) (k : Nat) (v : Nat) : State :=
  { s with stageAlloc := Store.write initialStage s.stageAlloc k v }
/-- `stageAlloc` changed at number `k`. -/
def State.modStage (s : State) (k : Nat) (f : Nat → Nat) : State :=
  s.putStage k (f (s.stageAt k))

/-- LINING taken by a canvas in KiB (R348). Its value before anything writes it. -/
def initialLining (_ : Nat) : Nat :=
  0
/-- LINING taken by a canvas in KiB (R348). -/
def State.liningAt (s : State) (k : Nat) : Nat :=
  Store.read initialLining s.liningAlloc k
/-- `liningAlloc` with a new value for number `k`. -/
def State.putLining (s : State) (k : Nat) (v : Nat) : State :=
  { s with liningAlloc := Store.write initialLining s.liningAlloc k v }
/-- `liningAlloc` changed at number `k`. -/
def State.modLining (s : State) (k : Nat) (f : Nat → Nat) : State :=
  s.putLining k (f (s.liningAt k))

/-- A route table entry, 32 bytes (R146). Its value before anything writes it. -/
def initialRoute (_ : Nat) : List Byte :=
  zeros 32
/-- A route table entry, 32 bytes (R146). -/
def State.routeAt (s : State) (k : Nat) : List Byte :=
  Store.read initialRoute s.routes k
/-- `routes` with a new value for number `k`. -/
def State.putRoute (s : State) (k : Nat) (v : List Byte) : State :=
  { s with routes := Store.write initialRoute s.routes k v }
/-- `routes` changed at number `k`. -/
def State.modRoute (s : State) (k : Nat) (f : List Byte → List Byte) : State :=
  s.putRoute k (f (s.routeAt k))

/-- A coefficient bank as loaded (R168). Its value before anything writes it. -/
def initialBank (_ : Nat) : List Byte :=
  []
/-- A coefficient bank as loaded (R168). -/
def State.bankAt (s : State) (k : Nat) : List Byte :=
  Store.read initialBank s.banks k
/-- `banks` with a new value for number `k`. -/
def State.putBank (s : State) (k : Nat) (v : List Byte) : State :=
  { s with banks := Store.write initialBank s.banks k v }
/-- `banks` changed at number `k`. -/
def State.modBank (s : State) (k : Nat) (f : List Byte → List Byte) : State :=
  s.putBank k (f (s.bankAt k))

/-- A 1D LUT as loaded (R191). Its value before anything writes it. -/
def initialLut (_ : Nat) : List Byte :=
  []
/-- A 1D LUT as loaded (R191). -/
def State.lutAt (s : State) (k : Nat) : List Byte :=
  Store.read initialLut s.luts k
/-- `luts` with a new value for number `k`. -/
def State.putLut (s : State) (k : Nat) (v : List Byte) : State :=
  { s with luts := Store.write initialLut s.luts k v }
/-- `luts` changed at number `k`. -/
def State.modLut (s : State) (k : Nat) (f : List Byte → List Byte) : State :=
  s.putLut k (f (s.lutAt k))

/-- A 3D LUT as loaded (R191). Its value before anything writes it. -/
def initialLut3d (_ : Nat) : List Byte :=
  []
/-- A 3D LUT as loaded (R191). -/
def State.lut3dAt (s : State) (k : Nat) : List Byte :=
  Store.read initialLut3d s.luts3d k
/-- `luts3d` with a new value for number `k`. -/
def State.putLut3d (s : State) (k : Nat) (v : List Byte) : State :=
  { s with luts3d := Store.write initialLut3d s.luts3d k v }
/-- `luts3d` changed at number `k`. -/
def State.modLut3d (s : State) (k : Nat) (f : List Byte → List Byte) : State :=
  s.putLut3d k (f (s.lut3dAt k))

/-- An Overcoat image descriptor (R213). Its value before anything writes it. -/
def initialImageDesc (_ : Nat) : List Byte :=
  zeros 16
/-- An Overcoat image descriptor (R213). -/
def State.imageDescAt (s : State) (k : Nat) : List Byte :=
  Store.read initialImageDesc s.imageDesc k
/-- `imageDesc` with a new value for number `k`. -/
def State.putImageDesc (s : State) (k : Nat) (v : List Byte) : State :=
  { s with imageDesc := Store.write initialImageDesc s.imageDesc k v }
/-- `imageDesc` changed at number `k`. -/
def State.modImageDesc (s : State) (k : Nat) (f : List Byte → List Byte) : State :=
  s.putImageDesc k (f (s.imageDescAt k))

/-- The pixels of an Overcoat image (R213). Its value before anything writes it. -/
def initialImageData (_ : Nat) : List Byte :=
  []
/-- The pixels of an Overcoat image (R213). -/
def State.imageDataAt (s : State) (k : Nat) : List Byte :=
  Store.read initialImageData s.imageData k
/-- `imageData` with a new value for number `k`. -/
def State.putImageData (s : State) (k : Nat) (v : List Byte) : State :=
  { s with imageData := Store.write initialImageData s.imageData k v }
/-- `imageData` changed at number `k`. -/
def State.modImageData (s : State) (k : Nat) (f : List Byte → List Byte) : State :=
  s.putImageData k (f (s.imageDataAt k))

/-- A tile-map entry in force (R268). Its value before anything writes it. -/
def initialTileEntry (_ : Nat) : List Byte :=
  zeros 32
/-- A tile-map entry in force (R268). -/
def State.tileEntryAt (s : State) (k : Nat) : List Byte :=
  Store.read initialTileEntry s.tileMap k
/-- `tileMap` with a new value for number `k`. -/
def State.putTileEntry (s : State) (k : Nat) (v : List Byte) : State :=
  { s with tileMap := Store.write initialTileEntry s.tileMap k v }
/-- `tileMap` changed at number `k`. -/
def State.modTileEntry (s : State) (k : Nat) (f : List Byte → List Byte) : State :=
  s.putTileEntry k (f (s.tileEntryAt k))

/-- A tile-map entry's shadow (R275). Its value before anything writes it. -/
def initialTileShadow (_ : Nat) : List Byte :=
  zeros 32
/-- A tile-map entry's shadow (R275). -/
def State.tileShadowAt (s : State) (k : Nat) : List Byte :=
  Store.read initialTileShadow s.tileShadow k
/-- `tileShadow` with a new value for number `k`. -/
def State.putTileShadow (s : State) (k : Nat) (v : List Byte) : State :=
  { s with tileShadow := Store.write initialTileShadow s.tileShadow k v }
/-- `tileShadow` changed at number `k`. -/
def State.modTileShadow (s : State) (k : Nat) (f : List Byte → List Byte) : State :=
  s.putTileShadow k (f (s.tileShadowAt k))

/-- A calibration entry in force (R273). Its value before anything writes it. -/
def initialCalib (_ : Nat) : List Byte :=
  zeros 24
/-- A calibration entry in force (R273). -/
def State.calibAt (s : State) (k : Nat) : List Byte :=
  Store.read initialCalib s.calib k
/-- `calib` with a new value for number `k`. -/
def State.putCalib (s : State) (k : Nat) (v : List Byte) : State :=
  { s with calib := Store.write initialCalib s.calib k v }
/-- `calib` changed at number `k`. -/
def State.modCalib (s : State) (k : Nat) (f : List Byte → List Byte) : State :=
  s.putCalib k (f (s.calibAt k))

/-- A calibration entry's shadow (R275). Its value before anything writes it. -/
def initialCalibShadow (_ : Nat) : List Byte :=
  zeros 24
/-- A calibration entry's shadow (R275). -/
def State.calibShadowAt (s : State) (k : Nat) : List Byte :=
  Store.read initialCalibShadow s.calibShadow k
/-- `calibShadow` with a new value for number `k`. -/
def State.putCalibShadow (s : State) (k : Nat) (v : List Byte) : State :=
  { s with calibShadow := Store.write initialCalibShadow s.calibShadow k v }
/-- `calibShadow` changed at number `k`. -/
def State.modCalibShadow (s : State) (k : Nat) (f : List Byte → List Byte) : State :=
  s.putCalibShadow k (f (s.calibShadowAt k))

/-- A matrix channel entry (Table 11.5). Its value before anything writes it. -/
def initialChannelEntry (_ : Nat) : List Byte :=
  zeros 16
/-- A matrix channel entry (Table 11.5). -/
def State.channelEntryAt (s : State) (k : Nat) : List Byte :=
  Store.read initialChannelEntry s.channelTable k
/-- `channelTable` with a new value for number `k`. -/
def State.putChannelEntry (s : State) (k : Nat) (v : List Byte) : State :=
  { s with channelTable := Store.write initialChannelEntry s.channelTable k v }
/-- `channelTable` changed at number `k`. -/
def State.modChannelEntry (s : State) (k : Nat) (f : List Byte → List Byte) : State :=
  s.putChannelEntry k (f (s.channelEntryAt k))

/-- A stream entry (Table 11.6). Its value before anything writes it. -/
def initialStreamEntry (_ : Nat) : List Byte :=
  zeros 32
/-- A stream entry (Table 11.6). -/
def State.streamEntryAt (s : State) (k : Nat) : List Byte :=
  Store.read initialStreamEntry s.streamTable k
/-- `streamTable` with a new value for number `k`. -/
def State.putStreamEntry (s : State) (k : Nat) (v : List Byte) : State :=
  { s with streamTable := Store.write initialStreamEntry s.streamTable k v }
/-- `streamTable` changed at number `k`. -/
def State.modStreamEntry (s : State) (k : Nat) (f : List Byte → List Byte) : State :=
  s.putStreamEntry k (f (s.streamEntryAt k))

end Sys2Proof.Machine
end

