-- ==== Sys2Proof/Machine/Entry.lean ====
section
/-! DEFINITION. What a dictionary entry is: its type, access, rights, apply class, default and range
(R396, R397), and the numbers of its keys. -/
namespace Sys2Proof.Machine

/-- Types of Table 14.1 (R397); `q16` is Q16.16 and `q32` is Q32.16 (R6). -/
inductive DType where
  | bool | u8 | u16 | u32 | u64 | i16 | i32 | i64 | q16 | q32 | f32 | vstr | domain
deriving DecidableEq, Repr

/-- Access of an entry (R396). -/
inductive Access where
  | const | ro | rw | wo
deriving DecidableEq, Repr

/-- Apply class of an entry (R127, R128); `fixed` for one that no write reaches. -/
inductive Apply where
  | fixed | live | stitch | halt
deriving DecidableEq, Repr

/-- The Range column of an entry's table (R396, R400 check 6). -/
inductive Range where
  /-- Any value of the type. -/
  | any
  /-- From `lo` to `hi`, read with the sign of the type. -/
  | within (lo hi : Int)
  /-- From `lo` to `hi`, or one of `others`. -/
  | withinOr (lo hi : Int) (others : List Nat)
  | oneOf (values : List Nat)
  /-- Bits outside `mask` are reserved (R5). -/
  | bits (mask : Nat)
  | multiple (n : Nat)
  /-- A power of two from `lo` to `hi`. -/
  | pow2 (lo hi : Nat)
  /-- A multicast Ethernet address in bits 47:0, the others reserved (R289). -/
  | multicast
  /-- Bits 7:0 at most `hi` (R375). -/
  | lowByte (hi : Nat)
  /-- A DOMAIN or VSTR of `lo` to `hi` bytes (R397). -/
  | length (lo hi : Nat)
deriving DecidableEq, Repr

/-- The Default column: one value, one by item, an item's number added, or a value that the state
gives (`dynamic`, with what it reads before anything is written). -/
inductive Dflt where
  | val (v : Nat)
  | list (vs : List Nat)
  | item (v : Nat)
  /-- `first` for a canvas's L0 and `rest` for its other layers (R225). -/
  | layer0 (first rest : Nat)
  /-- Device base MAC address plus the port number (R87). -/
  | mac
  /-- A value that Config names, by number. -/
  | config (k : Nat)
deriving DecidableEq, Repr

/-- One row of an object's table: instances `base` to `base + count - 1`, sub-indices `lo` to `hi`. -/
structure EntryDef where
  base : Nat
  count : Nat
  lo : Nat
  hi : Nat
  type : DType
  access : Access
  rights : Rights
  apply : Apply
  dflt : Dflt
  range : Range
  saved : Bool
deriving DecidableEq, Repr

/-- The register key of item `k` of the entry in instance `n`: index * 256 + sub. -/
abbrev EntryDef.key (e : EntryDef) (n : Nat := 0) (k : Nat := 0) : Nat :=
  (e.base + n) * 256 + e.lo + k

/-- Size in bytes of a scalar type (Table 14.1); 0 for VSTR and DOMAIN. -/
def DType.size : DType → Nat
  | .bool | .u8 => 1
  | .u16 | .i16 => 2
  | .u32 | .i32 | .q16 | .f32 => 4
  | .u64 | .i64 | .q32 => 8
  | .vstr | .domain => 0

/-- Whether the type is carried as a block of bytes (R397). -/
def DType.isBlock : DType → Bool
  | .vstr | .domain => true
  | _ => false

/-- Whether the type is read as two's complement (R6, R397). -/
def DType.isSigned : DType → Bool
  | .i16 | .i32 | .i64 | .q16 | .q32 => true
  | _ => false

/-- The rank of rights, lowest to highest (R398). -/
def Rights.rank : Rights → Nat
  | .none => 0
  | .operator => 1
  | .integrator => 2
  | .service => 3

/-- Rights of a rank; ranks above 3 are SERVICE (R398). -/
def Rights.ofRank : Nat → Rights
  | 0 => .none
  | 1 => .operator
  | 2 => .integrator
  | _ => .service

end Sys2Proof.Machine
end

