-- ==== Sys2Proof/Machine/DictAudio.lean ====
section
/-! DEFINITION. The dictionary entries of the spec's chapter 11, one definition per row of its tables,
written from those tables (R396). -/
namespace Sys2Proof.Machine.Dict

/-- 0x3000 + n:00 SAP HIGHEST_SUB (R343). -/
abbrev SAP_HIGHEST_SUB : EntryDef :=
  ⟨0x3000, 8, 0x00, 0x00, .u8, .const, .operator, .fixed, .val 0x13, .any, false⟩
/-- 0x3000 + n:01 SAP ENABLE (R343). -/
abbrev SAP_ENABLE : EntryDef :=
  ⟨0x3000, 8, 0x01, 0x01, .bool, .rw, .integrator, .live, .val 0, .within 0 1, true⟩
/-- 0x3000 + n:02 SAP DIRECTION (R343). -/
abbrev SAP_DIRECTION : EntryDef :=
  ⟨0x3000, 8, 0x02, 0x02, .u8, .rw, .integrator, .halt, .val 0, .oneOf [0, 1], true⟩
/-- 0x3000 + n:03 SAP FORMAT (R343). -/
abbrev SAP_FORMAT : EntryDef :=
  ⟨0x3000, 8, 0x03, 0x03, .u8, .rw, .integrator, .halt, .val 0, .oneOf [0, 1, 2], true⟩
/-- 0x3000 + n:04 SAP SLOTS (R343). -/
abbrev SAP_SLOTS : EntryDef :=
  ⟨0x3000, 8, 0x04, 0x04, .u8, .rw, .integrator, .halt, .val 2, .oneOf [2, 4, 8, 16], true⟩
/-- 0x3000 + n:05 SAP WORD_BITS (R343). -/
abbrev SAP_WORD_BITS : EntryDef :=
  ⟨0x3000, 8, 0x05, 0x05, .u8, .rw, .integrator, .halt, .val 24, .oneOf [16, 24, 32], true⟩
/-- 0x3000 + n:06 SAP CLOCK_ROLE (R343). -/
abbrev SAP_CLOCK_ROLE : EntryDef :=
  ⟨0x3000, 8, 0x06, 0x06, .u8, .rw, .integrator, .halt, .val 0, .oneOf [0, 1], true⟩
/-- 0x3000 + n:07 SAP MCLK_RATIO (R343). -/
abbrev SAP_MCLK_RATIO : EntryDef :=
  ⟨0x3000, 8, 0x07, 0x07, .u16, .rw, .integrator, .halt, .val 256, .oneOf [256, 512], true⟩
/-- 0x3000 + n:08 SAP MCLK_OUT (R343). -/
abbrev SAP_MCLK_OUT : EntryDef :=
  ⟨0x3000, 8, 0x08, 0x08, .bool, .rw, .integrator, .halt, .val 1, .within 0 1, true⟩
/-- 0x3000 + n:09 SAP FSYNC_WIDTH (R343). -/
abbrev SAP_FSYNC_WIDTH : EntryDef :=
  ⟨0x3000, 8, 0x09, 0x09, .u8, .rw, .integrator, .halt, .val 0, .oneOf [0, 1], true⟩
/-- 0x3000 + n:0A SAP BCLK_EDGE (R343). -/
abbrev SAP_BCLK_EDGE : EntryDef :=
  ⟨0x3000, 8, 0x0A, 0x0A, .u8, .rw, .integrator, .halt, .val 0, .within 0 1, true⟩
/-- 0x3000 + n:0B SAP TX_MAP (R343). -/
abbrev SAP_TX_MAP : EntryDef :=
  ⟨0x3000, 8, 0x0B, 0x0B, .domain, .rw, .operator, .live, .val 0, .length 32 32, true⟩
/-- 0x3000 + n:0C SAP STATE (R343). -/
abbrev SAP_STATE : EntryDef :=
  ⟨0x3000, 8, 0x0C, 0x0C, .u8, .ro, .operator, .fixed, .val 0, .any, false⟩
/-- 0x3000 + n:0D SAP MEASURED_RATE (R343). -/
abbrev SAP_MEASURED_RATE : EntryDef :=
  ⟨0x3000, 8, 0x0D, 0x0D, .u64, .ro, .operator, .fixed, .val 0, .any, false⟩
/-- 0x3000 + n:0E SAP DIV_NUM (R343). -/
abbrev SAP_DIV_NUM : EntryDef :=
  ⟨0x3000, 8, 0x0E, 0x0E, .u64, .ro, .operator, .fixed, .val 0, .any, false⟩
/-- 0x3000 + n:0F SAP DIV_DEN (R343). -/
abbrev SAP_DIV_DEN : EntryDef :=
  ⟨0x3000, 8, 0x0F, 0x0F, .u64, .ro, .operator, .fixed, .val 0, .any, false⟩
/-- 0x3000 + n:10 SAP SLIPS (R343). -/
abbrev SAP_SLIPS : EntryDef :=
  ⟨0x3000, 8, 0x10, 0x10, .u32, .ro, .operator, .fixed, .val 0, .any, false⟩
/-- 0x3000 + n:11 SAP UNDERRUNS (R343). -/
abbrev SAP_UNDERRUNS : EntryDef :=
  ⟨0x3000, 8, 0x11, 0x11, .u32, .ro, .operator, .fixed, .val 0, .any, false⟩
/-- 0x3000 + n:12 SAP OVERRUNS (R343). -/
abbrev SAP_OVERRUNS : EntryDef :=
  ⟨0x3000, 8, 0x12, 0x12, .u32, .ro, .operator, .fixed, .val 0, .any, false⟩
/-- 0x3000 + n:13 SAP CLOCK_LOSSES (R343). -/
abbrev SAP_CLOCK_LOSSES : EntryDef :=
  ⟨0x3000, 8, 0x13, 0x13, .u32, .ro, .operator, .fixed, .val 0, .any, false⟩
/-- The rows of SAP. -/
def rows_SAP : List EntryDef :=
  [SAP_HIGHEST_SUB,
   SAP_ENABLE,
   SAP_DIRECTION,
   SAP_FORMAT,
   SAP_SLOTS,
   SAP_WORD_BITS,
   SAP_CLOCK_ROLE,
   SAP_MCLK_RATIO,
   SAP_MCLK_OUT,
   SAP_FSYNC_WIDTH,
   SAP_BCLK_EDGE,
   SAP_TX_MAP,
   SAP_STATE,
   SAP_MEASURED_RATE,
   SAP_DIV_NUM,
   SAP_DIV_DEN,
   SAP_SLIPS,
   SAP_UNDERRUNS,
   SAP_OVERRUNS,
   SAP_CLOCK_LOSSES]

/-- 0x3010:00 AUDIO_MATRIX HIGHEST_SUB (R344). -/
abbrev AUDIO_MATRIX_HIGHEST_SUB : EntryDef :=
  ⟨0x3010, 1, 0x00, 0x00, .u8, .const, .operator, .fixed, .val 0xa, .any, false⟩
/-- 0x3010:01 AUDIO_MATRIX MATRIX_RATE_NUM (R344). -/
abbrev AUDIO_MATRIX_MATRIX_RATE_NUM : EntryDef :=
  ⟨0x3010, 1, 0x01, 0x01, .u32, .rw, .integrator, .halt, .val 48000,
    .oneOf [32000, 44100, 48000, 88200, 96000, 176400, 192000], true⟩
/-- 0x3010:02 AUDIO_MATRIX MATRIX_RATE_DEN (R344). -/
abbrev AUDIO_MATRIX_MATRIX_RATE_DEN : EntryDef :=
  ⟨0x3010, 1, 0x02, 0x02, .u32, .rw, .integrator, .halt, .val 1, .oneOf [1], true⟩
/-- 0x3010:03 AUDIO_MATRIX CHANNEL_WINDOW (R344). -/
abbrev AUDIO_MATRIX_CHANNEL_WINDOW : EntryDef :=
  ⟨0x3010, 1, 0x03, 0x03, .u8, .rw, .operator, .live, .val 0, .within 0 255, false⟩
/-- 0x3010:04 AUDIO_MATRIX CHANNEL_TABLE (R344). -/
abbrev AUDIO_MATRIX_CHANNEL_TABLE : EntryDef :=
  ⟨0x3010, 1, 0x04, 0x04, .domain, .rw, .operator, .live, .val 0, .length 0 4096, false⟩
/-- 0x3010:05 AUDIO_MATRIX HEAD_MAP (R344). -/
abbrev AUDIO_MATRIX_HEAD_MAP : EntryDef :=
  ⟨0x3010, 1, 0x05, 0x05, .domain, .rw, .integrator, .live, .val 0, .length 1024 1024, true⟩
/-- 0x3010:06 AUDIO_MATRIX STREAM_WINDOW (R344). -/
abbrev AUDIO_MATRIX_STREAM_WINDOW : EntryDef :=
  ⟨0x3010, 1, 0x06, 0x06, .u8, .rw, .integrator, .live, .val 0, .within 0 127, false⟩
/-- 0x3010:07 AUDIO_MATRIX STREAM_TABLE (R344). -/
abbrev AUDIO_MATRIX_STREAM_TABLE : EntryDef :=
  ⟨0x3010, 1, 0x07, 0x07, .domain, .rw, .integrator, .live, .val 0, .length 0 4096, false⟩
/-- 0x3010:08 AUDIO_MATRIX CHANNELS_ACTIVE (R344). -/
abbrev AUDIO_MATRIX_CHANNELS_ACTIVE : EntryDef :=
  ⟨0x3010, 1, 0x08, 0x08, .u16, .ro, .operator, .fixed, .val 0, .any, false⟩
/-- 0x3010:09 AUDIO_MATRIX CHANNELS_GATED (R344). -/
abbrev AUDIO_MATRIX_CHANNELS_GATED : EntryDef :=
  ⟨0x3010, 1, 0x09, 0x09, .u16, .ro, .operator, .fixed, .val 0, .any, false⟩
/-- 0x3010:0A AUDIO_MATRIX SLIP_TOTAL (R344). -/
abbrev AUDIO_MATRIX_SLIP_TOTAL : EntryDef :=
  ⟨0x3010, 1, 0x0A, 0x0A, .u64, .ro, .operator, .fixed, .val 0, .any, false⟩
/-- The rows of AUDIO_MATRIX. -/
def rows_AUDIO_MATRIX : List EntryDef :=
  [AUDIO_MATRIX_HIGHEST_SUB,
   AUDIO_MATRIX_MATRIX_RATE_NUM,
   AUDIO_MATRIX_MATRIX_RATE_DEN,
   AUDIO_MATRIX_CHANNEL_WINDOW,
   AUDIO_MATRIX_CHANNEL_TABLE,
   AUDIO_MATRIX_HEAD_MAP,
   AUDIO_MATRIX_STREAM_WINDOW,
   AUDIO_MATRIX_STREAM_TABLE,
   AUDIO_MATRIX_CHANNELS_ACTIVE,
   AUDIO_MATRIX_CHANNELS_GATED,
   AUDIO_MATRIX_SLIP_TOTAL]

/-- 0x3020:00 AUDIO_START HIGHEST_SUB (R345). -/
abbrev AUDIO_START_HIGHEST_SUB : EntryDef :=
  ⟨0x3020, 1, 0x00, 0x00, .u8, .const, .operator, .fixed, .val 0xc, .any, false⟩
/-- 0x3020:01 AUDIO_START SAP_MASK (R345). -/
abbrev AUDIO_START_SAP_MASK : EntryDef :=
  ⟨0x3020, 1, 0x01, 0x01, .u8, .rw, .operator, .live, .val 0x0, .any, true⟩
/-- 0x3020:02 AUDIO_START SENDER_MASK (R345). -/
abbrev AUDIO_START_SENDER_MASK : EntryDef :=
  ⟨0x3020, 1, 0x02, 0x02, .u64, .rw, .operator, .live, .val 0, .any, true⟩
/-- 0x3020:03 AUDIO_START START_S (R345). -/
abbrev AUDIO_START_START_S : EntryDef :=
  ⟨0x3020, 1, 0x03, 0x03, .u64, .rw, .operator, .live, .val 0, .bits 0xFFFFFFFFFFFF, false⟩
/-- 0x3020:04 AUDIO_START START_NS (R345). -/
abbrev AUDIO_START_START_NS : EntryDef :=
  ⟨0x3020, 1, 0x04, 0x04, .u32, .rw, .operator, .live, .val 0, .within 0 999999999, false⟩
/-- 0x3020:05 AUDIO_START TRIGGER (R345). -/
abbrev AUDIO_START_TRIGGER : EntryDef :=
  ⟨0x3020, 1, 0x05, 0x05, .u8, .wo, .operator, .live, .val 0, .oneOf [1, 2], false⟩
/-- 0x3020:06 AUDIO_START PIN_ENABLE (R345). -/
abbrev AUDIO_START_PIN_ENABLE : EntryDef :=
  ⟨0x3020, 1, 0x06, 0x06, .bool, .rw, .integrator, .live, .val 0, .within 0 1, true⟩
/-- 0x3020:07 AUDIO_START ZERO_FRAMES (R345). -/
abbrev AUDIO_START_ZERO_FRAMES : EntryDef :=
  ⟨0x3020, 1, 0x07, 0x07, .u16, .rw, .integrator, .live, .val 64, .within 0 4096, true⟩
/-- 0x3020:08 AUDIO_START MUTE_RAMP (R345). -/
abbrev AUDIO_START_MUTE_RAMP : EntryDef :=
  ⟨0x3020, 1, 0x08, 0x08, .u16, .rw, .integrator, .live, .val 10, .within 1 500, true⟩
/-- 0x3020:09 AUDIO_START STATE (R345). -/
abbrev AUDIO_START_STATE : EntryDef :=
  ⟨0x3020, 1, 0x09, 0x09, .u8, .ro, .operator, .fixed, .val 0, .any, false⟩
/-- 0x3020:0A AUDIO_START START_AT_S (R345). -/
abbrev AUDIO_START_START_AT_S : EntryDef :=
  ⟨0x3020, 1, 0x0A, 0x0A, .u64, .ro, .operator, .fixed, .val 0, .any, false⟩
/-- 0x3020:0B AUDIO_START START_AT_NS (R345). -/
abbrev AUDIO_START_START_AT_NS : EntryDef :=
  ⟨0x3020, 1, 0x0B, 0x0B, .u32, .ro, .operator, .fixed, .val 0, .any, false⟩
/-- 0x3020:0C AUDIO_START STARTS (R345). -/
abbrev AUDIO_START_STARTS : EntryDef :=
  ⟨0x3020, 1, 0x0C, 0x0C, .u32, .ro, .operator, .fixed, .val 0, .any, false⟩
/-- The rows of AUDIO_START. -/
def rows_AUDIO_START : List EntryDef :=
  [AUDIO_START_HIGHEST_SUB,
   AUDIO_START_SAP_MASK,
   AUDIO_START_SENDER_MASK,
   AUDIO_START_START_S,
   AUDIO_START_START_NS,
   AUDIO_START_TRIGGER,
   AUDIO_START_PIN_ENABLE,
   AUDIO_START_ZERO_FRAMES,
   AUDIO_START_MUTE_RAMP,
   AUDIO_START_STATE,
   AUDIO_START_START_AT_S,
   AUDIO_START_START_AT_NS,
   AUDIO_START_STARTS]

end Sys2Proof.Machine.Dict
end

