-- ==== Sys2Proof/Machine/DictComposition.lean ====
section
/-! DEFINITION. The dictionary entries of the spec's chapter 07, one definition per row of its tables,
written from those tables (R396). -/
namespace Sys2Proof.Machine.Dict

/-- 0x2800 + n:00 CANVAS HIGHEST_SUB (R224). -/
abbrev CANVAS_HIGHEST_SUB : EntryDef :=
  ⟨0x2800, 8, 0x00, 0x00, .u8, .const, .operator, .fixed, .val 0x16, .any, false⟩
/-- 0x2800 + n:01 CANVAS ENABLE (R224). -/
abbrev CANVAS_ENABLE : EntryDef :=
  ⟨0x2800, 8, 0x01, 0x01, .bool, .rw, .integrator, .live, .val 0, .within 0 1, true⟩
/-- 0x2800 + n:02 CANVAS FTG (R224). -/
abbrev CANVAS_FTG : EntryDef :=
  ⟨0x2800, 8, 0x02, 0x02, .u8, .rw, .integrator, .halt, .val 0, .within 0 7, true⟩
/-- 0x2800 + n:03 CANVAS SLOTS (R224). -/
abbrev CANVAS_SLOTS : EntryDef :=
  ⟨0x2800, 8, 0x03, 0x03, .u8, .rw, .integrator, .halt, .val 1, .oneOf [1, 2, 3, 4, 6, 8], true⟩
/-- 0x2800 + n:04 CANVAS WIDTH (R224). -/
abbrev CANVAS_WIDTH : EntryDef :=
  ⟨0x2800, 8, 0x04, 0x04, .u16, .rw, .integrator, .halt, .val 1920, .within 16 32768, true⟩
/-- 0x2800 + n:05 CANVAS HEIGHT (R224). -/
abbrev CANVAS_HEIGHT : EntryDef :=
  ⟨0x2800, 8, 0x05, 0x05, .u16, .rw, .integrator, .halt, .val 1080, .within 16 32768, true⟩
/-- 0x2800 + n:06 CANVAS BACKGROUND (R224). -/
abbrev CANVAS_BACKGROUND : EntryDef :=
  ⟨0x2800, 8, 0x06, 0x06, .u32, .rw, .operator, .stitch, .val 0xc0000000, .any, true⟩
/-- 0x2800 + n:07 CANVAS ORDER_MODE (R224). -/
abbrev CANVAS_ORDER_MODE : EntryDef :=
  ⟨0x2800, 8, 0x07, 0x07, .u8, .rw, .operator, .stitch, .val 0, .oneOf [0, 1], true⟩
/-- 0x2800 + n:08 CANVAS ORDER (R224). -/
abbrev CANVAS_ORDER : EntryDef :=
  ⟨0x2800, 8, 0x08, 0x08, .u32, .rw, .operator, .stitch, .val 0x76543210, .any, true⟩
/-- 0x2800 + n:09 CANVAS DITHER (R224). -/
abbrev CANVAS_DITHER : EntryDef :=
  ⟨0x2800, 8, 0x09, 0x09, .u8, .rw, .integrator, .stitch, .val 3, .oneOf [0, 1, 2, 3], true⟩
/-- 0x2800 + n:0A–0B CANVAS WB_DESC (R224). -/
abbrev CANVAS_WB_DESC : EntryDef :=
  ⟨0x2800, 8, 0x0A, 0x0B, .domain, .rw, .integrator, .stitch, .val 0, .length 48 48, true⟩
/-- 0x2800 + n:0C CANVAS CLASS (R224). -/
abbrev CANVAS_CLASS : EntryDef :=
  ⟨0x2800, 8, 0x0C, 0x0C, .u8, .rw, .integrator, .live, .val 0, .oneOf [0, 1], true⟩
/-- 0x2800 + n:0D CANVAS PRIORITY (R224). -/
abbrev CANVAS_PRIORITY : EntryDef :=
  ⟨0x2800, 8, 0x0D, 0x0D, .u8, .rw, .integrator, .live, .val 8, .within 0 15, true⟩
/-- 0x2800 + n:0E CANVAS STATE (R224). -/
abbrev CANVAS_STATE : EntryDef :=
  ⟨0x2800, 8, 0x0E, 0x0E, .u8, .ro, .operator, .fixed, .val 0, .any, false⟩
/-- 0x2800 + n:0F CANVAS LEAD_HEAD (R224). -/
abbrev CANVAS_LEAD_HEAD : EntryDef :=
  ⟨0x2800, 8, 0x0F, 0x0F, .u8, .ro, .operator, .fixed, .val 0xff, .any, false⟩
/-- 0x2800 + n:10 CANVAS BASE_FRAMES (R224). -/
abbrev CANVAS_BASE_FRAMES : EntryDef :=
  ⟨0x2800, 8, 0x10, 0x10, .u64, .ro, .operator, .fixed, .val 0, .any, false⟩
/-- 0x2800 + n:11 CANVAS LATE_FRAMES (R224). -/
abbrev CANVAS_LATE_FRAMES : EntryDef :=
  ⟨0x2800, 8, 0x11, 0x11, .u32, .ro, .operator, .fixed, .val 0, .any, false⟩
/-- 0x2800 + n:12–13 CANVAS WB_FRAMES (R224). -/
abbrev CANVAS_WB_FRAMES : EntryDef :=
  ⟨0x2800, 8, 0x12, 0x13, .u64, .ro, .operator, .fixed, .val 0, .any, false⟩
/-- 0x2800 + n:14 CANVAS WB_MSIX_VECTOR (R224). -/
abbrev CANVAS_WB_MSIX_VECTOR : EntryDef :=
  ⟨0x2800, 8, 0x14, 0x14, .u8, .rw, .operator, .live, .val 0xff, .withinOr 0 63 [255], true⟩
/-- 0x2800 + n:15 CANVAS WB_STATE (R224). -/
abbrev CANVAS_WB_STATE : EntryDef :=
  ⟨0x2800, 8, 0x15, 0x15, .u8, .ro, .operator, .fixed, .val 0x0, .any, false⟩
/-- 0x2800 + n:16 CANVAS DEMAND (R224). -/
abbrev CANVAS_DEMAND : EntryDef :=
  ⟨0x2800, 8, 0x16, 0x16, .q16, .ro, .operator, .fixed, .val 0, .any, false⟩
/-- The rows of CANVAS. -/
def rows_CANVAS : List EntryDef :=
  [CANVAS_HIGHEST_SUB,
   CANVAS_ENABLE,
   CANVAS_FTG,
   CANVAS_SLOTS,
   CANVAS_WIDTH,
   CANVAS_HEIGHT,
   CANVAS_BACKGROUND,
   CANVAS_ORDER_MODE,
   CANVAS_ORDER,
   CANVAS_DITHER,
   CANVAS_WB_DESC,
   CANVAS_CLASS,
   CANVAS_PRIORITY,
   CANVAS_STATE,
   CANVAS_LEAD_HEAD,
   CANVAS_BASE_FRAMES,
   CANVAS_LATE_FRAMES,
   CANVAS_WB_FRAMES,
   CANVAS_WB_MSIX_VECTOR,
   CANVAS_WB_STATE,
   CANVAS_DEMAND]

/-- 0x2810 + n:00 LAYER HIGHEST_SUB (R225). -/
abbrev LAYER_HIGHEST_SUB : EntryDef :=
  ⟨0x2810, 64, 0x00, 0x00, .u8, .const, .operator, .fixed, .val 0x2a, .any, false⟩
/-- 0x2810 + n:01 LAYER ENABLE (R225). -/
abbrev LAYER_ENABLE : EntryDef :=
  ⟨0x2810, 64, 0x01, 0x01, .bool, .rw, .operator, .stitch, .layer0 1 0, .within 0 1, true⟩
/-- 0x2810 + n:02 LAYER SOURCE_KIND (R225). -/
abbrev LAYER_SOURCE_KIND : EntryDef :=
  ⟨0x2810, 64, 0x02, 0x02, .u8, .rw, .operator, .stitch, .val 0, .oneOf [0, 1, 2, 3], true⟩
/-- 0x2810 + n:03 LAYER SOURCE_NUM (R225). -/
abbrev LAYER_SOURCE_NUM : EntryDef :=
  ⟨0x2810, 64, 0x03, 0x03, .u8, .rw, .operator, .stitch, .val 0, .within 0 63, true⟩
/-- 0x2810 + n:04 LAYER TRANSITION (R225). -/
abbrev LAYER_TRANSITION : EntryDef :=
  ⟨0x2810, 64, 0x04, 0x04, .u8, .rw, .operator, .stitch, .val 0, .oneOf [0, 1], true⟩
/-- 0x2810 + n:05 LAYER MIX_FRAMES (R225). -/
abbrev LAYER_MIX_FRAMES : EntryDef :=
  ⟨0x2810, 64, 0x05, 0x05, .u8, .rw, .operator, .stitch, .val 25, .within 1 255, true⟩
/-- 0x2810 + n:06 LAYER POS_X (R225). -/
abbrev LAYER_POS_X : EntryDef :=
  ⟨0x2810, 64, 0x06, 0x06, .i32, .rw, .operator, .stitch, .val 0, .within (-32768) 32767, true⟩
/-- 0x2810 + n:07 LAYER POS_Y (R225). -/
abbrev LAYER_POS_Y : EntryDef :=
  ⟨0x2810, 64, 0x07, 0x07, .i32, .rw, .operator, .stitch, .val 0, .within (-32768) 32767, true⟩
/-- 0x2810 + n:08 LAYER WIDTH (R225). -/
abbrev LAYER_WIDTH : EntryDef :=
  ⟨0x2810, 64, 0x08, 0x08, .u16, .rw, .operator, .stitch, .val 1920, .within 1 32768, true⟩
/-- 0x2810 + n:09 LAYER HEIGHT (R225). -/
abbrev LAYER_HEIGHT : EntryDef :=
  ⟨0x2810, 64, 0x09, 0x09, .u16, .rw, .operator, .stitch, .val 1080, .within 1 32768, true⟩
/-- 0x2810 + n:0A LAYER CROP_X (R225). -/
abbrev LAYER_CROP_X : EntryDef :=
  ⟨0x2810, 64, 0x0A, 0x0A, .u16, .rw, .operator, .stitch, .val 0, .any, true⟩
/-- 0x2810 + n:0B LAYER CROP_Y (R225). -/
abbrev LAYER_CROP_Y : EntryDef :=
  ⟨0x2810, 64, 0x0B, 0x0B, .u16, .rw, .operator, .stitch, .val 0, .any, true⟩
/-- 0x2810 + n:0C LAYER CROP_W (R225). -/
abbrev LAYER_CROP_W : EntryDef :=
  ⟨0x2810, 64, 0x0C, 0x0C, .u16, .rw, .operator, .stitch, .val 0, .withinOr 1 16384 [0], true⟩
/-- 0x2810 + n:0D LAYER CROP_H (R225). -/
abbrev LAYER_CROP_H : EntryDef :=
  ⟨0x2810, 64, 0x0D, 0x0D, .u16, .rw, .operator, .stitch, .val 0, .withinOr 1 16384 [0], true⟩
/-- 0x2810 + n:0E LAYER OPACITY (R225). -/
abbrev LAYER_OPACITY : EntryDef :=
  ⟨0x2810, 64, 0x0E, 0x0E, .u16, .rw, .operator, .stitch, .val 0xffff, .within 0 65535, true⟩
/-- 0x2810 + n:0F LAYER ALPHA_MODE (R225). -/
abbrev LAYER_ALPHA_MODE : EntryDef :=
  ⟨0x2810, 64, 0x0F, 0x0F, .u8, .rw, .operator, .stitch, .layer0 1 0, .oneOf [0, 1], true⟩
/-- 0x2810 + n:10 LAYER BLEND_CLASS (R225). -/
abbrev LAYER_BLEND_CLASS : EntryDef :=
  ⟨0x2810, 64, 0x10, 0x10, .u8, .rw, .operator, .stitch, .val 0, .oneOf [0, 1], true⟩
/-- 0x2810 + n:11 LAYER KEY_TYPE (R225). -/
abbrev LAYER_KEY_TYPE : EntryDef :=
  ⟨0x2810, 64, 0x11, 0x11, .u8, .rw, .operator, .stitch, .val 0, .oneOf [0, 1], true⟩
/-- 0x2810 + n:12 LAYER KEY_LOW (R225). -/
abbrev LAYER_KEY_LOW : EntryDef :=
  ⟨0x2810, 64, 0x12, 0x12, .u32, .rw, .operator, .stitch, .val 0, .bits 0x3FFFFFFF, true⟩
/-- 0x2810 + n:13 LAYER KEY_HIGH (R225). -/
abbrev LAYER_KEY_HIGH : EntryDef :=
  ⟨0x2810, 64, 0x13, 0x13, .u32, .rw, .operator, .stitch, .val 0, .bits 0x3FFFFFFF, true⟩
/-- 0x2810 + n:14 LAYER KEY_SOFTNESS (R225). -/
abbrev LAYER_KEY_SOFTNESS : EntryDef :=
  ⟨0x2810, 64, 0x14, 0x14, .u16, .rw, .operator, .stitch, .val 0, .within 0 1023, true⟩
/-- 0x2810 + n:15 LAYER KEY_INVERT (R225). -/
abbrev LAYER_KEY_INVERT : EntryDef :=
  ⟨0x2810, 64, 0x15, 0x15, .bool, .rw, .operator, .stitch, .val 0, .within 0 1, true⟩
/-- 0x2810 + n:16 LAYER SLOT_MASK (R225). -/
abbrev LAYER_SLOT_MASK : EntryDef :=
  ⟨0x2810, 64, 0x16, 0x16, .u8, .rw, .operator, .stitch, .val 0xff, .any, true⟩
/-- 0x2810 + n:17 LAYER NOT_READY (R225). -/
abbrev LAYER_NOT_READY : EntryDef :=
  ⟨0x2810, 64, 0x17, 0x17, .u8, .rw, .operator, .stitch, .val 0, .oneOf [0, 1, 2, 3], true⟩
/-- 0x2810 + n:18 LAYER REPEAT_LIMIT (R225). -/
abbrev LAYER_REPEAT_LIMIT : EntryDef :=
  ⟨0x2810, 64, 0x18, 0x18, .u8, .rw, .operator, .stitch, .val 4, .within 1 15, true⟩
/-- 0x2810 + n:19 LAYER FILL_COLOUR (R225). -/
abbrev LAYER_FILL_COLOUR : EntryDef :=
  ⟨0x2810, 64, 0x19, 0x19, .u32, .rw, .operator, .stitch, .val 0xc0000000, .any, true⟩
/-- 0x2810 + n:1A LAYER POCKET_SLATE (R225). -/
abbrev LAYER_POCKET_SLATE : EntryDef :=
  ⟨0x2810, 64, 0x1A, 0x1A, .u8, .rw, .operator, .stitch, .val 0, .within 0 31, true⟩
/-- 0x2810 + n:1B LAYER STATIC (R225). -/
abbrev LAYER_STATIC : EntryDef :=
  ⟨0x2810, 64, 0x1B, 0x1B, .bool, .rw, .operator, .stitch, .val 0, .within 0 1, true⟩
/-- 0x2810 + n:1C LAYER H_TAPS (R225). -/
abbrev LAYER_H_TAPS : EntryDef :=
  ⟨0x2810, 64, 0x1C, 0x1C, .u8, .rw, .integrator, .stitch, .val 8, .oneOf [2, 4, 6, 8], true⟩
/-- 0x2810 + n:1D LAYER V_TAPS (R225). -/
abbrev LAYER_V_TAPS : EntryDef :=
  ⟨0x2810, 64, 0x1D, 0x1D, .u8, .rw, .integrator, .stitch, .val 8, .oneOf [2, 4, 6, 8], true⟩
/-- 0x2810 + n:1E LAYER H_BANK (R225). -/
abbrev LAYER_H_BANK : EntryDef :=
  ⟨0x2810, 64, 0x1E, 0x1E, .u8, .rw, .integrator, .stitch, .val 0, .within 0 31, true⟩
/-- 0x2810 + n:1F LAYER V_BANK (R225). -/
abbrev LAYER_V_BANK : EntryDef :=
  ⟨0x2810, 64, 0x1F, 0x1F, .u8, .rw, .integrator, .stitch, .val 0, .within 0 31, true⟩
/-- 0x2810 + n:20 LAYER LUT3D (R225). -/
abbrev LAYER_LUT3D : EntryDef :=
  ⟨0x2810, 64, 0x20, 0x20, .u8, .rw, .integrator, .stitch, .val 0, .oneOf [0, 1, 2, 3, 4], true⟩
/-- 0x2810 + n:21 LAYER DEGRADE_OK (R225). -/
abbrev LAYER_DEGRADE_OK : EntryDef :=
  ⟨0x2810, 64, 0x21, 0x21, .bool, .rw, .integrator, .stitch, .val 0, .within 0 1, true⟩
/-- 0x2810 + n:22 LAYER CLASS (R225). -/
abbrev LAYER_CLASS : EntryDef :=
  ⟨0x2810, 64, 0x22, 0x22, .u8, .rw, .integrator, .live, .val 0, .oneOf [0, 1], true⟩
/-- 0x2810 + n:23 LAYER PRIORITY (R225). -/
abbrev LAYER_PRIORITY : EntryDef :=
  ⟨0x2810, 64, 0x23, 0x23, .u8, .rw, .integrator, .live, .val 8, .within 0 15, true⟩
/-- 0x2810 + n:24 LAYER READY (R225). -/
abbrev LAYER_READY : EntryDef :=
  ⟨0x2810, 64, 0x24, 0x24, .u8, .ro, .operator, .fixed, .val 0, .any, false⟩
/-- 0x2810 + n:25 LAYER REPEAT_COUNT (R225). -/
abbrev LAYER_REPEAT_COUNT : EntryDef :=
  ⟨0x2810, 64, 0x25, 0x25, .u8, .ro, .operator, .fixed, .val 0, .any, false⟩
/-- 0x2810 + n:26 LAYER NOT_READY_FRAMES (R225). -/
abbrev LAYER_NOT_READY_FRAMES : EntryDef :=
  ⟨0x2810, 64, 0x26, 0x26, .u32, .ro, .operator, .fixed, .val 0, .any, false⟩
/-- 0x2810 + n:27 LAYER ACTIVE_TAPS (R225). -/
abbrev LAYER_ACTIVE_TAPS : EntryDef :=
  ⟨0x2810, 64, 0x27, 0x27, .u16, .ro, .operator, .fixed, .val 0x808, .any, false⟩
/-- 0x2810 + n:28 LAYER LINED (R225). -/
abbrev LAYER_LINED : EntryDef :=
  ⟨0x2810, 64, 0x28, 0x28, .bool, .ro, .operator, .fixed, .val 0, .any, false⟩
/-- 0x2810 + n:29 LAYER MIX_REMAINING (R225). -/
abbrev LAYER_MIX_REMAINING : EntryDef :=
  ⟨0x2810, 64, 0x29, 0x29, .u8, .ro, .operator, .fixed, .val 0, .any, false⟩
/-- 0x2810 + n:2A LAYER SOURCE_RASTER (R225). -/
abbrev LAYER_SOURCE_RASTER : EntryDef :=
  ⟨0x2810, 64, 0x2A, 0x2A, .u32, .ro, .operator, .fixed, .val 0, .any, false⟩
/-- The rows of LAYER. -/
def rows_LAYER : List EntryDef :=
  [LAYER_HIGHEST_SUB,
   LAYER_ENABLE,
   LAYER_SOURCE_KIND,
   LAYER_SOURCE_NUM,
   LAYER_TRANSITION,
   LAYER_MIX_FRAMES,
   LAYER_POS_X,
   LAYER_POS_Y,
   LAYER_WIDTH,
   LAYER_HEIGHT,
   LAYER_CROP_X,
   LAYER_CROP_Y,
   LAYER_CROP_W,
   LAYER_CROP_H,
   LAYER_OPACITY,
   LAYER_ALPHA_MODE,
   LAYER_BLEND_CLASS,
   LAYER_KEY_TYPE,
   LAYER_KEY_LOW,
   LAYER_KEY_HIGH,
   LAYER_KEY_SOFTNESS,
   LAYER_KEY_INVERT,
   LAYER_SLOT_MASK,
   LAYER_NOT_READY,
   LAYER_REPEAT_LIMIT,
   LAYER_FILL_COLOUR,
   LAYER_POCKET_SLATE,
   LAYER_STATIC,
   LAYER_H_TAPS,
   LAYER_V_TAPS,
   LAYER_H_BANK,
   LAYER_V_BANK,
   LAYER_LUT3D,
   LAYER_DEGRADE_OK,
   LAYER_CLASS,
   LAYER_PRIORITY,
   LAYER_READY,
   LAYER_REPEAT_COUNT,
   LAYER_NOT_READY_FRAMES,
   LAYER_ACTIVE_TAPS,
   LAYER_LINED,
   LAYER_MIX_REMAINING,
   LAYER_SOURCE_RASTER]

/-- 0x2850:00 OVERCOAT HIGHEST_SUB (R226). -/
abbrev OVERCOAT_HIGHEST_SUB : EntryDef :=
  ⟨0x2850, 1, 0x00, 0x00, .u8, .const, .operator, .fixed, .val 0x17, .any, false⟩
/-- 0x2850:01 OVERCOAT ARM (R226). -/
abbrev OVERCOAT_ARM : EntryDef :=
  ⟨0x2850, 1, 0x01, 0x01, .u8, .rw, .integrator, .live, .val 0x0, .any, true⟩
/-- 0x2850:02 OVERCOAT PIN_MASK (R226). -/
abbrev OVERCOAT_PIN_MASK : EntryDef :=
  ⟨0x2850, 1, 0x02, 0x02, .u8, .rw, .integrator, .live, .val 0x0, .any, true⟩
/-- 0x2850:03 OVERCOAT PIN_LATCH (R226). -/
abbrev OVERCOAT_PIN_LATCH : EntryDef :=
  ⟨0x2850, 1, 0x03, 0x03, .bool, .rw, .integrator, .live, .val 0, .within 0 1, true⟩
/-- 0x2850:04 OVERCOAT LATCH_CLEAR (R226). -/
abbrev OVERCOAT_LATCH_CLEAR : EntryDef :=
  ⟨0x2850, 1, 0x04, 0x04, .u8, .wo, .integrator, .live, .val 0, .oneOf [1], false⟩
/-- 0x2850:05 OVERCOAT ARMED (R226). -/
abbrev OVERCOAT_ARMED : EntryDef :=
  ⟨0x2850, 1, 0x05, 0x05, .u8, .ro, .operator, .fixed, .val 0x0, .any, false⟩
/-- 0x2850:06 OVERCOAT PIN_STATE (R226). -/
abbrev OVERCOAT_PIN_STATE : EntryDef :=
  ⟨0x2850, 1, 0x06, 0x06, .bool, .ro, .operator, .fixed, .val 0, .any, false⟩
/-- 0x2850:07 OVERCOAT BOOT_ARM (R226). -/
abbrev OVERCOAT_BOOT_ARM : EntryDef :=
  ⟨0x2850, 1, 0x07, 0x07, .u8, .rw, .integrator, .live, .val 0x0, .any, true⟩
/-- 0x2850:08 OVERCOAT FAULT_COLOUR (R226). -/
abbrev OVERCOAT_FAULT_COLOUR : EntryDef :=
  ⟨0x2850, 1, 0x08, 0x08, .u32, .rw, .integrator, .live, .val 0xfff00000, .any, true⟩
/-- 0x2850:09 OVERCOAT IMAGE_WINDOW (R226). -/
abbrev OVERCOAT_IMAGE_WINDOW : EntryDef :=
  ⟨0x2850, 1, 0x09, 0x09, .u8, .rw, .integrator, .live, .val 0, .within 0 15, false⟩
/-- 0x2850:0A OVERCOAT IMAGE_DESC (R226). -/
abbrev OVERCOAT_IMAGE_DESC : EntryDef :=
  ⟨0x2850, 1, 0x0A, 0x0A, .domain, .rw, .integrator, .live, .val 0, .length 16 16, false⟩
/-- 0x2850:0B OVERCOAT IMAGE_DATA (R226). -/
abbrev OVERCOAT_IMAGE_DATA : EntryDef :=
  ⟨0x2850, 1, 0x0B, 0x0B, .domain, .rw, .integrator, .live, .val 0, .length 0 33554432, false⟩
/-- 0x2850:0C OVERCOAT IMAGE_CRC (R226). -/
abbrev OVERCOAT_IMAGE_CRC : EntryDef :=
  ⟨0x2850, 1, 0x0C, 0x0C, .u32, .ro, .operator, .fixed, .val 0, .any, false⟩
/-- 0x2850:0D OVERCOAT IMAGES_LOADED (R226). -/
abbrev OVERCOAT_IMAGES_LOADED : EntryDef :=
  ⟨0x2850, 1, 0x0D, 0x0D, .u16, .ro, .operator, .fixed, .val 0x0, .any, false⟩
/-- 0x2850:0E OVERCOAT BYTES_FREE (R226). -/
abbrev OVERCOAT_BYTES_FREE : EntryDef :=
  ⟨0x2850, 1, 0x0E, 0x0E, .u32, .ro, .operator, .fixed, .val 33554432, .any, false⟩
/-- 0x2850:10–17 OVERCOAT PLACE (R226). -/
abbrev OVERCOAT_PLACE : EntryDef :=
  ⟨0x2850, 1, 0x10, 0x17, .domain, .rw, .integrator, .stitch, .val 0, .length 12 12, true⟩
/-- The rows of OVERCOAT. -/
def rows_OVERCOAT : List EntryDef :=
  [OVERCOAT_HIGHEST_SUB,
   OVERCOAT_ARM,
   OVERCOAT_PIN_MASK,
   OVERCOAT_PIN_LATCH,
   OVERCOAT_LATCH_CLEAR,
   OVERCOAT_ARMED,
   OVERCOAT_PIN_STATE,
   OVERCOAT_BOOT_ARM,
   OVERCOAT_FAULT_COLOUR,
   OVERCOAT_IMAGE_WINDOW,
   OVERCOAT_IMAGE_DESC,
   OVERCOAT_IMAGE_DATA,
   OVERCOAT_IMAGE_CRC,
   OVERCOAT_IMAGES_LOADED,
   OVERCOAT_BYTES_FREE,
   OVERCOAT_PLACE]

/-- 0x2858:00 LINING HIGHEST_SUB (R227). -/
abbrev LINING_HIGHEST_SUB : EntryDef :=
  ⟨0x2858, 1, 0x00, 0x00, .u8, .const, .operator, .fixed, .val 0x19, .any, false⟩
/-- 0x2858:01 LINING ENABLE (R227). -/
abbrev LINING_ENABLE : EntryDef :=
  ⟨0x2858, 1, 0x01, 0x01, .u8, .rw, .integrator, .live, .val 0xff, .any, true⟩
/-- 0x2858:02 LINING REBUILD (R227). -/
abbrev LINING_REBUILD : EntryDef :=
  ⟨0x2858, 1, 0x02, 0x02, .u8, .wo, .integrator, .live, .val 0, .any, false⟩
/-- 0x2858:08–0F LINING STATE (R227). -/
abbrev LINING_STATE : EntryDef :=
  ⟨0x2858, 1, 0x08, 0x0F, .u8, .ro, .operator, .fixed, .val 0, .any, false⟩
/-- 0x2858:10–17 LINING LINED_MASK (R227). -/
abbrev LINING_LINED_MASK : EntryDef :=
  ⟨0x2858, 1, 0x10, 0x17, .u8, .ro, .operator, .fixed, .val 0x0, .any, false⟩
/-- 0x2858:18 LINING KIB_USED (R227). -/
abbrev LINING_KIB_USED : EntryDef :=
  ⟨0x2858, 1, 0x18, 0x18, .u32, .ro, .operator, .fixed, .val 0, .any, false⟩
/-- 0x2858:19 LINING REBUILDS (R227). -/
abbrev LINING_REBUILDS : EntryDef :=
  ⟨0x2858, 1, 0x19, 0x19, .u32, .ro, .operator, .fixed, .val 0, .any, false⟩
/-- The rows of LINING. -/
def rows_LINING : List EntryDef :=
  [LINING_HIGHEST_SUB,
   LINING_ENABLE,
   LINING_REBUILD,
   LINING_STATE,
   LINING_LINED_MASK,
   LINING_KIB_USED,
   LINING_REBUILDS]

end Sys2Proof.Machine.Dict
end

