-- ==== Sys2Proof/Machine/DictEngines.lean ====
section
/-! DEFINITION. The dictionary entries of the spec's chapter 06, one definition per row of its tables,
written from those tables (R396). -/
namespace Sys2Proof.Machine.Dict

/-- 0x2600:00 ENGINE_POOL HIGHEST_SUB (R189). -/
abbrev ENGINE_POOL_HIGHEST_SUB : EntryDef :=
  ⟨0x2600, 1, 0x00, 0x00, .u8, .const, .operator, .fixed, .val 0xc, .any, false⟩
/-- 0x2600:01 ENGINE_POOL ACTIVE_ENGINES (R189). -/
abbrev ENGINE_POOL_ACTIVE_ENGINES : EntryDef :=
  ⟨0x2600, 1, 0x01, 0x01, .u8, .ro, .operator, .fixed, .val 96, .any, false⟩
/-- 0x2600:02 ENGINE_POOL SPARE_ENGINES (R189). -/
abbrev ENGINE_POOL_SPARE_ENGINES : EntryDef :=
  ⟨0x2600, 1, 0x02, 0x02, .u8, .ro, .operator, .fixed, .val 8, .any, false⟩
/-- 0x2600:03 ENGINE_POOL RETIRED_ENGINES (R189). -/
abbrev ENGINE_POOL_RETIRED_ENGINES : EntryDef :=
  ⟨0x2600, 1, 0x03, 0x03, .u8, .ro, .operator, .fixed, .val 0, .any, false⟩
/-- 0x2600:04 ENGINE_POOL STRIPS_COMPLETED (R189). -/
abbrev ENGINE_POOL_STRIPS_COMPLETED : EntryDef :=
  ⟨0x2600, 1, 0x04, 0x04, .u64, .ro, .operator, .fixed, .val 0, .any, false⟩
/-- 0x2600:05 ENGINE_POOL STRIPS_REISSUED (R189). -/
abbrev ENGINE_POOL_STRIPS_REISSUED : EntryDef :=
  ⟨0x2600, 1, 0x05, 0x05, .u64, .ro, .operator, .fixed, .val 0, .any, false⟩
/-- 0x2600:06 ENGINE_POOL STRIPS_RETRIED (R189). -/
abbrev ENGINE_POOL_STRIPS_RETRIED : EntryDef :=
  ⟨0x2600, 1, 0x06, 0x06, .u64, .ro, .operator, .fixed, .val 0, .any, false⟩
/-- 0x2600:07 ENGINE_POOL STRIPS_ABANDONED (R189). -/
abbrev ENGINE_POOL_STRIPS_ABANDONED : EntryDef :=
  ⟨0x2600, 1, 0x07, 0x07, .u32, .ro, .operator, .fixed, .val 0, .any, false⟩
/-- 0x2600:08 ENGINE_POOL MOTION_INPUTS (R189). -/
abbrev ENGINE_POOL_MOTION_INPUTS : EntryDef :=
  ⟨0x2600, 1, 0x08, 0x08, .u8, .ro, .operator, .fixed, .val 0, .any, false⟩
/-- 0x2600:09 ENGINE_POOL MOTION_FALLBACK_MAD (R189). -/
abbrev ENGINE_POOL_MOTION_FALLBACK_MAD : EntryDef :=
  ⟨0x2600, 1, 0x09, 0x09, .u16, .rw, .integrator, .live, .val 24, .within 1 1023, true⟩
/-- 0x2600:0A ENGINE_POOL MOTION_CUT_FRACTION (R189). -/
abbrev ENGINE_POOL_MOTION_CUT_FRACTION : EntryDef :=
  ⟨0x2600, 1, 0x0A, 0x0A, .u8, .rw, .integrator, .live, .val 50, .within 10 100, true⟩
/-- 0x2600:0B ENGINE_POOL FAULT_TABLE (R189). -/
abbrev ENGINE_POOL_FAULT_TABLE : EntryDef :=
  ⟨0x2600, 1, 0x0B, 0x0B, .domain, .ro, .operator, .fixed, .val 0, .length 0 4294967295, false⟩
/-- 0x2600:0C ENGINE_POOL CLEAR_COUNTERS (R189). -/
abbrev ENGINE_POOL_CLEAR_COUNTERS : EntryDef :=
  ⟨0x2600, 1, 0x0C, 0x0C, .u8, .wo, .service, .live, .val 0, .oneOf [1], false⟩
/-- The rows of ENGINE_POOL. -/
def rows_ENGINE_POOL : List EntryDef :=
  [ENGINE_POOL_HIGHEST_SUB,
   ENGINE_POOL_ACTIVE_ENGINES,
   ENGINE_POOL_SPARE_ENGINES,
   ENGINE_POOL_RETIRED_ENGINES,
   ENGINE_POOL_STRIPS_COMPLETED,
   ENGINE_POOL_STRIPS_REISSUED,
   ENGINE_POOL_STRIPS_RETRIED,
   ENGINE_POOL_STRIPS_ABANDONED,
   ENGINE_POOL_MOTION_INPUTS,
   ENGINE_POOL_MOTION_FALLBACK_MAD,
   ENGINE_POOL_MOTION_CUT_FRACTION,
   ENGINE_POOL_FAULT_TABLE,
   ENGINE_POOL_CLEAR_COUNTERS]

/-- 0x2610:00 COEFF_BANKS HIGHEST_SUB (R190). -/
abbrev COEFF_BANKS_HIGHEST_SUB : EntryDef :=
  ⟨0x2610, 1, 0x00, 0x00, .u8, .const, .operator, .fixed, .val 0x4, .any, false⟩
/-- 0x2610:01 COEFF_BANKS BANK_WINDOW (R190). -/
abbrev COEFF_BANKS_BANK_WINDOW : EntryDef :=
  ⟨0x2610, 1, 0x01, 0x01, .u8, .rw, .integrator, .live, .val 4, .within 0 31, false⟩
/-- 0x2610:02 COEFF_BANKS BANK_DATA (R190). -/
abbrev COEFF_BANKS_BANK_DATA : EntryDef :=
  ⟨0x2610, 1, 0x02, 0x02, .domain, .rw, .integrator, .live, .val 0, .length 1024 1024, false⟩
/-- 0x2610:03 COEFF_BANKS BANK_LOADED (R190). -/
abbrev COEFF_BANKS_BANK_LOADED : EntryDef :=
  ⟨0x2610, 1, 0x03, 0x03, .u32, .ro, .operator, .fixed, .val 0xf, .any, false⟩
/-- 0x2610:04 COEFF_BANKS BANK_IN_USE (R190). -/
abbrev COEFF_BANKS_BANK_IN_USE : EntryDef :=
  ⟨0x2610, 1, 0x04, 0x04, .u32, .ro, .operator, .fixed, .val 0, .any, false⟩
/-- The rows of COEFF_BANKS. -/
def rows_COEFF_BANKS : List EntryDef :=
  [COEFF_BANKS_HIGHEST_SUB,
   COEFF_BANKS_BANK_WINDOW,
   COEFF_BANKS_BANK_DATA,
   COEFF_BANKS_BANK_LOADED,
   COEFF_BANKS_BANK_IN_USE]

/-- 0x2620:00 COLOUR_LUTS HIGHEST_SUB (R191). -/
abbrev COLOUR_LUTS_HIGHEST_SUB : EntryDef :=
  ⟨0x2620, 1, 0x00, 0x00, .u8, .const, .operator, .fixed, .val 0x57, .any, false⟩
/-- 0x2620:01 COLOUR_LUTS LUT_WINDOW (R191). -/
abbrev COLOUR_LUTS_LUT_WINDOW : EntryDef :=
  ⟨0x2620, 1, 0x01, 0x01, .u8, .rw, .integrator, .live, .val 8, .within 0 31, false⟩
/-- 0x2620:02 COLOUR_LUTS LUT_DATA (R191). -/
abbrev COLOUR_LUTS_LUT_DATA : EntryDef :=
  ⟨0x2620, 1, 0x02, 0x02, .domain, .rw, .integrator, .live, .val 0, .length 8192 8192, false⟩
/-- 0x2620:03 COLOUR_LUTS LUT3D_WINDOW (R191). -/
abbrev COLOUR_LUTS_LUT3D_WINDOW : EntryDef :=
  ⟨0x2620, 1, 0x03, 0x03, .u8, .rw, .integrator, .live, .val 0, .within 0 3, false⟩
/-- 0x2620:04 COLOUR_LUTS LUT3D_DATA (R191). -/
abbrev COLOUR_LUTS_LUT3D_DATA : EntryDef :=
  ⟨0x2620, 1, 0x04, 0x04, .domain, .rw, .integrator, .live, .val 0, .length 29478 29478, false⟩
/-- 0x2620:05 COLOUR_LUTS LUT_LOADED (R191). -/
abbrev COLOUR_LUTS_LUT_LOADED : EntryDef :=
  ⟨0x2620, 1, 0x05, 0x05, .u32, .ro, .operator, .fixed, .val 0x7f, .any, false⟩
/-- 0x2620:06 COLOUR_LUTS LUT_IN_USE (R191). -/
abbrev COLOUR_LUTS_LUT_IN_USE : EntryDef :=
  ⟨0x2620, 1, 0x06, 0x06, .u32, .ro, .operator, .fixed, .val 0, .any, false⟩
/-- 0x2620:07 COLOUR_LUTS LUT3D_STATE (R191). -/
abbrev COLOUR_LUTS_LUT3D_STATE : EntryDef :=
  ⟨0x2620, 1, 0x07, 0x07, .u8, .ro, .operator, .fixed, .val 0x0, .any, false⟩
/-- 0x2620:10–17 COLOUR_LUTS TARGET_PRIMARIES (R191). -/
abbrev COLOUR_LUTS_TARGET_PRIMARIES : EntryDef :=
  ⟨0x2620, 1, 0x10, 0x17, .u8, .rw, .integrator, .stitch, .val 0, .oneOf [0, 1, 2], true⟩
/-- 0x2620:18–1F COLOUR_LUTS TARGET_PEAK (R191). -/
abbrev COLOUR_LUTS_TARGET_PEAK : EntryDef :=
  ⟨0x2620, 1, 0x18, 0x1F, .u16, .rw, .integrator, .stitch, .val 1000, .within 80 10000, true⟩
/-- 0x2620:20–27 COLOUR_LUTS SDR_WHITE (R191). -/
abbrev COLOUR_LUTS_SDR_WHITE : EntryDef :=
  ⟨0x2620, 1, 0x20, 0x27, .u16, .rw, .integrator, .stitch, .val 203, .within 48 1000, true⟩
/-- 0x2620:28–2F COLOUR_LUTS PQ_SOURCE_PEAK (R191). -/
abbrev COLOUR_LUTS_PQ_SOURCE_PEAK : EntryDef :=
  ⟨0x2620, 1, 0x28, 0x2F, .u16, .rw, .integrator, .stitch, .val 1000, .within 400 10000, true⟩
/-- 0x2620:30–37 COLOUR_LUTS TONE_MODE (R191). -/
abbrev COLOUR_LUTS_TONE_MODE : EntryDef :=
  ⟨0x2620, 1, 0x30, 0x37, .u8, .rw, .integrator, .stitch, .val 1, .oneOf [0, 1, 2], true⟩
/-- 0x2620:38–3F COLOUR_LUTS TONE_LUT (R191). -/
abbrev COLOUR_LUTS_TONE_LUT : EntryDef :=
  ⟨0x2620, 1, 0x38, 0x3F, .u8, .rw, .integrator, .stitch, .val 8, .within 8 31, true⟩
/-- 0x2620:40–47 COLOUR_LUTS OUTPUT_TRANSFER (R191). -/
abbrev COLOUR_LUTS_OUTPUT_TRANSFER : EntryDef :=
  ⟨0x2620, 1, 0x40, 0x47, .u8, .rw, .integrator, .stitch, .val 1, .oneOf [0, 1, 2, 3, 4], true⟩
/-- 0x2620:48–4F COLOUR_LUTS ENCODE_LUT (R191). -/
abbrev COLOUR_LUTS_ENCODE_LUT : EntryDef :=
  ⟨0x2620, 1, 0x48, 0x4F, .u8, .rw, .integrator, .stitch, .val 8, .within 8 31, true⟩
/-- 0x2620:50–57 COLOUR_LUTS CUSTOM_MATRIX (R191). -/
abbrev COLOUR_LUTS_CUSTOM_MATRIX : EntryDef :=
  ⟨0x2620, 1, 0x50, 0x57, .domain, .rw, .integrator, .stitch, .val 0, .length 48 48, true⟩
/-- The rows of COLOUR_LUTS. -/
def rows_COLOUR_LUTS : List EntryDef :=
  [COLOUR_LUTS_HIGHEST_SUB,
   COLOUR_LUTS_LUT_WINDOW,
   COLOUR_LUTS_LUT_DATA,
   COLOUR_LUTS_LUT3D_WINDOW,
   COLOUR_LUTS_LUT3D_DATA,
   COLOUR_LUTS_LUT_LOADED,
   COLOUR_LUTS_LUT_IN_USE,
   COLOUR_LUTS_LUT3D_STATE,
   COLOUR_LUTS_TARGET_PRIMARIES,
   COLOUR_LUTS_TARGET_PEAK,
   COLOUR_LUTS_SDR_WHITE,
   COLOUR_LUTS_PQ_SOURCE_PEAK,
   COLOUR_LUTS_TONE_MODE,
   COLOUR_LUTS_TONE_LUT,
   COLOUR_LUTS_OUTPUT_TRANSFER,
   COLOUR_LUTS_ENCODE_LUT,
   COLOUR_LUTS_CUSTOM_MATRIX]

end Sys2Proof.Machine.Dict
end

