-- ==== Sys2Proof/Machine/DictGovernor.lean ====
section
/-! DEFINITION. The dictionary entries of the spec's chapter 02, one definition per row of its tables,
written from those tables (R396). -/
namespace Sys2Proof.Machine.Dict

/-- 0x2010:00 GOVERNOR HIGHEST_SUB (R56). -/
abbrev GOVERNOR_HIGHEST_SUB : EntryDef :=
  ⟨0x2010, 1, 0x00, 0x00, .u8, .const, .operator, .fixed, .val 0x8, .any, false⟩
/-- 0x2010:01 GOVERNOR MODE (R56). -/
abbrev GOVERNOR_MODE : EntryDef :=
  ⟨0x2010, 1, 0x01, 0x01, .u8, .rw, .integrator, .live, .val 0, .oneOf [0, 1, 2], true⟩
/-- 0x2010:02 GOVERNOR POWER_CAP (R56). -/
abbrev GOVERNOR_POWER_CAP : EntryDef :=
  ⟨0x2010, 1, 0x02, 0x02, .u16, .rw, .integrator, .live, .val 150, .within 60 180, true⟩
/-- 0x2010:03 GOVERNOR TEMP_CEILING (R56). -/
abbrev GOVERNOR_TEMP_CEILING : EntryDef :=
  ⟨0x2010, 1, 0x03, 0x03, .u8, .rw, .integrator, .live, .val 95, .within 70 100, true⟩
/-- 0x2010:04 GOVERNOR AVS_MARGIN (R56). -/
abbrev GOVERNOR_AVS_MARGIN : EntryDef :=
  ⟨0x2010, 1, 0x04, 0x04, .u8, .rw, .integrator, .live, .val 8, .within 0 25, true⟩
/-- 0x2010:05 GOVERNOR CAP_GUARD (R56). -/
abbrev GOVERNOR_CAP_GUARD : EntryDef :=
  ⟨0x2010, 1, 0x05, 0x05, .u8, .rw, .integrator, .live, .val 3, .within 0 20, true⟩
/-- 0x2010:06 GOVERNOR RESTORE_HOLD (R56). -/
abbrev GOVERNOR_RESTORE_HOLD : EntryDef :=
  ⟨0x2010, 1, 0x06, 0x06, .u8, .rw, .integrator, .live, .val 8, .within 1 255, true⟩
/-- 0x2010:07 GOVERNOR PIN_CAP_ENABLE (R56). -/
abbrev GOVERNOR_PIN_CAP_ENABLE : EntryDef :=
  ⟨0x2010, 1, 0x07, 0x07, .bool, .rw, .integrator, .live, .val 0, .within 0 1, true⟩
/-- 0x2010:08 GOVERNOR AVS_HOLD (R56). -/
abbrev GOVERNOR_AVS_HOLD : EntryDef :=
  ⟨0x2010, 1, 0x08, 0x08, .u8, .rw, .service, .live, .val 0x0, .bits 0x1F, true⟩
/-- The rows of GOVERNOR. -/
def rows_GOVERNOR : List EntryDef :=
  [GOVERNOR_HIGHEST_SUB,
   GOVERNOR_MODE,
   GOVERNOR_POWER_CAP,
   GOVERNOR_TEMP_CEILING,
   GOVERNOR_AVS_MARGIN,
   GOVERNOR_CAP_GUARD,
   GOVERNOR_RESTORE_HOLD,
   GOVERNOR_PIN_CAP_ENABLE,
   GOVERNOR_AVS_HOLD]

/-- 0x2011:00 GOVERNOR_STATUS HIGHEST_SUB (R57). -/
abbrev GOVERNOR_STATUS_HIGHEST_SUB : EntryDef :=
  ⟨0x2011, 1, 0x00, 0x00, .u8, .const, .operator, .fixed, .val 0xe, .any, false⟩
/-- 0x2011:01 GOVERNOR_STATUS EFFECTIVE_LIMIT (R57). -/
abbrev GOVERNOR_STATUS_EFFECTIVE_LIMIT : EntryDef :=
  ⟨0x2011, 1, 0x01, 0x01, .q16, .ro, .operator, .fixed, .val 9830400, .any, false⟩
/-- 0x2011:02 GOVERNOR_STATUS LIMIT_SOURCE (R57). -/
abbrev GOVERNOR_STATUS_LIMIT_SOURCE : EntryDef :=
  ⟨0x2011, 1, 0x02, 0x02, .u8, .ro, .operator, .fixed, .val 0, .any, false⟩
/-- 0x2011:03 GOVERNOR_STATUS ESTIMATE (R57). -/
abbrev GOVERNOR_STATUS_ESTIMATE : EntryDef :=
  ⟨0x2011, 1, 0x03, 0x03, .q16, .ro, .operator, .fixed, .val 0, .any, false⟩
/-- 0x2011:04 GOVERNOR_STATUS MEASURED (R57). -/
abbrev GOVERNOR_STATUS_MEASURED : EntryDef :=
  ⟨0x2011, 1, 0x04, 0x04, .q16, .ro, .operator, .fixed, .val 0, .any, false⟩
/-- 0x2011:05 GOVERNOR_STATUS DEMAND (R57). -/
abbrev GOVERNOR_STATUS_DEMAND : EntryDef :=
  ⟨0x2011, 1, 0x05, 0x05, .q16, .ro, .operator, .fixed, .val 0, .any, false⟩
/-- 0x2011:06 GOVERNOR_STATUS CAPACITY (R57). -/
abbrev GOVERNOR_STATUS_CAPACITY : EntryDef :=
  ⟨0x2011, 1, 0x06, 0x06, .q16, .ro, .operator, .fixed, .val 0, .any, false⟩
/-- 0x2011:07 GOVERNOR_STATUS YIELD_DEPTH (R57). -/
abbrev GOVERNOR_STATUS_YIELD_DEPTH : EntryDef :=
  ⟨0x2011, 1, 0x07, 0x07, .u8, .ro, .operator, .fixed, .val 0, .any, false⟩
/-- 0x2011:08 GOVERNOR_STATUS YIELDED_ITEMS (R57). -/
abbrev GOVERNOR_STATUS_YIELDED_ITEMS : EntryDef :=
  ⟨0x2011, 1, 0x08, 0x08, .u16, .ro, .operator, .fixed, .val 0, .any, false⟩
/-- 0x2011:09 GOVERNOR_STATUS FLAGS (R57). -/
abbrev GOVERNOR_STATUS_FLAGS : EntryDef :=
  ⟨0x2011, 1, 0x09, 0x09, .u8, .ro, .operator, .fixed, .val 0x0, .any, false⟩
/-- 0x2011:0A GOVERNOR_STATUS TICK_COUNT (R57). -/
abbrev GOVERNOR_STATUS_TICK_COUNT : EntryDef :=
  ⟨0x2011, 1, 0x0A, 0x0A, .u64, .ro, .operator, .fixed, .val 0, .any, false⟩
/-- 0x2011:0B GOVERNOR_STATUS LAST_TICK_S (R57). -/
abbrev GOVERNOR_STATUS_LAST_TICK_S : EntryDef :=
  ⟨0x2011, 1, 0x0B, 0x0B, .u64, .ro, .operator, .fixed, .val 0, .any, false⟩
/-- 0x2011:0C GOVERNOR_STATUS LAST_TICK_NS (R57). -/
abbrev GOVERNOR_STATUS_LAST_TICK_NS : EntryDef :=
  ⟨0x2011, 1, 0x0C, 0x0C, .u32, .ro, .operator, .fixed, .val 0, .any, false⟩
/-- 0x2011:0D GOVERNOR_STATUS MAX_DIE_TEMP (R57). -/
abbrev GOVERNOR_STATUS_MAX_DIE_TEMP : EntryDef :=
  ⟨0x2011, 1, 0x0D, 0x0D, .i16, .ro, .operator, .fixed, .val 0, .any, false⟩
/-- 0x2011:0E GOVERNOR_STATUS YIELD_LIST (R57). -/
abbrev GOVERNOR_STATUS_YIELD_LIST : EntryDef :=
  ⟨0x2011, 1, 0x0E, 0x0E, .domain, .ro, .operator, .fixed, .val 0, .length 0 4294967295, false⟩
/-- The rows of GOVERNOR_STATUS. -/
def rows_GOVERNOR_STATUS : List EntryDef :=
  [GOVERNOR_STATUS_HIGHEST_SUB,
   GOVERNOR_STATUS_EFFECTIVE_LIMIT,
   GOVERNOR_STATUS_LIMIT_SOURCE,
   GOVERNOR_STATUS_ESTIMATE,
   GOVERNOR_STATUS_MEASURED,
   GOVERNOR_STATUS_DEMAND,
   GOVERNOR_STATUS_CAPACITY,
   GOVERNOR_STATUS_YIELD_DEPTH,
   GOVERNOR_STATUS_YIELDED_ITEMS,
   GOVERNOR_STATUS_FLAGS,
   GOVERNOR_STATUS_TICK_COUNT,
   GOVERNOR_STATUS_LAST_TICK_S,
   GOVERNOR_STATUS_LAST_TICK_NS,
   GOVERNOR_STATUS_MAX_DIE_TEMP,
   GOVERNOR_STATUS_YIELD_LIST]

/-- 0x2012:00 ISLAND_PACE HIGHEST_SUB (R58). -/
abbrev ISLAND_PACE_HIGHEST_SUB : EntryDef :=
  ⟨0x2012, 1, 0x00, 0x00, .u8, .const, .operator, .fixed, .val 0x70, .any, false⟩
/-- 0x2012:01–06 ISLAND_PACE PACE (R58). -/
abbrev ISLAND_PACE_PACE : EntryDef :=
  ⟨0x2012, 1, 0x01, 0x06, .q16, .ro, .operator, .fixed, .val 0, .any, false⟩
/-- 0x2012:11–16 ISLAND_PACE TARGET (R58). -/
abbrev ISLAND_PACE_TARGET : EntryDef :=
  ⟨0x2012, 1, 0x11, 0x16, .q16, .ro, .operator, .fixed, .val 0, .any, false⟩
/-- 0x2012:21–26 ISLAND_PACE VOLTAGE (R58). -/
abbrev ISLAND_PACE_VOLTAGE : EntryDef :=
  ⟨0x2012, 1, 0x21, 0x26, .u16, .ro, .operator, .fixed, .val 0, .any, false⟩
/-- 0x2012:31–36 ISLAND_PACE TEMPERATURE (R58). -/
abbrev ISLAND_PACE_TEMPERATURE : EntryDef :=
  ⟨0x2012, 1, 0x31, 0x36, .i16, .ro, .operator, .fixed, .val 0, .any, false⟩
/-- 0x2012:41–44 ISLAND_PACE ACTIVE_ENGINES (R58). -/
abbrev ISLAND_PACE_ACTIVE_ENGINES : EntryDef :=
  ⟨0x2012, 1, 0x41, 0x44, .u8, .ro, .operator, .fixed, .val 24, .any, false⟩
/-- 0x2012:51–56 ISLAND_PACE POWER (R58). -/
abbrev ISLAND_PACE_POWER : EntryDef :=
  ⟨0x2012, 1, 0x51, 0x56, .q16, .ro, .operator, .fixed, .val 0, .any, false⟩
/-- 0x2012:61–64 ISLAND_PACE LAGGING_MASK (R58). -/
abbrev ISLAND_PACE_LAGGING_MASK : EntryDef :=
  ⟨0x2012, 1, 0x61, 0x64, .u32, .ro, .operator, .fixed, .val 0, .any, false⟩
/-- 0x2012:70 ISLAND_PACE RATIO_TABLE (R58). -/
abbrev ISLAND_PACE_RATIO_TABLE : EntryDef :=
  ⟨0x2012, 1, 0x70, 0x70, .domain, .ro, .operator, .fixed, .val 0, .length 0 4294967295, false⟩
/-- The rows of ISLAND_PACE. -/
def rows_ISLAND_PACE : List EntryDef :=
  [ISLAND_PACE_HIGHEST_SUB,
   ISLAND_PACE_PACE,
   ISLAND_PACE_TARGET,
   ISLAND_PACE_VOLTAGE,
   ISLAND_PACE_TEMPERATURE,
   ISLAND_PACE_ACTIVE_ENGINES,
   ISLAND_PACE_POWER,
   ISLAND_PACE_LAGGING_MASK,
   ISLAND_PACE_RATIO_TABLE]

end Sys2Proof.Machine.Dict
end

