-- ==== Sys2Proof/Machine/DictHeads.lean ====
section
/-! DEFINITION. The dictionary entries of the spec's chapter 08, one definition per row of its tables,
written from those tables (R396). -/
namespace Sys2Proof.Machine.Dict

/-- 0x2C00 + n:00 HEAD HIGHEST_SUB (R255). -/
abbrev HEAD_HIGHEST_SUB : EntryDef :=
  ⟨0x2C00, 32, 0x00, 0x00, .u8, .const, .operator, .fixed, .val 0x2d, .any, false⟩
/-- 0x2C00 + n:01 HEAD ENABLE (R255). -/
abbrev HEAD_ENABLE : EntryDef :=
  ⟨0x2C00, 32, 0x01, 0x01, .bool, .rw, .integrator, .live, .val 0, .within 0 1, true⟩
/-- 0x2C00 + n:02 HEAD TYPE (R255). -/
abbrev HEAD_TYPE : EntryDef :=
  ⟨0x2C00, 32, 0x02, 0x02, .u8, .rw, .integrator, .halt, .val 0, .oneOf [0, 1, 2, 3, 4, 5], true⟩
/-- 0x2C00 + n:03 HEAD FTG (R255). -/
abbrev HEAD_FTG : EntryDef :=
  ⟨0x2C00, 32, 0x03, 0x03, .u8, .rw, .integrator, .halt, .val 0, .within 0 7, true⟩
/-- 0x2C00 + n:04 HEAD SLOTS (R255). -/
abbrev HEAD_SLOTS : EntryDef :=
  ⟨0x2C00, 32, 0x04, 0x04, .u8, .rw, .integrator, .halt, .val 1, .oneOf [1, 2, 3, 4, 6, 8], true⟩
/-- 0x2C00 + n:05 HEAD SLOT_SELECT (R255). -/
abbrev HEAD_SLOT_SELECT : EntryDef :=
  ⟨0x2C00, 32, 0x05, 0x05, .u8, .rw, .integrator, .halt, .val 0xff, .withinOr 0 7 [255], true⟩
/-- 0x2C00 + n:06 HEAD CLONE_OF (R255). -/
abbrev HEAD_CLONE_OF : EntryDef :=
  ⟨0x2C00, 32, 0x06, 0x06, .u8, .rw, .integrator, .halt, .val 0xff, .withinOr 0 31 [255], true⟩
/-- 0x2C00 + n:07 HEAD OUTPUT (R255). -/
abbrev HEAD_OUTPUT : EntryDef :=
  ⟨0x2C00, 32, 0x07, 0x07, .u8, .rw, .integrator, .halt, .val 0xff, .any, true⟩
/-- 0x2C00 + n:08 HEAD PORT_MASK (R255). -/
abbrev HEAD_PORT_MASK : EntryDef :=
  ⟨0x2C00, 32, 0x08, 0x08, .u64, .rw, .integrator, .halt, .val 0, .bits 0xFFFFFFFFFFFF, true⟩
/-- 0x2C00 + n:09 HEAD BUFFER_MODE (R255). -/
abbrev HEAD_BUFFER_MODE : EntryDef :=
  ⟨0x2C00, 32, 0x09, 0x09, .u8, .rw, .integrator, .halt, .val 0, .oneOf [0, 1], true⟩
/-- 0x2C00 + n:0A HEAD FORMAT (R255). -/
abbrev HEAD_FORMAT : EntryDef :=
  ⟨0x2C00, 32, 0x0A, 0x0A, .u8, .rw, .integrator, .halt, .val 1, .oneOf [0, 1, 2, 3, 4], true⟩
/-- 0x2C00 + n:0B HEAD LATENCY_TOLERANCE (R255). -/
abbrev HEAD_LATENCY_TOLERANCE : EntryDef :=
  ⟨0x2C00, 32, 0x0B, 0x0B, .u16, .rw, .integrator, .halt, .val 100, .within 10 500, true⟩
/-- 0x2C00 + n:0C HEAD H_ACTIVE (R255). -/
abbrev HEAD_H_ACTIVE : EntryDef :=
  ⟨0x2C00, 32, 0x0C, 0x0C, .u16, .rw, .integrator, .halt, .val 1920, .within 16 32768, true⟩
/-- 0x2C00 + n:0D HEAD V_ACTIVE (R255). -/
abbrev HEAD_V_ACTIVE : EntryDef :=
  ⟨0x2C00, 32, 0x0D, 0x0D, .u16, .rw, .integrator, .halt, .val 1080, .within 16 32768, true⟩
/-- 0x2C00 + n:0E HEAD H_TOTAL (R255). -/
abbrev HEAD_H_TOTAL : EntryDef :=
  ⟨0x2C00, 32, 0x0E, 0x0E, .u16, .rw, .integrator, .halt, .val 2200, .within 16 65535, true⟩
/-- 0x2C00 + n:0F HEAD V_TOTAL (R255). -/
abbrev HEAD_V_TOTAL : EntryDef :=
  ⟨0x2C00, 32, 0x0F, 0x0F, .u16, .rw, .integrator, .halt, .val 1125, .within 17 65535, true⟩
/-- 0x2C00 + n:10 HEAD H_SYNC_START (R255). -/
abbrev HEAD_H_SYNC_START : EntryDef :=
  ⟨0x2C00, 32, 0x10, 0x10, .u16, .rw, .integrator, .halt, .val 2008, .any, true⟩
/-- 0x2C00 + n:11 HEAD H_SYNC_WIDTH (R255). -/
abbrev HEAD_H_SYNC_WIDTH : EntryDef :=
  ⟨0x2C00, 32, 0x11, 0x11, .u16, .rw, .integrator, .halt, .val 44, .any, true⟩
/-- 0x2C00 + n:12 HEAD V_SYNC_START (R255). -/
abbrev HEAD_V_SYNC_START : EntryDef :=
  ⟨0x2C00, 32, 0x12, 0x12, .u16, .rw, .integrator, .halt, .val 1084, .any, true⟩
/-- 0x2C00 + n:13 HEAD V_SYNC_WIDTH (R255). -/
abbrev HEAD_V_SYNC_WIDTH : EntryDef :=
  ⟨0x2C00, 32, 0x13, 0x13, .u8, .rw, .integrator, .halt, .val 5, .any, true⟩
/-- 0x2C00 + n:14 HEAD SYNC_POLARITY (R255). -/
abbrev HEAD_SYNC_POLARITY : EntryDef :=
  ⟨0x2C00, 32, 0x14, 0x14, .u8, .rw, .integrator, .halt, .val 0x3, .bits 0x3, true⟩
/-- 0x2C00 + n:15 HEAD PHASE (R255). -/
abbrev HEAD_PHASE : EntryDef :=
  ⟨0x2C00, 32, 0x15, 0x15, .u32, .rw, .integrator, .halt, .val 0, .any, true⟩
/-- 0x2C00 + n:16 HEAD LATCH_ADVANCE (R255). -/
abbrev HEAD_LATCH_ADVANCE : EntryDef :=
  ⟨0x2C00, 32, 0x16, 0x16, .u8, .rw, .integrator, .halt, .val 0, .within 0 255, true⟩
/-- 0x2C00 + n:17 HEAD OUT_ENCODING (R255). -/
abbrev HEAD_OUT_ENCODING : EntryDef :=
  ⟨0x2C00, 32, 0x17, 0x17, .u8, .rw, .integrator, .halt, .val 0, .oneOf [0, 1, 2, 3], true⟩
/-- 0x2C00 + n:18 HEAD OUT_COLORIMETRY (R255). -/
abbrev HEAD_OUT_COLORIMETRY : EntryDef :=
  ⟨0x2C00, 32, 0x18, 0x18, .u8, .rw, .integrator, .halt, .val 0, .oneOf [0, 1], true⟩
/-- 0x2C00 + n:19 HEAD OUT_DEPTH (R255). -/
abbrev HEAD_OUT_DEPTH : EntryDef :=
  ⟨0x2C00, 32, 0x19, 0x19, .u8, .rw, .integrator, .halt, .val 10, .oneOf [8, 10, 12], true⟩
/-- 0x2C00 + n:1A HEAD IP_DEST (R255). -/
abbrev HEAD_IP_DEST : EntryDef :=
  ⟨0x2C00, 32, 0x1A, 0x1A, .u32, .rw, .integrator, .halt, .val 0, .any, true⟩
/-- 0x2C00 + n:1B HEAD IP_UDP (R255). -/
abbrev HEAD_IP_UDP : EntryDef :=
  ⟨0x2C00, 32, 0x1B, 0x1B, .u16, .rw, .integrator, .halt, .val 5004, .within 1 65535, true⟩
/-- 0x2C00 + n:1C HEAD IP_PAYLOAD_TYPE (R255). -/
abbrev HEAD_IP_PAYLOAD_TYPE : EntryDef :=
  ⟨0x2C00, 32, 0x1C, 0x1C, .u8, .rw, .integrator, .halt, .val 96, .within 96 127, true⟩
/-- 0x2C00 + n:1D HEAD IP_SENDER_TYPE (R255). -/
abbrev HEAD_IP_SENDER_TYPE : EntryDef :=
  ⟨0x2C00, 32, 0x1D, 0x1D, .u8, .rw, .integrator, .halt, .val 0, .oneOf [0, 1, 2], true⟩
/-- 0x2C00 + n:1E HEAD CANVAS (R255). -/
abbrev HEAD_CANVAS : EntryDef :=
  ⟨0x2C00, 32, 0x1E, 0x1E, .u8, .rw, .operator, .stitch, .val 0xff, .withinOr 0 7 [255], true⟩
/-- 0x2C00 + n:1F HEAD VIEW_X (R255). -/
abbrev HEAD_VIEW_X : EntryDef :=
  ⟨0x2C00, 32, 0x1F, 0x1F, .i32, .rw, .operator, .stitch, .val 0, .within (-32768) 32767, true⟩
/-- 0x2C00 + n:20 HEAD VIEW_Y (R255). -/
abbrev HEAD_VIEW_Y : EntryDef :=
  ⟨0x2C00, 32, 0x20, 0x20, .i32, .rw, .operator, .stitch, .val 0, .within (-32768) 32767, true⟩
/-- 0x2C00 + n:21 HEAD VIEW_STEP (R255). -/
abbrev HEAD_VIEW_STEP : EntryDef :=
  ⟨0x2C00, 32, 0x21, 0x21, .u8, .rw, .operator, .stitch, .val 1, .oneOf [1, 2, 4, 8], true⟩
/-- 0x2C00 + n:22 HEAD BORDER_COLOUR (R255). -/
abbrev HEAD_BORDER_COLOUR : EntryDef :=
  ⟨0x2C00, 32, 0x22, 0x22, .u32, .rw, .operator, .stitch, .val 0xc0000000, .any, true⟩
/-- 0x2C00 + n:23 HEAD CHECK_WINDOWS (R255). -/
abbrev HEAD_CHECK_WINDOWS : EntryDef :=
  ⟨0x2C00, 32, 0x23, 0x23, .domain, .rw, .integrator, .stitch, .val 0, .length 256 256, true⟩
/-- 0x2C00 + n:24 HEAD IDLE_COLOUR (R255). -/
abbrev HEAD_IDLE_COLOUR : EntryDef :=
  ⟨0x2C00, 32, 0x24, 0x24, .u32, .rw, .operator, .live, .val 0xc0000000, .any, true⟩
/-- 0x2C00 + n:25 HEAD CHECK_THRESHOLD (R255). -/
abbrev HEAD_CHECK_THRESHOLD : EntryDef :=
  ⟨0x2C00, 32, 0x25, 0x25, .u8, .rw, .integrator, .live, .val 2, .within 1 16, true⟩
/-- 0x2C00 + n:26 HEAD OVERCOAT_ACTION (R255). -/
abbrev HEAD_OVERCOAT_ACTION : EntryDef :=
  ⟨0x2C00, 32, 0x26, 0x26, .u8, .rw, .integrator, .live, .val 0, .oneOf [0, 1], true⟩
/-- 0x2C00 + n:27 HEAD SAFE_COLOUR (R255). -/
abbrev HEAD_SAFE_COLOUR : EntryDef :=
  ⟨0x2C00, 32, 0x27, 0x27, .u32, .rw, .integrator, .live, .val 0xffffffff, .any, true⟩
/-- 0x2C00 + n:28 HEAD SAFE_CLEAR (R255). -/
abbrev HEAD_SAFE_CLEAR : EntryDef :=
  ⟨0x2C00, 32, 0x28, 0x28, .u8, .wo, .integrator, .live, .val 0, .oneOf [1], false⟩
/-- 0x2C00 + n:29 HEAD CLASS (R255). -/
abbrev HEAD_CLASS : EntryDef :=
  ⟨0x2C00, 32, 0x29, 0x29, .u8, .rw, .integrator, .live, .val 0, .oneOf [0, 1], true⟩
/-- 0x2C00 + n:2A HEAD PRIORITY (R255). -/
abbrev HEAD_PRIORITY : EntryDef :=
  ⟨0x2C00, 32, 0x2A, 0x2A, .u8, .rw, .integrator, .live, .val 8, .within 0 15, true⟩
/-- 0x2C00 + n:2B HEAD FLIP_MSIX_VECTOR (R255). -/
abbrev HEAD_FLIP_MSIX_VECTOR : EntryDef :=
  ⟨0x2C00, 32, 0x2B, 0x2B, .u8, .rw, .operator, .live, .val 0xff, .withinOr 0 63 [255], true⟩
/-- 0x2C00 + n:2C HEAD NEW_TIMING (R255). -/
abbrev HEAD_NEW_TIMING : EntryDef :=
  ⟨0x2C00, 32, 0x2C, 0x2C, .domain, .rw, .integrator, .live, .val 0, .length 24 24, false⟩
/-- 0x2C00 + n:2D HEAD RETIME (R255). -/
abbrev HEAD_RETIME : EntryDef :=
  ⟨0x2C00, 32, 0x2D, 0x2D, .u8, .wo, .integrator, .live, .val 0, .oneOf [1], false⟩
/-- The rows of HEAD. -/
def rows_HEAD : List EntryDef :=
  [HEAD_HIGHEST_SUB,
   HEAD_ENABLE,
   HEAD_TYPE,
   HEAD_FTG,
   HEAD_SLOTS,
   HEAD_SLOT_SELECT,
   HEAD_CLONE_OF,
   HEAD_OUTPUT,
   HEAD_PORT_MASK,
   HEAD_BUFFER_MODE,
   HEAD_FORMAT,
   HEAD_LATENCY_TOLERANCE,
   HEAD_H_ACTIVE,
   HEAD_V_ACTIVE,
   HEAD_H_TOTAL,
   HEAD_V_TOTAL,
   HEAD_H_SYNC_START,
   HEAD_H_SYNC_WIDTH,
   HEAD_V_SYNC_START,
   HEAD_V_SYNC_WIDTH,
   HEAD_SYNC_POLARITY,
   HEAD_PHASE,
   HEAD_LATCH_ADVANCE,
   HEAD_OUT_ENCODING,
   HEAD_OUT_COLORIMETRY,
   HEAD_OUT_DEPTH,
   HEAD_IP_DEST,
   HEAD_IP_UDP,
   HEAD_IP_PAYLOAD_TYPE,
   HEAD_IP_SENDER_TYPE,
   HEAD_CANVAS,
   HEAD_VIEW_X,
   HEAD_VIEW_Y,
   HEAD_VIEW_STEP,
   HEAD_BORDER_COLOUR,
   HEAD_CHECK_WINDOWS,
   HEAD_IDLE_COLOUR,
   HEAD_CHECK_THRESHOLD,
   HEAD_OVERCOAT_ACTION,
   HEAD_SAFE_COLOUR,
   HEAD_SAFE_CLEAR,
   HEAD_CLASS,
   HEAD_PRIORITY,
   HEAD_FLIP_MSIX_VECTOR,
   HEAD_NEW_TIMING,
   HEAD_RETIME]

/-- 0x2C80 + n:00 HEAD_STATUS HIGHEST_SUB (R256). -/
abbrev HEAD_STATUS_HIGHEST_SUB : EntryDef :=
  ⟨0x2C80, 32, 0x00, 0x00, .u8, .const, .operator, .fixed, .val 0x12, .any, false⟩
/-- 0x2C80 + n:01 HEAD_STATUS STATE (R256). -/
abbrev HEAD_STATUS_STATE : EntryDef :=
  ⟨0x2C80, 32, 0x01, 0x01, .u8, .ro, .operator, .fixed, .val 0, .any, false⟩
/-- 0x2C80 + n:02 HEAD_STATUS FRAME_COUNT (R256). -/
abbrev HEAD_STATUS_FRAME_COUNT : EntryDef :=
  ⟨0x2C80, 32, 0x02, 0x02, .u64, .ro, .operator, .fixed, .val 0, .any, false⟩
/-- 0x2C80 + n:03 HEAD_STATUS BASE_FRAME_COUNT (R256). -/
abbrev HEAD_STATUS_BASE_FRAME_COUNT : EntryDef :=
  ⟨0x2C80, 32, 0x03, 0x03, .u64, .ro, .operator, .fixed, .val 0, .any, false⟩
/-- 0x2C80 + n:04 HEAD_STATUS SLOT_SHOWN (R256). -/
abbrev HEAD_STATUS_SLOT_SHOWN : EntryDef :=
  ⟨0x2C80, 32, 0x04, 0x04, .u8, .ro, .operator, .fixed, .val 0, .any, false⟩
/-- 0x2C80 + n:05 HEAD_STATUS FLIP_S (R256). -/
abbrev HEAD_STATUS_FLIP_S : EntryDef :=
  ⟨0x2C80, 32, 0x05, 0x05, .u64, .ro, .operator, .fixed, .val 0, .any, false⟩
/-- 0x2C80 + n:06 HEAD_STATUS FLIP_NS (R256). -/
abbrev HEAD_STATUS_FLIP_NS : EntryDef :=
  ⟨0x2C80, 32, 0x06, 0x06, .u32, .ro, .operator, .fixed, .val 0, .any, false⟩
/-- 0x2C80 + n:07 HEAD_STATUS REPEATED_FRAMES (R256). -/
abbrev HEAD_STATUS_REPEATED_FRAMES : EntryDef :=
  ⟨0x2C80, 32, 0x07, 0x07, .u32, .ro, .operator, .fixed, .val 0, .any, false⟩
/-- 0x2C80 + n:08 HEAD_STATUS UNDERRUN_LINES (R256). -/
abbrev HEAD_STATUS_UNDERRUN_LINES : EntryDef :=
  ⟨0x2C80, 32, 0x08, 0x08, .u32, .ro, .operator, .fixed, .val 0, .any, false⟩
/-- 0x2C80 + n:09 HEAD_STATUS UNDERRUN_FRAMES (R256). -/
abbrev HEAD_STATUS_UNDERRUN_FRAMES : EntryDef :=
  ⟨0x2C80, 32, 0x09, 0x09, .u32, .ro, .operator, .fixed, .val 0, .any, false⟩
/-- 0x2C80 + n:0A HEAD_STATUS FIFO_SIZE (R256). -/
abbrev HEAD_STATUS_FIFO_SIZE : EntryDef :=
  ⟨0x2C80, 32, 0x0A, 0x0A, .u32, .ro, .operator, .fixed, .val 0, .any, false⟩
/-- 0x2C80 + n:0B HEAD_STATUS FIFO_LOW_WATER (R256). -/
abbrev HEAD_STATUS_FIFO_LOW_WATER : EntryDef :=
  ⟨0x2C80, 32, 0x0B, 0x0B, .u32, .ro, .operator, .fixed, .val 0, .any, false⟩
/-- 0x2C80 + n:0C HEAD_STATUS COMPOSE_MARGIN_MIN (R256). -/
abbrev HEAD_STATUS_COMPOSE_MARGIN_MIN : EntryDef :=
  ⟨0x2C80, 32, 0x0C, 0x0C, .i32, .ro, .operator, .fixed, .val 0, .any, false⟩
/-- 0x2C80 + n:0D HEAD_STATUS CHECK_STATUS (R256). -/
abbrev HEAD_STATUS_CHECK_STATUS : EntryDef :=
  ⟨0x2C80, 32, 0x0D, 0x0D, .u16, .ro, .operator, .fixed, .val 0x0, .any, false⟩
/-- 0x2C80 + n:0E HEAD_STATUS CHECK_COUNTS (R256). -/
abbrev HEAD_STATUS_CHECK_COUNTS : EntryDef :=
  ⟨0x2C80, 32, 0x0E, 0x0E, .domain, .ro, .operator, .fixed, .val 0, .length 0 4294967295, false⟩
/-- 0x2C80 + n:0F HEAD_STATUS SAFE_WINDOW (R256). -/
abbrev HEAD_STATUS_SAFE_WINDOW : EntryDef :=
  ⟨0x2C80, 32, 0x0F, 0x0F, .u8, .ro, .operator, .fixed, .val 0xff, .any, false⟩
/-- 0x2C80 + n:10 HEAD_STATUS RETIMES (R256). -/
abbrev HEAD_STATUS_RETIMES : EntryDef :=
  ⟨0x2C80, 32, 0x10, 0x10, .u32, .ro, .operator, .fixed, .val 0, .any, false⟩
/-- 0x2C80 + n:11 HEAD_STATUS PIXEL_CLOCK (R256). -/
abbrev HEAD_STATUS_PIXEL_CLOCK : EntryDef :=
  ⟨0x2C80, 32, 0x11, 0x11, .u64, .ro, .operator, .fixed, .val 0, .any, false⟩
/-- 0x2C80 + n:12 HEAD_STATUS ECHO_STATE (R256). -/
abbrev HEAD_STATUS_ECHO_STATE : EntryDef :=
  ⟨0x2C80, 32, 0x12, 0x12, .u8, .ro, .operator, .fixed, .val 0, .any, false⟩
/-- The rows of HEAD_STATUS. -/
def rows_HEAD_STATUS : List EntryDef :=
  [HEAD_STATUS_HIGHEST_SUB,
   HEAD_STATUS_STATE,
   HEAD_STATUS_FRAME_COUNT,
   HEAD_STATUS_BASE_FRAME_COUNT,
   HEAD_STATUS_SLOT_SHOWN,
   HEAD_STATUS_FLIP_S,
   HEAD_STATUS_FLIP_NS,
   HEAD_STATUS_REPEATED_FRAMES,
   HEAD_STATUS_UNDERRUN_LINES,
   HEAD_STATUS_UNDERRUN_FRAMES,
   HEAD_STATUS_FIFO_SIZE,
   HEAD_STATUS_FIFO_LOW_WATER,
   HEAD_STATUS_COMPOSE_MARGIN_MIN,
   HEAD_STATUS_CHECK_STATUS,
   HEAD_STATUS_CHECK_COUNTS,
   HEAD_STATUS_SAFE_WINDOW,
   HEAD_STATUS_RETIMES,
   HEAD_STATUS_PIXEL_CLOCK,
   HEAD_STATUS_ECHO_STATE]

/-- 0x2CC0:00 LEGACY_EVENTS HIGHEST_SUB (R257). -/
abbrev LEGACY_EVENTS_HIGHEST_SUB : EntryDef :=
  ⟨0x2CC0, 1, 0x00, 0x00, .u8, .const, .operator, .fixed, .val 0x2f, .any, false⟩
/-- 0x2CC0:01 LEGACY_EVENTS ENABLE_START_OF_BLANK (R257). -/
abbrev LEGACY_EVENTS_ENABLE_START_OF_BLANK : EntryDef :=
  ⟨0x2CC0, 1, 0x01, 0x01, .u32, .rw, .operator, .live, .val 0, .any, true⟩
/-- 0x2CC0:02 LEGACY_EVENTS ENABLE_LINE_MATCH (R257). -/
abbrev LEGACY_EVENTS_ENABLE_LINE_MATCH : EntryDef :=
  ⟨0x2CC0, 1, 0x02, 0x02, .u32, .rw, .operator, .live, .val 0, .any, true⟩
/-- 0x2CC0:03 LEGACY_EVENTS ENABLE_FRAME_DONE (R257). -/
abbrev LEGACY_EVENTS_ENABLE_FRAME_DONE : EntryDef :=
  ⟨0x2CC0, 1, 0x03, 0x03, .u32, .rw, .operator, .live, .val 0, .any, true⟩
/-- 0x2CC0:04 LEGACY_EVENTS ENABLE_UNDERRUN (R257). -/
abbrev LEGACY_EVENTS_ENABLE_UNDERRUN : EntryDef :=
  ⟨0x2CC0, 1, 0x04, 0x04, .u32, .rw, .operator, .live, .val 0, .any, true⟩
/-- 0x2CC0:05 LEGACY_EVENTS STATUS_START_OF_BLANK (R257). -/
abbrev LEGACY_EVENTS_STATUS_START_OF_BLANK : EntryDef :=
  ⟨0x2CC0, 1, 0x05, 0x05, .u32, .rw, .operator, .live, .val 0, .any, false⟩
/-- 0x2CC0:06 LEGACY_EVENTS STATUS_LINE_MATCH (R257). -/
abbrev LEGACY_EVENTS_STATUS_LINE_MATCH : EntryDef :=
  ⟨0x2CC0, 1, 0x06, 0x06, .u32, .rw, .operator, .live, .val 0, .any, false⟩
/-- 0x2CC0:07 LEGACY_EVENTS STATUS_FRAME_DONE (R257). -/
abbrev LEGACY_EVENTS_STATUS_FRAME_DONE : EntryDef :=
  ⟨0x2CC0, 1, 0x07, 0x07, .u32, .rw, .operator, .live, .val 0, .any, false⟩
/-- 0x2CC0:08 LEGACY_EVENTS STATUS_UNDERRUN (R257). -/
abbrev LEGACY_EVENTS_STATUS_UNDERRUN : EntryDef :=
  ⟨0x2CC0, 1, 0x08, 0x08, .u32, .rw, .operator, .live, .val 0, .any, false⟩
/-- 0x2CC0:09 LEGACY_EVENTS LEGACY_MSIX_VECTOR (R257). -/
abbrev LEGACY_EVENTS_LEGACY_MSIX_VECTOR : EntryDef :=
  ⟨0x2CC0, 1, 0x09, 0x09, .u8, .rw, .operator, .live, .val 0xff, .withinOr 0 63 [255], true⟩
/-- 0x2CC0:10–2F LEGACY_EVENTS MATCH_LINE (R257). -/
abbrev LEGACY_EVENTS_MATCH_LINE : EntryDef :=
  ⟨0x2CC0, 1, 0x10, 0x2F, .u16, .rw, .operator, .live, .val 0, .any, true⟩
/-- The rows of LEGACY_EVENTS. -/
def rows_LEGACY_EVENTS : List EntryDef :=
  [LEGACY_EVENTS_HIGHEST_SUB,
   LEGACY_EVENTS_ENABLE_START_OF_BLANK,
   LEGACY_EVENTS_ENABLE_LINE_MATCH,
   LEGACY_EVENTS_ENABLE_FRAME_DONE,
   LEGACY_EVENTS_ENABLE_UNDERRUN,
   LEGACY_EVENTS_STATUS_START_OF_BLANK,
   LEGACY_EVENTS_STATUS_LINE_MATCH,
   LEGACY_EVENTS_STATUS_FRAME_DONE,
   LEGACY_EVENTS_STATUS_UNDERRUN,
   LEGACY_EVENTS_LEGACY_MSIX_VECTOR,
   LEGACY_EVENTS_MATCH_LINE]

end Sys2Proof.Machine.Dict
end

