-- ==== Sys2Proof/Machine/DictHentis.lean ====
section
/-! DEFINITION. The dictionary entries of the spec's chapter 10, one definition per row of its tables,
written from those tables (R396). -/
namespace Sys2Proof.Machine.Dict

/-- 0x2100:00 HENTIS HIGHEST_SUB (R315). -/
abbrev HENTIS_HIGHEST_SUB : EntryDef :=
  ⟨0x2100, 1, 0x00, 0x00, .u8, .const, .operator, .fixed, .val 0x1b, .any, false⟩
/-- 0x2100:01 HENTIS STATE (R315). -/
abbrev HENTIS_STATE : EntryDef :=
  ⟨0x2100, 1, 0x01, 0x01, .u8, .ro, .operator, .fixed, .val 0, .any, false⟩
/-- 0x2100:02 HENTIS FLAGS (R315). -/
abbrev HENTIS_FLAGS : EntryDef :=
  ⟨0x2100, 1, 0x02, 0x02, .u8, .ro, .operator, .fixed, .val 0x0, .any, false⟩
/-- 0x2100:03 HENTIS LOOP_MODE (R315). -/
abbrev HENTIS_LOOP_MODE : EntryDef :=
  ⟨0x2100, 1, 0x03, 0x03, .u8, .rw, .integrator, .live, .val 0, .oneOf [0, 1, 2], true⟩
/-- 0x2100:04 HENTIS FREERUN_OFFSET (R315). -/
abbrev HENTIS_FREERUN_OFFSET : EntryDef :=
  ⟨0x2100, 1, 0x04, 0x04, .q32, .rw, .integrator, .live, .val 0, .within (-13107200000) 13107200000, true⟩
/-- 0x2100:05 HENTIS DCO_WORD (R315). -/
abbrev HENTIS_DCO_WORD : EntryDef :=
  ⟨0x2100, 1, 0x05, 0x05, .q32, .ro, .operator, .fixed, .val 0, .any, false⟩
/-- 0x2100:06 HENTIS PHASE_ERROR (R315). -/
abbrev HENTIS_PHASE_ERROR : EntryDef :=
  ⟨0x2100, 1, 0x06, 0x06, .i64, .ro, .operator, .fixed, .val 0, .any, false⟩
/-- 0x2100:07 HENTIS STEER_FREQ (R315). -/
abbrev HENTIS_STEER_FREQ : EntryDef :=
  ⟨0x2100, 1, 0x07, 0x07, .q32, .rw, .integrator, .live, .val 0, .within (-13107200000) 13107200000, true⟩
/-- 0x2100:08 HENTIS STEER_PHASE (R315). -/
abbrev HENTIS_STEER_PHASE : EntryDef :=
  ⟨0x2100, 1, 0x08, 0x08, .i32, .wo, .integrator, .live, .val 0, .any, false⟩
/-- 0x2100:09 HENTIS SLEW_LIMIT (R315). -/
abbrev HENTIS_SLEW_LIMIT : EntryDef :=
  ⟨0x2100, 1, 0x09, 0x09, .u16, .rw, .integrator, .live, .val 100, .within 1 10000, true⟩
/-- 0x2100:0A HENTIS ALIGN_MODE (R315). -/
abbrev HENTIS_ALIGN_MODE : EntryDef :=
  ⟨0x2100, 1, 0x0A, 0x0A, .u8, .rw, .integrator, .live, .val 0, .oneOf [0, 1], true⟩
/-- 0x2100:0B HENTIS ALIGN_TARGET (R315). -/
abbrev HENTIS_ALIGN_TARGET : EntryDef :=
  ⟨0x2100, 1, 0x0B, 0x0B, .u8, .rw, .integrator, .live, .val 0, .oneOf [0, 1, 2], true⟩
/-- 0x2100:0C HENTIS ALIGN_OFFSET (R315). -/
abbrev HENTIS_ALIGN_OFFSET : EntryDef :=
  ⟨0x2100, 1, 0x0C, 0x0C, .i64, .rw, .integrator, .live, .val 0, .any, true⟩
/-- 0x2100:0D HENTIS ALIGN (R315). -/
abbrev HENTIS_ALIGN : EntryDef :=
  ⟨0x2100, 1, 0x0D, 0x0D, .u8, .wo, .integrator, .live, .val 0, .oneOf [1, 2], false⟩
/-- 0x2100:0E HENTIS ALIGN_SLEW (R315). -/
abbrev HENTIS_ALIGN_SLEW : EntryDef :=
  ⟨0x2100, 1, 0x0E, 0x0E, .u32, .rw, .integrator, .live, .val 10000, .within 100 100000, true⟩
/-- 0x2100:0F HENTIS ALIGN_AT_LOCK (R315). -/
abbrev HENTIS_ALIGN_AT_LOCK : EntryDef :=
  ⟨0x2100, 1, 0x0F, 0x0F, .bool, .rw, .integrator, .live, .val 1, .within 0 1, true⟩
/-- 0x2100:10–13 HENTIS CLK_OUT_NUM (R315). -/
abbrev HENTIS_CLK_OUT_NUM : EntryDef :=
  ⟨0x2100, 1, 0x10, 0x13, .u32, .rw, .integrator, .live, .val 0, .any, true⟩
/-- 0x2100:14–17 HENTIS CLK_OUT_DEN (R315). -/
abbrev HENTIS_CLK_OUT_DEN : EntryDef :=
  ⟨0x2100, 1, 0x14, 0x17, .u32, .rw, .integrator, .live, .val 1, .within 1 4294967295, true⟩
/-- 0x2100:19 HENTIS STATE_S (R315). -/
abbrev HENTIS_STATE_S : EntryDef :=
  ⟨0x2100, 1, 0x19, 0x19, .u64, .ro, .operator, .fixed, .val 0, .any, false⟩
/-- 0x2100:1A HENTIS STATE_NS (R315). -/
abbrev HENTIS_STATE_NS : EntryDef :=
  ⟨0x2100, 1, 0x1A, 0x1A, .u32, .ro, .operator, .fixed, .val 0, .any, false⟩
/-- 0x2100:1B HENTIS OSC_PRESENT (R315). -/
abbrev HENTIS_OSC_PRESENT : EntryDef :=
  ⟨0x2100, 1, 0x1B, 0x1B, .bool, .ro, .operator, .fixed, .val 0, .any, false⟩
/-- The rows of HENTIS. -/
def rows_HENTIS : List EntryDef :=
  [HENTIS_HIGHEST_SUB,
   HENTIS_STATE,
   HENTIS_FLAGS,
   HENTIS_LOOP_MODE,
   HENTIS_FREERUN_OFFSET,
   HENTIS_DCO_WORD,
   HENTIS_PHASE_ERROR,
   HENTIS_STEER_FREQ,
   HENTIS_STEER_PHASE,
   HENTIS_SLEW_LIMIT,
   HENTIS_ALIGN_MODE,
   HENTIS_ALIGN_TARGET,
   HENTIS_ALIGN_OFFSET,
   HENTIS_ALIGN,
   HENTIS_ALIGN_SLEW,
   HENTIS_ALIGN_AT_LOCK,
   HENTIS_CLK_OUT_NUM,
   HENTIS_CLK_OUT_DEN,
   HENTIS_STATE_S,
   HENTIS_STATE_NS,
   HENTIS_OSC_PRESENT]

/-- 0x2110 + n:00 REF HIGHEST_SUB (R316). -/
abbrev REF_HIGHEST_SUB : EntryDef :=
  ⟨0x2110, 12, 0x00, 0x00, .u8, .const, .operator, .fixed, .val 0x1c, .any, false⟩
/-- 0x2110 + n:01 REF ENABLE (R316). -/
abbrev REF_ENABLE : EntryDef :=
  ⟨0x2110, 12, 0x01, 0x01, .bool, .rw, .integrator, .live, .val 0, .within 0 1, true⟩
/-- 0x2110 + n:02 REF TYPE (R316). -/
abbrev REF_TYPE : EntryDef :=
  ⟨0x2110, 12, 0x02, 0x02, .u8, .rw, .integrator, .halt, .val 0, .oneOf [0, 1, 2, 3, 4, 5, 6, 7, 8], true⟩
/-- 0x2110 + n:03 REF SOURCE (R316). -/
abbrev REF_SOURCE : EntryDef :=
  ⟨0x2110, 12, 0x03, 0x03, .u8, .rw, .integrator, .halt, .val 0, .any, true⟩
/-- 0x2110 + n:04 REF NOMINAL_NUM (R316). -/
abbrev REF_NOMINAL_NUM : EntryDef :=
  ⟨0x2110, 12, 0x04, 0x04, .u32, .rw, .integrator, .halt, .val 0, .any, true⟩
/-- 0x2110 + n:05 REF NOMINAL_DEN (R316). -/
abbrev REF_NOMINAL_DEN : EntryDef :=
  ⟨0x2110, 12, 0x05, 0x05, .u32, .rw, .integrator, .halt, .val 1, .within 1 4294967295, true⟩
/-- 0x2110 + n:06 REF LINES (R316). -/
abbrev REF_LINES : EntryDef :=
  ⟨0x2110, 12, 0x06, 0x06, .u16, .rw, .integrator, .halt, .val 0, .withinOr 525 1125 [0], true⟩
/-- 0x2110 + n:07 REF PRIORITY (R316). -/
abbrev REF_PRIORITY : EntryDef :=
  ⟨0x2110, 12, 0x07, 0x07, .u8, .rw, .integrator, .live, .val 8, .within 0 15, true⟩
/-- 0x2110 + n:08 REF BANDWIDTH (R316). -/
abbrev REF_BANDWIDTH : EntryDef :=
  ⟨0x2110, 12, 0x08, 0x08, .u32, .rw, .integrator, .live, .val 0, .any, true⟩
/-- 0x2110 + n:09 REF FREQ_WINDOW (R316). -/
abbrev REF_FREQ_WINDOW : EntryDef :=
  ⟨0x2110, 12, 0x09, 0x09, .u32, .rw, .integrator, .live, .val 0, .within 1000 200000, true⟩
/-- 0x2110 + n:0A REF DRIFT_DWELL (R316). -/
abbrev REF_DRIFT_DWELL : EntryDef :=
  ⟨0x2110, 12, 0x0A, 0x0A, .u16, .rw, .integrator, .live, .val 10, .within 1 600, true⟩
/-- 0x2110 + n:0B REF PTP_DOMAIN (R316). -/
abbrev REF_PTP_DOMAIN : EntryDef :=
  ⟨0x2110, 12, 0x0B, 0x0B, .u8, .rw, .integrator, .halt, .val 127, .within 0 127, true⟩
/-- 0x2110 + n:0C REF PTP_DELAY_MODE (R316). -/
abbrev REF_PTP_DELAY_MODE : EntryDef :=
  ⟨0x2110, 12, 0x0C, 0x0C, .u8, .rw, .integrator, .halt, .val 0, .oneOf [0, 1], true⟩
/-- 0x2110 + n:0D REF QUAL_STATE (R316). -/
abbrev REF_QUAL_STATE : EntryDef :=
  ⟨0x2110, 12, 0x0D, 0x0D, .u8, .ro, .operator, .fixed, .val 0, .any, false⟩
/-- 0x2110 + n:0E REF FAIL_CAUSE (R316). -/
abbrev REF_FAIL_CAUSE : EntryDef :=
  ⟨0x2110, 12, 0x0E, 0x0E, .u8, .ro, .operator, .fixed, .val 0x0, .any, false⟩
/-- 0x2110 + n:0F REF DRIFT_ALARM (R316). -/
abbrev REF_DRIFT_ALARM : EntryDef :=
  ⟨0x2110, 12, 0x0F, 0x0F, .bool, .ro, .operator, .fixed, .val 0, .any, false⟩
/-- 0x2110 + n:10 REF MEASURED_RATE (R316). -/
abbrev REF_MEASURED_RATE : EntryDef :=
  ⟨0x2110, 12, 0x10, 0x10, .u64, .ro, .operator, .fixed, .val 0, .any, false⟩
/-- 0x2110 + n:11 REF OFFSET (R316). -/
abbrev REF_OFFSET : EntryDef :=
  ⟨0x2110, 12, 0x11, 0x11, .q32, .ro, .operator, .fixed, .val 0, .any, false⟩
/-- 0x2110 + n:12 REF DRIFT (R316). -/
abbrev REF_DRIFT : EntryDef :=
  ⟨0x2110, 12, 0x12, 0x12, .q32, .ro, .operator, .fixed, .val 0, .any, false⟩
/-- 0x2110 + n:13 REF PHASE_OFFSET (R316). -/
abbrev REF_PHASE_OFFSET : EntryDef :=
  ⟨0x2110, 12, 0x13, 0x13, .i64, .ro, .operator, .fixed, .val 0, .any, false⟩
/-- 0x2110 + n:14 REF GLITCHES (R316). -/
abbrev REF_GLITCHES : EntryDef :=
  ⟨0x2110, 12, 0x14, 0x14, .u32, .ro, .operator, .fixed, .val 0, .any, false⟩
/-- 0x2110 + n:15 REF WTR_REMAINING (R316). -/
abbrev REF_WTR_REMAINING : EntryDef :=
  ⟨0x2110, 12, 0x15, 0x15, .u16, .ro, .operator, .fixed, .val 0, .any, false⟩
/-- 0x2110 + n:16 REF DISQUALIFICATIONS (R316). -/
abbrev REF_DISQUALIFICATIONS : EntryDef :=
  ⟨0x2110, 12, 0x16, 0x16, .u32, .ro, .operator, .fixed, .val 0, .any, false⟩
/-- 0x2110 + n:17 REF QUAL_S (R316). -/
abbrev REF_QUAL_S : EntryDef :=
  ⟨0x2110, 12, 0x17, 0x17, .u64, .ro, .operator, .fixed, .val 0, .any, false⟩
/-- 0x2110 + n:18 REF GM_IDENTITY (R316). -/
abbrev REF_GM_IDENTITY : EntryDef :=
  ⟨0x2110, 12, 0x18, 0x18, .u64, .ro, .operator, .fixed, .val 0, .any, false⟩
/-- 0x2110 + n:19 REF MEAN_PATH_DELAY (R316). -/
abbrev REF_MEAN_PATH_DELAY : EntryDef :=
  ⟨0x2110, 12, 0x19, 0x19, .u32, .ro, .operator, .fixed, .val 0, .any, false⟩
/-- 0x2110 + n:1A REF PTP_PORT_STATE (R316). -/
abbrev REF_PTP_PORT_STATE : EntryDef :=
  ⟨0x2110, 12, 0x1A, 0x1A, .u8, .ro, .operator, .fixed, .val 0, .any, false⟩
/-- 0x2110 + n:1B REF UTC_OFFSET (R316). -/
abbrev REF_UTC_OFFSET : EntryDef :=
  ⟨0x2110, 12, 0x1B, 0x1B, .i16, .ro, .operator, .fixed, .val 0, .any, false⟩
/-- 0x2110 + n:1C REF TIME_TRACEABLE (R316). -/
abbrev REF_TIME_TRACEABLE : EntryDef :=
  ⟨0x2110, 12, 0x1C, 0x1C, .bool, .ro, .operator, .fixed, .val 0, .any, false⟩
/-- The rows of REF. -/
def rows_REF : List EntryDef :=
  [REF_HIGHEST_SUB,
   REF_ENABLE,
   REF_TYPE,
   REF_SOURCE,
   REF_NOMINAL_NUM,
   REF_NOMINAL_DEN,
   REF_LINES,
   REF_PRIORITY,
   REF_BANDWIDTH,
   REF_FREQ_WINDOW,
   REF_DRIFT_DWELL,
   REF_PTP_DOMAIN,
   REF_PTP_DELAY_MODE,
   REF_QUAL_STATE,
   REF_FAIL_CAUSE,
   REF_DRIFT_ALARM,
   REF_MEASURED_RATE,
   REF_OFFSET,
   REF_DRIFT,
   REF_PHASE_OFFSET,
   REF_GLITCHES,
   REF_WTR_REMAINING,
   REF_DISQUALIFICATIONS,
   REF_QUAL_S,
   REF_GM_IDENTITY,
   REF_MEAN_PATH_DELAY,
   REF_PTP_PORT_STATE,
   REF_UTC_OFFSET,
   REF_TIME_TRACEABLE]

/-- 0x2120:00 SELECTOR HIGHEST_SUB (R317). -/
abbrev SELECTOR_HIGHEST_SUB : EntryDef :=
  ⟨0x2120, 1, 0x00, 0x00, .u8, .const, .operator, .fixed, .val 0xc, .any, false⟩
/-- 0x2120:01 SELECTOR REVERTIVE (R317). -/
abbrev SELECTOR_REVERTIVE : EntryDef :=
  ⟨0x2120, 1, 0x01, 0x01, .bool, .rw, .integrator, .live, .val 1, .within 0 1, true⟩
/-- 0x2120:02 SELECTOR WTR (R317). -/
abbrev SELECTOR_WTR : EntryDef :=
  ⟨0x2120, 1, 0x02, 0x02, .u16, .rw, .integrator, .live, .val 60, .within 0 3600, true⟩
/-- 0x2120:03 SELECTOR INITIAL_QUAL (R317). -/
abbrev SELECTOR_INITIAL_QUAL : EntryDef :=
  ⟨0x2120, 1, 0x03, 0x03, .u16, .rw, .integrator, .live, .val 5, .within 0 600, true⟩
/-- 0x2120:04 SELECTOR FORCE (R317). -/
abbrev SELECTOR_FORCE : EntryDef :=
  ⟨0x2120, 1, 0x04, 0x04, .u8, .rw, .integrator, .live, .val 0xff, .withinOr 0 11 [255], false⟩
/-- 0x2120:05 SELECTOR SELECTED (R317). -/
abbrev SELECTOR_SELECTED : EntryDef :=
  ⟨0x2120, 1, 0x05, 0x05, .u8, .ro, .operator, .fixed, .val 0xff, .any, false⟩
/-- 0x2120:06 SELECTOR TARGET (R317). -/
abbrev SELECTOR_TARGET : EntryDef :=
  ⟨0x2120, 1, 0x06, 0x06, .u8, .ro, .operator, .fixed, .val 0xff, .any, false⟩
/-- 0x2120:07 SELECTOR SWITCH_COUNT (R317). -/
abbrev SELECTOR_SWITCH_COUNT : EntryDef :=
  ⟨0x2120, 1, 0x07, 0x07, .u32, .ro, .operator, .fixed, .val 0, .any, false⟩
/-- 0x2120:08 SELECTOR LAST_SWITCH_S (R317). -/
abbrev SELECTOR_LAST_SWITCH_S : EntryDef :=
  ⟨0x2120, 1, 0x08, 0x08, .u64, .ro, .operator, .fixed, .val 0, .any, false⟩
/-- 0x2120:09 SELECTOR LAST_SWITCH_NS (R317). -/
abbrev SELECTOR_LAST_SWITCH_NS : EntryDef :=
  ⟨0x2120, 1, 0x09, 0x09, .u32, .ro, .operator, .fixed, .val 0, .any, false⟩
/-- 0x2120:0A SELECTOR SLEW_REMAINING (R317). -/
abbrev SELECTOR_SLEW_REMAINING : EntryDef :=
  ⟨0x2120, 1, 0x0A, 0x0A, .q32, .ro, .operator, .fixed, .val 0, .any, false⟩
/-- 0x2120:0B SELECTOR RANKING (R317). -/
abbrev SELECTOR_RANKING : EntryDef :=
  ⟨0x2120, 1, 0x0B, 0x0B, .u64, .ro, .operator, .fixed, .val 0xffffffffffff, .any, false⟩
/-- 0x2120:0C SELECTOR RETARGETS (R317). -/
abbrev SELECTOR_RETARGETS : EntryDef :=
  ⟨0x2120, 1, 0x0C, 0x0C, .u32, .ro, .operator, .fixed, .val 0, .any, false⟩
/-- The rows of SELECTOR. -/
def rows_SELECTOR : List EntryDef :=
  [SELECTOR_HIGHEST_SUB,
   SELECTOR_REVERTIVE,
   SELECTOR_WTR,
   SELECTOR_INITIAL_QUAL,
   SELECTOR_FORCE,
   SELECTOR_SELECTED,
   SELECTOR_TARGET,
   SELECTOR_SWITCH_COUNT,
   SELECTOR_LAST_SWITCH_S,
   SELECTOR_LAST_SWITCH_NS,
   SELECTOR_SLEW_REMAINING,
   SELECTOR_RANKING,
   SELECTOR_RETARGETS]

/-- 0x2130 + n:00 FTG HIGHEST_SUB (R318). -/
abbrev FTG_HIGHEST_SUB : EntryDef :=
  ⟨0x2130, 8, 0x00, 0x00, .u8, .const, .operator, .fixed, .val 0xd, .any, false⟩
/-- 0x2130 + n:01 FTG ENABLE (R318). -/
abbrev FTG_ENABLE : EntryDef :=
  ⟨0x2130, 8, 0x01, 0x01, .bool, .rw, .integrator, .live, .val 0, .within 0 1, true⟩
/-- 0x2130 + n:02 FTG RATE_NUM (R318). -/
abbrev FTG_RATE_NUM : EntryDef :=
  ⟨0x2130, 8, 0x02, 0x02, .u32, .rw, .integrator, .halt, .val 50, .any, true⟩
/-- 0x2130 + n:03 FTG RATE_DEN (R318). -/
abbrev FTG_RATE_DEN : EntryDef :=
  ⟨0x2130, 8, 0x03, 0x03, .u32, .rw, .integrator, .halt, .val 1, .within 1 4294967295, true⟩
/-- 0x2130 + n:04 FTG OFFSET (R318). -/
abbrev FTG_OFFSET : EntryDef :=
  ⟨0x2130, 8, 0x04, 0x04, .u32, .rw, .integrator, .halt, .val 0, .any, true⟩
/-- 0x2130 + n:05 FTG FP_MODE (R318). -/
abbrev FTG_FP_MODE : EntryDef :=
  ⟨0x2130, 8, 0x05, 0x05, .u8, .rw, .integrator, .live, .val 1, .oneOf [0, 1, 2], true⟩
/-- 0x2130 + n:06 FTG FP_SLOTS (R318). -/
abbrev FTG_FP_SLOTS : EntryDef :=
  ⟨0x2130, 8, 0x06, 0x06, .u8, .rw, .integrator, .live, .val 1, .within 1 8, true⟩
/-- 0x2130 + n:07 FTG FP_WIDTH (R318). -/
abbrev FTG_FP_WIDTH : EntryDef :=
  ⟨0x2130, 8, 0x07, 0x07, .u32, .rw, .integrator, .live, .val 1000, .within 10 1000000, true⟩
/-- 0x2130 + n:08 FTG FP_POLARITY (R318). -/
abbrev FTG_FP_POLARITY : EntryDef :=
  ⟨0x2130, 8, 0x08, 0x08, .u8, .rw, .integrator, .live, .val 0, .oneOf [0, 1], true⟩
/-- 0x2130 + n:09 FTG STATE (R318). -/
abbrev FTG_STATE : EntryDef :=
  ⟨0x2130, 8, 0x09, 0x09, .u8, .ro, .operator, .fixed, .val 0, .any, false⟩
/-- 0x2130 + n:0A FTG BASE_FRAMES (R318). -/
abbrev FTG_BASE_FRAMES : EntryDef :=
  ⟨0x2130, 8, 0x0A, 0x0A, .u64, .ro, .operator, .fixed, .val 0, .any, false⟩
/-- 0x2130 + n:0B FTG NEXT_START_S (R318). -/
abbrev FTG_NEXT_START_S : EntryDef :=
  ⟨0x2130, 8, 0x0B, 0x0B, .u64, .ro, .operator, .fixed, .val 0, .any, false⟩
/-- 0x2130 + n:0C FTG NEXT_START_NS (R318). -/
abbrev FTG_NEXT_START_NS : EntryDef :=
  ⟨0x2130, 8, 0x0C, 0x0C, .u32, .ro, .operator, .fixed, .val 0, .any, false⟩
/-- 0x2130 + n:0D FTG LENGTHENED_FRAMES (R318). -/
abbrev FTG_LENGTHENED_FRAMES : EntryDef :=
  ⟨0x2130, 8, 0x0D, 0x0D, .u32, .ro, .operator, .fixed, .val 0, .any, false⟩
/-- The rows of FTG. -/
def rows_FTG : List EntryDef :=
  [FTG_HIGHEST_SUB,
   FTG_ENABLE,
   FTG_RATE_NUM,
   FTG_RATE_DEN,
   FTG_OFFSET,
   FTG_FP_MODE,
   FTG_FP_SLOTS,
   FTG_FP_WIDTH,
   FTG_FP_POLARITY,
   FTG_STATE,
   FTG_BASE_FRAMES,
   FTG_NEXT_START_S,
   FTG_NEXT_START_NS,
   FTG_LENGTHENED_FRAMES]

/-- 0x2140:00 HOLDOVER HIGHEST_SUB (R319). -/
abbrev HOLDOVER_HIGHEST_SUB : EntryDef :=
  ⟨0x2140, 1, 0x00, 0x00, .u8, .const, .operator, .fixed, .val 0xc, .any, false⟩
/-- 0x2140:01 HOLDOVER WINDOW (R319). -/
abbrev HOLDOVER_WINDOW : EntryDef :=
  ⟨0x2140, 1, 0x01, 0x01, .u16, .rw, .integrator, .live, .val 300, .within 10 1000, true⟩
/-- 0x2140:02 HOLDOVER GUARD (R319). -/
abbrev HOLDOVER_GUARD : EntryDef :=
  ⟨0x2140, 1, 0x02, 0x02, .u16, .rw, .integrator, .live, .val 60, .within 0 600, true⟩
/-- 0x2140:03 HOLDOVER LIMIT (R319). -/
abbrev HOLDOVER_LIMIT : EntryDef :=
  ⟨0x2140, 1, 0x03, 0x03, .u32, .rw, .integrator, .live, .val 86400, .within 60 604800, true⟩
/-- 0x2140:04 HOLDOVER VALID (R319). -/
abbrev HOLDOVER_VALID : EntryDef :=
  ⟨0x2140, 1, 0x04, 0x04, .bool, .ro, .operator, .fixed, .val 0, .any, false⟩
/-- 0x2140:05 HOLDOVER VALUE (R319). -/
abbrev HOLDOVER_VALUE : EntryDef :=
  ⟨0x2140, 1, 0x05, 0x05, .q32, .ro, .operator, .fixed, .val 0, .any, false⟩
/-- 0x2140:06 HOLDOVER ONSET_S (R319). -/
abbrev HOLDOVER_ONSET_S : EntryDef :=
  ⟨0x2140, 1, 0x06, 0x06, .u64, .ro, .operator, .fixed, .val 0, .any, false⟩
/-- 0x2140:07 HOLDOVER ONSET_NS (R319). -/
abbrev HOLDOVER_ONSET_NS : EntryDef :=
  ⟨0x2140, 1, 0x07, 0x07, .u32, .ro, .operator, .fixed, .val 0, .any, false⟩
/-- 0x2140:08 HOLDOVER ELAPSED (R319). -/
abbrev HOLDOVER_ELAPSED : EntryDef :=
  ⟨0x2140, 1, 0x08, 0x08, .u32, .ro, .operator, .fixed, .val 0, .any, false⟩
/-- 0x2140:09 HOLDOVER VALID_ENTRIES (R319). -/
abbrev HOLDOVER_VALID_ENTRIES : EntryDef :=
  ⟨0x2140, 1, 0x09, 0x09, .u16, .ro, .operator, .fixed, .val 0, .any, false⟩
/-- 0x2140:0A HOLDOVER HISTORY (R319). -/
abbrev HOLDOVER_HISTORY : EntryDef :=
  ⟨0x2140, 1, 0x0A, 0x0A, .domain, .ro, .operator, .fixed, .val 0, .length 0 4294967295, false⟩
/-- 0x2140:0B HOLDOVER ENTRIES_USED (R319). -/
abbrev HOLDOVER_ENTRIES_USED : EntryDef :=
  ⟨0x2140, 1, 0x0B, 0x0B, .u16, .ro, .operator, .fixed, .val 0, .any, false⟩
/-- 0x2140:0C HOLDOVER HOLDOVERS (R319). -/
abbrev HOLDOVER_HOLDOVERS : EntryDef :=
  ⟨0x2140, 1, 0x0C, 0x0C, .u32, .ro, .operator, .fixed, .val 0, .any, false⟩
/-- The rows of HOLDOVER. -/
def rows_HOLDOVER : List EntryDef :=
  [HOLDOVER_HIGHEST_SUB,
   HOLDOVER_WINDOW,
   HOLDOVER_GUARD,
   HOLDOVER_LIMIT,
   HOLDOVER_VALID,
   HOLDOVER_VALUE,
   HOLDOVER_ONSET_S,
   HOLDOVER_ONSET_NS,
   HOLDOVER_ELAPSED,
   HOLDOVER_VALID_ENTRIES,
   HOLDOVER_HISTORY,
   HOLDOVER_ENTRIES_USED,
   HOLDOVER_HOLDOVERS]

/-- 0x2150:00 TIMEBASE HIGHEST_SUB (R320). -/
abbrev TIMEBASE_HIGHEST_SUB : EntryDef :=
  ⟨0x2150, 1, 0x00, 0x00, .u8, .const, .operator, .fixed, .val 0x9, .any, false⟩
/-- 0x2150:01 TIMEBASE TIME_S (R320). -/
abbrev TIMEBASE_TIME_S : EntryDef :=
  ⟨0x2150, 1, 0x01, 0x01, .u64, .ro, .operator, .fixed, .val 0, .any, false⟩
/-- 0x2150:02 TIMEBASE TIME_NS (R320). -/
abbrev TIMEBASE_TIME_NS : EntryDef :=
  ⟨0x2150, 1, 0x02, 0x02, .u32, .ro, .operator, .fixed, .val 0, .any, false⟩
/-- 0x2150:03 TIMEBASE SOURCE (R320). -/
abbrev TIMEBASE_SOURCE : EntryDef :=
  ⟨0x2150, 1, 0x03, 0x03, .u8, .ro, .operator, .fixed, .val 0, .any, false⟩
/-- 0x2150:04 TIMEBASE PTP_OFFSET (R320). -/
abbrev TIMEBASE_PTP_OFFSET : EntryDef :=
  ⟨0x2150, 1, 0x04, 0x04, .i64, .ro, .operator, .fixed, .val 0x8000000000000000, .any, false⟩
/-- 0x2150:05 TIMEBASE SET_S (R320). -/
abbrev TIMEBASE_SET_S : EntryDef :=
  ⟨0x2150, 1, 0x05, 0x05, .u64, .rw, .integrator, .live, .val 0, .bits 0xFFFFFFFFFFFF, false⟩
/-- 0x2150:06 TIMEBASE SET_NS (R320). -/
abbrev TIMEBASE_SET_NS : EntryDef :=
  ⟨0x2150, 1, 0x06, 0x06, .u32, .rw, .integrator, .live, .val 0, .within 0 999999999, false⟩
/-- 0x2150:07 TIMEBASE SET (R320). -/
abbrev TIMEBASE_SET : EntryDef :=
  ⟨0x2150, 1, 0x07, 0x07, .u8, .wo, .integrator, .live, .val 0, .oneOf [1], false⟩
/-- 0x2150:08 TIMEBASE JUMPS (R320). -/
abbrev TIMEBASE_JUMPS : EntryDef :=
  ⟨0x2150, 1, 0x08, 0x08, .u32, .ro, .operator, .fixed, .val 0, .any, false⟩
/-- 0x2150:09 TIMEBASE LAST_JUMP (R320). -/
abbrev TIMEBASE_LAST_JUMP : EntryDef :=
  ⟨0x2150, 1, 0x09, 0x09, .i64, .ro, .operator, .fixed, .val 0, .any, false⟩
/-- The rows of TIMEBASE. -/
def rows_TIMEBASE : List EntryDef :=
  [TIMEBASE_HIGHEST_SUB,
   TIMEBASE_TIME_S,
   TIMEBASE_TIME_NS,
   TIMEBASE_SOURCE,
   TIMEBASE_PTP_OFFSET,
   TIMEBASE_SET_S,
   TIMEBASE_SET_NS,
   TIMEBASE_SET,
   TIMEBASE_JUMPS,
   TIMEBASE_LAST_JUMP]

end Sys2Proof.Machine.Dict
end

