-- ==== Sys2Proof/Machine/DictIngest.lean ====
section
/-! DEFINITION. The dictionary entries of the spec's chapter 04, one definition per row of its tables,
written from those tables (R396). -/
namespace Sys2Proof.Machine.Dict

/-- 0x2400 + n:00 INPUT HIGHEST_SUB (R120). -/
abbrev INPUT_HIGHEST_SUB : EntryDef :=
  ⟨0x2400, 64, 0x00, 0x00, .u8, .const, .operator, .fixed, .val 0x2f, .any, false⟩
/-- 0x2400 + n:01 INPUT ENABLE (R120). -/
abbrev INPUT_ENABLE : EntryDef :=
  ⟨0x2400, 64, 0x01, 0x01, .bool, .rw, .integrator, .live, .val 0, .within 0 1, true⟩
/-- 0x2400 + n:02 INPUT TRANSPORT (R120). -/
abbrev INPUT_TRANSPORT : EntryDef :=
  ⟨0x2400, 64, 0x02, 0x02, .u8, .rw, .integrator, .halt, .val 0, .oneOf [0, 1, 2, 3, 4], true⟩
/-- 0x2400 + n:03 INPUT PORT_A (R120). -/
abbrev INPUT_PORT_A : EntryDef :=
  ⟨0x2400, 64, 0x03, 0x03, .u8, .rw, .integrator, .halt, .val 0xff, .within 0 47, true⟩
/-- 0x2400 + n:04 INPUT PORT_B (R120). -/
abbrev INPUT_PORT_B : EntryDef :=
  ⟨0x2400, 64, 0x04, 0x04, .u8, .rw, .integrator, .halt, .val 0xff, .withinOr 0 47 [255], true⟩
/-- 0x2400 + n:05 INPUT DEST_ADDR_A (R120). -/
abbrev INPUT_DEST_ADDR_A : EntryDef :=
  ⟨0x2400, 64, 0x05, 0x05, .u32, .rw, .integrator, .halt, .val 0, .any, true⟩
/-- 0x2400 + n:06 INPUT DEST_ADDR_B (R120). -/
abbrev INPUT_DEST_ADDR_B : EntryDef :=
  ⟨0x2400, 64, 0x06, 0x06, .u32, .rw, .integrator, .halt, .val 0, .any, true⟩
/-- 0x2400 + n:07 INPUT SOURCE_A (R120). -/
abbrev INPUT_SOURCE_A : EntryDef :=
  ⟨0x2400, 64, 0x07, 0x07, .u32, .rw, .integrator, .halt, .val 0, .any, true⟩
/-- 0x2400 + n:08 INPUT SOURCE_B (R120). -/
abbrev INPUT_SOURCE_B : EntryDef :=
  ⟨0x2400, 64, 0x08, 0x08, .u32, .rw, .integrator, .halt, .val 0, .any, true⟩
/-- 0x2400 + n:09 INPUT UDP_PORT_A (R120). -/
abbrev INPUT_UDP_PORT_A : EntryDef :=
  ⟨0x2400, 64, 0x09, 0x09, .u16, .rw, .integrator, .halt, .val 5004, .within 1 65535, true⟩
/-- 0x2400 + n:0A INPUT UDP_PORT_B (R120). -/
abbrev INPUT_UDP_PORT_B : EntryDef :=
  ⟨0x2400, 64, 0x0A, 0x0A, .u16, .rw, .integrator, .halt, .val 5004, .within 1 65535, true⟩
/-- 0x2400 + n:0B INPUT PAYLOAD_TYPE (R120). -/
abbrev INPUT_PAYLOAD_TYPE : EntryDef :=
  ⟨0x2400, 64, 0x0B, 0x0B, .u8, .rw, .integrator, .halt, .val 96, .within 96 127, true⟩
/-- 0x2400 + n:0C INPUT WIDTH (R120). -/
abbrev INPUT_WIDTH : EntryDef :=
  ⟨0x2400, 64, 0x0C, 0x0C, .u16, .rw, .integrator, .halt, .val 1920, .within 16 8192, true⟩
/-- 0x2400 + n:0D INPUT HEIGHT (R120). -/
abbrev INPUT_HEIGHT : EntryDef :=
  ⟨0x2400, 64, 0x0D, 0x0D, .u16, .rw, .integrator, .halt, .val 1080, .within 16 4320, true⟩
/-- 0x2400 + n:0E INPUT RATE_NUM (R120). -/
abbrev INPUT_RATE_NUM : EntryDef :=
  ⟨0x2400, 64, 0x0E, 0x0E, .u32, .rw, .integrator, .halt, .val 50, .any, true⟩
/-- 0x2400 + n:0F INPUT RATE_DEN (R120). -/
abbrev INPUT_RATE_DEN : EntryDef :=
  ⟨0x2400, 64, 0x0F, 0x0F, .u32, .rw, .integrator, .halt, .val 1, .within 1 4294967295, true⟩
/-- 0x2400 + n:10 INPUT SCAN (R120). -/
abbrev INPUT_SCAN : EntryDef :=
  ⟨0x2400, 64, 0x10, 0x10, .u8, .rw, .integrator, .halt, .val 0, .oneOf [0, 1, 2], true⟩
/-- 0x2400 + n:11 INPUT SAMPLING (R120). -/
abbrev INPUT_SAMPLING : EntryDef :=
  ⟨0x2400, 64, 0x11, 0x11, .u8, .rw, .integrator, .halt, .val 0, .oneOf [0, 1, 2, 3], true⟩
/-- 0x2400 + n:12 INPUT DEPTH (R120). -/
abbrev INPUT_DEPTH : EntryDef :=
  ⟨0x2400, 64, 0x12, 0x12, .u8, .rw, .integrator, .halt, .val 10, .oneOf [8, 10, 12], true⟩
/-- 0x2400 + n:13 INPUT COLORIMETRY (R120). -/
abbrev INPUT_COLORIMETRY : EntryDef :=
  ⟨0x2400, 64, 0x13, 0x13, .u8, .rw, .integrator, .halt, .val 0, .oneOf [0, 1], true⟩
/-- 0x2400 + n:14 INPUT TRANSFER (R120). -/
abbrev INPUT_TRANSFER : EntryDef :=
  ⟨0x2400, 64, 0x14, 0x14, .u8, .rw, .integrator, .halt, .val 0, .oneOf [0, 1, 2], true⟩
/-- 0x2400 + n:15 INPUT RANGE (R120). -/
abbrev INPUT_RANGE : EntryDef :=
  ⟨0x2400, 64, 0x15, 0x15, .u8, .rw, .integrator, .halt, .val 0, .oneOf [0, 1], true⟩
/-- 0x2400 + n:16 INPUT RX_TIMING (R120). -/
abbrev INPUT_RX_TIMING : EntryDef :=
  ⟨0x2400, 64, 0x16, 0x16, .u8, .rw, .integrator, .halt, .val 1, .oneOf [0, 1], true⟩
/-- 0x2400 + n:17 INPUT PATH_SKEW_MAX (R120). -/
abbrev INPUT_PATH_SKEW_MAX : EntryDef :=
  ⟨0x2400, 64, 0x17, 0x17, .u16, .rw, .integrator, .halt, .val 10, .within 1 150, true⟩
/-- 0x2400 + n:18 INPUT GAP_TIMEOUT (R120). -/
abbrev INPUT_GAP_TIMEOUT : EntryDef :=
  ⟨0x2400, 64, 0x18, 0x18, .u16, .rw, .integrator, .halt, .val 1000, .within 100 10000, true⟩
/-- 0x2400 + n:19 INPUT FORMAT_MODE (R120). -/
abbrev INPUT_FORMAT_MODE : EntryDef :=
  ⟨0x2400, 64, 0x19, 0x19, .u8, .rw, .integrator, .halt, .val 0, .oneOf [0, 1], true⟩
/-- 0x2400 + n:1A INPUT DECIMATE (R120). -/
abbrev INPUT_DECIMATE : EntryDef :=
  ⟨0x2400, 64, 0x1A, 0x1A, .u8, .rw, .integrator, .halt, .val 0x0, .oneOf [0, 1, 2, 4, 5, 6, 8, 9, 10], true⟩
/-- 0x2400 + n:1B INPUT CONVERSION (R120). -/
abbrev INPUT_CONVERSION : EntryDef :=
  ⟨0x2400, 64, 0x1B, 0x1B, .u8, .rw, .integrator, .halt, .val 0, .oneOf [0, 1, 2], true⟩
/-- 0x2400 + n:1C INPUT CLASS_MODE (R120). -/
abbrev INPUT_CLASS_MODE : EntryDef :=
  ⟨0x2400, 64, 0x1C, 0x1C, .u8, .rw, .operator, .live, .val 0, .oneOf [0, 1], true⟩
/-- 0x2400 + n:1D INPUT CLASS (R120). -/
abbrev INPUT_CLASS : EntryDef :=
  ⟨0x2400, 64, 0x1D, 0x1D, .u8, .rw, .integrator, .live, .val 0, .oneOf [0, 1], true⟩
/-- 0x2400 + n:1E INPUT PRIORITY (R120). -/
abbrev INPUT_PRIORITY : EntryDef :=
  ⟨0x2400, 64, 0x1E, 0x1E, .u8, .rw, .integrator, .live, .val 8, .within 0 15, true⟩
/-- 0x2400 + n:20 INPUT HEALTH (R120). -/
abbrev INPUT_HEALTH : EntryDef :=
  ⟨0x2400, 64, 0x20, 0x20, .u8, .ro, .operator, .fixed, .val 0, .any, false⟩
/-- 0x2400 + n:21 INPUT TIMING_CLASS (R120). -/
abbrev INPUT_TIMING_CLASS : EntryDef :=
  ⟨0x2400, 64, 0x21, 0x21, .u8, .ro, .operator, .fixed, .val 0, .any, false⟩
/-- 0x2400 + n:22 INPUT ACTIVE_CONVERSION (R120). -/
abbrev INPUT_ACTIVE_CONVERSION : EntryDef :=
  ⟨0x2400, 64, 0x22, 0x22, .u8, .ro, .operator, .fixed, .val 0, .any, false⟩
/-- 0x2400 + n:23 INPUT LEAD (R120). -/
abbrev INPUT_LEAD : EntryDef :=
  ⟨0x2400, 64, 0x23, 0x23, .i32, .ro, .operator, .fixed, .val 0, .any, false⟩
/-- 0x2400 + n:24 INPUT MEASURED_RATE (R120). -/
abbrev INPUT_MEASURED_RATE : EntryDef :=
  ⟨0x2400, 64, 0x24, 0x24, .u64, .ro, .operator, .fixed, .val 0, .any, false⟩
/-- 0x2400 + n:25 INPUT LATENCY (R120). -/
abbrev INPUT_LATENCY : EntryDef :=
  ⟨0x2400, 64, 0x25, 0x25, .u32, .ro, .operator, .fixed, .val 0, .any, false⟩
/-- 0x2400 + n:26 INPUT FRAMES_RECEIVED (R120). -/
abbrev INPUT_FRAMES_RECEIVED : EntryDef :=
  ⟨0x2400, 64, 0x26, 0x26, .u64, .ro, .operator, .fixed, .val 0, .any, false⟩
/-- 0x2400 + n:27 INPUT FRAMES_DAMAGED (R120). -/
abbrev INPUT_FRAMES_DAMAGED : EntryDef :=
  ⟨0x2400, 64, 0x27, 0x27, .u64, .ro, .operator, .fixed, .val 0, .any, false⟩
/-- 0x2400 + n:28 INPUT FRAMES_MISSING (R120). -/
abbrev INPUT_FRAMES_MISSING : EntryDef :=
  ⟨0x2400, 64, 0x28, 0x28, .u64, .ro, .operator, .fixed, .val 0, .any, false⟩
/-- 0x2400 + n:29 INPUT PACKETS_RECOVERED (R120). -/
abbrev INPUT_PACKETS_RECOVERED : EntryDef :=
  ⟨0x2400, 64, 0x29, 0x29, .u64, .ro, .operator, .fixed, .val 0, .any, false⟩
/-- 0x2400 + n:2A INPUT PATH_STATE (R120). -/
abbrev INPUT_PATH_STATE : EntryDef :=
  ⟨0x2400, 64, 0x2A, 0x2A, .u8, .ro, .operator, .fixed, .val 0x0, .any, false⟩
/-- 0x2400 + n:2B INPUT STORE_SIZE (R120). -/
abbrev INPUT_STORE_SIZE : EntryDef :=
  ⟨0x2400, 64, 0x2B, 0x2B, .u32, .ro, .operator, .fixed, .val 0, .any, false⟩
/-- 0x2400 + n:2C INPUT STAGE_SIZE (R120). -/
abbrev INPUT_STAGE_SIZE : EntryDef :=
  ⟨0x2400, 64, 0x2C, 0x2C, .u32, .ro, .operator, .fixed, .val 0, .any, false⟩
/-- 0x2400 + n:2D INPUT CLASS_CHANGES (R120). -/
abbrev INPUT_CLASS_CHANGES : EntryDef :=
  ⟨0x2400, 64, 0x2D, 0x2D, .u32, .ro, .operator, .fixed, .val 0, .any, false⟩
/-- 0x2400 + n:2E INPUT MEASURED_FORMAT (R120). -/
abbrev INPUT_MEASURED_FORMAT : EntryDef :=
  ⟨0x2400, 64, 0x2E, 0x2E, .domain, .ro, .operator, .fixed, .val 0, .length 0 4294967295, false⟩
/-- 0x2400 + n:2F INPUT PROTECTED (R120). -/
abbrev INPUT_PROTECTED : EntryDef :=
  ⟨0x2400, 64, 0x2F, 0x2F, .bool, .ro, .operator, .fixed, .val 0, .any, false⟩
/-- The rows of INPUT. -/
def rows_INPUT : List EntryDef :=
  [INPUT_HIGHEST_SUB,
   INPUT_ENABLE,
   INPUT_TRANSPORT,
   INPUT_PORT_A,
   INPUT_PORT_B,
   INPUT_DEST_ADDR_A,
   INPUT_DEST_ADDR_B,
   INPUT_SOURCE_A,
   INPUT_SOURCE_B,
   INPUT_UDP_PORT_A,
   INPUT_UDP_PORT_B,
   INPUT_PAYLOAD_TYPE,
   INPUT_WIDTH,
   INPUT_HEIGHT,
   INPUT_RATE_NUM,
   INPUT_RATE_DEN,
   INPUT_SCAN,
   INPUT_SAMPLING,
   INPUT_DEPTH,
   INPUT_COLORIMETRY,
   INPUT_TRANSFER,
   INPUT_RANGE,
   INPUT_RX_TIMING,
   INPUT_PATH_SKEW_MAX,
   INPUT_GAP_TIMEOUT,
   INPUT_FORMAT_MODE,
   INPUT_DECIMATE,
   INPUT_CONVERSION,
   INPUT_CLASS_MODE,
   INPUT_CLASS,
   INPUT_PRIORITY,
   INPUT_HEALTH,
   INPUT_TIMING_CLASS,
   INPUT_ACTIVE_CONVERSION,
   INPUT_LEAD,
   INPUT_MEASURED_RATE,
   INPUT_LATENCY,
   INPUT_FRAMES_RECEIVED,
   INPUT_FRAMES_DAMAGED,
   INPUT_FRAMES_MISSING,
   INPUT_PACKETS_RECOVERED,
   INPUT_PATH_STATE,
   INPUT_STORE_SIZE,
   INPUT_STAGE_SIZE,
   INPUT_CLASS_CHANGES,
   INPUT_MEASURED_FORMAT,
   INPUT_PROTECTED]

/-- 0x2440 + n:00 HOST_SOURCE HIGHEST_SUB (R121). -/
abbrev HOST_SOURCE_HIGHEST_SUB : EntryDef :=
  ⟨0x2440, 32, 0x00, 0x00, .u8, .const, .operator, .fixed, .val 0x16, .any, false⟩
/-- 0x2440 + n:01 HOST_SOURCE ENABLE (R121). -/
abbrev HOST_SOURCE_ENABLE : EntryDef :=
  ⟨0x2440, 32, 0x01, 0x01, .bool, .rw, .integrator, .live, .val 0, .within 0 1, true⟩
/-- 0x2440 + n:02 HOST_SOURCE LOCATION (R121). -/
abbrev HOST_SOURCE_LOCATION : EntryDef :=
  ⟨0x2440, 32, 0x02, 0x02, .u8, .rw, .integrator, .halt, .val 0, .oneOf [0, 1], true⟩
/-- 0x2440 + n:03 HOST_SOURCE FORMAT (R121). -/
abbrev HOST_SOURCE_FORMAT : EntryDef :=
  ⟨0x2440, 32, 0x03, 0x03, .u8, .rw, .integrator, .halt, .val 2, .oneOf [0, 1, 2, 3, 4], true⟩
/-- 0x2440 + n:04 HOST_SOURCE WIDTH (R121). -/
abbrev HOST_SOURCE_WIDTH : EntryDef :=
  ⟨0x2440, 32, 0x04, 0x04, .u16, .rw, .integrator, .halt, .val 1920, .within 16 16384, true⟩
/-- 0x2440 + n:05 HOST_SOURCE HEIGHT (R121). -/
abbrev HOST_SOURCE_HEIGHT : EntryDef :=
  ⟨0x2440, 32, 0x05, 0x05, .u16, .rw, .integrator, .halt, .val 1080, .within 16 16384, true⟩
/-- 0x2440 + n:06 HOST_SOURCE STRIDE (R121). -/
abbrev HOST_SOURCE_STRIDE : EntryDef :=
  ⟨0x2440, 32, 0x06, 0x06, .u32, .rw, .integrator, .halt, .val 7680, .multiple 64, true⟩
/-- 0x2440 + n:07 HOST_SOURCE BUFFER_ADDR_0 (R121). -/
abbrev HOST_SOURCE_BUFFER_ADDR_0 : EntryDef :=
  ⟨0x2440, 32, 0x07, 0x07, .u64, .rw, .integrator, .halt, .val 0, .any, true⟩
/-- 0x2440 + n:08 HOST_SOURCE BUFFER_ADDR_1 (R121). -/
abbrev HOST_SOURCE_BUFFER_ADDR_1 : EntryDef :=
  ⟨0x2440, 32, 0x08, 0x08, .u64, .rw, .integrator, .halt, .val 0, .any, true⟩
/-- 0x2440 + n:09 HOST_SOURCE COLORIMETRY (R121). -/
abbrev HOST_SOURCE_COLORIMETRY : EntryDef :=
  ⟨0x2440, 32, 0x09, 0x09, .u8, .rw, .integrator, .halt, .val 0, .oneOf [0, 1], true⟩
/-- 0x2440 + n:0A HOST_SOURCE TRANSFER (R121). -/
abbrev HOST_SOURCE_TRANSFER : EntryDef :=
  ⟨0x2440, 32, 0x0A, 0x0A, .u8, .rw, .integrator, .halt, .val 0, .oneOf [0, 1, 2], true⟩
/-- 0x2440 + n:0B HOST_SOURCE RANGE (R121). -/
abbrev HOST_SOURCE_RANGE : EntryDef :=
  ⟨0x2440, 32, 0x0B, 0x0B, .u8, .rw, .integrator, .halt, .val 1, .oneOf [0, 1], true⟩
/-- 0x2440 + n:0C HOST_SOURCE FLIP (R121). -/
abbrev HOST_SOURCE_FLIP : EntryDef :=
  ⟨0x2440, 32, 0x0C, 0x0C, .u8, .wo, .operator, .live, .val 0, .oneOf [0, 1], false⟩
/-- 0x2440 + n:0D HOST_SOURCE FRONT (R121). -/
abbrev HOST_SOURCE_FRONT : EntryDef :=
  ⟨0x2440, 32, 0x0D, 0x0D, .u8, .ro, .operator, .fixed, .val 0, .any, false⟩
/-- 0x2440 + n:0E HOST_SOURCE FLIP_STATE (R121). -/
abbrev HOST_SOURCE_FLIP_STATE : EntryDef :=
  ⟨0x2440, 32, 0x0E, 0x0E, .u8, .ro, .operator, .fixed, .val 0, .any, false⟩
/-- 0x2440 + n:0F HOST_SOURCE FLIP_COUNT (R121). -/
abbrev HOST_SOURCE_FLIP_COUNT : EntryDef :=
  ⟨0x2440, 32, 0x0F, 0x0F, .u64, .ro, .operator, .fixed, .val 0, .any, false⟩
/-- 0x2440 + n:10 HOST_SOURCE RELEASE_COUNT (R121). -/
abbrev HOST_SOURCE_RELEASE_COUNT : EntryDef :=
  ⟨0x2440, 32, 0x10, 0x10, .u64, .ro, .operator, .fixed, .val 0, .any, false⟩
/-- 0x2440 + n:11 HOST_SOURCE MSIX_VECTOR (R121). -/
abbrev HOST_SOURCE_MSIX_VECTOR : EntryDef :=
  ⟨0x2440, 32, 0x11, 0x11, .u8, .rw, .operator, .live, .val 0xff, .withinOr 0 63 [255], false⟩
/-- 0x2440 + n:12 HOST_SOURCE CLASS (R121). -/
abbrev HOST_SOURCE_CLASS : EntryDef :=
  ⟨0x2440, 32, 0x12, 0x12, .u8, .rw, .integrator, .live, .val 0, .oneOf [0, 1], true⟩
/-- 0x2440 + n:13 HOST_SOURCE PRIORITY (R121). -/
abbrev HOST_SOURCE_PRIORITY : EntryDef :=
  ⟨0x2440, 32, 0x13, 0x13, .u8, .rw, .integrator, .live, .val 8, .within 0 15, true⟩
/-- 0x2440 + n:14 HOST_SOURCE HEALTH (R121). -/
abbrev HOST_SOURCE_HEALTH : EntryDef :=
  ⟨0x2440, 32, 0x14, 0x14, .u8, .ro, .operator, .fixed, .val 0, .any, false⟩
/-- 0x2440 + n:15 HOST_SOURCE LAND_S (R121). -/
abbrev HOST_SOURCE_LAND_S : EntryDef :=
  ⟨0x2440, 32, 0x15, 0x15, .u64, .ro, .operator, .fixed, .val 0, .any, false⟩
/-- 0x2440 + n:16 HOST_SOURCE LAND_NS (R121). -/
abbrev HOST_SOURCE_LAND_NS : EntryDef :=
  ⟨0x2440, 32, 0x16, 0x16, .u32, .ro, .operator, .fixed, .val 0, .any, false⟩
/-- The rows of HOST_SOURCE. -/
def rows_HOST_SOURCE : List EntryDef :=
  [HOST_SOURCE_HIGHEST_SUB,
   HOST_SOURCE_ENABLE,
   HOST_SOURCE_LOCATION,
   HOST_SOURCE_FORMAT,
   HOST_SOURCE_WIDTH,
   HOST_SOURCE_HEIGHT,
   HOST_SOURCE_STRIDE,
   HOST_SOURCE_BUFFER_ADDR_0,
   HOST_SOURCE_BUFFER_ADDR_1,
   HOST_SOURCE_COLORIMETRY,
   HOST_SOURCE_TRANSFER,
   HOST_SOURCE_RANGE,
   HOST_SOURCE_FLIP,
   HOST_SOURCE_FRONT,
   HOST_SOURCE_FLIP_STATE,
   HOST_SOURCE_FLIP_COUNT,
   HOST_SOURCE_RELEASE_COUNT,
   HOST_SOURCE_MSIX_VECTOR,
   HOST_SOURCE_CLASS,
   HOST_SOURCE_PRIORITY,
   HOST_SOURCE_HEALTH,
   HOST_SOURCE_LAND_S,
   HOST_SOURCE_LAND_NS]

/-- 0x2460 + n:00 POCKET_PLAYER HIGHEST_SUB (R122). -/
abbrev POCKET_PLAYER_HIGHEST_SUB : EntryDef :=
  ⟨0x2460, 32, 0x00, 0x00, .u8, .const, .operator, .fixed, .val 0x11, .any, false⟩
/-- 0x2460 + n:01 POCKET_PLAYER ENABLE (R122). -/
abbrev POCKET_PLAYER_ENABLE : EntryDef :=
  ⟨0x2460, 32, 0x01, 0x01, .bool, .rw, .integrator, .live, .val 0, .within 0 1, true⟩
/-- 0x2460 + n:02 POCKET_PLAYER CLIP (R122). -/
abbrev POCKET_PLAYER_CLIP : EntryDef :=
  ⟨0x2460, 32, 0x02, 0x02, .u16, .rw, .operator, .live, .val 0, .within 0 4095, false⟩
/-- 0x2460 + n:03 POCKET_PLAYER TRANSPORT (R122). -/
abbrev POCKET_PLAYER_TRANSPORT : EntryDef :=
  ⟨0x2460, 32, 0x03, 0x03, .u8, .rw, .operator, .live, .val 0, .within 0 4, false⟩
/-- 0x2460 + n:04 POCKET_PLAYER IN_FRAME (R122). -/
abbrev POCKET_PLAYER_IN_FRAME : EntryDef :=
  ⟨0x2460, 32, 0x04, 0x04, .u32, .rw, .operator, .live, .val 0, .any, false⟩
/-- 0x2460 + n:05 POCKET_PLAYER OUT_FRAME (R122). -/
abbrev POCKET_PLAYER_OUT_FRAME : EntryDef :=
  ⟨0x2460, 32, 0x05, 0x05, .u32, .rw, .operator, .live, .val 0xffffffff, .any, false⟩
/-- 0x2460 + n:06 POCKET_PLAYER START_S (R122). -/
abbrev POCKET_PLAYER_START_S : EntryDef :=
  ⟨0x2460, 32, 0x06, 0x06, .u64, .rw, .operator, .live, .val 0, .any, false⟩
/-- 0x2460 + n:07 POCKET_PLAYER START_NS (R122). -/
abbrev POCKET_PLAYER_START_NS : EntryDef :=
  ⟨0x2460, 32, 0x07, 0x07, .u32, .rw, .operator, .live, .val 0, .within 0 999999999, false⟩
/-- 0x2460 + n:08 POCKET_PLAYER FTG (R122). -/
abbrev POCKET_PLAYER_FTG : EntryDef :=
  ⟨0x2460, 32, 0x08, 0x08, .u8, .rw, .integrator, .halt, .val 0, .within 0 7, true⟩
/-- 0x2460 + n:09 POCKET_PLAYER CONVERSION (R122). -/
abbrev POCKET_PLAYER_CONVERSION : EntryDef :=
  ⟨0x2460, 32, 0x09, 0x09, .u8, .rw, .integrator, .halt, .val 0, .oneOf [0, 1], true⟩
/-- 0x2460 + n:0A POCKET_PLAYER PREFETCH (R122). -/
abbrev POCKET_PLAYER_PREFETCH : EntryDef :=
  ⟨0x2460, 32, 0x0A, 0x0A, .u8, .rw, .integrator, .live, .val 8, .within 2 32, true⟩
/-- 0x2460 + n:0B POCKET_PLAYER END_ACTION (R122). -/
abbrev POCKET_PLAYER_END_ACTION : EntryDef :=
  ⟨0x2460, 32, 0x0B, 0x0B, .u8, .rw, .operator, .live, .val 0, .oneOf [0, 1], true⟩
/-- 0x2460 + n:0C POCKET_PLAYER CLASS (R122). -/
abbrev POCKET_PLAYER_CLASS : EntryDef :=
  ⟨0x2460, 32, 0x0C, 0x0C, .u8, .rw, .integrator, .live, .val 0, .oneOf [0, 1], true⟩
/-- 0x2460 + n:0D POCKET_PLAYER PRIORITY (R122). -/
abbrev POCKET_PLAYER_PRIORITY : EntryDef :=
  ⟨0x2460, 32, 0x0D, 0x0D, .u8, .rw, .integrator, .live, .val 8, .within 0 15, true⟩
/-- 0x2460 + n:0E POCKET_PLAYER HEALTH (R122). -/
abbrev POCKET_PLAYER_HEALTH : EntryDef :=
  ⟨0x2460, 32, 0x0E, 0x0E, .u8, .ro, .operator, .fixed, .val 0, .any, false⟩
/-- 0x2460 + n:0F POCKET_PLAYER PLAY_STATE (R122). -/
abbrev POCKET_PLAYER_PLAY_STATE : EntryDef :=
  ⟨0x2460, 32, 0x0F, 0x0F, .u8, .ro, .operator, .fixed, .val 0, .any, false⟩
/-- 0x2460 + n:10 POCKET_PLAYER POSITION (R122). -/
abbrev POCKET_PLAYER_POSITION : EntryDef :=
  ⟨0x2460, 32, 0x10, 0x10, .u32, .ro, .operator, .fixed, .val 0, .any, false⟩
/-- 0x2460 + n:11 POCKET_PLAYER UNDERFLOWS (R122). -/
abbrev POCKET_PLAYER_UNDERFLOWS : EntryDef :=
  ⟨0x2460, 32, 0x11, 0x11, .u32, .ro, .operator, .fixed, .val 0, .any, false⟩
/-- The rows of POCKET_PLAYER. -/
def rows_POCKET_PLAYER : List EntryDef :=
  [POCKET_PLAYER_HIGHEST_SUB,
   POCKET_PLAYER_ENABLE,
   POCKET_PLAYER_CLIP,
   POCKET_PLAYER_TRANSPORT,
   POCKET_PLAYER_IN_FRAME,
   POCKET_PLAYER_OUT_FRAME,
   POCKET_PLAYER_START_S,
   POCKET_PLAYER_START_NS,
   POCKET_PLAYER_FTG,
   POCKET_PLAYER_CONVERSION,
   POCKET_PLAYER_PREFETCH,
   POCKET_PLAYER_END_ACTION,
   POCKET_PLAYER_CLASS,
   POCKET_PLAYER_PRIORITY,
   POCKET_PLAYER_HEALTH,
   POCKET_PLAYER_PLAY_STATE,
   POCKET_PLAYER_POSITION,
   POCKET_PLAYER_UNDERFLOWS]

end Sys2Proof.Machine.Dict
end

