-- ==== Sys2Proof/Machine/DictKeys.lean ====
section
/-! DEFINITION. The dictionary entries of the spec's chapter 16, one definition per row of its tables,
written from those tables (R396). -/
namespace Sys2Proof.Machine.Dict

/-- 0x2001:00 LIFECYCLE HIGHEST_SUB (R452). -/
abbrev LIFECYCLE_HIGHEST_SUB : EntryDef :=
  ⟨0x2001, 1, 0x00, 0x00, .u8, .const, .operator, .fixed, .val 0x5, .any, false⟩
/-- 0x2001:01 LIFECYCLE STATE (R452). -/
abbrev LIFECYCLE_STATE : EntryDef :=
  ⟨0x2001, 1, 0x01, 0x01, .u8, .ro, .operator, .fixed, .val 1, .any, false⟩
/-- 0x2001:02 LIFECYCLE TARGET (R452). -/
abbrev LIFECYCLE_TARGET : EntryDef :=
  ⟨0x2001, 1, 0x02, 0x02, .u8, .rw, .service, .live, .val 0, .withinOr 2 4 [0], false⟩
/-- 0x2001:03 LIFECYCLE CHALLENGE (R452). -/
abbrev LIFECYCLE_CHALLENGE : EntryDef :=
  ⟨0x2001, 1, 0x03, 0x03, .u32, .ro, .service, .fixed, .val 0, .any, false⟩
/-- 0x2001:04 LIFECYCLE CONFIRM (R452). -/
abbrev LIFECYCLE_CONFIRM : EntryDef :=
  ⟨0x2001, 1, 0x04, 0x04, .u32, .wo, .service, .live, .val 0, .any, false⟩
/-- 0x2001:05 LIFECYCLE ROOTS (R452). -/
abbrev LIFECYCLE_ROOTS : EntryDef :=
  ⟨0x2001, 1, 0x05, 0x05, .u8, .ro, .operator, .fixed, .val 0x7, .any, false⟩
/-- The rows of LIFECYCLE. -/
def rows_LIFECYCLE : List EntryDef :=
  [LIFECYCLE_HIGHEST_SUB,
   LIFECYCLE_STATE,
   LIFECYCLE_TARGET,
   LIFECYCLE_CHALLENGE,
   LIFECYCLE_CONFIRM,
   LIFECYCLE_ROOTS]

/-- 0x3400:00 KEY_STORE HIGHEST_SUB (R453). -/
abbrev KEY_STORE_HIGHEST_SUB : EntryDef :=
  ⟨0x3400, 1, 0x00, 0x00, .u8, .const, .operator, .fixed, .val 0xc, .any, false⟩
/-- 0x3400:01 KEY_STORE STATE (R453). -/
abbrev KEY_STORE_STATE : EntryDef :=
  ⟨0x3400, 1, 0x01, 0x01, .u8, .ro, .operator, .fixed, .val 0, .any, false⟩
/-- 0x3400:02 KEY_STORE TAMPER_GENERATION (R453). -/
abbrev KEY_STORE_TAMPER_GENERATION : EntryDef :=
  ⟨0x3400, 1, 0x02, 0x02, .u8, .ro, .operator, .fixed, .val 0, .any, false⟩
/-- 0x3400:03 KEY_STORE TAMPER_SOURCES (R453). -/
abbrev KEY_STORE_TAMPER_SOURCES : EntryDef :=
  ⟨0x3400, 1, 0x03, 0x03, .u8, .rw, .service, .live, .val 0x7, .bits 0x7, false⟩
/-- 0x3400:04 KEY_STORE TAMPER_CAP_OK (R453). -/
abbrev KEY_STORE_TAMPER_CAP_OK : EntryDef :=
  ⟨0x3400, 1, 0x04, 0x04, .bool, .ro, .operator, .fixed, .val 0, .any, false⟩
/-- 0x3400:05 KEY_STORE USABLE_SLOTS (R453). -/
abbrev KEY_STORE_USABLE_SLOTS : EntryDef :=
  ⟨0x3400, 1, 0x05, 0x05, .u8, .ro, .operator, .fixed, .val 0, .any, false⟩
/-- 0x3400:06 KEY_STORE SPARES_FREE (R453). -/
abbrev KEY_STORE_SPARES_FREE : EntryDef :=
  ⟨0x3400, 1, 0x06, 0x06, .u8, .ro, .operator, .fixed, .val 8, .any, false⟩
/-- 0x3400:07 KEY_STORE HDCP_WRAP_SLOT (R453). -/
abbrev KEY_STORE_HDCP_WRAP_SLOT : EntryDef :=
  ⟨0x3400, 1, 0x07, 0x07, .u8, .rw, .integrator, .live, .val 0xff, .withinOr 0 71 [255], false⟩
/-- 0x3400:08 KEY_STORE HDCP_KEYS (R453). -/
abbrev KEY_STORE_HDCP_KEYS : EntryDef :=
  ⟨0x3400, 1, 0x08, 0x08, .domain, .wo, .integrator, .live, .val 0, .length 1245 1245, false⟩
/-- 0x3400:09 KEY_STORE HDCP_STATE (R453). -/
abbrev KEY_STORE_HDCP_STATE : EntryDef :=
  ⟨0x3400, 1, 0x09, 0x09, .u8, .ro, .operator, .fixed, .val 0, .any, false⟩
/-- 0x3400:0A KEY_STORE HDCP_KCV (R453). -/
abbrev KEY_STORE_HDCP_KCV : EntryDef :=
  ⟨0x3400, 1, 0x0A, 0x0A, .u32, .rw, .integrator, .live, .val 0, .bits 0xFFFFFF, false⟩
/-- 0x3400:0B KEY_STORE LAST_TAMPER_S (R453). -/
abbrev KEY_STORE_LAST_TAMPER_S : EntryDef :=
  ⟨0x3400, 1, 0x0B, 0x0B, .u32, .ro, .operator, .fixed, .val 0, .any, false⟩
/-- 0x3400:0C KEY_STORE TAMPER_CAUSE (R453). -/
abbrev KEY_STORE_TAMPER_CAUSE : EntryDef :=
  ⟨0x3400, 1, 0x0C, 0x0C, .u8, .ro, .operator, .fixed, .val 0x0, .any, false⟩
/-- The rows of KEY_STORE. -/
def rows_KEY_STORE : List EntryDef :=
  [KEY_STORE_HIGHEST_SUB,
   KEY_STORE_STATE,
   KEY_STORE_TAMPER_GENERATION,
   KEY_STORE_TAMPER_SOURCES,
   KEY_STORE_TAMPER_CAP_OK,
   KEY_STORE_USABLE_SLOTS,
   KEY_STORE_SPARES_FREE,
   KEY_STORE_HDCP_WRAP_SLOT,
   KEY_STORE_HDCP_KEYS,
   KEY_STORE_HDCP_STATE,
   KEY_STORE_HDCP_KCV,
   KEY_STORE_LAST_TAMPER_S,
   KEY_STORE_TAMPER_CAUSE]

/-- 0x3401 + n:00 KEY_SLOT HIGHEST_SUB (R454). -/
abbrev KEY_SLOT_HIGHEST_SUB : EntryDef :=
  ⟨0x3401, 72, 0x00, 0x00, .u8, .const, .operator, .fixed, .val 0xc, .any, false⟩
/-- 0x3401 + n:01 KEY_SLOT STATE (R454). -/
abbrev KEY_SLOT_STATE : EntryDef :=
  ⟨0x3401, 72, 0x01, 0x01, .u8, .ro, .operator, .fixed, .val 0, .any, false⟩
/-- 0x3401 + n:02 KEY_SLOT ATTRIBUTE (R454). -/
abbrev KEY_SLOT_ATTRIBUTE : EntryDef :=
  ⟨0x3401, 72, 0x02, 0x02, .u8, .rw, .integrator, .live, .val 3, .oneOf [0, 1, 2, 3], false⟩
/-- 0x3401 + n:03 KEY_SLOT ALGORITHM (R454). -/
abbrev KEY_SLOT_ALGORITHM : EntryDef :=
  ⟨0x3401, 72, 0x03, 0x03, .u8, .rw, .integrator, .live, .val 2, .oneOf [0, 1, 2], false⟩
/-- 0x3401 + n:04 KEY_SLOT OWNER (R454). -/
abbrev KEY_SLOT_OWNER : EntryDef :=
  ⟨0x3401, 72, 0x04, 0x04, .u8, .rw, .integrator, .live, .val 2, .oneOf [1, 2, 3], false⟩
/-- 0x3401 + n:05 KEY_SLOT ROOT (R454). -/
abbrev KEY_SLOT_ROOT : EntryDef :=
  ⟨0x3401, 72, 0x05, 0x05, .u8, .rw, .integrator, .live, .val 0, .oneOf [0, 1, 2, 3], false⟩
/-- 0x3401 + n:06 KEY_SLOT KCV_EXPECTED (R454). -/
abbrev KEY_SLOT_KCV_EXPECTED : EntryDef :=
  ⟨0x3401, 72, 0x06, 0x06, .u32, .rw, .integrator, .live, .val 0, .bits 0xFFFFFF, false⟩
/-- 0x3401 + n:07 KEY_SLOT KEY (R454). -/
abbrev KEY_SLOT_KEY : EntryDef :=
  ⟨0x3401, 72, 0x07, 0x07, .domain, .wo, .integrator, .live, .val 0, .length 32 32, false⟩
/-- 0x3401 + n:08 KEY_SLOT KCV (R454). -/
abbrev KEY_SLOT_KCV : EntryDef :=
  ⟨0x3401, 72, 0x08, 0x08, .u32, .ro, .operator, .fixed, .val 0, .any, false⟩
/-- 0x3401 + n:09 KEY_SLOT IN_FORCE (R454). -/
abbrev KEY_SLOT_IN_FORCE : EntryDef :=
  ⟨0x3401, 72, 0x09, 0x09, .u32, .ro, .operator, .fixed, .val 0, .any, false⟩
/-- 0x3401 + n:0A KEY_SLOT SERVES (R454). -/
abbrev KEY_SLOT_SERVES : EntryDef :=
  ⟨0x3401, 72, 0x0A, 0x0A, .u8, .ro, .operator, .fixed, .val 0xff, .any, false⟩
/-- 0x3401 + n:0B KEY_SLOT ERASE (R454). -/
abbrev KEY_SLOT_ERASE : EntryDef :=
  ⟨0x3401, 72, 0x0B, 0x0B, .u8, .wo, .integrator, .live, .val 0, .oneOf [1], false⟩
/-- 0x3401 + n:0C KEY_SLOT WRITES (R454). -/
abbrev KEY_SLOT_WRITES : EntryDef :=
  ⟨0x3401, 72, 0x0C, 0x0C, .u32, .ro, .operator, .fixed, .val 0, .any, false⟩
/-- The rows of KEY_SLOT. -/
def rows_KEY_SLOT : List EntryDef :=
  [KEY_SLOT_HIGHEST_SUB,
   KEY_SLOT_STATE,
   KEY_SLOT_ATTRIBUTE,
   KEY_SLOT_ALGORITHM,
   KEY_SLOT_OWNER,
   KEY_SLOT_ROOT,
   KEY_SLOT_KCV_EXPECTED,
   KEY_SLOT_KEY,
   KEY_SLOT_KCV,
   KEY_SLOT_IN_FORCE,
   KEY_SLOT_SERVES,
   KEY_SLOT_ERASE,
   KEY_SLOT_WRITES]

end Sys2Proof.Machine.Dict
end

