-- ==== Sys2Proof/Machine/DictLanes.lean ====
section
/-! DEFINITION. The dictionary entries of the spec's chapter 03, one definition per row of its tables,
written from those tables (R396). -/
namespace Sys2Proof.Machine.Dict

/-- 0x2200 + n:00 U_LANE HIGHEST_SUB (R87). -/
abbrev U_LANE_HIGHEST_SUB : EntryDef :=
  ⟨0x2200, 52, 0x00, 0x00, .u8, .const, .operator, .fixed, .val 0x1a, .any, false⟩
/-- 0x2200 + n:02 U_LANE STATE (R87). -/
abbrev U_LANE_STATE : EntryDef :=
  ⟨0x2200, 52, 0x02, 0x02, .u8, .ro, .operator, .fixed, .val 0, .any, false⟩
/-- 0x2200 + n:03 U_LANE PORT (R87). -/
abbrev U_LANE_PORT : EntryDef :=
  ⟨0x2200, 52, 0x03, 0x03, .u8, .ro, .operator, .fixed, .val 0xff, .any, false⟩
/-- 0x2200 + n:04 U_LANE SPARE_OF (R87). -/
abbrev U_LANE_SPARE_OF : EntryDef :=
  ⟨0x2200, 52, 0x04, 0x04, .u8, .rw, .integrator, .halt, .val 0xff, .withinOr 0 47 [255], true⟩
/-- 0x2200 + n:05 U_LANE LINE_RATE (R87). -/
abbrev U_LANE_LINE_RATE : EntryDef :=
  ⟨0x2200, 52, 0x05, 0x05, .u32, .ro, .operator, .fixed, .val 0, .any, false⟩
/-- 0x2200 + n:06 U_LANE POLARITY (R87). -/
abbrev U_LANE_POLARITY : EntryDef :=
  ⟨0x2200, 52, 0x06, 0x06, .u8, .rw, .integrator, .halt, .val 0x0, .bits 0x3, true⟩
/-- 0x2200 + n:07 U_LANE ADAPT (R87). -/
abbrev U_LANE_ADAPT : EntryDef :=
  ⟨0x2200, 52, 0x07, 0x07, .u8, .rw, .service, .live, .val 0, .oneOf [0, 1], false⟩
/-- 0x2200 + n:08–0C U_LANE TX_C (R87). -/
abbrev U_LANE_TX_C : EntryDef :=
  ⟨0x2200, 52, 0x08, 0x0C, .i16, .rw, .integrator, .live, .list [0, 0, 0xFFFA, 48, 0xFFF6], .within (-64) 64, true⟩
/-- 0x2200 + n:0D U_LANE TX_FIR_SOURCE (R87). -/
abbrev U_LANE_TX_FIR_SOURCE : EntryDef :=
  ⟨0x2200, 52, 0x0D, 0x0D, .u8, .rw, .integrator, .live, .val 0, .oneOf [0, 1], true⟩
/-- 0x2200 + n:10 U_LANE SNR (R87). -/
abbrev U_LANE_SNR : EntryDef :=
  ⟨0x2200, 52, 0x10, 0x10, .u16, .ro, .operator, .fixed, .val 0, .any, false⟩
/-- 0x2200 + n:11 U_LANE EYE_HEIGHT (R87). -/
abbrev U_LANE_EYE_HEIGHT : EntryDef :=
  ⟨0x2200, 52, 0x11, 0x11, .u16, .ro, .operator, .fixed, .val 0, .any, false⟩
/-- 0x2200 + n:12 U_LANE EYE_WIDTH (R87). -/
abbrev U_LANE_EYE_WIDTH : EntryDef :=
  ⟨0x2200, 52, 0x12, 0x12, .u16, .ro, .operator, .fixed, .val 0, .any, false⟩
/-- 0x2200 + n:13 U_LANE MARGIN_CLASS (R87). -/
abbrev U_LANE_MARGIN_CLASS : EntryDef :=
  ⟨0x2200, 52, 0x13, 0x13, .u8, .ro, .operator, .fixed, .val 0, .any, false⟩
/-- 0x2200 + n:14 U_LANE SYMBOL_ERRORS (R87). -/
abbrev U_LANE_SYMBOL_ERRORS : EntryDef :=
  ⟨0x2200, 52, 0x14, 0x14, .u64, .ro, .operator, .fixed, .val 0, .any, false⟩
/-- 0x2200 + n:15 U_LANE LOCK_LOSSES (R87). -/
abbrev U_LANE_LOCK_LOSSES : EntryDef :=
  ⟨0x2200, 52, 0x15, 0x15, .u32, .ro, .operator, .fixed, .val 0, .any, false⟩
/-- 0x2200 + n:16 U_LANE DEGRADE_CLASS (R87). -/
abbrev U_LANE_DEGRADE_CLASS : EntryDef :=
  ⟨0x2200, 52, 0x16, 0x16, .u8, .rw, .integrator, .live, .val 2, .within 0 14, true⟩
/-- 0x2200 + n:17 U_LANE PRBS (R87). -/
abbrev U_LANE_PRBS : EntryDef :=
  ⟨0x2200, 52, 0x17, 0x17, .u8, .rw, .service, .halt, .val 0, .oneOf [0, 1, 2, 3, 4, 5, 6, 7, 8], false⟩
/-- 0x2200 + n:18 U_LANE PRBS_ERRORS (R87). -/
abbrev U_LANE_PRBS_ERRORS : EntryDef :=
  ⟨0x2200, 52, 0x18, 0x18, .u64, .ro, .operator, .fixed, .val 0, .any, false⟩
/-- 0x2200 + n:19 U_LANE LOOPBACK (R87). -/
abbrev U_LANE_LOOPBACK : EntryDef :=
  ⟨0x2200, 52, 0x19, 0x19, .u8, .rw, .service, .halt, .val 0, .oneOf [0, 1, 2], false⟩
/-- 0x2200 + n:1A U_LANE TEST_RATE (R87). -/
abbrev U_LANE_TEST_RATE : EntryDef :=
  ⟨0x2200, 52, 0x1A, 0x1A, .u32, .rw, .service, .halt, .val 0, .withinOr 1250000 112500000 [0], false⟩
/-- The rows of U_LANE. -/
def rows_U_LANE : List EntryDef :=
  [U_LANE_HIGHEST_SUB,
   U_LANE_STATE,
   U_LANE_PORT,
   U_LANE_SPARE_OF,
   U_LANE_LINE_RATE,
   U_LANE_POLARITY,
   U_LANE_ADAPT,
   U_LANE_TX_C,
   U_LANE_TX_FIR_SOURCE,
   U_LANE_SNR,
   U_LANE_EYE_HEIGHT,
   U_LANE_EYE_WIDTH,
   U_LANE_MARGIN_CLASS,
   U_LANE_SYMBOL_ERRORS,
   U_LANE_LOCK_LOSSES,
   U_LANE_DEGRADE_CLASS,
   U_LANE_PRBS,
   U_LANE_PRBS_ERRORS,
   U_LANE_LOOPBACK,
   U_LANE_TEST_RATE]

/-- 0x2280 + n:00 PORT HIGHEST_SUB (R88). -/
abbrev PORT_HIGHEST_SUB : EntryDef :=
  ⟨0x2280, 48, 0x00, 0x00, .u8, .const, .operator, .fixed, .val 0x11, .any, false⟩
/-- 0x2280 + n:01 PORT ADMIN (R88). -/
abbrev PORT_ADMIN : EntryDef :=
  ⟨0x2280, 48, 0x01, 0x01, .bool, .rw, .integrator, .live, .val 0, .within 0 1, true⟩
/-- 0x2280 + n:02 PORT TYPE (R88). -/
abbrev PORT_TYPE : EntryDef :=
  ⟨0x2280, 48, 0x02, 0x02, .u8, .rw, .integrator, .halt, .val 0, .oneOf [0, 1, 2, 3, 4, 5, 6, 7, 8], true⟩
/-- 0x2280 + n:03 PORT FIRST_LANE (R88). -/
abbrev PORT_FIRST_LANE : EntryDef :=
  ⟨0x2280, 48, 0x03, 0x03, .u8, .rw, .integrator, .halt, .val 0, .within 0 51, true⟩
/-- 0x2280 + n:04 PORT FEC (R88). -/
abbrev PORT_FEC : EntryDef :=
  ⟨0x2280, 48, 0x04, 0x04, .u8, .rw, .integrator, .halt, .val 0, .oneOf [0, 1, 2, 3], true⟩
/-- 0x2280 + n:05 PORT AUTONEG (R88). -/
abbrev PORT_AUTONEG : EntryDef :=
  ⟨0x2280, 48, 0x05, 0x05, .bool, .rw, .integrator, .halt, .val 1, .within 0 1, true⟩
/-- 0x2280 + n:06 PORT MAC_ADDRESS (R88). -/
abbrev PORT_MAC_ADDRESS : EntryDef :=
  ⟨0x2280, 48, 0x06, 0x06, .u64, .rw, .integrator, .halt, .mac, .bits 0xFFFFFFFFFFFF, true⟩
/-- 0x2280 + n:07 PORT MTU (R88). -/
abbrev PORT_MTU : EntryDef :=
  ⟨0x2280, 48, 0x07, 0x07, .u16, .rw, .integrator, .halt, .val 9216, .within 1518 9216, true⟩
/-- 0x2280 + n:08 PORT STATE (R88). -/
abbrev PORT_STATE : EntryDef :=
  ⟨0x2280, 48, 0x08, 0x08, .u8, .ro, .operator, .fixed, .val 0, .any, false⟩
/-- 0x2280 + n:09 PORT DOWN_CAUSE (R88). -/
abbrev PORT_DOWN_CAUSE : EntryDef :=
  ⟨0x2280, 48, 0x09, 0x09, .u8, .ro, .operator, .fixed, .val 1, .any, false⟩
/-- 0x2280 + n:0A PORT SPEED (R88). -/
abbrev PORT_SPEED : EntryDef :=
  ⟨0x2280, 48, 0x0A, 0x0A, .u32, .ro, .operator, .fixed, .val 0, .any, false⟩
/-- 0x2280 + n:0B PORT FEC_CORRECTED (R88). -/
abbrev PORT_FEC_CORRECTED : EntryDef :=
  ⟨0x2280, 48, 0x0B, 0x0B, .u64, .ro, .operator, .fixed, .val 0, .any, false⟩
/-- 0x2280 + n:0C PORT FEC_UNCORRECTABLE (R88). -/
abbrev PORT_FEC_UNCORRECTABLE : EntryDef :=
  ⟨0x2280, 48, 0x0C, 0x0C, .u64, .ro, .operator, .fixed, .val 0, .any, false⟩
/-- 0x2280 + n:0D PORT PRE_FEC_SER (R88). -/
abbrev PORT_PRE_FEC_SER : EntryDef :=
  ⟨0x2280, 48, 0x0D, 0x0D, .u32, .ro, .operator, .fixed, .val 0, .any, false⟩
/-- 0x2280 + n:0E PORT RX_FRAMES (R88). -/
abbrev PORT_RX_FRAMES : EntryDef :=
  ⟨0x2280, 48, 0x0E, 0x0E, .u64, .ro, .operator, .fixed, .val 0, .any, false⟩
/-- 0x2280 + n:0F PORT TX_FRAMES (R88). -/
abbrev PORT_TX_FRAMES : EntryDef :=
  ⟨0x2280, 48, 0x0F, 0x0F, .u64, .ro, .operator, .fixed, .val 0, .any, false⟩
/-- 0x2280 + n:10 PORT RX_DISCARDS (R88). -/
abbrev PORT_RX_DISCARDS : EntryDef :=
  ⟨0x2280, 48, 0x10, 0x10, .u64, .ro, .operator, .fixed, .val 0, .any, false⟩
/-- 0x2280 + n:11 PORT LINK_UPS (R88). -/
abbrev PORT_LINK_UPS : EntryDef :=
  ⟨0x2280, 48, 0x11, 0x11, .u32, .ro, .operator, .fixed, .val 0, .any, false⟩
/-- The rows of PORT. -/
def rows_PORT : List EntryDef :=
  [PORT_HIGHEST_SUB,
   PORT_ADMIN,
   PORT_TYPE,
   PORT_FIRST_LANE,
   PORT_FEC,
   PORT_AUTONEG,
   PORT_MAC_ADDRESS,
   PORT_MTU,
   PORT_STATE,
   PORT_DOWN_CAUSE,
   PORT_SPEED,
   PORT_FEC_CORRECTED,
   PORT_FEC_UNCORRECTABLE,
   PORT_PRE_FEC_SER,
   PORT_RX_FRAMES,
   PORT_TX_FRAMES,
   PORT_RX_DISCARDS,
   PORT_LINK_UPS]

/-- 0x2240 + n:00 D_LANE HIGHEST_SUB (R89). -/
abbrev D_LANE_HIGHEST_SUB : EntryDef :=
  ⟨0x2240, 16, 0x00, 0x00, .u8, .const, .operator, .fixed, .val 0x8, .any, false⟩
/-- 0x2240 + n:01 D_LANE STATE (R89). -/
abbrev D_LANE_STATE : EntryDef :=
  ⟨0x2240, 16, 0x01, 0x01, .u8, .ro, .operator, .fixed, .val 0, .any, false⟩
/-- 0x2240 + n:02 D_LANE POLARITY (R89). -/
abbrev D_LANE_POLARITY : EntryDef :=
  ⟨0x2240, 16, 0x02, 0x02, .u8, .rw, .integrator, .halt, .val 0x0, .bits 0x3, true⟩
/-- 0x2240 + n:03 D_LANE DIRECTION (R89). -/
abbrev D_LANE_DIRECTION : EntryDef :=
  ⟨0x2240, 16, 0x03, 0x03, .u8, .rw, .integrator, .halt, .val 0, .oneOf [0, 1], true⟩
/-- 0x2240 + n:04 D_LANE LINE_RATE (R89). -/
abbrev D_LANE_LINE_RATE : EntryDef :=
  ⟨0x2240, 16, 0x04, 0x04, .u32, .ro, .operator, .fixed, .val 0, .any, false⟩
/-- 0x2240 + n:05 D_LANE SDI_RATE (R89). -/
abbrev D_LANE_SDI_RATE : EntryDef :=
  ⟨0x2240, 16, 0x05, 0x05, .u8, .rw, .integrator, .halt, .val 0, .oneOf [0, 1, 2, 3, 4, 128, 129, 130, 131, 132], true⟩
/-- 0x2240 + n:06 D_LANE ERRORS (R89). -/
abbrev D_LANE_ERRORS : EntryDef :=
  ⟨0x2240, 16, 0x06, 0x06, .u64, .ro, .operator, .fixed, .val 0, .any, false⟩
/-- 0x2240 + n:07 D_LANE EYE_HEIGHT (R89). -/
abbrev D_LANE_EYE_HEIGHT : EntryDef :=
  ⟨0x2240, 16, 0x07, 0x07, .u16, .ro, .operator, .fixed, .val 0, .any, false⟩
/-- 0x2240 + n:08 D_LANE MARGIN_CLASS (R89). -/
abbrev D_LANE_MARGIN_CLASS : EntryDef :=
  ⟨0x2240, 16, 0x08, 0x08, .u8, .ro, .operator, .fixed, .val 0, .any, false⟩
/-- The rows of D_LANE. -/
def rows_D_LANE : List EntryDef :=
  [D_LANE_HIGHEST_SUB,
   D_LANE_STATE,
   D_LANE_POLARITY,
   D_LANE_DIRECTION,
   D_LANE_LINE_RATE,
   D_LANE_SDI_RATE,
   D_LANE_ERRORS,
   D_LANE_EYE_HEIGHT,
   D_LANE_MARGIN_CLASS]

/-- 0x22B0 + n:00 GROUP_PORT HIGHEST_SUB (R89). -/
abbrev GROUP_PORT_HIGHEST_SUB : EntryDef :=
  ⟨0x22B0, 4, 0x00, 0x00, .u8, .const, .operator, .fixed, .val 0xf, .any, false⟩
/-- 0x22B0 + n:01 GROUP_PORT ADMIN (R89). -/
abbrev GROUP_PORT_ADMIN : EntryDef :=
  ⟨0x22B0, 4, 0x01, 0x01, .bool, .rw, .integrator, .live, .val 0, .within 0 1, true⟩
/-- 0x22B0 + n:02 GROUP_PORT MODE (R89). -/
abbrev GROUP_PORT_MODE : EntryDef :=
  ⟨0x22B0, 4, 0x02, 0x02, .u8, .rw, .integrator, .halt, .val 0, .oneOf [0, 1, 2, 3, 4, 5], true⟩
/-- 0x22B0 + n:03 GROUP_PORT MAX_RATE (R89). -/
abbrev GROUP_PORT_MAX_RATE : EntryDef :=
  ⟨0x22B0, 4, 0x03, 0x03, .u32, .rw, .integrator, .halt, .val 20000000, .any, true⟩
/-- 0x22B0 + n:04 GROUP_PORT LANES (R89). -/
abbrev GROUP_PORT_LANES : EntryDef :=
  ⟨0x22B0, 4, 0x04, 0x04, .u8, .rw, .integrator, .halt, .val 4, .within 1 4, true⟩
/-- 0x22B0 + n:05 GROUP_PORT HDCP (R89). -/
abbrev GROUP_PORT_HDCP : EntryDef :=
  ⟨0x22B0, 4, 0x05, 0x05, .bool, .rw, .integrator, .live, .val 0, .within 0 1, true⟩
/-- 0x22B0 + n:06 GROUP_PORT EDID (R89). -/
abbrev GROUP_PORT_EDID : EntryDef :=
  ⟨0x22B0, 4, 0x06, 0x06, .domain, .rw, .integrator, .live, .val 0, .length 128 512, true⟩
/-- 0x22B0 + n:07 GROUP_PORT SINK_EDID (R89). -/
abbrev GROUP_PORT_SINK_EDID : EntryDef :=
  ⟨0x22B0, 4, 0x07, 0x07, .domain, .ro, .operator, .fixed, .val 0, .length 0 4294967295, false⟩
/-- 0x22B0 + n:08 GROUP_PORT HPD (R89). -/
abbrev GROUP_PORT_HPD : EntryDef :=
  ⟨0x22B0, 4, 0x08, 0x08, .bool, .ro, .operator, .fixed, .val 0, .any, false⟩
/-- 0x22B0 + n:09 GROUP_PORT STATE (R89). -/
abbrev GROUP_PORT_STATE : EntryDef :=
  ⟨0x22B0, 4, 0x09, 0x09, .u8, .ro, .operator, .fixed, .val 0, .any, false⟩
/-- 0x22B0 + n:0A GROUP_PORT LINK_RATE (R89). -/
abbrev GROUP_PORT_LINK_RATE : EntryDef :=
  ⟨0x22B0, 4, 0x0A, 0x0A, .u32, .ro, .operator, .fixed, .val 0, .any, false⟩
/-- 0x22B0 + n:0B GROUP_PORT ACTIVE_LANES (R89). -/
abbrev GROUP_PORT_ACTIVE_LANES : EntryDef :=
  ⟨0x22B0, 4, 0x0B, 0x0B, .u8, .ro, .operator, .fixed, .val 0, .any, false⟩
/-- 0x22B0 + n:0C GROUP_PORT HDCP_STATE (R89). -/
abbrev GROUP_PORT_HDCP_STATE : EntryDef :=
  ⟨0x22B0, 4, 0x0C, 0x0C, .u8, .ro, .operator, .fixed, .val 0, .any, false⟩
/-- 0x22B0 + n:0D GROUP_PORT CEC_TX (R89). -/
abbrev GROUP_PORT_CEC_TX : EntryDef :=
  ⟨0x22B0, 4, 0x0D, 0x0D, .domain, .wo, .operator, .live, .val 0, .length 1 16, false⟩
/-- 0x22B0 + n:0E GROUP_PORT CEC_RX (R89). -/
abbrev GROUP_PORT_CEC_RX : EntryDef :=
  ⟨0x22B0, 4, 0x0E, 0x0E, .domain, .ro, .operator, .fixed, .val 0, .length 0 4294967295, false⟩
/-- 0x22B0 + n:0F GROUP_PORT CEC_ADDRESS_MASK (R89). -/
abbrev GROUP_PORT_CEC_ADDRESS_MASK : EntryDef :=
  ⟨0x22B0, 4, 0x0F, 0x0F, .u16, .rw, .operator, .live, .val 0x0, .any, true⟩
/-- The rows of GROUP_PORT. -/
def rows_GROUP_PORT : List EntryDef :=
  [GROUP_PORT_HIGHEST_SUB,
   GROUP_PORT_ADMIN,
   GROUP_PORT_MODE,
   GROUP_PORT_MAX_RATE,
   GROUP_PORT_LANES,
   GROUP_PORT_HDCP,
   GROUP_PORT_EDID,
   GROUP_PORT_SINK_EDID,
   GROUP_PORT_HPD,
   GROUP_PORT_STATE,
   GROUP_PORT_LINK_RATE,
   GROUP_PORT_ACTIVE_LANES,
   GROUP_PORT_HDCP_STATE,
   GROUP_PORT_CEC_TX,
   GROUP_PORT_CEC_RX,
   GROUP_PORT_CEC_ADDRESS_MASK]

/-- 0x2260:00 PCIE HIGHEST_SUB (R90). -/
abbrev PCIE_HIGHEST_SUB : EntryDef :=
  ⟨0x2260, 1, 0x00, 0x00, .u8, .const, .operator, .fixed, .val 0xf, .any, false⟩
/-- 0x2260:01 PCIE LINK_STATE (R90). -/
abbrev PCIE_LINK_STATE : EntryDef :=
  ⟨0x2260, 1, 0x01, 0x01, .u8, .ro, .operator, .fixed, .val 0, .any, false⟩
/-- 0x2260:02 PCIE LINK_SPEED (R90). -/
abbrev PCIE_LINK_SPEED : EntryDef :=
  ⟨0x2260, 1, 0x02, 0x02, .u8, .ro, .operator, .fixed, .val 0, .any, false⟩
/-- 0x2260:03 PCIE LINK_WIDTH (R90). -/
abbrev PCIE_LINK_WIDTH : EntryDef :=
  ⟨0x2260, 1, 0x03, 0x03, .u8, .ro, .operator, .fixed, .val 0, .any, false⟩
/-- 0x2260:04 PCIE TARGET_SPEED (R90). -/
abbrev PCIE_TARGET_SPEED : EntryDef :=
  ⟨0x2260, 1, 0x04, 0x04, .u8, .rw, .integrator, .live, .val 5, .within 1 5, true⟩
/-- 0x2260:05 PCIE SUBSYS_VENDOR (R90). -/
abbrev PCIE_SUBSYS_VENDOR : EntryDef :=
  ⟨0x2260, 1, 0x05, 0x05, .u16, .rw, .integrator, .live, .val 0x0, .any, true⟩
/-- 0x2260:06 PCIE SUBSYS_ID (R90). -/
abbrev PCIE_SUBSYS_ID : EntryDef :=
  ⟨0x2260, 1, 0x06, 0x06, .u16, .rw, .integrator, .live, .val 0x0, .any, true⟩
/-- 0x2260:07 PCIE DEVICE_ID (R90). -/
abbrev PCIE_DEVICE_ID : EntryDef :=
  ⟨0x2260, 1, 0x07, 0x07, .u16, .const, .operator, .fixed, .val 0x6480, .any, false⟩
/-- 0x2260:08 PCIE VENDOR_ID (R90). -/
abbrev PCIE_VENDOR_ID : EntryDef :=
  ⟨0x2260, 1, 0x08, 0x08, .u16, .const, .operator, .fixed, .config 3, .any, false⟩
/-- 0x2260:09 PCIE AER_CORRECTABLE (R90). -/
abbrev PCIE_AER_CORRECTABLE : EntryDef :=
  ⟨0x2260, 1, 0x09, 0x09, .u32, .ro, .operator, .fixed, .val 0, .any, false⟩
/-- 0x2260:0A PCIE AER_UNCORRECTABLE (R90). -/
abbrev PCIE_AER_UNCORRECTABLE : EntryDef :=
  ⟨0x2260, 1, 0x0A, 0x0A, .u32, .ro, .operator, .fixed, .val 0, .any, false⟩
/-- 0x2260:0B–0C PCIE RP_STATE (R90). -/
abbrev PCIE_RP_STATE : EntryDef :=
  ⟨0x2260, 1, 0x0B, 0x0C, .u8, .ro, .operator, .fixed, .val 0, .any, false⟩
/-- 0x2260:0D PCIE RP_ENABLE (R90). -/
abbrev PCIE_RP_ENABLE : EntryDef :=
  ⟨0x2260, 1, 0x0D, 0x0D, .u8, .rw, .integrator, .halt, .val 0x3, .bits 0x3, true⟩
/-- 0x2260:0E PCIE ASPM_L1 (R90). -/
abbrev PCIE_ASPM_L1 : EntryDef :=
  ⟨0x2260, 1, 0x0E, 0x0E, .bool, .rw, .integrator, .live, .val 0, .within 0 1, true⟩
/-- 0x2260:0F PCIE DRAM_WINDOW_FAULTS (R90). -/
abbrev PCIE_DRAM_WINDOW_FAULTS : EntryDef :=
  ⟨0x2260, 1, 0x0F, 0x0F, .u32, .ro, .operator, .fixed, .val 0, .any, false⟩
/-- The rows of PCIE. -/
def rows_PCIE : List EntryDef :=
  [PCIE_HIGHEST_SUB,
   PCIE_LINK_STATE,
   PCIE_LINK_SPEED,
   PCIE_LINK_WIDTH,
   PCIE_TARGET_SPEED,
   PCIE_SUBSYS_VENDOR,
   PCIE_SUBSYS_ID,
   PCIE_DEVICE_ID,
   PCIE_VENDOR_ID,
   PCIE_AER_CORRECTABLE,
   PCIE_AER_UNCORRECTABLE,
   PCIE_RP_STATE,
   PCIE_RP_ENABLE,
   PCIE_ASPM_L1,
   PCIE_DRAM_WINDOW_FAULTS]

/-- 0x2270:00 MANAGEMENT HIGHEST_SUB (R91). -/
abbrev MANAGEMENT_HIGHEST_SUB : EntryDef :=
  ⟨0x2270, 1, 0x00, 0x00, .u8, .const, .operator, .fixed, .val 0x3f, .any, false⟩
/-- 0x2270:01 MANAGEMENT MGMT_MODE (R91). -/
abbrev MANAGEMENT_MGMT_MODE : EntryDef :=
  ⟨0x2270, 1, 0x01, 0x01, .u8, .rw, .integrator, .halt, .val 0, .oneOf [0, 1], true⟩
/-- 0x2270:02 MANAGEMENT MGMT_SPEED (R91). -/
abbrev MANAGEMENT_MGMT_SPEED : EntryDef :=
  ⟨0x2270, 1, 0x02, 0x02, .u8, .ro, .operator, .fixed, .val 0, .any, false⟩
/-- 0x2270:03 MANAGEMENT MDIO_PHY_ADDR (R91). -/
abbrev MANAGEMENT_MDIO_PHY_ADDR : EntryDef :=
  ⟨0x2270, 1, 0x03, 0x03, .u8, .rw, .integrator, .halt, .val 0, .within 0 31, true⟩
/-- 0x2270:04 MANAGEMENT RGMII_DELAY (R91). -/
abbrev MANAGEMENT_RGMII_DELAY : EntryDef :=
  ⟨0x2270, 1, 0x04, 0x04, .u8, .rw, .integrator, .halt, .val 0x3, .bits 0x3, true⟩
/-- 0x2270:05–06 MANAGEMENT CAN_NOMINAL (R91). -/
abbrev MANAGEMENT_CAN_NOMINAL : EntryDef :=
  ⟨0x2270, 1, 0x05, 0x06, .u32, .rw, .integrator, .halt, .val 500000, .within 125000 1000000, true⟩
/-- 0x2270:07–08 MANAGEMENT CAN_DATA (R91). -/
abbrev MANAGEMENT_CAN_DATA : EntryDef :=
  ⟨0x2270, 1, 0x07, 0x08, .u32, .rw, .integrator, .halt, .val 2000000, .within 1000000 8000000, true⟩
/-- 0x2270:09 MANAGEMENT CAN_NOMINAL_SP (R91). -/
abbrev MANAGEMENT_CAN_NOMINAL_SP : EntryDef :=
  ⟨0x2270, 1, 0x09, 0x09, .u16, .rw, .integrator, .halt, .val 800, .within 500 900, true⟩
/-- 0x2270:0A MANAGEMENT CAN_DATA_SP (R91). -/
abbrev MANAGEMENT_CAN_DATA_SP : EntryDef :=
  ⟨0x2270, 1, 0x0A, 0x0A, .u16, .rw, .integrator, .halt, .val 700, .within 500 900, true⟩
/-- 0x2270:0B MANAGEMENT CAN_STATE (R91). -/
abbrev MANAGEMENT_CAN_STATE : EntryDef :=
  ⟨0x2270, 1, 0x0B, 0x0B, .u8, .ro, .operator, .fixed, .val 0x0, .any, false⟩
/-- 0x2270:0C MANAGEMENT SPI_MODE (R91). -/
abbrev MANAGEMENT_SPI_MODE : EntryDef :=
  ⟨0x2270, 1, 0x0C, 0x0C, .u8, .rw, .integrator, .halt, .val 0, .oneOf [0, 3], true⟩
/-- 0x2270:0D MANAGEMENT PMBUS_RATE (R91). -/
abbrev MANAGEMENT_PMBUS_RATE : EntryDef :=
  ⟨0x2270, 1, 0x0D, 0x0D, .u8, .rw, .integrator, .halt, .val 1, .oneOf [0, 1, 2], true⟩
/-- 0x2270:0E MANAGEMENT AVS_CLOCK (R91). -/
abbrev MANAGEMENT_AVS_CLOCK : EntryDef :=
  ⟨0x2270, 1, 0x0E, 0x0E, .u8, .rw, .integrator, .halt, .val 10, .within 1 25, true⟩
/-- 0x2270:10–15 MANAGEMENT REGULATOR_ADDR (R91). -/
abbrev MANAGEMENT_REGULATOR_ADDR : EntryDef :=
  ⟨0x2270, 1, 0x10, 0x15, .u8, .rw, .integrator, .halt, .item 0x41, .within 0 127, true⟩
/-- The rows of MANAGEMENT. -/
def rows_MANAGEMENT : List EntryDef :=
  [MANAGEMENT_HIGHEST_SUB,
   MANAGEMENT_MGMT_MODE,
   MANAGEMENT_MGMT_SPEED,
   MANAGEMENT_MDIO_PHY_ADDR,
   MANAGEMENT_RGMII_DELAY,
   MANAGEMENT_CAN_NOMINAL,
   MANAGEMENT_CAN_DATA,
   MANAGEMENT_CAN_NOMINAL_SP,
   MANAGEMENT_CAN_DATA_SP,
   MANAGEMENT_CAN_STATE,
   MANAGEMENT_SPI_MODE,
   MANAGEMENT_PMBUS_RATE,
   MANAGEMENT_AVS_CLOCK,
   MANAGEMENT_REGULATOR_ADDR]

end Sys2Proof.Machine.Dict
end

