-- ==== Sys2Proof/Machine/DictMemory.lean ====
section
/-! DEFINITION. The dictionary entries of the spec's chapter 12, one definition per row of its tables,
written from those tables (R396). -/
namespace Sys2Proof.Machine.Dict

/-- 0x3200:00 STORE_TIER HIGHEST_SUB (R373). -/
abbrev STORE_TIER_HIGHEST_SUB : EntryDef :=
  ⟨0x3200, 1, 0x00, 0x00, .u8, .const, .operator, .fixed, .val 0xa, .any, false⟩
/-- 0x3200:01 STORE_TIER SCAN_MIB (R373). -/
abbrev STORE_TIER_SCAN_MIB : EntryDef :=
  ⟨0x3200, 1, 0x01, 0x01, .u16, .rw, .integrator, .halt, .val 272, .within 0 336, true⟩
/-- 0x3200:02 STORE_TIER STAGE_MIB (R373). -/
abbrev STORE_TIER_STAGE_MIB : EntryDef :=
  ⟨0x3200, 1, 0x02, 0x02, .u16, .rw, .integrator, .halt, .val 16, .within 0 336, true⟩
/-- 0x3200:03 STORE_TIER LINING_MIB (R373). -/
abbrev STORE_TIER_LINING_MIB : EntryDef :=
  ⟨0x3200, 1, 0x03, 0x03, .u16, .ro, .operator, .fixed, .val 48, .any, false⟩
/-- 0x3200:04 STORE_TIER SIZES_IN_FORCE (R373). -/
abbrev STORE_TIER_SIZES_IN_FORCE : EntryDef :=
  ⟨0x3200, 1, 0x04, 0x04, .u32, .ro, .operator, .fixed, .val 0x4406010, .any, false⟩
/-- 0x3200:05 STORE_TIER SCAN_USED (R373). -/
abbrev STORE_TIER_SCAN_USED : EntryDef :=
  ⟨0x3200, 1, 0x05, 0x05, .u32, .ro, .operator, .fixed, .val 0, .any, false⟩
/-- 0x3200:06 STORE_TIER STAGE_USED (R373). -/
abbrev STORE_TIER_STAGE_USED : EntryDef :=
  ⟨0x3200, 1, 0x06, 0x06, .u32, .ro, .operator, .fixed, .val 0, .any, false⟩
/-- 0x3200:07 STORE_TIER CORRECTED (R373). -/
abbrev STORE_TIER_CORRECTED : EntryDef :=
  ⟨0x3200, 1, 0x07, 0x07, .u64, .ro, .operator, .fixed, .val 0, .any, false⟩
/-- 0x3200:08 STORE_TIER UNCORRECTABLE (R373). -/
abbrev STORE_TIER_UNCORRECTABLE : EntryDef :=
  ⟨0x3200, 1, 0x08, 0x08, .u32, .ro, .operator, .fixed, .val 0, .any, false⟩
/-- 0x3200:09 STORE_TIER SYSTEM_RESTORES (R373). -/
abbrev STORE_TIER_SYSTEM_RESTORES : EntryDef :=
  ⟨0x3200, 1, 0x09, 0x09, .u32, .ro, .operator, .fixed, .val 0, .any, false⟩
/-- 0x3200:0A STORE_TIER TRAFFIC (R373). -/
abbrev STORE_TIER_TRAFFIC : EntryDef :=
  ⟨0x3200, 1, 0x0A, 0x0A, .u32, .ro, .operator, .fixed, .val 0, .any, false⟩
/-- The rows of STORE_TIER. -/
def rows_STORE_TIER : List EntryDef :=
  [STORE_TIER_HIGHEST_SUB,
   STORE_TIER_SCAN_MIB,
   STORE_TIER_STAGE_MIB,
   STORE_TIER_LINING_MIB,
   STORE_TIER_SIZES_IN_FORCE,
   STORE_TIER_SCAN_USED,
   STORE_TIER_STAGE_USED,
   STORE_TIER_CORRECTED,
   STORE_TIER_UNCORRECTABLE,
   STORE_TIER_SYSTEM_RESTORES,
   STORE_TIER_TRAFFIC]

/-- 0x3210:00 DRAM HIGHEST_SUB (R374). -/
abbrev DRAM_HIGHEST_SUB : EntryDef :=
  ⟨0x3210, 1, 0x00, 0x00, .u8, .const, .operator, .fixed, .val 0x12, .any, false⟩
/-- 0x3210:01 DRAM RATE (R374). -/
abbrev DRAM_RATE : EntryDef :=
  ⟨0x3210, 1, 0x01, 0x01, .u8, .rw, .integrator, .halt, .val 3, .oneOf [0, 1, 2, 3], true⟩
/-- 0x3210:02 DRAM DEVICE (R374). -/
abbrev DRAM_DEVICE : EntryDef :=
  ⟨0x3210, 1, 0x02, 0x02, .u8, .rw, .integrator, .halt, .val 0, .oneOf [0, 1], true⟩
/-- 0x3210:03 DRAM RANKS (R374). -/
abbrev DRAM_RANKS : EntryDef :=
  ⟨0x3210, 1, 0x03, 0x03, .u8, .rw, .integrator, .halt, .val 1, .oneOf [1, 2], true⟩
/-- 0x3210:04 DRAM MODE (R374). -/
abbrev DRAM_MODE : EntryDef :=
  ⟨0x3210, 1, 0x04, 0x04, .u8, .rw, .integrator, .halt, .val 1, .oneOf [0, 1], true⟩
/-- 0x3210:05 DRAM HOST_REGION_MIB (R374). -/
abbrev DRAM_HOST_REGION_MIB : EntryDef :=
  ⟨0x3210, 1, 0x05, 0x05, .u32, .rw, .integrator, .halt, .val 1024, .multiple 2, true⟩
/-- 0x3210:06 DRAM POWER_DOWN (R374). -/
abbrev DRAM_POWER_DOWN : EntryDef :=
  ⟨0x3210, 1, 0x06, 0x06, .bool, .rw, .integrator, .live, .val 1, .within 0 1, true⟩
/-- 0x3210:07 DRAM SLEEP_CYCLE (R374). -/
abbrev DRAM_SLEEP_CYCLE : EntryDef :=
  ⟨0x3210, 1, 0x07, 0x07, .u16, .rw, .integrator, .live, .val 100, .within 20 500, true⟩
/-- 0x3210:08 DRAM IDLE_TIMER (R374). -/
abbrev DRAM_IDLE_TIMER : EntryDef :=
  ⟨0x3210, 1, 0x08, 0x08, .u8, .rw, .integrator, .live, .val 2, .within 1 50, true⟩
/-- 0x3210:09 DRAM DATA_CAPACITY (R374). -/
abbrev DRAM_DATA_CAPACITY : EntryDef :=
  ⟨0x3210, 1, 0x09, 0x09, .u32, .ro, .operator, .fixed, .val 0, .any, false⟩
/-- 0x3210:0A DRAM STATE (R374). -/
abbrev DRAM_STATE : EntryDef :=
  ⟨0x3210, 1, 0x0A, 0x0A, .u8, .ro, .operator, .fixed, .val 0, .any, false⟩
/-- 0x3210:0B DRAM TRAINING (R374). -/
abbrev DRAM_TRAINING : EntryDef :=
  ⟨0x3210, 1, 0x0B, 0x0B, .u8, .ro, .operator, .fixed, .val 0, .any, false⟩
/-- 0x3210:0C DRAM CHANNEL_STATE (R374). -/
abbrev DRAM_CHANNEL_STATE : EntryDef :=
  ⟨0x3210, 1, 0x0C, 0x0C, .domain, .ro, .operator, .fixed, .val 0, .length 0 4294967295, false⟩
/-- 0x3210:0D DRAM AWAKE_FRACTION (R374). -/
abbrev DRAM_AWAKE_FRACTION : EntryDef :=
  ⟨0x3210, 1, 0x0D, 0x0D, .u16, .ro, .operator, .fixed, .val 0, .any, false⟩
/-- 0x3210:0E DRAM TRAFFIC (R374). -/
abbrev DRAM_TRAFFIC : EntryDef :=
  ⟨0x3210, 1, 0x0E, 0x0E, .u32, .ro, .operator, .fixed, .val 0, .any, false⟩
/-- 0x3210:0F DRAM POOL_FREE (R374). -/
abbrev DRAM_POOL_FREE : EntryDef :=
  ⟨0x3210, 1, 0x0F, 0x0F, .u32, .ro, .operator, .fixed, .val 0, .any, false⟩
/-- 0x3210:10 DRAM CORRECTED (R374). -/
abbrev DRAM_CORRECTED : EntryDef :=
  ⟨0x3210, 1, 0x10, 0x10, .u64, .ro, .operator, .fixed, .val 0, .any, false⟩
/-- 0x3210:11 DRAM UNCORRECTABLE (R374). -/
abbrev DRAM_UNCORRECTABLE : EntryDef :=
  ⟨0x3210, 1, 0x11, 0x11, .u32, .ro, .operator, .fixed, .val 0, .any, false⟩
/-- 0x3210:12 DRAM REMAPPED_ROWS (R374). -/
abbrev DRAM_REMAPPED_ROWS : EntryDef :=
  ⟨0x3210, 1, 0x12, 0x12, .domain, .ro, .operator, .fixed, .val 0, .length 0 4294967295, false⟩
/-- The rows of DRAM. -/
def rows_DRAM : List EntryDef :=
  [DRAM_HIGHEST_SUB,
   DRAM_RATE,
   DRAM_DEVICE,
   DRAM_RANKS,
   DRAM_MODE,
   DRAM_HOST_REGION_MIB,
   DRAM_POWER_DOWN,
   DRAM_SLEEP_CYCLE,
   DRAM_IDLE_TIMER,
   DRAM_DATA_CAPACITY,
   DRAM_STATE,
   DRAM_TRAINING,
   DRAM_CHANNEL_STATE,
   DRAM_AWAKE_FRACTION,
   DRAM_TRAFFIC,
   DRAM_POOL_FREE,
   DRAM_CORRECTED,
   DRAM_UNCORRECTABLE,
   DRAM_REMAPPED_ROWS]

/-- 0x3220:00 POCKET HIGHEST_SUB (R375). -/
abbrev POCKET_HIGHEST_SUB : EntryDef :=
  ⟨0x3220, 1, 0x00, 0x00, .u8, .const, .operator, .fixed, .val 0x2d, .any, false⟩
/-- 0x3220:01 POCKET ENABLE (R375). -/
abbrev POCKET_ENABLE : EntryDef :=
  ⟨0x3220, 1, 0x01, 0x01, .bool, .rw, .integrator, .live, .val 0, .within 0 1, false⟩
/-- 0x3220:02–03 POCKET DRIVE_STATE (R375). -/
abbrev POCKET_DRIVE_STATE : EntryDef :=
  ⟨0x3220, 1, 0x02, 0x03, .u8, .ro, .operator, .fixed, .val 0, .any, false⟩
/-- 0x3220:04–05 POCKET DRIVE_MANAGED (R375). -/
abbrev POCKET_DRIVE_MANAGED : EntryDef :=
  ⟨0x3220, 1, 0x04, 0x05, .u64, .ro, .operator, .fixed, .val 0, .any, false⟩
/-- 0x3220:06–07 POCKET DRIVE_FREE (R375). -/
abbrev POCKET_DRIVE_FREE : EntryDef :=
  ⟨0x3220, 1, 0x06, 0x07, .u64, .ro, .operator, .fixed, .val 0, .any, false⟩
/-- 0x3220:08–09 POCKET READ_BUDGET (R375). -/
abbrev POCKET_READ_BUDGET : EntryDef :=
  ⟨0x3220, 1, 0x08, 0x09, .u32, .rw, .integrator, .live, .val 6000, .within 100 14000, true⟩
/-- 0x3220:0A–0B POCKET WRITE_BUDGET (R375). -/
abbrev POCKET_WRITE_BUDGET : EntryDef :=
  ⟨0x3220, 1, 0x0A, 0x0B, .u32, .rw, .integrator, .live, .val 4000, .within 100 14000, true⟩
/-- 0x3220:0C POCKET FORMAT (R375). -/
abbrev POCKET_FORMAT : EntryDef :=
  ⟨0x3220, 1, 0x0C, 0x0C, .u8, .wo, .service, .live, .val 0, .within 0 3, false⟩
/-- 0x3220:0D POCKET DIR_WINDOW (R375). -/
abbrev POCKET_DIR_WINDOW : EntryDef :=
  ⟨0x3220, 1, 0x0D, 0x0D, .u16, .rw, .operator, .live, .val 0, .within 0 4095, false⟩
/-- 0x3220:0E POCKET DIRECTORY (R375). -/
abbrev POCKET_DIRECTORY : EntryDef :=
  ⟨0x3220, 1, 0x0E, 0x0E, .domain, .ro, .operator, .fixed, .val 0, .length 0 4294967295, false⟩
/-- 0x3220:0F POCKET CLIP_DELETE (R375). -/
abbrev POCKET_CLIP_DELETE : EntryDef :=
  ⟨0x3220, 1, 0x0F, 0x0F, .u16, .wo, .integrator, .live, .val 0, .within 0 4095, false⟩
/-- 0x3220:10 POCKET CLIPS (R375). -/
abbrev POCKET_CLIPS : EntryDef :=
  ⟨0x3220, 1, 0x10, 0x10, .u16, .ro, .operator, .fixed, .val 0, .any, false⟩
/-- 0x3220:11 POCKET DIR_CHECKPOINT (R375). -/
abbrev POCKET_DIR_CHECKPOINT : EntryDef :=
  ⟨0x3220, 1, 0x11, 0x11, .u16, .rw, .integrator, .live, .val 50, .within 1 1000, true⟩
/-- 0x3220:20–21 POCKET CAP_SOURCE (R375). -/
abbrev POCKET_CAP_SOURCE : EntryDef :=
  ⟨0x3220, 1, 0x20, 0x21, .u16, .rw, .operator, .live, .val 0xffff,
    .oneOf ((List.range 64).map (· + 0x100) ++ (List.range 16).map (· + 0x200) ++ [0xFFFF]), true⟩
/-- 0x3220:22–23 POCKET CAP_CLIP (R375). -/
abbrev POCKET_CAP_CLIP : EntryDef :=
  ⟨0x3220, 1, 0x22, 0x23, .u16, .rw, .operator, .live, .val 0, .within 0 4095, true⟩
/-- 0x3220:24–25 POCKET CAP_DRIVE (R375). -/
abbrev POCKET_CAP_DRIVE : EntryDef :=
  ⟨0x3220, 1, 0x24, 0x25, .u8, .rw, .operator, .live, .val 0, .oneOf [0, 1], true⟩
/-- 0x3220:26–27 POCKET CAP_AUDIO (R375). -/
abbrev POCKET_CAP_AUDIO : EntryDef :=
  ⟨0x3220, 1, 0x26, 0x27, .u16, .rw, .operator, .live, .val 0x0, .lowByte 16, true⟩
/-- 0x3220:28–29 POCKET CAP_COMMAND (R375). -/
abbrev POCKET_CAP_COMMAND : EntryDef :=
  ⟨0x3220, 1, 0x28, 0x29, .u8, .wo, .operator, .live, .val 0, .oneOf [1, 2], false⟩
/-- 0x3220:2A–2B POCKET CAP_STATE (R375). -/
abbrev POCKET_CAP_STATE : EntryDef :=
  ⟨0x3220, 1, 0x2A, 0x2B, .u8, .ro, .operator, .fixed, .val 0, .any, false⟩
/-- 0x3220:2C–2D POCKET CAP_FRAMES (R375). -/
abbrev POCKET_CAP_FRAMES : EntryDef :=
  ⟨0x3220, 1, 0x2C, 0x2D, .u32, .ro, .operator, .fixed, .val 0, .any, false⟩
/-- The rows of POCKET. -/
def rows_POCKET : List EntryDef :=
  [POCKET_HIGHEST_SUB,
   POCKET_ENABLE,
   POCKET_DRIVE_STATE,
   POCKET_DRIVE_MANAGED,
   POCKET_DRIVE_FREE,
   POCKET_READ_BUDGET,
   POCKET_WRITE_BUDGET,
   POCKET_FORMAT,
   POCKET_DIR_WINDOW,
   POCKET_DIRECTORY,
   POCKET_CLIP_DELETE,
   POCKET_CLIPS,
   POCKET_DIR_CHECKPOINT,
   POCKET_CAP_SOURCE,
   POCKET_CAP_CLIP,
   POCKET_CAP_DRIVE,
   POCKET_CAP_AUDIO,
   POCKET_CAP_COMMAND,
   POCKET_CAP_STATE,
   POCKET_CAP_FRAMES]

end Sys2Proof.Machine.Dict
end

