-- ==== Sys2Proof/Machine/DictRecorder.lean ====
section
/-! DEFINITION. The dictionary entries of the spec's chapter 17, one definition per row of its tables,
written from those tables (R396). -/
namespace Sys2Proof.Machine.Dict

/-- 0x3800:00 RECORDER HIGHEST_SUB (R472). -/
abbrev RECORDER_HIGHEST_SUB : EntryDef :=
  ⟨0x3800, 1, 0x00, 0x00, .u8, .const, .operator, .fixed, .val 0xd, .any, false⟩
/-- 0x3800:01 RECORDER NEWEST_SEQ (R472). -/
abbrev RECORDER_NEWEST_SEQ : EntryDef :=
  ⟨0x3800, 1, 0x01, 0x01, .u32, .ro, .operator, .fixed, .val 0, .any, false⟩
/-- 0x3800:02 RECORDER OLDEST_SEQ (R472). -/
abbrev RECORDER_OLDEST_SEQ : EntryDef :=
  ⟨0x3800, 1, 0x02, 0x02, .u32, .ro, .operator, .fixed, .val 0, .any, false⟩
/-- 0x3800:03 RECORDER RECORDS (R472). -/
abbrev RECORDER_RECORDS : EntryDef :=
  ⟨0x3800, 1, 0x03, 0x03, .u32, .ro, .operator, .fixed, .val 0, .any, false⟩
/-- 0x3800:04 RECORDER MERGES (R472). -/
abbrev RECORDER_MERGES : EntryDef :=
  ⟨0x3800, 1, 0x04, 0x04, .u64, .ro, .operator, .fixed, .val 0, .any, false⟩
/-- 0x3800:05 RECORDER QUEUED (R472). -/
abbrev RECORDER_QUEUED : EntryDef :=
  ⟨0x3800, 1, 0x05, 0x05, .u16, .ro, .operator, .fixed, .val 0, .any, false⟩
/-- 0x3800:06 RECORDER DROPPED (R472). -/
abbrev RECORDER_DROPPED : EntryDef :=
  ⟨0x3800, 1, 0x06, 0x06, .u32, .ro, .operator, .fixed, .val 0, .any, false⟩
/-- 0x3800:07 RECORDER TORN (R472). -/
abbrev RECORDER_TORN : EntryDef :=
  ⟨0x3800, 1, 0x07, 0x07, .u32, .ro, .operator, .fixed, .val 0, .any, false⟩
/-- 0x3800:08 RECORDER EXPORT_SLOT (R472). -/
abbrev RECORDER_EXPORT_SLOT : EntryDef :=
  ⟨0x3800, 1, 0x08, 0x08, .u8, .rw, .integrator, .live, .val 0xff, .withinOr 0 71 [255], true⟩
/-- 0x3800:09 RECORDER EXPORT_FROM (R472). -/
abbrev RECORDER_EXPORT_FROM : EntryDef :=
  ⟨0x3800, 1, 0x09, 0x09, .u32, .rw, .integrator, .live, .val 0, .any, false⟩
/-- 0x3800:0A RECORDER EXPORT_COUNT (R472). -/
abbrev RECORDER_EXPORT_COUNT : EntryDef :=
  ⟨0x3800, 1, 0x0A, 0x0A, .u16, .rw, .integrator, .live, .val 64, .within 1 32768, false⟩
/-- 0x3800:0B RECORDER EXPORT_NONCE (R472). -/
abbrev RECORDER_EXPORT_NONCE : EntryDef :=
  ⟨0x3800, 1, 0x0B, 0x0B, .domain, .wo, .integrator, .live, .val 0, .length 16 16, false⟩
/-- 0x3800:0C RECORDER EXPORT (R472). -/
abbrev RECORDER_EXPORT : EntryDef :=
  ⟨0x3800, 1, 0x0C, 0x0C, .domain, .ro, .operator, .fixed, .val 0, .length 0 4294967295, false⟩
/-- 0x3800:0D RECORDER EXPORTS (R472). -/
abbrev RECORDER_EXPORTS : EntryDef :=
  ⟨0x3800, 1, 0x0D, 0x0D, .u32, .ro, .operator, .fixed, .val 0, .any, false⟩
/-- The rows of RECORDER. -/
def rows_RECORDER : List EntryDef :=
  [RECORDER_HIGHEST_SUB,
   RECORDER_NEWEST_SEQ,
   RECORDER_OLDEST_SEQ,
   RECORDER_RECORDS,
   RECORDER_MERGES,
   RECORDER_QUEUED,
   RECORDER_DROPPED,
   RECORDER_TORN,
   RECORDER_EXPORT_SLOT,
   RECORDER_EXPORT_FROM,
   RECORDER_EXPORT_COUNT,
   RECORDER_EXPORT_NONCE,
   RECORDER_EXPORT,
   RECORDER_EXPORTS]

/-- 0x3801:00 RECORD_WINDOW HIGHEST_SUB (R473). -/
abbrev RECORD_WINDOW_HIGHEST_SUB : EntryDef :=
  ⟨0x3801, 1, 0x00, 0x00, .u8, .const, .operator, .fixed, .val 0x2, .any, false⟩
/-- 0x3801:01 RECORD_WINDOW POSITION (R473). -/
abbrev RECORD_WINDOW_POSITION : EntryDef :=
  ⟨0x3801, 1, 0x01, 0x01, .u32, .rw, .operator, .live, .val 0, .any, false⟩
/-- 0x3801:02 RECORD_WINDOW RECORDS (R473). -/
abbrev RECORD_WINDOW_RECORDS : EntryDef :=
  ⟨0x3801, 1, 0x02, 0x02, .domain, .ro, .operator, .fixed, .val 0, .length 0 4294967295, false⟩
/-- The rows of RECORD_WINDOW. -/
def rows_RECORD_WINDOW : List EntryDef :=
  [RECORD_WINDOW_HIGHEST_SUB,
   RECORD_WINDOW_POSITION,
   RECORD_WINDOW_RECORDS]

/-- 0x3810:00 LIFETIME HIGHEST_SUB (R474). -/
abbrev LIFETIME_HIGHEST_SUB : EntryDef :=
  ⟨0x3810, 1, 0x00, 0x00, .u8, .const, .operator, .fixed, .val 0x8, .any, false⟩
/-- 0x3810:01 LIFETIME OPERATING_SECONDS (R474). -/
abbrev LIFETIME_OPERATING_SECONDS : EntryDef :=
  ⟨0x3810, 1, 0x01, 0x01, .u32, .ro, .operator, .fixed, .val 0, .any, false⟩
/-- 0x3810:02 LIFETIME POWER_CYCLES (R474). -/
abbrev LIFETIME_POWER_CYCLES : EntryDef :=
  ⟨0x3810, 1, 0x02, 0x02, .u32, .ro, .operator, .fixed, .val 0, .any, false⟩
/-- 0x3810:03 LIFETIME BROWNOUTS (R474). -/
abbrev LIFETIME_BROWNOUTS : EntryDef :=
  ⟨0x3810, 1, 0x03, 0x03, .u32, .ro, .operator, .fixed, .val 0, .any, false⟩
/-- 0x3810:04 LIFETIME TAMPER_GENERATION (R474). -/
abbrev LIFETIME_TAMPER_GENERATION : EntryDef :=
  ⟨0x3810, 1, 0x04, 0x04, .u8, .ro, .operator, .fixed, .val 0, .any, false⟩
/-- 0x3810:05 LIFETIME PATCHES_APPLIED (R474). -/
abbrev LIFETIME_PATCHES_APPLIED : EntryDef :=
  ⟨0x3810, 1, 0x05, 0x05, .u32, .ro, .operator, .fixed, .val 0, .any, false⟩
/-- 0x3810:06 LIFETIME CHECKPOINTS (R474). -/
abbrev LIFETIME_CHECKPOINTS : EntryDef :=
  ⟨0x3810, 1, 0x06, 0x06, .u32, .ro, .operator, .fixed, .val 0, .any, false⟩
/-- 0x3810:07 LIFETIME LAST_CHECKPOINT (R474). -/
abbrev LIFETIME_LAST_CHECKPOINT : EntryDef :=
  ⟨0x3810, 1, 0x07, 0x07, .u32, .ro, .operator, .fixed, .val 0, .any, false⟩
/-- 0x3810:08 LIFETIME MAX_DIE_TEMP (R474). -/
abbrev LIFETIME_MAX_DIE_TEMP : EntryDef :=
  ⟨0x3810, 1, 0x08, 0x08, .i16, .ro, .operator, .fixed, .val 0, .any, false⟩
/-- The rows of LIFETIME. -/
def rows_LIFETIME : List EntryDef :=
  [LIFETIME_HIGHEST_SUB,
   LIFETIME_OPERATING_SECONDS,
   LIFETIME_POWER_CYCLES,
   LIFETIME_BROWNOUTS,
   LIFETIME_TAMPER_GENERATION,
   LIFETIME_PATCHES_APPLIED,
   LIFETIME_CHECKPOINTS,
   LIFETIME_LAST_CHECKPOINT,
   LIFETIME_MAX_DIE_TEMP]

/-- 0x3820 + n:00 HISTOGRAM HIGHEST_SUB (R474). -/
abbrev HISTOGRAM_HIGHEST_SUB : EntryDef :=
  ⟨0x3820, 12, 0x00, 0x00, .u8, .const, .operator, .fixed, .val 0x12, .any, false⟩
/-- 0x3820 + n:01–10 HISTOGRAM BIN (R474). -/
abbrev HISTOGRAM_BIN : EntryDef :=
  ⟨0x3820, 12, 0x01, 0x10, .u32, .ro, .operator, .fixed, .val 0, .any, false⟩
/-- 0x3820 + n:11 HISTOGRAM SAMPLES (R474). -/
abbrev HISTOGRAM_SAMPLES : EntryDef :=
  ⟨0x3820, 12, 0x11, 0x11, .u64, .ro, .operator, .fixed, .val 0, .any, false⟩
/-- 0x3820 + n:12 HISTOGRAM LAST_FLUSH (R474). -/
abbrev HISTOGRAM_LAST_FLUSH : EntryDef :=
  ⟨0x3820, 12, 0x12, 0x12, .u32, .ro, .operator, .fixed, .val 0, .any, false⟩
/-- The rows of HISTOGRAM. -/
def rows_HISTOGRAM : List EntryDef :=
  [HISTOGRAM_HIGHEST_SUB,
   HISTOGRAM_BIN,
   HISTOGRAM_SAMPLES,
   HISTOGRAM_LAST_FLUSH]

/-- 0x3E00:00 SUPPLY HIGHEST_SUB (R475). -/
abbrev SUPPLY_HIGHEST_SUB : EntryDef :=
  ⟨0x3E00, 1, 0x00, 0x00, .u8, .const, .operator, .fixed, .val 0xa, .any, false⟩
/-- 0x3E00:01 SUPPLY FLOOR_STATE (R475). -/
abbrev SUPPLY_FLOOR_STATE : EntryDef :=
  ⟨0x3E00, 1, 0x01, 0x01, .u8, .ro, .operator, .fixed, .val 0, .any, false⟩
/-- 0x3E00:02 SUPPLY FLOOR_CAUSE (R475). -/
abbrev SUPPLY_FLOOR_CAUSE : EntryDef :=
  ⟨0x3E00, 1, 0x02, 0x02, .u8, .ro, .operator, .fixed, .val 0x0, .any, false⟩
/-- 0x3E00:03 SUPPLY VNVM (R475). -/
abbrev SUPPLY_VNVM : EntryDef :=
  ⟨0x3E00, 1, 0x03, 0x03, .u16, .ro, .operator, .fixed, .val 0, .any, false⟩
/-- 0x3E00:04 SUPPLY VIO18 (R475). -/
abbrev SUPPLY_VIO18 : EntryDef :=
  ⟨0x3E00, 1, 0x04, 0x04, .u16, .ro, .operator, .fixed, .val 0, .any, false⟩
/-- 0x3E00:05 SUPPLY VCTL (R475). -/
abbrev SUPPLY_VCTL : EntryDef :=
  ⟨0x3E00, 1, 0x05, 0x05, .u16, .ro, .operator, .fixed, .val 0, .any, false⟩
/-- 0x3E00:06 SUPPLY PWR_FAIL (R475). -/
abbrev SUPPLY_PWR_FAIL : EntryDef :=
  ⟨0x3E00, 1, 0x06, 0x06, .bool, .ro, .operator, .fixed, .val 0, .any, false⟩
/-- 0x3E00:07 SUPPLY FLOOR_ENTRIES (R475). -/
abbrev SUPPLY_FLOOR_ENTRIES : EntryDef :=
  ⟨0x3E00, 1, 0x07, 0x07, .u32, .ro, .operator, .fixed, .val 0, .any, false⟩
/-- 0x3E00:08 SUPPLY LAST_FLOOR_S (R475). -/
abbrev SUPPLY_LAST_FLOOR_S : EntryDef :=
  ⟨0x3E00, 1, 0x08, 0x08, .u32, .ro, .operator, .fixed, .val 0, .any, false⟩
/-- 0x3E00:09 SUPPLY SHUTDOWN (R475). -/
abbrev SUPPLY_SHUTDOWN : EntryDef :=
  ⟨0x3E00, 1, 0x09, 0x09, .u8, .wo, .integrator, .live, .val 0, .oneOf [1], false⟩
/-- 0x3E00:0A SUPPLY RESUME_REMAINING (R475). -/
abbrev SUPPLY_RESUME_REMAINING : EntryDef :=
  ⟨0x3E00, 1, 0x0A, 0x0A, .u16, .ro, .operator, .fixed, .val 0, .any, false⟩
/-- The rows of SUPPLY. -/
def rows_SUPPLY : List EntryDef :=
  [SUPPLY_HIGHEST_SUB,
   SUPPLY_FLOOR_STATE,
   SUPPLY_FLOOR_CAUSE,
   SUPPLY_VNVM,
   SUPPLY_VIO18,
   SUPPLY_VCTL,
   SUPPLY_PWR_FAIL,
   SUPPLY_FLOOR_ENTRIES,
   SUPPLY_LAST_FLOOR_S,
   SUPPLY_SHUTDOWN,
   SUPPLY_RESUME_REMAINING]

end Sys2Proof.Machine.Dict
end

