-- ==== Sys2Proof/Machine/DictResilience.lean ====
section
/-! DEFINITION. The dictionary entries of the spec's chapter 13, one definition per row of its tables,
written from those tables (R396). -/
namespace Sys2Proof.Machine.Dict

/-- 0x3C00:00 RESILIENCE HIGHEST_SUB (R392). -/
abbrev RESILIENCE_HIGHEST_SUB : EntryDef :=
  ⟨0x3C00, 1, 0x00, 0x00, .u8, .const, .operator, .fixed, .val 0xb, .any, false⟩
/-- 0x3C00:01 RESILIENCE PATROL_PERIOD (R392). -/
abbrev RESILIENCE_PATROL_PERIOD : EntryDef :=
  ⟨0x3C00, 1, 0x01, 0x01, .u8, .rw, .integrator, .live, .val 4, .within 1 24, true⟩
/-- 0x3C00:02 RESILIENCE PATROL_STATE (R392). -/
abbrev RESILIENCE_PATROL_STATE : EntryDef :=
  ⟨0x3C00, 1, 0x02, 0x02, .u8, .ro, .operator, .fixed, .val 0, .any, false⟩
/-- 0x3C00:03 RESILIENCE PATROL_PROGRESS (R392). -/
abbrev RESILIENCE_PATROL_PROGRESS : EntryDef :=
  ⟨0x3C00, 1, 0x03, 0x03, .u16, .ro, .operator, .fixed, .val 0, .any, false⟩
/-- 0x3C00:04 RESILIENCE PATROL_PASSES (R392). -/
abbrev RESILIENCE_PATROL_PASSES : EntryDef :=
  ⟨0x3C00, 1, 0x04, 0x04, .u32, .ro, .operator, .fixed, .val 0, .any, false⟩
/-- 0x3C00:05 RESILIENCE LAST_PASS_S (R392). -/
abbrev RESILIENCE_LAST_PASS_S : EntryDef :=
  ⟨0x3C00, 1, 0x05, 0x05, .u32, .ro, .operator, .fixed, .val 0, .any, false⟩
/-- 0x3C00:06 RESILIENCE SPARE_STATUS (R392). -/
abbrev RESILIENCE_SPARE_STATUS : EntryDef :=
  ⟨0x3C00, 1, 0x06, 0x06, .domain, .ro, .operator, .fixed, .val 0, .length 0 4294967295, false⟩
/-- 0x3C00:07 RESILIENCE RETIRED_UNITS (R392). -/
abbrev RESILIENCE_RETIRED_UNITS : EntryDef :=
  ⟨0x3C00, 1, 0x07, 0x07, .u16, .ro, .operator, .fixed, .val 0, .any, false⟩
/-- 0x3C00:08 RESILIENCE STORE_ROWS_SPARED (R392). -/
abbrev RESILIENCE_STORE_ROWS_SPARED : EntryDef :=
  ⟨0x3C00, 1, 0x08, 0x08, .u32, .ro, .operator, .fixed, .val 0, .any, false⟩
/-- 0x3C00:09 RESILIENCE FLAGS (R392). -/
abbrev RESILIENCE_FLAGS : EntryDef :=
  ⟨0x3C00, 1, 0x09, 0x09, .u8, .ro, .operator, .fixed, .val 0x0, .any, false⟩
/-- 0x3C00:0A RESILIENCE HOLD_RETIRE (R392). -/
abbrev RESILIENCE_HOLD_RETIRE : EntryDef :=
  ⟨0x3C00, 1, 0x0A, 0x0A, .u16, .rw, .service, .live, .val 0x0, .bits 0xFFE, true⟩
/-- 0x3C00:0B RESILIENCE RETIREMENTS (R392). -/
abbrev RESILIENCE_RETIREMENTS : EntryDef :=
  ⟨0x3C00, 1, 0x0B, 0x0B, .u32, .ro, .operator, .fixed, .val 0, .any, false⟩
/-- The rows of RESILIENCE. -/
def rows_RESILIENCE : List EntryDef :=
  [RESILIENCE_HIGHEST_SUB,
   RESILIENCE_PATROL_PERIOD,
   RESILIENCE_PATROL_STATE,
   RESILIENCE_PATROL_PROGRESS,
   RESILIENCE_PATROL_PASSES,
   RESILIENCE_LAST_PASS_S,
   RESILIENCE_SPARE_STATUS,
   RESILIENCE_RETIRED_UNITS,
   RESILIENCE_STORE_ROWS_SPARED,
   RESILIENCE_FLAGS,
   RESILIENCE_HOLD_RETIRE,
   RESILIENCE_RETIREMENTS]

/-- 0x3C10:00 PATCH_MAP HIGHEST_SUB (R393). -/
abbrev PATCH_MAP_HIGHEST_SUB : EntryDef :=
  ⟨0x3C10, 1, 0x00, 0x00, .u8, .const, .operator, .fixed, .val 0x5, .any, false⟩
/-- 0x3C10:01 PATCH_MAP ENTRIES (R393). -/
abbrev PATCH_MAP_ENTRIES : EntryDef :=
  ⟨0x3C10, 1, 0x01, 0x01, .u16, .ro, .operator, .fixed, .val 0, .any, false⟩
/-- 0x3C10:02 PATCH_MAP WINDOW (R393). -/
abbrev PATCH_MAP_WINDOW : EntryDef :=
  ⟨0x3C10, 1, 0x02, 0x02, .u16, .rw, .operator, .live, .val 0, .within 0 511, false⟩
/-- 0x3C10:03 PATCH_MAP DATA (R393). -/
abbrev PATCH_MAP_DATA : EntryDef :=
  ⟨0x3C10, 1, 0x03, 0x03, .domain, .ro, .operator, .fixed, .val 0, .length 0 4294967295, false⟩
/-- 0x3C10:04 PATCH_MAP CLEAR (R393). -/
abbrev PATCH_MAP_CLEAR : EntryDef :=
  ⟨0x3C10, 1, 0x04, 0x04, .u16, .wo, .service, .live, .val 0, .within 0 511, false⟩
/-- 0x3C10:05 PATCH_MAP CAPACITY (R393). -/
abbrev PATCH_MAP_CAPACITY : EntryDef :=
  ⟨0x3C10, 1, 0x05, 0x05, .u16, .const, .operator, .fixed, .val 512, .any, false⟩
/-- The rows of PATCH_MAP. -/
def rows_PATCH_MAP : List EntryDef :=
  [PATCH_MAP_HIGHEST_SUB,
   PATCH_MAP_ENTRIES,
   PATCH_MAP_WINDOW,
   PATCH_MAP_DATA,
   PATCH_MAP_CLEAR,
   PATCH_MAP_CAPACITY]

/-- 0x3C20:00 FAULT_WEIGHTS HIGHEST_SUB (R394). -/
abbrev FAULT_WEIGHTS_HIGHEST_SUB : EntryDef :=
  ⟨0x3C20, 1, 0x00, 0x00, .u8, .const, .operator, .fixed, .val 0x1b, .any, false⟩
/-- 0x3C20:01 FAULT_WEIGHTS WINDOW (R394). -/
abbrev FAULT_WEIGHTS_WINDOW : EntryDef :=
  ⟨0x3C20, 1, 0x01, 0x01, .u16, .rw, .operator, .live, .val 0, .within 0 1023, false⟩
/-- 0x3C20:02 FAULT_WEIGHTS WEIGHT_LIST (R394). -/
abbrev FAULT_WEIGHTS_WEIGHT_LIST : EntryDef :=
  ⟨0x3C20, 1, 0x02, 0x02, .domain, .ro, .operator, .fixed, .val 0, .length 0 4294967295, false⟩
/-- 0x3C20:03 FAULT_WEIGHTS LISTED (R394). -/
abbrev FAULT_WEIGHTS_LISTED : EntryDef :=
  ⟨0x3C20, 1, 0x03, 0x03, .u16, .ro, .operator, .fixed, .val 0, .any, false⟩
/-- 0x3C20:04 FAULT_WEIGHTS CLEAR_WEIGHTS (R394). -/
abbrev FAULT_WEIGHTS_CLEAR_WEIGHTS : EntryDef :=
  ⟨0x3C20, 1, 0x04, 0x04, .u16, .wo, .service, .live, .val 0, .any, false⟩
/-- 0x3C20:11–1B FAULT_WEIGHTS THRESHOLD (R394). -/
abbrev FAULT_WEIGHTS_THRESHOLD : EntryDef :=
  ⟨0x3C20, 1, 0x11, 0x1B, .u8, .rw, .integrator, .live, .val 8, .within 1 64, true⟩
/-- The rows of FAULT_WEIGHTS. -/
def rows_FAULT_WEIGHTS : List EntryDef :=
  [FAULT_WEIGHTS_HIGHEST_SUB,
   FAULT_WEIGHTS_WINDOW,
   FAULT_WEIGHTS_WEIGHT_LIST,
   FAULT_WEIGHTS_LISTED,
   FAULT_WEIGHTS_CLEAR_WEIGHTS,
   FAULT_WEIGHTS_THRESHOLD]

end Sys2Proof.Machine.Dict
end

