-- ==== Sys2Proof/Machine/DictRouting.lean ====
section
/-! DEFINITION. The dictionary entries of the spec's chapter 05, one definition per row of its tables,
written from those tables (R396). -/
namespace Sys2Proof.Machine.Dict

/-- 0x2500:00 ROUTE_TABLE HIGHEST_SUB (R146). -/
abbrev ROUTE_TABLE_HIGHEST_SUB : EntryDef :=
  ⟨0x2500, 1, 0x00, 0x00, .u8, .const, .operator, .fixed, .val 1, .any, false⟩
/-- 0x2500:01 ROUTE_TABLE DATA (R146). -/
abbrev ROUTE_TABLE_DATA : EntryDef :=
  ⟨0x2500, 1, 0x01, 0x01, .domain, .rw, .integrator, .live, .val 0, .length 0 16384, true⟩
/-- The rows of ROUTE_TABLE. -/
def rows_ROUTE_TABLE : List EntryDef :=
  [ROUTE_TABLE_HIGHEST_SUB,
   ROUTE_TABLE_DATA]

/-- 0x2C40 + n:00 HEAD_COMMIT HIGHEST_SUB (R155). -/
abbrev HEAD_COMMIT_HIGHEST_SUB : EntryDef :=
  ⟨0x2C40, 32, 0x00, 0x00, .u8, .const, .operator, .fixed, .val 0x11, .any, false⟩
/-- 0x2C40 + n:01 HEAD_COMMIT COMMIT (R155). -/
abbrev HEAD_COMMIT_COMMIT : EntryDef :=
  ⟨0x2C40, 32, 0x01, 0x01, .u8, .wo, .operator, .live, .val 0, .oneOf [1, 2], false⟩
/-- 0x2C40 + n:02 HEAD_COMMIT STATE (R155). -/
abbrev HEAD_COMMIT_STATE : EntryDef :=
  ⟨0x2C40, 32, 0x02, 0x02, .u8, .ro, .operator, .fixed, .val 0, .any, false⟩
/-- 0x2C40 + n:03 HEAD_COMMIT SHADOW_DIRTY (R155). -/
abbrev HEAD_COMMIT_SHADOW_DIRTY : EntryDef :=
  ⟨0x2C40, 32, 0x03, 0x03, .bool, .ro, .operator, .fixed, .val 0, .any, false⟩
/-- 0x2C40 + n:04 HEAD_COMMIT RECEIPT_S (R155). -/
abbrev HEAD_COMMIT_RECEIPT_S : EntryDef :=
  ⟨0x2C40, 32, 0x04, 0x04, .u64, .ro, .operator, .fixed, .val 0, .any, false⟩
/-- 0x2C40 + n:05 HEAD_COMMIT RECEIPT_NS (R155). -/
abbrev HEAD_COMMIT_RECEIPT_NS : EntryDef :=
  ⟨0x2C40, 32, 0x05, 0x05, .u32, .ro, .operator, .fixed, .val 0, .any, false⟩
/-- 0x2C40 + n:06 HEAD_COMMIT ACK_S (R155). -/
abbrev HEAD_COMMIT_ACK_S : EntryDef :=
  ⟨0x2C40, 32, 0x06, 0x06, .u64, .ro, .operator, .fixed, .val 0, .any, false⟩
/-- 0x2C40 + n:07 HEAD_COMMIT ACK_NS (R155). -/
abbrev HEAD_COMMIT_ACK_NS : EntryDef :=
  ⟨0x2C40, 32, 0x07, 0x07, .u32, .ro, .operator, .fixed, .val 0, .any, false⟩
/-- 0x2C40 + n:08 HEAD_COMMIT AIM_FRAME (R155). -/
abbrev HEAD_COMMIT_AIM_FRAME : EntryDef :=
  ⟨0x2C40, 32, 0x08, 0x08, .u64, .ro, .operator, .fixed, .val 0, .any, false⟩
/-- 0x2C40 + n:09 HEAD_COMMIT LAND_FRAME (R155). -/
abbrev HEAD_COMMIT_LAND_FRAME : EntryDef :=
  ⟨0x2C40, 32, 0x09, 0x09, .u64, .ro, .operator, .fixed, .val 0, .any, false⟩
/-- 0x2C40 + n:0A HEAD_COMMIT LAND_S (R155). -/
abbrev HEAD_COMMIT_LAND_S : EntryDef :=
  ⟨0x2C40, 32, 0x0A, 0x0A, .u64, .ro, .operator, .fixed, .val 0, .any, false⟩
/-- 0x2C40 + n:0B HEAD_COMMIT LAND_NS (R155). -/
abbrev HEAD_COMMIT_LAND_NS : EntryDef :=
  ⟨0x2C40, 32, 0x0B, 0x0B, .u32, .ro, .operator, .fixed, .val 0, .any, false⟩
/-- 0x2C40 + n:0C HEAD_COMMIT LANDED_COUNT (R155). -/
abbrev HEAD_COMMIT_LANDED_COUNT : EntryDef :=
  ⟨0x2C40, 32, 0x0C, 0x0C, .u32, .ro, .operator, .fixed, .val 0, .any, false⟩
/-- 0x2C40 + n:0D HEAD_COMMIT LATE_COUNT (R155). -/
abbrev HEAD_COMMIT_LATE_COUNT : EntryDef :=
  ⟨0x2C40, 32, 0x0D, 0x0D, .u32, .ro, .operator, .fixed, .val 0, .any, false⟩
/-- 0x2C40 + n:0E HEAD_COMMIT REFUSED_COUNT (R155). -/
abbrev HEAD_COMMIT_REFUSED_COUNT : EntryDef :=
  ⟨0x2C40, 32, 0x0E, 0x0E, .u32, .ro, .operator, .fixed, .val 0, .any, false⟩
/-- 0x2C40 + n:0F HEAD_COMMIT SUPERSEDED_COUNT (R155). -/
abbrev HEAD_COMMIT_SUPERSEDED_COUNT : EntryDef :=
  ⟨0x2C40, 32, 0x0F, 0x0F, .u32, .ro, .operator, .fixed, .val 0, .any, false⟩
/-- 0x2C40 + n:11 HEAD_COMMIT MSIX_VECTOR (R155). -/
abbrev HEAD_COMMIT_MSIX_VECTOR : EntryDef :=
  ⟨0x2C40, 32, 0x11, 0x11, .u8, .rw, .operator, .live, .val 0xff, .withinOr 0 63 [255], false⟩
/-- The rows of HEAD_COMMIT. -/
def rows_HEAD_COMMIT : List EntryDef :=
  [HEAD_COMMIT_HIGHEST_SUB,
   HEAD_COMMIT_COMMIT,
   HEAD_COMMIT_STATE,
   HEAD_COMMIT_SHADOW_DIRTY,
   HEAD_COMMIT_RECEIPT_S,
   HEAD_COMMIT_RECEIPT_NS,
   HEAD_COMMIT_ACK_S,
   HEAD_COMMIT_ACK_NS,
   HEAD_COMMIT_AIM_FRAME,
   HEAD_COMMIT_LAND_FRAME,
   HEAD_COMMIT_LAND_S,
   HEAD_COMMIT_LAND_NS,
   HEAD_COMMIT_LANDED_COUNT,
   HEAD_COMMIT_LATE_COUNT,
   HEAD_COMMIT_REFUSED_COUNT,
   HEAD_COMMIT_SUPERSEDED_COUNT,
   HEAD_COMMIT_MSIX_VECTOR]

/-- 0x2860 + n:00 CANVAS_COMMIT HIGHEST_SUB (R155). -/
abbrev CANVAS_COMMIT_HIGHEST_SUB : EntryDef :=
  ⟨0x2860, 8, 0x00, 0x00, .u8, .const, .operator, .fixed, .val 0x11, .any, false⟩
/-- 0x2860 + n:01 CANVAS_COMMIT COMMIT (R155). -/
abbrev CANVAS_COMMIT_COMMIT : EntryDef :=
  ⟨0x2860, 8, 0x01, 0x01, .u8, .wo, .operator, .live, .val 0, .oneOf [1, 2], false⟩
/-- 0x2860 + n:02 CANVAS_COMMIT STATE (R155). -/
abbrev CANVAS_COMMIT_STATE : EntryDef :=
  ⟨0x2860, 8, 0x02, 0x02, .u8, .ro, .operator, .fixed, .val 0, .any, false⟩
/-- 0x2860 + n:03 CANVAS_COMMIT SHADOW_DIRTY (R155). -/
abbrev CANVAS_COMMIT_SHADOW_DIRTY : EntryDef :=
  ⟨0x2860, 8, 0x03, 0x03, .bool, .ro, .operator, .fixed, .val 0, .any, false⟩
/-- 0x2860 + n:04 CANVAS_COMMIT RECEIPT_S (R155). -/
abbrev CANVAS_COMMIT_RECEIPT_S : EntryDef :=
  ⟨0x2860, 8, 0x04, 0x04, .u64, .ro, .operator, .fixed, .val 0, .any, false⟩
/-- 0x2860 + n:05 CANVAS_COMMIT RECEIPT_NS (R155). -/
abbrev CANVAS_COMMIT_RECEIPT_NS : EntryDef :=
  ⟨0x2860, 8, 0x05, 0x05, .u32, .ro, .operator, .fixed, .val 0, .any, false⟩
/-- 0x2860 + n:06 CANVAS_COMMIT ACK_S (R155). -/
abbrev CANVAS_COMMIT_ACK_S : EntryDef :=
  ⟨0x2860, 8, 0x06, 0x06, .u64, .ro, .operator, .fixed, .val 0, .any, false⟩
/-- 0x2860 + n:07 CANVAS_COMMIT ACK_NS (R155). -/
abbrev CANVAS_COMMIT_ACK_NS : EntryDef :=
  ⟨0x2860, 8, 0x07, 0x07, .u32, .ro, .operator, .fixed, .val 0, .any, false⟩
/-- 0x2860 + n:08 CANVAS_COMMIT AIM_FRAME (R155). -/
abbrev CANVAS_COMMIT_AIM_FRAME : EntryDef :=
  ⟨0x2860, 8, 0x08, 0x08, .u64, .ro, .operator, .fixed, .val 0, .any, false⟩
/-- 0x2860 + n:09 CANVAS_COMMIT LAND_FRAME (R155). -/
abbrev CANVAS_COMMIT_LAND_FRAME : EntryDef :=
  ⟨0x2860, 8, 0x09, 0x09, .u64, .ro, .operator, .fixed, .val 0, .any, false⟩
/-- 0x2860 + n:0A CANVAS_COMMIT LAND_S (R155). -/
abbrev CANVAS_COMMIT_LAND_S : EntryDef :=
  ⟨0x2860, 8, 0x0A, 0x0A, .u64, .ro, .operator, .fixed, .val 0, .any, false⟩
/-- 0x2860 + n:0B CANVAS_COMMIT LAND_NS (R155). -/
abbrev CANVAS_COMMIT_LAND_NS : EntryDef :=
  ⟨0x2860, 8, 0x0B, 0x0B, .u32, .ro, .operator, .fixed, .val 0, .any, false⟩
/-- 0x2860 + n:0C CANVAS_COMMIT LANDED_COUNT (R155). -/
abbrev CANVAS_COMMIT_LANDED_COUNT : EntryDef :=
  ⟨0x2860, 8, 0x0C, 0x0C, .u32, .ro, .operator, .fixed, .val 0, .any, false⟩
/-- 0x2860 + n:0D CANVAS_COMMIT LATE_COUNT (R155). -/
abbrev CANVAS_COMMIT_LATE_COUNT : EntryDef :=
  ⟨0x2860, 8, 0x0D, 0x0D, .u32, .ro, .operator, .fixed, .val 0, .any, false⟩
/-- 0x2860 + n:0E CANVAS_COMMIT REFUSED_COUNT (R155). -/
abbrev CANVAS_COMMIT_REFUSED_COUNT : EntryDef :=
  ⟨0x2860, 8, 0x0E, 0x0E, .u32, .ro, .operator, .fixed, .val 0, .any, false⟩
/-- 0x2860 + n:0F CANVAS_COMMIT SUPERSEDED_COUNT (R155). -/
abbrev CANVAS_COMMIT_SUPERSEDED_COUNT : EntryDef :=
  ⟨0x2860, 8, 0x0F, 0x0F, .u32, .ro, .operator, .fixed, .val 0, .any, false⟩
/-- 0x2860 + n:10 CANVAS_COMMIT DEGRADED_LAYERS (R155). -/
abbrev CANVAS_COMMIT_DEGRADED_LAYERS : EntryDef :=
  ⟨0x2860, 8, 0x10, 0x10, .u8, .ro, .operator, .fixed, .val 0x0, .any, false⟩
/-- 0x2860 + n:11 CANVAS_COMMIT MSIX_VECTOR (R155). -/
abbrev CANVAS_COMMIT_MSIX_VECTOR : EntryDef :=
  ⟨0x2860, 8, 0x11, 0x11, .u8, .rw, .operator, .live, .val 0xff, .withinOr 0 63 [255], false⟩
/-- The rows of CANVAS_COMMIT. -/
def rows_CANVAS_COMMIT : List EntryDef :=
  [CANVAS_COMMIT_HIGHEST_SUB,
   CANVAS_COMMIT_COMMIT,
   CANVAS_COMMIT_STATE,
   CANVAS_COMMIT_SHADOW_DIRTY,
   CANVAS_COMMIT_RECEIPT_S,
   CANVAS_COMMIT_RECEIPT_NS,
   CANVAS_COMMIT_ACK_S,
   CANVAS_COMMIT_ACK_NS,
   CANVAS_COMMIT_AIM_FRAME,
   CANVAS_COMMIT_LAND_FRAME,
   CANVAS_COMMIT_LAND_S,
   CANVAS_COMMIT_LAND_NS,
   CANVAS_COMMIT_LANDED_COUNT,
   CANVAS_COMMIT_LATE_COUNT,
   CANVAS_COMMIT_REFUSED_COUNT,
   CANVAS_COMMIT_SUPERSEDED_COUNT,
   CANVAS_COMMIT_DEGRADED_LAYERS,
   CANVAS_COMMIT_MSIX_VECTOR]

/-- 0x2870:00 STITCH_GROUP HIGHEST_SUB (R156). -/
abbrev STITCH_GROUP_HIGHEST_SUB : EntryDef :=
  ⟨0x2870, 1, 0x00, 0x00, .u8, .const, .operator, .fixed, .val 0xd, .any, false⟩
/-- 0x2870:01 STITCH_GROUP HEAD_MASK (R156). -/
abbrev STITCH_GROUP_HEAD_MASK : EntryDef :=
  ⟨0x2870, 1, 0x01, 0x01, .u32, .rw, .operator, .live, .val 0, .any, false⟩
/-- 0x2870:02 STITCH_GROUP CANVAS_MASK (R156). -/
abbrev STITCH_GROUP_CANVAS_MASK : EntryDef :=
  ⟨0x2870, 1, 0x02, 0x02, .u8, .rw, .operator, .live, .val 0x0, .any, false⟩
/-- 0x2870:03 STITCH_GROUP COMMIT (R156). -/
abbrev STITCH_GROUP_COMMIT : EntryDef :=
  ⟨0x2870, 1, 0x03, 0x03, .u8, .wo, .operator, .live, .val 0, .oneOf [1], false⟩
/-- 0x2870:04 STITCH_GROUP STATE (R156). -/
abbrev STITCH_GROUP_STATE : EntryDef :=
  ⟨0x2870, 1, 0x04, 0x04, .u8, .ro, .operator, .fixed, .val 0, .any, false⟩
/-- 0x2870:05 STITCH_GROUP FTG (R156). -/
abbrev STITCH_GROUP_FTG : EntryDef :=
  ⟨0x2870, 1, 0x05, 0x05, .u8, .ro, .operator, .fixed, .val 0xff, .any, false⟩
/-- 0x2870:06 STITCH_GROUP RECEIPT_S (R156). -/
abbrev STITCH_GROUP_RECEIPT_S : EntryDef :=
  ⟨0x2870, 1, 0x06, 0x06, .u64, .ro, .operator, .fixed, .val 0, .any, false⟩
/-- 0x2870:07 STITCH_GROUP RECEIPT_NS (R156). -/
abbrev STITCH_GROUP_RECEIPT_NS : EntryDef :=
  ⟨0x2870, 1, 0x07, 0x07, .u32, .ro, .operator, .fixed, .val 0, .any, false⟩
/-- 0x2870:08 STITCH_GROUP ACK_S (R156). -/
abbrev STITCH_GROUP_ACK_S : EntryDef :=
  ⟨0x2870, 1, 0x08, 0x08, .u64, .ro, .operator, .fixed, .val 0, .any, false⟩
/-- 0x2870:09 STITCH_GROUP ACK_NS (R156). -/
abbrev STITCH_GROUP_ACK_NS : EntryDef :=
  ⟨0x2870, 1, 0x09, 0x09, .u32, .ro, .operator, .fixed, .val 0, .any, false⟩
/-- 0x2870:0A STITCH_GROUP AIM_FRAME (R156). -/
abbrev STITCH_GROUP_AIM_FRAME : EntryDef :=
  ⟨0x2870, 1, 0x0A, 0x0A, .u64, .ro, .operator, .fixed, .val 0, .any, false⟩
/-- 0x2870:0B STITCH_GROUP LAND_FRAME (R156). -/
abbrev STITCH_GROUP_LAND_FRAME : EntryDef :=
  ⟨0x2870, 1, 0x0B, 0x0B, .u64, .ro, .operator, .fixed, .val 0, .any, false⟩
/-- 0x2870:0C STITCH_GROUP LATE_COUNT (R156). -/
abbrev STITCH_GROUP_LATE_COUNT : EntryDef :=
  ⟨0x2870, 1, 0x0C, 0x0C, .u32, .ro, .operator, .fixed, .val 0, .any, false⟩
/-- 0x2870:0D STITCH_GROUP REFUSED_COUNT (R156). -/
abbrev STITCH_GROUP_REFUSED_COUNT : EntryDef :=
  ⟨0x2870, 1, 0x0D, 0x0D, .u32, .ro, .operator, .fixed, .val 0, .any, false⟩
/-- The rows of STITCH_GROUP. -/
def rows_STITCH_GROUP : List EntryDef :=
  [STITCH_GROUP_HIGHEST_SUB,
   STITCH_GROUP_HEAD_MASK,
   STITCH_GROUP_CANVAS_MASK,
   STITCH_GROUP_COMMIT,
   STITCH_GROUP_STATE,
   STITCH_GROUP_FTG,
   STITCH_GROUP_RECEIPT_S,
   STITCH_GROUP_RECEIPT_NS,
   STITCH_GROUP_ACK_S,
   STITCH_GROUP_ACK_NS,
   STITCH_GROUP_AIM_FRAME,
   STITCH_GROUP_LAND_FRAME,
   STITCH_GROUP_LATE_COUNT,
   STITCH_GROUP_REFUSED_COUNT]

/-- 0x2501:00 ROUTE_CONTROL HIGHEST_SUB (R157). -/
abbrev ROUTE_CONTROL_HIGHEST_SUB : EntryDef :=
  ⟨0x2501, 1, 0x00, 0x00, .u8, .const, .operator, .fixed, .val 0x4f, .any, false⟩
/-- 0x2501:01 ROUTE_CONTROL TABLE_WINDOW (R157). -/
abbrev ROUTE_CONTROL_TABLE_WINDOW : EntryDef :=
  ⟨0x2501, 1, 0x01, 0x01, .u16, .rw, .operator, .live, .val 0, .within 0 16383, false⟩
/-- 0x2501:02 ROUTE_CONTROL SWITCH_OUTPUT (R157). -/
abbrev ROUTE_CONTROL_SWITCH_OUTPUT : EntryDef :=
  ⟨0x2501, 1, 0x02, 0x02, .u16, .rw, .operator, .live, .val 0, .within 0 8191, false⟩
/-- 0x2501:03 ROUTE_CONTROL SWITCH_ENTRY (R157). -/
abbrev ROUTE_CONTROL_SWITCH_ENTRY : EntryDef :=
  ⟨0x2501, 1, 0x03, 0x03, .u16, .rw, .operator, .live, .val 0xffff, .withinOr 0 16383 [65535], false⟩
/-- 0x2501:04 ROUTE_CONTROL SWITCH_AT_S (R157). -/
abbrev ROUTE_CONTROL_SWITCH_AT_S : EntryDef :=
  ⟨0x2501, 1, 0x04, 0x04, .u64, .rw, .operator, .live, .val 0, .any, false⟩
/-- 0x2501:05 ROUTE_CONTROL SWITCH_AT_NS (R157). -/
abbrev ROUTE_CONTROL_SWITCH_AT_NS : EntryDef :=
  ⟨0x2501, 1, 0x05, 0x05, .u32, .rw, .operator, .live, .val 0, .within 0 999999999, false⟩
/-- 0x2501:06 ROUTE_CONTROL SWITCH (R157). -/
abbrev ROUTE_CONTROL_SWITCH : EntryDef :=
  ⟨0x2501, 1, 0x06, 0x06, .u8, .wo, .operator, .live, .val 0, .oneOf [1], false⟩
/-- 0x2501:07 ROUTE_CONTROL WINDOW_LINES (R157). -/
abbrev ROUTE_CONTROL_WINDOW_LINES : EntryDef :=
  ⟨0x2501, 1, 0x07, 0x07, .u16, .rw, .integrator, .live, .val 64, .within 0 1024, true⟩
/-- 0x2501:08 ROUTE_CONTROL ACTIVE_ENTRIES (R157). -/
abbrev ROUTE_CONTROL_ACTIVE_ENTRIES : EntryDef :=
  ⟨0x2501, 1, 0x08, 0x08, .u16, .ro, .operator, .fixed, .val 0, .any, false⟩
/-- 0x2501:09 ROUTE_CONTROL PENDING_SWITCHES (R157). -/
abbrev ROUTE_CONTROL_PENDING_SWITCHES : EntryDef :=
  ⟨0x2501, 1, 0x09, 0x09, .u16, .ro, .operator, .fixed, .val 0, .any, false⟩
/-- 0x2501:0A ROUTE_CONTROL CLEAN_SWITCHES (R157). -/
abbrev ROUTE_CONTROL_CLEAN_SWITCHES : EntryDef :=
  ⟨0x2501, 1, 0x0A, 0x0A, .u32, .ro, .operator, .fixed, .val 0, .any, false⟩
/-- 0x2501:0B ROUTE_CONTROL ROUGH_SWITCHES (R157). -/
abbrev ROUTE_CONTROL_ROUGH_SWITCHES : EntryDef :=
  ⟨0x2501, 1, 0x0B, 0x0B, .u32, .ro, .operator, .fixed, .val 0, .any, false⟩
/-- 0x2501:0C ROUTE_CONTROL EGRESS_DROPS (R157). -/
abbrev ROUTE_CONTROL_EGRESS_DROPS : EntryDef :=
  ⟨0x2501, 1, 0x0C, 0x0C, .u64, .ro, .operator, .fixed, .val 0, .any, false⟩
/-- 0x2501:0D ROUTE_CONTROL OUTPUT_MAP (R157). -/
abbrev ROUTE_CONTROL_OUTPUT_MAP : EntryDef :=
  ⟨0x2501, 1, 0x0D, 0x0D, .domain, .ro, .operator, .fixed, .val 0, .length 0 4294967295, false⟩
/-- 0x2501:20–4F ROUTE_CONTROL RESERVE (R157). -/
abbrev ROUTE_CONTROL_RESERVE : EntryDef :=
  ⟨0x2501, 1, 0x20, 0x4F, .u16, .rw, .integrator, .live, .val 1000, .within 0 1000, true⟩
/-- The rows of ROUTE_CONTROL. -/
def rows_ROUTE_CONTROL : List EntryDef :=
  [ROUTE_CONTROL_HIGHEST_SUB,
   ROUTE_CONTROL_TABLE_WINDOW,
   ROUTE_CONTROL_SWITCH_OUTPUT,
   ROUTE_CONTROL_SWITCH_ENTRY,
   ROUTE_CONTROL_SWITCH_AT_S,
   ROUTE_CONTROL_SWITCH_AT_NS,
   ROUTE_CONTROL_SWITCH,
   ROUTE_CONTROL_WINDOW_LINES,
   ROUTE_CONTROL_ACTIVE_ENTRIES,
   ROUTE_CONTROL_PENDING_SWITCHES,
   ROUTE_CONTROL_CLEAN_SWITCHES,
   ROUTE_CONTROL_ROUGH_SWITCHES,
   ROUTE_CONTROL_EGRESS_DROPS,
   ROUTE_CONTROL_OUTPUT_MAP,
   ROUTE_CONTROL_RESERVE]

end Sys2Proof.Machine.Dict
end

