-- ==== Sys2Proof/Machine/DictStartup.lean ====
section
/-! DEFINITION. The dictionary entries of the spec's chapter 18, one definition per row of its tables,
written from those tables (R396). -/
namespace Sys2Proof.Machine.Dict

/-- 0x2000:00 DEVICE_STATE HIGHEST_SUB (R495). -/
abbrev DEVICE_STATE_HIGHEST_SUB : EntryDef :=
  ⟨0x2000, 1, 0x00, 0x00, .u8, .const, .operator, .fixed, .val 0xf, .any, false⟩
/-- 0x2000:01 DEVICE_STATE STATE (R495). -/
abbrev DEVICE_STATE_STATE : EntryDef :=
  ⟨0x2000, 1, 0x01, 0x01, .u8, .ro, .operator, .fixed, .val 1, .any, false⟩
/-- 0x2000:02 DEVICE_STATE REQUEST (R495). -/
abbrev DEVICE_STATE_REQUEST : EntryDef :=
  ⟨0x2000, 1, 0x02, 0x02, .u8, .wo, .integrator, .live, .val 0, .oneOf [3, 4, 5], false⟩
/-- 0x2000:03 DEVICE_STATE AUTO_RUN (R495). -/
abbrev DEVICE_STATE_AUTO_RUN : EntryDef :=
  ⟨0x2000, 1, 0x03, 0x03, .bool, .rw, .integrator, .live, .val 0, .within 0 1, true⟩
/-- 0x2000:04 DEVICE_STATE AUTO_RUN_WAIT (R495). -/
abbrev DEVICE_STATE_AUTO_RUN_WAIT : EntryDef :=
  ⟨0x2000, 1, 0x04, 0x04, .u8, .rw, .integrator, .live, .val 0, .oneOf [0, 1], true⟩
/-- 0x2000:05 DEVICE_STATE AUTO_RUN_TIMEOUT (R495). -/
abbrev DEVICE_STATE_AUTO_RUN_TIMEOUT : EntryDef :=
  ⟨0x2000, 1, 0x05, 0x05, .u16, .rw, .integrator, .live, .val 30, .within 1 600, true⟩
/-- 0x2000:06 DEVICE_STATE STRAPS (R495). -/
abbrev DEVICE_STATE_STRAPS : EntryDef :=
  ⟨0x2000, 1, 0x06, 0x06, .u16, .ro, .operator, .fixed, .val 0, .any, false⟩
/-- 0x2000:07 DEVICE_STATE BOOT_CAUSE (R495). -/
abbrev DEVICE_STATE_BOOT_CAUSE : EntryDef :=
  ⟨0x2000, 1, 0x07, 0x07, .u8, .ro, .operator, .fixed, .val 0, .any, false⟩
/-- 0x2000:08 DEVICE_STATE RESET (R495). -/
abbrev DEVICE_STATE_RESET : EntryDef :=
  ⟨0x2000, 1, 0x08, 0x08, .u8, .wo, .integrator, .live, .val 0, .oneOf [1], false⟩
/-- 0x2000:09 DEVICE_STATE CONFIG_SOURCE (R495). -/
abbrev DEVICE_STATE_CONFIG_SOURCE : EntryDef :=
  ⟨0x2000, 1, 0x09, 0x09, .u8, .ro, .operator, .fixed, .val 0, .any, false⟩
/-- 0x2000:0A DEVICE_STATE START_TIMES (R495). -/
abbrev DEVICE_STATE_START_TIMES : EntryDef :=
  ⟨0x2000, 1, 0x0A, 0x0A, .domain, .ro, .operator, .fixed, .val 0, .length 0 4294967295, false⟩
/-- 0x2000:0B DEVICE_STATE SAFE_TEMP (R495). -/
abbrev DEVICE_STATE_SAFE_TEMP : EntryDef :=
  ⟨0x2000, 1, 0x0B, 0x0B, .u8, .rw, .integrator, .live, .val 110, .within 100 112, true⟩
/-- 0x2000:0C DEVICE_STATE SAFE_CAUSE (R495). -/
abbrev DEVICE_STATE_SAFE_CAUSE : EntryDef :=
  ⟨0x2000, 1, 0x0C, 0x0C, .u8, .ro, .operator, .fixed, .val 0, .any, false⟩
/-- 0x2000:0D DEVICE_STATE STATE_CHANGES (R495). -/
abbrev DEVICE_STATE_STATE_CHANGES : EntryDef :=
  ⟨0x2000, 1, 0x0D, 0x0D, .u32, .ro, .operator, .fixed, .val 0, .any, false⟩
/-- 0x2000:0E DEVICE_STATE FULL_BIST (R495). -/
abbrev DEVICE_STATE_FULL_BIST : EntryDef :=
  ⟨0x2000, 1, 0x0E, 0x0E, .u8, .wo, .integrator, .live, .val 0, .oneOf [1], false⟩
/-- 0x2000:0F DEVICE_STATE BIST_FAILURES (R495). -/
abbrev DEVICE_STATE_BIST_FAILURES : EntryDef :=
  ⟨0x2000, 1, 0x0F, 0x0F, .domain, .ro, .operator, .fixed, .val 0, .length 0 4294967295, false⟩
/-- The rows of DEVICE_STATE. -/
def rows_DEVICE_STATE : List EntryDef :=
  [DEVICE_STATE_HIGHEST_SUB,
   DEVICE_STATE_STATE,
   DEVICE_STATE_REQUEST,
   DEVICE_STATE_AUTO_RUN,
   DEVICE_STATE_AUTO_RUN_WAIT,
   DEVICE_STATE_AUTO_RUN_TIMEOUT,
   DEVICE_STATE_STRAPS,
   DEVICE_STATE_BOOT_CAUSE,
   DEVICE_STATE_RESET,
   DEVICE_STATE_CONFIG_SOURCE,
   DEVICE_STATE_START_TIMES,
   DEVICE_STATE_SAFE_TEMP,
   DEVICE_STATE_SAFE_CAUSE,
   DEVICE_STATE_STATE_CHANGES,
   DEVICE_STATE_FULL_BIST,
   DEVICE_STATE_BIST_FAILURES]

end Sys2Proof.Machine.Dict
end

