-- ==== Sys2Proof/Machine/DictTileLink.lean ====
section
/-! DEFINITION. The dictionary entries of the spec's chapter 09, one definition per row of its tables,
written from those tables (R396). -/
namespace Sys2Proof.Machine.Dict

/-- 0x2E00:00 TILE_MAP HIGHEST_SUB (R268). -/
abbrev TILE_MAP_HIGHEST_SUB : EntryDef :=
  ⟨0x2E00, 1, 0x00, 0x00, .u8, .const, .operator, .fixed, .val 1, .any, false⟩
/-- 0x2E00:01 TILE_MAP DATA (R268). -/
abbrev TILE_MAP_DATA : EntryDef :=
  ⟨0x2E00, 1, 0x01, 0x01, .domain, .rw, .integrator, .stitch, .val 0, .length 0 16384, true⟩
/-- The rows of TILE_MAP. -/
def rows_TILE_MAP : List EntryDef :=
  [TILE_MAP_HIGHEST_SUB,
   TILE_MAP_DATA]

/-- 0x2E20:00 CALIBRATION HIGHEST_SUB (R273). -/
abbrev CALIBRATION_HIGHEST_SUB : EntryDef :=
  ⟨0x2E20, 1, 0x00, 0x00, .u8, .const, .operator, .fixed, .val 1, .any, false⟩
/-- 0x2E20:01 CALIBRATION DATA (R273). -/
abbrev CALIBRATION_DATA : EntryDef :=
  ⟨0x2E20, 1, 0x01, 0x01, .domain, .rw, .integrator, .stitch, .val 0, .length 0 12288, true⟩
/-- The rows of CALIBRATION. -/
def rows_CALIBRATION : List EntryDef :=
  [CALIBRATION_HIGHEST_SUB,
   CALIBRATION_DATA]

/-- 0x2E01:00 TILE_MAP_CONTROL HIGHEST_SUB (R288). -/
abbrev TILE_MAP_CONTROL_HIGHEST_SUB : EntryDef :=
  ⟨0x2E01, 1, 0x00, 0x00, .u8, .const, .operator, .fixed, .val 0x7, .any, false⟩
/-- 0x2E01:01 TILE_MAP_CONTROL MAP_WINDOW (R288). -/
abbrev TILE_MAP_CONTROL_MAP_WINDOW : EntryDef :=
  ⟨0x2E01, 1, 0x01, 0x01, .u16, .rw, .operator, .live, .val 0, .within 0 65535, false⟩
/-- 0x2E01:02 TILE_MAP_CONTROL CALIB_WINDOW (R288). -/
abbrev TILE_MAP_CONTROL_CALIB_WINDOW : EntryDef :=
  ⟨0x2E01, 1, 0x02, 0x02, .u16, .rw, .operator, .live, .val 0, .within 0 65535, false⟩
/-- 0x2E01:03 TILE_MAP_CONTROL READ_IN_FORCE (R288). -/
abbrev TILE_MAP_CONTROL_READ_IN_FORCE : EntryDef :=
  ⟨0x2E01, 1, 0x03, 0x03, .bool, .rw, .operator, .live, .val 0, .within 0 1, false⟩
/-- 0x2E01:04 TILE_MAP_CONTROL MAP_VALID (R288). -/
abbrev TILE_MAP_CONTROL_MAP_VALID : EntryDef :=
  ⟨0x2E01, 1, 0x04, 0x04, .u32, .ro, .operator, .fixed, .val 0, .any, false⟩
/-- 0x2E01:05 TILE_MAP_CONTROL DIRTY_HEADS (R288). -/
abbrev TILE_MAP_CONTROL_DIRTY_HEADS : EntryDef :=
  ⟨0x2E01, 1, 0x05, 0x05, .u32, .ro, .operator, .fixed, .val 0, .any, false⟩
/-- 0x2E01:06 TILE_MAP_CONTROL LAST_BAD_ENTRY (R288). -/
abbrev TILE_MAP_CONTROL_LAST_BAD_ENTRY : EntryDef :=
  ⟨0x2E01, 1, 0x06, 0x06, .u32, .ro, .operator, .fixed, .val 0xffffffff, .any, false⟩
/-- 0x2E01:07 TILE_MAP_CONTROL SKIPPED (R288). -/
abbrev TILE_MAP_CONTROL_SKIPPED : EntryDef :=
  ⟨0x2E01, 1, 0x07, 0x07, .u32, .ro, .operator, .fixed, .val 0, .any, false⟩
/-- The rows of TILE_MAP_CONTROL. -/
def rows_TILE_MAP_CONTROL : List EntryDef :=
  [TILE_MAP_CONTROL_HIGHEST_SUB,
   TILE_MAP_CONTROL_MAP_WINDOW,
   TILE_MAP_CONTROL_CALIB_WINDOW,
   TILE_MAP_CONTROL_READ_IN_FORCE,
   TILE_MAP_CONTROL_MAP_VALID,
   TILE_MAP_CONTROL_DIRTY_HEADS,
   TILE_MAP_CONTROL_LAST_BAD_ENTRY,
   TILE_MAP_CONTROL_SKIPPED]

/-- 0x2E10:00 PTL HIGHEST_SUB (R289). -/
abbrev PTL_HIGHEST_SUB : EntryDef :=
  ⟨0x2E10, 1, 0x00, 0x00, .u8, .const, .operator, .fixed, .val 0x7f, .any, false⟩
/-- 0x2E10:01 PTL KEY_SLOT (R289). -/
abbrev PTL_KEY_SLOT : EntryDef :=
  ⟨0x2E10, 1, 0x01, 0x01, .u8, .rw, .integrator, .live, .val 0xff, .withinOr 0 71 [255], true⟩
/-- 0x2E10:02 PTL REKEY (R289). -/
abbrev PTL_REKEY : EntryDef :=
  ⟨0x2E10, 1, 0x02, 0x02, .u8, .wo, .integrator, .live, .val 0, .oneOf [1], false⟩
/-- 0x2E10:03 PTL KEY_EPOCH (R289). -/
abbrev PTL_KEY_EPOCH : EntryDef :=
  ⟨0x2E10, 1, 0x03, 0x03, .u8, .ro, .operator, .fixed, .val 0, .any, false⟩
/-- 0x2E10:04 PTL KEY_STATE (R289). -/
abbrev PTL_KEY_STATE : EntryDef :=
  ⟨0x2E10, 1, 0x04, 0x04, .u8, .ro, .operator, .fixed, .val 0, .any, false⟩
/-- 0x2E10:05 PTL LEAD (R289). -/
abbrev PTL_LEAD : EntryDef :=
  ⟨0x2E10, 1, 0x05, 0x05, .u8, .rw, .integrator, .halt, .val 8, .within 1 16, true⟩
/-- 0x2E10:06 PTL LINK_ALLOWANCE (R289). -/
abbrev PTL_LINK_ALLOWANCE : EntryDef :=
  ⟨0x2E10, 1, 0x06, 0x06, .u16, .rw, .integrator, .halt, .val 20, .within 0 1000, true⟩
/-- 0x2E10:07 PTL HEARTBEAT_INTERVAL (R289). -/
abbrev PTL_HEARTBEAT_INTERVAL : EntryDef :=
  ⟨0x2E10, 1, 0x07, 0x07, .u16, .rw, .integrator, .live, .val 100, .within 10 1000, true⟩
/-- 0x2E10:08 PTL STATUS_TIMEOUT (R289). -/
abbrev PTL_STATUS_TIMEOUT : EntryDef :=
  ⟨0x2E10, 1, 0x08, 0x08, .u16, .rw, .integrator, .live, .val 300, .within 30 10000, true⟩
/-- 0x2E10:09 PTL TAKEOVER_ON_DEGRADE (R289). -/
abbrev PTL_TAKEOVER_ON_DEGRADE : EntryDef :=
  ⟨0x2E10, 1, 0x09, 0x09, .bool, .rw, .integrator, .live, .val 0, .within 0 1, true⟩
/-- 0x2E10:0A PTL BEACON_MAC (R289). -/
abbrev PTL_BEACON_MAC : EntryDef :=
  ⟨0x2E10, 1, 0x0A, 0x0A, .u64, .rw, .integrator, .halt, .val 0x300000088b5, .multicast, true⟩
/-- 0x2E10:0B PTL CONTROL_TILE (R289). -/
abbrev PTL_CONTROL_TILE : EntryDef :=
  ⟨0x2E10, 1, 0x0B, 0x0B, .u16, .rw, .operator, .live, .val 0xffff, .withinOr 0 65534 [65535], false⟩
/-- 0x2E10:0C PTL CONTROL_PORT (R289). -/
abbrev PTL_CONTROL_PORT : EntryDef :=
  ⟨0x2E10, 1, 0x0C, 0x0C, .u8, .rw, .operator, .live, .val 0, .within 0 47, false⟩
/-- 0x2E10:0D PTL CONTROL_TX (R289). -/
abbrev PTL_CONTROL_TX : EntryDef :=
  ⟨0x2E10, 1, 0x0D, 0x0D, .domain, .wo, .integrator, .live, .val 0, .length 1 1024, false⟩
/-- 0x2E10:0E PTL TILE_WINDOW (R289). -/
abbrev PTL_TILE_WINDOW : EntryDef :=
  ⟨0x2E10, 1, 0x0E, 0x0E, .u16, .rw, .operator, .live, .val 0, .within 0 65535, false⟩
/-- 0x2E10:0F PTL TILE_STATUS (R289). -/
abbrev PTL_TILE_STATUS : EntryDef :=
  ⟨0x2E10, 1, 0x0F, 0x0F, .domain, .ro, .operator, .fixed, .val 0, .length 0 4294967295, false⟩
/-- 0x2E10:10 PTL TILES_PRESENT (R289). -/
abbrev PTL_TILES_PRESENT : EntryDef :=
  ⟨0x2E10, 1, 0x10, 0x10, .u32, .ro, .operator, .fixed, .val 0, .any, false⟩
/-- 0x2E10:11 PTL TILES_MISSING (R289). -/
abbrev PTL_TILES_MISSING : EntryDef :=
  ⟨0x2E10, 1, 0x11, 0x11, .u32, .ro, .operator, .fixed, .val 0, .any, false⟩
/-- 0x2E10:12 PTL AUTH_REJECTS (R289). -/
abbrev PTL_AUTH_REJECTS : EntryDef :=
  ⟨0x2E10, 1, 0x12, 0x12, .u32, .ro, .operator, .fixed, .val 0, .any, false⟩
/-- 0x2E10:13 PTL CONTROL_SENT (R289). -/
abbrev PTL_CONTROL_SENT : EntryDef :=
  ⟨0x2E10, 1, 0x13, 0x13, .u32, .ro, .operator, .fixed, .val 0, .any, false⟩
/-- 0x2E10:20–4F PTL GENERATION (R289). -/
abbrev PTL_GENERATION : EntryDef :=
  ⟨0x2E10, 1, 0x20, 0x4F, .u8, .rw, .integrator, .halt, .val 0, .oneOf [0, 1, 2], true⟩
/-- 0x2E10:50–7F PTL TAKEOVERS (R289). -/
abbrev PTL_TAKEOVERS : EntryDef :=
  ⟨0x2E10, 1, 0x50, 0x7F, .u32, .ro, .operator, .fixed, .val 0, .any, false⟩
/-- The rows of PTL. -/
def rows_PTL : List EntryDef :=
  [PTL_HIGHEST_SUB,
   PTL_KEY_SLOT,
   PTL_REKEY,
   PTL_KEY_EPOCH,
   PTL_KEY_STATE,
   PTL_LEAD,
   PTL_LINK_ALLOWANCE,
   PTL_HEARTBEAT_INTERVAL,
   PTL_STATUS_TIMEOUT,
   PTL_TAKEOVER_ON_DEGRADE,
   PTL_BEACON_MAC,
   PTL_CONTROL_TILE,
   PTL_CONTROL_PORT,
   PTL_CONTROL_TX,
   PTL_TILE_WINDOW,
   PTL_TILE_STATUS,
   PTL_TILES_PRESENT,
   PTL_TILES_MISSING,
   PTL_AUTH_REJECTS,
   PTL_CONTROL_SENT,
   PTL_GENERATION,
   PTL_TAKEOVERS]

end Sys2Proof.Machine.Dict
end

