-- ==== Sys2Proof/Machine/DictTransports.lean ====
section
/-! DEFINITION. The dictionary entries of the spec's chapter 14, one definition per row of its tables,
written from those tables (R396). -/
namespace Sys2Proof.Machine.Dict

/-- 0x1000:00 DEVICE_TYPE HIGHEST_SUB (R396). -/
abbrev DEVICE_TYPE_HIGHEST_SUB : EntryDef :=
  ⟨0x1000, 1, 0x00, 0x00, .u8, .const, .operator, .fixed, .val 1, .any, false⟩
/-- 0x1000:01 DEVICE_TYPE VALUE (R409; its sub-index is DEDUCED, log 35). -/
abbrev DEVICE_TYPE_VALUE : EntryDef :=
  ⟨0x1000, 1, 0x01, 0x01, .u32, .const, .operator, .fixed, .val 0, .any, false⟩
/-- The rows of DEVICE_TYPE. -/
def rows_DEVICE_TYPE : List EntryDef :=
  [DEVICE_TYPE_HIGHEST_SUB, DEVICE_TYPE_VALUE]

/-- 0x1001:00 ERROR_REGISTER HIGHEST_SUB (R396). -/
abbrev ERROR_REGISTER_HIGHEST_SUB : EntryDef :=
  ⟨0x1001, 1, 0x00, 0x00, .u8, .const, .operator, .fixed, .val 1, .any, false⟩
/-- 0x1001:01 ERROR_REGISTER VALUE (R409; its sub-index is DEDUCED, log 35). -/
abbrev ERROR_REGISTER_VALUE : EntryDef :=
  ⟨0x1001, 1, 0x01, 0x01, .u8, .ro, .operator, .fixed, .val 0, .any, false⟩
/-- The rows of ERROR_REGISTER. -/
def rows_ERROR_REGISTER : List EntryDef :=
  [ERROR_REGISTER_HIGHEST_SUB, ERROR_REGISTER_VALUE]

/-- 0x1005:00 COB_ID_SYNC HIGHEST_SUB (R396). -/
abbrev COB_ID_SYNC_HIGHEST_SUB : EntryDef :=
  ⟨0x1005, 1, 0x00, 0x00, .u8, .const, .operator, .fixed, .val 1, .any, false⟩
/-- 0x1005:01 COB_ID_SYNC VALUE (R409; its sub-index is DEDUCED, log 35). -/
abbrev COB_ID_SYNC_VALUE : EntryDef :=
  ⟨0x1005, 1, 0x01, 0x01, .u32, .rw, .integrator, .live, .val 0x80000080, .any, true⟩
/-- The rows of COB_ID_SYNC. -/
def rows_COB_ID_SYNC : List EntryDef :=
  [COB_ID_SYNC_HIGHEST_SUB, COB_ID_SYNC_VALUE]

/-- 0x1008:00 DEVICE_NAME HIGHEST_SUB (R396). -/
abbrev DEVICE_NAME_HIGHEST_SUB : EntryDef :=
  ⟨0x1008, 1, 0x00, 0x00, .u8, .const, .operator, .fixed, .val 1, .any, false⟩
/-- 0x1008:01 DEVICE_NAME VALUE (R409; its sub-index is DEDUCED, log 35). -/
abbrev DEVICE_NAME_VALUE : EntryDef :=
  ⟨0x1008, 1, 0x01, 0x01, .vstr, .const, .operator, .fixed, .val 0, .length 0 4294967295, false⟩
/-- The rows of DEVICE_NAME. -/
def rows_DEVICE_NAME : List EntryDef :=
  [DEVICE_NAME_HIGHEST_SUB, DEVICE_NAME_VALUE]

/-- 0x1009:00 HW_VERSION HIGHEST_SUB (R396). -/
abbrev HW_VERSION_HIGHEST_SUB : EntryDef :=
  ⟨0x1009, 1, 0x00, 0x00, .u8, .const, .operator, .fixed, .val 1, .any, false⟩
/-- 0x1009:01 HW_VERSION VALUE (R409; its sub-index is DEDUCED, log 35). -/
abbrev HW_VERSION_VALUE : EntryDef :=
  ⟨0x1009, 1, 0x01, 0x01, .vstr, .const, .operator, .fixed, .val 0, .length 0 4294967295, false⟩
/-- The rows of HW_VERSION. -/
def rows_HW_VERSION : List EntryDef :=
  [HW_VERSION_HIGHEST_SUB, HW_VERSION_VALUE]

/-- 0x100A:00 SW_VERSION HIGHEST_SUB (R396). -/
abbrev SW_VERSION_HIGHEST_SUB : EntryDef :=
  ⟨0x100A, 1, 0x00, 0x00, .u8, .const, .operator, .fixed, .val 1, .any, false⟩
/-- 0x100A:01 SW_VERSION VALUE (R409; its sub-index is DEDUCED, log 35). -/
abbrev SW_VERSION_VALUE : EntryDef :=
  ⟨0x100A, 1, 0x01, 0x01, .vstr, .const, .operator, .fixed, .val 0, .length 0 4294967295, false⟩
/-- The rows of SW_VERSION. -/
def rows_SW_VERSION : List EntryDef :=
  [SW_VERSION_HIGHEST_SUB, SW_VERSION_VALUE]

/-- 0x1010:00 STORE_PARAMETERS HIGHEST_SUB (R409). -/
abbrev STORE_PARAMETERS_HIGHEST_SUB : EntryDef :=
  ⟨0x1010, 1, 0x00, 0x00, .u8, .const, .operator, .fixed, .val 3, .any, false⟩
/-- 0x1010:01–03 STORE_PARAMETERS SIGNATURE (R409). -/
abbrev STORE_PARAMETERS_SIGNATURE : EntryDef :=
  ⟨0x1010, 1, 0x01, 0x03, .u32, .rw, .integrator, .live, .val 1, .any, false⟩
/-- The rows of STORE_PARAMETERS. -/
def rows_STORE_PARAMETERS : List EntryDef :=
  [STORE_PARAMETERS_HIGHEST_SUB,
   STORE_PARAMETERS_SIGNATURE]

/-- 0x1011:00 RESTORE_PARAMETERS HIGHEST_SUB (R409). -/
abbrev RESTORE_PARAMETERS_HIGHEST_SUB : EntryDef :=
  ⟨0x1011, 1, 0x00, 0x00, .u8, .const, .operator, .fixed, .val 3, .any, false⟩
/-- 0x1011:01–03 RESTORE_PARAMETERS SIGNATURE (R409). -/
abbrev RESTORE_PARAMETERS_SIGNATURE : EntryDef :=
  ⟨0x1011, 1, 0x01, 0x03, .u32, .rw, .integrator, .live, .val 1, .any, false⟩
/-- The rows of RESTORE_PARAMETERS. -/
def rows_RESTORE_PARAMETERS : List EntryDef :=
  [RESTORE_PARAMETERS_HIGHEST_SUB,
   RESTORE_PARAMETERS_SIGNATURE]

/-- 0x1015:00 INHIBIT_TIME_EMCY HIGHEST_SUB (R396). -/
abbrev INHIBIT_TIME_EMCY_HIGHEST_SUB : EntryDef :=
  ⟨0x1015, 1, 0x00, 0x00, .u8, .const, .operator, .fixed, .val 1, .any, false⟩
/-- 0x1015:01 INHIBIT_TIME_EMCY VALUE (R409; its sub-index is DEDUCED, log 35). -/
abbrev INHIBIT_TIME_EMCY_VALUE : EntryDef :=
  ⟨0x1015, 1, 0x01, 0x01, .u16, .rw, .integrator, .live, .val 0, .any, true⟩
/-- The rows of INHIBIT_TIME_EMCY. -/
def rows_INHIBIT_TIME_EMCY : List EntryDef :=
  [INHIBIT_TIME_EMCY_HIGHEST_SUB, INHIBIT_TIME_EMCY_VALUE]

/-- 0x1017:00 HEARTBEAT_TIME HIGHEST_SUB (R396). -/
abbrev HEARTBEAT_TIME_HIGHEST_SUB : EntryDef :=
  ⟨0x1017, 1, 0x00, 0x00, .u8, .const, .operator, .fixed, .val 1, .any, false⟩
/-- 0x1017:01 HEARTBEAT_TIME VALUE (R409; its sub-index is DEDUCED, log 35). -/
abbrev HEARTBEAT_TIME_VALUE : EntryDef :=
  ⟨0x1017, 1, 0x01, 0x01, .u16, .rw, .integrator, .live, .val 1000, .any, true⟩
/-- The rows of HEARTBEAT_TIME. -/
def rows_HEARTBEAT_TIME : List EntryDef :=
  [HEARTBEAT_TIME_HIGHEST_SUB, HEARTBEAT_TIME_VALUE]

/-- 0x1018:00 IDENTITY HIGHEST_SUB (R409). -/
abbrev IDENTITY_HIGHEST_SUB : EntryDef :=
  ⟨0x1018, 1, 0x00, 0x00, .u8, .const, .operator, .fixed, .val 4, .any, false⟩
/-- 0x1018:01 IDENTITY VENDOR_ID (R409). -/
abbrev IDENTITY_VENDOR_ID : EntryDef :=
  ⟨0x1018, 1, 0x01, 0x01, .u32, .const, .operator, .fixed, .config 0, .any, false⟩
/-- 0x1018:02 IDENTITY PRODUCT_CODE (R409). -/
abbrev IDENTITY_PRODUCT_CODE : EntryDef :=
  ⟨0x1018, 1, 0x02, 0x02, .u32, .const, .operator, .fixed, .val 0x6480, .any, false⟩
/-- 0x1018:03 IDENTITY REVISION (R409). -/
abbrev IDENTITY_REVISION : EntryDef :=
  ⟨0x1018, 1, 0x03, 0x03, .u32, .const, .operator, .fixed, .config 1, .any, false⟩
/-- 0x1018:04 IDENTITY SERIAL (R409). -/
abbrev IDENTITY_SERIAL : EntryDef :=
  ⟨0x1018, 1, 0x04, 0x04, .u32, .const, .operator, .fixed, .config 2, .any, false⟩
/-- The rows of IDENTITY. -/
def rows_IDENTITY : List EntryDef :=
  [IDENTITY_HIGHEST_SUB,
   IDENTITY_VENDOR_ID,
   IDENTITY_PRODUCT_CODE,
   IDENTITY_REVISION,
   IDENTITY_SERIAL]

/-- 0x1400 + n:00 RPDO HIGHEST_SUB (R409). -/
abbrev RPDO_HIGHEST_SUB : EntryDef :=
  ⟨0x1400, 8, 0x00, 0x00, .u8, .const, .operator, .fixed, .val 5, .any, false⟩
/-- 0x1400 + n:01 RPDO COB_ID (R409). -/
abbrev RPDO_COB_ID : EntryDef :=
  ⟨0x1400, 8, 0x01, 0x01, .u32, .rw, .integrator, .live, .val 0x80000000, .any, true⟩
/-- 0x1400 + n:02 RPDO TYPE (R409). -/
abbrev RPDO_TYPE : EntryDef :=
  ⟨0x1400, 8, 0x02, 0x02, .u8, .rw, .integrator, .live, .val 0xff, .any, true⟩
/-- 0x1400 + n:03 RPDO INHIBIT (R409). -/
abbrev RPDO_INHIBIT : EntryDef :=
  ⟨0x1400, 8, 0x03, 0x03, .u16, .rw, .integrator, .live, .val 0, .any, true⟩
/-- 0x1400 + n:05 RPDO EVENT_TIMER (R409). -/
abbrev RPDO_EVENT_TIMER : EntryDef :=
  ⟨0x1400, 8, 0x05, 0x05, .u16, .rw, .integrator, .live, .val 0, .any, true⟩
/-- The rows of RPDO. -/
def rows_RPDO : List EntryDef :=
  [RPDO_HIGHEST_SUB,
   RPDO_COB_ID,
   RPDO_TYPE,
   RPDO_INHIBIT,
   RPDO_EVENT_TIMER]

/-- 0x1600 + n:00 RPDO_MAP HIGHEST_SUB (R396). -/
abbrev RPDO_MAP_HIGHEST_SUB : EntryDef :=
  ⟨0x1600, 8, 0x00, 0x00, .u8, .const, .operator, .fixed, .val 64, .any, false⟩
/-- 0x1600 + n:01–40 RPDO_MAP ENTRY (R409). -/
abbrev RPDO_MAP_ENTRY : EntryDef :=
  ⟨0x1600, 8, 0x01, 0x40, .u32, .rw, .integrator, .live, .val 0, .any, true⟩
/-- The rows of RPDO_MAP. -/
def rows_RPDO_MAP : List EntryDef :=
  [RPDO_MAP_HIGHEST_SUB,
   RPDO_MAP_ENTRY]

/-- 0x1800 + n:00 TPDO HIGHEST_SUB (R409). -/
abbrev TPDO_HIGHEST_SUB : EntryDef :=
  ⟨0x1800, 8, 0x00, 0x00, .u8, .const, .operator, .fixed, .val 6, .any, false⟩
/-- 0x1800 + n:01 TPDO COB_ID (R409). -/
abbrev TPDO_COB_ID : EntryDef :=
  ⟨0x1800, 8, 0x01, 0x01, .u32, .rw, .integrator, .live, .val 0x80000000, .any, true⟩
/-- 0x1800 + n:02 TPDO TYPE (R409). -/
abbrev TPDO_TYPE : EntryDef :=
  ⟨0x1800, 8, 0x02, 0x02, .u8, .rw, .integrator, .live, .val 0xff, .any, true⟩
/-- 0x1800 + n:03 TPDO INHIBIT (R409). -/
abbrev TPDO_INHIBIT : EntryDef :=
  ⟨0x1800, 8, 0x03, 0x03, .u16, .rw, .integrator, .live, .val 0, .any, true⟩
/-- 0x1800 + n:05 TPDO EVENT_TIMER (R409). -/
abbrev TPDO_EVENT_TIMER : EntryDef :=
  ⟨0x1800, 8, 0x05, 0x05, .u16, .rw, .integrator, .live, .val 0, .any, true⟩
/-- 0x1800 + n:06 TPDO SYNC_START (R409). -/
abbrev TPDO_SYNC_START : EntryDef :=
  ⟨0x1800, 8, 0x06, 0x06, .u8, .rw, .integrator, .live, .val 0, .any, true⟩
/-- The rows of TPDO. -/
def rows_TPDO : List EntryDef :=
  [TPDO_HIGHEST_SUB,
   TPDO_COB_ID,
   TPDO_TYPE,
   TPDO_INHIBIT,
   TPDO_EVENT_TIMER,
   TPDO_SYNC_START]

/-- 0x1A00 + n:00 TPDO_MAP HIGHEST_SUB (R396). -/
abbrev TPDO_MAP_HIGHEST_SUB : EntryDef :=
  ⟨0x1A00, 8, 0x00, 0x00, .u8, .const, .operator, .fixed, .val 64, .any, false⟩
/-- 0x1A00 + n:01–40 TPDO_MAP ENTRY (R409). -/
abbrev TPDO_MAP_ENTRY : EntryDef :=
  ⟨0x1A00, 8, 0x01, 0x40, .u32, .rw, .integrator, .live, .val 0, .any, true⟩
/-- The rows of TPDO_MAP. -/
def rows_TPDO_MAP : List EntryDef :=
  [TPDO_MAP_HIGHEST_SUB,
   TPDO_MAP_ENTRY]

/-- 0x2002:00 SESSION_RIGHTS HIGHEST_SUB (R426). -/
abbrev SESSION_RIGHTS_HIGHEST_SUB : EntryDef :=
  ⟨0x2002, 1, 0x00, 0x00, .u8, .const, .none, .fixed, .val 0xa, .any, false⟩
/-- 0x2002:01 SESSION_RIGHTS RIGHTS (R426). -/
abbrev SESSION_RIGHTS_RIGHTS : EntryDef :=
  ⟨0x2002, 1, 0x01, 0x01, .u8, .ro, .none, .fixed, .val 0, .any, false⟩
/-- 0x2002:02 SESSION_RIGHTS SESSION (R426). -/
abbrev SESSION_RIGHTS_SESSION : EntryDef :=
  ⟨0x2002, 1, 0x02, 0x02, .u8, .ro, .none, .fixed, .val 0, .any, false⟩
/-- 0x2002:03 SESSION_RIGHTS AUTH_SLOT (R426). -/
abbrev SESSION_RIGHTS_AUTH_SLOT : EntryDef :=
  ⟨0x2002, 1, 0x03, 0x03, .u8, .rw, .none, .live, .val 0xff, .withinOr 0 71 [255], false⟩
/-- 0x2002:04 SESSION_RIGHTS AUTH_RIGHTS (R426). -/
abbrev SESSION_RIGHTS_AUTH_RIGHTS : EntryDef :=
  ⟨0x2002, 1, 0x04, 0x04, .u8, .rw, .none, .live, .val 2, .within 1 3, false⟩
/-- 0x2002:05 SESSION_RIGHTS CLIENT_NONCE (R426). -/
abbrev SESSION_RIGHTS_CLIENT_NONCE : EntryDef :=
  ⟨0x2002, 1, 0x05, 0x05, .domain, .wo, .none, .live, .val 0, .length 16 16, false⟩
/-- 0x2002:06 SESSION_RIGHTS DEVICE_NONCE (R426). -/
abbrev SESSION_RIGHTS_DEVICE_NONCE : EntryDef :=
  ⟨0x2002, 1, 0x06, 0x06, .domain, .ro, .none, .fixed, .val 0, .length 0 4294967295, false⟩
/-- 0x2002:07 SESSION_RIGHTS PROOF (R426). -/
abbrev SESSION_RIGHTS_PROOF : EntryDef :=
  ⟨0x2002, 1, 0x07, 0x07, .domain, .wo, .none, .live, .val 0, .length 16 16, false⟩
/-- 0x2002:08 SESSION_RIGHTS DEVICE_PROOF (R426). -/
abbrev SESSION_RIGHTS_DEVICE_PROOF : EntryDef :=
  ⟨0x2002, 1, 0x08, 0x08, .domain, .ro, .none, .fixed, .val 0, .length 0 4294967295, false⟩
/-- 0x2002:09 SESSION_RIGHTS DROP (R426). -/
abbrev SESSION_RIGHTS_DROP : EntryDef :=
  ⟨0x2002, 1, 0x09, 0x09, .u8, .wo, .none, .live, .val 0, .oneOf [1], false⟩
/-- 0x2002:0A SESSION_RIGHTS FAILURES (R426). -/
abbrev SESSION_RIGHTS_FAILURES : EntryDef :=
  ⟨0x2002, 1, 0x0A, 0x0A, .u8, .ro, .none, .fixed, .val 0, .any, false⟩
/-- The rows of SESSION_RIGHTS. -/
def rows_SESSION_RIGHTS : List EntryDef :=
  [SESSION_RIGHTS_HIGHEST_SUB,
   SESSION_RIGHTS_RIGHTS,
   SESSION_RIGHTS_SESSION,
   SESSION_RIGHTS_AUTH_SLOT,
   SESSION_RIGHTS_AUTH_RIGHTS,
   SESSION_RIGHTS_CLIENT_NONCE,
   SESSION_RIGHTS_DEVICE_NONCE,
   SESSION_RIGHTS_PROOF,
   SESSION_RIGHTS_DEVICE_PROOF,
   SESSION_RIGHTS_DROP,
   SESSION_RIGHTS_FAILURES]

/-- 0x2003:00 LAST_REFUSAL HIGHEST_SUB (R427). -/
abbrev LAST_REFUSAL_HIGHEST_SUB : EntryDef :=
  ⟨0x2003, 1, 0x00, 0x00, .u8, .const, .none, .fixed, .val 0xb, .any, false⟩
/-- 0x2003:01 LAST_REFUSAL INDEX (R427). -/
abbrev LAST_REFUSAL_INDEX : EntryDef :=
  ⟨0x2003, 1, 0x01, 0x01, .u16, .ro, .none, .fixed, .val 0, .any, false⟩
/-- 0x2003:02 LAST_REFUSAL SUB (R427). -/
abbrev LAST_REFUSAL_SUB : EntryDef :=
  ⟨0x2003, 1, 0x02, 0x02, .u8, .ro, .none, .fixed, .val 0, .any, false⟩
/-- 0x2003:03 LAST_REFUSAL ABORT (R427). -/
abbrev LAST_REFUSAL_ABORT : EntryDef :=
  ⟨0x2003, 1, 0x03, 0x03, .u32, .ro, .none, .fixed, .val 0, .any, false⟩
/-- 0x2003:04 LAST_REFUSAL DETAIL (R427). -/
abbrev LAST_REFUSAL_DETAIL : EntryDef :=
  ⟨0x2003, 1, 0x04, 0x04, .u16, .ro, .none, .fixed, .val 0, .any, false⟩
/-- 0x2003:05 LAST_REFUSAL FIELD_INDEX (R427). -/
abbrev LAST_REFUSAL_FIELD_INDEX : EntryDef :=
  ⟨0x2003, 1, 0x05, 0x05, .u16, .ro, .none, .fixed, .val 0, .any, false⟩
/-- 0x2003:06 LAST_REFUSAL FIELD_SUB (R427). -/
abbrev LAST_REFUSAL_FIELD_SUB : EntryDef :=
  ⟨0x2003, 1, 0x06, 0x06, .u8, .ro, .none, .fixed, .val 0, .any, false⟩
/-- 0x2003:07 LAST_REFUSAL ENTRY (R427). -/
abbrev LAST_REFUSAL_ENTRY : EntryDef :=
  ⟨0x2003, 1, 0x07, 0x07, .u32, .ro, .none, .fixed, .val 0xffffffff, .any, false⟩
/-- 0x2003:08 LAST_REFUSAL TIME_S (R427). -/
abbrev LAST_REFUSAL_TIME_S : EntryDef :=
  ⟨0x2003, 1, 0x08, 0x08, .u64, .ro, .none, .fixed, .val 0, .any, false⟩
/-- 0x2003:09 LAST_REFUSAL TIME_NS (R427). -/
abbrev LAST_REFUSAL_TIME_NS : EntryDef :=
  ⟨0x2003, 1, 0x09, 0x09, .u32, .ro, .none, .fixed, .val 0, .any, false⟩
/-- 0x2003:0A LAST_REFUSAL COUNT (R427). -/
abbrev LAST_REFUSAL_COUNT : EntryDef :=
  ⟨0x2003, 1, 0x0A, 0x0A, .u32, .ro, .none, .fixed, .val 0, .any, false⟩
/-- 0x2003:0B LAST_REFUSAL CLEAR (R427). -/
abbrev LAST_REFUSAL_CLEAR : EntryDef :=
  ⟨0x2003, 1, 0x0B, 0x0B, .u8, .wo, .none, .live, .val 0, .oneOf [1], false⟩
/-- The rows of LAST_REFUSAL. -/
def rows_LAST_REFUSAL : List EntryDef :=
  [LAST_REFUSAL_HIGHEST_SUB,
   LAST_REFUSAL_INDEX,
   LAST_REFUSAL_SUB,
   LAST_REFUSAL_ABORT,
   LAST_REFUSAL_DETAIL,
   LAST_REFUSAL_FIELD_INDEX,
   LAST_REFUSAL_FIELD_SUB,
   LAST_REFUSAL_ENTRY,
   LAST_REFUSAL_TIME_S,
   LAST_REFUSAL_TIME_NS,
   LAST_REFUSAL_COUNT,
   LAST_REFUSAL_CLEAR]

/-- 0x2020:00 EVENT_QUEUE HIGHEST_SUB (R428). -/
abbrev EVENT_QUEUE_HIGHEST_SUB : EntryDef :=
  ⟨0x2020, 1, 0x00, 0x00, .u8, .const, .operator, .fixed, .val 0x10, .any, false⟩
/-- 0x2020:01 EVENT_QUEUE NEWEST_SEQ (R428). -/
abbrev EVENT_QUEUE_NEWEST_SEQ : EntryDef :=
  ⟨0x2020, 1, 0x01, 0x01, .u32, .ro, .operator, .fixed, .val 0, .any, false⟩
/-- 0x2020:02 EVENT_QUEUE OLDEST_SEQ (R428). -/
abbrev EVENT_QUEUE_OLDEST_SEQ : EntryDef :=
  ⟨0x2020, 1, 0x02, 0x02, .u32, .ro, .operator, .fixed, .val 0, .any, false⟩
/-- 0x2020:03 EVENT_QUEUE CURSOR (R428). -/
abbrev EVENT_QUEUE_CURSOR : EntryDef :=
  ⟨0x2020, 1, 0x03, 0x03, .u32, .rw, .operator, .live, .val 0, .any, false⟩
/-- 0x2020:04 EVENT_QUEUE MIN_SEVERITY (R428). -/
abbrev EVENT_QUEUE_MIN_SEVERITY : EntryDef :=
  ⟨0x2020, 1, 0x04, 0x04, .u8, .rw, .operator, .live, .val 1, .within 0 5, true⟩
/-- 0x2020:05 EVENT_QUEUE READ (R428). -/
abbrev EVENT_QUEUE_READ : EntryDef :=
  ⟨0x2020, 1, 0x05, 0x05, .domain, .ro, .operator, .fixed, .val 0, .length 0 4294967295, false⟩
/-- 0x2020:06 EVENT_QUEUE LOST (R428). -/
abbrev EVENT_QUEUE_LOST : EntryDef :=
  ⟨0x2020, 1, 0x06, 0x06, .u32, .ro, .operator, .fixed, .val 0, .any, false⟩
/-- 0x2020:07 EVENT_QUEUE EVT_N_SEVERITY (R428). -/
abbrev EVENT_QUEUE_EVT_N_SEVERITY : EntryDef :=
  ⟨0x2020, 1, 0x07, 0x07, .u8, .rw, .integrator, .live, .val 3, .within 0 5, true⟩
/-- 0x2020:08 EVENT_QUEUE EVT_N_ACK (R428). -/
abbrev EVENT_QUEUE_EVT_N_ACK : EntryDef :=
  ⟨0x2020, 1, 0x08, 0x08, .u8, .wo, .operator, .live, .val 0, .oneOf [1], false⟩
/-- 0x2020:09 EVENT_QUEUE EVT_N_STATE (R428). -/
abbrev EVENT_QUEUE_EVT_N_STATE : EntryDef :=
  ⟨0x2020, 1, 0x09, 0x09, .bool, .ro, .operator, .fixed, .val 0, .any, false⟩
/-- 0x2020:0A EVENT_QUEUE EVENT_MSIX_VECTOR (R428). -/
abbrev EVENT_QUEUE_EVENT_MSIX_VECTOR : EntryDef :=
  ⟨0x2020, 1, 0x0A, 0x0A, .u8, .rw, .operator, .live, .val 0xff, .withinOr 0 63 [255], true⟩
/-- 0x2020:0B EVENT_QUEUE HOST_RING_ENABLE (R428). -/
abbrev EVENT_QUEUE_HOST_RING_ENABLE : EntryDef :=
  ⟨0x2020, 1, 0x0B, 0x0B, .bool, .rw, .integrator, .live, .val 0, .within 0 1, true⟩
/-- 0x2020:0C EVENT_QUEUE HOST_RING_ADDR (R428). -/
abbrev EVENT_QUEUE_HOST_RING_ADDR : EntryDef :=
  ⟨0x2020, 1, 0x0C, 0x0C, .u64, .rw, .integrator, .halt, .val 0, .multiple 32, true⟩
/-- 0x2020:0D EVENT_QUEUE HOST_RING_ENTRIES (R428). -/
abbrev EVENT_QUEUE_HOST_RING_ENTRIES : EntryDef :=
  ⟨0x2020, 1, 0x0D, 0x0D, .u32, .rw, .integrator, .halt, .val 1024, .pow2 64 65536, true⟩
/-- 0x2020:0E EVENT_QUEUE HOST_RING_CONTROL (R428). -/
abbrev EVENT_QUEUE_HOST_RING_CONTROL : EntryDef :=
  ⟨0x2020, 1, 0x0E, 0x0E, .u64, .rw, .integrator, .halt, .val 0, .multiple 8, true⟩
/-- 0x2020:0F EVENT_QUEUE HOST_RING_SEVERITY (R428). -/
abbrev EVENT_QUEUE_HOST_RING_SEVERITY : EntryDef :=
  ⟨0x2020, 1, 0x0F, 0x0F, .u8, .rw, .integrator, .halt, .val 2, .within 0 5, true⟩
/-- 0x2020:10 EVENT_QUEUE HOST_RING_DROPPED (R428). -/
abbrev EVENT_QUEUE_HOST_RING_DROPPED : EntryDef :=
  ⟨0x2020, 1, 0x10, 0x10, .u32, .ro, .operator, .fixed, .val 0, .any, false⟩
/-- The rows of EVENT_QUEUE. -/
def rows_EVENT_QUEUE : List EntryDef :=
  [EVENT_QUEUE_HIGHEST_SUB,
   EVENT_QUEUE_NEWEST_SEQ,
   EVENT_QUEUE_OLDEST_SEQ,
   EVENT_QUEUE_CURSOR,
   EVENT_QUEUE_MIN_SEVERITY,
   EVENT_QUEUE_READ,
   EVENT_QUEUE_LOST,
   EVENT_QUEUE_EVT_N_SEVERITY,
   EVENT_QUEUE_EVT_N_ACK,
   EVENT_QUEUE_EVT_N_STATE,
   EVENT_QUEUE_EVENT_MSIX_VECTOR,
   EVENT_QUEUE_HOST_RING_ENABLE,
   EVENT_QUEUE_HOST_RING_ADDR,
   EVENT_QUEUE_HOST_RING_ENTRIES,
   EVENT_QUEUE_HOST_RING_CONTROL,
   EVENT_QUEUE_HOST_RING_SEVERITY,
   EVENT_QUEUE_HOST_RING_DROPPED]

/-- 0x2270:20 MANAGEMENT UDP_ENABLE (R429). -/
abbrev MANAGEMENT_UDP_ENABLE : EntryDef :=
  ⟨0x2270, 1, 0x20, 0x20, .bool, .rw, .integrator, .halt, .val 1, .within 0 1, true⟩
/-- 0x2270:21 MANAGEMENT UDP_PORT (R429). -/
abbrev MANAGEMENT_UDP_PORT : EntryDef :=
  ⟨0x2270, 1, 0x21, 0x21, .u16, .rw, .integrator, .halt, .val 49460, .within 1 65535, true⟩
/-- 0x2270:22 MANAGEMENT IP_ADDRESS (R429). -/
abbrev MANAGEMENT_IP_ADDRESS : EntryDef :=
  ⟨0x2270, 1, 0x22, 0x22, .u32, .rw, .integrator, .halt, .val 0xc0a80a64, .any, true⟩
/-- 0x2270:23 MANAGEMENT IP_NETMASK (R429). -/
abbrev MANAGEMENT_IP_NETMASK : EntryDef :=
  ⟨0x2270, 1, 0x23, 0x23, .u32, .rw, .integrator, .halt, .val 0xffffff00, .any, true⟩
/-- 0x2270:24 MANAGEMENT IP_GATEWAY (R429). -/
abbrev MANAGEMENT_IP_GATEWAY : EntryDef :=
  ⟨0x2270, 1, 0x24, 0x24, .u32, .rw, .integrator, .halt, .val 0, .any, true⟩
/-- 0x2270:25 MANAGEMENT UDP_IDLE_TIMEOUT (R429). -/
abbrev MANAGEMENT_UDP_IDLE_TIMEOUT : EntryDef :=
  ⟨0x2270, 1, 0x25, 0x25, .u16, .rw, .integrator, .live, .val 60, .within 10 3600, true⟩
/-- 0x2270:26 MANAGEMENT UDP_SESSIONS (R429). -/
abbrev MANAGEMENT_UDP_SESSIONS : EntryDef :=
  ⟨0x2270, 1, 0x26, 0x26, .u8, .ro, .operator, .fixed, .val 0, .any, false⟩
/-- 0x2270:27 MANAGEMENT CAN_ENABLE (R429). -/
abbrev MANAGEMENT_CAN_ENABLE : EntryDef :=
  ⟨0x2270, 1, 0x27, 0x27, .u8, .rw, .integrator, .halt, .val 0x1, .bits 0x3, true⟩
/-- 0x2270:28 MANAGEMENT NODE_ID_SOURCE (R429). -/
abbrev MANAGEMENT_NODE_ID_SOURCE : EntryDef :=
  ⟨0x2270, 1, 0x28, 0x28, .u8, .rw, .integrator, .halt, .val 0, .oneOf [0, 1], true⟩
/-- 0x2270:29 MANAGEMENT NODE_ID (R429). -/
abbrev MANAGEMENT_NODE_ID : EntryDef :=
  ⟨0x2270, 1, 0x29, 0x29, .u8, .rw, .integrator, .halt, .val 1, .within 1 127, true⟩
/-- 0x2270:2A MANAGEMENT NMT_CONTROL (R429). -/
abbrev MANAGEMENT_NMT_CONTROL : EntryDef :=
  ⟨0x2270, 1, 0x2A, 0x2A, .u8, .rw, .integrator, .live, .val 0, .oneOf [0, 1], true⟩
/-- 0x2270:2B MANAGEMENT NMT_RESET_ACTION (R429). -/
abbrev MANAGEMENT_NMT_RESET_ACTION : EntryDef :=
  ⟨0x2270, 1, 0x2B, 0x2B, .u8, .rw, .integrator, .live, .val 0, .oneOf [0, 1], true⟩
/-- 0x2270:2C MANAGEMENT EMCY_SEVERITY (R429). -/
abbrev MANAGEMENT_EMCY_SEVERITY : EntryDef :=
  ⟨0x2270, 1, 0x2C, 0x2C, .u8, .rw, .integrator, .live, .val 3, .within 0 5, true⟩
/-- 0x2270:2D MANAGEMENT SPI_ENABLE (R429). -/
abbrev MANAGEMENT_SPI_ENABLE : EntryDef :=
  ⟨0x2270, 1, 0x2D, 0x2D, .bool, .rw, .integrator, .halt, .val 1, .within 0 1, true⟩
/-- 0x2270:2E MANAGEMENT BASE_RIGHTS_CAN (R429). -/
abbrev MANAGEMENT_BASE_RIGHTS_CAN : EntryDef :=
  ⟨0x2270, 1, 0x2E, 0x2E, .u8, .rw, .integrator, .halt, .val 1, .within 0 2, true⟩
/-- 0x2270:2F MANAGEMENT BASE_RIGHTS_SPI (R429). -/
abbrev MANAGEMENT_BASE_RIGHTS_SPI : EntryDef :=
  ⟨0x2270, 1, 0x2F, 0x2F, .u8, .rw, .integrator, .halt, .val 2, .within 0 2, true⟩
/-- 0x2270:30 MANAGEMENT BASE_RIGHTS_PCIE (R429). -/
abbrev MANAGEMENT_BASE_RIGHTS_PCIE : EntryDef :=
  ⟨0x2270, 1, 0x30, 0x30, .u8, .ro, .operator, .fixed, .val 0, .any, false⟩
/-- 0x2270:31 MANAGEMENT AUTH_LOCKOUT (R429). -/
abbrev MANAGEMENT_AUTH_LOCKOUT : EntryDef :=
  ⟨0x2270, 1, 0x31, 0x31, .u16, .rw, .integrator, .live, .val 10, .within 1 3600, true⟩
/-- 0x2270:32 MANAGEMENT MAILBOX_MSIX_VECTOR (R429). -/
abbrev MANAGEMENT_MAILBOX_MSIX_VECTOR : EntryDef :=
  ⟨0x2270, 1, 0x32, 0x32, .u8, .rw, .operator, .live, .val 0xff, .withinOr 0 63 [255], true⟩
/-- 0x2270:33 MANAGEMENT STORE_STATE (R429). -/
abbrev MANAGEMENT_STORE_STATE : EntryDef :=
  ⟨0x2270, 1, 0x33, 0x33, .u8, .ro, .operator, .fixed, .val 0, .any, false⟩
/-- 0x2270:34 MANAGEMENT STORE_GENERATION (R429). -/
abbrev MANAGEMENT_STORE_GENERATION : EntryDef :=
  ⟨0x2270, 1, 0x34, 0x34, .u32, .ro, .operator, .fixed, .val 0, .any, false⟩
/-- 0x2270:35 MANAGEMENT STORE_BYTES (R429). -/
abbrev MANAGEMENT_STORE_BYTES : EntryDef :=
  ⟨0x2270, 1, 0x35, 0x35, .u32, .ro, .operator, .fixed, .val 0, .any, false⟩
/-- 0x2270:36 MANAGEMENT RESTORE_PENDING (R429). -/
abbrev MANAGEMENT_RESTORE_PENDING : EntryDef :=
  ⟨0x2270, 1, 0x36, 0x36, .bool, .ro, .operator, .fixed, .val 0, .any, false⟩
/-- 0x2270:37 MANAGEMENT SPI_CRC_ERRORS (R429). -/
abbrev MANAGEMENT_SPI_CRC_ERRORS : EntryDef :=
  ⟨0x2270, 1, 0x37, 0x37, .u32, .ro, .operator, .fixed, .val 0, .any, false⟩
/-- 0x2270:38 MANAGEMENT TAG_REJECTS (R429). -/
abbrev MANAGEMENT_TAG_REJECTS : EntryDef :=
  ⟨0x2270, 1, 0x38, 0x38, .u32, .ro, .operator, .fixed, .val 0, .any, false⟩
/-- The rows of MANAGEMENT. -/
def rows_MANAGEMENT_transport : List EntryDef :=
  [MANAGEMENT_UDP_ENABLE,
   MANAGEMENT_UDP_PORT,
   MANAGEMENT_IP_ADDRESS,
   MANAGEMENT_IP_NETMASK,
   MANAGEMENT_IP_GATEWAY,
   MANAGEMENT_UDP_IDLE_TIMEOUT,
   MANAGEMENT_UDP_SESSIONS,
   MANAGEMENT_CAN_ENABLE,
   MANAGEMENT_NODE_ID_SOURCE,
   MANAGEMENT_NODE_ID,
   MANAGEMENT_NMT_CONTROL,
   MANAGEMENT_NMT_RESET_ACTION,
   MANAGEMENT_EMCY_SEVERITY,
   MANAGEMENT_SPI_ENABLE,
   MANAGEMENT_BASE_RIGHTS_CAN,
   MANAGEMENT_BASE_RIGHTS_SPI,
   MANAGEMENT_BASE_RIGHTS_PCIE,
   MANAGEMENT_AUTH_LOCKOUT,
   MANAGEMENT_MAILBOX_MSIX_VECTOR,
   MANAGEMENT_STORE_STATE,
   MANAGEMENT_STORE_GENERATION,
   MANAGEMENT_STORE_BYTES,
   MANAGEMENT_RESTORE_PENDING,
   MANAGEMENT_SPI_CRC_ERRORS,
   MANAGEMENT_TAG_REJECTS]

end Sys2Proof.Machine.Dict
end

