-- ==== Sys2Proof/Machine/DictTable.lean ====
section
/-! DEFINITION. The objects of Table 15.1 and the search of an entry by index and sub-index (R396, R432). -/
namespace Sys2Proof.Machine

/-- One object: its first index, its number of instances and its rows. -/
structure ObjectDef where
  base : Nat
  count : Nat
  rows : List EntryDef
deriving DecidableEq, Repr

open Dict in
/-- The objects below 0x2400. -/
def objectsLow : List ObjectDef :=
  [⟨0x1000, 1, rows_DEVICE_TYPE⟩,
   ⟨0x1001, 1, rows_ERROR_REGISTER⟩,
   ⟨0x1005, 1, rows_COB_ID_SYNC⟩,
   ⟨0x1008, 1, rows_DEVICE_NAME⟩,
   ⟨0x1009, 1, rows_HW_VERSION⟩,
   ⟨0x100A, 1, rows_SW_VERSION⟩,
   ⟨0x1010, 1, rows_STORE_PARAMETERS⟩,
   ⟨0x1011, 1, rows_RESTORE_PARAMETERS⟩,
   ⟨0x1015, 1, rows_INHIBIT_TIME_EMCY⟩,
   ⟨0x1017, 1, rows_HEARTBEAT_TIME⟩,
   ⟨0x1018, 1, rows_IDENTITY⟩,
   ⟨0x1400, 8, rows_RPDO⟩,
   ⟨0x1600, 8, rows_RPDO_MAP⟩,
   ⟨0x1800, 8, rows_TPDO⟩,
   ⟨0x1A00, 8, rows_TPDO_MAP⟩,
   ⟨0x2000, 1, rows_DEVICE_STATE⟩,
   ⟨0x2001, 1, rows_LIFECYCLE⟩,
   ⟨0x2002, 1, rows_SESSION_RIGHTS⟩,
   ⟨0x2003, 1, rows_LAST_REFUSAL⟩,
   ⟨0x2010, 1, rows_GOVERNOR⟩,
   ⟨0x2011, 1, rows_GOVERNOR_STATUS⟩,
   ⟨0x2012, 1, rows_ISLAND_PACE⟩,
   ⟨0x2020, 1, rows_EVENT_QUEUE⟩,
   ⟨0x2100, 1, rows_HENTIS⟩,
   ⟨0x2110, 12, rows_REF⟩,
   ⟨0x2120, 1, rows_SELECTOR⟩,
   ⟨0x2130, 8, rows_FTG⟩,
   ⟨0x2140, 1, rows_HOLDOVER⟩,
   ⟨0x2150, 1, rows_TIMEBASE⟩,
   ⟨0x2200, 52, rows_U_LANE⟩,
   ⟨0x2240, 16, rows_D_LANE⟩,
   ⟨0x2260, 1, rows_PCIE⟩,
   ⟨0x2270, 1, rows_MANAGEMENT ++ rows_MANAGEMENT_transport⟩,
   ⟨0x2280, 48, rows_PORT⟩,
   ⟨0x22B0, 4, rows_GROUP_PORT⟩]

open Dict in
/-- The objects from 0x2400. -/
def objectsHigh : List ObjectDef :=
  [⟨0x2400, 64, rows_INPUT⟩,
   ⟨0x2440, 32, rows_HOST_SOURCE⟩,
   ⟨0x2460, 32, rows_POCKET_PLAYER⟩,
   ⟨0x2500, 1, rows_ROUTE_TABLE⟩,
   ⟨0x2501, 1, rows_ROUTE_CONTROL⟩,
   ⟨0x2600, 1, rows_ENGINE_POOL⟩,
   ⟨0x2610, 1, rows_COEFF_BANKS⟩,
   ⟨0x2620, 1, rows_COLOUR_LUTS⟩,
   ⟨0x2800, 8, rows_CANVAS⟩,
   ⟨0x2810, 64, rows_LAYER⟩,
   ⟨0x2850, 1, rows_OVERCOAT⟩,
   ⟨0x2858, 1, rows_LINING⟩,
   ⟨0x2860, 8, rows_CANVAS_COMMIT⟩,
   ⟨0x2870, 1, rows_STITCH_GROUP⟩,
   ⟨0x2C00, 32, rows_HEAD⟩,
   ⟨0x2C40, 32, rows_HEAD_COMMIT⟩,
   ⟨0x2C80, 32, rows_HEAD_STATUS⟩,
   ⟨0x2CC0, 1, rows_LEGACY_EVENTS⟩,
   ⟨0x2E00, 1, rows_TILE_MAP⟩,
   ⟨0x2E01, 1, rows_TILE_MAP_CONTROL⟩,
   ⟨0x2E10, 1, rows_PTL⟩,
   ⟨0x2E20, 1, rows_CALIBRATION⟩,
   ⟨0x3000, 8, rows_SAP⟩,
   ⟨0x3010, 1, rows_AUDIO_MATRIX⟩,
   ⟨0x3020, 1, rows_AUDIO_START⟩,
   ⟨0x3200, 1, rows_STORE_TIER⟩,
   ⟨0x3210, 1, rows_DRAM⟩,
   ⟨0x3220, 1, rows_POCKET⟩,
   ⟨0x3400, 1, rows_KEY_STORE⟩,
   ⟨0x3401, 72, rows_KEY_SLOT⟩,
   ⟨0x3800, 1, rows_RECORDER⟩,
   ⟨0x3801, 1, rows_RECORD_WINDOW⟩,
   ⟨0x3810, 1, rows_LIFETIME⟩,
   ⟨0x3820, 12, rows_HISTOGRAM⟩,
   ⟨0x3C00, 1, rows_RESILIENCE⟩,
   ⟨0x3C10, 1, rows_PATCH_MAP⟩,
   ⟨0x3C20, 1, rows_FAULT_WEIGHTS⟩,
   ⟨0x3E00, 1, rows_SUPPLY⟩]

/-- The object that holds an index, if Table 15.1 lists it (R432). -/
def objectAt (index : Nat) : Option ObjectDef :=
  (if index < 0x2400 then objectsLow else objectsHigh).find?
    (fun o => o.base ≤ index && index < o.base + o.count)

/-- The row that holds an index and sub-index (R396). -/
def entryAt (index sub : Nat) : Option EntryDef :=
  match objectAt index with
  | some o => o.rows.find? (fun e => e.lo ≤ sub && sub ≤ e.hi)
  | none => none

end Sys2Proof.Machine
end

