-- ==== Sys2Proof/Machine/Events.lean ====
section
/-! DEFINITION. The event codes of the spec with their severities (R433), one definition each; the
meanings of parameters A and B are those of the table of each code's chapter. -/
namespace Sys2Proof.Machine

/-- An event code and its severity, 0 DEBUG to 5 CRITICAL (R421, R433). -/
structure EventDef where
  code : Nat
  severity : Nat
deriving DecidableEq, Repr

namespace Event

/-- NOTICE: A New STATE; B Previous STATE. -/
abbrev HENTIS_STATE : EventDef := ⟨0x1001, 2⟩
/-- NOTICE: A Candidate; B Wait served [s]. -/
abbrev REF_QUALIFIED : EventDef := ⟨0x1002, 2⟩
/-- WARNING: A Candidate; B FAIL_CAUSE. -/
abbrev REF_DISQUALIFIED : EventDef := ⟨0x1003, 3⟩
/-- WARNING: A Candidate; B DRIFT [ppb]. -/
abbrev REF_DRIFT_ALARM : EventDef := ⟨0x1004, 3⟩
/-- NOTICE: A Candidate; B DRIFT [ppb]. -/
abbrev REF_DRIFT_ALARM_END : EventDef := ⟨0x1005, 2⟩
/-- DEBUG: A Candidate; B Edge interval [ns, saturated]. -/
abbrev REF_GLITCH : EventDef := ⟨0x1006, 0⟩
/-- NOTICE: A Candidate; B New rate [mHz]. -/
abbrev REF_RATE_CHANGE : EventDef := ⟨0x1007, 2⟩
/-- NOTICE: A From, to; B Frequency difference [ppb]. -/
abbrev REF_SWITCH_START : EventDef := ⟨0x1008, 2⟩
/-- INFO: A Candidate; B PHASE_OFFSET [ns, saturated]. -/
abbrev REF_SWITCH_DONE : EventDef := ⟨0x1009, 1⟩
/-- NOTICE: A Old target, new target; B DCO word at re-target [ppb]. -/
abbrev REF_SWITCH_RETARGET : EventDef := ⟨0x100A, 2⟩
/-- WARNING: A VALUE [ppb]; B ENTRIES_USED. -/
abbrev HOLDOVER_ENTERED : EventDef := ⟨0x100B, 3⟩
/-- FAULT: A Cause: 1 no holdover value, 2 LIMIT expired; B ELAPSED [s]. -/
abbrev HENTIS_LOST : EventDef := ⟨0x100C, 4⟩
/-- NOTICE: A Mode: 0 JUMP, 1 SLEW, 2 first lock, 3 SET; B Step [ns, saturated]. -/
abbrev ALIGN_START : EventDef := ⟨0x100D, 2⟩
/-- NOTICE: A Mode, as ALIGN_START; B Step removed [ns, saturated]. -/
abbrev ALIGN_DONE : EventDef := ⟨0x100E, 2⟩
/-- NOTICE: A Candidate; B GM_IDENTITY, bits 31:0. -/
abbrev PTP_GM_CHANGE : EventDef := ⟨0x100F, 2⟩
/-- INFO: A FTG; B RATE_NUM. -/
abbrev FTG_STARTED : EventDef := ⟨0x1010, 1⟩
/-- INFO: A FTG; B BASE_FRAMES, bits 31:0. -/
abbrev FTG_STOPPED : EventDef := ⟨0x1011, 1⟩
/-- NOTICE: A New LOOP_MODE; B Previous LOOP_MODE. -/
abbrev LOOP_MODE_CHANGE : EventDef := ⟨0x1012, 2⟩
/-- INFO: A Lane; B Line rate [Mbit/s]. -/
abbrev LANE_UP : EventDef := ⟨0x2001, 1⟩
/-- WARNING: A Lane; B Cause, as PORT DOWN_CAUSE. -/
abbrev LANE_LOST : EventDef := ⟨0x2002, 3⟩
/-- WARNING: A Lane; B MARGIN_CLASS. -/
abbrev LANE_DEGRADED : EventDef := ⟨0x2003, 3⟩
/-- NOTICE: A Lane; B MARGIN_CLASS. -/
abbrev LANE_RECOVERED : EventDef := ⟨0x2004, 2⟩
/-- WARNING: A Lane; B Restart count. -/
abbrev LANE_TRAIN_FAIL : EventDef := ⟨0x2005, 3⟩
/-- NOTICE: A Port; B Speed [Mbit/s]. -/
abbrev PORT_UP : EventDef := ⟨0x2006, 2⟩
/-- WARNING: A Port; B DOWN_CAUSE. -/
abbrev PORT_DOWN : EventDef := ⟨0x2007, 3⟩
/-- WARNING: A Port; B Codewords in the last 1 s. -/
abbrev FEC_UNCORRECTABLE : EventDef := ⟨0x2008, 3⟩
/-- INFO: A Group port; B New level. -/
abbrev HPD_CHANGE : EventDef := ⟨0x2020, 1⟩
/-- WARNING: A Group port; B Last rate tried [Mbit/s]. -/
abbrev DLINK_TRAIN_FAIL : EventDef := ⟨0x2021, 3⟩
/-- INFO: A Group port; B Downstream device count. -/
abbrev HDCP_AUTHENTICATED : EventDef := ⟨0x2022, 1⟩
/-- WARNING: A Group port; B HDCP 2.3 failure step. -/
abbrev HDCP_FAILED : EventDef := ⟨0x2023, 3⟩
/-- INFO: A Group port; B Length [bytes]. -/
abbrev SINK_EDID_CHANGED : EventDef := ⟨0x2024, 1⟩
/-- NOTICE: A Interface; B Bits 15:8 speed, 7:0 width. -/
abbrev PCIE_LINK_UP : EventDef := ⟨0x2030, 2⟩
/-- FAULT: A Interface; B LTSSM state at loss. -/
abbrev PCIE_LINK_DOWN : EventDef := ⟨0x2031, 4⟩
/-- WARNING: A Interface; B AER status bits. -/
abbrev PCIE_AER : EventDef := ⟨0x2032, 3⟩
/-- WARNING: A Interface; B BAR2 offset [MiB]. -/
abbrev PCIE_WINDOW_FAULT : EventDef := ⟨0x2033, 3⟩
/-- INFO: A Interface; B MGMT_SPEED. -/
abbrev MGMT_LINK : EventDef := ⟨0x2040, 1⟩
/-- FAULT: A Interface; B Transmit error count. -/
abbrev CAN_BUS_OFF : EventDef := ⟨0x2041, 4⟩
/-- WARNING: A Interface; B Transmit error count. -/
abbrev CAN_ERROR_PASSIVE : EventDef := ⟨0x2042, 3⟩
/-- WARNING: A Interface; B Regulator address. -/
abbrev PMBUS_NACK : EventDef := ⟨0x2043, 3⟩
/-- INFO: A Source; B Previous HEALTH. -/
abbrev INPUT_ACQUIRING : EventDef := ⟨0x3001, 1⟩
/-- NOTICE: A Source; B Previous HEALTH. -/
abbrev INPUT_PRESENT : EventDef := ⟨0x3002, 2⟩
/-- WARNING: A Source; B Bit 0 errors counted, bit 1 path lost. -/
abbrev INPUT_DEGRADED : EventDef := ⟨0x3003, 3⟩
/-- WARNING: A Source; B Cause: 1 signal lost, 2 glitches, 3 format mismatch, 4 packets absent. -/
abbrev INPUT_LOST : EventDef := ⟨0x3004, 3⟩
/-- WARNING: A Source; B Bits 31:16 measured width, 15:0 measured height. -/
abbrev INPUT_FORMAT_MISMATCH : EventDef := ⟨0x3005, 3⟩
/-- NOTICE: A Source; B Bits 31:16 new width, 15:0 new height. -/
abbrev INPUT_FORMAT_CHANGE : EventDef := ⟨0x3006, 2⟩
/-- NOTICE: A Source; B Bits 31:24 new TIMING_CLASS, 23:0 new latency [µs]. -/
abbrev INPUT_CLASS_CHANGE : EventDef := ⟨0x3007, 2⟩
/-- WARNING: A Source; B Path: 0 A, 1 B. -/
abbrev INPUT_PATH_LOST : EventDef := ⟨0x3008, 3⟩
/-- NOTICE: A Source; B Path: 0 A, 1 B. -/
abbrev INPUT_PATH_RESTORED : EventDef := ⟨0x3009, 2⟩
/-- INFO: A Source; B First damaged line. -/
abbrev INPUT_FRAME_DAMAGED : EventDef := ⟨0x300A, 1⟩
/-- NOTICE: A Source; B Band size required [KiB]. -/
abbrev INPUT_STAGE_FULL : EventDef := ⟨0x300B, 2⟩
/-- DEBUG: A Source; B Buffer. -/
abbrev HOST_FLIP_LANDED : EventDef := ⟨0x3010, 0⟩
/-- DEBUG: A Source; B Buffer. -/
abbrev HOST_RELEASED : EventDef := ⟨0x3011, 0⟩
/-- WARNING: A Source; B PCIe completion status. -/
abbrev HOST_FETCH_FAULT : EventDef := ⟨0x3012, 3⟩
/-- INFO: A Source; B Latches passed. -/
abbrev HOST_FLIP_LATE : EventDef := ⟨0x3013, 1⟩
/-- NOTICE: A Source; B Delay [base frames]. -/
abbrev POCKET_STARTED : EventDef := ⟨0x3020, 2⟩
/-- INFO: A Source; B Clip. -/
abbrev POCKET_ENDED : EventDef := ⟨0x3021, 1⟩
/-- WARNING: A Source; B Clip frame. -/
abbrev POCKET_UNDERFLOW : EventDef := ⟨0x3022, 3⟩
/-- FAULT: A Source; B Drive: 0, 1. -/
abbrev POCKET_READ_FAULT : EventDef := ⟨0x3023, 4⟩
/-- DEBUG: A Scope; B LAND_FRAME, bits 31:0. -/
abbrev COMMIT_LANDED : EventDef := ⟨0x3101, 0⟩
/-- NOTICE: A Scope; B Latches late. -/
abbrev LATE_COMMIT : EventDef := ⟨0x3102, 2⟩
/-- NOTICE: A Scope; B Bits 31:16 detail, 15:0 failing index. -/
abbrev COMMIT_REFUSED : EventDef := ⟨0x3103, 2⟩
/-- INFO: A Scope; B Superseded receipt, ns bits 31:0. -/
abbrev COMMIT_SUPERSEDED : EventDef := ⟨0x3104, 1⟩
/-- NOTICE: A Layer; B Bits 15:8 horizontal taps, 7:0 vertical taps. -/
abbrev TAPS_DEGRADED : EventDef := ⟨0x3105, 2⟩
/-- INFO: A Layer; B MIX_FRAMES. -/
abbrev MIX_START : EventDef := ⟨0x3110, 1⟩
/-- INFO: A Layer; B 0. -/
abbrev MIX_END : EventDef := ⟨0x3111, 1⟩
/-- INFO: A Layer; B Base frames of the mix completed. -/
abbrev SWITCH_PREEMPTED : EventDef := ⟨0x3112, 1⟩
/-- WARNING: A Layer; B Head that is not permitted. -/
abbrev PROTECT_FILL_ON : EventDef := ⟨0x3120, 3⟩
/-- NOTICE: A Layer; B 0. -/
abbrev PROTECT_FILL_OFF : EventDef := ⟨0x3121, 2⟩
/-- INFO: A Output; B New entry. -/
abbrev ROUTE_SWITCHED : EventDef := ⟨0x3130, 1⟩
/-- NOTICE: A Output; B Bits 31:16 new entry, 15:0 phase difference [lines, saturated]. -/
abbrev ROUGH_SWITCH : EventDef := ⟨0x3131, 2⟩
/-- NOTICE: A Output; B Bits 31:16 detail, 15:0 entry. -/
abbrev ROUTE_REFUSED : EventDef := ⟨0x3132, 2⟩
/-- WARNING: A Output; B Entry. -/
abbrev ROUTE_FLOW_LOST : EventDef := ⟨0x3133, 3⟩
/-- WARNING: A Port; B Packets dropped in the last 1 s. -/
abbrev EGRESS_DROPS : EventDef := ⟨0x3134, 3⟩
/-- DEBUG: A Engine; B Line-store entry. -/
abbrev ENGINE_ECC_CORRECTED : EventDef := ⟨0x4001, 0⟩
/-- WARNING: A Engine; B Line-store entry. -/
abbrev ENGINE_ECC_UNCORRECTED : EventDef := ⟨0x4002, 3⟩
/-- WARNING: A Engine; B Unit: 1 scaler, 2 colour, 3 temporal, 4 blender, 5 dither. -/
abbrev ENGINE_PARITY : EventDef := ⟨0x4003, 3⟩
/-- WARNING: A Engine; B Elapsed [µs]. -/
abbrev ENGINE_TIMEOUT : EventDef := ⟨0x4004, 3⟩
/-- INFO: A Engine; B Cause: 2 ECC, 3 parity, 4 timeout. -/
abbrev ENGINE_RESET : EventDef := ⟨0x4005, 1⟩
/-- NOTICE: A Engine of the abandoned copy; B Bits 31:24 canvas, 23:16 slot, 15:0 strip. -/
abbrev STRIP_RETRY : EventDef := ⟨0x4006, 2⟩
/-- WARNING: A Canvas; B Bits 23:16 slot, 15:0 strip. -/
abbrev STRIP_ABANDONED : EventDef := ⟨0x4007, 3⟩
/-- WARNING: A Input; B Base-frame counter, bits 31:0. -/
abbrev MOTION_LATE : EventDef := ⟨0x4008, 3⟩
/-- INFO: A Input; B Blocks fallen back [%]. -/
abbrev MOTION_FALLBACK : EventDef := ⟨0x4009, 1⟩
/-- INFO: A Bank; B 0. -/
abbrev COEFF_BANK_LOADED : EventDef := ⟨0x400A, 1⟩
/-- INFO: A Bits 15:8 kind (1 1D, 2 3D), 7:0 index; B 0. -/
abbrev LUT_LOADED : EventDef := ⟨0x400B, 1⟩
/-- NOTICE: A Layer; B Policy resolved, as READY. -/
abbrev LAYER_NOT_READY : EventDef := ⟨0x4101, 2⟩
/-- INFO: A Layer; B Base frames not ready. -/
abbrev LAYER_READY : EventDef := ⟨0x4102, 1⟩
/-- NOTICE: A Layer; B REPEAT_LIMIT. -/
abbrev LAYER_REPEAT_EXPIRED : EventDef := ⟨0x4103, 2⟩
/-- NOTICE: A Layer; B Slate player. -/
abbrev LAYER_SLATE_FALLBACK : EventDef := ⟨0x4104, 2⟩
/-- NOTICE: A Canvas; B FTG. -/
abbrev CANVAS_STARTED : EventDef := ⟨0x4110, 2⟩
/-- NOTICE: A Canvas; B BASE_FRAMES, bits 31:0. -/
abbrev CANVAS_STOPPED : EventDef := ⟨0x4111, 2⟩
/-- WARNING: A Canvas; B Bits 15:8 destination, 7:0 KIND. -/
abbrev WRITEBACK_FAULT : EventDef := ⟨0x4112, 3⟩
/-- NOTICE: A Canvas; B Cause: 1 object, 2 pin, 3 pin latch, 4 start-up. -/
abbrev OVERCOAT_ARMED : EventDef := ⟨0x4120, 2⟩
/-- NOTICE: A Canvas; B Base frames armed. -/
abbrev OVERCOAT_DISARMED : EventDef := ⟨0x4121, 2⟩
/-- NOTICE: A Bits 15:8 kind (1 image, 2 placement, 3 pin setting), 7:0 number; B New IMAGE_CRC or 0. -/
abbrev OVERCOAT_CHANGED : EventDef := ⟨0x4122, 2⟩
/-- CRITICAL: A Image; B Computed CRC-32. -/
abbrev OVERCOAT_IMAGE_FAULT : EventDef := ⟨0x4123, 5⟩
/-- INFO: A Canvas; B LINED_MASK. -/
abbrev LINING_VALID : EventDef := ⟨0x4130, 1⟩
/-- INFO: A Canvas; B Cause: 1 commit, 2 new source frame, 3 source not ready, 4 storage error, 5 REBUILD. -/
abbrev LINING_INVALIDATED : EventDef := ⟨0x4131, 1⟩
/-- NOTICE: A Canvas; B KiB required. -/
abbrev LINING_NO_ROOM : EventDef := ⟨0x4132, 2⟩
/-- NOTICE: A Head; B TYPE. -/
abbrev HEAD_STARTED : EventDef := ⟨0x5001, 2⟩
/-- NOTICE: A Head; B FRAME_COUNT, bits 31:0. -/
abbrev HEAD_STOPPED : EventDef := ⟨0x5002, 2⟩
/-- INFO: A Head; B Canvas, or 0xFF. -/
abbrev HEAD_IDLE : EventDef := ⟨0x5003, 1⟩
/-- WARNING: A Head; B Underrun lines in the frame. -/
abbrev HEAD_UNDERRUN : EventDef := ⟨0x5004, 3⟩
/-- WARNING: A Head; B Bits 31:16 window, 15:0 consecutive mismatching frames. -/
abbrev CHECK_MISMATCH : EventDef := ⟨0x5005, 3⟩
/-- CRITICAL: A Head; B Window. -/
abbrev HEAD_SAFE : EventDef := ⟨0x5006, 5⟩
/-- NOTICE: A Head; B Frames in SAFE fill, bits 31:0. -/
abbrev HEAD_SAFE_CLEARED : EventDef := ⟨0x5007, 2⟩
/-- NOTICE: A Head; B TYPE. -/
abbrev HEAD_RETIME_START : EventDef := ⟨0x5008, 2⟩
/-- NOTICE: A Head; B Background frames, or ms without signal for HDMI and DP. -/
abbrev HEAD_RETIME_DONE : EventDef := ⟨0x5009, 2⟩
/-- DEBUG: A Head; B FRAME_COUNT, bits 31:0. -/
abbrev HEAD_FLIP : EventDef := ⟨0x500A, 0⟩
/-- FAULT: A Head; B Echo-receiver unit number of Table 13.1: 0–51 U-lane pads, 52–67 D-lane pads. -/
abbrev ECHO_FAULT : EventDef := ⟨0x500B, 4⟩
/-- WARNING: A Port and failed lane; B Spare lane. -/
abbrev PTL_TAKEOVER : EventDef := ⟨0x5101, 3⟩
/-- WARNING: A Port and failed lane; B 0. -/
abbrev PTL_NO_SPARE : EventDef := ⟨0x5102, 3⟩
/-- INFO: A Port and spare lane; B 0. -/
abbrev PTL_SPARE_READY : EventDef := ⟨0x5103, 1⟩
/-- WARNING: A Entry; B TILE_ID. -/
abbrev TILE_MISSING : EventDef := ⟨0x5104, 3⟩
/-- NOTICE: A Entry; B Time absent [ms]. -/
abbrev TILE_RETURNED : EventDef := ⟨0x5105, 2⟩
/-- WARNING: A Entry; B STATUS STATE. -/
abbrev TILE_ALARM : EventDef := ⟨0x5106, 3⟩
/-- NOTICE: A Entry; B INCOMPLETE_FRAMES. -/
abbrev TILE_LATE : EventDef := ⟨0x5107, 2⟩
/-- WARNING: A Port; B TILE_ID. -/
abbrev PTL_AUTH_FAIL : EventDef := ⟨0x5108, 3⟩
/-- NOTICE: A New KEY_EPOCH; B 0. -/
abbrev PTL_REKEY : EventDef := ⟨0x5109, 2⟩
/-- WARNING: A Key slot; B 0. -/
abbrev PTL_KEY_LOST : EventDef := ⟨0x510A, 3⟩
/-- NOTICE: A First bad entry; B Detail. -/
abbrev TILE_MAP_REFUSED : EventDef := ⟨0x510B, 2⟩
/-- NOTICE: A Entry; B 1 outside canvas, 2 no sending head. -/
abbrev TILE_MAP_SKIPPED : EventDef := ⟨0x510C, 2⟩
/-- INFO: A TILE_ID; B Length [bytes]. -/
abbrev PTL_CONTROL_SENT : EventDef := ⟨0x510D, 1⟩
/-- NOTICE: A SAP_MASK; B Timebase ns, bits 31:0. -/
abbrev AUDIO_STARTED : EventDef := ⟨0x6001, 2⟩
/-- NOTICE: A SAP_MASK; B 0. -/
abbrev AUDIO_STOPPED : EventDef := ⟨0x6002, 2⟩
/-- WARNING: A Endpoint; B 0. -/
abbrev SAP_CLOCK_LOST : EventDef := ⟨0x6003, 3⟩
/-- NOTICE: A Endpoint; B Measured rate [Hz]. -/
abbrev SAP_CLOCK_RESTORED : EventDef := ⟨0x6004, 2⟩
/-- NOTICE: A Endpoint; B New rate [Hz]. -/
abbrev AUDIO_RATE_CHANGE : EventDef := ⟨0x6005, 2⟩
/-- WARNING: A Endpoint; B Measured rate [Hz]. -/
abbrev AUDIO_RATE_MISMATCH : EventDef := ⟨0x6006, 3⟩
/-- INFO: A Endpoint; B Slips in the last 1 s. -/
abbrev AUDIO_SLIP : EventDef := ⟨0x6007, 1⟩
/-- WARNING: A Endpoint; B Count in the last 1 s. -/
abbrev AUDIO_UNDERRUN : EventDef := ⟨0x6008, 3⟩
/-- WARNING: A Endpoint; B Count in the last 1 s. -/
abbrev AUDIO_OVERRUN : EventDef := ⟨0x6009, 3⟩
/-- WARNING: A Endpoint; B Path: 0 A, 1 B, 2 both. -/
abbrev STREAM_LOST : EventDef := ⟨0x600A, 3⟩
/-- NOTICE: A Channel; B Requested delay [µs]. -/
abbrev AUDIO_DELAY_CLAMPED : EventDef := ⟨0x600B, 2⟩
/-- WARNING: A Channel; B Head that is not permitted. -/
abbrev AUDIO_GATED : EventDef := ⟨0x600C, 3⟩
/-- NOTICE: A Channel; B 0. -/
abbrev AUDIO_GATE_END : EventDef := ⟨0x600D, 2⟩
/-- DEBUG: A Slice; B Stripe. -/
abbrev STORE_CORRECTED : EventDef := ⟨0x7001, 0⟩
/-- WARNING: A Partition: 0 SCAN, 1 LINING, 2 STAGE, 3 OVERCOAT, 4 SYSTEM; B Offset [KiB]. -/
abbrev STORE_UNCORRECTABLE : EventDef := ⟨0x7002, 3⟩
/-- NOTICE: A Offset [KiB]; B 0. -/
abbrev SYSTEM_RESTORED : EventDef := ⟨0x7003, 2⟩
/-- DEBUG: A Channel; B Row. -/
abbrev DRAM_CORRECTED : EventDef := ⟨0x7010, 0⟩
/-- WARNING: A Channel; B Data address [MiB]. -/
abbrev DRAM_UNCORRECTABLE : EventDef := ⟨0x7011, 3⟩
/-- NOTICE: A Channel; B Row. -/
abbrev DRAM_ROW_REMAPPED : EventDef := ⟨0x7012, 2⟩
/-- FAULT: A Channel; B MODE. -/
abbrev DRAM_CHANNEL_LOST : EventDef := ⟨0x7013, 4⟩
/-- WARNING: A Parity group; B Lost channel. -/
abbrev DRAM_GROUP_DEGRADED : EventDef := ⟨0x7014, 3⟩
/-- CRITICAL: A Parity group; B 0. -/
abbrev DRAM_GROUP_LOST : EventDef := ⟨0x7015, 5⟩
/-- WARNING: A Bits 15:8 owner kind (1 input, 2 host surface, 3 player, 4 audio, 5 write-back), 7:0 number; B MiB. -/
abbrev DRAM_ALLOC_LOST : EventDef := ⟨0x7016, 3⟩
/-- NOTICE: A TRAINING; B Duration [ms]. -/
abbrev DRAM_TRAINED : EventDef := ⟨0x7017, 2⟩
/-- NOTICE: A u [1/65,536]; B T_c [µs]. -/
abbrev DRAM_SLEEP_HELD : EventDef := ⟨0x7018, 2⟩
/-- WARNING: A u [1/65,536]; B 0. -/
abbrev DRAM_BANDWIDTH_HIGH : EventDef := ⟨0x7019, 3⟩
/-- NOTICE: A Drive; B Managed capacity [GiB]. -/
abbrev POCKET_DRIVE_UP : EventDef := ⟨0x7020, 2⟩
/-- FAULT: A Drive; B NVMe status. -/
abbrev POCKET_DRIVE_DOWN : EventDef := ⟨0x7021, 4⟩
/-- NOTICE: A Recorder; B Clip. -/
abbrev POCKET_CAPTURE_STARTED : EventDef := ⟨0x7022, 2⟩
/-- NOTICE: A Recorder; B Bits 31:24 CAP_STATE, 23:0 frames. -/
abbrev POCKET_CAPTURE_STOPPED : EventDef := ⟨0x7023, 2⟩
/-- WARNING: A Drive; B Clip, or 0xFFFF for a whole copy. -/
abbrev POCKET_DIRECTORY_FAULT : EventDef := ⟨0x7024, 3⟩
/-- NOTICE: A Recorder mask; B Frames flushed. -/
abbrev POCKET_FLUSH : EventDef := ⟨0x7025, 2⟩
/-- NOTICE: A Unit; B Weight. -/
abbrev FAULT_WEIGHT_HALF : EventDef := ⟨0x8001, 2⟩
/-- FAULT: A Unit; B CAUSE, as Table 13.6. -/
abbrev UNIT_RETIRED : EventDef := ⟨0x8002, 4⟩
/-- NOTICE: A Unit; B Spare. -/
abbrev PATCH_APPLIED : EventDef := ⟨0x8003, 2⟩
/-- WARNING: A Kind; B 0. -/
abbrev SPARES_EXHAUSTED : EventDef := ⟨0x8004, 3⟩
/-- WARNING: A Unit; B Remaining: active engines of the unit's island, LINING KiB, or 0 (R385). -/
abbrev CAPACITY_REDUCED : EventDef := ⟨0x8005, 3⟩
/-- NOTICE: A Unit; B Entry. -/
abbrev PATCH_CLEARED : EventDef := ⟨0x8006, 2⟩
/-- NOTICE: A Entries waiting; B 0. -/
abbrev PATCH_MAP_DEFERRED : EventDef := ⟨0x8007, 2⟩
/-- WARNING: A Unit not recorded; B 0. -/
abbrev PATCH_MAP_FULL : EventDef := ⟨0x8008, 3⟩
/-- WARNING: A Link; B Redundant link. -/
abbrev MESH_LINK_SWITCHED : EventDef := ⟨0x8009, 3⟩
/-- NOTICE: A Unit; B Spare row. -/
abbrev STORE_ROW_SPARED : EventDef := ⟨0x800A, 2⟩
/-- NOTICE: A Unit; B Weight. -/
abbrev UNIT_RETIRE_HELD : EventDef := ⟨0x800B, 2⟩
/-- INFO: A Pass, bits 31:0; B Errors corrected in the pass. -/
abbrev PATROL_PASS_DONE : EventDef := ⟨0x800C, 1⟩
/-- NOTICE: A Step, kind, item; B Modelled saving [mW]. -/
abbrev GOV_YIELD : EventDef := ⟨0x9001, 2⟩
/-- NOTICE: A Step, kind, item; B Modelled cost [mW]. -/
abbrev GOV_RESTORE : EventDef := ⟨0x9002, 2⟩
/-- WARNING: A Load [mW]; B Effective limit [mW]. -/
abbrev BUDGET_BREACH : EventDef := ⟨0x9003, 3⟩
/-- NOTICE: A Load [mW]; B Effective limit [mW]. -/
abbrev BUDGET_BREACH_END : EventDef := ⟨0x9004, 2⟩
/-- NOTICE: A Estimate [mW]; B POWER_CAP [mW]. -/
abbrev CAP_EXCEEDED : EventDef := ⟨0x9005, 2⟩
/-- WARNING: A Die temperature [1/16 °C]; B Thermal limit [mW]. -/
abbrev TEMP_CEILING : EventDef := ⟨0x9006, 3⟩
/-- NOTICE: A Die temperature [1/16 °C]; B 0. -/
abbrev TEMP_CEILING_END : EventDef := ⟨0x9007, 2⟩
/-- FAULT: A Island; B Voltage held [mV]. -/
abbrev AVS_FAULT : EventDef := ⟨0x9008, 4⟩
/-- WARNING: A Island; B Target [G × 4,096]. -/
abbrev PACE_CEILING : EventDef := ⟨0x9009, 3⟩
/-- NOTICE: A Engine; B Ratio [1/4,096]. -/
abbrev ENGINE_LAGGING : EventDef := ⟨0x900A, 2⟩
/-- INFO: A Engine; B Ratio [1/4,096]. -/
abbrev ENGINE_LAG_END : EventDef := ⟨0x900B, 1⟩
/-- DEBUG: A Engine of first copy; B Bits 31:24 canvas, 23:16 slot, 15:0 strip. -/
abbrev STRIP_REISSUE : EventDef := ⟨0x900C, 0⟩
/-- WARNING: A Canvas; B Incomplete strips. -/
abbrev COMPOSE_LATE : EventDef := ⟨0x900D, 3⟩
/-- WARNING: A Last valid pin cap [W]; B 0. -/
abbrev CAP_PIN_FAULT : EventDef := ⟨0x900E, 3⟩
/-- INFO: A New effective limit [mW]; B LIMIT_SOURCE. -/
abbrev CAP_CHANGED : EventDef := ⟨0x900F, 1⟩
/-- NOTICE: A Background work number; B Deferral so far [s]. -/
abbrev BACKGROUND_FORCED : EventDef := ⟨0x9010, 2⟩
/-- WARNING: A FLOOR_CAUSE; B Records queued. -/
abbrev WRITE_FLOOR_ENTERED : EventDef := ⟨0x9101, 3⟩
/-- NOTICE: A Floor duration [ms]; B Records queued. -/
abbrev WRITE_FLOOR_LEFT : EventDef := ⟨0x9102, 2⟩
/-- WARNING: A Records lost; B Highest severity lost. -/
abbrev RECORDS_DROPPED : EventDef := ⟨0x9103, 3⟩
/-- NOTICE: A Slot; B 0. -/
abbrev RECORD_TORN : EventDef := ⟨0x9104, 2⟩
/-- DEBUG: A Generation; B Operating seconds. -/
abbrev CHECKPOINT_DONE : EventDef := ⟨0x9105, 0⟩
/-- WARNING: A Copy: 0, 1; B Generation in force. -/
abbrev CHECKPOINT_COPY_BAD : EventDef := ⟨0x9106, 3⟩
/-- NOTICE: A Operating seconds; B POWER_CYCLES. -/
abbrev SHUTDOWN_READY : EventDef := ⟨0x9107, 2⟩
/-- INFO: A EXPORT_FROM; B Records. -/
abbrev EXPORT_SEALED : EventDef := ⟨0x9108, 1⟩
/-- NOTICE: A Slot; B KCV. -/
abbrev KEY_WRITTEN : EventDef := ⟨0xA001, 2⟩
/-- NOTICE: A Slot; B 0. -/
abbrev KEY_ERASED : EventDef := ⟨0xA002, 2⟩
/-- FAULT: A Slot; B 0. -/
abbrev KEY_SLOT_BAD : EventDef := ⟨0xA003, 4⟩
/-- NOTICE: A Slot; B Spare. -/
abbrev KEY_SLOT_PATCHED : EventDef := ⟨0xA004, 2⟩
/-- WARNING: A Slot; B 0. -/
abbrev KEY_WRITE_ABANDONED : EventDef := ⟨0xA005, 3⟩
/-- WARNING: A New STATE; B Previous STATE. -/
abbrev LIFECYCLE_CHANGED : EventDef := ⟨0xA006, 3⟩
/-- CRITICAL: A TAMPER_CAUSE; B New generation. -/
abbrev TAMPER_ZEROISED : EventDef := ⟨0xA007, 5⟩
/-- CRITICAL: A Fuse generation; B Recorded generation. -/
abbrev TAMPER_FOUND_AT_START : EventDef := ⟨0xA008, 5⟩
/-- WARNING: A 0; B 0. -/
abbrev TAMPER_CAP_LOW : EventDef := ⟨0xA009, 3⟩
/-- INFO: A Slots overwritten; B 0. -/
abbrev KEY_OVERWRITE_DONE : EventDef := ⟨0xA00A, 1⟩
/-- NOTICE: A Wrap slot; B KCV. -/
abbrev HDCP_KEYS_LOADED : EventDef := ⟨0xA00B, 2⟩
/-- CRITICAL: A Cause: 1 transition, 2 16th tamper; B 0. -/
abbrev KEY_STORE_END : EventDef := ⟨0xA00C, 5⟩
/-- NOTICE: A Session; B Bits 15:8 rights, 7:0 slot. -/
abbrev AUTH_GRANTED : EventDef := ⟨0xB001, 2⟩
/-- WARNING: A Session; B Slot. -/
abbrev AUTH_FAILED : EventDef := ⟨0xB002, 3⟩
/-- WARNING: A Session; B Source IPv4 address, or 0. -/
abbrev AUTH_LOCKOUT : EventDef := ⟨0xB003, 3⟩
/-- NOTICE: A Session; B Cause: 1 DROP, 2 idle, 3 transport lost, 4 life-cycle, 5 slot unusable. -/
abbrev RIGHTS_DROPPED : EventDef := ⟨0xB004, 2⟩
/-- NOTICE: A Bits 23:8 index, 7:0 sub; B Detail. -/
abbrev WRITE_REFUSED : EventDef := ⟨0xB005, 2⟩
/-- WARNING: A Session, or 0xFF; B Source IPv4 address. -/
abbrev TAG_REJECTED : EventDef := ⟨0xB006, 3⟩
/-- NOTICE: A Generation; B Bytes. -/
abbrev STORE_DONE : EventDef := ⟨0xB007, 2⟩
/-- WARNING: A Cause: 1 write floor, 2 verify; B Generation in force. -/
abbrev STORE_FAILED : EventDef := ⟨0xB008, 3⟩
/-- NOTICE: A Scope sub; B 0. -/
abbrev RESTORE_ARMED : EventDef := ⟨0xB009, 2⟩
/-- NOTICE: A Session; B Entries lost. -/
abbrev QUEUE_OVERRUN : EventDef := ⟨0xB00A, 2⟩
/-- NOTICE: A Bits 15:8 interface, 7:0 command; B New DEVICE_STATE. -/
abbrev NMT_COMMAND : EventDef := ⟨0xB00B, 2⟩
/-- NOTICE: A Bits 15:8 interface, 7:0 command; B 0. -/
abbrev NMT_IGNORED : EventDef := ⟨0xB00C, 2⟩
/-- NOTICE: A Bits 15:8 interface, 7:0 RPDO; B Detail. -/
abbrev RPDO_REFUSED : EventDef := ⟨0xB00D, 2⟩
/-- NOTICE: A BAR4 offset; B Detail. -/
abbrev DOORBELL_REFUSED : EventDef := ⟨0xB00E, 2⟩
/-- INFO: A Session; B Source IPv4 address. -/
abbrev SESSION_OPENED : EventDef := ⟨0xB00F, 1⟩
/-- INFO: A Session; B Cause, as RIGHTS_DROPPED. -/
abbrev SESSION_CLOSED : EventDef := ⟨0xB010, 1⟩
/-- WARNING: A PCIe completion status; B 0. -/
abbrev HOST_RING_FAULT : EventDef := ⟨0xB011, 3⟩
/-- NOTICE: A New STATE; B Previous STATE. -/
abbrev DEVICE_STATE_CHANGED : EventDef := ⟨0xC001, 2⟩
/-- INFO: A STRAPS; B BOOT_CAUSE. -/
abbrev STRAPS_SAMPLED : EventDef := ⟨0xC002, 1⟩
/-- NOTICE: A Generation; B CONFIG_SOURCE. -/
abbrev CONFIG_LOADED : EventDef := ⟨0xC003, 2⟩
/-- WARNING: A Copies invalid; B 0. -/
abbrev CONFIG_LOAD_FAILED : EventDef := ⟨0xC004, 3⟩
/-- NOTICE: A Units retired; B Duration [ms]. -/
abbrev BIST_DONE : EventDef := ⟨0xC005, 2⟩
/-- WARNING: A Hentis STATE; B AUTO_RUN_TIMEOUT [s]. -/
abbrev AUTO_RUN_TIMEOUT : EventDef := ⟨0xC006, 3⟩
/-- WARNING: A Bits 31:16 detail, 15:0 failing index; B Failing sub. -/
abbrev RUN_REFUSED : EventDef := ⟨0xC007, 3⟩
/-- FAULT: A SAFE_CAUSE; B Die temperature [1/16 °C]. -/
abbrev SAFE_ENTERED : EventDef := ⟨0xC008, 4⟩
/-- CRITICAL: A POWER_CYCLES; B 0. -/
abbrev THERMTRIP_SEEN : EventDef := ⟨0xC009, 5⟩
/-- WARNING: A Bits 23:8 index, 7:0 sub of the ENABLE or ADMIN; B Detail. -/
abbrev CONFIG_ENABLE_REFUSED : EventDef := ⟨0xC00A, 3⟩

end Event

end Sys2Proof.Machine
end

