-- ==== Sys2Proof/Machine/Sha.lean ====
section
/-! DEFINITION. SHA-256 (FIPS 180-4), HMAC-SHA-256 and the counter-mode key derivation of
NIST SP 800-108 that R402, R413, R450 and R462 name. -/
namespace Sys2Proof.Machine
open Sys2Proof

/-- The round constants of SHA-256, eight to a number, the first in its highest 32 bits. -/
def shaRows : List Nat :=
  [0x428a2f9871374491b5c0fbcfe9b5dba53956c25b59f111f1923f82a4ab1c5ed5,
   0xd807aa9812835b01243185be550c7dc372be5d7480deb1fe9bdc06a7c19bf174,
   0xe49b69c1efbe47860fc19dc6240ca1cc2de92c6f4a7484aa5cb0a9dc76f988da,
   0x983e5152a831c66db00327c8bf597fc7c6e00bf3d5a7914706ca635114292967,
   0x27b70a852e1b21384d2c6dfc53380d13650a7354766a0abb81c2c92e92722c85,
   0xa2bfe8a1a81a664bc24b8b70c76c51a3d192e819d6990624f40e3585106aa070,
   0x19a4c1161e376c082748774c34b0bcb5391c0cb34ed8aa4a5b9cca4f682e6ff3,
   0x748f82ee78a5636f84c878148cc7020890befffaa4506cebbef9a3f7c67178f2]

/-- The 64 round constants, each 32 bits of a row of eight. -/
def shaConstants : List Nat :=
  shaRows.flatMap (fun r => (List.range 8).map (fun i => r / 2 ^ (32 * (7 - i)) % 2 ^ 32))

/-- Right rotation of 32 bits. -/
def ror32 (x n : Nat) : Nat := (x / 2 ^ n) ||| (x * 2 ^ (32 - n) % 2 ^ 32)

/-- The message schedule: 16 words extended to 64, newest first. -/
def shaExtend : Nat → List Nat → List Nat
  | 0, w => w
  | n + 1, w =>
    let w15 := (w[14]?).getD 0
    let w2 := (w[1]?).getD 0
    let s0 := ror32 w15 7 ^^^ ror32 w15 18 ^^^ (w15 / 2 ^ 3)
    let s1 := ror32 w2 17 ^^^ ror32 w2 19 ^^^ (w2 / 2 ^ 10)
    shaExtend n ((((w[15]?).getD 0 + s0 + (w[6]?).getD 0 + s1) % 2 ^ 32) :: w)

/-- One round on the eight working words. -/
def shaRound (h : List Nat) (kw : Nat × Nat) : List Nat :=
  match h with
  | [a, b, c, d, e, f, g, i] =>
    let t1 := i + (ror32 e 6 ^^^ ror32 e 11 ^^^ ror32 e 25)
      + ((e &&& f) ^^^ ((e ^^^ 0xFFFFFFFF) &&& g)) + kw.1 + kw.2
    let t2 := (ror32 a 2 ^^^ ror32 a 13 ^^^ ror32 a 22) + ((a &&& b) ^^^ (a &&& c) ^^^ (b &&& c))
    [(t1 + t2) % 2 ^ 32, a, b, c, (d + t1) % 2 ^ 32, e, f, g]
  | other => other

/-- One block of 64 bytes. -/
def shaBlock (h : List Nat) (block : List Byte) : List Nat :=
  let w := (shaExtend 48 ((chunks 4 16 block).map beNat).reverse).reverse
  let r := (List.zip shaConstants w).foldl shaRound h
  List.zipWith (fun a b => (a + b) % 2 ^ 32) h r

/-- The message with its padding and length. -/
def shaPad (m : List Byte) : List Byte :=
  m ++ [0x80] ++ zeros ((119 - m.length % 64) % 64) ++ beBytes 8 (8 * m.length)

/-- SHA-256. -/
def sha256 (m : List Byte) : List Byte :=
  let p := shaPad m
  ((chunks 64 p.length p).foldl shaBlock
    [0x6a09e667, 0xbb67ae85, 0x3c6ef372, 0xa54ff53a, 0x510e527f, 0x9b05688c, 0x1f83d9ab, 0x5be0cd19]
    ).flatMap (beBytes 4)

/-- HMAC-SHA-256. -/
def hmac (key m : List Byte) : List Byte :=
  let k := if 64 < key.length then sha256 key else key
  let k := k ++ zeros (64 - k.length)
  sha256 (k.map (· ^^^ 0x5C) ++ sha256 (k.map (· ^^^ 0x36) ++ m))

/-- The first 16 bytes of HMAC-SHA-256, as tags, proofs and seals use it (R402, R413, R462). -/
def hmac16 (key m : List Byte) : List Byte := (hmac key m).take 16

/-- A 256-bit key by the counter-mode KDF with HMAC-SHA-256: one iteration, 32-bit counter, label,
a zero byte, context and the length of 256 bits (R402, R450, R462). -/
def kdf (key label context : List Byte) : List Byte :=
  hmac key (beBytes 4 1 ++ label ++ [0] ++ context ++ beBytes 4 256)

end Sys2Proof.Machine
end

