-- ==== Sys2Proof/Machine/Ops.lean ====
section
/-! DEFINITION. The shared operations: registers, time, the pins, raising an event (the queue, the
recorder and every output it has), sessions and their rights. -/
namespace Sys2Proof.Machine
open Sys2Proof

/-! ### Registers -/

/-- The default of item `k` of an entry in instance `n`, truncated to its type. -/
def EntryDef.initial (e : EntryDef) (n k : Nat) : Nat :=
  (match e.dflt with
   | .val v => v
   | .list vs => (vs[k]?).getD 0
   | .item v => v + k
   | .layer0 a b => if n % 8 = 0 then a else b
   | .mac => Config.baseMac + n
   | .config j => Config.deviceNumber j) % 2 ^ (8 * e.type.size)

/-- What a register reads before anything is written: the Default column of its table (R396). -/
def dictDefault (key : Nat) : Nat :=
  match entryAt (key / 256) (key % 256) with
  | some e => e.initial (key / 256 - e.base) (key % 256 - e.lo)
  | none => 0

/-- What a DOMAIN register holds before anything is written (Default columns of chapters 3, 6 to 8
and 11). -/
def domDefault (key : Nat) : List Byte :=
  if key / 256 = 0x2850 ∧ 0x10 ≤ key % 256 ∧ key % 256 ≤ 0x17 then
    [0xFF, 1, 1, 1, 0, 0, 0, 0, 0, 0, 0, 0]
  else if 0x2800 ≤ key / 256 ∧ key / 256 ≤ 0x2807 then zeros 48
  else if key / 256 = 0x2620 then
    let m := leBytes 2 0x2000 ++ zeros 6 ++ leBytes 2 0x2000 ++ zeros 6 ++ leBytes 2 0x2000 ++ zeros 6
    m ++ m
  else if 0x2C00 ≤ key / 256 ∧ key / 256 ≤ 0x2C1F ∧ key % 256 ≠ 0x2C then zeros 256
  else if 0x3000 ≤ key / 256 ∧ key / 256 ≤ 0x3007 then List.replicate 32 0xFF
  else if key / 256 = 0x3010 then List.replicate 1024 0xFF
  else []

/-- A register in force, by key. -/
def State.regAt (s : State) (key : Nat) : Nat := Store.read dictDefault s.regs key

/-- A register in force: item `k` of entry `e` in instance `n`. -/
def State.rd (s : State) (e : EntryDef) (n : Nat := 0) (k : Nat := 0) : Nat := s.regAt (e.key n k)

/-- The same, as a truth value. -/
def State.flag (s : State) (e : EntryDef) (n : Nat := 0) (k : Nat := 0) : Bool := s.rd e n k != 0

/-- The same, with the sign of its type. -/
def State.rdInt (s : State) (e : EntryDef) (n : Nat := 0) (k : Nat := 0) : Int :=
  signed (8 * e.type.size) (s.rd e n k)

/-- The register at `key` set to `v`. -/
def State.setReg (s : State) (key v : Nat) : State :=
  { s with regs := Store.write dictDefault s.regs key v }

/-- A register set, truncated to its type. -/
def State.wr (s : State) (e : EntryDef) (v : Nat) (n : Nat := 0) (k : Nat := 0) : State :=
  s.setReg (e.key n k) (v % 2 ^ (8 * e.type.size))

/-- A register set to an integer in two's complement. -/
def State.wrInt (s : State) (e : EntryDef) (v : Int) (n : Nat := 0) (k : Nat := 0) : State :=
  s.wr e (unsigned (8 * e.type.size) v) n k

/-- A register set to a truth value. -/
def State.wrFlag (s : State) (e : EntryDef) (b : Bool) (n : Nat := 0) (k : Nat := 0) : State :=
  s.wr e b.toNat n k

/-- A counter stepped by `d`, holding the low bits of its width. -/
def State.inc (s : State) (e : EntryDef) (n : Nat := 0) (k : Nat := 0) (d : Nat := 1) : State :=
  s.wr e (s.rd e n k + d) n k

/-- The shadow of a STITCH register (R25, R127). -/
def State.rdShadow (s : State) (e : EntryDef) (n : Nat := 0) (k : Nat := 0) : Nat :=
  Store.read dictDefault s.shadow (e.key n k)

/-- A shadow set by key. -/
def State.setShadow (s : State) (key v : Nat) : State :=
  { s with shadow := Store.write dictDefault s.shadow key v }

/-- A DOMAIN register in force. -/
def State.dom (s : State) (e : EntryDef) (n : Nat := 0) (k : Nat := 0) : List Byte :=
  Store.read domDefault s.doms (e.key n k)

/-- A DOMAIN register set by key. -/
def State.setDom (s : State) (key : Nat) (v : List Byte) : State :=
  { s with doms := Store.write domDefault s.doms key v }

/-- A DOMAIN register set. -/
def State.wrDom (s : State) (e : EntryDef) (v : List Byte) (n : Nat := 0) (k : Nat := 0) : State :=
  s.setDom (e.key n k) v

/-- The shadow of a STITCH DOMAIN. -/
def State.domShadow (s : State) (e : EntryDef) (n : Nat := 0) (k : Nat := 0) : List Byte :=
  Store.read domDefault s.shadowDoms (e.key n k)

/-- The shadow of a STITCH DOMAIN set by key. -/
def State.setDomShadow (s : State) (key : Nat) (v : List Byte) : State :=
  { s with shadowDoms := Store.write domDefault s.shadowDoms key v }

/-! ### Time and the device state -/

/-- Seconds of timebase time (R14). -/
def State.tS (s : State) : Nat := s.timebase / nsPerS % 2 ^ 48

/-- Nanoseconds of timebase time (R14). -/
def State.tNs (s : State) : Nat := s.timebase % nsPerS

/-- A pair of registers set to a timebase time given in ns. -/
def State.wrTime (s : State) (eS eNs : EntryDef) (t : Nat) (n : Nat := 0) (k : Nat := 0) : State :=
  (s.wr eS (t / nsPerS % 2 ^ 48) n k).wr eNs (t % nsPerS) n k

/-- The device state of Table 18.2: RESET while PORST_N is low or the core is stopped, else
0x2000:01 (R483). -/
def State.devState (s : State) : Nat :=
  if s.dev.porstN && !s.dev.stopped then s.rd Dict.DEVICE_STATE_STATE else 0

/-- Whether the dictionary is available: from STANDBY, RECOVERY or TEST on (R484). -/
def State.dictUp (s : State) : Bool := 2 ≤ s.devState

/-- Whether the device runs at all: not in RESET. -/
def State.alive (s : State) : Bool := 1 ≤ s.devState

/-- DEVICE_STATE is STANDBY, RECOVERY or TEST (R86, R493). -/
def State.standbyLike (s : State) : Bool := s.devState == 2 || s.devState == 3 || s.devState == 6

/-- Whether non-volatile writes are suspended: FLOOR_STATE is not 0 (R466, R470, R471). -/
def State.floor (s : State) : Bool := s.rd Dict.SUPPLY_FLOOR_STATE != 0

/-- Whether a time kept plus 1 lies at least `d` ns back; never where none is kept. -/
def State.since (s : State) (mark d : Nat) : Bool := mark != 0 && decide (mark - 1 + d ≤ s.now)

/-! ### The pins -/

/-- The state as a command finds it: nothing put on the pins yet. -/
def State.begin (s : State) : State := { s with wire := [], actor := 0xFF }

/-- SOURCE of an event that a pin causes (Table 14.10). -/
abbrev pinSource : Nat := 0xFE

/-- What follows is done for an access of session `k`, or for a pin (R421). -/
def State.actBy (s : State) (k : Nat) : State := { s with actor := k }

/-- `item` put on the pins. -/
def State.out (s : State) (item : WireItem) : State := { s with wire := s.wire ++ [item] }

/-- A dword of the MSI-X table that the host has not written: vectors start masked (log 69). -/
def msixReset (i : Nat) : Nat := if i % 4 = 3 then 1 else 0

/-- Whether the MSI-X table masks a vector: bit 0 of its entry's vector control (R419, R420). -/
def EventLog.masked (l : EventLog) (v : Nat) : Bool := Store.read msixReset l.msix (4 * v + 3) % 2 == 1

/-- An MSI-X vector fired, or its pending bit set where it is masked; 0xFF is none (R420). -/
def EventLog.fire (l : EventLog) (v : Nat) : EventLog :=
  if v = 0xFF then l
  else if l.masked v then { l with msixPending := if l.msixPending.contains v then l.msixPending else v :: l.msixPending }
  else { l with fired := v :: l.fired }

/-- A dword of the MSI-X table written; a vector that it unmasks fires what is pending (R419, R420). -/
def EventLog.writeMsix (l : EventLog) (i value : Nat) : EventLog :=
  let l := { l with msix := Store.write msixReset l.msix i value }
  let v := i / 4
  if l.msixPending.contains v && !l.masked v then
    { l with msixPending := l.msixPending.filter (· != v), fired := v :: l.fired }
  else l

/-- An MSI-X vector fired. -/
def State.fire (s : State) (v : Nat) : State := { s with ev := s.ev.fire v }

/-! ### Raising an event -/

/-- What the recorder does with an event (R457, R458): the time and cycle count it stamps and whether
non-volatile writes are suspended. -/
structure Stamp where
  opSeconds : Nat
  cycles : Nat
  suspended : Bool
  synthesised : Bool
deriving DecidableEq, Repr

/-- Whether an event merges into a record (R458). -/
def Rec.takes (r : Rec) (e : Ev) : Bool :=
  r.code == e.code && r.source == e.source && r.paramA == e.paramA

/-- The record after a merge (R458). -/
def Rec.merge (r : Rec) (t : Stamp) (e : Ev) : Rec :=
  { r with
    rep := min 65535 (r.rep + 1)
    saturated := r.saturated || 65535 ≤ r.rep
    paramB := e.paramB
    lastS := t.opSeconds
    intact := true }

/-- A new record of an event (R457). -/
def Rec.ofEv (t : Stamp) (e : Ev) : Rec where
  seq := 0
  code := e.code
  source := e.source
  severity := e.severity
  deferred := t.suspended
  saturated := false
  synthesised := t.synthesised
  firstS := t.opSeconds
  cycles := t.cycles
  rep := 1
  paramA := e.paramA
  paramB := e.paramB
  lastS := t.opSeconds
  intact := true

/-- A record written to its slot of the ring through the journal (R459, R460). -/
def EventLog.writeRing (l : EventLog) (ring : List Rec) (r : Rec) : EventLog :=
  { l with
    ring := (r :: ring).take 32768
    journal := (r.seq % 32768, r) :: l.journal.take 1 }

/-- A new record enters the ring with the next sequence (R459). -/
def EventLog.pushRing (l : EventLog) (r : Rec) : EventLog :=
  let l' := l.writeRing l.ring { r with seq := l.nextRec }
  { l' with nextRec := (l.nextRec + 1) % 2 ^ 32 }

/-- A list with the first element that `p` holds of taken out. -/
def takeOut (p : α → Bool) : List α → Option (α × List α)
  | [] => none
  | a :: l => if p a then some (a, l) else
    match takeOut p l with
    | some (x, l') => some (x, a :: l')
    | none => none

/-- A new record joins the queue of the write floor, or takes the place of the newest one of lower
severity when 256 are queued; the flag says whether it is kept (R469). -/
def EventLog.queueRecord (l : EventLog) (r : Rec) : EventLog × Bool :=
  if l.deferred.length < 256 then ({ l with deferred := l.deferred ++ [r] }, true)
  else
    match takeOut (fun q => decide (q.severity < r.severity)) l.deferred.reverse with
    | some (q, rest) =>
      ({ l with
         deferred := rest.reverse ++ [r]
         dropped := l.dropped + 1
         lostNow := l.lostNow + 1
         lostSeverity := max l.lostSeverity q.severity }, true)
    | none =>
      ({ l with
         dropped := l.dropped + 1
         lostNow := l.lostNow + 1
         lostSeverity := max l.lostSeverity r.severity }, false)

/-- The recorder takes an event: merged, queued or written; the flag is bit 0 of the queue entry's
SEVERITY byte (R29, R457, R458). -/
def EventLog.record (l : EventLog) (t : Stamp) (e : Ev) : EventLog × Bool :=
  if e.severity < 2 then (l, false)
  else if t.suspended || !l.deferred.isEmpty then
    match l.deferred.reverse with
    | r :: older =>
      if r.takes e then
        ({ l with deferred := older.reverse ++ [r.merge t e], merges := l.merges + 1 }, true)
      else l.queueRecord (Rec.ofEv t e)
    | [] => l.queueRecord (Rec.ofEv t e)
  else
    match l.ring with
    | r :: older =>
      if r.takes e && r.intact then
        ({ l.writeRing older (r.merge t e) with merges := l.merges + 1 }, true)
      else (l.pushRing (Rec.ofEv t e), true)
    | [] => (l.pushRing (Rec.ofEv t e), true)

/-- The severity byte of Table 14.10 (R421). -/
def Ev.severityByte (e : Ev) : Nat := e.severity * 32 + e.recorded.toNat

/-- The 32 bytes of a queue entry, Table 14.10. -/
def Ev.bytes (e : Ev) : List Byte :=
  leBytes 4 e.seq ++ leBytes 2 e.code ++ leBytes 1 e.source ++ leBytes 1 e.severityByte
  ++ leBytes 6 e.timeS ++ leBytes 4 e.timeNs ++ zeros 2 ++ leBytes 4 e.paramA ++ leBytes 4 e.paramB
  ++ zeros 4

/-- The waiting entries that a ring of `size` entries has room for, oldest first (R424). -/
def EventLog.hostCopied (l : EventLog) (size : Nat) : List Ev :=
  l.hostWaiting.take (size - (l.hostProducer + 2 ^ 32 - l.hostConsumer) % 2 ^ 32)

/-- Whether an entry can be copied to a host ring of `size` entries at once: none waits, and the cached consumer index
leaves room (R424). -/
def EventLog.hostRoom (l : EventLog) (size : Nat) : Bool :=
  l.hostWaiting.isEmpty && (l.hostProducer + 2 ^ 32 - l.hostConsumer) % 2 ^ 32 < size

/-- Copying an entry to the host ring, or leaving it for the next descriptor read (R424). -/
def EventLog.toHost (l : EventLog) (size : Nat) (e : Ev) : EventLog :=
  if l.hostRoom size then
    { l with hostRing := e :: l.hostRing, hostProducer := (l.hostProducer + 1) % 2 ^ 32 }
  else { l with hostWaiting := l.hostWaiting ++ [e] }

/-- The NMT state an interface reports (R410): 0 before its boot-up message, 4 Stopped,
5 Operational, 127 Pre-operational. -/
def State.nmtState (s : State) (i : Nat) : Nat :=
  let n := (s.canAt i).nmt
  if n = 0 ∨ n = 4 then n
  else if s.rd Dict.MANAGEMENT_NMT_CONTROL = 0 then (if s.devState = 4 then 5 else 127)
  else n

/-- The transport that XPORT_SEL names (Table 18.1): 0 CAN0, 1 UDP, 2 SPI, 3 PCIe. -/
def State.firstTransport (s : State) : Nat := field s.dev.straps 3 2

/-- In RECOVERY and TEST only the first transport is enabled (R493). -/
def State.onlyFirst (s : State) : Bool := s.devState == 2 || s.devState == 6

/-- The node-ID of interface `i`; for CAN0 as first transport a 0 becomes 127 (R409, R482). -/
def State.nodeId (s : State) (i : Nat) : Nat :=
  let n := if s.rd Dict.MANAGEMENT_NODE_ID_SOURCE = 0 then field s.dev.straps 10 4
    else s.rd Dict.MANAGEMENT_NODE_ID
  if n = 0 ∧ i = 0 ∧ s.firstTransport = 0 then 127 else n

/-- Whether CAN interface `i` is enabled and has a node-ID (R409, R482, R493). -/
def State.canUp (s : State) (i : Nat) : Bool :=
  s.dictUp && s.nodeId i != 0 &&
    ((i == 0 && s.firstTransport == 0) || (!s.onlyFirst && bit (s.rd Dict.MANAGEMENT_CAN_ENABLE) i))

/-- Whether some STATUS bit is set whose ENABLE bit is set (R253, R423). -/
def State.legacyOn (s : State) : Bool :=
  [(Dict.LEGACY_EVENTS_STATUS_START_OF_BLANK, Dict.LEGACY_EVENTS_ENABLE_START_OF_BLANK),
   (Dict.LEGACY_EVENTS_STATUS_LINE_MATCH, Dict.LEGACY_EVENTS_ENABLE_LINE_MATCH),
   (Dict.LEGACY_EVENTS_STATUS_FRAME_DONE, Dict.LEGACY_EVENTS_ENABLE_FRAME_DONE),
   (Dict.LEGACY_EVENTS_STATUS_UNDERRUN, Dict.LEGACY_EVENTS_ENABLE_UNDERRUN)].any
    (fun e => s.rd e.1 &&& s.rd e.2 != 0)

/-- Whether EVT_N is asserted; in LOAD it is not (R253, R423, R484). -/
def State.evtPin (s : State) : Bool := s.dictUp && (s.ev.evtN || s.legacyOn)

/-- Whether ALERT_N is asserted: FLAGS bit 0 or bit 1 is set, or DEVICE_STATE is SAFE (R505). -/
def State.alertPin (s : State) : Bool :=
  bit (s.rd Dict.GOVERNOR_STATUS_FLAGS) 0 || bit (s.rd Dict.GOVERNOR_STATUS_FLAGS) 1
    || s.rd Dict.DEVICE_STATE_STATE == 5

/-- The pin ALERT_N; 1 asserts it (R505). -/
abbrev pinAlert : Nat := 15

/-- ALERT_N follows its conditions; `was`: how it stood (R505). -/
def State.tellAlert (s : State) (was : Bool) : State :=
  if s.alertPin = was then s else s.out (.pin pinAlert 0 s.alertPin.toNat)

/-- ERROR_REGISTER, 0x1001: its bit 0 follows EVT_N_STATE (R412). -/
def State.errorRegister (s : State) : Nat :=
  s.ev.evtN.toNat + 8 * (bit (s.rd Dict.GOVERNOR_STATUS_FLAGS) 1).toNat + 128 * s.gov.breach.toNat

/-- The bytes of an EMCY (R412). -/
def State.emcyBytes (s : State) (e : Ev) : List Byte :=
  leBytes 2 (0xFF00 + e.code / 4096) ++ leBytes 1 s.errorRegister ++ leBytes 2 e.code
  ++ leBytes 1 e.severityByte ++ leBytes 4 e.paramA ++ leBytes 4 e.paramB

/-- Interface `i` sends the event as an EMCY when it may (R412). -/
def State.emcyOn (s : State) (e : Ev) (l : EventLog) (i : Nat) : EventLog :=
  let n := s.nmtState i
  let last := Store.read (fun _ => 0) l.emcyAt i
  if s.canUp i && (n == 5 || n == 127) && s.rd Dict.MANAGEMENT_EMCY_SEVERITY ≤ e.severity
      && (last == 0 || last - 1 + s.rd Dict.INHIBIT_TIME_EMCY_VALUE * 100000 ≤ s.now) then
    { l with
      emcy := (i, { s with ev := l }.emcyBytes e) :: l.emcy
      emcyAt := Store.write (fun _ => 0) l.emcyAt i (s.now + 1) }
  else l

/-- Whether UDP is served (R413, R482, R493). -/
def State.udpUp (s : State) : Bool :=
  s.dictUp && (s.firstTransport == 1 || (!s.onlyFirst && s.flag Dict.MANAGEMENT_UDP_ENABLE))

/-- Kind of `WireItem.packet`: a UDP datagram of a session. -/
abbrev packetUdp : Nat := 7

/-- The EVENT datagram that carries an entry, with the session's own sequence and its tag (R413, R416, Tables 14.6 and
14.7; one entry in each, log 34). -/
def udpEvent (session seq : Nat) (ks : List Byte) (e : Ev) : List Byte :=
  let body := [1, 8] ++ beBytes 2 session ++ beBytes 4 seq ++ beBytes 2 (Config.eventEntry / 256)
    ++ beBytes 1 Config.eventEntry ++ zeros 1 ++ beBytes 2 32 ++ zeros 2 ++ e.bytes
  body ++ hmac16 ks body

/-- Whether an event goes to session `k`'s subscription (R416). -/
def State.subscribed (s : State) (e : Ev) (k : Nat) : Bool :=
  let u := s.sessAt k
  u.isOpen && u.subSeverity != 0xFF && decide (u.subSeverity ≤ e.severity)

/-- The event goes to a UDP session's subscription, under the session's own sequence (R416). -/
def State.udpEventOn (s : State) (e : Ev) (l : EventLog) (k : Nat) : EventLog :=
  if s.subscribed e k then
    let q := Store.read (fun _ => 0) l.udpSeq k + 1
    { l with udpEvents := (k, q, e) :: l.udpEvents, udpSeq := Store.write (fun _ => 0) l.udpSeq k q }
  else l

/-- The EVENT datagram that carries an event to session `k`, if it subscribes to it (R416). -/
def State.udpEventTo (s : State) (e : Ev) (k : Nat) : Option WireItem :=
  if s.subscribed e k then
    some (.packet packetUdp k (udpEvent (k - 3) (Store.read (fun _ => 0) s.ev.udpSeq k + 1) (s.sessAt k).ks e))
  else none

/-- A burst of entries written to the slots of the host ring from a producer index on, oldest first, and the new producer
index to bytes 4 to 7 of the descriptor (R424; slots as log 34 says). -/
def State.burst (s : State) (first : Nat) (l : List Ev) : List WireItem :=
  let slot (i : Nat) : Nat := (first + i) % 2 ^ 32 % s.rd Dict.EVENT_QUEUE_HOST_RING_ENTRIES
  let at_ (i : Nat) : Nat := s.rd Dict.EVENT_QUEUE_HOST_RING_ADDR + 32 * slot i
  if l.isEmpty then []
  else l.zipIdx.map (fun e => .host (at_ e.2) e.1.bytes)
    ++ [.host (s.rd Dict.EVENT_QUEUE_HOST_RING_CONTROL + 4) (leBytes 4 (first + l.length))]

/-- Whether an event goes to the host ring (R424). -/
def State.ringTakes (s : State) (e : Ev) : Bool :=
  s.flag Dict.EVENT_QUEUE_HOST_RING_ENABLE && decide (s.rd Dict.EVENT_QUEUE_HOST_RING_SEVERITY ≤ e.severity)

/-- What an event puts on the wire: its burst to the host ring where that has room, and its EVENT datagrams (R416, R424). -/
def State.tellings (s : State) (e : Ev) : List WireItem :=
  let copied := s.ringTakes e && s.ev.hostRoom (s.rd Dict.EVENT_QUEUE_HOST_RING_ENTRIES)
  (if copied then s.burst s.ev.hostProducer [e] else []) ++ [4, 5, 6, 7, 8, 9, 10, 11].filterMap (s.udpEventTo e)

/-- An event enters the queue, the recorder and every output whose threshold it meets (R29, R421,
R423, R424, R412, R416). -/
def State.raiseWith (s : State) (synthesised : Bool) (source : Nat) (d : EventDef) (a b : Nat) : State :=
  let t : Stamp :=
    { opSeconds := s.life.opSeconds, cycles := s.life.cycles, suspended := s.floor, synthesised }
  let e0 : Ev :=
    { seq := s.ev.nextSeq, code := d.code, source, severity := d.severity, recorded := false
      timeS := s.tS, timeNs := s.tNs, paramA := a % 2 ^ 32, paramB := b % 2 ^ 32 }
  let (l, kept) := s.ev.record t e0
  let e := { e0 with recorded := kept }
  let l := { l with queue := (e :: l.queue).take 32768, nextSeq := (l.nextSeq + 1) % 2 ^ 32 }
  let l := if s.rd Dict.EVENT_QUEUE_EVT_N_SEVERITY ≤ e.severity then
      { l.fire (s.rd Dict.EVENT_QUEUE_EVENT_MSIX_VECTOR) with evtN := true }
    else l
  let l := if s.ringTakes e then l.toHost (s.rd Dict.EVENT_QUEUE_HOST_RING_ENTRIES) e else l
  let l := [0, 1].foldl (s.emcyOn e) l
  let l := [4, 5, 6, 7, 8, 9, 10, 11].foldl (s.udpEventOn e) l
  { s with ev := l, wire := s.wire ++ s.tellings e }

/-- An event raised by an access of a session (R421). -/
def State.raiseBy (s : State) (source : Nat) (d : EventDef) (a b : Nat) : State :=
  s.raiseWith false source d a b

/-- An event raised by the access being served, or by the device itself (R421). -/
def State.raise (s : State) (d : EventDef) (a b : Nat) : State := s.raiseBy s.actor d a b

/-- An event raised by a pin (R421). -/
def State.raisePin (s : State) (d : EventDef) (a b : Nat) : State := s.raiseBy pinSource d a b

/-- An event raised when a condition holds. -/
def State.raiseIf (s : State) (c : Bool) (d : EventDef) (a b : Nat) : State :=
  if c then s.raise d a b else s

/-- The sequence of the newest queue entry (R421, R428). -/
def State.newestSeq (s : State) : Nat := (s.ev.nextSeq + 2 ^ 32 - 1) % 2 ^ 32

/-- The sequence of the oldest queue entry (R428). -/
def State.oldestSeq (s : State) : Nat :=
  if s.ev.queue.isEmpty then s.newestSeq else (s.ev.nextSeq + 2 ^ 32 - s.ev.queue.length) % 2 ^ 32

/-! ### Sessions -/

/-- The base rights of a session (Table 14.3, R401). -/
def State.baseRights (s : State) (k : Nat) : Rights :=
  if k ≤ 1 then Rights.ofRank (s.rd Dict.MANAGEMENT_BASE_RIGHTS_CAN)
  else if k = 2 then Rights.ofRank (s.rd Dict.MANAGEMENT_BASE_RIGHTS_SPI)
  else if k = 3 then (if bit s.dev.straps 11 then .integrator else .operator)
  else .none

/-- The oldest record's sequence (R472). -/
def State.oldestRec (s : State) : Nat :=
  match s.ev.ring.getLast? with
  | some r => r.seq
  | none => (s.ev.nextRec + 2 ^ 32 - 1) % 2 ^ 32

/-- Register key of 0x3801:01 (POSITION), whose copy starts at OLDEST_SEQ (R461). -/
abbrev positionKey : Nat := Dict.RECORD_WINDOW_POSITION.key

/-- A session as it stands when it opens (R399, R401, R422, R461). -/
def State.freshSess (s : State) (k : Nat) : Sess :=
  { Sess.init with
    rights := s.baseRights k
    isOpen := true
    cursor := (s.newestSeq + 1) % 2 ^ 32
    minSeverity := s.minSeverityDefault
    windows := Store.write dictDefault [] positionKey s.oldestRec
    lastAt := s.now }

/-- A session opens. -/
def State.openSess (s : State) (k : Nat) : State := s.putSess k (s.freshSess k)

/-- How many UDP sessions are open (0x2270:26). -/
def State.udpOpen (s : State) : Nat :=
  ([4, 5, 6, 7, 8, 9, 10, 11].filter (fun k => (s.sessAt k).isOpen)).length

/-- A session's rights return to base, its open transfers are abandoned and RIGHTS_DROPPED is raised; a
UDP session is closed instead (R404).  Causes are those of RIGHTS_DROPPED. -/
def State.dropRights (s : State) (k cause : Nat) : State :=
  let u := s.sessAt k
  if 4 ≤ k then
    if u.isOpen then (s.putSess k Sess.init).raise Event.SESSION_CLOSED k cause else s
  else
    (s.putSess k { u with rights := s.baseRights k, grantSlot := 0xFF, transfer := none, reading := none
                          nonceFresh := false }).raise Event.RIGHTS_DROPPED k cause

/-- Every session drops, as at a change of LIFECYCLE (R404). -/
def State.dropAll (s : State) (cause : Nat) : State :=
  (List.range 12).foldl (fun s k => s.dropRights k cause) s

/-- Every session whose rights slot `slot` granted drops (R404). -/
def State.dropGrantedBy (s : State) (slot : Nat) : State :=
  (List.range 12).foldl
    (fun s k => if (s.sessAt k).grantSlot = slot then s.dropRights k 5 else s) s

/-- Milestone `i` of Table 18.3 is reached, in ms from the sampling of the straps, if it was not before (R484, Table
18.4). -/
def State.milestone (s : State) (i : Nat) : State :=
  if s.dev.startTimes[i]? = some 0xFFFFFFFF then
    { s with dev := { s.dev with startTimes := s.dev.startTimes.set i (min ((s.now - s.dev.bootAt) / 1000000) 0xFFFFFFFE) } }
  else s

/-- `n` random bytes and the state after the draw. -/
def State.draw (s : State) (n : Nat) : List Byte × State :=
  ((List.range n).map (Config.randomByte s.draws), { s with draws := s.draws + 1 })

end Sys2Proof.Machine
end

