-- ==== Sys2Proof/Machine/Operands.lean ====
section
/-! DEFINITION. The operand forms of an access: its entry, its size and its value, the checks of Table
14.2 in their order, and what a refusal leaves behind (R396 to R400, R427). -/
namespace Sys2Proof.Machine
open Sys2Proof

/-- A refusal: its abort code and detail, the first failing field and table entry (R400, R427), and
whether the write raises its own event in place of WRITE_REFUSED (R159). -/
structure Refuse where
  abort : Nat
  detail : Nat
  fieldIndex : Nat
  fieldSub : Nat
  entry : Nat
  ownEvent : Bool
deriving DecidableEq, Repr

/-- A refusal that names no field and no table entry. -/
def Refuse.plain (abort detail : Nat) : Refuse := ⟨abort, detail, 0, 0, 0xFFFFFFFF, false⟩

/-- A refusal by a rule of the owning chapter (Table 14.2, check 8). -/
def Refuse.rule (detail : Nat) : Refuse := .plain 0x08000022 detail

/-- A rule's refusal that names the failing table entry (R427). -/
def Refuse.tableEntry (detail entry : Nat) : Refuse := { Refuse.rule detail with entry }

/-- A rule's refusal that names the failing field (R136, R427). -/
def Refuse.atField (detail index sub : Nat) : Refuse :=
  { Refuse.rule detail with fieldIndex := index, fieldSub := sub }

/-- A refusal naming a field of an entry (R136). -/
def Refuse.field (detail : Nat) (e : EntryDef) (n : Nat := 0) (k : Nat := 0) : Refuse :=
  .atField detail (e.base + n) (e.lo + k)

/-- What the chapter's rules make of a write that has passed checks 1 to 7: done; refused, with what
the refusal itself changes; or answered only later. -/
inductive Effect where
  | done (s : State)
  | refused (r : Refuse) (s : State)
  | waits (s : State)
deriving DecidableEq, Repr

/-- An effect refused when a condition holds. -/
def Effect.unless (c : Bool) (r : Refuse) (s : State) (e : Effect) : Effect :=
  if c then .refused r s else e

/-- The first refusal of a list of conditions, in order. -/
def firstOf : List (Bool × Refuse) → Option Refuse
  | [] => none
  | (c, r) :: l => if c then some r else firstOf l

/-! ### Values -/

/-- A raw value lies in an entry's range (Table 14.2, check 6; R5). -/
def EntryDef.admits (e : EntryDef) (v : Nat) : Bool :=
  let i : Int := if e.type.isSigned then signed (8 * e.type.size) v else v
  match e.range with
  | .any => true
  | .within lo hi => decide (lo ≤ i ∧ i ≤ hi)
  | .withinOr lo hi l => decide (lo ≤ i ∧ i ≤ hi) || l.contains v
  | .oneOf l => l.contains v
  | .bits m => v &&& m == v
  | .multiple n => v % n == 0
  | .pow2 lo hi => decide (lo ≤ v ∧ v ≤ hi) && isPow2 v
  | .multicast => decide (v < 2 ^ 48) && bit v 40
  | .lowByte hi => decide (v % 256 ≤ hi)
  | .length _ _ => true

/-- A Q32.16 value fills its container by sign extension (R6). -/
def EntryDef.wellFormed (e : EntryDef) (v : Nat) : Bool :=
  e.type != .q32 || v == unsigned 64 (signed 48 v)

/-- The size fits the type: exact for scalars, at most the greatest length for blocks (check 4). -/
def EntryDef.sizeFits (e : EntryDef) (n : Nat) : Bool :=
  if e.type.isBlock then
    match e.range with
    | .length _ hi => decide (n ≤ hi)
    | _ => decide (n ≤ 255)
  else n == e.type.size

/-- The reserved bits of a DOMAIN with a stated layout are clear (R5): Tables 8.7, 8.3, 7.3 and 7.4.  The tables of
chapters 5, 9 and 11 are judged entry by entry as their rules state. -/
def EntryDef.reservedClear (e : EntryDef) (data : List Byte) : Bool :=
  if e.key = Dict.HEAD_CHECK_WINDOWS.key then
    (chunks 16 16 data).all (fun w => decide (byteAt w 0 < 4) && (w.drop 10).all (· == 0))
  else if e.key = Dict.HEAD_NEW_TIMING.key then decide (byteAt data 15 < 4 ∧ leAt data 22 2 = 0)
  else if e.key = Dict.CANVAS_WB_DESC.key then
    (data.drop 34).all (· == 0) && (byteAt data 0 != 2 || byteAt data 19 == 0)
  else if e.key = Dict.OVERCOAT_IMAGE_DESC.key then (data.drop 6).all (· == 0)
  else true

/-- The value or length lies in the range, and no reserved bit is set (check 6, R5). -/
def EntryDef.valueFits (e : EntryDef) (data : List Byte) : Bool :=
  if e.type.isBlock then
    (match e.range with
    | .length lo _ => decide (lo ≤ data.length)
    | _ => true) && e.reservedClear data
  else e.admits (leNat data) && e.wellFormed (leNat data)

/-! ### Sessions and windows -/

/-- A window entry of a session (R399). -/
def State.window (s : State) (k : Nat) (e : EntryDef) : Nat :=
  Store.read dictDefault (s.sessAt k).windows e.key

/-- A window entry set. -/
def State.setWindow (s : State) (k : Nat) (key v : Nat) : State :=
  s.modSess k (fun u => { u with windows := Store.write dictDefault u.windows key v })

/-- The window entries of R399: those of chapters 5 to 9, 11, 12, 13 and 17 that select where a
transfer starts. -/
def windowKeys : List Nat :=
  [Dict.ROUTE_CONTROL_TABLE_WINDOW.key, Dict.COEFF_BANKS_BANK_WINDOW.key,
   Dict.COLOUR_LUTS_LUT_WINDOW.key, Dict.COLOUR_LUTS_LUT3D_WINDOW.key,
   Dict.OVERCOAT_IMAGE_WINDOW.key, Dict.TILE_MAP_CONTROL_MAP_WINDOW.key,
   Dict.TILE_MAP_CONTROL_CALIB_WINDOW.key, Dict.PTL_TILE_WINDOW.key,
   Dict.AUDIO_MATRIX_CHANNEL_WINDOW.key, Dict.AUDIO_MATRIX_STREAM_WINDOW.key,
   Dict.POCKET_DIR_WINDOW.key, Dict.PATCH_MAP_WINDOW.key, Dict.FAULT_WEIGHTS_WINDOW.key,
   Dict.RECORD_WINDOW_POSITION.key]

/-- A table moved in whole entries: entry size, number of entries, and the window it starts at
(R146, R268, R273, R344). -/
structure TableShape where
  size : Nat
  entries : Nat
  window : EntryDef

/-- The table behind a DOMAIN entry, if it is one that moves whole entries. -/
def tableShape (index sub : Nat) : Option TableShape :=
  if index = 0x2500 ∧ sub = 1 then some ⟨32, 16384, Dict.ROUTE_CONTROL_TABLE_WINDOW⟩
  else if index = 0x2E00 ∧ sub = 1 then some ⟨32, 65536, Dict.TILE_MAP_CONTROL_MAP_WINDOW⟩
  else if index = 0x2E20 ∧ sub = 1 then some ⟨24, 65536, Dict.TILE_MAP_CONTROL_CALIB_WINDOW⟩
  else if index = 0x3010 ∧ sub = 4 then some ⟨16, 256, Dict.AUDIO_MATRIX_CHANNEL_WINDOW⟩
  else if index = 0x3010 ∧ sub = 7 then some ⟨32, 128, Dict.AUDIO_MATRIX_STREAM_WINDOW⟩
  else none

/-- A table transfer is not a whole number of entries, or runs past the last (check 7). -/
def State.tableMisfits (s : State) (k index sub n : Nat) : Bool :=
  match tableShape index sub with
  | some t => n % t.size != 0 || decide (t.entries < s.window k t.window + n / t.size)
  | none => false

/-- Another session has a transfer of the entry open, a write or a read of it by blocks (check 7). -/
def State.openElsewhere (s : State) (k index sub : Nat) : Bool :=
  (List.range 12).any (fun j => j != k &&
    [(s.sessAt j).transfer, (s.sessAt j).reading].any (fun o =>
      match o with
      | some t => t.index == index && t.sub == sub
      | none => false))

/-! ### HALT fields -/

/-- Whether any TILE head runs (R289). -/
def State.tileHeadRuns (s : State) : Bool :=
  (List.range 32).any (fun h => (s.headAt h).running && s.rd Dict.HEAD_TYPE h == 1)

/-- Whether every SAP, stream and head embedder is disabled (R344). -/
def State.audioAllOff (s : State) : Bool :=
  (List.range 8).all (fun n => !s.flag Dict.SAP_ENABLE n)
    && (List.range 128).all (fun k => !bit (byteAt (s.streamEntryAt k) 0) 0)
    && (List.range 512).all (fun i => leAt (s.dom Dict.AUDIO_MATRIX_HEAD_MAP) (2 * i) 2 == 0xFFFF)

/-- Whether the block that owns a HALT field runs (R128): what stops each block is its chapter's
(R86 to R90, R94, R121, R122, R194, R231, R289, R308, R316, R343, R344, R349, R360, R428). -/
def State.blockRuns (s : State) (index sub : Nat) : Bool :=
  if index = 0x2020 then s.flag Dict.EVENT_QUEUE_HOST_RING_ENABLE
  else if index < 0x2200 then
    if index < 0x2120 then s.flag Dict.REF_ENABLE (index - 0x2110)
    else s.flag Dict.FTG_ENABLE (index - 0x2130) || (s.ftgAt (index - 0x2130)).running
  else if index < 0x2240 then (s.ulaneAt (index - 0x2200)).state != .off
  else if index < 0x2260 then s.flag Dict.GROUP_PORT_ADMIN ((index - 0x2240) / 4)
  else if index = 0x2260 then s.flag Dict.POCKET_ENABLE
  else if index = 0x2270 then !s.standbyLike
  else if index < 0x22B0 then s.flag Dict.PORT_ADMIN (index - 0x2280)
  else if index < 0x22B4 then s.flag Dict.GROUP_PORT_ADMIN (index - 0x22B0)
  else if index < 0x2440 then s.flag Dict.INPUT_ENABLE (index - 0x2400)
  else if index < 0x2460 then s.flag Dict.HOST_SOURCE_ENABLE (index - 0x2440)
  else if index < 0x2480 then s.flag Dict.POCKET_PLAYER_ENABLE (index - 0x2460)
  else if index < 0x2808 then s.flag Dict.CANVAS_ENABLE (index - 0x2800)
  else if index < 0x2C20 then s.flag Dict.HEAD_ENABLE (index - 0x2C00) || (s.headAt (index - 0x2C00)).running
  else if index = 0x2E10 then
    if sub < 0x20 then s.tileHeadRuns else s.flag Dict.PORT_ADMIN (sub - 0x20)
  else if index < 0x3010 then s.flag Dict.SAP_ENABLE (index - 0x3000)
  else if index = 0x3010 then !s.audioAllOff
  else !s.standbyLike

/-! ### The checks of Table 14.2 -/

/-- Check 1: the entry, or the abort of its absence. -/
def lookup (index sub : Nat) : Except Refuse EntryDef :=
  match objectAt index with
  | none => .error (.plain 0x06020000 0)
  | some _ =>
    match entryAt index sub with
    | none => .error (.plain 0x06090011 0)
    | some e => .ok e

/-- The least rights for an access: any rw entry may be read with OPERATOR rights (R398). -/
def EntryDef.needs (e : EntryDef) (write : Bool) : Nat :=
  if e.access = .rw ∧ write = false then min e.rights.rank 1 else e.rights.rank

/-- Checks 1 to 3 and 7 of a read (R400). -/
def State.readCheck (s : State) (k index sub : Nat) : Except Refuse EntryDef :=
  match lookup index sub with
  | .error r => .error r
  | .ok e =>
    if e.access = .wo then .error (.plain 0x06010001 0)
    else if (s.sessAt k).rights.rank < e.needs false then .error (.rule 0xB0)
    else if e.type.isBlock && s.openElsewhere k index sub then .error (.plain 0x08000021 0xB6)
    else .ok e

/-- Checks 2 to 7 of a write of an entry of the dictionary (R400).  `free` leaves out the checks of
rights and of HALT fields, as loading a saved configuration does (R486); MATRIX_RATE has a detail of its own
(Table 11.8, log 27). -/
def State.writeChecks (s : State) (free : Bool) (k : Nat) (e : EntryDef) (index sub : Nat)
    (data : List Byte) : Option Refuse :=
  firstOf
    [(e.access == .ro || e.access == .const, .plain 0x06010002 0),
     (!free && decide ((s.sessAt k).rights.rank < e.needs true), .rule 0xB0),
     (!e.sizeFits data.length, .plain 0x06070010 0),
     (!free && e.apply == .halt && s.blockRuns index sub, .rule (if index = 0x3010 then 0x70 else 0x10)),
     (!e.valueFits data, .plain 0x06090030 0x12),
     (e.type.isBlock && (s.openElsewhere k index sub || s.tableMisfits k index sub data.length),
      .plain 0x08000021 0xB6)]

/-- Checks 1 to 7 of a write (R400). -/
def State.writeCheck (s : State) (free : Bool) (k index sub : Nat) (data : List Byte) :
    Except Refuse EntryDef :=
  match lookup index sub with
  | .error r => .error r
  | .ok e =>
    match s.writeChecks free k e index sub data with
    | some r => .error r
    | none => .ok e

/-! ### Answers -/

/-- The datagram that answers a UDP request of a session (R413, Table 14.6); `tagged` by its Ks, else with a tag of
zeroes (R415). -/
def udpDatagram (session : Nat) (a : Asked) (ks : List Byte) (tagged error more : Bool) (payload : List Byte) :
    List Byte :=
  let body := [1, BitVec.ofNat 8 (a.op + 128)] ++ beBytes 2 session ++ beBytes 4 a.seq ++ beBytes 2 a.index
    ++ beBytes 1 a.sub ++ beBytes 1 (more.toNat + 2 * error.toNat) ++ beBytes 2 payload.length ++ zeros 2 ++ payload
  body ++ (if tagged then hmac16 ks body else zeros 16)

/-- The answer to the oldest waiting UDP request of session `k` that names an index: sent, and kept for a repeat of
the request (R413, R416). -/
def State.udpAnswer (s : State) (k index : Nat) (r : Response) : State :=
  let u := s.sessAt k
  match u.asked.find? (fun a => a.index == index) with
  | none => s
  | some a =>
    let error := r.abort != 0
    let payload := if error then beBytes 4 r.abort ++ beBytes 2 r.detail else a.lead ++ r.data
    let d := udpDatagram (k - 3) a u.ks true error r.more payload
    (s.putSess k { u with asked := u.asked.erase a, cached := if a.seq = u.lastSeq then d else u.cached }).out
      (.packet packetUdp k d)

/-- The outstanding SPI request is done or refused (R417). -/
def State.spiAnswer (s : State) (index : Nat) (r : Response) : State :=
  if s.spi.status = 1 ∧ s.spi.index = index then
    { s with spi :=
        { status := if r.abort = 0 then 2 else 3, index := index, abort := r.abort, detail := r.detail, data := r.data } }
  else s

/-- The mailbox's request is done or refused; MAILBOX_MSIX_VECTOR fires (R418). -/
def State.mailboxAnswer (s : State) (index : Nat) (r : Response) : State :=
  let m := s.mailbox
  if m.status = 1 ∧ m.address / 256 = index then
    let read := r.abort == 0 && m.op % 2 == 1
    let m :=
      { m with
        status := if r.abort = 0 then 2 else 3, abort := r.abort, detail := r.detail
        op := m.op % 256 + (if (if read then r.more else bit m.op 8) then 256 else 0)
        value := if read then leNat (r.data.take 8) else m.value
        length := if read then r.data.length else m.length
        data := if read then r.data else m.data }
    { s with mailbox := m }.fire (s.rd Dict.MANAGEMENT_MAILBOX_MSIX_VECTOR)
  else s

/-- The answer to an access of an entry of `index`, put on its session's transport (R413, R417, R418). -/
def State.answer (s : State) (index : Nat) (r : Response) : State :=
  let s := s.out (.response r)
  if r.sess = 2 then s.spiAnswer index r
  else if r.sess = 3 then s.mailboxAnswer index r
  else if 4 ≤ r.sess then s.udpAnswer r.sess index r
  else s

/-- An access of an entry of `index` answered with its data. -/
def State.respond (s : State) (k index : Nat) (data : List Byte) (more : Bool) : State :=
  s.answer index ⟨k, 0, 0, data, more⟩

/-- LAST_REFUSAL of a session after a refusal (R427). -/
def State.noteRefusal (s : State) (k index sub : Nat) (r : Refuse) : State :=
  s.modSess k (fun u =>
    { u with
      refIndex := index, refSub := sub, refAbort := r.abort, refDetail := r.detail
      refFieldIndex := r.fieldIndex, refFieldSub := r.fieldSub, refEntry := r.entry
      refTimeS := s.tS, refTimeNs := s.tNs, refCount := (u.refCount + 1) % 2 ^ 32 })

/-- An access of an entry of `index` answered with an abort. -/
def State.abort (s : State) (k index : Nat) (r : Refuse) : State :=
  s.answer index ⟨k, r.abort, r.detail, [], false⟩

/-- A refused read updates LAST_REFUSAL only (R400). -/
def State.refuseRead (s : State) (k index sub : Nat) (r : Refuse) : State :=
  (s.noteRefusal k index sub r).abort k index r

/-- Parameter A of the events of a commit's scope: its kind, 1 head, 2 canvas, 3 stitch group, 4 layer, and number (R159). -/
abbrev scopeCode (kind num : Nat) : Nat := kind * 256 + num

/-- Parameter A of a flow-route output's events: kind 5 in bits 23:16 and the output (R159). -/
abbrev outputCode (o : Nat) : Nat := 5 * 65536 + o

/-- The scope that an entry commits, COMMIT of a head, of a canvas or of the stitch group (R127, R138). -/
def commitScope (index sub : Nat) : Option (Nat × Nat) :=
  if 0x2C40 ≤ index ∧ index < 0x2C60 ∧ sub = 1 then some (1, index - 0x2C40)
  else if 0x2860 ≤ index ∧ index < 0x2868 ∧ sub = 1 then some (2, index - 0x2860)
  else if index = 0x2870 ∧ sub = 3 then some (3, 0)
  else none

/-- The event of a refused write: WRITE_REFUSED, but for commits and route requests, which have events of their own
(R159, R400).  A commit refused by a check of Table 14.2 names its own index as the failing one; the output and the entry of
a route request are those that `at_` holds (log 72). -/
def State.tellRefused (s at_ : State) (k index sub : Nat) (r : Refuse) : State :=
  match commitScope index sub with
  | some (kind, num) => s.raiseBy k Event.COMMIT_REFUSED (scopeCode kind num) (r.detail * 65536 + index)
  | none =>
    if index = 0x2501 ∧ sub = Dict.ROUTE_CONTROL_SWITCH.lo then
      s.raiseBy k Event.ROUTE_REFUSED (outputCode (at_.rd Dict.ROUTE_CONTROL_SWITCH_OUTPUT))
        (r.detail * 65536 + at_.rd Dict.ROUTE_CONTROL_SWITCH_ENTRY)
    else s.raiseBy k Event.WRITE_REFUSED (index * 256 + sub) r.detail

/-- A refused write updates LAST_REFUSAL, and is told unless it has been (R159, R400). -/
def State.refuseWrite (s : State) (k index sub : Nat) (r : Refuse) : State :=
  let s := s.noteRefusal k index sub r
  let s := if r.ownEvent then s else s.tellRefused s k index sub r
  s.abort k index r

/-- The outcome of a write that reached its chapter's rules, answered on its session (R400). -/
def State.settle (_s : State) (k index sub : Nat) : Effect → State
  | .done s' => s'.respond k index [] false
  | .refused r s' => s'.refuseWrite k index sub r
  | .waits s' => s'

/-- A write of the entry `e` at `index` and `sub` by session `k`: checks 1 to 7, then the effect its
chapter gives it (R400).  Nothing answers before the dictionary is available (R484). -/
def State.write (s : State) (k index sub : Nat) (data : List Byte)
    (eff : EntryDef → State → Effect) : State :=
  let s := s.actBy k
  if s.dictUp && (s.sessAt k).isOpen then
    match s.writeCheck false k index sub data with
    | .error r => s.refuseWrite k index sub r
    | .ok e => s.settle k index sub (eff e s)
  else s

/-- A write of a scalar entry by its row, in instance `n`, item `j`. -/
def State.writeScalar (s : State) (k : Nat) (e : EntryDef) (n j v : Nat)
    (eff : State → Effect) : State :=
  s.write k (e.base + n) (e.lo + j) (leBytes e.type.size v) (fun _ => eff)

/-- A write of a block entry by its row, in instance `n`, item `j`. -/
def State.writeBlock (s : State) (k : Nat) (e : EntryDef) (n j : Nat) (data : List Byte)
    (eff : State → Effect) : State :=
  s.write k (e.base + n) (e.lo + j) data (fun _ => eff)

/-- A read of a scalar entry by its row, in instance `n`, item `j`, with what the read itself changes. -/
def State.readScalar (s : State) (k : Nat) (e : EntryDef) (n j : Nat) (value : State → Nat)
    (eff : State → State) : State :=
  if s.dictUp && (s.sessAt k).isOpen then
    match s.readCheck k (e.base + n) (e.lo + j) with
    | .error r => s.refuseRead k (e.base + n) (e.lo + j) r
    | .ok _ => (eff s).respond k (e.base + n) (leBytes e.type.size (value s)) false
  else s

end Sys2Proof.Machine
end

