-- ==== Sys2Proof/Machine/Units.lean ====
section
/-! DEFINITION. The units as their fields describe them: stored formats, frame grids, heads and their
clones, canvases and their heads, and what the store tier and DRAM hold (chapters 1, 5 to 8, 12). -/
namespace Sys2Proof.Machine
open Sys2Proof

/-- Whether an Ethernet port carries frames: UP or DEGRADED (R71). -/
def State.portLive (s : State) (p : Nat) : Bool := s.rd Dict.PORT_STATE p == 2 || s.rd Dict.PORT_STATE p == 3

/-- Bytes per pixel of a stored format (Table 0.4). -/
def bytesPerPixel (format : Nat) : Nat := if format = 0 then 2 else if format = 1 then 3 else 4

/-- Rounded up to a multiple of `m`. -/
def roundUp (v m : Nat) : Nat := ceilDiv v m * m

/-- Speed of an Ethernet port type in Mbit/s (Table 3.2). -/
def typeSpeed : Nat → Nat
  | 1 => 10000 | 2 => 25000 | 3 => 50000 | 4 => 100000 | 5 => 100000
  | 6 => 200000 | 7 => 400000 | 8 => 800000 | _ => 0

/-! ### Grids: instants `off + floor (k * num / den)` of the timebase, in ns (R232, R308) -/

/-- Grid instant `k`. -/
def gridAt (num den off k : Nat) : Nat := off + k * num / den

/-- The least `k` whose instant is at or after `t`. -/
def gridFrom (num den off t : Nat) : Nat := if t ≤ off then 0 else ceilDiv ((t - off) * den) num

/-- The greatest `k` whose instant is at or before `t`; 0 before the first. -/
def gridLast (num den off t : Nat) : Nat := gridFrom num den off (t + 1) - 1

/-- Numerator and denominator of an FTG's base period in ns (R308). -/
def State.ftgNum (s : State) (n : Nat) : Nat := nsPerS * max 1 (s.rd Dict.FTG_RATE_DEN n)
/-- Its denominator. -/
def State.ftgDen (s : State) (n : Nat) : Nat := max 1 (s.rd Dict.FTG_RATE_NUM n)

/-- An FTG's base period in whole ns. -/
def State.basePeriod (s : State) (n : Nat) : Nat := s.ftgNum n / s.ftgDen n

/-- The first base-frame start of FTG `n` at or after `t` (R308). -/
def State.ftgNext (s : State) (n t : Nat) : Nat :=
  let o := s.rd Dict.FTG_OFFSET n
  gridAt (s.ftgNum n) (s.ftgDen n) o (gridFrom (s.ftgNum n) (s.ftgDen n) o t)

/-- Whether FTG `n` runs (R308). -/
def State.ftgRuns (s : State) (n : Nat) : Bool := (s.ftgAt n).running

/-! ### Heads -/

/-- The head whose fields a head takes under R247: its parent, or itself. -/
def State.parentOf (s : State) (h : Nat) : Nat :=
  let p := s.rd Dict.HEAD_CLONE_OF h
  if p < 32 then p else h

/-- A field that a clone takes from its parent (R247). -/
def State.headRd (s : State) (h : Nat) (e : EntryDef) : Nat := s.rd e (s.parentOf h)

/-- The canvas a head shows in force, 0xFF none. -/
def State.headCanvas (s : State) (h : Nat) : Nat := s.headRd h Dict.HEAD_CANVAS

/-- Whether a head scans every slot (R234). -/
def State.allSlots (s : State) (h : Nat) : Bool :=
  s.headRd h Dict.HEAD_SLOT_SELECT == 0xFF || s.headRd h Dict.HEAD_SLOTS == 1

/-- How many frames a head starts in a base frame (R232). -/
def State.headRate (s : State) (h : Nat) : Nat :=
  if s.allSlots h then max 1 (s.headRd h Dict.HEAD_SLOTS) else 1

/-- Numerator of a head's frame period in ns (R232). -/
def State.headNum (s : State) (h : Nat) : Nat := s.ftgNum (s.headRd h Dict.HEAD_FTG)
/-- Denominator of a head's frame period. -/
def State.headDen (s : State) (h : Nat) : Nat :=
  s.ftgDen (s.headRd h Dict.HEAD_FTG) * s.headRate h

/-- A head's frame period in whole ns. -/
def State.headPeriod (s : State) (h : Nat) : Nat := s.headNum h / s.headDen h

/-- Where a head's grid begins: its FTG's OFFSET plus its PHASE (R232). -/
def State.headOffset (s : State) (h : Nat) : Nat :=
  s.rd Dict.FTG_OFFSET (s.headRd h Dict.HEAD_FTG) + s.rd Dict.HEAD_PHASE h

/-- The index on a head's grid of its first frame start at or after `t`. -/
def State.headIndex (s : State) (h t : Nat) : Nat :=
  gridFrom (s.headNum h) (s.headDen h) (s.headOffset h) t

/-- The first frame start of a head's grid at or after `t` (R232). -/
def State.headNext (s : State) (h t : Nat) : Nat :=
  gridAt (s.headNum h) (s.headDen h) (s.headOffset h) (s.headIndex h t)

/-- The slot that a frame starting at grid index `k` carries (R233). -/
def State.slotCarried (s : State) (h k : Nat) : Nat :=
  if s.allSlots h then (k + s.headRate h - 1) % s.headRate h else s.headRd h Dict.HEAD_SLOT_SELECT

/-- From a head's line 0 to the start of line `y`, in ns (R232). -/
def State.lineTime (s : State) (h y : Nat) : Nat :=
  y * s.headNum h / (s.headDen h * max 1 (s.rd Dict.HEAD_V_TOTAL h))

/-- From a head's line 0 to its flip latch (R234). -/
def State.flipOffset (s : State) (h : Nat) : Nat :=
  s.lineTime h (s.headRd h Dict.HEAD_V_ACTIVE - s.rd Dict.HEAD_LATCH_ADVANCE h)

/-- From a head's line 0 to VB0 (R11). -/
def State.vb0Offset (s : State) (h : Nat) : Nat := s.lineTime h (s.headRd h Dict.HEAD_V_ACTIVE)

/-- The heads, as numbers. -/
abbrev allHeads : List Nat := List.range 32

/-- The enabled heads that show canvas `c` in force. -/
def State.headsOf (s : State) (c : Nat) : List Nat :=
  allHeads.filter (fun h => s.flag Dict.HEAD_ENABLE h && s.headCanvas h == c)

/-- The canvas whose frames a head shows: of a running head the one that its frame in progress took, since a commit that
lands in a frame governs from the next (R133). -/
def State.shownCanvas (s : State) (h : Nat) : Nat :=
  if (s.headAt h).running then (s.headAt h).canvas else s.headCanvas h

/-- The canvas's lead head: among its enabled heads that scan every slot, the one with the earliest
flip latch, the lowest-numbered on a tie (R131, R133, R234). -/
def State.leadHead (s : State) (c : Nat) : Option Nat :=
  (allHeads.filter (fun h => s.flag Dict.HEAD_ENABLE h && s.shownCanvas h == c && s.allSlots h)).foldl
    (fun best h =>
      match best with
      | none => some h
      | some b =>
        if s.rd Dict.HEAD_PHASE h + s.flipOffset h < s.rd Dict.HEAD_PHASE b + s.flipOffset b
        then some h else some b) none

/-- The canvas's lead head once it runs: its flip latches flip the canvas's buffers (R235). -/
def State.leadRunning (s : State) (c : Nat) : Option Nat := (s.leadHead c).filter (fun h => (s.headAt h).running)

/-- The start of the frame of head `h` that is in progress; before it runs, of its grid's (R131, R232, log 67). -/
def State.frameNow (s : State) (h : Nat) : Nat :=
  if (s.headAt h).running then (s.headAt h).frameStart
  else gridAt (s.headNum h) (s.headDen h) (s.headOffset h)
    (gridLast (s.headNum h) (s.headDen h) (s.headOffset h) s.timebase)

/-- The canvas's buffer head: its lowest-numbered enabled head that is not a clone (R236). -/
def State.bufferHead (s : State) (c : Nat) : Option Nat :=
  ((s.headsOf c).filter (fun h => s.rd Dict.HEAD_CLONE_OF h == 0xFF)).head?

/-! ### Canvases -/

/-- The FTG of a canvas. -/
def State.canvasFtg (s : State) (c : Nat) : Nat := s.rd Dict.CANVAS_FTG c
/-- The slots of a canvas. -/
def State.canvasSlots (s : State) (c : Nat) : Nat := max 1 (s.rd Dict.CANVAS_SLOTS c)
/-- Whether a canvas runs (R194). -/
def State.canvasRuns (s : State) (c : Nat) : Bool := (s.canvasAt c).running
/-- The canvases, as numbers. -/
abbrev allCanvases : List Nat := List.range 8
/-- The number of layer `l` of canvas `c` (R159). -/
abbrev layerNo (c l : Nat) : Nat := 8 * c + l

/-- The grid of a canvas's slot frames on its FTG. -/
def State.slotIndexAt (s : State) (c t : Nat) : Nat :=
  let f := s.canvasFtg c
  gridLast (s.ftgNum f) (s.ftgDen f * s.canvasSlots c) (s.rd Dict.FTG_OFFSET f) t

/-- The slot-frame start with index `k`. -/
def State.slotStart (s : State) (c k : Nat) : Nat :=
  let f := s.canvasFtg c
  gridAt (s.ftgNum f) (s.ftgDen f * s.canvasSlots c) (s.rd Dict.FTG_OFFSET f) k

/-- The compose latch that a canvas is at: its instant, the slot it composes and the compose deadline
(R50, R131, R195, R233). -/
def State.latchNow (s : State) (c : Nat) : Nat × Nat × Nat :=
  match s.leadHead c with
  | some h =>
    let t := s.frameNow h
    (t, s.headIndex h t % s.canvasSlots c, t + s.flipOffset h - 20000)
  | none =>
    let k := s.slotIndexAt c s.timebase
    (s.slotStart c k, k % s.canvasSlots c, s.slotStart c (k + 1) - 20000)

/-- The first compose latch of canvas `c` after instant `t`, at slot 0 (R131, R132). -/
def State.nextBaseLatch (s : State) (c t : Nat) : Nat :=
  match s.leadHead c with
  | some h =>
    let f := s.canvasFtg c
    let o := s.headOffset h
    let from_ := if (s.headAt h).running then (s.headAt h).nextStart else 0
    gridAt (s.ftgNum f) (s.ftgDen f) o (gridFrom (s.ftgNum f) (s.ftgDen f) o (max (t + 1) from_))
  | none => s.ftgNext (s.canvasFtg c) (t + 1)

/-- Presentation time of the frame of head `h` that starts at `t` (R278). -/
def State.presentAt (s : State) (h t : Nat) : Nat :=
  t + s.headNum h * (16 + s.rd Dict.PTL_LEAD) / (16 * s.headDen h)

/-- What a head's lead adds to a presentation instant, in ns (R332). -/
def State.leadTerm (s : State) (c : Nat) : Nat :=
  match s.leadHead c with
  | some h => if s.rd Dict.HEAD_TYPE h = 1 then s.presentAt h 0 else 0
  | none => 0

/-- The presentation instant of the base frame that canvas `c` composes from the present latch on (R329). -/
def State.presentNext (s : State) (c : Nat) : Nat :=
  match s.leadHead c with
  | some h =>
    let from_ := if (s.headAt h).running then (s.headAt h).nextStart else 0
    s.headNext h (max (s.frameNow h + 1) from_) + s.leadTerm c
  | none => s.slotStart c (s.slotIndexAt c s.timebase)

/-- The first flip latch of head `h` after `t` at which its commits may land: that of a frame carrying
the last slot (R131, R233). -/
def State.nextFlip (s : State) (h t : Nat) : Nat :=
  let f := s.headRd h Dict.HEAD_FTG
  let n := s.headRate h
  -- the frames that carry slot n - 1 start in slot period 0
  let o := s.headOffset h + s.flipOffset h
  if n = 1 then gridAt (s.headNum h) (s.headDen h) o (gridFrom (s.headNum h) (s.headDen h) o (t + 1))
  else gridAt (s.ftgNum f) (s.ftgDen f) o (gridFrom (s.ftgNum f) (s.ftgDen f) o (t + 1))

/-! ### What a source is -/

/-- Whether layer `k` (8c + l) is enabled in force; L0 is always (R198). -/
def State.layerOn (s : State) (k : Nat) : Bool := s.flag Dict.LAYER_ENABLE k || k % 8 == 0

/-- Whether a running canvas has an enabled layer that names the source in force (R105). -/
def State.names (s : State) (c kind num : Nat) : Bool :=
  (List.range 8).any (fun l =>
    s.layerOn (layerNo c l) && s.rd Dict.LAYER_SOURCE_KIND (layerNo c l) == kind
      && s.rd Dict.LAYER_SOURCE_NUM (layerNo c l) == num
    || (match (s.layerAt (layerNo c l)).mix with
        | some m => m.outKind == kind && m.outNum == num
        | none => false))

/-- The running canvases whose layers name a source. -/
def State.canvasesNaming (s : State) (kind num : Nat) : List Nat :=
  allCanvases.filter (fun c => s.canvasRuns c && s.names c kind num)

/-- A raster dimension after pre-decimation by code `d` (R101). -/
def decimated (v d : Nat) : Nat := if d = 1 then ceilDiv v 2 else if d = 2 then ceilDiv v 4 else v

/-- An input's stored raster (R101). -/
def State.storedRaster (s : State) (n : Nat) : Nat × Nat :=
  let d := s.rd Dict.INPUT_DECIMATE n
  (decimated (s.rd Dict.INPUT_WIDTH n) (field d 1 0), decimated (s.rd Dict.INPUT_HEIGHT n) (field d 3 2))

/-- Bytes per pixel of an input's ingest format (R100). -/
def State.ingestBytes (s : State) (n : Nat) : Nat := if s.rd Dict.INPUT_DEPTH n = 12 then 6 else 4

/-- CLIP, IN_FRAME, OUT_FRAME, PREFETCH and END_ACTION of a player as written. -/
def State.playerFields (s : State) (n : Nat) : List Nat :=
  [s.rd Dict.POCKET_PLAYER_CLIP n, s.rd Dict.POCKET_PLAYER_IN_FRAME n, s.rd Dict.POCKET_PLAYER_OUT_FRAME n,
    s.rd Dict.POCKET_PLAYER_PREFETCH n, s.rd Dict.POCKET_PLAYER_END_ACTION n]

/-- Field `k` of these as the last base-frame latch of the player's FTG took it (R118). -/
def State.playerLive (s : State) (n k : Nat) : Nat :=
  let l := (s.playerAt n).live
  ((if l.isEmpty then s.playerFields n else l)[k]?).getD 0

/-- The clip a number names in the directory (R367). -/
def State.clipAt (s : State) (k : Nat) : Clip := Store.read (fun _ => Clip.init) s.pocket.directory k

/-- The clip that player `n` plays. -/
def State.playerClip (s : State) (n : Nat) : Clip := s.clipAt (s.playerLive n 0)

/-- The stored raster of a layer's source; none for a fill (R200). -/
def State.sourceRaster (s : State) (kind num : Nat) : Option (Nat × Nat) :=
  match kind with
  | 1 => some (s.storedRaster num)
  | 2 => some (s.rd Dict.HOST_SOURCE_WIDTH num, s.rd Dict.HOST_SOURCE_HEIGHT num)
  | 3 =>
    let clip := s.playerClip num
    if clip.state = 0 then none else some (clip.width, clip.height)
  | _ => none

/-! ### The store tier and DRAM -/

/-- Sizes in force in MiB: SCAN, LINING and STAGE (R349). -/
def State.scanMib (s : State) : Nat := field (s.rd Dict.STORE_TIER_SIZES_IN_FORCE) 26 18
/-- LINING, less what retired banks took (R385). -/
def State.liningKib (s : State) : Nat :=
  field (s.rd Dict.STORE_TIER_SIZES_IN_FORCE) 17 9 * 1024 - s.liningLostKib
/-- STAGE. -/
def State.stageMib (s : State) : Nat := field (s.rd Dict.STORE_TIER_SIZES_IN_FORCE) 8 0

/-- KiB taken of a partition. -/
def usedKib (m : Store Nat) : Nat := (m.map Prod.snd).foldl (· + ·) 0

/-- Whether `kib` more fit in SCAN for owner `k`, whose present share is given back. -/
def State.scanFits (s : State) (k kib : Nat) : Bool :=
  decide (usedKib s.scanAlloc - s.scanAt k + kib ≤ s.scanMib * 1024)

/-- Owner `k` takes `kib` of SCAN (R348); 0 frees it. -/
def State.takeScan (s : State) (k kib : Nat) : State :=
  let s := s.putScan k kib
  s.wr Dict.STORE_TIER_SCAN_USED (usedKib s.scanAlloc)

/-- Input `n` takes `kib` of STAGE (R108); 0 frees it. -/
def State.takeStage (s : State) (n kib : Nat) : State :=
  let s := (s.putStage n kib).wr Dict.INPUT_STAGE_SIZE kib n
  s.wr Dict.STORE_TIER_STAGE_USED (usedKib s.stageAlloc)

/-- Canvas `c` takes `kib` of LINING (R221); 0 frees it. -/
def State.takeLining (s : State) (c kib : Nat) : State :=
  let s := s.putLining c kib
  s.wr Dict.LINING_KIB_USED (usedKib s.liningAlloc)

/-- A setting of DRAM in force: 0 RATE, 1 DEVICE, 2 RANKS, 3 MODE, 4 HOST_REGION_MIB (R360). -/
def State.dramSetting (s : State) (k : Nat) : Nat := (s.dram.inForce[k]?).getD 0

/-- DATA_CAPACITY in MiB of a fitting and MODE (R353, Table 12.3). -/
def dataCapacity (device ranks mode : Nat) : Nat :=
  let perChannel := 256 * (device + 1) * ranks
  if mode = 1 then 21 * perChannel else (24 * perChannel * 7 - 68) / 7

/-- Keys of DRAM pool owners: head buffers of a canvas, input stores, host copies, POCKET write-back
buffers, audio delay lines, player prefetch and capture (R355). -/
abbrev poolCanvas (c : Nat) : Nat := 0x100 + c
/-- Input frame store. -/
abbrev poolInput (n : Nat) : Nat := 0x200 + n
/-- Host surface copies. -/
abbrev poolHost (n : Nat) : Nat := 0x300 + n
/-- POCKET write-back buffers. -/
abbrev poolWriteBack (c k : Nat) : Nat := 0x400 + 2 * c + k
/-- Audio delay lines. -/
abbrev poolAudio : Nat := 0x500
/-- Player prefetch. -/
abbrev poolPlayer (n : Nat) : Nat := 0x600 + n

/-- Channels lost of parity group `g` (R353, R359). -/
def State.lostIn (s : State) (g : Nat) : Nat :=
  ((List.range 8).filter (fun k => Store.read (fun _ => 0) s.dram.channel (8 * g + k) == 3)).length

/-- Data capacity in MiB over the channels and groups that are left: in OPEN mode the unprotected interleave
spans the channels left, and a group that lost two channels holds nothing (R353, R359, log 17). -/
def State.capacityLeft (s : State) : Nat :=
  let cap := s.rd Dict.DRAM_DATA_CAPACITY
  let groups := ([0, 1, 2].filter (fun g => decide (s.lostIn g < 2))).length
  let channels := [0, 1, 2].foldl (fun n g => n + (if s.lostIn g < 2 then 8 - s.lostIn g else 0)) 0
  if s.dramSetting 3 = 0 then cap * channels / 24 else cap * groups / 3

/-- 2 MiB units of the pool (R353, R354). -/
def State.poolUnits (s : State) : Nat := (s.capacityLeft - s.dramSetting 4 - 68) / 2

/-- Units taken by an owner. -/
def State.poolAt (s : State) (k : Nat) : Nat := Store.read (fun _ => 0) s.dram.alloc k

/-- Units still free. -/
def State.poolFree (s : State) : Nat := s.poolUnits - usedKib s.dram.alloc

/-- Whether owner `k` may hold `units` in place of what it holds (R355). -/
def State.poolFits (s : State) (k units : Nat) : Bool :=
  decide (usedKib s.dram.alloc - s.poolAt k + units ≤ s.poolUnits)

/-- Owner `k` holds `units`; 0 frees them (R355). -/
def State.takePool (s : State) (k units : Nat) : State :=
  let s := { s with dram := { s.dram with alloc := Store.write (fun _ => 0) s.dram.alloc k units } }
  s.wr Dict.DRAM_POOL_FREE (2 * s.poolFree)

/-- Bytes as whole 2 MiB units. -/
def units2M (bytes : Nat) : Nat := ceilDiv bytes 2097152

/-- Size in bytes of a canvas's buffers in FORMAT (R237). -/
def State.canvasBytes (s : State) (c format : Nat) : Nat :=
  roundUp (s.rd Dict.CANVAS_WIDTH c * bytesPerPixel format) 64 * s.rd Dict.CANVAS_HEIGHT c
    * (2 * s.canvasSlots c)

/-- KiB of a DRAM-scanned head's scan FIFO: tolerance times active read rate, in whole 4 KiB (R240). -/
def State.fifoKib (s : State) (h width : Nat) : Nat :=
  let line := roundUp (width * bytesPerPixel (s.headRd h Dict.HEAD_FORMAT)) 64
  let tol := s.rd Dict.HEAD_LATENCY_TOLERANCE h * 1000
  -- line bytes * tolerance / (line period = num / (den * V_TOTAL)), rounded up
  stripeKib (ceilDiv (line * tol * (s.headDen h * s.rd Dict.HEAD_V_TOTAL h)) (s.headNum h))

/-! ### Engines -/

/-- The island of engine `e`, 0 to 3 (Table 1.1). -/
abbrev islandOf (e : Nat) : Nat := e / 26

/-- The engines, as numbers. -/
abbrev allEngines : List Nat := List.range 104

/-- Whether an engine is in service: active, lagging or being reset from such a state (R59). -/
def Engine.inService (e : Engine) : Bool :=
  match e.state with
  | .active | .lagging => true
  | .resetting => e.prior == .active || e.prior == .lagging
  | _ => false

/-- Active engines of an island. -/
def State.activeIn (s : State) (i : Nat) : Nat :=
  (allEngines.filter (fun e => islandOf e == i && (s.engineAt e).inService)).length

/-- Active engines of the device. -/
def State.activeEngines (s : State) : Nat :=
  (allEngines.filter (fun e => (s.engineAt e).inService)).length

/-- The registers that count engines follow the engines (R58, R189). -/
def State.countEngines (s : State) : State :=
  let s := (List.range 4).foldl (fun s i => s.wr Dict.ISLAND_PACE_ACTIVE_ENGINES (s.activeIn i) 0 i) s
  let s := s.wr Dict.ENGINE_POOL_ACTIVE_ENGINES s.activeEngines
  let s := s.wr Dict.ENGINE_POOL_SPARE_ENGINES
    (allEngines.filter (fun e => (s.engineAt e).state == .spare)).length
  let s := s.wr Dict.ENGINE_POOL_RETIRED_ENGINES
    (allEngines.filter (fun e => (s.engineAt e).state == .retired)).length
  (List.range 4).foldl (fun s i =>
    s.wr Dict.ISLAND_PACE_LAGGING_MASK
      (maskOf ((List.range 26).filter (fun k => (s.engineAt (26 * i + k)).state == .lagging))) 0 i) s

end Sys2Proof.Machine
end

