-- ==== Sys2Proof/Machine/LaneOps.lean ====
section
/-! DEFINITION. Lanes, bonds and ports: formation, lane states, port and group states, spare lanes and takeover
(R61 to R73, R260, R263, R264). -/
namespace Sys2Proof.Machine
open Sys2Proof

/-! ### Lanes by one number: 0 to 51 U-lanes, 52 to 67 D-lanes -/

/-- A lane. -/
def State.laneAt (s : State) (l : Nat) : Lane := if l < 52 then s.ulaneAt l else s.dlaneAt (l - 52)

/-- A lane changed. -/
def State.modLane (s : State) (l : Nat) (f : Lane → Lane) : State :=
  if l < 52 then s.modUlane l f else s.modDlane (l - 52) f

/-- A lane as events name it (R92). -/
def laneCode (l : Nat) : Nat := if l < 52 then 0x100 + l else 0x300 + (l - 52)

/-- STATE of a lane (Table 3.5). -/
def LaneState.code : LaneState → Nat
  | .off => 0 | .train => 1 | .up => 2 | .degraded => 3 | .retired => 4

/-- Whether a lane is UP or DEGRADED. -/
def Lane.live (a : Lane) : Bool := a.state == .up || a.state == .degraded

/-! ### Ports (R65, R66, R260) -/

/-- Lanes of a port type (Table 3.2). -/
def laneCount : Nat → Nat
  | 0 => 0 | 4 => 4 | 6 => 2 | 7 => 4 | 8 => 8 | _ => 1

/-- Lane rate of a port type in kbit/s (Table 3.2). -/
def laneRate : Nat → Nat
  | 0 => 0 | 1 => 10312500 | 2 => 25781250 | 3 => 53125000 | 4 => 25781250 | _ => 106250000

/-- Whether a type's lanes are PAM4 (Table 3.2). -/
def lanePam4 (type : Nat) : Bool := type == 3 || decide (5 ≤ type)

/-- FEC choices of a type (Table 3.2); 0 is the type's default. -/
def fecChoices : Nat → List Nat
  | 1 => [0, 1] | 2 => [0, 2, 1] | 4 => [0, 2] | _ => [0, 3]

/-- Whether GENERATION admits a port type (Table 9.1). -/
def generationAdmits (generation type : Nat) : Bool :=
  generation == 0 || (generation == 1 && type == 1) || (generation == 2 && [2, 4, 5, 6, 7, 8].contains type)

/-- Port types that may hold a spare lane (R263). -/
def spareType (type : Nat) : Bool := type == 4 || type == 7 || type == 8

/-- The lanes that a port's fields claim (R66). -/
def State.formed (s : State) (p : Nat) : List Nat :=
  (List.range (laneCount (s.rd Dict.PORT_TYPE p))).map (· + s.rd Dict.PORT_FIRST_LANE p)

/-- The lane that carries the PCS lanes of lane `l` of a formation: itself, or the spare that took it over
(R264). -/
def State.carrier (s : State) (l : Nat) : Nat :=
  ((List.range 52).find? (fun m => (s.ulaneAt m).carries == l)).getD l

/-- The lanes of a port, takeovers counted (R66, R71, R264). -/
def State.portLanes (s : State) (p : Nat) : List Nat := (s.formed p).map s.carrier

/-- The port that a U-lane belongs to, if any: a running one whose formation has it, else the lowest-numbered one whose
fields claim it (R66; DESIGN CHOICE, log 72). -/
def State.portOf (s : State) (l : Nat) : Option Nat :=
  ((List.range 48).find? (fun p => s.flag Dict.PORT_ADMIN p && (s.portLanes p).contains l)).or
    ((List.range 48).find? (fun p => (s.portLanes p).contains l))

/-- Lanes held as spares, or as spares of one port (R66). -/
def State.spareLanes (s : State) : List Nat := (List.range 52).filter (fun l => s.rd Dict.U_LANE_SPARE_OF l != 0xFF)

/-- Lanes held as spares of port `p`. -/
def State.sparesOf (s : State) (p : Nat) : List Nat :=
  (List.range 52).filter (fun l => s.rd Dict.U_LANE_SPARE_OF l == p)

/-- PORT of a U-lane (Table 3.5). -/
def State.lanePort (s : State) (l : Nat) : Nat := (s.portOf l).getD 0xFF

/-- The type whose rate and modulation a U-lane has: its port's, or that of the port it is a spare of. -/
def State.laneType (s : State) (l : Nat) : Nat :=
  match s.portOf l with
  | some p => s.rd Dict.PORT_TYPE p
  | none => let p := s.rd Dict.U_LANE_SPARE_OF l; if p < 48 then s.rd Dict.PORT_TYPE p else 0

/-- Whether a U-lane runs a test pattern: PRBS set on a lane that is OFF (R61, R87, R494). -/
def State.laneTests (s : State) (l : Nat) : Bool :=
  decide (l < 52) && (s.ulaneAt l).state == .off && s.flag Dict.U_LANE_PRBS l

/-- Whether a lane's modulation is PAM4: by its port's type, under test by its pattern (R61, R72, log 69). -/
def State.pam4 (s : State) (l : Nat) : Bool :=
  decide (l < 52) && (if s.laneTests l then decide (6 ≤ s.rd Dict.U_LANE_PRBS l) else lanePam4 (s.laneType l))

/-- The rate of a lane under test: TEST_RATE, or with 0 its port's, where the modulation covers it (R61, log 69). -/
def State.testRate (s : State) (l : Nat) : Nat :=
  let t := s.rd Dict.U_LANE_TEST_RATE l
  let r := if t = 0 then laneRate (s.laneType l) else t
  let covers := if s.pam4 l then decide (26562500 ≤ r ∧ r ≤ 112500000) else decide (1250000 ≤ r ∧ r ≤ 56250000)
  if covers then r else 0

/-- LINE_RATE of a U-lane: its port's lane rate while it trains, carries traffic or is surveyed; the test rate under
test (R61). -/
def State.laneLineRate (s : State) (l : Nat) : Nat :=
  let a := s.ulaneAt l
  if a.state = .train ∨ a.live ∨ a.surveyed then laneRate (s.laneType l)
  else if s.laneTests l then s.testRate l else 0

/-! ### Equalisers and transmit coefficients (R62, R64, R70, R87) -/

/-- A lane's equaliser adapts: not while ADAPT freezes it.  What it reaches is kept for a warm restart (R62, R70). -/
def State.adaptLane (s : State) (l : Nat) (settings : List Int) : State :=
  if l < 52 ∧ s.flag Dict.U_LANE_ADAPT l then s
  else s.modLane l (fun a => { a with eq := settings, converged := settings })

/-- Whether the link partner sets a U-lane's coefficients: TX_FIR_SOURCE is 0 and its port runs link training (R64,
R65). -/
def State.txTrained (s : State) (l : Nat) : Bool :=
  s.rd Dict.U_LANE_TX_FIR_SOURCE l == 0
    && (match s.portOf l with | some p => s.flag Dict.PORT_AUTONEG p | none => false)

/-- A lane's coefficients as its fields hold them. -/
def State.txFields (s : State) (l : Nat) : List Int := (List.range 5).map (fun k => s.rdInt Dict.U_LANE_TX_C l k)

/-- The coefficients that a partner asked for, as a lane takes them: NRZ holds c(−3) and c(−2) at zero (R64). -/
def trainedTx (pam4 : Bool) (tx : List Int) : List Int := if pam4 then tx else [0, 0] ++ tx.drop 2

/-- The sum of the magnitudes of coefficients (R64). -/
def swing (tx : List Int) : Nat := tx.foldl (fun a c => a + c.natAbs) 0

/-- Coefficients trained with the partner; a request beyond full swing is not taken (R64, log 69). -/
def State.takeTraining (s : State) (l : Nat) (tx : List Int) : State :=
  let t := trainedTx (s.pam4 l) tx
  if s.txTrained l ∧ swing t ≤ 64 then s.modUlane l (fun a => { a with trained := t, tx := t }) else s

/-- The coefficients in force follow the training or the fields, at each adaptation update (R64, R87). -/
def State.updateTx (s : State) (l : Nat) : State :=
  if l < 52 then
    let fields := s.txFields l
    let trained := s.txTrained l
    s.modUlane l (fun a => { a with tx := if trained && !a.trained.isEmpty then a.trained else fields })
  else s

/-- What refuses ADMIN = 1 of port `p` (R66).  TYPE 0 forms nothing: it is refused as a formation rule is, naming TYPE
(DESIGN CHOICE, log 69). -/
def State.judgePort (s : State) (p : Nat) : Option Refuse :=
  let type := s.rd Dict.PORT_TYPE p
  let first := s.rd Dict.PORT_FIRST_LANE p
  let w := laneCount type
  let lanes := s.portLanes p
  let rival := (List.range 48).find? (fun q => q != p && (s.portLanes q).any lanes.contains)
  let spare := s.spareLanes.find? lanes.contains
  firstOf
    [(type == 0, .atField 0x12 (0x2280 + p) 2),
     (first % w != 0 || decide (52 < first + w), .atField 0x12 (0x2280 + p) 3),
     (!(fecChoices type).contains (s.rd Dict.PORT_FEC p), .atField 0x12 (0x2280 + p) 4),
     (rival.isSome, .atField 0x12 (0x2280 + rival.getD 0) 3),
     (spare.isSome, .atField 0x12 (0x2200 + spare.getD 0) 4)]

/-- The state of a port and its DOWN_CAUSE from its lanes (R71); `cause` is what keeps a lane in TRAIN.  A lane that is
OFF while ADMIN is 1 gives cause 2 (DESIGN CHOICE, log 69). -/
def State.portState (s : State) (p cause : Nat) : Nat × Nat :=
  let st := (s.portLanes p).map (fun l => (s.ulaneAt l).state)
  if s.rd Dict.PORT_ADMIN p = 0 then (0, 1)
  else if st.contains .retired then (0, 4)
  else if st.isEmpty ∨ st.contains .off then (0, 2)
  else if st.contains .train then (1, cause)
  else if st.contains .degraded then (3, 0) else (2, 0)

/-- A port's state follows its lanes; PORT_UP and PORT_DOWN are raised, and its spares stop being surveyed when
it leaves UP and DEGRADED (R71, R263).  PORT_DOWN is raised on the entry to DOWN alone, not where a lost lane takes an UP
port to TRAINING (DESIGN CHOICE, log 72). -/
def State.judgePortState (s : State) (p cause : Nat) : State :=
  let old := s.rd Dict.PORT_STATE p
  let (new, c) := s.portState p cause
  let s := (s.wr Dict.PORT_STATE new p).wr Dict.PORT_DOWN_CAUSE c p
  let live := decide (2 ≤ new)
  let speed := typeSpeed (s.rd Dict.PORT_TYPE p)
  let s := s.wr Dict.PORT_SPEED (if live then speed else 0) p
  let s := if live ∧ old < 2 then (s.inc Dict.PORT_LINK_UPS p).raise Event.PORT_UP (0x200 + p) speed else s
  let s := s.raiseIf (new == 0 && old != 0) Event.PORT_DOWN (0x200 + p) c
  if live then s
  else (s.sparesOf p).foldl (fun s l => s.modUlane l (fun a => { a with surveyed := false })) s

/-- The same for the port of lane `l`, where it has one. -/
def State.judgePortOf (s : State) (l cause : Nat) : State :=
  match s.portOf l with | some p => s.judgePortState p cause | none => s

/-! ### Groups (R73, R89) -/

/-- Lanes of a group that its MODE uses, as lane numbers (R73).  In mode 5 all four lanes are SDI interfaces, whatever LANES
says (DESIGN CHOICE, log 72). -/
def State.groupLanes (s : State) (g : Nat) : List Nat :=
  let mode := s.rd Dict.GROUP_PORT_MODE g
  if s.rd Dict.GROUP_PORT_ADMIN g = 0 ∨ mode = 0 then []
  else (List.range (if mode = 5 then 4 else s.rd Dict.GROUP_PORT_LANES g)).map (· + (52 + 4 * g))

/-- What refuses ADMIN = 1 of group `g` (R73, R76, R89).  MODE 0 is accepted, and the group stays DOWN (DESIGN CHOICE,
log 69). -/
def State.judgeGroup (s : State) (g : Nat) : Option Refuse :=
  let mode := s.rd Dict.GROUP_PORT_MODE g
  let n := s.rd Dict.GROUP_PORT_LANES g
  let lanes := (List.range 4).map (· + 4 * g)
  let wrongDir := if mode = 5 then none else lanes.find? (fun l => s.rd Dict.D_LANE_DIRECTION l == 1)
  let wrongRate := if mode ≠ 5 then none
    else lanes.find? (fun l => s.rd Dict.D_LANE_DIRECTION l == 1 && s.rd Dict.D_LANE_SDI_RATE l % 128 == 0)
  firstOf
    [(mode == 1 && n < 3 || mode == 2 && n < 3 || (mode == 3 || mode == 4) && n == 3, .atField 0x12 (0x22B0 + g) 4),
     (wrongDir.isSome, .atField 0x12 (0x2240 + wrongDir.getD 0) 3),
     (wrongRate.isSome, .atField 0x12 (0x2240 + wrongRate.getD 0) 5)]

/-- STATE of a group: DOWN with a lane of it OFF or RETIRED; an SDI group is UP when any of its interfaces is
(R71, R73, log 14). -/
def State.groupState (s : State) (g : Nat) : Nat :=
  let st := (s.groupLanes g).map (fun l => (s.laneAt l).state)
  if st.isEmpty ∨ st.contains .retired then 0
  else if s.rd Dict.GROUP_PORT_MODE g = 5 then
    if st.contains .up ∨ st.contains .degraded then 2 else if st.contains .train then 1 else 0
  else if st.contains .off then 0 else if st.contains .train then 1 else 2

/-- Parameter A of a group's events (R92). -/
abbrev groupCode (g : Nat) : Nat := 0x400 + g

/-- Whether a group receives HDMI or DisplayPort. -/
def State.groupReceives (s : State) (g : Nat) : Bool :=
  s.rd Dict.GROUP_PORT_MODE g == 1 || s.rd Dict.GROUP_PORT_MODE g == 3

/-- Whether a group transmits HDMI or DisplayPort. -/
def State.groupSends (s : State) (g : Nat) : Bool :=
  s.rd Dict.GROUP_PORT_MODE g == 2 || s.rd Dict.GROUP_PORT_MODE g == 4

/-- What receive groups report upstream as repeaters: nothing while no transmit group has HDCP enabled, else a depth and
the receiver IDs of every authenticated downstream device, within 31 devices and depth 4 (R77, log 69). -/
def State.hdcpReport (s : State) : List Byte :=
  let sends := (List.range 4).filter (fun g => s.groupSends g && (s.groupAt g).hdcp)
  let done := sends.filter (fun g => s.rd Dict.GROUP_PORT_HDCP_STATE g == 2)
  let ids := (done.flatMap (fun g => (s.groupAt g).hdcpDown)).take 31
  let depth := done.foldl (fun d g => max d (s.groupAt g).depth) 0
  if sends.isEmpty then [] else leBytes 1 (min 4 depth) ++ leBytes 1 ids.length ++ ids.flatten

/-- Kind of a `WireItem.packet`: what a receive group reports upstream as a repeater (R77). -/
abbrev packetHdcp : Nat := 14

/-- Each receive group with HDCP enabled tells a changed report upstream (R77). -/
def State.tellUpstream (s : State) : State :=
  let r := s.hdcpReport
  (List.range 4).foldl (fun s g =>
    if s.groupReceives g && (s.groupAt g).hdcp && (s.groupAt g).told != r then
      (s.modGroup g (fun a => { a with told := r })).out (.packet packetHdcp g r)
    else s) s

/-- HDCP_STATE after a change of the link or of HDCP: authenticating once the link is up (R77). -/
def State.restartHdcp (s : State) (g : Nat) : State :=
  let mode := s.rd Dict.GROUP_PORT_MODE g
  let on := (s.groupAt g).hdcp && s.rd Dict.GROUP_PORT_STATE g == 2 && 1 ≤ mode && mode ≤ 4
  ((s.modGroup g (fun a => { a with devices := 0, hdcpDown := [], depth := 0 })).wr Dict.GROUP_PORT_HDCP_STATE
    (if on then 1 else 0) g).tellUpstream

/-- A receive group drives HPD: high while ADMIN is 1 and an EDID is loaded, but for 200 ms after an EDID write
(R78); a change of level is told (R92). -/
def State.driveHpd (s : State) (g : Nat) : State :=
  if s.groupReceives g then
    let level := s.flag Dict.GROUP_PORT_ADMIN g && !(s.groupAt g).edid.isEmpty && (s.groupAt g).hpdLowUntil == 0
    let was := s.flag Dict.GROUP_PORT_HPD g
    ((s.wrFlag Dict.GROUP_PORT_HPD level g).out (.pin 3 g level.toNat)).raiseIf (was != level) Event.HPD_CHANGE
      (groupCode g) level.toNat
  else s

/-- Kind of a `WireItem.packet`: the EDID that a receive group serves over DDC or AUX from now on (R78). -/
abbrev packetEdid : Nat := 13

/-- A written EDID comes in force: a receive group serves it and drives HPD low for 200 ms (R78). -/
def State.takeEdid (s : State) (g : Nat) : State :=
  let d := s.dom Dict.GROUP_PORT_EDID g
  let s := s.modGroup g (fun a => { a with edid := d, edidDue := false })
  if s.groupReceives g then
    ((s.modGroup g (fun a => { a with hpdLowUntil := s.now + 200000000 })).out (.packet packetEdid g d)).driveHpd g
  else s

/-- The LIVE fields of a group come in force: HDCP, CEC_ADDRESS_MASK and EDID (R89). -/
def State.takeGroupLive (s : State) (g : Nat) : State :=
  let was := (s.groupAt g).hdcp
  let on := s.flag Dict.GROUP_PORT_HDCP g
  let cec := s.rd Dict.GROUP_PORT_CEC_ADDRESS_MASK g
  let s := s.modGroup g (fun a => { a with hdcp := on, cec := cec })
  let s := if was = on then s else s.restartHdcp g
  if (s.groupAt g).edidDue then s.takeEdid g else s

/-- The group that a head sends on, if any (R231, R244). -/
def State.groupOfHead (s : State) (h : Nat) : Option Nat :=
  match s.rd Dict.HEAD_TYPE h with
  | 2 | 3 => some (s.rd Dict.HEAD_OUTPUT h % 4)
  | 4 => some (s.rd Dict.HEAD_OUTPUT h / 4 % 4)
  | _ => none

/-- The group that an input receives from, if any (Table 4.1). -/
def State.groupOfInput (s : State) (n : Nat) : Option Nat :=
  match s.rd Dict.INPUT_TRANSPORT n with
  | 3 => some (s.rd Dict.INPUT_PORT_A n % 4)
  | 4 => some (s.rd Dict.INPUT_PORT_A n / 4 % 4)
  | _ => none

/-- Whether frames of a group are followed: it is UP, and a running head sends on it or an enabled input receives from
it (R89, log 69). -/
def State.groupPaced (s : State) (g : Nat) : Bool :=
  s.rd Dict.GROUP_PORT_STATE g == 2
    && ((List.range 32).any (fun h => (s.headAt h).running && s.groupOfHead h == some g)
      || (List.range 64).any (fun n => s.flag Dict.INPUT_ENABLE n && s.groupOfInput n == some g))

/-- A frame of a group starts: its LIVE fields come in force (R89). -/
def State.groupFrame (s : State) (g : Option Nat) : State :=
  match g with | some g => s.takeGroupLive g | none => s

/-- A LIVE field of a group has been written: it waits for the group's next frame start, or is taken at once (R89). -/
def State.liveWritten (s : State) (g : Nat) : State := if s.groupPaced g then s else s.takeGroupLive g

/-- Kind of `WireItem.pin`: a transmit group begins link training, over SCDC or AUX, at no more than a rate in kbit/s (R74,
R75). -/
abbrev pinLinkTraining : Nat := 12

/-- A group's state, rate and lanes follow its lanes (Table 3.8). -/
def State.judgeGroupState (s : State) (g : Nat) : State :=
  let old := s.rd Dict.GROUP_PORT_STATE g
  let new := s.groupState g
  let s := s.wr Dict.GROUP_PORT_STATE new g
  let rate := (s.groupLanes g).foldl (fun r l => max r (s.rd Dict.D_LANE_LINE_RATE (l - 52))) 0
  let live := (s.groupLanes g).filter (fun l => (s.laneAt l).live)
  let s := s.wr Dict.GROUP_PORT_LINK_RATE (if new = 2 then rate else 0) g
  let s := s.wr Dict.GROUP_PORT_ACTIVE_LANES (if new = 2 then live.length else 0) g
  let s := if new = 1 ∧ old ≠ 1 ∧ s.groupSends g then
      s.out (.pin pinLinkTraining g (s.rd Dict.GROUP_PORT_MAX_RATE g))
    else s
  if old = new then s else (s.restartHdcp g).takeGroupLive g

/-- The DOWN_CAUSE that a lane's port has, for a port that goes on training when another of its lanes changes (R88; DESIGN
CHOICE, log 72). -/
def State.ownerCause (s : State) (l : Nat) : Nat := if l < 52 then s.rd Dict.PORT_DOWN_CAUSE (s.lanePort l) else 0

/-- Whatever a lane belongs to follows it. -/
def State.judgeOwner (s : State) (l cause : Nat) : State :=
  if l < 52 then s.judgePortOf l cause else s.judgeGroupState ((l - 52) / 4)

/-! ### Lane states (R69, R264) -/

/-- A lane in a state in which nothing is timed. -/
def State.setLane (s : State) (l : Nat) (st : LaneState) : State :=
  let s := s.modLane l (fun a => { a with state := st, lowSince := 0, goodSince := 0, badAt := 0 })
  if 52 ≤ l ∧ (st = .off ∨ st = .retired) then s.wr Dict.D_LANE_LINE_RATE 0 (l - 52) else s

/-- A lane enters TRAIN, from its converged or from its reset settings (R69, R70). -/
def State.trainLane (s : State) (l : Nat) (warm : Bool) : State :=
  (s.setLane l .train).modLane l (fun a => { a with
    trainSince := s.now, warm := warm, eq := if warm then a.converged else [], trained := [] })

/-- The surveyed spare of a PTL-2 bond, if it holds one (R263, R264). -/
def State.readySpare (s : State) (p : Nat) : Option Nat :=
  if s.rd Dict.PTL_GENERATION 0 p = 2 then (s.sparesOf p).find? (fun l => (s.ulaneAt l).surveyed) else none

/-- Bits 15:8 port, 7:0 lane: parameter A of PTL_TAKEOVER and PTL_NO_SPARE (Table 9.15). -/
abbrev bondCode (p l : Nat) : Nat := p * 256 + l

/-- Spare `m` takes over lane `l` of port `p` (R264). -/
def State.takeOver (s : State) (p l m : Nat) : State :=
  let a := s.ulaneAt l
  let place := if a.carries = 0xFF then l else a.carries
  let s := s.modUlane l (fun a => { a with carries := 0xFF })
  let s := s.modUlane m (fun a => { a with carries := if m = place then 0xFF else place, surveyed := false })
  let s := (s.wr Dict.U_LANE_SPARE_OF 0xFF m).trainLane m true
  let s := if a.state = .retired then s
    else ((s.setLane l .off).modUlane l (fun a => { a with surveyed := false })).wr Dict.U_LANE_SPARE_OF p l
  let s := (s.inc Dict.PTL_TAKEOVERS 0 p).raise Event.PTL_TAKEOVER (bondCode p l) m
  s.judgePortState p 2

/-- A lane of a bond fails with no surveyed spare (R264). -/
def State.noSpareLane (s : State) (p l : Nat) : State :=
  s.raiseIf (s.rd Dict.PTL_GENERATION 0 p == 2) Event.PTL_NO_SPARE (bondCode p l) 0

/-- A lane enters RETIRED; a lane of a bond with a surveyed spare is taken over, a spare loses its role (R69,
R264, Table 13.2).  The spare brought in, if any. -/
def State.retireLane (s : State) (l : Nat) : State × Option Nat :=
  let s := s.setLane l .retired
  if l < 52 then
    let s := (s.modUlane l (fun a => { a with surveyed := false })).wr Dict.U_LANE_SPARE_OF 0xFF l
    match s.portOf l with
    | some p =>
      match s.readySpare p with
      | some m => (s.takeOver p l m, some m)
      | none => ((s.noSpareLane p l).judgePortState p 4, none)
    | none => (s, none)
  else (s.judgeGroupState ((l - 52) / 4), none)

/-- A port's formation changes while its ADMIN is 0: no lane carries another's place in it any more. -/
def State.reformPort (s : State) (p : Nat) : State :=
  (s.formed p).foldl (fun s l =>
    let m := s.carrier l
    if m = l then s else s.modUlane m (fun a => { a with carries := 0xFF })) s

end Sys2Proof.Machine
end

