-- ==== Sys2Proof/Machine/Aes.lean ====
section
/-! DEFINITION. AES (FIPS 197) encryption of a block and AES-256-GCM (NIST SP 800-38D) with 96-bit nonces, as R281 and
R444 name them. -/
namespace Sys2Proof.Machine
open Sys2Proof

/-- Substitution table, part 0. -/
def aesSub0 : List Nat :=
  [0x63, 0x7c, 0x77, 0x7b, 0xf2, 0x6b, 0x6f, 0xc5, 0x30, 0x01, 0x67, 0x2b, 0xfe, 0xd7, 0xab, 0x76,
   0xca, 0x82, 0xc9, 0x7d, 0xfa, 0x59, 0x47, 0xf0, 0xad, 0xd4, 0xa2, 0xaf, 0x9c, 0xa4, 0x72, 0xc0,
   0xb7, 0xfd, 0x93, 0x26, 0x36, 0x3f, 0xf7, 0xcc, 0x34, 0xa5, 0xe5, 0xf1, 0x71, 0xd8, 0x31, 0x15,
   0x04, 0xc7, 0x23, 0xc3, 0x18, 0x96, 0x05, 0x9a, 0x07, 0x12, 0x80, 0xe2, 0xeb, 0x27, 0xb2, 0x75]

/-- Substitution table, part 1. -/
def aesSub1 : List Nat :=
  [0x09, 0x83, 0x2c, 0x1a, 0x1b, 0x6e, 0x5a, 0xa0, 0x52, 0x3b, 0xd6, 0xb3, 0x29, 0xe3, 0x2f, 0x84,
   0x53, 0xd1, 0x00, 0xed, 0x20, 0xfc, 0xb1, 0x5b, 0x6a, 0xcb, 0xbe, 0x39, 0x4a, 0x4c, 0x58, 0xcf,
   0xd0, 0xef, 0xaa, 0xfb, 0x43, 0x4d, 0x33, 0x85, 0x45, 0xf9, 0x02, 0x7f, 0x50, 0x3c, 0x9f, 0xa8,
   0x51, 0xa3, 0x40, 0x8f, 0x92, 0x9d, 0x38, 0xf5, 0xbc, 0xb6, 0xda, 0x21, 0x10, 0xff, 0xf3, 0xd2]

/-- Substitution table, part 2. -/
def aesSub2 : List Nat :=
  [0xcd, 0x0c, 0x13, 0xec, 0x5f, 0x97, 0x44, 0x17, 0xc4, 0xa7, 0x7e, 0x3d, 0x64, 0x5d, 0x19, 0x73,
   0x60, 0x81, 0x4f, 0xdc, 0x22, 0x2a, 0x90, 0x88, 0x46, 0xee, 0xb8, 0x14, 0xde, 0x5e, 0x0b, 0xdb,
   0xe0, 0x32, 0x3a, 0x0a, 0x49, 0x06, 0x24, 0x5c, 0xc2, 0xd3, 0xac, 0x62, 0x91, 0x95, 0xe4, 0x79,
   0xe7, 0xc8, 0x37, 0x6d, 0x8d, 0xd5, 0x4e, 0xa9, 0x6c, 0x56, 0xf4, 0xea, 0x65, 0x7a, 0xae, 0x08]

/-- Substitution table, part 3. -/
def aesSub3 : List Nat :=
  [0xba, 0x78, 0x25, 0x2e, 0x1c, 0xa6, 0xb4, 0xc6, 0xe8, 0xdd, 0x74, 0x1f, 0x4b, 0xbd, 0x8b, 0x8a,
   0x70, 0x3e, 0xb5, 0x66, 0x48, 0x03, 0xf6, 0x0e, 0x61, 0x35, 0x57, 0xb9, 0x86, 0xc1, 0x1d, 0x9e,
   0xe1, 0xf8, 0x98, 0x11, 0x69, 0xd9, 0x8e, 0x94, 0x9b, 0x1e, 0x87, 0xe9, 0xce, 0x55, 0x28, 0xdf,
   0x8c, 0xa1, 0x89, 0x0d, 0xbf, 0xe6, 0x42, 0x68, 0x41, 0x99, 0x2d, 0x0f, 0xb0, 0x54, 0xbb, 0x16]

/-- The substitution of one byte. -/
def aesSub (b : Nat) : Nat := ((aesSub0 ++ aesSub1 ++ aesSub2 ++ aesSub3)[b]?).getD 0

/-- Doubling in the field of AES. -/
def aesDouble (b : Nat) : Nat := if b < 128 then 2 * b else (2 * b - 256) ^^^ 0x1B

/-- Bytes combined with exclusive or, one by one. -/
def xorBytes (a b : List Nat) : List Nat := List.zipWith (· ^^^ ·) a b

/-- Rows shifted, in a block whose bytes go down its columns. -/
def aesShift (b : List Nat) : List Nat := (List.range 16).map (fun i => (b[(i + 4 * (i % 4)) % 16]?).getD 0)

/-- One column mixed. -/
def aesMixColumn : List Nat → List Nat
  | [a, b, c, d] =>
    let t := a ^^^ b ^^^ c ^^^ d
    [a ^^^ t ^^^ aesDouble (a ^^^ b), b ^^^ t ^^^ aesDouble (b ^^^ c), c ^^^ t ^^^ aesDouble (c ^^^ d),
     d ^^^ t ^^^ aesDouble (d ^^^ a)]
  | l => l

/-- The key schedule: words of four bytes, newest first, extended by `n` from a key of `nk` words; `i` is the next
word's number and `rcon` the next round constant. -/
def aesExtend (nk : Nat) : Nat → Nat → Nat → List (List Nat) → List (List Nat)
  | 0, _, _, w => w
  | n + 1, i, rcon, w =>
    let last := w.headD []
    let old := (w[nk - 1]?).getD []
    let (t, rcon) :=
      if i % nk = 0 then
        (xorBytes (((last.drop 1) ++ last.take 1).map aesSub) [rcon, 0, 0, 0], aesDouble rcon)
      else if 6 < nk ∧ i % nk = 4 then (last.map aesSub, rcon)
      else (last, rcon)
    aesExtend nk n (i + 1) rcon (xorBytes old t :: w)

/-- The round keys of a key of 16 or 32 bytes, 16 bytes each. -/
def aesRoundKeys (key : List Byte) : List (List Nat) :=
  let k := key.map (·.toNat)
  let nk := k.length / 4
  let w := (aesExtend nk (4 * (nk + 7) - nk) nk 1 (chunks 4 nk k).reverse).reverse
  (List.range (nk + 7)).map (fun r => ((w.drop (4 * r)).take 4).flatten)

/-- One block encrypted under a key of 16 or 32 bytes. -/
def aesBlock (key block : List Byte) : List Byte :=
  let ks := aesRoundKeys key
  let b := xorBytes (block.map (·.toNat)) (ks.headD [])
  let b := ((ks.drop 1).dropLast).foldl (fun b k =>
    xorBytes ((chunks 4 4 (aesShift (b.map aesSub))).flatMap aesMixColumn) k) b
  (xorBytes (aesShift (b.map aesSub)) (ks.getLastD [])).map (BitVec.ofNat 8)

/-- The byte that `aesSub` takes to a byte. -/
def aesUnsub (b : Nat) : Nat := (aesSub0 ++ aesSub1 ++ aesSub2 ++ aesSub3).findIdx (· == b)

/-- Rows shifted back. -/
def aesUnshift (b : List Nat) : List Nat := (List.range 16).map (fun i => (b[(i + 12 * (i % 4)) % 16]?).getD 0)

/-- One column unmixed: mixing has order four. -/
def aesUnmixColumn (l : List Nat) : List Nat := aesMixColumn (aesMixColumn (aesMixColumn l))

/-- One block decrypted. -/
def aesUnblock (key block : List Byte) : List Byte :=
  let ks := (aesRoundKeys key).reverse
  let b := (aesUnshift (xorBytes (block.map (·.toNat)) (ks.headD []))).map aesUnsub
  let b := ((ks.drop 1).dropLast).foldl (fun b k =>
    (aesUnshift ((chunks 4 4 (xorBytes b k)).flatMap aesUnmixColumn)).map aesUnsub) b
  (xorBytes b (ks.getLastD [])).map (BitVec.ofNat 8)

/-! ### AES key wrap (RFC 3394) and AES-CMAC (R436) -/

/-- Steps of a wrap of `n` blocks of 8 bytes: the block that each takes, and its number from 1. -/
def wrapSteps (n : Nat) : List (Nat × Nat) :=
  (List.range 6).flatMap (fun j => (List.range n).map (fun i => (i, n * j + i + 1)))

/-- The number of a step mixed into the integrity register. -/
def wrapMix (a : List Byte) (t : Nat) : List Byte := List.zipWith (· ^^^ ·) a (beBytes 8 t)

/-- A key wrapped under a key-encryption key. -/
def keyWrap (kek key : List Byte) : List Byte :=
  let n := key.length / 8
  let (a, r) := (wrapSteps n).foldl (fun (a, r) (i, t) =>
    let b := aesBlock kek (a ++ (r[i]?).getD [])
    (wrapMix (b.take 8) t, r.set i (b.drop 8))) (List.replicate 8 (0xA6 : Byte), chunks 8 n key)
  a ++ r.flatten

/-- A wrapped key unwrapped; none where the integrity register does not come back. -/
def keyUnwrap (kek wrapped : List Byte) : Option (List Byte) :=
  let n := wrapped.length / 8 - 1
  let (a, r) := (wrapSteps n).reverse.foldl (fun (a, r) (i, t) =>
    let b := aesUnblock kek (wrapMix a t ++ (r[i]?).getD [])
    (b.take 8, r.set i (b.drop 8))) (wrapped.take 8, chunks 8 n (wrapped.drop 8))
  if a = List.replicate 8 (0xA6 : Byte) then some r.flatten else none

/-- A CMAC subkey: a block of 128 bits doubled. -/
def cmacDouble (k : List Byte) : List Byte :=
  let v := beNat k
  let d := 2 * v % 2 ^ 128
  beBytes 16 (if 2 ^ 127 ≤ v then d ^^^ 0x87 else d)

/-- AES-CMAC of a message. -/
def cmac (key m : List Byte) : List Byte :=
  let k1 := cmacDouble (aesBlock key (zeros 16))
  let whole := m.length % 16 == 0 && !m.isEmpty
  let last := if whole then k1 else cmacDouble k1
  let p := if whole then m else m ++ [0x80] ++ zeros (15 - m.length % 16)
  let blocks := chunks 16 (p.length / 16) p
  let step (x b : List Byte) : List Byte := aesBlock key (List.zipWith (· ^^^ ·) x b)
  step (blocks.dropLast.foldl step (zeros 16)) (List.zipWith (· ^^^ ·) (blocks.getLastD []) last)

/-- A product in the field of GCM: `x` and `h` as 128-bit numbers, first bit most significant. -/
def gcmMul (x h : Nat) : Nat :=
  ((List.range 128).foldl (fun (a : Nat × Nat) i =>
    (if bit x (127 - i) then a.1 ^^^ a.2 else a.1,
     if bit a.2 0 then (a.2 / 2) ^^^ (0xE1 * 2 ^ 120) else a.2 / 2)) (0, h)).1

/-- Bytes padded with zeros to whole blocks. -/
def padBlocks (l : List Byte) : List Byte := l ++ zeros ((16 - l.length % 16) % 16)

/-- The GHASH of additional data and ciphertext. -/
def ghash (h : Nat) (aad text : List Byte) : Nat :=
  let d := padBlocks aad ++ padBlocks text ++ beBytes 8 (8 * aad.length) ++ beBytes 8 (8 * text.length)
  (chunks 16 d.length d).foldl (fun y b => gcmMul (y ^^^ beNat b) h) 0

/-- Text combined with the key stream, whose counter starts at 2. -/
def gcmStream (key nonce text : List Byte) : List Byte :=
  ((chunks 16 text.length text).zipIdx).flatMap (fun p =>
    List.zipWith (· ^^^ ·) p.1 (aesBlock key (nonce ++ beBytes 4 (p.2 + 2))))

/-- The 16-byte tag of AES-GCM. -/
def gcmTag (key nonce aad cipher : List Byte) : List Byte :=
  let h := beNat (aesBlock key (zeros 16))
  List.zipWith (· ^^^ ·) (beBytes 16 (ghash h aad cipher)) (aesBlock key (nonce ++ beBytes 4 1))

/-- AES-256-GCM: key, nonce, additional data and plaintext give ciphertext and tag (R281). -/
def gcmSeal (key nonce aad plain : List Byte) : List Byte × List Byte :=
  let c := gcmStream key nonce plain
  (c, gcmTag key nonce aad c)

/-- Its inverse: the plaintext, or none where the tag fails (R281, R284). -/
def gcmOpen (key nonce aad cipher tag : List Byte) : Option (List Byte) :=
  if gcmTag key nonce aad cipher = tag then some (gcmStream key nonce cipher) else none

end Sys2Proof.Machine
end

