-- ==== Sys2Proof/Machine/Curves.lean ====
section
/-! DEFINITION. The curves and coefficients that the spec names by a standard: Lanczos kernels (Table 6.1), BT.1886,
PQ (ST 2084) and HLG (BT.2100) (R174, R178, R191), the EETF of BT.2390 (R175), BT.2087 (R177), gains in dB and the
equal-power crossfade (R325, R330), and powers of two of the power model (R40).  They are computed in fixed point, to within one unit of 2^-48; how a result is rounded to the
16 bits or to the coefficient that the device holds is left free (log 6, log 7). -/
namespace Sys2Proof.Machine
open Sys2Proof

/-! ### Fixed point -/

/-- The fixed-point number 1. -/
abbrev one48 : Nat := 2 ^ 48

/-- The greatest number below `acc + 2^n` that `p` holds of, for a `p` that holds of `acc` and of everything below what
it holds of. -/
def greatestFrom (p : Nat → Bool) (acc : Nat) : Nat → Nat
  | 0 => acc
  | n + 1 => greatestFrom p (if p (acc + 2 ^ n) then acc + 2 ^ n else acc) n

/-- The greatest number of at most `n` bits that `p` holds of. -/
def greatest (n : Nat) (p : Nat → Bool) : Nat := greatestFrom p 0 n

/-- A power, taken in two steps so that each exponent is small. -/
def powNat (x n : Nat) : Nat := (x ^ (n / 64)) ^ 64 * x ^ (n % 64)

/-- `x` to the power `m / n`, for a fixed-point `x` from 0 to 1. -/
def powFix (m n x : Nat) : Nat :=
  if n ≤ m then greatest 49 (fun y => decide (powNat y n * powNat one48 (m - n) ≤ powNat x m))
  else greatest 49 (fun y => decide (powNat y n ≤ powNat x m * powNat one48 (n - m)))

/-- e to a fixed-point power from 0 to 4, by its series. -/
def expPos (z : Nat) : Nat :=
  ((List.range 48).foldl (fun (st : Nat × Nat) k => (st.1 + st.2, st.2 * z / (one48 * (k + 1)))) (0, one48)).1

/-- e to a fixed-point power. -/
def expFix (z : Int) : Nat := if 0 ≤ z then expPos z.toNat else one48 * one48 / expPos (-z).toNat

/-- π in fixed point. -/
abbrev piFix : Nat := 884279719003555

/-- sin (π x) of a fixed-point `x` from 0 to 1, by its series. -/
def sinPi (x : Nat) : Int :=
  let y := x * piFix / one48
  let y2 := y * y / one48
  ((List.range 16).foldl (fun (st : Int × Nat × Bool) k =>
    (if st.2.2 then st.1 - st.2.1 else st.1 + st.2.1,
     st.2.1 * y2 / (one48 * ((2 * k + 2) * (2 * k + 3))), !st.2.2)) (0, y, false)).1

/-- sin (π x) / (π x) of a fixed-point `x`, 1 at 0. -/
def sincFix (x : Nat) : Int :=
  if x = 0 then one48
  else
    let s := sinPi (x % one48)
    let s := if x / one48 % 2 = 0 then s else -s
    s * one48 * one48 / (piFix * x : Nat)

/-! ### The fixed banks (Table 6.1) -/

/-- The weight of a Lanczos kernel with a = 4 and cutoff 1, 1/2 or 1/4 for bank 0, 1 or 2, at tap `t` of phase `p`:
sinc (cutoff x) sinc (x / 4), x the distance of source pixel p - 3 + t (R164, R168). -/
def lanczosWeight (bank p t : Nat) : Int :=
  let x := (((t : Int) - 3) * 64 - p).natAbs * (one48 / 64)
  sincFix (x / 2 ^ bank) * sincFix (x / 4) / one48

/-- The taps of phase `p` of a fixed bank 0 to 2: the weights over their sum, in 1/1,024, each rounded to one of its two
neighbours; what they fall short of 1,024 goes to tap 3 or tap 4 as R166 has it, so that the phase sums to 1,024 as
every bank's does (R168, log 7). -/
def lanczosTap (bank p t : Nat) : Int :=
  let sum := (List.range 8).foldl (fun a t => a + lanczosWeight bank p t) 0
  let tap (t : Nat) : Int := nearby 13 (1024 * lanczosWeight bank p t) sum.toNat
  let short := 1024 - (List.range 8).foldl (fun a t => a + tap t) 0
  if t = (if p < 32 then 3 else 4) then tap t + short else tap t

/-! ### Transfer curves, from 0 to 1 in fixed point -/

/-- BT.1886 with gamma 2.4 and black at 0: code to light. -/
def bt1886Light (v : Nat) : Nat := powFix 12 5 v
/-- Light to code. -/
def bt1886Code (l : Nat) : Nat := powFix 5 12 l

/-- ST 2084: code to light, of 10,000 cd/m². -/
def pqLight (v : Nat) : Nat :=
  let q := powFix 32 2523 v
  powFix 8192 1305 (one48 * (128 * q - 107 * one48) / (2413 * one48 - 2392 * q))
/-- ST 2084: light of 10,000 cd/m² to code. -/
def pqCode (l : Nat) : Nat :=
  let t := powFix 1305 8192 l
  powFix 2523 32 (one48 * (107 * one48 + 2413 * t) / (128 * one48 + 2392 * t))

/-- BT.2100 HLG, inverse OETF: code to scene light. -/
def hlgLight (v : Nat) : Nat :=
  if 2 * v ≤ one48 then v * v / (3 * one48)
  else min one48 ((expFix ((100000000 * (v : Int) - 55991073 * one48) / 17883277) + 28466892 * one48 / 100000000) / 12)
/-- BT.2100 HLG, OETF: scene light to code. -/
def hlgCode (l : Nat) : Nat := greatest 49 (fun v => decide (hlgLight v ≤ l ∧ v ≤ one48))

/-- The EETF of BT.2390 from a source peak to a target peak in cd/m², with black at 0, of light over the source peak;
the result is over the target peak.  A source peak not above the target peak is shown as it is. -/
def eetf (src target l : Nat) : Nat :=
  if src ≤ target then l * src / max 1 target
  else
    let top := pqCode (one48 * src / 10000)
    let e := pqCode (l * src / 10000) * one48 / max 1 top
    let m := pqCode (one48 * target / 10000) * one48 / max 1 top
    let ks : Int := (3 * (m : Int) - one48) / 2
    let e2 : Int :=
      if (e : Int) < ks then e
      else
        let u : Int := one48
        let t := ((e : Int) - ks) * u / (u - ks)
        let t2 := t * t / u
        let t3 := t2 * t / u
        ((2 * t3 - 3 * t2 + u) * ks + (t3 - 2 * t2 + t) * (u - ks) + (-2 * t3 + 3 * t2) * m) / u
    min one48 (pqLight (e2.toNat * top / one48) * 10000 / max 1 target)

/-! ### 16-bit values -/

/-- A 16-bit component in fixed point: 0xFFFF is 1 (R172). -/
def fix16 (v : Nat) : Nat := v * one48 / 65535

/-- A fixed-point number as a 16-bit component, limited to 0xFFFF. -/
def to16 (x : Nat) : Nat := min 65535 (nearby 12 (x * 65535 : Nat) one48).toNat

/-- The input code that entry `i` of a fixed curve stands for: 0 to 0xFFFF in 4,095 equal steps, so that full scale maps to
full scale (R172, R175, log 7). -/
def curvePlace (i : Nat) : Nat := i * 65535 / 4095

/-- Entry `i` of the curve of step 2 for a TRANSFER: 0 BT.1886, 1 PQ up to a source peak, 2 HLG (R174). -/
def linearEntry (transfer pqPeak i : Nat) : Nat :=
  let v := fix16 (curvePlace i)
  to16 (match transfer with
    | 0 => bt1886Light v
    | 1 => pqLight v * 10000 / max 1 pqPeak
    | _ => hlgLight v)

/-- Entry `i` of the curve of step 5 for an OUTPUT_TRANSFER: 1 BT.1886 inverse with SDR_WHITE as full scale, 2 PQ inverse
with TARGET_PEAK absolute, 3 HLG OETF (R178). -/
def encodeEntry (transfer white peak i : Nat) : Nat :=
  let v := fix16 (curvePlace i)
  to16 (match transfer with
    | 1 => bt1886Code (min one48 (v * peak / max 1 white))
    | 2 => pqCode (min one48 (v * peak / 10000))
    | _ => hlgCode v)

/-- Entry `i` of fixed LUT `k` of the library: 0 to 2 the linearising curves, PQ over 10,000 cd/m², 3 the identity, 4 to 6
the inverses of 0 to 2, 7 reserved (R5, R191, log 7). -/
def fixedLut (k i : Nat) : Nat :=
  match k with
  | 0 => linearEntry 0 0 i
  | 1 => linearEntry 1 10000 i
  | 2 => linearEntry 2 0 i
  | 3 => curvePlace i
  | 4 => encodeEntry 1 1 1 i
  | 5 => encodeEntry 2 1 10000 i
  | 6 => encodeEntry 3 0 0 i
  | _ => 0

/-- ROLL_OFF of a component maximum over the source peak, as one over TARGET_PEAK (R175). -/
def rollOff (src target m : Nat) : Nat := to16 (eetf src target (fix16 m))

/-- The OOTF of HLG with system gamma 1.2 of a component maximum (R174). -/
def ootf (m : Nat) : Nat := to16 (powFix 6 5 (fix16 m))

/-! ### Gamut (R177) -/

/-- The BT.709 to BT.2020 conversion of BT.2087 in 1/10,000, row by row. -/
def bt2087 (k : Nat) : Int :=
  ([6274, 3293, 433, 691, 9195, 114, 164, 880, 8956][k]?).getD 0

/-- Cofactor of place `k` of BT.2087's matrix. -/
def bt2087Cofactor (k : Nat) : Int :=
  let at_ (r c : Nat) : Int := bt2087 (3 * (r % 3) + c % 3)
  let r := k / 3
  let c := k % 3
  at_ (r + 1) (c + 1) * at_ (r + 2) (c + 2) - at_ (r + 1) (c + 2) * at_ (r + 2) (c + 1)

/-- A coefficient of BT.2087 in S2.13, to BT.2020, or of its inverse (R177). -/
def gamutCoefficient (inverse : Bool) (k : Nat) : Int :=
  if inverse then
    let det := bt2087 0 * bt2087Cofactor 0 + bt2087 1 * bt2087Cofactor 1 + bt2087 2 * bt2087Cofactor 2
    nearby 14 (8192 * 10000 * bt2087Cofactor (3 * (k % 3) + k / 3)) det.toNat
  else nearby 14 (8192 * bt2087 k) 10000

/-! ### Gains and crossfades (R325, R330) -/

/-- The factor of a gain in 0.01 dB, 10 to the power g / 2000, in 1/65,536 (R325). -/
def gainFactor (g : Int) : Nat :=
  let n := (g + 12000).toNat
  let holds (y : Nat) : Bool := decide (powNat y 2000 * powNat 10 12000 ≤ powNat 65536 2000 * powNat 10 n)
  let f := greatest 20 holds
  f + (if powNat f 2000 * powNat 10 12000 = powNat 65536 2000 * powNat 10 n then false
    else Config.roundUp 15 g 2000).toNat

/-- sin(π j / 2n), in 1/65,536, for `j` up to `n`; of n - j it is cos(π j / 2n) (R329, R330). -/
def sinQuarter (j n : Nat) : Int :=
  if n ≤ j then 65536 else nearby 16 (65536 * sinPi (j * one48 / (2 * n))) one48

/-! ### The power model (R40) -/

/-- 2 to the power (T - 65) / 20, in 1/65,536, for a temperature in 1/16 degrees. -/
def leakFactor (temp : Int) : Nat :=
  let n := (temp - 1040 + 320 * 16).toNat
  let f := greatest 64 (fun y => decide (powNat y 320 ≤ powNat 2 n))
  f + (if powNat f 320 = powNat 2 n then false else Config.roundUp 6 temp 320).toNat

end Sys2Proof.Machine
end

