-- ==== Sys2Proof/Machine/Work.lean ====
section
/-! DEFINITION. Engine work in units of 1/24 layer-sample (R32): what each layer, the Overcoat, rate
conversion and the Lining cost over a region of a canvas. -/
namespace Sys2Proof.Machine
open Sys2Proof

/-- A rectangle of canvas pixels: columns `x0` to `x1 - 1`, rows `y0` to `y1 - 1`. -/
structure Region where
  x0 : Nat
  x1 : Nat
  y0 : Nat
  y1 : Nat
deriving DecidableEq, Repr

/-- How many of `n` places from `a` on lie from `lo` up to but without `hi`. -/
def overlap (a : Int) (n lo hi : Nat) : Nat := (min (a + n) (hi : Int) - max a (lo : Int)).toNat

/-- A canvas's whole area. -/
def State.wholeCanvas (s : State) (c : Nat) : Region :=
  ⟨0, s.rd Dict.CANVAS_WIDTH c, 0, s.rd Dict.CANVAS_HEIGHT c⟩

/-- Pixels of layer `k` inside a region (R200). -/
def State.layerPixels (s : State) (k : Nat) (r : Region) : Nat :=
  overlap (s.rdInt Dict.LAYER_POS_X k) (s.rd Dict.LAYER_WIDTH k) r.x0 r.x1
    * overlap (s.rdInt Dict.LAYER_POS_Y k) (s.rd Dict.LAYER_HEIGHT k) r.y0 r.y1

/-- Crop of layer `k` on a source raster: left, top, width, height (R200). -/
def State.cropOf (s : State) (k : Nat) (raster : Nat × Nat) : Nat × Nat × Nat × Nat :=
  let x := s.rd Dict.LAYER_CROP_X k
  let y := s.rd Dict.LAYER_CROP_Y k
  let w := s.rd Dict.LAYER_CROP_W k
  let h := s.rd Dict.LAYER_CROP_H k
  (x, y, if w = 0 then raster.1 - x else w, if h = 0 then raster.2 - y else h)

/-- Whether a yield of a step and kind is in force for an item (R45, R60). -/
def State.yielded (s : State) (step kind item : Nat) : Bool :=
  s.gov.yields.any (fun y => y.step == step && y.kind == kind && y.item == item)

/-- Layers that a canvas takes from its Lining: from the first judging latch after its completion on (R221, R223). -/
def State.linedMask (s : State) (c : Nat) : Nat :=
  if (s.canvasAt c).liningState = 3 ∧ (s.canvasAt c).liningUsed then s.rd Dict.LINING_LINED_MASK 0 c else 0

/-- Entries of the line-store window of a layer at given taps (R170). -/
def lineStore (cropW cropH w h th tv : Nat) : Nat :=
  (ceilDiv (128 * cropW) (max 1 w) + th) * (ceilDiv (tv * max cropH h) (max 1 h) + 1)

/-- Vertical taps at which the line-store rule holds, with the relief of DEGRADE_OK; none when it fails
(R170, R171). -/
def lineTaps (cropW cropH w h th tv : Nat) (degrade : Bool) : Option Nat :=
  ([tv] ++ (if degrade then (if 4 < tv then [4] else []) ++ (if 2 < tv then [2] else []) else [])).find?
    (fun v => decide (lineStore cropW cropH w h th v ≤ 32768))

/-- Vertical taps of layer `k` with a source after DEGRADE_OK, none when the line-store rule fails (R170, R171, R200). -/
def State.reliefFor (s : State) (k kind num : Nat) : Option Nat :=
  match s.sourceRaster kind num with
  | none => some (s.rd Dict.LAYER_V_TAPS k)
  | some r =>
    let (_, _, w, h) := s.cropOf k r
    lineTaps w h (s.rd Dict.LAYER_WIDTH k) (s.rd Dict.LAYER_HEIGHT k) (s.rd Dict.LAYER_H_TAPS k)
      (s.rd Dict.LAYER_V_TAPS k) (s.flag Dict.LAYER_DEGRADE_OK k)

/-- Taps of layer `k` in force, horizontal and vertical: the smallest among its fields, DEGRADE_OK's
and yield step 4's, each direction apart; step 4 leaves a lined layer alone (R166, R171, R222). -/
def State.tapsOf (s : State) (k : Nat) : Nat × Nat :=
  let h := s.rd Dict.LAYER_H_TAPS k
  let v := s.rd Dict.LAYER_V_TAPS k
  let d := (s.layerAt k).degraded
  let v := if d = 0 then v else min v d
  if s.yielded 4 4 k && !bit (s.linedMask (k / 8)) (k % 8) then (min 4 h, min 4 v) else (h, v)

/-- The same for one of the sources that it composes: the outgoing one of a MIX takes the relief that its own raster needs
(R171, R200). -/
def State.tapsFor (s : State) (k kind num : Nat) : Nat × Nat :=
  let (h, v) := s.tapsOf k
  if kind = s.rd Dict.LAYER_SOURCE_KIND k ∧ num = s.rd Dict.LAYER_SOURCE_NUM k then (h, v)
  else
    let relieved := (s.reliefFor k kind num).getD 2
    (h, if s.yielded 4 4 k && !bit (s.linedMask (k / 8)) (k % 8) then min 4 relieved else relieved)

/-- The sources that layer `k` composes: its own, and the outgoing one of a MIX that runs (R141, R204). -/
def State.layerSources (s : State) (k : Nat) : List (Nat × Nat) :=
  (s.rd Dict.LAYER_SOURCE_KIND k, s.rd Dict.LAYER_SOURCE_NUM k)
    :: (match (s.layerAt k).mix with | some m => [(m.outKind, m.outNum)] | none => [])

/-- Taps that layer `k` uses for a source as R32 counts them: 0 for a bypassed direction and for a fill (R165). -/
def State.countedTaps (s : State) (k kind num : Nat) : Nat × Nat :=
  match s.sourceRaster kind num with
  | none => (0, 0)
  | some raster =>
    let (_, _, w, h) := s.cropOf k raster
    let (th, tv) := s.tapsFor k kind num
    (if w = s.rd Dict.LAYER_WIDTH k then 0 else th, if h = s.rd Dict.LAYER_HEIGHT k then 0 else tv)

/-- Rate conversion that an input's composition uses now, with the yields in force: 0 REPEAT, 1 BLEND,
2 MOTION (R45, R48). -/
def State.conversionOf (s : State) (n : Nat) : Nat :=
  let v := s.rd Dict.INPUT_CONVERSION n
  if s.yielded 3 1 n then 0 else if s.yielded 2 1 n then min v 1 else v

/-- Work of rate conversion of one source of layer `k` over a region: the stored pixels that the region reads through the
crop, as the region's share of the layer's rectangle (R32, R183, log 62). -/
def State.conversionOfSource (s : State) (k kind num : Nat) (r : Region) : Nat :=
  if kind = 1 ∧ s.rd Dict.INPUT_TIMING_CLASS num = 2 then
    let (_, _, w, h) := s.cropOf k (s.storedRaster num)
    w * h * s.layerPixels k r / max 1 (s.rd Dict.LAYER_WIDTH k * s.rd Dict.LAYER_HEIGHT k)
      * (match s.conversionOf num with | 0 => 0 | 1 => 72 | _ => 288)
  else 0

/-- Work of layer `k` over a region: scaling and keying, twice while a MIX runs, and the rate conversion of each of its
sources (R32, R141, R204). -/
def State.layerWork (s : State) (k : Nat) (r : Region) : Nat :=
  let (th, tv) := s.countedTaps k (s.rd Dict.LAYER_SOURCE_KIND k) (s.rd Dict.LAYER_SOURCE_NUM k)
  let each := th + tv + 8 + (if s.rd Dict.LAYER_BLEND_CLASS k = 1 then 6 else 0)
  s.layerPixels k r * each * (if (s.layerAt k).mix.isSome then 2 else 1)
    + (s.layerSources k).foldl (fun w x => w + s.conversionOfSource k x.1 x.2 r) 0

/-- Whether slot `slot` of the canvas composes layer `k` (R196). -/
def State.inSlot (s : State) (k slot : Nat) : Bool :=
  s.layerOn k && bit (s.rd Dict.LAYER_SLOT_MASK k) slot

/-- An Overcoat placement: image, scale, repeats and corner (Table 7.5). -/
structure Placement where
  image : Nat
  scale : Nat
  repX : Nat
  repY : Nat
  x : Int
  y : Int
deriving DecidableEq, Repr

/-- A PLACE entry's bytes as a placement. -/
def Placement.ofBytes (b : List Byte) : Placement :=
  ⟨byteAt b 0, byteAt b 1, byteAt b 2, byteAt b 3, signed 32 (leAt b 4 4), signed 32 (leAt b 8 4)⟩

/-- The placement in force on canvas `c` (R215). -/
def State.placement (s : State) (c : Nat) : Placement := .ofBytes (s.dom Dict.OVERCOAT_PLACE 0 c)

/-- Size of an Overcoat image; zero when it is not loaded (R213). -/
def State.imageSize (s : State) (i : Nat) : Nat × Nat :=
  (leAt (s.imageDescAt i) 0 2, leAt (s.imageDescAt i) 2 2)

/-- Whether the Overcoat of canvas `c` is armed in force (R217). -/
def State.armed (s : State) (c : Nat) : Bool := bit (s.rd Dict.OVERCOAT_ARMED) c

/-- Pixels that the placed Overcoat covers in a region (R215). -/
def State.overcoatPixels (s : State) (c : Nat) (r : Region) : Nat :=
  let p := s.placement c
  if p.image < 16 then
    let (w, h) := s.imageSize p.image
    overlap p.x (w * p.scale * p.repX) r.x0 r.x1 * overlap p.y (h * p.scale * p.repY) r.y0 r.y1
  else 0

/-- The bounding rectangle of a canvas's lined run, clipped to the canvas (R221). -/
def State.liningRegion (s : State) (c : Nat) (mask : Nat) : Region :=
  let w := s.rd Dict.CANVAS_WIDTH c
  let h := s.rd Dict.CANVAS_HEIGHT c
  let rects := (bitsSet mask 8).map (fun l =>
    let k := layerNo c l
    let x := s.rdInt Dict.LAYER_POS_X k
    let y := s.rdInt Dict.LAYER_POS_Y k
    (⟨(max x 0).toNat, (min (x + s.rd Dict.LAYER_WIDTH k) w).toNat,
      (max y 0).toNat, (min (y + s.rd Dict.LAYER_HEIGHT k) h).toNat⟩ : Region))
  match rects with
  | [] => ⟨0, 0, 0, 0⟩
  | r :: rest => rest.foldl (fun a b => ⟨min a.x0 b.x0, max a.x1 b.x1, min a.y0 b.y0, max a.y1 b.y1⟩) r

/-- Pixels of a region. -/
def Region.area (r : Region) : Nat := (r.x1 - r.x0) * (r.y1 - r.y0)

/-- The part of a region inside another. -/
def Region.meet (a b : Region) : Region :=
  ⟨max a.x0 b.x0, min a.x1 b.x1, max a.y0 b.y0, min a.y1 b.y1⟩

/-- Work of composing a region of slot `slot` of canvas `c` (R32, R221): the lined layers count as one
bypassed layer over their rectangle. -/
def State.regionWork (s : State) (c slot : Nat) (r : Region) : Nat :=
  let lined := s.linedMask c
  let live := (List.range 8).foldl (fun w l =>
    if s.inSlot (layerNo c l) slot && !bit lined l then w + s.layerWork (layerNo c l) r else w) 0
  let lining := if lined = 0 then 0 else 8 * ((s.liningRegion c lined).meet r).area
  live + lining + (if s.armed c then 24 * s.overcoatPixels c r else 0)

/-- Work of one slot frame, conversion included (R38). -/
def State.slotWork (s : State) (c slot : Nat) : Nat := s.regionWork c slot (s.wholeCanvas c)

/-- Work of a Lining rebuild: 1 per pixel of each lined layer (R32). -/
def State.rebuildWork (s : State) (c : Nat) : Nat :=
  (bitsSet (s.rd Dict.LINING_LINED_MASK 0 c) 8).foldl
    (fun w l => w + 24 * s.layerPixels (layerNo c l) (s.wholeCanvas c)) 0

/-- A canvas's demand in 1/24 layer-samples/s: the work of its slots times the base rate, halved under
step 5 (R38, R45), with its pending rebuild once per base frame. -/
def State.canvasDemand (s : State) (c : Nat) : Nat :=
  if s.canvasRuns c then
    let w := (List.range (s.canvasSlots c)).foldl (fun w i => w + s.slotWork c i) 0
    let w := if s.yielded 5 5 c then w / 2 else w
    let w := if (s.canvasAt c).liningState = 2 && !s.yielded 1 6 0 then w + s.rebuildWork c else w
    w * s.ftgDen (s.canvasFtg c) * nsPerS / s.ftgNum (s.canvasFtg c)
  else 0

/-- The demand on the engine islands in 1/24 layer-samples/s (R38). -/
def State.demand (s : State) : Nat := allCanvases.foldl (fun d c => d + s.canvasDemand c) 0

/-- A rate in 1/24 layer-samples/s as Q16.16 G layer-samples/s (R57). -/
def gigaQ16 (rate24 : Nat) : Nat := rate24 * 65536 / (24 * nsPerS)

/-- The target pace of the engine islands in Q16.16, from a demand (R38). -/
def State.targetPace (s : State) (demand : Nat) : Nat :=
  let n := s.activeEngines
  if n = 0 then 0 else demand * 65536 * 100 / (24 * nsPerS * n * 85)

end Sys2Proof.Machine
end

