-- ==== Sys2Proof/Machine/GovernorOps.lean ====
section
/-! DEFINITION. The governor tick as one shared operation: readings, the effective limit, yields and
restores, targets, pace ratios and the DRAM judgements (R30 to R60, R362 to R364). -/
namespace Sys2Proof.Machine
open Sys2Proof

/-! ### The power model (R40) -/

/-- Calibration of an island in 1/65,536; 65,536 before any. -/
def State.calKAt (s : State) (i : Nat) : Nat := Store.read (fun _ => 65536) s.gov.calK i
/-- Calibration of the leakage. -/
def State.calLAt (s : State) (i : Nat) : Nat := Store.read (fun _ => 65536) s.gov.calL i

/-- Leakage of island `i` in mW (R40, Table 2.3). -/
def State.leakage (s : State) (i : Nat) : Nat :=
  let mv := s.rd Dict.ISLAND_PACE_VOLTAGE 0 i
  let ref := if i = 4 then 1800 else 2200
  ref * mv * mv * leakFactor (s.rdInt Dict.ISLAND_PACE_TEMPERATURE 0 i) * s.calLAt i
    / (750 * 750 * 65536 * 65536)

/-- Dynamic power of island `i` in mW at a work rate in 1/24 layer-samples/s. -/
def State.dynamic (s : State) (i rate24 : Nat) : Nat :=
  let mv := s.rd Dict.ISLAND_PACE_VOLTAGE 0 i
  let k := if i = 4 then 650 else 1300
  k * mv * mv * rate24 * s.calKAt i / (1000000 * 24 * nsPerS * 65536)

/-- The work rate of island `i` since the last tick, in 1/24 layer-samples/s, by the completion counters of its engines or
of its links, one flit counted as four layer-samples (R30, R33). -/
def State.completedRate (s : State) (t : Telemetry) (i : Nat) : Nat :=
  let work := if i = 4 then 96 * t.fabFlits
    else ((allEngines.filter (fun e => islandOf e == i)).map (fun e => (s.engineAt e).work)).foldl (· + ·) 0
  work * nsPerS / max 1 (s.now - s.gov.lastTick)

/-- The work rate of an island: its share of a demand, or FAB's traffic (R38). -/
def State.islandRate (s : State) (demand i : Nat) : Nat :=
  if i = 4 then Config.fabricWork demand
  else if s.activeEngines = 0 then 0 else demand * s.activeIn i / s.activeEngines

/-- A power-down setting in force since the last governor tick: 0 POWER_DOWN, 1 SLEEP_CYCLE, 2 IDLE_TIMER (R374). -/
def State.dramPower (s : State) (k : Nat) : Nat := (s.dram.power[k]?).getD 0

/-- Length of a DRAM power-down cycle in µs: SLEEP_CYCLE, or the least latency tolerance of a running
DRAM-scanned head less t_x and t_f (R362). -/
def State.cycleUs (s : State) : Nat :=
  allHeads.foldl (fun t h =>
    if (s.headAt h).running && s.headRd h Dict.HEAD_BUFFER_MODE == 1
    then min t (s.rd Dict.HEAD_LATENCY_TOLERANCE h - 17) else t) (s.dramPower 1)

/-- Whether the channels stay awake throughout (R362). -/
def State.dramAwake (s : State) : Bool :=
  s.dramPower 0 == 0 || s.dram.held || decide (s.cycleUs < 15 + s.dramPower 2 + 10)

/-- Channel traffic in MB/s: data traffic, with that of protected data multiplied by 8/7 (R364). -/
def State.channelTraffic (s : State) (t : Telemetry) : Nat :=
  t.traffic + (if s.dramSetting 3 = 1 then t.traffic else t.guarded) / 7

/-- Awake fraction d of R364 in 1/65,536, for a utilisation in 1/65,536. -/
def State.awakeFraction (s : State) (u : Nat) : Nat :=
  if s.dramAwake then 65536
  else min 65536 ((15 + s.dramPower 2) * 65536 / max 1 s.cycleUs + u)

/-- Bandwidth of the 24 channels in OPEN mode at the RATE in force, in MB/s (Table 12.3). -/
def State.openBandwidth (s : State) : Nat :=
  match s.dramSetting 0 with | 0 => 230400 | 1 => 256000 | 2 => 281600 | _ => 307200

/-- Traffic of bytes, as its channels carry it: protected data also moves its parity (R353, R364). -/
def State.channelBytes (s : State) (guarded : Bool) (n : Nat) : Nat :=
  if guarded || s.dramSetting 3 == 1 then n * 8 / 7 else n

/-- Bytes that layer `k` reads from DRAM for one slot of a source: its crop, with the fetch factor of each direction that is
scaled, twice for a converted input (Table 12.6, line 6). -/
def State.layerReads (s : State) (k kind n : Nat) : Nat :=
  let inStage := kind == 1 && s.rd Dict.INPUT_TIMING_CLASS n != 2
  match s.sourceRaster kind n with
  | none => 0
  | some raster =>
    if inStage then 0
    else
      let (_, _, cw, ch) := s.cropOf k raster
      let (th, tv) := s.countedTaps k kind n
      let w := s.rd Dict.LAYER_WIDTH k
      let h := s.rd Dict.LAYER_HEIGHT k
      let bytes := match kind with
        | 1 => s.ingestBytes n * (if s.conversionOf n = 0 then 1 else 2)
        | 2 => bytesPerPixel (s.rd Dict.HOST_SOURCE_FORMAT n)
        | _ => bytesPerPixel (s.playerClip n).format
      let wide := if th = 0 then cw * ch * bytes else cw * ch * bytes * (128 * cw + th * w) / max 1 (128 * cw)
      if tv = 0 then wide else wide * (64 * ch + (tv - 1) * h) / max 1 (64 * ch)

/-- Channel bytes per second of composing canvas `c`: head buffers written and sources read (Table 12.6, lines 1 and
6), halved under step 5. -/
def State.canvasTraffic (s : State) (c : Nat) : Nat :=
  if s.canvasRuns c then
    let written := match s.bufferHead c with
      | some h => if s.headRd h Dict.HEAD_BUFFER_MODE = 1 then
          s.channelBytes true (s.canvasBytes c (s.headRd h Dict.HEAD_FORMAT) / 2) else 0
      | none => 0
    let lined := s.linedMask c
    let reads := (List.range (s.canvasSlots c)).foldl (fun a i => (List.range 8).foldl (fun a l =>
      if s.inSlot (layerNo c l) i && !bit lined l then
        (s.layerSources (layerNo c l)).foldl (fun a x => a + s.layerReads (layerNo c l) x.1 x.2) a
      else a) a) 0
    let all := written + s.channelBytes false reads
    (if s.yielded 5 5 c then all / 2 else all) * s.ftgDen (s.canvasFtg c) * nsPerS / s.ftgNum (s.canvasFtg c)
  else 0

/-- The state with the yields that canvas `c` composes under (R37). -/
def State.underYields (s : State) (c : Nat) : State := { s with gov := { s.gov with yields := (s.canvasAt c).yields } }

/-- By how much the yields in force change the channel traffic that is measured, in MB/s: a decision takes effect only
at a canvas's next base-frame latch (R37, R38, R40, log 57). -/
def State.trafficShift (s : State) : Int :=
  (allCanvases.foldl (fun (a : Int) c => a + (s.canvasTraffic c : Int) - ((s.underYields c).canvasTraffic c : Int)) 0)
    / 1000000

/-- VDDQ power in mW by the model of R364, over the measured traffic and what the yields in force change of it. -/
def State.vddqPower (s : State) (t : Telemetry) : Nat :=
  let d := s.trafficShift
  let traffic := ((s.channelTraffic t : Int) + d).toNat
  7200 + 36480 * s.awakeFraction (traffic * 65536 / s.openBandwidth) / 65536 + 50 * traffic / 1000

/-- Power of the background works that are not deferred (Table 2.7). -/
def State.backgroundPower (s : State) : Nat :=
  (List.range 4).foldl (fun p k => if s.yielded 1 6 k then p else p + Config.backgroundPower k) 0

/-- U-lanes, D-lanes and ports that the configuration in force has up or coming up, and the DRAM channels in service
(R40). -/
def State.linksNow (s : State) : List Nat :=
  let on (l : Lane) : Bool := l.state != .off && l.state != .retired
  [((List.range 52).filter (fun l => on (s.ulaneAt l))).length,
   ((List.range 16).filter (fun l => on (s.dlaneAt l))).length,
   ((List.range 48).filter (fun p => s.flag Dict.PORT_ADMIN p)).length,
   24 - ([0, 1, 2].map s.lostIn).foldl (· + ·) 0]

/-- By how much the power of the other rails differs from what was measured, for the lanes, ports and channels that have
come up or gone down since (R40, log 3). -/
def State.linkShift (s : State) : Int :=
  ((s.linksNow.zip s.gov.linked).mapIdx (fun k x => ((x.1 : Int) - x.2) * Config.linkPower k)).foldl (· + ·) 0

/-- The estimate in mW from the configuration and the yields in force (R38, R40). -/
def State.estimate (s : State) (t : Telemetry) : Nat :=
  let d := s.demand
  (List.range 5).foldl (fun p i => p + s.dynamic i (s.islandRate d i) + s.leakage i)
    (((t.other : Int) + s.linkShift).toNat + s.vddqPower t + s.backgroundPower)

/-- The load that is compared with the limit (R41). -/
def State.load (s : State) (t : Telemetry) : Nat :=
  if s.rd Dict.GOVERNOR_MODE = 2 then max (s.estimate t) t.measured else s.estimate t

/-- Pace that an island can reach: at 0.90 V, or what its ring reads while its regulator does not answer or AVS_HOLD
freezes its voltage (R35, R45). -/
def State.reach (s : State) (t : Telemetry) (i : Nat) : Nat :=
  match t.islands[i]? with
  | some r => if Store.read (fun _ => false) s.gov.avsFault i || bit (s.rd Dict.GOVERNOR_AVS_HOLD) i then r.pace
      else r.reach
  | none => 0

/-- The target pace of an island for a demand (R38, log 3). -/
def State.islandTarget (s : State) (demand i : Nat) : Nat :=
  if i = 4 then Config.fabTarget demand else s.targetPace demand

/-- Whether the target exceeds the pace that some adaptive island in service can reach (R45). -/
def State.beyondReach (s : State) (t : Telemetry) : Bool :=
  (List.range 5).any (fun i =>
    decide ((i = 4 ∨ 0 < s.activeIn i) ∧ s.reach t i < s.islandTarget s.demand i))

/-! ### The limit (R42, R43) -/

/-- POWER_CAP, the pin cap and the thermal limit in mW: the lowest, with its source (R42, R57). -/
def State.effectiveLimit (s : State) : Nat × Nat :=
  let cap := s.rd Dict.GOVERNOR_POWER_CAP * 1000
  let a := if s.flag Dict.GOVERNOR_PIN_CAP_ENABLE && decide (s.gov.pinCap * 1000 < cap)
    then (s.gov.pinCap * 1000, 1) else (cap, 0)
  match s.gov.thermal with
  | some t => if t < a.1 then (t, 2) else a
  | none => a

/-- The thermal limit set or withdrawn from the hottest sensor (R43). -/
def State.judgeThermal (s : State) (t : Telemetry) : State :=
  let ceiling : Int := 16 * s.rd Dict.GOVERNOR_TEMP_CEILING
  if ceiling ≤ t.dieTemp then
    let lim := t.measured - 2000
    let s' := { s with gov := { s.gov with thermal := some lim } }
    s'.raiseIf s.gov.thermal.isNone Event.TEMP_CEILING (unsigned 32 t.dieTemp) lim
  else if s.gov.thermal.isSome && decide (t.dieTemp ≤ ceiling - 48) then
    ({ s with gov := { s.gov with thermal := none } }).raise Event.TEMP_CEILING_END
      (unsigned 32 t.dieTemp) 0
  else s

/-! ### Engines' busy time (R51, R53, R55) -/

/-- Copies that an engine holds (R51). -/
def State.heldBy (s : State) (e : Nat) : Nat :=
  (s.strips.filter (fun a => a.copies.any (·.engine == e))).length

/-- An engine's busy time counted up to now: it is busy while it holds a copy (R53, R55). -/
def State.accrue (s : State) (e : Nat) : State :=
  let d := if s.heldBy e = 0 then 0 else s.timebase - (s.engineAt e).busyTo
  s.modEngine e (fun g => { g with busy := g.busy + d, busyTo := s.timebase })

/-- Motion estimation of input `n` stops: its copies leave the engines, and its incomplete fields are dropped (R184). -/
def State.stopEstimation (s : State) (n : Nat) : State :=
  let own (a : Strip) : Bool := a.kind == .estimate && a.owner == n
  let s := (s.strips.filter own).foldl (fun s a => a.copies.foldl (fun s c => s.accrue c.engine) s) s
  ({ s with strips := s.strips.filter (fun a => !own a) }).modInput n (fun i => { i with
    fields := i.fields.filter (fun f => f.complete) })

/-! ### The yield order (R44, R45) -/

/-- Whether a canvas counts as GUARANTEED: its CLASS, a GUARANTEED head it feeds, or an armed Overcoat
(R44, R218). -/
def State.guaranteed (s : State) (c : Nat) : Bool :=
  s.rd Dict.CANVAS_CLASS c == 0 || s.armed c
    || (s.headsOf c).any (fun h => s.rd Dict.HEAD_CLASS h == 0)

/-- Items that a step may yield now, with their kinds (Table 2.6). -/
def State.eligible (s : State) : Nat → List (Nat × Nat)
  | 1 => ((List.range 4).filter (fun k =>
      (if k = 0 then allCanvases.any (fun c => (s.canvasAt c).liningState == 2)
       else decide (0 < Config.backgroundPower k))
        && !s.yielded 1 6 k && !Store.read (fun _ => false) s.gov.forced k)).map (fun k => (6, k))
  | 2 => ((List.range 64).filter (fun n =>
      s.rd Dict.INPUT_CLASS n == 1 && s.rd Dict.INPUT_TIMING_CLASS n == 2
        && s.rd Dict.INPUT_CONVERSION n == 2 && !s.yielded 2 1 n)).map (fun n => (1, n))
  | 3 => ((List.range 64).filter (fun n =>
      s.rd Dict.INPUT_CLASS n == 1 && s.rd Dict.INPUT_TIMING_CLASS n == 2
        && s.conversionOf n == 1 && !s.yielded 3 1 n)).map (fun n => (1, n))
  | 4 => ((List.range 64).filter (fun k =>
      s.canvasRuns (k / 8) && s.layerOn k && s.rd Dict.LAYER_CLASS k == 1 && !s.yielded 4 4 k
        && !s.flag Dict.LAYER_LINED k
        && (s.layerSources k).any (fun x => decide (4 < (s.countedTaps k x.1 x.2).1 ∨ 4 < (s.countedTaps k x.1 x.2).2)))).map
          (fun k => (4, k))
  | 5 => (allCanvases.filter (fun c =>
      s.canvasRuns c && !s.guaranteed c && !s.yielded 5 5 c)).map (fun c => (5, c))
  | _ => []

/-- PRIORITY of an item; background work keeps its own order. -/
def State.priorityOf (s : State) : Nat × Nat → Nat
  | (1, n) => s.rd Dict.INPUT_PRIORITY n
  | (4, k) => s.rd Dict.LAYER_PRIORITY k
  | (5, c) => s.rd Dict.CANVAS_PRIORITY c
  | _ => 0

/-- Whether item `a` yields before item `b`: lower priority first, then the higher dictionary index; the
background works in the order of Table 2.7 (R44, R45). -/
def State.yieldsBefore (s : State) (a b : Nat × Nat) : Bool :=
  if a.1 = 6 then decide (a.2 < b.2)
  else decide (s.priorityOf a < s.priorityOf b)
    || (s.priorityOf a == s.priorityOf b && decide (b.2 < a.2))

/-- Parameter A of a yield event (R60). -/
def yieldCode (step kind item : Nat) : Nat := step * 2 ^ 24 + kind * 2 ^ 16 + item % 2 ^ 16

/-- One yield applied, with its modelled saving (R45, R60); under the thermal limit, and in STEADY, it is one for the
ceiling (Table 2.5).  Under step 2 motion estimation stops (R184). -/
def State.applyYield (s : State) (t : Telemetry) (step : Nat) (i : Nat × Nat) : State :=
  let ceiling := s.effectiveLimit.2 == 2 || s.rd Dict.GOVERNOR_MODE == 1
  let s1 := { s with gov := { s.gov with yields := ⟨step, i.1, i.2, 0, 0, ceiling⟩ :: s.gov.yields } }
  let saving := s.estimate t - s1.estimate t
  let s := { s with gov := { s.gov with yields := ⟨step, i.1, i.2, saving, 0, ceiling⟩ :: s.gov.yields } }
  let s := if step = 2 then s.stopEstimation i.2 else s
  s.raise Event.GOV_YIELD (yieldCode step i.1 i.2) saving

/-- Whether the load exceeds the limit or a target is out of reach (R45). -/
def State.overLimit (s : State) (t : Telemetry) (limit : Nat) : Bool :=
  decide (limit < s.load t) || s.beyondReach t

/-- Yields in the order of Table 2.6, each step for every eligible item, until nothing is over (R45). -/
def State.applyYields (s : State) (t : Telemetry) (limit : Nat) : State :=
  [1, 2, 3, 4, 5].foldl (fun s step =>
    (sortBy s.yieldsBefore (s.eligible step)).foldl (fun s i =>
      if s.overLimit t limit then s.applyYield t step i else s) s) s

/-- Restoration, most recent first, while each saving fits; in CAPPED only after RESTORE_HOLD
consecutive fitting ticks, in STEADY only yields for the ceiling (R48, Table 2.5).  `fuel` bounds the yields. -/
def State.restoreYields (s : State) (t : Telemetry) (limit : Nat) : Nat → Nat → State
  | 0, _ => s
  | fuel + 1, load =>
    match s.gov.yields with
    | [] => s
    | y :: rest =>
      if s.rd Dict.GOVERNOR_MODE = 1 ∧ y.ceiling = false then s
      else if limit < load + y.saving then
        { s with gov := { s.gov with yields := { y with fits := 0 } :: rest } }
      else
        let held := s.rd Dict.GOVERNOR_MODE == 2 && decide (y.fits + 1 < s.rd Dict.GOVERNOR_RESTORE_HOLD)
        if held then { s with gov := { s.gov with yields := { y with fits := y.fits + 1 } :: rest } }
        else
          let s := { s with gov := { s.gov with yields := rest } }
          let s := if y.step = 2 then s.modInput y.item (fun n => { n with
              motionWaits := true, estimateFrom := n.nextFrame }) else s
          (s.raise Event.GOV_RESTORE (yieldCode y.step y.kind y.item) y.saving).restoreYields t limit fuel
            (load + y.saving)

/-- BUDGET_BREACH begun or ended (R49). -/
def State.setBreach (s : State) (on : Bool) (load limit : Nat) : State :=
  if on = s.gov.breach then s
  else ({ s with gov := { s.gov with breach := on } }).raise
    (if on then Event.BUDGET_BREACH else Event.BUDGET_BREACH_END) load limit

/-- The decision of one tick (the procedure of R49); a tick over the limit is none at which a saving has
fitted (R48). -/
def State.decideYields (s : State) (t : Telemetry) : State :=
  let whole := s.effectiveLimit.1
  let limit := if s.rd Dict.GOVERNOR_MODE = 2 then whole - 1000 * s.rd Dict.GOVERNOR_CAP_GUARD else whole
  let cap := s.rd Dict.GOVERNOR_POWER_CAP * 1000
  if s.rd Dict.GOVERNOR_MODE = 1 ∧ s.gov.thermal = none then
    let e := s.estimate t
    let s' := s.raiseIf (decide (cap < e) && !s.gov.capExceeded) Event.CAP_EXCEEDED e cap
    let s' := { s' with gov := { s'.gov with capExceeded := decide (cap < e) } }
    if whole < e then s' else (s'.setBreach false e whole).restoreYields t whole s'.gov.yields.length e
  else if s.overLimit t limit then
    let fresh := s.gov.yields.map (fun y => { y with fits := 0 })
    let s := ({ s with gov := { s.gov with yields := fresh } }).applyYields t limit
    s.setBreach (decide (limit < s.load t)) (s.load t) whole
  else
    let s := s.setBreach false (s.load t) whole
    s.restoreYields t limit s.gov.yields.length (s.load t)

/-- Islands whose target with its margin exceeds their pace at 0.90 V as last read (R35). -/
def State.ceilings (s : State) : List Nat :=
  (List.range 5).filter (fun i =>
    let r := Store.read (fun _ => 0) s.gov.reachAt i
    r != 0 && decide ((r - 1) * 100 < s.rd Dict.ISLAND_PACE_TARGET 0 i * (100 + s.rd Dict.GOVERNOR_AVS_MARGIN)))

/-- PACE_CEILING raised for each island that has come to its ceiling (R35). -/
def State.judgeCeilings (s : State) : State :=
  let high := s.ceilings
  let s' := high.foldl (fun t i => t.raiseIf (!s.gov.ceilings.contains i) Event.PACE_CEILING (i + 1)
      (t.rd Dict.ISLAND_PACE_TARGET 0 i * 4096 / 65536)) s
  { s' with gov := { s'.gov with ceilings := high } }

/-- The demand that targets must meet: of each canvas as it is in force, or as a pending commit will have it (R38, R39). -/
def State.demandAimed (s : State) : Nat :=
  allCanvases.foldl (fun d c => d + max (s.canvasDemand c) (Store.read (fun _ => 0) s.gov.wanted c)) 0

/-- New targets: raised at once, lowered only at a tick, and never below what an acknowledged commit will need (R38, R39);
PACE_CEILING at its onset (R35).  `lower` says whether this is a tick. -/
def State.setTargets (s : State) (lower : Bool) : State :=
  let d := s.demandAimed
  ((List.range 5).foldl (fun s i =>
    let old := s.rd Dict.ISLAND_PACE_TARGET 0 i
    let new := if lower then s.islandTarget d i else max old (s.islandTarget d i)
    let s := if old < new then { s with gov := { s.gov with
        targetAt := Store.write (fun _ => 0) s.gov.targetAt i (s.now + 1) } } else s
    s.wr Dict.ISLAND_PACE_TARGET new 0 i) s).judgeCeilings

/-! ### Readings, deferral and ratios -/

/-- Calibration of an island against its telemetry at the work rate that its completion counters show, averaged with weight
1/64 (R33, R40). -/
def State.calibrate (s : State) (i power rate24 : Nat) : State :=
  let model := s.dynamic i rate24 + s.leakage i
  if model = 0 then s
  else
    let next (c : Nat) : Nat := (63 * c + c * (power * 1000 / 65536) / model) / 64
    { s with gov := { s.gov with
        calK := Store.change (fun _ => 65536) s.gov.calK i next
        calL := Store.change (fun _ => 65536) s.gov.calL i next } }

/-- The islands' readings, into ISLAND_PACE and the calibration (R33, R40, R58). -/
def State.readIslands (s : State) (t : Telemetry) : State :=
  (List.range 6).foldl (fun s i => match t.islands[i]? with
    | some r =>
      let s := s.wr Dict.ISLAND_PACE_PACE r.pace 0 i
      let s := s.wr Dict.ISLAND_PACE_VOLTAGE r.mv 0 i
      let s := s.wrInt Dict.ISLAND_PACE_TEMPERATURE r.temp 0 i
      let s := s.wr Dict.ISLAND_PACE_POWER r.power 0 i
      if i < 5 then
        let s := s.calibrate i r.power (s.completedRate t i)
        { s with gov := { s.gov with reachAt := Store.write (fun _ => 0) s.gov.reachAt i (r.reach + 1) } }
      else s
    | none => s) { s with gov := { s.gov with
      flits := Store.change (fun _ => 0) (Store.change (fun _ => 0) s.gov.flits 4 (· + t.fabFlits)) 5 (· + t.ctlFlits) } }

/-- PMBus readings of the regulators: three successive ones unacknowledged raise PMBUS_NACK (R85). -/
def State.readRegulators (s : State) (t : Telemetry) : State :=
  (List.range 6).foldl (fun s k => match t.acks[k]? with
    | some ok =>
      let n := if ok then 0 else Store.read (fun _ => 0) s.gov.nacks k + 1
      let s := { s with gov := { s.gov with nacks := Store.write (fun _ => 0) s.gov.nacks k n } }
      s.raiseIf (n == 3) Event.PMBUS_NACK (0x600 + Config.interfaceNumber 1 % 256)
        (s.rd Dict.MANAGEMENT_REGULATOR_ADDR 0 k)
    | none => s) s

/-- Nanoseconds that background work `k` was deferred in the last 24 hours of operating seconds (R46). -/
def State.deferredNs (s : State) (k : Nat) : Nat :=
  let sec := s.life.opSeconds
  ((Store.keysIn s.gov.deferred (k * 2 ^ 40 + (sec + 1 - 86400)) (k * 2 ^ 40 + sec + 1)).map
    (Store.read (fun _ => 0) s.gov.deferred)).foldl (· + ·) 0

/-- Patrol scrub forced: its yield ends, and it is not deferred again until it has made a full pass and its deferral in 24 h
is below the limit (R46).  This end of a yield is no restore, and raises no GOV_RESTORE (DESIGN CHOICE, log 40). -/
def State.forcePatrol (s : State) : State :=
  ({ s with gov := { s.gov with
      yields := s.gov.yields.filter (fun y => !(y.step == 1 && y.item == 1))
      forced := Store.write (fun _ => false) s.gov.forced 1 true, passOwed := true } }).raise
    Event.BACKGROUND_FORCED 1 (s.deferredNs 1 / nsPerS)

/-- Clip frames that a playing player holds ahead of the one it shows (R117). -/
def State.framesAhead (s : State) (n : Nat) : Nat :=
  ((s.playerAt n).held.filter (fun e => e.1 != s.rd Dict.POCKET_PLAYER_POSITION n)).length

/-- Pocket prefetch at the limit of its deferral: a playing player holds no more than 2 frames ahead; from here on the two
frames are read as GUARANTEED work (R46, Table 2.7). -/
def State.judgePrefetch (s : State) : State :=
  let was := Store.read (fun _ => false) s.gov.forced 3
  let on := s.yielded 1 6 3 && (was || (List.range 32).any (fun n =>
    s.rd Dict.POCKET_PLAYER_PLAY_STATE n == 3 && decide (s.framesAhead n ≤ 2)))
  let s' := { s with gov := { s.gov with forced := Store.write (fun _ => false) s.gov.forced 3 on } }
  s'.raiseIf (on && !was) Event.BACKGROUND_FORCED 3 (s.deferredNs 3 / nsPerS)

/-- A histogram flush that the governor still defers at a checkpoint is forced there, and the count of its
deferral starts again (R46, R465).  As in `forcePatrol` the end of the yield is no restore (DESIGN CHOICE, log 40). -/
def State.forceFlush (s : State) : State :=
  let waited := s.deferredNs 2 / nsPerS
  let was := s.yielded 1 6 2
  let s := { s with gov := { s.gov with
    yields := s.gov.yields.filter (fun y => !(y.step == 1 && y.item == 2))
    deferred := Store.drop s.gov.deferred (fun k => k / 2 ^ 40 == 2) } }
  s.raiseIf was Event.BACKGROUND_FORCED 2 waited

/-- Deferral counted since the last tick; patrol scrub is forced at 6 h in 24 h, pocket prefetch at 2 frames (R46). -/
def State.countDeferral (s : State) : State :=
  let d := s.now - s.gov.lastTick
  let sec := s.life.opSeconds
  let s := { s with gov := { s.gov with
    deferred := Store.drop s.gov.deferred (fun k => decide (k % 2 ^ 40 + 86400 ≤ sec)) } }
  let s := (List.range 4).foldl (fun s k =>
    if s.yielded 1 6 k then
      { s with gov := { s.gov with
          deferred := Store.change (fun _ => 0) s.gov.deferred (k * 2 ^ 40 + sec) (· + d) } }
    else s) s
  let s := s.judgePrefetch
  if s.yielded 1 6 1 && decide (21600 * nsPerS ≤ s.deferredNs 1) then s.forcePatrol
  else if Store.read (fun _ => false) s.gov.forced 1 && !s.gov.passOwed
      && decide (s.deferredNs 1 < 21600 * nsPerS) then
    { s with gov := { s.gov with forced := Store.write (fun _ => false) s.gov.forced 1 false } }
  else s

/-- Layer-samples per busy second of an engine over its last 64 ticks, scaled; none without busy time. -/
def Engine.figure (e : Engine) : Option Nat :=
  let w := (e.history.map Prod.fst).foldl (· + ·) 0
  let b := (e.history.map Prod.snd).foldl (· + ·) 0
  if b = 0 then none else some (w * nsPerS / b)

/-- The median of a list, the mean of the middle two for an even count. -/
def median (l : List Nat) : Nat :=
  let l := sortBy (fun a b => decide (a < b)) l
  let n := l.length
  if n = 0 then 0
  else if n % 2 = 1 then (l[n / 2]?).getD 0
  else ((l[n / 2 - 1]?).getD 0 + (l[n / 2]?).getD 0) / 2

/-- One engine's ratio judged at a tick against its island's median (R55). -/
def State.judgeEngine (s : State) (e med : Nat) : State :=
  let g := s.engineAt e
  match g.figure with
  | none => s
  | some f =>
    let ratio := if med = 0 then g.ratio else min 65535 (f * 4096 / med)
    let less (percent : Nat) : Bool := if med = 0 then decide (ratio * 100 < percent * 4096) else decide (f * 100 < percent * med)
    let below := if less 35 then g.below + 1 else 0
    let g := { g with ratio := ratio, below := below }
    if g.state = .active ∧ less 60 then
      (s.putEngine e { g with state := .lagging }).raise Event.ENGINE_LAGGING e ratio
    else if g.state = .lagging ∧ !less 70 then
      (s.putEngine e { g with state := .active }).raise Event.ENGINE_LAG_END e ratio
    else s.putEngine e g

/-- The pace monitors at a tick: the figures of the last 64 ticks, and each ratio (R55). -/
def State.judgeEngines (s : State) : State :=
  let s := allEngines.foldl (fun s e => (s.accrue e).modEngine e (fun g =>
    { g with history := ((g.work, g.busy) :: g.history).take 64, work := 0, busy := 0 })) s
  let s := (List.range 4).foldl (fun s i =>
    let es := allEngines.filter (fun e => islandOf e == i && (s.engineAt e).inService)
    let med := median (es.filterMap (fun e => (s.engineAt e).figure))
    es.foldl (fun s e => s.judgeEngine e med) s) s
  s.countEngines

/-- The LIVE fields of DRAM come in force at a governor tick (R374). -/
def State.takePower (s : State) : State :=
  { s with dram := { s.dram with
    power := [s.rd Dict.DRAM_POWER_DOWN, s.rd Dict.DRAM_SLEEP_CYCLE, s.rd Dict.DRAM_IDLE_TIMER] } }

/-- The DRAM controller's judgements at a tick (R362 to R364). -/
def State.judgeDram (s : State) (t : Telemetry) : State :=
  let s := s.takePower
  let u := s.channelTraffic t * 65536 / s.openBandwidth
  let hold := s.dramPower 0 != 0 && decide (95 * 65536 * s.cycleUs
    < 100 * u * s.cycleUs + 100 * 65536 * (15 + s.dramPower 2))
  let s' := { s with dram := { s.dram with held := hold, utilisation := u } }
  let s' := s'.raiseIf (hold && !s.dram.held) Event.DRAM_SLEEP_HELD u s.cycleUs
  let s' := s'.raiseIf (decide (62259 < u) && decide (s.dram.utilisation ≤ 62259))
    Event.DRAM_BANDWIDTH_HIGH u 0
  let s' := s'.wr Dict.DRAM_AWAKE_FRACTION (min 65535 (s'.awakeFraction u))
  let s' := if s'.dramAwake then { s' with dram := { s'.dram with
      channel := s'.dram.channel.filter (fun e => e.2 != 1) } } else s'
  let s' := s'.wr Dict.DRAM_TRAFFIC (s.channelTraffic t)
  (s'.wr Dict.STORE_TIER_TRAFFIC t.tierTraffic).wr Dict.RESILIENCE_PATROL_PROGRESS (min 65535 t.patrol)

/-- FLAGS of GOVERNOR_STATUS (Table 2.9). -/
def State.governorFlags (s : State) (ceiling : Bool) : Nat :=
  maskOf (((if s.gov.breach then [0] else []) ++ (if s.gov.thermal.isSome then [1] else [])
    ++ (if ceiling then [2] else []) ++ (if s.gov.pinFault then [3] else [])
    ++ (if s.gov.avsFault.any Prod.snd then [4] else [])))

/-- mW as Q16.16 W. -/
def wattsQ16 (mw : Nat) : Nat := mw * 65536 / 1000

/-- GOVERNOR_STATUS and the demands, updated at each tick (R57).  YIELDED_ITEMS counts the yields in force, an input that
yields under two steps counting twice (DESIGN CHOICE, log 40). -/
def State.governorStatus (s : State) (t : Telemetry) (ceiling : Bool) : State :=
  let (limit, src) := s.effectiveLimit
  let s := s.raiseIf (s.rd Dict.GOVERNOR_STATUS_EFFECTIVE_LIMIT != wattsQ16 limit) Event.CAP_CHANGED limit src
  let s := s.wr Dict.GOVERNOR_STATUS_EFFECTIVE_LIMIT (wattsQ16 limit)
  let s := s.wr Dict.GOVERNOR_STATUS_LIMIT_SOURCE src
  let s := s.wr Dict.GOVERNOR_STATUS_ESTIMATE (wattsQ16 (s.estimate t))
  let s := s.wr Dict.GOVERNOR_STATUS_MEASURED (wattsQ16 t.measured)
  let s := s.wr Dict.GOVERNOR_STATUS_DEMAND (gigaQ16 s.demand)
  let s := s.wr Dict.GOVERNOR_STATUS_CAPACITY
    ((List.range 4).foldl (fun a i => a + s.reach t i * s.activeIn i) 0)
  let s := s.wr Dict.GOVERNOR_STATUS_YIELD_DEPTH (s.gov.yields.foldl (fun d y => max d y.step) 0)
  let s := s.wr Dict.GOVERNOR_STATUS_YIELDED_ITEMS s.gov.yields.length
  let alert := s.alertPin
  let s := (s.wr Dict.GOVERNOR_STATUS_FLAGS (s.governorFlags ceiling)).tellAlert alert
  let s := s.wrInt Dict.GOVERNOR_STATUS_MAX_DIE_TEMP t.dieTemp
  let s := s.wrDom Dict.GOVERNOR_STATUS_YIELD_LIST
    ((s.gov.yields.reverse.map (fun y => leBytes 4 (yieldCode y.step y.kind y.item))).flatten)
  let s := (s.inc Dict.GOVERNOR_STATUS_TICK_COUNT).wrTime Dict.GOVERNOR_STATUS_LAST_TICK_S
    Dict.GOVERNOR_STATUS_LAST_TICK_NS s.timebase
  allCanvases.foldl (fun s c => s.wr Dict.CANVAS_DEMAND (gigaQ16 (s.canvasDemand c)) c) s

/-- One governor tick (R36, R38, R49). -/
def State.governorTick (s : State) (t : Telemetry) : State :=
  let s := (s.readIslands t).readRegulators t
  let s := s.countDeferral
  let s := s.judgeThermal t
  let hot := decide ((s.rd Dict.DEVICE_STATE_SAFE_TEMP : Int) * 16 ≤ t.dieTemp)
  let s := { s with life := { s.life with maxTemp := max s.life.maxTemp t.dieTemp } }
  let s := { s with gov := { s.gov with
    measured := t.measured, dieTemp := t.dieTemp
    hotSince := if hot = false then 0 else if s.gov.hotSince = 0 then s.now + 1 else s.gov.hotSince } }
  let s := s.judgeEngines
  let s := s.judgeDram t
  let s := s.decideYields t
  let s := s.setTargets true
  let s := s.governorStatus t (!s.gov.ceilings.isEmpty)
  { s with gov := { s.gov with lastTick := s.now, linked := s.linksNow } }

/-- The tick FTG: the running FTG with the highest base rate among those on which a canvas runs, the
lowest-numbered on a tie (R36). -/
def State.tickFtg (s : State) : Option Nat :=
  ((List.range 8).filter (fun n =>
    s.ftgRuns n && allCanvases.any (fun c => s.canvasRuns c && s.canvasFtg c == n))).foldl
    (fun best n => match best with
      | none => some n
      | some b => if s.ftgNum n * s.ftgDen b < s.ftgNum b * s.ftgDen n then some n else some b) none

/-- Whether a base-frame compose latch of canvas `c` is the latch tick of its base period: the first on
the tick FTG (R36). -/
def State.isLatchTick (s : State) (c : Nat) : Bool :=
  s.tickFtg == some (s.canvasFtg c)
    && s.gov.latchTick != (s.rd Dict.FTG_BASE_FRAMES (s.canvasFtg c) + 1) * 8 + s.canvasFtg c

/-- The latch tick of a base period, once (R36). -/
def State.latchTick (s : State) (c : Nat) (t : Telemetry) : State :=
  if s.isLatchTick c then
    let s := s.governorTick t
    { s with gov := { s.gov with
        latchTick := (s.rd Dict.FTG_BASE_FRAMES (s.canvasFtg c) + 1) * 8 + s.canvasFtg c } }
  else s

end Sys2Proof.Machine
end

