-- ==== Sys2Proof/Machine/Memory.lean ====
section
/-! DEFINITION. The host surface region of DRAM, the one memory that software reads and writes by address
(R354, R356). -/
namespace Sys2Proof.Machine
open Sys2Proof

/-- What a byte of the region reads as before anything is written to it (DESIGN CHOICE, log 8). -/
def blankByte (_ : Nat) : Byte := 0

/-- The canonical form of the region's cells: addresses rising, none equal to its blank byte. -/
abbrev Memory.wf (m : List Host.Cell) : Bool := Store.wf blankByte m

/-- One byte of the region, at an offset within it. -/
def State.hostByte (s : State) (a : Nat) : Byte := Store.read blankByte s.dram.host a

/-- One byte of the region written. -/
def State.setHostByte (s : State) (a : Nat) (b : Byte) : State :=
  { s with dram := { s.dram with host := Store.write blankByte s.dram.host a b } }

/-- `n` bytes of the region. -/
def State.hostBytes (s : State) (a n : Nat) : List Byte := (List.range n).map (fun i => s.hostByte (a + i))

/-- Bytes of the region written from `a` on. -/
def State.setHostBytes (s : State) : Nat → List Byte → State
  | _, [] => s
  | a, b :: bs => (s.setHostByte a b).setHostBytes (a + 1) bs

end Sys2Proof.Machine
end

