-- ==== Sys2Proof/Machine/Pixel.lean ====
section
/-! DEFINITION. Pixel arithmetic: stored formats, the polyphase scaler, colour, blending and dither (R7
to R9, R163 to R166, R172 to R178, R201 to R204, R211, R212). -/
namespace Sys2Proof.Machine
open Sys2Proof

/-! ### Stored pixels (R7 to R9) -/

/-- `v` of `n` bits extended to `m` bits by bit replication (R9). -/
def extendBits (m n v : Nat) : Nat :=
  let copies := ceilDiv m n
  ((List.range copies).foldl (fun a _ => a * 2 ^ n + v % 2 ^ n) 0) / 2 ^ (n * copies - m)

/-- Coverage of a P32D alpha code as 16 bits (R8), as BACKGROUND, FILL_COLOUR and the like give it (R198). -/
def alphaCode (v : Nat) : Nat :=
  match v % 4 with | 0 => 0 | 1 => 16384 | 2 => 32768 | _ => 65535

/-- A stored pixel code in the engines' form; a source's alpha is extended like its colour (R7, R9, R202, log 61). -/
def Px.decode (format v : Nat) : Px :=
  match format with
  | 0 => ⟨extendBits 16 5 (field v 15 11), extendBits 16 6 (field v 10 5), extendBits 16 5 (field v 4 0), 65535⟩
  | 1 => ⟨extendBits 16 8 (field v 7 0), extendBits 16 8 (field v 15 8), extendBits 16 8 (field v 23 16), 65535⟩
  | 2 => ⟨extendBits 16 8 (field v 23 16), extendBits 16 8 (field v 15 8), extendBits 16 8 (field v 7 0), 65535⟩
  | 3 => ⟨extendBits 16 8 (field v 23 16), extendBits 16 8 (field v 15 8), extendBits 16 8 (field v 7 0),
      extendBits 16 8 (field v 31 24)⟩
  | _ => ⟨extendBits 16 10 (field v 29 20), extendBits 16 10 (field v 19 10), extendBits 16 10 (field v 9 0),
      extendBits 16 2 (field v 31 30)⟩

/-- A P32D colour code of the configuration: its alpha bits give coverage (R8, R198). -/
def Px.colour (v : Nat) : Px := { Px.decode 4 v with a := alphaCode (field v 31 30) }

/-- The pixel of a raster at (x, y). -/
def Raster.at (r : Raster) (x y : Nat) : Px :=
  if x < r.width then Store.read (fun _ => ⟨0, 0, 0, 0⟩) r.px (y * r.width + x) else ⟨0, 0, 0, 0⟩

/-- A raster with the pixel at (x, y) set. -/
def Raster.put (r : Raster) (x y : Nat) (p : Px) : Raster :=
  { r with px := Store.write (fun _ => ⟨0, 0, 0, 0⟩) r.px (y * r.width + x) p }

/-- A raster computed pixel by pixel. -/
def Raster.build (w h : Nat) (f : Nat → Nat → Px) : Raster :=
  (List.range h).foldl (fun r y => (List.range w).foldl (fun r x => r.put x y (f x y)) r) ⟨w, h, []⟩

/-- Bits of the colour components of a stored format (R7, R211). -/
def formatBits (format : Nat) : Nat × Nat × Nat :=
  if format = 0 then (5, 6, 5) else if format = 4 then (10, 10, 10) else (8, 8, 8)

/-- Bits of the alpha of a stored format, 0 none (R7). -/
def alphaBits (format : Nat) : Nat := if format = 3 then 8 else if format = 4 then 2 else 0

/-- The component codes of a pixel of a stored format, extended; without an alpha it is opaque (R9). -/
def Px.ofCodes (format : Nat) (l : List Nat) : Px :=
  let (r, g, b) := formatBits format
  let at_ (k : Nat) : Nat := (l[k]?).getD 0
  ⟨extendBits 16 r (at_ 0), extendBits 16 g (at_ 1), extendBits 16 b (at_ 2),
    if alphaBits format = 0 then 65535 else extendBits 16 (alphaBits format) (at_ 3)⟩

/-- The code word of a stored pixel in a format of R7. -/
def Px.encode (format : Nat) (p : Px) : Nat :=
  match format with
  | 0 => p.r * 2048 + p.g * 32 + p.b
  | 1 => p.r + p.g * 256 + p.b * 65536
  | 2 => p.r * 65536 + p.g * 256 + p.b
  | 3 => p.a * 2 ^ 24 + p.r * 65536 + p.g * 256 + p.b
  | _ => p.a * 2 ^ 30 + p.r * 2 ^ 20 + p.g * 2 ^ 10 + p.b

/-- The stored code of a pixel that was extended from a format (R7, R9). -/
def Px.narrowed (format : Nat) (p : Px) : Nat :=
  let (br, bg, bb) := formatBits format
  (⟨p.r / 2 ^ (16 - br), p.g / 2 ^ (16 - bg), p.b / 2 ^ (16 - bb), p.a / 2 ^ (16 - alphaBits format)⟩ : Px).encode format

/-- A stored picture as it is read, in the engines' form: codes of its format, extended (R9). -/
def Raster.ofCodes (format : Nat) (p : Picture) : Raster :=
  Raster.build p.width p.height (fun x y => Px.ofCodes format ((p.pixels[y * p.width + x]?).getD []))

/-- A pixel computed component by component from two. -/
def Px.zip (f : Nat → Nat → Nat) (a b : Px) : Px := ⟨f a.r b.r, f a.g b.g, f a.b b.b, f a.a b.a⟩

/-! ### The polyphase scaler (R162 to R166) -/

/-- Source position and phase of destination place `x`, for a crop from `c0` of `crop` pixels shown over
`len` places (R163). -/
def scalePos (c0 crop len x : Nat) : Int × Nat :=
  let d : Int := 2 * len
  let n : Int := d * c0 + (2 * x + 1) * crop - len
  let ph := ((128 * (n % d) + d) / (2 * d)).toNat
  if ph = 64 then (n / d + 1, 0) else (n / d, ph)

/-- Tap `t` of phase `p` of a coefficient bank (R167, R168). -/
def State.bankTap (s : State) (bank p t : Nat) : Int :=
  if bank = 3 then (if t = 3 then 1024 - 16 * p else if t = 4 then 16 * p else 0)
  else if bank < 3 then lanczosTap bank p t
  else signed 12 (leAt (s.bankAt bank) (16 * p + 2 * t) 2)

/-- The taps that `n` taps of phase `p` use, from source pixel p - n/2 + 1 on (R164, R166). -/
def State.taps (s : State) (bank n p : Nat) : List Int :=
  let mid := (List.range n).map (fun i => s.bankTap bank p (4 - n / 2 + i))
  if n = 8 then mid
  else
    let sum := mid.foldl (· + ·) 0
    if sum ≤ 0 then
      (List.range n).map (fun i =>
        if 4 - n / 2 + i = 3 then 1024 - 16 * p else if 4 - n / 2 + i = 4 then 16 * p else 0)
    else
      let c := mid.map (fun x => roundDiv (x * 1024) sum.toNat)
      let short := 1024 - c.foldl (· + ·) 0
      let at_ := if p < 32 then n / 2 - 1 else n / 2
      c.mapIdx (fun i x => if i = at_ then x + short else x)

/-- A sum of products, 512 added and shifted right by 10 (R164). -/
def filterSum (c v : List Int) : Int := ((c.zip v).foldl (fun a p => a + p.1 * p.2) 512) / 1024

/-- A layer's crop and destination in one direction with its taps and bank. -/
structure Axis where
  start : Nat
  crop : Nat
  len : Nat
  taps : Nat
  bank : Nat
deriving DecidableEq, Repr

/-- The source places and coefficients behind destination place `x`; one place with coefficient 1,024
for a bypassed direction (R163 to R165). -/
def State.reads (s : State) (a : Axis) (x : Nat) : List Nat × List Int :=
  if a.crop = a.len then ([a.start + x], [1024])
  else
    let (p, ph) := scalePos a.start a.crop a.len x
    ((List.range a.taps).map (fun (i : Nat) =>
      (clampInt a.start (a.start + a.crop - 1) (p - ((a.taps / 2 : Nat) : Int) + 1 + (i : Int))).toNat),
     s.taps a.bank a.taps ph)

/-- One component scaled: the vertical filter, signed 18-bit intermediates, the horizontal filter,
clamped (R164). -/
def scaleComp (get : Nat → Nat → Nat) (h v : List Nat × List Int) : Nat :=
  let mids := h.1.map (fun x => signed 18 (unsigned 18 (filterSum v.2 (v.1.map (fun y => (get x y : Int))))))
  (clampInt 0 65535 (filterSum h.2 mids)).toNat

/-- A pixel of a layer's source, scaled (R163, R164). -/
def State.scaled (s : State) (pic : Raster) (h v : Axis) (x y : Nat) : Px :=
  let rh := s.reads h x
  let rv := s.reads v y
  ⟨scaleComp (fun x y => (pic.at x y).r) rh rv, scaleComp (fun x y => (pic.at x y).g) rh rv,
   scaleComp (fun x y => (pic.at x y).b) rh rv, scaleComp (fun x y => (pic.at x y).a) rh rv⟩

/-! ### Colour (R172 to R178) -/

/-- How a source's codes are to be read: COLORIMETRY, TRANSFER, RANGE, whether its components are Y, Cb and Cr, and the
bits of each component as it is stored. -/
structure Coding where
  colorimetry : Nat
  transfer : Nat
  full : Nat
  ycc : Bool
  bits : Nat × Nat × Nat
deriving DecidableEq, Repr

/-- Full-range RGB with BT.709 primaries and BT.1886 transfer (R198). -/
def Coding.fill : Coding := ⟨0, 0, 1, false, (10, 10, 10)⟩

/-- A 1D LUT lookup (R175). -/
def curveAt (entry : Nat → Nat) (v : Nat) : Nat :=
  let i := v / 16
  let f := v % 16
  (entry i * (16 - f) + entry (min 4095 (i + 1)) * f + 8) / 16

/-- Entry `i` of library LUT `k` (R191). -/
def State.lutEntry (s : State) (k i : Nat) : Nat :=
  if k < 8 then fixedLut k i else leAt (s.lutAt k) (2 * i) 2

/-- A node component of shared 3D LUT `k` (R191). -/
def State.node (s : State) (k r g b c : Nat) : Nat :=
  leAt (s.lut3dAt k) (6 * (r + 17 * g + 289 * b) + 2 * c) 2

/-- A 3D LUT lookup with tetrahedral interpolation over a node spacing of 0xFFFF / 16 (R176): along the
components from the largest fraction to the smallest. -/
def State.lut3 (s : State) (k : Nat) (p : Px) : Px :=
  let part (v : Nat) : Nat × Nat := (min 15 (v * 16 / 65535), v * 16 - 65535 * min 15 (v * 16 / 65535))
  let (ri, rf) := part p.r
  let (gi, gf) := part p.g
  let (bi, bf) := part p.b
  let order := sortDesc [(rf, 0), (gf, 1), (bf, 2)]
  let step (n : Nat × Nat × Nat) (ax : Nat) : Nat × Nat × Nat :=
    if ax = 0 then (n.1 + 1, n.2.1, n.2.2) else if ax = 1 then (n.1, n.2.1 + 1, n.2.2)
    else (n.1, n.2.1, n.2.2 + 1)
  let comp (c : Nat) : Nat :=
    let at_ (n : Nat × Nat × Nat) : Int := s.node k n.1 n.2.1 n.2.2 c
    let go := order.foldl (fun (st : (Nat × Nat × Nat) × Int) (fa : Nat × Nat) =>
      (step st.1 fa.2, st.2 + fa.1 * (at_ (step st.1 fa.2) - at_ st.1))) ((ri, gi, bi), 65535 * at_ (ri, gi, bi))
    (clampInt 0 65535 (nearby 1 go.2 65535)).toNat
  ⟨comp 0, comp 1, comp 2, p.a⟩
where
  /-- Pairs in falling order of their first component. -/
  sortDesc (l : List (Nat × Nat)) : List (Nat × Nat) :=
    l.foldr (fun a acc => (acc.filter (fun b => decide (a.1 < b.1))) ++ a ::
      (acc.filter (fun b => !decide (a.1 < b.1)))) []

/-- The 16-bit form of code `num / 2^10` of full scale `2^n`, as a stored component of `n` bits takes it: by bit replication
where it is a whole code (R9, R174). -/
def codePlace (n num : Nat) : Nat :=
  if num * 2 ^ n % 1024 = 0 then extendBits 16 n (num * 2 ^ n / 1024) else num * 2 ^ n * 65535 / (1024 * (2 ^ n - 1))

/-- Luma or RGB of `n` stored bits as a fraction of 0xFFFF, over a denominator: narrow range from code 64 to 940 of 1,024,
clamped (R174). -/
def expandLuma (full n v : Nat) : Nat × Nat :=
  if full = 1 then (v, 65535)
  else
    let lo := codePlace n 64
    let hi := codePlace n 940
    (min v hi - lo, hi - lo)

/-- Chroma of `n` stored bits, centred on code 512 of 1,024, as a fraction of its span, over a denominator: 64 to 960 for
narrow range, clamped, all codes for full range (R174, log 7). -/
def expandChroma (full n v : Nat) : Int × Nat :=
  let mid : Int := codePlace n 512
  if full = 1 then ((v : Int) - mid, 65535)
  else
    let lo := codePlace n 64
    let hi := codePlace n 960
    (clampInt lo hi v - mid, hi - lo)

/-- Kr and Kb of BT.709 or BT.2020, in 1/10,000. -/
def lumaWeights (colorimetry : Nat) : Nat × Nat := if colorimetry = 0 then (2126, 722) else (2627, 593)

/-- Step 1: range expansion, then for Y, Cb and Cr the non-constant-luminance matrix, clamped; the identity for full-range
RGB (R173, R174). -/
def toRgb (c : Coding) (p : Px) : Px :=
  if c.full = 1 ∧ c.ycc = false then p
  else if c.ycc = false then
    let one (n v : Nat) : Nat :=
      let (x, d) := expandLuma c.full n v
      (nearby 5 (65535 * x : Nat) d).toNat
    ⟨one c.bits.1 p.r, one c.bits.2.1 p.g, one c.bits.2.2 p.b, p.a⟩
  else
    let (y, dy) := expandLuma c.full c.bits.1 p.r
    let (u, du) := expandChroma c.full c.bits.2.1 p.g
    let (v, dv) := expandChroma c.full c.bits.2.2 p.b
    let (kr, kb) := lumaWeights c.colorimetry
    let kg := 10000 - kr - kb
    -- each component over 10,000 kg dy du dv
    let base : Int := (10000 * kg * y * du * dv : Nat)
    let dr : Int := 2 * (10000 - kr : Nat) * v * (dy * du : Nat)
    let db : Int := 2 * (10000 - kb : Nat) * u * (dy * dv : Nat)
    let out (x : Int) : Nat := (clampInt 0 65535 (nearby 5 (65535 * x) (10000 * kg * dy * du * dv))).toNat
    ⟨out (base + kg * dr), out (base - (kr * dr + kb * db)), out (base + kg * db), p.a⟩

/-- The source peak in cd/m² that step 2 leaves at full scale (R174). -/
def State.sourcePeak (s : State) (c transfer : Nat) : Nat :=
  if transfer = 0 then s.rd Dict.COLOUR_LUTS_SDR_WHITE 0 c
  else if transfer = 1 then s.rd Dict.COLOUR_LUTS_PQ_SOURCE_PEAK 0 c else 1000

/-- Step 3's coefficient `k` (0 to 8, row by row) or offset (9 to 11) for a source (R177). -/
def State.matrixAt (s : State) (c colorimetry k : Nat) : Int :=
  let target := s.rd Dict.COLOUR_LUTS_TARGET_PRIMARIES 0 c
  if target = 2 then
    signed 16 (leAt (s.dom Dict.COLOUR_LUTS_CUSTOM_MATRIX 0 c) (24 * colorimetry + 2 * k) 2)
  else if target = colorimetry then (if k = 0 ∨ k = 4 ∨ k = 8 then 8192 else 0)
  else if k < 9 then gamutCoefficient (target == 0) k else 0

/-- Step 3: the gamut matrix, clamped (R173, R177). -/
def State.gamutMap (s : State) (c colorimetry : Nat) (p : Px) : Px :=
  if s.rd Dict.COLOUR_LUTS_TARGET_PRIMARIES 0 c = colorimetry then p
  else
    let row (i : Nat) : Nat :=
      let v : Int := s.matrixAt c colorimetry (3 * i) * p.r + s.matrixAt c colorimetry (3 * i + 1) * p.g
        + s.matrixAt c colorimetry (3 * i + 2) * p.b + s.matrixAt c colorimetry (9 + i) * 65535
      (clampInt 0 65535 (nearby 2 v 8192)).toNat
    ⟨row 0, row 1, row 2, p.a⟩

/-- A component multiplied by M / m, rounded to nearest and clamped (R175). -/
def gainBy (num m v : Nat) : Nat := if m = 0 then v else min 65535 ((2 * v * num + m) / (2 * m))

/-- The greatest colour component. -/
def Px.peak (p : Px) : Nat := max p.r (max p.g p.b)

/-- A pixel's colour multiplied by M / m. -/
def Px.gain (p : Px) (num m : Nat) : Px := ⟨gainBy num m p.r, gainBy num m p.g, gainBy num m p.b, p.a⟩

/-- Step 4: the tone map (R175), after the OOTF for HLG (R174). -/
def State.toneMap (s : State) (c transfer : Nat) (p : Px) : Px :=
  let p := if transfer = 2 then p.gain (ootf p.peak) p.peak else p
  let src := s.sourcePeak c transfer
  let target := s.rd Dict.COLOUR_LUTS_TARGET_PEAK 0 c
  match s.rd Dict.COLOUR_LUTS_TONE_MODE 0 c with
  | 0 => p.gain src target
  | 1 => p.gain (rollOff src target p.peak) p.peak
  | _ => p.gain (curveAt (s.lutEntry (s.rd Dict.COLOUR_LUTS_TONE_LUT 0 c)) p.peak) p.peak

/-- Steps 2 to 4 of R173 on canvas `c`. -/
def State.toWorking (s : State) (c : Nat) (k : Coding) (p : Px) : Px :=
  let lin := curveAt (linearEntry k.transfer (s.rd Dict.COLOUR_LUTS_PQ_SOURCE_PEAK 0 c))
  s.toneMap c k.transfer (s.gamutMap c k.colorimetry ⟨lin p.r, lin p.g, lin p.b, p.a⟩)

/-- Step 5: encoding (R178). -/
def State.encodeOut (s : State) (c : Nat) (p : Px) : Px :=
  let t := s.rd Dict.COLOUR_LUTS_OUTPUT_TRANSFER 0 c
  if t = 0 then p
  else
    let e := if t = 4 then s.lutEntry (s.rd Dict.COLOUR_LUTS_ENCODE_LUT 0 c)
      else encodeEntry t (s.rd Dict.COLOUR_LUTS_SDR_WHITE 0 c) (s.rd Dict.COLOUR_LUTS_TARGET_PEAK 0 c)
    ⟨curveAt e p.r, curveAt e p.g, curveAt e p.b, p.a⟩

/-! ### Blending (R202 to R204) -/

/-- mul of R202. -/
def mul16 (x y : Nat) : Nat := (x * y + 32767) / 65535

/-- One layer's pixel `p` with key alpha and opacity over the accumulator (R202). -/
def blendPx (d p : Px) (key opacity : Nat) : Px :=
  let a := mul16 (mul16 p.a key) opacity
  let c (s d : Nat) : Nat := (s * a + d * (65535 - a) + 32767) / 65535
  ⟨c p.r d.r, c p.g d.g, c p.b d.b, a + mul16 d.a (65535 - a)⟩

/-- Luma of RGB by COLORIMETRY, as a 10-bit code (R203). -/
def keyLuma (colorimetry : Nat) (p : Px) : Nat :=
  let (kr, kb) := lumaWeights colorimetry
  (nearby 3 ((kr * p.r + (10000 - kr - kb) * p.g + kb * p.b : Nat) : Int) 10000).toNat / 64

/-- Distance of a component from a range (R203). -/
def keyDistance (lo hi v : Nat) : Nat := max (lo - v) (v - hi)

/-- The key alpha of a KEY layer from its colour after step 1a (R203). -/
def State.keyAlpha (s : State) (k colorimetry : Nat) (p : Px) : Nat :=
  if s.rd Dict.LAYER_BLEND_CLASS k = 0 then 65535
  else
    let lo := s.rd Dict.LAYER_KEY_LOW k
    let hi := s.rd Dict.LAYER_KEY_HIGH k
    let d := if s.rd Dict.LAYER_KEY_TYPE k = 0 then
        max (keyDistance (field lo 29 20) (field hi 29 20) (p.r / 64))
          (max (keyDistance (field lo 19 10) (field hi 19 10) (p.g / 64))
            (keyDistance (field lo 9 0) (field hi 9 0) (p.b / 64)))
      else keyDistance (field lo 9 0) (field hi 9 0) (keyLuma colorimetry p)
    let soft := s.rd Dict.LAYER_KEY_SOFTNESS k
    let a := if d = 0 then 0 else if soft ≤ d then 65535 else 65535 * d / soft
    if s.flag Dict.LAYER_KEY_INVERT k then 65535 - a else a

/-- Two results of a MIX combined at base frame `j` of `n` (R204). -/
def mixPx (o i : Px) (j n : Nat) : Px :=
  o.zip (fun x y => (x * (n - j) + y * j + n / 2) / n) i

/-! ### Reduction to stored depth (R211, R212) -/

/-- The ordered dither matrix (R211). -/
def ditherMatrix : List Nat := [0, 8, 2, 10, 12, 4, 14, 6, 3, 11, 1, 9, 15, 7, 13, 5]

/-- A 16-bit component reduced to `n` bits (R211): with no dither, or with a temporal offset. -/
def reduceBits (dither : Bool) (n v x y k : Nat) : Nat :=
  if dither then
    let t := ((ditherMatrix[4 * (y % 4) + x % 4]?).getD 0 + k) % 16
    (32 * v * (2 ^ n - 1) + (2 * t + 1) * 65535) / (32 * 65535)
  else (v * (2 ^ n - 1) + 32767) / 65535

/-- The temporal offset of R211 for base-frame count and slot. -/
def State.ditherOffset (s : State) (c slot : Nat) : Nat :=
  let n := s.canvasSlots c
  let d := s.rd Dict.CANVAS_DITHER c
  if d = 2 ∨ (d = 3 ∧ 2 ≤ n) then (5 * ((s.rd Dict.CANVAS_BASE_FRAMES c - 1) * n + slot)) % 16 else 0

/-- The stored codes of an accumulator pixel after step 5, in a format (R211, R212). -/
def State.store16 (s : State) (c slot format x y : Nat) (p : Px) : Px :=
  let d := s.rd Dict.CANVAS_DITHER c != 0
  let k := s.ditherOffset c slot
  let (br, bg, bb) := formatBits format
  ⟨reduceBits d br p.r x y k, reduceBits d bg p.g x y k, reduceBits d bb p.b x y k,
   if format = 3 then (p.a * 255 + 32767) / 65535
   else if format = 4 then (p.a * 3 + 32767) / 65535 else 0⟩

/-- Stored codes of a format extended to 16 bits, as a scan reads them (R9). -/
def Px.extended (format : Nat) (p : Px) : Px :=
  let (br, bg, bb) := formatBits format
  ⟨extendBits 16 br p.r, extendBits 16 bg p.g, extendBits 16 bb p.b, p.a⟩

end Sys2Proof.Machine
end

