-- ==== Sys2Proof/Machine/Sources.lean ====
section
/-! DEFINITION. What a layer's source shows at a compose latch: converted input frames, host surfaces and
pocket players (R105 to R119, R179 to R185). -/
namespace Sys2Proof.Machine
open Sys2Proof

/-- Parameter A of an ingest event: bits 15:8 kind, 7:0 number (R123). -/
abbrev sourceCode (kind num : Nat) : Nat := kind * 256 + num

/-- A canvas's base period in ns. -/
def State.canvasPeriod (s : State) (c : Nat) : Nat := s.basePeriod (s.canvasFtg c)

/-- An input's descriptor frame period in ns (R179). -/
def State.inputPeriod (s : State) (n : Nat) : Nat :=
  nsPerS * max 1 (s.rd Dict.INPUT_RATE_DEN n) / max 1 (s.rd Dict.INPUT_RATE_NUM n)

/-! ### Rate conversion (R179 to R185) -/

/-- D of R180: how far the target instant lies before the latch, by the configured mode (R47). -/
def State.targetDelay (s : State) (n c : Nat) : Nat :=
  let b := s.canvasPeriod c
  let p := max b (s.inputPeriod n)
  match s.rd Dict.INPUT_CONVERSION n with | 0 => 0 | 1 => p | _ => p + b

/-- Frame A at latch `t`: the newest intact stored frame at or before the target instant; for the REPEAT
mode the newest available one (R181). -/
def State.frameA (s : State) (n c t : Nat) : Option Frame :=
  let d := s.targetDelay n c
  (s.inputAt n).frames.find? (fun f =>
    if s.rd Dict.INPUT_CONVERSION n = 0 then decide (f.arrival ≤ t)
    else decide (f.arrival ≤ t ∧ f.time + d ≤ t))

/-- Frame B: the next stored frame after A, if it is intact and available (R181). -/
def State.frameB (s : State) (n t : Nat) (a : Frame) : Option Frame :=
  (s.inputAt n).frames.find? (fun f => f.number == a.number + 1 && decide (f.arrival ≤ t))

/-- w of R181, in 1/256. -/
def mixWeight (x d : Nat) : Nat := if d = 0 then 0 else min 256 ((512 * x + d) / (2 * d))

/-- Two components in proportion (R181). -/
def blend256 (w a b : Nat) : Nat := (a * (256 - w) + b * w + 128) / 256

/-- Two pictures blended (R181). -/
def Raster.blend (w : Nat) (a b : Raster) : Raster :=
  if w = 0 then a else if w = 256 then b
  else Raster.build a.width a.height (fun x y => (a.at x y).zip (blend256 w) (b.at x y))

/-- A picture read at a quarter-pixel place by bilinear interpolation, edges repeated (R181, log 6). -/
def Raster.quarter (r : Raster) (x y : Int) : Px :=
  let cx (v : Int) : Nat := (clampInt 0 (r.width - 1 : Nat) v).toNat
  let cy (v : Int) : Nat := (clampInt 0 (r.height - 1 : Nat) v).toNat
  let fx := x % 4
  let fy := y % 4
  let comp (g : Px → Nat) : Nat :=
    let p (i j : Int) : Int := g (r.at (cx (x / 4 + i)) (cy (y / 4 + j)))
    (clampInt 0 65535 (nearby 4
      ((4 - fx) * (4 - fy) * p 0 0 + fx * (4 - fy) * p 1 0 + (4 - fx) * fy * p 0 1 + fx * fy * p 1 1) 16)).toNat
  ⟨comp Px.r, comp Px.g, comp Px.b, comp Px.a⟩

/-- One pixel of a motion-compensated picture, by the vector of its block (R181, R182). -/
def VectorField.pixel (i : VectorField) (w : Nat) (a b : Raster) (x y : Nat) : Px :=
  let v := Store.read (fun _ => ((0 : Int), (0 : Int), true)) i.vectors
    (y / 16 * ceilDiv a.width 16 + x / 16)
  if v.2.2 then (a.at x y).zip (blend256 w) (b.at x y)
  else
    let da (c : Int) : Int := nearby 4 (w * c) 256
    let db (c : Int) : Int := nearby 4 ((256 - w : Nat) * c) 256
    (a.quarter (4 * x - da v.1) (4 * y - da v.2.1)).zip (blend256 w)
      (b.quarter (4 * x + db v.1) (4 * y + db v.2.1))

/-- The picture that a SYNCHRONISED input gives canvas `c` at latch `t`, with the frame time of its
earliest frame; whether MOTION was wanted and its vectors are late (R181, R183, R184).  The last LOCKED frame
stands in until the store holds the one called for (R112). -/
def State.converted (s : State) (n c t : Nat) : Option (Raster × Nat × Bool) :=
  match s.frameA n c t with
  | none => (s.inputAt n).carried.map (fun f => (f.picture, f.time, false))
  | some a =>
    if s.rd Dict.INPUT_CONVERSION n = 0 ∨ s.conversionOf n = 0 then some (a.picture, a.time, false)
    else
      match s.frameB n t a with
      | none => some (a.picture, a.time, false)
      | some b =>
        let i := s.inputAt n
        let w := mixWeight (t - s.targetDelay n c - a.time) (b.time - a.time)
        let wants := s.conversionOf n == 2
        let early := if w = 256 then b.time else a.time
        match i.fields.find? (fun f => f.pair == b.number && f.complete) with
        | some f =>
          if wants && !f.cut && w != 0 && w != 256 then
            some (Raster.build a.picture.width a.picture.height (f.pixel w a.picture b.picture), early, false)
          else some (a.picture.blend w b.picture, early, false)
        | none => some (a.picture.blend w b.picture, early, wants && !i.motionWaits)

/-! ### Timing class (R105 to R108, R112) -/

/-- KiB of STAGE for the band of input `n` (R108). -/
def State.bandKib (s : State) (n : Nat) : Nat :=
  let (w, h) := s.storedRaster n
  stripeKib (w * ceilDiv (3 * h) 8 * s.ingestBytes n)

/-- Whether STAGE can hold the band of input `n` (R106, R108). -/
def State.stageFits (s : State) (n : Nat) : Bool :=
  decide (usedKib s.stageAlloc - s.stageAt n + s.bandKib n ≤ s.stageMib * 1024)

/-- The FTG that the running canvases naming an input share, if they share one (R105). -/
def State.sharedFtg (s : State) (n : Nat) : Option Nat :=
  match s.canvasesNaming 1 n with
  | [] => none
  | c :: rest => if rest.all (fun d => s.canvasFtg d == s.canvasFtg c) then some (s.canvasFtg c) else none

/-- Whether the input supplies frames: PRESENT or DEGRADED (R102). -/
def State.supplies (s : State) (n : Nat) : Bool :=
  s.rd Dict.INPUT_HEALTH n == 2 || s.rd Dict.INPUT_HEALTH n == 3

/-- The leads of the last 64 base frames let the input be LOCKED: from 1/16 to 1/4, moved by at most one
input line period (R106). -/
def State.leadSteady (s : State) (n f : Nat) : Bool :=
  let l := (s.inputAt n).leads.take 64
  let line : Int := s.inputPeriod n * 65536
    / (max 1 (s.basePeriod f) * max 1 (Config.totalLines (s.rd Dict.INPUT_HEIGHT n)))
  l.length == 64 && l.all (fun x => decide (4096 ≤ x ∧ x ≤ 16384))
    && l.all (fun x => l.all (fun y => decide (x - y ≤ line)))

/-- The conditions of R106 but for STAGE. -/
def State.mayLock (s : State) (n : Nat) : Bool :=
  match s.sharedFtg n with
  | none => false
  | some f =>
    s.rd Dict.INPUT_CLASS_MODE n == 0 && s.supplies n
      && (s.canvasesNaming 1 n).all (fun c => s.canvasSlots c == 1)
      && rateEq (s.rd Dict.INPUT_RATE_NUM n) (s.rd Dict.INPUT_RATE_DEN n)
          (s.rd Dict.FTG_RATE_NUM f) (s.rd Dict.FTG_RATE_DEN f)
      && s.leadSteady n f

/-- The conditions of R107 that end LOCKED. -/
def State.mustUnlock (s : State) (n : Nat) : Bool :=
  (match (s.inputAt n).leads with | lead :: _ => decide (lead < 2048 ∨ 20480 < lead) | [] => false)
    || !s.supplies n || s.rd Dict.INPUT_CLASS_MODE n == 1
    || (s.canvasesNaming 1 n).any (fun c => s.canvasSlots c != 1) || s.sharedFtg n == none

/-- Latency in µs of a LOCKED input: a base frame plus the lead (R110, R185). -/
def State.lockedLatency (s : State) (n f : Nat) : Nat :=
  let lead := ((((s.inputAt n).leads)[0]?).getD 0).toNat
  (s.basePeriod f + s.basePeriod f * lead / 65536) / 1000

/-- Whether the frame that input `n` receives is damaged: one that was damaged ends, if at all, within a frame period
(R102, R103). -/
def State.frameDamaged (s : State) (n : Nat) : Bool :=
  let i := s.inputAt n
  i.damaged && decide (s.timebase ≤ i.damagedAt + s.inputPeriod n)

/-- The frame that input `n` receives, as a layer that chases it names it (R109). -/
def State.frameComing (s : State) (n : Nat) : Nat :=
  64 * ((s.inputAt n).nextFrame - (s.frameDamaged n).toNat) + n + 1

/-- The first stored line of the frame that input `n` receives which has not arrived and will not, plus 1; 0 none
(R101, R110). -/
def State.lostLine (s : State) (n line : Nat) : Nat :=
  let d := field (s.rd Dict.INPUT_DECIMATE n) 3 2
  line / (if d = 1 then 2 else if d = 2 then 4 else 1) + 1

/-- A change of timing class, 0 for none, at a base-frame compose latch (R107, R112).  LATENCY restarts; the event
follows with the first latency of the new class. -/
def State.changeClass (s : State) (n cls f : Nat) : State :=
  let old := s.rd Dict.INPUT_TIMING_CLASS n
  let s := (s.wr Dict.INPUT_TIMING_CLASS cls n).inc Dict.INPUT_CLASS_CHANGES n
  let s := s.modInput n (fun i => { i with
    latencies := [], fields := [], leads := if cls = 0 then [] else i.leads
    frames := if old = 0 then i.frames else []
    carried := if cls = 2 ∧ old = 1 then i.frames.head? else none
    stageFull := i.stageFull && cls != 1, tellClass := true })
  let s := s.takeStage n (if cls = 1 then s.bandKib n else 0)
  s.wr Dict.INPUT_LATENCY (if cls = 1 then s.lockedLatency n f else 0) n

/-- INPUT_CLASS_CHANGE of a change that is still to be reported (R107). -/
def State.tellClass (s : State) (n : Nat) : State :=
  if (s.inputAt n).tellClass then
    (s.modInput n (fun i => { i with tellClass := false })).raise Event.INPUT_CLASS_CHANGE (sourceCode 1 n)
      (s.rd Dict.INPUT_TIMING_CLASS n * 2 ^ 24 + s.rd Dict.INPUT_LATENCY n % 2 ^ 24)
  else s

/-- An input that no running canvas names has no timing class (R105). -/
def State.dropClass (s : State) (n : Nat) : State :=
  if s.rd Dict.INPUT_TIMING_CLASS n ≠ 0 then (s.changeClass n 0 0).tellClass n else s

/-- The lead of an input at its reference latch `t`, the first of the base period (R105); only consecutive base frames
count towards R106.  It is rounded down to 1/65,536 base frame, as the line period it is compared with is (DESIGN CHOICE,
log 72). -/
def State.takeLead (s : State) (n f t line0 : Nat) : State :=
  let base := s.rd Dict.FTG_BASE_FRAMES f + 1
  if (s.inputAt n).leadBase = base then s
  else
    let lead : Int := (t - line0) * 65536 / max 1 (s.basePeriod f)
    (s.modInput n (fun i => { i with
      leads := if base = i.leadBase + 1 then (lead :: i.leads).take 64 else [lead]
      leadBase := base, line0 := line0 })).wrInt Dict.INPUT_LEAD lead n

/-- The class of an input judged at a base-frame compose latch of a canvas that names it, by the leads of the base
frames before it (R106, R107). -/
def State.decideClass (s : State) (n f : Nat) : State :=
  if s.rd Dict.INPUT_TIMING_CLASS n = 1 then
    if s.mustUnlock n then s.changeClass n 2 f else s
  else
    let s := if s.rd Dict.INPUT_TIMING_CLASS n = 0 then s.changeClass n 2 f else s
    if s.mayLock n then
      if s.stageFits n then s.changeClass n 1 f
      else
        (s.modInput n (fun i => { i with stageFull := true })).raiseIf (!(s.inputAt n).stageFull)
          Event.INPUT_STAGE_FULL (sourceCode 1 n) (s.bandKib n)
    else s

/-- The class of an input judged, and its lead taken from the last line 0 before the latch, if there was one
(R105 to R107). -/
def State.judgeClass (s : State) (n f t : Nat) (line0 : Option Nat) : State :=
  let s := s.decideClass n f
  match s.sharedFtg n, line0 with
  | some g, some l => s.takeLead n g t l
  | _, _ => s.modInput n (fun i => { i with leads := [] })

/-- The latencies of an input's base frames, by canvas; LATENCY is the largest of their means (R185). -/
def State.keepLatencies (s : State) (n : Nat) (m : Store (List Nat)) : State :=
  let mean (l : List Nat) : Nat := l.foldl (· + ·) 0 / max 1 l.length
  (s.modInput n (fun i => { i with latencies := m })).wr Dict.INPUT_LATENCY ((m.map (fun e => mean e.2)).foldl max 0) n

/-- The latency of a base frame of canvas `c` joins the mean over those of the present class and conversion, of the
canvases that the input feeds (R112, R185). -/
def State.noteLatency (s : State) (n c us : Nat) : State :=
  let i := s.inputAt n
  let l := (us :: Store.read (fun _ => []) i.latencies c).take 64
  s.keepLatencies n ((Store.write (fun _ => []) i.latencies c l).filter (fun e => s.names e.1 1 n && s.canvasRuns e.1))

/-- A canvas that stops is fed no longer: its latency goes out of every input's LATENCY (R185). -/
def State.dropLatencies (s : State) (c : Nat) : State :=
  (List.range 64).foldl (fun s n =>
    let m := (s.inputAt n).latencies
    if m.any (fun e => e.1 == c) then s.keepLatencies n (m.filter (fun e => e.1 != c)) else s) s

/-! ### Host surfaces (R113 to R116) -/

/-- Bytes of buffer `b` of a host surface: in the region of DRAM, or the copy fetched (R113, R116). -/
def State.hostBuffer (s : State) (n b : Nat) : List Byte :=
  let size := s.rd Dict.HOST_SOURCE_STRIDE n * s.rd Dict.HOST_SOURCE_HEIGHT n
  if s.rd Dict.HOST_SOURCE_LOCATION n = 0 then
    s.hostBytes (if b = 0 then s.rd Dict.HOST_SOURCE_BUFFER_ADDR_0 n
      else s.rd Dict.HOST_SOURCE_BUFFER_ADDR_1 n) size
  else if b = 0 then (s.hostAt n).copy0 else (s.hostAt n).copy1

/-- A stored picture decoded: lines of `stride` bytes in a format of R7. -/
def Raster.ofBytes (format w h stride : Nat) (bytes : List Byte) : Raster :=
  let n := bytesPerPixel format
  Raster.build w h (fun x y => Px.decode format (leAt bytes (y * stride + x * n) n))

/-- The picture in buffer `b` of a host surface. -/
def State.hostPicture (s : State) (n b : Nat) : Raster :=
  Raster.ofBytes (s.rd Dict.HOST_SOURCE_FORMAT n) (s.rd Dict.HOST_SOURCE_WIDTH n)
    (s.rd Dict.HOST_SOURCE_HEIGHT n) (s.rd Dict.HOST_SOURCE_STRIDE n) (s.hostBuffer n b)

/-- HEALTH of a host surface: PRESENT while the link is up and it is enabled, LOST with the link down or its
data gone, else ABSENT (R116, R359). -/
def State.judgeHost (s : State) (n : Nat) : State :=
  let v := if s.rd Dict.HOST_SOURCE_ENABLE n = 0 then 0
    else if s.rd Dict.PCIE_LINK_STATE = 2 ∧ (s.hostAt n).lostChannel = false then 2 else 4
  s.wr Dict.HOST_SOURCE_HEALTH v n

/-- Whether the endpoint's link may use ASPM L1: ASPM_L1 is 1 and no host surface is enabled (R79). -/
def State.aspmL1 (s : State) : Bool :=
  s.flag Dict.PCIE_ASPM_L1 && !(List.range 32).any (fun n => s.flag Dict.HOST_SOURCE_ENABLE n)

/-- Kind of `WireItem.pin`: whether the endpoint's link may use ASPM L1 from now on (R79). -/
abbrev pinAspm : Nat := 14

/-- The link is told whether it may use ASPM L1, where that has changed (R79). -/
def State.tellAspm (s : State) (was : Bool) : State := if s.aspmL1 = was then s else s.out (.pin pinAspm 0 s.aspmL1.toNat)

/-- Canvas `c` latches: it reads no former front buffer of a surface from here on (R114, R115). -/
def State.leaveOld (s : State) (c n : Nat) : State :=
  let h := s.hostAt n
  if h.releases.isEmpty then s
  else s.putHost n { h with releases := h.releases.map (fun r => (r.1, r.2.filter (· != c))) }

/-- A flip that is due at a judging latch of canvas `c`: it lands when it is ready, else waits (R114,
R116). -/
def State.hostLatch (s : State) (c n : Nat) : State :=
  let h := s.hostAt n
  if s.rd Dict.HOST_SOURCE_FLIP_STATE n = 0 then s
  else if h.ready then
    let s := s.putHost n { h with
      releases := h.releases ++ [(1 - h.want, (s.canvasesNaming 2 n).filter (· != c))]
      latches := 0, ready := false, lostChannel := false }
    let s := ((s.judgeHost n).wr Dict.HOST_SOURCE_FRONT h.want n).wr Dict.HOST_SOURCE_FLIP_STATE 0 n
    let s := (s.inc Dict.HOST_SOURCE_FLIP_COUNT n).wrTime Dict.HOST_SOURCE_LAND_S
      Dict.HOST_SOURCE_LAND_NS s.timebase n
    let s := s.raise Event.HOST_FLIP_LANDED (sourceCode 2 n) h.want
    s.raiseIf (decide (0 < h.latches)) Event.HOST_FLIP_LATE (sourceCode 2 n) h.latches
  else s.putHost n { h with latches := h.latches + 1 }

/-! ### Pocket players (R117 to R119) -/

/-- First and last clip frame of a player's playback (Table 4.8). -/
def State.playSpan (s : State) (n : Nat) : Nat × Nat :=
  let last := (s.playerClip n).frames - 1
  (min (s.playerLive n 1) last, min (s.playerLive n 2) last)

/-- HEALTH of a player: LOST after a read fault, without its drive or while the Pocket store is stopped (R119,
R375). -/
def State.judgePlayer (s : State) (n : Nat) : State :=
  let clip := s.playerClip n
  let drive := clip.state == 0 || s.rd Dict.POCKET_DRIVE_STATE 0 clip.drive == 2
  s.wr Dict.POCKET_PLAYER_HEALTH
    (if (s.playerAt n).on = false then 0
     else if s.flag Dict.POCKET_ENABLE ∧ drive ∧ !(s.playerAt n).readFault then 2 else 4) n

/-- A player that has been disabled stops, and its read-ahead is freed (R122, R355). -/
def State.dropPlayer (s : State) (n : Nat) : State :=
  let s := (s.putPlayer n Player.init).takePool (poolPlayer n) 0
  (s.wr Dict.POCKET_PLAYER_PLAY_STATE 0 n).judgePlayer n

/-- ENABLE of a player comes into force (R118). -/
def State.takeEnable (s : State) (n : Nat) : State :=
  let on := s.flag Dict.POCKET_PLAYER_ENABLE n
  if on = (s.playerAt n).on then s
  else if on then (s.modPlayer n (fun p => { p with on := true })).judgePlayer n
  else s.dropPlayer n

/-- Whether an FTG has compose latches: a canvas runs on it (R118). -/
def State.ftgLatches (s : State) (f : Nat) : Bool := allCanvases.any (fun c => s.canvasRuns c && s.canvasFtg c == f)

/-- ENABLE of a player applies at the next base-frame compose latch of its FTG, or at once when no canvas runs on it (R118,
log 63). -/
def State.applyPlayer (s : State) (n : Nat) : State :=
  if s.ftgLatches (s.rd Dict.POCKET_PLAYER_FTG n) then s else s.takeEnable n

/-- Changes of ENABLE that wait for an FTG on which no canvas runs any more (R118, log 63). -/
def State.settlePlayers (s : State) : State := (List.range 32).foldl State.applyPlayer s

/-- The LIVE fields of a player at a base-frame latch of its FTG; what it holds of another clip is dropped (R118). -/
def State.takeLive (s : State) (n : Nat) : State :=
  let p := s.playerAt n
  let new := s.playerFields n
  let same := p.live.isEmpty || (p.live[0]?) == new[0]?
  s.putPlayer n { p with
    live := new, held := if same then p.held else [], soundFrame := if same then p.soundFrame else 0 }

/-- A frame held by a player. -/
def Player.heldFrame (p : Player) (k : Nat) : Option Raster :=
  (p.held.find? (fun e => e.1 == k)).map (fun e => e.2.1)

/-- Clip position, in whole frames and 1/256, after `j` base frames of playback (R117). -/
def State.playPosition (s : State) (n j : Nat) : Nat × Nat :=
  let c := s.playerClip n
  let f := s.rd Dict.POCKET_PLAYER_FTG n
  if rateEq c.rateNum c.rateDen (s.rd Dict.FTG_RATE_NUM f) (s.rd Dict.FTG_RATE_DEN f) then (j, 0)
  else
    let num := j * c.rateNum * s.rd Dict.FTG_RATE_DEN f
    let den := max 1 (c.rateDen * s.rd Dict.FTG_RATE_NUM f)
    if s.rd Dict.POCKET_PLAYER_CONVERSION n = 0 then (num / den, 0)
    else
      let w := mixWeight (num % den) den
      if w = 256 then (num / den + 1, 0) else (num / den, w)

/-- Frames a player may read ahead: PREFETCH, or 2 while the governor defers the read-ahead (R46, R117). -/
def State.prefetchDepth (s : State) (n : Nat) : Nat :=
  if s.yielded 1 6 3 then 2 else s.playerLive n 3

/-- Whether clip frame `j` lies within the read-ahead from frame `k` on, across the end of a loop (R117). -/
def State.aheadOf (s : State) (n j k : Nat) : Bool :=
  let (first, last) := s.playSpan n
  let span := last + 1 - first
  let d := if k ≤ j then j - k else if (s.playerAt n).loops then j + span - k else span
  decide (d < max 2 (s.prefetchDepth n))

/-- The player comes to show what it holds of frame `k` with weight `w` of the next, or underflows; the audio of a
frame is heard from its presentation on (R119, R326). -/
def State.showFrame (s : State) (n k next w : Nat) : State :=
  let p := s.playerAt n
  let pic := match p.heldFrame k, (if w = 0 then none else p.heldFrame next) with
    | some a, some b => some (a.blend w b)
    | some a, none => if w = 0 then some a else none
    | none, _ => none
  let width := (s.playerClip n).audioChannels
  let fresh := pic.isSome && width != 0 && p.soundFrame != k + 1
  let audio := ((p.held.find? (fun e => e.1 == k)).map (fun e => e.2.2)).getD []
  let at_ := match (s.canvasesNaming 3 n).head? with | some c => s.presentNext c | none => s.timebase
  let s := s.putPlayer n { p with
    shown := pic, shownKey := [s.playerLive n 0, k, w], held := p.held.filter (fun e => s.aheadOf n e.1 k)
    sound := if fresh then ((at_, chunks width audio.length audio) :: p.sound).take 8 else p.sound
    soundFrame := if fresh then k + 1 else p.soundFrame }
  let s := s.wr Dict.POCKET_PLAYER_POSITION k n
  if pic.isNone then
    (s.inc Dict.POCKET_PLAYER_UNDERFLOWS n).raise Event.POCKET_UNDERFLOW (sourceCode 3 n) k
  else s

/-- Playback ends, and its read-ahead is freed (R118, R355). -/
def State.endPlay (s : State) (n : Nat) : State :=
  ((s.modPlayer n (fun p => { p with shown := none, held := [], loops := false, looped := 0 })).takePool (poolPlayer n) 0).wr
    Dict.POCKET_PLAYER_PLAY_STATE 0 n

/-- Clip frames from a player's start on, less the loops that a change to PLAY left behind, and the weight of the next
(R117, R118). -/
def State.playIndex (s : State) (n b : Nat) : Nat × Nat :=
  let p := s.playerAt n
  let (j, w) := s.playPosition n (b - p.startBase)
  (p.startFrame + j - p.looped, w)

/-- PLAY or LOOP taken while the player plays: it goes on from where it is, and PLAY ends with the present loop (R118,
log 63). -/
def State.turnPlay (s : State) (n b : Nat) : State :=
  let p := s.playerAt n
  let (first, last) := s.playSpan n
  let (k, _) := s.playIndex n b
  let span := last + 1 - first
  s.putPlayer n { p with
    request := 0xFF, loops := p.request == 3
    looped := if p.request = 2 ∧ last < k then p.looped + (k - first) / span * span else p.looped }

/-- A request for a transport state taken up at a latch with base number `b` (Table 4.5).  PAUSE of a player that is not
PLAYING changes nothing (DESIGN CHOICE, log 63). -/
def State.takeTransport (s : State) (n b : Nat) : State :=
  let p := s.playerAt n
  let st := s.rd Dict.POCKET_PLAYER_PLAY_STATE n
  let (first, _) := s.playSpan n
  match p.request with
  | 0 => (s.putPlayer n { p with
      request := 0xFF, paused := false, askedBase := 0, sound := [], soundFrame := 0 }).endPlay n
  | 1 =>
    let s := s.putPlayer n { p with request := 0xFF, shown := none, paused := false, askedBase := 0
                                    startFrame := first, held := [], sound := [], soundFrame := 0
                                    loops := false, looped := 0 }
    s.wr Dict.POCKET_PLAYER_PLAY_STATE 1 n
  | 4 => (s.putPlayer n { p with request := 0xFF, paused := true }).wr
      Dict.POCKET_PLAYER_PLAY_STATE (if st = 3 then 4 else st) n
  | 0xFF => s
  | _ =>
    if st = 3 then s.turnPlay n b
    else
      let from_ := if st = 4 then s.rd Dict.POCKET_PLAYER_POSITION n else first
      let s := s.putPlayer n { p with loops := p.request == 3, looped := 0, startFrame := from_ }
      let p := s.playerAt n
      let p := { p with held := if st = 0 ∨ st = 5 then [] else p.held.filter (fun e => s.aheadOf n e.1 from_) }
      let at_ := s.rd Dict.POCKET_PLAYER_START_S n * nsPerS + s.rd Dict.POCKET_PLAYER_START_NS n
      let p := if p.askedBase = 0 ∧ at_ ≤ s.timebase then { p with askedBase := b + 1 } else p
      let s := s.putPlayer n p
      let s := if st = 0 ∨ st = 5 then s.wr Dict.POCKET_PLAYER_PLAY_STATE 1 n else s
      if p.askedBase ≠ 0 ∧ 2 ≤ p.held.length then
        let s := s.putPlayer n { p with request := 0xFF, startBase := b, paused := false, askedBase := 0 }
        (s.wr Dict.POCKET_PLAYER_PLAY_STATE 3 n).raise Event.POCKET_STARTED (sourceCode 3 n)
          (b + 1 - p.askedBase)
      else s

/-- An enabled player at the base-frame compose latch of its FTG (R117 to R119). -/
def State.playLatch (s : State) (n b : Nat) : State :=
  let s := (s.takeLive n).takeTransport n b
  let p := s.playerAt n
  let s := s.putPlayer n { p with lastLatch := b + 1 }
  let (first, last) := s.playSpan n
  match s.rd Dict.POCKET_PLAYER_PLAY_STATE n with
  | 1 =>
    if 2 ≤ p.held.length ∧ p.request = 0xFF then
      (s.showFrame n p.startFrame p.startFrame 0).wr Dict.POCKET_PLAYER_PLAY_STATE 2 n
    else s
  | 3 =>
    let (k, w) := s.playIndex n b
    if p.loops then
      let wrap (k : Nat) : Nat := if last < k then first + (k - first) % (last + 1 - first) else k
      s.showFrame n (wrap k) (wrap (k + 1)) w
    else if last < k then
      let s := s.raise Event.POCKET_ENDED (sourceCode 3 n) (s.playerLive n 0)
      if s.playerLive n 4 = 0 then s.wr Dict.POCKET_PLAYER_PLAY_STATE 5 n else s.endPlay n
    else s.showFrame n k (min last (k + 1)) w
  | 4 =>
    match p.shown with
    | some _ => s
    | none =>
      let k := s.rd Dict.POCKET_PLAYER_POSITION n
      s.putPlayer n { p with
        shown := p.heldFrame k, shownKey := [s.playerLive n 0, k, 0], lastLatch := b + 1 }
  | _ => s

/-- A player at the base-frame compose latch of its FTG: its ENABLE applies first (R117 to R119). -/
def State.playerLatch (s : State) (n b : Nat) : State :=
  let s := s.takeEnable n
  if (s.playerAt n).on then s.playLatch n b else s

/-- Every player paced by FTG `f`, once in each of its base frames (R118). -/
def State.playersLatch (s : State) (f : Nat) : State :=
  let b := s.rd Dict.FTG_BASE_FRAMES f
  (List.range 32).foldl (fun s n =>
    if s.rd Dict.POCKET_PLAYER_FTG n = f ∧ (s.playerAt n).lastLatch ≠ b + 1 then s.playerLatch n b else s) s

/-! ### Captures (R370) -/

/-- A capture recorder. -/
def State.captureAt (s : State) (k : Nat) : Capture := Store.read (fun _ => Capture.init) s.pocket.capture k

/-- A capture recorder set. -/
def State.putCapture (s : State) (k : Nat) (c : Capture) : State :=
  { s with pocket := { s.pocket with capture := Store.write (fun _ => Capture.init) s.pocket.capture k c } }

/-- Sample frames that frame `k` of a clip carries: from floor(k * AUDIO_RATE / rate) up to the next frame's first
(R368). -/
def Clip.soundCount (c : Clip) (k : Nat) : Nat :=
  let upTo (k : Nat) : Nat := k * c.audioRate * c.rateDen / max 1 c.rateNum
  upTo (k + 1) - upTo k

/-- A frame of a source, by kind * 256 + number as CAP_SOURCE codes it, that began `period` ago joins the recorders that
capture it, where it began since they were started; the first one keeps the sample frames of its own time, and the one in
progress when a stop is commanded is the last (R368, R370).  Its writes are submitted but at the write floor (R371). -/
def State.capture (s : State) (source period : Nat) (r : Raster) : State :=
  [0, 1].foldl (fun s k =>
    let c := s.captureAt k
    if c.clip ≠ 0 ∧ c.source = source ∧ !c.closed ∧ !c.flushed ∧ c.from_ + period ≤ s.timebase then
      let first := c.queue.isEmpty && c.written == 0
      s.putCapture k { c with
        queue := c.queue ++ [r], closed := c.stopping
        submitted := if s.floor then c.submitted else c.queue.length + 1
        sound := if first then c.sound.take ((s.clipAt (c.clip - 1)).soundCount 0) else c.sound }
    else s) s

end Sys2Proof.Machine
end

