-- ==== Sys2Proof/Machine/StripOps.lean ====
section
/-! DEFINITION. The dispatch queue: strips in their order, the copies that engines hold, reissue, loss of a
copy and retry (R50 to R54, R183, R187). -/
namespace Sys2Proof.Machine
open Sys2Proof

/-- The queue's order for strips that no reissue or retry put at its head: deadline, first line, canvas,
place from left to right (R50, R109). -/
def Strip.before (a b : Strip) : Bool :=
  !b.front && (decide (a.deadline < b.deadline) || (a.deadline == b.deadline &&
    (decide (a.firstLine < b.firstLine) || (a.firstLine == b.firstLine &&
      (decide (a.owner < b.owner) || (a.owner == b.owner && decide (a.index < b.index)))))))

/-- Whether a strip is the one an identification names. -/
def Strip.isId (a : Strip) (i : StripId) : Bool :=
  a.kind == (if i.kind = 0 then .compose else .estimate) && a.owner == i.owner && a.slot == i.slot
    && a.index == i.index && a.firstLine == i.line

/-- Bits 31:24 canvas, 23:16 slot, 15:0 strip (R60, R193). -/
def Strip.code (a : Strip) : Nat := a.owner * 2 ^ 24 + a.slot * 2 ^ 16 + a.index % 2 ^ 16

/-- The strip that an identification names. -/
def State.stripOf (s : State) (i : StripId) : Option Strip := s.strips.find? (·.isId i)

/-- A strip changed in its place. -/
def State.modStrip (s : State) (i : StripId) (f : Strip → Strip) : State :=
  { s with strips := s.strips.map (fun a => if a.isId i then f a else a) }

/-- A strip moved to the head of the queue, changed. -/
def State.pushFront (s : State) (i : StripId) (f : Strip → Strip) : State :=
  match takeOut (·.isId i) s.strips with
  | some (a, rest) => { s with strips := { f a with front := true } :: rest }
  | none => s

/-- Strips entered into the queue in its order. -/
def State.enqueue (s : State) (l : List Strip) : State :=
  { s with strips := l.foldl (fun q a => insertBy Strip.before a q) s.strips }

/-- The strips of a canvas's composition. -/
def State.stripsOf (s : State) (kind : StripKind) (owner : Nat) : List Strip :=
  s.strips.filter (fun a => a.kind == kind && a.owner == owner)

/-- Copies that an engine may hold: 2, 1 while LAGGING, 0 for the others (R51, R59, R186). -/
def Engine.credit (g : Engine) : Nat := match g.state with | .active => 2 | .lagging => 1 | _ => 0

/-- Whether a copy of the strip waits and engine `e` may take it (R51, R109, R187). -/
def Strip.mayGo (a : Strip) (e : Nat) : Bool :=
  a.ready && !a.done && !a.abandoned && decide (a.copies.length < a.issued)
    && !a.copies.any (·.engine == e) && !a.faulted.contains e

/-- Expected time of a strip on an island, in ns: its layer-samples divided by the island's pace (R52). -/
def State.expectedNs (s : State) (work e : Nat) : Nat :=
  work * 65536 / (24 * max 1 (s.rd Dict.ISLAND_PACE_PACE 0 (islandOf e)))

/-- A copy starts on engine `e`; the first copy's time sets the reissue point (R52). -/
def State.startCopy (s : State) (a : Strip) (e : Nat) : Strip :=
  let x := s.expectedNs a.work e
  let t := s.timebase
  let a' := { a with
    copies := a.copies ++ [⟨e, t⟩]
    front := a.front && decide (a.copies.length + 1 < a.issued) }
  if a.copies.isEmpty then
    { a' with dispatched := t, expected := x, reissueAt := t + x + 3 * (a.deadline - (t + x)) / 4 }
  else a'

/-- Engine `e` pulls the strip at the head of the queue that it may take (R50, R51). -/
def State.pull (s : State) (e : Nat) : State :=
  if s.alive ∧ s.heldBy e < (s.engineAt e).credit then
    match s.strips.find? (·.mayGo e) with
    | some a =>
      let s := s.accrue e
      { s with strips := s.strips.map (fun b => if b = a then s.startCopy a e else b) }
    | none => s
  else s

/-- The lowest-numbered idle engine that may take a second copy, one of another island first (R52). -/
def State.idleFor (s : State) (a : Strip) : Option Nat :=
  let first := match a.copies with | c :: _ => islandOf c.engine | [] => 4
  let idle := allEngines.filter (fun e =>
    s.heldBy e == 0 && decide (0 < (s.engineAt e).credit) && !a.copies.any (·.engine == e)
      && !a.faulted.contains e)
  match idle.find? (fun e => islandOf e != first) with
  | some e => some e
  | none => idle.head?

/-- A second copy of a strip that runs alone past its reissue point, on an idle engine or at the head of
the queue (R52). -/
def State.reissue (s : State) (i : StripId) : State :=
  match s.stripOf i with
  | some a =>
    if a.done = false ∧ a.abandoned = false ∧ a.reissued = false ∧ a.copies.length = 1 ∧ a.reissueAt ≤ s.timebase
    then
      let first := match a.copies with | c :: _ => c.engine | [] => 0
      let s' := match s.idleFor a with
        | some e =>
          let s := s.accrue e
          s.modStrip i (fun a => s.startCopy { a with issued := 2, reissued := true } e)
        | none => s.pushFront i (fun a => { a with issued := 2, reissued := true })
      (s'.inc Dict.ENGINE_POOL_STRIPS_REISSUED).raise Event.STRIP_REISSUE first a.code
    else s
  | none => s

/-- An engine's account of a copy that ended: its work counts only when it won, its busy time in any case (R53,
Table 6.7). -/
def State.accountCopy (s : State) (c : Copy) (work : Nat) (won : Bool) : State :=
  (s.accrue c.engine).modEngine c.engine (fun g =>
    { g with
      work := if won then g.work + work else g.work
      strips := saturate 32 (g.strips + 1) })

/-- A copy completed first: the strip is done and the other copy ends (R53). -/
def State.finishStrip (s : State) (a : Strip) (e : Nat) (i : StripId) : State :=
  let s := a.copies.foldl (fun s c => s.accountCopy c a.work (c.engine == e)) s
  let s := s.modStrip i (fun a => { a with done := true, copies := [] })
  s.inc Dict.ENGINE_POOL_STRIPS_COMPLETED

/-- A copy abandoned by a fault of its engine: the other running copy goes on, or the strip is retried, or
at its third abandonment it is abandoned (R187). -/
def State.loseCopy (s : State) (e : Nat) (i : StripId) : State :=
  match s.stripOf i with
  | some a =>
    match a.copies.find? (·.engine == e) with
    | some c =>
      let s := s.accrue c.engine
      let left := a.copies.filter (·.engine != e)
      if left.isEmpty then
        let n := a.abandonments + 1
        let lost (a : Strip) : Strip :=
          { a with copies := [], issued := 1, reissued := false, faulted := e :: a.faulted, abandonments := n }
        if n < 3 then
          ((s.pushFront i lost).inc Dict.ENGINE_POOL_STRIPS_RETRIED).raise Event.STRIP_RETRY e a.code
        else
          ((s.modStrip i (fun a => { lost a with abandoned := true })).inc
            Dict.ENGINE_POOL_STRIPS_ABANDONED).raise Event.STRIP_ABANDONED a.owner (a.code % 2 ^ 24)
      else s.modStrip i (fun a => { a with copies := left, issued := 1, faulted := e :: a.faulted })
    | none => s
  | none => s

/-- The strips taken out of the queue, their copies' busy time counted (R54). -/
def State.dropStrips (s : State) (kind : StripKind) (owner : Nat) : State :=
  let gone := s.stripsOf kind owner
  let s := gone.foldl (fun s a => a.copies.foldl (fun s c => s.accrue c.engine) s) s
  { s with strips := s.strips.filter (fun a => !(a.kind == kind && a.owner == owner)) }

/-- A new strip. -/
def Strip.fresh (kind : StripKind) (owner slot index firstLine lines deadline work : Nat) (ready : Bool) :
    Strip where
  kind := kind
  owner := owner
  slot := slot
  index := index
  firstLine := firstLine
  lines := lines
  deadline := deadline
  work := work
  copies := []
  issued := 1
  reissued := false
  faulted := []
  abandonments := 0
  dispatched := 0
  expected := 0
  reissueAt := 0
  ready := ready
  done := false
  abandoned := false
  front := false

end Sys2Proof.Machine
end

