-- ==== Sys2Proof/Machine/Compose.lean ====
section
/-! DEFINITION. Composition: protected-content gating, what each layer resolves to, the Overcoat, the Lining,
and the pixels of a strip (R27, R140 to R145, R160, R194 to R223). -/
namespace Sys2Proof.Machine
open Sys2Proof

/-! ### Protected content (R27, R144, R145) -/

/-- A potentially protected source (R144). -/
def State.potentiallyProtected (s : State) (kind num : Nat) : Bool :=
  kind == 1 && (s.flag Dict.INPUT_PROTECTED num
    || (s.rd Dict.INPUT_TRANSPORT num == 3 && (s.groupAt (s.rd Dict.INPUT_PORT_A num)).hdcp))

/-- The VALID tile-map entries in force that a TILE head sends (R269). -/
def State.headTiles (s : State) (h : Nat) : List (List Byte) :=
  (s.tileMap.map Prod.snd).filter (fun e =>
    bit (byteAt e 21) 0 && byteAt e 4 == s.headCanvas h
      && (bit (s.rd Dict.HEAD_PORT_MASK h) (byteAt e 2) || bit (s.rd Dict.HEAD_PORT_MASK h) (byteAt e 3)))

/-- Whether a head is a permitted destination by itself (R144). -/
def State.permittedAlone (s : State) (h : Nat) : Bool :=
  match s.rd Dict.HEAD_TYPE h with
  | 1 => s.rd Dict.PTL_KEY_STATE == 1
      && (bitsSet (s.rd Dict.HEAD_PORT_MASK h) 48).all (fun p => s.rd Dict.PTL_GENERATION 0 p == 2)
      && (s.headTiles h).all (fun e => bit (byteAt e 21) 1)
  | 2 | 3 => (s.groupAt (s.rd Dict.HEAD_OUTPUT h % 4)).hdcp
  | _ => false

/-- Whether a head is a permitted destination (R144). -/
def State.permitted (s : State) (h : Nat) : Bool := s.permittedAlone h

/-- Whether a permitted head also has its sink authenticated (R145). -/
def State.authenticated (s : State) (h : Nat) : Bool :=
  match s.rd Dict.HEAD_TYPE h with
  | 2 | 3 => s.rd Dict.GROUP_PORT_HDCP_STATE (s.rd Dict.HEAD_OUTPUT h % 4) == 2
  | _ => true

/-- The head of canvas `c` that stops protected content from being shown on it (R27). -/
def State.gatingHead (s : State) (c : Nat) : Option Nat :=
  (s.headsOf c).find? (fun h => !(s.permitted h && s.authenticated h))

/-- Whether a source is to be replaced by fill on canvas `c` (R27). -/
def State.gated (s : State) (c kind num : Nat) : Bool :=
  kind == 1 && s.flag Dict.INPUT_PROTECTED num && (s.gatingHead c).isSome

/-- Whether the last compose latch of canvas `c` replaced a source by fill (R27). -/
def State.filled (s : State) (c kind num : Nat) : Bool := kind == 1 && (s.canvasAt c).fills.contains num

/-- Gating judged at a compose latch for every source that a canvas may show, with the events of its enabled layers
(R27). -/
def State.judgeGating (s : State) (c : Nat) : State :=
  let s := s.modCanvas c (fun v => { v with fills := (List.range 64).filter (fun n => s.gated c 1 n) })
  (List.range 8).foldl (fun s l =>
    let k := layerNo c l
    let on := s.layerOn k && (s.gated c (s.rd Dict.LAYER_SOURCE_KIND k) (s.rd Dict.LAYER_SOURCE_NUM k)
      || (match (s.layerAt k).mix with | some m => s.gated c m.outKind m.outNum | none => false))
    let was := (s.layerAt k).gated
    let s := s.modLayer k (fun y => { y with gated := on })
    if on && !was then s.raise Event.PROTECT_FILL_ON k ((s.gatingHead c).getD 0)
    else s.raiseIf (was && !on) Event.PROTECT_FILL_OFF k 0) s

/-! ### Readiness (R200, R205 to R208) -/

/-- Whether the crop of layer `k` lies within a raster (R200). -/
def State.cropFits (s : State) (k : Nat) (raster : Nat × Nat) : Bool :=
  let (x, y, w, h) := s.cropOf k raster
  decide (x + w ≤ raster.1 ∧ y + h ≤ raster.2 ∧ 0 < w ∧ 0 < h)

/-- Whether the crop and the line-store rule hold for a source on layer `k` (R200, R205). -/
def State.layerFits (s : State) (k kind num : Nat) : Bool :=
  match s.sourceRaster kind num with
  | none => kind == 0
  | some r => s.cropFits k r && (s.reliefFor k kind num).isSome

/-- Vertical taps of layer `k` after DEGRADE_OK, none when the line-store rule fails (R170, R171, R200). -/
def State.relief (s : State) (k : Nat) : Option Nat :=
  s.reliefFor k (s.rd Dict.LAYER_SOURCE_KIND k) (s.rd Dict.LAYER_SOURCE_NUM k)

/-- The taps of layer `k` after DEGRADE_OK taken (R171). -/
def State.takeRelief (s : State) (k : Nat) : State :=
  let full := s.rd Dict.LAYER_V_TAPS k
  let v := (s.relief k).getD full
  s.modLayer k (fun y => { y with degraded := if v = full then 0 else v })

/-- DEGRADED_LAYERS of a canvas: its enabled layers that DEGRADE_OK relieves (R137). -/
def State.showDegraded (s : State) (c : Nat) : State :=
  s.wr Dict.CANVAS_COMMIT_DEGRADED_LAYERS
    (maskOf ((List.range 8).filter (fun l =>
      s.layerOn (layerNo c l) && (s.layerAt (layerNo c l)).degraded != 0))) c

/-- Scope of a layer in an event (R159). -/
abbrev layerScope (k : Nat) : Nat := 4 * 256 + k

/-- A player's layer judged against the clip that plays: its taps follow, and are reported when that reduces them (R137,
R171, R200). -/
def State.relieveClip (s : State) (c k : Nat) : State :=
  if s.rd Dict.LAYER_SOURCE_KIND k = 3 then
    let was := (s.layerAt k).degraded
    let s := (s.takeRelief k).showDegraded c
    let now := (s.layerAt k).degraded
    s.raiseIf (now != 0 && now != was) Event.TAPS_DEGRADED (layerScope k) (s.rd Dict.LAYER_H_TAPS k * 256 + now)
  else s

/-- The picture a player shows, when it is ready (Table 7.1). -/
def State.playerPicture (s : State) (n : Nat) : Option Raster :=
  if 2 ≤ s.rd Dict.POCKET_PLAYER_PLAY_STATE n then (s.playerAt n).shown else none

/-- The picture of a source that is ready at latch `t` of canvas `c` (Table 7.1); a LOCKED input's fills as
its lines arrive. -/
def State.readyPicture (s : State) (c k kind num t : Nat) : Option Raster :=
  if s.layerFits k kind num then
    match kind with
    | 0 => some Raster.init
    | 1 =>
      if s.supplies num then
        if s.rd Dict.INPUT_TIMING_CLASS num = 1 then
          some { (s.inputAt num).band with width := (s.storedRaster num).1, height := (s.storedRaster num).2 }
        else (s.converted num c t).map (fun x => x.1)
      else none
    | 2 => if s.rd Dict.HOST_SOURCE_HEALTH num = 2
        then some (s.hostPicture num (s.rd Dict.HOST_SOURCE_FRONT num)) else none
    | _ => s.playerPicture num
  else none

/-- The slate of layer `k`, when its player is ready and it fits at 2 taps (R207). -/
def State.slate (s : State) (k : Nat) : Option Raster :=
  let n := s.rd Dict.LAYER_POCKET_SLATE k
  match s.playerPicture n with
  | some p =>
    if lineStore p.width p.height (s.rd Dict.LAYER_WIDTH k) (s.rd Dict.LAYER_HEIGHT k) 2 2 ≤ 32768 then some p
    else none
  | none => none

/-- The last frame held where the source keeps it, if it still does; a layer that has composed none from
this source since its last cut takes the newest that the source delivered and holds (R206, log 43). -/
def State.heldLast (s : State) (kind num : Nat) (last : Option Raster) : Option Raster :=
  match kind with
  | 1 =>
    if s.flag Dict.INPUT_ENABLE num then last <|> ((s.inputAt num).frames.head?.map (fun f => f.picture))
    else none
  | 2 =>
    if s.rd Dict.HOST_SOURCE_FLIP_COUNT num = 0 then last
    else last <|> (if (s.hostAt num).lostChannel then none
      else some (s.hostPicture num (s.rd Dict.HOST_SOURCE_FRONT num)))
  | _ => if s.rd Dict.POCKET_PLAYER_PLAY_STATE num = 0 then none else last <|> (s.playerAt num).shown

/-- One source of a layer resolved at a judging latch (R205 to R208): what it shows, its count of REPEAT
base frames, its last frame, and the state with LAYER_REPEAT_EXPIRED or LAYER_SLATE_FALLBACK. -/
def State.resolve (s : State) (c k kind num t : Nat) (was : Shown) (reps : Nat) (last : Option Raster) :
    State × Shown × Nat × Option Raster :=
  if s.gated c kind num then (s, ⟨5, Raster.init⟩, reps, last)
  else
    match s.readyPicture c k kind num t with
    | some p => (s, ⟨0, p⟩, 0, if kind = 0 then none else some p)
    | none =>
      match s.rd Dict.LAYER_NOT_READY k with
      | 0 =>
        let limit := s.rd Dict.LAYER_REPEAT_LIMIT k
        match s.heldLast kind num last with
        | some p =>
          if reps < limit then (s, ⟨1, p⟩, reps + 1, some p)
          else (s.raiseIf (was.how == 1) Event.LAYER_REPEAT_EXPIRED k limit, ⟨2, Raster.init⟩, reps, last)
        | none => (s.raiseIf (was.how == 1) Event.LAYER_REPEAT_EXPIRED k limit, ⟨2, Raster.init⟩, reps, none)
      | 1 => (s, ⟨2, Raster.init⟩, reps, last)
      | 2 => (s, ⟨3, Raster.init⟩, reps, last)
      | _ =>
        match s.slate k with
        | some p => (s, ⟨4, p⟩, reps, last)
        | none => (s.raise Event.LAYER_SLATE_FALLBACK k (s.rd Dict.LAYER_POCKET_SLATE k),
            ⟨3, Raster.init⟩, reps, last)

/-- Whether a resolution counts as not ready (R208); a gated source is judged no further (R205). -/
def Shown.late (x : Shown) : Bool := x.how != 0 && x.how != 5

/-- The latency of an input that canvas `c` composes (R110, R185), and MOTION_LATE (R183). -/
def State.noteConverted (s : State) (c num t : Nat) : State :=
  if s.rd Dict.INPUT_TIMING_CLASS num = 1 then s.noteLatency num c (s.lockedLatency num (s.canvasFtg c))
  else if s.rd Dict.INPUT_TIMING_CLASS num = 2 then
    match s.converted num c t with
    | some (_, early, late) =>
      let pins := t + s.canvasPeriod c / s.canvasSlots c
      (s.noteLatency num c ((pins - early) / 1000)).raiseIf late Event.MOTION_LATE num
        (s.rd Dict.FTG_BASE_FRAMES (s.canvasFtg c))
    | none => s
  else s

/-- The frame of a LOCKED input that a source chases from this latch on, and its first line already lost (R109,
R110). -/
def State.chase (s : State) (kind num : Nat) (sh : Shown) : Nat × Nat :=
  if kind = 1 ∧ s.rd Dict.INPUT_TIMING_CLASS num = 1 ∧ sh.how = 0 then
    (s.frameComing num, if s.frameDamaged num then s.lostLine num (s.inputAt num).damagedLine else 0)
  else (0, 0)

/-- Which frame of its source a layer shows: the flip of a host surface, the clip frame of a player (R223). -/
def State.frameKey (s : State) (kind num : Nat) : List Nat :=
  match kind with
  | 2 => [s.rd Dict.HOST_SOURCE_FLIP_COUNT num]
  | 3 => (s.playerAt num).shownKey
  | _ => []

/-- Layer `k` judged at the slot-0 latch of canvas `c` (R205 to R208).  While a source is gated the layer is neither ready
nor newly late. -/
def State.judgeLayer (s : State) (c k t : Nat) : State :=
  let s := s.relieveClip c k
  let y := s.layerAt k
  let kind := s.rd Dict.LAYER_SOURCE_KIND k
  let num := s.rd Dict.LAYER_SOURCE_NUM k
  let (s, now, reps, last) := s.resolve c k kind num t y.shown y.reps y.last
  let (s, out, oreps, olast) := match y.mix with
    | some m => s.resolve c k m.outKind m.outNum t y.outShown y.outReps y.outLast
    | none => (s, Shown.init, 0, none)
  let late := now.late || (y.mix.isSome && out.late)
  let ready := now.how == 0 && (y.mix.isNone || out.how == 0)
  let code := if now.how ≠ 0 then now.how else out.how
  let (chased, lost) := s.chase kind num now
  let (outChased, outLost) := match y.mix with | some m => s.chase m.outKind m.outNum out | none => (0, 0)
  let s := s.putLayer k { y with
    shown := now, reps := reps, last := last, outShown := out, outReps := oreps, outLast := olast
    notReady := late || (y.notReady && !ready), lostFrom := lost, outLost := outLost
    chased := chased, outChased := outChased, shownKey := s.frameKey kind num
    framesNotReady := if late then y.framesNotReady + 1 else if ready then 0 else y.framesNotReady }
  let s := s.wr Dict.LAYER_READY code k
  let s := s.wr Dict.LAYER_REPEAT_COUNT (max reps oreps) k
  let s := if late then s.inc Dict.LAYER_NOT_READY_FRAMES k else s
  let (th, tv) := s.tapsOf k
  let s := s.wr Dict.LAYER_ACTIVE_TAPS (th * 256 + tv) k
  let s := match s.sourceRaster kind num with
    | some (w, h) => s.wr Dict.LAYER_SOURCE_RASTER (w * 65536 + h) k
    | none => s.wr Dict.LAYER_SOURCE_RASTER 0 k
  let s := s.raiseIf (late && !y.notReady) Event.LAYER_NOT_READY k code
  s.raiseIf (ready && y.notReady) Event.LAYER_READY k y.framesNotReady

/-- Inputs that the layers of canvas `c` present a frame of, each once (R185). -/
def State.shownInputs (s : State) (c : Nat) : List Nat :=
  ((List.range 8).flatMap (fun l =>
    let k := layerNo c l
    let y := s.layerAt k
    if s.layerOn k then
      (if s.rd Dict.LAYER_SOURCE_KIND k = 1 ∧ y.shown.how = 0 then [s.rd Dict.LAYER_SOURCE_NUM k] else [])
        ++ (match y.mix with
            | some m => if m.outKind = 1 ∧ y.outShown.how = 0 then [m.outNum] else []
            | none => [])
    else [])).eraseDups

/-- The layers of a canvas from position 0 up (R201). -/
def State.blendOrder (s : State) (c : Nat) : List Nat :=
  if s.rd Dict.CANVAS_ORDER_MODE c = 0 then List.range 8
  else (List.range 8).map (fun k => field (s.rd Dict.CANVAS_ORDER c) (4 * k + 3) (4 * k) % 8)

/-- The layers of canvas `c` as they are and as its composition sees them, changed alike. -/
def State.mapLayers (s : State) (f : Layer → Layer) : State :=
  { s with
    layers := s.layers.map (fun e => (e.1, f e.2))
    canvases := s.canvases.map (fun e => (e.1, { e.2 with seen := e.2.seen.map (fun x => (x.1, f x.2)) })) }

/-- Whether the slot group composes layer `k` in some slot (R196). -/
def State.inGroup (s : State) (c k : Nat) : Bool :=
  s.layerOn k && (s.rd Dict.LAYER_SLOT_MASK k % 2 ^ s.canvasSlots c != 0)

/-- Mixes step on at a base-frame latch, and end after N base frames (R141). -/
def State.stepMixes (s : State) (c : Nat) : State :=
  (List.range 8).foldl (fun s l =>
    let k := layerNo c l
    let s := s.modLayer k (fun y => { y with mixedAt := false })
    match (s.layerAt k).mix with
    | none => s
    | some m =>
      let j := m.elapsed + 1
      if j < m.length then
        (s.modLayer k (fun y => { y with mix := some { m with elapsed := j } })).wr
          Dict.LAYER_MIX_REMAINING (m.length - j) k
      else
        ((s.modLayer k (fun y => { y with mix := none, outLast := none, outReps := 0, mixedAt := decide (j = 1) })).wr
          Dict.LAYER_MIX_REMAINING 0 k).raise Event.MIX_END k 0) s

/-! ### The Overcoat (R215 to R219) -/

/-- Why the Overcoat of canvas `c` is called for: 1 object, 2 pin, 3 pin latch, 4 start-up; 0 not called
for (R216, R229). -/
def State.overcoatCall (s : State) (c : Nat) : Nat :=
  let mask := bit (s.rd Dict.OVERCOAT_PIN_MASK) c
  if bit (s.rd Dict.OVERCOAT_ARM) c then 1
  else if mask && s.dev.overcoatPin then 2
  else if mask && s.flag Dict.OVERCOAT_PIN_LATCH && s.dev.overcoatLatched then 3
  else if bit (s.rd Dict.OVERCOAT_BOOT_ARM) c && !(s.canvasAt c).everRun then 4
  else 0

/-- The image placed on canvas `c` checked against its IMAGE_CRC (R219). -/
def State.checkImage (s : State) (c : Nat) : State :=
  let i := (s.placement c).image
  if i < 16 ∧ bit (s.rd Dict.OVERCOAT_IMAGES_LOADED) i then
    let v := crc32 (s.imageDataAt i)
    if v = s.imageCrcAt i then s
    else (s.putImageBad i true).raiseIf (!s.imageBadAt i) Event.OVERCOAT_IMAGE_FAULT i v
  else s

/-- The step-5 yield of canvas `c` ended by arming (R218), which is a restore that R49 has raised (log 43). -/
def State.endStep5 (s : State) (c : Nat) : State :=
  let mine (y : Yield) : Bool := y.step == 5 && y.kind == 5 && y.item == c
  if s.gov.yields.any mine ∨ (s.canvasAt c).yields.any mine then
    let ended := s.gov.yields.filter mine
    let s := { s with gov := { s.gov with yields := s.gov.yields.filter (fun y => !mine y) } }
    let s := ended.foldl (fun s y => s.raise Event.GOV_RESTORE (yieldCode y.step y.kind y.item) y.saving) s
    (s.modCanvas c (fun v => { v with yields := v.yields.filter (fun y => !mine y), skip := false })).wr
      Dict.CANVAS_STATE 1 c
  else s

/-- Every compose latch finds whether the image that canvas `c` places has failed (R219, R351). -/
def State.noteImage (s : State) (c : Nat) : State :=
  s.modCanvas c (fun v => { v with imageBad := s.imageBadAt (s.placement c).image })

/-- Arming at any compose latch, disarming at one that judges readiness (R217); a call by the pin or its latch is the pin's
(R421). -/
def State.judgeOvercoat (s : State) (c slot : Nat) : State :=
  let cause := s.overcoatCall c
  if cause ≠ 0 ∧ s.armed c = false then
    let s := s.wr Dict.OVERCOAT_ARMED (putBit (s.rd Dict.OVERCOAT_ARMED) c true)
    let by_ := if cause = 2 ∨ cause = 3 then pinSource else s.actor
    let s := (s.modCanvas c (fun v => { v with armedFrames := if slot = 0 then 0 else 1 })).raiseBy by_ Event.OVERCOAT_ARMED c cause
    (s.checkImage c).endStep5 c
  else if cause = 0 ∧ s.armed c = true ∧ slot = 0 then
    (s.wr Dict.OVERCOAT_ARMED (putBit (s.rd Dict.OVERCOAT_ARMED) c false)).raise Event.OVERCOAT_DISARMED c
      (s.canvasAt c).armedFrames
  else s

/-! ### The Lining (R220 to R223) -/

/-- Whether layer `k` of canvas `c` may be lined (R220). -/
def State.liningEligible (s : State) (c k : Nat) : Bool :=
  let y := s.layerAt k
  s.layerOn k && s.flag Dict.LAYER_STATIC k && s.rd Dict.LAYER_SOURCE_KIND k != 1
    && (s.rd Dict.LAYER_SLOT_MASK k % 2 ^ s.canvasSlots c == 2 ^ s.canvasSlots c - 1)
    && y.mix.isNone && !y.gated && y.shown.how == 0

/-- The lined run: eligible layers from position 0 up, disabled ones skipped (R201, R220). -/
def State.linedRun (s : State) (c : Nat) : List Nat :=
  (((s.blendOrder c).filter (fun l => s.layerOn (layerNo c l))).takeWhile
    (fun l => s.liningEligible c (layerNo c l)))

/-- A Lining becomes invalid for a cause (R223). -/
def State.invalidateLining (s : State) (c cause : Nat) : State :=
  if (s.canvasAt c).liningState = 3 then
    let s := (s.modCanvas c (fun v => { v with liningState := 1, liningPicture := none, liningUsed := false })).wr
      Dict.LINING_STATE 1 0 c
    let s := (List.range 8).foldl (fun s l => s.wr Dict.LAYER_LINED 0 (layerNo c l)) s
    s.raise Event.LINING_INVALIDATED c cause
  else if (s.canvasAt c).liningState = 2 then s.modCanvas c (fun v => { v with liningRestart := true })
  else s

/-- The Lining of a canvas given up: off, or no lined run. -/
def State.clearLining (s : State) (c st : Nat) : State :=
  let s := (s.modCanvas c (fun v => { v with liningState := st, liningPicture := none, liningUsed := false })).takeLining c 0
  let s := (s.wr Dict.LINING_STATE st 0 c).wr Dict.LINING_LINED_MASK 0 0 c
  (List.range 8).foldl (fun s l => s.wr Dict.LAYER_LINED 0 (layerNo c l)) s

/-- KiB that the lined run of a canvas needs (R221). -/
def State.liningKibFor (s : State) (c mask : Nat) : Nat :=
  stripeKib (8 * (s.liningRegion c mask).area)

/-- A completed Lining used from a judging latch on (R223). -/
def State.useLining (s : State) (c : Nat) : State :=
  (bitsSet (s.rd Dict.LINING_LINED_MASK 0 c) 8).foldl (fun s l => s.wr Dict.LAYER_LINED 1 (layerNo c l))
    (s.modCanvas c (fun v => { v with liningUsed := true }))

/-- The Lining judged at a latch that judges readiness: invalidated, used, rebuilt, or without room, which is told once
per configuration (R220 to R223).  `fresh` says that a lined layer presents a new frame. -/
def State.judgeLining (s : State) (c : Nat) (fresh : Bool) : State :=
  let mask := maskOf (s.linedRun c)
  let old := s.rd Dict.LINING_LINED_MASK 0 c
  if bit (s.rd Dict.LINING_ENABLE) c = false then
    (s.clearLining c 0).modCanvas c (fun v => { v with liningRoom := false })
  else
    let gone := (bitsSet old 8).any (fun l => (s.layerAt (layerNo c l)).shown.how != 0)
    let s := if gone then s.invalidateLining c 3
      else if mask ≠ old then s.invalidateLining c 1
      else if fresh then s.invalidateLining c 2 else s
    if mask = 0 ∨ bit mask 0 = false then s.clearLining c 1
    else if (s.canvasAt c).liningState = 3 then s.useLining c
    else
      let kib := s.liningKibFor c mask
      if usedKib s.liningAlloc - s.liningAt c + kib ≤ s.liningKib then
        let s := (s.takeLining c kib).wr Dict.LINING_LINED_MASK mask 0 c
        (s.modCanvas c (fun v => { v with liningState := 2, liningRoom := false })).wr
          Dict.LINING_STATE 2 0 c
      else
        let told := (s.canvasAt c).liningRoom
        let s := s.clearLining c 4
        (s.modCanvas c (fun v => { v with liningRoom := true })).raiseIf (!told) Event.LINING_NO_ROOM c kib

/-! ### Pixels (R160 to R164, R198 to R204, R211, R215, R218) -/

/-- How a source's codes are to be read (R113, Tables 4.6, 4.7 and 12.7).  Those of an 8-bit input are read as the 10 bits
that they are stored in (R174, DESIGN CHOICE, log 72). -/
def State.codingOf (s : State) (kind num : Nat) : Coding :=
  match kind with
  | 1 =>
    let n := if s.rd Dict.INPUT_DEPTH num = 12 then 12 else 10
    ⟨s.rd Dict.INPUT_COLORIMETRY num, s.rd Dict.INPUT_TRANSFER num, s.rd Dict.INPUT_RANGE num,
      s.rd Dict.INPUT_SAMPLING num != 2, (n, n, n)⟩
  | 2 => ⟨s.rd Dict.HOST_SOURCE_COLORIMETRY num, s.rd Dict.HOST_SOURCE_TRANSFER num,
      s.rd Dict.HOST_SOURCE_RANGE num, false, formatBits (s.rd Dict.HOST_SOURCE_FORMAT num)⟩
  | 3 =>
    let b := (s.playerClip num).colour
    ⟨field b 0 0, field b 2 1, field b 3 3, bit b 4, formatBits (s.playerClip num).format⟩
  | _ => Coding.fill

/-- Whether a source's stored format carries alpha (R202). -/
def State.carriesAlpha (s : State) (kind num : Nat) : Bool :=
  match kind with
  | 1 => false
  | 2 => decide (3 ≤ s.rd Dict.HOST_SOURCE_FORMAT num)
  | 3 => decide (3 ≤ (s.playerClip num).format)
  | _ => true

/-- A P32D colour in the working space of canvas `c` (R198). -/
def State.fillPx (s : State) (c colour : Nat) : Px := s.toWorking c Coding.fill (Px.colour colour)

/-- Step 1a: the 3D LUT that layer `k` names (R173, R176). -/
def State.layerLut (s : State) (k : Nat) (p : Px) : Px :=
  let lut := s.rd Dict.LAYER_LUT3D k
  if lut = 0 then p else s.lut3 (lut - 1) p

/-- Steps 1a to 4 for a pixel of layer `k` after step 1, with its key alpha (R173, R202, R203). -/
def State.finishPx (s : State) (c k : Nat) (cd : Coding) (alpha : Bool) (p : Px) : Px × Nat :=
  let q := s.layerLut k (toRgb cd p)
  let key := s.keyAlpha k cd.colorimetry q
  let w := s.toWorking c cd q
  ({ w with a := if alpha && s.rd Dict.LAYER_ALPHA_MODE k == 0 then w.a else 65535 }, key)

/-- FILL_COLOUR of layer `k` through steps 2 to 4, with its key alpha (R173, R198, R202, R203). -/
def State.layerFill (s : State) (c k : Nat) : Px × Nat :=
  let q := Px.colour (s.rd Dict.LAYER_FILL_COLOUR k)
  let w := s.toWorking c Coding.fill q
  ({ w with a := if s.rd Dict.LAYER_ALPHA_MODE k = 0 then w.a else 65535 },
    s.keyAlpha k Coding.fill.colorimetry q)

/-- The slate of layer `k` at column `dx` and row `dy` of its rectangle, through the layer's colour steps (R173, R207). -/
def State.slatePx (s : State) (c k : Nat) (p : Raster) (dx dy : Nat) : Px × Nat :=
  let n := s.rd Dict.LAYER_POCKET_SLATE k
  let q := s.scaled p ⟨0, p.width, s.rd Dict.LAYER_WIDTH k, 2, 3⟩ ⟨0, p.height, s.rd Dict.LAYER_HEIGHT k, 2, 3⟩ dx dy
  let q := s.toWorking c (s.codingOf 3 n) (s.layerLut k (toRgb (s.codingOf 3 n) q))
  ({ q with a := if s.carriesAlpha 3 n then q.a else 65535 }, 65535)

/-- What layer `k` shows in lines of a LOCKED frame that did not arrive: nothing, or what NOT_READY directs, REPEAT acting as
HOLE (R110, R206, log 70). -/
def State.lostPx (s : State) (c k dx dy : Nat) : Px × Nat :=
  let hole : Px × Nat := (⟨0, 0, 0, 0⟩, 65535)
  if Config.lostLinesHole then hole
  else
    match s.rd Dict.LAYER_NOT_READY k, s.slate k with
    | 0, _ | 1, _ => hole
    | 3, some p => s.slatePx c k p dx dy
    | _, _ => s.layerFill c k

/-- The result of one source of layer `k` at column `dx` and row `dy` of its rectangle: fill where a compose latch found
it gated, `lostPx` where lines of a LOCKED frame, `lost` on, did not arrive (R27, R110, R160 to R207, log 64). -/
def State.sourcePx (s : State) (c k kind num : Nat) (sh : Shown) (lost dx dy : Nat) : Px × Nat :=
  match if s.filled c kind num then 5 else sh.how with
  | 2 => (⟨0, 0, 0, 0⟩, 65535)
  | 3 | 5 => s.layerFill c k
  | 4 => s.slatePx c k sh.picture dx dy
  | _ =>
    if kind = 0 then s.layerFill c k
    else
      let (x, y, cw, ch) := s.cropOf k (sh.picture.width, sh.picture.height)
      let (th, tv) := s.tapsFor k kind num
      let v : Axis := ⟨y, ch, s.rd Dict.LAYER_HEIGHT k, tv, s.rd Dict.LAYER_V_BANK k⟩
      if decide (0 < lost) && (s.reads v dy).1.any (fun r => decide (lost ≤ r + 1)) then s.lostPx c k dx dy
      else
        s.finishPx c k (s.codingOf kind num) (s.carriesAlpha kind num)
          (s.scaled sh.picture ⟨x, cw, s.rd Dict.LAYER_WIDTH k, th, s.rd Dict.LAYER_H_BANK k⟩ v dx dy)

/-- Layer `k` blended over an accumulator pixel at canvas place (x, y) (R202, R204). -/
def State.layerOver (s : State) (c k x y : Nat) (d : Px) : Px :=
  let dx := (x : Int) - s.rdInt Dict.LAYER_POS_X k
  let dy := (y : Int) - s.rdInt Dict.LAYER_POS_Y k
  if 0 ≤ dx ∧ dx < s.rd Dict.LAYER_WIDTH k ∧ 0 ≤ dy ∧ dy < s.rd Dict.LAYER_HEIGHT k then
    let l := s.layerAt k
    let (p, key) := s.sourcePx c k (s.rd Dict.LAYER_SOURCE_KIND k) (s.rd Dict.LAYER_SOURCE_NUM k) l.shown l.lostFrom
      dx.toNat dy.toNat
    let op := s.rd Dict.LAYER_OPACITY k
    match l.mix with
    | none => blendPx d p key op
    | some m =>
      let (o, okey) := s.sourcePx c k m.outKind m.outNum l.outShown l.outLost dx.toNat dy.toNat
      let keyed (p : Px) (key : Nat) : Px := { p with a := mul16 p.a key }
      blendPx d (mixPx (keyed o okey) (keyed p key) m.elapsed m.length) 65535 op
  else d

/-- The Overcoat's pixel at a canvas place, if its placement covers it (R215, R218, R219). -/
def State.overcoatPx (s : State) (c x y : Nat) (bad : Bool := (s.canvasAt c).imageBad) : Option Px :=
  let p := s.placement c
  if p.image < 16 ∧ bit (s.rd Dict.OVERCOAT_IMAGES_LOADED) p.image then
    let (w, h) := s.imageSize p.image
    let dx := (x : Int) - p.x
    let dy := (y : Int) - p.y
    if 0 ≤ dx ∧ dx < w * p.scale * p.repX ∧ 0 ≤ dy ∧ dy < h * p.scale * p.repY then
      if bad then some (s.fillPx c (s.rd Dict.OVERCOAT_FAULT_COLOUR))
      else
        let ix := dx.toNat % (w * p.scale) / max 1 p.scale
        let iy := dy.toNat % (h * p.scale) / max 1 p.scale
        let desc := s.imageDescAt p.image
        let cd : Coding := ⟨byteAt desc 4, byteAt desc 5, 1, false, (8, 8, 8)⟩
        some (s.toWorking c cd (Px.decode 3 (leAt (s.imageDataAt p.image) (4 * (iy * w + ix)) 4)))
    else none
  else none

/-- The accumulator at a canvas place after some layers, from a start (R160). -/
def State.layersOver (s : State) (c x y : Nat) (ls : List Nat) (d : Px) : Px :=
  ls.foldl (fun d l => s.layerOver c (layerNo c l) x y d) d

/-- The accumulator of slot `slot` at a canvas place before step 5: the Lining where it is valid, the other
layers of the slot, the Overcoat (R160, R196, R218, R221). -/
def State.accumulator (s : State) (c slot x y : Nat) : Px :=
  let back := s.fillPx c (s.rd Dict.CANVAS_BACKGROUND c)
  let lined := s.linedMask c
  let live := (s.blendOrder c).filter (fun l => s.inSlot (layerNo c l) slot && !bit lined l)
  let start := match (s.canvasAt c).liningPicture with
    | some p =>
      let r := s.liningRegion c lined
      if lined ≠ 0 ∧ r.x0 ≤ x ∧ x < r.x1 ∧ r.y0 ≤ y ∧ y < r.y1 then p.at (x - r.x0) (y - r.y0) else back
    | none => back
  let d := s.layersOver c x y live start
  if s.armed c then
    match s.overcoatPx c x y with
    | some p => blendPx d p 65535 65535
    | none => d
  else d

/-- The prepared picture of a canvas's lined run (R221). -/
def State.liningBuild (s : State) (c mask : Nat) : Raster :=
  let r := s.liningRegion c mask
  let back := s.fillPx c (s.rd Dict.CANVAS_BACKGROUND c)
  let run := (s.blendOrder c).filter (fun l => bit mask l)
  Raster.build (r.x1 - r.x0) (r.y1 - r.y0) (fun x y => s.layersOver c (x + r.x0) (y + r.y0) run back)

/-- Register keys of the scope CANVAS_COMMIT[c]: its canvas, its layers, its Overcoat placement and its
colour fields (R129, R191, R225, R226). -/
def inCanvasScope (c key : Nat) : Bool :=
  let i := key / 256
  let j := key % 256
  i == 0x2800 + c || (decide (0x2810 + 8 * c ≤ i) && decide (i < 0x2818 + 8 * c))
    || (i == 0x2850 && j == 0x10 + c) || (i == 0x2620 && decide (0x10 ≤ j) && decide (j ≤ 0x57) && j % 8 == c)

/-- The state as the composition of canvas `c` sees it: the configuration, the layers as they were judged and the yields
of the slot-0 latch of its last composed base frame (R37, R197, R218). -/
def State.asSeen (s : State) (c : Nat) : State :=
  let v := s.canvasAt c
  { s with
    regs := (s.regs.filter (fun e => !inCanvasScope c e.1)) ++ v.config
    doms := (s.doms.filter (fun e => !inCanvasScope c e.1)) ++ v.configDoms
    layers := (s.layers.filter (fun e => e.1 / 8 != c)) ++ v.seen
    gov := { s.gov with yields := v.yields } }

/-- The configuration of a canvas and its judged layers taken at a composed slot-0 latch (R197). -/
def State.takeConfig (s : State) (c : Nat) : State :=
  s.modCanvas c (fun v => { v with
    config := s.regs.filter (fun e => inCanvasScope c e.1)
    configDoms := s.doms.filter (fun e => inCanvasScope c e.1)
    seen := s.layers.filter (fun e => e.1 / 8 == c) })

/-! ### Dispatch of a slot frame (R50, R109, R195, R235) -/

/-- The frames of LOCKED inputs that layer `k` chases, each with its first lost line (R109). -/
def Layer.chases (y : Layer) : List (Nat × Nat) :=
  (if y.chased ≠ 0 then [(y.chased, y.lostFrom)] else [])
    ++ (if y.mix.isSome ∧ y.outChased ≠ 0 then [(y.outChased, y.outLost)] else [])

/-- Whether a layer of the slot reads a LOCKED input (R109). -/
def State.chases (s : State) (c slot : Nat) : Bool :=
  (List.range 8).any (fun l => s.inSlot (layerNo c l) slot && !(s.layerAt (layerNo c l)).chases.isEmpty)

/-- Whether every source line that rows `y0` to `y1 - 1` read has arrived, or will not (R109, R110). -/
def State.linesHere (s : State) (c slot y0 y1 : Nat) : Bool :=
  (List.range 8).all (fun l =>
    let k := layerNo c l
    if s.inSlot k slot then
      (s.layerAt k).chases.all (fun f =>
        let n := (f.1 - 1) % 64
        let py := s.rdInt Dict.LAYER_POS_Y k
        let last := min ((y1 : Int) - 1) (py + s.rd Dict.LAYER_HEIGHT k - 1)
        if f.2 ≠ 0 ∨ f.1 ≠ s.frameComing n ∨ last < max (y0 : Int) py then true
        else
          let (_, y, _, ch) := s.cropOf k (s.storedRaster n)
          let rows := (s.reads ⟨y, ch, s.rd Dict.LAYER_HEIGHT k, (s.tapsFor k 1 n).2, s.rd Dict.LAYER_V_BANK k⟩
            (last - py).toNat).1
          rows.all (fun r => decide (r < (s.inputAt n).bandLines)))
    else true)

/-- The strips, or chase segments, of a slot frame (R50, R109). -/
def State.slotStrips (s : State) (c slot deadline : Nat) : List Strip :=
  let w := s.rd Dict.CANVAS_WIDTH c
  let h := s.rd Dict.CANVAS_HEIGHT c
  let one (i y0 n : Nat) (ready : Bool) : Strip :=
    .fresh .compose c slot i y0 n deadline
      (s.regionWork c slot ⟨128 * i, min w (128 * (i + 1)), y0, y0 + n⟩) ready
  (List.range (ceilDiv w 128)).flatMap (fun i =>
    if s.chases c slot then
      (List.range (ceilDiv h 64)).map (fun j =>
        let y0 := 64 * j
        let n := min 64 (h - y0)
        one i y0 n (s.linesHere c slot y0 (y0 + n)))
    else [one i 0 h true])

/-- The back buffer of a slot: the one its front buffer is not (R235, R237). -/
def State.backBuffer (s : State) (c slot : Nat) : Nat :=
  2 * slot + (if Store.read (fun _ => 0) (s.canvasAt c).front slot = 1 then 1 else 0)

/-- The DRAM buffer of the base frame that canvas `c` composes: buffer j mod 2 for base frame j (R210). -/
def State.wbBuffer (s : State) (c : Nat) (d : List Byte) : Nat :=
  if s.rd Dict.CANVAS_BASE_FRAMES c % 2 = 1 then leAt d 12 8 else leAt d 20 8

/-- A DRAM buffer left undefined by a discarded composition (R210). -/
def State.spoil (s : State) (at_ n : Nat) : State :=
  { s.setHostBytes at_ ((List.range n).map (Config.discardedByte s.draws)) with draws := s.draws + 1 }

/-- The write-back destinations that take slot `slot` of a canvas, with a blank frame each (R209). -/
def State.wbTargets (s : State) (c slot : Nat) : Store (List Byte × Raster) :=
  [0, 1].foldl (fun m k =>
    let d := s.dom Dict.CANVAS_WB_DESC c k
    if byteAt d 0 ≠ 0 ∧ byteAt d 1 = slot then
      Store.write (fun _ => ([], Raster.init)) m k (d, ⟨leAt d 8 2, leAt d 10 2, []⟩)
    else m) []

/-- A slot frame's strips go to the queue (R26, R50).  In a base frame that yield step 5 skips there are none, and its
write-back destinations have no frame (R210, R218). -/
def State.dispatchSlot (s : State) (c slot deadline : Nat) : State :=
  let s := s.dropStrips .compose c
  let v := s.canvasAt c
  if v.skip then s.putCanvas c { v with
    composing := false, complete := false, slot := slot, wbNow := []
    wbNext := ((s.asSeen c).wbTargets c slot).foldl (fun m e => Store.write (fun _ => 0) m e.1 3) v.wbNext }
  else
    let key := s.backBuffer c slot
    let covered := s.armed c
    let s := s.putCanvas c { v with
      composing := true, complete := false, slot := slot, deadline := deadline
      wbNow := (s.asSeen c).wbTargets c slot
      buffers := Store.write (fun _ => Raster.init) v.buffers key
        ⟨s.rd Dict.CANVAS_WIDTH c, s.rd Dict.CANVAS_HEIGHT c, []⟩
      bufferOvercoat := Store.write (fun _ => false) v.bufferOvercoat key covered }
    s.enqueue ((s.asSeen c).slotStrips c slot deadline)

/-- The flip of the slot composed last, when it is complete: its back buffer becomes the front buffer
(R235). -/
def State.flipSlot (s : State) (c : Nat) : State :=
  let v := s.canvasAt c
  if v.complete then
    s.putCanvas c { v with
      complete := false, composing := false
      spoiled := if v.noBuffers then v.spoiled else v.spoiled.filter (· != v.slot)
      front := Store.change (fun _ => 0) v.front v.slot (fun b => if b = 1 then 2 else 1) }
  else s

end Sys2Proof.Machine
end

