-- ==== Sys2Proof/Machine/Channels.lean ====
section
/-! DEFINITION. Matrix channel entries and their destinations: what each names, and what may feed what (R325, R333,
R334). -/
namespace Sys2Proof.Machine
open Sys2Proof

/-- An endpoint's key: kind and number as Table 11.9 codes them; 7 is a player (log 26). -/
abbrev audioKey (kind num : Nat) : Nat := kind * 256 + num

/-- Whether SAP `n` sends, and whether it takes its clock from its pins. -/
def State.sapSends (s : State) (n : Nat) : Bool := s.rd Dict.SAP_DIRECTION n == 1
/-- Whether SAP `n` is a clock slave. -/
def State.sapSlave (s : State) (n : Nat) : Bool := s.rd Dict.SAP_CLOCK_ROLE n == 1
/-- Slots of SAP `n` (Table 11.2). -/
def State.sapSlots (s : State) (n : Nat) : Nat := if s.rd Dict.SAP_FORMAT n = 2 then s.rd Dict.SAP_SLOTS n else 2

/-- Whether stream `k` (receivers 0 to 63, senders 64 to 127) is enabled (Table 11.6). -/
def State.streamOn (s : State) (k : Nat) : Bool := bit (byteAt (s.streamEntryAt k) 0) 0
/-- Whether stream `k` carries ST 2110-31. -/
def State.streamAes3 (s : State) (k : Nat) : Bool := bit (byteAt (s.streamEntryAt k) 0) 1
/-- Channels of stream `k`. -/
def State.streamChannels (s : State) (k : Nat) : Nat := byteAt (s.streamEntryAt k) 3

/-- The key of a source in the layout of Table 11.1, channel apart. -/
abbrev soundKey (kind num : Nat) : Nat := kind * 65536 + num

/-- SOURCE of a channel entry. -/
abbrev chSource (b : List Byte) : Nat := leAt b 0 4
/-- KIND of a channel entry (Table 11.1). -/
abbrev chKind (b : List Byte) : Nat := byteAt b 3
/-- NUMBER of a channel entry. -/
abbrev chNumber (b : List Byte) : Nat := leAt b 1 2
/-- CHANNEL of a channel entry. -/
abbrev chChannel (b : List Byte) : Nat := byteAt b 0
/-- ENABLE of a channel entry. -/
abbrev chOn (b : List Byte) : Bool := bit (byteAt b 4) 0
/-- MUTE of a channel entry. -/
abbrev chMute (b : List Byte) : Bool := bit (byteAt b 4) 1
/-- AUTO_ALIGN of a channel entry. -/
abbrev chAlign (b : List Byte) : Bool := bit (byteAt b 4) 2
/-- XFADE of a channel entry. -/
abbrev chXfade (b : List Byte) : Bool := bit (byteAt b 4) 3
/-- GAIN of a channel entry in 0.01 dB. -/
abbrev chGain (b : List Byte) : Int := signed 16 (leAt b 6 2)
/-- DELAY of a channel entry in sample frames. -/
abbrev chDelay (b : List Byte) : Nat := leAt b 8 4
/-- RAMP of a channel entry in ms. -/
abbrev chRamp (b : List Byte) : Nat := leAt b 12 2

/-- The source that a kind and number of a layer give: inputs and players have audio (R329). -/
def layerSound (kind num : Nat) : Nat :=
  match kind with | 1 => soundKey 2 num | 3 => soundKey 4 num | _ => 0

/-- What layer `k` showed in the base frame presented last (R329). -/
def State.heardOn (s : State) (k : Nat) : Nat × Nat × Nat :=
  (((s.canvasAt (k / 8)).heard)[k % 8]?).getD (0, 0, 0)

/-- The source an entry carries now: its own, or that of its layer (R325, R329). -/
def State.sourceOf (s : State) (b : List Byte) : Nat :=
  match chKind b with
  | 0 => 0
  | 5 => let (kind, num, _) := s.heardOn (chNumber b); layerSound kind num
  | k => soundKey k (chNumber b)

/-- Whether a source is transparent: a receiver of ST 2110-31 (R333). -/
def State.transparent (s : State) (source : Nat) : Bool :=
  source / 65536 == 3 && s.streamAes3 (source % 65536)

/-- Channels of a head's embedder (R328). -/
def State.headCapacity (s : State) (h : Nat) : Nat :=
  match s.rd Dict.HEAD_TYPE h with | 2 | 3 => 8 | 4 => 16 | _ => 0

/-- Whether layer `k` names a potentially protected source. -/
def State.layerProtected (s : State) (k : Nat) : Bool :=
  s.potentiallyProtected (s.rd Dict.LAYER_SOURCE_KIND k) (s.rd Dict.LAYER_SOURCE_NUM k)

/-- Entry `i` of a map of matrix channels. -/
def mapEntry (b : List Byte) (i : Nat) : Nat := leAt b (2 * i) 2

/-- The matrix channels that a destination takes; kinds 1 SAP, 4 sender, 6 head, 8 capture recorder; 0xFFFF is none. -/
def State.destChannels (s : State) (kind num : Nat) : List Nat :=
  match kind with
  | 1 => if s.flag Dict.SAP_ENABLE num && s.sapSends num then
      (List.range (s.sapSlots num)).map (mapEntry (s.dom Dict.SAP_TX_MAP num)) else []
  | 4 => if s.streamOn (64 + num) then
      (List.range (s.streamChannels (64 + num))).map (fun i => leAt (s.streamEntryAt (64 + num)) 18 2 + i) else []
  | 8 =>
    let c := s.captureAt num
    if c.clip = 0 then [] else (List.range (s.clipAt (c.clip - 1)).audioChannels).map (fun i => c.first + i)
  | _ => (List.range (s.headCapacity num)).map (fun i =>
      mapEntry (s.dom Dict.AUDIO_MATRIX_HEAD_MAP) (16 * num + i))

/-- Every destination. -/
abbrev allDests : List (Nat × Nat) :=
  (List.range 8).map (fun n => (1, n)) ++ (List.range 64).map (fun n => (4, n)) ++ allHeads.map (fun h => (6, h))
  ++ [(8, 0), (8, 1)]

/-- The destinations that take matrix channel `k`. -/
def State.destsOf (s : State) (k : Nat) : List (Nat × Nat) :=
  allDests.filter (fun d => (s.destChannels d.1 d.2).contains k)

/-- Whether a source of a channel entry is transparent, or follows one that is. -/
def State.entryTransparent (s : State) (b : List Byte) : Bool := chOn b && s.transparent (s.sourceOf b)

/-- Whether a channel entry names a potentially protected source, or a layer that names one (R144, R334). -/
def State.entryProtected (s : State) (b : List Byte) : Bool :=
  chOn b && (match chKind b with
    | 2 => s.potentiallyProtected 1 (chNumber b)
    | 5 => s.layerProtected (chNumber b)
    | _ => false)

/-- Whether a destination may take protected content: an HDMI or DP head that is permitted (R334). -/
def State.destPermitted (s : State) (d : Nat × Nat) : Bool :=
  d.1 == 6 && (s.rd Dict.HEAD_TYPE d.2 == 2 || s.rd Dict.HEAD_TYPE d.2 == 3) && s.permitted d.2

/-- Whether a destination may take a transparent channel (R333). -/
def State.destTransparent (s : State) (d : Nat × Nat) : Bool :=
  d.1 == 1 || (d.1 == 4 && s.streamAes3 (64 + d.2))

/-- What refuses that channel `k` feeds destination `d` (R333, R334). -/
def State.feedRefusal (s : State) (k : Nat) (d : Nat × Nat) : Option Nat :=
  let b := s.channelEntryAt k
  if s.entryTransparent b && !s.destTransparent d then some 0x73
  else if s.entryProtected b && !s.destPermitted d then some 0x16 else none

/-- The first refusal among the destinations of a channel. -/
def State.channelRefusal (s : State) (k : Nat) : Option Nat := (s.destsOf k).findSome? (s.feedRefusal k)

/-- The first refusal among the channels of a destination. -/
def State.destRefusal (s : State) (kind num : Nat) : Option Nat :=
  ((s.destChannels kind num).filter (fun k => decide (k < 256))).findSome? (fun k => s.feedRefusal k (kind, num))

/-- The first refusal among the destinations of the channels that take stream receiver `n` (R333). -/
def State.receiverRefusal (s : State) (n : Nat) : Option Nat :=
  ((List.range 256).filter (fun k => let b := s.channelEntryAt k; chOn b && chKind b == 3 && chNumber b == n)).findSome?
    s.channelRefusal

/-- Whether a channel that follows layer `k` feeds a destination that may not take protected content (R334). -/
def State.layerFeedsOut (s : State) (k : Nat) : Bool :=
  (List.range 256).any (fun j =>
    let b := s.channelEntryAt j
    chOn b && chKind b == 5 && chNumber b == k && (s.destsOf j).any (fun d => !s.destPermitted d))

end Sys2Proof.Machine
end

