-- ==== Sys2Proof/Machine/TileOps.lean ====
section
/-! DEFINITION. The tile map's entries, the samples and packets of a tile, and the output rates of heads on
a port (R153, R266 to R279). -/
namespace Sys2Proof.Machine
open Sys2Proof

/-- A tile-map entry (Table 9.6). -/
structure TileEntry where
  tile : Nat
  port : Nat
  alt : Nat
  canvas : Nat
  orientation : Nat
  x : Nat
  y : Nat
  w : Nat
  h : Nat
  pattern : Nat
  hem : Nat
  calib : Nat
  gamma : Nat
  seamX : Int
  seamY : Int
  flags : Nat
  mac : Nat
  format : Nat
deriving DecidableEq, Repr

/-- The fields of an entry's bytes. -/
def TileEntry.ofBytes (b : List Byte) : TileEntry where
  tile := leAt b 0 2
  port := byteAt b 2
  alt := byteAt b 3
  canvas := byteAt b 4
  orientation := byteAt b 5
  x := leAt b 6 2
  y := leAt b 8 2
  w := leAt b 10 2
  h := leAt b 12 2
  pattern := byteAt b 14
  hem := byteAt b 15
  calib := leAt b 16 2
  gamma := byteAt b 18
  seamX := signed 8 (byteAt b 19)
  seamY := signed 8 (byteAt b 20)
  flags := byteAt b 21
  mac := leAt b 22 6
  format := byteAt b 28

/-- FLAGS bits: VALID, ENCRYPT, RX_CALIB, NO_STATUS, CALIBRATE. -/
def TileEntry.valid (e : TileEntry) : Bool := bit e.flags 0
/-- ENCRYPT. -/
def TileEntry.encrypt (e : TileEntry) : Bool := bit e.flags 1
/-- RX_CALIB. -/
def TileEntry.rxCalib (e : TileEntry) : Bool := bit e.flags 2
/-- NO_STATUS. -/
def TileEntry.noStatus (e : TileEntry) : Bool := bit e.flags 3
/-- CALIBRATE. -/
def TileEntry.calibrate (e : TileEntry) : Bool := bit e.flags 4

/-- The native raster W' × H' (R270). -/
def TileEntry.native (e : TileEntry) : Nat × Nat :=
  if e.orientation % 2 = 1 then (e.h, e.w) else (e.w, e.h)

/-- Canvas offset of native pixel (u, v) (Table 9.7). -/
def TileEntry.orient (e : TileEntry) (u v : Nat) : Nat × Nat :=
  match e.orientation with
  | 0 => (u, v)
  | 1 => (v, e.h - 1 - u)
  | 2 => (e.w - 1 - u, e.h - 1 - v)
  | 3 => (e.w - 1 - v, u)
  | 4 => (e.w - 1 - u, v)
  | 5 => (v, u)
  | 6 => (u, e.h - 1 - v)
  | _ => (e.w - 1 - v, e.h - 1 - u)

/-- Bytes per pixel of a payload format (Table 9.5). -/
def payloadBytes (f : Nat) : Nat := if f = 1 then 3 else if f = 2 then 4 else 6

/-- Bits per component of the tile's samples (R272). -/
def TileEntry.sampleBits (e : TileEntry) : Nat := if e.format = 1 then 8 else if e.format = 2 then 10 else 16

/-- Bytes of one PIXELS line with its Hem (R271). -/
def TileEntry.lineBytes (e : TileEntry) : Nat := (e.native.1 + 2 * e.hem) * payloadBytes e.format

/-- Lines of a tile's frame with its Hem (R271). -/
def TileEntry.frameLines (e : TileEntry) : Nat := e.native.2 + 2 * e.hem

/-- Whether packets of the tile on port `p` carry a tag (Tables 9.3 and 9.4, R280). -/
def State.tagged (s : State) (p : Nat) (encrypt : Bool) : Bool :=
  encrypt && s.rd Dict.PTL_GENERATION 0 p == 2 && s.rd Dict.PTL_KEY_STATE == 1

/-- The most lines a packet of the tile carries on port `p` (R276). -/
def State.linesPerPacket (s : State) (e : TileEntry) (p : Nat) : Nat :=
  min 255 ((s.rd Dict.PORT_MTU p - 34 - (if s.tagged p e.encrypt then 16 else 0)) / max 1 e.lineBytes)

/-- First line and number of lines of each packet of a tile's frame on a port (R276). -/
def State.tilePackets (s : State) (e : TileEntry) (p : Nat) : List (Nat × Nat) :=
  let n := s.linesPerPacket e p
  if n = 0 then []
  else (List.range (ceilDiv e.frameLines n)).map (fun i => (i * n, min n (e.frameLines - i * n)))

/-- Bytes on the wire of a packet with `payload` bytes: Ethernet and PTL headers, FCS, preamble, delimiter,
gap and tag (R266, R279). -/
def State.wireBytes (s : State) (p payload : Nat) (encrypt : Bool) : Nat :=
  54 + payload + (if s.tagged p encrypt then 16 else 0)

/-! ### Samples (R272) -/

/-- A stored slot frame read at a quarter-pixel place, clamped to its edges (R272). -/
def bilinear4 (r : Raster) (get : Px → Px) (qx qy : Int) : Px :=
  let cx (v : Int) : Nat := (clampInt 0 (r.width - 1 : Nat) v).toNat
  let cy (v : Int) : Nat := (clampInt 0 (r.height - 1 : Nat) v).toNat
  let a := (qx % 4).toNat
  let b := (qy % 4).toNat
  let p (i j : Int) : Px := get (r.at (cx (qx / 4 + i)) (cy (qy / 4 + j)))
  let comp (g : Px → Nat) : Nat :=
    ((4 - a) * (4 - b) * g (p 0 0) + a * (4 - b) * g (p 1 0) + (4 - a) * b * g (p 0 1)
      + a * b * g (p 1 1) + 8) / 16
  ⟨comp Px.r, comp Px.g, comp Px.b, 65535⟩

/-- One component of a calibrated sample (R273). -/
def calibrated (cal : List Byte) (r : Nat) (p : Px) : Nat :=
  let m (k : Nat) : Int := signed 16 (leAt cal (6 * r + 2 * k) 2)
  let o : Int := signed 16 (leAt cal (18 + 2 * r) 2)
  (clampInt 0 65535 ((m 0 * p.r + m 1 * p.g + m 2 * p.b + o * 65535 + 4096) / 8192)).toNat

/-- A native sample at (u, v), `u` and `v` counted from the first Hem pixel (R271, R272). -/
def State.tileSample (s : State) (e : TileEntry) (format : Nat) (r : Raster) (i j : Nat) : Px :=
  let (w, h) := e.native
  let u := min (i - e.hem) (w - 1)
  let v := min (j - e.hem) (h - 1)
  let (dx, dy) := e.orient u v
  let p := bilinear4 r (Px.extended format) (4 * (e.x + dx : Nat) + e.seamX) (4 * (e.y + dy : Nat) + e.seamY)
  let cal := s.calibAt e.calib
  let p := if e.calibrate && !e.rxCalib then ⟨calibrated cal 0 p, calibrated cal 1 p, calibrated cal 2 p, p.a⟩
    else p
  let p := if e.gamma ≠ 0xFF ∧ e.rxCalib = false then
      let f := curveAt (s.lutEntry e.gamma)
      ⟨f p.r, f p.g, f p.b, p.a⟩
    else p
  let q (v : Nat) : Nat := reduceBits false e.sampleBits v 0 0 0
  ⟨q p.r, q p.g, q p.b, 0⟩

/-- The bytes of a sample in a payload format, in network byte order (Table 9.5). -/
def sampleBytes (format : Nat) (p : Px) : List Byte :=
  if format = 1 then leBytes 1 p.r ++ leBytes 1 p.g ++ leBytes 1 p.b
  else if format = 2 then beBytes 4 (p.r * 2 ^ 20 + p.g * 2 ^ 10 + p.b)
  else beBytes 2 p.r ++ beBytes 2 p.g ++ beBytes 2 p.b

/-- The payload of a PIXELS packet: lines `y0` to `y0 + n - 1` of the tile's frame (R267). -/
def State.pixelsPayload (s : State) (e : TileEntry) (format : Nat) (r : Raster) (y0 n : Nat) : List Byte :=
  (List.range n).flatMap (fun j => (List.range (e.native.1 + 2 * e.hem)).flatMap (fun i =>
    sampleBytes e.format (s.tileSample e format r i (y0 + j))))

/-! ### Rates on a port (R153, R278, R279) -/

/-- Whether a tile lies wholly inside its canvas: another is not sent (R269). -/
def State.tileInside (s : State) (e : TileEntry) : Bool :=
  decide (e.x + e.w ≤ s.rd Dict.CANVAS_WIDTH e.canvas ∧ e.y + e.h ≤ s.rd Dict.CANVAS_HEIGHT e.canvas)

/-- The tiles that head `h` sends on port `p`, as entries (R269). -/
def State.tilesOn (s : State) (h p : Nat) : List TileEntry :=
  ((s.headTiles h).map TileEntry.ofBytes).filter (fun e => s.tileInside e &&
    bit (s.rd Dict.HEAD_PORT_MASK h) p && (e.port == p || e.alt == p))

/-- Bits of a pixel that an output encoding and depth send (R244). -/
def encodedBits (enc depth : Nat) : Nat := if enc = 3 then 2 * depth else 3 * depth

/-- Bytes on port `p` of the nine CALIB packets of a tile, none without RX_CALIB (R286). -/
def State.calibBytes (s : State) (e : TileEntry) (p : Nat) : Nat :=
  if e.rxCalib then s.wireBytes p 25 e.encrypt + 8 * s.wireBytes p 1024 e.encrypt else 0

/-- Bytes that a TILE head sends on port `p` in a base frame: beacons, PIXELS, and the CALIB of every 1,024th base frame
spread over them (R279, R286). -/
def State.tileBytes (s : State) (h p : Nat) : Nat :=
  let slots := if s.allSlots h then List.range (s.headRate h) else [s.headRd h Dict.HEAD_SLOT_SELECT]
  let beacon := s.wireBytes p 48 true
  let tiles := s.tilesOn h p
  slots.length * beacon + (tiles.map (fun e =>
    (slots.filter (bit e.pattern)).length
      * ((s.tilePackets e p).map (fun k => s.wireBytes p (k.2 * e.lineBytes) e.encrypt)).foldl (· + ·) 0)).foldl
      (· + ·) 0
    + ceilDiv ((tiles.map (fun e => s.calibBytes e p)).foldl (· + ·) 0) 1024

/-- The output rate of head `h` on port `p` in bit/s (R153, R246, R279). -/
def State.headRateOn (s : State) (h p : Nat) : Nat :=
  let f := s.headRd h Dict.HEAD_FTG
  match s.rd Dict.HEAD_TYPE h with
  | 1 => if bit (s.rd Dict.HEAD_PORT_MASK h) p then 8 * s.tileBytes h p * nsPerS * s.ftgDen f / s.ftgNum f else 0
  | 5 => if s.rd Dict.HEAD_OUTPUT h = p then
      s.headRd h Dict.HEAD_H_ACTIVE * s.headRd h Dict.HEAD_V_ACTIVE
        * encodedBits (s.rd Dict.HEAD_OUT_ENCODING h) (s.rd Dict.HEAD_OUT_DEPTH h) * nsPerS * s.headDen h
        / s.headNum h
      else 0
  | _ => 0

/-- A write-back destination's fields (Table 7.3). -/
def wbField (d : List Byte) (off n : Nat) : Nat := leAt d off n

/-- The output rate of canvas `c`'s IP write-back destinations on port `p` in bit/s (R209, R210): 4:2:2 at
10 bits, at the base rate. -/
def State.wbRateOn (s : State) (c p : Nat) : Nat :=
  [0, 1].foldl (fun r k =>
    let d := s.dom Dict.CANVAS_WB_DESC c k
    if byteAt d 0 = 2 ∧ byteAt d 3 = p then
      r + wbField d 8 2 * wbField d 10 2 * 20 * nsPerS * s.ftgDen (s.canvasFtg c) / s.ftgNum (s.canvasFtg c)
    else r) 0

/-- The pixel path's output on port `p` in bit/s: enabled heads and the write-back of running canvases
(R153). -/
def State.pixelRate (s : State) (p : Nat) : Nat :=
  (allHeads.filter (fun h => s.flag Dict.HEAD_ENABLE h)).foldl (fun r h => r + s.headRateOn h p) 0
    + (allCanvases.filter (fun c => s.flag Dict.CANVAS_ENABLE c)).foldl (fun r c => r + s.wbRateOn c p) 0

/-- Whether the pixel path's output exceeds port `p`'s reservation (R153). -/
def State.pixelOver (s : State) (p reserve : Nat) : Bool :=
  decide (typeSpeed (s.rd Dict.PORT_TYPE p) * 1000000 * reserve < s.pixelRate p * 1000)

/-- When the last canvas line that a packet reads has been scanned, after the frame's line 0 (R276). -/
def State.packetReady (s : State) (h : Nat) (e : TileEntry) (k : Nat × Nat) : Nat :=
  let last := if e.orientation = 0 ∨ e.orientation = 4 then e.y + min (k.1 + k.2 - 1 - e.hem) (e.h - 1)
    else e.y + e.h - 1
  let read := (4 * (last : Int) + e.seamY + 3) / 4
  s.lineTime h (min (read.toNat + 1) (s.rd Dict.CANVAS_HEIGHT e.canvas))

/-- The packets that TILE head `h` sends on port `p` in a frame carrying `slot`, CALIB in every one: when each is ready after
the frame's start, and its bytes (R274, R276, R277, R286). -/
def State.framePackets (s : State) (h p slot : Nat) : List (Nat × Nat) :=
  if bit (s.rd Dict.HEAD_PORT_MASK h) p then
    let tiles := s.tilesOn h p
    (0, s.wireBytes p 48 true)
      :: (tiles.filter TileEntry.rxCalib).flatMap (fun e =>
        (0, s.wireBytes p 25 e.encrypt) :: List.replicate 8 (0, s.wireBytes p 1024 e.encrypt))
      ++ (tiles.filter (fun e => bit e.pattern slot)).flatMap (fun e =>
        (s.tilePackets e p).map (fun k => (s.packetReady h e k, s.wireBytes p (k.2 * e.lineBytes) e.encrypt)))
  else []

/-- Whether every packet of all TILE heads on port `p` leaves LINK_ALLOWANCE before the end of its head's frame, in frames
that carry slot `slot` (R278).  The frames of the heads are taken to start together (log 71). -/
def State.portInTime (s : State) (p slot : Nat) : Bool :=
  let speed := max 1 (typeSpeed (s.rd Dict.PORT_TYPE p))
  let heads := allHeads.filter (fun h => s.flag Dict.HEAD_ENABLE h && s.rd Dict.HEAD_TYPE h == 1)
  let all := heads.flatMap (fun h => (s.framePackets h p (slot % max 1 (s.headRd h Dict.HEAD_SLOTS))).map (fun k =>
    (k.1, k.2, s.headPeriod h)))
  ((sortBy (fun a b => decide (a.1 < b.1)) all).foldl (fun (t : Nat × Bool) k =>
    let left := max t.1 k.1 + ceilDiv (8000 * k.2.1) speed
    (left, t.2 && decide (left + s.rd Dict.PTL_LINK_ALLOWANCE * 1000 ≤ k.2.2))) (0, true)).2

/-- Whether the TILE heads on the ports of head `h` can send in time in every slot (R276, R278); slots of heads with
different SLOTS meet in all pairs within 24. -/
def State.sendsInTime (s : State) (h : Nat) : Bool :=
  (bitsSet (s.rd Dict.HEAD_PORT_MASK h) 48).all (fun p => (List.range 24).all (s.portInTime p))

/-- The first tile of head `h` whose line does not fit a port's MTU, by map entry (R276). -/
def State.misfitTile (s : State) (h : Nat) : Option Nat :=
  (s.tileMap.find? (fun kv =>
    let e := TileEntry.ofBytes kv.2
    e.valid && s.tileInside e && e.canvas == s.headCanvas h &&
      [e.port, e.alt].any (fun p => bit (s.rd Dict.HEAD_PORT_MASK h) p && s.linesPerPacket e p == 0))).map
    Prod.fst

end Sys2Proof.Machine
end

