-- ==== Sys2Proof/Machine/CommitOps.lean ====
section
/-! DEFINITION. Stitch commits: their scopes and validation sets, the rules that validation checks, aiming,
landing and superseding (R126 to R145, R159, and the rules of chapters 6 to 9 that a commit answers to). -/
namespace Sys2Proof.Machine
open Sys2Proof

/-- Key of a scope among the pending commits. -/
abbrev scopeKey (kind num : Nat) : Nat := kind * 64 + num

/-- Whether a register key is a STITCH field of a scope (R129). -/
def inScope (kind num key : Nat) : Bool :=
  (match entryAt (key / 256) (key % 256) with | some e => e.apply == .stitch | none => false)
    && (if kind = 1 then key / 256 == 0x2C00 + num else inCanvasScope num key)

/-- The STITCH fields of a scope that any write has touched. -/
def State.scopeKeys (s : State) (kind num : Nat) : List Nat :=
  ((s.shadow.map Prod.fst ++ s.regs.map Prod.fst).filter (inScope kind num)).eraseDups
/-- The STITCH DOMAINs of a scope that any write has touched. -/
def State.scopeDoms (s : State) (kind num : Nat) : List Nat :=
  ((s.shadowDoms.map Prod.fst ++ s.doms.map Prod.fst).filter (inScope kind num)).eraseDups

/-- Whether head `h` sends a tile-map entry (R269). -/
def State.sendsEntry (s : State) (h : Nat) (b : List Byte) : Bool :=
  let e := TileEntry.ofBytes b
  e.valid && s.rd Dict.HEAD_TYPE h == 1 && s.headCanvas h == e.canvas
    && (bit (s.rd Dict.HEAD_PORT_MASK h) e.port || bit (s.rd Dict.HEAD_PORT_MASK h) e.alt)

/-- Tile-map entries whose shadow differs from the entry in force (R275). -/
def State.dirtyTiles (s : State) : List Nat :=
  ((s.tileShadow.map Prod.fst ++ s.tileMap.map Prod.fst).eraseDups).filter (fun k =>
    s.tileShadowAt k != s.tileEntryAt k)
/-- Calibration entries whose shadow differs from the entry in force (R275). -/
def State.dirtyCalibs (s : State) : List Nat :=
  ((s.calibShadow.map Prod.fst ++ s.calib.map Prod.fst).eraseDups).filter (fun k =>
    s.calibShadowAt k != s.calibAt k)

/-- Dirty tile-map entries in the scope of head `h` (R275). -/
def State.headDirtyTiles (s : State) (h : Nat) : List Nat :=
  s.dirtyTiles.filter (fun k => s.sendsEntry h (s.tileShadowAt k) || s.sendsEntry h (s.tileEntryAt k))

/-- Whether head `h` sends a tile that names calibration entry `k` (R275). -/
def State.usesCalib (s : State) (h k : Nat) : Bool :=
  (s.tileMap ++ s.tileShadow).any (fun kv => s.sendsEntry h kv.2 && (TileEntry.ofBytes kv.2).calib == k)
/-- Dirty calibration entries in the scope of head `h` (R275). -/
def State.headDirtyCalibs (s : State) (h : Nat) : List Nat := s.dirtyCalibs.filter (s.usesCalib h)

/-- SHADOW_DIRTY of a scope (R127, R275). -/
def State.shadowDirty (s : State) (kind num : Nat) : Bool :=
  (s.scopeKeys kind num).any (fun k => Store.read dictDefault s.shadow k != s.regAt k)
    || (s.scopeDoms kind num).any (fun k => Store.read domDefault s.shadowDoms k != Store.read domDefault s.doms k)
    || (kind == 1 && (!(s.headDirtyTiles num).isEmpty || !(s.headDirtyCalibs num).isEmpty))

/-- Key of a held write of tile-map entry `k`, above those of registers (R25, R275). -/
abbrev heldTile (k : Nat) : Nat := 0x2E0001 * 65536 + k
/-- Key of a held write of calibration entry `k`. -/
abbrev heldCalib (k : Nat) : Nat := 0x2E2001 * 65536 + k

/-- A shadow write that was held back applied to its shadow (R25). -/
def State.applyHeld (s : State) (d : Deferred) : State :=
  match d.domain with
  | some b =>
    if d.key / 65536 = 0x2E0001 then s.putTileShadow (d.key % 65536) b
    else if d.key / 65536 = 0x2E2001 then s.putCalibShadow (d.key % 65536) b
    else s.setDomShadow d.key b
  | none => s.setShadow d.key d.value

/-- Whether head `h` sends tile-map entry `k`: as it is in force, as its shadow stands, or as it is written (R275). -/
def State.sendsTile (s : State) (h k : Nat) (b : List Byte) : Bool :=
  s.sendsEntry h b || s.sendsEntry h (s.tileShadowAt k) || s.sendsEntry h (s.tileEntryAt k)

/-- Whether a commit covers a STITCH field, a tile-map entry or a calibration entry (R25, R129, R275). -/
def State.covers (s : State) (m : Commit) (key : Nat) (b : List Byte) : Bool :=
  if key / 65536 = 0x2E0001 then (bitsSet m.heads 32).any (fun h => s.sendsTile h (key % 65536) b)
  else if key / 65536 = 0x2E2001 then (bitsSet m.heads 32).any (fun h => s.usesCalib h (key % 65536))
  else (bitsSet m.heads 32).any (fun h => inScope 1 h key) || (bitsSet m.canvases 8).any (fun c => inScope 2 c key)

/-- Whether the commit that is being validated covers a write (R25, R130). -/
def State.validatesOver (s : State) (key : Nat) (b : List Byte) : Bool :=
  match s.validating.head? with | some m => s.covers m key b | none => false

/-- Whether a shadow write must wait: the validation covers it, or an earlier write of the same field already waits, which
it must not overtake (R25). -/
def State.holds (s : State) (key : Nat) (b : List Byte) : Bool :=
  s.validatesOver key b || s.deferredWrites.any (fun d => d.key == key)

/-- A commit of the shadows as they stand (R130). -/
def State.copyShadows (s : State) (kind num sess heads canvases udp : Nat) (grouped : Bool)
    (retime : Option (List Byte)) : Commit :=
  let scopes := if kind = 3 then
      (bitsSet heads 32).map (fun h => (1, h)) ++ (bitsSet canvases 8).map (fun c => (2, c))
    else [(kind, num)]
  let hs := scopes.filterMap (fun x => if x.1 = 1 then some x.2 else none)
  { kind := kind, num := num, sess := sess, receipt := s.timebase, ack := 0
    vals := scopes.flatMap (fun x =>
      (s.scopeKeys x.1 x.2).map (fun k => (k, Store.read dictDefault s.shadow k)))
    doms := scopes.flatMap (fun x =>
      (s.scopeDoms x.1 x.2).map (fun k => (k, Store.read domDefault s.shadowDoms k)))
    tiles := (hs.flatMap s.headDirtyTiles).eraseDups.map (fun k => (k, s.tileShadowAt k))
    calibs := (hs.flatMap s.headDirtyCalibs).eraseDups.map (fun k => (k, s.calibShadowAt k))
    heads := heads, canvases := canvases, grouped := grouped, retime := retime, aim := 0, land := 0
    udpSess := udp }

/-- A commit as it is received: the shadows of its scope copied, with the writes that arrived before it and are still
held back by another validation (R25, R130, log 41). -/
def State.receive (s : State) (kind num sess heads canvases udp : Nat) (grouped : Bool)
    (retime : Option (List Byte)) : Commit :=
  (s.deferredWrites.foldl State.applyHeld s).copyShadows kind num sess heads canvases udp grouped retime

/-- The part of a commit that belongs to one scope. -/
def Commit.only (m : Commit) (s : State) (kind num : Nat) : Commit :=
  { m with
    kind := kind, num := num
    vals := m.vals.filter (fun e => inScope kind num e.1)
    doms := m.doms.filter (fun e => inScope kind num e.1)
    tiles := if kind = 1 then m.tiles.filter (fun e => s.sendsEntry num e.2 || s.sendsEntry num (s.tileEntryAt e.1))
      else []
    calibs := if kind = 1 then m.calibs.filter (fun e => s.usesCalib num e.1) else [] }

/-- A tile-map entry put into force; what its receiver reported is forgotten when it names another tile or other
ports (R269, R285). -/
def State.enforceTile (s : State) (k : Nat) (b : List Byte) : State :=
  let e := TileEntry.ofBytes b
  let o := TileEntry.ofBytes (s.tileEntryAt k)
  let s := s.putTileEntry k b
  if e.valid && o.valid && e.tile == o.tile && e.port == o.port && e.alt == o.alt then s else s.putTile k Tile.init

/-- A validation set put into force. -/
def State.force (s : State) (m : Commit) : State :=
  let s := m.vals.foldl (fun s e => s.setReg e.1 e.2) s
  let s := m.doms.foldl (fun s e => s.setDom e.1 e.2) s
  let s := m.tiles.foldl (fun s e => s.enforceTile e.1 e.2) s
  m.calibs.foldl (fun s e => s.putCalib e.1 e.2) s

/-! ### The rules of a canvas commit -/

/-- Whether a coefficient bank is loaded (R167, R169). -/
def State.bankLoaded (s : State) (b : Nat) : Bool := bit (s.rd Dict.COEFF_BANKS_BANK_LOADED) b
/-- Whether a LUT of the library is loaded (R191). -/
def State.lutLoaded (s : State) (k : Nat) : Bool := bit (s.rd Dict.COLOUR_LUTS_LUT_LOADED) k

/-- Whether a write-back descriptor is valid on canvas `c` (R209, R210). -/
def State.wbValid (s : State) (c k : Nat) : Bool :=
  let d := s.dom Dict.CANVAS_WB_DESC c k
  let kind := byteAt d 0
  let x := leAt d 4 2
  let y := leAt d 6 2
  let w := leAt d 8 2
  let h := leAt d 10 2
  let fits := decide (x + w ≤ s.rd Dict.CANVAS_WIDTH c ∧ y + h ≤ s.rd Dict.CANVAS_HEIGHT c ∧ 16 ≤ w ∧ 16 ≤ h)
  let slot := decide (byteAt d 1 < s.canvasSlots c)
  let region := s.dramSetting 4 * 1048576
  let a0 := leAt d 12 8
  let a1 := leAt d 20 8
  let stride := leAt d 28 4
  match kind with
  | 0 => true
  | 1 => fits && slot && decide (byteAt d 2 ≤ 4) && stride % 64 == 0
      && decide (w * bytesPerPixel (byteAt d 2) ≤ stride ∧ a0 + stride * h ≤ region ∧ a1 + stride * h ≤ region
        ∧ (a0 + stride * h ≤ a1 ∨ a1 + stride * h ≤ a0))
  | 2 => fits && slot && byteAt d 2 == 0 && decide (byteAt d 3 < 48 ∧ w ≤ 8192 ∧ h ≤ 4320
        ∧ 96 ≤ byteAt d 18 ∧ byteAt d 18 ≤ 127)
  | 3 => fits && slot && decide (byteAt d 2 ≤ 4 ∧ leAt d 32 2 ≤ 4095)
  | _ => false

/-- KiB of SCAN of an IP write-back's double buffer, at 4 bytes per pixel (R210, R211). -/
def wbKib (d : List Byte) : Nat := stripeKib (2 * leAt d 8 2 * leAt d 10 2 * 4)
/-- 2 MiB units of a POCKET write-back's double buffer (R210). -/
def wbUnits (d : List Byte) : Nat := units2M (2 * leAt d 8 2 * leAt d 10 2 * bytesPerPixel (byteAt d 2))

/-- A field of WB_STATE set for destination `k` (Table 7.6). -/
def State.setWbState (s : State) (c k v : Nat) : State :=
  let w := s.rd Dict.CANVAS_WB_STATE c
  let other := if k = 0 then w / 4 * 4 else w % 4
  s.wr Dict.CANVAS_WB_STATE (other + (if k = 0 then v else 4 * v)) c

/-- KiB of SCAN and units of the pool that write-back `k` of canvas `c` needs (R210). -/
def State.wbNeed (s : State) (c k : Nat) : Nat × Nat :=
  let d := s.dom Dict.CANVAS_WB_DESC c k
  (if byteAt d 0 = 2 then wbKib d else 0, if byteAt d 0 = 3 then wbUnits d else 0)

/-- Whether the write-back buffers of canvas `c` can be allocated, both together (R136 step 4, R210). -/
def State.wbAllocates (s : State) (c : Nat) : Bool :=
  let sum (f : Nat → Nat) : Nat := f 0 + f 1
  let kib := sum (fun k => (s.wbNeed c k).1)
  let units := sum (fun k => (s.wbNeed c k).2)
  (kib == 0 || decide (usedKib s.scanAlloc - sum (fun k => s.scanAt (0x200 + 2 * c + k)) + kib ≤ s.scanMib * 1024))
    && (units == 0 || decide (usedKib s.dram.alloc - sum (fun k => s.poolAt (poolWriteBack c k)) + units ≤ s.poolUnits))

/-- The write-back buffers of canvas `c` as a group's validation holds them: taken, or freed (R136, R138). -/
def State.holdWriteBack (s : State) (c : Nat) (take : Bool) : State :=
  [0, 1].foldl (fun s k =>
    let n := if take then s.wbNeed c k else (0, 0)
    (s.takeScan (0x200 + 2 * c + k) n.1).takePool (poolWriteBack c k) n.2) s

/-- ORDER names each layer once, with L0 at position 0 (R201). -/
def orderValid (order : Nat) : Bool :=
  let l := (List.range 8).map (fun k => field order (4 * k + 3) (4 * k))
  l.head? == some 0 && (List.range 8).all (fun k => l.contains k)

/-- Whether a PLACE entry is within its ranges; IMAGE 0xFF leaves the rest unchecked (R215). -/
def placeValid (b : List Byte) : Bool :=
  let p := Placement.ofBytes b
  p.image == 0xFF || (decide (p.image < 16) && [1, 2, 4, 8].contains p.scale
    && decide (1 ≤ p.repX ∧ p.repX ≤ 16 ∧ 1 ≤ p.repY ∧ p.repY ≤ 16))

/-- The rules of one layer (validation step 2: R169, R191, R198 to R200, R207). -/
def State.layerRules (s : State) (c l : Nat) : List (Bool × Refuse) :=
  let k := layerNo c l
  let kind := s.rd Dict.LAYER_SOURCE_KIND k
  let num := s.rd Dict.LAYER_SOURCE_NUM k
  let full := 2 ^ s.canvasSlots c - 1
  let on := s.layerOn k
  [(l == 0 && !s.flag Dict.LAYER_ENABLE k, .field 0x42 Dict.LAYER_ENABLE k),
   (kind != 1 && decide (32 ≤ num), .field 0x12 Dict.LAYER_SOURCE_NUM k),
   (on && decide (1 ≤ kind ∧ kind ≤ 2) && (match s.sourceRaster kind num with
      | some r => !s.cropFits k r | none => false), .field 0x12 Dict.LAYER_CROP_X k),
   (on && kind == 3 && decide (num < 32) && (match s.sourceRaster 3 num with
      | some r => !s.cropFits k r | none => false), .field 0x12 Dict.LAYER_CROP_X k),
   (l == 0 && s.rd Dict.LAYER_OPACITY k != 0xFFFF, .field 0x42 Dict.LAYER_OPACITY k),
   (l == 0 && s.rd Dict.LAYER_ALPHA_MODE k != 1, .field 0x42 Dict.LAYER_ALPHA_MODE k),
   (l == 0 && s.rd Dict.LAYER_BLEND_CLASS k == 1, .field 0x42 Dict.LAYER_BLEND_CLASS k),
   (l == 0 && s.rd Dict.LAYER_SLOT_MASK k &&& full != full, .field 0x42 Dict.LAYER_SLOT_MASK k),
   (kind == 3 && s.rd Dict.LAYER_POCKET_SLATE k == num, .field 0x12 Dict.LAYER_POCKET_SLATE k),
   (!s.bankLoaded (s.rd Dict.LAYER_H_BANK k), .field 0x32 Dict.LAYER_H_BANK k),
   (!s.bankLoaded (s.rd Dict.LAYER_V_BANK k), .field 0x32 Dict.LAYER_V_BANK k),
   (decide (0 < s.rd Dict.LAYER_LUT3D k)
      && !bit (s.rd Dict.COLOUR_LUTS_LUT3D_STATE) (s.rd Dict.LAYER_LUT3D k - 1), .field 0x32 Dict.LAYER_LUT3D k)]

/-- Whether a canvas has a destination that protected content may not reach (R144, R145). -/
def State.unpermitted (s : State) (c : Nat) : Bool :=
  (s.headsOf c).any (fun h => !s.permitted h)
    || [0, 1].any (fun k => byteAt (s.dom Dict.CANVAS_WB_DESC c k) 0 != 0)

/-- The rules of a canvas commit in the order of R136, over the state with its set in force. -/
def State.canvasRules (s : State) (c : Nat) : List (Bool × Refuse) :=
  [(!placeValid (s.dom Dict.OVERCOAT_PLACE 0 c), .field 0x12 Dict.OVERCOAT_PLACE 0 c),
   (s.rd Dict.COLOUR_LUTS_TONE_MODE 0 c == 2 && !s.lutLoaded (s.rd Dict.COLOUR_LUTS_TONE_LUT 0 c),
      .field 0x32 Dict.COLOUR_LUTS_TONE_LUT 0 c),
   (s.rd Dict.COLOUR_LUTS_OUTPUT_TRANSFER 0 c == 4 && !s.lutLoaded (s.rd Dict.COLOUR_LUTS_ENCODE_LUT 0 c),
      .field 0x32 Dict.COLOUR_LUTS_ENCODE_LUT 0 c),
   (!orderValid (s.rd Dict.CANVAS_ORDER c), .field 0x41 Dict.CANVAS_ORDER c),
   (!s.wbValid c 0, .field 0x43 Dict.CANVAS_WB_DESC c 0),
   (!s.wbValid c 1, .field 0x43 Dict.CANVAS_WB_DESC c 1)]
  ++ (List.range 8).flatMap (s.layerRules c)
  ++ (List.range 8).map (fun l => ((s.relief (layerNo c l)).isNone, .field 0x13 Dict.LAYER_V_TAPS (layerNo c l)))
  ++ [(!s.wbAllocates c, .field 0x14 Dict.CANVAS_WB_DESC c)]
  ++ (List.range 8).map (fun l => (s.layerProtected (layerNo c l) && (s.unpermitted c || s.layerFeedsOut (layerNo c l)),
      .field 0x16 Dict.LAYER_SOURCE_NUM (layerNo c l)))
  ++ (List.range 48).map (fun p => (decide (0 < s.wbRateOn c p) && s.pixelOver p (s.rd Dict.ROUTE_CONTROL_RESERVE 0 p),
      .field 0x21 Dict.CANVAS_WB_DESC c))

/-! ### The rules of a head -/

/-- The heads of a canvas that are not clones, other than `h` (R236). -/
def State.otherHeads (s : State) (c h : Nat) : List Nat :=
  (s.headsOf c).filter (fun g => g != h && s.rd Dict.HEAD_CLONE_OF g == 0xFF)

/-- Whether head `h` differs from another head of its canvas (R236). -/
def State.headDiffers (s : State) (h : Nat) : Bool :=
  let c := s.headCanvas h
  decide (c < 8) && s.rd Dict.HEAD_CLONE_OF h == 0xFF && (s.otherHeads c h).any (fun g =>
    [Dict.HEAD_FORMAT, Dict.HEAD_BUFFER_MODE, Dict.HEAD_FTG, Dict.HEAD_SLOTS].any (fun e => s.rd e g != s.rd e h))

/-- PHASE of the head of a canvas that leads it among its enabled heads, 0 when none does (R131). -/
def State.leadPhase (s : State) (c : Nat) : Nat :=
  match s.leadHead c with | some h => s.rd Dict.HEAD_PHASE h | none => 0

/-- Whether every enabled head of canvas `c` reaches its VB0 before the buffer it scans is written again
(R238). -/
def State.scansInTime (s : State) (c : Nat) : Bool :=
  (s.headsOf c).all (fun h =>
    let n := s.headRd h Dict.HEAD_SLOTS
    let b := s.basePeriod (s.headRd h Dict.HEAD_FTG)
    let room := if s.allSlots h then (2 * n - 1) * b / n else (n + s.headRd h Dict.HEAD_SLOT_SELECT) * b / n
    decide (s.rd Dict.HEAD_PHASE h + s.vb0Offset h ≤ room + s.leadPhase c))

/-- Whether a check window of head `h` is valid (R248, Table 8.7). -/
def State.windowValid (s : State) (h : Nat) (b : List Byte) : Bool :=
  let x := leAt b 2 2
  let y := leAt b 4 2
  let w := leAt b 6 2
  let l := leAt b 8 2
  !bit (byteAt b 0) 0
    || ((decide (byteAt b 1 < 8) || byteAt b 1 == 0xFF) && decide (1 ≤ w ∧ w ≤ 8192 ∧ 1 ≤ l ∧ l ≤ 8192)
      && (if s.rd Dict.HEAD_TYPE h = 1 then
            ((s.headTiles h).map TileEntry.ofBytes).any (fun e =>
              decide (e.x ≤ x ∧ x + w ≤ e.x + e.w ∧ e.y ≤ y ∧ y + l ≤ e.y + e.h))
          else decide (x + w ≤ s.headRd h Dict.HEAD_H_ACTIVE ∧ y + l ≤ s.headRd h Dict.HEAD_V_ACTIVE)))

/-- The check windows of a head, as entries. -/
def State.windows (s : State) (h : Nat) : List (List Byte) :=
  (List.range 16).map (fun k => ((s.dom Dict.HEAD_CHECK_WINDOWS h).drop (16 * k)).take 16)

/-- The rules that a TILE head's canvas and ports must meet (R242, R260, R261, R276, R278). -/
def State.tileHeadRules (s : State) (h : Nat) : List (Bool × Refuse) :=
  let c := s.headCanvas h
  let is := s.rd Dict.HEAD_TYPE h == 1
  let ports := bitsSet (s.rd Dict.HEAD_PORT_MASK h) 48
  let p := s.parentOf h
  [(is && ports.any (fun p => s.rd Dict.PTL_GENERATION 0 p == 0), .field 0x51 Dict.HEAD_PORT_MASK h),
   (is && decide (c < 8) && (s.headRd h Dict.HEAD_H_ACTIVE != s.rd Dict.CANVAS_WIDTH c
      || s.headRd h Dict.HEAD_V_ACTIVE != s.rd Dict.CANVAS_HEIGHT c), .field 0x51 Dict.HEAD_CANVAS h),
   (is && s.rd Dict.HEAD_VIEW_X p != 0, .field 0x51 Dict.HEAD_VIEW_X p),
   (is && s.rd Dict.HEAD_VIEW_Y p != 0, .field 0x51 Dict.HEAD_VIEW_Y p),
   (is && s.rd Dict.HEAD_VIEW_STEP p != 1, .field 0x51 Dict.HEAD_VIEW_STEP p),
   (is && decide (c < 8) && s.canvasSlots c != 1 && s.headRd h Dict.HEAD_SLOT_SELECT != 0xFF,
      .field 0x51 Dict.HEAD_SLOT_SELECT h),
   (is && decide (c < 8) && s.canvasSlots c != 1
      && ports.any (fun p => s.rd Dict.PTL_GENERATION 0 p == 1), .field 0x51 Dict.HEAD_CANVAS h),
   (is && decide (c < 8) && (s.misfitTile h).isSome,
      { Refuse.field 0x51 Dict.HEAD_CANVAS h with entry := (s.misfitTile h).getD 0 }),
   (is && decide (c < 8) && !s.sendsInTime h, .field 0x51 Dict.HEAD_CANVAS h)]

/-- An entry that two enabled heads would send (R269). -/
def State.sentTwice (s : State) (h : Nat) : Bool :=
  s.tileMap.any (fun kv => s.sendsEntry h kv.2
    && allHeads.any (fun g => g != h && s.flag Dict.HEAD_ENABLE g && s.sendsEntry g kv.2))

/-- 2 MiB units that a head-buffer allocation takes of the pool: in OPEN mode its parity is charged with it (R353). -/
def State.headUnits (s : State) (bytes : Nat) : Nat :=
  if s.dramSetting 3 = 1 then units2M bytes else ceilDiv (8 * bytes) (7 * 2097152)

/-- KiB of SCAN or units of the pool that canvas `c`'s buffers need with its buffer head (R237). -/
def State.bufferNeed (s : State) (c : Nat) : Nat × Nat :=
  match s.bufferHead c with
  | none => (0, 0)
  | some h =>
    let bytes := s.canvasBytes c (s.rd Dict.HEAD_FORMAT h)
    if s.rd Dict.HEAD_BUFFER_MODE h = 0 then (stripeKib bytes, 0) else (0, s.headUnits bytes)

/-- KiB of SCAN for the scan FIFO of head `h`, none for an ON-CHIP head (R240). -/
def State.fifoNeed (s : State) (h : Nat) : Nat :=
  if s.flag Dict.HEAD_ENABLE h ∧ s.headRd h Dict.HEAD_BUFFER_MODE = 1 then
    s.fifoKib h (s.headRd h Dict.HEAD_H_ACTIVE)
  else 0

/-- Whether the buffers of canvas `c` can be allocated (R237). -/
def State.buffersFit (s : State) (c : Nat) : Bool :=
  let (kib, units) := s.bufferNeed c
  s.scanFits c kib && s.poolFits (poolCanvas c) units

/-- Whether the scan FIFO of head `h` can be allocated beside its canvas's buffers (R240). -/
def State.fifoFits (s : State) (h : Nat) : Bool :=
  let c := s.headCanvas h
  let s := if c < 8 then s.takeScan c (s.bufferNeed c).1 else s
  s.scanFits (0x100 + h) (s.fifoNeed h)

/-- The scan FIFO of head `h` taken or freed (R240, R256). -/
def State.takeFifo (s : State) (h : Nat) : State :=
  (s.takeScan (0x100 + h) (s.fifoNeed h)).wr Dict.HEAD_STATUS_FIFO_SIZE (s.fifoNeed h) h

/-- The configuration in force, and what each pending commit will make of it (R136 step 4). -/
def State.futures (s : State) : List State := s :: s.pendingCommits.map (fun e => s.force e.2)

/-- The buffers of every canvas taken or freed as its enabled heads need them, now or with a pending commit
(R136 step 4, R237). -/
def State.takeBuffers (s : State) : State :=
  allCanvases.foldl (fun s c =>
    let (kib, units) := (s.futures.map (fun f => f.bufferNeed c)).foldl
      (fun a b => (max a.1 b.1, max a.2 b.2)) (0, 0)
    let s := if (s.canvasAt c).noBuffers && s.poolFits (poolCanvas c) units then
        s.modCanvas c (fun v => { v with noBuffers := false }) else s
    let s := (s.takeScan c kib).takePool (poolCanvas c) units
    if kib = 0 ∧ units = 0 then s.modCanvas c (fun v => { v with buffers := [], front := [] }) else s) s

/-- The demand of each canvas that its pending commits will bring (R39). -/
def State.noteWanted (s : State) : State :=
  { s with gov := { s.gov with
    wanted := allCanvases.foldl (fun m c => Store.write (fun _ => 0) m c
      ((s.pendingCommits.map (fun e => (s.force e.2).canvasDemand c)).foldl max 0)) [] } }

/-- The write-back buffers of canvas `c` taken, or freed, now or with a pending commit (R136 step 4, R210). -/
def State.takeWriteBack (s : State) (c : Nat) : State :=
  [0, 1].foldl (fun s k =>
    let n := (s.futures.map (fun f => f.wbNeed c k)).foldl (fun a b => (max a.1 b.1, max a.2 b.2)) (0, 0)
    (s.takeScan (0x200 + 2 * c + k) n.1).takePool (poolWriteBack c k) n.2) s

/-- The enabled clones of head `h`, which its commit governs too (R247). -/
def State.clonesOf (s : State) (h : Nat) : List Nat :=
  allHeads.filter (fun g => g != h && s.flag Dict.HEAD_ENABLE g && s.rd Dict.HEAD_CLONE_OF g == h)

/-- The rules of a head commit in the order of R136, over the state with its set in force: those of the head and, for
what they take from it, of its clones (R242, R247).  `old` is the canvas that the head leaves, whose other heads must
still scan in time (R238); `shared` says that the commit changes a calibration entry that a head outside it uses
(R275). -/
def State.headRules (s : State) (h : Nat) (old : Nat := 8) (shared : Bool := false) : List (Bool × Refuse) :=
  let c := s.headCanvas h
  let shows := decide (c < 8)
  let mine := h :: s.clonesOf h
  let ports (g : Nat) : List Nat := if s.rd Dict.HEAD_TYPE g = 5 then [s.rd Dict.HEAD_OUTPUT g]
    else bitsSet (s.rd Dict.HEAD_PORT_MASK g) 48
  [(s.headDiffers h, .field 0x50 Dict.HEAD_CANVAS h),
   (shows && !s.scansInTime c, .field 0x52 Dict.HEAD_CANVAS h),
   (decide (old < 8) && !s.scansInTime old, .field 0x52 Dict.HEAD_CANVAS h)]
  ++ mine.flatMap s.tileHeadRules
  ++ [(!mine.all (fun g => (s.windows g).all (s.windowValid g)), .field 0x54 Dict.HEAD_CHECK_WINDOWS h),
      (mine.any s.sentTwice, .field 0x59 Dict.HEAD_CANVAS h),
      (shared, .field 0x57 Dict.CALIBRATION_DATA),
      (shows && !s.buffersFit c, .field 0x14 Dict.HEAD_CANVAS h),
      (!mine.all s.fifoFits, .field 0x14 Dict.HEAD_LATENCY_TOLERANCE h),
      (shows && !mine.all s.permitted && (List.range 8).any (fun l => s.layerProtected (layerNo c l)),
        .field 0x16 Dict.HEAD_CANVAS h)]
  ++ mine.flatMap (fun g => (ports g).map (fun p =>
      (decide (0 < s.headRateOn g p) && s.pixelOver p (s.rd Dict.ROUTE_CONTROL_RESERVE 0 p),
        .field 0x21 Dict.HEAD_CANVAS h)))

/-- A changed calibration entry that a head outside the commit uses too (R275). -/
def State.calibShared (s : State) (m : Commit) (h : Nat) : Bool :=
  let members := if m.grouped then bitsSet m.heads 32 else [h]
  m.calibs.any (fun e => allHeads.any (fun g => !members.contains g && s.flag Dict.HEAD_ENABLE g && s.usesCalib g e.1))

/-- The state as commit validation judges it: players by the clips that their fields name (R200). -/
def State.asNamed (s : State) : State := { s with players := s.players.map (fun e => (e.1, { e.2 with live := [] })) }

/-- The state over which a member of a group is validated: the write-backs of the canvases before it, and of all of them and
the buffers for a head, are held, and those after it hold nothing yet (R136 step 4, R138). -/
def State.heldTogether (s : State) (m : Commit) (kind num : Nat) : State :=
  let s := (bitsSet m.canvases 8).foldl (fun s c => s.holdWriteBack c (kind == 1 || decide (c < num))) s
  if kind = 1 then s.takeBuffers else s

/-- One member of a commit validated (R136), whether its block runs or not; `retime` rules are added by their caller. -/
def State.memberRules (s : State) (m : Commit) (kind num : Nat) : List (Bool × Refuse) :=
  let v := (s.force m).asNamed
  let v := if m.grouped then v.heldTogether m kind num else v
  if kind = 1 then v.headRules num (s.headCanvas num) (s.calibShared m num) else v.canvasRules num

/-! ### Aiming and landing (R131 to R135, R139) -/

/-- Whether a scope's block runs (R134). -/
def State.scopeRuns (s : State) (kind num : Nat) : Bool :=
  if kind = 1 then (s.headAt num).running else s.canvasRuns num

/-- The FTG of a scope. -/
def State.scopeFtg (s : State) (kind num : Nat) : Nat :=
  if kind = 1 then s.headRd num Dict.HEAD_FTG else s.canvasFtg num

/-- Where a scope's latch lies after a base-frame start of its FTG (R131, R139). -/
def State.scopeOffset (s : State) (kind num : Nat) : Nat :=
  if kind = 1 then s.rd Dict.HEAD_PHASE num + s.flipOffset num
  else s.leadPhase num

/-- The first latch of a scope strictly after `t` (R132). -/
def State.scopeLatch (s : State) (kind num t : Nat) : Nat :=
  if kind = 1 then s.nextFlip num t else s.nextBaseLatch num t

/-- The base-frame counter of FTG `f` at instant `t` (R13, R318). -/
def State.baseAt (s : State) (f t : Nat) : Nat :=
  let idx (t : Nat) : Nat := gridLast (s.ftgNum f) (s.ftgDen f) (s.rd Dict.FTG_OFFSET f) t
  let next := (s.ftgAt f).nextStart
  s.rd Dict.FTG_BASE_FRAMES f + 1 + idx t - idx next

/-- The counter that AIM_FRAME and LAND_FRAME give for a latch: head frames, or the base frames that the
canvas has composed before it (R155). -/
def State.frameAt (s : State) (kind num t : Nat) : Nat :=
  if s.scopeRuns kind num = false then
    (if kind = 1 then s.rd Dict.HEAD_STATUS_FRAME_COUNT num else s.rd Dict.CANVAS_BASE_FRAMES num)
  else if kind = 1 then
    let idx (t : Nat) : Nat := gridLast (s.headNum num) (s.headDen num) (s.headOffset num) t
    let step := if s.allSlots num then 1 else s.headRd num Dict.HEAD_SLOTS
    let a := s.headAt num
    let since (u : Nat) : Int := (idx t : Int) - idx u
    let past := if a.nextStart = 0 then since a.frameStart
      else if t < a.nextStart then min 0 (since a.frameStart) else 1 + since a.nextStart
    (s.rd Dict.HEAD_STATUS_FRAME_COUNT num + step * past).toNat
  else s.rd Dict.CANVAS_BASE_FRAMES num + s.baseAt (s.canvasFtg num) t - (s.canvasAt num).baseNumber - 1

/-- The commit object's entries of a scope, head or canvas (Table 5.3). -/
def commitEntry (kind : Nat) (h c : EntryDef) : EntryDef := if kind = 1 then h else c

/-- Times of receipt and acknowledgement written to a commit object (R130). -/
def State.stampCommit (s : State) (m : Commit) : State :=
  if m.kind = 1 then
    (s.wrTime Dict.HEAD_COMMIT_RECEIPT_S Dict.HEAD_COMMIT_RECEIPT_NS m.receipt m.num).wrTime
      Dict.HEAD_COMMIT_ACK_S Dict.HEAD_COMMIT_ACK_NS m.ack m.num
  else
    (s.wrTime Dict.CANVAS_COMMIT_RECEIPT_S Dict.CANVAS_COMMIT_RECEIPT_NS m.receipt m.num).wrTime
      Dict.CANVAS_COMMIT_ACK_S Dict.CANVAS_COMMIT_ACK_NS m.ack m.num

/-- STATE of every commit object the queue and the pending set give (Tables 5.3, 5.4a). -/
def State.commitStates (s : State) : State :=
  let validating (kind num : Nat) : Bool := s.validating.any (fun m =>
    (m.kind == kind && m.num == num)
      || (m.kind == 3 && (if kind = 1 then bit m.heads num else bit m.canvases num)))
  let pending (kind num : Nat) : Bool := s.pendingCommits.any (fun e => e.1 == scopeKey kind num)
  let st (kind num : Nat) : Nat := if validating kind num then 1 else if pending kind num then 2 else 0
  let s' := allHeads.foldl (fun t h => t.wr Dict.HEAD_COMMIT_STATE (st 1 h) h) s
  let s' := allCanvases.foldl (fun t c => t.wr Dict.CANVAS_COMMIT_STATE (st 2 c) c) s'
  s'.wr Dict.STITCH_GROUP_STATE
    (if s.validating.any (fun m => m.kind == 3) then 1
     else if s.pendingCommits.any (fun e => e.2.grouped) then 2 else 0)

/-! #### A canvas commit lands -/

/-- The change of a layer's source at a landing latch: a cut, a mix, or the end of a running mix (R140 to
R142, R208).  MIX_START, MIX_END, SWITCH_PREEMPTED and the fill events name the layer by its number alone (R159, DESIGN
CHOICE, log 70).  A source that changes together with the layer's enable is shown without a mix (DESIGN CHOICE, log 72). -/
def State.landLayer (s : State) (c k oldOn oldKind oldNum : Nat) : State :=
  let kind := s.rd Dict.LAYER_SOURCE_KIND k
  let num := s.rd Dict.LAYER_SOURCE_NUM k
  let noMix (s : State) : State :=
    (s.modLayer k (fun y => { y with mix := none, outLast := none, outReps := 0, outShown := Shown.init })).wr
      Dict.LAYER_MIX_REMAINING 0 k
  if !s.layerOn k then noMix s
  else if oldOn = 0 ∨ (kind = oldKind ∧ num = oldNum) ∨ !s.canvasRuns c then
    if kind = oldKind ∧ num = oldNum then s
    else s.modLayer k (fun y => { y with last := none, reps := 0, shown := Shown.init })
  else
    let s := match (s.layerAt k).mix with
      | some m => (noMix s).raise Event.SWITCH_PREEMPTED k m.elapsed
      | none => s
    if s.rd Dict.LAYER_TRANSITION k = 1 then
      let n := s.rd Dict.LAYER_MIX_FRAMES k
      let s := s.modLayer k (fun y =>
        { y with
          mix := some ⟨oldKind, oldNum, n, 0⟩
          outLast := y.last, outReps := y.reps, outShown := y.shown
          last := none, reps := 0, shown := Shown.init })
      (s.wr Dict.LAYER_MIX_REMAINING n k).raise Event.MIX_START k n
    else s.modLayer k (fun y => { y with last := none, reps := 0, shown := Shown.init })

/-- Whether a landing changes what a canvas's Lining was built from (R223). -/
def State.liningTouched (s : State) (t : State) (c : Nat) (m : Commit) : Bool :=
  let lined := s.rd Dict.LINING_LINED_MASK 0 c
  let changed (k : Nat) : Bool := s.regAt k != t.regAt k
  m.vals.any (fun e =>
    let i := e.1 / 256
    changed e.1 && (e.1 == Dict.CANVAS_BACKGROUND.key c || e.1 == Dict.CANVAS_ORDER.key c
      || e.1 == Dict.CANVAS_ORDER_MODE.key c || i == 0x2620
      || (decide (0x2810 + 8 * c ≤ i) && decide (i < 0x2818 + 8 * c) && bit lined (i - (0x2810 + 8 * c)))))
  || m.doms.any (fun e => e.1 / 256 == 0x2620
      && Store.read domDefault s.doms e.1 != Store.read domDefault t.doms e.1)

/-- DEGRADED_LAYERS and each layer's taps after DEGRADE_OK (R137, R171). -/
def State.degradeLayers (s : State) (c : Nat) : State :=
  ((List.range 8).foldl (fun s l => s.takeRelief (layerNo c l)) s).showDegraded c

/-- A canvas commit takes effect (R133, R140). -/
def State.landCanvas (s : State) (m : Commit) : State :=
  let c := m.num
  let was := (List.range 8).map (fun l =>
    let k := layerNo c l
    ((s.layerOn k).toNat, s.rd Dict.LAYER_SOURCE_KIND k, s.rd Dict.LAYER_SOURCE_NUM k))
  let t := s.force m
  let t := if s.liningTouched t c m then t.invalidateLining c 1 else t
  let t := (List.range 8).foldl (fun t l =>
    match was[l]? with
    | some (on, kind, num) => t.landLayer c (layerNo c l) on kind num
    | none => t) t
  let t := (t.degradeLayers c).modCanvas c (fun v => { v with liningRoom := false })
  let t := t.takeWriteBack c
  -- a destination of KIND 0 is idle
  let t := [0, 1].foldl (fun t k => if byteAt (t.dom Dict.CANVAS_WB_DESC c k) 0 = 0 then t.setWbState c k 0 else t) t
  t.raiseIf (s.dom Dict.OVERCOAT_PLACE 0 c != t.dom Dict.OVERCOAT_PLACE 0 c) Event.OVERCOAT_CHANGED
    (2 * 256 + c) 0

/-- Why an entry in force is not sent: 1 outside its canvas, 2 no sending head (R269, Table 9.15). -/
def State.skipCause (s : State) (k : Nat) : Nat :=
  let e := TileEntry.ofBytes (s.tileEntryAt k)
  if s.tileInside e then 2 else 1

/-- Entries in force that are not wholly inside their canvas or that no running TILE head sends (R269). -/
def State.skippedTiles (s : State) : List Nat :=
  (s.tileMap.filter (fun kv =>
    let e := TileEntry.ofBytes kv.2
    e.valid && (!s.tileInside e || !allHeads.any (fun h => (s.headAt h).running && s.sendsEntry h kv.2)))).map Prod.fst

/-- Map entries of the tiles that head `h` sends. -/
def State.sentEntries (s : State) (h : Nat) : List Nat :=
  (s.tileMap.filter (fun kv => s.sendsEntry h kv.2)).map Prod.fst

/-- Entries of RX_CALIB tiles of head `h` whose calibration or curve a landing commit changed (R286). -/
def State.calibsDue (s : State) (m : Commit) : State :=
  let due := (s.sentEntries m.num).filter (fun k =>
    let e := TileEntry.ofBytes (s.tileEntryAt k)
    e.rxCalib && (m.tiles.any (fun x => x.1 == k) || m.calibs.any (fun x => x.1 == e.calib)))
  s.modHead m.num (fun a => { a with calibDue := (a.calibDue ++ due).eraseDups })

/-- The first STATUS of a tile that head `h` sends is awaited from now on (R285). -/
def State.watchTiles (s : State) (h : Nat) : State :=
  (s.sentEntries h).foldl (fun s k =>
    if (s.tileAt k).watchAt = 0 then s.modTile k (fun x => { x with watchAt := s.now + 1 }) else s) s

/-- A head commit takes effect (R133, R269, R275). -/
def State.landHead (s : State) (m : Commit) : State :=
  let t := ((s.force m).takeBuffers).calibsDue m
  let t := t.watchTiles m.num
  if m.tiles.isEmpty then t
  else
    (t.skippedTiles.filter (fun k => m.tiles.any (fun e => e.1 == k))).foldl (fun t k =>
      t.raise Event.TILE_MAP_SKIPPED k (t.skipCause k)) t

/-- A tile-map entry that no head sends is put into force at once, and reported as skipped when it is VALID (R269,
R275). -/
def State.landTile (s : State) (k : Nat) (b : List Byte) : State :=
  if allHeads.any (fun h => s.sendsTile h k b) then s
  else (s.enforceTile k b).raiseIf (TileEntry.ofBytes b).valid Event.TILE_MAP_SKIPPED k
    ((s.enforceTile k b).skipCause k)

/-- A calibration entry that no head's tile names is put into force at once (R275). -/
def State.landCalib (s : State) (k : Nat) (b : List Byte) : State :=
  if allHeads.any (fun h => s.usesCalib h k) then s else s.putCalib k b

/-- A table entry written to its shadow, and into force where no head has it; held while a validation covers it (R25,
R275). -/
def State.storeTile (s : State) (k : Nat) (b : List Byte) : State :=
  if s.holds (heldTile k) b then { s with deferredWrites := s.deferredWrites ++ [⟨heldTile k, 0, some b⟩] }
  else (s.putTileShadow k b).landTile k b
/-- A calibration entry, likewise. -/
def State.storeCalib (s : State) (k : Nat) (b : List Byte) : State :=
  if s.holds (heldCalib k) b then { s with deferredWrites := s.deferredWrites ++ [⟨heldCalib k, 0, some b⟩] }
  else (s.putCalibShadow k b).landCalib k b

/-- A shadow write that was held back takes place (R25). -/
def State.endHold (s : State) (d : Deferred) : State :=
  match d.domain with
  | some b =>
    if d.key / 65536 = 0x2E0001 then (s.applyHeld d).landTile (d.key % 65536) b
    else if d.key / 65536 = 0x2E2001 then (s.applyHeld d).landCalib (d.key % 65536) b
    else s.applyHeld d
  | none => s.applyHeld d

/-- MAP_VALID counts the VALID entries in force, TILES_PRESENT and TILES_MISSING the tiles by their state (Tables
9.11 to 9.13). -/
def State.countTiles (s : State) : State :=
  let n (p : Tile → Bool) : Nat := (s.tiles.filter (fun x => p x.2)).length
  let s := s.wr Dict.TILE_MAP_CONTROL_MAP_VALID (s.tileMap.filter (fun kv => (TileEntry.ofBytes kv.2).valid)).length
  (s.wr Dict.PTL_TILES_PRESENT (n (fun x => x.state == 1 || x.state == 3))).wr Dict.PTL_TILES_MISSING
    (n (fun x => x.state == 2))

/-- BANK_IN_USE, LUT_IN_USE and LUT3D_STATE from what is named in force or pending (R169, R190, R191). -/
def State.inUse (s : State) : State :=
  let vals (e : EntryDef) (n k : Nat) : List Nat :=
    s.rd e n k :: s.pendingCommits.filterMap (fun m => (m.2.vals.find? (fun x => x.1 == e.key n k)).map Prod.snd)
  let layers := List.range 64
  let banks := layers.flatMap (fun k => vals Dict.LAYER_H_BANK k 0 ++ vals Dict.LAYER_V_BANK k 0)
  let luts := (List.range 8).flatMap (fun c =>
    (if (vals Dict.COLOUR_LUTS_TONE_MODE 0 c).contains 2 then vals Dict.COLOUR_LUTS_TONE_LUT 0 c else [])
      ++ (if (vals Dict.COLOUR_LUTS_OUTPUT_TRANSFER 0 c).contains 4 then vals Dict.COLOUR_LUTS_ENCODE_LUT 0 c
          else []))
  let gammas := (s.tileMap.map Prod.snd ++ s.pendingCommits.flatMap (fun m => m.2.tiles.map Prod.snd)).filterMap
    (fun b => let e := TileEntry.ofBytes b; if e.valid ∧ e.gamma ≠ 0xFF then some e.gamma else none)
  let l3 := layers.flatMap (fun k => (vals Dict.LAYER_LUT3D k 0).filter (· != 0))
  let s := s.wr Dict.COEFF_BANKS_BANK_IN_USE (maskOf banks.eraseDups)
  let s := s.wr Dict.COLOUR_LUTS_LUT_IN_USE (maskOf (luts ++ gammas).eraseDups)
  s.wr Dict.COLOUR_LUTS_LUT3D_STATE
    (s.rd Dict.COLOUR_LUTS_LUT3D_STATE % 16 + 16 * maskOf (l3.map (· - 1)).eraseDups)

/-- A commit lands: in force, counted, stamped and reported (R131 to R134). -/
def State.landCommit (s : State) (m : Commit) : State :=
  let frame := s.frameAt m.kind m.num s.timebase
  let s := { s with pendingCommits := s.pendingCommits.filter (fun e => e.1 != scopeKey m.kind m.num) }
  let s := if m.kind = 1 then s.landHead m else s.landCanvas m
  let s := s.countTiles.inUse.commitStates.noteWanted
  let n := m.num
  let s := if m.kind = 1 then
      let s := (s.wr Dict.HEAD_COMMIT_LAND_FRAME frame n).inc Dict.HEAD_COMMIT_LANDED_COUNT n
      (s.wrTime Dict.HEAD_COMMIT_LAND_S Dict.HEAD_COMMIT_LAND_NS s.timebase n).fire
        (s.rd Dict.HEAD_COMMIT_MSIX_VECTOR n)
    else
      let s := (s.wr Dict.CANVAS_COMMIT_LAND_FRAME frame n).inc Dict.CANVAS_COMMIT_LANDED_COUNT n
      (s.wrTime Dict.CANVAS_COMMIT_LAND_S Dict.CANVAS_COMMIT_LAND_NS s.timebase n).fire
        (s.rd Dict.CANVAS_COMMIT_MSIX_VECTOR n)
  s.raise Event.COMMIT_LANDED (scopeCode m.kind n) frame

/-- What a scope still has pending when its block stops lands then (R134). -/
def State.landPending (s : State) (kind num : Nat) : State :=
  match s.pendingCommits.find? (fun e => e.1 == scopeKey kind num) with
  | some (_, m) => s.landCommit m
  | none => s

/-- The commits of a scope due at a latch land there (R26, R131). -/
def State.landDue (s : State) (kind num t : Nat) : State :=
  match s.pendingCommits.find? (fun e => e.1 == scopeKey kind num) with
  | some (_, m) => if m.land ≤ t then s.landCommit m else s
  | none => s

end Sys2Proof.Machine
end

