-- ==== Sys2Proof/Machine/KeyOps.lean ====
section
/-! DEFINITION. What a key slot is and whether a function may use it (R435 to R440). -/
namespace Sys2Proof.Machine
open Sys2Proof

/-- A root: 1 ROOT-P, 2 ROOT-F, 3 ROOT-S (R436). -/
def rootKey (k : Nat) : List Byte := (List.range 32).map (Config.rootByte k)

/-- A key derived from a root for a tamper generation, by its label (R436). -/
def rootDerived (label : String) (root generation : Nat) : List Byte :=
  kdf (rootKey root) (ascii label) (leBytes 1 root ++ leBytes 1 generation)

/-- The KEK of a root and a generation (R436). -/
def kek (root generation : Nat) : List Byte := rootDerived "KEK" root generation

/-- The attribute bytes that the tag covers: attribute, algorithm, owner and root (R435, R436, log 30). -/
def Slot.attributeBytes (a : Slot) : List Byte :=
  leBytes 1 a.attr ++ leBytes 1 a.algorithm ++ leBytes 1 a.owner ++ leBytes 1 a.root

/-- The tag that a slot's wrapped key and attributes should carry: AES-CMAC truncated to 64 bits (R436). -/
def Slot.tagOf (a : Slot) : List Byte := (cmac (rootDerived "TAG" a.root a.generation) (a.wrapped ++ a.attributeBytes)).take 8

/-- A slot as MRAM holds it for the key in its cache: wrapped under its root and generation, and tagged (R436). -/
def Slot.sealed (a : Slot) : Slot :=
  let a := { a with wrapped := keyWrap (kek a.root a.generation) a.key }
  { a with tag := a.tagOf }

/-- A slot read from MRAM: its key unwrapped into the cache, where it holds one of the present generation (R438, R448). -/
def Slot.unsealed (a : Slot) (generation : Nat) : Slot :=
  if (a.state = .loaded ∨ a.state = .patch) ∧ !a.wrapped.isEmpty ∧ a.generation = generation then
    { a with key := (keyUnwrap (kek a.root a.generation) a.wrapped).getD [] }
  else a

/-- Whether a slot holds a wrapped key whose tag fails (R438). -/
def Slot.tagFails (a : Slot) (generation : Nat) : Bool :=
  !a.wrapped.isEmpty && a.generation == generation && a.tag != a.tagOf

/-- A physical slot before anything is written: K64 to K71 are spares (R435). -/
def initialSlot (n : Nat) : Slot := if 64 ≤ n then { Slot.init with state := .spare } else Slot.init

/-- A physical slot. -/
def State.slotAt (s : State) (n : Nat) : Slot := Store.read initialSlot s.keys.slots n

/-- A physical slot set. -/
def State.putSlot (s : State) (n : Nat) (v : Slot) : State :=
  { s with keys := { s.keys with slots := Store.write initialSlot s.keys.slots n v } }

/-- The storage that slot number `n` reaches: the PATCH slot that serves it, else itself (R439). -/
def State.storageOf (s : State) (n : Nat) : Nat :=
  ((List.range 72).find? (fun k => (s.slotAt k).state != .bad && (s.slotAt k).serves == n)).getD n

/-- The slot that number `n` names (R439). -/
def State.namedSlot (s : State) (n : Nat) : Slot := s.slotAt (s.storageOf n)

/-- The active root of the life-cycle state: 1 ROOT-P, 2 ROOT-F, 3 ROOT-S, 0 none (Table 16.1). -/
def State.activeRoot (s : State) : Nat := if s.keys.lifecycle ≤ 3 then s.keys.lifecycle else 0

/-- Whether the slot that number `n` names is usable (R437). -/
def State.usable (s : State) (n : Nat) : Bool :=
  let k := s.namedSlot n
  decide (n < 72) && (k.state == .loaded || k.state == .patch) && s.activeRoot != 0 && k.root == s.activeRoot
    && k.generation == s.keys.fuses && !k.key.isEmpty

/-- Whether the slot that number `n` names is a usable DERIVE_ONLY HMAC-SHA-256 slot (R280, R402). -/
def State.derives (s : State) (n : Nat) : Bool :=
  s.usable n && (s.namedSlot n).attr == 3 && (s.namedSlot n).algorithm == 2

/-- The key in the slot that number `n` names. -/
def State.keyOf (s : State) (n : Nat) : List Byte := (s.namedSlot n).key

end Sys2Proof.Machine
end

