-- ==== Sys2Proof/Machine/PtlOps.lean ====
section
/-! DEFINITION. Pevas Tile Link packets: headers, tags, and putting them on a port (R266, R277, R280, R281). -/
namespace Sys2Proof.Machine
open Sys2Proof

/-- Kind of a `WireItem.packet` that leaves an Ethernet port. -/
abbrev packetPort : Nat := 2

/-- The AES-256 session key of port `p` under a salt (R280). -/
def State.portKey (s : State) (p : Nat) (salt : List Byte) : List Byte :=
  kdf (s.keyOf s.ptl.slot) (ascii "PTL2") (beBytes 6 (s.rd Dict.PORT_MAC_ADDRESS p) ++ salt)

/-- A PTL packet without its Ethernet header (Table 9.3). -/
structure PtlPacket where
  type : Nat
  first : Bool
  last : Bool
  alt : Bool
  slot : Nat
  frame : Nat
  tile : Nat
  line : Nat
  format : Nat
  lines : Nat
  payload : List Byte
deriving DecidableEq, Repr

/-- The 16-byte header of Table 9.3. -/
def PtlPacket.header (k : PtlPacket) (version : Nat) (auth encrypted : Bool) : List Byte :=
  beBytes 1 (16 * version + k.type)
  ++ beBytes 1 (auth.toNat + 2 * encrypted.toNat + 4 * k.first.toNat + 8 * k.last.toNat + 16 * k.alt.toNat)
  ++ beBytes 1 k.slot ++ [0] ++ beBytes 4 k.frame ++ beBytes 2 k.tile ++ beBytes 2 k.line ++ beBytes 1 k.format
  ++ beBytes 2 k.payload.length ++ beBytes 1 k.lines

/-- The 96-bit nonce of R281. -/
def PtlPacket.nonce (k : PtlPacket) : List Byte :=
  beBytes 4 k.frame ++ beBytes 1 k.slot ++ beBytes 1 k.type ++ beBytes 2 k.tile ++ beBytes 2 k.line ++ [0, 0]

/-- The packet's bytes on port `p`: its header, its payload and its tag when it is authenticated or
encrypted (Table 9.4, R261, R266, R280, R281, R283). -/
def State.sealed (s : State) (p : Nat) (salt : List Byte) (wantAuth wantEncrypt : Bool) (k : PtlPacket) : List Byte :=
  let keyed := s.rd Dict.PTL_GENERATION 0 p == 2 && s.rd Dict.PTL_KEY_STATE == 1
  let auth := wantAuth && keyed
  let enc := wantEncrypt && keyed
  let head := k.header (s.rd Dict.PTL_GENERATION 0 p) auth enc
  if auth ∨ enc then
    if enc then
      let (c, tag) := gcmSeal (s.portKey p salt) k.nonce head k.payload
      head ++ c ++ tag
    else
      let (_, tag) := gcmSeal (s.portKey p salt) k.nonce (head ++ k.payload) []
      head ++ k.payload ++ tag
  else head ++ k.payload

/-- An Ethernet frame sent by port `p` when it is up: the untagged header, the body and the FCS (R266). -/
def State.sendFrame (s : State) (p dest : Nat) (body : List Byte) : State :=
  if s.rd Dict.PORT_STATE p = 2 ∨ s.rd Dict.PORT_STATE p = 3 then
    let m := beBytes 6 dest ++ beBytes 6 (s.rd Dict.PORT_MAC_ADDRESS p) ++ beBytes 2 0x88B5 ++ body
    (s.out (.packet packetPort p (m ++ leBytes 4 (crc32 m)))).inc Dict.PORT_TX_FRAMES p
  else s

/-- Salt of the packets sent now. -/
def State.salt (s : State) : List Byte := s.ptl.salt

/-- A rekey begins: a fresh salt and a countdown of 8 frames; one asked for during a countdown follows it
(R282). -/
def State.startRekey (s : State) : State :=
  if s.ptl.countdown ≠ 0 then { s with ptl := { s.ptl with again := true } }
  else
    let (salt, s) := s.draw 8
    { s with ptl := { s.ptl with
      nextSalt := salt, nextSlot := s.rd Dict.PTL_KEY_SLOT, countdown := 9, again := false } }

/-- A HEARTBEAT or CONTROL packet takes the port's packet counter and steps it (Table 9.3); at 0x80000000 a rekey
begins (R282). -/
def State.nextPtlCount (s : State) (p : Nat) : Nat × State :=
  let n := (s.ptlCounterAt p + 1) % 2 ^ 32
  let t := s.putPtlCounter p n
  (s.ptlCounterAt p, if n = 0x80000000 then t.startRekey else t)

/-- P_h to the nearest nanosecond, an exact half upward (Table 9.9, log 6). -/
def State.slotPeriodNs (s : State) (h : Nat) : Nat := (2 * s.headNum h + s.headDen h) / (2 * s.headDen h)

/-- The payload of a SYNC beacon (Table 9.9). -/
def State.beacon (s : State) (h present retime newPresent : Nat) : List Byte :=
  let time (t : Nat) : List Byte := beBytes 6 (t / nsPerS) ++ beBytes 4 (t % nsPerS)
  time present ++ beBytes 4 (s.slotPeriodNs h) ++ beBytes 1 (s.headRd h Dict.HEAD_SLOTS) ++ beBytes 1 h
  ++ beBytes 1 retime ++ beBytes 1 (s.ptl.countdown % 9) ++ beBytes 1 (s.rd Dict.PTL_KEY_EPOCH) ++ [0]
  ++ time newPresent ++ [0, 0] ++ (if s.ptl.salt.isEmpty then zeros 8 else s.ptl.salt)
  ++ (if s.ptl.countdown % 9 = 0 then zeros 8 else s.ptl.nextSalt)

/-- The beacon of a TILE head's frame on every port of its PORT_MASK (R277). -/
def State.sendBeacon (s : State) (h slot present retime newPresent : Nat) : State :=
  ((bitsSet (s.rd Dict.HEAD_PORT_MASK h) 48).filter (fun p => s.rd Dict.PTL_GENERATION 0 p != 0)).foldl (fun s p =>
    let k : PtlPacket :=
      { type := 1, first := false, last := false, alt := false
        slot := if s.headRd h Dict.HEAD_SLOTS = 1 then 0 else slot
        frame := s.rd Dict.HEAD_STATUS_BASE_FRAME_COUNT h % 2 ^ 32, tile := h, line := 0, format := 0, lines := 0
        payload := s.beacon h present retime newPresent }
    s.sendFrame p (s.rd Dict.PTL_BEACON_MAC) (s.sealed p s.salt true false k)) s

/-- KEY_STATE follows the slot in force; becoming unusable raises PTL_KEY_LOST (R280, R283). -/
def State.judgePtlKey (s : State) : State :=
  let k := s.ptl.slot
  let was := s.rd Dict.PTL_KEY_STATE
  let now := if k = 0xFF then 0 else if s.derives k then 1 else 2
  (s.wr Dict.PTL_KEY_STATE now).raiseIf (was != 2 && now == 2) Event.PTL_KEY_LOST k 0

/-- The salt and the slot that the rekey brought are in force (R282). -/
def State.finishRekey (s : State) : State :=
  let again := s.ptl.again
  let s := { s with ptl := { s.ptl with
    salt := s.ptl.nextSalt, slot := s.ptl.nextSlot, nextSalt := [], countdown := 0, again := false } }
  let s := (s.inc Dict.PTL_KEY_EPOCH).judgePtlKey
  let s := s.raise Event.PTL_REKEY (s.rd Dict.PTL_KEY_EPOCH) 0
  if again then s.startRekey else s

/-- The running TILE head whose frames a rekey counts: the lowest-numbered (R282, log 22). -/
def State.rekeyHead (s : State) : Option Nat :=
  allHeads.find? (fun h => (s.headAt h).running && s.rd Dict.HEAD_TYPE h == 1)

/-- A rekey counts the frame of head `h` that starts, before its beacon; the 9th frame uses the new salt (R282). -/
def State.countRekey (s : State) (h : Nat) : State :=
  if s.rekeyHead ≠ some h ∨ s.ptl.countdown = 0 then s
  else if s.ptl.countdown = 1 then s.finishRekey
  else { s with ptl := { s.ptl with countdown := s.ptl.countdown - 1 } }

/-- A PTL packet to `dest` on port `p`, sent when the port carries the tile link (R260, R266). -/
def State.sendPtl (s : State) (p dest : Nat) (auth encrypt : Bool) (k : PtlPacket) : State :=
  if s.rd Dict.PTL_GENERATION 0 p = 0 then s else s.sendFrame p dest (s.sealed p s.salt auth encrypt k)

/-! ### Calibration (R286) -/

/-- Slot number that a head's packets carry (Table 9.3). -/
def State.ptlSlot (s : State) (h : Nat) : Nat :=
  if s.headRd h Dict.HEAD_SLOTS = 1 then 0 else (s.headAt h).carried

/-- Bits 31:0 of the head's BASE_FRAME_COUNT (Table 9.3). -/
def State.ptlFrame (s : State) (h : Nat) : Nat := s.rd Dict.HEAD_STATUS_BASE_FRAME_COUNT h % 2 ^ 32

/-- The payload of a CALIB part: the entry and GAMMA_ID, or a piece of the curve (R286). -/
def State.calibPart (s : State) (e : TileEntry) (part : Nat) : List Byte :=
  if part = 0 then s.calibAt e.calib ++ beBytes 1 e.gamma
  else (List.range 512).flatMap (fun i =>
    beBytes 2 (if e.gamma = 0xFF then Config.noCurve (512 * (part - 1) + i)
      else s.lutEntry e.gamma (512 * (part - 1) + i)))

/-- CALIB in nine parts to a tile, on its port and its alternate (R276, R286). -/
def State.sendCalib (s : State) (h k : Nat) : State :=
  let e := TileEntry.ofBytes (s.tileEntryAt k)
  [(e.port, false), (e.alt, true)].foldl (fun s x =>
    if bit (s.rd Dict.HEAD_PORT_MASK h) x.1 then
      (List.range 9).foldl (fun s part =>
        s.sendPtl x.1 e.mac e.encrypt e.encrypt
          { type := 3, first := false, last := false, alt := x.2, slot := s.ptlSlot h, frame := s.ptlFrame h
            tile := e.tile, line := part, format := 0, lines := 0, payload := s.calibPart e part }) s
    else s) s

/-- CALIB to the RX_CALIB tiles that are due (R286). -/
def State.sendCalibs (s : State) (h : Nat) : State :=
  let due := (s.headAt h).calibDue
  let s := s.modHead h (fun a => { a with calibDue := [] })
  (due.filter (fun k => s.sendsEntry h (s.tileEntryAt k) && (TileEntry.ofBytes (s.tileEntryAt k)).rxCalib
    && s.tileInside (TileEntry.ofBytes (s.tileEntryAt k)))).foldl (fun s k => s.sendCalib h k) s

/-- Every RX_CALIB tile of head `h` is due (R286). -/
def State.allCalibsDue (s : State) (h : Nat) : State :=
  let base := s.rd Dict.HEAD_STATUS_BASE_FRAME_COUNT h
  s.modHead h (fun a => { a with
    calibBase := base
    calibDue := (s.sentEntries h).filter (fun k => (TileEntry.ofBytes (s.tileEntryAt k)).rxCalib) })

end Sys2Proof.Machine
end

