-- ==== Sys2Proof/Machine/HeadOps.lean ====
section
/-! DEFINITION. Heads: the rules of starting one, what it sends in a frame, its frame starts and its stop
(R230 to R256). -/
namespace Sys2Proof.Machine
open Sys2Proof

/-! ### The rules of ENABLE and RETIME (R230, R232, R234, R240, R244, R245, R247) -/

/-- Stored bits per component of a format as OUT_DEPTH is held against them; P16 counts as 8 (R244). -/
def storedDepth (format : Nat) : Nat := if format = 4 then 10 else 8

/-- The link a head leaves through is in the mode Table 8.1 requires. -/
def State.outputFits (s : State) (h : Nat) : Bool :=
  let o := s.rd Dict.HEAD_OUTPUT h
  match s.rd Dict.HEAD_TYPE h with
  | 1 => s.rd Dict.HEAD_PORT_MASK h != 0
  | 2 => decide (o < 4) && s.rd Dict.GROUP_PORT_MODE o == 2
  | 3 => decide (o < 4) && s.rd Dict.GROUP_PORT_MODE o == 4
  | 4 => decide (o < 16) && s.rd Dict.GROUP_PORT_MODE (o / 4) == 5 && s.rd Dict.D_LANE_DIRECTION o == 1
  | 5 => decide (o < 48) && s.rd Dict.PORT_TYPE o != 0
  | _ => false

/-- Another enabled head of the same kind leaves through the same group or lane (R230). -/
def State.outputShared (s : State) (h : Nat) : Bool :=
  let ty := s.rd Dict.HEAD_TYPE h
  decide (2 ≤ ty ∧ ty ≤ 4) && allHeads.any (fun g => g != h && s.flag Dict.HEAD_ENABLE g
    && s.rd Dict.HEAD_TYPE g == ty && s.rd Dict.HEAD_OUTPUT g == s.rd Dict.HEAD_OUTPUT h)

/-- Whether a head's encoding and depth go with its type and stored depth (R244). -/
def State.encodingFits (s : State) (h : Nat) : Bool :=
  let e := s.rd Dict.HEAD_OUT_ENCODING h
  let d := s.rd Dict.HEAD_OUT_DEPTH h
  match s.rd Dict.HEAD_TYPE h with
  | 4 => e == 3 && d == 10
  | 5 => (e == 0 || e == 2 || e == 3) && decide (10 ≤ d)
  | _ => decide (storedDepth (s.headRd h Dict.HEAD_FORMAT) ≤ d)

/-- Bits per second that an HDMI or DP group carries after coding: TMDS on three lanes with 8 of 10 bits to
6 Gbit/s, FRL with 16 of 18; DisplayPort with 8 of 10 bits to 8.1 Gbit/s and 128 of 132 above (R245;
PRESUMED, log 12). -/
def State.linkCapacity (s : State) (hdmi : Bool) (g : Nat) : Nat :=
  let rate := s.rd Dict.GROUP_PORT_MAX_RATE g * 1000
  let lanes := s.rd Dict.GROUP_PORT_LANES g
  if hdmi then max (3 * min rate 6000000000 * 8 / 10) (if 3000000000 ≤ rate then lanes * rate * 16 / 18 else 0)
  else if rate ≤ 8100000000 then lanes * rate * 8 / 10 else lanes * rate * 128 / 132

/-- Whether an HDMI or DP head's raster fits its link and its sync fields lie within the blanking; whether an
SDI raster is one its standards define (R245). -/
def State.rasterFits (s : State) (h : Nat) : Bool :=
  let ha := s.headRd h Dict.HEAD_H_ACTIVE
  let va := s.headRd h Dict.HEAD_V_ACTIVE
  let ht := s.rd Dict.HEAD_H_TOTAL h
  let vt := s.rd Dict.HEAD_V_TOTAL h
  let ty := s.rd Dict.HEAD_TYPE h
  let bits := encodedBits (s.rd Dict.HEAD_OUT_ENCODING h) (s.rd Dict.HEAD_OUT_DEPTH h)
  if ty = 2 ∨ ty = 3 then
    let hs := s.rd Dict.HEAD_H_SYNC_START h
    let vs := s.rd Dict.HEAD_V_SYNC_START h
    decide (ha ≤ hs ∧ hs + s.rd Dict.HEAD_H_SYNC_WIDTH h ≤ ht ∧ va ≤ vs
      ∧ vs + s.rd Dict.HEAD_V_SYNC_WIDTH h ≤ vt)
      && decide (ht * vt * bits * nsPerS * s.headDen h
        ≤ s.linkCapacity (ty == 2) (s.rd Dict.HEAD_OUTPUT h) * s.headNum h)
  else if ty = 4 then
    Config.sdiRaster ha va ht vt (s.headNum h) (s.headDen h) (s.rd Dict.D_LANE_SDI_RATE (s.rd Dict.HEAD_OUTPUT h))
  else true

/-- DRAM-scanned heads, clones included (R240). -/
def State.dramHeads (s : State) : Nat :=
  (allHeads.filter (fun g => s.flag Dict.HEAD_ENABLE g && s.headRd g Dict.HEAD_BUFFER_MODE == 1)).length

/-- The rules of a head's output, frame and clone that ENABLE and RETIME judge, over the state with `h`
enabled and its timing in force. -/
def State.modeRules (s : State) (h : Nat) : List (Bool × Refuse) :=
  let parent := s.rd Dict.HEAD_CLONE_OF h
  let sel := s.headRd h Dict.HEAD_SLOT_SELECT
  let va := s.headRd h Dict.HEAD_V_ACTIVE
  [(s.rd Dict.HEAD_TYPE h == 0, .field 0x51 Dict.HEAD_TYPE h),
   (!s.outputFits h || s.outputShared h, .field 0x51 Dict.HEAD_OUTPUT h),
   (decide (parent < 32) && (decide (s.rd Dict.HEAD_CLONE_OF parent < 32) || !s.flag Dict.HEAD_ENABLE parent
      || parent == h), .field 0x55 Dict.HEAD_CLONE_OF h),
   (decide (parent < 32) && decide (s.headCanvas h < 8) && !s.scansInTime (s.headCanvas h),
      .field 0x55 Dict.HEAD_CLONE_OF h),
   (sel != 0xFF && decide (s.headRd h Dict.HEAD_SLOTS ≤ sel), .field 0x51 Dict.HEAD_SLOT_SELECT h),
   (decide (s.rd Dict.HEAD_V_TOTAL h ≤ va), .field 0x12 Dict.HEAD_V_TOTAL h),
   (decide (s.headNum h ≤ s.rd Dict.HEAD_PHASE h * s.headDen h), .field 0x12 Dict.HEAD_PHASE h),
   (decide (va ≤ s.rd Dict.HEAD_LATCH_ADVANCE h), .field 0x12 Dict.HEAD_LATCH_ADVANCE h),
   (!s.encodingFits h, .field 0x51 Dict.HEAD_OUT_ENCODING h),
   (!s.rasterFits h, .field 0x51 Dict.HEAD_H_TOTAL h),
   (decide (8 < s.dramHeads), .field 0x53 Dict.HEAD_BUFFER_MODE h)]

/-- The timing that NEW_TIMING bytes give, in force (Table 8.3). -/
def State.putTiming (s : State) (h : Nat) (b : List Byte) : State :=
  let f (s : State) (e : EntryDef) (off n : Nat) : State := s.wr e (leAt b off n) h
  let s := f (f (f (f s Dict.HEAD_H_ACTIVE 0 2) Dict.HEAD_V_ACTIVE 2 2) Dict.HEAD_H_TOTAL 4 2) Dict.HEAD_V_TOTAL 6 2
  let s := f (f (f s Dict.HEAD_H_SYNC_START 8 2) Dict.HEAD_H_SYNC_WIDTH 10 2) Dict.HEAD_V_SYNC_START 12 2
  let s := f (f (f s Dict.HEAD_V_SYNC_WIDTH 14 1) Dict.HEAD_SYNC_POLARITY 15 1) Dict.HEAD_PHASE 16 4
  f (f s Dict.HEAD_LATCH_ADVANCE 20 1) Dict.HEAD_SLOT_SELECT 21 1

/-- The timing in force as NEW_TIMING bytes, which a read gives before any write (Table 8.4). -/
def State.timingBytes (s : State) (h : Nat) : List Byte :=
  leBytes 2 (s.rd Dict.HEAD_H_ACTIVE h) ++ leBytes 2 (s.rd Dict.HEAD_V_ACTIVE h)
  ++ leBytes 2 (s.rd Dict.HEAD_H_TOTAL h) ++ leBytes 2 (s.rd Dict.HEAD_V_TOTAL h)
  ++ leBytes 2 (s.rd Dict.HEAD_H_SYNC_START h) ++ leBytes 2 (s.rd Dict.HEAD_H_SYNC_WIDTH h)
  ++ leBytes 2 (s.rd Dict.HEAD_V_SYNC_START h) ++ leBytes 1 (s.rd Dict.HEAD_V_SYNC_WIDTH h)
  ++ leBytes 1 (s.rd Dict.HEAD_SYNC_POLARITY h) ++ leBytes 4 (s.rd Dict.HEAD_PHASE h)
  ++ leBytes 1 (s.rd Dict.HEAD_LATCH_ADVANCE h) ++ leBytes 1 (s.rd Dict.HEAD_SLOT_SELECT h) ++ zeros 2

/-- NEW_TIMING as it stands: what was written, else the timing in force. -/
def State.newTiming (s : State) (h : Nat) : List Byte :=
  let d := s.dom Dict.HEAD_NEW_TIMING h
  if d.isEmpty then s.timingBytes h else d

/-- Whether NEW_TIMING bytes lie in the ranges of their fields (Tables 8.3 and 8.4). -/
def timingInRange (b : List Byte) : Bool :=
  Dict.HEAD_H_ACTIVE.admits (leAt b 0 2) && Dict.HEAD_V_ACTIVE.admits (leAt b 2 2)
    && Dict.HEAD_H_TOTAL.admits (leAt b 4 2) && Dict.HEAD_V_TOTAL.admits (leAt b 6 2)
    && Dict.HEAD_SYNC_POLARITY.admits (byteAt b 15) && Dict.HEAD_SLOT_SELECT.admits (byteAt b 21)
    && (b.drop 22).all (· == 0)

/-- The rules of a RETIME over the state with the new timing and the shadows in force (R254). -/
def State.retimeRules (s : State) (h : Nat) (b : List Byte) : List (Bool × Refuse) :=
  (!timingInRange b, .field 0x12 Dict.HEAD_NEW_TIMING h) :: (s.putTiming h b).modeRules h

/-- PIXEL_CLOCK in mHz (R245, Table 8.5). -/
def State.setPixelClock (s : State) (h : Nat) : State :=
  s.wr Dict.HEAD_STATUS_PIXEL_CLOCK
    (s.rd Dict.HEAD_H_TOTAL h * s.rd Dict.HEAD_V_TOTAL h * s.headDen h * nsPerS * 1000 / s.headNum h) h

/-! ### What a frame shows (R235, R242 to R244, R250, R254, R487, R489) -/

/-- The buffer that a frame carrying slot `slot` of canvas `c` scans: its front buffer, if it has one. -/
def State.frontKey (s : State) (c slot : Nat) : Option Nat :=
  match Store.read (fun _ => 0) (s.canvasAt c).front slot with
  | 0 => none
  | n + 1 => some (2 * slot + n)

/-- What a frame of head `h` carrying `slot` shows, RETIME and SAFE apart (R243, R487, R489). -/
def State.frameKind (s : State) (h slot : Nat) : FrameKind :=
  let c := s.headCanvas h
  if 8 ≤ c then .idle
  else
    let before : FrameKind := if s.flag Dict.CANVAS_ENABLE c then .boot else .idle
    if s.devState = 3 ∨ s.devState = 5 then before
    else if s.canvasRuns c = false then (if s.devState = 4 ∧ (s.canvasAt c).startAfter ≠ 0 then before else .idle)
    else if (s.frontKey c slot).isNone then before
    else if (s.canvasAt c).spoiled.contains slot then .background else .content

/-- Codes of a P32D colour at `d` bits. -/
def colourCodes (d colour : Nat) : Nat × Nat × Nat :=
  let one (v : Nat) : Nat := if 10 ≤ d then extendBits d 10 v else reduceBits false d (extendBits 16 10 v) 0 0 0
  (one (field colour 29 20), one (field colour 19 10), one (field colour 9 0))

/-- A canvas's BACKGROUND as a stored pixel of a format. -/
def State.backgroundPx (s : State) (c format : Nat) : Px :=
  let v := s.rd Dict.CANVAS_BACKGROUND c
  let (br, bg, bb) := formatBits format
  let one (b x : Nat) : Nat := reduceBits false b (extendBits 16 10 x) 0 0 0
  ⟨one br (field v 29 20), one bg (field v 19 10), one bb (field v 9 0), 0⟩

/-- A pixel of slot buffer `k` of canvas `c` as it is scanned: BACKGROUND where its word is uncorrectable (Table
12.2). -/
def State.scanPx (s : State) (c k format x y : Nat) : Px :=
  let v := s.canvasAt c
  if v.damaged.any (fun w => w.1 == k && decide (w.2.1 ≤ x ∧ x < w.2.1 + w.2.2.2) && w.2.2.1 == y)
  then s.backgroundPx c format else (Store.read (fun _ => Raster.init) v.buffers k).at x y

/-- The stored pixel of canvas `c` at (x, y) that a frame shows: from its buffer, or the boot picture. -/
def State.canvasPx (s : State) (c slot format : Nat) (kind : FrameKind) (x y : Nat) : Px :=
  match kind with
  | .content =>
    match s.frontKey c slot with
    | some k => s.scanPx c k format x y
    | none => ⟨0, 0, 0, 0⟩
  | _ =>
    let back := s.fillPx c (s.rd Dict.CANVAS_BACKGROUND c)
    let d := if s.overcoatCall c = 0 then back
      else match s.overcoatPx c x y (s.imageBadAt (s.placement c).image) with | some p => blendPx back p 65535 65535 | none => back
    s.store16 c 0 format x y (s.encodeOut c d)

/-- The boot picture of canvas `c` as stored pixels (R243, R490). -/
def State.bootRaster (s : State) (c slot format : Nat) : Raster :=
  let w := s.rd Dict.CANVAS_WIDTH c
  let n := s.rd Dict.CANVAS_HEIGHT c
  (List.range n).foldl (fun r y => (List.range w).foldl (fun r x =>
    Raster.put r x y (s.canvasPx c slot format .boot x y)) r) ⟨w, n, []⟩

/-- A value of the LIVE fields that the head's last frame start took: 0 IDLE_COLOUR, 1 CHECK_THRESHOLD,
2 OVERCOAT_ACTION, 3 SAFE_COLOUR (R255). -/
def State.headLive (s : State) (h k : Nat) : Nat := ((s.headAt h).live[k]?).getD 0

/-- RGB codes at `d` bits of raster place (x, y) (R242, R243, R244). -/
def State.rasterCodes (s : State) (h slot d : Nat) (kind : FrameKind) (x y : Nat) : Nat × Nat × Nat :=
  let c := s.headCanvas h
  match kind with
  | .idle => colourCodes d (s.headLive h 0)
  | .safe => colourCodes d (s.headLive h 3)
  | .background => colourCodes d (if c < 8 then s.rd Dict.CANVAS_BACKGROUND c else s.headLive h 0)
  | _ =>
    let step := s.headRd h Dict.HEAD_VIEW_STEP
    let cx : Int := signed 32 (s.headRd h Dict.HEAD_VIEW_X) + x * step
    let cy : Int := signed 32 (s.headRd h Dict.HEAD_VIEW_Y) + y * step
    if 0 ≤ cx ∧ cx < s.rd Dict.CANVAS_WIDTH c ∧ 0 ≤ cy ∧ cy < s.rd Dict.CANVAS_HEIGHT c then
      let format := s.headRd h Dict.HEAD_FORMAT
      let (br, bg, bb) := formatBits format
      let p := s.canvasPx c slot format kind cx.toNat cy.toNat
      (extendBits d br p.r, extendBits d bg p.g, extendBits d bb p.b)
    else colourCodes d (s.headRd h Dict.HEAD_BORDER_COLOUR)

/-- The nearest integer to `num / den`; an exact half as the device rounds it (log 6). -/
def nearest (place : Nat) (num : Int) (den : Nat) : Nat :=
  let q := num / den
  let r := num % den
  (if 2 * r < den then q else if (den : Int) < 2 * r then q + 1
   else if Config.tieUp place num den then q + 1 else q).toNat

/-- Luma numerator of RGB codes in 1/10,000 (R244). -/
def lumaNum (colorimetry : Nat) (p : Nat × Nat × Nat) : Int :=
  if colorimetry = 0 then ((2126 * p.1 + 7152 * p.2.1 + 722 * p.2.2 : Nat) : Int)
  else ((2627 * p.1 + 6780 * p.2.1 + 593 * p.2.2 : Nat) : Int)

/-- Narrow-range luma at `d` bits: 64 + 876 Y at 10 bits, scaled (R244). -/
def lumaCode (colorimetry d : Nat) (p : Nat × Nat × Nat) : Nat :=
  let m : Nat := 10000 * (2 ^ d - 1)
  nearest 5 ((64 * m + 876 * lumaNum colorimetry p) * 2 ^ d) (m * 1024)

/-- A chroma difference: blue or red less luma in 1/10,000, with the divisor of its scale. -/
def chromaNum (colorimetry : Nat) (blue : Bool) (p : Nat × Nat × Nat) : Int × Nat :=
  let y := lumaNum colorimetry p
  let k := if colorimetry = 0 then (if blue then 722 else 2126) else (if blue then 593 else 2627)
  ((if blue then 10000 * (p.2.2 : Int) - y else 10000 * (p.1 : Int) - y), 2 * (10000 - k))

/-- Narrow-range chroma at `d` bits of a weighted sum of differences over `w`: 512 + 896 C at 10 bits, scaled
(R244). -/
def chromaCode (d : Nat) (sum : Int) (scale w : Nat) : Nat :=
  let m : Nat := scale * w * (2 ^ d - 1)
  nearest 6 ((512 * m + 896 * sum) * 2 ^ d) (m * 1024)

/-- Codes of `n` pixels from `x0` on of a line of `w` pixels of RGB, in an encoding at depth `d` and a colorimetry
(R244). -/
def encodeRow (encoding d col w : Nat) (rgb : Nat → Nat × Nat × Nat) (x0 n : Nat) : List Nat :=
  (List.range n).flatMap (fun i =>
    let x := x0 + i
    match encoding with
    | 0 => let p := rgb x; [p.1, p.2.1, p.2.2]
    | 1 =>
      let narrow (v : Nat) : Nat := 2 ^ (d - 4) + nearest 4 ((v * 219 * 2 ^ (d - 8) : Nat) : Int) (2 ^ d - 1)
      let p := rgb x
      [narrow p.1, narrow p.2.1, narrow p.2.2]
    | 2 =>
      let p := rgb x
      let cb := chromaNum col true p
      let cr := chromaNum col false p
      [lumaCode col d p, chromaCode d cb.1 cb.2 1, chromaCode d cr.1 cr.2 1]
    | _ =>
      let even := x - x % 2
      let c (k : Nat) : Int × Nat := chromaNum col (x % 2 == 0) (rgb k)
      let sum := (c (even - 1)).1 + 2 * (c even).1 + (c (min (w - 1) (even + 1))).1
      [chromaCode d sum (c even).2 4, lumaCode col d (rgb x)])

/-- One raster line of a frame in the component order the interface carries (R244, R249). -/
def State.rasterLine (s : State) (h slot : Nat) (kind : FrameKind) (x0 n y : Nat) : List Nat :=
  let d := s.rd Dict.HEAD_OUT_DEPTH h
  encodeRow (s.rd Dict.HEAD_OUT_ENCODING h) d (s.rd Dict.HEAD_OUT_COLORIMETRY h) (s.headRd h Dict.HEAD_H_ACTIVE)
    (fun x => s.rasterCodes h slot d kind x y) x0 n

/-! ### Frames (R231 to R235, R252) -/

/-- Kind of a `WireItem.packet`: destination, UDP port, payload type, sender type and RTP timestamp of an IP
head's frame (R246). -/
abbrev packetIpFrame : Nat := 3

/-- Ticks of the 90 kHz media clock at timebase time `t` (R246). -/
def rtpTime (t : Nat) : Nat := t * 9 / 100000 % 2 ^ 32

/-- The instant of a head's next frame start on its present grid, none while it waits or retimes.
A head that waits for its FTG, or a clone for its parent, starts with the first frame from there on (R231, R247). -/
def State.nextFrame (s : State) (h : Nat) : Option Nat :=
  let a := s.headAt h
  if a.running then
    let t := if a.nextStart ≠ 0 then a.nextStart else s.headNext h (a.frameStart + 1)
    match a.retime with
    | some r => if r.countdown = 0 ∧ r.oldEnd ≠ 0 ∧ r.oldEnd ≤ t ∧ !a.stopping then none else some t
    | none => some t
  else
    let parent := s.rd Dict.HEAD_CLONE_OF h
    let f := s.headRd h Dict.HEAD_FTG
    let since := max (max a.startAfter (s.ftgAt f).lastStart) (if parent < 32 then (s.headAt parent).frameStart else 0)
    if s.flag Dict.HEAD_ENABLE h ∧ a.startAfter ≠ 0 ∧ s.ftgRuns f ∧ (32 ≤ parent ∨ (s.headAt parent).running) then
      some (s.headNext h since)
    else none

/-- The state with the fields and tables of head `h` as its frame in progress took them (R133). -/
def State.withTaken (s : State) (h : Nat) : State :=
  let a := s.headAt h
  let mine (key : Nat) : Bool := inScope 1 h key || inScope 1 (s.parentOf h) key
  { s with
    regs := s.regs.filter (fun e => !mine e.1) ++ a.config
    doms := s.doms.filter (fun e => !mine e.1) ++ a.configDoms
    tileMap := a.tiles, calib := a.calibs }

/-- The state as the frame in progress of head `h` scans it: with the front buffer it began with as well (R133, R235). -/
def State.asScanned (s : State) (h : Nat) : State :=
  let a := s.headAt h
  let v := s.withTaken h
  v.modCanvas (v.headCanvas h) (fun x => { x with front := Store.write (fun _ => 0) x.front a.carried a.front })

/-- The frame of head `h` that starts at `t` takes the head's fields and tables in force; a clone takes its parent's
as the parent's frame has them, unless one starts that `t` is not before (R133, R247). -/
def State.headTakes (s : State) (h t : Nat) : State :=
  let p := s.parentOf h
  let own := s.regs.filter (fun e => inScope 1 h e.1)
  let stale := (s.headAt p).running && (match s.nextFrame p with | some u => decide (t < u) | none => true)
  let config := if p = h then own
    else own ++ (if stale then (s.headAt p).config else s.regs).filter (fun e => inScope 1 p e.1)
  let doms := s.doms.filter (fun e => inScope 1 h e.1)
  let s := s.modHead h (fun a => { a with config := config, configDoms := doms, tiles := s.tileMap, calibs := s.calib })
  let v := s.withTaken h
  let tiles := v.tileMap.filter (fun e => v.sendsEntry h e.2)
  s.modHead h (fun a => { a with
    tiles := tiles, canvas := v.headCanvas h
    calibs := s.calib.filter (fun e => tiles.any (fun k => (TileEntry.ofBytes k.2).calib == e.1)) })

/-- The raster of a frame leaves a head that is not a TILE head; an IP head's only while its port carries frames. -/
def State.sendRaster (s : State) (h slot : Nat) (kind : FrameKind) : State :=
  if s.rd Dict.HEAD_TYPE h = 1 ∨ (s.rd Dict.HEAD_TYPE h = 5 ∧ s.portLive (s.rd Dict.HEAD_OUTPUT h) = false) then s
  else
    let v := s.asScanned h
    let s := if s.rd Dict.HEAD_TYPE h = 5 then
        (s.inc Dict.PORT_TX_FRAMES (s.rd Dict.HEAD_OUTPUT h) 0
          (Config.ipPackets (v.headRd h Dict.HEAD_H_ACTIVE * v.headRd h Dict.HEAD_V_ACTIVE))).out
        (.packet packetIpFrame (s.rd Dict.HEAD_OUTPUT h)
          (beBytes 4 (s.rd Dict.HEAD_IP_DEST h) ++ beBytes 2 (s.rd Dict.HEAD_IP_UDP h)
            ++ beBytes 1 (s.rd Dict.HEAD_IP_PAYLOAD_TYPE h) ++ beBytes 1 (s.rd Dict.HEAD_IP_SENDER_TYPE h)
            ++ beBytes 4 (rtpTime (s.headAt h).frameStart)))
      else s
    (List.range (v.headRd h Dict.HEAD_V_ACTIVE)).foldl (fun s y =>
      s.out (.pixels h y (v.rasterLine h slot kind 0 (v.headRd h Dict.HEAD_H_ACTIVE) y))) s

/-- The underruns of the frame that ends are reported with its count (R241). -/
def State.endFrame (s : State) (h : Nat) : State :=
  let n := (s.headAt h).underruns
  if n = 0 then s
  else
    let s := s.modHead h (fun a => { a with underruns := 0, short := [] })
    (s.inc Dict.HEAD_STATUS_UNDERRUN_FRAMES h).raise Event.HEAD_UNDERRUN h n

/-- The end of a RETIME (R254). -/
def State.endRetime (s : State) (h b : Nat) : State :=
  (s.inc Dict.HEAD_STATUS_RETIMES h).raise Event.HEAD_RETIME_DONE h b

/-- A head stops (R231, R237, R250); the commit and the RETIME that wait for it land with that (R134). -/
def State.stopHead (s : State) (h : Nat) : State :=
  let s := s.endFrame h
  let s := match (s.headAt h).retime with
    | some r => ((s.putTiming h r.timing).landPending 1 h).endRetime h 0
    | none => s.landPending 1 h
  let a := s.headAt h
  let s := s.putHead h { a with
    running := false, stopping := false, startAfter := 0, idle := false, safe := false, safeFrames := 0
    safeRequest := none, safeClear := false, retime := none, scanned := [], nextStart := 0, sent := [], calibDue := [], background := false
    margins := [], echoFaults := a.echoFaults.filter (fun u => Store.read (fun _ => false) s.resil.retired (9 * 2 ^ 24 + u)) }
  let s := (s.wr Dict.HEAD_STATUS_STATE 0 h).wr Dict.HEAD_STATUS_SAFE_WINDOW 0xFF h
  let s := (s.wr Dict.HEAD_STATUS_ECHO_STATE 0 h).takeBuffers.takeFifo h
  s.raise Event.HEAD_STOPPED h (s.rd Dict.HEAD_STATUS_FRAME_COUNT h)

/-- A head stops with its clones (R247). -/
def State.stopWithClones (s : State) (h : Nat) : State :=
  allHeads.foldl (fun s g =>
    if g ≠ h ∧ s.rd Dict.HEAD_CLONE_OF g = h ∧ (s.headAt g).running then
      (s.stopHead g).modHead g (fun a => { a with startAfter := s.timebase })
    else s) (s.stopHead h)

/-- The frame counters step at a frame start (R252). -/
def State.countFrame (s : State) (h slot : Nat) : State :=
  let a := s.headAt h
  if a.started = false then s.modHead h (fun a => { a with started := true })
  else
    let s := s.inc Dict.HEAD_STATUS_FRAME_COUNT h 0
      (if s.allSlots h then 1 else s.headRd h Dict.HEAD_SLOTS)
    if slot = 0 ∨ s.allSlots h = false then s.inc Dict.HEAD_STATUS_BASE_FRAME_COUNT h else s

/-- The compose margin of the frame that starts, that of the composition in slot buffer `key`, least over 64
(Table 8.5). -/
def State.noteMargin (s : State) (h c key : Nat) : State :=
  let m := Store.read (fun _ => 0) (s.canvasAt c).margins key / 1000
  let l := (m :: (s.headAt h).margins).take 64
  (s.modHead h (fun a => { a with margins := l })).wrInt Dict.HEAD_STATUS_COMPOSE_MARGIN_MIN (l.foldl min m) h

/-- SAFE fill that SAFE_CLEAR ended is over from this frame start on (R250, R255). -/
def State.endSafe (s : State) (h : Nat) : State :=
  let a := s.headAt h
  if a.safeClear then
    ((s.putHead h { a with safe := false, safeClear := false, safeFrames := 0 }).wr
      Dict.HEAD_STATUS_SAFE_WINDOW 0xFF h).raise Event.HEAD_SAFE_CLEARED h a.safeFrames
  else s

/-- Countdown of a RETIME in the beacon of this frame, and the start of the new timing (Table 8.2). -/
def State.retimeShown (s : State) (h t : Nat) : Nat × Nat :=
  match (s.headAt h).retime with
  | some r =>
    if 0 < r.countdown then
      let last := gridAt (s.headNum h) (s.headDen h) (s.headOffset h) (s.headIndex h t + r.countdown)
      let s' := s.putTiming h r.timing
      (r.countdown, s'.presentAt h (s'.headNext h last))
    else (0, 0)
  | none => (0, 0)

/-- A TILE head's RETIME counts its announcing frames (Table 8.2). -/
def State.countRetime (s : State) (h t : Nat) : State :=
  match (s.headAt h).retime with
  | some r =>
    if 0 < r.countdown then
      let r' := { r with
        countdown := r.countdown - 1
        oldEnd := if r.countdown = 1 then s.headNext h (t + 1) else r.oldEnd }
      s.modHead h (fun a => { a with retime := some r' })
    else s
  | none => s

/-- The STATE that a frame shows (Table 8.5). -/
def State.headState (s : State) (h : Nat) (kind : FrameKind) : Nat :=
  match kind with
  | .safe => 3
  | k => if (s.headAt h).retime.isSome then 4 else if k = .idle then 2 else 1

/-- What a TILE head sends at its frame start: its beacon, after a rekey has counted the frame, and the CALIB
that is due (R277, R282, R286).  FRAME reaching 0x80000000 begins a rekey. -/
def State.tileFrame (s : State) (h slot pt countdown newPt : Nat) (first : Bool) : State :=
  let s := if first then (s.allCalibsDue h).watchTiles h else s
  let s := if s.ptlFrame h = 0x80000000 ∧ (slot = 0 ∨ s.allSlots h = false) then s.startRekey else s
  ((s.countRekey h).sendBeacon h slot pt countdown newPt).sendCalibs h

/-- A frame of head `h` on canvas `c` opens with slot `slot` at `t`: the slot flips for a head that starts as lead, the
frame's fields and LIVE colours are taken, the frame is counted, and SAFE fill that was asked for or cleared begins or ends
(R231 to R235, R250, R255). -/
def State.openFrame (s : State) (h t slot c : Nat) (first : Bool) : State :=
  let s := if first && decide (c < 8) && s.leadHead c == some h then s.flipSlot c else s
  let s := s.modHead h (fun a => { a with
    running := true, startAfter := 0, frameStart := t, carried := slot, nextStart := 0
    flipped := false, blanked := false, matched := false, background := false, sent := []
    live := [s.rd Dict.HEAD_IDLE_COLOUR h, s.rd Dict.HEAD_CHECK_THRESHOLD h, s.rd Dict.HEAD_OVERCOAT_ACTION h,
      s.rd Dict.HEAD_SAFE_COLOUR h] })
  let s := if first then
      (((s.setPixelClock h).wr Dict.HEAD_STATUS_ECHO_STATE (if (s.headAt h).echoFaults.isEmpty then 1 else 2) h).milestone 4).raise Event.HEAD_STARTED h
        (s.rd Dict.HEAD_TYPE h)
    else s
  let s := (s.countFrame h slot).endSafe h
  match (s.headAt h).safeRequest with
  | some w => ((s.modHead h (fun a => { a with safe := true, safeRequest := none, safeFrames := 0 })).wr
      Dict.HEAD_STATUS_SAFE_WINDOW w h).raise Event.HEAD_SAFE h w
  | none => s

/-- What a frame of head `h` shows is settled: content with its buffer, the idle colour, the boot raster or SAFE fill, and
background after a RETIME (R243, R250, R254). -/
def State.showSlot (s : State) (h c slot : Nat) (retimed : Bool) : State :=
  let kind := (s.withTaken h).frameKind h slot
  let front := if c < 8 then Store.read (fun _ => 0) (s.canvasAt c).front slot else 0
  let again := kind == .content && Store.read (fun _ => 0) (s.headAt h).scanned slot == 3 * c + front
  let bg := retimed && (s.rd Dict.HEAD_TYPE h == 4 || s.rd Dict.HEAD_TYPE h == 5
    || (s.rd Dict.HEAD_TYPE h == 1 && (again || kind != .content)))
  let shown : FrameKind := if (s.headAt h).safe then .safe else if bg then .background else kind
  let s := s.raiseIf (kind == .idle && !(s.headAt h).idle) Event.HEAD_IDLE h c
  let s := s.modHead h (fun a => { a with
    idle := kind == .idle, background := bg, shown := shown, front := front
    safeFrames := if a.safe then a.safeFrames + 1 else a.safeFrames
    scanned := if kind = .content then Store.write (fun _ => 0) a.scanned slot (3 * c + front) else [] })
  if again && !bg then s.inc Dict.HEAD_STATUS_REPEATED_FRAMES h
  else if kind = .content then s.noteMargin h c (2 * slot + (front - 1)) else s

/-- What a frame of head `h` that starts at `t` sends and reports: the flip time-stamp, for an IP head its frame's start
too (log 71), a TILE head's beacon, STATE, the flip event and the raster (R232, R236, R277). -/
def State.tellFrame (s : State) (h t slot : Nat) (first : Bool) : State :=
  let shown := (s.headAt h).shown
  let pt := if s.rd Dict.HEAD_TYPE h = 1 then s.presentAt h t else t
  let s := s.wrTime Dict.HEAD_STATUS_FLIP_S Dict.HEAD_STATUS_FLIP_NS pt h
  let s := s.wr Dict.HEAD_STATUS_SLOT_SHOWN slot h
  let (cd, np) := s.retimeShown h t
  let s := if s.rd Dict.HEAD_TYPE h = 1 then s.tileFrame h slot pt cd np first else s
  let s := (s.countRetime h t).wr Dict.HEAD_STATUS_STATE (s.headState h shown) h
  let s := (s.fire (s.rd Dict.HEAD_FLIP_MSIX_VECTOR h)).raise Event.HEAD_FLIP h
    (s.rd Dict.HEAD_STATUS_FRAME_COUNT h)
  s.sendRaster h slot shown

/-- A frame of head `h` starts at `t` (R231 to R235, R243, R250, R252, R277).  `first` says that the head
starts with it, `retimed` that it is the first on the new grid of a RETIME. -/
def State.beginFrame (s : State) (h t : Nat) (first retimed : Bool) : State :=
  let s := ((s.endFrame h).groupFrame (s.groupOfHead h)).headTakes h t
  let slot := s.slotCarried h (s.headIndex h t)
  let c := (s.withTaken h).headCanvas h
  ((s.openFrame h t slot c first).showSlot h c slot retimed).tellFrame h t slot first

/-- A head frame start that is due (R231, R232).  `low` is the least fill of the scan FIFO in the frame before
it, in bytes. -/
def State.headFrame (s : State) (h low : Nat) : State :=
  match s.nextFrame h with
  | some t =>
    if s.alive ∧ t ≤ s.timebase then
      let a := s.headAt h
      if a.running ∧ a.stopping then s.stopWithClones h
      else
        let s := if a.running ∧ s.rd Dict.HEAD_STATUS_FIFO_SIZE h ≠ 0 then
            s.wr Dict.HEAD_STATUS_FIFO_LOW_WATER (min low (s.rd Dict.HEAD_STATUS_FIFO_LOW_WATER h)) h
          else s
        s.beginFrame h t (!a.running) false
    else s
  | none => s

/-! ### Check windows (R248 to R251) -/

/-- Which native place of a tile a canvas offset shows: the inverse of Table 9.7. -/
def TileEntry.unorient (e : TileEntry) (dx dy : Nat) : Nat × Nat :=
  match e.orientation with
  | 0 => (dx, dy)
  | 1 => (e.h - 1 - dy, dx)
  | 2 => (e.w - 1 - dx, e.h - 1 - dy)
  | 3 => (dy, e.w - 1 - dx)
  | 4 => (e.w - 1 - dx, dy)
  | 5 => (dy, dx)
  | 6 => (dx, e.h - 1 - dy)
  | _ => (e.h - 1 - dy, e.w - 1 - dx)

/-- The samples of a check window in the order of R249, those of a tile extended to 16 bits (R272). -/
def State.windowSamples (s : State) (h : Nat) (b : List Byte) : List Nat :=
  let x := leAt b 2 2
  let y := leAt b 4 2
  let w := leAt b 6 2
  let n := leAt b 8 2
  let slot := (s.headAt h).carried
  if s.rd Dict.HEAD_TYPE h = 1 then
    match ((s.headTiles h).map TileEntry.ofBytes).find? (fun e =>
        decide (e.x ≤ x ∧ x + w ≤ e.x + e.w ∧ e.y ≤ y ∧ y + n ≤ e.y + e.h)) with
    | some e =>
      let format := s.headRd h Dict.HEAD_FORMAT
      let r := if (s.headAt h).shown = .boot then s.bootRaster e.canvas slot format
        else match s.frontKey e.canvas slot with
          | some k => Store.read (fun _ => Raster.init) (s.canvasAt e.canvas).buffers k
          | none => Raster.init
      let wide (c : Nat) : Nat := extendBits 16 e.sampleBits c
      (List.range n).flatMap (fun j => (List.range w).flatMap (fun i =>
        let (u, v) := e.unorient (x + i - e.x) (y + j - e.y)
        let p := s.tileSample e format r (u + e.hem) (v + e.hem)
        [wide p.r, wide p.g, wide p.b]))
    | none => []
  else (List.range n).flatMap (fun j => s.rasterLine h slot (s.headAt h).shown x w (y + j))

/-- The expected CRC of a window in the frame in progress: of what was composed (R249, Table 12.2). -/
def State.expectedCrc (s : State) (h : Nat) (b : List Byte) : Nat :=
  let v := s.asScanned h
  let composed := v.modCanvas (v.headCanvas h) (fun v => { v with damaged := [] })
  crc32 ((composed.windowSamples h b).flatMap (leBytes 2))

/-- Check window `w` of head `h` as the frame in progress has it (R133, Table 8.7). -/
def State.checkedWindow (s : State) (h w : Nat) : List Byte :=
  (((s.asScanned h).dom Dict.HEAD_CHECK_WINDOWS h).drop (16 * w)).take 16

/-- Whether BACKGROUND sent for an underrun lies inside a window in the frame in progress, so that the window mismatches
(R251, log 71). -/
def State.windowShort (s : State) (h : Nat) (b : List Byte) : Bool :=
  (s.headAt h).short.any (fun e =>
    decide (leAt b 4 2 ≤ e.1 ∧ e.1 < leAt b 4 2 + leAt b 8 2 ∧ e.2 < leAt b 2 2 + leAt b 6 2))

/-- Whether window `w` of head `h` is checked in the frame in progress (R248, R250, R251). -/
def State.checksWindow (s : State) (h w : Nat) : Bool :=
  let a := s.headAt h
  let b := s.checkedWindow h w
  let v := s.asScanned h
  let c := v.headCanvas h
  let covered := match v.frontKey c a.carried with
    | some k => if a.shown = .content then Store.read (fun _ => false) (s.canvasAt c).bufferOvercoat k
        else s.overcoatCall c != 0
    | none => s.overcoatCall c != 0
  a.running && (a.shown == .content || a.shown == .boot) && a.retime.isNone && a.echoFaults.isEmpty && decide (c < 8)
    && bit (byteAt b 0) 0 && (byteAt b 1 == 0xFF || byteAt b 1 == a.carried) && (!bit (byteAt b 0) 1 || covered)

/-- A window's echo CRC compared with its expected CRC (R250). -/
def State.checkWindow (s : State) (h w echo : Nat) : State :=
  if s.alive ∧ s.checksWindow h w then
    let b := s.checkedWindow h w
    let status := s.rd Dict.HEAD_STATUS_CHECK_STATUS h
    let s := s.modHead h (fun a => { a with
      checked := Store.change (fun _ => 0) a.checked w (fun n => (n + 1) % 2 ^ 32) })
    if s.expectedCrc h b = echo ∧ s.windowShort h b = false then
      (s.modHead h (fun a => { a with consecutive := Store.write (fun _ => 0) a.consecutive w 0 })).wr
        Dict.HEAD_STATUS_CHECK_STATUS (putBit status w false) h
    else
      let n := Store.read (fun _ => 0) (s.headAt h).consecutive w + 1
      let s := s.modHead h (fun a => { a with
        consecutive := Store.write (fun _ => 0) a.consecutive w n
        mismatches := Store.change (fun _ => 0) a.mismatches w (fun n => (n + 1) % 2 ^ 32)
        safeRequest := if bit (byteAt b 0) 1 ∧ s.headLive h 2 = 1 ∧ s.headLive h 1 ≤ n ∧ a.safeRequest = none
          then some w else a.safeRequest })
      (s.wr Dict.HEAD_STATUS_CHECK_STATUS (putBit status w true) h).raise Event.CHECK_MISMATCH h
        (w * 65536 + n % 65536)
  else s

/-! ### RETIME (R254) -/

/-- The flip latch at which a RETIME acknowledged at `ack` lands: that of the eighth announcing frame of a TILE head, else
the first one strictly after it, `flip` (R131, R132, Table 8.2). -/
def State.retimeLatch (s : State) (h ack flip : Nat) : Nat :=
  if s.rd Dict.HEAD_TYPE h = 1 then
    gridAt (s.headNum h) (s.headDen h) (s.headOffset h) (s.headIndex h (ack + 1) + 7) + s.flipOffset h
  else flip

/-- A validated RETIME that lands at `land` begins: its sequence by type (Table 8.2). -/
def State.startRetime (s : State) (h sess : Nat) (timing : List Byte) (land : Nat) : State :=
  let tile := s.rd Dict.HEAD_TYPE h == 1
  let a := s.headAt h
  let r : Retime :=
    { timing := timing, countdown := if tile then 8 else 0
      oldEnd := if tile then 0 else s.headNext h (land + 1), background := 0, sess := sess }
  let s := s.raise Event.HEAD_RETIME_START h (s.rd Dict.HEAD_TYPE h)
  (s.putHead h { a with retime := some r }).wr Dict.HEAD_STATUS_STATE 4 h

/-- A clone takes its parent's new timing at its next frame start, which the old grid's `t` does not precede: the frame in
progress runs to its own end (R254). -/
def State.followTiming (s : State) (g t : Nat) : State :=
  let u := s.headNext g t
  if u = t then s else s.modHead g (fun a => { a with nextStart := u })

/-- The first frame start on the new grid, when it is due: for an HDMI or DP head the last one passed, since
its link trains until then (Table 8.2). -/
def State.retimeDue (s : State) (h : Nat) : Option (Nat × Retime) :=
  match (s.headAt h).retime with
  | some r =>
    if r.countdown = 0 ∧ r.oldEnd ≠ 0 then
      let s' := s.putTiming h r.timing
      let t := s'.headNext h r.oldEnd
      if t ≤ s.timebase then
        if s.rd Dict.HEAD_TYPE h = 2 ∨ s.rd Dict.HEAD_TYPE h = 3 then
          some (gridAt (s'.headNum h) (s'.headDen h) (s'.headOffset h)
            (gridLast (s'.headNum h) (s'.headDen h) (s'.headOffset h) s.timebase), r)
        else some (t, r)
      else none
    else none
  | none => none

/-- The new timing takes effect with the first frame on the new grid, which the shadows that landed govern (R133,
R254). -/
def State.retimed (s : State) (h : Nat) : State :=
  match s.retimeDue h with
  | some (t, r) =>
    if s.alive ∧ (s.headAt h).stopping then s.stopWithClones h
    else if s.alive then
      let ends := ((s.clonesOf h).filter (fun g => (s.headAt g).running)).filterMap (fun g =>
        (s.nextFrame g).map (fun t => (g, t)))
      let s := ((s.putTiming h r.timing).setPixelClock h).wrDom Dict.HEAD_NEW_TIMING [] h
      let s := ends.foldl (fun s e => s.followTiming e.1 e.2) s
      let s := s.modHead h (fun a => { a with retime := none })
      let s := s.landPending 1 h
      let s := (h :: s.clonesOf h).foldl State.takeFifo s
      let s := s.beginFrame h t false true
      let ty := s.rd Dict.HEAD_TYPE h
      s.endRetime h (if ty = 2 ∨ ty = 3 then (t - r.oldEnd) / 1000000 else (s.headAt h).background.toNat)
    else s
  | none => s

end Sys2Proof.Machine
end

