-- ==== Sys2Proof/Machine/AudioOps.lean ====
section
/-! DEFINITION. The audio matrix: the sample grid, endpoints and their buffers, voices and crossfades, delays,
destinations and gating (R323 to R342). -/
namespace Sys2Proof.Machine
open Sys2Proof

/-! ### The sample grid (R323) -/

/-- MATRIX_RATE in Hz. -/
def State.matrixRate (s : State) : Nat := max 1 (s.rd Dict.AUDIO_MATRIX_MATRIX_RATE_NUM)

/-- The index of the first sample instant at or after timebase time `t` (R323). -/
def State.sampleFrom (s : State) (t : Nat) : Nat := ceilDiv (t * s.matrixRate) nsPerS

/-- Sample instant `i`, in whole ns of the timebase (R323). -/
def State.sampleAt (s : State) (i : Nat) : Nat := i * nsPerS / s.matrixRate

/-- Whole sample frames in `ms` milliseconds. -/
def State.framesIn (s : State) (ms : Nat) : Nat := ms * s.matrixRate / 1000

/-! ### Samples and gains -/

/-- Full scale of 32-bit samples (R325). -/
def clipSample (x : Int) : Int := clampInt (-2147483648) 2147483647 x

/-- A gain of 0.01 dB steps in 1/65,536 (R325). -/
def gainOf (g : Int) : Int := gainFactor g

/-- A sample under a gain in 1/65,536. -/
def scaleBy (x g : Int) : Int :=
  if g = 65536 then x else if g = 0 then 0 else nearby 10 (x * g) 65536

/-- A sample in the `bits` most significant bits of 32 (R335). -/
def narrow (bits : Nat) (x : Int) : Int :=
  let m : Nat := 2 ^ (32 - bits)
  if x % m = 0 then x else clipSample (nearby 11 x m * m)

/-- A gain on its way from `a` to `b` with `left` of `n` frames to go: linear, or with equal power (R325, R330). -/
def fadeGain (a b : Int) (n left : Nat) (equalPower : Bool) : Int :=
  if left = 0 then b else if n ≤ left then a
  else if equalPower then
    nearby 9 (a * sinQuarter left n + b * sinQuarter (n - left) n) 65536
  else nearby 9 (a * left + b * (n - left)) n

/-! ### Endpoints -/

/-- Channel `i` of a sample frame; 0 past its end. -/
def frameChannel (f : List Int) (i : Nat) : Int := (f[i]?).getD 0

/-- STATE of a SAP follows its endpoint (Table 11.3). -/
def State.judgeSap (s : State) (n : Nat) : State :=
  let e := s.endpointAt (audioKey 1 n)
  s.wr Dict.SAP_STATE
    (if !s.flag Dict.SAP_ENABLE n then 0
     else if e.mismatch then 5
     else if e.lostNow then 4
     else if !e.started then 1
     else if e.zeroLeft ≠ 0 then 2 else 3) n

/-- What of a list of times lies within the last second. -/
def lastSecond (now : Nat) (l : List Nat) : List Nat := l.filter (fun t => decide (now < t + nsPerS))

/-- `d` slips of an endpoint counted; AUDIO_SLIP at most once per second (R337). -/
def State.countSlips (s : State) (kind num d : Nat) : State :=
  if d = 0 then s
  else
    let k := audioKey kind num
    let e := s.endpointAt k
    let slips := List.replicate d s.now ++ lastSecond s.now e.slips
    let due := e.slipAt = 0 ∨ s.since e.slipAt nsPerS
    let s := s.putEndpoint k { e with slips, slipAt := if due then s.now + 1 else e.slipAt }
    let s := if kind = 1 then s.inc Dict.SAP_SLIPS num 0 d else s
    let s := s.inc Dict.AUDIO_MATRIX_SLIP_TOTAL 0 0 d
    s.raiseIf due Event.AUDIO_SLIP k slips.length

/-- An underrun or overrun of a SAP counted; its event at most once per second (R338). -/
def State.countError (s : State) (num : Nat) (under : Bool) : State :=
  let k := audioKey 1 num
  let e := s.endpointAt k
  let errors := s.now :: lastSecond s.now e.errors
  let due := e.errorAt = 0 ∨ s.since e.errorAt nsPerS
  let s := s.putEndpoint k { e with errors, errorAt := if due then s.now + 1 else e.errorAt }
  let s := s.inc (if under then Dict.SAP_UNDERRUNS else Dict.SAP_OVERRUNS) num
  s.raiseIf due (if under then Event.AUDIO_UNDERRUN else Event.AUDIO_OVERRUN) k errors.length

/-- Half an elastic buffer of silence (R337, log 26). -/
abbrev halfFull : List (List Int) := List.replicate 32 []

/-- One frame taken from an elastic buffer at a sample instant, what stays in it, and whether it slipped: below 16
frames the frame stays to be repeated, above 48 one more is dropped (R337). -/
def popElastic : List (List Int) → List Int × List (List Int) × Bool
  | [] => ([], [], false)
  | x :: rest =>
    if rest.length < 16 then (x, x :: rest, true)
    else if 48 < rest.length then (x, rest.drop 1, true) else (x, rest, false)

/-- One frame put into an elastic buffer at a sample instant, for a slave that sends (R337). -/
def pushElastic (f : List (List Int)) (x : List Int) : List (List Int) × Bool :=
  let g := f ++ [x]
  if 48 < g.length then (f, true) else if g.length < 16 then (g ++ [x], true) else (g, false)

/-- The gain of the ramp of a start or stop, linear in dB (R341). -/
def Endpoint.rampGain (e : Endpoint) : Int :=
  if e.rampLeft = 0 then (if e.stopping then 0 else 65536)
  else
    let j : Int := e.rampLength - e.rampLeft
    gainOf (if e.stopping then -(12000 * j / e.rampLength) else -12000 + 12000 * j / e.rampLength)

/-- The layers of a start or stop on one sample frame of an endpoint; `raw` names the channels that ramps do not
touch (R333, R341). -/
def Endpoint.shape (e : Endpoint) (raw : Nat → Bool) (x : List Int) : List Int × Endpoint :=
  let ramp := (x.zipIdx).map (fun p => if raw p.2 then p.1 else scaleBy p.1 e.rampGain)
  let zero := x.map (fun _ => 0)
  if !e.started then (zero, e)
  else if e.stopping then
    if e.rampLeft ≠ 0 then (ramp, { e with rampLeft := e.rampLeft - 1 })
    else (zero, { e with zeroLeft := e.zeroLeft - 1 })
  else if e.zeroLeft ≠ 0 then (zero, { e with zeroLeft := e.zeroLeft - 1 })
  else (ramp, { e with rampLeft := e.rampLeft - 1 })

/-- Whether a stop has run its course (R341). -/
def Endpoint.stopDone (e : Endpoint) : Bool := e.started && e.stopping && e.rampLeft == 0 && e.zeroLeft == 0

/-- An endpoint starts: zeros, unless it is a slave, then the ramp (R341). -/
def State.startEndpoint (s : State) (kind num : Nat) : State :=
  let k := audioKey kind num
  let slave := kind == 1 && s.sapSlave num
  let ramp := s.framesIn (s.rd Dict.AUDIO_START_MUTE_RAMP)
  let s := s.modEndpoint k (fun e => { e with
    started := true, startAt := 0, stopping := false
    fifo := if slave then halfFull else []
    zeroLeft := if slave then 0 else s.rd Dict.AUDIO_START_ZERO_FRAMES
    rampLeft := ramp, rampLength := ramp })
  if kind = 1 then s.judgeSap num else s

/-- An endpoint begins to stop (R341). -/
def State.beginStop (s : State) (kind num : Nat) : State :=
  let slave := kind == 1 && s.sapSlave num
  let ramp := s.framesIn (s.rd Dict.AUDIO_START_MUTE_RAMP)
  s.modEndpoint (audioKey kind num) (fun e =>
    if e.started then { e with
      stopping := true, zeroLeft := if slave then 0 else s.rd Dict.AUDIO_START_ZERO_FRAMES
      rampLeft := ramp, rampLength := ramp }
    else { e with startAt := 0 })

/-- Endpoints that a start or stop can name: SAPs and senders, by kind and number. -/
abbrev starters : List (Nat × Nat) := (List.range 8).map (fun n => (1, n)) ++ (List.range 64).map (fun k => (4, k))

/-- Whether an endpoint is in SAP_MASK or SENDER_MASK. -/
def State.masked (s : State) (kind num : Nat) : Bool :=
  if kind = 1 then bit (s.rd Dict.AUDIO_START_SAP_MASK) num else bit (s.rd Dict.AUDIO_START_SENDER_MASK) num

/-- Whether a SAP or sender is enabled. -/
def State.starterOn (s : State) (kind num : Nat) : Bool :=
  if kind = 1 then s.flag Dict.SAP_ENABLE num else s.streamOn (64 + num)

/-- The first sample instant at least 100 µs from now (R340). -/
def State.soonest (s : State) : Nat := s.sampleFrom (s.timebase + 100000)

/-- Enabled endpoints outside the masks that wait start alone (R340). -/
def State.startAlone (s : State) : State :=
  starters.foldl (fun s e =>
    let k := audioKey e.1 e.2
    let p := s.endpointAt k
    if s.starterOn e.1 e.2 ∧ !p.started ∧ p.startAt = 0 ∧ !s.masked e.1 e.2 then
      s.putEndpoint k { p with startAt := s.soonest + 1 }
    else s) s

/-- STATE of AUDIO_START (Table 11.7). -/
def State.audioStartState (s : State) : Nat :=
  let l := (starters.filter (fun e => s.starterOn e.1 e.2 && s.masked e.1 e.2)).map
    (fun e => s.endpointAt (audioKey e.1 e.2))
  if s.audio.startAt ≠ 0 then 1
  else if l.any (fun e => e.started && e.stopping) then 5
  else if l.any (fun e => e.started && e.zeroLeft != 0) then 2
  else if l.any (fun e => e.started && e.rampLeft != 0) then 3
  else if l.any (·.started) then 4 else 0

/-! ### Sources and their delay lines -/

/-- A sample frame joins the delay line of its source, which holds 2 s (R332); delay lines that DRAM lost hold nothing
(R359). -/
def State.pushLine (s : State) (k : Nat) (f : List Int) : State :=
  let l := Store.read (fun _ => []) s.audio.lines k
  let l := if s.audio.lost || (f.isEmpty && l.isEmpty) then [] else (f :: l).take (2 * s.matrixRate + 1)
  { s with audio := { s.audio with lines := Store.write (fun _ => []) s.audio.lines k l } }

/-- What channel `i` of a source gave `d` sample frames ago. -/
def State.heardAt (s : State) (k i d : Nat) : Int :=
  frameChannel (((Store.read (fun _ => []) s.audio.lines k)[d]?).getD []) i

/-- Channels that an input's transport carries; SDI and ST 2022-6 at 48 kHz only (R326). -/
def State.embeddedChannels (s : State) (n : Nat) : Nat :=
  match s.rd Dict.INPUT_TRANSPORT n with
  | 2 | 4 => if s.matrixRate = 48000 then 16 else 0
  | 3 => 8
  | _ => 0

/-- The sample frame that a SAP gives or that arrives on it, through its layers (R335, R341). -/
def State.sapFrame (s : State) (n : Nat) (arrived : List Int) : State × List Int :=
  let k := audioKey 1 n
  let e := s.endpointAt k
  if !s.flag Dict.SAP_ENABLE n ∨ s.sapSends n ∨ !e.started then (s, [])
  else
    let width := s.sapSlots n
    let (x, fifo, slip) := if s.sapSlave n then popElastic e.fifo else (arrived, e.fifo, false)
    let x := (x.take width).map (narrow (s.rd Dict.SAP_WORD_BITS n))
    let (y, e) := { e with fifo }.shape (fun _ => false) x
    let s := (s.putEndpoint k e).countSlips 1 n slip.toNat
    (s, if e.lostNow ∨ e.mismatch then [] else y)

/-- The sample frame of an input's embedded audio, from what has arrived since the last instant (R326, R337); audio that
cannot be taken keeps its rate mismatch (R324). -/
def State.inputFrame (s : State) (n : Nat) (arrived : List (List Int)) : State × List Int :=
  let k := audioKey 2 n
  let h := s.rd Dict.INPUT_HEALTH n
  let width := s.embeddedChannels n
  if !(h = 2 ∨ h = 3) then (s.putEndpoint k Endpoint.init, [])
  else if width = 0 then
    (s.modEndpoint k (fun e => { Endpoint.init with rate := e.rate, mismatch := e.mismatch }), [])
  else
    let e := s.endpointAt k
    if !e.started ∧ arrived.isEmpty then (s, [])
    else
      let fifo := ((if e.started then e.fifo else halfFull) ++ arrived).take 64
      let (x, fifo, slip) := popElastic fifo
      let s := (s.putEndpoint k { e with fifo, started := true }).countSlips 2 n slip.toNat
      (s, if e.mismatch then [] else x.take width)

/-- Frames of a receiver's packets whose PLAYOUT has passed enter its elastic buffer (R327). -/
def State.releasePackets (s : State) (e : Endpoint) : Endpoint :=
  e.held.foldl (fun e p =>
    let due := min p.2.2.length ((s.now - p.2.1) * s.matrixRate / nsPerS + 1)
    if p.2.1 ≤ s.now then
      let rest := p.2.2.drop due
      { e with
        fifo := (e.fifo ++ p.2.2.take due).take 64
        held := if rest.isEmpty then e.held
          else e.held ++ [(p.1, p.2.1 + due * nsPerS / s.matrixRate, rest)] }
    else { e with held := e.held ++ [p] }) { e with held := [] }

/-- The sample frame of a stream receiver (R327, R337). -/
def State.receiverFrame (s : State) (n : Nat) : State × List Int :=
  let k := audioKey 3 n
  let e := s.endpointAt k
  if !s.streamOn n ∨ !e.started then (s, [])
  else
    let e := s.releasePackets e
    let (x, fifo, slip) := popElastic e.fifo
    let (y, e) := { e with fifo }.shape (fun _ => s.streamAes3 n) x
    let s := (s.putEndpoint k e).countSlips 3 n slip.toNat
    (s, if e.lostNow ∨ e.mismatch then [] else y.take (s.streamChannels n))

/-- The sample frame of a player at timebase time `t`; a clip at another rate supplies silence (R324, R326). -/
def State.playerSound (s : State) (n t : Nat) : State × List Int :=
  let p := s.playerAt n
  let clip := s.playerClip n
  let k := audioKey 7 n
  let e := s.endpointAt k
  match p.sound.find? (fun a => decide (a.1 ≤ t)) with
  | none => (if e.mismatch then s.putEndpoint k { e with mismatch := false } else s, [])
  | some (t0, frames) =>
    let bad := clip.audioRate != s.matrixRate
    let s := if bad != e.mismatch then s.putEndpoint k { e with mismatch := bad } else s
    let s := s.raiseIf (bad && !e.mismatch) Event.AUDIO_RATE_MISMATCH k clip.audioRate
    (s, if bad then [] else (frames[(s.sampleFrom t - s.sampleFrom t0)]?).getD [])

/-- What a sample frame takes from the sources: frames of the master SAPs that receive, and the sample frames of
embedded audio that have arrived since the last one. -/
def State.takeSources (s : State) (t : Nat) (saps : List (Nat × List Int)) (inputs : List (Nat × List (List Int))) :
    State :=
  let s := (List.range 8).foldl (fun s n =>
    let (s, f) := s.sapFrame n (((saps.find? (·.1 == n)).map Prod.snd).getD [])
    s.pushLine (soundKey 1 n) f) s
  let s := (List.range 64).foldl (fun s n =>
    let (s, f) := s.inputFrame n (((inputs.find? (·.1 == n)).map Prod.snd).getD [])
    s.pushLine (soundKey 2 n) f) s
  let s := (List.range 64).foldl (fun s n =>
    let (s, f) := s.receiverFrame n
    s.pushLine (soundKey 3 n) f) s
  (List.range 32).foldl (fun s n =>
    let (s, f) := s.playerSound n t
    s.pushLine (soundKey 4 n) f) s

/-! ### Channel entries (Table 11.5) -/

/-- Whether the fields of an enabled channel entry lie in their ranges, and its reserved ones are 0 (Tables 11.1 and
11.5). -/
def State.channelValid (s : State) (b : List Byte) : Bool :=
  let numbers := match chKind b with | 0 => 65536 | 1 => 8 | 2 => 64 | 3 => 64 | 4 => 32 | 5 => 64 | _ => 0
  decide (chNumber b < numbers ∧ chChannel b < (if chKind b = 1 then 16 else if chKind b = 0 then 256 else 64))
    && decide (byteAt b 4 < 16 ∧ byteAt b 5 = 0 ∧ leAt b 14 2 = 0)
    && decide (-12000 ≤ chGain b ∧ chGain b ≤ 1200)
    && decide (chDelay b ≤ 2 * s.matrixRate ∧ chRamp b ≤ 500)

/-! ### Alignment and delay (R332) -/

/-- The mean latency of an input for canvas `c` (R185). -/
def State.latencyFor (s : State) (n c : Nat) : Nat :=
  if s.rd Dict.INPUT_TIMING_CLASS n = 1 then s.rd Dict.INPUT_LATENCY n
  else
    let l := Store.read (fun _ => []) (s.inputAt n).latencies c
    l.foldl (· + ·) 0 / max 1 l.length

/-- The canvas that gives the LATENCY of an input: the one with the largest (R332). -/
def State.latencyCanvas (s : State) (n : Nat) : Option Nat :=
  (s.canvasesNaming 1 n).foldl (fun best c =>
    match best with
    | none => some c
    | some b => if s.latencyFor n b < s.latencyFor n c then some c else some b) none

/-- The canvas whose presentation instants an entry's source obeys (R329, R332). -/
def State.canvasOf (s : State) (b : List Byte) : Option Nat :=
  match chKind b with
  | 5 => some (chNumber b / 8)
  | 2 => s.latencyCanvas (chNumber b)
  | _ => none

/-- Timing class, latency and lead of a source under an entry now (R332). -/
def State.alignmentOf (s : State) (b : List Byte) (source : Nat) : Nat × Nat × Nat :=
  let n := source % 65536
  if source / 65536 ≠ 2 then (0, 0, 0)
  else
    match s.canvasOf b with
    | none => (0, 0, 0)
    | some c =>
      let lat := if chKind b = 5 then s.latencyFor n c else s.rd Dict.INPUT_LATENCY n
      (s.rd Dict.INPUT_TIMING_CLASS n, lat, s.leadTerm c)

/-- The total delay asked for, in sample frames, before the cap (R332). -/
def State.totalDelay (s : State) (b : List Byte) (v : Voice) : Nat :=
  let align := if chAlign b ∧ (chKind b = 2 ∨ chKind b = 3 ∨ chKind b = 5) then v.latency * 1000 + v.lead else 0
  chDelay b + nearest 9 ((align * s.matrixRate : Nat) : Int) nsPerS

/-- A voice reads at a new position, with a crossfade of 2 ms from the old one (R332). -/
def State.moveVoice (s : State) (v : Voice) (d : Nat) : Voice :=
  if d = v.delay then v
  else { v with oldDelay := v.delay, delay := d, delayLeft := s.framesIn 2 }

/-- A voice at the total delay its entry asks for, at most 2 s (R332). -/
def State.delayVoice (s : State) (b : List Byte) (v : Voice) : Voice :=
  s.moveVoice v (min (2 * s.matrixRate) (s.totalDelay b v))

/-- A new voice, at full gain and at its delay. -/
def State.newVoice (s : State) (b : List Byte) (source : Nat) : Voice :=
  let (timing, latency, lead) := s.alignmentOf b source
  let v : Voice := ⟨source, chChannel b, 65536, 65536, 0, 0, true, 0, 0, 0, timing, latency, lead⟩
  let v := s.delayVoice b v
  { v with delayLeft := 0 }

/-- The gain of a voice now. -/
def Voice.gain (v : Voice) : Int := fadeGain v.fromGain v.toGain v.length v.left v.equalPower

/-- A voice that fades from its present gain to 0 over `n` frames. -/
def Voice.fadeOut (v : Voice) (n : Nat) (equalPower : Bool) : Voice :=
  { v with fromGain := v.gain, toGain := 0, length := n, left := n, equalPower }

/-- The voices of a channel after its source changes: the new one fades in over `n` frames and the present one out;
what was fading out already does so over `old` frames (R329 to R331). -/
def switchVoices (new : Voice) (voices : List Voice) (n old : Nat) (equalPower : Bool) : List Voice :=
  let main := voices.filter (fun v => v.toGain != 0)
  let gone := voices.filter (fun v => v.toGain == 0)
  (if n = 0 then new
   else { new with fromGain := 0, toGain := 65536, length := n, left := n, equalPower })
    :: (if n = 0 then [] else main.map (fun v => v.fadeOut n equalPower))
    ++ (if old = 0 then [] else gone.map (fun v => v.fadeOut old true))

/-- The sample of a voice, in a crossfade of positions where its delay has changed (R332). -/
def State.voiceSample (s : State) (v : Voice) : Int :=
  let x := s.heardAt v.source v.channel v.delay
  let n := s.framesIn 2
  if v.delayLeft = 0 then x
  else if n ≤ v.delayLeft then s.heardAt v.source v.channel v.oldDelay
  else
    scaleBy (s.heardAt v.source v.channel v.oldDelay) (sinQuarter v.delayLeft n)
      + scaleBy x (sinQuarter (n - v.delayLeft) n)

/-- The voices one sample frame on; a voice that has faded out is gone. -/
def stepVoices (l : List Voice) : List Voice :=
  (l.map (fun v => { v with left := v.left - 1, delayLeft := v.delayLeft - 1 })).filter
    (fun v => !(v.toGain == 0 && v.left == 0))

/-! ### Destinations (R325, R328, R333, R334) -/

/-- The destination that gates a channel now: one that is no permitted, authenticated head while the channel carries
protected content (R27, R334). -/
def State.gatingDest (s : State) (k : Nat) (ch : Channel) : Option (Nat × Nat) :=
  if ch.voices.any (fun v => v.source / 65536 == 2 && s.flag Dict.INPUT_PROTECTED (v.source % 65536)) then
    (s.destsOf k).find? (fun d => !(s.destPermitted d && s.authenticated d.2))
  else none

/-! ### One sample frame of a channel -/

/-- The target of a channel's gain and mute, in 1/65,536 (R325). -/
def entryGain (b : List Byte) : Int := if chMute b then 0 else gainOf (chGain b)

/-- The frames of a fade-out that a preempted mix leaves: RAMP, or 1 ms (R331). -/
def State.preemptFrames (s : State) (b : List Byte) : Nat := s.framesIn (max 1 (chRamp b))

/-- What the layer that an entry follows showed in the base frame presented last: kind and number (R331). -/
def State.entryShows (s : State) (b : List Byte) : Nat × Nat :=
  if chKind b = 5 then let (kind, num, _) := s.heardOn (chNumber b); (kind, num) else (0, 0)

/-- A new entry of a channel applies (R331, R332, R344). -/
def State.applyEntry (s : State) (ch : Channel) (b : List Byte) : Channel :=
  let old := ch.entry
  let source := s.sourceOf b
  if !chOn b then { Channel.init with entry := b }
  else if !chOn old then
    { ch with
      entry := b, shown := s.entryShows b, voices := [s.newVoice b source]
      gainFrom := entryGain b, gainTo := entryGain b, gainLeft := 0 }
  else
    let main := ch.voices.head?
    let cut := s.transparent source || (match main with | some v => s.transparent v.source | none => false)
    let n := if cut then 0 else s.framesIn (chRamp b)
    let ch := if chSource b = chSource old then ch
      else { ch with shown := s.entryShows b, voices := switchVoices (s.newVoice b source) ch.voices n n true }
    let fresh (v : Voice) : Voice :=
      if chAlign b ∧ !chAlign old then
        let (timing, latency, lead) := s.alignmentOf b v.source
        { v with timing, latency, lead }
      else v
    let ch := if chDelay b = chDelay old ∧ chAlign b = chAlign old then ch
      else { ch with voices := ch.voices.map (fun v => s.delayVoice b (fresh v)) }
    let ch := if entryGain b = ch.gainTo then ch
      else { ch with
        gainFrom := fadeGain ch.gainFrom ch.gainTo (s.framesIn 1) ch.gainLeft false
        gainTo := entryGain b, gainLeft := s.framesIn 1 }
    { ch with entry := b }

/-- A channel that follows a layer changes to the source that the base frame presented now shows, be it one without audio
(R329 to R331). -/
def State.follow (s : State) (ch : Channel) : Channel :=
  let b := ch.entry
  let (kind, num, mix) := s.heardOn (chNumber b)
  let source := layerSound kind num
  match ch.voices.head? with
  | none => ch
  | some v =>
    if ch.shown = (kind, num) then ch
    else
      let c := chNumber b / 8
      let n := if s.transparent source ∨ s.transparent v.source then 0
        else if mix = 0 then s.framesIn (chRamp b)
        else mix * s.ftgNum (s.canvasFtg c) * s.matrixRate / (s.ftgDen (s.canvasFtg c) * nsPerS)
      { ch with
        shown := (kind, num)
        voices := switchVoices (s.newVoice b source) ch.voices n (s.preemptFrames b) (mix = 0 || chXfade b) }

/-- Whether a voice of a channel that follows a layer carries an input that the running canvas no longer names: its frames
composed before are still to be presented, and it keeps its alignment (R332). -/
def State.outgoing (s : State) (b : List Byte) (v : Voice) : Bool :=
  chKind b == 5 && v.source / 65536 == 2 && s.canvasRuns (chNumber b / 8)
    && !(s.canvasesNaming 1 (v.source % 65536)).contains (chNumber b / 8)

/-- A voice's alignment is taken up where its timing class or lead has changed, or its latency by more than 1 ms
(R332). -/
def State.realign (s : State) (b : List Byte) (v : Voice) : Voice :=
  let (timing, latency, lead) := s.alignmentOf b v.source
  if chAlign b ∧ s.outgoing b v = false ∧ (timing ≠ v.timing ∨ lead ≠ v.lead ∨ 1000 < latency - v.latency ∨ 1000 < v.latency - latency) then
    s.delayVoice b { v with timing, latency, lead }
  else v

/-- The cap of a channel's delay, with its event when it begins to apply (R332). -/
def State.judgeClamp (s : State) (k : Nat) : State :=
  let ch := s.channelAt k
  let want := match ch.voices.head? with | some v => s.totalDelay ch.entry v | none => 0
  let on := decide (2 * s.matrixRate < want)
  (s.putChannel k { ch with clamped := on }).raiseIf (on && !ch.clamped) Event.AUDIO_DELAY_CLAMPED
    (audioKey 5 k) (want * 1000000 / s.matrixRate)

/-- The gating of a channel, with its events (R334). -/
def State.judgeChannel (s : State) (k : Nat) : State :=
  let ch := s.channelAt k
  match s.gatingDest k ch with
  | some d =>
    (s.putChannel k { ch with gated := true }).raiseIf (!ch.gated) Event.AUDIO_GATED (audioKey 5 k)
      (if d.1 = 6 then d.2 else 0xFF)
  | none => (s.putChannel k { ch with gated := false }).raiseIf ch.gated Event.AUDIO_GATE_END (audioKey 5 k) 0

/-- What a channel carries in this sample frame (R325, R333, R334). -/
def State.channelValue (s : State) (ch : Channel) : Int :=
  if ch.gated then 0
  else
    match ch.voices.head? with
    | none => 0
    | some v =>
      if s.transparent v.source then (if chMute ch.entry then 0 else s.heardAt v.source v.channel v.delay)
      else
        let sum := ch.voices.foldl (fun x v => x + scaleBy (s.voiceSample v) v.gain) 0
        clipSample (scaleBy sum (fadeGain ch.gainFrom ch.gainTo (s.framesIn 1) ch.gainLeft false))

/-- One sample frame of matrix channel `k`; `passed` are the canvases of which a base frame is presented now. -/
def State.stepChannel (s : State) (passed : List Nat) (k : Nat) : State :=
  let b := s.channelEntryAt k
  let ch := s.channelAt k
  if ch.entry = b ∧ !chOn b then s
  else
    let ch := if ch.entry = b then ch else s.applyEntry ch b
    let due : Bool := match s.canvasOf b with | some c => passed.contains c || !s.canvasRuns c | none => true
    let ch := if due ∧ chKind b = 5 then s.follow ch else ch
    let ch := if due then { ch with voices := ch.voices.map (s.realign b) } else ch
    let s := (s.putChannel k ch).judgeClamp k
    let s := if due then s.judgeChannel k else s
    let ch := s.channelAt k
    s.putChannel k { ch with
      value := s.channelValue ch, voices := stepVoices ch.voices, gainLeft := ch.gainLeft - 1 }

/-- Base frames whose presentation instants have come by `t`: what their layers show is heard from now on, and the
canvases of which there are such (R329). -/
def State.passPresents (s : State) (t : Nat) : State × List Nat :=
  allCanvases.foldl (fun (s, l) c =>
    let v := s.canvasAt c
    let gone := v.presents.takeWhile (fun p => decide (p.1 ≤ t))
    match gone.getLast? with
    | none => (s, l)
    | some p =>
      (s.putCanvas c { v with presents := v.presents.drop gone.length, heard := p.2 }, l ++ [c])) (s, [])

/-! ### Destinations of a sample frame -/

/-- The value of the matrix channel that a map names; none carries zero (R325). -/
def State.matrixValue (s : State) (k : Nat) : Int := if k < 256 then (s.channelAt k).value else 0

/-- Whether the matrix channel that a map names is transparent. -/
def State.rawChannel (s : State) (k : Nat) : Bool := k < 256 && s.entryTransparent (s.channelEntryAt k)

/-- The level of FSYNC in each BCLK cycle of a frame, from the first bit of slot 0 (Table 11.2): I²S low for slot 0 and
changing one BCLK early, left-justified high for slot 0, TDM a pulse of one BCLK or one slot that begins one BCLK early. -/
def fsyncLevels (format slots width : Nat) : List Bool :=
  (List.range (32 * slots)).map (fun i =>
    let next := (i + 1) % (32 * slots)
    match format with
    | 0 => decide (32 ≤ next)
    | 1 => decide (i < 32)
    | _ => decide (next < (if width = 0 then 1 else 32)))

/-- MCLK, BCLK and FSYNC of a master SAP that runs, for one sample frame: BCLK is 32 × slots × MATRIX_RATE, MCLK the audio
clock × DIV_NUM / DIV_DEN (R335, R336). -/
def State.driveClocks (s : State) (n : Nat) : State :=
  if s.flag Dict.SAP_ENABLE n ∧ !s.sapSlave n ∧ (s.endpointAt (audioKey 1 n)).started then
    let mclk := if s.flag Dict.SAP_MCLK_OUT n then
      1179648000 * s.rd Dict.SAP_DIV_NUM n / max 1 (s.rd Dict.SAP_DIV_DEN n) else 0
    s.out (.clocks n mclk (32 * s.sapSlots n * s.matrixRate) (s.flag Dict.SAP_BCLK_EDGE n)
      (fsyncLevels (s.rd Dict.SAP_FORMAT n) (s.sapSlots n) (s.rd Dict.SAP_FSYNC_WIDTH n)))
  else s

/-- One sample frame of a SAP that sends: on its pins at once for a master, into its FIFO for a slave (R335, R337,
R341). -/
def State.feedSap (s : State) (n : Nat) : State :=
  let k := audioKey 1 n
  let e := s.endpointAt k
  if !s.flag Dict.SAP_ENABLE n ∨ !s.sapSends n ∨ !e.started then s
  else
    let chans := s.destChannels 1 n
    let raw (i : Nat) : Bool := s.rawChannel ((chans[i]?).getD 0xFFFF)
    let (y, e) := e.shape raw (chans.map s.matrixValue)
    let y := (y.zipIdx).map (fun p => if raw p.2 then p.1 else narrow (s.rd Dict.SAP_WORD_BITS n) p.1)
    if s.sapSlave n then
      let (fifo, slip) := pushElastic e.fifo (if e.lostNow ∨ e.mismatch then y.map (fun _ => 0) else y)
      (s.putEndpoint k { e with fifo }).countSlips 1 n slip.toNat
    else (s.putEndpoint k { e with last := y }).out (.audio 1 n y)

/-- Kind of an audio stream packet on the wire: RTP sequence and time-stamp, then the samples. -/
abbrev packetAudio : Nat := 8

/-- Sample frames in a packet of stream `k` (R327). -/
def State.packetFrames (s : State) (k : Nat) : Nat :=
  s.matrixRate / (if byteAt (s.streamEntryAt k) 4 = 0 then 1000 else 8000)

/-- Bytes of a sample in the packets of a stream: 2 or 3, and 4 for an AES3 subframe (R327, log 26). -/
def streamBytes (b : List Byte) : Nat := if bit (byteAt b 0) 1 then 4 else byteAt b 6 / 8

/-- One sample frame of a stream sender; a full packet is sent (R327). -/
def State.feedSender (s : State) (n : Nat) : State :=
  let k := audioKey 4 n
  let e := s.endpointAt k
  let b := s.streamEntryAt (64 + n)
  if !s.streamOn (64 + n) ∨ !e.started then s
  else
    let chans := s.destChannels 4 n
    let raw (i : Nat) : Bool := s.rawChannel ((chans[i]?).getD 0xFFFF)
    let (y, e) := e.shape raw (chans.map s.matrixValue)
    let width := streamBytes b
    let y := (y.zipIdx).map (fun p => if width = 4 then p.1 else narrow (8 * width) p.1)
    let packet := e.packet ++ [y]
    if packet.length < s.packetFrames (64 + n) then s.putEndpoint k { e with packet }
    else
      let first := s.audio.next + 1 - packet.length
      let payload := (packet.flatMap id).flatMap (fun x => (beBytes 4 (unsigned 32 x)).take width)
      let bytes := beBytes 2 (e.nextSeq % 65536) ++ beBytes 4 (first % 2 ^ 32) ++ payload
      let s := s.putEndpoint k { e with packet := [], nextSeq := (e.nextSeq + 1) % 65536 }
      if s.portLive (byteAt b 1) then (s.out (.packet packetAudio n bytes)).inc Dict.PORT_TX_FRAMES (byteAt b 1) else s

/-- The embedder of a running head (R328). -/
def State.feedHead (s : State) (h : Nat) : State :=
  let chans := s.destChannels 6 h
  if (s.headAt h).running ∧ chans.any (· != 0xFFFF) then s.out (.audio 6 h (chans.map s.matrixValue)) else s

/-- The channels of a running capture (R370). -/
def State.feedCapture (s : State) (j : Nat) : State :=
  let c := s.captureAt j
  let n := (s.clipAt (c.clip - 1)).audioChannels
  if c.clip = 0 ∨ n = 0 then s
  else s.putCapture j { c with
    sound := (List.range n).map (fun i => narrow 24 (s.matrixValue (c.first + i))) :: c.sound }

/-- Endpoints whose stop has run its course: their clocks stop, and they wait for another start (R340, R341). -/
def State.endStops (s : State) : State :=
  let done := starters.filter (fun e => (s.endpointAt (audioKey e.1 e.2)).stopDone)
  let s := done.foldl (fun s e =>
    let s := s.modEndpoint (audioKey e.1 e.2) (fun p => { p with
      started := false, stopping := false, fifo := [], packet := [] })
    if e.1 = 1 then s.judgeSap e.2 else s) s
  s.raiseIf (!done.isEmpty) Event.AUDIO_STOPPED (s.rd Dict.AUDIO_START_SAP_MASK) 0

/-- A sample frame of the matrix at its next instant (R323). -/
def State.sampleFrame (s : State) (saps : List (Nat × List Int)) (inputs : List (Nat × List (List Int))) : State :=
  let i := s.audio.next
  let t := s.sampleAt i
  if 3 ≤ s.devState ∧ s.devState ≤ 5 ∧ i * nsPerS ≤ s.timebase * s.matrixRate then
    let s := s.takeSources t saps inputs
    let (s, passed) := s.passPresents t
    let s := (List.range 256).foldl (fun s k => s.stepChannel passed k) s
    let s := (List.range 8).foldl State.driveClocks s
    let s := (List.range 8).foldl State.feedSap s
    let s := (List.range 64).foldl State.feedSender s
    let s := allHeads.foldl State.feedHead s
    let s := [0, 1].foldl State.feedCapture s
    let s := s.endStops
    let s := (List.range 8).foldl State.judgeSap s
    { s with audio := { s.audio with next := i + 1 } }
  else s

/-- The sample grid moves with the timebase by `d` ns: whole sample frames are dropped or repeated under a crossfade
of 2 ms (R342). -/
def State.jumpAudio (s : State) (d : Int) : State :=
  let k : Nat := d.natAbs * s.matrixRate / nsPerS
  let fwd := decide (0 < d)
  let old := s.audio.next
  let next := s.sampleFrom s.timebase
  let move (i : Nat) : Nat := if i = 0 then 0 else i + next - old
  let line (l : List (List Int)) : List (List Int) :=
    if fwd then (List.replicate k ((l.head?).getD []) ++ l).take (2 * s.matrixRate + 1) else l.drop k
  let s := { s with audio := { s.audio with
    next, startAt := move s.audio.startAt, 
    lines := (s.audio.lines.map (fun e => (e.1, line e.2))).filter (fun e => !e.2.isEmpty) } }
  let s := (List.range 256).foldl (fun s n =>
    let ch := s.channelAt n
    if ch.voices.isEmpty then s
    else s.putChannel n { ch with voices := ch.voices.map (fun v =>
      if k = 0 then v
      else { v with oldDelay := if fwd then v.delay + k else v.delay - k, delayLeft := s.framesIn 2 }) }) s
  let s := starters.foldl (fun s e =>
    let p := s.endpointAt (audioKey e.1 e.2)
    let s := s.putEndpoint (audioKey e.1 e.2) { p with startAt := move p.startAt }
    if p.started then s.countSlips e.1 e.2 k else s) s
  let s := allCanvases.foldl (fun s c => s.modCanvas c (fun v => { v with
    presents := v.presents.map (fun p => (((p.1 : Int) + d).toNat, p.2)) })) s
  (List.range 32).foldl (fun s n => s.modPlayer n (fun p => { p with
    sound := p.sound.map (fun a => (((a.1 : Int) + d).toNat, a.2)) })) s

end Sys2Proof.Machine
end

