-- ==== Sys2Proof/Machine/IngestOps.lean ====
section
/-! DEFINITION. What becomes of a received frame before it is stored (R100, R101), and the descriptor of an input
judged as a whole (R94, R95). -/
namespace Sys2Proof.Machine
open Sys2Proof

/-! ### Ingest (R100, R101) -/

/-- The row of a picture as received that holds line `y` of the frame: the fields, or the segments of a PsF frame,
arrive one after the other (R100 step 1). -/
def wovenRow (scan height y : Nat) : Nat :=
  if scan = 0 then y else if y % 2 = 0 then y / 2 else (height + 1) / 2 + y / 2

/-- A component of a frame as received, lines woven, edges repeated. -/
def codeAt (p : Picture) (scan comp : Nat) (x y : Int) : Nat :=
  let cx := (clampInt 0 (p.width - 1 : Nat) x).toNat
  let cy := wovenRow scan p.height (clampInt 0 (p.height - 1 : Nat) y).toNat
  (((p.pixels[cy * p.width + cx]?).getD [])[comp]?).getD 0

/-- The four even places around an odd one. -/
def evenAround (v : Int) : List Int := [v - 3, v - 1, v + 1, v + 3]

/-- Component `comp` of place (x, y) after chroma interpolation (R100 step 2). -/
def State.interpolated (s : State) (n : Nat) (p : Picture) (comp : Nat) (x y : Int) : Nat :=
  let scan := s.rd Dict.INPUT_SCAN n
  let sampling := s.rd Dict.INPUT_SAMPLING n
  let t := s.rd Dict.INPUT_TRANSPORT n
  let limit := 2 ^ s.rd Dict.INPUT_DEPTH n
  let across (y : Int) : Nat :=
    if comp = 0 ∨ sampling = 1 ∨ sampling = 2 ∨ x % 2 = 0 then codeAt p scan comp x y
    else Config.chromaFilter t ((evenAround x).map (fun x => codeAt p scan comp x y)) % limit
  if comp ≠ 0 ∧ sampling = 3 ∧ y % 2 ≠ 0 then Config.chromaFilter t ((evenAround y).map across) % limit
  else across y % limit

/-- Pixels averaged by a pre-decimation code (R101). -/
def boxOf (d : Nat) : Nat := if d = 1 then 2 else if d = 2 then 4 else 1

/-- A stored component in the engines' form: 8 bits extended to 10, then as ING32 or ING48 (R9, R100). -/
def ingestCode (depth v : Nat) : Nat :=
  if depth = 12 then extendBits 16 12 v
  else extendBits 16 10 (if depth = 8 then extendBits 10 8 v else v)

/-- A received frame as it is stored (R100, R101): codes of the descriptor's DEPTH as the transport sends them.  A box that
the right or bottom edge cuts repeats the edge pixel (DESIGN CHOICE, log 70). -/
def State.ingested (s : State) (n : Nat) (p : Picture) : Raster :=
  let d := s.rd Dict.INPUT_DECIMATE n
  let bx := boxOf (field d 1 0)
  let by_ := boxOf (field d 3 2)
  let depth := s.rd Dict.INPUT_DEPTH n
  let (w, h) := s.storedRaster n
  let comp (c x y : Nat) : Nat :=
    if bx * by_ = 1 then s.interpolated n p c x y
    else
      let sum : Nat := (List.range by_).foldl (fun a j => (List.range bx).foldl (fun a i =>
        a + s.interpolated n p c (min (x * bx + i) (p.width - 1) : Nat) (min (y * by_ + j) (p.height - 1) : Nat)) a) 0
      (nearby 8 sum (bx * by_)).toNat % 2 ^ depth
  Raster.build w h (fun x y =>
    ⟨ingestCode depth (comp 0 x y), ingestCode depth (comp 1 x y), ingestCode depth (comp 2 x y), 65535⟩)

/-! ### The descriptor (R94, R95, R99) -/

/-- Bits per pixel that count towards the active bit rate, times 2 (R94). -/
def bitsTimes2 (sampling depth : Nat) : Nat :=
  match sampling with | 0 => 4 * depth | 3 => 3 * depth | _ => 6 * depth

/-- Twice an input's active bit rate times its RATE_DEN, and that denominator (R94). -/
def State.activeRate (s : State) (n : Nat) : Nat × Nat :=
  (s.rd Dict.INPUT_WIDTH n * s.rd Dict.INPUT_HEIGHT n * s.rd Dict.INPUT_RATE_NUM n
    * bitsTimes2 (s.rd Dict.INPUT_SAMPLING n) (s.rd Dict.INPUT_DEPTH n), max 1 (s.rd Dict.INPUT_RATE_DEN n))

/-- The sum of two rates in that form. -/
def addRates (a b : Nat × Nat) : Nat × Nat := (a.1 * b.2 + b.1 * a.2, a.2 * b.2)

/-- Whether a rate in that form exceeds `limit` bit/s. -/
def rateAbove (limit : Nat) (a : Nat × Nat) : Bool := decide (2 * limit * a.2 < a.1)

/-- The group or SDI lane of a D-lane input. -/
def State.inputGroup (s : State) (n : Nat) : Nat :=
  if s.rd Dict.INPUT_TRANSPORT n = 4 then s.rd Dict.INPUT_PORT_A n / 4 else s.rd Dict.INPUT_PORT_A n

/-- Sampling, depth and scan that a transport takes (Table 4.1); `dp` for DisplayPort. -/
def transportTakes (transport : Nat) (dp : Bool) (sampling depth scan : Nat) : Bool :=
  match transport with
  | 1 => sampling == 0 || ((sampling == 1 || sampling == 2) && depth != 8)
  | 2 => sampling == 0 && depth == 10
  | 3 =>
    (match sampling with
     | 0 => depth == 12 || (dp && depth == 10)
     | 3 => !dp
     | _ => true) && (scan == 0 || (scan == 1 && !dp))
  | _ => sampling == 0 && depth == 10

/-- Highest payload of a transport over SDI, in bit/s (Table 4.1, R76); none for the others. -/
def sdiLimit (transport : Nat) : Option Nat :=
  match transport with | 2 => some 2970000000 | 4 => some 11880000000 | _ => none

/-- The ports, groups and lanes that an input names fit its transport (Table 4.1). -/
def State.placeFits (s : State) (n : Nat) : Bool :=
  let a := s.rd Dict.INPUT_PORT_A n
  match s.rd Dict.INPUT_TRANSPORT n with
  | 3 => decide (a < 4) && (s.rd Dict.GROUP_PORT_MODE a == 1 || s.rd Dict.GROUP_PORT_MODE a == 3)
  | 4 => decide (a < 16) && s.rd Dict.GROUP_PORT_MODE (a / 4) == 5 && s.rd Dict.D_LANE_DIRECTION a == 0
  | _ => decide (a < 48)

/-- The ways an input receives: transport class, port, destination and UDP port of each path (R94). -/
def State.receives (s : State) (n : Nat) : List (Nat × Nat × Nat × Nat) :=
  let t := s.rd Dict.INPUT_TRANSPORT n
  if 3 ≤ t then [(t, s.rd Dict.INPUT_PORT_A n, 0, 0)]
  else
    let a := (1, s.rd Dict.INPUT_PORT_A n, s.rd Dict.INPUT_DEST_ADDR_A n, s.rd Dict.INPUT_UDP_PORT_A n)
    if s.rd Dict.INPUT_PORT_B n < 48 then
      [a, (1, s.rd Dict.INPUT_PORT_B n, s.rd Dict.INPUT_DEST_ADDR_B n, s.rd Dict.INPUT_UDP_PORT_B n)]
    else [a]

/-- Frames that an input's store holds (Table 4.4). -/
def State.storeFrames (s : State) (n : Nat) : Nat := 3 + min 2 (s.rd Dict.INPUT_CONVERSION n)

/-- Bytes of an input's frame store (R111). -/
def State.storeBytes (s : State) (n : Nat) : Nat :=
  let (w, h) := s.storedRaster n
  s.storeFrames n * w * h * s.ingestBytes n

/-- Enabled inputs other than `n`. -/
def State.otherInputs (s : State) (n : Nat) : List Nat :=
  (List.range 64).filter (fun m => m != n && s.flag Dict.INPUT_ENABLE m)

/-- Whether the active bit rates of input `n` and the other enabled inputs exceed the aggregate (R94). -/
def State.aggregateOver (s : State) (n : Nat) : Bool :=
  rateAbove 1600000000000 ((s.otherInputs n).foldl (fun r m => addRates r (s.activeRate m)) (s.activeRate n))

/-- Whether the frame store of input `n` can be allocated (R94, R111). -/
def State.storeFits (s : State) (n : Nat) : Bool := s.poolFits (poolInput n) (units2M (s.storeBytes n))

/-- What refuses an input's descriptor as a whole (R94, R99). -/
def State.judgeInput (s : State) (n : Nat) : Option Refuse :=
  let x := 0x2400 + n
  let t := s.rd Dict.INPUT_TRANSPORT n
  let b := s.rd Dict.INPUT_PORT_B n
  let dp := t == 3 && s.rd Dict.GROUP_PORT_MODE (s.rd Dict.INPUT_PORT_A n) == 3
  let others := s.otherInputs n
  let motion := s.rd Dict.INPUT_CONVERSION n == 2
  let (w, h) := s.storedRaster n
  firstOf
    [(decide (8192 < s.rd Dict.INPUT_WIDTH n), .atField 0x12 x 0x0C),
     (decide (4320 < s.rd Dict.INPUT_HEIGHT n), .atField 0x12 x 0x0D),
     (decide (120 * s.rd Dict.INPUT_RATE_DEN n < s.rd Dict.INPUT_RATE_NUM n) || s.rd Dict.INPUT_RATE_NUM n == 0,
       .atField 0x12 x 0x0E),
     (t == 0, .atField 0x12 x 2),
     (!s.placeFits n, .atField 0x12 x 3),
     ([8, 10, 12].all (fun d => !transportTakes t dp (s.rd Dict.INPUT_SAMPLING n) d 0), .atField 0x12 x 0x11),
     (!transportTakes t dp (s.rd Dict.INPUT_SAMPLING n) (s.rd Dict.INPUT_DEPTH n) 0, .atField 0x12 x 0x12),
     (!transportTakes t dp (s.rd Dict.INPUT_SAMPLING n) (s.rd Dict.INPUT_DEPTH n) (s.rd Dict.INPUT_SCAN n),
       .atField 0x12 x 0x10),
     ((match sdiLimit t with | some l => rateAbove l (s.activeRate n) | none => false), .atField 0x12 x 0x0E),
     (decide (t ≤ 2) && s.flag Dict.INPUT_FORMAT_MODE n, .atField 0x12 x 0x19),
     (b != 0xFF && (decide (3 ≤ t) || b == s.rd Dict.INPUT_PORT_A n), .atField 0x12 x 4),
     (others.any (fun m => (s.receives n).any (s.receives m).contains), .atField 0x12 x 3),
     (s.aggregateOver n, .atField 0x21 x 1),
     (motion && decide (8 ≤ (others.filter (fun m => s.rd Dict.INPUT_CONVERSION m == 2)).length),
       .atField 0x21 x 0x1B),
     (motion && decide (8900000 < w * h), .atField 0x12 x 0x1B),
     (!s.storeFits n, .atField 0x14 x 1)]

/-- What FOLLOW validates again in a measured format: the aggregate and the frame store sizes, that of a MOTION input
among them (R99, R111, log 66). -/
def State.followFits (s : State) (n : Nat) : Bool :=
  let (w, h) := s.storedRaster n
  !s.aggregateOver n && s.storeFits n && !(s.rd Dict.INPUT_CONVERSION n == 2 && decide (8900000 < w * h))

/-- The store of an input allocated by its descriptor, and its size reported in KiB (R111). -/
def State.takeStore (s : State) (n : Nat) : State :=
  (s.takePool (poolInput n) (units2M (s.storeBytes n))).wr Dict.INPUT_STORE_SIZE (ceilDiv (s.storeBytes n) 1024) n

/-- MOTION_INPUTS (R189): enabled inputs with CONVERSION MOTION. -/
def State.countMotion (s : State) : State :=
  s.wr Dict.ENGINE_POOL_MOTION_INPUTS
    ((List.range 64).filter (fun m => s.flag Dict.INPUT_ENABLE m && s.rd Dict.INPUT_CONVERSION m == 2)).length

/-- Whether a measured format differs from an input's descriptor in raster, rate, scan or sampling (R99). -/
def State.formatDiffers (s : State) (n : Nat) (m : List Byte) : Bool :=
  leAt m 0 2 != s.rd Dict.INPUT_WIDTH n || leAt m 2 2 != s.rd Dict.INPUT_HEIGHT n
    || !rateEq (leAt m 4 4) (leAt m 8 4) (s.rd Dict.INPUT_RATE_NUM n) (s.rd Dict.INPUT_RATE_DEN n)
    || byteAt m 12 != s.rd Dict.INPUT_SCAN n || byteAt m 13 != s.rd Dict.INPUT_SAMPLING n

/-- The descriptor with a measured format in its place (R99). -/
def State.takeFormat (s : State) (n : Nat) (m : List Byte) : State :=
  let s := (s.wr Dict.INPUT_WIDTH (leAt m 0 2) n).wr Dict.INPUT_HEIGHT (leAt m 2 2) n
  let s := (s.wr Dict.INPUT_RATE_NUM (leAt m 4 4) n).wr Dict.INPUT_RATE_DEN (leAt m 8 4) n
  let s := (s.wr Dict.INPUT_SCAN (byteAt m 12) n).wr Dict.INPUT_SAMPLING (byteAt m 13) n
  s.wr Dict.INPUT_DEPTH (byteAt m 14) n

end Sys2Proof.Machine
end

