-- ==== Sys2Proof/Machine/Time.lean ====
section
/-! DEFINITION. The DCO word, and one nanosecond of OSC_IN with what the timebase advances by in it (R14, R300 to
R302, R305 to R307, R312). -/
namespace Sys2Proof.Machine
open Sys2Proof

/-- Units of the DCO accumulator in 1 ns: 1/65,536e9 ns, so that a word in Q32.16 ppb adds itself each ns. -/
abbrev dcoUnit : Nat := 65536000000000

/-- Proportional and integral part of the loop's word in Q32.16 ppb, for a bandwidth in mHz, a phase error in units of the
accumulator and its sum over the ns: a second-order loop with damping 0.7, whose natural frequency is 2 π × bandwidth, so that
a time constant is 1.59 s at 0.1 Hz (R300; DEDUCED, log 24).  The factors are 2 × 0.7 × 2 π and 4 π². -/
def loopPart (mHz : Nat) (err sum : Int) : Int :=
  err * mHz * 879645943 / 10 ^ 20 + sum * mHz * mHz * 394784176 / 10 ^ 31

/-- The DCO word in force (R300 to R302, R306, R314). -/
def State.dcoWord (s : State) : Int :=
  if s.rd Dict.HENTIS_STATE = 0 then
    (if s.rd Dict.HENTIS_LOOP_MODE = 1 then s.rdInt Dict.HENTIS_STEER_FREQ else s.rdInt Dict.HENTIS_FREERUN_OFFSET)
  else
    match s.hentis.slewTo with
    | none =>
      if s.hentis.loopBw = 0 then s.hentis.word
      else s.hentis.word - loopPart s.hentis.loopBw s.hentis.loopErr s.hentis.loopSum
    | some t =>
      let d : Int := (s.rd Dict.HENTIS_SLEW_LIMIT * 65536 * (s.now - s.hentis.slewAt) / nsPerS : Nat)
      if s.hentis.slewFrom ≤ t then min t (s.hentis.slewFrom + d) else max t (s.hentis.slewFrom - d)

/-- Whether a switch is in progress (R302). -/
def State.switching (s : State) : Bool := s.rd Dict.SELECTOR_TARGET != 0xFF

/-- Whether an alignment is in progress (R310 to R313). -/
def State.aligning (s : State) : Bool := s.hentis.slewing || s.hentis.jump.isSome

/-- Whether this instant lets a second of the holdover history be valid (R305). -/
def State.secondGood (s : State) : Bool :=
  s.rd Dict.HENTIS_STATE == 2 && !s.switching && !s.aligning
    && s.rd Dict.REF_DRIFT_ALARM (s.rd Dict.SELECTOR_SELECTED) == 0

/-- How far an alignment slew moves the timebase in 1 ns, in units of the accumulator (R312). -/
def State.alignStepNow (s : State) : Int :=
  let lim : Int := (s.rd Dict.HENTIS_ALIGN_SLEW * 65536 : Nat)
  if s.hentis.slewing then clampInt (-lim) lim s.hentis.alignLeft else 0

/-- The timebase moved by a number of units of the accumulator. -/
def State.moveTimebase (s : State) (units : Int) : State :=
  let sum := ((s.timebase * dcoUnit + s.dcoRest : Nat) : Int) + units
  { s with timebase := (sum / dcoUnit).toNat, dcoRest := (sum % dcoUnit).toNat }

/-- The timebase in ps. -/
def State.timebasePs (s : State) : Nat := (s.timebase * dcoUnit + s.dcoRest) / 65536000000

/-- Kind of `WireItem.pin`: the level of CLK_OUTk (R309). -/
abbrev pinClkOut : Nat := 8

/-- The level of CLK_OUTk: a clock of NUM / DEN Hz whose cycles count from timebase zero and begin high, low while it is off
or held by a change (R309; the phase and the duty cycle DESIGN CHOICE, log 24). -/
def State.clkLevel (s : State) (k : Nat) : Bool :=
  let num := s.rd Dict.HENTIS_CLK_OUT_NUM 0 k
  let den := s.rd Dict.HENTIS_CLK_OUT_DEN 0 k
  num != 0 && decide (Store.read (fun _ => 0) s.hentis.clkLow k ≤ s.now)
    && 2 * (s.timebase * dcoUnit + s.dcoRest) * num / (max 1 den * nsPerS * dcoUnit) % 2 == 0

/-- The CLK_OUT pins whose level differs in `t` from what it was in `s`. -/
def State.clkEdges (s t : State) : List WireItem :=
  ((List.range 4).filter (fun k => s.clkLevel k != t.clkLevel k)).map (fun k => .pin pinClkOut k (t.clkLevel k).toNat)

/-- OSC_IN advances by 1 ns; the timebase by 1 ns times (1 + DCO word) and what an alignment slew adds (R307, R312,
log 18).  The holdover history's second takes the word in (R305), the loop's phase error what the word gains on the reference
(R300); CLK_OUT pins whose level changes are put out (R309). -/
def State.tick (s : State) : State :=
  let h := s.hentis
  let w := s.dcoWord
  let a := s.alignStepNow
  let err := if h.loopBw = 0 then 0 else h.loopErr + (w - h.loopFreq)
  let t := s.moveTimebase (dcoUnit + w + a)
  let t := { t with
    now := s.now + 1
    hentis := { h with
      alignLeft := h.alignLeft - a
      loopErr := err, loopSum := h.loopSum + err
      wordSum := h.wordSum + w, wordCount := h.wordCount + 1
      secondClean := h.secondClean && s.secondGood } }
  { t with wire := s.clkEdges t }

/-- CLK_OUT_NUM or CLK_OUT_DEN of pin `k` written: the change holds the pin low for at most 10 µs (R309). -/
def State.writeClkOut (s : State) (e : EntryDef) (k v : Nat) : State :=
  let t := s.wr e v 0 k
  let low := s.now + min 10000 (Config.clkHold k s.now)
  let t := { t with hentis := { t.hentis with clkLow := Store.write (fun _ => 0) t.hentis.clkLow k low } }
  { t with wire := t.wire ++ s.clkEdges t }

end Sys2Proof.Machine
end

