-- ==== Sys2Proof/Machine/RefOps.lean ====
section
/-! DEFINITION. Hentis: reference candidates, their qualification, selection, switching and holdover (R292 to R306). -/
namespace Sys2Proof.Machine
open Sys2Proof

/-! ### Candidates (R292, Table 10.1) -/

/-- Loop bandwidths of a TYPE in mHz: default, lowest and highest (Table 10.1). -/
def refBandwidth : Nat → Nat × Nat × Nat
  | 1 | 2 | 6 => (3000, 1000, 10000)
  | 3 => (300, 100, 1000)
  | 4 => (1000, 1000, 1000)
  | 5 => (10, 10, 10)
  | 7 => (30, 10, 100)
  | 8 => (30000, 10000, 100000)
  | _ => (0, 0, 0)

/-- Default FREQ_WINDOW of a TYPE in ppb (Table 10.1). -/
def refWindow : Nat → Nat
  | 1 | 2 | 6 | 7 => 10000
  | 3 | 5 => 5000
  | 4 | 8 => 50000
  | _ => 0

/-- Measurement interval of a TYPE in s (Table 10.1). -/
def refInterval (type : Nat) : Nat := if type = 5 ∨ type = 7 then 16 else 1

/-- Kind of source that a TYPE takes, and its highest number: 0 SYNC_IN, 1 REFCLK_IN, 2 Ethernet port, 3 input. -/
def refSource : Nat → Nat × Nat
  | 1 | 2 => (0, 1)
  | 3 | 4 | 5 | 6 => (1, 3)
  | 7 => (2, 47)
  | _ => (3, 63)

/-- TYPE of a candidate. -/
def State.refType (s : State) (n : Nat) : Nat := s.rd Dict.REF_TYPE n

/-- What refuses the enabling of candidate `n` (R292). -/
def State.judgeRef (s : State) (n : Nat) : Option Refuse :=
  let ty := s.refType n
  let src := s.rd Dict.REF_SOURCE n
  let (kind, top) := refSource ty
  let taken := (List.range 12).any (fun m =>
    m != n && s.flag Dict.REF_ENABLE m && s.refType m != 0 && (refSource (s.refType m)).1 == kind
      && s.rd Dict.REF_SOURCE m == src && !(ty == 8 && s.refType m == 8))
  firstOf
    [(ty == 0 || decide (top < src), .field 0x60 Dict.REF_SOURCE n),
     (ty == 7 && s.rd Dict.PORT_TYPE src == 0, .field 0x60 Dict.REF_SOURCE n),
     (ty == 8 && !s.flag Dict.INPUT_ENABLE src, .field 0x60 Dict.REF_SOURCE n),
     (taken, .field 0x60 Dict.REF_SOURCE n),
     (ty == 3 && s.rd Dict.REF_NOMINAL_NUM n == 0, .field 0x60 Dict.REF_NOMINAL_NUM n)]

/-- The nominal of candidate `n` as a rate in Hz, 0/0 while it has none (R292, Table 10.1). -/
def State.refNominal (s : State) (n : Nat) : Nat × Nat :=
  match s.refType n with
  | 5 => (1, 1)
  | 7 => (0, 0)
  | 8 =>
    let i := s.rd Dict.REF_SOURCE n
    (s.rd Dict.INPUT_RATE_NUM i, s.rd Dict.INPUT_RATE_DEN i)
  | _ =>
    if s.rd Dict.REF_NOMINAL_NUM n ≠ 0 then (s.rd Dict.REF_NOMINAL_NUM n, s.rd Dict.REF_NOMINAL_DEN n)
    else ((s.refAt n).detNum, (s.refAt n).detDen)

/-- `x` less the nearest whole multiple of `num / den`. -/
def reduceBy (num den : Nat) (x : Int) : Int :=
  if num = 0 ∨ den = 0 then x else x - roundDiv (x * den) num * num / den

/-- A phase in ps taken to the nearest instant of the candidate's own grid; in full for PTP (R302). -/
def State.refPhase (s : State) (n : Nat) (x : Int) : Int :=
  let (num, den) := s.refNominal n
  if s.refType n = 7 then x else reduceBy (1000000000000 * den) num x

/-- A whole number of ppb of a value in Q32.16. -/
def ppb (x : Int) : Int := roundDiv x 65536

/-- An integer as an event parameter, saturated to 32 bits (R322). -/
def param (x : Int) : Nat := unsigned 32 (clampInt (-2147483648) 2147483647 x)

/-- PHASE_OFFSET of a candidate taken now; for PTP it is the whole offset (R302). -/
def State.setPhase (s : State) (n : Nat) (x : Int) : State :=
  let ptp := s.refType n == 7
  (s.wrInt Dict.REF_PHASE_OFFSET (s.refPhase n x) n).modRef n (fun r => { r with
    phaseAt := s.now, phaseTb := s.timebasePs, offset := if ptp then x / 1000 else r.offset })

/-- What PHASE_OFFSET of a candidate comes to at this instant: what it was when last taken, with what the timebase has
gained since on a reference of the frequency last measured (R302, R303). -/
def State.phaseNow (s : State) (n : Nat) : Int :=
  let r := s.refAt n
  let dt := s.now - r.phaseAt
  s.rdInt Dict.REF_PHASE_OFFSET n + ((s.timebasePs : Int) - r.phaseTb) - dt * 1000 - dt * r.mean / 65536000000

/-- PHASE_OFFSET of a candidate brought up to this instant (R302, R312). -/
def State.catchPhase (s : State) (n : Nat) : State := s.setPhase n (s.phaseNow n)

/-! ### States and holdover (R300, R305, R306) -/

/-- Hentis enters a state (R300). -/
def State.setHentis (s : State) (st : Nat) : State :=
  let old := s.rd Dict.HENTIS_STATE
  if st = old then s
  else
    let s := if old = 3 then { s with hentis := { s.hentis with holdEnd := s.now } } else s
    let s := (s.wr Dict.HENTIS_STATE st).wrTime Dict.HENTIS_STATE_S Dict.HENTIS_STATE_NS s.timebase
    s.raise Event.HENTIS_STATE st old

/-- SELECTED and TARGET set; 0xFF is none (R302). -/
def State.setSelected (s : State) (sel target : Nat) : State :=
  (s.wr Dict.SELECTOR_SELECTED sel).wr Dict.SELECTOR_TARGET target

/-- The DCO word held where it is (R298, R300). -/
def State.holdWord (s : State) : State :=
  { s with hentis := { s.hentis with word := s.dcoWord, slewTo := none, loopBw := 0 } }

/-- The DCO word slews from where it is to `t` at SLEW_LIMIT (R301, R302, R306). -/
def State.slewWord (s : State) (t : Int) : State :=
  { s with hentis := { s.hentis with slewTo := some t, slewFrom := s.dcoWord, slewAt := s.now, loopBw := 0 } }

/-- The holdover value for an onset, with the entries it is the mean of; none where fewer than WINDOW are valid
(R305). -/
def State.holdValue (s : State) (onset : Nat) : Option (Int × Nat) :=
  let w := s.rd Dict.HOLDOVER_WINDOW
  let l := (s.hentis.history.filter (fun e =>
    e.valid && decide (e.endAt + s.rd Dict.HOLDOVER_GUARD * nsPerS ≤ onset))).take w
  if l.length < w then none else some ((l.map HistEntry.word).foldl (· + ·) 0 / w, w)

/-- The onset of a holdover that follows candidate `n`, 0xFF none: its last good edge, or the start of its drift
alarm if that is earlier (R305). -/
def State.onset (s : State) (n : Nat) : Nat :=
  let r := s.refAt n
  let failed := if n < 12 ∧ s.rd Dict.REF_FAIL_CAUSE n ≠ 0 then r.failedAt else s.now
  if n < 12 ∧ r.alarmSince ≠ 0 then min failed (r.alarmSince - 1) else failed

/-- With no candidate to select, Hentis enters HOLDOVER, or LOST where there is no holdover value (R300, R305,
R306). -/
def State.loseReference (s : State) (cur : Nat) : State :=
  let onset := s.onset cur
  let s := ((s.holdWord).setSelected 0xFF 0xFF)
  match s.holdValue onset with
  | none => (s.setHentis 4).raise Event.HENTIS_LOST 1 0
  | some (v, used) =>
    let s := { s with hentis := { s.hentis with
      holdSince := s.now + 1, holdValue := v, holdUsed := used, holdLimit := s.rd Dict.HOLDOVER_LIMIT } }
    let s := s.wrTime Dict.HOLDOVER_ONSET_S Dict.HOLDOVER_ONSET_NS (s.timebase - (s.now - onset))
    let s := ((s.inc Dict.HOLDOVER_HOLDOVERS).setHentis 3).slewWord v
    s.raise Event.HOLDOVER_ENTERED (param (ppb v)) used

/-! ### Selection (R302 to R304) -/

/-- Whether candidate `m` ranks above `n` (R304). -/
def State.refBefore (s : State) (m n : Nat) : Bool :=
  let p := s.rd Dict.REF_PRIORITY m
  let q := s.rd Dict.REF_PRIORITY n
  decide (p < q) || (p == q && decide (m < n))

/-- QUALIFIED candidates of PRIORITY 1 to 15, best first (R304, R317). -/
def State.ranking (s : State) : List Nat :=
  sortBy s.refBefore ((List.range 12).filter (fun n =>
    s.rd Dict.REF_QUAL_STATE n == 3 && s.rd Dict.REF_PRIORITY n != 0))

/-- What selection would choose beside `cur`, 0xFF none (R304). -/
def State.bestRef (s : State) (cur : Nat) : Nat :=
  let cands := s.ranking
  let force := s.rd Dict.SELECTOR_FORCE
  if cands.contains force then force
  else ((cands.filter (fun n => !s.flag Dict.REF_DRIFT_ALARM n || n == cur)).head?).getD 0xFF

/-- From FREERUN the loop takes candidate `r` and its frequency at once (R300). -/
def State.firstTo (s : State) (r : Nat) (freq : Int) : State :=
  let s := { s with hentis := { s.hentis with
    word := freq, slewTo := none, loopBw := 0, leftFreerun := true, boundSince := s.now + 1 } }
  (s.setSelected r 0xFF).setHentis 1

/-- A switch in progress from word `w` is re-targeted to candidate `r` (R303). -/
def State.retargetTo (s : State) (r : Nat) (freq w : Int) : State :=
  let old := s.rd Dict.SELECTOR_TARGET
  (((s.inc Dict.SELECTOR_RETARGETS).wr Dict.SELECTOR_TARGET r).slewWord freq).raise Event.REF_SWITCH_RETARGET
    (old * 256 + r) (param (ppb w))

/-- The loop is unbound while a switch slews, and HOLDOVER and LOST are left for ACQUIRING (R300, R302). -/
def State.unbind (s : State) : State :=
  let s := { s with hentis := { s.hentis with boundSince := 0 } }
  if s.rd Dict.HENTIS_STATE = 3 ∨ s.rd Dict.HENTIS_STATE = 4 then s.setHentis 1 else s

/-- A switch from word `w` to candidate `r` starts (R302). -/
def State.slewTo (s : State) (r : Nat) (freq w : Int) : State :=
  let t := (s.inc Dict.SELECTOR_SWITCH_COUNT).wrTime Dict.SELECTOR_LAST_SWITCH_S Dict.SELECTOR_LAST_SWITCH_NS s.timebase
  let t := (t.wr Dict.SELECTOR_TARGET r).raise Event.REF_SWITCH_START (s.rd Dict.SELECTOR_SELECTED * 256 + r)
    (param (ppb (freq - w)))
  (t.slewWord freq).unbind

/-- A switch to candidate `r`: its PHASE_OFFSET at this instant is the build-out; at once from FREERUN, else by slew, or
re-targeted (R300, R302, R303). -/
def State.switchTo (s : State) (r : Nat) : State :=
  let w := s.dcoWord
  let freq := (s.refAt r).mean
  let s := s.catchPhase r
  let s := { s with hentis := { s.hentis with buildOut := s.rdInt Dict.REF_PHASE_OFFSET r, ignoring := false } }
  if s.rd Dict.HENTIS_STATE = 0 then s.firstTo r freq
  else if s.rd Dict.SELECTOR_TARGET ≠ 0xFF then s.retargetTo r freq w
  else s.slewTo r freq w

/-- Selection (R304).  Under LOOP_MODE OPEN it runs on and names its choice in SELECTED, which nothing follows (R314; what
SELECTED reads there DEDUCED, log 25). -/
def State.select (s : State) : State :=
  let cands := s.ranking
  let st := s.rd Dict.HENTIS_STATE
  let cur := if s.switching then s.rd Dict.SELECTOR_TARGET else s.rd Dict.SELECTOR_SELECTED
  let force := s.rd Dict.SELECTOR_FORCE
  let best := s.bestRef cur
  let mode := s.rd Dict.HENTIS_LOOP_MODE
  let take := if mode = 0 then s.switchTo best else s.setSelected best 0xFF
  if mode = 2 then s
  else if cands.contains cur = false then
    if best ≠ 0xFF then take
    else if st = 1 ∨ st = 2 then s.loseReference cur
    else if mode = 1 then s.setSelected 0xFF 0xFF
    else s
  else if best ≠ cur ∧ (force = best ∨ (s.flag Dict.SELECTOR_REVERTIVE ∧ s.refBefore best cur)) then take
  else s

/-! ### Qualification (R295 to R299) -/

/-- A candidate's qualification state, with the selection that follows a change (R297, R304). -/
def State.setQual (s : State) (n q : Nat) : State :=
  if s.rd Dict.REF_QUAL_STATE n = q then s else (s.wr Dict.REF_QUAL_STATE q n).select

/-- The checks of candidate `n` that fail now, as FAIL_CAUSE has them; `edge` is its last good edge (R295,
R297). -/
def State.setCause (s : State) (n bits edge : Nat) : State :=
  let q := s.rd Dict.REF_QUAL_STATE n
  let s := if bits ≠ 0 ∧ s.rd Dict.REF_FAIL_CAUSE n = 0 then s.modRef n (fun r => { r with failedAt := edge }) else s
  let s := s.wr Dict.REF_FAIL_CAUSE bits n
  if q = 0 then s
  else if bits ≠ 0 then
    let s := if q = 3 then (s.inc Dict.REF_DISQUALIFICATIONS n).raise Event.REF_DISQUALIFIED n bits else s
    s.setQual n 1
  else if q = 1 then
    let wait := if s.hentis.leftFreerun then s.rd Dict.SELECTOR_WTR else s.rd Dict.SELECTOR_INITIAL_QUAL
    (s.modRef n (fun r => { r with waitSince := s.now, wait := wait })).setQual n 2
  else s

/-- Span in which glitches count (Table 10.2). -/
def State.glitchSpan (s : State) (n : Nat) : Nat := refInterval (s.refType n) * nsPerS

/-- Whether more than 4 glitches fall in the span (Table 10.2). -/
def State.glitchy (s : State) (n : Nat) : Bool :=
  decide (4 < ((s.refAt n).glitchTimes.filter (fun t => decide (s.now < t + s.glitchSpan n))).length)

/-- Lines of a sync candidate's frame: LINES, or with 0 the count detected (R292). -/
def State.refLines (s : State) (n : Nat) : Nat :=
  if s.rd Dict.REF_LINES n ≠ 0 then s.rd Dict.REF_LINES n else (s.refAt n).detLines

/-- Whether an edge interval in ns is a glitch; for PTP a distance from the filtered offset (Table 10.2). -/
def State.isGlitch (s : State) (n interval : Nat) : Bool :=
  let (num, den) := s.refNominal n
  let k := if s.refType n = 1 ∨ s.refType n = 2 then max 1 (s.refLines n) else 1
  if s.refType n = 7 then decide (1000 < interval)
  else num != 0 && (decide (interval * num * k * 20 < 19 * nsPerS * den)
    || decide (21 * nsPerS * den < interval * num * k * 20))

/-- Whether the loop follows candidate `n` (R298, R300). -/
def State.follows (s : State) (n : Nat) : Bool :=
  s.rd Dict.SELECTOR_SELECTED == n && !s.switching && s.rd Dict.HENTIS_LOOP_MODE == 0
    && (s.rd Dict.HENTIS_STATE == 1 || s.rd Dict.HENTIS_STATE == 2)

/-- From a missing or glitched edge of the candidate followed the loop ignores it and the word holds (R298). -/
def State.ignoreRef (s : State) (n : Nat) : State :=
  if s.follows n then
    let t := s.holdWord
    { t with hentis := { t.hentis with ignoring := true } }
  else s

/-- The last good edge of a candidate whose last edge came at `t`: that edge, or the one before the glitches where it was
one (R305). -/
def Ref.goodEdge (r : Ref) (t : Nat) : Nat := if r.glitchTimes.head? = some t ∧ r.goodAt ≠ 0 then r.goodAt - 1 else t

/-- A glitch of candidate `n`; the edge before it is the last good one unless it was a glitch too, for PTP the last Sync
that was none (R295, R298, R305). -/
def State.glitch (s : State) (n interval : Nat) : State :=
  if s.dictUp ∧ s.rd Dict.REF_QUAL_STATE n ≠ 0 ∧ s.isGlitch n interval then
    let good := if s.refType n = 7 then (s.refAt n).goodAt else (s.refAt n).goodEdge (s.now - interval) + 1
    let s := s.modRef n (fun r => { r with
      goodAt := good
      glitchTimes := (s.now :: r.glitchTimes).filter (fun t => decide (s.now < t + s.glitchSpan n)) })
    let s := ((s.inc Dict.REF_GLITCHES n).raise Event.REF_GLITCH n (min interval 4294967295)).ignoreRef n
    if s.glitchy n then s.setCause n (putBit (s.rd Dict.REF_FAIL_CAUSE n) 1 true) (good - 1) else s
  else s

/-- The median of integers, the mean of the middle two for an even count (R296, log 3). -/
def medianInt (l : List Int) : Int :=
  let l := sortBy (fun a b => decide (a < b)) l
  let n := l.length
  if n % 2 = 1 then (l[n / 2]?).getD 0 else ((l[n / 2 - 1]?).getD 0 + (l[n / 2]?).getD 0) / 2

/-- DRIFT of candidate `n` for a mean frequency (R296). -/
def State.driftOf (s : State) (n : Nat) (mean : Int) : Int :=
  let others := ((List.range 12).filter (fun m => m != n && s.rd Dict.REF_QUAL_STATE m == 3)).map
    (fun m => (s.refAt m).mean)
  if others.isEmpty then (if (s.refAt n).everQual then mean - (s.refAt n).meanAtQual else 0)
  else mean - medianInt others

/-- The drift alarm of candidate `n` judged at an interval end (R296). -/
def State.judgeAlarm (s : State) (n : Nat) (drift : Int) : State :=
  let w : Int := (s.rd Dict.REF_FREQ_WINDOW n * 65536 : Nat)
  let d : Int := drift.natAbs
  if s.flag Dict.REF_DRIFT_ALARM n = false ∧ w ≤ 2 * d then
    ((s.wr Dict.REF_DRIFT_ALARM 1 n).modRef n (fun r => { r with alarmSince := s.now + 1 })).raise
      Event.REF_DRIFT_ALARM n (param (ppb drift))
  else if s.flag Dict.REF_DRIFT_ALARM n ∧ 10 * d < 4 * w then
    ((s.wr Dict.REF_DRIFT_ALARM 0 n).modRef n (fun r => { r with alarmSince := 0 })).raise
      Event.REF_DRIFT_ALARM_END n (param (ppb drift))
  else s

/-- Whether `num / den` Hz is a rate that a TYPE detects: black burst at its two frame rates, the others in their range,
where the standard rates of a kind are not listed (R292, Table 10.1, log 24). -/
def detectable (type num den : Nat) : Bool :=
  den != 0 && match type with
  | 1 => num == 25 * den || num * 1001 == 30000 * den
  | 2 => decide (24000 * den ≤ num * 1001 ∧ num ≤ 60 * den)
  | 4 => decide (32000 * den ≤ num ∧ num ≤ 192000 * den)
  | 6 => decide (den ≤ num ∧ num ≤ 240 * den)
  | _ => false

/-- Whether candidate `n` detects a rate other than the one it has (R292, R299). -/
def State.detects (s : State) (n : Nat) (m : RefMeasure) : Bool :=
  let r := s.refAt n
  s.rd Dict.REF_NOMINAL_NUM n == 0 && detectable (s.refType n) m.detNum m.detDen
    && m.detNum * r.detDen != r.detNum * m.detDen

/-- The rate a candidate detects becomes its nominal, a change is told; so does the line count (R292, R299). -/
def State.takeDetected (s : State) (n : Nat) (m : RefMeasure) : State :=
  let r := s.refAt n
  let t := s.modRef n (fun r => { r with detLines := m.detLines })
  if s.detects n m then
    (t.modRef n (fun r => { r with detNum := m.detNum, detDen := m.detDen })).raiseIf (r.detNum != 0)
      Event.REF_RATE_CHANGE n (m.detNum * 1000 / max 1 m.detDen)
  else t

/-- Whether the detected rate has changed (R299). -/
def State.rateChanged (s : State) (n : Nat) (m : RefMeasure) : Bool := s.detects n m && (s.refAt n).detNum != 0

/-- What the best master clock algorithm compares, most significant first (R293). -/
def announceVector (a : Announce) : List Nat :=
  [a.priority1, a.clockClass, a.accuracy, a.variance, a.priority2, a.identity, a.steps, a.sender]

/-- Whether a list comes before another in lexical order. -/
def lexBefore : List Nat → List Nat → Bool
  | [], _ => false
  | _, [] => false
  | a :: as, b :: bs => decide (a < b) || (a == b && lexBefore as bs)

/-- The best master among those heard within 3 of their Announce intervals (R293, R295). -/
def State.bestMaster (s : State) (n : Nat) : Option Announce :=
  (((s.refAt n).masters.filter (fun x => decide (s.now < x.2 + 3 * x.1.interval))).map Prod.fst).foldl (fun best a =>
    match best with
    | none => some a
    | some b => if lexBefore (announceVector a) (announceVector b) then some a else some b) none

/-- Whether the activity check of candidate `n` has run out `age` ns after its last edge: 2 line periods, or with `vertical`
2 frames, of a sync candidate, 1.5 s of PPS, 3 intervals of the chosen master's Sync or with `vertical` of every Announce, and
2 cycles otherwise; without a nominal there is no edge to pass (Table 10.2). -/
def State.activityOver (s : State) (n : Nat) (vertical : Bool) (age : Nat) : Bool :=
  let (num, den) := s.refNominal n
  let r := s.refAt n
  match s.refType n with
  | 5 => decide (1500000000 ≤ age)
  | 7 => if vertical then (s.bestMaster n).isNone else decide (r.syncAt + 3 * r.syncInterval ≤ s.now + 1)
  | ty =>
    let k := if (ty = 1 ∨ ty = 2) ∧ !vertical then max 1 (s.refLines n) else 1
    num == 0 || decide (2 * nsPerS * den ≤ age * num * k)

/-- The activity check of candidate `n` fails, its last good edge at `edge`; a PTP port is no longer SLAVE (R295). -/
def State.failActivity (s : State) (n edge : Nat) : State :=
  let ptp := s.refType n == 7
  let s := s.modRef n (fun r => { r with intervalAt := s.now })
  let s := if ptp then s.wr Dict.REF_PTP_PORT_STATE 1 n else s
  let bits := putBit (s.rd Dict.REF_FAIL_CAUSE n) 0 true
  s.setCause n (if ptp then putBit bits 4 true else bits) edge

/-- An edge of candidate `n` is missing `age` ns after its last edge: from then on the loop ignores it, and once the
activity check has run out the candidate fails.  `vertical` says that vertical sync, or an Announce, is missing, else line
sync, a cycle or a Sync (R295, R298). -/
def State.loseActivity (s : State) (n : Nat) (vertical : Bool) (age : Nat) : State :=
  if s.dictUp ∧ s.rd Dict.REF_QUAL_STATE n ≠ 0 then
    let r := s.refAt n
    let s := s.ignoreRef n
    if s.activityOver n vertical age then
      s.failActivity n (if s.refType n = 7 then r.goodAt - 1 else r.goodEdge (s.now - age))
    else s
  else s

/-- Whether an input is PRESENT or DEGRADED (R102). -/
def State.inputDelivers (s : State) (i : Nat) : Bool := s.rd Dict.INPUT_HEALTH i == 2 || s.rd Dict.INPUT_HEALTH i == 3

/-- Whether the input that a RECOVERED candidate follows is neither PRESENT nor DEGRADED (Table 10.2). -/
def State.sourceGone (s : State) (n : Nat) : Bool := s.refType n == 8 && !s.inputDelivers (s.rd Dict.REF_SOURCE n)

/-- When the last frame of an input started, as OSC_IN counts (R305). -/
def State.lastFrameStart (s : State) (i : Nat) : Nat :=
  let t := (s.inputAt i).line0
  if t = 0 then s.now else s.now - (s.timebase - t)

/-- HEALTH of an input becomes `v`; the RECOVERED candidates of an input that leaves PRESENT and DEGRADED fail their
activity check (R102, Table 10.2). -/
def State.setHealth (s : State) (i v : Nat) : State :=
  let was := s.inputDelivers i
  let s := s.wr Dict.INPUT_HEALTH v i
  if was && !s.inputDelivers i && s.dictUp then
    ((List.range 12).filter (fun n =>
      s.rd Dict.REF_SOURCE n == i && s.sourceGone n && s.rd Dict.REF_QUAL_STATE n != 0)).foldl
      (fun s n => (s.ignoreRef n).failActivity n (s.lastFrameStart i)) s
  else s

end Sys2Proof.Machine
end

