-- ==== Sys2Proof/Machine/LatchOps.lean ====
section
/-! DEFINITION. The compose latch in the order of R26, what a strip writes, the end of a composition, and the
legacy status bits (R26, R27, R50 to R54, R109, R110, R194, R195, R210, R253). -/
namespace Sys2Proof.Machine
open Sys2Proof

/-! ### The legacy event group (R253) -/

/-- Bit `h` of a STATUS field set; the vector fires when an enabled bit becomes set (R253). -/
def State.setLegacy (s : State) (status enable : EntryDef) (h : Nat) : State :=
  let was := s.rd status
  let s := s.wr status (putBit was h true)
  if !bit was h && bit (s.rd enable) h then s.fire (s.rd Dict.LEGACY_EVENTS_LEGACY_MSIX_VECTOR) else s

/-! ### Running and stopping (R194) -/

/-- Whether the canvas's head or FTG grid has brought a compose latch it has not had (R131, R195). -/
def State.latchDue (s : State) (c : Nat) : Bool :=
  let v := s.canvasAt c
  let (t, _, _) := s.latchNow c
  v.running && decide (t ≤ s.timebase) && decide (v.startAfter ≤ t) && decide (v.composeAt < t + 1)

/-! ### Sources at a judging latch -/

/-- The multicast group of a path joined on its port; a path with another destination, or without a port, joins none (R96,
R147). -/
def State.joinGroup (s : State) (port group source : Nat) : State :=
  if port < 48 ∧ group / 2 ^ 28 = 14 then s.out (.join port group source) else s

/-- An input begins to acquire, and an IP input joins its groups (R96, R102, R111). -/
def State.startInput (s : State) (n : Nat) : State :=
  let s := s.wr Dict.INPUT_HEALTH 1 n
  let s := s.modInput n (fun i => { i with lastIntactAt := s.timebase })
  let s := s.raise Event.INPUT_ACQUIRING (sourceCode 1 n) 0
  let t := s.rd Dict.INPUT_TRANSPORT n
  if t = 1 ∨ t = 2 then
    (s.joinGroup (s.rd Dict.INPUT_PORT_A n) (s.rd Dict.INPUT_DEST_ADDR_A n) (s.rd Dict.INPUT_SOURCE_A n)).joinGroup
      (s.rd Dict.INPUT_PORT_B n) (s.rd Dict.INPUT_DEST_ADDR_B n) (s.rd Dict.INPUT_SOURCE_B n)
  else s

/-- An input becomes ABSENT; its store and band are freed (R102, R111). -/
def State.stopInput (s : State) (n : Nat) : State :=
  let s := ((s.setHealth n 0).dropClass n).takeStage n 0
  let s := (s.takePool (poolInput n) 0).wr Dict.INPUT_STORE_SIZE 0 n
  ((s.dropStrips .estimate n).wr Dict.INPUT_PATH_STATE 0 n).putInput n Input.init

/-- ENABLE of an input comes into force (R120).  One that was disabled and enabled again since is stopped first, for its
descriptor may have changed (R94, R102). -/
def State.takeInput (s : State) (n : Nat) : State :=
  let on := s.flag Dict.INPUT_ENABLE n
  let s := s.modInput n (fun i => { i with enablePending := false })
  let s := if on = false ∨ s.rd Dict.INPUT_HEALTH n ≠ 0 then s.stopInput n else s
  if on then (s.takeStore n).startInput n else s

/-- Inputs whose ENABLE applies at this latch (R120): the first base-frame compose latch of a canvas naming
them. -/
def State.enableInputs (s : State) (c : Nat) : State :=
  (List.range 64).foldl (fun s n => if (s.inputAt n).enablePending ∧ s.names c 1 n then s.takeInput n else s) s

/-- Inputs that no running canvas names any more: ENABLE that waits applies at once, and they have no timing class
(R105, R107, R120). -/
def State.dropClasses (s : State) : State :=
  (List.range 64).foldl (fun s n =>
    if (s.canvasesNaming 1 n).isEmpty then
      let s := if (s.inputAt n).enablePending then s.takeInput n else s
      s.dropClass n
    else s) s

/-- A canvas stops at a base-frame compose latch (R194). -/
def State.stopCanvas (s : State) (c : Nat) : State :=
  let s := (s.landPending 2 c).dropStrips .compose c
  let s := s.modCanvas c (fun v => { v with
    front := []
    presents := [(s.timebase, [])]
    running := false, stopping := false, composing := false, complete := false, startAfter := 0, skip := false })
  let s := (s.wr Dict.CANVAS_STATE 0 c).clearLining c (if bit (s.rd Dict.LINING_ENABLE) c then 1 else 0)
  let s := s.wr Dict.CANVAS_WB_STATE 0 c
  ((s.raise Event.CANVAS_STOPPED c (s.rd Dict.CANVAS_BASE_FRAMES c)).dropClasses.dropLatencies c).settlePlayers

/-- Timing classes of the inputs that canvas `c` names, judged at its base-frame latch (R105 to R107). -/
def State.judgeClasses (s : State) (c t : Nat) (line0 : List (Nat × Nat)) : State :=
  (List.range 64).foldl (fun s n =>
    if s.flag Dict.INPUT_ENABLE n ∧ s.names c 1 n then
      s.judgeClass n (s.canvasFtg c) t ((line0.find? (fun e => e.1 == n)).map Prod.snd)
    else s) s.dropClasses

/-- The changes of class of this latch reported (R107). -/
def State.tellClasses (s : State) (c : Nat) : State :=
  (List.range 64).foldl (fun s n => if s.names c 1 n then s.tellClass n else s) s

/-- Canvas `c` leaves the former front buffers of every surface, and takes up the flips of those it reads (R114, R115). -/
def State.hostLatches (s : State) (c : Nat) : State :=
  (List.range 32).foldl (fun s n =>
    let s := s.leaveOld c n
    if s.names c 2 n then s.hostLatch c n else s) s

/-- Whether a lined layer's source presents a new frame at this latch: a flip taken or a player's frame
(R223). -/
def State.linedFresh (s t : State) (c : Nat) : Bool :=
  (bitsSet (t.rd Dict.LINING_LINED_MASK 0 c) 8).any (fun l =>
    (s.layerAt (layerNo c l)).shownKey != (t.layerAt (layerNo c l)).shownKey)

/-- Every enabled layer of the slot group judged in blend order, and the latency of each input shown noted once (R185,
R201, R208). -/
def State.judgeLayers (s : State) (c t : Nat) : State :=
  let s := (s.blendOrder c).foldl (fun s l =>
    if s.inGroup c (layerNo c l) then s.judgeLayer c (layerNo c l) t else s) s
  (s.shownInputs c).foldl (fun s n => s.noteConverted c n t) s

/-- Base frames of a canvas under yield step 5 that are skipped: those with an odd number on its FTG (R45,
R218). -/
def State.skips (s : State) (c : Nat) : Bool :=
  (s.canvasAt c).yields.any (fun y => y.step == 5 && y.kind == 5 && y.item == c) && !s.armed c
    && s.rd Dict.FTG_BASE_FRAMES (s.canvasFtg c) % 2 == 1

/-- STATE of a running canvas (Table 7.6). -/
def State.showCanvasState (s : State) (c : Nat) : State :=
  let y := (s.canvasAt c).yields.any (fun y => y.step == 5 && y.kind == 5 && y.item == c)
  s.wr Dict.CANVAS_STATE (if y then 2 else 1) c

/-- What a layer shows, as its audio follows it: kind, number and length of the mix that runs (R329, R330). -/
def State.layerShows (s : State) (k : Nat) : Nat × Nat × Nat :=
  if s.layerOn k then
    (s.rd Dict.LAYER_SOURCE_KIND k, s.rd Dict.LAYER_SOURCE_NUM k,
      match (s.layerAt k).mix with | some m => m.length | none => (s.layerAt k).mixedAt.toNat)
  else (0, 0, 0)

/-- The presentation instant of the base frame begun, with what its layers show (R329). -/
def State.notePresent (s : State) (c : Nat) : State :=
  let shows := (List.range 8).map (fun l => s.layerShows (layerNo c l))
  s.modCanvas c (fun v => { v with presents := v.presents ++ [(s.presentNext c, shows)] })

/-- What a base-frame latch judges once for its slot group, before the tick (R26, R197). -/
def State.judgeBase (s : State) (c t : Nat) (line0 : List (Nat × Nat)) : State :=
  let s := s.modCanvas c (fun v => { v with
    yields := s.gov.yields, baseNumber := s.rd Dict.FTG_BASE_FRAMES (s.canvasFtg c)
    armedFrames := if s.armed c then v.armedFrames + 1 else v.armedFrames })
  let s := s.stepMixes c
  let s := s.modCanvas c (fun v => { v with skip := s.skips c })
  let s := s.showCanvasState c
  let s := (s.enableInputs c).judgeClasses c t line0
  let s := (s.hostLatches c).playersLatch (s.canvasFtg c)
  if s.skips c then s.tellClasses c
  else
    let s' := (s.judgeLayers c t).tellClasses c
    let s' := s'.judgeLining c (State.linedFresh s s' c)
    ((s'.inc Dict.CANVAS_BASE_FRAMES c).takeConfig c).notePresent c

/-- BOOT_ARM's latches of a canvas in RUN: its call ends at the second (R490). -/
def State.countRunLatch (s : State) (c : Nat) : State :=
  if s.devState = 4 then
    s.modCanvas c (fun v => { v with
      runLatches := min 2 (v.runLatches + 1), everRun := v.everRun || decide (2 ≤ v.runLatches + 1) })
  else s

/-- A canvas without a lead head that runs flips at the slot-frame start after its deadline, this latch (R235, log 67). -/
def State.ownFlip (s : State) (c : Nat) : State :=
  match s.leadRunning c with | none => s.flipSlot c | some _ => s

/-- The compose latch of a canvas: landing, gating, the Overcoat, not-ready resolution, the tick, dispatch
(R26). -/
def State.composeLatch (s : State) (c : Nat) (tel : Telemetry) (line0 : List (Nat × Nat)) : State :=
  if s.alive ∧ s.latchDue c then
    let (t, slot, deadline) := s.latchNow c
    let s := s.ownFlip c
    let s := s.modCanvas c (fun v => { v with composeAt := t + 1 })
    if (s.canvasAt c).stopping ∧ slot = 0 then s.stopCanvas c
    else
      let s := if slot = 0 then (s.countRunLatch c).landDue 2 c t else s
      let s := s.judgeGating c
      let s := (s.judgeOvercoat c slot).noteImage c
      let s := if slot = 0 then s.judgeBase c t line0 else s
      let s := if slot = 0 then s.latchTick c tel else s
      s.dispatchSlot c slot deadline
  else s

/-! ### What a strip writes (R160, R211) -/

/-- A place of a strip's region, with what a destination of a format stores there (R8, R160, R211). -/
def State.stripPx (seen : State) (a : Strip) (format : Nat) (full : Bool) (x y : Nat) : Px :=
  let c := a.owner
  let p := seen.store16 c a.slot format x y (seen.encodeOut c (seen.accumulator c a.slot x y))
  if full && format == 4 then { p with a := 3 } else p

/-- The columns of a strip from `x0` up to but without `x1`. -/
def Strip.columns (a : Strip) (w x0 x1 : Nat) : List Nat :=
  ((List.range 128).map (fun i => 128 * a.index + i)).filter (fun x => decide (x < w ∧ x0 ≤ x ∧ x < x1))

/-- The format of a write-back destination's pixels: an IP buffer holds 10 bits per component (R211). -/
def wbFormat (d : List Byte) : Nat := if byteAt d 0 = 2 then 4 else byteAt d 2

/-- The pixels of a strip's region stored for write-back destination `k`: into the frame that is being composed and, for
DRAM, into the buffer of its base frame (R160, R210). -/
def State.writeBackStrip (s seen : State) (a : Strip) (k : Nat) : State :=
  let c := a.owner
  let v := s.canvasAt c
  let (d, r) := Store.read (fun _ => ([], Raster.init)) v.wbNow k
  let x0 := leAt d 4 2
  let y0 := leAt d 6 2
  let format := wbFormat d
  let n := bytesPerPixel format
  if byteAt d 0 = 0 then s
  else
    let cols := a.columns (s.rd Dict.CANVAS_WIDTH c) x0 (x0 + leAt d 8 2)
    let rows := ((List.range a.lines).map (a.firstLine + ·)).filter (fun y => decide (y0 ≤ y ∧ y < y0 + leAt d 10 2))
    let r' := rows.foldl (fun r y => cols.foldl (fun r x =>
      r.put (x - x0) (y - y0) (seen.stripPx a format false x y)) r) r
    let s := s.modCanvas c (fun v => { v with
      wbNow := Store.write (fun _ => ([], Raster.init)) v.wbNow k (d, r') })
    if byteAt d 0 = 1 then
      rows.foldl (fun s y => match cols with
        | x :: _ => s.setHostBytes (s.wbBuffer c d + (y - y0) * leAt d 28 4 + (x - x0) * n)
            (cols.flatMap (fun x => leBytes n ((r'.at (x - x0) (y - y0)).encode format)))
        | [] => s) s
    else s

/-- The pixels of a strip's region stored into the back buffer of its slot, and for its write-back destinations (R53,
R160, R211). -/
def State.writeStrip (s : State) (a : Strip) : State :=
  let c := a.owner
  let v := s.canvasAt c
  let seen := s.asSeen c
  let (format, full) := match s.bufferHead c with
    | some h => (s.rd Dict.HEAD_FORMAT h, Config.opaqueHead h)
    | none => (4, false)
  let key := s.backBuffer c a.slot
  let w := s.rd Dict.CANVAS_WIDTH c
  let r := (List.range a.lines).foldl (fun r j => (a.columns w 0 w).foldl (fun r x =>
      r.put x (a.firstLine + j) (seen.stripPx a format full x (a.firstLine + j))) r)
    (Store.read (fun _ => Raster.init) v.buffers key)
  let s := s.putCanvas c { v with
    buffers := Store.write (fun _ => Raster.init) v.buffers key r
    damaged := v.damaged.filter (fun w => w.1 != key) }
  [0, 1].foldl (fun s k => s.writeBackStrip seen a k) s

/-- A composition is complete: the heads that will scan it have FRAME_DONE set, and its write-back frames
are due (R210, R253, R256). -/
def State.completeSlot (s : State) (c : Nat) : State :=
  let v := s.canvasAt c
  let s := s.putCanvas c { v with
    complete := true, composing := false
    margins := Store.write (fun _ => 0) v.margins (s.backBuffer c v.slot) ((v.deadline : Int) - s.timebase)
    wbDone := v.wbNow.foldl (fun m e => Store.write (fun _ => ([], Raster.init)) m e.1 e.2) v.wbDone
    wbNext := v.wbNow.foldl (fun m e => Store.write (fun _ => 0) m e.1 1) v.wbNext
    wbNow := [] }
  (s.headsOf c).foldl (fun s h =>
    if s.allSlots h ∨ s.headRd h Dict.HEAD_SLOT_SELECT = v.slot then
      s.setLegacy Dict.LEGACY_EVENTS_STATUS_FRAME_DONE Dict.LEGACY_EVENTS_ENABLE_FRAME_DONE h
    else s) s

/-- A copy on engine `e` completes (R53). -/
def State.completeStrip (s : State) (e : Nat) (i : StripId) : State :=
  match s.stripOf i with
  | some a =>
    if s.alive ∧ a.done = false ∧ a.copies.any (·.engine == e) then
      let s := s.finishStrip a e i
      if a.kind = .compose then
        let s := s.writeStrip a
        if (s.stripsOf .compose a.owner).all (·.done) ∧ (s.canvasAt a.owner).composing then s.completeSlot a.owner
        else s
      else s
    else s
  | none => s

/-- The compose deadline of a canvas (R54): an incomplete composition is discarded. -/
def State.composeDeadline (s : State) (c : Nat) : State :=
  let v := s.canvasAt c
  if s.alive ∧ v.composing ∧ v.deadline ≤ s.timebase then
    let left := ((s.stripsOf .compose c).filter (fun a => !a.done)).length
    let s := s.dropStrips .compose c
    let s := v.wbNow.foldl (fun s e =>
      if byteAt e.2.1 0 = 1 then s.spoil (s.wbBuffer c e.2.1) (leAt e.2.1 28 4 * leAt e.2.1 10 2) else s) s
    let s := s.modCanvas c (fun v => { v with
      composing := false, complete := false
      wbNext := v.wbNow.foldl (fun m e => Store.write (fun _ => 0) m e.1 2) v.wbNext
      wbNow := [] })
    (s.inc Dict.CANVAS_LATE_FRAMES c).raise Event.COMPOSE_LATE c left
  else s

/-! ### Chase segments (R109, R110) -/

/-- Segments of the canvases that read a LOCKED input become dispatchable as its lines arrive. -/
def State.wakeSegments (s : State) (n : Nat) : State :=
  (s.canvasesNaming 1 n).foldl (fun s c =>
    let seen := s.asSeen c
    { s with strips := s.strips.map (fun a =>
        if a.kind == .compose && a.owner == c && !a.ready
        then { a with ready := seen.linesHere c a.slot a.firstLine (a.firstLine + a.lines) } else a) }) s

/-- What a layer shows of a frame that it chases grows with the frame's lines. -/
def Layer.grow (y : Layer) (frame : Nat) (p : Raster) : Layer :=
  let y := if y.chased = frame then { y with shown := ⟨0, p⟩, last := some p } else y
  if y.outChased = frame then { y with outShown := ⟨0, p⟩, outLast := some p } else y

/-- A frame that a layer chases is damaged: lines from `lost` on, plus 1, will not arrive. -/
def Layer.break (y : Layer) (frame lost : Nat) : Layer :=
  let y := if y.chased = frame ∧ y.lostFrom = 0 then { y with lostFrom := lost } else y
  if y.outChased = frame ∧ y.outLost = 0 then { y with outLost := lost } else y

/-- Lines of a LOCKED input in the band, shown by the layers that chase its frame (R108, R109). -/
def State.bandArrives (s : State) (n lines : Nat) (p : Raster) : State :=
  if s.alive ∧ s.rd Dict.INPUT_TIMING_CLASS n = 1 ∧ (s.inputAt n).bandLines ≤ lines then
    let s := s.modInput n (fun i => { i with bandLines := lines, band := p })
    (s.mapLayers (fun y => y.grow (s.frameComing n) p)).wakeSegments n
  else s

/-- The frame that an input receives is damaged from line `line` on, for the layers that chase it (R110). -/
def State.bandBreaks (s : State) (n line : Nat) : State :=
  if s.rd Dict.INPUT_TIMING_CLASS n = 1 then
    (s.mapLayers (fun y => y.break (s.frameComing n) (s.lostLine n line))).wakeSegments n
  else s

end Sys2Proof.Machine
end

