-- ==== Sys2Proof/Machine/Routes.lean ====
section
/-! DEFINITION. The route table, switches of flow outputs, forwarding and reservations (R146 to R154). -/
namespace Sys2Proof.Machine
open Sys2Proof

/-- A route table entry (Table 5.2). -/
structure Route where
  flags : Nat
  kind : Nat
  ingress : Nat
  dscp : Nat
  dest : Nat
  source : Nat
  udp : Nat
  output : Nat
  egress : Nat
  follow : Nat
  outDest : Nat
  outUdp : Nat
  rate : Nat
deriving DecidableEq, Repr

/-- The fields of an entry's bytes. -/
def Route.ofBytes (b : List Byte) : Route where
  flags := byteAt b 0
  kind := byteAt b 1
  ingress := byteAt b 2
  dscp := byteAt b 3
  dest := leAt b 4 4
  source := leAt b 8 4
  udp := leAt b 12 2
  output := leAt b 14 2
  egress := leAt b 16 6
  follow := leAt b 22 2
  outDest := leAt b 24 4
  outUdp := leAt b 28 2
  rate := leAt b 30 2

/-- Whether an entry's VALID bit is set. -/
def Route.valid (r : Route) : Bool := bit r.flags 0

/-- Whether a VALID entry is within its ranges (Table 5.2, R5). -/
def Route.inRange (r : Route) : Bool :=
  decide (r.flags ≤ 1 ∧ 1 ≤ r.kind ∧ r.kind ≤ 5 ∧ r.ingress < 48 ∧ r.dscp < 64 ∧ 1 ≤ r.udp ∧ r.output < 8192
    ∧ 1 ≤ r.outUdp ∧ 1 ≤ r.rate) && (decide (r.follow < 8192) || r.follow == 0xFFFF)

/-- Entry `k` of the route table. -/
def State.route (s : State) (k : Nat) : Route := .ofBytes (s.routeAt k)

/-- Whether entry `k` is its output's active entry (R147). -/
def State.routeActive (s : State) (k : Nat) : Bool :=
  (s.route k).valid && s.activeAt (s.route k).output == k

/-- Whether two VALID entries match the same packets (R147). -/
def Route.same (a b : Route) : Bool :=
  a.valid && b.valid && a.ingress == b.ingress && a.dest == b.dest && a.source == b.source && a.udp == b.udp

/-! ### The table (R146, R147) -/

/-- Whether an entry would forward a potentially protected source: an IP input so marked receives by one of its paths the
packets that the entry matches (R144, R145). -/
def State.protectedFlow (s : State) (r : Route) : Bool :=
  (List.range 64).any (fun n =>
    let path (port dest udp source : EntryDef) : Bool :=
      s.rd port n == r.ingress && s.rd dest n == r.dest && s.rd udp n == r.udp
        && (r.source == 0 || s.rd source n == 0 || s.rd source n == r.source)
    (s.rd Dict.INPUT_TRANSPORT n == 1 || s.rd Dict.INPUT_TRANSPORT n == 2) && s.potentiallyProtected 1 n
      && (path Dict.INPUT_PORT_A Dict.INPUT_DEST_ADDR_A Dict.INPUT_UDP_PORT_A Dict.INPUT_SOURCE_A
        || path Dict.INPUT_PORT_B Dict.INPUT_DEST_ADDR_B Dict.INPUT_UDP_PORT_B Dict.INPUT_SOURCE_B))

/-- The first rule that entry `k` with new bytes breaks, over the table with the whole transfer in it. -/
def State.judgeRoute (s t : State) (k : Nat) (b : List Byte) : Option Refuse :=
  let r := Route.ofBytes b
  if s.routeActive k then some (.tableEntry 0x20 k)
  else if r.valid = false then none
  else if r.inRange = false then some { Refuse.plain 0x06090030 0x12 with entry := k }
  else if t.routes.any (fun e => e.1 != k && (Route.ofBytes e.2).same r) then some (.tableEntry 0x23 k)
  else if s.protectedFlow r then some (.tableEntry 0x16 k)
  else none

/-- The first refusal among the entries of a transfer. -/
def firstBad (judge : Nat → List Byte → Option Refuse) : Nat → List (List Byte) → Option Refuse
  | _, [] => none
  | k, b :: bs => match judge k b with | some r => some r | none => firstBad judge (k + 1) bs

/-- Entries put into a table one after the other. -/
def putEntries (put : State → Nat → List Byte → State) : State → Nat → List (List Byte) → State
  | s, _, [] => s
  | s, k, b :: bs => putEntries put (put s k b) (k + 1) bs

/-- An entry's bytes as they are stored: reserved bits read as zero (R5, R146). -/
def routeStored (b : List Byte) : List Byte :=
  leBytes 1 (byteAt b 0 % 2) ++ ((b.drop 1).take 2 ++ (leBytes 1 (byteAt b 3 % 64) ++ b.drop 4))

/-- A VALID entry's multicast group is joined on its ingress port, so that a standby flow is received too (R147). -/
def State.joinRoute (s : State) (r : Route) : State := if r.valid then s.joinGroup r.ingress r.dest r.source else s

/-- A route entry takes effect; what was observed of its flow is forgotten (R146, R147). -/
def State.writeRoute (s : State) (k : Nat) (b : List Byte) : State :=
  let new := routeStored b
  if s.routeAt k = new then s else ((s.putRoute k new).putFlow k Flow.init).joinRoute (.ofBytes new)

/-- A route table transfer (R146). -/
def State.writeRoutes (s : State) (sess : Nat) (data : List Byte) : Effect :=
  let w := s.window sess Dict.ROUTE_CONTROL_TABLE_WINDOW
  let entries := chunks 32 data.length data
  let t := putEntries State.writeRoute s w entries
  match firstBad (s.judgeRoute t) w entries with
  | some r => .refused r s
  | none => .done t

/-- The meaning of ROUTE_TABLE_WRITE (R146). -/
def execRouteTableWrite (sess : Fin 12) (data : List Byte) (s : State) : Host.Outcome State Fault Refusal :=
  .next (s.begin.writeBlock sess Dict.ROUTE_TABLE_DATA 0 0 data (fun s => s.writeRoutes sess data))

/-! ### Admission (R153) -/

/-- Summed RATE, in 10 Mbit/s, of the active entries that send on port `p`, were output `o` to take entry
`k`. -/
def State.routedRate (s : State) (o k p : Nat) : Nat :=
  (s.activeEntry.filter (fun e => e.1 != o)).foldl (fun r e =>
    let x := s.route e.2
    if x.valid && bit x.egress p then r + x.rate else r)
    (if k < 16384 ∧ bit (s.route k).egress p then (s.route k).rate else 0)

/-- Whether a summed rate exceeds what port `p` leaves to flow routes at a reservation (R153). -/
def State.routesOver (s : State) (p reserve rate : Nat) : Bool :=
  decide (typeSpeed (s.rd Dict.PORT_TYPE p) * (1000 - reserve) * 100 < 105 * 10 * rate * 1000)

/-- Whether admission of entry `k` to output `o` fails (R153). -/
def State.admissionFails (s : State) (o k : Nat) : Bool :=
  (bitsSet (s.route k).egress 48).any (fun p =>
    s.routesOver p (s.rd Dict.ROUTE_CONTROL_RESERVE 0 p) (s.routedRate o k p))

/-- A reservation judged against the traffic now admitted (R153). -/
def State.writeReserve (s : State) (p v : Nat) : Effect :=
  .unless (s.pixelOver p v || (decide (0 < s.routedRate 8192 16384 p) && s.routesOver p v (s.routedRate 8192 16384 p)))
    (.rule 0x21) s (.done (s.wr Dict.ROUTE_CONTROL_RESERVE v 0 p))

/-- The meaning of RESERVE_WRITE (R153). -/
def execReserveWrite (sess : Fin 12) (p : Fin 48) (value : Nat) (s : State) : Host.Outcome State Fault Refusal :=
  .next (s.begin.writeScalar sess Dict.ROUTE_CONTROL_RESERVE 0 p value (fun s => s.writeReserve p value))

/-! ### Switches (R148 to R152) -/

/-- The request pending for output `o`. -/
def State.switchOf (s : State) (o : Nat) : Option SwitchReq :=
  (s.switches.find? (fun e => e.1 == o)).map Prod.snd

/-- ACTIVE_ENTRIES and PENDING_SWITCHES (Table 5.5). -/
def State.countRoutes (s : State) : State :=
  (s.wr Dict.ROUTE_CONTROL_ACTIVE_ENTRIES s.activeEntry.length).wr Dict.ROUTE_CONTROL_PENDING_SWITCHES
    s.switches.length

/-- What refuses a switch request (R145, R148). -/
def State.judgeSwitch (s : State) (o k : Nat) : Option Refuse :=
  if k = 0xFFFF then none
  else
    let r := s.route k
    firstOf
      [(!r.valid || r.output != o, .atField 0x24 0x2501 3),
       (s.protectedFlow r, .atField 0x16 0x2501 3),
       ((s.flowAt k).lastPacket == 0 || decide ((s.flowAt k).lastPacket - 1 + 100000000 < s.now),
         .atField 0x22 0x2501 3),
       (s.admissionFails o k, .atField 0x21 0x2501 3)]

/-- A switch requested; a second request of an output replaces the first (R148). -/
def State.requestSwitch (s : State) (sess : Nat) : Effect :=
  let o := s.rd Dict.ROUTE_CONTROL_SWITCH_OUTPUT
  let k := s.rd Dict.ROUTE_CONTROL_SWITCH_ENTRY
  match s.judgeSwitch o k with
  | some r =>
    .refused { r with ownEvent := true }
      (s.raiseBy sess Event.ROUTE_REFUSED (outputCode o) (r.detail * 65536 + k))
  | none =>
    let at_ := s.rd Dict.ROUTE_CONTROL_SWITCH_AT_S * nsPerS + s.rd Dict.ROUTE_CONTROL_SWITCH_AT_NS
    let others := Store.erase s.switches o
    .done ({ s with switches := Store.put others o ⟨k, at_, sess, s.timebase, s.rd Dict.ROUTE_CONTROL_WINDOW_LINES⟩ }.countRoutes)

/-- The meaning of SWITCH (R148). -/
def execSwitch (sess : Fin 12) (value : Nat) (s : State) : Host.Outcome State Fault Refusal :=
  .next (s.begin.writeScalar sess Dict.ROUTE_CONTROL_SWITCH 0 0 value (fun s => s.requestSwitch sess))

/-- Mean frame period of a flow over its last frames, as a span and a count (R149). -/
def Flow.span (f : Flow) : Nat × Nat :=
  ((f.starts.head?).getD 0 - (f.starts.getLast?).getD 0, f.starts.length - 1)

/-- Phase of the new flow against the old in lines, without its sign and rounded up (R149, R159; DESIGN CHOICE, log 70). -/
def phaseLines (old new : Flow) : Nat :=
  let (span, n) := old.span
  let lines := (old.lineCounts.head?).getD 0
  let a := (old.starts.head?).getD 0
  let b := (new.starts.head?).getD 0
  if n = 0 ∨ span = 0 then 0xFFFF
  else
    let p := span / n
    let d := (if a ≤ b then b - a else a - b) % p
    let d := min d (p - d)
    ceilDiv (d * lines) p

/-- Whether a switch from one flow to another is clean, within a window of lines (R149). -/
def cleanSwitch (window : Nat) (old new : Flow) : Bool :=
  let (sa, na) := old.span
  let (sb, nb) := new.span
  let x := sa * nb
  let y := sb * na
  na == 64 && nb == 64 && decide ((if x ≤ y then y - x else x - y) * 100000 ≤ x)
    && old.lineCounts == new.lineCounts && old.lineCounts.all (fun l => some l == old.lineCounts.head?)
    && decide (phaseLines old new ≤ window)

/-- Whether an entry carries video (Table 5.2). -/
def State.carriesVideo (s : State) (k : Nat) : Bool := (s.route k).kind == 1 || (s.route k).kind == 5

/-- Output `o` takes a new active entry; its numbering goes on without a gap, for a video flow from its next frame on
(R150). -/
def State.takeEntry (s : State) (o k : Nat) : State :=
  let s := { s with
    switches := Store.erase s.switches o
    switchedAt := Store.write (fun _ => 0) s.switchedAt o (s.timebase + 1) }
  ((s.putActive o k).putRtp (3 * o + 2) (if s.carriesVideo k then 2 else 1)).countRoutes

/-- A switch at the old flow's switch point: a clean one, or the end of the output (R150). -/
def State.cleanAt (s : State) (o : Nat) : State :=
  match s.switchOf o with
  | some q =>
    let old := s.activeAt o
    if s.alive ∧ q.at_ ≤ s.timebase ∧ q.entry = 0xFFFF ∧ s.carriesVideo old then
      (s.takeEntry o 0xFFFF).raise Event.ROUTE_SWITCHED (outputCode o) 0xFFFF
    else if s.alive ∧ q.at_ ≤ s.timebase ∧ q.entry ≠ 0xFFFF ∧ s.carriesVideo q.entry ∧ old ≠ 0xFFFF
      ∧ cleanSwitch q.window (s.flowAt old) (s.flowAt q.entry) then
      ((s.takeEntry o q.entry).inc Dict.ROUTE_CONTROL_CLEAN_SWITCHES).raise Event.ROUTE_SWITCHED (outputCode o)
        q.entry
    else s
  | none => s

/-- The meaning of ROUTE_SWITCHED (R150). -/
def execRouteSwitched (o : Fin 8192) (s : State) : Host.Outcome State Fault Refusal :=
  .next (s.begin.cleanAt o)

/-- A rough switch at the new flow's next frame start (R151). -/
def State.roughAt (s : State) (o : Nat) : State :=
  match s.switchOf o with
  | some q =>
    let old := s.activeAt o
    if s.alive ∧ q.at_ ≤ s.timebase ∧ q.entry ≠ 0xFFFF ∧ s.carriesVideo q.entry
      ∧ (old = 0xFFFF ∨ cleanSwitch q.window (s.flowAt old) (s.flowAt q.entry) = false) then
      ((s.takeEntry o q.entry).inc Dict.ROUTE_CONTROL_ROUGH_SWITCHES).raise Event.ROUGH_SWITCH (outputCode o)
        (q.entry * 65536 + min 65535 (phaseLines (s.flowAt old) (s.flowAt q.entry)))
    else s
  | none => s

/-- The meaning of ROUGH_SWITCH (R151). -/
def execRoughSwitch (o : Fin 8192) (s : State) : Host.Outcome State Fault Refusal :=
  .next (s.begin.roughAt o)

/-- An audio or ancillary output switches at a packet of its new flow whose media time is `t`: a following one
once its video output has switched, at or after that instant; another at its requested time (R152).  A following switch
that is requested after its video output has switched waits for the next video switch (DESIGN CHOICE, log 70). -/
def State.followAt (s : State) (o t : Nat) : State :=
  match s.switchOf o with
  | some q =>
    let r := s.route (if q.entry = 0xFFFF then s.activeAt o else q.entry)
    let at_ := Store.read (fun _ => 0) s.switchedAt r.follow
    let due := if r.follow = 0xFFFF then decide (q.at_ ≤ s.timebase)
      else decide (q.asked < at_ ∧ at_ - 1 ≤ t)
    if s.alive ∧ 2 ≤ r.kind ∧ r.kind ≤ 4 ∧ due then
      (s.takeEntry o q.entry).raise Event.ROUTE_SWITCHED (outputCode o) q.entry
    else s
  | none => s

/-- The meaning of FOLLOW_SWITCH (R152). -/
def execFollowSwitch (o : Fin 8192) (t : Nat) (s : State) : Host.Outcome State Fault Refusal :=
  .next (s.begin.followAt o t)

/-! ### Forwarding (R150, R153, R154) -/

/-- The entry that a received packet matches (Table 5.2); of two that match, the first of the table (DESIGN CHOICE, log
70). -/
def State.matchRoute (s : State) (port dest source udp : Nat) : Option Nat :=
  (s.routes.find? (fun e =>
    let r := Route.ofBytes e.2
    r.valid && r.ingress == port && r.dest == dest && (r.source == 0 || r.source == source) && r.udp == udp)).map
    Prod.fst

/-- A packet of a flow observed: its arrival, and at the first packet of a frame the frame's start and lines
(R147, R149). -/
def State.observe (s : State) (k : Nat) (start : Bool) (lines : Nat) : State :=
  s.modFlow k (fun f => { f with
    lastPacket := s.now + 1, lost := false
    starts := if start then (s.timebase :: f.starts).take 65 else f.starts
    lineCounts := if start then (lines :: f.lineCounts).take 64 else f.lineCounts })

/-- A packet dropped on port `p`; the event tells those of the last second (R153, R159). -/
def State.dropPacket (s : State) (p : Nat) : State :=
  let now := s.now
  let s := (s.inc Dict.ROUTE_CONTROL_EGRESS_DROPS).modDropped p (fun l =>
    now :: l.filter (fun t => decide (now < t + 1000000000)))
  if s.dropTimeAt p = 0 ∨ s.dropTimeAt p - 1 + 1000000000 ≤ s.now then
    (s.putDropTime p (s.now + 1)).raise Event.EGRESS_DROPS p (s.droppedAt p).length
  else s

/-- Kind of a `WireItem.packet`: a forwarded flow packet. -/
abbrev packetForward : Nat := 4

/-- An active entry's packet sent on its egress ports with its own destination and marking (R150, R154);
`full` names the ports whose queue share is full. -/
def State.sendRouted (s : State) (r : Route) (seq full : Nat) (payload : List Byte) : State :=
  let o := r.output
  let off := if s.rtpAt (3 * o + 2) ≠ 0 then (s.rtpAt (3 * o + 1) + 65536 - seq % 65536) % 65536
    else s.rtpAt (3 * o)
  let q := (seq + off) % 65536
  let s := ((s.putRtp (3 * o) off).putRtp (3 * o + 1) ((q + 1) % 65536)).putRtp (3 * o + 2) 0
  (bitsSet r.egress 48).foldl (fun s p =>
    if bit full p then s.dropPacket p
    else if s.rd Dict.PORT_STATE p = 2 ∨ s.rd Dict.PORT_STATE p = 3 then
      (s.out (.packet packetForward p
        (beBytes 1 r.dscp ++ beBytes 4 r.outDest ++ beBytes 2 r.outUdp ++ beBytes 2 q ++ payload))).inc
        Dict.PORT_TX_FRAMES p
    else s) s

/-- Whether an active entry's packet is forwarded: after a switch of a video flow, from its next frame start on (R147,
R150). -/
def State.forwards (s : State) (k : Nat) (start : Bool) : Bool :=
  s.routeActive k && (start || s.rtpAt (3 * (s.route k).output + 2) != 2)

/-- A packet of a routed flow arrives and, where its entry is active, is forwarded (R147, R154). -/
def State.forward (s : State) (port dest source udp seq : Nat) (start : Bool) (lines full : Nat)
    (payload : List Byte) : State :=
  if s.alive ∧ (s.rd Dict.PORT_STATE port = 2 ∨ s.rd Dict.PORT_STATE port = 3) then
    match s.matchRoute port dest source udp with
    | some k =>
      let s := (s.inc Dict.PORT_RX_FRAMES port).observe k start lines
      if s.forwards k start then s.sendRouted (s.route k) seq full payload else s
    | none => s
  else s

/-- The meaning of FLOW_PACKET_FORWARD (R154). -/
def execFlowPacketForward (port : Fin 48) (dest source udp seq : Nat) (start : Bool) (lines full : Nat)
    (payload : List Byte) (s : State) : Host.Outcome State Fault Refusal :=
  .next (s.begin.forward port dest source udp seq start lines full payload)

/-- An active entry's flow that has delivered nothing for 100 ms (R154). -/
def State.loseFlow (s : State) (k : Nat) : State :=
  let f := s.flowAt k
  if s.alive ∧ s.routeActive k ∧ f.lost = false ∧ f.lastPacket - 1 + 100000000 ≤ s.now then
    (s.putFlow k { f with lost := true }).raise Event.ROUTE_FLOW_LOST (outputCode (s.route k).output) k
  else s

/-- The meaning of ROUTE_FLOW_LOST (R154). -/
def execRouteFlowLost (k : Fin 16384) (s : State) : Host.Outcome State Fault Refusal :=
  .next (s.begin.loseFlow k)

end Sys2Proof.Machine
end

