-- ==== Sys2Proof/Machine/Audio.lean ====
section
/-! DEFINITION. The commands of audio: sample frames, serial audio ports, streams, the matrix tables and common starts
(R323 to R345). -/
namespace Sys2Proof.Machine
open Sys2Proof

/-- The meaning of SAMPLE_FRAME (R323): frames that master SAPs receive at this instant, and the sample frames of
embedded audio that have arrived since the last one. -/
def execSampleFrame (saps : List (Nat × List Int)) (inputs : List (Nat × List (List Int))) (s : State) :
    Host.Outcome State Fault Refusal :=
  .next (s.begin.sampleFrame saps inputs)

/-! ### The delay lines' allocation (R355) -/

/-- 2 MiB units of the delay lines (R355). -/
def State.delayUnits (s : State) : Nat := units2M (256 * 2 * s.matrixRate * 4)

/-- Whether the delay lines fit, should they not be there yet (R355). -/
def State.delayFits (s : State) : Bool :=
  (!s.audioAllOff && !s.audio.lost) || s.poolFits poolAudio s.delayUnits

/-- The delay lines are there while some audio endpoint is enabled (R355). -/
def State.settleDelay (s : State) : State :=
  { s with audio := { s.audio with lost := false } }.takePool poolAudio (if s.audioAllOff then 0 else s.delayUnits)

/-! ### Serial audio ports (R335, R336, R340, R343) -/

/-- The terms of a master SAP's MCLK over the audio clock of 1,179.648 MHz, reduced (R336). -/
def State.setDividers (s : State) (n : Nat) : State :=
  if s.sapSlave n then s
  else
    let f := s.rd Dict.SAP_MCLK_RATIO n * s.matrixRate
    let g := Nat.gcd f 1179648000
    (s.wr Dict.SAP_DIV_NUM (f / g) n).wr Dict.SAP_DIV_DEN (1179648000 / g) n

/-- ENABLE of a SAP written 1 (R336, R340). -/
def State.enableSap (s : State) (n : Nat) : Effect :=
  if s.flag Dict.SAP_ENABLE n then .done s
  else
    let t := s.wr Dict.SAP_ENABLE 1 n
    let feeds := t.destRefusal 1 n
    match firstOf
      [(s.rd Dict.SAP_FORMAT n == 2 && decide (49152000 < 32 * s.sapSlots n * s.matrixRate),
          .atField 0x74 (0x3000 + n) 4),
       (feeds.isSome, .atField (feeds.getD 0) (0x3000 + n) 0x0B),
       (!s.delayFits, .rule 0x14)] with
    | some r => .refused r s
    | none =>
      let t := ((t.setDividers n).putEndpoint (audioKey 1 n) Endpoint.init).settleDelay
      .done (t.startAlone.judgeSap n)

/-- The meaning of SAP_ENABLE (R340). -/
def execSapEnable (sess : Fin 12) (n : Fin 8) (s : State) : Host.Outcome State Fault Refusal :=
  .next (s.begin.writeScalar sess Dict.SAP_ENABLE n 0 1 (fun s => s.enableSap n))

/-- ENABLE of a SAP written 0: it stops (R343). -/
def State.disableSap (s : State) (n : Nat) : Effect :=
  let was := (s.endpointAt (audioKey 1 n)).started
  let s := ((s.wr Dict.SAP_ENABLE 0 n).putEndpoint (audioKey 1 n) Endpoint.init).settleDelay
  .done ((s.judgeSap n).raiseIf was Event.AUDIO_STOPPED (2 ^ n) 0)

/-- The meaning of SAP_DISABLE (R343). -/
def execSapDisable (sess : Fin 12) (n : Fin 8) (s : State) : Host.Outcome State Fault Refusal :=
  .next (s.begin.writeScalar sess Dict.SAP_ENABLE n 0 0 (fun s => s.disableSap n))

/-- TX_MAP written: every entry names a matrix channel or none, and the SAP may take it (R325, R333, R334). -/
def State.writeTxMap (s : State) (n : Nat) (data : List Byte) : Effect :=
  let t := s.wrDom Dict.SAP_TX_MAP data n
  let feeds := t.destRefusal 1 n
  match firstOf
    [((List.range 16).any (fun i => decide (256 ≤ mapEntry data i ∧ mapEntry data i ≠ 0xFFFF)), .plain 0x06090030 0x12),
     (feeds.isSome, .rule (feeds.getD 0))] with
  | some r => .refused r s
  | none => .done t

/-- A frame at the clock of a slave SAP: one received, or one sent (R337, R338). -/
def State.slaveFrame (s : State) (n : Nat) (samples : List Int) : State :=
  let k := audioKey 1 n
  if s.alive ∧ s.flag Dict.SAP_ENABLE n ∧ s.sapSlave n then
    let s := s.modEndpoint k (fun e => { e with seenAt := Store.write (fun _ => 0) e.seenAt 0 (s.now + 1) })
    let e := s.endpointAt k
    if !e.started ∨ e.lostNow then s
    else if s.sapSends n then
      match e.fifo with
      | x :: rest => (s.putEndpoint k { e with fifo := rest, last := x }).out (.audio 1 n x)
      | [] => (s.countError n true).out (.audio 1 n e.last)
    else if e.fifo.length < 64 then s.putEndpoint k { e with fifo := e.fifo ++ [samples] }
    else s.countError n false
  else s

/-- The meaning of SLAVE_SAP_FRAME (R337): the samples on the pins of a SAP that receives. -/
def execSlaveSapFrame (n : Fin 8) (samples : List Int) (s : State) : Host.Outcome State Fault Refusal :=
  .next (s.begin.slaveFrame n samples)

/-- The clock of a slave SAP has stopped for two frames (R339). -/
def State.loseClock (s : State) (n : Nat) : State :=
  let k := audioKey 1 n
  let e := s.endpointAt k
  let seen := Store.read (fun _ => 0) e.seenAt 0
  if s.alive ∧ s.flag Dict.SAP_ENABLE n ∧ s.sapSlave n ∧ !e.lostNow
      ∧ (seen = 0 ∨ s.since seen (2 * nsPerS / s.matrixRate)) then
    let s := s.putEndpoint k { e with lostNow := true, good := false }
    ((s.inc Dict.SAP_CLOCK_LOSSES n).judgeSap n).raise Event.SAP_CLOCK_LOST k 0
  else s

/-- The meaning of SAP_CLOCK_LOST (R339). -/
def execSapClockLost (n : Fin 8) (s : State) : Host.Outcome State Fault Refusal := .next (s.begin.loseClock n)

/-- Whether an endpoint takes the clock of another device and is enabled (R337, R339). -/
def State.clocked (s : State) (kind num : Nat) : Bool :=
  (kind == 1 && s.flag Dict.SAP_ENABLE num && s.sapSlave num) || (kind == 3 && s.streamOn num)

/-- A port resumes after 1 s within 500 ppm, through the ramp (R339). -/
def State.restoreClock (s : State) (kind num : Nat) : State :=
  let k := audioKey kind num
  let e := s.endpointAt k
  if s.alive ∧ s.clocked kind num ∧ ((kind = 1 ∧ e.lostNow) ∨ e.mismatch) ∧ e.good then
    let ramp := s.framesIn (s.rd Dict.AUDIO_START_MUTE_RAMP)
    let s := s.putEndpoint k { e with
      lostNow := kind = 3 && e.lostNow, mismatch := false, fifo := halfFull, rampLeft := ramp, rampLength := ramp }
    (if kind = 1 then s.judgeSap num else s).raise Event.SAP_CLOCK_RESTORED k (e.rate / 1000000)
  else s

/-- The meaning of SAP_CLOCK_RESTORED (R339): a SAP (kind 1) or a stream receiver (kind 3). -/
def execSapClockRestored (kind num : Nat) (s : State) : Host.Outcome State Fault Refusal :=
  .next (s.begin.restoreClock kind num)

/-- How far two rates lie apart. -/
def rateGap (a b : Nat) : Nat := max a b - min a b

/-- A window of 1 s ends: MEASURED_RATE, rate change and rate mismatch (R324, R326, R339). -/
def State.rateWindow (s : State) (kind num rate : Nat) (pcm : Bool) : State :=
  let k := audioKey kind num
  let e := s.endpointAt k
  let nominal := s.matrixRate * 1000000
  let gap := rateGap rate nominal
  if s.alive then
    let s := s.putEndpoint k { e with rate, good := decide (gap * 1000000 ≤ 500 * nominal) }
    let s := if kind = 1 then s.wr Dict.SAP_MEASURED_RATE rate num else s
    let far := decide (1000 * nominal < gap * 1000000)
    if s.clocked kind num then
      let s := s.raiseIf (e.rate != 0 && decide (100 * e.rate < rateGap rate e.rate * 1000000))
        Event.AUDIO_RATE_CHANGE k (rate / 1000000)
      if far ∧ !e.mismatch ∧ !e.lostNow then
        let s := s.modEndpoint k (fun e => { e with mismatch := true })
        (if kind = 1 then s.judgeSap num else s).raise Event.AUDIO_RATE_MISMATCH k (rate / 1000000)
      else s
    else if kind = 2 then
      let bad := far || !pcm
      (s.modEndpoint k (fun e => { e with mismatch := bad })).raiseIf (bad && !e.mismatch)
        Event.AUDIO_RATE_MISMATCH k (rate / 1000000)
    else s
  else s

/-- The meaning of AUDIO_RATE_WINDOW (R339): the endpoint's kind and number, its rate in µHz, and for embedded audio
whether it is linear PCM. -/
def execAudioRateWindow (kind num rate : Nat) (pcm : Bool) (s : State) : Host.Outcome State Fault Refusal :=
  .next (s.begin.rateWindow kind num rate pcm)

/-! ### Streams (R327) -/

/-- A packet of a receiver that carries what no other path has brought yet: held for PLAYOUT; one that comes late
takes its place before its successor, if that is still ahead (R98, R327). -/
def State.holdPacket (s : State) (e : Endpoint) (playout seq : Nat) (frames : List (List Int)) : Endpoint :=
  let ahead (a b : Nat) : Nat := (a + 65536 - b) % 65536
  if e.nextSeq = 0 ∨ ahead seq (e.nextSeq - 1) < 32768 then
    { e with held := e.held ++ [(seq, s.now + playout * 1000, frames)], nextSeq := (seq + 1) % 65536 + 1 }
  else
    match e.held.find? (fun p => decide (ahead p.1 seq < 32768)) with
    | some p =>
      let at_ := p.2.1 - ahead p.1 seq * (frames.length * nsPerS / s.matrixRate)
      if p.1 = seq ∨ at_ ≤ s.now then e
      else
        let before := e.held.takeWhile (fun q => decide (32768 ≤ ahead q.1 seq))
        { e with held := before ++ [(seq, at_, frames)] ++ e.held.drop before.length }
    | none => e

/-- An audio packet arrives on a path of a receiver (R327). -/
def State.takePacket (s : State) (k path seq : Nat) (frames : List (List Int)) : State :=
  let b := s.streamEntryAt k
  let key := audioKey 3 k
  if s.alive ∧ s.streamOn k ∧ (path = 0 ∨ byteAt b 2 ≠ 0xFF) then
    let e := s.endpointAt key
    let e := { e with
      seenAt := Store.write (fun _ => 0) e.seenAt path (s.now + 1), lostPaths := putBit e.lostPaths path false }
    let e := if e.started ∧ !e.lostNow then e
      else { e with started := true, lostNow := false, fifo := halfFull, held := [], nextSeq := 0 }
    s.putEndpoint key (s.holdPacket e (leAt b 20 2) (seq % 65536) frames)
  else s

/-- The meaning of STREAM_PACKET_RX (R327): the receiver, the path, the RTP sequence and the sample frames. -/
def execStreamPacketRx (k : Fin 64) (path : Fin 2) (seq : Nat) (frames : List (List Int)) (s : State) :
    Host.Outcome State Fault Refusal :=
  .next (s.begin.takePacket k path seq frames)

/-- The packet time of stream `k` in ns (Table 11.6). -/
def State.packetTime (s : State) (k : Nat) : Nat := if byteAt (s.streamEntryAt k) 4 = 0 then 1000000 else 125000

/-- A path of a receiver has brought no packet for three packet times; with no path left it carries zero (R327). -/
def State.loseStreamPath (s : State) (k path : Nat) : State :=
  let key := audioKey 3 k
  let e := s.endpointAt key
  let pair := byteAt (s.streamEntryAt k) 2 != 0xFF
  if s.alive ∧ s.streamOn k ∧ (path = 0 ∨ pair) ∧ !bit e.lostPaths path
      ∧ s.since (max 1 (Store.read (fun _ => 0) e.seenAt path)) (3 * s.packetTime k) then
    let lost := putBit e.lostPaths path true
    let all := decide (lost = if pair then 3 else 1)
    let s := s.putEndpoint key { e with
      lostPaths := lost, lostNow := all, held := if all then [] else e.held }
    s.raise Event.STREAM_LOST key (if all ∧ pair then 2 else path)
  else s

/-- The meaning of STREAM_LOST (R327). -/
def execStreamLost (k : Fin 64) (path : Fin 2) (s : State) : Host.Outcome State Fault Refusal :=
  .next (s.begin.loseStreamPath k path)

/-! ### The tables of the matrix (R344) -/

/-- Channel entries are judged over the table as it would stand (R333, R334, R344). -/
def State.writeChannels (s : State) (sess : Nat) (data : List Byte) : Effect :=
  let w := s.window sess Dict.AUDIO_MATRIX_CHANNEL_WINDOW
  let entries := chunks 16 data.length data
  let t := putEntries State.putChannelEntry s w entries
  match firstBad (fun k b =>
      if t.channelValid b then (t.channelRefusal k).map (fun d => .tableEntry d k)
      else some { Refuse.plain 0x06090030 0x12 with entry := k }) w entries with
  | some r => .refused r s
  | none => .done t

/-- The meaning of CHANNEL_TABLE_WRITE (R331). -/
def execChannelTableWrite (sess : Fin 12) (data : List Byte) (s : State) : Host.Outcome State Fault Refusal :=
  .next (s.begin.writeBlock sess Dict.AUDIO_MATRIX_CHANNEL_TABLE 0 0 data (fun s => s.writeChannels sess data))

/-- Whether the fields of a stream entry lie in their ranges (Table 11.6); those of one that is not enabled are free
but for the reserved ones. -/
def streamValid (k : Nat) (b : List Byte) : Bool :=
  let sender := decide (64 ≤ k)
  decide (byteAt b 0 < 4 ∧ byteAt b 7 = 0) && (b.drop 22).all (· == 0)
    && (!bit (byteAt b 0) 0
      || (decide (byteAt b 1 < 48) && (sender || decide (byteAt b 2 < 48 ∨ byteAt b 2 = 0xFF))
        && decide (1 ≤ byteAt b 3 ∧ byteAt b 3 ≤ 64 ∧ byteAt b 4 ≤ 1 ∧ 96 ≤ byteAt b 5 ∧ byteAt b 5 ≤ 127)
        && (byteAt b 6 == 16 || byteAt b 6 == 24) && decide (1 ≤ leAt b 16 2)
        && (if sender then decide (leAt b 18 2 + byteAt b 3 ≤ 256)
            else decide (125 ≤ leAt b 20 2 ∧ leAt b 20 2 ≤ 20000))))

/-- The conformance levels of ST 2110-30: channels at a rate and packet time (log 28). -/
def conforms (rate time channels : Nat) : Bool :=
  match rate, time with
  | 48000, 0 => decide (channels ≤ 8) | 48000, _ => decide (channels ≤ 64)
  | 96000, 0 => decide (channels ≤ 4) | 96000, _ => decide (channels ≤ 32)
  | _, _ => false

/-- What refuses an enabled stream entry (R324, R327, R333, R334, R355). -/
def State.judgeStream (s t : State) (k : Nat) (b : List Byte) : Option Refuse :=
  let feeds := if 64 ≤ k then t.destRefusal 4 (k - 64) else t.receiverRefusal k
  if !streamValid k b then some { Refuse.plain 0x06090030 0x12 with entry := k }
  else if !bit (byteAt b 0) 0 then none
  else firstOf
    [(decide (1440 < t.packetFrames k * byteAt b 3 * streamBytes b)
        || (!bit (byteAt b 0) 1 && !conforms s.matrixRate (byteAt b 4) (byteAt b 3)), .tableEntry 0x71 k),
     (feeds.isSome, .tableEntry (feeds.getD 0) k),
     (!s.delayFits, .tableEntry 0x14 k)]

/-- A stream entry takes effect: one that changes starts anew (R327, R344). -/
def State.setStream (s : State) (k : Nat) (b : List Byte) : State :=
  if s.streamEntryAt k = b then s
  else if k < 64 then
    -- a receiver counts its packet times without a packet from here
    (s.putStreamEntry k b).putEndpoint (audioKey 3 k) { Endpoint.init with seenAt := [(0, s.now + 1), (1, s.now + 1)] }
  else (s.putStreamEntry k b).putEndpoint (audioKey 4 (k - 64)) Endpoint.init

/-- Stream entries written (R327, R344). -/
def State.writeStreams (s : State) (sess : Nat) (data : List Byte) : Effect :=
  let w := s.window sess Dict.AUDIO_MATRIX_STREAM_WINDOW
  let entries := chunks 32 data.length data
  let t := putEntries State.setStream s w entries
  match firstBad (s.judgeStream t) w entries with
  | some r => .refused r s
  | none => .done t.settleDelay.startAlone

/-- The meaning of STREAM_TABLE_WRITE (R327). -/
def execStreamTableWrite (sess : Fin 12) (data : List Byte) (s : State) : Host.Outcome State Fault Refusal :=
  .next (s.begin.writeBlock sess Dict.AUDIO_MATRIX_STREAM_TABLE 0 0 data (fun s => s.writeStreams sess data))

/-- What refuses the map of head `h` (R324, R328, R333, R334). -/
def State.judgeHeadMap (t : State) (data : List Byte) (h : Nat) : Option Refuse :=
  let named (i : Nat) : Bool := mapEntry data (16 * h + i) != 0xFFFF
  let feeds := t.destRefusal 6 h
  firstOf
    [((List.range 16).any (fun i => named i && decide (256 ≤ mapEntry data (16 * h + i))), .plain 0x06090030 0x12),
     ((List.range 16).any (fun i => named i && decide (t.headCapacity h ≤ i)), .rule 0x72),
     (t.rd Dict.HEAD_TYPE h == 4 && t.matrixRate != 48000 && (List.range 16).any named, .rule 0x70),
     (feeds.isSome, .rule (feeds.getD 0))]

/-- HEAD_MAP written (R328). -/
def State.writeHeadMap (s : State) (data : List Byte) : Effect :=
  let t := s.wrDom Dict.AUDIO_MATRIX_HEAD_MAP data
  match allHeads.findSome? (t.judgeHeadMap data) with
  | some r => .refused r s
  | none =>
    if !t.audioAllOff && !s.delayFits then .refused (.rule 0x14) s else .done t.settleDelay

/-- The meaning of HEAD_MAP_WRITE (R328). -/
def execHeadMapWrite (sess : Fin 12) (data : List Byte) (s : State) : Host.Outcome State Fault Refusal :=
  .next (s.begin.writeBlock sess Dict.AUDIO_MATRIX_HEAD_MAP 0 0 data (fun s => s.writeHeadMap data))

/-- MATRIX_RATE_NUM written: the sample grid is that of the new rate, and the delay lines are empty (R323, R324). -/
def State.setMatrixRate (s : State) (v : Nat) : State :=
  let s := s.wr Dict.AUDIO_MATRIX_MATRIX_RATE_NUM v
  { s with audio := { s.audio with next := s.sampleFrom s.timebase, lines := [], startAt := 0 } }

/-- The meaning of MATRIX_RATE_WRITE (R324): the numerator, or the denominator. -/
def execMatrixRateWrite (sess : Fin 12) (den : Bool) (value : Nat) (s : State) : Host.Outcome State Fault Refusal :=
  .next (if den then
      s.begin.writeScalar sess Dict.AUDIO_MATRIX_MATRIX_RATE_DEN 0 0 value
        (fun s => .done (s.wr Dict.AUDIO_MATRIX_MATRIX_RATE_DEN value))
    else
      s.begin.writeScalar sess Dict.AUDIO_MATRIX_MATRIX_RATE_NUM 0 0 value (fun s => .done (s.setMatrixRate value)))

/-! ### Common starts (R340, R341, R345) -/

/-- A common start is scheduled at sample index `i` (R340). -/
def State.scheduleStart (s : State) (i : Nat) : State := { s with audio := { s.audio with startAt := i + 1 } }

/-- TRIGGER 1: at START_S and START_NS, or as soon as may be when both are 0 (R340). -/
def State.triggerStart (s : State) : State :=
  let t := s.rd Dict.AUDIO_START_START_S * nsPerS + s.rd Dict.AUDIO_START_START_NS
  s.scheduleStart (if t = 0 then s.soonest else max s.audio.next (s.sampleFrom t))

/-- The meaning of AUDIO_TRIGGER_START (R340). -/
def execAudioTriggerStart (sess : Fin 12) (s : State) : Host.Outcome State Fault Refusal :=
  .next (s.begin.writeScalar sess Dict.AUDIO_START_TRIGGER 0 0 1 (fun s => .done s.triggerStart))

/-- TRIGGER 2: the armed endpoints stop in reverse order (R341). -/
def State.triggerStop (s : State) : State :=
  let s := { s with audio := { s.audio with startAt := 0 } }
  starters.foldl (fun s e => if s.starterOn e.1 e.2 ∧ s.masked e.1 e.2 then s.beginStop e.1 e.2 else s) s

/-- The meaning of AUDIO_TRIGGER_STOP (R341). -/
def execAudioTriggerStop (sess : Fin 12) (s : State) : Host.Outcome State Fault Refusal :=
  .next (s.begin.writeScalar sess Dict.AUDIO_START_TRIGGER 0 0 2 (fun s => .done s.triggerStop))

/-- The meaning of AUD_START_ASSERTED (R340): the pin has been asserted stably for 10 µs. -/
def execAudStartAsserted (s : State) : Host.Outcome State Fault Refusal :=
  let s := s.begin
  .next (if s.alive ∧ s.flag Dict.AUDIO_START_PIN_ENABLE then s.scheduleStart s.soonest else s)

/-- Whether sample index `at_` less 1 has come. -/
def State.indexDue (s : State) (at_ : Nat) : Bool :=
  at_ != 0 && decide ((at_ - 1) * nsPerS ≤ s.timebase * s.matrixRate)

/-- Endpoints start at sample index `i`: the instant, the count and the event (R340). -/
def State.startTogether (s : State) (l : List (Nat × Nat)) (i mask : Nat) : State :=
  let s := l.foldl (fun s e => s.startEndpoint e.1 e.2) s
  let t := s.sampleAt i
  let s := (s.wrTime Dict.AUDIO_START_START_AT_S Dict.AUDIO_START_START_AT_NS t).inc Dict.AUDIO_START_STARTS
  s.raise Event.AUDIO_STARTED mask t

/-- The start instants that have come (R340, R341). -/
def State.startAudio (s : State) : State :=
  if s.alive then
    let i := s.audio.startAt
    let s := if s.indexDue i then
        let l := starters.filter (fun e =>
          s.starterOn e.1 e.2 && s.masked e.1 e.2 && !(s.endpointAt (audioKey e.1 e.2)).started)
        { s with audio := { s.audio with startAt := 0 } }.startTogether l (i - 1) (s.rd Dict.AUDIO_START_SAP_MASK)
      else s
    let l := starters.filter (fun e => s.indexDue (s.endpointAt (audioKey e.1 e.2)).startAt)
    match l.head? with
    | none => s
    | some e =>
      s.startTogether l ((s.endpointAt (audioKey e.1 e.2)).startAt - 1)
        (maskOf ((l.filter (fun e => e.1 == 1)).map Prod.snd))
  else s

/-- The meaning of AUDIO_STARTED (R340). -/
def execAudioStarted (s : State) : Host.Outcome State Fault Refusal := .next s.begin.startAudio

end Sys2Proof.Machine
end

