-- ==== Sys2Proof/Machine/Commits.lean ====
section
/-! DEFINITION. The commands of Stitch commits: receipt, discard and acknowledgement (R127 to R139). -/
namespace Sys2Proof.Machine
open Sys2Proof

/-! ### Receipt (R130, R138) -/

/-- A commit joins the queue of validations; its answer follows its acknowledgement (R130). -/
def State.queueCommit (s : State) (m : Commit) : State :=
  let s := { s with validating := s.validating ++ [m] }
  let s := match m.kind with
    | 1 => s.wrTime Dict.HEAD_COMMIT_RECEIPT_S Dict.HEAD_COMMIT_RECEIPT_NS m.receipt m.num
    | 2 => s.wrTime Dict.CANVAS_COMMIT_RECEIPT_S Dict.CANVAS_COMMIT_RECEIPT_NS m.receipt m.num
    | _ => s.wrTime Dict.STITCH_GROUP_RECEIPT_S Dict.STITCH_GROUP_RECEIPT_NS m.receipt
  s.commitStates

/-- A commit of one head or canvas received (R130). -/
def State.receiveSingle (s : State) (kind num sess udp : Nat) (retime : Option (List Byte)) : Effect :=
  .waits (s.queueCommit (s.receive kind num sess (if kind = 1 then 2 ^ num else 0) (if kind = 2 then 2 ^ num else 0)
    udp false retime))

/-- The meaning of HEAD_COMMIT (R130). -/
def execHeadCommit (sess : Fin 12) (h : Fin 32) (s : State) : Host.Outcome State Fault Refusal :=
  .next (s.begin.writeScalar sess Dict.HEAD_COMMIT_COMMIT h 0 1 (fun s => s.receiveSingle 1 h sess 0xFF none))

/-- The meaning of CANVAS_COMMIT (R130). -/
def execCanvasCommit (sess : Fin 12) (c : Fin 8) (s : State) : Host.Outcome State Fault Refusal :=
  .next (s.begin.writeScalar sess Dict.CANVAS_COMMIT_COMMIT c 0 1 (fun s => s.receiveSingle 2 c sess 0xFF none))

/-- A stitch group commit received (R138). -/
def State.receiveGroup (s : State) (sess udp : Nat) : Effect :=
  .waits (s.queueCommit (s.receive 3 0 sess (s.rd Dict.STITCH_GROUP_HEAD_MASK) (s.rd Dict.STITCH_GROUP_CANVAS_MASK)
    udp true none))

/-- The meaning of STITCH_GROUP_COMMIT (R138). -/
def execStitchGroupCommit (sess : Fin 12) (s : State) : Host.Outcome State Fault Refusal :=
  .next (s.begin.writeScalar sess Dict.STITCH_GROUP_COMMIT 0 0 1 (fun s => s.receiveGroup sess 0xFF))

/-- Every value in force copied back to its shadow (R127, R275), at once.  Writes that a commit of the scope holds back while
it is validated (R25) are not voided: they apply to the shadow afterwards (DESIGN CHOICE, log 72). -/
def State.discard (s : State) (kind num : Nat) : Effect :=
  let s := (s.scopeKeys kind num).foldl (fun s k => s.setShadow k (s.regAt k)) s
  let s := (s.scopeDoms kind num).foldl (fun s k => s.setDomShadow k (Store.read domDefault s.doms k)) s
  if kind = 1 then
    let tiles := s.headDirtyTiles num
    let calibs := s.headDirtyCalibs num
    let s := tiles.foldl (fun s k => s.putTileShadow k (s.tileEntryAt k)) s
    .done (calibs.foldl (fun s k => s.putCalibShadow k (s.calibAt k)) s)
  else .done s

/-- The meaning of COMMIT_DISCARD (R127): of head `x`, or of canvas `x - 32`. -/
def execCommitDiscard (sess : Fin 12) (x : Fin 40) (s : State) :
    Host.Outcome State Fault Refusal :=
  .next (if (x : Nat) < 32 then s.begin.writeScalar sess Dict.HEAD_COMMIT_COMMIT x 0 2 (fun s => s.discard 1 x)
    else s.begin.writeScalar sess Dict.CANVAS_COMMIT_COMMIT (x - 32) 0 2 (fun s => s.discard 2 (x - 32)))

/-! ### Validation (R136, R138, R254) -/

/-- The members of a commit: canvases, then heads, each in ascending order, in which they are validated (DESIGN CHOICE,
log 72). -/
def Commit.members (m : Commit) : List (Nat × Nat) :=
  (bitsSet m.canvases 8).map (fun c => (2, c)) ++ (bitsSet m.heads 32).map (fun h => (1, h))

/-- Whether a scope is a member of a group commit that is pending, its own part landed or not (R138). -/
def State.groupPending (s : State) (kind num : Nat) : Bool :=
  s.pendingCommits.any (fun e => e.2.grouped && (if kind = 1 then bit e.2.heads num else bit e.2.canvases num))

/-- Whether head `h` has a RETIME pending (R254). -/
def State.retimePending (s : State) (h : Nat) : Bool :=
  (s.headAt h).retime.isSome || s.pendingCommits.any (fun e => e.1 == scopeKey 1 h && e.2.retime.isSome)

/-- The entry that a commit was written to. -/
def Commit.entry (m : Commit) : Nat × Nat :=
  match m.kind with
  | 1 => if m.retime.isSome then (0x2C00 + m.num, 0x2D) else (0x2C40 + m.num, 1)
  | 2 => (0x2860 + m.num, 1)
  | _ => (0x2870, 3)

/-- What refuses a commit, if anything: group rules, a pending RETIME, then each member's rules over the state
with the whole validation set in force (R136, R138, R254). -/
def State.judgeCommit (s : State) (m : Commit) : Option Refuse :=
  let members := m.members
  let (i, j) := m.entry
  let v := match m.retime with | some b => s.putTiming m.num b | none => s
  let ftgs := (members.map (fun x => (s.force m).scopeFtg x.1 x.2)).eraseDups
  firstOf (
    [(m.grouped && members.isEmpty, .field 0x17 Dict.STITCH_GROUP_HEAD_MASK),
     (members.any (fun x => s.groupPending x.1 x.2), .atField 0x18 i j),
     (m.grouped && decide (1 < ftgs.length), .field 0x17 Dict.STITCH_GROUP_HEAD_MASK),
     ((bitsSet m.heads 32).any s.retimePending, .atField 0x56 i j)]
    ++ (match m.retime with | some b => (s.force m).retimeRules m.num b | none => [])
    ++ members.flatMap (fun x => v.memberRules m x.1 x.2))

/-- A refused commit changes nothing in force and nothing pending (R136). -/
def State.refuseCommit (s : State) (m : Commit) (r : Refuse) : State :=
  let s := match m.kind with
    | 1 => s.inc Dict.HEAD_COMMIT_REFUSED_COUNT m.num
    | 2 => s.inc Dict.CANVAS_COMMIT_REFUSED_COUNT m.num
    | _ => s.inc Dict.STITCH_GROUP_REFUSED_COUNT
  let s := s.raiseBy m.sess Event.COMMIT_REFUSED (scopeCode m.kind m.num) (r.detail * 65536 + r.fieldIndex % 65536)
  let s := s.noteRefusal m.sess m.entry.1 m.entry.2 r
  if 0x1000 ≤ m.udpSess then s.raiseBy m.sess Event.DOORBELL_REFUSED m.udpSess r.detail
  else if m.udpSess = 0xFD then s
  else s.abort m.sess m.entry.1 r

/-! ### Acceptance (R131 to R135, R137, R139) -/

/-- TAPS_DEGRADED for the layers that DEGRADE_OK relieves (R137). -/
def State.tellDegraded (s : State) (m : Commit) (c : Nat) : State :=
  let v := s.force m
  (List.range 8).foldl (fun s l =>
    let k := layerNo c l
    match v.relief k with
    | some t =>
      s.raiseIf (v.layerOn k && t != v.rd Dict.LAYER_V_TAPS k) Event.TAPS_DEGRADED (layerScope k)
        (v.rd Dict.LAYER_H_TAPS k * 256 + t)
    | none => s) s

/-- A commit of a scope replaces the one pending there (R135). -/
def State.supersede (s : State) (kind num : Nat) : State :=
  match s.pendingCommits.find? (fun e => e.1 == scopeKey kind num) with
  | some (_, old) =>
    let s := if kind = 1 then s.inc Dict.HEAD_COMMIT_SUPERSEDED_COUNT num
      else s.inc Dict.CANVAS_COMMIT_SUPERSEDED_COUNT num
    s.raise Event.COMMIT_SUPERSEDED (scopeCode kind num) (old.receipt % nsPerS)
  | none => s

/-- A commit enters the pending set of its scope with its times, aim and landing instant. -/
def State.pend (s : State) (m : Commit) (kind num aim land : Nat) : State :=
  let s := s.supersede kind num
  let mine := m.only s kind num
  let m' : Commit := { mine with aim := aim, land := land }
  let others := Store.erase s.pendingCommits (scopeKey kind num)
  let s := { s with pendingCommits := Store.put others (scopeKey kind num) m' }
  let s := s.stampCommit m'
  if kind = 1 then s.wr Dict.HEAD_COMMIT_AIM_FRAME (s.frameAt 1 num aim) num
  else s.wr Dict.CANVAS_COMMIT_AIM_FRAME (s.frameAt 2 num aim) num

/-- Latches of a scope between two of its latches (R159). -/
def State.latchesBetween (s : State) (kind num a b : Nat) : Nat :=
  let (n, d) := if kind = 1 ∧ s.headRate num = 1 then (s.headNum num, s.headDen num)
    else (s.ftgNum (s.scopeFtg kind num), s.ftgDen (s.scopeFtg kind num))
  ((b - a) * d + n / 2) / n

/-- A commit whose landing latch is later than the one it aimed at is counted and reported as late (R132). -/
def State.noteLate (s : State) (k n aim land : Nat) : State :=
  if aim < land then
    (if k = 1 then s.inc Dict.HEAD_COMMIT_LATE_COUNT n else s.inc Dict.CANVAS_COMMIT_LATE_COUNT n).raise Event.LATE_COMMIT
      (scopeCode k n) (s.latchesBetween k n aim land)
  else s

/-- A commit of one scope acknowledged: it lands at once where its block does not run, else at the first latch
after acknowledgement (R132, R134); a RETIME's with its new timing (R254).  Whether a RETIME is late is judged by the first
latches after its receipt and its acknowledgement, without the frames that its sequence adds (DESIGN CHOICE, log 72). -/
def State.acceptSingle (s : State) (m : Commit) : State :=
  let k := m.kind
  let n := m.num
  if s.scopeRuns k n = false then
    let s := s.pend m k n s.timebase s.timebase
    match m.retime with
    | some b =>
      let s := s.raise Event.HEAD_RETIME_START n (s.rd Dict.HEAD_TYPE n)
      let s := (s.putTiming n b).landPending k n
      ((n :: s.clonesOf n).foldl State.takeFifo s).endRetime n 0
    | none => s.landPending k n
  else
    let aim := s.scopeLatch k n m.receipt
    let first := s.scopeLatch k n m.ack
    match m.retime with
    | some b =>
      let land := s.retimeLatch n m.ack first
      ((s.pend m k n aim land).noteLate k n aim first).startRetime n m.sess b land
    | none => (s.pend m k n aim first).noteLate k n aim first

/-- The least base-frame index at which every running member's latch lies after `t` (R139). -/
def State.groupIndex (s : State) (f : Nat) (members : List (Nat × Nat)) (t : Nat) : Nat :=
  (members.map (fun x => gridFrom (s.ftgNum f) (s.ftgDen f)
    (s.rd Dict.FTG_OFFSET f + s.scopeOffset x.1 x.2) (t + 1))).foldl max 0

/-- A group commit acknowledged: every running member lands at its own latch for one pin frame (R139). -/
def State.acceptGroup (s : State) (m : Commit) : State :=
  match m.members with
  | [] => s
  | x :: _ =>
    let f := s.scopeFtg x.1 x.2
    let run := m.members.filter (fun x => s.scopeRuns x.1 x.2)
    let a := s.groupIndex f run m.receipt
    let l := s.groupIndex f run m.ack
    let start (k : Nat) : Nat := gridAt (s.ftgNum f) (s.ftgDen f) (s.rd Dict.FTG_OFFSET f) k
    let s := (s.wr Dict.STITCH_GROUP_FTG f).wrTime Dict.STITCH_GROUP_ACK_S Dict.STITCH_GROUP_ACK_NS m.ack
    let s := if run.isEmpty then s
      else
        let s := s.wr Dict.STITCH_GROUP_AIM_FRAME (s.baseAt f (start a) + 1)
        let s := s.wr Dict.STITCH_GROUP_LAND_FRAME (s.baseAt f (start l) + 1)
        if a < l then (s.inc Dict.STITCH_GROUP_LATE_COUNT).raise Event.LATE_COMMIT (scopeCode 3 0) (l - a) else s
    m.members.foldl (fun s x =>
      if s.scopeRuns x.1 x.2 then
        let o := s.scopeOffset x.1 x.2
        s.pend m x.1 x.2 (start a + o) (start l + o)
      else (s.pend m x.1 x.2 s.timebase s.timebase).landPending x.1 x.2) s

/-- Pace targets raised at once for what the pending commits will ask (R39). -/
def State.raiseTargets (s : State) : State := s.noteWanted.setTargets false

/-- Shadow writes held back by the validation that has ended now apply (R25). -/
def State.applyDeferred (s : State) : State :=
  let held (d : Deferred) : Bool :=
    s.deferredWrites.any (fun e => e.key == d.key && s.validatesOver e.key (e.domain.getD []))
  let s' := (s.deferredWrites.filter (fun d => !held d)).foldl State.endHold s
  { s' with deferredWrites := s.deferredWrites.filter held }

/-- Whether a commit is answered on its session's transport: not one from a doorbell or an RPDO (R411, R419). -/
def Commit.answered (m : Commit) : Bool := m.udpSess == 0xFF || decide (4 ≤ m.udpSess ∧ m.udpSess < 12)

/-- The answer to an acknowledged commit; a UDP COMMIT's carries its times, fields of the datagram in network order (R4,
R414, Table 14.7). -/
def Commit.answer (m : Commit) : List Byte :=
  if 12 ≤ m.udpSess then []
  else beBytes 6 (m.receipt / nsPerS) ++ beBytes 4 (m.receipt % nsPerS) ++ beBytes 6 (m.ack / nsPerS)
    ++ beBytes 4 (m.ack % nsPerS)

/-- The validation of the first commit received ends (R130). -/
def State.acknowledge (s : State) : State :=
  match s.validating with
  | [] => s
  | m0 :: rest =>
    if s.dictUp then
      let s := { s.actBy m0.sess with validating := rest }
      let m := { m0 with ack := s.timebase }
      let s := match s.judgeCommit m with
        | some r => s.refuseCommit m r
        | none =>
          let s := (bitsSet m.canvases 8).foldl (fun (s : State) c => s.tellDegraded m c) s
          let s := if m.kind = 3 then s.acceptGroup m else s.acceptSingle m
          let s := allCanvases.foldl State.takeWriteBack s.takeBuffers
          let s := s.raiseTargets.inUse
          if m.answered then s.respond m.sess m.entry.1 m.answer false else s
      (s.actBy 0xFF).applyDeferred.commitStates
    else s

/-- The meaning of COMMIT_ACKNOWLEDGED (R130). -/
def execCommitAcknowledged (s : State) : Host.Outcome State Fault Refusal := .next s.begin.acknowledge

end Sys2Proof.Machine
end

