-- ==== Sys2Proof/Machine/HostPlayers.lean ====
section
/-! DEFINITION. The commands of host surfaces and pocket players (R113 to R119, R121, R122, R369). -/
namespace Sys2Proof.Machine
open Sys2Proof

/-! ### Host surfaces (R113 to R116, R121) -/

/-- Bytes of one buffer of a host surface (R113). -/
def State.hostBytesOf (s : State) (n : Nat) : Nat := s.rd Dict.HOST_SOURCE_STRIDE n * s.rd Dict.HOST_SOURCE_HEIGHT n

/-- What refuses ENABLE = 1 of a host surface (R113, R116, R355). -/
def State.judgeSurface (s : State) (n : Nat) : Option Refuse :=
  let x := 0x2440 + n
  let size := s.hostBytesOf n
  let a := s.rd Dict.HOST_SOURCE_BUFFER_ADDR_0 n
  let b := s.rd Dict.HOST_SOURCE_BUFFER_ADDR_1 n
  let region := s.dramSetting 4 * 1048576
  let inDram := s.rd Dict.HOST_SOURCE_LOCATION n == 0
  firstOf
    [(s.rd Dict.HOST_SOURCE_STRIDE n % 64 != 0
        || decide (s.rd Dict.HOST_SOURCE_STRIDE n
            < s.rd Dict.HOST_SOURCE_WIDTH n * bytesPerPixel (s.rd Dict.HOST_SOURCE_FORMAT n)), .atField 0x12 x 6),
     (inDram && decide (region < a + size), .atField 0x12 x 7),
     (inDram && decide (region < b + size), .atField 0x12 x 8),
     (decide (a < b + size ∧ b < a + size), .atField 0x12 x 8),
     (!inDram && !s.poolFits (poolHost n) (units2M (2 * size)), .atField 0x14 x 1)]

/-- ENABLE of a host surface written 1 (R113). -/
def State.enableSurface (s : State) (n : Nat) : Effect :=
  if s.flag Dict.HOST_SOURCE_ENABLE n then .done s
  else
    match s.judgeSurface n with
    | some r => .refused r s
    | none =>
      let units := if s.rd Dict.HOST_SOURCE_LOCATION n = 0 then 0 else units2M (2 * s.hostBytesOf n)
      .done ((((s.wr Dict.HOST_SOURCE_ENABLE 1 n).takePool (poolHost n) units).judgeHost n).tellAspm s.aspmL1)

/-- ENABLE of a host surface written 0: a flip that has not landed is cancelled with it (R121, log 21). -/
def State.disableSurface (s : State) (n : Nat) : Effect :=
  let was := s.aspmL1
  let s := ((s.wr Dict.HOST_SOURCE_ENABLE 0 n).takePool (poolHost n) 0).wr Dict.HOST_SOURCE_FLIP_STATE 0 n
  .done (((s.putHost n { HostSurf.init with releases := (s.hostAt n).releases }).judgeHost n).tellAspm was)

/-- The meaning of HOST_SOURCE_ENABLE (R113). -/
def execHostSourceEnable (sess : Fin 12) (n : Fin 32) (s : State) : Host.Outcome State Fault Refusal :=
  .next (s.begin.writeScalar sess Dict.HOST_SOURCE_ENABLE n 0 1 (fun s => s.enableSurface n))

/-- The meaning of HOST_SOURCE_DISABLE (R121). -/
def execHostSourceDisable (sess : Fin 12) (n : Fin 32) (s : State) : Host.Outcome State Fault Refusal :=
  .next (s.begin.writeScalar sess Dict.HOST_SOURCE_ENABLE n 0 0 (fun s => s.disableSurface n))

/-- FLIP written (R114, R116).  A surface whose ENABLE is 0 takes it as any other (DESIGN CHOICE, log 70). -/
def State.flip (s : State) (n b : Nat) : Effect :=
  match firstOf
    [(s.rd Dict.HOST_SOURCE_FLIP_STATE n != 0, .atField 0x12 (0x2440 + n) 0x0E),
     (s.rd Dict.HOST_SOURCE_FRONT n == b, .atField 0x12 (0x2440 + n) 0x0D)] with
  | some r => .refused r s
  | none =>
    let fetch := s.rd Dict.HOST_SOURCE_LOCATION n == 1
    let s := s.modHost n (fun h => { h with want := b, ready := !fetch, latches := 0 })
    .done (s.wr Dict.HOST_SOURCE_FLIP_STATE (if fetch then 2 else 1) n)

/-- The meaning of FLIP (R114). -/
def execFlip (sess : Fin 12) (n : Fin 32) (value : Nat) (s : State) : Host.Outcome State Fault Refusal :=
  .next (s.begin.writeScalar sess Dict.HOST_SOURCE_FLIP n 0 value (fun s => s.flip n value))

/-- A fetch completes: the flip is ready (R116). -/
def State.endFetch (s : State) (n : Nat) (data : List Byte) : State :=
  if s.alive ∧ s.rd Dict.HOST_SOURCE_FLIP_STATE n = 2 then
    let d := data.take (s.hostBytesOf n)
    let s := s.modHost n (fun h =>
      if h.want = 0 then { h with ready := true, copy0 := d } else { h with ready := true, copy1 := d })
    s.wr Dict.HOST_SOURCE_FLIP_STATE 1 n
  else s

/-- The meaning of HOST_FETCH_COMPLETE (R116): the bytes read from host memory. -/
def execHostFetchComplete (n : Fin 32) (data : List Byte) (s : State) : Host.Outcome State Fault Refusal :=
  .next (s.begin.endFetch n data)

/-- A fetch fails: the flip is cancelled (R116). -/
def State.failFetch (s : State) (n status : Nat) : State :=
  if s.alive ∧ s.rd Dict.HOST_SOURCE_FLIP_STATE n = 2 then
    (s.wr Dict.HOST_SOURCE_FLIP_STATE 0 n).raise Event.HOST_FETCH_FAULT (sourceCode 2 n) status
  else s

/-- The meaning of HOST_FETCH_FAULT (R116). -/
def execHostFetchFault (n : Fin 32) (status : Nat) (s : State) : Host.Outcome State Fault Refusal :=
  .next (s.begin.failFetch n status)

/-- Whether a canvas that has not latched since a flip landed still reads the former front buffer: it composes, or its
base frame goes on (R115). -/
def State.readsOld (s : State) (c : Nat) : Bool :=
  (s.canvasAt c).composing
    || (s.canvasRuns c && s.canvasSlots c != 1 && (s.canvasAt c).composeAt != 0)

/-- The oldest former front buffer is released once no composition reads it (R115). -/
def State.releaseHost (s : State) (n : Nat) : State :=
  let h := s.hostAt n
  match h.releases with
  | (b, readers) :: rest =>
    if s.alive ∧ readers.any s.readsOld = false then
      let s := s.putHost n { h with releases := rest }
      let s := (s.inc Dict.HOST_SOURCE_RELEASE_COUNT n).fire (s.rd Dict.HOST_SOURCE_MSIX_VECTOR n)
      s.raise Event.HOST_RELEASED (sourceCode 2 n) b
    else s
  | [] => s

/-- The meaning of HOST_RELEASED (R115). -/
def execHostReleased (n : Fin 32) (s : State) : Host.Outcome State Fault Refusal := .next (s.begin.releaseHost n)

/-! ### Pocket players (R117 to R119, R122, R369) -/

/-- ENABLE of a player written (R118, R122). -/
def State.writePlayerEnable (s : State) (n v : Nat) : Effect :=
  .done ((s.wr Dict.POCKET_PLAYER_ENABLE v n).applyPlayer n)

/-- The meaning of POCKET_PLAYER_ENABLE (R118, R122). -/
def execPocketPlayerEnable (sess : Fin 12) (n : Fin 32) (s : State) : Host.Outcome State Fault Refusal :=
  .next (s.begin.writeScalar sess Dict.POCKET_PLAYER_ENABLE n 0 1 (fun s => s.writePlayerEnable n 1))

/-- The meaning of POCKET_PLAYER_DISABLE (R118, R122). -/
def execPocketPlayerDisable (sess : Fin 12) (n : Fin 32) (s : State) : Host.Outcome State Fault Refusal :=
  .next (s.begin.writeScalar sess Dict.POCKET_PLAYER_ENABLE n 0 0 (fun s => s.writePlayerEnable n 0))

/-- Bytes per second of a clip's frames, as a fraction (R369). -/
def Clip.rateBytes (c : Clip) : Nat × Nat := (c.frameBlocks * 4096 * c.rateNum, max 1 c.rateDen)

/-- The sum of two rates. -/
def addRate (a b : Nat × Nat) : Nat × Nat := (a.1 * b.2 + b.1 * a.2, a.2 * b.2)

/-- Whether a rate in bytes per second exceeds a budget in MB/s (R369). -/
def overBudget (budget : Nat) (a : Nat × Nat) : Bool := decide (1000000 * budget * a.2 < a.1)

/-- The clip that CLIP of a player names as written, for the playback asked for (R118). -/
def State.askedClip (s : State) (n : Nat) : Clip := s.clipAt (s.rd Dict.POCKET_PLAYER_CLIP n)

/-- The clips that player `n` reads: the one in force while it plays, and the one asked for while a new playback waits for
its latch (R118, R119). -/
def State.playerReads (s : State) (n : Nat) : List Clip :=
  (if s.rd Dict.POCKET_PLAYER_PLAY_STATE n = 0 then [] else [s.playerClip n])
    ++ (if [1, 2, 3].contains (s.playerAt n).request then [s.askedClip n] else [])

/-- Whether player `n` uses drive `k`: it holds a read-ahead of one of its clips (R119, R369). -/
def State.playerUses (s : State) (n k : Nat) : Bool :=
  s.poolAt (poolPlayer n) != 0 && (s.playerReads n).any (fun c => c.drive == k)

/-- Bytes per second that players other than `n` claim of drive `k`, each with the clip it read last (R369). -/
def State.readClaim (s : State) (n k : Nat) : Nat × Nat :=
  ((List.range 32).filter (fun m => m != n && s.playerUses m k)).foldl (fun r m =>
    match ((s.playerReads m).filter (fun c => c.drive == k)).getLast? with
    | some c => addRate r c.rateBytes
    | none => r) (0, 1)

/-- 2 MiB units of a player's read-ahead (R355). -/
def State.prefetchUnits (s : State) (n : Nat) : Nat :=
  units2M (s.rd Dict.POCKET_PLAYER_PREFETCH n * (s.askedClip n).frameBlocks * 4096)

/-- What refuses CUE, PLAY or LOOP: the drive's read budget, or no room in the pool (R355, R369). -/
def State.playRefused (s : State) (n : Nat) : Option Refuse :=
  let clip := s.askedClip n
  firstOf
    [(overBudget (s.rd Dict.POCKET_READ_BUDGET 0 clip.drive) (addRate (s.readClaim n clip.drive) clip.rateBytes),
       .rule 0x81),
     (!s.poolFits (poolPlayer n) (s.prefetchUnits n), .rule 0x14)]

/-- The request taken, with room in the pool for its read-ahead (R118, R355). -/
def State.takeRequest (s : State) (n v : Nat) : State :=
  let s := (s.wr Dict.POCKET_PLAYER_TRANSPORT v n).takePool (poolPlayer n) (s.prefetchUnits n)
  let s := s.modPlayer n (fun p => { p with request := v, askedBase := 0, readFault := false })
  s.judgePlayer n

/-- CUE, PLAY or LOOP requested (R118, R355, R369). -/
def State.askPlay (s : State) (n v : Nat) : Effect :=
  match s.playRefused n with
  | some r => .refused r s
  | none => .done (s.takeRequest n v)

/-- STOP or PAUSE requested (R118). -/
def State.askHalt (s : State) (n v : Nat) : Effect :=
  .done ((s.wr Dict.POCKET_PLAYER_TRANSPORT v n).modPlayer n (fun p => { p with request := v }))

/-- TRANSPORT written (Table 4.5). -/
def State.writeTransport (s : State) (n v : Nat) : Effect :=
  if v = 0 ∨ v = 4 then s.askHalt n v else s.askPlay n v

/-- The meaning of POCKET_STOP (R118). -/
def execPocketStop (sess : Fin 12) (n : Fin 32) (s : State) : Host.Outcome State Fault Refusal :=
  .next (s.begin.writeScalar sess Dict.POCKET_PLAYER_TRANSPORT n 0 0 (fun s => s.writeTransport n 0))

/-- The meaning of POCKET_CUE (R118). -/
def execPocketCue (sess : Fin 12) (n : Fin 32) (s : State) : Host.Outcome State Fault Refusal :=
  .next (s.begin.writeScalar sess Dict.POCKET_PLAYER_TRANSPORT n 0 1 (fun s => s.writeTransport n 1))

/-- The meaning of POCKET_PLAY (R118). -/
def execPocketPlay (sess : Fin 12) (n : Fin 32) (s : State) : Host.Outcome State Fault Refusal :=
  .next (s.begin.writeScalar sess Dict.POCKET_PLAYER_TRANSPORT n 0 2 (fun s => s.writeTransport n 2))

/-- The meaning of POCKET_LOOP (R118). -/
def execPocketLoop (sess : Fin 12) (n : Fin 32) (s : State) : Host.Outcome State Fault Refusal :=
  .next (s.begin.writeScalar sess Dict.POCKET_PLAYER_TRANSPORT n 0 3 (fun s => s.writeTransport n 3))

/-- The meaning of POCKET_PAUSE (R118). -/
def execPocketPause (sess : Fin 12) (n : Fin 32) (s : State) : Host.Outcome State Fault Refusal :=
  .next (s.begin.writeScalar sess Dict.POCKET_PLAYER_TRANSPORT n 0 4 (fun s => s.writeTransport n 4))

/-- Where `count` blocks of a clip's block space from block `first` on lie: runs of a drive's blocks, one for each 64 MiB
allocation unit, unit 0 at block 16,384, the units of the extents in their order (R366, R368). -/
def Clip.place (c : Clip) (first count : Nat) : List (Nat × Nat) :=
  let units := c.extents.flatMap (fun e => (List.range e.2).map (fun i => e.1 + i))
  (List.range ((first + count - 1) / 16384 + 1 - first / 16384)).map (fun i =>
    let u := first / 16384 + i
    let lo := max first (u * 16384)
    let hi := min (first + count) ((u + 1) * 16384)
    (16384 + ((units[u]?).getD 0) * 16384 + lo % 16384, hi - lo))

/-- The Read commands for a frame of a clip (R365, R368). -/
def State.readBlocks (s : State) (c : Clip) (frame : Nat) : State :=
  (c.place (frame * c.frameBlocks) c.frameBlocks).foldl (fun s e => s.out (.nvme c.drive (.read e.1 e.2))) s

/-- A read error of a drive: its player is LOST (R119). -/
def State.readFaultOf (s : State) (n drive : Nat) : State :=
  let s := (s.modPlayer n (fun p => { p with readFault := true, held := [] })).judgePlayer n
  s.raise Event.POCKET_READ_FAULT (sourceCode 3 n) drive

/-- A clip frame that a player reads ahead of is read from its drive (R117, R119, R365). -/
def State.prefetched (s : State) (n frame : Nat) (p : Raster) (audio : List Int) (ok : Bool) : State :=
  let st := s.rd Dict.POCKET_PLAYER_PLAY_STATE n
  let clip := s.playerClip n
  let a := s.playerAt n
  let from_ := if st = 1 ∨ st = 2 then a.startFrame else s.rd Dict.POCKET_PLAYER_POSITION n
  if s.alive ∧ s.rd Dict.POCKET_PLAYER_HEALTH n = 2 ∧ 1 ≤ st ∧ st ≤ 4 ∧ frame < clip.frames ∧ s.aheadOf n frame from_
      ∧ !a.held.any (fun e => e.1 == frame) then
    let s := s.readBlocks clip frame
    if ok then s.putPlayer n { a with held := a.held ++ [(frame, p, audio)] } else s.readFaultOf n clip.drive
  else s

/-- The meaning of POCKET_PREFETCH_COMPLETE (R9, R117): the frame's pixels, as codes of the clip's FORMAT, and its audio,
or a read error. -/
def execPocketPrefetchComplete (n : Fin 32) (frame : Nat) (p : Picture) (audio : List Int) (ok : Bool) (s : State) :
    Host.Outcome State Fault Refusal :=
  let b := s.begin
  .next (b.prefetched n frame (Raster.ofCodes (b.playerClip n).format p) audio ok)

end Sys2Proof.Machine
end

