-- ==== Sys2Proof/Machine/Ingest.lean ====
section
/-! DEFINITION. The commands of video inputs (R94 to R112). -/
namespace Sys2Proof.Machine
open Sys2Proof

/-! ### Enabling (R94, R120) -/

/-- A change of ENABLE applies at the next base-frame compose latch of a running canvas that names the input, or at
once when there is none (R120). -/
def State.applyInput (s : State) (n : Nat) : State :=
  if (s.canvasesNaming 1 n).isEmpty then s.takeInput n
  else s.modInput n (fun i => { i with enablePending := true })

/-- ENABLE of an input written 1 (R94, R111). -/
def State.enableInput (s : State) (n : Nat) : Effect :=
  if s.flag Dict.INPUT_ENABLE n then .done s
  else
    match s.judgeInput n with
    | some r => .refused r s
    | none => .done ((((s.wr Dict.INPUT_ENABLE 1 n).takeStore n).countMotion).applyInput n)

/-- ENABLE of an input written 0 (R102). -/
def State.disableInput (s : State) (n : Nat) : Effect :=
  if s.flag Dict.INPUT_ENABLE n then .done (((s.wr Dict.INPUT_ENABLE 0 n).countMotion).applyInput n) else .done s

/-- The meaning of INPUT_ENABLE (R94). -/
def execInputEnable (sess : Fin 12) (n : Fin 64) (s : State) : Host.Outcome State Fault Refusal :=
  .next (s.begin.writeScalar sess Dict.INPUT_ENABLE n 0 1 (fun s => s.enableInput n))

/-- The meaning of INPUT_DISABLE (R102). -/
def execInputDisable (sess : Fin 12) (n : Fin 64) (s : State) : Host.Outcome State Fault Refusal :=
  .next (s.begin.writeScalar sess Dict.INPUT_ENABLE n 0 0 (fun s => s.disableInput n))

/-! ### Health (R102) -/

/-- An input goes to ACQUIRING from another health (Table 4.2). -/
def State.acquire (s : State) (n : Nat) : State :=
  let was := s.rd Dict.INPUT_HEALTH n
  let s := s.modInput n (fun i => { i with
    intact := 0, clean := 0, missing := 0, damaged := false, cause := 0, lastRtp := 0, lastIntactAt := s.timebase
    carried := none })
  (s.setHealth n 1).raise Event.INPUT_ACQUIRING (sourceCode 1 n) was

/-- An input becomes PRESENT. -/
def State.present (s : State) (n : Nat) : State :=
  let was := s.rd Dict.INPUT_HEALTH n
  (s.wr Dict.INPUT_HEALTH 2 n).raise Event.INPUT_PRESENT (sourceCode 1 n) was

/-- An input becomes DEGRADED: bit 0 errors counted, bit 1 a path lost. -/
def State.degrade (s : State) (n : Nat) (errors path : Bool) : State :=
  let s := s.modInput n (fun i => { i with clean := 0 })
  (s.wr Dict.INPUT_HEALTH 3 n).raise Event.INPUT_DEGRADED (sourceCode 1 n) (errors.toNat + 2 * path.toNat)

/-- An input becomes LOST, with the cause noted with it. -/
def State.loseInput (s : State) (n : Nat) : State :=
  let i := s.inputAt n
  let cause := if i.cause ≠ 0 then i.cause else if 3 ≤ s.rd Dict.INPUT_TRANSPORT n then 1 else 4
  let s := s.putInput n { i with intact := 0, clean := 0, carried := none }
  (s.setHealth n 4).raise Event.INPUT_LOST (sourceCode 1 n) cause

/-- Whether both paths of an ST 2022-7 pair deliver; true of an input with one path (R98, R102). -/
def State.pathsDeliver (s : State) (n : Nat) : Bool :=
  s.rd Dict.INPUT_PORT_B n == 0xFF || s.rd Dict.INPUT_PATH_STATE n % 4 == 3

/-- The health after an intact frame with or without errors counted (Table 4.2). -/
def State.judgeHealth (s : State) (n : Nat) (errors : Bool) : State :=
  let i := s.inputAt n
  let both := s.pathsDeliver n
  match s.rd Dict.INPUT_HEALTH n with
  | 1 =>
    if i.intact < 2 then s
    else if 2 ≤ i.clean ∧ both then s.present n else s.degrade n (decide (i.clean < 2)) (!both)
  | 2 => if errors ∨ !both then s.degrade n errors (!both) else s
  | 3 => if 64 ≤ i.clean ∧ both then s.present n else s
  | _ => s

/-! ### Frames (R99, R102, R103, R111, R179) -/

/-- The smoothed time of the newest of a list of frames, by number and arrival: a least-squares line (R179). -/
def fitTime (l : List (Nat × Nat)) : Nat :=
  match l with
  | [] => 0
  | (x, y) :: _ =>
    let n : Int := l.length
    let sx : Int := (l.map (fun e => (e.1 : Int))).foldl (· + ·) 0
    let sy : Int := (l.map (fun e => (e.2 : Int))).foldl (· + ·) 0
    let sxx : Int := (l.map (fun e => (e.1 * e.1 : Int))).foldl (· + ·) 0
    let sxy : Int := (l.map (fun e => (e.1 * e.2 : Int))).foldl (· + ·) 0
    let d := n * sxx - sx * sx
    if d = 0 then y else (nearby 7 (sy * d + (n * x - sx) * (n * sxy - sx * sy)) (n * d).toNat).toNat

/-- Whether a capture of the input runs (R370). -/
def State.inputCaptured (s : State) (n : Nat) : Bool :=
  [0, 1].any (fun k => (s.captureAt k).clip != 0 && (s.captureAt k).source == 0x100 + n)

/-- An intact frame is counted, and stored unless the input is LOCKED and not captured; a LOCKED one is kept to be
carried over (R102, R111, R112, R370). -/
def State.takeFrame (s : State) (n : Nat) (p : Raster) (errors : Bool) (rtp : Nat) : State :=
  let i := s.inputAt n
  let arrivals := ((i.nextFrame, s.timebase) :: i.arrivals).take 16
  let f : Frame := ⟨i.nextFrame, p, s.timebase, fitTime arrivals⟩
  let room := if s.rd Dict.INPUT_TIMING_CLASS n ≠ 1 ∨ s.inputCaptured n then s.storeFrames n else 1
  let s := s.putInput n { i with
    frames := (f :: i.frames).take room, nextFrame := i.nextFrame + 1, arrivals := arrivals
    intact := i.intact + 1, clean := if errors then 0 else i.clean + 1, missing := 0, cause := 0
    errorsNow := false, damaged := false, gapSeen := false, sawFrame := true, lastRtp := rtp % 2 ^ 32 + 1
    lastIntactAt := s.timebase
    bandLines := 0, band := Raster.init }
  (s.inc Dict.INPUT_FRAMES_RECEIVED n).judgeHealth n errors

/-- The frame in progress is damaged from a line on (R102, R103, R110); once for each frame. -/
def State.damageFrame (s : State) (n line cause : Nat) : State :=
  let i := s.inputAt n
  if s.frameDamaged n then s
  else
    let s := s.putInput n { i with
      damaged := true, damagedLine := line, damagedAt := s.timebase, cause := cause, nextFrame := i.nextFrame + 1
      sawFrame := true, intact := 0, clean := 0 }
    ((s.inc Dict.INPUT_FRAMES_DAMAGED n).raise Event.INPUT_FRAME_DAMAGED (sourceCode 1 n) line).bandBreaks n line

/-- Whether the RTP time-stamp's step from the last frame that ended differs from 90 kHz divided by the rate; where packets
were lost in between, from that of any of the frame periods that passed without an intact frame (Table 4.3, log 72). -/
def State.rtpStepBad (s : State) (n rtp : Nat) : Bool :=
  let i := s.inputAt n
  let num := s.rd Dict.INPUT_RATE_NUM n
  let step := (rtp % 2 ^ 32 + 2 ^ 32 - (i.lastRtp - 1)) % 2 ^ 32
  let off (periods : Nat) : Bool :=
    let want := periods * 90000 * s.rd Dict.INPUT_RATE_DEN n
    decide (step * num + num ≤ want) || decide (want + num ≤ step * num)
  i.lastRtp != 0 && (List.range (if i.gapSeen then i.missing + 1 else 1)).all (fun k => off (k + 1))

/-- Whether a lane of a D-lane input is DEGRADED (Table 4.2). -/
def State.inputLaneDegraded (s : State) (n : Nat) : Bool :=
  let t := s.rd Dict.INPUT_TRANSPORT n
  let a := s.rd Dict.INPUT_PORT_A n
  if t = 4 then (s.dlaneAt a).state == .degraded
  else t == 3 && (List.range 4).any (fun k => (s.dlaneAt (4 * a + k)).state == .degraded)

/-- The format measured in a frame that ends: MEASURED_FORMAT, and how many consecutive frames agree (R99). -/
def State.noteFormat (s : State) (n : Nat) (m : List Byte) : State :=
  (s.wrDom Dict.INPUT_MEASURED_FORMAT m n).modInput n (fun i => { i with
    agree := if i.measured = m then i.agree + 1 else 1, measured := m })

/-- INPUT_FORMAT_MISMATCH, once for a measured format (R99). -/
def State.mismatch (s : State) (n : Nat) (m : List Byte) : State :=
  (s.modInput n (fun i => { i with reported := m })).raise Event.INPUT_FORMAT_MISMATCH (sourceCode 1 n)
    (leAt m 0 2 * 65536 + leAt m 2 2)

/-- The measured format becomes the descriptor, and the input acquires it (R99). -/
def State.adoptFormat (s t : State) (n : Nat) (m : List Byte) : State :=
  let h := s.rd Dict.INPUT_HEALTH n
  let s := (t.takeStore n).modInput n (fun i => { i with
    frames := [], arrivals := [], fields := [], carried := none, reported := [], intact := 0, clean := 0, missing := 0 })
  let s := s.dropStrips .estimate n
  let s := s.raise Event.INPUT_FORMAT_CHANGE (sourceCode 1 n) (leAt m 0 2 * 65536 + leAt m 2 2)
  if 2 ≤ h then s.acquire n else s

/-- Whether two consecutive frames agree on a format that differs from the descriptor and has not been reported (R99). -/
def State.formatAgreed (s : State) (n : Nat) (m : List Byte) : Bool :=
  s.formatDiffers n m && decide (2 ≤ (s.inputAt n).agree) && (s.inputAt n).reported != m

/-- What two consecutive frames of one format that differs from the descriptor lead to (R99). -/
def State.judgeFormat (s : State) (n : Nat) (m : List Byte) : State :=
  let i := s.inputAt n
  if s.formatDiffers n m = false then s.putInput n { i with reported := [] }
  else if s.formatAgreed n m then
    if s.flag Dict.INPUT_FORMAT_MODE n then
      let t := s.takeFormat n m
      if t.followFits n then s.adoptFormat t n m
      else
        let s := s.mismatch n m
        if s.supplies n then (s.modInput n (fun i => { i with cause := 3 })).loseInput n else s
    else s.mismatch n m
  else s

/-- A damaged frame ends: errors counted in it degrade a PRESENT input all the same (Table 4.2). -/
def State.endDamaged (s : State) (n : Nat) (errors : Bool) (rtp : Nat) : State :=
  let s := s.modInput n (fun i => { i with
    damaged := false, bandLines := 0, band := Raster.init, errorsNow := false, gapSeen := false
    lastRtp := rtp % 2 ^ 32 + 1 })
  if errors ∧ s.rd Dict.INPUT_HEALTH n = 2 then s.degrade n true false else s

/-- A received frame ends (R99, R102, R103). -/
def State.endInputFrame (s : State) (n : Nat) (f : InputFrame) : State :=
  let h := s.rd Dict.INPUT_HEALTH n
  if s.alive ∧ 1 ≤ h then
    let dlane := decide (3 ≤ s.rd Dict.INPUT_TRANSPORT n)
    let m := f.measured.take 16
    let s := (s.wr Dict.INPUT_MEASURED_RATE f.rate n).wrFlag Dict.INPUT_PROTECTED f.isProtected n
    let s := if dlane then s.noteFormat n m else s
    let differs := dlane && s.formatDiffers n m
    let step := !dlane && s.rtpStepBad n f.rtp
    let s := s.modInput n (fun i => { i with stepBad := step })
    let followed := dlane && s.formatAgreed n m && s.flag Dict.INPUT_FORMAT_MODE n
    let errors := (s.inputAt n).errorsNow || (dlane && f.corrected && s.inputLaneDegraded n)
    let s := match f.damage with
      | some line => s.damageFrame n line (if differs ∨ step then 3 else 2)
      | none => if differs ∨ step then s.damageFrame n 0 3 else s
    let s := if s.frameDamaged n then s.endDamaged n (errors && !followed) f.rtp
      else
        let p := s.ingested n f.picture
        ((s.bandArrives n (s.storedRaster n).2 p).takeFrame n p errors f.rtp).capture (0x100 + n) (s.inputPeriod n) p
    (if dlane then s.judgeFormat n m else s).groupFrame (s.groupOfInput n)
  else s

/-- The meaning of INPUT_FRAME_END (R102). -/
def execInputFrameEnd (n : Fin 64) (f : InputFrame) (s : State) : Host.Outcome State Fault Refusal :=
  .next (s.begin.endInputFrame n f)

/-- A descriptor frame period has passed without an intact frame (R102); the second in succession makes the input
LOST. -/
def State.missInputFrame (s : State) (n : Nat) : State :=
  let i := s.inputAt n
  let h := s.rd Dict.INPUT_HEALTH n
  if s.alive ∧ 1 ≤ h ∧ i.lastIntactAt + s.inputPeriod n ≤ s.timebase then
    let s := s.putInput n { i with
      missing := i.missing + 1, intact := 0, clean := 0, sawFrame := false
      nextFrame := if i.sawFrame then i.nextFrame else i.nextFrame + 1
      lastIntactAt := i.lastIntactAt + s.inputPeriod n }
    let s := s.inc Dict.INPUT_FRAMES_MISSING n
    if (h = 2 ∨ h = 3) ∧ 1 ≤ i.missing then s.loseInput n else s
  else s

/-- The meaning of INPUT_MISSING_FRAME (R102). -/
def execInputMissingFrame (n : Fin 64) (s : State) : Host.Outcome State Fault Refusal :=
  .next (s.begin.missInputFrame n)

/-- A D-lane input's signal stops: the frame in progress is damaged (R103). -/
def State.loseSignal (s : State) (n line : Nat) : State :=
  if s.alive ∧ 1 ≤ s.rd Dict.INPUT_HEALTH n ∧ 3 ≤ s.rd Dict.INPUT_TRANSPORT n then s.damageFrame n line 1 else s

/-- The meaning of INPUT_SIGNAL_LOSS (R103): the line then being received. -/
def execInputSignalLoss (n : Fin 64) (line : Nat) (s : State) : Host.Outcome State Fault Refusal :=
  .next (s.begin.loseSignal n line)

/-! ### Paths (R96, R98, R103) -/

/-- Arrival of a path's last packet, plus 1. -/
def Input.pathTime (i : Input) (k : Nat) : Nat := Store.read (fun _ => 0) i.pathAt k

/-- A path that has delivered nothing for GAP_TIMEOUT is lost; with no other path, the frame is damaged (R98,
R102, R103). -/
def State.losePath (s : State) (n path line : Nat) : State :=
  let t := (s.inputAt n).pathTime path
  let st := s.rd Dict.INPUT_PATH_STATE n
  if s.alive ∧ 1 ≤ s.rd Dict.INPUT_HEALTH n ∧ bit st path ∧ t ≠ 0
      ∧ t - 1 + s.rd Dict.INPUT_GAP_TIMEOUT n * 1000 ≤ s.now then
    let s := s.wr Dict.INPUT_PATH_STATE (putBit st path false) n
    let pair := s.rd Dict.INPUT_PORT_B n != 0xFF
    let s := s.raiseIf pair Event.INPUT_PATH_LOST (sourceCode 1 n) path
    if pair ∧ bit st (1 - path) then
      if s.rd Dict.INPUT_HEALTH n = 2 then s.degrade n false true else s
    else
      (s.damageFrame n line 4).modInput n (fun i => { i with
        packets := [], nextSeq := 0, buffer := [], lines := 0, gapSeen := true })
  else s

/-- The meaning of INPUT_GAP_TIMEOUT (R103): the line then being received. -/
def execInputGapTimeout (n : Fin 64) (path : Fin 2) (line : Nat) (s : State) : Host.Outcome State Fault Refusal :=
  .next (s.begin.losePath n path line)

/-- Whether what an input receives matches its descriptor: a D-lane input by the format it measures, an IP input by the step
of the last time-stamps (R99, R103, R104). -/
def State.signalMatches (s : State) (n : Nat) (m : List Byte) : Bool :=
  if s.rd Dict.INPUT_TRANSPORT n ≤ 2 then !(s.inputAt n).stepBad else !s.formatDiffers n m

/-- Signal or packets return to a LOST input, which leaves LOST once they match its descriptor (R102, R104). -/
def State.findSignal (s : State) (n : Nat) (m : List Byte) : State :=
  if s.alive ∧ s.rd Dict.INPUT_HEALTH n = 4 ∧ s.signalMatches n m then s.acquire n else s

/-- The meaning of INPUT_SIGNAL_DETECTED (R102): the format that a D-lane input measures. -/
def execInputSignalDetected (n : Fin 64) (measured : List Byte) (s : State) : Host.Outcome State Fault Refusal :=
  .next (s.begin.findSignal n measured)

/-- The path of an input that a packet belongs to (R96, R98). -/
def State.pathOf (s : State) (n : Nat) (k : RtpPacket) : Option Nat :=
  let fits (port dest source udp : Nat) : Bool :=
    k.port == port && k.dest == dest && k.udp == udp && (source == 0 || k.source == source)
  let t := s.rd Dict.INPUT_TRANSPORT n
  if t = 0 ∨ 3 ≤ t ∨ (t = 1 ∧ k.payloadType ≠ s.rd Dict.INPUT_PAYLOAD_TYPE n) then none
  else if fits (s.rd Dict.INPUT_PORT_A n) (s.rd Dict.INPUT_DEST_ADDR_A n) (s.rd Dict.INPUT_SOURCE_A n)
      (s.rd Dict.INPUT_UDP_PORT_A n) then some 0
  else if s.rd Dict.INPUT_PORT_B n < 48 ∧ fits (s.rd Dict.INPUT_PORT_B n) (s.rd Dict.INPUT_DEST_ADDR_B n)
      (s.rd Dict.INPUT_SOURCE_B n) (s.rd Dict.INPUT_UDP_PORT_B n) then some 1
  else none

/-- Whether sequence number `a` comes no later than `b`, in 16-bit serial arithmetic. -/
def seqPassed (a b : Nat) : Bool := decide ((b + 65536 - a % 65536) % 65536 < 32768)

/-- Whether a packet comes too late: the receive buffer has delivered its number or given it up (R96, R98). -/
def Input.late (i : Input) (seq : Nat) : Bool :=
  i.nextSeq != 0 && seqPassed seq ((i.nextSeq + 65534) % 65536)

/-- The packets that the receive buffer holds and that follow without a gap are delivered, at most `m` of them (R96). -/
def Input.drain (i : Input) : Nat → Input
  | 0 => i
  | m + 1 =>
    match i.buffer.find? (fun e => e.1 + 1 == i.nextSeq) with
    | some e => { i with
        nextSeq := (e.1 + 1) % 65536 + 1, lines := e.2.2
        buffer := i.buffer.filter (fun x => x.1 != e.1) }.drain m
    | none => i

/-- How far a sequence number lies past the one that is delivered next. -/
def Input.ahead (i : Input) (seq : Nat) : Nat := (seq + 65537 - i.nextSeq) % 65536

/-- The packets missing before the earliest one held are given up. -/
def Input.skipGap (i : Input) : Input :=
  let near := i.buffer.foldl (fun d e => min d (i.ahead e.1)) 65535
  { i with nextSeq := (i.nextSeq - 1 + near) % 65536 + 1, gapSeen := true }.drain i.buffer.length

/-- Whether the receive buffer gives up the packets it waits for: a pair holds packets for PATH_SKEW_MAX, and one path for as
many as the buffer takes out of order (R96, R98, log 70). -/
def State.gapOver (s : State) (n : Nat) : Bool :=
  let i := s.inputAt n
  if s.rd Dict.INPUT_PORT_B n = 0xFF then decide (Config.receiveBuffer (s.rd Dict.INPUT_RX_TIMING n) < i.buffer.length)
  else i.buffer.any (fun e => decide (e.2.1 + s.rd Dict.INPUT_PATH_SKEW_MAX n * 1000000 < s.now))

/-- A gap that the receive buffer gives up damages the frame from the first line that it leaves incomplete (R103). -/
def State.closeGap (s : State) (n : Nat) : State :=
  let lines := (s.inputAt n).lines
  (s.damageFrame n (if s.rd Dict.INPUT_HEIGHT n ≤ lines then 0 else lines) 2).modInput n Input.skipGap

/-- A packet that is not late enters the receive buffer, which delivers what is in order and closes the gaps it gives up
(R96). -/
def State.bufferPacket (s : State) (n : Nat) (k : RtpPacket) : State :=
  let i := s.inputAt n
  let seq := k.seq % 65536
  if i.late seq ∨ i.buffer.any (fun e => e.1 == seq) then s
  else
    let held := i.buffer ++ [(seq, s.now, k.lines)]
    let s := s.putInput n
      ({ i with nextSeq := if i.nextSeq = 0 then seq + 1 else i.nextSeq, buffer := held }.drain held.length)
    (List.range held.length).foldl (fun s _ => if s.gapOver n then s.closeGap n else s) s

/-- Packets held past PATH_SKEW_MAX: each was missing on the other path and is counted as recovered (R98). -/
def State.expirePackets (s : State) (n : Nat) : State :=
  let i := s.inputAt n
  let skew := s.rd Dict.INPUT_PATH_SKEW_MAX n * 1000000
  let gone := i.packets.filter (fun e => decide (e.2.2 + skew < s.now))
  if gone.isEmpty then s
  else
    (s.putInput n { i with
      packets := i.packets.filter (fun e => decide (s.now ≤ e.2.2 + skew)), errorsNow := true }).inc
        Dict.INPUT_PACKETS_RECOVERED n 0 gone.length

/-- A packet of a pair merged by its sequence number: the second of the two copies is dropped, as is one that comes after
its number has been given up (R98). -/
def State.mergePacket (s : State) (n path : Nat) (k : RtpPacket) : State :=
  let s := s.expirePackets n
  let i := s.inputAt n
  let seq := k.seq % 65536
  if i.packets.any (fun e => e.1 == seq && e.2.1 != path) then
    s.putInput n { i with packets := i.packets.filter (fun e => !(e.1 == seq && e.2.1 != path)) }
  else if i.late seq then s
  else (s.putInput n { i with packets := i.packets ++ [(seq, path, s.now)] }).bufferPacket n k

/-- Whether the receive buffer of an input that expects types N and NL overflows at a packet of a type W sender (R96). -/
def State.bufferOverflows (s : State) (n : Nat) (k : RtpPacket) : Bool :=
  s.rd Dict.INPUT_RX_TIMING n == 0 && k.wide && Config.bufferOverflows s.now k.seq

/-- An RTP packet received (R96, R98, R103). -/
def State.receiveRtp (s : State) (n : Nat) (k : RtpPacket) : State :=
  if s.alive ∧ 1 ≤ s.rd Dict.INPUT_HEALTH n ∧ 2 ≤ s.rd Dict.PORT_STATE k.port then
    match s.pathOf n k with
    | some path =>
      let st := s.rd Dict.INPUT_PATH_STATE n
      let i := s.inputAt n
      let pair := s.rd Dict.INPUT_PORT_B n != 0xFF
      let s := s.inc Dict.PORT_RX_FRAMES k.port
      let s := s.raiseIf (pair && !bit st path && i.pathTime path != 0) Event.INPUT_PATH_RESTORED
        (sourceCode 1 n) path
      let s := s.wr Dict.INPUT_PATH_STATE (putBit st path true) n
      let s := s.modInput n (fun i => { i with pathAt := Store.write (fun _ => 0) i.pathAt path (s.now + 1) })
      if s.bufferOverflows n k then s
      else if pair then s.mergePacket n path k
      else s.bufferPacket n k
    | none => s
  else s

/-- The meaning of INPUT_PACKET_RX (R98). -/
def execInputPacketRx (n : Fin 64) (k : RtpPacket) (s : State) : Host.Outcome State Fault Refusal :=
  .next (s.begin.receiveRtp n k)

end Sys2Proof.Machine
end

