-- ==== Sys2Proof/Machine/Heads.lean ====
section
/-! DEFINITION. The commands of heads and of the legacy event group (chapter 8). -/
namespace Sys2Proof.Machine
open Sys2Proof

/-! ### Starting and stopping (R231) -/

/-- Whether head `h` may embed what HEAD_MAP gives it: within its capacity, and 48 kHz for SDI (R324, R328). -/
def State.embedderRules (s : State) (h : Nat) : List (Bool × Refuse) :=
  let named := (List.range 16).filter (fun i => leAt (s.dom Dict.AUDIO_MATRIX_HEAD_MAP) (32 * h + 2 * i) 2 != 0xFFFF)
  let ty := s.rd Dict.HEAD_TYPE h
  [(ty == 4 && s.rd Dict.AUDIO_MATRIX_MATRIX_RATE_NUM != 48000 && !named.isEmpty, .field 0x70 Dict.AUDIO_MATRIX_MATRIX_RATE_NUM),
   (named.any (fun i => decide (s.headCapacity h ≤ i)), .field 0x72 Dict.AUDIO_MATRIX_HEAD_MAP),
   ((s.destRefusal 6 h).isSome, .field ((s.destRefusal 6 h).getD 0) Dict.AUDIO_MATRIX_HEAD_MAP)]

/-- What refuses the start of head `h`, if anything (R128, R230 to R247, R324, R328). -/
def State.judgeHead (s : State) (h : Nat) : Option Refuse :=
  let v := s.wr Dict.HEAD_ENABLE 1 h
  firstOf (v.modeRules h ++ v.headRules h ++ v.embedderRules h)

/-- ENABLE of a head written 1 (R231, R237, R240). -/
def State.enableHead (s : State) (h : Nat) : Effect :=
  if s.flag Dict.HEAD_ENABLE h then .done s
  else
    match s.judgeHead h with
    | some r => .refused r s
    | none =>
      let s := ((s.wr Dict.HEAD_ENABLE 1 h).takeBuffers).takeFifo h
      let s := s.wr Dict.HEAD_STATUS_FIFO_LOW_WATER (1024 * s.rd Dict.HEAD_STATUS_FIFO_SIZE h) h
      .done (s.modHead h (fun a => { a with
        stopping := false, startAfter := if a.running then 0 else s.timebase + 1000000 }))

/-- The meaning of HEAD_ENABLE (R231). -/
def execHeadEnable (sess : Fin 12) (h : Fin 32) (s : State) : Host.Outcome State Fault Refusal :=
  .next (s.begin.writeScalar sess Dict.HEAD_ENABLE h 0 1 (fun s => s.enableHead h))

/-- ENABLE of a head written 0: it stops at its next frame start (R231). -/
def State.disableHead (s : State) (h : Nat) : Effect :=
  let s := s.wr Dict.HEAD_ENABLE 0 h
  if (s.headAt h).running then .done (s.modHead h (fun a => { a with stopping := true }))
  else .done (((s.modHead h (fun a => { a with startAfter := 0 })).takeBuffers).takeFifo h)

/-- The meaning of HEAD_DISABLE (R231). -/
def execHeadDisable (sess : Fin 12) (h : Fin 32) (s : State) : Host.Outcome State Fault Refusal :=
  .next (s.begin.writeScalar sess Dict.HEAD_ENABLE h 0 0 (fun s => s.disableHead h))

/-! ### Frames -/

/-- The meaning of HEAD_FRAME_START (R232). -/
def execHeadFrameStart (h : Fin 32) (low : Nat) (s : State) : Host.Outcome State Fault Refusal :=
  .next (s.begin.headFrame h low)

/-- A head's flip latch: the buffer just composed becomes its slot's front buffer, and head commits land
(R131, R234, R235). -/
def State.flipLatch (s : State) (h : Nat) : State :=
  let a := s.headAt h
  let t := a.frameStart + s.flipOffset h
  if s.alive ∧ a.running ∧ a.flipped = false ∧ t ≤ s.timebase then
    let c := s.shownCanvas h
    let s := s.modHead h (fun a => { a with flipped := true })
    let s := if c < 8 ∧ s.leadHead c = some h then s.flipSlot c else s
    s.landDue 1 h t
  else s

/-- The meaning of FLIP_LATCH (R234). -/
def execFlipLatch (h : Fin 32) (s : State) : Host.Outcome State Fault Refusal := .next (s.begin.flipLatch h)

/-- VB0 of a head (R253). -/
def State.startOfBlank (s : State) (h : Nat) : State :=
  let a := s.headAt h
  if s.alive ∧ a.running ∧ a.blanked = false ∧ a.frameStart + s.vb0Offset h ≤ s.timebase then
    (s.modHead h (fun a => { a with blanked := true })).setLegacy Dict.LEGACY_EVENTS_STATUS_START_OF_BLANK
      Dict.LEGACY_EVENTS_ENABLE_START_OF_BLANK h
  else s

/-- The meaning of START_OF_BLANK (R253). -/
def execStartOfBlank (h : Fin 32) (s : State) : Host.Outcome State Fault Refusal :=
  .next (s.begin.startOfBlank h)

/-- Line MATCH_LINE of a head (R253). -/
def State.lineMatch (s : State) (h : Nat) : State :=
  let a := s.headAt h
  let line := s.rd Dict.LEGACY_EVENTS_MATCH_LINE 0 h
  if s.alive ∧ a.running ∧ a.matched = false ∧ line < s.rd Dict.HEAD_V_TOTAL h
    ∧ a.frameStart + s.lineTime h line ≤ s.timebase then
    (s.modHead h (fun a => { a with matched := true })).setLegacy Dict.LEGACY_EVENTS_STATUS_LINE_MATCH
      Dict.LEGACY_EVENTS_ENABLE_LINE_MATCH h
  else s

/-- The meaning of LINE_MATCH (R253). -/
def execLineMatch (h : Fin 32) (s : State) : Host.Outcome State Fault Refusal := .next (s.begin.lineMatch h)

/-- The scan FIFO of a DRAM-scanned head lacks pixel `x` of an active line of its canvas's picture: BACKGROUND goes out
to the end of the line, and into the tiles that read it (R241). -/
def State.underrun (s : State) (h line x : Nat) : State :=
  let a := s.headAt h
  let v := s.asScanned h
  let w := s.headRd h Dict.HEAD_H_ACTIVE
  if s.alive ∧ a.running ∧ a.shown = .content ∧ s.headRd h Dict.HEAD_BUFFER_MODE = 1
    ∧ line < s.headRd h Dict.HEAD_V_ACTIVE ∧ x < w ∧ a.short.all (fun e => e.1 != line) then
    let s := s.putHead h { a with underruns := a.underruns + 1, short := Store.put a.short line x }
    let s := (s.inc Dict.HEAD_STATUS_UNDERRUN_LINES h).wr Dict.HEAD_STATUS_FIFO_LOW_WATER 0 h
    let s := if s.rd Dict.HEAD_TYPE h = 1 then s
      else s.out (.pixels h line (v.rasterLine h a.carried .content 0 x line
        ++ v.rasterLine h a.carried .background x (w - x) line))
    s.setLegacy Dict.LEGACY_EVENTS_STATUS_UNDERRUN Dict.LEGACY_EVENTS_ENABLE_UNDERRUN h
  else s

/-- The meaning of HEAD_UNDERRUN (R241). -/
def execHeadUnderrun (h : Fin 32) (line x : Nat) (s : State) : Host.Outcome State Fault Refusal :=
  .next (s.begin.underrun h line x)

/-- The meaning of FIFO_LOW_WATER_READ: the least fill since the last read of it (Table 8.5). -/
def execFifoLowWaterRead (sess : Fin 12) (h : Fin 32) (s : State) : Host.Outcome State Fault Refusal :=
  .next (s.begin.readScalar sess Dict.HEAD_STATUS_FIFO_LOW_WATER h 0
    (fun s => s.rd Dict.HEAD_STATUS_FIFO_LOW_WATER h)
    (fun s => s.wr Dict.HEAD_STATUS_FIFO_LOW_WATER (1024 * s.rd Dict.HEAD_STATUS_FIFO_SIZE h) h))

/-! ### Read-back and SAFE fill -/

/-- The meaning of CHECK_WINDOW_END (R250). -/
def execCheckWindowEnd (h : Fin 32) (w : Fin 16) (echo : Nat) (s : State) :
    Host.Outcome State Fault Refusal :=
  .next (s.begin.checkWindow h w echo)

/-- SAFE fill ended by command, from the head's next frame start on (R250, R255). -/
def State.clearSafe (s : State) (h : Nat) : Effect :=
  let a := s.headAt h
  .done (if a.safe then s.putHead h { a with safeClear := true } else s)

/-- The meaning of SAFE_CLEAR (R250). -/
def execSafeClear (sess : Fin 12) (h : Fin 32) (value : Nat) (s : State) : Host.Outcome State Fault Refusal :=
  .next (s.begin.writeScalar sess Dict.HEAD_SAFE_CLEAR h 0 value (fun s => s.clearSafe h))

/-! ### RETIME (R254) -/

/-- The meaning of RETIME (R254): a head commit with the new timing, received. -/
def execRetime (sess : Fin 12) (h : Fin 32) (value : Nat) (s : State) : Host.Outcome State Fault Refusal :=
  .next (s.begin.writeScalar sess Dict.HEAD_RETIME h 0 value (fun s =>
    s.receiveSingle 1 h sess 0xFF (some (s.newTiming h))))

/-- The meaning of RETIME_NEW_TIMING (R254). -/
def execRetimeNewTiming (h : Fin 32) (s : State) : Host.Outcome State Fault Refusal :=
  .next (s.begin.retimed h)

/-! ### The legacy event group (R253) -/

/-- The STATUS field of a legacy condition: 0 START_OF_BLANK, 1 LINE_MATCH, 2 FRAME_DONE, 3 UNDERRUN. -/
def legacyStatus : Nat → EntryDef
  | 0 => Dict.LEGACY_EVENTS_STATUS_START_OF_BLANK
  | 1 => Dict.LEGACY_EVENTS_STATUS_LINE_MATCH
  | 2 => Dict.LEGACY_EVENTS_STATUS_FRAME_DONE
  | _ => Dict.LEGACY_EVENTS_STATUS_UNDERRUN

/-- Bits of a legacy STATUS field written 1 are cleared (R253). -/
def State.clearLegacy (s : State) (e : EntryDef) (value : Nat) : Effect :=
  .done (s.wr e (maskOf ((bitsSet (s.rd e) 32).filter (fun h => !bit value h))))

/-- The meaning of LEGACY_STATUS_CLEAR (R253). -/
def execLegacyStatusClear (sess : Fin 12) (which : Fin 4) (value : Nat) (s : State) :
    Host.Outcome State Fault Refusal :=
  .next (s.begin.writeScalar sess (legacyStatus which) 0 0 value (fun s =>
    s.clearLegacy (legacyStatus which) value))

end Sys2Proof.Machine
end

