-- ==== Sys2Proof/Machine/HentisOps.lean ====
section
/-! DEFINITION. Hentis: the loop, the end of a switch, alignment, FTGs and PTP (R293 to R314). -/
namespace Sys2Proof.Machine
open Sys2Proof

/-! ### The loop at a measurement interval's end (R295, R300, R302) -/

/-- The phase detector and the loop at an interval end of the candidate followed, whose mean frequency is `freq`: the loop
runs on from its integrator with the phase error measured (R300, R312, log 24). -/
def State.runLoop (s : State) (n : Nat) (freq : Int) : State :=
  let h := s.hentis
  let moved := if h.slewing then h.alignStep - h.alignLeft / 65536000000 else 0
  let err := s.refPhase n (s.rdInt Dict.REF_PHASE_OFFSET n - h.buildOut - moved)
  let (_, _, top) := refBandwidth (s.refType n)
  let inside := decide (err.natAbs ≤ 200000 ∧ (freq - s.dcoWord).natAbs ≤ 50 * 65536)
  let s := s.wrInt Dict.HENTIS_PHASE_ERROR err
  { s with hentis := { h with
    word := if h.loopBw = 0 then s.dcoWord else h.word - loopPart h.loopBw 0 h.loopSum
    loopBw := if s.rd Dict.HENTIS_STATE = 1 then top else s.rd Dict.REF_BANDWIDTH n
    loopFreq := freq, loopErr := err * 65536000000, loopSum := 0
    slewTo := none, ignoring := false
    boundSince := if !inside then 0 else if h.boundSince = 0 then s.now + 1 else h.boundSince } }

/-- The timebase time in ps at which the last edge of candidate `n` arrived: for a sync candidate the line edge nearest the
vertical sync of its last frame, for RECOVERED the last frame start of its input, and the rising edge otherwise (R294). -/
def State.refEdge (s : State) (n : Nat) (m : RefMeasure) : Int :=
  let (num, den) := s.refNominal n
  match s.refType n with
  | 1 | 2 => m.edge + reduceBy (1000000000000 * den) (num * max 1 (s.refLines n)) ((m.line : Int) - m.edge)
  | 8 => (max m.edge ((s.inputAt (s.rd Dict.REF_SOURCE n)).line0 * 1000) : Nat)
  | _ => m.edge

/-- Whether the activity check of candidate `n` passes at an interval end (Table 10.2). -/
def State.active (s : State) (n : Nat) (m : RefMeasure) : Bool :=
  let age (ps : Int) : Nat := s.timebase - (ps / 1000).toNat
  let edge := s.refEdge n m
  !s.activityOver n false (age (if s.refType n = 1 ∨ s.refType n = 2 then m.line else edge))
    && !s.activityOver n true (age edge) && !s.sourceGone n

/-- FAIL_CAUSE of candidate `n` at an interval end (R295, Table 10.2). -/
def State.causesAt (s : State) (n : Nat) (m : RefMeasure) (changed : Bool) : Nat :=
  let w := s.rd Dict.REF_FREQ_WINDOW n * 65536
  let r := s.refAt n
  let dwelt := r.dwellSince != 0 && decide (r.dwellSince - 1 + s.rd Dict.REF_DRIFT_DWELL n * nsPerS ≤ s.now)
  (!s.active n m).toNat + 2 * (s.glitchy n).toNat + 4 * (changed || decide (w < m.offset.natAbs)).toNat + 8 * dwelt.toNat
    + 16 * (s.refType n == 7 && s.rd Dict.REF_PTP_PORT_STATE n != 3).toNat

/-- What a measurement interval of candidate `n` gives is taken: the rate detected, the mean, OFFSET, DRIFT, PHASE_OFFSET
and the drift alarm (R295, R296, R299). -/
def State.takeMeasure (s : State) (n : Nat) (m : RefMeasure) : State :=
  let drift := s.driftOf n m.offset
  let w := s.rd Dict.REF_FREQ_WINDOW n * 65536
  let s := (s.takeDetected n m).modRef n (fun r => { r with
    intervalAt := s.now, mean := m.offset, measured := true
    dwellSince := if drift.natAbs < w then 0 else if r.dwellSince = 0 then s.now + 1 else r.dwellSince })
  let s := ((s.wr Dict.REF_MEASURED_RATE m.rate n).wrInt Dict.REF_OFFSET m.offset n).wrInt Dict.REF_DRIFT drift n
  let s := if s.refType n = 7 then s else s.setPhase n (s.refEdge n m)
  s.judgeAlarm n drift

/-- The loop at an interval end of candidate `n`, whose checks have failed with `cause`: it follows the candidate, slews
to it, or measures its phase error under LOOP_MODE OPEN (R300, R302, R314). -/
def State.loopMeasure (s : State) (n : Nat) (m : RefMeasure) (cause : Nat) : State :=
  if s.follows n ∧ cause = 0 then s.runLoop n m.offset
  else if s.rd Dict.SELECTOR_TARGET = n then s.slewWord m.offset
  else if s.rd Dict.HENTIS_LOOP_MODE = 1 ∧ s.rd Dict.SELECTOR_SELECTED = n then
    s.wrInt Dict.HENTIS_PHASE_ERROR (s.rdInt Dict.REF_PHASE_OFFSET n)
  else s

/-- A measurement interval of candidate `n` ends (R295, R296, R299). -/
def State.measure (s : State) (n : Nat) (m : RefMeasure) : State :=
  let r := s.refAt n
  if s.dictUp ∧ s.rd Dict.REF_QUAL_STATE n ≠ 0 ∧ r.intervalAt + refInterval (s.refType n) * nsPerS ≤ s.now then
    let changed := s.rateChanged n m
    let alarm := s.flag Dict.REF_DRIFT_ALARM n
    let s := s.takeMeasure n m
    let cause := s.causesAt n m changed
    let s := (s.loopMeasure n m cause).setCause n cause s.now
    if s.flag Dict.REF_DRIFT_ALARM n = alarm then s else s.select
  else s

/-- The wait-to-restore timer of candidate `n` runs out (R297). -/
def State.qualify (s : State) (n : Nat) : State :=
  let r := s.refAt n
  if s.dictUp ∧ s.rd Dict.REF_QUAL_STATE n = 2 ∧ r.waitSince + r.wait * nsPerS ≤ s.now then
    let s := s.modRef n (fun r => { r with meanAtQual := r.mean, everQual := true })
    ((s.wr Dict.REF_QUAL_S s.tS n).raise Event.REF_QUALIFIED n r.wait).setQual n 3
  else s

/-! ### The end of a switch and of an acquisition (R300, R302) -/

/-- A slew has reached its end: the build-out is captured afresh and the loop closes on the target (R302). -/
def State.endSwitch (s : State) (phase : Int) : State :=
  let r := s.rd Dict.SELECTOR_TARGET
  if s.dictUp ∧ s.switching ∧ s.hentis.slewTo = some s.dcoWord then
    let s := (s.holdWord).setPhase r phase
    let x := s.rdInt Dict.REF_PHASE_OFFSET r
    let s := { s with hentis := { s.hentis with
      buildOut := x, ignoring := false, boundSince := if s.rd Dict.HENTIS_STATE = 1 then s.now + 1 else 0 } }
    ((s.setSelected r 0xFF).raise Event.REF_SWITCH_DONE r (param (x / 1000))).select
  else s

/-- 10 time constants at a bandwidth in mHz, in ns: 10 / (2π f), to the nearest ns (R300, log 24). -/
def tenTaus (mHz : Nat) : Nat := (2 * 1591549430919 + mHz) / (2 * mHz)

/-! ### Alignment (R310 to R313) -/

/-- The slowest running FTG (R311). -/
def State.slowestFtg (s : State) : Option Nat :=
  ((List.range 8).filter s.ftgRuns).foldl (fun best n =>
    match best with
    | none => some n
    | some b => if s.ftgNum b * s.ftgDen n < s.ftgNum n * s.ftgDen b then some n else some b) none

/-- A time in timebase ns moved by `d` ns. -/
def moved (d : Int) (t : Nat) : Nat := ((t : Int) + d).toNat

/-- How many instants of a grid of period `num / den` ns a step of `ps` passes, exactly: the first instant of the new grid
at least one period after a frame's start lies that many beyond the frame's old end (R311). -/
def gridsPassed (num den : Nat) (ps : Int) : Int := -((-ps * den) / (1000 * num : Nat))

/-- The next frame start of a running head on the new grid after a step of `ps`: the first that carries the slot due next
and lies at least one frame period after the start of the frame in progress (R311); `old` is what it was, `slot` what it
carries. -/
def State.lengthened (s : State) (h old slot : Nat) (ps : Int) : Nat :=
  let k := ((s.headIndex h old : Int) + gridsPassed (s.headNum h) (s.headDen h) ps).toNat
  let i := ((List.range (s.headRate h)).find? (fun i => s.slotCarried h (k + i) == slot)).getD 0
  gridAt (s.headNum h) (s.headDen h) (s.headOffset h) (k + i)

/-- The next base-frame start of a running FTG on the new grid after a step of `ps`, and whether its frame in progress is
lengthened (R311). -/
def State.ftgMoved (s : State) (n : Nat) (ps : Int) : Nat × Bool :=
  let num := s.ftgNum n
  let den := s.ftgDen n
  let o := s.rd Dict.FTG_OFFSET n
  let k := ((gridFrom num den o (s.ftgAt n).nextStart : Int) + gridsPassed num den ps).toNat
  (gridAt num den o k, decide (ps * den % (1000 * num : Nat) ≠ 0))

/-- Everything that carries a timebase instant moves with a step of `ps`, `d` in whole ns, and every running FTG and head
lets its frame in progress run on to its new grid (R311). -/
def State.moveFrames (s : State) (d ps : Int) : State :=
  let m := moved d
  let slots := allHeads.map (fun h => s.slotCarried h (s.headIndex h ((s.nextFrame h).getD 0)))
  let olds := allHeads.map (fun h => (s.nextFrame h).getD 0)
  let opt (t : Nat) : Nat := if t = 0 then 0 else m t
  let s := (List.range 8).foldl (fun s n =>
    let f := s.ftgAt n
    if f.running then
      let (next, longer) := s.ftgMoved n ps
      let s := if longer then s.inc Dict.FTG_LENGTHENED_FRAMES n else s
      (s.putFtg n { f with lastStart := m f.lastStart, nextStart := next }).wrTime Dict.FTG_NEXT_START_S
        Dict.FTG_NEXT_START_NS next n
    else s.putFtg n { f with startAfter := opt f.startAfter }) s
  let s := allHeads.foldl (fun s h =>
    let a := s.headAt h
    if a.running then
      let old := (olds[h]?).getD 0
      s.putHead h { a with
        frameStart := m a.frameStart
        nextStart := if old = 0 then 0 else s.lengthened h old ((slots[h]?).getD 0) ps
        retime := a.retime.map (fun r => { r with oldEnd := opt r.oldEnd }) }
    else s.putHead h { a with startAfter := opt a.startAfter }) s
  let s := allCanvases.foldl (fun s c =>
    s.modCanvas c (fun v => { v with
      composeAt := opt v.composeAt, deadline := m v.deadline
      startAfter := if v.running ∧ (s.leadRunning c).isNone then (s.ftgAt (s.canvasFtg c)).nextStart
        else opt v.startAfter })) s
  let s := (List.range 64).foldl (fun s n =>
    s.modInput n (fun i => { i with
      frames := i.frames.map (fun f => { f with arrival := m f.arrival, time := m f.time })
      carried := i.carried.map (fun f => { f with arrival := m f.arrival, time := m f.time })
      arrivals := i.arrivals.map (fun e => (e.1, m e.2)), line0 := opt i.line0
      lastIntactAt := opt i.lastIntactAt, damagedAt := opt i.damagedAt })) s
  { s with
    engines := s.engines.map (fun e => (e.1, { e.2 with busyTo := opt e.2.busyTo }))
    strips := s.strips.map (fun a => { a with
      deadline := m a.deadline, issued := m a.issued, expected := opt a.expected, reissueAt := opt a.reissueAt
      copies := a.copies.map (fun c => { c with start := m c.start }) })
    pendingCommits := s.pendingCommits.map (fun e => (e.1, { e.2 with aim := m e.2.aim, land := m e.2.land }))
    flows := s.flows.map (fun e => (e.1, { e.2 with starts := e.2.starts.map m }))
    switchedAt := s.switchedAt.map (fun e => (e.1, m e.2))
    switches := s.switches.map (fun e => (e.1, { e.2 with asked := m e.2.asked })) }

/-- The phases of the candidates brought up to this instant, after the timebase has moved by `d` ps; the loop takes that
step as no error (R302, R310, R312).  A Delay_Req on its way is lost. -/
def State.movePhases (s : State) (d : Int) : State :=
  let s := ((List.range 12).filter (fun n => s.flag Dict.REF_ENABLE n)).foldl (fun s n =>
    (s.catchPhase n).modRef n (fun r => { r with reqAt := 0 })) s
  { s with hentis := { s.hentis with buildOut := s.hentis.buildOut + d } }

/-- An alignment is done (R310, R320, Table 10.12). -/
def State.alignDone (s : State) (mode : Nat) (removed : Int) : State :=
  let s := if mode = 3 then s.wr Dict.TIMEBASE_SOURCE 1
    else if s.hentis.byPtp then s.wr Dict.TIMEBASE_SOURCE 2 else s
  s.raise Event.ALIGN_DONE mode (param (removed / 1000))

/-- A JUMP takes effect: the timebase moves by `d` ps with frames and samples (R311, R342). -/
def State.jumpNow (s : State) (mode : Nat) (d : Int) : State :=
  let t := s.moveTimebase (d * 65536000000)
  let t := { t with hentis := { t.hentis with jump := none, secondClean := false } }
  let t := ((t.moveFrames ((t.timebase : Int) - s.timebase) d).movePhases d).jumpAudio (d / 1000)
  let t := (t.inc Dict.TIMEBASE_JUMPS).wrInt Dict.TIMEBASE_LAST_JUMP (d / 1000)
  t.alignDone mode d

/-- Whether the base-frame start of the slowest running FTG at which a JUMP takes effect has come (R311). -/
def State.jumpDue (s : State) : Bool :=
  match s.slowestFtg with
  | none => true
  | some n => decide ((s.ftgAt n).nextStart ≤ s.timebase)

/-- A waiting JUMP takes effect when it is due (R311). -/
def State.jumpIfDue (s : State) : State :=
  match s.hentis.jump with
  | some (mode, d) => if s.jumpDue then s.jumpNow mode d else s
  | none => s

/-- A JUMP asked for: it waits for the slowest running FTG, or takes effect at once when none runs (R311). -/
def State.startJump (s : State) (sess mode : Nat) (d : Int) (byPtp : Bool) : State :=
  let s := { s with hentis := { s.hentis with jump := some (mode, d), byPtp := byPtp } }
  let s := s.raiseBy sess Event.ALIGN_START mode (param (d / 1000))
  if s.slowestFtg.isNone then s.jumpIfDue else s

/-- An alignment slew asked for; a shift by STEER_PHASE adds to one in progress (R312, R314). -/
def State.startSlew (s : State) (sess : Nat) (d : Int) (byPtp : Bool) : State :=
  let s := { s with hentis := { s.hentis with
    slewing := true, alignStep := s.hentis.alignStep + d, alignLeft := s.hentis.alignLeft + d * 65536000000
    byPtp := byPtp } }
  s.raiseBy sess Event.ALIGN_START 1 (param (d / 1000))

/-- An alignment slew ends where it stands (R312). -/
def State.endSlew (s : State) : State :=
  if s.hentis.slewing then
    let removed := s.hentis.alignStep - s.hentis.alignLeft / 65536000000
    let s := { s with hentis := { s.hentis with slewing := false, alignStep := 0, alignLeft := 0 } }
    ((s.movePhases removed)).alignDone 1 removed
  else s

/-- The QUALIFIED PTP candidate that ranks highest (R307). -/
def State.bestPtp (s : State) : Option Nat :=
  s.ranking.find? (fun n => s.refType n == 7)

/-- PTP_OFFSET: PTP time less timebase time in ns (R307). -/
def State.ptpOffset (s : State) : Option Int := s.bestPtp.map (fun n => -(s.refAt n).offset)

/-- The step of an alignment in ps by ALIGN_TARGET, none without a value, and whether PTP gives it (R310). -/
def State.alignStep (s : State) : Option (Int × Bool) :=
  match s.rd Dict.HENTIS_ALIGN_TARGET with
  | 0 =>
    let n := s.rd Dict.SELECTOR_SELECTED
    if n = 0xFF then none else some (-(s.rdInt Dict.REF_PHASE_OFFSET n), s.refType n == 7)
  | 1 => s.ptpOffset.map (fun x => (x * 1000, true))
  | _ => some (s.rdInt Dict.HENTIS_ALIGN_OFFSET * 1000, false)

/-- Phase and frequency have stayed in bounds for 10 time constants: LOCKED, and at the first lock a JUMP where
ALIGN_AT_LOCK asks for it (R300, R313). -/
def State.lockHentis (s : State) : State :=
  let n := s.rd Dict.SELECTOR_SELECTED
  let (_, _, top) := refBandwidth (s.refType n)
  if s.dictUp ∧ s.rd Dict.HENTIS_STATE = 1 ∧ s.follows n ∧ s.hentis.ignoring = false
    ∧ s.since s.hentis.boundSince (tenTaus top) then
    let first := !s.hentis.firstLock
    let s := s.setHentis 2
    let s := { s with hentis := { s.hentis with firstLock := true } }
    if first && s.flag Dict.HENTIS_ALIGN_AT_LOCK && !s.aligning then
      s.startJump 0xFF 2 (-(s.rdInt Dict.REF_PHASE_OFFSET n)) (s.refType n == 7)
    else s
  else s

/-! ### Loop modes and steering (R300, R314) -/

/-- LOOP_MODE written (R300, R314). -/
def State.writeLoopMode (s : State) (sess v : Nat) : Effect :=
  let old := s.rd Dict.HENTIS_LOOP_MODE
  if v = old then .done s
  else
    let s := (s.wr Dict.HENTIS_LOOP_MODE v).raiseBy sess Event.LOOP_MODE_CHANGE v old
    let s := (s.holdWord).setSelected 0xFF 0xFF
    if v = 0 then .done s.select
    else
      let s := { s with hentis := { s.hentis with history := [], boundSince := 0, ignoring := false } }
      .done (s.setHentis 0).select

/-- STEER_FREQ written (R314). -/
def State.writeSteerFreq (s : State) (v : Nat) : Effect :=
  .unless (s.rd Dict.HENTIS_LOOP_MODE != 1) (.rule 0x63) s (.done (s.wr Dict.HENTIS_STEER_FREQ v))

/-- STEER_PHASE written: a shift at ALIGN_SLEW, as an alignment would make it (R314, log 25). -/
def State.writeSteerPhase (s : State) (sess v : Nat) : Effect :=
  .unless (s.rd Dict.HENTIS_LOOP_MODE != 1) (.rule 0x63) s
    (.done (s.startSlew sess (signed 32 v * 1000) s.hentis.byPtp))

/-- ALIGN written 1 (R310 to R312). -/
def State.align (s : State) (sess : Nat) : Effect :=
  match s.aligning, s.alignStep with
  | false, some (d, byPtp) =>
    if s.rd Dict.HENTIS_ALIGN_MODE = 0 then .done (s.startJump sess 0 d byPtp)
    else
      let d := match s.rd Dict.HENTIS_ALIGN_TARGET, s.slowestFtg with
        | 0, some n => reduceBy (1000 * s.ftgNum n) (s.ftgDen n) d
        | _, _ => d
      .done (s.startSlew sess d byPtp)
  | _, _ => .refused (.rule 0x62) s

/-- SET written: a JUMP to SET_S and SET_NS (R313). -/
def State.setTime (s : State) (sess : Nat) : Effect :=
  let at_ := match s.slowestFtg with | some n => (s.ftgAt n).nextStart | none => s.timebase
  let t : Int := (s.rd Dict.TIMEBASE_SET_S * nsPerS + s.rd Dict.TIMEBASE_SET_NS : Nat)
  .unless s.aligning (.rule 0x62) s (.done (s.startJump sess 3 ((t - at_) * 1000) false))

/-! ### FTGs (R308, R309) -/

/-- What refuses the enabling of FTG `n`: a rate outside 1 to 240 Hz, or an OFFSET beyond the base period (R308,
R318). -/
def State.judgeFtg (s : State) (n : Nat) : Option Refuse :=
  let num := s.rd Dict.FTG_RATE_NUM n
  let den := s.rd Dict.FTG_RATE_DEN n
  firstOf
    [(decide (num < den ∨ 240 * den < num), .field 0x12 Dict.FTG_RATE_NUM n),
     (decide (s.ftgNum n ≤ s.rd Dict.FTG_OFFSET n * s.ftgDen n), .field 0x12 Dict.FTG_OFFSET n)]

/-- FTG `n` waits for the first grid instant at least 1 ms from now (R308). -/
def State.armFtg (s : State) (n : Nat) : State :=
  let t := s.timebase + 1000000
  (s.modFtg n (fun f => { f with startAfter := t })).wrTime Dict.FTG_NEXT_START_S Dict.FTG_NEXT_START_NS
    (s.ftgNext n t) n

/-- ENABLE of an FTG written 1 (R308). -/
def State.enableFtg (s : State) (n : Nat) : Effect :=
  match s.judgeFtg n with
  | some r => .refused r s
  | none =>
    let was := s.flag Dict.FTG_ENABLE n
    let s := s.wr Dict.FTG_ENABLE 1 n
    if (s.ftgAt n).running then .done (s.modFtg n (fun f => { f with stopping := false }))
    else if was then .done s else .done (s.armFtg n)

/-- ENABLE of an FTG written 0: it stops at its next base-frame start (R308). -/
def State.disableFtg (s : State) (n : Nat) : Effect :=
  .done ((s.wr Dict.FTG_ENABLE 0 n).modFtg n (fun f =>
    if f.running then { f with stopping := true } else { f with startAfter := 0 }))

/-- Kinds of `WireItem.pin`: an FP_OUT pulse at a timebase instant, with its width and polarity (R309). -/
abbrev pinFpOut : Nat := 6
/-- Width in ns and polarity of the pulses of a base frame, as 2 × width + polarity. -/
abbrev pinFpShape : Nat := 7

/-- The FP_OUT pulses of a base frame that starts at `t` (R309). -/
def State.pulse (s : State) (n t : Nat) : State :=
  let k := match s.rd Dict.FTG_FP_MODE n with | 0 => 0 | 1 => 1 | _ => s.rd Dict.FTG_FP_SLOTS n
  if k = 0 then s
  else
    let s := s.out (.pin pinFpShape n (2 * s.rd Dict.FTG_FP_WIDTH n + s.rd Dict.FTG_FP_POLARITY n))
    (List.range k).foldl (fun s i => s.out (.pin pinFpOut n (t + i * s.ftgNum n / (s.ftgDen n * k)))) s

/-- A canvas's first base frame starts (R194). -/
def State.startCanvas (s : State) (c t : Nat) : State :=
  let s := s.modCanvas c (fun v => { v with
    running := true, stopping := false, startAfter := t, composing := false, complete := false, skip := false
    front := [], runLatches := 0, baseNumber := s.rd Dict.FTG_BASE_FRAMES (s.canvasFtg c) - 1 })
  (s.wr Dict.CANVAS_STATE 1 c).raise Event.CANVAS_STARTED c (s.canvasFtg c)

/-- Canvases of FTG `n` that are to start with its base frame at `t` (R194, R487). -/
def State.startCanvases (s : State) (n t : Nat) : State :=
  if s.devState = 4 then
    (allCanvases.filter (fun c =>
      let v := s.canvasAt c
      s.flag Dict.CANVAS_ENABLE c && s.canvasFtg c == n && !v.running && v.startAfter != 0
        && decide (v.startAfter ≤ t))).foldl (fun s c => s.startCanvas c t) s
  else s

/-- A base frame of FTG `n` starts at `t` (R308, R309). -/
def State.baseFrame (s : State) (n t : Nat) : State :=
  let next := s.ftgNext n (t + 1)
  let s := s.modFtg n (fun f => { f with running := true, everRun := true, startAfter := 0, lastStart := t, nextStart := next })
  let s := s.wrTime Dict.FTG_NEXT_START_S Dict.FTG_NEXT_START_NS next n
  (s.pulse n t).startCanvases n t

/-- FTG `n` stops, and with it the heads and canvases on it (R194, R231, R308). -/
def State.stopFtg (s : State) (n : Nat) : State :=
  let s := (s.modFtg n (fun f => { f with running := false, stopping := false, startAfter := 0 })).wr Dict.FTG_STATE 0 n
  let s := s.raise Event.FTG_STOPPED n (s.rd Dict.FTG_BASE_FRAMES n)
  let s := (allHeads.filter (fun h => (s.headAt h).running && s.headRd h Dict.HEAD_FTG == n)).foldl (fun s h =>
    (s.stopHead h).modHead h (fun a => { a with
      startAfter := if s.flag Dict.HEAD_ENABLE h then max 1 s.timebase else 0 })) s
  (allCanvases.filter (fun c => s.canvasRuns c && s.canvasFtg c == n)).foldl (fun s c =>
    (s.stopCanvas c).modCanvas c (fun v => { v with
      startAfter := if s.flag Dict.CANVAS_ENABLE c then max 1 s.timebase else 0 })) s

/-- Whether FTGs run in the state the device is in: STANDBY, RUN and SAFE (log 42). -/
def State.ftgsUp (s : State) : Bool := s.devState == 3 || s.devState == 4 || s.devState == 5

/-- Whether FTG `n`, disabled, comes to the end of its base frame now (R308). -/
def State.ftgStopDue (s : State) (n : Nat) : Bool :=
  let f := s.ftgAt n
  s.ftgsUp && f.running && f.stopping && decide (f.nextStart ≤ s.timebase)

/-- A base-frame start of FTG `n` that is due (R308). -/
def State.ftgFrame (s : State) (n : Nat) : State :=
  let s := if s.dictUp ∧ s.slowestFtg = some n then s.jumpIfDue else s
  let f := s.ftgAt n
  let up := s.ftgsUp
  if up && f.running && decide (f.nextStart ≤ s.timebase) then
    if f.stopping then s.stopFtg n else (s.inc Dict.FTG_BASE_FRAMES n).baseFrame n f.nextStart
  else if up && !f.running && s.flag Dict.FTG_ENABLE n && f.startAfter != 0
      && decide (s.ftgNext n f.startAfter ≤ s.timebase) then
    let t := s.ftgNext n f.startAfter
    let s := if f.everRun then s.inc Dict.FTG_BASE_FRAMES n else s
    ((s.wr Dict.FTG_STATE 1 n).raise Event.FTG_STARTED n (s.rd Dict.FTG_RATE_NUM n)).baseFrame n t
  else s

/-! ### PTP (R293) -/

/-- The chosen master's Announce is reported, a change of grandmaster told (R293, R322). -/
def State.takeMaster (s : State) (n : Nat) : State :=
  match s.bestMaster n with
  | none => s
  | some a =>
    let was := s.rd Dict.REF_GM_IDENTITY n
    let switched := (s.refAt n).chosen != a.sender + 1
    let s := s.modRef n (fun r => if switched then
      { r with chosen := a.sender + 1, offsetValid := false, delayValid := false, reqAt := 0 } else r)
    let s := ((s.wr Dict.REF_GM_IDENTITY a.identity n).wrInt Dict.REF_UTC_OFFSET a.utcOffset n).wrFlag
      Dict.REF_TIME_TRACEABLE a.traceable n
    let s := if switched then s.wr Dict.REF_PTP_PORT_STATE 2 n else s
    let s := s.raiseIf (was != a.identity % 2 ^ 64) Event.PTP_GM_CHANGE n (a.identity % 2 ^ 32)
    if switched then s.setCause n (putBit (s.rd Dict.REF_FAIL_CAUSE n) 4 true) ((s.refAt n).goodAt - 1) else s

/-- Whether candidate `n` listens to PTP in a domain (R293). -/
def State.hearsPtp (s : State) (n domain : Nat) : Bool :=
  s.dictUp && s.refType n == 7 && s.rd Dict.REF_QUAL_STATE n != 0 && s.rd Dict.REF_PTP_DOMAIN n == domain

/-- An Announce message (R293). -/
def State.takeAnnounce (s : State) (n : Nat) (a : Announce) : State :=
  if s.hearsPtp n a.domain then
    (s.modRef n (fun r => { r with
      masters := ((a, s.now) :: r.masters.filter (fun x => x.1.sender != a.sender)) })).takeMaster n
  else s

/-- The time at which a Sync was sent: a one-step master's is in it, a two-step master's in its Follow_Up (R293). -/
def syncSentAt (p : PtpSync) : Option Int := if p.twoStep then p.followUp else some p.origin

/-- An offset sample of candidate `n`, in ns: timebase less PTP time (R293, R295).  The port is SLAVE from the first. -/
def State.takeOffset (s : State) (n : Nat) (offset : Int) : State :=
  let r := s.refAt n
  let far := (offset - r.offset).natAbs
  let s := if r.offsetValid then s.glitch n far else s
  let f := if r.offsetValid then Config.ptpFilter r.offset offset else offset
  let s := s.modRef n (fun r => { r with
    offsetValid := true, goodAt := if far ≤ 1000 ∨ r.offsetValid = false then s.now + 1 else r.goodAt })
  (s.wr Dict.REF_PTP_PORT_STATE 3 n).setPhase n (f * 1000)

/-- The answer to the last Delay_Req: `t4` is the PTP time at which the master had it, `lag` what the last Sync took by the
two clocks; the mean path delay is the mean of both ways, rounded down (R293; DESIGN CHOICE, log 24). -/
def State.takeDelay (s : State) (n : Nat) (lag t4 : Int) : State :=
  let r := s.refAt n
  if r.reqAt = 0 then s
  else
    (s.wr Dict.REF_MEAN_PATH_DELAY ((lag + (t4 - (r.reqAt - 1 : Nat))) / 2).toNat n).modRef n (fun r =>
      { r with reqAt := 0, delayValid := true })

/-- Kind of `WireItem.pin`: a Delay_Req on an Ethernet port, multicast with value 0, else unicast to the master that the value
less 1 names (R293). -/
abbrev pinDelayReq : Nat := 16

/-- A Delay_Req of candidate `n`, multicast or, in hybrid mode, unicast to the chosen master, and its time-stamp (R293). -/
def State.sendDelayReq (s : State) (n : Nat) : State :=
  let dest := if s.rd Dict.REF_PTP_DELAY_MODE n = 1 then (s.refAt n).chosen else 0
  (s.modRef n (fun r => { r with reqAt := s.timebase + 1 })).out (.pin pinDelayReq (s.rd Dict.REF_SOURCE n) dest)

/-- A Sync message, of at most 128 in a second, time-stamped by the timebase; one of the chosen master gives an offset
sample once the path delay is known, and a Delay_Req goes out after it (R293, R295; one for each Sync DESIGN CHOICE, log 24).
`delay` is the answer to the last one, where it has come. -/
def State.takeSync (s : State) (n domain sender : Nat) (p : PtpSync) (delay : Option Int) : State :=
  if s.hearsPtp n domain ∧ nsPerS ≤ 128 * p.interval then
    let s := s.takeMaster n
    if (s.refAt n).chosen ≠ sender + 1 then s
    else
      let s := s.modRef n (fun r => { r with syncAt := s.now + 1, syncInterval := p.interval })
      let s := match syncSentAt p with
        | none => s
        | some t1 =>
          let lag := (s.timebase : Int) - t1
          let s := match delay with | some t4 => s.takeDelay n lag t4 | none => s
          if (s.refAt n).delayValid then s.takeOffset n (lag - s.rd Dict.REF_MEAN_PATH_DELAY n) else s
      s.sendDelayReq n
  else s

end Sys2Proof.Machine
end

