-- ==== Sys2Proof/Machine/Composition.lean ====
section
/-! DEFINITION. The commands of composition: latches, strips, canvases, write-back, the Overcoat and the
Lining (chapters 2 and 7). -/
namespace Sys2Proof.Machine
open Sys2Proof

/-! ### Latches and strips -/

/-- Step 1 of R26 at a compose latch that is due: a phase step due at that instant takes effect, and the canvas's FTG stops
if its last base frame ends there. -/
def State.frameTiming (s : State) (c : Nat) : State :=
  if s.dictUp ∧ s.alive ∧ s.latchDue c then
    let s := s.jumpIfDue
    let f := s.canvasFtg c
    if s.ftgStopDue f ∧ (s.ftgAt f).nextStart ≤ (s.latchNow c).1 then s.stopFtg f else s
  else s

/-- The meaning of COMPOSE_LATCH (R26). -/
def execComposeLatch (c : Fin 8) (t : Telemetry) (line0 : List (Nat × Nat)) (s : State) :
    Host.Outcome State Fault Refusal :=
  .next ((s.begin.frameTiming c).composeLatch c t line0)

/-- The meaning of STRIP_DISPATCH (R50). -/
def execStripDispatch (e : Fin 104) (s : State) : Host.Outcome State Fault Refusal :=
  .next (s.begin.pull e)

/-- The meaning of CHASE_SEGMENT_READY (R109): lines of a LOCKED input's frame so far in the band. -/
def execChaseSegmentReady (n : Fin 64) (lines : Nat) (p : Picture) (s : State) :
    Host.Outcome State Fault Refusal :=
  .next (s.begin.bandArrives n lines (s.ingested n p))

/-- The meaning of STRIP_REISSUE (R52). -/
def execStripReissue (i : StripId) (s : State) : Host.Outcome State Fault Refusal :=
  .next (s.begin.reissue i)

/-- The meaning of STRIP_COMPLETE (R53). -/
def execStripComplete (e : Fin 104) (i : StripId) (s : State) : Host.Outcome State Fault Refusal :=
  .next (s.begin.completeStrip e i)

/-- The meaning of COMPOSE_DEADLINE (R54). -/
def execComposeDeadline (c : Fin 8) (s : State) : Host.Outcome State Fault Refusal :=
  .next (s.begin.composeDeadline c)

/-! ### Canvases -/

/-- A canvas is to run from the first base-frame start of its FTG at least 1 ms from now (R194). -/
def State.armCanvas (s : State) (c : Nat) : State :=
  s.modCanvas c (fun v => { v with
    stopping := false, startAfter := if v.running then v.startAfter else s.timebase + 1000000 })

/-- ENABLE of a canvas written 1: a start, judged by the rules of the canvas (R128, R194);
outside RUN the rules are judged at the entry to RUN (R487). -/
def State.enableCanvas (s : State) (c : Nat) : Effect :=
  if s.flag Dict.CANVAS_ENABLE c then .done s
  else
    let on := s.wr Dict.CANVAS_ENABLE 1 c
    match (if s.devState = 4 then firstOf (on.canvasRules c) else none) with
    | some r => .refused r s
    | none => .done ((on.armCanvas c).setTargets false)

/-- The meaning of CANVAS_ENABLE (R194). -/
def execCanvasEnable (sess : Fin 12) (c : Fin 8) (s : State) : Host.Outcome State Fault Refusal :=
  .next (s.begin.writeScalar sess Dict.CANVAS_ENABLE c 0 1 (fun s => s.enableCanvas c))

/-- ENABLE of a canvas written 0: it stops at its next base-frame compose latch (R194). -/
def State.disableCanvas (s : State) (c : Nat) : Effect :=
  .done ((s.wr Dict.CANVAS_ENABLE 0 c).modCanvas c (fun v =>
    if v.running then { v with stopping := true } else { v with startAfter := 0, stopping := false }))

/-- The meaning of CANVAS_DISABLE (R194). -/
def execCanvasDisable (sess : Fin 12) (c : Fin 8) (s : State) : Host.Outcome State Fault Refusal :=
  .next (s.begin.writeScalar sess Dict.CANVAS_ENABLE c 0 0 (fun s => s.disableCanvas c))

/-! ### Write-back (R209, R210) -/

/-- Whether a destination can accept a frame: an IP port that is UP, a capture of the clip that runs
(R210, R370). -/
def State.wbAccepts (s : State) (d : List Byte) : Bool :=
  match byteAt d 0 with
  | 2 => s.portLive (byteAt d 3)
  | 3 => s.pocket.capture.any (fun e => e.2.clip == leAt d 32 2 + 1 && !e.2.stopping && !e.2.flushed)
  | _ => true

/-- Kind of a `WireItem.packet`: a write-back frame leaving by an IP port: its destination, UDP port, payload type and
RTP timestamp, as an IP head's (R210, R246). -/
abbrev packetWriteBack : Nat := 1

/-- Line `y` of an IP write-back frame: 4:2:2 at 10 bits, converted as an IP head converts it, with the luma of the canvas's
target primaries (R210, R244, log 65). -/
def State.wbLine (s : State) (c : Nat) (r : Raster) (y : Nat) : List Nat :=
  let col := s.rd Dict.COLOUR_LUTS_TARGET_PRIMARIES 0 c
  encodeRow 3 10 col r.width (fun x => let p := r.at x y; (p.r, p.g, p.b)) 0 r.width

/-- A write-back frame handed to its destination, whole or repeated (R210).  Lines of write-back destination `k` of
canvas `c` leave numbered from head 256 on. -/
def State.deliver (s : State) (c k : Nat) (d : List Byte) (r : Raster) : State :=
  match byteAt d 0 with
  | 2 =>
    let s := (s.inc Dict.PORT_TX_FRAMES (byteAt d 3) 0 (Config.ipPackets (r.width * r.height))).out
      (.packet packetWriteBack (byteAt d 3) ((d.drop 12).take 7 ++ beBytes 4 (rtpTime s.timebase)))
    (List.range r.height).foldl (fun s y => s.out (.pixels (256 + 2 * c + k) y (s.wbLine c r y))) s
  | 3 => s.capture (0x200 + 2 * c + k) 0 r
  | _ => s

/-- A write-back frame is done: the composed rectangle, or for a discarded or skipped base frame the last
complete one again (R210). -/
def State.writeBack (s : State) (c k : Nat) : State :=
  let v := s.canvasAt c
  let due := Store.read (fun _ => 0) v.wbNext k
  let (d, r) := Store.read (fun _ => ([], Raster.init)) v.wbDone k
  let d := if due = 1 then d else s.dom Dict.CANVAS_WB_DESC c k
  if s.alive ∧ byteAt d 0 ≠ 0 ∧ due ≠ 0 then
    let s := s.putCanvas c { v with wbNext := Store.write (fun _ => 0) v.wbNext k 0 }
    if s.wbAccepts d = false then
      let was := if k = 0 then s.rd Dict.CANVAS_WB_STATE c % 4 else s.rd Dict.CANVAS_WB_STATE c / 4 % 4
      (s.setWbState c k 2).raiseIf (was != 2) Event.WRITEBACK_FAULT c (k * 256 + byteAt d 0)
    else
      let s := s.setWbState c k (if byteAt (s.dom Dict.CANVAS_WB_DESC c k) 0 = 0 then 0 else 1)
      if due = 1 then
        let s := s.modCanvas c (fun v => { v with
          wbLast := Store.write (fun _ => Raster.init) v.wbLast k r })
        ((s.deliver c k d r).inc Dict.CANVAS_WB_FRAMES c k).fire (s.rd Dict.CANVAS_WB_MSIX_VECTOR c)
      else s.deliver c k d (Store.read (fun _ => Raster.init) v.wbLast k)
  else s

/-- The meaning of WRITEBACK_FRAME_DONE (R210). -/
def execWritebackFrameDone (c : Fin 8) (k : Fin 2) (s : State) : Host.Outcome State Fault Refusal :=
  .next (s.begin.writeBack c k)

/-! ### The Overcoat (R213 to R217) -/

/-- The pin stable for 100 µs at a new level (R216). -/
def State.overcoatPinTo (s : State) (asserted : Bool) : State :=
  if s.alive ∧ asserted ≠ s.dev.overcoatPin then
    { s with dev := { s.dev with
        overcoatPin := asserted, overcoatLatched := s.dev.overcoatLatched || asserted } }.wrFlag
      Dict.OVERCOAT_PIN_STATE asserted
  else s

/-- The meaning of OVERCOAT_ARM_N_CHANGE (R216). -/
def execOvercoatArmNChange (asserted : Bool) (s : State) : Host.Outcome State Fault Refusal :=
  .next (s.begin.overcoatPinTo asserted)

/-- The meaning of OVERCOAT_ARM_WRITE (R216). -/
def execOvercoatArmWrite (sess : Fin 12) (value : Nat) (s : State) : Host.Outcome State Fault Refusal :=
  .next (s.begin.writeScalar sess Dict.OVERCOAT_ARM 0 0 value (fun s =>
    .done (s.wr Dict.OVERCOAT_ARM value)))

/-- The pin latch cleared; it holds on while the pin is asserted (R216). -/
def State.clearLatch (s : State) : Effect :=
  .done { s with dev := { s.dev with overcoatLatched := s.dev.overcoatPin } }

/-- The meaning of LATCH_CLEAR (R216). -/
def execLatchClear (sess : Fin 12) (value : Nat) (s : State) : Host.Outcome State Fault Refusal :=
  .next (s.begin.writeScalar sess Dict.OVERCOAT_LATCH_CLEAR 0 0 value State.clearLatch)

/-- Whether Overcoat content may be written now: in STANDBY, RECOVERY or TEST, or with LIFECYCLE SERVICE
(R214). -/
def State.overcoatOpen (s : State) : Bool := s.standbyLike || s.keys.lifecycle == 3

/-- Whether a placement in force or pending names image `i` (R213). -/
def State.imageNamed (s : State) (i : Nat) : Bool :=
  allCanvases.any (fun c => (s.placement c).image == i
    || s.pendingCommits.any (fun m => m.2.doms.any (fun e =>
        e.1 == Dict.OVERCOAT_PLACE.key 0 c && byteAt e.2 0 == i)))

/-- Bytes that the loaded images and staged descriptors take, without image `i` (R213). -/
def State.imageBytes (s : State) (i : Nat) : Nat :=
  ((List.range 16).filter (· != i)).foldl (fun n j =>
    if bit (s.rd Dict.OVERCOAT_IMAGES_LOADED) j then n + (s.imageSize j).1 * (s.imageSize j).2 * 4 else n) 0

/-- BYTES_FREE of the partition (R213). -/
def State.countImages (s : State) : State := s.wr Dict.OVERCOAT_BYTES_FREE (33554432 - s.imageBytes 16)

/-- Whether an image descriptor is within its ranges (Table 7.4, R5). -/
def descValid (d : List Byte) : Bool :=
  let w := leAt d 0 2
  let h := leAt d 2 2
  w == 0 || (decide (16 ≤ w ∧ w ≤ 8192 ∧ 16 ≤ h ∧ h ≤ 8192 ∧ byteAt d 4 ≤ 1 ∧ byteAt d 5 ≤ 1)
    && (d.drop 6).all (· == 0))

/-- A descriptor written: an image deleted, or the size of one to be loaded (R213). -/
def State.writeDesc (s : State) (sess : Nat) (d : List Byte) : Effect :=
  let i := s.window sess Dict.OVERCOAT_IMAGE_WINDOW
  let w := leAt d 0 2
  let h := leAt d 2 2
  match firstOf
    [(!descValid d, .plain 0x06090030 0x12), (!s.overcoatOpen, .rule 0x40), (w != 0 && s.imageNamed i, .rule 0x30),
     (decide (33554432 < s.imageBytes i + w * h * 4), .rule 0x44)] with
  | some r => .refused r s
  | none =>
    let loaded := bit (s.rd Dict.OVERCOAT_IMAGES_LOADED) i
    let s := (((s.putImageDesc i (if w = 0 then zeros 16 else d)).putImageData i []).putImageCrc i 0).putImageBad i
      false
    let s := (s.wr Dict.OVERCOAT_IMAGES_LOADED (putBit (s.rd Dict.OVERCOAT_IMAGES_LOADED) i false)).countImages
    .done (s.raiseIf (loaded && w == 0) Event.OVERCOAT_CHANGED (256 + i) 0)

/-- The meaning of IMAGE_DESC_WRITE (R213). -/
def execImageDescWrite (sess : Fin 12) (data : List Byte) (s : State) : Host.Outcome State Fault Refusal :=
  .next (s.begin.writeBlock sess Dict.OVERCOAT_IMAGE_DESC 0 0 data (fun s => s.writeDesc sess data))

/-- An image loaded, its CRC computed (R213). -/
def State.writeImage (s : State) (sess : Nat) (data : List Byte) : Effect :=
  let i := s.window sess Dict.OVERCOAT_IMAGE_WINDOW
  let (w, h) := s.imageSize i
  match firstOf
    [(!s.overcoatOpen, .rule 0x40), (s.imageNamed i, .rule 0x30),
     (w == 0 || data.length != w * h * 4 || decide (33554432 < s.imageBytes i + w * h * 4), .rule 0x44)] with
  | some r => .refused r s
  | none =>
    let crc := crc32 data
    let s := ((s.putImageData i data).putImageCrc i crc).putImageBad i false
    let s := (s.wr Dict.OVERCOAT_IMAGES_LOADED (putBit (s.rd Dict.OVERCOAT_IMAGES_LOADED) i true)).countImages
    .done (s.raise Event.OVERCOAT_CHANGED (256 + i) crc)

/-- The meaning of IMAGE_DATA_WRITE (R213). -/
def execImageDataWrite (sess : Fin 12) (data : List Byte) (s : State) : Host.Outcome State Fault Refusal :=
  .next (s.begin.writeBlock sess Dict.OVERCOAT_IMAGE_DATA 0 0 data (fun s => s.writeImage sess data))

/-! ### The Lining (R223) -/

/-- A rebuild completes; it starts again when something invalidated it meanwhile (R223).  Its layers are composed at their
full taps, which yield step 4 leaves a lined layer (R222). -/
def State.liningDone (s : State) (c : Nat) : State :=
  let v := s.canvasAt c
  if s.alive ∧ v.running ∧ v.liningState = 2 ∧ s.yielded 1 6 0 = false then
    if v.liningRestart then s.putCanvas c { v with liningRestart := false }
    else
      let mask := s.rd Dict.LINING_LINED_MASK 0 c
      let full := (s.asSeen c).putCanvas c { v with liningState := 3, liningUsed := true }
      let s := s.putCanvas c { v with liningState := 3, liningPicture := some (full.liningBuild c mask) }
      ((s.wr Dict.LINING_STATE 3 0 c).inc Dict.LINING_REBUILDS).raise Event.LINING_VALID c mask
  else s

/-- The meaning of LINING_VALID (R223). -/
def execLiningValid (c : Fin 8) (s : State) : Host.Outcome State Fault Refusal :=
  .next (s.begin.liningDone c)

/-- REBUILD: each canvas whose bit is set has its Lining invalidated and rebuilt (R223). -/
def State.rebuildLinings (s : State) (mask : Nat) : State :=
  (bitsSet mask 8).foldl (fun s c =>
    let was := (s.canvasAt c).liningState
    let s := s.invalidateLining c 5
    if was = 3 then
      (s.modCanvas c (fun v => { v with liningState := 2 })).wr Dict.LINING_STATE 2 0 c
    else s) s

/-- The meaning of REBUILD (R223). -/
def execRebuild (sess : Fin 12) (value : Nat) (s : State) : Host.Outcome State Fault Refusal :=
  .next (s.begin.writeScalar sess Dict.LINING_REBUILD 0 0 value (fun s => .done (s.rebuildLinings value)))

end Sys2Proof.Machine
end

