-- ==== Sys2Proof/Machine/DramOps.lean ====
section
/-! DEFINITION. DRAM channels, their loss and what it takes from its owners (R353, R355, R357 to R359). -/
namespace Sys2Proof.Machine
open Sys2Proof

/-- State of a channel: 0 awake, 1 asleep, 2 rebuilding, 3 lost (Table 12.9). -/
def State.dramChannel (s : State) (m : Nat) : Nat := Store.read (fun _ => 0) s.dram.channel m

/-- A channel's state as CHANNEL_STATE shows it: where a lost channel's group still rebuilds its data on every read, 2 or 3
(Table 12.9; DESIGN CHOICE, log 72). -/
def State.channelShown (s : State) (m : Nat) : Nat :=
  if s.dramChannel m = 3 ∧ s.lostIn (m / 8) = 1 ∧ Config.rebuildingShown m then 2 else s.dramChannel m

/-- A channel's state set. -/
def State.setChannel (s : State) (m v : Nat) : State :=
  { s with dram := { s.dram with channel := Store.write (fun _ => 0) s.dram.channel m v } }

/-! ### Where data lie (R353) -/

/-- The parity groups that hold data: those that have not lost two channels (R359). -/
def State.liveGroups (s : State) : List Nat := [0, 1, 2].filter (fun g => decide (s.lostIn g < 2))

/-- The channel of byte `a` of the protected data, or of its stripe's parity block: consecutive stripes of seven 256-byte
blocks go to the groups in turn, and the parity channel rotates through the group, from its first (R353; the first DESIGN
CHOICE, log 72). -/
def State.stripeChannel (s : State) (a : Nat) (parity : Bool) : Nat :=
  let groups := s.liveGroups
  let stripe := a / 1792
  let g := (groups[stripe % max 1 groups.length]?).getD 0
  let p := stripe / max 1 groups.length % 8
  let j := a % 1792 / 256
  8 * g + (if parity then p else if j < p then j else j + 1)

/-- The channel of byte `a` of the unprotected data: consecutive 256-byte blocks go to the channels in turn, those lost left
out (R353, R359). -/
def State.openChannel (s : State) (a : Nat) : Nat :=
  let live := (List.range 24).filter (fun m => s.dramChannel m != 3)
  (live[a / 256 % max 1 live.length]?).getD 0

/-- The parity of the bytes at one place of a stripe's data blocks (R353). -/
def parityOf (l : List Byte) : Byte := l.foldl (· ^^^ ·) 0

/-- The byte of data block `j` rebuilt from the parity and the other data blocks of its stripe (R358, R359). -/
def rebuiltByte (l : List Byte) (parity : Byte) (j : Nat) : Byte := parityOf (parity :: l.eraseIdx j)

/-- Owner kind and number of a pool key, as DRAM_ALLOC_LOST names it (Table 12.12); head buffers, to which the table gives no
kind, have kind 0 (DESIGN CHOICE, log 72). -/
def poolOwner (k : Nat) : Nat :=
  match k / 0x100 with
  | 1 => k % 0x100
  | 2 => 0x100 + k % 0x100 | 3 => 0x200 + k % 0x100 | 6 => 0x300 + k % 0x100 | 5 => 0x400
  | _ => 0x500 + k % 0x100

/-- The owner of a pool allocation that was dropped goes LOST; heads send BACKGROUND from buffers that are no more, and
delay lines are silent (R359). -/
def State.loseOwner (s : State) (k : Nat) : State :=
  let n := k % 0x100
  match k / 0x100 with
  | 1 => s.modCanvas n (fun v => { v with spoiled := List.range 8, noBuffers := true })
  | 5 => { s with audio := { s.audio with lines := [], lost := true } }
  | 2 => (s.setHealth n 4).wr Dict.INPUT_STORE_SIZE 0 n
  | 3 => (s.modHost n (fun h => { h with lostChannel := true })).judgeHost n
  | 4 => s.setWbState (n / 2) (n % 2) 2
  | 6 => s.wr Dict.POCKET_PLAYER_HEALTH 4 n
  | _ => s

/-- Unprotected data is lost: stores empty themselves, host surfaces wait for their next flip, players prefetch
again, delay lines are silent, and the frames that write-back buffers and recorders hold are gone (R359; that recorders go on
with later frames DESIGN CHOICE, log 72).  `all` says that protected data, MOTION's fields among them, are lost too. -/
def State.dropUnprotected (s : State) (all : Bool) : State :=
  let s := { s with dram := { s.dram with host := [] } }
  let s := (List.range 64).foldl (fun s n => s.modInput n (fun i =>
    { i with frames := [], fields := if all then [] else i.fields })) s
  let s := allCanvases.foldl (fun s c => s.modCanvas c (fun v =>
    { v with wbDone := v.wbDone.filter (fun e => byteAt e.2.1 0 != 3) })) s
  let s := [0, 1].foldl (fun s k => s.putCapture k { s.captureAt k with queue := [], submitted := 0, holes := [] }) s
  let s := (List.range 32).foldl (fun s n =>
    if s.flag Dict.HOST_SOURCE_ENABLE n then
      (s.modHost n (fun h => { h with lostChannel := true, copy0 := [], copy1 := [] })).judgeHost n
    else s) s
  let s := (List.range 32).foldl (fun s n => s.modPlayer n (fun p => { p with held := [] })) s
  { s with audio := { s.audio with lines := [] } }

/-- Allocations made again in the order of R355, head buffers first; one that no longer fits is dropped.  Head buffers stay
where only unprotected data is laid out again (R359). -/
def State.reallocate (s : State) (all : Bool) : State :=
  let want := s.dram.alloc
  let s := { s with dram := { s.dram with alloc := [] } }
  let s := want.foldl (fun s e =>
    if (e.1 / 0x100 = 1 ∧ all = false) ∨ usedKib s.dram.alloc + e.2 ≤ s.poolUnits then
      { s with dram := { s.dram with alloc := Store.write (fun _ => 0) s.dram.alloc e.1 e.2 } }
    else (s.loseOwner e.1).raise Event.DRAM_ALLOC_LOST (poolOwner e.1) (2 * e.2)) s
  s.wr Dict.DRAM_POOL_FREE (2 * s.poolFree)

/-- Front buffers in DRAM are gone: their heads send BACKGROUND until the next composition lands (R359). -/
def State.spoilHeads (s : State) : State :=
  allCanvases.foldl (fun s c =>
    match s.bufferHead c with
    | some h =>
      if s.rd Dict.HEAD_BUFFER_MODE h = 1 then s.modCanvas c (fun v => { v with spoiled := List.range 8 }) else s
    | none => s) s

/-- Channel `m` is lost (R359). -/
def State.loseChannel (s : State) (m : Nat) : State :=
  let g := m / 8
  let s := (s.setChannel m 3).wr Dict.DRAM_STATE 3
  let s := s.raise Event.DRAM_CHANNEL_LOST m (s.dramSetting 3)
  if s.lostIn g = 1 then
    let s := s.raise Event.DRAM_GROUP_DEGRADED g m
    if s.dramSetting 3 = 0 then (s.dropUnprotected false).reallocate false else s
  else if s.lostIn g = 2 then
    ((s.raise Event.DRAM_GROUP_LOST g 0).spoilHeads.dropUnprotected true).reallocate true
  else s

/-- Rows of a channel that are remapped or being copied (R357). -/
def State.remapsOf (s : State) (m : Nat) : Nat :=
  Store.read (fun _ => 0) s.dram.remapped m + (s.dram.copying.filter (fun e => e.1 == m)).length

/-- A row's copy to its target begins (R357). -/
def State.startRemap (s : State) (m row : Nat) : State :=
  { s with dram := { s.dram with copying := s.dram.copying ++ [(m, row)] } }

/-- A row's copy is complete: it is redirected (R357). -/
def State.endRemap (s : State) (m row : Nat) : State :=
  let s := { s with dram := { s.dram with
    copying := s.dram.copying.filter (fun e => e != (m, row))
    remapped := Store.change (fun _ => 0) s.dram.remapped m (· + 1) } }
  s.raise Event.DRAM_ROW_REMAPPED m row

end Sys2Proof.Machine
end

