-- ==== Sys2Proof/Machine/ResilOps.lean ====
section
/-! DEFINITION. The resilience logic: fault weights, retirement, spares and the patch map (R378 to R389, R394,
R395). -/
namespace Sys2Proof.Machine
open Sys2Proof

/-! ### Units (R378, R379) -/

/-- A unit as events and tables name it: bits 31:24 kind, 23:0 number. -/
abbrev unitCode (kind unit : Nat) : Nat := kind * 2 ^ 24 + unit

/-- Whether a kind has a unit of a number (Table 13.1). -/
def unitExists (kind unit : Nat) : Bool :=
  match kind with
  | 1 => decide (unit < 104) | 2 => decide (unit < 1088 * 8192) | 3 => decide (unit < 1088) | 4 => decide (unit < 128)
  | 5 => decide (unit < 24 * 524288) | 6 => decide (unit < 24) | 7 => decide (unit < 52) | 8 => decide (unit < 16)
  | 9 => decide (unit < 68) | 10 => decide (unit < 72) | 11 => decide (unit < 2112) | _ => false

/-- Kinds whose units have weights (R394). -/
def weighted (kind : Nat) : Bool := [1, 3, 4, 6, 7, 8, 9].contains kind

/-- A unit's fault weight. -/
def State.weightAt (s : State) (k : Nat) : Weight := Store.read (fun _ => Weight.init) s.resil.weights k

/-- A unit's weight set. -/
def State.putWeight (s : State) (k : Nat) (w : Weight) : State :=
  { s with resil := { s.resil with weights := Store.write (fun _ => Weight.init) s.resil.weights k w } }

/-- Whether a unit is retired and not cleared. -/
def State.isRetired (s : State) (k : Nat) : Bool := Store.read (fun _ => false) s.resil.retired k

/-- The unit that a spare replaces, plus 1; 0 while it stands by. -/
def State.takenAt (s : State) (k : Nat) : Nat := Store.read (fun _ => 0) s.resil.taken k

/-- A spare's replaced unit set. -/
def State.setTaken (s : State) (k v : Nat) : State :=
  { s with resil := { s.resil with taken := Store.write (fun _ => 0) s.resil.taken k v } }

/-- Spare banks, redundant links and spare sectors as made (Table 13.1). -/
def initialIdle (k : Nat) : Bool :=
  let unit := k % 2 ^ 24
  match k / 2 ^ 24 with
  | 3 => unit % 17 == 16 | 4 => decide (112 ≤ unit) | 11 => decide (2048 ≤ unit) | _ => false

/-- Whether a bank, link or sector stands by as a spare. -/
def State.idleAt (s : State) (k : Nat) : Bool := Store.read initialIdle s.resil.idle k

/-- The same, set. -/
def State.setIdle (s : State) (k : Nat) (v : Bool) : State :=
  { s with resil := { s.resil with idle := Store.write initialIdle s.resil.idle k v } }

/-- The number of the 32 spare rows of a bank that a row number names: they are rows 8,160 to 8,191 of it (DESIGN CHOICE,
log 15). -/
def spareRow (unit : Nat) : Option Nat := if 8160 ≤ unit % 8192 then some (unit % 8192 - 8160) else none

/-- Whether a unit is a spare that no unit in service uses. -/
def State.standsBy (s : State) (kind unit : Nat) : Bool :=
  match kind with
  | 1 => (s.engineAt unit).state == .spare
  | 2 => match spareRow unit with
    | some k => s.takenAt (unitCode 2 (unit / 8192 * 8192 + k)) == 0
    | none => s.idleAt (unitCode 2 unit)
  | 7 => s.rd Dict.U_LANE_SPARE_OF unit != 0xFF
  | 10 => (s.slotAt unit).state == .spare
  | _ => s.idleAt (unitCode kind unit)

/-- The same, of an engine also while it resets from a fault that struck it as a spare. -/
def State.isSpare (s : State) (kind unit : Nat) : Bool :=
  s.standsBy kind unit
    || (kind == 1 && (s.engineAt unit).state == .resetting && (s.engineAt unit).prior == .spare)

/-- The free spares of a kind whose spares are counted over the device (R385, Table 13.5). -/
def State.freeSpares (s : State) (kind : Nat) : List Nat :=
  match kind with
  | 1 => allEngines.filter (s.standsBy 1)
  | 3 => (List.range 1088).filter (s.standsBy 3)
  | 4 => (List.range 128).filter (s.standsBy 4)
  | 7 => s.spareLanes
  | 10 => (List.range 72).filter (s.standsBy 10)
  | 11 => (List.range 2112).filter (s.standsBy 11)
  | _ => []

/-- The row of a mesh link (R379). -/
def linkRow (link : Nat) : Nat :=
  if link < 56 then link / 7 else if link < 112 then (link - 56) / 8 else (link - 112) / 2

/-- The link whose traffic a link carries: its own, or that of the link it replaces. -/
def State.carriesFor (s : State) (link : Nat) : Nat :=
  match s.takenAt (unitCode 4 link) with | 0 => link | n + 1 => n

/-- The engine brought in for engine `e`: the lowest free spare of its island, else of the island with the most
free spares, the lowest such island (R383). -/
def State.spareEngine (s : State) (e : Nat) : Option Nat :=
  let free := s.freeSpares 1
  let of (i : Nat) : List Nat := free.filter (fun x => islandOf x == i)
  match (of (islandOf e)).head? with
  | some x => some x
  | none =>
    let best := [0, 1, 2, 3].foldl (fun b i => if (of b).length < (of i).length then i else b) 0
    (of best).head?

/-- The spare that a unit in service would be given (R383, R385, R439). -/
def State.pickSpare (s : State) (kind unit : Nat) : Option Nat :=
  match kind with
  | 1 => s.spareEngine unit
  | 2 =>
    -- a spare row of the bank, by its number, else a row that has returned, as 32 + its number
    let base := unitCode 2 (unit / 8192 * 8192)
    ((List.range 32).find? (fun k => s.takenAt (base + k) == 0)).or
      ((s.resil.idle.find? (fun e => e.2 && e.1 / 8192 == base / 8192)).map (fun e => 32 + e.1 % 8192))
  | 3 => ((List.range 17).map (· + unit / 17 * 17)).find? (s.standsBy 3)
  | 4 =>
    let r := linkRow (s.carriesFor unit)
    [112 + 2 * r, 113 + 2 * r, s.carriesFor unit].find? (fun x => x != unit && s.standsBy 4 x)
  | 5 => let m := unit / 524288; if s.remapsOf m < 256 then some (s.remapsOf m) else none
  | 10 => (s.freeSpares 10).head?
  | 11 => (s.freeSpares 11).head?
  | _ => none

/-! ### Retirement (R383 to R386) -/

/-- Engine `e` holds no strip any more: each goes on with its other copy, or is reissued at the head of the queue
(R55, R383). -/
def State.emptyEngine (s : State) (e : Nat) : State :=
  s.strips.foldl (fun s a =>
    let i : StripId := ⟨if a.kind = .compose then 0 else 1, a.owner, a.slot, a.index, a.firstLine⟩
    match a.copies.find? (·.engine == e) with
    | none => s
    | some c =>
      let s := s.modEngine e (fun g => { g with busy := g.busy + (s.timebase - c.start) })
      let left := a.copies.filter (·.engine != e)
      let new (a : Strip) : Strip := { a with copies := left, issued := 1, faulted := e :: a.faulted }
      if left.isEmpty then
        ((s.pushFront i new).inc Dict.ENGINE_POOL_STRIPS_REISSUED).raise Event.STRIP_REISSUE e a.code
      else s.modStrip i new) s

/-- Whether echo receiver `unit`, a U-lane pad or 52 + a D-lane pad, is one of head `h`'s (Tables 8.1 and 13.1). -/
def State.hearsEcho (s : State) (h unit : Nat) : Bool :=
  let o := s.rd Dict.HEAD_OUTPUT h
  match s.rd Dict.HEAD_TYPE h with
  | 1 => match s.portOf unit with | some p => decide (unit < 52) && bit (s.rd Dict.HEAD_PORT_MASK h) p | none => false
  | 5 => decide (unit < 52) && s.portOf unit == some o
  | 4 => unit == 52 + o % 16
  | _ => decide (52 ≤ unit) && (unit - 52) / 4 == o % 4

/-- An echo receiver is retired: the checks of the running heads that it hears stay suspended (Table 13.2). -/
def State.loseEcho (s : State) (unit : Nat) : State :=
  (allHeads.filter (fun h => (s.headAt h).running && s.hearsEcho h unit)).foldl (fun s h =>
    (s.modHead h (fun a => { a with echoFaults := unit :: a.echoFaults.filter (· != unit) })).wr
      Dict.HEAD_STATUS_ECHO_STATE 2 h) s

/-- A unit is taken out of service (R383 step 1): engines, DRAM channels, lanes and echo receivers; the lane brought in by a
takeover, if any. -/
def State.takeOut (s : State) (kind unit : Nat) : State × Option Nat :=
  match kind with
  | 1 =>
    let s := s.emptyEngine unit
    (s.modEngine unit (fun g => { g with state := .retired, prior := .retired, below := 0, resetAt := 0 }), none)
  | 2 => match spareRow unit with
    | some k => (s.setTaken (unitCode 2 (unit / 8192 * 8192 + k)) (unit + 1), none)
    | none => (s.setIdle (unitCode 2 unit) false, none)
  | 3 => (s.setIdle (unitCode 3 unit) false, none)
  | 4 => (s.setIdle (unitCode 4 unit) false, none)
  | 6 => (s.loseChannel unit, none)
  | 7 => s.retireLane unit
  | 8 => s.retireLane (52 + unit)
  | 9 => (s.loseEcho unit, none)
  | 11 => (s.setIdle (unitCode 11 unit) false, none)
  | _ => (s, none)

/-- A spare is brought in for a unit (R383 step 2). -/
def State.bringIn (s : State) (kind unit spare : Nat) : State :=
  match kind with
  | 1 => s.modEngine spare (fun g => { g with
      state := .active, prior := .active, ratio := 0x1000, below := 0, history := [], work := 0, busy := 0 })
  | 2 =>
    let base := unitCode 2 (unit / 8192 * 8192)
    if spare < 32 then s.setTaken (base + spare) (unit + 1) else s.setIdle (base + spare - 32) false
  | 3 => (s.setTaken (unitCode 3 spare) (unit + 1)).setIdle (unitCode 3 spare) false
  | 4 =>
    let place := s.carriesFor unit
    let s := s.setTaken (unitCode 4 unit) 0
    (s.setTaken (unitCode 4 spare) (if spare = place then 0 else place + 1)).setIdle (unitCode 4 spare) false
  | 11 => (s.setTaken (unitCode 11 spare) (unit + 1)).setIdle (unitCode 11 spare) false
  | _ => s

/-- What a unit retired without a spare leaves: active engines of its island, LINING KiB, or 0 (R385). -/
def State.remaining (s : State) (kind unit : Nat) : Nat :=
  match kind with
  | 1 => s.activeIn (islandOf unit)
  | 3 => s.liningKib
  | _ => 0

/-- A store-tier bank lost without a spare takes 384 KiB from LINING, whose contents become invalid; what LINING
cannot give is taken from SCAN at the next entry to RUN (R385). -/
def State.loseBank (s : State) : State :=
  let s := { s with liningLostKib := s.liningLostKib + 384 }
  allCanvases.foldl (fun s c => s.invalidateLining c 4) s

/-- Entries of the patch map in force, by number. -/
def State.patchAt (s : State) (n : Nat) : Option Patch := (s.resil.patches.find? (fun e => e.1 == n)).map Prod.snd

/-- The number of VALID entries. -/
def State.patchCount (s : State) : Nat := (s.resil.patches.filter (fun e => !e.2.cleared)).length

/-- Entries that wait for the write floor to end (R388). -/
def State.patchesWaiting (s : State) : Nat := (s.resil.patches.filter (fun e => e.2.pending)).length

/-- A retirement entered in the patch map (R383 step 4, R388, R389, Table 13.6). -/
def State.recordPatch (s : State) (kind unit spare : Nat) (noSpare : Bool) (cause weight : Nat) : State :=
  match (List.range 512).find? (fun n => match s.patchAt n with | some p => p.cleared | none => true) with
  | none =>
    { s with resil := { s.resil with retirements := s.resil.retirements + 1 } }.raise Event.PATCH_MAP_FULL
      (unitCode kind unit) 0
  | some n =>
    let p : Patch :=
      { kind := kind, unit := unit, spare := spare, noSpare := noSpare, cause := cause, weight := weight
        cycles := s.life.cycles % 65536, opSeconds := s.life.opSeconds, pending := s.floor, cleared := false }
    let s := { s with resil := { s.resil with
      patches := Store.put (Store.erase s.resil.patches n) n p
      retirements := if s.floor then s.resil.retirements else s.resil.retirements + 1 } }
    s.raiseIf s.floor Event.PATCH_MAP_DEFERRED s.patchesWaiting 0

/-- SPARES_EXHAUSTED where the last free spare of a kind, of which there were `before`, is gone (R385). -/
def State.noteExhausted (s : State) (kind before : Nat) : State :=
  let out := decide (0 < before ∧ (s.freeSpares kind).length = 0)
  let s := { s with resil := { s.resil with
    exhausted := Store.change (fun _ => false) s.resil.exhausted kind (· || out) } }
  s.raiseIf out Event.SPARES_EXHAUSTED kind 0

/-- A retirement is complete: it is reported and recorded (R383 steps 3 and 4, R385, R386). -/
def State.reportRetired (s : State) (kind unit : Nat) (idle : Bool) (spare : Option Nat) (cause freeBefore : Nat) :
    State :=
  let u := unitCode kind unit
  let w := s.weightAt u
  let s := { s with resil := { s.resil with retired := Store.write (fun _ => false) s.resil.retired u true } }
  let s := (s.putWeight u { w with held := 0 }).countEngines
  let noSpare := spare.isNone && !idle
  let s := { s with resil := { s.resil with unspared := Store.write (fun _ => false) s.resil.unspared u noSpare } }
  let s := if noSpare ∧ kind = 3 then s.loseBank else s
  let s := s.raise Event.UNIT_RETIRED u cause
  let s := match spare with
    | some x =>
      let s := { s.raise Event.PATCH_APPLIED u x with life := { s.life with patches := (s.life.patches + 1) % 2 ^ 32 } }
      if kind = 4 then s.raise Event.MESH_LINK_SWITCHED (s.carriesFor x) x else s
    | none => s.raiseIf (!idle) Event.CAPACITY_REDUCED u (s.remaining kind unit)
  let s := s.noteExhausted kind freeBefore
  s.recordPatch kind unit (spare.getD 0xFFFFFF) noSpare cause w.weight

/-- Whether a unit's contents are copied in the background before its spare takes over (R357, R383). -/
def copiedFirst (kind : Nat) : Bool := kind == 2 || kind == 3 || kind == 5

/-- The spare slot that serves for key slot `unit` since a key write brought it in, if any (R439). -/
def State.slotPatch (s : State) (unit : Nat) : Option Nat :=
  (List.range 72).find? (fun x => s.takenAt (unitCode 10 x) == unit + 1)

/-- A unit is retired (R383): one with contents first has them copied to its spare; a key slot is patched by the next
key write that names it (R439).  A spare that fails its check, or a fault as it stands by, has nothing to replace (R386). -/
def State.retire (s : State) (kind unit cause : Nat) : State :=
  let idle := s.isSpare kind unit || cause == 5
  let free := (s.freeSpares kind).length + (idle && !s.standsBy kind unit).toNat
  let spare := if idle then none else if kind = 10 then (s.slotPatch unit).or (s.pickSpare 10 unit) else s.pickSpare kind unit
  match spare with
  | some x =>
    if kind = 10 then
      if s.slotPatch unit = some x then s.reportRetired 10 unit false (some x) cause 0 else s
    else if copiedFirst kind then
      let s := (s.bringIn kind unit x).noteExhausted kind free
      let s := if kind = 5 then s.startRemap (unit / 524288) (unit % 524288) else s
      { s with resil := { s.resil with
        copying := Store.write (fun _ => (0, 0)) s.resil.copying (unitCode kind unit) (cause, x) } }
    else
      let (s, _) := s.takeOut kind unit
      (s.bringIn kind unit x).reportRetired kind unit false (some x) cause free
  | none =>
    let (s, lane) := s.takeOut kind unit
    s.reportRetired kind unit idle lane cause free

/-- The background copy of a row or bank is complete: its spare takes over and the retirement is reported. -/
def State.endCopy (s : State) (kind unit : Nat) : State :=
  let u := unitCode kind unit
  match s.resil.copying.find? (fun e => e.1 == u) with
  | some e =>
    let s := { s with resil := { s.resil with copying := Store.erase s.resil.copying u } }
    let s := if kind = 3 then s.setIdle u false else s
    s.reportRetired kind unit false (some e.2.2) e.2.1 0
  | none => s

/-- The bank whose contents are being copied to spare bank `unit`, if any (R383). -/
def State.incomingFor (s : State) (kind unit : Nat) : Option Nat :=
  if kind = 3 then
    (s.resil.copying.find? (fun e => e.1 / 2 ^ 24 == 3 && e.2.2 == unit)).map (fun e => e.1 % 2 ^ 24)
  else none

/-- A fault strikes spare bank `spare` while it is being brought in for bank `unit`: it is retired as a spare that fails
its check, and the next free spare is brought in (R386). -/
def State.failIncoming (s : State) (spare unit : Nat) : State :=
  let cause := (Store.read (fun _ => (0, 0)) s.resil.copying (unitCode 3 unit)).1
  let s := { s with resil := { s.resil with copying := Store.erase s.resil.copying (unitCode 3 unit) } }
  let s := (s.setTaken (unitCode 3 spare) 0).reportRetired 3 spare true none 5 0
  s.retire 3 unit cause

/-- A unit becomes permanently faulty: it is retired, unless its kind is held or it is a mesh link that no
redundant link can replace (R382, R385).  A row whose bank or channel has no spare row left makes that unit
faulty in its place (Table 13.2). -/
def State.permanentOne (s : State) (kind unit cause : Nat) : State :=
  let u := unitCode kind unit
  let w := s.weightAt u
  if s.isRetired u ∨ s.resil.copying.any (fun e => e.1 == u) then s
  else if bit (s.rd Dict.RESILIENCE_HOLD_RETIRE) kind ∧ cause ≠ 3 then
    if w.held = 0 then (s.putWeight u { w with held := cause }).raise Event.UNIT_RETIRE_HELD u w.weight
    else if w.held = 1 then s.putWeight u { w with held := cause } else s
  else if kind = 4 ∧ w.noSpareRaised then s
  else if (s.incomingFor kind unit).isSome then s.failIncoming unit ((s.incomingFor kind unit).getD 0)
  else if kind = 4 ∧ s.standsBy 4 unit = false ∧ (s.pickSpare 4 unit).isNone then
    (s.putWeight u { w with noSpareRaised := true }).raise Event.CAPACITY_REDUCED u 0
  else s.retire kind unit cause

/-- The same, with what a row without a spare row leads to; a row that is retired or being copied is no further fault. -/
def State.permanent (s : State) (kind unit cause : Nat) : State :=
  let u := unitCode kind unit
  if s.isRetired u ∨ s.resil.copying.any (fun e => e.1 == u) ∨ cause = 5 then s.permanentOne kind unit cause
  else if kind = 2 ∧ (s.pickSpare 2 unit).isNone then s.permanentOne 3 (unit / 8192) 2
  else if kind = 5 ∧ (s.pickSpare 5 unit).isNone then s.permanentOne 6 (unit / 524288) 2
  else s.permanentOne kind unit cause

/-! ### Faults and weights (R380, R381, R387, R395) -/

/-- A fault noted with its operating time, over the last 24 hours (R394). -/
def State.noteFault (s : State) (u : Nat) : State :=
  let w := s.weightAt u
  let ops := s.life.opSeconds
  s.putWeight u { w with faultTimes := ops :: w.faultTimes.filter (fun t => decide (ops < t + 86400)) }

/-- A fault that counts towards a unit's weight (R381). -/
def State.fault (s : State) (kind unit : Nat) : State :=
  let u := unitCode kind unit
  if s.isRetired u ∨ s.resil.copying.any (fun e => e.1 == u) then s
  else
    let s := s.noteFault u
    let w := s.weightAt u
    let new := min 255 (w.weight + 1)
    let limit := s.rd Dict.FAULT_WEIGHTS_THRESHOLD 0 (kind - 1)
    let half := decide (limit ≤ 2 * new)
    let s := s.putWeight u { w with
      weight := new
      decrementAt := if w.weight = 0 then s.life.opSeconds else w.decrementAt
      halfRaised := half }
    let s := s.raiseIf (half && !w.halfRaised) Event.FAULT_WEIGHT_HALF u new
    if limit ≤ new ∨ (s.incomingFor kind unit).isSome then s.permanent kind unit 1 else s

/-- A fault that makes its unit permanently faulty at once (R380); `cause` as in Table 13.6. -/
def State.hardFault (s : State) (kind unit cause : Nat) : State :=
  (s.noteFault (unitCode kind unit)).permanent kind unit cause

/-- A corrected word of a row: a second within 24 operating hours makes it permanently faulty (Table 13.2). -/
def State.rowCorrected (s : State) (kind unit : Nat) : State :=
  let u := unitCode kind unit
  let last := Store.read (fun _ => 0) s.resil.rowFault u
  let ops := s.life.opSeconds
  let s := { s with resil := { s.resil with rowFault := Store.write (fun _ => 0) s.resil.rowFault u (ops + 1) } }
  if last ≠ 0 ∧ ops < last - 1 + 86400 then s.hardFault kind unit 2 else s.noteFault u

/-- A weight falls by 1 for each full operating hour without a decrement, down to 0 (R381). -/
def State.decayWeight (s : State) (u : Nat) : State :=
  let w := s.weightAt u
  let hours := (s.life.opSeconds - w.decrementAt) / 3600
  if w.weight ≠ 0 ∧ hours ≠ 0 then
    let new := w.weight - hours
    let limit := s.rd Dict.FAULT_WEIGHTS_THRESHOLD 0 (u / 2 ^ 24 - 1)
    s.putWeight u { w with
      weight := new, decrementAt := w.decrementAt + 3600 * hours
      halfRaised := w.halfRaised && decide (limit ≤ 2 * new) }
  else s

/-- The units that HOLD_RETIRE held and no longer holds: those by weight while it is still at the threshold, and
those by a hard fault (R382). -/
def State.releaseHeld (s : State) : State :=
  (s.resil.weights.filter (fun e => e.2.held != 0)).foldl (fun s e =>
    let kind := e.1 / 2 ^ 24
    let unit := e.1 % 2 ^ 24
    if bit (s.rd Dict.RESILIENCE_HOLD_RETIRE) kind then s
    else
      let s := s.putWeight e.1 { s.weightAt e.1 with held := 0 }
      if e.2.held ≠ 1 ∨ s.rd Dict.FAULT_WEIGHTS_THRESHOLD 0 (kind - 1) ≤ e.2.weight then
        s.permanent kind unit e.2.held else s) s

/-- A retired unit returns: as a spare where its kind has spares, otherwise to service (R69, R389).  A DRAM row takes its place
again, so that its target is the spare (DESIGN CHOICE, log 15). -/
def State.returnUnit (s : State) (kind unit : Nat) : State :=
  let u := unitCode kind unit
  let s := { s with resil := { s.resil with
    retired := Store.write (fun _ => false) s.resil.retired u false
    unspared := Store.write (fun _ => false) s.resil.unspared u false
    exhausted := Store.write (fun _ => false) s.resil.exhausted kind false } }
  let s := s.putWeight u Weight.init
  match kind with
  | 1 => (s.modEngine unit (fun g => { g with state := .spare, prior := .spare, below := 0, history := [] })).countEngines
  | 2 => match spareRow unit with
    | some k => s.setTaken (unitCode 2 (unit / 8192 * 8192 + k)) 0
    | none => s.setIdle u true
  | 3 => s.setIdle u true
  | 4 => s.setIdle u true
  | 5 => { s with dram := { s.dram with remapped := Store.change (fun _ => 0) s.dram.remapped (unit / 524288) (· - 1) } }
  | 6 =>
    let s := s.setChannel unit 0
    let s := if [0, 1, 2].all (fun g => s.lostIn g == 0) then s.wr Dict.DRAM_STATE 2 else s
    s.wr Dict.DRAM_POOL_FREE (2 * s.poolFree)
  | 7 => s.setLane unit .off
  | 8 => s.setLane (52 + unit) .off
  | 10 => if (s.slotAt unit).state = .bad then s.putSlot unit { Slot.init with state := .spare } else s
  | 11 => s.setIdle u true
  | _ => s

end Sys2Proof.Machine
end

