-- ==== Sys2Proof/Machine/Lanes.lean ====
section
/-! DEFINITION. The commands of lanes and Ethernet ports (chapter 3, R260, R263, R264, R276). -/
namespace Sys2Proof.Machine
open Sys2Proof

/-! ### Ports -/

/-- A tile that a running TILE head sends on port `p` and of which no line fits the port's MTU (R276). -/
def State.portMisfit (s : State) (p : Nat) : Option Nat :=
  (s.tileMap.find? (fun kv =>
    let e := TileEntry.ofBytes kv.2
    e.valid && s.tileInside e && (e.port == p || e.alt == p) && s.linesPerPacket e p == 0 &&
      allHeads.any (fun h => (s.headAt h).running && s.rd Dict.HEAD_TYPE h == 1
        && bit (s.rd Dict.HEAD_PORT_MASK h) p && e.canvas == s.headCanvas h))).map Prod.fst

/-- What refuses ADMIN = 1 of a port (R66, R276). -/
def State.portRefusal (s : State) (p : Nat) : Option Refuse :=
  match s.judgePort p with
  | some r => some r
  | none => (s.portMisfit p).map (fun k => Refuse.tableEntry 0x51 k)

/-- A port comes up: its lanes that are OFF enter TRAIN (R69, R88). -/
def State.startPort (s : State) (p : Nat) : State :=
  let s := s.wr Dict.PORT_ADMIN 1 p
  let s := (s.portLanes p).foldl (fun s l =>
    if (s.ulaneAt l).state = .off then (s.trainLane l false).modLane l (fun a => { a with restarts := 0 }) else s) s
  s.judgePortState p 0

/-- ADMIN of a port written 1 (R66, R88). -/
def State.portUp (s : State) (p : Nat) : Effect :=
  match s.portRefusal p with
  | some r => .refused r s
  | none => .done (s.startPort p)

/-- ADMIN of a port written 0: its lanes go OFF (R69, R88). -/
def State.portDown (s : State) (p : Nat) : Effect :=
  let lanes := if s.flag Dict.PORT_ADMIN p then s.portLanes p else []
  let s := s.wr Dict.PORT_ADMIN 0 p
  let s := lanes.foldl (fun s l =>
    if (s.ulaneAt l).state = .retired then s else s.setLane l .off) s
  .done (s.judgePortState p 1)

/-- The meaning of PORT_ADMIN_UP (R66). -/
def execPortAdminUp (sess : Fin 12) (p : Fin 48) (s : State) : Host.Outcome State Fault Refusal :=
  .next (s.begin.writeScalar sess Dict.PORT_ADMIN p 0 1 (fun s => s.portUp p))

/-- The meaning of PORT_ADMIN_DOWN (R88). -/
def execPortAdminDown (sess : Fin 12) (p : Fin 48) (s : State) : Host.Outcome State Fault Refusal :=
  .next (s.begin.writeScalar sess Dict.PORT_ADMIN p 0 0 (fun s => s.portDown p))

/-- What refuses SPARE_OF = `v` of lane `l` (R66, R263). -/
def State.judgeSpare (s : State) (l v : Nat) : Option Refuse :=
  if v = 0xFF then none
  else
    let owner := (List.range 48).find? (fun p => (s.portLanes p).contains l)
    let others := s.spareLanes.filter (· != l)
    let held := others.find? (fun m => s.rd Dict.U_LANE_SPARE_OF m == v)
    firstOf
      [(owner.isSome, .atField 0x12 (0x2280 + owner.getD 0) 3),
       (decide (4 ≤ others.length), .atField 0x12 (0x2200 + others.head?.getD 0) 4),
       (s.rd Dict.PTL_GENERATION 0 v != 2 || !spareType (s.rd Dict.PORT_TYPE v), .rule 0x58),
       (held.isSome, .atField 0x58 (0x2200 + held.getD 0) 4)]

/-- SPARE_OF of a lane written (R66). -/
def State.writeSpare (s : State) (l v : Nat) : Effect :=
  match s.judgeSpare l v with
  | some r => .refused r s
  | none => .done ((s.wr Dict.U_LANE_SPARE_OF v l).modUlane l (fun a => { a with surveyed := false }))

/-- The meaning of SPARE_OF_WRITE (R66, R263). -/
def execSpareOfWrite (sess : Fin 12) (l : Fin 52) (value : Nat) (s : State) : Host.Outcome State Fault Refusal :=
  .next (s.begin.writeScalar sess Dict.U_LANE_SPARE_OF l 0 value (fun s => s.writeSpare l (value % 256)))

/-- GENERATION of a port written (R260). -/
def State.writeGeneration (s : State) (p v : Nat) : Effect :=
  .unless (!generationAdmits v (s.rd Dict.PORT_TYPE p) || (v != 2 && !(s.sparesOf p).isEmpty)) (.rule 0x58) s
    (.done (s.wr Dict.PTL_GENERATION v 0 p))

/-- The meaning of GENERATION_WRITE (R260). -/
def execGenerationWrite (sess : Fin 12) (p : Fin 48) (value : Nat) (s : State) : Host.Outcome State Fault Refusal :=
  .next (s.begin.writeScalar sess Dict.PTL_GENERATION 0 p value (fun s => s.writeGeneration p (value % 256)))

/-- TYPE of a port written (R65, R260). -/
def State.writePortType (s : State) (p v : Nat) : Effect :=
  let g := s.rd Dict.PTL_GENERATION 0 p
  .unless (!generationAdmits g v || (!(s.sparesOf p).isEmpty && !spareType v)) (.rule 0x58) s
    (.done ((s.reformPort p).wr Dict.PORT_TYPE v p))

/-- FIRST_LANE of a port written (R66). -/
def State.writeFirstLane (s : State) (p v : Nat) : Effect :=
  .done ((s.reformPort p).wr Dict.PORT_FIRST_LANE v p)

/-! ### Lanes (R69 to R72) -/

/-- The kind and number of the unit that a lane is (Table 13.1). -/
def State.laneFault (s : State) (l : Nat) : State := if l < 52 then s.fault 7 l else s.fault 8 (l - 52)

/-- Whether a lower-numbered lane of the bond fails together with lane `l`: its loss waits in the queue, which no time
passes before (R264, log 72). -/
def State.lowerFails (s : State) (p l : Nat) : Bool :=
  s.pending.any (fun c => match c with
    | .laneLost m _ => decide ((m : Nat) < l) && (s.portLanes p).contains m && (s.laneAt m).live
    | _ => false)

/-- A lane that fails leaves its place to a surveyed spare of its bond, or makes a warm restart (R69, R264). -/
def State.restartLane (s : State) (l cause : Nat) : State :=
  match (if l < 52 then s.portOf l else none) with
  | some p =>
    match (if s.lowerFails p l then none else s.readySpare p) with
    | some m => s.takeOver p l m
    | none => ((s.noSpareLane p l).trainLane l true).judgePortState p cause
  | none => (s.trainLane l true).judgeOwner l cause

/-- Loss of signal, of CDR lock or of PCS or FEC lock on a lane (R69, R70). -/
def State.loseLane (s : State) (l cause : Nat) : State :=
  if s.alive ∧ (s.laneAt l).live then
    let s := if l < 52 then s.inc Dict.U_LANE_LOCK_LOSSES l else s
    let s := s.raise Event.LANE_LOST (laneCode l) cause
    (s.restartLane l cause).laneFault l
  else s

/-- The meaning of LANE_LOST (R70): `alignment` says that FEC alignment was lost, rather than the lane. -/
def execLaneLost (l : Fin 68) (alignment : Bool) (s : State) : Host.Outcome State Fault Refusal :=
  .next (s.begin.loseLane l (if alignment then 5 else 2))

/-- FRL rates in kbit/s on three and on four lanes (R74). -/
def frlRates (lanes : Nat) : List Nat :=
  if lanes = 3 then [3000000, 6000000] else [6000000, 8000000, 10000000, 12000000]

/-- DisplayPort lane rates in kbit/s (R75). -/
def dpRates : List Nat := [1620000, 2700000, 5400000, 8100000, 10000000, 13500000, 20000000]

/-- SDI rates in kbit/s, those over 1.001 rounded down (R76, log 69). -/
def sdiRates (slow : Bool) : List Nat :=
  [1485000, 2970000, 5940000, 11880000].map (fun r => if slow then r * 1000 / 1001 else r)

/-- Whether an SDI lane with SDI_RATE `c` runs at a rate: at the one it names, or with 0 at any (R76, R89). -/
def sdiRuns (c rate : Nat) : Bool :=
  if c = 0 then (sdiRates false ++ sdiRates true).contains rate
  else if c % 128 = 0 then (sdiRates true).contains rate
  else (sdiRates (decide (128 ≤ c)))[c % 128 - 1]? == some rate

/-- Whether a link may come up on a lane as it was found: a rate that the group's mode supports, at most MAX_RATE (R73 to
R76, R89).  MAX_RATE does not bound the lanes of mode 5 (DESIGN CHOICE, log 72). -/
def State.linkRuns (s : State) (l : Nat) (f : LinkFound) : Bool :=
  let g := (l - 52) / 4
  let lanes := s.rd Dict.GROUP_PORT_LANES g
  let within := decide (f.rate ≤ s.rd Dict.GROUP_PORT_MAX_RATE g)
  if l < 52 then true
  else
    match s.rd Dict.GROUP_PORT_MODE g with
    | 1 | 2 => within && (if f.frl then (frlRates lanes).contains f.rate
        else lanes == 4 && decide (250000 ≤ f.rate ∧ f.rate ≤ 6000000))
    | 3 | 4 => within && dpRates.contains f.rate
    | 5 => sdiRuns (s.rd Dict.D_LANE_SDI_RATE (l - 52)) f.rate
    | _ => false

/-- The lane rate that a lane reaches: its port's, or the one that its group agreed on (R61, R73 to R76). -/
def State.reachedRate (s : State) (l rate : Nat) : Nat := if l < 52 then laneRate (s.laneType l) else rate

/-- Kind of `WireItem.pin`: what an HDMI transmit group tells its sink over SCDC: bit 0 scrambling, bit 1 FRL, bits 3:2 its
TxFFE level (R74). -/
abbrev pinScdc : Nat := 11

/-- What a D-lane's link agreed on: its rate, and for HDMI scrambling above 3.4 Gbit/s or FRL with its TxFFE level (R74,
R89). -/
def State.agreeLink (s : State) (l : Nat) (f : LinkFound) : State :=
  let g := (l - 52) / 4
  let mode := s.rd Dict.GROUP_PORT_MODE g
  let hdmi := mode == 1 || mode == 2
  let scrambled := hdmi && !f.frl && decide (3400000 < f.rate)
  let frl := hdmi && f.frl
  let was := s.groupAt g
  let s := s.wr Dict.D_LANE_LINE_RATE f.rate (l - 52)
  let s := s.modGroup g (fun a => { a with frl := frl, scrambled := scrambled, ffe := if frl then f.ffe else 0 })
  if mode = 2 ∧ (was.frl, was.scrambled, was.ffe) ≠ (frl, scrambled, (s.groupAt g).ffe) then
    s.out (.pin pinScdc g (scrambled.toNat + 2 * frl.toNat + 4 * (s.groupAt g).ffe))
  else s

/-- What training leaves on a lane: coefficients and equaliser settings, and what a D-lane's link agreed on (R62, R64, R70,
R74). -/
def State.endTrain (s : State) (l : Nat) (f : LinkFound) : State :=
  let s := if l < 52 then s.takeTraining l f.tx else s.agreeLink l f
  s.adaptLane l f.settings

/-- A lane in TRAIN reaches UP (R69). -/
def State.laneUp (s : State) (l : Nat) (f : LinkFound) : State :=
  if s.alive ∧ (s.laneAt l).state = .train ∧ s.linkRuns l f then
    let s := (s.setLane l .up).modLane l (fun a => { a with restarts := 0 })
    let s := (s.endTrain l f).raise Event.LANE_UP (laneCode l) (s.reachedRate l f.rate / 1000)
    s.judgeOwner l (s.ownerCause l)
  else s

/-- The meaning of LANE_UP (R69). -/
def execLaneUp (l : Fin 68) (f : LinkFound) (s : State) : Host.Outcome State Fault Refusal := .next (s.begin.laneUp l f)

/-- TRAIN_TIMEOUT of 3 s (Table 3.3). -/
abbrev trainTimeout : Nat := 3000000000

/-- A lane's training times out: it restarts cold; the third in succession is a hard fault (R69, Table 13.2). -/
def State.failTraining (s : State) (l cause : Nat) : State :=
  let a := s.laneAt l
  if s.alive ∧ a.state = .train ∧ a.trainSince + trainTimeout ≤ s.now then
    let n := a.restarts + 1
    let s := (s.trainLane l false).modLane l (fun a => { a with restarts := n })
    let s := (s.raise Event.LANE_TRAIN_FAIL (laneCode l) n).judgeOwner l cause
    if 3 ≤ n then (if l < 52 then s.hardFault 7 l 2 else s.hardFault 8 (l - 52) 2) else s
  else s

/-- Whether a lane's port runs auto-negotiation (R65). -/
def State.negotiates (s : State) (l : Nat) : Bool :=
  decide (l < 52) && (match s.portOf l with | some p => s.flag Dict.PORT_AUTONEG p | none => false)

/-- The meaning of LANE_TRAIN_FAIL (R69): `autoneg` says that auto-negotiation, where it runs, is what failed. -/
def execLaneTrainFail (l : Fin 68) (autoneg : Bool) (s : State) : Host.Outcome State Fault Refusal :=
  let s := s.begin
  .next (s.failTraining l (if autoneg && s.negotiates l then 3 else 2))

/-- MARGIN_CLASS of a lane. -/
def State.marginClass (s : State) (l : Nat) : Nat :=
  if l < 52 then s.rd Dict.U_LANE_MARGIN_CLASS l else s.rd Dict.D_LANE_MARGIN_CLASS (l - 52)

/-- DEGRADE_CLASS of a lane; a D-lane, which has no such field, is held to the default 2 (R69, log 14). -/
def State.degradeClass (s : State) (l : Nat) : Nat := if l < 52 then s.rd Dict.U_LANE_DEGRADE_CLASS l else 2

/-- A lane in UP becomes DEGRADED: low margin for 1 s, or an uncorrectable codeword within 1 s (R69); a bond
with TAKEOVER_ON_DEGRADE takes it over (R264). -/
def State.degradeLane (s : State) (l : Nat) : State :=
  let a := s.laneAt l
  if s.alive ∧ a.state = .up ∧ (s.since a.lowSince 1000000000 ∨ (a.badAt ≠ 0 ∧ !s.since a.badAt 1000000001)) then
    let s := s.modLane l (fun a => { a with state := .degraded, goodSince := 0 })
    let s := s.raise Event.LANE_DEGRADED (laneCode l) (s.marginClass l)
    let s := match (if l < 52 ∧ s.flag Dict.PTL_TAKEOVER_ON_DEGRADE then s.portOf l else none) with
      | some p =>
        match s.readySpare p with
        | some m => s.takeOver p l m
        | none => (s.noSpareLane p l).judgePortState p (s.ownerCause l)
      | none => s.judgeOwner l (s.ownerCause l)
    s.laneFault l
  else s

/-- The meaning of LANE_DEGRADED (R69). -/
def execLaneDegraded (l : Fin 68) (s : State) : Host.Outcome State Fault Refusal := .next (s.begin.degradeLane l)

/-- A DEGRADED lane recovers: 10 s of sufficient margin with no uncorrectable codeword (R69). -/
def State.recoverLane (s : State) (l : Nat) : State :=
  let a := s.laneAt l
  if s.alive ∧ a.state = .degraded ∧ s.since a.goodSince 10000000000
      ∧ (a.badAt = 0 ∨ s.since a.badAt 10000000000) then
    let s := s.setLane l .up
    (s.raise Event.LANE_RECOVERED (laneCode l) (s.marginClass l)).judgeOwner l (s.ownerCause l)
  else s

/-- The meaning of LANE_RECOVERED (R69). -/
def execLaneRecovered (l : Fin 68) (s : State) : Host.Outcome State Fault Refusal := .next (s.begin.recoverLane l)

/-- Uncorrectable codewords received on a port (R69, Table 3.11). -/
def State.badCodewords (s : State) (p count : Nat) : State :=
  if s.alive ∧ 2 ≤ s.rd Dict.PORT_STATE p ∧ 0 < count then
    let recent := (s.now, count) ::
      (Store.read (fun _ => []) s.fecTimes p).filter (fun e => decide (s.now < e.1 + 1000000000))
    let s := (s.inc Dict.PORT_FEC_UNCORRECTABLE p 0 count).raise Event.FEC_UNCORRECTABLE (0x200 + p)
      ((recent.map Prod.snd).foldl (· + ·) 0)
    let s := { s with fecTimes := Store.write (fun _ => []) s.fecTimes p recent }
    (s.portLanes p).foldl (fun s l => s.modUlane l (fun a => { a with badAt := s.now + 1 })) s
  else s

/-- The meaning of FEC_UNCORRECTABLE (R69). -/
def execFecUncorrectable (p : Fin 48) (count : Nat) (s : State) : Host.Outcome State Fault Refusal :=
  .next (s.begin.badCodewords p count)

/-- MARGIN_CLASS of an SNR in 0.01 dB against a requirement in dB (R72). -/
def marginOf (snr need : Nat) : Nat := min 15 (snr / 100 - need)

/-- Whether a port runs an FEC: Table 3.2, FEC 0 being the type's default (R65). -/
def State.fecOn (s : State) (p : Nat) : Bool :=
  let f := s.rd Dict.PORT_FEC p
  if f = 0 then s.rd Dict.PORT_TYPE p != 1 else f != 1

/-- PRE_FEC_SER: corrected symbols of the last second over those carried in it, in 1e-12, rounded down; a symbol of both
codes has 10 bits (R88, log 69). -/
def State.preFecSer (s : State) (p : Nat) : Nat :=
  let lanes := s.portLanes p
  let errors := ((lanes.flatMap (fun l => (s.ulaneAt l).corrected)).map Prod.snd).foldl (· + ·) 0
  let symbols := lanes.length * laneRate (s.rd Dict.PORT_TYPE p) * 100
  saturate 32 (errors * 10 ^ 12 / symbols)

/-- FEC symbols corrected on a lane of port `p`, and codewords (R87, R88). -/
def State.countCorrected (s : State) (p l : Nat) (r : LaneReading) : State :=
  let s := (s.inc Dict.U_LANE_SYMBOL_ERRORS l 0 r.errors).inc Dict.PORT_FEC_CORRECTED p 0 r.codewords
  let s := s.modUlane l (fun a => { a with
    corrected := (s.now, r.errors) :: a.corrected.filter (fun x => decide (s.now < x.1 + 1000000000)) })
  s.wr Dict.PORT_PRE_FEC_SER (s.preFecSer p) p

/-- Errors that a lane's receiver has found since the last update, in the counter that they belong to (R87 to R89). -/
def State.countErrors (s : State) (l : Nat) (r : LaneReading) : State :=
  if 52 ≤ l then (if (s.laneAt l).live then s.inc Dict.D_LANE_ERRORS (l - 52) 0 r.errors else s)
  else if s.laneTests l then s.inc Dict.U_LANE_PRBS_ERRORS l 0 r.errors
  else
    match s.portOf l with
    | some p => if (s.ulaneAt l).live && s.fecOn p then s.countCorrected p l r else s
    | none => s

/-- The adaptation update that comes with the margins: settings of a lane that carries traffic, is surveyed or runs a
test, coefficients, errors (R62, R87). -/
def State.adaptUpdate (s : State) (l : Nat) (r : LaneReading) : State :=
  let a := s.laneAt l
  let s := if a.live || a.surveyed || s.laneTests l then s.adaptLane l r.settings else s
  (s.updateTx l).countErrors l r

/-- The 10 ms update of a lane (R72): how long its margin has been low or sufficient is kept with it (R69). -/
def State.updateMargin (s : State) (l snr high : Nat) (r : LaneReading) : State :=
  if s.alive then
    let cls := marginOf snr (if s.pam4 l then 18 else 17)
    let s := if l < 52 then
        (((s.wr Dict.U_LANE_SNR snr l).wr Dict.U_LANE_EYE_HEIGHT high l).wr Dict.U_LANE_EYE_WIDTH r.wide l).wr
          Dict.U_LANE_MARGIN_CLASS cls l
      else (s.wr Dict.D_LANE_EYE_HEIGHT high (l - 52)).wr Dict.D_LANE_MARGIN_CLASS cls (l - 52)
    let s := s.adaptUpdate l r
    let d := s.degradeClass l
    if (s.laneAt l).live then
      s.modLane l (fun a => { a with
        lowSince := if d ≤ cls then 0 else if a.lowSince = 0 then s.now + 1 else a.lowSince
        goodSince := if cls ≤ d then 0 else if a.goodSince = 0 then s.now + 1 else a.goodSince })
    else s
  else s

/-- The meaning of LANE_MARGIN_UPDATE (R72): what the receiver measures, SNR in 0.01 dB. -/
def execLaneMarginUpdate (l : Fin 68) (snr high : Fin 65536) (r : LaneReading) (s : State) :
    Host.Outcome State Fault Refusal :=
  .next (s.begin.updateMargin l snr high r)

/-- A spare's equaliser has converged: it is surveyed (R263). -/
def State.surveySpare (s : State) (l : Nat) : State :=
  let p := s.rd Dict.U_LANE_SPARE_OF l
  let a := s.ulaneAt l
  if s.alive ∧ p < 48 ∧ 2 ≤ s.rd Dict.PORT_STATE p ∧ a.state = .off ∧ a.surveyed = false then
    (s.modUlane l (fun a => { a with surveyed := true })).raise Event.PTL_SPARE_READY (bondCode p l) 0
  else s

/-- The meaning of PTL_SPARE_READY (R263). -/
def execPtlSpareReady (l : Fin 52) (s : State) : Host.Outcome State Fault Refusal := .next (s.begin.surveySpare l)

/-- An Ethernet frame received on a port: accepted, or discarded and counted (R67, R68). -/
def State.receiveFrame (s : State) (p length : Nat) (fcs pause : Bool) : State :=
  if s.alive ∧ 2 ≤ s.rd Dict.PORT_STATE p then
    if fcs ∧ !pause ∧ 64 ≤ length ∧ length ≤ s.rd Dict.PORT_MTU p then s.inc Dict.PORT_RX_FRAMES p
    else s.inc Dict.PORT_RX_DISCARDS p
  else s

/-- The meaning of ETHERNET_FRAME_RX (R68): its length in bytes, whether its FCS holds, whether it is a PAUSE or
PFC frame. -/
def execEthernetFrameRx (p : Fin 48) (length : Nat) (fcs pause : Bool) (s : State) :
    Host.Outcome State Fault Refusal :=
  .next (s.begin.receiveFrame p length fcs pause)

end Sys2Proof.Machine
end

