-- ==== Sys2Proof/Machine/Links.lean ====
section
/-! DEFINITION. The commands of the D-lane groups, of PCIe and of the management interfaces (chapter 3, R356). -/
namespace Sys2Proof.Machine
open Sys2Proof

/-! ### Groups (R73 to R78, R89) -/

/-- A group starts: the lanes that its mode uses enter TRAIN (R69, R73). -/
def State.startGroup (s : State) (g : Nat) : State :=
  let s := s.wr Dict.GROUP_PORT_ADMIN 1 g
  let s := (s.groupLanes g).foldl (fun s l =>
    if (s.laneAt l).state = .off then (s.trainLane l false).modLane l (fun a => { a with restarts := 0 }) else s) s
  (s.judgeGroupState g).driveHpd g

/-- ADMIN of a group written 1 (R89). -/
def State.groupUp (s : State) (g : Nat) : Effect :=
  match s.judgeGroup g with
  | some r => .refused r s
  | none => .done (s.startGroup g)

/-- ADMIN of a group written 0: its lanes go OFF (R69, R89). -/
def State.groupDown (s : State) (g : Nat) : Effect :=
  let lanes := s.groupLanes g
  let s := s.wr Dict.GROUP_PORT_ADMIN 0 g
  let s := lanes.foldl (fun s l => if (s.laneAt l).state = .retired then s else s.setLane l .off) s
  .done (((s.judgeGroupState g).restartHdcp g).driveHpd g)

/-- The meaning of GROUP_ADMIN_UP (R89). -/
def execGroupAdminUp (sess : Fin 12) (g : Fin 4) (s : State) : Host.Outcome State Fault Refusal :=
  .next (s.begin.writeScalar sess Dict.GROUP_PORT_ADMIN g 0 1 (fun s => s.groupUp g))

/-- The meaning of GROUP_ADMIN_DOWN (R89). -/
def execGroupAdminDown (sess : Fin 12) (g : Fin 4) (s : State) : Host.Outcome State Fault Refusal :=
  .next (s.begin.writeScalar sess Dict.GROUP_PORT_ADMIN g 0 0 (fun s => s.groupDown g))

/-- Kind of `WireItem.pin`: a transmit group reads its sink's EDID, over DDC or AUX (R78). -/
abbrev pinEdidRead : Nat := 13

/-- HPD of a transmit group changes, once it has held for the 100 ms of its debounce; an assertion makes the group read
the sink's EDID (R78). -/
def State.takeHpd (s : State) (g : Nat) (p : PinLevel) : State :=
  if s.alive ∧ s.groupSends g ∧ s.flag Dict.GROUP_PORT_HPD g ≠ p.high ∧ 100000 ≤ p.us then
    let s := (s.wrFlag Dict.GROUP_PORT_HPD p.high g).raisePin Event.HPD_CHANGE (groupCode g) p.high.toNat
    if p.high then s.out (.pin pinEdidRead g 1) else s
  else s

/-- The meaning of HPD_CHANGE (R78). -/
def execHpdChange (g : Fin 4) (p : PinLevel) (s : State) : Host.Outcome State Fault Refusal :=
  .next (s.begin.takeHpd g p)

/-- A low pulse of 0.5 to 1 ms of a DisplayPort transmit group's HPD is taken as IRQ_HPD: the group reads the
sink's DPCD over AUX, and HPD does not change (R78). -/
def State.takeIrqHpd (s : State) (g us : Nat) : State :=
  if s.alive ∧ s.rd Dict.GROUP_PORT_MODE g = 4 ∧ s.flag Dict.GROUP_PORT_HPD g ∧ 500 ≤ us ∧ us ≤ 1000 then
    s.out (.pin 2 g us)
  else s

/-- The meaning of IRQ_HPD (R78): the pulse's length in µs. -/
def execIrqHpd (g : Fin 4) (us : Nat) (s : State) : Host.Outcome State Fault Refusal :=
  .next (s.begin.takeIrqHpd g us)

/-- EDID of a group written: it comes in force at once or at the group's next frame start (R78, R89). -/
def State.writeEdid (s : State) (g : Nat) (data : List Byte) : Effect :=
  .done (((s.wrDom Dict.GROUP_PORT_EDID data g).modGroup g (fun a => { a with edidDue := true })).liveWritten g)

/-- The meaning of EDID_WRITE (R78). -/
def execEdidWrite (sess : Fin 12) (g : Fin 4) (data : List Byte) (s : State) : Host.Outcome State Fault Refusal :=
  .next (s.begin.writeBlock sess Dict.GROUP_PORT_EDID g 0 data (fun s => s.writeEdid g data))

/-- 200 ms after an EDID write, HPD may rise again (R78). -/
def State.releaseHpd (s : State) (g : Nat) : State :=
  let until_ := (s.groupAt g).hpdLowUntil
  if s.alive ∧ until_ ≠ 0 ∧ until_ ≤ s.now then
    (s.modGroup g (fun a => { a with hpdLowUntil := 0 })).driveHpd g
  else s

/-- The meaning of EDID_HPD_RELEASE (R78). -/
def execEdidHpdRelease (g : Fin 4) (s : State) : Host.Outcome State Fault Refusal := .next (s.begin.releaseHpd g)

/-- The sink's EDID has been read after an HPD assertion (R78). -/
def State.takeSinkEdid (s : State) (g : Nat) (data : List Byte) : State :=
  if s.alive ∧ s.groupSends g ∧ s.flag Dict.GROUP_PORT_HPD g then
    let d := data.take 512
    (s.wrDom Dict.GROUP_PORT_SINK_EDID d g).raise Event.SINK_EDID_CHANGED (groupCode g) d.length
  else s

/-- The meaning of SINK_EDID_CHANGED (R78). -/
def execSinkEdidChanged (g : Fin 4) (data : List Byte) (s : State) : Host.Outcome State Fault Refusal :=
  .next (s.begin.takeSinkEdid g data)

/-- Authentication completes: with keys that are usable, at most 31 devices and a depth of at most 4 (R77,
R436). -/
def State.authenticate (s : State) (g depth : Nat) (ids : List (List Byte)) : State :=
  if s.alive ∧ s.rd Dict.GROUP_PORT_HDCP_STATE g = 1 ∧ s.rd Dict.KEY_STORE_HDCP_STATE = 1 ∧ ids.length ≤ 31
      ∧ depth ≤ 4 then
    let s := (s.modGroup g (fun a => { a with devices := ids.length, hdcpDown := ids, depth := depth })).wr
      Dict.GROUP_PORT_HDCP_STATE 2 g
    (s.raise Event.HDCP_AUTHENTICATED (groupCode g) ids.length).tellUpstream
  else s

/-- The meaning of HDCP_AUTHENTICATED (R77): depth and receiver IDs of what lies downstream. -/
def execHdcpAuthenticated (g : Fin 4) (depth : Nat) (ids : List (List Byte)) (s : State) :
    Host.Outcome State Fault Refusal :=
  .next (s.begin.authenticate g depth ids)

/-- Authentication fails at a step (R77). -/
def State.failHdcp (s : State) (g step : Nat) : State :=
  let v := s.rd Dict.GROUP_PORT_HDCP_STATE g
  if s.alive ∧ (v = 1 ∨ v = 2) then
    let s := (s.modGroup g (fun a => { a with devices := 0, hdcpDown := [], depth := 0 })).wr Dict.GROUP_PORT_HDCP_STATE 3 g
    (s.raise Event.HDCP_FAILED (groupCode g) step).tellUpstream
  else s

/-- The meaning of HDCP_FAILED (R77). -/
def execHdcpFailed (g : Fin 4) (step : Nat) (s : State) : Host.Outcome State Fault Refusal :=
  .next (s.begin.failHdcp g step)

/-- Link training of an HDMI or DisplayPort group fails (R92): the last rate tried, in kbit/s. -/
def State.failLink (s : State) (g rate : Nat) : State :=
  if s.alive ∧ s.rd Dict.GROUP_PORT_STATE g = 1 ∧ s.rd Dict.GROUP_PORT_MODE g ≤ 4 then
    let r := min rate (s.rd Dict.GROUP_PORT_MAX_RATE g)
    (s.modGroup g (fun a => { a with lastRate := r })).raise Event.DLINK_TRAIN_FAIL (groupCode g) (r / 1000)
  else s

/-- The meaning of DLINK_TRAIN_FAIL (R92). -/
def execDlinkTrainFail (g : Fin 4) (rate : Nat) (s : State) : Host.Outcome State Fault Refusal :=
  .next (s.begin.failLink g rate)

/-- The meaning of CEC_TX (R78): a raw frame sent at once. -/
def execCecTx (sess : Fin 12) (g : Fin 4) (data : List Byte) (s : State) : Host.Outcome State Fault Refusal :=
  .next (s.begin.writeBlock sess Dict.GROUP_PORT_CEC_TX g 0 data (fun s => .done (s.out (.packet 5 g data))))

/-- A CEC frame received: kept, and acknowledged when its destination is masked (R78). -/
def State.receiveCec (s : State) (g : Nat) (data : List Byte) : State :=
  if s.alive ∧ data ≠ [] then
    let s := s.wrDom Dict.GROUP_PORT_CEC_RX (data.take 16) g
    let dest := byteAt data 0 % 16
    if bit (s.groupAt g).cec dest then s.out (.pin 4 g dest) else s
  else s

/-- The meaning of CEC_RX (R78). -/
def execCecRx (g : Fin 4) (data : List Byte) (s : State) : Host.Outcome State Fault Refusal :=
  .next (s.begin.receiveCec g data)

/-! ### PCIe (R79 to R81, R90, R356) -/

/-- Parameter A of the endpoint's events (R92). -/
abbrev pcieCode : Nat := 0x500

/-- The health of every host surface follows the link (R116). -/
def State.judgeHosts (s : State) : State := (List.range 32).foldl State.judgeHost s

/-- The endpoint's link comes up at a speed code and a width (R79). -/
def State.pcieUp (s : State) (speed width : Nat) : State :=
  if s.alive then
    let v := min speed (s.rd Dict.PCIE_TARGET_SPEED)
    let s := ((s.wr Dict.PCIE_LINK_STATE 2).wr Dict.PCIE_LINK_SPEED v).wr Dict.PCIE_LINK_WIDTH width
    (s.judgeHosts).raise Event.PCIE_LINK_UP pcieCode (v * 256 + width)
  else s

/-- The meaning of PCIE_LINK_UP (R79): speed 1 to 5, and the width as a power of 2. -/
def execPcieLinkUp (speed width : Fin 5) (s : State) : Host.Outcome State Fault Refusal :=
  .next (s.begin.pcieUp (speed + 1) (2 ^ width.val))

/-- The endpoint's link goes down: host surfaces go LOST and the PCIe session drops its rights (R79, R116,
R404). -/
def State.pcieDown (s : State) (ltssm : Nat) : State :=
  if s.alive ∧ s.rd Dict.PCIE_LINK_STATE = 2 then
    let s := ((s.wr Dict.PCIE_LINK_STATE 0).wr Dict.PCIE_LINK_SPEED 0).wr Dict.PCIE_LINK_WIDTH 0
    ((s.judgeHosts).raise Event.PCIE_LINK_DOWN pcieCode ltssm).dropRights 3 3
  else s

/-- The meaning of PCIE_LINK_DOWN (R79). -/
def execPcieLinkDown (ltssm : Nat) (s : State) : Host.Outcome State Fault Refusal := .next (s.begin.pcieDown ltssm)

/-- An AER error is reported (R79). -/
def State.aer (s : State) (uncorrectable : Bool) (status : Nat) : State :=
  if s.alive then
    let s := if uncorrectable then s.inc Dict.PCIE_AER_UNCORRECTABLE else s.inc Dict.PCIE_AER_CORRECTABLE
    s.raise Event.PCIE_AER pcieCode status
  else s

/-- The meaning of PCIE_AER (R79). -/
def execPcieAer (uncorrectable : Bool) (status : Nat) (s : State) : Host.Outcome State Fault Refusal :=
  .next (s.begin.aer uncorrectable status)

/-- A BAR2 access: it reaches only the host surface region; elsewhere a read returns all ones, a write is
dropped, and the access is counted and reported (R80, R356). -/
def State.bar2 (s : State) (write : Bool) (offset length : Nat) (data : List Byte) : State :=
  let n := if write then data.length else length
  if s.alive ∧ s.rd Dict.PCIE_LINK_STATE = 2 then
    if offset + n ≤ s.dramSetting 4 * 1048576 then
      if write then s.setHostBytes offset data else s.out (.packet 6 0 (s.hostBytes offset n))
    else
      let s := if write then s else s.out (.packet 6 0 (List.replicate n 0xFF))
      (s.inc Dict.PCIE_DRAM_WINDOW_FAULTS).raise Event.PCIE_WINDOW_FAULT pcieCode (offset / 1048576)
  else s

/-- The meaning of BAR2_ACCESS (R356): a read of `length` bytes, or a write of `data`. -/
def execBar2Access (write : Bool) (offset length : Nat) (data : List Byte) (s : State) :
    Host.Outcome State Fault Refusal :=
  .next (s.begin.bar2 write offset length data)

/-- TARGET_SPEED written: a link retrain is requested (R90). -/
def State.writeTargetSpeed (s : State) (v : Nat) : Effect :=
  .done ((s.wr Dict.PCIE_TARGET_SPEED v).out (.pin 5 0 v))

/-- The meaning of TARGET_SPEED_WRITE (R90). -/
def execTargetSpeedWrite (sess : Fin 12) (value : Nat) (s : State) : Host.Outcome State Fault Refusal :=
  .next (s.begin.writeScalar sess Dict.PCIE_TARGET_SPEED 0 0 value (fun s => s.writeTargetSpeed value))

/-- A device other than a directly attached NVMe drive is left unconfigured (R81). -/
def State.refuseDevice (s : State) (k : Nat) : State :=
  if s.alive ∧ bit (s.rd Dict.PCIE_RP_ENABLE) k then s.wr Dict.PCIE_RP_STATE 3 0 k else s

/-- The meaning of RP_DEVICE_FOUND (R81). -/
def execRpDeviceFound (k : Fin 2) (s : State) : Host.Outcome State Fault Refusal := .next (s.begin.refuseDevice k)

/-! ### Management interfaces (R82, R83, R86) -/

/-- Parameter A of a management interface's events (R92); CAN interfaces have numbers 0 and 1 (log 5). -/
def mgmtCode (n : Nat) : Nat := 0x600 + n % 256

/-- The PHY's negotiated speed changes: the MAC follows it (R82). -/
def State.mgmtLink (s : State) (v : Nat) : State :=
  if s.alive ∧ s.rd Dict.MANAGEMENT_MGMT_SPEED ≠ v then
    (s.wr Dict.MANAGEMENT_MGMT_SPEED v).raise Event.MGMT_LINK (mgmtCode (Config.interfaceNumber 0)) v
  else s

/-- The meaning of MGMT_LINK (R82): the speed as MGMT_SPEED codes it. -/
def execMgmtLink (v : Fin 4) (s : State) : Host.Outcome State Fault Refusal := .next (s.begin.mgmtLink v)

/-- CAN_STATE of one interface set (Table 3.10). -/
def State.setCanState (s : State) (i v : Nat) : State :=
  let old := s.rd Dict.MANAGEMENT_CAN_STATE
  s.wr Dict.MANAGEMENT_CAN_STATE (if i = 0 then old / 4 * 4 + v else old % 4 + 4 * v)

/-- CAN_STATE of one interface. -/
def State.canState (s : State) (i : Nat) : Nat := s.rd Dict.MANAGEMENT_CAN_STATE / 4 ^ i % 4

/-- A CAN interface goes bus-off; its session drops its rights (R83, R404). -/
def State.busOff (s : State) (i tec : Nat) : State :=
  if s.alive ∧ s.canState i ≠ 2 then
    let s := (s.setCanState i 2).modCan i (fun c => { c with offAt := s.now })
    (s.raise Event.CAN_BUS_OFF (mgmtCode i) tec).dropRights i 3
  else s

/-- The meaning of CAN_BUS_OFF (R83). -/
def execCanBusOff (can : Fin 2) (tec : Nat) (s : State) : Host.Outcome State Fault Refusal :=
  .next (s.begin.busOff can tec)

/-- Length of a bit at a rate, in ns, rounded down. -/
def bitTime (rate : Nat) : Nat := nsPerS / rate

/-- Bit timing of a CAN interface, in ns: nominal bit and its sample point, data bit and its sample point, and whether
transmitter delay compensation is on (R83). -/
def State.canTiming (s : State) (i : Nat) : List Nat :=
  let data := s.rd Dict.MANAGEMENT_CAN_DATA 0 i
  let nominal := bitTime (s.rd Dict.MANAGEMENT_CAN_NOMINAL 0 i)
  [nominal, nominal * s.rd Dict.MANAGEMENT_CAN_NOMINAL_SP / 1000,
   bitTime data, bitTime data * s.rd Dict.MANAGEMENT_CAN_DATA_SP / 1000, (decide (1000000 < data)).toNat]

/-- Whether a node that went bus-off may return: 128 times 11 recessive bits have passed (R83, ISO 11898-1). -/
def State.canRecovers (s : State) (i : Nat) : Bool :=
  decide ((s.canAt i).offAt + 128 * 11 * ((s.canTiming i)[0]?).getD 0 ≤ s.now)

/-- The error counters of a CAN interface move it between error-active and error-passive, at 128; from bus-off it
returns with both at zero (R83, ISO 11898-1, log 69). -/
def State.errorPassive (s : State) (i : Nat) (e : CanCounts) : State :=
  let was := s.canState i
  if s.alive = false then s
  else if was = 2 then (if e.transmit = 0 ∧ e.receive = 0 ∧ s.canRecovers i then s.setCanState i 0 else s)
  else if 128 ≤ e.transmit ∨ 128 ≤ e.receive then
    if was = 1 then s else (s.setCanState i 1).raise Event.CAN_ERROR_PASSIVE (mgmtCode i) e.transmit
  else s.setCanState i 0

/-- The meaning of CAN_ERROR_PASSIVE (R83): the error counters as they have become. -/
def execCanErrorPassive (can : Fin 2) (e : CanCounts) (s : State) : Host.Outcome State Fault Refusal :=
  .next (s.begin.errorPassive can e)

/-- Kind of a `WireItem.packet`: the bit timing that a CAN interface runs at from now on (R83). -/
abbrev packetCanTiming : Nat := 15

/-- The CAN interfaces take a bit timing that has changed (R83, R86). -/
def State.tellTiming (s : State) (was : List (List Nat)) : State :=
  [0, 1].foldl (fun s i => if was[i]? = some (s.canTiming i) then s
    else s.out (.packet packetCanTiming i ((s.canTiming i).flatMap (leBytes 4)))) s

/-- HALT fields of MANAGEMENT whose 100 ms have passed take effect (R86). -/
def State.applyMgmt (s : State) : State :=
  if s.alive then
    let due := s.mgmtWait.filter (fun e => decide (e.2.2 ≤ s.now))
    let s := { s with mgmtWait := s.mgmtWait.filter (fun e => decide (s.now < e.2.2)) }
    (due.foldl (fun s e => s.setReg e.1 e.2.1) s).tellTiming ([0, 1].map s.canTiming)
  else s

/-- The meaning of MGMT_HALT_APPLY (R86). -/
def execMgmtHaltApply (s : State) : Host.Outcome State Fault Refusal := .next s.begin.applyMgmt

end Sys2Proof.Machine
end

