-- ==== Sys2Proof/Machine/EngineFaults.lean ====
section
/-! DEFINITION. Faults of engines, their resets, and the pace criterion (R55, R186 to R188). -/
namespace Sys2Proof.Machine
open Sys2Proof

/-- The identification of a strip. -/
def Strip.id (a : Strip) : StripId := ⟨if a.kind = .compose then 0 else 1, a.owner, a.slot, a.index, a.firstLine⟩

/-- Whether an engine runs: it is neither retired nor in a reset. -/
def Engine.runs (g : Engine) : Bool := g.state != .retired && g.state != .resetting

/-- Engine `e` starts a reset: the copies it holds are abandoned, and it is RESETTING without credits (R186,
R187, log 19). -/
def State.resetEngine (s : State) (e cause : Nat) : State :=
  let held := (s.strips.filter (fun a => a.copies.any (·.engine == e))).map Strip.id
  let s := held.foldl (fun s i => s.loseCopy e i) s
  (s.modEngine e (fun g => { g with
    prior := g.state, state := .resetting, resetAt := s.now, resetCause := cause })).countEngines

/-- A line-store error: one bit is corrected in place and counted; two abandon the copy (R186, R380). -/
def State.eccError (s : State) (e entry : Nat) (i : StripId) (double : Bool) : State :=
  if s.alive ∧ (s.engineAt e).runs then
    if double then
      let s := s.modEngine e (fun g => { g with eccUncorrected := saturate 16 (g.eccUncorrected + 1) })
      let s := (s.raise Event.ENGINE_ECC_UNCORRECTED e entry).loseCopy e i
      (s.resetEngine e 2).fault 1 e
    else
      (s.modEngine e (fun g => { g with eccCorrected := saturate 32 (g.eccCorrected + 1) })).raise
        Event.ENGINE_ECC_CORRECTED e entry |>.fault 1 e
  else s

/-- The meaning of ENGINE_ECC_ERROR (R186). -/
def execEngineEccError (e : Fin 104) (i : StripId) (entry : Nat) (double : Bool) (s : State) :
    Host.Outcome State Fault Refusal :=
  .next (s.begin.eccError e entry i double)

/-- A datapath parity error abandons the copy and resets the engine (R186). -/
def State.parityError (s : State) (e : Nat) (i : StripId) (unit : Nat) : State :=
  if s.alive ∧ (s.engineAt e).runs then
    let s := s.modEngine e (fun g => { g with parity := saturate 16 (g.parity + 1) })
    let s := (s.raise Event.ENGINE_PARITY e unit).loseCopy e i
    (s.resetEngine e 3).fault 1 e
  else s

/-- The meaning of ENGINE_PARITY (R186): the unit as Table 6.11 numbers it. -/
def execEngineParity (e : Fin 104) (i : StripId) (unit : Nat) (s : State) : Host.Outcome State Fault Refusal :=
  .next (s.begin.parityError e i unit)

/-- When engine `e` started its copy of a strip, and the time the strip was expected to take. -/
def State.copyOf (s : State) (e : Nat) (i : StripId) : Option (Nat × Nat) :=
  match s.stripOf i with
  | some a => (a.copies.find? (·.engine == e)).map (fun c => (c.start, a.expected))
  | none => none

/-- A copy incomplete four times its expected time after it started is abandoned (R186). -/
def State.timeoutCopy (s : State) (e : Nat) (i : StripId) : State :=
  match s.copyOf e i with
  | some (start, expected) =>
    if s.alive ∧ (s.engineAt e).runs ∧ start + 4 * expected ≤ s.timebase then
      let s := s.modEngine e (fun g => { g with timeouts := saturate 16 (g.timeouts + 1) })
      let s := (s.raise Event.ENGINE_TIMEOUT e ((s.timebase - start) / 1000)).loseCopy e i
      (s.resetEngine e 4).fault 1 e
    else s
  | none => s

/-- The meaning of ENGINE_TIMEOUT (R186). -/
def execEngineTimeout (e : Fin 104) (i : StripId) (s : State) : Host.Outcome State Fault Refusal :=
  .next (s.begin.timeoutCopy e i)

/-- A reset completes: the engine is as it was before, with its credits (R186). -/
def State.endReset (s : State) (e : Nat) : State :=
  let g := s.engineAt e
  if s.alive ∧ g.state = .resetting then
    let s := s.putEngine e { g with state := g.prior, resetAt := 0, resets := saturate 16 (g.resets + 1) }
    s.countEngines.raise Event.ENGINE_RESET e g.resetCause
  else s

/-- The meaning of ENGINE_RESET (R186). -/
def execEngineReset (e : Fin 104) (s : State) : Host.Outcome State Fault Refusal := .next (s.begin.endReset e)

/-- An engine below 0.35 for 256 consecutive ticks is a permanent fault that no hold defers (R55, R382). -/
def State.paceFault (s : State) (e : Nat) : State :=
  if s.alive ∧ 256 ≤ (s.engineAt e).below ∧ (s.engineAt e).state ≠ .retired then s.hardFault 1 e 3 else s

/-- The meaning of ENGINE_PACE_FAULT (R55). -/
def execEnginePaceFault (e : Fin 104) (s : State) : Host.Outcome State Fault Refusal := .next (s.begin.paceFault e)

end Sys2Proof.Machine
end

