-- ==== Sys2Proof/Machine/EngineTables.lean ====
section
/-! DEFINITION. Coefficient banks, the LUT library and 3D LUTs, motion estimation and the engine counters
(R167 to R169, R182 to R184, R189 to R193). -/
namespace Sys2Proof.Machine
open Sys2Proof

/-! ### Tables (R168, R169, R190, R191) -/

/-- Whether every container of a bank is sign-extended from bit 11 and each phase sums to 1,024 (R168). -/
def bankValid (b : List Byte) : Bool :=
  (List.range 512).all (fun i => let v := leAt b (2 * i) 2; field v 15 12 == (if bit v 11 then 15 else 0))
    && (List.range 64).all (fun p =>
      (List.range 8).foldl (fun (a : Int) t => a + signed 16 (leAt b (16 * p + 2 * t) 2)) 0 == 1024)

/-- A BANK_DATA transfer into the bank that BANK_WINDOW names. -/
def State.loadBank (s : State) (sess : Nat) (b : List Byte) : Effect :=
  let k := s.window sess Dict.COEFF_BANKS_BANK_WINDOW
  let r := firstOf
    [(decide (k < 4), .rule 0x33), (bit (s.inUse.rd Dict.COEFF_BANKS_BANK_IN_USE) k, .rule 0x30),
     (!bankValid b, .rule 0x31)]
  match r with
  | some r => .refused r s
  | none =>
    let s := (s.putBank k b).wr Dict.COEFF_BANKS_BANK_LOADED
      (putBit (s.rd Dict.COEFF_BANKS_BANK_LOADED) k true)
    .done (s.raiseBy sess Event.COEFF_BANK_LOADED k 0)

/-- The meaning of BANK_DATA_WRITE (R168). -/
def execBankDataWrite (sess : Fin 12) (data : List Byte) (s : State) : Host.Outcome State Fault Refusal :=
  .next (s.begin.writeBlock sess Dict.COEFF_BANKS_BANK_DATA 0 0 data (fun s => s.loadBank sess data))

/-- A LUT_DATA transfer into the library entry that LUT_WINDOW names. -/
def State.loadLut (s : State) (sess : Nat) (b : List Byte) : Effect :=
  let k := s.window sess Dict.COLOUR_LUTS_LUT_WINDOW
  let r := firstOf
    [(decide (k < 8), .rule 0x33), (bit (s.inUse.rd Dict.COLOUR_LUTS_LUT_IN_USE) k, .rule 0x30)]
  match r with
  | some r => .refused r s
  | none =>
    let s := (s.putLut k b).wr Dict.COLOUR_LUTS_LUT_LOADED
      (putBit (s.rd Dict.COLOUR_LUTS_LUT_LOADED) k true)
    .done (s.raiseBy sess Event.LUT_LOADED (256 + k) 0)

/-- The meaning of LUT_DATA_WRITE (R191). -/
def execLutDataWrite (sess : Fin 12) (data : List Byte) (s : State) : Host.Outcome State Fault Refusal :=
  .next (s.begin.writeBlock sess Dict.COLOUR_LUTS_LUT_DATA 0 0 data (fun s => s.loadLut sess data))

/-- A LUT3D_DATA transfer into the 3D LUT that LUT3D_WINDOW names. -/
def State.loadLut3d (s : State) (sess : Nat) (b : List Byte) : Effect :=
  let k := s.window sess Dict.COLOUR_LUTS_LUT3D_WINDOW
  if bit (s.inUse.rd Dict.COLOUR_LUTS_LUT3D_STATE) (4 + k) then .refused (.rule 0x30) s
  else
    let s := (s.putLut3d k b).wr Dict.COLOUR_LUTS_LUT3D_STATE
      (putBit (s.rd Dict.COLOUR_LUTS_LUT3D_STATE) k true)
    .done (s.raiseBy sess Event.LUT_LOADED (512 + k) 0)

/-- The meaning of LUT3D_DATA_WRITE (R191). -/
def execLut3dDataWrite (sess : Fin 12) (data : List Byte) (s : State) : Host.Outcome State Fault Refusal :=
  .next (s.begin.writeBlock sess Dict.COLOUR_LUTS_LUT3D_DATA 0 0 data (fun s => s.loadLut3d sess data))

/-! ### Motion estimation (R182 to R184) -/

/-- The number of 16 × 16 blocks of a stored raster (R182). -/
def blockCount (r : Nat × Nat) : Nat := ceilDiv r.1 16 * ceilDiv r.2 16

/-- The earliest compose latch of a running canvas that needs the pair whose earlier frame has time `t`
(R180, R183). -/
def State.pairNeeded (s : State) (n t : Nat) : Option Nat :=
  ((s.canvasesNaming 1 n).filter s.canvasRuns).foldl (fun best c =>
    let l := s.nextBaseLatch c (max (t + s.targetDelay n c - 1) s.timebase)
    match best with | some b => some (min b l) | none => some l) none

/-- Work of an estimation strip of a given area: what MOTION costs beyond BLEND (R32, R183, log 13). -/
def estimateWork (area : Nat) : Nat := area * 216

/-- The estimation strips of a pair, 128 stored pixels wide (R183). -/
def State.estimateStrips (s : State) (n pair deadline : Nat) : List Strip :=
  let (w, h) := s.storedRaster n
  (List.range (ceilDiv w 128)).map (fun i =>
    Strip.fresh .estimate n (pair % 256) i 0 h deadline (estimateWork (min 128 (w - 128 * i) * h)) true)

/-- Strips of fields no longer held leave the queue. -/
def State.dropOldFields (s : State) (n : Nat) : State :=
  let held := (s.inputAt n).fields.map (fun f => f.pair % 256)
  { s with strips := s.strips.filter (fun a =>
      !(a.kind == .estimate && a.owner == n && !held.contains a.slot)) }

/-- The later frame of a pair has become available: its estimation strips are queued (R182, R183). -/
def State.startEstimation (s : State) (n : Nat) : State :=
  let i := s.inputAt n
  match i.frames with
  | b :: a :: _ =>
    match s.pairNeeded n a.time with
    | some l =>
      if s.alive ∧ s.flag Dict.INPUT_ENABLE n ∧ s.rd Dict.INPUT_TIMING_CLASS n = 2 ∧ s.conversionOf n = 2
        ∧ b.number = a.number + 1 ∧ i.estimateFrom ≤ b.number ∧ b.arrival ≤ s.timebase ∧ (i.fields.any (fun f => f.pair == b.number)) = false then
        let new : VectorField := ⟨b.number, false, false, [], s.rd Dict.ENGINE_POOL_MOTION_FALLBACK_MAD,
          s.rd Dict.ENGINE_POOL_MOTION_CUT_FRACTION⟩
        let s := (s.modInput n (fun i => { i with fields := (new :: i.fields).take 4 })).dropOldFields n
        s.enqueue (s.estimateStrips n b.number (l - 20000))
      else s
    | none => s
  | _ => s

/-- The meaning of MOTION_ESTIMATION_START (R182). -/
def execMotionEstimationStart (n : Fin 64) (s : State) : Host.Outcome State Fault Refusal :=
  .next (s.begin.startEstimation n)

/-- A vector within the search, in quarter pixels (R182). -/
def searchVector (x y : Int) : Int × Int := (clampInt (-512) 512 x, clampInt (-256) 256 y)

/-- Luma of a stored pixel in 1/64 of a 10-bit code: the stored code of Y, or that of RGB by COLORIMETRY (R182, R203). -/
def State.blockLuma (s : State) (n : Nat) (p : Px) : Int :=
  let unit := if s.rd Dict.INPUT_DEPTH n = 12 then 16 else 64
  if s.rd Dict.INPUT_SAMPLING n = 2 then (64 * keyLuma (s.rd Dict.INPUT_COLORIMETRY n) p : Nat)
  else (p.r / unit * unit : Nat)

/-- Whether block `k` of a pair has a mean absolute difference of luma above `limit` 10-bit code values at its best match:
the earlier frame against the later one displaced by the vector (R181, R182). -/
def State.blockMisses (s : State) (n limit : Nat) (a b : Raster) (k : Nat) (v : Int × Int) : Bool :=
  let x0 := 16 * (k % max 1 (ceilDiv a.width 16))
  let y0 := 16 * (k / max 1 (ceilDiv a.width 16))
  let xs := ((List.range 16).map (x0 + ·)).filter (fun x => decide (x < a.width))
  let ys := ((List.range 16).map (y0 + ·)).filter (fun y => decide (y < a.height))
  let sum := ys.foldl (fun t y => xs.foldl (fun t x =>
    t + (s.blockLuma n (a.at x y) - s.blockLuma n (b.quarter (4 * (x : Int) + v.1) (4 * (y : Int) + v.2))).natAbs) t) 0
  decide (limit * 64 * (xs.length * ys.length) < sum)

/-- The field that the blocks' best vectors make, and how many blocks fell back; a block without a vector does (R182). -/
def fieldOf (misses : Nat → Int × Int → Bool) (count : Nat) (found : List (Int × Int)) :
    Store (Int × Int × Bool) × Nat :=
  let blocks := ((List.range count).zip found).map (fun b =>
    let v := searchVector b.2.1 b.2.2
    (b.1, v, misses b.1 v))
  (blocks.foldl (fun m b =>
      Store.write (fun _ => ((0 : Int), (0 : Int), true)) m b.1 (b.2.1.1, b.2.1.2, b.2.2)) [],
    (blocks.filter (fun b => b.2.2)).length + (count - blocks.length))

/-- The two stored frames of a pair, blank where the store holds one no longer. -/
def State.pairFrames (s : State) (n pair : Nat) : Raster × Raster :=
  let get (k : Nat) : Raster :=
    (((s.inputAt n).frames.find? (fun f => f.number == k)).map (fun f => f.picture)).getD Raster.init
  (get (pair - 1), get pair)

/-- A pair's field is complete once all its strips are: blocks that fell back are judged (R182, R184, R189). -/
def State.endEstimation (s : State) (n : Nat) (found : List (Int × Int)) : State :=
  let strips := s.stripsOf StripKind.estimate n
  let finished (f : VectorField) : Bool :=
    let own := strips.filter (fun a => a.slot == f.pair % 256)
    !f.complete && !own.isEmpty && own.all (fun a => a.done)
  match (s.inputAt n).fields.find? finished with
  | some f =>
    if s.alive then
      let count := blockCount (s.storedRaster n)
      let (a, b) := s.pairFrames n f.pair
      let (vs, fell) := fieldOf (s.blockMisses n f.limit a b) count found
      let cut := decide (f.fraction * count < 100 * fell)
      let s := s.modInput n (fun i => { i with
        motionWaits := false
        fields := i.fields.map (fun g =>
          if g.pair = f.pair then { f with complete := true, cut := cut, vectors := vs } else g) })
      let s := { s with strips := s.strips.filter (fun a =>
        !(a.kind == StripKind.estimate && a.owner == n && a.slot == f.pair % 256)) }
      s.raiseIf cut Event.MOTION_FALLBACK n (100 * fell / max 1 count)
    else s
  | none => s

/-- The meaning of MOTION_ESTIMATION_DONE (R182): the best vector that the search found for each block, in quarter pixels
(log 65). -/
def execMotionEstimationDone (n : Fin 64) (found : List (Int × Int)) (s : State) :
    Host.Outcome State Fault Refusal := .next (s.begin.endEstimation n found)

/-! ### Counters (R189) -/

/-- Strip counters and the fault table cleared. -/
def State.clearEngines (s : State) : State :=
  let s := ((s.wr Dict.ENGINE_POOL_STRIPS_COMPLETED 0).wr Dict.ENGINE_POOL_STRIPS_REISSUED 0).wr
    Dict.ENGINE_POOL_STRIPS_RETRIED 0
  let s := s.wr Dict.ENGINE_POOL_STRIPS_ABANDONED 0
  allEngines.foldl (fun s e => s.modEngine e (fun g => { g with
    eccCorrected := 0, eccUncorrected := 0, parity := 0, timeouts := 0, resets := 0, strips := 0 })) s

/-- The meaning of CLEAR_COUNTERS (R189). -/
def execClearCounters (sess : Fin 12) (value : Nat) (s : State) : Host.Outcome State Fault Refusal :=
  .next (s.begin.writeScalar sess Dict.ENGINE_POOL_CLEAR_COUNTERS 0 0 value (fun s => .done s.clearEngines))

end Sys2Proof.Machine
end

