-- ==== Sys2Proof/Machine/Hentis.lean ====
section
/-! DEFINITION. The commands of the timing core (chapter 10). -/
namespace Sys2Proof.Machine
open Sys2Proof

/-- ENABLE of a candidate written 1 (R292, R297). -/
def State.enableRef (s : State) (n : Nat) : Effect :=
  match s.judgeRef n with
  | some r => .refused r s
  | none =>
    if s.flag Dict.REF_ENABLE n then .done s
    else
      let old := s.refAt n
      let s := s.putRef n { Ref.init with
        meanAtQual := old.meanAtQual, everQual := old.everQual, intervalAt := s.now, failedAt := s.now }
      let s := (s.wr Dict.REF_ENABLE 1 n).wr Dict.REF_FAIL_CAUSE 1 n
      let s := s.wr Dict.REF_PTP_PORT_STATE (if s.refType n = 7 then 1 else 0) n
      .done (s.setQual n 1)

/-- The meaning of REF_ENABLE (R297). -/
def execRefEnable (sess : Fin 12) (n : Fin 12) (s : State) : Host.Outcome State Fault Refusal :=
  .next (s.begin.writeScalar sess Dict.REF_ENABLE n 0 1 (fun s => s.enableRef n))

/-- ENABLE of a candidate written 0 (R297); a drift alarm in force ends (R296). -/
def State.disableRef (s : State) (n : Nat) : Effect :=
  let s := s.raiseIf (s.flag Dict.REF_DRIFT_ALARM n) Event.REF_DRIFT_ALARM_END n (param (ppb (s.rdInt Dict.REF_DRIFT n)))
  let s := s.modRef n (fun r => { r with alarmSince := 0, dwellSince := 0, failedAt := s.now, masters := [], chosen := 0 })
  let s := ((s.wr Dict.REF_ENABLE 0 n).wr Dict.REF_DRIFT_ALARM 0 n).wr Dict.REF_PTP_PORT_STATE 0 n
  let s := s.wr Dict.REF_FAIL_CAUSE 0 n
  .done (s.setQual n 0)

/-- The meaning of REF_DISABLE (R297). -/
def execRefDisable (sess : Fin 12) (n : Fin 12) (s : State) : Host.Outcome State Fault Refusal :=
  .next (s.begin.writeScalar sess Dict.REF_ENABLE n 0 0 (fun s => s.disableRef n))

/-- The meaning of REF_ACTIVITY_FAIL (R298). -/
def execRefActivityFail (n : Fin 12) (vertical : Bool) (age : Nat) (s : State) : Host.Outcome State Fault Refusal :=
  .next (s.begin.loseActivity n vertical age)

/-- The meaning of REF_GLITCH (R295). -/
def execRefGlitch (n : Fin 12) (interval : Nat) (s : State) : Host.Outcome State Fault Refusal :=
  .next (s.begin.glitch n interval)

/-- The meaning of MEASUREMENT_INTERVAL_END (R295). -/
def execMeasurementIntervalEnd (n : Fin 12) (m : RefMeasure) (s : State) : Host.Outcome State Fault Refusal :=
  .next (s.begin.measure n m)

/-- The meaning of REF_QUALIFIED (R297). -/
def execRefQualified (n : Fin 12) (s : State) : Host.Outcome State Fault Refusal := .next (s.begin.qualify n)

/-- The meaning of REF_SWITCH_DONE (R302). -/
def execRefSwitchDone (phase : Int) (s : State) : Host.Outcome State Fault Refusal := .next (s.begin.endSwitch phase)

/-- The meaning of HENTIS_LOCKED (R300). -/
def execHentisLocked (s : State) : Host.Outcome State Fault Refusal := .next s.begin.lockHentis

/-- Time in holdover reaches LIMIT (R300). -/
def State.expireHoldover (s : State) : State :=
  if s.dictUp ∧ s.rd Dict.HENTIS_STATE = 3 ∧ s.since s.hentis.holdSince (s.hentis.holdLimit * nsPerS) then
    let elapsed := (s.now + 1 - s.hentis.holdSince) / nsPerS
    (s.holdWord.setHentis 4).raise Event.HENTIS_LOST 2 elapsed
  else s

/-- The meaning of HENTIS_LOST (R300). -/
def execHentisLost (s : State) : Host.Outcome State Fault Refusal := .next s.begin.expireHoldover

/-- Each second the mean DCO word enters the history ring (R305, R319). -/
def State.appendHistory (s : State) : State :=
  let h := s.hentis
  if s.dictUp ∧ h.secondAt + nsPerS ≤ s.now then
    let sel := if s.rd Dict.HENTIS_LOOP_MODE = 0 then s.rd Dict.SELECTOR_SELECTED else 0xFF
    let e : HistEntry :=
      { word := if h.wordCount = 0 then s.dcoWord else h.wordSum / h.wordCount, opSeconds := s.life.opSeconds
        valid := h.secondClean && s.secondGood, locked := s.rd Dict.HENTIS_STATE == 2
        moving := s.switching || s.aligning, alarm := s.flag Dict.REF_DRIFT_ALARM sel, followed := sel
        endAt := s.now }
    { s with hentis := { h with
      history := (e :: h.history).take 1024, wordSum := 0, wordCount := 0, secondClean := s.secondGood
      secondAt := s.now } }
  else s

/-- The meaning of HOLDOVER_HISTORY_APPEND (R305). -/
def execHoldoverHistoryAppend (s : State) : Host.Outcome State Fault Refusal := .next s.begin.appendHistory

/-- The meaning of HOLDOVER_SLEW_DONE (R306). -/
def execHoldoverSlewDone (s : State) : Host.Outcome State Fault Refusal :=
  .next (if s.dictUp ∧ s.rd Dict.HENTIS_STATE = 3 ∧ s.hentis.slewTo = some s.dcoWord then s.begin.holdWord else s.begin)

/-- The meaning of LOOP_MODE_CHANGE (R314). -/
def execLoopModeChange (sess : Fin 12) (value : Nat) (s : State) : Host.Outcome State Fault Refusal :=
  .next (s.begin.writeScalar sess Dict.HENTIS_LOOP_MODE 0 0 value (fun s => s.writeLoopMode sess value))

/-- The meaning of STEER_FREQ (R314). -/
def execSteerFreq (sess : Fin 12) (value : Nat) (s : State) : Host.Outcome State Fault Refusal :=
  .next (s.begin.writeScalar sess Dict.HENTIS_STEER_FREQ 0 0 value (fun s => s.writeSteerFreq value))

/-- The meaning of STEER_PHASE (R314). -/
def execSteerPhase (sess : Fin 12) (value : Nat) (s : State) : Host.Outcome State Fault Refusal :=
  .next (s.begin.writeScalar sess Dict.HENTIS_STEER_PHASE 0 0 value (fun s => s.writeSteerPhase sess value))

/-- FORCE, REVERTIVE or a PRIORITY written: selection runs (R304). -/
def State.writeSelection (s : State) (key v : Nat) : Effect := .done (s.setReg key v).select

/-- The meaning of FORCE_WRITE (R304). -/
def execForceWrite (sess : Fin 12) (revertive : Bool) (value : Nat) (s : State) :
    Host.Outcome State Fault Refusal :=
  let e := if revertive then Dict.SELECTOR_REVERTIVE else Dict.SELECTOR_FORCE
  .next (s.begin.writeScalar sess e 0 0 value (fun s => s.writeSelection e.key value))

/-- The meaning of ALIGN (R310). -/
def execAlign (sess : Fin 12) (s : State) : Host.Outcome State Fault Refusal :=
  .next (s.begin.writeScalar sess Dict.HENTIS_ALIGN 0 0 1 (fun s => s.align sess))

/-- The meaning of ALIGN_END_SLEW (R312). -/
def execAlignEndSlew (sess : Fin 12) (s : State) : Host.Outcome State Fault Refusal :=
  .next (s.begin.writeScalar sess Dict.HENTIS_ALIGN 0 0 2 (fun s => .done s.endSlew))

/-- The meaning of SET (R313). -/
def execSet (sess : Fin 12) (value : Nat) (s : State) : Host.Outcome State Fault Refusal :=
  .next (s.begin.writeScalar sess Dict.TIMEBASE_SET 0 0 value (fun s => s.setTime sess))

/-- The meaning of ALIGN_JUMP (R311). -/
def execAlignJump (s : State) : Host.Outcome State Fault Refusal :=
  .next (if s.dictUp then s.begin.jumpIfDue else s.begin)

/-- The meaning of ALIGN_DONE (R312). -/
def execAlignDone (s : State) : Host.Outcome State Fault Refusal :=
  .next (if s.dictUp ∧ s.hentis.alignLeft = 0 then s.begin.endSlew else s.begin)

/-- The meaning of FTG_ENABLE (R308). -/
def execFtgEnable (sess : Fin 12) (n : Fin 8) (s : State) : Host.Outcome State Fault Refusal :=
  .next (s.begin.writeScalar sess Dict.FTG_ENABLE n 0 1 (fun s => s.enableFtg n))

/-- The meaning of FTG_DISABLE (R308). -/
def execFtgDisable (sess : Fin 12) (n : Fin 8) (s : State) : Host.Outcome State Fault Refusal :=
  .next (s.begin.writeScalar sess Dict.FTG_ENABLE n 0 0 (fun s => s.disableFtg n))

/-- The meaning of FTG_BASE_FRAME_START (R308). -/
def execFtgBaseFrameStart (n : Fin 8) (s : State) : Host.Outcome State Fault Refusal := .next (s.begin.ftgFrame n)

/-- The meaning of PTP_SYNC_RX (R293). -/
def execPtpSyncRx (n : Fin 12) (domain sender : Nat) (sync : PtpSync) (delay : Option Int) (s : State) :
    Host.Outcome State Fault Refusal :=
  .next (s.begin.takeSync n domain sender sync delay)

/-- The meaning of PTP_ANNOUNCE_RX (R293). -/
def execPtpAnnounceRx (n : Fin 12) (a : Announce) (s : State) : Host.Outcome State Fault Refusal :=
  .next (s.begin.takeAnnounce n a)

/-! ### Writes without a row of their own (R305, R315, R316) -/

/-- TYPE of a candidate written: BANDWIDTH and FREQ_WINDOW take its defaults (R316). -/
def State.writeRefType (s : State) (n v : Nat) : Effect :=
  .done (((s.wr Dict.REF_TYPE v n).wr Dict.REF_BANDWIDTH (refBandwidth v).1 n).wr Dict.REF_FREQ_WINDOW (refWindow v) n)

/-- BANDWIDTH or FREQ_WINDOW of a candidate written: in the type's range, and none while TYPE is 0 (R316). -/
def State.writeRefRange (s : State) (bandwidth : Bool) (n v : Nat) : Effect :=
  let (_, lo, hi) := refBandwidth (s.refType n)
  let e := if bandwidth then Dict.REF_BANDWIDTH else Dict.REF_FREQ_WINDOW
  .unless (s.refType n == 0 || (bandwidth && decide (v < lo ∨ hi < v))) (.plain 0x06090030 0x12) s (.done (s.wr e v n))

/-- WINDOW or GUARD of the holdover written (R305). -/
def State.writeHoldWindow (s : State) (e other : EntryDef) (v : Nat) : Effect :=
  .unless (decide (1024 < v + s.rd other)) (.rule 0x61) s (.done (s.wr e v))

/-- SLEW_LIMIT written: a slew in progress goes on at the new limit (R301, R315). -/
def State.writeSlewLimit (s : State) (v : Nat) : Effect :=
  let t := match s.hentis.slewTo with | some x => s.slewWord x | none => s
  .done (t.wr Dict.HENTIS_SLEW_LIMIT v)

/-! ### What the registers of this chapter read (R307, R314 to R320) -/

/-- FLAGS of Table 10.5. -/
def State.hentisFlags (s : State) : Nat :=
  let force := s.rd Dict.SELECTOR_FORCE
  s.switching.toNat + 2 * s.aligning.toNat + 4 * (s.rd Dict.HENTIS_LOOP_MODE == 1).toNat + 8 * s.hentis.firstLock.toNat
    + 16 * (force != 0xFF && s.rd Dict.REF_QUAL_STATE force != 3).toNat

/-- RANKING of Table 10.7. -/
def State.rankingWord (s : State) : Nat :=
  let l := s.ranking
  (List.range 12).foldl (fun v k => v + (l[k]?).getD 0xF * 16 ^ k) 0

/-- A PTP field of a candidate, which reads 0 for every other TYPE (R316). -/
def State.ptpOnly (s : State) (e : EntryDef) (n : Nat) : Nat := if s.refType n = 7 then s.rd e n else 0

/-- WTR_REMAINING in s, a started second counted (Table 10.6). -/
def State.wtrRemaining (s : State) (n : Nat) : Nat :=
  let r := s.refAt n
  if s.rd Dict.REF_QUAL_STATE n = 2 then ceilDiv (r.waitSince + r.wait * nsPerS - s.now) nsPerS else 0

/-- SLEW_REMAINING in Q32.16 ppb (Table 10.7). -/
def State.slewRemaining (s : State) : Nat :=
  match s.hentis.slewTo with | some t => (t - s.dcoWord).natAbs | none => 0

/-- The holdover value in use, or as it would be formed now, with the entries in it (Table 10.9). -/
def State.holdNow (s : State) : Option (Int × Nat) :=
  if s.rd Dict.HENTIS_STATE = 3 then some (s.hentis.holdValue, s.hentis.holdUsed)
  else s.holdValue (s.onset (s.rd Dict.SELECTOR_SELECTED))

/-- ELAPSED in s (R306). -/
def State.holdElapsed (s : State) : Nat :=
  let h := s.hentis
  if h.holdSince = 0 then 0
  else ((if s.rd Dict.HENTIS_STATE = 3 then s.now else h.holdEnd) + 1 - h.holdSince) / nsPerS

/-- The bytes of a HISTORY entry (R319). -/
def HistEntry.bytes (e : HistEntry) : List Byte :=
  leBytes 8 (unsigned 64 e.word) ++ leBytes 4 e.opSeconds
  ++ leBytes 1 (e.valid.toNat + 2 * e.locked.toNat + 4 * e.moving.toNat + 8 * e.alarm.toNat)
  ++ leBytes 1 e.followed ++ zeros 2

/-- HISTORY, entry 0 the newest; what has not been appended reads as zero (R319). -/
def State.historyBytes (s : State) : List Byte :=
  let b := s.hentis.history.flatMap HistEntry.bytes
  b ++ zeros (16384 - b.length)

end Sys2Proof.Machine
end

