-- ==== Sys2Proof/Machine/KeyStoreOps.lean ====
section
/-! DEFINITION. The key store: writing and erasing keys, slots that fail, the life-cycle and zeroisation (R435 to R451).
-/
namespace Sys2Proof.Machine
open Sys2Proof

/-! ### What follows from a change of usability (R437, R451) -/

/-- Whether the HDCP key set is usable: the slot in HDCP_WRAP_SLOT is a usable WRAP_ONLY AES-256 slot that holds the
key it was wrapped under (R451). -/
def State.hdcpUsable (s : State) : Bool :=
  let n := s.rd Dict.KEY_STORE_HDCP_WRAP_SLOT
  s.usable n && (s.namedSlot n).attr == 2 && (s.namedSlot n).algorithm == 1 && s.keyOf n == s.keys.hdcpWrap
    && !(s.keys.writing && s.keys.writingSlot == 72 && s.keys.writingSess == 0xFF)

/-- HDCP_STATE follows the key set; when it becomes unusable, no group stays authenticated (R451). -/
def State.judgeHdcp (s : State) : State :=
  let new := if s.keys.hdcpKeys = [] then 0 else if s.hdcpUsable then 1 else 2
  let old := s.rd Dict.KEY_STORE_HDCP_STATE
  let s := s.wr Dict.KEY_STORE_HDCP_STATE new
  if old = 1 ∧ new ≠ 1 then
    [0, 1, 2, 3].foldl (fun s g => if s.rd Dict.GROUP_PORT_HDCP_STATE g = 2 then s.restartHdcp g else s) s
  else s

/-- Every function that names a slot judges it again (R283, R404, R437, R451). -/
def State.judgeKeys (s : State) : State :=
  (List.range 12).foldl (fun s k =>
    let g := (s.sessAt k).grantSlot
    if g ≠ 0xFF ∧ s.usable g = false then s.dropRights k 5 else s) s.judgePtlKey.judgeHdcp

/-! ### Slots that fail (R438, R439) -/

/-- A slot's integrity tag fails: it becomes BAD and unusable, and the resilience logic is told; a spare slot that
fails is retired, with nothing to replace (R386, R438). -/
def State.failSlot (s : State) (n : Nat) : State :=
  let a := s.slotAt n
  if a.state = .bad then s
  else
    let idle := a.state == .spare
    let s := (s.putSlot n { a with state := .bad, key := [], wrapped := [], tag := [], incoming := none }).raise
      Event.KEY_SLOT_BAD n 0
    (s.hardFault 10 n (if idle then 5 else 2)).judgeKeys

/-- The slot in whose place the next write of number `n` takes a spare: the PATCH slot that failed, else `n` (R439). -/
def State.failedStorage (s : State) (n : Nat) : Nat :=
  ((List.range 72).find? (fun k => (s.slotAt k).state == .bad && (s.slotAt k).serves == n)).getD n

/-- The lowest-numbered free spare takes the place of the BAD slot `n` (R439). -/
def State.patchSlot (s : State) (n : Nat) : State :=
  match (s.freeSpares 10).head? with
  | none => s
  | some x =>
    let free := (s.freeSpares 10).length
    let failed := s.failedStorage n
    let s := s.putSlot failed { s.slotAt failed with serves := 0xFF }
    let s := s.putSlot x { Slot.init with state := .patch, serves := n, writes := (s.slotAt n).writes }
    let s := s.raise Event.KEY_SLOT_PATCHED n x
    ((s.setTaken (unitCode 10 x) (failed + 1)).noteExhausted 10 free).permanentOne 10 failed 2

/-! ### Writing keys (R442 to R447) -/

/-- The key check value of R444: the first 3 bytes, as bits 7:0, 15:8 and 23:16. -/
def keyCheck (algorithm : Nat) (key : List Byte) : Nat :=
  leNat ((if algorithm = 2 then hmac key (zeros 16)
    else aesBlock (if algorithm = 0 then key.take 16 else key) (zeros 16)).take 3)

/-- Whether a key write is an atomic replacement (R444): PROVISION, SERVICE, or a boot strap of RECOVERY or TEST. -/
def State.atomicKeys (s : State) : Bool :=
  s.keys.lifecycle == 1 || s.keys.lifecycle == 3 || field s.dev.straps 1 0 != 0

/-- The root that a write binds a slot to; none where the binding is not permitted (R443). -/
def State.bindRoot (s : State) (rank root : Nat) : Option Nat :=
  if root = 0 then (if s.activeRoot = 0 then none else some s.activeRoot)
  else match s.keys.lifecycle with
    | 1 => some root
    | 2 => if 3 ≤ rank ∧ 2 ≤ root then some root else none
    | 3 => if 3 ≤ rank ∧ 2 ≤ root then some root else none
    | _ => none

/-- Whether the key of number `n` wraps HDCP keys that are loaded (R447). -/
def State.wrapsHdcp (s : State) (n : Nat) : Bool :=
  n == s.rd Dict.KEY_STORE_HDCP_WRAP_SLOT && s.keys.hdcpKeys != [] && !(s.keyOf n).isEmpty

/-- Whether a slot refuses writes to its own number: a spare, or one that serves another (R439). -/
def State.spareOrPatch (s : State) (n : Nat) : Bool :=
  s.storageOf n == n && ((s.slotAt n).state == .spare || (s.slotAt n).serves != 0xFF)

/-- Rights that a write or erase of a slot needs for its present key (R443). -/
def State.presentOwner (s : State) (n : Nat) : Nat := if (s.keyOf n).isEmpty then 0 else (s.namedSlot n).owner

/-- What refuses a key write (R435, R439, R440, R443, R444, R446, R447, Table 16.8). -/
def State.judgeKeyWrite (s : State) (rank n : Nat) (key : List Byte) : Option Refuse :=
  let attr := s.rd Dict.KEY_SLOT_ATTRIBUTE n
  let alg := s.rd Dict.KEY_SLOT_ALGORITHM n
  let owner := s.rd Dict.KEY_SLOT_OWNER n
  let x := 0x3401 + n
  firstOf
    [(s.spareOrPatch n || ((s.namedSlot n).state == .bad && (s.freeSpares 10).isEmpty), .rule 0xA2),
     (s.floor || s.keys.writing, .rule 0xA3),
     ((s.bindRoot rank (s.rd Dict.KEY_SLOT_ROOT n)).isNone, .atField 0xA4 x 5),
     (decide (rank < s.presentOwner n) || (decide (rank < owner) && !(s.keys.lifecycle == 1 && rank == 2)),
       .atField 0xA0 x 4),
     ((attr == 3) != (alg == 2) || (alg == 0 && (key.drop 16).any (· != 0)), .atField 0xA8 x 3),
     (s.wrapsHdcp n, .rule 0xA6),
     (s.atomicKeys && keyCheck alg key != s.rd Dict.KEY_SLOT_KCV_EXPECTED n % 2 ^ 24, .atField 0xA1 x 6)]

/-- KEY written: the staged values and the key go to the slot; in FIELD it is LOADING until they are committed, and an
atomic replacement is answered once they are (R442, R444, R445). -/
def State.writeKey (s : State) (sess n : Nat) (key : List Byte) : Effect :=
  let rank := (s.sessAt sess).rights.rank
  match s.judgeKeyWrite rank n key with
  | some r => .refused r s
  | none =>
    let s := if (s.namedSlot n).state = .bad then s.patchSlot n else s
    let k := s.storageOf n
    let a := s.slotAt k
    let root := (s.bindRoot rank (s.rd Dict.KEY_SLOT_ROOT n)).getD 0
    let incoming := some (key, s.rd Dict.KEY_SLOT_ATTRIBUTE n, s.rd Dict.KEY_SLOT_ALGORITHM n,
      s.rd Dict.KEY_SLOT_OWNER n, root)
    let atomic := s.atomicKeys
    let s := s.putSlot k { a with
      incoming := incoming, former := a.state, state := if atomic then a.state else .loading }
    let s := { s with keys := { s.keys with
      writing := true, writingSlot := n, writingSess := if atomic then sess else 0xFF, writer := sess } }
    if atomic then .waits s else .done s.judgeKeys

/-- What refuses HDCP_KEYS (R444, R446, R451). -/
def State.judgeHdcpWrite (s : State) (data : List Byte) : Option Refuse :=
  let n := s.rd Dict.KEY_STORE_HDCP_WRAP_SLOT
  firstOf
    [(!(s.usable n && (s.namedSlot n).attr == 2 && (s.namedSlot n).algorithm == 1), .atField 0xA6 0x3400 7),
     (s.floor || s.keys.writing, .rule 0xA3),
     (s.atomicKeys && keyCheck 0 (data.take 16) != s.rd Dict.KEY_STORE_HDCP_KCV % 2 ^ 24, .atField 0xA1 0x3400 0x0A)]

/-- HDCP_KEYS written: wrapped under the wrap slot (R451); a direct write takes the former set out of use at once. -/
def State.writeHdcpKeys (s : State) (sess : Nat) (data : List Byte) : Effect :=
  match s.judgeHdcpWrite data with
  | some r => .refused r s
  | none =>
    let atomic := s.atomicKeys
    let s := { s with keys := { s.keys with
      writing := true, writingSlot := 72, writingSess := if atomic then sess else 0xFF, writer := sess
      hdcpIncoming := some (data, s.keyOf (s.rd Dict.KEY_STORE_HDCP_WRAP_SLOT)) } }
    if atomic then .waits s else .done s.judgeHdcp

/-- HDCP_WRAP_SLOT written: a slot that holds a key of another kind is refused (R450). -/
def State.writeWrapSlot (s : State) (v : Nat) : Effect :=
  Effect.unless (v != 0xFF && !(s.keyOf v).isEmpty && ((s.namedSlot v).attr != 2 || (s.namedSlot v).algorithm != 1))
    (.rule 0xA6) s (.done (s.wr Dict.KEY_STORE_HDCP_WRAP_SLOT v).judgeHdcp)

/-- Replacing or erasing the slot named in KEY_SLOT starts a rekey (R447). -/
def State.rekeyFor (s : State) (n : Nat) : State := if s.rd Dict.PTL_KEY_SLOT = n then s.startRekey else s

/-- Index of the entry whose key write is being committed: HDCP_KEYS or a slot (R444, R451). -/
def State.keyIndex (s : State) : Nat := if s.keys.writingSlot < 72 then 0x3401 + s.keys.writingSlot else 0x3400

/-- The write that waits is answered (R444). -/
def State.answerKeyWrite (s : State) : State :=
  let index := s.keyIndex
  let k := s.keys.writingSess
  let s := { s with keys := { s.keys with writing := false, writingSess := 0xFF } }
  if k = 0xFF then s else s.respond k index [] false

/-- A wrapped copy is committed in MRAM: the slot has its new key (R442, R444, R445, R451). -/
def State.commitKey (s : State) : State :=
  let s := s.actBy s.keys.writer
  let n := s.keys.writingSlot
  if n < 72 then
    let k := s.storageOf n
    let a := s.slotAt k
    match a.incoming with
    | none => s.answerKeyWrite
    | some (key, attr, alg, owner, root) =>
      let v := keyCheck alg key
      let new := { a with
        state := if a.serves = 0xFF then .loaded else .patch
        key := key, attr := attr, algorithm := alg, owner := owner, root := root, generation := s.keys.fuses
        kcv := v, writes := a.writes + 1, incoming := none }
      let s := s.putSlot k new.sealed
      (s.answerKeyWrite.raise Event.KEY_WRITTEN n v).judgeKeys.rekeyFor n
  else
    match s.keys.hdcpIncoming with
    | none => s.answerKeyWrite
    | some (data, wrap) =>
      let v := keyCheck 0 (data.take 16)
      let s := { s with keys := { s.keys with
        hdcpKeys := data, hdcpWrap := wrap, hdcpKcv := v, hdcpIncoming := none } }
      (s.answerKeyWrite.raise Event.HDCP_KEYS_LOADED (s.rd Dict.KEY_STORE_HDCP_WRAP_SLOT) v).judgeHdcp

/-- A write overtaken by the write floor is discarded: the slot keeps its former content (R446). -/
def State.abandonKeyWrite (s : State) : State :=
  if s.keys.writing then
    let n := s.keys.writingSlot
    let k := s.storageOf n
    let a := s.slotAt k
    let s := if n < 72 ∧ a.incoming.isSome then s.putSlot k { a with state := a.former, incoming := none } else s
    let sess := s.keys.writingSess
    let s := { s with keys := { s.keys with writing := false, writingSess := 0xFF, hdcpIncoming := none } }
    let s := if sess = 0xFF then s else s.abort sess s.keyIndex (.rule 0xA3)
    (s.raise Event.KEY_WRITE_ABANDONED n 0).judgeKeys
  else s

/-- ERASE written 1: the slot is emptied (R443, R446, R447). -/
def State.eraseKey (s : State) (sess n : Nat) : Effect :=
  match firstOf
    [(s.spareOrPatch n, .rule 0xA2),
     (s.floor || s.keys.writing, .rule 0xA3),
     (decide ((s.sessAt sess).rights.rank < s.presentOwner n), .rule 0xA0),
     (s.wrapsHdcp n, .rule 0xA6)] with
  | some r => .refused r s
  | none =>
    let k := s.storageOf n
    let a := s.slotAt k
    let st := if a.state = .bad then SlotState.bad else if a.serves = 0xFF then .empty else .patch
    let s := s.putSlot k { Slot.init with state := st, serves := a.serves, writes := a.writes }
    .done ((s.raise Event.KEY_ERASED n 0).judgeKeys.rekeyFor n)

/-! ### Zeroisation (R448, R449) -/

/-- The END fuse is programmed (R441, R449). -/
def State.reachEnd (s : State) (cause : Nat) : State :=
  let old := s.keys.lifecycle
  let s := { s with keys := { s.keys with lifecycle := 4, endFuse := true, transition := none } }
  if old = 4 then s
  else if s.alive then
    ((s.raise Event.LIFECYCLE_CHANGED 4 old).raise Event.KEY_STORE_END cause 0).dropAll 4
  else s

/-- The next generation fuse is programmed, or the END fuse when all 15 are (R448, R449). -/
def State.burnFuse (s : State) : State :=
  if s.keys.fuses < 15 then { s with keys := { s.keys with fuses := s.keys.fuses + 1 } } else s.reachEnd 2

/-- Every key is cleared from the cache and its wrap belongs to a past generation (R448). -/
def State.clearKeys (s : State) : State :=
  (List.range 72).foldl (fun s k =>
    let a := s.slotAt k
    if a.key.isEmpty ∧ a.wrapped.isEmpty ∧ a.incoming.isNone then s
    else s.putSlot k { a with key := [], incoming := none, state := if a.state = .bad then .bad else .stale }) s

/-- Zeroisation by the sources of a mask, none for a transition to END, whose own fuse serves where the 15 are used (R441,
R448); without a good TAMPER_CAP the fuse waits for the next start-up. -/
def State.zeroise (s : State) (cause : Nat) : State :=
  let sess := s.keys.writingSess
  let s := if s.keys.writing ∧ sess ≠ 0xFF then s.abort sess s.keyIndex (.rule 0xA3) else s
  let s := { s.clearKeys with keys := { s.clearKeys.keys with
    overwritePending := true, writing := false, writingSess := 0xFF, hdcpIncoming := none } }
  let s := s.judgeKeys
  let s := if s.flag Dict.KEY_STORE_TAMPER_CAP_OK then (if cause = 0 ∧ 15 ≤ s.keys.fuses then s else s.burnFuse)
    else { s with keys := { s.keys with markOverwrite := true } }
  let s := if cause = 0 then s
    else (s.wr Dict.KEY_STORE_LAST_TAMPER_S s.life.opSeconds).wr Dict.KEY_STORE_TAMPER_CAUSE cause
  s.raiseIf s.alive Event.TAMPER_ZEROISED cause s.keys.fuses

/-- The key cache at start-up: every slot whose tag holds is unwrapped, and one whose tag fails is BAD (R436, R438). -/
def State.unwrapKeys (s : State) (bad : List Nat) : State :=
  let held := s.keys.slots.map Prod.fst
  let failing := (List.range 72).filter (fun n => bad.contains n || (s.slotAt n).tagFails s.keys.fuses)
  let s := held.foldl (fun s n => s.putSlot n ((s.slotAt n).unsealed s.keys.fuses)) s
  failing.foldl State.failSlot s

/-- The MRAM copies of all slots are overwritten, and the slots are empty (R448). -/
def State.overwriteKeys (s : State) : State :=
  let s := (List.range 72).foldl (fun s k =>
    let a := s.slotAt k
    match a.state with
    | .stale => s.putSlot k { Slot.init with
        state := if a.serves = 0xFF then .empty else .patch, serves := a.serves, writes := a.writes }
    | _ => s) s
  let s := { s with keys := { s.keys with overwritePending := false, recorded := s.keys.fuses } }
  s.raise Event.KEY_OVERWRITE_DONE 72 0

/-- One tamper source is enabled (Table 16.6). -/
def State.tamperOn (s : State) (k : Nat) : Bool := bit (s.rd Dict.KEY_STORE_TAMPER_SOURCES) k

/-! ### The life-cycle (R440, R441) -/

/-- Whether Table 16.2 has a transition. -/
def lifecycleMoves (from_ to_ : Nat) : Bool :=
  (from_ == 1 && to_ == 2) || (from_ == 2 && to_ == 3) || (from_ == 3 && to_ == 2)
    || (to_ == 4 && 1 ≤ from_ && from_ ≤ 3)

/-- CHALLENGE read: a fresh value that serves one CONFIRM (R441). -/
def State.drawChallenge (s : State) : State :=
  let (b, s) := s.draw 4
  { s with keys := { s.keys with challenge := some (leNat b), challengeAt := s.now } }

/-- CONFIRM written: the transition to TARGET starts (R441, R446). -/
def State.confirmLifecycle (s : State) (v : Nat) : Effect :=
  let target := s.rd Dict.LIFECYCLE_TARGET
  let good := s.keys.challenge == some v && decide (s.now ≤ s.keys.challengeAt + 10 * nsPerS)
  let s := { s with keys := { s.keys with challenge := none } }
  match firstOf
    [(s.floor || s.keys.writing, .rule 0xA3),
     (!good || !s.standbyLike || s.keys.transition.isSome || !lifecycleMoves s.keys.lifecycle target, .rule 0xA5)] with
  | some r => .refused r s
  | none => .done { s with keys := { s.keys with transition := some target, writer := s.actor } }

/-- A transition completes (R441). -/
def State.completeLifecycle (s : State) : State :=
  let s := s.actBy s.keys.writer
  match s.keys.transition with
  | none => s
  | some 4 =>
    let s := { s with keys := { s.keys with transition := none } }
    ((s.zeroise 0).reachEnd 1).judgeKeys
  | some t =>
    let old := s.keys.lifecycle
    let s := { s with keys := { s.keys with lifecycle := t, transition := none } }
    ((s.raise Event.LIFECYCLE_CHANGED t old).dropAll 4).judgeKeys

end Sys2Proof.Machine
end

