-- ==== Sys2Proof/Machine/KeyStore.lean ====
section
/-! DEFINITION. The commands of the key store (R440 to R454). -/
namespace Sys2Proof.Machine
open Sys2Proof

/-- The meaning of KEY_WRITE (R442). -/
def execKeyWrite (sess : Fin 12) (n : Fin 72) (key : List Byte) (s : State) : Host.Outcome State Fault Refusal :=
  .next (s.begin.writeBlock sess Dict.KEY_SLOT_KEY n 0 key (fun s => s.writeKey sess n key))

/-- The meaning of KEY_ERASE (R454). -/
def execKeyErase (sess : Fin 12) (n : Fin 72) (value : Nat) (s : State) : Host.Outcome State Fault Refusal :=
  .next (s.begin.writeScalar sess Dict.KEY_SLOT_ERASE n 0 value (fun s => s.eraseKey sess n))

/-- The meaning of HDCP_KEYS_WRITE (R451). -/
def execHdcpKeysWrite (sess : Fin 12) (data : List Byte) (s : State) : Host.Outcome State Fault Refusal :=
  .next (s.begin.writeBlock sess Dict.KEY_STORE_HDCP_KEYS 0 0 data (fun s => s.writeHdcpKeys sess data))

/-- The meaning of KEY_COMMITTED (R445). -/
def execKeyCommitted (s : State) : Host.Outcome State Fault Refusal :=
  let s := s.begin
  .next (if s.dictUp ∧ s.keys.writing then s.commitKey else s)

/-- The meaning of LIFECYCLE_TARGET (R441): what the transition allows is judged at CONFIRM. -/
def execLifecycleTarget (sess : Fin 12) (value : Nat) (s : State) : Host.Outcome State Fault Refusal :=
  .next (s.begin.writeScalar sess Dict.LIFECYCLE_TARGET 0 0 value (fun s =>
    .done (s.wr Dict.LIFECYCLE_TARGET value)))

/-- The meaning of LIFECYCLE_CHALLENGE (R441): a read of CHALLENGE. -/
def execLifecycleChallenge (sess : Fin 12) (s : State) : Host.Outcome State Fault Refusal :=
  .next (s.begin.readScalar sess Dict.LIFECYCLE_CHALLENGE 0 0 (fun s => s.drawChallenge.keys.challenge.getD 0)
    State.drawChallenge)

/-- The meaning of LIFECYCLE_CONFIRM (R441). -/
def execLifecycleConfirm (sess : Fin 12) (value : Nat) (s : State) : Host.Outcome State Fault Refusal :=
  .next (s.begin.writeScalar sess Dict.LIFECYCLE_CONFIRM 0 0 value (fun s => s.confirmLifecycle value))

/-- The meaning of LIFECYCLE_CHANGED (R441, R446): below the write floor the transition waits. -/
def execLifecycleChanged (s : State) : Host.Outcome State Fault Refusal :=
  let s := s.begin
  .next (if s.dictUp ∧ !s.floor then s.completeLifecycle else s)

/-- The meaning of TAMPER_N_ASSERTED (R448), in every device state (R480); what follows is caused by the pin (R421). -/
def execTamperNAsserted (s : State) : Host.Outcome State Fault Refusal :=
  let s := s.begin
  .next (if s.tamperOn 0 then (s.actBy pinSource).zeroise 1 else s)

/-- The meaning of SUPPLY_GLITCH (R448): the detector is armed unless the write floor has been reached. -/
def execSupplyGlitch (s : State) : Host.Outcome State Fault Refusal :=
  let s := s.begin
  .next (if s.tamperOn 1 ∧ s.keys.glitchArmed then s.zeroise 2 else s)

/-- The meaning of TAMPER_TEMPERATURE (R448). -/
def execTamperTemperature (s : State) : Host.Outcome State Fault Refusal :=
  let s := s.begin
  .next (if s.tamperOn 2 then s.zeroise 4 else s)

/-- The meaning of KEY_OVERWRITE_DONE (R448): only above the write floor. -/
def execKeyOverwriteDone (s : State) : Host.Outcome State Fault Refusal :=
  let s := s.begin
  .next (if s.alive ∧ s.keys.overwritePending ∧ !s.floor then s.overwriteKeys else s)

/-- The meaning of TAMPER_CAP_LOW (R448). -/
def execTamperCapLow (s : State) : Host.Outcome State Fault Refusal :=
  let s := s.begin
  .next (if s.flag Dict.KEY_STORE_TAMPER_CAP_OK then
      (s.wr Dict.KEY_STORE_TAMPER_CAP_OK 0).raiseIf s.alive Event.TAMPER_CAP_LOW 0 0 else s)

end Sys2Proof.Machine
end

