-- ==== Sys2Proof/Machine/PocketOps.lean ====
section
/-! DEFINITION. The Pocket store: the clip directory, its bytes, allocation and captures (R365 to R372, R375). -/
namespace Sys2Proof.Machine
open Sys2Proof

/-! ### Directory entries (R367, R368) -/

/-- The bytes of a directory entry before its CRC (Table 12.7). -/
def Clip.body (c : Clip) : List Byte :=
  let e := c.extents.flatMap (fun x => leBytes 4 x.1 ++ leBytes 4 x.2)
  leBytes 1 c.state ++ leBytes 1 c.drive ++ leBytes 1 c.format ++ leBytes 1 c.colour ++ leBytes 2 c.width
  ++ leBytes 2 c.height ++ leBytes 4 c.rateNum ++ leBytes 4 c.rateDen ++ leBytes 4 c.frames ++ leBytes 4 c.frameBlocks
  ++ leBytes 1 c.audioChannels ++ zeros 3 ++ leBytes 4 c.audioRate ++ leBytes 8 (c.createdS % 2 ^ 48)
  ++ leBytes 4 c.generation ++ leBytes 2 c.extents.length ++ zeros 18 ++ (e ++ zeros (128 - e.length)) ++ zeros 60

/-- The 256 bytes of a directory entry (Table 12.7). -/
def Clip.bytes (c : Clip) : List Byte := c.body ++ leBytes 4 (crc32 c.body)

/-- The entry that 256 bytes spell; none where the CRC fails (R367). -/
def Clip.ofBytes (b : List Byte) : Option Clip :=
  if b.length = 256 ∧ crc32 (b.take 252) = leAt b 252 4 then
    some {
      state := byteAt b 0, drive := byteAt b 1, format := byteAt b 2, colour := byteAt b 3
      width := leAt b 4 2, height := leAt b 6 2, rateNum := leAt b 8 4, rateDen := leAt b 12 4
      frames := leAt b 16 4, frameBlocks := leAt b 20 4, audioChannels := byteAt b 24, audioRate := leAt b 28 4
      createdS := leAt b 32 8 % 2 ^ 48, generation := leAt b 40 4
      extents := (List.range (min 16 (leAt b 44 2))).map (fun i => (leAt b (64 + 8 * i) 4, leAt b (68 + 8 * i) 4)) }
  else none

/-- Sample frames that the frames of a clip carry at most (R368). -/
def soundRoom (audioRate num den : Nat) : Nat := ceilDiv (audioRate * den) (max 1 num)

/-- 4,096-byte blocks of one frame (R368). -/
def blocksPerFrame (format w h channels room : Nat) : Nat :=
  ceilDiv (h * roundUp (w * bytesPerPixel format) 64 + 4 + room * channels * 4) 4096

/-- Blocks of a 64 MiB allocation unit, and the block where unit 0 begins (R366). -/
abbrev unitBlocks : Nat := 16384

/-! ### Allocation (R366, R370) -/

/-- Allocation units of drive `k` (R365, R366). -/
def State.driveUnits (s : State) (k : Nat) : Nat := (s.rd Dict.POCKET_DRIVE_MANAGED 0 k / 4096 - unitBlocks) / unitBlocks

/-- The extents in use on a drive. -/
def State.driveExtents (s : State) (k : Nat) : List (Nat × Nat) :=
  (s.pocket.directory.filter (fun e => e.2.state != 0 && e.2.drive == k)).flatMap (fun e => e.2.extents)

/-- CLIPS, and DRIVE_FREE of the ready drives, as the directory gives them (R366, Table 12.10). -/
def State.countClips (s : State) : State :=
  let s := s.wr Dict.POCKET_CLIPS (s.pocket.directory.filter (fun e => e.2.state != 0)).length
  [0, 1].foldl (fun s k =>
    let used := (s.driveExtents k).foldl (fun r e => r + e.2) 0
    s.wr Dict.POCKET_DRIVE_FREE
      (if s.rd Dict.POCKET_DRIVE_STATE 0 k = 2 then (s.driveUnits k - used) * unitBlocks * 4096 else 0) 0 k) s

/-- A directory entry in force set. -/
def State.putClip (s : State) (k : Nat) (c : Clip) : State :=
  { s with pocket := { s.pocket with directory := Store.write (fun _ => Clip.init) s.pocket.directory k c } }

/-- A unit that no extent covers, the one at `want` first, then the lowest (log 29). -/
def State.freeUnit (s : State) (k want : Nat) : Option Nat :=
  let used := s.driveExtents k
  (want :: 0 :: used.map (fun e => e.1 + e.2)).foldl (fun r u =>
    if s.driveUnits k ≤ u ∨ used.any (fun e => decide (e.1 ≤ u ∧ u < e.1 + e.2)) then r
    else match r with
      | none => some u
      | some v => if v = want then r else some (min u v)) none

/-- A clip's extents with one more unit: the last one grows where it can, else one more of at most 16 (log 29). -/
def State.growClip (s : State) (c : Clip) : Option Clip :=
  let last := c.extents.getLast?.getD (0, 0)
  match s.freeUnit c.drive (last.1 + last.2) with
  | none => none
  | some u =>
    if c.extents ≠ [] ∧ u = last.1 + last.2 then
      some { c with extents := c.extents.dropLast ++ [(last.1, last.2 + 1)] }
    else if c.extents.length < 16 then some { c with extents := c.extents ++ [(u, 1)] }
    else none

/-- Room for `frames` frames of clip `k`, taken unit by unit; none where the drive is full. -/
def State.makeRoom (s : State) (k frames : Nat) : Nat → Option State
  | 0 => some s
  | fuel + 1 =>
    let c := s.clipAt k
    if frames * c.frameBlocks ≤ c.extents.foldl (fun r e => r + e.2) 0 * unitBlocks then some s
    else match s.growClip c with
      | none => none
      | some c => (s.putClip k c).makeRoom k frames fuel

/-- Whether the drives can be written: it is ready and non-volatile writes are not suspended (R371). -/
def State.driveReady (s : State) (k : Nat) : Bool := s.flag Dict.POCKET_ENABLE && s.rd Dict.POCKET_DRIVE_STATE 0 k == 2

/-- The copy of the clip directory that is not in force on drive `k` written, with the present generation and the CRC-32 of
its entries, and then a Flush; it is in force from then on (R366; what the CRC is taken over DESIGN CHOICE, log 29). -/
def State.writeDirectory (s : State) (k : Nat) : State :=
  let copy := 1 - Store.read (fun _ => 0) s.pocket.copyAt k
  let entries := (List.range 4096).flatMap (fun n => (s.clipAt n).bytes)
  let s := { s with pocket := { s.pocket with copyAt := Store.write (fun _ => 0) s.pocket.copyAt k copy } }
  (s.out (.nvme k (.directory (256 + 256 * copy) s.pocket.dirGen (crc32 entries) entries))).out (.nvme k .flush)

/-- The directory written, with the next generation, to every ready drive: both hold the whole of it (R366). -/
def State.writeDirectories (s : State) : State :=
  let s := { s with pocket := { s.pocket with dirGen := s.pocket.dirGen + 1 } }
  ([0, 1].filter (fun k => s.rd Dict.POCKET_DRIVE_STATE 0 k == 2)).foldl State.writeDirectory s

/-- An entry's update in two phases: with a new generation, on both drives; below the write floor it waits (R366,
R371). -/
def State.updateEntry (s : State) (k : Nat) : State :=
  let s := s.countClips
  if s.floor then
    if s.pocket.waiting.contains k then s
    else { s with pocket := { s.pocket with waiting := s.pocket.waiting ++ [k] } }
  else
    let c : Clip := { s.clipAt k with generation := (s.pocket.dirGen + 1) % 2 ^ 32 }
    (if c.state = 0 then s else s.putClip k c).writeDirectories

/-! ### Captures (R370, R371) -/

/-- What a capture takes from its source: format, colour, size and rate; none where the source cannot be captured
(R370). -/
def State.captureSource (s : State) (source clip : Nat) : Option Clip :=
  let n := source % 256
  if source / 256 = 1 ∧ n < 64 then
    if s.flag Dict.INPUT_ENABLE n ∧ s.rd Dict.INPUT_DEPTH n ≠ 12 then
      let (w, h) := s.storedRaster n
      some { Clip.init with
        format := 4
        colour := s.rd Dict.INPUT_COLORIMETRY n + 2 * s.rd Dict.INPUT_TRANSFER n + 8 * s.rd Dict.INPUT_RANGE n
          + (if s.rd Dict.INPUT_SAMPLING n = 2 then 0 else 16)
        width := w, height := h, rateNum := s.rd Dict.INPUT_RATE_NUM n, rateDen := s.rd Dict.INPUT_RATE_DEN n }
    else none
  else if source / 256 = 2 ∧ n < 16 then
    let d := s.dom Dict.CANVAS_WB_DESC (n / 2) (n % 2)
    let f := s.canvasFtg (n / 2)
    let t := s.rd Dict.COLOUR_LUTS_OUTPUT_TRANSFER 0 (n / 2)
    if byteAt d 0 = 3 ∧ leAt d 32 2 = clip then
      some { Clip.init with
        format := byteAt d 2
        colour := (if s.rd Dict.COLOUR_LUTS_TARGET_PRIMARIES 0 (n / 2) = 1 then 1 else 0)
          + 2 * (if t = 2 then 1 else if t = 3 then 2 else 0) + 8
        width := leAt d 8 2, height := leAt d 10 2
        rateNum := s.rd Dict.FTG_RATE_NUM f, rateDen := s.rd Dict.FTG_RATE_DEN f }
    else none
  else none

/-- Bytes per second that the captures claim of drive `k` (R369). -/
def State.writeClaim (s : State) (k : Nat) : Nat × Nat :=
  [0, 1].foldl (fun r j =>
    let c := s.captureAt j
    if c.clip ≠ 0 ∧ c.drive = k then addRate r (s.clipAt (c.clip - 1)).rateBytes else r) (0, 1)

/-- CAP_COMMAND[k] written 1 (R145, R369, R370). -/
def State.startCapture (s : State) (k : Nat) : Effect :=
  let source := s.rd Dict.POCKET_CAP_SOURCE 0 k
  let clip := s.rd Dict.POCKET_CAP_CLIP 0 k
  let drive := s.rd Dict.POCKET_CAP_DRIVE 0 k
  let audio := s.rd Dict.POCKET_CAP_AUDIO 0 k
  let first := audio / 256
  let count := audio % 256
  let found := s.captureSource source clip
  let f := found.getD Clip.init
  let room := if count = 0 then 0 else soundRoom s.matrixRate f.rateNum f.rateDen
  let feeds := ((List.range count).map (fun i => first + i)).findSome? (fun j => s.feedRefusal j (8, k))
  let c := { f with
    state := 2, drive := drive, audioChannels := count, audioRate := if count = 0 then 0 else s.matrixRate
    frameBlocks := blocksPerFrame f.format f.width f.height count room, createdS := s.tS }
  match firstOf
    [((s.captureAt k).clip != 0, .atField 0x12 0x3220 (0x28 + k)),
     ((s.clipAt clip).state != 0 || !s.driveReady drive, .atField 0x83 0x3220 (0x22 + k)),
     (found.isNone, .atField 0x82 0x3220 (0x20 + k)),
     (source / 256 == 1 && s.potentiallyProtected 1 (source % 256), .atField 0x16 0x3220 (0x20 + k)),
     (decide (16 < count ∨ 256 < first + count), .atField 0x12 0x3220 (0x26 + k)),
     (feeds.isSome, .atField (feeds.getD 0) 0x3220 (0x26 + k)),
     (overBudget (s.rd Dict.POCKET_WRITE_BUDGET 0 drive) (addRate (s.writeClaim drive) c.rateBytes),
       .atField 0x81 0x3220 (0x0A + drive))] with
  | some r => .refused r s
  | none =>
    let s := s.putClip clip c
    let s := ((s.makeRoom clip 1 1024).getD s).updateEntry clip
    let s := s.putCapture k { Capture.init with
      clip := clip + 1, source := source, drive := drive, first := first
      from_ := if source / 256 = 1 then s.timebase else 0 }
    let s := (s.wr Dict.POCKET_CAP_STATE 1 0 k).wr Dict.POCKET_CAP_FRAMES 0 0 k
    .done (s.raise Event.POCKET_CAPTURE_STARTED k clip)

/-- A capture ends: a last update of its entry, complete with the frames written (R370); `st` is what CAP_STATE
reads then. -/
def State.endCapture (s : State) (k frames st : Nat) : State :=
  let c := s.captureAt k
  if c.clip = 0 then s
  else
    let n := c.clip - 1
    let s := s.putClip n { s.clipAt n with frames := frames, state := 1 }
    let s := (s.updateEntry n).putCapture k Capture.init
    (s.wr Dict.POCKET_CAP_STATE st 0 k).raise Event.POCKET_CAPTURE_STOPPED k (st * 2 ^ 24 + frames % 2 ^ 24)

/-- Bytes of a captured picture's lines (R368, R370): an input's frame in 10 bits with full alpha, a write-back's as it
was reduced. -/
def captureLines (source format : Nat) (r : Raster) : List Byte :=
  let n := bytesPerPixel format
  let pad := roundUp (r.width * n) 64 - r.width * n
  (List.range r.height).flatMap (fun y =>
    (List.range r.width).flatMap (fun x =>
      let p := r.at x y
      leBytes n (if source / 256 = 1 then (⟨p.r / 64, p.g / 64, p.b / 64, 3⟩ : Px).encode 4 else p.encode format))
    ++ zeros pad)

/-- Bytes of a captured frame (R368): its picture, the count of its sample frames and their samples. -/
def captureBytes (source : Nat) (c : Clip) (f : Raster × List (List Int)) : List Byte :=
  captureLines source c.format f.1 ++ leBytes 4 f.2.length
  ++ f.2.flatMap (fun a => a.flatMap (fun v => leBytes 4 (unsigned 32 v)))

/-- The sample frames of a recorder's next frame, silent where none was captured, and those that are left, newest first
(R368, log 29). -/
def Capture.takeSound (c : Capture) (clip : Clip) : List (List Int) × List (List Int) :=
  let n := clip.soundCount c.written
  let mine := c.sound.reverse.take n
  (mine ++ List.replicate (n - mine.length) (List.replicate clip.audioChannels 0),
   c.sound.take (c.sound.length - mine.length))

/-- The Write commands for frame `f` of a clip: its bytes, filled with zeros to FRAME_BLOCKS, at block f × FRAME_BLOCKS of
its block space (R365, R368). -/
def State.writeBlocks (s : State) (c : Clip) (f : Nat) (bytes : List Byte) : State :=
  let bytes := bytes ++ zeros (c.frameBlocks * 4096 - bytes.length)
  ((c.place (f * c.frameBlocks) c.frameBlocks).foldl (fun (a : State × List Byte) e =>
    (a.1.out (.nvme c.drive (.write e.1 (a.2.take (e.2 * 4096)))), a.2.drop (e.2 * 4096))) (s, bytes)).1

/-- A captured frame's writes complete (R358, R370). -/
def State.frameWritten (s : State) (k : Nat) : State :=
  let c := s.captureAt k
  match c.queue with
  | [] => s
  | f :: rest =>
    let n := c.clip - 1
    match s.makeRoom n (c.written + 1) 1024 with
    | none => s.endCapture k c.written 4
    | some s =>
      let (sound, left) := c.takeSound (s.clipAt n)
      let bytes := (c.holes.filter (fun h => h.1 == c.written)).foldl (fun b h => blankWord b h.2)
        (captureBytes c.source (s.clipAt n) (f, sound))
      let s := s.writeBlocks (s.clipAt n) c.written bytes
      let s := s.countClips.putCapture k { c with
        queue := rest, submitted := c.submitted - 1, sound := left, written := c.written + 1
        holes := c.holes.filter (fun h => h.1 != c.written) }
      let s := s.wr Dict.POCKET_CAP_FRAMES (c.written + 1) 0 k
      if c.closed ∧ rest = [] then s.endCapture k (c.written + 1) 0 else s

/-- Every capture on drive `k`, or on any drive where `k` is 2, stops with cause 4 (R372, R375). -/
def State.stopCaptures (s : State) (k : Nat) : State :=
  [0, 1].foldl (fun s j =>
    let c := s.captureAt j
    if c.clip ≠ 0 ∧ (k = 2 ∨ c.drive = k) then s.endCapture j (if c.flushed then c.covered else c.written) 4 else s) s

/-- Writes resume: waiting updates are made, and each capture that the floor stopped ends with the frames its Flush
covered (R371). -/
def State.resumePocket (s : State) : State :=
  let s := [0, 1].foldl (fun s j =>
    let c := s.captureAt j
    if c.clip ≠ 0 then s.endCapture j c.covered 0 else s) s
  let w := s.pocket.waiting
  w.foldl State.updateEntry { s with pocket := { s.pocket with waiting := [] } }

/-! ### Drives (R365, R366, R372) -/

/-- A drive's number in players' clips: the players that use it judged again. -/
def State.judgePlayers (s : State) : State := (List.range 32).foldl State.judgePlayer s

/-- An entry of a directory copy taken: free where its CRC fails or FORMAT erased its drive; one found capturing that no
recorder captures is complete (R367, R371, R372). -/
def State.takeClip (s : State) (k n : Nat) (b : List Byte) : State :=
  match Clip.ofBytes b with
  | none => s.raise Event.POCKET_DIRECTORY_FAULT k n
  | some c =>
    let busy := [0, 1].any (fun j => (s.captureAt j).clip == n + 1)
    if s.pocket.formatted.contains c.drive then s
    else s.putClip n { c with state := if c.state = 2 ∧ !busy then 1 else c.state }

/-- The valid copy with the highest generation of a drive's copies, with its place among them (R366). -/
def bestCopy (l : List DirectoryCopy) : Option (DirectoryCopy × Nat) :=
  l.zipIdx.foldl (fun r c =>
    if c.1.valid = false then r
    else match r with
      | some b => if b.1.generation < c.1.generation then some c else r
      | none => some c) none

/-- The directory of a drive taken where it is the newest (R366). -/
def State.takeDirectory (s : State) (k : Nat) (copies : List DirectoryCopy) : State :=
  let s := (copies.filter (fun c => !c.valid)).foldl (fun s _ => s.raise Event.POCKET_DIRECTORY_FAULT k 0xFFFF) s
  match bestCopy copies with
  | none => s
  | some (c, _) =>
    if s.pocket.dirGen < c.generation then
      let s := { s with pocket := { s.pocket with directory := [], dirGen := c.generation } }
      (c.entries.filter (fun e => decide (e.1 < 4096))).foldl (fun s e => s.takeClip k e.1 e.2) s
    else s

/-- Each ready drive but one whose copies hold the directory in force is given it: drive `k` where its own are older, the
other where drive `k`'s are newer than the directory in force was (R366). -/
def State.shareDirectory (s : State) (k was : Nat) (copies : List DirectoryCopy) : State :=
  let mine := match bestCopy copies with | some (c, _) => c.generation | none => 0
  if mine < s.pocket.dirGen then s.writeDirectory k
  else if was < mine ∧ s.rd Dict.POCKET_DRIVE_STATE 0 (1 - k) = 2 then s.writeDirectory (1 - k)
  else s

/-- Drive `k` taken over: 8 I/O queue pairs of depth 256, the volatile write cache enabled, and both copies of the superblock
and of the directory read; of each the valid copy with the highest generation is in force (R365, R366). -/
def State.takeDrive (s : State) (k : Nat) (d : DriveFound) : State :=
  let s := (s.out (.nvme k (.setQueues 8))).out (.nvme k (.setWriteCache true))
  let s := (List.range 8).foldl (fun s i => s.out (.nvme k (.createQueue (i + 1) 256))) s
  let s := [(0, 1), (128, 1), (256, 512)].foldl (fun s (e : Nat × Nat) => s.out (.nvme k (.read e.1 e.2))) s
  let super := (d.supers.filter Prod.fst).foldl (fun g e => max g e.2) 0
  let copy := match bestCopy d.copies with | some (_, i) => i % 2 | none => 1
  { s with pocket := { s.pocket with
    queues := Store.write (fun _ => 0) s.pocket.queues k 8
    supers := Store.write (fun _ => 0) s.pocket.supers k super
    copyAt := Store.write (fun _ => 0) s.pocket.copyAt k copy } }

/-- The queue pairs of drive `k` given up (R365). -/
def State.leaveDrive (s : State) (k : Nat) : State :=
  let n := Store.read (fun _ => 0) s.pocket.queues k
  let s := (List.range n).foldl (fun s i => s.out (.nvme k (.deleteQueue (n - i)))) s
  { s with pocket := { s.pocket with queues := Store.write (fun _ => 0) s.pocket.queues k 0 } }

/-- The entries of formatted drives are freed in the directory of both drives, once one has been taken (R372). -/
def State.dropFormatted (s : State) (k : Nat) (copies : List DirectoryCopy) : State :=
  let gone := copies.any (fun c => c.entries.any (fun e =>
    match Clip.ofBytes e.2 with | some c => s.pocket.formatted.contains c.drive | none => false))
  if gone && decide (s.pocket.formatted ≠ []) && s.rd Dict.POCKET_DRIVE_STATE 0 k == 2 && !s.floor then
    { s with pocket := { s.pocket with formatted := [] } }.writeDirectories
  else s

/-- Drive `k` is brought up (R365, R366). -/
def State.driveUp (s : State) (k : Nat) (d : DriveFound) : State :=
  if s.dictUp ∧ s.flag Dict.POCKET_ENABLE ∧ bit (s.rd Dict.PCIE_RP_ENABLE) k
      ∧ s.rd Dict.POCKET_DRIVE_STATE 0 k ≠ 2 then
    if d.blocksFit = false then s.wr Dict.POCKET_DRIVE_STATE 3 0 k
    else
      let managed := min (d.blocks * 4096) (2 ^ 45)
      let t := (s.takeDrive k d).takeDirectory k d.copies
      let s := (t.shareDirectory k s.pocket.dirGen d.copies).wr Dict.POCKET_DRIVE_STATE 2 0 k
      let s := s.dropFormatted k d.copies
      let s := ((s.wr Dict.PCIE_RP_STATE 2 0 k).wr Dict.POCKET_DRIVE_MANAGED managed 0 k).countClips.judgePlayers
      s.raise Event.POCKET_DRIVE_UP k (managed / 2 ^ 30)
  else s

/-- Drive `k` fails (R372): players on it have a read fault, recorders on it stop. -/
def State.driveDown (s : State) (k : Nat) (link : Bool) (status : Nat) : State :=
  let st := s.rd Dict.POCKET_DRIVE_STATE 0 k
  if s.dictUp ∧ (st = 1 ∨ st = 2) then
    let s := s.stopCaptures k
    let s := s.wr Dict.POCKET_DRIVE_STATE 4 0 k
    let s := { s with pocket := { s.pocket with queues := Store.write (fun _ => 0) s.pocket.queues k 0 } }
    let s := if link then s.wr Dict.PCIE_RP_STATE 0 0 k else s
    let s := s.countClips.raise Event.POCKET_DRIVE_DOWN k status
    ((List.range 32).filter (fun n => s.flag Dict.POCKET_PLAYER_ENABLE n && s.playerUses n k)).foldl
      (fun s n => s.readFaultOf n k) s |>.judgePlayers
  else s

/-- ENABLE of the Pocket store written (R365, R366, R375). -/
def State.enablePocket (s : State) (v : Nat) : Effect :=
  if s.rd Dict.POCKET_ENABLE = v then .done s
  else if v = 1 then
    let s := { s with pocket := { s.pocket with directory := [], dirGen := 0 } }
    let s := [0, 1].foldl (fun s k =>
      if bit (s.rd Dict.PCIE_RP_ENABLE) k then
        let s := (s.wr Dict.POCKET_DRIVE_STATE 1 0 k).out (.nvme k .identify)
        -- its root port looks for the drive (R90, log 69)
        if s.rd Dict.PCIE_RP_STATE 0 k = 2 then s else s.wr Dict.PCIE_RP_STATE 1 0 k
      else s) s
    .done ((s.wr Dict.POCKET_ENABLE 1).countClips.judgePlayers)
  else
    let s := [0, 1].foldl State.leaveDrive ((s.stopCaptures 2).wr Dict.POCKET_ENABLE 0)
    let s := { s with pocket := { s.pocket with directory := [], dirGen := 0, waiting := [] } }
    let s := [0, 1].foldl (fun s k => (s.wr Dict.POCKET_DRIVE_STATE 0 0 k).wr Dict.POCKET_DRIVE_MANAGED 0 0 k) s
    .done (s.countClips.judgePlayers)

/-- Whether clip `n` is in use by a recorder or a player (Table 12.10). -/
def State.clipInUse (s : State) (n : Nat) : Bool :=
  [0, 1].any (fun j => (s.captureAt j).clip == n + 1)
    || (List.range 32).any (fun p => s.poolAt (poolPlayer p) != 0
        && (s.rd Dict.POCKET_PLAYER_CLIP p == n || s.playerLive p 0 == n))

/-- CLIP_DELETE written (R371). -/
def State.deleteClip (s : State) (n : Nat) : Effect :=
  match firstOf
    [(s.floor || s.clipInUse n, .rule 0x84),
     ((s.clipAt n).state != 0 && !s.driveReady (s.clipAt n).drive, .rule 0x83)] with
  | some r => .refused r s
  | none => .done (if (s.clipAt n).state = 0 then s else (s.putClip n Clip.init).updateEntry n)

/-- FORMAT written: the selected drives lose every clip, and their entries are freed in the directory of both drives when it
is next taken (R371, R372). -/
def State.formatDrives (s : State) (v : Nat) : Effect :=
  if s.floor ∨ s.flag Dict.POCKET_ENABLE then .refused (.rule 0x84) s
  else
    .done ((bitsSet v 2).foldl (fun s k =>
      let s := { s with pocket := { s.pocket with
        directory := s.pocket.directory.filter (fun e => e.2.drive != k)
        formatted := k :: s.pocket.formatted.filter (· != k) } }
      s.countClips.out (.nvme k (.formatNvm 4096))) s)

end Sys2Proof.Machine
end

