-- ==== Sys2Proof/Machine/Pocket.lean ====
section
/-! DEFINITION. The commands of the Pocket store (R365 to R372, R375). -/
namespace Sys2Proof.Machine
open Sys2Proof

/-- The meaning of POCKET_ENABLE (R365). -/
def execPocketEnable (sess : Fin 12) (value : Nat) (s : State) : Host.Outcome State Fault Refusal :=
  .next (s.begin.writeScalar sess Dict.POCKET_ENABLE 0 0 value (fun s => s.enablePocket value))

/-- The meaning of POCKET_DRIVE_UP (R366). -/
def execPocketDriveUp (k : Fin 2) (d : DriveFound) (s : State) : Host.Outcome State Fault Refusal :=
  .next (s.begin.driveUp k d)

/-- The meaning of POCKET_DRIVE_DOWN (R372): a third command failed in succession, or the link dropped. -/
def execPocketDriveDown (k : Fin 2) (link : Bool) (status : Nat) (s : State) : Host.Outcome State Fault Refusal :=
  .next (s.begin.driveDown k link status)

/-- Whether a source, as CAP_SOURCE codes it, delivers frames: an input that is PRESENT or DEGRADED, or a canvas that runs
(R370). -/
def State.captureRuns (s : State) (source : Nat) : Bool :=
  if source / 256 = 1 then s.inputDelivers (source % 256) else s.canvasRuns (source % 256 / 2)

/-- CAP_COMMAND[k] written: 2 ends the capture at the next frame boundary, at once where nothing is in progress (R370,
log 29). -/
def State.captureCommand (s : State) (k v : Nat) : Effect :=
  if v = 1 then s.startCapture k
  else
    let c := s.captureAt k
    if c.clip = 0 ∨ c.flushed ∨ c.stopping then .done s
    else if c.queue = [] ∧ s.captureRuns c.source = false then .done (s.endCapture k c.written 0)
    else .done ((s.putCapture k { c with stopping := true, closed := !s.captureRuns c.source }).wr Dict.POCKET_CAP_STATE 2 0 k)

/-- The meaning of CAPTURE_START (R370). -/
def execCaptureStart (sess : Fin 12) (k : Fin 2) (s : State) : Host.Outcome State Fault Refusal :=
  .next (s.begin.writeScalar sess Dict.POCKET_CAP_COMMAND 0 k 1 (fun s => s.captureCommand k 1))

/-- The meaning of CAPTURE_STOP (R370). -/
def execCaptureStop (sess : Fin 12) (k : Fin 2) (s : State) : Host.Outcome State Fault Refusal :=
  .next (s.begin.writeScalar sess Dict.POCKET_CAP_COMMAND 0 k 2 (fun s => s.captureCommand k 2))

/-- A captured frame's writes complete, or they are found to be late: two frames behind they stop the capture (R370).
Below the write floor those already submitted complete (R371). -/
def State.captureWritten (s : State) (k : Nat) (done : Bool) : State :=
  let c := s.captureAt k
  if s.dictUp ∧ c.clip ≠ 0 ∧ !c.flushed ∧ (!s.floor ∨ 0 < c.submitted) then
    if done then s.frameWritten k
    else if 2 ≤ c.queue.length then s.endCapture k c.written 4 else s
  else s

/-- The meaning of CAPTURE_FRAME_WRITTEN (R370). -/
def execCaptureFrameWritten (k : Fin 2) (done : Bool) (s : State) : Host.Outcome State Fault Refusal :=
  .next (s.begin.captureWritten k done)

/-- A checkpoint of a running capture: a Flush, then FRAMES of its entry (R370). -/
def State.captureCheckpoint (s : State) (k : Nat) : State :=
  let c := s.captureAt k
  if s.dictUp ∧ c.clip ≠ 0 ∧ !c.flushed ∧ !s.floor ∧ c.covered + s.rd Dict.POCKET_DIR_CHECKPOINT ≤ c.written then
    let n := c.clip - 1
    let s := (s.out (.nvme c.drive .flush)).putCapture k { c with covered := c.written }
    (s.putClip n { s.clipAt n with frames := c.written }).updateEntry n
  else s

/-- The meaning of CAPTURE_CHECKPOINT (R370). -/
def execCaptureCheckpoint (k : Fin 2) (s : State) : Host.Outcome State Fault Refusal :=
  .next (s.begin.captureCheckpoint k)

/-- A recorder's Flush at the write floor, which it issues once the writes submitted have completed, completes (R371). -/
def State.captureFlushed (s : State) (k : Nat) : State :=
  let c := s.captureAt k
  if s.dictUp ∧ c.clip ≠ 0 ∧ !c.flushed ∧ s.floor ∧ c.submitted = 0 then
    let s := (s.out (.nvme c.drive .flush)).putCapture k { c with flushed := true, covered := c.written, queue := [], sound := [] }
    (s.wr Dict.POCKET_CAP_STATE 3 0 k).raise Event.POCKET_FLUSH (2 ^ k) c.written
  else s

/-- The meaning of POCKET_FLUSH (R371). -/
def execPocketFlush (k : Fin 2) (s : State) : Host.Outcome State Fault Refusal := .next (s.begin.captureFlushed k)

/-- The meaning of CLIP_DELETE (R371). -/
def execClipDelete (sess : Fin 12) (value : Nat) (s : State) : Host.Outcome State Fault Refusal :=
  .next (s.begin.writeScalar sess Dict.POCKET_CLIP_DELETE 0 0 value (fun s => s.deleteClip value))

/-- The meaning of POCKET_FORMAT (R371, R372). -/
def execPocketFormat (sess : Fin 12) (value : Nat) (s : State) : Host.Outcome State Fault Refusal :=
  .next (s.begin.writeScalar sess Dict.POCKET_FORMAT 0 0 value (fun s => s.formatDrives value))

end Sys2Proof.Machine
end

