-- ==== Sys2Proof/Machine/SaveOps.lean ====
section
/-! DEFINITION. Saving the configuration and restoring defaults (R399, R405 to R408). -/
namespace Sys2Proof.Machine
open Sys2Proof

/-- The signatures of 0x1010 and 0x1011 (R405, R408). -/
abbrev saveSignature : Nat := 0x65766173
/-- "load". -/
abbrev loadSignature : Nat := 0x64616F6C

/-- Whether an index lies in the scope of a sub-index of 0x1010 or 0x1011 (R405). -/
def saveScope (sub index : Nat) : Bool :=
  match sub with
  | 1 => true
  | 2 => decide (0x1000 ≤ index ∧ index < 0x2000)
  | _ => decide (0x2000 ≤ index)

/-- Whether the register of a key is saved. -/
def keySaved (key : Nat) : Bool :=
  match entryAt (key / 256) (key % 256) with
  | some e => e.saved
  | none => false

/-- Saved registers of a table within a scope. -/
def savedPart (sub : Nat) (m : Store α) : Store α :=
  m.filter (fun e => saveScope sub (e.1 / 256) && keySaved e.1)

/-- A table within a scope, else as the copy in force has it. -/
def byScope (sub index : Nat) (now before : Store α) : Store α := if saveScope sub index then now else before

/-- The copy in force: the valid one with the higher generation; an invalid one where there is none (R405, R486). -/
def State.savedInForce (s : State) : SavedCopy :=
  if s.copy0.valid ∧ (s.copy1.valid = false ∨ s.copy1.generation ≤ s.copy0.generation) then s.copy0
  else if s.copy1.valid then s.copy1
  else SavedCopy.init

/-- Calibration entries that VALID tile-map entries name (R406). -/
def State.namedCalibs (s : State) : List Nat :=
  (s.tileMap.filter (fun e => (TileEntry.ofBytes e.2).valid)).map (fun e => (TileEntry.ofBytes e.2).calib)

/-- The values in force, in scope, over the copy in force (R127, R399, R405, R406, log 32). -/
def State.snapshot (s : State) (sess sub : Nat) : SavedCopy :=
  let c := s.savedInForce
  let kept (m : Store Nat) : Store Nat := m.filter (fun e => !saveScope sub (e.1 / 256))
  let keptD (m : Store (List Byte)) : Store (List Byte) := m.filter (fun e => !saveScope sub (e.1 / 256))
  let named := s.namedCalibs
  { valid := true, generation := c.generation + 1
    regs := (savedPart sub s.regs).foldl (fun m e => Store.put m e.1 e.2) (kept c.regs)
    doms := (savedPart sub s.doms).foldl (fun m e => Store.put m e.1 e.2) (keptD c.doms)
    minSeverity := if saveScope sub 0x2020 then (s.sessAt sess).minSeverity else c.minSeverity
    routes := byScope sub 0x2500 (s.routes.filter (fun e => (Route.ofBytes e.2).valid)) c.routes
    tileMap := byScope sub 0x2E00 (s.tileMap.filter (fun e => (TileEntry.ofBytes e.2).valid)) c.tileMap
    calib := byScope sub 0x2E20 (s.calib.filter (fun e => named.contains e.1)) c.calib
    banks := byScope sub 0x2610 s.banks c.banks
    luts := byScope sub 0x2620 s.luts c.luts
    luts3d := byScope sub 0x2620 s.luts3d c.luts3d
    imageDesc := byScope sub 0x2850 s.imageDesc c.imageDesc
    imageData := byScope sub 0x2850 s.imageData c.imageData
    imageCrc := byScope sub 0x2850 s.imageCrc c.imageCrc
    channelTable := byScope sub 0x3010 s.channelTable c.channelTable
    streamTable := byScope sub 0x3010 s.streamTable c.streamTable }

/-- Runs of equal pixels of an image, each of 4 bytes (R406). -/
def pixelRuns : Option (List Byte) → List (List Byte) → Nat
  | _, [] => 0
  | last, p :: l => (if last = some p then 0 else 1) + pixelRuns (some p) l

/-- Bytes of a table's entries. -/
def tableBytes (m : Store (List Byte)) : Nat := m.foldl (fun r e => r + e.2.length) 0

/-- Size of a copy (R406): what its tables and runs hold, and what its layout adds (log 32). -/
def SavedCopy.size (c : SavedCopy) : Nat :=
  let tables := [c.doms, c.routes, c.tileMap, c.calib, c.banks, c.luts, c.luts3d, c.imageDesc, c.channelTable,
    c.streamTable]
  let runs := c.imageData.foldl (fun r e => r + pixelRuns none (chunks 4 e.2.length e.2)) 0
  tables.foldl (fun r m => r + tableBytes m) 0 + 4 * runs
    + Config.copyOverhead c.regs.length (tables.foldl (fun r m => r + m.length) 0) runs

/-- A write of 0x1010 (R405 to R407): the values in force are staged, and the answer waits for the verification. -/
def State.store (s : State) (sess sub v : Nat) : Effect :=
  let c := s.snapshot sess sub
  match firstOf
    [(v != saveSignature, .plain 0x08000020 0),
     (s.floor || s.staging.isSome, .plain 0x08000021 0xB4),
     (decide (3145728 < c.size), .rule 0xB5)] with
  | some r => .refused r s
  | none => .waits { s with staging := some c, stagingSess := sess }

/-- The save is over. -/
def State.endStaging (s : State) : State := { s with staging := none, stagingSess := 0 }

/-- The staged copy has been written to the older copy: marked valid once verified, and answered (R405, R408). -/
def State.finishStore (s : State) (verified : Bool) : State :=
  match s.staging with
  | none => s
  | some c =>
    let sess := s.stagingSess
    let s := s.endStaging
    let older0 := s.copy0.valid = false ∨ (s.copy1.valid ∧ s.copy0.generation < s.copy1.generation)
    if verified then
      let s := if older0 then { s with copy0 := c } else { s with copy1 := c }
      let s := { s with dev := { s.dev with restoreMarker := [] } }
      let s := (s.wr Dict.MANAGEMENT_STORE_BYTES c.size).wr Dict.MANAGEMENT_STORE_STATE 0
      (s.raiseBy sess Event.STORE_DONE c.generation c.size).respond sess 0x1010 [] false
    else
      let bad := { c with valid := false }
      let s := s.wr Dict.MANAGEMENT_STORE_STATE 3
      let s := if older0 then { s with copy0 := bad } else { s with copy1 := bad }
      (s.raiseBy sess Event.STORE_FAILED 2 s.savedInForce.generation).abort sess 0x1010 (.plain 0x08000020 0)

/-- A save overtaken by the write floor is abandoned (R407). -/
def State.abandonStore (s : State) : State :=
  if s.staging.isSome then
    let sess := s.stagingSess
    ((s.endStaging.wr Dict.MANAGEMENT_STORE_STATE 3).raise Event.STORE_FAILED 1 s.savedInForce.generation).abort sess 0x1010 (.plain 0x08000021 0xB4)
  else s

/-- A write of 0x1011 (R408): a restore marker for the next release of PORST_N. -/
def State.restore (s : State) (sub v : Nat) : Effect :=
  match firstOf
    [(v != loadSignature, .plain 0x08000020 0),
     (s.floor, .plain 0x08000021 0xB4),
     (sub != 2 && !s.overcoatOpen, .rule 0x40)] with
  | some r => .refused r s
  | none =>
    .done ({ s with dev := { s.dev with restoreMarker := s.dev.restoreMarker ++ [sub] } }.raise
      Event.RESTORE_ARMED sub 0)

end Sys2Proof.Machine
end

