-- ==== Sys2Proof/Machine/RecorderOps.lean ====
section
/-! DEFINITION. The recorder, sealed exports, lifetime data and the write floor (R457 to R471). -/
namespace Sys2Proof.Machine
open Sys2Proof

/-! ### Records (R457, R461) -/

/-- Bytes 0 to 17 of a record (Table 17.1). -/
def Rec.head (r : Rec) : List Byte :=
  leBytes 4 r.seq ++ leBytes 2 r.code ++ leBytes 1 r.source
  ++ leBytes 1 (r.severity * 32 + r.deferred.toNat + 2 * r.saturated.toNat + 4 * r.synthesised.toNat)
  ++ leBytes 4 r.firstS ++ leBytes 4 r.cycles ++ leBytes 2 r.rep

/-- Bytes 20 to 31 of a record. -/
def Rec.tail (r : Rec) : List Byte := leBytes 4 r.paramA ++ leBytes 4 r.paramB ++ leBytes 4 r.lastS

/-- The 32 bytes of a record; those of a torn one do not match their CRC. -/
def Rec.bytes (r : Rec) : List Byte :=
  let c := crc16 (r.head ++ r.tail)
  r.head ++ leBytes 2 (if r.intact then c else c ^^^ 1) ++ r.tail

/-- The record of a sequence number in the ring. -/
def State.recordAt (s : State) (q : Nat) : Option Rec := s.ev.ring.find? (fun r => r.seq == q)

/-- Slot `k` of the ring as it stands in MRAM (R459, R461, log 31). -/
def State.ringSlot (s : State) (k : Nat) : List Byte :=
  match s.ev.ring.find? (fun r => r.seq % 32768 == k % 32768) with
  | some r => r.bytes
  | none => zeros 32

/-- What RECORDS of a session reads: 64 consecutive slots from that of POSITION (R461). -/
def State.recordWindow (s : State) (k : Nat) : List Byte :=
  let p := s.window k Dict.RECORD_WINDOW_POSITION
  (List.range 64).flatMap (fun i => s.ringSlot (p + i))

/-- NEWEST_SEQ (R459). -/
def State.newestRec (s : State) : Nat :=
  match s.ev.ring.head? with
  | some r => r.seq
  | none => (s.ev.nextRec + 2 ^ 32 - 1) % 2 ^ 32

/-! ### Sealed export (R462) -/

/-- The bytes of an export before its seal (Table 17.2). -/
def State.exportBody (s : State) (from_ n : Nat) : List Byte :=
  ascii "REC1" ++ leBytes 4 from_ ++ leBytes 2 n ++ zeros 2 ++ leBytes 4 s.life.cycles ++ leBytes 4 s.life.opSeconds
  ++ zeros 12 ++ (List.range n).flatMap (fun i => s.ringSlot (from_ + i))

/-- EXPORT_NONCE written (R462). -/
def State.sealExport (s : State) (nonce : List Byte) : Effect :=
  let slot := s.rd Dict.RECORDER_EXPORT_SLOT
  let from_ := s.rd Dict.RECORDER_EXPORT_FROM
  let n := s.rd Dict.RECORDER_EXPORT_COUNT
  let after := (from_ + 2 ^ 32 - s.oldestRec) % 2 ^ 32
  let span := (s.newestRec + 2 ^ 32 - s.oldestRec) % 2 ^ 32
  match firstOf
    [(!s.derives slot, .atField 0xC0 0x3800 8),
     (s.ev.ring.isEmpty || decide (span + 1 < after + n), .atField 0xC1 0x3800 9)] with
  | some r => .refused r s
  | none =>
    let b := s.exportBody from_ n
    let s := s.wrDom Dict.RECORDER_EXPORT (b ++ hmac16 (kdf (s.keyOf slot) (ascii "REC") nonce) b)
    .done ((s.inc Dict.RECORDER_EXPORTS).raise Event.EXPORT_SEALED from_ n)

/-! ### Lifetime data (R463 to R465) -/

/-- A histogram's bin number. -/
abbrev binKey (n k : Nat) : Nat := 16 * n + k

/-- A sample in the accumulators of histogram `n` (R465). -/
def State.sample (s : State) (n k : Nat) : State :=
  { s with life := { s.life with acc := Store.change (fun _ => 0) s.life.acc (binKey n (min 15 k)) (fun v =>
    min (v + 1) (2 ^ 32 - 1)) } }

/-- The bin of a die temperature in 1/16 degrees (Table 17.3). -/
def tempBin (t : Int) : Nat := if t < -320 then 0 else ((t + 320) / 160).toNat + 1

/-- The bin of a voltage in mV. -/
def voltBin (v : Nat) : Nat := if v < 500 then 0 else (v - 500) / 30 + 1

/-- The bin of a count of corrections. -/
def correctionBin (v : Nat) : Nat := if v = 0 then 0 else Nat.log2 v + 1

/-- The bin of an MRAM sector's writes. -/
def sectorBin (v : Nat) : Nat := if v < 1024 then 0 else Nat.log2 v - 9

/-- A second with PORST_N high is over (R15). -/
def State.countSecond (s : State) : State :=
  { s with life := { s.life with
    opSeconds := min (s.life.opSeconds + 1) (2 ^ 32 - 1), secondAt := s.life.secondAt + nsPerS } }

/-- An operating second ends: counters advance and samples accumulate (R15, R463, R465). -/
def State.endSecond (s : State) (v : LifeSample) : State :=
  let s := s.countSecond
  let ops := s.life.opSeconds
  let s := { s with life := { s.life with maxTemp := max s.life.maxTemp v.hottest } }
  let s := s.sample 0 (tempBin v.hottest)
  let s := (List.range 6).foldl (fun s n => s.sample (n + 1) (voltBin ((v.volts[n]?).getD 0))) s
  let s := allEngines.foldl (fun s e =>
    let g := s.engineAt e
    if g.state = .active ∨ g.state = .lagging then s.sample 7 (g.ratio * 10 / 4096) else s) s
  let s := (List.range 52).foldl (fun s n =>
    let l := s.ulaneAt n
    if l.state = .up ∨ l.state = .degraded then s.sample 8 (s.rd Dict.U_LANE_MARGIN_CLASS n) else s) s
  let s := s.sample 11 (v.power / 10000)
  if ops % 2592000 = 0 then
    let s := (List.range 24).foldl (fun s m =>
      s.sample 9 (correctionBin (Store.read (fun _ => 0) s.life.dramCorrections m))) s
    { s with life := { s.life with dramCorrections := [] } }
  else s

/-- A histogram flush (R465). -/
def State.flushHistograms (s : State) : State :=
  let l := s.life
  let bins := l.acc.foldl (fun m e => Store.change (fun _ => 0) m e.1 (fun v => min (v + e.2) (2 ^ 32 - 1))) l.bins
  let samples := l.acc.foldl (fun m e => Store.change (fun _ => 0) m (e.1 / 16) (fun v => (v + e.2) % 2 ^ 64)) l.samples
  let lastFlush := (List.range 12).foldl (fun m n => Store.write (fun _ => 0) m n l.opSeconds) l.lastFlush
  { s with life := { l with bins := bins, samples := samples, lastFlush := lastFlush, acc := [] } }

/-- Histogram 10 counted afresh: every sector in service, by its writes (R465, log 31). -/
def State.countSectors (s : State) : State :=
  let used := (List.range 2112).filter (fun k => !s.isRetired (unitCode 11 k) && !s.standsBy 11 k)
  let bins := s.life.bins.filter (fun e => e.1 / 16 != 10)
  let bins := used.foldl (fun m k =>
    Store.change (fun _ => 0) m (binKey 10 (min 15 (sectorBin (Config.sectorWrites s.life.checkpoints k)))) (· + 1)) bins
  let samples := Store.change (fun _ => 0) s.life.samples 10 (fun v => (v + used.length) % 2 ^ 64)
  { s with life := { s.life with bins := bins, samples := samples } }

/-- An MRAM copy of the lifetime data. -/
def State.lifeCopy (s : State) (k : Nat) : LifeCopy := Store.read (fun _ => LifeCopy.init) s.life.copies k

/-- The copy in force: the valid one with the higher generation. -/
def State.lifeInForce (s : State) : Nat :=
  let a := s.lifeCopy 0
  let b := s.lifeCopy 1
  if b.valid ∧ (a.valid = false ∨ a.generation < b.generation) then 1 else 0

/-- A checkpoint (R464): flushed histograms, counters and weights go to the older copy; a flush that the
governor defers is forced (R46). -/
def State.takeCheckpoint (s : State) : State :=
  let s := s.forceFlush.flushHistograms.countSectors
  let l := { s.life with
    checkpoints := (s.life.checkpoints + 1) % 2 ^ 32, lastCheckpoint := s.life.opSeconds, due := false }
  let k := s.lifeInForce
  let gen := if (s.lifeCopy k).valid then (s.lifeCopy k).generation + 1 else 1
  let target := if (s.lifeCopy k).valid then 1 - k else k
  let c : LifeCopy :=
    { valid := true, generation := gen, opSeconds := l.opSeconds, cycles := l.cycles, brownouts := l.brownouts
      patches := l.patches, checkpoints := l.checkpoints, lastCheckpoint := l.lastCheckpoint, maxTemp := l.maxTemp
      bins := l.bins, samples := l.samples, lastFlush := l.lastFlush, weights := s.resil.weights }
  let s := { s with life := { l with copies := Store.write (fun _ => LifeCopy.init) l.copies target c } }
  s.raise Event.CHECKPOINT_DONE gen l.opSeconds

/-! ### The write floor (R466 to R471) -/

/-- The readings of the supply monitors shown (Table 17.9). -/
def State.showRails (s : State) (r : Rails) : State :=
  (((s.wr Dict.SUPPLY_VNVM r.vnvm).wr Dict.SUPPLY_VIO18 r.vio18).wr Dict.SUPPLY_VCTL r.vctl).wrFlag
    Dict.SUPPLY_PWR_FAIL r.pwrFail

/-- What holds the floor, as FLOOR_CAUSE codes it (R466). -/
def floorCause (r : Rails) : Nat :=
  (decide (r.vnvm < 1700)).toNat + 2 * (decide (r.vio18 < 1700)).toNat + 4 * (decide (r.vctl < 700)).toNat
    + 8 * r.pwrFail.toNat

/-- Whether every supply is good enough to resume (R470). -/
def railsFit (r : Rails) : Bool := decide (1730 ≤ r.vnvm ∧ 1730 ≤ r.vio18 ∧ 730 ≤ r.vctl) && !r.pwrFail

/-- The floor is reached: non-volatile writes stop, a key write and a save in progress are abandoned, the glitch
detector is disarmed (R407, R446, R448, R466).  Where PWR_FAIL_N holds it, a pin has caused it (R421; DEDUCED, log 72). -/
def State.enterFloor (s : State) (r : Rails) : State :=
  let s := s.showRails r
  if floorCause r = 0 then s
  else
    let s := { s with keys := { s.keys with glitchArmed := false }, supply := { s.supply with goodSince := 0 } }
    let s := s.wr Dict.SUPPLY_FLOOR_CAUSE (floorCause r)
    match s.rd Dict.SUPPLY_FLOOR_STATE with
    | 0 =>
      let queued := s.ev.deferred.length
      let s := (s.wr Dict.SUPPLY_FLOOR_STATE 1).inc Dict.SUPPLY_FLOOR_ENTRIES
      let s := s.wr Dict.SUPPLY_LAST_FLOOR_S s.life.opSeconds
      let s := { s with supply := { s.supply with floorAt := s.now, heldSincePorst := !s.alive } }
      if s.alive then (s.raiseBy (if r.pwrFail then pinSource else s.actor) Event.WRITE_FLOOR_ENTERED (floorCause r) queued).abandonKeyWrite.abandonStore else s
    | 2 => s.wr Dict.SUPPLY_FLOOR_STATE 1
    | _ => s

/-- The write-floor queue drained into the ring, with the record of what was lost after it (R469). -/
def State.drainRecords (s : State) : State :=
  let l := s.ev.deferred.foldl EventLog.pushRing { s.ev with deferred := [] }
  let lost := l.lostNow
  let worst := l.lostSeverity
  let s := { s with ev := { l with lostNow := 0, lostSeverity := 0 } }
  if lost = 0 then s else s.raiseWith true 0xFF Event.RECORDS_DROPPED lost worst

/-- Patch map entries that waited are written (R388). -/
def State.writePatches (s : State) : State :=
  { s with resil := { s.resil with
    retirements := s.resil.retirements + s.patchesWaiting
    patches := s.resil.patches.map (fun e => (e.1, { e.2 with pending := false })) } }

/-- Results of a DRAM training during the floor are stored (Table 17.4). -/
def State.storeTraining (s : State) : State :=
  if s.dram.trainedNew then
    { s with dram := { s.dram with trained := s.dram.training, trainedNew := false } }
  else s

/-- An overwrite of the key slots that waited for the floor to end completes (R448, Table 17.4). -/
def State.finishOverwrite (s : State) : State := if s.keys.overwritePending then s.overwriteKeys else s

/-- Writes resume: each user in the order of Table 17.4 (R468, R470). -/
def State.resumeWrites (s : State) : State :=
  let s := (s.wr Dict.SUPPLY_FLOOR_STATE 0).wr Dict.SUPPLY_FLOOR_CAUSE 0
  let brownout := !s.supply.heldSincePorst
  let s := { s with
    keys := { s.keys with glitchArmed := true }
    supply := { s.supply with goodSince := 0, heldSincePorst := false } }
  let s := s.raise Event.WRITE_FLOOR_LEFT ((s.now - s.supply.floorAt) / 1000000) s.ev.deferred.length
  let s := s.drainRecords.writePatches.finishOverwrite.resumePocket.storeTraining
  let s := if brownout then { s with life := { s.life with brownouts := (s.life.brownouts + 1) % 2 ^ 32 } } else s
  s.takeCheckpoint

/-- The supplies are found good: the 50 ms begin, or are over; a lapse restarts them (R470). -/
def State.railsGood (s : State) (r : Rails) : State :=
  let s := s.showRails r
  let st := s.rd Dict.SUPPLY_FLOOR_STATE
  if s.alive = false ∨ (st ≠ 1 ∧ st ≠ 2) then s
  else if railsFit r = false then
    { s.wr Dict.SUPPLY_FLOOR_STATE 1 with supply := { s.supply with goodSince := 0 } }
  else if s.supply.goodSince = 0 then
    { s.wr Dict.SUPPLY_FLOOR_STATE 2 with supply := { s.supply with goodSince := s.now + 1 } }
  else if s.since s.supply.goodSince 50000000 then s.resumeWrites
  else s

/-- RESUME_REMAINING in ms (Table 17.9). -/
def State.resumeRemaining (s : State) : Nat :=
  if s.supply.goodSince = 0 then 0 else ceilDiv (s.supply.goodSince - 1 + 50000000 - s.now) 1000000

/-- The writes in progress are completed: a key write, a life-cycle transition, an overwrite of the key slots and a save
(R471). -/
def State.completeWrites (s : State) : State :=
  let u := if s.keys.writing then s.commitKey.actBy s.actor else s
  let v := if u.keys.transition.isSome then u.completeLifecycle.actBy s.actor else u
  v.finishOverwrite.finishStore true

/-- SHUTDOWN written (R471). -/
def State.shutdown (s : State) : Effect :=
  if s.floor then .refused (.rule 0xC2) s
  else
    let s := s.completeWrites.drainRecords.takeCheckpoint
    let s := s.raise Event.SHUTDOWN_READY s.life.opSeconds s.life.cycles
    .done (s.wr Dict.SUPPLY_FLOOR_STATE 3)

end Sys2Proof.Machine
end

