-- ==== Sys2Proof/Machine/Recorder.lean ====
section
/-! DEFINITION. The commands of the recorder, the lifetime data and the write floor (R462 to R471). -/
namespace Sys2Proof.Machine
open Sys2Proof

/-- The meaning of EXPORT_NONCE (R462). -/
def execExportNonce (sess : Fin 12) (nonce : List Byte) (s : State) : Host.Outcome State Fault Refusal :=
  .next (s.begin.writeBlock sess Dict.RECORDER_EXPORT_NONCE 0 0 nonce (fun s => s.sealExport nonce))

/-- The meaning of CHECKPOINT (R464): every 600 operating seconds, and once at start-up; the write floor prevents it. -/
def execCheckpoint (s : State) : Host.Outcome State Fault Refusal :=
  let s := s.begin
  .next (if s.alive ∧ !s.floor ∧ (s.life.due ∨ s.life.lastCheckpoint + 600 ≤ s.life.opSeconds) then s.takeCheckpoint
    else s)

/-- The meaning of HISTOGRAM_SAMPLE (R15, R465): an operating second is over; nothing is sampled while the core is
stopped. -/
def execHistogramSample (v : LifeSample) (s : State) : Host.Outcome State Fault Refusal :=
  let s := s.begin
  .next (if s.dev.porstN ∧ s.life.secondAt + nsPerS ≤ s.now then
      (if s.alive then s.endSecond v else s.countSecond)
    else s)

/-- The meaning of HISTOGRAM_FLUSH (R465): none while the governor defers it (R46). -/
def execHistogramFlush (s : State) : Host.Outcome State Fault Refusal :=
  let s := s.begin
  .next (if s.alive ∧ s.yielded 1 6 2 = false then s.flushHistograms else s)

/-- The meaning of WRITE_FLOOR_ENTERED (R466). -/
def execWriteFloorEntered (r : Rails) (s : State) : Host.Outcome State Fault Refusal := .next (s.begin.enterFloor r)

/-- The meaning of WRITE_FLOOR_LEFT (R470): the supplies as they are now. -/
def execWriteFloorLeft (r : Rails) (s : State) : Host.Outcome State Fault Refusal := .next (s.begin.railsGood r)

/-- The meaning of SHUTDOWN (R471). -/
def execShutdown (sess : Fin 12) (value : Nat) (s : State) : Host.Outcome State Fault Refusal :=
  .next (s.begin.writeScalar sess Dict.SUPPLY_SHUTDOWN 0 0 value (fun s => s.shutdown))

end Sys2Proof.Machine
end

