-- ==== Sys2Proof/Machine/StoreDram.lean ====
section
/-! DEFINITION. The commands of the store tier and DRAM (R348 to R364, R373, R374). -/
namespace Sys2Proof.Machine
open Sys2Proof

/-! ### The store tier (R349, R351, R373) -/

/-- SCAN_MIB or STAGE_MIB written: LINING is what is left of 336 MiB; sizes take effect at the next entry to RUN
(R349). -/
def State.writePartition (s : State) (stage : Bool) (v : Nat) : Effect :=
  let s' := if stage then s.wr Dict.STORE_TIER_STAGE_MIB v else s.wr Dict.STORE_TIER_SCAN_MIB v
  let sum := s'.rd Dict.STORE_TIER_SCAN_MIB + s'.rd Dict.STORE_TIER_STAGE_MIB
  Effect.unless (decide (336 < sum)) (.atField 0x80 0x3200 (if stage then 2 else 1)) s
    (.done (s'.wr Dict.STORE_TIER_LINING_MIB (336 - sum)))

/-- The meaning of SCAN_MIB_WRITE (R349): SCAN_MIB, or STAGE_MIB. -/
def execScanMibWrite (sess : Fin 12) (stage : Bool) (value : Nat) (s : State) : Host.Outcome State Fault Refusal :=
  .next (s.begin.writeScalar sess (if stage then Dict.STORE_TIER_STAGE_MIB else Dict.STORE_TIER_SCAN_MIB) 0 0 value
    (fun s => s.writePartition stage value))

/-- The partition of a word, as STORE_UNCORRECTABLE numbers it (Table 12.12). -/
def partitionOf : StoreHit → Nat
  | .headBuffer .. => 0 | .scanLine .. => 0 | .ipLine .. => 0 | .lining _ => 1 | .band .. => 2 | .overcoat _ => 3 | .system => 4

/-- Where a partition begins in the store tier, in KiB: in the order of Table 12.1 (log 68). -/
def State.partitionBase (s : State) : Nat → Nat
  | 0 => 0
  | 1 => s.scanMib * 1024
  | 2 => (336 - s.stageMib) * 1024
  | 3 => 336 * 1024
  | _ => 368 * 1024

/-- The stripe of the store tier that holds a word; the tier is interleaved in 4 KiB stripes (R22). -/
def State.stripeOf (s : State) (w : StoreWord) : Nat := (s.partitionBase (partitionOf w.hit) + w.offset) / 4

/-- The slice that holds a word: stripes go to the 64 slices in their order by router number (R22). -/
def State.sliceOf (s : State) (w : StoreWord) : Nat := s.stripeOf w % 64

/-- Unit number of a word's row: bank 17 * slice + bank, and row (Table 13.1). -/
def State.rowOf (s : State) (w : StoreWord) : Nat := (17 * s.sliceOf w + w.bank) * 8192 + w.row

/-- The rest of a line of an IP write-back frame that waits to leave is BACKGROUND, as in an underrun of that line (R241,
Table 12.2). -/
def State.underrunIp (s : State) (c k line x : Nat) : State :=
  s.modCanvas c (fun v =>
    let (d, r) := Store.read (fun _ => ([], Raster.init)) v.wbDone k
    let cols := (List.range r.width).filter (fun i => decide (x ≤ i))
    let r' := if line < r.height then cols.foldl (fun r i => r.put i line (s.backgroundPx c (wbFormat d))) r else r
    { v with wbDone := Store.write (fun _ => ([], Raster.init)) v.wbDone k (d, r') })

/-- What an uncorrectable word does to what it belongs to (Table 12.2). -/
def State.hitStore (s : State) (offset : Nat) : StoreHit → State
  | .headBuffer c buffer x y n => s.modCanvas c (fun v => { v with damaged := v.damaged ++ [(buffer, x, y, n)] })
  | .scanLine h line x => s.underrun h line x
  | .ipLine c k line x => s.underrunIp c k line x
  | .band n line => s.bandBreaks n line
  | .lining c => s.invalidateLining c 4
  | .overcoat i => (s.putImageBad i true).raiseIf (!s.imageBadAt i) Event.OVERCOAT_IMAGE_FAULT i
      (Config.faultCrc i s.now % 2 ^ 32)
  | .system => (s.inc Dict.STORE_TIER_SYSTEM_RESTORES).raise Event.SYSTEM_RESTORED offset 0

/-- A corrected error of a memory is one of the present patrol pass (R390, Table 13.9). -/
def State.noteCorrected (s : State) : State :=
  { s with resil := { s.resil with scrubErrors := s.resil.scrubErrors + 1 } }

/-- A store-tier word in error: one bit is corrected in place, two act as Table 12.2 says; both are reported (R351,
R380). -/
def State.storeError (s : State) (w : StoreWord) (double : Bool) : State :=
  if s.alive then
    let row := s.rowOf w
    if double then
      let s := (s.inc Dict.STORE_TIER_UNCORRECTABLE).raise Event.STORE_UNCORRECTABLE (partitionOf w.hit) w.offset
      (s.hitStore w.offset w.hit).hardFault 2 row 2
    else
      let s := (s.inc Dict.STORE_TIER_CORRECTED).raise Event.STORE_CORRECTED (s.sliceOf w) (s.stripeOf w)
      s.noteCorrected.rowCorrected 2 row
  else s

/-- The meaning of STORE_ECC_ERROR (R351). -/
def execStoreEccError (w : StoreWord) (double : Bool) (s : State) : Host.Outcome State Fault Refusal :=
  .next (s.begin.storeError w double)

/-! ### DRAM (R357 to R364, R374) -/

/-- A HALT field of DRAM written: the host region must fit the fitting and MODE as written; it applies at the next
release of PORST_N (R360, R374). -/
def State.writeDram (s : State) (sub v : Nat) : Effect :=
  let s' := s.setReg (0x3210 * 256 + sub) v
  let cap := dataCapacity (s'.rd Dict.DRAM_DEVICE) (s'.rd Dict.DRAM_RANKS) (s'.rd Dict.DRAM_MODE)
  Effect.unless (decide (cap < s'.rd Dict.DRAM_HOST_REGION_MIB + 68)) (.atField 0x80 0x3210 sub) s (.done s')

/-- Whether a codeword lies in protected data (R353). -/
def State.codewordGuarded (s : State) (h : DramHit) : Bool := s.dramSetting 3 == 1 || h == .guarded

/-- A codeword of a clip frame that a player holds reads as zero: the pixels whose bytes lie in it, or its sample frames
(R358, R368). -/
def blankFrame (c : Clip) (a : Nat) (p : Raster) (sound : List Int) : Raster × List Int :=
  let a := a / 8 * 8
  let n := bytesPerPixel c.format
  let stride := roundUp (c.width * n) 64
  let o := a - stride * c.height
  if a < stride * c.height then
    let y := a / stride
    let b := a % stride
    let cols := (List.range p.width).filter (fun x => decide (b < n * (x + 1) ∧ n * x < b + 8))
    (cols.foldl (fun p x =>
      let bytes := (leBytes n ((p.at x y).narrowed c.format)).zipIdx.map (fun e =>
        if b ≤ n * x + e.2 ∧ n * x + e.2 < b + 8 then 0 else e.1)
      p.put x y (Px.decode c.format (leAt bytes 0 n))) p, sound)
  else (p, if o = 0 then [] else sound.zipIdx.map (fun e => if o ≤ 4 + 4 * e.2 ∧ 4 + 4 * e.2 < o + 8 then 0 else e.1))

/-- What an uncorrectable codeword in unprotected data does to its owner (R358). -/
def State.hitDram (s : State) : DramHit → State
  | .guarded => s
  | .other => s
  | .inputFrame n frame =>
    (s.modInput n (fun i => { i with frames := i.frames.filter (fun f => f.number != frame) })).inc
      Dict.INPUT_FRAMES_DAMAGED n
  | .region a => if a < s.dramSetting 4 * 1048576 then s.setHostBytes (a / 8 * 8) (zeros 8) else s
  | .copy n second a => s.modHost n (fun h =>
      if second then { h with copy1 := blankWord h.copy1 a } else { h with copy0 := blankWord h.copy0 a })
  | .delayLine k i j =>
    let l := Store.read (fun _ => []) s.audio.lines k
    let l := l.zipIdx.map (fun p => p.1.zipIdx.map (fun x => if (p.2, x.2) = i ∨ (p.2, x.2) = j then 0 else x.1))
    { s with audio := { s.audio with lines := Store.write (fun _ => []) s.audio.lines k l } }
  | .captured k frame a => s.putCapture k { s.captureAt k with holes := (s.captureAt k).holes ++ [(frame, a)] }
  | .prefetched n frame a => s.modPlayer n (fun p => { p with held := p.held.map (fun e =>
      if e.1 = frame then (e.1, blankFrame (s.playerClip n) a e.2.1 e.2.2) else e) })

/-- A DRAM codeword in error: one bit is corrected; protected data is rebuilt; other data reads as zero (R357, R358,
R380). -/
def State.dramError (s : State) (w : DramWord) (double : Bool) : State :=
  let channel := if s.codewordGuarded w.hit then s.stripeChannel w.address w.parity else s.openChannel w.address
  let unit := channel * 524288 + w.row % 524288
  if s.alive then
    if double then
      let s := s.inc Dict.DRAM_UNCORRECTABLE
      let s := if s.codewordGuarded w.hit then s
        else (s.hitDram w.hit).raise Event.DRAM_UNCORRECTABLE channel (w.address / 1048576)
      s.hardFault 5 unit 2
    else
      let s := (s.inc Dict.DRAM_CORRECTED).raise Event.DRAM_CORRECTED channel w.row
      let s := { s with life := { s.life with dramCorrections := Store.change (fun _ => 0) s.life.dramCorrections channel (· + 1) } }
      s.noteCorrected.rowCorrected 5 unit
  else s

/-- The meaning of DRAM_ECC_ERROR (R358). -/
def execDramEccError (w : DramWord) (double : Bool) (s : State) : Host.Outcome State Fault Refusal :=
  .next (s.begin.dramError w double)

/-- A row's copy is complete: the row is redirected and its retirement reported (R357, R383). -/
def State.rowRemapped (s : State) (m row : Nat) : State :=
  let unit := m * 524288 + row
  if s.alive ∧ s.resil.copying.any (fun e => e.1 == unitCode 5 unit) then (s.endRemap m row).endCopy 5 unit else s

/-- The meaning of DRAM_ROW_REMAPPED (R357). -/
def execDramRowRemapped (m : Fin 24) (row : Nat) (s : State) : Host.Outcome State Fault Refusal :=
  .next (s.begin.rowRemapped m row)

/-- Whether the controller runs its channels: trained (Table 12.9). -/
def State.dramRuns (s : State) : Bool := s.alive && decide (2 ≤ s.rd Dict.DRAM_STATE)

/-- Bytes that a DRAM-scanned head reads in t_x + t_f at its active read rate (R240, R362). -/
def State.fifoFloor (s : State) (h : Nat) : Nat :=
  let line := roundUp (s.headRd h Dict.HEAD_H_ACTIVE * bytesPerPixel (s.headRd h Dict.HEAD_FORMAT)) 64
  line * 17000 * (s.headDen h * s.rd Dict.HEAD_V_TOTAL h) / s.headNum h

/-- Whether a cycle starts for a cause: its length has passed, a 64 KiB write-gather buffer is half full, or the scan FIFO of
a running DRAM-scanned head has fallen to (t_x + t_f) × its active read rate (R362). -/
def State.cycleDue (s : State) : DramWake → Bool
  | .timer => s.dram.cycleAt == 0 || s.since s.dram.cycleAt (s.cycleUs * 1000)
  | .gather _ fill => decide (32768 ≤ fill)
  | .fifo h fill => (s.headAt h).running && s.headRd h Dict.HEAD_BUFFER_MODE == 1 && decide (fill ≤ s.fifoFloor h)

/-- A cycle starts: every sleeping channel wakes; early when a write-gather buffer or a scan FIFO calls for it
(R362). -/
def State.startCycle (s : State) (cause : DramWake) : State :=
  if s.dramRuns ∧ !s.dramAwake ∧ s.cycleDue cause then
    { s with dram := { s.dram with
      cycleAt := s.now + 1, channel := s.dram.channel.filter (fun e => e.2 != 1) } }
  else s

/-- The meaning of DRAM_SLEEP_CYCLE (R362). -/
def execDramSleepCycle (cause : DramWake) (s : State) : Host.Outcome State Fault Refusal := .next (s.begin.startCycle cause)

/-- No request has been queued for IDLE_TIMER: the awake channels sleep, at the earliest that long after the t_x of their
wake (R362). -/
def State.sleepChannels (s : State) : State :=
  if s.dramRuns ∧ !s.dramAwake ∧ (s.dram.cycleAt = 0 ∨ s.since s.dram.cycleAt ((15 + s.dramPower 2) * 1000)) then
    (List.range 24).foldl (fun s m => if s.dramChannel m = 0 then s.setChannel m 1 else s) s
  else s

/-- The meaning of DRAM_IDLE_SLEEP (R362). -/
def execDramIdleSleep (s : State) : Host.Outcome State Fault Refusal := .next s.begin.sleepChannels

/-- Every 100 ms each channel recentres its timing; a failure is a fault of the channel (R360, Table 13.2). -/
def State.recentre (s : State) (failed : List Nat) : State :=
  if s.dramRuns ∧ (s.dram.recentreAt = 0 ∨ s.since s.dram.recentreAt 100000000) then
    let s := { s with dram := { s.dram with recentreAt := s.now + 1 } }
    (List.range 24).foldl (fun s m =>
      if failed.contains m ∧ s.dramChannel m ≠ 3 then s.fault 6 m else s) s
  else s

/-- The meaning of DRAM_RECENTRE (R360): the channels that fail it. -/
def execDramRecentre (failed : List Nat) (s : State) : Host.Outcome State Fault Refusal :=
  .next (s.begin.recentre failed)

end Sys2Proof.Machine
end

