-- ==== Sys2Proof/Machine/Resilience.lean ====
section
/-! DEFINITION. The commands of the resilience logic (R378 to R395, R251). -/
namespace Sys2Proof.Machine
open Sys2Proof

/-- A number put in its place in a rising list, once. -/
def insertNat (n : Nat) : List Nat → List Nat
  | [] => [n]
  | m :: l => if n < m then n :: m :: l else if n = m then m :: l else m :: insertNat n l

/-- Units of a kind that become permanently faulty at one instant, the lower-numbered first (R383, R387). -/
def State.unitsFail (s : State) (kind : Nat) (units : List Nat) : State :=
  if s.alive then
    (units.foldl (fun l n => insertNat n l) []).foldl (fun s n =>
      if unitExists kind n then (if kind = 10 then s.failSlot n else s.hardFault kind n 2) else s) s
  else s

/-- The meaning of UNIT_PERMANENT_FAULT (R383): the units of one kind with a hard fault at one instant. -/
def execUnitPermanentFault (kind : Fin 12) (units : List Nat) (s : State) : Host.Outcome State Fault Refusal :=
  .next (s.begin.unitsFail kind units)

/-- The copy of a row or bank to its spare is complete (R383); a bank whose spare rows are all used is permanently faulty
(Table 13.2). -/
def State.copyDone (s : State) (bank : Bool) (unit : Nat) : State :=
  let kind := if bank then 3 else 2
  match s.resil.copying.find? (fun e => e.1 == unitCode kind unit) with
  | some e =>
    if s.alive then
      let s := if bank then s
        else (s.inc Dict.RESILIENCE_STORE_ROWS_SPARED).raise Event.STORE_ROW_SPARED (unitCode 2 unit) e.2.2
      let s := s.endCopy kind unit
      if !bank && (s.pickSpare 2 unit).isNone then s.permanentOne 3 (unit / 8192) 2 else s
    else s
  | none => s

/-- The meaning of STORE_ROW_SPARED (R383): a row, or a bank. -/
def execStoreRowSpared (bank : Bool) (unit : Nat) (s : State) : Host.Outcome State Fault Refusal :=
  .next (s.begin.copyDone bank unit)

/-- The meaning of MESH_LINK_CRC_ERROR (R380): the flit is replayed, and a link in service gains weight. -/
def execMeshLinkCrcError (link : Fin 128) (s : State) : Host.Outcome State Fault Refusal :=
  let s := s.begin
  .next (if s.alive ∧ s.standsBy 4 link = false then s.fault 4 link else s)

/-- The meaning of FAULT_WEIGHT_DECAY (R381): every weight whose hour is full. -/
def execFaultWeightDecay (s : State) : Host.Outcome State Fault Refusal :=
  let s := s.begin
  .next (if s.alive then (s.resil.weights.map Prod.fst).foldl State.decayWeight s else s)

/-- HOLD_RETIRE written (R382). -/
def State.writeHoldRetire (s : State) (v : Nat) : Effect := .done (s.wr Dict.RESILIENCE_HOLD_RETIRE v).releaseHeld

/-- The meaning of HOLD_RETIRE_WRITE (R382). -/
def execHoldRetireWrite (sess : Fin 12) (value : Nat) (s : State) : Host.Outcome State Fault Refusal :=
  .next (s.begin.writeScalar sess Dict.RESILIENCE_HOLD_RETIRE 0 0 value (fun s => s.writeHoldRetire value))

/-- A spare has run its check (R386). -/
def State.checkSpare (s : State) (kind unit : Nat) (good : Bool) : State :=
  if s.alive ∧ !good ∧ unitExists kind unit ∧ s.standsBy kind unit ∧ [1, 2, 3, 4, 10, 11].contains kind then
    if kind = 10 then s.failSlot unit else s.hardFault kind unit 5
  else s

/-- The meaning of SPARE_CHECK (R386). -/
def execSpareCheck (kind : Fin 12) (unit : Nat) (good : Bool) (s : State) : Host.Outcome State Fault Refusal :=
  .next (s.begin.checkSpare kind unit good)

/-- Every key slot's integrity tag checked (R390, R438). -/
def State.scrubKeys (s : State) : State :=
  (List.range 72).foldl (fun s n => if (s.slotAt n).tagFails s.keys.fuses then s.failSlot n else s) s

/-- A pass of patrol scrub ends PATROL_PERIOD after it began, or when the governor no longer defers it; it has checked every Overcoat image that is placed and
every key slot (R46, R219, R390, R438). -/
def State.endPass (s : State) : State :=
  if s.alive ∧ s.yielded 1 6 1 = false
      ∧ s.resil.scrubSince + s.rd Dict.RESILIENCE_PATROL_PERIOD * 3600 * nsPerS ≤ s.now then
    let s := (allCanvases.foldl State.checkImage { s with gov := { s.gov with passOwed := false } }).scrubKeys
    let s := (s.inc Dict.RESILIENCE_PATROL_PASSES).wr Dict.RESILIENCE_LAST_PASS_S s.life.opSeconds
    let n := s.resil.scrubErrors
    let s := { s with resil := { s.resil with scrubErrors := 0, scrubSince := s.now } }
    (s.wr Dict.RESILIENCE_PATROL_PROGRESS 0).raise Event.PATROL_PASS_DONE (s.rd Dict.RESILIENCE_PATROL_PASSES) n
  else s

/-- The meaning of PATROL_PASS_DONE (R390). -/
def execPatrolPassDone (s : State) : Host.Outcome State Fault Refusal := .next s.begin.endPass

/-- CLEAR of the patch map written: the unit returns (R389). -/
def State.clearPatch (s : State) (n : Nat) : Effect :=
  match s.patchAt n with
  | some p =>
    if p.cleared then .done s
    else
      let s := { s with resil := { s.resil with
        patches := Store.put (Store.erase s.resil.patches n) n { p with cleared := true, pending := false } } }
      .done ((s.returnUnit p.kind p.unit).raise Event.PATCH_CLEARED (unitCode p.kind p.unit) n)
  | none => .done s

/-- The meaning of PATCH_MAP_CLEAR (R389). -/
def execPatchMapClear (sess : Fin 12) (value : Nat) (s : State) : Host.Outcome State Fault Refusal :=
  .next (s.begin.writeScalar sess Dict.PATCH_MAP_CLEAR 0 0 value (fun s => s.clearPatch value))

/-- CLEAR_WEIGHTS written: the weights of the kinds named become 0 (R394). -/
def State.clearWeights (s : State) (v : Nat) : Effect :=
  .done ((s.resil.weights.map Prod.fst).foldl (fun s u =>
    if bit v (u / 2 ^ 24) then s.putWeight u { s.weightAt u with weight := 0, halfRaised := false } else s) s)

/-- The meaning of CLEAR_WEIGHTS (R394). -/
def execClearWeights (sess : Fin 12) (value : Nat) (s : State) : Host.Outcome State Fault Refusal :=
  .next (s.begin.writeScalar sess Dict.FAULT_WEIGHTS_CLEAR_WEIGHTS 0 0 value (fun s => s.clearWeights value))

/-- The meaning of STORE_BANK_PARITY_ERROR (R380): the access is repeated, and the bank gains weight. -/
def execStoreBankParityError (bank : Fin 1088) (s : State) : Host.Outcome State Fault Refusal :=
  let s := s.begin
  .next (if s.alive then s.fault 3 bank else s)

/-- The meaning of DRAM_CHANNEL_PARITY_ERROR (R380): the access is repeated, and the channel gains weight. -/
def execDramChannelParityError (m : Fin 24) (s : State) : Host.Outcome State Fault Refusal :=
  let s := s.begin
  .next (if s.alive ∧ s.dramChannel m ≠ 3 then s.fault 6 m else s)

/-- A fault of an MRAM sector: a write that fails its verify is rewritten up to 2 times, and a third failure is hard; an error
that scrub corrects is counted and reported as a fault of the sector; an uncorrectable read is hard (R380, R390). -/
def State.sectorFails (s : State) (k : Nat) : MramFault → State
  | .corrected => if s.alive then s.noteCorrected.noteFault (unitCode 11 k) else s
  | .verify failures =>
    if s.alive then (if 3 ≤ failures then s.hardFault 11 k 2 else s.noteFault (unitCode 11 k)) else s
  | .uncorrectable => if s.alive then s.hardFault 11 k 2 else s

/-- The meaning of MRAM_WRITE_VERIFY_FAILURE (R380): the sector and what happened in it. -/
def execMramWriteVerifyFailure (sector : Fin 2112) (fault : MramFault) (s : State) : Host.Outcome State Fault Refusal :=
  .next (s.begin.sectorFails sector fault)

/-- An echo receiver of a head loses lock: the head's checks are suspended (R251, R380). -/
def State.echoLost (s : State) (h unit : Nat) : State :=
  let a := s.headAt h
  if s.alive ∧ a.running ∧ !a.echoFaults.contains unit then
    let s := (s.putHead h { a with echoFaults := a.echoFaults ++ [unit] }).wr Dict.HEAD_STATUS_ECHO_STATE 2 h
    (s.raise Event.ECHO_FAULT h unit).fault 9 unit
  else s

/-- The meaning of ECHO_FAULT (R251). -/
def execEchoFault (h : Fin 32) (unit : Fin 68) (s : State) : Host.Outcome State Fault Refusal :=
  .next (s.begin.echoLost h unit)

/-- An echo receiver locks again: once all of a head's have, its checks go on; a retired one stays out (R251, R380). -/
def State.echoLocked (s : State) (h unit : Nat) : State :=
  let a := s.headAt h
  if s.alive ∧ a.echoFaults.contains unit ∧ !s.isRetired (unitCode 9 unit) then
    let left := a.echoFaults.filter (· != unit)
    (s.putHead h { a with echoFaults := left }).wr Dict.HEAD_STATUS_ECHO_STATE
      (if a.running = false then 0 else if left.isEmpty then 1 else 2) h
  else s

/-- The meaning of ECHO_RECEIVER_RELOCK (R380). -/
def execEchoReceiverRelock (h : Fin 32) (unit : Fin 68) (s : State) : Host.Outcome State Fault Refusal :=
  .next (s.begin.echoLocked h unit)

end Sys2Proof.Machine
end

