-- ==== Sys2Proof/Machine/Saving.lean ====
section
/-! DEFINITION. The commands that save the configuration and restore defaults (R405 to R408). -/
namespace Sys2Proof.Machine
open Sys2Proof

/-- The meaning of STORE (R405). -/
def execStore (sess : Fin 12) (sub value : Nat) (s : State) : Host.Outcome State Fault Refusal :=
  .next (s.begin.write sess 0x1010 sub (leBytes 4 value) (fun _ s => s.store sess sub value))

/-- The meaning of STORE_DONE (R405): the copy in MRAM has been verified. -/
def execStoreDone (verified : Bool) (s : State) : Host.Outcome State Fault Refusal :=
  let s := s.begin
  .next (if s.dictUp ∧ !s.floor then s.finishStore verified else s)

/-- The meaning of RESTORE (R408). -/
def execRestore (sess : Fin 12) (sub value : Nat) (s : State) : Host.Outcome State Fault Refusal :=
  .next (s.begin.write sess 0x1011 sub (leBytes 4 value) (fun _ s => s.restore sub value))

end Sys2Proof.Machine
end

