-- ==== Sys2Proof/Machine/StartupOps.lean ====
section
/-! DEFINITION. Device states and resets: entry to RUN, STANDBY and SAFE, what a reset keeps, and the first part of
LOAD (R478 to R492). -/
namespace Sys2Proof.Machine
open Sys2Proof

/-- The state that an effect leaves. -/
def Effect.state : Effect → State
  | .done s => s
  | .refused _ s => s
  | .waits s => s

/-! ### Changes of DEVICE_STATE (R483) -/

/-- DEVICE_STATE becomes `st`; `source` asked for it (R421, R483).  Leaving STANDBY ends auto-run (R488). -/
def State.enterState (s : State) (source st : Nat) : State :=
  let old := s.rd Dict.DEVICE_STATE_STATE
  let s := ((s.wr Dict.DEVICE_STATE_STATE st).tellAlert s.alertPin).inc Dict.DEVICE_STATE_STATE_CHANGES
  let s := { s with dev := { s.dev with autoTried := s.dev.autoTried || old == 3 } }
  s.raiseBy source Event.DEVICE_STATE_CHANGED st old

/-- Partition sizes for the next entry to RUN, as SIZES_IN_FORCE codes them; what lost banks take beyond LINING comes
from SCAN (R349, R385). -/
def State.sizesWanted (s : State) : Nat :=
  let scan := s.rd Dict.STORE_TIER_SCAN_MIB
  let stage := s.rd Dict.STORE_TIER_STAGE_MIB
  let lining := 336 - scan - stage
  (scan - ceilDiv (s.liningLostKib - 1024 * lining) 1024) * 2 ^ 18 + lining * 2 ^ 9 + stage

/-- Buffers of canvas `c` in SCAN and its Lining are not kept (R349). -/
def State.loseTier (s : State) (c : Nat) : State :=
  let onChip := match s.bufferHead c with | some h => s.rd Dict.HEAD_BUFFER_MODE h == 0 | none => true
  let s := s.modCanvas c (fun v => { v with
    wbLast := [], front := if onChip then [] else v.front, buffers := if onChip then [] else v.buffers })
  if 2 ≤ (s.canvasAt c).liningState then s.clearLining c 1 else s

/-- Partition sizes that differ from those in force take effect; SCAN, LINING and STAGE are emptied (R349). -/
def State.takeSizes (s : State) : State :=
  if s.rd Dict.STORE_TIER_SIZES_IN_FORCE = s.sizesWanted then s
  else
    let s := s.wr Dict.STORE_TIER_SIZES_IN_FORCE s.sizesWanted
    let s := (List.range 64).foldl (fun s n => if s.rd Dict.INPUT_TIMING_CLASS n = 1 then (s.changeClass n 2 0).tellClass n else s) s
    allCanvases.foldl State.loseTier s

/-- The rules of an entry to RUN, over the values in force: every enabled canvas, then every enabled head (R136,
R487). -/
def State.runRules (s : State) : List (Bool × Refuse) :=
  (allCanvases.filter (fun c => s.flag Dict.CANVAS_ENABLE c)).flatMap s.canvasRules
    ++ (allHeads.filter (fun h => s.flag Dict.HEAD_ENABLE h)).flatMap s.headRules

/-- What refuses an entry to RUN, if anything (R483, R487, R492). -/
def State.judgeRun (s : State) : Option Refuse :=
  if s.devState ≠ 3 ∧ s.devState ≠ 5 then some (.rule 0xD0)
  else if (s.rd Dict.DEVICE_STATE_SAFE_TEMP : Int) * 16 - 80 ≤ s.gov.dieTemp then some (.rule 0xD2)
  else (firstOf s.takeSizes.runRules).map (fun r => { r with detail := 0xD1, abort := 0x08000022 })

/-- RUN is entered: each enabled canvas is to start, and outputs that SAFE silenced start again (R194, R487, log 33). -/
def State.startRun (s : State) (source : Nat) : State :=
  let safe := s.devState == 5
  let s := (s.takeSizes.enterState source 4).milestone 5
  let s := (allCanvases.filter (fun c => s.flag Dict.CANVAS_ENABLE c)).foldl State.armCanvas s
  (if safe then s.startAlone else s).setTargets false

/-- RUN requested (R483, R487). -/
def State.requestRun (s : State) (source : Nat) : Effect :=
  match s.judgeRun with
  | some r => .refused r s
  | none => .done (s.startRun source)

/-- A player stops (R491). -/
def State.stopPlayer (s : State) (n : Nat) : State :=
  if s.rd Dict.POCKET_PLAYER_PLAY_STATE n = 0 ∧ (s.playerAt n).request = 0xFF then s
  else ((s.wr Dict.POCKET_PLAYER_TRANSPORT 0 n).modPlayer n (fun p => { p with request := 0 })).takeTransport n 0

/-- Composition ends: canvases stop at their next base-frame compose latch, captures as CAP_COMMAND 2 stops them, and
players (R194, R491). -/
def State.leaveRun (s : State) : State :=
  let s := allCanvases.foldl (fun s c => s.modCanvas c (fun v =>
    if v.running then { v with stopping := true } else { v with startAfter := 0 })) s
  let s := [0, 1].foldl (fun s k => (s.captureCommand k 2).state) s
  (List.range 32).foldl State.stopPlayer s

/-- STANDBY requested (R483). -/
def State.requestStandby (s : State) (source : Nat) : Effect :=
  if s.devState ≠ 4 ∧ s.devState ≠ 5 then .refused (.rule 0xD0) s
  else
    let safe := s.devState == 5
    let s := s.leaveRun.enterState source 3
    .done (if safe then s.startAlone else s)

/-- SAFE is entered for a cause (R491, R492). -/
def State.enterSafe (s : State) (source cause : Nat) : State :=
  let s := s.leaveRun
  let s := { s with audio := { s.audio with startAt := 0 } }
  let s := starters.foldl (fun s e =>
    if s.starterOn e.1 e.2 ∧ !(s.endpointAt (audioKey e.1 e.2)).stopping then s.beginStop e.1 e.2 else s) s
  let s := (s.wr Dict.DEVICE_STATE_SAFE_CAUSE cause).enterState source 5
  s.raiseBy source Event.SAFE_ENTERED cause (unsigned 32 s.gov.dieTemp)

/-- SAFE requested (R483, R491). -/
def State.requestSafe (s : State) (source : Nat) : Effect :=
  if s.devState ≠ 3 ∧ s.devState ≠ 4 then .refused (.rule 0xD0) s else .done (s.enterSafe source 1)

/-- REQUEST written: 3 STANDBY, 4 RUN, 5 SAFE (Table 18.4). -/
def State.writeRequest (s : State) (sess v : Nat) : Effect :=
  match v with
  | 3 => s.requestStandby sess
  | 4 => s.requestRun sess
  | _ => s.requestSafe sess

/-! ### Reset (R479, R480) -/

/-- Kind of `WireItem.pin`: THERMTRIP_N and its level (R480). -/
abbrev pinThermtrip : Nat := 10

/-- Registers that a reset leaves: those of the tamper domain and of MRAM, and what the supply monitors show. -/
def keptReg (key : Nat) : Bool :=
  [Dict.KEY_STORE_TAMPER_SOURCES.key, Dict.KEY_STORE_HDCP_WRAP_SLOT.key, Dict.KEY_STORE_LAST_TAMPER_S.key,
   Dict.KEY_STORE_TAMPER_CAUSE.key, Dict.KEY_STORE_TAMPER_CAP_OK.key, Dict.KEY_STORE_HDCP_KCV.key,
   Dict.SUPPLY_FLOOR_STATE.key, Dict.SUPPLY_FLOOR_CAUSE.key, Dict.SUPPLY_VNVM.key, Dict.SUPPLY_VIO18.key,
   Dict.SUPPLY_VCTL.key, Dict.SUPPLY_PWR_FAIL.key].contains key

/-- The lifetime counters as the copy in force has them (R463, R464). -/
def State.loadLife (s : State) : State :=
  let c := s.lifeCopy s.lifeInForce
  let l := { Lifetime.init with copies := s.life.copies, secondAt := s.life.secondAt }
  if c.valid then
    { s with
      life := { l with
        opSeconds := c.opSeconds, cycles := c.cycles, brownouts := c.brownouts, patches := c.patches
        checkpoints := c.checkpoints, lastCheckpoint := c.lastCheckpoint, maxTemp := c.maxTemp
        bins := c.bins, samples := c.samples, lastFlush := c.lastFlush }
      resil := { s.resil with weights := c.weights } }
  else { s with life := l }

/-- Generation of the lifetime copy in force, 0 none. -/
def State.lifeGeneration (s : State) : Nat :=
  let c := s.lifeCopy s.lifeInForce
  if c.valid then c.generation else 0

/-- The key store after a reset: the cache is empty, and a write that was not committed leaves the slot as it was (R438,
R445). -/
def KeyStore.settled (k : KeyStore) : KeyStore :=
  { k with
    slots := k.slots.map (fun e =>
      (e.1, { e.2 with
        key := [], state := if e.2.incoming.isSome then e.2.former else e.2.state, incoming := none }))
    challenge := none, transition := none, writing := false, writingSess := 0xFF, hdcpIncoming := none
    glitchArmed := false }

/-- All volatile state is cleared; MRAM, fuses and the pins keep theirs (R479, R486). -/
def State.clearVolatile (s : State) : State :=
  let dev :=
    { Device.init with
      porstN := s.dev.porstN, stopped := s.dev.stopped, straps := s.dev.straps, nextCause := s.dev.nextCause
      restoreMarker := s.dev.restoreMarker, thermtripN := s.dev.thermtripN, overcoatPin := s.dev.overcoatPin }
  let t : State :=
    { State.reset with
      now := s.now, pending := s.pending, wire := s.wire, actor := s.actor, tap := s.tap, draws := s.draws
      regs := s.regs.filter (fun e => keptReg e.1)
      ev := { EventLog.init with ring := s.ev.ring, nextRec := s.ev.nextRec, journal := s.ev.journal }
      copy0 := s.copy0, copy1 := s.copy1
      dram := { Dram.init with trained := s.dram.trained }
      resil := { Resil.init with
        patches := s.resil.patches.filter (fun e => !e.2.pending), retirements := s.resil.retirements }
      keys := s.keys.settled
      life := s.life
      supply := { s.supply with goodSince := 0 }
      dev := dev }
  let t := if t.rd Dict.SUPPLY_FLOOR_STATE = 2 then t.wr Dict.SUPPLY_FLOOR_STATE 1 else t
  t.loadLife.tellAlert s.alertPin

/-- PORST_N goes low: the device is reset, and THERMTRIP_N is released (R479, R480, R483). -/
def State.assertPorst (s : State) : State :=
  if s.dev.porstN then
    let trip := s.dev.stopped
    let s := if trip then s else ((s.actBy pinSource).enterState pinSource 0).dropAll Config.resetCause
    let s := { s with dev := { s.dev with
      porstN := false, stopped := false, thermtripN := true, nextCause := if trip then 3 else 1 } }
    let s := s.clearVolatile
    if trip then s.out (.pin pinThermtrip 0 1) else s
  else s

/-- A reset that the device makes itself, as PORST_N, for a cause of BOOT_CAUSE (R410, R495). -/
def State.resetSelf (s : State) (source cause : Nat) : State :=
  let s := (s.enterState source 0).dropAll Config.resetCause
  let s := { s with dev := { s.dev with porstN := false, nextCause := cause } }
  s.clearVolatile

/-- THERMTRIP: the core is stopped (R480, R507). -/
def State.trip (s : State) : State :=
  if s.dev.stopped then s
  else
    let s := { s with dev := { s.dev with stopped := true, thermtripN := false, nextCause := 3 } }
    s.clearVolatile.out (.pin pinThermtrip 0 0)

/-! ### LOAD: patch map, recorder, keys and configuration (R389, R438, R449, R459, R460, R464, R486) -/

/-- The ring as start-up finds it: slots that do not hold are replayed from the journal or discarded, and each
discarded one is told (R459, R460). -/
def State.loadRing (s : State) (torn badJournal : List Nat) : State :=
  let holds (j : Nat) : Option Rec :=
    ((s.ev.journal.zipIdx.filter (fun e => !badJournal.contains e.2)).find? (fun e => e.1.1 == j)).map (fun e => e.1.2)
  let ring := s.ev.ring.filterMap (fun r =>
    let j := r.seq % 32768
    if torn.contains j then holds j else some r)
  let lost := (s.ev.ring.map (fun r => r.seq % 32768)).filter (fun j => torn.contains j && (holds j).isNone)
  let next := match ring.head? with | some r => (r.seq + 1) % 2 ^ 32 | none => 1
  let s := { s with ev := { s.ev with ring := ring, nextRec := next, torn := lost.length } }
  lost.foldl (fun s j => s.raise Event.RECORD_TORN j 0) s

/-- One patch map entry takes effect before any unit starts (R389). -/
def State.applyPatch (s : State) (p : Patch) : State :=
  let u := unitCode p.kind p.unit
  let s := { s with resil := { s.resil with
    retired := Store.write (fun _ => false) s.resil.retired u true
    unspared := Store.write (fun _ => false) s.resil.unspared u p.noSpare } }
  let spare := if p.spare = 0xFFFFFF then none else some p.spare
  match p.kind with
  | 1 =>
    let s := s.modEngine p.unit (fun g => { g with state := .retired, prior := .retired })
    match spare with
    | some x => if (s.engineAt x).state = .retired then s else s.bringIn 1 p.unit x
    | none => s
  | 5 => { s with dram := { s.dram with remapped := Store.change (fun _ => 0) s.dram.remapped (p.unit / 524288) (· + 1) } }
  | 6 => s.setChannel p.unit 3
  | 7 =>
    let s := s.setLane p.unit .retired
    match spare with
    | some x =>
      let a := s.ulaneAt p.unit
      let place := if a.carries = 0xFF then p.unit else a.carries
      (s.modUlane p.unit (fun a => { a with carries := 0xFF })).modUlane x (fun b => { b with carries := place })
    | none => s
  | 8 => s.setLane (52 + p.unit) .retired
  | _ =>
    let s := if p.kind = 3 ∨ p.kind = 4 ∨ p.kind = 11 then s.setIdle u false else s
    match spare with
    | some x => if s.isRetired (unitCode p.kind x) && p.kind != 2 then s else s.bringIn p.kind p.unit x
    | none =>
      if p.kind = 3 ∧ p.noSpare then { s with liningLostKib := s.liningLostKib + 384 } else s

/-- The patch map loaded (R388, R389). -/
def State.loadPatches (s : State) : State :=
  let s := ((s.resil.patches.filter (fun e => !e.2.cleared)).foldl (fun s e => s.applyPatch e.2) s).countEngines
  [1, 3, 4, 10, 11].foldl (fun s kind =>
    if s.resil.patches.any (fun e => e.2.kind == kind && !e.2.cleared) && (s.freeSpares kind).isEmpty then
      { s with resil := { s.resil with exhausted := Store.write (fun _ => false) s.resil.exhausted kind true } }
    else s) s

/-- The key store at start-up: a fuse that waited is programmed, a generation that MRAM does not know is told, wraps
of past generations are STALE, and every tag is checked (R438, R448, R449). -/
def State.loadKeys (s : State) (badSlots : List Nat) (tamperCap : Bool) : State :=
  let s := s.wrFlag Dict.KEY_STORE_TAMPER_CAP_OK tamperCap
  let s := if s.keys.markOverwrite then { s with keys := { s.keys with markOverwrite := false } }.burnFuse else s
  let s := if s.keys.fuses ≠ s.keys.recorded then
      let s := s.raise Event.TAMPER_FOUND_AT_START s.keys.fuses s.keys.recorded
      { s.clearKeys with keys := { s.clearKeys.keys with overwritePending := true } }
    else s
  let s := { s with keys := { s.keys with glitchArmed := !s.floor } }
  (s.unwrapKeys badSlots).judgeHdcp

/-- What the saved copies give: whether each is valid, and CONFIG_SOURCE (R486, R493). -/
def State.chooseConfig (s : State) (bad : List Nat) : State :=
  let s := { s with
    copy0 := if bad.contains 0 then { s.copy0 with valid := false } else s.copy0
    copy1 := if bad.contains 1 then { s.copy1 with valid := false } else s.copy1 }
  let c := s.savedInForce
  let source := if field s.dev.straps 1 0 ≠ 0 then 3 else if s.dev.restoreMarker ≠ [] then 1 else if c.valid then 0 else 2
  let s := s.wr Dict.DEVICE_STATE_CONFIG_SOURCE source
  let s := if source = 1 then { s with dev := { s.dev with restoring := s.dev.restoreMarker, restoreMarker := [] } } else s
  if source = 2 then
    { s with dev := { s.dev with autoSuppressed := true } }.raise Event.CONFIG_LOAD_FAILED 2 0
  else s.raise Event.CONFIG_LOADED c.generation source

/-- Whether an index starts from its default by a restore marker (R408, R486). -/
def State.restored (s : State) (index : Nat) : Bool := s.dev.restoring.any (fun sub => saveScope sub index)

/-- The saved copy that this start-up loads: none in RECOVERY and TEST or without a valid copy (R486, R493). -/
def State.configCopy (s : State) : SavedCopy :=
  if s.rd Dict.DEVICE_STATE_CONFIG_SOURCE ≤ 1 then s.savedInForce else SavedCopy.init

/-- A saved register, its default where it is restored or not saved. -/
def State.savedReg (s : State) (e : EntryDef) : Nat :=
  if s.restored e.base then dictDefault e.key else Store.read dictDefault s.configCopy.regs e.key

/-- The DRAM settings in force from this release of PORST_N (R360). -/
def State.loadDram (s : State) : State :=
  { s with dram := { s.dram with inForce :=
      [s.savedReg Dict.DRAM_RATE, s.savedReg Dict.DRAM_DEVICE, s.savedReg Dict.DRAM_RANKS, s.savedReg Dict.DRAM_MODE,
       s.savedReg Dict.DRAM_HOST_REGION_MIB] } }

/-- The endpoint at a release of PORST_N: its subsystem identifiers come in force, and its link trains (R79, R90, log
69). -/
def State.loadPcie (s : State) : State :=
  { s with dev := { s.dev with subsystem :=
      [s.savedReg Dict.PCIE_SUBSYS_VENDOR, s.savedReg Dict.PCIE_SUBSYS_ID] } }.wr Dict.PCIE_LINK_STATE 1

/-- Lifetime data at start-up: a copy that does not hold is told, and the power cycle is counted (R463, R464). -/
def State.countCycle (s : State) (bad : List Nat) : State :=
  let copies : Store LifeCopy := s.life.copies.map (fun e =>
    if bad.contains e.1 then (e.1, { e.2 with valid := false }) else e)
  let s := { s with life := { s.life with copies := copies } }
  let s := s.loadLife
  { s with life := { s.life with cycles := (s.life.cycles + 1) % 2 ^ 32, due := true, secondAt := s.now } }

/-- PORST_N rises: the straps are sampled and LOAD begins (R307, R470, R471, R481, R483, R484). -/
def State.beginLoad (s : State) (straps : Nat) (f : LoadFound) : State :=
  let s := s.countCycle f.badLife
  let s := { s with
    timebase := 0, dcoRest := 0
    dev := { s.dev with
      porstN := true, straps := straps, bootCause := s.dev.nextCause, bootAt := s.now
      startTimes := List.replicate 6 0xFFFFFFFF } }
  let s := if s.rd Dict.SUPPLY_FLOOR_STATE = 3 then s.wr Dict.SUPPLY_FLOOR_STATE 0 else s
  let s := { s with supply := { s.supply with heldSincePorst := s.floor } }
  let s := (s.wr Dict.DEVICE_STATE_STATE 1).inc Dict.DEVICE_STATE_STATE_CHANGES
  let s := s.loadRing f.torn f.badJournal
  let by_ := if s.dev.bootCause = 2 ∨ s.dev.bootCause = 4 then s.actor else pinSource
  let s := s.raiseBy by_ Event.DEVICE_STATE_CHANGED 1 0
  let s := s.raiseBy by_ Event.STRAPS_SAMPLED straps s.dev.bootCause
  let s := f.badLife.foldl (fun s k => s.raise Event.CHECKPOINT_COPY_BAD k s.lifeGeneration) s
  let s := (s.loadPatches.loadKeys f.badSlots f.tamperCap).chooseConfig f.badConfig
  s.loadDram.loadPcie.milestone 0

/-- PORST_N is released: LOAD begins, unless THERMTRIP holds the core (R480, R483). -/
def State.releasePorst (s : State) (straps : Nat) (f : LoadFound) : State :=
  if s.dev.porstN then s
  else if s.dev.stopped then { s with dev := { s.dev with porstN := true } }
  else s.beginLoad straps f

end Sys2Proof.Machine
end

