-- ==== Sys2Proof/Machine/Tiles.lean ====
section
/-! DEFINITION. The tile map and calibration tables, the packets of a TILE head, keys and rekeying, and what
receivers report (chapter 9). -/
namespace Sys2Proof.Machine
open Sys2Proof

/-! ### The tile map (R268, R269, R275) -/

/-- Whether a VALID entry is within the field ranges of Table 9.6, reserved bits included (R5, R269). -/
def tileInRange (b : List Byte) : Bool :=
  let e := TileEntry.ofBytes b
  decide (e.tile ≤ 65534 ∧ e.port < 48 ∧ e.canvas < 8 ∧ e.orientation < 8 ∧ 1 ≤ e.w ∧ e.w ≤ 1024 ∧ 1 ≤ e.h
      ∧ e.h ≤ 1024 ∧ e.hem < 16 ∧ -8 ≤ e.seamX ∧ e.seamX ≤ 8 ∧ -8 ≤ e.seamY ∧ e.seamY ≤ 8 ∧ e.flags < 32
      ∧ 1 ≤ e.format ∧ e.format ≤ 3 ∧ leAt b 29 3 = 0)
    && (decide (e.alt < 48) || e.alt == 0xFF) && (decide (e.gamma < 32) || e.gamma == 0xFF)

/-- The ports that an entry names. -/
def TileEntry.ports (e : TileEntry) : List Nat := if e.alt = 0xFF then [e.port] else [e.port, e.alt]

/-- Whether a VALID entry breaks a rule of R261 or R269; `t` holds the shadows with the whole transfer.  Format 0x03 on a
PTL-1 port is refused as Table 9.1 lists it for PTL-2 alone (DEDUCED, log 71). -/
def State.tileBreaks (s t : State) (k : Nat) (b : List Byte) : Bool :=
  let e := TileEntry.ofBytes b
  e.valid && (!tileInRange b || e.alt == e.port || (e.gamma != 0xFF && !s.lutLoaded e.gamma)
    || (e.ports.any (fun p => s.rd Dict.PTL_GENERATION 0 p == 1) && (e.encrypt || e.rxCalib || e.format == 3))
    || t.tileShadow.any (fun x =>
        let o := TileEntry.ofBytes x.2
        x.1 != k && o.valid && o.tile == e.tile && e.ports.any o.ports.contains))

/-- An entry as it is stored: its reserved bits read as zero, also where VALID is clear and nothing is checked (R5,
R269). -/
def tileStored (b : List Byte) : List Byte :=
  b.mapIdx (fun i x => if i = 5 then x % 8 else if i = 15 then x % 16 else if i = 21 then x % 32
    else if 29 ≤ i then 0 else x)

/-- A tile map transfer (R268, R269, R275). -/
def State.writeTiles (s : State) (sess : Nat) (data : List Byte) : Effect :=
  let w := s.window sess Dict.TILE_MAP_CONTROL_MAP_WINDOW
  let entries := chunks 32 data.length data
  let t := putEntries State.putTileShadow (s.deferredWrites.foldl State.applyHeld s) w entries
  match firstBad (fun k b => if s.tileBreaks t k b then some (.tableEntry 0x58 k) else none) w entries with
  | some r =>
    .refused r ((s.wr Dict.TILE_MAP_CONTROL_LAST_BAD_ENTRY r.entry).raiseBy sess Event.TILE_MAP_REFUSED r.entry 0x58)
  | none => .done (((putEntries State.storeTile s w (entries.map tileStored)).countTiles).inUse)

/-- The meaning of TILE_MAP_WRITE (R269). -/
def execTileMapWrite (sess : Fin 12) (data : List Byte) (s : State) : Host.Outcome State Fault Refusal :=
  .next (s.begin.writeBlock sess Dict.TILE_MAP_DATA 0 0 data (fun s => s.writeTiles sess data))

/-- A calibration transfer: every value is legal (R273). -/
def State.writeCalibs (s : State) (sess : Nat) (data : List Byte) : Effect :=
  let w := s.window sess Dict.TILE_MAP_CONTROL_CALIB_WINDOW
  let entries := chunks 24 data.length data
  .done (putEntries State.storeCalib s w entries)

/-- The meaning of CALIBRATION_WRITE (R273). -/
def execCalibrationWrite (sess : Fin 12) (data : List Byte) (s : State) : Host.Outcome State Fault Refusal :=
  .next (s.begin.writeBlock sess Dict.CALIBRATION_DATA 0 0 data (fun s => s.writeCalibs sess data))

/-! ### Packets of a frame (R267, R272, R276, R286) -/

/-- Every 1,024 base frames CALIB is due again (R286). -/
def State.repeatCalib (s : State) (h : Nat) : State :=
  if s.alive ∧ (s.headAt h).running ∧ s.rd Dict.HEAD_TYPE h = 1
    ∧ (s.headAt h).calibBase + 1024 ≤ s.rd Dict.HEAD_STATUS_BASE_FRAME_COUNT h then
    (s.allCalibsDue h).sendCalibs h
  else s

/-- The meaning of CALIB_PERIODIC (R286). -/
def execCalibPeriodic (h : Fin 32) (s : State) : Host.Outcome State Fault Refusal := .next (s.begin.repeatCalib h)

/-- The slot frame that the tiles of head `h` are cut from in a frame, with its stored format: the canvas's front buffer,
BACKGROUND where the scan ran short, or one colour for a frame without content (R241, R243, R272). -/
def State.tileSource (s : State) (h : Nat) : Raster × Nat :=
  let a := s.headAt h
  let c := s.headCanvas h
  let slot := a.carried
  let format := s.headRd h Dict.HEAD_FORMAT
  let flat (v : Nat) : Raster × Nat :=
    (Raster.put ⟨1, 1, []⟩ 0 0 ⟨field v 29 20, field v 19 10, field v 9 0, field v 31 30⟩, 4)
  let blank (r : Raster) (x y n : Nat) : Raster :=
    (List.range n).foldl (fun r i => r.put (x + i) y (s.backgroundPx c format)) r
  match a.shown with
  | .idle => flat (s.headLive h 0)
  | .safe => flat (s.headLive h 3)
  | .background => flat (s.rd Dict.CANVAS_BACKGROUND c)
  | .content =>
    match s.frontKey c slot with
    | some k =>
      let v := s.canvasAt c
      let r := v.damaged.foldl (fun r w => if w.1 = k then blank r w.2.1 w.2.2.1 w.2.2.2 else r)
        (Store.read (fun _ => Raster.init) v.buffers k)
      (a.short.foldl (fun r e => blank r e.2 e.1 (r.width - e.2)) r, format)
    | none => flat (s.rd Dict.CANVAS_BACKGROUND c)
  | .boot => (s.bootRaster c slot format, format)

/-- The packets of a tile that are due on one of its ports, in line order (R276), as the frame in progress took the
tile's entry and calibration (R133).  Each port cuts them by its own MTU (log 71). -/
def State.sendPixels (s : State) (h k : Nat) (alt : Bool) : State :=
  let v := s.asScanned h
  let e := TileEntry.ofBytes (v.tileEntryAt k)
  let p := if alt then e.alt else e.port
  let a := s.headAt h
  let all := s.tilePackets e p
  let ready := (all.takeWhile (fun x => decide (a.frameStart + s.packetReady h e x ≤ s.timebase))).length
  let key := 2 * k + alt.toNat
  let done := Store.read (fun _ => 0) a.sent key
  let (r, format) := v.tileSource h
  if bit (s.rd Dict.HEAD_PORT_MASK h) p = false ∨ ready ≤ done then s
  else
    let s := ((List.range all.length).filter (fun i => decide (done ≤ i ∧ i < ready))).foldl (fun s i =>
      let x := (all[i]?).getD (0, 0)
      s.sendPtl p e.mac e.encrypt e.encrypt
        { type := 2, first := i == 0, last := i + 1 == all.length, alt := alt, slot := s.ptlSlot h
          frame := s.ptlFrame h, tile := e.tile, line := x.1, format := e.format, lines := x.2
          payload := v.pixelsPayload e format r x.1 x.2 }) s
    s.modHead h (fun a => { a with sent := Store.write (fun _ => 0) a.sent key ready })

/-- What a TILE head has to send of a tile's frame leaves on its ports (R269, R274, R276). -/
def State.sendTile (s : State) (h k : Nat) : State :=
  let v := s.asScanned h
  let b := v.tileEntryAt k
  let e := TileEntry.ofBytes b
  if s.alive ∧ (s.headAt h).running ∧ v.sendsEntry h b ∧ s.tileInside e ∧ bit e.pattern (s.headAt h).carried then
    (s.sendPixels h k false).sendPixels h k true
  else s

/-- The meaning of PIXELS_SEND (R276). -/
def execPixelsSend (h : Fin 32) (k : Fin 65536) (s : State) : Host.Outcome State Fault Refusal :=
  .next (s.begin.sendTile h k)

/-! ### Keys (R280 to R283) -/

/-- KEY_SLOT written: a rekey brings it into use (R280, R282, R289). -/
def State.writeKeySlot (s : State) (v : Nat) : Effect :=
  .unless (v != 0xFF && !s.derives v) (.rule 0x5A) s (.done (s.wr Dict.PTL_KEY_SLOT v).startRekey)

/-- The meaning of KEY_SLOT_WRITE (R280). -/
def execKeySlotWrite (sess : Fin 12) (value : Nat) (s : State) : Host.Outcome State Fault Refusal :=
  .next (s.begin.writeScalar sess Dict.PTL_KEY_SLOT 0 0 value (fun s => s.writeKeySlot value))

/-- The meaning of REKEY (R282). -/
def execRekey (sess : Fin 12) (value : Nat) (s : State) : Host.Outcome State Fault Refusal :=
  .next (s.begin.writeScalar sess Dict.PTL_REKEY 0 0 value (fun s => .done s.startRekey))

/-- The 9th frame of a rekey is due, or no TILE head runs to count its frames (R282, log 22). -/
def State.rekeyDue (s : State) : Bool :=
  s.alive && s.ptl.countdown != 0 &&
    match s.rekeyHead with
    | none => true
    | some h => s.ptl.countdown == 1 && (match s.nextFrame h with | some t => decide (t ≤ s.timebase) | none => false)

/-- The meaning of PTL_REKEY (R282). -/
def execPtlRekey (s : State) : Host.Outcome State Fault Refusal :=
  .next (if s.begin.rekeyDue then s.begin.finishRekey else s.begin)

/-! ### Receivers (R266, R284 to R286) -/

/-- The entry in force that a STATUS matches (R285). -/
def State.tileOf (s : State) (p tile : Nat) : Option Nat :=
  (s.tileMap.find? (fun x =>
    let e := TileEntry.ofBytes x.2
    e.valid && e.tile == tile && e.ports.contains p)).map Prod.fst

/-- A packet whose tag fails, or that carries none while keys are in use (R284). -/
def State.rejectStatus (s : State) (p tile : Nat) : State :=
  let s := s.inc Dict.PTL_AUTH_REJECTS
  if s.authFailAt p = 0 ∨ s.authFailAt p - 1 + nsPerS ≤ s.now then
    (s.putAuthFail p (s.now + 1)).raise Event.PTL_AUTH_FAIL p tile
  else s

/-- Whether the tag of a STATUS holds under the port's key (R281). -/
def State.statusTag (s : State) (p : Nat) (data : List Byte) : Bool :=
  let head := data.take 16
  let nonce := (head.drop 4).take 4 ++ (head.drop 2).take 1 ++ [5] ++ (head.drop 8).take 4 ++ [0, 0]
  bit (byteAt data 1) 0
    && (gcmOpen (s.portKey p s.salt) nonce (data.take 48) [] ((data.drop 48).take 16)).isSome

/-- TILE_STATUS of entry `k` after a STATUS on port `p` with payload `b` (R285, Table 9.13). -/
def State.noteStatus (s : State) (k p : Nat) (b : List Byte) : State :=
  let x := s.tileAt k
  let flags := byteAt b 10
  let alarm := field flags 4 1
  let late := beNat ((b.drop 16).take 2)
  let tell := decide (x.incomplete < late) && (x.lateAt == 0 || decide (x.lateAt - 1 + nsPerS ≤ s.now))
  let y : Tile :=
    { state := if alarm = 0 then 1 else 3, flags := flags, temperature := byteAt b 11, port := p
      seenAt := s.now + 1, watchAt := s.now + 1, lateAt := if tell then s.now + 1 else x.lateAt
      incomplete := late, authFailures := beNat ((b.drop 18).take 2), presented := beNat ((b.drop 12).take 4) }
  let s := s.putTile k y
  let s := s.raiseIf (x.state == 2) Event.TILE_RETURNED k ((s.now + 1 - x.watchAt) / 1000000)
  let s := s.raiseIf (alarm != 0 && field x.flags 4 1 == 0) Event.TILE_ALARM k flags
  (s.raiseIf tell Event.TILE_LATE k late).countTiles

/-- An EtherType 0x88B5 frame arrives on port `p` (R266, R284, R285).  STATUS is never encrypted, and PTL-1 packets carry
no tag (Table 9.4, R261). -/
def State.receiveStatus (s : State) (p : Nat) (data : List Byte) : State :=
  let tile := beNat ((data.drop 8).take 2)
  let auth := bit (byteAt data 1) 0
  let gen := s.rd Dict.PTL_GENERATION 0 p
  let keyed := gen == 2 && s.rd Dict.PTL_KEY_STATE == 1
  if s.alive ∧ (s.rd Dict.PORT_STATE p = 2 ∨ s.rd Dict.PORT_STATE p = 3) then
    if gen = 0 ∨ byteAt data 0 ≠ 16 * gen + 5 ∨ bit (byteAt data 1) 1 ∨ (gen = 1 ∧ auth) ∨ beNat ((data.drop 13).take 2) ≠ 32
      ∨ data.length ≠ 48 + (if auth then 16 else 0) then s.inc Dict.PORT_RX_DISCARDS p
    else if keyed && !s.statusTag p data then s.rejectStatus p tile
    else
      match s.tileOf p tile with
      | none => s.inc Dict.PORT_RX_DISCARDS p
      | some k => (s.inc Dict.PORT_RX_FRAMES p).noteStatus k p ((data.drop 16).take 32)
  else s

/-- The meaning of STATUS_RECEIVED (R285). -/
def execStatusReceived (p : Fin 48) (data : List Byte) (s : State) : Host.Outcome State Fault Refusal :=
  .next (s.begin.receiveStatus p data)

/-- A tile in force and sent that has sent no STATUS for STATUS_TIMEOUT (R285). -/
def State.missTile (s : State) (k : Nat) : State :=
  let e := TileEntry.ofBytes (s.tileEntryAt k)
  let x := s.tileAt k
  if s.alive ∧ e.valid ∧ e.noStatus = false ∧ x.state ≠ 2 ∧ s.skippedTiles.contains k = false ∧ x.watchAt ≠ 0
    ∧ x.watchAt - 1 + s.rd Dict.PTL_STATUS_TIMEOUT * 1000000 ≤ s.now then
    ((s.putTile k { x with state := 2 }).countTiles).raise Event.TILE_MISSING k e.tile
  else s

/-- The meaning of TILE_MISSING (R285). -/
def execTileMissing (k : Fin 65536) (s : State) : Host.Outcome State Fault Refusal := .next (s.begin.missTile k)

/-- A packet to every tile or one, with the port's packet counter (Table 9.3). -/
def State.sendCounted (s : State) (p dest type tile : Nat) (payload : List Byte) : State :=
  let (n, s) := s.nextPtlCount p
  s.sendPtl p dest true false
    { type := type, first := false, last := false, alt := false, slot := 0, frame := n, tile := tile, line := 0
      format := 0, lines := 0, payload := payload }

/-- Ports that carry the tile link and are up. -/
def State.ptlPorts (s : State) : List Nat :=
  (List.range 48).filter (fun p =>
    s.rd Dict.PTL_GENERATION 0 p != 0 && (s.rd Dict.PORT_STATE p == 2 || s.rd Dict.PORT_STATE p == 3))

/-- HEARTBEAT on every tile link port (R286, Table 9.4). -/
def State.sendHeartbeat (s : State) : State :=
  if s.alive ∧ (s.ptl.heartbeatAt = 0 ∨ s.since s.ptl.heartbeatAt (s.rd Dict.PTL_HEARTBEAT_INTERVAL * 1000000)) then
    let payload := beBytes 4 s.life.opSeconds ++ beBytes 1 s.devState ++ zeros 11
    s.ptlPorts.foldl (fun s p => s.sendCounted p (s.rd Dict.PTL_BEACON_MAC) 6 0xFFFF payload)
      { s with ptl := { s.ptl with heartbeatAt := s.now + 1 } }
  else s

/-- The meaning of HEARTBEAT (R286). -/
def execHeartbeat (s : State) : Host.Outcome State Fault Refusal := .next s.begin.sendHeartbeat

/-- CONTROL_TX written: its payload leaves at once (R283, R286). -/
def State.sendControl (s : State) (sess : Nat) (data : List Byte) : Effect :=
  let p := s.rd Dict.PTL_CONTROL_PORT
  let tile := s.rd Dict.PTL_CONTROL_TILE
  let dest := if tile = 0xFFFF then s.rd Dict.PTL_BEACON_MAC
    else match s.tileOf p tile with
      | some k => (TileEntry.ofBytes (s.tileEntryAt k)).mac
      | none => Config.unknownMac tile
  let ports := if tile = 0xFFFF then s.ptlPorts else s.ptlPorts.filter (· == p)
  .unless (s.rd Dict.PTL_KEY_STATE == 2) (.rule 0x5B) s
    (if ports.isEmpty then .done s
     else
      .done (((ports.foldl (fun s p => s.sendCounted p dest 4 tile data) s).inc Dict.PTL_CONTROL_SENT).raiseBy sess
        Event.PTL_CONTROL_SENT tile data.length))

/-- The meaning of CONTROL_TX (R286). -/
def execControlTx (sess : Fin 12) (data : List Byte) (s : State) : Host.Outcome State Fault Refusal :=
  .next (s.begin.writeBlock sess Dict.PTL_CONTROL_TX 0 0 data (fun s => s.sendControl sess data))

end Sys2Proof.Machine
end

