-- ==== Sys2Proof/Machine/Flags.lean ====
section
/-! DEFINITION. Status words and counts that the state gives: flags and states of the resilience, key store and saving
objects.  Those that events and pins need stand with them in Ops.lean. -/
namespace Sys2Proof.Machine
open Sys2Proof

/-- Spares that a kind has in all, 0xFF where they are per row or per channel (Tables 13.1 and 13.5). -/
def State.sparesTotal (s : State) : Nat → Nat
  | 1 => 8 | 2 => 0xFF | 3 => 64 | 4 => 16 | 5 => 0xFF | 6 => 0xFF | 7 => s.spareLanes.length | 10 => 8 | 11 => 64 | _ => 0

/-- Units of a kind that are retired. -/
def State.retiredOf (s : State) (kind : Nat) : Nat :=
  (s.resil.retired.filter (fun e => e.1 / 2 ^ 24 == kind && e.2)).length

/-- Patch map entries of units in service retired with no spare and not cleared. -/
def State.unsparedOf (s : State) (kind : Nat) : Nat :=
  (s.resil.unspared.filter (fun e => e.1 / 2 ^ 24 == kind && e.2)).length

/-- FLAGS of RESILIENCE, Table 13.4. -/
def State.resilienceFlags (s : State) : Nat :=
  (s.resil.exhausted.any (fun e => e.2)).toNat
    + 2 * (s.resil.unspared.any (fun e => e.2)).toNat
    + 4 * (decide (0 < s.patchesWaiting)).toNat + 8 * (decide (512 ≤ s.patchCount)).toNat

/-- STATE codes of a key slot (Table 16.7). -/
def SlotState.code : SlotState → Nat
  | .empty => 0 | .loaded => 1 | .loading => 2 | .bad => 3 | .spare => 4 | .patch => 5 | .stale => 6

/-- STATE of KEY_STORE, Table 16.6 (log 30). -/
def State.keyStoreState (s : State) : Nat :=
  if s.keys.overwritePending then 2 else if s.keys.lifecycle = 4 then 3 else if s.keys.writing then 1 else 0

/-- IN_FORCE of a slot, Table 16.7; 0 where it holds no key. -/
def State.slotInForce (s : State) (n : Nat) : Nat :=
  let k := s.namedSlot n
  if k.key.isEmpty then 0 else k.attr + 2 ^ 8 * k.algorithm + 2 ^ 16 * k.owner + 2 ^ 24 * k.root

/-- PATROL_STATE, Table 13.4: background work 1. -/
def State.patrolState (s : State) : Nat :=
  if Store.read (fun _ => false) s.gov.forced 1 then 2 else if s.yielded 1 6 1 then 1 else 0

/-- STORE_STATE, Table 14.15. -/
def State.storeState (s : State) : Nat :=
  if s.staging.isSome then 2 else s.rd Dict.MANAGEMENT_STORE_STATE

/-- DIRTY_HEADS, Table 9.11. -/
def State.dirtyHeads (s : State) : Nat :=
  maskOf (allHeads.filter (fun h => !(s.headDirtyTiles h).isEmpty || !(s.headDirtyCalibs h).isEmpty))

end Sys2Proof.Machine
end

