-- ==== Sys2Proof/Machine/Reads.lean ====
section
/-! DEFINITION. What a read of each entry returns: registers, shadows of STITCH fields (R127), values held once per
session (R399) and the values that the state gives. -/
namespace Sys2Proof.Machine
open Sys2Proof

/-! ### Histograms -/

/-- Bin `k` of histogram `n`: what was flushed and what has accumulated since, saturating (R465, R474). -/
def State.binShown (s : State) (n k : Nat) : Nat :=
  min (Store.read (fun _ => 0) s.life.bins (16 * n + k) + Store.read (fun _ => 0) s.life.acc (16 * n + k)) (2 ^ 32 - 1)

/-- SAMPLES of histogram `n`, with those that have accumulated since the last flush (R474). -/
def State.samplesShown (s : State) (n : Nat) : Nat :=
  (Store.read (fun _ => 0) s.life.samples n
    + ((List.range 16).map (fun k => Store.read (fun _ => 0) s.life.acc (16 * n + k))).sum) % 2 ^ 64

/-! ### Tables as bytes -/

/-- Bytes of RATIO_TABLE, Table 2.11. -/
def State.ratioTable (s : State) : List Byte :=
  allEngines.flatMap (fun e =>
    let g := s.engineAt e
    let st := match g.state with | .active => 0 | .lagging => 1 | .spare => 2 | .retired => 3 | .resetting => 4
    let ratio := if st = 2 ∨ st = 3 then 0 else g.ratio
    leBytes 4 (st * 2 ^ 24 + g.credit * 2 ^ 16 + ratio))

/-- Bytes of FAULT_TABLE, Table 6.7. -/
def State.faultTable (s : State) : List Byte :=
  allEngines.flatMap (fun e =>
    let g := s.engineAt e
    leBytes 4 (saturate 32 g.eccCorrected) ++ leBytes 2 (saturate 16 g.eccUncorrected)
      ++ leBytes 2 (saturate 16 g.parity) ++ leBytes 2 (saturate 16 g.timeouts) ++ leBytes 2 (saturate 16 g.resets)
      ++ leBytes 4 (saturate 32 g.strips))

/-- Bytes of a coefficient bank, Table 6.2; nothing where none is loaded (log 34). -/
def State.bankBytes (s : State) (k : Nat) : List Byte :=
  if 4 ≤ k then s.bankAt k
  else (List.range 512).flatMap (fun i => leBytes 2 (unsigned 16 (s.bankTap k (i / 8) (i % 8))))

/-- Bytes of a library LUT (R191); nothing where none is loaded (log 34). -/
def State.lutBytes (s : State) (k : Nat) : List Byte :=
  if 8 ≤ k then s.lutAt k else (List.range 4096).flatMap (fun i => leBytes 2 (s.lutEntry k i))

/-- Bytes of an entry of TILE_STATUS, Table 9.13. -/
def State.tileStatusBytes (s : State) (k : Nat) : List Byte :=
  let x := s.tileAt k
  let age := if x.seenAt = 0 then 2 ^ 32 - 1 else saturate 32 ((s.now + 1 - x.seenAt) / 1000000)
  leBytes 1 x.state ++ leBytes 1 x.flags ++ leBytes 1 x.temperature ++ leBytes 1 x.port ++ leBytes 4 age
    ++ leBytes 2 x.incomplete ++ leBytes 2 x.authFailures ++ leBytes 4 x.presented

/-- Bytes of SPARE_STATUS, Table 13.5. -/
def State.spareStatus (s : State) : List Byte :=
  (List.range 11).flatMap (fun i =>
    let kind := i + 1
    let total := s.sparesTotal kind
    let free := if total = 0xFF then 0xFF else (s.freeSpares kind).length
    leBytes 1 total ++ leBytes 1 free ++ leBytes 1 (saturate 8 (s.retiredOf kind))
      ++ leBytes 1 (saturate 8 (s.unsparedOf kind)))

/-- Bytes of a patch map entry, Table 13.6. -/
def State.patchBytesAt (s : State) (n : Nat) : List Byte :=
  match s.patchAt n with
  | none => zeros 16
  | some p =>
    leBytes 1 p.kind ++ leBytes 1 ((!p.cleared).toNat + 2 * p.noSpare.toNat + 4 * p.cleared.toNat) ++ leBytes 3 p.unit
      ++ leBytes 3 p.spare ++ leBytes 1 p.cause ++ leBytes 1 p.weight ++ leBytes 2 p.cycles ++ leBytes 4 p.opSeconds

/-- Units whose weight is not 0, in kind and unit order, at most 1,024 (R394). -/
def State.weighed (s : State) : List (Nat × Weight) :=
  (s.resil.weights.filter (fun e => e.2.weight != 0)).take 1024

/-- Bytes of an entry of the weight list (R394). -/
def State.weightBytes (s : State) (e : Nat × Weight) : List Byte :=
  let ops := s.life.opSeconds
  leBytes 1 (e.1 / 2 ^ 24) ++ leBytes 3 (e.1 % 2 ^ 24) ++ leBytes 1 e.2.weight ++ zeros 1
    ++ leBytes 2 (saturate 16 (e.2.faultTimes.filter (fun t => decide (ops < t + 86400))).length)

/-- The table entries that a read returns: `limit` at most, from a session's window on. -/
def State.fromWindow (s : State) (k : Nat) (w : EntryDef) (limit entries : Nat) (f : Nat → List Byte) : List Byte :=
  let start := s.window k w
  (List.range (min limit (entries - start))).flatMap (fun i => f (start + i))

/-! ### Values by entry -/

/-- Scalars below 0x2400 that are not plain registers: value in instance `n`, item `j`, for session `k`. -/
def State.scalarsLow (s : State) (k : Nat) : List (EntryDef × (Nat → Nat → Nat)) :=
  let u := s.sessAt k
  [(Dict.ERROR_REGISTER_VALUE, fun _ _ => s.errorRegister),
   (Dict.DEVICE_STATE_STRAPS, fun _ _ => s.dev.straps),
   (Dict.DEVICE_STATE_BOOT_CAUSE, fun _ _ => s.dev.bootCause),
   (Dict.LIFECYCLE_STATE, fun _ _ => s.keys.lifecycle),
   (Dict.LIFECYCLE_CHALLENGE, fun _ _ => s.drawChallenge.keys.challenge.getD 0),
   (Dict.LIFECYCLE_ROOTS, fun _ _ => 7),
   (Dict.SESSION_RIGHTS_RIGHTS, fun _ _ => u.rights.rank),
   (Dict.SESSION_RIGHTS_SESSION, fun _ _ => k),
   (Dict.SESSION_RIGHTS_AUTH_SLOT, fun _ _ => u.authSlot),
   (Dict.SESSION_RIGHTS_AUTH_RIGHTS, fun _ _ => u.authRights),
   (Dict.SESSION_RIGHTS_FAILURES, fun _ _ => u.failures),
   (Dict.LAST_REFUSAL_INDEX, fun _ _ => u.refIndex),
   (Dict.LAST_REFUSAL_SUB, fun _ _ => u.refSub),
   (Dict.LAST_REFUSAL_ABORT, fun _ _ => u.refAbort),
   (Dict.LAST_REFUSAL_DETAIL, fun _ _ => u.refDetail),
   (Dict.LAST_REFUSAL_FIELD_INDEX, fun _ _ => u.refFieldIndex),
   (Dict.LAST_REFUSAL_FIELD_SUB, fun _ _ => u.refFieldSub),
   (Dict.LAST_REFUSAL_ENTRY, fun _ _ => u.refEntry),
   (Dict.LAST_REFUSAL_TIME_S, fun _ _ => u.refTimeS),
   (Dict.LAST_REFUSAL_TIME_NS, fun _ _ => u.refTimeNs),
   (Dict.LAST_REFUSAL_COUNT, fun _ _ => u.refCount),
   (Dict.EVENT_QUEUE_NEWEST_SEQ, fun _ _ => s.newestSeq),
   (Dict.EVENT_QUEUE_OLDEST_SEQ, fun _ _ => s.oldestSeq),
   (Dict.EVENT_QUEUE_CURSOR, fun _ _ => u.cursor),
   (Dict.EVENT_QUEUE_MIN_SEVERITY, fun _ _ => u.minSeverity),
   (Dict.EVENT_QUEUE_LOST, fun _ _ => u.lost),
   (Dict.EVENT_QUEUE_EVT_N_STATE, fun _ _ => s.ev.evtN.toNat),
   (Dict.EVENT_QUEUE_HOST_RING_DROPPED, fun _ _ => s.ev.hostDropped),
   (Dict.HENTIS_FLAGS, fun _ _ => s.hentisFlags),
   (Dict.HENTIS_DCO_WORD, fun _ _ => unsigned 64 s.dcoWord),
   (Dict.REF_WTR_REMAINING, fun n _ => s.wtrRemaining n),
   (Dict.REF_PTP_DOMAIN, fun n _ => s.ptpOnly Dict.REF_PTP_DOMAIN n),
   (Dict.REF_PTP_DELAY_MODE, fun n _ => s.ptpOnly Dict.REF_PTP_DELAY_MODE n),
   (Dict.REF_GM_IDENTITY, fun n _ => s.ptpOnly Dict.REF_GM_IDENTITY n),
   (Dict.REF_MEAN_PATH_DELAY, fun n _ => s.ptpOnly Dict.REF_MEAN_PATH_DELAY n),
   (Dict.REF_PTP_PORT_STATE, fun n _ => s.ptpOnly Dict.REF_PTP_PORT_STATE n),
   (Dict.REF_UTC_OFFSET, fun n _ => s.ptpOnly Dict.REF_UTC_OFFSET n),
   (Dict.REF_TIME_TRACEABLE, fun n _ => s.ptpOnly Dict.REF_TIME_TRACEABLE n),
   (Dict.SELECTOR_SLEW_REMAINING, fun _ _ => s.slewRemaining),
   (Dict.SELECTOR_RANKING, fun _ _ => s.rankingWord),
   (Dict.HOLDOVER_VALID, fun _ _ => s.holdNow.isSome.toNat),
   (Dict.HOLDOVER_VALUE, fun _ _ => unsigned 64 ((s.holdNow.map Prod.fst).getD 0)),
   (Dict.HOLDOVER_ELAPSED, fun _ _ => s.holdElapsed),
   (Dict.HOLDOVER_VALID_ENTRIES, fun _ _ => (s.hentis.history.filter (·.valid)).length),
   (Dict.HOLDOVER_ENTRIES_USED, fun _ _ => (s.holdNow.map Prod.snd).getD 0),
   (Dict.TIMEBASE_TIME_S, fun _ _ => s.tS),
   (Dict.TIMEBASE_PTP_OFFSET, fun _ _ => (s.ptpOffset.map (unsigned 64)).getD (2 ^ 63)),
   (Dict.U_LANE_STATE, fun n _ => (s.ulaneAt n).state.code),
   (Dict.U_LANE_PORT, fun n _ => s.lanePort n),
   (Dict.U_LANE_LINE_RATE, fun n _ => s.laneLineRate n),
   (Dict.D_LANE_STATE, fun n _ => (s.dlaneAt n).state.code),
   (Dict.MANAGEMENT_UDP_SESSIONS, fun _ _ => s.udpOpen),
   (Dict.MANAGEMENT_BASE_RIGHTS_PCIE, fun _ _ => (s.baseRights 3).rank),
   (Dict.MANAGEMENT_STORE_STATE, fun _ _ => s.storeState),
   (Dict.MANAGEMENT_STORE_GENERATION, fun _ _ => s.savedInForce.generation),
   (Dict.MANAGEMENT_RESTORE_PENDING, fun _ _ => (!s.dev.restoreMarker.isEmpty).toNat)]

/-- The same from 0x2400 on. -/
def State.scalarsHigh (s : State) (k : Nat) : List (EntryDef × (Nat → Nat → Nat)) :=
  [(Dict.INPUT_ACTIVE_CONVERSION, fun n _ => s.conversionOf n),
   (Dict.HEAD_COMMIT_SHADOW_DIRTY, fun n _ => (s.shadowDirty 1 n).toNat),
   (Dict.CANVAS_COMMIT_SHADOW_DIRTY, fun n _ => (s.shadowDirty 2 n).toNat),
   (Dict.CANVAS_LEAD_HEAD, fun n _ => (s.leadHead n).getD 0xFF),
   (Dict.OVERCOAT_IMAGE_CRC, fun _ _ => s.imageCrcAt (s.window k Dict.OVERCOAT_IMAGE_WINDOW)),
   (Dict.TILE_MAP_CONTROL_DIRTY_HEADS, fun _ _ => s.dirtyHeads),
   (Dict.TILE_MAP_CONTROL_SKIPPED, fun _ _ => s.skippedTiles.length),
   (Dict.AUDIO_MATRIX_CHANNELS_ACTIVE, fun _ _ =>
     ((List.range 256).filter (fun c => bit (byteAt (s.channelEntryAt c) 4) 0)).length),
   (Dict.AUDIO_MATRIX_CHANNELS_GATED, fun _ _ => (s.channels.filter (fun e => e.2.gated)).length),
   (Dict.AUDIO_START_STATE, fun _ _ => s.audioStartState),
   (Dict.RESILIENCE_PATROL_STATE, fun _ _ => s.patrolState),
   (Dict.RESILIENCE_RETIRED_UNITS, fun _ _ => (s.resil.retired.filter (fun e => e.2)).length),
   (Dict.RESILIENCE_FLAGS, fun _ _ => s.resilienceFlags),
   (Dict.RESILIENCE_RETIREMENTS, fun _ _ => s.resil.retirements),
   (Dict.PATCH_MAP_ENTRIES, fun _ _ => s.patchCount),
   (Dict.FAULT_WEIGHTS_LISTED, fun _ _ => s.weighed.length),
   (Dict.KEY_STORE_STATE, fun _ _ => s.keyStoreState),
   (Dict.KEY_STORE_TAMPER_GENERATION, fun _ _ => s.keys.fuses),
   (Dict.KEY_STORE_USABLE_SLOTS, fun _ _ => ((List.range 64).filter s.usable).length),
   (Dict.KEY_STORE_SPARES_FREE, fun _ _ => (s.freeSpares 10).length),
   (Dict.KEY_SLOT_STATE, fun n _ => (s.slotAt n).state.code),
   (Dict.KEY_SLOT_KCV, fun n _ => (s.namedSlot n).kcv),
   (Dict.KEY_SLOT_IN_FORCE, fun n _ => s.slotInForce n),
   (Dict.KEY_SLOT_SERVES, fun n _ => (s.slotAt n).serves),
   (Dict.KEY_SLOT_WRITES, fun n _ => (s.namedSlot n).writes),
   (Dict.RECORDER_NEWEST_SEQ, fun _ _ => s.newestRec),
   (Dict.RECORDER_OLDEST_SEQ, fun _ _ => s.oldestRec),
   (Dict.RECORDER_RECORDS, fun _ _ => s.ev.ring.length),
   (Dict.RECORDER_MERGES, fun _ _ => s.ev.merges),
   (Dict.RECORDER_QUEUED, fun _ _ => s.ev.deferred.length),
   (Dict.RECORDER_DROPPED, fun _ _ => s.ev.dropped),
   (Dict.RECORDER_TORN, fun _ _ => s.ev.torn),
   (Dict.LIFETIME_OPERATING_SECONDS, fun _ _ => s.life.opSeconds),
   (Dict.LIFETIME_POWER_CYCLES, fun _ _ => s.life.cycles),
   (Dict.LIFETIME_BROWNOUTS, fun _ _ => s.life.brownouts),
   (Dict.LIFETIME_TAMPER_GENERATION, fun _ _ => s.keys.recorded),
   (Dict.LIFETIME_PATCHES_APPLIED, fun _ _ => s.life.patches),
   (Dict.LIFETIME_CHECKPOINTS, fun _ _ => s.life.checkpoints),
   (Dict.LIFETIME_LAST_CHECKPOINT, fun _ _ => s.life.lastCheckpoint),
   (Dict.LIFETIME_MAX_DIE_TEMP, fun _ _ => unsigned 16 s.life.maxTemp),
   (Dict.HISTOGRAM_BIN, fun n j => s.binShown n j),
   (Dict.HISTOGRAM_SAMPLES, fun n _ => s.samplesShown n),
   (Dict.HISTOGRAM_LAST_FLUSH, fun n _ => Store.read (fun _ => 0) s.life.lastFlush n),
   (Dict.SUPPLY_RESUME_REMAINING, fun _ _ => s.resumeRemaining)]

/-- Blocks that are not plain DOMAIN registers. -/
def State.blocks (s : State) (k : Nat) : List (EntryDef × (Nat → Nat → List Byte)) :=
  let win (e : EntryDef) : Nat := s.window k e
  let forced := s.flag Dict.TILE_MAP_CONTROL_READ_IN_FORCE
  [(Dict.DEVICE_NAME_VALUE, fun _ _ => ascii "BX6480"),
   (Dict.HW_VERSION_VALUE, fun _ _ => Config.hwVersion),
   (Dict.SW_VERSION_VALUE, fun _ _ => Config.swVersion),
   (Dict.DEVICE_STATE_START_TIMES, fun _ _ => s.dev.startTimes.flatMap (leBytes 4)),
   (Dict.DEVICE_STATE_BIST_FAILURES, fun _ _ =>
     s.dev.bistFailures.flatMap (fun e => leBytes 1 e.1 ++ leBytes 3 e.2)),
   (Dict.SESSION_RIGHTS_DEVICE_NONCE, fun _ _ => (s.sessAt k).deviceNonce),
   (Dict.SESSION_RIGHTS_DEVICE_PROOF, fun _ _ => (s.sessAt k).deviceProof),
   (Dict.ISLAND_PACE_RATIO_TABLE, fun _ _ => s.ratioTable),
   (Dict.HOLDOVER_HISTORY, fun _ _ => s.historyBytes),
   (Dict.ROUTE_TABLE_DATA, fun _ _ => s.fromWindow k Dict.ROUTE_CONTROL_TABLE_WINDOW 512 16384 s.routeAt),
   (Dict.ROUTE_CONTROL_OUTPUT_MAP, fun _ _ => (List.range 8192).flatMap (fun o => leBytes 2 (s.activeAt o))),
   (Dict.ENGINE_POOL_FAULT_TABLE, fun _ _ => s.faultTable),
   (Dict.COEFF_BANKS_BANK_DATA, fun _ _ => s.bankBytes (win Dict.COEFF_BANKS_BANK_WINDOW)),
   (Dict.COLOUR_LUTS_LUT_DATA, fun _ _ => s.lutBytes (win Dict.COLOUR_LUTS_LUT_WINDOW)),
   (Dict.COLOUR_LUTS_LUT3D_DATA, fun _ _ => s.lut3dAt (win Dict.COLOUR_LUTS_LUT3D_WINDOW)),
   (Dict.OVERCOAT_IMAGE_DESC, fun _ _ => s.imageDescAt (win Dict.OVERCOAT_IMAGE_WINDOW)),
   (Dict.OVERCOAT_IMAGE_DATA, fun _ _ => s.imageDataAt (win Dict.OVERCOAT_IMAGE_WINDOW)),
   (Dict.HEAD_NEW_TIMING, fun n _ => s.newTiming n),
   (Dict.HEAD_STATUS_CHECK_COUNTS, fun n _ =>
     (List.range 16).flatMap (fun w =>
       leBytes 4 (Store.read (fun _ => 0) (s.headAt n).checked w)
         ++ leBytes 4 (Store.read (fun _ => 0) (s.headAt n).mismatches w))),
   (Dict.TILE_MAP_DATA, fun _ _ => s.fromWindow k Dict.TILE_MAP_CONTROL_MAP_WINDOW 512 65536
     (fun i => if forced then s.tileEntryAt i else s.tileShadowAt i)),
   (Dict.CALIBRATION_DATA, fun _ _ => s.fromWindow k Dict.TILE_MAP_CONTROL_CALIB_WINDOW 512 65536
     (fun i => if forced then s.calibAt i else s.calibShadowAt i)),
   (Dict.PTL_TILE_STATUS, fun _ _ => s.fromWindow k Dict.PTL_TILE_WINDOW 512 65536 s.tileStatusBytes),
   (Dict.AUDIO_MATRIX_CHANNEL_TABLE, fun _ _ =>
     s.fromWindow k Dict.AUDIO_MATRIX_CHANNEL_WINDOW 256 256 s.channelEntryAt),
   (Dict.AUDIO_MATRIX_STREAM_TABLE, fun _ _ =>
     s.fromWindow k Dict.AUDIO_MATRIX_STREAM_WINDOW 128 128 s.streamEntryAt),
   (Dict.DRAM_CHANNEL_STATE, fun _ _ => (List.range 24).flatMap (fun m => leBytes 1 (s.channelShown m))),
   (Dict.DRAM_REMAPPED_ROWS, fun _ _ => (List.range 24).flatMap (fun m => leBytes 2 (s.remapsOf m))),
   (Dict.POCKET_DIRECTORY, fun _ _ => s.fromWindow k Dict.POCKET_DIR_WINDOW 64 4096
     (fun i => (Store.read (fun _ => Clip.init) s.pocket.directory i).bytes)),
   (Dict.RESILIENCE_SPARE_STATUS, fun _ _ => s.spareStatus),
   (Dict.PATCH_MAP_DATA, fun _ _ => s.fromWindow k Dict.PATCH_MAP_WINDOW 64 512 s.patchBytesAt),
   (Dict.FAULT_WEIGHTS_WEIGHT_LIST, fun _ _ =>
     ((s.weighed.drop (win Dict.FAULT_WEIGHTS_WINDOW)).take 128).flatMap s.weightBytes),
   (Dict.RECORD_WINDOW_RECORDS, fun _ _ => s.recordWindow k)]

/-- What a list of values has for an entry. -/
def valueOf (e : EntryDef) (l : List (EntryDef × α)) : Option α := (l.find? (fun x => x.1 == e)).map Prod.snd

/-- The value of a scalar entry in instance `n`, item `j`, as session `k` reads it (R127, R399). -/
def State.scalarValue (s : State) (k : Nat) (e : EntryDef) (n j : Nat) : Nat :=
  if windowKeys.contains (e.key n j) then s.window k e
  else
    match valueOf e (if e.base < 0x2400 then s.scalarsLow k else s.scalarsHigh k) with
    | some f => f n j
    | none => if e.apply = .stitch then s.rdShadow e n j else s.rd e n j

/-- The bytes of a block entry as session `k` reads it. -/
def State.blockValue (s : State) (k : Nat) (e : EntryDef) (n j : Nat) : List Byte :=
  match valueOf e (s.blocks k) with
  | some f => f n j
  | none => if e.apply = .stitch then s.domShadow e n j else s.dom e n j

/-- The bytes that a read of an entry returns to session `k`. -/
def State.entryValue (s : State) (k : Nat) (e : EntryDef) (n j : Nat) : List Byte :=
  if e.type.isBlock then s.blockValue k e n j
  else leBytes e.type.size (s.scalarValue k e n j)

/-! ### The event queue (R422) -/

/-- Queue entries that a session's cursor has not passed, oldest first. -/
def State.unread (s : State) (k : Nat) : List Ev :=
  let behind := (s.ev.nextSeq + 2 ^ 32 - (s.sessAt k).cursor) % 2 ^ 32
  (if behind < 2 ^ 31 then s.ev.queue.take behind else []).reverse

/-- Entries up to the one that makes 64 at or above a severity (R422): those returned, and how many were examined. -/
def examine (least : Nat) : Nat → List Ev → List Ev × Nat
  | _, [] => ([], 0)
  | 0, _ :: _ => ([], 0)
  | n + 1, e :: l =>
    if least ≤ e.severity then
      let (r, c) := examine least n l
      (e :: r, c + 1)
    else
      let (r, c) := examine least (n + 1) l
      (r, c + 1)
termination_by structural _ l => l

/-- Entries that were lost to a session before the oldest one (R422). -/
def State.overrun (s : State) (k : Nat) : Nat :=
  let u := s.sessAt k
  let gap := (s.oldestSeq + 2 ^ 32 - u.cursor) % 2 ^ 32
  if s.ev.queue.isEmpty || 2 ^ 31 ≤ gap then 0 else gap

/-- A read of READ: CURSOR moves past the last entry examined, and what was lost is counted and told; the entries read
(R422, log 34). -/
def State.readQueue (s : State) (k : Nat) : List Byte × State :=
  let lost := s.overrun k
  let u := s.sessAt k
  let start := if lost = 0 then u.cursor else s.oldestSeq
  let t := s.modSess k (fun u => { u with cursor := start, lost := (u.lost + lost) % 2 ^ 32 })
  let x := examine u.minSeverity 64 (t.unread k)
  let t := t.modSess k (fun u => { u with cursor := (start + x.2) % 2 ^ 32 })
  let t := if lost = 0 then t else t.raiseBy k Event.QUEUE_OVERRUN k lost
  (x.1.flatMap Ev.bytes, t)

/-! ### Reads -/

/-- What reading an entry changes (R256, R320, R422, R441). -/
def State.afterRead (s : State) (k : Nat) (e : EntryDef) (n : Nat) : State :=
  if e = Dict.EVENT_QUEUE_READ then (s.readQueue k).2
  else if e = Dict.TIMEBASE_TIME_S then s.wr Dict.TIMEBASE_TIME_NS s.tNs
  else if e = Dict.LIFECYCLE_CHALLENGE then s.drawChallenge
  else if e = Dict.HEAD_STATUS_FIFO_LOW_WATER then
    s.wr Dict.HEAD_STATUS_FIFO_LOW_WATER (1024 * s.rd Dict.HEAD_STATUS_FIFO_SIZE n) n
  else s

/-- The bytes that a read returns, READ of the event queue among them. -/
def State.readBytes (s : State) (k : Nat) (e : EntryDef) (n j : Nat) : List Byte :=
  if e = Dict.EVENT_QUEUE_READ then (s.readQueue k).1 else s.entryValue k e n j

/-- A read of a whole entry by session `k`, not yet answered: its bytes and the state after it, or its refusal
(R400). -/
def State.fetch (s : State) (k index sub : Nat) : Except Refuse (List Byte × State) :=
  match s.readCheck k index sub with
  | .error r => .error r
  | .ok e => .ok (s.readBytes k e (index - e.base) (sub - e.lo), s.afterRead k e (index - e.base))

/-- The meaning of EVENT_QUEUE_READ (R422). -/
def execEventQueueRead (sess : Fin 12) (s : State) : Host.Outcome State Fault Refusal :=
  let s := s.begin
  .next (if s.dictUp && (s.sessAt sess).isOpen then
      match s.fetch sess 0x2020 5 with
      | .error r => s.refuseRead sess 0x2020 5 r
      | .ok (data, t) => t.respond sess 0x2020 data false
    else s)

/-- The meaning of TIMEBASE_TIME_READ (R320). -/
def execTimebaseTimeRead (sess : Fin 12) (s : State) : Host.Outcome State Fault Refusal :=
  .next (s.begin.readScalar sess Dict.TIMEBASE_TIME_S 0 0 State.tS (fun s => s.wr Dict.TIMEBASE_TIME_NS s.tNs))

end Sys2Proof.Machine
end

