-- ==== Sys2Proof/Machine/Router.lean ====
section
/-! DEFINITION. What a write of each entry does: by its apply class (R127, R128), or as its chapter says where it does
more than set a register (R400). -/
namespace Sys2Proof.Machine
open Sys2Proof

/-! ### PDO mapping (R411) -/

/-- Whether an entry may be mapped: TPDOs map ro and rw, RPDOs rw and wo of class LIVE or STITCH, of 8 bytes at
most. -/
def EntryDef.mappable (e : EntryDef) (rpdo : Bool) : Bool :=
  !e.type.isBlock && (if rpdo then (e.access == .rw || e.access == .wo) && (e.apply == .live || e.apply == .stitch)
    else e.access == .ro || e.access == .rw)

/-- Bytes of a mapping entry's value: index in bits 31:16, sub-index in 15:8, bits in 7:0 (CiA 301, log 35); none where
it cannot be mapped. -/
def mappedBytes (rpdo : Bool) (v : Nat) : Option Nat :=
  match entryAt (v / 65536) (v / 256 % 256) with
  | some e => if e.mappable rpdo ∧ v % 256 = 8 * e.type.size then some e.type.size else none
  | none => none

/-- The values of PDO `n`'s mapping entries before the first that is 0: those it maps (R411, log 35). -/
def State.mapping (s : State) (rpdo : Bool) (n : Nat) : List Nat :=
  ((List.range 64).map (fun j => s.rd (if rpdo then Dict.RPDO_MAP_ENTRY else Dict.TPDO_MAP_ENTRY) n j)).takeWhile (· != 0)

/-- What refuses the mapping of PDO `n`: 0x06040041 an entry that cannot be mapped, 0x06040042 more than 64 bytes. -/
def State.judgeMapping (s : State) (rpdo : Bool) (n : Nat) : Option Refuse :=
  let l := (s.mapping rpdo n).map (mappedBytes rpdo)
  firstOf
    [(l.any Option.isNone, .plain 0x06040041 0),
     (decide (64 < l.foldl (fun a b => a + b.getD 0) 0), .plain 0x06040042 0)]

/-- Whether some enabled interface is not Pre-operational, so that mapping objects are not writable (R411). -/
def State.mappingLocked (s : State) : Bool := [0, 1].any (fun i => s.canUp i && s.nmtState i != 127)

/-- A mapping entry takes a value, unless it cannot be mapped or the mapping gets too long (R411). -/
def State.setMapping (s : State) (rpdo : Bool) (n j v : Nat) : Effect :=
  let t := s.wr (if rpdo then Dict.RPDO_MAP_ENTRY else Dict.TPDO_MAP_ENTRY) v n j
  if v ≠ 0 ∧ (mappedBytes rpdo v).isNone then .refused (.plain 0x06040041 0) s
  else
    match t.judgeMapping rpdo n with
    | some r => .refused r s
    | none => .done t

/-- A mapping entry written, while the interfaces are Pre-operational (R411). -/
def State.writeMapping (s : State) (rpdo : Bool) (n j v : Nat) : Effect :=
  Effect.unless s.mappingLocked (.plain 0x06040041 0) s (s.setMapping rpdo n j v)

/-! ### Sessions (R402 to R404, R426, R427) -/

/-- The context of a session's Ks (R402). -/
def authContext (k rights : Nat) (client device : List Byte) : List Byte :=
  [BitVec.ofNat 8 k, BitVec.ofNat 8 rights] ++ client ++ device

/-- Ks of an authentication of session `k` against a slot (R402). -/
def State.authKey (s : State) (k slot rights : Nat) (client device : List Byte) : List Byte :=
  kdf (s.keyOf slot) (ascii "DICT") (authContext k rights client device)

/-- Whether a slot may serve an authentication for some rights (R402). -/
def State.authSlotFits (s : State) (slot rights : Nat) : Bool := s.derives slot && decide (rights ≤ (s.namedSlot slot).owner)

/-- CLIENT_NONCE written: a fresh DEVICE_NONCE is drawn (R402). -/
def State.clientNonce (s : State) (k : Nat) (nonce : List Byte) : Effect :=
  let u := s.sessAt k
  if s.authSlotFits u.authSlot u.authRights then
    let (d, t) := s.draw 16
    .done (t.modSess k (fun u => { u with clientNonce := nonce, deviceNonce := d, nonceFresh := true }))
  else .refused (.rule 0xB1) s

/-- Whether proofs of a session, or of its source address, are refused now (R403). -/
def State.lockedOut (s : State) (k : Nat) : Bool :=
  let u := s.sessAt k
  decide (s.now < u.lockedUntil) || (decide (4 ≤ k) && decide (s.now < s.udpLockAt u.sourceAddr))

/-- A wrong proof is counted for the session, and over UDP for its source; three in a row lock it out (R403). -/
def State.wrongProof (s : State) (k slot : Nat) : State :=
  let u := s.sessAt k
  let until_ := s.now + s.rd Dict.MANAGEMENT_AUTH_LOCKOUT * nsPerS
  let n := u.failures + 1
  let m := s.udpFailAt u.sourceAddr + 1
  let t := s.putSess k { u with
    failures := n % 256, nonceFresh := false, lockedUntil := if 3 ≤ n then until_ else u.lockedUntil }
  let t := if 4 ≤ k then
      let t := t.putUdpFail u.sourceAddr m
      if 3 ≤ m then t.putUdpLock u.sourceAddr until_ else t
    else t
  let t := t.raiseBy k Event.AUTH_FAILED k slot
  if 3 ≤ n ∨ (4 ≤ k ∧ 3 ≤ m) then t.raiseBy k Event.AUTH_LOCKOUT k (if 4 ≤ k then u.sourceAddr else 0) else t

/-- PROOF written: the rights asked for are granted, or a wrong proof is counted (R402, R403). -/
def State.proof (s : State) (k : Nat) (data : List Byte) : Effect :=
  let u := s.sessAt k
  let ks := s.authKey k u.authSlot u.authRights u.clientNonce u.deviceNonce
  let right := u.nonceFresh && s.authSlotFits u.authSlot u.authRights
    && data == hmac16 ks (ascii "CLIENT" ++ u.deviceNonce)
  if s.lockedOut k then .refused (.rule 0xB3) s
  else if right then
    let t := s.putSess k { u with
      rights := Rights.ofRank u.authRights, grantSlot := u.authSlot, failures := 0, nonceFresh := false
      deviceProof := hmac16 ks (ascii "DEVICE" ++ u.clientNonce) }
    let t := if 4 ≤ k then t.putUdpFail u.sourceAddr 0 else t
    .done (t.raiseBy k Event.AUTH_GRANTED k (u.authRights * 256 + u.authSlot))
  else .refused (.rule 0xB2) (s.wrongProof k u.authSlot)

/-- DROP written: the answer goes out, and the session returns to its base rights; a UDP session is closed (R404). -/
def State.drop (s : State) (k : Nat) : Effect := .waits ((s.respond k 0x2002 [] false).dropRights k 1)

/-- CLEAR of LAST_REFUSAL written (R427). -/
def State.clearRefusal (s : State) (k : Nat) : Effect :=
  .done (s.modSess k (fun u => { u with
    refIndex := 0, refSub := 0, refAbort := 0, refDetail := 0, refFieldIndex := 0, refFieldSub := 0
    refEntry := 0xFFFFFFFF, refTimeS := 0, refTimeNs := 0, refCount := 0 }))

/-! ### The event queue and the host ring (R423, R424) -/

/-- EVT_N_ACK written: the state clears for the events that entered before (R423). -/
def State.ackEvtN (s : State) : Effect :=
  let now (e : Ev) : Bool := e.timeS == s.tS && e.timeNs == s.tNs && decide (s.rd Dict.EVENT_QUEUE_EVT_N_SEVERITY ≤ e.severity)
  .done { s with ev := { s.ev with evtN := s.ev.evtN && s.ev.queue.any now } }

/-- HOST_RING_ENABLE written: a ring that is enabled starts empty; one that is disabled drops what waits (R424,
log 34). -/
def State.writeHostRing (s : State) (v : Nat) : Effect :=
  let was := s.flag Dict.EVENT_QUEUE_HOST_RING_ENABLE
  let t := s.wr Dict.EVENT_QUEUE_HOST_RING_ENABLE v
  .done (if was && v != 0 then t
    else { t with ev := { t.ev with hostRing := [], hostWaiting := [], hostProducer := 0, hostConsumer := 0 } })

/-! ### Test fields and coefficients (R64, R494) -/

/-- TX_C written: the magnitudes must not sum to more than 64 (R64). -/
def State.writeTxC (s : State) (n j v : Nat) : Effect :=
  let t := s.wr Dict.U_LANE_TX_C v n j
  Effect.unless (decide (64 < swing (t.txFields n))) (.atField 0x12 (0x2200 + n) (8 + j)) s (.done t)

/-- PRBS, LOOPBACK and TEST_RATE are written in TEST only (R494). -/
def State.writeTest (s : State) (e : EntryDef) (n v : Nat) : Effect :=
  Effect.unless (s.devState != 2) (.rule 0xD0) s (.done (s.wr e v n))

/-- MATCH_LINE of a head is a line of its frame (Table 8.6). -/
def State.writeMatchLine (s : State) (h v : Nat) : Effect :=
  Effect.unless (decide (s.rd Dict.HEAD_V_TOTAL h ≤ v)) (.plain 0x06090030 0x12) s
    (.done ((s.wr Dict.LEGACY_EVENTS_MATCH_LINE v 0 h).modHead h (fun a => { a with
      matched := decide (a.frameStart + s.lineTime h v ≤ s.timebase) })))

/-- PIN_MASK, PIN_LATCH, BOOT_ARM and FAULT_COLOUR are written where R214 allows it. -/
def State.writeOvercoat (s : State) (e : EntryDef) (v : Nat) : Effect :=
  Effect.unless (!s.overcoatOpen) (.rule 0x40) s (.done (s.wr e v))

/-- PIN_MASK and PIN_LATCH: a changed setting raises OVERCOAT_CHANGED under the entry's sub-index (R214,
R229, log 43). -/
def State.writeOvercoatPin (s : State) (e : EntryDef) (v : Nat) : Effect :=
  Effect.unless (!s.overcoatOpen) (.rule 0x40) s
    (.done ((s.wr e v).raiseIf (decide (s.rd e ≠ v)) Event.OVERCOAT_CHANGED (768 + e.lo) 0))

/-- RESET written 1: the answer goes out, then the device is reset (R495). -/
def State.writeReset (s : State) (k : Nat) : Effect := .waits ((s.respond k 0x2000 [] false).resetSelf k 4)

/-- FULL_BIST written 1: only in TEST (R494). -/
def State.startFullBist (s : State) : Effect :=
  Effect.unless (s.devState != 2) (.rule 0xD0) s (.done { s with dev := { s.dev with fullBist := true } })

/-- ENABLE of a unit written: 1 or 0. -/
def byEnable (v : Nat) (on off : Effect) : Effect := if v = 0 then off else on

/-! ### Writes by entry -/

/-- What a write makes of a scalar: instance `n`, item `j`, value. -/
abbrev ScalarWrite : Type := Nat → Nat → Nat → State → Effect

/-- Scalars below 0x2400 whose write does more than its apply class says, for session `k`. -/
def writesLow (k : Nat) : List (EntryDef × ScalarWrite) :=
  [(Dict.STORE_PARAMETERS_SIGNATURE, fun _ j v s => s.store k (j + 1) v),
   (Dict.RESTORE_PARAMETERS_SIGNATURE, fun _ j v s => s.restore (j + 1) v),
   (Dict.RPDO_MAP_ENTRY, fun n j v s => s.writeMapping true n j v),
   (Dict.TPDO_MAP_ENTRY, fun n j v s => s.writeMapping false n j v),
   (Dict.DEVICE_STATE_REQUEST, fun _ _ v s => s.writeRequest k v),
   (Dict.DEVICE_STATE_RESET, fun _ _ _ s => s.writeReset k),
   (Dict.DEVICE_STATE_FULL_BIST, fun _ _ _ s => s.startFullBist),
   (Dict.LIFECYCLE_CONFIRM, fun _ _ v s => s.confirmLifecycle v),
   (Dict.SESSION_RIGHTS_AUTH_SLOT, fun _ _ v s => .done (s.modSess k (fun u => { u with authSlot := v }))),
   (Dict.SESSION_RIGHTS_AUTH_RIGHTS, fun _ _ v s => .done (s.modSess k (fun u => { u with authRights := v }))),
   (Dict.SESSION_RIGHTS_DROP, fun _ _ _ s => s.drop k),
   (Dict.LAST_REFUSAL_CLEAR, fun _ _ _ s => s.clearRefusal k),
   (Dict.EVENT_QUEUE_CURSOR, fun _ _ v s => .done (s.modSess k (fun u => { u with cursor := v }))),
   (Dict.EVENT_QUEUE_MIN_SEVERITY, fun _ _ v s => .done (s.modSess k (fun u => { u with minSeverity := v }))),
   (Dict.EVENT_QUEUE_EVT_N_ACK, fun _ _ _ s => s.ackEvtN),
   (Dict.EVENT_QUEUE_HOST_RING_ENABLE, fun _ _ v s => s.writeHostRing v),
   (Dict.HENTIS_LOOP_MODE, fun _ _ v s => s.writeLoopMode k v),
   (Dict.HENTIS_STEER_FREQ, fun _ _ v s => s.writeSteerFreq v),
   (Dict.HENTIS_STEER_PHASE, fun _ _ v s => s.writeSteerPhase k v),
   (Dict.HENTIS_SLEW_LIMIT, fun _ _ v s => s.writeSlewLimit v),
   (Dict.HENTIS_ALIGN, fun _ _ v s => if v = 1 then s.align k else .done s.endSlew),
   (Dict.HENTIS_CLK_OUT_NUM, fun _ j v s => .done (s.writeClkOut Dict.HENTIS_CLK_OUT_NUM j v)),
   (Dict.HENTIS_CLK_OUT_DEN, fun _ j v s => .done (s.writeClkOut Dict.HENTIS_CLK_OUT_DEN j v)),
   (Dict.REF_ENABLE, fun n _ v s => byEnable v (s.enableRef n) (s.disableRef n)),
   (Dict.REF_TYPE, fun n _ v s => s.writeRefType n v),
   (Dict.REF_BANDWIDTH, fun n _ v s => s.writeRefRange true n v),
   (Dict.REF_FREQ_WINDOW, fun n _ v s => s.writeRefRange false n v),
   (Dict.REF_PRIORITY, fun n _ v s => s.writeSelection (Dict.REF_PRIORITY.key n) v),
   (Dict.SELECTOR_FORCE, fun _ _ v s => s.writeSelection Dict.SELECTOR_FORCE.key v),
   (Dict.SELECTOR_REVERTIVE, fun _ _ v s => s.writeSelection Dict.SELECTOR_REVERTIVE.key v),
   (Dict.FTG_ENABLE, fun n _ v s => byEnable v (s.enableFtg n) (s.disableFtg n)),
   (Dict.HOLDOVER_WINDOW, fun _ _ v s => s.writeHoldWindow Dict.HOLDOVER_WINDOW Dict.HOLDOVER_GUARD v),
   (Dict.HOLDOVER_GUARD, fun _ _ v s => s.writeHoldWindow Dict.HOLDOVER_GUARD Dict.HOLDOVER_WINDOW v),
   (Dict.TIMEBASE_SET, fun _ _ _ s => s.setTime k),
   (Dict.U_LANE_SPARE_OF, fun n _ v s => s.writeSpare n v),
   (Dict.U_LANE_TX_C, fun n j v s => s.writeTxC n j v),
   (Dict.U_LANE_PRBS, fun n _ v s => s.writeTest Dict.U_LANE_PRBS n v),
   (Dict.U_LANE_LOOPBACK, fun n _ v s => s.writeTest Dict.U_LANE_LOOPBACK n v),
   (Dict.U_LANE_TEST_RATE, fun n _ v s => s.writeTest Dict.U_LANE_TEST_RATE n v),
   (Dict.PORT_ADMIN, fun n _ v s => byEnable v (s.portUp n) (s.portDown n)),
   (Dict.PORT_TYPE, fun n _ v s => s.writePortType n v),
   (Dict.PORT_FIRST_LANE, fun n _ v s => s.writeFirstLane n v),
   (Dict.GROUP_PORT_ADMIN, fun n _ v s => byEnable v (s.groupUp n) (s.groupDown n)),
   (Dict.GROUP_PORT_HDCP, fun n _ v s => .done ((s.wr Dict.GROUP_PORT_HDCP v n).liveWritten n)),
   (Dict.GROUP_PORT_CEC_ADDRESS_MASK, fun n _ v s => .done ((s.wr Dict.GROUP_PORT_CEC_ADDRESS_MASK v n).liveWritten n)),
   (Dict.PCIE_TARGET_SPEED, fun _ _ v s => s.writeTargetSpeed v),
   (Dict.PCIE_ASPM_L1, fun _ _ v s => .done ((s.wr Dict.PCIE_ASPM_L1 v).tellAspm s.aspmL1))]

/-- The same from 0x2400 on; `how` says how a commit is answered. -/
def writesHigh (how k : Nat) : List (EntryDef × ScalarWrite) :=
  [(Dict.INPUT_ENABLE, fun n _ v s => byEnable v (s.enableInput n) (s.disableInput n)),
   (Dict.HOST_SOURCE_ENABLE, fun n _ v s => byEnable v (s.enableSurface n) (s.disableSurface n)),
   (Dict.HOST_SOURCE_FLIP, fun n _ v s => s.flip n v),
   (Dict.POCKET_PLAYER_ENABLE, fun n _ v s => s.writePlayerEnable n v),
   (Dict.POCKET_PLAYER_TRANSPORT, fun n _ v s => s.writeTransport n v),
   (Dict.HEAD_COMMIT_COMMIT, fun n _ v s => if v = 1 then s.receiveSingle 1 n k how none else s.discard 1 n),
   (Dict.CANVAS_COMMIT_COMMIT, fun n _ v s => if v = 1 then s.receiveSingle 2 n k how none else s.discard 2 n),
   (Dict.STITCH_GROUP_COMMIT, fun _ _ _ s => s.receiveGroup k how),
   (Dict.ROUTE_CONTROL_SWITCH, fun _ _ _ s => s.requestSwitch k),
   (Dict.ROUTE_CONTROL_RESERVE, fun _ j v s => s.writeReserve j v),
   (Dict.ENGINE_POOL_CLEAR_COUNTERS, fun _ _ _ s => .done s.clearEngines),
   (Dict.CANVAS_ENABLE, fun n _ v s => byEnable v (s.enableCanvas n) (s.disableCanvas n)),
   (Dict.OVERCOAT_PIN_MASK, fun _ _ v s => s.writeOvercoatPin Dict.OVERCOAT_PIN_MASK v),
   (Dict.OVERCOAT_PIN_LATCH, fun _ _ v s => s.writeOvercoatPin Dict.OVERCOAT_PIN_LATCH v),
   (Dict.OVERCOAT_BOOT_ARM, fun _ _ v s => s.writeOvercoat Dict.OVERCOAT_BOOT_ARM v),
   (Dict.OVERCOAT_FAULT_COLOUR, fun _ _ v s => s.writeOvercoat Dict.OVERCOAT_FAULT_COLOUR v),
   (Dict.OVERCOAT_LATCH_CLEAR, fun _ _ _ s => s.clearLatch),
   (Dict.LINING_REBUILD, fun _ _ v s => .done (s.rebuildLinings v)),
   (Dict.HEAD_ENABLE, fun n _ v s => byEnable v (s.enableHead n) (s.disableHead n)),
   (Dict.HEAD_SAFE_CLEAR, fun n _ _ s => s.clearSafe n),
   (Dict.HEAD_RETIME, fun n _ _ s => s.receiveSingle 1 n k how (some (s.newTiming n))),
   (Dict.LEGACY_EVENTS_STATUS_START_OF_BLANK, fun _ _ v s => s.clearLegacy Dict.LEGACY_EVENTS_STATUS_START_OF_BLANK v),
   (Dict.LEGACY_EVENTS_STATUS_LINE_MATCH, fun _ _ v s => s.clearLegacy Dict.LEGACY_EVENTS_STATUS_LINE_MATCH v),
   (Dict.LEGACY_EVENTS_STATUS_FRAME_DONE, fun _ _ v s => s.clearLegacy Dict.LEGACY_EVENTS_STATUS_FRAME_DONE v),
   (Dict.LEGACY_EVENTS_STATUS_UNDERRUN, fun _ _ v s => s.clearLegacy Dict.LEGACY_EVENTS_STATUS_UNDERRUN v),
   (Dict.LEGACY_EVENTS_MATCH_LINE, fun _ j v s => s.writeMatchLine j v),
   (Dict.PTL_KEY_SLOT, fun _ _ v s => s.writeKeySlot v),
   (Dict.PTL_REKEY, fun _ _ _ s => .done s.startRekey),
   (Dict.PTL_GENERATION, fun _ j v s => s.writeGeneration j v),
   (Dict.SAP_ENABLE, fun n _ v s => byEnable v (s.enableSap n) (s.disableSap n)),
   (Dict.AUDIO_MATRIX_MATRIX_RATE_NUM, fun _ _ v s => .done (s.setMatrixRate v)),
   (Dict.AUDIO_START_SAP_MASK, fun _ _ v s => .done (s.wr Dict.AUDIO_START_SAP_MASK v).startAlone),
   (Dict.AUDIO_START_SENDER_MASK, fun _ _ v s => .done (s.wr Dict.AUDIO_START_SENDER_MASK v).startAlone),
   (Dict.AUDIO_START_TRIGGER, fun _ _ v s => .done (if v = 1 then s.triggerStart else s.triggerStop)),
   (Dict.STORE_TIER_SCAN_MIB, fun _ _ v s => s.writePartition false v),
   (Dict.STORE_TIER_STAGE_MIB, fun _ _ v s => s.writePartition true v),
   (Dict.DRAM_RATE, fun _ _ v s => s.writeDram 1 v),
   (Dict.DRAM_DEVICE, fun _ _ v s => s.writeDram 2 v),
   (Dict.DRAM_RANKS, fun _ _ v s => s.writeDram 3 v),
   (Dict.DRAM_MODE, fun _ _ v s => s.writeDram 4 v),
   (Dict.DRAM_HOST_REGION_MIB, fun _ _ v s => s.writeDram 5 v),
   (Dict.POCKET_ENABLE, fun _ _ v s => s.enablePocket v),
   (Dict.POCKET_FORMAT, fun _ _ v s => s.formatDrives v),
   (Dict.POCKET_CLIP_DELETE, fun _ _ v s => s.deleteClip v),
   (Dict.POCKET_CAP_COMMAND, fun _ j v s => s.captureCommand j v),
   (Dict.RESILIENCE_HOLD_RETIRE, fun _ _ v s => s.writeHoldRetire v),
   (Dict.PATCH_MAP_CLEAR, fun _ _ v s => s.clearPatch v),
   (Dict.FAULT_WEIGHTS_CLEAR_WEIGHTS, fun _ _ v s => s.clearWeights v),
   (Dict.KEY_STORE_TAMPER_SOURCES, fun _ _ v s =>
     Effect.unless (s.keys.lifecycle != 1 && s.keys.lifecycle != 3) (.rule 0xA7) s
       (.done (s.wr Dict.KEY_STORE_TAMPER_SOURCES v))),
   (Dict.KEY_STORE_HDCP_WRAP_SLOT, fun _ _ v s => s.writeWrapSlot v),
   (Dict.KEY_SLOT_ERASE, fun n _ _ s => s.eraseKey k n),
   (Dict.SUPPLY_SHUTDOWN, fun _ _ _ s => s.shutdown)]

/-- Blocks whose write does more than its apply class says: instance and data. -/
def writesBlock (k : Nat) : List (EntryDef × (Nat → List Byte → State → Effect)) :=
  [(Dict.SESSION_RIGHTS_CLIENT_NONCE, fun _ d s => s.clientNonce k d),
   (Dict.SESSION_RIGHTS_PROOF, fun _ d s => s.proof k d),
   (Dict.GROUP_PORT_EDID, fun n d s => s.writeEdid n d),
   (Dict.GROUP_PORT_CEC_TX, fun n d s => .done (s.out (.packet 5 n d))),
   (Dict.ROUTE_TABLE_DATA, fun _ d s => s.writeRoutes k d),
   (Dict.COEFF_BANKS_BANK_DATA, fun _ d s => s.loadBank k d),
   (Dict.COLOUR_LUTS_LUT_DATA, fun _ d s => s.loadLut k d),
   (Dict.COLOUR_LUTS_LUT3D_DATA, fun _ d s => s.loadLut3d k d),
   (Dict.OVERCOAT_IMAGE_DESC, fun _ d s => s.writeDesc k d),
   (Dict.OVERCOAT_IMAGE_DATA, fun _ d s => s.writeImage k d),
   (Dict.TILE_MAP_DATA, fun _ d s => s.writeTiles k d),
   (Dict.CALIBRATION_DATA, fun _ d s => s.writeCalibs k d),
   (Dict.PTL_CONTROL_TX, fun _ d s => s.sendControl k d),
   (Dict.SAP_TX_MAP, fun n d s => s.writeTxMap n d),
   (Dict.AUDIO_MATRIX_CHANNEL_TABLE, fun _ d s => s.writeChannels k d),
   (Dict.AUDIO_MATRIX_HEAD_MAP, fun _ d s => s.writeHeadMap d),
   (Dict.AUDIO_MATRIX_STREAM_TABLE, fun _ d s => s.writeStreams k d),
   (Dict.KEY_STORE_HDCP_KEYS, fun _ d s => s.writeHdcpKeys k d),
   (Dict.KEY_SLOT_KEY, fun n d s => s.writeKey k n d),
   (Dict.RECORDER_EXPORT_NONCE, fun _ d s => s.sealExport d)]

/-! ### Apply classes (R25, R86, R127, R128) -/

/-- A STITCH scalar written to its shadow, or held while a validation covers it (R25, R127). -/
def State.writeShadow (s : State) (key v : Nat) : State :=
  if s.validatesOver key [] then { s with deferredWrites := s.deferredWrites ++ [⟨key, v, none⟩] } else s.setShadow key v

/-- A STITCH DOMAIN written to its shadow, or held while a validation covers it. -/
def State.writeShadowDom (s : State) (key : Nat) (d : List Byte) : State :=
  if s.validatesOver key [] then { s with deferredWrites := s.deferredWrites ++ [⟨key, 0, some d⟩] }
  else s.setDomShadow key d

/-- A HALT field of MANAGEMENT takes effect 100 ms after its answer (R86). -/
def State.writeMgmt (s : State) (key v : Nat) : State :=
  { s with mgmtWait := s.mgmtWait.filter (fun e => e.1 != key) ++ [(key, v, s.now + 100000000)] }

/-- A scalar that no rule treats apart, written by its apply class. -/
def State.applyScalar (s : State) (k : Nat) (e : EntryDef) (key v : Nat) : State :=
  if windowKeys.contains key then s.setWindow k key v
  else if e.apply = .stitch then s.writeShadow key v
  else if e.apply = .halt ∧ e.base = 0x2270 then s.writeMgmt key v
  else s.setReg key v

/-- A block that no rule treats apart, written by its apply class. -/
def State.applyBlock (s : State) (e : EntryDef) (key : Nat) (d : List Byte) : State :=
  if e.apply = .stitch then s.writeShadowDom key d else s.setDom key d

/-- A write of entry `e` at `index` and `sub` that has passed checks 1 to 7 (R400); placements only where R214 allows
it. -/
def State.effect (s : State) (how k : Nat) (e : EntryDef) (index sub : Nat) (data : List Byte) : Effect :=
  let n := index - e.base
  let j := sub - e.lo
  let key := index * 256 + sub
  if e.type.isBlock then
    match valueOf e (writesBlock k) with
    | some f => f n data s
    | none => Effect.unless (e == Dict.OVERCOAT_PLACE && !s.overcoatOpen) (.rule 0x40) s (.done (s.applyBlock e key data))
  else
    match valueOf e (if e.base < 0x2400 then writesLow k else writesHigh how k) with
    | some f => f n j (leNat data) s
    | none => .done (s.applyScalar k e key (leNat data))

/-- How a commit written by a plain access is answered. -/
abbrev plainly : Nat := 0xFF

/-- A write of a whole entry by session `k`, answered on its transport (R400). -/
def State.dictWrite (s : State) (k index sub : Nat) (data : List Byte) : State :=
  s.write k index sub data (fun e t => t.effect plainly k e index sub data)

/-- Writes made as one access: in order, or none of them (R411, R414). -/
def State.writeEach (s : State) (how k : Nat) : List (Nat × Nat × List Byte) → Except (Nat × Nat × Refuse) State
  | [] => .ok s
  | (index, sub, d) :: l =>
    match s.writeCheck false k index sub d with
    | .error r => .error (index, sub, r)
    | .ok e =>
      match s.effect how k e index sub d with
      | .refused r _ => .error (index, sub, r)
      | .done t => t.writeEach how k l
      | .waits t => t.writeEach how k l

/-- Checks 1 to 7 of every record of a COMMIT request: the first that fails (R414). -/
def State.checkEach (s : State) (k : Nat) : List (Nat × Nat × List Byte) → Option (Nat × Nat × Refuse)
  | [] => none
  | (index, sub, d) :: l =>
    match s.writeCheck false k index sub d with
    | .error r => some (index, sub, r)
    | .ok _ => s.checkEach k l

/-- Records that passed their checks, written in order by the rules of their chapters; one that these refuse, with the
state it was refused in (R414). -/
def State.effectEach (s : State) (how k : Nat) : List (Nat × Nat × List Byte) → Except (Nat × Nat × Refuse × State) State
  | [] => .ok s
  | (index, sub, d) :: l =>
    match lookup index sub with
    | .error r => .error (index, sub, r, s)
    | .ok e =>
      match s.effect how k e index sub d with
      | .refused r _ => .error (index, sub, r, s)
      | .done t => t.effectEach how k l
      | .waits t => t.effectEach how k l

/-- The meaning of DICT_WRITE (R400). -/
def execDictWrite (sess : Fin 12) (index sub : Nat) (data : List Byte) (s : State) : Host.Outcome State Fault Refusal :=
  .next (s.begin.dictWrite sess index sub data)

/-- The meaning of CLIENT_NONCE (R402). -/
def execClientNonce (sess : Fin 12) (nonce : List Byte) (s : State) : Host.Outcome State Fault Refusal :=
  .next (s.begin.writeBlock sess Dict.SESSION_RIGHTS_CLIENT_NONCE 0 0 nonce (fun s => s.clientNonce sess nonce))

/-- The meaning of PROOF (R402, R403). -/
def execProof (sess : Fin 12) (proof : List Byte) (s : State) : Host.Outcome State Fault Refusal :=
  .next (s.begin.writeBlock sess Dict.SESSION_RIGHTS_PROOF 0 0 proof (fun s => s.proof sess proof))

/-- The meaning of DROP (R404). -/
def execDrop (sess : Fin 12) (value : Nat) (s : State) : Host.Outcome State Fault Refusal :=
  .next (s.begin.writeScalar sess Dict.SESSION_RIGHTS_DROP 0 0 value (fun s => s.drop sess))

/-- The meaning of LAST_REFUSAL_CLEAR (R427). -/
def execLastRefusalClear (sess : Fin 12) (value : Nat) (s : State) : Host.Outcome State Fault Refusal :=
  .next (s.begin.writeScalar sess Dict.LAST_REFUSAL_CLEAR 0 0 value (fun s => s.clearRefusal sess))

/-- The meaning of EVT_N_ACK (R423). -/
def execEvtNAck (sess : Fin 12) (value : Nat) (s : State) : Host.Outcome State Fault Refusal :=
  .next (s.begin.writeScalar sess Dict.EVENT_QUEUE_EVT_N_ACK 0 0 value State.ackEvtN)

/-- The meaning of AUTH_LOCKOUT_EXPIRY (R403, log 34): the lockout of a session, and of a source address, ends. -/
def execAuthLockoutExpiry (sess : Fin 12) (source : Nat) (s : State) : Host.Outcome State Fault Refusal :=
  let s := s.begin
  let u := s.sessAt sess
  let s := if u.lockedUntil ≠ 0 ∧ u.lockedUntil ≤ s.now then
      s.putSess sess { u with lockedUntil := 0, failures := 0 } else s
  .next (if s.udpLockAt source ≠ 0 ∧ s.udpLockAt source ≤ s.now then (s.putUdpLock source 0).putUdpFail source 0 else s)

/-- Entries that waited are copied to the host ring while there is room; the rest are dropped from it (R424). -/
def EventLog.drainHost (l : EventLog) (size : Nat) : EventLog :=
  let copied := l.hostCopied size
  { l with
    hostRing := copied.reverse ++ l.hostRing
    hostProducer := (l.hostProducer + copied.length) % 2 ^ 32
    hostDropped := (l.hostDropped + (l.hostWaiting.length - copied.length)) % 2 ^ 32
    hostWaiting := [] }

/-- The host ring's descriptor has been read: PCIe completion status, 0 success, and the consumer index (R424). -/
def State.ringRead (s : State) (status consumer : Nat) : State :=
  if s.dictUp ∧ s.flag Dict.EVENT_QUEUE_HOST_RING_ENABLE ∧ !s.ev.hostWaiting.isEmpty then
    if status = 0 then
      let l := { s.ev with hostConsumer := consumer % 2 ^ 32 }
      let size := s.rd Dict.EVENT_QUEUE_HOST_RING_ENTRIES
      { s with ev := l.drainHost size, wire := s.wire ++ s.burst l.hostProducer (l.hostCopied size) }
    else
      let s := s.wr Dict.EVENT_QUEUE_HOST_RING_ENABLE 0
      { s with ev := { s.ev with hostWaiting := [] } }.raise Event.HOST_RING_FAULT status 0
  else s

/-- The meaning of HOST_RING_DESCRIPTOR_READ (R424). -/
def execHostRingDescriptorRead (status consumer : Nat) (s : State) : Host.Outcome State Fault Refusal :=
  .next (s.begin.ringRead status consumer)

end Sys2Proof.Machine
end

