-- ==== Sys2Proof/Machine/Transports.lean ====
section
/-! DEFINITION. The transports of the dictionary: UDP, SPI, the BAR0 mailbox and the BAR4 doorbells (R413 to R419). -/
namespace Sys2Proof.Machine
open Sys2Proof

/-! ### Whole values and block segments -/

/-- The abort of a request that is not well formed (R400). -/
abbrev malformed : Refuse := .plain 0x05040001 0

/-- A read of an entry answered with at most `limit` bytes of it (R400, log 34). -/
def State.readWhole (s : State) (k limit index sub : Nat) : State :=
  match s.fetch k index sub with
  | .error r => s.refuseRead k index sub r
  | .ok (data, t) => t.respond k index (data.take limit) (decide (limit < data.length))

/-- The snapshot that a block read of an entry goes on from: the one taken at offset 0, else one taken now (R413, log
34); records are returned as they stand when their bytes are transferred (R461). -/
def State.blockSource (s : State) (k index sub offset : Nat) : Except Refuse (List Byte × State) :=
  match (s.sessAt k).reading with
  | some t =>
    if t.index = index ∧ t.sub = sub ∧ offset ≠ 0 then
      match s.readCheck k index sub with
      | .error r => .error r
      | .ok e => .ok (if e = Dict.RECORD_WINDOW_RECORDS then s.recordWindow k else t.data, s)
    else s.fetch k index sub
  | none => s.fetch k index sub

/-- A segment of a block read: at most `limit` bytes from an offset, with MORE while data remains (R413). -/
def State.readSegment (s : State) (k limit index sub offset : Nat) : State :=
  match s.blockSource k index sub offset with
  | .error r => s.refuseRead k index sub r
  | .ok (data, t) =>
    let more := decide (offset + limit < data.length)
    let keep : Option Transfer := if more then some ⟨index, sub, data, t.now⟩ else none
    (t.modSess k (fun u => { u with reading := keep })).respond k index ((data.drop offset).take limit) more

/-- What refuses a segment that is not the last: checks 1 to 3, HALT and an open transfer at the first segment, and the
greatest length at each (R400). -/
def State.segmentRefused (s : State) (k index sub offset size : Nat) : Option Refuse :=
  match lookup index sub with
  | .error r => some r
  | .ok e =>
    let first := decide (offset = 0)
    firstOf
      [(e.access == .ro || e.access == .const, .plain 0x06010002 0),
       (decide ((s.sessAt k).rights.rank < e.needs true), .rule 0xB0),
       (!e.sizeFits size && decide (e.type.size < size), .plain 0x06070010 0),
       (first && e.apply == .halt && s.blockRuns index sub, .rule (if index = 0x3010 then 0x70 else 0x10)),
       (first && s.openElsewhere k index sub, .plain 0x08000021 0xB6)]

/-- Data of the transfer that a segment at an offset continues: none where it is out of order (R413). -/
def State.openData (s : State) (k index sub offset : Nat) : Option (List Byte) :=
  if offset = 0 then some []
  else
    match (s.sessAt k).transfer with
    | some t => if t.index = index ∧ t.sub = sub ∧ t.data.length = offset then some t.data else none
    | none => none

/-- A segment of a block write: added in offset order, and the transfer applied at its last (R413). -/
def State.writeSegment (s : State) (k index sub offset : Nat) (data : List Byte) (more : Bool) : State :=
  match s.openData k index sub offset with
  | none => s.abort k index malformed
  | some before =>
    let whole := before ++ data
    let t := s.modSess k (fun u => { u with transfer := none })
    if more then
      match s.segmentRefused k index sub offset whole.length with
      | some r => t.refuseWrite k index sub r
      | none =>
        (s.modSess k (fun u => { u with transfer := some ⟨index, sub, whole, s.now⟩ })).respond k index [] false
    else t.dictWrite k index sub whole

/-! ### UDP (R413 to R416) -/

/-- Greatest payload of a datagram (R413). -/
abbrev udpPayload : Nat := 1440

/-- The header and the payload that the tag of a request covers (Table 14.6). -/
def udpCovered (op : Nat) (d : UdpDatagram) : List Byte :=
  beBytes 1 d.version ++ beBytes 1 op ++ beBytes 2 d.session ++ beBytes 4 d.seq ++ beBytes 2 d.index ++ beBytes 1 d.sub
    ++ beBytes 1 d.flags ++ beBytes 2 d.length ++ beBytes 2 d.reserved ++ d.payload

/-- The header is well formed: version, reserved bits and length (Table 14.6). -/
def udpHeaderFits (d : UdpDatagram) : Bool :=
  d.version == 1 && d.flags < 2 && d.reserved == 0 && d.length == d.payload.length && decide (d.length ≤ udpPayload)

/-- What the management Ethernet answers to an ARP request from a station for an address: the reply's 28 bytes when the
address is IP_ADDRESS (R413; PRESUMED RFC 826, log 56).  No command of the table carries one. -/
def State.arpReply (s : State) (mac sender target : Nat) : Option (List Byte) :=
  if target = s.rd Dict.MANAGEMENT_IP_ADDRESS then
    some (beBytes 2 1 ++ beBytes 2 0x0800 ++ [6, 4] ++ beBytes 2 2 ++ beBytes 6 Config.mgmtMac ++ beBytes 4 target
      ++ beBytes 6 mac ++ beBytes 4 sender)
  else none

/-- The ones' complement sum of 16-bit words that IPv4 and ICMP carry, complemented (PRESUMED RFC 1071, log 56). -/
def inetSum (l : List Byte) : Nat :=
  let n := (List.range ((l.length + 1) / 2)).foldl (fun a i => a + beAt (l ++ [0]) (2 * i) 2) 0
  let n := n % 65536 + n / 65536
  65535 - (n % 65536 + n / 65536)

/-- What the management Ethernet answers to an ICMP echo request sent to an address: the echo reply with its identifier,
sequence and data when the address is IP_ADDRESS (R413; PRESUMED RFC 792, log 56).  No command of the table carries one. -/
def State.echoReply (s : State) (dest ident seq : Nat) (data : List Byte) : Option (List Byte) :=
  if dest = s.rd Dict.MANAGEMENT_IP_ADDRESS then
    let rest := beBytes 2 ident ++ beBytes 2 seq ++ data
    some ([0, 0] ++ beBytes 2 (inetSum ([0, 0, 0, 0] ++ rest)) ++ rest)
  else none

/-- Whether the request has MORE set. -/
def udpMore (d : UdpDatagram) : Bool := bit d.flags 0

/-- A datagram discarded for its tag: counted, and told at most once per second (R413). -/
def State.rejectTag (s : State) (session source : Nat) : State :=
  let s := s.inc Dict.MANAGEMENT_TAG_REJECTS
  if s.tagRejectAt = 0 ∨ s.tagRejectAt - 1 + nsPerS ≤ s.now then
    { s.raise Event.TAG_REJECTED session source with tagRejectAt := s.now + 1 }
  else s

/-- Whether a datagram was sent to this device's UDP service: to UDP_PORT at IP_ADDRESS (R413). -/
def State.udpHere (s : State) (d : UdpDatagram) : Bool :=
  d.dest == s.rd Dict.MANAGEMENT_IP_ADDRESS && d.port == s.rd Dict.MANAGEMENT_UDP_PORT

/-- The dictionary session of a request: an open one that the header names (Table 14.3). -/
def State.udpSession (s : State) (d : UdpDatagram) : Option Nat :=
  let k := d.session + 3
  if 1 ≤ d.session ∧ d.session ≤ 8 ∧ (s.sessAt k).isOpen then some k else none

/-- A request that still waits for its answer goes behind those that waited before it. -/
def State.queueAsked (s : State) (k : Nat) (a : Asked) : State :=
  s.modSess k (fun u => if u.asked.head? = some a then { u with asked := u.asked.drop 1 ++ [a] } else u)

/-- A request of a session whose tag holds, by its sequence: served when it is new, answered again when it is the last
one, else discarded (R416); malformed ones, and all but AUTH before rights are granted, are refused (R400, R401). -/
def State.udpServe (s : State) (op k : Nat) (d : UdpDatagram) (lead : List Byte) (shape : Bool) (serve : State → State) :
    State :=
  let u := s.sessAt k
  let s := (s.actBy k).modSess k (fun u => { u with lastAt := s.now })
  if d.seq = u.lastSeq then (if u.cached.isEmpty then s else s.out (.packet packetUdp k u.cached))
  else if d.seq < u.lastSeq then s
  else
    let a : Asked := ⟨op, d.seq, d.index, d.sub, lead⟩
    let s := s.modSess k (fun u => { u with lastSeq := d.seq, cached := [], asked := a :: u.asked })
    let s :=
      if !(udpHeaderFits d && shape) then s.abort k d.index malformed
      else if op ≠ 7 ∧ u.rights = .none then
        (s.noteRefusal k d.index d.sub (.rule 0xB0)).abort k d.index (.rule 0xB0)
      else serve s
    s.queueAsked k a

/-- A datagram of operation `op` arrives: served on its session when its tag holds (R413). -/
def State.udpReceive (s : State) (op : Nat) (d : UdpDatagram) (lead : List Byte) (shape : Bool)
    (serve : Nat → State → State) : State :=
  if s.udpUp && s.udpHere d then
    match s.udpSession d with
    | none => s.rejectTag 0xFF d.source
    | some k =>
      if d.tag == hmac16 (s.sessAt k).ks (udpCovered op d) then s.udpServe op k d lead shape (serve k)
      else s.rejectTag k d.source
  else s

/-- The meaning of UDP_READ (R413). -/
def execUdpRead (d : UdpDatagram) (s : State) : Host.Outcome State Fault Refusal :=
  .next (s.begin.udpReceive 1 d [] (decide (d.payload = [])) (fun k s => s.readWhole k udpPayload d.index d.sub))

/-- The meaning of UDP_WRITE (R413). -/
def execUdpWrite (d : UdpDatagram) (s : State) : Host.Outcome State Fault Refusal :=
  .next (s.begin.udpReceive 2 d [] true (fun k s => s.dictWrite k d.index d.sub d.payload))

/-- The meaning of UDP_READ_BLOCK (R413): the payload gives the offset and the maximum length. -/
def execUdpReadBlock (d : UdpDatagram) (s : State) : Host.Outcome State Fault Refusal :=
  let offset := beAt d.payload 0 4
  let limit := min (beAt d.payload 4 2) (udpPayload - 4)
  .next (s.begin.udpReceive 3 d (beBytes 4 offset) (decide (d.payload.length = 6))
    (fun k s => s.readSegment k limit d.index d.sub offset))

/-- The meaning of UDP_WRITE_BLOCK (R413): the payload gives the offset, then the data. -/
def execUdpWriteBlock (d : UdpDatagram) (s : State) : Host.Outcome State Fault Refusal :=
  .next (s.begin.udpReceive 4 d [] (decide (4 ≤ d.payload.length))
    (fun k s => s.writeSegment k d.index d.sub (beAt d.payload 0 4) (d.payload.drop 4) (udpMore d)))

/-- The write records of a COMMIT's payload: index, sub, length and value (R414), the index in network order and the value
as its type carries it (R4, R397); none where they do not fill it. -/
def udpRecords : Nat → List Byte → Option (List (Nat × Nat × List Byte))
  | _, [] => some []
  | 0, _ :: _ => none
  | n + 1, i0 :: i1 :: sub :: len :: l =>
    if l.length < len.toNat then none
    else (udpRecords n (l.drop len.toNat)).map (fun r => (beNat [i0, i1], sub.toNat, l.take len.toNat) :: r)
  | _ + 1, _ :: _ => none

/-- Whether an entry is one that commits (R127, R138). -/
def namesCommit (index sub : Nat) : Bool := (commitScope index sub).isSome

/-- A COMMIT request refused for one of its records: nothing is written (R414). -/
def State.refuseRecord (s at_ : State) (k index i j : Nat) (r : Refuse) : State :=
  ((s.noteRefusal k i j r).tellRefused at_ k i j r).abort k index r

/-- A COMMIT request: checks 1 to 7 of every record, then its records, then 1 to the commit entry, as one access (R414). -/
def State.udpCommit (s : State) (k index sub : Nat) (records : List (Nat × Nat × List Byte)) : State :=
  let l := records ++ [(index, sub, [1])]
  match s.checkEach k l with
  | some (i, j, r) => s.refuseRecord s k index i j r
  | none =>
    match s.effectEach k k l with
    | .ok t => t
    | .error (i, j, r, t) => s.refuseRecord t k index i j r

/-- The meaning of UDP_COMMIT (R414). -/
def execUdpCommit (d : UdpDatagram) (s : State) : Host.Outcome State Fault Refusal :=
  let records := udpRecords udpPayload d.payload
  .next (s.begin.udpReceive 5 d [] (records.isSome && namesCommit d.index d.sub)
    (fun k s => s.udpCommit k d.index d.sub (records.getD [])))

/-- A subscription starts, with its own sequence from 1, changes its severity, or ends (R416). -/
def State.subscribe (s : State) (k index severity : Nat) : State :=
  let s := if (s.sessAt k).subSeverity = 0xFF then
      { s with ev := { s.ev with udpSeq := Store.write (fun _ => 0) s.ev.udpSeq k 0 } } else s
  (s.modSess k (fun u => { u with subSeverity := severity })).respond k index [] false

/-- The meaning of UDP_SUBSCRIBE (R416). -/
def execUdpSubscribe (d : UdpDatagram) (s : State) : Host.Outcome State Fault Refusal :=
  let severity := byteAt d.payload 0
  let fits := decide (d.payload.length = 4) && leAt d.payload 1 3 == 0 && (decide (severity ≤ 5) || severity == 0xFF)
  .next (s.begin.udpReceive 6 d [] fits (fun k s => s.subscribe k d.index severity))

/-- An AUTH payload of a phase: phase, slot, rights, a reserved byte and a nonce or proof (Table 14.7). -/
def authShape (phase : Nat) (p : List Byte) : Bool :=
  p.length == 20 && byteAt p 0 == phase && byteAt p 3 == 0

/-- What refuses AUTH phase 1: 8 sessions open, a value out of range, or a slot that does not serve (R402, R415). -/
def State.authRefused (s : State) (slot rights : Nat) : Option Refuse :=
  firstOf
    [(decide (8 ≤ s.udpOpen), .rule 0xB8),
     (decide ((71 < slot ∧ slot ≠ 0xFF) ∨ rights < 1 ∨ 3 < rights), .plain 0x06090030 0x12),
     (!s.authSlotFits slot rights, .rule 0xB1)]

/-- AUTH phase 1 opens the lowest free session: Ks is derived and DEVICE_NONCE goes out (R402, R415). -/
def State.udpOpenSession (s : State) (d : UdpDatagram) (a : Asked) : State :=
  let slot := byteAt d.payload 1
  let rights := byteAt d.payload 2
  match s.authRefused slot rights, [4, 5, 6, 7, 8, 9, 10, 11].find? (fun k => !(s.sessAt k).isOpen) with
  | none, some k =>
    let client := d.payload.drop 4
    let (device, s) := s.draw 16
    let ks := s.authKey k slot rights client device
    let answer := udpDatagram (k - 3) a ks false false false (a.lead ++ device)
    let s := s.putSess k { s.freshSess k with
      authSlot := slot, authRights := rights, clientNonce := client, deviceNonce := device, nonceFresh := true
      ks := ks, lastSeq := d.seq, cached := answer, sourceAddr := d.source }
    (s.raiseBy k Event.SESSION_OPENED k d.source).out (.packet packetUdp k answer)
  | some r, _ => s.out (.packet packetUdp 0 (udpDatagram 0 a [] false true false (beBytes 4 r.abort ++ beBytes 2 r.detail)))
  | none, none => s

/-- AUTH phase 1 arrives; its tag is of zeroes (R415). -/
def State.udpAuth1 (s : State) (d : UdpDatagram) : State :=
  if s.udpUp && s.udpHere d then
    if d.session ≠ 0 ∨ d.tag ≠ zeros 16 then s.rejectTag 0xFF d.source
    else
      let a : Asked := ⟨7, d.seq, d.index, d.sub, d.payload.take 4⟩
      if udpHeaderFits d && authShape 1 d.payload then s.udpOpenSession d a
      else s.out (.packet packetUdp 0 (udpDatagram 0 a [] false true false (beBytes 4 0x05040001 ++ beBytes 2 0)))
  else s

/-- The meaning of UDP_AUTH_PHASE_1 (R415). -/
def execUdpAuthPhase1 (d : UdpDatagram) (s : State) : Host.Outcome State Fault Refusal := .next (s.begin.udpAuth1 d)

/-- AUTH phase 2 carries PROOF; its answer carries DEVICE_PROOF (R402, R415). -/
def State.udpAuth2 (s : State) (k index : Nat) (proof : List Byte) : State :=
  match s.proof k proof with
  | .refused r t =>
    ((t.noteRefusal k 0x2002 7 r).raiseBy k Event.WRITE_REFUSED 0x200207 r.detail).abort k index r
  | .done t => t.respond k index (t.sessAt k).deviceProof false
  | .waits t => t

/-- The meaning of UDP_AUTH_PHASE_2 (R415). -/
def execUdpAuthPhase2 (d : UdpDatagram) (s : State) : Host.Outcome State Fault Refusal :=
  .next (s.begin.udpReceive 7 d (d.payload.take 4) (authShape 2 d.payload)
    (fun k s => s.udpAuth2 k d.index (d.payload.drop 4)))

/-- The meaning of UDP_AUTH_PHASE_3 (R415): the session is closed once it has been answered. -/
def execUdpAuthPhase3 (d : UdpDatagram) (s : State) : Host.Outcome State Fault Refusal :=
  .next (s.begin.udpReceive 7 d (d.payload.take 4) (authShape 3 d.payload)
    (fun k s => (s.respond k d.index (zeros 16) false).dropRights k 1))

/-- A transfer that no segment has reached for 1 s (R413). -/
def idleTransfer (now : Nat) (t : Option Transfer) : Bool :=
  match t with | some t => decide (t.at_ + nsPerS ≤ now) | none => false

/-- The meaning of UDP_TRANSFER_IDLE (R413): open transfers of UDP session `u` left idle for 1 s are abandoned. -/
def execUdpTransferIdle (u : Fin 8) (s : State) : Host.Outcome State Fault Refusal :=
  let s := s.begin
  .next (s.modSess (4 + u) (fun v => { v with
    transfer := if idleTransfer s.now v.transfer then none else v.transfer
    reading := if idleTransfer s.now v.reading then none else v.reading }))

/-- The meaning of UDP_SESSION_IDLE (R416): UDP session `u` idle for UDP_IDLE_TIMEOUT is closed. -/
def execUdpSessionIdle (u : Fin 8) (s : State) : Host.Outcome State Fault Refusal :=
  let s := s.begin
  let v := s.sessAt (4 + u)
  .next (if v.isOpen ∧ v.lastAt + s.rd Dict.MANAGEMENT_UDP_IDLE_TIMEOUT * nsPerS ≤ s.now then s.dropRights (4 + u) 2 else s)

/-! ### SPI (R417) -/

/-- Kind of `WireItem.packet`: the answer to a FETCH frame. -/
abbrev packetSpi : Nat := 11

/-- Whether the SPI target is enabled (R429, R482, R493). -/
def State.spiUp (s : State) : Bool :=
  s.dictUp && (s.firstTransport == 2 || (!s.onlyFirst && s.flag Dict.MANAGEMENT_SPI_ENABLE))

/-- The bytes of a request frame before its CRC (R417). -/
def spiBytes (op : Nat) (f : SpiFrame) : List Byte :=
  leBytes 1 (op + 128 * f.more.toNat) ++ leBytes 2 f.index ++ leBytes 1 f.sub ++ leBytes 2 f.length ++ leBytes 4 f.offset
    ++ f.data

/-- Kind of `WireItem.packet`: what MISO carries during a request frame. -/
abbrev packetMiso : Nat := 17

/-- What MISO idles at, outside the answer to a FETCH frame (R417). -/
abbrev misoIdle : Byte := 0xFF

/-- Bytes of a request frame with its CRC (R417). -/
def frameSize (f : SpiFrame) : Nat := 12 + f.data.length

/-- MISO while a request frame arrives: idle (R417). -/
def State.misoIdles (s : State) (f : SpiFrame) : State := s.out (.packet packetMiso 0 (List.replicate (frameSize f) misoIdle))

/-- A request frame arrives, while MISO idles: discarded when its CRC fails or one is busy, else it becomes the outstanding
request and its access starts (R417). -/
def State.spiRequest (s : State) (op : Nat) (f : SpiFrame) (shape : Bool) (serve : State → State) : State :=
  if s.spiUp then
    let s := (s.actBy 2).misoIdles f
    if f.crc ≠ crc16 (spiBytes op f) then s.inc Dict.MANAGEMENT_SPI_CRC_ERRORS
    else if s.spi.status = 1 then s
    else
      let s := { s with spi := { status := 1, index := f.index, abort := 0, detail := 0, data := [] } }
      if shape && decide (f.length ≤ 1024) then serve s else s.abort 2 f.index malformed
  else s

/-- The meaning of SPI_READ (R417). -/
def execSpiRead (f : SpiFrame) (s : State) : Host.Outcome State Fault Refusal :=
  .next (s.begin.spiRequest 1 f (f.offset == 0 && f.data.isEmpty) (fun s => s.readWhole 2 1024 f.index f.sub))

/-- The meaning of SPI_WRITE (R417). -/
def execSpiWrite (f : SpiFrame) (s : State) : Host.Outcome State Fault Refusal :=
  .next (s.begin.spiRequest 2 f (f.offset == 0 && f.data.length == f.length)
    (fun s => s.dictWrite 2 f.index f.sub f.data))

/-- The meaning of SPI_READ_BLOCK (R417). -/
def execSpiReadBlock (f : SpiFrame) (s : State) : Host.Outcome State Fault Refusal :=
  .next (s.begin.spiRequest 3 f f.data.isEmpty (fun s => s.readSegment 2 f.length f.index f.sub f.offset))

/-- The meaning of SPI_WRITE_BLOCK (R417). -/
def execSpiWriteBlock (f : SpiFrame) (s : State) : Host.Outcome State Fault Refusal :=
  .next (s.begin.spiRequest 4 f (f.data.length == f.length)
    (fun s => s.writeSegment 2 f.index f.sub f.offset f.data f.more))

/-- What a FETCH frame returns before its CRC (R417). -/
def SpiPort.bytes (p : SpiPort) : List Byte :=
  leBytes 1 p.status ++ leBytes 4 p.abort ++ leBytes 2 p.detail ++ leBytes 2 p.data.length ++ p.data

/-- The meaning of SPI_FETCH (R417). -/
def execSpiFetch (s : State) : Host.Outcome State Fault Refusal :=
  let s := s.begin
  .next (if s.spiUp then s.out (.packet packetSpi 0 (s.spi.bytes ++ leBytes 2 (crc16 s.spi.bytes))) else s)

/-! ### The PCIe mailbox and doorbells (R418, R419) -/

/-- Whether the PCIe session reaches the dictionary: its link is up (R401, R482). -/
def State.pcieServes (s : State) : Bool :=
  s.dictUp && s.rd Dict.PCIE_LINK_STATE == 2 && (s.firstTransport == 3 || !s.onlyFirst)

/-- Bytes that one operation moves through MB_DATA at most (R418). -/
abbrev mailboxMost : Nat := 7340032

/-- MB_GO written: ignored while MB_STATUS is 1, else the request set up is made (R418). -/
def State.mailboxGo (s : State) (op : Nat) (r : MbRequest) (shape : Bool) (serve : Nat → Nat → State → State) : State :=
  if s.pcieServes && s.mailbox.status != 1 then
    let index := r.address / 256
    let m : Mailbox :=
      { op := op + 256 * r.more.toNat, address := r.address, length := r.length, offset := r.offset, value := r.value
        status := 1, abort := 0, detail := 0, receipt := s.timebase, data := r.data }
    let s := { s.actBy 3 with mailbox := m }
    if shape && decide (index < 65536) then serve index (r.address % 256) s else s.abort 3 index malformed
  else s

/-- The dword that BAR0 reads at an offset: the mailbox as Table 14.8 lays it out, and zero at every other offset (R418). -/
def Mailbox.dword (m : Mailbox) (offset : Nat) : Nat :=
  let part (v i : Nat) : Nat := v / 2 ^ (32 * i) % 2 ^ 32
  if 0x100000 ≤ offset ∧ offset < 0x800000 then leAt m.data (offset - 0x100000) 4
  else
    match offset with
    | 0x00 => m.op
    | 0x04 => m.address
    | 0x08 => m.length
    | 0x0C => m.offset
    | 0x10 => part m.value 0
    | 0x14 => part m.value 1
    | 0x18 => part Config.goReads 0
    | 0x1C => m.status
    | 0x20 => m.abort
    | 0x24 => m.detail
    | 0x28 => m.receipt % nsPerS
    | 0x30 => part (m.receipt / nsPerS) 0
    | 0x34 => part (m.receipt / nsPerS % 2 ^ 48) 1
    | _ => 0

/-- The meaning of MB_READ (R418). -/
def execMbRead (r : MbRequest) (s : State) : Host.Outcome State Fault Refusal :=
  .next (s.begin.mailboxGo 1 r true (fun i j s => s.readWhole 3 mailboxMost i j))

/-- The data of a mailbox write: MB_VALUE for a scalar, MB_DATA else (Table 14.8). -/
def mailboxData (i j : Nat) (r : MbRequest) : List Byte :=
  match entryAt i j with
  | some e => if e.type.isBlock then (r.data ++ zeros (r.length - r.data.length)).take r.length else leBytes r.length r.value
  | none => []

/-- The meaning of MB_WRITE (R418). -/
def execMbWrite (r : MbRequest) (s : State) : Host.Outcome State Fault Refusal :=
  .next (s.begin.mailboxGo 2 r (decide (r.length ≤ mailboxMost)) (fun i j s => s.dictWrite 3 i j (mailboxData i j r)))

/-- The meaning of MB_READ_BLOCK (R418). -/
def execMbReadBlock (r : MbRequest) (s : State) : Host.Outcome State Fault Refusal :=
  .next (s.begin.mailboxGo 3 r (decide (r.length ≤ mailboxMost)) (fun i j s => s.readSegment 3 r.length i j r.offset))

/-- The meaning of MB_WRITE_BLOCK (R418). -/
def execMbWriteBlock (r : MbRequest) (s : State) : Host.Outcome State Fault Refusal :=
  .next (s.begin.mailboxGo 4 r (decide (r.length ≤ mailboxMost))
    (fun i j s => s.writeSegment 3 i j r.offset ((r.data ++ zeros (r.length - r.data.length)).take r.length) r.more))

/-- The entry that a doorbell names (Table 14.9). -/
def doorbell (offset : Nat) : Option (Nat × Nat) :=
  if 0x1000 ≤ offset ∧ offset < 0x1100 ∧ offset % 8 = 0 then some (0x2440 + (offset - 0x1000) / 8, 0x0C)
  else if 0x1100 ≤ offset ∧ offset < 0x1180 ∧ offset % 4 = 0 then some (0x2C40 + (offset - 0x1100) / 4, 1)
  else if 0x1180 ≤ offset ∧ offset < 0x11A0 ∧ offset % 4 = 0 then some (0x2860 + (offset - 0x1180) / 4, 1)
  else if offset = 0x11A0 then some (0x2870, 3)
  else if offset = 0x11C0 then some (0x2020, 8)
  else none

/-- A refused doorbell (R419). -/
def State.refuseDoorbell (s : State) (offset index sub : Nat) (r : Refuse) : State :=
  (s.noteRefusal 3 index sub r).raiseBy 3 Event.DOORBELL_REFUSED offset r.detail

/-- A dword of the MSI-X table written, at its offset in BAR4 (R419): what the PCIe core itself serves while the link is
up. -/
def State.writeMsix (s : State) (offset value : Nat) : State :=
  if s.rd Dict.PCIE_LINK_STATE = 2 ∧ offset % 4 = 0 then { s with ev := s.ev.writeMsix (offset / 4) value } else s

/-- A doorbell written: a write of the PCIe session, without an answer (R419). -/
def State.ring (s : State) (offset value : Nat) : State :=
  let s := s.actBy 3
  match doorbell offset with
  | none => s
  | some (index, sub) =>
    let size := match entryAt index sub with | some e => e.type.size | none => 0
    if 256 ^ size ≤ value then s.refuseDoorbell offset index sub (.plain 0x06090030 0x12)
    else
      let data := leBytes size value
      match s.writeCheck false 3 index sub data with
      | .error r => s.refuseDoorbell offset index sub r
      | .ok e =>
        match s.effect offset 3 e index sub data with
        | .refused r t => t.refuseDoorbell offset index sub r
        | .done t => t
        | .waits t => t

/-- The meaning of DOORBELL_WRITE (R419): a dword written to BAR4.  The pending-bit array is read only. -/
def execDoorbellWrite (offset value : Nat) (s : State) : Host.Outcome State Fault Refusal :=
  let s := s.begin
  .next (if offset < 0x400 then s.writeMsix offset value else if s.pcieServes then s.ring offset value else s)

end Sys2Proof.Machine
end

