-- ==== Sys2Proof/Machine/Canopen.lean ====
section
/-! DEFINITION. The CANopen FD interfaces: NMT, USDO, PDOs, SYNC and heartbeat (R409 to R412). -/
namespace Sys2Proof.Machine
open Sys2Proof

/-- Kind of `WireItem.packet`: a frame on a CAN interface, its identifier in 4 bytes first. -/
abbrev packetCan : Nat := 12

/-- A frame goes out on interface `i`. -/
def State.canSend (s : State) (i id : Nat) (data : List Byte) : State := s.out (.packet packetCan i (leBytes 4 id ++ data))

/-- The boot-up message is sent, and the interface is Pre-operational (R410). -/
def State.bootUp (s : State) (i : Nat) : State :=
  (s.modCan i (fun c => { c with nmt := 127, heartbeatAt := s.now })).canSend i (0x700 + s.nodeId i) [0]

/-- Whether an interface takes commands: it is up and has sent its boot-up message. -/
def State.canTakes (s : State) (i : Nat) : Bool := s.canUp i && s.nmtState i != 0

/-- Whether an interface serves USDO requests: it is not Stopped (Table 14.5). -/
def State.canServes (s : State) (i : Nat) : Bool := s.canTakes i && s.nmtState i != 4

/-- Whether an interface is Operational. -/
def State.operational (s : State) (i : Nat) : Bool := s.canUp i && s.nmtState i == 5

/-! ### NMT (R410, Table 14.5) -/

/-- An NMT command ignored. -/
def State.nmtIgnored (s : State) (i command : Nat) : State := s.raiseBy i Event.NMT_IGNORED (i * 256 + command) 0

/-- An NMT command obeyed. -/
def State.nmtObeyed (s : State) (i command : Nat) : State :=
  s.raiseBy i Event.NMT_COMMAND (i * 256 + command) s.devState

/-- The NMT state of an interface is set. -/
def State.setNmt (s : State) (i n : Nat) : State := s.modCan i (fun c => { c with nmt := n })

/-- A command that makes the interface `n`, and under NMT_CONTROL 0 has DEVICE_STATE changed by `change` where that
would change it (R410, Table 14.5). -/
def State.nmtChange (s : State) (i command n : Nat) (changes : Bool) (change : State → Effect) : State :=
  let s := s.actBy i
  if s.canTakes i then
    if s.rd Dict.MANAGEMENT_NMT_CONTROL = 0 ∧ changes then
      if (s.baseRights i).rank < 2 then s.nmtIgnored i command
      else
        match change s with
        | .refused _ _ => s.nmtIgnored i command
        | .done t => (t.setNmt i n).nmtObeyed i command
        | .waits t => (t.setNmt i n).nmtObeyed i command
    else (s.setNmt i n).nmtObeyed i command
  else s

/-- The meaning of NMT_START_REMOTE_NODE (R410). -/
def execNmtStartRemoteNode (can : Fin 2) (s : State) : Host.Outcome State Fault Refusal :=
  let s := s.begin
  .next (s.nmtChange can 1 5 (s.devState != 4) (fun s => s.requestRun can))

/-- Whether a command to STANDBY would change DEVICE_STATE: in RUN and SAFE (R483). -/
def State.leavesFor3 (s : State) : Bool := s.devState == 4 || s.devState == 5

/-- The meaning of NMT_ENTER_PRE_OPERATIONAL (R410). -/
def execNmtEnterPreOperational (can : Fin 2) (s : State) : Host.Outcome State Fault Refusal :=
  let s := s.begin
  .next (s.nmtChange can 0x80 127 s.leavesFor3 (fun s => s.requestStandby can))

/-- The meaning of NMT_STOP_REMOTE_NODE (R410). -/
def execNmtStopRemoteNode (can : Fin 2) (s : State) : Host.Outcome State Fault Refusal :=
  let s := s.begin
  .next (s.nmtChange can 2 4 s.leavesFor3 (fun s => s.requestStandby can))

/-- The communication objects as the store has them, or their defaults where no configuration is loaded (R410). -/
def State.reloadObjects (s : State) : State :=
  let mine (key : Nat) : Bool := decide (0x1000 * 256 ≤ key ∧ key < 0x2000 * 256)
  let c := s.savedInForce
  let saved : Store Nat := if s.onlyFirst || !c.valid then [] else c.regs.filter (fun e => mine e.1)
  let s := { s with regs := s.regs.filter (fun e => !mine e.1) }
  saved.foldl (fun s e => s.setReg e.1 e.2) s

/-- Reset communication: the interface reloads its objects, its session drops, and it boots up again (R410, log 35). -/
def State.resetCommunication (s : State) (i : Nat) : State :=
  let s := (s.actBy i).reloadObjects.dropRights i 3
  let s := s.modCan i (fun c => { c with pendingRpdo := [], tpdoLast := [], tpdoAt := [], tpdoSync := [] })
  s.bootUp i

/-- The meaning of NMT_RESET_COMMUNICATION (R410). -/
def execNmtResetCommunication (can : Fin 2) (s : State) : Host.Outcome State Fault Refusal :=
  let s := s.begin
  .next (if s.canTakes can then (s.resetCommunication can).nmtObeyed can 0x82 else s)

/-- Reset node: by NMT_RESET_ACTION a reset of the device, where the interface's base rights allow it, or a reset of
communication (R410). -/
def State.nmtResetNode (s : State) (i : Nat) : State :=
  if s.canTakes i then
    if s.rd Dict.MANAGEMENT_NMT_RESET_ACTION = 1 then
      if (s.baseRights i).rank < 2 then s.nmtIgnored i 0x81
      else ((s.actBy i).raiseBy i Event.NMT_COMMAND (i * 256 + 0x81) 0).resetSelf i 2
    else (s.resetCommunication i).nmtObeyed i 0x81
  else s

/-- The meaning of NMT_RESET_NODE (R410). -/
def execNmtResetNode (can : Fin 2) (s : State) : Host.Outcome State Fault Refusal := .next (s.begin.nmtResetNode can)

/-! ### USDO (R409) -/

/-- Bytes that one USDO transfer carries at most: that of the largest entry. -/
abbrev usdoMost : Nat := 2 ^ 32

/-- The meaning of USDO_TRANSFER (R409): a whole entry read or written. -/
def execUsdoTransfer (can : Fin 2) (write : Bool) (index sub : Nat) (data : List Byte) (s : State) :
    Host.Outcome State Fault Refusal :=
  let s := s.begin
  .next (if s.canServes can then
      (if write then s.dictWrite can index sub data else s.readWhole can usdoMost index sub)
    else s)

/-! ### PDOs (R411) -/

/-- Entries that a PDO maps, in order: index, sub and bytes (log 35). -/
def State.mappedEntries (s : State) (rpdo : Bool) (n : Nat) : List (Nat × Nat × Nat) :=
  (s.mapping rpdo n).map (fun v => (v / 65536, v / 256 % 256, v % 256 / 8))

/-- The writes that a payload makes through a mapping. -/
def rpdoWrites : List (Nat × Nat × Nat) → List Byte → List (Nat × Nat × List Byte)
  | [], _ => []
  | (index, sub, n) :: l, p => (index, sub, p.take n) :: rpdoWrites l (p.drop n)

/-- An RPDO applied as one access with the interface's session: every entry, or none and RPDO_REFUSED (R411). -/
def State.applyRpdo (s : State) (i n : Nat) (payload : List Byte) : State :=
  match (s.actBy i).writeEach 0xFD i (rpdoWrites (s.mappedEntries true n) payload) with
  | .ok t => t
  | .error (index, sub, r) => (s.noteRefusal i index sub r).raiseBy i Event.RPDO_REFUSED (i * 256 + n) r.detail

/-- A valid PDO: bit 31 of its COB-ID is clear. -/
def State.pdoValid (s : State) (rpdo : Bool) (n : Nat) : Bool :=
  !bit (s.rd (if rpdo then Dict.RPDO_COB_ID else Dict.TPDO_COB_ID) n) 31

/-- An RPDO received: applied at once, or at the next SYNC where its type is synchronous (R411). -/
def State.receiveRpdo (s : State) (i n : Nat) (payload : List Byte) : State :=
  if s.operational i && s.pdoValid true n then
    if s.rd Dict.RPDO_TYPE n ≤ 0xF0 then
      s.modCan i (fun c => { c with pendingRpdo := c.pendingRpdo.filter (fun e => e.1 != n) ++ [(n, payload)] })
    else s.applyRpdo i n payload
  else s

/-- The meaning of RPDO_RECEIVED (R411). -/
def execRpdoReceived (can : Fin 2) (pdo : Fin 8) (payload : List Byte) (s : State) : Host.Outcome State Fault Refusal :=
  .next (s.begin.receiveRpdo can pdo payload)

/-- The bytes that a TPDO carries: the values of its mapped entries (R411). -/
def State.tpdoBytes (s : State) (i n : Nat) : List Byte :=
  (s.mappedEntries false n).flatMap (fun m =>
    match entryAt m.1 m.2.1 with
    | some e => s.entryValue i e (m.1 - e.base) (m.2.1 - e.lo)
    | none => zeros m.2.2)

/-- The identifier of a COB-ID: 29 bits where bit 29 is set, else 11. -/
def cobId (v : Nat) : Nat := if bit v 29 then v % 2 ^ 29 else v % 2 ^ 11

/-- TPDO `n` is sent on interface `i`. -/
def State.sendTpdo (s : State) (i n : Nat) : State :=
  let d := s.tpdoBytes i n
  (s.modCan i (fun c => { c with
    tpdoLast := Store.write (fun _ => []) c.tpdoLast n d
    tpdoAt := Store.write (fun _ => 0) c.tpdoAt n (s.now + 1) })).canSend i (cobId (s.rd Dict.TPDO_COB_ID n)) d

/-- Whether the mapped values of TPDO `n` changed since interface `i` sent it last, or it was never sent. -/
def State.tpdoChanged (s : State) (i n : Nat) : Bool :=
  let c := s.canAt i
  Store.read (fun _ => 0) c.tpdoAt n == 0 || Store.read (fun _ => []) c.tpdoLast n != s.tpdoBytes i n

/-- A TPDO at a SYNC: type 0 when it changed, types 1 to 240 at each such SYNC in turn (R411, log 35). -/
def State.syncTpdo (s : State) (i n : Nat) : State :=
  let type := s.rd Dict.TPDO_TYPE n
  if s.pdoValid false n && decide (type ≤ 0xF0) then
    if type = 0 then (if s.tpdoChanged i n then s.sendTpdo i n else s)
    else
      let count := Store.read (fun _ => 0) (s.canAt i).tpdoSync n + 1
      let s := s.modCan i (fun c => { c with tpdoSync := Store.write (fun _ => 0) c.tpdoSync n (count % type) })
      if count % type = 0 then s.sendTpdo i n else s
  else s

/-- A SYNC: pending RPDOs are applied, then synchronous TPDOs are sent (R411). -/
def State.sync (s : State) (i : Nat) : State :=
  if s.operational i && !bit (s.rd Dict.COB_ID_SYNC_VALUE) 31 then
    let waiting := (s.canAt i).pendingRpdo
    let s := s.modCan i (fun c => { c with pendingRpdo := [] })
    let s := waiting.foldl (fun s e => s.applyRpdo i e.1 e.2) s
    (List.range 8).foldl (fun s n => s.syncTpdo i n) s
  else s

/-- The meaning of SYNC_RECEIVED (R411). -/
def execSyncReceived (can : Fin 2) (s : State) : Host.Outcome State Fault Refusal := .next (s.begin.sync can)

/-- An event-driven TPDO at the check of each 1 ms: sent when its values changed and the inhibit time has passed, and
when its event timer has (R411). -/
def State.checkTpdo (s : State) (i n : Nat) : State :=
  let sent := Store.read (fun _ => 0) (s.canAt i).tpdoAt n
  let since := s.now + 1 - sent
  let timer := s.rd Dict.TPDO_EVENT_TIMER n
  let free := sent == 0 || decide (s.rd Dict.TPDO_INHIBIT n * 100000 ≤ since)
  let expired := timer != 0 && sent != 0 && decide (timer * 1000000 ≤ since)
  if s.pdoValid false n && decide (0xFE ≤ s.rd Dict.TPDO_TYPE n) && ((s.tpdoChanged i n && free) || expired) then
    s.sendTpdo i n
  else s

/-- The meaning of TPDO_CHANGE_CHECK (R411). -/
def execTpdoChangeCheck (can : Fin 2) (s : State) : Host.Outcome State Fault Refusal :=
  let s := s.begin
  .next (if s.operational can then (List.range 8).foldl (fun s n => s.checkTpdo can n) s else s)

/-! ### Heartbeat (R409, R410) -/

/-- The producer's turn: the boot-up message first, then a heartbeat each HEARTBEAT_TIME (R409, R410). -/
def State.heartbeat (s : State) (i : Nat) : State :=
  let c := s.canAt i
  let t := s.rd Dict.HEARTBEAT_TIME_VALUE
  if s.canUp i then
    if c.nmt = 0 then s.bootUp i
    else if t ≠ 0 ∧ c.heartbeatAt + t * 1000000 ≤ s.now then
      (s.modCan i (fun c => { c with heartbeatAt := s.now })).canSend i (0x700 + s.nodeId i) (leBytes 1 (s.nmtState i))
    else s
  else s

/-- The meaning of CAN_HEARTBEAT (R409). -/
def execCanHeartbeat (can : Fin 2) (s : State) : Host.Outcome State Fault Refusal := .next (s.begin.heartbeat can)

end Sys2Proof.Machine
end

