-- ==== Sys2Proof/Machine/Governor.lean ====
section
/-! DEFINITION. The commands of chapter 2 that concern ticks, voltages and the power cap. -/
namespace Sys2Proof.Machine
open Sys2Proof

/-- Pin kinds of `WireItem.pin`: an AVSBus voltage command (island, mV). -/
abbrev pinAvs : Nat := 1

/-- GOVERNOR_TIMER_TICK: a tick when 10 ms have passed since the last one (R36). -/
def State.timerTick (s : State) (t : Telemetry) : State :=
  if s.dictUp ∧ s.gov.lastTick + 10000000 ≤ s.now then s.governorTick t else s

/-- The meaning of GOVERNOR_TIMER_TICK (R36). -/
def execGovernorTimerTick (t : Telemetry) (s : State) : Host.Outcome State Fault Refusal :=
  .next (s.begin.timerTick t)

/-- The least voltage of island `i` in mV (R34). -/
def avsFloor (i : Nat) : Nat := if i = 4 then 550 else 500

/-- The fewest 5 mV steps, up to 8, with which the loop of island `i` still reaches 0.90 V within 2 ms of the last rise of
its target, at one command in 50 µs (R34, log 4). -/
def State.avsLeast (s : State) (i mv : Nat) : Nat :=
  let since := s.now - (Store.read (fun _ => 0) s.gov.targetAt i - 1)
  min 8 (ceilDiv ((900 - mv) / 5) ((2000000 - since) / 50000 + 1))

/-- Steps of 5 mV by which the loop raises the voltage: at most 8 (R34, log 4). -/
def State.avsSteps (s : State) (i pace aim mv : Nat) : Nat :=
  max (s.avsLeast i mv) (1 + Config.avsRaise pace aim % 8)

/-- A voltage within the range of island `i` (R34). -/
def avsWithin (i mv : Nat) : Nat := max (avsFloor i) (min 900 mv)

/-- The voltage that the loop of island `i` commands next, from its ring pace and present voltage; at its pace ceiling an
island goes to 0.90 V and stays there (R34, R35). -/
def State.avsNext (s : State) (i pace mv : Nat) : Nat :=
  let aim := s.rd Dict.ISLAND_PACE_TARGET 0 i * (100 + s.rd Dict.GOVERNOR_AVS_MARGIN)
  if pace * 100 < aim ∨ s.gov.ceilings.contains i = true then avsWithin i (mv + 5 * s.avsSteps i pace aim mv)
  else if aim * 102 < pace * 10000 then avsWithin i (mv - 5)
  else mv

/-- A transaction to the regulator of island `i` that failed: the third in succession is AVS_FAULT
(R35). -/
def State.avsFailed (s : State) (i mv : Nat) : State :=
  let n := Store.read (fun _ => 0) s.gov.avsFails i + 1
  let s := { s with gov := { s.gov with avsFails := Store.write (fun _ => 0) s.gov.avsFails i n } }
  if n = 3 then
    ({ s with gov := { s.gov with avsFault := Store.write (fun _ => false) s.gov.avsFault i true } }).raise
      Event.AVS_FAULT (i + 1) mv
  else s

/-- One run of the AVS loop of island `i`, whose regulator answered or not (R34, R35). -/
def State.avsRun (s : State) (i : Nat) (ok : Bool) (pace mv : Nat) : State :=
  let at_ := Store.read (fun _ => 0) s.gov.avsAt i
  if s.dictUp ∧ (at_ = 0 ∨ at_ - 1 + 50000 ≤ s.now) then
    let s := { s with gov := { s.gov with avsAt := Store.write (fun _ => 0) s.gov.avsAt i (s.now + 1) } }
    let s := s.wr Dict.ISLAND_PACE_PACE pace 0 i
    let s := s.wr Dict.ISLAND_PACE_VOLTAGE mv 0 i
    if ok then
      let s := { s with gov := { s.gov with
        avsFails := Store.write (fun _ => 0) s.gov.avsFails i 0
        avsFault := Store.write (fun _ => false) s.gov.avsFault i false } }
      if bit (s.rd Dict.GOVERNOR_AVS_HOLD) i ∨ s.avsNext i pace mv = mv then s
      else (s.out (.pin pinAvs i (s.avsNext i pace mv))).wr Dict.ISLAND_PACE_VOLTAGE
        (s.avsNext i pace mv) 0 i
    else s.avsFailed i mv
  else s

/-- The meaning of AVS_COMMAND (R34). -/
def execAvsCommand (i : Fin 5) (ok : Bool) (pace mv : Nat) (s : State) :
    Host.Outcome State Fault Refusal :=
  .next (s.begin.avsRun i ok pace mv)

/-- PWR_BUDGET measured over 16 periods: mean high time and period in ns.  A steady level or a frequency
outside 1 to 100 kHz is no valid PWM (R42, R504). -/
def State.measureBudget (s : State) (high period : Nat) : State :=
  if s.alive ∧ 10000 ≤ period ∧ period ≤ 1000000 ∧ 0 < high ∧ high < period then
    let cap := 60 + 120 * high / period
    { s with gov := { s.gov with pinCap := cap, pinLast := cap, pinFault := false, pwmAt := s.now } }
  else s

/-- The meaning of PWR_BUDGET_MEASURE (R504). -/
def execPwrBudgetMeasure (high period : Nat) (s : State) : Host.Outcome State Fault Refusal :=
  .next (s.begin.measureBudget high period)

/-- No valid PWM for 100 ms: the pin cap becomes 60 W (R42). -/
def State.budgetLost (s : State) : State :=
  if s.alive ∧ s.gov.pinFault = false ∧ s.gov.pwmAt + 100000000 ≤ s.now then
    ({ s with gov := { s.gov with pinCap := 60, pinFault := true } }).raisePin Event.CAP_PIN_FAULT
      s.gov.pinLast 0
  else s

/-- The meaning of CAP_PIN_FAULT (R42). -/
def execCapPinFault (s : State) : Host.Outcome State Fault Refusal := .next s.begin.budgetLost

end Sys2Proof.Machine
end

