-- ==== Sys2Proof/Machine/ConfigLoad.lean ====
section
/-! DEFINITION. Loading the configuration at start-up: a series of writes judged as live writes are (R486). -/
namespace Sys2Proof.Machine
open Sys2Proof

/-! ### The tables -/

/-- A table of the saved copy, its defaults where a restore marker covers it (R408, R486). -/
def State.savedTable (s : State) (index : Nat) (m : Store α) : Store α := if s.restored index then [] else m

/-- A stream entry with its ENABLE bit as given. -/
def streamWith (on : Bool) (b : List Byte) : List Byte :=
  (leBytes 1 (byteAt b 0 / 2 * 2 + on.toNat)) ++ b.drop 1

/-- Tables and images unpacked (R406, R484): streams without their ENABLE, which comes later (R486). -/
def State.loadTables (s : State) : State :=
  let c := s.configCopy
  let tiles := s.savedTable 0x2E00 c.tileMap
  let calibs := s.savedTable 0x2E20 c.calib
  let banks := s.savedTable 0x2610 c.banks
  let luts := s.savedTable 0x2620 c.luts
  let luts3d := s.savedTable 0x2620 c.luts3d
  let images := s.savedTable 0x2850 c.imageData
  let streams : Store (List Byte) := (s.savedTable 0x3010 c.streamTable).map (fun e => (e.1, streamWith false e.2))
  let s := { s with
    routes := s.savedTable 0x2500 c.routes
    tileMap := tiles, tileShadow := tiles, calib := calibs, calibShadow := calibs
    banks := banks, luts := luts, luts3d := luts3d
    imageDesc := s.savedTable 0x2850 c.imageDesc, imageData := images
    imageCrc := s.savedTable 0x2850 c.imageCrc
    channelTable := s.savedTable 0x3010 c.channelTable }
  let s := s.routes.foldl (fun s e => s.joinRoute (.ofBytes e.2)) s
  let s := streams.foldl (fun s e => s.putStreamEntry e.1 e.2) s
  let s := s.wr Dict.COEFF_BANKS_BANK_LOADED (s.rd Dict.COEFF_BANKS_BANK_LOADED ||| maskOf (banks.map Prod.fst))
  let s := s.wr Dict.COLOUR_LUTS_LUT_LOADED (s.rd Dict.COLOUR_LUTS_LUT_LOADED ||| maskOf (luts.map Prod.fst))
  let s := s.wr Dict.COLOUR_LUTS_LUT3D_STATE (maskOf (luts3d.map Prod.fst))
  (s.wr Dict.OVERCOAT_IMAGES_LOADED (maskOf ((images.filter (fun e => !e.2.isEmpty)).map Prod.fst))).countImages

/-! ### Every field but ENABLE and ADMIN -/

/-- The ENABLE and ADMIN fields that are applied last, in the order of R486: streams stand between SAPs and heads. -/
def lateEntries : List EntryDef :=
  [Dict.PORT_ADMIN, Dict.GROUP_PORT_ADMIN, Dict.FTG_ENABLE, Dict.INPUT_ENABLE, Dict.HOST_SOURCE_ENABLE,
   Dict.POCKET_PLAYER_ENABLE, Dict.REF_ENABLE, Dict.SAP_ENABLE, Dict.HEAD_ENABLE]

/-- The fields loaded first, as bytes, in ascending index and sub-index. -/
def State.firstFields (s : State) : Store (List Byte) :=
  let c := s.configCopy
  let scalars := c.regs.filterMap (fun e => (entryAt (e.1 / 256) (e.1 % 256)).map (fun d => (e.1, leBytes d.type.size e.2)))
  let all := scalars.foldl (fun m e => Store.put m e.1 e.2) c.doms
  all.filter (fun e => !s.restored (e.1 / 256) &&
    match entryAt (e.1 / 256) (e.1 % 256) with | some d => !lateEntries.contains d | none => false)

/-- A saved field that its rules turn away keeps its default. -/
def State.loadRefused (s : State) (key : Nat) (r : Refuse) : State :=
  s.raise Event.WRITE_REFUSED key r.detail

/-- A saved field loaded: STITCH fields in force and in their shadow; ENABLE of a canvas as saved; the transports' HALT
fields at once; all others by their rules (R127, R486). -/
def State.loadField (s : State) (key : Nat) (data : List Byte) : State :=
  let index := key / 256
  let sub := key % 256
  match s.writeCheck true 0xFF index sub data with
  | .error r => s.loadRefused key r
  | .ok e =>
    if e.apply = .stitch then
      if e.type.isBlock then (s.setDom key data).setDomShadow key data
      else (s.setReg key (leNat data)).setShadow key (leNat data)
    else if e.base = 0x2270 ∨ e = Dict.CANVAS_ENABLE then s.setReg key (leNat data)
    else
      match (if e = Dict.RPDO_MAP_ENTRY then s.setMapping true (index - e.base) (sub - e.lo) (leNat data)
        else if e = Dict.TPDO_MAP_ENTRY then s.setMapping false (index - e.base) (sub - e.lo) (leNat data)
        else s.effect plainly 0xFF e index sub data) with
      | .refused r t => t.loadRefused key r
      | .done t => t
      | .waits t => t

/-! ### ENABLE and ADMIN -/

/-- A saved ENABLE or ADMIN of 1 whose start a live write would refuse: it stays 0 and is told (R486). -/
def State.enableRefused (s : State) (key : Nat) (r : Refuse) : State :=
  s.raise Event.CONFIG_ENABLE_REFUSED key r.detail

/-- ENABLE or ADMIN of unit `n` as saved. -/
def State.savedEnable (s : State) (e : EntryDef) (n : Nat) : Bool :=
  !s.restored (e.base + n) && Store.read dictDefault s.configCopy.regs (e.key n) != 0

/-- ENABLE or ADMIN of unit `n` applied. -/
def State.loadEnable (s : State) (e : EntryDef) (n : Nat) : State :=
  if s.savedEnable e n then
    match s.effect plainly 0xFF e (e.base + n) e.lo [1] with
    | .refused r t => t.enableRefused (e.key n) r
    | .done t => t
    | .waits t => t
  else s

/-- ENABLE of the units of a kind, in ascending number. -/
def State.loadEnables (s : State) (e : EntryDef) (count : Nat) : State :=
  (List.range count).foldl (fun s n => s.loadEnable e n) s

/-- ENABLE of stream entry `k` applied. -/
def State.loadStream (s : State) (k : Nat) : State :=
  if bit (byteAt (Store.read initialStreamEntry (s.savedTable 0x3010 s.configCopy.streamTable) k) 0) 0 then
    let b := streamWith true (s.streamEntryAt k)
    let t := s.setStream k b
    match s.judgeStream t k b with
    | some r => s.enableRefused Dict.AUDIO_MATRIX_STREAM_TABLE.key r
    | none => t.settleDelay.startAlone
  else s

/-- The ENABLE and ADMIN fields, in the order of R486. -/
def State.loadStarts (s : State) : State :=
  let s := s.loadEnables Dict.PORT_ADMIN 48
  let s := s.loadEnables Dict.GROUP_PORT_ADMIN 4
  let s := s.loadEnables Dict.FTG_ENABLE 8
  let s := s.loadEnables Dict.INPUT_ENABLE 64
  let s := s.loadEnables Dict.HOST_SOURCE_ENABLE 32
  let s := s.loadEnables Dict.POCKET_PLAYER_ENABLE 32
  let s := s.loadEnables Dict.REF_ENABLE 12
  let s := s.loadEnables Dict.SAP_ENABLE 8
  let s := (List.range 128).foldl State.loadStream s
  let own (h : Nat) : Bool := s.rd Dict.HEAD_CLONE_OF h == 0xFF
  let s := (allHeads.filter own).foldl (fun s h => s.loadEnable Dict.HEAD_ENABLE h) s
  (allHeads.filter (fun h => !own h)).foldl (fun s h => s.loadEnable Dict.HEAD_ENABLE h) s

/-- The configuration loaded (R486). -/
def State.loadConfig (s : State) : State :=
  let c := s.configCopy
  let s := { s with minSeverityDefault := if s.restored 0x2020 then 1 else c.minSeverity }
  let s := s.loadTables
  let s := s.firstFields.foldl (fun s e => s.loadField e.1 e.2) s
  let (salt, s) := s.draw 8
  let ptl := { s.ptl with slot := s.rd Dict.PTL_KEY_SLOT, salt := salt, nextSalt := [], countdown := 0, again := false }
  let s := { s with ptl := ptl }.judgePtlKey
  let s := { s with audio := { s.audio with next := s.sampleFrom s.timebase } }
  let s := s.loadStarts
  (allCanvases.foldl State.takeWriteBack s.takeBuffers).inUse.countTiles

end Sys2Proof.Machine
end

