-- ==== Sys2Proof/Machine/Startup.lean ====
section
/-! DEFINITION. The commands of power-up, reset and start-up (R478 to R495). -/
namespace Sys2Proof.Machine
open Sys2Proof

/-- The meaning of PORST_N_ASSERTED (R479, R483). -/
def execPorstNAsserted (s : State) : Host.Outcome State Fault Refusal := .next s.begin.assertPorst

/-- The meaning of PORST_N_RELEASED (R481, R483, R484). -/
def execPorstNReleased (straps : Fin 4096) (found : LoadFound) (s : State) : Host.Outcome State Fault Refusal :=
  .next (s.begin.releasePorst straps found)

/-- The meaning of THERMTRIP (R480, R507). -/
def execThermtrip (s : State) : Host.Outcome State Fault Refusal := .next s.begin.trip

/-! ### LOAD (R484, R485, R360) -/

/-- Milliseconds from a milestone to now (Table 18.6). -/
def State.msSince (s : State) (i : Nat) : Nat :=
  (s.now - s.dev.bootAt) / 1000000 - (s.dev.startTimes[i]?).getD 0

/-- The number of units retired. -/
def State.retiredUnits (s : State) : Nat := (s.resil.retired.filter (fun e => e.2)).length

/-- A unit that fails the quick BIST is retired with cause 4; a bank's copy holds nothing yet (R485). -/
def State.failBist (s : State) (kind unit : Nat) : State := (s.permanentOne kind unit 4).endCopy kind unit

/-- The quick BIST ends: failing engines and banks are retired, the lower-numbered first (R387, R485). -/
def State.endBist (s : State) (engines banks : List Nat) : State :=
  if s.devState = 1 ∧ s.dev.bistDone = false then
    let rising (l : List Nat) : List Nat := l.foldl (fun l n => insertNat n l) []
    let before := s.retiredUnits
    let s := (rising engines).foldl (fun s e => s.failBist 1 e) s
    let s := (rising banks).foldl (fun s b => s.failBist 3 b) s
    let s := { s with dev := { s.dev with bistDone := true } }.wr Dict.DRAM_STATE 1
    (s.milestone 1).raise Event.BIST_DONE (s.retiredUnits - before) (s.msSince 0)
  else s

/-- The meaning of BIST_DONE (R485). -/
def execBistDone (engines : List (Fin 104)) (banks : List (Fin 1088)) (s : State) : Host.Outcome State Fault Refusal :=
  .next (s.begin.endBist (engines.map Fin.val) (banks.map Fin.val))

/-- Full training takes 1.1 s from the end of the BIST (R360). -/
abbrev fullTraining : Nat := 1100000000

/-- DRAM is trained: from the stored results when they hold for the fitting and pass their pattern test, else in full,
after which the new results are stored; a channel that full training cannot bring up is lost (R360, Table 13.2). -/
def State.endTraining (s : State) (identity : Nat) (verified : Bool) (failed : List Nat) : State :=
  let key := identity :: s.dram.inForce.take 3
  let stored := verified && s.dram.trained == key
  let began := s.dev.bootAt + (s.dev.startTimes[1]?).getD 0 * 1000000
  if s.devState = 1 ∧ s.dev.bistDone ∧ s.dev.dramDone = false ∧ (stored ∨ began + fullTraining ≤ s.now) then
    let lost := (List.range 24).any (fun m => s.dramChannel m == 3)
    let capacity := dataCapacity (s.dramSetting 1) (s.dramSetting 2) (s.dramSetting 3)
    let s := (s.wr Dict.DRAM_TRAINING (if stored then 1 else 2)).wr Dict.DRAM_DATA_CAPACITY capacity
    let s := { s with dev := { s.dev with dramDone := true } }.wr Dict.DRAM_STATE (if lost then 3 else 2)
    let s := if stored then s
      else if s.floor then { s with dram := { s.dram with training := key, trainedNew := true } }
      else { s with dram := { s.dram with training := key, trained := key } }
    let s := if stored then s
      else (List.range 24).foldl (fun s m => if failed.contains m then s.hardFault 6 m 2 else s) s
    let s := (s.wr Dict.DRAM_POOL_FREE (2 * s.poolFree)).milestone 2
    s.raise Event.DRAM_TRAINED (if stored then 1 else 2) (s.msSince 1)
  else s

/-- The meaning of DRAM_TRAINED (R360): the devices' identity, whether every channel passed its pattern test, and the
channels that full training failed to bring up. -/
def execDramTrained (identity : Nat) (verified : Bool) (failed : List (Fin 24)) (s : State) :
    Host.Outcome State Fault Refusal :=
  .next (s.begin.endTraining identity verified (failed.map Fin.val))

/-- The state that LOAD leads to, by BOOT_SEL (Tables 18.1 and 18.2). -/
def State.bootState (s : State) : Nat := match field s.dev.straps 1 0 with | 0 => 3 | 2 => 2 | _ => 6

/-- LOAD ends: the configuration is loaded, the dictionary becomes available, and the CAN interfaces boot up (R482,
R484, R486, R493, R494). -/
def State.endLoad (s : State) : State :=
  if s.devState = 1 ∧ s.dev.dramDone then
    let next := s.bootState
    let s := s.enterState 0xFF next
    let s := s.loadConfig
    let s := (s.wr Dict.HENTIS_OSC_PRESENT 1)
    let s := { s with hentis := { s.hentis with secondAt := s.now } }
    let s := [0, 1, 2, 3].foldl (fun s k => s.openSess k) s
    let s := [0, 1].foldl (fun s i => if s.canUp i then s.bootUp i else s) s
    let s := s.raiseIf (s.dev.bootCause == 3) Event.THERMTRIP_SEEN s.life.cycles 0
    let s := if next = 3 then s.milestone 3 else s
    let idle := next != 3 || !s.flag Dict.DEVICE_STATE_AUTO_RUN || s.dev.autoSuppressed
    { s with dev := { s.dev with standbyAt := s.now, autoTried := idle } }
  else s

/-- The meaning of LOAD_DONE (R484). -/
def execLoadDone (s : State) : Host.Outcome State Fault Refusal := .next s.begin.endLoad

/-! ### Requests (R483, R487, R491, R495) -/

/-- The meaning of REQUEST_RUN (R487). -/
def execRequestRun (sess : Fin 12) (s : State) : Host.Outcome State Fault Refusal :=
  .next (s.begin.writeScalar sess Dict.DEVICE_STATE_REQUEST 0 0 4 (fun s => s.requestRun sess))

/-- The meaning of REQUEST_STANDBY (R483). -/
def execRequestStandby (sess : Fin 12) (s : State) : Host.Outcome State Fault Refusal :=
  .next (s.begin.writeScalar sess Dict.DEVICE_STATE_REQUEST 0 0 3 (fun s => s.requestStandby sess))

/-- The meaning of REQUEST_SAFE (R491). -/
def execRequestSafe (sess : Fin 12) (s : State) : Host.Outcome State Fault Refusal :=
  .next (s.begin.writeScalar sess Dict.DEVICE_STATE_REQUEST 0 0 5 (fun s => s.requestSafe sess))

/-- The meaning of RESET (R495). -/
def execReset (sess : Fin 12) (value : Nat) (s : State) : Host.Outcome State Fault Refusal :=
  .next (s.begin.writeScalar sess Dict.DEVICE_STATE_RESET 0 0 value (fun s => s.writeReset sess))

/-- The meaning of FULL_BIST (R494). -/
def execFullBist (sess : Fin 12) (value : Nat) (s : State) : Host.Outcome State Fault Refusal :=
  .next (s.begin.writeScalar sess Dict.DEVICE_STATE_FULL_BIST 0 0 value State.startFullBist)

/-- The full BIST ends: its failures are reported, up to 64, and no unit is retired (R494). -/
def State.endFullBist (s : State) (failures : List (Nat × Nat)) : State :=
  if s.devState = 2 ∧ s.dev.fullBist then
    { s with dev := { s.dev with fullBist := false, bistFailures := failures.take 64 } }
  else s

/-- The meaning of FULL_BIST_DONE (R494): each failure's kind and unit. -/
def execFullBistDone (failures : List (Nat × Nat)) (s : State) : Host.Outcome State Fault Refusal :=
  .next (s.begin.endFullBist failures)

/-! ### Auto-run (R488) and SAFE (R483) -/

/-- Whether auto-run is still to be tried. -/
def State.autoRunOpen (s : State) : Bool :=
  s.devState == 3 && s.flag Dict.DEVICE_STATE_AUTO_RUN && !s.dev.autoTried && !s.dev.autoSuppressed

/-- The condition of AUTO_RUN_WAIT. -/
def State.autoRunReady (s : State) : Bool :=
  s.rd Dict.DEVICE_STATE_AUTO_RUN_WAIT == 0 || (s.rd Dict.HENTIS_STATE == 2 && s.hentis.jump.isNone)

/-- The device requests RUN by itself, once; a failed entry raises RUN_REFUSED (R488). -/
def State.autoRun (s : State) : State :=
  let s := { s with dev := { s.dev with autoTried := true } }
  match s.requestRun 0xFF with
  | .refused r t => t.raise Event.RUN_REFUSED (r.detail * 65536 + r.fieldIndex) r.fieldSub
  | .done t => t
  | .waits t => t

/-- The meaning of AUTO_RUN (R488). -/
def execAutoRun (s : State) : Host.Outcome State Fault Refusal :=
  .next (if s.begin.autoRunOpen && s.begin.autoRunReady then s.begin.autoRun else s.begin)

/-- AUTO_RUN_TIMEOUT has passed since STANDBY without the condition: RUN is requested all the same (R488). -/
def State.autoRunLate (s : State) : State :=
  let limit := s.rd Dict.DEVICE_STATE_AUTO_RUN_TIMEOUT
  if s.autoRunOpen && !s.autoRunReady && decide (s.dev.standbyAt + limit * nsPerS ≤ s.now) then
    (s.raise Event.AUTO_RUN_TIMEOUT (s.rd Dict.HENTIS_STATE) limit).autoRun
  else s

/-- The meaning of AUTO_RUN_TIMEOUT (R488). -/
def execAutoRunTimeout (s : State) : Host.Outcome State Fault Refusal := .next s.begin.autoRunLate

/-- The meaning of SAFE_ENTERED (R483, R491): the hottest sensor has been at or above SAFE_TEMP for 1 s. -/
def execSafeEntered (s : State) : Host.Outcome State Fault Refusal :=
  let s := s.begin
  .next (if (s.devState = 3 ∨ s.devState = 4) ∧ s.since s.gov.hotSince nsPerS then s.enterSafe 0xFF 2 else s)

end Sys2Proof.Machine
end

