-- ==== Sys2Proof/Machine/Dispatch.lean ====
section
/-! DEFINITION. The meaning of every command, one arm for each. -/
namespace Sys2Proof.Machine
open Sys2Proof

/-- What a command does to the machine, its queue apart. -/
def exec (i : Instr) (s : State) : Host.Outcome State Fault Refusal :=
  match i with
  | .dictWrite sess index sub data => Sys2Proof.Machine.execDictWrite sess index sub data s
  | .eventQueueRead sess => Sys2Proof.Machine.execEventQueueRead sess s
  | .evtNAck sess value => Sys2Proof.Machine.execEvtNAck sess value s
  | .lastRefusalClear sess value => Sys2Proof.Machine.execLastRefusalClear sess value s
  | .timebaseTimeRead sess => Sys2Proof.Machine.execTimebaseTimeRead sess s
  | .fifoLowWaterRead sess h => Sys2Proof.Machine.execFifoLowWaterRead sess h s
  | .lifecycleChallenge sess => Sys2Proof.Machine.execLifecycleChallenge sess s
  | .udpRead d => Sys2Proof.Machine.execUdpRead d s
  | .udpWrite d => Sys2Proof.Machine.execUdpWrite d s
  | .udpReadBlock d => Sys2Proof.Machine.execUdpReadBlock d s
  | .udpWriteBlock d => Sys2Proof.Machine.execUdpWriteBlock d s
  | .udpCommit d => Sys2Proof.Machine.execUdpCommit d s
  | .udpSubscribe d => Sys2Proof.Machine.execUdpSubscribe d s
  | .udpAuthPhase1 d => Sys2Proof.Machine.execUdpAuthPhase1 d s
  | .udpAuthPhase2 d => Sys2Proof.Machine.execUdpAuthPhase2 d s
  | .udpAuthPhase3 d => Sys2Proof.Machine.execUdpAuthPhase3 d s
  | .udpTransferIdle u => Sys2Proof.Machine.execUdpTransferIdle u s
  | .udpSessionIdle u => Sys2Proof.Machine.execUdpSessionIdle u s
  | .spiRead f => Sys2Proof.Machine.execSpiRead f s
  | .spiWrite f => Sys2Proof.Machine.execSpiWrite f s
  | .spiReadBlock f => Sys2Proof.Machine.execSpiReadBlock f s
  | .spiWriteBlock f => Sys2Proof.Machine.execSpiWriteBlock f s
  | .mbRead r => Sys2Proof.Machine.execMbRead r s
  | .mbWrite r => Sys2Proof.Machine.execMbWrite r s
  | .mbReadBlock r => Sys2Proof.Machine.execMbReadBlock r s
  | .mbWriteBlock r => Sys2Proof.Machine.execMbWriteBlock r s
  | .doorbellWrite offset value => Sys2Proof.Machine.execDoorbellWrite offset value s
  | .nmtStartRemoteNode can => Sys2Proof.Machine.execNmtStartRemoteNode can s
  | .nmtEnterPreOperational can => Sys2Proof.Machine.execNmtEnterPreOperational can s
  | .nmtStopRemoteNode can => Sys2Proof.Machine.execNmtStopRemoteNode can s
  | .nmtResetCommunication can => Sys2Proof.Machine.execNmtResetCommunication can s
  | .nmtResetNode can => Sys2Proof.Machine.execNmtResetNode can s
  | .usdoTransfer can write index sub data => Sys2Proof.Machine.execUsdoTransfer can write index sub data s
  | .rpdoReceived can pdo payload => Sys2Proof.Machine.execRpdoReceived can pdo payload s
  | .syncReceived can => Sys2Proof.Machine.execSyncReceived can s
  | .tpdoChangeCheck can => Sys2Proof.Machine.execTpdoChangeCheck can s
  | .canHeartbeat can => Sys2Proof.Machine.execCanHeartbeat can s
  | .hostRingDescriptorRead status consumer => Sys2Proof.Machine.execHostRingDescriptorRead status consumer s
  | .clientNonce sess nonce => Sys2Proof.Machine.execClientNonce sess nonce s
  | .proof sess proof => Sys2Proof.Machine.execProof sess proof s
  | .authLockoutExpiry sess source => Sys2Proof.Machine.execAuthLockoutExpiry sess source s
  | .drop sess value => Sys2Proof.Machine.execDrop sess value s
  | .store sess sub value => Sys2Proof.Machine.execStore sess sub value s
  | .storeDone verified => Sys2Proof.Machine.execStoreDone verified s
  | .restore sess sub value => Sys2Proof.Machine.execRestore sess sub value s
  | .composeLatch c t line0 => Sys2Proof.Machine.execComposeLatch c t line0 s
  | .governorTimerTick t => Sys2Proof.Machine.execGovernorTimerTick t s
  | .enginePaceFault e => Sys2Proof.Machine.execEnginePaceFault e s
  | .avsCommand isl ok pace mv => Sys2Proof.Machine.execAvsCommand isl ok pace mv s
  | .pwrBudgetMeasure high period => Sys2Proof.Machine.execPwrBudgetMeasure high period s
  | .stripDispatch e => Sys2Proof.Machine.execStripDispatch e s
  | .chaseSegmentReady n lines p => Sys2Proof.Machine.execChaseSegmentReady n lines p s
  | .stripReissue strip => Sys2Proof.Machine.execStripReissue strip s
  | .stripComplete e strip => Sys2Proof.Machine.execStripComplete e strip s
  | .composeDeadline c => Sys2Proof.Machine.execComposeDeadline c s
  | .engineEccError e strip entry double => Sys2Proof.Machine.execEngineEccError e strip entry double s
  | .engineParity e strip unit => Sys2Proof.Machine.execEngineParity e strip unit s
  | .engineTimeout e strip => Sys2Proof.Machine.execEngineTimeout e strip s
  | .engineReset e => Sys2Proof.Machine.execEngineReset e s
  | .portAdminUp sess p => Sys2Proof.Machine.execPortAdminUp sess p s
  | .portAdminDown sess p => Sys2Proof.Machine.execPortAdminDown sess p s
  | .spareOfWrite sess l value => Sys2Proof.Machine.execSpareOfWrite sess l value s
  | .generationWrite sess p value => Sys2Proof.Machine.execGenerationWrite sess p value s
  | .laneLost l alignment => Sys2Proof.Machine.execLaneLost l alignment s
  | .laneUp l f => Sys2Proof.Machine.execLaneUp l f s
  | .laneTrainFail l autoneg => Sys2Proof.Machine.execLaneTrainFail l autoneg s
  | .laneDegraded l => Sys2Proof.Machine.execLaneDegraded l s
  | .laneRecovered l => Sys2Proof.Machine.execLaneRecovered l s
  | .fecUncorrectable p count => Sys2Proof.Machine.execFecUncorrectable p count s
  | .laneMarginUpdate l snr high r => Sys2Proof.Machine.execLaneMarginUpdate l snr high r s
  | .ptlSpareReady l => Sys2Proof.Machine.execPtlSpareReady l s
  | .ethernetFrameRx p length fcs pause => Sys2Proof.Machine.execEthernetFrameRx p length fcs pause s
  | .groupAdminUp sess g => Sys2Proof.Machine.execGroupAdminUp sess g s
  | .groupAdminDown sess g => Sys2Proof.Machine.execGroupAdminDown sess g s
  | .hpdChange g p => Sys2Proof.Machine.execHpdChange g p s
  | .irqHpd g us => Sys2Proof.Machine.execIrqHpd g us s
  | .edidWrite sess g data => Sys2Proof.Machine.execEdidWrite sess g data s
  | .edidHpdRelease g => Sys2Proof.Machine.execEdidHpdRelease g s
  | .sinkEdidChanged g data => Sys2Proof.Machine.execSinkEdidChanged g data s
  | .hdcpAuthenticated g depth ids => Sys2Proof.Machine.execHdcpAuthenticated g depth ids s
  | .hdcpFailed g step => Sys2Proof.Machine.execHdcpFailed g step s
  | .dlinkTrainFail g rate => Sys2Proof.Machine.execDlinkTrainFail g rate s
  | .cecTx sess g data => Sys2Proof.Machine.execCecTx sess g data s
  | .cecRx g data => Sys2Proof.Machine.execCecRx g data s
  | .pcieLinkUp speed width => Sys2Proof.Machine.execPcieLinkUp speed width s
  | .pcieLinkDown ltssm => Sys2Proof.Machine.execPcieLinkDown ltssm s
  | .pcieAer uncorrectable status => Sys2Proof.Machine.execPcieAer uncorrectable status s
  | .bar2Access write offset length data => Sys2Proof.Machine.execBar2Access write offset length data s
  | .targetSpeedWrite sess value => Sys2Proof.Machine.execTargetSpeedWrite sess value s
  | .rpDeviceFound k => Sys2Proof.Machine.execRpDeviceFound k s
  | .mgmtLink v => Sys2Proof.Machine.execMgmtLink v s
  | .canBusOff can tec => Sys2Proof.Machine.execCanBusOff can tec s
  | .canErrorPassive can e => Sys2Proof.Machine.execCanErrorPassive can e s
  | .inputEnable sess n => Sys2Proof.Machine.execInputEnable sess n s
  | .inputDisable sess n => Sys2Proof.Machine.execInputDisable sess n s
  | .inputFrameEnd n f => Sys2Proof.Machine.execInputFrameEnd n f s
  | .inputMissingFrame n => Sys2Proof.Machine.execInputMissingFrame n s
  | .inputSignalLoss n line => Sys2Proof.Machine.execInputSignalLoss n line s
  | .inputGapTimeout n path line => Sys2Proof.Machine.execInputGapTimeout n path line s
  | .inputSignalDetected n measured => Sys2Proof.Machine.execInputSignalDetected n measured s
  | .inputPacketRx n k => Sys2Proof.Machine.execInputPacketRx n k s
  | .hostSourceEnable sess n => Sys2Proof.Machine.execHostSourceEnable sess n s
  | .hostSourceDisable sess n => Sys2Proof.Machine.execHostSourceDisable sess n s
  | .flip sess n value => Sys2Proof.Machine.execFlip sess n value s
  | .hostFetchComplete n data => Sys2Proof.Machine.execHostFetchComplete n data s
  | .hostFetchFault n status => Sys2Proof.Machine.execHostFetchFault n status s
  | .hostReleased n => Sys2Proof.Machine.execHostReleased n s
  | .pocketPlayerEnable sess n => Sys2Proof.Machine.execPocketPlayerEnable sess n s
  | .pocketPlayerDisable sess n => Sys2Proof.Machine.execPocketPlayerDisable sess n s
  | .pocketStop sess n => Sys2Proof.Machine.execPocketStop sess n s
  | .pocketCue sess n => Sys2Proof.Machine.execPocketCue sess n s
  | .pocketPlay sess n => Sys2Proof.Machine.execPocketPlay sess n s
  | .pocketLoop sess n => Sys2Proof.Machine.execPocketLoop sess n s
  | .pocketPause sess n => Sys2Proof.Machine.execPocketPause sess n s
  | .pocketPrefetchComplete n frame p audio ok => Sys2Proof.Machine.execPocketPrefetchComplete n frame p audio ok s
  | .headCommit sess h => Sys2Proof.Machine.execHeadCommit sess h s
  | .canvasCommit sess c => Sys2Proof.Machine.execCanvasCommit sess c s
  | .commitDiscard sess x => Sys2Proof.Machine.execCommitDiscard sess x s
  | .stitchGroupCommit sess => Sys2Proof.Machine.execStitchGroupCommit sess s
  | .routeTableWrite sess data => Sys2Proof.Machine.execRouteTableWrite sess data s
  | .switch sess value => Sys2Proof.Machine.execSwitch sess value s
  | .routeSwitched o => Sys2Proof.Machine.execRouteSwitched o s
  | .roughSwitch o => Sys2Proof.Machine.execRoughSwitch o s
  | .followSwitch o t => Sys2Proof.Machine.execFollowSwitch o t s
  | .flowPacketForward port dest source udp seq start lines full payload => Sys2Proof.Machine.execFlowPacketForward port dest source udp seq start lines full payload s
  | .routeFlowLost k => Sys2Proof.Machine.execRouteFlowLost k s
  | .reserveWrite sess p value => Sys2Proof.Machine.execReserveWrite sess p value s
  | .bankDataWrite sess data => Sys2Proof.Machine.execBankDataWrite sess data s
  | .lutDataWrite sess data => Sys2Proof.Machine.execLutDataWrite sess data s
  | .lut3dDataWrite sess data => Sys2Proof.Machine.execLut3dDataWrite sess data s
  | .motionEstimationStart n => Sys2Proof.Machine.execMotionEstimationStart n s
  | .motionEstimationDone n found => Sys2Proof.Machine.execMotionEstimationDone n found s
  | .clearCounters sess value => Sys2Proof.Machine.execClearCounters sess value s
  | .canvasEnable sess c => Sys2Proof.Machine.execCanvasEnable sess c s
  | .canvasDisable sess c => Sys2Proof.Machine.execCanvasDisable sess c s
  | .writebackFrameDone c k => Sys2Proof.Machine.execWritebackFrameDone c k s
  | .overcoatArmNChange asserted => Sys2Proof.Machine.execOvercoatArmNChange asserted s
  | .overcoatArmWrite sess value => Sys2Proof.Machine.execOvercoatArmWrite sess value s
  | .latchClear sess value => Sys2Proof.Machine.execLatchClear sess value s
  | .imageDescWrite sess data => Sys2Proof.Machine.execImageDescWrite sess data s
  | .imageDataWrite sess data => Sys2Proof.Machine.execImageDataWrite sess data s
  | .liningValid c => Sys2Proof.Machine.execLiningValid c s
  | .rebuild sess value => Sys2Proof.Machine.execRebuild sess value s
  | .headEnable sess h => Sys2Proof.Machine.execHeadEnable sess h s
  | .headDisable sess h => Sys2Proof.Machine.execHeadDisable sess h s
  | .headFrameStart h low => Sys2Proof.Machine.execHeadFrameStart h low s
  | .flipLatch h => Sys2Proof.Machine.execFlipLatch h s
  | .startOfBlank h => Sys2Proof.Machine.execStartOfBlank h s
  | .lineMatch h => Sys2Proof.Machine.execLineMatch h s
  | .headUnderrun h line x => Sys2Proof.Machine.execHeadUnderrun h line x s
  | .checkWindowEnd h w echo => Sys2Proof.Machine.execCheckWindowEnd h w echo s
  | .safeClear sess h value => Sys2Proof.Machine.execSafeClear sess h value s
  | .echoFault h unit => Sys2Proof.Machine.execEchoFault h unit s
  | .retime sess h value => Sys2Proof.Machine.execRetime sess h value s
  | .retimeNewTiming h => Sys2Proof.Machine.execRetimeNewTiming h s
  | .legacyStatusClear sess which value => Sys2Proof.Machine.execLegacyStatusClear sess which value s
  | .tileMapWrite sess data => Sys2Proof.Machine.execTileMapWrite sess data s
  | .calibrationWrite sess data => Sys2Proof.Machine.execCalibrationWrite sess data s
  | .calibPeriodic h => Sys2Proof.Machine.execCalibPeriodic h s
  | .pixelsSend h k => Sys2Proof.Machine.execPixelsSend h k s
  | .keySlotWrite sess value => Sys2Proof.Machine.execKeySlotWrite sess value s
  | .rekey sess value => Sys2Proof.Machine.execRekey sess value s
  | .statusReceived p data => Sys2Proof.Machine.execStatusReceived p data s
  | .tileMissing k => Sys2Proof.Machine.execTileMissing k s
  | .controlTx sess data => Sys2Proof.Machine.execControlTx sess data s
  | .refEnable sess n => Sys2Proof.Machine.execRefEnable sess n s
  | .refDisable sess n => Sys2Proof.Machine.execRefDisable sess n s
  | .refActivityFail n vertical age => Sys2Proof.Machine.execRefActivityFail n vertical age s
  | .refGlitch n interval => Sys2Proof.Machine.execRefGlitch n interval s
  | .measurementIntervalEnd n m => Sys2Proof.Machine.execMeasurementIntervalEnd n m s
  | .refQualified n => Sys2Proof.Machine.execRefQualified n s
  | .refSwitchDone phase => Sys2Proof.Machine.execRefSwitchDone phase s
  | .loopModeChange sess value => Sys2Proof.Machine.execLoopModeChange sess value s
  | .steerFreq sess value => Sys2Proof.Machine.execSteerFreq sess value s
  | .steerPhase sess value => Sys2Proof.Machine.execSteerPhase sess value s
  | .forceWrite sess revertive value => Sys2Proof.Machine.execForceWrite sess revertive value s
  | .align sess => Sys2Proof.Machine.execAlign sess s
  | .alignEndSlew sess => Sys2Proof.Machine.execAlignEndSlew sess s
  | .set sess value => Sys2Proof.Machine.execSet sess value s
  | .ftgEnable sess n => Sys2Proof.Machine.execFtgEnable sess n s
  | .ftgDisable sess n => Sys2Proof.Machine.execFtgDisable sess n s
  | .ftgBaseFrameStart n => Sys2Proof.Machine.execFtgBaseFrameStart n s
  | .ptpSyncRx n domain sender sync delay => Sys2Proof.Machine.execPtpSyncRx n domain sender sync delay s
  | .ptpAnnounceRx n a => Sys2Proof.Machine.execPtpAnnounceRx n a s
  | .sampleFrame saps inputs => Sys2Proof.Machine.execSampleFrame saps inputs s
  | .sapEnable sess n => Sys2Proof.Machine.execSapEnable sess n s
  | .sapDisable sess n => Sys2Proof.Machine.execSapDisable sess n s
  | .audioTriggerStart sess => Sys2Proof.Machine.execAudioTriggerStart sess s
  | .audioTriggerStop sess => Sys2Proof.Machine.execAudioTriggerStop sess s
  | .sapClockLost n => Sys2Proof.Machine.execSapClockLost n s
  | .sapClockRestored kind num => Sys2Proof.Machine.execSapClockRestored kind num s
  | .audioRateWindow kind num rate pcm => Sys2Proof.Machine.execAudioRateWindow kind num rate pcm s
  | .streamPacketRx k path seq frames => Sys2Proof.Machine.execStreamPacketRx k path seq frames s
  | .streamLost k path => Sys2Proof.Machine.execStreamLost k path s
  | .channelTableWrite sess data => Sys2Proof.Machine.execChannelTableWrite sess data s
  | .streamTableWrite sess data => Sys2Proof.Machine.execStreamTableWrite sess data s
  | .headMapWrite sess data => Sys2Proof.Machine.execHeadMapWrite sess data s
  | .matrixRateWrite sess den value => Sys2Proof.Machine.execMatrixRateWrite sess den value s
  | .scanMibWrite sess stage value => Sys2Proof.Machine.execScanMibWrite sess stage value s
  | .storeEccError w double => Sys2Proof.Machine.execStoreEccError w double s
  | .dramEccError w double => Sys2Proof.Machine.execDramEccError w double s
  | .dramRowRemapped m row => Sys2Proof.Machine.execDramRowRemapped m row s
  | .dramSleepCycle cause => Sys2Proof.Machine.execDramSleepCycle cause s
  | .dramRecentre failed => Sys2Proof.Machine.execDramRecentre failed s
  | .dramTrained identity verified failed => Sys2Proof.Machine.execDramTrained identity verified failed s
  | .pocketEnable sess value => Sys2Proof.Machine.execPocketEnable sess value s
  | .pocketDriveUp k d => Sys2Proof.Machine.execPocketDriveUp k d s
  | .pocketDriveDown k link status => Sys2Proof.Machine.execPocketDriveDown k link status s
  | .captureStart sess k => Sys2Proof.Machine.execCaptureStart sess k s
  | .captureStop sess k => Sys2Proof.Machine.execCaptureStop sess k s
  | .captureFrameWritten k done => Sys2Proof.Machine.execCaptureFrameWritten k done s
  | .captureCheckpoint k => Sys2Proof.Machine.execCaptureCheckpoint k s
  | .pocketFlush k => Sys2Proof.Machine.execPocketFlush k s
  | .clipDelete sess value => Sys2Proof.Machine.execClipDelete sess value s
  | .pocketFormat sess value => Sys2Proof.Machine.execPocketFormat sess value s
  | .unitPermanentFault kind units => Sys2Proof.Machine.execUnitPermanentFault kind units s
  | .storeRowSpared bank unit => Sys2Proof.Machine.execStoreRowSpared bank unit s
  | .meshLinkCrcError link => Sys2Proof.Machine.execMeshLinkCrcError link s
  | .holdRetireWrite sess value => Sys2Proof.Machine.execHoldRetireWrite sess value s
  | .spareCheck kind unit good => Sys2Proof.Machine.execSpareCheck kind unit good s
  | .patchMapClear sess value => Sys2Proof.Machine.execPatchMapClear sess value s
  | .clearWeights sess value => Sys2Proof.Machine.execClearWeights sess value s
  | .exportNonce sess nonce => Sys2Proof.Machine.execExportNonce sess nonce s
  | .histogramSample v => Sys2Proof.Machine.execHistogramSample v s
  | .writeFloorEntered r => Sys2Proof.Machine.execWriteFloorEntered r s
  | .writeFloorLeft r => Sys2Proof.Machine.execWriteFloorLeft r s
  | .shutdown sess value => Sys2Proof.Machine.execShutdown sess value s
  | .keyWrite sess n key => Sys2Proof.Machine.execKeyWrite sess n key s
  | .keyErase sess n value => Sys2Proof.Machine.execKeyErase sess n value s
  | .hdcpKeysWrite sess data => Sys2Proof.Machine.execHdcpKeysWrite sess data s
  | .lifecycleTarget sess value => Sys2Proof.Machine.execLifecycleTarget sess value s
  | .lifecycleConfirm sess value => Sys2Proof.Machine.execLifecycleConfirm sess value s
  | .porstNReleased straps found => Sys2Proof.Machine.execPorstNReleased straps found s
  | .bistDone engines banks => Sys2Proof.Machine.execBistDone engines banks s
  | .requestRun sess => Sys2Proof.Machine.execRequestRun sess s
  | .requestStandby sess => Sys2Proof.Machine.execRequestStandby sess s
  | .requestSafe sess => Sys2Proof.Machine.execRequestSafe sess s
  | .reset sess value => Sys2Proof.Machine.execReset sess value s
  | .fullBist sess value => Sys2Proof.Machine.execFullBist sess value s
  | .fullBistDone failures => Sys2Proof.Machine.execFullBistDone failures s
  | .echoReceiverRelock h unit => Sys2Proof.Machine.execEchoReceiverRelock h unit s
  | .storeBankParityError bank => Sys2Proof.Machine.execStoreBankParityError bank s
  | .dramChannelParityError m => Sys2Proof.Machine.execDramChannelParityError m s
  | .mramWriteVerifyFailure sector fault => Sys2Proof.Machine.execMramWriteVerifyFailure sector fault s
  | .slaveSapFrame n samples => Sys2Proof.Machine.execSlaveSapFrame n samples s
  | .spiFetch => Sys2Proof.Machine.execSpiFetch s
  | .capPinFault => Sys2Proof.Machine.execCapPinFault s
  | .mgmtHaltApply => Sys2Proof.Machine.execMgmtHaltApply s
  | .commitAcknowledged => Sys2Proof.Machine.execCommitAcknowledged s
  | .ptlRekey => Sys2Proof.Machine.execPtlRekey s
  | .heartbeat => Sys2Proof.Machine.execHeartbeat s
  | .hentisLocked => Sys2Proof.Machine.execHentisLocked s
  | .hentisLost => Sys2Proof.Machine.execHentisLost s
  | .holdoverHistoryAppend => Sys2Proof.Machine.execHoldoverHistoryAppend s
  | .alignJump => Sys2Proof.Machine.execAlignJump s
  | .alignDone => Sys2Proof.Machine.execAlignDone s
  | .audStartAsserted => Sys2Proof.Machine.execAudStartAsserted s
  | .audioStarted => Sys2Proof.Machine.execAudioStarted s
  | .dramIdleSleep => Sys2Proof.Machine.execDramIdleSleep s
  | .faultWeightDecay => Sys2Proof.Machine.execFaultWeightDecay s
  | .patrolPassDone => Sys2Proof.Machine.execPatrolPassDone s
  | .checkpoint => Sys2Proof.Machine.execCheckpoint s
  | .histogramFlush => Sys2Proof.Machine.execHistogramFlush s
  | .keyCommitted => Sys2Proof.Machine.execKeyCommitted s
  | .lifecycleChanged => Sys2Proof.Machine.execLifecycleChanged s
  | .tamperNAsserted => Sys2Proof.Machine.execTamperNAsserted s
  | .supplyGlitch => Sys2Proof.Machine.execSupplyGlitch s
  | .tamperTemperature => Sys2Proof.Machine.execTamperTemperature s
  | .keyOverwriteDone => Sys2Proof.Machine.execKeyOverwriteDone s
  | .tamperCapLow => Sys2Proof.Machine.execTamperCapLow s
  | .porstNAsserted => Sys2Proof.Machine.execPorstNAsserted s
  | .loadDone => Sys2Proof.Machine.execLoadDone s
  | .autoRun => Sys2Proof.Machine.execAutoRun s
  | .autoRunTimeout => Sys2Proof.Machine.execAutoRunTimeout s
  | .safeEntered => Sys2Proof.Machine.execSafeEntered s
  | .thermtrip => Sys2Proof.Machine.execThermtrip s
  | .holdoverSlewDone => Sys2Proof.Machine.execHoldoverSlewDone s

end Sys2Proof.Machine
end

