-- ==== Sys2Proof/Machine/Jtag.lean ====
section
/-! DEFINITION. The JTAG test access port (R494, R509): the TAP controller of IEEE 1149.1, the instructions that each
device state offers, and IDCODE.  No row of the table clocks TCK or drives TRST_N, so no command reaches these operations:
TRST_N stays pulled down (log 56). -/
namespace Sys2Proof.Machine
open Sys2Proof

/-- The state that a rising edge of TCK takes the controller to, by TMS (PRESUMED IEEE 1149.1, log 56). -/
def TapState.next : TapState → Bool → TapState
  | .testLogicReset, tms => if tms then .testLogicReset else .runTestIdle
  | .runTestIdle, tms => if tms then .selectDr else .runTestIdle
  | .selectDr, tms => if tms then .selectIr else .captureDr
  | .captureDr, tms => if tms then .exit1Dr else .shiftDr
  | .shiftDr, tms => if tms then .exit1Dr else .shiftDr
  | .exit1Dr, tms => if tms then .updateDr else .pauseDr
  | .pauseDr, tms => if tms then .exit2Dr else .pauseDr
  | .exit2Dr, tms => if tms then .updateDr else .shiftDr
  | .updateDr, tms => if tms then .selectDr else .runTestIdle
  | .selectIr, tms => if tms then .testLogicReset else .captureIr
  | .captureIr, tms => if tms then .exit1Ir else .shiftIr
  | .shiftIr, tms => if tms then .exit1Ir else .shiftIr
  | .exit1Ir, tms => if tms then .updateIr else .pauseIr
  | .pauseIr, tms => if tms then .exit2Ir else .pauseIr
  | .exit2Ir, tms => if tms then .updateIr else .shiftIr
  | .updateIr, tms => if tms then .selectDr else .runTestIdle

/-- IDCODE: the silicon revision in bits 31:28, 0x6480 in bits 27:12, the manufacturer identity in bits 11:1, and bit 0
set (R509). -/
def idcode : BitVec 32 :=
  BitVec.ofNat 4 Config.siliconRevision ++ BitVec.ofNat 16 0x6480 ++ BitVec.ofNat 11 Config.jedecIdentity ++ 1#1

/-- The bits of `n`, lowest first, `w` of them. -/
def bitsLow (w n : Nat) : List Bool := (List.range w).map (bit n)

/-- Whether a device state offers an instruction: BYPASS and IDCODE in every one, boundary scan while PORST_N is low, and
all of them in TEST (R494; DEDUCED, log 56). -/
def State.jtagOffers (s : State) : JtagInstr → Bool
  | .bypass | .idcode => true
  | .boundary => s.devState == 2 || !s.dev.porstN
  | .test => s.devState == 2

/-- Bits of an instruction. -/
def jtagWidth : Nat := Config.jtagLength + 2

/-- The instruction that a code selects: one that is not offered, or not known, selects BYPASS as the code of ones does
(R494, R509; IEEE 1149.1, log 56). -/
def State.jtagDecode (s : State) (code : Nat) : JtagInstr :=
  let is (k : Nat) : Bool := code == Config.jtagCode k % 2 ^ jtagWidth
  let i : JtagInstr := if is 1 then .idcode else if is 2 then .boundary else if is 3 then .test else .bypass
  if code = 2 ^ jtagWidth - 1 then .bypass else if s.jtagOffers i then i else .bypass

/-- What the data register of an instruction captures, the bit nearest to TDO first (R509). -/
def jtagCapture : JtagInstr → List Bool
  | .bypass => [false]
  | .idcode => bitsLow 32 idcode.toNat
  | .boundary => (List.range Config.boundaryCells).map Config.boundaryLevel
  | .test => (List.range Config.testBits).map Config.testData

/-- A shift register with TDI entering at its far end. -/
def shiftIn (l : List Bool) (tdi : Bool) : List Bool := (l ++ [tdi]).drop 1

/-- TDO while a register shifts: its nearest bit; none in the other states, where TDO is not driven. -/
def Tap.tdo (t : Tap) : Option Bool :=
  match t.state with
  | .shiftDr => t.dr.head?
  | .shiftIr => t.ir.head?
  | _ => none

/-- A rising edge of TCK with its TMS and TDI; with TRST_N low the TAP stays in reset (R509). -/
def State.tapClock (s : State) (tms tdi : Bool) : State :=
  let t : Tap := s.tap
  if t.trstN then
    let u : Tap := match t.state with
      | .captureDr => { t with dr := jtagCapture t.instr }
      | .shiftDr => { t with dr := shiftIn t.dr tdi }
      | .updateDr => if t.instr = .boundary then { t with cells := t.dr } else t
      | .captureIr => { t with ir := bitsLow jtagWidth 1 }
      | .shiftIr => { t with ir := shiftIn t.ir tdi }
      | .updateIr =>
        { t with instr := s.jtagDecode ((t.ir.zipIdx.map (fun b => b.1.toNat * 2 ^ b.2)).foldl (· + ·) 0) }
      | _ => t
    let next := t.state.next tms
    { s with tap := { u with state := next, instr := if next = .testLogicReset then .idcode else u.instr } }
  else { s with tap := { Tap.init with trstN := false } }

/-- TRST_N driven to a level; low, it puts the TAP in reset (R509). -/
def State.driveTrst (s : State) (level : Bool) : State :=
  { s with tap := if level then { s.tap with trstN := true } else Tap.init }

end Sys2Proof.Machine
end

