-- ==== Sys2Proof/WellFormed.lean ====
section
/-! DEFINITION. Which commands can arrive at all: every operand within the width that its wire, register or sensor
has.  A value within its width but outside its range is no ill-formed command: the access checks refuse it. -/
namespace Sys2Proof

/-- A number of `n` bytes. -/
def fits (n v : Nat) : Bool := decide (v < 256 ^ n)

/-- An index and a sub-index (R396). -/
def entryFits (index sub : Nat) : Bool := fits 2 index && fits 1 sub

/-- A datagram's fields have their widths and its tag is 16 bytes (Table 14.6). -/
def datagramFits (d : UdpDatagram) : Bool :=
  fits 4 d.source && fits 4 d.dest && fits 2 d.port && fits 1 d.version && fits 2 d.session && fits 4 d.seq && entryFits d.index d.sub && fits 1 d.flags
    && fits 2 d.length && fits 2 d.reserved && decide (d.tag.length = 16)

/-- An SPI request frame's fields have their widths (R417). -/
def spiFits (f : SpiFrame) : Bool :=
  entryFits f.index f.sub && fits 2 f.length && fits 4 f.offset && fits 2 f.crc

/-- The mailbox registers have their widths, and MB_DATA its size (Table 14.8). -/
def mailboxFits (r : MbRequest) : Bool :=
  fits 4 r.address && fits 4 r.length && fits 4 r.offset && fits 8 r.value && decide (r.data.length ≤ 7340032)

/-- What a governor tick measures: six islands, six regulators, and no more traffic of guarded regions than traffic in
all (R33, R85, R364). -/
def telemetryFits (t : Telemetry) : Bool :=
  decide (t.islands.length = 6 ∧ t.acks.length = 6 ∧ t.guarded ≤ t.traffic ∧ -32768 ≤ t.dieTemp ∧ t.dieTemp < 32768)

/-- A picture has its pixels, each of three or four components of 16 bits. -/
def pictureFits (p : Picture) : Bool :=
  decide (p.pixels.length = p.width * p.height)
    && p.pixels.all (fun x => decide (x.length = 3 ∨ x.length = 4) && x.all (fits 2))

/-- A strip of a composition or of an estimation (R50, R109). -/
def stripFits (i : StripId) : Bool := decide (i.kind ≤ 1 ∧ i.owner < 64 ∧ i.slot < 256)

/-- A BAR2 access moves its length, within the 32 GiB window (Table 3.4). -/
def accessFits (offset length moved : Nat) : Bool := decide (length = moved ∧ offset + length ≤ 2 ^ 35)

/-- What link training ends with: five coefficients of at most full swing, and a TxFFE level of 0 to 3 (R64, R74). -/
def linkFits (f : LinkFound) : Bool :=
  fits 4 f.rate && decide (f.ffe ≤ 3) && decide (f.tx.length = 5) && f.tx.all (fun c => decide (c.natAbs ≤ 64))

/-- An input's frame: its picture, 16 bytes of measured format and a 32-bit time-stamp. -/
def frameFits (f : InputFrame) : Bool := pictureFits f.picture && decide (f.measured.length = 16) && fits 4 f.rtp

/-- An RTP packet on one of the 48 ports (R96). -/
def packetFits (k : RtpPacket) : Bool :=
  decide (k.port < 48 ∧ k.payloadType < 128) && fits 4 k.dest && fits 4 k.source && fits 2 k.udp && fits 2 k.seq

/-- An Announce message's fields have their widths. -/
def announceFits (a : Announce) : Bool :=
  fits 1 a.domain && fits 1 a.priority1 && fits 1 a.clockClass && fits 1 a.accuracy && fits 2 a.variance
    && fits 1 a.priority2 && fits 8 a.identity && fits 2 a.steps

/-- A measured offset of Q32.16 ppb. -/
def measureFits (m : RefMeasure) : Bool := decide (-2 ^ 47 ≤ m.offset ∧ m.offset < 2 ^ 47)

/-- An audio sample of 32 bits (R323). -/
def sampleFits (x : Int) : Bool := decide (-2 ^ 31 ≤ x ∧ x < 2 ^ 31)

/-- A word of the store tier: its offset in its partition, in KiB (Table 12.1). -/
def storeWordFits (w : StoreWord) : Bool := fits 3 w.offset

/-- A codeword of DRAM: its row (Table 13.1). -/
def dramWordFits (w : DramWord) : Bool := decide (w.row < 524288)

/-- A copy of the directory holds 4,096 entries of 256 bytes at most (R366, R367). -/
def copyFits (c : DirectoryCopy) : Bool := c.entries.all (fun e => decide (e.1 < 4096 ∧ e.2.length = 256))

/-- What start-up finds names copies, ring slots and key slots that exist. -/
def foundFits (f : LoadFound) : Bool :=
  f.badConfig.all (fun n => decide (n < 2)) && f.badLife.all (fun n => decide (n < 2))
    && f.torn.all (fun n => decide (n < 32768)) && f.badSlots.all (fun n => decide (n < 72))

/-- Whether a command is one that can arrive. -/
def Instr.wellFormed : Instr → Bool
  | .dictWrite _ index sub _ => entryFits index sub
  | .eventQueueRead _ => true
  | .evtNAck _ value => fits 1 value
  | .lastRefusalClear _ value => fits 1 value
  | .timebaseTimeRead _ => true
  | .fifoLowWaterRead _ _ => true
  | .lifecycleChallenge _ => true
  | .udpRead d => datagramFits d
  | .udpWrite d => datagramFits d
  | .udpReadBlock d => datagramFits d
  | .udpWriteBlock d => datagramFits d
  | .udpCommit d => datagramFits d
  | .udpSubscribe d => datagramFits d
  | .udpAuthPhase1 d => datagramFits d
  | .udpAuthPhase2 d => datagramFits d
  | .udpAuthPhase3 d => datagramFits d
  | .udpTransferIdle _ => true
  | .udpSessionIdle _ => true
  | .spiRead f => spiFits f
  | .spiWrite f => spiFits f
  | .spiReadBlock f => spiFits f
  | .spiWriteBlock f => spiFits f
  | .mbRead r => mailboxFits r
  | .mbWrite r => mailboxFits r
  | .mbReadBlock r => mailboxFits r
  | .mbWriteBlock r => mailboxFits r
  | .doorbellWrite offset value => fits 2 offset && fits 4 value
  | .nmtStartRemoteNode _ => true
  | .nmtEnterPreOperational _ => true
  | .nmtStopRemoteNode _ => true
  | .nmtResetCommunication _ => true
  | .nmtResetNode _ => true
  | .usdoTransfer _ _ index sub _ => entryFits index sub
  | .rpdoReceived _ _ payload => decide (payload.length ≤ 64)
  | .syncReceived _ => true
  | .tpdoChangeCheck _ => true
  | .canHeartbeat _ => true
  | .hostRingDescriptorRead status consumer => fits 1 status && fits 4 consumer
  | .clientNonce _ _ => true
  | .proof _ _ => true
  | .authLockoutExpiry _ source => fits 4 source
  | .drop _ value => fits 1 value
  | .store _ sub value => decide (1 ≤ sub ∧ sub ≤ 3) && fits 4 value
  | .storeDone _ => true
  | .restore _ sub value => decide (1 ≤ sub ∧ sub ≤ 3) && fits 4 value
  | .composeLatch _ t _ => telemetryFits t
  | .governorTimerTick t => telemetryFits t
  | .enginePaceFault _ => true
  | .avsCommand _ _ pace mv => fits 4 pace && fits 2 mv
  | .pwrBudgetMeasure _ _ => true
  | .stripDispatch _ => true
  | .chaseSegmentReady _ _ p => pictureFits p
  | .stripReissue strip => stripFits strip
  | .stripComplete _ strip => stripFits strip
  | .composeDeadline _ => true
  | .engineEccError _ strip _ _ => stripFits strip
  | .engineParity _ strip _ => stripFits strip
  | .engineTimeout _ strip => stripFits strip
  | .engineReset _ => true
  | .portAdminUp _ _ => true
  | .portAdminDown _ _ => true
  | .spareOfWrite _ _ value => fits 1 value
  | .generationWrite _ _ value => fits 1 value
  | .laneLost _ _ => true
  | .laneUp _ f => linkFits f
  | .laneTrainFail _ _ => true
  | .laneDegraded _ => true
  | .laneRecovered _ => true
  | .fecUncorrectable _ count => fits 4 count
  | .laneMarginUpdate _ _ _ r => fits 8 r.errors && fits 8 r.codewords
  | .ptlSpareReady _ => true
  | .ethernetFrameRx _ length _ _ => fits 2 length
  | .groupAdminUp _ _ => true
  | .groupAdminDown _ _ => true
  | .hpdChange _ p => fits 4 p.us
  | .irqHpd _ _ => true
  | .edidWrite _ _ _ => true
  | .edidHpdRelease _ => true
  | .sinkEdidChanged _ _ => true
  | .hdcpAuthenticated _ _ _ => true
  | .hdcpFailed _ _ => true
  | .dlinkTrainFail _ _ => true
  | .cecTx _ _ _ => true
  | .cecRx _ _ => true
  | .pcieLinkUp _ _ => true
  | .pcieLinkDown _ => true
  | .pcieAer _ _ => true
  | .bar2Access write offset length data => accessFits offset length (if write then data.length else length)
  | .targetSpeedWrite _ value => fits 1 value
  | .rpDeviceFound _ => true
  | .mgmtLink _ => true
  | .canBusOff _ tec => fits 2 tec
  | .canErrorPassive _ e => fits 2 e.transmit && fits 2 e.receive
  | .inputEnable _ _ => true
  | .inputDisable _ _ => true
  | .inputFrameEnd _ f => frameFits f
  | .inputMissingFrame _ => true
  | .inputSignalLoss _ _ => true
  | .inputGapTimeout _ _ _ => true
  | .inputSignalDetected _ measured => decide (measured.length = 16)
  | .inputPacketRx _ k => packetFits k
  | .hostSourceEnable _ _ => true
  | .hostSourceDisable _ _ => true
  | .flip _ _ value => fits 1 value
  | .hostFetchComplete _ _ => true
  | .hostFetchFault _ status => fits 1 status
  | .hostReleased _ => true
  | .pocketPlayerEnable _ _ => true
  | .pocketPlayerDisable _ _ => true
  | .pocketStop _ _ => true
  | .pocketCue _ _ => true
  | .pocketPlay _ _ => true
  | .pocketLoop _ _ => true
  | .pocketPause _ _ => true
  | .pocketPrefetchComplete _ frame p _ _ => pictureFits p && fits 4 frame
  | .headCommit _ _ => true
  | .canvasCommit _ _ => true
  | .commitDiscard _ _ => true
  | .stitchGroupCommit _ => true
  | .routeTableWrite _ _ => true
  | .switch _ value => fits 1 value
  | .routeSwitched _ => true
  | .roughSwitch _ => true
  | .followSwitch _ _ => true
  | .flowPacketForward _ dest source udp seq _ _ _ _ => fits 4 dest && fits 4 source && fits 2 udp && fits 2 seq
  | .routeFlowLost _ => true
  | .reserveWrite _ _ value => fits 2 value
  | .bankDataWrite _ _ => true
  | .lutDataWrite _ _ => true
  | .lut3dDataWrite _ _ => true
  | .motionEstimationStart _ => true
  | .motionEstimationDone _ _ => true
  | .clearCounters _ value => fits 1 value
  | .canvasEnable _ _ => true
  | .canvasDisable _ _ => true
  | .writebackFrameDone _ _ => true
  | .overcoatArmNChange _ => true
  | .overcoatArmWrite _ value => fits 1 value
  | .latchClear _ value => fits 1 value
  | .imageDescWrite _ _ => true
  | .imageDataWrite _ _ => true
  | .liningValid _ => true
  | .rebuild _ value => fits 1 value
  | .headEnable _ _ => true
  | .headDisable _ _ => true
  | .headFrameStart _ _ => true
  | .flipLatch _ => true
  | .startOfBlank _ => true
  | .lineMatch _ => true
  | .headUnderrun _ _ _ => true
  | .checkWindowEnd _ _ _ => true
  | .safeClear _ _ value => fits 1 value
  | .echoFault _ _ => true
  | .retime _ _ value => fits 1 value
  | .retimeNewTiming _ => true
  | .legacyStatusClear _ _ value => fits 4 value
  | .tileMapWrite _ _ => true
  | .calibrationWrite _ _ => true
  | .calibPeriodic _ => true
  | .pixelsSend _ _ => true
  | .keySlotWrite _ value => fits 1 value
  | .rekey _ value => fits 1 value
  | .statusReceived _ data => decide (data.length ≤ 9216)
  | .tileMissing _ => true
  | .controlTx _ _ => true
  | .refEnable _ _ => true
  | .refDisable _ _ => true
  | .refActivityFail _ _ _ => true
  | .refGlitch _ _ => true
  | .measurementIntervalEnd _ m => measureFits m
  | .refQualified _ => true
  | .refSwitchDone _ => true
  | .loopModeChange _ value => fits 1 value
  | .steerFreq _ value => fits 8 value
  | .steerPhase _ value => fits 4 value
  | .forceWrite _ _ value => fits 1 value
  | .align _ => true
  | .alignEndSlew _ => true
  | .set _ value => fits 1 value
  | .ftgEnable _ _ => true
  | .ftgDisable _ _ => true
  | .ftgBaseFrameStart _ => true
  | .ptpSyncRx _ domain _ _ _ => fits 1 domain
  | .ptpAnnounceRx _ a => announceFits a
  | .sampleFrame saps _ => saps.all (fun e => decide (e.1 < 8) && e.2.all sampleFits)
  | .sapEnable _ _ => true
  | .sapDisable _ _ => true
  | .audioTriggerStart _ => true
  | .audioTriggerStop _ => true
  | .sapClockLost _ => true
  | .sapClockRestored _ _ => true
  | .audioRateWindow _ _ _ _ => true
  | .streamPacketRx _ _ seq frames => fits 2 seq && frames.all (fun l => l.all sampleFits)
  | .streamLost _ _ => true
  | .channelTableWrite _ _ => true
  | .streamTableWrite _ _ => true
  | .headMapWrite _ _ => true
  | .matrixRateWrite _ _ value => fits 4 value
  | .scanMibWrite _ _ value => fits 2 value
  | .storeEccError w _ => storeWordFits w
  | .dramEccError w _ => dramWordFits w
  | .dramRowRemapped _ row => decide (row < 524288)
  | .dramSleepCycle _ => true
  | .dramRecentre failed => failed.all (fun m => decide (m < 24))
  | .dramTrained _ _ _ => true
  | .pocketEnable _ value => fits 1 value
  | .pocketDriveUp _ d => d.copies.all copyFits
  | .pocketDriveDown _ _ _ => true
  | .captureStart _ _ => true
  | .captureStop _ _ => true
  | .captureFrameWritten _ _ => true
  | .captureCheckpoint _ => true
  | .pocketFlush _ => true
  | .clipDelete _ value => fits 2 value
  | .pocketFormat _ value => fits 1 value
  | .unitPermanentFault _ units => units.all (fits 3)
  | .storeRowSpared _ unit => fits 3 unit
  | .meshLinkCrcError _ => true
  | .holdRetireWrite _ value => fits 2 value
  | .spareCheck _ unit _ => fits 3 unit
  | .patchMapClear _ value => fits 2 value
  | .clearWeights _ value => fits 2 value
  | .exportNonce _ _ => true
  | .histogramSample v => decide (v.volts.length = 6)
  | .writeFloorEntered _ => true
  | .writeFloorLeft _ => true
  | .shutdown _ value => fits 1 value
  | .keyWrite _ _ _ => true
  | .keyErase _ _ value => fits 1 value
  | .hdcpKeysWrite _ _ => true
  | .lifecycleTarget _ value => fits 1 value
  | .lifecycleConfirm _ value => fits 4 value
  | .porstNReleased _ found => foundFits found
  | .bistDone _ _ => true
  | .requestRun _ => true
  | .requestStandby _ => true
  | .requestSafe _ => true
  | .reset _ value => fits 1 value
  | .fullBist _ value => fits 1 value
  | .fullBistDone failures => failures.all (fun e => fits 1 e.1 && fits 3 e.2)
  | .echoReceiverRelock _ _ => true
  | .storeBankParityError _ => true
  | .dramChannelParityError _ => true
  | .mramWriteVerifyFailure _ _ => true
  | .slaveSapFrame _ samples => samples.all sampleFits
  | .spiFetch => true
  | .capPinFault => true
  | .mgmtHaltApply => true
  | .commitAcknowledged => true
  | .ptlRekey => true
  | .heartbeat => true
  | .hentisLocked => true
  | .hentisLost => true
  | .holdoverHistoryAppend => true
  | .alignJump => true
  | .alignDone => true
  | .audStartAsserted => true
  | .audioStarted => true
  | .dramIdleSleep => true
  | .faultWeightDecay => true
  | .patrolPassDone => true
  | .checkpoint => true
  | .histogramFlush => true
  | .keyCommitted => true
  | .lifecycleChanged => true
  | .tamperNAsserted => true
  | .supplyGlitch => true
  | .tamperTemperature => true
  | .keyOverwriteDone => true
  | .tamperCapLow => true
  | .porstNAsserted => true
  | .loadDone => true
  | .autoRun => true
  | .autoRunTimeout => true
  | .safeEntered => true
  | .thermtrip => true
  | .holdoverSlewDone => true

end Sys2Proof
end

