-- ==== Sys2Proof/Safety.lean ====
section
/-! DEFINITION. What counts as a safe run, and the words that statements about accesses use: no step stops, the memory
that software addresses keeps its canonical form, an access passes its checks, an access is answered, a request of a transport
is served, and which write of the dictionary a command is. -/
namespace Sys2Proof
open Sys2Proof.Machine

/-- The host surface region is in canonical form, so that equal contents are equal data. -/
def Safety.memoryCanonical (s : State) : Prop := Memory.wf s.dram.host = true

/-- A step of the machine from `s` answers a next state. -/
def Safety.steps (s : State) : Prop := ∃ t, step s = .next t

/-- Every command that waits is one that can arrive. -/
def Safety.wellFormedQueue (s : State) : Prop := ∀ c ∈ s.pending, Instr.wellFormed c = true

/-- A run of `n` steps from `s` never stops. -/
def Safety.runs (n : Nat) (s : State) : Prop := ∃ t, core.run n s = .next t

/-- Session `k` may use the dictionary: it is available and the session is open (R401, R484). -/
abbrev Safety.ready (s : State) (k : Nat) : Prop := s.dictUp = true ∧ (s.sessAt k).isOpen = true

/-- A write of item `j` of entry `e` in instance `n` by session `k` passes checks 2 to 7 of Table 14.2 (R400), so that
the rules of its chapter decide. -/
abbrev Safety.passes (s : State) (k : Nat) (e : EntryDef) (n j : Nat) (data : List Byte) : Prop :=
  Safety.ready s k ∧ s.writeChecks false k e (e.base + n) (e.lo + j) data = none

/-- The last command has answered a write of session `k` as done, with no abort code. -/
def Safety.done (t : State) (k : Nat) : Prop := WireItem.response ⟨k, 0, 0, [], false⟩ ∈ t.wire

/-- The last command has refused an access of session `k` with this abort code and detail. -/
def Safety.refusedWith (t : State) (k abort detail : Nat) : Prop :=
  WireItem.response ⟨k, abort, detail, [], false⟩ ∈ t.wire

/-- `t` with a write of an entry of `index` by session `k` answered as done: what R400 lets an accepted write put on its
transport, and nothing else. -/
abbrev Safety.accepted (t : State) (k index : Nat) : State := t.answer index ⟨k, 0, 0, [], false⟩

/-- `t` with a read of an entry of `index` by session `k` answered with all its bytes. -/
abbrev Safety.returned (t : State) (k index : Nat) (data : List Byte) : State := t.answer index ⟨k, 0, 0, data, false⟩

/-- Session `k` may read entry `e` in instance `n`, item `j`: checks 1 to 3 of Table 14.2 (R400). -/
abbrev Safety.mayRead (s : State) (k : Nat) (e : EntryDef) (n j : Nat) : Prop :=
  Safety.ready s k ∧ s.readCheck k (e.base + n) (e.lo + j) = .ok e

/-- Between `s` and `t` the event queue has taken an event of definition `d` with parameters A and B (R421). -/
def Safety.raised (s t : State) (d : EventDef) (a b : Nat) : Prop :=
  ∃ new : List Ev, t.ev.queue = (new ++ s.ev.queue).take 32768 ∧
    ∃ e ∈ new, e.code = d.code ∧ e.severity = d.severity ∧ e.paramA = a % 2 ^ 32 ∧ e.paramB = b % 2 ^ 32

/-- A scalar write of value `v` passes its checks. -/
abbrev Safety.passesScalar (s : State) (k : Nat) (e : EntryDef) (n j v : Nat) : Prop :=
  Safety.passes s k e n j (leBytes e.type.size v)

/-- The entry at `index` and `sub` is a scalar that no rule treats apart, so that its apply class says what a write of it
by session `k` does. -/
abbrev Safety.plainScalar (k : Nat) (e : EntryDef) (index sub : Nat) : Prop :=
  lookup index sub = .ok e ∧ e.type.isBlock = false ∧ (valueOf e (writesLow k)).isNone = true ∧
    (valueOf e (writesHigh plainly k)).isNone = true

/-- A UDP request of operation `op` arrives on the open session `k`: its tag and header hold, it is new, and the session
has rights (R413, R416). -/
abbrev Safety.udpServed (s : State) (op k : Nat) (d : UdpDatagram) : Prop :=
  (s.udpUp && s.udpHere d) = true ∧ 1 ≤ d.session ∧ d.session ≤ 8 ∧ k = d.session + 3 ∧ (s.sessAt k).isOpen = true ∧
    d.tag = hmac16 (s.sessAt k).ks (udpCovered op d) ∧ (s.sessAt k).lastSeq < d.seq ∧ udpHeaderFits d = true ∧
    ((s.sessAt k).rights ≠ .none ∨ op = 7)

/-- The session `k` has taken the request: its sequence is the last one served, and it waits for its answer (R416). -/
abbrev Safety.udpTaken (s : State) (op k : Nat) (d : UdpDatagram) (lead : List Byte) : State :=
  let u := s.sessAt k
  (s.actBy k).putSess k { u with lastAt := s.now, lastSeq := d.seq, cached := [], asked := ⟨op, d.seq, d.index, d.sub, lead⟩ :: u.asked }

/-- A tagged response datagram without ERROR to this request of session `k` is on the pins (R413). -/
abbrev Safety.udpReplied (t : State) (op k : Nat) (d : UdpDatagram) (ks : List Byte) (more : Bool) (payload : List Byte) : Prop :=
  WireItem.packet packetUdp k (udpDatagram (k - 3) ⟨op, d.seq, d.index, d.sub, []⟩ ks true false more payload) ∈ t.wire

/-- An SPI request frame of operation `op` arrives with a good CRC while no request is busy (R417). -/
abbrev Safety.spiServed (s : State) (op : Nat) (f : SpiFrame) : Prop :=
  s.spiUp = true ∧ f.crc = crc16 (spiBytes op f) ∧ s.spi.status ≠ 1 ∧ f.length ≤ 1024

/-- The request is outstanding: FETCH reports it busy (R417). -/
abbrev Safety.spiTaken (s : State) (f : SpiFrame) : State := { (s.actBy 2).misoIdles f with spi := ⟨1, f.index, 0, 0, []⟩ }

/-- MB_GO is written while the mailbox is not busy, with an index of 16 bits (R418). -/
abbrev Safety.mailboxServed (s : State) (r : MbRequest) : Prop :=
  s.pcieServes = true ∧ s.mailbox.status ≠ 1 ∧ r.address / 256 < 65536

/-- The mailbox has taken the request: MB_STATUS reads 1 and the receipt is noted (R418). -/
abbrev Safety.mailboxTaken (s : State) (op : Nat) (r : MbRequest) : State :=
  { s.actBy 3 with mailbox := ⟨op + 256 * r.more.toNat, r.address, r.length, r.offset, r.value, 1, 0, 0, s.timebase, r.data⟩ }

/-- A write of a scalar entry by its row, in instance `n`, item `j`: the session, the address and the bytes. -/
abbrev Safety.scalar (k : Fin 12) (e : EntryDef) (n j v : Nat) : Option (Fin 12 × Nat × Nat × List Byte) :=
  some (k, e.base + n, e.lo + j, leBytes e.type.size v)

/-- A write of a block entry by its row, in instance `n`, item `j`. -/
abbrev Safety.block (k : Fin 12) (e : EntryDef) (n j : Nat) (data : List Byte) : Option (Fin 12 × Nat × Nat × List Byte) :=
  some (k, e.base + n, e.lo + j, data)

/-- The dictionary write that a command is, where its row is one: the session, the address and the bytes (R396, R400). -/
def Safety.writeOf : Instr → Option (Fin 12 × Nat × Nat × List Byte)
  | .dictWrite k index sub data => some (k, index, sub, data)
  | .evtNAck k value => Safety.scalar k Dict.EVENT_QUEUE_EVT_N_ACK 0 0 value
  | .lastRefusalClear k value => Safety.scalar k Dict.LAST_REFUSAL_CLEAR 0 0 value
  | .clientNonce k nonce => Safety.block k Dict.SESSION_RIGHTS_CLIENT_NONCE 0 0 nonce
  | .proof k proof => Safety.block k Dict.SESSION_RIGHTS_PROOF 0 0 proof
  | .drop k value => Safety.scalar k Dict.SESSION_RIGHTS_DROP 0 0 value
  | .store k sub v => some (k, 0x1010, sub, leBytes 4 v)
  | .restore k sub v => some (k, 0x1011, sub, leBytes 4 v)
  | .portAdminUp k p => Safety.scalar k Dict.PORT_ADMIN p 0 1
  | .portAdminDown k p => Safety.scalar k Dict.PORT_ADMIN p 0 0
  | .spareOfWrite k l value => Safety.scalar k Dict.U_LANE_SPARE_OF l 0 value
  | .generationWrite k p value => Safety.scalar k Dict.PTL_GENERATION 0 p value
  | .groupAdminUp k g => Safety.scalar k Dict.GROUP_PORT_ADMIN g 0 1
  | .groupAdminDown k g => Safety.scalar k Dict.GROUP_PORT_ADMIN g 0 0
  | .edidWrite k g data => Safety.block k Dict.GROUP_PORT_EDID g 0 data
  | .cecTx k g data => Safety.block k Dict.GROUP_PORT_CEC_TX g 0 data
  | .targetSpeedWrite k value => Safety.scalar k Dict.PCIE_TARGET_SPEED 0 0 value
  | .inputEnable k n => Safety.scalar k Dict.INPUT_ENABLE n 0 1
  | .inputDisable k n => Safety.scalar k Dict.INPUT_ENABLE n 0 0
  | .hostSourceEnable k n => Safety.scalar k Dict.HOST_SOURCE_ENABLE n 0 1
  | .hostSourceDisable k n => Safety.scalar k Dict.HOST_SOURCE_ENABLE n 0 0
  | .flip k n value => Safety.scalar k Dict.HOST_SOURCE_FLIP n 0 value
  | .pocketPlayerEnable k n => Safety.scalar k Dict.POCKET_PLAYER_ENABLE n 0 1
  | .pocketPlayerDisable k n => Safety.scalar k Dict.POCKET_PLAYER_ENABLE n 0 0
  | .pocketStop k n => Safety.scalar k Dict.POCKET_PLAYER_TRANSPORT n 0 0
  | .pocketCue k n => Safety.scalar k Dict.POCKET_PLAYER_TRANSPORT n 0 1
  | .pocketPlay k n => Safety.scalar k Dict.POCKET_PLAYER_TRANSPORT n 0 2
  | .pocketLoop k n => Safety.scalar k Dict.POCKET_PLAYER_TRANSPORT n 0 3
  | .pocketPause k n => Safety.scalar k Dict.POCKET_PLAYER_TRANSPORT n 0 4
  | .headCommit k h => Safety.scalar k Dict.HEAD_COMMIT_COMMIT h 0 1
  | .canvasCommit k c => Safety.scalar k Dict.CANVAS_COMMIT_COMMIT c 0 1
  | .commitDiscard k x => if x.val < 32 then Safety.scalar k Dict.HEAD_COMMIT_COMMIT x 0 2 else Safety.scalar k Dict.CANVAS_COMMIT_COMMIT (x - 32) 0 2
  | .stitchGroupCommit k => Safety.scalar k Dict.STITCH_GROUP_COMMIT 0 0 1
  | .routeTableWrite k data => Safety.block k Dict.ROUTE_TABLE_DATA 0 0 data
  | .switch k value => Safety.scalar k Dict.ROUTE_CONTROL_SWITCH 0 0 value
  | .reserveWrite k p value => Safety.scalar k Dict.ROUTE_CONTROL_RESERVE 0 p value
  | .bankDataWrite k data => Safety.block k Dict.COEFF_BANKS_BANK_DATA 0 0 data
  | .lutDataWrite k data => Safety.block k Dict.COLOUR_LUTS_LUT_DATA 0 0 data
  | .lut3dDataWrite k data => Safety.block k Dict.COLOUR_LUTS_LUT3D_DATA 0 0 data
  | .clearCounters k value => Safety.scalar k Dict.ENGINE_POOL_CLEAR_COUNTERS 0 0 value
  | .canvasEnable k c => Safety.scalar k Dict.CANVAS_ENABLE c 0 1
  | .canvasDisable k c => Safety.scalar k Dict.CANVAS_ENABLE c 0 0
  | .overcoatArmWrite k value => Safety.scalar k Dict.OVERCOAT_ARM 0 0 value
  | .latchClear k value => Safety.scalar k Dict.OVERCOAT_LATCH_CLEAR 0 0 value
  | .imageDescWrite k data => Safety.block k Dict.OVERCOAT_IMAGE_DESC 0 0 data
  | .imageDataWrite k data => Safety.block k Dict.OVERCOAT_IMAGE_DATA 0 0 data
  | .rebuild k value => Safety.scalar k Dict.LINING_REBUILD 0 0 value
  | .headEnable k h => Safety.scalar k Dict.HEAD_ENABLE h 0 1
  | .headDisable k h => Safety.scalar k Dict.HEAD_ENABLE h 0 0
  | .safeClear k h value => Safety.scalar k Dict.HEAD_SAFE_CLEAR h 0 value
  | .retime k h value => Safety.scalar k Dict.HEAD_RETIME h 0 value
  | .legacyStatusClear k which value => Safety.scalar k (legacyStatus which) 0 0 value
  | .tileMapWrite k data => Safety.block k Dict.TILE_MAP_DATA 0 0 data
  | .calibrationWrite k data => Safety.block k Dict.CALIBRATION_DATA 0 0 data
  | .keySlotWrite k value => Safety.scalar k Dict.PTL_KEY_SLOT 0 0 value
  | .rekey k value => Safety.scalar k Dict.PTL_REKEY 0 0 value
  | .controlTx k data => Safety.block k Dict.PTL_CONTROL_TX 0 0 data
  | .refEnable k n => Safety.scalar k Dict.REF_ENABLE n 0 1
  | .refDisable k n => Safety.scalar k Dict.REF_ENABLE n 0 0
  | .loopModeChange k value => Safety.scalar k Dict.HENTIS_LOOP_MODE 0 0 value
  | .steerFreq k value => Safety.scalar k Dict.HENTIS_STEER_FREQ 0 0 value
  | .steerPhase k value => Safety.scalar k Dict.HENTIS_STEER_PHASE 0 0 value
  | .forceWrite k revertive v => Safety.scalar k (if revertive then Dict.SELECTOR_REVERTIVE else Dict.SELECTOR_FORCE) 0 0 v
  | .align k => Safety.scalar k Dict.HENTIS_ALIGN 0 0 1
  | .alignEndSlew k => Safety.scalar k Dict.HENTIS_ALIGN 0 0 2
  | .set k value => Safety.scalar k Dict.TIMEBASE_SET 0 0 value
  | .ftgEnable k n => Safety.scalar k Dict.FTG_ENABLE n 0 1
  | .ftgDisable k n => Safety.scalar k Dict.FTG_ENABLE n 0 0
  | .sapEnable k n => Safety.scalar k Dict.SAP_ENABLE n 0 1
  | .sapDisable k n => Safety.scalar k Dict.SAP_ENABLE n 0 0
  | .audioTriggerStart k => Safety.scalar k Dict.AUDIO_START_TRIGGER 0 0 1
  | .audioTriggerStop k => Safety.scalar k Dict.AUDIO_START_TRIGGER 0 0 2
  | .channelTableWrite k data => Safety.block k Dict.AUDIO_MATRIX_CHANNEL_TABLE 0 0 data
  | .streamTableWrite k data => Safety.block k Dict.AUDIO_MATRIX_STREAM_TABLE 0 0 data
  | .headMapWrite k data => Safety.block k Dict.AUDIO_MATRIX_HEAD_MAP 0 0 data
  | .matrixRateWrite k den v =>
    Safety.scalar k (if den then Dict.AUDIO_MATRIX_MATRIX_RATE_DEN else Dict.AUDIO_MATRIX_MATRIX_RATE_NUM) 0 0 v
  | .scanMibWrite k stage v => Safety.scalar k (if stage then Dict.STORE_TIER_STAGE_MIB else Dict.STORE_TIER_SCAN_MIB) 0 0 v
  | .pocketEnable k value => Safety.scalar k Dict.POCKET_ENABLE 0 0 value
  | .captureStart k x => Safety.scalar k Dict.POCKET_CAP_COMMAND 0 x 1
  | .captureStop k x => Safety.scalar k Dict.POCKET_CAP_COMMAND 0 x 2
  | .clipDelete k value => Safety.scalar k Dict.POCKET_CLIP_DELETE 0 0 value
  | .pocketFormat k value => Safety.scalar k Dict.POCKET_FORMAT 0 0 value
  | .holdRetireWrite k value => Safety.scalar k Dict.RESILIENCE_HOLD_RETIRE 0 0 value
  | .patchMapClear k value => Safety.scalar k Dict.PATCH_MAP_CLEAR 0 0 value
  | .clearWeights k value => Safety.scalar k Dict.FAULT_WEIGHTS_CLEAR_WEIGHTS 0 0 value
  | .exportNonce k nonce => Safety.block k Dict.RECORDER_EXPORT_NONCE 0 0 nonce
  | .shutdown k value => Safety.scalar k Dict.SUPPLY_SHUTDOWN 0 0 value
  | .keyWrite k n key => Safety.block k Dict.KEY_SLOT_KEY n 0 key
  | .keyErase k n value => Safety.scalar k Dict.KEY_SLOT_ERASE n 0 value
  | .hdcpKeysWrite k data => Safety.block k Dict.KEY_STORE_HDCP_KEYS 0 0 data
  | .lifecycleTarget k value => Safety.scalar k Dict.LIFECYCLE_TARGET 0 0 value
  | .lifecycleConfirm k value => Safety.scalar k Dict.LIFECYCLE_CONFIRM 0 0 value
  | .requestRun k => Safety.scalar k Dict.DEVICE_STATE_REQUEST 0 0 4
  | .requestStandby k => Safety.scalar k Dict.DEVICE_STATE_REQUEST 0 0 3
  | .requestSafe k => Safety.scalar k Dict.DEVICE_STATE_REQUEST 0 0 5
  | .reset k value => Safety.scalar k Dict.DEVICE_STATE_RESET 0 0 value
  | .fullBist k value => Safety.scalar k Dict.DEVICE_STATE_FULL_BIST 0 0 value
  | _ => none

end Sys2Proof
end

