-- ==== Sys2Proof/Certificates/Slice0/Obligations.lean ====
section
/-! DEFINITION. The statements for the provers. Each says for its commands what next state they answer, under conditions on the
state and the operands alone; a refused access is the next state that `refuseWrite` gives (R400, R427). -/
open Sys2Proof Sys2Proof.Machine

/-- R14, R256, R399, R400, R422, R441: the reads that change the state: TIME_S latches TIME_NS, FIFO_LOW_WATER starts
afresh, CHALLENGE draws a challenge, READ of the event queue moves CURSOR and counts what was lost. Where the rules
leave a point open it takes the model's reading of logs 34 and 52. -/
def Obligations.ReadsThatChangeState : Prop :=
  (∀ (s : State) (k : Fin 12), let b := s.begin
    Safety.mayRead b k Dict.TIMEBASE_TIME_S 0 0 →
    exec (.timebaseTimeRead k) s = .next (Safety.returned (b.wr Dict.TIMEBASE_TIME_NS b.tNs) k 0x2150 (leBytes 8 b.tS))) ∧
  (∀ (s : State) (k : Fin 12) (h : Fin 32), let b := s.begin
    Safety.mayRead b k Dict.HEAD_STATUS_FIFO_LOW_WATER h 0 →
    exec (.fifoLowWaterRead k h) s = .next (Safety.returned
      (b.wr Dict.HEAD_STATUS_FIFO_LOW_WATER (1024 * b.rd Dict.HEAD_STATUS_FIFO_SIZE h) h) k
      (0x2C80 + h) (leBytes 4 (b.rd Dict.HEAD_STATUS_FIFO_LOW_WATER h)))) ∧
  (∀ (s : State) (k : Fin 12), let b := s.begin
    Safety.mayRead b k Dict.LIFECYCLE_CHALLENGE 0 0 →
    ∃ c, exec (.lifecycleChallenge k) s = .next (Safety.returned
      { b with draws := b.draws + 1, keys := { b.keys with challenge := some c, challengeAt := b.now } } k
      0x2001 (leBytes 4 c))) ∧
  (∀ (s : State) (k : Fin 12), let b := s.begin
    Safety.mayRead b k Dict.EVENT_QUEUE_READ 0 0 → b.overrun k = 0 →
    let u := b.sessAt k
    ∃ (l : List Ev) (n : Nat), examine u.minSeverity 64 (b.unread k) = (l, n) ∧
      l.length ≤ 64 ∧ (∀ e ∈ l, u.minSeverity ≤ e.severity) ∧ n ≤ (b.unread k).length ∧
      exec (.eventQueueRead k) s = .next (Safety.returned
        (b.putSess k { u with cursor := (u.cursor + n) % 2 ^ 32, lost := u.lost % 2 ^ 32 }) k 0x2020
        (l.flatMap Ev.bytes))) ∧
  (∀ (s : State) (k : Fin 12), let b := s.begin
    Safety.mayRead b k Dict.EVENT_QUEUE_READ 0 0 → b.overrun k ≠ 0 →
    ∃ t, exec (.eventQueueRead k) s = .next t ∧ (t.sessAt k).lost = ((b.sessAt k).lost + b.overrun k) % 2 ^ 32 ∧
      Safety.raised s t Event.QUEUE_OVERRUN k (b.overrun k) ∧ t.regs = s.regs)

/-- R402, R403: the nonce pair, a right proof, a wrong proof, and the lockout of a session. Where the rules leave a
point open it takes the model's reading of logs 34 and 52. -/
def Obligations.SessionNoncesAndProofs : Prop :=
  (∀ (s : State) (k : Fin 12) (nonce : List Byte), let b := s.begin.actBy k; let u := b.sessAt k
    Safety.passes b k Dict.SESSION_RIGHTS_CLIENT_NONCE 0 0 nonce → b.authSlotFits u.authSlot u.authRights = true →
    ∃ d : List Byte, d.length = 16 ∧ exec (.clientNonce k nonce) s = .next (Safety.accepted
      ({ b with draws := b.draws + 1 }.putSess k { u with clientNonce := nonce, deviceNonce := d, nonceFresh := true })
      k 0x2002)) ∧
  (∀ (s : State) (k : Fin 12) (nonce : List Byte), let b := s.begin.actBy k; let u := b.sessAt k
    Safety.passes b k Dict.SESSION_RIGHTS_CLIENT_NONCE 0 0 nonce → b.authSlotFits u.authSlot u.authRights = false →
    exec (.clientNonce k nonce) s = .next (b.refuseWrite k 0x2002 5 (.rule 0xB1))) ∧
  (∀ (s : State) (k : Fin 12) (p : List Byte), let b := s.begin.actBy k; let u := b.sessAt k
    let ks := b.authKey k u.authSlot u.authRights u.clientNonce u.deviceNonce
    Safety.passes b k Dict.SESSION_RIGHTS_PROOF 0 0 p → b.lockedOut k = false → u.nonceFresh = true →
    b.authSlotFits u.authSlot u.authRights = true → p = hmac16 ks (ascii "CLIENT" ++ u.deviceNonce) →
    ∃ t, exec (.proof k p) s = .next (Safety.accepted t k 0x2002) ∧
      t.sessAt k = { u with rights := Rights.ofRank u.authRights, grantSlot := u.authSlot, failures := 0, nonceFresh := false
                            deviceProof := hmac16 ks (ascii "DEVICE" ++ u.clientNonce) } ∧
      Safety.raised s t Event.AUTH_GRANTED k (u.authRights * 256 + u.authSlot) ∧ t.regs = s.regs) ∧
  (∀ (s : State) (k : Fin 12) (p : List Byte), let b := s.begin.actBy k; let u := b.sessAt k
    let ks := b.authKey k u.authSlot u.authRights u.clientNonce u.deviceNonce
    let until_ := b.now + b.rd Dict.MANAGEMENT_AUTH_LOCKOUT * 1000000000
    Safety.passes b k Dict.SESSION_RIGHTS_PROOF 0 0 p → b.lockedOut k = false →
    p ≠ hmac16 ks (ascii "CLIENT" ++ u.deviceNonce) →
    ∃ t, exec (.proof k p) s = .next (t.refuseWrite k 0x2002 7 (.rule 0xB2)) ∧
      t.sessAt k = { u with failures := (u.failures + 1) % 256, nonceFresh := false
                            lockedUntil := if 3 ≤ u.failures + 1 then until_ else u.lockedUntil } ∧
      Safety.raised s t Event.AUTH_FAILED k u.authSlot ∧
      (3 ≤ u.failures + 1 → Safety.raised s t Event.AUTH_LOCKOUT k (if 4 ≤ k.val then u.sourceAddr else 0)) ∧
      t.regs = s.regs) ∧
  (∀ (s : State) (k : Fin 12) (p : List Byte), let b := s.begin.actBy k
    Safety.passes b k Dict.SESSION_RIGHTS_PROOF 0 0 p → b.lockedOut k = true →
    exec (.proof k p) s = .next (b.refuseWrite k 0x2002 7 (.rule 0xB3))) ∧
  (∀ (s : State) (k : Fin 12) (source : Nat), let b := s.begin; let u := b.sessAt k
    u.lockedUntil ≠ 0 → u.lockedUntil ≤ b.now → (b.udpLockAt source = 0 ∨ b.now < b.udpLockAt source) →
    exec (.authLockoutExpiry k source) s = .next (b.putSess k { u with lockedUntil := 0, failures := 0 }))

/-- R25, R86, R125, R127, R399, R400: a write that passes its checks does what the apply class of its entry says: a
window of the session, a shadow, a management field that takes effect 100 ms later, or the register at once. Where the
rules leave a point open it takes the model's reading of log 38. -/
def Obligations.WriteByApplyClass : Prop :=
  (∀ (s : State) (k : Fin 12) (e : EntryDef) (index sub : Nat) (data : List Byte), let b := s.begin.actBy k
    Safety.plainScalar k e index sub → Safety.ready b k → b.writeChecks false k e index sub data = none →
    index * 256 + sub ∈ windowKeys →
    exec (.dictWrite k index sub data) s = .next (Safety.accepted (b.putSess k { b.sessAt k with
      windows := Store.write dictDefault (b.sessAt k).windows (index * 256 + sub) (leNat data) }) k index)) ∧
  (∀ (s : State) (k : Fin 12) (e : EntryDef) (index sub : Nat) (data : List Byte), let b := s.begin.actBy k
    Safety.plainScalar k e index sub → Safety.ready b k → b.writeChecks false k e index sub data = none →
    index * 256 + sub ∉ windowKeys → e.apply = .stitch →
    exec (.dictWrite k index sub data) s = .next (Safety.accepted
      (if b.validatesOver (index * 256 + sub) [] then
        { b with deferredWrites := b.deferredWrites ++ [⟨index * 256 + sub, leNat data, none⟩] }
      else { b with shadow := Store.write dictDefault b.shadow (index * 256 + sub) (leNat data) }) k index)) ∧
  (∀ (s : State) (k : Fin 12) (e : EntryDef) (index sub : Nat) (data : List Byte), let b := s.begin.actBy k
    Safety.plainScalar k e index sub → Safety.ready b k → b.writeChecks false k e index sub data = none →
    index * 256 + sub ∉ windowKeys → e.apply = .halt → e.base = 0x2270 →
    exec (.dictWrite k index sub data) s = .next (Safety.accepted { b with
      mgmtWait := b.mgmtWait.filter (fun w => w.1 != index * 256 + sub) ++ [(index * 256 + sub, leNat data, b.now + 100000000)] }
      k index)) ∧
  (∀ (s : State) (k : Fin 12) (e : EntryDef) (index sub : Nat) (data : List Byte), let b := s.begin.actBy k
    Safety.plainScalar k e index sub → Safety.ready b k → b.writeChecks false k e index sub data = none →
    index * 256 + sub ∉ windowKeys → e.apply ≠ .stitch → ¬ (e.apply = .halt ∧ e.base = 0x2270) →
    exec (.dictWrite k index sub data) s = .next (Safety.accepted
      { b with regs := Store.write dictDefault b.regs (index * 256 + sub) (leNat data) } k index)) ∧
  (∀ (s : State) (key v : Nat), ((s.setReg key v).regAt key = v ∧
    ∀ other, other ≠ key → (s.setReg key v).regAt other = s.regAt other))

/-- R398, R400, R427: a write that fails a check of Table 14.2 is answered with its abort code, recorded in
LAST_REFUSAL, raised as WRITE_REFUSED, and changes nothing else; one on a session that is not served is not answered
at all. Where the rules leave a point open it takes the model's reading of logs 38 and 72. -/
def Obligations.RefusedWrite : Prop :=
  (∀ (c : Instr) (s : State) (k : Fin 12) (index sub : Nat) (data : List Byte), let b := s.begin.actBy k
    Safety.writeOf c = some (k, index, sub, data) → ¬ Safety.ready b k → exec c s = .next b) ∧
  (∀ (c : Instr) (s : State) (k : Fin 12) (index sub : Nat) (data : List Byte) (r : Refuse),
    let b := s.begin.actBy k; let u := b.sessAt k
    Safety.writeOf c = some (k, index, sub, data) → Safety.ready b k → b.writeCheck false k index sub data = .error r →
    ∃ t, exec c s = .next (t.answer index ⟨k, r.abort, r.detail, [], false⟩) ∧
      t.sessAt k = { u with refIndex := index, refSub := sub, refAbort := r.abort, refDetail := r.detail
                            refFieldIndex := r.fieldIndex, refFieldSub := r.fieldSub, refEntry := r.entry
                            refTimeS := b.tS, refTimeNs := b.tNs, refCount := (u.refCount + 1) % 2 ^ 32 } ∧
      (commitScope index sub = none → ¬ (index = 0x2501 ∧ sub = 6) →
        Safety.raised s t Event.WRITE_REFUSED (index * 256 + sub) r.detail) ∧
      (∀ kind num, commitScope index sub = some (kind, num) →
        Safety.raised s t Event.COMMIT_REFUSED (kind * 256 + num) (r.detail * 65536 + index)) ∧
      (index = 0x2501 → sub = 6 → Safety.raised s t Event.ROUTE_REFUSED (5 * 65536 + b.rd Dict.ROUTE_CONTROL_SWITCH_OUTPUT)
        (r.detail * 65536 + b.rd Dict.ROUTE_CONTROL_SWITCH_ENTRY)) ∧
      (∀ j, j ≠ k.val → t.sessAt j = s.sessAt j) ∧ t = { b with sess := t.sess, ev := t.ev, wire := t.wire }) ∧
  (∀ (s : State) (k : Fin 12) (index sub : Nat) (data : List Byte), let b := s.begin.actBy k
    Safety.ready b k → objectAt index = none → b.writeCheck false k index sub data = .error (.plain 0x06020000 0)) ∧
  (∀ (s : State) (k : Fin 12) (index sub : Nat) (data : List Byte), let b := s.begin.actBy k
    Safety.ready b k → objectAt index ≠ none → entryAt index sub = none →
    b.writeCheck false k index sub data = .error (.plain 0x06090011 0)) ∧
  (∀ (s : State) (k : Fin 12) (e : EntryDef) (index sub : Nat) (data : List Byte), let b := s.begin.actBy k
    Safety.ready b k → lookup index sub = .ok e → e.access = .ro ∨ e.access = .const →
    b.writeCheck false k index sub data = .error (.plain 0x06010002 0)) ∧
  (∀ (s : State) (k : Fin 12) (e : EntryDef) (index sub : Nat) (data : List Byte), let b := s.begin.actBy k
    Safety.ready b k → lookup index sub = .ok e → e.access = .rw ∨ e.access = .wo →
    (b.sessAt k).rights.rank < e.rights.rank →
    b.writeCheck false k index sub data = .error (.plain 0x08000022 0xB0))

/-- R404, R413, R416, R421, R423, R424, R427: DROP, EVT_N_ACK, CLEAR of LAST_REFUSAL, the host ring, and what raising
an event queues and sends to subscribed sessions. Where the rules leave a point open it takes the model's reading of
logs 34 and 72. -/
def Obligations.SessionAndQueueCommands : Prop :=
  (∀ (s : State) (k : Fin 12) (v : Nat), let b := s.begin.actBy k; let u := b.sessAt k
    Safety.passesScalar b k Dict.LAST_REFUSAL_CLEAR 0 0 v →
    exec (.lastRefusalClear k v) s = .next (Safety.accepted (b.putSess k { u with
      refIndex := 0, refSub := 0, refAbort := 0, refDetail := 0, refFieldIndex := 0, refFieldSub := 0
      refEntry := 0xFFFFFFFF, refTimeS := 0, refTimeNs := 0, refCount := 0 }) k 0x2003)) ∧
  (∀ (s : State) (k : Fin 12) (v : Nat), let b := s.begin.actBy k
    Safety.passesScalar b k Dict.EVENT_QUEUE_EVT_N_ACK 0 0 v →
    (∀ e ∈ b.ev.queue, ¬ (e.timeS = b.tS ∧ e.timeNs = b.tNs)) →
    exec (.evtNAck k v) s = .next (Safety.accepted { b with ev := { b.ev with evtN := false } } k 0x2020)) ∧
  (∀ (s : State) (k : Fin 12) (v : Nat) (e : Ev), let b := s.begin.actBy k
    Safety.passesScalar b k Dict.EVENT_QUEUE_EVT_N_ACK 0 0 v →
    e ∈ b.ev.queue → e.timeS = b.tS → e.timeNs = b.tNs → b.rd Dict.EVENT_QUEUE_EVT_N_SEVERITY ≤ e.severity →
    exec (.evtNAck k v) s = .next (Safety.accepted b k 0x2020)) ∧
  (∀ (s : State) (k : Fin 12) (v : Nat), let b := s.begin.actBy k
    Safety.passesScalar b k Dict.SESSION_RIGHTS_DROP 0 0 v → k.val < 4 →
    ∃ t, exec (.drop k v) s = .next t ∧ Safety.done t k ∧ t.sessAt k = { (Safety.accepted b k 0x2002).sessAt k with
        rights := b.baseRights k, grantSlot := 0xFF, transfer := none, reading := none, nonceFresh := false } ∧
      Safety.raised s t Event.RIGHTS_DROPPED k 1 ∧ t.regs = s.regs) ∧
  (∀ (s : State) (k : Fin 12) (v : Nat), let b := s.begin.actBy k
    Safety.passesScalar b k Dict.SESSION_RIGHTS_DROP 0 0 v → 4 ≤ k.val →
    ∃ t, exec (.drop k v) s = .next t ∧ Safety.done t k ∧ t.sessAt k = Sess.init ∧
      Safety.raised s t Event.SESSION_CLOSED k 1 ∧ t.regs = s.regs) ∧
  (∀ (s : State) (consumer : Nat), let b := s.begin
    b.dictUp = true → b.flag Dict.EVENT_QUEUE_HOST_RING_ENABLE = true → b.ev.hostWaiting ≠ [] →
    let room := b.rd Dict.EVENT_QUEUE_HOST_RING_ENTRIES - (b.ev.hostProducer + 2 ^ 32 - consumer % 2 ^ 32) % 2 ^ 32
    exec (.hostRingDescriptorRead 0 consumer) s = .next { b with
      wire := b.wire ++ b.burst b.ev.hostProducer (b.ev.hostWaiting.take room)
      ev := { b.ev with
        hostConsumer := consumer % 2 ^ 32
        hostRing := (b.ev.hostWaiting.take room).reverse ++ b.ev.hostRing
        hostProducer := (b.ev.hostProducer + (b.ev.hostWaiting.take room).length) % 2 ^ 32
        hostDropped := (b.ev.hostDropped + (b.ev.hostWaiting.length - (b.ev.hostWaiting.take room).length)) % 2 ^ 32
        hostWaiting := [] } }) ∧
  (∀ (s : State) (first : Nat) (l : List Ev), l ≠ [] → s.burst first l =
    l.zipIdx.map (fun e => .host (s.rd Dict.EVENT_QUEUE_HOST_RING_ADDR
      + 32 * ((first + e.2) % 2 ^ 32 % s.rd Dict.EVENT_QUEUE_HOST_RING_ENTRIES)) e.1.bytes)
    ++ [.host (s.rd Dict.EVENT_QUEUE_HOST_RING_CONTROL + 4) (leBytes 4 (first + l.length))]) ∧
  (∀ (s : State) (status consumer : Nat), let b := s.begin
    b.dictUp = true → b.flag Dict.EVENT_QUEUE_HOST_RING_ENABLE = true → b.ev.hostWaiting ≠ [] → status ≠ 0 →
    exec (.hostRingDescriptorRead status consumer) s = .next
      ({ b.wr Dict.EVENT_QUEUE_HOST_RING_ENABLE 0 with ev := { b.ev with hostWaiting := [] } }.raise Event.HOST_RING_FAULT status 0)) ∧
  (∀ (s : State) (source : Nat) (d : EventDef) (x y : Nat), let t := s.raiseBy source d x y
    ∃ e : Ev, t.ev.queue.head? = some e ∧ e.seq = s.ev.nextSeq ∧ e.code = d.code ∧ e.source = source ∧
      e.severity = d.severity ∧ e.timeS = s.tS ∧ e.timeNs = s.tNs ∧ e.paramA = x % 2 ^ 32 ∧ e.paramB = y % 2 ^ 32 ∧
      ∀ k, 4 ≤ k → k ≤ 11 → s.subscribed e k = true →
        .packet packetUdp k (udpEvent (k - 3) (Store.read (fun _ => 0) s.ev.udpSeq k + 1) (s.sessAt k).ks e) ∈ t.wire)

/-- R405, R407, R408: a save is staged and later completed, and a restore is armed. Where the rules leave a point open
it takes the model's reading of log 32. -/
def Obligations.SaveAndRestore : Prop :=
  (∀ (s : State) (k : Fin 12) (j : Fin 3), let b := s.begin.actBy k
    Safety.passesScalar b k Dict.STORE_PARAMETERS_SIGNATURE 0 j 0x65766173 → b.floor = false → b.staging = none →
    exec (.store k (j + 1) 0x65766173) s = .next (if (b.snapshot k (j + 1)).size ≤ 3145728
      then { b with staging := some (b.snapshot k (j + 1)), stagingSess := k }
      else b.refuseWrite k 0x1010 (j + 1) (.rule 0xB5))) ∧
  (∀ (s : State) (k : Fin 12) (j : Fin 3) (v : Nat), let b := s.begin.actBy k
    Safety.passesScalar b k Dict.STORE_PARAMETERS_SIGNATURE 0 j v → v ≠ 0x65766173 →
    exec (.store k (j + 1) v) s = .next (b.refuseWrite k 0x1010 (j + 1) (.plain 0x08000020 0))) ∧
  (∀ (s : State) (k : Fin 12) (j : Fin 3), let b := s.begin.actBy k
    Safety.passesScalar b k Dict.STORE_PARAMETERS_SIGNATURE 0 j 0x65766173 → b.floor = true ∨ b.staging ≠ none →
    exec (.store k (j + 1) 0x65766173) s = .next (b.refuseWrite k 0x1010 (j + 1) (.plain 0x08000021 0xB4))) ∧
  (∀ (s : State) (c : SavedCopy), let b := s.begin
    b.dictUp = true → b.floor = false → b.staging = some c →
    ∃ t, exec (.storeDone true) s = .next (t.respond b.stagingSess 0x1010 [] false) ∧
      t.staging = none ∧ Safety.raised s t Event.STORE_DONE c.generation c.size ∧
      (if b.copy0.valid = false ∨ (b.copy1.valid = true ∧ b.copy0.generation < b.copy1.generation)
        then t.copy0 = c ∧ t.copy1 = b.copy1 else t.copy0 = b.copy0 ∧ t.copy1 = c)) ∧
  (∀ (s : State) (c : SavedCopy), let b := s.begin
    b.dictUp = true → b.floor = false → b.staging = some c →
    ∃ t, exec (.storeDone false) s = .next (t.abort b.stagingSess 0x1010 (.plain 0x08000020 0)) ∧
      t.staging = none ∧ Safety.raised s t Event.STORE_FAILED 2 t.savedInForce.generation ∧
      (t.copy0.valid = true → t.copy0 = b.copy0) ∧ (t.copy1.valid = true → t.copy1 = b.copy1)) ∧
  (∀ (s : State) (k : Fin 12) (j : Fin 3), let b := s.begin.actBy k
    Safety.passesScalar b k Dict.RESTORE_PARAMETERS_SIGNATURE 0 j 0x64616F6C → b.floor = false →
    (j = 1 ∨ b.overcoatOpen = true) →
    exec (.restore k (j + 1) 0x64616F6C) s = .next (Safety.accepted
      ({ b with dev := { b.dev with restoreMarker := b.dev.restoreMarker ++ [j.val + 1] } }.raise Event.RESTORE_ARMED (j + 1) 0)
      k 0x1011)) ∧
  (∀ (s : State) (k : Fin 12) (j : Fin 3), let b := s.begin.actBy k
    Safety.passesScalar b k Dict.RESTORE_PARAMETERS_SIGNATURE 0 j 0x64616F6C → b.floor = false → j ≠ 1 →
    b.overcoatOpen = false →
    exec (.restore k (j + 1) 0x64616F6C) s = .next (b.refuseWrite k 0x1011 (j + 1) (.rule 0x40)))

/-- R413: READ, WRITE, READ_BLOCK and WRITE_BLOCK datagrams. Where the rules leave a point open it takes the model's
reading of log 36. -/
def Obligations.UdpReadsAndWrites : Prop :=
  (∀ (s : State) (k : Nat) (d : UdpDatagram) (e : EntryDef), let b := s.begin
    let v := Safety.udpTaken b 1 k d []
    Safety.udpServed b 1 k d → d.payload = [] → v.readCheck k d.index d.sub = .ok e →
    let data := v.readBytes k e (d.index - e.base) (d.sub - e.lo)
    ∃ t, exec (.udpRead d) s = .next t ∧
      Safety.udpReplied t 1 k d (b.sessAt k).ks (decide (1440 < data.length)) (data.take 1440) ∧
      (t.sessAt k).lastSeq = d.seq) ∧
  (∀ (s : State) (k : Nat) (d : UdpDatagram) (e : EntryDef) (w : State), let b := s.begin
    let v := Safety.udpTaken b 2 k d []
    Safety.udpServed b 2 k d → v.writeCheck false k d.index d.sub d.payload = .ok e → v.dictUp = true →
    v.effect plainly k e d.index d.sub d.payload = .done w → w.sessAt k = v.sessAt k →
    ∃ t, exec (.udpWrite d) s = .next t ∧ Safety.udpReplied t 2 k d (b.sessAt k).ks false [] ∧ t.regs = w.regs ∧
      t.doms = w.doms ∧ t.shadow = w.shadow) ∧
  (∀ (s : State) (k : Nat) (d : UdpDatagram) (data : List Byte) (w : State), let b := s.begin
    let offset := beAt d.payload 0 4
    let limit := min (beAt d.payload 4 2) 1436
    let v := Safety.udpTaken b 3 k d (beBytes 4 offset)
    Safety.udpServed b 3 k d → d.payload.length = 6 → v.blockSource k d.index d.sub offset = .ok (data, w) →
    w.sessAt k = v.sessAt k →
    ∃ t, exec (.udpReadBlock d) s = .next t ∧
      Safety.udpReplied t 3 k d (b.sessAt k).ks (decide (offset + limit < data.length))
        (beBytes 4 offset ++ (data.drop offset).take limit)) ∧
  (∀ (s : State) (k : Nat) (d : UdpDatagram) (before : List Byte), let b := s.begin
    let offset := beAt d.payload 0 4
    let whole := before ++ d.payload.drop 4
    let v := Safety.udpTaken b 4 k d []
    Safety.udpServed b 4 k d → 4 ≤ d.payload.length → v.openData k d.index d.sub offset = some before →
    udpMore d = true → v.segmentRefused k d.index d.sub offset whole.length = none →
    ∃ t, exec (.udpWriteBlock d) s = .next t ∧ Safety.udpReplied t 4 k d (b.sessAt k).ks false [] ∧
      (t.sessAt k).transfer = some ⟨d.index, d.sub, whole, b.now⟩ ∧ t.regs = s.regs ∧ t.doms = s.doms) ∧
  (∀ (s : State) (k : Nat) (d : UdpDatagram) (before : List Byte), let b := s.begin
    let v := Safety.udpTaken b 4 k d []
    Safety.udpServed b 4 k d → 4 ≤ d.payload.length →
    v.openData k d.index d.sub (beAt d.payload 0 4) = some before → udpMore d = false →
    exec (.udpWriteBlock d) s = .next
      (((v.putSess k { v.sessAt k with transfer := none }).dictWrite k d.index d.sub (before ++ d.payload.drop 4)).queueAsked
        k ⟨4, d.seq, d.index, d.sub, []⟩))

/-- R413 to R416: COMMIT and SUBSCRIBE datagrams, the three phases of AUTH, repeats, what an idle session loses, and
the datagrams that are discarded: one whose tag fails is counted, a repeat gets the cached response, an older one
nothing. Where the rules leave a point open it takes the model's reading of logs 36, 52 and 72. -/
def Obligations.UdpSessionsAndCommits : Prop :=
  (∀ (s : State) (k : Nat) (d : UdpDatagram) (records : List (Nat × Nat × List Byte)) (w : State), let b := s.begin
    let v := Safety.udpTaken b 5 k d []; let l := records ++ [(d.index, d.sub, [1])]
    Safety.udpServed b 5 k d → udpRecords 1440 d.payload = some records → namesCommit d.index d.sub = true →
    v.checkEach k l = none → v.effectEach k k l = .ok w →
    exec (.udpCommit d) s = .next (w.queueAsked k ⟨5, d.seq, d.index, d.sub, []⟩)) ∧
  (∀ (s : State) (k : Nat) (d : UdpDatagram) (records : List (Nat × Nat × List Byte)) (i j : Nat) (r : Refuse), let b := s.begin
    let v := Safety.udpTaken b 5 k d []; let l := records ++ [(d.index, d.sub, [1])]
    Safety.udpServed b 5 k d → udpRecords 1440 d.payload = some records → namesCommit d.index d.sub = true →
    (v.checkEach k l = some (i, j, r) ∨ v.checkEach k l = none ∧ ∃ u, v.effectEach k k l = .error (i, j, r, u)) →
    ∃ t, exec (.udpCommit d) s = .next t ∧ WireItem.response ⟨k, r.abort, r.detail, [], false⟩ ∈ t.wire ∧
      t.regs = s.regs ∧ t.shadow = s.shadow ∧ t.doms = s.doms ∧ t.shadowDoms = s.shadowDoms ∧ t.validating = s.validating) ∧
  (∀ (s : State) (k : Nat) (l : List (Nat × Nat × List Byte)), s.checkEach k l = none ↔
    ∀ x ∈ l, ∃ e, s.writeCheck false k x.1 x.2.1 x.2.2 = .ok e) ∧
  (∀ (s : State) (k : Nat) (d : UdpDatagram), let b := s.begin; let severity := byteAt d.payload 0
    Safety.udpServed b 6 k d → d.payload.length = 4 → leAt d.payload 1 3 = 0 → severity ≤ 5 ∨ severity = 0xFF →
    ∃ t, exec (.udpSubscribe d) s = .next t ∧ Safety.udpReplied t 6 k d (b.sessAt k).ks false [] ∧
      (t.sessAt k).subSeverity = severity ∧ t.regs = s.regs) ∧
  (∀ (s : State) (d : UdpDatagram) (k : Nat), let b := s.begin
    let slot := byteAt d.payload 1; let rights := byteAt d.payload 2; let client := d.payload.drop 4
    (b.udpUp && b.udpHere d) = true → d.session = 0 → d.tag = zeros 16 → udpHeaderFits d = true → authShape 1 d.payload = true →
    b.authRefused slot rights = none → [4, 5, 6, 7, 8, 9, 10, 11].find? (fun j => !(b.sessAt j).isOpen) = some k →
    ∃ (device : List Byte) (t : State), device.length = 16 ∧ exec (.udpAuthPhase1 d) s = .next t ∧
      (t.sessAt k).isOpen = true ∧ (t.sessAt k).deviceNonce = device ∧ (t.sessAt k).clientNonce = client ∧
      (t.sessAt k).ks = b.authKey k slot rights client device ∧ (t.sessAt k).rights = b.baseRights k ∧
      (t.sessAt k).lastSeq = d.seq ∧ Safety.raised s t Event.SESSION_OPENED k d.source ∧
      WireItem.packet packetUdp k (udpDatagram (k - 3) ⟨7, d.seq, d.index, d.sub, []⟩ (t.sessAt k).ks false false false
        (d.payload.take 4 ++ device)) ∈ t.wire ∧ t.regs = s.regs) ∧
  (∀ (s : State) (d : UdpDatagram), let b := s.begin
    (b.udpUp && b.udpHere d) = true → d.session = 0 → d.tag = zeros 16 → udpHeaderFits d = true → authShape 1 d.payload = true →
    8 ≤ b.udpOpen →
    exec (.udpAuthPhase1 d) s = .next (b.out (.packet packetUdp 0
      (udpDatagram 0 ⟨7, d.seq, d.index, d.sub, d.payload.take 4⟩ [] false true false (beBytes 4 0x08000022 ++ beBytes 2 0xB8))))) ∧
  (∀ (s : State) (k : Nat) (d : UdpDatagram) (w : State), let b := s.begin
    let v := Safety.udpTaken b 7 k d (d.payload.take 4)
    Safety.udpServed b 7 k d → authShape 2 d.payload = true → v.proof k (d.payload.drop 4) = .done w →
    ∃ t, exec (.udpAuthPhase2 d) s = .next t ∧
      Safety.udpReplied t 7 k d (b.sessAt k).ks false (d.payload.take 4 ++ (w.sessAt k).deviceProof) ∧
      (t.sessAt k).rights = (w.sessAt k).rights) ∧
  (∀ (s : State) (k : Nat) (d : UdpDatagram), let b := s.begin
    Safety.udpServed b 7 k d → authShape 3 d.payload = true →
    ∃ t, exec (.udpAuthPhase3 d) s = .next t ∧
      Safety.udpReplied t 7 k d (b.sessAt k).ks false (d.payload.take 4 ++ zeros 16) ∧ t.sessAt k = Sess.init ∧
      Safety.raised s t Event.SESSION_CLOSED k 1) ∧
  (∀ (s : State) (u : Fin 8), let b := s.begin; let v := b.sessAt (4 + u)
    exec (.udpTransferIdle u) s = .next (b.putSess (4 + u) { v with
      transfer := v.transfer.filter (fun x => decide (b.now < x.at_ + 1000000000))
      reading := v.reading.filter (fun x => decide (b.now < x.at_ + 1000000000)) })) ∧
  (∀ (s : State) (u : Fin 8), let b := s.begin; let v := b.sessAt (4 + u)
    v.isOpen = true → v.lastAt + b.rd Dict.MANAGEMENT_UDP_IDLE_TIMEOUT * 1000000000 ≤ b.now →
    exec (.udpSessionIdle u) s = .next ((b.putSess (4 + u) Sess.init).raise Event.SESSION_CLOSED (4 + u) 2)) ∧
  (∀ (s : State) (k : Nat) (d : UdpDatagram), let b := s.begin
    (b.udpUp && b.udpHere d) = true → b.udpSession d = some k → d.tag ≠ hmac16 (b.sessAt k).ks (udpCovered 2 d) →
    ∃ t, exec (.udpWrite d) s = .next t ∧ t.regs = (b.inc Dict.MANAGEMENT_TAG_REJECTS).regs ∧ t.sess = s.sess ∧
      ((b.tagRejectAt = 0 ∨ b.tagRejectAt - 1 + 1000000000 ≤ b.now) →
        Safety.raised s t Event.TAG_REJECTED k d.source ∧ t.tagRejectAt = b.now + 1) ∧
      (¬ (b.tagRejectAt = 0 ∨ b.tagRejectAt - 1 + 1000000000 ≤ b.now) → t.ev = s.ev ∧ t.tagRejectAt = b.tagRejectAt)) ∧
  (∀ (s : State) (k : Nat) (d : UdpDatagram), let b := s.begin; let u := b.sessAt k
    (b.udpUp && b.udpHere d) = true → b.udpSession d = some k → d.tag = hmac16 u.ks (udpCovered 2 d) → d.seq = u.lastSeq → u.cached ≠ [] →
    exec (.udpWrite d) s = .next (((b.actBy k).putSess k { u with lastAt := b.now }).out (.packet packetUdp k u.cached))) ∧
  (∀ (s : State) (k : Nat) (d : UdpDatagram), let b := s.begin; let u := b.sessAt k
    (b.udpUp && b.udpHere d) = true → b.udpSession d = some k → d.tag = hmac16 u.ks (udpCovered 2 d) → d.seq < u.lastSeq →
    exec (.udpWrite d) s = .next ((b.actBy k).putSess k { u with lastAt := b.now })) ∧
  (∀ (s : State) (d : UdpDatagram), let b := s.begin
    (b.udpUp && b.udpHere d) = false → exec (.udpWrite d) s = .next b)

/-- R417: SPI request frames, FETCH, a bad CRC and a second request, and MISO idling high while a request comes in.
Where the rules leave a point open it takes the model's reading of log 37. -/
def Obligations.SpiFrames : Prop :=
  (∀ (s : State) (f : SpiFrame) (e : EntryDef), let b := s.begin; let v := Safety.spiTaken b f
    Safety.spiServed b 1 f → f.offset = 0 → f.data = [] → v.readCheck 2 f.index f.sub = .ok e →
    ∃ t, exec (.spiRead f) s = .next t ∧
      t.spi = ⟨2, f.index, 0, 0, (v.readBytes 2 e (f.index - e.base) (f.sub - e.lo)).take 1024⟩) ∧
  (∀ (s : State) (f : SpiFrame) (e : EntryDef) (w : State), let b := s.begin; let v := Safety.spiTaken b f
    Safety.spiServed b 2 f → f.offset = 0 → f.data.length = f.length → (b.sessAt 2).isOpen = true →
    v.writeCheck false 2 f.index f.sub f.data = .ok e → v.effect plainly 2 e f.index f.sub f.data = .done w → w.spi = v.spi →
    exec (.spiWrite f) s = .next { w with
      wire := w.wire ++ [.response ⟨2, 0, 0, [], false⟩], spi := ⟨2, f.index, 0, 0, []⟩ }) ∧
  (∀ (s : State) (f : SpiFrame) (r : Refuse), let b := s.begin; let v := Safety.spiTaken b f
    Safety.spiServed b 2 f → f.offset = 0 → f.data.length = f.length → (b.sessAt 2).isOpen = true →
    v.writeCheck false 2 f.index f.sub f.data = .error r → r.abort ≠ 0 →
    ∃ t, exec (.spiWrite f) s = .next t ∧ t.spi = ⟨3, f.index, r.abort, r.detail, []⟩ ∧ t.regs = s.regs) ∧
  (∀ (s : State) (f : SpiFrame) (data : List Byte) (w : State), let b := s.begin; let v := Safety.spiTaken b f
    Safety.spiServed b 3 f → f.data = [] → v.blockSource 2 f.index f.sub f.offset = .ok (data, w) → w.spi = v.spi →
    ∃ t, exec (.spiReadBlock f) s = .next t ∧ t.spi = ⟨2, f.index, 0, 0, (data.drop f.offset).take f.length⟩) ∧
  (∀ (s : State) (f : SpiFrame) (before : List Byte), let b := s.begin; let v := Safety.spiTaken b f
    Safety.spiServed b 4 f → f.data.length = f.length → v.openData 2 f.index f.sub f.offset = some before → f.more = true →
    v.segmentRefused 2 f.index f.sub f.offset (before ++ f.data).length = none →
    ∃ t, exec (.spiWriteBlock f) s = .next t ∧ t.spi = ⟨2, f.index, 0, 0, []⟩ ∧
      (t.sessAt 2).transfer = some ⟨f.index, f.sub, before ++ f.data, b.now⟩ ∧ t.regs = s.regs ∧ t.doms = s.doms) ∧
  (∀ (s : State) (f : SpiFrame) (before : List Byte), let b := s.begin; let v := Safety.spiTaken b f
    Safety.spiServed b 4 f → f.data.length = f.length → v.openData 2 f.index f.sub f.offset = some before → f.more = false →
    exec (.spiWriteBlock f) s = .next
      ((v.putSess 2 { v.sessAt 2 with transfer := none }).dictWrite 2 f.index f.sub (before ++ f.data))) ∧
  (∀ (s : State), let b := s.begin; let p := b.spi
    let bytes := leBytes 1 p.status ++ leBytes 4 p.abort ++ leBytes 2 p.detail ++ leBytes 2 p.data.length ++ p.data
    b.spiUp = true → exec .spiFetch s = .next (b.out (.packet packetSpi 0 (bytes ++ leBytes 2 (crc16 bytes))))) ∧
  (∀ (s : State) (f : SpiFrame), let b := s.begin
    b.spiUp = true → f.crc ≠ crc16 (spiBytes 2 f) →
    exec (.spiWrite f) s = .next (((b.actBy 2).misoIdles f).inc Dict.MANAGEMENT_SPI_CRC_ERRORS)) ∧
  (∀ (s : State) (f : SpiFrame), let b := s.begin
    b.spiUp = true → f.crc = crc16 (spiBytes 2 f) → b.spi.status = 1 →
    exec (.spiWrite f) s = .next ((b.actBy 2).misoIdles f)) ∧
  (∀ (s : State) (f : SpiFrame), (s.misoIdles f).wire =
    s.wire ++ [.packet packetMiso 0 (List.replicate (frameSize f) 0xFF)])

/-- R418, R419, Table 14.8: the BAR0 mailbox with its offsets, and the BAR4 doorbells. Where the rules leave a point
open it takes the model's reading of log 37. -/
def Obligations.MailboxAndDoorbells : Prop :=
  (∀ (s : State) (r : MbRequest) (e : EntryDef), let b := s.begin; let v := Safety.mailboxTaken b 1 r
    let index := r.address / 256; let sub := r.address % 256
    Safety.mailboxServed b r → v.readCheck 3 index sub = .ok e →
    let data := v.readBytes 3 e (index - e.base) (sub - e.lo)
    ∃ t, exec (.mbRead r) s = .next t ∧ t.mailbox.status = 2 ∧ t.mailbox.data = data.take 7340032 ∧
      t.mailbox.value = leNat ((data.take 7340032).take 8) ∧ t.mailbox.length = (data.take 7340032).length ∧
      t.mailbox.receipt = s.timebase) ∧
  (∀ (s : State) (r : MbRequest) (e : EntryDef) (w : State), let b := s.begin; let v := Safety.mailboxTaken b 2 r
    let index := r.address / 256; let sub := r.address % 256
    Safety.mailboxServed b r → r.length ≤ 7340032 → (b.sessAt 3).isOpen = true →
    v.writeCheck false 3 index sub (mailboxData index sub r) = .ok e →
    v.effect plainly 3 e index sub (mailboxData index sub r) = .done w → w.mailbox = v.mailbox →
    ∃ t, exec (.mbWrite r) s = .next t ∧ t.mailbox.status = 2 ∧ t.mailbox.abort = 0 ∧ t.regs = w.regs ∧ t.doms = w.doms ∧
      t.shadow = w.shadow ∧ t.mailbox.receipt = s.timebase) ∧
  (∀ (s : State) (r : MbRequest) (data : List Byte) (w : State), let b := s.begin; let v := Safety.mailboxTaken b 3 r
    Safety.mailboxServed b r → r.length ≤ 7340032 →
    v.blockSource 3 (r.address / 256) (r.address % 256) r.offset = .ok (data, w) → w.mailbox = v.mailbox →
    ∃ t, exec (.mbReadBlock r) s = .next t ∧ t.mailbox.status = 2 ∧ t.mailbox.data = (data.drop r.offset).take r.length ∧
      t.mailbox.op = 3 + (if r.offset + r.length < data.length then 256 else 0)) ∧
  (∀ (s : State) (r : MbRequest) (before : List Byte), let b := s.begin; let v := Safety.mailboxTaken b 4 r
    let data := (r.data ++ zeros (r.length - r.data.length)).take r.length
    Safety.mailboxServed b r → r.length ≤ 7340032 →
    v.openData 3 (r.address / 256) (r.address % 256) r.offset = some before → r.more = true →
    v.segmentRefused 3 (r.address / 256) (r.address % 256) r.offset (before ++ data).length = none →
    ∃ t, exec (.mbWriteBlock r) s = .next t ∧ t.mailbox.status = 2 ∧
      (t.sessAt 3).transfer = some ⟨r.address / 256, r.address % 256, before ++ data, b.now⟩ ∧ t.regs = s.regs) ∧
  (∀ (s : State) (r : MbRequest) (before : List Byte), let b := s.begin; let v := Safety.mailboxTaken b 4 r
    let data := (r.data ++ zeros (r.length - r.data.length)).take r.length
    Safety.mailboxServed b r → r.length ≤ 7340032 →
    v.openData 3 (r.address / 256) (r.address % 256) r.offset = some before → r.more = false →
    exec (.mbWriteBlock r) s = .next ((v.putSess 3 { v.sessAt 3 with transfer := none }).dictWrite 3 (r.address / 256)
      (r.address % 256) (before ++ data))) ∧
  (∀ (s : State) (r : MbRequest), let b := s.begin
    b.mailbox.status = 1 → exec (.mbWrite r) s = .next b) ∧
  (∀ (s : State) (offset value index sub : Nat) (e : EntryDef) (w : State), let b := s.begin.actBy 3
    b.pcieServes = true → doorbell offset = some (index, sub) → lookup index sub = .ok e → value < 256 ^ e.type.size →
    b.writeCheck false 3 index sub (leBytes e.type.size value) = .ok e →
    b.effect offset 3 e index sub (leBytes e.type.size value) = .done w →
    exec (.doorbellWrite offset value) s = .next w) ∧
  (∀ (s : State) (offset value index sub : Nat) (e : EntryDef) (r : Refuse), let b := s.begin.actBy 3
    b.pcieServes = true → doorbell offset = some (index, sub) → lookup index sub = .ok e → value < 256 ^ e.type.size →
    b.writeCheck false 3 index sub (leBytes e.type.size value) = .error r →
    ∃ t, exec (.doorbellWrite offset value) s = .next t ∧ Safety.raised s t Event.DOORBELL_REFUSED offset r.detail ∧
      (t.sessAt 3).refIndex = index ∧ (t.sessAt 3).refSub = sub ∧ (t.sessAt 3).refAbort = r.abort ∧
      (t.sessAt 3).refDetail = r.detail ∧ (∀ x, WireItem.response x ∉ t.wire) ∧ t.regs = s.regs) ∧
  (∀ n, n < 32 → doorbell (0x1000 + 8 * n) = some (0x2440 + n, 0x0C) ∧ doorbell (0x1100 + 4 * n) = some (0x2C40 + n, 1)) ∧
  (∀ c, c < 8 → doorbell (0x1180 + 4 * c) = some (0x2860 + c, 1)) ∧
  doorbell 0x11A0 = some (0x2870, 3) ∧ doorbell 0x11C0 = some (0x2020, 8) ∧
  (∀ m : Mailbox, m.dword 0x00 = m.op ∧ m.dword 0x04 = m.address ∧ m.dword 0x08 = m.length ∧ m.dword 0x0C = m.offset ∧
    m.dword 0x10 = m.value % 2 ^ 32 ∧ m.dword 0x14 = m.value / 2 ^ 32 % 2 ^ 32 ∧ m.dword 0x1C = m.status ∧
    m.dword 0x20 = m.abort ∧ m.dword 0x24 = m.detail ∧ m.dword 0x28 = m.receipt % 1000000000 ∧
    (∀ o, o < 0x700000 → m.dword (0x100000 + o) = leAt m.data o 4) ∧
    (∀ o, 0x34 < o → o < 0x100000 → m.dword o = 0) ∧ (∀ o, 0x800000 ≤ o → m.dword o = 0))

/-- R410, Table 14.5: the NMT commands. Where the rules leave a point open it takes the model's reading of log 49. -/
def Obligations.NmtCommands : Prop :=
  (∀ (s : State) (i : Fin 2), let b := s.begin.actBy i
    b.canTakes i = true → b.rd Dict.MANAGEMENT_NMT_CONTROL ≠ 0 →
    exec (.nmtStartRemoteNode i) s = .next ((b.putCan i { b.canAt i with nmt := 5 }).raiseBy i Event.NMT_COMMAND (i * 256 + 1) b.devState) ∧
    exec (.nmtStopRemoteNode i) s = .next ((b.putCan i { b.canAt i with nmt := 4 }).raiseBy i Event.NMT_COMMAND (i * 256 + 2) b.devState) ∧
    exec (.nmtEnterPreOperational i) s = .next
      ((b.putCan i { b.canAt i with nmt := 127 }).raiseBy i Event.NMT_COMMAND (i * 256 + 0x80) b.devState)) ∧
  (∀ (s : State) (i : Fin 2) (w : State), let b := s.begin.actBy i
    b.canTakes i = true → b.rd Dict.MANAGEMENT_NMT_CONTROL = 0 → b.devState ≠ 4 → 2 ≤ (b.baseRights i).rank →
    b.requestRun i = .done w →
    exec (.nmtStartRemoteNode i) s = .next ((w.putCan i { w.canAt i with nmt := 5 }).raiseBy i Event.NMT_COMMAND (i * 256 + 1) w.devState)) ∧
  (∀ (s : State) (i : Fin 2) (w : State), let b := s.begin.actBy i
    b.canTakes i = true → b.rd Dict.MANAGEMENT_NMT_CONTROL = 0 → b.devState = 4 ∨ b.devState = 5 →
    2 ≤ (b.baseRights i).rank → b.requestStandby i = .done w →
    exec (.nmtEnterPreOperational i) s = .next
      ((w.putCan i { w.canAt i with nmt := 127 }).raiseBy i Event.NMT_COMMAND (i * 256 + 0x80) w.devState) ∧
    exec (.nmtStopRemoteNode i) s = .next
      ((w.putCan i { w.canAt i with nmt := 4 }).raiseBy i Event.NMT_COMMAND (i * 256 + 2) w.devState)) ∧
  (∀ (s : State) (i : Fin 2), let b := s.begin.actBy i
    b.canTakes i = true → b.rd Dict.MANAGEMENT_NMT_CONTROL = 0 → (b.baseRights i).rank < 2 →
    (b.devState ≠ 4 → exec (.nmtStartRemoteNode i) s = .next (b.raiseBy i Event.NMT_IGNORED (i * 256 + 1) 0)) ∧
    (b.devState = 4 ∨ b.devState = 5 →
      exec (.nmtStopRemoteNode i) s = .next (b.raiseBy i Event.NMT_IGNORED (i * 256 + 2) 0) ∧
      exec (.nmtEnterPreOperational i) s = .next (b.raiseBy i Event.NMT_IGNORED (i * 256 + 0x80) 0))) ∧
  (∀ (s : State) (i : Fin 2), let b := s.begin
    b.canTakes i = true →
    ∃ t, exec (.nmtResetCommunication i) s = .next t ∧ (t.canAt i).nmt = 127 ∧ (t.canAt i).pendingRpdo = [] ∧
      (t.sessAt i).rights = b.baseRights i ∧ Safety.raised s t Event.RIGHTS_DROPPED i 3 ∧
      (∀ key, 0x200000 ≤ key → t.regAt key = s.regAt key) ∧
      (b.onlyFirst = true → ∀ key, 0x100000 ≤ key → key < 0x200000 → t.regAt key = dictDefault key) ∧
      ∃ n, WireItem.packet packetCan i (leBytes 4 (0x700 + n) ++ [0]) ∈ t.wire) ∧
  (∀ (s : State) (i : Fin 2), let b := s.begin
    b.canTakes i = true → b.rd Dict.MANAGEMENT_NMT_RESET_ACTION = 1 → 2 ≤ (b.baseRights i).rank →
    exec (.nmtResetNode i) s = .next (((b.actBy i).raiseBy i Event.NMT_COMMAND (i * 256 + 0x81) 0).resetSelf i 2)) ∧
  (∀ (s : State) (i : Fin 2), let b := s.begin
    b.canTakes i = true → b.rd Dict.MANAGEMENT_NMT_RESET_ACTION ≠ 1 →
    exec (.nmtResetNode i) s = .next ((b.resetCommunication i).nmtObeyed i 0x81))

/-- R409, R411: USDO transfers, process data, SYNC and the heartbeat. Where the rules leave a point open it takes the
model's reading of logs 16 and 35. -/
def Obligations.CanopenData : Prop :=
  (∀ (s : State) (i : Fin 2) (index sub : Nat) (data : List Byte) (e : EntryDef) (w : State), let b := s.begin.actBy i
    b.canServes i = true → (b.sessAt i).isOpen = true → b.writeCheck false i index sub data = .ok e →
    b.effect plainly i e index sub data = .done w →
    exec (.usdoTransfer i true index sub data) s = .next (w.out (.response ⟨i, 0, 0, [], false⟩))) ∧
  (∀ (s : State) (i : Fin 2) (index sub : Nat) (data : List Byte) (e : EntryDef), let b := s.begin
    b.canServes i = true → b.readCheck i index sub = .ok e → (b.readBytes i e (index - e.base) (sub - e.lo)).length ≤ 2 ^ 32 →
    exec (.usdoTransfer i false index sub data) s = .next
      ((b.afterRead i e (index - e.base)).out (.response ⟨i, 0, 0, b.readBytes i e (index - e.base) (sub - e.lo), false⟩))) ∧
  (∀ (s : State) (i : Fin 2) (n : Fin 8) (payload : List Byte) (w : State), let b := s.begin
    b.operational i = true → b.pdoValid true n = true → 0xF0 < b.rd Dict.RPDO_TYPE n →
    (b.actBy i).writeEach 0xFD i (rpdoWrites (b.mappedEntries true n) payload) = .ok w →
    exec (.rpdoReceived i n payload) s = .next w) ∧
  (∀ (s : State) (i : Fin 2) (n : Fin 8) (payload : List Byte) (index sub : Nat) (r : Refuse), let b := s.begin
    b.operational i = true → b.pdoValid true n = true → 0xF0 < b.rd Dict.RPDO_TYPE n →
    (b.actBy i).writeEach 0xFD i (rpdoWrites (b.mappedEntries true n) payload) = .error (index, sub, r) →
    exec (.rpdoReceived i n payload) s = .next ((b.noteRefusal i index sub r).raiseBy i Event.RPDO_REFUSED (i * 256 + n) r.detail)) ∧
  (∀ (s : State) (i : Fin 2) (n : Fin 8) (payload : List Byte), let b := s.begin; let c := b.canAt i
    b.operational i = true → b.pdoValid true n = true → b.rd Dict.RPDO_TYPE n ≤ 0xF0 →
    exec (.rpdoReceived i n payload) s = .next
      (b.putCan i { c with pendingRpdo := c.pendingRpdo.filter (fun e => e.1 != n.val) ++ [(n.val, payload)] })) ∧
  (∀ (s : State) (i : Fin 2), let b := s.begin
    b.operational i = true → bit (b.rd Dict.COB_ID_SYNC_VALUE) 31 = false → (∀ n ∈ List.range 8, b.pdoValid false n = false) →
    (b.canAt i).pendingRpdo = [] → exec (.syncReceived i) s = .next (b.putCan i { b.canAt i with pendingRpdo := [] })) ∧
  (∀ (s : State) (i : Fin 2) (n : Fin 8) (p : List Byte) (w : State), let b := s.begin
    b.operational i = true → bit (b.rd Dict.COB_ID_SYNC_VALUE) 31 = false → (b.canAt i).pendingRpdo = [(n.val, p)] →
    ((b.putCan i { b.canAt i with pendingRpdo := [] }).actBy i).writeEach 0xFD i (rpdoWrites (b.mappedEntries true n) p) = .ok w →
    (∀ m ∈ List.range 8, w.pdoValid false m = false) → exec (.syncReceived i) s = .next w) ∧
  (∀ (s : State) (i : Fin 2) (n : Fin 8), let b := s.begin; let c := b.canAt i
    b.operational i = true → b.pdoValid false n = true → 0xFE ≤ b.rd Dict.TPDO_TYPE n →
    Store.read (fun _ => 0) c.tpdoAt n = 0 → (∀ m ∈ List.range 8, m ≠ n.val → b.pdoValid false m = false) →
    exec (.tpdoChangeCheck i) s = .next ((b.putCan i { c with
      tpdoLast := Store.write (fun _ => []) c.tpdoLast n (b.tpdoBytes i n)
      tpdoAt := Store.write (fun _ => 0) c.tpdoAt n (b.now + 1) }).out
        (.packet packetCan i (leBytes 4 (cobId (b.rd Dict.TPDO_COB_ID n)) ++ b.tpdoBytes i n)))) ∧
  (∀ (s : State) (i : Fin 2), let b := s.begin; let c := b.canAt i
    b.canUp i = true → c.nmt = 0 →
    exec (.canHeartbeat i) s = .next ((b.putCan i { c with nmt := 127, heartbeatAt := b.now }).out
      (.packet packetCan i (leBytes 4 (0x700 + b.nodeId i) ++ [0])))) ∧
  (∀ (s : State) (i : Fin 2), let b := s.begin; let c := b.canAt i
    b.canUp i = true → c.nmt ≠ 0 → b.rd Dict.HEARTBEAT_TIME_VALUE ≠ 0 →
    c.heartbeatAt + b.rd Dict.HEARTBEAT_TIME_VALUE * 1000000 ≤ b.now →
    exec (.canHeartbeat i) s = .next ((b.putCan i { c with heartbeatAt := b.now }).out
      (.packet packetCan i (leBytes 4 (0x700 + b.nodeId i) ++ leBytes 1 (b.nmtState i)))))

/-- R34, R35: what the AVS loop of an island commands. Where the rules leave a point open it takes the model's reading
of log 4. -/
def Obligations.VoltageLoop : Prop :=
  (∀ (s : State) (i : Fin 5) (pace mv : Nat), let b := s.begin
    let at_ := Store.read (fun _ => 0) b.gov.avsAt i
    let v := b.avsNext i pace mv
    b.dictUp = true → (at_ = 0 ∨ at_ - 1 + 50000 ≤ b.now) → bit (b.rd Dict.GOVERNOR_AVS_HOLD) i = false → v ≠ mv → v < 65536 →
    ∃ t, exec (.avsCommand i true pace mv) s = .next t ∧ WireItem.pin pinAvs i v ∈ t.wire ∧
      t.rd Dict.ISLAND_PACE_VOLTAGE 0 i = v ∧ Store.read (fun _ => 0) t.gov.avsAt i = b.now + 1 ∧
      Store.read (fun _ => 0) t.gov.avsFails i = 0 ∧ t.ev = s.ev) ∧
  (∀ (s : State) (i : Fin 5) (ok : Bool) (pace mv : Nat), let b := s.begin
    let at_ := Store.read (fun _ => 0) b.gov.avsAt i
    at_ ≠ 0 → b.now < at_ - 1 + 50000 → exec (.avsCommand i ok pace mv) s = .next b) ∧
  (∀ (s : State) (i : Fin 5) (pace mv : Nat), let b := s.begin
    let at_ := Store.read (fun _ => 0) b.gov.avsAt i
    let aim := b.rd Dict.ISLAND_PACE_TARGET 0 i * (100 + b.rd Dict.GOVERNOR_AVS_MARGIN)
    b.dictUp = true → (at_ = 0 ∨ at_ - 1 + 50000 ≤ b.now) → aim ≤ pace * 100 → pace * 10000 ≤ aim * 102 →
    b.gov.ceilings.contains i.val = false →
    ∃ t, exec (.avsCommand i true pace mv) s = .next t ∧ t.wire = [] ∧ Store.read (fun _ => 0) t.gov.avsAt i = b.now + 1) ∧
  (∀ (s : State) (i : Fin 5) (pace mv : Nat), let b := s.begin
    let at_ := Store.read (fun _ => 0) b.gov.avsAt i
    b.dictUp = true → (at_ = 0 ∨ at_ - 1 + 50000 ≤ b.now) → Store.read (fun _ => 0) b.gov.avsFails i = 2 →
    ∃ t, exec (.avsCommand i false pace mv) s = .next t ∧ Safety.raised s t Event.AVS_FAULT (i + 1) mv ∧
      Store.read (fun _ => false) t.gov.avsFault i = true ∧ t.wire = []) ∧
  (∀ (b : State) (i : Fin 5) (pace mv : Nat),
    let aim := b.rd Dict.ISLAND_PACE_TARGET 0 i * (100 + b.rd Dict.GOVERNOR_AVS_MARGIN)
    let least := if i.val = 4 then 550 else 500
    let v := b.avsNext i pace mv
    (least ≤ mv → mv ≤ 900 → pace * 100 < aim → v ≤ mv + 40 ∧ (v = 900 ∨ (mv + 5 ≤ v ∧ (v - mv) % 5 = 0))) ∧
    (b.gov.ceilings.contains i.val = true → 900 ≤ mv → v = 900) ∧
    (aim * 102 < pace * 10000 → ¬ pace * 100 < aim → b.gov.ceilings.contains i.val = false →
      v = max least (min 900 (mv - 5))) ∧
    (v = mv ∨ (least ≤ v ∧ v ≤ 900)))

/-- R36, R42, R57, R504: the timer tick and the power-cap pin. Where the rules leave a point open it takes the model's
reading of logs 3 and 40. -/
def Obligations.GovernorTimers : Prop :=
  (∀ (s : State) (tel : Telemetry), let b := s.begin
    b.dictUp = true → b.gov.lastTick + 10000000 ≤ b.now →
    ∃ t, exec (.governorTimerTick tel) s = .next t ∧ t.gov.lastTick = b.now ∧
      t.gov.measured = tel.measured ∧ t.gov.dieTemp = tel.dieTemp ∧
      t.rd Dict.GOVERNOR_STATUS_MEASURED = tel.measured * 65536 / 1000 % 2 ^ 32 ∧ t.now = s.now ∧ t.timebase = s.timebase) ∧
  (∀ (s : State) (tel : Telemetry), let b := s.begin
    b.now < b.gov.lastTick + 10000000 → exec (.governorTimerTick tel) s = .next b) ∧
  (∀ (s : State) (high period : Nat), let b := s.begin
    b.alive = true → 10000 ≤ period → period ≤ 1000000 → 0 < high → high < period →
    exec (.pwrBudgetMeasure high period) s = .next { b with gov := { b.gov with
      pinCap := 60 + 120 * high / period, pinLast := 60 + 120 * high / period, pinFault := false, pwmAt := b.now } }) ∧
  (∀ (s : State) (high period : Nat), let b := s.begin
    (period < 10000 ∨ 1000000 < period ∨ high = 0 ∨ period ≤ high) → exec (.pwrBudgetMeasure high period) s = .next b) ∧
  (∀ (s : State), let b := s.begin
    b.alive = true → b.gov.pinFault = false → b.gov.pwmAt + 100000000 ≤ b.now →
    exec .capPinFault s = .next (({ b with gov := { b.gov with pinCap := 60, pinFault := true } }).raisePin Event.CAP_PIN_FAULT
      b.gov.pinLast 0)) ∧
  (∀ b : State, b.gov.thermal = none → b.flag Dict.GOVERNOR_PIN_CAP_ENABLE = true →
    b.effectiveLimit.1 = min (b.rd Dict.GOVERNOR_POWER_CAP * 1000) (b.gov.pinCap * 1000)) ∧
  (∀ (b : State) (limit : Nat), b.gov.thermal = some limit → b.flag Dict.GOVERNOR_PIN_CAP_ENABLE = false →
    b.effectiveLimit.1 = min (b.rd Dict.GOVERNOR_POWER_CAP * 1000) limit)

/-- R26, R36, R194, R195: what happens at a compose latch, and in which order. Where the rules leave a point open it
takes the model's reading of logs 41 and 43. -/
def Obligations.ComposeLatchOrder : Prop :=
  (∀ (s : State) (c : Fin 8) (tel : Telemetry) (line0 : List (Nat × Nat)) (t deadline : Nat), let b := s.begin.frameTiming c
    b.alive = true → b.latchDue c = true → b.latchNow c = (t, 0, deadline) →
    let f := (b.ownFlip c).modCanvas c (fun v => { v with composeAt := t + 1 })
    (f.canvasAt c).stopping = false →
    let landed := ((f.countRunLatch c).landDue 2 c t)
    let gated := ((landed.judgeGating c).judgeOvercoat c 0).noteImage c
    let judged := gated.judgeBase c t line0
    exec (.composeLatch c tel line0) s = .next ((judged.latchTick c tel).dispatchSlot c 0 deadline)) ∧
  (∀ (s : State) (c : Fin 8) (tel : Telemetry) (line0 : List (Nat × Nat)) (t slot deadline : Nat), let b := s.begin.frameTiming c
    b.alive = true → b.latchDue c = true → b.latchNow c = (t, slot, deadline) → slot ≠ 0 →
    let f := (b.ownFlip c).modCanvas c (fun v => { v with composeAt := t + 1 })
    exec (.composeLatch c tel line0) s = .next ((((f.judgeGating c).judgeOvercoat c slot).noteImage c).dispatchSlot c slot deadline)) ∧
  (∀ (s : State) (c : Fin 8) (tel : Telemetry) (line0 : List (Nat × Nat)) (t deadline : Nat), let b := s.begin.frameTiming c
    b.alive = true → b.latchDue c = true → b.latchNow c = (t, 0, deadline) →
    let f := (b.ownFlip c).modCanvas c (fun v => { v with composeAt := t + 1 })
    (f.canvasAt c).stopping = true → exec (.composeLatch c tel line0) s = .next (f.stopCanvas c)) ∧
  (∀ (s : State) (c : Fin 8) (tel : Telemetry) (line0 : List (Nat × Nat)), let b := s.begin.frameTiming c
    b.latchDue c = false → exec (.composeLatch c tel line0) s = .next b) ∧
  (∀ (s : State) (c : Nat), let j := s.jumpIfDue; let f := j.canvasFtg c
    s.dictUp = true → s.alive = true → s.latchDue c = true →
    (j.ftgStopDue f = true → (j.ftgAt f).nextStart ≤ (j.latchNow c).1 → s.frameTiming c = j.stopFtg f) ∧
    (j.ftgStopDue f = false ∨ (j.latchNow c).1 < (j.ftgAt f).nextStart → s.frameTiming c = j)) ∧
  (∀ (b : State) (c : Fin 8) (tel : Telemetry), b.isLatchTick c = true →
    ((b.latchTick c tel).gov.latchTick = ((b.governorTick tel).rd Dict.FTG_BASE_FRAMES ((b.governorTick tel).canvasFtg c) + 1) * 8
      + (b.governorTick tel).canvasFtg c) ∧ (b.latchTick c tel).regs = (b.governorTick tel).regs) ∧
  (∀ (b : State) (c slot deadline : Nat), let d := b.dropStrips .compose c
    ((d.canvasAt c).skip = true → ((b.dispatchSlot c slot deadline).canvasAt c).composing = false ∧
      (b.dispatchSlot c slot deadline).strips = b.strips.filter (fun a => !(a.kind == .compose && a.owner == c))) ∧
    ((d.canvasAt c).skip = false → ((b.dispatchSlot c slot deadline).canvasAt c).composing = true ∧
      ((b.dispatchSlot c slot deadline).canvasAt c).deadline = deadline ∧
      ((b.dispatchSlot c slot deadline).canvasAt c).slot = slot))

/-- R50 to R54, R109: strips pulled, reissued, completed and discarded. Where the rules leave a point open it takes
the model's reading of log 43. -/
def Obligations.StripHandshake : Prop :=
  (∀ (s : State) (e : Fin 104) (a : Strip), let b := s.begin
    b.alive = true → b.heldBy e < (b.engineAt e).credit → b.strips.find? (·.mayGo e) = some a →
    let o := b.accrue e
    exec (.stripDispatch e) s = .next { o with strips := b.strips.map (fun x => if x = a then o.startCopy a e else x) }) ∧
  (∀ (s : State) (e : Fin 104), let b := s.begin
    (b.engineAt e).credit ≤ b.heldBy e → exec (.stripDispatch e) s = .next b) ∧
  (∀ (b : State) (a : Strip) (e : Nat), a.copies = [] → let x := b.expectedNs a.work e
    (b.startCopy a e).copies = [⟨e, b.timebase⟩] ∧ (b.startCopy a e).expected = x ∧
    (b.startCopy a e).reissueAt = b.timebase + x + 3 * (a.deadline - (b.timebase + x)) / 4) ∧
  (∀ (s : State) (i : StripId) (a : Strip) (first : Copy) (e : Nat), let b := s.begin
    b.stripOf i = some a → a.done = false → a.abandoned = false → a.reissued = false → a.copies = [first] → a.reissueAt ≤ b.timebase →
    b.idleFor a = some e →
    let o := b.accrue e
    exec (.stripReissue i) s = .next (((o.modStrip i (fun x => o.startCopy { x with issued := 2, reissued := true } e)).inc
        Dict.ENGINE_POOL_STRIPS_REISSUED).raise Event.STRIP_REISSUE first.engine a.code)) ∧
  (∀ (s : State) (i : StripId) (a : Strip) (first : Copy), let b := s.begin
    b.stripOf i = some a → a.done = false → a.abandoned = false → a.reissued = false → a.copies = [first] → a.reissueAt ≤ b.timebase →
    b.idleFor a = none →
    exec (.stripReissue i) s = .next (((b.pushFront i (fun x => { x with issued := 2, reissued := true })).inc Dict.ENGINE_POOL_STRIPS_REISSUED).raise
      Event.STRIP_REISSUE first.engine a.code)) ∧
  (∀ (s : State) (e : Fin 104) (i : StripId) (a : Strip), let b := s.begin
    b.alive = true → b.stripOf i = some a → a.done = false → a.copies.any (·.engine == e.val) = true → a.kind = .estimate →
    ∃ t, exec (.stripComplete e i) s = .next t ∧
      t.strips = b.strips.map (fun x => if x.isId i then { x with done := true, copies := [] } else x) ∧
      t.rd Dict.ENGINE_POOL_STRIPS_COMPLETED = (b.rd Dict.ENGINE_POOL_STRIPS_COMPLETED + 1) % 2 ^ 64) ∧
  (∀ (s : State) (e : Fin 104) (i : StripId) (a : Strip), let b := s.begin; let f := (b.finishStrip a e i).writeStrip a
    b.alive = true → b.stripOf i = some a → a.done = false → a.copies.any (·.engine == e.val) = true → a.kind = .compose →
    ((f.stripsOf .compose a.owner).all (·.done) = true → (f.canvasAt a.owner).composing = true →
      exec (.stripComplete e i) s = .next (f.completeSlot a.owner)) ∧
    ((f.stripsOf .compose a.owner).all (·.done) = false → exec (.stripComplete e i) s = .next f)) ∧
  (∀ (s : State) (e : Fin 104) (i : StripId) (a : Strip), let b := s.begin
    b.stripOf i = some a → a.done = true → exec (.stripComplete e i) s = .next b) ∧
  (∀ (s : State) (c : Fin 8), let b := s.begin; let v := b.canvasAt c
    b.alive = true → v.composing = true → v.deadline ≤ b.timebase →
    ∃ t, exec (.composeDeadline c) s = .next t ∧ (t.canvasAt c).composing = false ∧ (t.canvasAt c).complete = false ∧
      (t.canvasAt c).front = v.front ∧ t.strips = b.strips.filter (fun a => !(a.kind == .compose && a.owner == c.val)) ∧
      Safety.raised s t Event.COMPOSE_LATE c ((b.stripsOf .compose c).filter (fun a => !a.done)).length ∧
      t.rd Dict.CANVAS_LATE_FRAMES c = (b.rd Dict.CANVAS_LATE_FRAMES c + 1) % 2 ^ 32) ∧
  (∀ (s : State) (n : Fin 64) (lines : Nat) (p : Picture), let b := s.begin
    b.alive = true → b.rd Dict.INPUT_TIMING_CLASS n = 1 → (b.inputAt n).bandLines ≤ lines → b.canvasesNaming 1 n = [] →
    let band := b.ingested n p
    exec (.chaseSegmentReady n lines p) s = .next ((b.putInput n { b.inputAt n with bandLines := lines, band := band }).mapLayers
      (fun y => y.grow (b.frameComing n) band))) ∧
  (∀ (s : State) (n : Fin 64) (lines : Nat) (p : Picture), let b := s.begin
    b.alive = true → b.rd Dict.INPUT_TIMING_CLASS n = 1 → (b.inputAt n).bandLines ≤ lines →
    ∃ t, exec (.chaseSegmentReady n lines p) s = .next t ∧ (t.inputAt n).bandLines = lines ∧ (t.inputAt n).band = b.ingested n p ∧ t.regs = s.regs ∧
      t.strips.length = s.strips.length)

/-- R55, R186, R187, R381: faults of engines, the copies they hold, their resets and their weights. Where the rules
leave a point open it takes the model's reading of log 19. -/
def Obligations.EngineFaults : Prop :=
  (∀ (s : State) (e : Fin 104) (i : StripId) (entry : Nat), let b := s.begin; let g := b.engineAt e
    b.alive = true → g.runs = true →
    exec (.engineEccError e i entry false) s = .next (((b.putEngine e { g with eccCorrected := min (g.eccCorrected + 1) (2 ^ 32 - 1) }).raise
      Event.ENGINE_ECC_CORRECTED e entry).fault 1 e)) ∧
  (∀ (s : State) (e : Fin 104) (i : StripId) (entry : Nat), let b := s.begin; let g := b.engineAt e
    b.alive = true → g.runs = true →
    exec (.engineEccError e i entry true) s = .next
      (((((b.putEngine e { g with eccUncorrected := min (g.eccUncorrected + 1) 65535 }).raise Event.ENGINE_ECC_UNCORRECTED e entry).loseCopy
        e i).resetEngine e 2).fault 1 e)) ∧
  (∀ (s : State) (e : Fin 104) (i : StripId) (unit : Nat), let b := s.begin; let g := b.engineAt e
    b.alive = true → g.runs = true →
    exec (.engineParity e i unit) s = .next
      (((((b.putEngine e { g with parity := min (g.parity + 1) 65535 }).raise Event.ENGINE_PARITY e unit).loseCopy
        e i).resetEngine e 3).fault 1 e)) ∧
  (∀ (s : State) (e : Fin 104) (i : StripId) (a : Strip) (c : Copy), let b := s.begin; let g := b.engineAt e
    b.alive = true → g.runs = true → b.stripOf i = some a → a.copies.find? (·.engine == e.val) = some c →
    c.start + 4 * a.expected ≤ b.timebase →
    exec (.engineTimeout e i) s = .next
      (((((b.putEngine e { g with timeouts := min (g.timeouts + 1) 65535 }).raise Event.ENGINE_TIMEOUT e
        ((b.timebase - c.start) / 1000)).loseCopy e i).resetEngine e 4).fault 1 e)) ∧
  (∀ (s : State) (e : Fin 104) (i : StripId) (a : Strip) (c : Copy), let b := s.begin
    b.stripOf i = some a → a.copies.find? (·.engine == e.val) = some c → b.timebase < c.start + 4 * a.expected →
    exec (.engineTimeout e i) s = .next b) ∧
  (∀ (s : State) (e : Fin 104), let b := s.begin; let g := b.engineAt e
    b.alive = true → g.state = .resetting →
    exec (.engineReset e) s = .next
      ((b.putEngine e { g with state := g.prior, resetAt := 0, resets := min (g.resets + 1) 65535 }).countEngines.raise
        Event.ENGINE_RESET e g.resetCause)) ∧
  (∀ (s : State) (e : Fin 104), let b := s.begin
    b.alive = true → 256 ≤ (b.engineAt e).below → (b.engineAt e).state ≠ .retired →
    b.isRetired (unitCode 1 e) = false → b.resil.copying = [] →
    exec (.enginePaceFault e) s = .next ((b.noteFault (unitCode 1 e)).retire 1 e 3)) ∧
  (∀ (b : State) (e : Nat) (i : StripId) (a : Strip) (c : Copy),
    b.stripOf i = some a → a.copies = [c] → c.engine = e → a.abandonments < 2 →
    Safety.raised b (b.loseCopy e i) Event.STRIP_RETRY e a.code ∧
    (b.loseCopy e i).rd Dict.ENGINE_POOL_STRIPS_RETRIED = (b.rd Dict.ENGINE_POOL_STRIPS_RETRIED + 1) % 2 ^ 64) ∧
  (∀ (b : State) (e : Nat) (i : StripId) (a : Strip) (c : Copy),
    b.stripOf i = some a → a.copies = [c] → c.engine = e → a.abandonments = 2 →
    Safety.raised b (b.loseCopy e i) Event.STRIP_ABANDONED a.owner (a.code % 2 ^ 24) ∧
    (b.loseCopy e i).rd Dict.ENGINE_POOL_STRIPS_ABANDONED = (b.rd Dict.ENGINE_POOL_STRIPS_ABANDONED + 1) % 2 ^ 32) ∧
  (∀ (b : State) (kind unit : Nat), let u := unitCode kind unit; let new := min 255 ((b.weightAt u).weight + 1)
    let limit := b.rd Dict.FAULT_WEIGHTS_THRESHOLD 0 (kind - 1)
    b.isRetired u = false → b.resil.copying = [] → new < limit →
    ((b.fault kind unit).weightAt u).weight = new ∧
    (limit ≤ 2 * new → (b.weightAt u).halfRaised = false → Safety.raised b (b.fault kind unit) Event.FAULT_WEIGHT_HALF u new))

/-- R66, R88, R128, R260, R263: ports and spare lanes are judged when their fields are written. Where the rules leave
a point open it takes the model's reading of logs 44, 69 and 72. -/
def Obligations.PortFields : Prop :=
  (∀ (s : State) (k : Fin 12) (p : Fin 48), let b := s.begin.actBy k
    Safety.passesScalar b k Dict.PORT_ADMIN p 0 1 → b.portRefusal p = none →
    exec (.portAdminUp k p) s = .next (Safety.accepted (b.startPort p) k (0x2280 + p))) ∧
  (∀ (s : State) (k : Fin 12) (p : Fin 48) (r : Refuse), let b := s.begin.actBy k
    Safety.passesScalar b k Dict.PORT_ADMIN p 0 1 → b.portRefusal p = some r →
    exec (.portAdminUp k p) s = .next (b.refuseWrite k (0x2280 + p) 1 r)) ∧
  (∀ (b : State) (p : Nat), b.rd Dict.PORT_TYPE p = 0 → b.judgePort p = some (.atField 0x12 (0x2280 + p) 2)) ∧
  (∀ (b : State) (p : Nat), let w := laneCount (b.rd Dict.PORT_TYPE p); b.rd Dict.PORT_TYPE p ≠ 0 →
    (b.rd Dict.PORT_FIRST_LANE p % w ≠ 0 ∨ 52 < b.rd Dict.PORT_FIRST_LANE p + w) →
    b.judgePort p = some (.atField 0x12 (0x2280 + p) 3)) ∧
  (∀ (s : State) (k : Fin 12) (p : Fin 48), let b := s.begin.actBy k
    Safety.passesScalar b k Dict.PORT_ADMIN p 0 0 →
    (b.flag Dict.PORT_ADMIN p = true → exec (.portAdminDown k p) s = .next (Safety.accepted
      (((b.portLanes p).foldl (fun s l => if (s.ulaneAt l).state = .retired then s else s.setLane l .off)
        (b.wr Dict.PORT_ADMIN 0 p)).judgePortState p 1) k (0x2280 + p))) ∧
    (b.flag Dict.PORT_ADMIN p = false → exec (.portAdminDown k p) s =
      .next (Safety.accepted ((b.wr Dict.PORT_ADMIN 0 p).judgePortState p 1) k (0x2280 + p)))) ∧
  (∀ (s : State) (k : Fin 12) (l : Fin 52) (v : Fin 256), let b := s.begin.actBy k
    Safety.passesScalar b k Dict.U_LANE_SPARE_OF l 0 v → b.judgeSpare l v = none →
    exec (.spareOfWrite k l v) s = .next (Safety.accepted
      ((b.wr Dict.U_LANE_SPARE_OF v l).putUlane l { b.ulaneAt l with surveyed := false }) k (0x2200 + l))) ∧
  (∀ (s : State) (k : Fin 12) (l : Fin 52) (v : Fin 256) (r : Refuse), let b := s.begin.actBy k
    Safety.passesScalar b k Dict.U_LANE_SPARE_OF l 0 v → b.judgeSpare l v = some r →
    exec (.spareOfWrite k l v) s = .next (b.refuseWrite k (0x2200 + l) 4 r)) ∧
  (∀ (b : State) (l : Nat), b.judgeSpare l 0xFF = none) ∧
  (∀ (b : State) (l v p : Nat), v ≠ 0xFF → (List.range 48).find? (fun p => (b.portLanes p).contains l) = some p →
    b.judgeSpare l v = some (.atField 0x12 (0x2280 + p) 3)) ∧
  (∀ (s : State) (k : Fin 12) (p : Fin 48) (v : Fin 256), let b := s.begin.actBy k
    Safety.passesScalar b k Dict.PTL_GENERATION 0 p v → generationAdmits v (b.rd Dict.PORT_TYPE p) = true →
    (v.val = 2 ∨ b.sparesOf p = []) →
    exec (.generationWrite k p v) s = .next (Safety.accepted (b.wr Dict.PTL_GENERATION v 0 p) k 0x2E10)) ∧
  (∀ (s : State) (k : Fin 12) (p : Fin 48) (v : Fin 256), let b := s.begin.actBy k
    Safety.passesScalar b k Dict.PTL_GENERATION 0 p v →
    (generationAdmits v (b.rd Dict.PORT_TYPE p) = false ∨ (v.val ≠ 2 ∧ b.sparesOf p ≠ [])) →
    exec (.generationWrite k p v) s = .next (b.refuseWrite k 0x2E10 (0x20 + p) (.rule 0x58)))

/-- R69 to R72, R263, R264: the lane states and what lanes and ports report. Where the rules leave a point open it
takes the model's reading of logs 14, 44, 69 and 72. -/
def Obligations.LaneStates : Prop :=
  (∀ (s : State) (l : Fin 68) (alignment : Bool), let b := s.begin
    b.alive = true → (b.laneAt l).live = true →
    let lost := (if l.val < 52 then b.inc Dict.U_LANE_LOCK_LOSSES l else b).raise Event.LANE_LOST (laneCode l) (if alignment then 5 else 2)
    exec (.laneLost l alignment) s = .next ((lost.restartLane l (if alignment then 5 else 2)).laneFault l)) ∧
  (∀ (s : State) (l : Fin 68) (alignment : Bool), let b := s.begin
    (b.laneAt l).live = false → exec (.laneLost l alignment) s = .next b) ∧
  (∀ (b : State) (l cause : Nat), l < 52 → b.portOf l = none →
    b.restartLane l cause = (b.trainLane l true).judgeOwner l cause ∧
    ((b.trainLane l true).ulaneAt l).state = .train ∧ ((b.trainLane l true).ulaneAt l).warm = true ∧
    ((b.trainLane l true).ulaneAt l).trainSince = b.now) ∧
  (∀ (s : State) (l : Fin 68) (f : LinkFound), let b := s.begin
    let w := (b.setLane l .up).modLane l (fun a => { a with restarts := 0 })
    let u := (w.endTrain l f).raise Event.LANE_UP (laneCode l) (w.reachedRate l f.rate / 1000)
    b.alive = true → (b.laneAt l).state = .train → b.linkRuns l f = true →
    exec (.laneUp l f) s = .next (u.judgeOwner l (u.ownerCause l)) ∧
    (l.val < 52 → u.ownerCause l = u.rd Dict.PORT_DOWN_CAUSE (u.lanePort l))) ∧
  (∀ (s : State) (l : Fin 68) (f : LinkFound), let b := s.begin
    (b.laneAt l).state ≠ .train ∨ b.linkRuns l f = false → exec (.laneUp l f) s = .next b) ∧
  (∀ (b : State) (l : Nat) (f : LinkFound), 52 ≤ l → f.rate < 2 ^ 32 →
    (b.endTrain l f).rd Dict.D_LANE_LINE_RATE (l - 52) = f.rate) ∧
  (∀ (s : State) (l : Fin 68) (autoneg : Bool), let b := s.begin; let n := (b.laneAt l).restarts + 1
    let t := ((((b.trainLane l false).modLane l (fun a => { a with restarts := n })).raise Event.LANE_TRAIN_FAIL (laneCode l) n).judgeOwner l
      (if autoneg && b.negotiates l then 3 else 2))
    b.alive = true → (b.laneAt l).state = .train → (b.laneAt l).trainSince + 3000000000 ≤ b.now →
    (n < 3 → exec (.laneTrainFail l autoneg) s = .next t) ∧
    (3 ≤ n → l.val < 52 → exec (.laneTrainFail l autoneg) s = .next (t.hardFault 7 l 2)) ∧
    (3 ≤ n → 52 ≤ l.val → exec (.laneTrainFail l autoneg) s = .next (t.hardFault 8 (l - 52) 2))) ∧
  (∀ (s : State) (l : Fin 68) (autoneg : Bool), let b := s.begin
    b.now < (b.laneAt l).trainSince + 3000000000 → exec (.laneTrainFail l autoneg) s = .next b) ∧
  (∀ (s : State) (l : Fin 68), let b := s.begin; let a := b.laneAt l
    let w := b.modLane l (fun a => { a with state := .degraded, goodSince := 0 })
    let u := w.raise Event.LANE_DEGRADED (laneCode l) (w.marginClass l)
    b.alive = true → a.state = .up →
    (b.since a.lowSince 1000000000 = true ∨ (a.badAt ≠ 0 ∧ b.since a.badAt 1000000001 = false)) →
    (52 ≤ l.val ∨ u.flag Dict.PTL_TAKEOVER_ON_DEGRADE = false →
      exec (.laneDegraded l) s = .next ((u.judgeOwner l (u.ownerCause l)).laneFault l)) ∧
    (∀ p, l.val < 52 → u.flag Dict.PTL_TAKEOVER_ON_DEGRADE = true → u.portOf l = some p →
      (∀ m, u.readySpare p = some m → exec (.laneDegraded l) s = .next ((u.takeOver p l m).laneFault l)) ∧
      (u.readySpare p = none → exec (.laneDegraded l) s =
        .next (((u.noSpareLane p l).judgePortState p (u.ownerCause l)).laneFault l)))) ∧
  (∀ (s : State) (l : Fin 68), let b := s.begin; let a := b.laneAt l
    let u := (b.setLane l .up).raise Event.LANE_RECOVERED (laneCode l) ((b.setLane l .up).marginClass l)
    b.alive = true → a.state = .degraded → b.since a.goodSince 10000000000 = true →
    (a.badAt = 0 ∨ b.since a.badAt 10000000000 = true) →
    exec (.laneRecovered l) s = .next (u.judgeOwner l ((b.setLane l .up).ownerCause l))) ∧
  (∀ (s : State) (p : Fin 48) (count : Nat), let b := s.begin
    let recent := (b.now, count) :: (Store.read (fun _ => []) b.fecTimes p).filter (fun e => decide (b.now < e.1 + 1000000000))
    let u := (b.inc Dict.PORT_FEC_UNCORRECTABLE p 0 count).raise Event.FEC_UNCORRECTABLE (0x200 + p)
      ((recent.map Prod.snd).foldl (· + ·) 0)
    let w : State := { u with fecTimes := Store.write (fun _ => []) u.fecTimes p recent }
    b.alive = true → 2 ≤ b.rd Dict.PORT_STATE p → 0 < count → exec (.fecUncorrectable p count) s = .next
      ((w.portLanes p).foldl (fun s l => s.modUlane l (fun a => { a with badAt := s.now + 1 })) w)) ∧
  (∀ (s : State) (l : Fin 68) (snr high : Fin 65536) (r : LaneReading), let b := s.begin
    let cls := min 15 (snr.val / 100 - (if b.pam4 l then 18 else 17))
    let u := ((((b.wr Dict.U_LANE_SNR snr l).wr Dict.U_LANE_EYE_HEIGHT high l).wr Dict.U_LANE_EYE_WIDTH r.wide l).wr
      Dict.U_LANE_MARGIN_CLASS cls l).adaptUpdate l r
    let d := ((b.wr Dict.D_LANE_EYE_HEIGHT high (l - 52)).wr Dict.D_LANE_MARGIN_CLASS cls (l - 52)).adaptUpdate l r
    let timed (w : State) := if (w.laneAt l).live then w.modLane l (fun a => { a with
      lowSince := if w.degradeClass l ≤ cls then 0 else if a.lowSince = 0 then w.now + 1 else a.lowSince
      goodSince := if cls ≤ w.degradeClass l then 0 else if a.goodSince = 0 then w.now + 1 else a.goodSince }) else w
    b.alive = true →
    (l.val < 52 → exec (.laneMarginUpdate l snr high r) s = .next (timed u)) ∧
    (52 ≤ l.val → exec (.laneMarginUpdate l snr high r) s = .next (timed d))) ∧
  (∀ (s : State) (l : Fin 52), let b := s.begin; let p := b.rd Dict.U_LANE_SPARE_OF l
    b.alive = true → p < 48 → 2 ≤ b.rd Dict.PORT_STATE p → (b.ulaneAt l).state = .off → (b.ulaneAt l).surveyed = false →
    exec (.ptlSpareReady l) s = .next ((b.putUlane l { b.ulaneAt l with surveyed := true }).raise Event.PTL_SPARE_READY (p * 256 + l) 0)) ∧
  (∀ (s : State) (p : Fin 48) (length : Nat), let b := s.begin
    b.alive = true → 2 ≤ b.rd Dict.PORT_STATE p →
    (64 ≤ length → length ≤ b.rd Dict.PORT_MTU p →
      exec (.ethernetFrameRx p length true false) s = .next (b.inc Dict.PORT_RX_FRAMES p)) ∧
    (length < 64 ∨ b.rd Dict.PORT_MTU p < length →
      exec (.ethernetFrameRx p length true false) s = .next (b.inc Dict.PORT_RX_DISCARDS p)) ∧
    exec (.ethernetFrameRx p length false false) s = .next (b.inc Dict.PORT_RX_DISCARDS p) ∧
    exec (.ethernetFrameRx p length true true) s = .next (b.inc Dict.PORT_RX_DISCARDS p))

/-- R69, R73, R77, R78, R89, R92: group ports start and stop, hot plug, EDID and CEC, HDCP and failed training. Where
the rules leave a point open it takes the model's reading of logs 14, 44, 69 and 72. -/
def Obligations.GroupPorts : Prop :=
  (∀ (s : State) (k : Fin 12) (g : Fin 4), let b := s.begin.actBy k
    Safety.passesScalar b k Dict.GROUP_PORT_ADMIN g 0 1 → b.judgeGroup g = none →
    exec (.groupAdminUp k g) s = .next (Safety.accepted (b.startGroup g) k (0x22B0 + g))) ∧
  (∀ (s : State) (k : Fin 12) (g : Fin 4) (r : Refuse), let b := s.begin.actBy k
    Safety.passesScalar b k Dict.GROUP_PORT_ADMIN g 0 1 → b.judgeGroup g = some r →
    exec (.groupAdminUp k g) s = .next (b.refuseWrite k (0x22B0 + g) 1 r)) ∧
  (∀ (s : State) (k : Fin 12) (g : Fin 4), let b := s.begin.actBy k; let w := b.wr Dict.GROUP_PORT_ADMIN 0 g
    Safety.passesScalar b k Dict.GROUP_PORT_ADMIN g 0 0 →
    exec (.groupAdminDown k g) s = .next (Safety.accepted
      (((((b.groupLanes g).foldl (fun s l => if (s.laneAt l).state = .retired then s else s.setLane l .off) w).judgeGroupState g).restartHdcp
        g).driveHpd g) k (0x22B0 + g))) ∧
  (∀ (b : State) (g : Nat), b.groupReceives g = true →
    let level := b.flag Dict.GROUP_PORT_ADMIN g && !(b.groupAt g).edid.isEmpty && (b.groupAt g).hpdLowUntil == 0
    b.driveHpd g = ((b.wr Dict.GROUP_PORT_HPD level.toNat g).out (.pin 3 g level.toNat)).raiseIf
      (b.flag Dict.GROUP_PORT_HPD g != level) Event.HPD_CHANGE (0x400 + g) level.toNat) ∧
  (∀ (s : State) (g : Fin 4) (p : PinLevel), let b := s.begin
    let u := (b.wr Dict.GROUP_PORT_HPD p.high.toNat g).raisePin Event.HPD_CHANGE (0x400 + g) p.high.toNat
    b.alive = true → b.groupSends g = true →
    (b.flag Dict.GROUP_PORT_HPD g ≠ p.high → 100000 ≤ p.us → exec (.hpdChange g p) s = .next
      (if p.high = true then u.out (.pin pinEdidRead g 1) else u)) ∧
    (b.flag Dict.GROUP_PORT_HPD g = p.high ∨ p.us < 100000 → exec (.hpdChange g p) s = .next b)) ∧
  (∀ (s : State) (g : Fin 4) (us : Nat), let b := s.begin
    b.alive = true → b.rd Dict.GROUP_PORT_MODE g = 4 → b.flag Dict.GROUP_PORT_HPD g = true →
    (500 ≤ us → us ≤ 1000 → exec (.irqHpd g us) s = .next (b.out (.pin 2 g us))) ∧
    (us < 500 ∨ 1000 < us → exec (.irqHpd g us) s = .next b)) ∧
  (∀ (s : State) (k : Fin 12) (g : Fin 4) (data : List Byte), let b := s.begin.actBy k
    let w := b.wrDom Dict.GROUP_PORT_EDID data g
    Safety.passes b k Dict.GROUP_PORT_EDID g 0 data →
    let v := w.putGroup g { b.groupAt g with edidDue := true }
    (v.groupPaced g = true → exec (.edidWrite k g data) s = .next (Safety.accepted v k (0x22B0 + g))) ∧
    (v.groupPaced g = false → exec (.edidWrite k g data) s = .next (Safety.accepted (v.takeGroupLive g) k (0x22B0 + g)))) ∧
  (∀ (b : State) (g : Nat), let d := b.dom Dict.GROUP_PORT_EDID g
    let v := b.putGroup g { b.groupAt g with edid := d, edidDue := false }
    (b.groupReceives g = true → b.takeEdid g = ((v.putGroup g { v.groupAt g with hpdLowUntil := b.now + 200000000 }).out
      (.packet packetEdid g d)).driveHpd g) ∧
    (b.groupReceives g = false → b.takeEdid g = v)) ∧
  (∀ (s : State) (g : Fin 4), let b := s.begin; let u := b.groupAt g
    b.alive = true → u.hpdLowUntil ≠ 0 →
    (u.hpdLowUntil ≤ b.now → exec (.edidHpdRelease g) s = .next ((b.putGroup g { u with hpdLowUntil := 0 }).driveHpd g)) ∧
    (b.now < u.hpdLowUntil → exec (.edidHpdRelease g) s = .next b)) ∧
  (∀ (s : State) (g : Fin 4) (data : List Byte), let b := s.begin
    b.alive = true → b.groupSends g = true → b.flag Dict.GROUP_PORT_HPD g = true →
    exec (.sinkEdidChanged g data) s = .next ((b.wrDom Dict.GROUP_PORT_SINK_EDID (data.take 512) g).raise
      Event.SINK_EDID_CHANGED (0x400 + g) (data.take 512).length)) ∧
  (∀ (s : State) (k : Fin 12) (g : Fin 4) (data : List Byte), let b := s.begin.actBy k
    Safety.passes b k Dict.GROUP_PORT_CEC_TX g 0 data →
    exec (.cecTx k g data) s = .next (Safety.accepted (b.out (.packet 5 g data)) k (0x22B0 + g))) ∧
  (∀ (s : State) (g : Fin 4) (data : List Byte), let b := s.begin
    let w := b.wrDom Dict.GROUP_PORT_CEC_RX (data.take 16) g
    b.alive = true → data ≠ [] →
    (bit (b.groupAt g).cec (byteAt data 0 % 16) = true →
      exec (.cecRx g data) s = .next (w.out (.pin 4 g (byteAt data 0 % 16)))) ∧
    (bit (b.groupAt g).cec (byteAt data 0 % 16) = false → exec (.cecRx g data) s = .next w)) ∧
  (∀ (s : State) (g : Fin 4) (depth : Nat) (ids : List (List Byte)), let b := s.begin
    b.alive = true → b.rd Dict.GROUP_PORT_HDCP_STATE g = 1 → b.rd Dict.KEY_STORE_HDCP_STATE = 1 →
    (ids.length ≤ 31 → depth ≤ 4 → exec (.hdcpAuthenticated g depth ids) s = .next
      (((b.putGroup g { b.groupAt g with devices := ids.length, hdcpDown := ids, depth := depth }).wr Dict.GROUP_PORT_HDCP_STATE 2
        g).raise Event.HDCP_AUTHENTICATED (0x400 + g) ids.length).tellUpstream) ∧
    (31 < ids.length ∨ 4 < depth → exec (.hdcpAuthenticated g depth ids) s = .next b)) ∧
  (∀ (s : State) (g : Fin 4) (depth : Nat) (ids : List (List Byte)),
    s.begin.rd Dict.KEY_STORE_HDCP_STATE ≠ 1 → exec (.hdcpAuthenticated g depth ids) s = .next s.begin) ∧
  (∀ (s : State) (g : Fin 4) (st : Nat), let b := s.begin; let v := b.rd Dict.GROUP_PORT_HDCP_STATE g
    b.alive = true → (v = 1 ∨ v = 2) → exec (.hdcpFailed g st) s = .next
      (((b.putGroup g { b.groupAt g with devices := 0, hdcpDown := [], depth := 0 }).wr Dict.GROUP_PORT_HDCP_STATE 3 g).raise
        Event.HDCP_FAILED (0x400 + g) st).tellUpstream) ∧
  (∀ (s : State) (g : Fin 4) (rate : Nat), let b := s.begin; let r := min rate (b.rd Dict.GROUP_PORT_MAX_RATE g)
    b.alive = true → b.rd Dict.GROUP_PORT_STATE g = 1 → b.rd Dict.GROUP_PORT_MODE g ≤ 4 →
    exec (.dlinkTrainFail g rate) s = .next
      ((b.putGroup g { b.groupAt g with lastRate := r }).raise Event.DLINK_TRAIN_FAIL (0x400 + g) (r / 1000)))

/-- R79, R81 to R83, R86, R90, R92, R116, R404: PCIe and the management interfaces. A BAR2 access that starts in the
host surface region and runs past its end is taken whole as one elsewhere (the model's choice, log 59). Where the
rules leave a point open it takes the model's reading of logs 5, 44, 59 and 69. -/
def Obligations.PcieAndManagementLinks : Prop :=
  (∀ (s : State) (speed width : Fin 5), let b := s.begin; let v := min (speed.val + 1) (b.rd Dict.PCIE_TARGET_SPEED)
    b.alive = true → exec (.pcieLinkUp speed width) s = .next
      ((((b.wr Dict.PCIE_LINK_STATE 2).wr Dict.PCIE_LINK_SPEED v).wr Dict.PCIE_LINK_WIDTH (2 ^ width.val)).judgeHosts.raise
        Event.PCIE_LINK_UP 0x500 (v * 256 + 2 ^ width.val))) ∧
  (∀ (s : State) (ltssm : Nat), let b := s.begin; let w := ((b.wr Dict.PCIE_LINK_STATE 0).wr Dict.PCIE_LINK_SPEED 0).wr Dict.PCIE_LINK_WIDTH 0
    b.alive = true → b.rd Dict.PCIE_LINK_STATE = 2 →
    exec (.pcieLinkDown ltssm) s = .next ((w.judgeHosts.raise Event.PCIE_LINK_DOWN 0x500 ltssm).dropRights 3 3)) ∧
  (∀ (s : State) (n : Nat),
    s.judgeHost n = s.wr Dict.HOST_SOURCE_HEALTH (if s.rd Dict.HOST_SOURCE_ENABLE n = 0 then 0
      else if s.rd Dict.PCIE_LINK_STATE = 2 ∧ (s.hostAt n).lostChannel = false then 2 else 4) n) ∧
  (∀ (s : State) (status : Nat), s.begin.alive = true →
    exec (.pcieAer true status) s = .next ((s.begin.inc Dict.PCIE_AER_UNCORRECTABLE).raise Event.PCIE_AER 0x500 status) ∧
    exec (.pcieAer false status) s = .next ((s.begin.inc Dict.PCIE_AER_CORRECTABLE).raise Event.PCIE_AER 0x500 status)) ∧
  (∀ (s : State) (offset length : Nat) (data : List Byte), let b := s.begin; let size := b.dramSetting 4 * 1048576
    b.alive = true → b.rd Dict.PCIE_LINK_STATE = 2 → offset < size →
    (size < offset + length → exec (.bar2Access false offset length data) s = .next
      (((b.out (.packet 6 0 (List.replicate length 0xFF))).inc Dict.PCIE_DRAM_WINDOW_FAULTS).raise Event.PCIE_WINDOW_FAULT 0x500
        (offset / 1048576))) ∧
    (size < offset + data.length → exec (.bar2Access true offset length data) s = .next
      ((b.inc Dict.PCIE_DRAM_WINDOW_FAULTS).raise Event.PCIE_WINDOW_FAULT 0x500 (offset / 1048576)))) ∧
  (∀ (s : State) (k : Fin 12) (v : Nat), let b := s.begin.actBy k
    Safety.passesScalar b k Dict.PCIE_TARGET_SPEED 0 0 v →
    exec (.targetSpeedWrite k v) s = .next (Safety.accepted ((b.wr Dict.PCIE_TARGET_SPEED v).out (.pin 5 0 v)) k 0x2260)) ∧
  (∀ (s : State) (k : Fin 2), s.begin.alive = true → bit (s.begin.rd Dict.PCIE_RP_ENABLE) k = true →
    exec (.rpDeviceFound k) s = .next (s.begin.wr Dict.PCIE_RP_STATE 3 0 k)) ∧
  (∀ (s : State) (v : Fin 4), let b := s.begin
    b.alive = true →
    (b.rd Dict.MANAGEMENT_MGMT_SPEED ≠ v → exec (.mgmtLink v) s = .next
      ((b.wr Dict.MANAGEMENT_MGMT_SPEED v).raise Event.MGMT_LINK (0x600 + Config.interfaceNumber 0 % 256) v)) ∧
    (b.rd Dict.MANAGEMENT_MGMT_SPEED = v → exec (.mgmtLink v) s = .next b)) ∧
  (∀ (s : State) (i : Fin 2) (tec : Nat), let b := s.begin
    b.alive = true → b.canState i ≠ 2 →
    exec (.canBusOff i tec) s = .next ((((b.setCanState i 2).putCan i { b.canAt i with offAt := b.now }).raise Event.CAN_BUS_OFF
      (0x600 + i) tec).dropRights i 3)) ∧
  (∀ (s : State) (i : Fin 2) (e : CanCounts), let b := s.begin
    b.alive = true → (b.canState i = 0 ∨ b.canState i = 3) → (128 ≤ e.transmit ∨ 128 ≤ e.receive) →
    exec (.canErrorPassive i e) s = .next ((b.setCanState i 1).raise Event.CAN_ERROR_PASSIVE (0x600 + i) e.transmit)) ∧
  (∀ (s : State) (i : Fin 2) (e : CanCounts), let b := s.begin
    b.alive = true →
    (b.canState i ≠ 2 → e.transmit < 128 → e.receive < 128 → exec (.canErrorPassive i e) s = .next (b.setCanState i 0)) ∧
    (b.canState i = 1 → 128 ≤ e.transmit ∨ 128 ≤ e.receive → exec (.canErrorPassive i e) s = .next b) ∧
    (b.canState i = 2 → b.canRecovers i = true → e.transmit = 0 → e.receive = 0 →
      exec (.canErrorPassive i e) s = .next (b.setCanState i 0)) ∧
    (b.canState i = 2 → b.canRecovers i = false ∨ e.transmit ≠ 0 ∨ e.receive ≠ 0 →
      exec (.canErrorPassive i e) s = .next b)) ∧
  (∀ (s : State) (v : Fin 4),
    (s.setCanState 0 v).canState 0 = v ∧ (s.setCanState 1 v).canState 1 = v ∧
    (s.setCanState 0 v).canState 1 = s.canState 1 ∧ (s.setCanState 1 v).canState 0 = s.canState 0) ∧
  (∀ (s : State) (key v due : Nat), let b := s.begin
    b.alive = true → b.mgmtWait = [(key, v, due)] →
    (due ≤ b.now → exec .mgmtHaltApply s =
      .next (State.tellTiming { b.setReg key v with mgmtWait := [] } [b.canTiming 0, b.canTiming 1])) ∧
    (b.now < due → exec .mgmtHaltApply s = .next b))

/-- R94, R96, R98, R99, R102, R103, R120: video inputs. Where the rules leave a point open it takes the model's
reading of logs 9, 45, 70 and 72. -/
def Obligations.VideoInputs : Prop :=
  (∀ (s : State) (k : Fin 12) (n : Fin 64), let b := s.begin.actBy k
    Safety.passesScalar b k Dict.INPUT_ENABLE n 0 1 →
    (b.flag Dict.INPUT_ENABLE n = true → exec (.inputEnable k n) s = .next (Safety.accepted b k (0x2400 + n))) ∧
    (b.flag Dict.INPUT_ENABLE n = false → b.judgeInput n = none →
      exec (.inputEnable k n) s = .next (Safety.accepted
        ((((b.wr Dict.INPUT_ENABLE 1 n).takeStore n).countMotion).applyInput n) k (0x2400 + n))) ∧
    (∀ r, b.flag Dict.INPUT_ENABLE n = false → b.judgeInput n = some r →
      exec (.inputEnable k n) s = .next (b.refuseWrite k (0x2400 + n) 1 r))) ∧
  (∀ (s : State) (k : Fin 12) (n : Fin 64), let b := s.begin.actBy k
    Safety.passesScalar b k Dict.INPUT_ENABLE n 0 0 →
    (b.flag Dict.INPUT_ENABLE n = true → exec (.inputDisable k n) s = .next (Safety.accepted
      (((b.wr Dict.INPUT_ENABLE 0 n).countMotion).applyInput n) k (0x2400 + n))) ∧
    (b.flag Dict.INPUT_ENABLE n = false → exec (.inputDisable k n) s = .next (Safety.accepted b k (0x2400 + n)))) ∧
  (∀ (s : State) (n : Fin 64) (f : InputFrame), let b := s.begin; let i := b.inputAt n
    let v := (b.wr Dict.INPUT_MEASURED_RATE f.rate n).wr Dict.INPUT_PROTECTED f.isProtected.toNat n
    let w := v.putInput n { i with stepBad := false }
    b.alive = true → 1 ≤ b.rd Dict.INPUT_HEALTH n → b.rd Dict.INPUT_TRANSPORT n < 3 → v.rtpStepBad n f.rtp = false →
    i.damaged = false →
    let p := w.ingested n f.picture
    let z := ((w.bandArrives n (w.storedRaster n).2 p).takeFrame n p i.errorsNow f.rtp).capture (0x100 + n) (w.inputPeriod n) p
    (f.damage = none → exec (.inputFrameEnd n f) s = .next (z.groupFrame (z.groupOfInput n))) ∧
    (∀ line, f.damage = some line →
      let d := (w.damageFrame n line 2).modInput n (fun i => { i with
        damaged := false, bandLines := 0, band := Raster.init, errorsNow := false, gapSeen := false
        lastRtp := f.rtp % 2 ^ 32 + 1 })
      let e := if i.errorsNow = true ∧ d.rd Dict.INPUT_HEALTH n = 2 then d.degrade n true false else d
      exec (.inputFrameEnd n f) s = .next (e.groupFrame (e.groupOfInput n)))) ∧
  (∀ (s : State) (n line cause : Nat), s.frameDamaged n = false →
    s.damageFrame n line cause = (((s.putInput n { s.inputAt n with
      damaged := true, damagedLine := line, damagedAt := s.timebase, cause := cause, nextFrame := (s.inputAt n).nextFrame + 1, sawFrame := true
      intact := 0, clean := 0 }).inc Dict.INPUT_FRAMES_DAMAGED n).raise Event.INPUT_FRAME_DAMAGED (0x100 + n) line).bandBreaks n line) ∧
  (∀ (s : State) (n : Fin 64) (m : Nat), let b := s.begin; let i := b.inputAt n
    b.alive = true → 1 ≤ b.rd Dict.INPUT_HEALTH n → i.lastIntactAt + b.inputPeriod n ≤ b.timebase → i.missing = m →
    let w := (b.putInput n { i with
      missing := m + 1, intact := 0, clean := 0, sawFrame := false
      nextFrame := if i.sawFrame then i.nextFrame else i.nextFrame + 1
      lastIntactAt := i.lastIntactAt + b.inputPeriod n }).inc Dict.INPUT_FRAMES_MISSING n
    ((b.rd Dict.INPUT_HEALTH n = 2 ∨ b.rd Dict.INPUT_HEALTH n = 3) → 1 ≤ m →
      exec (.inputMissingFrame n) s = .next (w.loseInput n)) ∧
    ((b.rd Dict.INPUT_HEALTH n ≠ 2 ∧ b.rd Dict.INPUT_HEALTH n ≠ 3) ∨ m = 0 → exec (.inputMissingFrame n) s = .next w)) ∧
  (∀ (s : State) (n : Nat), let cause := if (s.inputAt n).cause ≠ 0 then (s.inputAt n).cause else if 3 ≤ s.rd Dict.INPUT_TRANSPORT n then 1 else 4
    s.loseInput n = ((s.putInput n { s.inputAt n with intact := 0, clean := 0, carried := none }).setHealth n 4).raise
      Event.INPUT_LOST (0x100 + n) cause) ∧
  (∀ (s : State) (n : Fin 64) (line : Nat), let b := s.begin
    b.alive = true → 1 ≤ b.rd Dict.INPUT_HEALTH n →
    (3 ≤ b.rd Dict.INPUT_TRANSPORT n → exec (.inputSignalLoss n line) s = .next (b.damageFrame n line 1)) ∧
    (b.rd Dict.INPUT_TRANSPORT n < 3 → exec (.inputSignalLoss n line) s = .next b)) ∧
  (∀ (s : State) (n : Fin 64) (path : Fin 2) (line : Nat), let b := s.begin; let st := b.rd Dict.INPUT_PATH_STATE n
    let t := (b.inputAt n).pathTime path; let w := b.wr Dict.INPUT_PATH_STATE (putBit st path false) n
    b.alive = true → 1 ≤ b.rd Dict.INPUT_HEALTH n → bit st path = true → t ≠ 0 →
    (t - 1 + b.rd Dict.INPUT_GAP_TIMEOUT n * 1000 ≤ b.now → b.rd Dict.INPUT_PORT_B n = 0xFF →
      exec (.inputGapTimeout n path line) s = .next ((w.damageFrame n line 4).modInput n (fun i => { i with
        packets := [], nextSeq := 0, buffer := [], lines := 0, gapSeen := true }))) ∧
    (b.now < t - 1 + b.rd Dict.INPUT_GAP_TIMEOUT n * 1000 → exec (.inputGapTimeout n path line) s = .next b)) ∧
  (∀ (s : State) (n : Fin 64) (m : List Byte), let b := s.begin
    b.alive = true → b.rd Dict.INPUT_HEALTH n = 4 → 
    (b.rd Dict.INPUT_TRANSPORT n ≤ 2 ∧ (b.inputAt n).stepBad = false ∨
      3 ≤ b.rd Dict.INPUT_TRANSPORT n ∧ b.formatDiffers n m = false) →
    exec (.inputSignalDetected n m) s = .next
      (((b.putInput n { b.inputAt n with
        intact := 0, clean := 0, missing := 0, damaged := false, cause := 0, lastRtp := 0, lastIntactAt := b.timebase
        carried := none }).setHealth n 1).raise Event.INPUT_ACQUIRING (0x100 + n) 4)) ∧
  (∀ (s : State) (n : Fin 64) (p : RtpPacket), let b := s.begin; let st := b.rd Dict.INPUT_PATH_STATE n
    let w := ((b.inc Dict.PORT_RX_FRAMES p.port).wr Dict.INPUT_PATH_STATE (putBit st 0 true) n).modInput n (fun i =>
      { i with pathAt := Store.write (fun _ => 0) i.pathAt 0 (b.now + 1) })
    let i := w.inputAt n; let seq := p.seq % 65536
    b.alive = true → 1 ≤ b.rd Dict.INPUT_HEALTH n → p.port < 48 → 2 ≤ b.rd Dict.PORT_STATE p.port → b.pathOf n p = some 0 →
    b.rd Dict.INPUT_PORT_B n = 0xFF →
    exec (.inputPacketRx n p) s = .next (if w.bufferOverflows n p = true then w else w.bufferPacket n p) ∧
    (w.bufferOverflows n p = false → i.buffer = [] → i.late seq = false →
      (i.nextSeq = seq + 1 ∨ i.nextSeq = 0 → exec (.inputPacketRx n p) s =
        .next (w.putInput n { i with nextSeq := (seq + 1) % 65536 + 1, lines := p.lines })) ∧
      (i.nextSeq ≠ seq + 1 → i.nextSeq ≠ 0 → let u := w.putInput n { i with buffer := [(seq, b.now, p.lines)] }
        exec (.inputPacketRx n p) s = .next (if Config.receiveBuffer (w.rd Dict.INPUT_RX_TIMING n) = 0 then u.closeGap n else u))) ∧
    (w.bufferOverflows n p = false → i.late seq = true → exec (.inputPacketRx n p) s = .next w)) ∧
  (∀ (s : State) (n : Fin 64) (p : RtpPacket), s.begin.pathOf n p = none → exec (.inputPacketRx n p) s = .next s.begin)

/-- R113 to R116, R121: host surfaces and their flips. Where the rules leave a point open it takes the model's reading
of logs 21, 45 and 70. -/
def Obligations.HostSurfaces : Prop :=
  (∀ (s : State) (k : Fin 12) (n : Fin 32), let b := s.begin.actBy k
    let units := if b.rd Dict.HOST_SOURCE_LOCATION n = 0 then 0 else units2M (2 * b.hostBytesOf n)
    Safety.passesScalar b k Dict.HOST_SOURCE_ENABLE n 0 1 → b.flag Dict.HOST_SOURCE_ENABLE n = false →
    (b.judgeSurface n = none → exec (.hostSourceEnable k n) s = .next (Safety.accepted
      ((((b.wr Dict.HOST_SOURCE_ENABLE 1 n).takePool (poolHost n) units).judgeHost n).tellAspm b.aspmL1) k (0x2440 + n))) ∧
    (∀ r, b.judgeSurface n = some r → exec (.hostSourceEnable k n) s = .next (b.refuseWrite k (0x2440 + n) 1 r))) ∧
  (∀ (b : State) (n : Nat), b.rd Dict.HOST_SOURCE_STRIDE n % 64 ≠ 0 →
    b.judgeSurface n = some (.atField 0x12 (0x2440 + n) 6)) ∧
  (∀ (s : State) (k : Fin 12) (n : Fin 32), let b := s.begin.actBy k
    Safety.passesScalar b k Dict.HOST_SOURCE_ENABLE n 0 0 →
    exec (.hostSourceDisable k n) s = .next (Safety.accepted
      ((((((b.wr Dict.HOST_SOURCE_ENABLE 0 n).takePool (poolHost n) 0).wr Dict.HOST_SOURCE_FLIP_STATE 0 n).putHost n
        { HostSurf.init with releases := (b.hostAt n).releases }).judgeHost n).tellAspm b.aspmL1) k (0x2440 + n))) ∧
  (∀ (s : State) (k : Fin 12) (n : Fin 32) (v : Nat), let b := s.begin.actBy k; let h := b.hostAt n
    Safety.passesScalar b k Dict.HOST_SOURCE_FLIP n 0 v →
    (b.rd Dict.HOST_SOURCE_FLIP_STATE n ≠ 0 →
      exec (.flip k n v) s = .next (b.refuseWrite k (0x2440 + n) 0x0C (.atField 0x12 (0x2440 + n) 0x0E))) ∧
    (b.rd Dict.HOST_SOURCE_FLIP_STATE n = 0 → b.rd Dict.HOST_SOURCE_FRONT n = v →
      exec (.flip k n v) s = .next (b.refuseWrite k (0x2440 + n) 0x0C (.atField 0x12 (0x2440 + n) 0x0D))) ∧
    (b.rd Dict.HOST_SOURCE_FLIP_STATE n = 0 → b.rd Dict.HOST_SOURCE_FRONT n ≠ v →
      (b.rd Dict.HOST_SOURCE_LOCATION n = 0 → exec (.flip k n v) s = .next (Safety.accepted
        ((b.putHost n { h with want := v, ready := true, latches := 0 }).wr Dict.HOST_SOURCE_FLIP_STATE 1 n) k (0x2440 + n))) ∧
      (b.rd Dict.HOST_SOURCE_LOCATION n = 1 → exec (.flip k n v) s = .next (Safety.accepted
        ((b.putHost n { h with want := v, ready := false, latches := 0 }).wr Dict.HOST_SOURCE_FLIP_STATE 2 n) k (0x2440 + n))))) ∧
  (∀ (s : State) (n : Fin 32) (data : List Byte), let b := s.begin; let h := b.hostAt n; let d := data.take (b.hostBytesOf n)
    b.alive = true → b.rd Dict.HOST_SOURCE_FLIP_STATE n = 2 →
    (h.want = 0 → exec (.hostFetchComplete n data) s = .next
      ((b.putHost n { h with ready := true, copy0 := d }).wr Dict.HOST_SOURCE_FLIP_STATE 1 n)) ∧
    (h.want ≠ 0 → exec (.hostFetchComplete n data) s = .next
      ((b.putHost n { h with ready := true, copy1 := d }).wr Dict.HOST_SOURCE_FLIP_STATE 1 n))) ∧
  (∀ (s : State) (n : Fin 32) (status : Nat), let b := s.begin
    b.alive = true → b.rd Dict.HOST_SOURCE_FLIP_STATE n = 2 →
    exec (.hostFetchFault n status) s = .next
      ((b.wr Dict.HOST_SOURCE_FLIP_STATE 0 n).raise Event.HOST_FETCH_FAULT (0x200 + n) status)) ∧
  (∀ (s : State) (n : Fin 32), let b := s.begin; let h := b.hostAt n
    ∀ x readers rest, b.alive = true → h.releases = (x, readers) :: rest →
    (readers.any b.readsOld = false → exec (.hostReleased n) s = .next
      ((((b.putHost n { h with releases := rest }).inc Dict.HOST_SOURCE_RELEASE_COUNT n).fire
        (b.rd Dict.HOST_SOURCE_MSIX_VECTOR n)).raise Event.HOST_RELEASED (0x200 + n) x)) ∧
    (readers.any b.readsOld = true → exec (.hostReleased n) s = .next b)) ∧
  (∀ (s : State) (n : Fin 32), (s.begin.hostAt n).releases = [] → exec (.hostReleased n) s = .next s.begin)

/-- R117 to R119, R122, R355, R369: pocket players. Where the rules leave a point open it takes the model's reading of
logs 29, 45 and 63. -/
def Obligations.PocketPlayers : Prop :=
  (∀ (s : State) (k : Fin 12) (n : Fin 32), let b := s.begin.actBy k; let w := b.wr Dict.POCKET_PLAYER_ENABLE 1 n
    Safety.passesScalar b k Dict.POCKET_PLAYER_ENABLE n 0 1 →
    (w.ftgLatches (w.rd Dict.POCKET_PLAYER_FTG n) = true ∨ (b.playerAt n).on = true →
      exec (.pocketPlayerEnable k n) s = .next (Safety.accepted w k (0x2460 + n))) ∧
    (w.ftgLatches (w.rd Dict.POCKET_PLAYER_FTG n) = false → (b.playerAt n).on = false →
      exec (.pocketPlayerEnable k n) s = .next (Safety.accepted ((w.putPlayer n { b.playerAt n with on := true }).judgePlayer n)
        k (0x2460 + n)))) ∧
  (∀ (s : State) (k : Fin 12) (n : Fin 32), let b := s.begin.actBy k; let w := b.wr Dict.POCKET_PLAYER_ENABLE 0 n
    Safety.passesScalar b k Dict.POCKET_PLAYER_ENABLE n 0 0 →
    (w.ftgLatches (w.rd Dict.POCKET_PLAYER_FTG n) = true →
      exec (.pocketPlayerDisable k n) s = .next (Safety.accepted w k (0x2460 + n))) ∧
    (w.ftgLatches (w.rd Dict.POCKET_PLAYER_FTG n) = false → (b.playerAt n).on = true →
      ∃ t, exec (.pocketPlayerDisable k n) s = .next (Safety.accepted t k (0x2460 + n)) ∧
        t.rd Dict.POCKET_PLAYER_ENABLE n = 0 ∧ t.rd Dict.POCKET_PLAYER_PLAY_STATE n = 0 ∧
        t.rd Dict.POCKET_PLAYER_HEALTH n = 0 ∧ t.playerAt n = Player.init ∧ t.poolAt (poolPlayer n) = 0)) ∧
  (∀ (s : State) (n : Nat), let drive := (s.playerClip n).state == 0 || s.rd Dict.POCKET_DRIVE_STATE 0 (s.playerClip n).drive == 2
    s.judgePlayer n = s.wr Dict.POCKET_PLAYER_HEALTH
      (if (s.playerAt n).on = false then 0
       else if s.flag Dict.POCKET_ENABLE ∧ drive ∧ !(s.playerAt n).readFault then 2 else 4) n) ∧
  (∀ (s : State) (k : Fin 12) (n : Fin 32), let b := s.begin.actBy k; let p := b.playerAt n
    (Safety.passesScalar b k Dict.POCKET_PLAYER_TRANSPORT n 0 0 → exec (.pocketStop k n) s = .next (Safety.accepted
      ((b.wr Dict.POCKET_PLAYER_TRANSPORT 0 n).putPlayer n { p with request := 0 }) k (0x2460 + n))) ∧
    (Safety.passesScalar b k Dict.POCKET_PLAYER_TRANSPORT n 0 4 → exec (.pocketPause k n) s = .next (Safety.accepted
      ((b.wr Dict.POCKET_PLAYER_TRANSPORT 4 n).putPlayer n { p with request := 4 }) k (0x2460 + n)))) ∧
  (∀ (s : State) (k : Fin 12) (n : Fin 32), let b := s.begin.actBy k; let p := b.playerAt n
    let taken (v : Nat) := (((b.wr Dict.POCKET_PLAYER_TRANSPORT v n).takePool (poolPlayer n) (b.prefetchUnits n)).putPlayer n
      { p with request := v, askedBase := 0, readFault := false }).judgePlayer n
    b.playRefused n = none →
    (Safety.passesScalar b k Dict.POCKET_PLAYER_TRANSPORT n 0 1 →
      exec (.pocketCue k n) s = .next (Safety.accepted (taken 1) k (0x2460 + n))) ∧
    (Safety.passesScalar b k Dict.POCKET_PLAYER_TRANSPORT n 0 2 →
      exec (.pocketPlay k n) s = .next (Safety.accepted (taken 2) k (0x2460 + n))) ∧
    (Safety.passesScalar b k Dict.POCKET_PLAYER_TRANSPORT n 0 3 →
      exec (.pocketLoop k n) s = .next (Safety.accepted (taken 3) k (0x2460 + n)))) ∧
  (∀ (s : State) (k : Fin 12) (n : Fin 32), let b := s.begin.actBy k; let clip := b.askedClip n
    overBudget (b.rd Dict.POCKET_READ_BUDGET 0 clip.drive) (addRate (b.readClaim n clip.drive) clip.rateBytes) = true →
    (Safety.passesScalar b k Dict.POCKET_PLAYER_TRANSPORT n 0 1 →
      exec (.pocketCue k n) s = .next (b.refuseWrite k (0x2460 + n) 3 (.rule 0x81))) ∧
    (Safety.passesScalar b k Dict.POCKET_PLAYER_TRANSPORT n 0 2 →
      exec (.pocketPlay k n) s = .next (b.refuseWrite k (0x2460 + n) 3 (.rule 0x81))) ∧
    (Safety.passesScalar b k Dict.POCKET_PLAYER_TRANSPORT n 0 3 →
      exec (.pocketLoop k n) s = .next (b.refuseWrite k (0x2460 + n) 3 (.rule 0x81)))) ∧
  (∀ (s : State) (n : Fin 32) (frame : Nat) (p : Picture) (audio : List Int), let b := s.begin; let a := b.playerAt n
    let r := b.readBlocks (b.playerClip n) frame
    b.alive = true → b.rd Dict.POCKET_PLAYER_HEALTH n = 2 → b.rd Dict.POCKET_PLAYER_PLAY_STATE n = 1 →
    frame < (b.playerClip n).frames → b.aheadOf n frame a.startFrame = true → a.held.any (fun e => e.1 == frame) = false →
    exec (.pocketPrefetchComplete n frame p audio true) s = .next
      (r.putPlayer n { a with held := a.held ++ [(frame, Raster.ofCodes (b.playerClip n).format p, audio)] }) ∧
    exec (.pocketPrefetchComplete n frame p audio false) s = .next
      (((r.putPlayer n { a with readFault := true, held := [] }).judgePlayer n).raise Event.POCKET_READ_FAULT (0x300 + n)
        (b.playerClip n).drive)) ∧
  (∀ (s : State) (c : Clip) (frame : Nat), (s.readBlocks c frame).wire =
    s.wire ++ (c.place (frame * c.frameBlocks) c.frameBlocks).map (fun e => .nvme c.drive (.read e.1 e.2)))

/-- R127, R130, R138: commits are received with a copy of their shadows, and discarded. Where the rules leave a point
open it takes the model's reading of logs 41 and 72. -/
def Obligations.CommitReceipt : Prop :=
  (∀ (s : State) (k : Fin 12) (h : Fin 32), let b := s.begin.actBy k
    Safety.passesScalar b k Dict.HEAD_COMMIT_COMMIT h 0 1 →
    exec (.headCommit k h) s = .next (b.queueCommit (b.receive 1 h k (2 ^ h.val) 0 0xFF false none))) ∧
  (∀ (s : State) (k : Fin 12) (c : Fin 8), let b := s.begin.actBy k
    Safety.passesScalar b k Dict.CANVAS_COMMIT_COMMIT c 0 1 →
    exec (.canvasCommit k c) s = .next (b.queueCommit (b.receive 2 c k 0 (2 ^ c.val) 0xFF false none))) ∧
  (∀ (s : State) (k : Fin 12), let b := s.begin.actBy k
    Safety.passesScalar b k Dict.STITCH_GROUP_COMMIT 0 0 1 →
    exec (.stitchGroupCommit k) s = .next (b.queueCommit
      (b.receive 3 0 k (b.rd Dict.STITCH_GROUP_HEAD_MASK) (b.rd Dict.STITCH_GROUP_CANVAS_MASK) 0xFF true none))) ∧
  (∀ (s : State) (m : Commit), (s.queueCommit m).validating = s.validating ++ [m] ∧
    (s.queueCommit m).pendingCommits = s.pendingCommits ∧ (s.queueCommit m).shadow = s.shadow ∧ (s.queueCommit m).doms = s.doms) ∧
  (∀ (s : State) (h k : Nat), s.deferredWrites = [] →
    let m := s.receive 1 h k (2 ^ h) 0 0xFF false none
    m.receipt = s.timebase ∧ m.sess = k ∧ m.heads = 2 ^ h ∧ m.canvases = 0 ∧
    m.vals = (s.scopeKeys 1 h).map (fun i => (i, Store.read dictDefault s.shadow i)) ∧
    m.doms = (s.scopeDoms 1 h).map (fun i => (i, Store.read domDefault s.shadowDoms i))) ∧
  (∀ (s : State) (k : Fin 12) (c : Fin 8), let b := s.begin.actBy k
    Safety.passesScalar b k Dict.CANVAS_COMMIT_COMMIT c 0 2 →
    ∃ t, exec (.commitDiscard k ⟨c + 32, by omega⟩) s = .next (Safety.accepted t k (0x2860 + c)) ∧ t.regs = b.regs ∧ t.doms = b.doms ∧
      (∀ i ∈ b.scopeKeys 2 c, Store.read dictDefault t.shadow i = b.regAt i)) ∧
  (∀ (s : State) (k : Fin 12) (h : Fin 32), let b := s.begin.actBy k
    Safety.passesScalar b k Dict.HEAD_COMMIT_COMMIT h 0 2 →
    ∃ t, exec (.commitDiscard k ⟨h, by omega⟩) s = .next (Safety.accepted t k (0x2C40 + h)) ∧ t.regs = b.regs ∧ t.doms = b.doms ∧
      (∀ i ∈ b.scopeKeys 1 h, Store.read dictDefault t.shadow i = b.regAt i))

/-- R131, R132, R232, R308: latches lie on grids, and the first one after an instant is the next of its grid. Where
the rules leave a point open it takes the model's reading of logs 41 and 67. -/
def Obligations.LatchesAreNext : Prop :=
  (∀ (s : State) (f t : Nat), t ≤ s.ftgNext f t ∧
    ∀ i, t ≤ gridAt (s.ftgNum f) (s.ftgDen f) (s.rd Dict.FTG_OFFSET f) i →
      s.ftgNext f t ≤ gridAt (s.ftgNum f) (s.ftgDen f) (s.rd Dict.FTG_OFFSET f) i) ∧
  (∀ (s : State) (h t : Nat), t ≤ s.headNext h t ∧
    ∀ i, t ≤ gridAt (s.headNum h) (s.headDen h) (s.headOffset h) i →
      s.headNext h t ≤ gridAt (s.headNum h) (s.headDen h) (s.headOffset h) i) ∧
  (∀ (s : State) (h t : Nat), t < s.scopeLatch 1 h t) ∧
  (∀ (s : State) (c t : Nat), t < s.scopeLatch 2 c t) ∧
  (∀ (s : State) (h t i : Nat), s.headRate h = 1 →
    t < gridAt (s.headNum h) (s.headDen h) (s.headOffset h + s.flipOffset h) i →
    s.scopeLatch 1 h t ≤ gridAt (s.headNum h) (s.headDen h) (s.headOffset h + s.flipOffset h) i) ∧
  (∀ (s : State) (c t t' : Nat), s.leadHead c = none → t ≤ t' → s.scopeLatch 2 c t ≤ s.scopeLatch 2 c t')

/-- R132, R134 to R136, R138: the validation of a commit ends. Where the rules leave a point open it takes the model's
reading of logs 41 and 72. -/
def Obligations.CommitAcknowledged : Prop :=
  (∀ (s : State) (m : Commit) (rest : List Commit) (r : Refuse), let b := s.begin
    let u := { b.actBy m.sess with validating := rest }; let n := { m with ack := b.timebase }
    b.dictUp = true → b.validating = m :: rest → u.judgeCommit n = some r →
    exec .commitAcknowledged s = .next (((u.refuseCommit n r).actBy 0xFF).applyDeferred).commitStates) ∧
  (∀ (s : State) (m : Commit) (r : Refuse), m.kind = 1 → m.udpSess = 0xFF → m.retime = none →
    s.refuseCommit m r = ((((s.inc Dict.HEAD_COMMIT_REFUSED_COUNT m.num).raiseBy m.sess Event.COMMIT_REFUSED (0x100 + m.num)
      (r.detail * 65536 + r.fieldIndex % 65536)).noteRefusal m.sess (0x2C40 + m.num) 1 r).abort m.sess (0x2C40 + m.num) r)) ∧
  (∀ (s : State) (m : Commit), m.grouped = true → m.members = [] →
    s.judgeCommit m = some (.field 0x17 Dict.STITCH_GROUP_HEAD_MASK)) ∧
  (∀ (s : State) (m : Commit), m.members ≠ [] → m.members.any (fun x => s.groupPending x.1 x.2) = true →
    s.judgeCommit m = some (.atField 0x18 m.entry.1 m.entry.2)) ∧
  (∀ (s : State) (m : Commit) (rest : List Commit), let b := s.begin
    let u := { b.actBy m.sess with validating := rest }; let n := { m with ack := b.timebase }
    b.dictUp = true → b.validating = m :: rest → u.judgeCommit n = none → m.kind = 1 → m.canvases = 0 → m.udpSess = 0xFF →
    exec .commitAcknowledged s = .next
      (((((allCanvases.foldl State.takeWriteBack (u.acceptSingle n).takeBuffers).raiseTargets.inUse.respond m.sess n.entry.1
        n.answer false).actBy 0xFF).applyDeferred).commitStates)) ∧
  (∀ (s : State) (m : Commit), let k := m.kind; let n := m.num
    m.retime = none →
    (s.scopeRuns k n = false → s.acceptSingle m = (s.pend m k n s.timebase s.timebase).landPending k n) ∧
    (s.scopeRuns k n = true → let aim := s.scopeLatch k n m.receipt; let land := s.scopeLatch k n m.ack
      (land ≤ aim → s.acceptSingle m = s.pend m k n aim land) ∧
      (aim < land → k = 1 → s.acceptSingle m = ((s.pend m k n aim land).inc Dict.HEAD_COMMIT_LATE_COUNT n).raise Event.LATE_COMMIT
        (k * 256 + n) (((s.pend m k n aim land).inc Dict.HEAD_COMMIT_LATE_COUNT n).latchesBetween k n aim land)))) ∧
  (∀ (s : State) (old : Commit) (h : Nat), s.pendingCommits.find? (fun e => e.1 == 64 + h) = some (64 + h, old) →
    s.supersede 1 h = (s.inc Dict.HEAD_COMMIT_SUPERSEDED_COUNT h).raise Event.COMMIT_SUPERSEDED (0x100 + h) (old.receipt % 1000000000)) ∧
  (∀ (s : State), s.begin.validating = [] → exec .commitAcknowledged s = .next s.begin)

/-- R146 to R154: the route table, switches and forwarding of flows. Where the rules leave a point open it takes the
model's reading of logs 45 and 70. -/
def Obligations.RoutesAndSwitches : Prop :=
  (∀ (s : State) (k : Fin 12) (data : List Byte), let b := s.begin.actBy k
    let w := b.window k Dict.ROUTE_CONTROL_TABLE_WINDOW; let entries := chunks 32 data.length data
    let t := putEntries State.writeRoute b w entries
    Safety.passes b k Dict.ROUTE_TABLE_DATA 0 0 data →
    (firstBad (b.judgeRoute t) w entries = none → exec (.routeTableWrite k data) s = .next (Safety.accepted t k 0x2500)) ∧
    (∀ r, firstBad (b.judgeRoute t) w entries = some r → exec (.routeTableWrite k data) s = .next (b.refuseWrite k 0x2500 1 r))) ∧
  (∀ (s t : State) (k : Nat) (e : List Byte), s.routeActive k = true → s.judgeRoute t k e = some (.tableEntry 0x20 k)) ∧
  (∀ (s t : State) (k : Nat) (e : List Byte), s.routeActive k = false → (Route.ofBytes e).valid = true → (Route.ofBytes e).inRange = true →
    (t.routes.any (fun x => x.1 != k && (Route.ofBytes x.2).same (Route.ofBytes e)) = true → s.judgeRoute t k e = some (.tableEntry 0x23 k)) ∧
    (t.routes.any (fun x => x.1 != k && (Route.ofBytes x.2).same (Route.ofBytes e)) = false →
      s.judgeRoute t k e = if s.protectedFlow (Route.ofBytes e) = true then some (.tableEntry 0x16 k) else none)) ∧
  (∀ (s : State) (k : Fin 12) (v : Nat), let b := s.begin.actBy k
    let o := b.rd Dict.ROUTE_CONTROL_SWITCH_OUTPUT; let i := b.rd Dict.ROUTE_CONTROL_SWITCH_ENTRY
    let at_ := b.rd Dict.ROUTE_CONTROL_SWITCH_AT_S * 1000000000 + b.rd Dict.ROUTE_CONTROL_SWITCH_AT_NS
    Safety.passesScalar b k Dict.ROUTE_CONTROL_SWITCH 0 0 v →
    (b.judgeSwitch o i = none → exec (.switch k v) s = .next (Safety.accepted
      ({ b with switches := Store.put (Store.erase b.switches o) o ⟨i, at_, k, b.timebase,
        b.rd Dict.ROUTE_CONTROL_WINDOW_LINES⟩ }.countRoutes) k 0x2501)) ∧
    (∀ r, b.judgeSwitch o i = some r → exec (.switch k v) s = .next ((b.raiseBy k Event.ROUTE_REFUSED (5 * 65536 + o)
      (r.detail * 65536 + i)).refuseWrite k 0x2501 6 { r with ownEvent := true }))) ∧
  (∀ (s : State) (o k : Nat), k ≠ 0xFFFF → ((s.route k).valid = false ∨ (s.route k).output ≠ o) →
    s.judgeSwitch o k = some (.atField 0x24 0x2501 3)) ∧
  (∀ (s : State) (o : Fin 8192) (q : SwitchReq), let b := s.begin; let old := b.activeAt o
    b.alive = true → b.switchOf o = some q → q.at_ ≤ b.timebase → q.entry ≠ 0xFFFF →
    ((b.route q.entry).kind = 1 ∨ (b.route q.entry).kind = 5) →
    (old ≠ 0xFFFF → cleanSwitch q.window (b.flowAt old) (b.flowAt q.entry) = true →
      exec (.routeSwitched o) s = .next (((b.takeEntry o q.entry).inc Dict.ROUTE_CONTROL_CLEAN_SWITCHES).raise
        Event.ROUTE_SWITCHED (5 * 65536 + o) q.entry) ∧ exec (.roughSwitch o) s = .next b) ∧
    ((old = 0xFFFF ∨ cleanSwitch q.window (b.flowAt old) (b.flowAt q.entry) = false) →
      exec (.roughSwitch o) s = .next (((b.takeEntry o q.entry).inc Dict.ROUTE_CONTROL_ROUGH_SWITCHES).raise
        Event.ROUGH_SWITCH (5 * 65536 + o) (q.entry * 65536 + min 65535 (phaseLines (b.flowAt old) (b.flowAt q.entry)))) ∧
      exec (.routeSwitched o) s = .next b)) ∧
  (∀ (s : State) (o : Fin 8192) (m : Nat) (q : SwitchReq), let b := s.begin
    b.alive = true → b.switchOf o = some q → q.entry ≠ 0xFFFF → 2 ≤ (b.route q.entry).kind → (b.route q.entry).kind ≤ 4 →
    (b.route q.entry).follow = 0xFFFF → q.at_ ≤ b.timebase →
    exec (.followSwitch o m) s = .next ((b.takeEntry o q.entry).raise Event.ROUTE_SWITCHED (5 * 65536 + o) q.entry)) ∧
  (∀ (s : State) (o k : Nat), (s.takeEntry o k).activeAt o = k ∧ (s.takeEntry o k).switchOf o = none ∧
    (∀ p, p ≠ o → (s.takeEntry o k).activeAt p = s.activeAt p) ∧
    (k < 16384 → (s.route k).output = o → (s.takeEntry o k).routeActive k = true →
      (s.takeEntry o k).forwards k true = true ∧
      ((s.route k).kind = 1 ∨ (s.route k).kind = 5 → (s.takeEntry o k).forwards k false = false))) ∧
  (∀ (s : State) (p : Fin 48) (dest source udp seq : Nat) (start : Bool) (lines full : Nat) (payload : List Byte) (k : Nat),
    let b := s.begin; let seen := (b.inc Dict.PORT_RX_FRAMES p).observe k start lines
    b.alive = true → (b.rd Dict.PORT_STATE p = 2 ∨ b.rd Dict.PORT_STATE p = 3) → b.matchRoute p dest source udp = some k →
    (seen.forwards k start = true → exec (.flowPacketForward p dest source udp seq start lines full payload) s = .next
      (seen.sendRouted (seen.route k) seq full payload)) ∧
    (seen.forwards k start = false → exec (.flowPacketForward p dest source udp seq start lines full payload) s = .next seen)) ∧
  (∀ (s : State) (k : Fin 16384), let b := s.begin; let f := b.flowAt k
    b.alive = true → b.routeActive k = true → f.lost = false →
    (f.lastPacket - 1 + 100000000 ≤ b.now → exec (.routeFlowLost k) s = .next
      ((b.putFlow k { f with lost := true }).raise Event.ROUTE_FLOW_LOST (5 * 65536 + (b.route k).output) k)) ∧
    (b.now < f.lastPacket - 1 + 100000000 → exec (.routeFlowLost k) s = .next b)) ∧
  (∀ (s : State) (k : Fin 12) (p : Fin 48) (v : Nat), let b := s.begin.actBy k; let rate := b.routedRate 8192 16384 p
    Safety.passesScalar b k Dict.ROUTE_CONTROL_RESERVE 0 p v →
    (b.pixelOver p v = false → rate = 0 ∨ b.routesOver p v rate = false →
      exec (.reserveWrite k p v) s = .next (Safety.accepted (b.wr Dict.ROUTE_CONTROL_RESERVE v 0 p) k 0x2501)) ∧
    (b.pixelOver p v = true → exec (.reserveWrite k p v) s = .next (b.refuseWrite k 0x2501 (0x20 + p) (.rule 0x21))))

/-- R168, R169, R182 to R184, R189, R191: coefficient banks, LUTs, motion estimation and engine counters. Where the
rules leave a point open it takes the model's reading of logs 13, 34, 61, 62 and 65. -/
def Obligations.TablesAndMotion : Prop :=
  (∀ (s : State) (k : Fin 12) (data : List Byte), let b := s.begin.actBy k; let n := b.window k Dict.COEFF_BANKS_BANK_WINDOW
    Safety.passes b k Dict.COEFF_BANKS_BANK_DATA 0 0 data →
    (n < 4 → exec (.bankDataWrite k data) s = .next (b.refuseWrite k 0x2610 2 (.rule 0x33))) ∧
    (4 ≤ n → bit (b.inUse.rd Dict.COEFF_BANKS_BANK_IN_USE) n = true →
      exec (.bankDataWrite k data) s = .next (b.refuseWrite k 0x2610 2 (.rule 0x30))) ∧
    (4 ≤ n → bit (b.inUse.rd Dict.COEFF_BANKS_BANK_IN_USE) n = false → bankValid data = false →
      exec (.bankDataWrite k data) s = .next (b.refuseWrite k 0x2610 2 (.rule 0x31))) ∧
    (4 ≤ n → bit (b.inUse.rd Dict.COEFF_BANKS_BANK_IN_USE) n = false → bankValid data = true →
      exec (.bankDataWrite k data) s = .next (Safety.accepted (((b.putBank n data).wr Dict.COEFF_BANKS_BANK_LOADED
        (putBit (b.rd Dict.COEFF_BANKS_BANK_LOADED) n true)).raiseBy k Event.COEFF_BANK_LOADED n 0) k 0x2610))) ∧
  (∀ (s : State) (k : Fin 12) (data : List Byte), let b := s.begin.actBy k; let n := b.window k Dict.COLOUR_LUTS_LUT_WINDOW
    Safety.passes b k Dict.COLOUR_LUTS_LUT_DATA 0 0 data →
    (n < 8 → exec (.lutDataWrite k data) s = .next (b.refuseWrite k 0x2620 2 (.rule 0x33))) ∧
    (8 ≤ n → bit (b.inUse.rd Dict.COLOUR_LUTS_LUT_IN_USE) n = true →
      exec (.lutDataWrite k data) s = .next (b.refuseWrite k 0x2620 2 (.rule 0x30))) ∧
    (8 ≤ n → bit (b.inUse.rd Dict.COLOUR_LUTS_LUT_IN_USE) n = false →
      exec (.lutDataWrite k data) s = .next (Safety.accepted (((b.putLut n data).wr Dict.COLOUR_LUTS_LUT_LOADED
        (putBit (b.rd Dict.COLOUR_LUTS_LUT_LOADED) n true)).raiseBy k Event.LUT_LOADED (256 + n) 0) k 0x2620))) ∧
  (∀ (s : State) (k : Fin 12) (data : List Byte), let b := s.begin.actBy k; let n := b.window k Dict.COLOUR_LUTS_LUT3D_WINDOW
    Safety.passes b k Dict.COLOUR_LUTS_LUT3D_DATA 0 0 data →
    (bit (b.inUse.rd Dict.COLOUR_LUTS_LUT3D_STATE) (4 + n) = true →
      exec (.lut3dDataWrite k data) s = .next (b.refuseWrite k 0x2620 4 (.rule 0x30))) ∧
    (bit (b.inUse.rd Dict.COLOUR_LUTS_LUT3D_STATE) (4 + n) = false →
      exec (.lut3dDataWrite k data) s = .next (Safety.accepted (((b.putLut3d n data).wr Dict.COLOUR_LUTS_LUT3D_STATE
        (putBit (b.rd Dict.COLOUR_LUTS_LUT3D_STATE) n true)).raiseBy k Event.LUT_LOADED (512 + n) 0) k 0x2620))) ∧
  (∀ (s : State) (n : Fin 64) (x y : Frame) (l : List Frame) (at_ : Nat), let b := s.begin; let i := b.inputAt n
    let held := (b.putInput n { i with fields := (⟨x.number, false, false, [], b.rd Dict.ENGINE_POOL_MOTION_FALLBACK_MAD,
      b.rd Dict.ENGINE_POOL_MOTION_CUT_FRACTION⟩ :: i.fields).take 4 }).dropOldFields n
    b.alive = true → i.frames = x :: y :: l → b.pairNeeded n y.time = some at_ → b.flag Dict.INPUT_ENABLE n = true →
    b.rd Dict.INPUT_TIMING_CLASS n = 2 → b.conversionOf n = 2 → x.number = y.number + 1 → i.estimateFrom ≤ x.number → x.arrival ≤ b.timebase →
    i.fields.any (fun f => f.pair == x.number) = false →
    exec (.motionEstimationStart n) s = .next (held.enqueue (held.estimateStrips n x.number (at_ - 20000)))) ∧
  (∀ (s : State) (n : Fin 64) (found : List (Int × Int)), let b := s.begin
    (b.inputAt n).fields = [] → exec (.motionEstimationDone n found) s = .next b) ∧
  (∀ (s : State) (n : Fin 64) (found : List (Int × Int)) (f : VectorField), let b := s.begin
    let count := blockCount (b.storedRaster n)
    let made := fieldOf (b.blockMisses n f.limit (b.pairFrames n f.pair).1 (b.pairFrames n f.pair).2) count found
    let cut := decide (f.fraction * count < 100 * made.2)
    b.alive = true → (b.inputAt n).fields = [f] → f.complete = false →
    (b.stripsOf StripKind.estimate n).filter (fun a => a.slot == f.pair % 256) ≠ [] →
    ((b.stripsOf StripKind.estimate n).filter (fun a => a.slot == f.pair % 256)).all (fun a => a.done) = true →
    let held := b.putInput n { b.inputAt n with motionWaits := false, fields := [{ f with complete := true, cut := cut, vectors := made.1 }] }
    exec (.motionEstimationDone n found) s = .next ({ held with strips := b.strips.filter (fun a =>
      !(a.kind == StripKind.estimate && a.owner == n && a.slot == f.pair % 256)) }.raiseIf cut Event.MOTION_FALLBACK n
        (100 * made.2 / max 1 count))) ∧
  (∀ (s : State) (k : Fin 12) (v : Nat), let b := s.begin.actBy k
    Safety.passesScalar b k Dict.ENGINE_POOL_CLEAR_COUNTERS 0 0 v →
    ∃ t, exec (.clearCounters k v) s = .next (Safety.accepted t k 0x2600) ∧
      t.rd Dict.ENGINE_POOL_STRIPS_COMPLETED = 0 ∧ t.rd Dict.ENGINE_POOL_STRIPS_REISSUED = 0 ∧
      t.rd Dict.ENGINE_POOL_STRIPS_RETRIED = 0 ∧ t.rd Dict.ENGINE_POOL_STRIPS_ABANDONED = 0 ∧
      (∀ e, e < 104 → (t.engineAt e).eccCorrected = 0 ∧ (t.engineAt e).timeouts = 0 ∧ (t.engineAt e).resets = 0))

/-- R128, R194, R209, R210: canvases start, stop and write back. Where the rules leave a point open it takes the
model's reading of logs 10, 42, 43, 65 and 72. -/
def Obligations.CanvasesAndWriteBack : Prop :=
  (∀ (s : State) (k : Fin 12) (c : Fin 8), let b := s.begin.actBy k; let on := b.wr Dict.CANVAS_ENABLE 1 c
    Safety.passesScalar b k Dict.CANVAS_ENABLE c 0 1 →
    (b.flag Dict.CANVAS_ENABLE c = true → exec (.canvasEnable k c) s = .next (Safety.accepted b k (0x2800 + c))) ∧
    (b.flag Dict.CANVAS_ENABLE c = false → (b.devState = 4 → firstOf (on.canvasRules c) = none) →
      exec (.canvasEnable k c) s = .next (Safety.accepted ((on.putCanvas c { b.canvasAt c with
        stopping := false, startAfter := if (b.canvasAt c).running then (b.canvasAt c).startAfter else b.timebase + 1000000 }).setTargets
          false) k (0x2800 + c))) ∧
    (∀ r, b.flag Dict.CANVAS_ENABLE c = false → b.devState = 4 → firstOf (on.canvasRules c) = some r →
      exec (.canvasEnable k c) s = .next (b.refuseWrite k (0x2800 + c) 1 r))) ∧
  (∀ (s : State) (k : Fin 12) (c : Fin 8), let b := s.begin.actBy k; let v := b.canvasAt c
    Safety.passesScalar b k Dict.CANVAS_ENABLE c 0 0 →
    (v.running = true → exec (.canvasDisable k c) s = .next (Safety.accepted
      ((b.wr Dict.CANVAS_ENABLE 0 c).putCanvas c { v with stopping := true }) k (0x2800 + c))) ∧
    (v.running = false → exec (.canvasDisable k c) s = .next (Safety.accepted
      ((b.wr Dict.CANVAS_ENABLE 0 c).putCanvas c { v with startAfter := 0, stopping := false }) k (0x2800 + c)))) ∧
  (∀ (s : State) (c : Fin 8) (k : Fin 2), let b := s.begin; let v := b.canvasAt c
    let due := Store.read (fun _ => 0) v.wbNext k; let done := Store.read (fun _ => ([], Raster.init)) v.wbDone k
    let d := if due = 1 then done.1 else b.dom Dict.CANVAS_WB_DESC c k
    let w := b.putCanvas c { v with wbNext := Store.write (fun _ => 0) v.wbNext k 0 }
    let was := if k.val = 0 then b.rd Dict.CANVAS_WB_STATE c % 4 else b.rd Dict.CANVAS_WB_STATE c / 4 % 4
    let ok := w.setWbState c k (if byteAt (b.dom Dict.CANVAS_WB_DESC c k) 0 = 0 then 0 else 1)
    let kept := ok.modCanvas c (fun v => { v with wbLast := Store.write (fun _ => Raster.init) v.wbLast k done.2 })
    let sent := kept.deliver c k d done.2
    b.alive = true → byteAt d 0 ≠ 0 → due ≠ 0 →
    (w.wbAccepts d = false → exec (.writebackFrameDone c k) s = .next
      ((w.setWbState c k 2).raiseIf (was != 2) Event.WRITEBACK_FAULT c (k * 256 + byteAt d 0))) ∧
    (w.wbAccepts d = true → due = 1 → exec (.writebackFrameDone c k) s = .next
      ((sent.inc Dict.CANVAS_WB_FRAMES c k).fire (kept.rd Dict.CANVAS_WB_MSIX_VECTOR c))) ∧
    (w.wbAccepts d = true → due ≠ 1 → exec (.writebackFrameDone c k) s = .next
      (ok.deliver c k d (Store.read (fun _ => Raster.init) v.wbLast k)))) ∧
  (∀ (b : State) (c k : Nat) (d : List Byte) (r : Raster),
    (byteAt d 0 = 1 → b.deliver c k d r = b ∧ b.wbAccepts d = true) ∧
    (byteAt d 0 = 3 → b.deliver c k d r = b.capture (0x200 + 2 * c + k) 0 r) ∧
    (byteAt d 0 = 2 → b.wbAccepts d = b.portLive (byteAt d 3))) ∧
  (∀ (s : State) (c : Fin 8) (k : Fin 2), let b := s.begin; let due := Store.read (fun _ => 0) (b.canvasAt c).wbNext k
    due = 0 ∨ (due ≠ 1 ∧ byteAt (b.dom Dict.CANVAS_WB_DESC c k) 0 = 0) →
    exec (.writebackFrameDone c k) s = .next b)

/-- R213, R214, R216: the Overcoat's arming and its images. Where the rules leave a point open it takes the model's
reading of logs 43 and 72. -/
def Obligations.OvercoatContent : Prop :=
  (∀ (s : State) (level : Bool), let b := s.begin
    b.alive = true →
    (level ≠ b.dev.overcoatPin → exec (.overcoatArmNChange level) s = .next ({ b with dev := { b.dev with
      overcoatPin := level, overcoatLatched := b.dev.overcoatLatched || level } }.wr Dict.OVERCOAT_PIN_STATE level.toNat)) ∧
    (level = b.dev.overcoatPin → exec (.overcoatArmNChange level) s = .next b)) ∧
  (∀ (s : State) (k : Fin 12) (v : Nat), let b := s.begin.actBy k; Safety.passesScalar b k Dict.OVERCOAT_ARM 0 0 v →
    exec (.overcoatArmWrite k v) s = .next (Safety.accepted (b.wr Dict.OVERCOAT_ARM v) k 0x2850)) ∧
  (∀ (s : State) (k : Fin 12) (v : Nat), let b := s.begin.actBy k
    Safety.passesScalar b k Dict.OVERCOAT_LATCH_CLEAR 0 0 v →
    exec (.latchClear k v) s = .next (Safety.accepted { b with dev := { b.dev with overcoatLatched := b.dev.overcoatPin } } k 0x2850)) ∧
  (∀ (s : State) (k : Fin 12) (d : List Byte), let b := s.begin.actBy k; let i := b.window k Dict.OVERCOAT_IMAGE_WINDOW
    let need := b.imageBytes i + leAt d 0 2 * leAt d 2 2 * 4
    Safety.passes b k Dict.OVERCOAT_IMAGE_DESC 0 0 d →
    (descValid d = false → exec (.imageDescWrite k d) s = .next (b.refuseWrite k 0x2850 0x0A (.plain 0x06090030 0x12))) ∧
    (descValid d = true → b.overcoatOpen = false → exec (.imageDescWrite k d) s = .next (b.refuseWrite k 0x2850 0x0A (.rule 0x40))) ∧
    (descValid d = true → b.overcoatOpen = true → leAt d 0 2 ≠ 0 → b.imageNamed i = true →
      exec (.imageDescWrite k d) s = .next (b.refuseWrite k 0x2850 0x0A (.rule 0x30))) ∧
    (descValid d = true → b.overcoatOpen = true → (leAt d 0 2 = 0 ∨ b.imageNamed i = false) → 33554432 < need →
      exec (.imageDescWrite k d) s = .next (b.refuseWrite k 0x2850 0x0A (.rule 0x44))) ∧
    (descValid d = true → b.overcoatOpen = true → (leAt d 0 2 = 0 ∨ b.imageNamed i = false) → need ≤ 33554432 →
      exec (.imageDescWrite k d) s = .next (Safety.accepted
        (((((((b.putImageDesc i (if leAt d 0 2 = 0 then zeros 16 else d)).putImageData i []).putImageCrc i 0).putImageBad i false).wr
          Dict.OVERCOAT_IMAGES_LOADED (putBit (b.rd Dict.OVERCOAT_IMAGES_LOADED) i false)).countImages).raiseIf
            (bit (b.rd Dict.OVERCOAT_IMAGES_LOADED) i && leAt d 0 2 == 0) Event.OVERCOAT_CHANGED (256 + i) 0) k 0x2850))) ∧
  (∀ (s : State) (k : Fin 12) (data : List Byte), let b := s.begin.actBy k; let i := b.window k Dict.OVERCOAT_IMAGE_WINDOW
    let z := b.imageSize i
    Safety.passes b k Dict.OVERCOAT_IMAGE_DATA 0 0 data → b.overcoatOpen = true → b.imageNamed i = false →
    (z.1 = 0 ∨ data.length ≠ z.1 * z.2 * 4 → exec (.imageDataWrite k data) s = .next (b.refuseWrite k 0x2850 0x0B (.rule 0x44))) ∧
    (z.1 ≠ 0 → data.length = z.1 * z.2 * 4 → b.imageBytes i + z.1 * z.2 * 4 ≤ 33554432 →
      exec (.imageDataWrite k data) s = .next (Safety.accepted
        ((((((b.putImageData i data).putImageCrc i (crc32 data)).putImageBad i false).wr Dict.OVERCOAT_IMAGES_LOADED
          (putBit (b.rd Dict.OVERCOAT_IMAGES_LOADED) i true)).countImages).raise Event.OVERCOAT_CHANGED (256 + i) (crc32 data)) k 0x2850)))

/-- R223: a Lining becomes valid and is rebuilt. Where the rules leave a point open it takes the model's reading of
log 43. -/
def Obligations.LiningRebuilds : Prop :=
  (∀ (s : State) (c : Fin 8), let b := s.begin; let v := b.canvasAt c; let mask := b.rd Dict.LINING_LINED_MASK 0 c
    b.alive = true → v.running = true → v.liningState = 2 → b.yielded 1 6 0 = false →
    (v.liningRestart = true → exec (.liningValid c) s = .next (b.putCanvas c { v with liningRestart := false })) ∧
    (v.liningRestart = false → ∃ t, exec (.liningValid c) s = .next t ∧ Safety.raised b t Event.LINING_VALID c mask ∧
      (t.canvasAt c).liningState = 3 ∧ (t.canvasAt c).liningPicture =
        some (((b.asSeen c).putCanvas c { v with liningState := 3, liningUsed := true }).liningBuild c mask))) ∧
  (∀ (s : State) (c : Fin 8), (s.begin.canvasAt c).liningState ≠ 2 → exec (.liningValid c) s = .next s.begin) ∧
  (∀ (s : State) (k : Fin 12) (v : Nat), let b := s.begin.actBy k; Safety.passesScalar b k Dict.LINING_REBUILD 0 0 v →
    exec (.rebuild k v) s = .next (Safety.accepted (b.rebuildLinings v) k 0x2858)) ∧
  (∀ (s : State) (c : Nat), (s.canvasAt c).liningState = 3 →
    Safety.raised s (s.invalidateLining c 5) Event.LINING_INVALIDATED c 5 ∧
    ((s.invalidateLining c 5).canvasAt c).liningState = 1 ∧ ((s.invalidateLining c 5).canvasAt c).liningPicture = none)

/-- R128, R231 to R235, R241, R253: heads start, stop and run their frames. Where the rules leave a point open it
takes the model's reading of logs 42, 67, 71 and 72. -/
def Obligations.HeadsRun : Prop :=
  (∀ (s : State) (k : Fin 12) (h : Fin 32), let b := s.begin.actBy k; let on := ((b.wr Dict.HEAD_ENABLE 1 h).takeBuffers).takeFifo h
    let filled := on.wr Dict.HEAD_STATUS_FIFO_LOW_WATER (1024 * on.rd Dict.HEAD_STATUS_FIFO_SIZE h) h
    Safety.passesScalar b k Dict.HEAD_ENABLE h 0 1 →
    (b.flag Dict.HEAD_ENABLE h = true → exec (.headEnable k h) s = .next (Safety.accepted b k (0x2C00 + h))) ∧
    (b.flag Dict.HEAD_ENABLE h = false → b.judgeHead h = none → exec (.headEnable k h) s = .next (Safety.accepted
      (filled.modHead h (fun a => { a with
        stopping := false, startAfter := if a.running then 0 else filled.timebase + 1000000 })) k (0x2C00 + h))) ∧
    (∀ r, b.flag Dict.HEAD_ENABLE h = false → b.judgeHead h = some r →
      exec (.headEnable k h) s = .next (b.refuseWrite k (0x2C00 + h) 1 r))) ∧
  (∀ (s : State) (k : Fin 12) (h : Fin 32), let b := s.begin.actBy k; let off := b.wr Dict.HEAD_ENABLE 0 h; let a := b.headAt h
    Safety.passesScalar b k Dict.HEAD_ENABLE h 0 0 →
    (a.running = true → exec (.headDisable k h) s = .next (Safety.accepted
      (off.putHead h { a with stopping := true }) k (0x2C00 + h))) ∧
    (a.running = false → exec (.headDisable k h) s = .next (Safety.accepted
      (((off.putHead h { a with startAfter := 0 }).takeBuffers).takeFifo h) k (0x2C00 + h)))) ∧
  (∀ (s : State) (h : Fin 32) (low t : Nat), let b := s.begin; let a := b.headAt h
    b.alive = true → b.nextFrame h = some t → t ≤ b.timebase →
    (a.running = true → a.stopping = true → exec (.headFrameStart h low) s = .next (b.stopWithClones h)) ∧
    (a.running = false → exec (.headFrameStart h low) s = .next (b.beginFrame h t true false)) ∧
    (a.running = true → a.stopping = false → b.rd Dict.HEAD_STATUS_FIFO_SIZE h = 0 →
      exec (.headFrameStart h low) s = .next (b.beginFrame h t false false)) ∧
    (a.running = true → a.stopping = false → b.rd Dict.HEAD_STATUS_FIFO_SIZE h ≠ 0 →
      exec (.headFrameStart h low) s = .next
        ((b.wr Dict.HEAD_STATUS_FIFO_LOW_WATER (min low (b.rd Dict.HEAD_STATUS_FIFO_LOW_WATER h)) h).beginFrame h t false false))) ∧
  (∀ (s : State) (h : Fin 32) (low : Nat), s.begin.nextFrame h = none → exec (.headFrameStart h low) s = .next s.begin) ∧
  (∀ (s : State) (h : Fin 32), let b := s.begin; let a := b.headAt h; let t := a.frameStart + b.flipOffset h
    let c := b.shownCanvas h; let w := b.putHead h { a with flipped := true }
    b.alive = true → a.running = true → a.flipped = false →
    (t ≤ b.timebase → c < 8 → w.leadHead c = some h.val → exec (.flipLatch h) s = .next ((w.flipSlot c).landDue 1 h t)) ∧
    (t ≤ b.timebase → c < 8 → w.leadHead c ≠ some h.val → exec (.flipLatch h) s = .next (w.landDue 1 h t)) ∧
    (t ≤ b.timebase → 8 ≤ c → exec (.flipLatch h) s = .next (w.landDue 1 h t)) ∧
    (b.timebase < t → exec (.flipLatch h) s = .next b)) ∧
  (∀ (s : State) (h : Fin 32), let b := s.begin; let a := b.headAt h
    b.alive = true → a.running = true →
    (a.blanked = false → a.frameStart + b.vb0Offset h ≤ b.timebase → exec (.startOfBlank h) s = .next
      ((b.putHead h { a with blanked := true }).setLegacy Dict.LEGACY_EVENTS_STATUS_START_OF_BLANK
        Dict.LEGACY_EVENTS_ENABLE_START_OF_BLANK h)) ∧
    (a.blanked = true → exec (.startOfBlank h) s = .next b) ∧
    (a.matched = false → b.rd Dict.LEGACY_EVENTS_MATCH_LINE 0 h < b.rd Dict.HEAD_V_TOTAL h →
      a.frameStart + b.lineTime h (b.rd Dict.LEGACY_EVENTS_MATCH_LINE 0 h) ≤ b.timebase →
      exec (.lineMatch h) s = .next ((b.putHead h { a with matched := true }).setLegacy Dict.LEGACY_EVENTS_STATUS_LINE_MATCH
        Dict.LEGACY_EVENTS_ENABLE_LINE_MATCH h)) ∧
    (a.matched = true → exec (.lineMatch h) s = .next b)) ∧
  (∀ (s : State) (h v : Nat), v < s.rd Dict.HEAD_V_TOTAL h → s.writeMatchLine h v = .done
    ((s.wr Dict.LEGACY_EVENTS_MATCH_LINE v 0 h).putHead h { s.headAt h with
      matched := decide ((s.headAt h).frameStart + s.lineTime h v ≤ s.timebase) })) ∧
  (∀ (s : State) (h : Fin 32) (line x : Nat), let b := s.begin; let a := b.headAt h; let w := b.headRd h Dict.HEAD_H_ACTIVE
    let u := ((b.putHead h { a with underruns := a.underruns + 1, short := Store.put a.short line x }).inc
      Dict.HEAD_STATUS_UNDERRUN_LINES h).wr Dict.HEAD_STATUS_FIFO_LOW_WATER 0 h; let v := b.asScanned h
    b.alive = true → a.running = true → a.shown = .content → b.headRd h Dict.HEAD_BUFFER_MODE = 1 →
    line < b.headRd h Dict.HEAD_V_ACTIVE → x < w → a.short.all (fun e => e.1 != line) = true →
    (u.rd Dict.HEAD_TYPE h ≠ 1 → exec (.headUnderrun h line x) s = .next ((u.out (.pixels h line
      (v.rasterLine h a.carried .content 0 x line ++ v.rasterLine h a.carried .background x (w - x) line))).setLegacy
        Dict.LEGACY_EVENTS_STATUS_UNDERRUN Dict.LEGACY_EVENTS_ENABLE_UNDERRUN h)) ∧
    (u.rd Dict.HEAD_TYPE h = 1 → exec (.headUnderrun h line x) s = .next (u.setLegacy
      Dict.LEGACY_EVENTS_STATUS_UNDERRUN Dict.LEGACY_EVENTS_ENABLE_UNDERRUN h))) ∧
  (∀ (s : State) (h : Fin 32) (line x : Nat), (s.begin.headAt h).shown ≠ .content →
    exec (.headUnderrun h line x) s = .next s.begin) ∧
  (∀ (s : State) (k : Fin 12) (v : Nat), let b := s.begin.actBy k
    let cleared (e : EntryDef) := Safety.accepted (b.wr e (maskOf ((bitsSet (b.rd e) 32).filter (fun h => !bit v h)))) k 0x2CC0
    (Safety.passesScalar b k Dict.LEGACY_EVENTS_STATUS_START_OF_BLANK 0 0 v →
      exec (.legacyStatusClear k 0 v) s = .next (cleared Dict.LEGACY_EVENTS_STATUS_START_OF_BLANK)) ∧
    (Safety.passesScalar b k Dict.LEGACY_EVENTS_STATUS_LINE_MATCH 0 0 v →
      exec (.legacyStatusClear k 1 v) s = .next (cleared Dict.LEGACY_EVENTS_STATUS_LINE_MATCH)) ∧
    (Safety.passesScalar b k Dict.LEGACY_EVENTS_STATUS_FRAME_DONE 0 0 v →
      exec (.legacyStatusClear k 2 v) s = .next (cleared Dict.LEGACY_EVENTS_STATUS_FRAME_DONE)) ∧
    (Safety.passesScalar b k Dict.LEGACY_EVENTS_STATUS_UNDERRUN 0 0 v →
      exec (.legacyStatusClear k 3 v) s = .next (cleared Dict.LEGACY_EVENTS_STATUS_UNDERRUN)))

/-- R248 to R251, R254: check windows, SAFE fill and RETIME. Where the rules leave a point open it takes the model's
reading of logs 42, 71 and 72. -/
def Obligations.ChecksAndRetime : Prop :=
  (∀ (s : State) (h : Fin 32) (w : Fin 16) (echo : Nat), let b := s.begin
    let d := b.checkedWindow h w; let status := b.rd Dict.HEAD_STATUS_CHECK_STATUS h
    let seen := b.modHead h (fun a => { a with checked := Store.change (fun _ => 0) a.checked w (fun n => (n + 1) % 2 ^ 32) })
    let n := Store.read (fun _ => 0) (seen.headAt h).consecutive w + 1
    b.alive = true → b.checksWindow h w = true →
    (seen.expectedCrc h d = echo → seen.windowShort h d = false → exec (.checkWindowEnd h w echo) s = .next
      ((seen.modHead h (fun a => { a with consecutive := Store.write (fun _ => 0) a.consecutive w 0 })).wr
        Dict.HEAD_STATUS_CHECK_STATUS (putBit status w false) h)) ∧
    (seen.expectedCrc h d ≠ echo ∨ seen.windowShort h d = true → ∃ t, exec (.checkWindowEnd h w echo) s = .next t ∧
      Safety.raised b t Event.CHECK_MISMATCH h (w * 65536 + n % 65536) ∧
      t.rd Dict.HEAD_STATUS_CHECK_STATUS h = putBit status w true % 65536 ∧
      Store.read (fun _ => 0) (t.headAt h).consecutive w = n ∧
      (bit (byteAt d 0) 1 = true → seen.headLive h 2 = 1 → seen.headLive h 1 ≤ n → (seen.headAt h).safeRequest = none →
        (t.headAt h).safeRequest = some w.val) ∧
      (seen.headLive h 2 ≠ 1 → (t.headAt h).safeRequest = (seen.headAt h).safeRequest))) ∧
  (∀ (s : State) (h : Fin 32) (w : Fin 16) (echo : Nat), s.begin.checksWindow h w = false →
    exec (.checkWindowEnd h w echo) s = .next s.begin) ∧
  (∀ (s : State) (k : Fin 12) (h : Fin 32) (v : Nat), let b := s.begin.actBy k; let a := b.headAt h
    Safety.passesScalar b k Dict.HEAD_SAFE_CLEAR h 0 v →
    (a.safe = true → exec (.safeClear k h v) s =
      .next (Safety.accepted (b.putHead h { a with safeClear := true }) k (0x2C00 + h))) ∧
    (a.safe = false → exec (.safeClear k h v) s = .next (Safety.accepted b k (0x2C00 + h)))) ∧
  (∀ (s : State) (h : Nat), let a := s.headAt h
    (a.safeClear = true → s.endSafe h = ((s.putHead h { a with safe := false, safeClear := false, safeFrames := 0 }).wr
      Dict.HEAD_STATUS_SAFE_WINDOW 0xFF h).raise Event.HEAD_SAFE_CLEARED h a.safeFrames) ∧
    (a.safeClear = false → s.endSafe h = s)) ∧
  (∀ (s : State) (k : Fin 12) (h : Fin 32) (v : Nat), let b := s.begin.actBy k
    Safety.passesScalar b k Dict.HEAD_RETIME h 0 v →
    exec (.retime k h v) s = .next (b.queueCommit (b.receive 1 h k (2 ^ h.val) 0 0xFF false (some (b.newTiming h))))) ∧
  (∀ (s : State) (h : Fin 32) (t : Nat) (r : Retime), let b := s.begin
    let ends := ((b.clonesOf h).filter (fun g => (b.headAt g).running)).filterMap (fun g => (b.nextFrame g).map (fun t => (g, t)))
    let v := ends.foldl (fun s e => s.followTiming e.1 e.2)
      (((b.putTiming h r.timing).setPixelClock h).wrDom Dict.HEAD_NEW_TIMING [] h)
    let u := (v.modHead h (fun a => { a with retime := none })).landPending 1 h
    let f := ((h.val :: u.clonesOf h).foldl State.takeFifo u).beginFrame h t false true
    b.alive = true → b.retimeDue h = some (t, r) → (b.headAt h).stopping = false →
    ((f.rd Dict.HEAD_TYPE h = 2 ∨ f.rd Dict.HEAD_TYPE h = 3) →
      exec (.retimeNewTiming h) s = .next (f.endRetime h ((t - r.oldEnd) / 1000000))) ∧
    (f.rd Dict.HEAD_TYPE h ≠ 2 → f.rd Dict.HEAD_TYPE h ≠ 3 →
      exec (.retimeNewTiming h) s = .next (f.endRetime h (f.headAt h).background.toNat))) ∧
  (∀ (s : State) (h : Fin 32) (t : Nat) (r : Retime), let b := s.begin
    b.alive = true → b.retimeDue h = some (t, r) → (b.headAt h).stopping = true →
    exec (.retimeNewTiming h) s = .next (b.stopWithClones h)) ∧
  (∀ (s : State) (h : Fin 32), s.begin.retimeDue h = none → exec (.retimeNewTiming h) s = .next s.begin)

/-- R266, R268, R269, R272 to R276, R284 to R286: the tile map, the packets of tiles and their receivers. Where the
rules leave a point open it takes the model's reading of logs 23, 46 and 71. -/
def Obligations.TileLink : Prop :=
  (∀ (s : State) (k : Fin 12) (data : List Byte), let b := s.begin.actBy k; let w := b.window k Dict.TILE_MAP_CONTROL_MAP_WINDOW
    let entries := chunks 32 data.length data; let t := putEntries State.putTileShadow (b.deferredWrites.foldl State.applyHeld b) w entries
    let bad := firstBad (fun k b' => if b.tileBreaks t k b' then some (.tableEntry 0x58 k) else none) w entries
    Safety.passes b k Dict.TILE_MAP_DATA 0 0 data →
    (bad = none → exec (.tileMapWrite k data) s = .next (Safety.accepted
      (((putEntries State.storeTile b w (entries.map tileStored)).countTiles).inUse) k 0x2E00)) ∧
    (∀ r, bad = some r → exec (.tileMapWrite k data) s = .next
      (((b.wr Dict.TILE_MAP_CONTROL_LAST_BAD_ENTRY r.entry).raiseBy k Event.TILE_MAP_REFUSED r.entry 0x58).refuseWrite k 0x2E00 1 r))) ∧
  (∀ (s : State) (k : Fin 12) (data : List Byte), let b := s.begin.actBy k; let w := b.window k Dict.TILE_MAP_CONTROL_CALIB_WINDOW
    let entries := chunks 24 data.length data
    Safety.passes b k Dict.CALIBRATION_DATA 0 0 data →
    exec (.calibrationWrite k data) s = .next (Safety.accepted
      (putEntries State.storeCalib b w entries) k 0x2E20)) ∧
  (∀ (s : State) (k : Nat) (e : List Byte),
    (∀ key, s.holds key e = (s.validatesOver key e || s.deferredWrites.any (fun x => x.key == key))) ∧
    (s.holds (heldTile k) e = true →
      s.storeTile k e = { s with deferredWrites := s.deferredWrites ++ [⟨heldTile k, 0, some e⟩] }) ∧
    (s.holds (heldTile k) e = false → s.storeTile k e = (s.putTileShadow k e).landTile k e) ∧
    (s.holds (heldCalib k) e = true →
      s.storeCalib k e = { s with deferredWrites := s.deferredWrites ++ [⟨heldCalib k, 0, some e⟩] }) ∧
    (s.holds (heldCalib k) e = false → s.storeCalib k e = (s.putCalibShadow k e).landCalib k e)) ∧
  (∀ (s : State) (k : Nat) (e : List Byte), allHeads.any (fun h => s.sendsTile h k e) = false → (TileEntry.ofBytes e).valid = false →
    (s.landTile k e).tileEntryAt k = e) ∧
  (∀ (s : State) (k : Nat) (e : List Byte), allHeads.any (fun h => s.sendsTile h k e) = true → s.landTile k e = s) ∧
  (∀ (s : State) (h : Fin 32), let b := s.begin
    b.alive = true → (b.headAt h).running = true → b.rd Dict.HEAD_TYPE h = 1 →
    ((b.headAt h).calibBase + 1024 ≤ b.rd Dict.HEAD_STATUS_BASE_FRAME_COUNT h →
      exec (.calibPeriodic h) s = .next ((b.allCalibsDue h).sendCalibs h)) ∧
    (b.rd Dict.HEAD_STATUS_BASE_FRAME_COUNT h < (b.headAt h).calibBase + 1024 → exec (.calibPeriodic h) s = .next b)) ∧
  (∀ (s : State) (h : Fin 32) (k : Fin 65536), let b := s.begin; let v := b.asScanned h
    let e := TileEntry.ofBytes (v.tileEntryAt k)
    b.alive = true → (b.headAt h).running = true → v.sendsEntry h (v.tileEntryAt k) = true →
    e.x + e.w ≤ b.rd Dict.CANVAS_WIDTH e.canvas → e.y + e.h ≤ b.rd Dict.CANVAS_HEIGHT e.canvas →
    (bit e.pattern (b.headAt h).carried = true → exec (.pixelsSend h k) s = .next ((b.sendPixels h k false).sendPixels h k true)) ∧
    (bit e.pattern (b.headAt h).carried = false → exec (.pixelsSend h k) s = .next b)) ∧
  (∀ (s : State) (h k : Nat), let e := TileEntry.ofBytes ((s.asScanned h).tileEntryAt k)
    bit (s.rd Dict.HEAD_PORT_MASK h) e.port = false → s.sendPixels h k false = s) ∧
  (∀ (s : State) (p : Fin 48) (data : List Byte), let b := s.begin; let gen := b.rd Dict.PTL_GENERATION 0 p
    let auth := bit (byteAt data 1) 0; let tile := beNat ((data.drop 8).take 2)
    b.alive = true → (b.rd Dict.PORT_STATE p = 2 ∨ b.rd Dict.PORT_STATE p = 3) →
    (gen = 0 ∨ bit (byteAt data 1) 1 = true ∨ (gen = 1 ∧ auth = true) → exec (.statusReceived p data) s = .next (b.inc Dict.PORT_RX_DISCARDS p)) ∧
    (gen ≠ 0 → byteAt data 0 = 16 * gen + 5 → bit (byteAt data 1) 1 = false → (gen = 1 → auth = false) → beNat ((data.drop 13).take 2) = 32 → data.length = 48 + (if auth then 16 else 0) →
      (gen = 2 → b.rd Dict.PTL_KEY_STATE = 1 → b.statusTag p data = false →
        exec (.statusReceived p data) s = .next (b.rejectStatus p tile)) ∧
      (gen ≠ 2 ∨ b.rd Dict.PTL_KEY_STATE ≠ 1 ∨ b.statusTag p data = true → ∀ k, b.tileOf p tile = some k →
        exec (.statusReceived p data) s = .next ((b.inc Dict.PORT_RX_FRAMES p).noteStatus k p ((data.drop 16).take 32))) ∧
      (gen ≠ 2 ∨ b.rd Dict.PTL_KEY_STATE ≠ 1 ∨ b.statusTag p data = true → b.tileOf p tile = none →
        exec (.statusReceived p data) s = .next (b.inc Dict.PORT_RX_DISCARDS p)))) ∧
  (∀ (s : State) (p tile : Nat), s.authFailAt p = 0 → s.rejectStatus p tile =
    ((s.inc Dict.PTL_AUTH_REJECTS).putAuthFail p (s.now + 1)).raise Event.PTL_AUTH_FAIL p tile) ∧
  (∀ (s : State) (k : Fin 65536), let b := s.begin; let e := TileEntry.ofBytes (b.tileEntryAt k); let x := b.tileAt k
    b.alive = true → e.valid = true → e.noStatus = false → x.state ≠ 2 → b.skippedTiles.contains k.val = false → x.watchAt ≠ 0 →
    (x.watchAt - 1 + b.rd Dict.PTL_STATUS_TIMEOUT * 1000000 ≤ b.now → exec (.tileMissing k) s = .next
      (((b.putTile k { x with state := 2 }).countTiles).raise Event.TILE_MISSING k e.tile)) ∧
    (b.now < x.watchAt - 1 + b.rd Dict.PTL_STATUS_TIMEOUT * 1000000 → exec (.tileMissing k) s = .next b))

/-- R280 to R283, R286: keys, rekeying, HEARTBEAT and CONTROL of the tile link. Where the rules leave a point open it
takes the model's reading of logs 22, 46, 52 and 72. -/
def Obligations.TileLinkKeys : Prop :=
  (∀ (s : State) (k : Fin 12) (v : Nat), let b := s.begin.actBy k
    Safety.passesScalar b k Dict.PTL_KEY_SLOT 0 0 v →
    ((v = 0xFF ∨ b.derives v = true) → exec (.keySlotWrite k v) s = .next (Safety.accepted
      (b.wr Dict.PTL_KEY_SLOT v).startRekey k 0x2E10)) ∧
    (v ≠ 0xFF → b.derives v = false → exec (.keySlotWrite k v) s = .next (b.refuseWrite k 0x2E10 1 (.rule 0x5A)))) ∧
  (∀ (s : State) (k : Fin 12) (v : Nat), let b := s.begin.actBy k; Safety.passesScalar b k Dict.PTL_REKEY 0 0 v →
    exec (.rekey k v) s = .next (Safety.accepted b.startRekey k 0x2E10)) ∧
  (∀ (s : State), s.ptl.countdown ≠ 0 → s.startRekey = { s with ptl := { s.ptl with again := true } }) ∧
  (∀ (s : State), s.ptl.countdown = 0 → s.startRekey.ptl.countdown = 9 ∧ s.startRekey.ptl.nextSalt = (s.draw 8).1 ∧
    s.startRekey.ptl.nextSlot = s.rd Dict.PTL_KEY_SLOT ∧ s.startRekey.ptl.salt = s.ptl.salt ∧ s.startRekey.ptl.slot = s.ptl.slot) ∧
  (∀ (s : State), (s.begin.rekeyDue = true → exec .ptlRekey s = .next s.begin.finishRekey) ∧
    (s.begin.rekeyDue = false → exec .ptlRekey s = .next s.begin)) ∧
  (∀ (s : State), s.ptl.again = false → s.finishRekey.ptl.salt = s.ptl.nextSalt ∧ s.finishRekey.ptl.slot = s.ptl.nextSlot ∧
    s.finishRekey.ptl.countdown = 0 ∧ s.finishRekey.rd Dict.PTL_KEY_EPOCH = (s.rd Dict.PTL_KEY_EPOCH + 1) % 256 ∧
    Safety.raised s s.finishRekey Event.PTL_REKEY ((s.rd Dict.PTL_KEY_EPOCH + 1) % 256) 0) ∧
  (∀ (s : State), let b := s.begin
    let payload := beBytes 4 b.life.opSeconds ++ beBytes 1 b.devState ++ zeros 11
    b.alive = true →
    (b.ptl.heartbeatAt = 0 → exec .heartbeat s = .next (b.ptlPorts.foldl (fun s p =>
      s.sendCounted p (s.rd Dict.PTL_BEACON_MAC) 6 0xFFFF payload) { b with ptl := { b.ptl with heartbeatAt := b.now + 1 } })) ∧
    (b.ptl.heartbeatAt ≠ 0 → b.now < b.ptl.heartbeatAt - 1 + b.rd Dict.PTL_HEARTBEAT_INTERVAL * 1000000 →
      exec .heartbeat s = .next b)) ∧
  (∀ (s : State) (k : Fin 12) (data : List Byte), let b := s.begin.actBy k
    let p := b.rd Dict.PTL_CONTROL_PORT; let tile := b.rd Dict.PTL_CONTROL_TILE
    Safety.passes b k Dict.PTL_CONTROL_TX 0 0 data →
    (b.rd Dict.PTL_KEY_STATE = 2 → exec (.controlTx k data) s = .next (b.refuseWrite k 0x2E10 0x0D (.rule 0x5B))) ∧
    (b.rd Dict.PTL_KEY_STATE ≠ 2 → tile = 0xFFFF → b.ptlPorts ≠ [] →
      exec (.controlTx k data) s = .next (Safety.accepted
        (((b.ptlPorts.foldl (fun s p => s.sendCounted p (b.rd Dict.PTL_BEACON_MAC) 4 tile data) b).inc Dict.PTL_CONTROL_SENT).raiseBy k
          Event.PTL_CONTROL_SENT tile data.length) k 0x2E10)) ∧
    (∀ j, b.rd Dict.PTL_KEY_STATE ≠ 2 → tile ≠ 0xFFFF → b.ptlPorts.filter (· == p) = [p] → b.tileOf p tile = some j →
      exec (.controlTx k data) s = .next (Safety.accepted
        (((b.sendCounted p (TileEntry.ofBytes (b.tileEntryAt j)).mac 4 tile data).inc Dict.PTL_CONTROL_SENT).raiseBy k
          Event.PTL_CONTROL_SENT tile data.length) k 0x2E10)) ∧
    (b.rd Dict.PTL_KEY_STATE ≠ 2 → (tile = 0xFFFF ∧ b.ptlPorts = [] ∨ tile ≠ 0xFFFF ∧ b.ptlPorts.contains p = false) →
      exec (.controlTx k data) s = .next (Safety.accepted b k 0x2E10)))

/-- R292, R293, R295 to R299: the candidates of Hentis and their qualification. Where the rules leave a point open it
takes the model's reading of log 24. -/
def Obligations.CandidatesAreJudged : Prop :=
  (∀ (s : State) (k : Fin 12) (n : Fin 12), let b := s.begin.actBy k; let old := b.refAt n
    let fresh := { Ref.init with meanAtQual := old.meanAtQual, everQual := old.everQual, intervalAt := b.now, failedAt := b.now }
    Safety.passesScalar b k Dict.REF_ENABLE n 0 1 →
    (b.refType n = 0 → exec (.refEnable k n) s = .next (b.refuseWrite k (0x2110 + n) 1 (.field 0x60 Dict.REF_SOURCE n))) ∧
    (b.refType n = 3 → b.rd Dict.REF_SOURCE n ≤ 3 → b.rd Dict.REF_NOMINAL_NUM n = 0 →
      (∀ m : Nat, m < 12 → m ≠ n → b.flag Dict.REF_ENABLE m = false) →
      exec (.refEnable k n) s = .next (b.refuseWrite k (0x2110 + n) 1 (.field 0x60 Dict.REF_NOMINAL_NUM n))) ∧
    (∀ r, b.judgeRef n = some r → exec (.refEnable k n) s = .next (b.refuseWrite k (0x2110 + n) 1 r)) ∧
    (b.judgeRef n = none → b.flag Dict.REF_ENABLE n = true → exec (.refEnable k n) s = .next (Safety.accepted b k (0x2110 + n))) ∧
    (b.judgeRef n = none → b.flag Dict.REF_ENABLE n = false → exec (.refEnable k n) s = .next (Safety.accepted
      (((((b.putRef n fresh).wr Dict.REF_ENABLE 1 n).wr Dict.REF_FAIL_CAUSE 1 n).wr Dict.REF_PTP_PORT_STATE
        (if b.refType n = 7 then 1 else 0) n).setQual n 1) k (0x2110 + n)))) ∧
  (∀ (s : State) (k : Fin 12) (n : Fin 12), let b := s.begin.actBy k
    let told := b.raiseIf (b.flag Dict.REF_DRIFT_ALARM n) Event.REF_DRIFT_ALARM_END n (param (ppb (b.rdInt Dict.REF_DRIFT n)))
    let gone := told.modRef n (fun r => { r with alarmSince := 0, dwellSince := 0, failedAt := told.now, masters := [], chosen := 0 })
    Safety.passesScalar b k Dict.REF_ENABLE n 0 0 →
    exec (.refDisable k n) s = .next (Safety.accepted (((((gone.wr Dict.REF_ENABLE 0 n).wr Dict.REF_DRIFT_ALARM 0 n).wr
      Dict.REF_PTP_PORT_STATE 0 n).wr Dict.REF_FAIL_CAUSE 0 n).setQual n 0) k (0x2110 + n))) ∧
  (∀ (s : State) (n : Fin 12) (vertical : Bool) (age : Nat), let b := s.begin; let ig := b.ignoreRef n
    let mark := ig.modRef n (fun r => { r with intervalAt := b.now }); let bits := putBit (b.rd Dict.REF_FAIL_CAUSE n) 0 true
    b.dictUp = true → b.rd Dict.REF_QUAL_STATE n ≠ 0 →
    (ig.activityOver n vertical age = false → exec (.refActivityFail n vertical age) s = .next ig) ∧
    (ig.activityOver n vertical age = true → b.refType n ≠ 7 → exec (.refActivityFail n vertical age) s = .next
      (mark.setCause n bits ((b.refAt n).goodEdge (b.now - age)))) ∧
    (ig.activityOver n vertical age = true → b.refType n = 7 → exec (.refActivityFail n vertical age) s = .next
      ((mark.wr Dict.REF_PTP_PORT_STATE 1 n).setCause n (putBit bits 4 true) ((b.refAt n).goodAt - 1)))) ∧
  (∀ (s : State) (n age : Nat), let (num, den) := s.refNominal n
    (s.refType n = 5 → s.activityOver n false age = decide (1500000000 ≤ age)) ∧
    (s.refType n = 7 → s.activityOver n false age = decide ((s.refAt n).syncAt + 3 * (s.refAt n).syncInterval ≤ s.now + 1)) ∧
    (s.refType n = 7 → s.activityOver n true age = (s.bestMaster n).isNone) ∧
    (s.refType n = 3 → 0 < num → s.activityOver n false age = decide (2 * 1000000000 * den ≤ age * num)) ∧
    (s.refType n = 1 ∨ s.refType n = 2 → 0 < num →
      s.activityOver n false age = decide (2 * 1000000000 * den ≤ age * num * max 1 (s.refLines n)) ∧
      s.activityOver n true age = decide (2 * 1000000000 * den ≤ age * num))) ∧
  (∀ (s : State) (n : Fin 12) (interval : Nat), let b := s.begin
    let good := if b.refType n = 7 then (b.refAt n).goodAt else (b.refAt n).goodEdge (b.now - interval) + 1
    let counted := (b.modRef n (fun r => { r with
      goodAt := good,
      glitchTimes := List.filter (fun t => decide (b.now < t + b.glitchSpan n)) (b.now :: r.glitchTimes) })).inc Dict.REF_GLITCHES n
    let told := (counted.raise Event.REF_GLITCH n (min interval 4294967295)).ignoreRef n
    b.dictUp = true → b.rd Dict.REF_QUAL_STATE n ≠ 0 →
    (b.isGlitch n interval = false → exec (.refGlitch n interval) s = .next b) ∧
    (b.isGlitch n interval = true → told.glitchy n = false → exec (.refGlitch n interval) s = .next told) ∧
    (b.isGlitch n interval = true → told.glitchy n = true → exec (.refGlitch n interval) s = .next
      (told.setCause n (putBit (told.rd Dict.REF_FAIL_CAUSE n) 1 true) (good - 1)))) ∧
  (∀ (s : State) (n : Fin 12) (m : RefMeasure), let b := s.begin; let r := b.refAt n
    b.dictUp = true → b.rd Dict.REF_QUAL_STATE n ≠ 0 →
    (b.now < r.intervalAt + refInterval (b.refType n) * nsPerS → exec (.measurementIntervalEnd n m) s = .next b) ∧
    (r.intervalAt + refInterval (b.refType n) * nsPerS ≤ b.now → let u := b.takeMeasure n m
      let cause := u.causesAt n m (b.rateChanged n m); let v := (u.loopMeasure n m cause).setCause n cause u.now
      (v.flag Dict.REF_DRIFT_ALARM n = b.flag Dict.REF_DRIFT_ALARM n → exec (.measurementIntervalEnd n m) s = .next v) ∧
      (v.flag Dict.REF_DRIFT_ALARM n ≠ b.flag Dict.REF_DRIFT_ALARM n →
        exec (.measurementIntervalEnd n m) s = .next v.select))) ∧
  (∀ (s : State) (n : Fin 12) (m : RefMeasure), let u := s.takeMeasure n m; let drift := s.driftOf n m.offset
    let w := s.rd Dict.REF_FREQ_WINDOW n * 65536
    u.rdInt Dict.REF_OFFSET n = signed 64 (unsigned 64 m.offset) ∧ u.rdInt Dict.REF_DRIFT n = signed 64 (unsigned 64 drift) ∧
    u.rd Dict.REF_MEASURED_RATE n = m.rate % 2 ^ 64 ∧ (u.refAt n).mean = m.offset ∧ (u.refAt n).intervalAt = s.now ∧
    (s.flag Dict.REF_DRIFT_ALARM n = false → (w ≤ 2 * drift.natAbs → u.flag Dict.REF_DRIFT_ALARM n = true ∧
        Safety.raised s u Event.REF_DRIFT_ALARM n (param (ppb drift))) ∧
      (2 * drift.natAbs < w → u.flag Dict.REF_DRIFT_ALARM n = false)) ∧
    (s.flag Dict.REF_DRIFT_ALARM n = true → (10 * drift.natAbs < 4 * w → u.flag Dict.REF_DRIFT_ALARM n = false ∧
        Safety.raised s u Event.REF_DRIFT_ALARM_END n (param (ppb drift))) ∧
      (4 * w ≤ 10 * drift.natAbs → u.flag Dict.REF_DRIFT_ALARM n = true))) ∧
  (∀ (s : State) (n : Fin 12), let b := s.begin; let r := b.refAt n
    b.dictUp = true → b.rd Dict.REF_QUAL_STATE n = 2 →
    (b.now < r.waitSince + r.wait * nsPerS → exec (.refQualified n) s = .next b) ∧
    (r.waitSince + r.wait * nsPerS ≤ b.now → exec (.refQualified n) s = .next
      ((((b.modRef n (fun r => { r with meanAtQual := r.mean, everQual := true })).wr Dict.REF_QUAL_S b.tS n).raise
        Event.REF_QUALIFIED n r.wait).setQual n 3))) ∧
  (∀ (s : State) (n : Fin 12) (domain sender : Nat) (p : PtpSync) (delay : Option Int), let b := s.begin
    let w := b.takeMaster n; let r := w.refAt n
    let u := w.putRef n { r with syncAt := w.now + 1, syncInterval := p.interval }
    (b.hearsPtp n domain = false ∨ 128 * p.interval < 1000000000 → exec (.ptpSyncRx n domain sender p delay) s = .next b) ∧
    (b.hearsPtp n domain = true → 1000000000 ≤ 128 * p.interval → r.chosen ≠ sender + 1 →
      exec (.ptpSyncRx n domain sender p delay) s = .next w) ∧
    (b.hearsPtp n domain = true → 1000000000 ≤ 128 * p.interval → r.chosen = sender + 1 →
      (syncSentAt p = none → exec (.ptpSyncRx n domain sender p delay) s = .next (u.sendDelayReq n)) ∧
      (∀ t1, syncSentAt p = some t1 → let lag := (u.timebase : Int) - t1
        (delay = none → r.delayValid = false → exec (.ptpSyncRx n domain sender p delay) s = .next (u.sendDelayReq n)) ∧
        (delay = none → r.delayValid = true → exec (.ptpSyncRx n domain sender p delay) s = .next
          ((u.takeOffset n (lag - u.rd Dict.REF_MEAN_PATH_DELAY n)).sendDelayReq n)) ∧
        (∀ t4, delay = some t4 → r.reqAt ≠ 0 →
          let q := (u.wr Dict.REF_MEAN_PATH_DELAY ((lag + (t4 - (r.reqAt - 1 : Nat))) / 2).toNat n).modRef n (fun r =>
            { r with reqAt := 0, delayValid := true })
          exec (.ptpSyncRx n domain sender p delay) s = .next
            ((q.takeOffset n (lag - q.rd Dict.REF_MEAN_PATH_DELAY n)).sendDelayReq n))))) ∧
  (∀ (s : State) (n : Nat) (offset : Int), let r := s.refAt n; let far := (offset - r.offset).natAbs; let g := s.glitch n far
    (r.offsetValid = false → s.takeOffset n offset =
      ((s.putRef n { r with offsetValid := true, goodAt := s.now + 1 }).wr Dict.REF_PTP_PORT_STATE 3 n).setPhase n (offset * 1000)) ∧
    (r.offsetValid = true → s.takeOffset n offset =
      ((g.modRef n (fun u => { u with offsetValid := true, goodAt := if far ≤ 1000 ∨ u.offsetValid = false then g.now + 1 else u.goodAt })).wr
        Dict.REF_PTP_PORT_STATE 3 n).setPhase n (Config.ptpFilter r.offset offset * 1000))) ∧
  (∀ (s : State) (n : Nat), (s.sendDelayReq n).wire = s.wire ++ [.pin pinDelayReq (s.rd Dict.REF_SOURCE n)
      (if s.rd Dict.REF_PTP_DELAY_MODE n = 1 then (s.refAt n).chosen else 0)] ∧
    ((s.sendDelayReq n).refAt n).reqAt = s.timebase + 1) ∧
  (∀ (s : State) (n : Fin 12) (a : Announce), let b := s.begin
    let heard := b.modRef n (fun r => { r with masters := ((a, b.now) :: r.masters.filter (fun x => x.1.sender != a.sender)) })
    (b.hearsPtp n a.domain = true → exec (.ptpAnnounceRx n a) s = .next (heard.takeMaster n)) ∧
    (b.hearsPtp n a.domain = false → exec (.ptpAnnounceRx n a) s = .next b))

/-- R300 to R306, R314: selection, switches, the states of Hentis, holdover and the loop modes. Where the rules leave
a point open it takes the model's reading of logs 24 and 25. -/
def Obligations.SelectionAndHoldover : Prop :=
  (∀ (s : State) (k : Fin 12) (v : Nat), let b := s.begin.actBy k
    (Safety.passesScalar b k Dict.SELECTOR_FORCE 0 0 v → exec (.forceWrite k false v) s = .next
      (Safety.accepted (b.setReg Dict.SELECTOR_FORCE.key v).select k 0x2120)) ∧
    (Safety.passesScalar b k Dict.SELECTOR_REVERTIVE 0 0 v → exec (.forceWrite k true v) s = .next
      (Safety.accepted (b.setReg Dict.SELECTOR_REVERTIVE.key v).select k 0x2120))) ∧
  (∀ (s : State), let cands := s.ranking
    let cur := if s.switching then s.rd Dict.SELECTOR_TARGET else s.rd Dict.SELECTOR_SELECTED
    let best := s.bestRef cur; let st := s.rd Dict.HENTIS_STATE
    let mode := s.rd Dict.HENTIS_LOOP_MODE; let take := if mode = 0 then s.switchTo best else s.setSelected best 0xFF
    (mode = 2 → s.select = s) ∧
    (mode ≠ 2 → cur ∉ cands → best ≠ 0xFF → s.select = take) ∧
    (mode ≠ 2 → cur ∉ cands → best = 0xFF → (st = 1 ∨ st = 2) → s.select = s.loseReference cur) ∧
    (mode = 1 → cur ∉ cands → best = 0xFF → ¬ (st = 1 ∨ st = 2) → s.select = s.setSelected 0xFF 0xFF) ∧
    (mode ≠ 2 → cur ∈ cands → best ≠ cur → (s.rd Dict.SELECTOR_FORCE = best ∨
      (s.flag Dict.SELECTOR_REVERTIVE = true ∧ s.refBefore best cur = true)) → s.select = take) ∧
    (mode ≠ 2 → cur ∈ cands → (best = cur ∨ (s.rd Dict.SELECTOR_FORCE ≠ best ∧
      (s.flag Dict.SELECTOR_REVERTIVE = false ∨ s.refBefore best cur = false))) → s.select = s)) ∧
  (∀ (s : State) (n : Nat), n ∈ s.ranking ↔
    n < 12 ∧ s.rd Dict.REF_QUAL_STATE n = 3 ∧ s.rd Dict.REF_PRIORITY n ≠ 0) ∧
  (∀ (s : State) (phase : Int), let b := s.begin; let r := b.rd Dict.SELECTOR_TARGET; let w := b.holdWord.setPhase r phase
    let x := w.rdInt Dict.REF_PHASE_OFFSET r
    b.dictUp = true → b.switching = true → b.hentis.slewTo = some b.dcoWord →
    exec (.refSwitchDone phase) s = .next (((({ w with hentis := { w.hentis with buildOut := x, ignoring := false, boundSince := if w.rd Dict.HENTIS_STATE = 1 then w.now + 1 else 0 } } : State).setSelected r 0xFF).raise
      Event.REF_SWITCH_DONE r (param (x / 1000))).select)) ∧
  (∀ (s : State), let b := s.begin; let n := b.rd Dict.SELECTOR_SELECTED; let l := b.setHentis 2
    let w : State := { l with hentis := { l.hentis with firstLock := true } }
    b.dictUp = true → b.rd Dict.HENTIS_STATE = 1 → b.follows n = true → b.hentis.ignoring = false →
    b.since b.hentis.boundSince (tenTaus (refBandwidth (b.refType n)).2.2) = true →
    (b.hentis.firstLock = true → exec .hentisLocked s = .next w) ∧
    (b.hentis.firstLock = false → w.flag Dict.HENTIS_ALIGN_AT_LOCK = false → exec .hentisLocked s = .next w) ∧
    (b.hentis.firstLock = false → w.flag Dict.HENTIS_ALIGN_AT_LOCK = true → w.aligning = false → exec .hentisLocked s = .next
      (w.startJump 0xFF 2 (-(w.rdInt Dict.REF_PHASE_OFFSET n)) (w.refType n == 7)))) ∧
  (∀ (s : State), let b := s.begin
    b.dictUp = true → b.rd Dict.HENTIS_STATE = 3 → b.hentis.holdSince ≠ 0 →
    (b.hentis.holdSince - 1 + b.hentis.holdLimit * 1000000000 ≤ b.now → exec .hentisLost s = .next
      ((b.holdWord.setHentis 4).raise Event.HENTIS_LOST 2 ((b.now + 1 - b.hentis.holdSince) / 1000000000))) ∧
    (b.now < b.hentis.holdSince - 1 + b.hentis.holdLimit * 1000000000 → exec .hentisLost s = .next b)) ∧
  (∀ (s : State), let b := s.begin; let h := b.hentis
    let sel := if b.rd Dict.HENTIS_LOOP_MODE = 0 then b.rd Dict.SELECTOR_SELECTED else 0xFF
    let e : HistEntry := { word := if h.wordCount = 0 then b.dcoWord else h.wordSum / h.wordCount, opSeconds := b.life.opSeconds, valid := h.secondClean && b.secondGood, locked := b.rd Dict.HENTIS_STATE == 2, moving := b.switching || b.aligning, alarm := b.flag Dict.REF_DRIFT_ALARM sel, followed := sel, endAt := b.now }
    b.dictUp = true → h.secondAt + 1000000000 ≤ b.now → exec .holdoverHistoryAppend s = .next
      { b with hentis := { h with history := (e :: h.history).take 1024, wordSum := 0, wordCount := 0, secondClean := b.secondGood, secondAt := b.now } }) ∧
  (∀ (s : State), s.dictUp = true → s.rd Dict.HENTIS_STATE = 3 → s.hentis.slewTo = some s.dcoWord →
    exec .holdoverSlewDone s = .next s.begin.holdWord ∧ s.begin.holdWord.hentis.word = s.dcoWord ∧
      s.begin.holdWord.hentis.slewTo = none) ∧
  (∀ (s : State) (k : Fin 12) (v : Nat), let b := s.begin.actBy k; let old := b.rd Dict.HENTIS_LOOP_MODE
    let told := (b.wr Dict.HENTIS_LOOP_MODE v).raiseBy k Event.LOOP_MODE_CHANGE v old
    let open_ := told.holdWord.setSelected 0xFF 0xFF
    Safety.passesScalar b k Dict.HENTIS_LOOP_MODE 0 0 v →
    (v = old → exec (.loopModeChange k v) s = .next (Safety.accepted b k 0x2100)) ∧
    (v ≠ old → v = 0 → exec (.loopModeChange k v) s = .next (Safety.accepted open_.select k 0x2100)) ∧
    (v ≠ old → v ≠ 0 → exec (.loopModeChange k v) s = .next (Safety.accepted
      (({ open_ with hentis := { open_.hentis with history := [], boundSince := 0, ignoring := false } } : State).setHentis 0).select
      k 0x2100))) ∧
  (∀ (s : State) (k : Fin 12) (v : Nat), let b := s.begin.actBy k
    Safety.passesScalar b k Dict.HENTIS_STEER_FREQ 0 0 v →
    (b.rd Dict.HENTIS_LOOP_MODE = 1 → exec (.steerFreq k v) s = .next
      (Safety.accepted (b.wr Dict.HENTIS_STEER_FREQ v) k 0x2100)) ∧
    (b.rd Dict.HENTIS_LOOP_MODE ≠ 1 → exec (.steerFreq k v) s = .next (b.refuseWrite k 0x2100 7 (.rule 0x63))))

/-- R310 to R314: alignments by JUMP, by SLEW and by SET. Where the rules leave a point open it takes the model's
reading of logs 24 and 41. -/
def Obligations.Alignments : Prop :=
  (∀ (s : State) (k : Fin 12), let b := s.begin.actBy k
    Safety.passesScalar b k Dict.HENTIS_ALIGN 0 0 1 →
    (b.aligning = true → exec (.align k) s = .next (b.refuseWrite k 0x2100 0x0D (.rule 0x62))) ∧
    (b.alignStep = none → exec (.align k) s = .next (b.refuseWrite k 0x2100 0x0D (.rule 0x62))) ∧
    (∀ d ptp, b.aligning = false → b.alignStep = some (d, ptp) →
      (b.rd Dict.HENTIS_ALIGN_MODE = 0 → exec (.align k) s = .next (Safety.accepted (b.startJump k 0 d ptp) k 0x2100)) ∧
      (b.rd Dict.HENTIS_ALIGN_MODE ≠ 0 → b.rd Dict.HENTIS_ALIGN_TARGET ≠ 0 → exec (.align k) s = .next
        (Safety.accepted (b.startSlew k d ptp) k 0x2100)) ∧
      (b.rd Dict.HENTIS_ALIGN_MODE ≠ 0 → b.rd Dict.HENTIS_ALIGN_TARGET = 0 → b.slowestFtg = none → exec (.align k) s = .next
        (Safety.accepted (b.startSlew k d ptp) k 0x2100)) ∧
      (∀ n, b.rd Dict.HENTIS_ALIGN_MODE ≠ 0 → b.rd Dict.HENTIS_ALIGN_TARGET = 0 → b.slowestFtg = some n →
        exec (.align k) s = .next (Safety.accepted (b.startSlew k (reduceBy (1000 * b.ftgNum n) (b.ftgDen n) d) ptp) k 0x2100)))) ∧
  (∀ (s : State) (sess : Nat) (d : Int) (ptp : Bool), let t := s.startSlew sess d ptp
    t.aligning = true ∧ t.hentis.slewing = true ∧ t.hentis.alignStep = s.hentis.alignStep + d ∧
    t.hentis.alignLeft = s.hentis.alignLeft + d * 65536000000 ∧ t.hentis.byPtp = ptp ∧
    t.timebase = s.timebase ∧ Safety.raised s t Event.ALIGN_START 1 (param (d / 1000))) ∧
  (∀ (s : State) (mode : Nat) (d : Int), let t := s.jumpNow mode d
    t.hentis.jump = none ∧ (0 ≤ (s.timebase : Int) * 65536000000000 + s.dcoRest + d * 65536000000 → (t.timebase : Int) * 65536000000000 + t.dcoRest =
      (s.timebase : Int) * 65536000000000 + s.dcoRest + d * 65536000000) ∧
    Safety.raised s t Event.ALIGN_DONE mode (param (d / 1000))) ∧
  (∀ (s : State) (k : Fin 12), let b := s.begin.actBy k
    Safety.passesScalar b k Dict.HENTIS_ALIGN 0 0 2 → exec (.alignEndSlew k) s = .next (Safety.accepted b.endSlew k 0x2100)) ∧
  (∀ (s : State), (s.hentis.slewing = false → s.endSlew = s) ∧ (s.hentis.slewing = true →
    let removed := s.hentis.alignStep - s.hentis.alignLeft / 65536000000
    s.endSlew = (({ s with hentis := { s.hentis with slewing := false, alignStep := 0, alignLeft := 0 } } : State).movePhases
      removed).alignDone 1 removed)) ∧
  (∀ (s : State), let b := s.begin
    (s.dictUp = true → b.hentis.alignLeft = 0 → exec .alignDone s = .next b.endSlew) ∧
    (s.dictUp = true → b.hentis.alignLeft ≠ 0 → exec .alignDone s = .next b) ∧
    (b.hentis.jump = none → exec .alignJump s = .next b) ∧
    (∀ mode d, s.dictUp = true → b.hentis.jump = some (mode, d) → b.jumpDue = true → exec .alignJump s = .next (b.jumpNow mode d)) ∧
    (b.jumpDue = false → exec .alignJump s = .next b)) ∧
  (∀ (s : State) (k : Fin 12) (v : Nat), let b := s.begin.actBy k
    let target : Int := (b.rd Dict.TIMEBASE_SET_S * 1000000000 + b.rd Dict.TIMEBASE_SET_NS : Nat)
    Safety.passesScalar b k Dict.TIMEBASE_SET 0 0 v →
    (b.aligning = true → exec (.set k v) s = .next (b.refuseWrite k 0x2150 7 (.rule 0x62))) ∧
    (b.aligning = false → b.slowestFtg = none → exec (.set k v) s = .next
      (Safety.accepted (b.startJump k 3 ((target - b.timebase) * 1000) false) k 0x2150)) ∧
    (∀ n, b.aligning = false → b.slowestFtg = some n → exec (.set k v) s = .next
      (Safety.accepted (b.startJump k 3 ((target - (b.ftgAt n).nextStart) * 1000) false) k 0x2150))) ∧
  (∀ (s : State) (k : Fin 12) (v : Nat), let b := s.begin.actBy k
    Safety.passesScalar b k Dict.HENTIS_STEER_PHASE 0 0 v →
    (b.rd Dict.HENTIS_LOOP_MODE ≠ 1 → exec (.steerPhase k v) s = .next (b.refuseWrite k 0x2100 8 (.rule 0x63))) ∧
    (b.rd Dict.HENTIS_LOOP_MODE = 1 → exec (.steerPhase k v) s = .next
      (Safety.accepted (b.startSlew k (signed 32 v * 1000) b.hentis.byPtp) k 0x2100)))

/-- R308, R309, R318: frame timing generators start, run and stop. Where the rules leave a point open it takes the
model's reading of logs 42 and 64. -/
def Obligations.FrameTimingGenerators : Prop :=
  (∀ (s : State) (k : Fin 12) (n : Fin 8), let b := s.begin.actBy k; let on := b.wr Dict.FTG_ENABLE 1 n
    let num := b.rd Dict.FTG_RATE_NUM n; let den := b.rd Dict.FTG_RATE_DEN n
    Safety.passesScalar b k Dict.FTG_ENABLE n 0 1 →
    (num < den ∨ 240 * den < num → exec (.ftgEnable k n) s = .next
      (b.refuseWrite k (0x2130 + n) 1 (.field 0x12 Dict.FTG_RATE_NUM n))) ∧
    (den ≤ num → num ≤ 240 * den → b.ftgNum n ≤ b.rd Dict.FTG_OFFSET n * b.ftgDen n → exec (.ftgEnable k n) s = .next
      (b.refuseWrite k (0x2130 + n) 1 (.field 0x12 Dict.FTG_OFFSET n))) ∧
    (den ≤ num → num ≤ 240 * den → b.rd Dict.FTG_OFFSET n * b.ftgDen n < b.ftgNum n →
      ((b.ftgAt n).running = true → exec (.ftgEnable k n) s = .next
        (Safety.accepted (on.modFtg n (fun f => { f with stopping := false })) k (0x2130 + n))) ∧
      ((b.ftgAt n).running = false → b.flag Dict.FTG_ENABLE n = true → exec (.ftgEnable k n) s = .next
        (Safety.accepted on k (0x2130 + n))) ∧
      ((b.ftgAt n).running = false → b.flag Dict.FTG_ENABLE n = false → exec (.ftgEnable k n) s = .next
        (Safety.accepted ((on.modFtg n (fun f => { f with startAfter := on.timebase + 1000000 })).wrTime Dict.FTG_NEXT_START_S
          Dict.FTG_NEXT_START_NS ((on.modFtg n (fun f => { f with startAfter := on.timebase + 1000000 })).ftgNext n
            (on.timebase + 1000000)) n) k (0x2130 + n))))) ∧
  (∀ (s : State) (k : Fin 12) (n : Fin 8), let b := s.begin.actBy k; let off := b.wr Dict.FTG_ENABLE 0 n; let f := b.ftgAt n
    Safety.passesScalar b k Dict.FTG_ENABLE n 0 0 →
    (f.running = true → exec (.ftgDisable k n) s = .next
      (Safety.accepted (off.putFtg n { f with stopping := true }) k (0x2130 + n))) ∧
    (f.running = false → exec (.ftgDisable k n) s = .next
      (Safety.accepted (off.putFtg n { f with startAfter := 0 }) k (0x2130 + n)))) ∧
  (∀ (s : State) (n : Fin 8), let b := s.begin
    let j := if b.dictUp = true ∧ b.slowestFtg = some n.val then b.jumpIfDue else b; let f := j.ftgAt n
    3 ≤ j.devState → j.devState ≤ 5 →
    (f.running = true → f.nextStart ≤ j.timebase → f.stopping = true → exec (.ftgBaseFrameStart n) s = .next (j.stopFtg n)) ∧
    (f.running = true → f.nextStart ≤ j.timebase → f.stopping = false → exec (.ftgBaseFrameStart n) s = .next
      ((j.inc Dict.FTG_BASE_FRAMES n).baseFrame n f.nextStart)) ∧
    (f.running = true → j.timebase < f.nextStart → exec (.ftgBaseFrameStart n) s = .next j) ∧
    (f.running = false → j.flag Dict.FTG_ENABLE n = false → exec (.ftgBaseFrameStart n) s = .next j) ∧
    (f.running = false → j.flag Dict.FTG_ENABLE n = true → f.startAfter ≠ 0 → j.ftgNext n f.startAfter ≤ j.timebase →
      let w := if f.everRun then j.inc Dict.FTG_BASE_FRAMES n else j
      exec (.ftgBaseFrameStart n) s = .next (((w.wr Dict.FTG_STATE 1 n).raise Event.FTG_STARTED n
        (w.rd Dict.FTG_RATE_NUM n)).baseFrame n (j.ftgNext n f.startAfter))))

/-- R323, R336 to R341, R343: serial audio ports, their clocks, and common starts. Where the rules leave a point open
it takes the model's reading of logs 26 and 27. -/
def Obligations.SerialPortsAndStarts : Prop :=
  (∀ (s : State) (k : Fin 12) (n : Fin 8), let b := s.begin.actBy k; let on := b.wr Dict.SAP_ENABLE 1 n
    Safety.passesScalar b k Dict.SAP_ENABLE n 0 1 →
    (b.flag Dict.SAP_ENABLE n = true → exec (.sapEnable k n) s = .next (Safety.accepted b k (0x3000 + n))) ∧
    (b.flag Dict.SAP_ENABLE n = false → b.rd Dict.SAP_FORMAT n = 2 → 49152000 < 32 * b.sapSlots n * b.matrixRate →
      exec (.sapEnable k n) s = .next (b.refuseWrite k (0x3000 + n) 1 (.atField 0x74 (0x3000 + n) 4))) ∧
    (b.flag Dict.SAP_ENABLE n = false → b.rd Dict.SAP_FORMAT n ≠ 2 ∨ 32 * b.sapSlots n * b.matrixRate ≤ 49152000 →
      (∀ d, on.destRefusal 1 n = some d → exec (.sapEnable k n) s = .next
        (b.refuseWrite k (0x3000 + n) 1 (.atField d (0x3000 + n) 0x0B))) ∧
      (on.destRefusal 1 n = none → b.delayFits = false → exec (.sapEnable k n) s = .next
        (b.refuseWrite k (0x3000 + n) 1 (.rule 0x14))) ∧
      (on.destRefusal 1 n = none → b.delayFits = true → exec (.sapEnable k n) s = .next (Safety.accepted
        ((((on.setDividers n).putEndpoint (256 + n) Endpoint.init).settleDelay).startAlone.judgeSap n) k (0x3000 + n))))) ∧
  (∀ (s : State) (k : Fin 12) (n : Fin 8), let b := s.begin.actBy k
    let off := (((b.wr Dict.SAP_ENABLE 0 n).putEndpoint (256 + n) Endpoint.init).settleDelay).judgeSap n
    Safety.passesScalar b k Dict.SAP_ENABLE n 0 0 →
    ((b.endpointAt (256 + n)).started = true → exec (.sapDisable k n) s = .next
      (Safety.accepted (off.raise Event.AUDIO_STOPPED (2 ^ n.val) 0) k (0x3000 + n))) ∧
    ((b.endpointAt (256 + n)).started = false → exec (.sapDisable k n) s = .next (Safety.accepted off k (0x3000 + n)))) ∧
  (∀ (s : State) (n : Fin 8) (x : List Int), let b := s.begin; let key := 256 + n.val
    let w := b.modEndpoint key (fun e => { e with seenAt := Store.write (fun _ => 0) e.seenAt 0 (b.now + 1) })
    let e := w.endpointAt key
    b.alive = true → b.flag Dict.SAP_ENABLE n = true → b.sapSlave n = true →
    (e.started = false ∨ e.lostNow = true → exec (.slaveSapFrame n x) s = .next w) ∧
    (e.started = true → e.lostNow = false → w.sapSends n = true →
      (∀ y rest, e.fifo = y :: rest → exec (.slaveSapFrame n x) s = .next
        ((w.putEndpoint key { e with fifo := rest, last := y }).out (.audio 1 n y))) ∧
      (e.fifo = [] → exec (.slaveSapFrame n x) s = .next ((w.countError n true).out (.audio 1 n e.last)))) ∧
    (e.started = true → e.lostNow = false → w.sapSends n = false →
      (e.fifo.length < 64 → exec (.slaveSapFrame n x) s = .next (w.putEndpoint key { e with fifo := e.fifo ++ [x] })) ∧
      (64 ≤ e.fifo.length → exec (.slaveSapFrame n x) s = .next (w.countError n false)))) ∧
  (∀ (s : State) (n : Fin 8), let b := s.begin; let key := 256 + n.val; let e := b.endpointAt key
    b.alive = true → b.flag Dict.SAP_ENABLE n = true → b.sapSlave n = true →
    (e.lostNow = true → exec (.sapClockLost n) s = .next b) ∧
    (e.lostNow = false → b.since (max 1 (Store.read (fun _ => 0) e.seenAt 0)) (2 * 1000000000 / b.matrixRate) = true →
      exec (.sapClockLost n) s = .next ((((b.putEndpoint key { e with lostNow := true, good := false }).inc
        Dict.SAP_CLOCK_LOSSES n).judgeSap n).raise Event.SAP_CLOCK_LOST key 0))) ∧
  (∀ (s : State) (kind num : Nat), let b := s.begin; let key := audioKey kind num; let e := b.endpointAt key
    let ramp := b.framesIn (b.rd Dict.AUDIO_START_MUTE_RAMP)
    let w := b.putEndpoint key { e with lostNow := kind = 3 && e.lostNow, mismatch := false, fifo := halfFull, rampLeft := ramp, rampLength := ramp }
    b.alive = true → b.clocked kind num = true → e.good = true →
    (kind = 1 → (e.lostNow = true ∨ e.mismatch = true) → exec (.sapClockRestored kind num) s = .next
      ((w.judgeSap num).raise Event.SAP_CLOCK_RESTORED key (e.rate / 1000000))) ∧
    (kind ≠ 1 → e.mismatch = true → exec (.sapClockRestored kind num) s = .next
      (w.raise Event.SAP_CLOCK_RESTORED key (e.rate / 1000000))) ∧
    (e.lostNow = false → e.mismatch = false → exec (.sapClockRestored kind num) s = .next b)) ∧
  (∀ (s : State) (num rate : Nat) (pcm : Bool), let b := s.begin; let key := 512 + num; let e := b.endpointAt key
    let nominal := b.matrixRate * 1000000; let gap := rateGap rate nominal
    let w := b.putEndpoint key { e with rate := rate, good := decide (gap * 1000000 ≤ 500 * nominal) }
    b.alive = true →
    (gap * 1000000 ≤ 1000 * nominal → pcm = true → exec (.audioRateWindow 2 num rate pcm) s = .next
      (w.modEndpoint key (fun e => { e with mismatch := false }))) ∧
    ((1000 * nominal < gap * 1000000 ∨ pcm = false) → e.mismatch = true → exec (.audioRateWindow 2 num rate pcm) s = .next
      (w.modEndpoint key (fun e => { e with mismatch := true }))) ∧
    ((1000 * nominal < gap * 1000000 ∨ pcm = false) → e.mismatch = false → exec (.audioRateWindow 2 num rate pcm) s = .next
      ((w.modEndpoint key (fun e => { e with mismatch := true })).raise Event.AUDIO_RATE_MISMATCH key (rate / 1000000)))) ∧
  (∀ (s : State) (num : Fin 8) (rate : Nat) (pcm : Bool), let b := s.begin; let key := 256 + num.val; let e := b.endpointAt key
    let nominal := b.matrixRate * 1000000; let gap := rateGap rate nominal
    let w := (b.putEndpoint key { e with rate := rate, good := decide (gap * 1000000 ≤ 500 * nominal) }).wr
      Dict.SAP_MEASURED_RATE rate num
    b.alive = true → w.clocked 1 num = true →
    (e.rate = 0 ∨ rateGap rate e.rate * 1000000 ≤ 100 * e.rate →
      (gap * 1000000 ≤ 1000 * nominal ∨ e.mismatch = true ∨ e.lostNow = true →
        exec (.audioRateWindow 1 num rate pcm) s = .next w) ∧
      (1000 * nominal < gap * 1000000 → e.mismatch = false → e.lostNow = false →
        exec (.audioRateWindow 1 num rate pcm) s = .next (((w.modEndpoint key (fun e => { e with mismatch := true })).judgeSap
          num).raise Event.AUDIO_RATE_MISMATCH key (rate / 1000000))))) ∧
  (∀ (s : State) (k : Fin 12), let b := s.begin.actBy k
    let t := b.rd Dict.AUDIO_START_START_S * 1000000000 + b.rd Dict.AUDIO_START_START_NS
    Safety.passesScalar b k Dict.AUDIO_START_TRIGGER 0 0 1 →
    (t = 0 → exec (.audioTriggerStart k) s = .next (Safety.accepted
      { b with audio := { b.audio with startAt := b.sampleFrom (b.timebase + 100000) + 1 } } k 0x3020)) ∧
    (t ≠ 0 → exec (.audioTriggerStart k) s = .next (Safety.accepted
      { b with audio := { b.audio with startAt := max b.audio.next (b.sampleFrom t) + 1 } } k 0x3020))) ∧
  (∀ (s : State) (k : Fin 12), let b := s.begin.actBy k
    Safety.passesScalar b k Dict.AUDIO_START_TRIGGER 0 0 2 →
    exec (.audioTriggerStop k) s = .next (Safety.accepted (starters.foldl (fun s e =>
      if s.starterOn e.1 e.2 = true ∧ s.masked e.1 e.2 = true then s.beginStop e.1 e.2 else s)
      { b with audio := { b.audio with startAt := 0 } }) k 0x3020)) ∧
  (∀ (s : State), let b := s.begin
    (b.alive = true → b.flag Dict.AUDIO_START_PIN_ENABLE = true → exec .audStartAsserted s = .next
      { b with audio := { b.audio with startAt := b.sampleFrom (b.timebase + 100000) + 1 } }) ∧
    (b.flag Dict.AUDIO_START_PIN_ENABLE = false → exec .audStartAsserted s = .next b)) ∧
  (∀ (s : State), let b := s.begin; let i := b.audio.startAt
    let l := starters.filter (fun e => b.starterOn e.1 e.2 && b.masked e.1 e.2 && !(b.endpointAt (audioKey e.1 e.2)).started)
    let w := ({ b with audio := { b.audio with startAt := 0 } } : State).startTogether l (i - 1) (b.rd Dict.AUDIO_START_SAP_MASK)
    let due (t : State) := starters.filter (fun e => t.indexDue (t.endpointAt (audioKey e.1 e.2)).startAt)
    b.alive = true →
    (b.indexDue i = false → due b = [] → exec .audioStarted s = .next b) ∧
    (b.indexDue i = true → due w = [] → exec .audioStarted s = .next w) ∧
    (∀ e rest, b.indexDue i = false → due b = e :: rest → exec .audioStarted s = .next
      (b.startTogether (due b) ((b.endpointAt (audioKey e.1 e.2)).startAt - 1)
        (maskOf (((due b).filter (fun e => e.1 == 1)).map Prod.snd)))))

/-- R323 to R334, R344, R345: sample frames of the matrix, streams, and the tables that direct them. Where the rules
leave a point open it takes the model's reading of logs 26, 27, 28 and 72. -/
def Obligations.SoundMatrixAndStreams : Prop :=
  (∀ (s : State) (saps : List (Nat × List Int)) (inputs : List (Nat × List (List Int))), let b := s.begin
    let i := b.audio.next; let p := (b.takeSources (b.sampleAt i) saps inputs).passPresents (b.sampleAt i)
    let mixed := (List.range 256).foldl (fun s k => s.stepChannel p.2 k) p.1
    let sent := allHeads.foldl State.feedHead ((List.range 64).foldl State.feedSender
      ((List.range 8).foldl State.feedSap ((List.range 8).foldl State.driveClocks mixed)))
    let t := (List.range 8).foldl State.judgeSap ([0, 1].foldl State.feedCapture sent).endStops
    3 ≤ b.devState → b.devState ≤ 5 →
    (i * 1000000000 ≤ b.timebase * b.matrixRate → exec (.sampleFrame saps inputs) s = .next
      { t with audio := { t.audio with next := i + 1 } }) ∧
    (b.timebase * b.matrixRate < i * 1000000000 → exec (.sampleFrame saps inputs) s = .next b)) ∧
  (∀ (s : State) (k : Fin 64) (path : Fin 2) (seq : Nat) (x : List (List Int)), let b := s.begin; let key := 768 + k.val
    let row := b.streamEntryAt k; let e := b.endpointAt key
    let heard : Endpoint := { e with seenAt := Store.write (fun _ => 0) e.seenAt path (b.now + 1), lostPaths := putBit e.lostPaths path false }
    b.alive = true → b.streamOn k = true → (path.val = 0 ∨ byteAt row 2 ≠ 0xFF) →
    (e.started = true → e.lostNow = false → exec (.streamPacketRx k path seq x) s = .next
      (b.putEndpoint key (b.holdPacket heard (leAt row 20 2) (seq % 65536) x))) ∧
    (e.started = false ∨ e.lostNow = true → exec (.streamPacketRx k path seq x) s = .next (b.putEndpoint key (b.holdPacket
      { heard with started := true, lostNow := false, fifo := halfFull, held := [], nextSeq := 0 } (leAt row 20 2)
      (seq % 65536) x)))) ∧
  (∀ (s : State) (e : Endpoint) (playout seq : Nat) (x : List (List Int)), e.nextSeq = 0 → seq < 65536 →
    s.holdPacket e playout seq x =
      { e with held := e.held ++ [(seq, s.now + playout * 1000, x)], nextSeq := (seq + 1) % 65536 + 1 }) ∧
  (∀ (s : State) (k : Fin 64) (path : Fin 2), let b := s.begin; let key := 768 + k.val; let e := b.endpointAt key
    let pair := byteAt (b.streamEntryAt k) 2 != 0xFF; let lost := putBit e.lostPaths path true
    b.alive = true → b.streamOn k = true → (path.val = 0 ∨ pair = true) → bit e.lostPaths path = false →
    b.since (max 1 (Store.read (fun _ => 0) e.seenAt path)) (3 * b.packetTime k) = true →
    (pair = true → lost ≠ 3 → exec (.streamLost k path) s = .next ((b.putEndpoint key { e with
      lostPaths := lost, lostNow := false }).raise Event.STREAM_LOST key path)) ∧
    (pair = true → lost = 3 → exec (.streamLost k path) s = .next ((b.putEndpoint key { e with
      lostPaths := lost, lostNow := true, held := [] }).raise Event.STREAM_LOST key 2)) ∧
    (pair = false → lost = 1 → exec (.streamLost k path) s = .next ((b.putEndpoint key { e with
      lostPaths := lost, lostNow := true, held := [] }).raise Event.STREAM_LOST key path))) ∧
  (∀ (s : State) (k : Fin 12) (data : List Byte), let b := s.begin.actBy k; let w := b.window k Dict.AUDIO_MATRIX_CHANNEL_WINDOW
    let entries := chunks 16 data.length data; let t := putEntries State.putChannelEntry b w entries
    let bad (j : Nat) (row : List Byte) : Option Refuse := if t.channelValid row then (t.channelRefusal j).map (fun d => .tableEntry d j)
      else some { Refuse.plain 0x06090030 0x12 with entry := j }
    Safety.passes b k Dict.AUDIO_MATRIX_CHANNEL_TABLE 0 0 data →
    (firstBad bad w entries = none → exec (.channelTableWrite k data) s = .next (Safety.accepted t k 0x3010)) ∧
    (∀ r, firstBad bad w entries = some r → exec (.channelTableWrite k data) s = .next (b.refuseWrite k 0x3010 4 r))) ∧
  (∀ (s : State) (k : Fin 12) (data : List Byte), let b := s.begin.actBy k; let w := b.window k Dict.AUDIO_MATRIX_STREAM_WINDOW
    let entries := chunks 32 data.length data; let t := putEntries State.setStream b w entries
    Safety.passes b k Dict.AUDIO_MATRIX_STREAM_TABLE 0 0 data →
    (firstBad (b.judgeStream t) w entries = none → exec (.streamTableWrite k data) s = .next
      (Safety.accepted t.settleDelay.startAlone k 0x3010)) ∧
    (∀ r, firstBad (b.judgeStream t) w entries = some r → exec (.streamTableWrite k data) s = .next
      (b.refuseWrite k 0x3010 7 r))) ∧
  (∀ (s : State) (k : Fin 12) (data : List Byte), let b := s.begin.actBy k; let t := b.wrDom Dict.AUDIO_MATRIX_HEAD_MAP data
    Safety.passes b k Dict.AUDIO_MATRIX_HEAD_MAP 0 0 data →
    (∀ r, allHeads.findSome? (t.judgeHeadMap data) = some r → exec (.headMapWrite k data) s = .next (b.refuseWrite k 0x3010 5 r)) ∧
    (allHeads.findSome? (t.judgeHeadMap data) = none → t.audioAllOff = false → b.delayFits = false →
      exec (.headMapWrite k data) s = .next (b.refuseWrite k 0x3010 5 (.rule 0x14))) ∧
    (allHeads.findSome? (t.judgeHeadMap data) = none → (t.audioAllOff = true ∨ b.delayFits = true) →
      exec (.headMapWrite k data) s = .next (Safety.accepted t.settleDelay k 0x3010))) ∧
  (∀ (s : State) (k : Fin 12) (v : Nat), let b := s.begin.actBy k; let w := b.wr Dict.AUDIO_MATRIX_MATRIX_RATE_NUM v
    (Safety.passesScalar b k Dict.AUDIO_MATRIX_MATRIX_RATE_NUM 0 0 v → exec (.matrixRateWrite k false v) s = .next (Safety.accepted
      { w with audio := { w.audio with next := w.sampleFrom w.timebase, lines := [], startAt := 0 } } k 0x3010)) ∧
    (Safety.passesScalar b k Dict.AUDIO_MATRIX_MATRIX_RATE_DEN 0 0 v → exec (.matrixRateWrite k true v) s = .next
      (Safety.accepted (b.wr Dict.AUDIO_MATRIX_MATRIX_RATE_DEN v) k 0x3010)))

/-- R22, R349, R351, R357, R358, R360, R362: the store tier and DRAM. Where the rules leave a point open it takes the
model's reading of logs 15, 17, 47, 68 and 72. -/
def Obligations.StoreTierAndDram : Prop :=
  (∀ (s : State) (k : Fin 12) (v : Nat), let b := s.begin.actBy k
    let w := b.wr Dict.STORE_TIER_SCAN_MIB v; let sum := w.rd Dict.STORE_TIER_SCAN_MIB + w.rd Dict.STORE_TIER_STAGE_MIB
    Safety.passesScalar b k Dict.STORE_TIER_SCAN_MIB 0 0 v →
    (sum ≤ 336 → exec (.scanMibWrite k false v) s = .next (Safety.accepted
      (w.wr Dict.STORE_TIER_LINING_MIB (336 - sum)) k 0x3200)) ∧
    (336 < sum → exec (.scanMibWrite k false v) s = .next (b.refuseWrite k 0x3200 1 (.atField 0x80 0x3200 1)))) ∧
  (∀ (s : State) (k : Fin 12) (v : Nat), let b := s.begin.actBy k
    let w := b.wr Dict.STORE_TIER_STAGE_MIB v; let sum := w.rd Dict.STORE_TIER_SCAN_MIB + w.rd Dict.STORE_TIER_STAGE_MIB
    Safety.passesScalar b k Dict.STORE_TIER_STAGE_MIB 0 0 v →
    (sum ≤ 336 → exec (.scanMibWrite k true v) s = .next (Safety.accepted
      (w.wr Dict.STORE_TIER_LINING_MIB (336 - sum)) k 0x3200)) ∧
    (336 < sum → exec (.scanMibWrite k true v) s = .next (b.refuseWrite k 0x3200 2 (.atField 0x80 0x3200 2)))) ∧
  (∀ (s : State) (w : StoreWord), let b := s.begin
    let base := match partitionOf w.hit with
      | 0 => 0 | 1 => b.scanMib * 1024 | 2 => (336 - b.stageMib) * 1024 | 3 => 336 * 1024 | _ => 368 * 1024
    let stripe := (base + w.offset) / 4; let slice := stripe % 64; let row := (17 * slice + w.bank) * 8192 + w.row
    b.alive = true →
    exec (.storeEccError w false) s = .next ((((b.inc Dict.STORE_TIER_CORRECTED).raise Event.STORE_CORRECTED slice
      stripe).noteCorrected).rowCorrected 2 row) ∧
    exec (.storeEccError w true) s = .next ((((b.inc Dict.STORE_TIER_UNCORRECTABLE).raise Event.STORE_UNCORRECTABLE
      (partitionOf w.hit) w.offset).hitStore w.offset w.hit).hardFault 2 row 2)) ∧
  (∀ (s : State) (offset line x buffer y m : Nat) (c : Fin 8) (h : Fin 32) (n : Fin 64) (i : Fin 16) (k : Fin 2),
    s.hitStore offset (.headBuffer c buffer x y m) = s.modCanvas c (fun v => { v with damaged := v.damaged ++ [(buffer, x, y, m)] }) ∧
    s.hitStore offset (.scanLine h line x) = s.underrun h line x ∧ s.hitStore offset (.ipLine c k line x) = s.underrunIp c k line x ∧ s.hitStore offset (.band n line) = s.bandBreaks n line ∧
    s.hitStore offset (.lining c) = s.invalidateLining c 4 ∧
    s.hitStore offset .system = (s.inc Dict.STORE_TIER_SYSTEM_RESTORES).raise Event.SYSTEM_RESTORED offset 0 ∧
    (s.imageBadAt i = false → s.hitStore offset (.overcoat i) =
      (s.putImageBad i true).raise Event.OVERCOAT_IMAGE_FAULT i (Config.faultCrc i s.now % 2 ^ 32)) ∧
    (s.imageBadAt i = true → s.hitStore offset (.overcoat i) = s.putImageBad i true)) ∧
  (∀ (s : State) (w : DramWord), let b := s.begin; let u := b.inc Dict.DRAM_UNCORRECTABLE
    let m := if b.codewordGuarded w.hit then b.stripeChannel w.address w.parity else b.openChannel w.address
    let row := m * 524288 + w.row % 524288; let c := (b.inc Dict.DRAM_CORRECTED).raise Event.DRAM_CORRECTED m w.row
    b.alive = true →
    exec (.dramEccError w false) s = .next ((({ c with life := { c.life with
      dramCorrections := Store.change (fun _ => 0) c.life.dramCorrections m (· + 1) } } : State).noteCorrected).rowCorrected
        5 row) ∧
    (u.codewordGuarded w.hit = true → exec (.dramEccError w true) s = .next (u.hardFault 5 row 2)) ∧
    (u.codewordGuarded w.hit = false → exec (.dramEccError w true) s = .next
      (((u.hitDram w.hit).raise Event.DRAM_UNCORRECTABLE m (w.address / 1048576)).hardFault 5 row 2))) ∧
  (∀ (l : List Byte) (j : Nat), ∀ h : j < l.length, rebuiltByte l (parityOf l) j = l[j]) ∧
  (∀ (s : State) (a : Nat), s.stripeChannel a true / 8 = s.stripeChannel a false / 8 ∧
    s.stripeChannel a true ≠ s.stripeChannel a false) ∧
  (∀ (s : State) (a : Nat), a < s.dramSetting 4 * 1048576 → ∀ x, (s.hitDram (.region a)).hostByte x =
    if a / 8 * 8 ≤ x ∧ x < a / 8 * 8 + 8 then 0 else s.hostByte x) ∧
  (∀ (s : State) (n : Fin 64) (frame : Nat), let t := s.hitDram (.inputFrame n frame)
    (t.inputAt n).frames = (s.inputAt n).frames.filter (fun f => f.number != frame) ∧
    t.rd Dict.INPUT_FRAMES_DAMAGED n = (s.inc Dict.INPUT_FRAMES_DAMAGED n).rd Dict.INPUT_FRAMES_DAMAGED n) ∧
  (∀ (s : State) (k : Fin 2) (frame a : Nat), ((s.hitDram (.captured k frame a)).captureAt k).holes =
    (s.captureAt k).holes ++ [(frame, a)]) ∧
  (∀ (s : State) (m : Fin 24) (row : Nat), let b := s.begin; let u := unitCode 5 (m * 524288 + row)
    b.alive = true →
    (b.resil.copying.any (fun e => e.1 == u) = true → exec (.dramRowRemapped m row) s = .next
      ((b.endRemap m row).endCopy 5 (m * 524288 + row))) ∧
    (b.resil.copying.any (fun e => e.1 == u) = false → exec (.dramRowRemapped m row) s = .next b)) ∧
  (∀ (s : State) (cause : DramWake), let b := s.begin
    let woken : State := { b with dram := { b.dram with cycleAt := b.now + 1, channel := b.dram.channel.filter (fun e => e.2 != 1) } }
    b.dramRuns = true → b.dramAwake = false →
    let due := match cause with
      | .timer => b.dram.cycleAt = 0 ∨ b.since b.dram.cycleAt (b.cycleUs * 1000) = true
      | .gather _ fill => 32768 ≤ fill
      | .fifo h fill => (b.headAt h).running = true ∧ b.headRd h Dict.HEAD_BUFFER_MODE = 1 ∧ fill ≤ b.fifoFloor h
    (due → exec (.dramSleepCycle cause) s = .next woken) ∧ (¬ due → exec (.dramSleepCycle cause) s = .next b)) ∧
  (∀ (s : State), let b := s.begin
    let idle := b.dram.cycleAt = 0 ∨ b.since b.dram.cycleAt ((15 + b.dramPower 2) * 1000) = true
    (b.dramRuns = true → b.dramAwake = false → idle → exec .dramIdleSleep s = .next ((List.range 24).foldl (fun s m =>
      if s.dramChannel m = 0 then s.setChannel m 1 else s) b)) ∧
    (b.dramRuns = true → b.dramAwake = true ∨ ¬ idle → exec .dramIdleSleep s = .next b)) ∧
  (∀ (s : State), s.dramRuns = true → s.dramAwake = false → s.dram.cycleAt = 0 → ∀ t, exec .dramIdleSleep s = .next t → ∀ m, m < 24 →
    t.dramChannel m ≠ 0) ∧
  (∀ (s : State) (failed : List Nat), let b := s.begin; let w : State := { b with dram := { b.dram with recentreAt := b.now + 1 } }
    b.dramRuns = true →
    (b.dram.recentreAt = 0 ∨ b.since b.dram.recentreAt 100000000 = true → exec (.dramRecentre failed) s = .next
      ((List.range 24).foldl (fun s m => if m ∈ failed ∧ s.dramChannel m ≠ 3 then s.fault 6 m else s) w)) ∧
    (b.dram.recentreAt ≠ 0 → b.since b.dram.recentreAt 100000000 = false → exec (.dramRecentre failed) s = .next b)) ∧
  (∀ (s : State) (identity : Nat) (failed : List (Fin 24)), let b := s.begin; let key := identity :: b.dram.inForce.take 3
    let lost := (List.range 24).any (fun m => b.dramChannel m == 3)
    let cap := dataCapacity (b.dramSetting 1) (b.dramSetting 2) (b.dramSetting 3)
    let t (kind : Nat) := (b.wr Dict.DRAM_TRAINING kind).wr Dict.DRAM_DATA_CAPACITY cap
    let up (kind : Nat) : State := ({ t kind with dev := { (t kind).dev with dramDone := true } } : State).wr Dict.DRAM_STATE
      (if lost then 3 else 2)
    let told (u : State) := ((u.wr Dict.DRAM_POOL_FREE (2 * u.poolFree)).milestone 2)
    b.devState = 1 → b.dev.bistDone = true → b.dev.dramDone = false →
    (b.dram.trained = key → exec (.dramTrained identity true failed) s = .next
      ((told (up 1)).raise Event.DRAM_TRAINED 1 ((told (up 1)).msSince 1))) ∧
    (b.dev.bootAt + (b.dev.startTimes[1]?).getD 0 * 1000000 + 1100000000 ≤ b.now → (up 2).floor = false →
      let w : State := { up 2 with dram := { (up 2).dram with training := key, trained := key } }
      let x := told ((List.range 24).foldl (fun s m => if (failed.map Fin.val).contains m then s.hardFault 6 m 2 else s) w)
      exec (.dramTrained identity false failed) s = .next (x.raise Event.DRAM_TRAINED 2 (x.msSince 1))) ∧
    (b.dev.bootAt + (b.dev.startTimes[1]?).getD 0 * 1000000 + 1100000000 ≤ b.now → (up 2).floor = true →
      let w : State := { up 2 with dram := { (up 2).dram with training := key, trainedNew := true } }
      let x := told ((List.range 24).foldl (fun s m => if (failed.map Fin.val).contains m then s.hardFault 6 m 2 else s) w)
      exec (.dramTrained identity false failed) s = .next (x.raise Event.DRAM_TRAINED 2 (x.msSince 1))) ∧
    (b.now < b.dev.bootAt + (b.dev.startTimes[1]?).getD 0 * 1000000 + 1100000000 →
      exec (.dramTrained identity false failed) s = .next b))

/-- R365 to R372, R375: the Pocket store, its drives, captures and clips. Where the rules leave a point open it takes
the model's reading of logs 29, 69 and 72. -/
def Obligations.PocketStore : Prop :=
  (∀ (s : State) (k : Fin 12), let b := s.begin.actBy k
    let empty : State := { b with pocket := { b.pocket with directory := [], dirGen := 0 } }
    let starting := [0, 1].foldl (fun s k => if bit (s.rd Dict.PCIE_RP_ENABLE) k then
      (let w := (s.wr Dict.POCKET_DRIVE_STATE 1 0 k).out (.nvme k .identify)
       if w.rd Dict.PCIE_RP_STATE 0 k = 2 then w else w.wr Dict.PCIE_RP_STATE 1 0 k) else s) empty
    Safety.passesScalar b k Dict.POCKET_ENABLE 0 0 1 →
    (b.rd Dict.POCKET_ENABLE = 0 → exec (.pocketEnable k 1) s = .next
      (Safety.accepted (starting.wr Dict.POCKET_ENABLE 1).countClips.judgePlayers k 0x3220)) ∧
    (b.rd Dict.POCKET_ENABLE = 1 → exec (.pocketEnable k 1) s = .next (Safety.accepted b k 0x3220))) ∧
  (∀ (s : State) (k : Fin 12), let b := s.begin.actBy k; let off := [0, 1].foldl State.leaveDrive ((b.stopCaptures 2).wr Dict.POCKET_ENABLE 0)
    let empty : State := { off with pocket := { off.pocket with directory := [], dirGen := 0, waiting := [] } }
    Safety.passesScalar b k Dict.POCKET_ENABLE 0 0 0 →
    (b.rd Dict.POCKET_ENABLE = 1 → exec (.pocketEnable k 0) s = .next (Safety.accepted ([0, 1].foldl (fun s k =>
      (s.wr Dict.POCKET_DRIVE_STATE 0 0 k).wr Dict.POCKET_DRIVE_MANAGED 0 0 k) empty).countClips.judgePlayers k 0x3220)) ∧
    (b.rd Dict.POCKET_ENABLE = 0 → exec (.pocketEnable k 0) s = .next (Safety.accepted b k 0x3220))) ∧
  (∀ (s : State) (k : Fin 2) (d : DriveFound), let b := s.begin; let managed := min (d.blocks * 4096) (2 ^ 45)
    b.dictUp = true → b.flag Dict.POCKET_ENABLE = true → bit (b.rd Dict.PCIE_RP_ENABLE) k = true →
    b.rd Dict.POCKET_DRIVE_STATE 0 k ≠ 2 →
    (d.blocksFit = false → exec (.pocketDriveUp k d) s = .next (b.wr Dict.POCKET_DRIVE_STATE 3 0 k)) ∧
    (d.blocksFit = true → exec (.pocketDriveUp k d) s = .next (((((((((b.takeDrive k d).takeDirectory k d.copies).shareDirectory k
      b.pocket.dirGen d.copies).wr Dict.POCKET_DRIVE_STATE 2 0 k).dropFormatted k d.copies).wr Dict.PCIE_RP_STATE 2 0 k).wr Dict.POCKET_DRIVE_MANAGED managed 0 k).countClips.judgePlayers).raise
      Event.POCKET_DRIVE_UP k (managed / 2 ^ 30)))) ∧
  (∀ (s : State) (k : Fin 2) (status : Nat), let b := s.begin; let st := b.rd Dict.POCKET_DRIVE_STATE 0 k
    let off := (b.stopCaptures k).wr Dict.POCKET_DRIVE_STATE 4 0 k
    let down : State := { off with pocket := { off.pocket with queues := Store.write (fun _ => 0) off.pocket.queues k 0 } }
    let fail (w : State) := let t := w.countClips.raise Event.POCKET_DRIVE_DOWN k status
      (((List.range 32).filter (fun n => t.flag Dict.POCKET_PLAYER_ENABLE n && t.playerUses n k)).foldl
        (fun s n => s.readFaultOf n k) t).judgePlayers
    b.dictUp = true →
    (st = 1 ∨ st = 2 → exec (.pocketDriveDown k false status) s = .next (fail down) ∧
      exec (.pocketDriveDown k true status) s = .next (fail (down.wr Dict.PCIE_RP_STATE 0 0 k))) ∧
    (st ≠ 1 → st ≠ 2 → ∀ link, exec (.pocketDriveDown k link status) s = .next b)) ∧
  (∀ (s : State) (k : Fin 12) (c : Fin 2), let b := s.begin.actBy k; let a := b.captureAt c
    let source := b.rd Dict.POCKET_CAP_SOURCE 0 c; let clip := b.rd Dict.POCKET_CAP_CLIP 0 c
    let drive := b.rd Dict.POCKET_CAP_DRIVE 0 c; let audio := b.rd Dict.POCKET_CAP_AUDIO 0 c
    let room (f : Clip) := if audio % 256 = 0 then 0 else soundRoom b.matrixRate f.rateNum f.rateDen
    let taken (f : Clip) : Clip := { f with state := 2, drive := drive, audioChannels := audio % 256, audioRate := if audio % 256 = 0 then 0 else b.matrixRate, frameBlocks := blocksPerFrame f.format f.width f.height (audio % 256) (room f), createdS := b.tS }
    Safety.passesScalar b k Dict.POCKET_CAP_COMMAND 0 c 1 →
    (a.clip ≠ 0 → exec (.captureStart k c) s = .next (b.refuseWrite k 0x3220 (0x28 + c) (.atField 0x12 0x3220 (0x28 + c)))) ∧
    (a.clip = 0 → ((b.clipAt clip).state ≠ 0 ∨ b.driveReady drive = false) → exec (.captureStart k c) s = .next
      (b.refuseWrite k 0x3220 (0x28 + c) (.atField 0x83 0x3220 (0x22 + c)))) ∧
    (a.clip = 0 → (b.clipAt clip).state = 0 → b.driveReady drive = true → b.captureSource source clip = none →
      exec (.captureStart k c) s = .next (b.refuseWrite k 0x3220 (0x28 + c) (.atField 0x82 0x3220 (0x20 + c)))) ∧
    (∀ f, a.clip = 0 → (b.clipAt clip).state = 0 → b.driveReady drive = true → b.captureSource source clip = some f →
      (source / 256 = 1 → b.potentiallyProtected 1 (source % 256) = false) →
      audio % 256 ≤ 16 → audio / 256 + audio % 256 ≤ 256 →
      ((List.range (audio % 256)).map (fun i => audio / 256 + i)).findSome? (fun j => b.feedRefusal j (8, c)) = none →
      overBudget (b.rd Dict.POCKET_WRITE_BUDGET 0 drive) (addRate (b.writeClaim drive) (taken f).rateBytes) = false →
      ∃ t, exec (.captureStart k c) s = .next (Safety.accepted t k 0x3220) ∧
      t.rd Dict.POCKET_CAP_STATE 0 c = 1 ∧ t.rd Dict.POCKET_CAP_FRAMES 0 c = 0 ∧ (t.captureAt c).clip = clip + 1 ∧
      (t.captureAt c).source = source ∧ Safety.raised b t Event.POCKET_CAPTURE_STARTED c clip)) ∧
  (∀ (s : State) (k : Fin 12) (c : Fin 2), let b := s.begin.actBy k; let a := b.captureAt c
    Safety.passesScalar b k Dict.POCKET_CAP_COMMAND 0 c 2 →
    (a.clip = 0 → exec (.captureStop k c) s = .next (Safety.accepted b k 0x3220)) ∧
    (a.clip ≠ 0 → a.flushed = false → a.stopping = false →
      (a.queue = [] → b.captureRuns a.source = false → exec (.captureStop k c) s = .next
        (Safety.accepted (b.endCapture c a.written 0) k 0x3220)) ∧
      (a.queue ≠ [] ∨ b.captureRuns a.source = true → exec (.captureStop k c) s = .next (Safety.accepted
        ((b.putCapture c { a with stopping := true, closed := !b.captureRuns a.source }).wr Dict.POCKET_CAP_STATE 2 0 c) k 0x3220)))) ∧
  (∀ (s : State) (k : Fin 2), let b := s.begin; let c := b.captureAt k
    b.dictUp = true → c.clip ≠ 0 → c.flushed = false → (b.floor = false ∨ 0 < c.submitted) →
    exec (.captureFrameWritten k true) s = .next (b.frameWritten k) ∧
    (2 ≤ c.queue.length → exec (.captureFrameWritten k false) s = .next (b.endCapture k c.written 4)) ∧
    (c.queue.length < 2 → exec (.captureFrameWritten k false) s = .next b)) ∧
  (∀ (s : State) (k frames st : Nat), let c := s.captureAt k; let t := s.endCapture k frames st
    c.clip ≠ 0 → k < 2 → st < 256 → t.rd Dict.POCKET_CAP_STATE 0 k = st ∧ (t.captureAt k).clip = 0 ∧
      (t.clipAt (c.clip - 1)).frames = frames ∧ (t.clipAt (c.clip - 1)).state = 1 ∧
      Safety.raised s t Event.POCKET_CAPTURE_STOPPED k (st * 2 ^ 24 + frames % 2 ^ 24)) ∧
  (∀ (s : State) (k : Fin 2), let b := s.begin; let c := b.captureAt k
    b.dictUp = true → c.clip ≠ 0 → c.flushed = false → b.floor = false →
    (c.covered + b.rd Dict.POCKET_DIR_CHECKPOINT ≤ c.written → exec (.captureCheckpoint k) s = .next
      ((((b.out (.nvme c.drive .flush)).putCapture k { c with covered := c.written }).putClip (c.clip - 1) { b.clipAt (c.clip - 1) with
        frames := c.written }).updateEntry (c.clip - 1))) ∧
    (c.written < c.covered + b.rd Dict.POCKET_DIR_CHECKPOINT → exec (.captureCheckpoint k) s = .next b)) ∧
  (∀ (s : State) (k : Fin 2), let b := s.begin; let c := b.captureAt k
    b.dictUp = true → c.clip ≠ 0 → c.flushed = false → b.floor = true → c.submitted = 0 → exec (.pocketFlush k) s = .next
      ((((b.out (.nvme c.drive .flush)).putCapture k { c with flushed := true, covered := c.written, queue := [], sound := [] }).wr Dict.POCKET_CAP_STATE
        3 0 k).raise Event.POCKET_FLUSH (2 ^ k.val) c.written)) ∧
  (∀ (s : State) (k : Fin 12) (n : Nat), let b := s.begin.actBy k
    Safety.passesScalar b k Dict.POCKET_CLIP_DELETE 0 0 n →
    (b.floor = true ∨ b.clipInUse n = true → exec (.clipDelete k n) s = .next (b.refuseWrite k 0x3220 0x0F (.rule 0x84))) ∧
    (b.floor = false → b.clipInUse n = false →
      ((b.clipAt n).state = 0 → exec (.clipDelete k n) s = .next (Safety.accepted b k 0x3220)) ∧
      ((b.clipAt n).state ≠ 0 → b.driveReady (b.clipAt n).drive = false → exec (.clipDelete k n) s = .next
        (b.refuseWrite k 0x3220 0x0F (.rule 0x83))) ∧
      ((b.clipAt n).state ≠ 0 → b.driveReady (b.clipAt n).drive = true → exec (.clipDelete k n) s = .next
        (Safety.accepted ((b.putClip n Clip.init).updateEntry n) k 0x3220)))) ∧
  (∀ (s : State) (k : Fin 12) (v : Nat), let b := s.begin.actBy k
    Safety.passesScalar b k Dict.POCKET_FORMAT 0 0 v →
    (b.floor = true ∨ b.flag Dict.POCKET_ENABLE = true → exec (.pocketFormat k v) s = .next
      (b.refuseWrite k 0x3220 0x0C (.rule 0x84))) ∧
    (b.floor = false → b.flag Dict.POCKET_ENABLE = false → exec (.pocketFormat k v) s = .next (Safety.accepted
      ((bitsSet v 2).foldl (fun s d => ({ s with pocket := { s.pocket with
        directory := s.pocket.directory.filter (fun e => e.2.drive != d), formatted := d :: s.pocket.formatted.filter (· != d) }
        } : State).countClips.out (.nvme d (.formatNvm 4096))) b) k 0x3220)))

/-- R219, R251, R380 to R390, R394: faults of units, retirement, spares and the patch map. Where the rules leave a
point open it takes the model's reading of logs 48 and 72. -/
def Obligations.FaultsAndSpares : Prop :=
  (∀ (s : State) (kind : Fin 12) (units : List Nat), let b := s.begin
    b.alive = true → exec (.unitPermanentFault kind units) s = .next ((units.foldl (fun l n => insertNat n l) []).foldl
      (fun s n => if unitExists kind n = true then (if kind.val = 10 then s.failSlot n else s.hardFault kind n 2) else s) b)) ∧
  (∀ (s : State) (unit : Nat) (e : Nat × Nat × Nat), let b := s.begin; b.alive = true →
    (b.resil.copying.find? (fun e => e.1 == unitCode 3 unit) = some e → exec (.storeRowSpared true unit) s = .next
      (b.endCopy 3 unit)) ∧
    (b.resil.copying.find? (fun e => e.1 == unitCode 2 unit) = some e →
      let t := ((b.inc Dict.RESILIENCE_STORE_ROWS_SPARED).raise Event.STORE_ROW_SPARED (unitCode 2 unit) e.2.2).endCopy 2 unit
      ((t.pickSpare 2 unit).isNone = false → exec (.storeRowSpared false unit) s = .next t) ∧
      ((t.pickSpare 2 unit).isNone = true → exec (.storeRowSpared false unit) s = .next (t.permanentOne 3 (unit / 8192) 2))) ∧
    (b.resil.copying.find? (fun e => e.1 == unitCode 2 unit) = none → exec (.storeRowSpared false unit) s = .next b)) ∧
  (∀ (s : State) (link : Fin 128), let b := s.begin; b.alive = true →
    (b.standsBy 4 link = false → exec (.meshLinkCrcError link) s = .next (b.fault 4 link)) ∧
    (b.standsBy 4 link = true → exec (.meshLinkCrcError link) s = .next b)) ∧
  (∀ (s : State) (bank : Fin 1088), s.alive = true → exec (.storeBankParityError bank) s = .next (s.begin.fault 3 bank)) ∧
  (∀ (s : State) (m : Fin 24), let b := s.begin; b.alive = true →
    (b.dramChannel m ≠ 3 → exec (.dramChannelParityError m) s = .next (b.fault 6 m)) ∧
    (b.dramChannel m = 3 → exec (.dramChannelParityError m) s = .next b)) ∧
  (∀ (s : State) (sector : Fin 2112) (failures : Nat), let b := s.begin; b.alive = true →
    (failures < 3 → exec (.mramWriteVerifyFailure sector (.verify failures)) s = .next (b.noteFault (unitCode 11 sector))) ∧
    (3 ≤ failures → exec (.mramWriteVerifyFailure sector (.verify failures)) s = .next (b.hardFault 11 sector 2)) ∧
    exec (.mramWriteVerifyFailure sector .uncorrectable) s = .next (b.hardFault 11 sector 2) ∧
    exec (.mramWriteVerifyFailure sector .corrected) s = .next (b.noteCorrected.noteFault (unitCode 11 sector))) ∧
  (∀ (s : State) (kind unit cause : Nat), s.hardFault kind unit cause = (s.noteFault (unitCode kind unit)).permanent kind unit cause) ∧
  (∀ (s : State) (u : Nat), let t := s.noteFault u
    (t.weightAt u).weight = (s.weightAt u).weight ∧ (t.weightAt u).faultTimes =
      s.life.opSeconds :: (s.weightAt u).faultTimes.filter (fun x => decide (s.life.opSeconds < x + 86400)) ∧
    (∀ v, v ≠ u → t.weightAt v = s.weightAt v)) ∧
  (∀ (s : State), let b := s.begin; b.alive = true → exec .faultWeightDecay s = .next
    ((b.resil.weights.map Prod.fst).foldl State.decayWeight b)) ∧
  (∀ (s : State) (u : Nat), let w := s.weightAt u; let t := s.decayWeight u
    let hours := (s.life.opSeconds - w.decrementAt) / 3600
    (w.weight ≠ 0 → hours ≠ 0 → (t.weightAt u).weight = w.weight - hours ∧
      (t.weightAt u).decrementAt = w.decrementAt + 3600 * hours) ∧
    (w.weight = 0 ∨ hours = 0 → t = s) ∧ (∀ v, v ≠ u → t.weightAt v = s.weightAt v)) ∧
  (∀ (s : State) (k : Fin 12) (v : Nat), let b := s.begin.actBy k
    Safety.passesScalar b k Dict.RESILIENCE_HOLD_RETIRE 0 0 v → exec (.holdRetireWrite k v) s = .next
      (Safety.accepted (b.wr Dict.RESILIENCE_HOLD_RETIRE v).releaseHeld k 0x3C00)) ∧
  (∀ (s : State) (kind : Fin 12) (unit : Nat), let b := s.begin
    exec (.spareCheck kind unit true) s = .next b ∧
    (b.alive = true → unitExists kind unit = true → b.standsBy kind unit = true →
      (kind.val = 10 → exec (.spareCheck kind unit false) s = .next (b.failSlot unit)) ∧
      (kind.val = 1 ∨ kind.val = 2 ∨ kind.val = 3 ∨ kind.val = 4 ∨ kind.val = 11 → exec (.spareCheck kind unit false) s = .next
        (b.hardFault kind unit 5))) ∧
    (b.standsBy kind unit = false → exec (.spareCheck kind unit false) s = .next b)) ∧
  (∀ (s : State) (k : Fin 12) (n : Nat), let b := s.begin.actBy k
    Safety.passesScalar b k Dict.PATCH_MAP_CLEAR 0 0 n →
    (b.patchAt n = none → exec (.patchMapClear k n) s = .next (Safety.accepted b k 0x3C10)) ∧
    (∀ p, b.patchAt n = some p →
      (p.cleared = true → exec (.patchMapClear k n) s = .next (Safety.accepted b k 0x3C10)) ∧
      (p.cleared = false → let w : State := { b with resil := { b.resil with patches := Store.put (Store.erase b.resil.patches n) n { p with cleared := true, pending := false } } }
        exec (.patchMapClear k n) s = .next (Safety.accepted
          ((w.returnUnit p.kind p.unit).raise Event.PATCH_CLEARED (unitCode p.kind p.unit) n) k 0x3C10)))) ∧
  (∀ (s : State) (k : Fin 12) (v : Nat), let b := s.begin.actBy k
    Safety.passesScalar b k Dict.FAULT_WEIGHTS_CLEAR_WEIGHTS 0 0 v → exec (.clearWeights k v) s = .next (Safety.accepted
      ((b.resil.weights.map Prod.fst).foldl (fun s u =>
        if bit v (u / 2 ^ 24) = true then s.putWeight u { s.weightAt u with weight := 0, halfRaised := false } else s) b) k 0x3C20)) ∧
  (∀ (s : State), let b := s.begin
    let checked := (allCanvases.foldl State.checkImage { b with gov := { b.gov with passOwed := false } }).scrubKeys
    let w := (checked.inc Dict.RESILIENCE_PATROL_PASSES).wr Dict.RESILIENCE_LAST_PASS_S checked.life.opSeconds
    let z : State := { w with resil := { w.resil with scrubErrors := 0, scrubSince := w.now } }
    let due := b.resil.scrubSince + b.rd Dict.RESILIENCE_PATROL_PERIOD * 3600 * 1000000000
    b.alive = true →
    (b.yielded 1 6 1 = false → due ≤ b.now → exec .patrolPassDone s = .next ((z.wr Dict.RESILIENCE_PATROL_PROGRESS 0).raise
      Event.PATROL_PASS_DONE (z.rd Dict.RESILIENCE_PATROL_PASSES) w.resil.scrubErrors)) ∧
    (b.yielded 1 6 1 = true ∨ b.now < due → exec .patrolPassDone s = .next b)) ∧
  (∀ (s : State), s.scrubKeys = (List.range 72).foldl (fun s n =>
    if (s.slotAt n).tagFails s.keys.fuses = true then s.failSlot n else s) s) ∧
  (∀ (s : State) (h : Fin 32) (unit : Fin 68), let b := s.begin; let a := b.headAt h
    b.alive = true →
    (a.running = true → unit.val ∉ a.echoFaults → exec (.echoFault h unit) s = .next
      ((((b.putHead h { a with echoFaults := a.echoFaults ++ [unit.val] }).wr Dict.HEAD_STATUS_ECHO_STATE 2 h).raise
        Event.ECHO_FAULT h unit).fault 9 unit)) ∧
    (a.running = false ∨ unit.val ∈ a.echoFaults → exec (.echoFault h unit) s = .next b)) ∧
  (∀ (s : State) (h : Fin 32) (unit : Fin 68), let b := s.begin; let a := b.headAt h
    let left := a.echoFaults.filter (· != unit.val); let w := b.putHead h { a with echoFaults := left }
    b.alive = true → unit.val ∈ a.echoFaults →
    (b.isRetired (unitCode 9 unit) = true → exec (.echoReceiverRelock h unit) s = .next b) ∧
    (b.isRetired (unitCode 9 unit) = false → a.running = false → exec (.echoReceiverRelock h unit) s = .next
      (w.wr Dict.HEAD_STATUS_ECHO_STATE 0 h)) ∧
    (b.isRetired (unitCode 9 unit) = false → a.running = true → left = [] → exec (.echoReceiverRelock h unit) s = .next
      (w.wr Dict.HEAD_STATUS_ECHO_STATE 1 h)) ∧
    (b.isRetired (unitCode 9 unit) = false → a.running = true → left ≠ [] → exec (.echoReceiverRelock h unit) s = .next
      (w.wr Dict.HEAD_STATUS_ECHO_STATE 2 h)))

/-- R462 to R471: sealed exports, lifetime data and the write floor. Where the rules leave a point open it takes the
model's reading of log 31. -/
def Obligations.RecorderAndWriteFloor : Prop :=
  (∀ (s : State) (k : Fin 12) (nonce : List Byte), let b := s.begin.actBy k; let slot := b.rd Dict.RECORDER_EXPORT_SLOT
    let from_ := b.rd Dict.RECORDER_EXPORT_FROM; let n := b.rd Dict.RECORDER_EXPORT_COUNT
    let after := (from_ + 2 ^ 32 - b.oldestRec) % 2 ^ 32; let span := (b.newestRec + 2 ^ 32 - b.oldestRec) % 2 ^ 32
    let body := b.exportBody from_ n; let tag := hmac16 (kdf (b.keyOf slot) (ascii "REC") nonce) body
    Safety.passes b k Dict.RECORDER_EXPORT_NONCE 0 0 nonce →
    (b.derives slot = false → exec (.exportNonce k nonce) s = .next (b.refuseWrite k 0x3800 0x0B (.atField 0xC0 0x3800 8))) ∧
    (b.derives slot = true → (b.ev.ring = [] ∨ span + 1 < after + n) → exec (.exportNonce k nonce) s = .next
      (b.refuseWrite k 0x3800 0x0B (.atField 0xC1 0x3800 9))) ∧
    (b.derives slot = true → b.ev.ring ≠ [] → after + n ≤ span + 1 → exec (.exportNonce k nonce) s = .next (Safety.accepted
      (((b.wrDom Dict.RECORDER_EXPORT (body ++ tag)).inc Dict.RECORDER_EXPORTS).raise Event.EXPORT_SEALED from_ n) k 0x3800))) ∧
  (∀ (s : State), let b := s.begin; b.alive = true →
    (b.floor = false → (b.life.due = true ∨ b.life.lastCheckpoint + 600 ≤ b.life.opSeconds) → exec .checkpoint s = .next
      b.takeCheckpoint) ∧
    (b.floor = true → exec .checkpoint s = .next b) ∧
    (b.life.due = false → b.life.opSeconds < b.life.lastCheckpoint + 600 → exec .checkpoint s = .next b)) ∧
  (∀ (s : State) (v : LifeSample), let b := s.begin
    (b.now < b.life.secondAt + 1000000000 → exec (.histogramSample v) s = .next b) ∧
    (b.dev.porstN = false → exec (.histogramSample v) s = .next b) ∧
    (b.dev.porstN = true → b.alive = false → b.life.secondAt + 1000000000 ≤ b.now → exec (.histogramSample v) s = .next
      { b with life := { b.life with opSeconds := min (b.life.opSeconds + 1) (2 ^ 32 - 1), secondAt := b.life.secondAt + 1000000000 } }) ∧
    (b.dev.porstN = true → b.alive = true → b.life.secondAt + 1000000000 ≤ b.now → ∃ t, exec (.histogramSample v) s = .next t ∧
      t.life.opSeconds = min (b.life.opSeconds + 1) (2 ^ 32 - 1) ∧ t.life.maxTemp = max b.life.maxTemp v.hottest ∧
      t.life.secondAt = b.life.secondAt + 1000000000 ∧ t.life.bins = b.life.bins ∧ t.regs = b.regs ∧ t.ev = b.ev)) ∧
  (∀ (s : State), let b := s.begin; let l := b.life; b.alive = true →
    (b.yielded 1 6 2 = true → exec .histogramFlush s = .next b) ∧
    (b.yielded 1 6 2 = false → ∃ t, exec .histogramFlush s = .next t ∧
    t = { b with life := t.life } ∧ t.life.acc = [] ∧ t.life.opSeconds = l.opSeconds ∧
    (∀ n, n < 12 → Store.read (fun _ => 0) t.life.lastFlush n = l.opSeconds))) ∧
  (∀ (s : State) (r : Rails), let b := s.begin.showRails r
    let hit : State := { b with keys := { b.keys with glitchArmed := false }, supply := { b.supply with goodSince := 0 } }
    let c := hit.wr Dict.SUPPLY_FLOOR_CAUSE (floorCause r)
    let w := ((c.wr Dict.SUPPLY_FLOOR_STATE 1).inc Dict.SUPPLY_FLOOR_ENTRIES).wr Dict.SUPPLY_LAST_FLOOR_S c.life.opSeconds
    let z : State := { w with supply := { w.supply with floorAt := w.now, heldSincePorst := !w.alive } }
    (floorCause r = 0 → exec (.writeFloorEntered r) s = .next b) ∧
    (floorCause r ≠ 0 → c.rd Dict.SUPPLY_FLOOR_STATE = 0 →
      (z.alive = true → exec (.writeFloorEntered r) s = .next
        ((z.raiseBy (if r.pwrFail then 0xFE else 0xFF) Event.WRITE_FLOOR_ENTERED (floorCause r) c.ev.deferred.length).abandonKeyWrite.abandonStore)) ∧
      (z.alive = false → exec (.writeFloorEntered r) s = .next z)) ∧
    (floorCause r ≠ 0 → c.rd Dict.SUPPLY_FLOOR_STATE = 2 → exec (.writeFloorEntered r) s = .next (c.wr Dict.SUPPLY_FLOOR_STATE 1)) ∧
    (floorCause r ≠ 0 → c.rd Dict.SUPPLY_FLOOR_STATE = 1 → exec (.writeFloorEntered r) s = .next c)) ∧
  (∀ (s : State) (r : Rails), let b := s.begin.showRails r; let st := b.rd Dict.SUPPLY_FLOOR_STATE
    (b.alive = false ∨ (st ≠ 1 ∧ st ≠ 2) → exec (.writeFloorLeft r) s = .next b) ∧
    (b.alive = true → (st = 1 ∨ st = 2) →
      (railsFit r = false → exec (.writeFloorLeft r) s = .next
        { b.wr Dict.SUPPLY_FLOOR_STATE 1 with supply := { b.supply with goodSince := 0 } }) ∧
      (railsFit r = true → b.supply.goodSince = 0 → exec (.writeFloorLeft r) s = .next
        { b.wr Dict.SUPPLY_FLOOR_STATE 2 with supply := { b.supply with goodSince := b.now + 1 } }) ∧
      (railsFit r = true → b.supply.goodSince ≠ 0 → b.supply.goodSince - 1 + 50000000 ≤ b.now →
        exec (.writeFloorLeft r) s = .next b.resumeWrites) ∧
      (railsFit r = true → b.supply.goodSince ≠ 0 → b.now < b.supply.goodSince - 1 + 50000000 →
        exec (.writeFloorLeft r) s = .next b))) ∧
  (∀ (s : State) (r : Rails), let t := s.showRails r
    t.rd Dict.SUPPLY_VNVM = r.vnvm % 65536 ∧ t.rd Dict.SUPPLY_VIO18 = r.vio18 % 65536 ∧ t.rd Dict.SUPPLY_VCTL = r.vctl % 65536 ∧
    t.rd Dict.SUPPLY_PWR_FAIL = r.pwrFail.toNat) ∧
  (∀ (s : State), let t := s.takeCheckpoint
    t.life.due = false ∧ t.life.lastCheckpoint = s.life.opSeconds ∧ t.life.acc = [] ∧
    t.life.checkpoints = (s.life.checkpoints + 1) % 2 ^ 32 ∧ t.life.opSeconds = s.life.opSeconds ∧
    t.lifeGeneration = s.lifeGeneration + 1) ∧
  (∀ (s : State) (k : Fin 12) (v : Nat), let b := s.begin.actBy k; let u := if b.keys.writing then b.commitKey.actBy b.actor else b
    let w := if u.keys.transition.isSome then u.completeLifecycle.actBy b.actor else u
    let ready := ((w.finishOverwrite.finishStore true).drainRecords.takeCheckpoint)
    Safety.passesScalar b k Dict.SUPPLY_SHUTDOWN 0 0 v →
    (b.floor = true → exec (.shutdown k v) s = .next (b.refuseWrite k 0x3E00 9 (.rule 0xC2))) ∧
    (b.floor = false → exec (.shutdown k v) s = .next (Safety.accepted ((ready.raise Event.SHUTDOWN_READY ready.life.opSeconds
      ready.life.cycles).wr Dict.SUPPLY_FLOOR_STATE 3) k 0x3E00)))

/-- R436, R439, R442 to R447, R451, R454: keys written, committed and erased. Where the rules leave a point open it
takes the model's reading of log 30. -/
def Obligations.KeysWritten : Prop :=
  (∀ (s : State) (k : Fin 12) (n : Fin 72) (key : List Byte), let b := s.begin.actBy k; let rank := (b.sessAt k).rights.rank
    let w := if (b.namedSlot n).state = .bad then b.patchSlot n else b
    let m := w.storageOf n; let a := w.slotAt m; let root := (w.bindRoot rank (w.rd Dict.KEY_SLOT_ROOT n)).getD 0
    let incoming := some (key, w.rd Dict.KEY_SLOT_ATTRIBUTE n, w.rd Dict.KEY_SLOT_ALGORITHM n, w.rd Dict.KEY_SLOT_OWNER n, root)
    let direct := w.putSlot m { a with incoming := incoming, former := a.state, state := .loading }
    let atomic := w.putSlot m { a with incoming := incoming, former := a.state }
    Safety.passes b k Dict.KEY_SLOT_KEY n 0 key →
    (∀ r, b.judgeKeyWrite rank n key = some r → exec (.keyWrite k n key) s = .next (b.refuseWrite k (0x3401 + n) 7 r)) ∧
    (b.judgeKeyWrite rank n key = none → w.atomicKeys = false → exec (.keyWrite k n key) s = .next (Safety.accepted
      (({ direct with keys := { direct.keys with writing := true, writingSlot := n, writingSess := 0xFF, writer := k } } : State).judgeKeys)
      k (0x3401 + n))) ∧
    (b.judgeKeyWrite rank n key = none → w.atomicKeys = true → exec (.keyWrite k n key) s = .next
      { atomic with keys := { atomic.keys with writing := true, writingSlot := n, writingSess := k, writer := k } })) ∧
  (∀ (s : State) (rank n : Nat) (key : List Byte),
    (s.spareOrPatch n = true → s.judgeKeyWrite rank n key = some (.rule 0xA2)) ∧
    (s.spareOrPatch n = false → (s.namedSlot n).state ≠ .bad → s.floor = true ∨ s.keys.writing = true →
      s.judgeKeyWrite rank n key = some (.rule 0xA3))) ∧
  (∀ (s : State), s.begin.dictUp = true → let b := s.begin.actBy s.keys.writer
    (b.keys.writing = false → exec .keyCommitted s = .next s.begin) ∧
    (b.keys.writing = true → let n := b.keys.writingSlot; let m := b.storageOf n; let a := b.slotAt m
      (∀ key attr alg owner root, n < 72 → a.incoming = some (key, attr, alg, owner, root) →
        exec .keyCommitted s = .next ((((b.putSlot m ({ a with state := if a.serves = 0xFF then .loaded else .patch, key := key, attr := attr, algorithm := alg, owner := owner, root := root, generation := b.keys.fuses, kcv := keyCheck alg key, writes := a.writes + 1, incoming := none } : Slot).sealed).answerKeyWrite.raise
          Event.KEY_WRITTEN n (keyCheck alg key)).judgeKeys).rekeyFor n)) ∧
      (∀ data wrap, 72 ≤ n → b.keys.hdcpIncoming = some (data, wrap) → let w : State := { b with keys := { b.keys with hdcpKeys := data, hdcpWrap := wrap, hdcpKcv := keyCheck 0 (data.take 16), hdcpIncoming := none } }
        exec .keyCommitted s = .next ((w.answerKeyWrite.raise Event.HDCP_KEYS_LOADED
          (w.rd Dict.KEY_STORE_HDCP_WRAP_SLOT) (keyCheck 0 (data.take 16))).judgeHdcp)))) ∧
  (∀ a : Slot, let z := a.sealed
    let derived (label : String) := kdf (rootKey a.root) (ascii label) (leBytes 1 a.root ++ leBytes 1 a.generation)
    z.key = a.key ∧ z.state = a.state ∧ z.wrapped = keyWrap (derived "KEK") a.key ∧
    z.tag = (cmac (derived "TAG") (z.wrapped ++ (leBytes 1 a.attr ++ leBytes 1 a.algorithm ++ leBytes 1 a.owner ++
      leBytes 1 a.root))).take 8) ∧
  (∀ (s : State), let t := s.answerKeyWrite
    t.keys.writing = false ∧ t.keys.writingSess = 0xFF ∧ (s.keys.writingSess = 0xFF → t.wire = s.wire) ∧
    (s.keys.writingSess ≠ 0xFF → WireItem.response ⟨s.keys.writingSess, 0, 0, [], false⟩ ∈ t.wire)) ∧
  (∀ (s : State) (k : Fin 12) (n : Fin 72) (v : Nat), let b := s.begin.actBy k; let m := b.storageOf n; let a := b.slotAt m
    let gone (st : SlotState) := b.putSlot m { Slot.init with state := st, serves := a.serves, writes := a.writes }
    let done (st : SlotState) := Safety.accepted ((((gone st).raise Event.KEY_ERASED n 0).judgeKeys).rekeyFor n) k (0x3401 + n)
    let refused (r : Refuse) := b.refuseWrite k (0x3401 + n) 0x0B r
    Safety.passesScalar b k Dict.KEY_SLOT_ERASE n 0 v →
    (b.spareOrPatch n = true → exec (.keyErase k n v) s = .next (refused (.rule 0xA2))) ∧
    (b.spareOrPatch n = false → b.floor = true ∨ b.keys.writing = true → exec (.keyErase k n v) s = .next (refused (.rule 0xA3))) ∧
    (b.spareOrPatch n = false → b.floor = false → b.keys.writing = false →
      ((b.sessAt k).rights.rank < b.presentOwner n → exec (.keyErase k n v) s = .next (refused (.rule 0xA0))) ∧
      (b.presentOwner n ≤ (b.sessAt k).rights.rank →
        (b.wrapsHdcp n = true → exec (.keyErase k n v) s = .next (refused (.rule 0xA6))) ∧
        (b.wrapsHdcp n = false → a.state = .bad → exec (.keyErase k n v) s = .next (done .bad)) ∧
        (b.wrapsHdcp n = false → a.state ≠ .bad → a.serves = 0xFF → exec (.keyErase k n v) s = .next (done .empty)) ∧
        (b.wrapsHdcp n = false → a.state ≠ .bad → a.serves ≠ 0xFF → exec (.keyErase k n v) s = .next (done .patch))))) ∧
  (∀ (s : State) (k : Fin 12) (data : List Byte), let b := s.begin.actBy k; let n := b.rd Dict.KEY_STORE_HDCP_WRAP_SLOT
    let w (sess : Nat) : State := { b with keys := { b.keys with writing := true, writingSlot := 72, writingSess := sess, writer := k, hdcpIncoming := some (data, b.keyOf n) } }
    Safety.passes b k Dict.KEY_STORE_HDCP_KEYS 0 0 data →
    (b.usable n = false ∨ (b.namedSlot n).attr ≠ 2 ∨ (b.namedSlot n).algorithm ≠ 1 → exec (.hdcpKeysWrite k data) s = .next (b.refuseWrite k 0x3400 8 (.atField 0xA6 0x3400 7))) ∧
    (∀ r, b.judgeHdcpWrite data = some r → exec (.hdcpKeysWrite k data) s = .next (b.refuseWrite k 0x3400 8 r)) ∧
    (b.judgeHdcpWrite data = none → b.atomicKeys = true → exec (.hdcpKeysWrite k data) s = .next (w k)) ∧
    (b.judgeHdcpWrite data = none → b.atomicKeys = false → exec (.hdcpKeysWrite k data) s = .next
      (Safety.accepted (w 0xFF).judgeHdcp k 0x3400)))

/-- R440, R441, R448, R449: the life-cycle and zeroisation. Where the rules leave a point open it takes the model's
reading of logs 30 and 52. -/
def Obligations.LifecycleAndZeroisation : Prop :=
  (∀ (s : State) (k : Fin 12) (v : Nat), let b := s.begin.actBy k
    Safety.passesScalar b k Dict.LIFECYCLE_TARGET 0 0 v → exec (.lifecycleTarget k v) s = .next
      (Safety.accepted (b.wr Dict.LIFECYCLE_TARGET v) k 0x2001)) ∧
  (∀ (s : State) (k : Fin 12) (v : Nat), let b := s.begin.actBy k; let spent : State := { b with keys := { b.keys with challenge := none } }
    let target := b.rd Dict.LIFECYCLE_TARGET
    Safety.passesScalar b k Dict.LIFECYCLE_CONFIRM 0 0 v →
    (b.floor = true ∨ b.keys.writing = true → exec (.lifecycleConfirm k v) s = .next (spent.refuseWrite k 0x2001 4 (.rule 0xA3))) ∧
    (b.floor = false → b.keys.writing = false →
      (b.keys.challenge ≠ some v ∨ b.keys.challengeAt + 10000000000 < b.now ∨ b.standbyLike = false ∨
        b.keys.transition ≠ none ∨ lifecycleMoves b.keys.lifecycle target = false →
        exec (.lifecycleConfirm k v) s = .next (spent.refuseWrite k 0x2001 4 (.rule 0xA5))) ∧
      (b.keys.challenge = some v → b.now ≤ b.keys.challengeAt + 10000000000 → b.standbyLike = true → b.keys.transition = none →
        lifecycleMoves b.keys.lifecycle target = true → exec (.lifecycleConfirm k v) s = .next (Safety.accepted
          { b with keys := { b.keys with challenge := none, transition := some target, writer := k } } k 0x2001)))) ∧
  (∀ a b : Nat, lifecycleMoves a b = true ↔ (a = 1 ∧ b = 2) ∨ (a = 2 ∧ b = 3) ∨ (a = 3 ∧ b = 2) ∨ (b = 4 ∧ 1 ≤ a ∧ a ≤ 3)) ∧
  (∀ (s : State), s.begin.dictUp = true → let b := s.begin.actBy s.keys.writer
    (b.floor = true → exec .lifecycleChanged s = .next s.begin) ∧
    (b.floor = false → b.keys.transition = none → exec .lifecycleChanged s = .next b) ∧
    (∀ t, b.floor = false → b.keys.transition = some t → t ≠ 4 → exec .lifecycleChanged s = .next
      (((({ b with keys := { b.keys with lifecycle := t, transition := none } } : State).raise Event.LIFECYCLE_CHANGED t
        b.keys.lifecycle).dropAll 4).judgeKeys)) ∧
    (b.floor = false → b.keys.transition = some 4 → exec .lifecycleChanged s = .next
      (((({ b with keys := { b.keys with transition := none } } : State).zeroise 0).reachEnd 1).judgeKeys))) ∧
  (∀ (s : State), let b := s.begin
    (b.tamperOn 0 = true → exec .tamperNAsserted s = .next ((b.actBy 0xFE).zeroise 1)) ∧
    (b.tamperOn 0 = false → exec .tamperNAsserted s = .next b) ∧
    (b.tamperOn 1 = true → b.keys.glitchArmed = true → exec .supplyGlitch s = .next (b.zeroise 2)) ∧
    (b.keys.glitchArmed = false → exec .supplyGlitch s = .next b) ∧
    (b.tamperOn 2 = true → exec .tamperTemperature s = .next (b.zeroise 4)) ∧
    (b.tamperOn 2 = false → exec .tamperTemperature s = .next b)) ∧
  (∀ (s : State) (k : Nat), k < 72 → ((s.clearKeys).slotAt k).key = [] ∧ ((s.clearKeys).slotAt k).incoming = none) ∧
  (∀ (s : State), let t := s.burnFuse
    (s.keys.fuses < 15 → t = { s with keys := { s.keys with fuses := s.keys.fuses + 1 } }) ∧
    (15 ≤ s.keys.fuses → t.keys.lifecycle = 4 ∧ t.keys.endFuse = true)) ∧
  (∀ (s : State), let b := s.begin
    (b.alive = true → b.keys.overwritePending = true → b.floor = false → ∃ t, exec .keyOverwriteDone s = .next t ∧
      t.keys.overwritePending = false ∧ t.keys.recorded = b.keys.fuses ∧ Safety.raised b t Event.KEY_OVERWRITE_DONE 72 0 ∧
      ∀ k, k < 72 → (t.slotAt k).state ≠ .stale) ∧
    (b.keys.overwritePending = false ∨ b.floor = true → exec .keyOverwriteDone s = .next b)) ∧
  (∀ (s : State), let b := s.begin; let low := b.wr Dict.KEY_STORE_TAMPER_CAP_OK 0
    (b.flag Dict.KEY_STORE_TAMPER_CAP_OK = true → b.alive = true → exec .tamperCapLow s = .next
      (low.raise Event.TAMPER_CAP_LOW 0 0)) ∧
    (b.flag Dict.KEY_STORE_TAMPER_CAP_OK = true → b.alive = false → exec .tamperCapLow s = .next low) ∧
    (b.flag Dict.KEY_STORE_TAMPER_CAP_OK = false → exec .tamperCapLow s = .next b))

/-- R360, R389, R479 to R486, R494, R507, R509: reset, THERMTRIP, the start-up that follows a release of PORST_N, and
the JTAG port: TRST_N, five clocks with TMS high, IDCODE and the instructions that each device state offers. Where the
rules leave a point open it takes the model's reading of logs 49, 51 and 56. -/
def Obligations.ResetAndStartUp : Prop :=
  (∀ (s : State), let b := s.begin
    let low (s : State) : State := { s with dev := { s.dev with porstN := false, stopped := false, thermtripN := true, nextCause := if b.dev.stopped then 3 else 1 } }
    (b.dev.porstN = false → exec .porstNAsserted s = .next b) ∧
    (b.dev.porstN = true → b.dev.stopped = false → exec .porstNAsserted s = .next (low (((b.actBy 0xFE).enterState 0xFE 0).dropAll Config.resetCause)).clearVolatile) ∧
    (b.dev.porstN = true → b.dev.stopped = true → exec .porstNAsserted s = .next ((low b).clearVolatile.out (.pin pinThermtrip 0 1)))) ∧
  (∀ (s : State), let t := s.clearVolatile
    t.now = s.now ∧ t.pending = s.pending ∧ t.ev.ring = s.ev.ring ∧ t.copy0 = s.copy0 ∧ t.copy1 = s.copy1 ∧
    t.keys.fuses = s.keys.fuses ∧ t.keys.lifecycle = s.keys.lifecycle ∧ t.life.copies = s.life.copies ∧
    t.dram.host = [] ∧ t.ev.queue = [] ∧ t.doms = [] ∧ t.sess = State.reset.sess ∧ t.staging = none ∧
    (∀ key, keptReg key = false → t.regAt key = dictDefault key)) ∧
  (∀ (s : State) (straps : Fin 4096) (f : LoadFound), let b := s.begin
    (b.dev.porstN = true → exec (.porstNReleased straps f) s = .next b) ∧
    (b.dev.porstN = false → b.dev.stopped = true → exec (.porstNReleased straps f) s = .next
      { b with dev := { b.dev with porstN := true } }) ∧
    (b.dev.porstN = false → b.dev.stopped = false → ∃ t, exec (.porstNReleased straps f) s = .next t ∧
      t.dev.porstN = true ∧ t.dev.straps = straps.val ∧ t.timebase = 0 ∧ t.dev.bootAt = b.now ∧ t.dev.bootCause = b.dev.nextCause ∧
      t.life.cycles = ((b.countCycle f.badLife).life.cycles) ∧
      Safety.raised b t Event.STRAPS_SAMPLED straps b.dev.nextCause ∧ Safety.raised b t Event.DEVICE_STATE_CHANGED 1 0)) ∧
  (∀ (s : State), let b := s.begin
    let cut : State := { b with dev := { b.dev with stopped := true, thermtripN := false, nextCause := 3 } }
    (b.dev.stopped = true → exec .thermtrip s = .next b) ∧
    (b.dev.stopped = false → exec .thermtrip s = .next (cut.clearVolatile.out (.pin pinThermtrip 0 0)))) ∧
  (∀ (s : State) (engines : List (Fin 104)) (banks : List (Fin 1088)), let b := s.begin
    let rising (l : List Nat) := l.foldl (fun l n => insertNat n l) []
    let w := (rising (banks.map Fin.val)).foldl (fun s k => s.failBist 3 k)
      ((rising (engines.map Fin.val)).foldl (fun s e => s.failBist 1 e) b)
    let z := ({ w with dev := { w.dev with bistDone := true } } : State).wr Dict.DRAM_STATE 1
    (b.devState = 1 → b.dev.bistDone = false → exec (.bistDone engines banks) s = .next
      ((z.milestone 1).raise Event.BIST_DONE (z.retiredUnits - b.retiredUnits) (z.msSince 0))) ∧
    (b.devState ≠ 1 ∨ b.dev.bistDone = true → exec (.bistDone engines banks) s = .next b)) ∧
  (∀ (s : State), let b := s.begin; let next := b.bootState
    let c := ((b.enterState 0xFF next).loadConfig).wr Dict.HENTIS_OSC_PRESENT 1
    let w := [0, 1, 2, 3].foldl (fun s k => s.openSess k) ({ c with hentis := { c.hentis with secondAt := c.now } } : State)
    let u := [0, 1].foldl (fun s i => if s.canUp i = true then s.bootUp i else s) w
    let v := u.raiseIf (u.dev.bootCause == 3) Event.THERMTRIP_SEEN u.life.cycles 0
    let z := if next = 3 then v.milestone 3 else v
    (b.devState = 1 → b.dev.dramDone = true → exec .loadDone s = .next { z with dev := { z.dev with
      standbyAt := z.now, autoTried := next != 3 || !z.flag Dict.DEVICE_STATE_AUTO_RUN || z.dev.autoSuppressed } }) ∧
    (b.devState ≠ 1 ∨ b.dev.dramDone = false → exec .loadDone s = .next b)) ∧
  (∀ (s : State), (field s.dev.straps 1 0 = 0 → s.bootState = 3) ∧ (field s.dev.straps 1 0 = 2 → s.bootState = 2) ∧
    (field s.dev.straps 1 0 = 1 ∨ field s.dev.straps 1 0 = 3 → s.bootState = 6)) ∧
  (idcode.extractLsb 27 12 = 0x6480#16 ∧ idcode.getLsbD 0 = true) ∧
  (∀ (s : State) (tms tdi : Bool), s.tap.trstN = false → (s.tapClock tms tdi).tap = { Tap.init with trstN := false }) ∧
  (∀ (s : State) (d : Fin 5 → Bool), s.tap.trstN = true →
    ((((((s.tapClock true (d 0)).tapClock true (d 1)).tapClock true (d 2)).tapClock true (d 3)).tapClock true (d 4)).tap.state =
      .testLogicReset)) ∧
  (∀ s : State, s.jtagOffers .bypass = true ∧ s.jtagOffers .idcode = true ∧ (s.jtagOffers .test = true ↔ s.devState = 2) ∧
    (s.jtagOffers .boundary = true ↔ s.devState = 2 ∨ s.dev.porstN = false))

/-- R483, R487, R488, R491, R492, R494, R495, R505: the states that a request, auto-run or temperature leads to. Where
the rules leave a point open it takes the model's reading of logs 33 and 49. -/
def Obligations.RequestsAndAutoRun : Prop :=
  (∀ (s : State) (source st : Nat), st < 256 → let t := s.enterState source st
    t.rd Dict.DEVICE_STATE_STATE = st ∧ t.now = s.now ∧ t.pending = s.pending ∧
    Safety.raised s t Event.DEVICE_STATE_CHANGED st (s.rd Dict.DEVICE_STATE_STATE) ∧
    ((s.wr Dict.DEVICE_STATE_STATE st).alertPin ≠ s.alertPin →
      .pin 15 0 (s.wr Dict.DEVICE_STATE_STATE st).alertPin.toNat ∈ t.wire)) ∧
  (∀ (s : State), s.alertPin = true ↔ bit (s.rd Dict.GOVERNOR_STATUS_FLAGS) 0 = true ∨
    bit (s.rd Dict.GOVERNOR_STATUS_FLAGS) 1 = true ∨ s.rd Dict.DEVICE_STATE_STATE = 5) ∧
  (∀ (s : State) (k : Fin 12), let b := s.begin.actBy k
    Safety.passesScalar b k Dict.DEVICE_STATE_REQUEST 0 0 4 →
    (b.devState ≠ 3 → b.devState ≠ 5 → exec (.requestRun k) s = .next (b.refuseWrite k 0x2000 2 (.rule 0xD0))) ∧
    (b.devState = 3 ∨ b.devState = 5 → (b.rd Dict.DEVICE_STATE_SAFE_TEMP : Int) * 16 - 80 ≤ b.gov.dieTemp →
      exec (.requestRun k) s = .next (b.refuseWrite k 0x2000 2 (.rule 0xD2))) ∧
    (∀ r, b.judgeRun = some r → exec (.requestRun k) s = .next (b.refuseWrite k 0x2000 2 r)) ∧
    (b.judgeRun = none → exec (.requestRun k) s = .next (Safety.accepted (b.startRun k) k 0x2000))) ∧
  (∀ (s : State) (source : Nat), (s.startRun source).rd Dict.DEVICE_STATE_STATE = 4) ∧
  (∀ (s : State) (k : Fin 12), let b := s.begin.actBy k; let left := b.leaveRun.enterState k 3
    Safety.passesScalar b k Dict.DEVICE_STATE_REQUEST 0 0 3 →
    (b.devState ≠ 4 → b.devState ≠ 5 → exec (.requestStandby k) s = .next (b.refuseWrite k 0x2000 2 (.rule 0xD0))) ∧
    (b.devState = 4 → exec (.requestStandby k) s = .next (Safety.accepted left k 0x2000)) ∧
    (b.devState = 5 → exec (.requestStandby k) s = .next (Safety.accepted left.startAlone k 0x2000))) ∧
  (∀ (s : State) (k : Fin 12), let b := s.begin.actBy k
    Safety.passesScalar b k Dict.DEVICE_STATE_REQUEST 0 0 5 →
    (b.devState = 3 ∨ b.devState = 4 → exec (.requestSafe k) s = .next (Safety.accepted (b.enterSafe k 1) k 0x2000)) ∧
    (b.devState ≠ 3 → b.devState ≠ 4 → exec (.requestSafe k) s = .next (b.refuseWrite k 0x2000 2 (.rule 0xD0)))) ∧
  (∀ (s : State) (source cause : Nat), cause < 256 → let t := s.enterSafe source cause
    t.rd Dict.DEVICE_STATE_STATE = 5 ∧ t.rd Dict.DEVICE_STATE_SAFE_CAUSE = cause ∧ t.audio.startAt = 0) ∧
  (∀ (s : State), let b := s.begin
    ((b.devState = 3 ∨ b.devState = 4) → b.since b.gov.hotSince 1000000000 = true → exec .safeEntered s = .next
      (b.enterSafe 0xFF 2)) ∧
    (b.since b.gov.hotSince 1000000000 = false → exec .safeEntered s = .next b)) ∧
  (∀ (s : State), let b := s.begin; let tried : State := { b with dev := { b.dev with autoTried := true } }
    (b.autoRunOpen = false ∨ b.autoRunReady = false → exec .autoRun s = .next b) ∧
    (b.autoRunOpen = true → b.autoRunReady = true →
      (tried.judgeRun = none → exec .autoRun s = .next (tried.startRun 0xFF)) ∧
      (∀ r, tried.judgeRun = some r → exec .autoRun s = .next
        (tried.raise Event.RUN_REFUSED (r.detail * 65536 + r.fieldIndex) r.fieldSub)))) ∧
  (∀ (s : State), let b := s.begin; let limit := b.rd Dict.DEVICE_STATE_AUTO_RUN_TIMEOUT
    (b.autoRunOpen = true → b.autoRunReady = false → b.dev.standbyAt + limit * 1000000000 ≤ b.now → exec .autoRunTimeout s =
      .next (b.raise Event.AUTO_RUN_TIMEOUT (b.rd Dict.HENTIS_STATE) limit).autoRun) ∧
    (b.autoRunOpen = false ∨ b.autoRunReady = true ∨ b.now < b.dev.standbyAt + limit * 1000000000 →
      exec .autoRunTimeout s = .next b)) ∧
  (∀ (s : State) (k : Fin 12) (v : Nat), let b := s.begin.actBy k
    Safety.passesScalar b k Dict.DEVICE_STATE_FULL_BIST 0 0 v →
    (b.devState = 2 → exec (.fullBist k v) s = .next
      (Safety.accepted { b with dev := { b.dev with fullBist := true } } k 0x2000)) ∧
    (b.devState ≠ 2 → exec (.fullBist k v) s = .next (b.refuseWrite k 0x2000 0x0E (.rule 0xD0)))) ∧
  (∀ (s : State) (l : List (Nat × Nat)), let b := s.begin
    (b.devState = 2 → b.dev.fullBist = true → exec (.fullBistDone l) s = .next
      { b with dev := { b.dev with fullBist := false, bistFailures := l.take 64 } }) ∧
    (b.devState ≠ 2 ∨ b.dev.fullBist = false → exec (.fullBistDone l) s = .next b)) ∧
  (∀ (s : State) (k : Fin 12) (v : Nat), let b := s.begin.actBy k
    Safety.passesScalar b k Dict.DEVICE_STATE_RESET 0 0 v →
    exec (.reset k v) s = .next ((Safety.accepted b k 0x2000).resetSelf k 4)) ∧
  (∀ (s : State) (source cause : Nat), let t := s.resetSelf source cause
    t.dev.porstN = false ∧ t.dev.nextCause = cause ∧ t.devState = 0 ∧
      t.wire = ((s.enterState source 0).dropAll Config.resetCause).wire ++
      (if ((s.enterState source 0).dropAll Config.resetCause).alertPin = true then [.pin 15 0 0] else []))

/-- R80, R356: BAR2 reads and writes reach only the host surface region; any other access completes, reads all ones or
is dropped, and is counted and reported. An access that starts inside and runs past the end is for
`PcieAndManagementLinks`. -/
def Obligations.HostWindow : Prop :=
  (∀ (s : State) (offset length : Nat) (data : List Byte), let b := s.begin; let size := b.dramSetting 4 * 1048576
    b.alive = true → b.rd Dict.PCIE_LINK_STATE = 2 →
    (offset + length ≤ size → exec (.bar2Access false offset length data) s = .next (b.out (.packet 6 0 (b.hostBytes offset length)))) ∧
    (size ≤ offset → 0 < length → exec (.bar2Access false offset length data) s = .next
      (((b.out (.packet 6 0 (List.replicate length 0xFF))).inc Dict.PCIE_DRAM_WINDOW_FAULTS).raise Event.PCIE_WINDOW_FAULT 0x500
        (offset / 1048576))) ∧
    (offset + data.length ≤ size → ∃ t, exec (.bar2Access true offset length data) s = .next t ∧
      (∀ i, i < data.length → some (t.hostByte (offset + i)) = data[i]?) ∧
      (∀ a, a < offset ∨ offset + data.length ≤ a → t.hostByte a = b.hostByte a) ∧
      t = { b with dram := { b.dram with host := t.dram.host } }) ∧
    (size ≤ offset → 0 < data.length → exec (.bar2Access true offset length data) s = .next
      ((b.inc Dict.PCIE_DRAM_WINDOW_FAULTS).raise Event.PCIE_WINDOW_FAULT 0x500 (offset / 1048576))))

/-- R284: a STATUS packet on a PTL-2 port whose tag fails, or that carries none while keys are in use, is discarded:
the tile keeps what is known of it, AUTH_REJECTS increments, and PTL_AUTH_FAIL is raised unless the port raised it
within the last second. -/
def Obligations.StatusRejected : Prop :=
  (∀ (s : State) (p : Fin 48) (data : List Byte), let b := s.begin; let tile := beNat ((data.drop 8).take 2)
    let rejected := b.inc Dict.PTL_AUTH_REJECTS
    b.alive = true → b.rd Dict.PORT_STATE p = 2 → b.rd Dict.PTL_GENERATION 0 p = 2 → b.rd Dict.PTL_KEY_STATE = 1 →
    byteAt data 0 = 0x25 → bit (byteAt data 1) 1 = false → beNat ((data.drop 13).take 2) = 32 →
    data.length = 48 + (if bit (byteAt data 1) 0 then 16 else 0) → b.statusTag p data = false →
    (b.authFailAt p = 0 ∨ b.authFailAt p - 1 + 1000000000 ≤ b.now → exec (.statusReceived p data) s = .next
      ((rejected.putAuthFail p (b.now + 1)).raise Event.PTL_AUTH_FAIL p tile)) ∧
    (b.authFailAt p ≠ 0 → b.now < b.authFailAt p - 1 + 1000000000 → exec (.statusReceived p data) s = .next rejected)) ∧
  (∀ (s : State) (p : Nat) (data : List Byte), bit (byteAt data 1) 0 = false → s.statusTag p data = false) ∧
  (∀ (s : State) (p v : Nat), (s.putAuthFail p v).authFailAt p = v ∧ ∀ q, q ≠ p → (s.putAuthFail p v).authFailAt q = s.authFailAt q)

/-- R470: writes resume after 50 ms of good supplies; a lapse restarts them. -/
def Obligations.WritesResume : Prop :=
  (∀ (s : State) (r : Rails), let b := s.begin.showRails r; let st := b.rd Dict.SUPPLY_FLOOR_STATE
    let fit := 1730 ≤ r.vnvm ∧ 1730 ≤ r.vio18 ∧ 730 ≤ r.vctl ∧ r.pwrFail = false
    b.alive = true → (st = 1 ∨ st = 2) →
    (¬ fit → exec (.writeFloorLeft r) s = .next
      { b.wr Dict.SUPPLY_FLOOR_STATE 1 with supply := { b.supply with goodSince := 0 } }) ∧
    (fit → b.supply.goodSince = 0 → exec (.writeFloorLeft r) s = .next
      { b.wr Dict.SUPPLY_FLOOR_STATE 2 with supply := { b.supply with goodSince := b.now + 1 } }) ∧
    (fit → b.supply.goodSince ≠ 0 → b.now < b.supply.goodSince - 1 + 50000000 →
      exec (.writeFloorLeft r) s = .next b) ∧
    (fit → b.supply.goodSince ≠ 0 → b.supply.goodSince - 1 + 50000000 ≤ b.now →
      ∃ t, exec (.writeFloorLeft r) s = .next t ∧ t.rd Dict.SUPPLY_FLOOR_STATE = 0 ∧ t.rd Dict.SUPPLY_FLOOR_CAUSE = 0 ∧
        t.supply.goodSince = 0 ∧ t.keys.glitchArmed = true ∧ Safety.raised b t Event.WRITE_FLOOR_LEFT
          ((b.now - b.supply.floorAt) / 1000000) b.ev.deferred.length))

/-- The commands that wait are taken in their order: a step runs the command at the front on the queue's rest. -/
def Obligations.FrontCommandRuns : Prop :=
  (∀ (c : Instr) (s : State), step { s with pending := c :: s.pending } = exec c s) ∧
  (∀ (s : State) (c : Instr) (rest : List Instr), s.pending = c :: rest → step s = exec c { s with pending := rest })

/-- With no command waiting, 1 ns of OSC_IN passes (the model's choice, logs 2 and 18): the timebase moves by 1 ns
times 1 + the DCO word, with what an alignment slew adds (R307, R312), and the second of the holdover history takes
the word in (R305). -/
def Obligations.EmptyQueueTick : Prop :=
  (∀ s : State, s.pending = [] → ∃ t, step s = .next t ∧ t.now = s.now + 1 ∧
    t.hentis.wordSum = s.hentis.wordSum + s.dcoWord ∧ t.hentis.wordCount = s.hentis.wordCount + 1 ∧
    t.hentis.alignLeft = s.hentis.alignLeft - s.alignStepNow ∧
    t.hentis.secondClean = (s.hentis.secondClean && s.secondGood) ∧
    (0 ≤ dcoUnit + s.dcoWord + s.alignStepNow →
      ((t.timebase * dcoUnit + t.dcoRest : Nat) : Int) =
        (s.timebase * dcoUnit + s.dcoRest : Nat) + (dcoUnit + s.dcoWord + s.alignStepNow)) ∧
    t.dcoRest < dcoUnit ∧
    t = { s with now := t.now, timebase := t.timebase, dcoRest := t.dcoRest, hentis := { s.hentis with
      alignLeft := t.hentis.alignLeft, wordSum := t.hentis.wordSum, wordCount := t.hentis.wordCount
      secondClean := t.hentis.secondClean } }) ∧
  (∀ s : State, s.rd Dict.HENTIS_STATE = 0 → s.rd Dict.HENTIS_LOOP_MODE ≠ 1 →
    s.dcoWord = s.rdInt Dict.HENTIS_FREERUN_OFFSET) ∧
  (∀ s : State, s.rd Dict.HENTIS_STATE = 0 → s.rd Dict.HENTIS_LOOP_MODE = 1 → s.dcoWord = s.rdInt Dict.HENTIS_STEER_FREQ) ∧
  (∀ s : State, s.rd Dict.HENTIS_STATE ≠ 0 → s.hentis.slewTo = none → s.dcoWord = s.hentis.word)

/-- No command stops the machine: every step answers a next state, and so does every run. -/
def Obligations.NoStepStops : Prop :=
  (∀ (c : Instr) (s : State), ∃ t, exec c s = .next t) ∧ (∀ s : State, Safety.steps s) ∧
  (∀ (n : Nat) (s : State), Safety.runs n s)

/-- The host surface region keeps its canonical form in every step, whatever command it runs. -/
def Obligations.StepKeepsMemoryCanonical : Prop :=
  ∀ s t : State, Safety.memoryCanonical s → step s = .next t → Safety.memoryCanonical t

/-- The queue of commands is only shortened from its front: no step adds, drops or reorders one. -/
def Obligations.StepTakesOneCommand : Prop :=
  ∀ s t : State, step s = .next t → t.pending = s.pending.tail

/-- The host surface region is written by BAR2 accesses, by frames written back and by uncorrectable DRAM errors
(R210, R356, R358), and there only at the bytes they name; every other command leaves it as it was or, where a reset
or a lost DRAM channel takes its contents (R359, R479), empty. Where the rules leave a point open it takes the model's
reading of logs 8 and 10. -/
def Obligations.HostMemoryFrame : Prop :=
  (∀ (c : Instr) (s t : State), exec c s = .next t →
    (∀ w o l d, c ≠ .bar2Access w o l d) → (∀ e i, c ≠ .stripComplete e i) → (∀ n, c ≠ .composeDeadline n) →
    (∀ w u, c ≠ .dramEccError w u) → (∀ a, t.hostByte a = s.hostByte a) ∨ t.dram.host = []) ∧
  (∀ (s t : State) (o l : Nat) (d : List Byte), exec (.bar2Access true o l d) s = .next t →
    ∀ a, a < o ∨ o + d.length ≤ a → t.hostByte a = s.hostByte a) ∧
  (∀ (s t : State) (o l : Nat) (d : List Byte), exec (.bar2Access false o l d) s = .next t →
    ∀ a, t.hostByte a = s.hostByte a) ∧
  (∀ (s t : State) (e : Fin 104) (i : StripId), exec (.stripComplete e i) s = .next t →
    (s.stripOf i = none → ∀ p, t.hostByte p = s.hostByte p) ∧
    (∀ a, s.stripOf i = some a → let into (k : Nat) := (Store.read (fun _ => ([], Raster.init)) (s.canvasAt a.owner).wbNow k).1
      let at_ (d : List Byte) := if s.rd Dict.CANVAS_BASE_FRAMES a.owner % 2 = 1 then leAt d 12 8 else leAt d 20 8
      ∀ p, (∀ k, k < 2 → byteAt (into k) 0 = 1 → ∀ y, y < leAt (into k) 10 2 → p < at_ (into k) + y * leAt (into k) 28 4 ∨
        at_ (into k) + y * leAt (into k) 28 4 + leAt (into k) 8 2 * bytesPerPixel (wbFormat (into k)) ≤ p) →
      t.hostByte p = s.hostByte p)) ∧
  (∀ (s t : State) (c : Fin 8), exec (.composeDeadline c) s = .next t →
    let at_ (d : List Byte) := if s.rd Dict.CANVAS_BASE_FRAMES c % 2 = 1 then leAt d 12 8 else leAt d 20 8
    ∀ p, (∀ x, x ∈ (s.canvasAt c).wbNow → byteAt x.2.1 0 = 1 → p < at_ x.2.1 ∨
      at_ x.2.1 + leAt x.2.1 28 4 * leAt x.2.1 10 2 ≤ p) → t.hostByte p = s.hostByte p) ∧
  (∀ (s t : State) (w : DramWord) (double : Bool), exec (.dramEccError w double) s = .next t →
    (∀ a, (∀ x, w.hit = .region x → double = true → a < x / 8 * 8 ∨ x / 8 * 8 + 8 ≤ a) → t.hostByte a = s.hostByte a) ∨
      t.dram.host = [])

/-- The machine at power-on, before any command. Where the rules leave a point open it takes the model's reading of
logs 8, 50 and 51. -/
def Obligations.PowerOn : Prop :=
  let s := State.reset
  Safety.memoryCanonical s ∧ Safety.wellFormedQueue s ∧ s.pending = [] ∧ s.timebase = 0 ∧ s.devState = 0 ∧
  s.dev.porstN = false ∧ s.dictUp = false ∧ s.ev.queue = [] ∧ s.ev.ring = [] ∧ s.strips = [] ∧
  (∀ key, s.regAt key = dictDefault key) ∧ (∀ a, s.hostByte a = blankByte a) ∧
  (∀ k, (s.sessAt k) = initialSess k)
end

