-- ==== Sys2Proof/Laws/Dictionary.lean ====
section
/-! SUPPORT. The search of the dictionary finds each entry at its own index and sub-index (R396, R432). -/
namespace Sys2Proof.Machine
open Sys2Proof

/-- Objects in rising order, no two sharing an index. -/
def objectsApart (l : List ObjectDef) : Bool :=
  decide (l.Pairwise (fun a b => a.base + a.count ≤ b.base))

/-- Rows of an object, no two sharing a sub-index, each with the object's base. -/
def rowsApart (o : ObjectDef) : Bool :=
  decide (o.rows.Pairwise (fun a b => a.hi < b.lo ∨ b.hi < a.lo)) && o.rows.all (fun e => e.base == o.base)

/-- Whether a row stands in the dictionary, in every instance that it counts. -/
def EntryDef.listed (e : EntryDef) : Bool :=
  (objectsLow ++ objectsHigh).any (fun o => o.rows.contains e && decide (e.count ≤ o.count))

theorem objectsLow_apart : objectsApart objectsLow = true := by decide +kernel
theorem objectsHigh_apart : objectsApart objectsHigh = true := by decide +kernel
theorem objectsLow_below : objectsLow.all (fun o => decide (o.base + o.count ≤ 0x2400)) = true := by
  decide +kernel
theorem objectsHigh_above : objectsHigh.all (fun o => decide (0x2400 ≤ o.base)) = true := by decide +kernel
theorem objectsLow_rows : objectsLow.all rowsApart = true := by decide +kernel
theorem objectsHigh_rows : objectsHigh.all rowsApart = true := by decide +kernel

/-- In a list whose members exclude each other the search finds the one that fits. -/
theorem find?_of_apart {α : Type} (l : List α) (p : α → Bool) (a : α) (ha : a ∈ l) (hp : p a = true)
    (hu : l.Pairwise (fun x y => ¬ (p x = true ∧ p y = true))) : l.find? p = some a := by
  induction l with
  | nil => cases ha
  | cons b l ih =>
    rw [List.pairwise_cons] at hu
    rcases List.mem_cons.mp ha with rfl | ha
    · simp [hp]
    · have hb : p b = false := by
        cases h : p b with
        | false => rfl
        | true => exact absurd ⟨h, hp⟩ (hu.1 a ha)
      rw [List.find?_cons, hb]
      exact ih ha hu.2

theorem objectAt_of_mem (o : ObjectDef) (ho : o ∈ objectsLow ++ objectsHigh) (n : Nat) (hn : n < o.count) :
    objectAt (o.base + n) = some o := by
  have apart : ∀ l, objectsApart l = true →
      l.Pairwise (fun x y => ¬ ((decide (x.base ≤ o.base + n) && decide (o.base + n < x.base + x.count)) = true ∧
        (decide (y.base ≤ o.base + n) && decide (o.base + n < y.base + y.count)) = true)) := by
    intro l hl
    refine (of_decide_eq_true hl).imp ?_
    intro a b hab
    simp only [Bool.and_eq_true, decide_eq_true_eq]
    omega
  have here : (decide (o.base ≤ o.base + n) && decide (o.base + n < o.base + o.count)) = true := by
    simp only [Bool.and_eq_true, decide_eq_true_eq]; omega
  unfold objectAt
  rcases List.mem_append.mp ho with h | h
  · have hb := of_decide_eq_true (List.all_eq_true.mp objectsLow_below o h)
    rw [if_pos (by omega)]
    exact find?_of_apart _ _ _ h here (apart _ objectsLow_apart)
  · have hb := of_decide_eq_true (List.all_eq_true.mp objectsHigh_above o h)
    rw [if_neg (by omega)]
    exact find?_of_apart _ _ _ h here (apart _ objectsHigh_apart)

theorem rowsApart_of_mem (o : ObjectDef) (ho : o ∈ objectsLow ++ objectsHigh) : rowsApart o = true := by
  rcases List.mem_append.mp ho with h | h
  · exact List.all_eq_true.mp objectsLow_rows o h
  · exact List.all_eq_true.mp objectsHigh_rows o h

/-- A row of the dictionary is found at its base, instance and sub-index. -/
theorem lookup_listed (e : EntryDef) (he : e.listed = true) (n j : Nat) (hn : n < e.count)
    (hj : e.lo + j ≤ e.hi) : lookup (e.base + n) (e.lo + j) = .ok e := by
  simp only [EntryDef.listed, List.any_eq_true, Bool.and_eq_true, decide_eq_true_eq] at he
  obtain ⟨o, ho, hr, hc⟩ := he
  have hr : e ∈ o.rows := by simpa using hr
  have hrows := rowsApart_of_mem o ho
  simp only [rowsApart, Bool.and_eq_true, decide_eq_true_eq, List.all_eq_true, beq_iff_eq] at hrows
  have hb : e.base = o.base := hrows.2 e hr
  have hobj : objectAt (e.base + n) = some o := by
    rw [hb]; exact objectAt_of_mem o ho n (by omega)
  have hent : entryAt (e.base + n) (e.lo + j) = some e := by
    unfold entryAt
    rw [hobj]
    refine find?_of_apart _ _ _ hr (by simp only [Bool.and_eq_true, decide_eq_true_eq]; omega) ?_
    refine hrows.1.imp ?_
    intro a b hab
    simp only [Bool.and_eq_true, decide_eq_true_eq]
    omega
  simp [lookup, hobj, hent]

end Sys2Proof.Machine
end

