-- ==== Sys2Proof/Laws/Store.lean ====
section
/-! SUPPORT. The laws of the sparse tables: a read after a write, and the canonical form that a write keeps. -/
namespace Sys2Proof.Machine

@[simp] theorem Store.read_nil (d : Nat → α) (k : Nat) : Store.read d [] k = d k := rfl

theorem Store.read_erase_self (d : Nat → α) (m : Store α) (k : Nat) :
    Store.read d (Store.erase m k) k = d k := by
  induction m with
  | nil => rfl
  | cons c m ih =>
    obtain ⟨j, v⟩ := c
    by_cases h : j = k
    · simpa [Store.erase, h] using ih
    · simpa [Store.erase, Store.read, h] using ih

theorem Store.read_erase_ne (d : Nat → α) (m : Store α) {k i : Nat} (hi : i ≠ k) :
    Store.read d (Store.erase m k) i = Store.read d m i := by
  induction m with
  | nil => rfl
  | cons c m ih =>
    obtain ⟨j, v⟩ := c
    by_cases h : j = k
    · have hji : j ≠ i := by omega
      simp only [Store.read, hji, if_false]
      simpa [Store.erase, h] using ih
    · by_cases hj : j = i
      · subst hj
        simp [Store.erase, Store.read, h]
      · simpa [Store.erase, Store.read, h, hj] using ih

theorem Store.read_put_self (d : Nat → α) (m : Store α) (k : Nat) (v : α)
    (h : ∀ c ∈ m, c.1 ≠ k) : Store.read d (Store.put m k v) k = v := by
  induction m with
  | nil => simp [Store.put, Store.read]
  | cons c m ih =>
    obtain ⟨j, w⟩ := c
    have hj : j ≠ k := h (j, w) (by simp)
    by_cases hk : k < j
    · simp [Store.put, hk, Store.read]
    · simp only [Store.put, hk, if_false, Store.read, hj]
      exact ih (fun c hc => h c (by simp [hc]))

theorem Store.read_put_ne (d : Nat → α) (m : Store α) {k i : Nat} (v : α) (hi : i ≠ k) :
    Store.read d (Store.put m k v) i = Store.read d m i := by
  induction m with
  | nil => simp [Store.put, Store.read, Ne.symm hi]
  | cons c m ih =>
    obtain ⟨j, w⟩ := c
    by_cases hk : k < j
    · simp [Store.put, hk, Store.read, Ne.symm hi]
    · by_cases hj : j = i
      · subst hj
        simp [Store.put, hk, Store.read]
      · simpa [Store.put, hk, Store.read, hj] using ih

theorem Store.erase_key_ne (m : Store α) (k : Nat) : ∀ c ∈ Store.erase m k, c.1 ≠ k := by
  intro c hc; simpa [Store.erase] using (List.mem_filter.mp hc).2

/-- A read after a write of the same key gives the value written. -/
@[simp] theorem Store.read_write_self [DecidableEq α] (d : Nat → α) (m : Store α) (k : Nat) (v : α) :
    Store.read d (Store.write d m k v) k = v := by
  unfold Store.write
  split
  · next h => rw [Store.read_erase_self, h]
  · exact Store.read_put_self d _ k v (Store.erase_key_ne m k)

/-- A write leaves every other key alone. -/
theorem Store.read_write_ne [DecidableEq α] (d : Nat → α) (m : Store α) {k i : Nat} (v : α) (hi : i ≠ k) :
    Store.read d (Store.write d m k v) i = Store.read d m i := by
  unfold Store.write
  split
  · exact Store.read_erase_ne d m hi
  · rw [Store.read_put_ne d _ v hi, Store.read_erase_ne d m hi]

theorem Store.read_write [DecidableEq α] (d : Nat → α) (m : Store α) (k i : Nat) (v : α) :
    Store.read d (Store.write d m k v) i = if i = k then v else Store.read d m i := by
  split
  · next h => rw [h, Store.read_write_self]
  · next h => exact Store.read_write_ne d m v h

/-- Rising keys, as a statement about pairs. -/
theorem Store.risingFrom_iff (lo : Option Nat) (m : Store α) :
    Store.risingFrom lo m = true ↔
      (∀ c ∈ m, ∀ i, lo = some i → i < c.1) ∧ m.Pairwise (fun a b => a.1 < b.1) := by
  induction m generalizing lo with
  | nil => simp [Store.risingFrom]
  | cons c m ih =>
    obtain ⟨j, v⟩ := c
    have key : (∀ c ∈ m, ∀ i, some j = some i → i < c.1) ↔ ∀ c ∈ m, j < c.1 := by simp
    cases lo with
    | none =>
      simp only [Store.risingFrom, ih, key, List.pairwise_cons]
      simp
    | some i =>
      simp only [Store.risingFrom, Bool.and_eq_true, decide_eq_true_eq, ih, List.pairwise_cons,
        List.mem_cons, forall_eq_or_imp, Option.some.injEq, forall_eq']
      constructor
      · rintro ⟨h, h1, h2⟩
        exact ⟨⟨h, fun c hc => Nat.lt_trans h (h1 c hc)⟩, h1, h2⟩
      · rintro ⟨⟨h, -⟩, h1, h2⟩
        exact ⟨h, h1, h2⟩

theorem Store.mem_put {m : Store α} {k : Nat} {v : α} {c : Nat × α} (h : c ∈ Store.put m k v) :
    c = (k, v) ∨ c ∈ m := by
  induction m with
  | nil => simpa [Store.put] using h
  | cons e m ih =>
    obtain ⟨j, w⟩ := e
    by_cases hk : k < j
    · simpa [Store.put, hk] using h
    · simp only [Store.put, hk, if_false, List.mem_cons] at h
      rcases h with h | h
      · exact Or.inr (by simp [h])
      · rcases ih h with h | h
        · exact Or.inl h
        · exact Or.inr (by simp [h])

theorem Store.put_pairwise {m : Store α} {k : Nat} {v : α} (hm : m.Pairwise (fun a b => a.1 < b.1))
    (hk : ∀ c ∈ m, c.1 ≠ k) : (Store.put m k v).Pairwise (fun a b => a.1 < b.1) := by
  induction m with
  | nil => simp [Store.put]
  | cons e m ih =>
    obtain ⟨j, w⟩ := e
    rw [List.pairwise_cons] at hm
    have hj : j ≠ k := hk (j, w) (by simp)
    by_cases h : k < j
    · simp only [Store.put, if_pos h, List.pairwise_cons, List.mem_cons, forall_eq_or_imp]
      exact ⟨⟨h, fun c hc => Nat.lt_trans h (hm.1 c hc)⟩, hm.1, hm.2⟩
    · simp only [Store.put, h, if_false, List.pairwise_cons]
      refine ⟨fun c hc => ?_, ih hm.2 (fun c hc => hk c (by simp [hc]))⟩
      rcases Store.mem_put hc with rfl | hc
      · simp; omega
      · exact hm.1 c hc

/-- A write keeps the canonical form. -/
theorem Store.wf_write [DecidableEq α] (d : Nat → α) (m : Store α) (k : Nat) (v : α)
    (h : Store.wf d m = true) : Store.wf d (Store.write d m k v) = true := by
  simp only [Store.wf, Bool.and_eq_true, Store.risingFrom_iff, List.all_eq_true, decide_eq_true_eq] at h ⊢
  obtain ⟨⟨-, h1⟩, h2⟩ := h
  have e1 : (Store.erase m k).Pairwise (fun a b => a.1 < b.1) := h1.sublist List.filter_sublist
  have e2 : ∀ c ∈ Store.erase m k, c.2 ≠ d c.1 := fun c hc => h2 c (List.mem_filter.mp hc).1
  unfold Store.write
  split
  · exact ⟨⟨by simp, e1⟩, e2⟩
  · next hv =>
    refine ⟨⟨by simp, Store.put_pairwise e1 (Store.erase_key_ne m k)⟩, fun c hc => ?_⟩
    rcases Store.mem_put hc with rfl | hc
    · exact hv
    · exact e2 c hc

/-- A table that lists nothing has the canonical form. -/
theorem Store.wf_nil [DecidableEq α] (d : Nat → α) : Store.wf d ([] : Store α) = true := rfl


/-- A write forgets what the key held. -/
theorem Store.erase_write [DecidableEq α] (d : Nat → α) (m : Store α) (k : Nat) (a : α) :
    Store.erase (Store.write d m k a) k = Store.erase m k := by
  have he : Store.erase (Store.erase m k) k = Store.erase m k := by simp [Store.erase]
  unfold Store.write
  split
  · exact he
  · suffices h : ∀ l : Store α, Store.erase (Store.put l k a) k = Store.erase l k by rw [h, he]
    intro l
    induction l with
    | nil => simp [Store.put, Store.erase]
    | cons c l ih =>
      obtain ⟨j, w⟩ := c
      simp only [Store.put]
      split
      · simp [Store.erase]
      · simp only [Store.erase, List.filter_cons] at ih ⊢
        split <;> simp_all

/-- The later of two writes of one key stands. -/
@[simp] theorem Store.write_write [DecidableEq α] (d : Nat → α) (m : Store α) (k : Nat) (a b : α) :
    Store.write d (Store.write d m k a) k b = Store.write d m k b := by
  rw [Store.write.eq_1 d (Store.write d m k a), Store.erase_write]; rfl

end Sys2Proof.Machine
end

