-- ==== Sys2Proof/Laws/State.lean ====
section
/-! SUPPORT. What each update of the state leaves alone, and what it makes of the place it changes: one lemma for each
field and update, all by unfolding.  The other updates are written in terms of these. -/
namespace Sys2Proof.Machine
open Sys2Proof

variable (s : State)


/-! ### setReg -/

@[simp] theorem State.setReg_now (key v : Nat) :
    (s.setReg key v).now = s.now := rfl
@[simp] theorem State.setReg_timebase (key v : Nat) :
    (s.setReg key v).timebase = s.timebase := rfl
@[simp] theorem State.setReg_dcoRest (key v : Nat) :
    (s.setReg key v).dcoRest = s.dcoRest := rfl
@[simp] theorem State.setReg_pending (key v : Nat) :
    (s.setReg key v).pending = s.pending := rfl
@[simp] theorem State.setReg_wire (key v : Nat) :
    (s.setReg key v).wire = s.wire := rfl
@[simp] theorem State.setReg_actor (key v : Nat) :
    (s.setReg key v).actor = s.actor := rfl
@[simp] theorem State.setReg_tap (key v : Nat) :
    (s.setReg key v).tap = s.tap := rfl
@[simp] theorem State.setReg_shadow (key v : Nat) :
    (s.setReg key v).shadow = s.shadow := rfl
@[simp] theorem State.setReg_doms (key v : Nat) :
    (s.setReg key v).doms = s.doms := rfl
@[simp] theorem State.setReg_shadowDoms (key v : Nat) :
    (s.setReg key v).shadowDoms = s.shadowDoms := rfl
@[simp] theorem State.setReg_minSeverityDefault (key v : Nat) :
    (s.setReg key v).minSeverityDefault = s.minSeverityDefault := rfl
@[simp] theorem State.setReg_sess (key v : Nat) :
    (s.setReg key v).sess = s.sess := rfl
@[simp] theorem State.setReg_ev (key v : Nat) :
    (s.setReg key v).ev = s.ev := rfl
@[simp] theorem State.setReg_spi (key v : Nat) :
    (s.setReg key v).spi = s.spi := rfl
@[simp] theorem State.setReg_mailbox (key v : Nat) :
    (s.setReg key v).mailbox = s.mailbox := rfl
@[simp] theorem State.setReg_can (key v : Nat) :
    (s.setReg key v).can = s.can := rfl
@[simp] theorem State.setReg_tagRejectAt (key v : Nat) :
    (s.setReg key v).tagRejectAt = s.tagRejectAt := rfl
@[simp] theorem State.setReg_udpFailures (key v : Nat) :
    (s.setReg key v).udpFailures = s.udpFailures := rfl
@[simp] theorem State.setReg_udpLocked (key v : Nat) :
    (s.setReg key v).udpLocked = s.udpLocked := rfl
@[simp] theorem State.setReg_draws (key v : Nat) :
    (s.setReg key v).draws = s.draws := rfl
@[simp] theorem State.setReg_staging (key v : Nat) :
    (s.setReg key v).staging = s.staging := rfl
@[simp] theorem State.setReg_stagingSess (key v : Nat) :
    (s.setReg key v).stagingSess = s.stagingSess := rfl
@[simp] theorem State.setReg_copy0 (key v : Nat) :
    (s.setReg key v).copy0 = s.copy0 := rfl
@[simp] theorem State.setReg_copy1 (key v : Nat) :
    (s.setReg key v).copy1 = s.copy1 := rfl
@[simp] theorem State.setReg_mgmtWait (key v : Nat) :
    (s.setReg key v).mgmtWait = s.mgmtWait := rfl
@[simp] theorem State.setReg_gov (key v : Nat) :
    (s.setReg key v).gov = s.gov := rfl
@[simp] theorem State.setReg_engines (key v : Nat) :
    (s.setReg key v).engines = s.engines := rfl
@[simp] theorem State.setReg_strips (key v : Nat) :
    (s.setReg key v).strips = s.strips := rfl
@[simp] theorem State.setReg_inputs (key v : Nat) :
    (s.setReg key v).inputs = s.inputs := rfl
@[simp] theorem State.setReg_hosts (key v : Nat) :
    (s.setReg key v).hosts = s.hosts := rfl
@[simp] theorem State.setReg_players (key v : Nat) :
    (s.setReg key v).players = s.players := rfl
@[simp] theorem State.setReg_layers (key v : Nat) :
    (s.setReg key v).layers = s.layers := rfl
@[simp] theorem State.setReg_canvases (key v : Nat) :
    (s.setReg key v).canvases = s.canvases := rfl
@[simp] theorem State.setReg_heads (key v : Nat) :
    (s.setReg key v).heads = s.heads := rfl
@[simp] theorem State.setReg_validating (key v : Nat) :
    (s.setReg key v).validating = s.validating := rfl
@[simp] theorem State.setReg_pendingCommits (key v : Nat) :
    (s.setReg key v).pendingCommits = s.pendingCommits := rfl
@[simp] theorem State.setReg_deferredWrites (key v : Nat) :
    (s.setReg key v).deferredWrites = s.deferredWrites := rfl
@[simp] theorem State.setReg_ulanes (key v : Nat) :
    (s.setReg key v).ulanes = s.ulanes := rfl
@[simp] theorem State.setReg_dlanes (key v : Nat) :
    (s.setReg key v).dlanes = s.dlanes := rfl
@[simp] theorem State.setReg_groups (key v : Nat) :
    (s.setReg key v).groups = s.groups := rfl
@[simp] theorem State.setReg_fecTimes (key v : Nat) :
    (s.setReg key v).fecTimes = s.fecTimes := rfl
@[simp] theorem State.setReg_routes (key v : Nat) :
    (s.setReg key v).routes = s.routes := rfl
@[simp] theorem State.setReg_activeEntry (key v : Nat) :
    (s.setReg key v).activeEntry = s.activeEntry := rfl
@[simp] theorem State.setReg_flows (key v : Nat) :
    (s.setReg key v).flows = s.flows := rfl
@[simp] theorem State.setReg_switches (key v : Nat) :
    (s.setReg key v).switches = s.switches := rfl
@[simp] theorem State.setReg_switchedAt (key v : Nat) :
    (s.setReg key v).switchedAt = s.switchedAt := rfl
@[simp] theorem State.setReg_dropCount (key v : Nat) :
    (s.setReg key v).dropCount = s.dropCount := rfl
@[simp] theorem State.setReg_dropAt (key v : Nat) :
    (s.setReg key v).dropAt = s.dropAt := rfl
@[simp] theorem State.setReg_rtpSeq (key v : Nat) :
    (s.setReg key v).rtpSeq = s.rtpSeq := rfl
@[simp] theorem State.setReg_banks (key v : Nat) :
    (s.setReg key v).banks = s.banks := rfl
@[simp] theorem State.setReg_luts (key v : Nat) :
    (s.setReg key v).luts = s.luts := rfl
@[simp] theorem State.setReg_luts3d (key v : Nat) :
    (s.setReg key v).luts3d = s.luts3d := rfl
@[simp] theorem State.setReg_imageDesc (key v : Nat) :
    (s.setReg key v).imageDesc = s.imageDesc := rfl
@[simp] theorem State.setReg_imageData (key v : Nat) :
    (s.setReg key v).imageData = s.imageData := rfl
@[simp] theorem State.setReg_imageCrc (key v : Nat) :
    (s.setReg key v).imageCrc = s.imageCrc := rfl
@[simp] theorem State.setReg_imageBad (key v : Nat) :
    (s.setReg key v).imageBad = s.imageBad := rfl
@[simp] theorem State.setReg_tileMap (key v : Nat) :
    (s.setReg key v).tileMap = s.tileMap := rfl
@[simp] theorem State.setReg_tileShadow (key v : Nat) :
    (s.setReg key v).tileShadow = s.tileShadow := rfl
@[simp] theorem State.setReg_calib (key v : Nat) :
    (s.setReg key v).calib = s.calib := rfl
@[simp] theorem State.setReg_calibShadow (key v : Nat) :
    (s.setReg key v).calibShadow = s.calibShadow := rfl
@[simp] theorem State.setReg_tiles (key v : Nat) :
    (s.setReg key v).tiles = s.tiles := rfl
@[simp] theorem State.setReg_ptl (key v : Nat) :
    (s.setReg key v).ptl = s.ptl := rfl
@[simp] theorem State.setReg_ptlCounters (key v : Nat) :
    (s.setReg key v).ptlCounters = s.ptlCounters := rfl
@[simp] theorem State.setReg_authFailTimes (key v : Nat) :
    (s.setReg key v).authFailTimes = s.authFailTimes := rfl
@[simp] theorem State.setReg_hentis (key v : Nat) :
    (s.setReg key v).hentis = s.hentis := rfl
@[simp] theorem State.setReg_refs (key v : Nat) :
    (s.setReg key v).refs = s.refs := rfl
@[simp] theorem State.setReg_ftgs (key v : Nat) :
    (s.setReg key v).ftgs = s.ftgs := rfl
@[simp] theorem State.setReg_audio (key v : Nat) :
    (s.setReg key v).audio = s.audio := rfl
@[simp] theorem State.setReg_channelTable (key v : Nat) :
    (s.setReg key v).channelTable = s.channelTable := rfl
@[simp] theorem State.setReg_streamTable (key v : Nat) :
    (s.setReg key v).streamTable = s.streamTable := rfl
@[simp] theorem State.setReg_channels (key v : Nat) :
    (s.setReg key v).channels = s.channels := rfl
@[simp] theorem State.setReg_endpoints (key v : Nat) :
    (s.setReg key v).endpoints = s.endpoints := rfl
@[simp] theorem State.setReg_dram (key v : Nat) :
    (s.setReg key v).dram = s.dram := rfl
@[simp] theorem State.setReg_scanAlloc (key v : Nat) :
    (s.setReg key v).scanAlloc = s.scanAlloc := rfl
@[simp] theorem State.setReg_stageAlloc (key v : Nat) :
    (s.setReg key v).stageAlloc = s.stageAlloc := rfl
@[simp] theorem State.setReg_liningAlloc (key v : Nat) :
    (s.setReg key v).liningAlloc = s.liningAlloc := rfl
@[simp] theorem State.setReg_liningLostKib (key v : Nat) :
    (s.setReg key v).liningLostKib = s.liningLostKib := rfl
@[simp] theorem State.setReg_pocket (key v : Nat) :
    (s.setReg key v).pocket = s.pocket := rfl
@[simp] theorem State.setReg_resil (key v : Nat) :
    (s.setReg key v).resil = s.resil := rfl
@[simp] theorem State.setReg_keys (key v : Nat) :
    (s.setReg key v).keys = s.keys := rfl
@[simp] theorem State.setReg_life (key v : Nat) :
    (s.setReg key v).life = s.life := rfl
@[simp] theorem State.setReg_supply (key v : Nat) :
    (s.setReg key v).supply = s.supply := rfl
@[simp] theorem State.setReg_dev (key v : Nat) :
    (s.setReg key v).dev = s.dev := rfl
@[simp] theorem State.setReg_dom (key v : Nat) (i : EntryDef) (p q : Nat) :
    (s.setReg key v).dom i p q = s.dom i p q := rfl
@[simp] theorem State.setReg_hostByte (key v : Nat) (p : Nat) :
    (s.setReg key v).hostByte p = s.hostByte p := rfl
@[simp] theorem State.setReg_sessAt (key v : Nat) (p : Nat) :
    (s.setReg key v).sessAt p = s.sessAt p := rfl
@[simp] theorem State.setReg_canAt (key v : Nat) (p : Nat) :
    (s.setReg key v).canAt p = s.canAt p := rfl
@[simp] theorem State.setReg_engineAt (key v : Nat) (p : Nat) :
    (s.setReg key v).engineAt p = s.engineAt p := rfl
@[simp] theorem State.setReg_inputAt (key v : Nat) (p : Nat) :
    (s.setReg key v).inputAt p = s.inputAt p := rfl
@[simp] theorem State.setReg_hostAt (key v : Nat) (p : Nat) :
    (s.setReg key v).hostAt p = s.hostAt p := rfl
@[simp] theorem State.setReg_playerAt (key v : Nat) (p : Nat) :
    (s.setReg key v).playerAt p = s.playerAt p := rfl
@[simp] theorem State.setReg_layerAt (key v : Nat) (p : Nat) :
    (s.setReg key v).layerAt p = s.layerAt p := rfl
@[simp] theorem State.setReg_canvasAt (key v : Nat) (p : Nat) :
    (s.setReg key v).canvasAt p = s.canvasAt p := rfl
@[simp] theorem State.setReg_headAt (key v : Nat) (p : Nat) :
    (s.setReg key v).headAt p = s.headAt p := rfl
@[simp] theorem State.setReg_ulaneAt (key v : Nat) (p : Nat) :
    (s.setReg key v).ulaneAt p = s.ulaneAt p := rfl
@[simp] theorem State.setReg_dlaneAt (key v : Nat) (p : Nat) :
    (s.setReg key v).dlaneAt p = s.dlaneAt p := rfl
@[simp] theorem State.setReg_groupAt (key v : Nat) (p : Nat) :
    (s.setReg key v).groupAt p = s.groupAt p := rfl
@[simp] theorem State.setReg_flowAt (key v : Nat) (p : Nat) :
    (s.setReg key v).flowAt p = s.flowAt p := rfl
@[simp] theorem State.setReg_tileAt (key v : Nat) (p : Nat) :
    (s.setReg key v).tileAt p = s.tileAt p := rfl
@[simp] theorem State.setReg_refAt (key v : Nat) (p : Nat) :
    (s.setReg key v).refAt p = s.refAt p := rfl
@[simp] theorem State.setReg_ftgAt (key v : Nat) (p : Nat) :
    (s.setReg key v).ftgAt p = s.ftgAt p := rfl
@[simp] theorem State.setReg_channelAt (key v : Nat) (p : Nat) :
    (s.setReg key v).channelAt p = s.channelAt p := rfl
@[simp] theorem State.setReg_endpointAt (key v : Nat) (p : Nat) :
    (s.setReg key v).endpointAt p = s.endpointAt p := rfl
@[simp] theorem State.setReg_imageBadAt (key v : Nat) (p : Nat) :
    (s.setReg key v).imageBadAt p = s.imageBadAt p := rfl
@[simp] theorem State.setReg_activeAt (key v : Nat) (p : Nat) :
    (s.setReg key v).activeAt p = s.activeAt p := rfl
@[simp] theorem State.setReg_udpFailAt (key v : Nat) (p : Nat) :
    (s.setReg key v).udpFailAt p = s.udpFailAt p := rfl
@[simp] theorem State.setReg_udpLockAt (key v : Nat) (p : Nat) :
    (s.setReg key v).udpLockAt p = s.udpLockAt p := rfl
@[simp] theorem State.setReg_droppedAt (key v : Nat) (p : Nat) :
    (s.setReg key v).droppedAt p = s.droppedAt p := rfl
@[simp] theorem State.setReg_dropTimeAt (key v : Nat) (p : Nat) :
    (s.setReg key v).dropTimeAt p = s.dropTimeAt p := rfl
@[simp] theorem State.setReg_rtpAt (key v : Nat) (p : Nat) :
    (s.setReg key v).rtpAt p = s.rtpAt p := rfl
@[simp] theorem State.setReg_imageCrcAt (key v : Nat) (p : Nat) :
    (s.setReg key v).imageCrcAt p = s.imageCrcAt p := rfl
@[simp] theorem State.setReg_ptlCounterAt (key v : Nat) (p : Nat) :
    (s.setReg key v).ptlCounterAt p = s.ptlCounterAt p := rfl
@[simp] theorem State.setReg_authFailAt (key v : Nat) (p : Nat) :
    (s.setReg key v).authFailAt p = s.authFailAt p := rfl
@[simp] theorem State.setReg_scanAt (key v : Nat) (p : Nat) :
    (s.setReg key v).scanAt p = s.scanAt p := rfl
@[simp] theorem State.setReg_stageAt (key v : Nat) (p : Nat) :
    (s.setReg key v).stageAt p = s.stageAt p := rfl
@[simp] theorem State.setReg_liningAt (key v : Nat) (p : Nat) :
    (s.setReg key v).liningAt p = s.liningAt p := rfl
@[simp] theorem State.setReg_routeAt (key v : Nat) (p : Nat) :
    (s.setReg key v).routeAt p = s.routeAt p := rfl
@[simp] theorem State.setReg_bankAt (key v : Nat) (p : Nat) :
    (s.setReg key v).bankAt p = s.bankAt p := rfl
@[simp] theorem State.setReg_lutAt (key v : Nat) (p : Nat) :
    (s.setReg key v).lutAt p = s.lutAt p := rfl
@[simp] theorem State.setReg_lut3dAt (key v : Nat) (p : Nat) :
    (s.setReg key v).lut3dAt p = s.lut3dAt p := rfl
@[simp] theorem State.setReg_imageDescAt (key v : Nat) (p : Nat) :
    (s.setReg key v).imageDescAt p = s.imageDescAt p := rfl
@[simp] theorem State.setReg_imageDataAt (key v : Nat) (p : Nat) :
    (s.setReg key v).imageDataAt p = s.imageDataAt p := rfl
@[simp] theorem State.setReg_tileEntryAt (key v : Nat) (p : Nat) :
    (s.setReg key v).tileEntryAt p = s.tileEntryAt p := rfl
@[simp] theorem State.setReg_tileShadowAt (key v : Nat) (p : Nat) :
    (s.setReg key v).tileShadowAt p = s.tileShadowAt p := rfl
@[simp] theorem State.setReg_calibAt (key v : Nat) (p : Nat) :
    (s.setReg key v).calibAt p = s.calibAt p := rfl
@[simp] theorem State.setReg_calibShadowAt (key v : Nat) (p : Nat) :
    (s.setReg key v).calibShadowAt p = s.calibShadowAt p := rfl
@[simp] theorem State.setReg_channelEntryAt (key v : Nat) (p : Nat) :
    (s.setReg key v).channelEntryAt p = s.channelEntryAt p := rfl
@[simp] theorem State.setReg_streamEntryAt (key v : Nat) (p : Nat) :
    (s.setReg key v).streamEntryAt p = s.streamEntryAt p := rfl

/-! ### wr -/

@[simp] theorem State.wr_now (e : EntryDef) (v n k : Nat) :
    (s.wr e v n k).now = s.now := rfl
@[simp] theorem State.wr_timebase (e : EntryDef) (v n k : Nat) :
    (s.wr e v n k).timebase = s.timebase := rfl
@[simp] theorem State.wr_dcoRest (e : EntryDef) (v n k : Nat) :
    (s.wr e v n k).dcoRest = s.dcoRest := rfl
@[simp] theorem State.wr_pending (e : EntryDef) (v n k : Nat) :
    (s.wr e v n k).pending = s.pending := rfl
@[simp] theorem State.wr_wire (e : EntryDef) (v n k : Nat) :
    (s.wr e v n k).wire = s.wire := rfl
@[simp] theorem State.wr_actor (e : EntryDef) (v n k : Nat) :
    (s.wr e v n k).actor = s.actor := rfl
@[simp] theorem State.wr_tap (e : EntryDef) (v n k : Nat) :
    (s.wr e v n k).tap = s.tap := rfl
@[simp] theorem State.wr_shadow (e : EntryDef) (v n k : Nat) :
    (s.wr e v n k).shadow = s.shadow := rfl
@[simp] theorem State.wr_doms (e : EntryDef) (v n k : Nat) :
    (s.wr e v n k).doms = s.doms := rfl
@[simp] theorem State.wr_shadowDoms (e : EntryDef) (v n k : Nat) :
    (s.wr e v n k).shadowDoms = s.shadowDoms := rfl
@[simp] theorem State.wr_minSeverityDefault (e : EntryDef) (v n k : Nat) :
    (s.wr e v n k).minSeverityDefault = s.minSeverityDefault := rfl
@[simp] theorem State.wr_sess (e : EntryDef) (v n k : Nat) :
    (s.wr e v n k).sess = s.sess := rfl
@[simp] theorem State.wr_ev (e : EntryDef) (v n k : Nat) :
    (s.wr e v n k).ev = s.ev := rfl
@[simp] theorem State.wr_spi (e : EntryDef) (v n k : Nat) :
    (s.wr e v n k).spi = s.spi := rfl
@[simp] theorem State.wr_mailbox (e : EntryDef) (v n k : Nat) :
    (s.wr e v n k).mailbox = s.mailbox := rfl
@[simp] theorem State.wr_can (e : EntryDef) (v n k : Nat) :
    (s.wr e v n k).can = s.can := rfl
@[simp] theorem State.wr_tagRejectAt (e : EntryDef) (v n k : Nat) :
    (s.wr e v n k).tagRejectAt = s.tagRejectAt := rfl
@[simp] theorem State.wr_udpFailures (e : EntryDef) (v n k : Nat) :
    (s.wr e v n k).udpFailures = s.udpFailures := rfl
@[simp] theorem State.wr_udpLocked (e : EntryDef) (v n k : Nat) :
    (s.wr e v n k).udpLocked = s.udpLocked := rfl
@[simp] theorem State.wr_draws (e : EntryDef) (v n k : Nat) :
    (s.wr e v n k).draws = s.draws := rfl
@[simp] theorem State.wr_staging (e : EntryDef) (v n k : Nat) :
    (s.wr e v n k).staging = s.staging := rfl
@[simp] theorem State.wr_stagingSess (e : EntryDef) (v n k : Nat) :
    (s.wr e v n k).stagingSess = s.stagingSess := rfl
@[simp] theorem State.wr_copy0 (e : EntryDef) (v n k : Nat) :
    (s.wr e v n k).copy0 = s.copy0 := rfl
@[simp] theorem State.wr_copy1 (e : EntryDef) (v n k : Nat) :
    (s.wr e v n k).copy1 = s.copy1 := rfl
@[simp] theorem State.wr_mgmtWait (e : EntryDef) (v n k : Nat) :
    (s.wr e v n k).mgmtWait = s.mgmtWait := rfl
@[simp] theorem State.wr_gov (e : EntryDef) (v n k : Nat) :
    (s.wr e v n k).gov = s.gov := rfl
@[simp] theorem State.wr_engines (e : EntryDef) (v n k : Nat) :
    (s.wr e v n k).engines = s.engines := rfl
@[simp] theorem State.wr_strips (e : EntryDef) (v n k : Nat) :
    (s.wr e v n k).strips = s.strips := rfl
@[simp] theorem State.wr_inputs (e : EntryDef) (v n k : Nat) :
    (s.wr e v n k).inputs = s.inputs := rfl
@[simp] theorem State.wr_hosts (e : EntryDef) (v n k : Nat) :
    (s.wr e v n k).hosts = s.hosts := rfl
@[simp] theorem State.wr_players (e : EntryDef) (v n k : Nat) :
    (s.wr e v n k).players = s.players := rfl
@[simp] theorem State.wr_layers (e : EntryDef) (v n k : Nat) :
    (s.wr e v n k).layers = s.layers := rfl
@[simp] theorem State.wr_canvases (e : EntryDef) (v n k : Nat) :
    (s.wr e v n k).canvases = s.canvases := rfl
@[simp] theorem State.wr_heads (e : EntryDef) (v n k : Nat) :
    (s.wr e v n k).heads = s.heads := rfl
@[simp] theorem State.wr_validating (e : EntryDef) (v n k : Nat) :
    (s.wr e v n k).validating = s.validating := rfl
@[simp] theorem State.wr_pendingCommits (e : EntryDef) (v n k : Nat) :
    (s.wr e v n k).pendingCommits = s.pendingCommits := rfl
@[simp] theorem State.wr_deferredWrites (e : EntryDef) (v n k : Nat) :
    (s.wr e v n k).deferredWrites = s.deferredWrites := rfl
@[simp] theorem State.wr_ulanes (e : EntryDef) (v n k : Nat) :
    (s.wr e v n k).ulanes = s.ulanes := rfl
@[simp] theorem State.wr_dlanes (e : EntryDef) (v n k : Nat) :
    (s.wr e v n k).dlanes = s.dlanes := rfl
@[simp] theorem State.wr_groups (e : EntryDef) (v n k : Nat) :
    (s.wr e v n k).groups = s.groups := rfl
@[simp] theorem State.wr_fecTimes (e : EntryDef) (v n k : Nat) :
    (s.wr e v n k).fecTimes = s.fecTimes := rfl
@[simp] theorem State.wr_routes (e : EntryDef) (v n k : Nat) :
    (s.wr e v n k).routes = s.routes := rfl
@[simp] theorem State.wr_activeEntry (e : EntryDef) (v n k : Nat) :
    (s.wr e v n k).activeEntry = s.activeEntry := rfl
@[simp] theorem State.wr_flows (e : EntryDef) (v n k : Nat) :
    (s.wr e v n k).flows = s.flows := rfl
@[simp] theorem State.wr_switches (e : EntryDef) (v n k : Nat) :
    (s.wr e v n k).switches = s.switches := rfl
@[simp] theorem State.wr_switchedAt (e : EntryDef) (v n k : Nat) :
    (s.wr e v n k).switchedAt = s.switchedAt := rfl
@[simp] theorem State.wr_dropCount (e : EntryDef) (v n k : Nat) :
    (s.wr e v n k).dropCount = s.dropCount := rfl
@[simp] theorem State.wr_dropAt (e : EntryDef) (v n k : Nat) :
    (s.wr e v n k).dropAt = s.dropAt := rfl
@[simp] theorem State.wr_rtpSeq (e : EntryDef) (v n k : Nat) :
    (s.wr e v n k).rtpSeq = s.rtpSeq := rfl
@[simp] theorem State.wr_banks (e : EntryDef) (v n k : Nat) :
    (s.wr e v n k).banks = s.banks := rfl
@[simp] theorem State.wr_luts (e : EntryDef) (v n k : Nat) :
    (s.wr e v n k).luts = s.luts := rfl
@[simp] theorem State.wr_luts3d (e : EntryDef) (v n k : Nat) :
    (s.wr e v n k).luts3d = s.luts3d := rfl
@[simp] theorem State.wr_imageDesc (e : EntryDef) (v n k : Nat) :
    (s.wr e v n k).imageDesc = s.imageDesc := rfl
@[simp] theorem State.wr_imageData (e : EntryDef) (v n k : Nat) :
    (s.wr e v n k).imageData = s.imageData := rfl
@[simp] theorem State.wr_imageCrc (e : EntryDef) (v n k : Nat) :
    (s.wr e v n k).imageCrc = s.imageCrc := rfl
@[simp] theorem State.wr_imageBad (e : EntryDef) (v n k : Nat) :
    (s.wr e v n k).imageBad = s.imageBad := rfl
@[simp] theorem State.wr_tileMap (e : EntryDef) (v n k : Nat) :
    (s.wr e v n k).tileMap = s.tileMap := rfl
@[simp] theorem State.wr_tileShadow (e : EntryDef) (v n k : Nat) :
    (s.wr e v n k).tileShadow = s.tileShadow := rfl
@[simp] theorem State.wr_calib (e : EntryDef) (v n k : Nat) :
    (s.wr e v n k).calib = s.calib := rfl
@[simp] theorem State.wr_calibShadow (e : EntryDef) (v n k : Nat) :
    (s.wr e v n k).calibShadow = s.calibShadow := rfl
@[simp] theorem State.wr_tiles (e : EntryDef) (v n k : Nat) :
    (s.wr e v n k).tiles = s.tiles := rfl
@[simp] theorem State.wr_ptl (e : EntryDef) (v n k : Nat) :
    (s.wr e v n k).ptl = s.ptl := rfl
@[simp] theorem State.wr_ptlCounters (e : EntryDef) (v n k : Nat) :
    (s.wr e v n k).ptlCounters = s.ptlCounters := rfl
@[simp] theorem State.wr_authFailTimes (e : EntryDef) (v n k : Nat) :
    (s.wr e v n k).authFailTimes = s.authFailTimes := rfl
@[simp] theorem State.wr_hentis (e : EntryDef) (v n k : Nat) :
    (s.wr e v n k).hentis = s.hentis := rfl
@[simp] theorem State.wr_refs (e : EntryDef) (v n k : Nat) :
    (s.wr e v n k).refs = s.refs := rfl
@[simp] theorem State.wr_ftgs (e : EntryDef) (v n k : Nat) :
    (s.wr e v n k).ftgs = s.ftgs := rfl
@[simp] theorem State.wr_audio (e : EntryDef) (v n k : Nat) :
    (s.wr e v n k).audio = s.audio := rfl
@[simp] theorem State.wr_channelTable (e : EntryDef) (v n k : Nat) :
    (s.wr e v n k).channelTable = s.channelTable := rfl
@[simp] theorem State.wr_streamTable (e : EntryDef) (v n k : Nat) :
    (s.wr e v n k).streamTable = s.streamTable := rfl
@[simp] theorem State.wr_channels (e : EntryDef) (v n k : Nat) :
    (s.wr e v n k).channels = s.channels := rfl
@[simp] theorem State.wr_endpoints (e : EntryDef) (v n k : Nat) :
    (s.wr e v n k).endpoints = s.endpoints := rfl
@[simp] theorem State.wr_dram (e : EntryDef) (v n k : Nat) :
    (s.wr e v n k).dram = s.dram := rfl
@[simp] theorem State.wr_scanAlloc (e : EntryDef) (v n k : Nat) :
    (s.wr e v n k).scanAlloc = s.scanAlloc := rfl
@[simp] theorem State.wr_stageAlloc (e : EntryDef) (v n k : Nat) :
    (s.wr e v n k).stageAlloc = s.stageAlloc := rfl
@[simp] theorem State.wr_liningAlloc (e : EntryDef) (v n k : Nat) :
    (s.wr e v n k).liningAlloc = s.liningAlloc := rfl
@[simp] theorem State.wr_liningLostKib (e : EntryDef) (v n k : Nat) :
    (s.wr e v n k).liningLostKib = s.liningLostKib := rfl
@[simp] theorem State.wr_pocket (e : EntryDef) (v n k : Nat) :
    (s.wr e v n k).pocket = s.pocket := rfl
@[simp] theorem State.wr_resil (e : EntryDef) (v n k : Nat) :
    (s.wr e v n k).resil = s.resil := rfl
@[simp] theorem State.wr_keys (e : EntryDef) (v n k : Nat) :
    (s.wr e v n k).keys = s.keys := rfl
@[simp] theorem State.wr_life (e : EntryDef) (v n k : Nat) :
    (s.wr e v n k).life = s.life := rfl
@[simp] theorem State.wr_supply (e : EntryDef) (v n k : Nat) :
    (s.wr e v n k).supply = s.supply := rfl
@[simp] theorem State.wr_dev (e : EntryDef) (v n k : Nat) :
    (s.wr e v n k).dev = s.dev := rfl
@[simp] theorem State.wr_dom (e : EntryDef) (v n k : Nat) (i : EntryDef) (p q : Nat) :
    (s.wr e v n k).dom i p q = s.dom i p q := rfl
@[simp] theorem State.wr_hostByte (e : EntryDef) (v n k : Nat) (p : Nat) :
    (s.wr e v n k).hostByte p = s.hostByte p := rfl
@[simp] theorem State.wr_sessAt (e : EntryDef) (v n k : Nat) (p : Nat) :
    (s.wr e v n k).sessAt p = s.sessAt p := rfl
@[simp] theorem State.wr_canAt (e : EntryDef) (v n k : Nat) (p : Nat) :
    (s.wr e v n k).canAt p = s.canAt p := rfl
@[simp] theorem State.wr_engineAt (e : EntryDef) (v n k : Nat) (p : Nat) :
    (s.wr e v n k).engineAt p = s.engineAt p := rfl
@[simp] theorem State.wr_inputAt (e : EntryDef) (v n k : Nat) (p : Nat) :
    (s.wr e v n k).inputAt p = s.inputAt p := rfl
@[simp] theorem State.wr_hostAt (e : EntryDef) (v n k : Nat) (p : Nat) :
    (s.wr e v n k).hostAt p = s.hostAt p := rfl
@[simp] theorem State.wr_playerAt (e : EntryDef) (v n k : Nat) (p : Nat) :
    (s.wr e v n k).playerAt p = s.playerAt p := rfl
@[simp] theorem State.wr_layerAt (e : EntryDef) (v n k : Nat) (p : Nat) :
    (s.wr e v n k).layerAt p = s.layerAt p := rfl
@[simp] theorem State.wr_canvasAt (e : EntryDef) (v n k : Nat) (p : Nat) :
    (s.wr e v n k).canvasAt p = s.canvasAt p := rfl
@[simp] theorem State.wr_headAt (e : EntryDef) (v n k : Nat) (p : Nat) :
    (s.wr e v n k).headAt p = s.headAt p := rfl
@[simp] theorem State.wr_ulaneAt (e : EntryDef) (v n k : Nat) (p : Nat) :
    (s.wr e v n k).ulaneAt p = s.ulaneAt p := rfl
@[simp] theorem State.wr_dlaneAt (e : EntryDef) (v n k : Nat) (p : Nat) :
    (s.wr e v n k).dlaneAt p = s.dlaneAt p := rfl
@[simp] theorem State.wr_groupAt (e : EntryDef) (v n k : Nat) (p : Nat) :
    (s.wr e v n k).groupAt p = s.groupAt p := rfl
@[simp] theorem State.wr_flowAt (e : EntryDef) (v n k : Nat) (p : Nat) :
    (s.wr e v n k).flowAt p = s.flowAt p := rfl
@[simp] theorem State.wr_tileAt (e : EntryDef) (v n k : Nat) (p : Nat) :
    (s.wr e v n k).tileAt p = s.tileAt p := rfl
@[simp] theorem State.wr_refAt (e : EntryDef) (v n k : Nat) (p : Nat) :
    (s.wr e v n k).refAt p = s.refAt p := rfl
@[simp] theorem State.wr_ftgAt (e : EntryDef) (v n k : Nat) (p : Nat) :
    (s.wr e v n k).ftgAt p = s.ftgAt p := rfl
@[simp] theorem State.wr_channelAt (e : EntryDef) (v n k : Nat) (p : Nat) :
    (s.wr e v n k).channelAt p = s.channelAt p := rfl
@[simp] theorem State.wr_endpointAt (e : EntryDef) (v n k : Nat) (p : Nat) :
    (s.wr e v n k).endpointAt p = s.endpointAt p := rfl
@[simp] theorem State.wr_imageBadAt (e : EntryDef) (v n k : Nat) (p : Nat) :
    (s.wr e v n k).imageBadAt p = s.imageBadAt p := rfl
@[simp] theorem State.wr_activeAt (e : EntryDef) (v n k : Nat) (p : Nat) :
    (s.wr e v n k).activeAt p = s.activeAt p := rfl
@[simp] theorem State.wr_udpFailAt (e : EntryDef) (v n k : Nat) (p : Nat) :
    (s.wr e v n k).udpFailAt p = s.udpFailAt p := rfl
@[simp] theorem State.wr_udpLockAt (e : EntryDef) (v n k : Nat) (p : Nat) :
    (s.wr e v n k).udpLockAt p = s.udpLockAt p := rfl
@[simp] theorem State.wr_droppedAt (e : EntryDef) (v n k : Nat) (p : Nat) :
    (s.wr e v n k).droppedAt p = s.droppedAt p := rfl
@[simp] theorem State.wr_dropTimeAt (e : EntryDef) (v n k : Nat) (p : Nat) :
    (s.wr e v n k).dropTimeAt p = s.dropTimeAt p := rfl
@[simp] theorem State.wr_rtpAt (e : EntryDef) (v n k : Nat) (p : Nat) :
    (s.wr e v n k).rtpAt p = s.rtpAt p := rfl
@[simp] theorem State.wr_imageCrcAt (e : EntryDef) (v n k : Nat) (p : Nat) :
    (s.wr e v n k).imageCrcAt p = s.imageCrcAt p := rfl
@[simp] theorem State.wr_ptlCounterAt (e : EntryDef) (v n k : Nat) (p : Nat) :
    (s.wr e v n k).ptlCounterAt p = s.ptlCounterAt p := rfl
@[simp] theorem State.wr_authFailAt (e : EntryDef) (v n k : Nat) (p : Nat) :
    (s.wr e v n k).authFailAt p = s.authFailAt p := rfl
@[simp] theorem State.wr_scanAt (e : EntryDef) (v n k : Nat) (p : Nat) :
    (s.wr e v n k).scanAt p = s.scanAt p := rfl
@[simp] theorem State.wr_stageAt (e : EntryDef) (v n k : Nat) (p : Nat) :
    (s.wr e v n k).stageAt p = s.stageAt p := rfl
@[simp] theorem State.wr_liningAt (e : EntryDef) (v n k : Nat) (p : Nat) :
    (s.wr e v n k).liningAt p = s.liningAt p := rfl
@[simp] theorem State.wr_routeAt (e : EntryDef) (v n k : Nat) (p : Nat) :
    (s.wr e v n k).routeAt p = s.routeAt p := rfl
@[simp] theorem State.wr_bankAt (e : EntryDef) (v n k : Nat) (p : Nat) :
    (s.wr e v n k).bankAt p = s.bankAt p := rfl
@[simp] theorem State.wr_lutAt (e : EntryDef) (v n k : Nat) (p : Nat) :
    (s.wr e v n k).lutAt p = s.lutAt p := rfl
@[simp] theorem State.wr_lut3dAt (e : EntryDef) (v n k : Nat) (p : Nat) :
    (s.wr e v n k).lut3dAt p = s.lut3dAt p := rfl
@[simp] theorem State.wr_imageDescAt (e : EntryDef) (v n k : Nat) (p : Nat) :
    (s.wr e v n k).imageDescAt p = s.imageDescAt p := rfl
@[simp] theorem State.wr_imageDataAt (e : EntryDef) (v n k : Nat) (p : Nat) :
    (s.wr e v n k).imageDataAt p = s.imageDataAt p := rfl
@[simp] theorem State.wr_tileEntryAt (e : EntryDef) (v n k : Nat) (p : Nat) :
    (s.wr e v n k).tileEntryAt p = s.tileEntryAt p := rfl
@[simp] theorem State.wr_tileShadowAt (e : EntryDef) (v n k : Nat) (p : Nat) :
    (s.wr e v n k).tileShadowAt p = s.tileShadowAt p := rfl
@[simp] theorem State.wr_calibAt (e : EntryDef) (v n k : Nat) (p : Nat) :
    (s.wr e v n k).calibAt p = s.calibAt p := rfl
@[simp] theorem State.wr_calibShadowAt (e : EntryDef) (v n k : Nat) (p : Nat) :
    (s.wr e v n k).calibShadowAt p = s.calibShadowAt p := rfl
@[simp] theorem State.wr_channelEntryAt (e : EntryDef) (v n k : Nat) (p : Nat) :
    (s.wr e v n k).channelEntryAt p = s.channelEntryAt p := rfl
@[simp] theorem State.wr_streamEntryAt (e : EntryDef) (v n k : Nat) (p : Nat) :
    (s.wr e v n k).streamEntryAt p = s.streamEntryAt p := rfl

/-! ### setShadow -/

@[simp] theorem State.setShadow_now (key v : Nat) :
    (s.setShadow key v).now = s.now := rfl
@[simp] theorem State.setShadow_timebase (key v : Nat) :
    (s.setShadow key v).timebase = s.timebase := rfl
@[simp] theorem State.setShadow_dcoRest (key v : Nat) :
    (s.setShadow key v).dcoRest = s.dcoRest := rfl
@[simp] theorem State.setShadow_pending (key v : Nat) :
    (s.setShadow key v).pending = s.pending := rfl
@[simp] theorem State.setShadow_wire (key v : Nat) :
    (s.setShadow key v).wire = s.wire := rfl
@[simp] theorem State.setShadow_actor (key v : Nat) :
    (s.setShadow key v).actor = s.actor := rfl
@[simp] theorem State.setShadow_tap (key v : Nat) :
    (s.setShadow key v).tap = s.tap := rfl
@[simp] theorem State.setShadow_regs (key v : Nat) :
    (s.setShadow key v).regs = s.regs := rfl
@[simp] theorem State.setShadow_doms (key v : Nat) :
    (s.setShadow key v).doms = s.doms := rfl
@[simp] theorem State.setShadow_shadowDoms (key v : Nat) :
    (s.setShadow key v).shadowDoms = s.shadowDoms := rfl
@[simp] theorem State.setShadow_minSeverityDefault (key v : Nat) :
    (s.setShadow key v).minSeverityDefault = s.minSeverityDefault := rfl
@[simp] theorem State.setShadow_sess (key v : Nat) :
    (s.setShadow key v).sess = s.sess := rfl
@[simp] theorem State.setShadow_ev (key v : Nat) :
    (s.setShadow key v).ev = s.ev := rfl
@[simp] theorem State.setShadow_spi (key v : Nat) :
    (s.setShadow key v).spi = s.spi := rfl
@[simp] theorem State.setShadow_mailbox (key v : Nat) :
    (s.setShadow key v).mailbox = s.mailbox := rfl
@[simp] theorem State.setShadow_can (key v : Nat) :
    (s.setShadow key v).can = s.can := rfl
@[simp] theorem State.setShadow_tagRejectAt (key v : Nat) :
    (s.setShadow key v).tagRejectAt = s.tagRejectAt := rfl
@[simp] theorem State.setShadow_udpFailures (key v : Nat) :
    (s.setShadow key v).udpFailures = s.udpFailures := rfl
@[simp] theorem State.setShadow_udpLocked (key v : Nat) :
    (s.setShadow key v).udpLocked = s.udpLocked := rfl
@[simp] theorem State.setShadow_draws (key v : Nat) :
    (s.setShadow key v).draws = s.draws := rfl
@[simp] theorem State.setShadow_staging (key v : Nat) :
    (s.setShadow key v).staging = s.staging := rfl
@[simp] theorem State.setShadow_stagingSess (key v : Nat) :
    (s.setShadow key v).stagingSess = s.stagingSess := rfl
@[simp] theorem State.setShadow_copy0 (key v : Nat) :
    (s.setShadow key v).copy0 = s.copy0 := rfl
@[simp] theorem State.setShadow_copy1 (key v : Nat) :
    (s.setShadow key v).copy1 = s.copy1 := rfl
@[simp] theorem State.setShadow_mgmtWait (key v : Nat) :
    (s.setShadow key v).mgmtWait = s.mgmtWait := rfl
@[simp] theorem State.setShadow_gov (key v : Nat) :
    (s.setShadow key v).gov = s.gov := rfl
@[simp] theorem State.setShadow_engines (key v : Nat) :
    (s.setShadow key v).engines = s.engines := rfl
@[simp] theorem State.setShadow_strips (key v : Nat) :
    (s.setShadow key v).strips = s.strips := rfl
@[simp] theorem State.setShadow_inputs (key v : Nat) :
    (s.setShadow key v).inputs = s.inputs := rfl
@[simp] theorem State.setShadow_hosts (key v : Nat) :
    (s.setShadow key v).hosts = s.hosts := rfl
@[simp] theorem State.setShadow_players (key v : Nat) :
    (s.setShadow key v).players = s.players := rfl
@[simp] theorem State.setShadow_layers (key v : Nat) :
    (s.setShadow key v).layers = s.layers := rfl
@[simp] theorem State.setShadow_canvases (key v : Nat) :
    (s.setShadow key v).canvases = s.canvases := rfl
@[simp] theorem State.setShadow_heads (key v : Nat) :
    (s.setShadow key v).heads = s.heads := rfl
@[simp] theorem State.setShadow_validating (key v : Nat) :
    (s.setShadow key v).validating = s.validating := rfl
@[simp] theorem State.setShadow_pendingCommits (key v : Nat) :
    (s.setShadow key v).pendingCommits = s.pendingCommits := rfl
@[simp] theorem State.setShadow_deferredWrites (key v : Nat) :
    (s.setShadow key v).deferredWrites = s.deferredWrites := rfl
@[simp] theorem State.setShadow_ulanes (key v : Nat) :
    (s.setShadow key v).ulanes = s.ulanes := rfl
@[simp] theorem State.setShadow_dlanes (key v : Nat) :
    (s.setShadow key v).dlanes = s.dlanes := rfl
@[simp] theorem State.setShadow_groups (key v : Nat) :
    (s.setShadow key v).groups = s.groups := rfl
@[simp] theorem State.setShadow_fecTimes (key v : Nat) :
    (s.setShadow key v).fecTimes = s.fecTimes := rfl
@[simp] theorem State.setShadow_routes (key v : Nat) :
    (s.setShadow key v).routes = s.routes := rfl
@[simp] theorem State.setShadow_activeEntry (key v : Nat) :
    (s.setShadow key v).activeEntry = s.activeEntry := rfl
@[simp] theorem State.setShadow_flows (key v : Nat) :
    (s.setShadow key v).flows = s.flows := rfl
@[simp] theorem State.setShadow_switches (key v : Nat) :
    (s.setShadow key v).switches = s.switches := rfl
@[simp] theorem State.setShadow_switchedAt (key v : Nat) :
    (s.setShadow key v).switchedAt = s.switchedAt := rfl
@[simp] theorem State.setShadow_dropCount (key v : Nat) :
    (s.setShadow key v).dropCount = s.dropCount := rfl
@[simp] theorem State.setShadow_dropAt (key v : Nat) :
    (s.setShadow key v).dropAt = s.dropAt := rfl
@[simp] theorem State.setShadow_rtpSeq (key v : Nat) :
    (s.setShadow key v).rtpSeq = s.rtpSeq := rfl
@[simp] theorem State.setShadow_banks (key v : Nat) :
    (s.setShadow key v).banks = s.banks := rfl
@[simp] theorem State.setShadow_luts (key v : Nat) :
    (s.setShadow key v).luts = s.luts := rfl
@[simp] theorem State.setShadow_luts3d (key v : Nat) :
    (s.setShadow key v).luts3d = s.luts3d := rfl
@[simp] theorem State.setShadow_imageDesc (key v : Nat) :
    (s.setShadow key v).imageDesc = s.imageDesc := rfl
@[simp] theorem State.setShadow_imageData (key v : Nat) :
    (s.setShadow key v).imageData = s.imageData := rfl
@[simp] theorem State.setShadow_imageCrc (key v : Nat) :
    (s.setShadow key v).imageCrc = s.imageCrc := rfl
@[simp] theorem State.setShadow_imageBad (key v : Nat) :
    (s.setShadow key v).imageBad = s.imageBad := rfl
@[simp] theorem State.setShadow_tileMap (key v : Nat) :
    (s.setShadow key v).tileMap = s.tileMap := rfl
@[simp] theorem State.setShadow_tileShadow (key v : Nat) :
    (s.setShadow key v).tileShadow = s.tileShadow := rfl
@[simp] theorem State.setShadow_calib (key v : Nat) :
    (s.setShadow key v).calib = s.calib := rfl
@[simp] theorem State.setShadow_calibShadow (key v : Nat) :
    (s.setShadow key v).calibShadow = s.calibShadow := rfl
@[simp] theorem State.setShadow_tiles (key v : Nat) :
    (s.setShadow key v).tiles = s.tiles := rfl
@[simp] theorem State.setShadow_ptl (key v : Nat) :
    (s.setShadow key v).ptl = s.ptl := rfl
@[simp] theorem State.setShadow_ptlCounters (key v : Nat) :
    (s.setShadow key v).ptlCounters = s.ptlCounters := rfl
@[simp] theorem State.setShadow_authFailTimes (key v : Nat) :
    (s.setShadow key v).authFailTimes = s.authFailTimes := rfl
@[simp] theorem State.setShadow_hentis (key v : Nat) :
    (s.setShadow key v).hentis = s.hentis := rfl
@[simp] theorem State.setShadow_refs (key v : Nat) :
    (s.setShadow key v).refs = s.refs := rfl
@[simp] theorem State.setShadow_ftgs (key v : Nat) :
    (s.setShadow key v).ftgs = s.ftgs := rfl
@[simp] theorem State.setShadow_audio (key v : Nat) :
    (s.setShadow key v).audio = s.audio := rfl
@[simp] theorem State.setShadow_channelTable (key v : Nat) :
    (s.setShadow key v).channelTable = s.channelTable := rfl
@[simp] theorem State.setShadow_streamTable (key v : Nat) :
    (s.setShadow key v).streamTable = s.streamTable := rfl
@[simp] theorem State.setShadow_channels (key v : Nat) :
    (s.setShadow key v).channels = s.channels := rfl
@[simp] theorem State.setShadow_endpoints (key v : Nat) :
    (s.setShadow key v).endpoints = s.endpoints := rfl
@[simp] theorem State.setShadow_dram (key v : Nat) :
    (s.setShadow key v).dram = s.dram := rfl
@[simp] theorem State.setShadow_scanAlloc (key v : Nat) :
    (s.setShadow key v).scanAlloc = s.scanAlloc := rfl
@[simp] theorem State.setShadow_stageAlloc (key v : Nat) :
    (s.setShadow key v).stageAlloc = s.stageAlloc := rfl
@[simp] theorem State.setShadow_liningAlloc (key v : Nat) :
    (s.setShadow key v).liningAlloc = s.liningAlloc := rfl
@[simp] theorem State.setShadow_liningLostKib (key v : Nat) :
    (s.setShadow key v).liningLostKib = s.liningLostKib := rfl
@[simp] theorem State.setShadow_pocket (key v : Nat) :
    (s.setShadow key v).pocket = s.pocket := rfl
@[simp] theorem State.setShadow_resil (key v : Nat) :
    (s.setShadow key v).resil = s.resil := rfl
@[simp] theorem State.setShadow_keys (key v : Nat) :
    (s.setShadow key v).keys = s.keys := rfl
@[simp] theorem State.setShadow_life (key v : Nat) :
    (s.setShadow key v).life = s.life := rfl
@[simp] theorem State.setShadow_supply (key v : Nat) :
    (s.setShadow key v).supply = s.supply := rfl
@[simp] theorem State.setShadow_dev (key v : Nat) :
    (s.setShadow key v).dev = s.dev := rfl
@[simp] theorem State.setShadow_rd (key v : Nat) (i : EntryDef) (p q : Nat) :
    (s.setShadow key v).rd i p q = s.rd i p q := rfl
@[simp] theorem State.setShadow_flag (key v : Nat) (i : EntryDef) (p q : Nat) :
    (s.setShadow key v).flag i p q = s.flag i p q := rfl
@[simp] theorem State.setShadow_rdInt (key v : Nat) (i : EntryDef) (p q : Nat) :
    (s.setShadow key v).rdInt i p q = s.rdInt i p q := rfl
@[simp] theorem State.setShadow_dom (key v : Nat) (i : EntryDef) (p q : Nat) :
    (s.setShadow key v).dom i p q = s.dom i p q := rfl
@[simp] theorem State.setShadow_floor (key v : Nat) :
    (s.setShadow key v).floor = s.floor := rfl
@[simp] theorem State.setShadow_devState (key v : Nat) :
    (s.setShadow key v).devState = s.devState := rfl
@[simp] theorem State.setShadow_dictUp (key v : Nat) :
    (s.setShadow key v).dictUp = s.dictUp := rfl
@[simp] theorem State.setShadow_alive (key v : Nat) :
    (s.setShadow key v).alive = s.alive := rfl
@[simp] theorem State.setShadow_hostByte (key v : Nat) (p : Nat) :
    (s.setShadow key v).hostByte p = s.hostByte p := rfl
@[simp] theorem State.setShadow_sessAt (key v : Nat) (p : Nat) :
    (s.setShadow key v).sessAt p = s.sessAt p := rfl
@[simp] theorem State.setShadow_canAt (key v : Nat) (p : Nat) :
    (s.setShadow key v).canAt p = s.canAt p := rfl
@[simp] theorem State.setShadow_engineAt (key v : Nat) (p : Nat) :
    (s.setShadow key v).engineAt p = s.engineAt p := rfl
@[simp] theorem State.setShadow_inputAt (key v : Nat) (p : Nat) :
    (s.setShadow key v).inputAt p = s.inputAt p := rfl
@[simp] theorem State.setShadow_hostAt (key v : Nat) (p : Nat) :
    (s.setShadow key v).hostAt p = s.hostAt p := rfl
@[simp] theorem State.setShadow_playerAt (key v : Nat) (p : Nat) :
    (s.setShadow key v).playerAt p = s.playerAt p := rfl
@[simp] theorem State.setShadow_layerAt (key v : Nat) (p : Nat) :
    (s.setShadow key v).layerAt p = s.layerAt p := rfl
@[simp] theorem State.setShadow_canvasAt (key v : Nat) (p : Nat) :
    (s.setShadow key v).canvasAt p = s.canvasAt p := rfl
@[simp] theorem State.setShadow_headAt (key v : Nat) (p : Nat) :
    (s.setShadow key v).headAt p = s.headAt p := rfl
@[simp] theorem State.setShadow_ulaneAt (key v : Nat) (p : Nat) :
    (s.setShadow key v).ulaneAt p = s.ulaneAt p := rfl
@[simp] theorem State.setShadow_dlaneAt (key v : Nat) (p : Nat) :
    (s.setShadow key v).dlaneAt p = s.dlaneAt p := rfl
@[simp] theorem State.setShadow_groupAt (key v : Nat) (p : Nat) :
    (s.setShadow key v).groupAt p = s.groupAt p := rfl
@[simp] theorem State.setShadow_flowAt (key v : Nat) (p : Nat) :
    (s.setShadow key v).flowAt p = s.flowAt p := rfl
@[simp] theorem State.setShadow_tileAt (key v : Nat) (p : Nat) :
    (s.setShadow key v).tileAt p = s.tileAt p := rfl
@[simp] theorem State.setShadow_refAt (key v : Nat) (p : Nat) :
    (s.setShadow key v).refAt p = s.refAt p := rfl
@[simp] theorem State.setShadow_ftgAt (key v : Nat) (p : Nat) :
    (s.setShadow key v).ftgAt p = s.ftgAt p := rfl
@[simp] theorem State.setShadow_channelAt (key v : Nat) (p : Nat) :
    (s.setShadow key v).channelAt p = s.channelAt p := rfl
@[simp] theorem State.setShadow_endpointAt (key v : Nat) (p : Nat) :
    (s.setShadow key v).endpointAt p = s.endpointAt p := rfl
@[simp] theorem State.setShadow_imageBadAt (key v : Nat) (p : Nat) :
    (s.setShadow key v).imageBadAt p = s.imageBadAt p := rfl
@[simp] theorem State.setShadow_activeAt (key v : Nat) (p : Nat) :
    (s.setShadow key v).activeAt p = s.activeAt p := rfl
@[simp] theorem State.setShadow_udpFailAt (key v : Nat) (p : Nat) :
    (s.setShadow key v).udpFailAt p = s.udpFailAt p := rfl
@[simp] theorem State.setShadow_udpLockAt (key v : Nat) (p : Nat) :
    (s.setShadow key v).udpLockAt p = s.udpLockAt p := rfl
@[simp] theorem State.setShadow_droppedAt (key v : Nat) (p : Nat) :
    (s.setShadow key v).droppedAt p = s.droppedAt p := rfl
@[simp] theorem State.setShadow_dropTimeAt (key v : Nat) (p : Nat) :
    (s.setShadow key v).dropTimeAt p = s.dropTimeAt p := rfl
@[simp] theorem State.setShadow_rtpAt (key v : Nat) (p : Nat) :
    (s.setShadow key v).rtpAt p = s.rtpAt p := rfl
@[simp] theorem State.setShadow_imageCrcAt (key v : Nat) (p : Nat) :
    (s.setShadow key v).imageCrcAt p = s.imageCrcAt p := rfl
@[simp] theorem State.setShadow_ptlCounterAt (key v : Nat) (p : Nat) :
    (s.setShadow key v).ptlCounterAt p = s.ptlCounterAt p := rfl
@[simp] theorem State.setShadow_authFailAt (key v : Nat) (p : Nat) :
    (s.setShadow key v).authFailAt p = s.authFailAt p := rfl
@[simp] theorem State.setShadow_scanAt (key v : Nat) (p : Nat) :
    (s.setShadow key v).scanAt p = s.scanAt p := rfl
@[simp] theorem State.setShadow_stageAt (key v : Nat) (p : Nat) :
    (s.setShadow key v).stageAt p = s.stageAt p := rfl
@[simp] theorem State.setShadow_liningAt (key v : Nat) (p : Nat) :
    (s.setShadow key v).liningAt p = s.liningAt p := rfl
@[simp] theorem State.setShadow_routeAt (key v : Nat) (p : Nat) :
    (s.setShadow key v).routeAt p = s.routeAt p := rfl
@[simp] theorem State.setShadow_bankAt (key v : Nat) (p : Nat) :
    (s.setShadow key v).bankAt p = s.bankAt p := rfl
@[simp] theorem State.setShadow_lutAt (key v : Nat) (p : Nat) :
    (s.setShadow key v).lutAt p = s.lutAt p := rfl
@[simp] theorem State.setShadow_lut3dAt (key v : Nat) (p : Nat) :
    (s.setShadow key v).lut3dAt p = s.lut3dAt p := rfl
@[simp] theorem State.setShadow_imageDescAt (key v : Nat) (p : Nat) :
    (s.setShadow key v).imageDescAt p = s.imageDescAt p := rfl
@[simp] theorem State.setShadow_imageDataAt (key v : Nat) (p : Nat) :
    (s.setShadow key v).imageDataAt p = s.imageDataAt p := rfl
@[simp] theorem State.setShadow_tileEntryAt (key v : Nat) (p : Nat) :
    (s.setShadow key v).tileEntryAt p = s.tileEntryAt p := rfl
@[simp] theorem State.setShadow_tileShadowAt (key v : Nat) (p : Nat) :
    (s.setShadow key v).tileShadowAt p = s.tileShadowAt p := rfl
@[simp] theorem State.setShadow_calibAt (key v : Nat) (p : Nat) :
    (s.setShadow key v).calibAt p = s.calibAt p := rfl
@[simp] theorem State.setShadow_calibShadowAt (key v : Nat) (p : Nat) :
    (s.setShadow key v).calibShadowAt p = s.calibShadowAt p := rfl
@[simp] theorem State.setShadow_channelEntryAt (key v : Nat) (p : Nat) :
    (s.setShadow key v).channelEntryAt p = s.channelEntryAt p := rfl
@[simp] theorem State.setShadow_streamEntryAt (key v : Nat) (p : Nat) :
    (s.setShadow key v).streamEntryAt p = s.streamEntryAt p := rfl

/-! ### setDom -/

@[simp] theorem State.setDom_now (key : Nat) (v : List Byte) :
    (s.setDom key v).now = s.now := rfl
@[simp] theorem State.setDom_timebase (key : Nat) (v : List Byte) :
    (s.setDom key v).timebase = s.timebase := rfl
@[simp] theorem State.setDom_dcoRest (key : Nat) (v : List Byte) :
    (s.setDom key v).dcoRest = s.dcoRest := rfl
@[simp] theorem State.setDom_pending (key : Nat) (v : List Byte) :
    (s.setDom key v).pending = s.pending := rfl
@[simp] theorem State.setDom_wire (key : Nat) (v : List Byte) :
    (s.setDom key v).wire = s.wire := rfl
@[simp] theorem State.setDom_actor (key : Nat) (v : List Byte) :
    (s.setDom key v).actor = s.actor := rfl
@[simp] theorem State.setDom_tap (key : Nat) (v : List Byte) :
    (s.setDom key v).tap = s.tap := rfl
@[simp] theorem State.setDom_regs (key : Nat) (v : List Byte) :
    (s.setDom key v).regs = s.regs := rfl
@[simp] theorem State.setDom_shadow (key : Nat) (v : List Byte) :
    (s.setDom key v).shadow = s.shadow := rfl
@[simp] theorem State.setDom_shadowDoms (key : Nat) (v : List Byte) :
    (s.setDom key v).shadowDoms = s.shadowDoms := rfl
@[simp] theorem State.setDom_minSeverityDefault (key : Nat) (v : List Byte) :
    (s.setDom key v).minSeverityDefault = s.minSeverityDefault := rfl
@[simp] theorem State.setDom_sess (key : Nat) (v : List Byte) :
    (s.setDom key v).sess = s.sess := rfl
@[simp] theorem State.setDom_ev (key : Nat) (v : List Byte) :
    (s.setDom key v).ev = s.ev := rfl
@[simp] theorem State.setDom_spi (key : Nat) (v : List Byte) :
    (s.setDom key v).spi = s.spi := rfl
@[simp] theorem State.setDom_mailbox (key : Nat) (v : List Byte) :
    (s.setDom key v).mailbox = s.mailbox := rfl
@[simp] theorem State.setDom_can (key : Nat) (v : List Byte) :
    (s.setDom key v).can = s.can := rfl
@[simp] theorem State.setDom_tagRejectAt (key : Nat) (v : List Byte) :
    (s.setDom key v).tagRejectAt = s.tagRejectAt := rfl
@[simp] theorem State.setDom_udpFailures (key : Nat) (v : List Byte) :
    (s.setDom key v).udpFailures = s.udpFailures := rfl
@[simp] theorem State.setDom_udpLocked (key : Nat) (v : List Byte) :
    (s.setDom key v).udpLocked = s.udpLocked := rfl
@[simp] theorem State.setDom_draws (key : Nat) (v : List Byte) :
    (s.setDom key v).draws = s.draws := rfl
@[simp] theorem State.setDom_staging (key : Nat) (v : List Byte) :
    (s.setDom key v).staging = s.staging := rfl
@[simp] theorem State.setDom_stagingSess (key : Nat) (v : List Byte) :
    (s.setDom key v).stagingSess = s.stagingSess := rfl
@[simp] theorem State.setDom_copy0 (key : Nat) (v : List Byte) :
    (s.setDom key v).copy0 = s.copy0 := rfl
@[simp] theorem State.setDom_copy1 (key : Nat) (v : List Byte) :
    (s.setDom key v).copy1 = s.copy1 := rfl
@[simp] theorem State.setDom_mgmtWait (key : Nat) (v : List Byte) :
    (s.setDom key v).mgmtWait = s.mgmtWait := rfl
@[simp] theorem State.setDom_gov (key : Nat) (v : List Byte) :
    (s.setDom key v).gov = s.gov := rfl
@[simp] theorem State.setDom_engines (key : Nat) (v : List Byte) :
    (s.setDom key v).engines = s.engines := rfl
@[simp] theorem State.setDom_strips (key : Nat) (v : List Byte) :
    (s.setDom key v).strips = s.strips := rfl
@[simp] theorem State.setDom_inputs (key : Nat) (v : List Byte) :
    (s.setDom key v).inputs = s.inputs := rfl
@[simp] theorem State.setDom_hosts (key : Nat) (v : List Byte) :
    (s.setDom key v).hosts = s.hosts := rfl
@[simp] theorem State.setDom_players (key : Nat) (v : List Byte) :
    (s.setDom key v).players = s.players := rfl
@[simp] theorem State.setDom_layers (key : Nat) (v : List Byte) :
    (s.setDom key v).layers = s.layers := rfl
@[simp] theorem State.setDom_canvases (key : Nat) (v : List Byte) :
    (s.setDom key v).canvases = s.canvases := rfl
@[simp] theorem State.setDom_heads (key : Nat) (v : List Byte) :
    (s.setDom key v).heads = s.heads := rfl
@[simp] theorem State.setDom_validating (key : Nat) (v : List Byte) :
    (s.setDom key v).validating = s.validating := rfl
@[simp] theorem State.setDom_pendingCommits (key : Nat) (v : List Byte) :
    (s.setDom key v).pendingCommits = s.pendingCommits := rfl
@[simp] theorem State.setDom_deferredWrites (key : Nat) (v : List Byte) :
    (s.setDom key v).deferredWrites = s.deferredWrites := rfl
@[simp] theorem State.setDom_ulanes (key : Nat) (v : List Byte) :
    (s.setDom key v).ulanes = s.ulanes := rfl
@[simp] theorem State.setDom_dlanes (key : Nat) (v : List Byte) :
    (s.setDom key v).dlanes = s.dlanes := rfl
@[simp] theorem State.setDom_groups (key : Nat) (v : List Byte) :
    (s.setDom key v).groups = s.groups := rfl
@[simp] theorem State.setDom_fecTimes (key : Nat) (v : List Byte) :
    (s.setDom key v).fecTimes = s.fecTimes := rfl
@[simp] theorem State.setDom_routes (key : Nat) (v : List Byte) :
    (s.setDom key v).routes = s.routes := rfl
@[simp] theorem State.setDom_activeEntry (key : Nat) (v : List Byte) :
    (s.setDom key v).activeEntry = s.activeEntry := rfl
@[simp] theorem State.setDom_flows (key : Nat) (v : List Byte) :
    (s.setDom key v).flows = s.flows := rfl
@[simp] theorem State.setDom_switches (key : Nat) (v : List Byte) :
    (s.setDom key v).switches = s.switches := rfl
@[simp] theorem State.setDom_switchedAt (key : Nat) (v : List Byte) :
    (s.setDom key v).switchedAt = s.switchedAt := rfl
@[simp] theorem State.setDom_dropCount (key : Nat) (v : List Byte) :
    (s.setDom key v).dropCount = s.dropCount := rfl
@[simp] theorem State.setDom_dropAt (key : Nat) (v : List Byte) :
    (s.setDom key v).dropAt = s.dropAt := rfl
@[simp] theorem State.setDom_rtpSeq (key : Nat) (v : List Byte) :
    (s.setDom key v).rtpSeq = s.rtpSeq := rfl
@[simp] theorem State.setDom_banks (key : Nat) (v : List Byte) :
    (s.setDom key v).banks = s.banks := rfl
@[simp] theorem State.setDom_luts (key : Nat) (v : List Byte) :
    (s.setDom key v).luts = s.luts := rfl
@[simp] theorem State.setDom_luts3d (key : Nat) (v : List Byte) :
    (s.setDom key v).luts3d = s.luts3d := rfl
@[simp] theorem State.setDom_imageDesc (key : Nat) (v : List Byte) :
    (s.setDom key v).imageDesc = s.imageDesc := rfl
@[simp] theorem State.setDom_imageData (key : Nat) (v : List Byte) :
    (s.setDom key v).imageData = s.imageData := rfl
@[simp] theorem State.setDom_imageCrc (key : Nat) (v : List Byte) :
    (s.setDom key v).imageCrc = s.imageCrc := rfl
@[simp] theorem State.setDom_imageBad (key : Nat) (v : List Byte) :
    (s.setDom key v).imageBad = s.imageBad := rfl
@[simp] theorem State.setDom_tileMap (key : Nat) (v : List Byte) :
    (s.setDom key v).tileMap = s.tileMap := rfl
@[simp] theorem State.setDom_tileShadow (key : Nat) (v : List Byte) :
    (s.setDom key v).tileShadow = s.tileShadow := rfl
@[simp] theorem State.setDom_calib (key : Nat) (v : List Byte) :
    (s.setDom key v).calib = s.calib := rfl
@[simp] theorem State.setDom_calibShadow (key : Nat) (v : List Byte) :
    (s.setDom key v).calibShadow = s.calibShadow := rfl
@[simp] theorem State.setDom_tiles (key : Nat) (v : List Byte) :
    (s.setDom key v).tiles = s.tiles := rfl
@[simp] theorem State.setDom_ptl (key : Nat) (v : List Byte) :
    (s.setDom key v).ptl = s.ptl := rfl
@[simp] theorem State.setDom_ptlCounters (key : Nat) (v : List Byte) :
    (s.setDom key v).ptlCounters = s.ptlCounters := rfl
@[simp] theorem State.setDom_authFailTimes (key : Nat) (v : List Byte) :
    (s.setDom key v).authFailTimes = s.authFailTimes := rfl
@[simp] theorem State.setDom_hentis (key : Nat) (v : List Byte) :
    (s.setDom key v).hentis = s.hentis := rfl
@[simp] theorem State.setDom_refs (key : Nat) (v : List Byte) :
    (s.setDom key v).refs = s.refs := rfl
@[simp] theorem State.setDom_ftgs (key : Nat) (v : List Byte) :
    (s.setDom key v).ftgs = s.ftgs := rfl
@[simp] theorem State.setDom_audio (key : Nat) (v : List Byte) :
    (s.setDom key v).audio = s.audio := rfl
@[simp] theorem State.setDom_channelTable (key : Nat) (v : List Byte) :
    (s.setDom key v).channelTable = s.channelTable := rfl
@[simp] theorem State.setDom_streamTable (key : Nat) (v : List Byte) :
    (s.setDom key v).streamTable = s.streamTable := rfl
@[simp] theorem State.setDom_channels (key : Nat) (v : List Byte) :
    (s.setDom key v).channels = s.channels := rfl
@[simp] theorem State.setDom_endpoints (key : Nat) (v : List Byte) :
    (s.setDom key v).endpoints = s.endpoints := rfl
@[simp] theorem State.setDom_dram (key : Nat) (v : List Byte) :
    (s.setDom key v).dram = s.dram := rfl
@[simp] theorem State.setDom_scanAlloc (key : Nat) (v : List Byte) :
    (s.setDom key v).scanAlloc = s.scanAlloc := rfl
@[simp] theorem State.setDom_stageAlloc (key : Nat) (v : List Byte) :
    (s.setDom key v).stageAlloc = s.stageAlloc := rfl
@[simp] theorem State.setDom_liningAlloc (key : Nat) (v : List Byte) :
    (s.setDom key v).liningAlloc = s.liningAlloc := rfl
@[simp] theorem State.setDom_liningLostKib (key : Nat) (v : List Byte) :
    (s.setDom key v).liningLostKib = s.liningLostKib := rfl
@[simp] theorem State.setDom_pocket (key : Nat) (v : List Byte) :
    (s.setDom key v).pocket = s.pocket := rfl
@[simp] theorem State.setDom_resil (key : Nat) (v : List Byte) :
    (s.setDom key v).resil = s.resil := rfl
@[simp] theorem State.setDom_keys (key : Nat) (v : List Byte) :
    (s.setDom key v).keys = s.keys := rfl
@[simp] theorem State.setDom_life (key : Nat) (v : List Byte) :
    (s.setDom key v).life = s.life := rfl
@[simp] theorem State.setDom_supply (key : Nat) (v : List Byte) :
    (s.setDom key v).supply = s.supply := rfl
@[simp] theorem State.setDom_dev (key : Nat) (v : List Byte) :
    (s.setDom key v).dev = s.dev := rfl
@[simp] theorem State.setDom_rd (key : Nat) (v : List Byte) (i : EntryDef) (p q : Nat) :
    (s.setDom key v).rd i p q = s.rd i p q := rfl
@[simp] theorem State.setDom_flag (key : Nat) (v : List Byte) (i : EntryDef) (p q : Nat) :
    (s.setDom key v).flag i p q = s.flag i p q := rfl
@[simp] theorem State.setDom_rdInt (key : Nat) (v : List Byte) (i : EntryDef) (p q : Nat) :
    (s.setDom key v).rdInt i p q = s.rdInt i p q := rfl
@[simp] theorem State.setDom_floor (key : Nat) (v : List Byte) :
    (s.setDom key v).floor = s.floor := rfl
@[simp] theorem State.setDom_devState (key : Nat) (v : List Byte) :
    (s.setDom key v).devState = s.devState := rfl
@[simp] theorem State.setDom_dictUp (key : Nat) (v : List Byte) :
    (s.setDom key v).dictUp = s.dictUp := rfl
@[simp] theorem State.setDom_alive (key : Nat) (v : List Byte) :
    (s.setDom key v).alive = s.alive := rfl
@[simp] theorem State.setDom_hostByte (key : Nat) (v : List Byte) (p : Nat) :
    (s.setDom key v).hostByte p = s.hostByte p := rfl
@[simp] theorem State.setDom_sessAt (key : Nat) (v : List Byte) (p : Nat) :
    (s.setDom key v).sessAt p = s.sessAt p := rfl
@[simp] theorem State.setDom_canAt (key : Nat) (v : List Byte) (p : Nat) :
    (s.setDom key v).canAt p = s.canAt p := rfl
@[simp] theorem State.setDom_engineAt (key : Nat) (v : List Byte) (p : Nat) :
    (s.setDom key v).engineAt p = s.engineAt p := rfl
@[simp] theorem State.setDom_inputAt (key : Nat) (v : List Byte) (p : Nat) :
    (s.setDom key v).inputAt p = s.inputAt p := rfl
@[simp] theorem State.setDom_hostAt (key : Nat) (v : List Byte) (p : Nat) :
    (s.setDom key v).hostAt p = s.hostAt p := rfl
@[simp] theorem State.setDom_playerAt (key : Nat) (v : List Byte) (p : Nat) :
    (s.setDom key v).playerAt p = s.playerAt p := rfl
@[simp] theorem State.setDom_layerAt (key : Nat) (v : List Byte) (p : Nat) :
    (s.setDom key v).layerAt p = s.layerAt p := rfl
@[simp] theorem State.setDom_canvasAt (key : Nat) (v : List Byte) (p : Nat) :
    (s.setDom key v).canvasAt p = s.canvasAt p := rfl
@[simp] theorem State.setDom_headAt (key : Nat) (v : List Byte) (p : Nat) :
    (s.setDom key v).headAt p = s.headAt p := rfl
@[simp] theorem State.setDom_ulaneAt (key : Nat) (v : List Byte) (p : Nat) :
    (s.setDom key v).ulaneAt p = s.ulaneAt p := rfl
@[simp] theorem State.setDom_dlaneAt (key : Nat) (v : List Byte) (p : Nat) :
    (s.setDom key v).dlaneAt p = s.dlaneAt p := rfl
@[simp] theorem State.setDom_groupAt (key : Nat) (v : List Byte) (p : Nat) :
    (s.setDom key v).groupAt p = s.groupAt p := rfl
@[simp] theorem State.setDom_flowAt (key : Nat) (v : List Byte) (p : Nat) :
    (s.setDom key v).flowAt p = s.flowAt p := rfl
@[simp] theorem State.setDom_tileAt (key : Nat) (v : List Byte) (p : Nat) :
    (s.setDom key v).tileAt p = s.tileAt p := rfl
@[simp] theorem State.setDom_refAt (key : Nat) (v : List Byte) (p : Nat) :
    (s.setDom key v).refAt p = s.refAt p := rfl
@[simp] theorem State.setDom_ftgAt (key : Nat) (v : List Byte) (p : Nat) :
    (s.setDom key v).ftgAt p = s.ftgAt p := rfl
@[simp] theorem State.setDom_channelAt (key : Nat) (v : List Byte) (p : Nat) :
    (s.setDom key v).channelAt p = s.channelAt p := rfl
@[simp] theorem State.setDom_endpointAt (key : Nat) (v : List Byte) (p : Nat) :
    (s.setDom key v).endpointAt p = s.endpointAt p := rfl
@[simp] theorem State.setDom_imageBadAt (key : Nat) (v : List Byte) (p : Nat) :
    (s.setDom key v).imageBadAt p = s.imageBadAt p := rfl
@[simp] theorem State.setDom_activeAt (key : Nat) (v : List Byte) (p : Nat) :
    (s.setDom key v).activeAt p = s.activeAt p := rfl
@[simp] theorem State.setDom_udpFailAt (key : Nat) (v : List Byte) (p : Nat) :
    (s.setDom key v).udpFailAt p = s.udpFailAt p := rfl
@[simp] theorem State.setDom_udpLockAt (key : Nat) (v : List Byte) (p : Nat) :
    (s.setDom key v).udpLockAt p = s.udpLockAt p := rfl
@[simp] theorem State.setDom_droppedAt (key : Nat) (v : List Byte) (p : Nat) :
    (s.setDom key v).droppedAt p = s.droppedAt p := rfl
@[simp] theorem State.setDom_dropTimeAt (key : Nat) (v : List Byte) (p : Nat) :
    (s.setDom key v).dropTimeAt p = s.dropTimeAt p := rfl
@[simp] theorem State.setDom_rtpAt (key : Nat) (v : List Byte) (p : Nat) :
    (s.setDom key v).rtpAt p = s.rtpAt p := rfl
@[simp] theorem State.setDom_imageCrcAt (key : Nat) (v : List Byte) (p : Nat) :
    (s.setDom key v).imageCrcAt p = s.imageCrcAt p := rfl
@[simp] theorem State.setDom_ptlCounterAt (key : Nat) (v : List Byte) (p : Nat) :
    (s.setDom key v).ptlCounterAt p = s.ptlCounterAt p := rfl
@[simp] theorem State.setDom_authFailAt (key : Nat) (v : List Byte) (p : Nat) :
    (s.setDom key v).authFailAt p = s.authFailAt p := rfl
@[simp] theorem State.setDom_scanAt (key : Nat) (v : List Byte) (p : Nat) :
    (s.setDom key v).scanAt p = s.scanAt p := rfl
@[simp] theorem State.setDom_stageAt (key : Nat) (v : List Byte) (p : Nat) :
    (s.setDom key v).stageAt p = s.stageAt p := rfl
@[simp] theorem State.setDom_liningAt (key : Nat) (v : List Byte) (p : Nat) :
    (s.setDom key v).liningAt p = s.liningAt p := rfl
@[simp] theorem State.setDom_routeAt (key : Nat) (v : List Byte) (p : Nat) :
    (s.setDom key v).routeAt p = s.routeAt p := rfl
@[simp] theorem State.setDom_bankAt (key : Nat) (v : List Byte) (p : Nat) :
    (s.setDom key v).bankAt p = s.bankAt p := rfl
@[simp] theorem State.setDom_lutAt (key : Nat) (v : List Byte) (p : Nat) :
    (s.setDom key v).lutAt p = s.lutAt p := rfl
@[simp] theorem State.setDom_lut3dAt (key : Nat) (v : List Byte) (p : Nat) :
    (s.setDom key v).lut3dAt p = s.lut3dAt p := rfl
@[simp] theorem State.setDom_imageDescAt (key : Nat) (v : List Byte) (p : Nat) :
    (s.setDom key v).imageDescAt p = s.imageDescAt p := rfl
@[simp] theorem State.setDom_imageDataAt (key : Nat) (v : List Byte) (p : Nat) :
    (s.setDom key v).imageDataAt p = s.imageDataAt p := rfl
@[simp] theorem State.setDom_tileEntryAt (key : Nat) (v : List Byte) (p : Nat) :
    (s.setDom key v).tileEntryAt p = s.tileEntryAt p := rfl
@[simp] theorem State.setDom_tileShadowAt (key : Nat) (v : List Byte) (p : Nat) :
    (s.setDom key v).tileShadowAt p = s.tileShadowAt p := rfl
@[simp] theorem State.setDom_calibAt (key : Nat) (v : List Byte) (p : Nat) :
    (s.setDom key v).calibAt p = s.calibAt p := rfl
@[simp] theorem State.setDom_calibShadowAt (key : Nat) (v : List Byte) (p : Nat) :
    (s.setDom key v).calibShadowAt p = s.calibShadowAt p := rfl
@[simp] theorem State.setDom_channelEntryAt (key : Nat) (v : List Byte) (p : Nat) :
    (s.setDom key v).channelEntryAt p = s.channelEntryAt p := rfl
@[simp] theorem State.setDom_streamEntryAt (key : Nat) (v : List Byte) (p : Nat) :
    (s.setDom key v).streamEntryAt p = s.streamEntryAt p := rfl

/-! ### wrDom -/

@[simp] theorem State.wrDom_now (e : EntryDef) (v : List Byte) (n k : Nat) :
    (s.wrDom e v n k).now = s.now := rfl
@[simp] theorem State.wrDom_timebase (e : EntryDef) (v : List Byte) (n k : Nat) :
    (s.wrDom e v n k).timebase = s.timebase := rfl
@[simp] theorem State.wrDom_dcoRest (e : EntryDef) (v : List Byte) (n k : Nat) :
    (s.wrDom e v n k).dcoRest = s.dcoRest := rfl
@[simp] theorem State.wrDom_pending (e : EntryDef) (v : List Byte) (n k : Nat) :
    (s.wrDom e v n k).pending = s.pending := rfl
@[simp] theorem State.wrDom_wire (e : EntryDef) (v : List Byte) (n k : Nat) :
    (s.wrDom e v n k).wire = s.wire := rfl
@[simp] theorem State.wrDom_actor (e : EntryDef) (v : List Byte) (n k : Nat) :
    (s.wrDom e v n k).actor = s.actor := rfl
@[simp] theorem State.wrDom_tap (e : EntryDef) (v : List Byte) (n k : Nat) :
    (s.wrDom e v n k).tap = s.tap := rfl
@[simp] theorem State.wrDom_regs (e : EntryDef) (v : List Byte) (n k : Nat) :
    (s.wrDom e v n k).regs = s.regs := rfl
@[simp] theorem State.wrDom_shadow (e : EntryDef) (v : List Byte) (n k : Nat) :
    (s.wrDom e v n k).shadow = s.shadow := rfl
@[simp] theorem State.wrDom_shadowDoms (e : EntryDef) (v : List Byte) (n k : Nat) :
    (s.wrDom e v n k).shadowDoms = s.shadowDoms := rfl
@[simp] theorem State.wrDom_minSeverityDefault (e : EntryDef) (v : List Byte) (n k : Nat) :
    (s.wrDom e v n k).minSeverityDefault = s.minSeverityDefault := rfl
@[simp] theorem State.wrDom_sess (e : EntryDef) (v : List Byte) (n k : Nat) :
    (s.wrDom e v n k).sess = s.sess := rfl
@[simp] theorem State.wrDom_ev (e : EntryDef) (v : List Byte) (n k : Nat) :
    (s.wrDom e v n k).ev = s.ev := rfl
@[simp] theorem State.wrDom_spi (e : EntryDef) (v : List Byte) (n k : Nat) :
    (s.wrDom e v n k).spi = s.spi := rfl
@[simp] theorem State.wrDom_mailbox (e : EntryDef) (v : List Byte) (n k : Nat) :
    (s.wrDom e v n k).mailbox = s.mailbox := rfl
@[simp] theorem State.wrDom_can (e : EntryDef) (v : List Byte) (n k : Nat) :
    (s.wrDom e v n k).can = s.can := rfl
@[simp] theorem State.wrDom_tagRejectAt (e : EntryDef) (v : List Byte) (n k : Nat) :
    (s.wrDom e v n k).tagRejectAt = s.tagRejectAt := rfl
@[simp] theorem State.wrDom_udpFailures (e : EntryDef) (v : List Byte) (n k : Nat) :
    (s.wrDom e v n k).udpFailures = s.udpFailures := rfl
@[simp] theorem State.wrDom_udpLocked (e : EntryDef) (v : List Byte) (n k : Nat) :
    (s.wrDom e v n k).udpLocked = s.udpLocked := rfl
@[simp] theorem State.wrDom_draws (e : EntryDef) (v : List Byte) (n k : Nat) :
    (s.wrDom e v n k).draws = s.draws := rfl
@[simp] theorem State.wrDom_staging (e : EntryDef) (v : List Byte) (n k : Nat) :
    (s.wrDom e v n k).staging = s.staging := rfl
@[simp] theorem State.wrDom_stagingSess (e : EntryDef) (v : List Byte) (n k : Nat) :
    (s.wrDom e v n k).stagingSess = s.stagingSess := rfl
@[simp] theorem State.wrDom_copy0 (e : EntryDef) (v : List Byte) (n k : Nat) :
    (s.wrDom e v n k).copy0 = s.copy0 := rfl
@[simp] theorem State.wrDom_copy1 (e : EntryDef) (v : List Byte) (n k : Nat) :
    (s.wrDom e v n k).copy1 = s.copy1 := rfl
@[simp] theorem State.wrDom_mgmtWait (e : EntryDef) (v : List Byte) (n k : Nat) :
    (s.wrDom e v n k).mgmtWait = s.mgmtWait := rfl
@[simp] theorem State.wrDom_gov (e : EntryDef) (v : List Byte) (n k : Nat) :
    (s.wrDom e v n k).gov = s.gov := rfl
@[simp] theorem State.wrDom_engines (e : EntryDef) (v : List Byte) (n k : Nat) :
    (s.wrDom e v n k).engines = s.engines := rfl
@[simp] theorem State.wrDom_strips (e : EntryDef) (v : List Byte) (n k : Nat) :
    (s.wrDom e v n k).strips = s.strips := rfl
@[simp] theorem State.wrDom_inputs (e : EntryDef) (v : List Byte) (n k : Nat) :
    (s.wrDom e v n k).inputs = s.inputs := rfl
@[simp] theorem State.wrDom_hosts (e : EntryDef) (v : List Byte) (n k : Nat) :
    (s.wrDom e v n k).hosts = s.hosts := rfl
@[simp] theorem State.wrDom_players (e : EntryDef) (v : List Byte) (n k : Nat) :
    (s.wrDom e v n k).players = s.players := rfl
@[simp] theorem State.wrDom_layers (e : EntryDef) (v : List Byte) (n k : Nat) :
    (s.wrDom e v n k).layers = s.layers := rfl
@[simp] theorem State.wrDom_canvases (e : EntryDef) (v : List Byte) (n k : Nat) :
    (s.wrDom e v n k).canvases = s.canvases := rfl
@[simp] theorem State.wrDom_heads (e : EntryDef) (v : List Byte) (n k : Nat) :
    (s.wrDom e v n k).heads = s.heads := rfl
@[simp] theorem State.wrDom_validating (e : EntryDef) (v : List Byte) (n k : Nat) :
    (s.wrDom e v n k).validating = s.validating := rfl
@[simp] theorem State.wrDom_pendingCommits (e : EntryDef) (v : List Byte) (n k : Nat) :
    (s.wrDom e v n k).pendingCommits = s.pendingCommits := rfl
@[simp] theorem State.wrDom_deferredWrites (e : EntryDef) (v : List Byte) (n k : Nat) :
    (s.wrDom e v n k).deferredWrites = s.deferredWrites := rfl
@[simp] theorem State.wrDom_ulanes (e : EntryDef) (v : List Byte) (n k : Nat) :
    (s.wrDom e v n k).ulanes = s.ulanes := rfl
@[simp] theorem State.wrDom_dlanes (e : EntryDef) (v : List Byte) (n k : Nat) :
    (s.wrDom e v n k).dlanes = s.dlanes := rfl
@[simp] theorem State.wrDom_groups (e : EntryDef) (v : List Byte) (n k : Nat) :
    (s.wrDom e v n k).groups = s.groups := rfl
@[simp] theorem State.wrDom_fecTimes (e : EntryDef) (v : List Byte) (n k : Nat) :
    (s.wrDom e v n k).fecTimes = s.fecTimes := rfl
@[simp] theorem State.wrDom_routes (e : EntryDef) (v : List Byte) (n k : Nat) :
    (s.wrDom e v n k).routes = s.routes := rfl
@[simp] theorem State.wrDom_activeEntry (e : EntryDef) (v : List Byte) (n k : Nat) :
    (s.wrDom e v n k).activeEntry = s.activeEntry := rfl
@[simp] theorem State.wrDom_flows (e : EntryDef) (v : List Byte) (n k : Nat) :
    (s.wrDom e v n k).flows = s.flows := rfl
@[simp] theorem State.wrDom_switches (e : EntryDef) (v : List Byte) (n k : Nat) :
    (s.wrDom e v n k).switches = s.switches := rfl
@[simp] theorem State.wrDom_switchedAt (e : EntryDef) (v : List Byte) (n k : Nat) :
    (s.wrDom e v n k).switchedAt = s.switchedAt := rfl
@[simp] theorem State.wrDom_dropCount (e : EntryDef) (v : List Byte) (n k : Nat) :
    (s.wrDom e v n k).dropCount = s.dropCount := rfl
@[simp] theorem State.wrDom_dropAt (e : EntryDef) (v : List Byte) (n k : Nat) :
    (s.wrDom e v n k).dropAt = s.dropAt := rfl
@[simp] theorem State.wrDom_rtpSeq (e : EntryDef) (v : List Byte) (n k : Nat) :
    (s.wrDom e v n k).rtpSeq = s.rtpSeq := rfl
@[simp] theorem State.wrDom_banks (e : EntryDef) (v : List Byte) (n k : Nat) :
    (s.wrDom e v n k).banks = s.banks := rfl
@[simp] theorem State.wrDom_luts (e : EntryDef) (v : List Byte) (n k : Nat) :
    (s.wrDom e v n k).luts = s.luts := rfl
@[simp] theorem State.wrDom_luts3d (e : EntryDef) (v : List Byte) (n k : Nat) :
    (s.wrDom e v n k).luts3d = s.luts3d := rfl
@[simp] theorem State.wrDom_imageDesc (e : EntryDef) (v : List Byte) (n k : Nat) :
    (s.wrDom e v n k).imageDesc = s.imageDesc := rfl
@[simp] theorem State.wrDom_imageData (e : EntryDef) (v : List Byte) (n k : Nat) :
    (s.wrDom e v n k).imageData = s.imageData := rfl
@[simp] theorem State.wrDom_imageCrc (e : EntryDef) (v : List Byte) (n k : Nat) :
    (s.wrDom e v n k).imageCrc = s.imageCrc := rfl
@[simp] theorem State.wrDom_imageBad (e : EntryDef) (v : List Byte) (n k : Nat) :
    (s.wrDom e v n k).imageBad = s.imageBad := rfl
@[simp] theorem State.wrDom_tileMap (e : EntryDef) (v : List Byte) (n k : Nat) :
    (s.wrDom e v n k).tileMap = s.tileMap := rfl
@[simp] theorem State.wrDom_tileShadow (e : EntryDef) (v : List Byte) (n k : Nat) :
    (s.wrDom e v n k).tileShadow = s.tileShadow := rfl
@[simp] theorem State.wrDom_calib (e : EntryDef) (v : List Byte) (n k : Nat) :
    (s.wrDom e v n k).calib = s.calib := rfl
@[simp] theorem State.wrDom_calibShadow (e : EntryDef) (v : List Byte) (n k : Nat) :
    (s.wrDom e v n k).calibShadow = s.calibShadow := rfl
@[simp] theorem State.wrDom_tiles (e : EntryDef) (v : List Byte) (n k : Nat) :
    (s.wrDom e v n k).tiles = s.tiles := rfl
@[simp] theorem State.wrDom_ptl (e : EntryDef) (v : List Byte) (n k : Nat) :
    (s.wrDom e v n k).ptl = s.ptl := rfl
@[simp] theorem State.wrDom_ptlCounters (e : EntryDef) (v : List Byte) (n k : Nat) :
    (s.wrDom e v n k).ptlCounters = s.ptlCounters := rfl
@[simp] theorem State.wrDom_authFailTimes (e : EntryDef) (v : List Byte) (n k : Nat) :
    (s.wrDom e v n k).authFailTimes = s.authFailTimes := rfl
@[simp] theorem State.wrDom_hentis (e : EntryDef) (v : List Byte) (n k : Nat) :
    (s.wrDom e v n k).hentis = s.hentis := rfl
@[simp] theorem State.wrDom_refs (e : EntryDef) (v : List Byte) (n k : Nat) :
    (s.wrDom e v n k).refs = s.refs := rfl
@[simp] theorem State.wrDom_ftgs (e : EntryDef) (v : List Byte) (n k : Nat) :
    (s.wrDom e v n k).ftgs = s.ftgs := rfl
@[simp] theorem State.wrDom_audio (e : EntryDef) (v : List Byte) (n k : Nat) :
    (s.wrDom e v n k).audio = s.audio := rfl
@[simp] theorem State.wrDom_channelTable (e : EntryDef) (v : List Byte) (n k : Nat) :
    (s.wrDom e v n k).channelTable = s.channelTable := rfl
@[simp] theorem State.wrDom_streamTable (e : EntryDef) (v : List Byte) (n k : Nat) :
    (s.wrDom e v n k).streamTable = s.streamTable := rfl
@[simp] theorem State.wrDom_channels (e : EntryDef) (v : List Byte) (n k : Nat) :
    (s.wrDom e v n k).channels = s.channels := rfl
@[simp] theorem State.wrDom_endpoints (e : EntryDef) (v : List Byte) (n k : Nat) :
    (s.wrDom e v n k).endpoints = s.endpoints := rfl
@[simp] theorem State.wrDom_dram (e : EntryDef) (v : List Byte) (n k : Nat) :
    (s.wrDom e v n k).dram = s.dram := rfl
@[simp] theorem State.wrDom_scanAlloc (e : EntryDef) (v : List Byte) (n k : Nat) :
    (s.wrDom e v n k).scanAlloc = s.scanAlloc := rfl
@[simp] theorem State.wrDom_stageAlloc (e : EntryDef) (v : List Byte) (n k : Nat) :
    (s.wrDom e v n k).stageAlloc = s.stageAlloc := rfl
@[simp] theorem State.wrDom_liningAlloc (e : EntryDef) (v : List Byte) (n k : Nat) :
    (s.wrDom e v n k).liningAlloc = s.liningAlloc := rfl
@[simp] theorem State.wrDom_liningLostKib (e : EntryDef) (v : List Byte) (n k : Nat) :
    (s.wrDom e v n k).liningLostKib = s.liningLostKib := rfl
@[simp] theorem State.wrDom_pocket (e : EntryDef) (v : List Byte) (n k : Nat) :
    (s.wrDom e v n k).pocket = s.pocket := rfl
@[simp] theorem State.wrDom_resil (e : EntryDef) (v : List Byte) (n k : Nat) :
    (s.wrDom e v n k).resil = s.resil := rfl
@[simp] theorem State.wrDom_keys (e : EntryDef) (v : List Byte) (n k : Nat) :
    (s.wrDom e v n k).keys = s.keys := rfl
@[simp] theorem State.wrDom_life (e : EntryDef) (v : List Byte) (n k : Nat) :
    (s.wrDom e v n k).life = s.life := rfl
@[simp] theorem State.wrDom_supply (e : EntryDef) (v : List Byte) (n k : Nat) :
    (s.wrDom e v n k).supply = s.supply := rfl
@[simp] theorem State.wrDom_dev (e : EntryDef) (v : List Byte) (n k : Nat) :
    (s.wrDom e v n k).dev = s.dev := rfl
@[simp] theorem State.wrDom_rd (e : EntryDef) (v : List Byte) (n k : Nat) (i : EntryDef) (p q : Nat) :
    (s.wrDom e v n k).rd i p q = s.rd i p q := rfl
@[simp] theorem State.wrDom_flag (e : EntryDef) (v : List Byte) (n k : Nat) (i : EntryDef) (p q : Nat) :
    (s.wrDom e v n k).flag i p q = s.flag i p q := rfl
@[simp] theorem State.wrDom_rdInt (e : EntryDef) (v : List Byte) (n k : Nat) (i : EntryDef) (p q : Nat) :
    (s.wrDom e v n k).rdInt i p q = s.rdInt i p q := rfl
@[simp] theorem State.wrDom_floor (e : EntryDef) (v : List Byte) (n k : Nat) :
    (s.wrDom e v n k).floor = s.floor := rfl
@[simp] theorem State.wrDom_devState (e : EntryDef) (v : List Byte) (n k : Nat) :
    (s.wrDom e v n k).devState = s.devState := rfl
@[simp] theorem State.wrDom_dictUp (e : EntryDef) (v : List Byte) (n k : Nat) :
    (s.wrDom e v n k).dictUp = s.dictUp := rfl
@[simp] theorem State.wrDom_alive (e : EntryDef) (v : List Byte) (n k : Nat) :
    (s.wrDom e v n k).alive = s.alive := rfl
@[simp] theorem State.wrDom_hostByte (e : EntryDef) (v : List Byte) (n k : Nat) (p : Nat) :
    (s.wrDom e v n k).hostByte p = s.hostByte p := rfl
@[simp] theorem State.wrDom_sessAt (e : EntryDef) (v : List Byte) (n k : Nat) (p : Nat) :
    (s.wrDom e v n k).sessAt p = s.sessAt p := rfl
@[simp] theorem State.wrDom_canAt (e : EntryDef) (v : List Byte) (n k : Nat) (p : Nat) :
    (s.wrDom e v n k).canAt p = s.canAt p := rfl
@[simp] theorem State.wrDom_engineAt (e : EntryDef) (v : List Byte) (n k : Nat) (p : Nat) :
    (s.wrDom e v n k).engineAt p = s.engineAt p := rfl
@[simp] theorem State.wrDom_inputAt (e : EntryDef) (v : List Byte) (n k : Nat) (p : Nat) :
    (s.wrDom e v n k).inputAt p = s.inputAt p := rfl
@[simp] theorem State.wrDom_hostAt (e : EntryDef) (v : List Byte) (n k : Nat) (p : Nat) :
    (s.wrDom e v n k).hostAt p = s.hostAt p := rfl
@[simp] theorem State.wrDom_playerAt (e : EntryDef) (v : List Byte) (n k : Nat) (p : Nat) :
    (s.wrDom e v n k).playerAt p = s.playerAt p := rfl
@[simp] theorem State.wrDom_layerAt (e : EntryDef) (v : List Byte) (n k : Nat) (p : Nat) :
    (s.wrDom e v n k).layerAt p = s.layerAt p := rfl
@[simp] theorem State.wrDom_canvasAt (e : EntryDef) (v : List Byte) (n k : Nat) (p : Nat) :
    (s.wrDom e v n k).canvasAt p = s.canvasAt p := rfl
@[simp] theorem State.wrDom_headAt (e : EntryDef) (v : List Byte) (n k : Nat) (p : Nat) :
    (s.wrDom e v n k).headAt p = s.headAt p := rfl
@[simp] theorem State.wrDom_ulaneAt (e : EntryDef) (v : List Byte) (n k : Nat) (p : Nat) :
    (s.wrDom e v n k).ulaneAt p = s.ulaneAt p := rfl
@[simp] theorem State.wrDom_dlaneAt (e : EntryDef) (v : List Byte) (n k : Nat) (p : Nat) :
    (s.wrDom e v n k).dlaneAt p = s.dlaneAt p := rfl
@[simp] theorem State.wrDom_groupAt (e : EntryDef) (v : List Byte) (n k : Nat) (p : Nat) :
    (s.wrDom e v n k).groupAt p = s.groupAt p := rfl
@[simp] theorem State.wrDom_flowAt (e : EntryDef) (v : List Byte) (n k : Nat) (p : Nat) :
    (s.wrDom e v n k).flowAt p = s.flowAt p := rfl
@[simp] theorem State.wrDom_tileAt (e : EntryDef) (v : List Byte) (n k : Nat) (p : Nat) :
    (s.wrDom e v n k).tileAt p = s.tileAt p := rfl
@[simp] theorem State.wrDom_refAt (e : EntryDef) (v : List Byte) (n k : Nat) (p : Nat) :
    (s.wrDom e v n k).refAt p = s.refAt p := rfl
@[simp] theorem State.wrDom_ftgAt (e : EntryDef) (v : List Byte) (n k : Nat) (p : Nat) :
    (s.wrDom e v n k).ftgAt p = s.ftgAt p := rfl
@[simp] theorem State.wrDom_channelAt (e : EntryDef) (v : List Byte) (n k : Nat) (p : Nat) :
    (s.wrDom e v n k).channelAt p = s.channelAt p := rfl
@[simp] theorem State.wrDom_endpointAt (e : EntryDef) (v : List Byte) (n k : Nat) (p : Nat) :
    (s.wrDom e v n k).endpointAt p = s.endpointAt p := rfl
@[simp] theorem State.wrDom_imageBadAt (e : EntryDef) (v : List Byte) (n k : Nat) (p : Nat) :
    (s.wrDom e v n k).imageBadAt p = s.imageBadAt p := rfl
@[simp] theorem State.wrDom_activeAt (e : EntryDef) (v : List Byte) (n k : Nat) (p : Nat) :
    (s.wrDom e v n k).activeAt p = s.activeAt p := rfl
@[simp] theorem State.wrDom_udpFailAt (e : EntryDef) (v : List Byte) (n k : Nat) (p : Nat) :
    (s.wrDom e v n k).udpFailAt p = s.udpFailAt p := rfl
@[simp] theorem State.wrDom_udpLockAt (e : EntryDef) (v : List Byte) (n k : Nat) (p : Nat) :
    (s.wrDom e v n k).udpLockAt p = s.udpLockAt p := rfl
@[simp] theorem State.wrDom_droppedAt (e : EntryDef) (v : List Byte) (n k : Nat) (p : Nat) :
    (s.wrDom e v n k).droppedAt p = s.droppedAt p := rfl
@[simp] theorem State.wrDom_dropTimeAt (e : EntryDef) (v : List Byte) (n k : Nat) (p : Nat) :
    (s.wrDom e v n k).dropTimeAt p = s.dropTimeAt p := rfl
@[simp] theorem State.wrDom_rtpAt (e : EntryDef) (v : List Byte) (n k : Nat) (p : Nat) :
    (s.wrDom e v n k).rtpAt p = s.rtpAt p := rfl
@[simp] theorem State.wrDom_imageCrcAt (e : EntryDef) (v : List Byte) (n k : Nat) (p : Nat) :
    (s.wrDom e v n k).imageCrcAt p = s.imageCrcAt p := rfl
@[simp] theorem State.wrDom_ptlCounterAt (e : EntryDef) (v : List Byte) (n k : Nat) (p : Nat) :
    (s.wrDom e v n k).ptlCounterAt p = s.ptlCounterAt p := rfl
@[simp] theorem State.wrDom_authFailAt (e : EntryDef) (v : List Byte) (n k : Nat) (p : Nat) :
    (s.wrDom e v n k).authFailAt p = s.authFailAt p := rfl
@[simp] theorem State.wrDom_scanAt (e : EntryDef) (v : List Byte) (n k : Nat) (p : Nat) :
    (s.wrDom e v n k).scanAt p = s.scanAt p := rfl
@[simp] theorem State.wrDom_stageAt (e : EntryDef) (v : List Byte) (n k : Nat) (p : Nat) :
    (s.wrDom e v n k).stageAt p = s.stageAt p := rfl
@[simp] theorem State.wrDom_liningAt (e : EntryDef) (v : List Byte) (n k : Nat) (p : Nat) :
    (s.wrDom e v n k).liningAt p = s.liningAt p := rfl
@[simp] theorem State.wrDom_routeAt (e : EntryDef) (v : List Byte) (n k : Nat) (p : Nat) :
    (s.wrDom e v n k).routeAt p = s.routeAt p := rfl
@[simp] theorem State.wrDom_bankAt (e : EntryDef) (v : List Byte) (n k : Nat) (p : Nat) :
    (s.wrDom e v n k).bankAt p = s.bankAt p := rfl
@[simp] theorem State.wrDom_lutAt (e : EntryDef) (v : List Byte) (n k : Nat) (p : Nat) :
    (s.wrDom e v n k).lutAt p = s.lutAt p := rfl
@[simp] theorem State.wrDom_lut3dAt (e : EntryDef) (v : List Byte) (n k : Nat) (p : Nat) :
    (s.wrDom e v n k).lut3dAt p = s.lut3dAt p := rfl
@[simp] theorem State.wrDom_imageDescAt (e : EntryDef) (v : List Byte) (n k : Nat) (p : Nat) :
    (s.wrDom e v n k).imageDescAt p = s.imageDescAt p := rfl
@[simp] theorem State.wrDom_imageDataAt (e : EntryDef) (v : List Byte) (n k : Nat) (p : Nat) :
    (s.wrDom e v n k).imageDataAt p = s.imageDataAt p := rfl
@[simp] theorem State.wrDom_tileEntryAt (e : EntryDef) (v : List Byte) (n k : Nat) (p : Nat) :
    (s.wrDom e v n k).tileEntryAt p = s.tileEntryAt p := rfl
@[simp] theorem State.wrDom_tileShadowAt (e : EntryDef) (v : List Byte) (n k : Nat) (p : Nat) :
    (s.wrDom e v n k).tileShadowAt p = s.tileShadowAt p := rfl
@[simp] theorem State.wrDom_calibAt (e : EntryDef) (v : List Byte) (n k : Nat) (p : Nat) :
    (s.wrDom e v n k).calibAt p = s.calibAt p := rfl
@[simp] theorem State.wrDom_calibShadowAt (e : EntryDef) (v : List Byte) (n k : Nat) (p : Nat) :
    (s.wrDom e v n k).calibShadowAt p = s.calibShadowAt p := rfl
@[simp] theorem State.wrDom_channelEntryAt (e : EntryDef) (v : List Byte) (n k : Nat) (p : Nat) :
    (s.wrDom e v n k).channelEntryAt p = s.channelEntryAt p := rfl
@[simp] theorem State.wrDom_streamEntryAt (e : EntryDef) (v : List Byte) (n k : Nat) (p : Nat) :
    (s.wrDom e v n k).streamEntryAt p = s.streamEntryAt p := rfl

/-! ### setDomShadow -/

@[simp] theorem State.setDomShadow_now (key : Nat) (v : List Byte) :
    (s.setDomShadow key v).now = s.now := rfl
@[simp] theorem State.setDomShadow_timebase (key : Nat) (v : List Byte) :
    (s.setDomShadow key v).timebase = s.timebase := rfl
@[simp] theorem State.setDomShadow_dcoRest (key : Nat) (v : List Byte) :
    (s.setDomShadow key v).dcoRest = s.dcoRest := rfl
@[simp] theorem State.setDomShadow_pending (key : Nat) (v : List Byte) :
    (s.setDomShadow key v).pending = s.pending := rfl
@[simp] theorem State.setDomShadow_wire (key : Nat) (v : List Byte) :
    (s.setDomShadow key v).wire = s.wire := rfl
@[simp] theorem State.setDomShadow_actor (key : Nat) (v : List Byte) :
    (s.setDomShadow key v).actor = s.actor := rfl
@[simp] theorem State.setDomShadow_tap (key : Nat) (v : List Byte) :
    (s.setDomShadow key v).tap = s.tap := rfl
@[simp] theorem State.setDomShadow_regs (key : Nat) (v : List Byte) :
    (s.setDomShadow key v).regs = s.regs := rfl
@[simp] theorem State.setDomShadow_shadow (key : Nat) (v : List Byte) :
    (s.setDomShadow key v).shadow = s.shadow := rfl
@[simp] theorem State.setDomShadow_doms (key : Nat) (v : List Byte) :
    (s.setDomShadow key v).doms = s.doms := rfl
@[simp] theorem State.setDomShadow_minSeverityDefault (key : Nat) (v : List Byte) :
    (s.setDomShadow key v).minSeverityDefault = s.minSeverityDefault := rfl
@[simp] theorem State.setDomShadow_sess (key : Nat) (v : List Byte) :
    (s.setDomShadow key v).sess = s.sess := rfl
@[simp] theorem State.setDomShadow_ev (key : Nat) (v : List Byte) :
    (s.setDomShadow key v).ev = s.ev := rfl
@[simp] theorem State.setDomShadow_spi (key : Nat) (v : List Byte) :
    (s.setDomShadow key v).spi = s.spi := rfl
@[simp] theorem State.setDomShadow_mailbox (key : Nat) (v : List Byte) :
    (s.setDomShadow key v).mailbox = s.mailbox := rfl
@[simp] theorem State.setDomShadow_can (key : Nat) (v : List Byte) :
    (s.setDomShadow key v).can = s.can := rfl
@[simp] theorem State.setDomShadow_tagRejectAt (key : Nat) (v : List Byte) :
    (s.setDomShadow key v).tagRejectAt = s.tagRejectAt := rfl
@[simp] theorem State.setDomShadow_udpFailures (key : Nat) (v : List Byte) :
    (s.setDomShadow key v).udpFailures = s.udpFailures := rfl
@[simp] theorem State.setDomShadow_udpLocked (key : Nat) (v : List Byte) :
    (s.setDomShadow key v).udpLocked = s.udpLocked := rfl
@[simp] theorem State.setDomShadow_draws (key : Nat) (v : List Byte) :
    (s.setDomShadow key v).draws = s.draws := rfl
@[simp] theorem State.setDomShadow_staging (key : Nat) (v : List Byte) :
    (s.setDomShadow key v).staging = s.staging := rfl
@[simp] theorem State.setDomShadow_stagingSess (key : Nat) (v : List Byte) :
    (s.setDomShadow key v).stagingSess = s.stagingSess := rfl
@[simp] theorem State.setDomShadow_copy0 (key : Nat) (v : List Byte) :
    (s.setDomShadow key v).copy0 = s.copy0 := rfl
@[simp] theorem State.setDomShadow_copy1 (key : Nat) (v : List Byte) :
    (s.setDomShadow key v).copy1 = s.copy1 := rfl
@[simp] theorem State.setDomShadow_mgmtWait (key : Nat) (v : List Byte) :
    (s.setDomShadow key v).mgmtWait = s.mgmtWait := rfl
@[simp] theorem State.setDomShadow_gov (key : Nat) (v : List Byte) :
    (s.setDomShadow key v).gov = s.gov := rfl
@[simp] theorem State.setDomShadow_engines (key : Nat) (v : List Byte) :
    (s.setDomShadow key v).engines = s.engines := rfl
@[simp] theorem State.setDomShadow_strips (key : Nat) (v : List Byte) :
    (s.setDomShadow key v).strips = s.strips := rfl
@[simp] theorem State.setDomShadow_inputs (key : Nat) (v : List Byte) :
    (s.setDomShadow key v).inputs = s.inputs := rfl
@[simp] theorem State.setDomShadow_hosts (key : Nat) (v : List Byte) :
    (s.setDomShadow key v).hosts = s.hosts := rfl
@[simp] theorem State.setDomShadow_players (key : Nat) (v : List Byte) :
    (s.setDomShadow key v).players = s.players := rfl
@[simp] theorem State.setDomShadow_layers (key : Nat) (v : List Byte) :
    (s.setDomShadow key v).layers = s.layers := rfl
@[simp] theorem State.setDomShadow_canvases (key : Nat) (v : List Byte) :
    (s.setDomShadow key v).canvases = s.canvases := rfl
@[simp] theorem State.setDomShadow_heads (key : Nat) (v : List Byte) :
    (s.setDomShadow key v).heads = s.heads := rfl
@[simp] theorem State.setDomShadow_validating (key : Nat) (v : List Byte) :
    (s.setDomShadow key v).validating = s.validating := rfl
@[simp] theorem State.setDomShadow_pendingCommits (key : Nat) (v : List Byte) :
    (s.setDomShadow key v).pendingCommits = s.pendingCommits := rfl
@[simp] theorem State.setDomShadow_deferredWrites (key : Nat) (v : List Byte) :
    (s.setDomShadow key v).deferredWrites = s.deferredWrites := rfl
@[simp] theorem State.setDomShadow_ulanes (key : Nat) (v : List Byte) :
    (s.setDomShadow key v).ulanes = s.ulanes := rfl
@[simp] theorem State.setDomShadow_dlanes (key : Nat) (v : List Byte) :
    (s.setDomShadow key v).dlanes = s.dlanes := rfl
@[simp] theorem State.setDomShadow_groups (key : Nat) (v : List Byte) :
    (s.setDomShadow key v).groups = s.groups := rfl
@[simp] theorem State.setDomShadow_fecTimes (key : Nat) (v : List Byte) :
    (s.setDomShadow key v).fecTimes = s.fecTimes := rfl
@[simp] theorem State.setDomShadow_routes (key : Nat) (v : List Byte) :
    (s.setDomShadow key v).routes = s.routes := rfl
@[simp] theorem State.setDomShadow_activeEntry (key : Nat) (v : List Byte) :
    (s.setDomShadow key v).activeEntry = s.activeEntry := rfl
@[simp] theorem State.setDomShadow_flows (key : Nat) (v : List Byte) :
    (s.setDomShadow key v).flows = s.flows := rfl
@[simp] theorem State.setDomShadow_switches (key : Nat) (v : List Byte) :
    (s.setDomShadow key v).switches = s.switches := rfl
@[simp] theorem State.setDomShadow_switchedAt (key : Nat) (v : List Byte) :
    (s.setDomShadow key v).switchedAt = s.switchedAt := rfl
@[simp] theorem State.setDomShadow_dropCount (key : Nat) (v : List Byte) :
    (s.setDomShadow key v).dropCount = s.dropCount := rfl
@[simp] theorem State.setDomShadow_dropAt (key : Nat) (v : List Byte) :
    (s.setDomShadow key v).dropAt = s.dropAt := rfl
@[simp] theorem State.setDomShadow_rtpSeq (key : Nat) (v : List Byte) :
    (s.setDomShadow key v).rtpSeq = s.rtpSeq := rfl
@[simp] theorem State.setDomShadow_banks (key : Nat) (v : List Byte) :
    (s.setDomShadow key v).banks = s.banks := rfl
@[simp] theorem State.setDomShadow_luts (key : Nat) (v : List Byte) :
    (s.setDomShadow key v).luts = s.luts := rfl
@[simp] theorem State.setDomShadow_luts3d (key : Nat) (v : List Byte) :
    (s.setDomShadow key v).luts3d = s.luts3d := rfl
@[simp] theorem State.setDomShadow_imageDesc (key : Nat) (v : List Byte) :
    (s.setDomShadow key v).imageDesc = s.imageDesc := rfl
@[simp] theorem State.setDomShadow_imageData (key : Nat) (v : List Byte) :
    (s.setDomShadow key v).imageData = s.imageData := rfl
@[simp] theorem State.setDomShadow_imageCrc (key : Nat) (v : List Byte) :
    (s.setDomShadow key v).imageCrc = s.imageCrc := rfl
@[simp] theorem State.setDomShadow_imageBad (key : Nat) (v : List Byte) :
    (s.setDomShadow key v).imageBad = s.imageBad := rfl
@[simp] theorem State.setDomShadow_tileMap (key : Nat) (v : List Byte) :
    (s.setDomShadow key v).tileMap = s.tileMap := rfl
@[simp] theorem State.setDomShadow_tileShadow (key : Nat) (v : List Byte) :
    (s.setDomShadow key v).tileShadow = s.tileShadow := rfl
@[simp] theorem State.setDomShadow_calib (key : Nat) (v : List Byte) :
    (s.setDomShadow key v).calib = s.calib := rfl
@[simp] theorem State.setDomShadow_calibShadow (key : Nat) (v : List Byte) :
    (s.setDomShadow key v).calibShadow = s.calibShadow := rfl
@[simp] theorem State.setDomShadow_tiles (key : Nat) (v : List Byte) :
    (s.setDomShadow key v).tiles = s.tiles := rfl
@[simp] theorem State.setDomShadow_ptl (key : Nat) (v : List Byte) :
    (s.setDomShadow key v).ptl = s.ptl := rfl
@[simp] theorem State.setDomShadow_ptlCounters (key : Nat) (v : List Byte) :
    (s.setDomShadow key v).ptlCounters = s.ptlCounters := rfl
@[simp] theorem State.setDomShadow_authFailTimes (key : Nat) (v : List Byte) :
    (s.setDomShadow key v).authFailTimes = s.authFailTimes := rfl
@[simp] theorem State.setDomShadow_hentis (key : Nat) (v : List Byte) :
    (s.setDomShadow key v).hentis = s.hentis := rfl
@[simp] theorem State.setDomShadow_refs (key : Nat) (v : List Byte) :
    (s.setDomShadow key v).refs = s.refs := rfl
@[simp] theorem State.setDomShadow_ftgs (key : Nat) (v : List Byte) :
    (s.setDomShadow key v).ftgs = s.ftgs := rfl
@[simp] theorem State.setDomShadow_audio (key : Nat) (v : List Byte) :
    (s.setDomShadow key v).audio = s.audio := rfl
@[simp] theorem State.setDomShadow_channelTable (key : Nat) (v : List Byte) :
    (s.setDomShadow key v).channelTable = s.channelTable := rfl
@[simp] theorem State.setDomShadow_streamTable (key : Nat) (v : List Byte) :
    (s.setDomShadow key v).streamTable = s.streamTable := rfl
@[simp] theorem State.setDomShadow_channels (key : Nat) (v : List Byte) :
    (s.setDomShadow key v).channels = s.channels := rfl
@[simp] theorem State.setDomShadow_endpoints (key : Nat) (v : List Byte) :
    (s.setDomShadow key v).endpoints = s.endpoints := rfl
@[simp] theorem State.setDomShadow_dram (key : Nat) (v : List Byte) :
    (s.setDomShadow key v).dram = s.dram := rfl
@[simp] theorem State.setDomShadow_scanAlloc (key : Nat) (v : List Byte) :
    (s.setDomShadow key v).scanAlloc = s.scanAlloc := rfl
@[simp] theorem State.setDomShadow_stageAlloc (key : Nat) (v : List Byte) :
    (s.setDomShadow key v).stageAlloc = s.stageAlloc := rfl
@[simp] theorem State.setDomShadow_liningAlloc (key : Nat) (v : List Byte) :
    (s.setDomShadow key v).liningAlloc = s.liningAlloc := rfl
@[simp] theorem State.setDomShadow_liningLostKib (key : Nat) (v : List Byte) :
    (s.setDomShadow key v).liningLostKib = s.liningLostKib := rfl
@[simp] theorem State.setDomShadow_pocket (key : Nat) (v : List Byte) :
    (s.setDomShadow key v).pocket = s.pocket := rfl
@[simp] theorem State.setDomShadow_resil (key : Nat) (v : List Byte) :
    (s.setDomShadow key v).resil = s.resil := rfl
@[simp] theorem State.setDomShadow_keys (key : Nat) (v : List Byte) :
    (s.setDomShadow key v).keys = s.keys := rfl
@[simp] theorem State.setDomShadow_life (key : Nat) (v : List Byte) :
    (s.setDomShadow key v).life = s.life := rfl
@[simp] theorem State.setDomShadow_supply (key : Nat) (v : List Byte) :
    (s.setDomShadow key v).supply = s.supply := rfl
@[simp] theorem State.setDomShadow_dev (key : Nat) (v : List Byte) :
    (s.setDomShadow key v).dev = s.dev := rfl
@[simp] theorem State.setDomShadow_rd (key : Nat) (v : List Byte) (i : EntryDef) (p q : Nat) :
    (s.setDomShadow key v).rd i p q = s.rd i p q := rfl
@[simp] theorem State.setDomShadow_flag (key : Nat) (v : List Byte) (i : EntryDef) (p q : Nat) :
    (s.setDomShadow key v).flag i p q = s.flag i p q := rfl
@[simp] theorem State.setDomShadow_rdInt (key : Nat) (v : List Byte) (i : EntryDef) (p q : Nat) :
    (s.setDomShadow key v).rdInt i p q = s.rdInt i p q := rfl
@[simp] theorem State.setDomShadow_dom (key : Nat) (v : List Byte) (i : EntryDef) (p q : Nat) :
    (s.setDomShadow key v).dom i p q = s.dom i p q := rfl
@[simp] theorem State.setDomShadow_floor (key : Nat) (v : List Byte) :
    (s.setDomShadow key v).floor = s.floor := rfl
@[simp] theorem State.setDomShadow_devState (key : Nat) (v : List Byte) :
    (s.setDomShadow key v).devState = s.devState := rfl
@[simp] theorem State.setDomShadow_dictUp (key : Nat) (v : List Byte) :
    (s.setDomShadow key v).dictUp = s.dictUp := rfl
@[simp] theorem State.setDomShadow_alive (key : Nat) (v : List Byte) :
    (s.setDomShadow key v).alive = s.alive := rfl
@[simp] theorem State.setDomShadow_hostByte (key : Nat) (v : List Byte) (p : Nat) :
    (s.setDomShadow key v).hostByte p = s.hostByte p := rfl
@[simp] theorem State.setDomShadow_sessAt (key : Nat) (v : List Byte) (p : Nat) :
    (s.setDomShadow key v).sessAt p = s.sessAt p := rfl
@[simp] theorem State.setDomShadow_canAt (key : Nat) (v : List Byte) (p : Nat) :
    (s.setDomShadow key v).canAt p = s.canAt p := rfl
@[simp] theorem State.setDomShadow_engineAt (key : Nat) (v : List Byte) (p : Nat) :
    (s.setDomShadow key v).engineAt p = s.engineAt p := rfl
@[simp] theorem State.setDomShadow_inputAt (key : Nat) (v : List Byte) (p : Nat) :
    (s.setDomShadow key v).inputAt p = s.inputAt p := rfl
@[simp] theorem State.setDomShadow_hostAt (key : Nat) (v : List Byte) (p : Nat) :
    (s.setDomShadow key v).hostAt p = s.hostAt p := rfl
@[simp] theorem State.setDomShadow_playerAt (key : Nat) (v : List Byte) (p : Nat) :
    (s.setDomShadow key v).playerAt p = s.playerAt p := rfl
@[simp] theorem State.setDomShadow_layerAt (key : Nat) (v : List Byte) (p : Nat) :
    (s.setDomShadow key v).layerAt p = s.layerAt p := rfl
@[simp] theorem State.setDomShadow_canvasAt (key : Nat) (v : List Byte) (p : Nat) :
    (s.setDomShadow key v).canvasAt p = s.canvasAt p := rfl
@[simp] theorem State.setDomShadow_headAt (key : Nat) (v : List Byte) (p : Nat) :
    (s.setDomShadow key v).headAt p = s.headAt p := rfl
@[simp] theorem State.setDomShadow_ulaneAt (key : Nat) (v : List Byte) (p : Nat) :
    (s.setDomShadow key v).ulaneAt p = s.ulaneAt p := rfl
@[simp] theorem State.setDomShadow_dlaneAt (key : Nat) (v : List Byte) (p : Nat) :
    (s.setDomShadow key v).dlaneAt p = s.dlaneAt p := rfl
@[simp] theorem State.setDomShadow_groupAt (key : Nat) (v : List Byte) (p : Nat) :
    (s.setDomShadow key v).groupAt p = s.groupAt p := rfl
@[simp] theorem State.setDomShadow_flowAt (key : Nat) (v : List Byte) (p : Nat) :
    (s.setDomShadow key v).flowAt p = s.flowAt p := rfl
@[simp] theorem State.setDomShadow_tileAt (key : Nat) (v : List Byte) (p : Nat) :
    (s.setDomShadow key v).tileAt p = s.tileAt p := rfl
@[simp] theorem State.setDomShadow_refAt (key : Nat) (v : List Byte) (p : Nat) :
    (s.setDomShadow key v).refAt p = s.refAt p := rfl
@[simp] theorem State.setDomShadow_ftgAt (key : Nat) (v : List Byte) (p : Nat) :
    (s.setDomShadow key v).ftgAt p = s.ftgAt p := rfl
@[simp] theorem State.setDomShadow_channelAt (key : Nat) (v : List Byte) (p : Nat) :
    (s.setDomShadow key v).channelAt p = s.channelAt p := rfl
@[simp] theorem State.setDomShadow_endpointAt (key : Nat) (v : List Byte) (p : Nat) :
    (s.setDomShadow key v).endpointAt p = s.endpointAt p := rfl
@[simp] theorem State.setDomShadow_imageBadAt (key : Nat) (v : List Byte) (p : Nat) :
    (s.setDomShadow key v).imageBadAt p = s.imageBadAt p := rfl
@[simp] theorem State.setDomShadow_activeAt (key : Nat) (v : List Byte) (p : Nat) :
    (s.setDomShadow key v).activeAt p = s.activeAt p := rfl
@[simp] theorem State.setDomShadow_udpFailAt (key : Nat) (v : List Byte) (p : Nat) :
    (s.setDomShadow key v).udpFailAt p = s.udpFailAt p := rfl
@[simp] theorem State.setDomShadow_udpLockAt (key : Nat) (v : List Byte) (p : Nat) :
    (s.setDomShadow key v).udpLockAt p = s.udpLockAt p := rfl
@[simp] theorem State.setDomShadow_droppedAt (key : Nat) (v : List Byte) (p : Nat) :
    (s.setDomShadow key v).droppedAt p = s.droppedAt p := rfl
@[simp] theorem State.setDomShadow_dropTimeAt (key : Nat) (v : List Byte) (p : Nat) :
    (s.setDomShadow key v).dropTimeAt p = s.dropTimeAt p := rfl
@[simp] theorem State.setDomShadow_rtpAt (key : Nat) (v : List Byte) (p : Nat) :
    (s.setDomShadow key v).rtpAt p = s.rtpAt p := rfl
@[simp] theorem State.setDomShadow_imageCrcAt (key : Nat) (v : List Byte) (p : Nat) :
    (s.setDomShadow key v).imageCrcAt p = s.imageCrcAt p := rfl
@[simp] theorem State.setDomShadow_ptlCounterAt (key : Nat) (v : List Byte) (p : Nat) :
    (s.setDomShadow key v).ptlCounterAt p = s.ptlCounterAt p := rfl
@[simp] theorem State.setDomShadow_authFailAt (key : Nat) (v : List Byte) (p : Nat) :
    (s.setDomShadow key v).authFailAt p = s.authFailAt p := rfl
@[simp] theorem State.setDomShadow_scanAt (key : Nat) (v : List Byte) (p : Nat) :
    (s.setDomShadow key v).scanAt p = s.scanAt p := rfl
@[simp] theorem State.setDomShadow_stageAt (key : Nat) (v : List Byte) (p : Nat) :
    (s.setDomShadow key v).stageAt p = s.stageAt p := rfl
@[simp] theorem State.setDomShadow_liningAt (key : Nat) (v : List Byte) (p : Nat) :
    (s.setDomShadow key v).liningAt p = s.liningAt p := rfl
@[simp] theorem State.setDomShadow_routeAt (key : Nat) (v : List Byte) (p : Nat) :
    (s.setDomShadow key v).routeAt p = s.routeAt p := rfl
@[simp] theorem State.setDomShadow_bankAt (key : Nat) (v : List Byte) (p : Nat) :
    (s.setDomShadow key v).bankAt p = s.bankAt p := rfl
@[simp] theorem State.setDomShadow_lutAt (key : Nat) (v : List Byte) (p : Nat) :
    (s.setDomShadow key v).lutAt p = s.lutAt p := rfl
@[simp] theorem State.setDomShadow_lut3dAt (key : Nat) (v : List Byte) (p : Nat) :
    (s.setDomShadow key v).lut3dAt p = s.lut3dAt p := rfl
@[simp] theorem State.setDomShadow_imageDescAt (key : Nat) (v : List Byte) (p : Nat) :
    (s.setDomShadow key v).imageDescAt p = s.imageDescAt p := rfl
@[simp] theorem State.setDomShadow_imageDataAt (key : Nat) (v : List Byte) (p : Nat) :
    (s.setDomShadow key v).imageDataAt p = s.imageDataAt p := rfl
@[simp] theorem State.setDomShadow_tileEntryAt (key : Nat) (v : List Byte) (p : Nat) :
    (s.setDomShadow key v).tileEntryAt p = s.tileEntryAt p := rfl
@[simp] theorem State.setDomShadow_tileShadowAt (key : Nat) (v : List Byte) (p : Nat) :
    (s.setDomShadow key v).tileShadowAt p = s.tileShadowAt p := rfl
@[simp] theorem State.setDomShadow_calibAt (key : Nat) (v : List Byte) (p : Nat) :
    (s.setDomShadow key v).calibAt p = s.calibAt p := rfl
@[simp] theorem State.setDomShadow_calibShadowAt (key : Nat) (v : List Byte) (p : Nat) :
    (s.setDomShadow key v).calibShadowAt p = s.calibShadowAt p := rfl
@[simp] theorem State.setDomShadow_channelEntryAt (key : Nat) (v : List Byte) (p : Nat) :
    (s.setDomShadow key v).channelEntryAt p = s.channelEntryAt p := rfl
@[simp] theorem State.setDomShadow_streamEntryAt (key : Nat) (v : List Byte) (p : Nat) :
    (s.setDomShadow key v).streamEntryAt p = s.streamEntryAt p := rfl

/-! ### out -/

@[simp] theorem State.out_now (w : WireItem) :
    (s.out w).now = s.now := rfl
@[simp] theorem State.out_timebase (w : WireItem) :
    (s.out w).timebase = s.timebase := rfl
@[simp] theorem State.out_dcoRest (w : WireItem) :
    (s.out w).dcoRest = s.dcoRest := rfl
@[simp] theorem State.out_pending (w : WireItem) :
    (s.out w).pending = s.pending := rfl
@[simp] theorem State.out_actor (w : WireItem) :
    (s.out w).actor = s.actor := rfl
@[simp] theorem State.out_tap (w : WireItem) :
    (s.out w).tap = s.tap := rfl
@[simp] theorem State.out_regs (w : WireItem) :
    (s.out w).regs = s.regs := rfl
@[simp] theorem State.out_shadow (w : WireItem) :
    (s.out w).shadow = s.shadow := rfl
@[simp] theorem State.out_doms (w : WireItem) :
    (s.out w).doms = s.doms := rfl
@[simp] theorem State.out_shadowDoms (w : WireItem) :
    (s.out w).shadowDoms = s.shadowDoms := rfl
@[simp] theorem State.out_minSeverityDefault (w : WireItem) :
    (s.out w).minSeverityDefault = s.minSeverityDefault := rfl
@[simp] theorem State.out_sess (w : WireItem) :
    (s.out w).sess = s.sess := rfl
@[simp] theorem State.out_ev (w : WireItem) :
    (s.out w).ev = s.ev := rfl
@[simp] theorem State.out_spi (w : WireItem) :
    (s.out w).spi = s.spi := rfl
@[simp] theorem State.out_mailbox (w : WireItem) :
    (s.out w).mailbox = s.mailbox := rfl
@[simp] theorem State.out_can (w : WireItem) :
    (s.out w).can = s.can := rfl
@[simp] theorem State.out_tagRejectAt (w : WireItem) :
    (s.out w).tagRejectAt = s.tagRejectAt := rfl
@[simp] theorem State.out_udpFailures (w : WireItem) :
    (s.out w).udpFailures = s.udpFailures := rfl
@[simp] theorem State.out_udpLocked (w : WireItem) :
    (s.out w).udpLocked = s.udpLocked := rfl
@[simp] theorem State.out_draws (w : WireItem) :
    (s.out w).draws = s.draws := rfl
@[simp] theorem State.out_staging (w : WireItem) :
    (s.out w).staging = s.staging := rfl
@[simp] theorem State.out_stagingSess (w : WireItem) :
    (s.out w).stagingSess = s.stagingSess := rfl
@[simp] theorem State.out_copy0 (w : WireItem) :
    (s.out w).copy0 = s.copy0 := rfl
@[simp] theorem State.out_copy1 (w : WireItem) :
    (s.out w).copy1 = s.copy1 := rfl
@[simp] theorem State.out_mgmtWait (w : WireItem) :
    (s.out w).mgmtWait = s.mgmtWait := rfl
@[simp] theorem State.out_gov (w : WireItem) :
    (s.out w).gov = s.gov := rfl
@[simp] theorem State.out_engines (w : WireItem) :
    (s.out w).engines = s.engines := rfl
@[simp] theorem State.out_strips (w : WireItem) :
    (s.out w).strips = s.strips := rfl
@[simp] theorem State.out_inputs (w : WireItem) :
    (s.out w).inputs = s.inputs := rfl
@[simp] theorem State.out_hosts (w : WireItem) :
    (s.out w).hosts = s.hosts := rfl
@[simp] theorem State.out_players (w : WireItem) :
    (s.out w).players = s.players := rfl
@[simp] theorem State.out_layers (w : WireItem) :
    (s.out w).layers = s.layers := rfl
@[simp] theorem State.out_canvases (w : WireItem) :
    (s.out w).canvases = s.canvases := rfl
@[simp] theorem State.out_heads (w : WireItem) :
    (s.out w).heads = s.heads := rfl
@[simp] theorem State.out_validating (w : WireItem) :
    (s.out w).validating = s.validating := rfl
@[simp] theorem State.out_pendingCommits (w : WireItem) :
    (s.out w).pendingCommits = s.pendingCommits := rfl
@[simp] theorem State.out_deferredWrites (w : WireItem) :
    (s.out w).deferredWrites = s.deferredWrites := rfl
@[simp] theorem State.out_ulanes (w : WireItem) :
    (s.out w).ulanes = s.ulanes := rfl
@[simp] theorem State.out_dlanes (w : WireItem) :
    (s.out w).dlanes = s.dlanes := rfl
@[simp] theorem State.out_groups (w : WireItem) :
    (s.out w).groups = s.groups := rfl
@[simp] theorem State.out_fecTimes (w : WireItem) :
    (s.out w).fecTimes = s.fecTimes := rfl
@[simp] theorem State.out_routes (w : WireItem) :
    (s.out w).routes = s.routes := rfl
@[simp] theorem State.out_activeEntry (w : WireItem) :
    (s.out w).activeEntry = s.activeEntry := rfl
@[simp] theorem State.out_flows (w : WireItem) :
    (s.out w).flows = s.flows := rfl
@[simp] theorem State.out_switches (w : WireItem) :
    (s.out w).switches = s.switches := rfl
@[simp] theorem State.out_switchedAt (w : WireItem) :
    (s.out w).switchedAt = s.switchedAt := rfl
@[simp] theorem State.out_dropCount (w : WireItem) :
    (s.out w).dropCount = s.dropCount := rfl
@[simp] theorem State.out_dropAt (w : WireItem) :
    (s.out w).dropAt = s.dropAt := rfl
@[simp] theorem State.out_rtpSeq (w : WireItem) :
    (s.out w).rtpSeq = s.rtpSeq := rfl
@[simp] theorem State.out_banks (w : WireItem) :
    (s.out w).banks = s.banks := rfl
@[simp] theorem State.out_luts (w : WireItem) :
    (s.out w).luts = s.luts := rfl
@[simp] theorem State.out_luts3d (w : WireItem) :
    (s.out w).luts3d = s.luts3d := rfl
@[simp] theorem State.out_imageDesc (w : WireItem) :
    (s.out w).imageDesc = s.imageDesc := rfl
@[simp] theorem State.out_imageData (w : WireItem) :
    (s.out w).imageData = s.imageData := rfl
@[simp] theorem State.out_imageCrc (w : WireItem) :
    (s.out w).imageCrc = s.imageCrc := rfl
@[simp] theorem State.out_imageBad (w : WireItem) :
    (s.out w).imageBad = s.imageBad := rfl
@[simp] theorem State.out_tileMap (w : WireItem) :
    (s.out w).tileMap = s.tileMap := rfl
@[simp] theorem State.out_tileShadow (w : WireItem) :
    (s.out w).tileShadow = s.tileShadow := rfl
@[simp] theorem State.out_calib (w : WireItem) :
    (s.out w).calib = s.calib := rfl
@[simp] theorem State.out_calibShadow (w : WireItem) :
    (s.out w).calibShadow = s.calibShadow := rfl
@[simp] theorem State.out_tiles (w : WireItem) :
    (s.out w).tiles = s.tiles := rfl
@[simp] theorem State.out_ptl (w : WireItem) :
    (s.out w).ptl = s.ptl := rfl
@[simp] theorem State.out_ptlCounters (w : WireItem) :
    (s.out w).ptlCounters = s.ptlCounters := rfl
@[simp] theorem State.out_authFailTimes (w : WireItem) :
    (s.out w).authFailTimes = s.authFailTimes := rfl
@[simp] theorem State.out_hentis (w : WireItem) :
    (s.out w).hentis = s.hentis := rfl
@[simp] theorem State.out_refs (w : WireItem) :
    (s.out w).refs = s.refs := rfl
@[simp] theorem State.out_ftgs (w : WireItem) :
    (s.out w).ftgs = s.ftgs := rfl
@[simp] theorem State.out_audio (w : WireItem) :
    (s.out w).audio = s.audio := rfl
@[simp] theorem State.out_channelTable (w : WireItem) :
    (s.out w).channelTable = s.channelTable := rfl
@[simp] theorem State.out_streamTable (w : WireItem) :
    (s.out w).streamTable = s.streamTable := rfl
@[simp] theorem State.out_channels (w : WireItem) :
    (s.out w).channels = s.channels := rfl
@[simp] theorem State.out_endpoints (w : WireItem) :
    (s.out w).endpoints = s.endpoints := rfl
@[simp] theorem State.out_dram (w : WireItem) :
    (s.out w).dram = s.dram := rfl
@[simp] theorem State.out_scanAlloc (w : WireItem) :
    (s.out w).scanAlloc = s.scanAlloc := rfl
@[simp] theorem State.out_stageAlloc (w : WireItem) :
    (s.out w).stageAlloc = s.stageAlloc := rfl
@[simp] theorem State.out_liningAlloc (w : WireItem) :
    (s.out w).liningAlloc = s.liningAlloc := rfl
@[simp] theorem State.out_liningLostKib (w : WireItem) :
    (s.out w).liningLostKib = s.liningLostKib := rfl
@[simp] theorem State.out_pocket (w : WireItem) :
    (s.out w).pocket = s.pocket := rfl
@[simp] theorem State.out_resil (w : WireItem) :
    (s.out w).resil = s.resil := rfl
@[simp] theorem State.out_keys (w : WireItem) :
    (s.out w).keys = s.keys := rfl
@[simp] theorem State.out_life (w : WireItem) :
    (s.out w).life = s.life := rfl
@[simp] theorem State.out_supply (w : WireItem) :
    (s.out w).supply = s.supply := rfl
@[simp] theorem State.out_dev (w : WireItem) :
    (s.out w).dev = s.dev := rfl
@[simp] theorem State.out_rd (w : WireItem) (i : EntryDef) (p q : Nat) :
    (s.out w).rd i p q = s.rd i p q := rfl
@[simp] theorem State.out_flag (w : WireItem) (i : EntryDef) (p q : Nat) :
    (s.out w).flag i p q = s.flag i p q := rfl
@[simp] theorem State.out_rdInt (w : WireItem) (i : EntryDef) (p q : Nat) :
    (s.out w).rdInt i p q = s.rdInt i p q := rfl
@[simp] theorem State.out_dom (w : WireItem) (i : EntryDef) (p q : Nat) :
    (s.out w).dom i p q = s.dom i p q := rfl
@[simp] theorem State.out_floor (w : WireItem) :
    (s.out w).floor = s.floor := rfl
@[simp] theorem State.out_devState (w : WireItem) :
    (s.out w).devState = s.devState := rfl
@[simp] theorem State.out_dictUp (w : WireItem) :
    (s.out w).dictUp = s.dictUp := rfl
@[simp] theorem State.out_alive (w : WireItem) :
    (s.out w).alive = s.alive := rfl
@[simp] theorem State.out_hostByte (w : WireItem) (p : Nat) :
    (s.out w).hostByte p = s.hostByte p := rfl
@[simp] theorem State.out_sessAt (w : WireItem) (p : Nat) :
    (s.out w).sessAt p = s.sessAt p := rfl
@[simp] theorem State.out_canAt (w : WireItem) (p : Nat) :
    (s.out w).canAt p = s.canAt p := rfl
@[simp] theorem State.out_engineAt (w : WireItem) (p : Nat) :
    (s.out w).engineAt p = s.engineAt p := rfl
@[simp] theorem State.out_inputAt (w : WireItem) (p : Nat) :
    (s.out w).inputAt p = s.inputAt p := rfl
@[simp] theorem State.out_hostAt (w : WireItem) (p : Nat) :
    (s.out w).hostAt p = s.hostAt p := rfl
@[simp] theorem State.out_playerAt (w : WireItem) (p : Nat) :
    (s.out w).playerAt p = s.playerAt p := rfl
@[simp] theorem State.out_layerAt (w : WireItem) (p : Nat) :
    (s.out w).layerAt p = s.layerAt p := rfl
@[simp] theorem State.out_canvasAt (w : WireItem) (p : Nat) :
    (s.out w).canvasAt p = s.canvasAt p := rfl
@[simp] theorem State.out_headAt (w : WireItem) (p : Nat) :
    (s.out w).headAt p = s.headAt p := rfl
@[simp] theorem State.out_ulaneAt (w : WireItem) (p : Nat) :
    (s.out w).ulaneAt p = s.ulaneAt p := rfl
@[simp] theorem State.out_dlaneAt (w : WireItem) (p : Nat) :
    (s.out w).dlaneAt p = s.dlaneAt p := rfl
@[simp] theorem State.out_groupAt (w : WireItem) (p : Nat) :
    (s.out w).groupAt p = s.groupAt p := rfl
@[simp] theorem State.out_flowAt (w : WireItem) (p : Nat) :
    (s.out w).flowAt p = s.flowAt p := rfl
@[simp] theorem State.out_tileAt (w : WireItem) (p : Nat) :
    (s.out w).tileAt p = s.tileAt p := rfl
@[simp] theorem State.out_refAt (w : WireItem) (p : Nat) :
    (s.out w).refAt p = s.refAt p := rfl
@[simp] theorem State.out_ftgAt (w : WireItem) (p : Nat) :
    (s.out w).ftgAt p = s.ftgAt p := rfl
@[simp] theorem State.out_channelAt (w : WireItem) (p : Nat) :
    (s.out w).channelAt p = s.channelAt p := rfl
@[simp] theorem State.out_endpointAt (w : WireItem) (p : Nat) :
    (s.out w).endpointAt p = s.endpointAt p := rfl
@[simp] theorem State.out_imageBadAt (w : WireItem) (p : Nat) :
    (s.out w).imageBadAt p = s.imageBadAt p := rfl
@[simp] theorem State.out_activeAt (w : WireItem) (p : Nat) :
    (s.out w).activeAt p = s.activeAt p := rfl
@[simp] theorem State.out_udpFailAt (w : WireItem) (p : Nat) :
    (s.out w).udpFailAt p = s.udpFailAt p := rfl
@[simp] theorem State.out_udpLockAt (w : WireItem) (p : Nat) :
    (s.out w).udpLockAt p = s.udpLockAt p := rfl
@[simp] theorem State.out_droppedAt (w : WireItem) (p : Nat) :
    (s.out w).droppedAt p = s.droppedAt p := rfl
@[simp] theorem State.out_dropTimeAt (w : WireItem) (p : Nat) :
    (s.out w).dropTimeAt p = s.dropTimeAt p := rfl
@[simp] theorem State.out_rtpAt (w : WireItem) (p : Nat) :
    (s.out w).rtpAt p = s.rtpAt p := rfl
@[simp] theorem State.out_imageCrcAt (w : WireItem) (p : Nat) :
    (s.out w).imageCrcAt p = s.imageCrcAt p := rfl
@[simp] theorem State.out_ptlCounterAt (w : WireItem) (p : Nat) :
    (s.out w).ptlCounterAt p = s.ptlCounterAt p := rfl
@[simp] theorem State.out_authFailAt (w : WireItem) (p : Nat) :
    (s.out w).authFailAt p = s.authFailAt p := rfl
@[simp] theorem State.out_scanAt (w : WireItem) (p : Nat) :
    (s.out w).scanAt p = s.scanAt p := rfl
@[simp] theorem State.out_stageAt (w : WireItem) (p : Nat) :
    (s.out w).stageAt p = s.stageAt p := rfl
@[simp] theorem State.out_liningAt (w : WireItem) (p : Nat) :
    (s.out w).liningAt p = s.liningAt p := rfl
@[simp] theorem State.out_routeAt (w : WireItem) (p : Nat) :
    (s.out w).routeAt p = s.routeAt p := rfl
@[simp] theorem State.out_bankAt (w : WireItem) (p : Nat) :
    (s.out w).bankAt p = s.bankAt p := rfl
@[simp] theorem State.out_lutAt (w : WireItem) (p : Nat) :
    (s.out w).lutAt p = s.lutAt p := rfl
@[simp] theorem State.out_lut3dAt (w : WireItem) (p : Nat) :
    (s.out w).lut3dAt p = s.lut3dAt p := rfl
@[simp] theorem State.out_imageDescAt (w : WireItem) (p : Nat) :
    (s.out w).imageDescAt p = s.imageDescAt p := rfl
@[simp] theorem State.out_imageDataAt (w : WireItem) (p : Nat) :
    (s.out w).imageDataAt p = s.imageDataAt p := rfl
@[simp] theorem State.out_tileEntryAt (w : WireItem) (p : Nat) :
    (s.out w).tileEntryAt p = s.tileEntryAt p := rfl
@[simp] theorem State.out_tileShadowAt (w : WireItem) (p : Nat) :
    (s.out w).tileShadowAt p = s.tileShadowAt p := rfl
@[simp] theorem State.out_calibAt (w : WireItem) (p : Nat) :
    (s.out w).calibAt p = s.calibAt p := rfl
@[simp] theorem State.out_calibShadowAt (w : WireItem) (p : Nat) :
    (s.out w).calibShadowAt p = s.calibShadowAt p := rfl
@[simp] theorem State.out_channelEntryAt (w : WireItem) (p : Nat) :
    (s.out w).channelEntryAt p = s.channelEntryAt p := rfl
@[simp] theorem State.out_streamEntryAt (w : WireItem) (p : Nat) :
    (s.out w).streamEntryAt p = s.streamEntryAt p := rfl

/-! ### begin -/

@[simp] theorem State.begin_now :
    (s.begin).now = s.now := rfl
@[simp] theorem State.begin_timebase :
    (s.begin).timebase = s.timebase := rfl
@[simp] theorem State.begin_dcoRest :
    (s.begin).dcoRest = s.dcoRest := rfl
@[simp] theorem State.begin_pending :
    (s.begin).pending = s.pending := rfl
@[simp] theorem State.begin_tap :
    (s.begin).tap = s.tap := rfl
@[simp] theorem State.begin_actor :
    (s.begin).actor = 0xFF := rfl
@[simp] theorem State.begin_regs :
    (s.begin).regs = s.regs := rfl
@[simp] theorem State.begin_shadow :
    (s.begin).shadow = s.shadow := rfl
@[simp] theorem State.begin_doms :
    (s.begin).doms = s.doms := rfl
@[simp] theorem State.begin_shadowDoms :
    (s.begin).shadowDoms = s.shadowDoms := rfl
@[simp] theorem State.begin_minSeverityDefault :
    (s.begin).minSeverityDefault = s.minSeverityDefault := rfl
@[simp] theorem State.begin_sess :
    (s.begin).sess = s.sess := rfl
@[simp] theorem State.begin_ev :
    (s.begin).ev = s.ev := rfl
@[simp] theorem State.begin_spi :
    (s.begin).spi = s.spi := rfl
@[simp] theorem State.begin_mailbox :
    (s.begin).mailbox = s.mailbox := rfl
@[simp] theorem State.begin_can :
    (s.begin).can = s.can := rfl
@[simp] theorem State.begin_tagRejectAt :
    (s.begin).tagRejectAt = s.tagRejectAt := rfl
@[simp] theorem State.begin_udpFailures :
    (s.begin).udpFailures = s.udpFailures := rfl
@[simp] theorem State.begin_udpLocked :
    (s.begin).udpLocked = s.udpLocked := rfl
@[simp] theorem State.begin_draws :
    (s.begin).draws = s.draws := rfl
@[simp] theorem State.begin_staging :
    (s.begin).staging = s.staging := rfl
@[simp] theorem State.begin_stagingSess :
    (s.begin).stagingSess = s.stagingSess := rfl
@[simp] theorem State.begin_copy0 :
    (s.begin).copy0 = s.copy0 := rfl
@[simp] theorem State.begin_copy1 :
    (s.begin).copy1 = s.copy1 := rfl
@[simp] theorem State.begin_mgmtWait :
    (s.begin).mgmtWait = s.mgmtWait := rfl
@[simp] theorem State.begin_gov :
    (s.begin).gov = s.gov := rfl
@[simp] theorem State.begin_engines :
    (s.begin).engines = s.engines := rfl
@[simp] theorem State.begin_strips :
    (s.begin).strips = s.strips := rfl
@[simp] theorem State.begin_inputs :
    (s.begin).inputs = s.inputs := rfl
@[simp] theorem State.begin_hosts :
    (s.begin).hosts = s.hosts := rfl
@[simp] theorem State.begin_players :
    (s.begin).players = s.players := rfl
@[simp] theorem State.begin_layers :
    (s.begin).layers = s.layers := rfl
@[simp] theorem State.begin_canvases :
    (s.begin).canvases = s.canvases := rfl
@[simp] theorem State.begin_heads :
    (s.begin).heads = s.heads := rfl
@[simp] theorem State.begin_validating :
    (s.begin).validating = s.validating := rfl
@[simp] theorem State.begin_pendingCommits :
    (s.begin).pendingCommits = s.pendingCommits := rfl
@[simp] theorem State.begin_deferredWrites :
    (s.begin).deferredWrites = s.deferredWrites := rfl
@[simp] theorem State.begin_ulanes :
    (s.begin).ulanes = s.ulanes := rfl
@[simp] theorem State.begin_dlanes :
    (s.begin).dlanes = s.dlanes := rfl
@[simp] theorem State.begin_groups :
    (s.begin).groups = s.groups := rfl
@[simp] theorem State.begin_fecTimes :
    (s.begin).fecTimes = s.fecTimes := rfl
@[simp] theorem State.begin_routes :
    (s.begin).routes = s.routes := rfl
@[simp] theorem State.begin_activeEntry :
    (s.begin).activeEntry = s.activeEntry := rfl
@[simp] theorem State.begin_flows :
    (s.begin).flows = s.flows := rfl
@[simp] theorem State.begin_switches :
    (s.begin).switches = s.switches := rfl
@[simp] theorem State.begin_switchedAt :
    (s.begin).switchedAt = s.switchedAt := rfl
@[simp] theorem State.begin_dropCount :
    (s.begin).dropCount = s.dropCount := rfl
@[simp] theorem State.begin_dropAt :
    (s.begin).dropAt = s.dropAt := rfl
@[simp] theorem State.begin_rtpSeq :
    (s.begin).rtpSeq = s.rtpSeq := rfl
@[simp] theorem State.begin_banks :
    (s.begin).banks = s.banks := rfl
@[simp] theorem State.begin_luts :
    (s.begin).luts = s.luts := rfl
@[simp] theorem State.begin_luts3d :
    (s.begin).luts3d = s.luts3d := rfl
@[simp] theorem State.begin_imageDesc :
    (s.begin).imageDesc = s.imageDesc := rfl
@[simp] theorem State.begin_imageData :
    (s.begin).imageData = s.imageData := rfl
@[simp] theorem State.begin_imageCrc :
    (s.begin).imageCrc = s.imageCrc := rfl
@[simp] theorem State.begin_imageBad :
    (s.begin).imageBad = s.imageBad := rfl
@[simp] theorem State.begin_tileMap :
    (s.begin).tileMap = s.tileMap := rfl
@[simp] theorem State.begin_tileShadow :
    (s.begin).tileShadow = s.tileShadow := rfl
@[simp] theorem State.begin_calib :
    (s.begin).calib = s.calib := rfl
@[simp] theorem State.begin_calibShadow :
    (s.begin).calibShadow = s.calibShadow := rfl
@[simp] theorem State.begin_tiles :
    (s.begin).tiles = s.tiles := rfl
@[simp] theorem State.begin_ptl :
    (s.begin).ptl = s.ptl := rfl
@[simp] theorem State.begin_ptlCounters :
    (s.begin).ptlCounters = s.ptlCounters := rfl
@[simp] theorem State.begin_authFailTimes :
    (s.begin).authFailTimes = s.authFailTimes := rfl
@[simp] theorem State.begin_hentis :
    (s.begin).hentis = s.hentis := rfl
@[simp] theorem State.begin_refs :
    (s.begin).refs = s.refs := rfl
@[simp] theorem State.begin_ftgs :
    (s.begin).ftgs = s.ftgs := rfl
@[simp] theorem State.begin_audio :
    (s.begin).audio = s.audio := rfl
@[simp] theorem State.begin_channelTable :
    (s.begin).channelTable = s.channelTable := rfl
@[simp] theorem State.begin_streamTable :
    (s.begin).streamTable = s.streamTable := rfl
@[simp] theorem State.begin_channels :
    (s.begin).channels = s.channels := rfl
@[simp] theorem State.begin_endpoints :
    (s.begin).endpoints = s.endpoints := rfl
@[simp] theorem State.begin_dram :
    (s.begin).dram = s.dram := rfl
@[simp] theorem State.begin_scanAlloc :
    (s.begin).scanAlloc = s.scanAlloc := rfl
@[simp] theorem State.begin_stageAlloc :
    (s.begin).stageAlloc = s.stageAlloc := rfl
@[simp] theorem State.begin_liningAlloc :
    (s.begin).liningAlloc = s.liningAlloc := rfl
@[simp] theorem State.begin_liningLostKib :
    (s.begin).liningLostKib = s.liningLostKib := rfl
@[simp] theorem State.begin_pocket :
    (s.begin).pocket = s.pocket := rfl
@[simp] theorem State.begin_resil :
    (s.begin).resil = s.resil := rfl
@[simp] theorem State.begin_keys :
    (s.begin).keys = s.keys := rfl
@[simp] theorem State.begin_life :
    (s.begin).life = s.life := rfl
@[simp] theorem State.begin_supply :
    (s.begin).supply = s.supply := rfl
@[simp] theorem State.begin_dev :
    (s.begin).dev = s.dev := rfl
@[simp] theorem State.begin_rd (i : EntryDef) (p q : Nat) :
    (s.begin).rd i p q = s.rd i p q := rfl
@[simp] theorem State.begin_flag (i : EntryDef) (p q : Nat) :
    (s.begin).flag i p q = s.flag i p q := rfl
@[simp] theorem State.begin_rdInt (i : EntryDef) (p q : Nat) :
    (s.begin).rdInt i p q = s.rdInt i p q := rfl
@[simp] theorem State.begin_dom (i : EntryDef) (p q : Nat) :
    (s.begin).dom i p q = s.dom i p q := rfl
@[simp] theorem State.begin_floor :
    (s.begin).floor = s.floor := rfl
@[simp] theorem State.begin_devState :
    (s.begin).devState = s.devState := rfl
@[simp] theorem State.begin_dictUp :
    (s.begin).dictUp = s.dictUp := rfl
@[simp] theorem State.begin_alive :
    (s.begin).alive = s.alive := rfl
@[simp] theorem State.begin_hostByte (p : Nat) :
    (s.begin).hostByte p = s.hostByte p := rfl
@[simp] theorem State.begin_sessAt (p : Nat) :
    (s.begin).sessAt p = s.sessAt p := rfl
@[simp] theorem State.begin_canAt (p : Nat) :
    (s.begin).canAt p = s.canAt p := rfl
@[simp] theorem State.begin_engineAt (p : Nat) :
    (s.begin).engineAt p = s.engineAt p := rfl
@[simp] theorem State.begin_inputAt (p : Nat) :
    (s.begin).inputAt p = s.inputAt p := rfl
@[simp] theorem State.begin_hostAt (p : Nat) :
    (s.begin).hostAt p = s.hostAt p := rfl
@[simp] theorem State.begin_playerAt (p : Nat) :
    (s.begin).playerAt p = s.playerAt p := rfl
@[simp] theorem State.begin_layerAt (p : Nat) :
    (s.begin).layerAt p = s.layerAt p := rfl
@[simp] theorem State.begin_canvasAt (p : Nat) :
    (s.begin).canvasAt p = s.canvasAt p := rfl
@[simp] theorem State.begin_headAt (p : Nat) :
    (s.begin).headAt p = s.headAt p := rfl
@[simp] theorem State.begin_ulaneAt (p : Nat) :
    (s.begin).ulaneAt p = s.ulaneAt p := rfl
@[simp] theorem State.begin_dlaneAt (p : Nat) :
    (s.begin).dlaneAt p = s.dlaneAt p := rfl
@[simp] theorem State.begin_groupAt (p : Nat) :
    (s.begin).groupAt p = s.groupAt p := rfl
@[simp] theorem State.begin_flowAt (p : Nat) :
    (s.begin).flowAt p = s.flowAt p := rfl
@[simp] theorem State.begin_tileAt (p : Nat) :
    (s.begin).tileAt p = s.tileAt p := rfl
@[simp] theorem State.begin_refAt (p : Nat) :
    (s.begin).refAt p = s.refAt p := rfl
@[simp] theorem State.begin_ftgAt (p : Nat) :
    (s.begin).ftgAt p = s.ftgAt p := rfl
@[simp] theorem State.begin_channelAt (p : Nat) :
    (s.begin).channelAt p = s.channelAt p := rfl
@[simp] theorem State.begin_endpointAt (p : Nat) :
    (s.begin).endpointAt p = s.endpointAt p := rfl
@[simp] theorem State.begin_imageBadAt (p : Nat) :
    (s.begin).imageBadAt p = s.imageBadAt p := rfl
@[simp] theorem State.begin_activeAt (p : Nat) :
    (s.begin).activeAt p = s.activeAt p := rfl
@[simp] theorem State.begin_udpFailAt (p : Nat) :
    (s.begin).udpFailAt p = s.udpFailAt p := rfl
@[simp] theorem State.begin_udpLockAt (p : Nat) :
    (s.begin).udpLockAt p = s.udpLockAt p := rfl
@[simp] theorem State.begin_droppedAt (p : Nat) :
    (s.begin).droppedAt p = s.droppedAt p := rfl
@[simp] theorem State.begin_dropTimeAt (p : Nat) :
    (s.begin).dropTimeAt p = s.dropTimeAt p := rfl
@[simp] theorem State.begin_rtpAt (p : Nat) :
    (s.begin).rtpAt p = s.rtpAt p := rfl
@[simp] theorem State.begin_imageCrcAt (p : Nat) :
    (s.begin).imageCrcAt p = s.imageCrcAt p := rfl
@[simp] theorem State.begin_ptlCounterAt (p : Nat) :
    (s.begin).ptlCounterAt p = s.ptlCounterAt p := rfl
@[simp] theorem State.begin_authFailAt (p : Nat) :
    (s.begin).authFailAt p = s.authFailAt p := rfl
@[simp] theorem State.begin_scanAt (p : Nat) :
    (s.begin).scanAt p = s.scanAt p := rfl
@[simp] theorem State.begin_stageAt (p : Nat) :
    (s.begin).stageAt p = s.stageAt p := rfl
@[simp] theorem State.begin_liningAt (p : Nat) :
    (s.begin).liningAt p = s.liningAt p := rfl
@[simp] theorem State.begin_routeAt (p : Nat) :
    (s.begin).routeAt p = s.routeAt p := rfl
@[simp] theorem State.begin_bankAt (p : Nat) :
    (s.begin).bankAt p = s.bankAt p := rfl
@[simp] theorem State.begin_lutAt (p : Nat) :
    (s.begin).lutAt p = s.lutAt p := rfl
@[simp] theorem State.begin_lut3dAt (p : Nat) :
    (s.begin).lut3dAt p = s.lut3dAt p := rfl
@[simp] theorem State.begin_imageDescAt (p : Nat) :
    (s.begin).imageDescAt p = s.imageDescAt p := rfl
@[simp] theorem State.begin_imageDataAt (p : Nat) :
    (s.begin).imageDataAt p = s.imageDataAt p := rfl
@[simp] theorem State.begin_tileEntryAt (p : Nat) :
    (s.begin).tileEntryAt p = s.tileEntryAt p := rfl
@[simp] theorem State.begin_tileShadowAt (p : Nat) :
    (s.begin).tileShadowAt p = s.tileShadowAt p := rfl
@[simp] theorem State.begin_calibAt (p : Nat) :
    (s.begin).calibAt p = s.calibAt p := rfl
@[simp] theorem State.begin_calibShadowAt (p : Nat) :
    (s.begin).calibShadowAt p = s.calibShadowAt p := rfl
@[simp] theorem State.begin_channelEntryAt (p : Nat) :
    (s.begin).channelEntryAt p = s.channelEntryAt p := rfl
@[simp] theorem State.begin_streamEntryAt (p : Nat) :
    (s.begin).streamEntryAt p = s.streamEntryAt p := rfl

/-! ### actBy -/

@[simp] theorem State.actBy_now (k : Nat) :
    (s.actBy k).now = s.now := rfl
@[simp] theorem State.actBy_timebase (k : Nat) :
    (s.actBy k).timebase = s.timebase := rfl
@[simp] theorem State.actBy_dcoRest (k : Nat) :
    (s.actBy k).dcoRest = s.dcoRest := rfl
@[simp] theorem State.actBy_pending (k : Nat) :
    (s.actBy k).pending = s.pending := rfl
@[simp] theorem State.actBy_tap (k : Nat) :
    (s.actBy k).tap = s.tap := rfl
@[simp] theorem State.actBy_actor (k : Nat) :
    (s.actBy k).actor = k := rfl
@[simp] theorem State.actBy_wire (k : Nat) :
    (s.actBy k).wire = s.wire := rfl
@[simp] theorem State.actBy_regs (k : Nat) :
    (s.actBy k).regs = s.regs := rfl
@[simp] theorem State.actBy_shadow (k : Nat) :
    (s.actBy k).shadow = s.shadow := rfl
@[simp] theorem State.actBy_doms (k : Nat) :
    (s.actBy k).doms = s.doms := rfl
@[simp] theorem State.actBy_shadowDoms (k : Nat) :
    (s.actBy k).shadowDoms = s.shadowDoms := rfl
@[simp] theorem State.actBy_minSeverityDefault (k : Nat) :
    (s.actBy k).minSeverityDefault = s.minSeverityDefault := rfl
@[simp] theorem State.actBy_sess (k : Nat) :
    (s.actBy k).sess = s.sess := rfl
@[simp] theorem State.actBy_ev (k : Nat) :
    (s.actBy k).ev = s.ev := rfl
@[simp] theorem State.actBy_spi (k : Nat) :
    (s.actBy k).spi = s.spi := rfl
@[simp] theorem State.actBy_mailbox (k : Nat) :
    (s.actBy k).mailbox = s.mailbox := rfl
@[simp] theorem State.actBy_can (k : Nat) :
    (s.actBy k).can = s.can := rfl
@[simp] theorem State.actBy_tagRejectAt (k : Nat) :
    (s.actBy k).tagRejectAt = s.tagRejectAt := rfl
@[simp] theorem State.actBy_udpFailures (k : Nat) :
    (s.actBy k).udpFailures = s.udpFailures := rfl
@[simp] theorem State.actBy_udpLocked (k : Nat) :
    (s.actBy k).udpLocked = s.udpLocked := rfl
@[simp] theorem State.actBy_draws (k : Nat) :
    (s.actBy k).draws = s.draws := rfl
@[simp] theorem State.actBy_staging (k : Nat) :
    (s.actBy k).staging = s.staging := rfl
@[simp] theorem State.actBy_stagingSess (k : Nat) :
    (s.actBy k).stagingSess = s.stagingSess := rfl
@[simp] theorem State.actBy_copy0 (k : Nat) :
    (s.actBy k).copy0 = s.copy0 := rfl
@[simp] theorem State.actBy_copy1 (k : Nat) :
    (s.actBy k).copy1 = s.copy1 := rfl
@[simp] theorem State.actBy_mgmtWait (k : Nat) :
    (s.actBy k).mgmtWait = s.mgmtWait := rfl
@[simp] theorem State.actBy_gov (k : Nat) :
    (s.actBy k).gov = s.gov := rfl
@[simp] theorem State.actBy_engines (k : Nat) :
    (s.actBy k).engines = s.engines := rfl
@[simp] theorem State.actBy_strips (k : Nat) :
    (s.actBy k).strips = s.strips := rfl
@[simp] theorem State.actBy_inputs (k : Nat) :
    (s.actBy k).inputs = s.inputs := rfl
@[simp] theorem State.actBy_hosts (k : Nat) :
    (s.actBy k).hosts = s.hosts := rfl
@[simp] theorem State.actBy_players (k : Nat) :
    (s.actBy k).players = s.players := rfl
@[simp] theorem State.actBy_layers (k : Nat) :
    (s.actBy k).layers = s.layers := rfl
@[simp] theorem State.actBy_canvases (k : Nat) :
    (s.actBy k).canvases = s.canvases := rfl
@[simp] theorem State.actBy_heads (k : Nat) :
    (s.actBy k).heads = s.heads := rfl
@[simp] theorem State.actBy_validating (k : Nat) :
    (s.actBy k).validating = s.validating := rfl
@[simp] theorem State.actBy_pendingCommits (k : Nat) :
    (s.actBy k).pendingCommits = s.pendingCommits := rfl
@[simp] theorem State.actBy_deferredWrites (k : Nat) :
    (s.actBy k).deferredWrites = s.deferredWrites := rfl
@[simp] theorem State.actBy_ulanes (k : Nat) :
    (s.actBy k).ulanes = s.ulanes := rfl
@[simp] theorem State.actBy_dlanes (k : Nat) :
    (s.actBy k).dlanes = s.dlanes := rfl
@[simp] theorem State.actBy_groups (k : Nat) :
    (s.actBy k).groups = s.groups := rfl
@[simp] theorem State.actBy_fecTimes (k : Nat) :
    (s.actBy k).fecTimes = s.fecTimes := rfl
@[simp] theorem State.actBy_routes (k : Nat) :
    (s.actBy k).routes = s.routes := rfl
@[simp] theorem State.actBy_activeEntry (k : Nat) :
    (s.actBy k).activeEntry = s.activeEntry := rfl
@[simp] theorem State.actBy_flows (k : Nat) :
    (s.actBy k).flows = s.flows := rfl
@[simp] theorem State.actBy_switches (k : Nat) :
    (s.actBy k).switches = s.switches := rfl
@[simp] theorem State.actBy_switchedAt (k : Nat) :
    (s.actBy k).switchedAt = s.switchedAt := rfl
@[simp] theorem State.actBy_dropCount (k : Nat) :
    (s.actBy k).dropCount = s.dropCount := rfl
@[simp] theorem State.actBy_dropAt (k : Nat) :
    (s.actBy k).dropAt = s.dropAt := rfl
@[simp] theorem State.actBy_rtpSeq (k : Nat) :
    (s.actBy k).rtpSeq = s.rtpSeq := rfl
@[simp] theorem State.actBy_banks (k : Nat) :
    (s.actBy k).banks = s.banks := rfl
@[simp] theorem State.actBy_luts (k : Nat) :
    (s.actBy k).luts = s.luts := rfl
@[simp] theorem State.actBy_luts3d (k : Nat) :
    (s.actBy k).luts3d = s.luts3d := rfl
@[simp] theorem State.actBy_imageDesc (k : Nat) :
    (s.actBy k).imageDesc = s.imageDesc := rfl
@[simp] theorem State.actBy_imageData (k : Nat) :
    (s.actBy k).imageData = s.imageData := rfl
@[simp] theorem State.actBy_imageCrc (k : Nat) :
    (s.actBy k).imageCrc = s.imageCrc := rfl
@[simp] theorem State.actBy_imageBad (k : Nat) :
    (s.actBy k).imageBad = s.imageBad := rfl
@[simp] theorem State.actBy_tileMap (k : Nat) :
    (s.actBy k).tileMap = s.tileMap := rfl
@[simp] theorem State.actBy_tileShadow (k : Nat) :
    (s.actBy k).tileShadow = s.tileShadow := rfl
@[simp] theorem State.actBy_calib (k : Nat) :
    (s.actBy k).calib = s.calib := rfl
@[simp] theorem State.actBy_calibShadow (k : Nat) :
    (s.actBy k).calibShadow = s.calibShadow := rfl
@[simp] theorem State.actBy_tiles (k : Nat) :
    (s.actBy k).tiles = s.tiles := rfl
@[simp] theorem State.actBy_ptl (k : Nat) :
    (s.actBy k).ptl = s.ptl := rfl
@[simp] theorem State.actBy_ptlCounters (k : Nat) :
    (s.actBy k).ptlCounters = s.ptlCounters := rfl
@[simp] theorem State.actBy_authFailTimes (k : Nat) :
    (s.actBy k).authFailTimes = s.authFailTimes := rfl
@[simp] theorem State.actBy_hentis (k : Nat) :
    (s.actBy k).hentis = s.hentis := rfl
@[simp] theorem State.actBy_refs (k : Nat) :
    (s.actBy k).refs = s.refs := rfl
@[simp] theorem State.actBy_ftgs (k : Nat) :
    (s.actBy k).ftgs = s.ftgs := rfl
@[simp] theorem State.actBy_audio (k : Nat) :
    (s.actBy k).audio = s.audio := rfl
@[simp] theorem State.actBy_channelTable (k : Nat) :
    (s.actBy k).channelTable = s.channelTable := rfl
@[simp] theorem State.actBy_streamTable (k : Nat) :
    (s.actBy k).streamTable = s.streamTable := rfl
@[simp] theorem State.actBy_channels (k : Nat) :
    (s.actBy k).channels = s.channels := rfl
@[simp] theorem State.actBy_endpoints (k : Nat) :
    (s.actBy k).endpoints = s.endpoints := rfl
@[simp] theorem State.actBy_dram (k : Nat) :
    (s.actBy k).dram = s.dram := rfl
@[simp] theorem State.actBy_scanAlloc (k : Nat) :
    (s.actBy k).scanAlloc = s.scanAlloc := rfl
@[simp] theorem State.actBy_stageAlloc (k : Nat) :
    (s.actBy k).stageAlloc = s.stageAlloc := rfl
@[simp] theorem State.actBy_liningAlloc (k : Nat) :
    (s.actBy k).liningAlloc = s.liningAlloc := rfl
@[simp] theorem State.actBy_liningLostKib (k : Nat) :
    (s.actBy k).liningLostKib = s.liningLostKib := rfl
@[simp] theorem State.actBy_pocket (k : Nat) :
    (s.actBy k).pocket = s.pocket := rfl
@[simp] theorem State.actBy_resil (k : Nat) :
    (s.actBy k).resil = s.resil := rfl
@[simp] theorem State.actBy_keys (k : Nat) :
    (s.actBy k).keys = s.keys := rfl
@[simp] theorem State.actBy_life (k : Nat) :
    (s.actBy k).life = s.life := rfl
@[simp] theorem State.actBy_supply (k : Nat) :
    (s.actBy k).supply = s.supply := rfl
@[simp] theorem State.actBy_dev (k : Nat) :
    (s.actBy k).dev = s.dev := rfl
@[simp] theorem State.actBy_rd (k : Nat) (i : EntryDef) (p q : Nat) :
    (s.actBy k).rd i p q = s.rd i p q := rfl
@[simp] theorem State.actBy_flag (k : Nat) (i : EntryDef) (p q : Nat) :
    (s.actBy k).flag i p q = s.flag i p q := rfl
@[simp] theorem State.actBy_rdInt (k : Nat) (i : EntryDef) (p q : Nat) :
    (s.actBy k).rdInt i p q = s.rdInt i p q := rfl
@[simp] theorem State.actBy_dom (k : Nat) (i : EntryDef) (p q : Nat) :
    (s.actBy k).dom i p q = s.dom i p q := rfl
@[simp] theorem State.actBy_floor (k : Nat) :
    (s.actBy k).floor = s.floor := rfl
@[simp] theorem State.actBy_devState (k : Nat) :
    (s.actBy k).devState = s.devState := rfl
@[simp] theorem State.actBy_dictUp (k : Nat) :
    (s.actBy k).dictUp = s.dictUp := rfl
@[simp] theorem State.actBy_alive (k : Nat) :
    (s.actBy k).alive = s.alive := rfl
@[simp] theorem State.actBy_hostByte (k : Nat) (p : Nat) :
    (s.actBy k).hostByte p = s.hostByte p := rfl
@[simp] theorem State.actBy_sessAt (k : Nat) (p : Nat) :
    (s.actBy k).sessAt p = s.sessAt p := rfl
@[simp] theorem State.actBy_canAt (k : Nat) (p : Nat) :
    (s.actBy k).canAt p = s.canAt p := rfl
@[simp] theorem State.actBy_engineAt (k : Nat) (p : Nat) :
    (s.actBy k).engineAt p = s.engineAt p := rfl
@[simp] theorem State.actBy_inputAt (k : Nat) (p : Nat) :
    (s.actBy k).inputAt p = s.inputAt p := rfl
@[simp] theorem State.actBy_hostAt (k : Nat) (p : Nat) :
    (s.actBy k).hostAt p = s.hostAt p := rfl
@[simp] theorem State.actBy_playerAt (k : Nat) (p : Nat) :
    (s.actBy k).playerAt p = s.playerAt p := rfl
@[simp] theorem State.actBy_layerAt (k : Nat) (p : Nat) :
    (s.actBy k).layerAt p = s.layerAt p := rfl
@[simp] theorem State.actBy_canvasAt (k : Nat) (p : Nat) :
    (s.actBy k).canvasAt p = s.canvasAt p := rfl
@[simp] theorem State.actBy_headAt (k : Nat) (p : Nat) :
    (s.actBy k).headAt p = s.headAt p := rfl
@[simp] theorem State.actBy_ulaneAt (k : Nat) (p : Nat) :
    (s.actBy k).ulaneAt p = s.ulaneAt p := rfl
@[simp] theorem State.actBy_dlaneAt (k : Nat) (p : Nat) :
    (s.actBy k).dlaneAt p = s.dlaneAt p := rfl
@[simp] theorem State.actBy_groupAt (k : Nat) (p : Nat) :
    (s.actBy k).groupAt p = s.groupAt p := rfl
@[simp] theorem State.actBy_flowAt (k : Nat) (p : Nat) :
    (s.actBy k).flowAt p = s.flowAt p := rfl
@[simp] theorem State.actBy_tileAt (k : Nat) (p : Nat) :
    (s.actBy k).tileAt p = s.tileAt p := rfl
@[simp] theorem State.actBy_refAt (k : Nat) (p : Nat) :
    (s.actBy k).refAt p = s.refAt p := rfl
@[simp] theorem State.actBy_ftgAt (k : Nat) (p : Nat) :
    (s.actBy k).ftgAt p = s.ftgAt p := rfl
@[simp] theorem State.actBy_channelAt (k : Nat) (p : Nat) :
    (s.actBy k).channelAt p = s.channelAt p := rfl
@[simp] theorem State.actBy_endpointAt (k : Nat) (p : Nat) :
    (s.actBy k).endpointAt p = s.endpointAt p := rfl
@[simp] theorem State.actBy_imageBadAt (k : Nat) (p : Nat) :
    (s.actBy k).imageBadAt p = s.imageBadAt p := rfl
@[simp] theorem State.actBy_activeAt (k : Nat) (p : Nat) :
    (s.actBy k).activeAt p = s.activeAt p := rfl
@[simp] theorem State.actBy_udpFailAt (k : Nat) (p : Nat) :
    (s.actBy k).udpFailAt p = s.udpFailAt p := rfl
@[simp] theorem State.actBy_udpLockAt (k : Nat) (p : Nat) :
    (s.actBy k).udpLockAt p = s.udpLockAt p := rfl
@[simp] theorem State.actBy_droppedAt (k : Nat) (p : Nat) :
    (s.actBy k).droppedAt p = s.droppedAt p := rfl
@[simp] theorem State.actBy_dropTimeAt (k : Nat) (p : Nat) :
    (s.actBy k).dropTimeAt p = s.dropTimeAt p := rfl
@[simp] theorem State.actBy_rtpAt (k : Nat) (p : Nat) :
    (s.actBy k).rtpAt p = s.rtpAt p := rfl
@[simp] theorem State.actBy_imageCrcAt (k : Nat) (p : Nat) :
    (s.actBy k).imageCrcAt p = s.imageCrcAt p := rfl
@[simp] theorem State.actBy_ptlCounterAt (k : Nat) (p : Nat) :
    (s.actBy k).ptlCounterAt p = s.ptlCounterAt p := rfl
@[simp] theorem State.actBy_authFailAt (k : Nat) (p : Nat) :
    (s.actBy k).authFailAt p = s.authFailAt p := rfl
@[simp] theorem State.actBy_scanAt (k : Nat) (p : Nat) :
    (s.actBy k).scanAt p = s.scanAt p := rfl
@[simp] theorem State.actBy_stageAt (k : Nat) (p : Nat) :
    (s.actBy k).stageAt p = s.stageAt p := rfl
@[simp] theorem State.actBy_liningAt (k : Nat) (p : Nat) :
    (s.actBy k).liningAt p = s.liningAt p := rfl
@[simp] theorem State.actBy_routeAt (k : Nat) (p : Nat) :
    (s.actBy k).routeAt p = s.routeAt p := rfl
@[simp] theorem State.actBy_bankAt (k : Nat) (p : Nat) :
    (s.actBy k).bankAt p = s.bankAt p := rfl
@[simp] theorem State.actBy_lutAt (k : Nat) (p : Nat) :
    (s.actBy k).lutAt p = s.lutAt p := rfl
@[simp] theorem State.actBy_lut3dAt (k : Nat) (p : Nat) :
    (s.actBy k).lut3dAt p = s.lut3dAt p := rfl
@[simp] theorem State.actBy_imageDescAt (k : Nat) (p : Nat) :
    (s.actBy k).imageDescAt p = s.imageDescAt p := rfl
@[simp] theorem State.actBy_imageDataAt (k : Nat) (p : Nat) :
    (s.actBy k).imageDataAt p = s.imageDataAt p := rfl
@[simp] theorem State.actBy_tileEntryAt (k : Nat) (p : Nat) :
    (s.actBy k).tileEntryAt p = s.tileEntryAt p := rfl
@[simp] theorem State.actBy_tileShadowAt (k : Nat) (p : Nat) :
    (s.actBy k).tileShadowAt p = s.tileShadowAt p := rfl
@[simp] theorem State.actBy_calibAt (k : Nat) (p : Nat) :
    (s.actBy k).calibAt p = s.calibAt p := rfl
@[simp] theorem State.actBy_calibShadowAt (k : Nat) (p : Nat) :
    (s.actBy k).calibShadowAt p = s.calibShadowAt p := rfl
@[simp] theorem State.actBy_channelEntryAt (k : Nat) (p : Nat) :
    (s.actBy k).channelEntryAt p = s.channelEntryAt p := rfl
@[simp] theorem State.actBy_streamEntryAt (k : Nat) (p : Nat) :
    (s.actBy k).streamEntryAt p = s.streamEntryAt p := rfl

/-! ### fire -/

@[simp] theorem State.fire_now (v : Nat) :
    (s.fire v).now = s.now := rfl
@[simp] theorem State.fire_timebase (v : Nat) :
    (s.fire v).timebase = s.timebase := rfl
@[simp] theorem State.fire_dcoRest (v : Nat) :
    (s.fire v).dcoRest = s.dcoRest := rfl
@[simp] theorem State.fire_pending (v : Nat) :
    (s.fire v).pending = s.pending := rfl
@[simp] theorem State.fire_wire (v : Nat) :
    (s.fire v).wire = s.wire := rfl
@[simp] theorem State.fire_actor (v : Nat) :
    (s.fire v).actor = s.actor := rfl
@[simp] theorem State.fire_tap (v : Nat) :
    (s.fire v).tap = s.tap := rfl
@[simp] theorem State.fire_regs (v : Nat) :
    (s.fire v).regs = s.regs := rfl
@[simp] theorem State.fire_shadow (v : Nat) :
    (s.fire v).shadow = s.shadow := rfl
@[simp] theorem State.fire_doms (v : Nat) :
    (s.fire v).doms = s.doms := rfl
@[simp] theorem State.fire_shadowDoms (v : Nat) :
    (s.fire v).shadowDoms = s.shadowDoms := rfl
@[simp] theorem State.fire_minSeverityDefault (v : Nat) :
    (s.fire v).minSeverityDefault = s.minSeverityDefault := rfl
@[simp] theorem State.fire_sess (v : Nat) :
    (s.fire v).sess = s.sess := rfl
@[simp] theorem State.fire_spi (v : Nat) :
    (s.fire v).spi = s.spi := rfl
@[simp] theorem State.fire_mailbox (v : Nat) :
    (s.fire v).mailbox = s.mailbox := rfl
@[simp] theorem State.fire_can (v : Nat) :
    (s.fire v).can = s.can := rfl
@[simp] theorem State.fire_tagRejectAt (v : Nat) :
    (s.fire v).tagRejectAt = s.tagRejectAt := rfl
@[simp] theorem State.fire_udpFailures (v : Nat) :
    (s.fire v).udpFailures = s.udpFailures := rfl
@[simp] theorem State.fire_udpLocked (v : Nat) :
    (s.fire v).udpLocked = s.udpLocked := rfl
@[simp] theorem State.fire_draws (v : Nat) :
    (s.fire v).draws = s.draws := rfl
@[simp] theorem State.fire_staging (v : Nat) :
    (s.fire v).staging = s.staging := rfl
@[simp] theorem State.fire_stagingSess (v : Nat) :
    (s.fire v).stagingSess = s.stagingSess := rfl
@[simp] theorem State.fire_copy0 (v : Nat) :
    (s.fire v).copy0 = s.copy0 := rfl
@[simp] theorem State.fire_copy1 (v : Nat) :
    (s.fire v).copy1 = s.copy1 := rfl
@[simp] theorem State.fire_mgmtWait (v : Nat) :
    (s.fire v).mgmtWait = s.mgmtWait := rfl
@[simp] theorem State.fire_gov (v : Nat) :
    (s.fire v).gov = s.gov := rfl
@[simp] theorem State.fire_engines (v : Nat) :
    (s.fire v).engines = s.engines := rfl
@[simp] theorem State.fire_strips (v : Nat) :
    (s.fire v).strips = s.strips := rfl
@[simp] theorem State.fire_inputs (v : Nat) :
    (s.fire v).inputs = s.inputs := rfl
@[simp] theorem State.fire_hosts (v : Nat) :
    (s.fire v).hosts = s.hosts := rfl
@[simp] theorem State.fire_players (v : Nat) :
    (s.fire v).players = s.players := rfl
@[simp] theorem State.fire_layers (v : Nat) :
    (s.fire v).layers = s.layers := rfl
@[simp] theorem State.fire_canvases (v : Nat) :
    (s.fire v).canvases = s.canvases := rfl
@[simp] theorem State.fire_heads (v : Nat) :
    (s.fire v).heads = s.heads := rfl
@[simp] theorem State.fire_validating (v : Nat) :
    (s.fire v).validating = s.validating := rfl
@[simp] theorem State.fire_pendingCommits (v : Nat) :
    (s.fire v).pendingCommits = s.pendingCommits := rfl
@[simp] theorem State.fire_deferredWrites (v : Nat) :
    (s.fire v).deferredWrites = s.deferredWrites := rfl
@[simp] theorem State.fire_ulanes (v : Nat) :
    (s.fire v).ulanes = s.ulanes := rfl
@[simp] theorem State.fire_dlanes (v : Nat) :
    (s.fire v).dlanes = s.dlanes := rfl
@[simp] theorem State.fire_groups (v : Nat) :
    (s.fire v).groups = s.groups := rfl
@[simp] theorem State.fire_fecTimes (v : Nat) :
    (s.fire v).fecTimes = s.fecTimes := rfl
@[simp] theorem State.fire_routes (v : Nat) :
    (s.fire v).routes = s.routes := rfl
@[simp] theorem State.fire_activeEntry (v : Nat) :
    (s.fire v).activeEntry = s.activeEntry := rfl
@[simp] theorem State.fire_flows (v : Nat) :
    (s.fire v).flows = s.flows := rfl
@[simp] theorem State.fire_switches (v : Nat) :
    (s.fire v).switches = s.switches := rfl
@[simp] theorem State.fire_switchedAt (v : Nat) :
    (s.fire v).switchedAt = s.switchedAt := rfl
@[simp] theorem State.fire_dropCount (v : Nat) :
    (s.fire v).dropCount = s.dropCount := rfl
@[simp] theorem State.fire_dropAt (v : Nat) :
    (s.fire v).dropAt = s.dropAt := rfl
@[simp] theorem State.fire_rtpSeq (v : Nat) :
    (s.fire v).rtpSeq = s.rtpSeq := rfl
@[simp] theorem State.fire_banks (v : Nat) :
    (s.fire v).banks = s.banks := rfl
@[simp] theorem State.fire_luts (v : Nat) :
    (s.fire v).luts = s.luts := rfl
@[simp] theorem State.fire_luts3d (v : Nat) :
    (s.fire v).luts3d = s.luts3d := rfl
@[simp] theorem State.fire_imageDesc (v : Nat) :
    (s.fire v).imageDesc = s.imageDesc := rfl
@[simp] theorem State.fire_imageData (v : Nat) :
    (s.fire v).imageData = s.imageData := rfl
@[simp] theorem State.fire_imageCrc (v : Nat) :
    (s.fire v).imageCrc = s.imageCrc := rfl
@[simp] theorem State.fire_imageBad (v : Nat) :
    (s.fire v).imageBad = s.imageBad := rfl
@[simp] theorem State.fire_tileMap (v : Nat) :
    (s.fire v).tileMap = s.tileMap := rfl
@[simp] theorem State.fire_tileShadow (v : Nat) :
    (s.fire v).tileShadow = s.tileShadow := rfl
@[simp] theorem State.fire_calib (v : Nat) :
    (s.fire v).calib = s.calib := rfl
@[simp] theorem State.fire_calibShadow (v : Nat) :
    (s.fire v).calibShadow = s.calibShadow := rfl
@[simp] theorem State.fire_tiles (v : Nat) :
    (s.fire v).tiles = s.tiles := rfl
@[simp] theorem State.fire_ptl (v : Nat) :
    (s.fire v).ptl = s.ptl := rfl
@[simp] theorem State.fire_ptlCounters (v : Nat) :
    (s.fire v).ptlCounters = s.ptlCounters := rfl
@[simp] theorem State.fire_authFailTimes (v : Nat) :
    (s.fire v).authFailTimes = s.authFailTimes := rfl
@[simp] theorem State.fire_hentis (v : Nat) :
    (s.fire v).hentis = s.hentis := rfl
@[simp] theorem State.fire_refs (v : Nat) :
    (s.fire v).refs = s.refs := rfl
@[simp] theorem State.fire_ftgs (v : Nat) :
    (s.fire v).ftgs = s.ftgs := rfl
@[simp] theorem State.fire_audio (v : Nat) :
    (s.fire v).audio = s.audio := rfl
@[simp] theorem State.fire_channelTable (v : Nat) :
    (s.fire v).channelTable = s.channelTable := rfl
@[simp] theorem State.fire_streamTable (v : Nat) :
    (s.fire v).streamTable = s.streamTable := rfl
@[simp] theorem State.fire_channels (v : Nat) :
    (s.fire v).channels = s.channels := rfl
@[simp] theorem State.fire_endpoints (v : Nat) :
    (s.fire v).endpoints = s.endpoints := rfl
@[simp] theorem State.fire_dram (v : Nat) :
    (s.fire v).dram = s.dram := rfl
@[simp] theorem State.fire_scanAlloc (v : Nat) :
    (s.fire v).scanAlloc = s.scanAlloc := rfl
@[simp] theorem State.fire_stageAlloc (v : Nat) :
    (s.fire v).stageAlloc = s.stageAlloc := rfl
@[simp] theorem State.fire_liningAlloc (v : Nat) :
    (s.fire v).liningAlloc = s.liningAlloc := rfl
@[simp] theorem State.fire_liningLostKib (v : Nat) :
    (s.fire v).liningLostKib = s.liningLostKib := rfl
@[simp] theorem State.fire_pocket (v : Nat) :
    (s.fire v).pocket = s.pocket := rfl
@[simp] theorem State.fire_resil (v : Nat) :
    (s.fire v).resil = s.resil := rfl
@[simp] theorem State.fire_keys (v : Nat) :
    (s.fire v).keys = s.keys := rfl
@[simp] theorem State.fire_life (v : Nat) :
    (s.fire v).life = s.life := rfl
@[simp] theorem State.fire_supply (v : Nat) :
    (s.fire v).supply = s.supply := rfl
@[simp] theorem State.fire_dev (v : Nat) :
    (s.fire v).dev = s.dev := rfl
@[simp] theorem State.fire_rd (v : Nat) (i : EntryDef) (p q : Nat) :
    (s.fire v).rd i p q = s.rd i p q := rfl
@[simp] theorem State.fire_flag (v : Nat) (i : EntryDef) (p q : Nat) :
    (s.fire v).flag i p q = s.flag i p q := rfl
@[simp] theorem State.fire_rdInt (v : Nat) (i : EntryDef) (p q : Nat) :
    (s.fire v).rdInt i p q = s.rdInt i p q := rfl
@[simp] theorem State.fire_dom (v : Nat) (i : EntryDef) (p q : Nat) :
    (s.fire v).dom i p q = s.dom i p q := rfl
@[simp] theorem State.fire_floor (v : Nat) :
    (s.fire v).floor = s.floor := rfl
@[simp] theorem State.fire_devState (v : Nat) :
    (s.fire v).devState = s.devState := rfl
@[simp] theorem State.fire_dictUp (v : Nat) :
    (s.fire v).dictUp = s.dictUp := rfl
@[simp] theorem State.fire_alive (v : Nat) :
    (s.fire v).alive = s.alive := rfl
@[simp] theorem State.fire_hostByte (v : Nat) (p : Nat) :
    (s.fire v).hostByte p = s.hostByte p := rfl
@[simp] theorem State.fire_sessAt (v : Nat) (p : Nat) :
    (s.fire v).sessAt p = s.sessAt p := rfl
@[simp] theorem State.fire_canAt (v : Nat) (p : Nat) :
    (s.fire v).canAt p = s.canAt p := rfl
@[simp] theorem State.fire_engineAt (v : Nat) (p : Nat) :
    (s.fire v).engineAt p = s.engineAt p := rfl
@[simp] theorem State.fire_inputAt (v : Nat) (p : Nat) :
    (s.fire v).inputAt p = s.inputAt p := rfl
@[simp] theorem State.fire_hostAt (v : Nat) (p : Nat) :
    (s.fire v).hostAt p = s.hostAt p := rfl
@[simp] theorem State.fire_playerAt (v : Nat) (p : Nat) :
    (s.fire v).playerAt p = s.playerAt p := rfl
@[simp] theorem State.fire_layerAt (v : Nat) (p : Nat) :
    (s.fire v).layerAt p = s.layerAt p := rfl
@[simp] theorem State.fire_canvasAt (v : Nat) (p : Nat) :
    (s.fire v).canvasAt p = s.canvasAt p := rfl
@[simp] theorem State.fire_headAt (v : Nat) (p : Nat) :
    (s.fire v).headAt p = s.headAt p := rfl
@[simp] theorem State.fire_ulaneAt (v : Nat) (p : Nat) :
    (s.fire v).ulaneAt p = s.ulaneAt p := rfl
@[simp] theorem State.fire_dlaneAt (v : Nat) (p : Nat) :
    (s.fire v).dlaneAt p = s.dlaneAt p := rfl
@[simp] theorem State.fire_groupAt (v : Nat) (p : Nat) :
    (s.fire v).groupAt p = s.groupAt p := rfl
@[simp] theorem State.fire_flowAt (v : Nat) (p : Nat) :
    (s.fire v).flowAt p = s.flowAt p := rfl
@[simp] theorem State.fire_tileAt (v : Nat) (p : Nat) :
    (s.fire v).tileAt p = s.tileAt p := rfl
@[simp] theorem State.fire_refAt (v : Nat) (p : Nat) :
    (s.fire v).refAt p = s.refAt p := rfl
@[simp] theorem State.fire_ftgAt (v : Nat) (p : Nat) :
    (s.fire v).ftgAt p = s.ftgAt p := rfl
@[simp] theorem State.fire_channelAt (v : Nat) (p : Nat) :
    (s.fire v).channelAt p = s.channelAt p := rfl
@[simp] theorem State.fire_endpointAt (v : Nat) (p : Nat) :
    (s.fire v).endpointAt p = s.endpointAt p := rfl
@[simp] theorem State.fire_imageBadAt (v : Nat) (p : Nat) :
    (s.fire v).imageBadAt p = s.imageBadAt p := rfl
@[simp] theorem State.fire_activeAt (v : Nat) (p : Nat) :
    (s.fire v).activeAt p = s.activeAt p := rfl
@[simp] theorem State.fire_udpFailAt (v : Nat) (p : Nat) :
    (s.fire v).udpFailAt p = s.udpFailAt p := rfl
@[simp] theorem State.fire_udpLockAt (v : Nat) (p : Nat) :
    (s.fire v).udpLockAt p = s.udpLockAt p := rfl
@[simp] theorem State.fire_droppedAt (v : Nat) (p : Nat) :
    (s.fire v).droppedAt p = s.droppedAt p := rfl
@[simp] theorem State.fire_dropTimeAt (v : Nat) (p : Nat) :
    (s.fire v).dropTimeAt p = s.dropTimeAt p := rfl
@[simp] theorem State.fire_rtpAt (v : Nat) (p : Nat) :
    (s.fire v).rtpAt p = s.rtpAt p := rfl
@[simp] theorem State.fire_imageCrcAt (v : Nat) (p : Nat) :
    (s.fire v).imageCrcAt p = s.imageCrcAt p := rfl
@[simp] theorem State.fire_ptlCounterAt (v : Nat) (p : Nat) :
    (s.fire v).ptlCounterAt p = s.ptlCounterAt p := rfl
@[simp] theorem State.fire_authFailAt (v : Nat) (p : Nat) :
    (s.fire v).authFailAt p = s.authFailAt p := rfl
@[simp] theorem State.fire_scanAt (v : Nat) (p : Nat) :
    (s.fire v).scanAt p = s.scanAt p := rfl
@[simp] theorem State.fire_stageAt (v : Nat) (p : Nat) :
    (s.fire v).stageAt p = s.stageAt p := rfl
@[simp] theorem State.fire_liningAt (v : Nat) (p : Nat) :
    (s.fire v).liningAt p = s.liningAt p := rfl
@[simp] theorem State.fire_routeAt (v : Nat) (p : Nat) :
    (s.fire v).routeAt p = s.routeAt p := rfl
@[simp] theorem State.fire_bankAt (v : Nat) (p : Nat) :
    (s.fire v).bankAt p = s.bankAt p := rfl
@[simp] theorem State.fire_lutAt (v : Nat) (p : Nat) :
    (s.fire v).lutAt p = s.lutAt p := rfl
@[simp] theorem State.fire_lut3dAt (v : Nat) (p : Nat) :
    (s.fire v).lut3dAt p = s.lut3dAt p := rfl
@[simp] theorem State.fire_imageDescAt (v : Nat) (p : Nat) :
    (s.fire v).imageDescAt p = s.imageDescAt p := rfl
@[simp] theorem State.fire_imageDataAt (v : Nat) (p : Nat) :
    (s.fire v).imageDataAt p = s.imageDataAt p := rfl
@[simp] theorem State.fire_tileEntryAt (v : Nat) (p : Nat) :
    (s.fire v).tileEntryAt p = s.tileEntryAt p := rfl
@[simp] theorem State.fire_tileShadowAt (v : Nat) (p : Nat) :
    (s.fire v).tileShadowAt p = s.tileShadowAt p := rfl
@[simp] theorem State.fire_calibAt (v : Nat) (p : Nat) :
    (s.fire v).calibAt p = s.calibAt p := rfl
@[simp] theorem State.fire_calibShadowAt (v : Nat) (p : Nat) :
    (s.fire v).calibShadowAt p = s.calibShadowAt p := rfl
@[simp] theorem State.fire_channelEntryAt (v : Nat) (p : Nat) :
    (s.fire v).channelEntryAt p = s.channelEntryAt p := rfl
@[simp] theorem State.fire_streamEntryAt (v : Nat) (p : Nat) :
    (s.fire v).streamEntryAt p = s.streamEntryAt p := rfl

/-! ### raiseWith -/

@[simp] theorem State.raiseWith_now (y : Bool) (x : Nat) (d : EventDef) (a b : Nat) :
    (s.raiseWith y x d a b).now = s.now := rfl
@[simp] theorem State.raiseWith_timebase (y : Bool) (x : Nat) (d : EventDef) (a b : Nat) :
    (s.raiseWith y x d a b).timebase = s.timebase := rfl
@[simp] theorem State.raiseWith_dcoRest (y : Bool) (x : Nat) (d : EventDef) (a b : Nat) :
    (s.raiseWith y x d a b).dcoRest = s.dcoRest := rfl
@[simp] theorem State.raiseWith_pending (y : Bool) (x : Nat) (d : EventDef) (a b : Nat) :
    (s.raiseWith y x d a b).pending = s.pending := rfl
@[simp] theorem State.raiseWith_actor (y : Bool) (x : Nat) (d : EventDef) (a b : Nat) :
    (s.raiseWith y x d a b).actor = s.actor := rfl
@[simp] theorem State.raiseWith_tap (y : Bool) (x : Nat) (d : EventDef) (a b : Nat) :
    (s.raiseWith y x d a b).tap = s.tap := rfl
@[simp] theorem State.raiseWith_regs (y : Bool) (x : Nat) (d : EventDef) (a b : Nat) :
    (s.raiseWith y x d a b).regs = s.regs := rfl
@[simp] theorem State.raiseWith_shadow (y : Bool) (x : Nat) (d : EventDef) (a b : Nat) :
    (s.raiseWith y x d a b).shadow = s.shadow := rfl
@[simp] theorem State.raiseWith_doms (y : Bool) (x : Nat) (d : EventDef) (a b : Nat) :
    (s.raiseWith y x d a b).doms = s.doms := rfl
@[simp] theorem State.raiseWith_shadowDoms (y : Bool) (x : Nat) (d : EventDef) (a b : Nat) :
    (s.raiseWith y x d a b).shadowDoms = s.shadowDoms := rfl
@[simp] theorem State.raiseWith_minSeverityDefault (y : Bool) (x : Nat) (d : EventDef) (a b : Nat) :
    (s.raiseWith y x d a b).minSeverityDefault = s.minSeverityDefault := rfl
@[simp] theorem State.raiseWith_sess (y : Bool) (x : Nat) (d : EventDef) (a b : Nat) :
    (s.raiseWith y x d a b).sess = s.sess := rfl
@[simp] theorem State.raiseWith_spi (y : Bool) (x : Nat) (d : EventDef) (a b : Nat) :
    (s.raiseWith y x d a b).spi = s.spi := rfl
@[simp] theorem State.raiseWith_mailbox (y : Bool) (x : Nat) (d : EventDef) (a b : Nat) :
    (s.raiseWith y x d a b).mailbox = s.mailbox := rfl
@[simp] theorem State.raiseWith_can (y : Bool) (x : Nat) (d : EventDef) (a b : Nat) :
    (s.raiseWith y x d a b).can = s.can := rfl
@[simp] theorem State.raiseWith_tagRejectAt (y : Bool) (x : Nat) (d : EventDef) (a b : Nat) :
    (s.raiseWith y x d a b).tagRejectAt = s.tagRejectAt := rfl
@[simp] theorem State.raiseWith_udpFailures (y : Bool) (x : Nat) (d : EventDef) (a b : Nat) :
    (s.raiseWith y x d a b).udpFailures = s.udpFailures := rfl
@[simp] theorem State.raiseWith_udpLocked (y : Bool) (x : Nat) (d : EventDef) (a b : Nat) :
    (s.raiseWith y x d a b).udpLocked = s.udpLocked := rfl
@[simp] theorem State.raiseWith_draws (y : Bool) (x : Nat) (d : EventDef) (a b : Nat) :
    (s.raiseWith y x d a b).draws = s.draws := rfl
@[simp] theorem State.raiseWith_staging (y : Bool) (x : Nat) (d : EventDef) (a b : Nat) :
    (s.raiseWith y x d a b).staging = s.staging := rfl
@[simp] theorem State.raiseWith_stagingSess (y : Bool) (x : Nat) (d : EventDef) (a b : Nat) :
    (s.raiseWith y x d a b).stagingSess = s.stagingSess := rfl
@[simp] theorem State.raiseWith_copy0 (y : Bool) (x : Nat) (d : EventDef) (a b : Nat) :
    (s.raiseWith y x d a b).copy0 = s.copy0 := rfl
@[simp] theorem State.raiseWith_copy1 (y : Bool) (x : Nat) (d : EventDef) (a b : Nat) :
    (s.raiseWith y x d a b).copy1 = s.copy1 := rfl
@[simp] theorem State.raiseWith_mgmtWait (y : Bool) (x : Nat) (d : EventDef) (a b : Nat) :
    (s.raiseWith y x d a b).mgmtWait = s.mgmtWait := rfl
@[simp] theorem State.raiseWith_gov (y : Bool) (x : Nat) (d : EventDef) (a b : Nat) :
    (s.raiseWith y x d a b).gov = s.gov := rfl
@[simp] theorem State.raiseWith_engines (y : Bool) (x : Nat) (d : EventDef) (a b : Nat) :
    (s.raiseWith y x d a b).engines = s.engines := rfl
@[simp] theorem State.raiseWith_strips (y : Bool) (x : Nat) (d : EventDef) (a b : Nat) :
    (s.raiseWith y x d a b).strips = s.strips := rfl
@[simp] theorem State.raiseWith_inputs (y : Bool) (x : Nat) (d : EventDef) (a b : Nat) :
    (s.raiseWith y x d a b).inputs = s.inputs := rfl
@[simp] theorem State.raiseWith_hosts (y : Bool) (x : Nat) (d : EventDef) (a b : Nat) :
    (s.raiseWith y x d a b).hosts = s.hosts := rfl
@[simp] theorem State.raiseWith_players (y : Bool) (x : Nat) (d : EventDef) (a b : Nat) :
    (s.raiseWith y x d a b).players = s.players := rfl
@[simp] theorem State.raiseWith_layers (y : Bool) (x : Nat) (d : EventDef) (a b : Nat) :
    (s.raiseWith y x d a b).layers = s.layers := rfl
@[simp] theorem State.raiseWith_canvases (y : Bool) (x : Nat) (d : EventDef) (a b : Nat) :
    (s.raiseWith y x d a b).canvases = s.canvases := rfl
@[simp] theorem State.raiseWith_heads (y : Bool) (x : Nat) (d : EventDef) (a b : Nat) :
    (s.raiseWith y x d a b).heads = s.heads := rfl
@[simp] theorem State.raiseWith_validating (y : Bool) (x : Nat) (d : EventDef) (a b : Nat) :
    (s.raiseWith y x d a b).validating = s.validating := rfl
@[simp] theorem State.raiseWith_pendingCommits (y : Bool) (x : Nat) (d : EventDef) (a b : Nat) :
    (s.raiseWith y x d a b).pendingCommits = s.pendingCommits := rfl
@[simp] theorem State.raiseWith_deferredWrites (y : Bool) (x : Nat) (d : EventDef) (a b : Nat) :
    (s.raiseWith y x d a b).deferredWrites = s.deferredWrites := rfl
@[simp] theorem State.raiseWith_ulanes (y : Bool) (x : Nat) (d : EventDef) (a b : Nat) :
    (s.raiseWith y x d a b).ulanes = s.ulanes := rfl
@[simp] theorem State.raiseWith_dlanes (y : Bool) (x : Nat) (d : EventDef) (a b : Nat) :
    (s.raiseWith y x d a b).dlanes = s.dlanes := rfl
@[simp] theorem State.raiseWith_groups (y : Bool) (x : Nat) (d : EventDef) (a b : Nat) :
    (s.raiseWith y x d a b).groups = s.groups := rfl
@[simp] theorem State.raiseWith_fecTimes (y : Bool) (x : Nat) (d : EventDef) (a b : Nat) :
    (s.raiseWith y x d a b).fecTimes = s.fecTimes := rfl
@[simp] theorem State.raiseWith_routes (y : Bool) (x : Nat) (d : EventDef) (a b : Nat) :
    (s.raiseWith y x d a b).routes = s.routes := rfl
@[simp] theorem State.raiseWith_activeEntry (y : Bool) (x : Nat) (d : EventDef) (a b : Nat) :
    (s.raiseWith y x d a b).activeEntry = s.activeEntry := rfl
@[simp] theorem State.raiseWith_flows (y : Bool) (x : Nat) (d : EventDef) (a b : Nat) :
    (s.raiseWith y x d a b).flows = s.flows := rfl
@[simp] theorem State.raiseWith_switches (y : Bool) (x : Nat) (d : EventDef) (a b : Nat) :
    (s.raiseWith y x d a b).switches = s.switches := rfl
@[simp] theorem State.raiseWith_switchedAt (y : Bool) (x : Nat) (d : EventDef) (a b : Nat) :
    (s.raiseWith y x d a b).switchedAt = s.switchedAt := rfl
@[simp] theorem State.raiseWith_dropCount (y : Bool) (x : Nat) (d : EventDef) (a b : Nat) :
    (s.raiseWith y x d a b).dropCount = s.dropCount := rfl
@[simp] theorem State.raiseWith_dropAt (y : Bool) (x : Nat) (d : EventDef) (a b : Nat) :
    (s.raiseWith y x d a b).dropAt = s.dropAt := rfl
@[simp] theorem State.raiseWith_rtpSeq (y : Bool) (x : Nat) (d : EventDef) (a b : Nat) :
    (s.raiseWith y x d a b).rtpSeq = s.rtpSeq := rfl
@[simp] theorem State.raiseWith_banks (y : Bool) (x : Nat) (d : EventDef) (a b : Nat) :
    (s.raiseWith y x d a b).banks = s.banks := rfl
@[simp] theorem State.raiseWith_luts (y : Bool) (x : Nat) (d : EventDef) (a b : Nat) :
    (s.raiseWith y x d a b).luts = s.luts := rfl
@[simp] theorem State.raiseWith_luts3d (y : Bool) (x : Nat) (d : EventDef) (a b : Nat) :
    (s.raiseWith y x d a b).luts3d = s.luts3d := rfl
@[simp] theorem State.raiseWith_imageDesc (y : Bool) (x : Nat) (d : EventDef) (a b : Nat) :
    (s.raiseWith y x d a b).imageDesc = s.imageDesc := rfl
@[simp] theorem State.raiseWith_imageData (y : Bool) (x : Nat) (d : EventDef) (a b : Nat) :
    (s.raiseWith y x d a b).imageData = s.imageData := rfl
@[simp] theorem State.raiseWith_imageCrc (y : Bool) (x : Nat) (d : EventDef) (a b : Nat) :
    (s.raiseWith y x d a b).imageCrc = s.imageCrc := rfl
@[simp] theorem State.raiseWith_imageBad (y : Bool) (x : Nat) (d : EventDef) (a b : Nat) :
    (s.raiseWith y x d a b).imageBad = s.imageBad := rfl
@[simp] theorem State.raiseWith_tileMap (y : Bool) (x : Nat) (d : EventDef) (a b : Nat) :
    (s.raiseWith y x d a b).tileMap = s.tileMap := rfl
@[simp] theorem State.raiseWith_tileShadow (y : Bool) (x : Nat) (d : EventDef) (a b : Nat) :
    (s.raiseWith y x d a b).tileShadow = s.tileShadow := rfl
@[simp] theorem State.raiseWith_calib (y : Bool) (x : Nat) (d : EventDef) (a b : Nat) :
    (s.raiseWith y x d a b).calib = s.calib := rfl
@[simp] theorem State.raiseWith_calibShadow (y : Bool) (x : Nat) (d : EventDef) (a b : Nat) :
    (s.raiseWith y x d a b).calibShadow = s.calibShadow := rfl
@[simp] theorem State.raiseWith_tiles (y : Bool) (x : Nat) (d : EventDef) (a b : Nat) :
    (s.raiseWith y x d a b).tiles = s.tiles := rfl
@[simp] theorem State.raiseWith_ptl (y : Bool) (x : Nat) (d : EventDef) (a b : Nat) :
    (s.raiseWith y x d a b).ptl = s.ptl := rfl
@[simp] theorem State.raiseWith_ptlCounters (y : Bool) (x : Nat) (d : EventDef) (a b : Nat) :
    (s.raiseWith y x d a b).ptlCounters = s.ptlCounters := rfl
@[simp] theorem State.raiseWith_authFailTimes (y : Bool) (x : Nat) (d : EventDef) (a b : Nat) :
    (s.raiseWith y x d a b).authFailTimes = s.authFailTimes := rfl
@[simp] theorem State.raiseWith_hentis (y : Bool) (x : Nat) (d : EventDef) (a b : Nat) :
    (s.raiseWith y x d a b).hentis = s.hentis := rfl
@[simp] theorem State.raiseWith_refs (y : Bool) (x : Nat) (d : EventDef) (a b : Nat) :
    (s.raiseWith y x d a b).refs = s.refs := rfl
@[simp] theorem State.raiseWith_ftgs (y : Bool) (x : Nat) (d : EventDef) (a b : Nat) :
    (s.raiseWith y x d a b).ftgs = s.ftgs := rfl
@[simp] theorem State.raiseWith_audio (y : Bool) (x : Nat) (d : EventDef) (a b : Nat) :
    (s.raiseWith y x d a b).audio = s.audio := rfl
@[simp] theorem State.raiseWith_channelTable (y : Bool) (x : Nat) (d : EventDef) (a b : Nat) :
    (s.raiseWith y x d a b).channelTable = s.channelTable := rfl
@[simp] theorem State.raiseWith_streamTable (y : Bool) (x : Nat) (d : EventDef) (a b : Nat) :
    (s.raiseWith y x d a b).streamTable = s.streamTable := rfl
@[simp] theorem State.raiseWith_channels (y : Bool) (x : Nat) (d : EventDef) (a b : Nat) :
    (s.raiseWith y x d a b).channels = s.channels := rfl
@[simp] theorem State.raiseWith_endpoints (y : Bool) (x : Nat) (d : EventDef) (a b : Nat) :
    (s.raiseWith y x d a b).endpoints = s.endpoints := rfl
@[simp] theorem State.raiseWith_dram (y : Bool) (x : Nat) (d : EventDef) (a b : Nat) :
    (s.raiseWith y x d a b).dram = s.dram := rfl
@[simp] theorem State.raiseWith_scanAlloc (y : Bool) (x : Nat) (d : EventDef) (a b : Nat) :
    (s.raiseWith y x d a b).scanAlloc = s.scanAlloc := rfl
@[simp] theorem State.raiseWith_stageAlloc (y : Bool) (x : Nat) (d : EventDef) (a b : Nat) :
    (s.raiseWith y x d a b).stageAlloc = s.stageAlloc := rfl
@[simp] theorem State.raiseWith_liningAlloc (y : Bool) (x : Nat) (d : EventDef) (a b : Nat) :
    (s.raiseWith y x d a b).liningAlloc = s.liningAlloc := rfl
@[simp] theorem State.raiseWith_liningLostKib (y : Bool) (x : Nat) (d : EventDef) (a b : Nat) :
    (s.raiseWith y x d a b).liningLostKib = s.liningLostKib := rfl
@[simp] theorem State.raiseWith_pocket (y : Bool) (x : Nat) (d : EventDef) (a b : Nat) :
    (s.raiseWith y x d a b).pocket = s.pocket := rfl
@[simp] theorem State.raiseWith_resil (y : Bool) (x : Nat) (d : EventDef) (a b : Nat) :
    (s.raiseWith y x d a b).resil = s.resil := rfl
@[simp] theorem State.raiseWith_keys (y : Bool) (x : Nat) (d : EventDef) (a b : Nat) :
    (s.raiseWith y x d a b).keys = s.keys := rfl
@[simp] theorem State.raiseWith_life (y : Bool) (x : Nat) (d : EventDef) (a b : Nat) :
    (s.raiseWith y x d a b).life = s.life := rfl
@[simp] theorem State.raiseWith_supply (y : Bool) (x : Nat) (d : EventDef) (a b : Nat) :
    (s.raiseWith y x d a b).supply = s.supply := rfl
@[simp] theorem State.raiseWith_dev (y : Bool) (x : Nat) (d : EventDef) (a b : Nat) :
    (s.raiseWith y x d a b).dev = s.dev := rfl
@[simp] theorem State.raiseWith_rd (y : Bool) (x : Nat) (d : EventDef) (a b : Nat) (i : EntryDef) (p q : Nat) :
    (s.raiseWith y x d a b).rd i p q = s.rd i p q := rfl
@[simp] theorem State.raiseWith_flag (y : Bool) (x : Nat) (d : EventDef) (a b : Nat) (i : EntryDef) (p q : Nat) :
    (s.raiseWith y x d a b).flag i p q = s.flag i p q := rfl
@[simp] theorem State.raiseWith_rdInt (y : Bool) (x : Nat) (d : EventDef) (a b : Nat) (i : EntryDef) (p q : Nat) :
    (s.raiseWith y x d a b).rdInt i p q = s.rdInt i p q := rfl
@[simp] theorem State.raiseWith_dom (y : Bool) (x : Nat) (d : EventDef) (a b : Nat) (i : EntryDef) (p q : Nat) :
    (s.raiseWith y x d a b).dom i p q = s.dom i p q := rfl
@[simp] theorem State.raiseWith_floor (y : Bool) (x : Nat) (d : EventDef) (a b : Nat) :
    (s.raiseWith y x d a b).floor = s.floor := rfl
@[simp] theorem State.raiseWith_devState (y : Bool) (x : Nat) (d : EventDef) (a b : Nat) :
    (s.raiseWith y x d a b).devState = s.devState := rfl
@[simp] theorem State.raiseWith_dictUp (y : Bool) (x : Nat) (d : EventDef) (a b : Nat) :
    (s.raiseWith y x d a b).dictUp = s.dictUp := rfl
@[simp] theorem State.raiseWith_alive (y : Bool) (x : Nat) (d : EventDef) (a b : Nat) :
    (s.raiseWith y x d a b).alive = s.alive := rfl
@[simp] theorem State.raiseWith_hostByte (y : Bool) (x : Nat) (d : EventDef) (a b : Nat) (p : Nat) :
    (s.raiseWith y x d a b).hostByte p = s.hostByte p := rfl
@[simp] theorem State.raiseWith_sessAt (y : Bool) (x : Nat) (d : EventDef) (a b : Nat) (p : Nat) :
    (s.raiseWith y x d a b).sessAt p = s.sessAt p := rfl
@[simp] theorem State.raiseWith_canAt (y : Bool) (x : Nat) (d : EventDef) (a b : Nat) (p : Nat) :
    (s.raiseWith y x d a b).canAt p = s.canAt p := rfl
@[simp] theorem State.raiseWith_engineAt (y : Bool) (x : Nat) (d : EventDef) (a b : Nat) (p : Nat) :
    (s.raiseWith y x d a b).engineAt p = s.engineAt p := rfl
@[simp] theorem State.raiseWith_inputAt (y : Bool) (x : Nat) (d : EventDef) (a b : Nat) (p : Nat) :
    (s.raiseWith y x d a b).inputAt p = s.inputAt p := rfl
@[simp] theorem State.raiseWith_hostAt (y : Bool) (x : Nat) (d : EventDef) (a b : Nat) (p : Nat) :
    (s.raiseWith y x d a b).hostAt p = s.hostAt p := rfl
@[simp] theorem State.raiseWith_playerAt (y : Bool) (x : Nat) (d : EventDef) (a b : Nat) (p : Nat) :
    (s.raiseWith y x d a b).playerAt p = s.playerAt p := rfl
@[simp] theorem State.raiseWith_layerAt (y : Bool) (x : Nat) (d : EventDef) (a b : Nat) (p : Nat) :
    (s.raiseWith y x d a b).layerAt p = s.layerAt p := rfl
@[simp] theorem State.raiseWith_canvasAt (y : Bool) (x : Nat) (d : EventDef) (a b : Nat) (p : Nat) :
    (s.raiseWith y x d a b).canvasAt p = s.canvasAt p := rfl
@[simp] theorem State.raiseWith_headAt (y : Bool) (x : Nat) (d : EventDef) (a b : Nat) (p : Nat) :
    (s.raiseWith y x d a b).headAt p = s.headAt p := rfl
@[simp] theorem State.raiseWith_ulaneAt (y : Bool) (x : Nat) (d : EventDef) (a b : Nat) (p : Nat) :
    (s.raiseWith y x d a b).ulaneAt p = s.ulaneAt p := rfl
@[simp] theorem State.raiseWith_dlaneAt (y : Bool) (x : Nat) (d : EventDef) (a b : Nat) (p : Nat) :
    (s.raiseWith y x d a b).dlaneAt p = s.dlaneAt p := rfl
@[simp] theorem State.raiseWith_groupAt (y : Bool) (x : Nat) (d : EventDef) (a b : Nat) (p : Nat) :
    (s.raiseWith y x d a b).groupAt p = s.groupAt p := rfl
@[simp] theorem State.raiseWith_flowAt (y : Bool) (x : Nat) (d : EventDef) (a b : Nat) (p : Nat) :
    (s.raiseWith y x d a b).flowAt p = s.flowAt p := rfl
@[simp] theorem State.raiseWith_tileAt (y : Bool) (x : Nat) (d : EventDef) (a b : Nat) (p : Nat) :
    (s.raiseWith y x d a b).tileAt p = s.tileAt p := rfl
@[simp] theorem State.raiseWith_refAt (y : Bool) (x : Nat) (d : EventDef) (a b : Nat) (p : Nat) :
    (s.raiseWith y x d a b).refAt p = s.refAt p := rfl
@[simp] theorem State.raiseWith_ftgAt (y : Bool) (x : Nat) (d : EventDef) (a b : Nat) (p : Nat) :
    (s.raiseWith y x d a b).ftgAt p = s.ftgAt p := rfl
@[simp] theorem State.raiseWith_channelAt (y : Bool) (x : Nat) (d : EventDef) (a b : Nat) (p : Nat) :
    (s.raiseWith y x d a b).channelAt p = s.channelAt p := rfl
@[simp] theorem State.raiseWith_endpointAt (y : Bool) (x : Nat) (d : EventDef) (a b : Nat) (p : Nat) :
    (s.raiseWith y x d a b).endpointAt p = s.endpointAt p := rfl
@[simp] theorem State.raiseWith_imageBadAt (y : Bool) (x : Nat) (d : EventDef) (a b : Nat) (p : Nat) :
    (s.raiseWith y x d a b).imageBadAt p = s.imageBadAt p := rfl
@[simp] theorem State.raiseWith_activeAt (y : Bool) (x : Nat) (d : EventDef) (a b : Nat) (p : Nat) :
    (s.raiseWith y x d a b).activeAt p = s.activeAt p := rfl
@[simp] theorem State.raiseWith_udpFailAt (y : Bool) (x : Nat) (d : EventDef) (a b : Nat) (p : Nat) :
    (s.raiseWith y x d a b).udpFailAt p = s.udpFailAt p := rfl
@[simp] theorem State.raiseWith_udpLockAt (y : Bool) (x : Nat) (d : EventDef) (a b : Nat) (p : Nat) :
    (s.raiseWith y x d a b).udpLockAt p = s.udpLockAt p := rfl
@[simp] theorem State.raiseWith_droppedAt (y : Bool) (x : Nat) (d : EventDef) (a b : Nat) (p : Nat) :
    (s.raiseWith y x d a b).droppedAt p = s.droppedAt p := rfl
@[simp] theorem State.raiseWith_dropTimeAt (y : Bool) (x : Nat) (d : EventDef) (a b : Nat) (p : Nat) :
    (s.raiseWith y x d a b).dropTimeAt p = s.dropTimeAt p := rfl
@[simp] theorem State.raiseWith_rtpAt (y : Bool) (x : Nat) (d : EventDef) (a b : Nat) (p : Nat) :
    (s.raiseWith y x d a b).rtpAt p = s.rtpAt p := rfl
@[simp] theorem State.raiseWith_imageCrcAt (y : Bool) (x : Nat) (d : EventDef) (a b : Nat) (p : Nat) :
    (s.raiseWith y x d a b).imageCrcAt p = s.imageCrcAt p := rfl
@[simp] theorem State.raiseWith_ptlCounterAt (y : Bool) (x : Nat) (d : EventDef) (a b : Nat) (p : Nat) :
    (s.raiseWith y x d a b).ptlCounterAt p = s.ptlCounterAt p := rfl
@[simp] theorem State.raiseWith_authFailAt (y : Bool) (x : Nat) (d : EventDef) (a b : Nat) (p : Nat) :
    (s.raiseWith y x d a b).authFailAt p = s.authFailAt p := rfl
@[simp] theorem State.raiseWith_scanAt (y : Bool) (x : Nat) (d : EventDef) (a b : Nat) (p : Nat) :
    (s.raiseWith y x d a b).scanAt p = s.scanAt p := rfl
@[simp] theorem State.raiseWith_stageAt (y : Bool) (x : Nat) (d : EventDef) (a b : Nat) (p : Nat) :
    (s.raiseWith y x d a b).stageAt p = s.stageAt p := rfl
@[simp] theorem State.raiseWith_liningAt (y : Bool) (x : Nat) (d : EventDef) (a b : Nat) (p : Nat) :
    (s.raiseWith y x d a b).liningAt p = s.liningAt p := rfl
@[simp] theorem State.raiseWith_routeAt (y : Bool) (x : Nat) (d : EventDef) (a b : Nat) (p : Nat) :
    (s.raiseWith y x d a b).routeAt p = s.routeAt p := rfl
@[simp] theorem State.raiseWith_bankAt (y : Bool) (x : Nat) (d : EventDef) (a b : Nat) (p : Nat) :
    (s.raiseWith y x d a b).bankAt p = s.bankAt p := rfl
@[simp] theorem State.raiseWith_lutAt (y : Bool) (x : Nat) (d : EventDef) (a b : Nat) (p : Nat) :
    (s.raiseWith y x d a b).lutAt p = s.lutAt p := rfl
@[simp] theorem State.raiseWith_lut3dAt (y : Bool) (x : Nat) (d : EventDef) (a b : Nat) (p : Nat) :
    (s.raiseWith y x d a b).lut3dAt p = s.lut3dAt p := rfl
@[simp] theorem State.raiseWith_imageDescAt (y : Bool) (x : Nat) (d : EventDef) (a b : Nat) (p : Nat) :
    (s.raiseWith y x d a b).imageDescAt p = s.imageDescAt p := rfl
@[simp] theorem State.raiseWith_imageDataAt (y : Bool) (x : Nat) (d : EventDef) (a b : Nat) (p : Nat) :
    (s.raiseWith y x d a b).imageDataAt p = s.imageDataAt p := rfl
@[simp] theorem State.raiseWith_tileEntryAt (y : Bool) (x : Nat) (d : EventDef) (a b : Nat) (p : Nat) :
    (s.raiseWith y x d a b).tileEntryAt p = s.tileEntryAt p := rfl
@[simp] theorem State.raiseWith_tileShadowAt (y : Bool) (x : Nat) (d : EventDef) (a b : Nat) (p : Nat) :
    (s.raiseWith y x d a b).tileShadowAt p = s.tileShadowAt p := rfl
@[simp] theorem State.raiseWith_calibAt (y : Bool) (x : Nat) (d : EventDef) (a b : Nat) (p : Nat) :
    (s.raiseWith y x d a b).calibAt p = s.calibAt p := rfl
@[simp] theorem State.raiseWith_calibShadowAt (y : Bool) (x : Nat) (d : EventDef) (a b : Nat) (p : Nat) :
    (s.raiseWith y x d a b).calibShadowAt p = s.calibShadowAt p := rfl
@[simp] theorem State.raiseWith_channelEntryAt (y : Bool) (x : Nat) (d : EventDef) (a b : Nat) (p : Nat) :
    (s.raiseWith y x d a b).channelEntryAt p = s.channelEntryAt p := rfl
@[simp] theorem State.raiseWith_streamEntryAt (y : Bool) (x : Nat) (d : EventDef) (a b : Nat) (p : Nat) :
    (s.raiseWith y x d a b).streamEntryAt p = s.streamEntryAt p := rfl

/-! ### raiseIf -/

@[simp] theorem State.raiseIf_now (c : Bool) (d : EventDef) (a b : Nat) :
    (s.raiseIf c d a b).now = s.now := by unfold State.raiseIf; split <;> rfl
@[simp] theorem State.raiseIf_timebase (c : Bool) (d : EventDef) (a b : Nat) :
    (s.raiseIf c d a b).timebase = s.timebase := by unfold State.raiseIf; split <;> rfl
@[simp] theorem State.raiseIf_dcoRest (c : Bool) (d : EventDef) (a b : Nat) :
    (s.raiseIf c d a b).dcoRest = s.dcoRest := by unfold State.raiseIf; split <;> rfl
@[simp] theorem State.raiseIf_pending (c : Bool) (d : EventDef) (a b : Nat) :
    (s.raiseIf c d a b).pending = s.pending := by unfold State.raiseIf; split <;> rfl
@[simp] theorem State.raiseIf_actor (c : Bool) (d : EventDef) (a b : Nat) :
    (s.raiseIf c d a b).actor = s.actor := by unfold State.raiseIf; split <;> rfl
@[simp] theorem State.raiseIf_tap (c : Bool) (d : EventDef) (a b : Nat) :
    (s.raiseIf c d a b).tap = s.tap := by unfold State.raiseIf; split <;> rfl
@[simp] theorem State.raiseIf_regs (c : Bool) (d : EventDef) (a b : Nat) :
    (s.raiseIf c d a b).regs = s.regs := by unfold State.raiseIf; split <;> rfl
@[simp] theorem State.raiseIf_shadow (c : Bool) (d : EventDef) (a b : Nat) :
    (s.raiseIf c d a b).shadow = s.shadow := by unfold State.raiseIf; split <;> rfl
@[simp] theorem State.raiseIf_doms (c : Bool) (d : EventDef) (a b : Nat) :
    (s.raiseIf c d a b).doms = s.doms := by unfold State.raiseIf; split <;> rfl
@[simp] theorem State.raiseIf_shadowDoms (c : Bool) (d : EventDef) (a b : Nat) :
    (s.raiseIf c d a b).shadowDoms = s.shadowDoms := by unfold State.raiseIf; split <;> rfl
@[simp] theorem State.raiseIf_minSeverityDefault (c : Bool) (d : EventDef) (a b : Nat) :
    (s.raiseIf c d a b).minSeverityDefault = s.minSeverityDefault := by unfold State.raiseIf; split <;> rfl
@[simp] theorem State.raiseIf_sess (c : Bool) (d : EventDef) (a b : Nat) :
    (s.raiseIf c d a b).sess = s.sess := by unfold State.raiseIf; split <;> rfl
@[simp] theorem State.raiseIf_spi (c : Bool) (d : EventDef) (a b : Nat) :
    (s.raiseIf c d a b).spi = s.spi := by unfold State.raiseIf; split <;> rfl
@[simp] theorem State.raiseIf_mailbox (c : Bool) (d : EventDef) (a b : Nat) :
    (s.raiseIf c d a b).mailbox = s.mailbox := by unfold State.raiseIf; split <;> rfl
@[simp] theorem State.raiseIf_can (c : Bool) (d : EventDef) (a b : Nat) :
    (s.raiseIf c d a b).can = s.can := by unfold State.raiseIf; split <;> rfl
@[simp] theorem State.raiseIf_tagRejectAt (c : Bool) (d : EventDef) (a b : Nat) :
    (s.raiseIf c d a b).tagRejectAt = s.tagRejectAt := by unfold State.raiseIf; split <;> rfl
@[simp] theorem State.raiseIf_udpFailures (c : Bool) (d : EventDef) (a b : Nat) :
    (s.raiseIf c d a b).udpFailures = s.udpFailures := by unfold State.raiseIf; split <;> rfl
@[simp] theorem State.raiseIf_udpLocked (c : Bool) (d : EventDef) (a b : Nat) :
    (s.raiseIf c d a b).udpLocked = s.udpLocked := by unfold State.raiseIf; split <;> rfl
@[simp] theorem State.raiseIf_draws (c : Bool) (d : EventDef) (a b : Nat) :
    (s.raiseIf c d a b).draws = s.draws := by unfold State.raiseIf; split <;> rfl
@[simp] theorem State.raiseIf_staging (c : Bool) (d : EventDef) (a b : Nat) :
    (s.raiseIf c d a b).staging = s.staging := by unfold State.raiseIf; split <;> rfl
@[simp] theorem State.raiseIf_stagingSess (c : Bool) (d : EventDef) (a b : Nat) :
    (s.raiseIf c d a b).stagingSess = s.stagingSess := by unfold State.raiseIf; split <;> rfl
@[simp] theorem State.raiseIf_copy0 (c : Bool) (d : EventDef) (a b : Nat) :
    (s.raiseIf c d a b).copy0 = s.copy0 := by unfold State.raiseIf; split <;> rfl
@[simp] theorem State.raiseIf_copy1 (c : Bool) (d : EventDef) (a b : Nat) :
    (s.raiseIf c d a b).copy1 = s.copy1 := by unfold State.raiseIf; split <;> rfl
@[simp] theorem State.raiseIf_mgmtWait (c : Bool) (d : EventDef) (a b : Nat) :
    (s.raiseIf c d a b).mgmtWait = s.mgmtWait := by unfold State.raiseIf; split <;> rfl
@[simp] theorem State.raiseIf_gov (c : Bool) (d : EventDef) (a b : Nat) :
    (s.raiseIf c d a b).gov = s.gov := by unfold State.raiseIf; split <;> rfl
@[simp] theorem State.raiseIf_engines (c : Bool) (d : EventDef) (a b : Nat) :
    (s.raiseIf c d a b).engines = s.engines := by unfold State.raiseIf; split <;> rfl
@[simp] theorem State.raiseIf_strips (c : Bool) (d : EventDef) (a b : Nat) :
    (s.raiseIf c d a b).strips = s.strips := by unfold State.raiseIf; split <;> rfl
@[simp] theorem State.raiseIf_inputs (c : Bool) (d : EventDef) (a b : Nat) :
    (s.raiseIf c d a b).inputs = s.inputs := by unfold State.raiseIf; split <;> rfl
@[simp] theorem State.raiseIf_hosts (c : Bool) (d : EventDef) (a b : Nat) :
    (s.raiseIf c d a b).hosts = s.hosts := by unfold State.raiseIf; split <;> rfl
@[simp] theorem State.raiseIf_players (c : Bool) (d : EventDef) (a b : Nat) :
    (s.raiseIf c d a b).players = s.players := by unfold State.raiseIf; split <;> rfl
@[simp] theorem State.raiseIf_layers (c : Bool) (d : EventDef) (a b : Nat) :
    (s.raiseIf c d a b).layers = s.layers := by unfold State.raiseIf; split <;> rfl
@[simp] theorem State.raiseIf_canvases (c : Bool) (d : EventDef) (a b : Nat) :
    (s.raiseIf c d a b).canvases = s.canvases := by unfold State.raiseIf; split <;> rfl
@[simp] theorem State.raiseIf_heads (c : Bool) (d : EventDef) (a b : Nat) :
    (s.raiseIf c d a b).heads = s.heads := by unfold State.raiseIf; split <;> rfl
@[simp] theorem State.raiseIf_validating (c : Bool) (d : EventDef) (a b : Nat) :
    (s.raiseIf c d a b).validating = s.validating := by unfold State.raiseIf; split <;> rfl
@[simp] theorem State.raiseIf_pendingCommits (c : Bool) (d : EventDef) (a b : Nat) :
    (s.raiseIf c d a b).pendingCommits = s.pendingCommits := by unfold State.raiseIf; split <;> rfl
@[simp] theorem State.raiseIf_deferredWrites (c : Bool) (d : EventDef) (a b : Nat) :
    (s.raiseIf c d a b).deferredWrites = s.deferredWrites := by unfold State.raiseIf; split <;> rfl
@[simp] theorem State.raiseIf_ulanes (c : Bool) (d : EventDef) (a b : Nat) :
    (s.raiseIf c d a b).ulanes = s.ulanes := by unfold State.raiseIf; split <;> rfl
@[simp] theorem State.raiseIf_dlanes (c : Bool) (d : EventDef) (a b : Nat) :
    (s.raiseIf c d a b).dlanes = s.dlanes := by unfold State.raiseIf; split <;> rfl
@[simp] theorem State.raiseIf_groups (c : Bool) (d : EventDef) (a b : Nat) :
    (s.raiseIf c d a b).groups = s.groups := by unfold State.raiseIf; split <;> rfl
@[simp] theorem State.raiseIf_fecTimes (c : Bool) (d : EventDef) (a b : Nat) :
    (s.raiseIf c d a b).fecTimes = s.fecTimes := by unfold State.raiseIf; split <;> rfl
@[simp] theorem State.raiseIf_routes (c : Bool) (d : EventDef) (a b : Nat) :
    (s.raiseIf c d a b).routes = s.routes := by unfold State.raiseIf; split <;> rfl
@[simp] theorem State.raiseIf_activeEntry (c : Bool) (d : EventDef) (a b : Nat) :
    (s.raiseIf c d a b).activeEntry = s.activeEntry := by unfold State.raiseIf; split <;> rfl
@[simp] theorem State.raiseIf_flows (c : Bool) (d : EventDef) (a b : Nat) :
    (s.raiseIf c d a b).flows = s.flows := by unfold State.raiseIf; split <;> rfl
@[simp] theorem State.raiseIf_switches (c : Bool) (d : EventDef) (a b : Nat) :
    (s.raiseIf c d a b).switches = s.switches := by unfold State.raiseIf; split <;> rfl
@[simp] theorem State.raiseIf_switchedAt (c : Bool) (d : EventDef) (a b : Nat) :
    (s.raiseIf c d a b).switchedAt = s.switchedAt := by unfold State.raiseIf; split <;> rfl
@[simp] theorem State.raiseIf_dropCount (c : Bool) (d : EventDef) (a b : Nat) :
    (s.raiseIf c d a b).dropCount = s.dropCount := by unfold State.raiseIf; split <;> rfl
@[simp] theorem State.raiseIf_dropAt (c : Bool) (d : EventDef) (a b : Nat) :
    (s.raiseIf c d a b).dropAt = s.dropAt := by unfold State.raiseIf; split <;> rfl
@[simp] theorem State.raiseIf_rtpSeq (c : Bool) (d : EventDef) (a b : Nat) :
    (s.raiseIf c d a b).rtpSeq = s.rtpSeq := by unfold State.raiseIf; split <;> rfl
@[simp] theorem State.raiseIf_banks (c : Bool) (d : EventDef) (a b : Nat) :
    (s.raiseIf c d a b).banks = s.banks := by unfold State.raiseIf; split <;> rfl
@[simp] theorem State.raiseIf_luts (c : Bool) (d : EventDef) (a b : Nat) :
    (s.raiseIf c d a b).luts = s.luts := by unfold State.raiseIf; split <;> rfl
@[simp] theorem State.raiseIf_luts3d (c : Bool) (d : EventDef) (a b : Nat) :
    (s.raiseIf c d a b).luts3d = s.luts3d := by unfold State.raiseIf; split <;> rfl
@[simp] theorem State.raiseIf_imageDesc (c : Bool) (d : EventDef) (a b : Nat) :
    (s.raiseIf c d a b).imageDesc = s.imageDesc := by unfold State.raiseIf; split <;> rfl
@[simp] theorem State.raiseIf_imageData (c : Bool) (d : EventDef) (a b : Nat) :
    (s.raiseIf c d a b).imageData = s.imageData := by unfold State.raiseIf; split <;> rfl
@[simp] theorem State.raiseIf_imageCrc (c : Bool) (d : EventDef) (a b : Nat) :
    (s.raiseIf c d a b).imageCrc = s.imageCrc := by unfold State.raiseIf; split <;> rfl
@[simp] theorem State.raiseIf_imageBad (c : Bool) (d : EventDef) (a b : Nat) :
    (s.raiseIf c d a b).imageBad = s.imageBad := by unfold State.raiseIf; split <;> rfl
@[simp] theorem State.raiseIf_tileMap (c : Bool) (d : EventDef) (a b : Nat) :
    (s.raiseIf c d a b).tileMap = s.tileMap := by unfold State.raiseIf; split <;> rfl
@[simp] theorem State.raiseIf_tileShadow (c : Bool) (d : EventDef) (a b : Nat) :
    (s.raiseIf c d a b).tileShadow = s.tileShadow := by unfold State.raiseIf; split <;> rfl
@[simp] theorem State.raiseIf_calib (c : Bool) (d : EventDef) (a b : Nat) :
    (s.raiseIf c d a b).calib = s.calib := by unfold State.raiseIf; split <;> rfl
@[simp] theorem State.raiseIf_calibShadow (c : Bool) (d : EventDef) (a b : Nat) :
    (s.raiseIf c d a b).calibShadow = s.calibShadow := by unfold State.raiseIf; split <;> rfl
@[simp] theorem State.raiseIf_tiles (c : Bool) (d : EventDef) (a b : Nat) :
    (s.raiseIf c d a b).tiles = s.tiles := by unfold State.raiseIf; split <;> rfl
@[simp] theorem State.raiseIf_ptl (c : Bool) (d : EventDef) (a b : Nat) :
    (s.raiseIf c d a b).ptl = s.ptl := by unfold State.raiseIf; split <;> rfl
@[simp] theorem State.raiseIf_ptlCounters (c : Bool) (d : EventDef) (a b : Nat) :
    (s.raiseIf c d a b).ptlCounters = s.ptlCounters := by unfold State.raiseIf; split <;> rfl
@[simp] theorem State.raiseIf_authFailTimes (c : Bool) (d : EventDef) (a b : Nat) :
    (s.raiseIf c d a b).authFailTimes = s.authFailTimes := by unfold State.raiseIf; split <;> rfl
@[simp] theorem State.raiseIf_hentis (c : Bool) (d : EventDef) (a b : Nat) :
    (s.raiseIf c d a b).hentis = s.hentis := by unfold State.raiseIf; split <;> rfl
@[simp] theorem State.raiseIf_refs (c : Bool) (d : EventDef) (a b : Nat) :
    (s.raiseIf c d a b).refs = s.refs := by unfold State.raiseIf; split <;> rfl
@[simp] theorem State.raiseIf_ftgs (c : Bool) (d : EventDef) (a b : Nat) :
    (s.raiseIf c d a b).ftgs = s.ftgs := by unfold State.raiseIf; split <;> rfl
@[simp] theorem State.raiseIf_audio (c : Bool) (d : EventDef) (a b : Nat) :
    (s.raiseIf c d a b).audio = s.audio := by unfold State.raiseIf; split <;> rfl
@[simp] theorem State.raiseIf_channelTable (c : Bool) (d : EventDef) (a b : Nat) :
    (s.raiseIf c d a b).channelTable = s.channelTable := by unfold State.raiseIf; split <;> rfl
@[simp] theorem State.raiseIf_streamTable (c : Bool) (d : EventDef) (a b : Nat) :
    (s.raiseIf c d a b).streamTable = s.streamTable := by unfold State.raiseIf; split <;> rfl
@[simp] theorem State.raiseIf_channels (c : Bool) (d : EventDef) (a b : Nat) :
    (s.raiseIf c d a b).channels = s.channels := by unfold State.raiseIf; split <;> rfl
@[simp] theorem State.raiseIf_endpoints (c : Bool) (d : EventDef) (a b : Nat) :
    (s.raiseIf c d a b).endpoints = s.endpoints := by unfold State.raiseIf; split <;> rfl
@[simp] theorem State.raiseIf_dram (c : Bool) (d : EventDef) (a b : Nat) :
    (s.raiseIf c d a b).dram = s.dram := by unfold State.raiseIf; split <;> rfl
@[simp] theorem State.raiseIf_scanAlloc (c : Bool) (d : EventDef) (a b : Nat) :
    (s.raiseIf c d a b).scanAlloc = s.scanAlloc := by unfold State.raiseIf; split <;> rfl
@[simp] theorem State.raiseIf_stageAlloc (c : Bool) (d : EventDef) (a b : Nat) :
    (s.raiseIf c d a b).stageAlloc = s.stageAlloc := by unfold State.raiseIf; split <;> rfl
@[simp] theorem State.raiseIf_liningAlloc (c : Bool) (d : EventDef) (a b : Nat) :
    (s.raiseIf c d a b).liningAlloc = s.liningAlloc := by unfold State.raiseIf; split <;> rfl
@[simp] theorem State.raiseIf_liningLostKib (c : Bool) (d : EventDef) (a b : Nat) :
    (s.raiseIf c d a b).liningLostKib = s.liningLostKib := by unfold State.raiseIf; split <;> rfl
@[simp] theorem State.raiseIf_pocket (c : Bool) (d : EventDef) (a b : Nat) :
    (s.raiseIf c d a b).pocket = s.pocket := by unfold State.raiseIf; split <;> rfl
@[simp] theorem State.raiseIf_resil (c : Bool) (d : EventDef) (a b : Nat) :
    (s.raiseIf c d a b).resil = s.resil := by unfold State.raiseIf; split <;> rfl
@[simp] theorem State.raiseIf_keys (c : Bool) (d : EventDef) (a b : Nat) :
    (s.raiseIf c d a b).keys = s.keys := by unfold State.raiseIf; split <;> rfl
@[simp] theorem State.raiseIf_life (c : Bool) (d : EventDef) (a b : Nat) :
    (s.raiseIf c d a b).life = s.life := by unfold State.raiseIf; split <;> rfl
@[simp] theorem State.raiseIf_supply (c : Bool) (d : EventDef) (a b : Nat) :
    (s.raiseIf c d a b).supply = s.supply := by unfold State.raiseIf; split <;> rfl
@[simp] theorem State.raiseIf_dev (c : Bool) (d : EventDef) (a b : Nat) :
    (s.raiseIf c d a b).dev = s.dev := by unfold State.raiseIf; split <;> rfl
@[simp] theorem State.raiseIf_rd (c : Bool) (d : EventDef) (a b : Nat) (i : EntryDef) (p q : Nat) :
    (s.raiseIf c d a b).rd i p q = s.rd i p q := by unfold State.raiseIf; split <;> rfl
@[simp] theorem State.raiseIf_flag (c : Bool) (d : EventDef) (a b : Nat) (i : EntryDef) (p q : Nat) :
    (s.raiseIf c d a b).flag i p q = s.flag i p q := by unfold State.raiseIf; split <;> rfl
@[simp] theorem State.raiseIf_rdInt (c : Bool) (d : EventDef) (a b : Nat) (i : EntryDef) (p q : Nat) :
    (s.raiseIf c d a b).rdInt i p q = s.rdInt i p q := by unfold State.raiseIf; split <;> rfl
@[simp] theorem State.raiseIf_dom (c : Bool) (d : EventDef) (a b : Nat) (i : EntryDef) (p q : Nat) :
    (s.raiseIf c d a b).dom i p q = s.dom i p q := by unfold State.raiseIf; split <;> rfl
@[simp] theorem State.raiseIf_floor (c : Bool) (d : EventDef) (a b : Nat) :
    (s.raiseIf c d a b).floor = s.floor := by unfold State.raiseIf; split <;> rfl
@[simp] theorem State.raiseIf_devState (c : Bool) (d : EventDef) (a b : Nat) :
    (s.raiseIf c d a b).devState = s.devState := by unfold State.raiseIf; split <;> rfl
@[simp] theorem State.raiseIf_dictUp (c : Bool) (d : EventDef) (a b : Nat) :
    (s.raiseIf c d a b).dictUp = s.dictUp := by unfold State.raiseIf; split <;> rfl
@[simp] theorem State.raiseIf_alive (c : Bool) (d : EventDef) (a b : Nat) :
    (s.raiseIf c d a b).alive = s.alive := by unfold State.raiseIf; split <;> rfl
@[simp] theorem State.raiseIf_hostByte (c : Bool) (d : EventDef) (a b : Nat) (p : Nat) :
    (s.raiseIf c d a b).hostByte p = s.hostByte p := by unfold State.raiseIf; split <;> rfl
@[simp] theorem State.raiseIf_sessAt (c : Bool) (d : EventDef) (a b : Nat) (p : Nat) :
    (s.raiseIf c d a b).sessAt p = s.sessAt p := by unfold State.raiseIf; split <;> rfl
@[simp] theorem State.raiseIf_canAt (c : Bool) (d : EventDef) (a b : Nat) (p : Nat) :
    (s.raiseIf c d a b).canAt p = s.canAt p := by unfold State.raiseIf; split <;> rfl
@[simp] theorem State.raiseIf_engineAt (c : Bool) (d : EventDef) (a b : Nat) (p : Nat) :
    (s.raiseIf c d a b).engineAt p = s.engineAt p := by unfold State.raiseIf; split <;> rfl
@[simp] theorem State.raiseIf_inputAt (c : Bool) (d : EventDef) (a b : Nat) (p : Nat) :
    (s.raiseIf c d a b).inputAt p = s.inputAt p := by unfold State.raiseIf; split <;> rfl
@[simp] theorem State.raiseIf_hostAt (c : Bool) (d : EventDef) (a b : Nat) (p : Nat) :
    (s.raiseIf c d a b).hostAt p = s.hostAt p := by unfold State.raiseIf; split <;> rfl
@[simp] theorem State.raiseIf_playerAt (c : Bool) (d : EventDef) (a b : Nat) (p : Nat) :
    (s.raiseIf c d a b).playerAt p = s.playerAt p := by unfold State.raiseIf; split <;> rfl
@[simp] theorem State.raiseIf_layerAt (c : Bool) (d : EventDef) (a b : Nat) (p : Nat) :
    (s.raiseIf c d a b).layerAt p = s.layerAt p := by unfold State.raiseIf; split <;> rfl
@[simp] theorem State.raiseIf_canvasAt (c : Bool) (d : EventDef) (a b : Nat) (p : Nat) :
    (s.raiseIf c d a b).canvasAt p = s.canvasAt p := by unfold State.raiseIf; split <;> rfl
@[simp] theorem State.raiseIf_headAt (c : Bool) (d : EventDef) (a b : Nat) (p : Nat) :
    (s.raiseIf c d a b).headAt p = s.headAt p := by unfold State.raiseIf; split <;> rfl
@[simp] theorem State.raiseIf_ulaneAt (c : Bool) (d : EventDef) (a b : Nat) (p : Nat) :
    (s.raiseIf c d a b).ulaneAt p = s.ulaneAt p := by unfold State.raiseIf; split <;> rfl
@[simp] theorem State.raiseIf_dlaneAt (c : Bool) (d : EventDef) (a b : Nat) (p : Nat) :
    (s.raiseIf c d a b).dlaneAt p = s.dlaneAt p := by unfold State.raiseIf; split <;> rfl
@[simp] theorem State.raiseIf_groupAt (c : Bool) (d : EventDef) (a b : Nat) (p : Nat) :
    (s.raiseIf c d a b).groupAt p = s.groupAt p := by unfold State.raiseIf; split <;> rfl
@[simp] theorem State.raiseIf_flowAt (c : Bool) (d : EventDef) (a b : Nat) (p : Nat) :
    (s.raiseIf c d a b).flowAt p = s.flowAt p := by unfold State.raiseIf; split <;> rfl
@[simp] theorem State.raiseIf_tileAt (c : Bool) (d : EventDef) (a b : Nat) (p : Nat) :
    (s.raiseIf c d a b).tileAt p = s.tileAt p := by unfold State.raiseIf; split <;> rfl
@[simp] theorem State.raiseIf_refAt (c : Bool) (d : EventDef) (a b : Nat) (p : Nat) :
    (s.raiseIf c d a b).refAt p = s.refAt p := by unfold State.raiseIf; split <;> rfl
@[simp] theorem State.raiseIf_ftgAt (c : Bool) (d : EventDef) (a b : Nat) (p : Nat) :
    (s.raiseIf c d a b).ftgAt p = s.ftgAt p := by unfold State.raiseIf; split <;> rfl
@[simp] theorem State.raiseIf_channelAt (c : Bool) (d : EventDef) (a b : Nat) (p : Nat) :
    (s.raiseIf c d a b).channelAt p = s.channelAt p := by unfold State.raiseIf; split <;> rfl
@[simp] theorem State.raiseIf_endpointAt (c : Bool) (d : EventDef) (a b : Nat) (p : Nat) :
    (s.raiseIf c d a b).endpointAt p = s.endpointAt p := by unfold State.raiseIf; split <;> rfl
@[simp] theorem State.raiseIf_imageBadAt (c : Bool) (d : EventDef) (a b : Nat) (p : Nat) :
    (s.raiseIf c d a b).imageBadAt p = s.imageBadAt p := by unfold State.raiseIf; split <;> rfl
@[simp] theorem State.raiseIf_activeAt (c : Bool) (d : EventDef) (a b : Nat) (p : Nat) :
    (s.raiseIf c d a b).activeAt p = s.activeAt p := by unfold State.raiseIf; split <;> rfl
@[simp] theorem State.raiseIf_udpFailAt (c : Bool) (d : EventDef) (a b : Nat) (p : Nat) :
    (s.raiseIf c d a b).udpFailAt p = s.udpFailAt p := by unfold State.raiseIf; split <;> rfl
@[simp] theorem State.raiseIf_udpLockAt (c : Bool) (d : EventDef) (a b : Nat) (p : Nat) :
    (s.raiseIf c d a b).udpLockAt p = s.udpLockAt p := by unfold State.raiseIf; split <;> rfl
@[simp] theorem State.raiseIf_droppedAt (c : Bool) (d : EventDef) (a b : Nat) (p : Nat) :
    (s.raiseIf c d a b).droppedAt p = s.droppedAt p := by unfold State.raiseIf; split <;> rfl
@[simp] theorem State.raiseIf_dropTimeAt (c : Bool) (d : EventDef) (a b : Nat) (p : Nat) :
    (s.raiseIf c d a b).dropTimeAt p = s.dropTimeAt p := by unfold State.raiseIf; split <;> rfl
@[simp] theorem State.raiseIf_rtpAt (c : Bool) (d : EventDef) (a b : Nat) (p : Nat) :
    (s.raiseIf c d a b).rtpAt p = s.rtpAt p := by unfold State.raiseIf; split <;> rfl
@[simp] theorem State.raiseIf_imageCrcAt (c : Bool) (d : EventDef) (a b : Nat) (p : Nat) :
    (s.raiseIf c d a b).imageCrcAt p = s.imageCrcAt p := by unfold State.raiseIf; split <;> rfl
@[simp] theorem State.raiseIf_ptlCounterAt (c : Bool) (d : EventDef) (a b : Nat) (p : Nat) :
    (s.raiseIf c d a b).ptlCounterAt p = s.ptlCounterAt p := by unfold State.raiseIf; split <;> rfl
@[simp] theorem State.raiseIf_authFailAt (c : Bool) (d : EventDef) (a b : Nat) (p : Nat) :
    (s.raiseIf c d a b).authFailAt p = s.authFailAt p := by unfold State.raiseIf; split <;> rfl
@[simp] theorem State.raiseIf_scanAt (c : Bool) (d : EventDef) (a b : Nat) (p : Nat) :
    (s.raiseIf c d a b).scanAt p = s.scanAt p := by unfold State.raiseIf; split <;> rfl
@[simp] theorem State.raiseIf_stageAt (c : Bool) (d : EventDef) (a b : Nat) (p : Nat) :
    (s.raiseIf c d a b).stageAt p = s.stageAt p := by unfold State.raiseIf; split <;> rfl
@[simp] theorem State.raiseIf_liningAt (c : Bool) (d : EventDef) (a b : Nat) (p : Nat) :
    (s.raiseIf c d a b).liningAt p = s.liningAt p := by unfold State.raiseIf; split <;> rfl
@[simp] theorem State.raiseIf_routeAt (c : Bool) (d : EventDef) (a b : Nat) (p : Nat) :
    (s.raiseIf c d a b).routeAt p = s.routeAt p := by unfold State.raiseIf; split <;> rfl
@[simp] theorem State.raiseIf_bankAt (c : Bool) (d : EventDef) (a b : Nat) (p : Nat) :
    (s.raiseIf c d a b).bankAt p = s.bankAt p := by unfold State.raiseIf; split <;> rfl
@[simp] theorem State.raiseIf_lutAt (c : Bool) (d : EventDef) (a b : Nat) (p : Nat) :
    (s.raiseIf c d a b).lutAt p = s.lutAt p := by unfold State.raiseIf; split <;> rfl
@[simp] theorem State.raiseIf_lut3dAt (c : Bool) (d : EventDef) (a b : Nat) (p : Nat) :
    (s.raiseIf c d a b).lut3dAt p = s.lut3dAt p := by unfold State.raiseIf; split <;> rfl
@[simp] theorem State.raiseIf_imageDescAt (c : Bool) (d : EventDef) (a b : Nat) (p : Nat) :
    (s.raiseIf c d a b).imageDescAt p = s.imageDescAt p := by unfold State.raiseIf; split <;> rfl
@[simp] theorem State.raiseIf_imageDataAt (c : Bool) (d : EventDef) (a b : Nat) (p : Nat) :
    (s.raiseIf c d a b).imageDataAt p = s.imageDataAt p := by unfold State.raiseIf; split <;> rfl
@[simp] theorem State.raiseIf_tileEntryAt (c : Bool) (d : EventDef) (a b : Nat) (p : Nat) :
    (s.raiseIf c d a b).tileEntryAt p = s.tileEntryAt p := by unfold State.raiseIf; split <;> rfl
@[simp] theorem State.raiseIf_tileShadowAt (c : Bool) (d : EventDef) (a b : Nat) (p : Nat) :
    (s.raiseIf c d a b).tileShadowAt p = s.tileShadowAt p := by unfold State.raiseIf; split <;> rfl
@[simp] theorem State.raiseIf_calibAt (c : Bool) (d : EventDef) (a b : Nat) (p : Nat) :
    (s.raiseIf c d a b).calibAt p = s.calibAt p := by unfold State.raiseIf; split <;> rfl
@[simp] theorem State.raiseIf_calibShadowAt (c : Bool) (d : EventDef) (a b : Nat) (p : Nat) :
    (s.raiseIf c d a b).calibShadowAt p = s.calibShadowAt p := by unfold State.raiseIf; split <;> rfl
@[simp] theorem State.raiseIf_channelEntryAt (c : Bool) (d : EventDef) (a b : Nat) (p : Nat) :
    (s.raiseIf c d a b).channelEntryAt p = s.channelEntryAt p := by unfold State.raiseIf; split <;> rfl
@[simp] theorem State.raiseIf_streamEntryAt (c : Bool) (d : EventDef) (a b : Nat) (p : Nat) :
    (s.raiseIf c d a b).streamEntryAt p = s.streamEntryAt p := by unfold State.raiseIf; split <;> rfl

/-! ### setHostByte -/

@[simp] theorem State.setHostByte_now (a : Nat) (b : Byte) :
    (s.setHostByte a b).now = s.now := rfl
@[simp] theorem State.setHostByte_timebase (a : Nat) (b : Byte) :
    (s.setHostByte a b).timebase = s.timebase := rfl
@[simp] theorem State.setHostByte_dcoRest (a : Nat) (b : Byte) :
    (s.setHostByte a b).dcoRest = s.dcoRest := rfl
@[simp] theorem State.setHostByte_pending (a : Nat) (b : Byte) :
    (s.setHostByte a b).pending = s.pending := rfl
@[simp] theorem State.setHostByte_wire (a : Nat) (b : Byte) :
    (s.setHostByte a b).wire = s.wire := rfl
@[simp] theorem State.setHostByte_actor (a : Nat) (b : Byte) :
    (s.setHostByte a b).actor = s.actor := rfl
@[simp] theorem State.setHostByte_tap (a : Nat) (b : Byte) :
    (s.setHostByte a b).tap = s.tap := rfl
@[simp] theorem State.setHostByte_regs (a : Nat) (b : Byte) :
    (s.setHostByte a b).regs = s.regs := rfl
@[simp] theorem State.setHostByte_shadow (a : Nat) (b : Byte) :
    (s.setHostByte a b).shadow = s.shadow := rfl
@[simp] theorem State.setHostByte_doms (a : Nat) (b : Byte) :
    (s.setHostByte a b).doms = s.doms := rfl
@[simp] theorem State.setHostByte_shadowDoms (a : Nat) (b : Byte) :
    (s.setHostByte a b).shadowDoms = s.shadowDoms := rfl
@[simp] theorem State.setHostByte_minSeverityDefault (a : Nat) (b : Byte) :
    (s.setHostByte a b).minSeverityDefault = s.minSeverityDefault := rfl
@[simp] theorem State.setHostByte_sess (a : Nat) (b : Byte) :
    (s.setHostByte a b).sess = s.sess := rfl
@[simp] theorem State.setHostByte_ev (a : Nat) (b : Byte) :
    (s.setHostByte a b).ev = s.ev := rfl
@[simp] theorem State.setHostByte_spi (a : Nat) (b : Byte) :
    (s.setHostByte a b).spi = s.spi := rfl
@[simp] theorem State.setHostByte_mailbox (a : Nat) (b : Byte) :
    (s.setHostByte a b).mailbox = s.mailbox := rfl
@[simp] theorem State.setHostByte_can (a : Nat) (b : Byte) :
    (s.setHostByte a b).can = s.can := rfl
@[simp] theorem State.setHostByte_tagRejectAt (a : Nat) (b : Byte) :
    (s.setHostByte a b).tagRejectAt = s.tagRejectAt := rfl
@[simp] theorem State.setHostByte_udpFailures (a : Nat) (b : Byte) :
    (s.setHostByte a b).udpFailures = s.udpFailures := rfl
@[simp] theorem State.setHostByte_udpLocked (a : Nat) (b : Byte) :
    (s.setHostByte a b).udpLocked = s.udpLocked := rfl
@[simp] theorem State.setHostByte_draws (a : Nat) (b : Byte) :
    (s.setHostByte a b).draws = s.draws := rfl
@[simp] theorem State.setHostByte_staging (a : Nat) (b : Byte) :
    (s.setHostByte a b).staging = s.staging := rfl
@[simp] theorem State.setHostByte_stagingSess (a : Nat) (b : Byte) :
    (s.setHostByte a b).stagingSess = s.stagingSess := rfl
@[simp] theorem State.setHostByte_copy0 (a : Nat) (b : Byte) :
    (s.setHostByte a b).copy0 = s.copy0 := rfl
@[simp] theorem State.setHostByte_copy1 (a : Nat) (b : Byte) :
    (s.setHostByte a b).copy1 = s.copy1 := rfl
@[simp] theorem State.setHostByte_mgmtWait (a : Nat) (b : Byte) :
    (s.setHostByte a b).mgmtWait = s.mgmtWait := rfl
@[simp] theorem State.setHostByte_gov (a : Nat) (b : Byte) :
    (s.setHostByte a b).gov = s.gov := rfl
@[simp] theorem State.setHostByte_engines (a : Nat) (b : Byte) :
    (s.setHostByte a b).engines = s.engines := rfl
@[simp] theorem State.setHostByte_strips (a : Nat) (b : Byte) :
    (s.setHostByte a b).strips = s.strips := rfl
@[simp] theorem State.setHostByte_inputs (a : Nat) (b : Byte) :
    (s.setHostByte a b).inputs = s.inputs := rfl
@[simp] theorem State.setHostByte_hosts (a : Nat) (b : Byte) :
    (s.setHostByte a b).hosts = s.hosts := rfl
@[simp] theorem State.setHostByte_players (a : Nat) (b : Byte) :
    (s.setHostByte a b).players = s.players := rfl
@[simp] theorem State.setHostByte_layers (a : Nat) (b : Byte) :
    (s.setHostByte a b).layers = s.layers := rfl
@[simp] theorem State.setHostByte_canvases (a : Nat) (b : Byte) :
    (s.setHostByte a b).canvases = s.canvases := rfl
@[simp] theorem State.setHostByte_heads (a : Nat) (b : Byte) :
    (s.setHostByte a b).heads = s.heads := rfl
@[simp] theorem State.setHostByte_validating (a : Nat) (b : Byte) :
    (s.setHostByte a b).validating = s.validating := rfl
@[simp] theorem State.setHostByte_pendingCommits (a : Nat) (b : Byte) :
    (s.setHostByte a b).pendingCommits = s.pendingCommits := rfl
@[simp] theorem State.setHostByte_deferredWrites (a : Nat) (b : Byte) :
    (s.setHostByte a b).deferredWrites = s.deferredWrites := rfl
@[simp] theorem State.setHostByte_ulanes (a : Nat) (b : Byte) :
    (s.setHostByte a b).ulanes = s.ulanes := rfl
@[simp] theorem State.setHostByte_dlanes (a : Nat) (b : Byte) :
    (s.setHostByte a b).dlanes = s.dlanes := rfl
@[simp] theorem State.setHostByte_groups (a : Nat) (b : Byte) :
    (s.setHostByte a b).groups = s.groups := rfl
@[simp] theorem State.setHostByte_fecTimes (a : Nat) (b : Byte) :
    (s.setHostByte a b).fecTimes = s.fecTimes := rfl
@[simp] theorem State.setHostByte_routes (a : Nat) (b : Byte) :
    (s.setHostByte a b).routes = s.routes := rfl
@[simp] theorem State.setHostByte_activeEntry (a : Nat) (b : Byte) :
    (s.setHostByte a b).activeEntry = s.activeEntry := rfl
@[simp] theorem State.setHostByte_flows (a : Nat) (b : Byte) :
    (s.setHostByte a b).flows = s.flows := rfl
@[simp] theorem State.setHostByte_switches (a : Nat) (b : Byte) :
    (s.setHostByte a b).switches = s.switches := rfl
@[simp] theorem State.setHostByte_switchedAt (a : Nat) (b : Byte) :
    (s.setHostByte a b).switchedAt = s.switchedAt := rfl
@[simp] theorem State.setHostByte_dropCount (a : Nat) (b : Byte) :
    (s.setHostByte a b).dropCount = s.dropCount := rfl
@[simp] theorem State.setHostByte_dropAt (a : Nat) (b : Byte) :
    (s.setHostByte a b).dropAt = s.dropAt := rfl
@[simp] theorem State.setHostByte_rtpSeq (a : Nat) (b : Byte) :
    (s.setHostByte a b).rtpSeq = s.rtpSeq := rfl
@[simp] theorem State.setHostByte_banks (a : Nat) (b : Byte) :
    (s.setHostByte a b).banks = s.banks := rfl
@[simp] theorem State.setHostByte_luts (a : Nat) (b : Byte) :
    (s.setHostByte a b).luts = s.luts := rfl
@[simp] theorem State.setHostByte_luts3d (a : Nat) (b : Byte) :
    (s.setHostByte a b).luts3d = s.luts3d := rfl
@[simp] theorem State.setHostByte_imageDesc (a : Nat) (b : Byte) :
    (s.setHostByte a b).imageDesc = s.imageDesc := rfl
@[simp] theorem State.setHostByte_imageData (a : Nat) (b : Byte) :
    (s.setHostByte a b).imageData = s.imageData := rfl
@[simp] theorem State.setHostByte_imageCrc (a : Nat) (b : Byte) :
    (s.setHostByte a b).imageCrc = s.imageCrc := rfl
@[simp] theorem State.setHostByte_imageBad (a : Nat) (b : Byte) :
    (s.setHostByte a b).imageBad = s.imageBad := rfl
@[simp] theorem State.setHostByte_tileMap (a : Nat) (b : Byte) :
    (s.setHostByte a b).tileMap = s.tileMap := rfl
@[simp] theorem State.setHostByte_tileShadow (a : Nat) (b : Byte) :
    (s.setHostByte a b).tileShadow = s.tileShadow := rfl
@[simp] theorem State.setHostByte_calib (a : Nat) (b : Byte) :
    (s.setHostByte a b).calib = s.calib := rfl
@[simp] theorem State.setHostByte_calibShadow (a : Nat) (b : Byte) :
    (s.setHostByte a b).calibShadow = s.calibShadow := rfl
@[simp] theorem State.setHostByte_tiles (a : Nat) (b : Byte) :
    (s.setHostByte a b).tiles = s.tiles := rfl
@[simp] theorem State.setHostByte_ptl (a : Nat) (b : Byte) :
    (s.setHostByte a b).ptl = s.ptl := rfl
@[simp] theorem State.setHostByte_ptlCounters (a : Nat) (b : Byte) :
    (s.setHostByte a b).ptlCounters = s.ptlCounters := rfl
@[simp] theorem State.setHostByte_authFailTimes (a : Nat) (b : Byte) :
    (s.setHostByte a b).authFailTimes = s.authFailTimes := rfl
@[simp] theorem State.setHostByte_hentis (a : Nat) (b : Byte) :
    (s.setHostByte a b).hentis = s.hentis := rfl
@[simp] theorem State.setHostByte_refs (a : Nat) (b : Byte) :
    (s.setHostByte a b).refs = s.refs := rfl
@[simp] theorem State.setHostByte_ftgs (a : Nat) (b : Byte) :
    (s.setHostByte a b).ftgs = s.ftgs := rfl
@[simp] theorem State.setHostByte_audio (a : Nat) (b : Byte) :
    (s.setHostByte a b).audio = s.audio := rfl
@[simp] theorem State.setHostByte_channelTable (a : Nat) (b : Byte) :
    (s.setHostByte a b).channelTable = s.channelTable := rfl
@[simp] theorem State.setHostByte_streamTable (a : Nat) (b : Byte) :
    (s.setHostByte a b).streamTable = s.streamTable := rfl
@[simp] theorem State.setHostByte_channels (a : Nat) (b : Byte) :
    (s.setHostByte a b).channels = s.channels := rfl
@[simp] theorem State.setHostByte_endpoints (a : Nat) (b : Byte) :
    (s.setHostByte a b).endpoints = s.endpoints := rfl
@[simp] theorem State.setHostByte_scanAlloc (a : Nat) (b : Byte) :
    (s.setHostByte a b).scanAlloc = s.scanAlloc := rfl
@[simp] theorem State.setHostByte_stageAlloc (a : Nat) (b : Byte) :
    (s.setHostByte a b).stageAlloc = s.stageAlloc := rfl
@[simp] theorem State.setHostByte_liningAlloc (a : Nat) (b : Byte) :
    (s.setHostByte a b).liningAlloc = s.liningAlloc := rfl
@[simp] theorem State.setHostByte_liningLostKib (a : Nat) (b : Byte) :
    (s.setHostByte a b).liningLostKib = s.liningLostKib := rfl
@[simp] theorem State.setHostByte_pocket (a : Nat) (b : Byte) :
    (s.setHostByte a b).pocket = s.pocket := rfl
@[simp] theorem State.setHostByte_resil (a : Nat) (b : Byte) :
    (s.setHostByte a b).resil = s.resil := rfl
@[simp] theorem State.setHostByte_keys (a : Nat) (b : Byte) :
    (s.setHostByte a b).keys = s.keys := rfl
@[simp] theorem State.setHostByte_life (a : Nat) (b : Byte) :
    (s.setHostByte a b).life = s.life := rfl
@[simp] theorem State.setHostByte_supply (a : Nat) (b : Byte) :
    (s.setHostByte a b).supply = s.supply := rfl
@[simp] theorem State.setHostByte_dev (a : Nat) (b : Byte) :
    (s.setHostByte a b).dev = s.dev := rfl
@[simp] theorem State.setHostByte_rd (a : Nat) (b : Byte) (i : EntryDef) (p q : Nat) :
    (s.setHostByte a b).rd i p q = s.rd i p q := rfl
@[simp] theorem State.setHostByte_flag (a : Nat) (b : Byte) (i : EntryDef) (p q : Nat) :
    (s.setHostByte a b).flag i p q = s.flag i p q := rfl
@[simp] theorem State.setHostByte_rdInt (a : Nat) (b : Byte) (i : EntryDef) (p q : Nat) :
    (s.setHostByte a b).rdInt i p q = s.rdInt i p q := rfl
@[simp] theorem State.setHostByte_dom (a : Nat) (b : Byte) (i : EntryDef) (p q : Nat) :
    (s.setHostByte a b).dom i p q = s.dom i p q := rfl
@[simp] theorem State.setHostByte_floor (a : Nat) (b : Byte) :
    (s.setHostByte a b).floor = s.floor := rfl
@[simp] theorem State.setHostByte_devState (a : Nat) (b : Byte) :
    (s.setHostByte a b).devState = s.devState := rfl
@[simp] theorem State.setHostByte_dictUp (a : Nat) (b : Byte) :
    (s.setHostByte a b).dictUp = s.dictUp := rfl
@[simp] theorem State.setHostByte_alive (a : Nat) (b : Byte) :
    (s.setHostByte a b).alive = s.alive := rfl
@[simp] theorem State.setHostByte_sessAt (a : Nat) (b : Byte) (p : Nat) :
    (s.setHostByte a b).sessAt p = s.sessAt p := rfl
@[simp] theorem State.setHostByte_canAt (a : Nat) (b : Byte) (p : Nat) :
    (s.setHostByte a b).canAt p = s.canAt p := rfl
@[simp] theorem State.setHostByte_engineAt (a : Nat) (b : Byte) (p : Nat) :
    (s.setHostByte a b).engineAt p = s.engineAt p := rfl
@[simp] theorem State.setHostByte_inputAt (a : Nat) (b : Byte) (p : Nat) :
    (s.setHostByte a b).inputAt p = s.inputAt p := rfl
@[simp] theorem State.setHostByte_hostAt (a : Nat) (b : Byte) (p : Nat) :
    (s.setHostByte a b).hostAt p = s.hostAt p := rfl
@[simp] theorem State.setHostByte_playerAt (a : Nat) (b : Byte) (p : Nat) :
    (s.setHostByte a b).playerAt p = s.playerAt p := rfl
@[simp] theorem State.setHostByte_layerAt (a : Nat) (b : Byte) (p : Nat) :
    (s.setHostByte a b).layerAt p = s.layerAt p := rfl
@[simp] theorem State.setHostByte_canvasAt (a : Nat) (b : Byte) (p : Nat) :
    (s.setHostByte a b).canvasAt p = s.canvasAt p := rfl
@[simp] theorem State.setHostByte_headAt (a : Nat) (b : Byte) (p : Nat) :
    (s.setHostByte a b).headAt p = s.headAt p := rfl
@[simp] theorem State.setHostByte_ulaneAt (a : Nat) (b : Byte) (p : Nat) :
    (s.setHostByte a b).ulaneAt p = s.ulaneAt p := rfl
@[simp] theorem State.setHostByte_dlaneAt (a : Nat) (b : Byte) (p : Nat) :
    (s.setHostByte a b).dlaneAt p = s.dlaneAt p := rfl
@[simp] theorem State.setHostByte_groupAt (a : Nat) (b : Byte) (p : Nat) :
    (s.setHostByte a b).groupAt p = s.groupAt p := rfl
@[simp] theorem State.setHostByte_flowAt (a : Nat) (b : Byte) (p : Nat) :
    (s.setHostByte a b).flowAt p = s.flowAt p := rfl
@[simp] theorem State.setHostByte_tileAt (a : Nat) (b : Byte) (p : Nat) :
    (s.setHostByte a b).tileAt p = s.tileAt p := rfl
@[simp] theorem State.setHostByte_refAt (a : Nat) (b : Byte) (p : Nat) :
    (s.setHostByte a b).refAt p = s.refAt p := rfl
@[simp] theorem State.setHostByte_ftgAt (a : Nat) (b : Byte) (p : Nat) :
    (s.setHostByte a b).ftgAt p = s.ftgAt p := rfl
@[simp] theorem State.setHostByte_channelAt (a : Nat) (b : Byte) (p : Nat) :
    (s.setHostByte a b).channelAt p = s.channelAt p := rfl
@[simp] theorem State.setHostByte_endpointAt (a : Nat) (b : Byte) (p : Nat) :
    (s.setHostByte a b).endpointAt p = s.endpointAt p := rfl
@[simp] theorem State.setHostByte_imageBadAt (a : Nat) (b : Byte) (p : Nat) :
    (s.setHostByte a b).imageBadAt p = s.imageBadAt p := rfl
@[simp] theorem State.setHostByte_activeAt (a : Nat) (b : Byte) (p : Nat) :
    (s.setHostByte a b).activeAt p = s.activeAt p := rfl
@[simp] theorem State.setHostByte_udpFailAt (a : Nat) (b : Byte) (p : Nat) :
    (s.setHostByte a b).udpFailAt p = s.udpFailAt p := rfl
@[simp] theorem State.setHostByte_udpLockAt (a : Nat) (b : Byte) (p : Nat) :
    (s.setHostByte a b).udpLockAt p = s.udpLockAt p := rfl
@[simp] theorem State.setHostByte_droppedAt (a : Nat) (b : Byte) (p : Nat) :
    (s.setHostByte a b).droppedAt p = s.droppedAt p := rfl
@[simp] theorem State.setHostByte_dropTimeAt (a : Nat) (b : Byte) (p : Nat) :
    (s.setHostByte a b).dropTimeAt p = s.dropTimeAt p := rfl
@[simp] theorem State.setHostByte_rtpAt (a : Nat) (b : Byte) (p : Nat) :
    (s.setHostByte a b).rtpAt p = s.rtpAt p := rfl
@[simp] theorem State.setHostByte_imageCrcAt (a : Nat) (b : Byte) (p : Nat) :
    (s.setHostByte a b).imageCrcAt p = s.imageCrcAt p := rfl
@[simp] theorem State.setHostByte_ptlCounterAt (a : Nat) (b : Byte) (p : Nat) :
    (s.setHostByte a b).ptlCounterAt p = s.ptlCounterAt p := rfl
@[simp] theorem State.setHostByte_authFailAt (a : Nat) (b : Byte) (p : Nat) :
    (s.setHostByte a b).authFailAt p = s.authFailAt p := rfl
@[simp] theorem State.setHostByte_scanAt (a : Nat) (b : Byte) (p : Nat) :
    (s.setHostByte a b).scanAt p = s.scanAt p := rfl
@[simp] theorem State.setHostByte_stageAt (a : Nat) (b : Byte) (p : Nat) :
    (s.setHostByte a b).stageAt p = s.stageAt p := rfl
@[simp] theorem State.setHostByte_liningAt (a : Nat) (b : Byte) (p : Nat) :
    (s.setHostByte a b).liningAt p = s.liningAt p := rfl
@[simp] theorem State.setHostByte_routeAt (a : Nat) (b : Byte) (p : Nat) :
    (s.setHostByte a b).routeAt p = s.routeAt p := rfl
@[simp] theorem State.setHostByte_bankAt (a : Nat) (b : Byte) (p : Nat) :
    (s.setHostByte a b).bankAt p = s.bankAt p := rfl
@[simp] theorem State.setHostByte_lutAt (a : Nat) (b : Byte) (p : Nat) :
    (s.setHostByte a b).lutAt p = s.lutAt p := rfl
@[simp] theorem State.setHostByte_lut3dAt (a : Nat) (b : Byte) (p : Nat) :
    (s.setHostByte a b).lut3dAt p = s.lut3dAt p := rfl
@[simp] theorem State.setHostByte_imageDescAt (a : Nat) (b : Byte) (p : Nat) :
    (s.setHostByte a b).imageDescAt p = s.imageDescAt p := rfl
@[simp] theorem State.setHostByte_imageDataAt (a : Nat) (b : Byte) (p : Nat) :
    (s.setHostByte a b).imageDataAt p = s.imageDataAt p := rfl
@[simp] theorem State.setHostByte_tileEntryAt (a : Nat) (b : Byte) (p : Nat) :
    (s.setHostByte a b).tileEntryAt p = s.tileEntryAt p := rfl
@[simp] theorem State.setHostByte_tileShadowAt (a : Nat) (b : Byte) (p : Nat) :
    (s.setHostByte a b).tileShadowAt p = s.tileShadowAt p := rfl
@[simp] theorem State.setHostByte_calibAt (a : Nat) (b : Byte) (p : Nat) :
    (s.setHostByte a b).calibAt p = s.calibAt p := rfl
@[simp] theorem State.setHostByte_calibShadowAt (a : Nat) (b : Byte) (p : Nat) :
    (s.setHostByte a b).calibShadowAt p = s.calibShadowAt p := rfl
@[simp] theorem State.setHostByte_channelEntryAt (a : Nat) (b : Byte) (p : Nat) :
    (s.setHostByte a b).channelEntryAt p = s.channelEntryAt p := rfl
@[simp] theorem State.setHostByte_streamEntryAt (a : Nat) (b : Byte) (p : Nat) :
    (s.setHostByte a b).streamEntryAt p = s.streamEntryAt p := rfl

/-! ### Units -/

@[simp] theorem State.putSess_regs (k : Nat) (v : Sess) :
    (s.putSess k v).regs = s.regs := rfl
@[simp] theorem State.putSess_doms (k : Nat) (v : Sess) :
    (s.putSess k v).doms = s.doms := rfl
@[simp] theorem State.putSess_ev (k : Nat) (v : Sess) :
    (s.putSess k v).ev = s.ev := rfl
@[simp] theorem State.putSess_wire (k : Nat) (v : Sess) :
    (s.putSess k v).wire = s.wire := rfl
@[simp] theorem State.putSess_actor (k : Nat) (v : Sess) :
    (s.putSess k v).actor = s.actor := rfl
@[simp] theorem State.putSess_tap (k : Nat) (v : Sess) :
    (s.putSess k v).tap = s.tap := rfl
@[simp] theorem State.putSess_pending (k : Nat) (v : Sess) :
    (s.putSess k v).pending = s.pending := rfl
@[simp] theorem State.putSess_timebase (k : Nat) (v : Sess) :
    (s.putSess k v).timebase = s.timebase := rfl
@[simp] theorem State.putSess_dev (k : Nat) (v : Sess) :
    (s.putSess k v).dev = s.dev := rfl
@[simp] theorem State.putSess_dram (k : Nat) (v : Sess) :
    (s.putSess k v).dram = s.dram := rfl
@[simp] theorem State.putSess_rd (k : Nat) (v : Sess) (i : EntryDef) (p q : Nat) :
    (s.putSess k v).rd i p q = s.rd i p q := rfl
@[simp] theorem State.putSess_flag (k : Nat) (v : Sess) (i : EntryDef) (p q : Nat) :
    (s.putSess k v).flag i p q = s.flag i p q := rfl
@[simp] theorem State.putSess_rdInt (k : Nat) (v : Sess) (i : EntryDef) (p q : Nat) :
    (s.putSess k v).rdInt i p q = s.rdInt i p q := rfl
@[simp] theorem State.putSess_dom (k : Nat) (v : Sess) (i : EntryDef) (p q : Nat) :
    (s.putSess k v).dom i p q = s.dom i p q := rfl
@[simp] theorem State.putSess_floor (k : Nat) (v : Sess) :
    (s.putSess k v).floor = s.floor := rfl
@[simp] theorem State.putSess_devState (k : Nat) (v : Sess) :
    (s.putSess k v).devState = s.devState := rfl
@[simp] theorem State.putSess_dictUp (k : Nat) (v : Sess) :
    (s.putSess k v).dictUp = s.dictUp := rfl
@[simp] theorem State.putSess_alive (k : Nat) (v : Sess) :
    (s.putSess k v).alive = s.alive := rfl
@[simp] theorem State.putSess_hostByte (k : Nat) (v : Sess) (p : Nat) :
    (s.putSess k v).hostByte p = s.hostByte p := rfl
@[simp] theorem State.putSess_canvasAt (k : Nat) (v : Sess) (p : Nat) :
    (s.putSess k v).canvasAt p = s.canvasAt p := rfl
@[simp] theorem State.putSess_layerAt (k : Nat) (v : Sess) (p : Nat) :
    (s.putSess k v).layerAt p = s.layerAt p := rfl
@[simp] theorem State.putSess_headAt (k : Nat) (v : Sess) (p : Nat) :
    (s.putSess k v).headAt p = s.headAt p := rfl
@[simp] theorem State.putSess_inputAt (k : Nat) (v : Sess) (p : Nat) :
    (s.putSess k v).inputAt p = s.inputAt p := rfl
@[simp] theorem State.putSess_hostAt (k : Nat) (v : Sess) (p : Nat) :
    (s.putSess k v).hostAt p = s.hostAt p := rfl
@[simp] theorem State.putSess_playerAt (k : Nat) (v : Sess) (p : Nat) :
    (s.putSess k v).playerAt p = s.playerAt p := rfl
@[simp] theorem State.putSess_refAt (k : Nat) (v : Sess) (p : Nat) :
    (s.putSess k v).refAt p = s.refAt p := rfl
@[simp] theorem State.putSess_ftgAt (k : Nat) (v : Sess) (p : Nat) :
    (s.putSess k v).ftgAt p = s.ftgAt p := rfl
@[simp] theorem State.putSess_ulaneAt (k : Nat) (v : Sess) (p : Nat) :
    (s.putSess k v).ulaneAt p = s.ulaneAt p := rfl
@[simp] theorem State.putSess_dlaneAt (k : Nat) (v : Sess) (p : Nat) :
    (s.putSess k v).dlaneAt p = s.dlaneAt p := rfl
@[simp] theorem State.putSess_groupAt (k : Nat) (v : Sess) (p : Nat) :
    (s.putSess k v).groupAt p = s.groupAt p := rfl
@[simp] theorem State.putSess_engineAt (k : Nat) (v : Sess) (p : Nat) :
    (s.putSess k v).engineAt p = s.engineAt p := rfl
@[simp] theorem State.putSess_sessAt (k : Nat) (v : Sess) :
    (s.putSess k v).sessAt k = v := Store.read_write_self _ _ _ _
@[simp] theorem State.modSess_eq (k : Nat) (f : Sess → Sess) :
    s.modSess k f = s.putSess k (f (s.sessAt k)) := rfl
theorem State.putSess_sessAt_ne (k i : Nat) (v : Sess) (h : i ≠ k) :
    (s.putSess k v).sessAt i = s.sessAt i := Store.read_write_ne _ _ _ h
@[simp] theorem State.putCan_regs (k : Nat) (v : CanNode) :
    (s.putCan k v).regs = s.regs := rfl
@[simp] theorem State.putCan_doms (k : Nat) (v : CanNode) :
    (s.putCan k v).doms = s.doms := rfl
@[simp] theorem State.putCan_ev (k : Nat) (v : CanNode) :
    (s.putCan k v).ev = s.ev := rfl
@[simp] theorem State.putCan_sess (k : Nat) (v : CanNode) :
    (s.putCan k v).sess = s.sess := rfl
@[simp] theorem State.putCan_wire (k : Nat) (v : CanNode) :
    (s.putCan k v).wire = s.wire := rfl
@[simp] theorem State.putCan_actor (k : Nat) (v : CanNode) :
    (s.putCan k v).actor = s.actor := rfl
@[simp] theorem State.putCan_tap (k : Nat) (v : CanNode) :
    (s.putCan k v).tap = s.tap := rfl
@[simp] theorem State.putCan_pending (k : Nat) (v : CanNode) :
    (s.putCan k v).pending = s.pending := rfl
@[simp] theorem State.putCan_timebase (k : Nat) (v : CanNode) :
    (s.putCan k v).timebase = s.timebase := rfl
@[simp] theorem State.putCan_dev (k : Nat) (v : CanNode) :
    (s.putCan k v).dev = s.dev := rfl
@[simp] theorem State.putCan_dram (k : Nat) (v : CanNode) :
    (s.putCan k v).dram = s.dram := rfl
@[simp] theorem State.putCan_rd (k : Nat) (v : CanNode) (i : EntryDef) (p q : Nat) :
    (s.putCan k v).rd i p q = s.rd i p q := rfl
@[simp] theorem State.putCan_flag (k : Nat) (v : CanNode) (i : EntryDef) (p q : Nat) :
    (s.putCan k v).flag i p q = s.flag i p q := rfl
@[simp] theorem State.putCan_rdInt (k : Nat) (v : CanNode) (i : EntryDef) (p q : Nat) :
    (s.putCan k v).rdInt i p q = s.rdInt i p q := rfl
@[simp] theorem State.putCan_dom (k : Nat) (v : CanNode) (i : EntryDef) (p q : Nat) :
    (s.putCan k v).dom i p q = s.dom i p q := rfl
@[simp] theorem State.putCan_floor (k : Nat) (v : CanNode) :
    (s.putCan k v).floor = s.floor := rfl
@[simp] theorem State.putCan_devState (k : Nat) (v : CanNode) :
    (s.putCan k v).devState = s.devState := rfl
@[simp] theorem State.putCan_dictUp (k : Nat) (v : CanNode) :
    (s.putCan k v).dictUp = s.dictUp := rfl
@[simp] theorem State.putCan_alive (k : Nat) (v : CanNode) :
    (s.putCan k v).alive = s.alive := rfl
@[simp] theorem State.putCan_hostByte (k : Nat) (v : CanNode) (p : Nat) :
    (s.putCan k v).hostByte p = s.hostByte p := rfl
@[simp] theorem State.putCan_sessAt (k : Nat) (v : CanNode) (p : Nat) :
    (s.putCan k v).sessAt p = s.sessAt p := rfl
@[simp] theorem State.putCan_canvasAt (k : Nat) (v : CanNode) (p : Nat) :
    (s.putCan k v).canvasAt p = s.canvasAt p := rfl
@[simp] theorem State.putCan_layerAt (k : Nat) (v : CanNode) (p : Nat) :
    (s.putCan k v).layerAt p = s.layerAt p := rfl
@[simp] theorem State.putCan_headAt (k : Nat) (v : CanNode) (p : Nat) :
    (s.putCan k v).headAt p = s.headAt p := rfl
@[simp] theorem State.putCan_inputAt (k : Nat) (v : CanNode) (p : Nat) :
    (s.putCan k v).inputAt p = s.inputAt p := rfl
@[simp] theorem State.putCan_hostAt (k : Nat) (v : CanNode) (p : Nat) :
    (s.putCan k v).hostAt p = s.hostAt p := rfl
@[simp] theorem State.putCan_playerAt (k : Nat) (v : CanNode) (p : Nat) :
    (s.putCan k v).playerAt p = s.playerAt p := rfl
@[simp] theorem State.putCan_refAt (k : Nat) (v : CanNode) (p : Nat) :
    (s.putCan k v).refAt p = s.refAt p := rfl
@[simp] theorem State.putCan_ftgAt (k : Nat) (v : CanNode) (p : Nat) :
    (s.putCan k v).ftgAt p = s.ftgAt p := rfl
@[simp] theorem State.putCan_ulaneAt (k : Nat) (v : CanNode) (p : Nat) :
    (s.putCan k v).ulaneAt p = s.ulaneAt p := rfl
@[simp] theorem State.putCan_dlaneAt (k : Nat) (v : CanNode) (p : Nat) :
    (s.putCan k v).dlaneAt p = s.dlaneAt p := rfl
@[simp] theorem State.putCan_groupAt (k : Nat) (v : CanNode) (p : Nat) :
    (s.putCan k v).groupAt p = s.groupAt p := rfl
@[simp] theorem State.putCan_engineAt (k : Nat) (v : CanNode) (p : Nat) :
    (s.putCan k v).engineAt p = s.engineAt p := rfl
@[simp] theorem State.putCan_canAt (k : Nat) (v : CanNode) :
    (s.putCan k v).canAt k = v := Store.read_write_self _ _ _ _
@[simp] theorem State.modCan_eq (k : Nat) (f : CanNode → CanNode) :
    s.modCan k f = s.putCan k (f (s.canAt k)) := rfl
theorem State.putCan_canAt_ne (k i : Nat) (v : CanNode) (h : i ≠ k) :
    (s.putCan k v).canAt i = s.canAt i := Store.read_write_ne _ _ _ h
@[simp] theorem State.putEngine_regs (k : Nat) (v : Engine) :
    (s.putEngine k v).regs = s.regs := rfl
@[simp] theorem State.putEngine_doms (k : Nat) (v : Engine) :
    (s.putEngine k v).doms = s.doms := rfl
@[simp] theorem State.putEngine_ev (k : Nat) (v : Engine) :
    (s.putEngine k v).ev = s.ev := rfl
@[simp] theorem State.putEngine_sess (k : Nat) (v : Engine) :
    (s.putEngine k v).sess = s.sess := rfl
@[simp] theorem State.putEngine_wire (k : Nat) (v : Engine) :
    (s.putEngine k v).wire = s.wire := rfl
@[simp] theorem State.putEngine_actor (k : Nat) (v : Engine) :
    (s.putEngine k v).actor = s.actor := rfl
@[simp] theorem State.putEngine_tap (k : Nat) (v : Engine) :
    (s.putEngine k v).tap = s.tap := rfl
@[simp] theorem State.putEngine_pending (k : Nat) (v : Engine) :
    (s.putEngine k v).pending = s.pending := rfl
@[simp] theorem State.putEngine_timebase (k : Nat) (v : Engine) :
    (s.putEngine k v).timebase = s.timebase := rfl
@[simp] theorem State.putEngine_dev (k : Nat) (v : Engine) :
    (s.putEngine k v).dev = s.dev := rfl
@[simp] theorem State.putEngine_dram (k : Nat) (v : Engine) :
    (s.putEngine k v).dram = s.dram := rfl
@[simp] theorem State.putEngine_rd (k : Nat) (v : Engine) (i : EntryDef) (p q : Nat) :
    (s.putEngine k v).rd i p q = s.rd i p q := rfl
@[simp] theorem State.putEngine_flag (k : Nat) (v : Engine) (i : EntryDef) (p q : Nat) :
    (s.putEngine k v).flag i p q = s.flag i p q := rfl
@[simp] theorem State.putEngine_rdInt (k : Nat) (v : Engine) (i : EntryDef) (p q : Nat) :
    (s.putEngine k v).rdInt i p q = s.rdInt i p q := rfl
@[simp] theorem State.putEngine_dom (k : Nat) (v : Engine) (i : EntryDef) (p q : Nat) :
    (s.putEngine k v).dom i p q = s.dom i p q := rfl
@[simp] theorem State.putEngine_floor (k : Nat) (v : Engine) :
    (s.putEngine k v).floor = s.floor := rfl
@[simp] theorem State.putEngine_devState (k : Nat) (v : Engine) :
    (s.putEngine k v).devState = s.devState := rfl
@[simp] theorem State.putEngine_dictUp (k : Nat) (v : Engine) :
    (s.putEngine k v).dictUp = s.dictUp := rfl
@[simp] theorem State.putEngine_alive (k : Nat) (v : Engine) :
    (s.putEngine k v).alive = s.alive := rfl
@[simp] theorem State.putEngine_hostByte (k : Nat) (v : Engine) (p : Nat) :
    (s.putEngine k v).hostByte p = s.hostByte p := rfl
@[simp] theorem State.putEngine_sessAt (k : Nat) (v : Engine) (p : Nat) :
    (s.putEngine k v).sessAt p = s.sessAt p := rfl
@[simp] theorem State.putEngine_canvasAt (k : Nat) (v : Engine) (p : Nat) :
    (s.putEngine k v).canvasAt p = s.canvasAt p := rfl
@[simp] theorem State.putEngine_layerAt (k : Nat) (v : Engine) (p : Nat) :
    (s.putEngine k v).layerAt p = s.layerAt p := rfl
@[simp] theorem State.putEngine_headAt (k : Nat) (v : Engine) (p : Nat) :
    (s.putEngine k v).headAt p = s.headAt p := rfl
@[simp] theorem State.putEngine_inputAt (k : Nat) (v : Engine) (p : Nat) :
    (s.putEngine k v).inputAt p = s.inputAt p := rfl
@[simp] theorem State.putEngine_hostAt (k : Nat) (v : Engine) (p : Nat) :
    (s.putEngine k v).hostAt p = s.hostAt p := rfl
@[simp] theorem State.putEngine_playerAt (k : Nat) (v : Engine) (p : Nat) :
    (s.putEngine k v).playerAt p = s.playerAt p := rfl
@[simp] theorem State.putEngine_refAt (k : Nat) (v : Engine) (p : Nat) :
    (s.putEngine k v).refAt p = s.refAt p := rfl
@[simp] theorem State.putEngine_ftgAt (k : Nat) (v : Engine) (p : Nat) :
    (s.putEngine k v).ftgAt p = s.ftgAt p := rfl
@[simp] theorem State.putEngine_ulaneAt (k : Nat) (v : Engine) (p : Nat) :
    (s.putEngine k v).ulaneAt p = s.ulaneAt p := rfl
@[simp] theorem State.putEngine_dlaneAt (k : Nat) (v : Engine) (p : Nat) :
    (s.putEngine k v).dlaneAt p = s.dlaneAt p := rfl
@[simp] theorem State.putEngine_groupAt (k : Nat) (v : Engine) (p : Nat) :
    (s.putEngine k v).groupAt p = s.groupAt p := rfl
@[simp] theorem State.putEngine_engineAt (k : Nat) (v : Engine) :
    (s.putEngine k v).engineAt k = v := Store.read_write_self _ _ _ _
@[simp] theorem State.modEngine_eq (k : Nat) (f : Engine → Engine) :
    s.modEngine k f = s.putEngine k (f (s.engineAt k)) := rfl
theorem State.putEngine_engineAt_ne (k i : Nat) (v : Engine) (h : i ≠ k) :
    (s.putEngine k v).engineAt i = s.engineAt i := Store.read_write_ne _ _ _ h
@[simp] theorem State.putInput_regs (k : Nat) (v : Input) :
    (s.putInput k v).regs = s.regs := rfl
@[simp] theorem State.putInput_doms (k : Nat) (v : Input) :
    (s.putInput k v).doms = s.doms := rfl
@[simp] theorem State.putInput_ev (k : Nat) (v : Input) :
    (s.putInput k v).ev = s.ev := rfl
@[simp] theorem State.putInput_sess (k : Nat) (v : Input) :
    (s.putInput k v).sess = s.sess := rfl
@[simp] theorem State.putInput_wire (k : Nat) (v : Input) :
    (s.putInput k v).wire = s.wire := rfl
@[simp] theorem State.putInput_actor (k : Nat) (v : Input) :
    (s.putInput k v).actor = s.actor := rfl
@[simp] theorem State.putInput_tap (k : Nat) (v : Input) :
    (s.putInput k v).tap = s.tap := rfl
@[simp] theorem State.putInput_pending (k : Nat) (v : Input) :
    (s.putInput k v).pending = s.pending := rfl
@[simp] theorem State.putInput_timebase (k : Nat) (v : Input) :
    (s.putInput k v).timebase = s.timebase := rfl
@[simp] theorem State.putInput_dev (k : Nat) (v : Input) :
    (s.putInput k v).dev = s.dev := rfl
@[simp] theorem State.putInput_dram (k : Nat) (v : Input) :
    (s.putInput k v).dram = s.dram := rfl
@[simp] theorem State.putInput_rd (k : Nat) (v : Input) (i : EntryDef) (p q : Nat) :
    (s.putInput k v).rd i p q = s.rd i p q := rfl
@[simp] theorem State.putInput_flag (k : Nat) (v : Input) (i : EntryDef) (p q : Nat) :
    (s.putInput k v).flag i p q = s.flag i p q := rfl
@[simp] theorem State.putInput_rdInt (k : Nat) (v : Input) (i : EntryDef) (p q : Nat) :
    (s.putInput k v).rdInt i p q = s.rdInt i p q := rfl
@[simp] theorem State.putInput_dom (k : Nat) (v : Input) (i : EntryDef) (p q : Nat) :
    (s.putInput k v).dom i p q = s.dom i p q := rfl
@[simp] theorem State.putInput_floor (k : Nat) (v : Input) :
    (s.putInput k v).floor = s.floor := rfl
@[simp] theorem State.putInput_devState (k : Nat) (v : Input) :
    (s.putInput k v).devState = s.devState := rfl
@[simp] theorem State.putInput_dictUp (k : Nat) (v : Input) :
    (s.putInput k v).dictUp = s.dictUp := rfl
@[simp] theorem State.putInput_alive (k : Nat) (v : Input) :
    (s.putInput k v).alive = s.alive := rfl
@[simp] theorem State.putInput_hostByte (k : Nat) (v : Input) (p : Nat) :
    (s.putInput k v).hostByte p = s.hostByte p := rfl
@[simp] theorem State.putInput_sessAt (k : Nat) (v : Input) (p : Nat) :
    (s.putInput k v).sessAt p = s.sessAt p := rfl
@[simp] theorem State.putInput_canvasAt (k : Nat) (v : Input) (p : Nat) :
    (s.putInput k v).canvasAt p = s.canvasAt p := rfl
@[simp] theorem State.putInput_layerAt (k : Nat) (v : Input) (p : Nat) :
    (s.putInput k v).layerAt p = s.layerAt p := rfl
@[simp] theorem State.putInput_headAt (k : Nat) (v : Input) (p : Nat) :
    (s.putInput k v).headAt p = s.headAt p := rfl
@[simp] theorem State.putInput_hostAt (k : Nat) (v : Input) (p : Nat) :
    (s.putInput k v).hostAt p = s.hostAt p := rfl
@[simp] theorem State.putInput_playerAt (k : Nat) (v : Input) (p : Nat) :
    (s.putInput k v).playerAt p = s.playerAt p := rfl
@[simp] theorem State.putInput_refAt (k : Nat) (v : Input) (p : Nat) :
    (s.putInput k v).refAt p = s.refAt p := rfl
@[simp] theorem State.putInput_ftgAt (k : Nat) (v : Input) (p : Nat) :
    (s.putInput k v).ftgAt p = s.ftgAt p := rfl
@[simp] theorem State.putInput_ulaneAt (k : Nat) (v : Input) (p : Nat) :
    (s.putInput k v).ulaneAt p = s.ulaneAt p := rfl
@[simp] theorem State.putInput_dlaneAt (k : Nat) (v : Input) (p : Nat) :
    (s.putInput k v).dlaneAt p = s.dlaneAt p := rfl
@[simp] theorem State.putInput_groupAt (k : Nat) (v : Input) (p : Nat) :
    (s.putInput k v).groupAt p = s.groupAt p := rfl
@[simp] theorem State.putInput_engineAt (k : Nat) (v : Input) (p : Nat) :
    (s.putInput k v).engineAt p = s.engineAt p := rfl
@[simp] theorem State.putInput_inputAt (k : Nat) (v : Input) :
    (s.putInput k v).inputAt k = v := Store.read_write_self _ _ _ _
@[simp] theorem State.modInput_eq (k : Nat) (f : Input → Input) :
    s.modInput k f = s.putInput k (f (s.inputAt k)) := rfl
theorem State.putInput_inputAt_ne (k i : Nat) (v : Input) (h : i ≠ k) :
    (s.putInput k v).inputAt i = s.inputAt i := Store.read_write_ne _ _ _ h
@[simp] theorem State.putHost_regs (k : Nat) (v : HostSurf) :
    (s.putHost k v).regs = s.regs := rfl
@[simp] theorem State.putHost_doms (k : Nat) (v : HostSurf) :
    (s.putHost k v).doms = s.doms := rfl
@[simp] theorem State.putHost_ev (k : Nat) (v : HostSurf) :
    (s.putHost k v).ev = s.ev := rfl
@[simp] theorem State.putHost_sess (k : Nat) (v : HostSurf) :
    (s.putHost k v).sess = s.sess := rfl
@[simp] theorem State.putHost_wire (k : Nat) (v : HostSurf) :
    (s.putHost k v).wire = s.wire := rfl
@[simp] theorem State.putHost_actor (k : Nat) (v : HostSurf) :
    (s.putHost k v).actor = s.actor := rfl
@[simp] theorem State.putHost_tap (k : Nat) (v : HostSurf) :
    (s.putHost k v).tap = s.tap := rfl
@[simp] theorem State.putHost_pending (k : Nat) (v : HostSurf) :
    (s.putHost k v).pending = s.pending := rfl
@[simp] theorem State.putHost_timebase (k : Nat) (v : HostSurf) :
    (s.putHost k v).timebase = s.timebase := rfl
@[simp] theorem State.putHost_dev (k : Nat) (v : HostSurf) :
    (s.putHost k v).dev = s.dev := rfl
@[simp] theorem State.putHost_dram (k : Nat) (v : HostSurf) :
    (s.putHost k v).dram = s.dram := rfl
@[simp] theorem State.putHost_rd (k : Nat) (v : HostSurf) (i : EntryDef) (p q : Nat) :
    (s.putHost k v).rd i p q = s.rd i p q := rfl
@[simp] theorem State.putHost_flag (k : Nat) (v : HostSurf) (i : EntryDef) (p q : Nat) :
    (s.putHost k v).flag i p q = s.flag i p q := rfl
@[simp] theorem State.putHost_rdInt (k : Nat) (v : HostSurf) (i : EntryDef) (p q : Nat) :
    (s.putHost k v).rdInt i p q = s.rdInt i p q := rfl
@[simp] theorem State.putHost_dom (k : Nat) (v : HostSurf) (i : EntryDef) (p q : Nat) :
    (s.putHost k v).dom i p q = s.dom i p q := rfl
@[simp] theorem State.putHost_floor (k : Nat) (v : HostSurf) :
    (s.putHost k v).floor = s.floor := rfl
@[simp] theorem State.putHost_devState (k : Nat) (v : HostSurf) :
    (s.putHost k v).devState = s.devState := rfl
@[simp] theorem State.putHost_dictUp (k : Nat) (v : HostSurf) :
    (s.putHost k v).dictUp = s.dictUp := rfl
@[simp] theorem State.putHost_alive (k : Nat) (v : HostSurf) :
    (s.putHost k v).alive = s.alive := rfl
@[simp] theorem State.putHost_hostByte (k : Nat) (v : HostSurf) (p : Nat) :
    (s.putHost k v).hostByte p = s.hostByte p := rfl
@[simp] theorem State.putHost_sessAt (k : Nat) (v : HostSurf) (p : Nat) :
    (s.putHost k v).sessAt p = s.sessAt p := rfl
@[simp] theorem State.putHost_canvasAt (k : Nat) (v : HostSurf) (p : Nat) :
    (s.putHost k v).canvasAt p = s.canvasAt p := rfl
@[simp] theorem State.putHost_layerAt (k : Nat) (v : HostSurf) (p : Nat) :
    (s.putHost k v).layerAt p = s.layerAt p := rfl
@[simp] theorem State.putHost_headAt (k : Nat) (v : HostSurf) (p : Nat) :
    (s.putHost k v).headAt p = s.headAt p := rfl
@[simp] theorem State.putHost_inputAt (k : Nat) (v : HostSurf) (p : Nat) :
    (s.putHost k v).inputAt p = s.inputAt p := rfl
@[simp] theorem State.putHost_playerAt (k : Nat) (v : HostSurf) (p : Nat) :
    (s.putHost k v).playerAt p = s.playerAt p := rfl
@[simp] theorem State.putHost_refAt (k : Nat) (v : HostSurf) (p : Nat) :
    (s.putHost k v).refAt p = s.refAt p := rfl
@[simp] theorem State.putHost_ftgAt (k : Nat) (v : HostSurf) (p : Nat) :
    (s.putHost k v).ftgAt p = s.ftgAt p := rfl
@[simp] theorem State.putHost_ulaneAt (k : Nat) (v : HostSurf) (p : Nat) :
    (s.putHost k v).ulaneAt p = s.ulaneAt p := rfl
@[simp] theorem State.putHost_dlaneAt (k : Nat) (v : HostSurf) (p : Nat) :
    (s.putHost k v).dlaneAt p = s.dlaneAt p := rfl
@[simp] theorem State.putHost_groupAt (k : Nat) (v : HostSurf) (p : Nat) :
    (s.putHost k v).groupAt p = s.groupAt p := rfl
@[simp] theorem State.putHost_engineAt (k : Nat) (v : HostSurf) (p : Nat) :
    (s.putHost k v).engineAt p = s.engineAt p := rfl
@[simp] theorem State.putHost_hostAt (k : Nat) (v : HostSurf) :
    (s.putHost k v).hostAt k = v := Store.read_write_self _ _ _ _
@[simp] theorem State.modHost_eq (k : Nat) (f : HostSurf → HostSurf) :
    s.modHost k f = s.putHost k (f (s.hostAt k)) := rfl
theorem State.putHost_hostAt_ne (k i : Nat) (v : HostSurf) (h : i ≠ k) :
    (s.putHost k v).hostAt i = s.hostAt i := Store.read_write_ne _ _ _ h
@[simp] theorem State.putPlayer_regs (k : Nat) (v : Player) :
    (s.putPlayer k v).regs = s.regs := rfl
@[simp] theorem State.putPlayer_doms (k : Nat) (v : Player) :
    (s.putPlayer k v).doms = s.doms := rfl
@[simp] theorem State.putPlayer_ev (k : Nat) (v : Player) :
    (s.putPlayer k v).ev = s.ev := rfl
@[simp] theorem State.putPlayer_sess (k : Nat) (v : Player) :
    (s.putPlayer k v).sess = s.sess := rfl
@[simp] theorem State.putPlayer_wire (k : Nat) (v : Player) :
    (s.putPlayer k v).wire = s.wire := rfl
@[simp] theorem State.putPlayer_actor (k : Nat) (v : Player) :
    (s.putPlayer k v).actor = s.actor := rfl
@[simp] theorem State.putPlayer_tap (k : Nat) (v : Player) :
    (s.putPlayer k v).tap = s.tap := rfl
@[simp] theorem State.putPlayer_pending (k : Nat) (v : Player) :
    (s.putPlayer k v).pending = s.pending := rfl
@[simp] theorem State.putPlayer_timebase (k : Nat) (v : Player) :
    (s.putPlayer k v).timebase = s.timebase := rfl
@[simp] theorem State.putPlayer_dev (k : Nat) (v : Player) :
    (s.putPlayer k v).dev = s.dev := rfl
@[simp] theorem State.putPlayer_dram (k : Nat) (v : Player) :
    (s.putPlayer k v).dram = s.dram := rfl
@[simp] theorem State.putPlayer_rd (k : Nat) (v : Player) (i : EntryDef) (p q : Nat) :
    (s.putPlayer k v).rd i p q = s.rd i p q := rfl
@[simp] theorem State.putPlayer_flag (k : Nat) (v : Player) (i : EntryDef) (p q : Nat) :
    (s.putPlayer k v).flag i p q = s.flag i p q := rfl
@[simp] theorem State.putPlayer_rdInt (k : Nat) (v : Player) (i : EntryDef) (p q : Nat) :
    (s.putPlayer k v).rdInt i p q = s.rdInt i p q := rfl
@[simp] theorem State.putPlayer_dom (k : Nat) (v : Player) (i : EntryDef) (p q : Nat) :
    (s.putPlayer k v).dom i p q = s.dom i p q := rfl
@[simp] theorem State.putPlayer_floor (k : Nat) (v : Player) :
    (s.putPlayer k v).floor = s.floor := rfl
@[simp] theorem State.putPlayer_devState (k : Nat) (v : Player) :
    (s.putPlayer k v).devState = s.devState := rfl
@[simp] theorem State.putPlayer_dictUp (k : Nat) (v : Player) :
    (s.putPlayer k v).dictUp = s.dictUp := rfl
@[simp] theorem State.putPlayer_alive (k : Nat) (v : Player) :
    (s.putPlayer k v).alive = s.alive := rfl
@[simp] theorem State.putPlayer_hostByte (k : Nat) (v : Player) (p : Nat) :
    (s.putPlayer k v).hostByte p = s.hostByte p := rfl
@[simp] theorem State.putPlayer_sessAt (k : Nat) (v : Player) (p : Nat) :
    (s.putPlayer k v).sessAt p = s.sessAt p := rfl
@[simp] theorem State.putPlayer_canvasAt (k : Nat) (v : Player) (p : Nat) :
    (s.putPlayer k v).canvasAt p = s.canvasAt p := rfl
@[simp] theorem State.putPlayer_layerAt (k : Nat) (v : Player) (p : Nat) :
    (s.putPlayer k v).layerAt p = s.layerAt p := rfl
@[simp] theorem State.putPlayer_headAt (k : Nat) (v : Player) (p : Nat) :
    (s.putPlayer k v).headAt p = s.headAt p := rfl
@[simp] theorem State.putPlayer_inputAt (k : Nat) (v : Player) (p : Nat) :
    (s.putPlayer k v).inputAt p = s.inputAt p := rfl
@[simp] theorem State.putPlayer_hostAt (k : Nat) (v : Player) (p : Nat) :
    (s.putPlayer k v).hostAt p = s.hostAt p := rfl
@[simp] theorem State.putPlayer_refAt (k : Nat) (v : Player) (p : Nat) :
    (s.putPlayer k v).refAt p = s.refAt p := rfl
@[simp] theorem State.putPlayer_ftgAt (k : Nat) (v : Player) (p : Nat) :
    (s.putPlayer k v).ftgAt p = s.ftgAt p := rfl
@[simp] theorem State.putPlayer_ulaneAt (k : Nat) (v : Player) (p : Nat) :
    (s.putPlayer k v).ulaneAt p = s.ulaneAt p := rfl
@[simp] theorem State.putPlayer_dlaneAt (k : Nat) (v : Player) (p : Nat) :
    (s.putPlayer k v).dlaneAt p = s.dlaneAt p := rfl
@[simp] theorem State.putPlayer_groupAt (k : Nat) (v : Player) (p : Nat) :
    (s.putPlayer k v).groupAt p = s.groupAt p := rfl
@[simp] theorem State.putPlayer_engineAt (k : Nat) (v : Player) (p : Nat) :
    (s.putPlayer k v).engineAt p = s.engineAt p := rfl
@[simp] theorem State.putPlayer_playerAt (k : Nat) (v : Player) :
    (s.putPlayer k v).playerAt k = v := Store.read_write_self _ _ _ _
@[simp] theorem State.modPlayer_eq (k : Nat) (f : Player → Player) :
    s.modPlayer k f = s.putPlayer k (f (s.playerAt k)) := rfl
theorem State.putPlayer_playerAt_ne (k i : Nat) (v : Player) (h : i ≠ k) :
    (s.putPlayer k v).playerAt i = s.playerAt i := Store.read_write_ne _ _ _ h
@[simp] theorem State.putLayer_regs (k : Nat) (v : Layer) :
    (s.putLayer k v).regs = s.regs := rfl
@[simp] theorem State.putLayer_doms (k : Nat) (v : Layer) :
    (s.putLayer k v).doms = s.doms := rfl
@[simp] theorem State.putLayer_ev (k : Nat) (v : Layer) :
    (s.putLayer k v).ev = s.ev := rfl
@[simp] theorem State.putLayer_sess (k : Nat) (v : Layer) :
    (s.putLayer k v).sess = s.sess := rfl
@[simp] theorem State.putLayer_wire (k : Nat) (v : Layer) :
    (s.putLayer k v).wire = s.wire := rfl
@[simp] theorem State.putLayer_actor (k : Nat) (v : Layer) :
    (s.putLayer k v).actor = s.actor := rfl
@[simp] theorem State.putLayer_tap (k : Nat) (v : Layer) :
    (s.putLayer k v).tap = s.tap := rfl
@[simp] theorem State.putLayer_pending (k : Nat) (v : Layer) :
    (s.putLayer k v).pending = s.pending := rfl
@[simp] theorem State.putLayer_timebase (k : Nat) (v : Layer) :
    (s.putLayer k v).timebase = s.timebase := rfl
@[simp] theorem State.putLayer_dev (k : Nat) (v : Layer) :
    (s.putLayer k v).dev = s.dev := rfl
@[simp] theorem State.putLayer_dram (k : Nat) (v : Layer) :
    (s.putLayer k v).dram = s.dram := rfl
@[simp] theorem State.putLayer_rd (k : Nat) (v : Layer) (i : EntryDef) (p q : Nat) :
    (s.putLayer k v).rd i p q = s.rd i p q := rfl
@[simp] theorem State.putLayer_flag (k : Nat) (v : Layer) (i : EntryDef) (p q : Nat) :
    (s.putLayer k v).flag i p q = s.flag i p q := rfl
@[simp] theorem State.putLayer_rdInt (k : Nat) (v : Layer) (i : EntryDef) (p q : Nat) :
    (s.putLayer k v).rdInt i p q = s.rdInt i p q := rfl
@[simp] theorem State.putLayer_dom (k : Nat) (v : Layer) (i : EntryDef) (p q : Nat) :
    (s.putLayer k v).dom i p q = s.dom i p q := rfl
@[simp] theorem State.putLayer_floor (k : Nat) (v : Layer) :
    (s.putLayer k v).floor = s.floor := rfl
@[simp] theorem State.putLayer_devState (k : Nat) (v : Layer) :
    (s.putLayer k v).devState = s.devState := rfl
@[simp] theorem State.putLayer_dictUp (k : Nat) (v : Layer) :
    (s.putLayer k v).dictUp = s.dictUp := rfl
@[simp] theorem State.putLayer_alive (k : Nat) (v : Layer) :
    (s.putLayer k v).alive = s.alive := rfl
@[simp] theorem State.putLayer_hostByte (k : Nat) (v : Layer) (p : Nat) :
    (s.putLayer k v).hostByte p = s.hostByte p := rfl
@[simp] theorem State.putLayer_sessAt (k : Nat) (v : Layer) (p : Nat) :
    (s.putLayer k v).sessAt p = s.sessAt p := rfl
@[simp] theorem State.putLayer_canvasAt (k : Nat) (v : Layer) (p : Nat) :
    (s.putLayer k v).canvasAt p = s.canvasAt p := rfl
@[simp] theorem State.putLayer_headAt (k : Nat) (v : Layer) (p : Nat) :
    (s.putLayer k v).headAt p = s.headAt p := rfl
@[simp] theorem State.putLayer_inputAt (k : Nat) (v : Layer) (p : Nat) :
    (s.putLayer k v).inputAt p = s.inputAt p := rfl
@[simp] theorem State.putLayer_hostAt (k : Nat) (v : Layer) (p : Nat) :
    (s.putLayer k v).hostAt p = s.hostAt p := rfl
@[simp] theorem State.putLayer_playerAt (k : Nat) (v : Layer) (p : Nat) :
    (s.putLayer k v).playerAt p = s.playerAt p := rfl
@[simp] theorem State.putLayer_refAt (k : Nat) (v : Layer) (p : Nat) :
    (s.putLayer k v).refAt p = s.refAt p := rfl
@[simp] theorem State.putLayer_ftgAt (k : Nat) (v : Layer) (p : Nat) :
    (s.putLayer k v).ftgAt p = s.ftgAt p := rfl
@[simp] theorem State.putLayer_ulaneAt (k : Nat) (v : Layer) (p : Nat) :
    (s.putLayer k v).ulaneAt p = s.ulaneAt p := rfl
@[simp] theorem State.putLayer_dlaneAt (k : Nat) (v : Layer) (p : Nat) :
    (s.putLayer k v).dlaneAt p = s.dlaneAt p := rfl
@[simp] theorem State.putLayer_groupAt (k : Nat) (v : Layer) (p : Nat) :
    (s.putLayer k v).groupAt p = s.groupAt p := rfl
@[simp] theorem State.putLayer_engineAt (k : Nat) (v : Layer) (p : Nat) :
    (s.putLayer k v).engineAt p = s.engineAt p := rfl
@[simp] theorem State.putLayer_layerAt (k : Nat) (v : Layer) :
    (s.putLayer k v).layerAt k = v := Store.read_write_self _ _ _ _
@[simp] theorem State.modLayer_eq (k : Nat) (f : Layer → Layer) :
    s.modLayer k f = s.putLayer k (f (s.layerAt k)) := rfl
theorem State.putLayer_layerAt_ne (k i : Nat) (v : Layer) (h : i ≠ k) :
    (s.putLayer k v).layerAt i = s.layerAt i := Store.read_write_ne _ _ _ h
@[simp] theorem State.putCanvas_regs (k : Nat) (v : Canvas) :
    (s.putCanvas k v).regs = s.regs := rfl
@[simp] theorem State.putCanvas_doms (k : Nat) (v : Canvas) :
    (s.putCanvas k v).doms = s.doms := rfl
@[simp] theorem State.putCanvas_ev (k : Nat) (v : Canvas) :
    (s.putCanvas k v).ev = s.ev := rfl
@[simp] theorem State.putCanvas_sess (k : Nat) (v : Canvas) :
    (s.putCanvas k v).sess = s.sess := rfl
@[simp] theorem State.putCanvas_wire (k : Nat) (v : Canvas) :
    (s.putCanvas k v).wire = s.wire := rfl
@[simp] theorem State.putCanvas_actor (k : Nat) (v : Canvas) :
    (s.putCanvas k v).actor = s.actor := rfl
@[simp] theorem State.putCanvas_tap (k : Nat) (v : Canvas) :
    (s.putCanvas k v).tap = s.tap := rfl
@[simp] theorem State.putCanvas_pending (k : Nat) (v : Canvas) :
    (s.putCanvas k v).pending = s.pending := rfl
@[simp] theorem State.putCanvas_timebase (k : Nat) (v : Canvas) :
    (s.putCanvas k v).timebase = s.timebase := rfl
@[simp] theorem State.putCanvas_dev (k : Nat) (v : Canvas) :
    (s.putCanvas k v).dev = s.dev := rfl
@[simp] theorem State.putCanvas_dram (k : Nat) (v : Canvas) :
    (s.putCanvas k v).dram = s.dram := rfl
@[simp] theorem State.putCanvas_rd (k : Nat) (v : Canvas) (i : EntryDef) (p q : Nat) :
    (s.putCanvas k v).rd i p q = s.rd i p q := rfl
@[simp] theorem State.putCanvas_flag (k : Nat) (v : Canvas) (i : EntryDef) (p q : Nat) :
    (s.putCanvas k v).flag i p q = s.flag i p q := rfl
@[simp] theorem State.putCanvas_rdInt (k : Nat) (v : Canvas) (i : EntryDef) (p q : Nat) :
    (s.putCanvas k v).rdInt i p q = s.rdInt i p q := rfl
@[simp] theorem State.putCanvas_dom (k : Nat) (v : Canvas) (i : EntryDef) (p q : Nat) :
    (s.putCanvas k v).dom i p q = s.dom i p q := rfl
@[simp] theorem State.putCanvas_floor (k : Nat) (v : Canvas) :
    (s.putCanvas k v).floor = s.floor := rfl
@[simp] theorem State.putCanvas_devState (k : Nat) (v : Canvas) :
    (s.putCanvas k v).devState = s.devState := rfl
@[simp] theorem State.putCanvas_dictUp (k : Nat) (v : Canvas) :
    (s.putCanvas k v).dictUp = s.dictUp := rfl
@[simp] theorem State.putCanvas_alive (k : Nat) (v : Canvas) :
    (s.putCanvas k v).alive = s.alive := rfl
@[simp] theorem State.putCanvas_hostByte (k : Nat) (v : Canvas) (p : Nat) :
    (s.putCanvas k v).hostByte p = s.hostByte p := rfl
@[simp] theorem State.putCanvas_sessAt (k : Nat) (v : Canvas) (p : Nat) :
    (s.putCanvas k v).sessAt p = s.sessAt p := rfl
@[simp] theorem State.putCanvas_layerAt (k : Nat) (v : Canvas) (p : Nat) :
    (s.putCanvas k v).layerAt p = s.layerAt p := rfl
@[simp] theorem State.putCanvas_headAt (k : Nat) (v : Canvas) (p : Nat) :
    (s.putCanvas k v).headAt p = s.headAt p := rfl
@[simp] theorem State.putCanvas_inputAt (k : Nat) (v : Canvas) (p : Nat) :
    (s.putCanvas k v).inputAt p = s.inputAt p := rfl
@[simp] theorem State.putCanvas_hostAt (k : Nat) (v : Canvas) (p : Nat) :
    (s.putCanvas k v).hostAt p = s.hostAt p := rfl
@[simp] theorem State.putCanvas_playerAt (k : Nat) (v : Canvas) (p : Nat) :
    (s.putCanvas k v).playerAt p = s.playerAt p := rfl
@[simp] theorem State.putCanvas_refAt (k : Nat) (v : Canvas) (p : Nat) :
    (s.putCanvas k v).refAt p = s.refAt p := rfl
@[simp] theorem State.putCanvas_ftgAt (k : Nat) (v : Canvas) (p : Nat) :
    (s.putCanvas k v).ftgAt p = s.ftgAt p := rfl
@[simp] theorem State.putCanvas_ulaneAt (k : Nat) (v : Canvas) (p : Nat) :
    (s.putCanvas k v).ulaneAt p = s.ulaneAt p := rfl
@[simp] theorem State.putCanvas_dlaneAt (k : Nat) (v : Canvas) (p : Nat) :
    (s.putCanvas k v).dlaneAt p = s.dlaneAt p := rfl
@[simp] theorem State.putCanvas_groupAt (k : Nat) (v : Canvas) (p : Nat) :
    (s.putCanvas k v).groupAt p = s.groupAt p := rfl
@[simp] theorem State.putCanvas_engineAt (k : Nat) (v : Canvas) (p : Nat) :
    (s.putCanvas k v).engineAt p = s.engineAt p := rfl
@[simp] theorem State.putCanvas_canvasAt (k : Nat) (v : Canvas) :
    (s.putCanvas k v).canvasAt k = v := Store.read_write_self _ _ _ _
@[simp] theorem State.modCanvas_eq (k : Nat) (f : Canvas → Canvas) :
    s.modCanvas k f = s.putCanvas k (f (s.canvasAt k)) := rfl
theorem State.putCanvas_canvasAt_ne (k i : Nat) (v : Canvas) (h : i ≠ k) :
    (s.putCanvas k v).canvasAt i = s.canvasAt i := Store.read_write_ne _ _ _ h
@[simp] theorem State.putHead_regs (k : Nat) (v : Head) :
    (s.putHead k v).regs = s.regs := rfl
@[simp] theorem State.putHead_doms (k : Nat) (v : Head) :
    (s.putHead k v).doms = s.doms := rfl
@[simp] theorem State.putHead_ev (k : Nat) (v : Head) :
    (s.putHead k v).ev = s.ev := rfl
@[simp] theorem State.putHead_sess (k : Nat) (v : Head) :
    (s.putHead k v).sess = s.sess := rfl
@[simp] theorem State.putHead_wire (k : Nat) (v : Head) :
    (s.putHead k v).wire = s.wire := rfl
@[simp] theorem State.putHead_actor (k : Nat) (v : Head) :
    (s.putHead k v).actor = s.actor := rfl
@[simp] theorem State.putHead_tap (k : Nat) (v : Head) :
    (s.putHead k v).tap = s.tap := rfl
@[simp] theorem State.putHead_pending (k : Nat) (v : Head) :
    (s.putHead k v).pending = s.pending := rfl
@[simp] theorem State.putHead_timebase (k : Nat) (v : Head) :
    (s.putHead k v).timebase = s.timebase := rfl
@[simp] theorem State.putHead_dev (k : Nat) (v : Head) :
    (s.putHead k v).dev = s.dev := rfl
@[simp] theorem State.putHead_dram (k : Nat) (v : Head) :
    (s.putHead k v).dram = s.dram := rfl
@[simp] theorem State.putHead_rd (k : Nat) (v : Head) (i : EntryDef) (p q : Nat) :
    (s.putHead k v).rd i p q = s.rd i p q := rfl
@[simp] theorem State.putHead_flag (k : Nat) (v : Head) (i : EntryDef) (p q : Nat) :
    (s.putHead k v).flag i p q = s.flag i p q := rfl
@[simp] theorem State.putHead_rdInt (k : Nat) (v : Head) (i : EntryDef) (p q : Nat) :
    (s.putHead k v).rdInt i p q = s.rdInt i p q := rfl
@[simp] theorem State.putHead_dom (k : Nat) (v : Head) (i : EntryDef) (p q : Nat) :
    (s.putHead k v).dom i p q = s.dom i p q := rfl
@[simp] theorem State.putHead_floor (k : Nat) (v : Head) :
    (s.putHead k v).floor = s.floor := rfl
@[simp] theorem State.putHead_devState (k : Nat) (v : Head) :
    (s.putHead k v).devState = s.devState := rfl
@[simp] theorem State.putHead_dictUp (k : Nat) (v : Head) :
    (s.putHead k v).dictUp = s.dictUp := rfl
@[simp] theorem State.putHead_alive (k : Nat) (v : Head) :
    (s.putHead k v).alive = s.alive := rfl
@[simp] theorem State.putHead_hostByte (k : Nat) (v : Head) (p : Nat) :
    (s.putHead k v).hostByte p = s.hostByte p := rfl
@[simp] theorem State.putHead_sessAt (k : Nat) (v : Head) (p : Nat) :
    (s.putHead k v).sessAt p = s.sessAt p := rfl
@[simp] theorem State.putHead_canvasAt (k : Nat) (v : Head) (p : Nat) :
    (s.putHead k v).canvasAt p = s.canvasAt p := rfl
@[simp] theorem State.putHead_layerAt (k : Nat) (v : Head) (p : Nat) :
    (s.putHead k v).layerAt p = s.layerAt p := rfl
@[simp] theorem State.putHead_inputAt (k : Nat) (v : Head) (p : Nat) :
    (s.putHead k v).inputAt p = s.inputAt p := rfl
@[simp] theorem State.putHead_hostAt (k : Nat) (v : Head) (p : Nat) :
    (s.putHead k v).hostAt p = s.hostAt p := rfl
@[simp] theorem State.putHead_playerAt (k : Nat) (v : Head) (p : Nat) :
    (s.putHead k v).playerAt p = s.playerAt p := rfl
@[simp] theorem State.putHead_refAt (k : Nat) (v : Head) (p : Nat) :
    (s.putHead k v).refAt p = s.refAt p := rfl
@[simp] theorem State.putHead_ftgAt (k : Nat) (v : Head) (p : Nat) :
    (s.putHead k v).ftgAt p = s.ftgAt p := rfl
@[simp] theorem State.putHead_ulaneAt (k : Nat) (v : Head) (p : Nat) :
    (s.putHead k v).ulaneAt p = s.ulaneAt p := rfl
@[simp] theorem State.putHead_dlaneAt (k : Nat) (v : Head) (p : Nat) :
    (s.putHead k v).dlaneAt p = s.dlaneAt p := rfl
@[simp] theorem State.putHead_groupAt (k : Nat) (v : Head) (p : Nat) :
    (s.putHead k v).groupAt p = s.groupAt p := rfl
@[simp] theorem State.putHead_engineAt (k : Nat) (v : Head) (p : Nat) :
    (s.putHead k v).engineAt p = s.engineAt p := rfl
@[simp] theorem State.putHead_headAt (k : Nat) (v : Head) :
    (s.putHead k v).headAt k = v := Store.read_write_self _ _ _ _
@[simp] theorem State.modHead_eq (k : Nat) (f : Head → Head) :
    s.modHead k f = s.putHead k (f (s.headAt k)) := rfl
theorem State.putHead_headAt_ne (k i : Nat) (v : Head) (h : i ≠ k) :
    (s.putHead k v).headAt i = s.headAt i := Store.read_write_ne _ _ _ h
@[simp] theorem State.putUlane_regs (k : Nat) (v : Lane) :
    (s.putUlane k v).regs = s.regs := rfl
@[simp] theorem State.putUlane_doms (k : Nat) (v : Lane) :
    (s.putUlane k v).doms = s.doms := rfl
@[simp] theorem State.putUlane_ev (k : Nat) (v : Lane) :
    (s.putUlane k v).ev = s.ev := rfl
@[simp] theorem State.putUlane_sess (k : Nat) (v : Lane) :
    (s.putUlane k v).sess = s.sess := rfl
@[simp] theorem State.putUlane_wire (k : Nat) (v : Lane) :
    (s.putUlane k v).wire = s.wire := rfl
@[simp] theorem State.putUlane_actor (k : Nat) (v : Lane) :
    (s.putUlane k v).actor = s.actor := rfl
@[simp] theorem State.putUlane_tap (k : Nat) (v : Lane) :
    (s.putUlane k v).tap = s.tap := rfl
@[simp] theorem State.putUlane_pending (k : Nat) (v : Lane) :
    (s.putUlane k v).pending = s.pending := rfl
@[simp] theorem State.putUlane_timebase (k : Nat) (v : Lane) :
    (s.putUlane k v).timebase = s.timebase := rfl
@[simp] theorem State.putUlane_dev (k : Nat) (v : Lane) :
    (s.putUlane k v).dev = s.dev := rfl
@[simp] theorem State.putUlane_dram (k : Nat) (v : Lane) :
    (s.putUlane k v).dram = s.dram := rfl
@[simp] theorem State.putUlane_rd (k : Nat) (v : Lane) (i : EntryDef) (p q : Nat) :
    (s.putUlane k v).rd i p q = s.rd i p q := rfl
@[simp] theorem State.putUlane_flag (k : Nat) (v : Lane) (i : EntryDef) (p q : Nat) :
    (s.putUlane k v).flag i p q = s.flag i p q := rfl
@[simp] theorem State.putUlane_rdInt (k : Nat) (v : Lane) (i : EntryDef) (p q : Nat) :
    (s.putUlane k v).rdInt i p q = s.rdInt i p q := rfl
@[simp] theorem State.putUlane_dom (k : Nat) (v : Lane) (i : EntryDef) (p q : Nat) :
    (s.putUlane k v).dom i p q = s.dom i p q := rfl
@[simp] theorem State.putUlane_floor (k : Nat) (v : Lane) :
    (s.putUlane k v).floor = s.floor := rfl
@[simp] theorem State.putUlane_devState (k : Nat) (v : Lane) :
    (s.putUlane k v).devState = s.devState := rfl
@[simp] theorem State.putUlane_dictUp (k : Nat) (v : Lane) :
    (s.putUlane k v).dictUp = s.dictUp := rfl
@[simp] theorem State.putUlane_alive (k : Nat) (v : Lane) :
    (s.putUlane k v).alive = s.alive := rfl
@[simp] theorem State.putUlane_hostByte (k : Nat) (v : Lane) (p : Nat) :
    (s.putUlane k v).hostByte p = s.hostByte p := rfl
@[simp] theorem State.putUlane_sessAt (k : Nat) (v : Lane) (p : Nat) :
    (s.putUlane k v).sessAt p = s.sessAt p := rfl
@[simp] theorem State.putUlane_canvasAt (k : Nat) (v : Lane) (p : Nat) :
    (s.putUlane k v).canvasAt p = s.canvasAt p := rfl
@[simp] theorem State.putUlane_layerAt (k : Nat) (v : Lane) (p : Nat) :
    (s.putUlane k v).layerAt p = s.layerAt p := rfl
@[simp] theorem State.putUlane_headAt (k : Nat) (v : Lane) (p : Nat) :
    (s.putUlane k v).headAt p = s.headAt p := rfl
@[simp] theorem State.putUlane_inputAt (k : Nat) (v : Lane) (p : Nat) :
    (s.putUlane k v).inputAt p = s.inputAt p := rfl
@[simp] theorem State.putUlane_hostAt (k : Nat) (v : Lane) (p : Nat) :
    (s.putUlane k v).hostAt p = s.hostAt p := rfl
@[simp] theorem State.putUlane_playerAt (k : Nat) (v : Lane) (p : Nat) :
    (s.putUlane k v).playerAt p = s.playerAt p := rfl
@[simp] theorem State.putUlane_refAt (k : Nat) (v : Lane) (p : Nat) :
    (s.putUlane k v).refAt p = s.refAt p := rfl
@[simp] theorem State.putUlane_ftgAt (k : Nat) (v : Lane) (p : Nat) :
    (s.putUlane k v).ftgAt p = s.ftgAt p := rfl
@[simp] theorem State.putUlane_dlaneAt (k : Nat) (v : Lane) (p : Nat) :
    (s.putUlane k v).dlaneAt p = s.dlaneAt p := rfl
@[simp] theorem State.putUlane_groupAt (k : Nat) (v : Lane) (p : Nat) :
    (s.putUlane k v).groupAt p = s.groupAt p := rfl
@[simp] theorem State.putUlane_engineAt (k : Nat) (v : Lane) (p : Nat) :
    (s.putUlane k v).engineAt p = s.engineAt p := rfl
@[simp] theorem State.putUlane_ulaneAt (k : Nat) (v : Lane) :
    (s.putUlane k v).ulaneAt k = v := Store.read_write_self _ _ _ _
@[simp] theorem State.modUlane_eq (k : Nat) (f : Lane → Lane) :
    s.modUlane k f = s.putUlane k (f (s.ulaneAt k)) := rfl
theorem State.putUlane_ulaneAt_ne (k i : Nat) (v : Lane) (h : i ≠ k) :
    (s.putUlane k v).ulaneAt i = s.ulaneAt i := Store.read_write_ne _ _ _ h
@[simp] theorem State.putDlane_regs (k : Nat) (v : Lane) :
    (s.putDlane k v).regs = s.regs := rfl
@[simp] theorem State.putDlane_doms (k : Nat) (v : Lane) :
    (s.putDlane k v).doms = s.doms := rfl
@[simp] theorem State.putDlane_ev (k : Nat) (v : Lane) :
    (s.putDlane k v).ev = s.ev := rfl
@[simp] theorem State.putDlane_sess (k : Nat) (v : Lane) :
    (s.putDlane k v).sess = s.sess := rfl
@[simp] theorem State.putDlane_wire (k : Nat) (v : Lane) :
    (s.putDlane k v).wire = s.wire := rfl
@[simp] theorem State.putDlane_actor (k : Nat) (v : Lane) :
    (s.putDlane k v).actor = s.actor := rfl
@[simp] theorem State.putDlane_tap (k : Nat) (v : Lane) :
    (s.putDlane k v).tap = s.tap := rfl
@[simp] theorem State.putDlane_pending (k : Nat) (v : Lane) :
    (s.putDlane k v).pending = s.pending := rfl
@[simp] theorem State.putDlane_timebase (k : Nat) (v : Lane) :
    (s.putDlane k v).timebase = s.timebase := rfl
@[simp] theorem State.putDlane_dev (k : Nat) (v : Lane) :
    (s.putDlane k v).dev = s.dev := rfl
@[simp] theorem State.putDlane_dram (k : Nat) (v : Lane) :
    (s.putDlane k v).dram = s.dram := rfl
@[simp] theorem State.putDlane_rd (k : Nat) (v : Lane) (i : EntryDef) (p q : Nat) :
    (s.putDlane k v).rd i p q = s.rd i p q := rfl
@[simp] theorem State.putDlane_flag (k : Nat) (v : Lane) (i : EntryDef) (p q : Nat) :
    (s.putDlane k v).flag i p q = s.flag i p q := rfl
@[simp] theorem State.putDlane_rdInt (k : Nat) (v : Lane) (i : EntryDef) (p q : Nat) :
    (s.putDlane k v).rdInt i p q = s.rdInt i p q := rfl
@[simp] theorem State.putDlane_dom (k : Nat) (v : Lane) (i : EntryDef) (p q : Nat) :
    (s.putDlane k v).dom i p q = s.dom i p q := rfl
@[simp] theorem State.putDlane_floor (k : Nat) (v : Lane) :
    (s.putDlane k v).floor = s.floor := rfl
@[simp] theorem State.putDlane_devState (k : Nat) (v : Lane) :
    (s.putDlane k v).devState = s.devState := rfl
@[simp] theorem State.putDlane_dictUp (k : Nat) (v : Lane) :
    (s.putDlane k v).dictUp = s.dictUp := rfl
@[simp] theorem State.putDlane_alive (k : Nat) (v : Lane) :
    (s.putDlane k v).alive = s.alive := rfl
@[simp] theorem State.putDlane_hostByte (k : Nat) (v : Lane) (p : Nat) :
    (s.putDlane k v).hostByte p = s.hostByte p := rfl
@[simp] theorem State.putDlane_sessAt (k : Nat) (v : Lane) (p : Nat) :
    (s.putDlane k v).sessAt p = s.sessAt p := rfl
@[simp] theorem State.putDlane_canvasAt (k : Nat) (v : Lane) (p : Nat) :
    (s.putDlane k v).canvasAt p = s.canvasAt p := rfl
@[simp] theorem State.putDlane_layerAt (k : Nat) (v : Lane) (p : Nat) :
    (s.putDlane k v).layerAt p = s.layerAt p := rfl
@[simp] theorem State.putDlane_headAt (k : Nat) (v : Lane) (p : Nat) :
    (s.putDlane k v).headAt p = s.headAt p := rfl
@[simp] theorem State.putDlane_inputAt (k : Nat) (v : Lane) (p : Nat) :
    (s.putDlane k v).inputAt p = s.inputAt p := rfl
@[simp] theorem State.putDlane_hostAt (k : Nat) (v : Lane) (p : Nat) :
    (s.putDlane k v).hostAt p = s.hostAt p := rfl
@[simp] theorem State.putDlane_playerAt (k : Nat) (v : Lane) (p : Nat) :
    (s.putDlane k v).playerAt p = s.playerAt p := rfl
@[simp] theorem State.putDlane_refAt (k : Nat) (v : Lane) (p : Nat) :
    (s.putDlane k v).refAt p = s.refAt p := rfl
@[simp] theorem State.putDlane_ftgAt (k : Nat) (v : Lane) (p : Nat) :
    (s.putDlane k v).ftgAt p = s.ftgAt p := rfl
@[simp] theorem State.putDlane_ulaneAt (k : Nat) (v : Lane) (p : Nat) :
    (s.putDlane k v).ulaneAt p = s.ulaneAt p := rfl
@[simp] theorem State.putDlane_groupAt (k : Nat) (v : Lane) (p : Nat) :
    (s.putDlane k v).groupAt p = s.groupAt p := rfl
@[simp] theorem State.putDlane_engineAt (k : Nat) (v : Lane) (p : Nat) :
    (s.putDlane k v).engineAt p = s.engineAt p := rfl
@[simp] theorem State.putDlane_dlaneAt (k : Nat) (v : Lane) :
    (s.putDlane k v).dlaneAt k = v := Store.read_write_self _ _ _ _
@[simp] theorem State.modDlane_eq (k : Nat) (f : Lane → Lane) :
    s.modDlane k f = s.putDlane k (f (s.dlaneAt k)) := rfl
theorem State.putDlane_dlaneAt_ne (k i : Nat) (v : Lane) (h : i ≠ k) :
    (s.putDlane k v).dlaneAt i = s.dlaneAt i := Store.read_write_ne _ _ _ h
@[simp] theorem State.putGroup_regs (k : Nat) (v : Group) :
    (s.putGroup k v).regs = s.regs := rfl
@[simp] theorem State.putGroup_doms (k : Nat) (v : Group) :
    (s.putGroup k v).doms = s.doms := rfl
@[simp] theorem State.putGroup_ev (k : Nat) (v : Group) :
    (s.putGroup k v).ev = s.ev := rfl
@[simp] theorem State.putGroup_sess (k : Nat) (v : Group) :
    (s.putGroup k v).sess = s.sess := rfl
@[simp] theorem State.putGroup_wire (k : Nat) (v : Group) :
    (s.putGroup k v).wire = s.wire := rfl
@[simp] theorem State.putGroup_actor (k : Nat) (v : Group) :
    (s.putGroup k v).actor = s.actor := rfl
@[simp] theorem State.putGroup_tap (k : Nat) (v : Group) :
    (s.putGroup k v).tap = s.tap := rfl
@[simp] theorem State.putGroup_pending (k : Nat) (v : Group) :
    (s.putGroup k v).pending = s.pending := rfl
@[simp] theorem State.putGroup_timebase (k : Nat) (v : Group) :
    (s.putGroup k v).timebase = s.timebase := rfl
@[simp] theorem State.putGroup_dev (k : Nat) (v : Group) :
    (s.putGroup k v).dev = s.dev := rfl
@[simp] theorem State.putGroup_dram (k : Nat) (v : Group) :
    (s.putGroup k v).dram = s.dram := rfl
@[simp] theorem State.putGroup_rd (k : Nat) (v : Group) (i : EntryDef) (p q : Nat) :
    (s.putGroup k v).rd i p q = s.rd i p q := rfl
@[simp] theorem State.putGroup_flag (k : Nat) (v : Group) (i : EntryDef) (p q : Nat) :
    (s.putGroup k v).flag i p q = s.flag i p q := rfl
@[simp] theorem State.putGroup_rdInt (k : Nat) (v : Group) (i : EntryDef) (p q : Nat) :
    (s.putGroup k v).rdInt i p q = s.rdInt i p q := rfl
@[simp] theorem State.putGroup_dom (k : Nat) (v : Group) (i : EntryDef) (p q : Nat) :
    (s.putGroup k v).dom i p q = s.dom i p q := rfl
@[simp] theorem State.putGroup_floor (k : Nat) (v : Group) :
    (s.putGroup k v).floor = s.floor := rfl
@[simp] theorem State.putGroup_devState (k : Nat) (v : Group) :
    (s.putGroup k v).devState = s.devState := rfl
@[simp] theorem State.putGroup_dictUp (k : Nat) (v : Group) :
    (s.putGroup k v).dictUp = s.dictUp := rfl
@[simp] theorem State.putGroup_alive (k : Nat) (v : Group) :
    (s.putGroup k v).alive = s.alive := rfl
@[simp] theorem State.putGroup_hostByte (k : Nat) (v : Group) (p : Nat) :
    (s.putGroup k v).hostByte p = s.hostByte p := rfl
@[simp] theorem State.putGroup_sessAt (k : Nat) (v : Group) (p : Nat) :
    (s.putGroup k v).sessAt p = s.sessAt p := rfl
@[simp] theorem State.putGroup_canvasAt (k : Nat) (v : Group) (p : Nat) :
    (s.putGroup k v).canvasAt p = s.canvasAt p := rfl
@[simp] theorem State.putGroup_layerAt (k : Nat) (v : Group) (p : Nat) :
    (s.putGroup k v).layerAt p = s.layerAt p := rfl
@[simp] theorem State.putGroup_headAt (k : Nat) (v : Group) (p : Nat) :
    (s.putGroup k v).headAt p = s.headAt p := rfl
@[simp] theorem State.putGroup_inputAt (k : Nat) (v : Group) (p : Nat) :
    (s.putGroup k v).inputAt p = s.inputAt p := rfl
@[simp] theorem State.putGroup_hostAt (k : Nat) (v : Group) (p : Nat) :
    (s.putGroup k v).hostAt p = s.hostAt p := rfl
@[simp] theorem State.putGroup_playerAt (k : Nat) (v : Group) (p : Nat) :
    (s.putGroup k v).playerAt p = s.playerAt p := rfl
@[simp] theorem State.putGroup_refAt (k : Nat) (v : Group) (p : Nat) :
    (s.putGroup k v).refAt p = s.refAt p := rfl
@[simp] theorem State.putGroup_ftgAt (k : Nat) (v : Group) (p : Nat) :
    (s.putGroup k v).ftgAt p = s.ftgAt p := rfl
@[simp] theorem State.putGroup_ulaneAt (k : Nat) (v : Group) (p : Nat) :
    (s.putGroup k v).ulaneAt p = s.ulaneAt p := rfl
@[simp] theorem State.putGroup_dlaneAt (k : Nat) (v : Group) (p : Nat) :
    (s.putGroup k v).dlaneAt p = s.dlaneAt p := rfl
@[simp] theorem State.putGroup_engineAt (k : Nat) (v : Group) (p : Nat) :
    (s.putGroup k v).engineAt p = s.engineAt p := rfl
@[simp] theorem State.putGroup_groupAt (k : Nat) (v : Group) :
    (s.putGroup k v).groupAt k = v := Store.read_write_self _ _ _ _
@[simp] theorem State.modGroup_eq (k : Nat) (f : Group → Group) :
    s.modGroup k f = s.putGroup k (f (s.groupAt k)) := rfl
theorem State.putGroup_groupAt_ne (k i : Nat) (v : Group) (h : i ≠ k) :
    (s.putGroup k v).groupAt i = s.groupAt i := Store.read_write_ne _ _ _ h
@[simp] theorem State.putFlow_regs (k : Nat) (v : Flow) :
    (s.putFlow k v).regs = s.regs := rfl
@[simp] theorem State.putFlow_doms (k : Nat) (v : Flow) :
    (s.putFlow k v).doms = s.doms := rfl
@[simp] theorem State.putFlow_ev (k : Nat) (v : Flow) :
    (s.putFlow k v).ev = s.ev := rfl
@[simp] theorem State.putFlow_sess (k : Nat) (v : Flow) :
    (s.putFlow k v).sess = s.sess := rfl
@[simp] theorem State.putFlow_wire (k : Nat) (v : Flow) :
    (s.putFlow k v).wire = s.wire := rfl
@[simp] theorem State.putFlow_actor (k : Nat) (v : Flow) :
    (s.putFlow k v).actor = s.actor := rfl
@[simp] theorem State.putFlow_tap (k : Nat) (v : Flow) :
    (s.putFlow k v).tap = s.tap := rfl
@[simp] theorem State.putFlow_pending (k : Nat) (v : Flow) :
    (s.putFlow k v).pending = s.pending := rfl
@[simp] theorem State.putFlow_timebase (k : Nat) (v : Flow) :
    (s.putFlow k v).timebase = s.timebase := rfl
@[simp] theorem State.putFlow_dev (k : Nat) (v : Flow) :
    (s.putFlow k v).dev = s.dev := rfl
@[simp] theorem State.putFlow_dram (k : Nat) (v : Flow) :
    (s.putFlow k v).dram = s.dram := rfl
@[simp] theorem State.putFlow_rd (k : Nat) (v : Flow) (i : EntryDef) (p q : Nat) :
    (s.putFlow k v).rd i p q = s.rd i p q := rfl
@[simp] theorem State.putFlow_flag (k : Nat) (v : Flow) (i : EntryDef) (p q : Nat) :
    (s.putFlow k v).flag i p q = s.flag i p q := rfl
@[simp] theorem State.putFlow_rdInt (k : Nat) (v : Flow) (i : EntryDef) (p q : Nat) :
    (s.putFlow k v).rdInt i p q = s.rdInt i p q := rfl
@[simp] theorem State.putFlow_dom (k : Nat) (v : Flow) (i : EntryDef) (p q : Nat) :
    (s.putFlow k v).dom i p q = s.dom i p q := rfl
@[simp] theorem State.putFlow_floor (k : Nat) (v : Flow) :
    (s.putFlow k v).floor = s.floor := rfl
@[simp] theorem State.putFlow_devState (k : Nat) (v : Flow) :
    (s.putFlow k v).devState = s.devState := rfl
@[simp] theorem State.putFlow_dictUp (k : Nat) (v : Flow) :
    (s.putFlow k v).dictUp = s.dictUp := rfl
@[simp] theorem State.putFlow_alive (k : Nat) (v : Flow) :
    (s.putFlow k v).alive = s.alive := rfl
@[simp] theorem State.putFlow_hostByte (k : Nat) (v : Flow) (p : Nat) :
    (s.putFlow k v).hostByte p = s.hostByte p := rfl
@[simp] theorem State.putFlow_sessAt (k : Nat) (v : Flow) (p : Nat) :
    (s.putFlow k v).sessAt p = s.sessAt p := rfl
@[simp] theorem State.putFlow_canvasAt (k : Nat) (v : Flow) (p : Nat) :
    (s.putFlow k v).canvasAt p = s.canvasAt p := rfl
@[simp] theorem State.putFlow_layerAt (k : Nat) (v : Flow) (p : Nat) :
    (s.putFlow k v).layerAt p = s.layerAt p := rfl
@[simp] theorem State.putFlow_headAt (k : Nat) (v : Flow) (p : Nat) :
    (s.putFlow k v).headAt p = s.headAt p := rfl
@[simp] theorem State.putFlow_inputAt (k : Nat) (v : Flow) (p : Nat) :
    (s.putFlow k v).inputAt p = s.inputAt p := rfl
@[simp] theorem State.putFlow_hostAt (k : Nat) (v : Flow) (p : Nat) :
    (s.putFlow k v).hostAt p = s.hostAt p := rfl
@[simp] theorem State.putFlow_playerAt (k : Nat) (v : Flow) (p : Nat) :
    (s.putFlow k v).playerAt p = s.playerAt p := rfl
@[simp] theorem State.putFlow_refAt (k : Nat) (v : Flow) (p : Nat) :
    (s.putFlow k v).refAt p = s.refAt p := rfl
@[simp] theorem State.putFlow_ftgAt (k : Nat) (v : Flow) (p : Nat) :
    (s.putFlow k v).ftgAt p = s.ftgAt p := rfl
@[simp] theorem State.putFlow_ulaneAt (k : Nat) (v : Flow) (p : Nat) :
    (s.putFlow k v).ulaneAt p = s.ulaneAt p := rfl
@[simp] theorem State.putFlow_dlaneAt (k : Nat) (v : Flow) (p : Nat) :
    (s.putFlow k v).dlaneAt p = s.dlaneAt p := rfl
@[simp] theorem State.putFlow_groupAt (k : Nat) (v : Flow) (p : Nat) :
    (s.putFlow k v).groupAt p = s.groupAt p := rfl
@[simp] theorem State.putFlow_engineAt (k : Nat) (v : Flow) (p : Nat) :
    (s.putFlow k v).engineAt p = s.engineAt p := rfl
@[simp] theorem State.putFlow_flowAt (k : Nat) (v : Flow) :
    (s.putFlow k v).flowAt k = v := Store.read_write_self _ _ _ _
@[simp] theorem State.modFlow_eq (k : Nat) (f : Flow → Flow) :
    s.modFlow k f = s.putFlow k (f (s.flowAt k)) := rfl
theorem State.putFlow_flowAt_ne (k i : Nat) (v : Flow) (h : i ≠ k) :
    (s.putFlow k v).flowAt i = s.flowAt i := Store.read_write_ne _ _ _ h
@[simp] theorem State.putTile_regs (k : Nat) (v : Tile) :
    (s.putTile k v).regs = s.regs := rfl
@[simp] theorem State.putTile_doms (k : Nat) (v : Tile) :
    (s.putTile k v).doms = s.doms := rfl
@[simp] theorem State.putTile_ev (k : Nat) (v : Tile) :
    (s.putTile k v).ev = s.ev := rfl
@[simp] theorem State.putTile_sess (k : Nat) (v : Tile) :
    (s.putTile k v).sess = s.sess := rfl
@[simp] theorem State.putTile_wire (k : Nat) (v : Tile) :
    (s.putTile k v).wire = s.wire := rfl
@[simp] theorem State.putTile_actor (k : Nat) (v : Tile) :
    (s.putTile k v).actor = s.actor := rfl
@[simp] theorem State.putTile_tap (k : Nat) (v : Tile) :
    (s.putTile k v).tap = s.tap := rfl
@[simp] theorem State.putTile_pending (k : Nat) (v : Tile) :
    (s.putTile k v).pending = s.pending := rfl
@[simp] theorem State.putTile_timebase (k : Nat) (v : Tile) :
    (s.putTile k v).timebase = s.timebase := rfl
@[simp] theorem State.putTile_dev (k : Nat) (v : Tile) :
    (s.putTile k v).dev = s.dev := rfl
@[simp] theorem State.putTile_dram (k : Nat) (v : Tile) :
    (s.putTile k v).dram = s.dram := rfl
@[simp] theorem State.putTile_rd (k : Nat) (v : Tile) (i : EntryDef) (p q : Nat) :
    (s.putTile k v).rd i p q = s.rd i p q := rfl
@[simp] theorem State.putTile_flag (k : Nat) (v : Tile) (i : EntryDef) (p q : Nat) :
    (s.putTile k v).flag i p q = s.flag i p q := rfl
@[simp] theorem State.putTile_rdInt (k : Nat) (v : Tile) (i : EntryDef) (p q : Nat) :
    (s.putTile k v).rdInt i p q = s.rdInt i p q := rfl
@[simp] theorem State.putTile_dom (k : Nat) (v : Tile) (i : EntryDef) (p q : Nat) :
    (s.putTile k v).dom i p q = s.dom i p q := rfl
@[simp] theorem State.putTile_floor (k : Nat) (v : Tile) :
    (s.putTile k v).floor = s.floor := rfl
@[simp] theorem State.putTile_devState (k : Nat) (v : Tile) :
    (s.putTile k v).devState = s.devState := rfl
@[simp] theorem State.putTile_dictUp (k : Nat) (v : Tile) :
    (s.putTile k v).dictUp = s.dictUp := rfl
@[simp] theorem State.putTile_alive (k : Nat) (v : Tile) :
    (s.putTile k v).alive = s.alive := rfl
@[simp] theorem State.putTile_hostByte (k : Nat) (v : Tile) (p : Nat) :
    (s.putTile k v).hostByte p = s.hostByte p := rfl
@[simp] theorem State.putTile_sessAt (k : Nat) (v : Tile) (p : Nat) :
    (s.putTile k v).sessAt p = s.sessAt p := rfl
@[simp] theorem State.putTile_canvasAt (k : Nat) (v : Tile) (p : Nat) :
    (s.putTile k v).canvasAt p = s.canvasAt p := rfl
@[simp] theorem State.putTile_layerAt (k : Nat) (v : Tile) (p : Nat) :
    (s.putTile k v).layerAt p = s.layerAt p := rfl
@[simp] theorem State.putTile_headAt (k : Nat) (v : Tile) (p : Nat) :
    (s.putTile k v).headAt p = s.headAt p := rfl
@[simp] theorem State.putTile_inputAt (k : Nat) (v : Tile) (p : Nat) :
    (s.putTile k v).inputAt p = s.inputAt p := rfl
@[simp] theorem State.putTile_hostAt (k : Nat) (v : Tile) (p : Nat) :
    (s.putTile k v).hostAt p = s.hostAt p := rfl
@[simp] theorem State.putTile_playerAt (k : Nat) (v : Tile) (p : Nat) :
    (s.putTile k v).playerAt p = s.playerAt p := rfl
@[simp] theorem State.putTile_refAt (k : Nat) (v : Tile) (p : Nat) :
    (s.putTile k v).refAt p = s.refAt p := rfl
@[simp] theorem State.putTile_ftgAt (k : Nat) (v : Tile) (p : Nat) :
    (s.putTile k v).ftgAt p = s.ftgAt p := rfl
@[simp] theorem State.putTile_ulaneAt (k : Nat) (v : Tile) (p : Nat) :
    (s.putTile k v).ulaneAt p = s.ulaneAt p := rfl
@[simp] theorem State.putTile_dlaneAt (k : Nat) (v : Tile) (p : Nat) :
    (s.putTile k v).dlaneAt p = s.dlaneAt p := rfl
@[simp] theorem State.putTile_groupAt (k : Nat) (v : Tile) (p : Nat) :
    (s.putTile k v).groupAt p = s.groupAt p := rfl
@[simp] theorem State.putTile_engineAt (k : Nat) (v : Tile) (p : Nat) :
    (s.putTile k v).engineAt p = s.engineAt p := rfl
@[simp] theorem State.putTile_tileAt (k : Nat) (v : Tile) :
    (s.putTile k v).tileAt k = v := Store.read_write_self _ _ _ _
@[simp] theorem State.modTile_eq (k : Nat) (f : Tile → Tile) :
    s.modTile k f = s.putTile k (f (s.tileAt k)) := rfl
theorem State.putTile_tileAt_ne (k i : Nat) (v : Tile) (h : i ≠ k) :
    (s.putTile k v).tileAt i = s.tileAt i := Store.read_write_ne _ _ _ h
@[simp] theorem State.putRef_regs (k : Nat) (v : Ref) :
    (s.putRef k v).regs = s.regs := rfl
@[simp] theorem State.putRef_doms (k : Nat) (v : Ref) :
    (s.putRef k v).doms = s.doms := rfl
@[simp] theorem State.putRef_ev (k : Nat) (v : Ref) :
    (s.putRef k v).ev = s.ev := rfl
@[simp] theorem State.putRef_sess (k : Nat) (v : Ref) :
    (s.putRef k v).sess = s.sess := rfl
@[simp] theorem State.putRef_wire (k : Nat) (v : Ref) :
    (s.putRef k v).wire = s.wire := rfl
@[simp] theorem State.putRef_actor (k : Nat) (v : Ref) :
    (s.putRef k v).actor = s.actor := rfl
@[simp] theorem State.putRef_tap (k : Nat) (v : Ref) :
    (s.putRef k v).tap = s.tap := rfl
@[simp] theorem State.putRef_pending (k : Nat) (v : Ref) :
    (s.putRef k v).pending = s.pending := rfl
@[simp] theorem State.putRef_timebase (k : Nat) (v : Ref) :
    (s.putRef k v).timebase = s.timebase := rfl
@[simp] theorem State.putRef_dev (k : Nat) (v : Ref) :
    (s.putRef k v).dev = s.dev := rfl
@[simp] theorem State.putRef_dram (k : Nat) (v : Ref) :
    (s.putRef k v).dram = s.dram := rfl
@[simp] theorem State.putRef_rd (k : Nat) (v : Ref) (i : EntryDef) (p q : Nat) :
    (s.putRef k v).rd i p q = s.rd i p q := rfl
@[simp] theorem State.putRef_flag (k : Nat) (v : Ref) (i : EntryDef) (p q : Nat) :
    (s.putRef k v).flag i p q = s.flag i p q := rfl
@[simp] theorem State.putRef_rdInt (k : Nat) (v : Ref) (i : EntryDef) (p q : Nat) :
    (s.putRef k v).rdInt i p q = s.rdInt i p q := rfl
@[simp] theorem State.putRef_dom (k : Nat) (v : Ref) (i : EntryDef) (p q : Nat) :
    (s.putRef k v).dom i p q = s.dom i p q := rfl
@[simp] theorem State.putRef_floor (k : Nat) (v : Ref) :
    (s.putRef k v).floor = s.floor := rfl
@[simp] theorem State.putRef_devState (k : Nat) (v : Ref) :
    (s.putRef k v).devState = s.devState := rfl
@[simp] theorem State.putRef_dictUp (k : Nat) (v : Ref) :
    (s.putRef k v).dictUp = s.dictUp := rfl
@[simp] theorem State.putRef_alive (k : Nat) (v : Ref) :
    (s.putRef k v).alive = s.alive := rfl
@[simp] theorem State.putRef_hostByte (k : Nat) (v : Ref) (p : Nat) :
    (s.putRef k v).hostByte p = s.hostByte p := rfl
@[simp] theorem State.putRef_sessAt (k : Nat) (v : Ref) (p : Nat) :
    (s.putRef k v).sessAt p = s.sessAt p := rfl
@[simp] theorem State.putRef_canvasAt (k : Nat) (v : Ref) (p : Nat) :
    (s.putRef k v).canvasAt p = s.canvasAt p := rfl
@[simp] theorem State.putRef_layerAt (k : Nat) (v : Ref) (p : Nat) :
    (s.putRef k v).layerAt p = s.layerAt p := rfl
@[simp] theorem State.putRef_headAt (k : Nat) (v : Ref) (p : Nat) :
    (s.putRef k v).headAt p = s.headAt p := rfl
@[simp] theorem State.putRef_inputAt (k : Nat) (v : Ref) (p : Nat) :
    (s.putRef k v).inputAt p = s.inputAt p := rfl
@[simp] theorem State.putRef_hostAt (k : Nat) (v : Ref) (p : Nat) :
    (s.putRef k v).hostAt p = s.hostAt p := rfl
@[simp] theorem State.putRef_playerAt (k : Nat) (v : Ref) (p : Nat) :
    (s.putRef k v).playerAt p = s.playerAt p := rfl
@[simp] theorem State.putRef_ftgAt (k : Nat) (v : Ref) (p : Nat) :
    (s.putRef k v).ftgAt p = s.ftgAt p := rfl
@[simp] theorem State.putRef_ulaneAt (k : Nat) (v : Ref) (p : Nat) :
    (s.putRef k v).ulaneAt p = s.ulaneAt p := rfl
@[simp] theorem State.putRef_dlaneAt (k : Nat) (v : Ref) (p : Nat) :
    (s.putRef k v).dlaneAt p = s.dlaneAt p := rfl
@[simp] theorem State.putRef_groupAt (k : Nat) (v : Ref) (p : Nat) :
    (s.putRef k v).groupAt p = s.groupAt p := rfl
@[simp] theorem State.putRef_engineAt (k : Nat) (v : Ref) (p : Nat) :
    (s.putRef k v).engineAt p = s.engineAt p := rfl
@[simp] theorem State.putRef_refAt (k : Nat) (v : Ref) :
    (s.putRef k v).refAt k = v := Store.read_write_self _ _ _ _
@[simp] theorem State.modRef_eq (k : Nat) (f : Ref → Ref) :
    s.modRef k f = s.putRef k (f (s.refAt k)) := rfl
theorem State.putRef_refAt_ne (k i : Nat) (v : Ref) (h : i ≠ k) :
    (s.putRef k v).refAt i = s.refAt i := Store.read_write_ne _ _ _ h
@[simp] theorem State.putFtg_regs (k : Nat) (v : Ftg) :
    (s.putFtg k v).regs = s.regs := rfl
@[simp] theorem State.putFtg_doms (k : Nat) (v : Ftg) :
    (s.putFtg k v).doms = s.doms := rfl
@[simp] theorem State.putFtg_ev (k : Nat) (v : Ftg) :
    (s.putFtg k v).ev = s.ev := rfl
@[simp] theorem State.putFtg_sess (k : Nat) (v : Ftg) :
    (s.putFtg k v).sess = s.sess := rfl
@[simp] theorem State.putFtg_wire (k : Nat) (v : Ftg) :
    (s.putFtg k v).wire = s.wire := rfl
@[simp] theorem State.putFtg_actor (k : Nat) (v : Ftg) :
    (s.putFtg k v).actor = s.actor := rfl
@[simp] theorem State.putFtg_tap (k : Nat) (v : Ftg) :
    (s.putFtg k v).tap = s.tap := rfl
@[simp] theorem State.putFtg_pending (k : Nat) (v : Ftg) :
    (s.putFtg k v).pending = s.pending := rfl
@[simp] theorem State.putFtg_timebase (k : Nat) (v : Ftg) :
    (s.putFtg k v).timebase = s.timebase := rfl
@[simp] theorem State.putFtg_dev (k : Nat) (v : Ftg) :
    (s.putFtg k v).dev = s.dev := rfl
@[simp] theorem State.putFtg_dram (k : Nat) (v : Ftg) :
    (s.putFtg k v).dram = s.dram := rfl
@[simp] theorem State.putFtg_rd (k : Nat) (v : Ftg) (i : EntryDef) (p q : Nat) :
    (s.putFtg k v).rd i p q = s.rd i p q := rfl
@[simp] theorem State.putFtg_flag (k : Nat) (v : Ftg) (i : EntryDef) (p q : Nat) :
    (s.putFtg k v).flag i p q = s.flag i p q := rfl
@[simp] theorem State.putFtg_rdInt (k : Nat) (v : Ftg) (i : EntryDef) (p q : Nat) :
    (s.putFtg k v).rdInt i p q = s.rdInt i p q := rfl
@[simp] theorem State.putFtg_dom (k : Nat) (v : Ftg) (i : EntryDef) (p q : Nat) :
    (s.putFtg k v).dom i p q = s.dom i p q := rfl
@[simp] theorem State.putFtg_floor (k : Nat) (v : Ftg) :
    (s.putFtg k v).floor = s.floor := rfl
@[simp] theorem State.putFtg_devState (k : Nat) (v : Ftg) :
    (s.putFtg k v).devState = s.devState := rfl
@[simp] theorem State.putFtg_dictUp (k : Nat) (v : Ftg) :
    (s.putFtg k v).dictUp = s.dictUp := rfl
@[simp] theorem State.putFtg_alive (k : Nat) (v : Ftg) :
    (s.putFtg k v).alive = s.alive := rfl
@[simp] theorem State.putFtg_hostByte (k : Nat) (v : Ftg) (p : Nat) :
    (s.putFtg k v).hostByte p = s.hostByte p := rfl
@[simp] theorem State.putFtg_sessAt (k : Nat) (v : Ftg) (p : Nat) :
    (s.putFtg k v).sessAt p = s.sessAt p := rfl
@[simp] theorem State.putFtg_canvasAt (k : Nat) (v : Ftg) (p : Nat) :
    (s.putFtg k v).canvasAt p = s.canvasAt p := rfl
@[simp] theorem State.putFtg_layerAt (k : Nat) (v : Ftg) (p : Nat) :
    (s.putFtg k v).layerAt p = s.layerAt p := rfl
@[simp] theorem State.putFtg_headAt (k : Nat) (v : Ftg) (p : Nat) :
    (s.putFtg k v).headAt p = s.headAt p := rfl
@[simp] theorem State.putFtg_inputAt (k : Nat) (v : Ftg) (p : Nat) :
    (s.putFtg k v).inputAt p = s.inputAt p := rfl
@[simp] theorem State.putFtg_hostAt (k : Nat) (v : Ftg) (p : Nat) :
    (s.putFtg k v).hostAt p = s.hostAt p := rfl
@[simp] theorem State.putFtg_playerAt (k : Nat) (v : Ftg) (p : Nat) :
    (s.putFtg k v).playerAt p = s.playerAt p := rfl
@[simp] theorem State.putFtg_refAt (k : Nat) (v : Ftg) (p : Nat) :
    (s.putFtg k v).refAt p = s.refAt p := rfl
@[simp] theorem State.putFtg_ulaneAt (k : Nat) (v : Ftg) (p : Nat) :
    (s.putFtg k v).ulaneAt p = s.ulaneAt p := rfl
@[simp] theorem State.putFtg_dlaneAt (k : Nat) (v : Ftg) (p : Nat) :
    (s.putFtg k v).dlaneAt p = s.dlaneAt p := rfl
@[simp] theorem State.putFtg_groupAt (k : Nat) (v : Ftg) (p : Nat) :
    (s.putFtg k v).groupAt p = s.groupAt p := rfl
@[simp] theorem State.putFtg_engineAt (k : Nat) (v : Ftg) (p : Nat) :
    (s.putFtg k v).engineAt p = s.engineAt p := rfl
@[simp] theorem State.putFtg_ftgAt (k : Nat) (v : Ftg) :
    (s.putFtg k v).ftgAt k = v := Store.read_write_self _ _ _ _
@[simp] theorem State.modFtg_eq (k : Nat) (f : Ftg → Ftg) :
    s.modFtg k f = s.putFtg k (f (s.ftgAt k)) := rfl
theorem State.putFtg_ftgAt_ne (k i : Nat) (v : Ftg) (h : i ≠ k) :
    (s.putFtg k v).ftgAt i = s.ftgAt i := Store.read_write_ne _ _ _ h
@[simp] theorem State.putChannel_regs (k : Nat) (v : Channel) :
    (s.putChannel k v).regs = s.regs := rfl
@[simp] theorem State.putChannel_doms (k : Nat) (v : Channel) :
    (s.putChannel k v).doms = s.doms := rfl
@[simp] theorem State.putChannel_ev (k : Nat) (v : Channel) :
    (s.putChannel k v).ev = s.ev := rfl
@[simp] theorem State.putChannel_sess (k : Nat) (v : Channel) :
    (s.putChannel k v).sess = s.sess := rfl
@[simp] theorem State.putChannel_wire (k : Nat) (v : Channel) :
    (s.putChannel k v).wire = s.wire := rfl
@[simp] theorem State.putChannel_actor (k : Nat) (v : Channel) :
    (s.putChannel k v).actor = s.actor := rfl
@[simp] theorem State.putChannel_tap (k : Nat) (v : Channel) :
    (s.putChannel k v).tap = s.tap := rfl
@[simp] theorem State.putChannel_pending (k : Nat) (v : Channel) :
    (s.putChannel k v).pending = s.pending := rfl
@[simp] theorem State.putChannel_timebase (k : Nat) (v : Channel) :
    (s.putChannel k v).timebase = s.timebase := rfl
@[simp] theorem State.putChannel_dev (k : Nat) (v : Channel) :
    (s.putChannel k v).dev = s.dev := rfl
@[simp] theorem State.putChannel_dram (k : Nat) (v : Channel) :
    (s.putChannel k v).dram = s.dram := rfl
@[simp] theorem State.putChannel_rd (k : Nat) (v : Channel) (i : EntryDef) (p q : Nat) :
    (s.putChannel k v).rd i p q = s.rd i p q := rfl
@[simp] theorem State.putChannel_flag (k : Nat) (v : Channel) (i : EntryDef) (p q : Nat) :
    (s.putChannel k v).flag i p q = s.flag i p q := rfl
@[simp] theorem State.putChannel_rdInt (k : Nat) (v : Channel) (i : EntryDef) (p q : Nat) :
    (s.putChannel k v).rdInt i p q = s.rdInt i p q := rfl
@[simp] theorem State.putChannel_dom (k : Nat) (v : Channel) (i : EntryDef) (p q : Nat) :
    (s.putChannel k v).dom i p q = s.dom i p q := rfl
@[simp] theorem State.putChannel_floor (k : Nat) (v : Channel) :
    (s.putChannel k v).floor = s.floor := rfl
@[simp] theorem State.putChannel_devState (k : Nat) (v : Channel) :
    (s.putChannel k v).devState = s.devState := rfl
@[simp] theorem State.putChannel_dictUp (k : Nat) (v : Channel) :
    (s.putChannel k v).dictUp = s.dictUp := rfl
@[simp] theorem State.putChannel_alive (k : Nat) (v : Channel) :
    (s.putChannel k v).alive = s.alive := rfl
@[simp] theorem State.putChannel_hostByte (k : Nat) (v : Channel) (p : Nat) :
    (s.putChannel k v).hostByte p = s.hostByte p := rfl
@[simp] theorem State.putChannel_sessAt (k : Nat) (v : Channel) (p : Nat) :
    (s.putChannel k v).sessAt p = s.sessAt p := rfl
@[simp] theorem State.putChannel_canvasAt (k : Nat) (v : Channel) (p : Nat) :
    (s.putChannel k v).canvasAt p = s.canvasAt p := rfl
@[simp] theorem State.putChannel_layerAt (k : Nat) (v : Channel) (p : Nat) :
    (s.putChannel k v).layerAt p = s.layerAt p := rfl
@[simp] theorem State.putChannel_headAt (k : Nat) (v : Channel) (p : Nat) :
    (s.putChannel k v).headAt p = s.headAt p := rfl
@[simp] theorem State.putChannel_inputAt (k : Nat) (v : Channel) (p : Nat) :
    (s.putChannel k v).inputAt p = s.inputAt p := rfl
@[simp] theorem State.putChannel_hostAt (k : Nat) (v : Channel) (p : Nat) :
    (s.putChannel k v).hostAt p = s.hostAt p := rfl
@[simp] theorem State.putChannel_playerAt (k : Nat) (v : Channel) (p : Nat) :
    (s.putChannel k v).playerAt p = s.playerAt p := rfl
@[simp] theorem State.putChannel_refAt (k : Nat) (v : Channel) (p : Nat) :
    (s.putChannel k v).refAt p = s.refAt p := rfl
@[simp] theorem State.putChannel_ftgAt (k : Nat) (v : Channel) (p : Nat) :
    (s.putChannel k v).ftgAt p = s.ftgAt p := rfl
@[simp] theorem State.putChannel_ulaneAt (k : Nat) (v : Channel) (p : Nat) :
    (s.putChannel k v).ulaneAt p = s.ulaneAt p := rfl
@[simp] theorem State.putChannel_dlaneAt (k : Nat) (v : Channel) (p : Nat) :
    (s.putChannel k v).dlaneAt p = s.dlaneAt p := rfl
@[simp] theorem State.putChannel_groupAt (k : Nat) (v : Channel) (p : Nat) :
    (s.putChannel k v).groupAt p = s.groupAt p := rfl
@[simp] theorem State.putChannel_engineAt (k : Nat) (v : Channel) (p : Nat) :
    (s.putChannel k v).engineAt p = s.engineAt p := rfl
@[simp] theorem State.putChannel_channelAt (k : Nat) (v : Channel) :
    (s.putChannel k v).channelAt k = v := Store.read_write_self _ _ _ _
@[simp] theorem State.modChannel_eq (k : Nat) (f : Channel → Channel) :
    s.modChannel k f = s.putChannel k (f (s.channelAt k)) := rfl
theorem State.putChannel_channelAt_ne (k i : Nat) (v : Channel) (h : i ≠ k) :
    (s.putChannel k v).channelAt i = s.channelAt i := Store.read_write_ne _ _ _ h
@[simp] theorem State.putEndpoint_regs (k : Nat) (v : Endpoint) :
    (s.putEndpoint k v).regs = s.regs := rfl
@[simp] theorem State.putEndpoint_doms (k : Nat) (v : Endpoint) :
    (s.putEndpoint k v).doms = s.doms := rfl
@[simp] theorem State.putEndpoint_ev (k : Nat) (v : Endpoint) :
    (s.putEndpoint k v).ev = s.ev := rfl
@[simp] theorem State.putEndpoint_sess (k : Nat) (v : Endpoint) :
    (s.putEndpoint k v).sess = s.sess := rfl
@[simp] theorem State.putEndpoint_wire (k : Nat) (v : Endpoint) :
    (s.putEndpoint k v).wire = s.wire := rfl
@[simp] theorem State.putEndpoint_actor (k : Nat) (v : Endpoint) :
    (s.putEndpoint k v).actor = s.actor := rfl
@[simp] theorem State.putEndpoint_tap (k : Nat) (v : Endpoint) :
    (s.putEndpoint k v).tap = s.tap := rfl
@[simp] theorem State.putEndpoint_pending (k : Nat) (v : Endpoint) :
    (s.putEndpoint k v).pending = s.pending := rfl
@[simp] theorem State.putEndpoint_timebase (k : Nat) (v : Endpoint) :
    (s.putEndpoint k v).timebase = s.timebase := rfl
@[simp] theorem State.putEndpoint_dev (k : Nat) (v : Endpoint) :
    (s.putEndpoint k v).dev = s.dev := rfl
@[simp] theorem State.putEndpoint_dram (k : Nat) (v : Endpoint) :
    (s.putEndpoint k v).dram = s.dram := rfl
@[simp] theorem State.putEndpoint_rd (k : Nat) (v : Endpoint) (i : EntryDef) (p q : Nat) :
    (s.putEndpoint k v).rd i p q = s.rd i p q := rfl
@[simp] theorem State.putEndpoint_flag (k : Nat) (v : Endpoint) (i : EntryDef) (p q : Nat) :
    (s.putEndpoint k v).flag i p q = s.flag i p q := rfl
@[simp] theorem State.putEndpoint_rdInt (k : Nat) (v : Endpoint) (i : EntryDef) (p q : Nat) :
    (s.putEndpoint k v).rdInt i p q = s.rdInt i p q := rfl
@[simp] theorem State.putEndpoint_dom (k : Nat) (v : Endpoint) (i : EntryDef) (p q : Nat) :
    (s.putEndpoint k v).dom i p q = s.dom i p q := rfl
@[simp] theorem State.putEndpoint_floor (k : Nat) (v : Endpoint) :
    (s.putEndpoint k v).floor = s.floor := rfl
@[simp] theorem State.putEndpoint_devState (k : Nat) (v : Endpoint) :
    (s.putEndpoint k v).devState = s.devState := rfl
@[simp] theorem State.putEndpoint_dictUp (k : Nat) (v : Endpoint) :
    (s.putEndpoint k v).dictUp = s.dictUp := rfl
@[simp] theorem State.putEndpoint_alive (k : Nat) (v : Endpoint) :
    (s.putEndpoint k v).alive = s.alive := rfl
@[simp] theorem State.putEndpoint_hostByte (k : Nat) (v : Endpoint) (p : Nat) :
    (s.putEndpoint k v).hostByte p = s.hostByte p := rfl
@[simp] theorem State.putEndpoint_sessAt (k : Nat) (v : Endpoint) (p : Nat) :
    (s.putEndpoint k v).sessAt p = s.sessAt p := rfl
@[simp] theorem State.putEndpoint_canvasAt (k : Nat) (v : Endpoint) (p : Nat) :
    (s.putEndpoint k v).canvasAt p = s.canvasAt p := rfl
@[simp] theorem State.putEndpoint_layerAt (k : Nat) (v : Endpoint) (p : Nat) :
    (s.putEndpoint k v).layerAt p = s.layerAt p := rfl
@[simp] theorem State.putEndpoint_headAt (k : Nat) (v : Endpoint) (p : Nat) :
    (s.putEndpoint k v).headAt p = s.headAt p := rfl
@[simp] theorem State.putEndpoint_inputAt (k : Nat) (v : Endpoint) (p : Nat) :
    (s.putEndpoint k v).inputAt p = s.inputAt p := rfl
@[simp] theorem State.putEndpoint_hostAt (k : Nat) (v : Endpoint) (p : Nat) :
    (s.putEndpoint k v).hostAt p = s.hostAt p := rfl
@[simp] theorem State.putEndpoint_playerAt (k : Nat) (v : Endpoint) (p : Nat) :
    (s.putEndpoint k v).playerAt p = s.playerAt p := rfl
@[simp] theorem State.putEndpoint_refAt (k : Nat) (v : Endpoint) (p : Nat) :
    (s.putEndpoint k v).refAt p = s.refAt p := rfl
@[simp] theorem State.putEndpoint_ftgAt (k : Nat) (v : Endpoint) (p : Nat) :
    (s.putEndpoint k v).ftgAt p = s.ftgAt p := rfl
@[simp] theorem State.putEndpoint_ulaneAt (k : Nat) (v : Endpoint) (p : Nat) :
    (s.putEndpoint k v).ulaneAt p = s.ulaneAt p := rfl
@[simp] theorem State.putEndpoint_dlaneAt (k : Nat) (v : Endpoint) (p : Nat) :
    (s.putEndpoint k v).dlaneAt p = s.dlaneAt p := rfl
@[simp] theorem State.putEndpoint_groupAt (k : Nat) (v : Endpoint) (p : Nat) :
    (s.putEndpoint k v).groupAt p = s.groupAt p := rfl
@[simp] theorem State.putEndpoint_engineAt (k : Nat) (v : Endpoint) (p : Nat) :
    (s.putEndpoint k v).engineAt p = s.engineAt p := rfl
@[simp] theorem State.putEndpoint_endpointAt (k : Nat) (v : Endpoint) :
    (s.putEndpoint k v).endpointAt k = v := Store.read_write_self _ _ _ _
@[simp] theorem State.modEndpoint_eq (k : Nat) (f : Endpoint → Endpoint) :
    s.modEndpoint k f = s.putEndpoint k (f (s.endpointAt k)) := rfl
theorem State.putEndpoint_endpointAt_ne (k i : Nat) (v : Endpoint) (h : i ≠ k) :
    (s.putEndpoint k v).endpointAt i = s.endpointAt i := Store.read_write_ne _ _ _ h
@[simp] theorem State.putImageBad_regs (k : Nat) (v : Bool) :
    (s.putImageBad k v).regs = s.regs := rfl
@[simp] theorem State.putImageBad_doms (k : Nat) (v : Bool) :
    (s.putImageBad k v).doms = s.doms := rfl
@[simp] theorem State.putImageBad_ev (k : Nat) (v : Bool) :
    (s.putImageBad k v).ev = s.ev := rfl
@[simp] theorem State.putImageBad_sess (k : Nat) (v : Bool) :
    (s.putImageBad k v).sess = s.sess := rfl
@[simp] theorem State.putImageBad_wire (k : Nat) (v : Bool) :
    (s.putImageBad k v).wire = s.wire := rfl
@[simp] theorem State.putImageBad_actor (k : Nat) (v : Bool) :
    (s.putImageBad k v).actor = s.actor := rfl
@[simp] theorem State.putImageBad_tap (k : Nat) (v : Bool) :
    (s.putImageBad k v).tap = s.tap := rfl
@[simp] theorem State.putImageBad_pending (k : Nat) (v : Bool) :
    (s.putImageBad k v).pending = s.pending := rfl
@[simp] theorem State.putImageBad_timebase (k : Nat) (v : Bool) :
    (s.putImageBad k v).timebase = s.timebase := rfl
@[simp] theorem State.putImageBad_dev (k : Nat) (v : Bool) :
    (s.putImageBad k v).dev = s.dev := rfl
@[simp] theorem State.putImageBad_dram (k : Nat) (v : Bool) :
    (s.putImageBad k v).dram = s.dram := rfl
@[simp] theorem State.putImageBad_rd (k : Nat) (v : Bool) (i : EntryDef) (p q : Nat) :
    (s.putImageBad k v).rd i p q = s.rd i p q := rfl
@[simp] theorem State.putImageBad_flag (k : Nat) (v : Bool) (i : EntryDef) (p q : Nat) :
    (s.putImageBad k v).flag i p q = s.flag i p q := rfl
@[simp] theorem State.putImageBad_rdInt (k : Nat) (v : Bool) (i : EntryDef) (p q : Nat) :
    (s.putImageBad k v).rdInt i p q = s.rdInt i p q := rfl
@[simp] theorem State.putImageBad_dom (k : Nat) (v : Bool) (i : EntryDef) (p q : Nat) :
    (s.putImageBad k v).dom i p q = s.dom i p q := rfl
@[simp] theorem State.putImageBad_floor (k : Nat) (v : Bool) :
    (s.putImageBad k v).floor = s.floor := rfl
@[simp] theorem State.putImageBad_devState (k : Nat) (v : Bool) :
    (s.putImageBad k v).devState = s.devState := rfl
@[simp] theorem State.putImageBad_dictUp (k : Nat) (v : Bool) :
    (s.putImageBad k v).dictUp = s.dictUp := rfl
@[simp] theorem State.putImageBad_alive (k : Nat) (v : Bool) :
    (s.putImageBad k v).alive = s.alive := rfl
@[simp] theorem State.putImageBad_hostByte (k : Nat) (v : Bool) (p : Nat) :
    (s.putImageBad k v).hostByte p = s.hostByte p := rfl
@[simp] theorem State.putImageBad_sessAt (k : Nat) (v : Bool) (p : Nat) :
    (s.putImageBad k v).sessAt p = s.sessAt p := rfl
@[simp] theorem State.putImageBad_canvasAt (k : Nat) (v : Bool) (p : Nat) :
    (s.putImageBad k v).canvasAt p = s.canvasAt p := rfl
@[simp] theorem State.putImageBad_layerAt (k : Nat) (v : Bool) (p : Nat) :
    (s.putImageBad k v).layerAt p = s.layerAt p := rfl
@[simp] theorem State.putImageBad_headAt (k : Nat) (v : Bool) (p : Nat) :
    (s.putImageBad k v).headAt p = s.headAt p := rfl
@[simp] theorem State.putImageBad_inputAt (k : Nat) (v : Bool) (p : Nat) :
    (s.putImageBad k v).inputAt p = s.inputAt p := rfl
@[simp] theorem State.putImageBad_hostAt (k : Nat) (v : Bool) (p : Nat) :
    (s.putImageBad k v).hostAt p = s.hostAt p := rfl
@[simp] theorem State.putImageBad_playerAt (k : Nat) (v : Bool) (p : Nat) :
    (s.putImageBad k v).playerAt p = s.playerAt p := rfl
@[simp] theorem State.putImageBad_refAt (k : Nat) (v : Bool) (p : Nat) :
    (s.putImageBad k v).refAt p = s.refAt p := rfl
@[simp] theorem State.putImageBad_ftgAt (k : Nat) (v : Bool) (p : Nat) :
    (s.putImageBad k v).ftgAt p = s.ftgAt p := rfl
@[simp] theorem State.putImageBad_ulaneAt (k : Nat) (v : Bool) (p : Nat) :
    (s.putImageBad k v).ulaneAt p = s.ulaneAt p := rfl
@[simp] theorem State.putImageBad_dlaneAt (k : Nat) (v : Bool) (p : Nat) :
    (s.putImageBad k v).dlaneAt p = s.dlaneAt p := rfl
@[simp] theorem State.putImageBad_groupAt (k : Nat) (v : Bool) (p : Nat) :
    (s.putImageBad k v).groupAt p = s.groupAt p := rfl
@[simp] theorem State.putImageBad_engineAt (k : Nat) (v : Bool) (p : Nat) :
    (s.putImageBad k v).engineAt p = s.engineAt p := rfl
@[simp] theorem State.putImageBad_imageBadAt (k : Nat) (v : Bool) :
    (s.putImageBad k v).imageBadAt k = v := Store.read_write_self _ _ _ _
@[simp] theorem State.modImageBad_eq (k : Nat) (f : Bool → Bool) :
    s.modImageBad k f = s.putImageBad k (f (s.imageBadAt k)) := rfl
theorem State.putImageBad_imageBadAt_ne (k i : Nat) (v : Bool) (h : i ≠ k) :
    (s.putImageBad k v).imageBadAt i = s.imageBadAt i := Store.read_write_ne _ _ _ h
@[simp] theorem State.putActive_regs (k : Nat) (v : Nat) :
    (s.putActive k v).regs = s.regs := rfl
@[simp] theorem State.putActive_doms (k : Nat) (v : Nat) :
    (s.putActive k v).doms = s.doms := rfl
@[simp] theorem State.putActive_ev (k : Nat) (v : Nat) :
    (s.putActive k v).ev = s.ev := rfl
@[simp] theorem State.putActive_sess (k : Nat) (v : Nat) :
    (s.putActive k v).sess = s.sess := rfl
@[simp] theorem State.putActive_wire (k : Nat) (v : Nat) :
    (s.putActive k v).wire = s.wire := rfl
@[simp] theorem State.putActive_actor (k : Nat) (v : Nat) :
    (s.putActive k v).actor = s.actor := rfl
@[simp] theorem State.putActive_tap (k : Nat) (v : Nat) :
    (s.putActive k v).tap = s.tap := rfl
@[simp] theorem State.putActive_pending (k : Nat) (v : Nat) :
    (s.putActive k v).pending = s.pending := rfl
@[simp] theorem State.putActive_timebase (k : Nat) (v : Nat) :
    (s.putActive k v).timebase = s.timebase := rfl
@[simp] theorem State.putActive_dev (k : Nat) (v : Nat) :
    (s.putActive k v).dev = s.dev := rfl
@[simp] theorem State.putActive_dram (k : Nat) (v : Nat) :
    (s.putActive k v).dram = s.dram := rfl
@[simp] theorem State.putActive_rd (k : Nat) (v : Nat) (i : EntryDef) (p q : Nat) :
    (s.putActive k v).rd i p q = s.rd i p q := rfl
@[simp] theorem State.putActive_flag (k : Nat) (v : Nat) (i : EntryDef) (p q : Nat) :
    (s.putActive k v).flag i p q = s.flag i p q := rfl
@[simp] theorem State.putActive_rdInt (k : Nat) (v : Nat) (i : EntryDef) (p q : Nat) :
    (s.putActive k v).rdInt i p q = s.rdInt i p q := rfl
@[simp] theorem State.putActive_dom (k : Nat) (v : Nat) (i : EntryDef) (p q : Nat) :
    (s.putActive k v).dom i p q = s.dom i p q := rfl
@[simp] theorem State.putActive_floor (k : Nat) (v : Nat) :
    (s.putActive k v).floor = s.floor := rfl
@[simp] theorem State.putActive_devState (k : Nat) (v : Nat) :
    (s.putActive k v).devState = s.devState := rfl
@[simp] theorem State.putActive_dictUp (k : Nat) (v : Nat) :
    (s.putActive k v).dictUp = s.dictUp := rfl
@[simp] theorem State.putActive_alive (k : Nat) (v : Nat) :
    (s.putActive k v).alive = s.alive := rfl
@[simp] theorem State.putActive_hostByte (k : Nat) (v : Nat) (p : Nat) :
    (s.putActive k v).hostByte p = s.hostByte p := rfl
@[simp] theorem State.putActive_sessAt (k : Nat) (v : Nat) (p : Nat) :
    (s.putActive k v).sessAt p = s.sessAt p := rfl
@[simp] theorem State.putActive_canvasAt (k : Nat) (v : Nat) (p : Nat) :
    (s.putActive k v).canvasAt p = s.canvasAt p := rfl
@[simp] theorem State.putActive_layerAt (k : Nat) (v : Nat) (p : Nat) :
    (s.putActive k v).layerAt p = s.layerAt p := rfl
@[simp] theorem State.putActive_headAt (k : Nat) (v : Nat) (p : Nat) :
    (s.putActive k v).headAt p = s.headAt p := rfl
@[simp] theorem State.putActive_inputAt (k : Nat) (v : Nat) (p : Nat) :
    (s.putActive k v).inputAt p = s.inputAt p := rfl
@[simp] theorem State.putActive_hostAt (k : Nat) (v : Nat) (p : Nat) :
    (s.putActive k v).hostAt p = s.hostAt p := rfl
@[simp] theorem State.putActive_playerAt (k : Nat) (v : Nat) (p : Nat) :
    (s.putActive k v).playerAt p = s.playerAt p := rfl
@[simp] theorem State.putActive_refAt (k : Nat) (v : Nat) (p : Nat) :
    (s.putActive k v).refAt p = s.refAt p := rfl
@[simp] theorem State.putActive_ftgAt (k : Nat) (v : Nat) (p : Nat) :
    (s.putActive k v).ftgAt p = s.ftgAt p := rfl
@[simp] theorem State.putActive_ulaneAt (k : Nat) (v : Nat) (p : Nat) :
    (s.putActive k v).ulaneAt p = s.ulaneAt p := rfl
@[simp] theorem State.putActive_dlaneAt (k : Nat) (v : Nat) (p : Nat) :
    (s.putActive k v).dlaneAt p = s.dlaneAt p := rfl
@[simp] theorem State.putActive_groupAt (k : Nat) (v : Nat) (p : Nat) :
    (s.putActive k v).groupAt p = s.groupAt p := rfl
@[simp] theorem State.putActive_engineAt (k : Nat) (v : Nat) (p : Nat) :
    (s.putActive k v).engineAt p = s.engineAt p := rfl
@[simp] theorem State.putActive_activeAt (k : Nat) (v : Nat) :
    (s.putActive k v).activeAt k = v := Store.read_write_self _ _ _ _
@[simp] theorem State.modActive_eq (k : Nat) (f : Nat → Nat) :
    s.modActive k f = s.putActive k (f (s.activeAt k)) := rfl
theorem State.putActive_activeAt_ne (k i : Nat) (v : Nat) (h : i ≠ k) :
    (s.putActive k v).activeAt i = s.activeAt i := Store.read_write_ne _ _ _ h
@[simp] theorem State.putUdpFail_regs (k : Nat) (v : Nat) :
    (s.putUdpFail k v).regs = s.regs := rfl
@[simp] theorem State.putUdpFail_doms (k : Nat) (v : Nat) :
    (s.putUdpFail k v).doms = s.doms := rfl
@[simp] theorem State.putUdpFail_ev (k : Nat) (v : Nat) :
    (s.putUdpFail k v).ev = s.ev := rfl
@[simp] theorem State.putUdpFail_sess (k : Nat) (v : Nat) :
    (s.putUdpFail k v).sess = s.sess := rfl
@[simp] theorem State.putUdpFail_wire (k : Nat) (v : Nat) :
    (s.putUdpFail k v).wire = s.wire := rfl
@[simp] theorem State.putUdpFail_actor (k : Nat) (v : Nat) :
    (s.putUdpFail k v).actor = s.actor := rfl
@[simp] theorem State.putUdpFail_tap (k : Nat) (v : Nat) :
    (s.putUdpFail k v).tap = s.tap := rfl
@[simp] theorem State.putUdpFail_pending (k : Nat) (v : Nat) :
    (s.putUdpFail k v).pending = s.pending := rfl
@[simp] theorem State.putUdpFail_timebase (k : Nat) (v : Nat) :
    (s.putUdpFail k v).timebase = s.timebase := rfl
@[simp] theorem State.putUdpFail_dev (k : Nat) (v : Nat) :
    (s.putUdpFail k v).dev = s.dev := rfl
@[simp] theorem State.putUdpFail_dram (k : Nat) (v : Nat) :
    (s.putUdpFail k v).dram = s.dram := rfl
@[simp] theorem State.putUdpFail_rd (k : Nat) (v : Nat) (i : EntryDef) (p q : Nat) :
    (s.putUdpFail k v).rd i p q = s.rd i p q := rfl
@[simp] theorem State.putUdpFail_flag (k : Nat) (v : Nat) (i : EntryDef) (p q : Nat) :
    (s.putUdpFail k v).flag i p q = s.flag i p q := rfl
@[simp] theorem State.putUdpFail_rdInt (k : Nat) (v : Nat) (i : EntryDef) (p q : Nat) :
    (s.putUdpFail k v).rdInt i p q = s.rdInt i p q := rfl
@[simp] theorem State.putUdpFail_dom (k : Nat) (v : Nat) (i : EntryDef) (p q : Nat) :
    (s.putUdpFail k v).dom i p q = s.dom i p q := rfl
@[simp] theorem State.putUdpFail_floor (k : Nat) (v : Nat) :
    (s.putUdpFail k v).floor = s.floor := rfl
@[simp] theorem State.putUdpFail_devState (k : Nat) (v : Nat) :
    (s.putUdpFail k v).devState = s.devState := rfl
@[simp] theorem State.putUdpFail_dictUp (k : Nat) (v : Nat) :
    (s.putUdpFail k v).dictUp = s.dictUp := rfl
@[simp] theorem State.putUdpFail_alive (k : Nat) (v : Nat) :
    (s.putUdpFail k v).alive = s.alive := rfl
@[simp] theorem State.putUdpFail_hostByte (k : Nat) (v : Nat) (p : Nat) :
    (s.putUdpFail k v).hostByte p = s.hostByte p := rfl
@[simp] theorem State.putUdpFail_sessAt (k : Nat) (v : Nat) (p : Nat) :
    (s.putUdpFail k v).sessAt p = s.sessAt p := rfl
@[simp] theorem State.putUdpFail_canvasAt (k : Nat) (v : Nat) (p : Nat) :
    (s.putUdpFail k v).canvasAt p = s.canvasAt p := rfl
@[simp] theorem State.putUdpFail_layerAt (k : Nat) (v : Nat) (p : Nat) :
    (s.putUdpFail k v).layerAt p = s.layerAt p := rfl
@[simp] theorem State.putUdpFail_headAt (k : Nat) (v : Nat) (p : Nat) :
    (s.putUdpFail k v).headAt p = s.headAt p := rfl
@[simp] theorem State.putUdpFail_inputAt (k : Nat) (v : Nat) (p : Nat) :
    (s.putUdpFail k v).inputAt p = s.inputAt p := rfl
@[simp] theorem State.putUdpFail_hostAt (k : Nat) (v : Nat) (p : Nat) :
    (s.putUdpFail k v).hostAt p = s.hostAt p := rfl
@[simp] theorem State.putUdpFail_playerAt (k : Nat) (v : Nat) (p : Nat) :
    (s.putUdpFail k v).playerAt p = s.playerAt p := rfl
@[simp] theorem State.putUdpFail_refAt (k : Nat) (v : Nat) (p : Nat) :
    (s.putUdpFail k v).refAt p = s.refAt p := rfl
@[simp] theorem State.putUdpFail_ftgAt (k : Nat) (v : Nat) (p : Nat) :
    (s.putUdpFail k v).ftgAt p = s.ftgAt p := rfl
@[simp] theorem State.putUdpFail_ulaneAt (k : Nat) (v : Nat) (p : Nat) :
    (s.putUdpFail k v).ulaneAt p = s.ulaneAt p := rfl
@[simp] theorem State.putUdpFail_dlaneAt (k : Nat) (v : Nat) (p : Nat) :
    (s.putUdpFail k v).dlaneAt p = s.dlaneAt p := rfl
@[simp] theorem State.putUdpFail_groupAt (k : Nat) (v : Nat) (p : Nat) :
    (s.putUdpFail k v).groupAt p = s.groupAt p := rfl
@[simp] theorem State.putUdpFail_engineAt (k : Nat) (v : Nat) (p : Nat) :
    (s.putUdpFail k v).engineAt p = s.engineAt p := rfl
@[simp] theorem State.putUdpFail_udpFailAt (k : Nat) (v : Nat) :
    (s.putUdpFail k v).udpFailAt k = v := Store.read_write_self _ _ _ _
@[simp] theorem State.modUdpFail_eq (k : Nat) (f : Nat → Nat) :
    s.modUdpFail k f = s.putUdpFail k (f (s.udpFailAt k)) := rfl
theorem State.putUdpFail_udpFailAt_ne (k i : Nat) (v : Nat) (h : i ≠ k) :
    (s.putUdpFail k v).udpFailAt i = s.udpFailAt i := Store.read_write_ne _ _ _ h
@[simp] theorem State.putUdpLock_regs (k : Nat) (v : Nat) :
    (s.putUdpLock k v).regs = s.regs := rfl
@[simp] theorem State.putUdpLock_doms (k : Nat) (v : Nat) :
    (s.putUdpLock k v).doms = s.doms := rfl
@[simp] theorem State.putUdpLock_ev (k : Nat) (v : Nat) :
    (s.putUdpLock k v).ev = s.ev := rfl
@[simp] theorem State.putUdpLock_sess (k : Nat) (v : Nat) :
    (s.putUdpLock k v).sess = s.sess := rfl
@[simp] theorem State.putUdpLock_wire (k : Nat) (v : Nat) :
    (s.putUdpLock k v).wire = s.wire := rfl
@[simp] theorem State.putUdpLock_actor (k : Nat) (v : Nat) :
    (s.putUdpLock k v).actor = s.actor := rfl
@[simp] theorem State.putUdpLock_tap (k : Nat) (v : Nat) :
    (s.putUdpLock k v).tap = s.tap := rfl
@[simp] theorem State.putUdpLock_pending (k : Nat) (v : Nat) :
    (s.putUdpLock k v).pending = s.pending := rfl
@[simp] theorem State.putUdpLock_timebase (k : Nat) (v : Nat) :
    (s.putUdpLock k v).timebase = s.timebase := rfl
@[simp] theorem State.putUdpLock_dev (k : Nat) (v : Nat) :
    (s.putUdpLock k v).dev = s.dev := rfl
@[simp] theorem State.putUdpLock_dram (k : Nat) (v : Nat) :
    (s.putUdpLock k v).dram = s.dram := rfl
@[simp] theorem State.putUdpLock_rd (k : Nat) (v : Nat) (i : EntryDef) (p q : Nat) :
    (s.putUdpLock k v).rd i p q = s.rd i p q := rfl
@[simp] theorem State.putUdpLock_flag (k : Nat) (v : Nat) (i : EntryDef) (p q : Nat) :
    (s.putUdpLock k v).flag i p q = s.flag i p q := rfl
@[simp] theorem State.putUdpLock_rdInt (k : Nat) (v : Nat) (i : EntryDef) (p q : Nat) :
    (s.putUdpLock k v).rdInt i p q = s.rdInt i p q := rfl
@[simp] theorem State.putUdpLock_dom (k : Nat) (v : Nat) (i : EntryDef) (p q : Nat) :
    (s.putUdpLock k v).dom i p q = s.dom i p q := rfl
@[simp] theorem State.putUdpLock_floor (k : Nat) (v : Nat) :
    (s.putUdpLock k v).floor = s.floor := rfl
@[simp] theorem State.putUdpLock_devState (k : Nat) (v : Nat) :
    (s.putUdpLock k v).devState = s.devState := rfl
@[simp] theorem State.putUdpLock_dictUp (k : Nat) (v : Nat) :
    (s.putUdpLock k v).dictUp = s.dictUp := rfl
@[simp] theorem State.putUdpLock_alive (k : Nat) (v : Nat) :
    (s.putUdpLock k v).alive = s.alive := rfl
@[simp] theorem State.putUdpLock_hostByte (k : Nat) (v : Nat) (p : Nat) :
    (s.putUdpLock k v).hostByte p = s.hostByte p := rfl
@[simp] theorem State.putUdpLock_sessAt (k : Nat) (v : Nat) (p : Nat) :
    (s.putUdpLock k v).sessAt p = s.sessAt p := rfl
@[simp] theorem State.putUdpLock_canvasAt (k : Nat) (v : Nat) (p : Nat) :
    (s.putUdpLock k v).canvasAt p = s.canvasAt p := rfl
@[simp] theorem State.putUdpLock_layerAt (k : Nat) (v : Nat) (p : Nat) :
    (s.putUdpLock k v).layerAt p = s.layerAt p := rfl
@[simp] theorem State.putUdpLock_headAt (k : Nat) (v : Nat) (p : Nat) :
    (s.putUdpLock k v).headAt p = s.headAt p := rfl
@[simp] theorem State.putUdpLock_inputAt (k : Nat) (v : Nat) (p : Nat) :
    (s.putUdpLock k v).inputAt p = s.inputAt p := rfl
@[simp] theorem State.putUdpLock_hostAt (k : Nat) (v : Nat) (p : Nat) :
    (s.putUdpLock k v).hostAt p = s.hostAt p := rfl
@[simp] theorem State.putUdpLock_playerAt (k : Nat) (v : Nat) (p : Nat) :
    (s.putUdpLock k v).playerAt p = s.playerAt p := rfl
@[simp] theorem State.putUdpLock_refAt (k : Nat) (v : Nat) (p : Nat) :
    (s.putUdpLock k v).refAt p = s.refAt p := rfl
@[simp] theorem State.putUdpLock_ftgAt (k : Nat) (v : Nat) (p : Nat) :
    (s.putUdpLock k v).ftgAt p = s.ftgAt p := rfl
@[simp] theorem State.putUdpLock_ulaneAt (k : Nat) (v : Nat) (p : Nat) :
    (s.putUdpLock k v).ulaneAt p = s.ulaneAt p := rfl
@[simp] theorem State.putUdpLock_dlaneAt (k : Nat) (v : Nat) (p : Nat) :
    (s.putUdpLock k v).dlaneAt p = s.dlaneAt p := rfl
@[simp] theorem State.putUdpLock_groupAt (k : Nat) (v : Nat) (p : Nat) :
    (s.putUdpLock k v).groupAt p = s.groupAt p := rfl
@[simp] theorem State.putUdpLock_engineAt (k : Nat) (v : Nat) (p : Nat) :
    (s.putUdpLock k v).engineAt p = s.engineAt p := rfl
@[simp] theorem State.putUdpLock_udpLockAt (k : Nat) (v : Nat) :
    (s.putUdpLock k v).udpLockAt k = v := Store.read_write_self _ _ _ _
@[simp] theorem State.modUdpLock_eq (k : Nat) (f : Nat → Nat) :
    s.modUdpLock k f = s.putUdpLock k (f (s.udpLockAt k)) := rfl
theorem State.putUdpLock_udpLockAt_ne (k i : Nat) (v : Nat) (h : i ≠ k) :
    (s.putUdpLock k v).udpLockAt i = s.udpLockAt i := Store.read_write_ne _ _ _ h
@[simp] theorem State.putDropped_regs (k : Nat) (v : List Nat) :
    (s.putDropped k v).regs = s.regs := rfl
@[simp] theorem State.putDropped_doms (k : Nat) (v : List Nat) :
    (s.putDropped k v).doms = s.doms := rfl
@[simp] theorem State.putDropped_ev (k : Nat) (v : List Nat) :
    (s.putDropped k v).ev = s.ev := rfl
@[simp] theorem State.putDropped_sess (k : Nat) (v : List Nat) :
    (s.putDropped k v).sess = s.sess := rfl
@[simp] theorem State.putDropped_wire (k : Nat) (v : List Nat) :
    (s.putDropped k v).wire = s.wire := rfl
@[simp] theorem State.putDropped_actor (k : Nat) (v : List Nat) :
    (s.putDropped k v).actor = s.actor := rfl
@[simp] theorem State.putDropped_tap (k : Nat) (v : List Nat) :
    (s.putDropped k v).tap = s.tap := rfl
@[simp] theorem State.putDropped_pending (k : Nat) (v : List Nat) :
    (s.putDropped k v).pending = s.pending := rfl
@[simp] theorem State.putDropped_timebase (k : Nat) (v : List Nat) :
    (s.putDropped k v).timebase = s.timebase := rfl
@[simp] theorem State.putDropped_dev (k : Nat) (v : List Nat) :
    (s.putDropped k v).dev = s.dev := rfl
@[simp] theorem State.putDropped_dram (k : Nat) (v : List Nat) :
    (s.putDropped k v).dram = s.dram := rfl
@[simp] theorem State.putDropped_rd (k : Nat) (v : List Nat) (i : EntryDef) (p q : Nat) :
    (s.putDropped k v).rd i p q = s.rd i p q := rfl
@[simp] theorem State.putDropped_flag (k : Nat) (v : List Nat) (i : EntryDef) (p q : Nat) :
    (s.putDropped k v).flag i p q = s.flag i p q := rfl
@[simp] theorem State.putDropped_rdInt (k : Nat) (v : List Nat) (i : EntryDef) (p q : Nat) :
    (s.putDropped k v).rdInt i p q = s.rdInt i p q := rfl
@[simp] theorem State.putDropped_dom (k : Nat) (v : List Nat) (i : EntryDef) (p q : Nat) :
    (s.putDropped k v).dom i p q = s.dom i p q := rfl
@[simp] theorem State.putDropped_floor (k : Nat) (v : List Nat) :
    (s.putDropped k v).floor = s.floor := rfl
@[simp] theorem State.putDropped_devState (k : Nat) (v : List Nat) :
    (s.putDropped k v).devState = s.devState := rfl
@[simp] theorem State.putDropped_dictUp (k : Nat) (v : List Nat) :
    (s.putDropped k v).dictUp = s.dictUp := rfl
@[simp] theorem State.putDropped_alive (k : Nat) (v : List Nat) :
    (s.putDropped k v).alive = s.alive := rfl
@[simp] theorem State.putDropped_hostByte (k : Nat) (v : List Nat) (p : Nat) :
    (s.putDropped k v).hostByte p = s.hostByte p := rfl
@[simp] theorem State.putDropped_sessAt (k : Nat) (v : List Nat) (p : Nat) :
    (s.putDropped k v).sessAt p = s.sessAt p := rfl
@[simp] theorem State.putDropped_canvasAt (k : Nat) (v : List Nat) (p : Nat) :
    (s.putDropped k v).canvasAt p = s.canvasAt p := rfl
@[simp] theorem State.putDropped_layerAt (k : Nat) (v : List Nat) (p : Nat) :
    (s.putDropped k v).layerAt p = s.layerAt p := rfl
@[simp] theorem State.putDropped_headAt (k : Nat) (v : List Nat) (p : Nat) :
    (s.putDropped k v).headAt p = s.headAt p := rfl
@[simp] theorem State.putDropped_inputAt (k : Nat) (v : List Nat) (p : Nat) :
    (s.putDropped k v).inputAt p = s.inputAt p := rfl
@[simp] theorem State.putDropped_hostAt (k : Nat) (v : List Nat) (p : Nat) :
    (s.putDropped k v).hostAt p = s.hostAt p := rfl
@[simp] theorem State.putDropped_playerAt (k : Nat) (v : List Nat) (p : Nat) :
    (s.putDropped k v).playerAt p = s.playerAt p := rfl
@[simp] theorem State.putDropped_refAt (k : Nat) (v : List Nat) (p : Nat) :
    (s.putDropped k v).refAt p = s.refAt p := rfl
@[simp] theorem State.putDropped_ftgAt (k : Nat) (v : List Nat) (p : Nat) :
    (s.putDropped k v).ftgAt p = s.ftgAt p := rfl
@[simp] theorem State.putDropped_ulaneAt (k : Nat) (v : List Nat) (p : Nat) :
    (s.putDropped k v).ulaneAt p = s.ulaneAt p := rfl
@[simp] theorem State.putDropped_dlaneAt (k : Nat) (v : List Nat) (p : Nat) :
    (s.putDropped k v).dlaneAt p = s.dlaneAt p := rfl
@[simp] theorem State.putDropped_groupAt (k : Nat) (v : List Nat) (p : Nat) :
    (s.putDropped k v).groupAt p = s.groupAt p := rfl
@[simp] theorem State.putDropped_engineAt (k : Nat) (v : List Nat) (p : Nat) :
    (s.putDropped k v).engineAt p = s.engineAt p := rfl
@[simp] theorem State.putDropped_droppedAt (k : Nat) (v : List Nat) :
    (s.putDropped k v).droppedAt k = v := Store.read_write_self _ _ _ _
@[simp] theorem State.modDropped_eq (k : Nat) (f : List Nat → List Nat) :
    s.modDropped k f = s.putDropped k (f (s.droppedAt k)) := rfl
theorem State.putDropped_droppedAt_ne (k i : Nat) (v : List Nat) (h : i ≠ k) :
    (s.putDropped k v).droppedAt i = s.droppedAt i := Store.read_write_ne _ _ _ h
@[simp] theorem State.putDropTime_regs (k : Nat) (v : Nat) :
    (s.putDropTime k v).regs = s.regs := rfl
@[simp] theorem State.putDropTime_doms (k : Nat) (v : Nat) :
    (s.putDropTime k v).doms = s.doms := rfl
@[simp] theorem State.putDropTime_ev (k : Nat) (v : Nat) :
    (s.putDropTime k v).ev = s.ev := rfl
@[simp] theorem State.putDropTime_sess (k : Nat) (v : Nat) :
    (s.putDropTime k v).sess = s.sess := rfl
@[simp] theorem State.putDropTime_wire (k : Nat) (v : Nat) :
    (s.putDropTime k v).wire = s.wire := rfl
@[simp] theorem State.putDropTime_actor (k : Nat) (v : Nat) :
    (s.putDropTime k v).actor = s.actor := rfl
@[simp] theorem State.putDropTime_tap (k : Nat) (v : Nat) :
    (s.putDropTime k v).tap = s.tap := rfl
@[simp] theorem State.putDropTime_pending (k : Nat) (v : Nat) :
    (s.putDropTime k v).pending = s.pending := rfl
@[simp] theorem State.putDropTime_timebase (k : Nat) (v : Nat) :
    (s.putDropTime k v).timebase = s.timebase := rfl
@[simp] theorem State.putDropTime_dev (k : Nat) (v : Nat) :
    (s.putDropTime k v).dev = s.dev := rfl
@[simp] theorem State.putDropTime_dram (k : Nat) (v : Nat) :
    (s.putDropTime k v).dram = s.dram := rfl
@[simp] theorem State.putDropTime_rd (k : Nat) (v : Nat) (i : EntryDef) (p q : Nat) :
    (s.putDropTime k v).rd i p q = s.rd i p q := rfl
@[simp] theorem State.putDropTime_flag (k : Nat) (v : Nat) (i : EntryDef) (p q : Nat) :
    (s.putDropTime k v).flag i p q = s.flag i p q := rfl
@[simp] theorem State.putDropTime_rdInt (k : Nat) (v : Nat) (i : EntryDef) (p q : Nat) :
    (s.putDropTime k v).rdInt i p q = s.rdInt i p q := rfl
@[simp] theorem State.putDropTime_dom (k : Nat) (v : Nat) (i : EntryDef) (p q : Nat) :
    (s.putDropTime k v).dom i p q = s.dom i p q := rfl
@[simp] theorem State.putDropTime_floor (k : Nat) (v : Nat) :
    (s.putDropTime k v).floor = s.floor := rfl
@[simp] theorem State.putDropTime_devState (k : Nat) (v : Nat) :
    (s.putDropTime k v).devState = s.devState := rfl
@[simp] theorem State.putDropTime_dictUp (k : Nat) (v : Nat) :
    (s.putDropTime k v).dictUp = s.dictUp := rfl
@[simp] theorem State.putDropTime_alive (k : Nat) (v : Nat) :
    (s.putDropTime k v).alive = s.alive := rfl
@[simp] theorem State.putDropTime_hostByte (k : Nat) (v : Nat) (p : Nat) :
    (s.putDropTime k v).hostByte p = s.hostByte p := rfl
@[simp] theorem State.putDropTime_sessAt (k : Nat) (v : Nat) (p : Nat) :
    (s.putDropTime k v).sessAt p = s.sessAt p := rfl
@[simp] theorem State.putDropTime_canvasAt (k : Nat) (v : Nat) (p : Nat) :
    (s.putDropTime k v).canvasAt p = s.canvasAt p := rfl
@[simp] theorem State.putDropTime_layerAt (k : Nat) (v : Nat) (p : Nat) :
    (s.putDropTime k v).layerAt p = s.layerAt p := rfl
@[simp] theorem State.putDropTime_headAt (k : Nat) (v : Nat) (p : Nat) :
    (s.putDropTime k v).headAt p = s.headAt p := rfl
@[simp] theorem State.putDropTime_inputAt (k : Nat) (v : Nat) (p : Nat) :
    (s.putDropTime k v).inputAt p = s.inputAt p := rfl
@[simp] theorem State.putDropTime_hostAt (k : Nat) (v : Nat) (p : Nat) :
    (s.putDropTime k v).hostAt p = s.hostAt p := rfl
@[simp] theorem State.putDropTime_playerAt (k : Nat) (v : Nat) (p : Nat) :
    (s.putDropTime k v).playerAt p = s.playerAt p := rfl
@[simp] theorem State.putDropTime_refAt (k : Nat) (v : Nat) (p : Nat) :
    (s.putDropTime k v).refAt p = s.refAt p := rfl
@[simp] theorem State.putDropTime_ftgAt (k : Nat) (v : Nat) (p : Nat) :
    (s.putDropTime k v).ftgAt p = s.ftgAt p := rfl
@[simp] theorem State.putDropTime_ulaneAt (k : Nat) (v : Nat) (p : Nat) :
    (s.putDropTime k v).ulaneAt p = s.ulaneAt p := rfl
@[simp] theorem State.putDropTime_dlaneAt (k : Nat) (v : Nat) (p : Nat) :
    (s.putDropTime k v).dlaneAt p = s.dlaneAt p := rfl
@[simp] theorem State.putDropTime_groupAt (k : Nat) (v : Nat) (p : Nat) :
    (s.putDropTime k v).groupAt p = s.groupAt p := rfl
@[simp] theorem State.putDropTime_engineAt (k : Nat) (v : Nat) (p : Nat) :
    (s.putDropTime k v).engineAt p = s.engineAt p := rfl
@[simp] theorem State.putDropTime_dropTimeAt (k : Nat) (v : Nat) :
    (s.putDropTime k v).dropTimeAt k = v := Store.read_write_self _ _ _ _
@[simp] theorem State.modDropTime_eq (k : Nat) (f : Nat → Nat) :
    s.modDropTime k f = s.putDropTime k (f (s.dropTimeAt k)) := rfl
theorem State.putDropTime_dropTimeAt_ne (k i : Nat) (v : Nat) (h : i ≠ k) :
    (s.putDropTime k v).dropTimeAt i = s.dropTimeAt i := Store.read_write_ne _ _ _ h
@[simp] theorem State.putRtp_regs (k : Nat) (v : Nat) :
    (s.putRtp k v).regs = s.regs := rfl
@[simp] theorem State.putRtp_doms (k : Nat) (v : Nat) :
    (s.putRtp k v).doms = s.doms := rfl
@[simp] theorem State.putRtp_ev (k : Nat) (v : Nat) :
    (s.putRtp k v).ev = s.ev := rfl
@[simp] theorem State.putRtp_sess (k : Nat) (v : Nat) :
    (s.putRtp k v).sess = s.sess := rfl
@[simp] theorem State.putRtp_wire (k : Nat) (v : Nat) :
    (s.putRtp k v).wire = s.wire := rfl
@[simp] theorem State.putRtp_actor (k : Nat) (v : Nat) :
    (s.putRtp k v).actor = s.actor := rfl
@[simp] theorem State.putRtp_tap (k : Nat) (v : Nat) :
    (s.putRtp k v).tap = s.tap := rfl
@[simp] theorem State.putRtp_pending (k : Nat) (v : Nat) :
    (s.putRtp k v).pending = s.pending := rfl
@[simp] theorem State.putRtp_timebase (k : Nat) (v : Nat) :
    (s.putRtp k v).timebase = s.timebase := rfl
@[simp] theorem State.putRtp_dev (k : Nat) (v : Nat) :
    (s.putRtp k v).dev = s.dev := rfl
@[simp] theorem State.putRtp_dram (k : Nat) (v : Nat) :
    (s.putRtp k v).dram = s.dram := rfl
@[simp] theorem State.putRtp_rd (k : Nat) (v : Nat) (i : EntryDef) (p q : Nat) :
    (s.putRtp k v).rd i p q = s.rd i p q := rfl
@[simp] theorem State.putRtp_flag (k : Nat) (v : Nat) (i : EntryDef) (p q : Nat) :
    (s.putRtp k v).flag i p q = s.flag i p q := rfl
@[simp] theorem State.putRtp_rdInt (k : Nat) (v : Nat) (i : EntryDef) (p q : Nat) :
    (s.putRtp k v).rdInt i p q = s.rdInt i p q := rfl
@[simp] theorem State.putRtp_dom (k : Nat) (v : Nat) (i : EntryDef) (p q : Nat) :
    (s.putRtp k v).dom i p q = s.dom i p q := rfl
@[simp] theorem State.putRtp_floor (k : Nat) (v : Nat) :
    (s.putRtp k v).floor = s.floor := rfl
@[simp] theorem State.putRtp_devState (k : Nat) (v : Nat) :
    (s.putRtp k v).devState = s.devState := rfl
@[simp] theorem State.putRtp_dictUp (k : Nat) (v : Nat) :
    (s.putRtp k v).dictUp = s.dictUp := rfl
@[simp] theorem State.putRtp_alive (k : Nat) (v : Nat) :
    (s.putRtp k v).alive = s.alive := rfl
@[simp] theorem State.putRtp_hostByte (k : Nat) (v : Nat) (p : Nat) :
    (s.putRtp k v).hostByte p = s.hostByte p := rfl
@[simp] theorem State.putRtp_sessAt (k : Nat) (v : Nat) (p : Nat) :
    (s.putRtp k v).sessAt p = s.sessAt p := rfl
@[simp] theorem State.putRtp_canvasAt (k : Nat) (v : Nat) (p : Nat) :
    (s.putRtp k v).canvasAt p = s.canvasAt p := rfl
@[simp] theorem State.putRtp_layerAt (k : Nat) (v : Nat) (p : Nat) :
    (s.putRtp k v).layerAt p = s.layerAt p := rfl
@[simp] theorem State.putRtp_headAt (k : Nat) (v : Nat) (p : Nat) :
    (s.putRtp k v).headAt p = s.headAt p := rfl
@[simp] theorem State.putRtp_inputAt (k : Nat) (v : Nat) (p : Nat) :
    (s.putRtp k v).inputAt p = s.inputAt p := rfl
@[simp] theorem State.putRtp_hostAt (k : Nat) (v : Nat) (p : Nat) :
    (s.putRtp k v).hostAt p = s.hostAt p := rfl
@[simp] theorem State.putRtp_playerAt (k : Nat) (v : Nat) (p : Nat) :
    (s.putRtp k v).playerAt p = s.playerAt p := rfl
@[simp] theorem State.putRtp_refAt (k : Nat) (v : Nat) (p : Nat) :
    (s.putRtp k v).refAt p = s.refAt p := rfl
@[simp] theorem State.putRtp_ftgAt (k : Nat) (v : Nat) (p : Nat) :
    (s.putRtp k v).ftgAt p = s.ftgAt p := rfl
@[simp] theorem State.putRtp_ulaneAt (k : Nat) (v : Nat) (p : Nat) :
    (s.putRtp k v).ulaneAt p = s.ulaneAt p := rfl
@[simp] theorem State.putRtp_dlaneAt (k : Nat) (v : Nat) (p : Nat) :
    (s.putRtp k v).dlaneAt p = s.dlaneAt p := rfl
@[simp] theorem State.putRtp_groupAt (k : Nat) (v : Nat) (p : Nat) :
    (s.putRtp k v).groupAt p = s.groupAt p := rfl
@[simp] theorem State.putRtp_engineAt (k : Nat) (v : Nat) (p : Nat) :
    (s.putRtp k v).engineAt p = s.engineAt p := rfl
@[simp] theorem State.putRtp_rtpAt (k : Nat) (v : Nat) :
    (s.putRtp k v).rtpAt k = v := Store.read_write_self _ _ _ _
@[simp] theorem State.modRtp_eq (k : Nat) (f : Nat → Nat) :
    s.modRtp k f = s.putRtp k (f (s.rtpAt k)) := rfl
theorem State.putRtp_rtpAt_ne (k i : Nat) (v : Nat) (h : i ≠ k) :
    (s.putRtp k v).rtpAt i = s.rtpAt i := Store.read_write_ne _ _ _ h
@[simp] theorem State.putImageCrc_regs (k : Nat) (v : Nat) :
    (s.putImageCrc k v).regs = s.regs := rfl
@[simp] theorem State.putImageCrc_doms (k : Nat) (v : Nat) :
    (s.putImageCrc k v).doms = s.doms := rfl
@[simp] theorem State.putImageCrc_ev (k : Nat) (v : Nat) :
    (s.putImageCrc k v).ev = s.ev := rfl
@[simp] theorem State.putImageCrc_sess (k : Nat) (v : Nat) :
    (s.putImageCrc k v).sess = s.sess := rfl
@[simp] theorem State.putImageCrc_wire (k : Nat) (v : Nat) :
    (s.putImageCrc k v).wire = s.wire := rfl
@[simp] theorem State.putImageCrc_actor (k : Nat) (v : Nat) :
    (s.putImageCrc k v).actor = s.actor := rfl
@[simp] theorem State.putImageCrc_tap (k : Nat) (v : Nat) :
    (s.putImageCrc k v).tap = s.tap := rfl
@[simp] theorem State.putImageCrc_pending (k : Nat) (v : Nat) :
    (s.putImageCrc k v).pending = s.pending := rfl
@[simp] theorem State.putImageCrc_timebase (k : Nat) (v : Nat) :
    (s.putImageCrc k v).timebase = s.timebase := rfl
@[simp] theorem State.putImageCrc_dev (k : Nat) (v : Nat) :
    (s.putImageCrc k v).dev = s.dev := rfl
@[simp] theorem State.putImageCrc_dram (k : Nat) (v : Nat) :
    (s.putImageCrc k v).dram = s.dram := rfl
@[simp] theorem State.putImageCrc_rd (k : Nat) (v : Nat) (i : EntryDef) (p q : Nat) :
    (s.putImageCrc k v).rd i p q = s.rd i p q := rfl
@[simp] theorem State.putImageCrc_flag (k : Nat) (v : Nat) (i : EntryDef) (p q : Nat) :
    (s.putImageCrc k v).flag i p q = s.flag i p q := rfl
@[simp] theorem State.putImageCrc_rdInt (k : Nat) (v : Nat) (i : EntryDef) (p q : Nat) :
    (s.putImageCrc k v).rdInt i p q = s.rdInt i p q := rfl
@[simp] theorem State.putImageCrc_dom (k : Nat) (v : Nat) (i : EntryDef) (p q : Nat) :
    (s.putImageCrc k v).dom i p q = s.dom i p q := rfl
@[simp] theorem State.putImageCrc_floor (k : Nat) (v : Nat) :
    (s.putImageCrc k v).floor = s.floor := rfl
@[simp] theorem State.putImageCrc_devState (k : Nat) (v : Nat) :
    (s.putImageCrc k v).devState = s.devState := rfl
@[simp] theorem State.putImageCrc_dictUp (k : Nat) (v : Nat) :
    (s.putImageCrc k v).dictUp = s.dictUp := rfl
@[simp] theorem State.putImageCrc_alive (k : Nat) (v : Nat) :
    (s.putImageCrc k v).alive = s.alive := rfl
@[simp] theorem State.putImageCrc_hostByte (k : Nat) (v : Nat) (p : Nat) :
    (s.putImageCrc k v).hostByte p = s.hostByte p := rfl
@[simp] theorem State.putImageCrc_sessAt (k : Nat) (v : Nat) (p : Nat) :
    (s.putImageCrc k v).sessAt p = s.sessAt p := rfl
@[simp] theorem State.putImageCrc_canvasAt (k : Nat) (v : Nat) (p : Nat) :
    (s.putImageCrc k v).canvasAt p = s.canvasAt p := rfl
@[simp] theorem State.putImageCrc_layerAt (k : Nat) (v : Nat) (p : Nat) :
    (s.putImageCrc k v).layerAt p = s.layerAt p := rfl
@[simp] theorem State.putImageCrc_headAt (k : Nat) (v : Nat) (p : Nat) :
    (s.putImageCrc k v).headAt p = s.headAt p := rfl
@[simp] theorem State.putImageCrc_inputAt (k : Nat) (v : Nat) (p : Nat) :
    (s.putImageCrc k v).inputAt p = s.inputAt p := rfl
@[simp] theorem State.putImageCrc_hostAt (k : Nat) (v : Nat) (p : Nat) :
    (s.putImageCrc k v).hostAt p = s.hostAt p := rfl
@[simp] theorem State.putImageCrc_playerAt (k : Nat) (v : Nat) (p : Nat) :
    (s.putImageCrc k v).playerAt p = s.playerAt p := rfl
@[simp] theorem State.putImageCrc_refAt (k : Nat) (v : Nat) (p : Nat) :
    (s.putImageCrc k v).refAt p = s.refAt p := rfl
@[simp] theorem State.putImageCrc_ftgAt (k : Nat) (v : Nat) (p : Nat) :
    (s.putImageCrc k v).ftgAt p = s.ftgAt p := rfl
@[simp] theorem State.putImageCrc_ulaneAt (k : Nat) (v : Nat) (p : Nat) :
    (s.putImageCrc k v).ulaneAt p = s.ulaneAt p := rfl
@[simp] theorem State.putImageCrc_dlaneAt (k : Nat) (v : Nat) (p : Nat) :
    (s.putImageCrc k v).dlaneAt p = s.dlaneAt p := rfl
@[simp] theorem State.putImageCrc_groupAt (k : Nat) (v : Nat) (p : Nat) :
    (s.putImageCrc k v).groupAt p = s.groupAt p := rfl
@[simp] theorem State.putImageCrc_engineAt (k : Nat) (v : Nat) (p : Nat) :
    (s.putImageCrc k v).engineAt p = s.engineAt p := rfl
@[simp] theorem State.putImageCrc_imageCrcAt (k : Nat) (v : Nat) :
    (s.putImageCrc k v).imageCrcAt k = v := Store.read_write_self _ _ _ _
@[simp] theorem State.modImageCrc_eq (k : Nat) (f : Nat → Nat) :
    s.modImageCrc k f = s.putImageCrc k (f (s.imageCrcAt k)) := rfl
theorem State.putImageCrc_imageCrcAt_ne (k i : Nat) (v : Nat) (h : i ≠ k) :
    (s.putImageCrc k v).imageCrcAt i = s.imageCrcAt i := Store.read_write_ne _ _ _ h
@[simp] theorem State.putPtlCounter_regs (k : Nat) (v : Nat) :
    (s.putPtlCounter k v).regs = s.regs := rfl
@[simp] theorem State.putPtlCounter_doms (k : Nat) (v : Nat) :
    (s.putPtlCounter k v).doms = s.doms := rfl
@[simp] theorem State.putPtlCounter_ev (k : Nat) (v : Nat) :
    (s.putPtlCounter k v).ev = s.ev := rfl
@[simp] theorem State.putPtlCounter_sess (k : Nat) (v : Nat) :
    (s.putPtlCounter k v).sess = s.sess := rfl
@[simp] theorem State.putPtlCounter_wire (k : Nat) (v : Nat) :
    (s.putPtlCounter k v).wire = s.wire := rfl
@[simp] theorem State.putPtlCounter_actor (k : Nat) (v : Nat) :
    (s.putPtlCounter k v).actor = s.actor := rfl
@[simp] theorem State.putPtlCounter_tap (k : Nat) (v : Nat) :
    (s.putPtlCounter k v).tap = s.tap := rfl
@[simp] theorem State.putPtlCounter_pending (k : Nat) (v : Nat) :
    (s.putPtlCounter k v).pending = s.pending := rfl
@[simp] theorem State.putPtlCounter_timebase (k : Nat) (v : Nat) :
    (s.putPtlCounter k v).timebase = s.timebase := rfl
@[simp] theorem State.putPtlCounter_dev (k : Nat) (v : Nat) :
    (s.putPtlCounter k v).dev = s.dev := rfl
@[simp] theorem State.putPtlCounter_dram (k : Nat) (v : Nat) :
    (s.putPtlCounter k v).dram = s.dram := rfl
@[simp] theorem State.putPtlCounter_rd (k : Nat) (v : Nat) (i : EntryDef) (p q : Nat) :
    (s.putPtlCounter k v).rd i p q = s.rd i p q := rfl
@[simp] theorem State.putPtlCounter_flag (k : Nat) (v : Nat) (i : EntryDef) (p q : Nat) :
    (s.putPtlCounter k v).flag i p q = s.flag i p q := rfl
@[simp] theorem State.putPtlCounter_rdInt (k : Nat) (v : Nat) (i : EntryDef) (p q : Nat) :
    (s.putPtlCounter k v).rdInt i p q = s.rdInt i p q := rfl
@[simp] theorem State.putPtlCounter_dom (k : Nat) (v : Nat) (i : EntryDef) (p q : Nat) :
    (s.putPtlCounter k v).dom i p q = s.dom i p q := rfl
@[simp] theorem State.putPtlCounter_floor (k : Nat) (v : Nat) :
    (s.putPtlCounter k v).floor = s.floor := rfl
@[simp] theorem State.putPtlCounter_devState (k : Nat) (v : Nat) :
    (s.putPtlCounter k v).devState = s.devState := rfl
@[simp] theorem State.putPtlCounter_dictUp (k : Nat) (v : Nat) :
    (s.putPtlCounter k v).dictUp = s.dictUp := rfl
@[simp] theorem State.putPtlCounter_alive (k : Nat) (v : Nat) :
    (s.putPtlCounter k v).alive = s.alive := rfl
@[simp] theorem State.putPtlCounter_hostByte (k : Nat) (v : Nat) (p : Nat) :
    (s.putPtlCounter k v).hostByte p = s.hostByte p := rfl
@[simp] theorem State.putPtlCounter_sessAt (k : Nat) (v : Nat) (p : Nat) :
    (s.putPtlCounter k v).sessAt p = s.sessAt p := rfl
@[simp] theorem State.putPtlCounter_canvasAt (k : Nat) (v : Nat) (p : Nat) :
    (s.putPtlCounter k v).canvasAt p = s.canvasAt p := rfl
@[simp] theorem State.putPtlCounter_layerAt (k : Nat) (v : Nat) (p : Nat) :
    (s.putPtlCounter k v).layerAt p = s.layerAt p := rfl
@[simp] theorem State.putPtlCounter_headAt (k : Nat) (v : Nat) (p : Nat) :
    (s.putPtlCounter k v).headAt p = s.headAt p := rfl
@[simp] theorem State.putPtlCounter_inputAt (k : Nat) (v : Nat) (p : Nat) :
    (s.putPtlCounter k v).inputAt p = s.inputAt p := rfl
@[simp] theorem State.putPtlCounter_hostAt (k : Nat) (v : Nat) (p : Nat) :
    (s.putPtlCounter k v).hostAt p = s.hostAt p := rfl
@[simp] theorem State.putPtlCounter_playerAt (k : Nat) (v : Nat) (p : Nat) :
    (s.putPtlCounter k v).playerAt p = s.playerAt p := rfl
@[simp] theorem State.putPtlCounter_refAt (k : Nat) (v : Nat) (p : Nat) :
    (s.putPtlCounter k v).refAt p = s.refAt p := rfl
@[simp] theorem State.putPtlCounter_ftgAt (k : Nat) (v : Nat) (p : Nat) :
    (s.putPtlCounter k v).ftgAt p = s.ftgAt p := rfl
@[simp] theorem State.putPtlCounter_ulaneAt (k : Nat) (v : Nat) (p : Nat) :
    (s.putPtlCounter k v).ulaneAt p = s.ulaneAt p := rfl
@[simp] theorem State.putPtlCounter_dlaneAt (k : Nat) (v : Nat) (p : Nat) :
    (s.putPtlCounter k v).dlaneAt p = s.dlaneAt p := rfl
@[simp] theorem State.putPtlCounter_groupAt (k : Nat) (v : Nat) (p : Nat) :
    (s.putPtlCounter k v).groupAt p = s.groupAt p := rfl
@[simp] theorem State.putPtlCounter_engineAt (k : Nat) (v : Nat) (p : Nat) :
    (s.putPtlCounter k v).engineAt p = s.engineAt p := rfl
@[simp] theorem State.putPtlCounter_ptlCounterAt (k : Nat) (v : Nat) :
    (s.putPtlCounter k v).ptlCounterAt k = v := Store.read_write_self _ _ _ _
@[simp] theorem State.modPtlCounter_eq (k : Nat) (f : Nat → Nat) :
    s.modPtlCounter k f = s.putPtlCounter k (f (s.ptlCounterAt k)) := rfl
theorem State.putPtlCounter_ptlCounterAt_ne (k i : Nat) (v : Nat) (h : i ≠ k) :
    (s.putPtlCounter k v).ptlCounterAt i = s.ptlCounterAt i := Store.read_write_ne _ _ _ h
@[simp] theorem State.putAuthFail_regs (k : Nat) (v : Nat) :
    (s.putAuthFail k v).regs = s.regs := rfl
@[simp] theorem State.putAuthFail_doms (k : Nat) (v : Nat) :
    (s.putAuthFail k v).doms = s.doms := rfl
@[simp] theorem State.putAuthFail_ev (k : Nat) (v : Nat) :
    (s.putAuthFail k v).ev = s.ev := rfl
@[simp] theorem State.putAuthFail_sess (k : Nat) (v : Nat) :
    (s.putAuthFail k v).sess = s.sess := rfl
@[simp] theorem State.putAuthFail_wire (k : Nat) (v : Nat) :
    (s.putAuthFail k v).wire = s.wire := rfl
@[simp] theorem State.putAuthFail_actor (k : Nat) (v : Nat) :
    (s.putAuthFail k v).actor = s.actor := rfl
@[simp] theorem State.putAuthFail_tap (k : Nat) (v : Nat) :
    (s.putAuthFail k v).tap = s.tap := rfl
@[simp] theorem State.putAuthFail_pending (k : Nat) (v : Nat) :
    (s.putAuthFail k v).pending = s.pending := rfl
@[simp] theorem State.putAuthFail_timebase (k : Nat) (v : Nat) :
    (s.putAuthFail k v).timebase = s.timebase := rfl
@[simp] theorem State.putAuthFail_dev (k : Nat) (v : Nat) :
    (s.putAuthFail k v).dev = s.dev := rfl
@[simp] theorem State.putAuthFail_dram (k : Nat) (v : Nat) :
    (s.putAuthFail k v).dram = s.dram := rfl
@[simp] theorem State.putAuthFail_rd (k : Nat) (v : Nat) (i : EntryDef) (p q : Nat) :
    (s.putAuthFail k v).rd i p q = s.rd i p q := rfl
@[simp] theorem State.putAuthFail_flag (k : Nat) (v : Nat) (i : EntryDef) (p q : Nat) :
    (s.putAuthFail k v).flag i p q = s.flag i p q := rfl
@[simp] theorem State.putAuthFail_rdInt (k : Nat) (v : Nat) (i : EntryDef) (p q : Nat) :
    (s.putAuthFail k v).rdInt i p q = s.rdInt i p q := rfl
@[simp] theorem State.putAuthFail_dom (k : Nat) (v : Nat) (i : EntryDef) (p q : Nat) :
    (s.putAuthFail k v).dom i p q = s.dom i p q := rfl
@[simp] theorem State.putAuthFail_floor (k : Nat) (v : Nat) :
    (s.putAuthFail k v).floor = s.floor := rfl
@[simp] theorem State.putAuthFail_devState (k : Nat) (v : Nat) :
    (s.putAuthFail k v).devState = s.devState := rfl
@[simp] theorem State.putAuthFail_dictUp (k : Nat) (v : Nat) :
    (s.putAuthFail k v).dictUp = s.dictUp := rfl
@[simp] theorem State.putAuthFail_alive (k : Nat) (v : Nat) :
    (s.putAuthFail k v).alive = s.alive := rfl
@[simp] theorem State.putAuthFail_hostByte (k : Nat) (v : Nat) (p : Nat) :
    (s.putAuthFail k v).hostByte p = s.hostByte p := rfl
@[simp] theorem State.putAuthFail_sessAt (k : Nat) (v : Nat) (p : Nat) :
    (s.putAuthFail k v).sessAt p = s.sessAt p := rfl
@[simp] theorem State.putAuthFail_canvasAt (k : Nat) (v : Nat) (p : Nat) :
    (s.putAuthFail k v).canvasAt p = s.canvasAt p := rfl
@[simp] theorem State.putAuthFail_layerAt (k : Nat) (v : Nat) (p : Nat) :
    (s.putAuthFail k v).layerAt p = s.layerAt p := rfl
@[simp] theorem State.putAuthFail_headAt (k : Nat) (v : Nat) (p : Nat) :
    (s.putAuthFail k v).headAt p = s.headAt p := rfl
@[simp] theorem State.putAuthFail_inputAt (k : Nat) (v : Nat) (p : Nat) :
    (s.putAuthFail k v).inputAt p = s.inputAt p := rfl
@[simp] theorem State.putAuthFail_hostAt (k : Nat) (v : Nat) (p : Nat) :
    (s.putAuthFail k v).hostAt p = s.hostAt p := rfl
@[simp] theorem State.putAuthFail_playerAt (k : Nat) (v : Nat) (p : Nat) :
    (s.putAuthFail k v).playerAt p = s.playerAt p := rfl
@[simp] theorem State.putAuthFail_refAt (k : Nat) (v : Nat) (p : Nat) :
    (s.putAuthFail k v).refAt p = s.refAt p := rfl
@[simp] theorem State.putAuthFail_ftgAt (k : Nat) (v : Nat) (p : Nat) :
    (s.putAuthFail k v).ftgAt p = s.ftgAt p := rfl
@[simp] theorem State.putAuthFail_ulaneAt (k : Nat) (v : Nat) (p : Nat) :
    (s.putAuthFail k v).ulaneAt p = s.ulaneAt p := rfl
@[simp] theorem State.putAuthFail_dlaneAt (k : Nat) (v : Nat) (p : Nat) :
    (s.putAuthFail k v).dlaneAt p = s.dlaneAt p := rfl
@[simp] theorem State.putAuthFail_groupAt (k : Nat) (v : Nat) (p : Nat) :
    (s.putAuthFail k v).groupAt p = s.groupAt p := rfl
@[simp] theorem State.putAuthFail_engineAt (k : Nat) (v : Nat) (p : Nat) :
    (s.putAuthFail k v).engineAt p = s.engineAt p := rfl
@[simp] theorem State.putAuthFail_authFailAt (k : Nat) (v : Nat) :
    (s.putAuthFail k v).authFailAt k = v := Store.read_write_self _ _ _ _
@[simp] theorem State.modAuthFail_eq (k : Nat) (f : Nat → Nat) :
    s.modAuthFail k f = s.putAuthFail k (f (s.authFailAt k)) := rfl
theorem State.putAuthFail_authFailAt_ne (k i : Nat) (v : Nat) (h : i ≠ k) :
    (s.putAuthFail k v).authFailAt i = s.authFailAt i := Store.read_write_ne _ _ _ h
@[simp] theorem State.putScan_regs (k : Nat) (v : Nat) :
    (s.putScan k v).regs = s.regs := rfl
@[simp] theorem State.putScan_doms (k : Nat) (v : Nat) :
    (s.putScan k v).doms = s.doms := rfl
@[simp] theorem State.putScan_ev (k : Nat) (v : Nat) :
    (s.putScan k v).ev = s.ev := rfl
@[simp] theorem State.putScan_sess (k : Nat) (v : Nat) :
    (s.putScan k v).sess = s.sess := rfl
@[simp] theorem State.putScan_wire (k : Nat) (v : Nat) :
    (s.putScan k v).wire = s.wire := rfl
@[simp] theorem State.putScan_actor (k : Nat) (v : Nat) :
    (s.putScan k v).actor = s.actor := rfl
@[simp] theorem State.putScan_tap (k : Nat) (v : Nat) :
    (s.putScan k v).tap = s.tap := rfl
@[simp] theorem State.putScan_pending (k : Nat) (v : Nat) :
    (s.putScan k v).pending = s.pending := rfl
@[simp] theorem State.putScan_timebase (k : Nat) (v : Nat) :
    (s.putScan k v).timebase = s.timebase := rfl
@[simp] theorem State.putScan_dev (k : Nat) (v : Nat) :
    (s.putScan k v).dev = s.dev := rfl
@[simp] theorem State.putScan_dram (k : Nat) (v : Nat) :
    (s.putScan k v).dram = s.dram := rfl
@[simp] theorem State.putScan_rd (k : Nat) (v : Nat) (i : EntryDef) (p q : Nat) :
    (s.putScan k v).rd i p q = s.rd i p q := rfl
@[simp] theorem State.putScan_flag (k : Nat) (v : Nat) (i : EntryDef) (p q : Nat) :
    (s.putScan k v).flag i p q = s.flag i p q := rfl
@[simp] theorem State.putScan_rdInt (k : Nat) (v : Nat) (i : EntryDef) (p q : Nat) :
    (s.putScan k v).rdInt i p q = s.rdInt i p q := rfl
@[simp] theorem State.putScan_dom (k : Nat) (v : Nat) (i : EntryDef) (p q : Nat) :
    (s.putScan k v).dom i p q = s.dom i p q := rfl
@[simp] theorem State.putScan_floor (k : Nat) (v : Nat) :
    (s.putScan k v).floor = s.floor := rfl
@[simp] theorem State.putScan_devState (k : Nat) (v : Nat) :
    (s.putScan k v).devState = s.devState := rfl
@[simp] theorem State.putScan_dictUp (k : Nat) (v : Nat) :
    (s.putScan k v).dictUp = s.dictUp := rfl
@[simp] theorem State.putScan_alive (k : Nat) (v : Nat) :
    (s.putScan k v).alive = s.alive := rfl
@[simp] theorem State.putScan_hostByte (k : Nat) (v : Nat) (p : Nat) :
    (s.putScan k v).hostByte p = s.hostByte p := rfl
@[simp] theorem State.putScan_sessAt (k : Nat) (v : Nat) (p : Nat) :
    (s.putScan k v).sessAt p = s.sessAt p := rfl
@[simp] theorem State.putScan_canvasAt (k : Nat) (v : Nat) (p : Nat) :
    (s.putScan k v).canvasAt p = s.canvasAt p := rfl
@[simp] theorem State.putScan_layerAt (k : Nat) (v : Nat) (p : Nat) :
    (s.putScan k v).layerAt p = s.layerAt p := rfl
@[simp] theorem State.putScan_headAt (k : Nat) (v : Nat) (p : Nat) :
    (s.putScan k v).headAt p = s.headAt p := rfl
@[simp] theorem State.putScan_inputAt (k : Nat) (v : Nat) (p : Nat) :
    (s.putScan k v).inputAt p = s.inputAt p := rfl
@[simp] theorem State.putScan_hostAt (k : Nat) (v : Nat) (p : Nat) :
    (s.putScan k v).hostAt p = s.hostAt p := rfl
@[simp] theorem State.putScan_playerAt (k : Nat) (v : Nat) (p : Nat) :
    (s.putScan k v).playerAt p = s.playerAt p := rfl
@[simp] theorem State.putScan_refAt (k : Nat) (v : Nat) (p : Nat) :
    (s.putScan k v).refAt p = s.refAt p := rfl
@[simp] theorem State.putScan_ftgAt (k : Nat) (v : Nat) (p : Nat) :
    (s.putScan k v).ftgAt p = s.ftgAt p := rfl
@[simp] theorem State.putScan_ulaneAt (k : Nat) (v : Nat) (p : Nat) :
    (s.putScan k v).ulaneAt p = s.ulaneAt p := rfl
@[simp] theorem State.putScan_dlaneAt (k : Nat) (v : Nat) (p : Nat) :
    (s.putScan k v).dlaneAt p = s.dlaneAt p := rfl
@[simp] theorem State.putScan_groupAt (k : Nat) (v : Nat) (p : Nat) :
    (s.putScan k v).groupAt p = s.groupAt p := rfl
@[simp] theorem State.putScan_engineAt (k : Nat) (v : Nat) (p : Nat) :
    (s.putScan k v).engineAt p = s.engineAt p := rfl
@[simp] theorem State.putScan_scanAt (k : Nat) (v : Nat) :
    (s.putScan k v).scanAt k = v := Store.read_write_self _ _ _ _
@[simp] theorem State.modScan_eq (k : Nat) (f : Nat → Nat) :
    s.modScan k f = s.putScan k (f (s.scanAt k)) := rfl
theorem State.putScan_scanAt_ne (k i : Nat) (v : Nat) (h : i ≠ k) :
    (s.putScan k v).scanAt i = s.scanAt i := Store.read_write_ne _ _ _ h
@[simp] theorem State.putStage_regs (k : Nat) (v : Nat) :
    (s.putStage k v).regs = s.regs := rfl
@[simp] theorem State.putStage_doms (k : Nat) (v : Nat) :
    (s.putStage k v).doms = s.doms := rfl
@[simp] theorem State.putStage_ev (k : Nat) (v : Nat) :
    (s.putStage k v).ev = s.ev := rfl
@[simp] theorem State.putStage_sess (k : Nat) (v : Nat) :
    (s.putStage k v).sess = s.sess := rfl
@[simp] theorem State.putStage_wire (k : Nat) (v : Nat) :
    (s.putStage k v).wire = s.wire := rfl
@[simp] theorem State.putStage_actor (k : Nat) (v : Nat) :
    (s.putStage k v).actor = s.actor := rfl
@[simp] theorem State.putStage_tap (k : Nat) (v : Nat) :
    (s.putStage k v).tap = s.tap := rfl
@[simp] theorem State.putStage_pending (k : Nat) (v : Nat) :
    (s.putStage k v).pending = s.pending := rfl
@[simp] theorem State.putStage_timebase (k : Nat) (v : Nat) :
    (s.putStage k v).timebase = s.timebase := rfl
@[simp] theorem State.putStage_dev (k : Nat) (v : Nat) :
    (s.putStage k v).dev = s.dev := rfl
@[simp] theorem State.putStage_dram (k : Nat) (v : Nat) :
    (s.putStage k v).dram = s.dram := rfl
@[simp] theorem State.putStage_rd (k : Nat) (v : Nat) (i : EntryDef) (p q : Nat) :
    (s.putStage k v).rd i p q = s.rd i p q := rfl
@[simp] theorem State.putStage_flag (k : Nat) (v : Nat) (i : EntryDef) (p q : Nat) :
    (s.putStage k v).flag i p q = s.flag i p q := rfl
@[simp] theorem State.putStage_rdInt (k : Nat) (v : Nat) (i : EntryDef) (p q : Nat) :
    (s.putStage k v).rdInt i p q = s.rdInt i p q := rfl
@[simp] theorem State.putStage_dom (k : Nat) (v : Nat) (i : EntryDef) (p q : Nat) :
    (s.putStage k v).dom i p q = s.dom i p q := rfl
@[simp] theorem State.putStage_floor (k : Nat) (v : Nat) :
    (s.putStage k v).floor = s.floor := rfl
@[simp] theorem State.putStage_devState (k : Nat) (v : Nat) :
    (s.putStage k v).devState = s.devState := rfl
@[simp] theorem State.putStage_dictUp (k : Nat) (v : Nat) :
    (s.putStage k v).dictUp = s.dictUp := rfl
@[simp] theorem State.putStage_alive (k : Nat) (v : Nat) :
    (s.putStage k v).alive = s.alive := rfl
@[simp] theorem State.putStage_hostByte (k : Nat) (v : Nat) (p : Nat) :
    (s.putStage k v).hostByte p = s.hostByte p := rfl
@[simp] theorem State.putStage_sessAt (k : Nat) (v : Nat) (p : Nat) :
    (s.putStage k v).sessAt p = s.sessAt p := rfl
@[simp] theorem State.putStage_canvasAt (k : Nat) (v : Nat) (p : Nat) :
    (s.putStage k v).canvasAt p = s.canvasAt p := rfl
@[simp] theorem State.putStage_layerAt (k : Nat) (v : Nat) (p : Nat) :
    (s.putStage k v).layerAt p = s.layerAt p := rfl
@[simp] theorem State.putStage_headAt (k : Nat) (v : Nat) (p : Nat) :
    (s.putStage k v).headAt p = s.headAt p := rfl
@[simp] theorem State.putStage_inputAt (k : Nat) (v : Nat) (p : Nat) :
    (s.putStage k v).inputAt p = s.inputAt p := rfl
@[simp] theorem State.putStage_hostAt (k : Nat) (v : Nat) (p : Nat) :
    (s.putStage k v).hostAt p = s.hostAt p := rfl
@[simp] theorem State.putStage_playerAt (k : Nat) (v : Nat) (p : Nat) :
    (s.putStage k v).playerAt p = s.playerAt p := rfl
@[simp] theorem State.putStage_refAt (k : Nat) (v : Nat) (p : Nat) :
    (s.putStage k v).refAt p = s.refAt p := rfl
@[simp] theorem State.putStage_ftgAt (k : Nat) (v : Nat) (p : Nat) :
    (s.putStage k v).ftgAt p = s.ftgAt p := rfl
@[simp] theorem State.putStage_ulaneAt (k : Nat) (v : Nat) (p : Nat) :
    (s.putStage k v).ulaneAt p = s.ulaneAt p := rfl
@[simp] theorem State.putStage_dlaneAt (k : Nat) (v : Nat) (p : Nat) :
    (s.putStage k v).dlaneAt p = s.dlaneAt p := rfl
@[simp] theorem State.putStage_groupAt (k : Nat) (v : Nat) (p : Nat) :
    (s.putStage k v).groupAt p = s.groupAt p := rfl
@[simp] theorem State.putStage_engineAt (k : Nat) (v : Nat) (p : Nat) :
    (s.putStage k v).engineAt p = s.engineAt p := rfl
@[simp] theorem State.putStage_stageAt (k : Nat) (v : Nat) :
    (s.putStage k v).stageAt k = v := Store.read_write_self _ _ _ _
@[simp] theorem State.modStage_eq (k : Nat) (f : Nat → Nat) :
    s.modStage k f = s.putStage k (f (s.stageAt k)) := rfl
theorem State.putStage_stageAt_ne (k i : Nat) (v : Nat) (h : i ≠ k) :
    (s.putStage k v).stageAt i = s.stageAt i := Store.read_write_ne _ _ _ h
@[simp] theorem State.putLining_regs (k : Nat) (v : Nat) :
    (s.putLining k v).regs = s.regs := rfl
@[simp] theorem State.putLining_doms (k : Nat) (v : Nat) :
    (s.putLining k v).doms = s.doms := rfl
@[simp] theorem State.putLining_ev (k : Nat) (v : Nat) :
    (s.putLining k v).ev = s.ev := rfl
@[simp] theorem State.putLining_sess (k : Nat) (v : Nat) :
    (s.putLining k v).sess = s.sess := rfl
@[simp] theorem State.putLining_wire (k : Nat) (v : Nat) :
    (s.putLining k v).wire = s.wire := rfl
@[simp] theorem State.putLining_actor (k : Nat) (v : Nat) :
    (s.putLining k v).actor = s.actor := rfl
@[simp] theorem State.putLining_tap (k : Nat) (v : Nat) :
    (s.putLining k v).tap = s.tap := rfl
@[simp] theorem State.putLining_pending (k : Nat) (v : Nat) :
    (s.putLining k v).pending = s.pending := rfl
@[simp] theorem State.putLining_timebase (k : Nat) (v : Nat) :
    (s.putLining k v).timebase = s.timebase := rfl
@[simp] theorem State.putLining_dev (k : Nat) (v : Nat) :
    (s.putLining k v).dev = s.dev := rfl
@[simp] theorem State.putLining_dram (k : Nat) (v : Nat) :
    (s.putLining k v).dram = s.dram := rfl
@[simp] theorem State.putLining_rd (k : Nat) (v : Nat) (i : EntryDef) (p q : Nat) :
    (s.putLining k v).rd i p q = s.rd i p q := rfl
@[simp] theorem State.putLining_flag (k : Nat) (v : Nat) (i : EntryDef) (p q : Nat) :
    (s.putLining k v).flag i p q = s.flag i p q := rfl
@[simp] theorem State.putLining_rdInt (k : Nat) (v : Nat) (i : EntryDef) (p q : Nat) :
    (s.putLining k v).rdInt i p q = s.rdInt i p q := rfl
@[simp] theorem State.putLining_dom (k : Nat) (v : Nat) (i : EntryDef) (p q : Nat) :
    (s.putLining k v).dom i p q = s.dom i p q := rfl
@[simp] theorem State.putLining_floor (k : Nat) (v : Nat) :
    (s.putLining k v).floor = s.floor := rfl
@[simp] theorem State.putLining_devState (k : Nat) (v : Nat) :
    (s.putLining k v).devState = s.devState := rfl
@[simp] theorem State.putLining_dictUp (k : Nat) (v : Nat) :
    (s.putLining k v).dictUp = s.dictUp := rfl
@[simp] theorem State.putLining_alive (k : Nat) (v : Nat) :
    (s.putLining k v).alive = s.alive := rfl
@[simp] theorem State.putLining_hostByte (k : Nat) (v : Nat) (p : Nat) :
    (s.putLining k v).hostByte p = s.hostByte p := rfl
@[simp] theorem State.putLining_sessAt (k : Nat) (v : Nat) (p : Nat) :
    (s.putLining k v).sessAt p = s.sessAt p := rfl
@[simp] theorem State.putLining_canvasAt (k : Nat) (v : Nat) (p : Nat) :
    (s.putLining k v).canvasAt p = s.canvasAt p := rfl
@[simp] theorem State.putLining_layerAt (k : Nat) (v : Nat) (p : Nat) :
    (s.putLining k v).layerAt p = s.layerAt p := rfl
@[simp] theorem State.putLining_headAt (k : Nat) (v : Nat) (p : Nat) :
    (s.putLining k v).headAt p = s.headAt p := rfl
@[simp] theorem State.putLining_inputAt (k : Nat) (v : Nat) (p : Nat) :
    (s.putLining k v).inputAt p = s.inputAt p := rfl
@[simp] theorem State.putLining_hostAt (k : Nat) (v : Nat) (p : Nat) :
    (s.putLining k v).hostAt p = s.hostAt p := rfl
@[simp] theorem State.putLining_playerAt (k : Nat) (v : Nat) (p : Nat) :
    (s.putLining k v).playerAt p = s.playerAt p := rfl
@[simp] theorem State.putLining_refAt (k : Nat) (v : Nat) (p : Nat) :
    (s.putLining k v).refAt p = s.refAt p := rfl
@[simp] theorem State.putLining_ftgAt (k : Nat) (v : Nat) (p : Nat) :
    (s.putLining k v).ftgAt p = s.ftgAt p := rfl
@[simp] theorem State.putLining_ulaneAt (k : Nat) (v : Nat) (p : Nat) :
    (s.putLining k v).ulaneAt p = s.ulaneAt p := rfl
@[simp] theorem State.putLining_dlaneAt (k : Nat) (v : Nat) (p : Nat) :
    (s.putLining k v).dlaneAt p = s.dlaneAt p := rfl
@[simp] theorem State.putLining_groupAt (k : Nat) (v : Nat) (p : Nat) :
    (s.putLining k v).groupAt p = s.groupAt p := rfl
@[simp] theorem State.putLining_engineAt (k : Nat) (v : Nat) (p : Nat) :
    (s.putLining k v).engineAt p = s.engineAt p := rfl
@[simp] theorem State.putLining_liningAt (k : Nat) (v : Nat) :
    (s.putLining k v).liningAt k = v := Store.read_write_self _ _ _ _
@[simp] theorem State.modLining_eq (k : Nat) (f : Nat → Nat) :
    s.modLining k f = s.putLining k (f (s.liningAt k)) := rfl
theorem State.putLining_liningAt_ne (k i : Nat) (v : Nat) (h : i ≠ k) :
    (s.putLining k v).liningAt i = s.liningAt i := Store.read_write_ne _ _ _ h
@[simp] theorem State.putRoute_regs (k : Nat) (v : List Byte) :
    (s.putRoute k v).regs = s.regs := rfl
@[simp] theorem State.putRoute_doms (k : Nat) (v : List Byte) :
    (s.putRoute k v).doms = s.doms := rfl
@[simp] theorem State.putRoute_ev (k : Nat) (v : List Byte) :
    (s.putRoute k v).ev = s.ev := rfl
@[simp] theorem State.putRoute_sess (k : Nat) (v : List Byte) :
    (s.putRoute k v).sess = s.sess := rfl
@[simp] theorem State.putRoute_wire (k : Nat) (v : List Byte) :
    (s.putRoute k v).wire = s.wire := rfl
@[simp] theorem State.putRoute_actor (k : Nat) (v : List Byte) :
    (s.putRoute k v).actor = s.actor := rfl
@[simp] theorem State.putRoute_tap (k : Nat) (v : List Byte) :
    (s.putRoute k v).tap = s.tap := rfl
@[simp] theorem State.putRoute_pending (k : Nat) (v : List Byte) :
    (s.putRoute k v).pending = s.pending := rfl
@[simp] theorem State.putRoute_timebase (k : Nat) (v : List Byte) :
    (s.putRoute k v).timebase = s.timebase := rfl
@[simp] theorem State.putRoute_dev (k : Nat) (v : List Byte) :
    (s.putRoute k v).dev = s.dev := rfl
@[simp] theorem State.putRoute_dram (k : Nat) (v : List Byte) :
    (s.putRoute k v).dram = s.dram := rfl
@[simp] theorem State.putRoute_rd (k : Nat) (v : List Byte) (i : EntryDef) (p q : Nat) :
    (s.putRoute k v).rd i p q = s.rd i p q := rfl
@[simp] theorem State.putRoute_flag (k : Nat) (v : List Byte) (i : EntryDef) (p q : Nat) :
    (s.putRoute k v).flag i p q = s.flag i p q := rfl
@[simp] theorem State.putRoute_rdInt (k : Nat) (v : List Byte) (i : EntryDef) (p q : Nat) :
    (s.putRoute k v).rdInt i p q = s.rdInt i p q := rfl
@[simp] theorem State.putRoute_dom (k : Nat) (v : List Byte) (i : EntryDef) (p q : Nat) :
    (s.putRoute k v).dom i p q = s.dom i p q := rfl
@[simp] theorem State.putRoute_floor (k : Nat) (v : List Byte) :
    (s.putRoute k v).floor = s.floor := rfl
@[simp] theorem State.putRoute_devState (k : Nat) (v : List Byte) :
    (s.putRoute k v).devState = s.devState := rfl
@[simp] theorem State.putRoute_dictUp (k : Nat) (v : List Byte) :
    (s.putRoute k v).dictUp = s.dictUp := rfl
@[simp] theorem State.putRoute_alive (k : Nat) (v : List Byte) :
    (s.putRoute k v).alive = s.alive := rfl
@[simp] theorem State.putRoute_hostByte (k : Nat) (v : List Byte) (p : Nat) :
    (s.putRoute k v).hostByte p = s.hostByte p := rfl
@[simp] theorem State.putRoute_sessAt (k : Nat) (v : List Byte) (p : Nat) :
    (s.putRoute k v).sessAt p = s.sessAt p := rfl
@[simp] theorem State.putRoute_canvasAt (k : Nat) (v : List Byte) (p : Nat) :
    (s.putRoute k v).canvasAt p = s.canvasAt p := rfl
@[simp] theorem State.putRoute_layerAt (k : Nat) (v : List Byte) (p : Nat) :
    (s.putRoute k v).layerAt p = s.layerAt p := rfl
@[simp] theorem State.putRoute_headAt (k : Nat) (v : List Byte) (p : Nat) :
    (s.putRoute k v).headAt p = s.headAt p := rfl
@[simp] theorem State.putRoute_inputAt (k : Nat) (v : List Byte) (p : Nat) :
    (s.putRoute k v).inputAt p = s.inputAt p := rfl
@[simp] theorem State.putRoute_hostAt (k : Nat) (v : List Byte) (p : Nat) :
    (s.putRoute k v).hostAt p = s.hostAt p := rfl
@[simp] theorem State.putRoute_playerAt (k : Nat) (v : List Byte) (p : Nat) :
    (s.putRoute k v).playerAt p = s.playerAt p := rfl
@[simp] theorem State.putRoute_refAt (k : Nat) (v : List Byte) (p : Nat) :
    (s.putRoute k v).refAt p = s.refAt p := rfl
@[simp] theorem State.putRoute_ftgAt (k : Nat) (v : List Byte) (p : Nat) :
    (s.putRoute k v).ftgAt p = s.ftgAt p := rfl
@[simp] theorem State.putRoute_ulaneAt (k : Nat) (v : List Byte) (p : Nat) :
    (s.putRoute k v).ulaneAt p = s.ulaneAt p := rfl
@[simp] theorem State.putRoute_dlaneAt (k : Nat) (v : List Byte) (p : Nat) :
    (s.putRoute k v).dlaneAt p = s.dlaneAt p := rfl
@[simp] theorem State.putRoute_groupAt (k : Nat) (v : List Byte) (p : Nat) :
    (s.putRoute k v).groupAt p = s.groupAt p := rfl
@[simp] theorem State.putRoute_engineAt (k : Nat) (v : List Byte) (p : Nat) :
    (s.putRoute k v).engineAt p = s.engineAt p := rfl
@[simp] theorem State.putRoute_routeAt (k : Nat) (v : List Byte) :
    (s.putRoute k v).routeAt k = v := Store.read_write_self _ _ _ _
@[simp] theorem State.modRoute_eq (k : Nat) (f : List Byte → List Byte) :
    s.modRoute k f = s.putRoute k (f (s.routeAt k)) := rfl
theorem State.putRoute_routeAt_ne (k i : Nat) (v : List Byte) (h : i ≠ k) :
    (s.putRoute k v).routeAt i = s.routeAt i := Store.read_write_ne _ _ _ h
@[simp] theorem State.putBank_regs (k : Nat) (v : List Byte) :
    (s.putBank k v).regs = s.regs := rfl
@[simp] theorem State.putBank_doms (k : Nat) (v : List Byte) :
    (s.putBank k v).doms = s.doms := rfl
@[simp] theorem State.putBank_ev (k : Nat) (v : List Byte) :
    (s.putBank k v).ev = s.ev := rfl
@[simp] theorem State.putBank_sess (k : Nat) (v : List Byte) :
    (s.putBank k v).sess = s.sess := rfl
@[simp] theorem State.putBank_wire (k : Nat) (v : List Byte) :
    (s.putBank k v).wire = s.wire := rfl
@[simp] theorem State.putBank_actor (k : Nat) (v : List Byte) :
    (s.putBank k v).actor = s.actor := rfl
@[simp] theorem State.putBank_tap (k : Nat) (v : List Byte) :
    (s.putBank k v).tap = s.tap := rfl
@[simp] theorem State.putBank_pending (k : Nat) (v : List Byte) :
    (s.putBank k v).pending = s.pending := rfl
@[simp] theorem State.putBank_timebase (k : Nat) (v : List Byte) :
    (s.putBank k v).timebase = s.timebase := rfl
@[simp] theorem State.putBank_dev (k : Nat) (v : List Byte) :
    (s.putBank k v).dev = s.dev := rfl
@[simp] theorem State.putBank_dram (k : Nat) (v : List Byte) :
    (s.putBank k v).dram = s.dram := rfl
@[simp] theorem State.putBank_rd (k : Nat) (v : List Byte) (i : EntryDef) (p q : Nat) :
    (s.putBank k v).rd i p q = s.rd i p q := rfl
@[simp] theorem State.putBank_flag (k : Nat) (v : List Byte) (i : EntryDef) (p q : Nat) :
    (s.putBank k v).flag i p q = s.flag i p q := rfl
@[simp] theorem State.putBank_rdInt (k : Nat) (v : List Byte) (i : EntryDef) (p q : Nat) :
    (s.putBank k v).rdInt i p q = s.rdInt i p q := rfl
@[simp] theorem State.putBank_dom (k : Nat) (v : List Byte) (i : EntryDef) (p q : Nat) :
    (s.putBank k v).dom i p q = s.dom i p q := rfl
@[simp] theorem State.putBank_floor (k : Nat) (v : List Byte) :
    (s.putBank k v).floor = s.floor := rfl
@[simp] theorem State.putBank_devState (k : Nat) (v : List Byte) :
    (s.putBank k v).devState = s.devState := rfl
@[simp] theorem State.putBank_dictUp (k : Nat) (v : List Byte) :
    (s.putBank k v).dictUp = s.dictUp := rfl
@[simp] theorem State.putBank_alive (k : Nat) (v : List Byte) :
    (s.putBank k v).alive = s.alive := rfl
@[simp] theorem State.putBank_hostByte (k : Nat) (v : List Byte) (p : Nat) :
    (s.putBank k v).hostByte p = s.hostByte p := rfl
@[simp] theorem State.putBank_sessAt (k : Nat) (v : List Byte) (p : Nat) :
    (s.putBank k v).sessAt p = s.sessAt p := rfl
@[simp] theorem State.putBank_canvasAt (k : Nat) (v : List Byte) (p : Nat) :
    (s.putBank k v).canvasAt p = s.canvasAt p := rfl
@[simp] theorem State.putBank_layerAt (k : Nat) (v : List Byte) (p : Nat) :
    (s.putBank k v).layerAt p = s.layerAt p := rfl
@[simp] theorem State.putBank_headAt (k : Nat) (v : List Byte) (p : Nat) :
    (s.putBank k v).headAt p = s.headAt p := rfl
@[simp] theorem State.putBank_inputAt (k : Nat) (v : List Byte) (p : Nat) :
    (s.putBank k v).inputAt p = s.inputAt p := rfl
@[simp] theorem State.putBank_hostAt (k : Nat) (v : List Byte) (p : Nat) :
    (s.putBank k v).hostAt p = s.hostAt p := rfl
@[simp] theorem State.putBank_playerAt (k : Nat) (v : List Byte) (p : Nat) :
    (s.putBank k v).playerAt p = s.playerAt p := rfl
@[simp] theorem State.putBank_refAt (k : Nat) (v : List Byte) (p : Nat) :
    (s.putBank k v).refAt p = s.refAt p := rfl
@[simp] theorem State.putBank_ftgAt (k : Nat) (v : List Byte) (p : Nat) :
    (s.putBank k v).ftgAt p = s.ftgAt p := rfl
@[simp] theorem State.putBank_ulaneAt (k : Nat) (v : List Byte) (p : Nat) :
    (s.putBank k v).ulaneAt p = s.ulaneAt p := rfl
@[simp] theorem State.putBank_dlaneAt (k : Nat) (v : List Byte) (p : Nat) :
    (s.putBank k v).dlaneAt p = s.dlaneAt p := rfl
@[simp] theorem State.putBank_groupAt (k : Nat) (v : List Byte) (p : Nat) :
    (s.putBank k v).groupAt p = s.groupAt p := rfl
@[simp] theorem State.putBank_engineAt (k : Nat) (v : List Byte) (p : Nat) :
    (s.putBank k v).engineAt p = s.engineAt p := rfl
@[simp] theorem State.putBank_bankAt (k : Nat) (v : List Byte) :
    (s.putBank k v).bankAt k = v := Store.read_write_self _ _ _ _
@[simp] theorem State.modBank_eq (k : Nat) (f : List Byte → List Byte) :
    s.modBank k f = s.putBank k (f (s.bankAt k)) := rfl
theorem State.putBank_bankAt_ne (k i : Nat) (v : List Byte) (h : i ≠ k) :
    (s.putBank k v).bankAt i = s.bankAt i := Store.read_write_ne _ _ _ h
@[simp] theorem State.putLut_regs (k : Nat) (v : List Byte) :
    (s.putLut k v).regs = s.regs := rfl
@[simp] theorem State.putLut_doms (k : Nat) (v : List Byte) :
    (s.putLut k v).doms = s.doms := rfl
@[simp] theorem State.putLut_ev (k : Nat) (v : List Byte) :
    (s.putLut k v).ev = s.ev := rfl
@[simp] theorem State.putLut_sess (k : Nat) (v : List Byte) :
    (s.putLut k v).sess = s.sess := rfl
@[simp] theorem State.putLut_wire (k : Nat) (v : List Byte) :
    (s.putLut k v).wire = s.wire := rfl
@[simp] theorem State.putLut_actor (k : Nat) (v : List Byte) :
    (s.putLut k v).actor = s.actor := rfl
@[simp] theorem State.putLut_tap (k : Nat) (v : List Byte) :
    (s.putLut k v).tap = s.tap := rfl
@[simp] theorem State.putLut_pending (k : Nat) (v : List Byte) :
    (s.putLut k v).pending = s.pending := rfl
@[simp] theorem State.putLut_timebase (k : Nat) (v : List Byte) :
    (s.putLut k v).timebase = s.timebase := rfl
@[simp] theorem State.putLut_dev (k : Nat) (v : List Byte) :
    (s.putLut k v).dev = s.dev := rfl
@[simp] theorem State.putLut_dram (k : Nat) (v : List Byte) :
    (s.putLut k v).dram = s.dram := rfl
@[simp] theorem State.putLut_rd (k : Nat) (v : List Byte) (i : EntryDef) (p q : Nat) :
    (s.putLut k v).rd i p q = s.rd i p q := rfl
@[simp] theorem State.putLut_flag (k : Nat) (v : List Byte) (i : EntryDef) (p q : Nat) :
    (s.putLut k v).flag i p q = s.flag i p q := rfl
@[simp] theorem State.putLut_rdInt (k : Nat) (v : List Byte) (i : EntryDef) (p q : Nat) :
    (s.putLut k v).rdInt i p q = s.rdInt i p q := rfl
@[simp] theorem State.putLut_dom (k : Nat) (v : List Byte) (i : EntryDef) (p q : Nat) :
    (s.putLut k v).dom i p q = s.dom i p q := rfl
@[simp] theorem State.putLut_floor (k : Nat) (v : List Byte) :
    (s.putLut k v).floor = s.floor := rfl
@[simp] theorem State.putLut_devState (k : Nat) (v : List Byte) :
    (s.putLut k v).devState = s.devState := rfl
@[simp] theorem State.putLut_dictUp (k : Nat) (v : List Byte) :
    (s.putLut k v).dictUp = s.dictUp := rfl
@[simp] theorem State.putLut_alive (k : Nat) (v : List Byte) :
    (s.putLut k v).alive = s.alive := rfl
@[simp] theorem State.putLut_hostByte (k : Nat) (v : List Byte) (p : Nat) :
    (s.putLut k v).hostByte p = s.hostByte p := rfl
@[simp] theorem State.putLut_sessAt (k : Nat) (v : List Byte) (p : Nat) :
    (s.putLut k v).sessAt p = s.sessAt p := rfl
@[simp] theorem State.putLut_canvasAt (k : Nat) (v : List Byte) (p : Nat) :
    (s.putLut k v).canvasAt p = s.canvasAt p := rfl
@[simp] theorem State.putLut_layerAt (k : Nat) (v : List Byte) (p : Nat) :
    (s.putLut k v).layerAt p = s.layerAt p := rfl
@[simp] theorem State.putLut_headAt (k : Nat) (v : List Byte) (p : Nat) :
    (s.putLut k v).headAt p = s.headAt p := rfl
@[simp] theorem State.putLut_inputAt (k : Nat) (v : List Byte) (p : Nat) :
    (s.putLut k v).inputAt p = s.inputAt p := rfl
@[simp] theorem State.putLut_hostAt (k : Nat) (v : List Byte) (p : Nat) :
    (s.putLut k v).hostAt p = s.hostAt p := rfl
@[simp] theorem State.putLut_playerAt (k : Nat) (v : List Byte) (p : Nat) :
    (s.putLut k v).playerAt p = s.playerAt p := rfl
@[simp] theorem State.putLut_refAt (k : Nat) (v : List Byte) (p : Nat) :
    (s.putLut k v).refAt p = s.refAt p := rfl
@[simp] theorem State.putLut_ftgAt (k : Nat) (v : List Byte) (p : Nat) :
    (s.putLut k v).ftgAt p = s.ftgAt p := rfl
@[simp] theorem State.putLut_ulaneAt (k : Nat) (v : List Byte) (p : Nat) :
    (s.putLut k v).ulaneAt p = s.ulaneAt p := rfl
@[simp] theorem State.putLut_dlaneAt (k : Nat) (v : List Byte) (p : Nat) :
    (s.putLut k v).dlaneAt p = s.dlaneAt p := rfl
@[simp] theorem State.putLut_groupAt (k : Nat) (v : List Byte) (p : Nat) :
    (s.putLut k v).groupAt p = s.groupAt p := rfl
@[simp] theorem State.putLut_engineAt (k : Nat) (v : List Byte) (p : Nat) :
    (s.putLut k v).engineAt p = s.engineAt p := rfl
@[simp] theorem State.putLut_lutAt (k : Nat) (v : List Byte) :
    (s.putLut k v).lutAt k = v := Store.read_write_self _ _ _ _
@[simp] theorem State.modLut_eq (k : Nat) (f : List Byte → List Byte) :
    s.modLut k f = s.putLut k (f (s.lutAt k)) := rfl
theorem State.putLut_lutAt_ne (k i : Nat) (v : List Byte) (h : i ≠ k) :
    (s.putLut k v).lutAt i = s.lutAt i := Store.read_write_ne _ _ _ h
@[simp] theorem State.putLut3d_regs (k : Nat) (v : List Byte) :
    (s.putLut3d k v).regs = s.regs := rfl
@[simp] theorem State.putLut3d_doms (k : Nat) (v : List Byte) :
    (s.putLut3d k v).doms = s.doms := rfl
@[simp] theorem State.putLut3d_ev (k : Nat) (v : List Byte) :
    (s.putLut3d k v).ev = s.ev := rfl
@[simp] theorem State.putLut3d_sess (k : Nat) (v : List Byte) :
    (s.putLut3d k v).sess = s.sess := rfl
@[simp] theorem State.putLut3d_wire (k : Nat) (v : List Byte) :
    (s.putLut3d k v).wire = s.wire := rfl
@[simp] theorem State.putLut3d_actor (k : Nat) (v : List Byte) :
    (s.putLut3d k v).actor = s.actor := rfl
@[simp] theorem State.putLut3d_tap (k : Nat) (v : List Byte) :
    (s.putLut3d k v).tap = s.tap := rfl
@[simp] theorem State.putLut3d_pending (k : Nat) (v : List Byte) :
    (s.putLut3d k v).pending = s.pending := rfl
@[simp] theorem State.putLut3d_timebase (k : Nat) (v : List Byte) :
    (s.putLut3d k v).timebase = s.timebase := rfl
@[simp] theorem State.putLut3d_dev (k : Nat) (v : List Byte) :
    (s.putLut3d k v).dev = s.dev := rfl
@[simp] theorem State.putLut3d_dram (k : Nat) (v : List Byte) :
    (s.putLut3d k v).dram = s.dram := rfl
@[simp] theorem State.putLut3d_rd (k : Nat) (v : List Byte) (i : EntryDef) (p q : Nat) :
    (s.putLut3d k v).rd i p q = s.rd i p q := rfl
@[simp] theorem State.putLut3d_flag (k : Nat) (v : List Byte) (i : EntryDef) (p q : Nat) :
    (s.putLut3d k v).flag i p q = s.flag i p q := rfl
@[simp] theorem State.putLut3d_rdInt (k : Nat) (v : List Byte) (i : EntryDef) (p q : Nat) :
    (s.putLut3d k v).rdInt i p q = s.rdInt i p q := rfl
@[simp] theorem State.putLut3d_dom (k : Nat) (v : List Byte) (i : EntryDef) (p q : Nat) :
    (s.putLut3d k v).dom i p q = s.dom i p q := rfl
@[simp] theorem State.putLut3d_floor (k : Nat) (v : List Byte) :
    (s.putLut3d k v).floor = s.floor := rfl
@[simp] theorem State.putLut3d_devState (k : Nat) (v : List Byte) :
    (s.putLut3d k v).devState = s.devState := rfl
@[simp] theorem State.putLut3d_dictUp (k : Nat) (v : List Byte) :
    (s.putLut3d k v).dictUp = s.dictUp := rfl
@[simp] theorem State.putLut3d_alive (k : Nat) (v : List Byte) :
    (s.putLut3d k v).alive = s.alive := rfl
@[simp] theorem State.putLut3d_hostByte (k : Nat) (v : List Byte) (p : Nat) :
    (s.putLut3d k v).hostByte p = s.hostByte p := rfl
@[simp] theorem State.putLut3d_sessAt (k : Nat) (v : List Byte) (p : Nat) :
    (s.putLut3d k v).sessAt p = s.sessAt p := rfl
@[simp] theorem State.putLut3d_canvasAt (k : Nat) (v : List Byte) (p : Nat) :
    (s.putLut3d k v).canvasAt p = s.canvasAt p := rfl
@[simp] theorem State.putLut3d_layerAt (k : Nat) (v : List Byte) (p : Nat) :
    (s.putLut3d k v).layerAt p = s.layerAt p := rfl
@[simp] theorem State.putLut3d_headAt (k : Nat) (v : List Byte) (p : Nat) :
    (s.putLut3d k v).headAt p = s.headAt p := rfl
@[simp] theorem State.putLut3d_inputAt (k : Nat) (v : List Byte) (p : Nat) :
    (s.putLut3d k v).inputAt p = s.inputAt p := rfl
@[simp] theorem State.putLut3d_hostAt (k : Nat) (v : List Byte) (p : Nat) :
    (s.putLut3d k v).hostAt p = s.hostAt p := rfl
@[simp] theorem State.putLut3d_playerAt (k : Nat) (v : List Byte) (p : Nat) :
    (s.putLut3d k v).playerAt p = s.playerAt p := rfl
@[simp] theorem State.putLut3d_refAt (k : Nat) (v : List Byte) (p : Nat) :
    (s.putLut3d k v).refAt p = s.refAt p := rfl
@[simp] theorem State.putLut3d_ftgAt (k : Nat) (v : List Byte) (p : Nat) :
    (s.putLut3d k v).ftgAt p = s.ftgAt p := rfl
@[simp] theorem State.putLut3d_ulaneAt (k : Nat) (v : List Byte) (p : Nat) :
    (s.putLut3d k v).ulaneAt p = s.ulaneAt p := rfl
@[simp] theorem State.putLut3d_dlaneAt (k : Nat) (v : List Byte) (p : Nat) :
    (s.putLut3d k v).dlaneAt p = s.dlaneAt p := rfl
@[simp] theorem State.putLut3d_groupAt (k : Nat) (v : List Byte) (p : Nat) :
    (s.putLut3d k v).groupAt p = s.groupAt p := rfl
@[simp] theorem State.putLut3d_engineAt (k : Nat) (v : List Byte) (p : Nat) :
    (s.putLut3d k v).engineAt p = s.engineAt p := rfl
@[simp] theorem State.putLut3d_lut3dAt (k : Nat) (v : List Byte) :
    (s.putLut3d k v).lut3dAt k = v := Store.read_write_self _ _ _ _
@[simp] theorem State.modLut3d_eq (k : Nat) (f : List Byte → List Byte) :
    s.modLut3d k f = s.putLut3d k (f (s.lut3dAt k)) := rfl
theorem State.putLut3d_lut3dAt_ne (k i : Nat) (v : List Byte) (h : i ≠ k) :
    (s.putLut3d k v).lut3dAt i = s.lut3dAt i := Store.read_write_ne _ _ _ h
@[simp] theorem State.putImageDesc_regs (k : Nat) (v : List Byte) :
    (s.putImageDesc k v).regs = s.regs := rfl
@[simp] theorem State.putImageDesc_doms (k : Nat) (v : List Byte) :
    (s.putImageDesc k v).doms = s.doms := rfl
@[simp] theorem State.putImageDesc_ev (k : Nat) (v : List Byte) :
    (s.putImageDesc k v).ev = s.ev := rfl
@[simp] theorem State.putImageDesc_sess (k : Nat) (v : List Byte) :
    (s.putImageDesc k v).sess = s.sess := rfl
@[simp] theorem State.putImageDesc_wire (k : Nat) (v : List Byte) :
    (s.putImageDesc k v).wire = s.wire := rfl
@[simp] theorem State.putImageDesc_actor (k : Nat) (v : List Byte) :
    (s.putImageDesc k v).actor = s.actor := rfl
@[simp] theorem State.putImageDesc_tap (k : Nat) (v : List Byte) :
    (s.putImageDesc k v).tap = s.tap := rfl
@[simp] theorem State.putImageDesc_pending (k : Nat) (v : List Byte) :
    (s.putImageDesc k v).pending = s.pending := rfl
@[simp] theorem State.putImageDesc_timebase (k : Nat) (v : List Byte) :
    (s.putImageDesc k v).timebase = s.timebase := rfl
@[simp] theorem State.putImageDesc_dev (k : Nat) (v : List Byte) :
    (s.putImageDesc k v).dev = s.dev := rfl
@[simp] theorem State.putImageDesc_dram (k : Nat) (v : List Byte) :
    (s.putImageDesc k v).dram = s.dram := rfl
@[simp] theorem State.putImageDesc_rd (k : Nat) (v : List Byte) (i : EntryDef) (p q : Nat) :
    (s.putImageDesc k v).rd i p q = s.rd i p q := rfl
@[simp] theorem State.putImageDesc_flag (k : Nat) (v : List Byte) (i : EntryDef) (p q : Nat) :
    (s.putImageDesc k v).flag i p q = s.flag i p q := rfl
@[simp] theorem State.putImageDesc_rdInt (k : Nat) (v : List Byte) (i : EntryDef) (p q : Nat) :
    (s.putImageDesc k v).rdInt i p q = s.rdInt i p q := rfl
@[simp] theorem State.putImageDesc_dom (k : Nat) (v : List Byte) (i : EntryDef) (p q : Nat) :
    (s.putImageDesc k v).dom i p q = s.dom i p q := rfl
@[simp] theorem State.putImageDesc_floor (k : Nat) (v : List Byte) :
    (s.putImageDesc k v).floor = s.floor := rfl
@[simp] theorem State.putImageDesc_devState (k : Nat) (v : List Byte) :
    (s.putImageDesc k v).devState = s.devState := rfl
@[simp] theorem State.putImageDesc_dictUp (k : Nat) (v : List Byte) :
    (s.putImageDesc k v).dictUp = s.dictUp := rfl
@[simp] theorem State.putImageDesc_alive (k : Nat) (v : List Byte) :
    (s.putImageDesc k v).alive = s.alive := rfl
@[simp] theorem State.putImageDesc_hostByte (k : Nat) (v : List Byte) (p : Nat) :
    (s.putImageDesc k v).hostByte p = s.hostByte p := rfl
@[simp] theorem State.putImageDesc_sessAt (k : Nat) (v : List Byte) (p : Nat) :
    (s.putImageDesc k v).sessAt p = s.sessAt p := rfl
@[simp] theorem State.putImageDesc_canvasAt (k : Nat) (v : List Byte) (p : Nat) :
    (s.putImageDesc k v).canvasAt p = s.canvasAt p := rfl
@[simp] theorem State.putImageDesc_layerAt (k : Nat) (v : List Byte) (p : Nat) :
    (s.putImageDesc k v).layerAt p = s.layerAt p := rfl
@[simp] theorem State.putImageDesc_headAt (k : Nat) (v : List Byte) (p : Nat) :
    (s.putImageDesc k v).headAt p = s.headAt p := rfl
@[simp] theorem State.putImageDesc_inputAt (k : Nat) (v : List Byte) (p : Nat) :
    (s.putImageDesc k v).inputAt p = s.inputAt p := rfl
@[simp] theorem State.putImageDesc_hostAt (k : Nat) (v : List Byte) (p : Nat) :
    (s.putImageDesc k v).hostAt p = s.hostAt p := rfl
@[simp] theorem State.putImageDesc_playerAt (k : Nat) (v : List Byte) (p : Nat) :
    (s.putImageDesc k v).playerAt p = s.playerAt p := rfl
@[simp] theorem State.putImageDesc_refAt (k : Nat) (v : List Byte) (p : Nat) :
    (s.putImageDesc k v).refAt p = s.refAt p := rfl
@[simp] theorem State.putImageDesc_ftgAt (k : Nat) (v : List Byte) (p : Nat) :
    (s.putImageDesc k v).ftgAt p = s.ftgAt p := rfl
@[simp] theorem State.putImageDesc_ulaneAt (k : Nat) (v : List Byte) (p : Nat) :
    (s.putImageDesc k v).ulaneAt p = s.ulaneAt p := rfl
@[simp] theorem State.putImageDesc_dlaneAt (k : Nat) (v : List Byte) (p : Nat) :
    (s.putImageDesc k v).dlaneAt p = s.dlaneAt p := rfl
@[simp] theorem State.putImageDesc_groupAt (k : Nat) (v : List Byte) (p : Nat) :
    (s.putImageDesc k v).groupAt p = s.groupAt p := rfl
@[simp] theorem State.putImageDesc_engineAt (k : Nat) (v : List Byte) (p : Nat) :
    (s.putImageDesc k v).engineAt p = s.engineAt p := rfl
@[simp] theorem State.putImageDesc_imageDescAt (k : Nat) (v : List Byte) :
    (s.putImageDesc k v).imageDescAt k = v := Store.read_write_self _ _ _ _
@[simp] theorem State.modImageDesc_eq (k : Nat) (f : List Byte → List Byte) :
    s.modImageDesc k f = s.putImageDesc k (f (s.imageDescAt k)) := rfl
theorem State.putImageDesc_imageDescAt_ne (k i : Nat) (v : List Byte) (h : i ≠ k) :
    (s.putImageDesc k v).imageDescAt i = s.imageDescAt i := Store.read_write_ne _ _ _ h
@[simp] theorem State.putImageData_regs (k : Nat) (v : List Byte) :
    (s.putImageData k v).regs = s.regs := rfl
@[simp] theorem State.putImageData_doms (k : Nat) (v : List Byte) :
    (s.putImageData k v).doms = s.doms := rfl
@[simp] theorem State.putImageData_ev (k : Nat) (v : List Byte) :
    (s.putImageData k v).ev = s.ev := rfl
@[simp] theorem State.putImageData_sess (k : Nat) (v : List Byte) :
    (s.putImageData k v).sess = s.sess := rfl
@[simp] theorem State.putImageData_wire (k : Nat) (v : List Byte) :
    (s.putImageData k v).wire = s.wire := rfl
@[simp] theorem State.putImageData_actor (k : Nat) (v : List Byte) :
    (s.putImageData k v).actor = s.actor := rfl
@[simp] theorem State.putImageData_tap (k : Nat) (v : List Byte) :
    (s.putImageData k v).tap = s.tap := rfl
@[simp] theorem State.putImageData_pending (k : Nat) (v : List Byte) :
    (s.putImageData k v).pending = s.pending := rfl
@[simp] theorem State.putImageData_timebase (k : Nat) (v : List Byte) :
    (s.putImageData k v).timebase = s.timebase := rfl
@[simp] theorem State.putImageData_dev (k : Nat) (v : List Byte) :
    (s.putImageData k v).dev = s.dev := rfl
@[simp] theorem State.putImageData_dram (k : Nat) (v : List Byte) :
    (s.putImageData k v).dram = s.dram := rfl
@[simp] theorem State.putImageData_rd (k : Nat) (v : List Byte) (i : EntryDef) (p q : Nat) :
    (s.putImageData k v).rd i p q = s.rd i p q := rfl
@[simp] theorem State.putImageData_flag (k : Nat) (v : List Byte) (i : EntryDef) (p q : Nat) :
    (s.putImageData k v).flag i p q = s.flag i p q := rfl
@[simp] theorem State.putImageData_rdInt (k : Nat) (v : List Byte) (i : EntryDef) (p q : Nat) :
    (s.putImageData k v).rdInt i p q = s.rdInt i p q := rfl
@[simp] theorem State.putImageData_dom (k : Nat) (v : List Byte) (i : EntryDef) (p q : Nat) :
    (s.putImageData k v).dom i p q = s.dom i p q := rfl
@[simp] theorem State.putImageData_floor (k : Nat) (v : List Byte) :
    (s.putImageData k v).floor = s.floor := rfl
@[simp] theorem State.putImageData_devState (k : Nat) (v : List Byte) :
    (s.putImageData k v).devState = s.devState := rfl
@[simp] theorem State.putImageData_dictUp (k : Nat) (v : List Byte) :
    (s.putImageData k v).dictUp = s.dictUp := rfl
@[simp] theorem State.putImageData_alive (k : Nat) (v : List Byte) :
    (s.putImageData k v).alive = s.alive := rfl
@[simp] theorem State.putImageData_hostByte (k : Nat) (v : List Byte) (p : Nat) :
    (s.putImageData k v).hostByte p = s.hostByte p := rfl
@[simp] theorem State.putImageData_sessAt (k : Nat) (v : List Byte) (p : Nat) :
    (s.putImageData k v).sessAt p = s.sessAt p := rfl
@[simp] theorem State.putImageData_canvasAt (k : Nat) (v : List Byte) (p : Nat) :
    (s.putImageData k v).canvasAt p = s.canvasAt p := rfl
@[simp] theorem State.putImageData_layerAt (k : Nat) (v : List Byte) (p : Nat) :
    (s.putImageData k v).layerAt p = s.layerAt p := rfl
@[simp] theorem State.putImageData_headAt (k : Nat) (v : List Byte) (p : Nat) :
    (s.putImageData k v).headAt p = s.headAt p := rfl
@[simp] theorem State.putImageData_inputAt (k : Nat) (v : List Byte) (p : Nat) :
    (s.putImageData k v).inputAt p = s.inputAt p := rfl
@[simp] theorem State.putImageData_hostAt (k : Nat) (v : List Byte) (p : Nat) :
    (s.putImageData k v).hostAt p = s.hostAt p := rfl
@[simp] theorem State.putImageData_playerAt (k : Nat) (v : List Byte) (p : Nat) :
    (s.putImageData k v).playerAt p = s.playerAt p := rfl
@[simp] theorem State.putImageData_refAt (k : Nat) (v : List Byte) (p : Nat) :
    (s.putImageData k v).refAt p = s.refAt p := rfl
@[simp] theorem State.putImageData_ftgAt (k : Nat) (v : List Byte) (p : Nat) :
    (s.putImageData k v).ftgAt p = s.ftgAt p := rfl
@[simp] theorem State.putImageData_ulaneAt (k : Nat) (v : List Byte) (p : Nat) :
    (s.putImageData k v).ulaneAt p = s.ulaneAt p := rfl
@[simp] theorem State.putImageData_dlaneAt (k : Nat) (v : List Byte) (p : Nat) :
    (s.putImageData k v).dlaneAt p = s.dlaneAt p := rfl
@[simp] theorem State.putImageData_groupAt (k : Nat) (v : List Byte) (p : Nat) :
    (s.putImageData k v).groupAt p = s.groupAt p := rfl
@[simp] theorem State.putImageData_engineAt (k : Nat) (v : List Byte) (p : Nat) :
    (s.putImageData k v).engineAt p = s.engineAt p := rfl
@[simp] theorem State.putImageData_imageDataAt (k : Nat) (v : List Byte) :
    (s.putImageData k v).imageDataAt k = v := Store.read_write_self _ _ _ _
@[simp] theorem State.modImageData_eq (k : Nat) (f : List Byte → List Byte) :
    s.modImageData k f = s.putImageData k (f (s.imageDataAt k)) := rfl
theorem State.putImageData_imageDataAt_ne (k i : Nat) (v : List Byte) (h : i ≠ k) :
    (s.putImageData k v).imageDataAt i = s.imageDataAt i := Store.read_write_ne _ _ _ h
@[simp] theorem State.putTileEntry_regs (k : Nat) (v : List Byte) :
    (s.putTileEntry k v).regs = s.regs := rfl
@[simp] theorem State.putTileEntry_doms (k : Nat) (v : List Byte) :
    (s.putTileEntry k v).doms = s.doms := rfl
@[simp] theorem State.putTileEntry_ev (k : Nat) (v : List Byte) :
    (s.putTileEntry k v).ev = s.ev := rfl
@[simp] theorem State.putTileEntry_sess (k : Nat) (v : List Byte) :
    (s.putTileEntry k v).sess = s.sess := rfl
@[simp] theorem State.putTileEntry_wire (k : Nat) (v : List Byte) :
    (s.putTileEntry k v).wire = s.wire := rfl
@[simp] theorem State.putTileEntry_actor (k : Nat) (v : List Byte) :
    (s.putTileEntry k v).actor = s.actor := rfl
@[simp] theorem State.putTileEntry_tap (k : Nat) (v : List Byte) :
    (s.putTileEntry k v).tap = s.tap := rfl
@[simp] theorem State.putTileEntry_pending (k : Nat) (v : List Byte) :
    (s.putTileEntry k v).pending = s.pending := rfl
@[simp] theorem State.putTileEntry_timebase (k : Nat) (v : List Byte) :
    (s.putTileEntry k v).timebase = s.timebase := rfl
@[simp] theorem State.putTileEntry_dev (k : Nat) (v : List Byte) :
    (s.putTileEntry k v).dev = s.dev := rfl
@[simp] theorem State.putTileEntry_dram (k : Nat) (v : List Byte) :
    (s.putTileEntry k v).dram = s.dram := rfl
@[simp] theorem State.putTileEntry_rd (k : Nat) (v : List Byte) (i : EntryDef) (p q : Nat) :
    (s.putTileEntry k v).rd i p q = s.rd i p q := rfl
@[simp] theorem State.putTileEntry_flag (k : Nat) (v : List Byte) (i : EntryDef) (p q : Nat) :
    (s.putTileEntry k v).flag i p q = s.flag i p q := rfl
@[simp] theorem State.putTileEntry_rdInt (k : Nat) (v : List Byte) (i : EntryDef) (p q : Nat) :
    (s.putTileEntry k v).rdInt i p q = s.rdInt i p q := rfl
@[simp] theorem State.putTileEntry_dom (k : Nat) (v : List Byte) (i : EntryDef) (p q : Nat) :
    (s.putTileEntry k v).dom i p q = s.dom i p q := rfl
@[simp] theorem State.putTileEntry_floor (k : Nat) (v : List Byte) :
    (s.putTileEntry k v).floor = s.floor := rfl
@[simp] theorem State.putTileEntry_devState (k : Nat) (v : List Byte) :
    (s.putTileEntry k v).devState = s.devState := rfl
@[simp] theorem State.putTileEntry_dictUp (k : Nat) (v : List Byte) :
    (s.putTileEntry k v).dictUp = s.dictUp := rfl
@[simp] theorem State.putTileEntry_alive (k : Nat) (v : List Byte) :
    (s.putTileEntry k v).alive = s.alive := rfl
@[simp] theorem State.putTileEntry_hostByte (k : Nat) (v : List Byte) (p : Nat) :
    (s.putTileEntry k v).hostByte p = s.hostByte p := rfl
@[simp] theorem State.putTileEntry_sessAt (k : Nat) (v : List Byte) (p : Nat) :
    (s.putTileEntry k v).sessAt p = s.sessAt p := rfl
@[simp] theorem State.putTileEntry_canvasAt (k : Nat) (v : List Byte) (p : Nat) :
    (s.putTileEntry k v).canvasAt p = s.canvasAt p := rfl
@[simp] theorem State.putTileEntry_layerAt (k : Nat) (v : List Byte) (p : Nat) :
    (s.putTileEntry k v).layerAt p = s.layerAt p := rfl
@[simp] theorem State.putTileEntry_headAt (k : Nat) (v : List Byte) (p : Nat) :
    (s.putTileEntry k v).headAt p = s.headAt p := rfl
@[simp] theorem State.putTileEntry_inputAt (k : Nat) (v : List Byte) (p : Nat) :
    (s.putTileEntry k v).inputAt p = s.inputAt p := rfl
@[simp] theorem State.putTileEntry_hostAt (k : Nat) (v : List Byte) (p : Nat) :
    (s.putTileEntry k v).hostAt p = s.hostAt p := rfl
@[simp] theorem State.putTileEntry_playerAt (k : Nat) (v : List Byte) (p : Nat) :
    (s.putTileEntry k v).playerAt p = s.playerAt p := rfl
@[simp] theorem State.putTileEntry_refAt (k : Nat) (v : List Byte) (p : Nat) :
    (s.putTileEntry k v).refAt p = s.refAt p := rfl
@[simp] theorem State.putTileEntry_ftgAt (k : Nat) (v : List Byte) (p : Nat) :
    (s.putTileEntry k v).ftgAt p = s.ftgAt p := rfl
@[simp] theorem State.putTileEntry_ulaneAt (k : Nat) (v : List Byte) (p : Nat) :
    (s.putTileEntry k v).ulaneAt p = s.ulaneAt p := rfl
@[simp] theorem State.putTileEntry_dlaneAt (k : Nat) (v : List Byte) (p : Nat) :
    (s.putTileEntry k v).dlaneAt p = s.dlaneAt p := rfl
@[simp] theorem State.putTileEntry_groupAt (k : Nat) (v : List Byte) (p : Nat) :
    (s.putTileEntry k v).groupAt p = s.groupAt p := rfl
@[simp] theorem State.putTileEntry_engineAt (k : Nat) (v : List Byte) (p : Nat) :
    (s.putTileEntry k v).engineAt p = s.engineAt p := rfl
@[simp] theorem State.putTileEntry_tileEntryAt (k : Nat) (v : List Byte) :
    (s.putTileEntry k v).tileEntryAt k = v := Store.read_write_self _ _ _ _
@[simp] theorem State.modTileEntry_eq (k : Nat) (f : List Byte → List Byte) :
    s.modTileEntry k f = s.putTileEntry k (f (s.tileEntryAt k)) := rfl
theorem State.putTileEntry_tileEntryAt_ne (k i : Nat) (v : List Byte) (h : i ≠ k) :
    (s.putTileEntry k v).tileEntryAt i = s.tileEntryAt i := Store.read_write_ne _ _ _ h
@[simp] theorem State.putTileShadow_regs (k : Nat) (v : List Byte) :
    (s.putTileShadow k v).regs = s.regs := rfl
@[simp] theorem State.putTileShadow_doms (k : Nat) (v : List Byte) :
    (s.putTileShadow k v).doms = s.doms := rfl
@[simp] theorem State.putTileShadow_ev (k : Nat) (v : List Byte) :
    (s.putTileShadow k v).ev = s.ev := rfl
@[simp] theorem State.putTileShadow_sess (k : Nat) (v : List Byte) :
    (s.putTileShadow k v).sess = s.sess := rfl
@[simp] theorem State.putTileShadow_wire (k : Nat) (v : List Byte) :
    (s.putTileShadow k v).wire = s.wire := rfl
@[simp] theorem State.putTileShadow_actor (k : Nat) (v : List Byte) :
    (s.putTileShadow k v).actor = s.actor := rfl
@[simp] theorem State.putTileShadow_tap (k : Nat) (v : List Byte) :
    (s.putTileShadow k v).tap = s.tap := rfl
@[simp] theorem State.putTileShadow_pending (k : Nat) (v : List Byte) :
    (s.putTileShadow k v).pending = s.pending := rfl
@[simp] theorem State.putTileShadow_timebase (k : Nat) (v : List Byte) :
    (s.putTileShadow k v).timebase = s.timebase := rfl
@[simp] theorem State.putTileShadow_dev (k : Nat) (v : List Byte) :
    (s.putTileShadow k v).dev = s.dev := rfl
@[simp] theorem State.putTileShadow_dram (k : Nat) (v : List Byte) :
    (s.putTileShadow k v).dram = s.dram := rfl
@[simp] theorem State.putTileShadow_rd (k : Nat) (v : List Byte) (i : EntryDef) (p q : Nat) :
    (s.putTileShadow k v).rd i p q = s.rd i p q := rfl
@[simp] theorem State.putTileShadow_flag (k : Nat) (v : List Byte) (i : EntryDef) (p q : Nat) :
    (s.putTileShadow k v).flag i p q = s.flag i p q := rfl
@[simp] theorem State.putTileShadow_rdInt (k : Nat) (v : List Byte) (i : EntryDef) (p q : Nat) :
    (s.putTileShadow k v).rdInt i p q = s.rdInt i p q := rfl
@[simp] theorem State.putTileShadow_dom (k : Nat) (v : List Byte) (i : EntryDef) (p q : Nat) :
    (s.putTileShadow k v).dom i p q = s.dom i p q := rfl
@[simp] theorem State.putTileShadow_floor (k : Nat) (v : List Byte) :
    (s.putTileShadow k v).floor = s.floor := rfl
@[simp] theorem State.putTileShadow_devState (k : Nat) (v : List Byte) :
    (s.putTileShadow k v).devState = s.devState := rfl
@[simp] theorem State.putTileShadow_dictUp (k : Nat) (v : List Byte) :
    (s.putTileShadow k v).dictUp = s.dictUp := rfl
@[simp] theorem State.putTileShadow_alive (k : Nat) (v : List Byte) :
    (s.putTileShadow k v).alive = s.alive := rfl
@[simp] theorem State.putTileShadow_hostByte (k : Nat) (v : List Byte) (p : Nat) :
    (s.putTileShadow k v).hostByte p = s.hostByte p := rfl
@[simp] theorem State.putTileShadow_sessAt (k : Nat) (v : List Byte) (p : Nat) :
    (s.putTileShadow k v).sessAt p = s.sessAt p := rfl
@[simp] theorem State.putTileShadow_canvasAt (k : Nat) (v : List Byte) (p : Nat) :
    (s.putTileShadow k v).canvasAt p = s.canvasAt p := rfl
@[simp] theorem State.putTileShadow_layerAt (k : Nat) (v : List Byte) (p : Nat) :
    (s.putTileShadow k v).layerAt p = s.layerAt p := rfl
@[simp] theorem State.putTileShadow_headAt (k : Nat) (v : List Byte) (p : Nat) :
    (s.putTileShadow k v).headAt p = s.headAt p := rfl
@[simp] theorem State.putTileShadow_inputAt (k : Nat) (v : List Byte) (p : Nat) :
    (s.putTileShadow k v).inputAt p = s.inputAt p := rfl
@[simp] theorem State.putTileShadow_hostAt (k : Nat) (v : List Byte) (p : Nat) :
    (s.putTileShadow k v).hostAt p = s.hostAt p := rfl
@[simp] theorem State.putTileShadow_playerAt (k : Nat) (v : List Byte) (p : Nat) :
    (s.putTileShadow k v).playerAt p = s.playerAt p := rfl
@[simp] theorem State.putTileShadow_refAt (k : Nat) (v : List Byte) (p : Nat) :
    (s.putTileShadow k v).refAt p = s.refAt p := rfl
@[simp] theorem State.putTileShadow_ftgAt (k : Nat) (v : List Byte) (p : Nat) :
    (s.putTileShadow k v).ftgAt p = s.ftgAt p := rfl
@[simp] theorem State.putTileShadow_ulaneAt (k : Nat) (v : List Byte) (p : Nat) :
    (s.putTileShadow k v).ulaneAt p = s.ulaneAt p := rfl
@[simp] theorem State.putTileShadow_dlaneAt (k : Nat) (v : List Byte) (p : Nat) :
    (s.putTileShadow k v).dlaneAt p = s.dlaneAt p := rfl
@[simp] theorem State.putTileShadow_groupAt (k : Nat) (v : List Byte) (p : Nat) :
    (s.putTileShadow k v).groupAt p = s.groupAt p := rfl
@[simp] theorem State.putTileShadow_engineAt (k : Nat) (v : List Byte) (p : Nat) :
    (s.putTileShadow k v).engineAt p = s.engineAt p := rfl
@[simp] theorem State.putTileShadow_tileShadowAt (k : Nat) (v : List Byte) :
    (s.putTileShadow k v).tileShadowAt k = v := Store.read_write_self _ _ _ _
@[simp] theorem State.modTileShadow_eq (k : Nat) (f : List Byte → List Byte) :
    s.modTileShadow k f = s.putTileShadow k (f (s.tileShadowAt k)) := rfl
theorem State.putTileShadow_tileShadowAt_ne (k i : Nat) (v : List Byte) (h : i ≠ k) :
    (s.putTileShadow k v).tileShadowAt i = s.tileShadowAt i := Store.read_write_ne _ _ _ h
@[simp] theorem State.putCalib_regs (k : Nat) (v : List Byte) :
    (s.putCalib k v).regs = s.regs := rfl
@[simp] theorem State.putCalib_doms (k : Nat) (v : List Byte) :
    (s.putCalib k v).doms = s.doms := rfl
@[simp] theorem State.putCalib_ev (k : Nat) (v : List Byte) :
    (s.putCalib k v).ev = s.ev := rfl
@[simp] theorem State.putCalib_sess (k : Nat) (v : List Byte) :
    (s.putCalib k v).sess = s.sess := rfl
@[simp] theorem State.putCalib_wire (k : Nat) (v : List Byte) :
    (s.putCalib k v).wire = s.wire := rfl
@[simp] theorem State.putCalib_actor (k : Nat) (v : List Byte) :
    (s.putCalib k v).actor = s.actor := rfl
@[simp] theorem State.putCalib_tap (k : Nat) (v : List Byte) :
    (s.putCalib k v).tap = s.tap := rfl
@[simp] theorem State.putCalib_pending (k : Nat) (v : List Byte) :
    (s.putCalib k v).pending = s.pending := rfl
@[simp] theorem State.putCalib_timebase (k : Nat) (v : List Byte) :
    (s.putCalib k v).timebase = s.timebase := rfl
@[simp] theorem State.putCalib_dev (k : Nat) (v : List Byte) :
    (s.putCalib k v).dev = s.dev := rfl
@[simp] theorem State.putCalib_dram (k : Nat) (v : List Byte) :
    (s.putCalib k v).dram = s.dram := rfl
@[simp] theorem State.putCalib_rd (k : Nat) (v : List Byte) (i : EntryDef) (p q : Nat) :
    (s.putCalib k v).rd i p q = s.rd i p q := rfl
@[simp] theorem State.putCalib_flag (k : Nat) (v : List Byte) (i : EntryDef) (p q : Nat) :
    (s.putCalib k v).flag i p q = s.flag i p q := rfl
@[simp] theorem State.putCalib_rdInt (k : Nat) (v : List Byte) (i : EntryDef) (p q : Nat) :
    (s.putCalib k v).rdInt i p q = s.rdInt i p q := rfl
@[simp] theorem State.putCalib_dom (k : Nat) (v : List Byte) (i : EntryDef) (p q : Nat) :
    (s.putCalib k v).dom i p q = s.dom i p q := rfl
@[simp] theorem State.putCalib_floor (k : Nat) (v : List Byte) :
    (s.putCalib k v).floor = s.floor := rfl
@[simp] theorem State.putCalib_devState (k : Nat) (v : List Byte) :
    (s.putCalib k v).devState = s.devState := rfl
@[simp] theorem State.putCalib_dictUp (k : Nat) (v : List Byte) :
    (s.putCalib k v).dictUp = s.dictUp := rfl
@[simp] theorem State.putCalib_alive (k : Nat) (v : List Byte) :
    (s.putCalib k v).alive = s.alive := rfl
@[simp] theorem State.putCalib_hostByte (k : Nat) (v : List Byte) (p : Nat) :
    (s.putCalib k v).hostByte p = s.hostByte p := rfl
@[simp] theorem State.putCalib_sessAt (k : Nat) (v : List Byte) (p : Nat) :
    (s.putCalib k v).sessAt p = s.sessAt p := rfl
@[simp] theorem State.putCalib_canvasAt (k : Nat) (v : List Byte) (p : Nat) :
    (s.putCalib k v).canvasAt p = s.canvasAt p := rfl
@[simp] theorem State.putCalib_layerAt (k : Nat) (v : List Byte) (p : Nat) :
    (s.putCalib k v).layerAt p = s.layerAt p := rfl
@[simp] theorem State.putCalib_headAt (k : Nat) (v : List Byte) (p : Nat) :
    (s.putCalib k v).headAt p = s.headAt p := rfl
@[simp] theorem State.putCalib_inputAt (k : Nat) (v : List Byte) (p : Nat) :
    (s.putCalib k v).inputAt p = s.inputAt p := rfl
@[simp] theorem State.putCalib_hostAt (k : Nat) (v : List Byte) (p : Nat) :
    (s.putCalib k v).hostAt p = s.hostAt p := rfl
@[simp] theorem State.putCalib_playerAt (k : Nat) (v : List Byte) (p : Nat) :
    (s.putCalib k v).playerAt p = s.playerAt p := rfl
@[simp] theorem State.putCalib_refAt (k : Nat) (v : List Byte) (p : Nat) :
    (s.putCalib k v).refAt p = s.refAt p := rfl
@[simp] theorem State.putCalib_ftgAt (k : Nat) (v : List Byte) (p : Nat) :
    (s.putCalib k v).ftgAt p = s.ftgAt p := rfl
@[simp] theorem State.putCalib_ulaneAt (k : Nat) (v : List Byte) (p : Nat) :
    (s.putCalib k v).ulaneAt p = s.ulaneAt p := rfl
@[simp] theorem State.putCalib_dlaneAt (k : Nat) (v : List Byte) (p : Nat) :
    (s.putCalib k v).dlaneAt p = s.dlaneAt p := rfl
@[simp] theorem State.putCalib_groupAt (k : Nat) (v : List Byte) (p : Nat) :
    (s.putCalib k v).groupAt p = s.groupAt p := rfl
@[simp] theorem State.putCalib_engineAt (k : Nat) (v : List Byte) (p : Nat) :
    (s.putCalib k v).engineAt p = s.engineAt p := rfl
@[simp] theorem State.putCalib_calibAt (k : Nat) (v : List Byte) :
    (s.putCalib k v).calibAt k = v := Store.read_write_self _ _ _ _
@[simp] theorem State.modCalib_eq (k : Nat) (f : List Byte → List Byte) :
    s.modCalib k f = s.putCalib k (f (s.calibAt k)) := rfl
theorem State.putCalib_calibAt_ne (k i : Nat) (v : List Byte) (h : i ≠ k) :
    (s.putCalib k v).calibAt i = s.calibAt i := Store.read_write_ne _ _ _ h
@[simp] theorem State.putCalibShadow_regs (k : Nat) (v : List Byte) :
    (s.putCalibShadow k v).regs = s.regs := rfl
@[simp] theorem State.putCalibShadow_doms (k : Nat) (v : List Byte) :
    (s.putCalibShadow k v).doms = s.doms := rfl
@[simp] theorem State.putCalibShadow_ev (k : Nat) (v : List Byte) :
    (s.putCalibShadow k v).ev = s.ev := rfl
@[simp] theorem State.putCalibShadow_sess (k : Nat) (v : List Byte) :
    (s.putCalibShadow k v).sess = s.sess := rfl
@[simp] theorem State.putCalibShadow_wire (k : Nat) (v : List Byte) :
    (s.putCalibShadow k v).wire = s.wire := rfl
@[simp] theorem State.putCalibShadow_actor (k : Nat) (v : List Byte) :
    (s.putCalibShadow k v).actor = s.actor := rfl
@[simp] theorem State.putCalibShadow_tap (k : Nat) (v : List Byte) :
    (s.putCalibShadow k v).tap = s.tap := rfl
@[simp] theorem State.putCalibShadow_pending (k : Nat) (v : List Byte) :
    (s.putCalibShadow k v).pending = s.pending := rfl
@[simp] theorem State.putCalibShadow_timebase (k : Nat) (v : List Byte) :
    (s.putCalibShadow k v).timebase = s.timebase := rfl
@[simp] theorem State.putCalibShadow_dev (k : Nat) (v : List Byte) :
    (s.putCalibShadow k v).dev = s.dev := rfl
@[simp] theorem State.putCalibShadow_dram (k : Nat) (v : List Byte) :
    (s.putCalibShadow k v).dram = s.dram := rfl
@[simp] theorem State.putCalibShadow_rd (k : Nat) (v : List Byte) (i : EntryDef) (p q : Nat) :
    (s.putCalibShadow k v).rd i p q = s.rd i p q := rfl
@[simp] theorem State.putCalibShadow_flag (k : Nat) (v : List Byte) (i : EntryDef) (p q : Nat) :
    (s.putCalibShadow k v).flag i p q = s.flag i p q := rfl
@[simp] theorem State.putCalibShadow_rdInt (k : Nat) (v : List Byte) (i : EntryDef) (p q : Nat) :
    (s.putCalibShadow k v).rdInt i p q = s.rdInt i p q := rfl
@[simp] theorem State.putCalibShadow_dom (k : Nat) (v : List Byte) (i : EntryDef) (p q : Nat) :
    (s.putCalibShadow k v).dom i p q = s.dom i p q := rfl
@[simp] theorem State.putCalibShadow_floor (k : Nat) (v : List Byte) :
    (s.putCalibShadow k v).floor = s.floor := rfl
@[simp] theorem State.putCalibShadow_devState (k : Nat) (v : List Byte) :
    (s.putCalibShadow k v).devState = s.devState := rfl
@[simp] theorem State.putCalibShadow_dictUp (k : Nat) (v : List Byte) :
    (s.putCalibShadow k v).dictUp = s.dictUp := rfl
@[simp] theorem State.putCalibShadow_alive (k : Nat) (v : List Byte) :
    (s.putCalibShadow k v).alive = s.alive := rfl
@[simp] theorem State.putCalibShadow_hostByte (k : Nat) (v : List Byte) (p : Nat) :
    (s.putCalibShadow k v).hostByte p = s.hostByte p := rfl
@[simp] theorem State.putCalibShadow_sessAt (k : Nat) (v : List Byte) (p : Nat) :
    (s.putCalibShadow k v).sessAt p = s.sessAt p := rfl
@[simp] theorem State.putCalibShadow_canvasAt (k : Nat) (v : List Byte) (p : Nat) :
    (s.putCalibShadow k v).canvasAt p = s.canvasAt p := rfl
@[simp] theorem State.putCalibShadow_layerAt (k : Nat) (v : List Byte) (p : Nat) :
    (s.putCalibShadow k v).layerAt p = s.layerAt p := rfl
@[simp] theorem State.putCalibShadow_headAt (k : Nat) (v : List Byte) (p : Nat) :
    (s.putCalibShadow k v).headAt p = s.headAt p := rfl
@[simp] theorem State.putCalibShadow_inputAt (k : Nat) (v : List Byte) (p : Nat) :
    (s.putCalibShadow k v).inputAt p = s.inputAt p := rfl
@[simp] theorem State.putCalibShadow_hostAt (k : Nat) (v : List Byte) (p : Nat) :
    (s.putCalibShadow k v).hostAt p = s.hostAt p := rfl
@[simp] theorem State.putCalibShadow_playerAt (k : Nat) (v : List Byte) (p : Nat) :
    (s.putCalibShadow k v).playerAt p = s.playerAt p := rfl
@[simp] theorem State.putCalibShadow_refAt (k : Nat) (v : List Byte) (p : Nat) :
    (s.putCalibShadow k v).refAt p = s.refAt p := rfl
@[simp] theorem State.putCalibShadow_ftgAt (k : Nat) (v : List Byte) (p : Nat) :
    (s.putCalibShadow k v).ftgAt p = s.ftgAt p := rfl
@[simp] theorem State.putCalibShadow_ulaneAt (k : Nat) (v : List Byte) (p : Nat) :
    (s.putCalibShadow k v).ulaneAt p = s.ulaneAt p := rfl
@[simp] theorem State.putCalibShadow_dlaneAt (k : Nat) (v : List Byte) (p : Nat) :
    (s.putCalibShadow k v).dlaneAt p = s.dlaneAt p := rfl
@[simp] theorem State.putCalibShadow_groupAt (k : Nat) (v : List Byte) (p : Nat) :
    (s.putCalibShadow k v).groupAt p = s.groupAt p := rfl
@[simp] theorem State.putCalibShadow_engineAt (k : Nat) (v : List Byte) (p : Nat) :
    (s.putCalibShadow k v).engineAt p = s.engineAt p := rfl
@[simp] theorem State.putCalibShadow_calibShadowAt (k : Nat) (v : List Byte) :
    (s.putCalibShadow k v).calibShadowAt k = v := Store.read_write_self _ _ _ _
@[simp] theorem State.modCalibShadow_eq (k : Nat) (f : List Byte → List Byte) :
    s.modCalibShadow k f = s.putCalibShadow k (f (s.calibShadowAt k)) := rfl
theorem State.putCalibShadow_calibShadowAt_ne (k i : Nat) (v : List Byte) (h : i ≠ k) :
    (s.putCalibShadow k v).calibShadowAt i = s.calibShadowAt i := Store.read_write_ne _ _ _ h
@[simp] theorem State.putChannelEntry_regs (k : Nat) (v : List Byte) :
    (s.putChannelEntry k v).regs = s.regs := rfl
@[simp] theorem State.putChannelEntry_doms (k : Nat) (v : List Byte) :
    (s.putChannelEntry k v).doms = s.doms := rfl
@[simp] theorem State.putChannelEntry_ev (k : Nat) (v : List Byte) :
    (s.putChannelEntry k v).ev = s.ev := rfl
@[simp] theorem State.putChannelEntry_sess (k : Nat) (v : List Byte) :
    (s.putChannelEntry k v).sess = s.sess := rfl
@[simp] theorem State.putChannelEntry_wire (k : Nat) (v : List Byte) :
    (s.putChannelEntry k v).wire = s.wire := rfl
@[simp] theorem State.putChannelEntry_actor (k : Nat) (v : List Byte) :
    (s.putChannelEntry k v).actor = s.actor := rfl
@[simp] theorem State.putChannelEntry_tap (k : Nat) (v : List Byte) :
    (s.putChannelEntry k v).tap = s.tap := rfl
@[simp] theorem State.putChannelEntry_pending (k : Nat) (v : List Byte) :
    (s.putChannelEntry k v).pending = s.pending := rfl
@[simp] theorem State.putChannelEntry_timebase (k : Nat) (v : List Byte) :
    (s.putChannelEntry k v).timebase = s.timebase := rfl
@[simp] theorem State.putChannelEntry_dev (k : Nat) (v : List Byte) :
    (s.putChannelEntry k v).dev = s.dev := rfl
@[simp] theorem State.putChannelEntry_dram (k : Nat) (v : List Byte) :
    (s.putChannelEntry k v).dram = s.dram := rfl
@[simp] theorem State.putChannelEntry_rd (k : Nat) (v : List Byte) (i : EntryDef) (p q : Nat) :
    (s.putChannelEntry k v).rd i p q = s.rd i p q := rfl
@[simp] theorem State.putChannelEntry_flag (k : Nat) (v : List Byte) (i : EntryDef) (p q : Nat) :
    (s.putChannelEntry k v).flag i p q = s.flag i p q := rfl
@[simp] theorem State.putChannelEntry_rdInt (k : Nat) (v : List Byte) (i : EntryDef) (p q : Nat) :
    (s.putChannelEntry k v).rdInt i p q = s.rdInt i p q := rfl
@[simp] theorem State.putChannelEntry_dom (k : Nat) (v : List Byte) (i : EntryDef) (p q : Nat) :
    (s.putChannelEntry k v).dom i p q = s.dom i p q := rfl
@[simp] theorem State.putChannelEntry_floor (k : Nat) (v : List Byte) :
    (s.putChannelEntry k v).floor = s.floor := rfl
@[simp] theorem State.putChannelEntry_devState (k : Nat) (v : List Byte) :
    (s.putChannelEntry k v).devState = s.devState := rfl
@[simp] theorem State.putChannelEntry_dictUp (k : Nat) (v : List Byte) :
    (s.putChannelEntry k v).dictUp = s.dictUp := rfl
@[simp] theorem State.putChannelEntry_alive (k : Nat) (v : List Byte) :
    (s.putChannelEntry k v).alive = s.alive := rfl
@[simp] theorem State.putChannelEntry_hostByte (k : Nat) (v : List Byte) (p : Nat) :
    (s.putChannelEntry k v).hostByte p = s.hostByte p := rfl
@[simp] theorem State.putChannelEntry_sessAt (k : Nat) (v : List Byte) (p : Nat) :
    (s.putChannelEntry k v).sessAt p = s.sessAt p := rfl
@[simp] theorem State.putChannelEntry_canvasAt (k : Nat) (v : List Byte) (p : Nat) :
    (s.putChannelEntry k v).canvasAt p = s.canvasAt p := rfl
@[simp] theorem State.putChannelEntry_layerAt (k : Nat) (v : List Byte) (p : Nat) :
    (s.putChannelEntry k v).layerAt p = s.layerAt p := rfl
@[simp] theorem State.putChannelEntry_headAt (k : Nat) (v : List Byte) (p : Nat) :
    (s.putChannelEntry k v).headAt p = s.headAt p := rfl
@[simp] theorem State.putChannelEntry_inputAt (k : Nat) (v : List Byte) (p : Nat) :
    (s.putChannelEntry k v).inputAt p = s.inputAt p := rfl
@[simp] theorem State.putChannelEntry_hostAt (k : Nat) (v : List Byte) (p : Nat) :
    (s.putChannelEntry k v).hostAt p = s.hostAt p := rfl
@[simp] theorem State.putChannelEntry_playerAt (k : Nat) (v : List Byte) (p : Nat) :
    (s.putChannelEntry k v).playerAt p = s.playerAt p := rfl
@[simp] theorem State.putChannelEntry_refAt (k : Nat) (v : List Byte) (p : Nat) :
    (s.putChannelEntry k v).refAt p = s.refAt p := rfl
@[simp] theorem State.putChannelEntry_ftgAt (k : Nat) (v : List Byte) (p : Nat) :
    (s.putChannelEntry k v).ftgAt p = s.ftgAt p := rfl
@[simp] theorem State.putChannelEntry_ulaneAt (k : Nat) (v : List Byte) (p : Nat) :
    (s.putChannelEntry k v).ulaneAt p = s.ulaneAt p := rfl
@[simp] theorem State.putChannelEntry_dlaneAt (k : Nat) (v : List Byte) (p : Nat) :
    (s.putChannelEntry k v).dlaneAt p = s.dlaneAt p := rfl
@[simp] theorem State.putChannelEntry_groupAt (k : Nat) (v : List Byte) (p : Nat) :
    (s.putChannelEntry k v).groupAt p = s.groupAt p := rfl
@[simp] theorem State.putChannelEntry_engineAt (k : Nat) (v : List Byte) (p : Nat) :
    (s.putChannelEntry k v).engineAt p = s.engineAt p := rfl
@[simp] theorem State.putChannelEntry_channelEntryAt (k : Nat) (v : List Byte) :
    (s.putChannelEntry k v).channelEntryAt k = v := Store.read_write_self _ _ _ _
@[simp] theorem State.modChannelEntry_eq (k : Nat) (f : List Byte → List Byte) :
    s.modChannelEntry k f = s.putChannelEntry k (f (s.channelEntryAt k)) := rfl
theorem State.putChannelEntry_channelEntryAt_ne (k i : Nat) (v : List Byte) (h : i ≠ k) :
    (s.putChannelEntry k v).channelEntryAt i = s.channelEntryAt i := Store.read_write_ne _ _ _ h
@[simp] theorem State.putStreamEntry_regs (k : Nat) (v : List Byte) :
    (s.putStreamEntry k v).regs = s.regs := rfl
@[simp] theorem State.putStreamEntry_doms (k : Nat) (v : List Byte) :
    (s.putStreamEntry k v).doms = s.doms := rfl
@[simp] theorem State.putStreamEntry_ev (k : Nat) (v : List Byte) :
    (s.putStreamEntry k v).ev = s.ev := rfl
@[simp] theorem State.putStreamEntry_sess (k : Nat) (v : List Byte) :
    (s.putStreamEntry k v).sess = s.sess := rfl
@[simp] theorem State.putStreamEntry_wire (k : Nat) (v : List Byte) :
    (s.putStreamEntry k v).wire = s.wire := rfl
@[simp] theorem State.putStreamEntry_actor (k : Nat) (v : List Byte) :
    (s.putStreamEntry k v).actor = s.actor := rfl
@[simp] theorem State.putStreamEntry_tap (k : Nat) (v : List Byte) :
    (s.putStreamEntry k v).tap = s.tap := rfl
@[simp] theorem State.putStreamEntry_pending (k : Nat) (v : List Byte) :
    (s.putStreamEntry k v).pending = s.pending := rfl
@[simp] theorem State.putStreamEntry_timebase (k : Nat) (v : List Byte) :
    (s.putStreamEntry k v).timebase = s.timebase := rfl
@[simp] theorem State.putStreamEntry_dev (k : Nat) (v : List Byte) :
    (s.putStreamEntry k v).dev = s.dev := rfl
@[simp] theorem State.putStreamEntry_dram (k : Nat) (v : List Byte) :
    (s.putStreamEntry k v).dram = s.dram := rfl
@[simp] theorem State.putStreamEntry_rd (k : Nat) (v : List Byte) (i : EntryDef) (p q : Nat) :
    (s.putStreamEntry k v).rd i p q = s.rd i p q := rfl
@[simp] theorem State.putStreamEntry_flag (k : Nat) (v : List Byte) (i : EntryDef) (p q : Nat) :
    (s.putStreamEntry k v).flag i p q = s.flag i p q := rfl
@[simp] theorem State.putStreamEntry_rdInt (k : Nat) (v : List Byte) (i : EntryDef) (p q : Nat) :
    (s.putStreamEntry k v).rdInt i p q = s.rdInt i p q := rfl
@[simp] theorem State.putStreamEntry_dom (k : Nat) (v : List Byte) (i : EntryDef) (p q : Nat) :
    (s.putStreamEntry k v).dom i p q = s.dom i p q := rfl
@[simp] theorem State.putStreamEntry_floor (k : Nat) (v : List Byte) :
    (s.putStreamEntry k v).floor = s.floor := rfl
@[simp] theorem State.putStreamEntry_devState (k : Nat) (v : List Byte) :
    (s.putStreamEntry k v).devState = s.devState := rfl
@[simp] theorem State.putStreamEntry_dictUp (k : Nat) (v : List Byte) :
    (s.putStreamEntry k v).dictUp = s.dictUp := rfl
@[simp] theorem State.putStreamEntry_alive (k : Nat) (v : List Byte) :
    (s.putStreamEntry k v).alive = s.alive := rfl
@[simp] theorem State.putStreamEntry_hostByte (k : Nat) (v : List Byte) (p : Nat) :
    (s.putStreamEntry k v).hostByte p = s.hostByte p := rfl
@[simp] theorem State.putStreamEntry_sessAt (k : Nat) (v : List Byte) (p : Nat) :
    (s.putStreamEntry k v).sessAt p = s.sessAt p := rfl
@[simp] theorem State.putStreamEntry_canvasAt (k : Nat) (v : List Byte) (p : Nat) :
    (s.putStreamEntry k v).canvasAt p = s.canvasAt p := rfl
@[simp] theorem State.putStreamEntry_layerAt (k : Nat) (v : List Byte) (p : Nat) :
    (s.putStreamEntry k v).layerAt p = s.layerAt p := rfl
@[simp] theorem State.putStreamEntry_headAt (k : Nat) (v : List Byte) (p : Nat) :
    (s.putStreamEntry k v).headAt p = s.headAt p := rfl
@[simp] theorem State.putStreamEntry_inputAt (k : Nat) (v : List Byte) (p : Nat) :
    (s.putStreamEntry k v).inputAt p = s.inputAt p := rfl
@[simp] theorem State.putStreamEntry_hostAt (k : Nat) (v : List Byte) (p : Nat) :
    (s.putStreamEntry k v).hostAt p = s.hostAt p := rfl
@[simp] theorem State.putStreamEntry_playerAt (k : Nat) (v : List Byte) (p : Nat) :
    (s.putStreamEntry k v).playerAt p = s.playerAt p := rfl
@[simp] theorem State.putStreamEntry_refAt (k : Nat) (v : List Byte) (p : Nat) :
    (s.putStreamEntry k v).refAt p = s.refAt p := rfl
@[simp] theorem State.putStreamEntry_ftgAt (k : Nat) (v : List Byte) (p : Nat) :
    (s.putStreamEntry k v).ftgAt p = s.ftgAt p := rfl
@[simp] theorem State.putStreamEntry_ulaneAt (k : Nat) (v : List Byte) (p : Nat) :
    (s.putStreamEntry k v).ulaneAt p = s.ulaneAt p := rfl
@[simp] theorem State.putStreamEntry_dlaneAt (k : Nat) (v : List Byte) (p : Nat) :
    (s.putStreamEntry k v).dlaneAt p = s.dlaneAt p := rfl
@[simp] theorem State.putStreamEntry_groupAt (k : Nat) (v : List Byte) (p : Nat) :
    (s.putStreamEntry k v).groupAt p = s.groupAt p := rfl
@[simp] theorem State.putStreamEntry_engineAt (k : Nat) (v : List Byte) (p : Nat) :
    (s.putStreamEntry k v).engineAt p = s.engineAt p := rfl
@[simp] theorem State.putStreamEntry_streamEntryAt (k : Nat) (v : List Byte) :
    (s.putStreamEntry k v).streamEntryAt k = v := Store.read_write_self _ _ _ _
@[simp] theorem State.modStreamEntry_eq (k : Nat) (f : List Byte → List Byte) :
    s.modStreamEntry k f = s.putStreamEntry k (f (s.streamEntryAt k)) := rfl
theorem State.putStreamEntry_streamEntryAt_ne (k i : Nat) (v : List Byte) (h : i ≠ k) :
    (s.putStreamEntry k v).streamEntryAt i = s.streamEntryAt i := Store.read_write_ne _ _ _ h

/-! ### Registers -/

@[simp] theorem State.setReg_regAt (k v : Nat) : (s.setReg k v).regAt k = v := Store.read_write_self _ _ _ _
theorem State.setReg_regAt_ne (k v i : Nat) (h : i ≠ k) : (s.setReg k v).regAt i = s.regAt i :=
  Store.read_write_ne _ _ _ h
theorem State.rd_eq_regAt (e : EntryDef) (n k : Nat) : s.rd e n k = s.regAt (e.key n k) := rfl

/-- A register reads as what was written, cut to its type. -/
@[simp] theorem State.wr_rd (e : EntryDef) (v n k : Nat) :
    (s.wr e v n k).rd e n k = v % 2 ^ (8 * e.type.size) := Store.read_write_self _ _ _ _
/-- A write of one register leaves the others. -/
theorem State.wr_rd_ne (e i : EntryDef) (v n k p q : Nat) (h : i.key p q ≠ e.key n k) :
    (s.wr e v n k).rd i p q = s.rd i p q := Store.read_write_ne _ _ _ h
theorem State.wr_regAt_ne (e : EntryDef) (v n k i : Nat) (h : i ≠ e.key n k) :
    (s.wr e v n k).regAt i = s.regAt i := Store.read_write_ne _ _ _ h
@[simp] theorem State.wrInt_eq (e : EntryDef) (v : Int) (n k : Nat) :
    s.wrInt e v n k = s.wr e (unsigned (8 * e.type.size) v) n k := rfl
@[simp] theorem State.wrFlag_eq (e : EntryDef) (b : Bool) (n k : Nat) : s.wrFlag e b n k = s.wr e b.toNat n k := rfl
@[simp] theorem State.inc_eq (e : EntryDef) (n k d : Nat) : s.inc e n k d = s.wr e (s.rd e n k + d) n k := rfl
@[simp] theorem State.wrTime_eq (a b : EntryDef) (t n k : Nat) :
    s.wrTime a b t n k = (s.wr a (t / nsPerS % 2 ^ 48) n k).wr b (t % nsPerS) n k := rfl
@[simp] theorem State.raise_eq (d : EventDef) (a b : Nat) : s.raise d a b = s.raiseWith false s.actor d a b := rfl
@[simp] theorem State.raiseBy_eq (x : Nat) (d : EventDef) (a b : Nat) :
    s.raiseBy x d a b = s.raiseWith false x d a b := rfl
@[simp] theorem State.raisePin_eq (d : EventDef) (a b : Nat) : s.raisePin d a b = s.raiseWith false 0xFE d a b := rfl
@[simp] theorem State.wrDom_dom (e : EntryDef) (v : List Byte) (n k : Nat) :
    (s.wrDom e v n k).dom e n k = v := Store.read_write_self _ _ _ _
theorem State.wrDom_dom_ne (e i : EntryDef) (v : List Byte) (n k p q : Nat) (h : i.key p q ≠ e.key n k) :
    (s.wrDom e v n k).dom i p q = s.dom i p q := Store.read_write_ne _ _ _ h
@[simp] theorem State.begin_wire : s.begin.wire = [] := rfl
/-- What an event puts on the wire comes behind what is there. -/
theorem State.raiseWith_wire (y : Bool) (x : Nat) (d : EventDef) (a b : Nat) :
    ∃ w, (s.raiseWith y x d a b).wire = s.wire ++ w := ⟨_, rfl⟩
@[simp] theorem State.out_wire (w : WireItem) : (s.out w).wire = s.wire ++ [w] := rfl

end Sys2Proof.Machine
end

