-- ==== Sys2Proof/Laws/Access.lean ====
section
/-! SUPPORT. What an answer, a refusal and an access that passes its checks do (R400, R413, R417, R418, R427). -/
namespace Sys2Proof.Machine
open Sys2Proof

variable (s : State)

/-! ### Answers -/

/-- The fields that an answer may change: the pins, the SPI and mailbox engines, MSI-X vectors and a UDP session. -/
theorem State.answer_frame (index : Nat) (r : Response) :
    s.answer index r = { s with
      wire := (s.answer index r).wire, spi := (s.answer index r).spi, mailbox := (s.answer index r).mailbox
      ev := (s.answer index r).ev, sess := (s.answer index r).sess } := by
  unfold State.answer
  simp only []
  split
  · unfold State.spiAnswer; split <;> rfl
  · split
    · unfold State.mailboxAnswer; simp only []; split <;> rfl
    · split
      · unfold State.udpAnswer; simp only []; split <;> rfl
      · rfl

/-- An answer puts its response on the pins. -/
theorem State.answer_wire (index : Nat) (r : Response) : WireItem.response r ∈ (s.answer index r).wire := by
  unfold State.answer
  simp only []
  split
  · unfold State.spiAnswer; split <;> simp [State.out]
  · split
    · unfold State.mailboxAnswer; simp only []; split <;> simp [State.out]
    · split
      · unfold State.udpAnswer; simp only []; split <;> simp [State.out]
      · simp [State.out]

@[simp] theorem State.answer_now (x : Nat) (r : Response) : (s.answer x r).now = s.now := by
  rw [State.answer_frame]
@[simp] theorem State.answer_timebase (x : Nat) (r : Response) : (s.answer x r).timebase = s.timebase := by
  rw [State.answer_frame]
@[simp] theorem State.answer_dcoRest (x : Nat) (r : Response) : (s.answer x r).dcoRest = s.dcoRest := by
  rw [State.answer_frame]
@[simp] theorem State.answer_pending (x : Nat) (r : Response) : (s.answer x r).pending = s.pending := by
  rw [State.answer_frame]
@[simp] theorem State.answer_regs (x : Nat) (r : Response) : (s.answer x r).regs = s.regs := by
  rw [State.answer_frame]
@[simp] theorem State.answer_shadow (x : Nat) (r : Response) : (s.answer x r).shadow = s.shadow := by
  rw [State.answer_frame]
@[simp] theorem State.answer_doms (x : Nat) (r : Response) : (s.answer x r).doms = s.doms := by
  rw [State.answer_frame]
@[simp] theorem State.answer_shadowDoms (x : Nat) (r : Response) : (s.answer x r).shadowDoms = s.shadowDoms := by
  rw [State.answer_frame]
@[simp] theorem State.answer_minSeverityDefault (x : Nat) (r : Response) : (s.answer x r).minSeverityDefault = s.minSeverityDefault := by
  rw [State.answer_frame]
@[simp] theorem State.answer_can (x : Nat) (r : Response) : (s.answer x r).can = s.can := by
  rw [State.answer_frame]
@[simp] theorem State.answer_tagRejectAt (x : Nat) (r : Response) : (s.answer x r).tagRejectAt = s.tagRejectAt := by
  rw [State.answer_frame]
@[simp] theorem State.answer_udpFailures (x : Nat) (r : Response) : (s.answer x r).udpFailures = s.udpFailures := by
  rw [State.answer_frame]
@[simp] theorem State.answer_udpLocked (x : Nat) (r : Response) : (s.answer x r).udpLocked = s.udpLocked := by
  rw [State.answer_frame]
@[simp] theorem State.answer_draws (x : Nat) (r : Response) : (s.answer x r).draws = s.draws := by
  rw [State.answer_frame]
@[simp] theorem State.answer_staging (x : Nat) (r : Response) : (s.answer x r).staging = s.staging := by
  rw [State.answer_frame]
@[simp] theorem State.answer_stagingSess (x : Nat) (r : Response) : (s.answer x r).stagingSess = s.stagingSess := by
  rw [State.answer_frame]
@[simp] theorem State.answer_copy0 (x : Nat) (r : Response) : (s.answer x r).copy0 = s.copy0 := by
  rw [State.answer_frame]
@[simp] theorem State.answer_copy1 (x : Nat) (r : Response) : (s.answer x r).copy1 = s.copy1 := by
  rw [State.answer_frame]
@[simp] theorem State.answer_mgmtWait (x : Nat) (r : Response) : (s.answer x r).mgmtWait = s.mgmtWait := by
  rw [State.answer_frame]
@[simp] theorem State.answer_gov (x : Nat) (r : Response) : (s.answer x r).gov = s.gov := by
  rw [State.answer_frame]
@[simp] theorem State.answer_engines (x : Nat) (r : Response) : (s.answer x r).engines = s.engines := by
  rw [State.answer_frame]
@[simp] theorem State.answer_strips (x : Nat) (r : Response) : (s.answer x r).strips = s.strips := by
  rw [State.answer_frame]
@[simp] theorem State.answer_inputs (x : Nat) (r : Response) : (s.answer x r).inputs = s.inputs := by
  rw [State.answer_frame]
@[simp] theorem State.answer_hosts (x : Nat) (r : Response) : (s.answer x r).hosts = s.hosts := by
  rw [State.answer_frame]
@[simp] theorem State.answer_players (x : Nat) (r : Response) : (s.answer x r).players = s.players := by
  rw [State.answer_frame]
@[simp] theorem State.answer_layers (x : Nat) (r : Response) : (s.answer x r).layers = s.layers := by
  rw [State.answer_frame]
@[simp] theorem State.answer_canvases (x : Nat) (r : Response) : (s.answer x r).canvases = s.canvases := by
  rw [State.answer_frame]
@[simp] theorem State.answer_heads (x : Nat) (r : Response) : (s.answer x r).heads = s.heads := by
  rw [State.answer_frame]
@[simp] theorem State.answer_validating (x : Nat) (r : Response) : (s.answer x r).validating = s.validating := by
  rw [State.answer_frame]
@[simp] theorem State.answer_pendingCommits (x : Nat) (r : Response) : (s.answer x r).pendingCommits = s.pendingCommits := by
  rw [State.answer_frame]
@[simp] theorem State.answer_deferredWrites (x : Nat) (r : Response) : (s.answer x r).deferredWrites = s.deferredWrites := by
  rw [State.answer_frame]
@[simp] theorem State.answer_ulanes (x : Nat) (r : Response) : (s.answer x r).ulanes = s.ulanes := by
  rw [State.answer_frame]
@[simp] theorem State.answer_dlanes (x : Nat) (r : Response) : (s.answer x r).dlanes = s.dlanes := by
  rw [State.answer_frame]
@[simp] theorem State.answer_groups (x : Nat) (r : Response) : (s.answer x r).groups = s.groups := by
  rw [State.answer_frame]
@[simp] theorem State.answer_fecTimes (x : Nat) (r : Response) : (s.answer x r).fecTimes = s.fecTimes := by
  rw [State.answer_frame]
@[simp] theorem State.answer_routes (x : Nat) (r : Response) : (s.answer x r).routes = s.routes := by
  rw [State.answer_frame]
@[simp] theorem State.answer_activeEntry (x : Nat) (r : Response) : (s.answer x r).activeEntry = s.activeEntry := by
  rw [State.answer_frame]
@[simp] theorem State.answer_flows (x : Nat) (r : Response) : (s.answer x r).flows = s.flows := by
  rw [State.answer_frame]
@[simp] theorem State.answer_switches (x : Nat) (r : Response) : (s.answer x r).switches = s.switches := by
  rw [State.answer_frame]
@[simp] theorem State.answer_switchedAt (x : Nat) (r : Response) : (s.answer x r).switchedAt = s.switchedAt := by
  rw [State.answer_frame]
@[simp] theorem State.answer_dropCount (x : Nat) (r : Response) : (s.answer x r).dropCount = s.dropCount := by
  rw [State.answer_frame]
@[simp] theorem State.answer_dropAt (x : Nat) (r : Response) : (s.answer x r).dropAt = s.dropAt := by
  rw [State.answer_frame]
@[simp] theorem State.answer_rtpSeq (x : Nat) (r : Response) : (s.answer x r).rtpSeq = s.rtpSeq := by
  rw [State.answer_frame]
@[simp] theorem State.answer_banks (x : Nat) (r : Response) : (s.answer x r).banks = s.banks := by
  rw [State.answer_frame]
@[simp] theorem State.answer_luts (x : Nat) (r : Response) : (s.answer x r).luts = s.luts := by
  rw [State.answer_frame]
@[simp] theorem State.answer_luts3d (x : Nat) (r : Response) : (s.answer x r).luts3d = s.luts3d := by
  rw [State.answer_frame]
@[simp] theorem State.answer_imageDesc (x : Nat) (r : Response) : (s.answer x r).imageDesc = s.imageDesc := by
  rw [State.answer_frame]
@[simp] theorem State.answer_imageData (x : Nat) (r : Response) : (s.answer x r).imageData = s.imageData := by
  rw [State.answer_frame]
@[simp] theorem State.answer_imageCrc (x : Nat) (r : Response) : (s.answer x r).imageCrc = s.imageCrc := by
  rw [State.answer_frame]
@[simp] theorem State.answer_imageBad (x : Nat) (r : Response) : (s.answer x r).imageBad = s.imageBad := by
  rw [State.answer_frame]
@[simp] theorem State.answer_tileMap (x : Nat) (r : Response) : (s.answer x r).tileMap = s.tileMap := by
  rw [State.answer_frame]
@[simp] theorem State.answer_tileShadow (x : Nat) (r : Response) : (s.answer x r).tileShadow = s.tileShadow := by
  rw [State.answer_frame]
@[simp] theorem State.answer_calib (x : Nat) (r : Response) : (s.answer x r).calib = s.calib := by
  rw [State.answer_frame]
@[simp] theorem State.answer_calibShadow (x : Nat) (r : Response) : (s.answer x r).calibShadow = s.calibShadow := by
  rw [State.answer_frame]
@[simp] theorem State.answer_tiles (x : Nat) (r : Response) : (s.answer x r).tiles = s.tiles := by
  rw [State.answer_frame]
@[simp] theorem State.answer_ptl (x : Nat) (r : Response) : (s.answer x r).ptl = s.ptl := by
  rw [State.answer_frame]
@[simp] theorem State.answer_ptlCounters (x : Nat) (r : Response) : (s.answer x r).ptlCounters = s.ptlCounters := by
  rw [State.answer_frame]
@[simp] theorem State.answer_authFailTimes (x : Nat) (r : Response) : (s.answer x r).authFailTimes = s.authFailTimes := by
  rw [State.answer_frame]
@[simp] theorem State.answer_hentis (x : Nat) (r : Response) : (s.answer x r).hentis = s.hentis := by
  rw [State.answer_frame]
@[simp] theorem State.answer_refs (x : Nat) (r : Response) : (s.answer x r).refs = s.refs := by
  rw [State.answer_frame]
@[simp] theorem State.answer_ftgs (x : Nat) (r : Response) : (s.answer x r).ftgs = s.ftgs := by
  rw [State.answer_frame]
@[simp] theorem State.answer_audio (x : Nat) (r : Response) : (s.answer x r).audio = s.audio := by
  rw [State.answer_frame]
@[simp] theorem State.answer_channelTable (x : Nat) (r : Response) : (s.answer x r).channelTable = s.channelTable := by
  rw [State.answer_frame]
@[simp] theorem State.answer_streamTable (x : Nat) (r : Response) : (s.answer x r).streamTable = s.streamTable := by
  rw [State.answer_frame]
@[simp] theorem State.answer_channels (x : Nat) (r : Response) : (s.answer x r).channels = s.channels := by
  rw [State.answer_frame]
@[simp] theorem State.answer_endpoints (x : Nat) (r : Response) : (s.answer x r).endpoints = s.endpoints := by
  rw [State.answer_frame]
@[simp] theorem State.answer_dram (x : Nat) (r : Response) : (s.answer x r).dram = s.dram := by
  rw [State.answer_frame]
@[simp] theorem State.answer_scanAlloc (x : Nat) (r : Response) : (s.answer x r).scanAlloc = s.scanAlloc := by
  rw [State.answer_frame]
@[simp] theorem State.answer_stageAlloc (x : Nat) (r : Response) : (s.answer x r).stageAlloc = s.stageAlloc := by
  rw [State.answer_frame]
@[simp] theorem State.answer_liningAlloc (x : Nat) (r : Response) : (s.answer x r).liningAlloc = s.liningAlloc := by
  rw [State.answer_frame]
@[simp] theorem State.answer_liningLostKib (x : Nat) (r : Response) : (s.answer x r).liningLostKib = s.liningLostKib := by
  rw [State.answer_frame]
@[simp] theorem State.answer_pocket (x : Nat) (r : Response) : (s.answer x r).pocket = s.pocket := by
  rw [State.answer_frame]
@[simp] theorem State.answer_resil (x : Nat) (r : Response) : (s.answer x r).resil = s.resil := by
  rw [State.answer_frame]
@[simp] theorem State.answer_keys (x : Nat) (r : Response) : (s.answer x r).keys = s.keys := by
  rw [State.answer_frame]
@[simp] theorem State.answer_life (x : Nat) (r : Response) : (s.answer x r).life = s.life := by
  rw [State.answer_frame]
@[simp] theorem State.answer_supply (x : Nat) (r : Response) : (s.answer x r).supply = s.supply := by
  rw [State.answer_frame]
@[simp] theorem State.answer_dev (x : Nat) (r : Response) : (s.answer x r).dev = s.dev := by
  rw [State.answer_frame]
@[simp] theorem State.answer_rd (x : Nat) (r : Response) (i : EntryDef) (p q : Nat) :
    (s.answer x r).rd i p q = s.rd i p q := by
  rw [State.answer_frame]; rfl
@[simp] theorem State.answer_flag (x : Nat) (r : Response) (i : EntryDef) (p q : Nat) :
    (s.answer x r).flag i p q = s.flag i p q := by
  rw [State.answer_frame]; rfl
@[simp] theorem State.answer_regAt (x : Nat) (r : Response) (p : Nat) :
    (s.answer x r).regAt p = s.regAt p := by
  rw [State.answer_frame]; rfl
@[simp] theorem State.answer_dom (x : Nat) (r : Response) (i : EntryDef) (p q : Nat) :
    (s.answer x r).dom i p q = s.dom i p q := by
  rw [State.answer_frame]; rfl
@[simp] theorem State.answer_devState (x : Nat) (r : Response) :
    (s.answer x r).devState = s.devState := by
  rw [State.answer_frame]; rfl
@[simp] theorem State.answer_dictUp (x : Nat) (r : Response) :
    (s.answer x r).dictUp = s.dictUp := by
  rw [State.answer_frame]; rfl
@[simp] theorem State.answer_alive (x : Nat) (r : Response) :
    (s.answer x r).alive = s.alive := by
  rw [State.answer_frame]; rfl
@[simp] theorem State.answer_hostByte (x : Nat) (r : Response) (p : Nat) :
    (s.answer x r).hostByte p = s.hostByte p := by
  rw [State.answer_frame]; rfl
@[simp] theorem State.answer_canAt (x : Nat) (r : Response) (p : Nat) :
    (s.answer x r).canAt p = s.canAt p := by
  rw [State.answer_frame]; rfl
@[simp] theorem State.answer_engineAt (x : Nat) (r : Response) (p : Nat) :
    (s.answer x r).engineAt p = s.engineAt p := by
  rw [State.answer_frame]; rfl
@[simp] theorem State.answer_inputAt (x : Nat) (r : Response) (p : Nat) :
    (s.answer x r).inputAt p = s.inputAt p := by
  rw [State.answer_frame]; rfl
@[simp] theorem State.answer_hostAt (x : Nat) (r : Response) (p : Nat) :
    (s.answer x r).hostAt p = s.hostAt p := by
  rw [State.answer_frame]; rfl
@[simp] theorem State.answer_playerAt (x : Nat) (r : Response) (p : Nat) :
    (s.answer x r).playerAt p = s.playerAt p := by
  rw [State.answer_frame]; rfl
@[simp] theorem State.answer_layerAt (x : Nat) (r : Response) (p : Nat) :
    (s.answer x r).layerAt p = s.layerAt p := by
  rw [State.answer_frame]; rfl
@[simp] theorem State.answer_canvasAt (x : Nat) (r : Response) (p : Nat) :
    (s.answer x r).canvasAt p = s.canvasAt p := by
  rw [State.answer_frame]; rfl
@[simp] theorem State.answer_headAt (x : Nat) (r : Response) (p : Nat) :
    (s.answer x r).headAt p = s.headAt p := by
  rw [State.answer_frame]; rfl
@[simp] theorem State.answer_ulaneAt (x : Nat) (r : Response) (p : Nat) :
    (s.answer x r).ulaneAt p = s.ulaneAt p := by
  rw [State.answer_frame]; rfl
@[simp] theorem State.answer_dlaneAt (x : Nat) (r : Response) (p : Nat) :
    (s.answer x r).dlaneAt p = s.dlaneAt p := by
  rw [State.answer_frame]; rfl
@[simp] theorem State.answer_groupAt (x : Nat) (r : Response) (p : Nat) :
    (s.answer x r).groupAt p = s.groupAt p := by
  rw [State.answer_frame]; rfl
@[simp] theorem State.answer_flowAt (x : Nat) (r : Response) (p : Nat) :
    (s.answer x r).flowAt p = s.flowAt p := by
  rw [State.answer_frame]; rfl
@[simp] theorem State.answer_tileAt (x : Nat) (r : Response) (p : Nat) :
    (s.answer x r).tileAt p = s.tileAt p := by
  rw [State.answer_frame]; rfl
@[simp] theorem State.answer_refAt (x : Nat) (r : Response) (p : Nat) :
    (s.answer x r).refAt p = s.refAt p := by
  rw [State.answer_frame]; rfl
@[simp] theorem State.answer_ftgAt (x : Nat) (r : Response) (p : Nat) :
    (s.answer x r).ftgAt p = s.ftgAt p := by
  rw [State.answer_frame]; rfl
@[simp] theorem State.answer_channelAt (x : Nat) (r : Response) (p : Nat) :
    (s.answer x r).channelAt p = s.channelAt p := by
  rw [State.answer_frame]; rfl
@[simp] theorem State.answer_endpointAt (x : Nat) (r : Response) (p : Nat) :
    (s.answer x r).endpointAt p = s.endpointAt p := by
  rw [State.answer_frame]; rfl
@[simp] theorem State.answer_imageBadAt (x : Nat) (r : Response) (p : Nat) :
    (s.answer x r).imageBadAt p = s.imageBadAt p := by
  rw [State.answer_frame]; rfl
@[simp] theorem State.answer_activeAt (x : Nat) (r : Response) (p : Nat) :
    (s.answer x r).activeAt p = s.activeAt p := by
  rw [State.answer_frame]; rfl
@[simp] theorem State.answer_udpFailAt (x : Nat) (r : Response) (p : Nat) :
    (s.answer x r).udpFailAt p = s.udpFailAt p := by
  rw [State.answer_frame]; rfl
@[simp] theorem State.answer_udpLockAt (x : Nat) (r : Response) (p : Nat) :
    (s.answer x r).udpLockAt p = s.udpLockAt p := by
  rw [State.answer_frame]; rfl
@[simp] theorem State.answer_droppedAt (x : Nat) (r : Response) (p : Nat) :
    (s.answer x r).droppedAt p = s.droppedAt p := by
  rw [State.answer_frame]; rfl
@[simp] theorem State.answer_dropTimeAt (x : Nat) (r : Response) (p : Nat) :
    (s.answer x r).dropTimeAt p = s.dropTimeAt p := by
  rw [State.answer_frame]; rfl
@[simp] theorem State.answer_rtpAt (x : Nat) (r : Response) (p : Nat) :
    (s.answer x r).rtpAt p = s.rtpAt p := by
  rw [State.answer_frame]; rfl
@[simp] theorem State.answer_imageCrcAt (x : Nat) (r : Response) (p : Nat) :
    (s.answer x r).imageCrcAt p = s.imageCrcAt p := by
  rw [State.answer_frame]; rfl
@[simp] theorem State.answer_ptlCounterAt (x : Nat) (r : Response) (p : Nat) :
    (s.answer x r).ptlCounterAt p = s.ptlCounterAt p := by
  rw [State.answer_frame]; rfl
@[simp] theorem State.answer_authFailAt (x : Nat) (r : Response) (p : Nat) :
    (s.answer x r).authFailAt p = s.authFailAt p := by
  rw [State.answer_frame]; rfl
@[simp] theorem State.answer_scanAt (x : Nat) (r : Response) (p : Nat) :
    (s.answer x r).scanAt p = s.scanAt p := by
  rw [State.answer_frame]; rfl
@[simp] theorem State.answer_stageAt (x : Nat) (r : Response) (p : Nat) :
    (s.answer x r).stageAt p = s.stageAt p := by
  rw [State.answer_frame]; rfl
@[simp] theorem State.answer_liningAt (x : Nat) (r : Response) (p : Nat) :
    (s.answer x r).liningAt p = s.liningAt p := by
  rw [State.answer_frame]; rfl
@[simp] theorem State.answer_routeAt (x : Nat) (r : Response) (p : Nat) :
    (s.answer x r).routeAt p = s.routeAt p := by
  rw [State.answer_frame]; rfl
@[simp] theorem State.answer_bankAt (x : Nat) (r : Response) (p : Nat) :
    (s.answer x r).bankAt p = s.bankAt p := by
  rw [State.answer_frame]; rfl
@[simp] theorem State.answer_lutAt (x : Nat) (r : Response) (p : Nat) :
    (s.answer x r).lutAt p = s.lutAt p := by
  rw [State.answer_frame]; rfl
@[simp] theorem State.answer_lut3dAt (x : Nat) (r : Response) (p : Nat) :
    (s.answer x r).lut3dAt p = s.lut3dAt p := by
  rw [State.answer_frame]; rfl
@[simp] theorem State.answer_imageDescAt (x : Nat) (r : Response) (p : Nat) :
    (s.answer x r).imageDescAt p = s.imageDescAt p := by
  rw [State.answer_frame]; rfl
@[simp] theorem State.answer_imageDataAt (x : Nat) (r : Response) (p : Nat) :
    (s.answer x r).imageDataAt p = s.imageDataAt p := by
  rw [State.answer_frame]; rfl
@[simp] theorem State.answer_tileEntryAt (x : Nat) (r : Response) (p : Nat) :
    (s.answer x r).tileEntryAt p = s.tileEntryAt p := by
  rw [State.answer_frame]; rfl
@[simp] theorem State.answer_tileShadowAt (x : Nat) (r : Response) (p : Nat) :
    (s.answer x r).tileShadowAt p = s.tileShadowAt p := by
  rw [State.answer_frame]; rfl
@[simp] theorem State.answer_calibAt (x : Nat) (r : Response) (p : Nat) :
    (s.answer x r).calibAt p = s.calibAt p := by
  rw [State.answer_frame]; rfl
@[simp] theorem State.answer_calibShadowAt (x : Nat) (r : Response) (p : Nat) :
    (s.answer x r).calibShadowAt p = s.calibShadowAt p := by
  rw [State.answer_frame]; rfl
@[simp] theorem State.answer_channelEntryAt (x : Nat) (r : Response) (p : Nat) :
    (s.answer x r).channelEntryAt p = s.channelEntryAt p := by
  rw [State.answer_frame]; rfl
@[simp] theorem State.answer_streamEntryAt (x : Nat) (r : Response) (p : Nat) :
    (s.answer x r).streamEntryAt p = s.streamEntryAt p := by
  rw [State.answer_frame]; rfl

@[simp] theorem State.respond_eq (k x : Nat) (data : List Byte) (more : Bool) :
    s.respond k x data more = s.answer x ⟨k, 0, 0, data, more⟩ := rfl
@[simp] theorem State.abort_eq (k x : Nat) (r : Refuse) : s.abort k x r = s.answer x ⟨k, r.abort, r.detail, [], false⟩ := rfl

/-! ### Writes -/

/-- A write that passes its checks has the effect that its chapter gives it. -/
theorem State.write_passes (k n j : Nat) (e : EntryDef) (data : List Byte) (eff : EntryDef → State → Effect)
    (he : e.listed = true) (hn : n < e.count) (hj : e.lo + j ≤ e.hi) (hp : Safety.passes s k e n j data) :
    s.begin.write k (e.base + n) (e.lo + j) data eff
      = s.begin.settle k (e.base + n) (e.lo + j) (eff e (s.begin.actBy k)) := by
  obtain ⟨⟨hu, ho⟩, hc⟩ := hp
  have hu' : (s.begin.actBy k).dictUp = true := hu
  have ho' : ((s.begin.actBy k).sessAt k).isOpen = true := ho
  have hc' : (s.begin.actBy k).writeChecks false k e (e.base + n) (e.lo + j) data = none := hc
  simp only [State.write, hu', ho', Bool.and_self, if_true, State.writeCheck, lookup_listed e he n j hn hj, hc']
  rfl

/-- A scalar write that passes its checks and whose chapter accepts it is answered as done. -/
theorem State.writeScalar_done (k n j v : Nat) (e : EntryDef) (eff : State → Effect) (t : State)
    (hp : Safety.passes s k e n j (leBytes e.type.size v)) (hd : eff (s.begin.actBy k) = .done t)
    (he : e.listed = true := by decide +kernel) (hn : n < e.count := by omega)
    (hj : e.lo + j ≤ e.hi := by decide) :
    s.begin.writeScalar k e n j v eff = t.answer (e.base + n) ⟨k, 0, 0, [], false⟩ := by
  unfold State.writeScalar
  rw [State.write_passes s k n j e _ _ he hn hj hp, hd]; rfl

/-- A block write that passes its checks and whose chapter accepts it is answered as done. -/
theorem State.writeBlock_done (k n j : Nat) (data : List Byte) (e : EntryDef) (eff : State → Effect) (t : State)
    (hp : Safety.passes s k e n j data) (hd : eff (s.begin.actBy k) = .done t)
    (he : e.listed = true := by decide +kernel) (hn : n < e.count := by omega)
    (hj : e.lo + j ≤ e.hi := by decide) :
    s.begin.writeBlock k e n j data eff = t.answer (e.base + n) ⟨k, 0, 0, [], false⟩ := by
  unfold State.writeBlock
  rw [State.write_passes s k n j e _ _ he hn hj hp, hd]; rfl

end Sys2Proof.Machine

namespace Sys2Proof.Machine
open Sys2Proof

@[simp] theorem State.putSess_putSess (s : State) (k : Nat) (u v : Sess) : (s.putSess k u).putSess k v = s.putSess k v := by
  simp [State.putSess]

theorem State.readScalar_ok (s : State) (k : Nat) (e : EntryDef) (n j : Nat) (v : State → Nat) (f : State → State)
    (h : Safety.mayRead s k e n j) :
    s.readScalar k e n j v f = Safety.returned (f s) k (e.base + n) (leBytes e.type.size (v s)) := by
  obtain ⟨⟨h1, h2⟩, h3⟩ := h
  simp only [State.readScalar, h1, h2, h3, Bool.and_self, if_true]; rfl

theorem State.write_ok (s : State) (k n j : Nat) (e : EntryDef) (data : List Byte) (eff : EntryDef → State → Effect)
    (he : e.listed = true) (hn : n < e.count) (hj : e.lo + j ≤ e.hi) (hp : Safety.passes (s.actBy k) k e n j data) :
    s.write k (e.base + n) (e.lo + j) data eff
      = (s.actBy k).settle k (e.base + n) (e.lo + j) (eff e (s.actBy k)) := by
  obtain ⟨⟨hu, ho⟩, hc⟩ := hp
  simp only [State.write, hu, ho, Bool.and_self, if_true, State.writeCheck, lookup_listed e he n j hn hj, hc]

theorem State.writeScalar_ok (s : State) (k n j v : Nat) (e : EntryDef) (eff : State → Effect)
    (hp : Safety.passesScalar (s.actBy k) k e n j v)
    (he : e.listed = true := by decide +kernel) (hn : n < e.count := by first | omega | decide | exact Fin.isLt _)
    (hj : e.lo + j ≤ e.hi := by decide) :
    s.writeScalar k e n j v eff = (s.actBy k).settle k (e.base + n) (e.lo + j) (eff (s.actBy k)) :=
  State.write_ok s k n j e _ _ he hn hj hp

theorem State.writeBlock_ok (s : State) (k n j : Nat) (data : List Byte) (e : EntryDef) (eff : State → Effect)
    (hp : Safety.passes (s.actBy k) k e n j data)
    (he : e.listed = true := by decide +kernel) (hn : n < e.count := by first | omega | decide | exact Fin.isLt _)
    (hj : e.lo + j ≤ e.hi := by decide) :
    s.writeBlock k e n j data eff = (s.actBy k).settle k (e.base + n) (e.lo + j) (eff (s.actBy k)) :=
  State.write_ok s k n j e _ _ he hn hj hp

theorem answer_sess_of (s : State) (x : Nat) (r : Response) (f : Sess → β) (k : Nat) 
   (hf : ∀ u a c, f { u with asked := a, cached := c } = f u) : f ((s.answer x r).sessAt k) = f (s.sessAt k) := by
  unfold State.answer
  simp only []
  split
  · unfold State.spiAnswer; split <;> rfl
  · split
    · unfold State.mailboxAnswer; simp only []; split <;> rfl
    · split
      · unfold State.udpAnswer; simp only []; split
        · rfl
        · show f (((State.putSess _ _ _).out _).sessAt k) = _
          simp only [State.out_sessAt]
          by_cases hk : k = r.sess
          · subst hk; rw [State.putSess_sessAt, hf]
          · rw [State.putSess_sessAt_ne _ _ _ _ hk]; rfl
      · rfl

theorem done_answer (s : State) (k x : Nat) : Safety.done (s.answer x ⟨k, 0, 0, [], false⟩) k := State.answer_wire _ _ _
theorem noteRefusal_wire (s : State) (k i j : Nat) (r : Refuse) : (s.noteRefusal k i j r).wire = s.wire := rfl
theorem refused_answer (s : State) (k i j : Nat) (r : Refuse) : Safety.refusedWith (s.refuseWrite k i j r) k r.abort r.detail := by
  unfold State.refuseWrite; exact State.answer_wire _ _ _

end Sys2Proof.Machine
end

