-- ==== Sys2Proof/Laws/Events.lean ====
section
/-! SUPPORT. What raising an event does to the event queue, and that an answer leaves the queue alone (R421). -/
namespace Sys2Proof.Machine
open Sys2Proof

theorem EventLog.queueRecord_queue (l : EventLog) (r : Rec) : (l.queueRecord r).1.queue = l.queue := by
  unfold EventLog.queueRecord; split
  · rfl
  · split <;> rfl
theorem EventLog.record_queue (l : EventLog) (t : Stamp) (e : Ev) : (l.record t e).1.queue = l.queue := by
  unfold EventLog.record
  repeat' split
  all_goals first | rfl | simp [EventLog.queueRecord_queue]
theorem EventLog.fire_queue (l : EventLog) (v : Nat) : (l.fire v).queue = l.queue := by
  unfold EventLog.fire; repeat' split
  all_goals rfl
theorem EventLog.toHost_queue (l : EventLog) (n : Nat) (e : Ev) : (l.toHost n e).queue = l.queue := by
  unfold EventLog.toHost; split <;> rfl
theorem State.emcyOn_queue (s : State) (e : Ev) (l : EventLog) (i : Nat) : (s.emcyOn e l i).queue = l.queue := by
  unfold State.emcyOn; simp only []; split <;> rfl
theorem State.udpEventOn_queue (s : State) (e : Ev) (l : EventLog) (i : Nat) : (s.udpEventOn e l i).queue = l.queue := by
  unfold State.udpEventOn; simp only []; split <;> rfl

/-- What raising an event does to the queue: one new entry, the newest first (R421). -/
theorem State.raiseWith_queue (s : State) (y : Bool) (x : Nat) (d : EventDef) (a b : Nat) :
    ∃ e : Ev, e.code = d.code ∧ e.source = x ∧ e.severity = d.severity ∧ e.seq = s.ev.nextSeq ∧ e.timeS = s.tS ∧ e.timeNs = s.tNs ∧
      e.paramA = a % 2 ^ 32 ∧ e.paramB = b % 2 ^ 32 ∧
      (s.raiseWith y x d a b).ev.queue = (e :: s.ev.queue).take 32768 := by
  let e0 : Ev := ⟨s.ev.nextSeq, d.code, x, d.severity, false, s.tS, s.tNs, a % 2 ^ 32, b % 2 ^ 32⟩
  refine ⟨{ e0 with recorded := (s.ev.record ⟨s.life.opSeconds, s.life.cycles, s.floor, y⟩ e0).2 },
    rfl, rfl, rfl, rfl, rfl, rfl, rfl, rfl, ?_⟩
  simp only [State.raiseWith, List.foldl, State.udpEventOn_queue, State.emcyOn_queue]
  split
  · rw [EventLog.toHost_queue]
    split
    · simp only [EventLog.fire_queue, EventLog.record_queue]; rfl
    · simp only [EventLog.record_queue]; rfl
  · split
    · simp only [EventLog.fire_queue, EventLog.record_queue]; rfl
    · simp only [EventLog.record_queue]; rfl

@[simp] theorem State.answer_queue (s : State) (x : Nat) (r : Response) : (s.answer x r).ev.queue = s.ev.queue := by
  unfold State.answer
  simp only []
  split
  · unfold State.spiAnswer; split <;> rfl
  · split
    · unfold State.mailboxAnswer; simp only []; split
      · simp only [State.fire, EventLog.fire_queue]; rfl
      · rfl
    · split
      · unfold State.udpAnswer; simp only []; split <;> rfl
      · rfl

theorem take_append_take (a b c : List α) (n : Nat) : (a ++ (b ++ c).take n).take n = ((a ++ b) ++ c).take n := by
  rw [List.append_assoc, List.take_append, List.take_append (l₂ := b ++ c), List.take_take]
  congr 2; omega

theorem raised_raise (s : State) (y : Bool) (x : Nat) (d : EventDef) (a b : Nat) : Safety.raised s (s.raiseWith y x d a b) d a b := by
  obtain ⟨e, h1, -, h2, -, -, -, h3, h4, h5⟩ := s.raiseWith_queue y x d a b
  exact ⟨[e], by simpa using h5, e, by simp, h1, h2, h3, h4⟩

/-- Later raising keeps an event raised. -/
theorem raised_then (s u : State) (d : EventDef) (a b : Nat) (y : Bool) (x : Nat) (d' : EventDef) (a' b' : Nat)
    (h : Safety.raised s u d a b) : Safety.raised s (u.raiseWith y x d' a' b') d a b := by
  obtain ⟨new, h1, e, he, h2⟩ := h
  obtain ⟨e', -, -, -, -, -, -, -, -, h5⟩ := u.raiseWith_queue y x d' a' b'
  refine ⟨e' :: new, ?_, e, by simp [he], h2⟩
  rw [h5, h1]
  simpa using take_append_take [e'] new s.ev.queue 32768

theorem raised_of_queue (s r t u : State) (d : EventDef) (a b : Nat) (h : Safety.raised r u d a b) (h0 : s.ev.queue = r.ev.queue) (hq : t.ev.queue = u.ev.queue) :
    Safety.raised s t d a b := by
  obtain ⟨new, h1, h2⟩ := h
  exact ⟨new, by rw [hq, h1, h0], h2⟩

/-- The queue of `u` is that of `s` with entries put before it. -/
def Grew (s u : State) : Prop := u.ev.queue = s.ev.queue ∨ ∃ new : List Ev, u.ev.queue = (new ++ s.ev.queue).take 32768
theorem Grew.of (s u : State) (h : u.ev.queue = s.ev.queue) : Grew s u := .inl h
theorem Grew.trans_eq {s u t : State} (h : Grew s u) (h2 : t.ev.queue = u.ev.queue) : Grew s t := by
  unfold Grew; rw [h2]; exact h
theorem Grew.raise {s u : State} (h : Grew s u) (y : Bool) (x : Nat) (d : EventDef) (a b : Nat) : Grew s (u.raiseWith y x d a b) := by
  obtain ⟨e, -, -, -, -, -, -, -, -, h5⟩ := u.raiseWith_queue y x d a b
  rcases h with h | ⟨new, h⟩
  · exact .inr ⟨[e], by rw [h5, h]; rfl⟩
  · exact .inr ⟨e :: new, by rw [h5, h]; simpa using take_append_take [e] new s.ev.queue 32768⟩
theorem raised_last {s u : State} (h : Grew s u) (y : Bool) (x : Nat) (d : EventDef) (a b : Nat) :
    Safety.raised s (u.raiseWith y x d a b) d a b := by
  obtain ⟨e, h1, -, h2, -, -, -, h3, h4, h5⟩ := u.raiseWith_queue y x d a b
  rcases h with h | ⟨new, h⟩
  · exact ⟨[e], by rw [h5, h]; rfl, e, by simp, h1, h2, h3, h4⟩
  · exact ⟨e :: new, by rw [h5, h]; simpa using take_append_take [e] new s.ev.queue 32768, e, by simp, h1, h2, h3, h4⟩
theorem raised_eq {s u t : State} {d : EventDef} {a b : Nat} (h : Safety.raised s u d a b) (h2 : t.ev.queue = u.ev.queue) :
    Safety.raised s t d a b := by
  obtain ⟨new, h1, h3⟩ := h
  exact ⟨new, by rw [h2, h1], h3⟩

end Sys2Proof.Machine
end

