-- ==== Sys2Proof/Laws/Keep.lean ====
section
/-! SUPPORT. What nearly every function of the machine leaves alone: the queue of commands and the memory that
software addresses. -/
namespace Sys2Proof.Machine
open Sys2Proof

/-- The queue and the host surface region are in `t` what they are in `r`. -/
def Keeps (r t : State) : Prop := t.pending = r.pending ∧ t.dram.host = r.dram.host

theorem Keeps.refl (s : State) : Keeps s s := ⟨rfl, rfl⟩

/-- A record update that touches neither. -/
theorem Keeps.lit {r u : State} {a_now a_timebase a_dcoRest a_pending a_wire a_actor a_tap a_regs a_shadow a_doms a_shadowDoms
      a_minSeverityDefault a_sess a_ev a_spi a_mailbox a_can a_tagRejectAt a_udpFailures a_udpLocked a_draws
      a_staging a_stagingSess a_copy0 a_copy1 a_mgmtWait a_gov a_engines a_strips a_inputs a_hosts a_players
      a_layers a_canvases a_heads a_validating a_pendingCommits a_deferredWrites a_ulanes a_dlanes a_groups
      a_fecTimes a_routes a_activeEntry a_flows a_switches a_switchedAt a_dropCount a_dropAt a_rtpSeq a_banks a_luts
      a_luts3d a_imageDesc a_imageData a_imageCrc a_imageBad a_tileMap a_tileShadow a_calib a_calibShadow a_tiles
      a_ptl a_ptlCounters a_authFailTimes a_hentis a_refs a_ftgs a_audio a_channelTable a_streamTable a_channels
      a_endpoints a_dram a_scanAlloc a_stageAlloc a_liningAlloc a_liningLostKib a_pocket a_resil a_keys a_life
      a_supply a_dev}
    (h : Keeps r u) (hp : a_pending = u.pending) (hh : a_dram.host = u.dram.host) :
    Keeps r (State.mk a_now a_timebase a_dcoRest a_pending a_wire a_actor a_tap a_regs a_shadow a_doms a_shadowDoms
      a_minSeverityDefault a_sess a_ev a_spi a_mailbox a_can a_tagRejectAt a_udpFailures a_udpLocked a_draws
      a_staging a_stagingSess a_copy0 a_copy1 a_mgmtWait a_gov a_engines a_strips a_inputs a_hosts a_players
      a_layers a_canvases a_heads a_validating a_pendingCommits a_deferredWrites a_ulanes a_dlanes a_groups
      a_fecTimes a_routes a_activeEntry a_flows a_switches a_switchedAt a_dropCount a_dropAt a_rtpSeq a_banks a_luts
      a_luts3d a_imageDesc a_imageData a_imageCrc a_imageBad a_tileMap a_tileShadow a_calib a_calibShadow a_tiles
      a_ptl a_ptlCounters a_authFailTimes a_hentis a_refs a_ftgs a_audio a_channelTable a_streamTable a_channels
      a_endpoints a_dram a_scanAlloc a_stageAlloc a_liningAlloc a_liningLostKib a_pocket a_resil a_keys a_life
      a_supply a_dev) :=
  ⟨hp.trans h.1, hh.trans h.2⟩

theorem foldl_keeps {α : Type} {r s : State} {g : State → α → State} {l : List α} (h : Keeps r s)
    (hg : ∀ u a, Keeps r u → Keeps r (g u a)) : Keeps r (l.foldl g s) := by
  induction l generalizing s with
  | nil => exact h
  | cons a l ih => exact ih (hg _ _ h)

theorem Effect.unless_keeps {r s : State} {c : Bool} {x : Refuse} {e : Effect} (h : Keeps r s) (he : Keeps r e.state) :
    Keeps r (Effect.unless c x s e).state := by
  unfold Effect.unless; split
  · exact h
  · exact he

end Sys2Proof.Machine
end

