-- ==== Sys2Proof/Laws/Memory.lean ====
section
/-! SUPPORT. What writing bytes of the host surface region does: the bytes written read back, every other byte is as
before, nothing else of the state changes, and the canonical form stays (R354, R356). -/
namespace Sys2Proof.Machine
open Sys2Proof

/-- Bytes written change the region and nothing else. -/
theorem State.setHostBytes_eq (d : List Byte) : ∀ (a : Nat) (s : State),
    s.setHostBytes a d = { s with dram := { s.dram with host := (s.setHostBytes a d).dram.host } } := by
  induction d with
  | nil => intro a s; rfl
  | cons x d ih => intro a s; show (s.setHostByte a x).setHostBytes (a + 1) d = _; rw [ih]; rfl

/-- A byte outside those written is as before. -/
theorem State.setHostBytes_other (d : List Byte) : ∀ (a : Nat) (s : State) (p : Nat), p < a ∨ a + d.length ≤ p →
    (s.setHostBytes a d).hostByte p = s.hostByte p := by
  induction d with
  | nil => intro a s p h; rfl
  | cons x d ih =>
    intro a s p h; show ((s.setHostByte a x).setHostBytes (a + 1) d).hostByte p = _
    simp only [List.length_cons] at h
    rw [ih _ _ _ (by omega)]; exact Store.read_write_ne _ _ _ (by omega)

/-- Each byte written reads back. -/
theorem State.setHostBytes_read (d : List Byte) : ∀ (a : Nat) (s : State) (i : Nat), i < d.length →
    some ((s.setHostBytes a d).hostByte (a + i)) = d[i]? := by
  induction d with
  | nil => intro a s i h; simp at h
  | cons x d ih =>
    intro a s i h; show some (((s.setHostByte a x).setHostBytes (a + 1) d).hostByte (a + i)) = _
    cases i with
    | zero => rw [State.setHostBytes_other _ _ _ _ (by omega)]; simp; exact Store.read_write_self _ _ _ _
    | succ i => rw [show a + (i + 1) = a + 1 + i by omega, ih _ _ _ (by simpa using h)]; simp

/-- Writing bytes keeps the canonical form. -/
theorem State.setHostBytes_wf (d : List Byte) : ∀ (a : Nat) (s : State), Memory.wf s.dram.host = true →
    Memory.wf (s.setHostBytes a d).dram.host = true := by
  induction d with
  | nil => intro a s h; exact h
  | cons x d ih => intro a s h; exact ih _ _ (Store.wf_write _ _ _ _ h)

/-- The queue is not touched by bytes written. -/
theorem State.setHostBytes_pending (d : List Byte) (a : Nat) (s : State) : (s.setHostBytes a d).pending = s.pending := by
  rw [State.setHostBytes_eq]

/-- A write that is done is answered as done, and nothing more. -/
theorem settle_done (s t : State) (k i j : Nat) : s.settle k i j (.done t) = Safety.accepted t k i := rfl

/-- A write that waits is not answered yet. -/
theorem settle_waits (s t : State) (k i j : Nat) : s.settle k i j (.waits t) = t := rfl

/-- A write that its rule refuses is a refused write. -/
theorem settle_refused (s t : State) (k i j : Nat) (r : Refuse) : s.settle k i j (.refused r t) = t.refuseWrite k i j r := rfl

end Sys2Proof.Machine
end

