-- ==== Sys2Proof/Tests/Slice0.lean ====
section
/-! SUPPORT. Tests: ill-formed commands are refused, known answers hold, and the premises of each statement are met: a theorem
test_wit_ with a statement's name gives, for each of its clauses, a state and operands that meet all the clause's premises. -/
section
open Sys2Proof Sys2Proof.Machine
set_option maxRecDepth 20000
set_option linter.unusedVariables false
set_option Elab.async false

/-- Tests: the machine in DEVICE_STATE `st`, with every session open and of SERVICE rights. -/
def Tests.at (st : Nat) : State :=
  { State.reset with
    now := 5000000000
    dev := { State.reset.dev with porstN := true, stopped := false }
    regs := [(Dict.DEVICE_STATE_STATE.key, st)]
    sess := (List.range 12).map (fun k => (k, { Sess.init with rights := .service, isOpen := true, sourceAddr := 7 })) }
/-- Tests: `n` zero bytes. -/
abbrev Tests.z (n : Nat) : List Byte := List.replicate n 0
/-- Tests: in RUN, with a key in slot 0 that derives keys, and session 11 asking for OPERATOR under it. -/
def Tests.keyed : State :=
  let s := Tests.at 4
  { s with
    keys := { s.keys with lifecycle := 1, fuses := 0, slots := [(0, { Slot.init with state := .loaded, key := Tests.z 32, root := 1 })] }
    sess := [(11, { Sess.init with rights := .service, isOpen := true, authSlot := 0, authRights := 1, nonceFresh := true
                                   clientNonce := Tests.z 16, deviceNonce := Tests.z 16 })] }
/-- Tests: a datagram to session 11, whose key is empty, with the tag that operation `op` asks for. -/
def Tests.udp (op index sub flags : Nat) (payload : List Byte) : UdpDatagram :=
  let d : UdpDatagram := ⟨7, 0xC0A80A64, 49460, 1, 8, 1, index, sub, flags, payload.length, 0, payload, []⟩
  { d with tag := hmac16 [] (udpCovered op d) }
/-- Tests: what a computation gives, and `d` where it fails. -/
def Tests.got {ε α : Type} (x : Except ε α) (d : α) : α := match x with | .ok a => a | .error _ => d
/-- Tests: an SPI frame with the CRC that operation `op` asks for. -/
def Tests.spi (op index sub length : Nat) (more : Bool) (data : List Byte) : SpiFrame :=
  let f : SpiFrame := ⟨more, index, sub, length, 0, data, 0⟩
  { f with crc := crc16 (spiBytes op f) }
/-- Tests: in RUN with a PCIe link. -/
def Tests.pcie : State := (Tests.at 4).wr Dict.PCIE_LINK_STATE 2
/-- Tests: in a device state, with the first CAN interface in an NMT state. -/
def Tests.can (st nmt : Nat) : State := (Tests.at st).putCan 0 { CanNode.init with nmt := nmt }
/-- Tests: a governor tick's readings. -/
def Tests.tele : Telemetry := ⟨0, 0, 0, List.replicate 6 ⟨0, 0, 0, 0, 0⟩, 0, 0, List.replicate 6 true, 0, 0, 0, 0⟩
/-- Tests: the strip of canvas 7 that is named by `Tests.stripId`, and its name. -/
def Tests.strip : Strip := { Strip.fresh .compose 7 0 0 0 16 0 24 true with issued := 1 }
def Tests.stripId : StripId := ⟨0, 7, 0, 0, 0⟩
/-- Tests: in RUN with this strip in the queue, at timebase 1,000. -/
def Tests.strips (a : Strip) : State := { Tests.at 4 with strips := [a], timebase := 1000 }
/-- Tests: in RUN at timebase 20 ms, with canvas 7 running as `v` on FTG 0, which runs. -/
def Tests.canvas (v : Canvas) : State :=
  let s := ((Tests.at 4).putCanvas 7 { v with running := true }).putFtg 0 { Ftg.init with running := true }
  { s with timebase := 20000000 }
/-- Tests: in RUN, with a pool in DRAM. -/
def Tests.pool : State := (Tests.at 4).wr Dict.DRAM_DATA_CAPACITY 65536
/-- Tests: a commit of head 31 by session 11. -/
def Tests.commit : Commit := ⟨1, 31, 11, 0, 0, [], [], [], [], 0, 0, false, none, 0, 0, 0xFF⟩
/-- Tests: in RUN, with `v` in entry 7 of the route table, which is valid and carries packets from port 47 to output 8,191,
and that entry in force there as `active`. -/
def Tests.route (kind active : Nat) : State :=
  { Tests.at 4 with
    routes := [(7, [1, BitVec.ofNat 8 kind, 47, 0] ++ leBytes 4 1 ++ leBytes 4 0 ++ leBytes 2 2 ++ leBytes 2 8191 ++ leBytes 6 0 ++
      leBytes 2 0xFFFF ++ leBytes 4 3 ++ leBytes 2 4 ++ leBytes 2 1)]
    activeEntry := Store.write initialActive [] 8191 active }
/-- Tests: registers written one after another, each at its entry's item `n`. -/
def Tests.wrs (s : State) (n : Nat) (l : List (EntryDef × Nat)) : State := l.foldl (fun s e => s.wr e.1 e.2 n) s
/-- Tests: a head of 64 by 64 pixels on tile-link port 1, not enabled. -/
def Tests.head (s : State) (h : Nat) : State :=
  Tests.wrs ((s.wr Dict.PTL_GENERATION 2 0 1).wr Dict.PORT_TYPE 3 1) h [(Dict.HEAD_TYPE, 1), (Dict.HEAD_PORT_MASK, 2), (Dict.HEAD_H_ACTIVE, 64), (Dict.HEAD_V_ACTIVE, 64),
    (Dict.HEAD_H_TOTAL, 128), (Dict.HEAD_V_TOTAL, 128), (Dict.HEAD_SLOTS, 1), (Dict.HEAD_VIEW_STEP, 1)]
/-- Tests: in RUN at timebase 20 ms, with FTG 0 running, and that head enabled and running as `v` on canvas `c`. -/
def Tests.running (h c : Nat) (v : Head) : State :=
  let s := ((Tests.head (Tests.at 4) h).putFtg 0 { Ftg.init with running := true }).putHead h { v with running := true }
  { Tests.wrs s h [(Dict.HEAD_ENABLE, 1), (Dict.HEAD_CANVAS, c)] with timebase := 20000000 }
/-- Tests: an entry of the tile map: tile 65,534 on port 1, 64 by 64 pixels of canvas 7. -/
def Tests.tile (pattern flags : Nat) : List Byte :=
  leBytes 2 0xFFFE ++ [1, 0xFF, 7, 0] ++ Tests.z 4 ++ leBytes 2 64 ++ leBytes 2 64 ++ leBytes 1 pattern ++ Tests.z 3 ++ [0xFF, 0, 0] ++
    leBytes 1 flags ++ Tests.z 6 ++ [1, 0, 0, 0]
/-- Tests: in RUN with that entry last in the tile map, a running head that sends it, port 1 up and canvas 7 of 64 by 64. -/
def Tests.tiled (pattern flags : Nat) : State :=
  let s := Tests.wrs (Tests.running 31 7 Head.init) 7 [(Dict.CANVAS_WIDTH, 64), (Dict.CANVAS_HEIGHT, 64)]
  (s.putTileEntry 65535 (Tests.tile pattern flags)).wr Dict.PORT_STATE 2 1
/-- Tests: the bytes of a list of equal bytes. -/
theorem Tests.leAt_replicate (m off n : Nat) (x : Byte) (h : off + n ≤ m) :
    leAt (List.replicate m x) off n = leNat (List.replicate n x) := by
  unfold leAt
  rw [List.drop_replicate, List.take_replicate, Nat.min_eq_left (by omega)]
/-- Tests: with no port, stream or head map entry in use, the sound matrix is off. -/
theorem Tests.all_off (s : State) (h : s.dom Dict.AUDIO_MATRIX_HEAD_MAP = List.replicate 1024 0xFF)
    (h' : ((List.range 8).all (fun n => !s.flag Dict.SAP_ENABLE n)
      && (List.range 128).all (fun k => !bit (byteAt (s.streamEntryAt k) 0) 0)) = true) : s.audioAllOff = true := by
  unfold State.audioAllOff
  rw [h', h, Bool.true_and, List.all_eq_true]
  intro i hi
  rw [Tests.leAt_replicate _ _ _ _ (by have := List.mem_range.mp hi; omega)]; decide
theorem Tests.at4_off : (Tests.at 4).begin.audioAllOff = true := Tests.all_off _ (by decide +kernel) (by decide +kernel)
/-- Tests: a scalar write to the matrix rate passes its checks while the matrix is off. -/
theorem Tests.at4_rate (e : EntryDef) (v : Nat) (h : e.base = 0x3010)
    (h' : Safety.ready (Tests.at 4).begin 11 ∧
      firstOf [(e.access == .ro || e.access == .const, .plain 0x06010002 0),
     (decide (((Tests.at 4).begin.sessAt 11).rights.rank < e.needs true), .rule 0xB0),
     (!e.sizeFits (leBytes e.type.size v).length, .plain 0x06070010 0),
     (!e.valueFits (leBytes e.type.size v), .plain 0x06090030 0x12),
     (e.type.isBlock, .plain 0x08000021 0xB6)] = none) : Safety.passesScalar (Tests.at 4).begin 11 e 0 0 v := by
  refine ⟨h'.1, ?_⟩
  have hb : (Tests.at 4).begin.blockRuns 0x3010 (e.lo + 0) = false := by
    unfold State.blockRuns; simp [Tests.at4_off]
  have h2 := h'.2
  simp only [State.writeChecks, h, Nat.add_zero, firstOf] at h2 ⊢
  simp only [Bool.not_false, Bool.true_and] at h2 ⊢
  split at h2; · simp_all
  split at h2; · simp_all
  split at h2; · simp_all
  split at h2; · simp_all
  split at h2; · simp_all
  simp_all
/-- Tests: a coefficient bank whose 512 taps are all 128: each phase sums to 1,024. -/
def Tests.bank : List Byte := (List.replicate 512 [(128 : Byte), 0]).flatten
theorem Tests.leAt_bank (n i : Nat) (h : i < n) : leAt ((List.replicate n [(128 : Byte), 0]).flatten) (2 * i) 2 = 128 := by
  induction n generalizing i with
  | zero => omega
  | succ n ih =>
    rw [List.replicate_succ, List.flatten_cons]
    cases i with
    | zero => rfl
    | succ i => exact ih i (by omega)
theorem Tests.bank_valid : bankValid Tests.bank = true := by
  unfold bankValid Tests.bank
  rw [Bool.and_eq_true, List.all_eq_true, List.all_eq_true]
  refine ⟨fun i hi => ?_, fun p hp => ?_⟩
  · rw [Tests.leAt_bank _ _ (List.mem_range.mp hi)]; decide
  · have hp := List.mem_range.mp hp
    have h (t : Nat) (ht : t < 8) : leAt ((List.replicate 512 [(128 : Byte), 0]).flatten) (16 * p + 2 * t) 2 = 128 := by
      rw [show 16 * p + 2 * t = 2 * (8 * p + t) by omega]; exact Tests.leAt_bank _ _ (by omega)
    simp only [List.range, List.range.loop, List.foldl, h _ (show 0 < 8 by decide), h _ (show 1 < 8 by decide), h _ (show 2 < 8 by decide),
      h _ (show 3 < 8 by decide), h _ (show 4 < 8 by decide), h _ (show 5 < 8 by decide), h _ (show 6 < 8 by decide), h _ (show 7 < 8 by decide)]
    decide
/-- Tests: with the matrix off and no pool, the delay lines do not fit. -/
theorem Tests.no_delay (s : State) (h : s.audioAllOff = true) (h' : s.poolFits poolAudio s.delayUnits = false) : s.delayFits = false := by
  unfold State.delayFits; rw [h, h']; rfl
/-- Tests: whether an effect is done. -/
def Tests.isDone (e : Effect) : Bool := match e with | .done _ => true | _ => false
theorem Tests.of_done (e : Effect) (h : Tests.isDone e = true) : e = .done e.state := by
  cases e <;> first | rfl | cases h
/-- Tests: a head map that names no channel after the first entry is judged by its first head. -/
theorem Tests.map_none (t : State) (a b : Byte) (h0 : t.judgeHeadMap ([a, b] ++ List.replicate 1022 0xFF) 0 = none)
    (h1 : ∀ h ∈ allHeads, (t.destRefusal 6 h).isSome = false) :
    allHeads.findSome? (t.judgeHeadMap ([a, b] ++ List.replicate 1022 0xFF)) = none := by
  rw [List.findSome?_eq_none_iff]
  intro h hh
  by_cases hz : h = 0
  · rw [hz]; exact h0
  · have hn : ∀ i ∈ List.range 16, (mapEntry ([a, b] ++ List.replicate 1022 0xFF) (16 * h + i) != 0xFFFF) = false := by
      intro i hi
      have hi := List.mem_range.mp hi
      have hl : h < 32 := by simpa using hh
      obtain ⟨m, hm⟩ : ∃ m, 16 * h + i = m + 1 := ⟨16 * h + i - 1, by omega⟩
      rw [hm]
      have : mapEntry ([a, b] ++ List.replicate 1022 0xFF) (m + 1) = leAt (List.replicate 1022 0xFF) (2 * m) 2 := rfl
      rw [this, Tests.leAt_replicate _ _ _ _ (by omega)]; rfl
    have h2 (f : Nat → Bool) : (List.range 16).any (fun i =>
        (mapEntry ([a, b] ++ List.replicate 1022 0xFF) (16 * h + i) != 0xFFFF) && f i) = false := by
      rw [List.any_eq_false]; intro i hi; rw [hn i hi]; exact Bool.false_ne_true
    have h3 : (List.range 16).any (fun i => mapEntry ([a, b] ++ List.replicate 1022 0xFF) (16 * h + i) != 0xFFFF) = false := by
      rw [List.any_eq_false]; intro i hi; rw [hn i hi]; exact Bool.false_ne_true
    unfold State.judgeHeadMap
    simp only [firstOf, h2, h3, h1 h hh, Bool.and_false, Bool.false_eq_true, if_false]
/-- Tests: with no jump waiting and no stop due, a latch has no step 1 to take. -/
theorem Tests.still (s : State) (c : Nat) (h : s.hentis.jump = none) (h' : s.ftgStopDue (s.canvasFtg c) = false) :
    s.frameTiming c = s := by
  unfold State.frameTiming State.jumpIfDue; rw [h]; simp only [h', Bool.false_eq_true, false_and, if_false]; split <;> rfl

/-! ### Which commands can arrive: one ill-formed command for each check -/

theorem test_ill_fits : Instr.wellFormed (.evtNAck 0 256) = false ∧ Instr.wellFormed (.switch 0 255) = true := by decide
theorem test_ill_entry : Instr.wellFormed (.dictWrite 0 65536 0 []) = false ∧ Instr.wellFormed (.usdoTransfer 0 true 0 256 []) = false := by
  decide
theorem test_ill_datagram : Instr.wellFormed (.udpRead ⟨0, 0, 0, 1, 0, 0, 0, 0, 0, 0, 0, [], []⟩) = false ∧
    Instr.wellFormed (.udpCommit ⟨2 ^ 32, 0, 0, 1, 0, 0, 0, 0, 0, 0, 0, [], Tests.z 16⟩) = false ∧
    Instr.wellFormed (.udpCommit ⟨0, 0, 65536, 1, 0, 0, 0, 0, 0, 0, 0, [], Tests.z 16⟩) = false := by decide
theorem test_ill_spi : Instr.wellFormed (.spiRead ⟨false, 0, 0, 0, 0, [], 65536⟩) = false := by decide
theorem test_ill_mailbox : Instr.wellFormed (.mbRead ⟨false, 0, 2 ^ 32, 0, 0, []⟩) = false := by decide
theorem test_ill_doorbell : Instr.wellFormed (.doorbellWrite 65536 0) = false ∧ Instr.wellFormed (.doorbellWrite 0 (2 ^ 32)) = false := by
  decide
theorem test_ill_pdo : Instr.wellFormed (.rpdoReceived 0 0 (Tests.z 65)) = false := by decide
theorem test_ill_ring : Instr.wellFormed (.hostRingDescriptorRead 256 0) = false := by decide
theorem test_ill_save : Instr.wellFormed (.store 0 0 0) = false ∧ Instr.wellFormed (.restore 0 4 0) = false := by decide
theorem test_ill_telemetry : Instr.wellFormed (.governorTimerTick { Tests.tele with acks := [] }) = false ∧
    Instr.wellFormed (.composeLatch 0 { Tests.tele with guarded := Tests.tele.traffic + 1 } []) = false := by decide
theorem test_ill_avs : Instr.wellFormed (.avsCommand 0 true (2 ^ 32) 0) = false ∧ Instr.wellFormed (.avsCommand 0 true 0 65536) = false := by
  decide
theorem test_ill_link : Instr.wellFormed (.laneUp 0 ⟨2 ^ 32, false, 0, [0, 0, 64, 0, 0], []⟩) = false ∧
    Instr.wellFormed (.laneUp 0 ⟨0, true, 4, [0, 0, 64, 0, 0], []⟩) = false ∧ Instr.wellFormed (.laneUp 0 ⟨0, false, 0, [64], []⟩) = false ∧
    Instr.wellFormed (.laneUp 0 ⟨0, false, 0, [0, 0, 65, 0, 0], []⟩) = false := by decide
theorem test_ill_lane : Instr.wellFormed (.laneMarginUpdate 0 0 0 ⟨0, 2 ^ 64, 0, []⟩) = false := by decide
theorem test_ill_hpd : Instr.wellFormed (.hpdChange 0 ⟨true, 2 ^ 32⟩) = false := by decide
theorem test_ill_can : Instr.wellFormed (.canErrorPassive 0 ⟨65536, 0⟩) = false := by decide
theorem test_ill_picture : Instr.wellFormed (.chaseSegmentReady 0 0 ⟨1, 1, []⟩) = false ∧
    Instr.wellFormed (.chaseSegmentReady 0 0 ⟨1, 1, [[0, 0]]⟩) = false ∧ Instr.wellFormed (.chaseSegmentReady 0 0 ⟨1, 1, [[0, 0, 65536]]⟩) = false := by
  decide
theorem test_ill_strip : Instr.wellFormed (.stripReissue ⟨2, 0, 0, 0, 0⟩) = false ∧ Instr.wellFormed (.stripComplete 0 ⟨0, 64, 0, 0, 0⟩) = false := by
  decide
theorem test_ill_access : Instr.wellFormed (.bar2Access true 0 1 []) = false ∧ Instr.wellFormed (.bar2Access false (2 ^ 35) 1 []) = false := by
  decide
theorem test_ill_frame : Instr.wellFormed (.inputFrameEnd 0 ⟨⟨0, 0, []⟩, none, false, [], 0, 0, false⟩) = false ∧
    Instr.wellFormed (.inputSignalDetected 0 []) = false := by decide
theorem test_ill_packet : Instr.wellFormed (.inputPacketRx 0 ⟨48, 0, 0, 0, 0, 0, 0, false⟩) = false ∧
    Instr.wellFormed (.inputPacketRx 0 ⟨0, 0, 0, 0, 128, 0, 0, false⟩) = false := by decide
theorem test_ill_flow : Instr.wellFormed (.flowPacketForward 0 0 0 65536 0 false 0 0 []) = false := by decide
theorem test_ill_status : Instr.wellFormed (.statusReceived 0 (List.replicate 9217 0)) = false := by decide +kernel
theorem test_ill_measure : Instr.wellFormed (.measurementIntervalEnd 0 ⟨2 ^ 47, 0, 0, 0, 0, 0, 0⟩) = false := by decide
theorem test_ill_announce : Instr.wellFormed (.ptpAnnounceRx 0 ⟨256, 0, 0, 0, 0, 0, 0, 0, 0, 0, false, 0⟩) = false := by decide
theorem test_ill_sample : Instr.wellFormed (.sampleFrame [(8, [])] []) = false ∧ Instr.wellFormed (.slaveSapFrame 0 [2 ^ 31]) = false ∧
    Instr.wellFormed (.streamPacketRx 0 0 65536 []) = false := by decide
theorem test_ill_store_word : Instr.wellFormed (.storeEccError ⟨2 ^ 24, 0, 0, .system⟩ true) = false := by decide
theorem test_ill_dram_word : Instr.wellFormed (.dramEccError ⟨0, false, 524288, .guarded⟩ true) = false ∧
    Instr.wellFormed (.dramRowRemapped 0 524288) = false ∧ Instr.wellFormed (.dramRecentre [24]) = false := by decide
theorem test_ill_directory : Instr.wellFormed (.pocketDriveUp 0 ⟨true, 0, [], [⟨true, 0, [(4096, List.replicate 256 0)]⟩]⟩) = false := by decide
theorem test_ill_units : Instr.wellFormed (.unitPermanentFault 0 [2 ^ 24]) = false ∧ Instr.wellFormed (.fullBistDone [(256, 0)]) = false := by
  decide
theorem test_ill_life : Instr.wellFormed (.histogramSample ⟨0, [], 0⟩) = false := by decide
theorem test_ill_found : Instr.wellFormed (.porstNReleased 0 ⟨[2], [], [], [], [], true⟩) = false ∧
    Instr.wellFormed (.porstNReleased 0 ⟨[], [2], [], [], [], true⟩) = false ∧
    Instr.wellFormed (.porstNReleased 0 ⟨[], [], [32768], [], [], true⟩) = false ∧
    Instr.wellFormed (.porstNReleased 0 ⟨[], [], [], [], [72], true⟩) = false := by decide

/-! ### Known answers: FIPS 180-4 and FIPS 197 examples, and the check values of the two CRCs over "123456789" -/

theorem test_sha256_abc : beNat (sha256 (ascii "abc")) = 0xba7816bf8f01cfea414140de5dae2223b00361a396177a9cb410ff61f20015ad := by
  decide +kernel
theorem test_aes256 : beNat (aesBlock ((List.range 32).map (BitVec.ofNat 8)) ((List.range 16).map (fun i => BitVec.ofNat 8 (17 * i)))) =
    0x8ea2b7ca516745bfeafc49904b496089 := by decide +kernel
theorem test_crc16 : crc16 (ascii "123456789") = 0x29B1 := by decide +kernel
theorem test_crc32 : crc32 (ascii "123456789") = 0xCBF43926 := by decide +kernel

/-- R509: bits 27:12 of IDCODE are 0x6480 whatever the revision and the manufacturer, and bit 0 is 1. -/
theorem test_idcode_part (a : BitVec 4) (b : BitVec 11) :
    ((a ++ 0x6480#16 ++ b ++ 1#1 : BitVec (4 + 16 + 11 + 1)).extractLsb 27 12) = 0x6480#16 := by
  ext i hi
  have h : i < 16 := by omega
  rw [BitVec.extractLsb, ← BitVec.getLsbD_eq_getElem, BitVec.getLsbD_extractLsb', BitVec.getLsbD_append, BitVec.getLsbD_append,
    BitVec.getLsbD_append]
  interval_cases i <;> simp
theorem test_idcode : idcode.extractLsb 27 12 = 0x6480#16 := test_idcode_part _ _
/-- R509: five rising edges of TCK with TMS high, from the state in which instructions shift, reset the TAP. -/
theorem test_tap_reset : ([true, true, true, true, true].foldl TapState.next .shiftIr) = .testLogicReset := by decide

/-! ### The premises of the statements are met -/

theorem test_wit_ReadsThatChangeState :
    (∃ (s : State) (k : Fin 12), let b := s.begin; Safety.mayRead b k Dict.TIMEBASE_TIME_S 0 0) ∧
    (∃ (s : State) (k : Fin 12) (h : Fin 32), let b := s.begin; Safety.mayRead b k Dict.HEAD_STATUS_FIFO_LOW_WATER h 0) ∧
    (∃ (s : State) (k : Fin 12), let b := s.begin; Safety.mayRead b k Dict.LIFECYCLE_CHALLENGE 0 0) ∧
    (∃ (s : State) (k : Fin 12), let b := s.begin; (Safety.mayRead b k Dict.EVENT_QUEUE_READ 0 0) ∧ (b.overrun k = 0)) ∧
    (∃ (s : State) (k : Fin 12), let b := s.begin; (Safety.mayRead b k Dict.EVENT_QUEUE_READ 0 0) ∧ (b.overrun k ≠ 0)) := by
  refine ⟨⟨{ Tests.at 4 with ev := { EventLog.init with queue := [⟨9, 1, 0, 5, false, 0, 0, 0, 0⟩], nextSeq := 10 } }, 11, by decide +kernel⟩,
    ⟨{ Tests.at 4 with ev := { EventLog.init with queue := [⟨9, 1, 0, 5, false, 0, 0, 0, 0⟩], nextSeq := 10 } }, 11, 31, by decide +kernel⟩,
    ⟨{ Tests.at 4 with ev := { EventLog.init with queue := [⟨9, 1, 0, 5, false, 0, 0, 0, 0⟩], nextSeq := 10 } }, 11, by decide +kernel⟩,
    ⟨Tests.at 4, 11, by decide +kernel⟩,
    ⟨{ Tests.at 4 with ev := { EventLog.init with queue := [⟨9, 1, 0, 5, false, 0, 0, 0, 0⟩], nextSeq := 10 } }, 11, by decide +kernel⟩⟩

theorem test_wit_SessionNoncesAndProofs :
    (∃ (s : State) (k : Fin 12) (nonce : List Byte), let b := s.begin.actBy k; let u := b.sessAt k; (Safety.passes b k Dict.SESSION_RIGHTS_CLIENT_NONCE 0 0 nonce) ∧ (b.authSlotFits u.authSlot u.authRights = true)) ∧
    (∃ (s : State) (k : Fin 12) (nonce : List Byte), let b := s.begin.actBy k; let u := b.sessAt k; (Safety.passes b k Dict.SESSION_RIGHTS_CLIENT_NONCE 0 0 nonce) ∧ (b.authSlotFits u.authSlot u.authRights = false)) ∧
    (∃ (s : State) (k : Fin 12) (p : List Byte), let b := s.begin.actBy k; let u := b.sessAt k; let ks := b.authKey k u.authSlot u.authRights u.clientNonce u.deviceNonce; (Safety.passes b k Dict.SESSION_RIGHTS_PROOF 0 0 p) ∧ (b.lockedOut k = false) ∧ (u.nonceFresh = true) ∧ (b.authSlotFits u.authSlot u.authRights = true) ∧ (p = hmac16 ks (ascii "CLIENT" ++ u.deviceNonce))) ∧
    (∃ (s : State) (k : Fin 12) (p : List Byte), let b := s.begin.actBy k; let u := b.sessAt k; let ks := b.authKey k u.authSlot u.authRights u.clientNonce u.deviceNonce; (Safety.passes b k Dict.SESSION_RIGHTS_PROOF 0 0 p) ∧ (b.lockedOut k = false) ∧ (p ≠ hmac16 ks (ascii "CLIENT" ++ u.deviceNonce))) ∧
    (∃ (s : State) (k : Fin 12) (p : List Byte), let b := s.begin.actBy k; (Safety.passes b k Dict.SESSION_RIGHTS_PROOF 0 0 p) ∧ (b.lockedOut k = true)) ∧
    (∃ (s : State) (k : Fin 12) (source : Nat), let b := s.begin; let u := b.sessAt k; (u.lockedUntil ≠ 0) ∧ (u.lockedUntil ≤ b.now) ∧ (b.udpLockAt source = 0 ∨ b.now < b.udpLockAt source)) := by
  refine ⟨⟨Tests.keyed, 11, Tests.z 16, by decide +kernel⟩,
    ⟨Tests.at 4, 11, Tests.z 16, by decide +kernel⟩,
    ⟨Tests.keyed, 11, hmac16 (Tests.keyed.authKey 11 0 1 (Tests.z 16) (Tests.z 16)) (ascii "CLIENT" ++ Tests.z 16), by decide +kernel⟩,
    ⟨Tests.keyed, 11, Tests.z 16, by decide +kernel⟩,
    ⟨{ Tests.keyed with sess := [(11, { Tests.keyed.sessAt 11 with lockedUntil := 5000000001 })] }, 11, Tests.z 16, by decide +kernel⟩,
    ⟨{ Tests.keyed with sess := [(11, { Tests.keyed.sessAt 11 with lockedUntil := 5000000000 })] }, 11, 0, by decide +kernel⟩⟩

theorem test_wit_WriteByApplyClass :
    (∃ (s : State) (k : Fin 12) (e : EntryDef) (index sub : Nat) (data : List Byte), let b := s.begin.actBy k; (Safety.plainScalar k e index sub) ∧ (Safety.ready b k) ∧ (b.writeChecks false k e index sub data = none) ∧ (index * 256 + sub ∈ windowKeys)) ∧
    (∃ (s : State) (k : Fin 12) (e : EntryDef) (index sub : Nat) (data : List Byte), let b := s.begin.actBy k; (Safety.plainScalar k e index sub) ∧ (Safety.ready b k) ∧ (b.writeChecks false k e index sub data = none) ∧ (index * 256 + sub ∉ windowKeys) ∧ (e.apply = .stitch)) ∧
    (∃ (s : State) (k : Fin 12) (e : EntryDef) (index sub : Nat) (data : List Byte), let b := s.begin.actBy k; (Safety.plainScalar k e index sub) ∧ (Safety.ready b k) ∧ (b.writeChecks false k e index sub data = none) ∧ (index * 256 + sub ∉ windowKeys) ∧ (e.apply = .halt) ∧ (e.base = 0x2270)) ∧
    (∃ (s : State) (k : Fin 12) (e : EntryDef) (index sub : Nat) (data : List Byte), let b := s.begin.actBy k; (Safety.plainScalar k e index sub) ∧ (Safety.ready b k) ∧ (b.writeChecks false k e index sub data = none) ∧ (index * 256 + sub ∉ windowKeys) ∧ (e.apply ≠ .stitch) ∧ (¬ (e.apply = .halt ∧ e.base = 0x2270))) ∧
    (∃ (s : State) (key v : Nat) (other : _), other ≠ key) := by
  refine ⟨⟨Tests.at 4, 11, Dict.FAULT_WEIGHTS_WINDOW, Dict.FAULT_WEIGHTS_WINDOW.base, Dict.FAULT_WEIGHTS_WINDOW.lo, Tests.z 2, by decide +kernel⟩,
    ⟨Tests.at 4, 11, Dict.CANVAS_ORDER_MODE, Dict.CANVAS_ORDER_MODE.base, Dict.CANVAS_ORDER_MODE.lo, Tests.z 1, by decide +kernel⟩,
    ⟨Tests.at 3, 11, Dict.MANAGEMENT_CAN_NOMINAL, 0x2270, 5, leBytes 4 1000000, by decide +kernel⟩,
    ⟨Tests.at 4, 11, Dict.HENTIS_ALIGN_MODE, Dict.HENTIS_ALIGN_MODE.base, Dict.HENTIS_ALIGN_MODE.lo, Tests.z 1, by decide +kernel⟩,
    ⟨Tests.at 4, 0, 0, 1, by decide +kernel⟩⟩

theorem test_wit_RefusedWrite :
    (∃ (c : Instr) (s : State) (k : Fin 12) (index sub : Nat) (data : List Byte), let b := s.begin.actBy k; (Safety.writeOf c = some (k, index, sub, data)) ∧ (¬ Safety.ready b k)) ∧
    (∃ (c : Instr) (s : State) (k : Fin 12) (index sub : Nat) (data : List Byte) (r : Refuse), let b := s.begin.actBy k; (Safety.writeOf c = some (k, index, sub, data)) ∧ (Safety.ready b k) ∧ (b.writeCheck false k index sub data = .error r)) ∧
    (∃ (s : State) (k : Fin 12) (index sub : Nat) (data : List Byte), let b := s.begin.actBy k; (Safety.ready b k) ∧ (objectAt index = none)) ∧
    (∃ (s : State) (k : Fin 12) (index sub : Nat) (data : List Byte), let b := s.begin.actBy k; (Safety.ready b k) ∧ (objectAt index ≠ none) ∧ (entryAt index sub = none)) ∧
    (∃ (s : State) (k : Fin 12) (e : EntryDef) (index sub : Nat) (data : List Byte), let b := s.begin.actBy k; (Safety.ready b k) ∧ (lookup index sub = .ok e) ∧ (e.access = .ro ∨ e.access = .const)) ∧
    (∃ (s : State) (k : Fin 12) (e : EntryDef) (index sub : Nat) (data : List Byte), let b := s.begin.actBy k; (Safety.ready b k) ∧ (lookup index sub = .ok e) ∧ (e.access = .rw ∨ e.access = .wo) ∧ ((b.sessAt k).rights.rank < e.rights.rank)) := by
  refine ⟨⟨.drop 11 0, Tests.at 0, 11, 0x2002, 9, [0], by decide +kernel⟩,
    ⟨.dictWrite 0 0 0 [], Tests.at 4, 0, 0, 0, [], .plain 0x06020000 0, by decide +kernel⟩,
    ⟨Tests.at 4, 11, 0, 0, [], by decide +kernel⟩,
    ⟨Tests.at 4, 11, 0x1018, 0x77, [], by decide +kernel⟩,
    ⟨Tests.at 4, 11, Dict.IDENTITY_VENDOR_ID, 0x1018, 1, [], by decide +kernel⟩,
    ⟨{ Tests.at 4 with sess := [] }, 0, Dict.DEVICE_STATE_RESET, 0x2000, Dict.DEVICE_STATE_RESET.lo, [], by decide +kernel⟩⟩

theorem test_wit_SessionAndQueueCommands :
    (∃ (s : State) (k : Fin 12) (v : Nat), let b := s.begin.actBy k; Safety.passesScalar b k Dict.LAST_REFUSAL_CLEAR 0 0 v) ∧
    (∃ (s : State) (k : Fin 12) (v : Nat), let b := s.begin.actBy k; (Safety.passesScalar b k Dict.EVENT_QUEUE_EVT_N_ACK 0 0 v) ∧ (∀ e ∈ b.ev.queue, ¬ (e.timeS = b.tS ∧ e.timeNs = b.tNs))) ∧
    (∃ (s : State) (k : Fin 12) (v : Nat) (e : Ev), let b := s.begin.actBy k; (Safety.passesScalar b k Dict.EVENT_QUEUE_EVT_N_ACK 0 0 v) ∧ (e ∈ b.ev.queue) ∧ (e.timeS = b.tS) ∧ (e.timeNs = b.tNs) ∧ (b.rd Dict.EVENT_QUEUE_EVT_N_SEVERITY ≤ e.severity)) ∧
    (∃ (s : State) (k : Fin 12) (v : Nat), let b := s.begin.actBy k; (Safety.passesScalar b k Dict.SESSION_RIGHTS_DROP 0 0 v) ∧ (k.val < 4)) ∧
    (∃ (s : State) (k : Fin 12) (v : Nat), let b := s.begin.actBy k; (Safety.passesScalar b k Dict.SESSION_RIGHTS_DROP 0 0 v) ∧ (4 ≤ k.val)) ∧
    (∃ (s : State) (consumer : Nat), let b := s.begin; (b.dictUp = true) ∧ (b.flag Dict.EVENT_QUEUE_HOST_RING_ENABLE = true) ∧ (b.ev.hostWaiting ≠ [])) ∧
    (∃ (s : State) (first : Nat) (l : List Ev), l ≠ []) ∧
    (∃ (s : State) (status consumer : Nat), let b := s.begin; (b.dictUp = true) ∧ (b.flag Dict.EVENT_QUEUE_HOST_RING_ENABLE = true) ∧ (b.ev.hostWaiting ≠ []) ∧ (status ≠ 0)) := by
  refine ⟨⟨Tests.at 4, 11, 1, by decide +kernel⟩,
    ⟨Tests.at 4, 11, 1, by decide +kernel⟩,
    ⟨{ Tests.at 4 with ev := { EventLog.init with queue := [⟨9, 1, 0, 5, false, 0, 0, 0, 0⟩], nextSeq := 10 } }, 11, 1, ⟨9, 1, 0, 5, false, 0, 0, 0, 0⟩, by decide +kernel⟩,
    ⟨Tests.at 4, 0, 1, by decide +kernel⟩,
    ⟨Tests.at 4, 11, 1, by decide +kernel⟩,
    ⟨({ Tests.at 4 with ev := { EventLog.init with hostWaiting := [⟨9, 1, 0, 5, false, 0, 0, 0, 0⟩] } }).wr Dict.EVENT_QUEUE_HOST_RING_ENABLE 1, 1, by decide +kernel⟩,
    ⟨Tests.at 4, 0, [⟨0, 0, 0, 0, false, 0, 0, 0, 0⟩], by decide +kernel⟩,
    ⟨({ Tests.at 4 with ev := { EventLog.init with hostWaiting := [⟨9, 1, 0, 5, false, 0, 0, 0, 0⟩] } }).wr Dict.EVENT_QUEUE_HOST_RING_ENABLE 1, 255, 1, by decide +kernel⟩⟩

theorem test_wit_SaveAndRestore :
    (∃ (s : State) (k : Fin 12) (j : Fin 3), let b := s.begin.actBy k; (Safety.passesScalar b k Dict.STORE_PARAMETERS_SIGNATURE 0 j 0x65766173) ∧ (b.floor = false) ∧ (b.staging = none)) ∧
    (∃ (s : State) (k : Fin 12) (j : Fin 3) (v : Nat), let b := s.begin.actBy k; (Safety.passesScalar b k Dict.STORE_PARAMETERS_SIGNATURE 0 j v) ∧ (v ≠ 0x65766173)) ∧
    (∃ (s : State) (k : Fin 12) (j : Fin 3), let b := s.begin.actBy k; (Safety.passesScalar b k Dict.STORE_PARAMETERS_SIGNATURE 0 j 0x65766173) ∧ (b.floor = true ∨ b.staging ≠ none)) ∧
    (∃ (s : State) (c : SavedCopy), let b := s.begin; (b.dictUp = true) ∧ (b.floor = false) ∧ (b.staging = some c)) ∧
    (∃ (s : State) (c : SavedCopy), let b := s.begin; (b.dictUp = true) ∧ (b.floor = false) ∧ (b.staging = some c)) ∧
    (∃ (s : State) (k : Fin 12) (j : Fin 3), let b := s.begin.actBy k; (Safety.passesScalar b k Dict.RESTORE_PARAMETERS_SIGNATURE 0 j 0x64616F6C) ∧ (b.floor = false) ∧ (j = 1 ∨ b.overcoatOpen = true)) ∧
    (∃ (s : State) (k : Fin 12) (j : Fin 3), let b := s.begin.actBy k; (Safety.passesScalar b k Dict.RESTORE_PARAMETERS_SIGNATURE 0 j 0x64616F6C) ∧ (b.floor = false) ∧ (j ≠ 1) ∧ (b.overcoatOpen = false)) := by
  refine ⟨⟨Tests.at 4, 11, 2, by decide +kernel⟩,
    ⟨Tests.at 4, 11, 2, 0, by decide +kernel⟩,
    ⟨(Tests.at 4).wr Dict.SUPPLY_FLOOR_STATE 2, 11, 2, by decide +kernel⟩,
    ⟨{ Tests.at 4 with staging := some SavedCopy.init }, SavedCopy.init, by decide +kernel⟩,
    ⟨{ Tests.at 4 with staging := some SavedCopy.init }, SavedCopy.init, by decide +kernel⟩,
    ⟨Tests.at 4, 11, 1, by decide +kernel⟩,
    ⟨Tests.at 4, 11, 2, by decide +kernel⟩⟩

theorem test_wit_UdpReadsAndWrites :
    (∃ (s : State) (k : Nat) (d : UdpDatagram) (e : EntryDef), let b := s.begin; let v := Safety.udpTaken b 1 k d []; (Safety.udpServed b 1 k d) ∧ (d.payload = []) ∧ (v.readCheck k d.index d.sub = .ok e)) ∧
    (∃ (s : State) (k : Nat) (d : UdpDatagram) (e : EntryDef) (w : State), let b := s.begin; let v := Safety.udpTaken b 2 k d []; (Safety.udpServed b 2 k d) ∧ (v.writeCheck false k d.index d.sub d.payload = .ok e) ∧ (v.dictUp = true) ∧ (v.effect plainly k e d.index d.sub d.payload = .done w) ∧ (w.sessAt k = v.sessAt k)) ∧
    (∃ (s : State) (k : Nat) (d : UdpDatagram) (data : List Byte) (w : State), let b := s.begin; let offset := beAt d.payload 0 4; let v := Safety.udpTaken b 3 k d (beBytes 4 offset); (Safety.udpServed b 3 k d) ∧ (d.payload.length = 6) ∧ (v.blockSource k d.index d.sub offset = .ok (data, w)) ∧ (w.sessAt k = v.sessAt k)) ∧
    (∃ (s : State) (k : Nat) (d : UdpDatagram) (before : List Byte), let b := s.begin; let offset := beAt d.payload 0 4; let whole := before ++ d.payload.drop 4; let v := Safety.udpTaken b 4 k d []; (Safety.udpServed b 4 k d) ∧ (4 ≤ d.payload.length) ∧ (v.openData k d.index d.sub offset = some before) ∧ (udpMore d = true) ∧ (v.segmentRefused k d.index d.sub offset whole.length = none)) ∧
    (∃ (s : State) (k : Nat) (d : UdpDatagram) (before : List Byte), let b := s.begin; let v := Safety.udpTaken b 4 k d []; (Safety.udpServed b 4 k d) ∧ (4 ≤ d.payload.length) ∧ (v.openData k d.index d.sub (beAt d.payload 0 4) = some before) ∧ (udpMore d = false)) := by
  refine ⟨⟨Tests.at 4, 11, Tests.udp 1 0x1018 1 0 [], Dict.IDENTITY_VENDOR_ID, by decide +kernel⟩,
    ⟨Tests.at 4, 11, Tests.udp 2 0x2100 0x0A 0 [1], Dict.HENTIS_ALIGN_MODE, (Safety.udpTaken (Tests.at 4).begin 2 11 (Tests.udp 2 0x2100 0x0A 0 [1]) []).setReg (0x2100 * 256 + 0x0A) 1, by decide +kernel⟩,
    ⟨Tests.at 4, 11, Tests.udp 3 0x2002 6 0 (Tests.z 6), Tests.z 16, (Safety.udpTaken (Tests.at 4).begin 3 11 (Tests.udp 3 0x2002 6 0 (Tests.z 6)) (leBytes 4 0)), by decide +kernel⟩,
    ⟨Tests.at 4, 11, Tests.udp 4 0x2500 1 1 (Tests.z 4), [], by decide +kernel⟩,
    ⟨Tests.at 4, 11, Tests.udp 4 0x2500 1 0 (Tests.z 4), [], by decide +kernel⟩⟩

theorem test_wit_UdpSessionsAndCommits :
    (∃ (s : State) (k : Nat) (d : UdpDatagram) (records : List (Nat × Nat × List Byte)) (w : State), let b := s.begin; let v := Safety.udpTaken b 5 k d []; let l := records ++ [(d.index, d.sub, [1])]; (Safety.udpServed b 5 k d) ∧ (udpRecords 1440 d.payload = some records) ∧ (namesCommit d.index d.sub = true) ∧ (v.checkEach k l = none) ∧ (v.effectEach k k l = .ok w)) ∧
    (∃ (s : State) (k : Nat) (d : UdpDatagram) (records : List (Nat × Nat × List Byte)) (i j : Nat) (r : Refuse), let b := s.begin; let v := Safety.udpTaken b 5 k d []; let l := records ++ [(d.index, d.sub, [1])]; (Safety.udpServed b 5 k d) ∧ (udpRecords 1440 d.payload = some records) ∧ (namesCommit d.index d.sub = true) ∧ (v.checkEach k l = some (i, j, r) ∨ v.checkEach k l = none ∧ ∃ u, v.effectEach k k l = .error (i, j, r, u))) ∧
    (∃ (s : State) (k : Nat) (d : UdpDatagram), let b := s.begin; let severity := byteAt d.payload 0; (Safety.udpServed b 6 k d) ∧ (d.payload.length = 4) ∧ (leAt d.payload 1 3 = 0) ∧ (severity ≤ 5 ∨ severity = 0xFF)) ∧
    (∃ (s : State) (d : UdpDatagram) (k : Nat), let b := s.begin; let slot := byteAt d.payload 1; let rights := byteAt d.payload 2; ((b.udpUp && b.udpHere d) = true) ∧ (d.session = 0) ∧ (d.tag = zeros 16) ∧ (udpHeaderFits d = true) ∧ (authShape 1 d.payload = true) ∧ (b.authRefused slot rights = none) ∧ ([4, 5, 6, 7, 8, 9, 10, 11].find? (fun j => !(b.sessAt j).isOpen) = some k)) ∧
    (∃ (s : State) (d : UdpDatagram), let b := s.begin; ((b.udpUp && b.udpHere d) = true) ∧ (d.session = 0) ∧ (d.tag = zeros 16) ∧ (udpHeaderFits d = true) ∧ (authShape 1 d.payload = true) ∧ (8 ≤ b.udpOpen)) ∧
    (∃ (s : State) (k : Nat) (d : UdpDatagram) (w : State), let b := s.begin; let v := Safety.udpTaken b 7 k d (d.payload.take 4); (Safety.udpServed b 7 k d) ∧ (authShape 2 d.payload = true) ∧ (v.proof k (d.payload.drop 4) = .done w)) ∧
    (∃ (s : State) (k : Nat) (d : UdpDatagram), let b := s.begin; (Safety.udpServed b 7 k d) ∧ (authShape 3 d.payload = true)) ∧
    (∃ (s : State) (u : Fin 8), let b := s.begin; let v := b.sessAt (4 + u); (v.isOpen = true) ∧ (v.lastAt + b.rd Dict.MANAGEMENT_UDP_IDLE_TIMEOUT * 1000000000 ≤ b.now)) := by
  refine ⟨⟨Tests.at 4, 11, Tests.udp 5 0x2C40 1 0 [], [], Tests.got ((Safety.udpTaken (Tests.at 4).begin 5 11 (Tests.udp 5 0x2C40 1 0 []) []).effectEach 11 11 [(0x2C40, 1, [1])]) State.reset, ⟨by decide +kernel, by decide +kernel, by decide +kernel, by decide +kernel, rfl⟩⟩,
    ⟨Tests.at 4, 11, Tests.udp 5 0x2C40 1 0 [0x10, 0x18, 1, 1, 0], [(0x1018, 1, [0])], 0x1018, 1, .plain 0x06010002 0, ⟨by decide +kernel, by decide +kernel, by decide +kernel, .inl (by decide +kernel)⟩⟩,
    ⟨Tests.at 4, 11, Tests.udp 6 0 0 0 [5, 0, 0, 0], by decide +kernel⟩,
    ⟨{ Tests.keyed with sess := [(4, Tests.keyed.sessAt 11)] }, ({ Tests.udp 7 0 0 0 (1 :: 0 :: 1 :: Tests.z 17) with session := 0, tag := zeros 16 }), 5, by decide +kernel⟩,
    ⟨Tests.at 4, ({ Tests.udp 7 0 0 0 (1 :: 0 :: 1 :: Tests.z 17) with session := 0, tag := zeros 16 }), by decide +kernel⟩,
    ⟨Tests.keyed, 11, Tests.udp 7 0 0 0 (2 :: Tests.z 3 ++ hmac16 (Tests.keyed.authKey 11 0 1 (Tests.z 16) (Tests.z 16)) (ascii "CLIENT" ++ Tests.z 16)), ((Safety.udpTaken Tests.keyed.begin 7 11 (Tests.udp 7 0 0 0 (2 :: Tests.z 3 ++ hmac16 (Tests.keyed.authKey 11 0 1 (Tests.z 16) (Tests.z 16)) (ascii "CLIENT" ++ Tests.z 16))) ((Tests.udp 7 0 0 0 (2 :: Tests.z 3 ++ hmac16 (Tests.keyed.authKey 11 0 1 (Tests.z 16) (Tests.z 16)) (ascii "CLIENT" ++ Tests.z 16))).payload.take 4)).proof 11 ((Tests.udp 7 0 0 0 (2 :: Tests.z 3 ++ hmac16 (Tests.keyed.authKey 11 0 1 (Tests.z 16) (Tests.z 16)) (ascii "CLIENT" ++ Tests.z 16))).payload.drop 4)).state, ⟨by decide +kernel, by decide +kernel, Tests.of_done _ (by decide +kernel)⟩⟩,
    ⟨Tests.at 4, 11, Tests.udp 7 0 0 0 (3 :: Tests.z 19), by decide +kernel⟩,
    ⟨{ Tests.at 4 with now := 60000000000000 }, 7, by decide +kernel⟩⟩

theorem test_wit_UdpSessionsAndCommits_discards :
    (∃ (s : State) (k : Nat) (d : UdpDatagram), let b := s.begin; ((b.udpUp && b.udpHere d) = true) ∧ (b.udpSession d = some k) ∧ (d.tag ≠ hmac16 (b.sessAt k).ks (udpCovered 2 d))) ∧
    (∃ (s : State) (k : Nat) (d : UdpDatagram), let b := s.begin; let u := b.sessAt k; ((b.udpUp && b.udpHere d) = true) ∧ (b.udpSession d = some k) ∧ (d.tag = hmac16 u.ks (udpCovered 2 d)) ∧ (d.seq = u.lastSeq) ∧ (u.cached ≠ [])) ∧
    (∃ (s : State) (k : Nat) (d : UdpDatagram), let b := s.begin; let u := b.sessAt k; ((b.udpUp && b.udpHere d) = true) ∧ (b.udpSession d = some k) ∧ (d.tag = hmac16 u.ks (udpCovered 2 d)) ∧ (d.seq < u.lastSeq)) ∧
    (∃ (s : State) (d : UdpDatagram), let b := s.begin; (b.udpUp && b.udpHere d) = false) := by
  refine ⟨⟨Tests.at 4, 11, { Tests.udp 2 0 0 0 [] with tag := [] }, by decide +kernel⟩,
    ⟨{ Tests.at 4 with sess := [(11, { Sess.init with rights := .service, isOpen := true, lastSeq := 1, cached := [0] })] }, 11, Tests.udp 2 0 0 0 [], by decide +kernel⟩,
    ⟨{ Tests.at 4 with sess := [(11, { Sess.init with rights := .service, isOpen := true, lastSeq := 2, cached := [0] })] }, 11, Tests.udp 2 0 0 0 [], by decide +kernel⟩,
    ⟨Tests.at 4, { Tests.udp 1 0 0 0 [] with port := 49461 }, by decide +kernel⟩⟩

theorem test_wit_SpiFrames :
    (∃ (s : State) (f : SpiFrame) (e : EntryDef), let b := s.begin; let v := Safety.spiTaken b f; (Safety.spiServed b 1 f) ∧ (f.offset = 0) ∧ (f.data = []) ∧ (v.readCheck 2 f.index f.sub = .ok e)) ∧
    (∃ (s : State) (f : SpiFrame) (e : EntryDef) (w : State), let b := s.begin; let v := Safety.spiTaken b f; (Safety.spiServed b 2 f) ∧ (f.offset = 0) ∧ (f.data.length = f.length) ∧ ((b.sessAt 2).isOpen = true) ∧ (v.writeCheck false 2 f.index f.sub f.data = .ok e) ∧ (v.effect plainly 2 e f.index f.sub f.data = .done w) ∧ (w.spi = v.spi)) ∧
    (∃ (s : State) (f : SpiFrame) (r : Refuse), let b := s.begin; let v := Safety.spiTaken b f; (Safety.spiServed b 2 f) ∧ (f.offset = 0) ∧ (f.data.length = f.length) ∧ ((b.sessAt 2).isOpen = true) ∧ (v.writeCheck false 2 f.index f.sub f.data = .error r) ∧ (r.abort ≠ 0)) ∧
    (∃ (s : State) (f : SpiFrame) (data : List Byte) (w : State), let b := s.begin; let v := Safety.spiTaken b f; (Safety.spiServed b 3 f) ∧ (f.data = []) ∧ (v.blockSource 2 f.index f.sub f.offset = .ok (data, w)) ∧ (w.spi = v.spi)) ∧
    (∃ (s : State) (f : SpiFrame) (before : List Byte), let b := s.begin; let v := Safety.spiTaken b f; (Safety.spiServed b 4 f) ∧ (f.data.length = f.length) ∧ (v.openData 2 f.index f.sub f.offset = some before) ∧ (f.more = true) ∧ (v.segmentRefused 2 f.index f.sub f.offset (before ++ f.data).length = none)) ∧
    (∃ (s : State) (f : SpiFrame) (before : List Byte), let b := s.begin; let v := Safety.spiTaken b f; (Safety.spiServed b 4 f) ∧ (f.data.length = f.length) ∧ (v.openData 2 f.index f.sub f.offset = some before) ∧ (f.more = false)) ∧
    (∃ (s : State), let b := s.begin; b.spiUp = true) ∧
    (∃ (s : State) (f : SpiFrame), let b := s.begin; (b.spiUp = true) ∧ (f.crc ≠ crc16 (spiBytes 2 f))) ∧
    (∃ (s : State) (f : SpiFrame), let b := s.begin; (b.spiUp = true) ∧ (f.crc = crc16 (spiBytes 2 f)) ∧ (b.spi.status = 1)) := by
  refine ⟨⟨Tests.at 4, Tests.spi 1 0x1018 1 0 false [], Dict.IDENTITY_VENDOR_ID, by decide +kernel⟩,
    ⟨Tests.at 4, Tests.spi 2 0x2100 0x0A 1 false [1], Dict.HENTIS_ALIGN_MODE, (Safety.spiTaken (Tests.at 4).begin (Tests.spi 2 0x2100 0x0A 1 false [1])).setReg (0x2100 * 256 + 0x0A) 1, by decide +kernel⟩,
    ⟨Tests.at 4, Tests.spi 2 0x1018 1 1 false [1], .plain 0x06010002 0, by decide +kernel⟩,
    ⟨Tests.at 4, Tests.spi 3 0x2002 6 0 false [], Tests.z 16, (Safety.spiTaken (Tests.at 4).begin (Tests.spi 3 0x2002 6 0 false [])), by decide +kernel⟩,
    ⟨Tests.at 4, Tests.spi 4 0x2500 1 0 true [], [], by decide +kernel⟩,
    ⟨Tests.at 4, Tests.spi 4 0x2500 1 0 false [], [], by decide +kernel⟩,
    ⟨Tests.at 4, by decide +kernel⟩,
    ⟨Tests.at 4, { Tests.spi 2 0x2100 0x0A 1 false [1] with crc := 0 }, by decide +kernel⟩,
    ⟨{ Tests.at 4 with spi := ⟨1, 0, 0, 0, []⟩ }, Tests.spi 2 0x2100 0x0A 1 false [1], by decide +kernel⟩⟩

theorem test_wit_MailboxAndDoorbells :
    (∃ (s : State) (r : MbRequest) (e : EntryDef), let b := s.begin; let v := Safety.mailboxTaken b 1 r; let index := r.address / 256; let sub := r.address % 256; (Safety.mailboxServed b r) ∧ (v.readCheck 3 index sub = .ok e)) ∧
    (∃ (s : State) (r : MbRequest) (e : EntryDef) (w : State), let b := s.begin; let v := Safety.mailboxTaken b 2 r; let index := r.address / 256; let sub := r.address % 256; (Safety.mailboxServed b r) ∧ (r.length ≤ 7340032) ∧ ((b.sessAt 3).isOpen = true) ∧ (v.writeCheck false 3 index sub (mailboxData index sub r) = .ok e) ∧ (v.effect plainly 3 e index sub (mailboxData index sub r) = .done w) ∧ (w.mailbox = v.mailbox)) ∧
    (∃ (s : State) (r : MbRequest) (data : List Byte) (w : State), let b := s.begin; let v := Safety.mailboxTaken b 3 r; (Safety.mailboxServed b r) ∧ (r.length ≤ 7340032) ∧ (v.blockSource 3 (r.address / 256) (r.address % 256) r.offset = .ok (data, w)) ∧ (w.mailbox = v.mailbox)) ∧
    (∃ (s : State) (r : MbRequest) (before : List Byte), let b := s.begin; let v := Safety.mailboxTaken b 4 r; let data := (r.data ++ zeros (r.length - r.data.length)).take r.length; (Safety.mailboxServed b r) ∧ (r.length ≤ 7340032) ∧ (v.openData 3 (r.address / 256) (r.address % 256) r.offset = some before) ∧ (r.more = true) ∧ (v.segmentRefused 3 (r.address / 256) (r.address % 256) r.offset (before ++ data).length = none)) ∧
    (∃ (s : State) (r : MbRequest) (before : List Byte), let b := s.begin; let v := Safety.mailboxTaken b 4 r; (Safety.mailboxServed b r) ∧ (r.length ≤ 7340032) ∧ (v.openData 3 (r.address / 256) (r.address % 256) r.offset = some before) ∧ (r.more = false)) ∧
    (∃ (s : State) (r : MbRequest), let b := s.begin; b.mailbox.status = 1) ∧
    (∃ (s : State) (offset value index sub : Nat) (e : EntryDef) (w : State), let b := s.begin.actBy 3; (b.pcieServes = true) ∧ (doorbell offset = some (index, sub)) ∧ (lookup index sub = .ok e) ∧ (value < 256 ^ e.type.size) ∧ (b.writeCheck false 3 index sub (leBytes e.type.size value) = .ok e) ∧ (b.effect offset 3 e index sub (leBytes e.type.size value) = .done w)) ∧
    (∃ (s : State) (offset value index sub : Nat) (e : EntryDef) (r : Refuse), let b := s.begin.actBy 3; (b.pcieServes = true) ∧ (doorbell offset = some (index, sub)) ∧ (lookup index sub = .ok e) ∧ (value < 256 ^ e.type.size) ∧ (b.writeCheck false 3 index sub (leBytes e.type.size value) = .error r)) ∧
    (∃ (n : _), n < 32) ∧
    (∃ (c : _), c < 8) ∧
    (∃ (m : Mailbox) (o : _), o < 0x700000) ∧
    (∃ (m : Mailbox) (o : _), (0x34 < o) ∧ (o < 0x100000)) ∧
    (∃ (m : Mailbox) (o : _), 0x800000 ≤ o) := by
  refine ⟨⟨Tests.pcie, ⟨false, 0x101801, 0, 0, 0, []⟩, Dict.IDENTITY_VENDOR_ID, by decide +kernel⟩,
    ⟨Tests.pcie, ⟨false, 0x21000A, 1, 0, 1, []⟩, Dict.HENTIS_ALIGN_MODE, (Safety.mailboxTaken Tests.pcie.begin 2 ⟨false, 0x21000A, 1, 0, 1, []⟩).setReg (0x2100 * 256 + 0x0A) 1, by decide +kernel⟩,
    ⟨Tests.pcie, ⟨false, 0x200206, 0, 0, 0, []⟩, Tests.z 16, (Safety.mailboxTaken Tests.pcie.begin 3 ⟨false, 0x200206, 0, 0, 0, []⟩), by decide +kernel⟩,
    ⟨Tests.pcie, ⟨true, 0x250001, 0, 0, 0, []⟩, [], by decide +kernel⟩,
    ⟨Tests.pcie, ⟨false, 0x250001, 0, 0, 0, []⟩, [], by decide +kernel⟩,
    ⟨{ Tests.pcie with mailbox := { Mailbox.init with status := 1 } }, ⟨false, 0x21000A, 1, 0, 1, []⟩, by decide +kernel⟩,
    ⟨Tests.pcie, 0x11C0, 1, 0x2020, 8, Dict.EVENT_QUEUE_EVT_N_ACK, ((Tests.pcie.begin.actBy 3).effect 0x11C0 3 Dict.EVENT_QUEUE_EVT_N_ACK 0x2020 8 [1]).state, by decide +kernel⟩,
    ⟨Tests.pcie, 0x11C0, 2, 0x2020, 8, Dict.EVENT_QUEUE_EVT_N_ACK, .plain 0x06090030 0x12, by decide +kernel⟩,
    ⟨0, by decide +kernel⟩,
    ⟨0, by decide +kernel⟩,
    ⟨State.reset.mailbox, 0x6fffff, by decide +kernel⟩,
    ⟨State.reset.mailbox, 0xfffff, by decide +kernel⟩,
    ⟨State.reset.mailbox, 0x800000, by decide +kernel⟩⟩

theorem test_wit_NmtCommands :
    (∃ (s : State) (i : Fin 2), let b := s.begin.actBy i; (b.canTakes i = true) ∧ (b.rd Dict.MANAGEMENT_NMT_CONTROL ≠ 0)) ∧
    (∃ (s : State) (i : Fin 2) (w : State), let b := s.begin.actBy i; (b.canTakes i = true) ∧ (b.rd Dict.MANAGEMENT_NMT_CONTROL = 0) ∧ (b.devState ≠ 4) ∧ (2 ≤ (b.baseRights i).rank) ∧ (b.requestRun i = .done w)) ∧
    (∃ (s : State) (i : Fin 2) (w : State), let b := s.begin.actBy i; (b.canTakes i = true) ∧ (b.rd Dict.MANAGEMENT_NMT_CONTROL = 0) ∧ (b.devState = 4 ∨ b.devState = 5) ∧ (2 ≤ (b.baseRights i).rank) ∧ (b.requestStandby i = .done w)) ∧
    (∃ (s : State) (i : Fin 2), let b := s.begin.actBy i; (b.canTakes i = true) ∧ (b.rd Dict.MANAGEMENT_NMT_CONTROL = 0) ∧ ((b.baseRights i).rank < 2) ∧ (b.devState ≠ 4)) ∧
    (∃ (s : State) (i : Fin 2), let b := s.begin.actBy i; (b.canTakes i = true) ∧ (b.rd Dict.MANAGEMENT_NMT_CONTROL = 0) ∧ ((b.baseRights i).rank < 2) ∧ (b.devState = 4 ∨ b.devState = 5)) ∧
    (∃ (s : State) (i : Fin 2), let b := s.begin; b.canTakes i = true) ∧
    (∃ (s : State) (i : Fin 2), let b := s.begin; (b.canTakes i = true) ∧ (b.rd Dict.MANAGEMENT_NMT_RESET_ACTION = 1) ∧ (2 ≤ (b.baseRights i).rank)) ∧
    (∃ (s : State) (i : Fin 2), let b := s.begin; (b.canTakes i = true) ∧ (b.rd Dict.MANAGEMENT_NMT_RESET_ACTION ≠ 1)) := by
  refine ⟨⟨(Tests.can 4 5).wr Dict.MANAGEMENT_NMT_CONTROL 1, 0, by decide +kernel⟩,
    ⟨(Tests.can 3 5).wr Dict.MANAGEMENT_BASE_RIGHTS_CAN 2, 0, ((((Tests.can 3 5).wr Dict.MANAGEMENT_BASE_RIGHTS_CAN 2).begin.actBy 0).requestRun 0).state, ⟨by decide +kernel, by decide +kernel, by decide +kernel, by decide +kernel, Tests.of_done _ (by decide +kernel)⟩⟩,
    ⟨(Tests.can 4 5).wr Dict.MANAGEMENT_BASE_RIGHTS_CAN 2, 0, ((((Tests.can 4 5).wr Dict.MANAGEMENT_BASE_RIGHTS_CAN 2).begin.actBy 0).requestStandby 0).state, by decide +kernel⟩,
    ⟨(Tests.can 3 5).wr Dict.MANAGEMENT_BASE_RIGHTS_CAN 1, 0, by decide +kernel⟩,
    ⟨(Tests.can 4 5).wr Dict.MANAGEMENT_BASE_RIGHTS_CAN 1, 0, by decide +kernel⟩,
    ⟨Tests.can 4 5, 0, by decide +kernel⟩,
    ⟨((Tests.can 4 5).wr Dict.MANAGEMENT_BASE_RIGHTS_CAN 2).wr Dict.MANAGEMENT_NMT_RESET_ACTION 1, 0, by decide +kernel⟩,
    ⟨Tests.can 4 5, 0, by decide +kernel⟩⟩

theorem test_wit_CanopenData :
    (∃ (s : State) (i : Fin 2) (index sub : Nat) (data : List Byte) (e : EntryDef) (w : State), let b := s.begin.actBy i; (b.canServes i = true) ∧ ((b.sessAt i).isOpen = true) ∧ (b.writeCheck false i index sub data = .ok e) ∧ (b.effect plainly i e index sub data = .done w)) ∧
    (∃ (s : State) (i : Fin 2) (index sub : Nat) (data : List Byte) (e : EntryDef), let b := s.begin; (b.canServes i = true) ∧ (b.readCheck i index sub = .ok e) ∧ ((b.readBytes i e (index - e.base) (sub - e.lo)).length ≤ 2 ^ 32)) ∧
    (∃ (s : State) (i : Fin 2) (n : Fin 8) (payload : List Byte) (w : State), let b := s.begin; (b.operational i = true) ∧ (b.pdoValid true n = true) ∧ (0xF0 < b.rd Dict.RPDO_TYPE n) ∧ ((b.actBy i).writeEach 0xFD i (rpdoWrites (b.mappedEntries true n) payload) = .ok w)) ∧
    (∃ (s : State) (i : Fin 2) (n : Fin 8) (payload : List Byte) (index sub : Nat) (r : Refuse), let b := s.begin; (b.operational i = true) ∧ (b.pdoValid true n = true) ∧ (0xF0 < b.rd Dict.RPDO_TYPE n) ∧ ((b.actBy i).writeEach 0xFD i (rpdoWrites (b.mappedEntries true n) payload) = .error (index, sub, r))) ∧
    (∃ (s : State) (i : Fin 2) (n : Fin 8) (payload : List Byte), let b := s.begin; (b.operational i = true) ∧ (b.pdoValid true n = true) ∧ (b.rd Dict.RPDO_TYPE n ≤ 0xF0)) ∧
    (∃ (s : State) (i : Fin 2), let b := s.begin; (b.operational i = true) ∧ (bit (b.rd Dict.COB_ID_SYNC_VALUE) 31 = false) ∧ (∀ n ∈ List.range 8, b.pdoValid false n = false) ∧ ((b.canAt i).pendingRpdo = [])) ∧
    (∃ (s : State) (i : Fin 2) (n : Fin 8) (p : List Byte) (w : State), let b := s.begin; (b.operational i = true) ∧ (bit (b.rd Dict.COB_ID_SYNC_VALUE) 31 = false) ∧ ((b.canAt i).pendingRpdo = [(n.val, p)]) ∧ (((b.putCan i { b.canAt i with pendingRpdo := [] }).actBy i).writeEach 0xFD i (rpdoWrites (b.mappedEntries true n) p) = .ok w) ∧ (∀ m ∈ List.range 8, w.pdoValid false m = false)) ∧
    (∃ (s : State) (i : Fin 2) (n : Fin 8), let b := s.begin; let c := b.canAt i; (b.operational i = true) ∧ (b.pdoValid false n = true) ∧ (0xFE ≤ b.rd Dict.TPDO_TYPE n) ∧ (Store.read (fun _ => 0) c.tpdoAt n = 0) ∧ (∀ m ∈ List.range 8, m ≠ n.val → b.pdoValid false m = false)) ∧
    (∃ (s : State) (i : Fin 2), let b := s.begin; let c := b.canAt i; (b.canUp i = true) ∧ (c.nmt = 0)) ∧
    (∃ (s : State) (i : Fin 2), let b := s.begin; let c := b.canAt i; (b.canUp i = true) ∧ (c.nmt ≠ 0) ∧ (b.rd Dict.HEARTBEAT_TIME_VALUE ≠ 0) ∧ (c.heartbeatAt + b.rd Dict.HEARTBEAT_TIME_VALUE * 1000000 ≤ b.now)) := by
  refine ⟨⟨Tests.can 4 5, 0, 0x2100, 0x0A, [1], Dict.HENTIS_ALIGN_MODE, ((Tests.can 4 5).begin.actBy 0).setReg (0x2100 * 256 + 0x0A) 1, by decide +kernel⟩,
    ⟨Tests.can 4 5, 0, 0x1018, 1, [], Dict.IDENTITY_VENDOR_ID, by decide +kernel⟩,
    ⟨((Tests.can 4 5).wr Dict.RPDO_COB_ID 0x201 7).wr Dict.RPDO_TYPE 255 7, 0, 7, [], (((Tests.can 4 5).wr Dict.RPDO_COB_ID 0x201 7).wr Dict.RPDO_TYPE 255 7).begin.actBy 0, by decide +kernel⟩,
    ⟨(((Tests.can 4 5).wr Dict.RPDO_COB_ID 0x201 7).wr Dict.RPDO_TYPE 0xF1 7).wr Dict.RPDO_MAP_ENTRY 0x10180120 7 0, 0, 7, [0, 0, 0, 0], 0x1018, 1, .plain 0x06010002 0, by decide +kernel⟩,
    ⟨((Tests.can 4 5).wr Dict.RPDO_COB_ID 0x201 7).wr Dict.RPDO_TYPE 240 7, 0, 7, [], by decide +kernel⟩,
    ⟨(Tests.can 4 5).wr Dict.COB_ID_SYNC_VALUE 0x80, 0, by decide +kernel⟩,
    ⟨((Tests.at 4).putCan 0 { CanNode.init with nmt := 5, pendingRpdo := [(7, [])] }).wr Dict.COB_ID_SYNC_VALUE 0x80, 0, 7, [], ((((Tests.at 4).putCan 0 { CanNode.init with nmt := 5, pendingRpdo := [(7, [])] }).wr Dict.COB_ID_SYNC_VALUE 0x80).begin.putCan 0 { CanNode.init with nmt := 5 }).actBy 0, by decide +kernel⟩,
    ⟨((Tests.can 4 5).wr Dict.TPDO_COB_ID 0x181 7), 0, 7, by decide +kernel⟩,
    ⟨Tests.at 4, 0, by decide +kernel⟩,
    ⟨Tests.can 4 5, 0, by decide +kernel⟩⟩

theorem test_wit_VoltageLoop :
    (∃ (s : State) (i : Fin 5) (pace mv : Nat), let b := s.begin; let at_ := Store.read (fun _ => 0) b.gov.avsAt i; let v := b.avsNext i pace mv; (b.dictUp = true) ∧ (at_ = 0 ∨ at_ - 1 + 50000 ≤ b.now) ∧ (bit (b.rd Dict.GOVERNOR_AVS_HOLD) i = false) ∧ (v ≠ mv) ∧ (v < 65536)) ∧
    (∃ (s : State) (i : Fin 5) (ok : Bool) (pace mv : Nat), let b := s.begin; let at_ := Store.read (fun _ => 0) b.gov.avsAt i; (at_ ≠ 0) ∧ (b.now < at_ - 1 + 50000)) ∧
    (∃ (s : State) (i : Fin 5) (pace mv : Nat), let b := s.begin; let at_ := Store.read (fun _ => 0) b.gov.avsAt i; let aim := b.rd Dict.ISLAND_PACE_TARGET 0 i * (100 + b.rd Dict.GOVERNOR_AVS_MARGIN); (b.dictUp = true) ∧ (at_ = 0 ∨ at_ - 1 + 50000 ≤ b.now) ∧ (aim ≤ pace * 100) ∧ (pace * 10000 ≤ aim * 102) ∧ (b.gov.ceilings.contains i.val = false)) ∧
    (∃ (s : State) (i : Fin 5) (pace mv : Nat), let b := s.begin; let at_ := Store.read (fun _ => 0) b.gov.avsAt i; (b.dictUp = true) ∧ (at_ = 0 ∨ at_ - 1 + 50000 ≤ b.now) ∧ (Store.read (fun _ => 0) b.gov.avsFails i = 2)) ∧
    (∃ (b : State) (i : Fin 5) (pace mv : Nat), let aim := b.rd Dict.ISLAND_PACE_TARGET 0 i * (100 + b.rd Dict.GOVERNOR_AVS_MARGIN); let least := if i.val = 4 then 550 else 500; (least ≤ mv) ∧ (mv ≤ 900) ∧ (pace * 100 < aim)) ∧
    (∃ (b : State) (i : Fin 5) (pace mv : Nat), (b.gov.ceilings.contains i.val = true) ∧ (900 ≤ mv)) ∧
    (∃ (b : State) (i : Fin 5) (pace mv : Nat), let aim := b.rd Dict.ISLAND_PACE_TARGET 0 i * (100 + b.rd Dict.GOVERNOR_AVS_MARGIN); (aim * 102 < pace * 10000) ∧ (¬ pace * 100 < aim) ∧ (b.gov.ceilings.contains i.val = false)) := by
  refine ⟨⟨Tests.at 4, 4, 1, 0, by decide +kernel⟩,
    ⟨{ Tests.at 4 with gov := { Gov.init with avsAt := [(4, 4999950002)] } }, 4, false, 0, 0, by decide +kernel⟩,
    ⟨Tests.at 4, 4, 0, 0, by decide +kernel⟩,
    ⟨{ Tests.at 4 with gov := { Gov.init with avsFails := [(4, 2)], avsAt := [(4, 4999950001)] } }, 4, 0, 0, by decide +kernel⟩,
    ⟨(Tests.at 4).wr Dict.ISLAND_PACE_TARGET 65536 0 4, 4, 0, 550, by decide +kernel⟩,
    ⟨{ Tests.at 4 with gov := { (Tests.at 4).gov with ceilings := [4] } }, 4, 4096, 900, by decide +kernel⟩,
    ⟨Tests.at 4, 4, 1, 0, by decide +kernel⟩⟩

theorem test_wit_GovernorTimers :
    (∃ (s : State) (tel : Telemetry), let b := s.begin; (b.dictUp = true) ∧ (b.gov.lastTick + 10000000 ≤ b.now)) ∧
    (∃ (s : State) (tel : Telemetry), let b := s.begin; b.now < b.gov.lastTick + 10000000) ∧
    (∃ (s : State) (high period : Nat), let b := s.begin; (b.alive = true) ∧ (10000 ≤ period) ∧ (period ≤ 1000000) ∧ (0 < high) ∧ (high < period)) ∧
    (∃ (s : State) (high period : Nat), period < 10000 ∨ 1000000 < period ∨ high = 0 ∨ period ≤ high) ∧
    (∃ (s : State), let b := s.begin; (b.alive = true) ∧ (b.gov.pinFault = false) ∧ (b.gov.pwmAt + 100000000 ≤ b.now)) ∧
    (∃ (b : State), (b.gov.thermal = none) ∧ (b.flag Dict.GOVERNOR_PIN_CAP_ENABLE = true)) ∧
    (∃ (b : State) (limit : Nat), (b.gov.thermal = some limit) ∧ (b.flag Dict.GOVERNOR_PIN_CAP_ENABLE = false)) := by
  refine ⟨⟨Tests.at 4, Tests.tele, by decide +kernel⟩,
    ⟨{ Tests.at 4 with gov := { Gov.init with lastTick := 4990000001 } }, Tests.tele, by decide +kernel⟩,
    ⟨Tests.at 4, 1, 10000, by decide +kernel⟩,
    ⟨Tests.at 4, 0, 0, by decide +kernel⟩,
    ⟨Tests.at 4, by decide +kernel⟩,
    ⟨(Tests.at 4).wr Dict.GOVERNOR_PIN_CAP_ENABLE 1, by decide +kernel⟩,
    ⟨({ Tests.at 4 with gov := { Gov.init with thermal := some 60000 } }).wr Dict.GOVERNOR_PIN_CAP_ENABLE 0, 60000, by decide +kernel⟩⟩

theorem test_wit_ComposeLatchOrder :
    (∃ (s : State) (c : Fin 8) (tel : Telemetry) (line0 : List (Nat × Nat)) (t deadline : Nat), let b := s.begin.frameTiming c; let f := (b.ownFlip c).modCanvas c (fun v => { v with composeAt := t + 1 }); (b.alive = true) ∧ (b.latchDue c = true) ∧ (b.latchNow c = (t, 0, deadline)) ∧ ((f.canvasAt c).stopping = false)) ∧
    (∃ (s : State) (c : Fin 8) (tel : Telemetry) (line0 : List (Nat × Nat)) (t slot deadline : Nat), let b := s.begin.frameTiming c; (b.alive = true) ∧ (b.latchDue c = true) ∧ (b.latchNow c = (t, slot, deadline)) ∧ (slot ≠ 0)) ∧
    (∃ (s : State) (c : Fin 8) (tel : Telemetry) (line0 : List (Nat × Nat)) (t deadline : Nat), let b := s.begin.frameTiming c; let f := (b.ownFlip c).modCanvas c (fun v => { v with composeAt := t + 1 }); (b.alive = true) ∧ (b.latchDue c = true) ∧ (b.latchNow c = (t, 0, deadline)) ∧ ((f.canvasAt c).stopping = true)) ∧
    (∃ (s : State) (c : Fin 8) (tel : Telemetry) (line0 : List (Nat × Nat)), let b := s.begin.frameTiming c; b.latchDue c = false) ∧
    (∃ (s : State) (c : Nat), let j := s.jumpIfDue; let f := j.canvasFtg c; (s.dictUp = true) ∧ (s.alive = true) ∧ (s.latchDue c = true) ∧ (j.ftgStopDue f = true) ∧ ((j.ftgAt f).nextStart ≤ (j.latchNow c).1)) ∧
    (∃ (s : State) (c : Nat), let j := s.jumpIfDue; let f := j.canvasFtg c; (s.dictUp = true) ∧ (s.alive = true) ∧ (s.latchDue c = true) ∧ (j.ftgStopDue f = false ∨ (j.latchNow c).1 < (j.ftgAt f).nextStart)) ∧
    (∃ (b : State) (c : Fin 8) (tel : Telemetry), b.isLatchTick c = true) ∧
    (∃ (b : State) (c slot deadline : Nat), let d := b.dropStrips .compose c; (d.canvasAt c).skip = true) ∧
    (∃ (b : State) (c slot deadline : Nat), let d := b.dropStrips .compose c; (d.canvasAt c).skip = false) := by
  refine ⟨⟨Tests.canvas Canvas.init, 7, Tests.tele, [], ((Tests.canvas Canvas.init).latchNow 7).1, ((Tests.canvas Canvas.init).latchNow 7).2.2, by rw [Tests.still _ _ (by decide) (by decide +kernel)]; decide +kernel⟩,
    ⟨{ (Tests.canvas Canvas.init).wr Dict.CANVAS_SLOTS 2 7 with timebase := 30000000 }, 7, Tests.tele, [], (({ (Tests.canvas Canvas.init).wr Dict.CANVAS_SLOTS 2 7 with timebase := 30000000 }).latchNow 7).1, 1, (({ (Tests.canvas Canvas.init).wr Dict.CANVAS_SLOTS 2 7 with timebase := 30000000 }).latchNow 7).2.2, by rw [Tests.still _ _ (by decide) (by decide +kernel)]; decide +kernel⟩,
    ⟨Tests.canvas { Canvas.init with stopping := true }, 7, Tests.tele, [], ((Tests.canvas { Canvas.init with stopping := true }).latchNow 7).1, ((Tests.canvas { Canvas.init with stopping := true }).latchNow 7).2.2, by rw [Tests.still _ _ (by decide) (by decide +kernel)]; decide +kernel⟩,
    ⟨Tests.at 4, 7, Tests.tele, [], by rw [Tests.still _ _ (by decide) (by decide +kernel)]; decide +kernel⟩,
    ⟨(Tests.canvas Canvas.init).putFtg 0 { Ftg.init with running := true, stopping := true }, 7, by decide +kernel⟩,
    ⟨Tests.canvas Canvas.init, 7, by decide +kernel⟩,
    ⟨Tests.canvas Canvas.init, 7, Tests.tele, by decide +kernel⟩,
    ⟨(Tests.at 4).putCanvas 7 { Canvas.init with skip := true }, 7, 0, 0, by decide +kernel⟩,
    ⟨Tests.at 4, 0, 0, 0, by decide +kernel⟩⟩

theorem test_wit_StripHandshake :
    (∃ (s : State) (e : Fin 104) (a : Strip), let b := s.begin; (b.alive = true) ∧ (b.heldBy e < (b.engineAt e).credit) ∧ (b.strips.find? (·.mayGo e) = some a)) ∧
    (∃ (s : State) (e : Fin 104), let b := s.begin; (b.engineAt e).credit ≤ b.heldBy e) ∧
    (∃ (b : State) (a : Strip) (e : Nat), a.copies = []) ∧
    (∃ (s : State) (i : StripId) (a : Strip) (first : Copy) (e : Nat), let b := s.begin; (b.stripOf i = some a) ∧ (a.done = false) ∧ (a.abandoned = false) ∧ (a.reissued = false) ∧ (a.copies = [first]) ∧ (a.reissueAt ≤ b.timebase) ∧ (b.idleFor a = some e)) ∧
    (∃ (s : State) (i : StripId) (a : Strip) (first : Copy), let b := s.begin; (b.stripOf i = some a) ∧ (a.done = false) ∧ (a.abandoned = false) ∧ (a.reissued = false) ∧ (a.copies = [first]) ∧ (a.reissueAt ≤ b.timebase) ∧ (b.idleFor a = none)) ∧
    (∃ (s : State) (e : Fin 104) (i : StripId) (a : Strip), let b := s.begin; (b.alive = true) ∧ (b.stripOf i = some a) ∧ (a.done = false) ∧ (a.copies.any (·.engine == e.val) = true) ∧ (a.kind = .estimate)) ∧
    (∃ (s : State) (e : Fin 104) (i : StripId) (a : Strip), let b := s.begin; let f := (b.finishStrip a e i).writeStrip a; (b.alive = true) ∧ (b.stripOf i = some a) ∧ (a.done = false) ∧ (a.copies.any (·.engine == e.val) = true) ∧ (a.kind = .compose) ∧ ((f.stripsOf .compose a.owner).all (·.done) = true) ∧ ((f.canvasAt a.owner).composing = true)) ∧
    (∃ (s : State) (e : Fin 104) (i : StripId) (a : Strip), let b := s.begin; let f := (b.finishStrip a e i).writeStrip a; (b.alive = true) ∧ (b.stripOf i = some a) ∧ (a.done = false) ∧ (a.copies.any (·.engine == e.val) = true) ∧ (a.kind = .compose) ∧ ((f.stripsOf .compose a.owner).all (·.done) = false)) ∧
    (∃ (s : State) (e : Fin 104) (i : StripId) (a : Strip), let b := s.begin; (b.stripOf i = some a) ∧ (a.done = true)) ∧
    (∃ (s : State) (c : Fin 8), let b := s.begin; let v := b.canvasAt c; (b.alive = true) ∧ (v.composing = true) ∧ (v.deadline ≤ b.timebase)) ∧
    (∃ (s : State) (n : Fin 64) (lines : Nat) (p : Picture), let b := s.begin; (b.alive = true) ∧ (b.rd Dict.INPUT_TIMING_CLASS n = 1) ∧ ((b.inputAt n).bandLines ≤ lines) ∧ (b.canvasesNaming 1 n = [])) ∧
    (∃ (s : State) (n : Fin 64) (lines : Nat) (p : Picture), let b := s.begin; (b.alive = true) ∧ (b.rd Dict.INPUT_TIMING_CLASS n = 1) ∧ ((b.inputAt n).bandLines ≤ lines)) := by
  refine ⟨⟨(Tests.strips Tests.strip).putEngine 103 Engine.init, 103, Tests.strip, by decide +kernel⟩,
    ⟨Tests.at 4, 103, by decide +kernel⟩,
    ⟨Tests.at 4, Tests.strip, 103, by decide +kernel⟩,
    ⟨Tests.strips ({ Tests.strip with copies := [⟨103, 0⟩] }), Tests.stripId, { Tests.strip with copies := [⟨103, 0⟩] }, ⟨103, 0⟩, 0, by decide +kernel⟩,
    ⟨{ Tests.at 4 with strips := [{ Tests.strip with copies := [⟨103, 0⟩] }], timebase := 1000, engines := (List.range 104).map (fun e => (e, { Engine.init with state := .retired, prior := .retired })) }, Tests.stripId, { Tests.strip with copies := [⟨103, 0⟩] }, ⟨103, 0⟩, by decide +kernel⟩,
    ⟨Tests.strips ({ Tests.strip with copies := [⟨103, 0⟩], kind := .estimate }), 103, ⟨1, 7, 0, 0, 0⟩, { Tests.strip with copies := [⟨103, 0⟩], kind := .estimate }, by decide +kernel⟩,
    ⟨(Tests.strips ({ Tests.strip with copies := [⟨103, 0⟩] })).putCanvas 7 { Canvas.init with composing := true }, 103, Tests.stripId, { Tests.strip with copies := [⟨103, 0⟩] }, by decide +kernel⟩,
    ⟨{ (Tests.strips Tests.strip).putCanvas 7 { Canvas.init with composing := true } with strips := [{ Tests.strip with copies := [⟨103, 0⟩] }, { Tests.strip with index := 1 }] }, 103, Tests.stripId, { Tests.strip with copies := [⟨103, 0⟩] }, by decide +kernel⟩,
    ⟨Tests.strips ({ Tests.strip with copies := [⟨103, 0⟩], done := true }), 103, Tests.stripId, { Tests.strip with copies := [⟨103, 0⟩], done := true }, by decide +kernel⟩,
    ⟨(Tests.at 4).putCanvas 7 { Canvas.init with composing := true }, 7, by decide +kernel⟩,
    ⟨(Tests.at 4).wr Dict.INPUT_TIMING_CLASS 1 63, 63, 0, ⟨0, 0, []⟩, by decide +kernel⟩,
    ⟨(Tests.at 4).wr Dict.INPUT_TIMING_CLASS 1 63, 63, 0, ⟨0, 0, []⟩, by decide +kernel⟩⟩

theorem test_wit_EngineFaults :
    (∃ (s : State) (e : Fin 104) (i : StripId) (entry : Nat), let b := s.begin; let g := b.engineAt e; (b.alive = true) ∧ (g.runs = true)) ∧
    (∃ (s : State) (e : Fin 104) (i : StripId) (entry : Nat), let b := s.begin; let g := b.engineAt e; (b.alive = true) ∧ (g.runs = true)) ∧
    (∃ (s : State) (e : Fin 104) (i : StripId) (unit : Nat), let b := s.begin; let g := b.engineAt e; (b.alive = true) ∧ (g.runs = true)) ∧
    (∃ (s : State) (e : Fin 104) (i : StripId) (a : Strip) (c : Copy), let b := s.begin; let g := b.engineAt e; (b.alive = true) ∧ (g.runs = true) ∧ (b.stripOf i = some a) ∧ (a.copies.find? (·.engine == e.val) = some c) ∧ (c.start + 4 * a.expected ≤ b.timebase)) ∧
    (∃ (s : State) (e : Fin 104) (i : StripId) (a : Strip) (c : Copy), let b := s.begin; (b.stripOf i = some a) ∧ (a.copies.find? (·.engine == e.val) = some c) ∧ (b.timebase < c.start + 4 * a.expected)) ∧
    (∃ (s : State) (e : Fin 104), let b := s.begin; let g := b.engineAt e; (b.alive = true) ∧ (g.state = .resetting)) ∧
    (∃ (s : State) (e : Fin 104), let b := s.begin; (b.alive = true) ∧ (256 ≤ (b.engineAt e).below) ∧ ((b.engineAt e).state ≠ .retired) ∧ (b.isRetired (unitCode 1 e) = false) ∧ (b.resil.copying = [])) ∧
    (∃ (b : State) (e : Nat) (i : StripId) (a : Strip) (c : Copy), (b.stripOf i = some a) ∧ (a.copies = [c]) ∧ (c.engine = e) ∧ (a.abandonments < 2)) ∧
    (∃ (b : State) (e : Nat) (i : StripId) (a : Strip) (c : Copy), (b.stripOf i = some a) ∧ (a.copies = [c]) ∧ (c.engine = e) ∧ (a.abandonments = 2)) ∧
    (∃ (b : State) (kind unit : Nat), let u := unitCode kind unit; let new := min 255 ((b.weightAt u).weight + 1); let limit := b.rd Dict.FAULT_WEIGHTS_THRESHOLD 0 (kind - 1); (b.isRetired u = false) ∧ (b.resil.copying = []) ∧ (new < limit) ∧ (limit ≤ 2 * new) ∧ ((b.weightAt u).halfRaised = false)) := by
  refine ⟨⟨Tests.at 4, 103, Tests.stripId, 0, by decide +kernel⟩,
    ⟨Tests.at 4, 103, Tests.stripId, 0, by decide +kernel⟩,
    ⟨Tests.at 4, 103, Tests.stripId, 0, by decide +kernel⟩,
    ⟨Tests.strips { Tests.strip with copies := [⟨103, 0⟩], expected := 250, abandonments := 0 }, 103, Tests.stripId, { Tests.strip with copies := [⟨103, 0⟩], expected := 250, abandonments := 0 }, ⟨103, 0⟩, by decide +kernel⟩,
    ⟨Tests.strips { Tests.strip with copies := [⟨103, 0⟩], expected := 251, abandonments := 0 }, 103, Tests.stripId, { Tests.strip with copies := [⟨103, 0⟩], expected := 251, abandonments := 0 }, ⟨103, 0⟩, by decide +kernel⟩,
    ⟨(Tests.at 4).putEngine 103 { Engine.init with state := .resetting }, 103, by decide +kernel⟩,
    ⟨(Tests.at 4).putEngine 103 { Engine.init with below := 256 }, 103, by decide +kernel⟩,
    ⟨Tests.strips { Tests.strip with copies := [⟨103, 0⟩], expected := 0, abandonments := 1 }, 103, Tests.stripId, { Tests.strip with copies := [⟨103, 0⟩], expected := 0, abandonments := 1 }, ⟨103, 0⟩, by decide +kernel⟩,
    ⟨Tests.strips { Tests.strip with copies := [⟨103, 0⟩], expected := 0, abandonments := 2 }, 103, Tests.stripId, { Tests.strip with copies := [⟨103, 0⟩], expected := 0, abandonments := 2 }, ⟨103, 0⟩, by decide +kernel⟩,
    ⟨({ Tests.at 4 with resil := { (Tests.at 4).resil with weights := [(16777216 + 103, { Weight.init with weight := 3 })] } }), 1, 103, by decide +kernel⟩⟩

theorem test_wit_PortFields :
    (∃ (s : State) (k : Fin 12) (p : Fin 48), let b := s.begin.actBy k; (Safety.passesScalar b k Dict.PORT_ADMIN p 0 1) ∧ (b.portRefusal p = none)) ∧
    (∃ (s : State) (k : Fin 12) (p : Fin 48) (r : Refuse), let b := s.begin.actBy k; (Safety.passesScalar b k Dict.PORT_ADMIN p 0 1) ∧ (b.portRefusal p = some r)) ∧
    (∃ (b : State) (p : Nat), b.rd Dict.PORT_TYPE p = 0) ∧
    (∃ (b : State) (p : Nat), let w := laneCount (b.rd Dict.PORT_TYPE p); (b.rd Dict.PORT_TYPE p ≠ 0) ∧ (b.rd Dict.PORT_FIRST_LANE p % w ≠ 0 ∨ 52 < b.rd Dict.PORT_FIRST_LANE p + w)) ∧
    (∃ (s : State) (k : Fin 12) (p : Fin 48), let b := s.begin.actBy k; (Safety.passesScalar b k Dict.PORT_ADMIN p 0 0) ∧ (b.flag Dict.PORT_ADMIN p = true)) ∧
    (∃ (s : State) (k : Fin 12) (p : Fin 48), let b := s.begin.actBy k; (Safety.passesScalar b k Dict.PORT_ADMIN p 0 0) ∧ (b.flag Dict.PORT_ADMIN p = false)) ∧
    (∃ (s : State) (k : Fin 12) (l : Fin 52) (v : Fin 256), let b := s.begin.actBy k; (Safety.passesScalar b k Dict.U_LANE_SPARE_OF l 0 v) ∧ (b.judgeSpare l v = none)) ∧
    (∃ (s : State) (k : Fin 12) (l : Fin 52) (v : Fin 256) (r : Refuse), let b := s.begin.actBy k; (Safety.passesScalar b k Dict.U_LANE_SPARE_OF l 0 v) ∧ (b.judgeSpare l v = some r)) ∧
    (∃ (b : State) (l v p : Nat), (v ≠ 0xFF) ∧ ((List.range 48).find? (fun p => (b.portLanes p).contains l) = some p)) ∧
    (∃ (s : State) (k : Fin 12) (p : Fin 48) (v : Fin 256), let b := s.begin.actBy k; (Safety.passesScalar b k Dict.PTL_GENERATION 0 p v) ∧ (generationAdmits v (b.rd Dict.PORT_TYPE p) = true) ∧ (v.val = 2 ∨ b.sparesOf p = [])) ∧
    (∃ (s : State) (k : Fin 12) (p : Fin 48) (v : Fin 256), let b := s.begin.actBy k; (Safety.passesScalar b k Dict.PTL_GENERATION 0 p v) ∧ (generationAdmits v (b.rd Dict.PORT_TYPE p) = false ∨ (v.val ≠ 2 ∧ b.sparesOf p ≠ []))) := by
  refine ⟨⟨(((Tests.at 4).wr Dict.PORT_TYPE 1 47).wr Dict.PORT_FIRST_LANE 51 47).wr Dict.PORT_FEC 0 47, 11, 47, by decide +kernel⟩,
    ⟨Tests.at 4, 11, 47, .atField 0x12 (0x2280 + 47) 2, by decide +kernel⟩,
    ⟨Tests.at 4, 0, by decide +kernel⟩,
    ⟨((Tests.at 4).wr Dict.PORT_TYPE 8 47).wr Dict.PORT_FIRST_LANE 48 47, 47, by decide +kernel⟩,
    ⟨(Tests.at 4).wr Dict.PORT_ADMIN 1 47, 11, 47, by decide +kernel⟩,
    ⟨Tests.at 4, 11, 47, by decide +kernel⟩,
    ⟨Tests.at 4, 11, 51, 255, by decide +kernel⟩,
    ⟨((((Tests.at 4).wr Dict.PORT_TYPE 1 47).wr Dict.PORT_FIRST_LANE 51 47).wr Dict.PORT_ADMIN 1 47).wr Dict.PORT_STATE 2 47, 11, 51, 47, .atField 0x12 (0x2280 + 47) 3, by decide +kernel⟩,
    ⟨((((Tests.at 4).wr Dict.PORT_TYPE 1 47).wr Dict.PORT_FIRST_LANE 51 47).wr Dict.PORT_ADMIN 1 47).wr Dict.PORT_STATE 2 47, 51, 47, 47, by decide +kernel⟩,
    ⟨Tests.at 4, 11, 47, 0, by decide +kernel⟩,
    ⟨Tests.at 4, 11, 47, 1, by decide +kernel⟩⟩

theorem test_wit_LaneStates :
    (∃ (s : State) (l : Fin 68) (alignment : Bool), let b := s.begin; (b.alive = true) ∧ ((b.laneAt l).live = true)) ∧
    (∃ (s : State) (l : Fin 68) (alignment : Bool), let b := s.begin; (b.laneAt l).live = false) ∧
    (∃ (b : State) (l cause : Nat), (l < 52) ∧ (b.portOf l = none)) ∧
    (∃ (s : State) (l : Fin 68) (f : LinkFound), let b := s.begin; (b.alive = true) ∧ ((b.laneAt l).state = .train) ∧ (b.linkRuns l f = true) ∧ (l.val < 52)) ∧
    (∃ (s : State) (l : Fin 68) (f : LinkFound), let b := s.begin; (b.laneAt l).state ≠ .train ∨ b.linkRuns l f = false) ∧
    (∃ (b : State) (l : Nat) (f : LinkFound), (52 ≤ l) ∧ (f.rate < 2 ^ 32)) ∧
    (∃ (s : State) (l : Fin 68) (autoneg : Bool), let b := s.begin; let n := (b.laneAt l).restarts + 1; (b.alive = true) ∧ ((b.laneAt l).state = .train) ∧ ((b.laneAt l).trainSince + 3000000000 ≤ b.now) ∧ (n < 3)) ∧
    (∃ (s : State) (l : Fin 68) (autoneg : Bool), let b := s.begin; let n := (b.laneAt l).restarts + 1; (b.alive = true) ∧ ((b.laneAt l).state = .train) ∧ ((b.laneAt l).trainSince + 3000000000 ≤ b.now) ∧ (3 ≤ n) ∧ (l.val < 52)) ∧
    (∃ (s : State) (l : Fin 68) (autoneg : Bool), let b := s.begin; let n := (b.laneAt l).restarts + 1; (b.alive = true) ∧ ((b.laneAt l).state = .train) ∧ ((b.laneAt l).trainSince + 3000000000 ≤ b.now) ∧ (3 ≤ n) ∧ (52 ≤ l.val)) ∧
    (∃ (s : State) (l : Fin 68) (autoneg : Bool), let b := s.begin; b.now < (b.laneAt l).trainSince + 3000000000) ∧
    (∃ (s : State) (l : Fin 68), let b := s.begin; let a := b.laneAt l; let w := b.modLane l (fun a => { a with state := .degraded, goodSince := 0 }); let u := w.raise Event.LANE_DEGRADED (laneCode l) (w.marginClass l); (b.alive = true) ∧ (a.state = .up) ∧ (b.since a.lowSince 1000000000 = true ∨ (a.badAt ≠ 0 ∧ b.since a.badAt 1000000001 = false)) ∧ (52 ≤ l.val ∨ u.flag Dict.PTL_TAKEOVER_ON_DEGRADE = false)) ∧
    (∃ (s : State) (l : Fin 68) (p : _) (m : _), let b := s.begin; let a := b.laneAt l; let w := b.modLane l (fun a => { a with state := .degraded, goodSince := 0 }); let u := w.raise Event.LANE_DEGRADED (laneCode l) (w.marginClass l); (b.alive = true) ∧ (a.state = .up) ∧ (b.since a.lowSince 1000000000 = true ∨ (a.badAt ≠ 0 ∧ b.since a.badAt 1000000001 = false)) ∧ (l.val < 52) ∧ (u.flag Dict.PTL_TAKEOVER_ON_DEGRADE = true) ∧ (u.portOf l = some p) ∧ (u.readySpare p = some m)) ∧
    (∃ (s : State) (l : Fin 68) (p : _), let b := s.begin; let a := b.laneAt l; let w := b.modLane l (fun a => { a with state := .degraded, goodSince := 0 }); let u := w.raise Event.LANE_DEGRADED (laneCode l) (w.marginClass l); (b.alive = true) ∧ (a.state = .up) ∧ (b.since a.lowSince 1000000000 = true ∨ (a.badAt ≠ 0 ∧ b.since a.badAt 1000000001 = false)) ∧ (l.val < 52) ∧ (u.flag Dict.PTL_TAKEOVER_ON_DEGRADE = true) ∧ (u.portOf l = some p) ∧ (u.readySpare p = none)) ∧
    (∃ (s : State) (l : Fin 68), let b := s.begin; let a := b.laneAt l; (b.alive = true) ∧ (a.state = .degraded) ∧ (b.since a.goodSince 10000000000 = true) ∧ (a.badAt = 0 ∨ b.since a.badAt 10000000000 = true)) ∧
    (∃ (s : State) (p : Fin 48) (count : Nat), let b := s.begin; (b.alive = true) ∧ (2 ≤ b.rd Dict.PORT_STATE p) ∧ (0 < count)) ∧
    (∃ (s : State) (l : Fin 68) (snr high : Fin 65536) (r : LaneReading), let b := s.begin; (b.alive = true) ∧ (l.val < 52)) ∧
    (∃ (s : State) (l : Fin 68) (snr high : Fin 65536) (r : LaneReading), let b := s.begin; (b.alive = true) ∧ (52 ≤ l.val)) ∧
    (∃ (s : State) (l : Fin 52), let b := s.begin; let p := b.rd Dict.U_LANE_SPARE_OF l; (b.alive = true) ∧ (p < 48) ∧ (2 ≤ b.rd Dict.PORT_STATE p) ∧ ((b.ulaneAt l).state = .off) ∧ ((b.ulaneAt l).surveyed = false)) ∧
    (∃ (s : State) (p : Fin 48) (length : Nat), let b := s.begin; (b.alive = true) ∧ (2 ≤ b.rd Dict.PORT_STATE p) ∧ (64 ≤ length) ∧ (length ≤ b.rd Dict.PORT_MTU p)) ∧
    (∃ (s : State) (p : Fin 48) (length : Nat), let b := s.begin; (b.alive = true) ∧ (2 ≤ b.rd Dict.PORT_STATE p) ∧ (length < 64 ∨ b.rd Dict.PORT_MTU p < length)) := by
  refine ⟨⟨(Tests.at 4).putUlane 51 { Lane.init with state := .up }, 51, false, by decide +kernel⟩,
    ⟨Tests.at 4, 67, false, by decide +kernel⟩,
    ⟨Tests.at 4, 0, 0, by decide +kernel⟩,
    ⟨(Tests.at 4).putUlane 51 { Lane.init with state := .train }, 51, ⟨0, false, 0, [0, 0, 64, 0, 0], []⟩, by decide +kernel⟩,
    ⟨(Tests.at 4).putUlane 51 { Lane.init with state := .up }, 51, ⟨0, false, 0, [0, 0, 64, 0, 0], []⟩, by decide +kernel⟩,
    ⟨Tests.at 4, 67, ⟨2970000, false, 0, [0, 0, 64, 0, 0], []⟩, by decide +kernel⟩,
    ⟨(Tests.at 4).putUlane 51 { Lane.init with state := .train, trainSince := 2000000000, restarts := 1 }, 51, false, by decide +kernel⟩,
    ⟨(Tests.at 4).putUlane 51 { Lane.init with state := .train, trainSince := 2000000000, restarts := 2 }, 51, false, by decide +kernel⟩,
    ⟨(Tests.at 4).putDlane 15 { Lane.init with state := .train, restarts := 2 }, 67, false, by decide +kernel⟩,
    ⟨State.reset, 67, false, by decide +kernel⟩,
    ⟨(Tests.at 4).putDlane 15 { Lane.init with state := .up, lowSince := 4000000001 }, 67, by decide +kernel⟩,
    ⟨(((((((((Tests.at 4).wr Dict.PORT_TYPE 1 47).wr Dict.PORT_FIRST_LANE 51 47).wr Dict.PORT_ADMIN 1 47).wr Dict.PORT_STATE 2 47).putUlane 51 { Lane.init with state := .up, lowSince := 1 }).putUlane 50 { Lane.init with surveyed := true }).wr Dict.U_LANE_SPARE_OF 47 50).wr Dict.PTL_GENERATION 2 0 47).wr Dict.PTL_TAKEOVER_ON_DEGRADE 1, 51, 47, 50, by decide +kernel⟩,
    ⟨((((((((Tests.at 4).wr Dict.PORT_TYPE 1 47).wr Dict.PORT_FIRST_LANE 51 47).wr Dict.PORT_ADMIN 1 47).wr Dict.PORT_STATE 2 47).putUlane 51 { Lane.init with state := .up, lowSince := 1 }).wr Dict.PTL_GENERATION 2 0 47).wr Dict.PTL_TAKEOVER_ON_DEGRADE 1), 51, 47, by decide +kernel⟩,
    ⟨{ (Tests.at 4).putUlane 51 { Lane.init with state := .degraded, goodSince := 1 } with now := 10000000000 }, 51, by decide +kernel⟩,
    ⟨((((Tests.at 4).wr Dict.PORT_TYPE 1 47).wr Dict.PORT_FIRST_LANE 51 47).wr Dict.PORT_ADMIN 1 47).wr Dict.PORT_STATE 2 47, 47, 1, by decide +kernel⟩,
    ⟨(Tests.at 4).putUlane 51 { Lane.init with state := .up }, 51, 65535, 0, ⟨0, 0, 0, []⟩, by decide +kernel⟩,
    ⟨((Tests.at 4).wr Dict.GROUP_PORT_MODE 5 3).putDlane 15 { Lane.init with state := .up }, 67, 65535, 0, ⟨0, 0, 0, []⟩, by decide +kernel⟩,
    ⟨(((((Tests.at 4).wr Dict.PORT_TYPE 1 47).wr Dict.PORT_FIRST_LANE 51 47).wr Dict.PORT_ADMIN 1 47).wr Dict.PORT_STATE 2 47).wr Dict.U_LANE_SPARE_OF 47 50, 50, by decide +kernel⟩,
    ⟨((((Tests.at 4).wr Dict.PORT_TYPE 1 47).wr Dict.PORT_FIRST_LANE 51 47).wr Dict.PORT_ADMIN 1 47).wr Dict.PORT_STATE 2 47, 47, 9216, by decide +kernel⟩,
    ⟨((((Tests.at 4).wr Dict.PORT_TYPE 1 47).wr Dict.PORT_FIRST_LANE 51 47).wr Dict.PORT_ADMIN 1 47).wr Dict.PORT_STATE 2 47, 47, 63, by decide +kernel⟩⟩

theorem test_wit_GroupPorts :
    (∃ (s : State) (k : Fin 12) (g : Fin 4), let b := s.begin.actBy k; (Safety.passesScalar b k Dict.GROUP_PORT_ADMIN g 0 1) ∧ (b.judgeGroup g = none)) ∧
    (∃ (s : State) (k : Fin 12) (g : Fin 4) (r : Refuse), let b := s.begin.actBy k; (Safety.passesScalar b k Dict.GROUP_PORT_ADMIN g 0 1) ∧ (b.judgeGroup g = some r)) ∧
    (∃ (s : State) (k : Fin 12) (g : Fin 4), let b := s.begin.actBy k; Safety.passesScalar b k Dict.GROUP_PORT_ADMIN g 0 0) ∧
    (∃ (b : State) (g : Nat), b.groupReceives g = true) ∧
    (∃ (s : State) (g : Fin 4) (p : PinLevel), let b := s.begin; (b.alive = true) ∧ (b.groupSends g = true) ∧ (b.flag Dict.GROUP_PORT_HPD g ≠ p.high) ∧ (100000 ≤ p.us)) ∧
    (∃ (s : State) (g : Fin 4) (p : PinLevel), let b := s.begin; (b.alive = true) ∧ (b.groupSends g = true) ∧ (b.flag Dict.GROUP_PORT_HPD g = p.high ∨ p.us < 100000)) ∧
    (∃ (s : State) (g : Fin 4) (us : Nat), let b := s.begin; (b.alive = true) ∧ (b.rd Dict.GROUP_PORT_MODE g = 4) ∧ (b.flag Dict.GROUP_PORT_HPD g = true) ∧ (500 ≤ us) ∧ (us ≤ 1000)) ∧
    (∃ (s : State) (g : Fin 4) (us : Nat), let b := s.begin; (b.alive = true) ∧ (b.rd Dict.GROUP_PORT_MODE g = 4) ∧ (b.flag Dict.GROUP_PORT_HPD g = true) ∧ (us < 500 ∨ 1000 < us)) ∧
    (∃ (s : State) (k : Fin 12) (g : Fin 4) (data : List Byte), let b := s.begin.actBy k; let w := b.wrDom Dict.GROUP_PORT_EDID data g; let v := w.putGroup g { b.groupAt g with edidDue := true }; (Safety.passes b k Dict.GROUP_PORT_EDID g 0 data) ∧ (v.groupPaced g = true)) ∧
    (∃ (s : State) (k : Fin 12) (g : Fin 4) (data : List Byte), let b := s.begin.actBy k; let w := b.wrDom Dict.GROUP_PORT_EDID data g; let v := w.putGroup g { b.groupAt g with edidDue := true }; (Safety.passes b k Dict.GROUP_PORT_EDID g 0 data) ∧ (v.groupPaced g = false)) ∧
    (∃ (b : State) (g : Nat), b.groupReceives g = true) ∧
    (∃ (b : State) (g : Nat), b.groupReceives g = false) ∧
    (∃ (s : State) (g : Fin 4), let b := s.begin; let u := b.groupAt g; (b.alive = true) ∧ (u.hpdLowUntil ≠ 0) ∧ (u.hpdLowUntil ≤ b.now)) ∧
    (∃ (s : State) (g : Fin 4), let b := s.begin; let u := b.groupAt g; (b.alive = true) ∧ (u.hpdLowUntil ≠ 0) ∧ (b.now < u.hpdLowUntil)) ∧
    (∃ (s : State) (g : Fin 4) (data : List Byte), let b := s.begin; (b.alive = true) ∧ (b.groupSends g = true) ∧ (b.flag Dict.GROUP_PORT_HPD g = true)) ∧
    (∃ (s : State) (k : Fin 12) (g : Fin 4) (data : List Byte), let b := s.begin.actBy k; Safety.passes b k Dict.GROUP_PORT_CEC_TX g 0 data) ∧
    (∃ (s : State) (g : Fin 4) (data : List Byte), let b := s.begin; (b.alive = true) ∧ (data ≠ []) ∧ (bit (b.groupAt g).cec (byteAt data 0 % 16) = true)) ∧
    (∃ (s : State) (g : Fin 4) (data : List Byte), let b := s.begin; (b.alive = true) ∧ (data ≠ []) ∧ (bit (b.groupAt g).cec (byteAt data 0 % 16) = false)) := by
  refine ⟨⟨Tests.at 4, 11, 3, by decide +kernel⟩,
    ⟨(((Tests.at 4).wr Dict.GROUP_PORT_MODE 1 3)).wr Dict.GROUP_PORT_LANES 2 3, 11, 3, { abort := 134217762, detail := 18, fieldIndex := 8883, fieldSub := 4, entry := 4294967295, ownEvent := false }, by decide +kernel⟩,
    ⟨Tests.at 4, 11, 3, by decide +kernel⟩,
    ⟨((Tests.at 4).wr Dict.GROUP_PORT_MODE 3 3), 3, by decide +kernel⟩,
    ⟨(Tests.at 4).wr Dict.GROUP_PORT_MODE 2 3, 3, ⟨true, 100000⟩, by decide +kernel⟩,
    ⟨(Tests.at 4).wr Dict.GROUP_PORT_MODE 2 3, 3, ⟨true, 99999⟩, by decide +kernel⟩,
    ⟨((Tests.at 4).wr Dict.GROUP_PORT_MODE 4 3).wr Dict.GROUP_PORT_HPD 1 3, 3, 500, by decide +kernel⟩,
    ⟨((Tests.at 4).wr Dict.GROUP_PORT_MODE 4 3).wr Dict.GROUP_PORT_HPD 1 3, 3, 499, by decide +kernel⟩,
    ⟨(((((Tests.at 4).wr Dict.GROUP_PORT_MODE 1 3).wr Dict.GROUP_PORT_STATE 2 3).wr Dict.INPUT_TRANSPORT 3 63).wr Dict.INPUT_PORT_A 3 63).wr Dict.INPUT_ENABLE 1 63, 11, 3, Tests.z 128, by decide +kernel⟩,
    ⟨((Tests.at 4).wr Dict.GROUP_PORT_MODE 2 3), 11, 3, Tests.z 512, by decide +kernel⟩,
    ⟨(Tests.at 4).wr Dict.GROUP_PORT_MODE 3 3, 3, by decide +kernel⟩,
    ⟨Tests.at 4, 0, by decide +kernel⟩,
    ⟨(Tests.at 4).putGroup 3 { Group.init with hpdLowUntil := 5000000000 }, 3, by decide +kernel⟩,
    ⟨(Tests.at 4).putGroup 3 { Group.init with hpdLowUntil := 5000000001 }, 3, by decide +kernel⟩,
    ⟨((Tests.at 4).wr Dict.GROUP_PORT_MODE 2 3).wr Dict.GROUP_PORT_HPD 1 3, 3, [], by decide +kernel⟩,
    ⟨Tests.at 4, 11, 3, [0], by decide +kernel⟩,
    ⟨(Tests.at 4).putGroup 3 { Group.init with cec := 0x8000 }, 3, [0x0F], by decide +kernel⟩,
    ⟨(Tests.at 4).wr Dict.GROUP_PORT_CEC_ADDRESS_MASK 0x7FFF 3, 3, [0x0F], by decide +kernel⟩⟩

theorem test_wit_GroupPorts_authentication :
    (∃ (s : State) (g : Fin 4) (depth : Nat) (ids : List (List Byte)), let b := s.begin; (b.alive = true) ∧ (b.rd Dict.GROUP_PORT_HDCP_STATE g = 1) ∧ (b.rd Dict.KEY_STORE_HDCP_STATE = 1) ∧ (ids.length ≤ 31) ∧ (depth ≤ 4)) ∧
    (∃ (s : State) (g : Fin 4) (depth : Nat) (ids : List (List Byte)), let b := s.begin; (b.alive = true) ∧ (b.rd Dict.GROUP_PORT_HDCP_STATE g = 1) ∧ (b.rd Dict.KEY_STORE_HDCP_STATE = 1) ∧ (31 < ids.length ∨ 4 < depth)) ∧
    (∃ (s : State) (g : Fin 4) (depth : Nat) (ids : List (List Byte)), s.begin.rd Dict.KEY_STORE_HDCP_STATE ≠ 1) ∧
    (∃ (s : State) (g : Fin 4) (st : Nat), let b := s.begin; let v := b.rd Dict.GROUP_PORT_HDCP_STATE g; (b.alive = true) ∧ (v = 1 ∨ v = 2)) ∧
    (∃ (s : State) (g : Fin 4) (rate : Nat), let b := s.begin; (b.alive = true) ∧ (b.rd Dict.GROUP_PORT_STATE g = 1) ∧ (b.rd Dict.GROUP_PORT_MODE g ≤ 4)) := by
  refine ⟨⟨((Tests.at 4).wr Dict.GROUP_PORT_HDCP_STATE 1 3).wr Dict.KEY_STORE_HDCP_STATE 1, 3, 4, [], by decide +kernel⟩,
    ⟨((Tests.at 4).wr Dict.GROUP_PORT_HDCP_STATE 1 3).wr Dict.KEY_STORE_HDCP_STATE 1, 3, 5, [], by decide +kernel⟩,
    ⟨Tests.at 4, 3, 0, [], by decide +kernel⟩,
    ⟨((Tests.at 4).wr Dict.GROUP_PORT_HDCP_STATE 1 3).wr Dict.KEY_STORE_HDCP_STATE 1, 3, 0, by decide +kernel⟩,
    ⟨((Tests.at 4).wr Dict.GROUP_PORT_MODE 4 3).wr Dict.GROUP_PORT_STATE 1 3, 3, 0, by decide +kernel⟩⟩

theorem test_wit_PcieAndManagementLinks :
    (∃ (s : State) (speed width : Fin 5), let b := s.begin; b.alive = true) ∧
    (∃ (s : State) (ltssm : Nat), let b := s.begin; (b.alive = true) ∧ (b.rd Dict.PCIE_LINK_STATE = 2)) ∧
    (∃ (s : State) (status : Nat), s.begin.alive = true) ∧
    (∃ (s : State) (offset length : Nat) (data : List Byte), let b := s.begin; let size := b.dramSetting 4 * 1048576; (b.alive = true) ∧ (b.rd Dict.PCIE_LINK_STATE = 2) ∧ (offset < size) ∧ (size < offset + length)) ∧
    (∃ (s : State) (offset length : Nat) (data : List Byte), let b := s.begin; let size := b.dramSetting 4 * 1048576; (b.alive = true) ∧ (b.rd Dict.PCIE_LINK_STATE = 2) ∧ (offset < size) ∧ (size < offset + data.length)) ∧
    (∃ (s : State) (k : Fin 12) (v : Nat), let b := s.begin.actBy k; Safety.passesScalar b k Dict.PCIE_TARGET_SPEED 0 0 v) ∧
    (∃ (s : State) (k : Fin 2), (s.begin.alive = true) ∧ (bit (s.begin.rd Dict.PCIE_RP_ENABLE) k = true)) := by
  refine ⟨⟨Tests.at 4, 4, 4, by decide +kernel⟩,
    ⟨{ Tests.pcie with dram := { Dram.init with inForce := [0, 0, 0, 0, 1] } }, 0, by decide +kernel⟩,
    ⟨Tests.at 4, 0, by decide +kernel⟩,
    ⟨{ Tests.pcie with dram := { Dram.init with inForce := [0, 0, 0, 0, 1] } }, 1048575, 2, [], by decide +kernel⟩,
    ⟨{ Tests.pcie with dram := { Dram.init with inForce := [0, 0, 0, 0, 1] } }, 1048575, 0, [7, 7], by decide +kernel⟩,
    ⟨Tests.at 4, 11, 1, by decide +kernel⟩,
    ⟨Tests.at 4, 1, by decide +kernel⟩⟩

theorem test_wit_PcieAndManagementLinks_management :
    (∃ (s : State) (v : Fin 4), let b := s.begin; (b.alive = true) ∧ (b.rd Dict.MANAGEMENT_MGMT_SPEED ≠ v)) ∧
    (∃ (s : State) (v : Fin 4), let b := s.begin; (b.alive = true) ∧ (b.rd Dict.MANAGEMENT_MGMT_SPEED = v)) ∧
    (∃ (s : State) (i : Fin 2) (tec : Nat), let b := s.begin; (b.alive = true) ∧ (b.canState i ≠ 2)) ∧
    (∃ (s : State) (i : Fin 2) (e : CanCounts), let b := s.begin; (b.alive = true) ∧ (b.canState i = 0 ∨ b.canState i = 3) ∧ (128 ≤ e.transmit ∨ 128 ≤ e.receive)) ∧
    (∃ (s : State) (i : Fin 2) (e : CanCounts), let b := s.begin; (b.alive = true) ∧ (b.canState i ≠ 2) ∧ (e.transmit < 128) ∧ (e.receive < 128)) ∧
    (∃ (s : State) (i : Fin 2) (e : CanCounts), let b := s.begin; (b.alive = true) ∧ (b.canState i = 1) ∧ (128 ≤ e.transmit ∨ 128 ≤ e.receive)) ∧
    (∃ (s : State) (i : Fin 2) (e : CanCounts), let b := s.begin; (b.alive = true) ∧ (b.canState i = 2) ∧ (b.canRecovers i = true) ∧ (e.transmit = 0) ∧ (e.receive = 0)) ∧
    (∃ (s : State) (i : Fin 2) (e : CanCounts), let b := s.begin; (b.alive = true) ∧ (b.canState i = 2) ∧ (b.canRecovers i = false ∨ e.transmit ≠ 0 ∨ e.receive ≠ 0)) ∧
    (∃ (s : State) (key v due : Nat), let b := s.begin; (b.alive = true) ∧ (b.mgmtWait = [(key, v, due)]) ∧ (due ≤ b.now)) ∧
    (∃ (s : State) (key v due : Nat), let b := s.begin; (b.alive = true) ∧ (b.mgmtWait = [(key, v, due)]) ∧ (b.now < due)) := by
  refine ⟨⟨Tests.at 4, 3, by decide +kernel⟩,
    ⟨Tests.at 4, 0, by decide +kernel⟩,
    ⟨Tests.at 4, 1, 0, by decide +kernel⟩,
    ⟨{ (Tests.at 4).wr Dict.MANAGEMENT_CAN_STATE 0 with now := 5000000000 }, 1, ⟨128, 0⟩, by decide +kernel⟩,
    ⟨{ (Tests.at 4).wr Dict.MANAGEMENT_CAN_STATE 4 with now := 5000000000 }, 1, ⟨127, 127⟩, by decide +kernel⟩,
    ⟨{ (Tests.at 4).wr Dict.MANAGEMENT_CAN_STATE 4 with now := 5000000000 }, 1, ⟨127, 128⟩, by decide +kernel⟩,
    ⟨{ (Tests.at 4).wr Dict.MANAGEMENT_CAN_STATE 8 with now := 5000000000 }, 1, ⟨0, 0⟩, by decide +kernel⟩,
    ⟨{ (Tests.at 4).wr Dict.MANAGEMENT_CAN_STATE 8 with now := 5000000000 }, 1, ⟨0, 1⟩, by decide +kernel⟩,
    ⟨{ Tests.at 4 with mgmtWait := [(0x227001, 1, 5000000000)] }, 0x227001, 1, 5000000000, by decide +kernel⟩,
    ⟨{ Tests.at 4 with mgmtWait := [(0x227001, 1, 5000000001)] }, 0x227001, 1, 5000000001, by decide +kernel⟩⟩

theorem test_wit_VideoInputs :
    (∃ (s : State) (k : Fin 12) (n : Fin 64), let b := s.begin.actBy k; (Safety.passesScalar b k Dict.INPUT_ENABLE n 0 1) ∧ (b.flag Dict.INPUT_ENABLE n = true)) ∧
    (∃ (s : State) (k : Fin 12) (n : Fin 64), let b := s.begin.actBy k; (Safety.passesScalar b k Dict.INPUT_ENABLE n 0 1) ∧ (b.flag Dict.INPUT_ENABLE n = false) ∧ (b.judgeInput n = none)) ∧
    (∃ (s : State) (k : Fin 12) (n : Fin 64) (r : _), let b := s.begin.actBy k; (Safety.passesScalar b k Dict.INPUT_ENABLE n 0 1) ∧ (b.flag Dict.INPUT_ENABLE n = false) ∧ (b.judgeInput n = some r)) ∧
    (∃ (s : State) (k : Fin 12) (n : Fin 64), let b := s.begin.actBy k; (Safety.passesScalar b k Dict.INPUT_ENABLE n 0 0) ∧ (b.flag Dict.INPUT_ENABLE n = true)) ∧
    (∃ (s : State) (k : Fin 12) (n : Fin 64), let b := s.begin.actBy k; (Safety.passesScalar b k Dict.INPUT_ENABLE n 0 0) ∧ (b.flag Dict.INPUT_ENABLE n = false)) ∧
    (∃ (s : State) (n : Fin 64) (f : InputFrame), let b := s.begin; let i := b.inputAt n; let v := (b.wr Dict.INPUT_MEASURED_RATE f.rate n).wr Dict.INPUT_PROTECTED f.isProtected.toNat n; (b.alive = true) ∧ (1 ≤ b.rd Dict.INPUT_HEALTH n) ∧ (b.rd Dict.INPUT_TRANSPORT n < 3) ∧ (v.rtpStepBad n f.rtp = false) ∧ (i.damaged = false) ∧ (f.damage = none)) ∧
    (∃ (s : State) (n : Fin 64) (f : InputFrame) (line : _), let b := s.begin; let i := b.inputAt n; let v := (b.wr Dict.INPUT_MEASURED_RATE f.rate n).wr Dict.INPUT_PROTECTED f.isProtected.toNat n; (b.alive = true) ∧ (1 ≤ b.rd Dict.INPUT_HEALTH n) ∧ (b.rd Dict.INPUT_TRANSPORT n < 3) ∧ (v.rtpStepBad n f.rtp = false) ∧ (i.damaged = false) ∧ (f.damage = some line)) ∧
    (∃ (s : State) (n line cause : Nat), s.frameDamaged n = false) ∧
    (∃ (s : State) (n : Fin 64) (m : Nat), let b := s.begin; let i := b.inputAt n; (b.alive = true) ∧ (1 ≤ b.rd Dict.INPUT_HEALTH n) ∧ (i.lastIntactAt + b.inputPeriod n ≤ b.timebase) ∧ (i.missing = m) ∧ (b.rd Dict.INPUT_HEALTH n = 2 ∨ b.rd Dict.INPUT_HEALTH n = 3) ∧ (1 ≤ m)) ∧
    (∃ (s : State) (n : Fin 64) (m : Nat), let b := s.begin; let i := b.inputAt n; (b.alive = true) ∧ (1 ≤ b.rd Dict.INPUT_HEALTH n) ∧ (i.lastIntactAt + b.inputPeriod n ≤ b.timebase) ∧ (i.missing = m) ∧ ((b.rd Dict.INPUT_HEALTH n ≠ 2 ∧ b.rd Dict.INPUT_HEALTH n ≠ 3) ∨ m = 0)) ∧
    (∃ (s : State) (n : Fin 64) (line : Nat), let b := s.begin; (b.alive = true) ∧ (1 ≤ b.rd Dict.INPUT_HEALTH n) ∧ (3 ≤ b.rd Dict.INPUT_TRANSPORT n)) ∧
    (∃ (s : State) (n : Fin 64) (line : Nat), let b := s.begin; (b.alive = true) ∧ (1 ≤ b.rd Dict.INPUT_HEALTH n) ∧ (b.rd Dict.INPUT_TRANSPORT n < 3)) ∧
    (∃ (s : State) (n : Fin 64) (path : Fin 2) (line : Nat), let b := s.begin; let st := b.rd Dict.INPUT_PATH_STATE n; let t := (b.inputAt n).pathTime path; (b.alive = true) ∧ (1 ≤ b.rd Dict.INPUT_HEALTH n) ∧ (bit st path = true) ∧ (t ≠ 0) ∧ (t - 1 + b.rd Dict.INPUT_GAP_TIMEOUT n * 1000 ≤ b.now) ∧ (b.rd Dict.INPUT_PORT_B n = 0xFF)) ∧
    (∃ (s : State) (n : Fin 64) (path : Fin 2) (line : Nat), let b := s.begin; let st := b.rd Dict.INPUT_PATH_STATE n; let t := (b.inputAt n).pathTime path; (b.alive = true) ∧ (1 ≤ b.rd Dict.INPUT_HEALTH n) ∧ (bit st path = true) ∧ (t ≠ 0) ∧ (b.now < t - 1 + b.rd Dict.INPUT_GAP_TIMEOUT n * 1000)) ∧
    (∃ (s : State) (n : Fin 64) (m : List Byte), let b := s.begin; (b.alive = true) ∧ (b.rd Dict.INPUT_HEALTH n = 4) ∧ (b.rd Dict.INPUT_TRANSPORT n ≤ 2 ∧ (b.inputAt n).stepBad = false ∨
      3 ≤ b.rd Dict.INPUT_TRANSPORT n ∧ b.formatDiffers n m = false)) ∧
    (∃ (s : State) (n : Fin 64) (p : RtpPacket), let b := s.begin; let st := b.rd Dict.INPUT_PATH_STATE n; let w := ((b.inc Dict.PORT_RX_FRAMES p.port).wr Dict.INPUT_PATH_STATE (putBit st 0 true) n).modInput n (fun i => { i with pathAt := Store.write (fun _ => 0) i.pathAt 0 (b.now + 1) }); let i := w.inputAt n; let seq := p.seq % 65536; (b.alive = true) ∧ (1 ≤ b.rd Dict.INPUT_HEALTH n) ∧ (p.port < 48) ∧ (2 ≤ b.rd Dict.PORT_STATE p.port) ∧ (b.pathOf n p = some 0) ∧ (b.rd Dict.INPUT_PORT_B n = 0xFF) ∧ (w.bufferOverflows n p = false) ∧ (i.buffer = []) ∧ (i.late seq = false) ∧ (i.nextSeq = seq + 1 ∨ i.nextSeq = 0)) ∧
    (∃ (s : State) (n : Fin 64) (p : RtpPacket), let b := s.begin; let st := b.rd Dict.INPUT_PATH_STATE n; let w := ((b.inc Dict.PORT_RX_FRAMES p.port).wr Dict.INPUT_PATH_STATE (putBit st 0 true) n).modInput n (fun i => { i with pathAt := Store.write (fun _ => 0) i.pathAt 0 (b.now + 1) }); let i := w.inputAt n; let seq := p.seq % 65536; (b.alive = true) ∧ (1 ≤ b.rd Dict.INPUT_HEALTH n) ∧ (p.port < 48) ∧ (2 ≤ b.rd Dict.PORT_STATE p.port) ∧ (b.pathOf n p = some 0) ∧ (b.rd Dict.INPUT_PORT_B n = 0xFF) ∧ (w.bufferOverflows n p = false) ∧ (i.buffer = []) ∧ (i.late seq = false) ∧ (i.nextSeq ≠ seq + 1) ∧ (i.nextSeq ≠ 0)) ∧
    (∃ (s : State) (n : Fin 64) (p : RtpPacket), let b := s.begin; let st := b.rd Dict.INPUT_PATH_STATE n; let w := ((b.inc Dict.PORT_RX_FRAMES p.port).wr Dict.INPUT_PATH_STATE (putBit st 0 true) n).modInput n (fun i => { i with pathAt := Store.write (fun _ => 0) i.pathAt 0 (b.now + 1) }); let i := w.inputAt n; let seq := p.seq % 65536; (b.alive = true) ∧ (1 ≤ b.rd Dict.INPUT_HEALTH n) ∧ (p.port < 48) ∧ (2 ≤ b.rd Dict.PORT_STATE p.port) ∧ (b.pathOf n p = some 0) ∧ (b.rd Dict.INPUT_PORT_B n = 0xFF) ∧ (w.bufferOverflows n p = false) ∧ (i.late seq = true)) ∧
    (∃ (s : State) (n : Fin 64) (p : RtpPacket), s.begin.pathOf n p = none) := by
  refine ⟨⟨(Tests.pool).wr Dict.INPUT_ENABLE 1 63, 11, 63, by decide +kernel⟩,
    ⟨((Tests.pool).wr Dict.INPUT_TRANSPORT 1 63).wr Dict.INPUT_PORT_A 0 63, 11, 63, by decide +kernel⟩,
    ⟨Tests.at 4, 11, 63, { abort := 134217762, detail := 18, fieldIndex := 9279, fieldSub := 2, entry := 4294967295, ownEvent := false }, by decide +kernel⟩,
    ⟨(Tests.pool).wr Dict.INPUT_ENABLE 1 63, 11, 63, by decide +kernel⟩,
    ⟨Tests.at 4, 11, 63, by decide +kernel⟩,
    ⟨(Tests.pool).wr Dict.INPUT_HEALTH 1 63, 63, ⟨⟨0, 0, []⟩, none, false, [], 50000, 0, false⟩, by decide +kernel⟩,
    ⟨(Tests.pool).wr Dict.INPUT_HEALTH 1 63, 63, ⟨⟨0, 0, []⟩, some 5, false, [], 50000, 0, false⟩, 5, by decide +kernel⟩,
    ⟨Tests.at 4, 0, 0, 0, by decide +kernel⟩,
    ⟨{ ((Tests.pool).wr Dict.INPUT_HEALTH 2 63).putInput 63 { Input.init with missing := 1 } with timebase := 1000000000 }, 63, 1, by decide +kernel⟩,
    ⟨{ ((Tests.pool).wr Dict.INPUT_HEALTH 2 63).putInput 63 { Input.init with missing := 0 } with timebase := 1000000000 }, 63, 0, by decide +kernel⟩,
    ⟨((Tests.pool).wr Dict.INPUT_HEALTH 1 63).wr Dict.INPUT_TRANSPORT 3 63, 63, 0, by decide +kernel⟩,
    ⟨((Tests.pool).wr Dict.INPUT_HEALTH 1 63).wr Dict.INPUT_TRANSPORT 2 63, 63, 0, by decide +kernel⟩,
    ⟨(((Tests.pool).wr Dict.INPUT_HEALTH 1 63).wr Dict.INPUT_PATH_STATE 2 63).putInput 63 { Input.init with pathAt := [(1, 4999000001)] }, 63, 1, 0, by decide +kernel⟩,
    ⟨(((Tests.pool).wr Dict.INPUT_HEALTH 1 63).wr Dict.INPUT_PATH_STATE 2 63).putInput 63 { Input.init with pathAt := [(1, 4999000002)] }, 63, 1, 0, by decide +kernel⟩,
    ⟨((Tests.pool).wr Dict.INPUT_HEALTH 4 63).wr Dict.INPUT_TRANSPORT 2 63, 63, [], by decide +kernel⟩,
    ⟨(((((Tests.pool).wr Dict.INPUT_HEALTH 1 63).wr Dict.INPUT_TRANSPORT 2 63).wr Dict.INPUT_PORT_A 47 63).wr Dict.PORT_STATE 2 47).putInput 63 { Input.init with nextSeq := 65536 }, 63, ⟨47, 0, 0, (Tests.at 4).rd Dict.INPUT_UDP_PORT_A 63, 96, 65535, 0, false⟩, by decide +kernel⟩,
    ⟨(((((Tests.pool).wr Dict.INPUT_HEALTH 1 63).wr Dict.INPUT_TRANSPORT 2 63).wr Dict.INPUT_PORT_A 47 63).wr Dict.PORT_STATE 2 47).putInput 63 { Input.init with nextSeq := 65535 }, 63, ⟨47, 0, 0, (Tests.at 4).rd Dict.INPUT_UDP_PORT_A 63, 96, 65535, 0, false⟩, by decide +kernel⟩,
    ⟨(((((Tests.pool).wr Dict.INPUT_HEALTH 1 63).wr Dict.INPUT_TRANSPORT 2 63).wr Dict.INPUT_PORT_A 47 63).wr Dict.PORT_STATE 2 47).putInput 63 { Input.init with nextSeq := 1 }, 63, ⟨47, 0, 0, (Tests.at 4).rd Dict.INPUT_UDP_PORT_A 63, 96, 65535, 0, false⟩, by decide +kernel⟩,
    ⟨((((Tests.pool).wr Dict.INPUT_HEALTH 1 63).wr Dict.INPUT_TRANSPORT 2 63).wr Dict.INPUT_PORT_A 47 63).wr Dict.PORT_STATE 2 47, 63, ⟨46, 0, 0, (Tests.at 4).rd Dict.INPUT_UDP_PORT_A 63, 96, 0, 0, false⟩, by decide +kernel⟩⟩

theorem test_wit_HostSurfaces :
    (∃ (s : State) (k : Fin 12) (n : Fin 32), let b := s.begin.actBy k; (Safety.passesScalar b k Dict.HOST_SOURCE_ENABLE n 0 1) ∧ (b.flag Dict.HOST_SOURCE_ENABLE n = false) ∧ (b.judgeSurface n = none)) ∧
    (∃ (s : State) (k : Fin 12) (n : Fin 32) (r : _), let b := s.begin.actBy k; (Safety.passesScalar b k Dict.HOST_SOURCE_ENABLE n 0 1) ∧ (b.flag Dict.HOST_SOURCE_ENABLE n = false) ∧ (b.judgeSurface n = some r)) ∧
    (∃ (b : State) (n : Nat), b.rd Dict.HOST_SOURCE_STRIDE n % 64 ≠ 0) ∧
    (∃ (s : State) (k : Fin 12) (n : Fin 32), let b := s.begin.actBy k; Safety.passesScalar b k Dict.HOST_SOURCE_ENABLE n 0 0) ∧
    (∃ (s : State) (k : Fin 12) (n : Fin 32) (v : Nat), let b := s.begin.actBy k; (Safety.passesScalar b k Dict.HOST_SOURCE_FLIP n 0 v) ∧ (b.rd Dict.HOST_SOURCE_FLIP_STATE n ≠ 0)) ∧
    (∃ (s : State) (k : Fin 12) (n : Fin 32) (v : Nat), let b := s.begin.actBy k; (Safety.passesScalar b k Dict.HOST_SOURCE_FLIP n 0 v) ∧ (b.rd Dict.HOST_SOURCE_FLIP_STATE n = 0) ∧ (b.rd Dict.HOST_SOURCE_FRONT n = v)) ∧
    (∃ (s : State) (k : Fin 12) (n : Fin 32) (v : Nat), let b := s.begin.actBy k; (Safety.passesScalar b k Dict.HOST_SOURCE_FLIP n 0 v) ∧ (b.rd Dict.HOST_SOURCE_FLIP_STATE n = 0) ∧ (b.rd Dict.HOST_SOURCE_FRONT n ≠ v) ∧ (b.rd Dict.HOST_SOURCE_LOCATION n = 0)) ∧
    (∃ (s : State) (k : Fin 12) (n : Fin 32) (v : Nat), let b := s.begin.actBy k; (Safety.passesScalar b k Dict.HOST_SOURCE_FLIP n 0 v) ∧ (b.rd Dict.HOST_SOURCE_FLIP_STATE n = 0) ∧ (b.rd Dict.HOST_SOURCE_FRONT n ≠ v) ∧ (b.rd Dict.HOST_SOURCE_LOCATION n = 1)) ∧
    (∃ (s : State) (n : Fin 32) (data : List Byte), let b := s.begin; let h := b.hostAt n; (b.alive = true) ∧ (b.rd Dict.HOST_SOURCE_FLIP_STATE n = 2) ∧ (h.want = 0)) ∧
    (∃ (s : State) (n : Fin 32) (data : List Byte), let b := s.begin; let h := b.hostAt n; (b.alive = true) ∧ (b.rd Dict.HOST_SOURCE_FLIP_STATE n = 2) ∧ (h.want ≠ 0)) ∧
    (∃ (s : State) (n : Fin 32) (status : Nat), let b := s.begin; (b.alive = true) ∧ (b.rd Dict.HOST_SOURCE_FLIP_STATE n = 2)) ∧
    (∃ (s : State) (n : Fin 32) (x readers rest : _), let b := s.begin; let h := b.hostAt n; (b.alive = true) ∧ (h.releases = (x, readers) :: rest) ∧ (readers.any b.readsOld = false)) ∧
    (∃ (s : State) (n : Fin 32) (x readers rest : _), let b := s.begin; let h := b.hostAt n; (b.alive = true) ∧ (h.releases = (x, readers) :: rest) ∧ (readers.any b.readsOld = true)) ∧
    (∃ (s : State) (n : Fin 32), (s.begin.hostAt n).releases = []) := by
  refine ⟨⟨(Tests.pool).wr Dict.HOST_SOURCE_BUFFER_ADDR_1 16777216 31, 11, 31, by decide +kernel⟩,
    ⟨Tests.at 4, 11, 31, { abort := 134217762, detail := 18, fieldIndex := 9311, fieldSub := 8, entry := 4294967295, ownEvent := false }, by decide +kernel⟩,
    ⟨(Tests.pool).wr Dict.HOST_SOURCE_STRIDE 7681 31, 31, by decide +kernel⟩,
    ⟨Tests.at 4, 11, 31, by decide +kernel⟩,
    ⟨(Tests.pool).wr Dict.HOST_SOURCE_FLIP_STATE 1 31, 11, 31, 0, by decide +kernel⟩,
    ⟨Tests.at 4, 11, 31, 0, by decide +kernel⟩,
    ⟨Tests.at 4, 11, 31, 1, by decide +kernel⟩,
    ⟨(Tests.pool).wr Dict.HOST_SOURCE_LOCATION 1 31, 11, 31, 1, by decide +kernel⟩,
    ⟨((Tests.pool).wr Dict.HOST_SOURCE_FLIP_STATE 2 31).putHost 31 { HostSurf.init with want := 0 }, 31, [], by decide +kernel⟩,
    ⟨((Tests.pool).wr Dict.HOST_SOURCE_FLIP_STATE 2 31).putHost 31 { HostSurf.init with want := 1 }, 31, [], by decide +kernel⟩,
    ⟨(Tests.pool).wr Dict.HOST_SOURCE_FLIP_STATE 2 31, 31, 0, by decide +kernel⟩,
    ⟨(Tests.at 4).putHost 31 { HostSurf.init with releases := [(0, [7])] }, 31, 0, [7], [], by decide +kernel⟩,
    ⟨((Tests.at 4).putHost 31 { HostSurf.init with releases := [(0, [7])] }).putCanvas 7 { Canvas.init with running := true, composing := true }, 31, 0, [7], [], by decide +kernel⟩,
    ⟨Tests.at 4, 31, by decide +kernel⟩⟩

theorem test_wit_PocketPlayers :
    (∃ (s : State) (k : Fin 12) (n : Fin 32), let b := s.begin.actBy k; let w := b.wr Dict.POCKET_PLAYER_ENABLE 1 n; (Safety.passesScalar b k Dict.POCKET_PLAYER_ENABLE n 0 1) ∧ (w.ftgLatches (w.rd Dict.POCKET_PLAYER_FTG n) = true ∨ (b.playerAt n).on = true)) ∧
    (∃ (s : State) (k : Fin 12) (n : Fin 32), let b := s.begin.actBy k; let w := b.wr Dict.POCKET_PLAYER_ENABLE 1 n; (Safety.passesScalar b k Dict.POCKET_PLAYER_ENABLE n 0 1) ∧ (w.ftgLatches (w.rd Dict.POCKET_PLAYER_FTG n) = false) ∧ ((b.playerAt n).on = false)) ∧
    (∃ (s : State) (k : Fin 12) (n : Fin 32), let b := s.begin.actBy k; let w := b.wr Dict.POCKET_PLAYER_ENABLE 0 n; (Safety.passesScalar b k Dict.POCKET_PLAYER_ENABLE n 0 0) ∧ (w.ftgLatches (w.rd Dict.POCKET_PLAYER_FTG n) = true)) ∧
    (∃ (s : State) (k : Fin 12) (n : Fin 32), let b := s.begin.actBy k; let w := b.wr Dict.POCKET_PLAYER_ENABLE 0 n; (Safety.passesScalar b k Dict.POCKET_PLAYER_ENABLE n 0 0) ∧ (w.ftgLatches (w.rd Dict.POCKET_PLAYER_FTG n) = false) ∧ ((b.playerAt n).on = true)) ∧
    (∃ (s : State) (k : Fin 12) (n : Fin 32), let b := s.begin.actBy k; Safety.passesScalar b k Dict.POCKET_PLAYER_TRANSPORT n 0 0) ∧
    (∃ (s : State) (k : Fin 12) (n : Fin 32), let b := s.begin.actBy k; Safety.passesScalar b k Dict.POCKET_PLAYER_TRANSPORT n 0 4) ∧
    (∃ (s : State) (k : Fin 12) (n : Fin 32), let b := s.begin.actBy k; (b.playRefused n = none) ∧ (Safety.passesScalar b k Dict.POCKET_PLAYER_TRANSPORT n 0 1)) ∧
    (∃ (s : State) (k : Fin 12) (n : Fin 32), let b := s.begin.actBy k; (b.playRefused n = none) ∧ (Safety.passesScalar b k Dict.POCKET_PLAYER_TRANSPORT n 0 2)) ∧
    (∃ (s : State) (k : Fin 12) (n : Fin 32), let b := s.begin.actBy k; (b.playRefused n = none) ∧ (Safety.passesScalar b k Dict.POCKET_PLAYER_TRANSPORT n 0 3)) ∧
    (∃ (s : State) (k : Fin 12) (n : Fin 32), let b := s.begin.actBy k; let clip := b.askedClip n; (overBudget (b.rd Dict.POCKET_READ_BUDGET 0 clip.drive) (addRate (b.readClaim n clip.drive) clip.rateBytes) = true) ∧ (Safety.passesScalar b k Dict.POCKET_PLAYER_TRANSPORT n 0 1)) ∧
    (∃ (s : State) (k : Fin 12) (n : Fin 32), let b := s.begin.actBy k; let clip := b.askedClip n; (overBudget (b.rd Dict.POCKET_READ_BUDGET 0 clip.drive) (addRate (b.readClaim n clip.drive) clip.rateBytes) = true) ∧ (Safety.passesScalar b k Dict.POCKET_PLAYER_TRANSPORT n 0 2)) ∧
    (∃ (s : State) (k : Fin 12) (n : Fin 32), let b := s.begin.actBy k; let clip := b.askedClip n; (overBudget (b.rd Dict.POCKET_READ_BUDGET 0 clip.drive) (addRate (b.readClaim n clip.drive) clip.rateBytes) = true) ∧ (Safety.passesScalar b k Dict.POCKET_PLAYER_TRANSPORT n 0 3)) ∧
    (∃ (s : State) (n : Fin 32) (frame : Nat) (p : Picture) (audio : List Int), let b := s.begin; let a := b.playerAt n; (b.alive = true) ∧ (b.rd Dict.POCKET_PLAYER_HEALTH n = 2) ∧ (b.rd Dict.POCKET_PLAYER_PLAY_STATE n = 1) ∧ (frame < (b.playerClip n).frames) ∧ (b.aheadOf n frame a.startFrame = true) ∧ (a.held.any (fun e => e.1 == frame) = false)) := by
  refine ⟨⟨(Tests.at 4).putPlayer 31 { Player.init with on := true }, 11, 31, by decide +kernel⟩,
    ⟨Tests.at 4, 11, 31, by decide +kernel⟩,
    ⟨Tests.canvas Canvas.init, 11, 31, by decide +kernel⟩,
    ⟨(Tests.at 4).putPlayer 31 { Player.init with on := true }, 11, 31, by decide +kernel⟩,
    ⟨Tests.at 4, 11, 31, by decide +kernel⟩,
    ⟨Tests.at 4, 11, 31, by decide +kernel⟩,
    ⟨Tests.at 4, 11, 31, by decide +kernel⟩,
    ⟨Tests.at 4, 11, 31, by decide +kernel⟩,
    ⟨Tests.at 4, 11, 31, by decide +kernel⟩,
    ⟨{ Tests.at 4 with pocket := { (Tests.at 4).pocket with directory := [((Tests.at 4).rd Dict.POCKET_PLAYER_CLIP 31, { Clip.init with frames := 100, frameBlocks := 1000000, rateNum := 60, rateDen := 1 })] } }, 11, 31, by decide +kernel⟩,
    ⟨{ Tests.at 4 with pocket := { (Tests.at 4).pocket with directory := [((Tests.at 4).rd Dict.POCKET_PLAYER_CLIP 31, { Clip.init with frames := 100, frameBlocks := 1000000, rateNum := 60, rateDen := 1 })] } }, 11, 31, by decide +kernel⟩,
    ⟨{ Tests.at 4 with pocket := { (Tests.at 4).pocket with directory := [((Tests.at 4).rd Dict.POCKET_PLAYER_CLIP 31, { Clip.init with frames := 100, frameBlocks := 1000000, rateNum := 60, rateDen := 1 })] } }, 11, 31, by decide +kernel⟩,
    ⟨(({ Tests.at 4 with pocket := { (Tests.at 4).pocket with directory := [((Tests.at 4).rd Dict.POCKET_PLAYER_CLIP 31, { Clip.init with frames := 100, frameBlocks := 1000000, rateNum := 60, rateDen := 1 })] } }).wr Dict.POCKET_PLAYER_HEALTH 2 31).wr Dict.POCKET_PLAYER_PLAY_STATE 1 31, 31, 0, ⟨0, 0, []⟩, [], by decide +kernel⟩⟩

theorem test_wit_CommitReceipt :
    (∃ (s : State) (k : Fin 12) (h : Fin 32), let b := s.begin.actBy k; Safety.passesScalar b k Dict.HEAD_COMMIT_COMMIT h 0 1) ∧
    (∃ (s : State) (k : Fin 12) (c : Fin 8), let b := s.begin.actBy k; Safety.passesScalar b k Dict.CANVAS_COMMIT_COMMIT c 0 1) ∧
    (∃ (s : State) (k : Fin 12), let b := s.begin.actBy k; Safety.passesScalar b k Dict.STITCH_GROUP_COMMIT 0 0 1) ∧
    (∃ (s : State) (h k : Nat), s.deferredWrites = []) ∧
    (∃ (s : State) (k : Fin 12) (c : Fin 8), let b := s.begin.actBy k; Safety.passesScalar b k Dict.CANVAS_COMMIT_COMMIT c 0 2) ∧
    (∃ (s : State) (k : Fin 12) (h : Fin 32), let b := s.begin.actBy k; Safety.passesScalar b k Dict.HEAD_COMMIT_COMMIT h 0 2) := by
  refine ⟨⟨Tests.at 4, 11, 31, by decide +kernel⟩,
    ⟨Tests.at 4, 11, 7, by decide +kernel⟩,
    ⟨Tests.at 4, 11, by decide +kernel⟩,
    ⟨Tests.at 4, 0, 0, by decide +kernel⟩,
    ⟨Tests.at 4, 11, 7, by decide +kernel⟩,
    ⟨Tests.at 4, 11, 31, by decide +kernel⟩⟩

theorem test_wit_LatchesAreNext :
    (∃ (s : State) (f t : Nat) (i : _), t ≤ gridAt (s.ftgNum f) (s.ftgDen f) (s.rd Dict.FTG_OFFSET f) i) ∧
    (∃ (s : State) (h t : Nat) (i : _), t ≤ gridAt (s.headNum h) (s.headDen h) (s.headOffset h) i) ∧
    (∃ (s : State) (h t i : Nat), (s.headRate h = 1) ∧ (t < gridAt (s.headNum h) (s.headDen h) (s.headOffset h + s.flipOffset h) i)) ∧
    (∃ (s : State) (c t t' : Nat), (s.leadHead c = none) ∧ (t ≤ t')) := by
  refine ⟨⟨Tests.at 4, 0, 0, 0, by decide +kernel⟩,
    ⟨Tests.at 4, 0, 0, 0, by decide +kernel⟩,
    ⟨Tests.at 4, 0, 0, 0, by decide +kernel⟩,
    ⟨Tests.at 4, 0, 0, 0, by decide +kernel⟩⟩

theorem test_wit_CommitAcknowledged :
    (∃ (s : State) (m : Commit) (rest : List Commit) (r : Refuse), let b := s.begin; let u := { b.actBy m.sess with validating := rest }; let n := { m with ack := b.timebase }; (b.dictUp = true) ∧ (b.validating = m :: rest) ∧ (u.judgeCommit n = some r)) ∧
    (∃ (s : State) (m : Commit) (r : Refuse), (m.kind = 1) ∧ (m.udpSess = 0xFF) ∧ (m.retime = none)) ∧
    (∃ (s : State) (m : Commit), (m.grouped = true) ∧ (m.members = [])) ∧
    (∃ (s : State) (m : Commit), (m.members ≠ []) ∧ (m.members.any (fun x => s.groupPending x.1 x.2) = true)) ∧
    (∃ (s : State) (m : Commit) (rest : List Commit), let b := s.begin; let u := { b.actBy m.sess with validating := rest }; let n := { m with ack := b.timebase }; (b.dictUp = true) ∧ (b.validating = m :: rest) ∧ (u.judgeCommit n = none) ∧ (m.kind = 1) ∧ (m.canvases = 0) ∧ (m.udpSess = 0xFF)) ∧
    (∃ (s : State) (m : Commit), let k := m.kind; let n := m.num; (m.retime = none) ∧ (s.scopeRuns k n = false)) ∧
    (∃ (s : State) (m : Commit), let k := m.kind; let n := m.num; let aim := s.scopeLatch k n m.receipt; let land := s.scopeLatch k n m.ack; (m.retime = none) ∧ (s.scopeRuns k n = true) ∧ (land ≤ aim)) ∧
    (∃ (s : State) (m : Commit), let k := m.kind; let n := m.num; let aim := s.scopeLatch k n m.receipt; let land := s.scopeLatch k n m.ack; (m.retime = none) ∧ (s.scopeRuns k n = true) ∧ (aim < land) ∧ (k = 1)) ∧
    (∃ (s : State) (old : Commit) (h : Nat), s.pendingCommits.find? (fun e => e.1 == 64 + h) = some (64 + h, old)) ∧
    (∃ (s : State), s.begin.validating = []) := by
  refine ⟨⟨{ Tests.at 4 with validating := [{ Tests.commit with grouped := true }] }, { Tests.commit with grouped := true }, [], { abort := 134217762, detail := 23, fieldIndex := 10352, fieldSub := 1, entry := 4294967295, ownEvent := false }, by decide +kernel⟩,
    ⟨Tests.at 4, Tests.commit, .rule 0x17, by decide +kernel⟩,
    ⟨Tests.at 4, { Tests.commit with grouped := true }, by decide +kernel⟩,
    ⟨{ Tests.at 4 with pendingCommits := [(64 + 31, { Tests.commit with grouped := true, heads := 2147483648 })] }, { Tests.commit with grouped := true, heads := 2147483648 }, by decide +kernel⟩,
    ⟨{ Tests.at 4 with validating := [Tests.commit] }, Tests.commit, [], by decide +kernel⟩,
    ⟨Tests.at 4, Tests.commit, by decide +kernel⟩,
    ⟨(Tests.at 4).putHead 31 { Head.init with running := true }, Tests.commit, by decide +kernel⟩,
    ⟨(Tests.at 4).putHead 31 { Head.init with running := true }, { Tests.commit with ack := 1000000000 }, by decide +kernel⟩,
    ⟨{ Tests.at 4 with pendingCommits := [(64 + 31, Tests.commit)] }, Tests.commit, 31, by decide +kernel⟩,
    ⟨Tests.at 4, by decide +kernel⟩⟩

theorem test_wit_RoutesAndSwitches :
    (∃ (s : State) (k : Fin 12) (data : List Byte), let b := s.begin.actBy k; let w := b.window k Dict.ROUTE_CONTROL_TABLE_WINDOW; let entries := chunks 32 data.length data; let t := putEntries State.writeRoute b w entries; (Safety.passes b k Dict.ROUTE_TABLE_DATA 0 0 data) ∧ (firstBad (b.judgeRoute t) w entries = none)) ∧
    (∃ (s : State) (k : Fin 12) (data : List Byte) (r : _), let b := s.begin.actBy k; let w := b.window k Dict.ROUTE_CONTROL_TABLE_WINDOW; let entries := chunks 32 data.length data; let t := putEntries State.writeRoute b w entries; (Safety.passes b k Dict.ROUTE_TABLE_DATA 0 0 data) ∧ (firstBad (b.judgeRoute t) w entries = some r)) ∧
    (∃ (s t : State) (k : Nat) (e : List Byte), s.routeActive k = true) ∧
    (∃ (s t : State) (k : Nat) (e : List Byte), (s.routeActive k = false) ∧ ((Route.ofBytes e).valid = true) ∧ ((Route.ofBytes e).inRange = true) ∧ (t.routes.any (fun x => x.1 != k && (Route.ofBytes x.2).same (Route.ofBytes e)) = true)) ∧
    (∃ (s t : State) (k : Nat) (e : List Byte), (s.routeActive k = false) ∧ ((Route.ofBytes e).valid = true) ∧ ((Route.ofBytes e).inRange = true) ∧ (t.routes.any (fun x => x.1 != k && (Route.ofBytes x.2).same (Route.ofBytes e)) = false)) ∧
    (∃ (s : State) (k : Fin 12) (v : Nat), let b := s.begin.actBy k; let o := b.rd Dict.ROUTE_CONTROL_SWITCH_OUTPUT; let i := b.rd Dict.ROUTE_CONTROL_SWITCH_ENTRY; (Safety.passesScalar b k Dict.ROUTE_CONTROL_SWITCH 0 0 v) ∧ (b.judgeSwitch o i = none)) ∧
    (∃ (s : State) (k : Fin 12) (v : Nat) (r : _), let b := s.begin.actBy k; let o := b.rd Dict.ROUTE_CONTROL_SWITCH_OUTPUT; let i := b.rd Dict.ROUTE_CONTROL_SWITCH_ENTRY; (Safety.passesScalar b k Dict.ROUTE_CONTROL_SWITCH 0 0 v) ∧ (b.judgeSwitch o i = some r)) ∧
    (∃ (s : State) (o k : Nat), (k ≠ 0xFFFF) ∧ ((s.route k).valid = false ∨ (s.route k).output ≠ o)) ∧
    (∃ (s : State) (o : Fin 8192) (q : SwitchReq), let b := s.begin; let old := b.activeAt o; (b.alive = true) ∧ (b.switchOf o = some q) ∧ (q.at_ ≤ b.timebase) ∧ (q.entry ≠ 0xFFFF) ∧ ((b.route q.entry).kind = 1 ∨ (b.route q.entry).kind = 5) ∧ (old ≠ 0xFFFF) ∧ (cleanSwitch q.window (b.flowAt old) (b.flowAt q.entry) = true)) ∧
    (∃ (s : State) (o : Fin 8192) (q : SwitchReq), let b := s.begin; let old := b.activeAt o; (b.alive = true) ∧ (b.switchOf o = some q) ∧ (q.at_ ≤ b.timebase) ∧ (q.entry ≠ 0xFFFF) ∧ ((b.route q.entry).kind = 1 ∨ (b.route q.entry).kind = 5) ∧ (old = 0xFFFF ∨ cleanSwitch q.window (b.flowAt old) (b.flowAt q.entry) = false)) ∧
    (∃ (s : State) (o : Fin 8192) (m : Nat) (q : SwitchReq), let b := s.begin; (b.alive = true) ∧ (b.switchOf o = some q) ∧ (q.entry ≠ 0xFFFF) ∧ (2 ≤ (b.route q.entry).kind) ∧ ((b.route q.entry).kind ≤ 4) ∧ ((b.route q.entry).follow = 0xFFFF) ∧ (q.at_ ≤ b.timebase)) ∧
    (∃ (s : State) (o k : Nat) (p : _), p ≠ o) ∧
    (∃ (s : State) (o k : Nat), (k < 16384) ∧ ((s.route k).output = o) ∧ ((s.takeEntry o k).routeActive k = true) ∧ ((s.route k).kind = 1 ∨ (s.route k).kind = 5)) ∧
    (∃ (s : State) (p : Fin 48) (dest source udp seq : Nat) (start : Bool) (lines full : Nat) (payload : List Byte) (k : Nat), let b := s.begin; let seen := (b.inc Dict.PORT_RX_FRAMES p).observe k start lines; (b.alive = true) ∧ (b.rd Dict.PORT_STATE p = 2 ∨ b.rd Dict.PORT_STATE p = 3) ∧ (b.matchRoute p dest source udp = some k) ∧ (seen.forwards k start = true)) ∧
    (∃ (s : State) (p : Fin 48) (dest source udp seq : Nat) (start : Bool) (lines full : Nat) (payload : List Byte) (k : Nat), let b := s.begin; let seen := (b.inc Dict.PORT_RX_FRAMES p).observe k start lines; (b.alive = true) ∧ (b.rd Dict.PORT_STATE p = 2 ∨ b.rd Dict.PORT_STATE p = 3) ∧ (b.matchRoute p dest source udp = some k) ∧ (seen.forwards k start = false)) ∧
    (∃ (s : State) (k : Fin 16384), let b := s.begin; let f := b.flowAt k; (b.alive = true) ∧ (b.routeActive k = true) ∧ (f.lost = false) ∧ (f.lastPacket - 1 + 100000000 ≤ b.now)) ∧
    (∃ (s : State) (k : Fin 16384), let b := s.begin; let f := b.flowAt k; (b.alive = true) ∧ (b.routeActive k = true) ∧ (f.lost = false) ∧ (b.now < f.lastPacket - 1 + 100000000)) ∧
    (∃ (s : State) (k : Fin 12) (p : Fin 48) (v : Nat), let b := s.begin.actBy k; let rate := b.routedRate 8192 16384 p; (Safety.passesScalar b k Dict.ROUTE_CONTROL_RESERVE 0 p v) ∧ (b.pixelOver p v = false) ∧ (rate = 0 ∨ b.routesOver p v rate = false)) ∧
    (∃ (s : State) (k : Fin 12) (p : Fin 48) (v : Nat), let b := s.begin.actBy k; (Safety.passesScalar b k Dict.ROUTE_CONTROL_RESERVE 0 p v) ∧ (b.pixelOver p v = true)) := by
  refine ⟨⟨Tests.at 4, 11, [], by decide +kernel⟩,
    ⟨Tests.route 1 7, 11, ((Tests.route 1 7).routeAt 7), { abort := 134217762, detail := 35, fieldIndex := 0, fieldSub := 0, entry := 0, ownEvent := false }, by decide +kernel⟩,
    ⟨Tests.route 1 7, Tests.route 1 7, 7, [], by decide +kernel⟩,
    ⟨Tests.at 4, Tests.route 1 7, 8, ((Tests.route 1 7).routeAt 7), by decide +kernel⟩,
    ⟨Tests.at 4, Tests.at 4, 8, ((Tests.route 1 7).routeAt 7), by decide +kernel⟩,
    ⟨Tests.at 4, 11, 1, by decide +kernel⟩,
    ⟨(Tests.at 4).wr Dict.ROUTE_CONTROL_SWITCH_ENTRY 7, 11, 1, { abort := 134217762, detail := 36, fieldIndex := 9473, fieldSub := 3, entry := 4294967295, ownEvent := false }, by decide +kernel⟩,
    ⟨Tests.at 4, 0, 0, by decide +kernel⟩,
    ⟨{ (({ Tests.route 1 0xFFFF with switches := [(8191, ⟨7, 0, 0, 0, 0⟩)] }).putFlow 7 { Flow.init with lastPacket := 1, starts := (List.range 65).map (fun i => (64 - i) * 1000), lineCounts := List.replicate 64 1000 }).putFlow 8 { Flow.init with lastPacket := 1, starts := (List.range 65).map (fun i => (64 - i) * 1000), lineCounts := List.replicate 64 1000 } with activeEntry := [(8191, 8)] }, 8191, ⟨7, 0, 0, 0, 0⟩, by decide +kernel⟩,
    ⟨{ Tests.route 1 0xFFFF with switches := [(8191, ⟨7, 0, 0, 0, 0⟩)] }, 8191, ⟨7, 0, 0, 0, 0⟩, by decide +kernel⟩,
    ⟨{ Tests.route 2 0xFFFF with switches := [(8191, ⟨7, 0, 0, 0, 0⟩)] }, 8191, 0, ⟨7, 0, 0, 0, 0⟩, by decide +kernel⟩,
    ⟨Tests.at 4, 0, 0, 1, by decide +kernel⟩,
    ⟨Tests.route 1 0xFFFF, 8191, 7, by decide +kernel⟩,
    ⟨(Tests.route 1 7).wr Dict.PORT_STATE 2 47, 47, 1, 0, 2, 0, false, 0, 0, [], 7, by decide +kernel⟩,
    ⟨(Tests.route 1 0xFFFF).wr Dict.PORT_STATE 2 47, 47, 1, 0, 2, 0, false, 0, 0, [], 7, by decide +kernel⟩,
    ⟨(Tests.route 1 7).putFlow 7 { Flow.init with lastPacket := 4900000001 }, 7, by decide +kernel⟩,
    ⟨(Tests.route 1 7).putFlow 7 { Flow.init with lastPacket := 4900000002 }, 7, by decide +kernel⟩,
    ⟨Tests.at 4, 11, 47, 0, by decide +kernel⟩,
    ⟨(((((Tests.at 4).wr Dict.HEAD_ENABLE 1 31).wr Dict.HEAD_TYPE 5 31).wr Dict.HEAD_OUTPUT 47 31).wr Dict.HEAD_H_ACTIVE 1920 31).wr Dict.HEAD_V_ACTIVE 1080 31, 11, 47, 1000, by decide +kernel⟩⟩

theorem test_wit_TablesAndMotion :
    (∃ (s : State) (k : Fin 12) (data : List Byte), let b := s.begin.actBy k; let n := b.window k Dict.COEFF_BANKS_BANK_WINDOW; (Safety.passes b k Dict.COEFF_BANKS_BANK_DATA 0 0 data) ∧ (n < 4)) ∧
    (∃ (s : State) (k : Fin 12) (data : List Byte), let b := s.begin.actBy k; let n := b.window k Dict.COEFF_BANKS_BANK_WINDOW; (Safety.passes b k Dict.COEFF_BANKS_BANK_DATA 0 0 data) ∧ (4 ≤ n) ∧ (bit (b.inUse.rd Dict.COEFF_BANKS_BANK_IN_USE) n = true)) ∧
    (∃ (s : State) (k : Fin 12) (data : List Byte), let b := s.begin.actBy k; let n := b.window k Dict.COEFF_BANKS_BANK_WINDOW; (Safety.passes b k Dict.COEFF_BANKS_BANK_DATA 0 0 data) ∧ (4 ≤ n) ∧ (bit (b.inUse.rd Dict.COEFF_BANKS_BANK_IN_USE) n = false) ∧ (bankValid data = false)) ∧
    (∃ (s : State) (k : Fin 12) (data : List Byte), let b := s.begin.actBy k; let n := b.window k Dict.COEFF_BANKS_BANK_WINDOW; (Safety.passes b k Dict.COEFF_BANKS_BANK_DATA 0 0 data) ∧ (4 ≤ n) ∧ (bit (b.inUse.rd Dict.COEFF_BANKS_BANK_IN_USE) n = false) ∧ (bankValid data = true)) ∧
    (∃ (s : State) (k : Fin 12) (data : List Byte), let b := s.begin.actBy k; let n := b.window k Dict.COLOUR_LUTS_LUT_WINDOW; (Safety.passes b k Dict.COLOUR_LUTS_LUT_DATA 0 0 data) ∧ (n < 8)) ∧
    (∃ (s : State) (k : Fin 12) (data : List Byte), let b := s.begin.actBy k; let n := b.window k Dict.COLOUR_LUTS_LUT_WINDOW; (Safety.passes b k Dict.COLOUR_LUTS_LUT_DATA 0 0 data) ∧ (8 ≤ n) ∧ (bit (b.inUse.rd Dict.COLOUR_LUTS_LUT_IN_USE) n = true)) ∧
    (∃ (s : State) (k : Fin 12) (data : List Byte), let b := s.begin.actBy k; let n := b.window k Dict.COLOUR_LUTS_LUT_WINDOW; (Safety.passes b k Dict.COLOUR_LUTS_LUT_DATA 0 0 data) ∧ (8 ≤ n) ∧ (bit (b.inUse.rd Dict.COLOUR_LUTS_LUT_IN_USE) n = false)) ∧
    (∃ (s : State) (k : Fin 12) (data : List Byte), let b := s.begin.actBy k; let n := b.window k Dict.COLOUR_LUTS_LUT3D_WINDOW; (Safety.passes b k Dict.COLOUR_LUTS_LUT3D_DATA 0 0 data) ∧ (bit (b.inUse.rd Dict.COLOUR_LUTS_LUT3D_STATE) (4 + n) = true)) ∧
    (∃ (s : State) (k : Fin 12) (data : List Byte), let b := s.begin.actBy k; let n := b.window k Dict.COLOUR_LUTS_LUT3D_WINDOW; (Safety.passes b k Dict.COLOUR_LUTS_LUT3D_DATA 0 0 data) ∧ (bit (b.inUse.rd Dict.COLOUR_LUTS_LUT3D_STATE) (4 + n) = false)) ∧
    (∃ (s : State) (n : Fin 64) (x y : Frame) (l : List Frame) (at_ : Nat), let b := s.begin; let i := b.inputAt n; (b.alive = true) ∧ (i.frames = x :: y :: l) ∧ (b.pairNeeded n y.time = some at_) ∧ (b.flag Dict.INPUT_ENABLE n = true) ∧ (b.rd Dict.INPUT_TIMING_CLASS n = 2) ∧ (b.conversionOf n = 2) ∧ (x.number = y.number + 1) ∧ (i.estimateFrom ≤ x.number) ∧ (x.arrival ≤ b.timebase) ∧ (i.fields.any (fun f => f.pair == x.number) = false)) ∧
    (∃ (s : State) (n : Fin 64) (found : List (Int × Int)), let b := s.begin; (b.inputAt n).fields = []) ∧
    (∃ (s : State) (n : Fin 64) (found : List (Int × Int)) (f : VectorField), let b := s.begin; (b.alive = true) ∧ ((b.inputAt n).fields = [f]) ∧ (f.complete = false) ∧ ((b.stripsOf StripKind.estimate n).filter (fun a => a.slot == f.pair % 256) ≠ []) ∧ (((b.stripsOf StripKind.estimate n).filter (fun a => a.slot == f.pair % 256)).all (fun a => a.done) = true)) ∧
    (∃ (s : State) (k : Fin 12) (v : Nat), let b := s.begin.actBy k; Safety.passesScalar b k Dict.ENGINE_POOL_CLEAR_COUNTERS 0 0 v) := by
  refine ⟨⟨(Tests.at 4).modSess 11 (fun u => { u with windows := Store.write dictDefault u.windows Dict.COEFF_BANKS_BANK_WINDOW.key 3 }), 11, Tests.z 1024, by decide +kernel⟩,
    ⟨((Tests.at 4).modSess 11 (fun u => { u with windows := Store.write dictDefault u.windows Dict.COEFF_BANKS_BANK_WINDOW.key 31 })).wr Dict.LAYER_H_BANK 31 63, 11, Tests.z 1024, by decide +kernel⟩,
    ⟨(Tests.at 4).modSess 11 (fun u => { u with windows := Store.write dictDefault u.windows Dict.COEFF_BANKS_BANK_WINDOW.key 31 }), 11, leBytes 2 0x0800 ++ Tests.z 1022, by decide +kernel⟩,
    ⟨(Tests.at 4).modSess 11 (fun u => { u with windows := Store.write dictDefault u.windows Dict.COEFF_BANKS_BANK_WINDOW.key 31 }), 11, Tests.bank, ⟨by decide +kernel, by decide +kernel, by decide +kernel, Tests.bank_valid⟩⟩,
    ⟨(Tests.at 4).modSess 11 (fun u => { u with windows := Store.write dictDefault u.windows Dict.COLOUR_LUTS_LUT_WINDOW.key 7 }), 11, Tests.z 8192, by decide +kernel⟩,
    ⟨(((Tests.at 4).modSess 11 (fun u => { u with windows := Store.write dictDefault u.windows Dict.COLOUR_LUTS_LUT_WINDOW.key 15 })).wr Dict.COLOUR_LUTS_TONE_MODE 2 0 7).wr Dict.COLOUR_LUTS_TONE_LUT 15 0 7, 11, Tests.z 8192, by decide +kernel⟩,
    ⟨(Tests.at 4).modSess 11 (fun u => { u with windows := Store.write dictDefault u.windows Dict.COLOUR_LUTS_LUT_WINDOW.key 15 }), 11, Tests.z 8192, by decide +kernel⟩,
    ⟨((Tests.at 4).modSess 11 (fun u => { u with windows := Store.write dictDefault u.windows Dict.COLOUR_LUTS_LUT3D_WINDOW.key 3 })).wr Dict.LAYER_LUT3D 4 63, 11, Tests.z 29478, by decide +kernel⟩,
    ⟨(Tests.at 4).modSess 11 (fun u => { u with windows := Store.write dictDefault u.windows Dict.COLOUR_LUTS_LUT3D_WINDOW.key 3 }), 11, Tests.z 29478, by decide +kernel⟩,
    ⟨((((((((Tests.at 4).putInput 63 { Input.init with frames := [⟨2, Raster.init, 0, 40⟩, ⟨1, Raster.init, 0, 20⟩] }).wr Dict.INPUT_ENABLE 1 63).wr Dict.INPUT_TIMING_CLASS 2 63).wr Dict.INPUT_CONVERSION 2 63).putCanvas 7 { Canvas.init with running := true }).wr Dict.LAYER_SOURCE_KIND 1 63).wr Dict.LAYER_SOURCE_NUM 63 63).wr Dict.LAYER_ENABLE 1 63, 63, ⟨2, Raster.init, 0, 40⟩, ⟨1, Raster.init, 0, 20⟩, [], ((((((((((Tests.at 4).putInput 63 { Input.init with frames := [⟨2, Raster.init, 0, 40⟩, ⟨1, Raster.init, 0, 20⟩] }).wr Dict.INPUT_ENABLE 1 63).wr Dict.INPUT_TIMING_CLASS 2 63).wr Dict.INPUT_CONVERSION 2 63).putCanvas 7 { Canvas.init with running := true }).wr Dict.LAYER_SOURCE_KIND 1 63).wr Dict.LAYER_SOURCE_NUM 63 63).wr Dict.LAYER_ENABLE 1 63).begin.pairNeeded 63 20).getD 0, by decide +kernel⟩,
    ⟨Tests.at 4, 63, [], by decide +kernel⟩,
    ⟨{ (Tests.at 4).putInput 63 { Input.init with fields := [⟨255, false, false, [], 0, 0⟩] } with strips := [{ Strip.fresh .estimate 63 255 0 0 16 0 24 true with done := true }] }, 63, [], ⟨255, false, false, [], 0, 0⟩, by decide +kernel⟩,
    ⟨Tests.at 4, 11, 1, by decide +kernel⟩⟩

theorem test_wit_CanvasesAndWriteBack :
    (∃ (s : State) (k : Fin 12) (c : Fin 8), let b := s.begin.actBy k; (Safety.passesScalar b k Dict.CANVAS_ENABLE c 0 1) ∧ (b.flag Dict.CANVAS_ENABLE c = true)) ∧
    (∃ (s : State) (k : Fin 12) (c : Fin 8), let b := s.begin.actBy k; let on := b.wr Dict.CANVAS_ENABLE 1 c; (Safety.passesScalar b k Dict.CANVAS_ENABLE c 0 1) ∧ (b.flag Dict.CANVAS_ENABLE c = false) ∧ (b.devState = 4 → firstOf (on.canvasRules c) = none)) ∧
    (∃ (s : State) (k : Fin 12) (c : Fin 8) (r : _), let b := s.begin.actBy k; let on := b.wr Dict.CANVAS_ENABLE 1 c; (Safety.passesScalar b k Dict.CANVAS_ENABLE c 0 1) ∧ (b.flag Dict.CANVAS_ENABLE c = false) ∧ (b.devState = 4) ∧ (firstOf (on.canvasRules c) = some r)) ∧
    (∃ (s : State) (k : Fin 12) (c : Fin 8), let b := s.begin.actBy k; let v := b.canvasAt c; (Safety.passesScalar b k Dict.CANVAS_ENABLE c 0 0) ∧ (v.running = true)) ∧
    (∃ (s : State) (k : Fin 12) (c : Fin 8), let b := s.begin.actBy k; let v := b.canvasAt c; (Safety.passesScalar b k Dict.CANVAS_ENABLE c 0 0) ∧ (v.running = false)) ∧
    (∃ (s : State) (c : Fin 8) (k : Fin 2), let b := s.begin; let v := b.canvasAt c; let due := Store.read (fun _ => 0) v.wbNext k; let done := Store.read (fun _ => ([], Raster.init)) v.wbDone k; let d := if due = 1 then done.1 else b.dom Dict.CANVAS_WB_DESC c k; let w := b.putCanvas c { v with wbNext := Store.write (fun _ => 0) v.wbNext k 0 }; (b.alive = true) ∧ (byteAt d 0 ≠ 0) ∧ (due ≠ 0) ∧ (w.wbAccepts d = false)) ∧
    (∃ (s : State) (c : Fin 8) (k : Fin 2), let b := s.begin; let v := b.canvasAt c; let due := Store.read (fun _ => 0) v.wbNext k; let done := Store.read (fun _ => ([], Raster.init)) v.wbDone k; let d := if due = 1 then done.1 else b.dom Dict.CANVAS_WB_DESC c k; let w := b.putCanvas c { v with wbNext := Store.write (fun _ => 0) v.wbNext k 0 }; (b.alive = true) ∧ (byteAt d 0 ≠ 0) ∧ (due ≠ 0) ∧ (w.wbAccepts d = true) ∧ (due = 1)) ∧
    (∃ (s : State) (c : Fin 8) (k : Fin 2), let b := s.begin; let v := b.canvasAt c; let due := Store.read (fun _ => 0) v.wbNext k; let done := Store.read (fun _ => ([], Raster.init)) v.wbDone k; let d := if due = 1 then done.1 else b.dom Dict.CANVAS_WB_DESC c k; let w := b.putCanvas c { v with wbNext := Store.write (fun _ => 0) v.wbNext k 0 }; (b.alive = true) ∧ (byteAt d 0 ≠ 0) ∧ (due ≠ 0) ∧ (w.wbAccepts d = true) ∧ (due ≠ 1)) ∧
    (∃ (b : State) (c k : Nat) (d : List Byte) (r : Raster), byteAt d 0 = 1) ∧
    (∃ (b : State) (c k : Nat) (d : List Byte) (r : Raster), byteAt d 0 = 3) ∧
    (∃ (b : State) (c k : Nat) (d : List Byte) (r : Raster), byteAt d 0 = 2) ∧
    (∃ (s : State) (c : Fin 8) (k : Fin 2), let b := s.begin; let due := Store.read (fun _ => 0) (b.canvasAt c).wbNext k; due = 0 ∨ (due ≠ 1 ∧ byteAt (b.dom Dict.CANVAS_WB_DESC c k) 0 = 0)) := by
  refine ⟨⟨(Tests.at 4).wr Dict.CANVAS_ENABLE 1 7, 11, 7, by decide +kernel⟩,
    ⟨Tests.at 4, 11, 7, by decide +kernel⟩,
    ⟨((Tests.at 4).wr Dict.CANVAS_ORDER_MODE 1 7).wr Dict.CANVAS_ORDER 0 7, 11, 7, { abort := 134217762, detail := 65, fieldIndex := 10247, fieldSub := 8, entry := 4294967295, ownEvent := false }, by decide +kernel⟩,
    ⟨(Tests.at 4).putCanvas 7 { Canvas.init with running := true }, 11, 7, by decide +kernel⟩,
    ⟨Tests.at 4, 11, 7, by decide +kernel⟩,
    ⟨((Tests.at 4).wrDom Dict.CANVAS_WB_DESC (2 :: Tests.z 47) 7 1).putCanvas 7 { Canvas.init with wbNext := [(1, 2)] }, 7, 1, by decide +kernel⟩,
    ⟨((Tests.at 4).wrDom Dict.CANVAS_WB_DESC (1 :: Tests.z 47) 7 1).putCanvas 7 { Canvas.init with wbNext := [(1, 1)], wbDone := [(1, (1 :: Tests.z 47, Raster.init))] }, 7, 1, by decide +kernel⟩,
    ⟨((Tests.at 4).wrDom Dict.CANVAS_WB_DESC (1 :: Tests.z 47) 7 1).putCanvas 7 { Canvas.init with wbNext := [(1, 2)], wbDone := [(1, ([], Raster.init))] }, 7, 1, by decide +kernel⟩,
    ⟨Tests.at 4, 7, 1, 1 :: Tests.z 47, Raster.init, by decide +kernel⟩,
    ⟨Tests.at 4, 7, 1, 3 :: Tests.z 47, Raster.init, by decide +kernel⟩,
    ⟨Tests.at 4, 7, 1, 2 :: Tests.z 47, Raster.init, by decide +kernel⟩,
    ⟨Tests.at 4, 7, 1, by decide +kernel⟩⟩

theorem test_wit_OvercoatContent :
    (∃ (s : State) (level : Bool), let b := s.begin; (b.alive = true) ∧ (level ≠ b.dev.overcoatPin)) ∧
    (∃ (s : State) (level : Bool), let b := s.begin; (b.alive = true) ∧ (level = b.dev.overcoatPin)) ∧
    (∃ (s : State) (k : Fin 12) (v : Nat), let b := s.begin.actBy k; Safety.passesScalar b k Dict.OVERCOAT_ARM 0 0 v) ∧
    (∃ (s : State) (k : Fin 12) (v : Nat), let b := s.begin.actBy k; Safety.passesScalar b k Dict.OVERCOAT_LATCH_CLEAR 0 0 v) ∧
    (∃ (s : State) (k : Fin 12) (d : List Byte), let b := s.begin.actBy k; (Safety.passes b k Dict.OVERCOAT_IMAGE_DESC 0 0 d) ∧ (descValid d = false)) ∧
    (∃ (s : State) (k : Fin 12) (d : List Byte), let b := s.begin.actBy k; (Safety.passes b k Dict.OVERCOAT_IMAGE_DESC 0 0 d) ∧ (descValid d = true) ∧ (b.overcoatOpen = false)) ∧
    (∃ (s : State) (k : Fin 12) (d : List Byte), let b := s.begin.actBy k; let i := b.window k Dict.OVERCOAT_IMAGE_WINDOW; (Safety.passes b k Dict.OVERCOAT_IMAGE_DESC 0 0 d) ∧ (descValid d = true) ∧ (b.overcoatOpen = true) ∧ (leAt d 0 2 ≠ 0) ∧ (b.imageNamed i = true)) ∧
    (∃ (s : State) (k : Fin 12) (d : List Byte), let b := s.begin.actBy k; let i := b.window k Dict.OVERCOAT_IMAGE_WINDOW; let need := b.imageBytes i + leAt d 0 2 * leAt d 2 2 * 4; (Safety.passes b k Dict.OVERCOAT_IMAGE_DESC 0 0 d) ∧ (descValid d = true) ∧ (b.overcoatOpen = true) ∧ (leAt d 0 2 = 0 ∨ b.imageNamed i = false) ∧ (33554432 < need)) ∧
    (∃ (s : State) (k : Fin 12) (d : List Byte), let b := s.begin.actBy k; let i := b.window k Dict.OVERCOAT_IMAGE_WINDOW; let need := b.imageBytes i + leAt d 0 2 * leAt d 2 2 * 4; (Safety.passes b k Dict.OVERCOAT_IMAGE_DESC 0 0 d) ∧ (descValid d = true) ∧ (b.overcoatOpen = true) ∧ (leAt d 0 2 = 0 ∨ b.imageNamed i = false) ∧ (need ≤ 33554432)) ∧
    (∃ (s : State) (k : Fin 12) (data : List Byte), let b := s.begin.actBy k; let i := b.window k Dict.OVERCOAT_IMAGE_WINDOW; let z := b.imageSize i; (Safety.passes b k Dict.OVERCOAT_IMAGE_DATA 0 0 data) ∧ (b.overcoatOpen = true) ∧ (b.imageNamed i = false) ∧ (z.1 = 0 ∨ data.length ≠ z.1 * z.2 * 4)) ∧
    (∃ (s : State) (k : Fin 12) (data : List Byte), let b := s.begin.actBy k; let i := b.window k Dict.OVERCOAT_IMAGE_WINDOW; let z := b.imageSize i; (Safety.passes b k Dict.OVERCOAT_IMAGE_DATA 0 0 data) ∧ (b.overcoatOpen = true) ∧ (b.imageNamed i = false) ∧ (z.1 ≠ 0) ∧ (data.length = z.1 * z.2 * 4) ∧ (b.imageBytes i + z.1 * z.2 * 4 ≤ 33554432)) := by
  refine ⟨⟨Tests.at 4, true, by decide +kernel⟩,
    ⟨Tests.at 4, false, by decide +kernel⟩,
    ⟨Tests.at 4, 11, 0, by decide +kernel⟩,
    ⟨Tests.at 4, 11, 1, by decide +kernel⟩,
    ⟨Tests.at 3, 11, leBytes 2 15 ++ leBytes 2 16 ++ Tests.z 12, by decide +kernel⟩,
    ⟨Tests.at 4, 11, leBytes 2 16 ++ leBytes 2 8192 ++ Tests.z 12, by decide +kernel⟩,
    ⟨((Tests.at 3).wrDom Dict.OVERCOAT_PLACE ((Tests.at 3).dom Dict.OVERCOAT_PLACE 0 0 |>.set 0 0) 0 0).modSess 11 (fun u => { u with windows := Store.write dictDefault u.windows Dict.OVERCOAT_IMAGE_WINDOW.key 0 }), 11, leBytes 2 8192 ++ leBytes 2 16 ++ Tests.z 12, by decide +kernel⟩,
    ⟨((((List.range 8).foldl (fun s c => s.wrDom Dict.OVERCOAT_PLACE (0xFF :: Tests.z 15) 0 c) (Tests.at 3)).putImageDesc 0 (leBytes 2 2896 ++ leBytes 2 2896 ++ Tests.z 12)).wr Dict.OVERCOAT_IMAGES_LOADED 1).modSess 11 (fun u => { u with windows := Store.write dictDefault u.windows Dict.OVERCOAT_IMAGE_WINDOW.key 15 }), 11, leBytes 2 16 ++ leBytes 2 113 ++ Tests.z 12, by decide +kernel⟩,
    ⟨((List.range 8).foldl (fun s c => s.wrDom Dict.OVERCOAT_PLACE (0xFF :: Tests.z 15) 0 c) (Tests.at 3)).modSess 11 (fun u => { u with windows := Store.write dictDefault u.windows Dict.OVERCOAT_IMAGE_WINDOW.key 15 }), 11, leBytes 2 8192 ++ leBytes 2 1024 ++ Tests.z 12, by decide +kernel⟩,
    ⟨Tests.at 3, 11, [], by decide +kernel⟩,
    ⟨(((List.range 8).foldl (fun s c => s.wrDom Dict.OVERCOAT_PLACE (0xFF :: Tests.z 15) 0 c) (Tests.at 3)).putImageDesc 15 (leBytes 2 16 ++ leBytes 2 16 ++ Tests.z 12)).modSess 11 (fun u => { u with windows := Store.write dictDefault u.windows Dict.OVERCOAT_IMAGE_WINDOW.key 15 }), 11, Tests.z 1024, by decide +kernel⟩⟩

theorem test_wit_LiningRebuilds :
    (∃ (s : State) (c : Fin 8), let b := s.begin; let v := b.canvasAt c; (b.alive = true) ∧ (v.running = true) ∧ (v.liningState = 2) ∧ (b.yielded 1 6 0 = false) ∧ (v.liningRestart = true)) ∧
    (∃ (s : State) (c : Fin 8), let b := s.begin; let v := b.canvasAt c; (b.alive = true) ∧ (v.running = true) ∧ (v.liningState = 2) ∧ (b.yielded 1 6 0 = false) ∧ (v.liningRestart = false)) ∧
    (∃ (s : State) (c : Fin 8), (s.begin.canvasAt c).liningState ≠ 2) ∧
    (∃ (s : State) (k : Fin 12) (v : Nat), let b := s.begin.actBy k; Safety.passesScalar b k Dict.LINING_REBUILD 0 0 v) ∧
    (∃ (s : State) (c : Nat), (s.canvasAt c).liningState = 3) := by
  refine ⟨⟨(Tests.at 4).putCanvas 7 { Canvas.init with running := true, liningState := 2, liningRestart := true }, 7, by decide +kernel⟩,
    ⟨(Tests.at 4).putCanvas 7 { Canvas.init with running := true, liningState := 2 }, 7, by decide +kernel⟩,
    ⟨Tests.at 4, 7, by decide +kernel⟩,
    ⟨Tests.at 4, 11, 0, by decide +kernel⟩,
    ⟨(Tests.at 4).putCanvas 7 { Canvas.init with running := true, liningState := 3 }, 7, by decide +kernel⟩⟩

theorem test_wit_HeadsRun :
    (∃ (s : State) (k : Fin 12) (h : Fin 32), let b := s.begin.actBy k; (Safety.passesScalar b k Dict.HEAD_ENABLE h 0 1) ∧ (b.flag Dict.HEAD_ENABLE h = true)) ∧
    (∃ (s : State) (k : Fin 12) (h : Fin 32), let b := s.begin.actBy k; (Safety.passesScalar b k Dict.HEAD_ENABLE h 0 1) ∧ (b.flag Dict.HEAD_ENABLE h = false) ∧ (b.judgeHead h = none)) ∧
    (∃ (s : State) (k : Fin 12) (h : Fin 32) (r : _), let b := s.begin.actBy k; (Safety.passesScalar b k Dict.HEAD_ENABLE h 0 1) ∧ (b.flag Dict.HEAD_ENABLE h = false) ∧ (b.judgeHead h = some r)) ∧
    (∃ (s : State) (k : Fin 12) (h : Fin 32), let b := s.begin.actBy k; let a := b.headAt h; (Safety.passesScalar b k Dict.HEAD_ENABLE h 0 0) ∧ (a.running = true)) ∧
    (∃ (s : State) (k : Fin 12) (h : Fin 32), let b := s.begin.actBy k; let a := b.headAt h; (Safety.passesScalar b k Dict.HEAD_ENABLE h 0 0) ∧ (a.running = false)) ∧
    (∃ (s : State) (h : Fin 32) (low t : Nat), let b := s.begin; let a := b.headAt h; (b.alive = true) ∧ (b.nextFrame h = some t) ∧ (t ≤ b.timebase) ∧ (a.running = true) ∧ (a.stopping = true)) ∧
    (∃ (s : State) (h : Fin 32) (low t : Nat), let b := s.begin; let a := b.headAt h; (b.alive = true) ∧ (b.nextFrame h = some t) ∧ (t ≤ b.timebase) ∧ (a.running = false)) ∧
    (∃ (s : State) (h : Fin 32) (low t : Nat), let b := s.begin; let a := b.headAt h; (b.alive = true) ∧ (b.nextFrame h = some t) ∧ (t ≤ b.timebase) ∧ (a.running = true) ∧ (a.stopping = false) ∧ (b.rd Dict.HEAD_STATUS_FIFO_SIZE h = 0)) ∧
    (∃ (s : State) (h : Fin 32) (low t : Nat), let b := s.begin; let a := b.headAt h; (b.alive = true) ∧ (b.nextFrame h = some t) ∧ (t ≤ b.timebase) ∧ (a.running = true) ∧ (a.stopping = false) ∧ (b.rd Dict.HEAD_STATUS_FIFO_SIZE h ≠ 0)) ∧
    (∃ (s : State) (h : Fin 32) (low : Nat), s.begin.nextFrame h = none) ∧
    (∃ (s : State) (h : Fin 32), let b := s.begin; let a := b.headAt h; let t := a.frameStart + b.flipOffset h; let c := b.shownCanvas h; let w := b.putHead h { a with flipped := true }; (b.alive = true) ∧ (a.running = true) ∧ (a.flipped = false) ∧ (t ≤ b.timebase) ∧ (c < 8) ∧ (w.leadHead c = some h.val)) ∧
    (∃ (s : State) (h : Fin 32), let b := s.begin; let a := b.headAt h; let t := a.frameStart + b.flipOffset h; let c := b.shownCanvas h; let w := b.putHead h { a with flipped := true }; (b.alive = true) ∧ (a.running = true) ∧ (a.flipped = false) ∧ (t ≤ b.timebase) ∧ (c < 8) ∧ (w.leadHead c ≠ some h.val)) ∧
    (∃ (s : State) (h : Fin 32), let b := s.begin; let a := b.headAt h; let t := a.frameStart + b.flipOffset h; let c := b.shownCanvas h; (b.alive = true) ∧ (a.running = true) ∧ (a.flipped = false) ∧ (t ≤ b.timebase) ∧ (8 ≤ c)) ∧
    (∃ (s : State) (h : Fin 32), let b := s.begin; let a := b.headAt h; let t := a.frameStart + b.flipOffset h; (b.alive = true) ∧ (a.running = true) ∧ (a.flipped = false) ∧ (b.timebase < t)) ∧
    (∃ (s : State) (h : Fin 32), let b := s.begin; let a := b.headAt h; (b.alive = true) ∧ (a.running = true) ∧ (a.blanked = false) ∧ (a.frameStart + b.vb0Offset h ≤ b.timebase)) ∧
    (∃ (s : State) (h : Fin 32), let b := s.begin; let a := b.headAt h; (b.alive = true) ∧ (a.running = true) ∧ (a.blanked = true)) ∧
    (∃ (s : State) (h : Fin 32), let b := s.begin; let a := b.headAt h; (b.alive = true) ∧ (a.running = true) ∧ (a.matched = false) ∧ (b.rd Dict.LEGACY_EVENTS_MATCH_LINE 0 h < b.rd Dict.HEAD_V_TOTAL h) ∧ (a.frameStart + b.lineTime h (b.rd Dict.LEGACY_EVENTS_MATCH_LINE 0 h) ≤ b.timebase)) ∧
    (∃ (s : State) (h : Fin 32), let b := s.begin; let a := b.headAt h; (b.alive = true) ∧ (a.running = true) ∧ (a.matched = true)) ∧
    (∃ (s : State) (h v : Nat), v < s.rd Dict.HEAD_V_TOTAL h) ∧
    (∃ (s : State) (h : Fin 32) (line x : Nat), let b := s.begin; let a := b.headAt h; let w := b.headRd h Dict.HEAD_H_ACTIVE; let u := ((b.putHead h { a with underruns := a.underruns + 1, short := Store.put a.short line x }).inc Dict.HEAD_STATUS_UNDERRUN_LINES h).wr Dict.HEAD_STATUS_FIFO_LOW_WATER 0 h; (b.alive = true) ∧ (a.running = true) ∧ (a.shown = .content) ∧ (b.headRd h Dict.HEAD_BUFFER_MODE = 1) ∧ (line < b.headRd h Dict.HEAD_V_ACTIVE) ∧ (x < w) ∧ (a.short.all (fun e => e.1 != line) = true) ∧ (u.rd Dict.HEAD_TYPE h ≠ 1)) ∧
    (∃ (s : State) (h : Fin 32) (line x : Nat), let b := s.begin; let a := b.headAt h; let w := b.headRd h Dict.HEAD_H_ACTIVE; let u := ((b.putHead h { a with underruns := a.underruns + 1, short := Store.put a.short line x }).inc Dict.HEAD_STATUS_UNDERRUN_LINES h).wr Dict.HEAD_STATUS_FIFO_LOW_WATER 0 h; (b.alive = true) ∧ (a.running = true) ∧ (a.shown = .content) ∧ (b.headRd h Dict.HEAD_BUFFER_MODE = 1) ∧ (line < b.headRd h Dict.HEAD_V_ACTIVE) ∧ (x < w) ∧ (a.short.all (fun e => e.1 != line) = true) ∧ (u.rd Dict.HEAD_TYPE h = 1)) ∧
    (∃ (s : State) (h : Fin 32) (line x : Nat), (s.begin.headAt h).shown ≠ .content) ∧
    (∃ (s : State) (k : Fin 12) (v : Nat), let b := s.begin.actBy k; Safety.passesScalar b k Dict.LEGACY_EVENTS_STATUS_START_OF_BLANK 0 0 v) ∧
    (∃ (s : State) (k : Fin 12) (v : Nat), let b := s.begin.actBy k; Safety.passesScalar b k Dict.LEGACY_EVENTS_STATUS_LINE_MATCH 0 0 v) ∧
    (∃ (s : State) (k : Fin 12) (v : Nat), let b := s.begin.actBy k; Safety.passesScalar b k Dict.LEGACY_EVENTS_STATUS_FRAME_DONE 0 0 v) ∧
    (∃ (s : State) (k : Fin 12) (v : Nat), let b := s.begin.actBy k; Safety.passesScalar b k Dict.LEGACY_EVENTS_STATUS_UNDERRUN 0 0 v) := by
  refine ⟨⟨Tests.running 31 7 Head.init, 11, 31, by decide +kernel⟩,
    ⟨(Tests.head (Tests.at 4) 31), 11, 31, by decide +kernel⟩,
    ⟨Tests.at 4, 11, 31, { abort := 134217762, detail := 81, fieldIndex := 11295, fieldSub := 2, entry := 4294967295, ownEvent := false }, by decide +kernel⟩,
    ⟨Tests.running 31 7 Head.init, 11, 31, by decide +kernel⟩,
    ⟨Tests.at 4, 11, 31, by decide +kernel⟩,
    ⟨Tests.running 31 7 { Head.init with stopping := true }, 31, 0, 20000000, by decide +kernel⟩,
    ⟨(Tests.running 31 7 Head.init).putHead 31 { Head.init with startAfter := 1000000 }, 31, 0, 20000000, by decide +kernel⟩,
    ⟨Tests.running 31 7 Head.init, 31, 0, 20000000, by decide +kernel⟩,
    ⟨(Tests.running 31 7 Head.init).wr Dict.HEAD_STATUS_FIFO_SIZE 64 31, 31, 63, 20000000, by decide +kernel⟩,
    ⟨Tests.at 4, 31, 0, by decide +kernel⟩,
    ⟨Tests.running 31 7 { Head.init with canvas := 7 }, 31, by decide +kernel⟩,
    ⟨(Tests.running 31 7 { Head.init with canvas := 7 }).wr Dict.HEAD_SLOT_SELECT 0 31 |>.wr Dict.HEAD_SLOTS 2 31, 31, by decide +kernel⟩,
    ⟨Tests.running 31 7 { Head.init with canvas := 8 }, 31, by decide +kernel⟩,
    ⟨Tests.running 31 7 { Head.init with frameStart := 20000000 }, 31, by decide +kernel⟩,
    ⟨Tests.running 31 7 Head.init, 31, by decide +kernel⟩,
    ⟨Tests.running 31 7 { Head.init with blanked := true }, 31, by decide +kernel⟩,
    ⟨(Tests.running 31 7 Head.init).wr Dict.LEGACY_EVENTS_MATCH_LINE 127 0 31, 31, by decide +kernel⟩,
    ⟨Tests.running 31 7 { Head.init with matched := true }, 31, by decide +kernel⟩,
    ⟨Tests.running 31 7 Head.init, 31, 127, by decide +kernel⟩,
    ⟨((Tests.running 31 7 { Head.init with shown := .content }).wr Dict.HEAD_BUFFER_MODE 1 31).wr Dict.HEAD_TYPE 3 31, 31, 63, 63, by decide +kernel⟩,
    ⟨(Tests.running 31 7 { Head.init with shown := .content }).wr Dict.HEAD_BUFFER_MODE 1 31, 31, 63, 63, by decide +kernel⟩,
    ⟨Tests.at 4, 31, 0, 0, by decide +kernel⟩,
    ⟨Tests.at 4, 11, 0, by decide +kernel⟩,
    ⟨Tests.at 4, 11, 0, by decide +kernel⟩,
    ⟨Tests.at 4, 11, 0, by decide +kernel⟩,
    ⟨Tests.at 4, 11, 0, by decide +kernel⟩⟩

theorem test_wit_ChecksAndRetime :
    (∃ (s : State) (h : Fin 32) (w : Fin 16) (echo : Nat), let b := s.begin; let d := b.checkedWindow h w; let seen := b.modHead h (fun a => { a with checked := Store.change (fun _ => 0) a.checked w (fun n => (n + 1) % 2 ^ 32) }); (b.alive = true) ∧ (b.checksWindow h w = true) ∧ (seen.expectedCrc h d = echo) ∧ (seen.windowShort h d = false)) ∧
    (∃ (s : State) (h : Fin 32) (w : Fin 16) (echo : Nat), let b := s.begin; let d := b.checkedWindow h w; let seen := b.modHead h (fun a => { a with checked := Store.change (fun _ => 0) a.checked w (fun n => (n + 1) % 2 ^ 32) }); (b.alive = true) ∧ (b.checksWindow h w = true) ∧ (seen.expectedCrc h d ≠ echo ∨ seen.windowShort h d = true)) ∧
    (∃ (s : State) (h : Fin 32) (w : Fin 16) (echo : Nat), s.begin.checksWindow h w = false) ∧
    (∃ (s : State) (k : Fin 12) (h : Fin 32) (v : Nat), let b := s.begin.actBy k; let a := b.headAt h; (Safety.passesScalar b k Dict.HEAD_SAFE_CLEAR h 0 v) ∧ (a.safe = true)) ∧
    (∃ (s : State) (k : Fin 12) (h : Fin 32) (v : Nat), let b := s.begin.actBy k; let a := b.headAt h; (Safety.passesScalar b k Dict.HEAD_SAFE_CLEAR h 0 v) ∧ (a.safe = false)) ∧
    (∃ (s : State) (h : Nat), let a := s.headAt h; a.safeClear = true) ∧
    (∃ (s : State) (h : Nat), let a := s.headAt h; a.safeClear = false) ∧
    (∃ (s : State) (k : Fin 12) (h : Fin 32) (v : Nat), let b := s.begin.actBy k; Safety.passesScalar b k Dict.HEAD_RETIME h 0 v) ∧
    (∃ (s : State) (h : Fin 32) (t : Nat) (r : Retime), let b := s.begin; let ends := ((b.clonesOf h).filter (fun g => (b.headAt g).running)).filterMap (fun g => (b.nextFrame g).map (fun t => (g, t))); let v := ends.foldl (fun s e => s.followTiming e.1 e.2) (((b.putTiming h r.timing).setPixelClock h).wrDom Dict.HEAD_NEW_TIMING [] h); let u := (v.modHead h (fun a => { a with retime := none })).landPending 1 h; let f := ((h.val :: u.clonesOf h).foldl State.takeFifo u).beginFrame h t false true; (b.alive = true) ∧ (b.retimeDue h = some (t, r)) ∧ ((b.headAt h).stopping = false) ∧ (f.rd Dict.HEAD_TYPE h = 2 ∨ f.rd Dict.HEAD_TYPE h = 3)) ∧
    (∃ (s : State) (h : Fin 32) (t : Nat) (r : Retime), let b := s.begin; let ends := ((b.clonesOf h).filter (fun g => (b.headAt g).running)).filterMap (fun g => (b.nextFrame g).map (fun t => (g, t))); let v := ends.foldl (fun s e => s.followTiming e.1 e.2) (((b.putTiming h r.timing).setPixelClock h).wrDom Dict.HEAD_NEW_TIMING [] h); let u := (v.modHead h (fun a => { a with retime := none })).landPending 1 h; let f := ((h.val :: u.clonesOf h).foldl State.takeFifo u).beginFrame h t false true; (b.alive = true) ∧ (b.retimeDue h = some (t, r)) ∧ ((b.headAt h).stopping = false) ∧ (f.rd Dict.HEAD_TYPE h ≠ 2) ∧ (f.rd Dict.HEAD_TYPE h ≠ 3)) ∧
    (∃ (s : State) (h : Fin 32) (t : Nat) (r : Retime), let b := s.begin; (b.alive = true) ∧ (b.retimeDue h = some (t, r)) ∧ ((b.headAt h).stopping = true)) ∧
    (∃ (s : State) (h : Fin 32), s.begin.retimeDue h = none) := by
  refine ⟨⟨((Tests.running 31 7 { Head.init with shown := .content }).wrDom Dict.HEAD_CHECK_WINDOWS (Tests.z 240 ++ [1, 0xFF] ++ Tests.z 14) 31).headTakes 31 20000000, 31, 15, 0, by decide +kernel⟩,
    ⟨((Tests.running 31 7 { Head.init with shown := .content }).wrDom Dict.HEAD_CHECK_WINDOWS (Tests.z 240 ++ [1, 0xFF] ++ Tests.z 14) 31).headTakes 31 20000000, 31, 15, 1, by decide +kernel⟩,
    ⟨Tests.at 4, 31, 15, 0, by decide +kernel⟩,
    ⟨Tests.running 31 7 { Head.init with safe := true }, 11, 31, 1, by decide +kernel⟩,
    ⟨Tests.at 4, 11, 31, 1, by decide +kernel⟩,
    ⟨Tests.running 31 7 { Head.init with safeClear := true }, 31, by decide +kernel⟩,
    ⟨Tests.at 4, 31, by decide +kernel⟩,
    ⟨Tests.at 4, 11, 31, 1, by decide +kernel⟩,
    ⟨(Tests.running 31 7 { Head.init with retime := some (⟨leBytes 2 64 ++ leBytes 2 64 ++ leBytes 2 128 ++ leBytes 2 128 ++ Tests.z 13 ++ [0xFF], 0, 1000000, 0, 11⟩) }).wr Dict.HEAD_TYPE 3 31, 31, 20000000, ⟨leBytes 2 64 ++ leBytes 2 64 ++ leBytes 2 128 ++ leBytes 2 128 ++ Tests.z 13 ++ [0xFF], 0, 1000000, 0, 11⟩, by decide +kernel⟩,
    ⟨Tests.running 31 7 { Head.init with retime := some (⟨leBytes 2 64 ++ leBytes 2 64 ++ leBytes 2 128 ++ leBytes 2 128 ++ Tests.z 13 ++ [0xFF], 0, 1000000, 0, 11⟩) }, 31, 20000000, ⟨leBytes 2 64 ++ leBytes 2 64 ++ leBytes 2 128 ++ leBytes 2 128 ++ Tests.z 13 ++ [0xFF], 0, 1000000, 0, 11⟩, by decide +kernel⟩,
    ⟨Tests.running 31 7 { Head.init with retime := some (⟨leBytes 2 64 ++ leBytes 2 64 ++ leBytes 2 128 ++ leBytes 2 128 ++ Tests.z 13 ++ [0xFF], 0, 1000000, 0, 11⟩), stopping := true }, 31, 20000000, ⟨leBytes 2 64 ++ leBytes 2 64 ++ leBytes 2 128 ++ leBytes 2 128 ++ Tests.z 13 ++ [0xFF], 0, 1000000, 0, 11⟩, by decide +kernel⟩,
    ⟨Tests.at 4, 31, by decide +kernel⟩⟩

theorem test_wit_TileLink :
    (∃ (s : State) (k : Fin 12) (data : List Byte), let b := s.begin.actBy k; let w := b.window k Dict.TILE_MAP_CONTROL_MAP_WINDOW; let entries := chunks 32 data.length data; let t := putEntries State.putTileShadow (b.deferredWrites.foldl State.applyHeld b) w entries; let bad := firstBad (fun k b' => if b.tileBreaks t k b' then some (.tableEntry 0x58 k) else none) w entries; (Safety.passes b k Dict.TILE_MAP_DATA 0 0 data) ∧ (bad = none)) ∧
    (∃ (s : State) (k : Fin 12) (data : List Byte) (r : _), let b := s.begin.actBy k; let w := b.window k Dict.TILE_MAP_CONTROL_MAP_WINDOW; let entries := chunks 32 data.length data; let t := putEntries State.putTileShadow (b.deferredWrites.foldl State.applyHeld b) w entries; let bad := firstBad (fun k b' => if b.tileBreaks t k b' then some (.tableEntry 0x58 k) else none) w entries; (Safety.passes b k Dict.TILE_MAP_DATA 0 0 data) ∧ (bad = some r)) ∧
    (∃ (s : State) (k : Fin 12) (data : List Byte), let b := s.begin.actBy k; Safety.passes b k Dict.CALIBRATION_DATA 0 0 data) ∧
    (∃ (s : State) (k : Nat) (e : List Byte), s.holds (heldTile k) e = true) ∧
    (∃ (s : State) (k : Nat) (e : List Byte), s.holds (heldTile k) e = false) ∧
    (∃ (s : State) (k : Nat) (e : List Byte), s.holds (heldCalib k) e = true) ∧
    (∃ (s : State) (k : Nat) (e : List Byte), s.holds (heldCalib k) e = false) ∧
    (∃ (s : State) (k : Nat) (e : List Byte), (allHeads.any (fun h => s.sendsTile h k e) = false) ∧ ((TileEntry.ofBytes e).valid = false)) ∧
    (∃ (s : State) (k : Nat) (e : List Byte), allHeads.any (fun h => s.sendsTile h k e) = true) ∧
    (∃ (s : State) (h : Fin 32), let b := s.begin; (b.alive = true) ∧ ((b.headAt h).running = true) ∧ (b.rd Dict.HEAD_TYPE h = 1) ∧ ((b.headAt h).calibBase + 1024 ≤ b.rd Dict.HEAD_STATUS_BASE_FRAME_COUNT h)) ∧
    (∃ (s : State) (h : Fin 32), let b := s.begin; (b.alive = true) ∧ ((b.headAt h).running = true) ∧ (b.rd Dict.HEAD_TYPE h = 1) ∧ (b.rd Dict.HEAD_STATUS_BASE_FRAME_COUNT h < (b.headAt h).calibBase + 1024)) ∧
    (∃ (s : State) (h : Fin 32) (k : Fin 65536), let b := s.begin; let v := b.asScanned h; let e := TileEntry.ofBytes (v.tileEntryAt k); (b.alive = true) ∧ ((b.headAt h).running = true) ∧ (v.sendsEntry h (v.tileEntryAt k) = true) ∧ (e.x + e.w ≤ b.rd Dict.CANVAS_WIDTH e.canvas) ∧ (e.y + e.h ≤ b.rd Dict.CANVAS_HEIGHT e.canvas) ∧ (bit e.pattern (b.headAt h).carried = true)) ∧
    (∃ (s : State) (h : Fin 32) (k : Fin 65536), let b := s.begin; let v := b.asScanned h; let e := TileEntry.ofBytes (v.tileEntryAt k); (b.alive = true) ∧ ((b.headAt h).running = true) ∧ (v.sendsEntry h (v.tileEntryAt k) = true) ∧ (e.x + e.w ≤ b.rd Dict.CANVAS_WIDTH e.canvas) ∧ (e.y + e.h ≤ b.rd Dict.CANVAS_HEIGHT e.canvas) ∧ (bit e.pattern (b.headAt h).carried = false)) ∧
    (∃ (s : State) (h k : Nat), let e := TileEntry.ofBytes ((s.asScanned h).tileEntryAt k); bit (s.rd Dict.HEAD_PORT_MASK h) e.port = false) ∧
    (∃ (s : State) (p : Fin 48) (data : List Byte), let b := s.begin; let gen := b.rd Dict.PTL_GENERATION 0 p; let auth := bit (byteAt data 1) 0; (b.alive = true) ∧ (b.rd Dict.PORT_STATE p = 2 ∨ b.rd Dict.PORT_STATE p = 3) ∧ (gen = 0 ∨ bit (byteAt data 1) 1 = true ∨ (gen = 1 ∧ auth = true))) ∧
    (∃ (s : State) (p : Fin 48) (data : List Byte), let b := s.begin; let gen := b.rd Dict.PTL_GENERATION 0 p; let auth := bit (byteAt data 1) 0; (b.alive = true) ∧ (b.rd Dict.PORT_STATE p = 2 ∨ b.rd Dict.PORT_STATE p = 3) ∧ (gen ≠ 0) ∧ (byteAt data 0 = 16 * gen + 5) ∧ (bit (byteAt data 1) 1 = false) ∧ (gen = 1 → auth = false) ∧ (beNat ((data.drop 13).take 2) = 32) ∧ (data.length = 48 + (if auth then 16 else 0)) ∧ (gen = 2) ∧ (b.rd Dict.PTL_KEY_STATE = 1) ∧ (b.statusTag p data = false)) ∧
    (∃ (s : State) (p : Fin 48) (data : List Byte) (k : _), let b := s.begin; let gen := b.rd Dict.PTL_GENERATION 0 p; let auth := bit (byteAt data 1) 0; let tile := beNat ((data.drop 8).take 2); (b.alive = true) ∧ (b.rd Dict.PORT_STATE p = 2 ∨ b.rd Dict.PORT_STATE p = 3) ∧ (gen ≠ 0) ∧ (byteAt data 0 = 16 * gen + 5) ∧ (bit (byteAt data 1) 1 = false) ∧ (gen = 1 → auth = false) ∧ (beNat ((data.drop 13).take 2) = 32) ∧ (data.length = 48 + (if auth then 16 else 0)) ∧ (gen ≠ 2 ∨ b.rd Dict.PTL_KEY_STATE ≠ 1 ∨ b.statusTag p data = true) ∧ (b.tileOf p tile = some k)) ∧
    (∃ (s : State) (p : Fin 48) (data : List Byte), let b := s.begin; let gen := b.rd Dict.PTL_GENERATION 0 p; let auth := bit (byteAt data 1) 0; let tile := beNat ((data.drop 8).take 2); (b.alive = true) ∧ (b.rd Dict.PORT_STATE p = 2 ∨ b.rd Dict.PORT_STATE p = 3) ∧ (gen ≠ 0) ∧ (byteAt data 0 = 16 * gen + 5) ∧ (bit (byteAt data 1) 1 = false) ∧ (gen = 1 → auth = false) ∧ (beNat ((data.drop 13).take 2) = 32) ∧ (data.length = 48 + (if auth then 16 else 0)) ∧ (gen ≠ 2 ∨ b.rd Dict.PTL_KEY_STATE ≠ 1 ∨ b.statusTag p data = true) ∧ (b.tileOf p tile = none)) ∧
    (∃ (s : State) (p tile : Nat), s.authFailAt p = 0) ∧
    (∃ (s : State) (k : Fin 65536), let b := s.begin; let e := TileEntry.ofBytes (b.tileEntryAt k); let x := b.tileAt k; (b.alive = true) ∧ (e.valid = true) ∧ (e.noStatus = false) ∧ (x.state ≠ 2) ∧ (b.skippedTiles.contains k.val = false) ∧ (x.watchAt ≠ 0) ∧ (x.watchAt - 1 + b.rd Dict.PTL_STATUS_TIMEOUT * 1000000 ≤ b.now)) ∧
    (∃ (s : State) (k : Fin 65536), let b := s.begin; let e := TileEntry.ofBytes (b.tileEntryAt k); let x := b.tileAt k; (b.alive = true) ∧ (e.valid = true) ∧ (e.noStatus = false) ∧ (x.state ≠ 2) ∧ (b.skippedTiles.contains k.val = false) ∧ (x.watchAt ≠ 0) ∧ (b.now < x.watchAt - 1 + b.rd Dict.PTL_STATUS_TIMEOUT * 1000000)) := by
  refine ⟨⟨Tests.at 4, 11, [], by decide +kernel⟩,
    ⟨Tests.at 4, 11, Tests.tile 255 1 |>.set 2 48, { abort := 134217762, detail := 88, fieldIndex := 0, fieldSub := 0, entry := 0, ownEvent := false }, by decide +kernel⟩,
    ⟨Tests.at 4, 11, [], by decide +kernel⟩,
    ⟨{ Tests.tiled 255 1 with validating := [{ Tests.commit with heads := 0x80000000 }] }, 65535, Tests.tile 255 1, by decide +kernel⟩,
    ⟨Tests.tiled 255 1, 65535, Tests.tile 255 1, by decide +kernel⟩,
    ⟨{ (Tests.tiled 255 1).putTileEntry 65535 ((Tests.tile 255 1).set 18 0 |>.set 19 0) with validating := [{ Tests.commit with heads := 0x80000000 }] }, 0, [], by decide +kernel⟩,
    ⟨Tests.tiled 255 1, 65535, [], by decide +kernel⟩,
    ⟨Tests.at 4, 0, [], by decide +kernel⟩,
    ⟨Tests.tiled 255 1, 65535, [], by decide +kernel⟩,
    ⟨(Tests.running 31 7 Head.init).wr Dict.HEAD_STATUS_BASE_FRAME_COUNT 1024 31, 31, by decide +kernel⟩,
    ⟨(Tests.running 31 7 Head.init).wr Dict.HEAD_STATUS_BASE_FRAME_COUNT 1023 31, 31, by decide +kernel⟩,
    ⟨(Tests.tiled 255 1).headTakes 31 20000000, 31, 65535, by decide +kernel⟩,
    ⟨(Tests.tiled 254 1).headTakes 31 20000000, 31, 65535, by decide +kernel⟩,
    ⟨Tests.at 4, 0, 0, by decide +kernel⟩,
    ⟨(Tests.at 4).wr Dict.PORT_STATE 2 47, 47, [], by decide +kernel⟩,
    ⟨(Tests.tiled 255 1).wr Dict.PTL_KEY_STATE 1, 1, [37, 0] ++ Tests.z 6 ++ [255, 254] ++ Tests.z 3 ++ [0, 32] ++ Tests.z 33, by decide +kernel⟩,
    ⟨Tests.tiled 255 1, 1, [37, 0] ++ Tests.z 6 ++ [255, 254] ++ Tests.z 3 ++ [0, 32] ++ Tests.z 33, 65535, by decide +kernel⟩,
    ⟨Tests.tiled 255 1, 1, [37, 0] ++ Tests.z 6 ++ [255, 255] ++ Tests.z 3 ++ [0, 32] ++ Tests.z 33, by decide +kernel⟩,
    ⟨Tests.at 4, 0, 0, by decide +kernel⟩,
    ⟨(Tests.tiled 255 1).putTile 65535 { Tile.init with watchAt := 1 }, 65535, by decide +kernel⟩,
    ⟨(Tests.tiled 255 1).putTile 65535 { Tile.init with watchAt := 5000000001 }, 65535, by decide +kernel⟩⟩

theorem test_wit_TileLinkKeys :
    (∃ (s : State) (k : Fin 12) (v : Nat), let b := s.begin.actBy k; (Safety.passesScalar b k Dict.PTL_KEY_SLOT 0 0 v) ∧ (v = 0xFF ∨ b.derives v = true)) ∧
    (∃ (s : State) (k : Fin 12) (v : Nat), let b := s.begin.actBy k; (Safety.passesScalar b k Dict.PTL_KEY_SLOT 0 0 v) ∧ (v ≠ 0xFF) ∧ (b.derives v = false)) ∧
    (∃ (s : State) (k : Fin 12) (v : Nat), let b := s.begin.actBy k; Safety.passesScalar b k Dict.PTL_REKEY 0 0 v) ∧
    (∃ (s : State), s.ptl.countdown ≠ 0) ∧
    (∃ (s : State), s.ptl.countdown = 0) ∧
    (∃ (s : State), s.begin.rekeyDue = true) ∧
    (∃ (s : State), s.begin.rekeyDue = false) ∧
    (∃ (s : State), s.ptl.again = false) ∧
    (∃ (s : State), let b := s.begin; (b.alive = true) ∧ (b.ptl.heartbeatAt = 0)) ∧
    (∃ (s : State), let b := s.begin; (b.alive = true) ∧ (b.ptl.heartbeatAt ≠ 0) ∧ (b.now < b.ptl.heartbeatAt - 1 + b.rd Dict.PTL_HEARTBEAT_INTERVAL * 1000000)) ∧
    (∃ (s : State) (k : Fin 12) (data : List Byte), let b := s.begin.actBy k; (Safety.passes b k Dict.PTL_CONTROL_TX 0 0 data) ∧ (b.rd Dict.PTL_KEY_STATE = 2)) ∧
    (∃ (s : State) (k : Fin 12) (data : List Byte), let b := s.begin.actBy k; let tile := b.rd Dict.PTL_CONTROL_TILE; (Safety.passes b k Dict.PTL_CONTROL_TX 0 0 data) ∧ (b.rd Dict.PTL_KEY_STATE ≠ 2) ∧ (tile = 0xFFFF) ∧ (b.ptlPorts ≠ [])) ∧
    (∃ (s : State) (k : Fin 12) (data : List Byte) (j : _), let b := s.begin.actBy k; let p := b.rd Dict.PTL_CONTROL_PORT; let tile := b.rd Dict.PTL_CONTROL_TILE; (Safety.passes b k Dict.PTL_CONTROL_TX 0 0 data) ∧ (b.rd Dict.PTL_KEY_STATE ≠ 2) ∧ (tile ≠ 0xFFFF) ∧ (b.ptlPorts.filter (· == p) = [p]) ∧ (b.tileOf p tile = some j)) ∧
    (∃ (s : State) (k : Fin 12) (data : List Byte), let b := s.begin.actBy k; let p := b.rd Dict.PTL_CONTROL_PORT; let tile := b.rd Dict.PTL_CONTROL_TILE; (Safety.passes b k Dict.PTL_CONTROL_TX 0 0 data) ∧ (b.rd Dict.PTL_KEY_STATE ≠ 2) ∧ (tile = 0xFFFF ∧ b.ptlPorts = [] ∨ tile ≠ 0xFFFF ∧ b.ptlPorts.contains p = false)) := by
  refine ⟨⟨Tests.at 4, 11, 0xFF, by decide +kernel⟩,
    ⟨Tests.at 4, 11, 0, by decide +kernel⟩,
    ⟨Tests.at 4, 11, 1, by decide +kernel⟩,
    ⟨{ Tests.at 4 with ptl := { PtlKeys.init with countdown := 1 } }, by decide +kernel⟩,
    ⟨Tests.at 4, by decide +kernel⟩,
    ⟨{ Tests.at 4 with ptl := { PtlKeys.init with countdown := 1 } }, by decide +kernel⟩,
    ⟨Tests.at 4, by decide +kernel⟩,
    ⟨Tests.at 4, by decide +kernel⟩,
    ⟨Tests.at 4, by decide +kernel⟩,
    ⟨{ Tests.at 4 with ptl := { PtlKeys.init with heartbeatAt := 5000000001 } }, by decide +kernel⟩,
    ⟨(Tests.at 4).wr Dict.PTL_KEY_STATE 2, 11, Tests.z 1024, by decide +kernel⟩,
    ⟨(Tests.tiled 255 1).wr Dict.PTL_CONTROL_PORT 1, 11, Tests.z 1024, by decide +kernel⟩,
    ⟨((Tests.tiled 255 1).wr Dict.PTL_CONTROL_PORT 1).wr Dict.PTL_CONTROL_TILE 0xFFFE, 11, Tests.z 1024, 65535, by decide +kernel⟩,
    ⟨Tests.at 4, 11, Tests.z 1024, by decide +kernel⟩⟩

theorem test_wit_CandidatesAreJudged :
    (∃ (s : State) (k : Fin 12) (n : Fin 12), let b := s.begin.actBy k; (Safety.passesScalar b k Dict.REF_ENABLE n 0 1) ∧ (b.refType n = 0)) ∧
    (∃ (s : State) (k : Fin 12) (n : Fin 12), let b := s.begin.actBy k; (Safety.passesScalar b k Dict.REF_ENABLE n 0 1) ∧ (b.refType n = 3) ∧ (b.rd Dict.REF_SOURCE n ≤ 3) ∧ (b.rd Dict.REF_NOMINAL_NUM n = 0) ∧ (∀ m : Nat, m < 12 → m ≠ n → b.flag Dict.REF_ENABLE m = false)) ∧
    (∃ (s : State) (k : Fin 12) (n : Fin 12) (r : _), let b := s.begin.actBy k; (Safety.passesScalar b k Dict.REF_ENABLE n 0 1) ∧ (b.judgeRef n = some r)) ∧
    (∃ (s : State) (k : Fin 12) (n : Fin 12), let b := s.begin.actBy k; (Safety.passesScalar b k Dict.REF_ENABLE n 0 1) ∧ (b.judgeRef n = none) ∧ (b.flag Dict.REF_ENABLE n = true)) ∧
    (∃ (s : State) (k : Fin 12) (n : Fin 12), let b := s.begin.actBy k; (Safety.passesScalar b k Dict.REF_ENABLE n 0 1) ∧ (b.judgeRef n = none) ∧ (b.flag Dict.REF_ENABLE n = false)) ∧
    (∃ (s : State) (k : Fin 12) (n : Fin 12), let b := s.begin.actBy k; Safety.passesScalar b k Dict.REF_ENABLE n 0 0) ∧
    (∃ (s : State) (n : Fin 12) (vertical : Bool) (age : Nat), let b := s.begin; let ig := b.ignoreRef n; (b.dictUp = true) ∧ (b.rd Dict.REF_QUAL_STATE n ≠ 0) ∧ (ig.activityOver n vertical age = false)) ∧
    (∃ (s : State) (n : Fin 12) (vertical : Bool) (age : Nat), let b := s.begin; let ig := b.ignoreRef n; (b.dictUp = true) ∧ (b.rd Dict.REF_QUAL_STATE n ≠ 0) ∧ (ig.activityOver n vertical age = true) ∧ (b.refType n ≠ 7)) ∧
    (∃ (s : State) (n : Fin 12) (vertical : Bool) (age : Nat), let b := s.begin; let ig := b.ignoreRef n; (b.dictUp = true) ∧ (b.rd Dict.REF_QUAL_STATE n ≠ 0) ∧ (ig.activityOver n vertical age = true) ∧ (b.refType n = 7)) ∧
    (∃ (s : State) (n age : Nat), s.refType n = 5) ∧
    (∃ (s : State) (n age : Nat), s.refType n = 7) ∧
    (∃ (s : State) (n age : Nat), s.refType n = 7) ∧
    (∃ (s : State) (n age : Nat), let (num, den) := s.refNominal n; (s.refType n = 3) ∧ (0 < num)) ∧
    (∃ (s : State) (n age : Nat), let (num, den) := s.refNominal n; (s.refType n = 1 ∨ s.refType n = 2) ∧ (0 < num)) ∧
    (∃ (s : State) (n : Fin 12) (interval : Nat), let b := s.begin; (b.dictUp = true) ∧ (b.rd Dict.REF_QUAL_STATE n ≠ 0) ∧ (b.isGlitch n interval = false)) ∧
    (∃ (s : State) (n : Fin 12) (interval : Nat), let b := s.begin; let good := if b.refType n = 7 then (b.refAt n).goodAt else (b.refAt n).goodEdge (b.now - interval) + 1; let counted := (b.modRef n (fun r => { r with goodAt := good, glitchTimes := List.filter (fun t => decide (b.now < t + b.glitchSpan n)) (b.now :: r.glitchTimes) })).inc Dict.REF_GLITCHES n; let told := (counted.raise Event.REF_GLITCH n (min interval 4294967295)).ignoreRef n; (b.dictUp = true) ∧ (b.rd Dict.REF_QUAL_STATE n ≠ 0) ∧ (b.isGlitch n interval = true) ∧ (told.glitchy n = false)) ∧
    (∃ (s : State) (n : Fin 12) (interval : Nat), let b := s.begin; let good := if b.refType n = 7 then (b.refAt n).goodAt else (b.refAt n).goodEdge (b.now - interval) + 1; let counted := (b.modRef n (fun r => { r with goodAt := good, glitchTimes := List.filter (fun t => decide (b.now < t + b.glitchSpan n)) (b.now :: r.glitchTimes) })).inc Dict.REF_GLITCHES n; let told := (counted.raise Event.REF_GLITCH n (min interval 4294967295)).ignoreRef n; (b.dictUp = true) ∧ (b.rd Dict.REF_QUAL_STATE n ≠ 0) ∧ (b.isGlitch n interval = true) ∧ (told.glitchy n = true)) ∧
    (∃ (s : State) (n : Fin 12) (m : RefMeasure), let b := s.begin; let r := b.refAt n; (b.dictUp = true) ∧ (b.rd Dict.REF_QUAL_STATE n ≠ 0) ∧ (b.now < r.intervalAt + refInterval (b.refType n) * nsPerS)) ∧
    (∃ (s : State) (n : Fin 12) (m : RefMeasure), let b := s.begin; let r := b.refAt n; let u := b.takeMeasure n m; let cause := u.causesAt n m (b.rateChanged n m); let v := (u.loopMeasure n m cause).setCause n cause u.now; (b.dictUp = true) ∧ (b.rd Dict.REF_QUAL_STATE n ≠ 0) ∧ (r.intervalAt + refInterval (b.refType n) * nsPerS ≤ b.now) ∧ (v.flag Dict.REF_DRIFT_ALARM n = b.flag Dict.REF_DRIFT_ALARM n)) ∧
    (∃ (s : State) (n : Fin 12) (m : RefMeasure), let b := s.begin; let r := b.refAt n; let u := b.takeMeasure n m; let cause := u.causesAt n m (b.rateChanged n m); let v := (u.loopMeasure n m cause).setCause n cause u.now; (b.dictUp = true) ∧ (b.rd Dict.REF_QUAL_STATE n ≠ 0) ∧ (r.intervalAt + refInterval (b.refType n) * nsPerS ≤ b.now) ∧ (v.flag Dict.REF_DRIFT_ALARM n ≠ b.flag Dict.REF_DRIFT_ALARM n)) ∧
    (∃ (s : State) (n : Fin 12) (m : RefMeasure), let drift := s.driftOf n m.offset; let w := s.rd Dict.REF_FREQ_WINDOW n * 65536; (s.flag Dict.REF_DRIFT_ALARM n = false) ∧ (w ≤ 2 * drift.natAbs)) ∧
    (∃ (s : State) (n : Fin 12) (m : RefMeasure), let drift := s.driftOf n m.offset; let w := s.rd Dict.REF_FREQ_WINDOW n * 65536; (s.flag Dict.REF_DRIFT_ALARM n = false) ∧ (2 * drift.natAbs < w)) ∧
    (∃ (s : State) (n : Fin 12) (m : RefMeasure), let drift := s.driftOf n m.offset; let w := s.rd Dict.REF_FREQ_WINDOW n * 65536; (s.flag Dict.REF_DRIFT_ALARM n = true) ∧ (10 * drift.natAbs < 4 * w)) ∧
    (∃ (s : State) (n : Fin 12) (m : RefMeasure), let drift := s.driftOf n m.offset; let w := s.rd Dict.REF_FREQ_WINDOW n * 65536; (s.flag Dict.REF_DRIFT_ALARM n = true) ∧ (4 * w ≤ 10 * drift.natAbs)) ∧
    (∃ (s : State) (n : Fin 12), let b := s.begin; let r := b.refAt n; (b.dictUp = true) ∧ (b.rd Dict.REF_QUAL_STATE n = 2) ∧ (b.now < r.waitSince + r.wait * nsPerS)) ∧
    (∃ (s : State) (n : Fin 12), let b := s.begin; let r := b.refAt n; (b.dictUp = true) ∧ (b.rd Dict.REF_QUAL_STATE n = 2) ∧ (r.waitSince + r.wait * nsPerS ≤ b.now)) ∧
    (∃ (s : State) (n : Fin 12) (domain sender : Nat) (p : PtpSync) (delay : Option Int), let b := s.begin; b.hearsPtp n domain = false ∨ 128 * p.interval < 1000000000) ∧
    (∃ (s : State) (n : Fin 12) (domain sender : Nat) (p : PtpSync) (delay : Option Int), let b := s.begin; let w := b.takeMaster n; let r := w.refAt n; (b.hearsPtp n domain = true) ∧ (1000000000 ≤ 128 * p.interval) ∧ (r.chosen ≠ sender + 1)) ∧
    (∃ (s : State) (n : Fin 12) (domain sender : Nat) (p : PtpSync) (delay : Option Int), let b := s.begin; let w := b.takeMaster n; let r := w.refAt n; (b.hearsPtp n domain = true) ∧ (1000000000 ≤ 128 * p.interval) ∧ (r.chosen = sender + 1) ∧ (syncSentAt p = none)) ∧
    (∃ (s : State) (n : Fin 12) (domain sender : Nat) (p : PtpSync) (delay : Option Int) (t1 : _), let b := s.begin; let w := b.takeMaster n; let r := w.refAt n; (b.hearsPtp n domain = true) ∧ (1000000000 ≤ 128 * p.interval) ∧ (r.chosen = sender + 1) ∧ (syncSentAt p = some t1) ∧ (delay = none) ∧ (r.delayValid = false)) ∧
    (∃ (s : State) (n : Fin 12) (domain sender : Nat) (p : PtpSync) (delay : Option Int) (t1 : _), let b := s.begin; let w := b.takeMaster n; let r := w.refAt n; (b.hearsPtp n domain = true) ∧ (1000000000 ≤ 128 * p.interval) ∧ (r.chosen = sender + 1) ∧ (syncSentAt p = some t1) ∧ (delay = none) ∧ (r.delayValid = true)) ∧
    (∃ (s : State) (n : Fin 12) (domain sender : Nat) (p : PtpSync) (delay : Option Int) (t1 : _) (t4 : _), let b := s.begin; let w := b.takeMaster n; let r := w.refAt n; (b.hearsPtp n domain = true) ∧ (1000000000 ≤ 128 * p.interval) ∧ (r.chosen = sender + 1) ∧ (syncSentAt p = some t1) ∧ (delay = some t4) ∧ (r.reqAt ≠ 0)) ∧
    (∃ (s : State) (n : Nat) (offset : Int), let r := s.refAt n; r.offsetValid = false) ∧
    (∃ (s : State) (n : Nat) (offset : Int), let r := s.refAt n; r.offsetValid = true) ∧
    (∃ (s : State) (n : Fin 12) (a : Announce), let b := s.begin; b.hearsPtp n a.domain = true) ∧
    (∃ (s : State) (n : Fin 12) (a : Announce), let b := s.begin; b.hearsPtp n a.domain = false) := by
  refine ⟨⟨Tests.at 4, 11, 11, by decide +kernel⟩,
    ⟨Tests.wrs (Tests.at 4) 11 [(Dict.REF_TYPE, 3), (Dict.REF_SOURCE, 3)], 11, 11, by decide +kernel⟩,
    ⟨Tests.at 4, 11, 11, { abort := 134217762, detail := 96, fieldIndex := 8475, fieldSub := 3, entry := 4294967295, ownEvent := false }, by decide +kernel⟩,
    ⟨Tests.wrs (Tests.at 4) 11 [(Dict.REF_TYPE, 1), (Dict.REF_ENABLE, 1)], 11, 11, by decide +kernel⟩,
    ⟨Tests.wrs (Tests.at 4) 11 [(Dict.REF_TYPE, 1)], 11, 11, by decide +kernel⟩,
    ⟨Tests.at 4, 11, 11, by decide +kernel⟩,
    ⟨Tests.wrs (Tests.at 4) 11 [(Dict.REF_TYPE, 5), (Dict.REF_QUAL_STATE, 1)], 11, false, 1499999999, by decide +kernel⟩,
    ⟨Tests.wrs (Tests.at 4) 11 [(Dict.REF_TYPE, 5), (Dict.REF_QUAL_STATE, 1)], 11, false, 1500000000, by decide +kernel⟩,
    ⟨Tests.wrs (Tests.at 4) 11 [(Dict.REF_TYPE, 7), (Dict.REF_QUAL_STATE, 1)], 11, true, 0, by decide +kernel⟩,
    ⟨Tests.wrs (Tests.at 4) 11 [(Dict.REF_TYPE, 5)], 11, 0, by decide +kernel⟩,
    ⟨Tests.wrs (Tests.at 4) 11 [(Dict.REF_TYPE, 7)], 11, 0, by decide +kernel⟩,
    ⟨Tests.wrs (Tests.at 4) 11 [(Dict.REF_TYPE, 7)], 11, 0, by decide +kernel⟩,
    ⟨Tests.wrs (Tests.at 4) 11 [(Dict.REF_TYPE, 3), (Dict.REF_NOMINAL_NUM, 60)], 11, 0, by decide +kernel⟩,
    ⟨Tests.wrs (Tests.at 4) 11 [(Dict.REF_TYPE, 1), (Dict.REF_NOMINAL_NUM, 60)], 11, 0, by decide +kernel⟩,
    ⟨Tests.wrs (Tests.at 4) 11 [(Dict.REF_TYPE, 7), (Dict.REF_QUAL_STATE, 1)], 11, 1000, by decide +kernel⟩,
    ⟨Tests.wrs (Tests.at 4) 11 [(Dict.REF_TYPE, 7), (Dict.REF_QUAL_STATE, 1)], 11, 1001, by decide +kernel⟩,
    ⟨(Tests.wrs (Tests.at 4) 11 [(Dict.REF_TYPE, 7), (Dict.REF_QUAL_STATE, 1)]).putRef 11 { Ref.init with glitchTimes := [5000000000, 5000000000, 5000000000, 5000000000] }, 11, 1001, by decide +kernel⟩,
    ⟨(Tests.wrs (Tests.at 4) 11 [(Dict.REF_TYPE, 1), (Dict.REF_QUAL_STATE, 1)]).putRef 11 { Ref.init with intervalAt := 4000000001 }, 11, ⟨0, 0, 0, 1, 0, 0, 0⟩, by decide +kernel⟩,
    ⟨(Tests.wrs (Tests.at 4) 11 [(Dict.REF_TYPE, 1), (Dict.REF_QUAL_STATE, 1), (Dict.REF_FREQ_WINDOW, 10)]).putRef 11 { Ref.init with intervalAt := 4000000000 }, 11, ⟨0, 0, 0, 1, 0, 0, 0⟩, by decide +kernel⟩,
    ⟨(Tests.wrs (Tests.at 4) 11 [(Dict.REF_TYPE, 1), (Dict.REF_QUAL_STATE, 1), (Dict.REF_FREQ_WINDOW, 10)]).putRef 11 { Ref.init with intervalAt := 4000000000, everQual := true }, 11, ⟨327680, 0, 0, 1, 0, 0, 0⟩, by decide +kernel⟩,
    ⟨(Tests.wrs (Tests.at 4) 11 [(Dict.REF_FREQ_WINDOW, 10)]).putRef 11 { Ref.init with everQual := true }, 11, ⟨327680, 0, 0, 1, 0, 0, 0⟩, by decide +kernel⟩,
    ⟨(Tests.wrs (Tests.at 4) 11 [(Dict.REF_FREQ_WINDOW, 10)]).putRef 11 { Ref.init with everQual := true }, 11, ⟨327679, 0, 0, 1, 0, 0, 0⟩, by decide +kernel⟩,
    ⟨(Tests.wrs (Tests.at 4) 11 [(Dict.REF_FREQ_WINDOW, 10), (Dict.REF_DRIFT_ALARM, 1)]).putRef 11 { Ref.init with everQual := true }, 11, ⟨262143, 0, 0, 1, 0, 0, 0⟩, by decide +kernel⟩,
    ⟨(Tests.wrs (Tests.at 4) 11 [(Dict.REF_FREQ_WINDOW, 10), (Dict.REF_DRIFT_ALARM, 1)]).putRef 11 { Ref.init with everQual := true }, 11, ⟨262144, 0, 0, 1, 0, 0, 0⟩, by decide +kernel⟩,
    ⟨(Tests.wrs (Tests.at 4) 11 [(Dict.REF_QUAL_STATE, 2)]).putRef 11 { Ref.init with waitSince := 4000000001, wait := 1 }, 11, by decide +kernel⟩,
    ⟨(Tests.wrs (Tests.at 4) 11 [(Dict.REF_QUAL_STATE, 2)]).putRef 11 { Ref.init with waitSince := 4000000000, wait := 1 }, 11, by decide +kernel⟩,
    ⟨Tests.wrs (Tests.at 4) 11 [(Dict.REF_TYPE, 7), (Dict.REF_QUAL_STATE, 1)], 11, 127, 0, ⟨0, false, none, 7812499⟩, none, by decide +kernel⟩,
    ⟨(Tests.wrs (Tests.at 4) 11 [(Dict.REF_TYPE, 7), (Dict.REF_QUAL_STATE, 1)]).putRef 11 { Ref.init with masters := [(⟨127, 0, 0, 0, 0, 0, 0, 0, 1, 0, false, 1000000000⟩, 5000000000)], chosen := 2, offsetValid := true }, 11, 127, 0, ⟨0, false, none, 7812500⟩, none, by decide +kernel⟩,
    ⟨(Tests.wrs (Tests.at 4) 11 [(Dict.REF_TYPE, 7), (Dict.REF_QUAL_STATE, 1)]).putRef 11 { Ref.init with masters := [(⟨127, 0, 0, 0, 0, 0, 0, 0, 1, 0, false, 1000000000⟩, 5000000000)], chosen := 2, offsetValid := true }, 11, 127, 1, ⟨0, true, none, 7812500⟩, none, by decide +kernel⟩,
    ⟨(Tests.wrs (Tests.at 4) 11 [(Dict.REF_TYPE, 7), (Dict.REF_QUAL_STATE, 1)]).putRef 11 { Ref.init with masters := [(⟨127, 0, 0, 0, 0, 0, 0, 0, 1, 0, false, 1000000000⟩, 5000000000)], chosen := 2 }, 11, 127, 1, ⟨0, false, none, 7812500⟩, none, 0, by decide +kernel⟩,
    ⟨(Tests.wrs (Tests.at 4) 11 [(Dict.REF_TYPE, 7), (Dict.REF_QUAL_STATE, 1)]).putRef 11 { Ref.init with masters := [(⟨127, 0, 0, 0, 0, 0, 0, 0, 1, 0, false, 1000000000⟩, 5000000000)], chosen := 2, delayValid := true }, 11, 127, 1, ⟨0, true, some (-1), 7812500⟩, none, -1, by decide +kernel⟩,
    ⟨(Tests.wrs (Tests.at 4) 11 [(Dict.REF_TYPE, 7), (Dict.REF_QUAL_STATE, 1)]).putRef 11 { Ref.init with masters := [(⟨127, 0, 0, 0, 0, 0, 0, 0, 1, 0, false, 1000000000⟩, 5000000000)], chosen := 2, reqAt := 1 }, 11, 127, 1, ⟨0, false, none, 7812500⟩, some (-1), 0, -1, by decide +kernel⟩,
    ⟨Tests.wrs (Tests.at 4) 11 [(Dict.REF_TYPE, 7)], 11, 0, by decide +kernel⟩,
    ⟨Tests.at 4 |>.putRef 11 { Ref.init with offsetValid := true }, 11, 0, by decide +kernel⟩,
    ⟨Tests.wrs (Tests.at 4) 11 [(Dict.REF_TYPE, 7), (Dict.REF_QUAL_STATE, 1)], 11, ⟨127, 0, 0, 0, 0, 0, 0, 0, 1, 0, false, 1000000000⟩, by decide +kernel⟩,
    ⟨Tests.wrs (Tests.at 4) 11 [(Dict.REF_TYPE, 7), (Dict.REF_QUAL_STATE, 1)], 11, ⟨126, 0, 0, 0, 0, 0, 0, 0, 1, 0, false, 1000000000⟩, by decide +kernel⟩⟩

theorem test_wit_SelectionAndHoldover :
    (∃ (s : State) (k : Fin 12) (v : Nat), let b := s.begin.actBy k; Safety.passesScalar b k Dict.SELECTOR_FORCE 0 0 v) ∧
    (∃ (s : State) (k : Fin 12) (v : Nat), let b := s.begin.actBy k; Safety.passesScalar b k Dict.SELECTOR_REVERTIVE 0 0 v) ∧
    (∃ (s : State), let mode := s.rd Dict.HENTIS_LOOP_MODE; mode = 2) ∧
    (∃ (s : State), let cands := s.ranking; let cur := if s.switching then s.rd Dict.SELECTOR_TARGET else s.rd Dict.SELECTOR_SELECTED; let best := s.bestRef cur; let mode := s.rd Dict.HENTIS_LOOP_MODE; (mode ≠ 2) ∧ (cur ∉ cands) ∧ (best ≠ 0xFF)) ∧
    (∃ (s : State), let cands := s.ranking; let cur := if s.switching then s.rd Dict.SELECTOR_TARGET else s.rd Dict.SELECTOR_SELECTED; let best := s.bestRef cur; let st := s.rd Dict.HENTIS_STATE; let mode := s.rd Dict.HENTIS_LOOP_MODE; (mode ≠ 2) ∧ (cur ∉ cands) ∧ (best = 0xFF) ∧ (st = 1 ∨ st = 2)) ∧
    (∃ (s : State), let cands := s.ranking; let cur := if s.switching then s.rd Dict.SELECTOR_TARGET else s.rd Dict.SELECTOR_SELECTED; let best := s.bestRef cur; let st := s.rd Dict.HENTIS_STATE; let mode := s.rd Dict.HENTIS_LOOP_MODE; (mode = 1) ∧ (cur ∉ cands) ∧ (best = 0xFF) ∧ (¬ (st = 1 ∨ st = 2))) ∧
    (∃ (s : State), let cands := s.ranking; let cur := if s.switching then s.rd Dict.SELECTOR_TARGET else s.rd Dict.SELECTOR_SELECTED; let best := s.bestRef cur; let mode := s.rd Dict.HENTIS_LOOP_MODE; (mode ≠ 2) ∧ (cur ∈ cands) ∧ (best ≠ cur) ∧ (s.rd Dict.SELECTOR_FORCE = best ∨
      (s.flag Dict.SELECTOR_REVERTIVE = true ∧ s.refBefore best cur = true))) ∧
    (∃ (s : State), let cands := s.ranking; let cur := if s.switching then s.rd Dict.SELECTOR_TARGET else s.rd Dict.SELECTOR_SELECTED; let best := s.bestRef cur; let mode := s.rd Dict.HENTIS_LOOP_MODE; (mode ≠ 2) ∧ (cur ∈ cands) ∧ (best = cur ∨ (s.rd Dict.SELECTOR_FORCE ≠ best ∧
      (s.flag Dict.SELECTOR_REVERTIVE = false ∨ s.refBefore best cur = false)))) ∧
    (∃ (s : State) (phase : Int), let b := s.begin; (b.dictUp = true) ∧ (b.switching = true) ∧ (b.hentis.slewTo = some b.dcoWord)) ∧
    (∃ (s : State), let b := s.begin; let n := b.rd Dict.SELECTOR_SELECTED; (b.dictUp = true) ∧ (b.rd Dict.HENTIS_STATE = 1) ∧ (b.follows n = true) ∧ (b.hentis.ignoring = false) ∧ (b.since b.hentis.boundSince (tenTaus (refBandwidth (b.refType n)).2.2) = true) ∧ (b.hentis.firstLock = true)) ∧
    (∃ (s : State), let b := s.begin; let n := b.rd Dict.SELECTOR_SELECTED; let l := b.setHentis 2; let w : State := { l with hentis := { l.hentis with firstLock := true } }; (b.dictUp = true) ∧ (b.rd Dict.HENTIS_STATE = 1) ∧ (b.follows n = true) ∧ (b.hentis.ignoring = false) ∧ (b.since b.hentis.boundSince (tenTaus (refBandwidth (b.refType n)).2.2) = true) ∧ (b.hentis.firstLock = false) ∧ (w.flag Dict.HENTIS_ALIGN_AT_LOCK = false)) ∧
    (∃ (s : State), let b := s.begin; let n := b.rd Dict.SELECTOR_SELECTED; let l := b.setHentis 2; let w : State := { l with hentis := { l.hentis with firstLock := true } }; (b.dictUp = true) ∧ (b.rd Dict.HENTIS_STATE = 1) ∧ (b.follows n = true) ∧ (b.hentis.ignoring = false) ∧ (b.since b.hentis.boundSince (tenTaus (refBandwidth (b.refType n)).2.2) = true) ∧ (b.hentis.firstLock = false) ∧ (w.flag Dict.HENTIS_ALIGN_AT_LOCK = true) ∧ (w.aligning = false)) ∧
    (∃ (s : State), let b := s.begin; (b.dictUp = true) ∧ (b.rd Dict.HENTIS_STATE = 3) ∧ (b.hentis.holdSince ≠ 0) ∧ (b.hentis.holdSince - 1 + b.hentis.holdLimit * 1000000000 ≤ b.now)) ∧
    (∃ (s : State), let b := s.begin; (b.dictUp = true) ∧ (b.rd Dict.HENTIS_STATE = 3) ∧ (b.hentis.holdSince ≠ 0) ∧ (b.now < b.hentis.holdSince - 1 + b.hentis.holdLimit * 1000000000)) ∧
    (∃ (s : State), let b := s.begin; let h := b.hentis; (b.dictUp = true) ∧ (h.secondAt + 1000000000 ≤ b.now)) ∧
    (∃ (s : State), (s.dictUp = true) ∧ (s.rd Dict.HENTIS_STATE = 3) ∧ (s.hentis.slewTo = some s.dcoWord)) ∧
    (∃ (s : State) (k : Fin 12) (v : Nat), let b := s.begin.actBy k; let old := b.rd Dict.HENTIS_LOOP_MODE; (Safety.passesScalar b k Dict.HENTIS_LOOP_MODE 0 0 v) ∧ (v = old)) ∧
    (∃ (s : State) (k : Fin 12) (v : Nat), let b := s.begin.actBy k; let old := b.rd Dict.HENTIS_LOOP_MODE; (Safety.passesScalar b k Dict.HENTIS_LOOP_MODE 0 0 v) ∧ (v ≠ old) ∧ (v = 0)) ∧
    (∃ (s : State) (k : Fin 12) (v : Nat), let b := s.begin.actBy k; let old := b.rd Dict.HENTIS_LOOP_MODE; (Safety.passesScalar b k Dict.HENTIS_LOOP_MODE 0 0 v) ∧ (v ≠ old) ∧ (v ≠ 0)) ∧
    (∃ (s : State) (k : Fin 12) (v : Nat), let b := s.begin.actBy k; (Safety.passesScalar b k Dict.HENTIS_STEER_FREQ 0 0 v) ∧ (b.rd Dict.HENTIS_LOOP_MODE = 1)) ∧
    (∃ (s : State) (k : Fin 12) (v : Nat), let b := s.begin.actBy k; (Safety.passesScalar b k Dict.HENTIS_STEER_FREQ 0 0 v) ∧ (b.rd Dict.HENTIS_LOOP_MODE ≠ 1)) := by
  refine ⟨⟨Tests.at 4, 11, 0, by decide +kernel⟩,
    ⟨Tests.at 4, 11, 0, by decide +kernel⟩,
    ⟨Tests.wrs (Tests.at 4) 0 [(Dict.HENTIS_LOOP_MODE, 2)], by decide +kernel⟩,
    ⟨Tests.wrs (Tests.at 4) 11 [(Dict.REF_QUAL_STATE, 3)], by decide +kernel⟩,
    ⟨Tests.wrs (Tests.at 4) 0 [(Dict.HENTIS_STATE, 1), (Dict.SELECTOR_SELECTED, 11)], by decide +kernel⟩,
    ⟨Tests.wrs (Tests.at 4) 0 [(Dict.HENTIS_LOOP_MODE, 1)], by decide +kernel⟩,
    ⟨Tests.wrs (Tests.wrs (Tests.wrs (Tests.at 4) 11 [(Dict.REF_QUAL_STATE, 3)]) 0 [(Dict.REF_QUAL_STATE, 3)]) 0 [(Dict.SELECTOR_SELECTED, 11), (Dict.SELECTOR_FORCE, 0)], by decide +kernel⟩,
    ⟨Tests.wrs (Tests.wrs (Tests.wrs (Tests.at 4) 11 [(Dict.REF_QUAL_STATE, 3)]) 0 [(Dict.REF_QUAL_STATE, 3)]) 0 [(Dict.SELECTOR_SELECTED, 11), (Dict.SELECTOR_REVERTIVE, 0)], by decide +kernel⟩,
    ⟨{ Tests.wrs (Tests.at 4) 0 [(Dict.SELECTOR_TARGET, 11), (Dict.HENTIS_STATE, 3)] with hentis := { Hentis.init with slewTo := some 0 } }, 0, by decide +kernel⟩,
    ⟨{ Tests.wrs (Tests.wrs (Tests.at 4) 0 [(Dict.HENTIS_STATE, 1), (Dict.SELECTOR_SELECTED, 11)]) 11 [(Dict.REF_TYPE, 1)] with hentis := { Hentis.init with boundSince := 1, firstLock := true } }, by decide +kernel⟩,
    ⟨{ Tests.wrs (Tests.wrs (Tests.at 4) 0 [(Dict.HENTIS_STATE, 1), (Dict.SELECTOR_SELECTED, 11), (Dict.HENTIS_ALIGN_AT_LOCK, 0)]) 11 [(Dict.REF_TYPE, 1)] with hentis := { Hentis.init with boundSince := 1 } }, by decide +kernel⟩,
    ⟨{ Tests.wrs (Tests.wrs (Tests.at 4) 0 [(Dict.HENTIS_STATE, 1), (Dict.SELECTOR_SELECTED, 11), (Dict.HENTIS_ALIGN_AT_LOCK, 1)]) 11 [(Dict.REF_TYPE, 1)] with hentis := { Hentis.init with boundSince := 1 } }, by decide +kernel⟩,
    ⟨{ Tests.wrs (Tests.at 4) 0 [(Dict.HENTIS_STATE, 3)] with hentis := { Hentis.init with holdSince := 1, holdLimit := 5 } }, by decide +kernel⟩,
    ⟨{ Tests.wrs (Tests.at 4) 0 [(Dict.HENTIS_STATE, 3)] with hentis := { Hentis.init with holdSince := 2, holdLimit := 5 } }, by decide +kernel⟩,
    ⟨Tests.at 4, by decide +kernel⟩,
    ⟨{ Tests.wrs (Tests.at 4) 0 [(Dict.HENTIS_STATE, 3)] with hentis := { Hentis.init with slewTo := some 0 } }, by decide +kernel⟩,
    ⟨Tests.at 4, 11, 0, by decide +kernel⟩,
    ⟨Tests.wrs (Tests.at 4) 0 [(Dict.HENTIS_LOOP_MODE, 2)], 11, 0, by decide +kernel⟩,
    ⟨Tests.at 4, 11, 1, by decide +kernel⟩,
    ⟨Tests.wrs (Tests.at 4) 0 [(Dict.HENTIS_LOOP_MODE, 1)], 11, 13107200000, by decide +kernel⟩,
    ⟨Tests.at 4, 11, 0, by decide +kernel⟩⟩

theorem test_wit_Alignments :
    (∃ (s : State) (k : Fin 12), let b := s.begin.actBy k; (Safety.passesScalar b k Dict.HENTIS_ALIGN 0 0 1) ∧ (b.aligning = true)) ∧
    (∃ (s : State) (k : Fin 12), let b := s.begin.actBy k; (Safety.passesScalar b k Dict.HENTIS_ALIGN 0 0 1) ∧ (b.alignStep = none)) ∧
    (∃ (s : State) (k : Fin 12) (d ptp : _), let b := s.begin.actBy k; (Safety.passesScalar b k Dict.HENTIS_ALIGN 0 0 1) ∧ (b.aligning = false) ∧ (b.alignStep = some (d, ptp)) ∧ (b.rd Dict.HENTIS_ALIGN_MODE = 0)) ∧
    (∃ (s : State) (k : Fin 12) (d ptp : _), let b := s.begin.actBy k; (Safety.passesScalar b k Dict.HENTIS_ALIGN 0 0 1) ∧ (b.aligning = false) ∧ (b.alignStep = some (d, ptp)) ∧ (b.rd Dict.HENTIS_ALIGN_MODE ≠ 0) ∧ (b.rd Dict.HENTIS_ALIGN_TARGET ≠ 0)) ∧
    (∃ (s : State) (k : Fin 12) (d ptp : _), let b := s.begin.actBy k; (Safety.passesScalar b k Dict.HENTIS_ALIGN 0 0 1) ∧ (b.aligning = false) ∧ (b.alignStep = some (d, ptp)) ∧ (b.rd Dict.HENTIS_ALIGN_MODE ≠ 0) ∧ (b.rd Dict.HENTIS_ALIGN_TARGET = 0) ∧ (b.slowestFtg = none)) ∧
    (∃ (s : State) (k : Fin 12) (d ptp : _) (n : _), let b := s.begin.actBy k; (Safety.passesScalar b k Dict.HENTIS_ALIGN 0 0 1) ∧ (b.aligning = false) ∧ (b.alignStep = some (d, ptp)) ∧ (b.rd Dict.HENTIS_ALIGN_MODE ≠ 0) ∧ (b.rd Dict.HENTIS_ALIGN_TARGET = 0) ∧ (b.slowestFtg = some n)) ∧
    (∃ (s : State) (mode : Nat) (d : Int), 0 ≤ (s.timebase : Int) * 65536000000000 + s.dcoRest + d * 65536000000) ∧
    (∃ (s : State) (k : Fin 12), let b := s.begin.actBy k; Safety.passesScalar b k Dict.HENTIS_ALIGN 0 0 2) ∧
    (∃ (s : State), s.hentis.slewing = false) ∧
    (∃ (s : State), s.hentis.slewing = true) ∧
    (∃ (s : State), let b := s.begin; (s.dictUp = true) ∧ (b.hentis.alignLeft = 0)) ∧
    (∃ (s : State), let b := s.begin; (s.dictUp = true) ∧ (b.hentis.alignLeft ≠ 0)) ∧
    (∃ (s : State), let b := s.begin; b.hentis.jump = none) ∧
    (∃ (s : State) (mode d : _), let b := s.begin; (s.dictUp = true) ∧ (b.hentis.jump = some (mode, d)) ∧ (b.jumpDue = true)) ∧
    (∃ (s : State), let b := s.begin; b.jumpDue = false) ∧
    (∃ (s : State) (k : Fin 12) (v : Nat), let b := s.begin.actBy k; (Safety.passesScalar b k Dict.TIMEBASE_SET 0 0 v) ∧ (b.aligning = true)) ∧
    (∃ (s : State) (k : Fin 12) (v : Nat), let b := s.begin.actBy k; (Safety.passesScalar b k Dict.TIMEBASE_SET 0 0 v) ∧ (b.aligning = false) ∧ (b.slowestFtg = none)) ∧
    (∃ (s : State) (k : Fin 12) (v : Nat) (n : _), let b := s.begin.actBy k; (Safety.passesScalar b k Dict.TIMEBASE_SET 0 0 v) ∧ (b.aligning = false) ∧ (b.slowestFtg = some n)) ∧
    (∃ (s : State) (k : Fin 12) (v : Nat), let b := s.begin.actBy k; (Safety.passesScalar b k Dict.HENTIS_STEER_PHASE 0 0 v) ∧ (b.rd Dict.HENTIS_LOOP_MODE ≠ 1)) ∧
    (∃ (s : State) (k : Fin 12) (v : Nat), let b := s.begin.actBy k; (Safety.passesScalar b k Dict.HENTIS_STEER_PHASE 0 0 v) ∧ (b.rd Dict.HENTIS_LOOP_MODE = 1)) := by
  refine ⟨⟨{ Tests.at 4 with hentis := { Hentis.init with slewing := true } }, 11, by decide +kernel⟩,
    ⟨Tests.at 4, 11, by decide +kernel⟩,
    ⟨Tests.wrs (Tests.at 4) 0 [(Dict.SELECTOR_SELECTED, 11), (Dict.HENTIS_ALIGN_MODE, 0)], 11, 0, false, by decide +kernel⟩,
    ⟨Tests.wrs (Tests.at 4) 0 [(Dict.HENTIS_ALIGN_TARGET, 2), (Dict.HENTIS_ALIGN_MODE, 1)], 11, 0, false, by decide +kernel⟩,
    ⟨Tests.wrs (Tests.at 4) 0 [(Dict.SELECTOR_SELECTED, 11), (Dict.HENTIS_ALIGN_MODE, 1)], 11, 0, false, by decide +kernel⟩,
    ⟨(Tests.wrs (Tests.at 4) 0 [(Dict.SELECTOR_SELECTED, 11), (Dict.HENTIS_ALIGN_MODE, 1)]).putFtg 7 { Ftg.init with running := true, nextStart := 0 }, 11, 0, false, 7, by decide +kernel⟩,
    ⟨Tests.at 4, 0, 0, by decide +kernel⟩,
    ⟨Tests.at 4, 11, by decide +kernel⟩,
    ⟨Tests.at 4, by decide +kernel⟩,
    ⟨{ Tests.at 4 with hentis := { Hentis.init with slewing := true } }, by decide +kernel⟩,
    ⟨Tests.at 4, by decide +kernel⟩,
    ⟨{ Tests.at 4 with hentis := { Hentis.init with alignLeft := 1 } }, by decide +kernel⟩,
    ⟨Tests.at 4, by decide +kernel⟩,
    ⟨{ { (Tests.at 4).putFtg 7 { Ftg.init with running := true, nextStart := 5 } with timebase := 5 } with hentis := { Hentis.init with jump := some (2, 1) } }, 2, 1, by decide +kernel⟩,
    ⟨{ { (Tests.at 4).putFtg 7 { Ftg.init with running := true, nextStart := 5 } with timebase := 4 } with hentis := { Hentis.init with jump := some (2, 1) } }, by decide +kernel⟩,
    ⟨{ Tests.at 4 with hentis := { Hentis.init with slewing := true } }, 11, 1, by decide +kernel⟩,
    ⟨Tests.at 4, 11, 1, by decide +kernel⟩,
    ⟨(Tests.at 4).putFtg 7 { Ftg.init with running := true, nextStart := 5 }, 11, 1, 7, by decide +kernel⟩,
    ⟨Tests.at 4, 11, 0, by decide +kernel⟩,
    ⟨{ Tests.wrs (Tests.at 4) 0 [(Dict.HENTIS_LOOP_MODE, 1)] with hentis := { Hentis.init with slewing := true } }, 11, 0, by decide +kernel⟩⟩

theorem test_wit_FrameTimingGenerators :
    (∃ (s : State) (k : Fin 12) (n : Fin 8), let b := s.begin.actBy k; let num := b.rd Dict.FTG_RATE_NUM n; let den := b.rd Dict.FTG_RATE_DEN n; (Safety.passesScalar b k Dict.FTG_ENABLE n 0 1) ∧ (num < den ∨ 240 * den < num)) ∧
    (∃ (s : State) (k : Fin 12) (n : Fin 8), let b := s.begin.actBy k; let num := b.rd Dict.FTG_RATE_NUM n; let den := b.rd Dict.FTG_RATE_DEN n; (Safety.passesScalar b k Dict.FTG_ENABLE n 0 1) ∧ (den ≤ num) ∧ (num ≤ 240 * den) ∧ (b.ftgNum n ≤ b.rd Dict.FTG_OFFSET n * b.ftgDen n)) ∧
    (∃ (s : State) (k : Fin 12) (n : Fin 8), let b := s.begin.actBy k; let num := b.rd Dict.FTG_RATE_NUM n; let den := b.rd Dict.FTG_RATE_DEN n; (Safety.passesScalar b k Dict.FTG_ENABLE n 0 1) ∧ (den ≤ num) ∧ (num ≤ 240 * den) ∧ (b.rd Dict.FTG_OFFSET n * b.ftgDen n < b.ftgNum n) ∧ ((b.ftgAt n).running = true)) ∧
    (∃ (s : State) (k : Fin 12) (n : Fin 8), let b := s.begin.actBy k; let num := b.rd Dict.FTG_RATE_NUM n; let den := b.rd Dict.FTG_RATE_DEN n; (Safety.passesScalar b k Dict.FTG_ENABLE n 0 1) ∧ (den ≤ num) ∧ (num ≤ 240 * den) ∧ (b.rd Dict.FTG_OFFSET n * b.ftgDen n < b.ftgNum n) ∧ ((b.ftgAt n).running = false) ∧ (b.flag Dict.FTG_ENABLE n = true)) ∧
    (∃ (s : State) (k : Fin 12) (n : Fin 8), let b := s.begin.actBy k; let num := b.rd Dict.FTG_RATE_NUM n; let den := b.rd Dict.FTG_RATE_DEN n; (Safety.passesScalar b k Dict.FTG_ENABLE n 0 1) ∧ (den ≤ num) ∧ (num ≤ 240 * den) ∧ (b.rd Dict.FTG_OFFSET n * b.ftgDen n < b.ftgNum n) ∧ ((b.ftgAt n).running = false) ∧ (b.flag Dict.FTG_ENABLE n = false)) ∧
    (∃ (s : State) (k : Fin 12) (n : Fin 8), let b := s.begin.actBy k; let f := b.ftgAt n; (Safety.passesScalar b k Dict.FTG_ENABLE n 0 0) ∧ (f.running = true)) ∧
    (∃ (s : State) (k : Fin 12) (n : Fin 8), let b := s.begin.actBy k; let f := b.ftgAt n; (Safety.passesScalar b k Dict.FTG_ENABLE n 0 0) ∧ (f.running = false)) ∧
    (∃ (s : State) (n : Fin 8), let b := s.begin; let j := if b.dictUp = true ∧ b.slowestFtg = some n.val then b.jumpIfDue else b; let f := j.ftgAt n; (3 ≤ j.devState) ∧ (j.devState ≤ 5) ∧ (f.running = true) ∧ (f.nextStart ≤ j.timebase) ∧ (f.stopping = true)) ∧
    (∃ (s : State) (n : Fin 8), let b := s.begin; let j := if b.dictUp = true ∧ b.slowestFtg = some n.val then b.jumpIfDue else b; let f := j.ftgAt n; (3 ≤ j.devState) ∧ (j.devState ≤ 5) ∧ (f.running = true) ∧ (f.nextStart ≤ j.timebase) ∧ (f.stopping = false)) ∧
    (∃ (s : State) (n : Fin 8), let b := s.begin; let j := if b.dictUp = true ∧ b.slowestFtg = some n.val then b.jumpIfDue else b; let f := j.ftgAt n; (3 ≤ j.devState) ∧ (j.devState ≤ 5) ∧ (f.running = true) ∧ (j.timebase < f.nextStart)) ∧
    (∃ (s : State) (n : Fin 8), let b := s.begin; let j := if b.dictUp = true ∧ b.slowestFtg = some n.val then b.jumpIfDue else b; let f := j.ftgAt n; (3 ≤ j.devState) ∧ (j.devState ≤ 5) ∧ (f.running = false) ∧ (j.flag Dict.FTG_ENABLE n = false)) ∧
    (∃ (s : State) (n : Fin 8), let b := s.begin; let j := if b.dictUp = true ∧ b.slowestFtg = some n.val then b.jumpIfDue else b; let f := j.ftgAt n; (3 ≤ j.devState) ∧ (j.devState ≤ 5) ∧ (f.running = false) ∧ (j.flag Dict.FTG_ENABLE n = true) ∧ (f.startAfter ≠ 0) ∧ (j.ftgNext n f.startAfter ≤ j.timebase)) := by
  refine ⟨⟨Tests.wrs (Tests.at 4) 7 [(Dict.FTG_RATE_NUM, 241)], 11, 7, by decide +kernel⟩,
    ⟨Tests.wrs (Tests.at 4) 7 [(Dict.FTG_OFFSET, 20000000)], 11, 7, by decide +kernel⟩,
    ⟨{ (Tests.wrs (Tests.at 4) 7 [(Dict.FTG_OFFSET, 19999999)]).putFtg 7 { Ftg.init with running := true } with timebase := 20000000 }, 11, 7, by decide +kernel⟩,
    ⟨Tests.wrs (Tests.at 4) 7 [(Dict.FTG_ENABLE, 1), (Dict.FTG_RATE_NUM, 240)], 11, 7, by decide +kernel⟩,
    ⟨Tests.at 4, 11, 7, by decide +kernel⟩,
    ⟨{ (Tests.wrs (Tests.at 4) 7 []).putFtg 7 { Ftg.init with running := true } with timebase := 20000000 }, 11, 7, by decide +kernel⟩,
    ⟨Tests.at 4, 11, 7, by decide +kernel⟩,
    ⟨{ (Tests.wrs (Tests.at 4) 7 []).putFtg 7 { Ftg.init with running := true, stopping := true, nextStart := 20000000 } with timebase := 20000000 }, 7, by decide +kernel⟩,
    ⟨{ (Tests.wrs (Tests.at 4) 7 []).putFtg 7 { Ftg.init with running := true, nextStart := 20000000 } with timebase := 20000000 }, 7, by decide +kernel⟩,
    ⟨{ (Tests.wrs (Tests.at 4) 7 []).putFtg 7 { Ftg.init with running := true, nextStart := 20000001 } with timebase := 20000000 }, 7, by decide +kernel⟩,
    ⟨Tests.at 4, 7, by decide +kernel⟩,
    ⟨{ (Tests.wrs (Tests.at 4) 7 [(Dict.FTG_ENABLE, 1)]).putFtg 7 { Ftg.init with startAfter := 1 } with timebase := 20000000 }, 7, by decide +kernel⟩⟩

theorem test_wit_SerialPortsAndStarts :
    (∃ (s : State) (k : Fin 12) (n : Fin 8), let b := s.begin.actBy k; (Safety.passesScalar b k Dict.SAP_ENABLE n 0 1) ∧ (b.flag Dict.SAP_ENABLE n = true)) ∧
    (∃ (s : State) (k : Fin 12) (n : Fin 8), let b := s.begin.actBy k; (Safety.passesScalar b k Dict.SAP_ENABLE n 0 1) ∧ (b.flag Dict.SAP_ENABLE n = false) ∧ (b.rd Dict.SAP_FORMAT n = 2) ∧ (49152000 < 32 * b.sapSlots n * b.matrixRate)) ∧
    (∃ (s : State) (k : Fin 12) (n : Fin 8) (d : _), let b := s.begin.actBy k; let on := b.wr Dict.SAP_ENABLE 1 n; (Safety.passesScalar b k Dict.SAP_ENABLE n 0 1) ∧ (b.flag Dict.SAP_ENABLE n = false) ∧ (b.rd Dict.SAP_FORMAT n ≠ 2 ∨ 32 * b.sapSlots n * b.matrixRate ≤ 49152000) ∧ (on.destRefusal 1 n = some d)) ∧
    (∃ (s : State) (k : Fin 12) (n : Fin 8), let b := s.begin.actBy k; let on := b.wr Dict.SAP_ENABLE 1 n; (Safety.passesScalar b k Dict.SAP_ENABLE n 0 1) ∧ (b.flag Dict.SAP_ENABLE n = false) ∧ (b.rd Dict.SAP_FORMAT n ≠ 2 ∨ 32 * b.sapSlots n * b.matrixRate ≤ 49152000) ∧ (on.destRefusal 1 n = none) ∧ (b.delayFits = false)) ∧
    (∃ (s : State) (k : Fin 12) (n : Fin 8), let b := s.begin.actBy k; let on := b.wr Dict.SAP_ENABLE 1 n; (Safety.passesScalar b k Dict.SAP_ENABLE n 0 1) ∧ (b.flag Dict.SAP_ENABLE n = false) ∧ (b.rd Dict.SAP_FORMAT n ≠ 2 ∨ 32 * b.sapSlots n * b.matrixRate ≤ 49152000) ∧ (on.destRefusal 1 n = none) ∧ (b.delayFits = true)) ∧
    (∃ (s : State) (k : Fin 12) (n : Fin 8), let b := s.begin.actBy k; (Safety.passesScalar b k Dict.SAP_ENABLE n 0 0) ∧ ((b.endpointAt (256 + n)).started = true)) ∧
    (∃ (s : State) (k : Fin 12) (n : Fin 8), let b := s.begin.actBy k; (Safety.passesScalar b k Dict.SAP_ENABLE n 0 0) ∧ ((b.endpointAt (256 + n)).started = false)) ∧
    (∃ (s : State) (n : Fin 8) (x : List Int), let b := s.begin; let key := 256 + n.val; let w := b.modEndpoint key (fun e => { e with seenAt := Store.write (fun _ => 0) e.seenAt 0 (b.now + 1) }); let e := w.endpointAt key; (b.alive = true) ∧ (b.flag Dict.SAP_ENABLE n = true) ∧ (b.sapSlave n = true) ∧ (e.started = false ∨ e.lostNow = true)) ∧
    (∃ (s : State) (n : Fin 8) (x : List Int) (y rest : _), let b := s.begin; let key := 256 + n.val; let w := b.modEndpoint key (fun e => { e with seenAt := Store.write (fun _ => 0) e.seenAt 0 (b.now + 1) }); let e := w.endpointAt key; (b.alive = true) ∧ (b.flag Dict.SAP_ENABLE n = true) ∧ (b.sapSlave n = true) ∧ (e.started = true) ∧ (e.lostNow = false) ∧ (w.sapSends n = true) ∧ (e.fifo = y :: rest)) ∧
    (∃ (s : State) (n : Fin 8) (x : List Int), let b := s.begin; let key := 256 + n.val; let w := b.modEndpoint key (fun e => { e with seenAt := Store.write (fun _ => 0) e.seenAt 0 (b.now + 1) }); let e := w.endpointAt key; (b.alive = true) ∧ (b.flag Dict.SAP_ENABLE n = true) ∧ (b.sapSlave n = true) ∧ (e.started = true) ∧ (e.lostNow = false) ∧ (w.sapSends n = true) ∧ (e.fifo = [])) ∧
    (∃ (s : State) (n : Fin 8) (x : List Int), let b := s.begin; let key := 256 + n.val; let w := b.modEndpoint key (fun e => { e with seenAt := Store.write (fun _ => 0) e.seenAt 0 (b.now + 1) }); let e := w.endpointAt key; (b.alive = true) ∧ (b.flag Dict.SAP_ENABLE n = true) ∧ (b.sapSlave n = true) ∧ (e.started = true) ∧ (e.lostNow = false) ∧ (w.sapSends n = false) ∧ (e.fifo.length < 64)) ∧
    (∃ (s : State) (n : Fin 8) (x : List Int), let b := s.begin; let key := 256 + n.val; let w := b.modEndpoint key (fun e => { e with seenAt := Store.write (fun _ => 0) e.seenAt 0 (b.now + 1) }); let e := w.endpointAt key; (b.alive = true) ∧ (b.flag Dict.SAP_ENABLE n = true) ∧ (b.sapSlave n = true) ∧ (e.started = true) ∧ (e.lostNow = false) ∧ (w.sapSends n = false) ∧ (64 ≤ e.fifo.length)) ∧
    (∃ (s : State) (n : Fin 8), let b := s.begin; let key := 256 + n.val; let e := b.endpointAt key; (b.alive = true) ∧ (b.flag Dict.SAP_ENABLE n = true) ∧ (b.sapSlave n = true) ∧ (e.lostNow = true)) ∧
    (∃ (s : State) (n : Fin 8), let b := s.begin; let key := 256 + n.val; let e := b.endpointAt key; (b.alive = true) ∧ (b.flag Dict.SAP_ENABLE n = true) ∧ (b.sapSlave n = true) ∧ (e.lostNow = false) ∧ (b.since (max 1 (Store.read (fun _ => 0) e.seenAt 0)) (2 * 1000000000 / b.matrixRate) = true)) ∧
    (∃ (s : State) (kind num : Nat), let b := s.begin; let key := audioKey kind num; let e := b.endpointAt key; (b.alive = true) ∧ (b.clocked kind num = true) ∧ (e.good = true) ∧ (kind = 1) ∧ (e.lostNow = true ∨ e.mismatch = true)) ∧
    (∃ (s : State) (kind num : Nat), let b := s.begin; let key := audioKey kind num; let e := b.endpointAt key; (b.alive = true) ∧ (b.clocked kind num = true) ∧ (e.good = true) ∧ (kind ≠ 1) ∧ (e.mismatch = true)) ∧
    (∃ (s : State) (kind num : Nat), let b := s.begin; let key := audioKey kind num; let e := b.endpointAt key; (b.alive = true) ∧ (b.clocked kind num = true) ∧ (e.good = true) ∧ (e.lostNow = false) ∧ (e.mismatch = false)) ∧
    (∃ (s : State) (num rate : Nat) (pcm : Bool), let b := s.begin; let nominal := b.matrixRate * 1000000; let gap := rateGap rate nominal; (b.alive = true) ∧ (gap * 1000000 ≤ 1000 * nominal) ∧ (pcm = true)) ∧
    (∃ (s : State) (num rate : Nat) (pcm : Bool), let b := s.begin; let key := 512 + num; let e := b.endpointAt key; let nominal := b.matrixRate * 1000000; let gap := rateGap rate nominal; (b.alive = true) ∧ (1000 * nominal < gap * 1000000 ∨ pcm = false) ∧ (e.mismatch = true)) ∧
    (∃ (s : State) (num rate : Nat) (pcm : Bool), let b := s.begin; let key := 512 + num; let e := b.endpointAt key; let nominal := b.matrixRate * 1000000; let gap := rateGap rate nominal; (b.alive = true) ∧ (1000 * nominal < gap * 1000000 ∨ pcm = false) ∧ (e.mismatch = false)) ∧
    (∃ (s : State) (num : Fin 8) (rate : Nat) (pcm : Bool), let b := s.begin; let key := 256 + num.val; let e := b.endpointAt key; let nominal := b.matrixRate * 1000000; let gap := rateGap rate nominal; let w := (b.putEndpoint key { e with rate := rate, good := decide (gap * 1000000 ≤ 500 * nominal) }).wr Dict.SAP_MEASURED_RATE rate num; (b.alive = true) ∧ (w.clocked 1 num = true) ∧ (e.rate = 0 ∨ rateGap rate e.rate * 1000000 ≤ 100 * e.rate) ∧ (gap * 1000000 ≤ 1000 * nominal ∨ e.mismatch = true ∨ e.lostNow = true)) ∧
    (∃ (s : State) (num : Fin 8) (rate : Nat) (pcm : Bool), let b := s.begin; let key := 256 + num.val; let e := b.endpointAt key; let nominal := b.matrixRate * 1000000; let gap := rateGap rate nominal; let w := (b.putEndpoint key { e with rate := rate, good := decide (gap * 1000000 ≤ 500 * nominal) }).wr Dict.SAP_MEASURED_RATE rate num; (b.alive = true) ∧ (w.clocked 1 num = true) ∧ (e.rate = 0 ∨ rateGap rate e.rate * 1000000 ≤ 100 * e.rate) ∧ (1000 * nominal < gap * 1000000) ∧ (e.mismatch = false) ∧ (e.lostNow = false)) ∧
    (∃ (s : State) (k : Fin 12), let b := s.begin.actBy k; let t := b.rd Dict.AUDIO_START_START_S * 1000000000 + b.rd Dict.AUDIO_START_START_NS; (Safety.passesScalar b k Dict.AUDIO_START_TRIGGER 0 0 1) ∧ (t = 0)) ∧
    (∃ (s : State) (k : Fin 12), let b := s.begin.actBy k; let t := b.rd Dict.AUDIO_START_START_S * 1000000000 + b.rd Dict.AUDIO_START_START_NS; (Safety.passesScalar b k Dict.AUDIO_START_TRIGGER 0 0 1) ∧ (t ≠ 0)) ∧
    (∃ (s : State) (k : Fin 12), let b := s.begin.actBy k; Safety.passesScalar b k Dict.AUDIO_START_TRIGGER 0 0 2) ∧
    (∃ (s : State), let b := s.begin; (b.alive = true) ∧ (b.flag Dict.AUDIO_START_PIN_ENABLE = true)) ∧
    (∃ (s : State), let b := s.begin; b.flag Dict.AUDIO_START_PIN_ENABLE = false) ∧
    (∃ (s : State), let b := s.begin; let i := b.audio.startAt; let due (t : State) := starters.filter (fun e => t.indexDue (t.endpointAt (audioKey e.1 e.2)).startAt); (b.alive = true) ∧ (b.indexDue i = false) ∧ (due b = [])) ∧
    (∃ (s : State), let b := s.begin; let i := b.audio.startAt; let l := starters.filter (fun e => b.starterOn e.1 e.2 && b.masked e.1 e.2 && !(b.endpointAt (audioKey e.1 e.2)).started); let w := ({ b with audio := { b.audio with startAt := 0 } } : State).startTogether l (i - 1) (b.rd Dict.AUDIO_START_SAP_MASK); let due (t : State) := starters.filter (fun e => t.indexDue (t.endpointAt (audioKey e.1 e.2)).startAt); (b.alive = true) ∧ (b.indexDue i = true) ∧ (due w = [])) ∧
    (∃ (s : State) (e rest : _), let b := s.begin; let i := b.audio.startAt; let due (t : State) := starters.filter (fun e => t.indexDue (t.endpointAt (audioKey e.1 e.2)).startAt); (b.alive = true) ∧ (b.indexDue i = false) ∧ (due b = e :: rest)) := by
  refine ⟨⟨Tests.wrs (Tests.at 4) 7 [(Dict.SAP_ENABLE, 1), (Dict.SAP_CLOCK_ROLE, 1), (Dict.SAP_DIRECTION, 0)], 11, 7, by decide +kernel⟩,
    ⟨Tests.wrs (Tests.at 4) 7 [(Dict.SAP_FORMAT, 2), (Dict.SAP_SLOTS, 16), (Dict.SAP_DIRECTION, 0)] |>.wr Dict.AUDIO_MATRIX_MATRIX_RATE_NUM 96001, 11, 7, by decide +kernel⟩,
    ⟨(((Tests.wrs (Tests.pool) 7 [(Dict.SAP_DIRECTION, 1)]).wr Dict.INPUT_PROTECTED 1 63).wrDom Dict.SAP_TX_MAP (leBytes 2 255 ++ Tests.z 30) 7).putChannelEntry 255 ([0, 63, 0, 2, 1] ++ Tests.z 11), 11, 7, 22, by decide +kernel⟩,
    ⟨Tests.at 4, 11, 7, ⟨by decide +kernel, by decide +kernel, by decide +kernel, by decide +kernel, Tests.no_delay _ Tests.at4_off (by decide +kernel)⟩⟩,
    ⟨Tests.wrs (Tests.pool) 0 [(Dict.SAP_ENABLE, 1)], 11, 7, by decide +kernel⟩,
    ⟨(Tests.wrs (Tests.at 4) 7 [(Dict.SAP_ENABLE, 1), (Dict.SAP_CLOCK_ROLE, 1), (Dict.SAP_DIRECTION, 0)]).putEndpoint 263 { Endpoint.init with started := true }, 11, 7, by decide +kernel⟩,
    ⟨Tests.at 4, 11, 7, by decide +kernel⟩,
    ⟨Tests.wrs (Tests.at 4) 7 [(Dict.SAP_ENABLE, 1), (Dict.SAP_CLOCK_ROLE, 1), (Dict.SAP_DIRECTION, 0)], 7, [], by decide +kernel⟩,
    ⟨(Tests.wrs (Tests.at 4) 7 [(Dict.SAP_ENABLE, 1), (Dict.SAP_CLOCK_ROLE, 1), (Dict.SAP_DIRECTION, 1)]).putEndpoint 263 { Endpoint.init with started := true, fifo := [[1]] }, 7, [], [1], [], by decide +kernel⟩,
    ⟨(Tests.wrs (Tests.at 4) 7 [(Dict.SAP_ENABLE, 1), (Dict.SAP_CLOCK_ROLE, 1), (Dict.SAP_DIRECTION, 1)]).putEndpoint 263 { Endpoint.init with started := true }, 7, [], by decide +kernel⟩,
    ⟨(Tests.wrs (Tests.at 4) 7 [(Dict.SAP_ENABLE, 1), (Dict.SAP_CLOCK_ROLE, 1), (Dict.SAP_DIRECTION, 0)]).putEndpoint 263 { Endpoint.init with started := true, fifo := List.replicate 63 [] }, 7, [], by decide +kernel⟩,
    ⟨(Tests.wrs (Tests.at 4) 7 [(Dict.SAP_ENABLE, 1), (Dict.SAP_CLOCK_ROLE, 1), (Dict.SAP_DIRECTION, 0)]).putEndpoint 263 { Endpoint.init with started := true, fifo := List.replicate 64 [] }, 7, [], by decide +kernel⟩,
    ⟨(Tests.wrs (Tests.at 4) 7 [(Dict.SAP_ENABLE, 1), (Dict.SAP_CLOCK_ROLE, 1), (Dict.SAP_DIRECTION, 0)]).putEndpoint 263 { Endpoint.init with lostNow := true }, 7, by decide +kernel⟩,
    ⟨Tests.wrs (Tests.at 4) 7 [(Dict.SAP_ENABLE, 1), (Dict.SAP_CLOCK_ROLE, 1), (Dict.SAP_DIRECTION, 0)], 7, by decide +kernel⟩,
    ⟨(Tests.wrs (Tests.at 4) 7 [(Dict.SAP_ENABLE, 1), (Dict.SAP_CLOCK_ROLE, 1), (Dict.SAP_DIRECTION, 0)]).putEndpoint 263 { Endpoint.init with good := true, mismatch := true }, 1, 7, by decide +kernel⟩,
    ⟨((Tests.at 4).putStreamEntry 63 ([1, 0, 0xFF, 1, 0, 96, 24, 0] ++ Tests.z 8 ++ [1, 0, 0, 0, 125, 0] ++ Tests.z 10)).putEndpoint 831 { Endpoint.init with good := true, mismatch := true }, 3, 63, by decide +kernel⟩,
    ⟨(Tests.wrs (Tests.at 4) 7 [(Dict.SAP_ENABLE, 1), (Dict.SAP_CLOCK_ROLE, 1), (Dict.SAP_DIRECTION, 0)]).putEndpoint 263 { Endpoint.init with good := true }, 1, 7, by decide +kernel⟩,
    ⟨Tests.at 4, 63, 48048000000, true, by decide +kernel⟩,
    ⟨(Tests.at 4).putEndpoint 575 { Endpoint.init with mismatch := true }, 63, 48048000001, true, by decide +kernel⟩,
    ⟨Tests.at 4, 0, 0, false, by decide +kernel⟩,
    ⟨Tests.wrs (Tests.at 4) 7 [(Dict.SAP_ENABLE, 1), (Dict.SAP_CLOCK_ROLE, 1), (Dict.SAP_DIRECTION, 0)], 7, 48048000000, true, by decide +kernel⟩,
    ⟨Tests.wrs (Tests.at 4) 7 [(Dict.SAP_ENABLE, 1), (Dict.SAP_CLOCK_ROLE, 1), (Dict.SAP_DIRECTION, 0)], 7, 48048000001, true, by decide +kernel⟩,
    ⟨Tests.at 4, 11, by decide +kernel⟩,
    ⟨Tests.wrs (Tests.at 4) 0 [(Dict.AUDIO_START_START_S, 1)], 11, by decide +kernel⟩,
    ⟨Tests.at 4, 11, by decide +kernel⟩,
    ⟨Tests.wrs (Tests.at 4) 0 [(Dict.AUDIO_START_PIN_ENABLE, 1)], by decide +kernel⟩,
    ⟨Tests.at 4, by decide +kernel⟩,
    ⟨Tests.at 4, by decide +kernel⟩,
    ⟨{ Tests.at 4 with audio := { (Tests.at 4).audio with startAt := 1 } }, by decide +kernel⟩,
    ⟨(Tests.wrs (Tests.at 4) 7 [(Dict.SAP_ENABLE, 1), (Dict.SAP_CLOCK_ROLE, 1), (Dict.SAP_DIRECTION, 0)]).putEndpoint 263 { Endpoint.init with startAt := 1 }, (1, 7), [], by decide +kernel⟩⟩

theorem test_wit_SoundMatrixAndStreams :
    (∃ (s : State) (saps : List (Nat × List Int)) (inputs : List (Nat × List (List Int))), let b := s.begin; let i := b.audio.next; (3 ≤ b.devState) ∧ (b.devState ≤ 5) ∧ (i * 1000000000 ≤ b.timebase * b.matrixRate)) ∧
    (∃ (s : State) (saps : List (Nat × List Int)) (inputs : List (Nat × List (List Int))), let b := s.begin; let i := b.audio.next; (3 ≤ b.devState) ∧ (b.devState ≤ 5) ∧ (b.timebase * b.matrixRate < i * 1000000000)) ∧
    (∃ (s : State) (k : Fin 64) (path : Fin 2) (seq : Nat) (x : List (List Int)), let b := s.begin; let key := 768 + k.val; let row := b.streamEntryAt k; let e := b.endpointAt key; (b.alive = true) ∧ (b.streamOn k = true) ∧ (path.val = 0 ∨ byteAt row 2 ≠ 0xFF) ∧ (e.started = true) ∧ (e.lostNow = false)) ∧
    (∃ (s : State) (k : Fin 64) (path : Fin 2) (seq : Nat) (x : List (List Int)), let b := s.begin; let key := 768 + k.val; let row := b.streamEntryAt k; let e := b.endpointAt key; (b.alive = true) ∧ (b.streamOn k = true) ∧ (path.val = 0 ∨ byteAt row 2 ≠ 0xFF) ∧ (e.started = false ∨ e.lostNow = true)) ∧
    (∃ (s : State) (e : Endpoint) (playout seq : Nat) (x : List (List Int)), (e.nextSeq = 0) ∧ (seq < 65536)) ∧
    (∃ (s : State) (k : Fin 64) (path : Fin 2), let b := s.begin; let key := 768 + k.val; let e := b.endpointAt key; let pair := byteAt (b.streamEntryAt k) 2 != 0xFF; let lost := putBit e.lostPaths path true; (b.alive = true) ∧ (b.streamOn k = true) ∧ (path.val = 0 ∨ pair = true) ∧ (bit e.lostPaths path = false) ∧ (b.since (max 1 (Store.read (fun _ => 0) e.seenAt path)) (3 * b.packetTime k) = true) ∧ (pair = true) ∧ (lost ≠ 3)) ∧
    (∃ (s : State) (k : Fin 64) (path : Fin 2), let b := s.begin; let key := 768 + k.val; let e := b.endpointAt key; let pair := byteAt (b.streamEntryAt k) 2 != 0xFF; let lost := putBit e.lostPaths path true; (b.alive = true) ∧ (b.streamOn k = true) ∧ (path.val = 0 ∨ pair = true) ∧ (bit e.lostPaths path = false) ∧ (b.since (max 1 (Store.read (fun _ => 0) e.seenAt path)) (3 * b.packetTime k) = true) ∧ (pair = true) ∧ (lost = 3)) ∧
    (∃ (s : State) (k : Fin 64) (path : Fin 2), let b := s.begin; let key := 768 + k.val; let e := b.endpointAt key; let pair := byteAt (b.streamEntryAt k) 2 != 0xFF; let lost := putBit e.lostPaths path true; (b.alive = true) ∧ (b.streamOn k = true) ∧ (path.val = 0 ∨ pair = true) ∧ (bit e.lostPaths path = false) ∧ (b.since (max 1 (Store.read (fun _ => 0) e.seenAt path)) (3 * b.packetTime k) = true) ∧ (pair = false) ∧ (lost = 1)) ∧
    (∃ (s : State) (k : Fin 12) (data : List Byte), let b := s.begin.actBy k; let w := b.window k Dict.AUDIO_MATRIX_CHANNEL_WINDOW; let entries := chunks 16 data.length data; let t := putEntries State.putChannelEntry b w entries; let bad (j : Nat) (row : List Byte) : Option Refuse := if t.channelValid row then (t.channelRefusal j).map (fun d => .tableEntry d j) else some { Refuse.plain 0x06090030 0x12 with entry := j }; (Safety.passes b k Dict.AUDIO_MATRIX_CHANNEL_TABLE 0 0 data) ∧ (firstBad bad w entries = none)) ∧
    (∃ (s : State) (k : Fin 12) (data : List Byte) (r : _), let b := s.begin.actBy k; let w := b.window k Dict.AUDIO_MATRIX_CHANNEL_WINDOW; let entries := chunks 16 data.length data; let t := putEntries State.putChannelEntry b w entries; let bad (j : Nat) (row : List Byte) : Option Refuse := if t.channelValid row then (t.channelRefusal j).map (fun d => .tableEntry d j) else some { Refuse.plain 0x06090030 0x12 with entry := j }; (Safety.passes b k Dict.AUDIO_MATRIX_CHANNEL_TABLE 0 0 data) ∧ (firstBad bad w entries = some r)) ∧
    (∃ (s : State) (k : Fin 12) (data : List Byte), let b := s.begin.actBy k; let w := b.window k Dict.AUDIO_MATRIX_STREAM_WINDOW; let entries := chunks 32 data.length data; let t := putEntries State.setStream b w entries; (Safety.passes b k Dict.AUDIO_MATRIX_STREAM_TABLE 0 0 data) ∧ (firstBad (b.judgeStream t) w entries = none)) ∧
    (∃ (s : State) (k : Fin 12) (data : List Byte) (r : _), let b := s.begin.actBy k; let w := b.window k Dict.AUDIO_MATRIX_STREAM_WINDOW; let entries := chunks 32 data.length data; let t := putEntries State.setStream b w entries; (Safety.passes b k Dict.AUDIO_MATRIX_STREAM_TABLE 0 0 data) ∧ (firstBad (b.judgeStream t) w entries = some r)) ∧
    (∃ (s : State) (k : Fin 12) (data : List Byte) (r : _), let b := s.begin.actBy k; let t := b.wrDom Dict.AUDIO_MATRIX_HEAD_MAP data; (Safety.passes b k Dict.AUDIO_MATRIX_HEAD_MAP 0 0 data) ∧ (allHeads.findSome? (t.judgeHeadMap data) = some r)) ∧
    (∃ (s : State) (k : Fin 12) (data : List Byte), let b := s.begin.actBy k; let t := b.wrDom Dict.AUDIO_MATRIX_HEAD_MAP data; (Safety.passes b k Dict.AUDIO_MATRIX_HEAD_MAP 0 0 data) ∧ (allHeads.findSome? (t.judgeHeadMap data) = none) ∧ (t.audioAllOff = false) ∧ (b.delayFits = false)) ∧
    (∃ (s : State) (k : Fin 12) (data : List Byte), let b := s.begin.actBy k; let t := b.wrDom Dict.AUDIO_MATRIX_HEAD_MAP data; (Safety.passes b k Dict.AUDIO_MATRIX_HEAD_MAP 0 0 data) ∧ (allHeads.findSome? (t.judgeHeadMap data) = none) ∧ (t.audioAllOff = true ∨ b.delayFits = true)) ∧
    (∃ (s : State) (k : Fin 12) (v : Nat), let b := s.begin.actBy k; Safety.passesScalar b k Dict.AUDIO_MATRIX_MATRIX_RATE_NUM 0 0 v) ∧
    (∃ (s : State) (k : Fin 12) (v : Nat), let b := s.begin.actBy k; Safety.passesScalar b k Dict.AUDIO_MATRIX_MATRIX_RATE_DEN 0 0 v) := by
  refine ⟨⟨Tests.at 4, [], [], by decide +kernel⟩,
    ⟨{ Tests.at 4 with audio := { (Tests.at 4).audio with next := 1 } }, [], [], by decide +kernel⟩,
    ⟨((Tests.at 4).putStreamEntry 63 ([1, 0, 47, 1, 0, 96, 24, 0] ++ Tests.z 8 ++ [1, 0, 0, 0, 125, 0] ++ Tests.z 10)).putEndpoint 831 { Endpoint.init with started := true }, 63, 1, 0, [], by decide +kernel⟩,
    ⟨(Tests.at 4).putStreamEntry 63 ([1, 0, 47, 1, 0, 96, 24, 0] ++ Tests.z 8 ++ [1, 0, 0, 0, 125, 0] ++ Tests.z 10), 63, 1, 0, [], by decide +kernel⟩,
    ⟨Tests.at 4, Endpoint.init, 0, 65535, [], by decide +kernel⟩,
    ⟨((Tests.at 4).putStreamEntry 63 ([1, 0, 47, 1, 0, 96, 24, 0] ++ Tests.z 8 ++ [1, 0, 0, 0, 125, 0] ++ Tests.z 10)).putEndpoint 831 { Endpoint.init with started := true }, 63, 1, by decide +kernel⟩,
    ⟨((Tests.at 4).putStreamEntry 63 ([1, 0, 47, 1, 0, 96, 24, 0] ++ Tests.z 8 ++ [1, 0, 0, 0, 125, 0] ++ Tests.z 10)).putEndpoint 831 { Endpoint.init with started := true, lostPaths := 1 }, 63, 1, by decide +kernel⟩,
    ⟨((Tests.at 4).putStreamEntry 63 ([1, 0, 0xFF, 1, 0, 96, 24, 0] ++ Tests.z 8 ++ [1, 0, 0, 0, 125, 0] ++ Tests.z 10)).putEndpoint 831 { Endpoint.init with started := true }, 63, 0, by decide +kernel⟩,
    ⟨Tests.at 4, 11, [], by decide +kernel⟩,
    ⟨Tests.at 4, 11, Tests.z 4 ++ [16] ++ Tests.z 11, { abort := 101253168, detail := 18, fieldIndex := 0, fieldSub := 0, entry := 0, ownEvent := false }, by decide +kernel⟩,
    ⟨Tests.at 4, 11, [], by decide +kernel⟩,
    ⟨Tests.at 4, 11, [4] ++ Tests.z 31, { abort := 101253168, detail := 18, fieldIndex := 0, fieldSub := 0, entry := 0, ownEvent := false }, by decide +kernel⟩,
    ⟨Tests.at 4, 11, Tests.z 1024, { abort := 134217762, detail := 114, fieldIndex := 0, fieldSub := 0, entry := 4294967295, ownEvent := false }, by decide +kernel⟩,
    ⟨(Tests.at 4).wr Dict.HEAD_TYPE 2 0, 11, [0xFF, 0] ++ List.replicate 1022 0xFF, ⟨by decide +kernel, Tests.map_none _ _ _ (by decide +kernel) (by decide +kernel), by decide +kernel, Tests.no_delay _ (Tests.all_off _ (by decide +kernel) (by decide +kernel)) (by decide +kernel)⟩⟩,
    ⟨Tests.wrs (Tests.at 4) 0 [(Dict.SAP_ENABLE, 1)], 11, [0xFF, 0xFF] ++ List.replicate 1022 0xFF, ⟨by decide +kernel, Tests.map_none _ _ _ (by decide +kernel) (by decide +kernel), by decide +kernel⟩⟩,
    ⟨Tests.at 4, 11, 192000, Tests.at4_rate _ _ rfl (by decide +kernel)⟩,
    ⟨Tests.at 4, 11, 1, Tests.at4_rate _ _ rfl (by decide +kernel)⟩⟩

theorem test_wit_StoreTierAndDram :
    (∃ (s : State) (k : Fin 12) (v : Nat), let b := s.begin.actBy k; let w := b.wr Dict.STORE_TIER_SCAN_MIB v; let sum := w.rd Dict.STORE_TIER_SCAN_MIB + w.rd Dict.STORE_TIER_STAGE_MIB; (Safety.passesScalar b k Dict.STORE_TIER_SCAN_MIB 0 0 v) ∧ (sum ≤ 336)) ∧
    (∃ (s : State) (k : Fin 12) (v : Nat), let b := s.begin.actBy k; let w := b.wr Dict.STORE_TIER_SCAN_MIB v; let sum := w.rd Dict.STORE_TIER_SCAN_MIB + w.rd Dict.STORE_TIER_STAGE_MIB; (Safety.passesScalar b k Dict.STORE_TIER_SCAN_MIB 0 0 v) ∧ (336 < sum)) ∧
    (∃ (s : State) (k : Fin 12) (v : Nat), let b := s.begin.actBy k; let w := b.wr Dict.STORE_TIER_STAGE_MIB v; let sum := w.rd Dict.STORE_TIER_SCAN_MIB + w.rd Dict.STORE_TIER_STAGE_MIB; (Safety.passesScalar b k Dict.STORE_TIER_STAGE_MIB 0 0 v) ∧ (sum ≤ 336)) ∧
    (∃ (s : State) (k : Fin 12) (v : Nat), let b := s.begin.actBy k; let w := b.wr Dict.STORE_TIER_STAGE_MIB v; let sum := w.rd Dict.STORE_TIER_SCAN_MIB + w.rd Dict.STORE_TIER_STAGE_MIB; (Safety.passesScalar b k Dict.STORE_TIER_STAGE_MIB 0 0 v) ∧ (336 < sum)) ∧
    (∃ (s : State) (w : StoreWord), let b := s.begin; b.alive = true) ∧
    (∃ (s : State) (offset line x buffer y m : Nat) (c : Fin 8) (h : Fin 32) (n : Fin 64) (i : Fin 16) (k : Fin 2), s.imageBadAt i = false) ∧
    (∃ (s : State) (offset line x buffer y m : Nat) (c : Fin 8) (h : Fin 32) (n : Fin 64) (i : Fin 16) (k : Fin 2), s.imageBadAt i = true) ∧
    (∃ (s : State) (w : DramWord), let b := s.begin; let u := b.inc Dict.DRAM_UNCORRECTABLE; (b.alive = true) ∧ (u.codewordGuarded w.hit = true)) ∧
    (∃ (s : State) (w : DramWord), let b := s.begin; let u := b.inc Dict.DRAM_UNCORRECTABLE; (b.alive = true) ∧ (u.codewordGuarded w.hit = false)) ∧
    (∃ (s : State) (a : Nat), a < s.dramSetting 4 * 1048576) ∧
    (∃ (s : State) (m : Fin 24) (row : Nat), let b := s.begin; let u := unitCode 5 (m * 524288 + row); (b.alive = true) ∧ (b.resil.copying.any (fun e => e.1 == u) = true)) ∧
    (∃ (s : State) (m : Fin 24) (row : Nat), let b := s.begin; let u := unitCode 5 (m * 524288 + row); (b.alive = true) ∧ (b.resil.copying.any (fun e => e.1 == u) = false)) ∧
    (∃ (s : State) (cause : DramWake), let b := s.begin; let due := match cause with | .timer => b.dram.cycleAt = 0 ∨ b.since b.dram.cycleAt (b.cycleUs * 1000) = true | .gather _ fill => 32768 ≤ fill | .fifo h fill => (b.headAt h).running = true ∧ b.headRd h Dict.HEAD_BUFFER_MODE = 1 ∧ fill ≤ b.fifoFloor h; (b.dramRuns = true) ∧ (b.dramAwake = false) ∧ (due)) ∧
    (∃ (s : State) (cause : DramWake), let b := s.begin; let due := match cause with | .timer => b.dram.cycleAt = 0 ∨ b.since b.dram.cycleAt (b.cycleUs * 1000) = true | .gather _ fill => 32768 ≤ fill | .fifo h fill => (b.headAt h).running = true ∧ b.headRd h Dict.HEAD_BUFFER_MODE = 1 ∧ fill ≤ b.fifoFloor h; (b.dramRuns = true) ∧ (b.dramAwake = false) ∧ (¬ due)) ∧
    (∃ (s : State), let b := s.begin; let idle := b.dram.cycleAt = 0 ∨ b.since b.dram.cycleAt ((15 + b.dramPower 2) * 1000) = true; (b.dramRuns = true) ∧ (b.dramAwake = false) ∧ (idle)) ∧
    (∃ (s : State), let b := s.begin; let idle := b.dram.cycleAt = 0 ∨ b.since b.dram.cycleAt ((15 + b.dramPower 2) * 1000) = true; (b.dramRuns = true) ∧ (b.dramAwake = true ∨ ¬ idle)) ∧
    (∃ (s : State) (t : _) (m : _), (s.dramRuns = true) ∧ (s.dramAwake = false) ∧ (s.dram.cycleAt = 0) ∧ (exec .dramIdleSleep s = .next t) ∧ (m < 24)) ∧
    (∃ (s : State) (failed : List Nat), let b := s.begin; (b.dramRuns = true) ∧ (b.dram.recentreAt = 0 ∨ b.since b.dram.recentreAt 100000000 = true)) ∧
    (∃ (s : State) (failed : List Nat), let b := s.begin; (b.dramRuns = true) ∧ (b.dram.recentreAt ≠ 0) ∧ (b.since b.dram.recentreAt 100000000 = false)) ∧
    (∃ (s : State) (identity : Nat) (failed : List (Fin 24)), let b := s.begin; let key := identity :: b.dram.inForce.take 3; (b.devState = 1) ∧ (b.dev.bistDone = true) ∧ (b.dev.dramDone = false) ∧ (b.dram.trained = key)) ∧
    (∃ (s : State) (identity : Nat) (failed : List (Fin 24)), let b := s.begin; let lost := (List.range 24).any (fun m => b.dramChannel m == 3); let cap := dataCapacity (b.dramSetting 1) (b.dramSetting 2) (b.dramSetting 3); let t (kind : Nat) := (b.wr Dict.DRAM_TRAINING kind).wr Dict.DRAM_DATA_CAPACITY cap; let up (kind : Nat) : State := ({ t kind with dev := { (t kind).dev with dramDone := true } } : State).wr Dict.DRAM_STATE (if lost then 3 else 2); (b.devState = 1) ∧ (b.dev.bistDone = true) ∧ (b.dev.dramDone = false) ∧ (b.dev.bootAt + (b.dev.startTimes[1]?).getD 0 * 1000000 + 1100000000 ≤ b.now) ∧ ((up 2).floor = false)) ∧
    (∃ (s : State) (identity : Nat) (failed : List (Fin 24)), let b := s.begin; let lost := (List.range 24).any (fun m => b.dramChannel m == 3); let cap := dataCapacity (b.dramSetting 1) (b.dramSetting 2) (b.dramSetting 3); let t (kind : Nat) := (b.wr Dict.DRAM_TRAINING kind).wr Dict.DRAM_DATA_CAPACITY cap; let up (kind : Nat) : State := ({ t kind with dev := { (t kind).dev with dramDone := true } } : State).wr Dict.DRAM_STATE (if lost then 3 else 2); (b.devState = 1) ∧ (b.dev.bistDone = true) ∧ (b.dev.dramDone = false) ∧ (b.dev.bootAt + (b.dev.startTimes[1]?).getD 0 * 1000000 + 1100000000 ≤ b.now) ∧ ((up 2).floor = true)) ∧
    (∃ (s : State) (identity : Nat) (failed : List (Fin 24)), let b := s.begin; (b.devState = 1) ∧ (b.dev.bistDone = true) ∧ (b.dev.dramDone = false) ∧ (b.now < b.dev.bootAt + (b.dev.startTimes[1]?).getD 0 * 1000000 + 1100000000)) := by
  refine ⟨⟨Tests.at 3, 11, 320, by decide +kernel⟩,
    ⟨Tests.at 3, 11, 321, by decide +kernel⟩,
    ⟨Tests.at 3, 11, 64, by decide +kernel⟩,
    ⟨Tests.at 3, 11, 65, by decide +kernel⟩,
    ⟨Tests.at 4, ⟨0, 0, 0, .overcoat 15⟩, by decide +kernel⟩,
    ⟨Tests.at 4, 0, 0, 0, 0, 0, 0, 7, 31, 63, 15, 1, by decide +kernel⟩,
    ⟨(Tests.at 4).putImageBad 15 true, 0, 0, 0, 0, 0, 0, 7, 31, 63, 15, 1, by decide +kernel⟩,
    ⟨Tests.at 4, ⟨23, 524287, 0, .guarded⟩, by decide +kernel⟩,
    ⟨{ Tests.at 4 with dram := { (Tests.at 4).dram with inForce := [3, 0, 1, 0, 1024] } }, ⟨23, false, 524287, .other⟩, by decide +kernel⟩,
    ⟨Tests.at 4, 0, by decide +kernel⟩,
    ⟨{ Tests.at 4 with resil := { (Tests.at 4).resil with copying := [(unitCode 5 (23 * 524288 + 524287), (0, 0))] } }, 23, 524287, by decide +kernel⟩,
    ⟨Tests.at 4, 23, 0, by decide +kernel⟩,
    ⟨{ Tests.wrs (Tests.at 4) 0 [(Dict.DRAM_STATE, 2)] with dram := { (Tests.at 4).dram with power := [1, 100, 75] } }, .gather 23 32768, by decide +kernel⟩,
    ⟨{ Tests.wrs (Tests.at 4) 0 [(Dict.DRAM_STATE, 2)] with dram := { (Tests.at 4).dram with power := [1, 100, 75] } }, .gather 23 32767, by decide +kernel⟩,
    ⟨{ Tests.wrs (Tests.at 4) 0 [(Dict.DRAM_STATE, 2)] with dram := { (Tests.at 4).dram with power := [1, 100, 75], cycleAt := 4999910001 } }, by decide +kernel⟩,
    ⟨{ Tests.wrs (Tests.at 4) 0 [(Dict.DRAM_STATE, 2)] with dram := { (Tests.at 4).dram with power := [1, 100, 75], cycleAt := 4999910002 } }, by decide +kernel⟩,
    ⟨{ Tests.wrs (Tests.at 4) 0 [(Dict.DRAM_STATE, 2)] with dram := { (Tests.at 4).dram with power := [1, 100, 75] } }, (match exec .dramIdleSleep ({ Tests.wrs (Tests.at 4) 0 [(Dict.DRAM_STATE, 2)] with dram := { (Tests.at 4).dram with power := [1, 100, 75] } }) with | .next t => t | _ => State.reset), 23, ⟨by decide +kernel, by decide +kernel, by decide +kernel, rfl, by decide +kernel⟩⟩,
    ⟨{ Tests.wrs (Tests.at 4) 0 [(Dict.DRAM_STATE, 2)] with dram := { (Tests.wrs (Tests.at 4) 0 [(Dict.DRAM_STATE, 2)]).dram with recentreAt := 4900000001 } }, [23], by decide +kernel⟩,
    ⟨{ Tests.wrs (Tests.at 4) 0 [(Dict.DRAM_STATE, 2)] with dram := { (Tests.wrs (Tests.at 4) 0 [(Dict.DRAM_STATE, 2)]).dram with recentreAt := 4900000002 } }, [], by decide +kernel⟩,
    ⟨{ { Tests.at 1 with dev := { (Tests.at 1).dev with bistDone := true, startTimes := [0, 0] } } with dram := { ({ Tests.at 1 with dev := { (Tests.at 1).dev with bistDone := true, startTimes := [0, 0] } }).dram with trained := [0, 3, 0, 1] } }, 0, [], by decide +kernel⟩,
    ⟨{ Tests.at 1 with dev := { (Tests.at 1).dev with bistDone := true, startTimes := [0, 3900] } }, 0, [23], by decide +kernel⟩,
    ⟨({ Tests.at 1 with now := 1100000000, dev := { (Tests.at 1).dev with bistDone := true } }).wr Dict.SUPPLY_FLOOR_STATE 1, 0, [], by decide +kernel⟩,
    ⟨{ Tests.at 1 with dev := { (Tests.at 1).dev with bistDone := true, startTimes := [0, 3901] } }, 0, [], by decide +kernel⟩⟩

theorem test_wit_PocketStore :
    (∃ (s : State) (k : Fin 12), let b := s.begin.actBy k; (Safety.passesScalar b k Dict.POCKET_ENABLE 0 0 1) ∧ (b.rd Dict.POCKET_ENABLE = 0)) ∧
    (∃ (s : State) (k : Fin 12), let b := s.begin.actBy k; (Safety.passesScalar b k Dict.POCKET_ENABLE 0 0 1) ∧ (b.rd Dict.POCKET_ENABLE = 1)) ∧
    (∃ (s : State) (k : Fin 12), let b := s.begin.actBy k; (Safety.passesScalar b k Dict.POCKET_ENABLE 0 0 0) ∧ (b.rd Dict.POCKET_ENABLE = 1)) ∧
    (∃ (s : State) (k : Fin 12), let b := s.begin.actBy k; (Safety.passesScalar b k Dict.POCKET_ENABLE 0 0 0) ∧ (b.rd Dict.POCKET_ENABLE = 0)) ∧
    (∃ (s : State) (k : Fin 2) (d : DriveFound), let b := s.begin; (b.dictUp = true) ∧ (b.flag Dict.POCKET_ENABLE = true) ∧ (bit (b.rd Dict.PCIE_RP_ENABLE) k = true) ∧ (b.rd Dict.POCKET_DRIVE_STATE 0 k ≠ 2) ∧ (d.blocksFit = false)) ∧
    (∃ (s : State) (k : Fin 2) (d : DriveFound), let b := s.begin; (b.dictUp = true) ∧ (b.flag Dict.POCKET_ENABLE = true) ∧ (bit (b.rd Dict.PCIE_RP_ENABLE) k = true) ∧ (b.rd Dict.POCKET_DRIVE_STATE 0 k ≠ 2) ∧ (d.blocksFit = true)) ∧
    (∃ (s : State) (k : Fin 2) (status : Nat), let b := s.begin; let st := b.rd Dict.POCKET_DRIVE_STATE 0 k; (b.dictUp = true) ∧ (st = 1 ∨ st = 2)) ∧
    (∃ (s : State) (k : Fin 2) (status : Nat), let b := s.begin; let st := b.rd Dict.POCKET_DRIVE_STATE 0 k; (b.dictUp = true) ∧ (st ≠ 1) ∧ (st ≠ 2)) ∧
    (∃ (s : State) (k : Fin 12) (c : Fin 2), let b := s.begin.actBy k; let a := b.captureAt c; let clip := b.rd Dict.POCKET_CAP_CLIP 0 c; (Safety.passesScalar b k Dict.POCKET_CAP_COMMAND 0 c 1) ∧ (a.clip ≠ 0)) ∧
    (∃ (s : State) (k : Fin 12) (c : Fin 2), let b := s.begin.actBy k; let a := b.captureAt c; let clip := b.rd Dict.POCKET_CAP_CLIP 0 c; let drive := b.rd Dict.POCKET_CAP_DRIVE 0 c; (Safety.passesScalar b k Dict.POCKET_CAP_COMMAND 0 c 1) ∧ (a.clip = 0) ∧ ((b.clipAt clip).state ≠ 0 ∨ b.driveReady drive = false)) ∧
    (∃ (s : State) (k : Fin 12) (c : Fin 2), let b := s.begin.actBy k; let a := b.captureAt c; let source := b.rd Dict.POCKET_CAP_SOURCE 0 c; let clip := b.rd Dict.POCKET_CAP_CLIP 0 c; let drive := b.rd Dict.POCKET_CAP_DRIVE 0 c; (Safety.passesScalar b k Dict.POCKET_CAP_COMMAND 0 c 1) ∧ (a.clip = 0) ∧ ((b.clipAt clip).state = 0) ∧ (b.driveReady drive = true) ∧ (b.captureSource source clip = none)) ∧
    (∃ (s : State) (k : Fin 12) (c : Fin 2) (f : _), let b := s.begin.actBy k; let a := b.captureAt c; let source := b.rd Dict.POCKET_CAP_SOURCE 0 c; let clip := b.rd Dict.POCKET_CAP_CLIP 0 c; let drive := b.rd Dict.POCKET_CAP_DRIVE 0 c; let audio := b.rd Dict.POCKET_CAP_AUDIO 0 c; let room (f : Clip) := if audio % 256 = 0 then 0 else soundRoom b.matrixRate f.rateNum f.rateDen; let taken (f : Clip) : Clip := { f with state := 2, drive := drive, audioChannels := audio % 256, audioRate := if audio % 256 = 0 then 0 else b.matrixRate, frameBlocks := blocksPerFrame f.format f.width f.height (audio % 256) (room f), createdS := b.tS }; (Safety.passesScalar b k Dict.POCKET_CAP_COMMAND 0 c 1) ∧ (a.clip = 0) ∧ ((b.clipAt clip).state = 0) ∧ (b.driveReady drive = true) ∧ (b.captureSource source clip = some f) ∧ (source / 256 = 1 → b.potentiallyProtected 1 (source % 256) = false) ∧ (audio % 256 ≤ 16) ∧ (audio / 256 + audio % 256 ≤ 256) ∧ (((List.range (audio % 256)).map (fun i => audio / 256 + i)).findSome? (fun j => b.feedRefusal j (8, c)) = none) ∧ (overBudget (b.rd Dict.POCKET_WRITE_BUDGET 0 drive) (addRate (b.writeClaim drive) (taken f).rateBytes) = false)) ∧
    (∃ (s : State) (k : Fin 12) (c : Fin 2), let b := s.begin.actBy k; let a := b.captureAt c; (Safety.passesScalar b k Dict.POCKET_CAP_COMMAND 0 c 2) ∧ (a.clip = 0)) ∧
    (∃ (s : State) (k : Fin 12) (c : Fin 2), let b := s.begin.actBy k; let a := b.captureAt c; (Safety.passesScalar b k Dict.POCKET_CAP_COMMAND 0 c 2) ∧ (a.clip ≠ 0) ∧ (a.flushed = false) ∧ (a.stopping = false) ∧ (a.queue = []) ∧ (b.captureRuns a.source = false)) ∧
    (∃ (s : State) (k : Fin 12) (c : Fin 2), let b := s.begin.actBy k; let a := b.captureAt c; (Safety.passesScalar b k Dict.POCKET_CAP_COMMAND 0 c 2) ∧ (a.clip ≠ 0) ∧ (a.flushed = false) ∧ (a.stopping = false) ∧ (a.queue ≠ [] ∨ b.captureRuns a.source = true)) ∧
    (∃ (s : State) (k : Fin 2), let b := s.begin; let c := b.captureAt k; (b.dictUp = true) ∧ (c.clip ≠ 0) ∧ (c.flushed = false) ∧ (b.floor = false ∨ 0 < c.submitted) ∧ (2 ≤ c.queue.length)) ∧
    (∃ (s : State) (k : Fin 2), let b := s.begin; let c := b.captureAt k; (b.dictUp = true) ∧ (c.clip ≠ 0) ∧ (c.flushed = false) ∧ (b.floor = false ∨ 0 < c.submitted) ∧ (c.queue.length < 2)) ∧
    (∃ (s : State) (k frames st : Nat), let c := s.captureAt k; (c.clip ≠ 0) ∧ (k < 2) ∧ (st < 256)) ∧
    (∃ (s : State) (k : Fin 2), let b := s.begin; let c := b.captureAt k; (b.dictUp = true) ∧ (c.clip ≠ 0) ∧ (c.flushed = false) ∧ (b.floor = false) ∧ (c.covered + b.rd Dict.POCKET_DIR_CHECKPOINT ≤ c.written)) ∧
    (∃ (s : State) (k : Fin 2), let b := s.begin; let c := b.captureAt k; (b.dictUp = true) ∧ (c.clip ≠ 0) ∧ (c.flushed = false) ∧ (b.floor = false) ∧ (c.written < c.covered + b.rd Dict.POCKET_DIR_CHECKPOINT)) ∧
    (∃ (s : State) (k : Fin 2), let b := s.begin; let c := b.captureAt k; (b.dictUp = true) ∧ (c.clip ≠ 0) ∧ (c.flushed = false) ∧ (b.floor = true) ∧ (c.submitted = 0)) ∧
    (∃ (s : State) (k : Fin 12) (n : Nat), let b := s.begin.actBy k; (Safety.passesScalar b k Dict.POCKET_CLIP_DELETE 0 0 n) ∧ (b.floor = true ∨ b.clipInUse n = true)) ∧
    (∃ (s : State) (k : Fin 12) (n : Nat), let b := s.begin.actBy k; (Safety.passesScalar b k Dict.POCKET_CLIP_DELETE 0 0 n) ∧ (b.floor = false) ∧ (b.clipInUse n = false) ∧ ((b.clipAt n).state = 0)) ∧
    (∃ (s : State) (k : Fin 12) (n : Nat), let b := s.begin.actBy k; (Safety.passesScalar b k Dict.POCKET_CLIP_DELETE 0 0 n) ∧ (b.floor = false) ∧ (b.clipInUse n = false) ∧ ((b.clipAt n).state ≠ 0) ∧ (b.driveReady (b.clipAt n).drive = false)) ∧
    (∃ (s : State) (k : Fin 12) (n : Nat), let b := s.begin.actBy k; (Safety.passesScalar b k Dict.POCKET_CLIP_DELETE 0 0 n) ∧ (b.floor = false) ∧ (b.clipInUse n = false) ∧ ((b.clipAt n).state ≠ 0) ∧ (b.driveReady (b.clipAt n).drive = true)) ∧
    (∃ (s : State) (k : Fin 12) (v : Nat), let b := s.begin.actBy k; (Safety.passesScalar b k Dict.POCKET_FORMAT 0 0 v) ∧ (b.floor = true ∨ b.flag Dict.POCKET_ENABLE = true)) ∧
    (∃ (s : State) (k : Fin 12) (v : Nat), let b := s.begin.actBy k; (Safety.passesScalar b k Dict.POCKET_FORMAT 0 0 v) ∧ (b.floor = false) ∧ (b.flag Dict.POCKET_ENABLE = false)) := by
  refine ⟨⟨Tests.at 4, 11, by decide +kernel⟩,
    ⟨Tests.wrs (Tests.at 4) 0 [(Dict.POCKET_ENABLE, 1)], 11, by decide +kernel⟩,
    ⟨Tests.wrs (Tests.at 4) 0 [(Dict.POCKET_ENABLE, 1)], 11, by decide +kernel⟩,
    ⟨Tests.at 4, 11, by decide +kernel⟩,
    ⟨Tests.wrs (Tests.at 4) 0 [(Dict.POCKET_ENABLE, 1), (Dict.PCIE_RP_ENABLE, 3)], 1, ⟨false, 0, [], []⟩, by decide +kernel⟩,
    ⟨Tests.wrs (Tests.at 4) 0 [(Dict.POCKET_ENABLE, 1), (Dict.PCIE_RP_ENABLE, 3)], 1, ⟨true, 8589934593, [], []⟩, by decide +kernel⟩,
    ⟨(Tests.wrs (Tests.at 4) 0 [(Dict.POCKET_ENABLE, 1)]).wr Dict.POCKET_DRIVE_STATE 2 0 1, 1, 0, by decide +kernel⟩,
    ⟨Tests.at 4, 1, 0, by decide +kernel⟩,
    ⟨{ Tests.at 4 with pocket := { (Tests.at 4).pocket with capture := [(1, { Capture.init with clip := 4096, written := 0 })] } }, 11, 1, by decide +kernel⟩,
    ⟨Tests.at 4, 11, 1, by decide +kernel⟩,
    ⟨(((Tests.wrs (Tests.at 4) 0 [(Dict.POCKET_ENABLE, 1)]).wr Dict.POCKET_DRIVE_STATE 2 0 1).wr Dict.POCKET_CAP_DRIVE 1 0 1).wr Dict.POCKET_CAP_CLIP 4095 0 1, 11, 1, by decide +kernel⟩,
    ⟨(((((((((Tests.wrs (Tests.at 4) 0 [(Dict.POCKET_ENABLE, 1)]).wr Dict.POCKET_DRIVE_STATE 2 0 1).wr Dict.POCKET_CAP_DRIVE 1 0 1).wr Dict.POCKET_CAP_CLIP 4095 0 1).wr Dict.POCKET_CAP_SOURCE 319 0 1).wr Dict.INPUT_ENABLE 1 63).wr Dict.POCKET_WRITE_BUDGET 5000 0 1).wr Dict.INPUT_RATE_NUM 60 63).wr Dict.INPUT_RATE_DEN 1 63).wr Dict.POCKET_CAP_AUDIO (256 * 240 + 16) 0 1, 11, 1, { state := 0,   drive := 0,   format := 4,   colour := 16,   width := 1920,   height := 1080,   rateNum := 60,   rateDen := 1,   frames := 0,   frameBlocks := 0,   audioChannels := 0,   audioRate := 0,   createdS := 0,   generation := 0,   extents := [] }, by decide +kernel⟩,
    ⟨Tests.at 4, 11, 1, by decide +kernel⟩,
    ⟨{ Tests.at 4 with pocket := { (Tests.at 4).pocket with capture := [(1, { Capture.init with clip := 4096, written := 7 })] } }, 11, 1, by decide +kernel⟩,
    ⟨{ Tests.at 4 with pocket := { (Tests.at 4).pocket with capture := [(1, { Capture.init with clip := 4096, queue := [Raster.init] })] } }, 11, 1, by decide +kernel⟩,
    ⟨{ Tests.at 4 with pocket := { (Tests.at 4).pocket with capture := [(1, { Capture.init with clip := 4096, queue := [Raster.init, Raster.init] })] } }, 1, by decide +kernel⟩,
    ⟨{ Tests.at 4 with pocket := { (Tests.at 4).pocket with capture := [(1, { Capture.init with clip := 4096, queue := [Raster.init] })] } }, 1, by decide +kernel⟩,
    ⟨{ Tests.at 4 with pocket := { (Tests.at 4).pocket with capture := [(1, { Capture.init with clip := 4096, written := 7 })] } }, 1, 7, 255, by decide +kernel⟩,
    ⟨{ (Tests.at 4).wr Dict.POCKET_DIR_CHECKPOINT 100 with pocket := { ((Tests.at 4).wr Dict.POCKET_DIR_CHECKPOINT 100).pocket with capture := [(1, { Capture.init with clip := 4096, written := 100 })] } }, 1, by decide +kernel⟩,
    ⟨{ (Tests.at 4).wr Dict.POCKET_DIR_CHECKPOINT 100 with pocket := { ((Tests.at 4).wr Dict.POCKET_DIR_CHECKPOINT 100).pocket with capture := [(1, { Capture.init with clip := 4096, written := 99 })] } }, 1, by decide +kernel⟩,
    ⟨{ (Tests.at 4).wr Dict.SUPPLY_FLOOR_STATE 1 with pocket := { ((Tests.at 4).wr Dict.SUPPLY_FLOOR_STATE 1).pocket with capture := [(1, { Capture.init with clip := 4096, written := 7 })] } }, 1, by decide +kernel⟩,
    ⟨(Tests.at 4).wr Dict.SUPPLY_FLOOR_STATE 1, 11, 4095, by decide +kernel⟩,
    ⟨Tests.at 4, 11, 0, by decide +kernel⟩,
    ⟨{ Tests.at 4 with pocket := { (Tests.at 4).pocket with directory := [(4095, { Clip.init with state := 1, drive := 1 })] } }, 11, 4095, by decide +kernel⟩,
    ⟨{ (Tests.wrs (Tests.at 4) 0 [(Dict.POCKET_ENABLE, 1)]).wr Dict.POCKET_DRIVE_STATE 2 0 1 with pocket := { ((Tests.wrs (Tests.at 4) 0 [(Dict.POCKET_ENABLE, 1)]).wr Dict.POCKET_DRIVE_STATE 2 0 1).pocket with directory := [(4095, { Clip.init with state := 1, drive := 1 })] } }, 11, 4095, by decide +kernel⟩,
    ⟨Tests.wrs (Tests.at 4) 0 [(Dict.POCKET_ENABLE, 1)], 11, 3, by decide +kernel⟩,
    ⟨Tests.at 4, 11, 0, by decide +kernel⟩⟩

theorem test_wit_FaultsAndSpares :
    (∃ (s : State) (kind : Fin 12) (units : List Nat), let b := s.begin; b.alive = true) ∧
    (∃ (s : State) (unit : Nat) (e : Nat × Nat × Nat), let b := s.begin; (b.alive = true) ∧ (b.resil.copying.find? (fun e => e.1 == unitCode 3 unit) = some e)) ∧
    (∃ (s : State) (unit : Nat) (e : Nat × Nat × Nat), let b := s.begin; let t := ((b.inc Dict.RESILIENCE_STORE_ROWS_SPARED).raise Event.STORE_ROW_SPARED (unitCode 2 unit) e.2.2).endCopy 2 unit; (b.alive = true) ∧ (b.resil.copying.find? (fun e => e.1 == unitCode 2 unit) = some e) ∧ ((t.pickSpare 2 unit).isNone = false)) ∧
    (∃ (s : State) (unit : Nat) (e : Nat × Nat × Nat), let b := s.begin; let t := ((b.inc Dict.RESILIENCE_STORE_ROWS_SPARED).raise Event.STORE_ROW_SPARED (unitCode 2 unit) e.2.2).endCopy 2 unit; (b.alive = true) ∧ (b.resil.copying.find? (fun e => e.1 == unitCode 2 unit) = some e) ∧ ((t.pickSpare 2 unit).isNone = true)) ∧
    (∃ (s : State) (unit : Nat) (e : Nat × Nat × Nat), let b := s.begin; (b.alive = true) ∧ (b.resil.copying.find? (fun e => e.1 == unitCode 2 unit) = none)) ∧
    (∃ (s : State) (link : Fin 128), let b := s.begin; (b.alive = true) ∧ (b.standsBy 4 link = false)) ∧
    (∃ (s : State) (link : Fin 128), let b := s.begin; (b.alive = true) ∧ (b.standsBy 4 link = true)) ∧
    (∃ (s : State) (bank : Fin 1088), s.alive = true) ∧
    (∃ (s : State) (m : Fin 24), let b := s.begin; (b.alive = true) ∧ (b.dramChannel m ≠ 3)) ∧
    (∃ (s : State) (m : Fin 24), let b := s.begin; (b.alive = true) ∧ (b.dramChannel m = 3)) ∧
    (∃ (s : State) (sector : Fin 2112) (failures : Nat), let b := s.begin; (b.alive = true) ∧ (failures < 3)) ∧
    (∃ (s : State) (sector : Fin 2112) (failures : Nat), let b := s.begin; (b.alive = true) ∧ (3 ≤ failures)) ∧
    (∃ (s : State) (u : Nat) (v : _), v ≠ u) ∧
    (∃ (s : State), let b := s.begin; b.alive = true) ∧
    (∃ (s : State) (u : Nat), let w := s.weightAt u; let hours := (s.life.opSeconds - w.decrementAt) / 3600; (w.weight ≠ 0) ∧ (hours ≠ 0)) ∧
    (∃ (s : State) (u : Nat), let w := s.weightAt u; let hours := (s.life.opSeconds - w.decrementAt) / 3600; w.weight = 0 ∨ hours = 0) ∧
    (∃ (s : State) (u : Nat) (v : _), v ≠ u) ∧
    (∃ (s : State) (k : Fin 12) (v : Nat), let b := s.begin.actBy k; Safety.passesScalar b k Dict.RESILIENCE_HOLD_RETIRE 0 0 v) ∧
    (∃ (s : State) (kind : Fin 12) (unit : Nat), let b := s.begin; (b.alive = true) ∧ (unitExists kind unit = true) ∧ (b.standsBy kind unit = true) ∧ (kind.val = 10)) ∧
    (∃ (s : State) (kind : Fin 12) (unit : Nat), let b := s.begin; (b.alive = true) ∧ (unitExists kind unit = true) ∧ (b.standsBy kind unit = true) ∧ (kind.val = 1 ∨ kind.val = 2 ∨ kind.val = 3 ∨ kind.val = 4 ∨ kind.val = 11)) ∧
    (∃ (s : State) (kind : Fin 12) (unit : Nat), let b := s.begin; b.standsBy kind unit = false) ∧
    (∃ (s : State) (k : Fin 12) (n : Nat), let b := s.begin.actBy k; (Safety.passesScalar b k Dict.PATCH_MAP_CLEAR 0 0 n) ∧ (b.patchAt n = none)) ∧
    (∃ (s : State) (k : Fin 12) (n : Nat) (p : _), let b := s.begin.actBy k; (Safety.passesScalar b k Dict.PATCH_MAP_CLEAR 0 0 n) ∧ (b.patchAt n = some p) ∧ (p.cleared = true)) ∧
    (∃ (s : State) (k : Fin 12) (n : Nat) (p : _), let b := s.begin.actBy k; (Safety.passesScalar b k Dict.PATCH_MAP_CLEAR 0 0 n) ∧ (b.patchAt n = some p) ∧ (p.cleared = false)) ∧
    (∃ (s : State) (k : Fin 12) (v : Nat), let b := s.begin.actBy k; Safety.passesScalar b k Dict.FAULT_WEIGHTS_CLEAR_WEIGHTS 0 0 v) ∧
    (∃ (s : State), let b := s.begin; let due := b.resil.scrubSince + b.rd Dict.RESILIENCE_PATROL_PERIOD * 3600 * 1000000000; (b.alive = true) ∧ (b.yielded 1 6 1 = false) ∧ (due ≤ b.now)) ∧
    (∃ (s : State), let b := s.begin; let due := b.resil.scrubSince + b.rd Dict.RESILIENCE_PATROL_PERIOD * 3600 * 1000000000; (b.alive = true) ∧ (b.yielded 1 6 1 = true ∨ b.now < due)) ∧
    (∃ (s : State) (h : Fin 32) (unit : Fin 68), let b := s.begin; let a := b.headAt h; (b.alive = true) ∧ (a.running = true) ∧ (unit.val ∉ a.echoFaults)) ∧
    (∃ (s : State) (h : Fin 32) (unit : Fin 68), let b := s.begin; let a := b.headAt h; (b.alive = true) ∧ (a.running = false ∨ unit.val ∈ a.echoFaults)) ∧
    (∃ (s : State) (h : Fin 32) (unit : Fin 68), let b := s.begin; let a := b.headAt h; (b.alive = true) ∧ (unit.val ∈ a.echoFaults) ∧ (b.isRetired (unitCode 9 unit) = true)) ∧
    (∃ (s : State) (h : Fin 32) (unit : Fin 68), let b := s.begin; let a := b.headAt h; (b.alive = true) ∧ (unit.val ∈ a.echoFaults) ∧ (b.isRetired (unitCode 9 unit) = false) ∧ (a.running = false)) ∧
    (∃ (s : State) (h : Fin 32) (unit : Fin 68), let b := s.begin; let a := b.headAt h; let left := a.echoFaults.filter (· != unit.val); (b.alive = true) ∧ (unit.val ∈ a.echoFaults) ∧ (b.isRetired (unitCode 9 unit) = false) ∧ (a.running = true) ∧ (left = [])) ∧
    (∃ (s : State) (h : Fin 32) (unit : Fin 68), let b := s.begin; let a := b.headAt h; let left := a.echoFaults.filter (· != unit.val); (b.alive = true) ∧ (unit.val ∈ a.echoFaults) ∧ (b.isRetired (unitCode 9 unit) = false) ∧ (a.running = true) ∧ (left ≠ [])) := by
  refine ⟨⟨Tests.at 4, 11, [], by decide +kernel⟩,
    ⟨{ Tests.at 4 with resil := { (Tests.at 4).resil with copying := [(unitCode 3 1087, (5, 9))] } }, 1087, (50332735, 5, 9), by decide +kernel⟩,
    ⟨{ Tests.at 4 with resil := { (Tests.at 4).resil with copying := [(unitCode 2 8912895, (5, 9))] } }, 8912895, (42467327, 5, 9), by decide +kernel⟩,
    ⟨{ Tests.at 4 with resil := { (Tests.at 4).resil with copying := [(unitCode 2 8912895, (5, 9))], taken := (List.range 32).map (fun k => (unitCode 2 (8912895 / 8192 * 8192 + k), 1)) } }, 8912895, (42467327, 5, 9), by decide +kernel⟩,
    ⟨Tests.at 4, 8912895, (0, 0, 0), by decide +kernel⟩,
    ⟨Tests.at 4, 0, by decide +kernel⟩,
    ⟨Tests.at 4, 127, by decide +kernel⟩,
    ⟨Tests.at 4, 1087, by decide +kernel⟩,
    ⟨Tests.at 4, 23, by decide +kernel⟩,
    ⟨{ Tests.at 4 with dram := { (Tests.at 4).dram with channel := [(23, 3)] } }, 23, by decide +kernel⟩,
    ⟨Tests.at 4, 2111, 0, by decide +kernel⟩,
    ⟨Tests.at 4, 2111, 3, by decide +kernel⟩,
    ⟨Tests.at 4, 0, 1, by decide +kernel⟩,
    ⟨Tests.at 4, by decide +kernel⟩,
    ⟨{ { Tests.at 4 with life := { (Tests.at 4).life with opSeconds := 3600 } } with resil := { ({ Tests.at 4 with life := { (Tests.at 4).life with opSeconds := 3600 } }).resil with weights := [(unitCode 11 2111, { Weight.init with weight := 1 })] } }, unitCode 11 2111, by decide +kernel⟩,
    ⟨Tests.at 4, 0, by decide +kernel⟩,
    ⟨Tests.at 4, 0, 1, by decide +kernel⟩,
    ⟨Tests.at 4, 11, 0, by decide +kernel⟩,
    ⟨{ Tests.at 4 with keys := { (Tests.at 4).keys with slots := [(71, { Slot.init with state := .spare })] } }, 10, 71, by decide +kernel⟩,
    ⟨{ Tests.at 4 with resil := { (Tests.at 4).resil with idle := [(unitCode 11 2111, true)] } }, 11, 2111, by decide +kernel⟩,
    ⟨Tests.at 4, 11, 0, by decide +kernel⟩,
    ⟨Tests.at 4, 11, 0, by decide +kernel⟩,
    ⟨{ Tests.at 4 with resil := { (Tests.at 4).resil with patches := [(511, ⟨11, 2111, 0, false, 0, 0, 0, 0, false, true⟩)] } }, 11, 511, { kind := 11,   unit := 2111,   spare := 0,   noSpare := false,   cause := 0,   weight := 0,   cycles := 0,   opSeconds := 0,   pending := false,   cleared := true }, by decide +kernel⟩,
    ⟨{ Tests.at 4 with resil := { (Tests.at 4).resil with patches := [(511, ⟨11, 2111, 0, false, 0, 0, 0, 0, false, false⟩)] } }, 11, 511, { kind := 11,   unit := 2111,   spare := 0,   noSpare := false,   cause := 0,   weight := 0,   cycles := 0,   opSeconds := 0,   pending := false,   cleared := false }, by decide +kernel⟩,
    ⟨Tests.at 4, 11, 0, by decide +kernel⟩,
    ⟨(Tests.at 4).wr Dict.RESILIENCE_PATROL_PERIOD 0, by decide +kernel⟩,
    ⟨Tests.at 4, by decide +kernel⟩,
    ⟨(Tests.at 4).putHead 31 { Head.init with running := true }, 31, 67, by decide +kernel⟩,
    ⟨Tests.at 4, 31, 67, by decide +kernel⟩,
    ⟨({ Tests.at 4 with resil := { (Tests.at 4).resil with retired := [(unitCode 9 67, true)] } }).putHead 31 { Head.init with echoFaults := [67] }, 31, 67, by decide +kernel⟩,
    ⟨(Tests.at 4).putHead 31 { Head.init with echoFaults := [67] }, 31, 67, by decide +kernel⟩,
    ⟨(Tests.at 4).putHead 31 { Head.init with running := true, echoFaults := [67] }, 31, 67, by decide +kernel⟩,
    ⟨(Tests.at 4).putHead 31 { Head.init with running := true, echoFaults := [0, 67] }, 31, 67, by decide +kernel⟩⟩

theorem test_wit_RecorderAndWriteFloor :
    (∃ (s : State) (k : Fin 12) (nonce : List Byte), let b := s.begin.actBy k; let slot := b.rd Dict.RECORDER_EXPORT_SLOT; (Safety.passes b k Dict.RECORDER_EXPORT_NONCE 0 0 nonce) ∧ (b.derives slot = false)) ∧
    (∃ (s : State) (k : Fin 12) (nonce : List Byte), let b := s.begin.actBy k; let slot := b.rd Dict.RECORDER_EXPORT_SLOT; let from_ := b.rd Dict.RECORDER_EXPORT_FROM; let n := b.rd Dict.RECORDER_EXPORT_COUNT; let after := (from_ + 2 ^ 32 - b.oldestRec) % 2 ^ 32; let span := (b.newestRec + 2 ^ 32 - b.oldestRec) % 2 ^ 32; (Safety.passes b k Dict.RECORDER_EXPORT_NONCE 0 0 nonce) ∧ (b.derives slot = true) ∧ (b.ev.ring = [] ∨ span + 1 < after + n)) ∧
    (∃ (s : State) (k : Fin 12) (nonce : List Byte), let b := s.begin.actBy k; let slot := b.rd Dict.RECORDER_EXPORT_SLOT; let from_ := b.rd Dict.RECORDER_EXPORT_FROM; let n := b.rd Dict.RECORDER_EXPORT_COUNT; let after := (from_ + 2 ^ 32 - b.oldestRec) % 2 ^ 32; let span := (b.newestRec + 2 ^ 32 - b.oldestRec) % 2 ^ 32; (Safety.passes b k Dict.RECORDER_EXPORT_NONCE 0 0 nonce) ∧ (b.derives slot = true) ∧ (b.ev.ring ≠ []) ∧ (after + n ≤ span + 1)) ∧
    (∃ (s : State), let b := s.begin; (b.alive = true) ∧ (b.floor = false) ∧ (b.life.due = true ∨ b.life.lastCheckpoint + 600 ≤ b.life.opSeconds)) ∧
    (∃ (s : State), let b := s.begin; (b.alive = true) ∧ (b.floor = true)) ∧
    (∃ (s : State), let b := s.begin; (b.alive = true) ∧ (b.life.due = false) ∧ (b.life.opSeconds < b.life.lastCheckpoint + 600)) ∧
    (∃ (s : State) (v : LifeSample), let b := s.begin; b.now < b.life.secondAt + 1000000000) ∧
    (∃ (s : State) (v : LifeSample), let b := s.begin; b.dev.porstN = false) ∧
    (∃ (s : State) (v : LifeSample), let b := s.begin; (b.dev.porstN = true) ∧ (b.alive = false) ∧ (b.life.secondAt + 1000000000 ≤ b.now)) ∧
    (∃ (s : State) (v : LifeSample), let b := s.begin; (b.dev.porstN = true) ∧ (b.alive = true) ∧ (b.life.secondAt + 1000000000 ≤ b.now)) ∧
    (∃ (s : State), let b := s.begin; (b.alive = true) ∧ (b.yielded 1 6 2 = true)) ∧
    (∃ (s : State), let b := s.begin; (b.alive = true) ∧ (b.yielded 1 6 2 = false)) ∧
    (∃ (s : State) (r : Rails), floorCause r = 0) ∧
    (∃ (s : State) (r : Rails), let b := s.begin.showRails r; let hit : State := { b with keys := { b.keys with glitchArmed := false }, supply := { b.supply with goodSince := 0 } }; let c := hit.wr Dict.SUPPLY_FLOOR_CAUSE (floorCause r); let w := ((c.wr Dict.SUPPLY_FLOOR_STATE 1).inc Dict.SUPPLY_FLOOR_ENTRIES).wr Dict.SUPPLY_LAST_FLOOR_S c.life.opSeconds; let z : State := { w with supply := { w.supply with floorAt := w.now, heldSincePorst := !w.alive } }; (floorCause r ≠ 0) ∧ (c.rd Dict.SUPPLY_FLOOR_STATE = 0) ∧ (z.alive = true)) ∧
    (∃ (s : State) (r : Rails), let b := s.begin.showRails r; let hit : State := { b with keys := { b.keys with glitchArmed := false }, supply := { b.supply with goodSince := 0 } }; let c := hit.wr Dict.SUPPLY_FLOOR_CAUSE (floorCause r); let w := ((c.wr Dict.SUPPLY_FLOOR_STATE 1).inc Dict.SUPPLY_FLOOR_ENTRIES).wr Dict.SUPPLY_LAST_FLOOR_S c.life.opSeconds; let z : State := { w with supply := { w.supply with floorAt := w.now, heldSincePorst := !w.alive } }; (floorCause r ≠ 0) ∧ (c.rd Dict.SUPPLY_FLOOR_STATE = 0) ∧ (z.alive = false)) ∧
    (∃ (s : State) (r : Rails), let b := s.begin.showRails r; let hit : State := { b with keys := { b.keys with glitchArmed := false }, supply := { b.supply with goodSince := 0 } }; let c := hit.wr Dict.SUPPLY_FLOOR_CAUSE (floorCause r); (floorCause r ≠ 0) ∧ (c.rd Dict.SUPPLY_FLOOR_STATE = 2)) ∧
    (∃ (s : State) (r : Rails), let b := s.begin.showRails r; let hit : State := { b with keys := { b.keys with glitchArmed := false }, supply := { b.supply with goodSince := 0 } }; let c := hit.wr Dict.SUPPLY_FLOOR_CAUSE (floorCause r); (floorCause r ≠ 0) ∧ (c.rd Dict.SUPPLY_FLOOR_STATE = 1)) ∧
    (∃ (s : State) (r : Rails), let b := s.begin.showRails r; let st := b.rd Dict.SUPPLY_FLOOR_STATE; b.alive = false ∨ (st ≠ 1 ∧ st ≠ 2)) ∧
    (∃ (s : State) (r : Rails), let b := s.begin.showRails r; let st := b.rd Dict.SUPPLY_FLOOR_STATE; (b.alive = true) ∧ (st = 1 ∨ st = 2) ∧ (railsFit r = false)) ∧
    (∃ (s : State) (r : Rails), let b := s.begin.showRails r; let st := b.rd Dict.SUPPLY_FLOOR_STATE; (b.alive = true) ∧ (st = 1 ∨ st = 2) ∧ (railsFit r = true) ∧ (b.supply.goodSince = 0)) ∧
    (∃ (s : State) (r : Rails), let b := s.begin.showRails r; let st := b.rd Dict.SUPPLY_FLOOR_STATE; (b.alive = true) ∧ (st = 1 ∨ st = 2) ∧ (railsFit r = true) ∧ (b.supply.goodSince ≠ 0) ∧ (b.supply.goodSince - 1 + 50000000 ≤ b.now)) ∧
    (∃ (s : State) (r : Rails), let b := s.begin.showRails r; let st := b.rd Dict.SUPPLY_FLOOR_STATE; (b.alive = true) ∧ (st = 1 ∨ st = 2) ∧ (railsFit r = true) ∧ (b.supply.goodSince ≠ 0) ∧ (b.now < b.supply.goodSince - 1 + 50000000)) ∧
    (∃ (s : State) (k : Fin 12) (v : Nat), let b := s.begin.actBy k; (Safety.passesScalar b k Dict.SUPPLY_SHUTDOWN 0 0 v) ∧ (b.floor = true)) ∧
    (∃ (s : State) (k : Fin 12) (v : Nat), let b := s.begin.actBy k; (Safety.passesScalar b k Dict.SUPPLY_SHUTDOWN 0 0 v) ∧ (b.floor = false)) := by
  refine ⟨⟨Tests.at 4, 11, Tests.z 16, by decide +kernel⟩,
    ⟨{ Tests.wrs (Tests.keyed) 0 [(Dict.RECORDER_EXPORT_SLOT, 0), (Dict.RECORDER_EXPORT_FROM, 7), (Dict.RECORDER_EXPORT_COUNT, 2)] with ev := { (Tests.wrs (Tests.keyed) 0 [(Dict.RECORDER_EXPORT_SLOT, 0), (Dict.RECORDER_EXPORT_FROM, 7), (Dict.RECORDER_EXPORT_COUNT, 2)]).ev with ring := [⟨7, 0, 0, 0, false, false, false, 0, 0, 0, 0, 0, 0, true⟩] } }, 11, Tests.z 16, by decide +kernel⟩,
    ⟨{ Tests.wrs (Tests.keyed) 0 [(Dict.RECORDER_EXPORT_SLOT, 0), (Dict.RECORDER_EXPORT_FROM, 7), (Dict.RECORDER_EXPORT_COUNT, 1)] with ev := { (Tests.wrs (Tests.keyed) 0 [(Dict.RECORDER_EXPORT_SLOT, 0), (Dict.RECORDER_EXPORT_FROM, 7), (Dict.RECORDER_EXPORT_COUNT, 1)]).ev with ring := [⟨7, 0, 0, 0, false, false, false, 0, 0, 0, 0, 0, 0, true⟩] } }, 11, Tests.z 16, by decide +kernel⟩,
    ⟨{ Tests.at 4 with life := { (Tests.at 4).life with opSeconds := 600, lastCheckpoint := 0 } }, by decide +kernel⟩,
    ⟨Tests.wrs (Tests.at 4) 0 [(Dict.SUPPLY_FLOOR_STATE, 1)], by decide +kernel⟩,
    ⟨Tests.at 4, by decide +kernel⟩,
    ⟨{ Tests.at 4 with life := { (Tests.at 4).life with secondAt := 4000000001 } }, ⟨0, [], 0⟩, by decide +kernel⟩,
    ⟨State.reset, ⟨0, [], 0⟩, by decide +kernel⟩,
    ⟨{ Tests.at 0 with now := 1000000000, dev := { (Tests.at 0).dev with porstN := true } }, ⟨0, [], 0⟩, by decide +kernel⟩,
    ⟨{ Tests.at 4 with life := { (Tests.at 4).life with secondAt := 4000000000 } }, ⟨0, [], 0⟩, by decide +kernel⟩,
    ⟨{ Tests.at 4 with gov := { (Tests.at 4).gov with yields := [⟨1, 6, 2, 0, 0, false⟩] } }, by decide +kernel⟩,
    ⟨Tests.at 4, by decide +kernel⟩,
    ⟨Tests.at 4, ⟨1700, 1700, 700, false⟩, by decide +kernel⟩,
    ⟨Tests.at 4, ⟨1699, 1700, 700, false⟩, by decide +kernel⟩,
    ⟨Tests.at 0, ⟨1699, 1700, 700, false⟩, by decide +kernel⟩,
    ⟨Tests.wrs (Tests.at 4) 0 [(Dict.SUPPLY_FLOOR_STATE, 2)], ⟨1699, 1700, 700, false⟩, by decide +kernel⟩,
    ⟨Tests.wrs (Tests.at 4) 0 [(Dict.SUPPLY_FLOOR_STATE, 1)], ⟨1699, 1700, 700, false⟩, by decide +kernel⟩,
    ⟨Tests.wrs (Tests.at 4) 0 [(Dict.SUPPLY_FLOOR_STATE, 3)], ⟨1730, 1730, 730, false⟩, by decide +kernel⟩,
    ⟨Tests.wrs (Tests.at 4) 0 [(Dict.SUPPLY_FLOOR_STATE, 2)], ⟨1729, 1730, 730, false⟩, by decide +kernel⟩,
    ⟨Tests.wrs (Tests.at 4) 0 [(Dict.SUPPLY_FLOOR_STATE, 1)], ⟨1730, 1730, 730, false⟩, by decide +kernel⟩,
    ⟨{ Tests.wrs (Tests.at 4) 0 [(Dict.SUPPLY_FLOOR_STATE, 2)] with supply := { (Tests.wrs (Tests.at 4) 0 [(Dict.SUPPLY_FLOOR_STATE, 2)]).supply with goodSince := 4950000001 } }, ⟨1730, 1730, 730, false⟩, by decide +kernel⟩,
    ⟨{ Tests.wrs (Tests.at 4) 0 [(Dict.SUPPLY_FLOOR_STATE, 2)] with supply := { (Tests.wrs (Tests.at 4) 0 [(Dict.SUPPLY_FLOOR_STATE, 2)]).supply with goodSince := 4950000002 } }, ⟨1730, 1730, 730, false⟩, by decide +kernel⟩,
    ⟨Tests.wrs (Tests.at 4) 0 [(Dict.SUPPLY_FLOOR_STATE, 1)], 11, 1, by decide +kernel⟩,
    ⟨Tests.at 4, 11, 1, by decide +kernel⟩⟩

theorem test_wit_KeysWritten :
    (∃ (s : State) (k : Fin 12) (n : Fin 72) (key : List Byte) (r : _), let b := s.begin.actBy k; let rank := (b.sessAt k).rights.rank; (Safety.passes b k Dict.KEY_SLOT_KEY n 0 key) ∧ (b.judgeKeyWrite rank n key = some r)) ∧
    (∃ (s : State) (k : Fin 12) (n : Fin 72) (key : List Byte), let b := s.begin.actBy k; let rank := (b.sessAt k).rights.rank; let w := if (b.namedSlot n).state = .bad then b.patchSlot n else b; (Safety.passes b k Dict.KEY_SLOT_KEY n 0 key) ∧ (b.judgeKeyWrite rank n key = none) ∧ (w.atomicKeys = false)) ∧
    (∃ (s : State) (k : Fin 12) (n : Fin 72) (key : List Byte), let b := s.begin.actBy k; let rank := (b.sessAt k).rights.rank; let w := if (b.namedSlot n).state = .bad then b.patchSlot n else b; (Safety.passes b k Dict.KEY_SLOT_KEY n 0 key) ∧ (b.judgeKeyWrite rank n key = none) ∧ (w.atomicKeys = true)) ∧
    (∃ (s : State) (rank n : Nat) (key : List Byte), s.spareOrPatch n = true) ∧
    (∃ (s : State) (rank n : Nat) (key : List Byte), (s.spareOrPatch n = false) ∧ ((s.namedSlot n).state ≠ .bad) ∧ (s.floor = true ∨ s.keys.writing = true)) ∧
    (∃ (s : State), let b := s.begin.actBy s.keys.writer; (s.begin.dictUp = true) ∧ (b.keys.writing = false)) ∧
    (∃ (s : State) (key attr alg owner root : _), let b := s.begin.actBy s.keys.writer; let n := b.keys.writingSlot; let m := b.storageOf n; let a := b.slotAt m; (s.begin.dictUp = true) ∧ (b.keys.writing = true) ∧ (n < 72) ∧ (a.incoming = some (key, attr, alg, owner, root))) ∧
    (∃ (s : State) (data wrap : _), let b := s.begin.actBy s.keys.writer; let n := b.keys.writingSlot; (s.begin.dictUp = true) ∧ (b.keys.writing = true) ∧ (72 ≤ n) ∧ (b.keys.hdcpIncoming = some (data, wrap))) ∧
    (∃ (s : State), s.keys.writingSess = 0xFF) ∧
    (∃ (s : State), s.keys.writingSess ≠ 0xFF) ∧
    (∃ (s : State) (k : Fin 12) (n : Fin 72) (v : Nat), let b := s.begin.actBy k; (Safety.passesScalar b k Dict.KEY_SLOT_ERASE n 0 v) ∧ (b.spareOrPatch n = true)) ∧
    (∃ (s : State) (k : Fin 12) (n : Fin 72) (v : Nat), let b := s.begin.actBy k; (Safety.passesScalar b k Dict.KEY_SLOT_ERASE n 0 v) ∧ (b.spareOrPatch n = false) ∧ (b.floor = true ∨ b.keys.writing = true)) ∧
    (∃ (s : State) (k : Fin 12) (n : Fin 72) (v : Nat), let b := s.begin.actBy k; (Safety.passesScalar b k Dict.KEY_SLOT_ERASE n 0 v) ∧ (b.spareOrPatch n = false) ∧ (b.floor = false) ∧ (b.keys.writing = false) ∧ ((b.sessAt k).rights.rank < b.presentOwner n)) ∧
    (∃ (s : State) (k : Fin 12) (n : Fin 72) (v : Nat), let b := s.begin.actBy k; (Safety.passesScalar b k Dict.KEY_SLOT_ERASE n 0 v) ∧ (b.spareOrPatch n = false) ∧ (b.floor = false) ∧ (b.keys.writing = false) ∧ (b.presentOwner n ≤ (b.sessAt k).rights.rank) ∧ (b.wrapsHdcp n = true)) ∧
    (∃ (s : State) (k : Fin 12) (n : Fin 72) (v : Nat), let b := s.begin.actBy k; let m := b.storageOf n; let a := b.slotAt m; (Safety.passesScalar b k Dict.KEY_SLOT_ERASE n 0 v) ∧ (b.spareOrPatch n = false) ∧ (b.floor = false) ∧ (b.keys.writing = false) ∧ (b.presentOwner n ≤ (b.sessAt k).rights.rank) ∧ (b.wrapsHdcp n = false) ∧ (a.state = .bad)) ∧
    (∃ (s : State) (k : Fin 12) (n : Fin 72) (v : Nat), let b := s.begin.actBy k; let m := b.storageOf n; let a := b.slotAt m; (Safety.passesScalar b k Dict.KEY_SLOT_ERASE n 0 v) ∧ (b.spareOrPatch n = false) ∧ (b.floor = false) ∧ (b.keys.writing = false) ∧ (b.presentOwner n ≤ (b.sessAt k).rights.rank) ∧ (b.wrapsHdcp n = false) ∧ (a.state ≠ .bad) ∧ (a.serves = 0xFF)) ∧
    (∃ (s : State) (k : Fin 12) (n : Fin 72) (v : Nat), let b := s.begin.actBy k; let m := b.storageOf n; let a := b.slotAt m; (Safety.passesScalar b k Dict.KEY_SLOT_ERASE n 0 v) ∧ (b.spareOrPatch n = false) ∧ (b.floor = false) ∧ (b.keys.writing = false) ∧ (b.presentOwner n ≤ (b.sessAt k).rights.rank) ∧ (b.wrapsHdcp n = false) ∧ (a.state ≠ .bad) ∧ (a.serves ≠ 0xFF)) ∧
    (∃ (s : State) (k : Fin 12) (data : List Byte), let b := s.begin.actBy k; let n := b.rd Dict.KEY_STORE_HDCP_WRAP_SLOT; (Safety.passes b k Dict.KEY_STORE_HDCP_KEYS 0 0 data) ∧ (b.usable n = false ∨ (b.namedSlot n).attr ≠ 2 ∨ (b.namedSlot n).algorithm ≠ 1)) ∧
    (∃ (s : State) (k : Fin 12) (data : List Byte) (r : _), let b := s.begin.actBy k; (Safety.passes b k Dict.KEY_STORE_HDCP_KEYS 0 0 data) ∧ (b.judgeHdcpWrite data = some r)) ∧
    (∃ (s : State) (k : Fin 12) (data : List Byte), let b := s.begin.actBy k; (Safety.passes b k Dict.KEY_STORE_HDCP_KEYS 0 0 data) ∧ (b.judgeHdcpWrite data = none) ∧ (b.atomicKeys = true)) ∧
    (∃ (s : State) (k : Fin 12) (data : List Byte), let b := s.begin.actBy k; (Safety.passes b k Dict.KEY_STORE_HDCP_KEYS 0 0 data) ∧ (b.judgeHdcpWrite data = none) ∧ (b.atomicKeys = false)) := by
  refine ⟨⟨{ Tests.wrs (Tests.at 4) 63 [(Dict.KEY_SLOT_ATTRIBUTE, 3), (Dict.KEY_SLOT_ALGORITHM, 2), (Dict.KEY_SLOT_OWNER, 2)] with keys := { (Tests.wrs (Tests.at 4) 63 [(Dict.KEY_SLOT_ATTRIBUTE, 3), (Dict.KEY_SLOT_ALGORITHM, 2), (Dict.KEY_SLOT_OWNER, 2)]).keys with writing := true } }, 11, 71, Tests.z 32, { abort := 134217762, detail := 162, fieldIndex := 0, fieldSub := 0, entry := 4294967295, ownEvent := false }, by decide +kernel⟩,
    ⟨{ Tests.wrs (Tests.at 4) 63 [(Dict.KEY_SLOT_ATTRIBUTE, 3), (Dict.KEY_SLOT_ALGORITHM, 2), (Dict.KEY_SLOT_OWNER, 2)] with keys := { (Tests.wrs (Tests.at 4) 63 [(Dict.KEY_SLOT_ATTRIBUTE, 3), (Dict.KEY_SLOT_ALGORITHM, 2), (Dict.KEY_SLOT_OWNER, 2)]).keys with lifecycle := 2 } }, 11, 63, Tests.z 32, by decide +kernel⟩,
    ⟨Tests.wrs (Tests.at 4) 63 [(Dict.KEY_SLOT_ATTRIBUTE, 3), (Dict.KEY_SLOT_ALGORITHM, 2), (Dict.KEY_SLOT_OWNER, 2), (Dict.KEY_SLOT_KCV_EXPECTED, keyCheck 2 (Tests.z 32))], 11, 63, Tests.z 32, by decide +kernel⟩,
    ⟨{ Tests.at 4 with keys := { (Tests.at 4).keys with slots := [(71, { Slot.init with state := .spare })] } }, 3, 71, [], by decide +kernel⟩,
    ⟨{ Tests.at 4 with keys := { (Tests.at 4).keys with writing := true } }, 3, 63, [], by decide +kernel⟩,
    ⟨Tests.at 4, by decide +kernel⟩,
    ⟨{ Tests.at 4 with keys := { (Tests.at 4).keys with writing := true, writingSlot := 71, slots := [(71, { Slot.init with incoming := some (Tests.z 32, 3, 2, 2, 1) })] } }, Tests.z 32, 3, 2, 2, 1, by decide +kernel⟩,
    ⟨{ Tests.at 4 with keys := { (Tests.at 4).keys with writing := true, writingSlot := 72, hdcpIncoming := some (Tests.z 1245, Tests.z 32) } }, Tests.z 1245, Tests.z 32, by decide +kernel⟩,
    ⟨Tests.at 4, by decide +kernel⟩,
    ⟨{ Tests.at 4 with keys := { (Tests.at 4).keys with writingSess := 11 } }, by decide +kernel⟩,
    ⟨Tests.at 4, 11, 71, 1, by decide +kernel⟩,
    ⟨{ Tests.at 4 with keys := { (Tests.at 4).keys with writing := true } }, 11, 63, 1, by decide +kernel⟩,
    ⟨{ { Tests.at 4 with sess := [(11, { Sess.init with rights := .integrator, isOpen := true })] } with keys := { ({ Tests.at 4 with sess := [(11, { Sess.init with rights := .integrator, isOpen := true })] }).keys with slots := [(71, { Slot.init with state := .loaded, key := Tests.z 32, owner := 3, root := 1 })] } }, 11, 71, 1, by decide +kernel⟩,
    ⟨{ Tests.wrs (Tests.at 4) 0 [(Dict.KEY_STORE_HDCP_WRAP_SLOT, 71)] with keys := { (Tests.wrs (Tests.at 4) 0 [(Dict.KEY_STORE_HDCP_WRAP_SLOT, 71)]).keys with slots := [(71, { Slot.init with state := .loaded, key := Tests.z 32, owner := 2, root := 1 })], hdcpKeys := [1] } }, 11, 71, 1, by decide +kernel⟩,
    ⟨{ Tests.at 4 with keys := { (Tests.at 4).keys with slots := [(71, { Slot.init with state := .bad })] } }, 11, 71, 1, by decide +kernel⟩,
    ⟨Tests.at 4, 11, 0, 1, by decide +kernel⟩,
    ⟨{ Tests.at 4 with keys := { (Tests.at 4).keys with slots := [(71, { Slot.init with state := .patch, serves := 0 })] } }, 11, 0, 1, by decide +kernel⟩,
    ⟨Tests.at 4, 11, Tests.z 1245, by decide +kernel⟩,
    ⟨Tests.at 4, 11, Tests.z 1245, { abort := 134217762, detail := 166, fieldIndex := 13312, fieldSub := 7, entry := 4294967295, ownEvent := false }, by decide +kernel⟩,
    ⟨Tests.wrs ({ Tests.at 4 with keys := { (Tests.at 4).keys with lifecycle := 1, slots := [(71, { Slot.init with state := .loaded, key := Tests.z 32, attr := 2, algorithm := 1, root := 1 })] } }) 0 [(Dict.KEY_STORE_HDCP_WRAP_SLOT, 71), (Dict.KEY_STORE_HDCP_KCV, keyCheck 0 (Tests.z 16))], 11, Tests.z 1245, by decide +kernel⟩,
    ⟨Tests.wrs ({ Tests.at 4 with keys := { (Tests.at 4).keys with lifecycle := 2, slots := [(71, { Slot.init with state := .loaded, key := Tests.z 32, attr := 2, algorithm := 1, root := 2 })] } }) 0 [(Dict.KEY_STORE_HDCP_WRAP_SLOT, 71), (Dict.KEY_STORE_HDCP_KCV, keyCheck 0 (Tests.z 16))], 11, Tests.z 1245, by decide +kernel⟩⟩

theorem test_wit_LifecycleAndZeroisation :
    (∃ (s : State) (k : Fin 12) (v : Nat), let b := s.begin.actBy k; Safety.passesScalar b k Dict.LIFECYCLE_TARGET 0 0 v) ∧
    (∃ (s : State) (k : Fin 12) (v : Nat), let b := s.begin.actBy k; (Safety.passesScalar b k Dict.LIFECYCLE_CONFIRM 0 0 v) ∧ (b.floor = true ∨ b.keys.writing = true)) ∧
    (∃ (s : State) (k : Fin 12) (v : Nat), let b := s.begin.actBy k; let target := b.rd Dict.LIFECYCLE_TARGET; (Safety.passesScalar b k Dict.LIFECYCLE_CONFIRM 0 0 v) ∧ (b.floor = false) ∧ (b.keys.writing = false) ∧ (b.keys.challenge ≠ some v ∨ b.keys.challengeAt + 10000000000 < b.now ∨ b.standbyLike = false ∨
        b.keys.transition ≠ none ∨ lifecycleMoves b.keys.lifecycle target = false)) ∧
    (∃ (s : State) (k : Fin 12) (v : Nat), let b := s.begin.actBy k; let target := b.rd Dict.LIFECYCLE_TARGET; (Safety.passesScalar b k Dict.LIFECYCLE_CONFIRM 0 0 v) ∧ (b.floor = false) ∧ (b.keys.writing = false) ∧ (b.keys.challenge = some v) ∧ (b.now ≤ b.keys.challengeAt + 10000000000) ∧ (b.standbyLike = true) ∧ (b.keys.transition = none) ∧ (lifecycleMoves b.keys.lifecycle target = true)) ∧
    (∃ (s : State), let b := s.begin.actBy s.keys.writer; (s.begin.dictUp = true) ∧ (b.floor = true)) ∧
    (∃ (s : State), let b := s.begin.actBy s.keys.writer; (s.begin.dictUp = true) ∧ (b.floor = false) ∧ (b.keys.transition = none)) ∧
    (∃ (s : State) (t : _), let b := s.begin.actBy s.keys.writer; (s.begin.dictUp = true) ∧ (b.floor = false) ∧ (b.keys.transition = some t) ∧ (t ≠ 4)) ∧
    (∃ (s : State), let b := s.begin.actBy s.keys.writer; (s.begin.dictUp = true) ∧ (b.floor = false) ∧ (b.keys.transition = some 4)) ∧
    (∃ (s : State), let b := s.begin; b.tamperOn 0 = true) ∧
    (∃ (s : State), let b := s.begin; b.tamperOn 0 = false) ∧
    (∃ (s : State), let b := s.begin; (b.tamperOn 1 = true) ∧ (b.keys.glitchArmed = true)) ∧
    (∃ (s : State), let b := s.begin; b.keys.glitchArmed = false) ∧
    (∃ (s : State), let b := s.begin; b.tamperOn 2 = true) ∧
    (∃ (s : State), let b := s.begin; b.tamperOn 2 = false) ∧
    (∃ (s : State) (k : Nat), k < 72) ∧
    (∃ (s : State), s.keys.fuses < 15) ∧
    (∃ (s : State), 15 ≤ s.keys.fuses) ∧
    (∃ (s : State), let b := s.begin; (b.alive = true) ∧ (b.keys.overwritePending = true) ∧ (b.floor = false)) ∧
    (∃ (s : State), let b := s.begin; b.keys.overwritePending = false ∨ b.floor = true) ∧
    (∃ (s : State), let b := s.begin; (b.flag Dict.KEY_STORE_TAMPER_CAP_OK = true) ∧ (b.alive = true)) ∧
    (∃ (s : State), let b := s.begin; (b.flag Dict.KEY_STORE_TAMPER_CAP_OK = true) ∧ (b.alive = false)) ∧
    (∃ (s : State), let b := s.begin; b.flag Dict.KEY_STORE_TAMPER_CAP_OK = false) := by
  refine ⟨⟨Tests.at 4, 11, 0, by decide +kernel⟩,
    ⟨{ Tests.at 4 with keys := { (Tests.at 4).keys with writing := true } }, 11, 4294967295, by decide +kernel⟩,
    ⟨Tests.at 4, 11, 0, by decide +kernel⟩,
    ⟨{ (Tests.wrs (Tests.at 3) 0 [(Dict.LIFECYCLE_TARGET, 4)]) with keys := { ((Tests.wrs (Tests.at 3) 0 [(Dict.LIFECYCLE_TARGET, 4)])).keys with challenge := some 4294967295 } }, 11, 4294967295, by decide +kernel⟩,
    ⟨(Tests.at 4).wr Dict.SUPPLY_FLOOR_STATE 1, by decide +kernel⟩,
    ⟨Tests.at 4, by decide +kernel⟩,
    ⟨{ Tests.at 4 with keys := { (Tests.at 4).keys with transition := some 2 } }, 2, by decide +kernel⟩,
    ⟨{ Tests.at 4 with keys := { (Tests.at 4).keys with transition := some 4 } }, by decide +kernel⟩,
    ⟨Tests.at 4, by decide +kernel⟩,
    ⟨Tests.wrs (Tests.at 4) 0 [(Dict.KEY_STORE_TAMPER_SOURCES, 6)], by decide +kernel⟩,
    ⟨{ Tests.wrs (Tests.at 4) 0 [(Dict.KEY_STORE_TAMPER_SOURCES, 2)] with keys := { (Tests.wrs (Tests.at 4) 0 [(Dict.KEY_STORE_TAMPER_SOURCES, 2)]).keys with glitchArmed := true } }, by decide +kernel⟩,
    ⟨Tests.at 4, by decide +kernel⟩,
    ⟨Tests.at 4, by decide +kernel⟩,
    ⟨Tests.wrs (Tests.at 4) 0 [(Dict.KEY_STORE_TAMPER_SOURCES, 3)], by decide +kernel⟩,
    ⟨Tests.at 4, 0, by decide +kernel⟩,
    ⟨Tests.at 4, by decide +kernel⟩,
    ⟨{ Tests.at 4 with keys := { (Tests.at 4).keys with fuses := 15 } }, by decide +kernel⟩,
    ⟨{ Tests.at 4 with keys := { (Tests.at 4).keys with overwritePending := true } }, by decide +kernel⟩,
    ⟨Tests.at 4, by decide +kernel⟩,
    ⟨Tests.wrs (Tests.at 4) 0 [(Dict.KEY_STORE_TAMPER_CAP_OK, 1)], by decide +kernel⟩,
    ⟨Tests.wrs (Tests.at 0) 0 [(Dict.KEY_STORE_TAMPER_CAP_OK, 1)], by decide +kernel⟩,
    ⟨Tests.at 4, by decide +kernel⟩⟩

theorem test_wit_ResetAndStartUp :
    (∃ (s : State), let b := s.begin; b.dev.porstN = false) ∧
    (∃ (s : State), let b := s.begin; (b.dev.porstN = true) ∧ (b.dev.stopped = false)) ∧
    (∃ (s : State), let b := s.begin; (b.dev.porstN = true) ∧ (b.dev.stopped = true)) ∧
    (∃ (s : State) (key : _), keptReg key = false) ∧
    (∃ (s : State) (straps : Fin 4096) (f : LoadFound), let b := s.begin; b.dev.porstN = true) ∧
    (∃ (s : State) (straps : Fin 4096) (f : LoadFound), let b := s.begin; (b.dev.porstN = false) ∧ (b.dev.stopped = true)) ∧
    (∃ (s : State) (straps : Fin 4096) (f : LoadFound), let b := s.begin; (b.dev.porstN = false) ∧ (b.dev.stopped = false)) ∧
    (∃ (s : State), let b := s.begin; b.dev.stopped = true) ∧
    (∃ (s : State), let b := s.begin; b.dev.stopped = false) ∧
    (∃ (s : State) (engines : List (Fin 104)) (banks : List (Fin 1088)), let b := s.begin; (b.devState = 1) ∧ (b.dev.bistDone = false)) ∧
    (∃ (s : State) (engines : List (Fin 104)) (banks : List (Fin 1088)), let b := s.begin; b.devState ≠ 1 ∨ b.dev.bistDone = true) ∧
    (∃ (s : State), let b := s.begin; (b.devState = 1) ∧ (b.dev.dramDone = true)) ∧
    (∃ (s : State), let b := s.begin; b.devState ≠ 1 ∨ b.dev.dramDone = false) ∧
    (∃ (s : State), field s.dev.straps 1 0 = 0) ∧
    (∃ (s : State), field s.dev.straps 1 0 = 2) ∧
    (∃ (s : State), field s.dev.straps 1 0 = 1 ∨ field s.dev.straps 1 0 = 3) ∧
    (∃ (s : State) (tms tdi : Bool), s.tap.trstN = false) ∧
    (∃ (s : State) (d : Fin 5 → Bool), s.tap.trstN = true) := by
  refine ⟨⟨State.reset, by decide +kernel⟩,
    ⟨Tests.at 4, by decide +kernel⟩,
    ⟨{ Tests.at 4 with dev := { (Tests.at 4).dev with stopped := true } }, by decide +kernel⟩,
    ⟨Tests.at 4, 0, by decide +kernel⟩,
    ⟨Tests.at 4, 4095, ⟨[], [], [], [], [], true⟩, by decide +kernel⟩,
    ⟨{ State.reset with dev := { (State.reset).dev with stopped := true } }, 4095, ⟨[], [], [], [], [], true⟩, by decide +kernel⟩,
    ⟨State.reset, 4095, ⟨[], [], [], [], [], true⟩, by decide +kernel⟩,
    ⟨{ Tests.at 4 with dev := { (Tests.at 4).dev with stopped := true } }, by decide +kernel⟩,
    ⟨Tests.at 4, by decide +kernel⟩,
    ⟨Tests.at 1, [], [], by decide +kernel⟩,
    ⟨Tests.at 4, [], [], by decide +kernel⟩,
    ⟨{ Tests.at 1 with dev := { (Tests.at 1).dev with dramDone := true } }, by decide +kernel⟩,
    ⟨Tests.at 4, by decide +kernel⟩,
    ⟨Tests.at 4, by decide +kernel⟩,
    ⟨{ Tests.at 4 with dev := { (Tests.at 4).dev with straps := 4094 } }, by decide +kernel⟩,
    ⟨{ Tests.at 4 with dev := { (Tests.at 4).dev with straps := 4095 } }, by decide +kernel⟩,
    ⟨Tests.at 4, true, true, by decide +kernel⟩,
    ⟨{ Tests.at 4 with tap := { Tap.init with trstN := true } }, fun _ => false, by decide +kernel⟩⟩

theorem test_wit_RequestsAndAutoRun :
    (∃ (s : State) (source st : Nat), (st < 256) ∧ ((s.wr Dict.DEVICE_STATE_STATE st).alertPin ≠ s.alertPin)) ∧
    (∃ (s : State) (k : Fin 12), let b := s.begin.actBy k; (Safety.passesScalar b k Dict.DEVICE_STATE_REQUEST 0 0 4) ∧ (b.devState ≠ 3) ∧ (b.devState ≠ 5)) ∧
    (∃ (s : State) (k : Fin 12), let b := s.begin.actBy k; (Safety.passesScalar b k Dict.DEVICE_STATE_REQUEST 0 0 4) ∧ (b.devState = 3 ∨ b.devState = 5) ∧ ((b.rd Dict.DEVICE_STATE_SAFE_TEMP : Int) * 16 - 80 ≤ b.gov.dieTemp)) ∧
    (∃ (s : State) (k : Fin 12) (r : _), let b := s.begin.actBy k; (Safety.passesScalar b k Dict.DEVICE_STATE_REQUEST 0 0 4) ∧ (b.judgeRun = some r)) ∧
    (∃ (s : State) (k : Fin 12), let b := s.begin.actBy k; (Safety.passesScalar b k Dict.DEVICE_STATE_REQUEST 0 0 4) ∧ (b.judgeRun = none)) ∧
    (∃ (s : State) (k : Fin 12), let b := s.begin.actBy k; (Safety.passesScalar b k Dict.DEVICE_STATE_REQUEST 0 0 3) ∧ (b.devState ≠ 4) ∧ (b.devState ≠ 5)) ∧
    (∃ (s : State) (k : Fin 12), let b := s.begin.actBy k; (Safety.passesScalar b k Dict.DEVICE_STATE_REQUEST 0 0 3) ∧ (b.devState = 4)) ∧
    (∃ (s : State) (k : Fin 12), let b := s.begin.actBy k; (Safety.passesScalar b k Dict.DEVICE_STATE_REQUEST 0 0 3) ∧ (b.devState = 5)) ∧
    (∃ (s : State) (k : Fin 12), let b := s.begin.actBy k; (Safety.passesScalar b k Dict.DEVICE_STATE_REQUEST 0 0 5) ∧ (b.devState = 3 ∨ b.devState = 4)) ∧
    (∃ (s : State) (k : Fin 12), let b := s.begin.actBy k; (Safety.passesScalar b k Dict.DEVICE_STATE_REQUEST 0 0 5) ∧ (b.devState ≠ 3) ∧ (b.devState ≠ 4)) ∧
    (∃ (s : State) (source cause : Nat), cause < 256) ∧
    (∃ (s : State), let b := s.begin; (b.devState = 3 ∨ b.devState = 4) ∧ (b.since b.gov.hotSince 1000000000 = true)) ∧
    (∃ (s : State), let b := s.begin; b.since b.gov.hotSince 1000000000 = false) ∧
    (∃ (s : State), let b := s.begin; b.autoRunOpen = false ∨ b.autoRunReady = false) ∧
    (∃ (s : State), let b := s.begin; let tried : State := { b with dev := { b.dev with autoTried := true } }; (b.autoRunOpen = true) ∧ (b.autoRunReady = true) ∧ (tried.judgeRun = none)) ∧
    (∃ (s : State) (r : _), let b := s.begin; let tried : State := { b with dev := { b.dev with autoTried := true } }; (b.autoRunOpen = true) ∧ (b.autoRunReady = true) ∧ (tried.judgeRun = some r)) ∧
    (∃ (s : State), let b := s.begin; let limit := b.rd Dict.DEVICE_STATE_AUTO_RUN_TIMEOUT; (b.autoRunOpen = true) ∧ (b.autoRunReady = false) ∧ (b.dev.standbyAt + limit * 1000000000 ≤ b.now)) ∧
    (∃ (s : State), let b := s.begin; let limit := b.rd Dict.DEVICE_STATE_AUTO_RUN_TIMEOUT; b.autoRunOpen = false ∨ b.autoRunReady = true ∨ b.now < b.dev.standbyAt + limit * 1000000000) ∧
    (∃ (s : State) (k : Fin 12) (v : Nat), let b := s.begin.actBy k; (Safety.passesScalar b k Dict.DEVICE_STATE_FULL_BIST 0 0 v) ∧ (b.devState = 2)) ∧
    (∃ (s : State) (k : Fin 12) (v : Nat), let b := s.begin.actBy k; (Safety.passesScalar b k Dict.DEVICE_STATE_FULL_BIST 0 0 v) ∧ (b.devState ≠ 2)) ∧
    (∃ (s : State) (l : List (Nat × Nat)), let b := s.begin; (b.devState = 2) ∧ (b.dev.fullBist = true)) ∧
    (∃ (s : State) (l : List (Nat × Nat)), let b := s.begin; b.devState ≠ 2 ∨ b.dev.fullBist = false) ∧
    (∃ (s : State) (k : Fin 12) (v : Nat), let b := s.begin.actBy k; Safety.passesScalar b k Dict.DEVICE_STATE_RESET 0 0 v) := by
  refine ⟨⟨Tests.at 4, 0, 5, by decide +kernel⟩,
    ⟨Tests.at 4, 11, by decide +kernel⟩,
    ⟨{ Tests.at 3 with gov := { (Tests.at 3).gov with dieTemp := ((Tests.at 3).rd Dict.DEVICE_STATE_SAFE_TEMP : Int) * 16 - 80 } }, 11, by decide +kernel⟩,
    ⟨Tests.at 4, 11, { abort := 134217762, detail := 208, fieldIndex := 0, fieldSub := 0, entry := 4294967295, ownEvent := false }, by decide +kernel⟩,
    ⟨Tests.at 3, 11, by decide +kernel⟩,
    ⟨Tests.at 3, 11, by decide +kernel⟩,
    ⟨Tests.at 4, 11, by decide +kernel⟩,
    ⟨Tests.at 5, 11, by decide +kernel⟩,
    ⟨Tests.at 4, 11, by decide +kernel⟩,
    ⟨Tests.at 2, 11, by decide +kernel⟩,
    ⟨Tests.at 4, 0, 0, by decide +kernel⟩,
    ⟨{ Tests.at 4 with gov := { (Tests.at 4).gov with hotSince := 4000000001 } }, by decide +kernel⟩,
    ⟨Tests.at 4, by decide +kernel⟩,
    ⟨Tests.at 4, by decide +kernel⟩,
    ⟨Tests.wrs (Tests.at 3) 0 [(Dict.DEVICE_STATE_AUTO_RUN, 1), (Dict.DEVICE_STATE_AUTO_RUN_WAIT, 0)], by decide +kernel⟩,
    ⟨{ Tests.wrs (Tests.at 3) 0 [(Dict.DEVICE_STATE_AUTO_RUN, 1), (Dict.DEVICE_STATE_AUTO_RUN_WAIT, 0)] with gov := { (Tests.wrs (Tests.at 3) 0 [(Dict.DEVICE_STATE_AUTO_RUN, 1), (Dict.DEVICE_STATE_AUTO_RUN_WAIT, 0)]).gov with dieTemp := 16000 } }, { abort := 134217762, detail := 210, fieldIndex := 0, fieldSub := 0, entry := 4294967295, ownEvent := false }, by decide +kernel⟩,
    ⟨Tests.wrs (Tests.at 3) 0 [(Dict.DEVICE_STATE_AUTO_RUN, 1), (Dict.DEVICE_STATE_AUTO_RUN_WAIT, 1), (Dict.DEVICE_STATE_AUTO_RUN_TIMEOUT, 5)], by decide +kernel⟩,
    ⟨Tests.at 4, by decide +kernel⟩,
    ⟨Tests.at 2, 11, 1, by decide +kernel⟩,
    ⟨Tests.at 4, 11, 1, by decide +kernel⟩,
    ⟨{ Tests.at 2 with dev := { (Tests.at 2).dev with fullBist := true } }, [], by decide +kernel⟩,
    ⟨Tests.at 4, [], by decide +kernel⟩,
    ⟨Tests.at 4, 11, 1, by decide +kernel⟩⟩

theorem test_wit_HostWindow :
    (∃ (s : State) (offset length : Nat) (data : List Byte), let b := s.begin; let size := b.dramSetting 4 * 1048576; (b.alive = true) ∧ (b.rd Dict.PCIE_LINK_STATE = 2) ∧ (offset + length ≤ size)) ∧
    (∃ (s : State) (offset length : Nat) (data : List Byte), let b := s.begin; let size := b.dramSetting 4 * 1048576; (b.alive = true) ∧ (b.rd Dict.PCIE_LINK_STATE = 2) ∧ (size ≤ offset) ∧ (0 < length)) ∧
    (∃ (s : State) (offset length : Nat) (data : List Byte), let b := s.begin; let size := b.dramSetting 4 * 1048576; (b.alive = true) ∧ (b.rd Dict.PCIE_LINK_STATE = 2) ∧ (offset + data.length ≤ size)) ∧
    (∃ (s : State) (offset length : Nat) (data : List Byte), let b := s.begin; let size := b.dramSetting 4 * 1048576; (b.alive = true) ∧ (b.rd Dict.PCIE_LINK_STATE = 2) ∧ (size ≤ offset) ∧ (0 < data.length)) := by
  refine ⟨⟨{ Tests.pcie with dram := { Dram.init with inForce := [0, 0, 0, 0, 1] } }, 1048576, 0, [], by decide +kernel⟩,
    ⟨{ Tests.pcie with dram := { Dram.init with inForce := [0, 0, 0, 0, 1] } }, 1048576, 1, [], by decide +kernel⟩,
    ⟨{ Tests.pcie with dram := { Dram.init with inForce := [0, 0, 0, 0, 1] } }, 1048575, 0, [7], by decide +kernel⟩,
    ⟨{ Tests.pcie with dram := { Dram.init with inForce := [0, 0, 0, 0, 1] } }, 1048576, 0, [7], by decide +kernel⟩⟩

theorem test_wit_StatusRejected :
    (∃ (s : State) (p : Fin 48) (data : List Byte), let b := s.begin; (b.alive = true) ∧ (b.rd Dict.PORT_STATE p = 2) ∧ (b.rd Dict.PTL_GENERATION 0 p = 2) ∧ (b.rd Dict.PTL_KEY_STATE = 1) ∧ (byteAt data 0 = 0x25) ∧ (bit (byteAt data 1) 1 = false) ∧ (beNat ((data.drop 13).take 2) = 32) ∧ (data.length = 48 + (if bit (byteAt data 1) 0 then 16 else 0)) ∧ (b.statusTag p data = false) ∧ (b.authFailAt p = 0 ∨ b.authFailAt p - 1 + 1000000000 ≤ b.now)) ∧
    (∃ (s : State) (p : Fin 48) (data : List Byte), let b := s.begin; (b.alive = true) ∧ (b.rd Dict.PORT_STATE p = 2) ∧ (b.rd Dict.PTL_GENERATION 0 p = 2) ∧ (b.rd Dict.PTL_KEY_STATE = 1) ∧ (byteAt data 0 = 0x25) ∧ (bit (byteAt data 1) 1 = false) ∧ (beNat ((data.drop 13).take 2) = 32) ∧ (data.length = 48 + (if bit (byteAt data 1) 0 then 16 else 0)) ∧ (b.statusTag p data = false) ∧ (b.authFailAt p ≠ 0) ∧ (b.now < b.authFailAt p - 1 + 1000000000)) ∧
    (∃ (s : State) (p : Nat) (data : List Byte), bit (byteAt data 1) 0 = false) ∧
    (∃ (s : State) (p v : Nat) (q : _), q ≠ p) := by
  refine ⟨⟨(Tests.tiled 255 1).wr Dict.PTL_KEY_STATE 1, 1, [0x25, 0] ++ Tests.z 6 ++ [0xFF, 0xFE] ++ Tests.z 3 ++ [0, 32] ++ Tests.z 33, by decide +kernel⟩,
    ⟨((Tests.tiled 255 1).wr Dict.PTL_KEY_STATE 1).putAuthFail 1 4000000002, 1, [0x25, 0] ++ Tests.z 6 ++ [0xFF, 0xFE] ++ Tests.z 3 ++ [0, 32] ++ Tests.z 33, by decide +kernel⟩,
    ⟨Tests.at 4, 0, [0, 2], by decide +kernel⟩,
    ⟨Tests.at 4, 0, 0, 1, by decide +kernel⟩⟩

theorem test_wit_WritesResume :
    (∃ (s : State) (r : Rails), let b := s.begin.showRails r; let st := b.rd Dict.SUPPLY_FLOOR_STATE; let fit := 1730 ≤ r.vnvm ∧ 1730 ≤ r.vio18 ∧ 730 ≤ r.vctl ∧ r.pwrFail = false; (b.alive = true) ∧ (st = 1 ∨ st = 2) ∧ (¬ fit)) ∧
    (∃ (s : State) (r : Rails), let b := s.begin.showRails r; let st := b.rd Dict.SUPPLY_FLOOR_STATE; let fit := 1730 ≤ r.vnvm ∧ 1730 ≤ r.vio18 ∧ 730 ≤ r.vctl ∧ r.pwrFail = false; (b.alive = true) ∧ (st = 1 ∨ st = 2) ∧ (fit) ∧ (b.supply.goodSince = 0)) ∧
    (∃ (s : State) (r : Rails), let b := s.begin.showRails r; let st := b.rd Dict.SUPPLY_FLOOR_STATE; let fit := 1730 ≤ r.vnvm ∧ 1730 ≤ r.vio18 ∧ 730 ≤ r.vctl ∧ r.pwrFail = false; (b.alive = true) ∧ (st = 1 ∨ st = 2) ∧ (fit) ∧ (b.supply.goodSince ≠ 0) ∧ (b.now < b.supply.goodSince - 1 + 50000000)) ∧
    (∃ (s : State) (r : Rails), let b := s.begin.showRails r; let st := b.rd Dict.SUPPLY_FLOOR_STATE; let fit := 1730 ≤ r.vnvm ∧ 1730 ≤ r.vio18 ∧ 730 ≤ r.vctl ∧ r.pwrFail = false; (b.alive = true) ∧ (st = 1 ∨ st = 2) ∧ (fit) ∧ (b.supply.goodSince ≠ 0) ∧ (b.supply.goodSince - 1 + 50000000 ≤ b.now)) := by
  refine ⟨⟨(Tests.at 4).wr Dict.SUPPLY_FLOOR_STATE 1, ⟨1729, 1730, 730, false⟩, by decide +kernel⟩,
    ⟨(Tests.at 4).wr Dict.SUPPLY_FLOOR_STATE 1, ⟨1730, 1730, 730, false⟩, by decide +kernel⟩,
    ⟨{ (Tests.at 4).wr Dict.SUPPLY_FLOOR_STATE 2 with supply := { Supply.init with goodSince := 4950000002 } }, ⟨1730, 1730, 730, false⟩, by decide +kernel⟩,
    ⟨{ (Tests.at 4).wr Dict.SUPPLY_FLOOR_STATE 2 with supply := { Supply.init with goodSince := 4950000001 } }, ⟨1730, 1730, 730, false⟩, by decide +kernel⟩⟩

/-- Tests: whether an outcome is a next state, and that state. -/
def Tests.isNext (o : Host.Outcome State Fault Refusal) : Bool := match o with | .next _ => true | _ => false
def Tests.after (o : Host.Outcome State Fault Refusal) : State := match o with | .next t => t | _ => State.reset
theorem Tests.of_next (o : Host.Outcome State Fault Refusal) (h : Tests.isNext o = true) : o = .next (Tests.after o) := by
  cases o <;> first | rfl | cases h
/-- Tests: in RUN, with two bytes in the host surface region and a command that writes it. -/
def Tests.host : State :=
  let s := Tests.pcie
  { s with dram := { s.dram with host := [(4, 1), (9, 2)] }, pending := [.bar2Access true 4 2 [7, 7]] }
/-- Tests: a descriptor that writes two lines of two pixels to address 16. -/
def Tests.desc : List Byte :=
  1 :: Tests.z 7 ++ leBytes 2 2 ++ leBytes 2 2 ++ leBytes 8 16 ++ leBytes 8 16 ++ leBytes 4 64 ++ Tests.z 16
/-- Tests: canvas 7 composes a frame that goes there, and engine 103 holds a strip of it without pixels. -/
def Tests.back : State :=
  (Tests.strips { Strip.fresh .compose 7 0 0 0 0 0 24 true with issued := 1, copies := [⟨103, 0⟩] }).putCanvas 7
    { Canvas.init with composing := true, wbNow := [(1, (Tests.desc, ⟨2, 2, []⟩))] }
theorem test_wit_FrontCommandRuns : ∃ (s : State) (c : Instr) (rest : List Instr), s.pending = c :: rest :=
  ⟨Tests.host, .bar2Access true 4 2 [7, 7], [], rfl⟩
theorem test_wit_EmptyQueueTick :
    (∃ s : State, s.pending = [] ∧ 0 ≤ dcoUnit + s.dcoWord + s.alignStepNow) ∧
    (∃ s : State, s.rd Dict.HENTIS_STATE = 0 ∧ s.rd Dict.HENTIS_LOOP_MODE ≠ 1) ∧
    (∃ s : State, s.rd Dict.HENTIS_STATE = 0 ∧ s.rd Dict.HENTIS_LOOP_MODE = 1) ∧
    (∃ s : State, s.rd Dict.HENTIS_STATE ≠ 0 ∧ s.hentis.slewTo = none) :=
  ⟨⟨State.reset, by decide +kernel⟩, ⟨State.reset, by decide +kernel⟩, ⟨(Tests.at 4).wr Dict.HENTIS_LOOP_MODE 1, by decide +kernel⟩,
    ⟨(Tests.at 4).wr Dict.HENTIS_STATE 1, by decide +kernel⟩⟩
theorem test_wit_StepKeepsMemoryCanonical : ∃ s t : State, Safety.memoryCanonical s ∧ step s = .next t :=
  ⟨Tests.host, Tests.after (step Tests.host), show Memory.wf _ = true by decide +kernel, Tests.of_next _ (by decide +kernel)⟩
theorem test_wit_StepTakesOneCommand : ∃ s t : State, step s = .next t :=
  ⟨Tests.host, Tests.after (step Tests.host), Tests.of_next _ (by decide +kernel)⟩
theorem test_wit_HostMemoryFrame :
    (∃ (c : Instr) (s t : State), exec c s = .next t ∧ (∀ w o l d, c ≠ .bar2Access w o l d) ∧
      (∀ e i, c ≠ .stripComplete e i) ∧ (∀ n, c ≠ .composeDeadline n) ∧ (∀ w u, c ≠ .dramEccError w u)) ∧
    (∃ (s t : State) (o l : Nat) (d : List Byte) (a : Nat), exec (.bar2Access true o l d) s = .next t ∧ (a < o ∨ o + d.length ≤ a)) ∧
    (∃ (s t : State) (o l : Nat) (d : List Byte), exec (.bar2Access false o l d) s = .next t) ∧
    (∃ (s t : State) (e : Fin 104) (i : StripId), exec (.stripComplete e i) s = .next t ∧ s.stripOf i = none) ∧
    (∃ (s t : State) (e : Fin 104) (i : StripId) (a : Strip) (p : Nat), exec (.stripComplete e i) s = .next t ∧ s.stripOf i = some a ∧
      (let into (k : Nat) := (Store.read (fun _ => ([], Raster.init)) (s.canvasAt a.owner).wbNow k).1
      let at_ (d : List Byte) := if s.rd Dict.CANVAS_BASE_FRAMES a.owner % 2 = 1 then leAt d 12 8 else leAt d 20 8
      byteAt (into 1) 0 = 1 ∧ ∀ k, k < 2 → byteAt (into k) 0 = 1 → ∀ y, y < leAt (into k) 10 2 → p < at_ (into k) + y * leAt (into k) 28 4 ∨
        at_ (into k) + y * leAt (into k) 28 4 + leAt (into k) 8 2 * bytesPerPixel (wbFormat (into k)) ≤ p)) ∧
    (∃ (s t : State) (c : Fin 8) (p : Nat), exec (.composeDeadline c) s = .next t ∧
      (let at_ (d : List Byte) := if s.rd Dict.CANVAS_BASE_FRAMES c % 2 = 1 then leAt d 12 8 else leAt d 20 8
      ∀ x, x ∈ (s.canvasAt c).wbNow → byteAt x.2.1 0 = 1 → p < at_ x.2.1 ∨ at_ x.2.1 + leAt x.2.1 28 4 * leAt x.2.1 10 2 ≤ p)) ∧
    (∃ (s t : State) (w : DramWord) (double : Bool), exec (.dramEccError w double) s = .next t) :=
  ⟨⟨.thermtrip, Tests.at 4, Tests.after (exec .thermtrip (Tests.at 4)), Tests.of_next _ (by decide +kernel), nofun, nofun, nofun, nofun⟩,
    ⟨Tests.host, Tests.after (exec (.bar2Access true 4 2 [7, 7]) Tests.host), 4, 2, [7, 7], 6, Tests.of_next _ (by decide +kernel), by decide⟩,
    ⟨Tests.host, Tests.after (exec (.bar2Access false 4 2 []) Tests.host), 4, 2, [], Tests.of_next _ (by decide +kernel)⟩,
    ⟨Tests.at 4, Tests.after (exec (.stripComplete 103 Tests.stripId) (Tests.at 4)), 103, Tests.stripId, Tests.of_next _ (by decide +kernel), by decide +kernel⟩,
    ⟨Tests.back, Tests.after (exec (.stripComplete 103 Tests.stripId) Tests.back), 103, Tests.stripId,
      { Strip.fresh .compose 7 0 0 0 0 0 24 true with issued := 1, copies := [⟨103, 0⟩] }, 20, Tests.of_next _ (by decide +kernel), by decide +kernel⟩,
    ⟨Tests.back, Tests.after (exec (.composeDeadline 7) Tests.back), 7, 144, Tests.of_next _ (by decide +kernel), by decide +kernel⟩,
    ⟨Tests.at 4, Tests.after (exec (.dramEccError ⟨23, false, 524287, .region 0⟩ true) (Tests.at 4)), ⟨23, false, 524287, .region 0⟩, true,
      Tests.of_next _ (by decide +kernel)⟩⟩
theorem test_wit_SessionAndQueueCommands_subscribed :
    ∃ (s : State) (e : Ev) (k : Nat), 4 ≤ k ∧ k ≤ 11 ∧ s.subscribed e k = true :=
  ⟨(Tests.at 4).putSess 11 { (Tests.at 4).sessAt 11 with isOpen := true, subSeverity := 3 }, ⟨9, 1, 0, 3, false, 0, 0, 0, 0⟩, 11,
    by decide +kernel⟩
theorem test_wit_ResetAndStartUp_jtag :
    (∃ s : State, s.tap.trstN = false) ∧ (∃ s : State, s.tap.trstN = true) :=
  ⟨⟨{ State.reset with tap := { Tap.init with trstN := false } }, by decide +kernel⟩, ⟨State.reset.driveTrst true, by decide +kernel⟩⟩

end
end

-- ==== Proofs: the host window (R80, R356) ====
section
/-! PROOFS. BAR2 accesses: what a read and a write do inside the host surface region and past its end (R80, R356). -/
namespace Sys2Proof.Machine
open Sys2Proof

theorem exec_bar2Access_eq (write : Bool) (offset length : Nat) (data : List Byte) (s : State) :
    exec (.bar2Access write offset length data) s = .next (s.begin.bar2 write offset length data) := rfl

section
variable {s : State} {offset length : Nat} {data : List Byte}
variable (halive : s.alive = true) (hlink : s.rd Dict.PCIE_LINK_STATE = 2)
include halive hlink

theorem State.bar2_read_of_le (hfit : offset + length ≤ s.dramSetting 4 * 1048576) :
    s.bar2 false offset length data = s.out (.packet 6 0 (s.hostBytes offset length)) := by
  simp [State.bar2, halive, hlink, hfit]

theorem State.bar2_write_of_le (hfit : offset + data.length ≤ s.dramSetting 4 * 1048576) :
    s.bar2 true offset length data = s.setHostBytes offset data := by
  simp [State.bar2, halive, hlink, hfit]

theorem State.bar2_read_of_lt (hpast : s.dramSetting 4 * 1048576 < offset + length) :
    s.bar2 false offset length data =
      ((s.out (.packet 6 0 (List.replicate length 0xFF))).inc Dict.PCIE_DRAM_WINDOW_FAULTS).raise Event.PCIE_WINDOW_FAULT
        pcieCode (offset / 1048576) := by
  simp [State.bar2, halive, hlink, Nat.not_le_of_lt hpast]

theorem State.bar2_write_of_lt (hpast : s.dramSetting 4 * 1048576 < offset + data.length) :
    s.bar2 true offset length data =
      (s.inc Dict.PCIE_DRAM_WINDOW_FAULTS).raise Event.PCIE_WINDOW_FAULT pcieCode (offset / 1048576) := by
  simp [State.bar2, halive, hlink, Nat.not_le_of_lt hpast]

end

/-- Settles O51: inside the region a read answers its bytes and a write is `setHostBytes`, whose laws give the bytes
written, the bytes kept and the frame; an access of at least one byte from the region's end on is past it. -/
theorem hostWindow : Obligations.HostWindow := by
  unfold Obligations.HostWindow
  intro s offset length data b size halive hlink
  simp only [exec_bar2Access_eq]
  refine ⟨fun hfit => ?readInside, fun hout hpos => ?readOutside, fun hfit => ?writeInside, fun hout hpos => ?writeOutside⟩
  case readInside => rw [State.bar2_read_of_le halive hlink hfit]
  case readOutside => rw [State.bar2_read_of_lt halive hlink (hout.trans_lt (Nat.lt_add_of_pos_right hpos))]
  case writeInside =>
    rw [State.bar2_write_of_le halive hlink hfit]
    exact ⟨b.setHostBytes offset data, rfl, fun i hi => State.setHostBytes_read data offset b i hi,
      fun a ha => State.setHostBytes_other data offset b a ha, State.setHostBytes_eq data offset b⟩
  case writeOutside => rw [State.bar2_write_of_lt halive hlink (hout.trans_lt (Nat.lt_add_of_pos_right hpos))]

end Sys2Proof.Machine
end

-- ==== Proofs: STATUS packets that are discarded (R284) ====
section
/-! PROOFS. STATUS packets on a PTL-2 port in use: which of them fail their tag, and what their discard does (R284). -/
namespace Sys2Proof.Machine
open Sys2Proof

theorem exec_statusReceived_eq (p : Fin 48) (data : List Byte) (s : State) :
    exec (.statusReceived p data) s = .next (s.begin.receiveStatus p data) := rfl

/-- The tag of a packet without AUTH never holds: the flag is the first thing that the check asks for. -/
theorem State.statusTag_of_no_auth {data : List Byte} (s : State) (p : Nat) (hauth : bit (byteAt data 1) 0 = false) :
    s.statusTag p data = false := by
  simp [State.statusTag, hauth]

section
variable {s : State} {p tile : Nat}

theorem State.rejectStatus_of_due (hdue : s.authFailAt p = 0 ∨ s.authFailAt p - 1 + 1000000000 ≤ s.now) :
    s.rejectStatus p tile =
      ((s.inc Dict.PTL_AUTH_REJECTS).putAuthFail p (s.now + 1)).raise Event.PTL_AUTH_FAIL p tile :=
  if_pos hdue

theorem State.rejectStatus_of_recent (hraised : s.authFailAt p ≠ 0) (hrecent : s.now < s.authFailAt p - 1 + 1000000000) :
    s.rejectStatus p tile = s.inc Dict.PTL_AUTH_REJECTS :=
  if_neg (not_or.mpr ⟨hraised, Nat.not_le_of_lt hrecent⟩)

/-- A STATUS of the PTL-2 form on a port in use is judged by its tag alone once keys are in use. -/
theorem State.receiveStatus_of_bad_tag {data : List Byte} (halive : s.alive = true) (hport : s.rd Dict.PORT_STATE p = 2)
    (hgen : s.rd Dict.PTL_GENERATION 0 p = 2) (hkeys : s.rd Dict.PTL_KEY_STATE = 1) (htype : byteAt data 0 = 0x25)
    (hplain : bit (byteAt data 1) 1 = false) (hpayload : beNat ((data.drop 13).take 2) = 32)
    (hlength : data.length = 48 + (if bit (byteAt data 1) 0 then 16 else 0)) (htag : s.statusTag p data = false) :
    s.receiveStatus p data = s.rejectStatus p (beNat ((data.drop 8).take 2)) := by
  simp [State.receiveStatus, halive, hport, hgen, hkeys, htype, hplain, hpayload, hlength, htag]

end

/-- Settles O52: a packet whose tag fails ends in `rejectStatus`, which raises PTL_AUTH_FAIL or not by the time the port
raised it last; a packet without AUTH has no tag that holds, and the times of the other ports stay. -/
theorem statusRejected : Obligations.StatusRejected := by
  unfold Obligations.StatusRejected
  refine ⟨?discarded, fun s p _ hauth => s.statusTag_of_no_auth p hauth, ?frame⟩
  case discarded =>
    intro s p data b tile rejected halive hport hgen hkeys htype hplain hpayload hlength htag
    rw [exec_statusReceived_eq,
      State.receiveStatus_of_bad_tag halive hport hgen hkeys htype hplain hpayload hlength htag]
    constructor
    case left => exact fun hdue => congrArg Host.Outcome.next (State.rejectStatus_of_due hdue)
    case right => exact fun hraised hrecent => congrArg Host.Outcome.next (State.rejectStatus_of_recent hraised hrecent)
  case frame =>
    exact fun s p v => ⟨s.putAuthFail_authFailAt p v, fun q hq => s.putAuthFail_authFailAt_ne p q v hq⟩

end Sys2Proof.Machine
end

-- ==== Proofs: the end of the write floor (R468, R470) ====
section
/-! PROOFS. The report of good supplies: the 50 ms that it begins, and what the users of the non-volatile memory keep of
the floor's end when writes resume (R468, R470, Table 17.4). -/
namespace Sys2Proof.Machine
open Sys2Proof

theorem exec_writeFloorLeft_eq (r : Rails) (s : State) : exec (.writeFloorLeft r) s = .next (s.begin.railsGood r) := rfl

theorem railsFit_iff (r : Rails) :
    railsFit r = true ↔ 1730 ≤ r.vnvm ∧ 1730 ≤ r.vio18 ∧ 730 ≤ r.vctl ∧ r.pwrFail = false := by
  simp [railsFit, and_assoc]

theorem State.since_iff (s : State) (mark d : Nat) : s.since mark d = true ↔ mark ≠ 0 ∧ mark - 1 + d ≤ s.now := by
  simp [State.since]

/-! ### What a report of the supplies does while the floor holds (R470) -/

section
variable {s : State} {r : Rails} (halive : (s.showRails r).alive = true)
  (hst : (s.showRails r).rd Dict.SUPPLY_FLOOR_STATE = 1 ∨ (s.showRails r).rd Dict.SUPPLY_FLOOR_STATE = 2)
include halive hst

/-- While the floor holds, the supplies and the 50 ms alone decide. -/
theorem State.railsGood_of_floor :
    s.railsGood r =
      if railsFit r = false then
        { (s.showRails r).wr Dict.SUPPLY_FLOOR_STATE 1 with supply := { (s.showRails r).supply with goodSince := 0 } }
      else if (s.showRails r).supply.goodSince = 0 then
        { (s.showRails r).wr Dict.SUPPLY_FLOOR_STATE 2 with
          supply := { (s.showRails r).supply with goodSince := (s.showRails r).now + 1 } }
      else if (s.showRails r).since (s.showRails r).supply.goodSince 50000000 then (s.showRails r).resumeWrites
      else s.showRails r := by
  have hheld : ¬ ((s.showRails r).alive = false ∨ (s.showRails r).rd Dict.SUPPLY_FLOOR_STATE ≠ 1 ∧
      (s.showRails r).rd Dict.SUPPLY_FLOOR_STATE ≠ 2) := by
    simp only [halive]; tauto
  exact if_neg hheld

theorem State.railsGood_of_lapse (hfit : railsFit r = false) :
    s.railsGood r =
      { (s.showRails r).wr Dict.SUPPLY_FLOOR_STATE 1 with supply := { (s.showRails r).supply with goodSince := 0 } } := by
  rw [State.railsGood_of_floor halive hst, if_pos hfit]

theorem State.railsGood_of_first (hfit : railsFit r = true) (hfirst : (s.showRails r).supply.goodSince = 0) :
    s.railsGood r = { (s.showRails r).wr Dict.SUPPLY_FLOOR_STATE 2 with
      supply := { (s.showRails r).supply with goodSince := (s.showRails r).now + 1 } } := by
  rw [State.railsGood_of_floor halive hst, if_neg (by simp [hfit]), if_pos hfirst]

theorem State.railsGood_of_early (hfit : railsFit r = true) (hbegun : (s.showRails r).supply.goodSince ≠ 0)
    (hearly : (s.showRails r).now < (s.showRails r).supply.goodSince - 1 + 50000000) :
    s.railsGood r = s.showRails r := by
  rw [State.railsGood_of_floor halive hst, if_neg (by simp [hfit]), if_neg hbegun,
    if_neg (by rw [State.since_iff]; exact fun h => Nat.not_le_of_lt hearly h.2)]

theorem State.railsGood_of_over (hfit : railsFit r = true) (hbegun : (s.showRails r).supply.goodSince ≠ 0)
    (hover : (s.showRails r).supply.goodSince - 1 + 50000000 ≤ (s.showRails r).now) :
    s.railsGood r = (s.showRails r).resumeWrites := by
  rw [State.railsGood_of_floor halive hst, if_neg (by simp [hfit]), if_neg hbegun,
    if_pos ((State.since_iff ..).mpr ⟨hbegun, hover⟩)]

end

/-! ### What tells that the floor has ended, and who keeps it -/

/-- `t` has of `r` all that tells whether the floor holds, and its event queue with entries put before it at most. -/
structure KeepsFloor (r t : State) : Prop where
  state : t.rd Dict.SUPPLY_FLOOR_STATE = r.rd Dict.SUPPLY_FLOOR_STATE
  cause : t.rd Dict.SUPPLY_FLOOR_CAUSE = r.rd Dict.SUPPLY_FLOOR_CAUSE
  supply : t.supply = r.supply
  glitch : t.keys.glitchArmed = r.keys.glitchArmed
  queue : Grew r t

theorem KeepsFloor.refl (s : State) : KeepsFloor s s := ⟨rfl, rfl, rfl, rfl, .of s s rfl⟩

section
variable {r s t : State} (h : KeepsFloor r s)
include h

/-- An update that touches none of the fields. -/
theorem KeepsFloor.update (hregs : t.regs = s.regs) (hsupply : t.supply = s.supply)
    (hglitch : t.keys.glitchArmed = s.keys.glitchArmed) (hqueue : t.ev.queue = s.ev.queue) : KeepsFloor r t := by
  have hrd (e : EntryDef) : t.rd e = s.rd e := congrArg (fun m => Store.read dictDefault m (e.key 0 0)) hregs
  exact ⟨(hrd _).trans h.state, (hrd _).trans h.cause, hsupply.trans h.supply, hglitch.trans h.glitch,
    h.queue.trans_eq hqueue⟩

/-- A register of an object below SUPPLY, whose index is 0x3E00. -/
theorem KeepsFloor.wr {e : EntryDef} {v n k : Nat} (hbelow : e.key n k < 0x3E00 * 256) :
    KeepsFloor r (s.wr e v n k) := by
  have hother (i : EntryDef) (hi : 0x3E00 * 256 ≤ i.key 0 0) : (s.wr e v n k).rd i = s.rd i :=
    s.wr_rd_ne e i v n k 0 0 (hbelow.trans_le hi).ne'
  exact ⟨(hother _ (by decide)).trans h.state, (hother _ (by decide)).trans h.cause, h.supply, h.glitch,
    h.queue.trans_eq rfl⟩

theorem KeepsFloor.raiseWith (y : Bool) (x : Nat) (d : EventDef) (a b : Nat) : KeepsFloor r (s.raiseWith y x d a b) :=
  ⟨h.state, h.cause, h.supply, h.glitch, h.queue.raise y x d a b⟩

theorem KeepsFloor.raise (d : EventDef) (a b : Nat) : KeepsFloor r (s.raise d a b) := h.raiseWith false s.actor d a b

theorem KeepsFloor.foldl {α : Type} {g : State → α → State} {l : List α}
    (hg : ∀ u, ∀ a ∈ l, KeepsFloor r u → KeepsFloor r (g u a)) : KeepsFloor r (l.foldl g s) := by
  induction l generalizing s with
  | nil => exact h
  | cons a l ih =>
    exact ih (hg s a List.mem_cons_self h) (fun u b hb => hg u b (List.mem_cons_of_mem a hb))

end

/-- An event raised before stays raised. -/
theorem KeepsFloor.raised {s r t : State} {d : EventDef} {a b : Nat} (h : KeepsFloor r t) (hr : Safety.raised s r d a b) :
    Safety.raised s t d a b := by
  obtain ⟨new, hqueue, e, he, hfields⟩ := hr
  obtain hsame | ⟨newer, hgrew⟩ := h.queue
  · exact ⟨new, hsame.trans hqueue, e, he, hfields⟩
  · refine ⟨newer ++ new, ?_, e, List.mem_append_right newer he, hfields⟩
    rw [hgrew, hqueue, take_append_take]

/-! ### The users of the non-volatile memory, in the order of Table 17.4

`clear_value` hides a state once it is known to keep the floor: the folds behind it, over 72 slots and 2,112 sectors, must
not be evaluated where the fields of its next update are compared by `rfl`. -/

theorem EventLog.pushRing_foldl_queue (recs : List Rec) (l : EventLog) :
    (recs.foldl EventLog.pushRing l).queue = l.queue := by
  induction recs generalizing l with
  | nil => rfl
  | cons r recs ih => exact ih (l.pushRing r)

section
variable {r s : State} (h : KeepsFloor r s)
include h

theorem KeepsFloor.putClip (k : Nat) (c : Clip) : KeepsFloor r (s.putClip k c) := h.update rfl rfl rfl rfl

theorem KeepsFloor.putCapture (k : Nat) (c : Capture) : KeepsFloor r (s.putCapture k c) := h.update rfl rfl rfl rfl

theorem KeepsFloor.drainRecords : KeepsFloor r s.drainRecords := by
  have hdrained := EventLog.pushRing_foldl_queue s.ev.deferred { s.ev with deferred := [] }
  unfold State.drainRecords
  extract_lets _ l lost worst u
  have hu : KeepsFloor r u := h.update rfl rfl rfl hdrained
  split
  case isTrue => exact hu
  case isFalse => exact hu.raiseWith ..

theorem KeepsFloor.writePatches : KeepsFloor r s.writePatches := h.update rfl rfl rfl rfl

theorem KeepsFloor.overwriteKeys : KeepsFloor r s.overwriteKeys := by
  unfold State.overwriteKeys
  extract_lets _ u _ v
  have hu : KeepsFloor r u := h.foldl fun w k _ hw => by
    dsimp only
    split
    case h_1 => exact hw.update rfl rfl rfl rfl
    case h_2 => exact hw
  clear_value u
  have hv : KeepsFloor r v := hu.update rfl rfl rfl rfl
  exact hv.raise ..

theorem KeepsFloor.finishOverwrite : KeepsFloor r s.finishOverwrite := by
  unfold State.finishOverwrite
  split
  case isTrue => exact h.overwriteKeys
  case isFalse => exact h

theorem KeepsFloor.countClips : KeepsFloor r s.countClips :=
  (h.wr (by decide)).foldl fun _ k hk hu => hu.wr (by simp [EntryDef.key] at hk ⊢; omega)

theorem KeepsFloor.writeDirectories : KeepsFloor r s.writeDirectories := by
  unfold State.writeDirectories
  extract_lets _ u
  have hu : KeepsFloor r u := h.update rfl rfl rfl rfl
  exact hu.foldl fun _ _ _ hw => hw.update rfl rfl rfl rfl

theorem KeepsFloor.updateEntry (k : Nat) : KeepsFloor r (s.updateEntry k) := by
  unfold State.updateEntry
  extract_lets u _ _ c
  have hu : KeepsFloor r u := h.countClips
  split_ifs
  · exact hu
  · exact hu.update rfl rfl rfl rfl
  · exact hu.writeDirectories
  · exact (hu.putClip k c).writeDirectories

theorem KeepsFloor.endCapture {k : Nat} (frames st : Nat) (hk : k < 2) : KeepsFloor r (s.endCapture k frames st) := by
  unfold State.endCapture
  extract_lets c n _ u v
  split
  case isTrue => exact h
  case isFalse =>
    have hv : KeepsFloor r v := ((h.putClip n _).updateEntry n).putCapture k _
    exact (hv.wr (by simp [EntryDef.key]; omega)).raise ..

theorem KeepsFloor.resumePocket : KeepsFloor r s.resumePocket := by
  unfold State.resumePocket
  extract_lets u w
  have hu : KeepsFloor r u := h.foldl fun v j hj hv => by
    dsimp only
    split
    case isTrue => exact hv.endCapture _ _ (by simp at hj; omega)
    case isFalse => exact hv
  have hnone : KeepsFloor r { u with pocket := { u.pocket with waiting := [] } } := hu.update rfl rfl rfl rfl
  exact hnone.foldl fun _ k _ hv => hv.updateEntry k

theorem KeepsFloor.storeTraining : KeepsFloor r s.storeTraining := by
  unfold State.storeTraining
  split
  case isTrue => exact h.update rfl rfl rfl rfl
  case isFalse => exact h

theorem KeepsFloor.forceFlush : KeepsFloor r s.forceFlush := by
  unfold State.forceFlush State.raiseIf
  extract_lets waited was _ u
  have hu : KeepsFloor r u := h.update rfl rfl rfl rfl
  split
  case isTrue => exact hu.raise ..
  case isFalse => exact hu

theorem KeepsFloor.flushHistograms : KeepsFloor r s.flushHistograms := h.update rfl rfl rfl rfl

theorem KeepsFloor.countSectors : KeepsFloor r s.countSectors := by
  unfold State.countSectors
  extract_lets used
  clear_value used
  exact h.update rfl rfl rfl rfl

theorem KeepsFloor.takeCheckpoint : KeepsFloor r s.takeCheckpoint := by
  unfold State.takeCheckpoint
  extract_lets u _ l k gen target c v
  have hu : KeepsFloor r u := h.forceFlush.flushHistograms.countSectors
  clear_value u
  have hv : KeepsFloor r v := hu.update rfl rfl rfl rfl
  exact hv.raise ..

end

/-- The floor's end in the fields alone, before its event. -/
def State.floorCleared (s : State) : State :=
  { (s.wr Dict.SUPPLY_FLOOR_STATE 0).wr Dict.SUPPLY_FLOOR_CAUSE 0 with
    keys := { s.keys with glitchArmed := true }
    supply := { s.supply with goodSince := 0, heldSincePorst := false } }

/-- The state in which the end of the floor is told, before any user takes up its writes. -/
def State.floorEnded (s : State) : State :=
  s.floorCleared.raise Event.WRITE_FLOOR_LEFT ((s.now - s.supply.floorAt) / 1000000) s.ev.deferred.length

theorem State.resumeWrites_keepsFloor (s : State) : KeepsFloor s.floorEnded s.resumeWrites := by
  unfold State.resumeWrites
  extract_lets u brownout _ _ v ended users _ counted
  have hended : KeepsFloor s.floorEnded ended := KeepsFloor.refl s.floorEnded
  clear_value ended
  have husers : KeepsFloor s.floorEnded users :=
    hended.drainRecords.writePatches.finishOverwrite.resumePocket.storeTraining
  clear_value users
  have hcounted : KeepsFloor s.floorEnded counted := by
    unfold counted
    split
    case isTrue => exact husers.update rfl rfl rfl rfl
    case isFalse => exact husers
  exact hcounted.takeCheckpoint

theorem State.floorEnded_state (s : State) : s.floorEnded.rd Dict.SUPPLY_FLOOR_STATE = 0 :=
  (State.wr_rd_ne (s.wr Dict.SUPPLY_FLOOR_STATE 0) Dict.SUPPLY_FLOOR_CAUSE _ 0 0 0 0 0 (by decide)).trans
    (s.wr_rd Dict.SUPPLY_FLOOR_STATE 0 0 0)

theorem State.floorEnded_cause (s : State) : s.floorEnded.rd Dict.SUPPLY_FLOOR_CAUSE = 0 :=
  State.wr_rd (s.wr Dict.SUPPLY_FLOOR_STATE 0) Dict.SUPPLY_FLOOR_CAUSE 0 0 0

theorem State.floorEnded_raised (s : State) :
    Safety.raised s s.floorEnded Event.WRITE_FLOOR_LEFT ((s.now - s.supply.floorAt) / 1000000) s.ev.deferred.length :=
  raised_last (.of s s.floorCleared rfl) ..

/-- What every reader finds once writes resume: the floor's end and its event, whatever the users did after. -/
theorem State.resumeWrites_tells (s : State) :
    s.resumeWrites.rd Dict.SUPPLY_FLOOR_STATE = 0 ∧ s.resumeWrites.rd Dict.SUPPLY_FLOOR_CAUSE = 0 ∧
      s.resumeWrites.supply.goodSince = 0 ∧ s.resumeWrites.keys.glitchArmed = true ∧
      Safety.raised s s.resumeWrites Event.WRITE_FLOOR_LEFT ((s.now - s.supply.floorAt) / 1000000)
        s.ev.deferred.length := by
  have hkept := s.resumeWrites_keepsFloor
  exact ⟨hkept.state.trans s.floorEnded_state, hkept.cause.trans s.floorEnded_cause,
    congrArg Supply.goodSince hkept.supply, hkept.glitch, hkept.raised s.floorEnded_raised⟩

/-- Settles O53: a report with the floor held falls into one of four cases, by the supplies and the 50 ms; in the last
one the floor's end is told first, and each user that resumes keeps it. -/
theorem writesResume : Obligations.WritesResume := by
  unfold Obligations.WritesResume
  intro s r b st fit halive hst
  simp only [exec_writeFloorLeft_eq]
  have hfit : railsFit r = true ↔ fit := railsFit_iff r
  refine ⟨fun hlapse => ?lapse, fun hgood hfirst => ?first, fun hgood hbegun hearly => ?early,
    fun hgood hbegun hover => ?resume⟩
  case lapse => rw [State.railsGood_of_lapse halive hst (Bool.eq_false_iff.mpr (mt hfit.mp hlapse))]
  case first => rw [State.railsGood_of_first halive hst (hfit.mpr hgood) hfirst]
  case early => rw [State.railsGood_of_early halive hst (hfit.mpr hgood) hbegun hearly]
  case resume =>
    rw [State.railsGood_of_over halive hst (hfit.mpr hgood) hbegun hover]
    exact ⟨b.resumeWrites, rfl, b.resumeWrites_tells⟩

end Sys2Proof.Machine
end

-- ==== Proofs: functions that leave the queue and the host surface region ====
section
/-! PROOFS. Which functions of the model leave the queue of commands and the host surface region as they
were (`Keeps`), and which may at most empty the region (`Stays`): one rule for each function, in the order of the model. -/
namespace Sys2Proof.Machine
open Sys2Proof
-- Here and below proofs are elaborated one at a time, which bounds the memory that the one long text takes.
set_option Elab.async false

section
variable {r s t u : State}

/-- What a function that keeps does after one that keeps. -/
theorem Keeps.trans (h : Keeps r s) (k : Keeps s t) : Keeps r t := ⟨k.1.trans h.1, k.2.trans h.2⟩

theorem Keeps.ite {c : Prop} [Decidable c] {a b : State} (ha : Keeps r a) (hb : Keeps r b) : Keeps r (if c then a else b) := by
  split
  · exact ha
  · exact hb

theorem Keeps.iteState {c : Prop} [Decidable c] {a b : Effect} (ha : Keeps r a.state) (hb : Keeps r b.state) :
    Keeps r (if c then a else b).state := by
  split
  · exact ha
  · exact hb

theorem Keeps.foldl {α : Type} {g : State → α → State} {l : List α} (h : Keeps r s)
    (hg : ∀ u a, Keeps r u → Keeps r (g u a)) : Keeps r (l.foldl g s) := foldl_keeps h hg

theorem Keeps.done (h : Keeps r s) : Keeps r (Effect.done s).state := h
theorem Keeps.refused {x : Refuse} (h : Keeps r s) : Keeps r (Effect.refused x s).state := h
theorem Keeps.waits (h : Keeps r s) : Keeps r (Effect.waits s).state := h
theorem Keeps.unless {c : Bool} {x : Refuse} {e : Effect} (h : Keeps r s) (he : Keeps r e.state) :
    Keeps r (Effect.unless c x s e).state := Effect.unless_keeps h he

/-- The first part of a pair whose first part keeps. -/
theorem Keeps.fst {α : Type} {p : State × α} {a : State} {b : α} (h : Keeps r p.1) (e : p = (a, b)) : Keeps r a := by
  rw [e] at h; exact h

theorem Keeps.pair {α : Type} {b : α} (h : Keeps r s) : Keeps r (s, b).1 := h

/-- The second part of a pair whose second part keeps. -/
theorem Keeps.snd {α : Type} {p : α × State} {a : State} {b : α} (h : Keeps r p.2) (e : p = (b, a)) : Keeps r a := by
  rw [e] at h; exact h

end

/-- A fold over a pair whose first part is the state. -/
theorem foldl_fst_keeps {α β : Type} {r s : State} {b : β} {g : State × β → α → State × β} {l : List α} (h : Keeps r s)
    (hg : ∀ p a, Keeps r p.1 → Keeps r (g p a).1) : Keeps r (l.foldl g (s, b)).1 := by
  have general (p : State × β) (hp : Keeps r p.1) : Keeps r (l.foldl g p).1 := by
    induction l generalizing p with
    | nil => exact hp
    | cons a l ih => exact ih _ (hg p a hp)
  exact general (s, b) h

/-- The queue is in `t` what it is in `r`, and the host surface region is too, or it has become empty. -/
def Stays (r t : State) : Prop := t.pending = r.pending ∧ (t.dram.host = r.dram.host ∨ t.dram.host = [])

section
variable {r s t u : State}

theorem Keeps.stays (h : Keeps r s) : Stays r s := ⟨h.1, .inl h.2⟩

theorem Stays.then (h : Stays r s) (k : Keeps s t) : Stays r t :=
  ⟨k.1.trans h.1, h.2.imp k.2.trans k.2.trans⟩

theorem Stays.emptied (h : Stays r s) (hp : t.pending = s.pending) (hh : t.dram.host = []) : Stays r t :=
  ⟨hp.trans h.1, .inr hh⟩

theorem Stays.ite {c : Prop} [Decidable c] {a b : State} (ha : Stays r a) (hb : Stays r b) : Stays r (if c then a else b) := by
  split
  · exact ha
  · exact hb

theorem Stays.iteState {c : Prop} [Decidable c] {a b : Effect} (ha : Stays r a.state) (hb : Stays r b.state) :
    Stays r (if c then a else b).state := by
  split
  · exact ha
  · exact hb

theorem Stays.foldl {α : Type} {g : State → α → State} {l : List α} (h : Stays r s)
    (hg : ∀ u a, Stays r u → Stays r (g u a)) : Stays r (l.foldl g s) := by
  induction l generalizing s with
  | nil => exact h
  | cons a l ih => exact ih (hg _ _ h)

theorem Stays.done (h : Stays r s) : Stays r (Effect.done s).state := h
theorem Stays.refused {x : Refuse} (h : Stays r s) : Stays r (Effect.refused x s).state := h
theorem Stays.waits (h : Stays r s) : Stays r (Effect.waits s).state := h
theorem Stays.pair {α : Type} {b : α} (h : Stays r s) : Stays r (s, b).1 := h
theorem Stays.unless {c : Bool} {x : Refuse} {e : Effect} (h : Stays r s) (he : Stays r e.state) :
    Stays r (Effect.unless c x s e).state := .iteState h he
theorem Stays.fst {α : Type} {p : State × α} {a : State} {b : α} (h : Stays r p.1) (e : p = (a, b)) : Stays r a := by
  rw [e] at h; exact h

theorem Stays.snd {α : Type} {p : α × State} {a : State} {b : α} (h : Stays r p.2) (e : p = (b, a)) : Stays r a := by
  rw [e] at h; exact h

/-! ### Access -/

theorem Keeps.putSess (h : Keeps r s) {k : Nat} {v : Sess} : Keeps r (s.putSess k v) := h.lit rfl rfl

theorem Keeps.modSess (h : Keeps r s) {k : Nat} {f : Sess → Sess} : Keeps r (s.modSess k f) := h.putSess

theorem Keeps.putCan (h : Keeps r s) {k : Nat} {v : CanNode} : Keeps r (s.putCan k v) := h.lit rfl rfl

theorem Keeps.modCan (h : Keeps r s) {k : Nat} {f : CanNode → CanNode} : Keeps r (s.modCan k f) := h.putCan

theorem Keeps.putEngine (h : Keeps r s) {k : Nat} {v : Engine} : Keeps r (s.putEngine k v) := h.lit rfl rfl

theorem Keeps.modEngine (h : Keeps r s) {k : Nat} {f : Engine → Engine} : Keeps r (s.modEngine k f) := h.putEngine

theorem Keeps.putInput (h : Keeps r s) {k : Nat} {v : Input} : Keeps r (s.putInput k v) := h.lit rfl rfl

theorem Keeps.modInput (h : Keeps r s) {k : Nat} {f : Input → Input} : Keeps r (s.modInput k f) := h.putInput

theorem Keeps.putHost (h : Keeps r s) {k : Nat} {v : HostSurf} : Keeps r (s.putHost k v) := h.lit rfl rfl

theorem Keeps.modHost (h : Keeps r s) {k : Nat} {f : HostSurf → HostSurf} : Keeps r (s.modHost k f) := h.putHost

theorem Keeps.putPlayer (h : Keeps r s) {k : Nat} {v : Player} : Keeps r (s.putPlayer k v) := h.lit rfl rfl

theorem Keeps.modPlayer (h : Keeps r s) {k : Nat} {f : Player → Player} : Keeps r (s.modPlayer k f) := h.putPlayer

theorem Keeps.putLayer (h : Keeps r s) {k : Nat} {v : Layer} : Keeps r (s.putLayer k v) := h.lit rfl rfl

theorem Keeps.modLayer (h : Keeps r s) {k : Nat} {f : Layer → Layer} : Keeps r (s.modLayer k f) := h.putLayer

theorem Keeps.putCanvas (h : Keeps r s) {k : Nat} {v : Canvas} : Keeps r (s.putCanvas k v) := h.lit rfl rfl

theorem Keeps.modCanvas (h : Keeps r s) {k : Nat} {f : Canvas → Canvas} : Keeps r (s.modCanvas k f) := h.putCanvas

theorem Keeps.putHead (h : Keeps r s) {k : Nat} {v : Head} : Keeps r (s.putHead k v) := h.lit rfl rfl

theorem Keeps.modHead (h : Keeps r s) {k : Nat} {f : Head → Head} : Keeps r (s.modHead k f) := h.putHead

theorem Keeps.putUlane (h : Keeps r s) {k : Nat} {v : Lane} : Keeps r (s.putUlane k v) := h.lit rfl rfl

theorem Keeps.modUlane (h : Keeps r s) {k : Nat} {f : Lane → Lane} : Keeps r (s.modUlane k f) := h.putUlane

theorem Keeps.putDlane (h : Keeps r s) {k : Nat} {v : Lane} : Keeps r (s.putDlane k v) := h.lit rfl rfl

theorem Keeps.modDlane (h : Keeps r s) {k : Nat} {f : Lane → Lane} : Keeps r (s.modDlane k f) := h.putDlane

theorem Keeps.putGroup (h : Keeps r s) {k : Nat} {v : Group} : Keeps r (s.putGroup k v) := h.lit rfl rfl

theorem Keeps.modGroup (h : Keeps r s) {k : Nat} {f : Group → Group} : Keeps r (s.modGroup k f) := h.putGroup

theorem Keeps.putFlow (h : Keeps r s) {k : Nat} {v : Flow} : Keeps r (s.putFlow k v) := h.lit rfl rfl

theorem Keeps.modFlow (h : Keeps r s) {k : Nat} {f : Flow → Flow} : Keeps r (s.modFlow k f) := h.putFlow

theorem Keeps.putTile (h : Keeps r s) {k : Nat} {v : Tile} : Keeps r (s.putTile k v) := h.lit rfl rfl

theorem Keeps.modTile (h : Keeps r s) {k : Nat} {f : Tile → Tile} : Keeps r (s.modTile k f) := h.putTile

theorem Keeps.putRef (h : Keeps r s) {k : Nat} {v : Ref} : Keeps r (s.putRef k v) := h.lit rfl rfl

theorem Keeps.modRef (h : Keeps r s) {k : Nat} {f : Ref → Ref} : Keeps r (s.modRef k f) := h.putRef

theorem Keeps.putFtg (h : Keeps r s) {k : Nat} {v : Ftg} : Keeps r (s.putFtg k v) := h.lit rfl rfl

theorem Keeps.modFtg (h : Keeps r s) {k : Nat} {f : Ftg → Ftg} : Keeps r (s.modFtg k f) := h.putFtg

theorem Keeps.putChannel (h : Keeps r s) {k : Nat} {v : Channel} : Keeps r (s.putChannel k v) := h.lit rfl rfl

theorem Keeps.modChannel (h : Keeps r s) {k : Nat} {f : Channel → Channel} : Keeps r (s.modChannel k f) := h.putChannel

theorem Keeps.putEndpoint (h : Keeps r s) {k : Nat} {v : Endpoint} : Keeps r (s.putEndpoint k v) := h.lit rfl rfl

theorem Keeps.modEndpoint (h : Keeps r s) {k : Nat} {f : Endpoint → Endpoint} : Keeps r (s.modEndpoint k f) :=
  h.putEndpoint

theorem Keeps.putImageBad (h : Keeps r s) {k : Nat} {v : Bool} : Keeps r (s.putImageBad k v) := h.lit rfl rfl

theorem Keeps.modImageBad (h : Keeps r s) {k : Nat} {f : Bool → Bool} : Keeps r (s.modImageBad k f) := h.putImageBad

theorem Keeps.putActive (h : Keeps r s) {k v : Nat} : Keeps r (s.putActive k v) := h.lit rfl rfl

theorem Keeps.modActive (h : Keeps r s) {k : Nat} {f : Nat → Nat} : Keeps r (s.modActive k f) := h.putActive

theorem Keeps.putUdpFail (h : Keeps r s) {k v : Nat} : Keeps r (s.putUdpFail k v) := h.lit rfl rfl

theorem Keeps.modUdpFail (h : Keeps r s) {k : Nat} {f : Nat → Nat} : Keeps r (s.modUdpFail k f) := h.putUdpFail

theorem Keeps.putUdpLock (h : Keeps r s) {k v : Nat} : Keeps r (s.putUdpLock k v) := h.lit rfl rfl

theorem Keeps.modUdpLock (h : Keeps r s) {k : Nat} {f : Nat → Nat} : Keeps r (s.modUdpLock k f) := h.putUdpLock

theorem Keeps.putDropped (h : Keeps r s) {k : Nat} {v : List Nat} : Keeps r (s.putDropped k v) := h.lit rfl rfl

theorem Keeps.modDropped (h : Keeps r s) {k : Nat} {f : List Nat → List Nat} : Keeps r (s.modDropped k f) :=
  h.putDropped

theorem Keeps.putDropTime (h : Keeps r s) {k v : Nat} : Keeps r (s.putDropTime k v) := h.lit rfl rfl

theorem Keeps.modDropTime (h : Keeps r s) {k : Nat} {f : Nat → Nat} : Keeps r (s.modDropTime k f) := h.putDropTime

theorem Keeps.putRtp (h : Keeps r s) {k v : Nat} : Keeps r (s.putRtp k v) := h.lit rfl rfl

theorem Keeps.modRtp (h : Keeps r s) {k : Nat} {f : Nat → Nat} : Keeps r (s.modRtp k f) := h.putRtp

theorem Keeps.putImageCrc (h : Keeps r s) {k v : Nat} : Keeps r (s.putImageCrc k v) := h.lit rfl rfl

theorem Keeps.modImageCrc (h : Keeps r s) {k : Nat} {f : Nat → Nat} : Keeps r (s.modImageCrc k f) := h.putImageCrc

theorem Keeps.putPtlCounter (h : Keeps r s) {k v : Nat} : Keeps r (s.putPtlCounter k v) := h.lit rfl rfl

theorem Keeps.modPtlCounter (h : Keeps r s) {k : Nat} {f : Nat → Nat} : Keeps r (s.modPtlCounter k f) := h.putPtlCounter

theorem Keeps.putAuthFail (h : Keeps r s) {k v : Nat} : Keeps r (s.putAuthFail k v) := h.lit rfl rfl

theorem Keeps.modAuthFail (h : Keeps r s) {k : Nat} {f : Nat → Nat} : Keeps r (s.modAuthFail k f) := h.putAuthFail

theorem Keeps.putScan (h : Keeps r s) {k v : Nat} : Keeps r (s.putScan k v) := h.lit rfl rfl

theorem Keeps.modScan (h : Keeps r s) {k : Nat} {f : Nat → Nat} : Keeps r (s.modScan k f) := h.putScan

theorem Keeps.putStage (h : Keeps r s) {k v : Nat} : Keeps r (s.putStage k v) := h.lit rfl rfl

theorem Keeps.modStage (h : Keeps r s) {k : Nat} {f : Nat → Nat} : Keeps r (s.modStage k f) := h.putStage

theorem Keeps.putLining (h : Keeps r s) {k v : Nat} : Keeps r (s.putLining k v) := h.lit rfl rfl

theorem Keeps.modLining (h : Keeps r s) {k : Nat} {f : Nat → Nat} : Keeps r (s.modLining k f) := h.putLining

theorem Keeps.putRoute (h : Keeps r s) {k : Nat} {v : List Byte} : Keeps r (s.putRoute k v) := h.lit rfl rfl

theorem Keeps.modRoute (h : Keeps r s) {k : Nat} {f : List Byte → List Byte} : Keeps r (s.modRoute k f) := h.putRoute

theorem Keeps.putBank (h : Keeps r s) {k : Nat} {v : List Byte} : Keeps r (s.putBank k v) := h.lit rfl rfl

theorem Keeps.modBank (h : Keeps r s) {k : Nat} {f : List Byte → List Byte} : Keeps r (s.modBank k f) := h.putBank

theorem Keeps.putLut (h : Keeps r s) {k : Nat} {v : List Byte} : Keeps r (s.putLut k v) := h.lit rfl rfl

theorem Keeps.modLut (h : Keeps r s) {k : Nat} {f : List Byte → List Byte} : Keeps r (s.modLut k f) := h.putLut

theorem Keeps.putLut3d (h : Keeps r s) {k : Nat} {v : List Byte} : Keeps r (s.putLut3d k v) := h.lit rfl rfl

theorem Keeps.modLut3d (h : Keeps r s) {k : Nat} {f : List Byte → List Byte} : Keeps r (s.modLut3d k f) := h.putLut3d

theorem Keeps.putImageDesc (h : Keeps r s) {k : Nat} {v : List Byte} : Keeps r (s.putImageDesc k v) := h.lit rfl rfl

theorem Keeps.modImageDesc (h : Keeps r s) {k : Nat} {f : List Byte → List Byte} : Keeps r (s.modImageDesc k f) :=
  h.putImageDesc

theorem Keeps.putImageData (h : Keeps r s) {k : Nat} {v : List Byte} : Keeps r (s.putImageData k v) := h.lit rfl rfl

theorem Keeps.modImageData (h : Keeps r s) {k : Nat} {f : List Byte → List Byte} : Keeps r (s.modImageData k f) :=
  h.putImageData

theorem Keeps.putTileEntry (h : Keeps r s) {k : Nat} {v : List Byte} : Keeps r (s.putTileEntry k v) := h.lit rfl rfl

theorem Keeps.modTileEntry (h : Keeps r s) {k : Nat} {f : List Byte → List Byte} : Keeps r (s.modTileEntry k f) :=
  h.putTileEntry

theorem Keeps.putTileShadow (h : Keeps r s) {k : Nat} {v : List Byte} : Keeps r (s.putTileShadow k v) := h.lit rfl rfl

theorem Keeps.modTileShadow (h : Keeps r s) {k : Nat} {f : List Byte → List Byte} : Keeps r (s.modTileShadow k f) :=
  h.putTileShadow

theorem Keeps.putCalib (h : Keeps r s) {k : Nat} {v : List Byte} : Keeps r (s.putCalib k v) := h.lit rfl rfl

theorem Keeps.modCalib (h : Keeps r s) {k : Nat} {f : List Byte → List Byte} : Keeps r (s.modCalib k f) := h.putCalib

theorem Keeps.putCalibShadow (h : Keeps r s) {k : Nat} {v : List Byte} : Keeps r (s.putCalibShadow k v) := h.lit rfl rfl

theorem Keeps.modCalibShadow (h : Keeps r s) {k : Nat} {f : List Byte → List Byte} : Keeps r (s.modCalibShadow k f) :=
  h.putCalibShadow

theorem Keeps.putChannelEntry (h : Keeps r s) {k : Nat} {v : List Byte} : Keeps r (s.putChannelEntry k v) :=
  h.lit rfl rfl

theorem Keeps.modChannelEntry (h : Keeps r s) {k : Nat} {f : List Byte → List Byte} : Keeps r (s.modChannelEntry k f) :=
  h.putChannelEntry

theorem Keeps.putStreamEntry (h : Keeps r s) {k : Nat} {v : List Byte} : Keeps r (s.putStreamEntry k v) := h.lit rfl rfl

theorem Keeps.modStreamEntry (h : Keeps r s) {k : Nat} {f : List Byte → List Byte} : Keeps r (s.modStreamEntry k f) :=
  h.putStreamEntry

/-! ### Ops -/

theorem Keeps.setReg (h : Keeps r s) {key v : Nat} : Keeps r (s.setReg key v) := h.lit rfl rfl

theorem Keeps.wr (h : Keeps r s) {e : EntryDef} {v n k : Nat} : Keeps r (s.wr e v n k) := h.setReg

theorem Keeps.wrInt (h : Keeps r s) {e : EntryDef} {v : Int} {n k : Nat} : Keeps r (s.wrInt e v n k) := h.wr

theorem Keeps.wrFlag (h : Keeps r s) {e : EntryDef} {b : Bool} {n k : Nat} : Keeps r (s.wrFlag e b n k) := h.wr

theorem Keeps.inc (h : Keeps r s) {e : EntryDef} {n k d : Nat} : Keeps r (s.inc e n k d) := h.wr

theorem Keeps.setShadow (h : Keeps r s) {key v : Nat} : Keeps r (s.setShadow key v) := h.lit rfl rfl

theorem Keeps.setDom (h : Keeps r s) {key : Nat} {v : List Byte} : Keeps r (s.setDom key v) := h.lit rfl rfl

theorem Keeps.wrDom (h : Keeps r s) {e : EntryDef} {v : List Byte} {n k : Nat} : Keeps r (s.wrDom e v n k) := h.setDom

theorem Keeps.setDomShadow (h : Keeps r s) {key : Nat} {v : List Byte} : Keeps r (s.setDomShadow key v) := h.lit rfl rfl

theorem Keeps.wrTime (h : Keeps r s) {eS eNs : EntryDef} {t n k : Nat} : Keeps r (s.wrTime eS eNs t n k) := h.wr.wr

theorem Keeps.begin (h : Keeps r s) : Keeps r s.begin := h.lit rfl rfl

theorem Keeps.actBy (h : Keeps r s) {k : Nat} : Keeps r (s.actBy k) := h.lit rfl rfl

theorem Keeps.out (h : Keeps r s) {item : WireItem} : Keeps r (s.out item) := h.lit rfl rfl

theorem Keeps.fire (h : Keeps r s) {v : Nat} : Keeps r (s.fire v) := h.lit rfl rfl

theorem Keeps.tellAlert (h : Keeps r s) {was : Bool} : Keeps r (s.tellAlert was) := .ite h h.out

theorem Keeps.raiseWith (h : Keeps r s) {synthesised : Bool} {source : Nat} {d : EventDef} {a b : Nat}
    : Keeps r (s.raiseWith synthesised source d a b) := by
  unfold State.raiseWith
  extract_lets
  split
  extract_lets
  exact h.lit rfl rfl

theorem Keeps.raiseBy (h : Keeps r s) {source : Nat} {d : EventDef} {a b : Nat} : Keeps r (s.raiseBy source d a b) :=
  h.raiseWith

theorem Keeps.raise (h : Keeps r s) {d : EventDef} {a b : Nat} : Keeps r (s.raise d a b) := h.raiseBy

theorem Keeps.raisePin (h : Keeps r s) {d : EventDef} {a b : Nat} : Keeps r (s.raisePin d a b) := h.raiseBy

theorem Keeps.raiseIf (h : Keeps r s) {c : Bool} {d : EventDef} {a b : Nat} : Keeps r (s.raiseIf c d a b) :=
  .ite h.raise h

theorem Keeps.openSess (h : Keeps r s) {k : Nat} : Keeps r (s.openSess k) := h.putSess

theorem Keeps.dropRights (h : Keeps r s) {k cause : Nat} : Keeps r (s.dropRights k cause) := by
  unfold State.dropRights
  extract_lets
  exact .ite (.ite h.putSess.raise h) h.putSess.raise

theorem Keeps.dropAll (h : Keeps r s) {cause : Nat} : Keeps r (s.dropAll cause) := h.foldl fun _ _ h1 => h1.dropRights

theorem Keeps.dropGrantedBy (h : Keeps r s) {slot : Nat} : Keeps r (s.dropGrantedBy slot) :=
  h.foldl fun _ _ h1 => .ite h1.dropRights h1

theorem Keeps.milestone (h : Keeps r s) {i : Nat} : Keeps r (s.milestone i) := .ite (h.lit rfl rfl) h

theorem Keeps.draw (h : Keeps r s) {n : Nat} : Keeps r (s.draw n).2 := h.lit rfl rfl

/-! ### Operands -/

theorem Keeps.setWindow (h : Keeps r s) {k key v : Nat} : Keeps r (s.setWindow k key v) := h.modSess

theorem Keeps.udpAnswer (h : Keeps r s) {k index : Nat} {x0 : Response} : Keeps r (s.udpAnswer k index x0) := by
  unfold State.udpAnswer
  extract_lets
  split
  · exact h
  · extract_lets
    exact h.putSess.out

theorem Keeps.spiAnswer (h : Keeps r s) {index : Nat} {x0 : Response} : Keeps r (s.spiAnswer index x0) :=
  .ite (h.lit rfl rfl) h

theorem Keeps.mailboxAnswer (h : Keeps r s) {index : Nat} {x0 : Response} : Keeps r (s.mailboxAnswer index x0) := by
  unfold State.mailboxAnswer
  extract_lets
  exact .ite ((h.lit rfl rfl).fire) h

theorem Keeps.answer (h : Keeps r s) {index : Nat} {x0 : Response} : Keeps r (s.answer index x0) := by
  unfold State.answer
  extract_lets s1
  have hs1 : Keeps r s1 := h.out
  exact .ite hs1.spiAnswer (.ite hs1.mailboxAnswer (.ite hs1.udpAnswer hs1))

theorem Keeps.respond (h : Keeps r s) {k index : Nat} {data : List Byte} {more : Bool}
    : Keeps r (s.respond k index data more) :=
  h.answer

theorem Keeps.noteRefusal (h : Keeps r s) {k index sub : Nat} {x0 : Refuse} : Keeps r (s.noteRefusal k index sub x0) :=
  h.modSess

theorem Keeps.abort (h : Keeps r s) {k index : Nat} {x0 : Refuse} : Keeps r (s.abort k index x0) := h.answer

theorem Keeps.refuseRead (h : Keeps r s) {k index sub : Nat} {x0 : Refuse} : Keeps r (s.refuseRead k index sub x0) :=
  h.noteRefusal.abort

theorem Keeps.tellRefused (h : Keeps r s) {at_ : State} {k index sub : Nat} {x0 : Refuse}
    : Keeps r (s.tellRefused at_ k index sub x0) := by
  unfold State.tellRefused
  split
  · exact h.raiseBy
  · exact .ite h.raiseBy h.raiseBy

theorem Keeps.refuseWrite (h : Keeps r s) {k index sub : Nat} {x0 : Refuse}
    : Keeps r (s.refuseWrite k index sub x0) := by
  unfold State.refuseWrite
  extract_lets s1 s2
  have hs1 : Keeps r s1 := h.noteRefusal
  have hs2 : Keeps r s2 := .ite hs1 hs1.tellRefused
  exact hs2.abort

theorem Stays.settle {e : Effect} (h : Stays r e.state) {t : State} {k index sub : Nat}
    : Stays r (t.settle k index sub e) := by
  cases e with
  | done u => exact Stays.then (s := u) h (Keeps.refl _).respond
  | refused x u => exact Stays.then (s := u) h (Keeps.refl _).refuseWrite
  | waits u => exact h

theorem Stays.write (h : Stays r s) {k index sub : Nat} {data : List Byte} {eff : EntryDef → State → Effect}
    (heff : ∀ e u, Stays r u → Stays r (eff e u).state) : Stays r (s.write k index sub data eff) := by
  unfold State.write
  extract_lets u
  have hu : Stays r u := h.then (Keeps.refl _).actBy
  refine .ite ?_ hu
  split
  · exact hu.then (Keeps.refl _).refuseWrite
  · exact .settle (heff _ _ hu)

theorem Stays.writeScalar (h : Stays r s) {k : Nat} {e : EntryDef} {n j v : Nat} {eff : State → Effect}
    (heff : ∀ u, Stays r u → Stays r (eff u).state) : Stays r (s.writeScalar k e n j v eff) :=
  h.write fun _ => heff

theorem Stays.writeBlock (h : Stays r s) {k : Nat} {e : EntryDef} {n j : Nat} {data : List Byte} {eff : State → Effect}
    (heff : ∀ u, Stays r u → Stays r (eff u).state) : Stays r (s.writeBlock k e n j data eff) :=
  h.write fun _ => heff

theorem Keeps.readScalar (h
    : Keeps r s) {k : Nat} {e : EntryDef} {n j : Nat} {value : State → Nat} {eff : State → State}
    (heff : ∀ u, Keeps r u → Keeps r (eff u)) : Keeps r (s.readScalar k e n j value eff) := by
  unfold State.readScalar
  refine .ite ?_ h
  split
  · exact h.refuseRead
  · exact (heff _ h).respond

/-! ### Units -/

theorem Keeps.takeScan (h : Keeps r s) {k kib : Nat} : Keeps r (s.takeScan k kib) := by
  unfold State.takeScan
  extract_lets s1
  have hs1 : Keeps r s1 := h.putScan
  exact hs1.wr

theorem Keeps.takeStage (h : Keeps r s) {n kib : Nat} : Keeps r (s.takeStage n kib) := by
  unfold State.takeStage
  extract_lets s1
  have hs1 : Keeps r s1 := h.putStage.wr
  exact hs1.wr

theorem Keeps.takeLining (h : Keeps r s) {c kib : Nat} : Keeps r (s.takeLining c kib) := by
  unfold State.takeLining
  extract_lets s1
  have hs1 : Keeps r s1 := h.putLining
  exact hs1.wr

theorem Keeps.takePool (h : Keeps r s) {k units : Nat} : Keeps r (s.takePool k units) := by
  unfold State.takePool
  extract_lets _ s1
  have hs1 : Keeps r s1 := h.lit rfl rfl
  exact hs1.wr

theorem Keeps.countEngines (h : Keeps r s) : Keeps r s.countEngines := by
  unfold State.countEngines
  extract_lets s1 s2 s3 s4
  have hs1 : Keeps r s1 := h.foldl fun _ _ h1 => h1.wr
  have hs2 : Keeps r s2 := hs1.wr
  have hs3 : Keeps r s3 := hs2.wr
  have hs4 : Keeps r s4 := hs3.wr
  exact hs4.foldl fun _ _ h1 => h1.wr

/-! ### LaneOps -/

theorem Keeps.modLane (h : Keeps r s) {l : Nat} {f : Lane → Lane} : Keeps r (s.modLane l f) :=
  .ite h.modUlane h.modDlane

theorem Keeps.adaptLane (h : Keeps r s) {l : Nat} {settings : List Int} : Keeps r (s.adaptLane l settings) :=
  .ite h h.modLane

theorem Keeps.takeTraining (h : Keeps r s) {l : Nat} {tx : List Int} : Keeps r (s.takeTraining l tx) := by
  unfold State.takeTraining
  extract_lets
  exact .ite h.modUlane h

theorem Keeps.updateTx (h : Keeps r s) {l : Nat} : Keeps r (s.updateTx l) := by
  unfold State.updateTx
  refine .ite ?_ h
  extract_lets
  exact h.modUlane

theorem Keeps.judgePortState (h : Keeps r s) {p cause : Nat} : Keeps r (s.judgePortState p cause) := by
  unfold State.judgePortState
  extract_lets
  split
  extract_lets s1 _ _ s2 s3 s4
  have hs1 : Keeps r s1 := h.wr.wr
  have hs2 : Keeps r s2 := hs1.wr
  have hs3 : Keeps r s3 := .ite hs2.inc.raise hs2
  have hs4 : Keeps r s4 := hs3.raiseIf
  exact .ite hs4 (hs4.foldl fun _ _ h1 => h1.modUlane)

theorem Keeps.judgePortOf (h : Keeps r s) {l cause : Nat} : Keeps r (s.judgePortOf l cause) := by
  unfold State.judgePortOf
  split
  · exact h.judgePortState
  · exact h

theorem Keeps.tellUpstream (h : Keeps r s) : Keeps r s.tellUpstream := by
  unfold State.tellUpstream
  extract_lets
  exact h.foldl fun _ _ h1 => .ite h1.modGroup.out h1

theorem Keeps.restartHdcp (h : Keeps r s) {g : Nat} : Keeps r (s.restartHdcp g) := by
  unfold State.restartHdcp
  extract_lets
  exact h.modGroup.wr.tellUpstream

theorem Keeps.driveHpd (h : Keeps r s) {g : Nat} : Keeps r (s.driveHpd g) := by
  unfold State.driveHpd
  refine .ite ?_ h
  extract_lets
  exact h.wrFlag.out.raiseIf

theorem Keeps.takeEdid (h : Keeps r s) {g : Nat} : Keeps r (s.takeEdid g) := by
  unfold State.takeEdid
  extract_lets _ s1
  have hs1 : Keeps r s1 := h.modGroup
  exact .ite hs1.modGroup.out.driveHpd hs1

theorem Keeps.takeGroupLive (h : Keeps r s) {g : Nat} : Keeps r (s.takeGroupLive g) := by
  unfold State.takeGroupLive
  extract_lets _ _ _ s1 s2
  have hs1 : Keeps r s1 := h.modGroup
  have hs2 : Keeps r s2 := .ite hs1 hs1.restartHdcp
  exact .ite hs2.takeEdid hs2

theorem Keeps.groupFrame (h : Keeps r s) {g : Option Nat} : Keeps r (s.groupFrame g) := by
  unfold State.groupFrame
  split
  · exact h.takeGroupLive
  · exact h

theorem Keeps.liveWritten (h : Keeps r s) {g : Nat} : Keeps r (s.liveWritten g) := .ite h h.takeGroupLive

theorem Keeps.judgeGroupState (h : Keeps r s) {g : Nat} : Keeps r (s.judgeGroupState g) := by
  unfold State.judgeGroupState
  extract_lets _ _ s1 _ _ s2 s3 s4
  have hs1 : Keeps r s1 := h.wr
  have hs2 : Keeps r s2 := hs1.wr
  have hs3 : Keeps r s3 := hs2.wr
  have hs4 : Keeps r s4 := .ite hs3.out hs3
  exact .ite hs4 hs4.restartHdcp.takeGroupLive

theorem Keeps.judgeOwner (h : Keeps r s) {l cause : Nat} : Keeps r (s.judgeOwner l cause) :=
  .ite h.judgePortOf h.judgeGroupState

theorem Keeps.setLane (h : Keeps r s) {l : Nat} {st : LaneState} : Keeps r (s.setLane l st) := by
  unfold State.setLane
  extract_lets s1
  have hs1 : Keeps r s1 := h.modLane
  exact .ite hs1.wr hs1

theorem Keeps.trainLane (h : Keeps r s) {l : Nat} {warm : Bool} : Keeps r (s.trainLane l warm) := h.setLane.modLane

theorem Keeps.takeOver (h : Keeps r s) {p l m : Nat} : Keeps r (s.takeOver p l m) := by
  unfold State.takeOver
  extract_lets _ _ s1 s2 s3 s4 s5
  have hs1 : Keeps r s1 := h.modUlane
  have hs2 : Keeps r s2 := hs1.modUlane
  have hs3 : Keeps r s3 := hs2.wr.trainLane
  have hs4 : Keeps r s4 := .ite hs3 hs3.setLane.modUlane.wr
  have hs5 : Keeps r s5 := hs4.inc.raise
  exact hs5.judgePortState

theorem Keeps.noSpareLane (h : Keeps r s) {p l : Nat} : Keeps r (s.noSpareLane p l) := h.raiseIf

theorem Keeps.retireLane (h : Keeps r s) {l : Nat} : Keeps r (s.retireLane l).1 := by
  unfold State.retireLane
  extract_lets u v
  have hu : Keeps r u := h.setLane
  have hv : Keeps r v := hu.modUlane.wr
  split
  · split
    · split
      · exact hv.takeOver.pair
      · exact hv.noSpareLane.judgePortState.pair
    · exact hv
  · exact hu.judgeGroupState.pair

theorem Keeps.reformPort (h : Keeps r s) {p : Nat} : Keeps r (s.reformPort p) := by
  unfold State.reformPort
  refine h.foldl fun _ _ h1 => ?_
  extract_lets
  exact .ite h1 h1.modUlane

/-! ### GovernorOps -/

theorem Keeps.underYields (h : Keeps r s) {c : Nat} : Keeps r (s.underYields c) := h.lit rfl rfl

theorem Keeps.judgeThermal (h : Keeps r s) {t : Telemetry} : Keeps r (s.judgeThermal t) := by
  unfold State.judgeThermal
  extract_lets _ _ _ s'
  have hs' : Keeps r s' := h.lit rfl rfl
  exact .ite hs'.raiseIf (.ite ((h.lit rfl rfl).raise) h)

theorem Keeps.accrue (h : Keeps r s) {e : Nat} : Keeps r (s.accrue e) := by
  unfold State.accrue
  extract_lets
  exact h.modEngine

theorem Keeps.stopEstimation (h : Keeps r s) {n : Nat} : Keeps r (s.stopEstimation n) := by
  unfold State.stopEstimation
  extract_lets _ s1
  have hs1 : Keeps r s1 := h.foldl fun _ _ h1 => h1.foldl fun _ _ h2 => h2.accrue
  exact (hs1.lit rfl rfl).modInput

theorem Keeps.applyYield (h : Keeps r s) {t : Telemetry} {step : Nat} {i : Nat × Nat}
    : Keeps r (s.applyYield t step i) := by
  unfold State.applyYield
  extract_lets _ _ s1 _ s2 s3
  have hs2 : Keeps r s2 := h.lit rfl rfl
  have hs3 : Keeps r s3 := .ite hs2.stopEstimation hs2
  exact hs3.raise

theorem Keeps.applyYields (h : Keeps r s) {t : Telemetry} {limit : Nat} : Keeps r (s.applyYields t limit) :=
  h.foldl fun _ _ h1 => h1.foldl fun _ _ h2 => .ite h2.applyYield h2

theorem Keeps.restoreYields (h : Keeps r s) {t : Telemetry} {limit fuel load : Nat} :
    Keeps r (s.restoreYields t limit fuel load) := by
  induction fuel generalizing s load with
  | zero => exact h
  | succ fuel ih =>
    unfold State.restoreYields
    split
    · exact h
    · refine .ite h (.ite (h.lit rfl rfl) ?_)
      extract_lets _ _ u v
      have hu : Keeps r u := h.lit rfl rfl
      have hv : Keeps r v := .ite hu.modInput hu
      exact .ite (h.lit rfl rfl) (ih hv.raise)

theorem Keeps.setBreach (h : Keeps r s) {on : Bool} {load limit : Nat} : Keeps r (s.setBreach on load limit) :=
  .ite h ((h.lit rfl rfl).raise)

theorem Keeps.decideYields (h : Keeps r s) {t : Telemetry} : Keeps r (s.decideYields t) := by
  unfold State.decideYields
  extract_lets _ _ _ _ s' _ s'1 _ _ s1 s2
  have hs' : Keeps r s' := h.raiseIf
  have hs'1 : Keeps r s'1 := hs'.lit rfl rfl
  have hs1 : Keeps r s1 := (h.lit rfl rfl).applyYields
  have hs2 : Keeps r s2 := h.setBreach
  exact .ite (.ite hs'1 hs'1.setBreach.restoreYields) (.ite hs1.setBreach hs2.restoreYields)

theorem Keeps.judgeCeilings (h : Keeps r s) : Keeps r s.judgeCeilings := by
  unfold State.judgeCeilings
  extract_lets _ s'
  have hs' : Keeps r s' := h.foldl fun _ _ h1 => h1.raiseIf
  exact hs'.lit rfl rfl

theorem Keeps.setTargets (h : Keeps r s) {lower : Bool} : Keeps r (s.setTargets lower) := by
  unfold State.setTargets
  extract_lets
  refine (h.foldl fun _ _ h1 => ?_).judgeCeilings
  extract_lets _ _ _ s1
  have hs1 : Keeps r s1 := .ite (h1.lit rfl rfl) h1
  exact hs1.wr

theorem Keeps.calibrate (h : Keeps r s) {i power rate24 : Nat} : Keeps r (s.calibrate i power rate24) := by
  unfold State.calibrate
  extract_lets
  exact .ite h (h.lit rfl rfl)

theorem Keeps.readIslands (h : Keeps r s) {t : Telemetry} : Keeps r (s.readIslands t) := by
  unfold State.readIslands
  refine (h.lit rfl rfl).foldl fun _ _ h1 => ?_
  split
  · extract_lets s1 s2 s3 s4 s5
    have hs1 : Keeps r s1 := h1.wr
    have hs2 : Keeps r s2 := hs1.wr
    have hs3 : Keeps r s3 := hs2.wrInt
    have hs4 : Keeps r s4 := hs3.wr
    have hs5 : Keeps r s5 := hs4.calibrate
    exact .ite (hs5.lit rfl rfl) hs4
  · exact h1

theorem Keeps.readRegulators (h : Keeps r s) {t : Telemetry} : Keeps r (s.readRegulators t) := by
  unfold State.readRegulators
  refine h.foldl fun _ _ h1 => ?_
  split
  · extract_lets _ _ s1
    have hs1 : Keeps r s1 := h1.lit rfl rfl
    exact hs1.raiseIf
  · exact h1

theorem Keeps.forcePatrol (h : Keeps r s) : Keeps r s.forcePatrol := (h.lit rfl rfl).raise

theorem Keeps.judgePrefetch (h : Keeps r s) : Keeps r s.judgePrefetch := by
  unfold State.judgePrefetch
  extract_lets _ _ _ s'
  have hs' : Keeps r s' := h.lit rfl rfl
  exact hs'.raiseIf

theorem Keeps.forceFlush (h : Keeps r s) : Keeps r s.forceFlush := by
  unfold State.forceFlush
  extract_lets _ _ _ s1
  have hs1 : Keeps r s1 := h.lit rfl rfl
  exact hs1.raiseIf

theorem Keeps.countDeferral (h : Keeps r s) : Keeps r s.countDeferral := by
  unfold State.countDeferral
  extract_lets _ _ _ s1 s2 s3
  have hs1 : Keeps r s1 := h.lit rfl rfl
  have hs2 : Keeps r s2 := hs1.foldl fun _ _ h1 => .ite (h1.lit rfl rfl) h1
  have hs3 : Keeps r s3 := hs2.judgePrefetch
  exact .ite hs3.forcePatrol (.ite (hs3.lit rfl rfl) hs3)

theorem Keeps.judgeEngine (h : Keeps r s) {e med : Nat} : Keeps r (s.judgeEngine e med) := by
  unfold State.judgeEngine
  extract_lets
  split
  · exact h
  · extract_lets
    exact .ite h.putEngine.raise (.ite h.putEngine.raise h.putEngine)

theorem Keeps.judgeEngines (h : Keeps r s) : Keeps r s.judgeEngines := by
  unfold State.judgeEngines
  extract_lets s1 s2
  have hs1 : Keeps r s1 := h.foldl fun _ _ h1 => h1.accrue.modEngine
  have hs2 : Keeps r s2 := by
    unfold s2
    refine hs1.foldl fun _ _ h1 => ?_
    extract_lets
    exact h1.foldl fun _ _ h1 => h1.judgeEngine
  exact hs2.countEngines

theorem Keeps.takePower (h : Keeps r s) : Keeps r s.takePower := h.lit rfl rfl

theorem Keeps.judgeDram (h : Keeps r s) {t : Telemetry} : Keeps r (s.judgeDram t) := by
  unfold State.judgeDram
  extract_lets s1 _ _ _ s' s'1 s'2 s'3 _ s'4 s'5
  have hs1 : Keeps r s1 := h.takePower
  have hs' : Keeps r s' := hs1.lit rfl rfl
  have hs'1 : Keeps r s'1 := hs'.raiseIf
  have hs'2 : Keeps r s'2 := hs'1.raiseIf
  have hs'3 : Keeps r s'3 := hs'2.wr
  have hs'4 : Keeps r s'4 := .ite (hs'3.lit rfl rfl) hs'3
  have hs'5 : Keeps r s'5 := hs'4.wr
  exact hs'5.wr.wr

theorem Keeps.governorStatus (h : Keeps r s) {t : Telemetry} {ceiling : Bool}
    : Keeps r (s.governorStatus t ceiling) := by
  unfold State.governorStatus
  split
  extract_lets s1 s2 s3 s4 s5 s6 s7 s8 s9 _ s10 s11 s12 s13
  have hs1 : Keeps r s1 := h.raiseIf
  have hs2 : Keeps r s2 := hs1.wr
  have hs3 : Keeps r s3 := hs2.wr
  have hs4 : Keeps r s4 := hs3.wr
  have hs5 : Keeps r s5 := hs4.wr
  have hs6 : Keeps r s6 := hs5.wr
  have hs7 : Keeps r s7 := hs6.wr
  have hs8 : Keeps r s8 := hs7.wr
  have hs9 : Keeps r s9 := hs8.wr
  have hs10 : Keeps r s10 := hs9.wr.tellAlert
  have hs11 : Keeps r s11 := hs10.wrInt
  have hs12 : Keeps r s12 := hs11.wrDom
  have hs13 : Keeps r s13 := hs12.inc.wrTime
  exact hs13.foldl fun _ _ h1 => h1.wr

theorem Keeps.governorTick (h : Keeps r s) {t : Telemetry} : Keeps r (s.governorTick t) := by
  unfold State.governorTick
  extract_lets s1 s2 s3 _ _ s4 _ s5 s6 s7 s8 s9 s10
  have hs1 : Keeps r s1 := h.readIslands.readRegulators
  have hs2 : Keeps r s2 := hs1.countDeferral
  have hs3 : Keeps r s3 := hs2.judgeThermal
  have hs4 : Keeps r s4 := hs3.lit rfl rfl
  have hs5 : Keeps r s5 := hs4.lit rfl rfl
  have hs6 : Keeps r s6 := hs5.judgeEngines
  have hs7 : Keeps r s7 := hs6.judgeDram
  have hs8 : Keeps r s8 := hs7.decideYields
  have hs9 : Keeps r s9 := hs8.setTargets
  have hs10 : Keeps r s10 := hs9.governorStatus
  exact hs10.lit rfl rfl

theorem Keeps.latchTick (h : Keeps r s) {c : Nat} {t : Telemetry} : Keeps r (s.latchTick c t) := by
  unfold State.latchTick
  refine .ite ?_ h
  extract_lets s1
  have hs1 : Keeps r s1 := h.governorTick
  exact hs1.lit rfl rfl

/-! ### Sources -/

theorem Keeps.changeClass (h : Keeps r s) {n cls f : Nat} : Keeps r (s.changeClass n cls f) := by
  unfold State.changeClass
  extract_lets _ s1 s2 s3
  have hs1 : Keeps r s1 := h.wr.inc
  have hs2 : Keeps r s2 := hs1.modInput
  have hs3 : Keeps r s3 := hs2.takeStage
  exact hs3.wr

theorem Keeps.tellClass (h : Keeps r s) {n : Nat} : Keeps r (s.tellClass n) := .ite h.modInput.raise h

theorem Keeps.dropClass (h : Keeps r s) {n : Nat} : Keeps r (s.dropClass n) := .ite h.changeClass.tellClass h

theorem Keeps.takeLead (h : Keeps r s) {n f t line0 : Nat} : Keeps r (s.takeLead n f t line0) := by
  unfold State.takeLead
  extract_lets
  exact .ite h h.modInput.wrInt

theorem Keeps.decideClass (h : Keeps r s) {n f : Nat} : Keeps r (s.decideClass n f) := by
  unfold State.decideClass
  refine .ite (.ite h.changeClass h) ?_
  extract_lets s1
  have hs1 : Keeps r s1 := .ite h.changeClass h
  exact .ite (.ite hs1.changeClass hs1.modInput.raiseIf) hs1

theorem Keeps.judgeClass (h : Keeps r s) {n f t : Nat} {line0 : Option Nat} : Keeps r (s.judgeClass n f t line0) := by
  unfold State.judgeClass
  extract_lets s1
  have hs1 : Keeps r s1 := h.decideClass
  split
  · exact hs1.takeLead
  · exact hs1.modInput

theorem Keeps.keepLatencies (h : Keeps r s) {n : Nat} {m : Store (List Nat)} : Keeps r (s.keepLatencies n m) := by
  unfold State.keepLatencies
  extract_lets
  exact h.modInput.wr

theorem Keeps.noteLatency (h : Keeps r s) {n c us : Nat} : Keeps r (s.noteLatency n c us) := by
  unfold State.noteLatency
  extract_lets
  exact h.keepLatencies

theorem Keeps.dropLatencies (h : Keeps r s) {c : Nat} : Keeps r (s.dropLatencies c) := by
  unfold State.dropLatencies
  refine h.foldl fun _ _ h1 => ?_
  extract_lets
  exact .ite h1.keepLatencies h1

theorem Keeps.judgeHost (h : Keeps r s) {n : Nat} : Keeps r (s.judgeHost n) := by
  unfold State.judgeHost
  extract_lets
  exact h.wr

theorem Keeps.tellAspm (h : Keeps r s) {was : Bool} : Keeps r (s.tellAspm was) := .ite h h.out

theorem Keeps.leaveOld (h : Keeps r s) {c n : Nat} : Keeps r (s.leaveOld c n) := by
  unfold State.leaveOld
  extract_lets
  exact .ite h h.putHost

theorem Keeps.hostLatch (h : Keeps r s) {c n : Nat} : Keeps r (s.hostLatch c n) := by
  unfold State.hostLatch
  extract_lets _ s1 s2 s3 s4
  have hs1 : Keeps r s1 := h.putHost
  have hs2 : Keeps r s2 := hs1.judgeHost.wr.wr
  have hs3 : Keeps r s3 := hs2.inc.wrTime
  have hs4 : Keeps r s4 := hs3.raise
  exact .ite h (.ite hs4.raiseIf h.putHost)

theorem Keeps.judgePlayer (h : Keeps r s) {n : Nat} : Keeps r (s.judgePlayer n) := by
  unfold State.judgePlayer
  extract_lets
  exact h.wr

theorem Keeps.dropPlayer (h : Keeps r s) {n : Nat} : Keeps r (s.dropPlayer n) := by
  unfold State.dropPlayer
  extract_lets s1
  have hs1 : Keeps r s1 := h.putPlayer.takePool
  exact hs1.wr.judgePlayer

theorem Keeps.takeEnable (h : Keeps r s) {n : Nat} : Keeps r (s.takeEnable n) := by
  unfold State.takeEnable
  extract_lets
  exact .ite h (.ite h.modPlayer.judgePlayer h.dropPlayer)

theorem Keeps.applyPlayer (h : Keeps r s) {n : Nat} : Keeps r (s.applyPlayer n) := .ite h h.takeEnable

theorem Keeps.settlePlayers (h : Keeps r s) : Keeps r s.settlePlayers := h.foldl fun _ _ h1 => h1.applyPlayer

theorem Keeps.takeLive (h : Keeps r s) {n : Nat} : Keeps r (s.takeLive n) := by
  unfold State.takeLive
  extract_lets
  exact h.putPlayer

theorem Keeps.showFrame (h : Keeps r s) {n k next w : Nat} : Keeps r (s.showFrame n k next w) := by
  unfold State.showFrame
  extract_lets _ _ _ _ _ _ s1 s2
  have hs1 : Keeps r s1 := h.putPlayer
  have hs2 : Keeps r s2 := hs1.wr
  exact .ite hs2.inc.raise hs2

theorem Keeps.endPlay (h : Keeps r s) {n : Nat} : Keeps r (s.endPlay n) := h.modPlayer.takePool.wr

theorem Keeps.turnPlay (h : Keeps r s) {n b : Nat} : Keeps r (s.turnPlay n b) := by
  unfold State.turnPlay
  extract_lets
  split
  split
  extract_lets
  exact h.putPlayer

theorem Keeps.takeTransport (h : Keeps r s) {n b : Nat} : Keeps r (s.takeTransport n b) := by
  unfold State.takeTransport
  extract_lets
  split
  split
  · exact h.putPlayer.endPlay
  · extract_lets s1
    have hs1 : Keeps r s1 := h.putPlayer
    exact hs1.wr
  · exact h.putPlayer.wr
  · exact h
  · refine .ite h.turnPlay ?_
    extract_lets _ s1 _ _ _ _ s2 s3 s4
    have hs1 : Keeps r s1 := h.putPlayer
    have hs2 : Keeps r s2 := hs1.putPlayer
    have hs3 : Keeps r s3 := .ite hs2.wr hs2
    have hs4 : Keeps r s4 := hs3.putPlayer
    exact .ite hs4.wr.raise hs3

theorem Keeps.playLatch (h : Keeps r s) {n b : Nat} : Keeps r (s.playLatch n b) := by
  unfold State.playLatch
  extract_lets s1 _ s2 s3
  have hs1 : Keeps r s1 := h.takeLive.takeTransport
  have hs2 : Keeps r s2 := hs1.putPlayer
  have hs3 : Keeps r s3 := hs2.raise
  split
  split
  · exact .ite hs2.showFrame.wr hs2
  · split
    refine .ite ?_ (.ite (.ite hs3.wr hs3.endPlay) hs2.showFrame)
    extract_lets
    exact hs2.showFrame
  · split
    · exact hs2
    · exact hs2.putPlayer
  · exact hs2

theorem Keeps.playerLatch (h : Keeps r s) {n b : Nat} : Keeps r (s.playerLatch n b) := by
  unfold State.playerLatch
  extract_lets s1
  have hs1 : Keeps r s1 := h.takeEnable
  exact .ite hs1.playLatch hs1

theorem Keeps.playersLatch (h : Keeps r s) {f : Nat} : Keeps r (s.playersLatch f) := by
  unfold State.playersLatch
  extract_lets
  exact h.foldl fun _ _ h1 => .ite h1.playerLatch h1

theorem Keeps.putCapture (h : Keeps r s) {k : Nat} {c : Capture} : Keeps r (s.putCapture k c) := h.lit rfl rfl

theorem Keeps.capture (h : Keeps r s) {source period : Nat} {x0 : Raster} : Keeps r (s.capture source period x0) := by
  unfold State.capture
  refine h.foldl fun _ _ h1 => ?_
  extract_lets
  exact .ite h1.putCapture h1

/-! ### StripOps -/

theorem Keeps.modStrip (h : Keeps r s) {i : StripId} {f : Strip → Strip} : Keeps r (s.modStrip i f) := h.lit rfl rfl

theorem Keeps.pushFront (h : Keeps r s) {i : StripId} {f : Strip → Strip} : Keeps r (s.pushFront i f) := by
  unfold State.pushFront
  split
  · exact h.lit rfl rfl
  · exact h

theorem Keeps.enqueue (h : Keeps r s) {l : List Strip} : Keeps r (s.enqueue l) := h.lit rfl rfl

theorem Keeps.pull (h : Keeps r s) {e : Nat} : Keeps r (s.pull e) := by
  unfold State.pull
  refine .ite ?_ h
  split
  · extract_lets s1
    have hs1 : Keeps r s1 := h.accrue
    exact hs1.lit rfl rfl
  · exact h

theorem Keeps.reissue (h : Keeps r s) {i : StripId} : Keeps r (s.reissue i) := by
  unfold State.reissue
  split
  · refine .ite ?_ h
    extract_lets _ s'
    have hs' : Keeps r s' := by
      unfold s'
      split
      · extract_lets s1
        have hs1 : Keeps r s1 := h.accrue
        exact hs1.modStrip
      · exact h.pushFront
    exact hs'.inc.raise
  · exact h

theorem Keeps.accountCopy (h : Keeps r s) {c : Copy} {work : Nat} {won : Bool} : Keeps r (s.accountCopy c work won) :=
  h.accrue.modEngine

theorem Keeps.finishStrip (h : Keeps r s) {a : Strip} {e : Nat} {i : StripId} : Keeps r (s.finishStrip a e i) := by
  unfold State.finishStrip
  extract_lets s1 s2
  have hs1 : Keeps r s1 := h.foldl fun _ _ h1 => h1.accountCopy
  have hs2 : Keeps r s2 := hs1.modStrip
  exact hs2.inc

theorem Keeps.loseCopy (h : Keeps r s) {e : Nat} {i : StripId} : Keeps r (s.loseCopy e i) := by
  unfold State.loseCopy
  split
  · split
    · extract_lets s1
      have hs1 : Keeps r s1 := h.accrue
      exact .ite (.ite hs1.pushFront.inc.raise hs1.modStrip.inc.raise) hs1.modStrip
    · exact h
  · exact h

theorem Keeps.dropStrips (h : Keeps r s) {kind : StripKind} {owner : Nat} : Keeps r (s.dropStrips kind owner) := by
  unfold State.dropStrips
  extract_lets _ s1
  have hs1 : Keeps r s1 := h.foldl fun _ _ h1 => h1.foldl fun _ _ h2 => h2.accrue
  exact hs1.lit rfl rfl

/-! ### Compose -/

theorem Keeps.judgeGating (h : Keeps r s) {c : Nat} : Keeps r (s.judgeGating c) := by
  unfold State.judgeGating
  extract_lets s1
  have hs1 : Keeps r s1 := h.modCanvas
  refine hs1.foldl fun _ _ h1 => ?_
  extract_lets _ _ _ s2
  have hs2 : Keeps r s2 := h1.modLayer
  exact .ite hs2.raise hs2.raiseIf

theorem Keeps.takeRelief (h : Keeps r s) {k : Nat} : Keeps r (s.takeRelief k) := by
  unfold State.takeRelief
  extract_lets
  exact h.modLayer

theorem Keeps.showDegraded (h : Keeps r s) {c : Nat} : Keeps r (s.showDegraded c) := h.wr

theorem Keeps.relieveClip (h : Keeps r s) {c k : Nat} : Keeps r (s.relieveClip c k) := by
  unfold State.relieveClip
  refine .ite ?_ h
  extract_lets _ s1
  have hs1 : Keeps r s1 := h.takeRelief.showDegraded
  exact hs1.raiseIf

theorem Keeps.resolve (h : Keeps r s) {c k kind num t : Nat} {was : Shown} {reps : Nat} {last : Option Raster} :
    Keeps r (s.resolve c k kind num t was reps last).1 := by
  unfold State.resolve
  split
  · exact h
  · split
    · exact h
    · split
      · extract_lets
        split
        · split
          · exact h
          · exact h.raiseIf.pair
        · exact h.raiseIf.pair
      · exact h
      · exact h
      · split
        · exact h
        · exact h.raise.pair

theorem Keeps.noteConverted (h : Keeps r s) {c num t : Nat} : Keeps r (s.noteConverted c num t) := by
  unfold State.noteConverted
  refine .ite h.noteLatency (.ite ?_ h)
  split
  · extract_lets
    exact h.noteLatency.raiseIf
  · exact h

theorem Keeps.judgeLayer (h : Keeps r s) {c k t : Nat} : Keeps r (s.judgeLayer c k t) := by
  unfold State.judgeLayer
  extract_lets u y kind num
  have hu : Keeps r u := h.relieveClip
  split
  next v now reps last e =>
  have hv : Keeps r v := hu.resolve.fst e
  split
  next w out oreps olast e' =>
  have hw : Keeps r w := by
    split at e'
    · exact hv.resolve.fst e'
    · exact Keeps.fst (p := (v, _)) hv e'
  extract_lets late ready code
  split
  split
  extract_lets a1 a2 a3 a4
  have h3 : Keeps r a3 := hw.putLayer.wr.wr
  have h4 : Keeps r a4 := .ite h3.inc h3
  split
  extract_lets a5 a6 a7
  have h6 : Keeps r a6 := by
    unfold a6
    split <;> exact h4.wr.wr
  exact h6.raiseIf.raiseIf

theorem Keeps.mapLayers (h : Keeps r s) {f : Layer → Layer} : Keeps r (s.mapLayers f) := h.lit rfl rfl

theorem Keeps.stepMixes (h : Keeps r s) {c : Nat} : Keeps r (s.stepMixes c) := by
  unfold State.stepMixes
  refine h.foldl fun _ _ h1 => ?_
  extract_lets _ s1
  have hs1 : Keeps r s1 := h1.modLayer
  split
  · exact hs1
  · extract_lets
    exact .ite hs1.modLayer.wr hs1.modLayer.wr.raise

theorem Keeps.checkImage (h : Keeps r s) {c : Nat} : Keeps r (s.checkImage c) := by
  unfold State.checkImage
  extract_lets
  exact .ite (.ite h h.putImageBad.raiseIf) h

theorem Keeps.endStep5 (h : Keeps r s) {c : Nat} : Keeps r (s.endStep5 c) := by
  unfold State.endStep5
  extract_lets _ _ _ s1 s2
  have hs1 : Keeps r s1 := h.lit rfl rfl
  have hs2 : Keeps r s2 := hs1.foldl fun _ _ h1 => h1.raise
  exact .ite hs2.modCanvas.wr h

theorem Keeps.noteImage (h : Keeps r s) {c : Nat} : Keeps r (s.noteImage c) := h.modCanvas

theorem Keeps.judgeOvercoat (h : Keeps r s) {c slot : Nat} : Keeps r (s.judgeOvercoat c slot) := by
  unfold State.judgeOvercoat
  extract_lets _ s1 _ s2
  have hs1 : Keeps r s1 := h.wr
  have hs2 : Keeps r s2 := hs1.modCanvas.raiseBy
  exact .ite hs2.checkImage.endStep5 (.ite h.wr.raise h)

theorem Keeps.invalidateLining (h : Keeps r s) {c cause : Nat} : Keeps r (s.invalidateLining c cause) := by
  unfold State.invalidateLining
  refine .ite ?_ (.ite h.modCanvas h)
  extract_lets s1 s2
  have hs1 : Keeps r s1 := h.modCanvas.wr
  have hs2 : Keeps r s2 := hs1.foldl fun _ _ h1 => h1.wr
  exact hs2.raise

theorem Keeps.clearLining (h : Keeps r s) {c st : Nat} : Keeps r (s.clearLining c st) := by
  unfold State.clearLining
  extract_lets s1 s2
  have hs1 : Keeps r s1 := h.modCanvas.takeLining
  have hs2 : Keeps r s2 := hs1.wr.wr
  exact hs2.foldl fun _ _ h1 => h1.wr

theorem Keeps.useLining (h : Keeps r s) {c : Nat} : Keeps r (s.useLining c) := h.modCanvas.foldl fun _ _ h1 => h1.wr

theorem Keeps.judgeLining (h : Keeps r s) {c : Nat} {fresh : Bool} : Keeps r (s.judgeLining c fresh) := by
  unfold State.judgeLining
  extract_lets _ _ _ s1 _ s2 _ s3
  have hs1 : Keeps r s1 := .ite h.invalidateLining (.ite h.invalidateLining (.ite h.invalidateLining h))
  have hs2 : Keeps r s2 := hs1.takeLining.wr
  have hs3 : Keeps r s3 := hs1.clearLining
  exact .ite h.clearLining.modCanvas (.ite hs1.clearLining (.ite hs1.useLining
    (.ite hs2.modCanvas.wr hs3.modCanvas.raiseIf)))

theorem Keeps.asSeen (h : Keeps r s) {c : Nat} : Keeps r (s.asSeen c) := by
  unfold State.asSeen
  extract_lets
  exact h.lit rfl rfl

theorem Keeps.takeConfig (h : Keeps r s) {c : Nat} : Keeps r (s.takeConfig c) := h.modCanvas

theorem Keeps.dispatchSlot (h : Keeps r s) {c slot deadline : Nat} : Keeps r (s.dispatchSlot c slot deadline) := by
  unfold State.dispatchSlot
  extract_lets s1 _ _ _ s2
  have hs1 : Keeps r s1 := h.dropStrips
  have hs2 : Keeps r s2 := hs1.putCanvas
  exact .ite hs1.putCanvas hs2.enqueue

theorem Keeps.flipSlot (h : Keeps r s) {c : Nat} : Keeps r (s.flipSlot c) := by
  unfold State.flipSlot
  extract_lets
  exact .ite h.putCanvas h

/-! ### CommitOps -/

theorem Keeps.applyHeld (h : Keeps r s) {d : Deferred} : Keeps r (s.applyHeld d) := by
  unfold State.applyHeld
  split
  · exact .ite h.putTileShadow (.ite h.putCalibShadow h.setDomShadow)
  · exact h.setShadow

theorem Keeps.enforceTile (h : Keeps r s) {k : Nat} {b : List Byte} : Keeps r (s.enforceTile k b) := by
  unfold State.enforceTile
  extract_lets _ _ s1
  have hs1 : Keeps r s1 := h.putTileEntry
  exact .ite hs1 hs1.putTile

theorem Keeps.force (h : Keeps r s) {m : Commit} : Keeps r (s.force m) := by
  unfold State.force
  extract_lets s1 s2 s3
  have hs1 : Keeps r s1 := h.foldl fun _ _ h1 => h1.setReg
  have hs2 : Keeps r s2 := hs1.foldl fun _ _ h1 => h1.setDom
  have hs3 : Keeps r s3 := hs2.foldl fun _ _ h1 => h1.enforceTile
  exact hs3.foldl fun _ _ h1 => h1.putCalib

theorem Keeps.setWbState (h : Keeps r s) {c k v : Nat} : Keeps r (s.setWbState c k v) := by
  unfold State.setWbState
  extract_lets
  exact h.wr

theorem Keeps.holdWriteBack (h : Keeps r s) {c : Nat} {take : Bool} : Keeps r (s.holdWriteBack c take) := by
  unfold State.holdWriteBack
  refine h.foldl fun _ _ h1 => ?_
  extract_lets
  exact h1.takeScan.takePool

theorem Keeps.takeFifo (h : Keeps r s) {x0 : Nat} : Keeps r (s.takeFifo x0) := h.takeScan.wr

theorem Keeps.takeBuffers (h : Keeps r s) : Keeps r s.takeBuffers := by
  unfold State.takeBuffers
  refine h.foldl fun _ _ h1 => ?_
  split
  extract_lets s1 s2
  have hs1 : Keeps r s1 := .ite h1.modCanvas h1
  have hs2 : Keeps r s2 := hs1.takeScan.takePool
  exact .ite hs2.modCanvas hs2

theorem Keeps.noteWanted (h : Keeps r s) : Keeps r s.noteWanted := h.lit rfl rfl

theorem Keeps.takeWriteBack (h : Keeps r s) {c : Nat} : Keeps r (s.takeWriteBack c) := by
  unfold State.takeWriteBack
  refine h.foldl fun _ _ h1 => ?_
  extract_lets
  exact h1.takeScan.takePool

theorem Keeps.asNamed (h : Keeps r s) : Keeps r s.asNamed := h.lit rfl rfl

theorem Keeps.heldTogether (h : Keeps r s) {m : Commit} {kind num : Nat} : Keeps r (s.heldTogether m kind num) := by
  unfold State.heldTogether
  extract_lets s1
  have hs1 : Keeps r s1 := h.foldl fun _ _ h1 => h1.holdWriteBack
  exact .ite hs1.takeBuffers hs1

theorem Keeps.stampCommit (h : Keeps r s) {m : Commit} : Keeps r (s.stampCommit m) :=
  .ite h.wrTime.wrTime h.wrTime.wrTime

theorem Keeps.commitStates (h : Keeps r s) : Keeps r s.commitStates := by
  unfold State.commitStates
  extract_lets _ _ _ s' s'1
  have hs' : Keeps r s' := h.foldl fun _ _ h1 => h1.wr
  have hs'1 : Keeps r s'1 := hs'.foldl fun _ _ h1 => h1.wr
  exact hs'1.wr

theorem Keeps.landLayer (h : Keeps r s) {c k oldOn oldKind oldNum : Nat}
    : Keeps r (s.landLayer c k oldOn oldKind oldNum) := by
  unfold State.landLayer
  extract_lets kind num noMix u
  have hno : ∀ v, Keeps r v → Keeps r (noMix v) := fun v hv => hv.modLayer.wr
  have hu : Keeps r u := by
    unfold u
    split
    · exact (hno _ h).raise
    · exact h
  exact .ite (hno _ h) (.ite (.ite h h.modLayer) (.ite hu.modLayer.wr.raise hu.modLayer))

theorem Keeps.degradeLayers (h : Keeps r s) {c : Nat} : Keeps r (s.degradeLayers c) :=
  (h.foldl fun _ _ h1 => h1.takeRelief).showDegraded

theorem Keeps.landCanvas (h : Keeps r s) {m : Commit} : Keeps r (s.landCanvas m) := by
  unfold State.landCanvas
  extract_lets _ _ t t1 t2 t3 t4 t5
  have ht : Keeps r t := h.force
  have ht1 : Keeps r t1 := .ite ht.invalidateLining ht
  have ht2 : Keeps r t2 := by
    unfold t2
    refine ht1.foldl fun _ _ h1 => ?_
    split
    · exact h1.landLayer
    · exact h1
  have ht3 : Keeps r t3 := ht2.degradeLayers.modCanvas
  have ht4 : Keeps r t4 := ht3.takeWriteBack
  have ht5 : Keeps r t5 := ht4.foldl fun _ _ h1 => .ite h1.setWbState h1
  exact ht5.raiseIf

theorem Keeps.calibsDue (h : Keeps r s) {m : Commit} : Keeps r (s.calibsDue m) := by
  unfold State.calibsDue
  extract_lets
  exact h.modHead

theorem Keeps.watchTiles (h : Keeps r s) {x0 : Nat} : Keeps r (s.watchTiles x0) :=
  h.foldl fun _ _ h1 => .ite h1.modTile h1

theorem Keeps.landHead (h : Keeps r s) {m : Commit} : Keeps r (s.landHead m) := by
  unfold State.landHead
  extract_lets t t1
  have ht : Keeps r t := h.force.takeBuffers.calibsDue
  have ht1 : Keeps r t1 := ht.watchTiles
  exact .ite ht1 (ht1.foldl fun _ _ h1 => h1.raise)

theorem Keeps.landTile (h : Keeps r s) {k : Nat} {b : List Byte} : Keeps r (s.landTile k b) :=
  .ite h h.enforceTile.raiseIf

theorem Keeps.landCalib (h : Keeps r s) {k : Nat} {b : List Byte} : Keeps r (s.landCalib k b) := .ite h h.putCalib

theorem Keeps.storeTile (h : Keeps r s) {k : Nat} {b : List Byte} : Keeps r (s.storeTile k b) :=
  .ite (h.lit rfl rfl) h.putTileShadow.landTile

theorem Keeps.storeCalib (h : Keeps r s) {k : Nat} {b : List Byte} : Keeps r (s.storeCalib k b) :=
  .ite (h.lit rfl rfl) h.putCalibShadow.landCalib

theorem Keeps.endHold (h : Keeps r s) {d : Deferred} : Keeps r (s.endHold d) := by
  unfold State.endHold
  split
  · exact .ite h.applyHeld.landTile (.ite h.applyHeld.landCalib h.applyHeld)
  · exact h.applyHeld

theorem Keeps.countTiles (h : Keeps r s) : Keeps r s.countTiles := by
  unfold State.countTiles
  extract_lets _ s1
  have hs1 : Keeps r s1 := h.wr
  exact hs1.wr.wr

theorem Keeps.inUse (h : Keeps r s) : Keeps r s.inUse := by
  unfold State.inUse
  extract_lets _ _ _ _ _ _ s1 s2
  have hs1 : Keeps r s1 := h.wr
  have hs2 : Keeps r s2 := hs1.wr
  exact hs2.wr

theorem Keeps.landCommit (h : Keeps r s) {m : Commit} : Keeps r (s.landCommit m) := by
  unfold State.landCommit
  extract_lets _ s1 s2 s3 _ s4 s5 s6
  have hs1 : Keeps r s1 := h.lit rfl rfl
  have hs2 : Keeps r s2 := .ite hs1.landHead hs1.landCanvas
  have hs3 : Keeps r s3 := hs2.countTiles.inUse.commitStates.noteWanted
  have hs4 : Keeps r s4 := hs3.wr.inc
  have hs5 : Keeps r s5 := hs3.wr.inc
  have hs6 : Keeps r s6 := .ite hs4.wrTime.fire hs5.wrTime.fire
  exact hs6.raise

theorem Keeps.landPending (h : Keeps r s) {kind num : Nat} : Keeps r (s.landPending kind num) := by
  unfold State.landPending
  split
  · exact h.landCommit
  · exact h

theorem Keeps.landDue (h : Keeps r s) {kind num t : Nat} : Keeps r (s.landDue kind num t) := by
  unfold State.landDue
  split
  · exact .ite h.landCommit h
  · exact h

/-! ### KeyOps -/

theorem Keeps.putSlot (h : Keeps r s) {n : Nat} {v : Slot} : Keeps r (s.putSlot n v) := h.lit rfl rfl

/-! ### PtlOps -/

theorem Keeps.sendFrame (h : Keeps r s) {p dest : Nat} {body : List Byte} : Keeps r (s.sendFrame p dest body) := by
  unfold State.sendFrame
  refine .ite ?_ h
  extract_lets
  exact h.out.inc

theorem Keeps.startRekey (h : Keeps r s) : Keeps r s.startRekey := by
  unfold State.startRekey
  refine .ite (h.lit rfl rfl) ?_
  split
  exact (h.draw.snd ‹_›).lit rfl rfl

theorem Keeps.nextPtlCount (h : Keeps r s) {p : Nat} : Keeps r (s.nextPtlCount p).2 :=
  .ite h.putPtlCounter.startRekey h.putPtlCounter

theorem Keeps.sendBeacon (h : Keeps r s) {x0 slot present retime newPresent : Nat}
    : Keeps r (s.sendBeacon x0 slot present retime newPresent) := by
  unfold State.sendBeacon
  refine h.foldl fun _ _ h1 => ?_
  extract_lets
  exact h1.sendFrame

theorem Keeps.judgePtlKey (h : Keeps r s) : Keeps r s.judgePtlKey := by
  unfold State.judgePtlKey
  extract_lets
  exact h.wr.raiseIf

theorem Keeps.finishRekey (h : Keeps r s) : Keeps r s.finishRekey := by
  unfold State.finishRekey
  extract_lets _ _ s1 s2 s3
  have hs1 : Keeps r s1 := h.lit rfl rfl
  have hs2 : Keeps r s2 := hs1.inc.judgePtlKey
  have hs3 : Keeps r s3 := hs2.raise
  exact .ite hs3.startRekey hs3

theorem Keeps.countRekey (h : Keeps r s) {x0 : Nat} : Keeps r (s.countRekey x0) :=
  .ite h (.ite h.finishRekey (h.lit rfl rfl))

theorem Keeps.sendPtl (h : Keeps r s) {p dest : Nat} {auth encrypt : Bool} {k : PtlPacket}
    : Keeps r (s.sendPtl p dest auth encrypt k) :=
  .ite h h.sendFrame

theorem Keeps.sendCalib (h : Keeps r s) {x0 k : Nat} : Keeps r (s.sendCalib x0 k) := by
  unfold State.sendCalib
  extract_lets
  exact h.foldl fun _ _ h1 => .ite (h1.foldl fun _ _ h2 => h2.sendPtl) h1

theorem Keeps.sendCalibs (h : Keeps r s) {x0 : Nat} : Keeps r (s.sendCalibs x0) := by
  unfold State.sendCalibs
  extract_lets _ s1
  have hs1 : Keeps r s1 := h.modHead
  exact hs1.foldl fun _ _ h1 => h1.sendCalib

theorem Keeps.allCalibsDue (h : Keeps r s) {x0 : Nat} : Keeps r (s.allCalibsDue x0) := by
  unfold State.allCalibsDue
  extract_lets
  exact h.modHead

/-! ### HeadOps -/

theorem Keeps.putTiming (h : Keeps r s) {n : Nat} {b : List Byte} : Keeps r (s.putTiming n b) :=
  h.wr.wr.wr.wr.wr.wr.wr.wr.wr.wr.wr.wr

theorem Keeps.setPixelClock (h : Keeps r s) {x0 : Nat} : Keeps r (s.setPixelClock x0) := h.wr

theorem Keeps.withTaken (h : Keeps r s) {x0 : Nat} : Keeps r (s.withTaken x0) := by
  unfold State.withTaken
  extract_lets
  exact h.lit rfl rfl

theorem Keeps.asScanned (h : Keeps r s) {x0 : Nat} : Keeps r (s.asScanned x0) := by
  unfold State.asScanned
  extract_lets _ v
  have hv : Keeps r v := h.withTaken
  exact hv.modCanvas

theorem Keeps.headTakes (h : Keeps r s) {x0 t : Nat} : Keeps r (s.headTakes x0 t) := by
  unfold State.headTakes
  extract_lets _ _ _ _ _ s1 v
  have hs1 : Keeps r s1 := h.modHead
  exact hs1.modHead

theorem Keeps.sendRaster (h : Keeps r s) {x0 slot : Nat} {kind : FrameKind} : Keeps r (s.sendRaster x0 slot kind) := by
  unfold State.sendRaster
  refine .ite h ?_
  extract_lets v s1
  have hs1 : Keeps r s1 := .ite h.inc.out h
  exact hs1.foldl fun _ _ h1 => h1.out

theorem Keeps.endFrame (h : Keeps r s) {x0 : Nat} : Keeps r (s.endFrame x0) := by
  unfold State.endFrame
  extract_lets _ s1
  have hs1 : Keeps r s1 := h.modHead
  exact .ite h hs1.inc.raise

theorem Keeps.endRetime (h : Keeps r s) {x0 b : Nat} : Keeps r (s.endRetime x0 b) := h.inc.raise

theorem Keeps.stopHead (h : Keeps r s) {x0 : Nat} : Keeps r (s.stopHead x0) := by
  unfold State.stopHead
  extract_lets s1 s2 _ s3 s4 s5
  have hs1 : Keeps r s1 := h.endFrame
  have hs2 : Keeps r s2 := by
    unfold s2
    split
    · exact hs1.putTiming.landPending.endRetime
    · exact hs1.landPending
  have hs3 : Keeps r s3 := hs2.putHead
  have hs4 : Keeps r s4 := hs3.wr.wr
  have hs5 : Keeps r s5 := hs4.wr.takeBuffers.takeFifo
  exact hs5.raise

theorem Keeps.stopWithClones (h : Keeps r s) {x0 : Nat} : Keeps r (s.stopWithClones x0) :=
  h.stopHead.foldl fun _ _ h1 => .ite h1.stopHead.modHead h1

theorem Keeps.countFrame (h : Keeps r s) {x0 slot : Nat} : Keeps r (s.countFrame x0 slot) := by
  unfold State.countFrame
  extract_lets _ s1
  have hs1 : Keeps r s1 := h.inc
  exact .ite h.modHead (.ite hs1.inc hs1)

theorem Keeps.noteMargin (h : Keeps r s) {x0 c key : Nat} : Keeps r (s.noteMargin x0 c key) := by
  unfold State.noteMargin
  extract_lets
  exact h.modHead.wrInt

theorem Keeps.endSafe (h : Keeps r s) {x0 : Nat} : Keeps r (s.endSafe x0) := by
  unfold State.endSafe
  extract_lets
  exact .ite h.putHead.wr.raise h

theorem Keeps.countRetime (h : Keeps r s) {x0 t : Nat} : Keeps r (s.countRetime x0 t) := by
  unfold State.countRetime
  split
  · refine .ite ?_ h
    extract_lets
    exact h.modHead
  · exact h

theorem Keeps.tileFrame (h : Keeps r s) {x0 slot pt countdown newPt : Nat} {first : Bool}
    : Keeps r (s.tileFrame x0 slot pt countdown newPt first) := by
  unfold State.tileFrame
  extract_lets s1 s2
  have hs1 : Keeps r s1 := .ite h.allCalibsDue.watchTiles h
  have hs2 : Keeps r s2 := .ite hs1.startRekey hs1
  exact hs2.countRekey.sendBeacon.sendCalibs

theorem Keeps.openFrame (h : Keeps r s) {x0 t slot c : Nat} {first : Bool}
    : Keeps r (s.openFrame x0 t slot c first) := by
  unfold State.openFrame
  extract_lets s1 s2 s3 s4
  have hs1 : Keeps r s1 := .ite h.flipSlot h
  have hs2 : Keeps r s2 := hs1.modHead
  have hs3 : Keeps r s3 := .ite hs2.setPixelClock.wr.milestone.raise hs2
  have hs4 : Keeps r s4 := hs3.countFrame.endSafe
  split
  · exact hs4.modHead.wr.raise
  · exact hs4

theorem Keeps.showSlot (h : Keeps r s) {x0 c slot : Nat} {retimed : Bool} : Keeps r (s.showSlot x0 c slot retimed) := by
  unfold State.showSlot
  extract_lets _ _ _ _ _ s1 s2
  have hs1 : Keeps r s1 := h.raiseIf
  have hs2 : Keeps r s2 := hs1.modHead
  exact .ite hs2.inc (.ite hs2.noteMargin hs2)

theorem Keeps.tellFrame (h : Keeps r s) {x0 t slot : Nat} {first : Bool} : Keeps r (s.tellFrame x0 t slot first) := by
  unfold State.tellFrame
  extract_lets _ _ s1 s2
  have hs1 : Keeps r s1 := h.wrTime
  have hs2 : Keeps r s2 := hs1.wr
  split
  extract_lets s3 s4 s5
  have hs3 : Keeps r s3 := .ite hs2.tileFrame hs2
  have hs4 : Keeps r s4 := hs3.countRetime.wr
  have hs5 : Keeps r s5 := hs4.fire.raise
  exact hs5.sendRaster

theorem Keeps.beginFrame (h : Keeps r s) {x0 t : Nat} {first retimed : Bool}
    : Keeps r (s.beginFrame x0 t first retimed) := by
  unfold State.beginFrame
  extract_lets s1
  have hs1 : Keeps r s1 := h.endFrame.groupFrame.headTakes
  exact hs1.openFrame.showSlot.tellFrame

theorem Keeps.headFrame (h : Keeps r s) {x0 low : Nat} : Keeps r (s.headFrame x0 low) := by
  unfold State.headFrame
  split
  · refine .ite ?_ h
    extract_lets _ s1
    have hs1 : Keeps r s1 := .ite h.wr h
    exact .ite h.stopWithClones hs1.beginFrame
  · exact h

theorem Keeps.checkWindow (h : Keeps r s) {x0 w echo : Nat} : Keeps r (s.checkWindow x0 w echo) := by
  unfold State.checkWindow
  refine .ite ?_ h
  extract_lets _ _ s1 _ s2
  have hs1 : Keeps r s1 := h.modHead
  have hs2 : Keeps r s2 := hs1.modHead
  exact .ite hs1.modHead.wr hs2.wr.raise

theorem Keeps.startRetime (h : Keeps r s) {x0 sess : Nat} {timing : List Byte} {land : Nat}
    : Keeps r (s.startRetime x0 sess timing land) := by
  unfold State.startRetime
  extract_lets _ _ _ s1
  have hs1 : Keeps r s1 := h.raise
  exact hs1.putHead.wr

theorem Keeps.followTiming (h : Keeps r s) {g t : Nat} : Keeps r (s.followTiming g t) := by
  unfold State.followTiming
  extract_lets
  exact .ite h h.modHead

theorem Keeps.retimed (h : Keeps r s) {x0 : Nat} : Keeps r (s.retimed x0) := by
  unfold State.retimed
  split
  · refine .ite h.stopWithClones (.ite ?_ h)
    extract_lets _ s1 s2 s3 s4 s5 s6
    have hs1 : Keeps r s1 := h.putTiming.setPixelClock.wrDom
    have hs2 : Keeps r s2 := hs1.foldl fun _ _ h1 => h1.followTiming
    have hs3 : Keeps r s3 := hs2.modHead
    have hs4 : Keeps r s4 := hs3.landPending
    have hs5 : Keeps r s5 := hs4.foldl fun _ _ h1 => h1.takeFifo
    have hs6 : Keeps r s6 := hs5.beginFrame
    exact hs6.endRetime
  · exact h

/-! ### AudioOps -/

theorem Keeps.judgeSap (h : Keeps r s) {n : Nat} : Keeps r (s.judgeSap n) := by
  unfold State.judgeSap
  extract_lets
  exact h.wr

theorem Keeps.countSlips (h : Keeps r s) {kind num d : Nat} : Keeps r (s.countSlips kind num d) := by
  unfold State.countSlips
  refine .ite h ?_
  extract_lets _ _ _ _ s1 s2 s3
  have hs1 : Keeps r s1 := h.putEndpoint
  have hs2 : Keeps r s2 := .ite hs1.inc hs1
  have hs3 : Keeps r s3 := hs2.inc
  exact hs3.raiseIf

theorem Keeps.countError (h : Keeps r s) {num : Nat} {under : Bool} : Keeps r (s.countError num under) := by
  unfold State.countError
  extract_lets _ _ _ _ s1 s2
  have hs1 : Keeps r s1 := h.putEndpoint
  have hs2 : Keeps r s2 := hs1.inc
  exact hs2.raiseIf

theorem Keeps.startEndpoint (h : Keeps r s) {kind num : Nat} : Keeps r (s.startEndpoint kind num) := by
  unfold State.startEndpoint
  extract_lets _ _ _ s1
  have hs1 : Keeps r s1 := h.modEndpoint
  exact .ite hs1.judgeSap hs1

theorem Keeps.beginStop (h : Keeps r s) {kind num : Nat} : Keeps r (s.beginStop kind num) := by
  unfold State.beginStop
  extract_lets
  exact h.modEndpoint

theorem Keeps.startAlone (h : Keeps r s) : Keeps r s.startAlone := by
  unfold State.startAlone
  refine h.foldl fun _ _ h1 => ?_
  extract_lets
  exact .ite h1.putEndpoint h1

theorem Keeps.pushLine (h : Keeps r s) {k : Nat} {f : List Int} : Keeps r (s.pushLine k f) := by
  unfold State.pushLine
  extract_lets
  exact h.lit rfl rfl

theorem Keeps.sapFrame (h : Keeps r s) {n : Nat} {arrived : List Int} : Keeps r (s.sapFrame n arrived).1 := by
  unfold State.sapFrame
  extract_lets
  split
  · exact h
  · exact h.putEndpoint.countSlips

theorem Keeps.inputFrame (h : Keeps r s) {n : Nat} {arrived : List (List Int)}
    : Keeps r (s.inputFrame n arrived).1 := by
  unfold State.inputFrame
  extract_lets
  split
  · exact h.putEndpoint
  · split
    · exact h.modEndpoint
    · split
      · exact h
      · exact h.putEndpoint.countSlips

theorem Keeps.receiverFrame (h : Keeps r s) {n : Nat} : Keeps r (s.receiverFrame n).1 := by
  unfold State.receiverFrame
  extract_lets
  split
  · exact h
  · exact h.putEndpoint.countSlips

theorem Keeps.playerSound (h : Keeps r s) {n t : Nat} : Keeps r (s.playerSound n t).1 := by
  unfold State.playerSound
  extract_lets
  split
  · exact .ite h.putEndpoint h
  · exact (Keeps.ite h.putEndpoint h).raiseIf

theorem Keeps.takeSources (h : Keeps r s) {t : Nat} {saps : List (Nat × List Int)}
    {inputs : List (Nat × List (List Int))} : Keeps r (s.takeSources t saps inputs) := by
  unfold State.takeSources
  extract_lets s1 s2 s3
  have hs1 : Keeps r s1 := by
    unfold s1
    refine h.foldl fun _ _ h1 => ?_
    split
    exact (h1.sapFrame.fst ‹_›).pushLine
  have hs2 : Keeps r s2 := by
    unfold s2
    refine hs1.foldl fun _ _ h1 => ?_
    split
    exact (h1.inputFrame.fst ‹_›).pushLine
  have hs3 : Keeps r s3 := by
    unfold s3
    refine hs2.foldl fun _ _ h1 => ?_
    split
    exact (h1.receiverFrame.fst ‹_›).pushLine
  refine hs3.foldl fun _ _ h1 => ?_
  split
  exact (h1.playerSound.fst ‹_›).pushLine

theorem Keeps.judgeClamp (h : Keeps r s) {k : Nat} : Keeps r (s.judgeClamp k) := by
  unfold State.judgeClamp
  extract_lets
  exact h.putChannel.raiseIf

theorem Keeps.judgeChannel (h : Keeps r s) {k : Nat} : Keeps r (s.judgeChannel k) := by
  unfold State.judgeChannel
  extract_lets
  split <;> exact h.putChannel.raiseIf

theorem Keeps.stepChannel (h : Keeps r s) {passed : List Nat} {k : Nat} : Keeps r (s.stepChannel passed k) := by
  unfold State.stepChannel
  extract_lets _ _ _ _ _ _ s1 s2
  have hs1 : Keeps r s1 := h.putChannel.judgeClamp
  have hs2 : Keeps r s2 := .ite hs1.judgeChannel hs1
  exact .ite h hs2.putChannel

theorem Keeps.passPresents (h : Keeps r s) {t : Nat} : Keeps r (s.passPresents t).1 := by
  unfold State.passPresents
  refine foldl_fst_keeps h fun p c hp => ?_
  dsimp only
  split
  · exact hp
  · exact hp.putCanvas

theorem Keeps.driveClocks (h : Keeps r s) {n : Nat} : Keeps r (s.driveClocks n) := by
  unfold State.driveClocks
  refine .ite ?_ h
  extract_lets
  exact h.out

theorem Keeps.feedSap (h : Keeps r s) {n : Nat} : Keeps r (s.feedSap n) := by
  unfold State.feedSap
  extract_lets
  refine .ite h ?_
  split
  extract_lets
  refine .ite ?_ h.putEndpoint.out
  split
  exact h.putEndpoint.countSlips

theorem Keeps.feedSender (h : Keeps r s) {n : Nat} : Keeps r (s.feedSender n) := by
  unfold State.feedSender
  extract_lets
  refine .ite h ?_
  split
  extract_lets _ _ _ _ _ s1
  have hs1 : Keeps r s1 := h.putEndpoint
  exact .ite h.putEndpoint (.ite hs1.out.inc hs1)

theorem Keeps.feedHead (h : Keeps r s) {x0 : Nat} : Keeps r (s.feedHead x0) := by
  unfold State.feedHead
  extract_lets
  exact .ite h.out h

theorem Keeps.feedCapture (h : Keeps r s) {j : Nat} : Keeps r (s.feedCapture j) := by
  unfold State.feedCapture
  extract_lets
  exact .ite h h.putCapture

theorem Keeps.endStops (h : Keeps r s) : Keeps r s.endStops := by
  unfold State.endStops
  extract_lets _ s1
  have hs1 : Keeps r s1 := by
    unfold s1
    refine h.foldl fun _ _ h1 => ?_
    extract_lets s2
    have hs2 : Keeps r s2 := h1.modEndpoint
    exact .ite hs2.judgeSap hs2
  exact hs1.raiseIf

theorem Keeps.sampleFrame (h : Keeps r s) {saps : List (Nat × List Int)} {inputs : List (Nat × List (List Int))}
    : Keeps r (s.sampleFrame saps inputs) := by
  unfold State.sampleFrame
  extract_lets _ _ s1
  have hs1 : Keeps r s1 := h.takeSources
  refine .ite ?_ h
  split
  extract_lets s2 s3 s4 s5 s6 s7 s8 s9
  have hs2 : Keeps r s2 := (hs1.passPresents.fst ‹_›).foldl fun _ _ h1 => h1.stepChannel
  have hs3 : Keeps r s3 := hs2.foldl fun _ _ h1 => h1.driveClocks
  have hs4 : Keeps r s4 := hs3.foldl fun _ _ h1 => h1.feedSap
  have hs5 : Keeps r s5 := hs4.foldl fun _ _ h1 => h1.feedSender
  have hs6 : Keeps r s6 := hs5.foldl fun _ _ h1 => h1.feedHead
  have hs7 : Keeps r s7 := hs6.foldl fun _ _ h1 => h1.feedCapture
  have hs8 : Keeps r s8 := hs7.endStops
  have hs9 : Keeps r s9 := hs8.foldl fun _ _ h1 => h1.judgeSap
  exact hs9.lit rfl rfl

theorem Keeps.jumpAudio (h : Keeps r s) {d : Int} : Keeps r (s.jumpAudio d) := by
  unfold State.jumpAudio
  extract_lets _ _ _ _ _ _ _ s1 s2 s3 s4
  have hs1 : Keeps r s1 := h.lit rfl rfl
  have hs2 : Keeps r s2 := by
    unfold s2
    refine hs1.foldl fun _ _ h1 => ?_
    extract_lets
    exact .ite h1 h1.putChannel
  have hs3 : Keeps r s3 := by
    unfold s3
    refine hs2.foldl fun _ _ h1 => ?_
    extract_lets _ s5
    have hs5 : Keeps r s5 := h1.putEndpoint
    exact .ite hs5.countSlips hs5
  have hs4 : Keeps r s4 := hs3.foldl fun _ _ h1 => h1.modCanvas
  exact hs4.foldl fun _ _ h1 => h1.modPlayer

/-! ### IngestOps -/

theorem Keeps.takeStore (h : Keeps r s) {n : Nat} : Keeps r (s.takeStore n) := h.takePool.wr

theorem Keeps.countMotion (h : Keeps r s) : Keeps r s.countMotion := h.wr

theorem Keeps.takeFormat (h : Keeps r s) {n : Nat} {m : List Byte} : Keeps r (s.takeFormat n m) := by
  unfold State.takeFormat
  extract_lets s1 s2 s3
  have hs1 : Keeps r s1 := h.wr.wr
  have hs2 : Keeps r s2 := hs1.wr.wr
  have hs3 : Keeps r s3 := hs2.wr.wr
  exact hs3.wr

/-! ### Time -/

theorem Keeps.moveTimebase (h : Keeps r s) {units : Int} : Keeps r (s.moveTimebase units) := by
  unfold State.moveTimebase
  extract_lets
  exact h.lit rfl rfl

theorem Keeps.tick (h : Keeps r s) : Keeps r s.tick := by
  unfold State.tick
  extract_lets _ _ _ _ t t1
  have ht : Keeps r t := h.moveTimebase
  have ht1 : Keeps r t1 := ht.lit rfl rfl
  exact ht1.lit rfl rfl

theorem Keeps.writeClkOut (h : Keeps r s) {e : EntryDef} {k v : Nat} : Keeps r (s.writeClkOut e k v) := by
  unfold State.writeClkOut
  extract_lets t _ _ t1
  have ht : Keeps r t := h.wr
  have ht1 : Keeps r t1 := ht.lit rfl rfl
  exact ht1.lit rfl rfl

/-! ### RefOps -/

theorem Keeps.setPhase (h : Keeps r s) {n : Nat} {x : Int} : Keeps r (s.setPhase n x) := by
  unfold State.setPhase
  extract_lets
  exact h.wrInt.modRef

theorem Keeps.catchPhase (h : Keeps r s) {n : Nat} : Keeps r (s.catchPhase n) := h.setPhase

theorem Keeps.setHentis (h : Keeps r s) {st : Nat} : Keeps r (s.setHentis st) := by
  unfold State.setHentis
  extract_lets _ _ s1 s2
  have hs1 : Keeps r s1 := .ite (h.lit rfl rfl) h
  have hs2 : Keeps r s2 := hs1.wr.wrTime
  exact .ite h hs2.raise

theorem Keeps.setSelected (h : Keeps r s) {sel target : Nat} : Keeps r (s.setSelected sel target) := h.wr.wr

theorem Keeps.holdWord (h : Keeps r s) : Keeps r s.holdWord := h.lit rfl rfl

theorem Keeps.slewWord (h : Keeps r s) {t : Int} : Keeps r (s.slewWord t) := h.lit rfl rfl

theorem Keeps.loseReference (h : Keeps r s) {cur : Nat} : Keeps r (s.loseReference cur) := by
  unfold State.loseReference
  extract_lets _ s1
  have hs1 : Keeps r s1 := h.holdWord.setSelected
  split
  · exact hs1.setHentis.raise
  · extract_lets s2 s3 s4
    have hs2 : Keeps r s2 := hs1.lit rfl rfl
    have hs3 : Keeps r s3 := hs2.wrTime
    have hs4 : Keeps r s4 := hs3.inc.setHentis.slewWord
    exact hs4.raise

theorem Keeps.firstTo (h : Keeps r s) {x0 : Nat} {freq : Int} : Keeps r (s.firstTo x0 freq) := by
  unfold State.firstTo
  extract_lets _ s1
  have hs1 : Keeps r s1 := h.lit rfl rfl
  exact hs1.setSelected.setHentis

theorem Keeps.retargetTo (h : Keeps r s) {x0 : Nat} {freq w : Int} : Keeps r (s.retargetTo x0 freq w) := by
  unfold State.retargetTo
  extract_lets
  exact h.inc.wr.slewWord.raise

theorem Keeps.unbind (h : Keeps r s) : Keeps r s.unbind := by
  unfold State.unbind
  extract_lets _ s1
  have hs1 : Keeps r s1 := h.lit rfl rfl
  exact .ite hs1.setHentis hs1

theorem Keeps.slewTo (h : Keeps r s) {x0 : Nat} {freq w : Int} : Keeps r (s.slewTo x0 freq w) := by
  unfold State.slewTo
  extract_lets t t1
  have ht : Keeps r t := h.inc.wrTime
  have ht1 : Keeps r t1 := ht.wr.raise
  exact ht1.slewWord.unbind

theorem Keeps.switchTo (h : Keeps r s) {x0 : Nat} : Keeps r (s.switchTo x0) := by
  unfold State.switchTo
  extract_lets _ _ s1 _ s2
  have hs1 : Keeps r s1 := h.catchPhase
  have hs2 : Keeps r s2 := hs1.lit rfl rfl
  exact .ite hs2.firstTo (.ite hs2.retargetTo hs2.slewTo)

theorem Keeps.select (h : Keeps r s) : Keeps r s.select := by
  unfold State.select
  extract_lets _ _ _ _ _ _ take
  have htake : Keeps r take := .ite h.switchTo h.setSelected
  exact .ite h (.ite (.ite htake (.ite h.loseReference (.ite h.setSelected h))) (.ite htake h))

theorem Keeps.setQual (h : Keeps r s) {n q : Nat} : Keeps r (s.setQual n q) := .ite h h.wr.select

theorem Keeps.setCause (h : Keeps r s) {n bits edge : Nat} : Keeps r (s.setCause n bits edge) := by
  unfold State.setCause
  extract_lets _ s1 s2 s3
  have hs1 : Keeps r s1 := .ite h.modRef h
  have hs2 : Keeps r s2 := hs1.wr
  have hs3 : Keeps r s3 := .ite hs2.inc.raise hs2
  exact .ite hs2 (.ite hs3.setQual (.ite hs2.modRef.setQual hs2))

theorem Keeps.ignoreRef (h : Keeps r s) {n : Nat} : Keeps r (s.ignoreRef n) := by
  unfold State.ignoreRef
  refine .ite ?_ h
  extract_lets t
  have ht : Keeps r t := h.holdWord
  exact ht.lit rfl rfl

theorem Keeps.glitch (h : Keeps r s) {n interval : Nat} : Keeps r (s.glitch n interval) := by
  unfold State.glitch
  refine .ite ?_ h
  extract_lets _ s1 s2
  have hs1 : Keeps r s1 := h.modRef
  have hs2 : Keeps r s2 := hs1.inc.raise.ignoreRef
  exact .ite hs2.setCause hs2

theorem Keeps.judgeAlarm (h : Keeps r s) {n : Nat} {drift : Int} : Keeps r (s.judgeAlarm n drift) := by
  unfold State.judgeAlarm
  extract_lets
  exact .ite h.wr.modRef.raise (.ite h.wr.modRef.raise h)

theorem Keeps.takeDetected (h : Keeps r s) {n : Nat} {m : RefMeasure} : Keeps r (s.takeDetected n m) := by
  unfold State.takeDetected
  extract_lets _ t
  have ht : Keeps r t := h.modRef
  exact .ite ht.modRef.raiseIf ht

theorem Keeps.failActivity (h : Keeps r s) {n edge : Nat} : Keeps r (s.failActivity n edge) := by
  unfold State.failActivity
  extract_lets _ s1 s2
  have hs1 : Keeps r s1 := h.modRef
  have hs2 : Keeps r s2 := .ite hs1.wr hs1
  exact hs2.setCause

theorem Keeps.loseActivity (h : Keeps r s) {n : Nat} {vertical : Bool} {age : Nat}
    : Keeps r (s.loseActivity n vertical age) := by
  unfold State.loseActivity
  refine .ite ?_ h
  extract_lets _ s1
  have hs1 : Keeps r s1 := h.ignoreRef
  exact .ite hs1.failActivity hs1

theorem Keeps.setHealth (h : Keeps r s) {i v : Nat} : Keeps r (s.setHealth i v) := by
  unfold State.setHealth
  extract_lets _ s1
  have hs1 : Keeps r s1 := h.wr
  exact .ite (hs1.foldl fun _ _ h1 => h1.ignoreRef.failActivity) hs1

/-! ### LatchOps -/

theorem Keeps.setLegacy (h : Keeps r s) {status enable : EntryDef} {x0 : Nat}
    : Keeps r (s.setLegacy status enable x0) := by
  unfold State.setLegacy
  extract_lets _ s1
  have hs1 : Keeps r s1 := h.wr
  exact .ite hs1.fire hs1

theorem Keeps.joinGroup (h : Keeps r s) {port group source : Nat} : Keeps r (s.joinGroup port group source) :=
  .ite h.out h

theorem Keeps.startInput (h : Keeps r s) {n : Nat} : Keeps r (s.startInput n) := by
  unfold State.startInput
  extract_lets s1 s2 s3
  have hs1 : Keeps r s1 := h.wr
  have hs2 : Keeps r s2 := hs1.modInput
  have hs3 : Keeps r s3 := hs2.raise
  exact .ite hs3.joinGroup.joinGroup hs3

theorem Keeps.stopInput (h : Keeps r s) {n : Nat} : Keeps r (s.stopInput n) := by
  unfold State.stopInput
  extract_lets s1 s2
  have hs1 : Keeps r s1 := h.setHealth.dropClass.takeStage
  have hs2 : Keeps r s2 := hs1.takePool.wr
  exact hs2.dropStrips.wr.putInput

theorem Keeps.takeInput (h : Keeps r s) {n : Nat} : Keeps r (s.takeInput n) := by
  unfold State.takeInput
  extract_lets _ s1 s2
  have hs1 : Keeps r s1 := h.modInput
  have hs2 : Keeps r s2 := .ite hs1.stopInput hs1
  exact .ite hs2.takeStore.startInput hs2

theorem Keeps.enableInputs (h : Keeps r s) {c : Nat} : Keeps r (s.enableInputs c) :=
  h.foldl fun _ _ h1 => .ite h1.takeInput h1

theorem Keeps.dropClasses (h : Keeps r s) : Keeps r s.dropClasses := by
  unfold State.dropClasses
  refine h.foldl fun _ _ h1 => .ite ?_ h1
  extract_lets s1
  have hs1 : Keeps r s1 := .ite h1.takeInput h1
  exact hs1.dropClass

theorem Keeps.stopCanvas (h : Keeps r s) {c : Nat} : Keeps r (s.stopCanvas c) := by
  unfold State.stopCanvas
  extract_lets s1 s2 s3 s4
  have hs1 : Keeps r s1 := h.landPending.dropStrips
  have hs2 : Keeps r s2 := hs1.modCanvas
  have hs3 : Keeps r s3 := hs2.wr.clearLining
  have hs4 : Keeps r s4 := hs3.wr
  exact hs4.raise.dropClasses.dropLatencies.settlePlayers

theorem Keeps.judgeClasses (h : Keeps r s) {c t : Nat} {line0 : List (Nat × Nat)}
    : Keeps r (s.judgeClasses c t line0) :=
  h.dropClasses.foldl fun _ _ h1 => .ite h1.judgeClass h1

theorem Keeps.tellClasses (h : Keeps r s) {c : Nat} : Keeps r (s.tellClasses c) :=
  h.foldl fun _ _ h1 => .ite h1.tellClass h1

theorem Keeps.hostLatches (h : Keeps r s) {c : Nat} : Keeps r (s.hostLatches c) := by
  unfold State.hostLatches
  refine h.foldl fun _ _ h1 => ?_
  extract_lets s1
  have hs1 : Keeps r s1 := h1.leaveOld
  exact .ite hs1.hostLatch hs1

theorem Keeps.judgeLayers (h : Keeps r s) {c t : Nat} : Keeps r (s.judgeLayers c t) := by
  unfold State.judgeLayers
  extract_lets s1
  have hs1 : Keeps r s1 := h.foldl fun _ _ h1 => .ite h1.judgeLayer h1
  exact hs1.foldl fun _ _ h1 => h1.noteConverted

theorem Keeps.showCanvasState (h : Keeps r s) {c : Nat} : Keeps r (s.showCanvasState c) := by
  unfold State.showCanvasState
  extract_lets
  exact h.wr

theorem Keeps.notePresent (h : Keeps r s) {c : Nat} : Keeps r (s.notePresent c) := by
  unfold State.notePresent
  extract_lets
  exact h.modCanvas

theorem Keeps.judgeBase (h : Keeps r s) {c t : Nat} {line0 : List (Nat × Nat)} : Keeps r (s.judgeBase c t line0) := by
  unfold State.judgeBase
  extract_lets s1 s2 s3 s4 s5 s6 s' s'1
  have hs1 : Keeps r s1 := h.modCanvas
  have hs2 : Keeps r s2 := hs1.stepMixes
  have hs3 : Keeps r s3 := hs2.modCanvas
  have hs4 : Keeps r s4 := hs3.showCanvasState
  have hs5 : Keeps r s5 := hs4.enableInputs.judgeClasses
  have hs6 : Keeps r s6 := hs5.hostLatches.playersLatch
  have hs' : Keeps r s' := hs6.judgeLayers.tellClasses
  have hs'1 : Keeps r s'1 := hs'.judgeLining
  exact .ite hs6.tellClasses hs'1.inc.takeConfig.notePresent

theorem Keeps.countRunLatch (h : Keeps r s) {c : Nat} : Keeps r (s.countRunLatch c) := .ite h.modCanvas h

theorem Keeps.ownFlip (h : Keeps r s) {c : Nat} : Keeps r (s.ownFlip c) := by
  unfold State.ownFlip
  split
  · exact h.flipSlot
  · exact h

theorem Keeps.composeLatch (h : Keeps r s) {c : Nat} {tel : Telemetry} {line0 : List (Nat × Nat)}
    : Keeps r (s.composeLatch c tel line0) := by
  unfold State.composeLatch
  refine .ite ?_ h
  split
  extract_lets s1 s2 s3 s4 s5 s6 s7
  have hs1 : Keeps r s1 := h.ownFlip
  have hs2 : Keeps r s2 := hs1.modCanvas
  have hs3 : Keeps r s3 := .ite hs2.countRunLatch.landDue hs2
  have hs4 : Keeps r s4 := hs3.judgeGating
  have hs5 : Keeps r s5 := hs4.judgeOvercoat.noteImage
  have hs6 : Keeps r s6 := .ite hs5.judgeBase hs5
  have hs7 : Keeps r s7 := .ite hs6.latchTick hs6
  exact .ite hs2.stopCanvas hs7.dispatchSlot

theorem Keeps.completeSlot (h : Keeps r s) {c : Nat} : Keeps r (s.completeSlot c) := by
  unfold State.completeSlot
  extract_lets _ s1
  have hs1 : Keeps r s1 := h.putCanvas
  exact hs1.foldl fun _ _ h1 => .ite h1.setLegacy h1

theorem Keeps.wakeSegments (h : Keeps r s) {n : Nat} : Keeps r (s.wakeSegments n) := by
  unfold State.wakeSegments
  refine h.foldl fun _ _ h1 => ?_
  extract_lets seen
  exact h1.lit rfl rfl

theorem Keeps.bandArrives (h : Keeps r s) {n lines : Nat} {p : Raster} : Keeps r (s.bandArrives n lines p) := by
  unfold State.bandArrives
  refine .ite ?_ h
  extract_lets s1
  have hs1 : Keeps r s1 := h.modInput
  exact hs1.mapLayers.wakeSegments

theorem Keeps.bandBreaks (h : Keeps r s) {n line : Nat} : Keeps r (s.bandBreaks n line) :=
  .ite h.mapLayers.wakeSegments h

/-! ### Routes -/

theorem Keeps.putEntries (h : Keeps r s) {put : State → Nat → List Byte → State} {k : Nat} {l : List (List Byte)}
    (hput : ∀ u n d, Keeps r u → Keeps r (put u n d)) : Keeps r (putEntries put s k l) := by
  induction l generalizing s k with
  | nil => exact h
  | cons d l ih => exact ih (hput _ _ _ h)

theorem Keeps.joinRoute (h : Keeps r s) {x0 : Route} : Keeps r (s.joinRoute x0) := .ite h.joinGroup h

theorem Keeps.writeRoute (h : Keeps r s) {k : Nat} {b : List Byte} : Keeps r (s.writeRoute k b) := by
  unfold State.writeRoute
  extract_lets
  exact .ite h h.putRoute.putFlow.joinRoute

theorem Keeps.writeRoutes (h : Keeps r s) {sess : Nat} {data : List Byte}
    : Keeps r (s.writeRoutes sess data).state := by
  unfold State.writeRoutes
  extract_lets _ _ t
  have ht : Keeps r t := h.putEntries fun _ _ _ h1 => h1.writeRoute
  split
  · exact h.refused
  · exact ht.done

theorem Keeps.writeReserve (h : Keeps r s) {p v : Nat} : Keeps r (s.writeReserve p v).state := h.unless h.wr.done

theorem Keeps.countRoutes (h : Keeps r s) : Keeps r s.countRoutes := h.wr.wr

theorem Keeps.requestSwitch (h : Keeps r s) {sess : Nat} : Keeps r (s.requestSwitch sess).state := by
  unfold State.requestSwitch
  extract_lets
  split
  · exact h.raiseBy.refused
  · exact ((h.lit rfl rfl).countRoutes).done

theorem Keeps.takeEntry (h : Keeps r s) {o k : Nat} : Keeps r (s.takeEntry o k) := by
  unfold State.takeEntry
  extract_lets s1
  have hs1 : Keeps r s1 := h.lit rfl rfl
  exact hs1.putActive.putRtp.countRoutes

theorem Keeps.cleanAt (h : Keeps r s) {o : Nat} : Keeps r (s.cleanAt o) := by
  unfold State.cleanAt
  split
  · extract_lets
    exact .ite h.takeEntry.raise (.ite h.takeEntry.inc.raise h)
  · exact h

theorem Keeps.roughAt (h : Keeps r s) {o : Nat} : Keeps r (s.roughAt o) := by
  unfold State.roughAt
  split
  · extract_lets
    exact .ite h.takeEntry.inc.raise h
  · exact h

theorem Keeps.followAt (h : Keeps r s) {o t : Nat} : Keeps r (s.followAt o t) := by
  unfold State.followAt
  split
  · extract_lets
    exact .ite h.takeEntry.raise h
  · exact h

theorem Keeps.observe (h : Keeps r s) {k : Nat} {start : Bool} {lines : Nat} : Keeps r (s.observe k start lines) :=
  h.modFlow

theorem Keeps.dropPacket (h : Keeps r s) {p : Nat} : Keeps r (s.dropPacket p) := by
  unfold State.dropPacket
  extract_lets _ s1
  have hs1 : Keeps r s1 := h.inc.modDropped
  exact .ite hs1.putDropTime.raise hs1

theorem Keeps.sendRouted (h : Keeps r s) {x0 : Route} {seq full : Nat} {payload : List Byte}
    : Keeps r (s.sendRouted x0 seq full payload) := by
  unfold State.sendRouted
  extract_lets _ _ _ s1
  have hs1 : Keeps r s1 := h.putRtp.putRtp.putRtp
  exact hs1.foldl fun _ _ h1 => .ite h1.dropPacket (.ite h1.out.inc h1)

theorem Keeps.forward (h : Keeps r s) {port dest source udp seq : Nat} {start : Bool} {lines full : Nat}
    {payload : List Byte} : Keeps r (s.forward port dest source udp seq start lines full payload) := by
  unfold State.forward
  refine .ite ?_ h
  split
  · extract_lets s1
    have hs1 : Keeps r s1 := h.inc.observe
    exact .ite hs1.sendRouted hs1
  · exact h

theorem Keeps.loseFlow (h : Keeps r s) {k : Nat} : Keeps r (s.loseFlow k) := by
  unfold State.loseFlow
  extract_lets
  exact .ite h.putFlow.raise h

/-! ### Audio -/

theorem Keeps.settleDelay (h : Keeps r s) : Keeps r s.settleDelay := (h.lit rfl rfl).takePool

theorem Keeps.setDividers (h : Keeps r s) {n : Nat} : Keeps r (s.setDividers n) := by
  unfold State.setDividers
  refine .ite h ?_
  extract_lets
  exact h.wr.wr

theorem Keeps.enableSap (h : Keeps r s) {n : Nat} : Keeps r (s.enableSap n).state := by
  unfold State.enableSap
  refine .iteState h.done ?_
  extract_lets t _ t1
  have ht : Keeps r t := h.wr
  have ht1 : Keeps r t1 := ht.setDividers.putEndpoint.settleDelay
  split
  · exact h.refused
  · exact ht1.startAlone.judgeSap.done

theorem Keeps.disableSap (h : Keeps r s) {n : Nat} : Keeps r (s.disableSap n).state := by
  unfold State.disableSap
  extract_lets _ s1
  have hs1 : Keeps r s1 := h.wr.putEndpoint.settleDelay
  exact hs1.judgeSap.raiseIf.done

theorem Keeps.writeTxMap (h : Keeps r s) {n : Nat} {data : List Byte} : Keeps r (s.writeTxMap n data).state := by
  unfold State.writeTxMap
  extract_lets t
  have ht : Keeps r t := h.wrDom
  split
  · exact h.refused
  · exact ht.done

theorem Keeps.slaveFrame (h : Keeps r s) {n : Nat} {samples : List Int} : Keeps r (s.slaveFrame n samples) := by
  unfold State.slaveFrame
  extract_lets _ s1
  have hs1 : Keeps r s1 := h.modEndpoint
  refine .ite (.ite hs1 (.ite ?_ (.ite hs1.putEndpoint hs1.countError))) h
  split
  · exact hs1.putEndpoint.out
  · exact hs1.countError.out

theorem Keeps.loseClock (h : Keeps r s) {n : Nat} : Keeps r (s.loseClock n) := by
  unfold State.loseClock
  extract_lets _ _ _ s1
  have hs1 : Keeps r s1 := h.putEndpoint
  exact .ite hs1.inc.judgeSap.raise h

theorem Keeps.restoreClock (h : Keeps r s) {kind num : Nat} : Keeps r (s.restoreClock kind num) := by
  unfold State.restoreClock
  extract_lets _ _ _ s1
  have hs1 : Keeps r s1 := h.putEndpoint
  exact .ite ((Keeps.ite hs1.judgeSap hs1).raise) h

theorem Keeps.rateWindow (h : Keeps r s) {kind num rate : Nat} {pcm : Bool}
    : Keeps r (s.rateWindow kind num rate pcm) := by
  unfold State.rateWindow
  extract_lets _ _ _ _ s1 s2 _ s3 s4
  have hs1 : Keeps r s1 := h.putEndpoint
  have hs2 : Keeps r s2 := .ite hs1.wr hs1
  have hs3 : Keeps r s3 := hs2.raiseIf
  have hs4 : Keeps r s4 := hs3.modEndpoint
  exact .ite (.ite (.ite ((Keeps.ite hs4.judgeSap hs4).raise) hs3) (.ite hs2.modEndpoint.raiseIf hs2)) h

theorem Keeps.takePacket (h : Keeps r s) {k path seq : Nat} {frames : List (List Int)}
    : Keeps r (s.takePacket k path seq frames) := by
  unfold State.takePacket
  extract_lets
  exact .ite h.putEndpoint h

theorem Keeps.loseStreamPath (h : Keeps r s) {k path : Nat} : Keeps r (s.loseStreamPath k path) := by
  unfold State.loseStreamPath
  extract_lets _ _ _ _ _ s1
  have hs1 : Keeps r s1 := h.putEndpoint
  exact .ite hs1.raise h

theorem Keeps.writeChannels (h : Keeps r s) {sess : Nat} {data : List Byte}
    : Keeps r (s.writeChannels sess data).state := by
  unfold State.writeChannels
  extract_lets _ _ t
  have ht : Keeps r t := h.putEntries fun _ _ _ h1 => h1.putChannelEntry
  split
  · exact h.refused
  · exact ht.done

theorem Keeps.setStream (h : Keeps r s) {k : Nat} {b : List Byte} : Keeps r (s.setStream k b) :=
  .ite h (.ite h.putStreamEntry.putEndpoint h.putStreamEntry.putEndpoint)

theorem Keeps.writeStreams (h : Keeps r s) {sess : Nat} {data : List Byte}
    : Keeps r (s.writeStreams sess data).state := by
  unfold State.writeStreams
  extract_lets _ _ t
  have ht : Keeps r t := h.putEntries fun _ _ _ h1 => h1.setStream
  split
  · exact h.refused
  · exact ht.settleDelay.startAlone.done

theorem Keeps.writeHeadMap (h : Keeps r s) {data : List Byte} : Keeps r (s.writeHeadMap data).state := by
  unfold State.writeHeadMap
  extract_lets t
  have ht : Keeps r t := h.wrDom
  split
  · exact h.refused
  · exact .iteState h.refused ht.settleDelay.done

theorem Keeps.setMatrixRate (h : Keeps r s) {v : Nat} : Keeps r (s.setMatrixRate v) := by
  unfold State.setMatrixRate
  extract_lets s1
  have hs1 : Keeps r s1 := h.wr
  exact hs1.lit rfl rfl

theorem Keeps.scheduleStart (h : Keeps r s) {i : Nat} : Keeps r (s.scheduleStart i) := h.lit rfl rfl

theorem Keeps.triggerStart (h : Keeps r s) : Keeps r s.triggerStart := by
  unfold State.triggerStart
  extract_lets
  exact h.scheduleStart

theorem Keeps.triggerStop (h : Keeps r s) : Keeps r s.triggerStop := by
  unfold State.triggerStop
  extract_lets _ s1
  have hs1 : Keeps r s1 := h.lit rfl rfl
  exact hs1.foldl fun _ _ h1 => .ite h1.beginStop h1

theorem Keeps.startTogether (h : Keeps r s) {l : List (Nat × Nat)} {i mask : Nat}
    : Keeps r (s.startTogether l i mask) := by
  unfold State.startTogether
  extract_lets s1 _ s2
  have hs1 : Keeps r s1 := h.foldl fun _ _ h1 => h1.startEndpoint
  have hs2 : Keeps r s2 := hs1.wrTime.inc
  exact hs2.raise

theorem Keeps.startAudio (h : Keeps r s) : Keeps r s.startAudio := by
  unfold State.startAudio
  refine .ite ?_ h
  extract_lets _ _ _ s1
  have hs1 : Keeps r s1 := .ite ((h.lit rfl rfl).startTogether) h
  split
  · exact hs1
  · exact hs1.startTogether

/-! ### Commits -/

theorem Keeps.queueCommit (h : Keeps r s) {m : Commit} : Keeps r (s.queueCommit m) := by
  unfold State.queueCommit
  extract_lets s1 s2
  have hs1 : Keeps r s1 := h.lit rfl rfl
  have hs2 : Keeps r s2 := by
    unfold s2
    split <;> exact hs1.wrTime
  exact hs2.commitStates

theorem Keeps.receiveSingle (h : Keeps r s) {kind num sess udp : Nat} {retime : Option (List Byte)}
    : Keeps r (s.receiveSingle kind num sess udp retime).state :=
  h.queueCommit.waits

theorem Keeps.receiveGroup (h : Keeps r s) {sess udp : Nat} : Keeps r (s.receiveGroup sess udp).state :=
  h.queueCommit.waits

theorem Keeps.discard (h : Keeps r s) {kind num : Nat} : Keeps r (s.discard kind num).state := by
  unfold State.discard
  extract_lets s1 s2 _ _ s3
  have hs1 : Keeps r s1 := h.foldl fun _ _ h1 => h1.setShadow
  have hs2 : Keeps r s2 := hs1.foldl fun _ _ h1 => h1.setDomShadow
  have hs3 : Keeps r s3 := hs2.foldl fun _ _ h1 => h1.putTileShadow
  exact .iteState ((hs3.foldl fun _ _ h1 => h1.putCalibShadow).done) hs2.done

theorem Keeps.refuseCommit (h : Keeps r s) {m : Commit} {x0 : Refuse} : Keeps r (s.refuseCommit m x0) := by
  unfold State.refuseCommit
  extract_lets s1 s2 s3
  have hs1 : Keeps r s1 := by
    unfold s1
    split <;> exact h.inc
  have hs2 : Keeps r s2 := hs1.raiseBy
  have hs3 : Keeps r s3 := hs2.noteRefusal
  exact .ite hs3.raiseBy (.ite hs3 hs3.abort)

theorem Keeps.tellDegraded (h : Keeps r s) {m : Commit} {c : Nat} : Keeps r (s.tellDegraded m c) := by
  unfold State.tellDegraded
  extract_lets v
  refine h.foldl fun _ _ h1 => ?_
  extract_lets
  split
  · exact h1.raiseIf
  · exact h1

theorem Keeps.supersede (h : Keeps r s) {kind num : Nat} : Keeps r (s.supersede kind num) := by
  unfold State.supersede
  split
  · extract_lets s1
    have hs1 : Keeps r s1 := .ite h.inc h.inc
    exact hs1.raise
  · exact h

theorem Keeps.pend (h : Keeps r s) {m : Commit} {kind num aim land : Nat} : Keeps r (s.pend m kind num aim land) := by
  unfold State.pend
  extract_lets s1 _ _ _ s2 s3
  have hs1 : Keeps r s1 := h.supersede
  have hs2 : Keeps r s2 := hs1.lit rfl rfl
  have hs3 : Keeps r s3 := hs2.stampCommit
  exact .ite hs3.wr hs3.wr

theorem Keeps.noteLate (h : Keeps r s) {k n aim land : Nat} : Keeps r (s.noteLate k n aim land) :=
  .ite ((Keeps.ite h.inc h.inc).raise) h

theorem Keeps.acceptSingle (h : Keeps r s) {m : Commit} : Keeps r (s.acceptSingle m) := by
  unfold State.acceptSingle
  extract_lets _ _ s1 s2
  have hs1 : Keeps r s1 := h.pend
  have hs2 : Keeps r s2 := hs1.raise
  refine .ite ?_ ?_
  · split
    · extract_lets s3
      have hs3 : Keeps r s3 := hs2.putTiming.landPending
      exact (hs3.foldl fun _ _ h1 => h1.takeFifo).endRetime
    · exact hs1.landPending
  · split
    · exact h.pend.noteLate.startRetime
    · exact h.pend.noteLate

theorem Keeps.acceptGroup (h : Keeps r s) {m : Commit} : Keeps r (s.acceptGroup m) := by
  unfold State.acceptGroup
  split
  · exact h
  · extract_lets _ _ _ _ _ s1 s2 s3 s4
    have hs1 : Keeps r s1 := h.wr.wrTime
    have hs2 : Keeps r s2 := hs1.wr
    have hs3 : Keeps r s3 := hs2.wr
    have hs4 : Keeps r s4 := .ite hs1 (.ite hs3.inc.raise hs3)
    refine hs4.foldl fun _ _ h1 => .ite ?_ h1.pend.landPending
    extract_lets
    exact h1.pend

theorem Keeps.raiseTargets (h : Keeps r s) : Keeps r s.raiseTargets := h.noteWanted.setTargets

theorem Keeps.applyDeferred (h : Keeps r s) : Keeps r s.applyDeferred := by
  unfold State.applyDeferred
  extract_lets _ s'
  have hs' : Keeps r s' := h.foldl fun _ _ h1 => h1.endHold
  exact hs'.lit rfl rfl

theorem Keeps.acknowledge (h : Keeps r s) : Keeps r s.acknowledge := by
  unfold State.acknowledge
  split
  · exact h
  · refine .ite ?_ h
    extract_lets __src s1 _ s2 s3 s4 s5 s6
    have h__src : Keeps r __src := h.actBy
    have hs1 : Keeps r s1 := h__src.lit rfl rfl
    have hs2 : Keeps r s2 := hs1.foldl fun _ _ h1 => h1.tellDegraded
    have hs3 : Keeps r s3 := .ite hs2.acceptGroup hs2.acceptSingle
    have hs4 : Keeps r s4 := hs3.takeBuffers.foldl fun _ _ h1 => h1.takeWriteBack
    have hs5 : Keeps r s5 := hs4.raiseTargets.inUse
    have hs6 : Keeps r s6 := by
      unfold s6
      split
      · exact hs1.refuseCommit
      · exact .ite hs5.respond hs5
    exact hs6.actBy.applyDeferred.commitStates

/-! ### HostPlayers -/

theorem Keeps.enableSurface (h : Keeps r s) {n : Nat} : Keeps r (s.enableSurface n).state := by
  unfold State.enableSurface
  refine .iteState h.done ?_
  split
  · exact h.refused
  · extract_lets
    exact h.wr.takePool.judgeHost.tellAspm.done

theorem Keeps.disableSurface (h : Keeps r s) {n : Nat} : Keeps r (s.disableSurface n).state := by
  unfold State.disableSurface
  extract_lets _ s1
  have hs1 : Keeps r s1 := h.wr.takePool.wr
  exact hs1.putHost.judgeHost.tellAspm.done

theorem Keeps.flip (h : Keeps r s) {n b : Nat} : Keeps r (s.flip n b).state := by
  unfold State.flip
  split
  · exact h.refused
  · extract_lets _ s1
    have hs1 : Keeps r s1 := h.modHost
    exact hs1.wr.done

theorem Keeps.endFetch (h : Keeps r s) {n : Nat} {data : List Byte} : Keeps r (s.endFetch n data) := by
  unfold State.endFetch
  refine .ite ?_ h
  extract_lets _ s1
  have hs1 : Keeps r s1 := h.modHost
  exact hs1.wr

theorem Keeps.failFetch (h : Keeps r s) {n status : Nat} : Keeps r (s.failFetch n status) := .ite h.wr.raise h

theorem Keeps.releaseHost (h : Keeps r s) {n : Nat} : Keeps r (s.releaseHost n) := by
  unfold State.releaseHost
  extract_lets
  split
  · refine .ite ?_ h
    extract_lets s1 s2
    have hs1 : Keeps r s1 := h.putHost
    have hs2 : Keeps r s2 := hs1.inc.fire
    exact hs2.raise
  · exact h

theorem Keeps.writePlayerEnable (h : Keeps r s) {n v : Nat} : Keeps r (s.writePlayerEnable n v).state :=
  h.wr.applyPlayer.done

theorem Keeps.takeRequest (h : Keeps r s) {n v : Nat} : Keeps r (s.takeRequest n v) := by
  unfold State.takeRequest
  extract_lets s1 s2
  have hs1 : Keeps r s1 := h.wr.takePool
  have hs2 : Keeps r s2 := hs1.modPlayer
  exact hs2.judgePlayer

theorem Keeps.askPlay (h : Keeps r s) {n v : Nat} : Keeps r (s.askPlay n v).state := by
  unfold State.askPlay
  split
  · exact h.refused
  · exact h.takeRequest.done

theorem Keeps.askHalt (h : Keeps r s) {n v : Nat} : Keeps r (s.askHalt n v).state := h.wr.modPlayer.done

theorem Keeps.writeTransport (h : Keeps r s) {n v : Nat} : Keeps r (s.writeTransport n v).state :=
  .iteState h.askHalt h.askPlay

theorem Keeps.readBlocks (h : Keeps r s) {c : Clip} {frame : Nat} : Keeps r (s.readBlocks c frame) :=
  h.foldl fun _ _ h1 => h1.out

theorem Keeps.readFaultOf (h : Keeps r s) {n drive : Nat} : Keeps r (s.readFaultOf n drive) := by
  unfold State.readFaultOf
  extract_lets s1
  have hs1 : Keeps r s1 := h.modPlayer.judgePlayer
  exact hs1.raise

theorem Keeps.prefetched (h : Keeps r s) {n frame : Nat} {p : Raster} {audio : List Int} {ok : Bool}
    : Keeps r (s.prefetched n frame p audio ok) := by
  unfold State.prefetched
  extract_lets _ _ _ _ s1
  have hs1 : Keeps r s1 := h.readBlocks
  exact .ite (.ite hs1.putPlayer hs1.readFaultOf) h

/-! ### Ingest -/

theorem Keeps.applyInput (h : Keeps r s) {n : Nat} : Keeps r (s.applyInput n) := .ite h.takeInput h.modInput

theorem Keeps.enableInput (h : Keeps r s) {n : Nat} : Keeps r (s.enableInput n).state := by
  unfold State.enableInput
  refine .iteState h.done ?_
  split
  · exact h.refused
  · exact h.wr.takeStore.countMotion.applyInput.done

theorem Keeps.disableInput (h : Keeps r s) {n : Nat} : Keeps r (s.disableInput n).state :=
  .iteState h.wr.countMotion.applyInput.done h.done

theorem Keeps.acquire (h : Keeps r s) {n : Nat} : Keeps r (s.acquire n) := by
  unfold State.acquire
  extract_lets _ s1
  have hs1 : Keeps r s1 := h.modInput
  exact hs1.setHealth.raise

theorem Keeps.present (h : Keeps r s) {n : Nat} : Keeps r (s.present n) := by
  unfold State.present
  extract_lets
  exact h.wr.raise

theorem Keeps.degrade (h : Keeps r s) {n : Nat} {errors path : Bool} : Keeps r (s.degrade n errors path) := by
  unfold State.degrade
  extract_lets s1
  have hs1 : Keeps r s1 := h.modInput
  exact hs1.wr.raise

theorem Keeps.loseInput (h : Keeps r s) {n : Nat} : Keeps r (s.loseInput n) := by
  unfold State.loseInput
  extract_lets _ _ s1
  have hs1 : Keeps r s1 := h.putInput
  exact hs1.setHealth.raise

theorem Keeps.judgeHealth (h : Keeps r s) {n : Nat} {errors : Bool} : Keeps r (s.judgeHealth n errors) := by
  unfold State.judgeHealth
  extract_lets
  split
  · exact .ite h (.ite h.present h.degrade)
  · exact .ite h.degrade h
  · exact .ite h.present h
  · exact h

theorem Keeps.takeFrame (h : Keeps r s) {n : Nat} {p : Raster} {errors : Bool} {rtp : Nat}
    : Keeps r (s.takeFrame n p errors rtp) := by
  unfold State.takeFrame
  extract_lets _ _ _ _ s1
  have hs1 : Keeps r s1 := h.putInput
  exact hs1.inc.judgeHealth

theorem Keeps.damageFrame (h : Keeps r s) {n line cause : Nat} : Keeps r (s.damageFrame n line cause) := by
  unfold State.damageFrame
  extract_lets _ s1
  have hs1 : Keeps r s1 := h.putInput
  exact .ite h hs1.inc.raise.bandBreaks

theorem Keeps.noteFormat (h : Keeps r s) {n : Nat} {m : List Byte} : Keeps r (s.noteFormat n m) := h.wrDom.modInput

theorem Keeps.mismatch (h : Keeps r s) {n : Nat} {m : List Byte} : Keeps r (s.mismatch n m) := h.modInput.raise

theorem Keeps.adoptFormat {s t : State} (h : Keeps r t) {n : Nat} {m : List Byte} : Keeps r (s.adoptFormat t n m) := by
  unfold State.adoptFormat
  extract_lets _ u v w
  have hw : Keeps r w := h.takeStore.modInput.dropStrips.raise
  exact .ite hw.acquire hw

theorem Keeps.judgeFormat (h : Keeps r s) {n : Nat} {m : List Byte} : Keeps r (s.judgeFormat n m) := by
  unfold State.judgeFormat
  extract_lets _ t s1
  have ht : Keeps r t := h.takeFormat
  have hs1 : Keeps r s1 := h.mismatch
  exact .ite h.putInput (.ite (.ite (.ite ht.adoptFormat (.ite hs1.modInput.loseInput hs1)) h.mismatch) h)

theorem Keeps.endDamaged (h : Keeps r s) {n : Nat} {errors : Bool} {rtp : Nat}
    : Keeps r (s.endDamaged n errors rtp) := by
  unfold State.endDamaged
  extract_lets s1
  have hs1 : Keeps r s1 := h.modInput
  exact .ite hs1.degrade hs1

theorem Keeps.endInputFrame (h : Keeps r s) {n : Nat} {f : InputFrame} : Keeps r (s.endInputFrame n f) := by
  unfold State.endInputFrame
  extract_lets _ _ _ s1 s2 _ _ s3 _ _ s4 _ s5
  have hs1 : Keeps r s1 := h.wr.wrFlag
  have hs2 : Keeps r s2 := .ite hs1.noteFormat hs1
  have hs3 : Keeps r s3 := hs2.modInput
  have hs4 : Keeps r s4 := by
    unfold s4
    split
    · exact hs3.damageFrame
    · exact .ite hs3.damageFrame hs3
  have hs5 : Keeps r s5 := .ite hs4.endDamaged hs4.bandArrives.takeFrame.capture
  exact .ite ((Keeps.ite hs5.judgeFormat hs5).groupFrame) h

theorem Keeps.missInputFrame (h : Keeps r s) {n : Nat} : Keeps r (s.missInputFrame n) := by
  unfold State.missInputFrame
  extract_lets _ _ s1 s2
  have hs1 : Keeps r s1 := h.putInput
  have hs2 : Keeps r s2 := hs1.inc
  exact .ite (.ite hs2.loseInput hs2) h

theorem Keeps.loseSignal (h : Keeps r s) {n line : Nat} : Keeps r (s.loseSignal n line) := .ite h.damageFrame h

theorem Keeps.losePath (h : Keeps r s) {n path line : Nat} : Keeps r (s.losePath n path line) := by
  unfold State.losePath
  extract_lets _ _ s1 _ s2
  have hs1 : Keeps r s1 := h.wr
  have hs2 : Keeps r s2 := hs1.raiseIf
  exact .ite (.ite (.ite hs2.degrade hs2) hs2.damageFrame.modInput) h

theorem Keeps.findSignal (h : Keeps r s) {n : Nat} {m : List Byte} : Keeps r (s.findSignal n m) := .ite h.acquire h

theorem Keeps.closeGap (h : Keeps r s) {n : Nat} : Keeps r (s.closeGap n) := by
  unfold State.closeGap
  extract_lets
  exact h.damageFrame.modInput

theorem Keeps.bufferPacket (h : Keeps r s) {n : Nat} {k : RtpPacket} : Keeps r (s.bufferPacket n k) := by
  unfold State.bufferPacket
  extract_lets _ _ _ s1
  have hs1 : Keeps r s1 := h.putInput
  exact .ite h (hs1.foldl fun _ _ h1 => .ite h1.closeGap h1)

theorem Keeps.expirePackets (h : Keeps r s) {n : Nat} : Keeps r (s.expirePackets n) := by
  unfold State.expirePackets
  extract_lets
  exact .ite h h.putInput.inc

theorem Keeps.mergePacket (h : Keeps r s) {n path : Nat} {k : RtpPacket} : Keeps r (s.mergePacket n path k) := by
  unfold State.mergePacket
  extract_lets s1
  have hs1 : Keeps r s1 := h.expirePackets
  exact .ite hs1.putInput (.ite hs1 hs1.putInput.bufferPacket)

theorem Keeps.receiveRtp (h : Keeps r s) {n : Nat} {k : RtpPacket} : Keeps r (s.receiveRtp n k) := by
  unfold State.receiveRtp
  refine .ite ?_ h
  split
  · extract_lets _ _ _ s1 s2 s3 s4
    have hs1 : Keeps r s1 := h.inc
    have hs2 : Keeps r s2 := hs1.raiseIf
    have hs3 : Keeps r s3 := hs2.wr
    have hs4 : Keeps r s4 := hs3.modInput
    exact .ite hs4 (.ite hs4.mergePacket hs4.bufferPacket)
  · exact h

/-! ### Heads -/

theorem Keeps.enableHead (h : Keeps r s) {x0 : Nat} : Keeps r (s.enableHead x0).state := by
  unfold State.enableHead
  refine .iteState h.done ?_
  split
  · exact h.refused
  · extract_lets s1 s2
    have hs1 : Keeps r s1 := h.wr.takeBuffers.takeFifo
    have hs2 : Keeps r s2 := hs1.wr
    exact hs2.modHead.done

theorem Keeps.disableHead (h : Keeps r s) {x0 : Nat} : Keeps r (s.disableHead x0).state := by
  unfold State.disableHead
  extract_lets s1
  have hs1 : Keeps r s1 := h.wr
  exact .iteState hs1.modHead.done hs1.modHead.takeBuffers.takeFifo.done

theorem Keeps.flipLatch (h : Keeps r s) {x0 : Nat} : Keeps r (s.flipLatch x0) := by
  unfold State.flipLatch
  extract_lets _ _ _ s1 s2
  have hs1 : Keeps r s1 := h.modHead
  have hs2 : Keeps r s2 := .ite hs1.flipSlot hs1
  exact .ite hs2.landDue h

theorem Keeps.startOfBlank (h : Keeps r s) {x0 : Nat} : Keeps r (s.startOfBlank x0) := by
  unfold State.startOfBlank
  extract_lets
  exact .ite h.modHead.setLegacy h

theorem Keeps.lineMatch (h : Keeps r s) {x0 : Nat} : Keeps r (s.lineMatch x0) := by
  unfold State.lineMatch
  extract_lets
  exact .ite h.modHead.setLegacy h

theorem Keeps.underrun (h : Keeps r s) {x0 line x : Nat} : Keeps r (s.underrun x0 line x) := by
  unfold State.underrun
  extract_lets _ v _ s1 s2 s3
  have hs1 : Keeps r s1 := h.putHead
  have hs2 : Keeps r s2 := hs1.inc.wr
  have hs3 : Keeps r s3 := .ite hs2 hs2.out
  exact .ite hs3.setLegacy h

theorem Keeps.clearSafe (h : Keeps r s) {x0 : Nat} : Keeps r (s.clearSafe x0).state := by
  unfold State.clearSafe
  extract_lets
  exact (Keeps.ite h.putHead h).done

theorem Keeps.clearLegacy (h : Keeps r s) {e : EntryDef} {value : Nat} : Keeps r (s.clearLegacy e value).state :=
  h.wr.done

/-! ### HentisOps -/

theorem Keeps.runLoop (h : Keeps r s) {n : Nat} {freq : Int} : Keeps r (s.runLoop n freq) := by
  unfold State.runLoop
  extract_lets _ _ _ _ s1
  have hs1 : Keeps r s1 := h.wrInt
  split
  exact hs1.lit rfl rfl

theorem Keeps.takeMeasure (h : Keeps r s) {n : Nat} {m : RefMeasure} : Keeps r (s.takeMeasure n m) := by
  unfold State.takeMeasure
  extract_lets _ _ s1 s2 s3
  have hs1 : Keeps r s1 := h.takeDetected.modRef
  have hs2 : Keeps r s2 := hs1.wr.wrInt.wrInt
  have hs3 : Keeps r s3 := .ite hs2 hs2.setPhase
  exact hs3.judgeAlarm

theorem Keeps.loopMeasure (h : Keeps r s) {n : Nat} {m : RefMeasure} {cause : Nat}
    : Keeps r (s.loopMeasure n m cause) :=
  .ite h.runLoop (.ite h.slewWord (.ite h.wrInt h))

theorem Keeps.measure (h : Keeps r s) {n : Nat} {m : RefMeasure} : Keeps r (s.measure n m) := by
  unfold State.measure
  extract_lets _ _ _ s1 _ s2
  have hs1 : Keeps r s1 := h.takeMeasure
  have hs2 : Keeps r s2 := hs1.loopMeasure.setCause
  exact .ite (.ite hs2 hs2.select) h

theorem Keeps.qualify (h : Keeps r s) {n : Nat} : Keeps r (s.qualify n) := by
  unfold State.qualify
  extract_lets _ s1
  have hs1 : Keeps r s1 := h.modRef
  exact .ite hs1.wr.raise.setQual h

theorem Keeps.endSwitch (h : Keeps r s) {phase : Int} : Keeps r (s.endSwitch phase) := by
  unfold State.endSwitch
  extract_lets _ s1 _ _ s2
  have hs1 : Keeps r s1 := h.holdWord.setPhase
  have hs2 : Keeps r s2 := hs1.lit rfl rfl
  exact .ite hs2.setSelected.raise.select h

theorem Keeps.moveFrames (h : Keeps r s) {d ps : Int} : Keeps r (s.moveFrames d ps) := by
  unfold State.moveFrames
  extract_lets _ _ _ _ s1 s2 s3 s4
  have hs1 : Keeps r s1 := by
    unfold s1
    refine h.foldl fun _ _ h1 => ?_
    extract_lets
    refine .ite ?_ h1.putFtg
    split
    extract_lets s5
    have hs5 : Keeps r s5 := .ite h1.inc h1
    exact hs5.putFtg.wrTime
  have hs2 : Keeps r s2 := by
    unfold s2
    refine hs1.foldl fun _ _ h1 => ?_
    extract_lets
    exact .ite h1.putHead h1.putHead
  have hs3 : Keeps r s3 := hs2.foldl fun _ _ h1 => h1.modCanvas
  have hs4 : Keeps r s4 := hs3.foldl fun _ _ h1 => h1.modInput
  exact hs4.lit rfl rfl

theorem Keeps.movePhases (h : Keeps r s) {d : Int} : Keeps r (s.movePhases d) := by
  unfold State.movePhases
  extract_lets s1
  have hs1 : Keeps r s1 := h.foldl fun _ _ h1 => h1.catchPhase.modRef
  exact hs1.lit rfl rfl

theorem Keeps.alignDone (h : Keeps r s) {mode : Nat} {removed : Int} : Keeps r (s.alignDone mode removed) := by
  unfold State.alignDone
  extract_lets s1
  have hs1 : Keeps r s1 := .ite h.wr (.ite h.wr h)
  exact hs1.raise

theorem Keeps.jumpNow (h : Keeps r s) {mode : Nat} {d : Int} : Keeps r (s.jumpNow mode d) := by
  unfold State.jumpNow
  extract_lets t _ t1 t2 t3
  have ht : Keeps r t := h.moveTimebase
  have ht1 : Keeps r t1 := ht.lit rfl rfl
  have ht2 : Keeps r t2 := ht1.moveFrames.movePhases.jumpAudio
  have ht3 : Keeps r t3 := ht2.inc.wrInt
  exact ht3.alignDone

theorem Keeps.jumpIfDue (h : Keeps r s) : Keeps r s.jumpIfDue := by
  unfold State.jumpIfDue
  split
  · exact .ite h.jumpNow h
  · exact h

theorem Keeps.startJump (h : Keeps r s) {sess mode : Nat} {d : Int} {byPtp : Bool}
    : Keeps r (s.startJump sess mode d byPtp) := by
  unfold State.startJump
  extract_lets _ s1 s2
  have hs1 : Keeps r s1 := h.lit rfl rfl
  have hs2 : Keeps r s2 := hs1.raiseBy
  exact .ite hs2.jumpIfDue hs2

theorem Keeps.startSlew (h : Keeps r s) {sess : Nat} {d : Int} {byPtp : Bool} : Keeps r (s.startSlew sess d byPtp) := by
  unfold State.startSlew
  extract_lets _ s1
  have hs1 : Keeps r s1 := h.lit rfl rfl
  exact hs1.raiseBy

theorem Keeps.endSlew (h : Keeps r s) : Keeps r s.endSlew := by
  unfold State.endSlew
  refine .ite ?_ h
  extract_lets _ _ s1
  have hs1 : Keeps r s1 := h.lit rfl rfl
  exact hs1.movePhases.alignDone

theorem Keeps.lockHentis (h : Keeps r s) : Keeps r s.lockHentis := by
  unfold State.lockHentis
  extract_lets _ _ s1 _ s2
  have hs1 : Keeps r s1 := h.setHentis
  have hs2 : Keeps r s2 := hs1.lit rfl rfl
  split
  exact .ite (.ite hs2.startJump hs2) h

theorem Keeps.writeLoopMode (h : Keeps r s) {sess v : Nat} : Keeps r (s.writeLoopMode sess v).state := by
  unfold State.writeLoopMode
  extract_lets _ s1 s2 _ s3
  have hs1 : Keeps r s1 := h.wr.raiseBy
  have hs2 : Keeps r s2 := hs1.holdWord.setSelected
  have hs3 : Keeps r s3 := hs2.lit rfl rfl
  exact .iteState h.done (.iteState hs2.select.done hs3.setHentis.select.done)

theorem Keeps.writeSteerFreq (h : Keeps r s) {v : Nat} : Keeps r (s.writeSteerFreq v).state := h.unless h.wr.done

theorem Keeps.writeSteerPhase (h : Keeps r s) {sess v : Nat} : Keeps r (s.writeSteerPhase sess v).state :=
  h.unless h.startSlew.done

theorem Keeps.align (h : Keeps r s) {sess : Nat} : Keeps r (s.align sess).state := by
  unfold State.align
  split
  · refine .iteState h.startJump.done ?_
    extract_lets
    exact h.startSlew.done
  · exact h.refused

theorem Keeps.setTime (h : Keeps r s) {sess : Nat} : Keeps r (s.setTime sess).state := by
  unfold State.setTime
  extract_lets
  exact h.unless h.startJump.done

theorem Keeps.armFtg (h : Keeps r s) {n : Nat} : Keeps r (s.armFtg n) := by
  unfold State.armFtg
  extract_lets
  exact h.modFtg.wrTime

theorem Keeps.enableFtg (h : Keeps r s) {n : Nat} : Keeps r (s.enableFtg n).state := by
  unfold State.enableFtg
  split
  · exact h.refused
  · extract_lets _ s1
    have hs1 : Keeps r s1 := h.wr
    exact .iteState hs1.modFtg.done (.iteState hs1.done hs1.armFtg.done)

theorem Keeps.disableFtg (h : Keeps r s) {n : Nat} : Keeps r (s.disableFtg n).state := h.wr.modFtg.done

theorem Keeps.pulse (h : Keeps r s) {n t : Nat} : Keeps r (s.pulse n t) := by
  unfold State.pulse
  extract_lets _ s1
  have hs1 : Keeps r s1 := h.out
  exact .ite h (hs1.foldl fun _ _ h1 => h1.out)

theorem Keeps.startCanvas (h : Keeps r s) {c t : Nat} : Keeps r (s.startCanvas c t) := by
  unfold State.startCanvas
  extract_lets s1
  have hs1 : Keeps r s1 := h.modCanvas
  exact hs1.wr.raise

theorem Keeps.startCanvases (h : Keeps r s) {n t : Nat} : Keeps r (s.startCanvases n t) :=
  .ite (h.foldl fun _ _ h1 => h1.startCanvas) h

theorem Keeps.baseFrame (h : Keeps r s) {n t : Nat} : Keeps r (s.baseFrame n t) := by
  unfold State.baseFrame
  extract_lets _ s1 s2
  have hs1 : Keeps r s1 := h.modFtg
  have hs2 : Keeps r s2 := hs1.wrTime
  exact hs2.pulse.startCanvases

theorem Keeps.stopFtg (h : Keeps r s) {n : Nat} : Keeps r (s.stopFtg n) := by
  unfold State.stopFtg
  extract_lets s1 s2 s3
  have hs1 : Keeps r s1 := h.modFtg.wr
  have hs2 : Keeps r s2 := hs1.raise
  have hs3 : Keeps r s3 := hs2.foldl fun _ _ h1 => h1.stopHead.modHead
  exact hs3.foldl fun _ _ h1 => h1.stopCanvas.modCanvas

theorem Keeps.ftgFrame (h : Keeps r s) {n : Nat} : Keeps r (s.ftgFrame n) := by
  unfold State.ftgFrame
  extract_lets s1 _ _ _ s2
  have hs1 : Keeps r s1 := .ite h.jumpIfDue h
  have hs2 : Keeps r s2 := .ite hs1.inc hs1
  exact .ite (.ite hs1.stopFtg hs1.inc.baseFrame) (.ite hs2.wr.raise.baseFrame hs1)

theorem Keeps.takeMaster (h : Keeps r s) {n : Nat} : Keeps r (s.takeMaster n) := by
  unfold State.takeMaster
  split
  · exact h
  · extract_lets _ _ s1 s2 s3 s4
    have hs1 : Keeps r s1 := h.modRef
    have hs2 : Keeps r s2 := hs1.wr.wrInt.wrFlag
    have hs3 : Keeps r s3 := .ite hs2.wr hs2
    have hs4 : Keeps r s4 := hs3.raiseIf
    exact .ite hs4.setCause hs4

theorem Keeps.takeAnnounce (h : Keeps r s) {n : Nat} {a : Announce} : Keeps r (s.takeAnnounce n a) :=
  .ite h.modRef.takeMaster h

theorem Keeps.takeOffset (h : Keeps r s) {n : Nat} {offset : Int} : Keeps r (s.takeOffset n offset) := by
  unfold State.takeOffset
  extract_lets _ _ s1 _ s2
  have hs1 : Keeps r s1 := .ite h.glitch h
  have hs2 : Keeps r s2 := hs1.modRef
  exact hs2.wr.setPhase

theorem Keeps.takeDelay (h : Keeps r s) {n : Nat} {lag t4 : Int} : Keeps r (s.takeDelay n lag t4) := by
  unfold State.takeDelay
  extract_lets
  exact .ite h h.wr.modRef

theorem Keeps.sendDelayReq (h : Keeps r s) {n : Nat} : Keeps r (s.sendDelayReq n) := by
  unfold State.sendDelayReq
  extract_lets
  exact h.modRef.out

theorem Keeps.takeSync (h : Keeps r s) {n domain sender : Nat} {p : PtpSync} {delay : Option Int}
    : Keeps r (s.takeSync n domain sender p delay) := by
  unfold State.takeSync
  refine .ite ?_ h
  extract_lets s1 s2 s3
  have hs1 : Keeps r s1 := h.takeMaster
  have hs2 : Keeps r s2 := hs1.modRef
  have hs3 : Keeps r s3 := by
    unfold s3
    split
    · exact hs2
    · extract_lets _ s4
      have hs4 : Keeps r s4 := by
        unfold s4
        split
        · exact hs2.takeDelay
        · exact hs2
      exact .ite hs4.takeOffset hs4
  exact .ite hs1 hs3.sendDelayReq

/-! ### Composition -/

theorem Keeps.frameTiming (h : Keeps r s) {c : Nat} : Keeps r (s.frameTiming c) := by
  unfold State.frameTiming
  refine .ite ?_ h
  extract_lets s1
  have hs1 : Keeps r s1 := h.jumpIfDue
  exact .ite hs1.stopFtg hs1

theorem Keeps.armCanvas (h : Keeps r s) {c : Nat} : Keeps r (s.armCanvas c) := h.modCanvas

theorem Keeps.enableCanvas (h : Keeps r s) {c : Nat} : Keeps r (s.enableCanvas c).state := by
  unfold State.enableCanvas
  refine .iteState h.done ?_
  extract_lets on
  have hon : Keeps r on := h.wr
  split
  · exact h.refused
  · exact hon.armCanvas.setTargets.done

theorem Keeps.disableCanvas (h : Keeps r s) {c : Nat} : Keeps r (s.disableCanvas c).state := h.wr.modCanvas.done

theorem Keeps.deliver (h : Keeps r s) {c k : Nat} {d : List Byte} {x0 : Raster} : Keeps r (s.deliver c k d x0) := by
  unfold State.deliver
  split
  · extract_lets s1
    have hs1 : Keeps r s1 := h.inc.out
    exact hs1.foldl fun _ _ h1 => h1.out
  · exact h.capture
  · exact h

theorem Keeps.writeBack (h : Keeps r s) {c k : Nat} : Keeps r (s.writeBack c k) := by
  unfold State.writeBack
  extract_lets _ _ s1 _ s2
  have hs1 : Keeps r s1 := h.putCanvas
  have hs2 : Keeps r s2 := hs1.setWbState
  split
  extract_lets _ s3
  have hs3 : Keeps r s3 := hs2.modCanvas
  exact .ite (.ite hs1.setWbState.raiseIf (.ite hs3.deliver.inc.fire hs2.deliver)) h

theorem Keeps.overcoatPinTo (h : Keeps r s) {asserted : Bool} : Keeps r (s.overcoatPinTo asserted) :=
  .ite ((h.lit rfl rfl).wrFlag) h

theorem Keeps.clearLatch (h : Keeps r s) : Keeps r (s.clearLatch).state := (h.lit rfl rfl).done

theorem Keeps.countImages (h : Keeps r s) : Keeps r s.countImages := h.wr

theorem Keeps.writeDesc (h : Keeps r s) {sess : Nat} {d : List Byte} : Keeps r (s.writeDesc sess d).state := by
  unfold State.writeDesc
  extract_lets _ _ _ _ s1 s2
  have hs1 : Keeps r s1 := h.putImageDesc.putImageData.putImageCrc.putImageBad
  have hs2 : Keeps r s2 := hs1.wr.countImages
  split
  · exact h.refused
  · exact hs2.raiseIf.done

theorem Keeps.writeImage (h : Keeps r s) {sess : Nat} {data : List Byte} : Keeps r (s.writeImage sess data).state := by
  unfold State.writeImage
  extract_lets _ _ s1 s2
  have hs1 : Keeps r s1 := h.putImageData.putImageCrc.putImageBad
  have hs2 : Keeps r s2 := hs1.wr.countImages
  split
  split
  · exact h.refused
  · exact hs2.raise.done

theorem Keeps.liningDone (h : Keeps r s) {c : Nat} : Keeps r (s.liningDone c) := by
  unfold State.liningDone
  extract_lets _ _ full s1
  have hs1 : Keeps r s1 := h.putCanvas
  exact .ite (.ite h.putCanvas hs1.wr.inc.raise) h

theorem Keeps.rebuildLinings (h : Keeps r s) {mask : Nat} : Keeps r (s.rebuildLinings mask) := by
  unfold State.rebuildLinings
  refine h.foldl fun _ _ h1 => ?_
  extract_lets _ s1
  have hs1 : Keeps r s1 := h1.invalidateLining
  exact .ite hs1.modCanvas.wr hs1

/-! ### DramOps -/

theorem Keeps.setChannel (h : Keeps r s) {m v : Nat} : Keeps r (s.setChannel m v) := h.lit rfl rfl

theorem Keeps.loseOwner (h : Keeps r s) {k : Nat} : Keeps r (s.loseOwner k) := by
  unfold State.loseOwner
  extract_lets
  split
  · exact h.modCanvas
  · exact h.lit rfl rfl
  · exact h.setHealth.wr
  · exact h.modHost.judgeHost
  · exact h.setWbState
  · exact h.wr
  · exact h

theorem Stays.dropUnprotected (h : Stays r s) {all : Bool} : Stays r (s.dropUnprotected all) := by
  unfold State.dropUnprotected
  extract_lets _ u v w x y z
  have hu : Stays r u := h.emptied rfl rfl
  clear_value u
  have hv : Stays r v := hu.foldl fun _ _ h1 => h1.then (Keeps.refl _).modInput
  clear_value v
  have hw : Stays r w := hv.foldl fun _ _ h1 => h1.then (Keeps.refl _).modCanvas
  clear_value w
  have hx : Stays r x := hw.foldl fun _ _ h1 => h1.then (Keeps.refl _).putCapture
  clear_value x
  have hy : Stays r y := hx.foldl fun _ _ h1 => .ite (h1.then (Keeps.refl _).modHost.judgeHost) h1
  clear_value y
  have hz : Stays r z := hy.foldl fun _ _ h1 => h1.then (Keeps.refl _).modPlayer
  clear_value z
  exact hz.then ((Keeps.refl _).lit rfl rfl)

theorem Keeps.reallocate (h : Keeps r s) {all : Bool} : Keeps r (s.reallocate all) := by
  unfold State.reallocate
  extract_lets _ _ s1 s2
  have hs1 : Keeps r s1 := h.lit rfl rfl
  have hs2 : Keeps r s2 := hs1.foldl fun _ _ h1 => .ite (h1.lit rfl rfl) h1.loseOwner.raise
  exact hs2.wr

theorem Keeps.spoilHeads (h : Keeps r s) : Keeps r s.spoilHeads := by
  unfold State.spoilHeads
  refine h.foldl fun _ _ h1 => ?_
  split
  · exact .ite h1.modCanvas h1
  · exact h1

theorem Stays.loseChannel (h : Stays r s) {m : Nat} : Stays r (s.loseChannel m) := by
  unfold State.loseChannel
  extract_lets _ s1 s2 s3
  have hs1 : Stays r s1 := h.then (Keeps.refl _).setChannel.wr
  have hs2 : Stays r s2 := hs1.then (Keeps.refl _).raise
  have hs3 : Stays r s3 := hs2.then (Keeps.refl _).raise
  exact .ite (.ite (hs3.dropUnprotected.then (Keeps.refl _).reallocate) hs3)
    (.ite (((hs2.then (Keeps.refl _).raise.spoilHeads).dropUnprotected).then (Keeps.refl _).reallocate) hs2)

theorem Keeps.startRemap (h : Keeps r s) {m row : Nat} : Keeps r (s.startRemap m row) := h.lit rfl rfl

theorem Keeps.endRemap (h : Keeps r s) {m row : Nat} : Keeps r (s.endRemap m row) := by
  unfold State.endRemap
  extract_lets _ s1
  have hs1 : Keeps r s1 := h.lit rfl rfl
  exact hs1.raise

/-! ### ResilOps -/

theorem Keeps.putWeight (h : Keeps r s) {k : Nat} {w : Weight} : Keeps r (s.putWeight k w) := h.lit rfl rfl

theorem Keeps.setTaken (h : Keeps r s) {k v : Nat} : Keeps r (s.setTaken k v) := h.lit rfl rfl

theorem Keeps.setIdle (h : Keeps r s) {k : Nat} {v : Bool} : Keeps r (s.setIdle k v) := h.lit rfl rfl

theorem Keeps.emptyEngine (h : Keeps r s) {e : Nat} : Keeps r (s.emptyEngine e) := by
  unfold State.emptyEngine
  refine h.foldl fun _ _ h1 => ?_
  extract_lets
  split
  · exact h1
  · extract_lets s1
    have hs1 : Keeps r s1 := h1.modEngine
    exact .ite hs1.pushFront.inc.raise hs1.modStrip

theorem Keeps.loseEcho (h : Keeps r s) {unit : Nat} : Keeps r (s.loseEcho unit) := h.foldl fun _ _ h1 => h1.modHead.wr

theorem Stays.takeOut (h : Stays r s) {kind unit : Nat} : Stays r (s.takeOut kind unit).1 := by
  unfold State.takeOut
  split
  · exact (h.then (Keeps.refl _).emptyEngine.modEngine).pair
  · split
    · exact (h.then (Keeps.refl _).setTaken).pair
    · exact (h.then (Keeps.refl _).setIdle).pair
  · exact (h.then (Keeps.refl _).setIdle).pair
  · exact (h.then (Keeps.refl _).setIdle).pair
  · exact h.loseChannel.pair
  · exact h.then (Keeps.refl _).retireLane
  · exact h.then (Keeps.refl _).retireLane
  · exact (h.then (Keeps.refl _).loseEcho).pair
  · exact (h.then (Keeps.refl _).setIdle).pair
  · exact h

theorem Keeps.bringIn (h : Keeps r s) {kind unit spare : Nat} : Keeps r (s.bringIn kind unit spare) := by
  unfold State.bringIn
  split
  · exact h.modEngine
  · extract_lets
    exact .ite h.setTaken h.setIdle
  · exact h.setTaken.setIdle
  · extract_lets _ s1
    have hs1 : Keeps r s1 := h.setTaken
    exact hs1.setTaken.setIdle
  · exact h.setTaken.setIdle
  · exact h

theorem Keeps.loseBank (h : Keeps r s) : Keeps r s.loseBank := by
  unfold State.loseBank
  extract_lets s1
  have hs1 : Keeps r s1 := h.lit rfl rfl
  exact hs1.foldl fun _ _ h1 => h1.invalidateLining

theorem Keeps.recordPatch (h : Keeps r s) {kind unit spare : Nat} {noSpare : Bool} {cause weight : Nat}
    : Keeps r (s.recordPatch kind unit spare noSpare cause weight) := by
  unfold State.recordPatch
  split
  · exact (h.lit rfl rfl).raise
  · extract_lets _ _ s1
    have hs1 : Keeps r s1 := h.lit rfl rfl
    exact hs1.raiseIf

theorem Keeps.noteExhausted (h : Keeps r s) {kind before : Nat} : Keeps r (s.noteExhausted kind before) := by
  unfold State.noteExhausted
  extract_lets _ _ s1
  have hs1 : Keeps r s1 := h.lit rfl rfl
  exact hs1.raiseIf

theorem Keeps.reportRetired (h : Keeps r s) {kind unit : Nat} {idle : Bool} {spare : Option Nat}
    {cause freeBefore : Nat} : Keeps r (s.reportRetired kind unit idle spare cause freeBefore) := by
  unfold State.reportRetired
  extract_lets _ _ _ s1 s2 _ _ s3 s4 s5 _ s6 s7
  have hs1 : Keeps r s1 := h.lit rfl rfl
  have hs2 : Keeps r s2 := hs1.putWeight.countEngines
  have hs3 : Keeps r s3 := hs2.lit rfl rfl
  have hs4 : Keeps r s4 := .ite hs3.loseBank hs3
  have hs5 : Keeps r s5 := hs4.raise
  have hs6 : Keeps r s6 := by
    unfold s6
    split
    · extract_lets __src s8
      have h__src : Keeps r __src := hs5.raise
      have hs8 : Keeps r s8 := h__src.lit rfl rfl
      exact .ite hs8.raise hs8
    · exact hs5.raiseIf
  have hs7 : Keeps r s7 := hs6.noteExhausted
  exact hs7.recordPatch

theorem Stays.retire (h : Stays r s) {kind unit cause : Nat} : Stays r (s.retire kind unit cause) := by
  unfold State.retire
  extract_lets idle free spare
  clear_value spare
  cases spare with
  | some x =>
    refine .ite (.ite (h.then (Keeps.refl _).reportRetired) h) (.ite ?_ ?_)
    · extract_lets u v
      have hu : Stays r u := h.then (Keeps.refl _).bringIn.noteExhausted
      have hv : Stays r v := .ite (hu.then (Keeps.refl _).startRemap) hu
      exact hv.then ((Keeps.refl _).lit rfl rfl)
    · exact h.takeOut.then (Keeps.refl _).bringIn.reportRetired
  | none => exact h.takeOut.then (Keeps.refl _).reportRetired

theorem Keeps.endCopy (h : Keeps r s) {kind unit : Nat} : Keeps r (s.endCopy kind unit) := by
  unfold State.endCopy
  extract_lets _ _ s1 s2
  have hs1 : Keeps r s1 := h.lit rfl rfl
  have hs2 : Keeps r s2 := .ite hs1.setIdle hs1
  split
  · exact hs2.reportRetired
  · exact h

theorem Stays.failIncoming (h : Stays r s) {spare unit : Nat} : Stays r (s.failIncoming spare unit) := by
  unfold State.failIncoming
  extract_lets _ _ s1 s2
  have hs1 : Stays r s1 := h.then ((Keeps.refl _).lit rfl rfl)
  have hs2 : Stays r s2 := hs1.then (Keeps.refl _).setTaken.reportRetired
  exact hs2.retire

theorem Stays.permanentOne (h : Stays r s) {kind unit cause : Nat} : Stays r (s.permanentOne kind unit cause) := by
  unfold State.permanentOne
  extract_lets
  exact .ite h (.ite (.ite (h.then (Keeps.refl _).putWeight.raise) (.ite (h.then (Keeps.refl _).putWeight) h))
    (.ite h (.ite h.failIncoming (.ite (h.then (Keeps.refl _).putWeight.raise) h.retire))))

theorem Stays.permanent (h : Stays r s) {kind unit cause : Nat} : Stays r (s.permanent kind unit cause) := by
  unfold State.permanent
  extract_lets
  exact .ite h.permanentOne (.ite h.permanentOne (.ite h.permanentOne h.permanentOne))

theorem Keeps.noteFault (h : Keeps r s) {u : Nat} : Keeps r (s.noteFault u) := by
  unfold State.noteFault
  extract_lets
  exact h.putWeight

theorem Stays.fault (h : Stays r s) {kind unit : Nat} : Stays r (s.fault kind unit) := by
  unfold State.fault
  extract_lets _ s1 _ _ _ _ s2 s3
  have hs1 : Stays r s1 := h.then (Keeps.refl _).noteFault
  have hs2 : Stays r s2 := hs1.then (Keeps.refl _).putWeight
  have hs3 : Stays r s3 := hs2.then (Keeps.refl _).raiseIf
  exact .ite h (.ite hs3.permanent hs3)

theorem Stays.hardFault (h : Stays r s) {kind unit cause : Nat} : Stays r (s.hardFault kind unit cause) :=
  (h.then (Keeps.refl _).noteFault).permanent

theorem Stays.rowCorrected (h : Stays r s) {kind unit : Nat} : Stays r (s.rowCorrected kind unit) := by
  unfold State.rowCorrected
  extract_lets _ _ _ _ s1
  have hs1 : Stays r s1 := h.then ((Keeps.refl _).lit rfl rfl)
  exact .ite hs1.hardFault (hs1.then (Keeps.refl _).noteFault)

theorem Keeps.decayWeight (h : Keeps r s) {u : Nat} : Keeps r (s.decayWeight u) := by
  unfold State.decayWeight
  extract_lets
  exact .ite h.putWeight h

theorem Stays.releaseHeld (h : Stays r s) : Stays r s.releaseHeld := by
  unfold State.releaseHeld
  refine h.foldl fun _ _ h1 => ?_
  extract_lets _ _ _ s1
  have hs1 : Stays r s1 := h1.then (Keeps.refl _).putWeight
  exact .ite h1 (.ite hs1.permanent hs1)

theorem Keeps.returnUnit (h : Keeps r s) {kind unit : Nat} : Keeps r (s.returnUnit kind unit) := by
  unfold State.returnUnit
  extract_lets _ _ s1 s2 _ s3 s4
  have hs1 : Keeps r s1 := h.lit rfl rfl
  have hs2 : Keeps r s2 := hs1.putWeight
  have hs3 : Keeps r s3 := hs2.setChannel
  have hs4 : Keeps r s4 := .ite hs3.wr hs3
  split
  · exact hs2.modEngine.countEngines
  · split
    · exact hs2.setTaken
    · exact hs2.setIdle
  · exact hs2.setIdle
  · exact hs2.setIdle
  · exact hs2.lit rfl rfl
  · exact hs4.wr
  · exact hs2.setLane
  · exact hs2.setLane
  · exact .ite hs2.putSlot hs2
  · exact hs2.setIdle
  · exact hs2

/-! ### Lanes -/

theorem Keeps.startPort (h : Keeps r s) {p : Nat} : Keeps r (s.startPort p) := by
  unfold State.startPort
  extract_lets s1 s2
  have hs1 : Keeps r s1 := h.wr
  have hs2 : Keeps r s2 := hs1.foldl fun _ _ h1 => .ite h1.trainLane.modLane h1
  exact hs2.judgePortState

theorem Keeps.portUp (h : Keeps r s) {p : Nat} : Keeps r (s.portUp p).state := by
  unfold State.portUp
  split
  · exact h.refused
  · exact h.startPort.done

theorem Keeps.portDown (h : Keeps r s) {p : Nat} : Keeps r (s.portDown p).state := by
  unfold State.portDown
  extract_lets _ s1 s2
  have hs1 : Keeps r s1 := h.wr
  have hs2 : Keeps r s2 := hs1.foldl fun _ _ h1 => .ite h1 h1.setLane
  exact hs2.judgePortState.done

theorem Keeps.writeSpare (h : Keeps r s) {l v : Nat} : Keeps r (s.writeSpare l v).state := by
  unfold State.writeSpare
  split
  · exact h.refused
  · exact h.wr.modUlane.done

theorem Keeps.writeGeneration (h : Keeps r s) {p v : Nat} : Keeps r (s.writeGeneration p v).state := h.unless h.wr.done

theorem Keeps.writePortType (h : Keeps r s) {p v : Nat} : Keeps r (s.writePortType p v).state := by
  unfold State.writePortType
  extract_lets
  exact h.unless h.reformPort.wr.done

theorem Keeps.writeFirstLane (h : Keeps r s) {p v : Nat} : Keeps r (s.writeFirstLane p v).state := h.reformPort.wr.done

theorem Stays.laneFault (h : Stays r s) {l : Nat} : Stays r (s.laneFault l) := .ite h.fault h.fault

theorem Keeps.restartLane (h : Keeps r s) {l cause : Nat} : Keeps r (s.restartLane l cause) := by
  unfold State.restartLane
  split
  · split
    · exact h.takeOver
    · exact h.noSpareLane.trainLane.judgePortState
  · exact h.trainLane.judgeOwner

theorem Stays.loseLane (h : Stays r s) {l cause : Nat} : Stays r (s.loseLane l cause) := by
  unfold State.loseLane
  refine .ite ?_ h
  extract_lets s1 s2
  have hs1 : Stays r s1 := .ite (h.then (Keeps.refl _).inc) h
  have hs2 : Stays r s2 := hs1.then (Keeps.refl _).raise
  exact (hs2.then (Keeps.refl _).restartLane).laneFault

theorem Keeps.agreeLink (h : Keeps r s) {l : Nat} {f : LinkFound} : Keeps r (s.agreeLink l f) := by
  unfold State.agreeLink
  extract_lets _ _ _ _ _ _ s1 s2
  have hs1 : Keeps r s1 := h.wr
  have hs2 : Keeps r s2 := hs1.modGroup
  exact .ite hs2.out hs2

theorem Keeps.endTrain (h : Keeps r s) {l : Nat} {f : LinkFound} : Keeps r (s.endTrain l f) := by
  unfold State.endTrain
  extract_lets s1
  have hs1 : Keeps r s1 := .ite h.takeTraining h.agreeLink
  exact hs1.adaptLane

theorem Keeps.laneUp (h : Keeps r s) {l : Nat} {f : LinkFound} : Keeps r (s.laneUp l f) := by
  unfold State.laneUp
  refine .ite ?_ h
  extract_lets s1 s2
  have hs1 : Keeps r s1 := h.setLane.modLane
  have hs2 : Keeps r s2 := hs1.endTrain.raise
  exact hs2.judgeOwner

theorem Stays.failTraining (h : Stays r s) {l cause : Nat} : Stays r (s.failTraining l cause) := by
  unfold State.failTraining
  extract_lets _ _ s1 s2
  have hs1 : Stays r s1 := h.then (Keeps.refl _).trainLane.modLane
  have hs2 : Stays r s2 := hs1.then (Keeps.refl _).raise.judgeOwner
  exact .ite (.ite (.ite hs2.hardFault hs2.hardFault) hs2) h

theorem Stays.degradeLane (h : Stays r s) {l : Nat} : Stays r (s.degradeLane l) := by
  unfold State.degradeLane
  extract_lets _ s1 s2 s3
  have hs1 : Stays r s1 := h.then (Keeps.refl _).modLane
  have hs2 : Stays r s2 := hs1.then (Keeps.refl _).raise
  have hs3 : Stays r s3 := by
    unfold s3
    split
    · split
      · exact hs2.then (Keeps.refl _).takeOver
      · exact hs2.then (Keeps.refl _).noSpareLane.judgePortState
    · exact hs2.then (Keeps.refl _).judgeOwner
  exact .ite hs3.laneFault h

theorem Keeps.recoverLane (h : Keeps r s) {l : Nat} : Keeps r (s.recoverLane l) := by
  unfold State.recoverLane
  extract_lets _ s1
  have hs1 : Keeps r s1 := h.setLane
  exact .ite hs1.raise.judgeOwner h

theorem Keeps.badCodewords (h : Keeps r s) {p count : Nat} : Keeps r (s.badCodewords p count) := by
  unfold State.badCodewords
  refine .ite ?_ h
  extract_lets _ s1 s2
  have hs1 : Keeps r s1 := h.inc.raise
  have hs2 : Keeps r s2 := hs1.lit rfl rfl
  exact hs2.foldl fun _ _ h1 => h1.modUlane

theorem Keeps.countCorrected (h : Keeps r s) {p l : Nat} {x0 : LaneReading} : Keeps r (s.countCorrected p l x0) := by
  unfold State.countCorrected
  extract_lets s1 s2
  have hs1 : Keeps r s1 := h.inc.inc
  have hs2 : Keeps r s2 := hs1.modUlane
  exact hs2.wr

theorem Keeps.countErrors (h : Keeps r s) {l : Nat} {x0 : LaneReading} : Keeps r (s.countErrors l x0) := by
  unfold State.countErrors
  refine .ite (.ite h.inc h) (.ite h.inc ?_)
  split
  · exact .ite h.countCorrected h
  · exact h

theorem Keeps.adaptUpdate (h : Keeps r s) {l : Nat} {x0 : LaneReading} : Keeps r (s.adaptUpdate l x0) := by
  unfold State.adaptUpdate
  extract_lets _ s1
  have hs1 : Keeps r s1 := .ite h.adaptLane h
  exact hs1.updateTx.countErrors

theorem Keeps.updateMargin (h : Keeps r s) {l snr high : Nat} {x0 : LaneReading}
    : Keeps r (s.updateMargin l snr high x0) := by
  unfold State.updateMargin
  refine .ite ?_ h
  extract_lets _ s1 s2
  have hs1 : Keeps r s1 := .ite h.wr.wr.wr.wr h.wr.wr
  have hs2 : Keeps r s2 := hs1.adaptUpdate
  exact .ite hs2.modLane hs2

theorem Keeps.surveySpare (h : Keeps r s) {l : Nat} : Keeps r (s.surveySpare l) := by
  unfold State.surveySpare
  extract_lets
  exact .ite h.modUlane.raise h

theorem Keeps.receiveFrame (h : Keeps r s) {p length : Nat} {fcs pause : Bool}
    : Keeps r (s.receiveFrame p length fcs pause) :=
  .ite (.ite h.inc h.inc) h

/-! ### Links -/

theorem Keeps.startGroup (h : Keeps r s) {g : Nat} : Keeps r (s.startGroup g) := by
  unfold State.startGroup
  extract_lets s1 s2
  have hs1 : Keeps r s1 := h.wr
  have hs2 : Keeps r s2 := hs1.foldl fun _ _ h1 => .ite h1.trainLane.modLane h1
  exact hs2.judgeGroupState.driveHpd

theorem Keeps.groupUp (h : Keeps r s) {g : Nat} : Keeps r (s.groupUp g).state := by
  unfold State.groupUp
  split
  · exact h.refused
  · exact h.startGroup.done

theorem Keeps.groupDown (h : Keeps r s) {g : Nat} : Keeps r (s.groupDown g).state := by
  unfold State.groupDown
  extract_lets _ s1 s2
  have hs1 : Keeps r s1 := h.wr
  have hs2 : Keeps r s2 := hs1.foldl fun _ _ h1 => .ite h1 h1.setLane
  exact hs2.judgeGroupState.restartHdcp.driveHpd.done

theorem Keeps.takeHpd (h : Keeps r s) {g : Nat} {p : PinLevel} : Keeps r (s.takeHpd g p) := by
  unfold State.takeHpd
  refine .ite ?_ h
  extract_lets s1
  have hs1 : Keeps r s1 := h.wrFlag.raisePin
  exact .ite hs1.out hs1

theorem Keeps.takeIrqHpd (h : Keeps r s) {g us : Nat} : Keeps r (s.takeIrqHpd g us) := .ite h.out h

theorem Keeps.writeEdid (h : Keeps r s) {g : Nat} {data : List Byte} : Keeps r (s.writeEdid g data).state :=
  h.wrDom.modGroup.liveWritten.done

theorem Keeps.releaseHpd (h : Keeps r s) {g : Nat} : Keeps r (s.releaseHpd g) := by
  unfold State.releaseHpd
  extract_lets
  exact .ite h.modGroup.driveHpd h

theorem Keeps.takeSinkEdid (h : Keeps r s) {g : Nat} {data : List Byte} : Keeps r (s.takeSinkEdid g data) := by
  unfold State.takeSinkEdid
  refine .ite ?_ h
  extract_lets
  exact h.wrDom.raise

theorem Keeps.authenticate (h : Keeps r s) {g depth : Nat} {ids : List (List Byte)}
    : Keeps r (s.authenticate g depth ids) := by
  unfold State.authenticate
  refine .ite ?_ h
  extract_lets s1
  have hs1 : Keeps r s1 := h.modGroup.wr
  exact hs1.raise.tellUpstream

theorem Keeps.failHdcp (h : Keeps r s) {g step : Nat} : Keeps r (s.failHdcp g step) := by
  unfold State.failHdcp
  extract_lets _ s1
  have hs1 : Keeps r s1 := h.modGroup.wr
  exact .ite hs1.raise.tellUpstream h

theorem Keeps.failLink (h : Keeps r s) {g rate : Nat} : Keeps r (s.failLink g rate) := by
  unfold State.failLink
  refine .ite ?_ h
  extract_lets
  exact h.modGroup.raise

theorem Keeps.receiveCec (h : Keeps r s) {g : Nat} {data : List Byte} : Keeps r (s.receiveCec g data) := by
  unfold State.receiveCec
  refine .ite ?_ h
  extract_lets s1
  have hs1 : Keeps r s1 := h.wrDom
  exact .ite hs1.out hs1

theorem Keeps.judgeHosts (h : Keeps r s) : Keeps r s.judgeHosts := h.foldl fun _ _ h1 => h1.judgeHost

theorem Keeps.pcieUp (h : Keeps r s) {speed width : Nat} : Keeps r (s.pcieUp speed width) := by
  unfold State.pcieUp
  refine .ite ?_ h
  extract_lets _ s1
  have hs1 : Keeps r s1 := h.wr.wr.wr
  exact hs1.judgeHosts.raise

theorem Keeps.pcieDown (h : Keeps r s) {ltssm : Nat} : Keeps r (s.pcieDown ltssm) := by
  unfold State.pcieDown
  refine .ite ?_ h
  extract_lets s1
  have hs1 : Keeps r s1 := h.wr.wr.wr
  exact hs1.judgeHosts.raise.dropRights

theorem Keeps.aer (h : Keeps r s) {uncorrectable : Bool} {status : Nat} : Keeps r (s.aer uncorrectable status) := by
  unfold State.aer
  refine .ite ?_ h
  extract_lets s1
  have hs1 : Keeps r s1 := .ite h.inc h.inc
  exact hs1.raise

theorem Keeps.writeTargetSpeed (h : Keeps r s) {v : Nat} : Keeps r (s.writeTargetSpeed v).state := h.wr.out.done

theorem Keeps.refuseDevice (h : Keeps r s) {k : Nat} : Keeps r (s.refuseDevice k) := .ite h.wr h

theorem Keeps.mgmtLink (h : Keeps r s) {v : Nat} : Keeps r (s.mgmtLink v) := .ite h.wr.raise h

theorem Keeps.setCanState (h : Keeps r s) {i v : Nat} : Keeps r (s.setCanState i v) := by
  unfold State.setCanState
  extract_lets
  exact h.wr

theorem Keeps.busOff (h : Keeps r s) {i tec : Nat} : Keeps r (s.busOff i tec) := by
  unfold State.busOff
  refine .ite ?_ h
  extract_lets s1
  have hs1 : Keeps r s1 := h.setCanState.modCan
  exact hs1.raise.dropRights

theorem Keeps.errorPassive (h : Keeps r s) {i : Nat} {e : CanCounts} : Keeps r (s.errorPassive i e) := by
  unfold State.errorPassive
  extract_lets
  exact .ite h (.ite (.ite h.setCanState h) (.ite (.ite h h.setCanState.raise) h.setCanState))

theorem Keeps.tellTiming (h : Keeps r s) {was : List (List Nat)} : Keeps r (s.tellTiming was) :=
  h.foldl fun _ _ h1 => .ite h1 h1.out

theorem Keeps.applyMgmt (h : Keeps r s) : Keeps r s.applyMgmt := by
  unfold State.applyMgmt
  refine .ite ?_ h
  extract_lets _ s1
  have hs1 : Keeps r s1 := h.lit rfl rfl
  exact (hs1.foldl fun _ _ h1 => h1.setReg).tellTiming

/-! ### EngineFaults -/

theorem Keeps.resetEngine (h : Keeps r s) {e cause : Nat} : Keeps r (s.resetEngine e cause) := by
  unfold State.resetEngine
  extract_lets _ s1
  have hs1 : Keeps r s1 := h.foldl fun _ _ h1 => h1.loseCopy
  exact hs1.modEngine.countEngines

theorem Stays.eccError (h : Stays r s) {e entry : Nat} {i : StripId} {double : Bool}
    : Stays r (s.eccError e entry i double) := by
  unfold State.eccError
  refine .ite (.ite ?_ ((h.then (Keeps.refl _).modEngine.raise).fault)) h
  extract_lets s1 s2
  have hs1 : Stays r s1 := h.then (Keeps.refl _).modEngine
  have hs2 : Stays r s2 := hs1.then (Keeps.refl _).raise.loseCopy
  exact (hs2.then (Keeps.refl _).resetEngine).fault

theorem Stays.parityError (h : Stays r s) {e : Nat} {i : StripId} {unit : Nat} : Stays r (s.parityError e i unit) := by
  unfold State.parityError
  refine .ite ?_ h
  extract_lets s1 s2
  have hs1 : Stays r s1 := h.then (Keeps.refl _).modEngine
  have hs2 : Stays r s2 := hs1.then (Keeps.refl _).raise.loseCopy
  exact (hs2.then (Keeps.refl _).resetEngine).fault

theorem Stays.timeoutCopy (h : Stays r s) {e : Nat} {i : StripId} : Stays r (s.timeoutCopy e i) := by
  unfold State.timeoutCopy
  split
  · refine .ite ?_ h
    extract_lets s1 s2
    have hs1 : Stays r s1 := h.then (Keeps.refl _).modEngine
    have hs2 : Stays r s2 := hs1.then (Keeps.refl _).raise.loseCopy
    exact (hs2.then (Keeps.refl _).resetEngine).fault
  · exact h

theorem Keeps.endReset (h : Keeps r s) {e : Nat} : Keeps r (s.endReset e) := by
  unfold State.endReset
  extract_lets _ s1
  have hs1 : Keeps r s1 := h.putEngine
  exact .ite hs1.countEngines.raise h

theorem Stays.paceFault (h : Stays r s) {e : Nat} : Stays r (s.paceFault e) := .ite h.hardFault h

/-! ### EngineTables -/

theorem Keeps.loadBank (h : Keeps r s) {sess : Nat} {b : List Byte} : Keeps r (s.loadBank sess b).state := by
  unfold State.loadBank
  extract_lets k x
  clear_value x
  cases x with
  | some x => exact h
  | none => exact h.putBank.wr.raiseBy

theorem Keeps.loadLut (h : Keeps r s) {sess : Nat} {b : List Byte} : Keeps r (s.loadLut sess b).state := by
  unfold State.loadLut
  extract_lets k x
  clear_value x
  cases x with
  | some x => exact h
  | none => exact h.putLut.wr.raiseBy

theorem Keeps.loadLut3d (h : Keeps r s) {sess : Nat} {b : List Byte} : Keeps r (s.loadLut3d sess b).state := by
  unfold State.loadLut3d
  extract_lets _ s1
  have hs1 : Keeps r s1 := h.putLut3d.wr
  exact .iteState h.refused hs1.raiseBy.done

theorem Keeps.dropOldFields (h : Keeps r s) {n : Nat} : Keeps r (s.dropOldFields n) := by
  unfold State.dropOldFields
  extract_lets
  exact h.lit rfl rfl

theorem Keeps.startEstimation (h : Keeps r s) {n : Nat} : Keeps r (s.startEstimation n) := by
  unfold State.startEstimation
  extract_lets
  split
  · split
    · refine .ite ?_ h
      extract_lets _ s1
      have hs1 : Keeps r s1 := h.modInput.dropOldFields
      exact hs1.enqueue
    · exact h
  · exact h

theorem Keeps.endEstimation (h : Keeps r s) {n : Nat} {found : List (Int × Int)}
    : Keeps r (s.endEstimation n found) := by
  unfold State.endEstimation
  extract_lets
  split
  · refine .ite ?_ h
    split
    split
    extract_lets _ s1 s2
    have hs1 : Keeps r s1 := h.modInput
    have hs2 : Keeps r s2 := hs1.lit rfl rfl
    exact hs2.raiseIf
  · exact h

theorem Keeps.clearEngines (h : Keeps r s) : Keeps r s.clearEngines := by
  unfold State.clearEngines
  extract_lets s1 s2
  have hs1 : Keeps r s1 := h.wr.wr.wr
  have hs2 : Keeps r s2 := hs1.wr
  exact hs2.foldl fun _ _ h1 => h1.modEngine

/-! ### Hentis -/

theorem Keeps.enableRef (h : Keeps r s) {n : Nat} : Keeps r (s.enableRef n).state := by
  unfold State.enableRef
  split
  · exact h.refused
  · refine .iteState h.done ?_
    extract_lets _ _ s1 s2 s3
    have hs1 : Keeps r s1 := h.putRef
    have hs2 : Keeps r s2 := hs1.wr.wr
    have hs3 : Keeps r s3 := hs2.wr
    exact hs3.setQual.done

theorem Keeps.disableRef (h : Keeps r s) {n : Nat} : Keeps r (s.disableRef n).state := by
  unfold State.disableRef
  extract_lets s1 s2 s3 s4
  have hs1 : Keeps r s1 := h.raiseIf
  have hs2 : Keeps r s2 := hs1.modRef
  have hs3 : Keeps r s3 := hs2.wr.wr.wr
  have hs4 : Keeps r s4 := hs3.wr
  exact hs4.setQual.done

theorem Keeps.expireHoldover (h : Keeps r s) : Keeps r s.expireHoldover := by
  unfold State.expireHoldover
  refine .ite ?_ h
  extract_lets
  exact h.holdWord.setHentis.raise

theorem Keeps.appendHistory (h : Keeps r s) : Keeps r s.appendHistory := by
  unfold State.appendHistory
  extract_lets
  exact .ite (h.lit rfl rfl) h

theorem Keeps.writeSelection (h : Keeps r s) {key v : Nat} : Keeps r (s.writeSelection key v).state :=
  h.setReg.select.done

theorem Keeps.writeRefType (h : Keeps r s) {n v : Nat} : Keeps r (s.writeRefType n v).state := h.wr.wr.wr.done

theorem Keeps.writeRefRange (h : Keeps r s) {bandwidth : Bool} {n v : Nat}
    : Keeps r (s.writeRefRange bandwidth n v).state := by
  unfold State.writeRefRange
  split
  extract_lets
  exact h.unless h.wr.done

theorem Keeps.writeHoldWindow (h : Keeps r s) {e other : EntryDef} {v : Nat}
    : Keeps r (s.writeHoldWindow e other v).state :=
  h.unless h.wr.done

theorem Keeps.writeSlewLimit (h : Keeps r s) {v : Nat} : Keeps r (s.writeSlewLimit v).state := by
  unfold State.writeSlewLimit
  extract_lets t
  have ht : Keeps r t := by
    unfold t
    split
    · exact h.slewWord
    · exact h
  exact ht.wr.done

/-! ### KeyStoreOps -/

theorem Keeps.judgeHdcp (h : Keeps r s) : Keeps r s.judgeHdcp := by
  unfold State.judgeHdcp
  extract_lets _ _ s1
  have hs1 : Keeps r s1 := h.wr
  exact .ite (hs1.foldl fun _ _ h1 => .ite h1.restartHdcp h1) hs1

theorem Keeps.judgeKeys (h : Keeps r s) : Keeps r s.judgeKeys := by
  unfold State.judgeKeys
  refine h.judgePtlKey.judgeHdcp.foldl fun _ _ h1 => ?_
  extract_lets
  exact .ite h1.dropRights h1

theorem Stays.failSlot (h : Stays r s) {n : Nat} : Stays r (s.failSlot n) := by
  unfold State.failSlot
  extract_lets _ _ s1
  have hs1 : Stays r s1 := h.then (Keeps.refl _).putSlot.raise
  exact .ite h (hs1.hardFault.then (Keeps.refl _).judgeKeys)

theorem Stays.patchSlot (h : Stays r s) {n : Nat} : Stays r (s.patchSlot n) := by
  unfold State.patchSlot
  split
  · exact h
  · extract_lets _ _ _ s1 _ s2 s3
    have hs1 : Stays r s1 := h.then (Keeps.refl _).putSlot
    have hs2 : Stays r s2 := hs1.then (Keeps.refl _).putSlot
    have hs3 : Stays r s3 := hs2.then (Keeps.refl _).raise
    exact (hs3.then (Keeps.refl _).setTaken.noteExhausted).permanentOne

theorem Stays.writeKey (h : Stays r s) {sess n : Nat} {key : List Byte} : Stays r (s.writeKey sess n key).state := by
  unfold State.writeKey
  extract_lets _ s1 _ _ _ _ _ s2 _ s3
  have hs1 : Stays r s1 := .ite h.patchSlot h
  have hs2 : Stays r s2 := hs1.then (Keeps.refl _).putSlot
  have hs3 : Stays r s3 := hs2.then ((Keeps.refl _).lit rfl rfl)
  split
  · exact h.refused
  · exact .iteState hs3.waits ((hs3.then (Keeps.refl _).judgeKeys).done)

theorem Keeps.writeHdcpKeys (h : Keeps r s) {sess : Nat} {data : List Byte}
    : Keeps r (s.writeHdcpKeys sess data).state := by
  unfold State.writeHdcpKeys
  split
  · exact h.refused
  · extract_lets _ _ s1
    have hs1 : Keeps r s1 := h.lit rfl rfl
    exact .iteState hs1.waits hs1.judgeHdcp.done

theorem Keeps.writeWrapSlot (h : Keeps r s) {v : Nat} : Keeps r (s.writeWrapSlot v).state :=
  h.unless h.wr.judgeHdcp.done

theorem Keeps.rekeyFor (h : Keeps r s) {n : Nat} : Keeps r (s.rekeyFor n) := .ite h.startRekey h

theorem Keeps.answerKeyWrite (h : Keeps r s) : Keeps r s.answerKeyWrite := by
  unfold State.answerKeyWrite
  extract_lets _ _ _ s1
  have hs1 : Keeps r s1 := h.lit rfl rfl
  exact .ite hs1 hs1.respond

theorem Keeps.commitKey (h : Keeps r s) : Keeps r s.commitKey := by
  unfold State.commitKey
  extract_lets s1
  have hs1 : Keeps r s1 := h.actBy
  refine .ite ?_ ?_
  · split
    · exact hs1.answerKeyWrite
    · extract_lets _ _ s2
      have hs2 : Keeps r s2 := hs1.putSlot
      exact hs2.answerKeyWrite.raise.judgeKeys.rekeyFor
  · split
    · exact hs1.answerKeyWrite
    · extract_lets _ s2
      have hs2 : Keeps r s2 := hs1.lit rfl rfl
      exact hs2.answerKeyWrite.raise.judgeHdcp

theorem Keeps.abandonKeyWrite (h : Keeps r s) : Keeps r s.abandonKeyWrite := by
  unfold State.abandonKeyWrite
  refine .ite ?_ h
  extract_lets _ _ _ s1 _ _ s2 s3
  have hs1 : Keeps r s1 := .ite h.putSlot h
  have hs2 : Keeps r s2 := hs1.lit rfl rfl
  have hs3 : Keeps r s3 := .ite hs2 hs2.abort
  exact hs3.raise.judgeKeys

theorem Keeps.eraseKey (h : Keeps r s) {sess n : Nat} : Keeps r (s.eraseKey sess n).state := by
  unfold State.eraseKey
  split
  · exact h.refused
  · extract_lets _ _ _ _ s1
    have hs1 : Keeps r s1 := h.putSlot
    exact hs1.raise.judgeKeys.rekeyFor.done

theorem Keeps.reachEnd (h : Keeps r s) {cause : Nat} : Keeps r (s.reachEnd cause) := by
  unfold State.reachEnd
  extract_lets _ _ s1
  have hs1 : Keeps r s1 := h.lit rfl rfl
  exact .ite hs1 (.ite hs1.raise.raise.dropAll hs1)

theorem Keeps.burnFuse (h : Keeps r s) : Keeps r s.burnFuse := .ite (h.lit rfl rfl) h.reachEnd

theorem Keeps.clearKeys (h : Keeps r s) : Keeps r s.clearKeys := by
  unfold State.clearKeys
  refine h.foldl fun _ _ h1 => ?_
  extract_lets
  exact .ite h1 h1.putSlot

theorem Keeps.zeroise (h : Keeps r s) {cause : Nat} : Keeps r (s.zeroise cause) := by
  unfold State.zeroise
  extract_lets _ s1 __src _ s2 s3 _ s4 s5
  have hs1 : Keeps r s1 := .ite h.abort h
  have h__src : Keeps r __src := hs1.clearKeys
  have hs2 : Keeps r s2 := h__src.lit rfl rfl
  have hs3 : Keeps r s3 := hs2.judgeKeys
  have hs4 : Keeps r s4 := .ite (.ite hs3 hs3.burnFuse) (hs3.lit rfl rfl)
  have hs5 : Keeps r s5 := .ite hs4 hs4.wr.wr
  exact hs5.raiseIf

theorem Stays.unwrapKeys (h : Stays r s) {bad : List Nat} : Stays r (s.unwrapKeys bad) := by
  unfold State.unwrapKeys
  extract_lets _ _ s1
  have hs1 : Stays r s1 := h.foldl fun _ _ h1 => h1.then (Keeps.refl _).putSlot
  exact hs1.foldl fun _ _ h1 => h1.failSlot

theorem Keeps.overwriteKeys (h : Keeps r s) : Keeps r s.overwriteKeys := by
  unfold State.overwriteKeys
  extract_lets _ s1 _ s2
  have hs1 : Keeps r s1 := by
    unfold s1
    refine h.foldl fun _ _ h1 => ?_
    extract_lets
    split
    · exact h1.putSlot
    · exact h1
  have hs2 : Keeps r s2 := hs1.lit rfl rfl
  exact hs2.raise

theorem Keeps.drawChallenge (h : Keeps r s) : Keeps r s.drawChallenge := by
  unfold State.drawChallenge
  split
  exact (h.draw.snd ‹_›).lit rfl rfl

theorem Keeps.confirmLifecycle (h : Keeps r s) {v : Nat} : Keeps r (s.confirmLifecycle v).state := by
  unfold State.confirmLifecycle
  extract_lets _ _ _ s1
  have hs1 : Keeps r s1 := h.lit rfl rfl
  split
  · exact hs1.refused
  · exact (hs1.lit rfl rfl).done

theorem Keeps.completeLifecycle (h : Keeps r s) : Keeps r s.completeLifecycle := by
  unfold State.completeLifecycle
  extract_lets s1 _ s2
  have hs1 : Keeps r s1 := h.actBy
  have hs2 : Keeps r s2 := hs1.lit rfl rfl
  split
  · exact hs1
  · exact hs2.zeroise.reachEnd.judgeKeys
  · extract_lets s3
    have hs3 : Keeps r s3 := hs1.lit rfl rfl
    exact hs3.raise.dropAll.judgeKeys

/-! ### PocketOps -/

theorem Keeps.countClips (h : Keeps r s) : Keeps r s.countClips := by
  unfold State.countClips
  extract_lets s1
  have hs1 : Keeps r s1 := h.wr
  refine hs1.foldl fun _ _ h1 => ?_
  extract_lets
  exact h1.wr

theorem Keeps.putClip (h : Keeps r s) {k : Nat} {c : Clip} : Keeps r (s.putClip k c) := h.lit rfl rfl

theorem Keeps.makeRoom (h : Keeps r s) {k frames fuel : Nat} : ∀ t, s.makeRoom k frames fuel = some t → Keeps r t := by
  induction fuel generalizing s with
  | zero => rintro t ⟨⟩; exact h
  | succ fuel ih =>
    intro t e
    unfold State.makeRoom at e
    dsimp only at e
    split at e
    · cases e; exact h
    · split at e
      · cases e
      · exact ih h.putClip t e

theorem Keeps.roomMade (h : Keeps r s) {k frames fuel : Nat} : Keeps r ((s.makeRoom k frames fuel).getD s) := by
  cases e : s.makeRoom k frames fuel with
  | none => exact h
  | some t => exact h.makeRoom t e

theorem Keeps.writeDirectory (h : Keeps r s) {k : Nat} : Keeps r (s.writeDirectory k) := by
  unfold State.writeDirectory
  extract_lets _ _ _ s1
  have hs1 : Keeps r s1 := h.lit rfl rfl
  exact hs1.out.out

theorem Keeps.writeDirectories (h : Keeps r s) : Keeps r s.writeDirectories := by
  unfold State.writeDirectories
  extract_lets _ s1
  have hs1 : Keeps r s1 := h.lit rfl rfl
  exact hs1.foldl fun _ _ h1 => h1.writeDirectory

theorem Keeps.updateEntry (h : Keeps r s) {k : Nat} : Keeps r (s.updateEntry k) := by
  unfold State.updateEntry
  extract_lets s1
  have hs1 : Keeps r s1 := h.countClips
  exact .ite (.ite hs1 (hs1.lit rfl rfl)) ((Keeps.ite hs1 hs1.putClip).writeDirectories)

theorem Keeps.startCapture (h : Keeps r s) {k : Nat} : Keeps r (s.startCapture k).state := by
  unfold State.startCapture
  extract_lets _ _ _ _ _ _ _ _ _ _ _ u v _ w x
  have hx : Keeps r x := h.putClip.roomMade.updateEntry.putCapture.wr.wr
  split
  · exact h
  · exact hx.raise.done

theorem Keeps.endCapture (h : Keeps r s) {k frames st : Nat} : Keeps r (s.endCapture k frames st) := by
  unfold State.endCapture
  extract_lets _ _ _ s1 s2
  have hs1 : Keeps r s1 := h.putClip
  have hs2 : Keeps r s2 := hs1.updateEntry.putCapture
  exact .ite h hs2.wr.raise

theorem Keeps.writeBlocks (h : Keeps r s) {c : Clip} {f : Nat} {bytes : List Byte}
    : Keeps r (s.writeBlocks c f bytes) :=
  foldl_fst_keeps h fun _ _ hp => hp.out

theorem Keeps.frameWritten (h : Keeps r s) {k : Nat} : Keeps r (s.frameWritten k) := by
  unfold State.frameWritten
  extract_lets c
  split
  · exact h
  · split
    · exact h.endCapture
    · next u e =>
      have hu : Keeps r u := h.makeRoom u e
      split
      extract_lets _ v w x
      have hx : Keeps r x := hu.writeBlocks.countClips.putCapture.wr
      exact .ite hx.endCapture hx

theorem Keeps.stopCaptures (h : Keeps r s) {k : Nat} : Keeps r (s.stopCaptures k) := by
  unfold State.stopCaptures
  refine h.foldl fun _ _ h1 => ?_
  extract_lets
  exact .ite h1.endCapture h1

theorem Keeps.resumePocket (h : Keeps r s) : Keeps r s.resumePocket := by
  unfold State.resumePocket
  extract_lets s1
  have hs1 : Keeps r s1 := by
    unfold s1
    refine h.foldl fun _ _ h1 => ?_
    extract_lets
    exact .ite h1.endCapture h1
  exact (hs1.lit rfl rfl).foldl fun _ _ h1 => h1.updateEntry

theorem Keeps.judgePlayers (h : Keeps r s) : Keeps r s.judgePlayers := h.foldl fun _ _ h1 => h1.judgePlayer

theorem Keeps.takeClip (h : Keeps r s) {k n : Nat} {b : List Byte} : Keeps r (s.takeClip k n b) := by
  unfold State.takeClip
  split
  · exact h.raise
  · extract_lets
    exact .ite h h.putClip

theorem Keeps.takeDirectory (h : Keeps r s) {k : Nat} {copies : List DirectoryCopy}
    : Keeps r (s.takeDirectory k copies) := by
  unfold State.takeDirectory
  extract_lets s1
  have hs1 : Keeps r s1 := h.foldl fun _ _ h1 => h1.raise
  split
  · exact hs1
  · refine .ite ?_ hs1
    extract_lets s2
    have hs2 : Keeps r s2 := hs1.lit rfl rfl
    exact hs2.foldl fun _ _ h1 => h1.takeClip

theorem Keeps.shareDirectory (h : Keeps r s) {k was : Nat} {copies : List DirectoryCopy}
    : Keeps r (s.shareDirectory k was copies) := by
  unfold State.shareDirectory
  extract_lets
  exact .ite h.writeDirectory (.ite h.writeDirectory h)

theorem Keeps.takeDrive (h : Keeps r s) {k : Nat} {d : DriveFound} : Keeps r (s.takeDrive k d) := by
  unfold State.takeDrive
  extract_lets s1 s2 s3
  have hs1 : Keeps r s1 := h.out.out
  have hs2 : Keeps r s2 := hs1.foldl fun _ _ h1 => h1.out
  have hs3 : Keeps r s3 := hs2.foldl fun _ _ h1 => h1.out
  exact hs3.lit rfl rfl

theorem Keeps.leaveDrive (h : Keeps r s) {k : Nat} : Keeps r (s.leaveDrive k) := by
  unfold State.leaveDrive
  extract_lets _ s1
  have hs1 : Keeps r s1 := h.foldl fun _ _ h1 => h1.out
  exact hs1.lit rfl rfl

theorem Keeps.dropFormatted (h : Keeps r s) {k : Nat} {copies : List DirectoryCopy}
    : Keeps r (s.dropFormatted k copies) := by
  unfold State.dropFormatted
  extract_lets
  exact .ite ((h.lit rfl rfl).writeDirectories) h

theorem Keeps.driveUp (h : Keeps r s) {k : Nat} {d : DriveFound} : Keeps r (s.driveUp k d) := by
  unfold State.driveUp
  refine .ite (.ite h.wr ?_) h
  extract_lets _ t s1 s2 s3
  have ht : Keeps r t := h.takeDrive.takeDirectory
  have hs1 : Keeps r s1 := ht.shareDirectory.wr
  have hs2 : Keeps r s2 := hs1.dropFormatted
  have hs3 : Keeps r s3 := hs2.wr.wr.countClips.judgePlayers
  exact hs3.raise

theorem Keeps.driveDown (h : Keeps r s) {k : Nat} {link : Bool} {status : Nat}
    : Keeps r (s.driveDown k link status) := by
  unfold State.driveDown
  extract_lets _ s1 s2 _ s3 s4 s5
  have hs1 : Keeps r s1 := h.stopCaptures
  have hs2 : Keeps r s2 := hs1.wr
  have hs3 : Keeps r s3 := hs2.lit rfl rfl
  have hs4 : Keeps r s4 := .ite hs3.wr hs3
  have hs5 : Keeps r s5 := hs4.countClips.raise
  exact .ite ((hs5.foldl fun _ _ h1 => h1.readFaultOf).judgePlayers) h

theorem Keeps.enablePocket (h : Keeps r s) {v : Nat} : Keeps r (s.enablePocket v).state := by
  unfold State.enablePocket
  refine .iteState h.done (.iteState ?_ ?_)
  · extract_lets _ s1 s2
    have hs1 : Keeps r s1 := h.lit rfl rfl
    have hs2 : Keeps r s2 := by
      unfold s2
      refine hs1.foldl fun _ _ h1 => .ite ?_ h1
      extract_lets s3
      have hs3 : Keeps r s3 := h1.wr.out
      exact .ite hs3 hs3.wr
    exact hs2.wr.countClips.judgePlayers.done
  · extract_lets s1 _ s2 s3
    have hs1 : Keeps r s1 := h.stopCaptures.wr.foldl fun _ _ h1 => h1.leaveDrive
    have hs2 : Keeps r s2 := hs1.lit rfl rfl
    have hs3 : Keeps r s3 := hs2.foldl fun _ _ h1 => h1.wr.wr
    exact hs3.countClips.judgePlayers.done

theorem Keeps.deleteClip (h : Keeps r s) {n : Nat} : Keeps r (s.deleteClip n).state := by
  unfold State.deleteClip
  split
  · exact h.refused
  · exact (Keeps.ite h h.putClip.updateEntry).done

theorem Keeps.formatDrives (h : Keeps r s) {v : Nat} : Keeps r (s.formatDrives v).state := by
  unfold State.formatDrives
  refine .iteState h.refused ((h.foldl fun _ _ h1 => ?_).done)
  extract_lets _ s1
  have hs1 : Keeps r s1 := h1.lit rfl rfl
  exact hs1.countClips.out

/-! ### Pocket -/

theorem Keeps.captureCommand (h : Keeps r s) {k v : Nat} : Keeps r (s.captureCommand k v).state := by
  unfold State.captureCommand
  refine .iteState h.startCapture ?_
  extract_lets
  exact .iteState h.done (.iteState h.endCapture.done h.putCapture.wr.done)

theorem Keeps.captureWritten (h : Keeps r s) {k : Nat} {done : Bool} : Keeps r (s.captureWritten k done) := by
  unfold State.captureWritten
  extract_lets
  exact .ite (.ite h.frameWritten (.ite h.endCapture h)) h

theorem Keeps.captureCheckpoint (h : Keeps r s) {k : Nat} : Keeps r (s.captureCheckpoint k) := by
  unfold State.captureCheckpoint
  extract_lets _ _ s1
  have hs1 : Keeps r s1 := h.out.putCapture
  exact .ite hs1.putClip.updateEntry h

theorem Keeps.captureFlushed (h : Keeps r s) {k : Nat} : Keeps r (s.captureFlushed k) := by
  unfold State.captureFlushed
  extract_lets _ s1
  have hs1 : Keeps r s1 := h.out.putCapture
  exact .ite hs1.wr.raise h

/-! ### SaveOps -/

theorem Keeps.store (h : Keeps r s) {sess sub v : Nat} : Keeps r (s.store sess sub v).state := by
  unfold State.store
  extract_lets
  split
  · exact h.refused
  · exact (h.lit rfl rfl).waits

theorem Keeps.endStaging (h : Keeps r s) : Keeps r s.endStaging := h.lit rfl rfl

theorem Keeps.finishStore (h : Keeps r s) {verified : Bool} : Keeps r (s.finishStore verified) := by
  unfold State.finishStore
  split
  · exact h
  · extract_lets _ s1 _ s2 _ s3 s4 _ s5 s6
    have hs1 : Keeps r s1 := h.endStaging
    have hs2 : Keeps r s2 := .ite (hs1.lit rfl rfl) (hs1.lit rfl rfl)
    have hs3 : Keeps r s3 := hs2.lit rfl rfl
    have hs4 : Keeps r s4 := hs3.wr.wr
    have hs5 : Keeps r s5 := hs1.wr
    have hs6 : Keeps r s6 := .ite (hs5.lit rfl rfl) (hs5.lit rfl rfl)
    exact .ite hs4.raiseBy.respond hs6.raiseBy.abort

theorem Keeps.abandonStore (h : Keeps r s) : Keeps r s.abandonStore := by
  unfold State.abandonStore
  refine .ite ?_ h
  extract_lets
  exact h.endStaging.wr.raise.abort

theorem Keeps.restore (h : Keeps r s) {sub v : Nat} : Keeps r (s.restore sub v).state := by
  unfold State.restore
  split
  · exact h.refused
  · exact ((h.lit rfl rfl).raise).done

/-! ### RecorderOps -/

theorem Keeps.sealExport (h : Keeps r s) {nonce : List Byte} : Keeps r (s.sealExport nonce).state := by
  unfold State.sealExport
  extract_lets _ _ _ _ _ _ s1
  have hs1 : Keeps r s1 := h.wrDom
  split
  · exact h.refused
  · exact hs1.inc.raise.done

theorem Keeps.sample (h : Keeps r s) {n k : Nat} : Keeps r (s.sample n k) := h.lit rfl rfl

theorem Keeps.countSecond (h : Keeps r s) : Keeps r s.countSecond := h.lit rfl rfl

theorem Keeps.endSecond (h : Keeps r s) {v : LifeSample} : Keeps r (s.endSecond v) := by
  unfold State.endSecond
  extract_lets s1 _ _ s2 s3 s4 s5 s6 s7 s8
  have hs1 : Keeps r s1 := h.countSecond
  have hs2 : Keeps r s2 := hs1.lit rfl rfl
  have hs3 : Keeps r s3 := hs2.sample
  have hs4 : Keeps r s4 := hs3.foldl fun _ _ h1 => h1.sample
  have hs5 : Keeps r s5 := by
    unfold s5
    refine hs4.foldl fun _ _ h1 => ?_
    extract_lets
    exact .ite h1.sample h1
  have hs6 : Keeps r s6 := by
    unfold s6
    refine hs5.foldl fun _ _ h1 => ?_
    extract_lets
    exact .ite h1.sample h1
  have hs7 : Keeps r s7 := hs6.sample
  have hs8 : Keeps r s8 := hs7.foldl fun _ _ h1 => h1.sample
  exact .ite (hs8.lit rfl rfl) hs7

theorem Keeps.flushHistograms (h : Keeps r s) : Keeps r s.flushHistograms := by
  unfold State.flushHistograms
  extract_lets
  exact h.lit rfl rfl

theorem Keeps.countSectors (h : Keeps r s) : Keeps r s.countSectors := by
  unfold State.countSectors
  extract_lets
  exact h.lit rfl rfl

theorem Keeps.takeCheckpoint (h : Keeps r s) : Keeps r s.takeCheckpoint := by
  unfold State.takeCheckpoint
  extract_lets s1 _ _ _ _ _ _ s2
  have hs1 : Keeps r s1 := h.forceFlush.flushHistograms.countSectors
  have hs2 : Keeps r s2 := hs1.lit rfl rfl
  exact hs2.raise

theorem Keeps.showRails (h : Keeps r s) {x0 : Rails} : Keeps r (s.showRails x0) := h.wr.wr.wr.wrFlag

theorem Keeps.enterFloor (h : Keeps r s) {x0 : Rails} : Keeps r (s.enterFloor x0) := by
  unfold State.enterFloor
  extract_lets s1 _ _ s2 s3 _ s4 s5 _ s6
  have hs1 : Keeps r s1 := h.showRails
  have hs2 : Keeps r s2 := hs1.lit rfl rfl
  have hs3 : Keeps r s3 := hs2.wr
  have hs4 : Keeps r s4 := hs3.wr.inc
  have hs5 : Keeps r s5 := hs4.wr
  have hs6 : Keeps r s6 := hs5.lit rfl rfl
  refine .ite hs1 ?_
  split
  · exact .ite hs6.raiseBy.abandonKeyWrite.abandonStore hs6
  · exact hs3.wr
  · exact hs3

theorem Keeps.drainRecords (h : Keeps r s) : Keeps r s.drainRecords := by
  unfold State.drainRecords
  extract_lets _ _ _ _ s1
  have hs1 : Keeps r s1 := h.lit rfl rfl
  exact .ite hs1 hs1.raiseWith

theorem Keeps.writePatches (h : Keeps r s) : Keeps r s.writePatches := h.lit rfl rfl

theorem Keeps.storeTraining (h : Keeps r s) : Keeps r s.storeTraining := .ite (h.lit rfl rfl) h

theorem Keeps.finishOverwrite (h : Keeps r s) : Keeps r s.finishOverwrite := .ite h.overwriteKeys h

theorem Keeps.resumeWrites (h : Keeps r s) : Keeps r s.resumeWrites := by
  unfold State.resumeWrites
  extract_lets s1 _ _ _ s2 s3 s4 _ s5
  have hs1 : Keeps r s1 := h.wr.wr
  have hs2 : Keeps r s2 := hs1.lit rfl rfl
  have hs3 : Keeps r s3 := hs2.raise
  have hs4 : Keeps r s4 := hs3.drainRecords.writePatches.finishOverwrite.resumePocket.storeTraining
  have hs5 : Keeps r s5 := .ite (hs4.lit rfl rfl) hs4
  exact hs5.takeCheckpoint

theorem Keeps.railsGood (h : Keeps r s) {x0 : Rails} : Keeps r (s.railsGood x0) := by
  unfold State.railsGood
  extract_lets s1 _ __src _ __src1
  have hs1 : Keeps r s1 := h.showRails
  have h__src : Keeps r __src := hs1.wr
  have h__src1 : Keeps r __src1 := hs1.wr
  exact .ite hs1 (.ite (h__src.lit rfl rfl) (.ite (h__src1.lit rfl rfl) (.ite hs1.resumeWrites hs1)))

theorem Keeps.completeWrites (h : Keeps r s) : Keeps r s.completeWrites := by
  unfold State.completeWrites
  extract_lets u v
  have hu : Keeps r u := .ite h.commitKey.actBy h
  have hv : Keeps r v := .ite hu.completeLifecycle.actBy hu
  exact hv.finishOverwrite.finishStore

theorem Keeps.shutdown (h : Keeps r s) : Keeps r (s.shutdown).state := by
  unfold State.shutdown
  refine .iteState h.refused ?_
  extract_lets s1 s2
  have hs1 : Keeps r s1 := h.completeWrites.drainRecords.takeCheckpoint
  have hs2 : Keeps r s2 := hs1.raise
  exact hs2.wr.done

/-! ### StoreDram -/

theorem Keeps.writePartition (h : Keeps r s) {stage : Bool} {v : Nat} : Keeps r (s.writePartition stage v).state := by
  unfold State.writePartition
  extract_lets s'
  have hs' : Keeps r s' := .ite h.wr h.wr
  exact h.unless hs'.wr.done

theorem Keeps.underrunIp (h : Keeps r s) {c k line x : Nat} : Keeps r (s.underrunIp c k line x) := h.modCanvas

theorem Keeps.hitStore (h : Keeps r s) {offset : Nat} {x0 : StoreHit} : Keeps r (s.hitStore offset x0) := by
  unfold State.hitStore
  split
  · exact h.modCanvas
  · exact h.underrun
  · exact h.underrunIp
  · exact h.bandBreaks
  · exact h.invalidateLining
  · exact h.putImageBad.raiseIf
  · exact h.inc.raise

theorem Keeps.noteCorrected (h : Keeps r s) : Keeps r s.noteCorrected := h.lit rfl rfl

theorem Stays.storeError (h : Stays r s) {w : StoreWord} {double : Bool} : Stays r (s.storeError w double) := by
  unfold State.storeError
  refine .ite ?_ h
  extract_lets _ s1 s2
  have hs1 : Stays r s1 := h.then (Keeps.refl _).inc.raise
  have hs2 : Stays r s2 := h.then (Keeps.refl _).inc.raise
  exact .ite ((hs1.then (Keeps.refl _).hitStore).hardFault) ((hs2.then (Keeps.refl _).noteCorrected).rowCorrected)

theorem Keeps.writeDram (h : Keeps r s) {sub v : Nat} : Keeps r (s.writeDram sub v).state := by
  unfold State.writeDram
  extract_lets s'
  have hs' : Keeps r s' := h.setReg
  exact h.unless hs'.done

theorem Keeps.rowRemapped (h : Keeps r s) {m row : Nat} : Keeps r (s.rowRemapped m row) := by
  unfold State.rowRemapped
  extract_lets
  exact .ite h.endRemap.endCopy h

theorem Keeps.startCycle (h : Keeps r s) {cause : DramWake} : Keeps r (s.startCycle cause) := .ite (h.lit rfl rfl) h

theorem Keeps.sleepChannels (h : Keeps r s) : Keeps r s.sleepChannels :=
  .ite (h.foldl fun _ _ h1 => .ite h1.setChannel h1) h

theorem Stays.recentre (h : Stays r s) {failed : List Nat} : Stays r (s.recentre failed) := by
  unfold State.recentre
  refine .ite ?_ h
  extract_lets _ s1
  have hs1 : Stays r s1 := h.then ((Keeps.refl _).lit rfl rfl)
  exact hs1.foldl fun _ _ h1 => .ite h1.fault h1

/-! ### Resilience -/

theorem Stays.unitsFail (h : Stays r s) {kind : Nat} {units : List Nat} : Stays r (s.unitsFail kind units) :=
  .ite (h.foldl fun _ _ h1 => .ite (.ite h1.failSlot h1.hardFault) h1) h

theorem Stays.copyDone (h : Stays r s) {bank : Bool} {unit : Nat} : Stays r (s.copyDone bank unit) := by
  unfold State.copyDone
  extract_lets
  split
  · refine .ite ?_ h
    extract_lets s1 s2
    have hs1 : Stays r s1 := .ite h (h.then (Keeps.refl _).inc.raise)
    have hs2 : Stays r s2 := hs1.then (Keeps.refl _).endCopy
    exact .ite hs2.permanentOne hs2
  · exact h

theorem Stays.writeHoldRetire (h : Stays r s) {v : Nat} : Stays r (s.writeHoldRetire v).state :=
  ((h.then (Keeps.refl _).wr).releaseHeld).done

theorem Stays.checkSpare (h : Stays r s) {kind unit : Nat} {good : Bool} : Stays r (s.checkSpare kind unit good) :=
  .ite (.ite h.failSlot h.hardFault) h

theorem Stays.scrubKeys (h : Stays r s) : Stays r s.scrubKeys := h.foldl fun _ _ h1 => .ite h1.failSlot h1

theorem Stays.endPass (h : Stays r s) : Stays r s.endPass := by
  unfold State.endPass
  refine .ite ?_ h
  extract_lets _ s1 s2 _ _ s3
  have hs1 : Stays r s1 := ((h.then ((Keeps.refl _).lit rfl rfl)).foldl fun _ _ h1 => h1.then
    (Keeps.refl _).checkImage).scrubKeys
  have hs2 : Stays r s2 := hs1.then (Keeps.refl _).inc.wr
  have hs3 : Stays r s3 := hs2.then ((Keeps.refl _).lit rfl rfl)
  exact hs3.then (Keeps.refl _).wr.raise

theorem Keeps.clearPatch (h : Keeps r s) {n : Nat} : Keeps r (s.clearPatch n).state := by
  unfold State.clearPatch
  split
  · refine .iteState h.done ?_
    extract_lets _ s1
    have hs1 : Keeps r s1 := h.lit rfl rfl
    exact hs1.returnUnit.raise.done
  · exact h.done

theorem Keeps.clearWeights (h : Keeps r s) {v : Nat} : Keeps r (s.clearWeights v).state :=
  (h.foldl fun _ _ h1 => .ite h1.putWeight h1).done

theorem Stays.sectorFails (h : Stays r s) {k : Nat} {x0 : MramFault} : Stays r (s.sectorFails k x0) := by
  unfold State.sectorFails
  split
  · exact .ite (h.then (Keeps.refl _).noteCorrected.noteFault) h
  · exact .ite (.ite h.hardFault (h.then (Keeps.refl _).noteFault)) h
  · exact .ite h.hardFault h

theorem Stays.echoLost (h : Stays r s) {x0 unit : Nat} : Stays r (s.echoLost x0 unit) := by
  unfold State.echoLost
  extract_lets _ s1
  have hs1 : Stays r s1 := h.then (Keeps.refl _).putHead.wr
  exact .ite ((hs1.then (Keeps.refl _).raise).fault) h

theorem Keeps.echoLocked (h : Keeps r s) {x0 unit : Nat} : Keeps r (s.echoLocked x0 unit) := by
  unfold State.echoLocked
  extract_lets
  exact .ite h.putHead.wr h

/-! ### StartupOps -/

theorem Keeps.enterState (h : Keeps r s) {source st : Nat} : Keeps r (s.enterState source st) := by
  unfold State.enterState
  extract_lets _ s1 _ s2
  have hs1 : Keeps r s1 := h.wr.tellAlert.inc
  have hs2 : Keeps r s2 := hs1.lit rfl rfl
  exact hs2.raiseBy

theorem Keeps.loseTier (h : Keeps r s) {c : Nat} : Keeps r (s.loseTier c) := by
  unfold State.loseTier
  extract_lets _ s1
  have hs1 : Keeps r s1 := h.modCanvas
  exact .ite hs1.clearLining hs1

theorem Keeps.takeSizes (h : Keeps r s) : Keeps r s.takeSizes := by
  unfold State.takeSizes
  refine .ite h ?_
  extract_lets s1 s2
  have hs1 : Keeps r s1 := h.wr
  have hs2 : Keeps r s2 := hs1.foldl fun _ _ h1 => .ite h1.changeClass.tellClass h1
  exact hs2.foldl fun _ _ h1 => h1.loseTier

theorem Keeps.startRun (h : Keeps r s) {source : Nat} : Keeps r (s.startRun source) := by
  unfold State.startRun
  extract_lets _ s1 s2
  have hs1 : Keeps r s1 := h.takeSizes.enterState.milestone
  have hs2 : Keeps r s2 := hs1.foldl fun _ _ h1 => h1.armCanvas
  exact (Keeps.ite hs2.startAlone hs2).setTargets

theorem Keeps.requestRun (h : Keeps r s) {source : Nat} : Keeps r (s.requestRun source).state := by
  unfold State.requestRun
  split
  · exact h.refused
  · exact h.startRun.done

theorem Keeps.stopPlayer (h : Keeps r s) {n : Nat} : Keeps r (s.stopPlayer n) := .ite h h.wr.modPlayer.takeTransport

theorem Keeps.leaveRun (h : Keeps r s) : Keeps r s.leaveRun := by
  unfold State.leaveRun
  extract_lets s1 s2
  have hs1 : Keeps r s1 := h.foldl fun _ _ h1 => h1.modCanvas
  have hs2 : Keeps r s2 := hs1.foldl fun _ _ h1 => h1.captureCommand
  exact hs2.foldl fun _ _ h1 => h1.stopPlayer

theorem Keeps.requestStandby (h : Keeps r s) {source : Nat} : Keeps r (s.requestStandby source).state := by
  unfold State.requestStandby
  refine .iteState h.refused ?_
  extract_lets _ s1
  have hs1 : Keeps r s1 := h.leaveRun.enterState
  exact (Keeps.ite hs1.startAlone hs1).done

theorem Keeps.enterSafe (h : Keeps r s) {source cause : Nat} : Keeps r (s.enterSafe source cause) := by
  unfold State.enterSafe
  extract_lets s1 _ s2 s3 s4
  have hs1 : Keeps r s1 := h.leaveRun
  have hs2 : Keeps r s2 := hs1.lit rfl rfl
  have hs3 : Keeps r s3 := hs2.foldl fun _ _ h1 => .ite h1.beginStop h1
  have hs4 : Keeps r s4 := hs3.wr.enterState
  exact hs4.raiseBy

theorem Keeps.requestSafe (h : Keeps r s) {source : Nat} : Keeps r (s.requestSafe source).state :=
  .iteState h.refused h.enterSafe.done

theorem Keeps.writeRequest (h : Keeps r s) {sess v : Nat} : Keeps r (s.writeRequest sess v).state := by
  unfold State.writeRequest
  split
  · exact h.requestStandby
  · exact h.requestRun
  · exact h.requestSafe

theorem Keeps.loadLife (h : Keeps r s) : Keeps r s.loadLife := by
  unfold State.loadLife
  extract_lets
  exact .ite (h.lit rfl rfl) (h.lit rfl rfl)

theorem Stays.clearVolatile (h : Stays r s) : Stays r s.clearVolatile := by
  unfold State.clearVolatile
  extract_lets _ _ _ _ _ _ _ t u
  have ht : Stays r t := h.emptied rfl rfl
  have hu : Stays r u := .ite (ht.then (Keeps.refl _).wr) ht
  exact hu.then (Keeps.refl _).loadLife.tellAlert

theorem Stays.assertPorst (h : Stays r s) : Stays r s.assertPorst := by
  unfold State.assertPorst
  refine .ite ?_ h
  extract_lets _ s1 _ s2 s3
  have hs1 : Stays r s1 := .ite h (h.then (Keeps.refl _).actBy.enterState.dropAll)
  have hs2 : Stays r s2 := hs1.then ((Keeps.refl _).lit rfl rfl)
  have hs3 : Stays r s3 := hs2.clearVolatile
  exact .ite (hs3.then (Keeps.refl _).out) hs3

theorem Stays.resetSelf (h : Stays r s) {source cause : Nat} : Stays r (s.resetSelf source cause) := by
  unfold State.resetSelf
  extract_lets s1 _ s2
  have hs1 : Stays r s1 := h.then (Keeps.refl _).enterState.dropAll
  have hs2 : Stays r s2 := hs1.then ((Keeps.refl _).lit rfl rfl)
  exact hs2.clearVolatile

theorem Stays.trip (h : Stays r s) : Stays r s.trip := by
  unfold State.trip
  refine .ite h ?_
  extract_lets _ s1
  have hs1 : Stays r s1 := h.then ((Keeps.refl _).lit rfl rfl)
  exact hs1.clearVolatile.then (Keeps.refl _).out

theorem Keeps.loadRing (h : Keeps r s) {torn badJournal : List Nat} : Keeps r (s.loadRing torn badJournal) := by
  unfold State.loadRing
  extract_lets _ _ _ _ _ s1
  have hs1 : Keeps r s1 := h.lit rfl rfl
  exact hs1.foldl fun _ _ h1 => h1.raise

theorem Keeps.applyPatch (h : Keeps r s) {p : Patch} : Keeps r (s.applyPatch p) := by
  unfold State.applyPatch
  extract_lets _ _ u spare v _ w _ _ x
  have hu : Keeps r u := h.lit rfl rfl
  have hv : Keeps r v := hu.modEngine
  have hw : Keeps r w := hu.setLane
  have hx : Keeps r x := .ite hu.setIdle hu
  clear_value u v w x spare
  split
  · cases spare with
    | some y => exact .ite hv hv.bringIn
    | none => exact hv
  · exact hu.lit rfl rfl
  · exact hu.setChannel
  · cases spare with
    | some y => exact hw.modUlane.modUlane
    | none => exact hw
  · exact hu.setLane
  · cases spare with
    | some y => exact .ite hx hx.bringIn
    | none => exact .ite (hx.lit rfl rfl) hx

theorem Keeps.loadPatches (h : Keeps r s) : Keeps r s.loadPatches := by
  unfold State.loadPatches
  extract_lets s1
  have hs1 : Keeps r s1 := (h.foldl fun _ _ h1 => h1.applyPatch).countEngines
  exact hs1.foldl fun _ _ h1 => .ite (h1.lit rfl rfl) h1

theorem Stays.loadKeys (h : Stays r s) {badSlots : List Nat} {tamperCap : Bool}
    : Stays r (s.loadKeys badSlots tamperCap) := by
  unfold State.loadKeys
  extract_lets s1 _ s2 s3 __src _ s4 _ s5
  have hs1 : Stays r s1 := h.then (Keeps.refl _).wrFlag
  have hs2 : Stays r s2 := .ite ((hs1.then ((Keeps.refl _).lit rfl rfl)).then (Keeps.refl _).burnFuse) hs1
  have hs3 : Stays r s3 := hs2.then (Keeps.refl _).raise
  have h__src : Stays r __src := hs3.then (Keeps.refl _).clearKeys
  have hs4 : Stays r s4 := .ite (h__src.then ((Keeps.refl _).lit rfl rfl)) hs2
  have hs5 : Stays r s5 := hs4.then ((Keeps.refl _).lit rfl rfl)
  exact hs5.unwrapKeys.then (Keeps.refl _).judgeHdcp

theorem Keeps.chooseConfig (h : Keeps r s) {bad : List Nat} : Keeps r (s.chooseConfig bad) := by
  unfold State.chooseConfig
  extract_lets _ _ s1 _ _ s2 _ s3
  have hs1 : Keeps r s1 := h.lit rfl rfl
  have hs2 : Keeps r s2 := hs1.wr
  have hs3 : Keeps r s3 := .ite (hs2.lit rfl rfl) hs2
  exact .ite ((hs3.lit rfl rfl).raise) hs3.raise

theorem Keeps.loadDram (h : Keeps r s) : Keeps r s.loadDram := h.lit rfl rfl

theorem Keeps.loadPcie (h : Keeps r s) : Keeps r s.loadPcie := (h.lit rfl rfl).wr

theorem Keeps.countCycle (h : Keeps r s) {bad : List Nat} : Keeps r (s.countCycle bad) := by
  unfold State.countCycle
  extract_lets _ _ s1 s2
  have hs1 : Keeps r s1 := h.lit rfl rfl
  have hs2 : Keeps r s2 := hs1.loadLife
  exact hs2.lit rfl rfl

theorem Stays.beginLoad (h : Stays r s) {straps : Nat} {f : LoadFound} : Stays r (s.beginLoad straps f) := by
  unfold State.beginLoad
  extract_lets s1 _ s2 s3 _ s4 s5 s6 _ s7 s8 s9 s10
  have hs1 : Stays r s1 := h.then (Keeps.refl _).countCycle
  have hs2 : Stays r s2 := hs1.then ((Keeps.refl _).lit rfl rfl)
  have hs3 : Stays r s3 := .ite (hs2.then (Keeps.refl _).wr) hs2
  have hs4 : Stays r s4 := hs3.then ((Keeps.refl _).lit rfl rfl)
  have hs5 : Stays r s5 := hs4.then (Keeps.refl _).wr.inc
  have hs6 : Stays r s6 := hs5.then (Keeps.refl _).loadRing
  have hs7 : Stays r s7 := hs6.then (Keeps.refl _).raiseBy
  have hs8 : Stays r s8 := hs7.then (Keeps.refl _).raiseBy
  have hs9 : Stays r s9 := hs8.foldl fun _ _ h1 => h1.then (Keeps.refl _).raise
  have hs10 : Stays r s10 := ((hs9.then (Keeps.refl _).loadPatches).loadKeys).then (Keeps.refl _).chooseConfig
  exact hs10.then (Keeps.refl _).loadDram.loadPcie.milestone

theorem Stays.releasePorst (h : Stays r s) {straps : Nat} {f : LoadFound} : Stays r (s.releasePorst straps f) :=
  .ite h (.ite (h.then ((Keeps.refl _).lit rfl rfl)) h.beginLoad)

/-! ### Tiles -/

theorem Keeps.writeTiles (h : Keeps r s) {sess : Nat} {data : List Byte} : Keeps r (s.writeTiles sess data).state := by
  unfold State.writeTiles
  extract_lets _ _ t
  split
  · exact h.wr.raiseBy.refused
  · exact (((h.putEntries fun _ _ _ h1 => h1.storeTile).countTiles).inUse).done

theorem Keeps.writeCalibs (h : Keeps r s) {sess : Nat} {data : List Byte}
    : Keeps r (s.writeCalibs sess data).state := by
  unfold State.writeCalibs
  extract_lets
  exact (h.putEntries fun _ _ _ h1 => h1.storeCalib).done

theorem Keeps.repeatCalib (h : Keeps r s) {x0 : Nat} : Keeps r (s.repeatCalib x0) := .ite h.allCalibsDue.sendCalibs h

theorem Keeps.sendPixels (h : Keeps r s) {x0 k : Nat} {alt : Bool} : Keeps r (s.sendPixels x0 k alt) := by
  unfold State.sendPixels
  extract_lets v
  split
  refine .ite h ?_
  extract_lets s1
  have hs1 : Keeps r s1 := by
    unfold s1
    refine h.foldl fun _ _ h1 => ?_
    extract_lets
    exact h1.sendPtl
  exact hs1.modHead

theorem Keeps.sendTile (h : Keeps r s) {x0 k : Nat} : Keeps r (s.sendTile x0 k) := by
  unfold State.sendTile
  extract_lets v
  exact .ite h.sendPixels.sendPixels h

theorem Keeps.writeKeySlot (h : Keeps r s) {v : Nat} : Keeps r (s.writeKeySlot v).state := h.unless h.wr.startRekey.done

theorem Keeps.rejectStatus (h : Keeps r s) {p tile : Nat} : Keeps r (s.rejectStatus p tile) := by
  unfold State.rejectStatus
  extract_lets s1
  have hs1 : Keeps r s1 := h.inc
  exact .ite hs1.putAuthFail.raise hs1

theorem Keeps.noteStatus (h : Keeps r s) {k p : Nat} {b : List Byte} : Keeps r (s.noteStatus k p b) := by
  unfold State.noteStatus
  extract_lets _ _ _ _ _ _ s1 s2 s3
  have hs1 : Keeps r s1 := h.putTile
  have hs2 : Keeps r s2 := hs1.raiseIf
  have hs3 : Keeps r s3 := hs2.raiseIf
  exact hs3.raiseIf.countTiles

theorem Keeps.receiveStatus (h : Keeps r s) {p : Nat} {data : List Byte} : Keeps r (s.receiveStatus p data) := by
  unfold State.receiveStatus
  extract_lets
  refine .ite (.ite h.inc (.ite h.rejectStatus ?_)) h
  split
  · exact h.inc
  · exact h.inc.noteStatus

theorem Keeps.missTile (h : Keeps r s) {k : Nat} : Keeps r (s.missTile k) := by
  unfold State.missTile
  extract_lets
  exact .ite h.putTile.countTiles.raise h

theorem Keeps.sendCounted (h : Keeps r s) {p dest type tile : Nat} {payload : List Byte}
    : Keeps r (s.sendCounted p dest type tile payload) := by
  unfold State.sendCounted
  split
  exact (h.nextPtlCount.snd ‹_›).sendPtl

theorem Keeps.sendHeartbeat (h : Keeps r s) : Keeps r s.sendHeartbeat := by
  unfold State.sendHeartbeat
  refine .ite ?_ h
  extract_lets
  exact (h.lit rfl rfl).foldl fun _ _ h1 => h1.sendCounted

theorem Keeps.sendControl (h : Keeps r s) {sess : Nat} {data : List Byte}
    : Keeps r (s.sendControl sess data).state := by
  unfold State.sendControl
  extract_lets
  exact h.unless (.iteState h.done ((((h.foldl fun _ _ h1 => h1.sendCounted).inc).raiseBy).done))

/-! ### Reads -/

theorem Keeps.readQueue (h : Keeps r s) {k : Nat} : Keeps r (s.readQueue k).2 :=
  .ite h.modSess.modSess h.modSess.modSess.raiseBy

theorem Keeps.afterRead (h : Keeps r s) {k : Nat} {e : EntryDef} {n : Nat} : Keeps r (s.afterRead k e n) :=
  .ite h.readQueue (.ite h.wr (.ite h.drawChallenge (.ite h.wr h)))

theorem Keeps.fetch (h : Keeps r s) {k index sub : Nat} {data : List Byte} {t : State}
    (e : s.fetch k index sub = .ok (data, t)) : Keeps r t := by
  unfold State.fetch at e
  split at e
  · cases e
  · cases e; exact h.afterRead

/-! ### Router -/

theorem Keeps.setMapping (h : Keeps r s) {rpdo : Bool} {n j v : Nat} : Keeps r (s.setMapping rpdo n j v).state := by
  unfold State.setMapping
  extract_lets t
  have ht : Keeps r t := h.wr
  refine .iteState h.refused ?_
  split
  · exact h.refused
  · exact ht.done

theorem Keeps.writeMapping (h : Keeps r s) {rpdo : Bool} {n j v : Nat} : Keeps r (s.writeMapping rpdo n j v).state :=
  h.unless h.setMapping

theorem Keeps.clientNonce (h : Keeps r s) {k : Nat} {nonce : List Byte} : Keeps r (s.clientNonce k nonce).state := by
  unfold State.clientNonce
  extract_lets
  refine .iteState ?_ h.refused
  split
  exact ((h.draw.snd ‹_›).modSess).done

theorem Keeps.wrongProof (h : Keeps r s) {k slot : Nat} : Keeps r (s.wrongProof k slot) := by
  unfold State.wrongProof
  extract_lets _ _ _ _ t t1 t2 t3
  have ht : Keeps r t := h.putSess
  have ht1 : Keeps r t1 := ht.putUdpFail
  have ht2 : Keeps r t2 := .ite (.ite ht1.putUdpLock ht1) ht
  have ht3 : Keeps r t3 := ht2.raiseBy
  exact .ite ht3.raiseBy ht3

theorem Keeps.proof (h : Keeps r s) {k : Nat} {data : List Byte} : Keeps r (s.proof k data).state := by
  unfold State.proof
  extract_lets _ _ _ t t1
  have ht : Keeps r t := h.putSess
  have ht1 : Keeps r t1 := .ite ht.putUdpFail ht
  exact .iteState h.refused (.iteState ht1.raiseBy.done h.wrongProof.refused)

theorem Keeps.drop (h : Keeps r s) {k : Nat} : Keeps r (s.drop k).state := h.respond.dropRights.waits

theorem Keeps.clearRefusal (h : Keeps r s) {k : Nat} : Keeps r (s.clearRefusal k).state := h.modSess.done

theorem Keeps.ackEvtN (h : Keeps r s) : Keeps r (s.ackEvtN).state := by
  unfold State.ackEvtN
  extract_lets
  exact (h.lit rfl rfl).done

theorem Keeps.writeHostRing (h : Keeps r s) {v : Nat} : Keeps r (s.writeHostRing v).state := by
  unfold State.writeHostRing
  extract_lets _ t
  have ht : Keeps r t := h.wr
  exact (Keeps.ite ht (ht.lit rfl rfl)).done

theorem Keeps.writeTxC (h : Keeps r s) {n j v : Nat} : Keeps r (s.writeTxC n j v).state := by
  unfold State.writeTxC
  extract_lets t
  have ht : Keeps r t := h.wr
  exact h.unless ht.done

theorem Keeps.writeTest (h : Keeps r s) {e : EntryDef} {n v : Nat} : Keeps r (s.writeTest e n v).state :=
  h.unless h.wr.done

theorem Keeps.writeMatchLine (h : Keeps r s) {x0 v : Nat} : Keeps r (s.writeMatchLine x0 v).state :=
  h.unless h.wr.modHead.done

theorem Keeps.writeOvercoat (h : Keeps r s) {e : EntryDef} {v : Nat} : Keeps r (s.writeOvercoat e v).state :=
  h.unless h.wr.done

theorem Keeps.writeOvercoatPin (h : Keeps r s) {e : EntryDef} {v : Nat} : Keeps r (s.writeOvercoatPin e v).state :=
  h.unless h.wr.raiseIf.done

theorem Stays.writeReset (h : Stays r s) {k : Nat} : Stays r (s.writeReset k).state :=
  ((h.then (Keeps.refl _).respond).resetSelf).waits

theorem Keeps.startFullBist (h : Keeps r s) : Keeps r (s.startFullBist).state := h.unless ((h.lit rfl rfl).done)

theorem Keeps.byEnable {v : Nat} {on off : Effect} (hon : Keeps r on.state) (hoff : Keeps r off.state) :
    Keeps r (byEnable v on off).state := .iteState hoff hon

theorem writesBlock_stays {k : Nat} : ∀ x ∈ writesBlock k, ∀ n d
    {r s : State}, Stays r s → Stays r (x.2 n d s).state := by
  unfold writesBlock
  simp only [List.forall_mem_cons]
  exact ⟨fun _ _ _ _ h => h.then (Keeps.refl _).clientNonce,
    fun _ _ _ _ h => h.then (Keeps.refl _).proof,
    fun _ _ _ _ h => h.then (Keeps.refl _).writeEdid,
    fun _ _ _ _ h => h.then (Keeps.refl _).out.done,
    fun _ _ _ _ h => h.then (Keeps.refl _).writeRoutes,
    fun _ _ _ _ h => h.then (Keeps.refl _).loadBank,
    fun _ _ _ _ h => h.then (Keeps.refl _).loadLut,
    fun _ _ _ _ h => h.then (Keeps.refl _).loadLut3d,
    fun _ _ _ _ h => h.then (Keeps.refl _).writeDesc,
    fun _ _ _ _ h => h.then (Keeps.refl _).writeImage,
    fun _ _ _ _ h => h.then (Keeps.refl _).writeTiles,
    fun _ _ _ _ h => h.then (Keeps.refl _).writeCalibs,
    fun _ _ _ _ h => h.then (Keeps.refl _).sendControl,
    fun _ _ _ _ h => h.then (Keeps.refl _).writeTxMap,
    fun _ _ _ _ h => h.then (Keeps.refl _).writeChannels,
    fun _ _ _ _ h => h.then (Keeps.refl _).writeHeadMap,
    fun _ _ _ _ h => h.then (Keeps.refl _).writeStreams,
    fun _ _ _ _ h => h.then (Keeps.refl _).writeHdcpKeys,
    fun _ _ _ _ h => h.writeKey,
    fun _ _ _ _ h => h.then (Keeps.refl _).sealExport,
    List.forall_mem_nil _⟩

theorem Keeps.writeShadow (h : Keeps r s) {key v : Nat} : Keeps r (s.writeShadow key v) :=
  .ite (h.lit rfl rfl) h.setShadow

theorem Keeps.writeShadowDom (h : Keeps r s) {key : Nat} {d : List Byte} : Keeps r (s.writeShadowDom key d) :=
  .ite (h.lit rfl rfl) h.setDomShadow

theorem Keeps.writeMgmt (h : Keeps r s) {key v : Nat} : Keeps r (s.writeMgmt key v) := h.lit rfl rfl

theorem Keeps.applyScalar (h : Keeps r s) {k : Nat} {e : EntryDef} {key v : Nat} : Keeps r (s.applyScalar k e key v) :=
  .ite h.setWindow (.ite h.writeShadow (.ite h.writeMgmt h.setReg))

theorem Keeps.applyBlock (h : Keeps r s) {e : EntryDef} {key : Nat} {d : List Byte} : Keeps r (s.applyBlock e key d) :=
  .ite h.writeShadowDom h.setDom

theorem writesLow_stays {k : Nat} : ∀ x ∈ writesLow k, ∀ n j v
    {r s : State}, Stays r s → Stays r (x.2 n j v s).state := by
  unfold writesLow
  simp only [List.forall_mem_cons]
  exact ⟨fun _ _ _ _ _ h => h.then (Keeps.refl _).store,
    fun _ _ _ _ _ h => h.then (Keeps.refl _).restore,
    fun _ _ _ _ _ h => h.then (Keeps.refl _).writeMapping,
    fun _ _ _ _ _ h => h.then (Keeps.refl _).writeMapping,
    fun _ _ _ _ _ h => h.then (Keeps.refl _).writeRequest,
    fun _ _ _ _ _ h => h.writeReset,
    fun _ _ _ _ _ h => h.then (Keeps.refl _).startFullBist,
    fun _ _ _ _ _ h => h.then (Keeps.refl _).confirmLifecycle,
    fun _ _ _ _ _ h => h.then (Keeps.refl _).modSess.done,
    fun _ _ _ _ _ h => h.then (Keeps.refl _).modSess.done,
    fun _ _ _ _ _ h => h.then (Keeps.refl _).drop,
    fun _ _ _ _ _ h => h.then (Keeps.refl _).clearRefusal,
    fun _ _ _ _ _ h => h.then (Keeps.refl _).modSess.done,
    fun _ _ _ _ _ h => h.then (Keeps.refl _).modSess.done,
    fun _ _ _ _ _ h => h.then (Keeps.refl _).ackEvtN,
    fun _ _ _ _ _ h => h.then (Keeps.refl _).writeHostRing,
    fun _ _ _ _ _ h => h.then (Keeps.refl _).writeLoopMode,
    fun _ _ _ _ _ h => h.then (Keeps.refl _).writeSteerFreq,
    fun _ _ _ _ _ h => h.then (Keeps.refl _).writeSteerPhase,
    fun _ _ _ _ _ h => h.then (Keeps.refl _).writeSlewLimit,
    fun _ _ _ _ _ h => h.then (.iteState (Keeps.refl _).align (Keeps.refl _).endSlew.done),
    fun _ _ _ _ _ h => h.then (Keeps.refl _).writeClkOut.done,
    fun _ _ _ _ _ h => h.then (Keeps.refl _).writeClkOut.done,
    fun _ _ _ _ _ h => h.then (.byEnable (Keeps.refl _).enableRef (Keeps.refl _).disableRef),
    fun _ _ _ _ _ h => h.then (Keeps.refl _).writeRefType,
    fun _ _ _ _ _ h => h.then (Keeps.refl _).writeRefRange,
    fun _ _ _ _ _ h => h.then (Keeps.refl _).writeRefRange,
    fun _ _ _ _ _ h => h.then (Keeps.refl _).writeSelection,
    fun _ _ _ _ _ h => h.then (Keeps.refl _).writeSelection,
    fun _ _ _ _ _ h => h.then (Keeps.refl _).writeSelection,
    fun _ _ _ _ _ h => h.then (.byEnable (Keeps.refl _).enableFtg (Keeps.refl _).disableFtg),
    fun _ _ _ _ _ h => h.then (Keeps.refl _).writeHoldWindow,
    fun _ _ _ _ _ h => h.then (Keeps.refl _).writeHoldWindow,
    fun _ _ _ _ _ h => h.then (Keeps.refl _).setTime,
    fun _ _ _ _ _ h => h.then (Keeps.refl _).writeSpare,
    fun _ _ _ _ _ h => h.then (Keeps.refl _).writeTxC,
    fun _ _ _ _ _ h => h.then (Keeps.refl _).writeTest,
    fun _ _ _ _ _ h => h.then (Keeps.refl _).writeTest,
    fun _ _ _ _ _ h => h.then (Keeps.refl _).writeTest,
    fun _ _ _ _ _ h => h.then (.byEnable (Keeps.refl _).portUp (Keeps.refl _).portDown),
    fun _ _ _ _ _ h => h.then (Keeps.refl _).writePortType,
    fun _ _ _ _ _ h => h.then (Keeps.refl _).writeFirstLane,
    fun _ _ _ _ _ h => h.then (.byEnable (Keeps.refl _).groupUp (Keeps.refl _).groupDown),
    fun _ _ _ _ _ h => h.then (Keeps.refl _).wr.liveWritten.done,
    fun _ _ _ _ _ h => h.then (Keeps.refl _).wr.liveWritten.done,
    fun _ _ _ _ _ h => h.then (Keeps.refl _).writeTargetSpeed,
    fun _ _ _ _ _ h => h.then (Keeps.refl _).wr.tellAspm.done,
    List.forall_mem_nil _⟩

theorem writesHigh_stays {how k : Nat} :
    ∀ x ∈ writesHigh how k, ∀ n j v {r s : State}, Stays r s → Stays r (x.2 n j v s).state := by
  unfold writesHigh
  simp only [List.forall_mem_cons]
  exact ⟨fun _ _ _ _ _ h => h.then (.byEnable (Keeps.refl _).enableInput (Keeps.refl _).disableInput),
    fun _ _ _ _ _ h => h.then (.byEnable (Keeps.refl _).enableSurface (Keeps.refl _).disableSurface),
    fun _ _ _ _ _ h => h.then (Keeps.refl _).flip,
    fun _ _ _ _ _ h => h.then (Keeps.refl _).writePlayerEnable,
    fun _ _ _ _ _ h => h.then (Keeps.refl _).writeTransport,
    fun _ _ _ _ _ h => h.then (.iteState (Keeps.refl _).receiveSingle (Keeps.refl _).discard),
    fun _ _ _ _ _ h => h.then (.iteState (Keeps.refl _).receiveSingle (Keeps.refl _).discard),
    fun _ _ _ _ _ h => h.then (Keeps.refl _).receiveGroup,
    fun _ _ _ _ _ h => h.then (Keeps.refl _).requestSwitch,
    fun _ _ _ _ _ h => h.then (Keeps.refl _).writeReserve,
    fun _ _ _ _ _ h => h.then (Keeps.refl _).clearEngines.done,
    fun _ _ _ _ _ h => h.then (.byEnable (Keeps.refl _).enableCanvas (Keeps.refl _).disableCanvas),
    fun _ _ _ _ _ h => h.then (Keeps.refl _).writeOvercoatPin,
    fun _ _ _ _ _ h => h.then (Keeps.refl _).writeOvercoatPin,
    fun _ _ _ _ _ h => h.then (Keeps.refl _).writeOvercoat,
    fun _ _ _ _ _ h => h.then (Keeps.refl _).writeOvercoat,
    fun _ _ _ _ _ h => h.then (Keeps.refl _).clearLatch,
    fun _ _ _ _ _ h => h.then (Keeps.refl _).rebuildLinings.done,
    fun _ _ _ _ _ h => h.then (.byEnable (Keeps.refl _).enableHead (Keeps.refl _).disableHead),
    fun _ _ _ _ _ h => h.then (Keeps.refl _).clearSafe,
    fun _ _ _ _ _ h => h.then (Keeps.refl _).receiveSingle,
    fun _ _ _ _ _ h => h.then (Keeps.refl _).clearLegacy,
    fun _ _ _ _ _ h => h.then (Keeps.refl _).clearLegacy,
    fun _ _ _ _ _ h => h.then (Keeps.refl _).clearLegacy,
    fun _ _ _ _ _ h => h.then (Keeps.refl _).clearLegacy,
    fun _ _ _ _ _ h => h.then (Keeps.refl _).writeMatchLine,
    fun _ _ _ _ _ h => h.then (Keeps.refl _).writeKeySlot,
    fun _ _ _ _ _ h => h.then (Keeps.refl _).startRekey.done,
    fun _ _ _ _ _ h => h.then (Keeps.refl _).writeGeneration,
    fun _ _ _ _ _ h => h.then (.byEnable (Keeps.refl _).enableSap (Keeps.refl _).disableSap),
    fun _ _ _ _ _ h => h.then (Keeps.refl _).setMatrixRate.done,
    fun _ _ _ _ _ h => h.then (Keeps.refl _).wr.startAlone.done,
    fun _ _ _ _ _ h => h.then (Keeps.refl _).wr.startAlone.done,
    fun _ _ _ _ _ h => h.then (Keeps.ite (Keeps.refl _).triggerStart (Keeps.refl _).triggerStop).done,
    fun _ _ _ _ _ h => h.then (Keeps.refl _).writePartition,
    fun _ _ _ _ _ h => h.then (Keeps.refl _).writePartition,
    fun _ _ _ _ _ h => h.then (Keeps.refl _).writeDram,
    fun _ _ _ _ _ h => h.then (Keeps.refl _).writeDram,
    fun _ _ _ _ _ h => h.then (Keeps.refl _).writeDram,
    fun _ _ _ _ _ h => h.then (Keeps.refl _).writeDram,
    fun _ _ _ _ _ h => h.then (Keeps.refl _).writeDram,
    fun _ _ _ _ _ h => h.then (Keeps.refl _).enablePocket,
    fun _ _ _ _ _ h => h.then (Keeps.refl _).formatDrives,
    fun _ _ _ _ _ h => h.then (Keeps.refl _).deleteClip,
    fun _ _ _ _ _ h => h.then (Keeps.refl _).captureCommand,
    fun _ _ _ _ _ h => h.writeHoldRetire,
    fun _ _ _ _ _ h => h.then (Keeps.refl _).clearPatch,
    fun _ _ _ _ _ h => h.then (Keeps.refl _).clearWeights,
    fun _ _ _ _ _ h => h.then ((Keeps.refl _).unless (Keeps.refl _).wr.done),
    fun _ _ _ _ _ h => h.then (Keeps.refl _).writeWrapSlot,
    fun _ _ _ _ _ h => h.then (Keeps.refl _).eraseKey,
    fun _ _ _ _ _ h => h.then (Keeps.refl _).shutdown,
    List.forall_mem_nil _⟩

theorem valueOf_mem {α : Type} {e : EntryDef} {l : List (EntryDef × α)} {v : α} (h : valueOf e l = some v) :
    ∃ x ∈ l, x.2 = v := by
  obtain ⟨x, hx, rfl⟩ := Option.map_eq_some_iff.mp h
  exact ⟨x, List.mem_of_find?_eq_some hx, rfl⟩

theorem Stays.effect (h : Stays r s) {how k : Nat} {e : EntryDef} {index sub : Nat} {data : List Byte} :
    Stays r (s.effect how k e index sub data).state := by
  unfold State.effect
  extract_lets n j key
  refine .iteState ?_ ?_
  · split
    · next e =>
      obtain ⟨x, hx, rfl⟩ := valueOf_mem e
      exact writesBlock_stays x hx _ _ h
    · exact h.unless (h.then (Keeps.refl _).applyBlock.done)
  · split
    · next e =>
      obtain ⟨x, hx, rfl⟩ := valueOf_mem e
      split at hx
      · exact writesLow_stays x hx _ _ _ h
      · exact writesHigh_stays x hx _ _ _ h
    · exact h.then (Keeps.refl _).applyScalar.done

theorem Stays.dictWrite (h : Stays r s) {k index sub : Nat} {data : List Byte}
    : Stays r (s.dictWrite k index sub data) :=
  h.write fun _ _ hu => hu.effect

theorem Stays.writeEach {how k : Nat} {l : List (Nat × Nat × List Byte)} {t : State} (h : Stays r s)
    (e : s.writeEach how k l = .ok t) : Stays r t := by
  induction l generalizing s with
  | nil => cases e; exact h
  | cons a l ih =>
    obtain ⟨index, sub, d⟩ := a
    unfold State.writeEach at e
    split at e
    · cases e
    · next x _ =>
      have hx : Stays r (s.effect how k x index sub d).state := h.effect
      split at e
      · cases e
      · next ex => rw [ex] at hx; exact ih hx e
      · next ex => rw [ex] at hx; exact ih hx e

theorem Stays.effectEach {how k : Nat} {l : List (Nat × Nat × List Byte)} {t : State} (h : Stays r s)
    (e : s.effectEach how k l = .ok t) : Stays r t := by
  induction l generalizing s with
  | nil => cases e; exact h
  | cons a l ih =>
    obtain ⟨index, sub, d⟩ := a
    unfold State.effectEach at e
    split at e
    · cases e
    · next x _ =>
      have hx : Stays r (s.effect how k x index sub d).state := h.effect
      split at e
      · cases e
      · next ex => rw [ex] at hx; exact ih hx e
      · next ex => rw [ex] at hx; exact ih hx e

theorem Keeps.ringRead (h : Keeps r s) {status consumer : Nat} : Keeps r (s.ringRead status consumer) := by
  unfold State.ringRead
  refine .ite (.ite ?_ ?_) h
  · extract_lets
    exact h.lit rfl rfl
  · extract_lets s1
    have hs1 : Keeps r s1 := h.wr
    exact (hs1.lit rfl rfl).raise

/-! ### Transports -/

theorem Keeps.readWhole (h : Keeps r s) {k limit index sub : Nat} : Keeps r (s.readWhole k limit index sub) := by
  unfold State.readWhole
  split
  · exact h.refuseRead
  · next e => exact (h.fetch e).respond

theorem Keeps.blockSource (h : Keeps r s) {k index sub offset : Nat} {data : List Byte} {t : State}
    (e : s.blockSource k index sub offset = .ok (data, t)) : Keeps r t := by
  unfold State.blockSource at e
  split at e
  · split at e
    · split at e
      · cases e
      · cases e; exact h
    · exact h.fetch e
  · exact h.fetch e

theorem Keeps.readSegment (h : Keeps r s) {k limit index sub offset : Nat} :
    Keeps r (s.readSegment k limit index sub offset) := by
  unfold State.readSegment
  split
  · exact h.refuseRead
  · next e => exact (h.blockSource e).modSess.respond

theorem Stays.writeSegment (h : Stays r s) {k index sub offset : Nat} {data : List Byte} {more : Bool}
    : Stays r (s.writeSegment k index sub offset data more) := by
  unfold State.writeSegment
  split
  · exact h.then (Keeps.refl _).abort
  · extract_lets _ t
    have ht : Stays r t := h.then (Keeps.refl _).modSess
    refine .ite ?_ ht.dictWrite
    split
    · exact ht.then (Keeps.refl _).refuseWrite
    · exact h.then (Keeps.refl _).modSess.respond

theorem Keeps.rejectTag (h : Keeps r s) {session source : Nat} : Keeps r (s.rejectTag session source) := by
  unfold State.rejectTag
  extract_lets s1 __src
  have hs1 : Keeps r s1 := h.inc
  have h__src : Keeps r __src := hs1.raise
  exact .ite (h__src.lit rfl rfl) hs1

theorem Keeps.queueAsked (h : Keeps r s) {k : Nat} {a : Asked} : Keeps r (s.queueAsked k a) := h.modSess

theorem Stays.udpServe (h
    : Stays r s) {op k : Nat} {d : UdpDatagram} {lead : List Byte} {shape : Bool} {serve : State → State}
    (hserve : ∀ u, Stays r u → Stays r (serve u)) : Stays r (s.udpServe op k d lead shape serve) := by
  unfold State.udpServe
  extract_lets _ u _ v w
  have hu : Stays r u := h.then (Keeps.refl _).actBy.modSess
  have hv : Stays r v := hu.then (Keeps.refl _).modSess
  have hw : Stays r w :=
    .ite (hv.then (Keeps.refl _).abort) (.ite (hv.then (Keeps.refl _).noteRefusal.abort) (hserve v hv))
  exact .ite (.ite hu (hu.then (Keeps.refl _).out)) (.ite hu (hw.then (Keeps.refl _).queueAsked))

theorem Stays.udpReceive (h
    : Stays r s) {op : Nat} {d : UdpDatagram} {lead : List Byte} {shape : Bool} {serve : Nat → State → State}
    (hserve : ∀ k u, Stays r u → Stays r (serve k u)) : Stays r (s.udpReceive op d lead shape serve) := by
  unfold State.udpReceive
  refine .ite ?_ h
  split
  · exact h.then (Keeps.refl _).rejectTag
  · exact .ite (h.udpServe (hserve _)) (h.then (Keeps.refl _).rejectTag)

theorem Keeps.refuseRecord (h : Keeps r s) {at_ : State} {k index i j : Nat} {x0 : Refuse}
    : Keeps r (s.refuseRecord at_ k index i j x0) :=
  h.noteRefusal.tellRefused.abort

theorem Stays.udpCommit (h : Stays r s) {k index sub : Nat} {records : List (Nat × Nat × List Byte)} :
    Stays r (s.udpCommit k index sub records) := by
  unfold State.udpCommit
  extract_lets l
  split
  · exact h.then (Keeps.refl _).refuseRecord
  · split
    · next e => exact h.effectEach e
    · exact h.then (Keeps.refl _).refuseRecord

theorem Keeps.subscribe (h : Keeps r s) {k index severity : Nat} : Keeps r (s.subscribe k index severity) := by
  unfold State.subscribe
  extract_lets _ s1
  have hs1 : Keeps r s1 := .ite (h.lit rfl rfl) h
  exact hs1.modSess.respond

theorem Keeps.udpOpenSession (h : Keeps r s) {d : UdpDatagram} {a : Asked} : Keeps r (s.udpOpenSession d a) := by
  unfold State.udpOpenSession
  extract_lets
  split
  · split
    extract_lets _ _ _ s1
    have hs1 : Keeps r s1 := (h.draw.snd ‹_›).putSess
    exact hs1.raiseBy.out
  · exact h.out
  · exact h

theorem Keeps.udpAuth1 (h : Keeps r s) {d : UdpDatagram} : Keeps r (s.udpAuth1 d) := by
  unfold State.udpAuth1
  refine .ite (.ite h.rejectTag ?_) h
  extract_lets
  exact .ite h.udpOpenSession h.out

theorem Keeps.udpAuth2 (h : Keeps r s) {k index : Nat} {proof : List Byte} : Keeps r (s.udpAuth2 k index proof) := by
  have hp : Keeps r (s.proof k proof).state := h.proof
  unfold State.udpAuth2
  split
  · next e => rw [e] at hp; exact Keeps.abort (Keeps.raiseBy (Keeps.noteRefusal hp))
  · next e => rw [e] at hp; exact Keeps.respond hp
  · next e => rw [e] at hp; exact hp

theorem Keeps.misoIdles (h : Keeps r s) {f : SpiFrame} : Keeps r (s.misoIdles f) := h.out

theorem Stays.spiRequest (h : Stays r s) {op : Nat} {f : SpiFrame} {shape : Bool} {serve : State → State}
    (hserve : ∀ u, Stays r u → Stays r (serve u)) : Stays r (s.spiRequest op f shape serve) := by
  unfold State.spiRequest
  refine .ite ?_ h
  extract_lets u v
  have hu : Stays r u := h.then (Keeps.refl _).actBy.misoIdles
  have hv : Stays r v := hu.then ((Keeps.refl _).lit rfl rfl)
  exact .ite (hu.then (Keeps.refl _).inc) (.ite hu (.ite (hserve v hv) (hv.then (Keeps.refl _).abort)))

theorem Stays.mailboxGo (h : Stays r s) {op : Nat} {q : MbRequest} {shape : Bool} {serve : Nat → Nat → State → State}
    (hserve : ∀ i j u, Stays r u → Stays r (serve i j u)) : Stays r (s.mailboxGo op q shape serve) := by
  unfold State.mailboxGo
  refine .ite ?_ h
  extract_lets i m u v
  have hu : Stays r u := h.then (Keeps.refl _).actBy
  have hv : Stays r v := hu.then ((Keeps.refl _).lit rfl rfl)
  exact .ite (hserve _ _ v hv) (hv.then (Keeps.refl _).abort)

theorem Keeps.refuseDoorbell (h : Keeps r s) {offset index sub : Nat} {x0 : Refuse}
    : Keeps r (s.refuseDoorbell offset index sub x0) :=
  h.noteRefusal.raiseBy

theorem Keeps.writeMsix (h : Keeps r s) {offset value : Nat} : Keeps r (s.writeMsix offset value) :=
  .ite (h.lit rfl rfl) h

theorem Stays.ring (h : Stays r s) {offset value : Nat} : Stays r (s.ring offset value) := by
  unfold State.ring
  extract_lets u
  have hu : Stays r u := h.then (Keeps.refl _).actBy
  split
  · exact hu
  next index sub _ =>
    extract_lets size data
    refine .ite (hu.then (Keeps.refl _).refuseDoorbell) ?_
    split
    · exact hu.then (Keeps.refl _).refuseDoorbell
    · next x _ =>
      have hx : Stays r (u.effect offset 3 x index sub data).state := hu.effect
      split
      · next ex => rw [ex] at hx; exact Stays.then hx (Keeps.refl _).refuseDoorbell
      · next ex => rw [ex] at hx; exact hx
      · next ex => rw [ex] at hx; exact hx

/-! ### Canopen -/

theorem Keeps.canSend (h : Keeps r s) {i id : Nat} {data : List Byte} : Keeps r (s.canSend i id data) := h.out

theorem Keeps.bootUp (h : Keeps r s) {i : Nat} : Keeps r (s.bootUp i) := h.modCan.canSend

theorem Keeps.nmtIgnored (h : Keeps r s) {i command : Nat} : Keeps r (s.nmtIgnored i command) := h.raiseBy

theorem Keeps.nmtObeyed (h : Keeps r s) {i command : Nat} : Keeps r (s.nmtObeyed i command) := h.raiseBy

theorem Keeps.setNmt (h : Keeps r s) {i n : Nat} : Keeps r (s.setNmt i n) := h.modCan

theorem Stays.nmtChange (h : Stays r s) {i command n : Nat} {changes : Bool} {change : State → Effect}
    (hchange : ∀ u, Stays r u → Stays r (change u).state) : Stays r (s.nmtChange i command n changes change) := by
  unfold State.nmtChange
  extract_lets u
  have hu : Stays r u := h.then (Keeps.refl _).actBy
  have hc : Stays r (change u).state := hchange u hu
  refine .ite (.ite (.ite (hu.then (Keeps.refl _).nmtIgnored) ?_) (hu.then (Keeps.refl _).setNmt.nmtObeyed)) hu
  split
  · exact hu.then (Keeps.refl _).nmtIgnored
  · next e => rw [e] at hc; exact Stays.then hc (Keeps.refl _).setNmt.nmtObeyed
  · next e => rw [e] at hc; exact Stays.then hc (Keeps.refl _).setNmt.nmtObeyed

theorem Keeps.reloadObjects (h : Keeps r s) : Keeps r s.reloadObjects := by
  unfold State.reloadObjects
  extract_lets _ _ _ s1
  have hs1 : Keeps r s1 := h.lit rfl rfl
  exact hs1.foldl fun _ _ h1 => h1.setReg

theorem Keeps.resetCommunication (h : Keeps r s) {i : Nat} : Keeps r (s.resetCommunication i) := by
  unfold State.resetCommunication
  extract_lets s1 s2
  have hs1 : Keeps r s1 := h.actBy.reloadObjects.dropRights
  have hs2 : Keeps r s2 := hs1.modCan
  exact hs2.bootUp

theorem Stays.nmtResetNode (h : Stays r s) {i : Nat} : Stays r (s.nmtResetNode i) :=
  .ite (.ite (.ite (h.then (Keeps.refl _).nmtIgnored) ((h.then (Keeps.refl _).actBy.raiseBy).resetSelf))
    (h.then (Keeps.refl _).resetCommunication.nmtObeyed)) h

theorem Stays.applyRpdo (h : Stays r s) {i n : Nat} {payload : List Byte} : Stays r (s.applyRpdo i n payload) := by
  unfold State.applyRpdo
  split
  · next e => exact (h.then (Keeps.refl _).actBy).writeEach e
  · exact h.then (Keeps.refl _).noteRefusal.raiseBy

theorem Stays.receiveRpdo (h : Stays r s) {i n : Nat} {payload : List Byte} : Stays r (s.receiveRpdo i n payload) :=
  .ite (.ite (h.then (Keeps.refl _).modCan) h.applyRpdo) h

theorem Keeps.sendTpdo (h : Keeps r s) {i n : Nat} : Keeps r (s.sendTpdo i n) := by
  unfold State.sendTpdo
  extract_lets
  exact h.modCan.canSend

theorem Keeps.syncTpdo (h : Keeps r s) {i n : Nat} : Keeps r (s.syncTpdo i n) := by
  unfold State.syncTpdo
  extract_lets _ _ s1
  have hs1 : Keeps r s1 := h.modCan
  exact .ite (.ite (.ite h.sendTpdo h) (.ite hs1.sendTpdo hs1)) h

theorem Stays.sync (h : Stays r s) {i : Nat} : Stays r (s.sync i) := by
  unfold State.sync
  refine .ite ?_ h
  extract_lets _ s1 s2
  have hs1 : Stays r s1 := h.then (Keeps.refl _).modCan
  have hs2 : Stays r s2 := hs1.foldl fun _ _ h1 => h1.applyRpdo
  exact hs2.foldl fun _ _ h1 => h1.then (Keeps.refl _).syncTpdo

theorem Keeps.checkTpdo (h : Keeps r s) {i n : Nat} : Keeps r (s.checkTpdo i n) := by
  unfold State.checkTpdo
  extract_lets
  exact .ite h.sendTpdo h

theorem Keeps.heartbeat (h : Keeps r s) {i : Nat} : Keeps r (s.heartbeat i) := by
  unfold State.heartbeat
  extract_lets
  exact .ite (.ite h.bootUp (.ite h.modCan.canSend h)) h

/-! ### Governor -/

theorem Keeps.timerTick (h : Keeps r s) {t : Telemetry} : Keeps r (s.timerTick t) := .ite h.governorTick h

theorem Keeps.avsFailed (h : Keeps r s) {i mv : Nat} : Keeps r (s.avsFailed i mv) := by
  unfold State.avsFailed
  extract_lets _ _ s1
  have hs1 : Keeps r s1 := h.lit rfl rfl
  exact .ite ((hs1.lit rfl rfl).raise) hs1

theorem Keeps.avsRun (h : Keeps r s) {i : Nat} {ok : Bool} {pace mv : Nat} : Keeps r (s.avsRun i ok pace mv) := by
  unfold State.avsRun
  extract_lets _ _ s1 s2 s3 _ s4
  have hs1 : Keeps r s1 := h.lit rfl rfl
  have hs2 : Keeps r s2 := hs1.wr
  have hs3 : Keeps r s3 := hs2.wr
  have hs4 : Keeps r s4 := hs3.lit rfl rfl
  exact .ite (.ite (.ite hs4 hs4.out.wr) hs3.avsFailed) h

theorem Keeps.measureBudget (h : Keeps r s) {high period : Nat} : Keeps r (s.measureBudget high period) := by
  unfold State.measureBudget
  refine .ite ?_ h
  extract_lets
  exact h.lit rfl rfl

theorem Keeps.budgetLost (h : Keeps r s) : Keeps r s.budgetLost := .ite ((h.lit rfl rfl).raisePin) h

/-! ### ConfigLoad -/

theorem Keeps.loadTables (h : Keeps r s) : Keeps r s.loadTables := by
  unfold State.loadTables
  extract_lets _ _ _ _ _ _ _ _ s1 s2 s3 s4 s5 s6
  have hs1 : Keeps r s1 := h.lit rfl rfl
  have hs2 : Keeps r s2 := hs1.foldl fun _ _ h1 => h1.joinRoute
  have hs3 : Keeps r s3 := hs2.foldl fun _ _ h1 => h1.putStreamEntry
  have hs4 : Keeps r s4 := hs3.wr
  have hs5 : Keeps r s5 := hs4.wr
  have hs6 : Keeps r s6 := hs5.wr
  exact hs6.wr.countImages

theorem Keeps.loadRefused (h : Keeps r s) {key : Nat} {x0 : Refuse} : Keeps r (s.loadRefused key x0) := h.raise

theorem Stays.loadField (h : Stays r s) {key : Nat} {data : List Byte} : Stays r (s.loadField key data) := by
  unfold State.loadField
  extract_lets index sub
  split
  · exact h.then (Keeps.refl _).loadRefused
  · next e _ =>
    have he : Stays r (if e = Dict.RPDO_MAP_ENTRY then s.setMapping true (index - e.base) (sub - e.lo) (leNat data)
        else if e = Dict.TPDO_MAP_ENTRY then s.setMapping false (index - e.base) (sub - e.lo) (leNat data)
        else s.effect plainly 0xFF e index sub data).state :=
      .iteState (h.then (Keeps.refl _).setMapping) (.iteState (h.then (Keeps.refl _).setMapping) h.effect)
    refine .ite (.ite (h.then (Keeps.refl _).setDom.setDomShadow) (h.then (Keeps.refl _).setReg.setShadow))
      (.ite (h.then (Keeps.refl _).setReg) ?_)
    split
    · next ex => rw [ex] at he; exact Stays.then he (Keeps.refl _).loadRefused
    · next ex => rw [ex] at he; exact he
    · next ex => rw [ex] at he; exact he

theorem Keeps.enableRefused (h : Keeps r s) {key : Nat} {x0 : Refuse} : Keeps r (s.enableRefused key x0) := h.raise

theorem Stays.loadEnable (h : Stays r s) {e : EntryDef} {n : Nat} : Stays r (s.loadEnable e n) := by
  have he : Stays r (s.effect plainly 0xFF e (e.base + n) e.lo [1]).state := h.effect
  refine .ite ?_ h
  split
  · next ex => rw [ex] at he; exact Stays.then he (Keeps.refl _).enableRefused
  · next ex => rw [ex] at he; exact he
  · next ex => rw [ex] at he; exact he

theorem Stays.loadEnables (h : Stays r s) {e : EntryDef} {count : Nat} : Stays r (s.loadEnables e count) :=
  h.foldl fun _ _ h1 => h1.loadEnable

theorem Keeps.loadStream (h : Keeps r s) {k : Nat} : Keeps r (s.loadStream k) := by
  unfold State.loadStream
  refine .ite ?_ h
  extract_lets _ t
  have ht : Keeps r t := h.setStream
  split
  · exact h.enableRefused
  · exact ht.settleDelay.startAlone

theorem Stays.loadStarts (h : Stays r s) : Stays r s.loadStarts := by
  unfold State.loadStarts
  extract_lets s1 s2 s3 s4 s5 s6 s7 s8 s9 _ s10
  have hs1 : Stays r s1 := h.loadEnables
  have hs2 : Stays r s2 := hs1.loadEnables
  have hs3 : Stays r s3 := hs2.loadEnables
  have hs4 : Stays r s4 := hs3.loadEnables
  have hs5 : Stays r s5 := hs4.loadEnables
  have hs6 : Stays r s6 := hs5.loadEnables
  have hs7 : Stays r s7 := hs6.loadEnables
  have hs8 : Stays r s8 := hs7.loadEnables
  have hs9 : Stays r s9 := hs8.foldl fun _ _ h1 => h1.then (Keeps.refl _).loadStream
  have hs10 : Stays r s10 := hs9.foldl fun _ _ h1 => h1.loadEnable
  exact hs10.foldl fun _ _ h1 => h1.loadEnable

theorem Stays.loadConfig (h : Stays r s) : Stays r s.loadConfig := by
  unfold State.loadConfig
  extract_lets _ s1 s2 s3
  have hs1 : Stays r s1 := h.then ((Keeps.refl _).lit rfl rfl)
  have hs2 : Stays r s2 := hs1.then (Keeps.refl _).loadTables
  have hs3 : Stays r s3 := hs2.foldl fun _ _ h1 => h1.loadField
  split
  extract_lets _ _ s4 _ s5 s6
  have hs4 : Stays r s4 := (((hs3.then (Keeps.refl _).draw).snd ‹_›).then ((Keeps.refl _).lit rfl rfl)).then
    (Keeps.refl _).judgePtlKey
  have hs5 : Stays r s5 := hs4.then ((Keeps.refl _).lit rfl rfl)
  have hs6 : Stays r s6 := hs5.loadStarts
  exact ((hs6.then (Keeps.refl _).takeBuffers).foldl fun _ _ h1 => h1.then (Keeps.refl _).takeWriteBack).then
    (Keeps.refl _).inUse.countTiles

/-! ### Startup -/

theorem Stays.failBist (h : Stays r s) {kind unit : Nat} : Stays r (s.failBist kind unit) :=
  h.permanentOne.then (Keeps.refl _).endCopy

theorem Stays.endBist (h : Stays r s) {engines banks : List Nat} : Stays r (s.endBist engines banks) := by
  unfold State.endBist
  refine .ite ?_ h
  extract_lets _ _ s1 s2 _ s3
  have hs1 : Stays r s1 := h.foldl fun _ _ h1 => h1.failBist
  have hs2 : Stays r s2 := hs1.foldl fun _ _ h1 => h1.failBist
  have hs3 : Stays r s3 := (hs2.then ((Keeps.refl _).lit rfl rfl)).then (Keeps.refl _).wr
  exact hs3.then (Keeps.refl _).milestone.raise

theorem Stays.endTraining (h : Stays r s) {identity : Nat} {verified : Bool} {failed : List Nat}
    : Stays r (s.endTraining identity verified failed) := by
  unfold State.endTraining
  extract_lets _ _ _ _ _ s1 _ s2 _ s3 s4 s5
  have hs1 : Stays r s1 := h.then (Keeps.refl _).wr.wr
  have hs2 : Stays r s2 := (hs1.then ((Keeps.refl _).lit rfl rfl)).then (Keeps.refl _).wr
  have hs3 : Stays r s3 := .ite hs2 (.ite (hs2.then ((Keeps.refl _).lit rfl rfl))
    (hs2.then ((Keeps.refl _).lit rfl rfl)))
  have hs4 : Stays r s4 := .ite hs3 (hs3.foldl fun _ _ h1 => .ite h1.hardFault h1)
  have hs5 : Stays r s5 := hs4.then (Keeps.refl _).wr.milestone
  exact .ite (hs5.then (Keeps.refl _).raise) h

theorem Stays.endLoad (h : Stays r s) : Stays r s.endLoad := by
  unfold State.endLoad
  refine .ite ?_ h
  extract_lets _ s1 s2 s3 _ s4 s5 s6 s7 s8
  have hs1 : Stays r s1 := h.then (Keeps.refl _).enterState
  have hs2 : Stays r s2 := hs1.loadConfig
  have hs3 : Stays r s3 := hs2.then (Keeps.refl _).wr
  have hs4 : Stays r s4 := hs3.then ((Keeps.refl _).lit rfl rfl)
  have hs5 : Stays r s5 := hs4.foldl fun _ _ h1 => h1.then (Keeps.refl _).openSess
  have hs6 : Stays r s6 := hs5.foldl fun _ _ h1 => .ite (h1.then (Keeps.refl _).bootUp) h1
  have hs7 : Stays r s7 := hs6.then (Keeps.refl _).raiseIf
  have hs8 : Stays r s8 := .ite (hs7.then (Keeps.refl _).milestone) hs7
  exact hs8.then ((Keeps.refl _).lit rfl rfl)

theorem Keeps.endFullBist (h : Keeps r s) {failures : List (Nat × Nat)} : Keeps r (s.endFullBist failures) :=
  .ite (h.lit rfl rfl) h

theorem Keeps.autoRun (h : Keeps r s) : Keeps r s.autoRun := by
  unfold State.autoRun
  extract_lets _ u
  have hu : Keeps r (u.requestRun 0xFF).state := (h.lit rfl rfl : Keeps r u).requestRun
  split
  · next e => rw [e] at hu; exact Keeps.raise hu
  · next e => rw [e] at hu; exact hu
  · next e => rw [e] at hu; exact hu

theorem Keeps.autoRunLate (h : Keeps r s) : Keeps r s.autoRunLate := by
  unfold State.autoRunLate
  extract_lets
  exact .ite h.raise.autoRun h

/-! ### Jtag -/

theorem Keeps.tapClock (h : Keeps r s) {tms tdi : Bool} : Keeps r (s.tapClock tms tdi) := by
  unfold State.tapClock
  extract_lets
  exact .ite (h.lit rfl rfl) (h.lit rfl rfl)

theorem Keeps.driveTrst (h : Keeps r s) {level : Bool} : Keeps r (s.driveTrst level) := h.lit rfl rfl

/-! ### Proofs: the end of the write floor (R468, R470) -/

theorem Keeps.floorCleared (h : Keeps r s) : Keeps r s.floorCleared := by
  unfold State.floorCleared
  extract_lets __src
  have h__src : Keeps r __src := h.wr.wr
  exact h__src.lit rfl rfl

theorem Keeps.floorEnded (h : Keeps r s) : Keeps r s.floorEnded := h.floorCleared.raise

end

end Sys2Proof.Machine
end

-- ==== Proofs: what a command may write of the host surface region (R210, R356, R358) ====
section
/-! PROOFS. Where the functions that write the host surface region write, what every command does to the queue
and to the region, and the obligations that follow (O54 to O60). -/
namespace Sys2Proof.Machine
open Sys2Proof
set_option Elab.async false

/-- `t` has the queue of `r` and, outside the addresses `A`, the bytes of its host surface region, whose canonical form it
keeps. -/
structure WritesIn (A : Nat → Prop) (r t : State) : Prop where
  pending : t.pending = r.pending
  bytes : ∀ p, ¬ A p → t.hostByte p = r.hostByte p
  canonical : Memory.wf r.dram.host = true → Memory.wf t.dram.host = true

section
variable {A : Nat → Prop} {r s t : State}

theorem Keeps.hostByte (h : Keeps r t) (p : Nat) : t.hostByte p = r.hostByte p :=
  congrArg (fun m => Store.read blankByte m p) h.2

theorem WritesIn.refl (s : State) : WritesIn A s s := ⟨rfl, fun _ _ => rfl, id⟩

theorem WritesIn.then (h : WritesIn A r s) (k : Keeps s t) : WritesIn A r t :=
  ⟨k.1.trans h.pending, fun p hp => (k.hostByte p).trans (h.bytes p hp), fun hr => k.2 ▸ h.canonical hr⟩

theorem WritesIn.setHostBytes (h : WritesIn A r s) {a : Nat} {d : List Byte} (hA : ∀ p, a ≤ p → p < a + d.length → A p) :
    WritesIn A r (s.setHostBytes a d) where
  pending := (State.setHostBytes_pending ..).trans h.pending
  bytes p hp := by
    rw [State.setHostBytes_other _ _ _ _ (by by_contra hin; exact hp (hA p (by omega) (by omega)))]
    exact h.bytes p hp
  canonical hr := State.setHostBytes_wf _ _ _ (h.canonical hr)

end

theorem State.setHostBytes_regs (s : State) (a : Nat) (d : List Byte) : (s.setHostBytes a d).regs = s.regs := by
  rw [State.setHostBytes_eq]

theorem State.setHostBytes_canvases (s : State) (a : Nat) (d : List Byte) : (s.setHostBytes a d).canvases = s.canvases := by
  rw [State.setHostBytes_eq]

/-- A BAR2 access writes at the bytes it carries, and only where it is a write (R356). -/
theorem State.bar2_writesIn (s : State) (write : Bool) (offset length : Nat) (data : List Byte) :
    WritesIn (fun p => write = true ∧ offset ≤ p ∧ p < offset + data.length) s (s.bar2 write offset length data) := by
  unfold State.bar2
  extract_lets n u
  have hu : Keeps s u := .ite (Keeps.refl s) (Keeps.refl s).out
  split
  · split
    · split
      · next hw => exact (WritesIn.refl s).setHostBytes fun p h1 h2 => ⟨hw, h1, h2⟩
      · exact (WritesIn.refl s).then (Keeps.refl s).out
    · exact (WritesIn.refl s).then hu.inc.raise
  · exact .refl s

/-! ### Frames written back (R210) -/

/-- The bytes that the write-back frame `d` of canvas `c` takes, from its buffer on. -/
def State.wbCovers (s : State) (c : Nat) (d : List Byte) (p : Nat) : Prop :=
  byteAt d 0 = 1 ∧ s.wbBuffer c d ≤ p ∧ p < s.wbBuffer c d + leAt d 28 4 * leAt d 10 2

/-- The bytes of the lines of that frame. -/
def State.wbLineCovers (s : State) (c : Nat) (d : List Byte) (p : Nat) : Prop :=
  byteAt d 0 = 1 ∧ ∃ y, y < leAt d 10 2 ∧ s.wbBuffer c d + y * leAt d 28 4 ≤ p ∧
    p < s.wbBuffer c d + y * leAt d 28 4 + leAt d 8 2 * bytesPerPixel (wbFormat d)

theorem State.wbBuffer_congr {s t : State} {c : Nat} (h : t.rd Dict.CANVAS_BASE_FRAMES c = s.rd Dict.CANVAS_BASE_FRAMES c)
    (d : List Byte) : t.wbBuffer c d = s.wbBuffer c d := by
  unfold State.wbBuffer; rw [h]

theorem foldl_accrue_regs (l : List Copy) (s : State) : (l.foldl (fun s c => s.accrue c.engine) s).regs = s.regs :=
  List.foldlRecOn (motive := fun (u : State) => u.regs = s.regs) l _ rfl fun _ hu _ _ => hu

theorem State.dropStrips_regs (s : State) (kind : StripKind) (owner : Nat) : (s.dropStrips kind owner).regs = s.regs :=
  List.foldlRecOn (motive := fun (u : State) => u.regs = s.regs) _ _ rfl fun _ hu _ _ => (foldl_accrue_regs _ _).trans hu

/-- A composition that its deadline ends spoils the frames that are being written back (log 10). -/
theorem State.composeDeadline_writesIn (s : State) (c : Nat) :
    WritesIn (fun p => ∃ x ∈ (s.canvasAt c).wbNow, s.wbCovers c x.2.1 p) s (s.composeDeadline c) := by
  unfold State.composeDeadline
  extract_lets v left u w x
  have hu : WritesIn (fun p => ∃ x ∈ v.wbNow, s.wbCovers c x.2.1 p) s u := (WritesIn.refl s).then (Keeps.refl s).dropStrips
  have hw : WritesIn (fun p => ∃ x ∈ v.wbNow, s.wbCovers c x.2.1 p) s w ∧ w.regs = s.regs := by
    refine List.foldlRecOn (motive := fun (u : State) => WritesIn _ s u ∧ u.regs = s.regs) _ _
      ⟨hu, s.dropStrips_regs _ _⟩ fun a ha e he => ?_
    split
    · next h1 =>
      have hat : a.wbBuffer c e.2.1 = s.wbBuffer c e.2.1 :=
        State.wbBuffer_congr (congrArg (fun m => Store.read dictDefault m _) ha.2) _
      refine ⟨WritesIn.then (ha.1.setHostBytes fun p h2 h3 => ⟨e, he, h1, ?_, ?_⟩) ((Keeps.refl _).lit rfl rfl),
        (State.setHostBytes_regs ..).trans ha.2⟩
      · rwa [hat] at h2
      · rw [hat] at h3; simpa using h3
    · exact ha
  split
  · exact hw.1.then (Keeps.refl _).modCanvas.inc.raise
  · exact .refl s

/-- The columns of a strip lie between its bounds and follow one another without a gap. -/
theorem Strip.columns_span (a : Strip) {w x0 x1 x : Nat} {l : List Nat} (h : a.columns w x0 x1 = x :: l) :
    x0 ≤ x ∧ x + (x :: l).length ≤ x1 := by
  have hp : (a.columns w x0 x1).Pairwise (· < ·) :=
    ((List.pairwise_map.2 (List.pairwise_lt_range.imp fun h => Nat.add_lt_add_left h _))).filter _
  have hm : ∀ y ∈ a.columns w x0 x1, x0 ≤ y ∧ y < x1 := fun y hy => by
    have := (List.mem_filter.1 hy).2
    simp at this; omega
  rw [h] at hp hm
  have hx := hm x (by simp)
  have hs : x :: l ⊆ List.range' x (x1 - x) := fun y hy => by
    have := hm y hy
    rcases List.mem_cons.1 hy with rfl | hl
    · exact List.mem_range'_1.2 (by omega)
    · have := (List.pairwise_cons.1 hp).1 y hl
      exact List.mem_range'_1.2 (by omega)
  have := (List.Nodup.subperm (hp.imp Nat.ne_of_lt) hs).length_le
  rw [List.length_range'] at this
  exact ⟨hx.1, by omega⟩

theorem leBytes_length (n x : Nat) : (leBytes n x).length = n := by
  induction n generalizing x with
  | zero => rfl
  | succ n ih => simp [leBytes, ih]

theorem rowBytes_length (n : Nat) (f : Nat → Nat) (cols : List Nat) :
    (cols.flatMap fun x => leBytes n (f x)).length = cols.length * n := by
  induction cols with
  | nil => simp
  | cons x cols ih => simp [leBytes_length, ih, Nat.succ_mul, Nat.add_comm]

theorem State.canvasAt_modCanvas (s : State) (c : Nat) (f : Canvas → Canvas) :
    (s.modCanvas c f).canvasAt c = f (s.canvasAt c) := Store.read_write_self ..

/-- The entry of canvas `c` for write-back `k`. -/
def State.wbEntry (s : State) (c k : Nat) : List Byte × Raster :=
  Store.read (fun _ => ([], Raster.init)) (s.canvasAt c).wbNow k

theorem State.wbEntry_putCanvas (s : State) (c k : Nat) (v : Canvas) :
    (s.putCanvas c v).wbEntry c k = Store.read (fun _ => ([], Raster.init)) v.wbNow k := by
  unfold State.wbEntry
  rw [show (s.putCanvas c v).canvasAt c = v from Store.read_write_self ..]

/-- `t` has what `s` has but for lines of the frame of write-back `k` of canvas `c` and its entry. -/
structure WbLines (s : State) (c k : Nat) (t : State) : Prop where
  lines : WritesIn (s.wbLineCovers c (s.wbEntry c k).1) s t
  regs : t.regs = s.regs
  entries : ∀ j, j ≠ k → t.wbEntry c j = s.wbEntry c j

theorem WbLines.setHostBytes {s w : State} {c k a : Nat} {d : List Byte} (h : WbLines s c k w)
    (hA : ∀ p, a ≤ p → p < a + d.length → s.wbLineCovers c (s.wbEntry c k).1 p) : WbLines s c k (w.setHostBytes a d) where
  lines := h.lines.setHostBytes hA
  regs := (State.setHostBytes_regs ..).trans h.regs
  entries j hj := by rw [← h.entries j hj]; unfold State.wbEntry State.canvasAt; rw [State.setHostBytes_canvases]

/-- A strip is written back into lines of the frame of its write-back (R210). -/
theorem State.writeBackStrip_lines (s seen : State) (a : Strip) (k : Nat) :
    WbLines s a.owner k (s.writeBackStrip seen a k) := by
  unfold State.writeBackStrip
  extract_lets c v
  rcases hd : Store.read (fun _ => ([], Raster.init)) v.wbNow k with ⟨d, r⟩
  have hd' : (s.wbEntry a.owner k).1 = d := congrArg Prod.fst hd
  dsimp -zeta only
  extract_lets x0 y0 format n
  split
  · exact ⟨.refl s, rfl, fun _ _ => rfl⟩
  rename_i cols rows r' u _
  have hu : WbLines s a.owner k u := ⟨(WritesIn.refl s).then (Keeps.refl s).modCanvas, rfl, fun j hj => by
    unfold State.wbEntry
    rw [State.canvasAt_modCanvas]
    exact Store.read_write_ne _ _ _ hj⟩
  split
  · next h1 =>
    refine List.foldlRecOn (motive := WbLines s a.owner k) _ _ hu fun w hw y hy => ?_
    generalize hc : cols = xs
    cases xs with
    | nil => exact hw
    | cons x l =>
      obtain ⟨hx0, hx1⟩ := a.columns_span hc
      have hy' := (List.mem_filter.1 hy).2
      simp only [decide_eq_true_eq] at hy'
      have hat : w.wbBuffer c d = s.wbBuffer c d :=
        State.wbBuffer_congr (congrArg (fun m => Store.read dictDefault m _) hw.regs) _
      refine hw.setHostBytes fun p h2 h3 => ?_
      have hn : (x - x0) * n + (x :: l).length * n ≤ leAt d 8 2 * n := by
        rw [← Nat.add_mul]; exact Nat.mul_le_mul_right _ (by omega)
      rw [rowBytes_length, hat] at h3
      rw [hat] at h2
      refine hd' ▸ ⟨h1, y - y0, by omega, le_trans (Nat.le_add_right _ _) h2, ?_⟩
      show p < s.wbBuffer c d + (y - y0) * leAt d 28 4 + leAt d 8 2 * n
      omega
  · exact hu

/-- The frames of the two write-backs of canvas `c` (R210). -/
def State.wbFrames (s : State) (c : Nat) (p : Nat) : Prop :=
  ∃ k, k < 2 ∧ s.wbLineCovers c (s.wbEntry c k).1 p

theorem WritesIn.mono {A B : Nat → Prop} {r t : State} (h : WritesIn A r t) (hAB : ∀ p, A p → B p) : WritesIn B r t :=
  ⟨h.pending, fun p hp => h.bytes p (hp ∘ hAB p), h.canonical⟩

theorem WritesIn.trans {A : Nat → Prop} {r s t : State} (h : WritesIn A r s) (k : WritesIn A s t) : WritesIn A r t :=
  ⟨k.pending.trans h.pending, fun p hp => (k.bytes p hp).trans (h.bytes p hp), k.canonical ∘ h.canonical⟩

theorem State.wbLineCovers_congr {s t : State} {c : Nat}
    (h : t.rd Dict.CANVAS_BASE_FRAMES c = s.rd Dict.CANVAS_BASE_FRAMES c) (d : List Byte) :
    t.wbLineCovers c d = s.wbLineCovers c d := by
  unfold State.wbLineCovers
  rw [State.wbBuffer_congr h]

theorem State.rd_congr {s t : State} (h : t.regs = s.regs) (e : EntryDef) (n k : Nat) : t.rd e n k = s.rd e n k :=
  congrArg (fun m => Store.read dictDefault m _) h

/-- Both write-backs of a strip write into lines of their frames. -/
theorem State.writeBackStrips_writesIn {s u : State} (seen : State) (a : Strip) (hu : Keeps s u) (hr : u.regs = s.regs)
    (he : ∀ k, u.wbEntry a.owner k = s.wbEntry a.owner k) :
    WritesIn (s.wbFrames a.owner) s ([0, 1].foldl (fun s k => s.writeBackStrip seen a k) u) := by
  have h0 := u.writeBackStrip_lines seen a 0
  have h1 := (u.writeBackStrip seen a 0).writeBackStrip_lines seen a 1
  refine (((WritesIn.refl s).then hu).trans (h0.lines.mono fun p hp => ⟨0, by decide, ?_⟩)).trans
    (h1.lines.mono fun p hp => ⟨1, by decide, ?_⟩)
  · rwa [State.wbLineCovers_congr (State.rd_congr (h0.regs.trans hr) ..), h0.entries 1 (by decide), he] at hp
  · rwa [State.wbLineCovers_congr (State.rd_congr hr ..), he] at hp

/-- A strip is written into its canvas's buffer and into lines of the frames written back. -/
theorem State.writeStrip_writesIn (s : State) (a : Strip) :
    WritesIn (s.wbFrames a.owner) s (s.writeStrip a) := by
  unfold State.writeStrip
  extract_lets c v seen key w
  split
  exact State.writeBackStrips_writesIn seen a (Keeps.refl s).putCanvas rfl fun k => State.wbEntry_putCanvas ..

theorem State.finishStrip_canvases (s : State) (a : Strip) (e : Nat) (i : StripId) :
    (s.finishStrip a e i).canvases = s.canvases :=
  List.foldlRecOn (motive := fun (u : State) => u.canvases = s.canvases) a.copies _ rfl fun _ hu _ _ => hu

theorem State.finishStrip_baseFrames (s : State) (a : Strip) (e : Nat) (i : StripId) (c : Nat) :
    (s.finishStrip a e i).rd Dict.CANVAS_BASE_FRAMES c = s.rd Dict.CANVAS_BASE_FRAMES c := by
  refine (State.wr_rd_ne _ _ _ _ _ _ _ _ (by simp [EntryDef.key]; omega)).trans ?_
  refine congrArg (fun m => Store.read dictDefault m _) ?_
  exact List.foldlRecOn (motive := fun (u : State) => u.regs = s.regs) a.copies _ rfl fun _ hu _ _ => hu

/-- What the copy of a strip that an engine completes writes. -/
theorem State.completeStrip_writesIn (s : State) (e : Nat) (i : StripId) :
    WritesIn (fun p => ∃ a, s.stripOf i = some a ∧ s.wbFrames a.owner p) s (s.completeStrip e i) := by
  unfold State.completeStrip
  split
  next a ha =>
    split
    · extract_lets u w
      have hu : Keeps s u := (Keeps.refl s).finishStrip
      have hp (p : Nat) (h : u.wbFrames a.owner p) : ∃ a, s.stripOf i = some a ∧ s.wbFrames a.owner p := by
        obtain ⟨k, hk, hc⟩ := h
        rw [State.wbLineCovers_congr (s.finishStrip_baseFrames ..)] at hc
        refine ⟨a, ha, k, hk, ?_⟩
        have he : u.wbEntry a.owner k = s.wbEntry a.owner k :=
          congrArg (fun m => Store.read _ (Store.read initialCanvas m a.owner).wbNow k) (s.finishStrip_canvases ..)
        rwa [he] at hc
      have hw := ((WritesIn.refl s).then hu).trans ((u.writeStrip_writesIn a).mono hp)
      split
      · split
        · exact hw.then (Keeps.refl w).completeSlot
        · exact hw
      · exact (WritesIn.refl s).then hu
    · exact .refl s
  next => exact .refl s

/-! ### DRAM errors (R356, R358, R359) -/

theorem zeros_length (n : Nat) : (zeros n).length = n := by simp [zeros]

/-- `t` has the queue of `r`; its host surface region is empty or has, outside the addresses `A`, the bytes of `r`'s; and it
is canonical where `r`'s is. -/
structure Ends (A : Nat → Prop) (r t : State) : Prop where
  pending : t.pending = r.pending
  bytes : (∀ p, ¬ A p → t.hostByte p = r.hostByte p) ∨ t.dram.host = []
  canonical : Memory.wf r.dram.host = true → Memory.wf t.dram.host = true

theorem WritesIn.ends {A : Nat → Prop} {r t : State} (h : WritesIn A r t) : Ends A r t :=
  ⟨h.pending, .inl h.bytes, h.canonical⟩

theorem WritesIn.endsStays {A : Nat → Prop} {r s t : State} (h : WritesIn A r s) (k : Stays s t) : Ends A r t where
  pending := k.1.trans h.pending
  bytes := k.2.imp (fun e p hp => (Keeps.hostByte ⟨k.1, e⟩ p).trans (h.bytes p hp)) id
  canonical hr := by
    rcases k.2 with e | e
    · exact e ▸ h.canonical hr
    · exact e ▸ (by decide : Memory.wf [] = true)

theorem Stays.ends {A : Nat → Prop} {r t : State} (h : Stays r t) : Ends A r t := (WritesIn.refl r).endsStays h

/-- The word of the host surface region that a double error takes. -/
def DramHit.covers (w : DramHit) (p : Nat) : Prop :=
  ∃ x, w = .region x ∧ x / 8 * 8 ≤ p ∧ p < x / 8 * 8 + 8

/-- What an error hits of the host surface region is one word. -/
theorem State.hitDram_writesIn (s : State) (w : DramHit) : WritesIn (DramHit.covers w) s (s.hitDram w) := by
  cases w
  case region x =>
    refine iteInduction (fun _ => (WritesIn.refl s).setHostBytes fun p h1 h2 => ⟨x, rfl, h1, ?_⟩) fun _ => .refl s
    rwa [zeros_length] at h2
  case inputFrame => exact (WritesIn.refl s).then (Keeps.refl s).modInput.inc
  case copy => exact (WritesIn.refl s).then (Keeps.refl s).modHost
  case delayLine => exact (WritesIn.refl s).then ((Keeps.refl s).lit rfl rfl)
  case captured => exact (WritesIn.refl s).then (Keeps.refl s).putCapture
  case prefetched => exact (WritesIn.refl s).then (Keeps.refl s).modPlayer
  case guarded => exact .refl s
  case other => exact .refl s

/-- An uncorrectable error takes the word that it hits, or the region with the channel (R356, R359). -/
theorem State.dramError_ends (s : State) (w : DramWord) (double : Bool) :
    Ends (fun p => double = true ∧ DramHit.covers w.hit p) s (s.dramError w double) := by
  unfold State.dramError
  extract_lets channel unit a
  split
  · split
    · next hd =>
      have hw : WritesIn (fun p => double = true ∧ DramHit.covers w.hit p) s (if a.codewordGuarded w.hit then a
          else (a.hitDram w.hit).raise Event.DRAM_UNCORRECTABLE channel (w.address / 1048576)) := by
        split
        · exact (WritesIn.refl s).then (Keeps.refl s).inc
        · exact ((((WritesIn.refl s).then (Keeps.refl s).inc).trans
            ((a.hitDram_writesIn w.hit).mono fun p h => ⟨hd, h⟩)).then (Keeps.refl _).raise)
      exact hw.endsStays (Keeps.refl _).stays.hardFault
    · exact ((((Keeps.refl s).inc.raise.lit rfl rfl).noteCorrected.stays).rowCorrected).ends
  · exact (WritesIn.refl s).ends

/-- The bytes of the host surface region that a command may write (R210, R356, R358). -/
def writesAt (i : Instr) (s : State) (p : Nat) : Prop :=
  match i with
  | .bar2Access write offset _ data => write = true ∧ offset ≤ p ∧ p < offset + data.length
  | .stripComplete _ i => ∃ a, s.stripOf i = some a ∧ s.wbFrames a.owner p
  | .composeDeadline c => ∃ x ∈ (s.canvasAt c).wbNow, s.wbCovers c x.2.1 p
  | .dramEccError w double => double = true ∧ DramHit.covers w.hit p
  | _ => False

theorem Keeps.ends {A : Nat → Prop} {r t : State} (h : Keeps r t) : Ends A r t := h.stays.ends

theorem Ends.of_keeps {A : Nat → Prop} {r s t : State} (h : Ends A s t) (k : Keeps r s) : Ends A r t where
  pending := h.pending.trans k.1
  bytes := h.bytes.imp_left fun e p hp => (e p hp).trans (k.hostByte p)
  canonical hr := h.canonical (k.2.symm ▸ hr)

theorem State.stripOf_begin (s : State) (i : StripId) : s.begin.stripOf i = s.stripOf i := rfl

theorem State.wbFrames_begin (s : State) (c : Nat) : s.begin.wbFrames c = s.wbFrames c := by
  unfold State.wbFrames State.wbLineCovers
  simp only [State.wbBuffer_congr (State.rd_congr (s := s) (t := s.begin) rfl ..)]
  rfl

theorem State.wbCovers_begin (s : State) (c : Nat) : s.begin.wbCovers c = s.wbCovers c := by
  unfold State.wbCovers
  simp only [State.wbBuffer_congr (State.rd_congr (s := s) (t := s.begin) rfl ..)]

/-- Every command answers a next state, leaves the queue, and writes of the host surface region no byte but those that it
may; or it empties the region. -/
theorem exec_ends (i : Instr) (s : State) : ∃ t, exec i s = .next t ∧ Ends (writesAt i s) s t := by
  have k : Keeps s s.begin := (Keeps.refl s).begin
  have h : Stays s s.begin := k.stays
  cases i with
  | dictWrite => exact ⟨_, rfl, h.dictWrite.ends⟩
  | eventQueueRead =>
    refine ⟨_, rfl, Keeps.ends (.ite ?_ k)⟩
    split
    · exact k.refuseRead
    · next e => exact (k.fetch e).respond
  | evtNAck => exact ⟨_, rfl, (h.writeScalar fun _ h1 => h1.then (Keeps.refl _).ackEvtN).ends⟩
  | lastRefusalClear => exact ⟨_, rfl, (h.writeScalar fun _ h1 => h1.then (Keeps.refl _).clearRefusal).ends⟩
  | timebaseTimeRead => exact ⟨_, rfl, (k.readScalar fun _ h1 => h1.wr).ends⟩
  | fifoLowWaterRead => exact ⟨_, rfl, (k.readScalar fun _ h1 => h1.wr).ends⟩
  | lifecycleChallenge => exact ⟨_, rfl, (k.readScalar fun _ h1 => h1.drawChallenge).ends⟩
  | udpRead => exact ⟨_, rfl, (h.udpReceive fun _ _ h1 => h1.then (Keeps.refl _).readWhole).ends⟩
  | udpWrite => exact ⟨_, rfl, (h.udpReceive fun _ _ h1 => h1.dictWrite).ends⟩
  | udpReadBlock => exact ⟨_, rfl, (h.udpReceive fun _ _ h1 => h1.then (Keeps.refl _).readSegment).ends⟩
  | udpWriteBlock => exact ⟨_, rfl, (h.udpReceive fun _ _ h1 => h1.writeSegment).ends⟩
  | udpCommit => exact ⟨_, rfl, (h.udpReceive fun _ _ h1 => h1.udpCommit).ends⟩
  | udpSubscribe => exact ⟨_, rfl, (h.udpReceive fun _ _ h1 => h1.then (Keeps.refl _).subscribe).ends⟩
  | udpAuthPhase1 => exact ⟨_, rfl, k.udpAuth1.ends⟩
  | udpAuthPhase2 => exact ⟨_, rfl, (h.udpReceive fun _ _ h1 => h1.then (Keeps.refl _).udpAuth2).ends⟩
  | udpAuthPhase3 => exact ⟨_, rfl, (h.udpReceive fun _ _ h1 => h1.then (Keeps.refl _).respond.dropRights).ends⟩
  | udpTransferIdle => exact ⟨_, rfl, k.modSess.ends⟩
  | udpSessionIdle => exact ⟨_, rfl, (Keeps.ite k.dropRights k).ends⟩
  | spiRead => exact ⟨_, rfl, (h.spiRequest fun _ h1 => h1.then (Keeps.refl _).readWhole).ends⟩
  | spiWrite => exact ⟨_, rfl, (h.spiRequest fun _ h1 => h1.dictWrite).ends⟩
  | spiReadBlock => exact ⟨_, rfl, (h.spiRequest fun _ h1 => h1.then (Keeps.refl _).readSegment).ends⟩
  | spiWriteBlock => exact ⟨_, rfl, (h.spiRequest fun _ h1 => h1.writeSegment).ends⟩
  | mbRead => exact ⟨_, rfl, (h.mailboxGo fun _ _ _ h1 => h1.then (Keeps.refl _).readWhole).ends⟩
  | mbWrite => exact ⟨_, rfl, (h.mailboxGo fun _ _ _ h1 => h1.dictWrite).ends⟩
  | mbReadBlock => exact ⟨_, rfl, (h.mailboxGo fun _ _ _ h1 => h1.then (Keeps.refl _).readSegment).ends⟩
  | mbWriteBlock => exact ⟨_, rfl, (h.mailboxGo fun _ _ _ h1 => h1.writeSegment).ends⟩
  | doorbellWrite => exact ⟨_, rfl, (Stays.ite (h.then (Keeps.refl _).writeMsix) (.ite h.ring h)).ends⟩
  | nmtStartRemoteNode => exact ⟨_, rfl, (h.nmtChange fun _ h1 => h1.then (Keeps.refl _).requestRun).ends⟩
  | nmtEnterPreOperational => exact ⟨_, rfl, (h.nmtChange fun _ h1 => h1.then (Keeps.refl _).requestStandby).ends⟩
  | nmtStopRemoteNode => exact ⟨_, rfl, (h.nmtChange fun _ h1 => h1.then (Keeps.refl _).requestStandby).ends⟩
  | nmtResetCommunication => exact ⟨_, rfl, (Keeps.ite k.resetCommunication.nmtObeyed k).ends⟩
  | nmtResetNode => exact ⟨_, rfl, h.nmtResetNode.ends⟩
  | usdoTransfer => exact ⟨_, rfl, (Stays.ite (.ite h.dictWrite (h.then (Keeps.refl _).readWhole)) h).ends⟩
  | rpdoReceived => exact ⟨_, rfl, h.receiveRpdo.ends⟩
  | syncReceived => exact ⟨_, rfl, h.sync.ends⟩
  | tpdoChangeCheck => exact ⟨_, rfl, (Keeps.ite (k.foldl fun _ _ h1 => h1.checkTpdo) k).ends⟩
  | canHeartbeat => exact ⟨_, rfl, k.heartbeat.ends⟩
  | hostRingDescriptorRead => exact ⟨_, rfl, k.ringRead.ends⟩
  | clientNonce => exact ⟨_, rfl, (h.writeBlock fun _ h1 => h1.then (Keeps.refl _).clientNonce).ends⟩
  | proof => exact ⟨_, rfl, (h.writeBlock fun _ h1 => h1.then (Keeps.refl _).proof).ends⟩
  | authLockoutExpiry =>
    exact ⟨_, rfl, (Keeps.ite (((Keeps.ite k.putSess k).putUdpLock).putUdpFail) (.ite k.putSess k)).ends⟩
  | drop => exact ⟨_, rfl, (h.writeScalar fun _ h1 => h1.then (Keeps.refl _).drop).ends⟩
  | store => exact ⟨_, rfl, (h.write fun _ _ h1 => h1.then (Keeps.refl _).store).ends⟩
  | storeDone => exact ⟨_, rfl, (Keeps.ite k.finishStore k).ends⟩
  | restore => exact ⟨_, rfl, (h.write fun _ _ h1 => h1.then (Keeps.refl _).restore).ends⟩
  | composeLatch => exact ⟨_, rfl, k.frameTiming.composeLatch.ends⟩
  | governorTimerTick => exact ⟨_, rfl, k.timerTick.ends⟩
  | enginePaceFault => exact ⟨_, rfl, h.paceFault.ends⟩
  | avsCommand => exact ⟨_, rfl, k.avsRun.ends⟩
  | pwrBudgetMeasure => exact ⟨_, rfl, k.measureBudget.ends⟩
  | stripDispatch => exact ⟨_, rfl, k.pull.ends⟩
  | chaseSegmentReady => exact ⟨_, rfl, k.bandArrives.ends⟩
  | stripReissue => exact ⟨_, rfl, k.reissue.ends⟩
  | stripComplete e i =>
    refine ⟨_, rfl, ((s.begin.completeStrip_writesIn e i).mono ?_).ends.of_keeps k⟩
    rintro p ⟨a, ha, hp⟩
    exact ⟨a, ha, s.wbFrames_begin _ ▸ hp⟩
  | composeDeadline c =>
    refine ⟨_, rfl, ((s.begin.composeDeadline_writesIn c).mono ?_).ends.of_keeps k⟩
    rintro p ⟨x, hx, hp⟩
    exact ⟨x, hx, s.wbCovers_begin _ ▸ hp⟩
  | engineEccError => exact ⟨_, rfl, h.eccError.ends⟩
  | engineParity => exact ⟨_, rfl, h.parityError.ends⟩
  | engineTimeout => exact ⟨_, rfl, h.timeoutCopy.ends⟩
  | engineReset => exact ⟨_, rfl, k.endReset.ends⟩
  | portAdminUp => exact ⟨_, rfl, (h.writeScalar fun _ h1 => h1.then (Keeps.refl _).portUp).ends⟩
  | portAdminDown => exact ⟨_, rfl, (h.writeScalar fun _ h1 => h1.then (Keeps.refl _).portDown).ends⟩
  | spareOfWrite => exact ⟨_, rfl, (h.writeScalar fun _ h1 => h1.then (Keeps.refl _).writeSpare).ends⟩
  | generationWrite => exact ⟨_, rfl, (h.writeScalar fun _ h1 => h1.then (Keeps.refl _).writeGeneration).ends⟩
  | laneLost => exact ⟨_, rfl, h.loseLane.ends⟩
  | laneUp => exact ⟨_, rfl, k.laneUp.ends⟩
  | laneTrainFail => exact ⟨_, rfl, h.failTraining.ends⟩
  | laneDegraded => exact ⟨_, rfl, h.degradeLane.ends⟩
  | laneRecovered => exact ⟨_, rfl, k.recoverLane.ends⟩
  | fecUncorrectable => exact ⟨_, rfl, k.badCodewords.ends⟩
  | laneMarginUpdate => exact ⟨_, rfl, k.updateMargin.ends⟩
  | ptlSpareReady => exact ⟨_, rfl, k.surveySpare.ends⟩
  | ethernetFrameRx => exact ⟨_, rfl, k.receiveFrame.ends⟩
  | groupAdminUp => exact ⟨_, rfl, (h.writeScalar fun _ h1 => h1.then (Keeps.refl _).groupUp).ends⟩
  | groupAdminDown => exact ⟨_, rfl, (h.writeScalar fun _ h1 => h1.then (Keeps.refl _).groupDown).ends⟩
  | hpdChange => exact ⟨_, rfl, k.takeHpd.ends⟩
  | irqHpd => exact ⟨_, rfl, k.takeIrqHpd.ends⟩
  | edidWrite => exact ⟨_, rfl, (h.writeBlock fun _ h1 => h1.then (Keeps.refl _).writeEdid).ends⟩
  | edidHpdRelease => exact ⟨_, rfl, k.releaseHpd.ends⟩
  | sinkEdidChanged => exact ⟨_, rfl, k.takeSinkEdid.ends⟩
  | hdcpAuthenticated => exact ⟨_, rfl, k.authenticate.ends⟩
  | hdcpFailed => exact ⟨_, rfl, k.failHdcp.ends⟩
  | dlinkTrainFail => exact ⟨_, rfl, k.failLink.ends⟩
  | cecTx => exact ⟨_, rfl, (h.writeBlock fun _ h1 => (h1.then (Keeps.refl _).out).done).ends⟩
  | cecRx => exact ⟨_, rfl, k.receiveCec.ends⟩
  | pcieLinkUp => exact ⟨_, rfl, k.pcieUp.ends⟩
  | pcieLinkDown => exact ⟨_, rfl, k.pcieDown.ends⟩
  | pcieAer => exact ⟨_, rfl, k.aer.ends⟩
  | bar2Access w o n d => exact ⟨_, rfl, (State.bar2_writesIn ..).ends.of_keeps k⟩
  | targetSpeedWrite => exact ⟨_, rfl, (h.writeScalar fun _ h1 => h1.then (Keeps.refl _).writeTargetSpeed).ends⟩
  | rpDeviceFound => exact ⟨_, rfl, k.refuseDevice.ends⟩
  | mgmtLink => exact ⟨_, rfl, k.mgmtLink.ends⟩
  | canBusOff => exact ⟨_, rfl, k.busOff.ends⟩
  | canErrorPassive => exact ⟨_, rfl, k.errorPassive.ends⟩
  | inputEnable => exact ⟨_, rfl, (h.writeScalar fun _ h1 => h1.then (Keeps.refl _).enableInput).ends⟩
  | inputDisable => exact ⟨_, rfl, (h.writeScalar fun _ h1 => h1.then (Keeps.refl _).disableInput).ends⟩
  | inputFrameEnd => exact ⟨_, rfl, k.endInputFrame.ends⟩
  | inputMissingFrame => exact ⟨_, rfl, k.missInputFrame.ends⟩
  | inputSignalLoss => exact ⟨_, rfl, k.loseSignal.ends⟩
  | inputGapTimeout => exact ⟨_, rfl, k.losePath.ends⟩
  | inputSignalDetected => exact ⟨_, rfl, k.findSignal.ends⟩
  | inputPacketRx => exact ⟨_, rfl, k.receiveRtp.ends⟩
  | hostSourceEnable => exact ⟨_, rfl, (h.writeScalar fun _ h1 => h1.then (Keeps.refl _).enableSurface).ends⟩
  | hostSourceDisable => exact ⟨_, rfl, (h.writeScalar fun _ h1 => h1.then (Keeps.refl _).disableSurface).ends⟩
  | flip => exact ⟨_, rfl, (h.writeScalar fun _ h1 => h1.then (Keeps.refl _).flip).ends⟩
  | hostFetchComplete => exact ⟨_, rfl, k.endFetch.ends⟩
  | hostFetchFault => exact ⟨_, rfl, k.failFetch.ends⟩
  | hostReleased => exact ⟨_, rfl, k.releaseHost.ends⟩
  | pocketPlayerEnable => exact ⟨_, rfl, (h.writeScalar fun _ h1 => h1.then (Keeps.refl _).writePlayerEnable).ends⟩
  | pocketPlayerDisable => exact ⟨_, rfl, (h.writeScalar fun _ h1 => h1.then (Keeps.refl _).writePlayerEnable).ends⟩
  | pocketStop => exact ⟨_, rfl, (h.writeScalar fun _ h1 => h1.then (Keeps.refl _).writeTransport).ends⟩
  | pocketCue => exact ⟨_, rfl, (h.writeScalar fun _ h1 => h1.then (Keeps.refl _).writeTransport).ends⟩
  | pocketPlay => exact ⟨_, rfl, (h.writeScalar fun _ h1 => h1.then (Keeps.refl _).writeTransport).ends⟩
  | pocketLoop => exact ⟨_, rfl, (h.writeScalar fun _ h1 => h1.then (Keeps.refl _).writeTransport).ends⟩
  | pocketPause => exact ⟨_, rfl, (h.writeScalar fun _ h1 => h1.then (Keeps.refl _).writeTransport).ends⟩
  | pocketPrefetchComplete => exact ⟨_, rfl, k.prefetched.ends⟩
  | headCommit => exact ⟨_, rfl, (h.writeScalar fun _ h1 => h1.then (Keeps.refl _).receiveSingle).ends⟩
  | canvasCommit => exact ⟨_, rfl, (h.writeScalar fun _ h1 => h1.then (Keeps.refl _).receiveSingle).ends⟩
  | commitDiscard =>
    exact ⟨_, rfl, (Stays.ite (h.writeScalar fun _ h1 => h1.then (Keeps.refl _).discard)
      (h.writeScalar fun _ h1 => h1.then (Keeps.refl _).discard)).ends⟩
  | stitchGroupCommit => exact ⟨_, rfl, (h.writeScalar fun _ h1 => h1.then (Keeps.refl _).receiveGroup).ends⟩
  | routeTableWrite => exact ⟨_, rfl, (h.writeBlock fun _ h1 => h1.then (Keeps.refl _).writeRoutes).ends⟩
  | switch => exact ⟨_, rfl, (h.writeScalar fun _ h1 => h1.then (Keeps.refl _).requestSwitch).ends⟩
  | routeSwitched => exact ⟨_, rfl, k.cleanAt.ends⟩
  | roughSwitch => exact ⟨_, rfl, k.roughAt.ends⟩
  | followSwitch => exact ⟨_, rfl, k.followAt.ends⟩
  | flowPacketForward => exact ⟨_, rfl, k.forward.ends⟩
  | routeFlowLost => exact ⟨_, rfl, k.loseFlow.ends⟩
  | reserveWrite => exact ⟨_, rfl, (h.writeScalar fun _ h1 => h1.then (Keeps.refl _).writeReserve).ends⟩
  | bankDataWrite => exact ⟨_, rfl, (h.writeBlock fun _ h1 => h1.then (Keeps.refl _).loadBank).ends⟩
  | lutDataWrite => exact ⟨_, rfl, (h.writeBlock fun _ h1 => h1.then (Keeps.refl _).loadLut).ends⟩
  | lut3dDataWrite => exact ⟨_, rfl, (h.writeBlock fun _ h1 => h1.then (Keeps.refl _).loadLut3d).ends⟩
  | motionEstimationStart => exact ⟨_, rfl, k.startEstimation.ends⟩
  | motionEstimationDone => exact ⟨_, rfl, k.endEstimation.ends⟩
  | clearCounters => exact ⟨_, rfl, (h.writeScalar fun _ h1 => (h1.then (Keeps.refl _).clearEngines).done).ends⟩
  | canvasEnable => exact ⟨_, rfl, (h.writeScalar fun _ h1 => h1.then (Keeps.refl _).enableCanvas).ends⟩
  | canvasDisable => exact ⟨_, rfl, (h.writeScalar fun _ h1 => h1.then (Keeps.refl _).disableCanvas).ends⟩
  | writebackFrameDone => exact ⟨_, rfl, k.writeBack.ends⟩
  | overcoatArmNChange => exact ⟨_, rfl, k.overcoatPinTo.ends⟩
  | overcoatArmWrite => exact ⟨_, rfl, (h.writeScalar fun _ h1 => (h1.then (Keeps.refl _).wr).done).ends⟩
  | latchClear => exact ⟨_, rfl, (h.writeScalar fun _ h1 => h1.then (Keeps.refl _).clearLatch).ends⟩
  | imageDescWrite => exact ⟨_, rfl, (h.writeBlock fun _ h1 => h1.then (Keeps.refl _).writeDesc).ends⟩
  | imageDataWrite => exact ⟨_, rfl, (h.writeBlock fun _ h1 => h1.then (Keeps.refl _).writeImage).ends⟩
  | liningValid => exact ⟨_, rfl, k.liningDone.ends⟩
  | rebuild => exact ⟨_, rfl, (h.writeScalar fun _ h1 => (h1.then (Keeps.refl _).rebuildLinings).done).ends⟩
  | headEnable => exact ⟨_, rfl, (h.writeScalar fun _ h1 => h1.then (Keeps.refl _).enableHead).ends⟩
  | headDisable => exact ⟨_, rfl, (h.writeScalar fun _ h1 => h1.then (Keeps.refl _).disableHead).ends⟩
  | headFrameStart => exact ⟨_, rfl, k.headFrame.ends⟩
  | flipLatch => exact ⟨_, rfl, k.flipLatch.ends⟩
  | startOfBlank => exact ⟨_, rfl, k.startOfBlank.ends⟩
  | lineMatch => exact ⟨_, rfl, k.lineMatch.ends⟩
  | headUnderrun => exact ⟨_, rfl, k.underrun.ends⟩
  | checkWindowEnd => exact ⟨_, rfl, k.checkWindow.ends⟩
  | safeClear => exact ⟨_, rfl, (h.writeScalar fun _ h1 => h1.then (Keeps.refl _).clearSafe).ends⟩
  | echoFault => exact ⟨_, rfl, h.echoLost.ends⟩
  | retime => exact ⟨_, rfl, (h.writeScalar fun _ h1 => h1.then (Keeps.refl _).receiveSingle).ends⟩
  | retimeNewTiming => exact ⟨_, rfl, k.retimed.ends⟩
  | legacyStatusClear => exact ⟨_, rfl, (h.writeScalar fun _ h1 => h1.then (Keeps.refl _).clearLegacy).ends⟩
  | tileMapWrite => exact ⟨_, rfl, (h.writeBlock fun _ h1 => h1.then (Keeps.refl _).writeTiles).ends⟩
  | calibrationWrite => exact ⟨_, rfl, (h.writeBlock fun _ h1 => h1.then (Keeps.refl _).writeCalibs).ends⟩
  | calibPeriodic => exact ⟨_, rfl, k.repeatCalib.ends⟩
  | pixelsSend => exact ⟨_, rfl, k.sendTile.ends⟩
  | keySlotWrite => exact ⟨_, rfl, (h.writeScalar fun _ h1 => h1.then (Keeps.refl _).writeKeySlot).ends⟩
  | rekey => exact ⟨_, rfl, (h.writeScalar fun _ h1 => (h1.then (Keeps.refl _).startRekey).done).ends⟩
  | statusReceived => exact ⟨_, rfl, k.receiveStatus.ends⟩
  | tileMissing => exact ⟨_, rfl, k.missTile.ends⟩
  | controlTx => exact ⟨_, rfl, (h.writeBlock fun _ h1 => h1.then (Keeps.refl _).sendControl).ends⟩
  | refEnable => exact ⟨_, rfl, (h.writeScalar fun _ h1 => h1.then (Keeps.refl _).enableRef).ends⟩
  | refDisable => exact ⟨_, rfl, (h.writeScalar fun _ h1 => h1.then (Keeps.refl _).disableRef).ends⟩
  | refActivityFail => exact ⟨_, rfl, k.loseActivity.ends⟩
  | refGlitch => exact ⟨_, rfl, k.glitch.ends⟩
  | measurementIntervalEnd => exact ⟨_, rfl, k.measure.ends⟩
  | refQualified => exact ⟨_, rfl, k.qualify.ends⟩
  | refSwitchDone => exact ⟨_, rfl, k.endSwitch.ends⟩
  | loopModeChange => exact ⟨_, rfl, (h.writeScalar fun _ h1 => h1.then (Keeps.refl _).writeLoopMode).ends⟩
  | steerFreq => exact ⟨_, rfl, (h.writeScalar fun _ h1 => h1.then (Keeps.refl _).writeSteerFreq).ends⟩
  | steerPhase => exact ⟨_, rfl, (h.writeScalar fun _ h1 => h1.then (Keeps.refl _).writeSteerPhase).ends⟩
  | forceWrite => exact ⟨_, rfl, (h.writeScalar fun _ h1 => h1.then (Keeps.refl _).writeSelection).ends⟩
  | align => exact ⟨_, rfl, (h.writeScalar fun _ h1 => h1.then (Keeps.refl _).align).ends⟩
  | alignEndSlew => exact ⟨_, rfl, (h.writeScalar fun _ h1 => (h1.then (Keeps.refl _).endSlew).done).ends⟩
  | set => exact ⟨_, rfl, (h.writeScalar fun _ h1 => h1.then (Keeps.refl _).setTime).ends⟩
  | ftgEnable => exact ⟨_, rfl, (h.writeScalar fun _ h1 => h1.then (Keeps.refl _).enableFtg).ends⟩
  | ftgDisable => exact ⟨_, rfl, (h.writeScalar fun _ h1 => h1.then (Keeps.refl _).disableFtg).ends⟩
  | ftgBaseFrameStart => exact ⟨_, rfl, k.ftgFrame.ends⟩
  | ptpSyncRx => exact ⟨_, rfl, k.takeSync.ends⟩
  | ptpAnnounceRx => exact ⟨_, rfl, k.takeAnnounce.ends⟩
  | sampleFrame => exact ⟨_, rfl, k.sampleFrame.ends⟩
  | sapEnable => exact ⟨_, rfl, (h.writeScalar fun _ h1 => h1.then (Keeps.refl _).enableSap).ends⟩
  | sapDisable => exact ⟨_, rfl, (h.writeScalar fun _ h1 => h1.then (Keeps.refl _).disableSap).ends⟩
  | audioTriggerStart => exact ⟨_, rfl, (h.writeScalar fun _ h1 => (h1.then (Keeps.refl _).triggerStart).done).ends⟩
  | audioTriggerStop => exact ⟨_, rfl, (h.writeScalar fun _ h1 => (h1.then (Keeps.refl _).triggerStop).done).ends⟩
  | sapClockLost => exact ⟨_, rfl, k.loseClock.ends⟩
  | sapClockRestored => exact ⟨_, rfl, k.restoreClock.ends⟩
  | audioRateWindow => exact ⟨_, rfl, k.rateWindow.ends⟩
  | streamPacketRx => exact ⟨_, rfl, k.takePacket.ends⟩
  | streamLost => exact ⟨_, rfl, k.loseStreamPath.ends⟩
  | channelTableWrite => exact ⟨_, rfl, (h.writeBlock fun _ h1 => h1.then (Keeps.refl _).writeChannels).ends⟩
  | streamTableWrite => exact ⟨_, rfl, (h.writeBlock fun _ h1 => h1.then (Keeps.refl _).writeStreams).ends⟩
  | headMapWrite => exact ⟨_, rfl, (h.writeBlock fun _ h1 => h1.then (Keeps.refl _).writeHeadMap).ends⟩
  | matrixRateWrite =>
    exact ⟨_, rfl, (Stays.ite (h.writeScalar fun _ h1 => (h1.then (Keeps.refl _).wr).done)
      (h.writeScalar fun _ h1 => (h1.then (Keeps.refl _).setMatrixRate).done)).ends⟩
  | scanMibWrite => exact ⟨_, rfl, (h.writeScalar fun _ h1 => h1.then (Keeps.refl _).writePartition).ends⟩
  | storeEccError => exact ⟨_, rfl, h.storeError.ends⟩
  | dramEccError w u => exact ⟨_, rfl, (State.dramError_ends ..).of_keeps k⟩
  | dramRowRemapped => exact ⟨_, rfl, k.rowRemapped.ends⟩
  | dramSleepCycle => exact ⟨_, rfl, k.startCycle.ends⟩
  | dramRecentre => exact ⟨_, rfl, h.recentre.ends⟩
  | dramTrained => exact ⟨_, rfl, h.endTraining.ends⟩
  | pocketEnable => exact ⟨_, rfl, (h.writeScalar fun _ h1 => h1.then (Keeps.refl _).enablePocket).ends⟩
  | pocketDriveUp => exact ⟨_, rfl, k.driveUp.ends⟩
  | pocketDriveDown => exact ⟨_, rfl, k.driveDown.ends⟩
  | captureStart => exact ⟨_, rfl, (h.writeScalar fun _ h1 => h1.then (Keeps.refl _).captureCommand).ends⟩
  | captureStop => exact ⟨_, rfl, (h.writeScalar fun _ h1 => h1.then (Keeps.refl _).captureCommand).ends⟩
  | captureFrameWritten => exact ⟨_, rfl, k.captureWritten.ends⟩
  | captureCheckpoint => exact ⟨_, rfl, k.captureCheckpoint.ends⟩
  | pocketFlush => exact ⟨_, rfl, k.captureFlushed.ends⟩
  | clipDelete => exact ⟨_, rfl, (h.writeScalar fun _ h1 => h1.then (Keeps.refl _).deleteClip).ends⟩
  | pocketFormat => exact ⟨_, rfl, (h.writeScalar fun _ h1 => h1.then (Keeps.refl _).formatDrives).ends⟩
  | unitPermanentFault => exact ⟨_, rfl, h.unitsFail.ends⟩
  | storeRowSpared => exact ⟨_, rfl, h.copyDone.ends⟩
  | meshLinkCrcError => exact ⟨_, rfl, (Stays.ite h.fault h).ends⟩
  | holdRetireWrite => exact ⟨_, rfl, (h.writeScalar fun _ h1 => h1.writeHoldRetire).ends⟩
  | spareCheck => exact ⟨_, rfl, h.checkSpare.ends⟩
  | patchMapClear => exact ⟨_, rfl, (h.writeScalar fun _ h1 => h1.then (Keeps.refl _).clearPatch).ends⟩
  | clearWeights => exact ⟨_, rfl, (h.writeScalar fun _ h1 => h1.then (Keeps.refl _).clearWeights).ends⟩
  | exportNonce => exact ⟨_, rfl, (h.writeBlock fun _ h1 => h1.then (Keeps.refl _).sealExport).ends⟩
  | histogramSample => exact ⟨_, rfl, (Keeps.ite (.ite k.endSecond k.countSecond) k).ends⟩
  | writeFloorEntered => exact ⟨_, rfl, k.enterFloor.ends⟩
  | writeFloorLeft => exact ⟨_, rfl, k.railsGood.ends⟩
  | shutdown => exact ⟨_, rfl, (h.writeScalar fun _ h1 => h1.then (Keeps.refl _).shutdown).ends⟩
  | keyWrite => exact ⟨_, rfl, (h.writeBlock fun _ h1 => h1.writeKey).ends⟩
  | keyErase => exact ⟨_, rfl, (h.writeScalar fun _ h1 => h1.then (Keeps.refl _).eraseKey).ends⟩
  | hdcpKeysWrite => exact ⟨_, rfl, (h.writeBlock fun _ h1 => h1.then (Keeps.refl _).writeHdcpKeys).ends⟩
  | lifecycleTarget => exact ⟨_, rfl, (h.writeScalar fun _ h1 => (h1.then (Keeps.refl _).wr).done).ends⟩
  | lifecycleConfirm => exact ⟨_, rfl, (h.writeScalar fun _ h1 => h1.then (Keeps.refl _).confirmLifecycle).ends⟩
  | porstNReleased => exact ⟨_, rfl, h.releasePorst.ends⟩
  | bistDone => exact ⟨_, rfl, h.endBist.ends⟩
  | requestRun => exact ⟨_, rfl, (h.writeScalar fun _ h1 => h1.then (Keeps.refl _).requestRun).ends⟩
  | requestStandby => exact ⟨_, rfl, (h.writeScalar fun _ h1 => h1.then (Keeps.refl _).requestStandby).ends⟩
  | requestSafe => exact ⟨_, rfl, (h.writeScalar fun _ h1 => h1.then (Keeps.refl _).requestSafe).ends⟩
  | reset => exact ⟨_, rfl, (h.writeScalar fun _ h1 => h1.writeReset).ends⟩
  | fullBist => exact ⟨_, rfl, (h.writeScalar fun _ h1 => h1.then (Keeps.refl _).startFullBist).ends⟩
  | fullBistDone => exact ⟨_, rfl, k.endFullBist.ends⟩
  | echoReceiverRelock => exact ⟨_, rfl, k.echoLocked.ends⟩
  | storeBankParityError => exact ⟨_, rfl, (Stays.ite h.fault h).ends⟩
  | dramChannelParityError => exact ⟨_, rfl, (Stays.ite h.fault h).ends⟩
  | mramWriteVerifyFailure => exact ⟨_, rfl, h.sectorFails.ends⟩
  | slaveSapFrame => exact ⟨_, rfl, k.slaveFrame.ends⟩
  | spiFetch => exact ⟨_, rfl, (Keeps.ite k.out k).ends⟩
  | capPinFault => exact ⟨_, rfl, k.budgetLost.ends⟩
  | mgmtHaltApply => exact ⟨_, rfl, k.applyMgmt.ends⟩
  | commitAcknowledged => exact ⟨_, rfl, k.acknowledge.ends⟩
  | ptlRekey => exact ⟨_, rfl, (Keeps.ite k.finishRekey k).ends⟩
  | heartbeat => exact ⟨_, rfl, k.sendHeartbeat.ends⟩
  | hentisLocked => exact ⟨_, rfl, k.lockHentis.ends⟩
  | hentisLost => exact ⟨_, rfl, k.expireHoldover.ends⟩
  | holdoverHistoryAppend => exact ⟨_, rfl, k.appendHistory.ends⟩
  | alignJump => exact ⟨_, rfl, (Keeps.ite k.jumpIfDue k).ends⟩
  | alignDone => exact ⟨_, rfl, (Keeps.ite k.endSlew k).ends⟩
  | audStartAsserted => exact ⟨_, rfl, (Keeps.ite k.scheduleStart k).ends⟩
  | audioStarted => exact ⟨_, rfl, k.startAudio.ends⟩
  | dramIdleSleep => exact ⟨_, rfl, k.sleepChannels.ends⟩
  | faultWeightDecay => exact ⟨_, rfl, (Keeps.ite (k.foldl fun _ _ h1 => h1.decayWeight) k).ends⟩
  | patrolPassDone => exact ⟨_, rfl, h.endPass.ends⟩
  | checkpoint => exact ⟨_, rfl, (Keeps.ite k.takeCheckpoint k).ends⟩
  | histogramFlush => exact ⟨_, rfl, (Keeps.ite k.flushHistograms k).ends⟩
  | keyCommitted => exact ⟨_, rfl, (Keeps.ite k.commitKey k).ends⟩
  | lifecycleChanged => exact ⟨_, rfl, (Keeps.ite k.completeLifecycle k).ends⟩
  | tamperNAsserted => exact ⟨_, rfl, (Keeps.ite k.actBy.zeroise k).ends⟩
  | supplyGlitch => exact ⟨_, rfl, (Keeps.ite k.zeroise k).ends⟩
  | tamperTemperature => exact ⟨_, rfl, (Keeps.ite k.zeroise k).ends⟩
  | keyOverwriteDone => exact ⟨_, rfl, (Keeps.ite k.overwriteKeys k).ends⟩
  | tamperCapLow => exact ⟨_, rfl, (Keeps.ite k.wr.raiseIf k).ends⟩
  | porstNAsserted => exact ⟨_, rfl, h.assertPorst.ends⟩
  | loadDone => exact ⟨_, rfl, h.endLoad.ends⟩
  | autoRun => exact ⟨_, rfl, (Keeps.ite k.autoRun k).ends⟩
  | autoRunTimeout => exact ⟨_, rfl, k.autoRunLate.ends⟩
  | safeEntered => exact ⟨_, rfl, (Keeps.ite k.enterSafe k).ends⟩
  | thermtrip => exact ⟨_, rfl, h.trip.ends⟩
  | holdoverSlewDone => exact ⟨_, rfl, (Keeps.ite k.holdWord k).ends⟩

/-- A command that answers a next state ends in it. -/
theorem ends_of_exec {i : Instr} {s t : State} (e : exec i s = .next t) : Ends (writesAt i s) s t := by
  obtain ⟨u, hu, h⟩ := exec_ends i s
  rw [e] at hu
  exact Host.Outcome.next.inj hu ▸ h

theorem step_of_cons {s : State} {c : Instr} {rest : List Instr} (h : s.pending = c :: rest) :
    step s = exec c { s with pending := rest } := by
  unfold step; rw [h]

theorem step_of_nil {s : State} (h : s.pending = []) : step s = .next s.tick := by
  unfold step; rw [h]

/-- What each step does to the queue and to the canonical form. -/
theorem step_spec (s : State) :
    ∃ t, step s = .next t ∧ t.pending = s.pending.tail ∧ (Safety.memoryCanonical s → Safety.memoryCanonical t) := by
  cases h : s.pending with
  | nil =>
    have k : Keeps s s.tick := (Keeps.refl s).tick
    exact ⟨_, step_of_nil h, k.1.trans h, (k.stays.ends (A := fun _ => False)).canonical⟩
  | cons c rest =>
    obtain ⟨t, ht, e⟩ := exec_ends c { s with pending := rest }
    exact ⟨t, (step_of_cons h).trans ht, e.pending, e.canonical⟩

theorem step_eq_spec {s t : State} (e : step s = .next t) :
    t.pending = s.pending.tail ∧ (Safety.memoryCanonical s → Safety.memoryCanonical t) := by
  obtain ⟨u, hu, h⟩ := step_spec s
  rw [e] at hu
  exact Host.Outcome.next.inj hu ▸ h

/-- Settles O57: no command breaks the canonical form (`exec_ends`), and neither does a tick. -/
theorem stepKeepsMemoryCanonical : Obligations.StepKeepsMemoryCanonical := by
  unfold Obligations.StepKeepsMemoryCanonical
  exact fun s t hs e => (step_eq_spec e).2 hs

/-- Settles O58: every command leaves the queue that it runs on (`exec_ends`). -/
theorem stepTakesOneCommand : Obligations.StepTakesOneCommand := by
  unfold Obligations.StepTakesOneCommand
  exact fun s t e => (step_eq_spec e).1

/-- Settles O56, by induction on the number of steps. -/
theorem noStepStops : Obligations.NoStepStops := by
  unfold Obligations.NoStepStops
  have steps (s : State) : ∃ t, step s = .next t := (step_spec s).imp fun _ h => h.1
  refine ⟨fun c s => (exec_ends c s).imp fun _ h => h.1, steps, fun n => ?_⟩
  induction n with
  | zero => exact fun s => ⟨s, rfl⟩
  | succ n ih =>
    intro s
    obtain ⟨t, ht⟩ := steps s
    obtain ⟨u, hu⟩ := ih t
    refine ⟨u, ?_⟩
    simpa only [Safety.runs, Host.Core.run, show core.step s = .next t from ht] using hu

/-- Settles O54: `step` takes the front of the queue. -/
theorem frontCommandRuns : Obligations.FrontCommandRuns := by
  unfold Obligations.FrontCommandRuns
  exact ⟨fun c s => rfl, fun s c rest => step_of_cons⟩

/-- Settles O59: the bytes that `writesAt` lets a command write are those that the clauses name. -/
theorem hostMemoryFrame : Obligations.HostMemoryFrame := by
  unfold Obligations.HostMemoryFrame
  refine ⟨fun c s t e h1 h2 h3 h4 => ?_, fun s t o l d e a ha => ?_, fun s t o l d e a => ?_, fun s t e i h => ?_,
    fun s t c h => ?_, fun s t w double h => ?_⟩
  · have hn : ∀ p, ¬ writesAt c s p := fun p => by
      cases c with
      | bar2Access => exact absurd rfl (h1 _ _ _ _)
      | stripComplete => exact absurd rfl (h2 _ _)
      | composeDeadline => exact absurd rfl (h3 _)
      | dramEccError => exact absurd rfl (h4 _ _)
      | _ => exact id
    exact (ends_of_exec e).bytes.imp_left fun hb p => hb p (hn p)
  · cases e
    exact (State.bar2_writesIn ..).bytes a fun h => by omega
  · cases e
    exact (State.bar2_writesIn ..).bytes a fun h => nomatch h.1
  · cases h
    have hw := s.begin.completeStrip_writesIn e i
    refine ⟨fun hn p => hw.bytes p fun ⟨a, ha, _⟩ => ?_, fun a ha p hp => hw.bytes p fun ⟨b, hb, hf⟩ => ?_⟩
    · exact nomatch hn.symm.trans ha
    · obtain rfl : a = b := Option.some.inj (ha.symm.trans hb)
      obtain ⟨k, hk, h1, y, hy, h2, h3⟩ := s.wbFrames_begin _ ▸ hf
      rcases hp k hk h1 y hy with h | h
      · exact absurd h (Nat.not_lt.2 h2)
      · exact absurd h3 (Nat.not_lt.2 h)
  · cases h
    intro _ p hp
    refine (s.begin.composeDeadline_writesIn c).bytes p fun ⟨x, hx, hf⟩ => ?_
    obtain ⟨h1, h2, h3⟩ := s.wbCovers_begin _ ▸ hf
    rcases hp x hx h1 with h | h
    · exact absurd h (Nat.not_lt.2 h2)
    · exact absurd h3 (Nat.not_lt.2 h)
  · refine (ends_of_exec h).bytes.imp_left fun hb p hp => hb p fun hd => ?_
    obtain ⟨hd, x, hx, h1, h2⟩ := hd
    have := hp x hx hd
    omega

/-- Hentis acquires, with a loop of 1 Hz that has summed up an error. -/
def loopAtWork : State :=
  { State.reset.wr Dict.HENTIS_STATE 1 with hentis := { Hentis.init with loopBw := 1000, loopErr := 10 ^ 15 } }

theorem loopAtWork_dcoWord : loopAtWork.dcoWord = -8796459 ∧ loopAtWork.hentis.word = 0 := by decide

/-- Refutes O55: outside FREE-RUN the DCO word is not the word of the state alone; a loop at work takes its part off. -/
theorem not_emptyQueueTick : ¬ Obligations.EmptyQueueTick := by
  unfold Obligations.EmptyQueueTick
  rintro ⟨_, _, _, hword⟩
  have h := hword loopAtWork (by decide) rfl
  rw [loopAtWork_dcoWord.1, loopAtWork_dcoWord.2] at h
  exact absurd h (by decide)

/-- Settles O60: every map of the state at power-on is empty, so that each entry has its value of the tables. -/
theorem powerOn : Obligations.PowerOn := by
  unfold Obligations.PowerOn
  exact ⟨by unfold Safety.memoryCanonical; decide, fun c h => (nomatch h), rfl, rfl, by decide, rfl, by decide, rfl, rfl, rfl,
    fun _ => rfl, fun _ => rfl, fun _ => rfl⟩

end Sys2Proof.Machine
end

-- ==== Proofs: reads that change the state ====
section
/-! PROOFS. What a read takes with it, and O1. -/
namespace Sys2Proof.Machine
open Sys2Proof
set_option Elab.async false

/-! ### Reads that change the state -/

/-- What `examine` returns is at or above the severity. -/
theorem severity_of_mem_examine {least : Nat} {e : Ev} (l : List Ev) : ∀ n, e ∈ (examine least n l).1 → least ≤ e.severity := by
  induction l with
  | nil => intro n h; simp [examine] at h
  | cons a l ih =>
    intro n h
    cases n with
    | zero => simp [examine] at h
    | succ n =>
      by_cases ha : least ≤ a.severity
      · simp only [examine, ha, if_true, List.mem_cons] at h
        rcases h with rfl | h
        · exact ha
        · exact ih n h
      · simp only [examine, ha, if_false] at h
        exact ih (n + 1) h

theorem examine_length_le (least : Nat) (l : List Ev) : ∀ n, (examine least n l).1.length ≤ n := by
  induction l with
  | nil => intro n; simp [examine]
  | cons a l ih =>
    intro n
    cases n with
    | zero => simp [examine]
    | succ n =>
      by_cases ha : least ≤ a.severity
      · simpa [examine, ha] using ih n
      · simpa [examine, ha] using ih (n + 1)

theorem examine_count_le (least : Nat) (l : List Ev) : ∀ n, (examine least n l).2 ≤ l.length := by
  induction l with
  | nil => intro n; simp [examine]
  | cons a l ih =>
    intro n
    cases n with
    | zero => simp [examine]
    | succ n =>
      by_cases ha : least ≤ a.severity
      · simpa [examine, ha] using ih n
      · simpa [examine, ha] using ih (n + 1)

/-- A read of the event queue that passes its checks is answered with the entries examined. -/
theorem exec_eventQueueRead (s : State) (k : Fin 12) (h : Safety.mayRead s.begin k Dict.EVENT_QUEUE_READ 0 0) :
    exec (.eventQueueRead k) s
      = .next (Safety.returned (s.begin.readQueue k).2 k 0x2020 (s.begin.readQueue k).1) := by
  obtain ⟨⟨h1, h2⟩, h3⟩ := h
  have hf : s.begin.fetch k 0x2020 5 = .ok ((s.begin.readQueue k).1, (s.begin.readQueue k).2) := by
    simp only [State.fetch, show s.begin.readCheck k 0x2020 5 = .ok Dict.EVENT_QUEUE_READ from h3, State.readBytes,
      State.afterRead, if_true]
  change execEventQueueRead k s = _
  simp only [execEventQueueRead, h1, h2, Bool.and_self, if_true, hf]
  rfl

/-- Where nothing was lost, a read of the event queue moves the cursor past the entries examined. -/
theorem State.readQueue_of_none_lost (s : State) (k : Nat) (h : s.overrun k = 0) :
    s.readQueue k = ((examine (s.sessAt k).minSeverity 64 (s.unread k)).1.flatMap Ev.bytes,
      s.putSess k { s.sessAt k with
        cursor := ((s.sessAt k).cursor + (examine (s.sessAt k).minSeverity 64 (s.unread k)).2) % 2 ^ 32
        lost := (s.sessAt k).lost % 2 ^ 32 }) := by
  simp [State.readQueue, h, State.unread]

/-- Where entries were lost, a read of the event queue counts them and tells it. -/
theorem State.readQueue_of_lost (s : State) (k : Nat) (h : s.overrun k ≠ 0) :
    ∃ u : Sess, u.lost = ((s.sessAt k).lost + s.overrun k) % 2 ^ 32 ∧
      (s.readQueue k).2 = (s.putSess k u).raiseBy k Event.QUEUE_OVERRUN k (s.overrun k) := by
  refine ⟨_, ?_, by simp only [State.readQueue, if_neg h, State.modSess, State.putSess_putSess]; rfl⟩
  rw [State.putSess_sessAt]

theorem raised_answer {s t : State} {d : EventDef} {a b : Nat} (h : Safety.raised s t d a b) (x : Nat) (r : Response) :
    Safety.raised s (t.answer x r) d a b := raised_eq h (State.answer_queue ..)

/-- Settles O1: each read passes its checks and has the one effect of its rule; what the event queue returns is what
`examine` finds. -/
theorem readsThatChangeState : Obligations.ReadsThatChangeState := by
  unfold Obligations.ReadsThatChangeState
  refine ⟨fun s k h => ?_, fun s k n h => ?_, fun s k h => ⟨leNat (s.begin.draw 4).1, ?_⟩, fun s k h h0 => ?_,
    fun s k h h0 => ?_⟩
  · exact congrArg _ (State.readScalar_ok _ _ _ _ _ _ _ h)
  · exact congrArg _ (State.readScalar_ok _ _ _ _ _ _ _ h)
  · exact congrArg _ (State.readScalar_ok _ _ _ _ _ _ _ h)
  · refine ⟨_, _, Prod.mk.eta.symm, examine_length_le .., fun e => severity_of_mem_examine _ _, examine_count_le .., ?_⟩
    rw [exec_eventQueueRead s k h, State.readQueue_of_none_lost _ _ h0]
  · obtain ⟨u, hl, hu⟩ := s.begin.readQueue_of_lost k h0
    refine ⟨_, exec_eventQueueRead s k h, ?_⟩
    rw [hu]
    refine ⟨?_, raised_answer (raised_last (Grew.of s (s.begin.putSess k u) rfl) ..) .., by simp⟩
    rw [answer_sess_of _ _ _ Sess.lost k fun _ _ _ => rfl, ← hl]
    simp

end Sys2Proof.Machine
end

-- ==== Proofs: session nonces, proofs and the lockout (R402) ====
section
/-! PROOFS. The writes of AUTH, and O2. -/
namespace Sys2Proof.Machine
open Sys2Proof
set_option Elab.async false

/-! ### Writes that pass their checks -/

/-- A scalar write that its chapter accepts is answered as done. -/
theorem State.writeScalar_accepts {s : State} {k n j v : Nat} {e : EntryDef} {eff : State → Effect} {t : State}
    (hp : Safety.passesScalar (s.actBy k) k e n j v) (hx : eff (s.actBy k) = .done t)
    (he : e.listed = true := by decide +kernel) (hn : n < e.count := by first | omega | decide | exact Fin.isLt _)
    (hj : e.lo + j ≤ e.hi := by decide) :
    s.writeScalar k e n j v eff = Safety.accepted t k (e.base + n) :=
  (State.writeScalar_ok s k n j v e eff hp he hn hj).trans (hx ▸ rfl)

/-- A scalar write that its chapter refuses. -/
theorem State.writeScalar_refuses {s : State} {k n j v : Nat} {e : EntryDef} {eff : State → Effect} {t : State} {r : Refuse}
    (hp : Safety.passesScalar (s.actBy k) k e n j v) (hx : eff (s.actBy k) = .refused r t)
    (he : e.listed = true := by decide +kernel) (hn : n < e.count := by first | omega | decide | exact Fin.isLt _)
    (hj : e.lo + j ≤ e.hi := by decide) :
    s.writeScalar k e n j v eff = t.refuseWrite k (e.base + n) (e.lo + j) r :=
  (State.writeScalar_ok s k n j v e eff hp he hn hj).trans (hx ▸ rfl)

/-- A scalar write that its chapter answers itself or later. -/
theorem State.writeScalar_waits {s : State} {k n j v : Nat} {e : EntryDef} {eff : State → Effect} {t : State}
    (hp : Safety.passesScalar (s.actBy k) k e n j v) (hx : eff (s.actBy k) = .waits t)
    (he : e.listed = true := by decide +kernel) (hn : n < e.count := by first | omega | decide | exact Fin.isLt _)
    (hj : e.lo + j ≤ e.hi := by decide) :
    s.writeScalar k e n j v eff = t :=
  (State.writeScalar_ok s k n j v e eff hp he hn hj).trans (hx ▸ rfl)

/-- A block write that its chapter accepts is answered as done. -/
theorem State.writeBlock_accepts {s : State} {k n j : Nat} {data : List Byte} {e : EntryDef} {eff : State → Effect} {t : State}
    (hp : Safety.passes (s.actBy k) k e n j data) (hx : eff (s.actBy k) = .done t)
    (he : e.listed = true := by decide +kernel) (hn : n < e.count := by first | omega | decide | exact Fin.isLt _)
    (hj : e.lo + j ≤ e.hi := by decide) :
    s.writeBlock k e n j data eff = Safety.accepted t k (e.base + n) :=
  (State.writeBlock_ok s k n j data e eff hp he hn hj).trans (hx ▸ rfl)

/-- A block write that its chapter refuses. -/
theorem State.writeBlock_refuses {s : State} {k n j : Nat} {data : List Byte} {e : EntryDef} {eff : State → Effect} {t : State} {r : Refuse}
    (hp : Safety.passes (s.actBy k) k e n j data) (hx : eff (s.actBy k) = .refused r t)
    (he : e.listed = true := by decide +kernel) (hn : n < e.count := by first | omega | decide | exact Fin.isLt _)
    (hj : e.lo + j ≤ e.hi := by decide) :
    s.writeBlock k e n j data eff = t.refuseWrite k (e.base + n) (e.lo + j) r :=
  (State.writeBlock_ok s k n j data e eff hp he hn hj).trans (hx ▸ rfl)

/-- A block write that its chapter answers itself or later. -/
theorem State.writeBlock_waits {s : State} {k n j : Nat} {data : List Byte} {e : EntryDef} {eff : State → Effect} {t : State}
    (hp : Safety.passes (s.actBy k) k e n j data) (hx : eff (s.actBy k) = .waits t)
    (he : e.listed = true := by decide +kernel) (hn : n < e.count := by first | omega | decide | exact Fin.isLt _)
    (hj : e.lo + j ≤ e.hi := by decide) :
    s.writeBlock k e n j data eff = t :=
  (State.writeBlock_ok s k n j data e eff hp he hn hj).trans (hx ▸ rfl)

/-! ### Proofs of sessions (R402, R403) -/

/-- What a right proof leaves: the rights asked for, told. -/
theorem State.proof_right (s : State) (k : Nat) (p : List Byte) (hl : s.lockedOut k = false)
    (hf : (s.sessAt k).nonceFresh = true) (hs : s.authSlotFits (s.sessAt k).authSlot (s.sessAt k).authRights = true)
    (hp : p = hmac16 (s.authKey k (s.sessAt k).authSlot (s.sessAt k).authRights (s.sessAt k).clientNonce (s.sessAt k).deviceNonce)
      (ascii "CLIENT" ++ (s.sessAt k).deviceNonce)) :
    ∃ f : Store Nat, s.proof k p = .done (({ s.putSess k { s.sessAt k with
      rights := Rights.ofRank (s.sessAt k).authRights, grantSlot := (s.sessAt k).authSlot, failures := 0, nonceFresh := false
      deviceProof := hmac16 (s.authKey k (s.sessAt k).authSlot (s.sessAt k).authRights (s.sessAt k).clientNonce
        (s.sessAt k).deviceNonce) (ascii "DEVICE" ++ (s.sessAt k).clientNonce) } with udpFailures := f }).raiseBy k
      Event.AUTH_GRANTED k ((s.sessAt k).authRights * 256 + (s.sessAt k).authSlot)) := by
  unfold State.proof
  simp only [hl, hf, hs, ← hp, beq_self_eq_true, Bool.and_self, Bool.false_eq_true, if_false, if_true]
  split
  · exact ⟨_, rfl⟩
  · exact ⟨_, rfl⟩

/-- A wrong proof is refused and counted. -/
theorem State.proof_wrong (s : State) (k : Nat) (p : List Byte) (hl : s.lockedOut k = false)
    (hp : p ≠ hmac16 (s.authKey k (s.sessAt k).authSlot (s.sessAt k).authRights (s.sessAt k).clientNonce (s.sessAt k).deviceNonce)
      (ascii "CLIENT" ++ (s.sessAt k).deviceNonce)) :
    s.proof k p = .refused (.rule 0xB2) (s.wrongProof k (s.sessAt k).authSlot) := by
  unfold State.proof
  simp only [hl, beq_eq_false_iff_ne.2 hp, Bool.and_false, Bool.false_eq_true, if_false]

/-- Session `k` after a wrong proof (R402, R403). -/
def State.sessAfterWrong (s : State) (k : Nat) : Sess :=
  let u := s.sessAt k
  { u with
    failures := (u.failures + 1) % 256, nonceFresh := false
    lockedUntil := if 3 ≤ u.failures + 1 then s.now + s.rd Dict.MANAGEMENT_AUTH_LOCKOUT * nsPerS else u.lockedUntil }

/-- A wrong proof changes its session and counts and lockouts of source addresses, and raises one event or two. -/
theorem State.wrongProof_eq (s : State) (k slot : Nat) : ∃ u : State,
    (u.sessAt k = s.sessAfterWrong k ∧ u.ev = s.ev ∧ u.regs = s.regs) ∧
    s.wrongProof k slot =
      if 3 ≤ (s.sessAt k).failures + 1 ∨ (4 ≤ k ∧ 3 ≤ s.udpFailAt (s.sessAt k).sourceAddr + 1) then
        (u.raiseBy k Event.AUTH_FAILED k slot).raiseBy k Event.AUTH_LOCKOUT k (if 4 ≤ k then (s.sessAt k).sourceAddr else 0)
      else u.raiseBy k Event.AUTH_FAILED k slot := by
  let P (u : State) : Prop := u.sessAt k = s.sessAfterWrong k ∧ u.ev = s.ev ∧ u.regs = s.regs
  have hP : P (s.putSess k (s.sessAfterWrong k)) := ⟨State.putSess_sessAt .., rfl, rfl⟩
  refine ⟨_, iteInduction (motive := P) (fun _ => ?_) fun _ => hP, rfl⟩
  exact iteInduction (motive := P) (fun _ => hP) fun _ => hP

/-- The session after a wrong proof, and the events that tell it. -/
theorem State.wrongProof_spec (s : State) (k slot : Nat) :
    (s.wrongProof k slot).sessAt k = s.sessAfterWrong k ∧
    Safety.raised s (s.wrongProof k slot) Event.AUTH_FAILED k slot ∧
    (3 ≤ (s.sessAt k).failures + 1 → Safety.raised s (s.wrongProof k slot) Event.AUTH_LOCKOUT k
      (if 4 ≤ k then (s.sessAt k).sourceAddr else 0)) ∧
    (s.wrongProof k slot).regs = s.regs := by
  obtain ⟨u, ⟨hs, hev, hr⟩, h⟩ := s.wrongProof_eq k slot
  have hg : Grew s u := Grew.of _ _ (congrArg EventLog.queue hev)
  rw [h]
  split
  · exact ⟨hs, raised_then _ _ _ _ _ _ _ _ _ _ (raised_last hg ..), fun _ => raised_last (hg.raise ..) .., hr⟩
  · next hn => exact ⟨hs, raised_last hg .., fun h3 => absurd (.inl h3) hn, hr⟩

theorem State.clientNonce_refused (s : State) (k : Nat) (nonce : List Byte)
    (hf : s.authSlotFits (s.sessAt k).authSlot (s.sessAt k).authRights = false) :
    s.clientNonce k nonce = .refused (.rule 0xB1) s := by
  simp only [State.clientNonce, hf, Bool.false_eq_true, if_false]

/-- A lockout that has run out ends; one of a source address stays until its own end. -/
theorem exec_authLockoutExpiry (s : State) (k : Fin 12) (source : Nat)
    (h1 : (s.begin.sessAt k).lockedUntil ≠ 0) (h2 : (s.begin.sessAt k).lockedUntil ≤ s.begin.now)
    (h3 : s.begin.udpLockAt source = 0 ∨ s.begin.now < s.begin.udpLockAt source) :
    exec (.authLockoutExpiry k source) s
      = .next (s.begin.putSess k { s.begin.sessAt k with lockedUntil := 0, failures := 0 }) := by
  have h4 : ¬ (s.begin.udpLockAt source ≠ 0 ∧ s.begin.udpLockAt source ≤ s.begin.now) := by omega
  change execAuthLockoutExpiry k source s = _
  simp only [execAuthLockoutExpiry, h1, h2, ne_eq, not_false_eq_true, and_self, if_true]
  exact congrArg _ (if_neg h4)

/-- Settles O2: each clause is one branch of `clientNonce`, `proof` or the expiry. -/
theorem sessionNoncesAndProofs : Obligations.SessionNoncesAndProofs := by
  unfold Obligations.SessionNoncesAndProofs
  refine ⟨fun s k nonce hp hf => ⟨(s.draw 16).1, ?_, congrArg Host.Outcome.next (State.writeBlock_accepts hp (if_pos hf))⟩,
    fun s k nonce hp hf => congrArg Host.Outcome.next (State.writeBlock_refuses hp (State.clientNonce_refused _ _ _ hf)),
    fun s k p hp hl hn hf hd => ?_, fun s k p hp hl hd => ?_, fun s k p hp hl => ?_, exec_authLockoutExpiry⟩
  · exact (List.length_map ..).trans (List.length_range ..)
  · obtain ⟨f, h⟩ := State.proof_right _ k p hl hn hf hd
    refine ⟨_, congrArg Host.Outcome.next (State.writeBlock_accepts hp h), ?_, raised_raise .., rfl⟩
    exact Store.read_write_self ..
  · obtain ⟨h1, h2, h3, h4⟩ := State.wrongProof_spec (s.begin.actBy k) k ((s.begin.actBy k).sessAt k).authSlot
    exact ⟨_, congrArg Host.Outcome.next (State.writeBlock_refuses hp (State.proof_wrong _ k p hl hd)), h1, h2, h3, h4⟩
  · exact congrArg Host.Outcome.next (State.writeBlock_refuses hp (if_pos hl))

end Sys2Proof.Machine
end

-- ==== Proofs: writes by apply class ====
section
/-! PROOFS. What a write that passes Table 14.2 does, and O3. -/
namespace Sys2Proof.Machine
open Sys2Proof
set_option Elab.async false

/-! ### Writes that no chapter treats apart (R25, R125, R399) -/

theorem State.effect_plain (s : State) {k index sub : Nat} {e : EntryDef} (data : List Byte)
    (hp : Safety.plainScalar k e index sub) :
    s.effect plainly k e index sub data = .done (s.applyScalar k e (index * 256 + sub) (leNat data)) := by
  obtain ⟨-, hb, hl, hh⟩ := hp
  have hv : valueOf e (if e.base < 0x2400 then writesLow k else writesHigh plainly k) = none := by
    split
    · exact Option.isNone_iff_eq_none.1 hl
    · exact Option.isNone_iff_eq_none.1 hh
  simp only [State.effect, hb, Bool.false_eq_true, if_false, hv]

/-- A write that passes its checks and that no rule treats apart is applied by its apply class. -/
theorem exec_dictWrite_plain (s : State) (k : Fin 12) {e : EntryDef} {index sub : Nat} {data : List Byte}
    (hp : Safety.plainScalar k e index sub) (hr : Safety.ready (s.begin.actBy k) k)
    (hc : (s.begin.actBy k).writeChecks false k e index sub data = none) :
    exec (.dictWrite k index sub data) s
      = .next (Safety.accepted ((s.begin.actBy k).applyScalar k e (index * 256 + sub) (leNat data)) k index) := by
  have hw : (s.begin.actBy k).writeCheck false k index sub data = .ok e := by
    simp only [State.writeCheck, hp.1, hc]
  refine congrArg Host.Outcome.next ?_
  simp only [State.dictWrite, State.write, hr.1, hr.2, Bool.and_self, if_true, hw, State.effect_plain _ data hp]
  rfl

/-- Settles O3: the four apply classes are the four branches of `applyScalar`. -/
theorem writeByApplyClass : Obligations.WriteByApplyClass := by
  unfold Obligations.WriteByApplyClass
  refine ⟨fun s k e index sub data hp hr hc hw => ?_, fun s k e index sub data hp hr hc hw hs => ?_,
    fun s k e index sub data hp hr hc hw ha hb => ?_, fun s k e index sub data hp hr hc hw hs hh => ?_, fun s key v => ⟨?_, fun i hi => ?_⟩⟩
  · rw [exec_dictWrite_plain s k hp hr hc, State.applyScalar, if_pos (by simpa using hw)]
    rfl
  · rw [exec_dictWrite_plain s k hp hr hc, State.applyScalar, if_neg (by simpa using hw), if_pos hs]
    rfl
  · rw [exec_dictWrite_plain s k hp hr hc, State.applyScalar, if_neg (by simpa using hw), if_neg (by simp [ha]), if_pos ⟨ha, hb⟩]
    rfl
  · rw [exec_dictWrite_plain s k hp hr hc, State.applyScalar, if_neg (by simpa using hw), if_neg hs, if_neg hh]
    rfl
  · exact Store.read_write_self ..
  · exact Store.read_write_ne _ _ _ hi

end Sys2Proof.Machine
end

-- ==== Proofs: refused writes (R400) ====
section
/-! PROOFS. What a refusal records and raises, and O4. -/
namespace Sys2Proof.Machine
open Sys2Proof
set_option Elab.async false

/-! ### Refused writes (R398, R400, R427) -/

/-- A command that is a write of the dictionary runs that write. -/
theorem exec_of_writeOf {c : Instr} {k : Fin 12} {index sub : Nat} {data : List Byte} (s : State)
    (h : Safety.writeOf c = some (k, index, sub, data)) :
    ∃ eff, exec c s = .next (s.begin.write k index sub data eff) := by
  cases c with
  | commitDiscard j x =>
    by_cases hx : x.val < 32
    · have h := Option.some.inj ((if_pos hx).symm.trans h)
      cases h
      exact ⟨_, congrArg Host.Outcome.next (if_pos hx)⟩
    · have h := Option.some.inj ((if_neg hx).symm.trans h)
      cases h
      exact ⟨_, congrArg Host.Outcome.next (if_neg hx)⟩
  | matrixRateWrite j den v =>
    cases den with
    | false =>
      have h : Safety.scalar j Dict.AUDIO_MATRIX_MATRIX_RATE_NUM 0 0 v = some (k, index, sub, data) := h
      cases h
      exact ⟨_, congrArg Host.Outcome.next (if_neg Bool.false_ne_true)⟩
    | true =>
      have h : Safety.scalar j Dict.AUDIO_MATRIX_MATRIX_RATE_DEN 0 0 v = some (k, index, sub, data) := h
      cases h
      exact ⟨_, congrArg Host.Outcome.next (if_pos rfl)⟩
  | _ =>
    cases h <;> exact ⟨_, rfl⟩

theorem ownEvent_of_firstOf {l : List (Bool × Refuse)} (hl : ∀ x ∈ l, x.2.ownEvent = false) {r : Refuse}
    (h : firstOf l = some r) : r.ownEvent = false := by
  induction l with
  | nil => exact nomatch h
  | cons x l ih =>
    obtain ⟨c, y⟩ := x
    unfold firstOf at h
    split at h
    · exact Option.some.inj h ▸ hl (c, y) (by simp)
    · exact ih (fun x hx => hl x (by simp [hx])) h

/-- A refusal by Table 14.2 has no event of its own. -/
theorem State.writeCheck_ownEvent {s : State} {free : Bool} {k index sub : Nat} {data : List Byte} {r : Refuse}
    (h : s.writeCheck free k index sub data = .error r) : r.ownEvent = false := by
  unfold State.writeCheck at h
  split at h
  · next e he =>
    unfold lookup at he
    split at he
    · cases he; cases h; rfl
    · split at he
      · cases he; cases h; rfl
      · cases he
  · split at h
    · next hc =>
      cases h
      refine ownEvent_of_firstOf (fun x hx => ?_) hc
      simp only [List.mem_cons, List.not_mem_nil, or_false] at hx
      rcases hx with rfl | rfl | rfl | rfl | rfl | rfl <;> rfl
    · cases h

/-- A write that a check refuses is refused; one of a session that is not served is not answered. -/
theorem State.write_refused {s : State} {k index sub : Nat} {data : List Byte} {eff : EntryDef → State → Effect} {r : Refuse}
    (hr : Safety.ready (s.actBy k) k) (h : (s.actBy k).writeCheck false k index sub data = .error r) :
    s.write k index sub data eff = (s.actBy k).refuseWrite k index sub r := by
  simp only [State.write, hr.1, hr.2, Bool.and_self, if_true, h]

theorem State.write_unserved {s : State} {k index sub : Nat} {data : List Byte} {eff : EntryDef → State → Effect}
    (hr : ¬ Safety.ready (s.actBy k) k) : s.write k index sub data eff = s.actBy k := by
  exact if_neg fun h => hr ((Bool.and_eq_true ..).mp h)

/-- The state in which a refused write is recorded and told, before its answer. -/
def State.refusalTold (s : State) (k index sub : Nat) (r : Refuse) : State :=
  (s.noteRefusal k index sub r).tellRefused (s.noteRefusal k index sub r) k index sub r

theorem State.refuseWrite_eq {s : State} {k index sub : Nat} {r : Refuse} (h : r.ownEvent = false) :
    s.refuseWrite k index sub r = (s.refusalTold k index sub r).answer index ⟨k, r.abort, r.detail, [], false⟩ := by
  simp only [State.refuseWrite, h, Bool.false_eq_true, if_false, State.abort_eq]
  rfl

/-- A refusal tells one event, and changes of the state nothing but its queue and pins. -/
theorem State.tellRefused_is_raise (s a : State) (k index sub : Nat) (r : Refuse) :
    ∃ d x y, s.tellRefused a k index sub r = s.raiseBy k d x y := by
  unfold State.tellRefused
  split
  · exact ⟨_, _, _, rfl⟩
  · split
    · exact ⟨_, _, _, rfl⟩
    · exact ⟨_, _, _, rfl⟩

theorem objectAt_of_not_listed {index sub : Nat} (h : objectAt index = none) :
    lookup index sub = .error (.plain 0x06020000 0) := by
  simp only [lookup, h]

theorem entryAt_of_not_listed {index sub : Nat} (h : objectAt index ≠ none) (he : entryAt index sub = none) :
    lookup index sub = .error (.plain 0x06090011 0) := by
  obtain ⟨o, ho⟩ := Option.ne_none_iff_exists'.1 h
  simp only [lookup, ho, he]

theorem State.writeCheck_of_lookup_error {s : State} {free : Bool} {k index sub : Nat} {data : List Byte} {r : Refuse}
    (h : lookup index sub = .error r) : s.writeCheck free k index sub data = .error r := by
  simp only [State.writeCheck, h]

/-- The refusal recorded and told: LAST_REFUSAL, one event, and nothing else of the state. -/
theorem State.refusalTold_spec (s : State) (k index sub : Nat) (r : Refuse) :
    let t := s.refusalTold k index sub r
    t.sess = (s.noteRefusal k index sub r).sess ∧ t = { s with sess := t.sess, ev := t.ev, wire := t.wire } := by
  obtain ⟨d, x, y, h⟩ := (s.noteRefusal k index sub r).tellRefused_is_raise (s.noteRefusal k index sub r) k index sub r
  unfold State.refusalTold
  rw [h]
  exact ⟨rfl, rfl⟩

theorem raised_raiseBy {s u : State} (h : u.ev.queue = s.ev.queue) {x : Nat} {d : EventDef} {a b : Nat} :
    Safety.raised s (u.raiseBy x d a b) d a b := raised_last (Grew.of s u h) ..

theorem raised_raise_own {s u : State} (h : u.ev.queue = s.ev.queue) {d : EventDef} {a b : Nat} :
    Safety.raised s (u.raise d a b) d a b := raised_last (Grew.of s u h) ..

theorem commitScope_switch : commitScope 0x2501 6 = none := by decide

/-- The refusal that the first failing check of a list gives. -/
theorem firstOf_cons_true {c : Bool} {r : Refuse} {l : List (Bool × Refuse)} (h : c = true) : firstOf ((c, r) :: l) = some r := by
  simp [firstOf, h]

theorem firstOf_cons_false {c : Bool} {r : Refuse} {l : List (Bool × Refuse)} (h : c = false) :
    firstOf ((c, r) :: l) = firstOf l := by
  simp [firstOf, h]

theorem State.writeCheck_of_lookup_ok {s : State} {free : Bool} {k index sub : Nat} {data : List Byte} {e : EntryDef} {r : Refuse}
    (h : lookup index sub = .ok e) (hc : s.writeChecks free k e index sub data = some r) :
    s.writeCheck free k index sub data = .error r := by
  simp only [State.writeCheck, h, hc]

/-- Settles O4: every write of the dictionary is one `write` (`exec_of_writeOf`), whose check refuses it. -/
theorem refusedWrite : Obligations.RefusedWrite := by
  unfold Obligations.RefusedWrite
  refine ⟨fun c s k index sub data hw hr => ?_, fun c s k index sub data r hw hr hc => ?_, fun s k index sub data _ ho => ?_,
    fun s k index sub data _ ho he => ?_, fun s k e index sub data _ hl ha => ?_, fun s k e index sub data _ hl ha hk => ?_⟩
  · obtain ⟨eff, h⟩ := exec_of_writeOf s hw
    rw [h, State.write_unserved hr]
  · obtain ⟨eff, h⟩ := exec_of_writeOf s hw
    obtain ⟨hs, hf⟩ := (s.begin.actBy k).refusalTold_spec k index sub r
    refine ⟨(s.begin.actBy k).refusalTold k index sub r, ?_, ?_, fun hn h6 => ?_, fun kind num hn => ?_, fun h1 h6 => ?_,
      fun j hj => ?_, hf⟩
    · rw [h, State.write_refused hr hc, State.refuseWrite_eq (State.writeCheck_ownEvent hc)]
    · exact (congrArg (fun m => Store.read initialSess m k) hs).trans (Store.read_write_self ..)
    · simp only [State.refusalTold, State.tellRefused, hn]
      rw [if_neg h6]
      exact raised_raiseBy rfl
    · simp only [State.refusalTold, State.tellRefused, hn]
      exact raised_raiseBy rfl
    · subst h1 h6
      simp only [State.refusalTold, State.tellRefused, commitScope_switch]
      rw [if_pos ⟨trivial, trivial⟩]
      exact raised_raiseBy rfl
    · exact (congrArg (fun m => Store.read initialSess m j) hs).trans (Store.read_write_ne _ _ _ hj)
  · exact State.writeCheck_of_lookup_error (objectAt_of_not_listed ho)
  · exact State.writeCheck_of_lookup_error (entryAt_of_not_listed ho he)
  · refine State.writeCheck_of_lookup_ok hl (firstOf_cons_true ?_)
    rcases ha with ha | ha <;> simp [ha]
  · refine State.writeCheck_of_lookup_ok hl ((firstOf_cons_false ?_).trans (firstOf_cons_true ?_))
    · rcases ha with ha | ha <;> simp [ha]
    · simpa [EntryDef.needs] using hk

end Sys2Proof.Machine
end

-- ==== Proofs: sessions, the event queue and the host ring ====
section
/-! PROOFS. What an event sends to sessions that subscribe, and O5. -/
namespace Sys2Proof.Machine
open Sys2Proof
set_option Elab.async false

/-! ### Sessions and the event queue (R404, R421 to R427) -/

/-- The entry of the event queue that an event becomes (R421). -/
def State.newEvent (s : State) (source : Nat) (d : EventDef) (a b : Nat) : Ev :=
  let e : Ev := ⟨s.ev.nextSeq, d.code, source, d.severity, false, s.tS, s.tNs, a % 2 ^ 32, b % 2 ^ 32⟩
  { e with recorded := (s.ev.record ⟨s.life.opSeconds, s.life.cycles, s.floor, false⟩ e).2 }

theorem State.raiseBy_wire (s : State) (x : Nat) (d : EventDef) (a b : Nat) :
    (s.raiseBy x d a b).wire = s.wire ++ s.tellings (s.newEvent x d a b) := rfl

theorem State.raiseBy_queue (s : State) (x : Nat) (d : EventDef) (a b : Nat) :
    (s.raiseBy x d a b).ev.queue = (s.newEvent x d a b :: s.ev.queue).take 32768 := by
  simp only [State.raiseBy, State.raiseWith, List.foldl, State.udpEventOn_queue, State.emcyOn_queue]
  split
  · rw [EventLog.toHost_queue]
    split
    · simp only [EventLog.fire_queue, EventLog.record_queue]; rfl
    · simp only [EventLog.record_queue]; rfl
  · split
    · simp only [EventLog.fire_queue, EventLog.record_queue]; rfl
    · simp only [EventLog.record_queue]; rfl

/-- A subscribed UDP session is sent the event (R416). -/
theorem State.mem_tellings_of_subscribed {s : State} {e : Ev} {k : Nat} (h4 : 4 ≤ k) (h11 : k ≤ 11)
    (h : s.subscribed e k = true) :
    .packet packetUdp k (udpEvent (k - 3) (Store.read (fun _ => 0) s.ev.udpSeq k + 1) (s.sessAt k).ks e) ∈ s.tellings e := by
  refine List.mem_append_right _ (List.mem_filterMap.2 ⟨k, ?_, ?_⟩)
  · interval_cases k <;> decide
  · simp only [State.udpEventTo, h, if_true]

/-- A dropped session of an open interface falls back to its base rights. -/
theorem State.dropRights_of_lt {s : State} {k : Nat} (cause : Nat) (h : k < 4) :
    s.dropRights k cause = (s.putSess k { s.sessAt k with
      rights := s.baseRights k, grantSlot := 0xFF, transfer := none, reading := none, nonceFresh := false }).raise
        Event.RIGHTS_DROPPED k cause := by
  simp only [State.dropRights, if_neg (Nat.not_le.2 h)]

/-- A dropped UDP session is closed. -/
theorem State.dropRights_of_le {s : State} {k : Nat} (cause : Nat) (h : 4 ≤ k) (ho : (s.sessAt k).isOpen = true) :
    s.dropRights k cause = (s.putSess k Sess.init).raise Event.SESSION_CLOSED k cause := by
  simp only [State.dropRights, if_pos h, ho, if_true]

theorem mem_raise_wire {s : State} {w : WireItem} (h : w ∈ s.wire) (k : Nat) (u : Sess) (d : EventDef) (a b : Nat) : w ∈ ((s.putSess k u).raise d a b).wire :=
  List.mem_append_left _ h

@[simp] theorem State.answer_baseRights (s : State) (x : Nat) (r : Response) (k : Nat) :
    (s.answer x r).baseRights k = s.baseRights k := by
  rw [State.answer_frame]; rfl

/-- Settles O5: each clause is one branch of its command; the packet to a subscribed session is in `tellings`. -/
theorem sessionAndQueueCommands : Obligations.SessionAndQueueCommands := by
  unfold Obligations.SessionAndQueueCommands
  refine ⟨fun s k v hp => congrArg Host.Outcome.next (State.writeScalar_accepts hp rfl),
    fun s k v hp hn => congrArg Host.Outcome.next (State.writeScalar_accepts hp ?_),
    fun s k v e hp he hS hN hsev => congrArg Host.Outcome.next (State.writeScalar_accepts hp ?_),
    fun s k v hp hk => ⟨_, congrArg Host.Outcome.next (State.writeScalar_waits hp (congrArg Effect.waits
      (State.dropRights_of_lt 1 hk))), ?_⟩,
    fun s k v hp hk => ⟨_, congrArg Host.Outcome.next (State.writeScalar_waits hp (congrArg Effect.waits
      (State.dropRights_of_le 1 hk ?_))), ?_⟩,
    fun s consumer hd hf hw => ?_, fun s first l hl => ?_, fun s status consumer hd hf hw hs => ?_,
    fun s x d a b => ⟨s.newEvent x d a b, ?_⟩⟩
  · have ha : (s.begin.actBy k).ev.queue.any (fun e => e.timeS == (s.begin.actBy k).tS && e.timeNs == (s.begin.actBy k).tNs &&
        decide ((s.begin.actBy k).rd Dict.EVENT_QUEUE_EVT_N_SEVERITY ≤ e.severity)) = false := by
      simp only [List.any_eq_false, Bool.and_eq_true, beq_iff_eq, not_and]
      exact fun e he hS => absurd hS (hn e he)
    simp only [State.ackEvtN, ha, Bool.and_false]
  · have ha : (s.begin.actBy k).ev.queue.any (fun e => e.timeS == (s.begin.actBy k).tS && e.timeNs == (s.begin.actBy k).tNs &&
        decide ((s.begin.actBy k).rd Dict.EVENT_QUEUE_EVT_N_SEVERITY ≤ e.severity)) = true :=
      List.any_eq_true.2 ⟨e, he, by simp only [hS, hN, hsev, beq_self_eq_true, decide_true, Bool.and_self]⟩
    simp only [State.ackEvtN, ha, Bool.and_true]
  · refine ⟨mem_raise_wire (State.answer_wire ..) .., ?_, raised_raise_own (by simp), by simp⟩
    simp
  · exact (answer_sess_of _ _ _ Sess.isOpen k fun _ _ _ => rfl).trans hp.1.2
  · refine ⟨mem_raise_wire (State.answer_wire ..) .., by simp, raised_raise_own (by simp), by simp⟩
  · have he : s.begin.ev.hostWaiting.isEmpty = false := by simpa using hw
    refine congrArg Host.Outcome.next ?_
    simp only [State.ringRead, hd, hf, he, Bool.not_false, and_self, if_true]
    rfl
  · simp only [State.burst, List.isEmpty_eq_false_iff.2 hl, Bool.false_eq_true, if_false]
  · have he : s.begin.ev.hostWaiting.isEmpty = false := by simpa using hw
    refine congrArg Host.Outcome.next ?_
    simp only [State.ringRead, hd, hf, he, Bool.not_false, and_self, if_true, if_neg hs]
    rfl
  · refine ⟨?_, rfl, rfl, rfl, rfl, rfl, rfl, rfl, rfl, fun k h4 h11 hs => ?_⟩
    · rw [State.raiseBy_queue]; rfl
    · exact List.mem_append_right _ (State.mem_tellings_of_subscribed h4 h11 hs)

end Sys2Proof.Machine
end

-- ==== Proofs: UDP datagrams taken (R413 to R416) ====
section
/-! PROOFS. When a datagram is served, repeated or dropped, and what its answer leaves. -/
namespace Sys2Proof.Machine
open Sys2Proof
set_option Elab.async false

/-! ### UDP (R413 to R416) -/

/-- A request that waits for its answer. -/
def askedOf (op : Nat) (d : UdpDatagram) (lead : List Byte) : Asked := ⟨op, d.seq, d.index, d.sub, lead⟩

/-- A served request is served on the session that has taken it. -/
theorem State.udpReceive_served {s : State} {op k : Nat} {d : UdpDatagram} (lead : List Byte) {shape : Bool}
    (serve : Nat → State → State) (h : Safety.udpServed s op k d) (hs : shape = true) :
    s.udpReceive op d lead shape serve = (serve k (Safety.udpTaken s op k d lead)).queueAsked k (askedOf op d lead) := by
  obtain ⟨hup, h1, h8, rfl, ho, ht, hq, hh, hr⟩ := h
  have hsess : s.udpSession d = some (d.session + 3) := if_pos ⟨h1, h8, ho⟩
  have hrights : ¬ (op ≠ 7 ∧ (s.sessAt (d.session + 3)).rights = .none) := by
    rintro ⟨h7, hn⟩
    rcases hr with hr | hr
    · exact hr hn
    · exact h7 hr
  simp only [State.udpReceive, hup, if_true, hsess, ht, beq_self_eq_true, State.udpServe, if_neg (Nat.ne_of_gt hq),
    if_neg (Nat.not_lt.2 (Nat.le_of_lt hq)), hh, hs, Bool.and_self, Bool.not_true, Bool.false_eq_true, if_false,
    if_neg hrights, State.modSess]
  rw [State.putSess_putSess, State.putSess_sessAt]
  rfl

/-- A session that waits for an answer gets it in a datagram. -/
theorem State.mem_answer_wire {s : State} {index : Nat} {r : Response} {a : Asked} {l : List Asked} (hk : 4 ≤ r.sess)
    (ha : (s.sessAt r.sess).asked = a :: l) (hi : a.index = index) (h0 : r.abort = 0) :
    .packet packetUdp r.sess (udpDatagram (r.sess - 3) a (s.sessAt r.sess).ks true false r.more (a.lead ++ r.data))
      ∈ (s.answer index r).wire := by
  have h2 : r.sess ≠ 2 := by omega
  have h3 : r.sess ≠ 3 := by omega
  have hf : (s.sessAt r.sess).asked.find? (fun a => a.index == index) = some a := by
    simp [ha, hi]
  simp only [State.answer, if_neg h2, if_neg h3, if_pos hk, State.udpAnswer]
  rw [show ((s.out (.response r)).sessAt r.sess).asked.find? (fun a => a.index == index) = some a from hf]
  simp only [h0, bne_self_eq_false, Bool.false_eq_true, if_false]
  exact List.mem_append_right _ (List.mem_singleton.2 rfl)

/-- A response does not tell what its payload repeats of the request. -/
theorem udpDatagram_askedOf (n op : Nat) (d : UdpDatagram) (lead ks : List Byte) (tagged error more : Bool) (p : List Byte) :
    udpDatagram n (askedOf op d lead) ks tagged error more p
      = udpDatagram n ⟨op, d.seq, d.index, d.sub, []⟩ ks tagged error more p := rfl

/-- A request that was served and is answered without an error has its response on the pins (R413). -/
theorem udpReplied_of_asked {t : State} {op k index : Nat} {d : UdpDatagram} {lead data : List Byte} {more : Bool} {l : List Asked}
    {ks : List Byte} (hk : 4 ≤ k) (ha : (t.sessAt k).asked = askedOf op d lead :: l) (hks : (t.sessAt k).ks = ks)
    (hi : d.index = index) : Safety.udpReplied (t.respond k index data more) op k d ks more (lead ++ data) := by
  have h := State.mem_answer_wire (r := ⟨k, 0, 0, data, more⟩) hk ha hi rfl
  rw [hks, udpDatagram_askedOf] at h
  exact h

theorem State.queueAsked_sess_of (s : State) (k : Nat) (a : Asked) (f : Sess → β) (hf : ∀ u l, f { u with asked := l } = f u) :
    f ((s.queueAsked k a).sessAt k) = f (s.sessAt k) := by
  unfold State.queueAsked State.modSess
  rw [State.putSess_sessAt]
  show f (if (s.sessAt k).asked.head? = some a then _ else _) = _
  split
  · exact hf ..
  · rfl

end Sys2Proof.Machine
end

-- ==== Proofs: UDP reads and writes ====
section
/-! PROOFS. The four accesses of a datagram, and O7. -/
namespace Sys2Proof.Machine
open Sys2Proof
set_option Elab.async false

/-! ### Reads and writes by UDP (R413) -/

theorem State.readQueue_sess_of (s : State) (k : Nat) (f : Sess → β)
    (hf : ∀ u c l, f { u with cursor := c, lost := l } = f u) : f ((s.readQueue k).2.sessAt k) = f (s.sessAt k) := by
  by_cases h : s.overrun k = 0
  · rw [State.readQueue_of_none_lost s k h]
    exact (congrArg f (State.putSess_sessAt ..)).trans (hf ..)
  · simp only [State.readQueue, if_neg h, State.modSess, State.putSess_sessAt, State.putSess_putSess]
    exact (congrArg f (State.putSess_sessAt ..)).trans (hf ..)

/-- A read leaves of its session all but the cursor and the count of lost events. -/
theorem State.afterRead_sess_of (s : State) (k n : Nat) (e : EntryDef) (f : Sess → β)
    (hf : ∀ u c l, f { u with cursor := c, lost := l } = f u) : f ((s.afterRead k e n).sessAt k) = f (s.sessAt k) := by
  unfold State.afterRead
  split
  · exact s.readQueue_sess_of k f hf
  · split
    · rfl
    · split
      · rfl
      · split
        · rfl
        · rfl

theorem State.fetch_of_readCheck {s : State} {k index sub : Nat} {e : EntryDef} (h : s.readCheck k index sub = .ok e) :
    s.fetch k index sub = .ok (s.readBytes k e (index - e.base) (sub - e.lo), s.afterRead k e (index - e.base)) := by
  simp only [State.fetch, h]

theorem State.readWhole_of_readCheck {s : State} {k limit index sub : Nat} {e : EntryDef}
    (h : s.readCheck k index sub = .ok e) :
    s.readWhole k limit index sub = (s.afterRead k e (index - e.base)).respond k index
      ((s.readBytes k e (index - e.base) (sub - e.lo)).take limit)
      (decide (limit < (s.readBytes k e (index - e.base) (sub - e.lo)).length)) := by
  simp only [State.readWhole, State.fetch_of_readCheck h]

theorem udpTaken_sessAt (s : State) (op k : Nat) (d : UdpDatagram) (lead : List Byte) :
    (Safety.udpTaken s op k d lead).sessAt k = { s.sessAt k with
      lastAt := s.now, lastSeq := d.seq, cached := [], asked := askedOf op d lead :: (s.sessAt k).asked } :=
  State.putSess_sessAt ..

/-- A write that passes its checks and that its rules accept is answered as done. -/
theorem State.dictWrite_done {s : State} {k index sub : Nat} {data : List Byte} {e : EntryDef} {w : State}
    (ha : s.actBy k = s) (hr : Safety.ready s k) (hc : s.writeCheck false k index sub data = .ok e)
    (hd : s.effect plainly k e index sub data = .done w) : s.dictWrite k index sub data = Safety.accepted w k index := by
  simp only [State.dictWrite, State.write, ha, hr.1, hr.2, Bool.and_self, if_true, hc, hd]
  rfl

theorem State.readSegment_of_blockSource {s w : State} {k limit index sub offset : Nat} {data : List Byte}
    (h : s.blockSource k index sub offset = .ok (data, w)) :
    ∃ t, s.readSegment k limit index sub offset =
      (w.modSess k (fun u => { u with reading := t })).respond k index ((data.drop offset).take limit)
        (decide (offset + limit < data.length)) := by
  simp only [State.readSegment, h]
  exact ⟨_, rfl⟩

/-- The session of a request that is served is a UDP session. -/
theorem le_of_udpServed {s : State} {op k : Nat} {d : UdpDatagram} (h : Safety.udpServed s op k d) : 4 ≤ k := by
  obtain ⟨-, h1, -, rfl, -⟩ := h; omega

/-- A served request that its access answers has a response datagram. -/
theorem State.udpReceive_answered {s w : State} {op k : Nat} {d : UdpDatagram} {lead data : List Byte} {shape more : Bool}
    {serve : Nat → State → State} (h : Safety.udpServed s op k d) (hs : shape = true)
    (hx : serve k (Safety.udpTaken s op k d lead) = w.respond k d.index data more)
    (ha : (w.sessAt k).asked = askedOf op d lead :: (s.sessAt k).asked) (hks : (w.sessAt k).ks = (s.sessAt k).ks) :
    s.udpReceive op d lead shape serve = (w.respond k d.index data more).queueAsked k (askedOf op d lead) ∧
      Safety.udpReplied (s.udpReceive op d lead shape serve) op k d (s.sessAt k).ks more (lead ++ data) := by
  have he := State.udpReceive_served lead serve h hs
  rw [hx] at he
  exact ⟨he, he ▸ udpReplied_of_asked (le_of_udpServed h) ha hks rfl⟩

theorem State.answered_sess_of (w : State) (k index : Nat) (data : List Byte) (more : Bool) (a : Asked) (f : Sess → β)
    (hf : ∀ u l c, f { u with asked := l, cached := c } = f u) :
    f (((w.respond k index data more).queueAsked k a).sessAt k) = f (w.sessAt k) := by
  rw [State.queueAsked_sess_of _ _ _ f fun u l => hf u l u.cached]
  exact answer_sess_of _ _ _ f k hf

theorem State.writeSegment_more {s : State} {k index sub offset : Nat} {data before : List Byte}
    (ho : s.openData k index sub offset = some before)
    (hr : s.segmentRefused k index sub offset (before ++ data).length = none) :
    s.writeSegment k index sub offset data true = (s.putSess k { s.sessAt k with
      transfer := some ⟨index, sub, before ++ data, s.now⟩ }).respond k index [] false := by
  simp only [State.writeSegment, ho, if_true, hr]
  rfl

theorem State.writeSegment_last {s : State} {k index sub offset : Nat} {data before : List Byte}
    (ho : s.openData k index sub offset = some before) :
    s.writeSegment k index sub offset data false
      = (s.putSess k { s.sessAt k with transfer := none }).dictWrite k index sub (before ++ data) := by
  simp only [State.writeSegment, ho, Bool.false_eq_true, if_false]
  rfl

/-- Settles O7: each datagram is served on its session and answered there (`State.udpReceive_answered`). -/
theorem udpReadsAndWrites : Obligations.UdpReadsAndWrites := by
  unfold Obligations.UdpReadsAndWrites
  refine ⟨fun s k d e h hp hc => ?_, fun s k d e w h hc hd he hw => ?_, fun s k d data w h hp hb hw => ?_,
    fun s k d before h hp ho hm hr => ?_, fun s k d before h hp ho hm => ?_⟩
  · have hv := udpTaken_sessAt s.begin 1 k d []
    obtain ⟨he, hr⟩ := State.udpReceive_answered (serve := fun k s => s.readWhole k udpPayload d.index d.sub) h
      (decide_eq_true hp) (State.readWhole_of_readCheck hc)
      (by rw [State.afterRead_sess_of _ _ _ _ Sess.asked fun _ _ _ => rfl, hv])
      (by rw [State.afterRead_sess_of _ _ _ _ Sess.ks fun _ _ _ => rfl, hv])
    refine ⟨_, rfl, hr, ?_⟩
    rw [he, State.answered_sess_of _ _ _ _ _ _ Sess.lastSeq fun _ _ _ => rfl,
      State.afterRead_sess_of _ _ _ _ Sess.lastSeq fun _ _ _ => rfl, hv]
  · have hv := udpTaken_sessAt s.begin 2 k d []
    obtain ⟨he, hr⟩ := State.udpReceive_answered (serve := fun k s => s.dictWrite k d.index d.sub d.payload) h rfl
      (State.dictWrite_done rfl ⟨hd, by rw [hv]; exact h.2.2.2.2.1⟩ hc he) (by rw [hw, hv]) (by rw [hw, hv])
    refine ⟨_, rfl, hr, ?_⟩
    rw [he]
    exact ⟨State.answer_regs .., State.answer_doms .., State.answer_shadow ..⟩
  · have hv := udpTaken_sessAt s.begin 3 k d (beBytes 4 (beAt d.payload 0 4))
    obtain ⟨t, ht⟩ := State.readSegment_of_blockSource (limit := min (beAt d.payload 4 2) 1436) hb
    obtain ⟨-, hr⟩ := State.udpReceive_answered (serve := fun k s => s.readSegment k (min (beAt d.payload 4 2) (udpPayload - 4))
      d.index d.sub (beAt d.payload 0 4)) h (decide_eq_true hp) ht
      (by simp only [State.modSess, State.putSess_sessAt, hw, hv]) (by simp only [State.modSess, State.putSess_sessAt, hw, hv])
    exact ⟨_, rfl, hr⟩
  · have hv := udpTaken_sessAt s.begin 4 k d []
    obtain ⟨he, ha⟩ := State.udpReceive_answered
      (serve := fun k s => s.writeSegment k d.index d.sub (beAt d.payload 0 4) (d.payload.drop 4) (udpMore d)) h
      (decide_eq_true hp) (hm ▸ State.writeSegment_more ho hr) (by rw [State.putSess_sessAt, hv])
      (by rw [State.putSess_sessAt, hv])
    refine ⟨_, rfl, ha, ?_, ?_, ?_⟩
    · rw [he, State.answered_sess_of _ _ _ _ _ _ Sess.transfer fun _ _ _ => rfl, State.putSess_sessAt]
      rfl
    · rw [he]; exact State.answer_regs ..
    · rw [he]; exact State.answer_doms ..
  · refine congrArg Host.Outcome.next ((State.udpReceive_served _ _ h (decide_eq_true hp)).trans ?_)
    rw [hm, State.writeSegment_last ho]
    rfl

end Sys2Proof.Machine
end

-- ==== Proofs: UDP commits, subscriptions and authentication ====
section
/-! PROOFS. The other datagrams, and O8. -/
namespace Sys2Proof.Machine
open Sys2Proof
set_option Elab.async false

/-! ### COMMIT, SUBSCRIBE and AUTH datagrams, repeats and idle sessions (R413 to R416) -/

theorem State.checkEach_eq_none_iff (s : State) (k : Nat) (l : List (Nat × Nat × List Byte)) :
    s.checkEach k l = none ↔ ∀ x ∈ l, ∃ e, s.writeCheck false k x.1 x.2.1 x.2.2 = .ok e := by
  induction l with
  | nil => simp [State.checkEach]
  | cons x l ih =>
    obtain ⟨index, sub, data⟩ := x
    simp only [State.checkEach, List.forall_mem_cons]
    cases h : s.writeCheck false k index sub data with
    | ok e => simp [ih]
    | error r => simp

/-- A request refused for a record changes the session, tells it and answers it, and writes nothing. -/
theorem State.refuseRecord_frame (s a : State) (k index i j : Nat) (r : Refuse) :
    let t := s.refuseRecord a k index i j r
    WireItem.response ⟨k, r.abort, r.detail, [], false⟩ ∈ t.wire ∧ t.regs = s.regs ∧ t.shadow = s.shadow ∧ t.doms = s.doms ∧
      t.shadowDoms = s.shadowDoms ∧ t.validating = s.validating := by
  obtain ⟨d, x, y, h⟩ := (s.noteRefusal k i j r).tellRefused_is_raise a k i j r
  unfold State.refuseRecord
  rw [h]
  exact ⟨State.answer_wire .., State.answer_regs .., State.answer_shadow .., State.answer_doms .., State.answer_shadowDoms ..,
    State.answer_validating ..⟩

theorem State.udpCommit_ok {s w : State} {k index sub : Nat} {l : List (Nat × Nat × List Byte)}
    (hc : s.checkEach k (l ++ [(index, sub, [1])]) = none) (he : s.effectEach k k (l ++ [(index, sub, [1])]) = .ok w) :
    s.udpCommit k index sub l = w := by
  simp only [State.udpCommit, hc, he]

theorem State.udpCommit_refused {s : State} {k index sub i j : Nat} {l : List (Nat × Nat × List Byte)} {r : Refuse}
    (h : s.checkEach k (l ++ [(index, sub, [1])]) = some (i, j, r) ∨ s.checkEach k (l ++ [(index, sub, [1])]) = none ∧
      ∃ u, s.effectEach k k (l ++ [(index, sub, [1])]) = .error (i, j, r, u)) :
    ∃ a, s.udpCommit k index sub l = s.refuseRecord a k index i j r := by
  unfold State.udpCommit
  rcases h with h | ⟨h, u, hu⟩
  · simp only [h]; exact ⟨_, rfl⟩
  · simp only [h, hu]; exact ⟨_, rfl⟩

/-- A datagram whose tag fails is counted, and told at most once per second. -/
theorem State.rejectTag_spec (s : State) (k source : Nat) :
    let t := s.rejectTag k source
    t.regs = (s.inc Dict.MANAGEMENT_TAG_REJECTS).regs ∧ t.sess = s.sess ∧
      ((s.tagRejectAt = 0 ∨ s.tagRejectAt - 1 + 1000000000 ≤ s.now) →
        Safety.raised s t Event.TAG_REJECTED k source ∧ t.tagRejectAt = s.now + 1) ∧
      (¬ (s.tagRejectAt = 0 ∨ s.tagRejectAt - 1 + 1000000000 ≤ s.now) → t.ev = s.ev ∧ t.tagRejectAt = s.tagRejectAt) := by
  intro t
  by_cases h : s.tagRejectAt = 0 ∨ s.tagRejectAt - 1 + 1000000000 ≤ s.now
  · have ht : t = { (s.inc Dict.MANAGEMENT_TAG_REJECTS).raise Event.TAG_REJECTED k source with tagRejectAt := s.now + 1 } :=
      if_pos h
    rw [ht]
    exact ⟨rfl, rfl, fun _ => ⟨raised_eq (raised_raise_own (u := s.inc Dict.MANAGEMENT_TAG_REJECTS) rfl) rfl, rfl⟩,
      fun hn => absurd h hn⟩
  · have ht : t = s.inc Dict.MANAGEMENT_TAG_REJECTS := if_neg h
    rw [ht]
    exact ⟨rfl, rfl, fun hp => absurd hp h, fun _ => ⟨rfl, rfl⟩⟩

/-- A datagram of a session, by its tag and its sequence, where it is not new. -/
theorem State.udpReceive_wrongTag {s : State} {op k : Nat} {d : UdpDatagram} {lead : List Byte} {shape : Bool}
    {serve : Nat → State → State} (hup : (s.udpUp && s.udpHere d) = true) (hk : s.udpSession d = some k)
    (ht : d.tag ≠ hmac16 (s.sessAt k).ks (udpCovered op d)) :
    s.udpReceive op d lead shape serve = s.rejectTag k d.source := by
  simp only [State.udpReceive, hup, if_true, hk, beq_eq_false_iff_ne.2 ht, Bool.false_eq_true, if_false]

theorem State.udpReceive_tagged {s : State} {op k : Nat} {d : UdpDatagram} {lead : List Byte} {shape : Bool}
    {serve : Nat → State → State} (hup : (s.udpUp && s.udpHere d) = true) (hk : s.udpSession d = some k)
    (ht : d.tag = hmac16 (s.sessAt k).ks (udpCovered op d)) :
    s.udpReceive op d lead shape serve = s.udpServe op k d lead shape (serve k) := by
  simp only [State.udpReceive, hup, if_true, hk, beq_iff_eq.2 ht]

theorem State.udpServe_repeat {s : State} {op k : Nat} {d : UdpDatagram} {lead : List Byte} {shape : Bool}
    {serve : State → State} (hq : d.seq = (s.sessAt k).lastSeq) (hc : (s.sessAt k).cached ≠ []) :
    s.udpServe op k d lead shape serve = (((s.actBy k).putSess k { s.sessAt k with lastAt := s.now }).out
      (.packet packetUdp k (s.sessAt k).cached)) := by
  simp only [State.udpServe, if_pos hq, List.isEmpty_eq_false_iff.2 hc, Bool.false_eq_true, if_false]
  rfl

theorem State.udpServe_older {s : State} {op k : Nat} {d : UdpDatagram} {lead : List Byte} {shape : Bool}
    {serve : State → State} (hq : d.seq < (s.sessAt k).lastSeq) :
    s.udpServe op k d lead shape serve = (s.actBy k).putSess k { s.sessAt k with lastAt := s.now } := by
  simp only [State.udpServe, if_neg (Nat.ne_of_lt hq), if_pos hq]
  rfl

/-- A transfer left idle for 1 s is abandoned. -/
theorem filter_of_idleTransfer (now : Nat) (t : Option Transfer) :
    (if idleTransfer now t then none else t) = t.filter (fun x => decide (now < x.at_ + 1000000000)) := by
  cases t with
  | none => rfl
  | some x =>
    by_cases h : x.at_ + nsPerS ≤ now
    · simp [idleTransfer, h, Option.filter, show ¬ now < x.at_ + 1000000000 from Nat.not_lt.2 h]
    · simp [idleTransfer, h, Option.filter, show now < x.at_ + 1000000000 from Nat.not_le.1 h]

/-- The session that AUTH phase 1 opens (R402, R415). -/
def State.sessOpened (s : State) (d : UdpDatagram) (k : Nat) : Sess :=
  let client := d.payload.drop 4
  let device := (s.draw 16).1
  let ks := s.authKey k (byteAt d.payload 1) (byteAt d.payload 2) client device
  { s.freshSess k with
    authSlot := byteAt d.payload 1, authRights := byteAt d.payload 2, clientNonce := client, deviceNonce := device
    nonceFresh := true, ks := ks, lastSeq := d.seq, sourceAddr := d.source
    cached := udpDatagram (k - 3) (askedOf 7 d (d.payload.take 4)) ks false false false (d.payload.take 4 ++ device) }

theorem State.sessOpened_ks (s : State) (d : UdpDatagram) (k : Nat) : (s.sessOpened d k).ks
    = s.authKey k (byteAt d.payload 1) (byteAt d.payload 2) (d.payload.drop 4) (s.draw 16).1 := rfl

theorem State.sessOpened_cached (s : State) (d : UdpDatagram) (k : Nat) : (s.sessOpened d k).cached
    = udpDatagram (k - 3) ⟨7, d.seq, d.index, d.sub, []⟩ (s.sessOpened d k).ks false false false
      (d.payload.take 4 ++ (s.draw 16).1) := rfl

/-- AUTH phase 1, where a session is free and the slot serves, opens it. -/
theorem State.udpOpenSession_opens {s : State} {d : UdpDatagram} {k : Nat}
    (hr : s.authRefused (byteAt d.payload 1) (byteAt d.payload 2) = none)
    (hk : [4, 5, 6, 7, 8, 9, 10, 11].find? (fun j => !(s.sessAt j).isOpen) = some k) :
    s.udpOpenSession d (askedOf 7 d (d.payload.take 4)) = (({ s with draws := s.draws + 1 }.putSess k (s.sessOpened d k)).raiseBy k
      Event.SESSION_OPENED k d.source).out (.packet packetUdp k (s.sessOpened d k).cached) := by
  simp only [State.udpOpenSession, hr, hk]
  rfl

theorem State.draw_length (s : State) (n : Nat) : (s.draw n).1.length = n := by
  simp [State.draw]

/-- An event told and an item sent show nothing else. -/
theorem State.told_spec (v : State) (k : Nat) (d : EventDef) (a b : Nat) (w : WireItem) :
    let t := (v.raiseBy k d a b).out w
    t.sess = v.sess ∧ Safety.raised v t d a b ∧ w ∈ t.wire ∧ t.regs = v.regs :=
  ⟨rfl, raised_eq (raised_raiseBy (u := v) rfl) rfl, List.mem_append_right _ (List.mem_singleton.2 rfl), rfl⟩

/-- AUTH phase 1, where the session is refused, is answered with the refusal. -/
theorem State.udpOpenSession_refused {s : State} {d : UdpDatagram} {a : Asked} {r : Refuse}
    (hr : s.authRefused (byteAt d.payload 1) (byteAt d.payload 2) = some r) :
    s.udpOpenSession d a
      = s.out (.packet packetUdp 0 (udpDatagram 0 a [] false true false (beBytes 4 r.abort ++ beBytes 2 r.detail))) := by
  simp only [State.udpOpenSession, hr]

theorem State.udpAuth1_served {s : State} {d : UdpDatagram} (hup : (s.udpUp && s.udpHere d) = true) (h0 : d.session = 0)
    (ht : d.tag = zeros 16) (hh : udpHeaderFits d = true) (ha : authShape 1 d.payload = true) :
    s.udpAuth1 d = s.udpOpenSession d (askedOf 7 d (d.payload.take 4)) := by
  simp only [State.udpAuth1, hup, if_true, h0, ht, ne_eq, not_true_eq_false, or_self, if_false, hh, ha, Bool.and_self]
  rfl

/-- AUTH phase 1 that opens a session: what the state shows of it, and what is sent. -/
theorem State.udpAuth1_opens {s : State} {d : UdpDatagram} {k : Nat} (hup : (s.udpUp && s.udpHere d) = true)
    (h0 : d.session = 0) (ht : d.tag = zeros 16) (hh : udpHeaderFits d = true) (ha : authShape 1 d.payload = true)
    (hr : s.authRefused (byteAt d.payload 1) (byteAt d.payload 2) = none)
    (hk : [4, 5, 6, 7, 8, 9, 10, 11].find? (fun j => !(s.sessAt j).isOpen) = some k) :
    ((s.udpAuth1 d).sessAt k) = s.sessOpened d k ∧ Safety.raised s (s.udpAuth1 d) Event.SESSION_OPENED k d.source ∧
      WireItem.packet packetUdp k (s.sessOpened d k).cached ∈ (s.udpAuth1 d).wire ∧ (s.udpAuth1 d).regs = s.regs := by
  rw [State.udpAuth1_served hup h0 ht hh ha, State.udpOpenSession_opens hr hk]
  obtain ⟨hs, hev, hw, hg⟩ := State.told_spec ({ s with draws := s.draws + 1 }.putSess k (s.sessOpened d k)) k
    Event.SESSION_OPENED k d.source (.packet packetUdp k (s.sessOpened d k).cached)
  exact ⟨(congrArg (fun m => Store.read initialSess m k) hs).trans (State.putSess_sessAt ..), hev, hw, hg⟩

/-- A proof that is accepted leaves its session what waits for an answer and its key. -/
theorem State.proof_done_sess {s w : State} {k : Nat} {p : List Byte} (h : s.proof k p = .done w) :
    (w.sessAt k).asked = (s.sessAt k).asked ∧ (w.sessAt k).ks = (s.sessAt k).ks := by
  unfold State.proof at h
  extract_lets u ks right t at h
  have ht : (t.sessAt k).asked = (s.sessAt k).asked ∧ (t.sessAt k).ks = (s.sessAt k).ks := by
    rw [show t.sessAt k = _ from State.putSess_sessAt ..]
    exact ⟨rfl, rfl⟩
  split at h
  · cases h
  · split at h
    · cases h
      exact iteInduction (motive := fun v : State => (v.sessAt k).asked = _ ∧ (v.sessAt k).ks = _) (fun _ => ht) fun _ => ht
    · cases h

theorem State.udpAuth2_done {s w : State} {k index : Nat} {p : List Byte} (h : s.proof k p = .done w) :
    s.udpAuth2 k index p = w.respond k index (w.sessAt k).deviceProof false := by
  simp only [State.udpAuth2, h]

/-- A closed session waits for nothing. -/
theorem State.queueAsked_of_init {s : State} {k : Nat} (a : Asked) (h : s.sessAt k = Sess.init) :
    (s.queueAsked k a).sessAt k = Sess.init := by
  unfold State.queueAsked State.modSess
  rw [State.putSess_sessAt, h]
  rfl

/-- A session that is closed once it has been answered (R415). -/
theorem State.closeAnswered_spec (s : State) {k : Nat} (index : Nat) (data : List Byte) (a : Asked) (hk : 4 ≤ k)
    (ho : (s.sessAt k).isOpen = true) :
    let t := ((s.respond k index data false).dropRights k 1).queueAsked k a
    t.sessAt k = Sess.init ∧ (∀ w ∈ (s.respond k index data false).wire, w ∈ t.wire) ∧
      Safety.raised s t Event.SESSION_CLOSED k 1 := by
  have ho' : ((s.respond k index data false).sessAt k).isOpen = true :=
    (answer_sess_of s index ⟨k, 0, 0, data, false⟩ Sess.isOpen k fun _ _ _ => rfl).trans ho
  have hr : Safety.raised s (((s.respond k index data false).putSess k Sess.init).raise Event.SESSION_CLOSED k 1)
    Event.SESSION_CLOSED k 1 := raised_raise_own
      (u := (s.respond k index data false).putSess k Sess.init) (State.answer_queue s index ⟨k, 0, 0, data, false⟩)
  rw [State.dropRights_of_le 1 hk ho']
  exact ⟨State.queueAsked_of_init _ (State.putSess_sessAt ..), fun w hw => mem_raise_wire hw .., raised_eq hr rfl⟩

/-- A subscription changes its session's severity and the count of its events. -/
theorem State.subscribe_eq (s : State) (k index severity : Nat) : ∃ l : EventLog, s.subscribe k index severity
    = ({ s with ev := l }.putSess k { s.sessAt k with subSeverity := severity }).respond k index [] false := by
  unfold State.subscribe
  by_cases h : (s.sessAt k).subSeverity = 0xFF
  · rw [if_pos h]; exact ⟨_, rfl⟩
  · rw [if_neg h]; exact ⟨s.ev, rfl⟩

/-- Settles O8: what a datagram does follows from its tag and sequence (`State.udpReceive_served` and its neighbours). -/
theorem udpSessionsAndCommits : Obligations.UdpSessionsAndCommits := by
  unfold Obligations.UdpSessionsAndCommits
  refine ⟨fun s k d l w h hl hn hc he => ?_, fun s k d l i j r h hl hn hc => ?_, State.checkEach_eq_none_iff,
    fun s k d h h4 h0 hs => ?_, fun s d k hup h0 ht hh ha hr hk => ?_, fun s d hup h0 ht hh ha h8 => ?_,
    fun s k d w h ha hp => ?_, fun s k d h ha => ?_, fun s u => ?_, fun s u ho hi => ?_, fun s k d hup hk ht => ?_,
    fun s k d hup hk ht hq hc => ?_, fun s k d hup hk ht hq => ?_, fun s d hup => ?_⟩
  · refine congrArg Host.Outcome.next ((State.udpReceive_served _ _ h (by simp [hl, hn])).trans ?_)
    rw [hl, Option.getD_some, State.udpCommit_ok hc he]
    rfl
  · obtain ⟨a, hr⟩ := State.udpCommit_refused hc
    refine ⟨_, congrArg Host.Outcome.next ((State.udpReceive_served _ _ h (by simp [hl, hn])).trans
      (congrArg (fun t => State.queueAsked t k _) ?_)),
      State.refuseRecord_frame (Safety.udpTaken s.begin 5 k d []) a k d.index i j r⟩
    rw [hl]
    exact hr
  · have hv := udpTaken_sessAt s.begin 6 k d []
    obtain ⟨l, hl⟩ := (Safety.udpTaken s.begin 6 k d []).subscribe_eq k d.index (byteAt d.payload 0)
    obtain ⟨he, hr⟩ := State.udpReceive_answered (serve := fun k s => s.subscribe k d.index (byteAt d.payload 0))
      (shape := decide (d.payload.length = 4) && leAt d.payload 1 3 == 0 &&
        (decide (byteAt d.payload 0 ≤ 5) || byteAt d.payload 0 == 0xFF)) h (by simpa [h4, h0] using hs) hl
      (by rw [State.putSess_sessAt, hv]) (by rw [State.putSess_sessAt, hv])
    refine ⟨_, rfl, hr, ?_, ?_⟩
    · rw [he, State.answered_sess_of _ _ _ _ _ _ Sess.subSeverity fun _ _ _ => rfl, State.putSess_sessAt]
    · rw [he]; exact State.answer_regs ..
  · obtain ⟨hu, hev, hw, hregs⟩ := State.udpAuth1_opens hup h0 ht hh ha hr hk
    refine ⟨(s.begin.draw 16).1, s.begin.udpAuth1 d, s.begin.draw_length 16, rfl, ?_⟩
    rw [State.sessOpened_cached] at hw
    rw [hu]
    exact ⟨rfl, rfl, rfl, State.sessOpened_ks .., rfl, rfl, hev, hw, hregs⟩
  · refine congrArg Host.Outcome.next ((State.udpAuth1_served hup h0 ht hh ha).trans
      (State.udpOpenSession_refused (r := .rule 0xB8) (firstOf_cons_true (decide_eq_true h8))))
  · have hv := udpTaken_sessAt s.begin 7 k d (d.payload.take 4)
    obtain ⟨hw1, hw2⟩ := State.proof_done_sess hp
    obtain ⟨he, hr⟩ := State.udpReceive_answered (serve := fun k s => s.udpAuth2 k d.index (d.payload.drop 4)) h ha
      (State.udpAuth2_done hp) (by rw [hw1, hv]) (by rw [hw2, hv])
    refine ⟨_, rfl, hr, ?_⟩
    rw [he, State.answered_sess_of _ _ _ _ _ _ Sess.rights fun _ _ _ => rfl]
  · have hk := le_of_udpServed h
    have hv := udpTaken_sessAt s.begin 7 k d (d.payload.take 4)
    obtain ⟨h1, h2, h3⟩ := (Safety.udpTaken s.begin 7 k d (d.payload.take 4)).closeAnswered_spec d.index (zeros 16)
      (askedOf 7 d (d.payload.take 4)) hk (by rw [hv]; exact h.2.2.2.2.1)
    exact ⟨_, congrArg Host.Outcome.next (State.udpReceive_served (d.payload.take 4)
      (fun k s => (s.respond k d.index (zeros 16) false).dropRights k 1) h ha),
      h2 _ (udpReplied_of_asked hk (by rw [hv]) (by rw [hv]) rfl), h1, raised_of_queue _ _ _ _ _ _ _ h3 rfl rfl⟩
  · exact congrArg Host.Outcome.next (by simp only [State.modSess, filter_of_idleTransfer])
  · exact congrArg Host.Outcome.next ((if_pos ⟨ho, hi⟩).trans (State.dropRights_of_le 2 (by omega) ho))
  · exact ⟨_, congrArg Host.Outcome.next (State.udpReceive_wrongTag hup hk ht), State.rejectTag_spec ..⟩
  · exact congrArg Host.Outcome.next ((State.udpReceive_tagged hup hk ht).trans (State.udpServe_repeat hq hc))
  · exact congrArg Host.Outcome.next ((State.udpReceive_tagged hup hk ht).trans (State.udpServe_older hq))
  · exact congrArg Host.Outcome.next (if_neg (by simp [hup]))

end Sys2Proof.Machine
end

-- ==== Proofs: SPI frames (R417) ====
section
/-! PROOFS. A frame that is served is one access, and O9. -/
namespace Sys2Proof.Machine
open Sys2Proof
set_option Elab.async false

/-! ### SPI (R417) -/

/-- A read leaves the transports' engines as they are. -/
theorem State.afterRead_ports (s : State) (k n : Nat) (e : EntryDef) :
    (s.afterRead k e n).spi = s.spi ∧ (s.afterRead k e n).mailbox = s.mailbox := by
  have hq : (s.readQueue k).2.spi = s.spi ∧ (s.readQueue k).2.mailbox = s.mailbox := by
    unfold State.readQueue
    exact iteInduction (motive := fun t : State => t.spi = s.spi ∧ t.mailbox = s.mailbox) (fun _ => ⟨rfl, rfl⟩)
      fun _ => ⟨rfl, rfl⟩
  unfold State.afterRead
  split
  · exact hq
  · split
    · exact ⟨rfl, rfl⟩
    · split
      · exact ⟨rfl, rfl⟩
      · split
        · exact ⟨rfl, rfl⟩
        · exact ⟨rfl, rfl⟩

/-- A request frame that is served starts its access. -/
theorem State.spiRequest_served {s : State} {op : Nat} {f : SpiFrame} {shape : Bool} {serve : State → State}
    (h : Safety.spiServed s op f) (hs : shape = true) :
    s.spiRequest op f shape serve = serve (Safety.spiTaken s f) := by
  obtain ⟨hup, hc, h1, hl⟩ := h
  have h1' : ¬ ((s.actBy 2).misoIdles f).spi.status = 1 := h1
  simp only [State.spiRequest, hup, if_true, ne_eq, hc, not_true_eq_false, if_false, if_neg h1', hs, hl, decide_true, Bool.and_self]

/-- The answer of an outstanding SPI request waits for FETCH. -/
theorem State.answer_spi {s : State} {index : Nat} {r : Response} (hk : r.sess = 2) (h1 : s.spi.status = 1)
    (hi : s.spi.index = index) : s.answer index r = { s with
      wire := s.wire ++ [.response r], spi := ⟨if r.abort = 0 then 2 else 3, index, r.abort, r.detail, r.data⟩ } := by
  simp only [State.answer, hk, if_true, State.spiAnswer]
  exact if_pos ⟨h1, hi⟩

theorem State.refusalTold_spi (s : State) (k index sub : Nat) (r : Refuse) :
    (s.refusalTold k index sub r).spi = s.spi ∧ (s.refusalTold k index sub r).regs = s.regs := by
  obtain ⟨-, h⟩ := s.refusalTold_spec k index sub r
  rw [h]
  exact ⟨rfl, rfl⟩

theorem dictUp_of_spiUp {s : State} (h : s.spiUp = true) : s.dictUp = true := ((Bool.and_eq_true ..).mp h).1

/-- Settles O9: a frame that is served is one access (`State.spiRequest_served`), whose answer FETCH finds. -/
theorem spiFrames : Obligations.SpiFrames := by
  unfold Obligations.SpiFrames
  refine ⟨fun s f e h h0 hd hc => ?_, fun s f e w h h0 hd ho hc he hw => ?_, fun s f r h h0 hd ho hc hr => ?_,
    fun s f data w h hd hb hw => ?_, fun s f before h hd ho hm hr => ?_, fun s f before h hd ho hm => ?_, fun s hup => ?_,
    fun s f hup hc => ?_, fun s f hup hc h1 => ?_, fun s f => rfl⟩
  · refine ⟨_, congrArg Host.Outcome.next ((State.spiRequest_served h (by simp [h0, hd])).trans
      (State.readWhole_of_readCheck hc)), ?_⟩
    have hv := ((Safety.spiTaken s.begin f).afterRead_ports 2 (f.index - e.base) e).1
    exact congrArg State.spi (State.answer_spi rfl (by rw [hv]) (by rw [hv]))
  · have hr : Safety.ready (Safety.spiTaken s.begin f) 2 := ⟨dictUp_of_spiUp h.1, ho⟩
    have ha : Safety.accepted w 2 f.index = { w with
        wire := w.wire ++ [.response ⟨2, 0, 0, [], false⟩], spi := ⟨2, f.index, 0, 0, []⟩ } :=
      State.answer_spi rfl (congrArg SpiPort.status hw) (congrArg SpiPort.index hw)
    exact congrArg Host.Outcome.next ((State.spiRequest_served h (by simp [h0, hd])).trans
      ((State.dictWrite_done (s := Safety.spiTaken s.begin f) rfl hr hc he).trans ha))
  · have hv : Safety.ready (Safety.spiTaken s.begin f) 2 := ⟨dictUp_of_spiUp h.1, ho⟩
    obtain ⟨hp, hg⟩ := (Safety.spiTaken s.begin f).refusalTold_spi 2 f.index f.sub r
    have ha := State.answer_spi (s := (Safety.spiTaken s.begin f).refusalTold 2 f.index f.sub r) (index := f.index)
      (r := ⟨2, r.abort, r.detail, [], false⟩) rfl (congrArg SpiPort.status hp) (congrArg SpiPort.index hp)
    refine ⟨_, congrArg Host.Outcome.next ((State.spiRequest_served h (by simp [h0, hd])).trans
      ((State.write_refused (s := Safety.spiTaken s.begin f) hv hc).trans
        ((State.refuseWrite_eq (State.writeCheck_ownEvent hc)).trans ha))), ?_, hg⟩
    exact congrArg (fun x => SpiPort.mk x f.index r.abort r.detail []) (if_neg hr)
  · obtain ⟨t, ht⟩ := State.readSegment_of_blockSource (limit := f.length) hb
    refine ⟨_, congrArg Host.Outcome.next ((State.spiRequest_served h (by simp [hd])).trans ht), ?_⟩
    exact congrArg State.spi (State.answer_spi (s := w.modSess 2 fun u => { u with reading := t }) (index := f.index)
      (r := ⟨2, 0, 0, _, _⟩) rfl (congrArg SpiPort.status hw) (congrArg SpiPort.index hw))
  · refine ⟨_, congrArg Host.Outcome.next ((State.spiRequest_served h (by simp [hd])).trans
      ((congrArg _ hm).trans (State.writeSegment_more ho hr))), ?_, ?_, State.answer_regs .., State.answer_doms ..⟩
    · exact congrArg State.spi (State.answer_spi (r := ⟨2, 0, 0, [], false⟩) rfl rfl rfl)
    · exact (answer_sess_of _ _ _ Sess.transfer 2 fun _ _ _ => rfl).trans (congrArg Sess.transfer (State.putSess_sessAt ..))
  · refine congrArg Host.Outcome.next ((State.spiRequest_served h (by simp [hd])).trans ?_)
    rw [hm]
    exact State.writeSegment_last ho
  · exact congrArg Host.Outcome.next (if_pos hup)
  · change execSpiWrite f s = _
    simp only [execSpiWrite, State.spiRequest, hup, if_true, ne_eq, hc, not_false_eq_true]
  · have h1' : ((s.begin.actBy 2).misoIdles f).spi.status = 1 := h1
    change execSpiWrite f s = _
    simp only [execSpiWrite, State.spiRequest, hup, if_true, ne_eq, hc, not_true_eq_false, if_false, h1']

end Sys2Proof.Machine
end

-- ==== Proofs: the BAR0 mailbox and the doorbells (R418, R419) ====
section
/-! PROOFS. A GO that is served is one access, and O10. -/
namespace Sys2Proof.Machine
open Sys2Proof
set_option Elab.async false

/-! ### The BAR0 mailbox and the doorbells (R418, R419) -/

/-- An MSI-X interrupt is a matter of the event log only. -/
theorem State.fire_frame (s : State) (v : Nat) : s.fire v = { s with ev := (s.fire v).ev } := rfl

/-- A GO that the mailbox serves starts its access. -/
theorem State.mailboxGo_served {s : State} {op : Nat} {r : MbRequest} {shape : Bool} {serve : Nat → Nat → State → State}
    (h : Safety.mailboxServed s r) (hs : shape = true) :
    s.mailboxGo op r shape serve = serve (r.address / 256) (r.address % 256) (Safety.mailboxTaken s op r) := by
  obtain ⟨hup, h1, hl⟩ := h
  have hb : (s.mailbox.status != 1) = true := by simpa using h1
  simp only [State.mailboxGo, hup, hb, hs, hl, decide_true, Bool.and_self, if_true]

/-- The mailbox once its access was answered. -/
def Mailbox.done (m : Mailbox) (r : Response) : Mailbox :=
  let read := r.abort == 0 && m.op % 2 == 1
  { m with
    status := if r.abort = 0 then 2 else 3, abort := r.abort, detail := r.detail
    op := m.op % 256 + (if (if read then r.more else bit m.op 8) then 256 else 0)
    value := if read then leNat (r.data.take 8) else m.value
    length := if read then r.data.length else m.length
    data := if read then r.data else m.data }

/-- The answer of an outstanding mailbox request stands in the mailbox. -/
theorem State.respond_mailbox {s : State} {index : Nat} {data : List Byte} {more : Bool} {m : Mailbox} (hm : s.mailbox = m)
    (h1 : m.status = 1) (hi : m.address / 256 = index) :
    (s.respond 3 index data more).mailbox = m.done ⟨3, 0, 0, data, more⟩ := by
  subst hm
  have hc : s.mailbox.status = 1 ∧ s.mailbox.address / 256 = index := ⟨h1, hi⟩
  exact congrArg State.mailbox (if_pos hc)

/-- While a request is busy a GO does nothing. -/
theorem State.mailboxGo_busy {s : State} {op : Nat} {r : MbRequest} {shape : Bool} {serve : Nat → Nat → State → State}
    (h : s.mailbox.status = 1) : s.mailboxGo op r shape serve = s := by
  simp only [State.mailboxGo, h, bne_self_eq_false, Bool.and_false, Bool.false_eq_true, if_false]

theorem entryAt_of_lookup {index sub : Nat} {e : EntryDef} (h : lookup index sub = .ok e) : entryAt index sub = some e := by
  unfold lookup at h
  split at h
  · cases h
  · split at h
    · cases h
    · next he => cases h; exact he

theorem le_of_doorbell {offset index sub : Nat} (h : doorbell offset = some (index, sub)) : ¬ offset < 0x400 := by
  unfold doorbell at h
  intro hlt
  rw [if_neg (by omega), if_neg (by omega), if_neg (by omega), if_neg (by omega), if_neg (by omega)] at h
  cases h

section
variable {s w : State} {offset value index sub : Nat} {e : EntryDef} {r : Refuse} (hd : doorbell offset = some (index, sub))
  (hl : lookup index sub = .ok e) (hv : value < 256 ^ e.type.size)
include hd hl hv

/-- A doorbell whose value fits its entry is one write of the PCIe session. -/
theorem State.ring_done (hc : (s.actBy 3).writeCheck false 3 index sub (leBytes e.type.size value) = .ok e)
    (he : (s.actBy 3).effect offset 3 e index sub (leBytes e.type.size value) = .done w) : s.ring offset value = w := by
  simp only [State.ring, hd, entryAt_of_lookup hl, if_neg (Nat.not_le_of_lt hv), hc, he]

theorem State.ring_refused (hc : (s.actBy 3).writeCheck false 3 index sub (leBytes e.type.size value) = .error r) :
    s.ring offset value = (s.actBy 3).refuseDoorbell offset index sub r := by
  simp only [State.ring, hd, entryAt_of_lookup hl, if_neg (Nat.not_le_of_lt hv), hc]

end

/-- What an event tells the outside is no answer of an access. -/
theorem State.response_not_mem_tellings (s : State) (e : Ev) (x : Response) : WireItem.response x ∉ s.tellings e := by
  unfold State.tellings
  intro h
  rcases List.mem_append.1 h with h | h
  · split at h
    · unfold State.burst at h
      split at h
      · cases h
      · simp at h
    · cases h
  · obtain ⟨k, -, hk⟩ := List.mem_filterMap.1 h
    unfold State.udpEventTo at hk
    split at hk
    · cases hk
    · cases hk

/-- BAR0 reads zero past the mailbox's registers, but for the window of MB_DATA. -/
theorem Mailbox.dword_of_lt (m : Mailbox) {offset : Nat} (h : ¬(0x100000 ≤ offset ∧ offset < 0x800000)) (h34 : 0x34 < offset) :
    m.dword offset = 0 := by
  unfold Mailbox.dword
  dsimp only
  rw [if_neg h]
  split
  any_goals omega

/-- Settles O10: a request that is served is one access (`State.mailboxGo_served`), whose answer the mailbox shows. -/
theorem mailboxAndDoorbells : Obligations.MailboxAndDoorbells := by
  unfold Obligations.MailboxAndDoorbells
  refine ⟨fun s r e h hc => ?_, fun s r e w h hl ho hc he hw => ?_, fun s r data w h hl hb hw => ?_,
    fun s r before h hl ho hm hr => ?_, fun s r before h hl ho hm => ?_, fun s r h1 => ?_,
    fun s offset value index sub e w hp hd hl hv hc he => ?_, fun s offset value index sub e r hp hd hl hv hc => ?_,
    fun n hn => ?_, fun c hc => ?_, rfl, rfl,
    fun m => ⟨rfl, rfl, rfl, rfl, by simp [Mailbox.dword], rfl, rfl, rfl, rfl, rfl, fun o ho => ?_, fun o h1 h2 => ?_, fun o ho => ?_⟩⟩
  · have hp := ((Safety.mailboxTaken s.begin 1 r).afterRead_ports 3 (r.address / 256 - e.base) e).2
    have hodd : ((1 + 256 * r.more.toNat) % 2 == 1) = true := by simp; omega
    refine ⟨_, congrArg Host.Outcome.next ((State.mailboxGo_served h rfl).trans (State.readWhole_of_readCheck hc)), ?_⟩
    rw [State.respond_mailbox hp rfl rfl]
    simp [Mailbox.done, hodd]
  · have hr : Safety.ready (Safety.mailboxTaken s.begin 2 r) 3 :=
      ⟨((Bool.and_eq_true ..).mp ((Bool.and_eq_true ..).mp h.1).1).1, ho⟩
    have ha := State.respond_mailbox (data := []) (more := false) hw rfl rfl
    refine ⟨_, congrArg Host.Outcome.next ((State.mailboxGo_served h (decide_eq_true hl)).trans
      (State.dictWrite_done (s := Safety.mailboxTaken s.begin 2 r) rfl hr hc he)), congrArg Mailbox.status ha,
      congrArg Mailbox.abort ha, State.answer_regs .., State.answer_doms .., State.answer_shadow .., congrArg Mailbox.receipt ha⟩
  · obtain ⟨t, ht⟩ := State.readSegment_of_blockSource (limit := r.length) hb
    have hodd : ((3 + 256 * r.more.toNat) % 2 == 1) = true := by simp; omega
    have hop : (3 + 256 * r.more.toNat) % 256 = 3 := by omega
    refine ⟨_, congrArg Host.Outcome.next ((State.mailboxGo_served h (decide_eq_true hl)).trans ht), ?_⟩
    rw [State.respond_mailbox (s := w.modSess 3 fun u => { u with reading := t }) hw rfl rfl]
    simp [Mailbox.done, hodd, hop]
  · refine ⟨_, congrArg Host.Outcome.next ((State.mailboxGo_served h (decide_eq_true hl)).trans
      ((congrArg _ hm).trans (State.writeSegment_more ho hr))),
      congrArg Mailbox.status (State.respond_mailbox rfl rfl rfl), ?_, State.answer_regs ..⟩
    exact (answer_sess_of _ _ _ Sess.transfer 3 fun _ _ _ => rfl).trans (congrArg Sess.transfer (State.putSess_sessAt ..))
  · refine congrArg Host.Outcome.next ((State.mailboxGo_served h (decide_eq_true hl)).trans ?_)
    rw [hm]
    exact State.writeSegment_last ho
  · exact congrArg Host.Outcome.next (State.mailboxGo_busy h1)
  · exact congrArg Host.Outcome.next ((if_neg (le_of_doorbell hd)).trans ((if_pos hp).trans
      (State.ring_done (s := s.begin) hd hl hv hc he)))
  · have hx : (if s.begin.pcieServes then s.begin.ring offset value else s.begin)
        = (s.begin.actBy 3).refuseDoorbell offset index sub r :=
      (if_pos hp).trans (State.ring_refused (s := s.begin) hd hl hv hc)
    have hs : (((s.begin.actBy 3).refuseDoorbell offset index sub r).sessAt 3)
        = ((s.begin.actBy 3).noteRefusal 3 index sub r).sessAt 3 := rfl
    refine ⟨_, congrArg Host.Outcome.next ((if_neg (le_of_doorbell hd)).trans hx), raised_raiseBy rfl, ?_, ?_, ?_, ?_, fun x => ?_, rfl⟩
    · rw [hs]; exact congrArg Sess.refIndex (State.putSess_sessAt ..)
    · rw [hs]; exact congrArg Sess.refSub (State.putSess_sessAt ..)
    · rw [hs]; exact congrArg Sess.refAbort (State.putSess_sessAt ..)
    · rw [hs]; exact congrArg Sess.refDetail (State.putSess_sessAt ..)
    · rw [State.refuseDoorbell, State.raiseBy_wire]
      exact fun hx => (List.mem_append.1 hx).elim List.not_mem_nil fun h => State.response_not_mem_tellings _ _ _ h
  · constructor
    · rw [doorbell, if_pos (by omega)]
      congr 2; omega
    · rw [doorbell, if_neg (by omega), if_pos (by omega)]
      congr 2; omega
  · rw [doorbell, if_neg (by omega), if_neg (by omega), if_pos (by omega)]
    congr 2; omega
  · unfold Mailbox.dword
    dsimp only
    rw [if_pos (by omega), Nat.add_sub_cancel_left]
  · exact m.dword_of_lt (by omega) (by omega)
  · exact m.dword_of_lt (by omega) (by omega)

end Sys2Proof.Machine
end

-- ==== Proofs: the NMT commands (R410) ====
section
/-! PROOFS. What a command and a reset of communication leave, and O11. -/
namespace Sys2Proof.Machine
open Sys2Proof
set_option Elab.async false

/-! ### NMT (R410) -/

section
variable {s : State} {i command n : Nat} {changes : Bool} {change : State → Effect}

/-- A command that changes no DEVICE_STATE sets the interface's own state. -/
theorem State.nmtChange_alone (ht : (s.actBy i).canTakes i = true)
    (h : ¬((s.actBy i).rd Dict.MANAGEMENT_NMT_CONTROL = 0 ∧ changes = true)) :
    s.nmtChange i command n changes change = ((s.actBy i).setNmt i n).nmtObeyed i command := by
  simp only [State.nmtChange, ht, if_true, if_neg h]

theorem State.nmtChange_ignored (ht : (s.actBy i).canTakes i = true)
    (h : (s.actBy i).rd Dict.MANAGEMENT_NMT_CONTROL = 0 ∧ changes = true) (hr : ((s.actBy i).baseRights i).rank < 2) :
    s.nmtChange i command n changes change = (s.actBy i).nmtIgnored i command := by
  simp only [State.nmtChange, ht, if_true, if_pos h, if_pos hr]

theorem State.nmtChange_done {w : State} (ht : (s.actBy i).canTakes i = true)
    (h : (s.actBy i).rd Dict.MANAGEMENT_NMT_CONTROL = 0 ∧ changes = true) (hr : 2 ≤ ((s.actBy i).baseRights i).rank)
    (hd : change (s.actBy i) = .done w) : s.nmtChange i command n changes change = (w.setNmt i n).nmtObeyed i command := by
  simp only [State.nmtChange, ht, if_true, if_pos h, if_neg (Nat.not_lt.2 hr), hd]

end

theorem State.leavesFor3_iff (s : State) : s.leavesFor3 = true ↔ s.devState = 4 ∨ s.devState = 5 := by
  simp [State.leavesFor3]

/-- The communication objects of the dictionary: those below index 0x2000 (R410). -/
def ofCommunication (key : Nat) : Bool := decide (0x1000 * 256 ≤ key ∧ key < 0x2000 * 256)

/-- The registers of a store that a filter of keys leaves. -/
theorem Store.read_filter (d : Nat → α) (p : Nat → Bool) (m : Store α) (k : Nat) :
    Store.read d (m.filter fun e => p e.1) k = if p k then Store.read d m k else d k := by
  induction m with
  | nil => simp [Store.read]
  | cons e m ih =>
    obtain ⟨j, v⟩ := e
    by_cases hj : j = k
    · subst hj
      cases hp : p j with
      | true => simp [Store.read, hp]
      | false => simpa [hp] using ih
    · cases hp : p j with
      | true => simpa [Store.read, hp, hj] using ih
      | false => simpa [Store.read, hp, hj] using ih

theorem regAt_foldl_setReg {p : Nat → Bool} {l : Store Nat} (hl : ∀ e ∈ l, p e.1 = true) (s : State) {key : Nat}
    (h : p key = false) : (l.foldl (fun s e => s.setReg e.1 e.2) s).regAt key = s.regAt key := by
  induction l generalizing s with
  | nil => rfl
  | cons e l ih =>
    have hne : key ≠ e.1 := fun he => by simp [he, hl e (by simp)] at h
    rw [List.foldl_cons, ih (fun x hx => hl x (by simp [hx]))]
    exact Store.read_write_ne _ _ _ hne

/-- Reloading leaves every register but those of the communication objects. -/
theorem State.reloadObjects_regAt (s : State) {key : Nat} (h : ofCommunication key = false) :
    s.reloadObjects.regAt key = s.regAt key := by
  unfold State.reloadObjects
  refine (regAt_foldl_setReg (p := ofCommunication) (fun e he => ?_) _ h).trans ?_
  · split at he
    · cases he
    · exact (List.mem_filter.1 he).2
  · refine (Store.read_filter dictDefault (fun k => !ofCommunication k) s.regs key).trans ?_
    simp [h, State.regAt]

/-- Where no configuration is loaded, reloading restores the defaults. -/
theorem State.reloadObjects_regAt_first {s : State} (ho : s.onlyFirst = true) {key : Nat} (h : ofCommunication key = true) :
    s.reloadObjects.regAt key = dictDefault key := by
  have he : s.reloadObjects = { s with regs := s.regs.filter fun e => !ofCommunication e.1 } := by
    simp only [State.reloadObjects, ho, Bool.true_or, if_true, List.foldl_nil]
    rfl
  rw [he]
  refine (Store.read_filter dictDefault (fun k => !ofCommunication k) s.regs key).trans ?_
  simp [h]

theorem foldl_setReg_eq (l : Store Nat) (s : State) :
    l.foldl (fun s e => s.setReg e.1 e.2) s = { s with regs := (l.foldl (fun s e => s.setReg e.1 e.2) s).regs } := by
  induction l generalizing s with
  | nil => rfl
  | cons e l ih => rw [List.foldl_cons, ih]; rfl

theorem State.reloadObjects_frame (s : State) : s.reloadObjects = { s with regs := s.reloadObjects.regs } :=
  foldl_setReg_eq ..

/-- Reset communication: the objects are reloaded, the session drops to its base rights, and the boot-up message goes out. -/
theorem State.resetCommunication_eq (s : State) {i : Nat} (hi : i < 2) :
    s.resetCommunication i = (((((s.actBy i).reloadObjects.putSess i { (s.actBy i).reloadObjects.sessAt i with
      rights := (s.actBy i).reloadObjects.baseRights i, grantSlot := 0xFF, transfer := none, reading := none
      nonceFresh := false }).raise Event.RIGHTS_DROPPED i 3).modCan i fun c => { c with
        pendingRpdo := [], tpdoLast := [], tpdoAt := [], tpdoSync := [] }).bootUp i) := by
  rw [State.resetCommunication, State.dropRights_of_lt _ (by omega)]

theorem State.reloadObjects_baseRights (s : State) (i : Nat) : s.reloadObjects.baseRights i = s.baseRights i := by
  have h1 : s.reloadObjects.rd Dict.MANAGEMENT_BASE_RIGHTS_CAN = s.rd Dict.MANAGEMENT_BASE_RIGHTS_CAN :=
    s.reloadObjects_regAt (by decide)
  have h2 : s.reloadObjects.rd Dict.MANAGEMENT_BASE_RIGHTS_SPI = s.rd Dict.MANAGEMENT_BASE_RIGHTS_SPI :=
    s.reloadObjects_regAt (by decide)
  have h3 : s.reloadObjects.dev = s.dev := by rw [State.reloadObjects_frame]
  rw [State.baseRights, State.baseRights, h1, h2, h3]

theorem State.reloadObjects_queue (s : State) : s.reloadObjects.ev.queue = s.ev.queue := by
  rw [State.reloadObjects_frame]

@[simp] theorem State.bootUp_canAt (s : State) (i : Nat) :
    (s.bootUp i).canAt i = { s.canAt i with nmt := 127, heartbeatAt := s.now } :=
  State.putCan_canAt s i { s.canAt i with nmt := 127, heartbeatAt := s.now }

/-- What the state shows of reset communication, when the reload led to `u`. -/
theorem State.resetCommunication_spec {s u : State} {i : Nat} (hi : i < 2) (hu : (s.actBy i).reloadObjects = u) :
    ((s.resetCommunication i).canAt i).nmt = 127 ∧ ((s.resetCommunication i).canAt i).pendingRpdo = [] ∧
      ((s.resetCommunication i).sessAt i).rights = u.baseRights i ∧
      Safety.raised u (s.resetCommunication i) Event.RIGHTS_DROPPED i 3 ∧ (s.resetCommunication i).regs = u.regs ∧
      ∃ n, WireItem.packet packetCan i (leBytes 4 (0x700 + n) ++ [0]) ∈ (s.resetCommunication i).wire := by
  have he := s.resetCommunication_eq hi
  rw [hu] at he
  rw [he]
  generalize hv : (u.putSess i _).raise Event.RIGHTS_DROPPED i 3 = v
  have hs : (v.sessAt i).rights = u.baseRights i := by
    rw [← hv]; exact congrArg Sess.rights (State.putSess_sessAt ..)
  have hr : Safety.raised u v Event.RIGHTS_DROPPED i 3 := by rw [← hv]; exact raised_raise_own rfl
  have hg : v.regs = u.regs := by rw [← hv]; rfl
  refine ⟨by rw [State.bootUp_canAt], ?_, hs, raised_eq hr rfl, hg, _, List.mem_append_right _ (List.mem_singleton.2 rfl)⟩
  rw [State.bootUp_canAt]
  exact congrArg CanNode.pendingRpdo (State.putCan_canAt v i _)

/-- Settles O11. -/
theorem nmtCommands : Obligations.NmtCommands := by
  unfold Obligations.NmtCommands
  refine ⟨fun s i ht hc => ⟨?_, ?_, ?_⟩, fun s i w ht hc hd hr hw => ?_, fun s i w ht hc hd hr hw => ⟨?_, ?_⟩,
    fun s i ht hc hr => ⟨fun hd => ?_, fun hd => ⟨?_, ?_⟩⟩, fun s i ht => ?_, fun s i ht ha hr => ?_, fun s i ht ha => ?_⟩
  · exact congrArg Host.Outcome.next (State.nmtChange_alone ht fun h => hc h.1)
  · exact congrArg Host.Outcome.next (State.nmtChange_alone ht fun h => hc h.1)
  · exact congrArg Host.Outcome.next (State.nmtChange_alone ht fun h => hc h.1)
  · exact congrArg Host.Outcome.next (State.nmtChange_done ht ⟨hc, bne_iff_ne.2 hd⟩ hr hw)
  · exact congrArg Host.Outcome.next (State.nmtChange_done ht ⟨hc, (State.leavesFor3_iff _).2 hd⟩ hr hw)
  · exact congrArg Host.Outcome.next (State.nmtChange_done ht ⟨hc, (State.leavesFor3_iff _).2 hd⟩ hr hw)
  · exact congrArg Host.Outcome.next (State.nmtChange_ignored ht ⟨hc, bne_iff_ne.2 hd⟩ hr)
  · exact congrArg Host.Outcome.next (State.nmtChange_ignored ht ⟨hc, (State.leavesFor3_iff _).2 hd⟩ hr)
  · exact congrArg Host.Outcome.next (State.nmtChange_ignored ht ⟨hc, (State.leavesFor3_iff _).2 hd⟩ hr)
  · obtain ⟨h1, h2, h3, h4, h5, n, h6⟩ := s.begin.resetCommunication_spec i.isLt rfl
    refine ⟨_, congrArg Host.Outcome.next (if_pos ht), h1, h2, h3.trans (State.reloadObjects_baseRights ..), ?_, fun key hk => ?_,
      fun ho key hl hu => ?_, n, List.mem_append_left _ h6⟩
    · exact raised_then _ _ _ _ _ _ _ _ _ _ (raised_of_queue _ _ _ _ _ _ _ h4
        (State.reloadObjects_queue (s.begin.actBy i)).symm rfl)
    · exact (congrArg (fun m => Store.read dictDefault m key) h5).trans
        ((s.begin.actBy i).reloadObjects_regAt (decide_eq_false (by omega)))
    · exact (congrArg (fun m => Store.read dictDefault m key) h5).trans
        (State.reloadObjects_regAt_first (s := s.begin.actBy i) ho (decide_eq_true (by omega)))
  · refine congrArg Host.Outcome.next ?_
    simp only [State.nmtResetNode, ht, ha, if_true, if_neg (Nat.not_lt.2 hr)]
  · refine congrArg Host.Outcome.next ?_
    simp only [State.nmtResetNode, ht, ha, if_true, if_false]

end Sys2Proof.Machine
end

-- ==== Proofs: USDO, process data, SYNC and the heartbeat (R409, R411) ====
section
/-! PROOFS. One equation for each command, and O12. -/
namespace Sys2Proof.Machine
open Sys2Proof
set_option Elab.async false

/-! ### USDO, process data, SYNC and the heartbeat (R409, R411) -/

/-- The answer on a CAN interface is the item alone. -/
theorem State.respond_can (s : State) {i : Nat} (index : Nat) (data : List Byte) (more : Bool) (hi : i < 2) :
    s.respond i index data more = s.out (.response ⟨i, 0, 0, data, more⟩) := by
  have h2 : i ≠ 2 := by omega
  have h3 : i ≠ 3 := by omega
  have h4 : ¬ 4 ≤ i := by omega
  simp only [State.respond, State.answer, if_neg h2, if_neg h3, if_neg h4]

/-- A read that fits the transport is answered whole. -/
theorem State.readWhole_whole {s : State} {k limit index sub : Nat} {e : EntryDef} (h : s.readCheck k index sub = .ok e)
    (hl : (s.readBytes k e (index - e.base) (sub - e.lo)).length ≤ limit) :
    s.readWhole k limit index sub = (s.afterRead k e (index - e.base)).respond k index
      (s.readBytes k e (index - e.base) (sub - e.lo)) false := by
  rw [State.readWhole_of_readCheck h, List.take_of_length_le hl, decide_eq_false (Nat.not_lt.2 hl)]

theorem State.applyRpdo_ok {s w : State} {i n : Nat} {p : List Byte}
    (h : (s.actBy i).writeEach 0xFD i (rpdoWrites (s.mappedEntries true n) p) = .ok w) : s.applyRpdo i n p = w := by
  simp only [State.applyRpdo, h]

theorem State.applyRpdo_refused {s : State} {i n index sub : Nat} {r : Refuse} {p : List Byte}
    (h : (s.actBy i).writeEach 0xFD i (rpdoWrites (s.mappedEntries true n) p) = .error (index, sub, r)) :
    s.applyRpdo i n p = (s.noteRefusal i index sub r).raiseBy i Event.RPDO_REFUSED (i * 256 + n) r.detail := by
  simp only [State.applyRpdo, h]

/-- A list of steps of which none does anything. -/
theorem foldl_of_fixed {f : State → Nat → State} {s : State} {l : List Nat} (h : ∀ n ∈ l, f s n = s) : l.foldl f s = s := by
  induction l with
  | nil => rfl
  | cons n l ih => rw [List.foldl_cons, h n (by simp), ih fun m hm => h m (by simp [hm])]

/-- A list of steps of which one alone does anything. -/
theorem foldl_of_one {f : State → Nat → State} {s t : State} {n : Nat} {l₁ l₂ : List Nat} (h₁ : ∀ m ∈ l₁, f s m = s)
    (hn : f s n = t) (h₂ : ∀ m ∈ l₂, f t m = t) : (l₁ ++ n :: l₂).foldl f s = t := by
  rw [List.foldl_append, foldl_of_fixed h₁, List.foldl_cons, hn, foldl_of_fixed h₂]

theorem State.syncTpdo_of_not_valid {s : State} {i n : Nat} (h : s.pdoValid false n = false) : s.syncTpdo i n = s := by
  simp only [State.syncTpdo, h, Bool.false_and, Bool.false_eq_true, if_false]

theorem State.checkTpdo_of_not_valid {s : State} {i n : Nat} (h : s.pdoValid false n = false) : s.checkTpdo i n = s := by
  simp only [State.checkTpdo, h, Bool.false_and, Bool.false_eq_true, if_false]

theorem State.checkTpdo_first {s : State} {i n : Nat} (h : s.pdoValid false n = true) (ht : 0xFE ≤ s.rd Dict.TPDO_TYPE n)
    (h0 : Store.read (fun _ => 0) (s.canAt i).tpdoAt n = 0) : s.checkTpdo i n = s.sendTpdo i n := by
  simp only [State.checkTpdo, State.tpdoChanged, h, ht, h0, beq_self_eq_true, Bool.true_or, Bool.and_self, decide_true, if_true]

/-- The eight PDOs of an interface, with one of them apart. -/
theorem range_eight_split (n : Fin 8) : List.range 8 = List.range n ++ n.val :: (List.range (7 - n)).map (fun m => n + 1 + m) := by
  revert n; decide

/-- Settles O12. -/
theorem canopenData : Obligations.CanopenData := by
  unfold Obligations.CanopenData
  refine ⟨fun s i index sub data e w hc ho hw he => ?_, fun s i index sub data e hc hr hl => ?_,
    fun s i n p w hop hv ht hw => ?_, fun s i n p index sub r hop hv ht hw => ?_, fun s i n p hop hv ht => ?_,
    fun s i hop hb hv hp => ?_, fun s i n p w hop hb hp hw hv => ?_, fun s i n hop hv ht h0 hn => ?_,
    fun s i hu h0 => ?_, fun s i hu h0 ht hd => ?_⟩
  · refine congrArg Host.Outcome.next ((if_pos hc).trans ?_)
    have hup : (s.begin.actBy i).dictUp = true := by
      simp only [State.canServes, State.canTakes, State.canUp, Bool.and_eq_true] at hc
      exact hc.1.1.1.1
    exact (State.dictWrite_done (s := s.begin.actBy i) rfl ⟨hup, ho⟩ hw he).trans (State.respond_can w index [] false i.isLt)
  · exact congrArg Host.Outcome.next ((if_pos hc).trans ((State.readWhole_whole hr hl).trans (State.respond_can _ _ _ _ i.isLt)))
  · refine congrArg Host.Outcome.next ?_
    simp only [State.receiveRpdo, hop, hv, Bool.and_self, if_true, if_neg (Nat.not_le.2 ht), State.applyRpdo_ok hw]
  · refine congrArg Host.Outcome.next ?_
    simp only [State.receiveRpdo, hop, hv, Bool.and_self, if_true, if_neg (Nat.not_le.2 ht), State.applyRpdo_refused hw]
  · refine congrArg Host.Outcome.next ?_
    simp only [State.receiveRpdo, hop, hv, Bool.and_self, if_true, if_pos ht, State.modCan]
  · refine congrArg Host.Outcome.next ?_
    simp only [State.sync, hop, hb, Bool.not_false, Bool.and_self, if_true, hp, List.foldl_nil, State.modCan]
    exact foldl_of_fixed fun n hn => State.syncTpdo_of_not_valid (hv n hn)
  · refine congrArg Host.Outcome.next ?_
    simp only [State.sync, hop, hb, Bool.not_false, Bool.and_self, if_true, hp, List.foldl_cons, List.foldl_nil, State.modCan]
    rw [State.applyRpdo_ok hw]
    exact foldl_of_fixed fun n hn => State.syncTpdo_of_not_valid (hv n hn)
  · refine congrArg Host.Outcome.next ((if_pos hop).trans ?_)
    have hm {m : Nat} (h8 : m < 8) (hne : m ≠ n.val) : s.begin.pdoValid false m = false := hn m (List.mem_range.2 h8) hne
    rw [range_eight_split n]
    refine foldl_of_one (fun m h => State.checkTpdo_of_not_valid ?_) (State.checkTpdo_first hv ht h0) fun m h =>
      State.checkTpdo_of_not_valid ?_
    · have := List.mem_range.1 h
      exact hm (by omega) (by omega)
    · obtain ⟨j, hj, rfl⟩ := List.mem_map.1 h
      have := List.mem_range.1 hj
      exact hm (by omega) (by omega)
  · refine congrArg Host.Outcome.next ?_
    simp only [State.heartbeat, hu, if_true, h0]
    rfl
  · refine congrArg Host.Outcome.next ?_
    simp only [State.heartbeat, hu, if_true, if_neg h0, if_pos (And.intro ht hd)]
    rfl

end Sys2Proof.Machine
end

-- ==== Proofs: strips (R50 to R54, R109) ====
section
/-! PROOFS. Dispatch, reissue, completion and deadline of strips, and O16. -/
namespace Sys2Proof.Machine
open Sys2Proof
set_option Elab.async false

/-! ### What a repetition of steps leaves as it was -/

theorem foldl_same {β α : Type} (f : State → β) {g : State → α → State} {l : List α} (s : State)
    (hg : ∀ u a, f (g u a) = f u) : f (l.foldl g s) = f s :=
  List.foldlRecOn (motive := fun u => f u = f s) l _ rfl fun u hu a _ => (hg u a).trans hu

/-- A counter that is counted up by one holds one more. -/
theorem State.inc_rd_self (s : State) (e : EntryDef) (n k d : Nat) :
    (s.inc e n k d).rd e n k = (s.rd e n k + d) % 2 ^ (8 * e.type.size) := State.wr_rd ..

/-! ### Strips (R50 to R54) -/

theorem State.pull_dispatches {s : State} {e : Nat} {a : Strip} (h1 : s.alive = true)
    (h2 : s.heldBy e < (s.engineAt e).credit) (ha : s.strips.find? (·.mayGo e) = some a) :
    s.pull e = { s.accrue e with strips := s.strips.map fun x => if x = a then (s.accrue e).startCopy a e else x } := by
  simp only [State.pull, h1, h2, and_self, if_true, ha]
  rfl

section
variable {s : State} {i : StripId} {a : Strip} {first : Copy}

theorem State.reissue_idle {e : Nat} (hs : s.stripOf i = some a) (hd : a.done = false) (hb : a.abandoned = false)
    (hr : a.reissued = false) (hc : a.copies = [first]) (ht : a.reissueAt ≤ s.timebase) (he : s.idleFor a = some e) :
    s.reissue i = ((((s.accrue e).modStrip i fun x => (s.accrue e).startCopy { x with issued := 2, reissued := true } e).inc
      Dict.ENGINE_POOL_STRIPS_REISSUED).raise Event.STRIP_REISSUE first.engine a.code) := by
  simp only [State.reissue, hs, hd, hb, hr, hc, ht, he, List.length_singleton, and_self, if_true]

theorem State.reissue_queued (hs : s.stripOf i = some a) (hd : a.done = false) (hb : a.abandoned = false)
    (hr : a.reissued = false) (hc : a.copies = [first]) (ht : a.reissueAt ≤ s.timebase) (he : s.idleFor a = none) :
    s.reissue i = (((s.pushFront i fun x => { x with issued := 2, reissued := true }).inc
      Dict.ENGINE_POOL_STRIPS_REISSUED).raise Event.STRIP_REISSUE first.engine a.code) := by
  simp only [State.reissue, hs, hd, hb, hr, hc, ht, he, List.length_singleton, and_self, if_true]

theorem State.completeStrip_eq {e : Nat} (hl : s.alive = true) (hs : s.stripOf i = some a) (hd : a.done = false)
    (hc : a.copies.any (·.engine == e) = true) : s.completeStrip e i = if a.kind = .compose then
        if (((s.finishStrip a e i).writeStrip a).stripsOf .compose a.owner).all (·.done) = true ∧
          (((s.finishStrip a e i).writeStrip a).canvasAt a.owner).composing = true
        then ((s.finishStrip a e i).writeStrip a).completeSlot a.owner else (s.finishStrip a e i).writeStrip a
      else s.finishStrip a e i := by
  simp only [State.completeStrip, hs, hl, hd, hc, and_self, if_true]

end

theorem State.finishStrip_strips (s : State) (a : Strip) (e : Nat) (i : StripId) : (s.finishStrip a e i).strips
    = s.strips.map fun x => if x.isId i then { x with done := true, copies := [] } else x :=
  congrArg (List.map fun x : Strip => if x.isId i then ({ x with done := true, copies := [] } : Strip) else x)
    (foldl_same State.strips (g := fun s c => s.accountCopy c a.work (c.engine == e)) s fun _ _ => rfl)

theorem State.finishStrip_completed (s : State) (a : Strip) (e : Nat) (i : StripId) :
    (s.finishStrip a e i).rd Dict.ENGINE_POOL_STRIPS_COMPLETED = (s.rd Dict.ENGINE_POOL_STRIPS_COMPLETED + 1) % 2 ^ 64 := by
  have hr := foldl_same State.regs (l := a.copies) (g := fun s c => s.accountCopy c a.work (c.engine == e)) s fun _ _ => rfl
  exact (State.inc_rd_self ..).trans (congrArg (fun m => (Store.read dictDefault m _ + 1) % _) hr)


/-! ### A composition that misses its deadline (R54) -/

theorem State.setHostByte_eq (s : State) (at_ : Nat) (b : Byte) : ∃ d, s.setHostByte at_ b = { s with dram := d } := ⟨_, rfl⟩

theorem State.setHostBytes_same {β : Type} (f : State → β) (hf : ∀ s d, f { s with dram := d } = f s) (s : State) (at_ : Nat)
    (l : List Byte) : f (s.setHostBytes at_ l) = f s := by
  induction l generalizing s at_ with
  | nil => rfl
  | cons b l ih =>
    obtain ⟨d, hd⟩ := s.setHostByte_eq at_ b
    exact (ih ..).trans (by rw [hd, hf])

/-- Spoiled bytes of the host region are all that a frame which is given up changes. -/
theorem State.spoil_same {β : Type} (f : State → β) (hf : ∀ s d n, f { s with dram := d, draws := n } = f s) (s : State)
    (at_ n : Nat) : f (s.spoil at_ n) = f s :=
  (hf (s.setHostBytes at_ _) _ _).trans (State.setHostBytes_same f (fun s d => hf s d s.draws) ..)

theorem State.dropStrips_strips (s : State) (kind : StripKind) (owner : Nat) :
    (s.dropStrips kind owner).strips = s.strips.filter fun a => !(a.kind == kind && a.owner == owner) :=
  congrArg (List.filter fun a : Strip => !(a.kind == kind && a.owner == owner))
    (foldl_same State.strips (g := fun s (a : Strip) => a.copies.foldl (fun s c => s.accrue c.engine) s) s
      fun _ _ => foldl_same State.strips _ fun _ _ => rfl)

/-- Strips taken out leave all but the queue and the engines. -/
theorem State.dropStrips_same {β : Type} (f : State → β) (hf : ∀ s d e, f { s with strips := d, engines := e } = f s) (s : State)
    (kind : StripKind) (owner : Nat) : f (s.dropStrips kind owner) = f s :=
  (hf _ _ _).trans (foldl_same f (g := fun s (a : Strip) => a.copies.foldl (fun s c => s.accrue c.engine) s) s
    fun _ _ => foldl_same f _ fun u _ => hf u _ _)


/-- The canvas after a composition that missed its deadline. -/
def Canvas.givenUp (v : Canvas) : Canvas :=
  { v with composing := false, complete := false
           wbNext := v.wbNow.foldl (fun m e => Store.write (fun _ => 0) m e.1 2) v.wbNext, wbNow := [] }

/-- What a missed deadline leaves, before it is counted and told. -/
def State.lateLeft (s : State) (c : Nat) : State :=
  (s.canvasAt c).wbNow.foldl (fun u e => if byteAt e.2.1 0 = 1 then
    u.spoil (u.wbBuffer c e.2.1) (leAt e.2.1 28 4 * leAt e.2.1 10 2) else u) (s.dropStrips .compose c)

theorem State.lateLeft_same {β : Type} (f : State → β) (hd : ∀ s d n, f { s with dram := d, draws := n } = f s)
    (hs : ∀ s d e, f { s with strips := d, engines := e } = f s) (s : State) (c : Nat) : f (s.lateLeft c) = f s := by
  refine (foldl_same f _ fun u e => ?_).trans (State.dropStrips_same f hs s .compose c)
  exact iteInduction (motive := fun t => f t = f u) (fun _ => State.spoil_same f hd ..) fun _ => rfl

theorem State.lateLeft_strips (s : State) (c : Nat) :
    (s.lateLeft c).strips = s.strips.filter fun a => !(a.kind == .compose && a.owner == c) := by
  refine (foldl_same State.strips _ fun u e => ?_).trans (s.dropStrips_strips .compose c)
  exact iteInduction (motive := fun t : State => t.strips = u.strips)
    (fun _ => State.spoil_same State.strips (fun _ _ _ => rfl) ..) fun _ => rfl

theorem State.composeDeadline_late {s : State} {c : Nat} (h1 : s.alive = true) (h2 : (s.canvasAt c).composing = true)
    (h3 : (s.canvasAt c).deadline ≤ s.timebase) :
    s.composeDeadline c = (((s.lateLeft c).putCanvas c (s.canvasAt c).givenUp).inc Dict.CANVAS_LATE_FRAMES c).raise
      Event.COMPOSE_LATE c ((s.stripsOf .compose c).filter fun a => !a.done).length := by
  have hv : (s.lateLeft c).canvasAt c = s.canvasAt c :=
    congrArg (fun m => Store.read initialCanvas m c)
      (State.lateLeft_same State.canvases (fun _ _ _ => rfl) (fun _ _ _ => rfl) s c)
  have hc : s.alive = true ∧ (s.canvasAt c).composing = true ∧ (s.canvasAt c).deadline ≤ s.timebase := ⟨h1, h2, h3⟩
  have hg : ((s.lateLeft c).canvasAt c).givenUp = (s.canvasAt c).givenUp := by rw [hv]
  rw [← hg]
  exact if_pos hc

/-- A late frame counted and told. -/
theorem State.lateTold_spec (s : State) (c : Nat) (v : Canvas) (left : Nat) :
    let t := ((s.putCanvas c v).inc Dict.CANVAS_LATE_FRAMES c).raise Event.COMPOSE_LATE c left
    t.canvasAt c = v ∧ t.strips = s.strips ∧ Safety.raised s t Event.COMPOSE_LATE c left ∧
      t.rd Dict.CANVAS_LATE_FRAMES c = (s.rd Dict.CANVAS_LATE_FRAMES c + 1) % 2 ^ 32 :=
  ⟨State.putCanvas_canvasAt .., rfl, raised_raise_own rfl, State.inc_rd_self (s.putCanvas c v) Dict.CANVAS_LATE_FRAMES c 0 1⟩

/-! ### Bands of an input that arrive (R109) -/

/-- A property of every value of a store, and of what it reads without one, that a change of the values keeps. -/
theorem Store.read_map {α β : Type} (p : α → β) (g : α → α) (hg : ∀ a, p (g a) = p a) (d : Nat → α) (m : Store α) (k : Nat) :
    p (Store.read d (m.map fun e => (e.1, g e.2)) k) = p (Store.read d m k) := by
  induction m with
  | nil => rfl
  | cons e m ih =>
    obtain ⟨j, v⟩ := e
    simp only [List.map_cons, Store.read]
    split
    · exact hg v
    · exact ih

theorem Layer.grow_mix (y : Layer) (frame : Nat) (p : Raster) : (y.grow frame p).mix = y.mix := by
  unfold Layer.grow
  extract_lets z
  have hz : z.mix = y.mix := iteInduction (motive := fun t : Layer => t.mix = y.mix) (fun _ => rfl) fun _ => rfl
  exact iteInduction (motive := fun t : Layer => t.mix = y.mix) (fun _ => hz) fun _ => hz

/-- A band that arrives changes no layer's source, so no canvas names another input. -/
theorem State.bandShown_canvasesNaming (s : State) (v : Input) (n f : Nat) (p : Raster) (kind num : Nat) :
    ((s.putInput n v).mapLayers fun y => y.grow f p).canvasesNaming kind num = s.canvasesNaming kind num := by
  have hm (l : Nat) : (((s.putInput n v).mapLayers fun y => y.grow f p).layerAt l).mix = (s.layerAt l).mix :=
    Store.read_map Layer.mix _ (fun y => y.grow_mix f p) initialLayer s.layers l
  have hr (c : Nat) : ((s.putInput n v).mapLayers fun y => y.grow f p).canvasRuns c = s.canvasRuns c :=
    Store.read_map Canvas.running (fun v => { v with seen := v.seen.map fun x => (x.1, x.2.grow f p) }) (fun _ => rfl)
      initialCanvas s.canvases c
  simp only [State.canvasesNaming, State.names, hm, hr]
  rfl

theorem State.wakeSegments_of_unnamed {s : State} {n : Nat} (h : s.canvasesNaming 1 n = []) : s.wakeSegments n = s := by
  simp only [State.wakeSegments, h, List.foldl_nil]

/-- A band that arrives does not change which frame comes in. -/
theorem State.frameComing_putInput (s : State) (n l : Nat) (p : Raster) :
    (s.putInput n { s.inputAt n with bandLines := l, band := p }).frameComing n = s.frameComing n := by
  simp only [State.frameComing, State.frameDamaged, State.putInput_inputAt]
  rfl

theorem State.bandArrives_eq {s : State} {n l : Nat} (p : Raster) (h1 : s.alive = true)
    (h2 : s.rd Dict.INPUT_TIMING_CLASS n = 1) (h3 : (s.inputAt n).bandLines ≤ l) :
    s.bandArrives n l p = ((s.putInput n { s.inputAt n with bandLines := l, band := p }).mapLayers
      fun y => y.grow (s.frameComing n) p).wakeSegments n := by
  simp only [State.bandArrives, h1, h2, h3, and_self, if_true, State.modInput, State.frameComing_putInput]

/-- What the state shows of a band that arrived, whatever it showed before. -/
theorem State.wakeSegments_spec (s : State) (n : Nat) : (s.wakeSegments n).inputs = s.inputs ∧
    (s.wakeSegments n).regs = s.regs ∧ (s.wakeSegments n).strips.length = s.strips.length :=
  ⟨foldl_same State.inputs s fun _ _ => rfl, foldl_same State.regs s fun _ _ => rfl,
    foldl_same (fun t => t.strips.length) s fun _ _ => List.length_map ..⟩

/-- Settles O16. -/
theorem stripHandshake : Obligations.StripHandshake := by
  unfold Obligations.StripHandshake
  refine ⟨fun s e a h1 h2 ha => congrArg Host.Outcome.next (State.pull_dispatches h1 h2 ha), fun s e h => ?_,
    fun b a e h => ?_, fun s i a f e hs hd hb hr hc ht he => ?_, fun s i a f hs hd hb hr hc ht he => ?_,
    fun s e i a hl hs hd hc hk => ?_, fun s e i a hl hs hd hc hk => ⟨fun h1 h2 => ?_, fun h => ?_⟩, fun s e i a hs hd => ?_,
    fun s c h1 h2 h3 => ?_, fun s n l p h1 h2 h3 h4 => ?_, fun s n l p h1 h2 h3 => ?_⟩
  · exact congrArg Host.Outcome.next (if_neg fun hc => absurd hc.2 (Nat.not_lt.2 h))
  · simp [State.startCopy, h]
  · exact congrArg Host.Outcome.next (State.reissue_idle hs hd hb hr hc ht he)
  · exact congrArg Host.Outcome.next (State.reissue_queued hs hd hb hr hc ht he)
  · refine ⟨_, congrArg Host.Outcome.next ((State.completeStrip_eq hl hs hd hc).trans (if_neg (by simp [hk]))),
      State.finishStrip_strips .., State.finishStrip_completed ..⟩
  · exact congrArg Host.Outcome.next ((State.completeStrip_eq hl hs hd hc).trans ((if_pos hk).trans (if_pos ⟨h1, h2⟩)))
  · exact congrArg Host.Outcome.next ((State.completeStrip_eq hl hs hd hc).trans ((if_pos hk).trans
      (if_neg fun hx => absurd hx.1 (by simp [h]))))
  · refine congrArg Host.Outcome.next ?_
    simp only [State.completeStrip, hs, hd]
    exact if_neg (by simp)
  · have hr : (s.begin.lateLeft c).regs = s.begin.regs :=
      State.lateLeft_same State.regs (fun _ _ _ => rfl) (fun _ _ _ => rfl) ..
    have hq : (s.begin.lateLeft c).ev.queue = s.ev.queue :=
      State.lateLeft_same (fun s => s.ev.queue) (fun _ _ _ => rfl) (fun _ _ _ => rfl) ..
    obtain ⟨hv, hs, he, hn⟩ := (s.begin.lateLeft c).lateTold_spec c (s.begin.canvasAt c).givenUp
      ((s.begin.stripsOf .compose c).filter fun a => !a.done).length
    refine ⟨_, congrArg Host.Outcome.next (State.composeDeadline_late h1 h2 h3), ?_, ?_, ?_,
      hs.trans (State.lateLeft_strips ..), raised_of_queue _ _ _ _ _ _ _ he hq.symm rfl, ?_⟩
    · rw [hv]; rfl
    · rw [hv]; rfl
    · rw [hv]; rfl
    · exact hn.trans (congrArg (fun m => (Store.read dictDefault m _ + 1) % _) hr)
  · exact congrArg Host.Outcome.next ((State.bandArrives_eq _ h1 h2 h3).trans
      (State.wakeSegments_of_unnamed ((State.bandShown_canvasesNaming ..).trans h4)))
  · obtain ⟨hi, hg, hl⟩ := State.wakeSegments_spec ((s.begin.putInput n { s.begin.inputAt n with
      bandLines := l, band := s.begin.ingested n p }).mapLayers fun y => y.grow (s.begin.frameComing n) (s.begin.ingested n p)) n
    have hv := (congrArg (fun m => Store.read initialInput m n) hi).trans (State.putInput_inputAt s.begin n _)
    exact ⟨_, congrArg Host.Outcome.next (State.bandArrives_eq _ h1 h2 h3), congrArg Input.bandLines hv,
      congrArg Input.band hv, hg, hl⟩

end Sys2Proof.Machine
end

-- ==== Proofs: faults of engines (R186, R187, R381) ====
section
/-! PROOFS. What a fault of an engine does to its copies and weights, and O17. -/
namespace Sys2Proof.Machine
open Sys2Proof
set_option Elab.async false

/-! ### Faults of engines (R186, R187, R381) -/

section
variable {s : State} {e : Nat} {i : StripId} {entry : Nat}

theorem State.eccError_single (h : s.alive = true) (hr : (s.engineAt e).runs = true) :
    s.eccError e entry i false = ((s.putEngine e { s.engineAt e with
      eccCorrected := min ((s.engineAt e).eccCorrected + 1) (2 ^ 32 - 1) }).raise Event.ENGINE_ECC_CORRECTED e entry).fault 1 e := by
  simp only [State.eccError, h, hr, and_self, if_true, Bool.false_eq_true, if_false]
  rfl

theorem State.eccError_double (h : s.alive = true) (hr : (s.engineAt e).runs = true) :
    s.eccError e entry i true = ((((s.putEngine e { s.engineAt e with
      eccUncorrected := min ((s.engineAt e).eccUncorrected + 1) 65535 }).raise Event.ENGINE_ECC_UNCORRECTED e entry).loseCopy
        e i).resetEngine e 2).fault 1 e := by
  simp only [State.eccError, h, hr, and_self, if_true]
  rfl

theorem State.parityError_runs (h : s.alive = true) (hr : (s.engineAt e).runs = true) :
    s.parityError e i entry = ((((s.putEngine e { s.engineAt e with
      parity := min ((s.engineAt e).parity + 1) 65535 }).raise Event.ENGINE_PARITY e entry).loseCopy e i).resetEngine e 3).fault 1 e := by
  simp only [State.parityError, h, hr, and_self, if_true]
  rfl

variable {a : Strip} {c : Copy}

theorem State.copyOf_eq (hs : s.stripOf i = some a) (hc : a.copies.find? (·.engine == e) = some c) :
    s.copyOf e i = some (c.start, a.expected) := by
  simp only [State.copyOf, hs, hc, Option.map_some]

theorem State.timeoutCopy_late (h : s.alive = true) (hr : (s.engineAt e).runs = true) (hs : s.stripOf i = some a)
    (hc : a.copies.find? (·.engine == e) = some c) (ht : c.start + 4 * a.expected ≤ s.timebase) :
    s.timeoutCopy e i = ((((s.putEngine e { s.engineAt e with
      timeouts := min ((s.engineAt e).timeouts + 1) 65535 }).raise Event.ENGINE_TIMEOUT e ((s.timebase - c.start) / 1000)).loseCopy
        e i).resetEngine e 4).fault 1 e := by
  simp only [State.timeoutCopy, State.copyOf_eq hs hc, h, hr, ht, and_self, if_true]
  rfl

theorem State.timeoutCopy_early (hs : s.stripOf i = some a) (hc : a.copies.find? (·.engine == e) = some c)
    (ht : s.timebase < c.start + 4 * a.expected) : s.timeoutCopy e i = s := by
  simp only [State.timeoutCopy, State.copyOf_eq hs hc, if_neg fun x : _ ∧ _ ∧ _ => absurd x.2.2 (Nat.not_le.2 ht)]

theorem State.endReset_eq (h : s.alive = true) (hg : (s.engineAt e).state = .resetting) :
    s.endReset e = (s.putEngine e { s.engineAt e with
      state := (s.engineAt e).prior, resetAt := 0, resets := min ((s.engineAt e).resets + 1) 65535 }).countEngines.raise
        Event.ENGINE_RESET e (s.engineAt e).resetCause := by
  simp only [State.endReset, h, hg, and_self, if_true]
  rfl

/-- The only copy of a strip, lost: the strip goes back to the head of the queue. -/
theorem State.loseCopy_retry (hs : s.stripOf i = some a) (hc : a.copies = [c]) (he : c.engine = e) (hn : a.abandonments < 2) :
    s.loseCopy e i = (((s.accrue e).pushFront i fun x => { x with
      copies := [], issued := 1, reissued := false, faulted := e :: x.faulted, abandonments := a.abandonments + 1 }).inc
        Dict.ENGINE_POOL_STRIPS_RETRIED).raise Event.STRIP_RETRY e a.code := by
  have h3 : a.abandonments + 1 < 3 := by omega
  simp [State.loseCopy, hs, hc, he, h3]

/-- The only copy of a strip, lost a third time: the strip is abandoned. -/
theorem State.loseCopy_abandon (hs : s.stripOf i = some a) (hc : a.copies = [c]) (he : c.engine = e) (hn : a.abandonments = 2) :
    s.loseCopy e i = (((s.accrue e).modStrip i fun x => { x with
      copies := [], issued := 1, reissued := false, faulted := e :: x.faulted, abandonments := 3, abandoned := true }).inc
        Dict.ENGINE_POOL_STRIPS_ABANDONED).raise Event.STRIP_ABANDONED a.owner (a.code % 2 ^ 24) := by
  simp [State.loseCopy, hs, hc, he, hn]

end

/-- A strip moved to the head changes the queue alone. -/
theorem State.pushFront_same {β : Type} (f : State → β) (hf : ∀ s l, f { s with strips := l } = f s) (s : State) (i : StripId)
    (g : Strip → Strip) : f (s.pushFront i g) = f s := by
  unfold State.pushFront
  split
  · exact hf ..
  · rfl

theorem State.incomingFor_of_none_copying {s : State} (h : s.resil.copying = []) (kind unit : Nat) :
    s.incomingFor kind unit = none := by
  simp [State.incomingFor, h]

/-- A hard fault of an engine that no copying concerns retires it. -/
theorem State.hardFault_engine {s : State} {e : Nat} (h : s.isRetired (unitCode 1 e) = false) (hc : s.resil.copying = []) :
    s.hardFault 1 e 3 = (s.noteFault (unitCode 1 e)).retire 1 e 3 := by
  have h' : (s.noteFault (unitCode 1 e)).isRetired (unitCode 1 e) = false := h
  have hc' : (s.noteFault (unitCode 1 e)).resil.copying = [] := hc
  simp [State.hardFault, State.permanent, State.permanentOne, h', hc', State.incomingFor_of_none_copying hc']

/-- The weight after a fault that was counted (R381). -/
def Weight.faulted (w : Weight) (ops limit : Nat) : Weight :=
  { w with
    faultTimes := ops :: w.faultTimes.filter (fun t => decide (ops < t + 86400))
    weight := min 255 (w.weight + 1)
    decrementAt := if w.weight = 0 then ops else w.decrementAt
    halfRaised := decide (limit ≤ 2 * min 255 (w.weight + 1)) }

/-- A fault that leaves its unit under the limit is a weight and perhaps an event. -/
theorem State.fault_light {s : State} {kind unit : Nat} (h : s.isRetired (unitCode kind unit) = false)
    (hc : s.resil.copying = [])
    (hl : min 255 ((s.weightAt (unitCode kind unit)).weight + 1) < s.rd Dict.FAULT_WEIGHTS_THRESHOLD 0 (kind - 1)) :
    ∃ u : State, u.ev.queue = s.ev.queue ∧ u.weightAt (unitCode kind unit)
        = (s.weightAt (unitCode kind unit)).faulted s.life.opSeconds (s.rd Dict.FAULT_WEIGHTS_THRESHOLD 0 (kind - 1)) ∧
      s.fault kind unit = u.raiseIf
        (decide (s.rd Dict.FAULT_WEIGHTS_THRESHOLD 0 (kind - 1) ≤ 2 * min 255 ((s.weightAt (unitCode kind unit)).weight + 1)) &&
          !(s.weightAt (unitCode kind unit)).halfRaised)
        Event.FAULT_WEIGHT_HALF (unitCode kind unit) (min 255 ((s.weightAt (unitCode kind unit)).weight + 1)) := by
  have hw : (s.noteFault (unitCode kind unit)).weightAt (unitCode kind unit) = { s.weightAt (unitCode kind unit) with
      faultTimes := s.life.opSeconds ::
        (s.weightAt (unitCode kind unit)).faultTimes.filter (fun t => decide (s.life.opSeconds < t + 86400)) } :=
    Store.read_write_self ..
  refine ⟨(s.noteFault (unitCode kind unit)).putWeight (unitCode kind unit)
    ((s.weightAt (unitCode kind unit)).faulted s.life.opSeconds (s.rd Dict.FAULT_WEIGHTS_THRESHOLD 0 (kind - 1))), rfl,
    Store.read_write_self .., ?_⟩
  have hf : ¬(s.isRetired (unitCode kind unit) = true ∨ s.resil.copying.any (fun e => e.1 == unitCode kind unit) = true) := by
    simp [h, hc]
  unfold State.fault
  extract_lets u s1 w new limit half s2 s3
  have hcp : s3.resil.copying = [] := (iteInduction (motive := fun t : State => t.resil.copying = s.resil.copying)
    (fun _ => rfl) fun _ => rfl : s3.resil.copying = s.resil.copying).trans hc
  have hw' : w = _ := hw
  have hnew : new = min 255 ((s.weightAt (unitCode kind unit)).weight + 1) := by simp only [new, hw']
  have hn : ¬(limit ≤ new ∨ (s3.incomingFor kind unit).isSome = true) := by
    rintro (hle | hin)
    · rw [hnew] at hle
      exact absurd hle (Nat.not_le.2 hl)
    · rw [State.incomingFor_of_none_copying hcp] at hin
      cases hin
  rw [if_neg hf, if_neg hn]
  simp only [s3, s2, half, limit, new, hw']
  rfl

/-- Settles O17. -/
theorem engineFaults : Obligations.EngineFaults := by
  unfold Obligations.EngineFaults
  refine ⟨fun s e i n h hr => congrArg Host.Outcome.next (State.eccError_single h hr),
    fun s e i n h hr => congrArg Host.Outcome.next (State.eccError_double h hr),
    fun s e i n h hr => congrArg Host.Outcome.next (State.parityError_runs h hr),
    fun s e i a c h hr hs hc ht => congrArg Host.Outcome.next (State.timeoutCopy_late h hr hs hc ht),
    fun s e i a c hs hc ht => congrArg Host.Outcome.next (State.timeoutCopy_early hs hc ht),
    fun s e h hg => congrArg Host.Outcome.next (State.endReset_eq h hg), fun s e h hb hg hr hc => ?_,
    fun b e i a c hs hc he hn => ?_, fun b e i a c hs hc he hn => ?_, fun b kind unit hr hc hl => ?_⟩
  · exact congrArg Host.Outcome.next ((if_pos ⟨h, hb, hg⟩).trans (State.hardFault_engine hr hc))
  · rw [State.loseCopy_retry hs hc he hn]
    generalize hv : (b.accrue e).pushFront i _ = v
    have hq : v.ev.queue = b.ev.queue := hv ▸ State.pushFront_same (fun s => s.ev.queue) (fun _ _ => rfl) ..
    have hg : v.regs = b.regs := hv ▸ State.pushFront_same State.regs (fun _ _ => rfl) ..
    exact ⟨raised_raise_own (u := v.inc Dict.ENGINE_POOL_STRIPS_RETRIED) hq, (v.inc_rd_self Dict.ENGINE_POOL_STRIPS_RETRIED 0 0 1).trans
      (congrArg (fun m => (Store.read dictDefault m _ + 1) % _) hg)⟩
  · rw [State.loseCopy_abandon hs hc he hn]
    generalize hv : (b.accrue e).modStrip i _ = v
    have hq : v.ev.queue = b.ev.queue := hv ▸ rfl
    have hg : v.regs = b.regs := hv ▸ rfl
    exact ⟨raised_raise_own (u := v.inc Dict.ENGINE_POOL_STRIPS_ABANDONED) hq,
      (v.inc_rd_self Dict.ENGINE_POOL_STRIPS_ABANDONED 0 0 1).trans
        (congrArg (fun m => (Store.read dictDefault m _ + 1) % _) hg)⟩
  · obtain ⟨u, hq, hw, hf⟩ := State.fault_light hr hc hl
    rw [hf]
    refine ⟨?_, fun h2 h0 => ?_⟩
    · refine (congrArg Weight.weight (Eq.trans ?_ hw))
      exact iteInduction (motive := fun t : State => t.weightAt _ = u.weightAt _) (fun _ => rfl) fun _ => rfl
    · rw [State.raiseIf, if_pos (by simp [h2, h0])]
      exact raised_raise_own hq

end Sys2Proof.Machine
end

-- ==== Proofs: lane states (R69 to R72, R264) ====
section
/-! PROOFS. One equation for each change of a lane, and O19. -/
namespace Sys2Proof.Machine
open Sys2Proof
set_option Elab.async false

/-! ### Lanes (R69 to R72) -/

section
variable {s : State} {l : Nat}

theorem State.loseLane_live (cause : Nat) (ha : s.alive = true) (hl : (s.laneAt l).live = true) :
    s.loseLane l cause = ((((if l < 52 then s.inc Dict.U_LANE_LOCK_LOSSES l else s).raise Event.LANE_LOST (laneCode l) cause).restartLane
      l cause).laneFault l) := by
  simp only [State.loseLane, ha, hl, and_self, if_true]

theorem State.loseLane_down (cause : Nat) (hl : (s.laneAt l).live = false) : s.loseLane l cause = s :=
  if_neg fun h => by simp [hl] at h

theorem State.restartLane_unowned (cause : Nat) (hp : s.portOf l = none) :
    s.restartLane l cause = (s.trainLane l true).judgeOwner l cause := by
  simp only [State.restartLane, hp, ite_self]

/-- A U-lane that enters TRAIN. -/
theorem State.trainLane_ulaneAt (s : State) {l : Nat} (warm : Bool) (hl : l < 52) :
    (s.trainLane l warm).ulaneAt l = { s.ulaneAt l with
      state := .train, lowSince := 0, goodSince := 0, badAt := 0, trainSince := s.now, warm := warm
      eq := if warm then (s.ulaneAt l).converged else [], trained := [] } := by
  have h : ¬(52 ≤ l ∧ (LaneState.train = .off ∨ LaneState.train = .retired)) := by simp
  simp only [State.trainLane, State.setLane, State.modLane, if_pos hl, if_neg h, State.modUlane, State.putUlane_ulaneAt]

theorem State.laneUp_eq (f : LinkFound) (ha : s.alive = true) (ht : (s.laneAt l).state = .train) (hr : s.linkRuns l f = true) :
    s.laneUp l f = ((((s.setLane l .up).modLane l fun a => { a with restarts := 0 }).endTrain l f).raise Event.LANE_UP (laneCode l)
        ((((s.setLane l .up).modLane l fun a => { a with restarts := 0 })).reachedRate l f.rate / 1000)).judgeOwner l
      (((((s.setLane l .up).modLane l fun a => { a with restarts := 0 }).endTrain l f).raise Event.LANE_UP (laneCode l)
        ((((s.setLane l .up).modLane l fun a => { a with restarts := 0 })).reachedRate l f.rate / 1000)).ownerCause l) := by
  simp only [State.laneUp, ha, ht, hr, and_self, if_true]

theorem State.laneUp_not (f : LinkFound) (h : (s.laneAt l).state ≠ .train ∨ s.linkRuns l f = false) : s.laneUp l f = s := by
  refine if_neg fun hc => ?_
  rcases h with h | h
  · exact h hc.2.1
  · rw [h] at hc
    cases hc.2.2

/-- The link rate that a D-lane reports once its training ended. -/
theorem State.endTrain_lineRate (f : LinkFound) (hl : 52 ≤ l) (hf : f.rate < 2 ^ 32) :
    (s.endTrain l f).rd Dict.D_LANE_LINE_RATE (l - 52) = f.rate := by
  have h : ¬ l < 52 := Nat.not_lt.2 hl
  have hr : (s.agreeLink l f).rd Dict.D_LANE_LINE_RATE (l - 52) = f.rate := by
    refine Eq.trans ?_ ((s.wr_rd Dict.D_LANE_LINE_RATE f.rate (l - 52) 0).trans (Nat.mod_eq_of_lt hf))
    exact iteInduction (motive := fun t : State => t.rd Dict.D_LANE_LINE_RATE (l - 52) = _) (fun _ => rfl) fun _ => rfl
  rw [State.endTrain, if_neg h, State.adaptLane, if_neg fun hc => h hc.1, State.modLane, if_neg h]
  exact hr

theorem State.failTraining_eq (cause : Nat) (ha : s.alive = true) (ht : (s.laneAt l).state = .train)
    (hd : (s.laneAt l).trainSince + 3000000000 ≤ s.now) (w : State)
    (hw : w = (((s.trainLane l false).modLane l fun a => { a with restarts := (s.laneAt l).restarts + 1 }).raise
      Event.LANE_TRAIN_FAIL (laneCode l) ((s.laneAt l).restarts + 1)).judgeOwner l cause) :
    s.failTraining l cause = if 3 ≤ (s.laneAt l).restarts + 1 then
      (if l < 52 then w.hardFault 7 l 2 else w.hardFault 8 (l - 52) 2) else w := by
  subst hw
  exact if_pos ⟨ha, ht, hd⟩

theorem State.recoverLane_eq (ha : s.alive = true) (hd : (s.laneAt l).state = .degraded)
    (hg : s.since (s.laneAt l).goodSince 10000000000 = true)
    (hb : (s.laneAt l).badAt = 0 ∨ s.since (s.laneAt l).badAt 10000000000 = true) :
    s.recoverLane l = ((s.setLane l .up).raise Event.LANE_RECOVERED (laneCode l) ((s.setLane l .up).marginClass l)).judgeOwner l
      ((s.setLane l .up).ownerCause l) := if_pos ⟨ha, hd, hg, hb⟩

end

/-- A lane that has become DEGRADED, told. -/
def State.laneDegraded (s : State) (l : Nat) : State :=
  (s.modLane l fun a => { a with state := .degraded, goodSince := 0 }).raise Event.LANE_DEGRADED (laneCode l)
    ((s.modLane l fun a => { a with state := .degraded, goodSince := 0 }).marginClass l)

section
variable {s : State} {l : Nat} (ha : s.alive = true) (hu : (s.laneAt l).state = .up)
  (hm : s.since (s.laneAt l).lowSince 1000000000 = true ∨
    ((s.laneAt l).badAt ≠ 0 ∧ s.since (s.laneAt l).badAt 1000000001 = false))
include ha hu hm

/-- What a degrading lane does is up to the port it belongs to, where takeover is on (R264). -/
theorem State.degradeLane_eq : s.degradeLane l
    = (match (if l < 52 ∧ (s.laneDegraded l).flag Dict.PTL_TAKEOVER_ON_DEGRADE then (s.laneDegraded l).portOf l else none) with
      | some p =>
        match (s.laneDegraded l).readySpare p with
        | some m => (s.laneDegraded l).takeOver p l m
        | none => ((s.laneDegraded l).noSpareLane p l).judgePortState p ((s.laneDegraded l).ownerCause l)
      | none => (s.laneDegraded l).judgeOwner l ((s.laneDegraded l).ownerCause l)).laneFault l := by
  have hm' : s.since (s.laneAt l).lowSince 1000000000 = true ∨
      ((s.laneAt l).badAt ≠ 0 ∧ (!s.since (s.laneAt l).badAt 1000000001) = true) :=
    hm.imp_right fun h => ⟨h.1, by simp [h.2]⟩
  exact if_pos ⟨ha, hu, hm'⟩

theorem State.degradeLane_alone (h : 52 ≤ l ∨ (s.laneDegraded l).flag Dict.PTL_TAKEOVER_ON_DEGRADE = false) : s.degradeLane l
    = ((s.laneDegraded l).judgeOwner l ((s.laneDegraded l).ownerCause l)).laneFault l := by
  have hn : ¬(l < 52 ∧ (s.laneDegraded l).flag Dict.PTL_TAKEOVER_ON_DEGRADE = true) := by
    rcases h with h | h
    · exact fun hc => absurd hc.1 (Nat.not_lt.2 h)
    · simp [h]
  rw [State.degradeLane_eq ha hu hm, if_neg hn]

variable {p : Nat} (hl : l < 52) (ht : (s.laneDegraded l).flag Dict.PTL_TAKEOVER_ON_DEGRADE = true)
  (hp : (s.laneDegraded l).portOf l = some p)
include hl ht hp

theorem State.degradeLane_takenOver {m : Nat} (hr : (s.laneDegraded l).readySpare p = some m) :
    s.degradeLane l = ((s.laneDegraded l).takeOver p l m).laneFault l := by
  rw [State.degradeLane_eq ha hu hm, if_pos ⟨hl, ht⟩, hp]
  simp only [hr]

theorem State.degradeLane_noSpare (hr : (s.laneDegraded l).readySpare p = none) : s.degradeLane l
    = (((s.laneDegraded l).noSpareLane p l).judgePortState p ((s.laneDegraded l).ownerCause l)).laneFault l := by
  rw [State.degradeLane_eq ha hu hm, if_pos ⟨hl, ht⟩, hp]
  simp only [hr]

end

/-- The marks of a lane's margin are set by a reading of its class (R71). -/
def State.marginTimed (s : State) (l cls : Nat) : State :=
  if (s.laneAt l).live then s.modLane l (fun a => { a with
    lowSince := if s.degradeClass l ≤ cls then 0 else if a.lowSince = 0 then s.now + 1 else a.lowSince
    goodSince := if cls ≤ s.degradeClass l then 0 else if a.goodSince = 0 then s.now + 1 else a.goodSince }) else s

section
variable {s : State} {l snr high : Nat} {r : LaneReading} (ha : s.alive = true)
include ha

theorem State.updateMargin_ulane (hl : l < 52) : s.updateMargin l snr high r
    = (((((s.wr Dict.U_LANE_SNR snr l).wr Dict.U_LANE_EYE_HEIGHT high l).wr Dict.U_LANE_EYE_WIDTH r.wide l).wr
      Dict.U_LANE_MARGIN_CLASS (marginOf snr (if s.pam4 l then 18 else 17)) l).adaptUpdate l r).marginTimed l
        (marginOf snr (if s.pam4 l then 18 else 17)) := by
  simp only [State.updateMargin, ha, if_true, if_pos hl]
  rfl

theorem State.updateMargin_dlane (hl : ¬ l < 52) : s.updateMargin l snr high r
    = (((s.wr Dict.D_LANE_EYE_HEIGHT high (l - 52)).wr Dict.D_LANE_MARGIN_CLASS
      (marginOf snr (if s.pam4 l then 18 else 17)) (l - 52)).adaptUpdate l r).marginTimed l
        (marginOf snr (if s.pam4 l then 18 else 17)) := by
  simp only [State.updateMargin, ha, if_true, if_neg hl]
  rfl

end

section
variable {s : State} {p n : Nat}

theorem State.receiveFrame_taken (ha : s.alive = true) (hp : 2 ≤ s.rd Dict.PORT_STATE p) (h1 : 64 ≤ n)
    (h2 : n ≤ s.rd Dict.PORT_MTU p) : s.receiveFrame p n true false = s.inc Dict.PORT_RX_FRAMES p := by
  simp only [State.receiveFrame, ha, hp, h1, h2, Bool.not_false, and_self, if_true]

theorem State.receiveFrame_dropped (fcs pause : Bool) (ha : s.alive = true) (hp : 2 ≤ s.rd Dict.PORT_STATE p)
    (h : ¬(fcs = true ∧ (!pause) = true ∧ 64 ≤ n ∧ n ≤ s.rd Dict.PORT_MTU p)) :
    s.receiveFrame p n fcs pause = s.inc Dict.PORT_RX_DISCARDS p := (if_pos ⟨ha, hp⟩).trans (if_neg h)

end

/-- Settles O19. -/
theorem laneStates : Obligations.LaneStates := by
  unfold Obligations.LaneStates
  refine ⟨fun s l al ha hl => congrArg Host.Outcome.next (State.loseLane_live _ ha hl),
    fun s l al hl => congrArg Host.Outcome.next (State.loseLane_down _ hl), fun b l c hl hp => ⟨State.restartLane_unowned c hp, ?_⟩,
    fun s l f ha ht hr => ⟨congrArg Host.Outcome.next (State.laneUp_eq f ha ht hr), fun hl => if_pos hl⟩,
    fun s l f h => congrArg Host.Outcome.next (State.laneUp_not f h), fun b l f hl hf => State.endTrain_lineRate f hl hf,
    fun s l an ha ht hd => ⟨fun hn => ?_, fun hn hl => ?_, fun hn hl => ?_⟩, fun s l an hd => ?_,
    fun s l ha hu hm => ⟨fun h => ?_, fun p hl ht hp => ⟨fun m hr => ?_, fun hr => ?_⟩⟩, fun s l ha hd hg hb => ?_,
    fun s p count ha hp hc => ?_, fun s l snr high r ha => ⟨fun hl => ?_, fun hl => ?_⟩, fun s l ha hp hs ho hv => ?_,
    fun s p n ha hp => ⟨fun h1 h2 => ?_, fun h => ?_, ?_, ?_⟩⟩
  · exact (b.trainLane_ulaneAt true hl) ▸ ⟨rfl, rfl, rfl⟩
  · exact congrArg Host.Outcome.next ((State.failTraining_eq _ ha ht hd _ rfl).trans (if_neg (Nat.not_le.2 hn)))
  · exact congrArg Host.Outcome.next ((State.failTraining_eq _ ha ht hd _ rfl).trans ((if_pos hn).trans (if_pos hl)))
  · exact congrArg Host.Outcome.next ((State.failTraining_eq _ ha ht hd _ rfl).trans
      ((if_pos hn).trans (if_neg (Nat.not_lt.2 hl))))
  · exact congrArg Host.Outcome.next (if_neg fun hc => absurd hc.2.2 (Nat.not_le.2 hd))
  · exact congrArg Host.Outcome.next (State.degradeLane_alone ha hu hm h)
  · exact congrArg Host.Outcome.next (State.degradeLane_takenOver ha hu hm hl ht hp hr)
  · exact congrArg Host.Outcome.next (State.degradeLane_noSpare ha hu hm hl ht hp hr)
  · exact congrArg Host.Outcome.next (State.recoverLane_eq ha hd hg hb)
  · exact congrArg Host.Outcome.next (if_pos ⟨ha, hp, hc⟩)
  · exact congrArg Host.Outcome.next (State.updateMargin_ulane ha hl)
  · exact congrArg Host.Outcome.next (State.updateMargin_dlane ha (Nat.not_lt.2 hl))
  · exact congrArg Host.Outcome.next (if_pos ⟨ha, hp, hs, ho, hv⟩)
  · exact congrArg Host.Outcome.next (State.receiveFrame_taken ha hp h1 h2)
  · exact congrArg Host.Outcome.next (State.receiveFrame_dropped _ _ ha hp (by omega))
  · exact congrArg Host.Outcome.next (State.receiveFrame_dropped _ _ ha hp (by simp))
  · exact congrArg Host.Outcome.next (State.receiveFrame_dropped _ _ ha hp (by simp))

end Sys2Proof.Machine
end

-- ==== Proofs: grids and latches (R131, R232, R308) ====
section
/-! PROOFS. The first place of a grid that is not before an instant, and O26. -/
namespace Sys2Proof.Machine
open Sys2Proof
set_option Elab.async false

/-! ### Grids (R131, R232, R308) -/

section
variable {num den off : Nat} (hn : 0 < num) (hd : 0 < den)

theorem gridAt_mono {i j : Nat} (h : i ≤ j) : gridAt num den off i ≤ gridAt num den off j :=
  Nat.add_le_add_left (Nat.div_le_div_right (Nat.mul_le_mul_right num h)) off

include hn

theorem le_ceilDiv_iff {a i : Nat} : ceilDiv a num ≤ i ↔ a ≤ i * num := by
  rw [ceilDiv, Nat.div_le_iff_le_mul_add_pred hn, Nat.mul_comm]
  omega

include hd

/-- The place of the grid that `gridFrom` gives is the first that is not before an instant. -/
theorem gridFrom_le_iff {t i : Nat} : gridFrom num den off t ≤ i ↔ t ≤ gridAt num den off i := by
  unfold gridFrom gridAt
  by_cases h : t ≤ off
  · rw [if_pos h]
    exact ⟨fun _ => h.trans (Nat.le_add_right ..), fun _ => Nat.zero_le i⟩
  · rw [if_neg h, le_ceilDiv_iff hn, ← Nat.le_div_iff_mul_le hd, Nat.sub_le_iff_le_add']

theorem le_gridAt_gridFrom (t : Nat) : t ≤ gridAt num den off (gridFrom num den off t) :=
  (gridFrom_le_iff hn hd).1 le_rfl

theorem gridAt_gridFrom_le {t i : Nat} (h : t ≤ gridAt num den off i) :
    gridAt num den off (gridFrom num den off t) ≤ gridAt num den off i := gridAt_mono ((gridFrom_le_iff hn hd).2 h)

end

theorem State.ftgNum_pos (s : State) (f : Nat) : 0 < s.ftgNum f :=
  Nat.mul_pos (by decide) (Nat.lt_of_lt_of_le Nat.one_pos (Nat.le_max_left ..))

theorem State.ftgDen_pos (s : State) (f : Nat) : 0 < s.ftgDen f := Nat.lt_of_lt_of_le Nat.one_pos (Nat.le_max_left ..)

theorem State.headRate_pos (s : State) (h : Nat) : 0 < s.headRate h :=
  iteInduction (motive := fun n => 0 < n) (fun _ => Nat.lt_of_lt_of_le Nat.one_pos (Nat.le_max_left ..)) fun _ => Nat.one_pos

theorem State.headDen_pos (s : State) (h : Nat) : 0 < s.headDen h := Nat.mul_pos (s.ftgDen_pos _) (s.headRate_pos h)

theorem State.le_ftgNext (s : State) (f t : Nat) : t ≤ s.ftgNext f t :=
  le_gridAt_gridFrom (s.ftgNum_pos f) (s.ftgDen_pos f) t

theorem State.lt_nextFlip (s : State) (h t : Nat) : t < s.nextFlip h t :=
  iteInduction (motive := fun n => t < n)
    (fun _ => le_gridAt_gridFrom (s.ftgNum_pos _) (s.headDen_pos h) (t + 1))
    fun _ => le_gridAt_gridFrom (s.ftgNum_pos _) (s.ftgDen_pos _) (t + 1)

theorem State.lt_nextBaseLatch (s : State) (c t : Nat) : t < s.nextBaseLatch c t := by
  unfold State.nextBaseLatch
  split
  · exact Nat.lt_of_lt_of_le (Nat.lt_succ_self t) ((Nat.le_max_left ..).trans
      (le_gridAt_gridFrom (s.ftgNum_pos _) (s.ftgDen_pos _) _))
  · exact s.le_ftgNext _ (t + 1)

theorem State.nextBaseLatch_of_no_lead {s : State} {c : Nat} (h : s.leadHead c = none) (t : Nat) :
    s.nextBaseLatch c t = s.ftgNext (s.canvasFtg c) (t + 1) := by
  simp only [State.nextBaseLatch, h]

/-- Settles O26: `gridFrom` gives the first place of a grid that is not before an instant (`gridFrom_le_iff`). -/
theorem latchesAreNext : Obligations.LatchesAreNext := by
  unfold Obligations.LatchesAreNext
  refine ⟨fun s f t => ⟨s.le_ftgNext f t, fun i hi => gridAt_gridFrom_le (s.ftgNum_pos f) (s.ftgDen_pos f) hi⟩,
    fun s h t => ⟨le_gridAt_gridFrom (s.ftgNum_pos _) (s.headDen_pos h) t,
      fun i hi => gridAt_gridFrom_le (s.ftgNum_pos _) (s.headDen_pos h) hi⟩,
    fun s h t => s.lt_nextFlip h t, fun s c t => s.lt_nextBaseLatch c t, fun s h t i h1 hi => ?_, fun s c t t' hl ht => ?_⟩
  · exact (if_pos h1).trans_le (gridAt_gridFrom_le (s.ftgNum_pos _) (s.headDen_pos h) hi)
  · show s.nextBaseLatch c t ≤ s.nextBaseLatch c t'
    rw [State.nextBaseLatch_of_no_lead hl, State.nextBaseLatch_of_no_lead hl]
    exact gridAt_gridFrom_le (s.ftgNum_pos _) (s.ftgDen_pos _) ((Nat.succ_le_succ ht).trans (s.le_ftgNext _ _))

end Sys2Proof.Machine
end

-- ==== Proofs: commits received and discarded (R127 to R130) ====
section
/-! PROOFS. What a receipt copies and a discard restores, and O25. -/
namespace Sys2Proof.Machine
open Sys2Proof
set_option Elab.async false

/-! ### Commits received and discarded (R127 to R130) -/

/-- STATE of the commit objects is kept in registers alone. -/
theorem State.commitStates_same {β : Type} (f : State → β) (hf : ∀ s r, f { s with regs := r } = f s) (s : State) :
    f s.commitStates = f s :=
  (hf _ _).trans ((foldl_same f _ fun _ _ => hf _ _).trans (foldl_same f _ fun _ _ => hf _ _))

theorem State.queueCommit_same {β : Type} (f : State → β) (hf : ∀ s r, f { s with regs := r } = f s) (s : State) (m : Commit) :
    f (s.queueCommit m) = f { s with validating := s.validating ++ [m] } := by
  refine (State.commitStates_same f hf _).trans ?_
  split
  · exact hf { s with validating := s.validating ++ [m] } _
  · exact hf { s with validating := s.validating ++ [m] } _
  · exact hf { s with validating := s.validating ++ [m] } _

/-- A commit of one head, where no write is held back. -/
theorem State.receive_head {s : State} (h k : Nat) (hd : s.deferredWrites = []) :
    s.receive 1 h k (2 ^ h) 0 0xFF false none = s.copyShadows 1 h k (2 ^ h) 0 0xFF false none := by
  rw [State.receive, hd, List.foldl_nil]

/-- Shadows restored, each from the register in force. -/
theorem foldl_setShadow_read (l : List Nat) (s : State) {i : Nat} (hi : i ∈ l ∨ Store.read dictDefault s.shadow i = s.regAt i) :
    Store.read dictDefault (l.foldl (fun s k => s.setShadow k (s.regAt k)) s).shadow i = s.regAt i := by
  induction l generalizing s with
  | nil => exact hi.resolve_left List.not_mem_nil
  | cons k l ih =>
    rw [List.foldl_cons, ih]
    · rfl
    · by_cases hk : i = k
      · exact .inr (hk ▸ Store.read_write_self ..)
      · refine (hi.imp (fun h => (List.mem_cons.1 h).resolve_left hk) fun h => ?_)
        exact (Store.read_write_ne _ _ _ hk).trans h

/-- A scope's registers and DOMAINs with their shadows discarded. -/
def State.fieldsDiscarded (s : State) (kind num : Nat) : State :=
  let s := (s.scopeKeys kind num).foldl (fun s k => s.setShadow k (s.regAt k)) s
  (s.scopeDoms kind num).foldl (fun s k => s.setDomShadow k (Store.read domDefault s.doms k)) s

/-- A head's tile-map and calibration entries with their shadows discarded. -/
def State.tablesDiscarded (s : State) (num : Nat) : State :=
  (s.headDirtyCalibs num).foldl (fun s k => s.putCalibShadow k (s.calibAt k))
    ((s.headDirtyTiles num).foldl (fun s k => s.putTileShadow k (s.tileEntryAt k)) s)

theorem State.discard_eq (s : State) (kind num : Nat) : s.discard kind num
    = .done (if kind = 1 then (s.fieldsDiscarded kind num).tablesDiscarded num else s.fieldsDiscarded kind num) := by
  unfold State.discard
  by_cases hk : kind = 1
  · rw [if_pos hk, if_pos hk]; rfl
  · rw [if_neg hk, if_neg hk]; rfl

theorem State.tablesDiscarded_same {β : Type} (f : State → β) (ht : ∀ s k v, f (s.putTileShadow k v) = f s)
    (hc : ∀ s k v, f (s.putCalibShadow k v) = f s) (s : State) (num : Nat) : f (s.tablesDiscarded num) = f s :=
  (foldl_same f (g := fun s k => s.putCalibShadow k (s.calibAt k)) _ fun _ _ => hc ..).trans
    (foldl_same f (g := fun s k => s.putTileShadow k (s.tileEntryAt k)) s fun _ _ => ht ..)

theorem State.fieldsDiscarded_same {β : Type} (f : State → β) (hs : ∀ s k v, f (s.setShadow k v) = f s)
    (hd : ∀ s k v, f (s.setDomShadow k v) = f s) (s : State) (kind num : Nat) : f (s.fieldsDiscarded kind num) = f s :=
  (foldl_same f (g := fun s k => s.setDomShadow k (Store.read domDefault s.doms k)) _ fun _ _ => hd ..).trans
    (foldl_same f (g := fun s k => s.setShadow k (s.regAt k)) s fun _ _ => hs ..)

theorem State.fieldsDiscarded_shadow (s : State) {kind num i : Nat} (hi : i ∈ s.scopeKeys kind num) :
    Store.read dictDefault (s.fieldsDiscarded kind num).shadow i = s.regAt i :=
  (congrArg (fun m => Store.read dictDefault m i) (foldl_same State.shadow
    (g := fun s k => s.setDomShadow k (Store.read domDefault s.doms k)) _ fun _ _ => rfl)).trans
    (foldl_setShadow_read _ s (.inl hi))

/-- What a discarded commit leaves: the registers in force, and the shadows equal to them. -/
theorem State.discard_spec (s : State) (kind num : Nat) : ∃ t, s.discard kind num = .done t ∧ t.regs = s.regs ∧
    t.doms = s.doms ∧ ∀ i ∈ s.scopeKeys kind num, Store.read dictDefault t.shadow i = s.regAt i := by
  have hr := State.fieldsDiscarded_same State.regs (fun _ _ _ => rfl) (fun _ _ _ => rfl) s kind num
  have hd := State.fieldsDiscarded_same State.doms (fun _ _ _ => rfl) (fun _ _ _ => rfl) s kind num
  refine ⟨_, s.discard_eq kind num, ?_⟩
  by_cases hk : kind = 1
  · rw [if_pos hk]
    exact ⟨(State.tablesDiscarded_same State.regs (fun _ _ _ => rfl) (fun _ _ _ => rfl) ..).trans hr,
      (State.tablesDiscarded_same State.doms (fun _ _ _ => rfl) (fun _ _ _ => rfl) ..).trans hd, fun i hi =>
        (congrArg (fun m => Store.read dictDefault m i)
          (State.tablesDiscarded_same State.shadow (fun _ _ _ => rfl) (fun _ _ _ => rfl) ..)).trans (s.fieldsDiscarded_shadow hi)⟩
  · rw [if_neg hk]
    exact ⟨hr, hd, fun i hi => s.fieldsDiscarded_shadow hi⟩

/-- Settles O25. -/
theorem commitReceipt : Obligations.CommitReceipt := by
  unfold Obligations.CommitReceipt
  refine ⟨fun s k h hp => congrArg Host.Outcome.next (State.writeScalar_waits hp rfl),
    fun s k c hp => congrArg Host.Outcome.next (State.writeScalar_waits hp rfl),
    fun s k hp => congrArg Host.Outcome.next (State.writeScalar_waits hp rfl),
    fun s m => ⟨State.queueCommit_same State.validating (fun _ _ => rfl) s m,
      State.queueCommit_same State.pendingCommits (fun _ _ => rfl) s m, State.queueCommit_same State.shadow (fun _ _ => rfl) s m,
      State.queueCommit_same State.doms (fun _ _ => rfl) s m⟩, fun s h k hd => ?_, fun s k c hp => ?_, fun s k h hp => ?_⟩
  · rw [State.receive_head h k hd]
    exact ⟨rfl, rfl, rfl, rfl, List.append_nil _, List.append_nil _⟩
  · obtain ⟨t, ht, hg, hd, hs⟩ := (s.begin.actBy k).discard_spec 2 c
    refine ⟨t, congrArg Host.Outcome.next ((if_neg (by simp)).trans ?_), hg, hd, hs⟩
    simp only [Nat.add_sub_cancel]
    exact State.writeScalar_accepts hp ht
  · obtain ⟨t, ht, hg, hd, hs⟩ := (s.begin.actBy k).discard_spec 1 h
    exact ⟨t, congrArg Host.Outcome.next ((if_pos h.isLt).trans
      (State.writeScalar_accepts (n := h) hp ht)), hg, hd, hs⟩

end Sys2Proof.Machine
end

-- ==== Proofs: canvases, write-back and the Lining (R194, R209 to R225) ====
section
/-! PROOFS. One equation for each branch of their commands, and O30 and O32. -/
namespace Sys2Proof.Machine
open Sys2Proof
set_option Elab.async false

/-! ### Canvases start, stop and write back (R194, R209 to R212) -/

theorem State.disableCanvas_eq (s : State) (c : Nat) : s.disableCanvas c = .done ((s.wr Dict.CANVAS_ENABLE 0 c).putCanvas c
    (if (s.canvasAt c).running then { s.canvasAt c with stopping := true }
      else { s.canvasAt c with startAfter := 0, stopping := false })) := rfl

theorem State.enableCanvas_accepts {s : State} {c : Nat} (hf : s.flag Dict.CANVAS_ENABLE c = false)
    (hr : s.devState = 4 → firstOf ((s.wr Dict.CANVAS_ENABLE 1 c).canvasRules c) = none) :
    s.enableCanvas c = .done (((s.wr Dict.CANVAS_ENABLE 1 c).armCanvas c).setTargets false) := by
  have h : (if s.devState = 4 then firstOf ((s.wr Dict.CANVAS_ENABLE 1 c).canvasRules c) else none) = none :=
    iteInduction (motive := fun o => o = none) hr fun _ => rfl
  simp only [State.enableCanvas, hf, Bool.false_eq_true, if_false, h]

theorem State.enableCanvas_refuses {s : State} {c : Nat} {r : Refuse} (hf : s.flag Dict.CANVAS_ENABLE c = false)
    (hd : s.devState = 4) (hr : firstOf ((s.wr Dict.CANVAS_ENABLE 1 c).canvasRules c) = some r) :
    s.enableCanvas c = .refused r s := by
  simp only [State.enableCanvas, hf, Bool.false_eq_true, if_false, if_pos hd, hr]

/-- The descriptor that a write-back goes by. -/
def State.wbNowDesc (s : State) (c k : Nat) : List Byte :=
  if Store.read (fun _ => 0) (s.canvasAt c).wbNext k = 1 then (Store.read (fun _ => ([], Raster.init)) (s.canvasAt c).wbDone k).1
  else s.dom Dict.CANVAS_WB_DESC c k

section
variable {s : State} {c k : Nat}

theorem State.writeBack_idle (h : ¬(s.alive = true ∧ byteAt (s.wbNowDesc c k) 0 ≠ 0 ∧
    Store.read (fun _ => 0) (s.canvasAt c).wbNext k ≠ 0)) : s.writeBack c k = s := if_neg h

variable (h : s.alive = true ∧ byteAt (s.wbNowDesc c k) 0 ≠ 0 ∧ Store.read (fun _ => 0) (s.canvasAt c).wbNext k ≠ 0)
  (w : State) (hw : w = s.putCanvas c { s.canvasAt c with wbNext := Store.write (fun _ => 0) (s.canvasAt c).wbNext k 0 })
include h hw

theorem State.writeBack_faults (ha : w.wbAccepts (s.wbNowDesc c k) = false) : s.writeBack c k = (w.setWbState c k 2).raiseIf
    ((if k = 0 then s.rd Dict.CANVAS_WB_STATE c % 4 else s.rd Dict.CANVAS_WB_STATE c / 4 % 4) != 2) Event.WRITEBACK_FAULT c
      (k * 256 + byteAt (s.wbNowDesc c k) 0) := by
  subst hw
  exact (if_pos h).trans (if_pos ha)

theorem State.writeBack_first (ha : w.wbAccepts (s.wbNowDesc c k) = true)
    (hd : Store.read (fun _ => 0) (s.canvasAt c).wbNext k = 1) (v : State)
    (hv : v = (w.setWbState c k (if byteAt (s.dom Dict.CANVAS_WB_DESC c k) 0 = 0 then 0 else 1)).modCanvas c fun v => { v with
      wbLast := Store.write (fun _ => Raster.init) v.wbLast k (Store.read (fun _ => ([], Raster.init)) (s.canvasAt c).wbDone k).2 }) :
    s.writeBack c k = ((v.deliver c k (s.wbNowDesc c k) (Store.read (fun _ => ([], Raster.init)) (s.canvasAt c).wbDone k).2).inc
      Dict.CANVAS_WB_FRAMES c k).fire (v.rd Dict.CANVAS_WB_MSIX_VECTOR c) := by
  subst hw hv
  exact (if_pos h).trans ((if_neg fun hx => Bool.noConfusion (ha.symm.trans hx)).trans (if_pos hd))

theorem State.writeBack_repeats (ha : w.wbAccepts (s.wbNowDesc c k) = true)
    (hd : Store.read (fun _ => 0) (s.canvasAt c).wbNext k ≠ 1) :
    s.writeBack c k = (w.setWbState c k (if byteAt (s.dom Dict.CANVAS_WB_DESC c k) 0 = 0 then 0 else 1)).deliver c k
      (s.wbNowDesc c k) (Store.read (fun _ => Raster.init) (s.canvasAt c).wbLast k) := by
  subst hw
  exact (if_pos h).trans ((if_neg fun hx => Bool.noConfusion (ha.symm.trans hx)).trans (if_neg hd))

end

/-! ### The Lining (R221 to R225) -/

/-- The registers that a Lining's end leaves written. -/
theorem State.invalidateLining_eq {s : State} {c : Nat} (cause : Nat) (h : (s.canvasAt c).liningState = 3) :
    ∃ u : State, u.ev = s.ev ∧ u.canvasAt c = { s.canvasAt c with
        liningState := 1, liningPicture := none, liningUsed := false } ∧
      s.invalidateLining c cause = u.raise Event.LINING_INVALIDATED c cause := by
  refine ⟨_, ?_, ?_, if_pos h⟩
  · exact foldl_same State.ev (g := fun s l => s.wr Dict.LAYER_LINED 0 (layerNo c l)) _ fun _ _ => rfl
  · exact (foldl_same (fun t => t.canvasAt c) (g := fun s l => s.wr Dict.LAYER_LINED 0 (layerNo c l)) _ fun _ _ => rfl).trans
      (State.putCanvas_canvasAt s c _)

section
variable {s : State} {c : Nat} (h : s.alive = true ∧ (s.canvasAt c).running = true ∧ (s.canvasAt c).liningState = 2 ∧
  s.yielded 1 6 0 = false)
include h

theorem State.liningDone_restarts (hr : (s.canvasAt c).liningRestart = true) :
    s.liningDone c = s.putCanvas c { s.canvasAt c with liningRestart := false } := (if_pos h).trans (if_pos hr)

theorem State.liningDone_valid (hr : (s.canvasAt c).liningRestart = false) (p : Raster)
    (hp : p = ((s.asSeen c).putCanvas c { s.canvasAt c with liningState := 3, liningUsed := true }).liningBuild c
      (s.rd Dict.LINING_LINED_MASK 0 c)) :
    ∃ u : State, u.ev = s.ev ∧ u.canvasAt c = { s.canvasAt c with liningState := 3, liningPicture := some p } ∧
      s.liningDone c = u.raise Event.LINING_VALID c (s.rd Dict.LINING_LINED_MASK 0 c) := by
  refine ⟨((s.putCanvas c { s.canvasAt c with liningState := 3, liningPicture := some p }).wr Dict.LINING_STATE 3 0 c).inc
    Dict.LINING_REBUILDS, rfl, State.putCanvas_canvasAt .., ?_⟩
  subst hp
  exact (if_pos h).trans (if_neg (by simp [hr]))

end

/-- Settles O32. -/
theorem liningRebuilds : Obligations.LiningRebuilds := by
  unfold Obligations.LiningRebuilds
  refine ⟨fun s c ha hv hl hy => ⟨fun hr => ?_, fun hr => ?_⟩, fun s c hl => ?_, fun s k v hp => ?_, fun s c hl => ?_⟩
  · exact congrArg Host.Outcome.next (State.liningDone_restarts ⟨ha, hv, hl, hy⟩ hr)
  · obtain ⟨u, he, hc, hx⟩ := State.liningDone_valid ⟨ha, hv, hl, hy⟩ hr _ rfl
    exact ⟨_, congrArg Host.Outcome.next hx, raised_raise_own (congrArg EventLog.queue he), congrArg Canvas.liningState hc,
      congrArg Canvas.liningPicture hc⟩
  · exact congrArg Host.Outcome.next (if_neg fun h => hl h.2.2.1)
  · exact congrArg Host.Outcome.next (State.writeScalar_accepts hp rfl)
  · obtain ⟨u, he, hc, hx⟩ := State.invalidateLining_eq 5 hl
    rw [hx]
    exact ⟨raised_raise_own (congrArg EventLog.queue he), congrArg Canvas.liningState hc, congrArg Canvas.liningPicture hc⟩

/-- Settles O30. -/
theorem canvasesAndWriteBack : Obligations.CanvasesAndWriteBack := by
  unfold Obligations.CanvasesAndWriteBack
  refine ⟨fun s k c hp => ⟨fun hf => congrArg Host.Outcome.next (State.writeScalar_accepts hp (if_pos hf)),
      fun hf hr => congrArg Host.Outcome.next (State.writeScalar_accepts hp (State.enableCanvas_accepts hf hr)),
      fun r hf hd hr => congrArg Host.Outcome.next (State.writeScalar_refuses hp (State.enableCanvas_refuses hf hd hr))⟩,
    fun s k c hp => ⟨fun hv => ?_, fun hv => ?_⟩, fun s c k ha h0 hd => ⟨fun hw => ?_, fun hw h1 => ?_, fun hw h1 => ?_⟩,
    fun b c k d r => ⟨fun h => ?_, fun h => ?_, fun h => ?_⟩, fun s c k h => ?_⟩
  · refine congrArg Host.Outcome.next (State.writeScalar_accepts hp ((State.disableCanvas_eq ..).trans ?_))
    rw [if_pos hv]
  · refine congrArg Host.Outcome.next (State.writeScalar_accepts hp ((State.disableCanvas_eq ..).trans ?_))
    rw [if_neg fun hx => Bool.noConfusion (hv.symm.trans hx)]
  · exact congrArg Host.Outcome.next (State.writeBack_faults ⟨ha, h0, hd⟩ _ rfl hw)
  · exact congrArg Host.Outcome.next (State.writeBack_first ⟨ha, h0, hd⟩ _ rfl hw h1 _ rfl)
  · exact congrArg Host.Outcome.next (State.writeBack_repeats ⟨ha, h0, hd⟩ _ rfl hw h1)
  · simp only [State.deliver, State.wbAccepts, h, and_self]
  · simp only [State.deliver, h]
  · simp only [State.wbAccepts, h]
  · refine congrArg Host.Outcome.next (State.writeBack_idle fun hc => ?_)
    rcases h with h | ⟨h1, h2⟩
    · exact hc.2.2 h
    · exact hc.2.1 (by rw [State.wbNowDesc, if_neg h1]; exact h2)

end Sys2Proof.Machine
end

-- ==== Proofs: selection and holdover (R300 to R306, R314) ====
section
/-! PROOFS. The branches of selection and of the loop, and O38. -/
namespace Sys2Proof.Machine
open Sys2Proof
set_option Elab.async false

/-! ### The candidates that may be selected (R303) -/

theorem mem_insertBy {α : Type} (f : α → α → Bool) (a x : α) (l : List α) : x ∈ insertBy f a l ↔ x = a ∨ x ∈ l := by
  induction l with
  | nil => simp [insertBy]
  | cons b l ih =>
    unfold insertBy
    split
    · simp
    · simp only [List.mem_cons, ih]
      exact or_left_comm

theorem mem_sortBy {α : Type} (f : α → α → Bool) (x : α) (l : List α) : x ∈ sortBy f l ↔ x ∈ l := by
  induction l with
  | nil => simp [sortBy]
  | cons b l ih => simpa [sortBy, mem_insertBy] using or_congr_right ih

theorem State.mem_ranking (s : State) (n : Nat) :
    n ∈ s.ranking ↔ n < 12 ∧ s.rd Dict.REF_QUAL_STATE n = 3 ∧ s.rd Dict.REF_PRIORITY n ≠ 0 := by
  simp [State.ranking, mem_sortBy]

/-! ### Selection (R303, R304) -/

/-- The candidate that selection starts from: the target of a switch, or the one that is followed. -/
def State.currentRef (s : State) : Nat := if s.switching then s.rd Dict.SELECTOR_TARGET else s.rd Dict.SELECTOR_SELECTED

/-- What selection does to take the best candidate. -/
def State.takeBest (s : State) : State :=
  if s.rd Dict.HENTIS_LOOP_MODE = 0 then s.switchTo (s.bestRef s.currentRef) else s.setSelected (s.bestRef s.currentRef) 0xFF

section
variable {s : State}

theorem State.select_off (h : s.rd Dict.HENTIS_LOOP_MODE = 2) : s.select = s := if_pos h

variable (hm : s.rd Dict.HENTIS_LOOP_MODE ≠ 2)
include hm

theorem State.select_of_gone (hc : s.currentRef ∉ s.ranking) : s.select = if s.bestRef s.currentRef ≠ 0xFF then s.takeBest
    else if s.rd Dict.HENTIS_STATE = 1 ∨ s.rd Dict.HENTIS_STATE = 2 then s.loseReference s.currentRef
    else if s.rd Dict.HENTIS_LOOP_MODE = 1 then s.setSelected 0xFF 0xFF else s := by
  have h : s.ranking.contains s.currentRef = false := by simpa using hc
  exact (if_neg hm).trans (if_pos h)

theorem State.select_of_mem (hc : s.currentRef ∈ s.ranking) : s.select = if s.bestRef s.currentRef ≠ s.currentRef ∧
      (s.rd Dict.SELECTOR_FORCE = s.bestRef s.currentRef ∨
        (s.flag Dict.SELECTOR_REVERTIVE = true ∧ s.refBefore (s.bestRef s.currentRef) s.currentRef = true))
    then s.takeBest else s := by
  have h : ¬ s.ranking.contains s.currentRef = false := by simpa using hc
  exact (if_neg hm).trans (if_neg h)

end

/-! ### The loop: locked, lost, its history and its modes (R300 to R306, R314) -/

section
variable {s : State}

theorem State.endSwitch_eq (phase : Int) (hu : s.dictUp = true) (hs : s.switching = true)
    (ht : s.hentis.slewTo = some s.dcoWord) (w : State) (hw : w = s.holdWord.setPhase (s.rd Dict.SELECTOR_TARGET) phase) :
    s.endSwitch phase = (((({ w with hentis := { w.hentis with
      buildOut := w.rdInt Dict.REF_PHASE_OFFSET (s.rd Dict.SELECTOR_TARGET), ignoring := false
      boundSince := if w.rd Dict.HENTIS_STATE = 1 then w.now + 1 else 0 } } : State).setSelected
        (s.rd Dict.SELECTOR_TARGET) 0xFF).raise Event.REF_SWITCH_DONE (s.rd Dict.SELECTOR_TARGET)
        (param (w.rdInt Dict.REF_PHASE_OFFSET (s.rd Dict.SELECTOR_TARGET) / 1000))).select) := by
  subst hw
  exact if_pos ⟨hu, hs, ht⟩

/-- Hentis in LOCKED, its first lock noted. -/
def State.nowLocked (s : State) : State :=
  { s.setHentis 2 with hentis := { (s.setHentis 2).hentis with firstLock := true } }

/-- A JUMP follows the first lock where ALIGN_AT_LOCK asks for it and none is on its way (R313). -/
def State.jumpsAtLock (s : State) : Bool :=
  !s.hentis.firstLock && s.nowLocked.flag Dict.HENTIS_ALIGN_AT_LOCK && !s.nowLocked.aligning

theorem State.jumpsAtLock_iff (s : State) : s.jumpsAtLock = true ↔
    s.hentis.firstLock = false ∧ s.nowLocked.flag Dict.HENTIS_ALIGN_AT_LOCK = true ∧ s.nowLocked.aligning = false := by
  simp only [State.jumpsAtLock, Bool.and_eq_true, Bool.not_eq_true', and_assoc]

theorem State.lockHentis_eq (hu : s.dictUp = true) (hs : s.rd Dict.HENTIS_STATE = 1)
    (hf : s.follows (s.rd Dict.SELECTOR_SELECTED) = true) (hi : s.hentis.ignoring = false)
    (hb : s.since s.hentis.boundSince (tenTaus (refBandwidth (s.refType (s.rd Dict.SELECTOR_SELECTED))).2.2) = true) :
    s.lockHentis = if s.jumpsAtLock = true then
        s.nowLocked.startJump 0xFF 2 (-(s.nowLocked.rdInt Dict.REF_PHASE_OFFSET (s.rd Dict.SELECTOR_SELECTED)))
          (s.nowLocked.refType (s.rd Dict.SELECTOR_SELECTED) == 7)
      else s.nowLocked := if_pos ⟨hu, hs, hf, hi, hb⟩

theorem State.writeSteerFreq_closed (v : Nat) (h : s.rd Dict.HENTIS_LOOP_MODE ≠ 1) :
    s.writeSteerFreq v = .refused (.rule 0x63) s := if_pos (bne_iff_ne.2 h)

theorem State.writeSteerFreq_open (v : Nat) (h : s.rd Dict.HENTIS_LOOP_MODE = 1) :
    s.writeSteerFreq v = .done (s.wr Dict.HENTIS_STEER_FREQ v) := if_neg (by rw [h]; decide)

theorem State.writeLoopMode_same {k v : Nat} (h : v = s.rd Dict.HENTIS_LOOP_MODE) : s.writeLoopMode k v = .done s := if_pos h

/-- The loop opened by a new LOOP_MODE, which was told. -/
def State.loopOpened (s : State) (k v : Nat) : State :=
  ((s.wr Dict.HENTIS_LOOP_MODE v).raiseBy k Event.LOOP_MODE_CHANGE v (s.rd Dict.HENTIS_LOOP_MODE)).holdWord.setSelected 0xFF 0xFF

theorem State.writeLoopMode_change {k v : Nat} (h : v ≠ s.rd Dict.HENTIS_LOOP_MODE) : s.writeLoopMode k v
    = if v = 0 then .done (s.loopOpened k v).select
      else .done (({ s.loopOpened k v with hentis := { (s.loopOpened k v).hentis with
        history := [], boundSince := 0, ignoring := false } } : State).setHentis 0).select := if_neg h

end

/-- Settles O38. -/
theorem selectionAndHoldover : Obligations.SelectionAndHoldover := by
  unfold Obligations.SelectionAndHoldover
  refine ⟨fun s k v => ⟨fun hp => congrArg Host.Outcome.next (State.writeScalar_accepts hp rfl),
      fun hp => congrArg Host.Outcome.next (State.writeScalar_accepts hp rfl)⟩,
    fun s => ⟨State.select_off, fun hm hc hb => ?_, fun hm hc hb hs => ?_, fun hm hc hb hs => ?_, fun hm hc hb hf => ?_,
      fun hm hc hb => ?_⟩, State.mem_ranking, fun s phase hu hs ht => ?_,
    fun s hu hs hf hi hb => ⟨fun h1 => ?_, fun h1 h2 => ?_, fun h1 h2 h3 => ?_⟩, fun s hu hs h0 => ⟨fun hl => ?_, fun hl => ?_⟩,
    fun s hu ht => ?_, fun s hu hs ht => ⟨?_, rfl, rfl⟩, fun s k v hp => ⟨fun hv => ?_, fun hv h0 => ?_, fun hv h0 => ?_⟩,
    fun s k v hp => ⟨fun hm => ?_, fun hm => ?_⟩⟩
  · exact (State.select_of_gone hm hc).trans (if_pos hb)
  · exact (State.select_of_gone hm hc).trans ((if_neg (not_not.2 hb)).trans (if_pos hs))
  · exact (State.select_of_gone (by rw [hm]; decide) hc).trans ((if_neg (not_not.2 hb)).trans ((if_neg hs).trans (if_pos hm)))
  · exact (State.select_of_mem hm hc).trans (if_pos ⟨hb, hf⟩)
  · refine (State.select_of_mem hm hc).trans (if_neg fun hx => ?_)
    rcases hb with hb | ⟨hf, hb⟩
    · exact hx.1 hb
    · rcases hx.2 with h | ⟨h1, h2⟩
      · exact hf h
      · simp [State.currentRef] at h2
        simp [h1, h2] at hb
  · exact congrArg Host.Outcome.next (State.endSwitch_eq phase hu hs ht _ rfl)
  · exact congrArg Host.Outcome.next ((State.lockHentis_eq hu hs hf hi hb).trans
      (if_neg fun hx => Bool.noConfusion (h1.symm.trans ((State.jumpsAtLock_iff _).1 hx).1)))
  · exact congrArg Host.Outcome.next ((State.lockHentis_eq hu hs hf hi hb).trans
      (if_neg fun hx => Bool.noConfusion (h2.symm.trans ((State.jumpsAtLock_iff _).1 hx).2.1)))
  · exact congrArg Host.Outcome.next ((State.lockHentis_eq hu hs hf hi hb).trans
      (if_pos ((State.jumpsAtLock_iff _).2 ⟨h1, h2, h3⟩)))
  · exact congrArg Host.Outcome.next (if_pos ⟨hu, hs, (State.since_iff ..).2 ⟨h0, hl⟩⟩)
  · exact congrArg Host.Outcome.next (if_neg fun hx => absurd ((State.since_iff ..).1 hx.2.2).2 (Nat.not_le.2 hl))
  · exact congrArg Host.Outcome.next (if_pos ⟨hu, ht⟩)
  · exact congrArg Host.Outcome.next (if_pos ⟨hu, hs, ht⟩)
  · exact congrArg Host.Outcome.next (State.writeScalar_accepts hp (State.writeLoopMode_same hv))
  · exact congrArg Host.Outcome.next (State.writeScalar_accepts hp ((State.writeLoopMode_change hv).trans (if_pos h0)))
  · exact congrArg Host.Outcome.next (State.writeScalar_accepts hp ((State.writeLoopMode_change hv).trans (if_neg h0)))
  · exact congrArg Host.Outcome.next (State.writeScalar_accepts hp (State.writeSteerFreq_open v hm))
  · exact congrArg Host.Outcome.next (State.writeScalar_refuses hp (State.writeSteerFreq_closed v hm))

end Sys2Proof.Machine
end

-- ==== Proofs: the Pocket store (R365 to R375) ====
section
/-! PROOFS. Captures, clips and drives, and O44. -/
namespace Sys2Proof.Machine
open Sys2Proof
set_option Elab.async false

/-! ### The clip directory and its updates (R366, R370) -/

section
variable {β : Type} (f : State → β) (hf : ∀ s p r w, f { s with pocket := p, regs := r, wire := w } = f s)
include hf

theorem State.countClips_same (s : State) : f s.countClips = f s :=
  (foldl_same f _ fun u _ => hf u u.pocket _ u.wire).trans (hf s s.pocket _ s.wire)

theorem State.writeDirectories_same (s : State) : f s.writeDirectories = f s :=
  (foldl_same f _ fun u _ => hf u _ u.regs _).trans (hf s _ s.regs s.wire)

/-- An update of an entry is a matter of the Pocket store, its registers and its drives. -/
theorem State.updateEntry_same (s : State) (k : Nat) : f (s.updateEntry k) = f s := by
  refine Eq.trans ?_ (State.countClips_same f hf s)
  refine iteInduction (motive := fun t => f t = f s.countClips) (fun _ => ?_) fun _ => ?_
  · exact iteInduction (motive := fun t => f t = f s.countClips) (fun _ => rfl) fun _ => hf s.countClips _ s.countClips.regs _
  · refine (State.writeDirectories_same f hf _).trans ?_
    exact iteInduction (motive := fun t => f t = f s.countClips) (fun _ => rfl) fun _ => hf s.countClips _ s.countClips.regs _

end

theorem State.countClips_pocket (s : State) : s.countClips.pocket = s.pocket :=
  foldl_same State.pocket _ fun _ _ => rfl

theorem State.writeDirectories_directory (s : State) : s.writeDirectories.pocket.directory = s.pocket.directory :=
  foldl_same (fun t => t.pocket.directory) _ fun _ _ => rfl

theorem State.clipAt_of_directory {s t : State} (h : t.pocket.directory = s.pocket.directory) (n : Nat) : t.clipAt n = s.clipAt n :=
  congrArg (fun m => Store.read (fun _ => Clip.init) m n) h

@[simp] theorem State.putClip_clipAt (s : State) (n : Nat) (c : Clip) : (s.putClip n c).clipAt n = c := Store.read_write_self ..

/-- An update gives its entry a generation at most. -/
theorem State.updateEntry_clipAt (s : State) (n : Nat) : ∃ g, (s.updateEntry n).clipAt n = { s.clipAt n with generation := g } := by
  have hc : s.countClips.clipAt n = s.clipAt n := State.clipAt_of_directory (congrArg Pocket.directory s.countClips_pocket) n
  unfold State.updateEntry
  dsimp only
  generalize s.countClips = u at hc ⊢
  rw [← hc]
  generalize (u.pocket.dirGen + 1) % 2 ^ 32 = g
  split
  · split
    · exact ⟨(u.clipAt n).generation, rfl⟩
    · exact ⟨(u.clipAt n).generation, rfl⟩
  · rw [State.clipAt_of_directory (State.writeDirectories_directory _)]
    split
    · exact ⟨(u.clipAt n).generation, rfl⟩
    · exact ⟨g, State.putClip_clipAt ..⟩

theorem State.makeRoom_same {β : Type} (f : State → β) (hf : ∀ s p, f { s with pocket := p } = f s) {k frames fuel : Nat} {s t : State}
    (h : s.makeRoom k frames fuel = some t) : f t = f s := by
  induction fuel generalizing s with
  | zero => cases h; rfl
  | succ fuel ih =>
    unfold State.makeRoom at h
    extract_lets c at h
    split at h
    · cases h; rfl
    · split at h
      · cases h
      · exact (ih h).trans (hf ..)

/-- Room taken where there is any changes the Pocket store alone. -/
theorem State.makeRoom_getD_same {β : Type} (f : State → β) (hf : ∀ s p, f { s with pocket := p } = f s) (k frames fuel : Nat)
    (s : State) : f ((s.makeRoom k frames fuel).getD s) = f s := by
  cases h : s.makeRoom k frames fuel with
  | none => rfl
  | some t => exact State.makeRoom_same f hf h


/-! ### Captures, clips and drives (R365 to R372, R375) -/

@[simp] theorem State.putCapture_captureAt (s : State) (k : Nat) (c : Capture) : (s.putCapture k c).captureAt k = c :=
  Store.read_write_self ..

/-- A capture that ends leaves its place free and its clip complete. -/
theorem State.endCapture_eq {s : State} {k : Nat} (frames st : Nat) (h : (s.captureAt k).clip ≠ 0) : s.endCapture k frames st
    = ((((s.putClip ((s.captureAt k).clip - 1) { s.clipAt ((s.captureAt k).clip - 1) with frames := frames, state := 1 }).updateEntry
        ((s.captureAt k).clip - 1)).putCapture k Capture.init).wr Dict.POCKET_CAP_STATE st 0 k).raise Event.POCKET_CAPTURE_STOPPED k
          (st * 2 ^ 24 + frames % 2 ^ 24) := if_neg h

theorem State.endCapture_spec {s : State} {k frames st : Nat} (h : (s.captureAt k).clip ≠ 0) (hst : st < 256) :
    (s.endCapture k frames st).rd Dict.POCKET_CAP_STATE 0 k = st ∧ ((s.endCapture k frames st).captureAt k).clip = 0 ∧
      ((s.endCapture k frames st).clipAt ((s.captureAt k).clip - 1)).frames = frames ∧
      ((s.endCapture k frames st).clipAt ((s.captureAt k).clip - 1)).state = 1 ∧
      Safety.raised s (s.endCapture k frames st) Event.POCKET_CAPTURE_STOPPED k (st * 2 ^ 24 + frames % 2 ^ 24) := by
  rw [State.endCapture_eq frames st h]
  generalize (s.captureAt k).clip - 1 = n
  generalize hu : (s.putClip n { s.clipAt n with frames := frames, state := 1 }).updateEntry n = u
  obtain ⟨g, hg⟩ := (s.putClip n { s.clipAt n with frames := frames, state := 1 }).updateEntry_clipAt n
  rw [State.putClip_clipAt, hu] at hg
  have hq : u.ev.queue = s.ev.queue := hu ▸ State.updateEntry_same (fun t => t.ev.queue) (fun _ _ _ _ => rfl) _ n
  have hc : (u.putCapture k Capture.init).captureAt k = Capture.init := State.putCapture_captureAt ..
  have hst' : ((u.putCapture k Capture.init).wr Dict.POCKET_CAP_STATE st 0 k).rd Dict.POCKET_CAP_STATE 0 k = st :=
    (State.wr_rd ..).trans (Nat.mod_eq_of_lt hst)
  exact ⟨hst', congrArg Capture.clip hc, congrArg Clip.frames hg, congrArg Clip.state hg,
    raised_raise_own (u := (u.putCapture k Capture.init).wr Dict.POCKET_CAP_STATE st 0 k) hq⟩

section
variable {s : State} {k : Nat}

theorem State.enablePocket_same {v : Nat} (h : s.rd Dict.POCKET_ENABLE = v) : s.enablePocket v = .done s := if_pos h

theorem State.driveUp_misfit {d : DriveFound} (h : s.dictUp = true ∧ s.flag Dict.POCKET_ENABLE = true ∧
    bit (s.rd Dict.PCIE_RP_ENABLE) k = true ∧ s.rd Dict.POCKET_DRIVE_STATE 0 k ≠ 2) (hb : d.blocksFit = false) :
    s.driveUp k d = s.wr Dict.POCKET_DRIVE_STATE 3 0 k := (if_pos h).trans (if_pos hb)

theorem State.driveUp_fit {d : DriveFound} (h : s.dictUp = true ∧ s.flag Dict.POCKET_ENABLE = true ∧
    bit (s.rd Dict.PCIE_RP_ENABLE) k = true ∧ s.rd Dict.POCKET_DRIVE_STATE 0 k ≠ 2) (hb : d.blocksFit = true) :
    s.driveUp k d = (((((((((s.takeDrive k d).takeDirectory k d.copies).shareDirectory k
      s.pocket.dirGen d.copies).wr Dict.POCKET_DRIVE_STATE 2 0 k).dropFormatted k d.copies).wr Dict.PCIE_RP_STATE 2 0 k).wr
        Dict.POCKET_DRIVE_MANAGED (min (d.blocks * 4096) (2 ^ 45)) 0 k).countClips.judgePlayers).raise
          Event.POCKET_DRIVE_UP k (min (d.blocks * 4096) (2 ^ 45) / 2 ^ 30)) :=
  (if_pos h).trans (if_neg (by simp [hb]))

/-- What players and the directory make of a drive that failed, once its captures stopped. -/
def State.driveFailed (s : State) (k status : Nat) : State :=
  (((List.range 32).filter fun n => (s.countClips.raise Event.POCKET_DRIVE_DOWN k status).flag Dict.POCKET_PLAYER_ENABLE n &&
    (s.countClips.raise Event.POCKET_DRIVE_DOWN k status).playerUses n k).foldl (fun s n => s.readFaultOf n k)
      (s.countClips.raise Event.POCKET_DRIVE_DOWN k status)).judgePlayers

theorem State.driveDown_eq (link : Bool) (status : Nat)
    (h : s.dictUp = true ∧ (s.rd Dict.POCKET_DRIVE_STATE 0 k = 1 ∨ s.rd Dict.POCKET_DRIVE_STATE 0 k = 2)) (w : State)
    (hw : w = (s.stopCaptures k).wr Dict.POCKET_DRIVE_STATE 4 0 k) : s.driveDown k link status
    = (if link then ({ w with pocket := { w.pocket with queues := Store.write (fun _ => 0) w.pocket.queues k 0 } } : State).wr
          Dict.PCIE_RP_STATE 0 0 k
        else ({ w with pocket := { w.pocket with queues := Store.write (fun _ => 0) w.pocket.queues k 0 } } : State)).driveFailed
      k status := by
  subst hw
  exact if_pos h

/-! #### A capture starts and stops -/

theorem State.captureCommand_start (s : State) (k : Nat) : s.captureCommand k 1 = s.startCapture k := if_pos rfl

section
variable {source clip drive : Nat} (hs : s.rd Dict.POCKET_CAP_SOURCE 0 k = source) (hc : s.rd Dict.POCKET_CAP_CLIP 0 k = clip)
  (hd : s.rd Dict.POCKET_CAP_DRIVE 0 k = drive)

theorem State.startCapture_busy (ha : (s.captureAt k).clip ≠ 0) :
    s.startCapture k = .refused (.atField 0x12 0x3220 (0x28 + k)) s := by
  have h : ((s.captureAt k).clip != 0) = true := bne_iff_ne.2 ha
  simp only [State.startCapture, firstOf_cons_true h]

include hs hc hd

theorem State.startCapture_unready (ha : (s.captureAt k).clip = 0)
    (hb : (s.clipAt clip).state ≠ 0 ∨ s.driveReady drive = false) :
    s.startCapture k = .refused (.atField 0x83 0x3220 (0x22 + k)) s := by
  have h1 : ((s.captureAt k).clip != 0) = false := by simp [ha]
  have h2 : ((s.clipAt clip).state != 0 || !s.driveReady drive) = true := by
    rcases hb with hb | hb <;> simp [hb]
  simp only [State.startCapture, hs, hc, hd, firstOf_cons_false h1, firstOf_cons_true h2]

theorem State.startCapture_sourceless (ha : (s.captureAt k).clip = 0) (hb : (s.clipAt clip).state = 0)
    (hr : s.driveReady drive = true) (hf : s.captureSource source clip = none) :
    s.startCapture k = .refused (.atField 0x82 0x3220 (0x20 + k)) s := by
  have h1 : ((s.captureAt k).clip != 0) = false := by simp [ha]
  have h2 : ((s.clipAt clip).state != 0 || !s.driveReady drive) = false := by simp [hb, hr]
  have h3 : (s.captureSource source clip).isNone = true := by simp [hf]
  simp only [State.startCapture, hs, hc, hd, firstOf_cons_false h1, firstOf_cons_false h2, firstOf_cons_true h3]

/-- The clip that a capture begins: its format, with what the capture adds to it (R369). -/
def State.takenClip (s : State) (k : Nat) (f : Clip) : Clip :=
  let audio := s.rd Dict.POCKET_CAP_AUDIO 0 k
  { f with
    state := 2, drive := s.rd Dict.POCKET_CAP_DRIVE 0 k, audioChannels := audio % 256
    audioRate := if audio % 256 = 0 then 0 else s.matrixRate
    frameBlocks := blocksPerFrame f.format f.width f.height (audio % 256)
      (if audio % 256 = 0 then 0 else soundRoom s.matrixRate f.rateNum f.rateDen)
    createdS := s.tS }

/-- What a capture that is admitted does: its clip and the room for its first frame, then its own fields. -/
def State.beginCapture (s : State) (k : Nat) (c : Clip) : State :=
  let source := s.rd Dict.POCKET_CAP_SOURCE 0 k
  let clip := s.rd Dict.POCKET_CAP_CLIP 0 k
  let t := s.putClip clip c
  let t := ((t.makeRoom clip 1 1024).getD t).updateEntry clip
  let t := t.putCapture k { Capture.init with
    clip := clip + 1, source := source, drive := s.rd Dict.POCKET_CAP_DRIVE 0 k, first := s.rd Dict.POCKET_CAP_AUDIO 0 k / 256
    from_ := if source / 256 = 1 then t.timebase else 0 }
  ((t.wr Dict.POCKET_CAP_STATE 1 0 k).wr Dict.POCKET_CAP_FRAMES 0 0 k).raise Event.POCKET_CAPTURE_STARTED k clip

theorem State.startCapture_admitted {f : Clip} {audio : Nat} (ho : s.rd Dict.POCKET_CAP_AUDIO 0 k = audio)
    (ha : (s.captureAt k).clip = 0) (hb : (s.clipAt clip).state = 0)
    (hr : s.driveReady drive = true) (hf : s.captureSource source clip = some f)
    (hp : source / 256 = 1 → s.potentiallyProtected 1 (source % 256) = false) (h1 : audio % 256 ≤ 16)
    (h2 : audio / 256 + audio % 256 ≤ 256)
    (hfe : ((List.range (audio % 256)).map (fun i => audio / 256 + i)).findSome? (fun j => s.feedRefusal j (8, k)) = none)
    (hw : overBudget (s.rd Dict.POCKET_WRITE_BUDGET 0 drive) (addRate (s.writeClaim drive) (s.takenClip k f).rateBytes) = false) :
    s.startCapture k = .done (s.beginCapture k (s.takenClip k f)) := by
  subst hs hc hd ho
  have e1 : ((s.captureAt k).clip != 0) = false := by simp [ha]
  have e2 : ((s.clipAt (s.rd Dict.POCKET_CAP_CLIP 0 k)).state != 0 || !s.driveReady (s.rd Dict.POCKET_CAP_DRIVE 0 k)) = false := by
    simp [hb, hr]
  have e4 : (s.rd Dict.POCKET_CAP_SOURCE 0 k / 256 == 1 &&
      s.potentiallyProtected 1 (s.rd Dict.POCKET_CAP_SOURCE 0 k % 256)) = false := by
    simpa using hp
  have e5 : decide (16 < s.rd Dict.POCKET_CAP_AUDIO 0 k % 256 ∨
      256 < s.rd Dict.POCKET_CAP_AUDIO 0 k / 256 + s.rd Dict.POCKET_CAP_AUDIO 0 k % 256) = false := by
    simpa using ⟨h1, h2⟩
  have e6 := congrArg Option.isSome hfe
  unfold State.startCapture
  extract_lets source clip drive audio first count found g room feeds c
  have hfound : found = some f := hf
  clear_value found
  subst hfound
  split
  · next r h =>
    exact absurd (h.symm.trans ((firstOf_cons_false e1).trans <| (firstOf_cons_false e2).trans <|
      (firstOf_cons_false rfl).trans <| (firstOf_cons_false e4).trans <| (firstOf_cons_false e5).trans <|
      (firstOf_cons_false e6).trans <| firstOf_cons_false hw)) (Option.some_ne_none r)
  · rfl

end

/-- A capture that has its clip reports that it runs. -/
theorem State.captureBegun_spec {s m : State} {k clip : Nat} (c : Capture) (hm : m.ev.queue = s.ev.queue)
    (t : State) (ht : t = ((((m.updateEntry clip).putCapture k c).wr Dict.POCKET_CAP_STATE 1 0 k).wr Dict.POCKET_CAP_FRAMES 0 0 k).raise
      Event.POCKET_CAPTURE_STARTED k clip) :
    t.rd Dict.POCKET_CAP_STATE 0 k = 1 ∧ t.rd Dict.POCKET_CAP_FRAMES 0 k = 0 ∧ t.captureAt k = c ∧
      Safety.raised s t Event.POCKET_CAPTURE_STARTED k clip := by
  subst ht
  have hu : (m.updateEntry clip).ev.queue = s.ev.queue :=
    (State.updateEntry_same (fun t => t.ev.queue) (fun _ _ _ _ => rfl) m clip).trans hm
  generalize m.updateEntry clip = u at hu ⊢
  have hc : (u.putCapture k c).captureAt k = c := State.putCapture_captureAt ..
  have hst : (((u.putCapture k c).wr Dict.POCKET_CAP_STATE 1 0 k).wr Dict.POCKET_CAP_FRAMES 0 0 k).rd Dict.POCKET_CAP_STATE 0 k = 1 :=
    (State.wr_rd_ne _ _ _ _ _ _ _ _ (by simp [EntryDef.key])).trans (State.wr_rd ..)
  exact ⟨hst, State.wr_rd .., hc,
    raised_raise_own (u := ((u.putCapture k c).wr Dict.POCKET_CAP_STATE 1 0 k).wr Dict.POCKET_CAP_FRAMES 0 0 k) hu⟩

theorem State.beginCapture_spec (s : State) {k : Nat} (c : Clip) :
    (s.beginCapture k c).rd Dict.POCKET_CAP_STATE 0 k = 1 ∧ (s.beginCapture k c).rd Dict.POCKET_CAP_FRAMES 0 k = 0 ∧
      ((s.beginCapture k c).captureAt k).clip = s.rd Dict.POCKET_CAP_CLIP 0 k + 1 ∧
      ((s.beginCapture k c).captureAt k).source = s.rd Dict.POCKET_CAP_SOURCE 0 k ∧
      Safety.raised s (s.beginCapture k c) Event.POCKET_CAPTURE_STARTED k (s.rd Dict.POCKET_CAP_CLIP 0 k) := by
  obtain ⟨hst, hfr, hc, hr⟩ := State.captureBegun_spec _ (State.makeRoom_getD_same (fun t => t.ev.queue) (fun _ _ => rfl)
    (s.rd Dict.POCKET_CAP_CLIP 0 k) 1 1024 (s.putClip (s.rd Dict.POCKET_CAP_CLIP 0 k) c)) (s.beginCapture k c) rfl
  exact ⟨hst, hfr, congrArg Capture.clip hc, congrArg Capture.source hc, hr⟩

end

section
variable {s : State} {k n : Nat}

theorem State.captureCommand_runs (ha : (s.captureAt k).clip ≠ 0) (hf : (s.captureAt k).flushed = false)
    (hs : (s.captureAt k).stopping = false) :
    ¬((s.captureAt k).clip = 0 ∨ (s.captureAt k).flushed = true ∨ (s.captureAt k).stopping = true) := by
  simp [ha, hf, hs]

theorem State.captureCommand_ends (ha : (s.captureAt k).clip ≠ 0) (hf : (s.captureAt k).flushed = false)
    (hs : (s.captureAt k).stopping = false) (hq : (s.captureAt k).queue = [])
    (hr : s.captureRuns (s.captureAt k).source = false) :
    s.captureCommand k 2 = .done (s.endCapture k (s.captureAt k).written 0) :=
  (if_neg (by decide)).trans ((if_neg (State.captureCommand_runs ha hf hs)).trans (if_pos ⟨hq, hr⟩))

theorem State.captureCommand_stops (ha : (s.captureAt k).clip ≠ 0) (hf : (s.captureAt k).flushed = false)
    (hs : (s.captureAt k).stopping = false)
    (h : (s.captureAt k).queue ≠ [] ∨ s.captureRuns (s.captureAt k).source = true) :
    s.captureCommand k 2 = .done ((s.putCapture k { s.captureAt k with
      stopping := true, closed := !s.captureRuns (s.captureAt k).source }).wr Dict.POCKET_CAP_STATE 2 0 k) :=
  (if_neg (by decide)).trans ((if_neg (State.captureCommand_runs ha hf hs)).trans
    (if_neg fun g => h.elim (· g.1) fun h => Bool.noConfusion (h.symm.trans g.2)))

theorem captureWrites (hu : s.dictUp = true) (hc : (s.captureAt k).clip ≠ 0) (hf : (s.captureAt k).flushed = false)
    (hl : s.floor = false ∨ 0 < (s.captureAt k).submitted) : s.dictUp = true ∧ (s.captureAt k).clip ≠ 0 ∧
      (!(s.captureAt k).flushed) = true ∧ ((!s.floor) = true ∨ 0 < (s.captureAt k).submitted) :=
  ⟨hu, hc, congrArg not hf, hl.imp_left (congrArg not)⟩

theorem State.deleteClip_busy (h : s.floor = true ∨ s.clipInUse n = true) : s.deleteClip n = .refused (.rule 0x84) s := by
  have e : (s.floor || s.clipInUse n) = true := by simpa using h
  simp only [State.deleteClip, firstOf_cons_true e]

theorem State.deleteClip_absent (hl : s.floor = false) (hi : s.clipInUse n = false) (h0 : (s.clipAt n).state = 0) :
    s.deleteClip n = .done s := by
  simp [State.deleteClip, firstOf, hl, hi, h0]

theorem State.deleteClip_unready (hl : s.floor = false) (hi : s.clipInUse n = false) (h0 : (s.clipAt n).state ≠ 0)
    (hd : s.driveReady (s.clipAt n).drive = false) : s.deleteClip n = .refused (.rule 0x83) s := by
  simp [State.deleteClip, firstOf, hl, hi, h0, hd]

theorem State.deleteClip_gone (hl : s.floor = false) (hi : s.clipInUse n = false) (h0 : (s.clipAt n).state ≠ 0)
    (hd : s.driveReady (s.clipAt n).drive = true) : s.deleteClip n = .done ((s.putClip n Clip.init).updateEntry n) := by
  simp [State.deleteClip, firstOf, hl, hi, h0, hd]

end

/-- Settles O44: each clause is the branch of its operation that its premises pick; what a capture leaves behind follows from
the frames of `updateEntry` and `makeRoom`. -/
theorem pocketStore : Obligations.PocketStore := by
  unfold Obligations.PocketStore
  refine ⟨fun s k hp => ⟨fun h0 => ?_, fun h1 => ?_⟩, fun s k hp => ⟨fun h1 => ?_, fun h0 => ?_⟩,
    fun s k d hu he hr hs => ⟨fun hb => ?_, fun hb => ?_⟩, fun s k status hu => ⟨fun hs => ⟨?_, ?_⟩, fun h1 h2 link => ?_⟩,
    fun s k c hp => ⟨fun ha => ?_, fun ha hc => ?_, fun ha hc hd hf => ?_, fun f ha hc hd hf hpr ha1 ha2 hfe hb => ?_⟩,
    fun s k c hp => ⟨fun ha => ?_, fun ha hf hs => ⟨fun hq hr => ?_, fun h => ?_⟩⟩,
    fun s k hu hc hf hl => ⟨?_, fun h2 => ?_, fun h2 => ?_⟩, fun s k frames st hc hk hst => State.endCapture_spec hc hst,
    fun s k hu hc hf hl => ⟨fun h => ?_, fun h => ?_⟩, fun s k hu hc hf hl hs => ?_,
    fun s k n hp => ⟨fun h => ?_, fun hl hi => ⟨fun h0 => ?_, fun h0 hd => ?_, fun h0 hd => ?_⟩⟩,
    fun s k v hp => ⟨fun h => ?_, fun hl he => ?_⟩⟩
  · exact congrArg Host.Outcome.next (State.writeScalar_accepts hp
      ((if_neg fun h => absurd (h0.symm.trans h) (by decide)).trans (if_pos rfl)))
  · exact congrArg Host.Outcome.next (State.writeScalar_accepts hp (State.enablePocket_same h1))
  · exact congrArg Host.Outcome.next (State.writeScalar_accepts hp
      ((if_neg fun h => absurd (h1.symm.trans h) (by decide)).trans (if_neg (by decide))))
  · exact congrArg Host.Outcome.next (State.writeScalar_accepts hp (State.enablePocket_same h0))
  · exact congrArg Host.Outcome.next (State.driveUp_misfit ⟨hu, he, hr, hs⟩ hb)
  · exact congrArg Host.Outcome.next (State.driveUp_fit ⟨hu, he, hr, hs⟩ hb)
  · exact congrArg Host.Outcome.next (State.driveDown_eq false status ⟨hu, hs⟩ _ rfl)
  · exact congrArg Host.Outcome.next (State.driveDown_eq true status ⟨hu, hs⟩ _ rfl)
  · exact congrArg Host.Outcome.next (if_neg fun h => h.2.elim h1 h2)
  · exact congrArg Host.Outcome.next (State.writeScalar_refuses hp
      ((State.captureCommand_start ..).trans (State.startCapture_busy ha))
      (hj := by have := c.isLt; show 0x28 + c.val ≤ 0x29; omega))
  · exact congrArg Host.Outcome.next (State.writeScalar_refuses hp
      ((State.captureCommand_start ..).trans (State.startCapture_unready rfl rfl rfl ha hc))
      (hj := by have := c.isLt; show 0x28 + c.val ≤ 0x29; omega))
  · exact congrArg Host.Outcome.next (State.writeScalar_refuses hp
      ((State.captureCommand_start ..).trans (State.startCapture_sourceless rfl rfl rfl ha hc hd hf))
      (hj := by have := c.isLt; show 0x28 + c.val ≤ 0x29; omega))
  · exact ⟨_, congrArg Host.Outcome.next (State.writeScalar_accepts hp ((State.captureCommand_start ..).trans
      (State.startCapture_admitted rfl rfl rfl rfl ha hc hd hf hpr ha1 ha2 hfe hb))
      (hj := by have := c.isLt; show 0x28 + c.val ≤ 0x29; omega)),
      State.beginCapture_spec _ _⟩
  · exact congrArg Host.Outcome.next (State.writeScalar_accepts hp
      ((if_neg (by decide)).trans (if_pos (.inl ha))) (hj := by have := c.isLt; show 0x28 + c.val ≤ 0x29; omega))
  · exact congrArg Host.Outcome.next (State.writeScalar_accepts hp (State.captureCommand_ends ha hf hs hq hr)
      (hj := by have := c.isLt; show 0x28 + c.val ≤ 0x29; omega))
  · exact congrArg Host.Outcome.next (State.writeScalar_accepts hp (State.captureCommand_stops ha hf hs h)
      (hj := by have := c.isLt; show 0x28 + c.val ≤ 0x29; omega))
  · exact congrArg Host.Outcome.next ((if_pos (captureWrites hu hc hf hl)).trans (if_pos rfl))
  · exact congrArg Host.Outcome.next ((if_pos (captureWrites hu hc hf hl)).trans ((if_neg (by decide)).trans (if_pos h2)))
  · exact congrArg Host.Outcome.next ((if_pos (captureWrites hu hc hf hl)).trans ((if_neg (by decide)).trans (if_neg h2.not_ge)))
  · exact congrArg Host.Outcome.next (if_pos ⟨hu, hc, congrArg not hf, congrArg not hl, h⟩)
  · exact congrArg Host.Outcome.next (if_neg fun g => h.not_ge g.2.2.2.2)
  · exact congrArg Host.Outcome.next (if_pos ⟨hu, hc, congrArg not hf, hl, hs⟩)
  · exact congrArg Host.Outcome.next (State.writeScalar_refuses hp (State.deleteClip_busy h))
  · exact congrArg Host.Outcome.next (State.writeScalar_accepts hp (State.deleteClip_absent hl hi h0))
  · exact congrArg Host.Outcome.next (State.writeScalar_refuses hp (State.deleteClip_unready hl hi h0 hd))
  · exact congrArg Host.Outcome.next (State.writeScalar_accepts hp (State.deleteClip_gone hl hi h0 hd))
  · exact congrArg Host.Outcome.next (State.writeScalar_refuses hp (if_pos h))
  · exact congrArg Host.Outcome.next (State.writeScalar_accepts hp (if_neg (by simp [hl, he])))

end Sys2Proof.Machine
end

-- ==== Proofs: faults, weights and spares (R380 to R395) ====
section
/-! PROOFS. What a weight's write leaves, the branches of the resilience commands, and O45. -/
namespace Sys2Proof.Machine
open Sys2Proof
set_option Elab.async false

/-! ### Fault weights (R381, R394) -/

@[simp] theorem State.putWeight_weightAt (s : State) (u : Nat) (w : Weight) : (s.putWeight u w).weightAt u = w :=
  Store.read_write_self ..

theorem State.putWeight_weightAt_ne {s : State} {u v : Nat} {w : Weight} (h : v ≠ u) : (s.putWeight u w).weightAt v = s.weightAt v :=
  Store.read_write_ne _ _ _ h

theorem State.noteFault_weightAt (s : State) (u : Nat) : (s.noteFault u).weightAt u = { s.weightAt u with
    faultTimes := s.life.opSeconds :: (s.weightAt u).faultTimes.filter fun x => decide (s.life.opSeconds < x + 86400) } :=
  State.putWeight_weightAt ..

theorem State.decayWeight_due {s : State} {u : Nat} (hw : (s.weightAt u).weight ≠ 0)
    (hh : (s.life.opSeconds - (s.weightAt u).decrementAt) / 3600 ≠ 0) :
    ∃ half, s.decayWeight u = s.putWeight u { s.weightAt u with
      weight := (s.weightAt u).weight - (s.life.opSeconds - (s.weightAt u).decrementAt) / 3600
      decrementAt := (s.weightAt u).decrementAt + 3600 * ((s.life.opSeconds - (s.weightAt u).decrementAt) / 3600)
      halfRaised := half } := ⟨_, if_pos ⟨hw, hh⟩⟩

theorem State.decayWeight_early {s : State} {u : Nat}
    (h : (s.weightAt u).weight = 0 ∨ (s.life.opSeconds - (s.weightAt u).decrementAt) / 3600 = 0) : s.decayWeight u = s :=
  if_neg fun g => h.elim g.1 g.2

theorem State.decayWeight_weightAt_ne {s : State} {u v : Nat} (h : v ≠ u) : (s.decayWeight u).weightAt v = s.weightAt v :=
  iteInduction (motive := fun t => State.weightAt t v = s.weightAt v) (fun _ => State.putWeight_weightAt_ne h) fun _ => rfl

/-! ### Copies to spares, checks and the patch map (R383, R386, R389) -/

theorem State.copyDone_bank {s : State} {unit : Nat} {e : Nat × Nat × Nat} (ha : s.alive = true)
    (h : s.resil.copying.find? (fun e => e.1 == unitCode 3 unit) = some e) : s.copyDone true unit = s.endCopy 3 unit := by
  simp [State.copyDone, h, ha]

theorem State.copyDone_row {s t : State} {unit : Nat} {e : Nat × Nat × Nat} (ha : s.alive = true)
    (h : s.resil.copying.find? (fun e => e.1 == unitCode 2 unit) = some e)
    (ht : t = ((s.inc Dict.RESILIENCE_STORE_ROWS_SPARED).raise Event.STORE_ROW_SPARED (unitCode 2 unit) e.2.2).endCopy 2 unit) :
    s.copyDone false unit = if (t.pickSpare 2 unit).isNone then t.permanentOne 3 (unit / 8192) 2 else t := by
  simp [State.copyDone, h, ha, ht]

theorem State.copyDone_none {s : State} {unit : Nat}
    (h : s.resil.copying.find? (fun e => e.1 == unitCode 2 unit) = none) : s.copyDone false unit = s := by
  simp [State.copyDone, h]

theorem State.clearPatch_absent {s : State} {n : Nat} (h : s.patchAt n = none) : s.clearPatch n = .done s := by
  simp [State.clearPatch, h]

theorem State.clearPatch_cleared {s : State} {n : Nat} {p : Patch} (h : s.patchAt n = some p) (hc : p.cleared = true) :
    s.clearPatch n = .done s := by
  simp [State.clearPatch, h, hc]

theorem State.clearPatch_valid {s : State} {n : Nat} {p : Patch} (h : s.patchAt n = some p) (hc : p.cleared = false) :
    s.clearPatch n = .done ((({ s with resil := { s.resil with
      patches := Store.put (Store.erase s.resil.patches n) n { p with cleared := true, pending := false } } } : State).returnUnit
        p.kind p.unit).raise Event.PATCH_CLEARED (unitCode p.kind p.unit) n) := by
  simp [State.clearPatch, h, hc]

theorem State.checkSpare_bad {s : State} {kind unit : Nat} (ha : s.alive = true) (he : unitExists kind unit = true)
    (hb : s.standsBy kind unit = true) (hk : [1, 2, 3, 4, 10, 11].contains kind = true) :
    s.checkSpare kind unit false = if kind = 10 then s.failSlot unit else s.hardFault kind unit 5 :=
  if_pos ⟨ha, rfl, he, hb, hk⟩

theorem State.echoLocked_again {s : State} {h unit : Nat} (ha : s.alive = true) (hm : unit ∈ (s.headAt h).echoFaults)
    (hr : s.isRetired (unitCode 9 unit) = false) (left : List Nat) (hl : (s.headAt h).echoFaults.filter (· != unit) = left) :
    s.echoLocked h unit = (s.putHead h { s.headAt h with echoFaults := left }).wr Dict.HEAD_STATUS_ECHO_STATE
      (if (s.headAt h).running = false then 0 else if left.isEmpty then 1 else 2) h := by
  subst hl
  exact if_pos ⟨ha, List.contains_iff_mem.2 hm, congrArg not hr⟩

/-- Settles O45: the branches of each command, with what a weight's own write leaves. -/
theorem faultsAndSpares : Obligations.FaultsAndSpares := by
  unfold Obligations.FaultsAndSpares
  refine ⟨fun s kind units ha => ?_, fun s unit e ha => ⟨fun h => ?_, fun h => ⟨fun g => ?_, fun g => ?_⟩, fun h => ?_⟩,
    fun s link ha => ⟨fun h => ?_, fun h => ?_⟩, fun s bank ha => ?_, fun s m ha => ⟨fun h => ?_, fun h => ?_⟩,
    fun s sector n ha => ⟨fun h => ?_, fun h => ?_, ?_, ?_⟩, fun s kind unit cause => rfl,
    fun s u => ⟨?_, ?_, fun v hv => State.putWeight_weightAt_ne hv⟩, fun s ha => congrArg Host.Outcome.next (if_pos ha),
    fun s u => ⟨fun hw hh => ?_, State.decayWeight_early, fun v hv => State.decayWeight_weightAt_ne hv⟩,
    fun s k v hp => congrArg Host.Outcome.next (State.writeScalar_accepts hp rfl),
    fun s kind unit => ⟨?_, fun ha he hb => ⟨fun hk => ?_, fun hk => ?_⟩, fun hb => ?_⟩,
    fun s k n hp => ⟨fun h => ?_, fun p h => ⟨fun hc => ?_, fun hc => ?_⟩⟩,
    fun s k v hp => congrArg Host.Outcome.next (State.writeScalar_accepts hp rfl),
    fun s ha => ⟨fun hy hd => congrArg Host.Outcome.next (if_pos ⟨ha, hy, hd⟩), fun h => congrArg Host.Outcome.next (if_neg ?_)⟩,
    fun s => rfl, fun s h unit ha => ⟨fun hr hn => ?_, fun hn => ?_⟩, fun s h unit ha hm => ⟨fun hr => ?_, fun hr hn => ?_, fun hr hn hl => ?_, fun hr hn hl => ?_⟩⟩
  · exact congrArg Host.Outcome.next (if_pos ha)
  · exact congrArg Host.Outcome.next (State.copyDone_bank ha h)
  · exact congrArg Host.Outcome.next ((State.copyDone_row ha h rfl).trans (if_neg fun k => Bool.noConfusion (g.symm.trans k)))
  · exact congrArg Host.Outcome.next ((State.copyDone_row ha h rfl).trans (if_pos g))
  · exact congrArg Host.Outcome.next (State.copyDone_none h)
  · exact congrArg Host.Outcome.next (if_pos ⟨ha, h⟩)
  · exact congrArg Host.Outcome.next (if_neg fun g => Bool.noConfusion (h.symm.trans g.2))
  · exact congrArg Host.Outcome.next (if_pos ha)
  · exact congrArg Host.Outcome.next (if_pos ⟨ha, h⟩)
  · exact congrArg Host.Outcome.next (if_neg fun g => g.2 h)
  · exact congrArg Host.Outcome.next ((if_pos ha).trans (if_neg h.not_ge))
  · exact congrArg Host.Outcome.next ((if_pos ha).trans (if_pos h))
  · exact congrArg Host.Outcome.next (if_pos ha)
  · exact congrArg Host.Outcome.next (if_pos ha)
  · exact (congrArg Weight.weight (State.noteFault_weightAt s u)).trans rfl
  · exact (congrArg Weight.faultTimes (State.noteFault_weightAt s u)).trans rfl
  · obtain ⟨half, h⟩ := State.decayWeight_due hw hh
    have h' := (congrArg (fun t => State.weightAt t u) h).trans (State.putWeight_weightAt ..)
    exact ⟨congrArg Weight.weight h', congrArg Weight.decrementAt h'⟩
  · exact congrArg Host.Outcome.next (if_neg fun g => Bool.noConfusion g.2.1)
  · exact congrArg Host.Outcome.next ((State.checkSpare_bad ha he hb (by simp [hk])).trans (if_pos hk))
  · exact congrArg Host.Outcome.next ((State.checkSpare_bad ha he hb (by simpa using by omega)).trans (if_neg (by omega)))
  · exact congrArg Host.Outcome.next (if_neg fun g => Bool.noConfusion (hb.symm.trans g.2.2.2.1))
  · exact congrArg Host.Outcome.next (State.writeScalar_accepts hp (State.clearPatch_absent h))
  · exact congrArg Host.Outcome.next (State.writeScalar_accepts hp (State.clearPatch_cleared h hc))
  · exact congrArg Host.Outcome.next (State.writeScalar_accepts hp (State.clearPatch_valid h hc))
  · exact fun g => h.elim (fun h => Bool.noConfusion (h.symm.trans g.2.1)) fun h => h.not_ge g.2.2
  · exact congrArg Host.Outcome.next (if_pos ⟨ha, hr, congrArg not (Bool.eq_false_iff.2 fun g => hn (List.contains_iff_mem.1 g))⟩)
  · exact congrArg Host.Outcome.next (if_neg fun g => hn.elim (fun hn => Bool.noConfusion (hn.symm.trans g.2.1)) fun hn =>
      Bool.noConfusion ((congrArg not (List.contains_iff_mem.2 hn)).symm.trans g.2.2))
  · exact congrArg Host.Outcome.next (if_neg fun g => Bool.noConfusion ((congrArg not hr).symm.trans g.2.2))
  · exact congrArg Host.Outcome.next ((State.echoLocked_again ha hm hr _ rfl).trans
      (congrArg (fun v => State.wr _ _ v _) (if_pos hn)))
  · exact congrArg Host.Outcome.next ((State.echoLocked_again ha hm hr _ rfl).trans
      (congrArg (fun v => State.wr _ _ v _) ((if_neg fun g => Bool.noConfusion (g.symm.trans hn)).trans
        (if_pos (List.isEmpty_iff.2 hl)))))
  · exact congrArg Host.Outcome.next ((State.echoLocked_again ha hm hr _ rfl).trans
      (congrArg (fun v => State.wr _ _ v _) ((if_neg fun g => Bool.noConfusion (g.symm.trans hn)).trans
        (if_neg fun g => hl (List.isEmpty_iff.1 g)))))

end Sys2Proof.Machine
end

-- ==== Proofs: the recorder and the write floor (R462 to R471) ====
section
/-! PROOFS. What a checkpoint and an operating second write, and O46. -/
namespace Sys2Proof.Machine
open Sys2Proof
set_option Elab.async false

/-! ### Lifetime data (R463 to R465) -/

theorem Store.read_foldl_write {α : Type} [DecidableEq α] (d : Nat → α) (v : α) (n : Nat) (l : List Nat) (m : Store α)
    (h : n ∈ l ∨ Store.read d m n = v) : Store.read d (l.foldl (fun m n => Store.write d m n v) m) n = v := by
  induction l generalizing m with
  | nil => exact h.resolve_left List.not_mem_nil
  | cons k l ih =>
    refine ih _ ?_
    by_cases hk : n = k
    · exact .inr (hk ▸ Store.read_write_self ..)
    · exact h.imp (fun h => (List.mem_cons.1 h).resolve_left hk) (Store.read_write_ne _ _ _ hk).trans

section
variable {β : Type} (f : State → β) (hf : ∀ s a d, f { s with life := { s.life with acc := a, dramCorrections := d } } = f s)
include hf

theorem State.sample_same (s : State) (n k : Nat) : f (s.sample n k) = f s := hf s _ s.life.dramCorrections

/-- What an operating second leaves, but its count, the hottest temperature and the accumulators. -/
theorem State.endSecond_same (s : State) (v : LifeSample) : f (s.endSecond v) =
    f { s.countSecond with life := { s.countSecond.life with maxTemp := max s.countSecond.life.maxTemp v.hottest } } := by
  unfold State.endSecond
  extract_lets s1 ops l2 s2 s3 s4 s5 s6 s7 s8
  have h3 : f s3 = f s2 := State.sample_same f hf ..
  have h4 : f s4 = f s3 := foldl_same f _ fun u n => State.sample_same f hf ..
  have h5 : f s5 = f s4 := foldl_same f _ fun u n => iteInduction (motive := fun t => f t = f u)
    (fun _ => State.sample_same f hf ..) fun _ => rfl
  have h6 : f s6 = f s5 := foldl_same f _ fun u n => iteInduction (motive := fun t => f t = f u)
    (fun _ => State.sample_same f hf ..) fun _ => rfl
  have h7 : f s7 = f s6 := State.sample_same f hf ..
  refine Eq.trans ?_ (h7.trans (h6.trans (h5.trans (h4.trans h3))))
  refine iteInduction (motive := fun t => f t = f s7) (fun _ => ?_) fun _ => rfl
  exact (hf s8 s8.life.acc []).trans (foldl_same f _ fun u n => State.sample_same f hf ..)

end

theorem State.countSectors_same {β : Type} (f : State → β)
    (hf : ∀ s b n, f { s with life := { s.life with bins := b, samples := n } } = f s) (s : State) : f s.countSectors = f s := hf ..

theorem State.forceFlush_life (s : State) : s.forceFlush.life = s.life := State.raiseIf_life ..

theorem State.lifeInForce_one {s : State} (h : (s.lifeCopy 1).valid = true ∧
    ((s.lifeCopy 0).valid = false ∨ (s.lifeCopy 0).generation < (s.lifeCopy 1).generation)) : s.lifeInForce = 1 := if_pos h

theorem State.lifeInForce_zero {s : State} (h : ¬((s.lifeCopy 1).valid = true ∧
    ((s.lifeCopy 0).valid = false ∨ (s.lifeCopy 0).generation < (s.lifeCopy 1).generation))) : s.lifeInForce = 0 := if_neg h

theorem State.lifeGeneration_of_copies {s t : State} (h : t.life.copies = s.life.copies) : t.lifeGeneration = s.lifeGeneration := by
  have hc (k : Nat) : t.lifeCopy k = s.lifeCopy k := congrArg (fun m => Store.read (fun _ => LifeCopy.init) m k) h
  have hk : t.lifeInForce = s.lifeInForce := by
    by_cases h1 : (s.lifeCopy 1).valid = true ∧
      ((s.lifeCopy 0).valid = false ∨ (s.lifeCopy 0).generation < (s.lifeCopy 1).generation)
    · exact (State.lifeInForce_one (by rwa [hc, hc])).trans (State.lifeInForce_one h1).symm
    · exact (State.lifeInForce_zero (by rwa [hc, hc])).trans (State.lifeInForce_zero h1).symm
  unfold State.lifeGeneration
  rw [hk, hc]

/-- A copy written over the one that is not in force, with the next generation, is in force. -/
theorem State.lifeGeneration_of_written {s t : State} {c : LifeCopy} (hc : c.valid = true)
    (hg : c.generation = if (s.lifeCopy s.lifeInForce).valid then (s.lifeCopy s.lifeInForce).generation + 1 else 1)
    (ht : t.life.copies = Store.write (fun _ => LifeCopy.init) s.life.copies
      (if (s.lifeCopy s.lifeInForce).valid then 1 - s.lifeInForce else s.lifeInForce) c) :
    t.lifeGeneration = s.lifeGeneration + 1 := by
  have hsame {k : Nat} (h : (if (s.lifeCopy s.lifeInForce).valid then 1 - s.lifeInForce else s.lifeInForce) = k) :
      t.lifeCopy k = c := by
    rw [State.lifeCopy, ht, h, Store.read_write_self]
  have hne {k : Nat} (i : Nat) (h : (if (s.lifeCopy s.lifeInForce).valid then 1 - s.lifeInForce else s.lifeInForce) = k)
      (hi : i ≠ k) : t.lifeCopy i = s.lifeCopy i := by
    rw [State.lifeCopy, ht, h, Store.read_write_ne _ _ _ hi, State.lifeCopy]
  unfold State.lifeGeneration
  by_cases h1 : (s.lifeCopy 1).valid = true ∧
    ((s.lifeCopy 0).valid = false ∨ (s.lifeCopy 0).generation < (s.lifeCopy 1).generation)
  · have hk := State.lifeInForce_one h1
    simp only [hk, h1.1, if_true, Nat.sub_self] at hg hsame hne ⊢
    have ht0 : t.lifeInForce = 0 := State.lifeInForce_zero (by
      rw [hsame rfl, hne 1 rfl (by decide), hc, hg]
      rintro ⟨-, h | h⟩
      · exact Bool.noConfusion h
      · omega)
    rw [ht0, hsame rfl, hc, hg, if_pos rfl]
  · have hk := State.lifeInForce_zero h1
    cases hv : (s.lifeCopy 0).valid with
    | true =>
      simp only [hk, hv, if_true, Nat.sub_zero] at hg hsame hne ⊢
      have ht1 : t.lifeInForce = 1 := State.lifeInForce_one (by
        rw [hsame rfl, hne 0 rfl (by decide), hc, hg]
        exact ⟨rfl, .inr (Nat.lt_succ_self _)⟩)
      rw [ht1, hsame rfl, hc, hg, if_pos rfl]
    | false =>
      simp only [hk, hv, Bool.false_eq_true, if_false] at hg hsame hne ⊢
      have hb : ¬(s.lifeCopy 1).valid = true := fun hb => h1 ⟨hb, .inl hv⟩
      have ht0 : t.lifeInForce = 0 := State.lifeInForce_zero fun h => hb (hne 1 rfl (by decide) ▸ h.1)
      rw [ht0, hsame rfl, hc, hg, if_pos rfl]

theorem State.takeCheckpoint_spec (s : State) : s.takeCheckpoint.life.due = false ∧
    s.takeCheckpoint.life.lastCheckpoint = s.life.opSeconds ∧ s.takeCheckpoint.life.acc = [] ∧
    s.takeCheckpoint.life.checkpoints = (s.life.checkpoints + 1) % 2 ^ 32 ∧ s.takeCheckpoint.life.opSeconds = s.life.opSeconds ∧
    s.takeCheckpoint.lifeGeneration = s.lifeGeneration + 1 := by
  have hl := s.forceFlush_life
  unfold State.takeCheckpoint
  generalize s.forceFlush = u at hl ⊢
  have hacc : u.flushHistograms.countSectors.life.acc = [] :=
    State.countSectors_same (fun t => t.life.acc) (fun _ _ _ => rfl) u.flushHistograms
  have hops : u.flushHistograms.countSectors.life.opSeconds = u.life.opSeconds :=
    State.countSectors_same (fun t => t.life.opSeconds) (fun _ _ _ => rfl) u.flushHistograms
  have hcount : u.flushHistograms.countSectors.life.checkpoints = u.life.checkpoints :=
    State.countSectors_same (fun t => t.life.checkpoints) (fun _ _ _ => rfl) u.flushHistograms
  have hcopies : u.flushHistograms.countSectors.life.copies = u.life.copies :=
    State.countSectors_same (fun t => t.life.copies) (fun _ _ _ => rfl) u.flushHistograms
  rw [hl] at hops hcount hcopies
  generalize u.flushHistograms.countSectors = v at hacc hops hcount hcopies ⊢
  extract_lets l0 l1 l k gen target c w
  have hw : (w.raise Event.CHECKPOINT_DONE gen l.opSeconds).life.copies
    = Store.write (fun _ => LifeCopy.init) v.life.copies target c := rfl
  exact ⟨rfl, hops, hacc, congrArg (fun n => (n + 1) % 2 ^ 32) hcount, hops,
    (State.lifeGeneration_of_written (c := c) rfl rfl hw).trans (congrArg (· + 1) (State.lifeGeneration_of_copies hcopies))⟩

theorem State.flushHistograms_spec (s : State) : s.flushHistograms = { s with life := s.flushHistograms.life } ∧
    s.flushHistograms.life.acc = [] ∧ s.flushHistograms.life.opSeconds = s.life.opSeconds ∧
    ∀ n, n < 12 → Store.read (fun _ => 0) s.flushHistograms.life.lastFlush n = s.life.opSeconds :=
  ⟨rfl, rfl, rfl, fun _ hn => Store.read_foldl_write _ _ _ _ _ (.inl (List.mem_range.2 hn))⟩

/-! ### Sealed exports (R462) -/

section
variable {s : State} {nonce : List Byte}

theorem State.sealExport_keyless (h : s.derives (s.rd Dict.RECORDER_EXPORT_SLOT) = false) :
    s.sealExport nonce = .refused (.atField 0xC0 0x3800 8) s := by
  have e : (!s.derives (s.rd Dict.RECORDER_EXPORT_SLOT)) = true := congrArg not h
  simp only [State.sealExport, firstOf_cons_true e]

section
variable {from_ n : Nat} (hf : s.rd Dict.RECORDER_EXPORT_FROM = from_) (hn : s.rd Dict.RECORDER_EXPORT_COUNT = n)
  (h : s.derives (s.rd Dict.RECORDER_EXPORT_SLOT) = true)
include hf hn h

theorem State.sealExport_absent (hr : s.ev.ring = [] ∨ (s.newestRec + 2 ^ 32 - s.oldestRec) % 2 ^ 32 + 1 <
      (from_ + 2 ^ 32 - s.oldestRec) % 2 ^ 32 + n) : s.sealExport nonce = .refused (.atField 0xC1 0x3800 9) s := by
  have e1 : (!s.derives (s.rd Dict.RECORDER_EXPORT_SLOT)) = false := congrArg not h
  have e2 : (s.ev.ring.isEmpty || decide ((s.newestRec + 2 ^ 32 - s.oldestRec) % 2 ^ 32 + 1 <
      (from_ + 2 ^ 32 - s.oldestRec) % 2 ^ 32 + n)) = true :=
    Bool.or_eq_true_iff.2 (hr.imp List.isEmpty_iff.2 decide_eq_true)
  simp only [State.sealExport, hf, hn, firstOf_cons_false e1, firstOf_cons_true e2]

theorem State.sealExport_made (hr : s.ev.ring ≠ []) (hs : (from_ + 2 ^ 32 - s.oldestRec) % 2 ^ 32 + n ≤
      (s.newestRec + 2 ^ 32 - s.oldestRec) % 2 ^ 32 + 1) : s.sealExport nonce = .done
    (((s.wrDom Dict.RECORDER_EXPORT (s.exportBody from_ n ++ hmac16 (kdf (s.keyOf (s.rd Dict.RECORDER_EXPORT_SLOT)) (ascii "REC") nonce)
      (s.exportBody from_ n))).inc Dict.RECORDER_EXPORTS).raise Event.EXPORT_SEALED from_ n) := by
  have e1 : (!s.derives (s.rd Dict.RECORDER_EXPORT_SLOT)) = false := congrArg not h
  have e2 : (s.ev.ring.isEmpty || decide ((s.newestRec + 2 ^ 32 - s.oldestRec) % 2 ^ 32 + 1 <
      (from_ + 2 ^ 32 - s.oldestRec) % 2 ^ 32 + n)) = false :=
    Bool.or_eq_false_iff.2 ⟨Bool.eq_false_iff.2 fun g => hr (List.isEmpty_iff.1 g), decide_eq_false hs.not_gt⟩
  simp only [State.sealExport, hf, hn, firstOf_cons_false e1, firstOf_cons_false e2]
  rfl

end

end

/-! ### The write floor (R466 to R471) -/

/-- The floor's cause noted, as every report that a supply is low does. -/
def State.noteFloor (s : State) (r : Rails) : State :=
  ({ s with keys := { s.keys with glitchArmed := false }, supply := { s.supply with goodSince := 0 } } : State).wr
    Dict.SUPPLY_FLOOR_CAUSE (floorCause r)

/-- The floor's state and its counters as it is entered. -/
def State.countFloor (s : State) : State :=
  let w := ((s.wr Dict.SUPPLY_FLOOR_STATE 1).inc Dict.SUPPLY_FLOOR_ENTRIES).wr Dict.SUPPLY_LAST_FLOOR_S s.life.opSeconds
  { w with supply := { w.supply with floorAt := w.now, heldSincePorst := !w.alive } }

section
variable {s : State} {r : Rails}

theorem State.enterFloor_none (h : floorCause r = 0) : s.enterFloor r = s.showRails r := if_pos h

theorem State.enterFloor_again (h : floorCause r ≠ 0) (hs : ((s.showRails r).noteFloor r).rd Dict.SUPPLY_FLOOR_STATE = 2) :
    s.enterFloor r = ((s.showRails r).noteFloor r).wr Dict.SUPPLY_FLOOR_STATE 1 := by
  refine (if_neg h).trans ?_
  dsimp only
  split
  · next h0 => exact absurd (hs.symm.trans h0) (by decide)
  · rfl
  · next h0 h2 => exact absurd hs h2

theorem State.enterFloor_held (h : floorCause r ≠ 0) (hs : ((s.showRails r).noteFloor r).rd Dict.SUPPLY_FLOOR_STATE = 1) :
    s.enterFloor r = (s.showRails r).noteFloor r := by
  refine (if_neg h).trans ?_
  dsimp only
  split
  · next h0 => exact absurd (hs.symm.trans h0) (by decide)
  · next h2 => exact absurd (hs.symm.trans h2) (by decide)
  · rfl

theorem State.enterFloor_first (h : floorCause r ≠ 0) (hs : ((s.showRails r).noteFloor r).rd Dict.SUPPLY_FLOOR_STATE = 0)
    (z : State) (hz : z = ((s.showRails r).noteFloor r).countFloor) : s.enterFloor r = if z.alive then (z.raiseBy
      (if r.pwrFail then pinSource else z.actor) Event.WRITE_FLOOR_ENTERED (floorCause r)
        ((s.showRails r).noteFloor r).ev.deferred.length).abandonKeyWrite.abandonStore else z := by
  subst hz
  refine (if_neg h).trans ?_
  dsimp only
  split
  · rfl
  · next h2 => exact absurd (hs.symm.trans h2) (by decide)
  · next h0 h2 => exact absurd hs h0

/-- The judgement of the supplies while the floor holds. -/
theorem State.railsGood_held {b : State} (hb : s.showRails r = b) (ha : b.alive = true)
    (hs : b.rd Dict.SUPPLY_FLOOR_STATE = 1 ∨ b.rd Dict.SUPPLY_FLOOR_STATE = 2) : s.railsGood r =
    if railsFit r = false then { b.wr Dict.SUPPLY_FLOOR_STATE 1 with supply := { b.supply with goodSince := 0 } }
    else if b.supply.goodSince = 0 then { b.wr Dict.SUPPLY_FLOOR_STATE 2 with supply := { b.supply with goodSince := b.now + 1 } }
    else if b.since b.supply.goodSince 50000000 then b.resumeWrites else b := by
  subst hb
  exact if_neg fun g => g.elim (fun g => Bool.noConfusion (g.symm.trans ha)) fun g => hs.elim g.1 g.2

theorem State.showRails_spec (s : State) (r : Rails) : (s.showRails r).rd Dict.SUPPLY_VNVM = r.vnvm % 65536 ∧
    (s.showRails r).rd Dict.SUPPLY_VIO18 = r.vio18 % 65536 ∧ (s.showRails r).rd Dict.SUPPLY_VCTL = r.vctl % 65536 ∧
    (s.showRails r).rd Dict.SUPPLY_PWR_FAIL = r.pwrFail.toNat := by
  refine ⟨?_, ?_, ?_, (State.wr_rd ..).trans (Nat.mod_eq_of_lt (by cases r.pwrFail <;> decide))⟩
  · exact (State.wr_rd_ne _ _ _ _ _ _ _ _ (by decide)).trans ((State.wr_rd_ne _ _ _ _ _ _ _ _ (by decide)).trans
      ((State.wr_rd_ne _ _ _ _ _ _ _ _ (by decide)).trans (State.wr_rd ..)))
  · exact (State.wr_rd_ne _ _ _ _ _ _ _ _ (by decide)).trans ((State.wr_rd_ne _ _ _ _ _ _ _ _ (by decide)).trans (State.wr_rd ..))
  · exact (State.wr_rd_ne _ _ _ _ _ _ _ _ (by decide)).trans (State.wr_rd ..)

end

/-- Settles O46: the branches of each command, with what a checkpoint writes and what an operating second leaves. -/
theorem recorderAndWriteFloor : Obligations.RecorderAndWriteFloor := by
  unfold Obligations.RecorderAndWriteFloor
  refine ⟨fun s k nonce hp => ⟨fun h => ?_, fun h hr => ?_, fun h hr hs => ?_⟩,
    fun s ha => ⟨fun hf hd => ?_, fun hf => ?_, fun hd hl => ?_⟩,
    fun s v => ⟨fun h => ?_, fun h => ?_, fun hp ha ht => ?_, fun hp ha ht => ⟨(s.begin).endSecond v, ?_, ?_, ?_, ?_, ?_, ?_, ?_⟩⟩,
    fun s ha => ⟨fun hy => ?_, fun hy => ⟨_, ?_, s.begin.flushHistograms_spec⟩⟩,
    fun s r => ⟨fun h => ?_, fun h hs => ⟨fun ha => ?_, fun ha => ?_⟩, fun h hs => ?_, fun h hs => ?_⟩,
    fun s r => ⟨fun h => ?_, fun ha hs => ⟨fun hf => ?_, fun hf hg => ?_, fun hf hg hn => ?_, fun hf hg hn => ?_⟩⟩,
    State.showRails_spec, State.takeCheckpoint_spec, fun s k v hp => ⟨fun h => ?_, fun h => ?_⟩⟩
  · exact congrArg Host.Outcome.next (State.writeBlock_refuses hp (State.sealExport_keyless h))
  · exact congrArg Host.Outcome.next (State.writeBlock_refuses hp (State.sealExport_absent rfl rfl h hr))
  · exact congrArg Host.Outcome.next (State.writeBlock_accepts hp (State.sealExport_made rfl rfl h hr hs))
  · exact congrArg Host.Outcome.next (if_pos ⟨ha, congrArg not hf, hd⟩)
  · exact congrArg Host.Outcome.next (if_neg fun g => Bool.noConfusion ((congrArg not hf).symm.trans g.2.1))
  · exact congrArg Host.Outcome.next (if_neg fun g => g.2.2.elim (fun g => Bool.noConfusion (hd.symm.trans g)) hl.not_ge)
  · exact congrArg Host.Outcome.next (if_neg fun g => h.not_ge g.2)
  · exact congrArg Host.Outcome.next (if_neg fun g => Bool.noConfusion (h.symm.trans g.1))
  · exact congrArg Host.Outcome.next ((if_pos ⟨hp, ht⟩).trans (if_neg fun g => Bool.noConfusion (ha.symm.trans g)))
  · exact congrArg Host.Outcome.next ((if_pos ⟨hp, ht⟩).trans (if_pos ha))
  · exact s.begin.endSecond_same (fun t => t.life.opSeconds) (fun _ _ _ => rfl) v
  · exact s.begin.endSecond_same (fun t => t.life.maxTemp) (fun _ _ _ => rfl) v
  · exact s.begin.endSecond_same (fun t => t.life.secondAt) (fun _ _ _ => rfl) v
  · exact s.begin.endSecond_same (fun t => t.life.bins) (fun _ _ _ => rfl) v
  · exact s.begin.endSecond_same State.regs (fun _ _ _ => rfl) v
  · exact s.begin.endSecond_same State.ev (fun _ _ _ => rfl) v
  · exact congrArg Host.Outcome.next (if_neg fun g => Bool.noConfusion (hy.symm.trans g.2))
  · exact congrArg Host.Outcome.next (if_pos ⟨ha, hy⟩)
  · exact congrArg Host.Outcome.next (State.enterFloor_none h)
  · exact congrArg Host.Outcome.next ((State.enterFloor_first h hs _ rfl).trans (if_pos ha))
  · exact congrArg Host.Outcome.next ((State.enterFloor_first h hs _ rfl).trans (if_neg fun g => Bool.noConfusion (ha.symm.trans g)))
  · exact congrArg Host.Outcome.next (State.enterFloor_again h hs)
  · exact congrArg Host.Outcome.next (State.enterFloor_held h hs)
  · exact congrArg Host.Outcome.next (if_pos h)
  · exact congrArg Host.Outcome.next ((State.railsGood_held rfl ha hs).trans (if_pos hf))
  · exact congrArg Host.Outcome.next ((State.railsGood_held rfl ha hs).trans ((if_neg fun g => Bool.noConfusion (hf.symm.trans g)).trans
      (if_pos hg)))
  · exact congrArg Host.Outcome.next ((State.railsGood_held rfl ha hs).trans ((if_neg fun g => Bool.noConfusion (hf.symm.trans g)).trans
      ((if_neg hg).trans (if_pos (Bool.and_eq_true_iff.2 ⟨bne_iff_ne.2 hg, decide_eq_true hn⟩)))))
  · exact congrArg Host.Outcome.next ((State.railsGood_held rfl ha hs).trans ((if_neg fun g => Bool.noConfusion (hf.symm.trans g)).trans
      ((if_neg hg).trans (if_neg fun g => hn.not_ge (of_decide_eq_true (Bool.and_eq_true_iff.1 g).2)))))
  · exact congrArg Host.Outcome.next (State.writeScalar_refuses hp (if_pos h))
  · exact congrArg Host.Outcome.next (State.writeScalar_accepts hp (if_neg fun g => Bool.noConfusion (h.symm.trans g)))

end Sys2Proof.Machine
end

-- ==== Proofs: reset and start-up (R478 to R494) ====
section
/-! PROOFS. What a reset keeps and what LOAD leaves of its beginning, and O49. -/
namespace Sys2Proof.Machine
open Sys2Proof
set_option Elab.async false

/-! ### The TAP (R509) -/

/-- Bits 27:12 of a word of 4, 16, 11 and 1 bits are the part of 16. -/
theorem extractLsb_of_parts (r : BitVec 4) (p : BitVec 16) (j : BitVec 11) (l : BitVec 1) :
    (r ++ p ++ j ++ l : BitVec 32).extractLsb 27 12 = p := by
  apply BitVec.eq_of_getLsbD_eq
  intro i hi
  have h1 : ¬ 12 + i < 1 := by omega
  have h2 : ¬ 12 + i - 1 < 11 := by omega
  have h4 : 12 + i - 1 - 11 = i := by omega
  simp only [BitVec.getLsbD_extractLsb, BitVec.getLsbD_append, h1, h2, h4, if_false]
  rw [decide_eq_true hi, if_pos (show i < 16 from hi), Bool.true_and]

theorem TapState.next_reset (t : TapState) :
    (((((t.next true).next true).next true).next true).next true) = .testLogicReset := by
  cases t <;> rfl

theorem State.tapClock_state (s : State) (h : s.tap.trstN = true) (tms tdi : Bool) :
    (s.tapClock tms tdi).tap.state = s.tap.state.next tms ∧ (s.tapClock tms tdi).tap.trstN = true := by
  unfold State.tapClock
  rw [if_pos h]
  refine ⟨rfl, ?_⟩
  dsimp only
  split
  case h_3 => exact iteInduction (motive := fun t : Tap => t.trstN = true) (fun _ => h) fun _ => h
  all_goals exact h

/-! ### Reset (R479, R486) -/

theorem State.tellAlert_eq (s : State) (was : Bool) : ∃ w, s.tellAlert was = { s with wire := w } :=
  iteInduction (motive := fun t : State => ∃ w, t = { s with wire := w }) (fun _ => ⟨s.wire, rfl⟩) fun _ => ⟨_, rfl⟩

theorem State.loadLife_eq (s : State) : ∃ l x, s.loadLife = { s with life := l, resil := x } ∧ l.copies = s.life.copies :=
  iteInduction (motive := fun t : State => ∃ l x, t = { s with life := l, resil := x } ∧ l.copies = s.life.copies)
    (fun _ => ⟨_, _, rfl, rfl⟩) fun _ => ⟨_, s.resil, rfl, rfl⟩

/-- What a reset clears, before the floor's state, the lifetime data and the alert pin are judged. -/
theorem State.clearVolatile_eq (s : State) : ∃ (u : State) (was : Bool),
    s.clearVolatile = (if u.rd Dict.SUPPLY_FLOOR_STATE = 2 then u.wr Dict.SUPPLY_FLOOR_STATE 1 else u).loadLife.tellAlert was ∧ u.regs = s.regs.filter (fun e => keptReg e.1) ∧
    u.now = s.now ∧ u.pending = s.pending ∧ u.ev.ring = s.ev.ring ∧ u.copy0 = s.copy0 ∧ u.copy1 = s.copy1 ∧
    u.keys.fuses = s.keys.fuses ∧ u.keys.lifecycle = s.keys.lifecycle ∧ u.life.copies = s.life.copies ∧
    u.dram.host = [] ∧ u.ev.queue = [] ∧ u.doms = [] ∧ u.sess = State.reset.sess ∧ u.staging = none :=
  ⟨_, _, rfl, rfl, rfl, rfl, rfl, rfl, rfl, rfl, rfl, rfl, rfl, rfl, rfl, rfl, rfl⟩

theorem State.clearVolatile_spec (s : State) : let t := s.clearVolatile
    t.now = s.now ∧ t.pending = s.pending ∧ t.ev.ring = s.ev.ring ∧ t.copy0 = s.copy0 ∧ t.copy1 = s.copy1 ∧
    t.keys.fuses = s.keys.fuses ∧ t.keys.lifecycle = s.keys.lifecycle ∧ t.life.copies = s.life.copies ∧
    t.dram.host = [] ∧ t.ev.queue = [] ∧ t.doms = [] ∧ t.sess = State.reset.sess ∧ t.staging = none ∧
    (∀ key, keptReg key = false → t.regAt key = dictDefault key) := by
  obtain ⟨u, was, ht, hregs, hu⟩ := s.clearVolatile_eq
  have hv := ite_eq_or_eq (u.rd Dict.SUPPLY_FLOOR_STATE = 2) (u.wr Dict.SUPPLY_FLOOR_STATE 1) u
  generalize (if u.rd Dict.SUPPLY_FLOOR_STATE = 2 then u.wr Dict.SUPPLY_FLOOR_STATE 1 else u) = v at ht hv
  obtain ⟨l, x, hl, hcopies⟩ := v.loadLife_eq
  obtain ⟨w, hw⟩ := v.loadLife.tellAlert_eq was
  rw [hl] at hw
  rw [ht, hl, hw]
  obtain ⟨r, hr, hkeep⟩ : ∃ r, v = { u with regs := r } ∧ ∀ key, keptReg key = false → Store.read dictDefault r key = dictDefault key := by
    have h0 (key : Nat) (hk : keptReg key = false) : Store.read dictDefault u.regs key = dictDefault key := by
      rw [hregs, Store.read_filter, hk]; rfl
    rcases hv with rfl | rfl
    · refine ⟨_, rfl, fun key hk => (Store.read_write_ne _ _ _ ?_).trans (h0 key hk)⟩
      rintro rfl
      exact absurd hk (by decide)
    · exact ⟨v.regs, rfl, h0⟩
  subst hr
  obtain ⟨h1, h2, h3, h4, h5, h6, h7, h8, h9, h10, h11, h12, h13⟩ := hu
  exact ⟨h1, h2, h3, h4, h5, h6, h7, hcopies.trans h8, h9, h10, h11, h12, h13, hkeep⟩

/-! ### What start-up keeps of the release of PORST_N (R483, R484) -/

/-- What a release of PORST_N settles: the straps, the boot's cause and instant, the timebase and the power cycle. -/
def State.bootView (s : State) : Bool × Nat × Nat × Nat × Nat × Nat :=
  (s.dev.porstN, s.dev.straps, s.dev.bootAt, s.dev.bootCause, s.timebase, s.life.cycles)

/-- `t` has that of `r`, and its event queue with entries put before it at most. -/
structure KeepsBoot (r t : State) : Prop where
  view : t.bootView = r.bootView
  queue : Grew r t

theorem KeepsBoot.refl (s : State) : KeepsBoot s s := ⟨rfl, .of s s rfl⟩

theorem Grew.trans {s u t : State} (h : Grew s u) (g : Grew u t) : Grew s t := by
  obtain h | ⟨new, h⟩ := h
  · exact g.imp (·.trans h) (h ▸ ·)
  · obtain g | ⟨newer, g⟩ := g
    · exact .inr ⟨new, g.trans h⟩
    · exact .inr ⟨newer ++ new, g.trans (h ▸ take_append_take newer new s.ev.queue 32768)⟩

/-- An event raised before stays raised. -/
theorem KeepsBoot.raised {s r t : State} {d : EventDef} {a b : Nat} (h : KeepsBoot r t) (hr : Safety.raised s r d a b) :
    Safety.raised s t d a b := by
  obtain ⟨new, hnew, e, he, hfields⟩ := hr
  obtain hsame | ⟨newer, hgrew⟩ := h.queue
  · exact ⟨new, hsame.trans hnew, e, he, hfields⟩
  · refine ⟨newer ++ new, ?_, e, List.mem_append_right _ he, hfields⟩
    rw [hgrew, hnew]
    exact take_append_take newer new s.ev.queue 32768

section
variable {r s t : State} (h : KeepsBoot r s)

theorem KeepsBoot.ite {c : Prop} [Decidable c] {a b : State} (ha : KeepsBoot r a) (hb : KeepsBoot r b) :
    KeepsBoot r (if c then a else b) := iteInduction (motive := KeepsBoot r) (fun _ => ha) fun _ => hb

theorem KeepsBoot.iteNeg {c : Prop} [Decidable c] {a b : State} (hc : ¬c) (hb : KeepsBoot r b) :
    KeepsBoot r (if c then a else b) := iteInduction (motive := KeepsBoot r) (fun g => absurd g hc) fun _ => hb

theorem KeepsBoot.itePos {c : Prop} [Decidable c] {a b : State} (hc : c) (ha : KeepsBoot r a) :
    KeepsBoot r (if c then a else b) := iteInduction (motive := KeepsBoot r) (fun _ => ha) fun g => absurd hc g

include h

/-- An update that touches none of the fields. -/
theorem KeepsBoot.update (hv : t.bootView = s.bootView) (hq : t.ev.queue = s.ev.queue) : KeepsBoot r t :=
  ⟨hv.trans h.view, h.queue.trans_eq hq⟩

theorem KeepsBoot.wr {e : EntryDef} {v n k : Nat} : KeepsBoot r (s.wr e v n k) := h.update rfl rfl

theorem KeepsBoot.raise {d : EventDef} {a b : Nat} : KeepsBoot r (s.raise d a b) := ⟨h.view, h.queue.raise ..⟩

theorem KeepsBoot.raiseWithLife {d : EventDef} {a b : Nat} {l : Lifetime} (hl : l.cycles = s.life.cycles) :
    KeepsBoot r { s.raise d a b with life := l } :=
  ⟨(congrArg (fun n => (s.dev.porstN, s.dev.straps, s.dev.bootAt, s.dev.bootCause, s.timebase, n)) hl).trans h.view,
    h.queue.raise ..⟩

theorem KeepsBoot.raiseBy {x : Nat} {d : EventDef} {a b : Nat} : KeepsBoot r (s.raiseBy x d a b) := ⟨h.view, h.queue.raise ..⟩

theorem KeepsBoot.raiseIf {c : Bool} {d : EventDef} {a b : Nat} : KeepsBoot r (s.raiseIf c d a b) := .ite h.raise h

theorem KeepsBoot.foldl {α : Type} {g : State → α → State} {l : List α} (hg : ∀ u a, KeepsBoot r u → KeepsBoot r (g u a)) :
    KeepsBoot r (l.foldl g s) :=
  List.foldlRecOn (motive := KeepsBoot r) l _ h fun u hu a _ => hg u a hu

/-! #### The patch map (R388, R389) -/

theorem KeepsBoot.countEngines : KeepsBoot r s.countEngines := by
  unfold State.countEngines
  extract_lets s1 s2 s3 s4
  have hs4 : KeepsBoot r s4 := (h.foldl fun _ _ h1 => h1.wr).wr.wr.wr
  exact hs4.foldl fun _ _ h1 => h1.wr

theorem KeepsBoot.setLane {l : Nat} {st : LaneState} : KeepsBoot r (s.setLane l st) := by
  have hm (f : Lane → Lane) : KeepsBoot r (s.modLane l f) := .ite (h.update rfl rfl) (h.update rfl rfl)
  unfold State.setLane
  extract_lets u
  have hu : KeepsBoot r u := hm _
  exact .ite hu.wr hu

theorem KeepsBoot.modEngine {k : Nat} {f : Engine → Engine} : KeepsBoot r (s.modEngine k f) := h.update rfl rfl

theorem KeepsBoot.setTaken {k v : Nat} : KeepsBoot r (s.setTaken k v) := h.update rfl rfl

theorem KeepsBoot.setIdle {k : Nat} {v : Bool} : KeepsBoot r (s.setIdle k v) := h.update rfl rfl

theorem KeepsBoot.bringIn {kind unit spare : Nat} : KeepsBoot r (s.bringIn kind unit spare) := by
  unfold State.bringIn
  extract_lets base place u
  split
  · exact h.modEngine
  · exact .ite h.setTaken h.setIdle
  · exact h.setTaken.setIdle
  · exact h.setTaken.setTaken.setIdle
  · exact h.setTaken.setIdle
  · exact h

theorem KeepsBoot.applyPatch {p : Patch} : KeepsBoot r (s.applyPatch p) := by
  unfold State.applyPatch
  extract_lets _ _ u spare v _ w _ _ x
  have hu : KeepsBoot r u := h.update rfl rfl
  have hv : KeepsBoot r v := hu.modEngine
  have hw : KeepsBoot r w := hu.setLane
  have hx : KeepsBoot r x := .ite hu.setIdle hu
  clear_value u v w x spare
  split
  · cases spare with
    | some y => exact .ite hv hv.bringIn
    | none => exact hv
  · exact hu.update rfl rfl
  · exact hu.update rfl rfl
  · cases spare with
    | some y => exact hw.update rfl rfl
    | none => exact hw
  · exact hu.setLane
  · cases spare with
    | some y => exact .ite hx hx.bringIn
    | none => exact .ite (hx.update rfl rfl) hx

theorem KeepsBoot.loadPatches : KeepsBoot r s.loadPatches := by
  unfold State.loadPatches
  extract_lets s1
  have hs1 : KeepsBoot r s1 := (h.foldl fun _ _ h1 => h1.applyPatch).countEngines
  exact hs1.foldl fun _ _ h1 => .ite (h1.update rfl rfl) h1

/-! #### A key slot that fails (R390, R438, R439) -/

theorem KeepsBoot.putWeight {u : Nat} {w : Weight} : KeepsBoot r (s.putWeight u w) := h.update rfl rfl

theorem KeepsBoot.noteExhausted {kind before : Nat} : KeepsBoot r (s.noteExhausted kind before) := by
  unfold State.noteExhausted
  extract_lets _ _ s1
  have hs1 : KeepsBoot r s1 := h.update rfl rfl
  exact hs1.raiseIf

theorem KeepsBoot.recordPatch {kind unit spare : Nat} {noSpare : Bool} {cause weight : Nat} :
    KeepsBoot r (s.recordPatch kind unit spare noSpare cause weight) := by
  unfold State.recordPatch
  split
  · refine KeepsBoot.raise ?_
    exact h.update rfl rfl
  · refine KeepsBoot.raiseIf ?_
    exact h.update rfl rfl

theorem KeepsBoot.reportRetired {kind unit : Nat} {idle : Bool} {spare : Option Nat} {cause freeBefore : Nat} (hk : kind ≠ 3) :
    KeepsBoot r (s.reportRetired kind unit idle spare cause freeBefore) := by
  unfold State.reportRetired
  extract_lets _ _ _ s1 s2 _ _ s3 s4 s5 _ s6 s7
  have hs1 : KeepsBoot r s1 := h.update rfl rfl
  have hs2 : KeepsBoot r s2 := (hs1.putWeight).countEngines
  have hs3 : KeepsBoot r s3 := hs2.update rfl rfl
  have hs4 : KeepsBoot r s4 := .iteNeg (fun g => hk g.2) hs3
  have hs5 : KeepsBoot r s5 := hs4.raise
  have hs6 : KeepsBoot r s6 := by
    unfold s6
    split
    · extract_lets applied s8
      have hs8 : KeepsBoot r s8 := hs5.raiseWithLife rfl
      exact .ite hs8.raise hs8
    · exact hs5.raiseIf
  have hs7 : KeepsBoot r s7 := hs6.noteExhausted
  exact hs7.recordPatch

theorem KeepsBoot.retireSlot {unit cause : Nat} : KeepsBoot r (s.retire 10 unit cause) := by
  unfold State.retire
  extract_lets idle free spare
  clear_value spare
  cases spare with
  | some x => exact .itePos rfl (.ite (h.reportRetired (by decide)) h)
  | none => exact h.reportRetired (by decide)

theorem KeepsBoot.permanentOneSlot {unit cause : Nat} : KeepsBoot r (s.permanentOne 10 unit cause) := by
  unfold State.permanentOne
  extract_lets
  exact .ite h (.ite (.ite h.putWeight.raise (.ite h.putWeight h)) (.ite h (.iteNeg (fun g => Bool.noConfusion (show false = true from g))
    (.ite h.putWeight.raise h.retireSlot))))

theorem KeepsBoot.permanentSlot {unit cause : Nat} : KeepsBoot r (s.permanent 10 unit cause) := by
  unfold State.permanent
  extract_lets
  exact .ite h.permanentOneSlot (.iteNeg (fun g => absurd g.1 (by decide)) (.iteNeg (fun g => absurd g.1 (by decide)) h.permanentOneSlot))

theorem KeepsBoot.dropRights {k cause : Nat} : KeepsBoot r (s.dropRights k cause) := by
  have hp (k : Nat) (u : Sess) : KeepsBoot r (s.putSess k u) := h.update rfl rfl
  exact .ite (.ite (hp _ _).raise h) (hp _ _).raise

theorem KeepsBoot.reachEnd {cause : Nat} : KeepsBoot r (s.reachEnd cause) := by
  unfold State.reachEnd
  extract_lets _ _ u
  have hu : KeepsBoot r u := h.update rfl rfl
  exact .ite hu (.ite (hu.raise.raise.foldl fun _ _ h1 => h1.dropRights) hu)

theorem KeepsBoot.burnFuse : KeepsBoot r s.burnFuse := .ite (h.update rfl rfl) h.reachEnd

theorem KeepsBoot.putSlot {n : Nat} {v : Slot} : KeepsBoot r (s.putSlot n v) := h.update rfl rfl

theorem KeepsBoot.clearKeys : KeepsBoot r s.clearKeys := h.foldl fun _ _ h1 => .ite h1 h1.putSlot

theorem KeepsBoot.modGroup {g : Nat} {f : Group → Group} : KeepsBoot r (s.modGroup g f) := h.update rfl rfl

theorem KeepsBoot.tellUpstream : KeepsBoot r s.tellUpstream := by
  have ho {u : State} (i : WireItem) (h1 : KeepsBoot r u) : KeepsBoot r (u.out i) := h1.update rfl rfl
  exact h.foldl fun _ _ h1 => .ite (ho _ h1.modGroup) h1

theorem KeepsBoot.restartHdcp {g : Nat} : KeepsBoot r (s.restartHdcp g) := by
  unfold State.restartHdcp
  extract_lets
  exact h.modGroup.wr.tellUpstream

theorem KeepsBoot.judgeHdcp : KeepsBoot r s.judgeHdcp := by
  unfold State.judgeHdcp
  extract_lets _ _ u
  have hu : KeepsBoot r u := h.wr
  exact .ite (hu.foldl fun _ _ h1 => .ite h1.restartHdcp h1) hu

theorem KeepsBoot.judgeKeys : KeepsBoot r s.judgeKeys := by
  have hp : KeepsBoot r s.judgePtlKey := h.wr.raiseIf
  exact hp.judgeHdcp.foldl fun _ _ h1 => .ite h1.dropRights h1

theorem KeepsBoot.failSlot {n : Nat} : KeepsBoot r (s.failSlot n) := by
  unfold State.failSlot
  extract_lets _ _ u
  have hu : KeepsBoot r u := h.putSlot.raise
  have hf : KeepsBoot r (u.noteFault (unitCode 10 n)) := hu.putWeight
  exact .ite h hf.permanentSlot.judgeKeys

/-! #### Keys and configuration (R438, R449, R486) -/

theorem KeepsBoot.unwrapKeys {bad : List Nat} : KeepsBoot r (s.unwrapKeys bad) := by
  unfold State.unwrapKeys
  extract_lets _ _ u
  have hu : KeepsBoot r u := h.foldl fun _ _ h1 => h1.putSlot
  exact hu.foldl fun _ _ h1 => h1.failSlot

theorem KeepsBoot.loadKeys {bad : List Nat} {cap : Bool} : KeepsBoot r (s.loadKeys bad cap) := by
  unfold State.loadKeys
  extract_lets s1 k1 s2 s3 cleared k2 s4 k3 s5
  have hs1 : KeepsBoot r s1 := h.wr
  have hmark : KeepsBoot r { s1 with keys := { s1.keys with markOverwrite := false } } := hs1.update rfl rfl
  have hs2 : KeepsBoot r s2 := .ite hmark.burnFuse hs1
  have hs3 : KeepsBoot r s3 := hs2.raise
  have hcleared : KeepsBoot r cleared := hs3.clearKeys
  clear_value cleared k2
  have hs4 : KeepsBoot r s4 := .ite (hcleared.update rfl rfl) hs2
  have hs5 : KeepsBoot r s5 := hs4.update rfl rfl
  exact hs5.unwrapKeys.judgeHdcp

theorem KeepsBoot.chooseConfig {bad : List Nat} : KeepsBoot r (s.chooseConfig bad) := by
  unfold State.chooseConfig
  extract_lets c0 c1 s1 c source s2 d s3
  have hs1 : KeepsBoot r s1 := h.update rfl rfl
  have hs2 : KeepsBoot r s2 := hs1.wr
  have hs3 : KeepsBoot r s3 := .ite (hs2.update rfl rfl) hs2
  have hs4 : KeepsBoot r { s3 with dev := { s3.dev with autoSuppressed := true } } := hs3.update rfl rfl
  exact .ite hs4.raise hs3.raise

theorem KeepsBoot.milestone {i : Nat} : KeepsBoot r (s.milestone i) := .ite (h.update rfl rfl) h

theorem KeepsBoot.loadPcie : KeepsBoot r s.loadPcie := by
  have hd (l : List Nat) : KeepsBoot r { s with dev := { s.dev with subsystem := l } } := h.update rfl rfl
  exact (hd _).wr

theorem KeepsBoot.loadRing {torn bad : List Nat} : KeepsBoot r (s.loadRing torn bad) := by
  unfold State.loadRing
  extract_lets _ _ _ _ _ u
  have hu : KeepsBoot r u := h.update rfl rfl
  exact hu.foldl fun _ _ h1 => h1.raise

end

theorem State.countCycle_eq (s : State) (bad : List Nat) : ∃ l x, s.countCycle bad = { s with life := l, resil := x } := by
  obtain ⟨l, x, h, -⟩ := State.loadLife_eq ({ s with life := { s.life with
    copies := s.life.copies.map fun e => if bad.contains e.1 then (e.1, { e.2 with valid := false }) else e } } : State)
  exact ⟨_, x, congrArg (fun u : State => { u with life := { u.life with
    cycles := (u.life.cycles + 1) % 2 ^ 32, due := true, secondAt := u.now } }) h⟩

theorem State.beginLoad_spec (s : State) (straps : Nat) (f : LoadFound) :
    (s.beginLoad straps f).bootView = (true, straps, s.now, s.dev.nextCause, 0, (s.countCycle f.badLife).life.cycles) ∧
    Safety.raised s (s.beginLoad straps f) Event.STRAPS_SAMPLED straps s.dev.nextCause ∧
    Safety.raised s (s.beginLoad straps f) Event.DEVICE_STATE_CHANGED 1 0 := by
  obtain ⟨l, x, hc⟩ := s.countCycle_eq f.badLife
  unfold State.beginLoad
  generalize s.countCycle f.badLife = c at hc ⊢
  extract_lets s0 d s1 s2 v s3 s4 s5 source s6 s7 s8 s9
  have h1 : s1.bootView = (true, straps, s.now, s.dev.nextCause, 0, c.life.cycles) := by subst hc; rfl
  have hq : Grew s s1 := .of _ _ (by subst hc; rfl)
  have h2 : KeepsBoot s1 s2 := .ite (KeepsBoot.refl s1).wr (.refl s1)
  have h3 : KeepsBoot s1 s3 := h2.update rfl rfl
  have h5 : KeepsBoot s1 s5 := KeepsBoot.loadRing (h3.wr.wr : KeepsBoot s1 s4)
  have hcause : s5.dev.bootCause = s.dev.nextCause := congrArg (fun v => v.2.2.2.1) (h5.view.trans h1)
  have hgrew : Grew s s5 := hq.trans h5.queue
  have h7 : KeepsBoot s5 s7 := (KeepsBoot.refl s5).raiseBy.raiseBy
  have h9 : KeepsBoot s7 s9 := ((KeepsBoot.refl s7).foldl fun _ _ h => h.raise).loadPatches.loadKeys.chooseConfig
  have hlast : KeepsBoot s7 (s9.loadDram.loadPcie.milestone 0) :=
    (KeepsBoot.loadPcie (h9.update rfl rfl : KeepsBoot s7 s9.loadDram)).milestone
  have hstate : Safety.raised s s6 Event.DEVICE_STATE_CHANGED 1 0 := raised_last hgrew ..
  have hstraps : Safety.raised s s7 Event.STRAPS_SAMPLED straps s.dev.nextCause := hcause ▸ raised_last (hgrew.raise ..) ..
  exact ⟨(hlast.view.trans (h7.view.trans (h5.view.trans h1))), hlast.raised hstraps, hlast.raised (raised_then _ _ _ _ _ _ _ _ _ _ hstate)⟩

/-- A reset of a core whose fields before the clearing are those of `t`. -/
def State.lowered (s t : State) : State :=
  { t with dev := { t.dev with
    porstN := false, stopped := false, thermtripN := true, nextCause := if s.dev.stopped then 3 else 1 } }

theorem State.assertPorst_high {s : State} (h : s.dev.porstN = true) : s.assertPorst =
    if s.dev.stopped then (s.lowered (if s.dev.stopped then s else ((s.actBy 0xFE).enterState 0xFE 0).dropAll
      Config.resetCause)).clearVolatile.out (.pin pinThermtrip 0 1)
    else (s.lowered (if s.dev.stopped then s else ((s.actBy 0xFE).enterState 0xFE 0).dropAll
      Config.resetCause)).clearVolatile := if_pos h

theorem State.assertPorst_runs {s : State} (h : s.dev.porstN = true) (hs : s.dev.stopped = false) : s.assertPorst =
    (s.lowered (((s.actBy 0xFE).enterState 0xFE 0).dropAll Config.resetCause)).clearVolatile := by
  have hn : ¬s.dev.stopped = true := fun g => Bool.noConfusion (hs.symm.trans g)
  rw [State.assertPorst_high h, if_neg hn, if_neg hn]

theorem State.assertPorst_stopped {s : State} (h : s.dev.porstN = true) (hs : s.dev.stopped = true) :
    s.assertPorst = (s.lowered s).clearVolatile.out (.pin pinThermtrip 0 1) := by
  rw [State.assertPorst_high h, if_pos hs, if_pos hs]

theorem State.endLoad_due {s : State} (h : s.devState = 1 ∧ s.dev.dramDone = true) :
    let next := s.bootState
    let c := ((s.enterState 0xFF next).loadConfig).wr Dict.HENTIS_OSC_PRESENT 1
    let w := [0, 1, 2, 3].foldl (fun s k => s.openSess k) ({ c with hentis := { c.hentis with secondAt := c.now } } : State)
    let u := [0, 1].foldl (fun s i => if s.canUp i = true then s.bootUp i else s) w
    let v := u.raiseIf (u.dev.bootCause == 3) Event.THERMTRIP_SEEN u.life.cycles 0
    let z := if next = 3 then v.milestone 3 else v
    s.endLoad = { z with dev := { z.dev with
      standbyAt := z.now, autoTried := next != 3 || !z.flag Dict.DEVICE_STATE_AUTO_RUN || z.dev.autoSuppressed } } := by
  unfold State.endLoad
  rw [if_pos h]

theorem State.bootState_eq (s : State) : (field s.dev.straps 1 0 = 0 → s.bootState = 3) ∧ (field s.dev.straps 1 0 = 2 → s.bootState = 2) ∧
    (field s.dev.straps 1 0 = 1 ∨ field s.dev.straps 1 0 = 3 → s.bootState = 6) := by
  refine ⟨fun h => ?_, fun h => ?_, fun h => ?_⟩
  · simp [State.bootState, h]
  · simp [State.bootState, h]
  · obtain h | h := h <;> simp [State.bootState, h]

/-- Settles O49: the branches of reset and start-up, with what a reset keeps, what LOAD leaves of the release that began
it, and the TAP's way back to its reset state. -/
theorem resetAndStartUp : Obligations.ResetAndStartUp := by
  unfold Obligations.ResetAndStartUp
  refine ⟨fun s => ⟨fun h => ?_, fun h hs => ?_, fun h hs => ?_⟩, State.clearVolatile_spec,
    fun s straps f => ⟨fun h => ?_, fun h hs => ?_, fun h hs => ⟨s.begin.beginLoad straps f, ?_, ?_⟩⟩,
    fun s => ⟨fun h => ?_, fun h => ?_⟩, fun s engines banks => ⟨fun h hb => ?_, fun h => ?_⟩,
    fun s => ⟨fun h hd => ?_, fun h => ?_⟩, State.bootState_eq, ⟨extractLsb_of_parts .., ?_⟩, fun s tms tdi h => ?_,
    fun s d h => ?_, fun s => ⟨rfl, rfl, ?_, ?_⟩⟩
  · exact congrArg Host.Outcome.next (if_neg fun g => Bool.noConfusion (h.symm.trans g))
  · exact congrArg Host.Outcome.next (State.assertPorst_runs h hs)
  · exact congrArg Host.Outcome.next (State.assertPorst_stopped h hs)
  · exact congrArg Host.Outcome.next (if_pos h)
  · exact congrArg Host.Outcome.next ((if_neg fun g => Bool.noConfusion (h.symm.trans g)).trans (if_pos hs))
  · exact congrArg Host.Outcome.next ((if_neg fun g => Bool.noConfusion (h.symm.trans g)).trans
      (if_neg fun g => Bool.noConfusion (hs.symm.trans g)))
  · obtain ⟨hview, hraised⟩ := s.begin.beginLoad_spec straps f
    obtain ⟨hp, hview⟩ := Prod.ext_iff.1 hview
    obtain ⟨hstraps, hview⟩ := Prod.ext_iff.1 hview
    obtain ⟨hat, hview⟩ := Prod.ext_iff.1 hview
    obtain ⟨hcause, hview⟩ := Prod.ext_iff.1 hview
    obtain ⟨htime, hcycles⟩ := Prod.ext_iff.1 hview
    exact ⟨hp, hstraps, htime, hat, hcause, hcycles, hraised⟩
  · exact congrArg Host.Outcome.next (if_pos h)
  · exact congrArg Host.Outcome.next (if_neg fun g => Bool.noConfusion (h.symm.trans g))
  · exact congrArg Host.Outcome.next (if_pos ⟨h, hb⟩)
  · exact congrArg Host.Outcome.next (if_neg fun g => h.elim (· g.1) fun h => Bool.noConfusion (h.symm.trans g.2))
  · exact congrArg Host.Outcome.next (State.endLoad_due ⟨h, hd⟩)
  · exact congrArg Host.Outcome.next (if_neg fun g => h.elim (· g.1) fun h => Bool.noConfusion (h.symm.trans g.2))
  · exact (BitVec.getLsbD_append ..).trans rfl
  · exact congrArg State.tap (if_neg fun g => Bool.noConfusion (h.symm.trans g))
  · obtain ⟨e1, h1⟩ := s.tapClock_state h true (d 0)
    obtain ⟨e2, h2⟩ := (s.tapClock true (d 0)).tapClock_state h1 true (d 1)
    obtain ⟨e3, h3⟩ := ((s.tapClock true (d 0)).tapClock true (d 1)).tapClock_state h2 true (d 2)
    obtain ⟨e4, h4⟩ := (((s.tapClock true (d 0)).tapClock true (d 1)).tapClock true (d 2)).tapClock_state h3 true (d 3)
    obtain ⟨e5, -⟩ := ((((s.tapClock true (d 0)).tapClock true (d 1)).tapClock true (d 2)).tapClock true (d 3)).tapClock_state
      h4 true (d 4)
    rw [e5, e4, e3, e2, e1]
    exact TapState.next_reset _
  · exact beq_iff_eq
  · exact (Bool.or_eq_true_iff).trans (or_congr beq_iff_eq (Bool.not_eq_true' _).to_iff)

end Sys2Proof.Machine
end

-- ==== Proofs: saving and restoring (R405 to R408) ====
section
/-! PROOFS. A save staged and completed, a restore armed, and O6. -/
namespace Sys2Proof.Machine
open Sys2Proof
set_option Elab.async false

/-! ### Saving and restoring (R405 to R408) -/

/-- A write of a signature whose object counts its sub-indices from 1. -/
theorem State.writeSignature {s : State} {k j v : Nat} {e : EntryDef} {eff : EntryDef → State → Effect} {x : Effect}
    (hp : Safety.passesScalar (s.actBy k) k e 0 j v) (hx : eff e (s.actBy k) = x) (hlo : e.lo = 1) (hj : j + 1 ≤ e.hi)
    (he : e.listed = true) (hn : 0 < e.count) :
    s.write k (e.base + 0) (j + 1) (leBytes e.type.size v) eff = (s.actBy k).settle k (e.base + 0) (j + 1) x := by
  subst hx
  have h := State.write_ok s k 0 j e (leBytes e.type.size v) eff he hn (by omega) hp
  rwa [hlo, Nat.add_comm 1 j] at h

section
variable {s : State} {k j v : Nat} {x : Effect}

theorem State.store_written (hp : Safety.passesScalar (s.actBy k) k Dict.STORE_PARAMETERS_SIGNATURE 0 j v) (hj : j < 3)
    (hx : (s.actBy k).store k (j + 1) v = x) : s.write k 0x1010 (j + 1) (leBytes 4 v) (fun _ s => s.store k (j + 1) v)
      = (s.actBy k).settle k 0x1010 (j + 1) x :=
  State.writeSignature (eff := fun _ s => s.store k (j + 1) v) hp hx rfl hj (by decide +kernel) (by decide)

theorem State.restore_written (hp : Safety.passesScalar (s.actBy k) k Dict.RESTORE_PARAMETERS_SIGNATURE 0 j v) (hj : j < 3)
    (hx : (s.actBy k).restore (j + 1) v = x) : s.write k 0x1011 (j + 1) (leBytes 4 v) (fun _ s => s.restore (j + 1) v)
      = (s.actBy k).settle k 0x1011 (j + 1) x :=
  State.writeSignature (eff := fun _ s => s.restore (j + 1) v) hp hx rfl hj (by decide +kernel) (by decide)

end

section
variable {s : State} {k j : Nat}

theorem State.store_unsigned {v : Nat} (h : v ≠ saveSignature) : s.store k j v = .refused (.plain 0x08000020 0) s := by
  have e : (v != saveSignature) = true := bne_iff_ne.2 h
  simp only [State.store, firstOf_cons_true e]

theorem State.store_busy (h : s.floor = true ∨ s.staging ≠ none) :
    s.store k j saveSignature = .refused (.plain 0x08000021 0xB4) s := by
  have e : (s.floor || s.staging.isSome) = true := Bool.or_eq_true_iff.2 (h.imp_right Option.isSome_iff_ne_none.2)
  simp only [State.store, bne_self_eq_false, firstOf_cons_false rfl, firstOf_cons_true e]

theorem State.store_ready (hf : s.floor = false) (hs : s.staging = none) : s.store k j saveSignature =
    if (s.snapshot k j).size ≤ 3145728 then .waits { s with staging := some (s.snapshot k j), stagingSess := k }
    else .refused (.rule 0xB5) s := by
  have e : (s.floor || s.staging.isSome) = false := Bool.or_eq_false_iff.2 ⟨hf, congrArg Option.isSome hs⟩
  simp only [State.store, bne_self_eq_false, firstOf_cons_false rfl, firstOf_cons_false e]
  by_cases hsize : (s.snapshot k j).size ≤ 3145728
  · simp only [firstOf_cons_false (decide_eq_false hsize.not_gt), if_pos hsize]
    rfl
  · simp only [firstOf_cons_true (decide_eq_true (not_le.1 hsize)), if_neg hsize]

theorem State.restore_allowed (hf : s.floor = false) (h : j = 2 ∨ s.overcoatOpen = true) : s.restore j loadSignature =
    .done (({ s with dev := { s.dev with restoreMarker := s.dev.restoreMarker ++ [j] } } : State).raise Event.RESTORE_ARMED j 0) := by
  have e : (j != 2 && !s.overcoatOpen) = false := by
    obtain h | h := h <;> simp [h]
  simp only [State.restore, bne_self_eq_false, firstOf_cons_false rfl, firstOf_cons_false hf, firstOf_cons_false e]
  rfl

theorem State.restore_closed (hf : s.floor = false) (hj : j ≠ 2) (h : s.overcoatOpen = false) :
    s.restore j loadSignature = .refused (.rule 0x40) s := by
  have e : (j != 2 && !s.overcoatOpen) = true := by simp [hj, h]
  simp only [State.restore, bne_self_eq_false, firstOf_cons_false rfl, firstOf_cons_false hf, firstOf_cons_true e]

end
/-! #### The staged copy is written -/

/-- The staged copy in the place of the older one. -/
def State.overOlder (s : State) (c : SavedCopy) : State :=
  if s.copy0.valid = false ∨ (s.copy1.valid = true ∧ s.copy0.generation < s.copy1.generation) then { s with copy0 := c }
  else { s with copy1 := c }

theorem State.overOlder_same {β : Type} (f : State → β) (hf : ∀ s c d, f { s with copy0 := c, copy1 := d } = f s) (s : State)
    (c : SavedCopy) : f (s.overOlder c) = f s :=
  iteInduction (motive := fun t => f t = f s) (fun _ => hf s c s.copy1) fun _ => hf s s.copy0 c

theorem State.overOlder_copies (s : State) (c : SavedCopy) :
    if s.copy0.valid = false ∨ (s.copy1.valid = true ∧ s.copy0.generation < s.copy1.generation)
    then (s.overOlder c).copy0 = c ∧ (s.overOlder c).copy1 = s.copy1
    else (s.overOlder c).copy0 = s.copy0 ∧ (s.overOlder c).copy1 = c := by
  unfold State.overOlder
  split
  · exact ⟨rfl, rfl⟩
  · exact ⟨rfl, rfl⟩

/-- What else a verified copy sets: no restore marker is left, and the store's registers tell of it. -/
def State.noteStored (w : State) (c : SavedCopy) : State :=
  (({ w with dev := { w.dev with restoreMarker := [] } } : State).wr Dict.MANAGEMENT_STORE_BYTES c.size).wr
    Dict.MANAGEMENT_STORE_STATE 0

theorem State.finishStore_verified {s : State} {c : SavedCopy} (hs : s.staging = some c) : ∃ u : State,
    s.finishStore true = (u.raiseBy s.stagingSess Event.STORE_DONE c.generation c.size).respond s.stagingSess 0x1010 [] false ∧
    u.staging = none ∧ u.ev.queue = s.ev.queue ∧ u.copy0 = (s.endStaging.overOlder c).copy0 ∧
    u.copy1 = (s.endStaging.overOlder c).copy1 := by
  have hst := State.overOlder_same State.staging (fun _ _ _ => rfl) s.endStaging c
  have hq := State.overOlder_same (fun t => t.ev.queue) (fun _ _ _ => rfl) s.endStaging c
  refine ⟨(s.endStaging.overOlder c).noteStored c, ?_, hst, hq, rfl, rfl⟩
  unfold State.finishStore
  rw [hs]
  rfl

theorem State.finishStore_failed {s : State} {c : SavedCopy} (hs : s.staging = some c) (w : State)
    (hw : w = (s.endStaging.wr Dict.MANAGEMENT_STORE_STATE 3).overOlder { c with valid := false }) : s.finishStore false =
    (w.raiseBy s.stagingSess Event.STORE_FAILED 2 w.savedInForce.generation).abort s.stagingSess 0x1010 (.plain 0x08000020 0) := by
  subst hw
  unfold State.finishStore
  rw [hs]
  rfl

/-- Settles O6: the first check that fails refuses a save or a restore, and a staged copy takes the place of the older one. -/
theorem saveAndRestore : Obligations.SaveAndRestore := by
  unfold Obligations.SaveAndRestore
  refine ⟨fun s k j hp hf hs => ?_, fun s k j v hp hv => ?_, fun s k j hp h => ?_, fun s c hu hf hs => ?_,
    fun s c hu hf hs => ?_, fun s k j hp hf h => ?_, fun s k j hp hf hj h => ?_⟩
  · refine congrArg Host.Outcome.next ((State.store_written hp j.isLt (State.store_ready hf hs)).trans ?_)
    split
    · rfl
    · rfl
  · exact congrArg Host.Outcome.next (State.store_written hp j.isLt (State.store_unsigned hv))
  · exact congrArg Host.Outcome.next (State.store_written hp j.isLt (State.store_busy h))
  · have hc := s.begin.endStaging.overOlder_copies c
    obtain ⟨u, hx, hst, hq, h0, h1⟩ := State.finishStore_verified hs
    rw [← h0, ← h1] at hc
    exact ⟨_, congrArg Host.Outcome.next ((if_pos ⟨hu, congrArg not hf⟩).trans hx), hst, raised_raiseBy hq, hc⟩
  · have hc := (s.begin.endStaging.wr Dict.MANAGEMENT_STORE_STATE 3).overOlder_copies { c with valid := false }
    have hq := State.overOlder_same (fun t => t.ev.queue) (fun _ _ _ => rfl) (s.begin.endStaging.wr Dict.MANAGEMENT_STORE_STATE 3)
      { c with valid := false }
    have hst := State.overOlder_same State.staging (fun _ _ _ => rfl) (s.begin.endStaging.wr Dict.MANAGEMENT_STORE_STATE 3)
      { c with valid := false }
    have hx := State.finishStore_failed hs _ rfl
    generalize (s.begin.endStaging.wr Dict.MANAGEMENT_STORE_STATE 3).overOlder { c with valid := false } = w at hc hq hst hx
    refine ⟨_, congrArg Host.Outcome.next ((if_pos ⟨hu, congrArg not hf⟩).trans hx), hst, raised_raiseBy hq, ?_⟩
    split at hc
    · exact ⟨fun h => Bool.noConfusion ((congrArg SavedCopy.valid hc.1).symm.trans h), fun _ => hc.2⟩
    · exact ⟨fun _ => hc.1, fun h => Bool.noConfusion ((congrArg SavedCopy.valid hc.2).symm.trans h)⟩
  · exact congrArg Host.Outcome.next (State.restore_written hp j.isLt (State.restore_allowed hf
      (h.imp_left (congrArg fun i : Fin 3 => i.val + 1))))
  · exact congrArg Host.Outcome.next (State.restore_written hp j.isLt (State.restore_closed hf
      (fun g => hj (Fin.ext (Nat.succ.inj g))) h))

end Sys2Proof.Machine
end

-- ==== Proofs: the AVS loop (R34, R35) ====
section
/-! PROOFS. A step of the loop may tell a session that subscribes, and O13 refuted. -/
namespace Sys2Proof.Machine
open Sys2Proof
set_option Elab.async false

/-! ### The AVS loop (R34, R35) -/

/-- What is raised is told to a UDP session that subscribes to every event (R416). -/
theorem State.raise_wire_ne_nil {s : State} {k : Nat} (h4 : 4 ≤ k) (h11 : k ≤ 11) (h : ∀ e, s.subscribed e k = true) (d : EventDef)
    (a b : Nat) : (s.raise d a b).wire ≠ [] :=
  List.append_ne_nil_of_right_ne_nil _ (List.ne_nil_of_mem (State.mem_tellings_of_subscribed h4 h11 (h _)))

/-- The third failed transaction in succession raises AVS_FAULT. -/
theorem State.avsRun_third {s : State} {i pace mv : Nat}
    (h : s.dictUp = true ∧ (Store.read (fun _ => 0) s.gov.avsAt i = 0 ∨ Store.read (fun _ => 0) s.gov.avsAt i - 1 + 50000 ≤ s.now))
    (hf : Store.read (fun _ => 0) s.gov.avsFails i = 2) :
    ∃ u : State, s.avsRun i false pace mv = u.raise Event.AVS_FAULT (i + 1) mv ∧ u.sess = s.sess :=
  ⟨_, (if_pos h).trans ((if_neg (by decide)).trans (if_pos (congrArg (· + 1) hf))), rfl⟩

/-- In STANDBY, with a UDP session that subscribes to every event, a regulator has failed to answer twice. -/
def avsFailedTwice : State :=
  { (State.reset.wr Dict.DEVICE_STATE_STATE 3).putSess 4 { Sess.init with isOpen := true, subSeverity := 0 } with
    dev := { Device.init with porstN := true }, gov := { Gov.init with avsFails := [(0, 2)] } }

/-- Refutes O13: AVS_FAULT is also told to the sessions that subscribe to it (R416), so the failed transaction leaves
something on the wire. -/
theorem not_voltageLoop : ¬ Obligations.VoltageLoop := by
  unfold Obligations.VoltageLoop
  rintro ⟨-, -, -, hfailed, -⟩
  obtain ⟨t, ht, -, -, hw⟩ := hfailed avsFailedTwice 0 0 0 (by decide) (.inl rfl) rfl
  obtain ⟨u, hu, hsess⟩ := State.avsRun_third (s := avsFailedTwice.begin) (i := 0) (pace := 0) (mv := 0) ⟨by decide, .inl rfl⟩ rfl
  have htu : u.raise Event.AVS_FAULT 1 0 = t := hu.symm.trans (Host.Outcome.next.inj ht)
  have hsub (e : Ev) : u.subscribed e 4 = true := by
    have hu4 : u.sessAt 4 = { Sess.init with isOpen := true, subSeverity := 0 } :=
      congrArg (fun m => Store.read initialSess m 4) hsess
    simp [State.subscribed, hu4]
  exact State.raise_wire_ne_nil (by decide) (by decide) hsub _ _ _ (htu ▸ hw)

end Sys2Proof.Machine
end

-- ==== Proofs: the order of a compose latch (R25, R50, R131) ====
section
/-! PROOFS. The parts of a latch one after the other, and O15. -/
namespace Sys2Proof.Machine
open Sys2Proof
set_option Elab.async false

/-! ### The order of a compose latch (R25, R50, R131) -/

section
variable {b f : State} {c t slot deadline : Nat} {tel : Telemetry} {line0 : List (Nat × Nat)}

theorem State.composeLatch_at (hb : b.alive = true ∧ b.latchDue c = true) (hn : b.latchNow c = (t, slot, deadline))
    (hf : f = (b.ownFlip c).modCanvas c (fun v => { v with composeAt := t + 1 })) : b.composeLatch c tel line0 =
      if (f.canvasAt c).stopping = true ∧ slot = 0 then f.stopCanvas c
      else if slot = 0 then (((((((f.countRunLatch c).landDue 2 c t).judgeGating c).judgeOvercoat c 0).noteImage c).judgeBase c t
        line0).latchTick c tel).dispatchSlot c 0 deadline
      else (((f.judgeGating c).judgeOvercoat c slot).noteImage c).dispatchSlot c slot deadline := by
  subst hf
  refine (if_pos hb).trans ?_
  rw [hn]
  dsimp only
  by_cases h0 : slot = 0
  · subst h0
    simp only [if_true]
  · simp only [h0, and_false, if_false]

theorem State.frameTiming_stops {f : Nat} (h : b.dictUp = true ∧ b.alive = true ∧ b.latchDue c = true)
    (hf : f = b.jumpIfDue.canvasFtg c) (hs : b.jumpIfDue.ftgStopDue f = true)
    (hn : (b.jumpIfDue.ftgAt f).nextStart ≤ (b.jumpIfDue.latchNow c).1) : b.frameTiming c = b.jumpIfDue.stopFtg f := by
  subst hf
  exact (if_pos h).trans (if_pos ⟨hs, hn⟩)

theorem State.frameTiming_runs {f : Nat} (h : b.dictUp = true ∧ b.alive = true ∧ b.latchDue c = true)
    (hf : f = b.jumpIfDue.canvasFtg c)
    (hn : b.jumpIfDue.ftgStopDue f = false ∨ (b.jumpIfDue.latchNow c).1 < (b.jumpIfDue.ftgAt f).nextStart) :
    b.frameTiming c = b.jumpIfDue := by
  subst hf
  exact (if_pos h).trans (if_neg fun g => hn.elim (fun hn => Bool.noConfusion (hn.symm.trans g.1)) g.2.not_gt)

theorem State.dispatchSlot_skipped (h : ((b.dropStrips .compose c).canvasAt c).skip = true) :
    ∃ v : Canvas, b.dispatchSlot c slot deadline = (b.dropStrips .compose c).putCanvas c v ∧ v.composing = false :=
  ⟨_, if_pos h, rfl⟩

theorem State.dispatchSlot_composed (h : ((b.dropStrips .compose c).canvasAt c).skip = false) :
    ∃ (v : Canvas) (l : List Strip), b.dispatchSlot c slot deadline = ((b.dropStrips .compose c).putCanvas c v).enqueue l ∧
      v.composing = true ∧ v.deadline = deadline ∧ v.slot = slot :=
  ⟨_, _, if_neg fun g => Bool.noConfusion (h.symm.trans g), rfl, rfl, rfl⟩

theorem State.latchTick_due (h : b.isLatchTick c = true) (g : State) (hg : g = b.governorTick tel) : b.latchTick c tel =
    { g with gov := { g.gov with latchTick := (g.rd Dict.FTG_BASE_FRAMES (g.canvasFtg c) + 1) * 8 + g.canvasFtg c } } := by
  subst hg
  exact if_pos h

end

/-- Settles O15: one equation for the latch of a base frame and of a slot, and what a dispatched slot sets. -/
theorem composeLatchOrder : Obligations.ComposeLatchOrder := by
  unfold Obligations.ComposeLatchOrder
  refine ⟨fun s c tel line0 t deadline ha hd hn hs => ?_, fun s c tel line0 t slot deadline ha hd hn h0 => ?_,
    fun s c tel line0 t deadline ha hd hn hs => ?_, fun s c tel line0 hd => ?_, fun s c hu ha hd => ⟨fun hs hn => ?_, fun hn => ?_⟩,
    fun b c tel h => ⟨?_, ?_⟩, fun b c slot deadline => ⟨fun h => ⟨?_, ?_⟩, fun h => ⟨?_, ?_, ?_⟩⟩⟩
  · exact congrArg Host.Outcome.next ((State.composeLatch_at ⟨ha, hd⟩ hn rfl).trans
      ((if_neg fun g => Bool.noConfusion (hs.symm.trans g.1)).trans (if_pos rfl)))
  · exact congrArg Host.Outcome.next ((State.composeLatch_at ⟨ha, hd⟩ hn rfl).trans ((if_neg fun g => h0 g.2).trans (if_neg h0)))
  · exact congrArg Host.Outcome.next ((State.composeLatch_at ⟨ha, hd⟩ hn rfl).trans (if_pos ⟨hs, rfl⟩))
  · exact congrArg Host.Outcome.next (if_neg fun g => Bool.noConfusion (hd.symm.trans g.2))
  · exact State.frameTiming_stops ⟨hu, ha, hd⟩ rfl hs hn
  · exact State.frameTiming_runs ⟨hu, ha, hd⟩ rfl hn
  · have ht := State.latchTick_due (tel := tel) h _ rfl
    generalize b.governorTick tel = g at ht ⊢
    rw [ht]
  · have ht := State.latchTick_due (tel := tel) h _ rfl
    generalize b.governorTick tel = g at ht ⊢
    rw [ht]
  · obtain ⟨v, hv, hcomposing⟩ := State.dispatchSlot_skipped (slot := slot) (deadline := deadline) h
    rw [hv, State.putCanvas_canvasAt, hcomposing]
  · obtain ⟨v, hv, -⟩ := State.dispatchSlot_skipped (slot := slot) (deadline := deadline) h
    exact (congrArg State.strips hv).trans (State.dropStrips_strips ..)
  · obtain ⟨v, l, hv, hcomposing, -⟩ := State.dispatchSlot_composed (slot := slot) (deadline := deadline) h
    exact (congrArg Canvas.composing ((congrArg (fun t => State.canvasAt t c) hv).trans (State.putCanvas_canvasAt ..))).trans hcomposing
  · obtain ⟨v, l, hv, -, hdeadline, -⟩ := State.dispatchSlot_composed (slot := slot) (deadline := deadline) h
    exact (congrArg Canvas.deadline ((congrArg (fun t => State.canvasAt t c) hv).trans (State.putCanvas_canvasAt ..))).trans hdeadline
  · obtain ⟨v, l, hv, -, -, hslot⟩ := State.dispatchSlot_composed (slot := slot) (deadline := deadline) h
    exact (congrArg Canvas.slot ((congrArg (fun t => State.canvasAt t c) hv).trans (State.putCanvas_canvasAt ..))).trans hslot

end Sys2Proof.Machine
end

-- ==== Proofs: the governor's timers (R40 to R45, R57, R504) ====
section
/-! PROOFS. What a tick leaves as it was and what it takes in, and O14. -/
namespace Sys2Proof.Machine
open Sys2Proof
set_option Elab.async false

/-! ### What a governor tick leaves (R36, R57) -/

/-- The time and what the governor has measured are in `t` what they are in `r`. -/
def KeepsTick (r t : State) : Prop :=
  t.now = r.now ∧ t.timebase = r.timebase ∧ t.gov.measured = r.gov.measured ∧ t.gov.dieTemp = r.gov.dieTemp

theorem KeepsTick.refl (s : State) : KeepsTick s s := ⟨rfl, rfl, rfl, rfl⟩

/-- A record update that touches none of them. -/
theorem KeepsTick.lit {r u : State} {a_now a_timebase a_dcoRest a_pending a_wire a_actor a_tap a_regs a_shadow a_doms a_shadowDoms
      a_minSeverityDefault a_sess a_ev a_spi a_mailbox a_can a_tagRejectAt a_udpFailures a_udpLocked a_draws
      a_staging a_stagingSess a_copy0 a_copy1 a_mgmtWait a_gov a_engines a_strips a_inputs a_hosts a_players
      a_layers a_canvases a_heads a_validating a_pendingCommits a_deferredWrites a_ulanes a_dlanes a_groups
      a_fecTimes a_routes a_activeEntry a_flows a_switches a_switchedAt a_dropCount a_dropAt a_rtpSeq a_banks a_luts
      a_luts3d a_imageDesc a_imageData a_imageCrc a_imageBad a_tileMap a_tileShadow a_calib a_calibShadow a_tiles
      a_ptl a_ptlCounters a_authFailTimes a_hentis a_refs a_ftgs a_audio a_channelTable a_streamTable a_channels
      a_endpoints a_dram a_scanAlloc a_stageAlloc a_liningAlloc a_liningLostKib a_pocket a_resil a_keys a_life
      a_supply a_dev}
    (h : KeepsTick r u) (hn : a_now = u.now) (ht : a_timebase = u.timebase)
    (hm : a_gov.measured = u.gov.measured) (hd : a_gov.dieTemp = u.gov.dieTemp) :
    KeepsTick r (State.mk a_now a_timebase a_dcoRest a_pending a_wire a_actor a_tap a_regs a_shadow a_doms a_shadowDoms
      a_minSeverityDefault a_sess a_ev a_spi a_mailbox a_can a_tagRejectAt a_udpFailures a_udpLocked a_draws
      a_staging a_stagingSess a_copy0 a_copy1 a_mgmtWait a_gov a_engines a_strips a_inputs a_hosts a_players
      a_layers a_canvases a_heads a_validating a_pendingCommits a_deferredWrites a_ulanes a_dlanes a_groups
      a_fecTimes a_routes a_activeEntry a_flows a_switches a_switchedAt a_dropCount a_dropAt a_rtpSeq a_banks a_luts
      a_luts3d a_imageDesc a_imageData a_imageCrc a_imageBad a_tileMap a_tileShadow a_calib a_calibShadow a_tiles
      a_ptl a_ptlCounters a_authFailTimes a_hentis a_refs a_ftgs a_audio a_channelTable a_streamTable a_channels
      a_endpoints a_dram a_scanAlloc a_stageAlloc a_liningAlloc a_liningLostKib a_pocket a_resil a_keys a_life
      a_supply a_dev) :=
  ⟨hn.trans h.1, ht.trans h.2.1, hm.trans h.2.2.1, hd.trans h.2.2.2⟩

section
variable {r s t : State}

theorem KeepsTick.ite {c : Prop} [Decidable c] {a b : State} (ha : KeepsTick r a) (hb : KeepsTick r b) :
    KeepsTick r (if c then a else b) := iteInduction (motive := KeepsTick r) (fun _ => ha) fun _ => hb

theorem KeepsTick.foldl {α : Type} {g : State → α → State} {l : List α} (h : KeepsTick r s)
    (hg : ∀ u a, KeepsTick r u → KeepsTick r (g u a)) : KeepsTick r (l.foldl g s) :=
  List.foldlRecOn (motive := KeepsTick r) l _ h fun u hu a _ => hg u a hu

/-- An update of what the governor keeps. -/
theorem KeepsTick.gov (h : KeepsTick r s) {g : Gov} (hm : g.measured = s.gov.measured) (hd : g.dieTemp = s.gov.dieTemp) :
    KeepsTick r { s with gov := g } := ⟨h.1, h.2.1, hm.trans h.2.2.1, hd.trans h.2.2.2⟩

theorem KeepsTick.setReach (h : KeepsTick r s) {x : Store Nat} :
    KeepsTick r { s with gov := { s.gov with reachAt := x } } := h.gov rfl rfl

theorem KeepsTick.setExceeded (h : KeepsTick r s) {x : Bool} :
    KeepsTick r { s with gov := { s.gov with capExceeded := x } } := h.gov rfl rfl

theorem KeepsTick.wr (h : KeepsTick r s) {e : EntryDef} {v n k : Nat} : KeepsTick r (s.wr e v n k) := h.lit rfl rfl rfl rfl

theorem KeepsTick.out (h : KeepsTick r s) {i : WireItem} : KeepsTick r (s.out i) := h.lit rfl rfl rfl rfl

theorem KeepsTick.raise (h : KeepsTick r s) {d : EventDef} {a b : Nat} : KeepsTick r (s.raise d a b) :=
  ⟨h.1, h.2.1, h.2.2.1, h.2.2.2⟩

theorem KeepsTick.raiseIf (h : KeepsTick r s) {c : Bool} {d : EventDef} {a b : Nat} : KeepsTick r (s.raiseIf c d a b) :=
  .ite h.raise h

theorem KeepsTick.wrInt (h : KeepsTick r s) {e : EntryDef} {v : Int} {n k : Nat} : KeepsTick r (s.wrInt e v n k) := h.wr

theorem KeepsTick.calibrate (h : KeepsTick r s) {i power rate24 : Nat} : KeepsTick r (s.calibrate i power rate24) := by
  unfold State.calibrate
  extract_lets
  exact .ite h (h.gov rfl rfl)

/-- What a reading of an island leaves of the grid's reach. -/
theorem KeepsTick.readReach (h : KeepsTick r s) {t : Telemetry} {i p x : Nat} : KeepsTick r
    (let s := s.calibrate i p (s.completedRate t i)
     { s with gov := { s.gov with reachAt := Store.write (fun _ => 0) s.gov.reachAt i x } }) := by
  extract_lets s1
  have hs1 : KeepsTick r s1 := h.calibrate
  exact hs1.setReach

theorem KeepsTick.readIslands (h : KeepsTick r s) {t : Telemetry} : KeepsTick r (s.readIslands t) := by
  unfold State.readIslands
  refine KeepsTick.foldl ?_ fun _ _ h1 => ?_
  · exact h.gov rfl rfl
  split
  · exact .ite h1.wr.wr.wrInt.wr.readReach h1.wr.wr.wrInt.wr
  · exact h1

theorem KeepsTick.readRegulators (h : KeepsTick r s) {t : Telemetry} : KeepsTick r (s.readRegulators t) := by
  unfold State.readRegulators
  refine h.foldl fun _ _ h1 => ?_
  split
  · extract_lets _ _ s1
    have hs1 : KeepsTick r s1 := h1.gov rfl rfl
    exact hs1.raiseIf
  · exact h1

theorem KeepsTick.judgePrefetch (h : KeepsTick r s) : KeepsTick r s.judgePrefetch := by
  unfold State.judgePrefetch
  extract_lets _ _ _ s'
  have hs' : KeepsTick r s' := h.gov rfl rfl
  exact hs'.raiseIf

theorem KeepsTick.forcePatrol (h : KeepsTick r s) : KeepsTick r s.forcePatrol := by
  refine KeepsTick.raise ?_
  exact h.gov rfl rfl

theorem KeepsTick.countDeferral (h : KeepsTick r s) : KeepsTick r s.countDeferral := by
  unfold State.countDeferral
  extract_lets _ _ _ s1 s2 s3
  have hs1 : KeepsTick r s1 := h.gov rfl rfl
  have hs2 : KeepsTick r s2 := hs1.foldl fun _ _ h1 => .ite (h1.gov rfl rfl) h1
  have hs3 : KeepsTick r s3 := hs2.judgePrefetch
  exact .ite hs3.forcePatrol (.ite (hs3.gov rfl rfl) hs3)

theorem KeepsTick.judgeThermal (h : KeepsTick r s) {t : Telemetry} : KeepsTick r (s.judgeThermal t) := by
  unfold State.judgeThermal
  extract_lets _ _ _ s'
  have hs' : KeepsTick r s' := h.gov rfl rfl
  refine .ite hs'.raiseIf (.ite (KeepsTick.raise ?_) h)
  exact h.gov rfl rfl

theorem KeepsTick.putEngine (h : KeepsTick r s) {k : Nat} {v : Engine} : KeepsTick r (s.putEngine k v) := h.lit rfl rfl rfl rfl

theorem KeepsTick.modEngine (h : KeepsTick r s) {k : Nat} {f : Engine → Engine} : KeepsTick r (s.modEngine k f) := h.putEngine

theorem KeepsTick.accrue (h : KeepsTick r s) {e : Nat} : KeepsTick r (s.accrue e) := by
  unfold State.accrue
  extract_lets
  exact h.modEngine

theorem KeepsTick.judgeEngine (h : KeepsTick r s) {e med : Nat} : KeepsTick r (s.judgeEngine e med) := by
  unfold State.judgeEngine
  extract_lets
  split
  · exact h
  · extract_lets
    exact .ite h.putEngine.raise (.ite h.putEngine.raise h.putEngine)

theorem KeepsTick.countEngines (h : KeepsTick r s) : KeepsTick r s.countEngines := by
  unfold State.countEngines
  extract_lets s1 s2 s3 s4
  have hs1 : KeepsTick r s1 := h.foldl fun _ _ h1 => h1.wr
  have hs2 : KeepsTick r s2 := hs1.wr
  have hs3 : KeepsTick r s3 := hs2.wr
  have hs4 : KeepsTick r s4 := hs3.wr
  exact hs4.foldl fun _ _ h1 => h1.wr

theorem KeepsTick.judgeEngines (h : KeepsTick r s) : KeepsTick r s.judgeEngines := by
  unfold State.judgeEngines
  extract_lets s1 s2
  have hs1 : KeepsTick r s1 := h.foldl fun _ _ h1 => h1.accrue.modEngine
  have hs2 : KeepsTick r s2 := by
    unfold s2
    refine hs1.foldl fun _ _ h1 => ?_
    extract_lets
    exact h1.foldl fun _ _ h1 => h1.judgeEngine
  exact hs2.countEngines

theorem KeepsTick.takePower (h : KeepsTick r s) : KeepsTick r s.takePower := h.lit rfl rfl rfl rfl

theorem KeepsTick.judgeDram (h : KeepsTick r s) {t : Telemetry} : KeepsTick r (s.judgeDram t) := by
  unfold State.judgeDram
  extract_lets s1 _ _ _ s' s'1 s'2 s'3 _ s'4 s'5
  have hs1 : KeepsTick r s1 := h.takePower
  have hs' : KeepsTick r s' := hs1.lit rfl rfl rfl rfl
  have hs'1 : KeepsTick r s'1 := hs'.raiseIf
  have hs'2 : KeepsTick r s'2 := hs'1.raiseIf
  have hs'3 : KeepsTick r s'3 := hs'2.wr
  have hs'4 : KeepsTick r s'4 := .ite (hs'3.lit rfl rfl rfl rfl) hs'3
  have hs'5 : KeepsTick r s'5 := hs'4.wr
  exact hs'5.wr.wr

theorem KeepsTick.putInput (h : KeepsTick r s) {k : Nat} {v : Input} : KeepsTick r (s.putInput k v) := h.lit rfl rfl rfl rfl

theorem KeepsTick.modInput (h : KeepsTick r s) {k : Nat} {f : Input → Input} : KeepsTick r (s.modInput k f) := h.putInput

theorem KeepsTick.stopEstimation (h : KeepsTick r s) {n : Nat} : KeepsTick r (s.stopEstimation n) := by
  unfold State.stopEstimation
  extract_lets _ s1
  have hs1 : KeepsTick r s1 := h.foldl fun _ _ h1 => h1.foldl fun _ _ h2 => h2.accrue
  exact (hs1.lit rfl rfl rfl rfl).modInput

theorem KeepsTick.applyYield (h : KeepsTick r s) {t : Telemetry} {step : Nat} {i : Nat × Nat}
    : KeepsTick r (s.applyYield t step i) := by
  unfold State.applyYield
  extract_lets _ _ s1 _ s2 s3
  have hs2 : KeepsTick r s2 := h.gov rfl rfl
  have hs3 : KeepsTick r s3 := .ite hs2.stopEstimation hs2
  exact hs3.raise

theorem KeepsTick.applyYields (h : KeepsTick r s) {t : Telemetry} {limit : Nat} : KeepsTick r (s.applyYields t limit) :=
  h.foldl fun _ _ h1 => h1.foldl fun _ _ h2 => .ite h2.applyYield h2

theorem KeepsTick.setBreach (h : KeepsTick r s) {on : Bool} {load limit : Nat} : KeepsTick r (s.setBreach on load limit) :=
  .ite h (by
    refine KeepsTick.raise ?_
    exact h.gov rfl rfl)

theorem KeepsTick.restoreYields (h : KeepsTick r s) {t : Telemetry} {limit fuel load : Nat} :
    KeepsTick r (s.restoreYields t limit fuel load) := by
  induction fuel generalizing s load with
  | zero => exact h
  | succ fuel ih =>
    unfold State.restoreYields
    split
    · exact h
    · refine .ite h (.ite (h.gov rfl rfl) ?_)
      extract_lets _ _ u v
      have hu : KeepsTick r u := h.gov rfl rfl
      have hv : KeepsTick r v := .ite hu.modInput hu
      exact .ite (h.gov rfl rfl) (ih hv.raise)

/-- A tick of mode 1 weighs the estimate against the cap (R44). -/
theorem KeepsTick.weighEstimate (h : KeepsTick r s) {t : Telemetry} {x : Bool} {whole e : Nat} : KeepsTick r
    (let s' := { s with gov := { s.gov with capExceeded := x } }
     if whole < e then s' else (s'.setBreach false e whole).restoreYields t whole s'.gov.yields.length e) := by
  exact .ite h.setExceeded h.setExceeded.setBreach.restoreYields

/-- A tick over its limit yields afresh. -/
theorem KeepsTick.yieldAfresh (h : KeepsTick r s) {t : Telemetry} {ys : List Yield} {limit whole : Nat} : KeepsTick r
    (let s1 := ({ s with gov := { s.gov with yields := ys } }).applyYields t limit
     s1.setBreach (decide (limit < s1.load t)) (s1.load t) whole) := by
  refine KeepsTick.setBreach (KeepsTick.applyYields ?_)
  exact h.gov rfl rfl

theorem KeepsTick.decideYields (h : KeepsTick r s) {t : Telemetry} : KeepsTick r (s.decideYields t) :=
  .ite h.raiseIf.weighEstimate (.ite h.yieldAfresh h.setBreach.restoreYields)

theorem KeepsTick.judgeCeilings (h : KeepsTick r s) : KeepsTick r s.judgeCeilings := by
  unfold State.judgeCeilings
  extract_lets _ s'
  have hs' : KeepsTick r s' := h.foldl fun _ _ h1 => h1.raiseIf
  exact hs'.gov rfl rfl

theorem KeepsTick.setTargets (h : KeepsTick r s) {lower : Bool} : KeepsTick r (s.setTargets lower) := by
  unfold State.setTargets
  extract_lets
  refine (h.foldl fun _ _ h1 => ?_).judgeCeilings
  extract_lets _ _ _ s1
  have hs1 : KeepsTick r s1 := .ite (h1.gov rfl rfl) h1
  exact hs1.wr

theorem KeepsTick.tellAlert (h : KeepsTick r s) {was : Bool} : KeepsTick r (s.tellAlert was) := .ite h h.out

theorem KeepsTick.setDom (h : KeepsTick r s) {key : Nat} {v : List Byte} : KeepsTick r (s.setDom key v) := h.lit rfl rfl rfl rfl

theorem KeepsTick.wrDom (h : KeepsTick r s) {e : EntryDef} {v : List Byte} {n k : Nat} : KeepsTick r (s.wrDom e v n k) := h.setDom

theorem KeepsTick.inc (h : KeepsTick r s) {e : EntryDef} {n k d : Nat} : KeepsTick r (s.inc e n k d) := h.wr

theorem KeepsTick.wrTime (h : KeepsTick r s) {eS eNs : EntryDef} {t n k : Nat} : KeepsTick r (s.wrTime eS eNs t n k) := h.wr.wr

theorem KeepsTick.governorStatus (h : KeepsTick r s) {t : Telemetry} {ceiling : Bool}
    : KeepsTick r (s.governorStatus t ceiling) := by
  unfold State.governorStatus
  split
  extract_lets s1 s2 s3 s4 s5 s6 s7 s8 s9 _ s10 s11 s12 s13
  have hs1 : KeepsTick r s1 := h.raiseIf
  have hs2 : KeepsTick r s2 := hs1.wr
  have hs3 : KeepsTick r s3 := hs2.wr
  have hs4 : KeepsTick r s4 := hs3.wr
  have hs5 : KeepsTick r s5 := hs4.wr
  have hs6 : KeepsTick r s6 := hs5.wr
  have hs7 : KeepsTick r s7 := hs6.wr
  have hs8 : KeepsTick r s8 := hs7.wr
  have hs9 : KeepsTick r s9 := hs8.wr
  have hs10 : KeepsTick r s10 := hs9.wr.tellAlert
  have hs11 : KeepsTick r s11 := hs10.wrInt
  have hs12 : KeepsTick r s12 := hs11.wrDom
  have hs13 : KeepsTick r s13 := hs12.inc.wrTime
  exact hs13.foldl fun _ _ h1 => h1.wr

end


theorem State.tellAlert_rd (s : State) (was : Bool) (e : EntryDef) (n k : Nat) :
    (s.tellAlert was).rd e n k = s.rd e n k := iteInduction (motive := fun u : State => u.rd e n k = s.rd e n k)
  (fun _ => rfl) fun _ => rfl


/-- What the tick writes of the power it took (R44). -/
theorem State.governorStatus_measured (s : State) (t : Telemetry) (ceiling : Bool) :
    (s.governorStatus t ceiling).rd Dict.GOVERNOR_STATUS_MEASURED = wattsQ16 t.measured % 2 ^ 32 := by
  unfold State.governorStatus
  split
  extract_lets s1 s2 s3 s4 s5 s6 s7 s8 s9 alert s10 s11 s12 s13
  have h5 : s5.rd Dict.GOVERNOR_STATUS_MEASURED = wattsQ16 t.measured % 2 ^ 32 := s4.wr_rd _ _ 0 0
  have h6 : s6.rd Dict.GOVERNOR_STATUS_MEASURED = _ := (s5.wr_rd_ne _ _ _ 0 0 0 0 (by decide)).trans h5
  have h7 : s7.rd Dict.GOVERNOR_STATUS_MEASURED = _ := (s6.wr_rd_ne _ _ _ 0 0 0 0 (by decide)).trans h6
  have h8 : s8.rd Dict.GOVERNOR_STATUS_MEASURED = _ := (s7.wr_rd_ne _ _ _ 0 0 0 0 (by decide)).trans h7
  have h9 : s9.rd Dict.GOVERNOR_STATUS_MEASURED = _ := (s8.wr_rd_ne _ _ _ 0 0 0 0 (by decide)).trans h8
  have h10 : s10.rd Dict.GOVERNOR_STATUS_MEASURED = _ :=
    (State.tellAlert_rd _ _ _ _ _).trans ((s9.wr_rd_ne _ _ _ 0 0 0 0 (by decide)).trans h9)
  have h11 : s11.rd Dict.GOVERNOR_STATUS_MEASURED = _ := (s10.wr_rd_ne _ _ _ 0 0 0 0 (by decide)).trans h10
  have h12 : s12.rd Dict.GOVERNOR_STATUS_MEASURED = _ := (s11.wrDom_rd _ _ 0 0 _ 0 0).trans h11
  have h13 : s13.rd Dict.GOVERNOR_STATUS_MEASURED = _ :=
    (State.wr_rd_ne _ _ _ _ 0 0 0 0 (by decide)).trans ((State.wr_rd_ne _ _ _ _ 0 0 0 0 (by decide)).trans
      ((s12.wr_rd_ne _ _ _ 0 0 0 0 (by decide)).trans h12))
  refine (foldl_same (fun u => u.rd Dict.GOVERNOR_STATUS_MEASURED) s13 fun u c =>
    u.wr_rd_ne _ _ _ c 0 0 0 ?_).trans h13
  simp [EntryDef.key]
  omega

/-- The rest of a tick leaves them as they are when the readings are taken. -/
theorem KeepsTick.judge (s : State) (t : Telemetry) (c : State → Bool) : KeepsTick s
    (((((s.judgeEngines).judgeDram t).decideYields t).setTargets true).governorStatus t
      (c ((((s.judgeEngines).judgeDram t).decideYields t).setTargets true))) :=
  (KeepsTick.refl s).judgeEngines.judgeDram.decideYields.setTargets.governorStatus

/-- A tick takes in what the telemetry gives it, and the time is the time it found. -/
theorem State.governorTick_takes (s : State) (t : Telemetry) :
    ∃ u : State, s.governorTick t = { u with gov := { u.gov with lastTick := u.now, linked := u.linksNow } } ∧
      u.now = s.now ∧ u.timebase = s.timebase ∧ u.gov.measured = t.measured ∧ u.gov.dieTemp = t.dieTemp ∧
      u.rd Dict.GOVERNOR_STATUS_MEASURED = wattsQ16 t.measured % 2 ^ 32 := by
  unfold State.governorTick
  extract_lets s1 s2 s3 hot _ s4 _ s5 s6 s7 s8 s9 s10
  have h3 : KeepsTick s s3 := (KeepsTick.refl s).readIslands.readRegulators.countDeferral.judgeThermal
  have h10 : KeepsTick s5 s10 := .judge s5 t fun u => !u.gov.ceilings.isEmpty
  have hs10 : s10.rd Dict.GOVERNOR_STATUS_MEASURED = _ := State.governorStatus_measured _ _ _
  have h5 : s5.now = s3.now ∧ s5.timebase = s3.timebase ∧ s5.gov.measured = t.measured ∧ s5.gov.dieTemp = t.dieTemp :=
    ⟨rfl, rfl, rfl, rfl⟩
  clear_value s10 s5 s3
  obtain ⟨hn, ht, -, -⟩ := h3
  obtain ⟨hn5, ht5, hm5, hd5⟩ := h5
  obtain ⟨hn', ht', hm, hd⟩ := h10
  exact ⟨s10, rfl, hn'.trans (hn5.trans hn), ht'.trans (ht5.trans ht), hm.trans hm5, hd.trans hd5, hs10⟩


/-! ### The timer tick, the power-cap pin and the effective limit (R40, R42, R57, R504) -/

theorem State.timerTick_due {s : State} (hd : s.dictUp = true) (ht : s.gov.lastTick + 10000000 ≤ s.now) (t : Telemetry) :
    s.timerTick t = s.governorTick t := if_pos ⟨hd, ht⟩

/-- Before 10 ms have passed no tick is due (R40). -/
theorem State.timerTick_early {s : State} (ht : s.now < s.gov.lastTick + 10000000) (t : Telemetry) :
    s.timerTick t = s := if_neg fun h => absurd h.2 (Nat.not_le.mpr ht)

theorem State.measureBudget_takes {s : State} {high period : Nat} (ha : s.alive = true) (h1 : 10000 ≤ period)
    (h2 : period ≤ 1000000) (h3 : 0 < high) (h4 : high < period) :
    s.measureBudget high period = { s with gov := { s.gov with
      pinCap := 60 + 120 * high / period, pinLast := 60 + 120 * high / period, pinFault := false, pwmAt := s.now } } :=
  if_pos ⟨ha, h1, h2, h3, h4⟩

/-- A period out of 1 to 100 kHz, or a pin that does not toggle, is no measurement (R504). -/
theorem State.measureBudget_ignores {s : State} {high period : Nat}
    (h : period < 10000 ∨ 1000000 < period ∨ high = 0 ∨ period ≤ high) : s.measureBudget high period = s :=
  if_neg fun ⟨_, h1, h2, h3, h4⟩ => by omega

theorem State.budgetLost_faults {s : State} (ha : s.alive = true) (hf : s.gov.pinFault = false)
    (ht : s.gov.pwmAt + 100000000 ≤ s.now) :
    s.budgetLost = ({ s with gov := { s.gov with pinCap := 60, pinFault := true } }).raisePin Event.CAP_PIN_FAULT
      s.gov.pinLast 0 := if_pos ⟨ha, hf, ht⟩

/-- The limit without a thermal limit is the cap, or the pin's where it is enabled and lower (R42). -/
theorem State.effectiveLimit_cool {s : State} (ht : s.gov.thermal = none) (hp : s.flag Dict.GOVERNOR_PIN_CAP_ENABLE = true) :
    s.effectiveLimit.1 = min (s.rd Dict.GOVERNOR_POWER_CAP * 1000) (s.gov.pinCap * 1000) := by
  simp only [State.effectiveLimit, ht, hp, Bool.true_and, decide_eq_true_eq]
  split
  · next hlt => exact (min_eq_right hlt.le).symm
  · next hge => exact (min_eq_left (Nat.not_lt.mp hge)).symm

/-- A thermal limit applies where it is below the cap (R45). -/
theorem State.effectiveLimit_hot {s : State} {limit : Nat} (ht : s.gov.thermal = some limit)
    (hp : s.flag Dict.GOVERNOR_PIN_CAP_ENABLE = false) :
    s.effectiveLimit.1 = min (s.rd Dict.GOVERNOR_POWER_CAP * 1000) limit := by
  simp only [State.effectiveLimit, ht, hp, Bool.false_and, Bool.false_eq_true, if_false]
  split
  · next hlt => exact (min_eq_right hlt.le).symm
  · next hge => exact (min_eq_left (Nat.not_lt.mp hge)).symm

theorem exec_governorTimerTick_next {s : State} (tel : Telemetry) (hd : s.begin.dictUp = true)
    (ht : s.begin.gov.lastTick + 10000000 ≤ s.begin.now) :
    ∃ t, exec (.governorTimerTick tel) s = .next t ∧ t.gov.lastTick = s.begin.now ∧
      t.gov.measured = tel.measured ∧ t.gov.dieTemp = tel.dieTemp ∧
      t.rd Dict.GOVERNOR_STATUS_MEASURED = tel.measured * 65536 / 1000 % 2 ^ 32 ∧
      t.now = s.now ∧ t.timebase = s.timebase := by
  obtain ⟨u, hu, hn, htb, hm, hdt, hr⟩ := s.begin.governorTick_takes tel
  exact ⟨_, congrArg Host.Outcome.next ((State.timerTick_due hd ht tel).trans hu), hn, hm, hdt, hr, hn, htb⟩

/-- Settles O14: the tick by the relation that its parts keep, the pin and the limit by their branches. -/
theorem governorTimers : Obligations.GovernorTimers :=
  ⟨fun _ tel hd ht => exec_governorTimerTick_next tel hd ht,
    fun _ tel ht => congrArg Host.Outcome.next (State.timerTick_early ht tel),
    fun _ _ _ ha h1 h2 h3 h4 => congrArg Host.Outcome.next (State.measureBudget_takes ha h1 h2 h3 h4),
    fun _ _ _ h => congrArg Host.Outcome.next (State.measureBudget_ignores h),
    fun _ ha hf ht => congrArg Host.Outcome.next (State.budgetLost_faults ha hf ht),
    fun _ ht hp => State.effectiveLimit_cool ht hp,
    fun _ _ ht hp => State.effectiveLimit_hot ht hp⟩

end Sys2Proof.Machine
end

-- ==== Proofs: ports and spare lanes (R62, R67, R264) ====
section
/-! PROOFS. The judgement of a port and of a spare, and O18. -/
namespace Sys2Proof.Machine
open Sys2Proof
set_option Elab.async false

/-! ### Ports and spare lanes (R62, R67, R264) -/

theorem State.portUp_starts {s : State} {p : Nat} (h : s.portRefusal p = none) : s.portUp p = .done (s.startPort p) := by
  simp only [State.portUp, h]

theorem State.portUp_refuses {s : State} {p : Nat} {r : Refuse} (h : s.portRefusal p = some r) : s.portUp p = .refused r s := by
  simp only [State.portUp, h]

theorem State.portDown_stops {s : State} {p : Nat} (h : s.flag Dict.PORT_ADMIN p = true) :
    s.portDown p = .done (((s.portLanes p).foldl (fun s l => if (s.ulaneAt l).state = .retired then s else s.setLane l .off)
      (s.wr Dict.PORT_ADMIN 0 p)).judgePortState p 1) := by
  simp only [State.portDown, h, if_true]

/-- A port that is down already keeps its lanes as they are. -/
theorem State.portDown_down {s : State} {p : Nat} (h : s.flag Dict.PORT_ADMIN p = false) :
    s.portDown p = .done ((s.wr Dict.PORT_ADMIN 0 p).judgePortState p 1) := by
  simp only [State.portDown, h, Bool.false_eq_true, if_false, List.foldl_nil]

theorem State.writeSpare_done {s : State} {l v : Nat} (h : s.judgeSpare l v = none) : s.writeSpare l v =
    .done ((s.wr Dict.U_LANE_SPARE_OF v l).putUlane l { s.ulaneAt l with surveyed := false }) := by
  simp only [State.writeSpare, h]
  rfl

theorem State.writeSpare_refused {s : State} {l v : Nat} {r : Refuse} (h : s.judgeSpare l v = some r) :
    s.writeSpare l v = .refused r s := by
  simp only [State.writeSpare, h]

theorem State.judgePort_untyped {s : State} {p : Nat} (h : s.rd Dict.PORT_TYPE p = 0) :
    s.judgePort p = some (.atField 0x12 (0x2280 + p) 2) :=
  firstOf_cons_true (beq_iff_eq.mpr h)

/-- The lanes of a port begin at a multiple of their count and lie below 52 (R67). -/
theorem State.judgePort_lanes {s : State} {p : Nat} (h : s.rd Dict.PORT_TYPE p ≠ 0)
    (hl : s.rd Dict.PORT_FIRST_LANE p % laneCount (s.rd Dict.PORT_TYPE p) ≠ 0 ∨
      52 < s.rd Dict.PORT_FIRST_LANE p + laneCount (s.rd Dict.PORT_TYPE p)) :
    s.judgePort p = some (.atField 0x12 (0x2280 + p) 3) :=
  (firstOf_cons_false (beq_false_of_ne h)).trans
    (firstOf_cons_true ((Bool.or_eq_true _ _).mpr (hl.imp bne_iff_ne.mpr decide_eq_true)))

theorem State.judgeSpare_owned {s : State} {l v p : Nat} (hv : v ≠ 0xFF)
    (h : (List.range 48).find? (fun p => (s.portLanes p).contains l) = some p) :
    s.judgeSpare l v = some (.atField 0x12 (0x2280 + p) 3) := by
  refine (if_neg hv).trans ?_
  rw [h]
  exact firstOf_cons_true rfl

/-- A generation that the type admits is taken, where it keeps the spares or there are none (R264). -/
theorem State.writeGeneration_done {s : State} {p v : Nat} (ha : generationAdmits v (s.rd Dict.PORT_TYPE p) = true)
    (hs : v = 2 ∨ s.sparesOf p = []) : s.writeGeneration p v = .done (s.wr Dict.PTL_GENERATION v 0 p) := by
  refine if_neg ?_
  rcases hs with rfl | hs
  · simp [ha]
  · simp [ha, hs]

theorem State.writeGeneration_refused {s : State} {p v : Nat}
    (h : generationAdmits v (s.rd Dict.PORT_TYPE p) = false ∨ v ≠ 2 ∧ s.sparesOf p ≠ []) :
    s.writeGeneration p v = .refused (.rule 0x58) s := by
  refine if_pos ?_
  rcases h with h | ⟨hv, hs⟩
  · simp [h]
  · simp [hv, hs]

/-- A value of one byte is written as it is. -/
theorem mod_byte (v : Fin 256) : v.val % 256 = v.val := Nat.mod_eq_of_lt v.isLt

/-- Settles O18: each write runs the effect of its field, and a judgement is its first test that fails. -/
theorem portFields : Obligations.PortFields :=
  ⟨fun _ _ _ hp h => congrArg Host.Outcome.next (State.writeScalar_accepts hp (State.portUp_starts h)),
    fun _ _ _ _ hp h => congrArg Host.Outcome.next (State.writeScalar_refuses hp (State.portUp_refuses h)),
    fun _ _ h => State.judgePort_untyped h,
    fun _ _ h hl => State.judgePort_lanes h hl,
    fun _ _ _ hp =>
      ⟨fun h => congrArg Host.Outcome.next (State.writeScalar_accepts hp (State.portDown_stops h)),
        fun h => congrArg Host.Outcome.next (State.writeScalar_accepts hp (State.portDown_down h))⟩,
    fun _ _ _ v hp h => congrArg Host.Outcome.next
      (State.writeScalar_accepts hp ((congrArg _ (mod_byte v)).trans (State.writeSpare_done h))),
    fun _ _ _ v _ hp h => congrArg Host.Outcome.next
      (State.writeScalar_refuses hp ((congrArg _ (mod_byte v)).trans (State.writeSpare_refused h))),
    fun _ _ => if_pos rfl,
    fun _ _ _ _ hv h => State.judgeSpare_owned hv h,
    fun _ _ p v hp ha hs => congrArg Host.Outcome.next
      (State.writeScalar_accepts hp ((congrArg _ (mod_byte v)).trans (State.writeGeneration_done ha hs))
        (hj := by have := p.isLt; show 0x20 + p.val ≤ 0x4F; omega)),
    fun _ _ p v hp h => congrArg Host.Outcome.next
      (State.writeScalar_refuses hp ((congrArg _ (mod_byte v)).trans (State.writeGeneration_refused h))
        (hj := by have := p.isLt; show 0x20 + p.val ≤ 0x4F; omega))⟩

end Sys2Proof.Machine
end

-- ==== Proofs: group ports (R73 to R79, R92) ====
section
/-! PROOFS. One equation for each branch of their commands, and O20. -/
namespace Sys2Proof.Machine
open Sys2Proof
set_option Elab.async false

/-! ### Group ports (R73 to R79, R92) -/

theorem State.groupUp_starts {s : State} {g : Nat} (h : s.judgeGroup g = none) : s.groupUp g = .done (s.startGroup g) := by
  simp only [State.groupUp, h]

theorem State.groupUp_refuses {s : State} {g : Nat} {r : Refuse} (h : s.judgeGroup g = some r) :
    s.groupUp g = .refused r s := by
  simp only [State.groupUp, h]

theorem State.driveHpd_of_receives {s : State} {g : Nat} (h : s.groupReceives g = true) :
    let level := s.flag Dict.GROUP_PORT_ADMIN g && !(s.groupAt g).edid.isEmpty && (s.groupAt g).hpdLowUntil == 0
    s.driveHpd g = ((s.wr Dict.GROUP_PORT_HPD level.toNat g).out (.pin 3 g level.toNat)).raiseIf
      (s.flag Dict.GROUP_PORT_HPD g != level) Event.HPD_CHANGE (0x400 + g) level.toNat := if_pos h

/-- A level of HPD is taken once it has stood for 100 ms. -/
theorem State.takeHpd_takes {s : State} {g : Nat} {p : PinLevel} (ha : s.alive = true) (hg : s.groupSends g = true)
    (hl : s.flag Dict.GROUP_PORT_HPD g ≠ p.high) (ht : 100000 ≤ p.us) :
    let u := (s.wr Dict.GROUP_PORT_HPD p.high.toNat g).raisePin Event.HPD_CHANGE (0x400 + g) p.high.toNat
    s.takeHpd g p = if p.high = true then u.out (.pin pinEdidRead g 1) else u := if_pos ⟨ha, hg, hl, ht⟩

theorem State.takeHpd_ignores {s : State} {g : Nat} {p : PinLevel}
    (h : s.flag Dict.GROUP_PORT_HPD g = p.high ∨ p.us < 100000) : s.takeHpd g p = s :=
  if_neg fun ⟨_, _, hl, ht⟩ => h.elim hl fun hu => absurd ht (Nat.not_le.mpr hu)

theorem State.takeIrqHpd_takes {s : State} {g us : Nat} (ha : s.alive = true) (hm : s.rd Dict.GROUP_PORT_MODE g = 4)
    (hf : s.flag Dict.GROUP_PORT_HPD g = true) (h1 : 500 ≤ us) (h2 : us ≤ 1000) :
    s.takeIrqHpd g us = s.out (.pin 2 g us) := if_pos ⟨ha, hm, hf, h1, h2⟩

theorem State.takeIrqHpd_ignores {s : State} {g us : Nat} (h : us < 500 ∨ 1000 < us) : s.takeIrqHpd g us = s :=
  if_neg fun ⟨_, _, _, h1, h2⟩ => by omega

theorem State.writeEdid_paced {s : State} {g : Nat} {data : List Byte}
    (h : ((s.wrDom Dict.GROUP_PORT_EDID data g).putGroup g { s.groupAt g with edidDue := true }).groupPaced g = true) :
    s.writeEdid g data =
      .done ((s.wrDom Dict.GROUP_PORT_EDID data g).putGroup g { s.groupAt g with edidDue := true }) :=
  congrArg Effect.done (if_pos h)

theorem State.writeEdid_live {s : State} {g : Nat} {data : List Byte}
    (h : ((s.wrDom Dict.GROUP_PORT_EDID data g).putGroup g { s.groupAt g with edidDue := true }).groupPaced g = false) :
    s.writeEdid g data = .done
      (((s.wrDom Dict.GROUP_PORT_EDID data g).putGroup g { s.groupAt g with edidDue := true }).takeGroupLive g) :=
  congrArg Effect.done (if_neg (Bool.eq_false_iff.mp h))

theorem State.releaseHpd_due {s : State} {g : Nat} (ha : s.alive = true) (h0 : (s.groupAt g).hpdLowUntil ≠ 0)
    (ht : (s.groupAt g).hpdLowUntil ≤ s.now) :
    s.releaseHpd g = (s.putGroup g { s.groupAt g with hpdLowUntil := 0 }).driveHpd g := if_pos ⟨ha, h0, ht⟩

theorem State.releaseHpd_early {s : State} {g : Nat} (ht : s.now < (s.groupAt g).hpdLowUntil) : s.releaseHpd g = s :=
  if_neg fun h => absurd h.2.2 (Nat.not_le.mpr ht)

theorem State.takeSinkEdid_takes {s : State} {g : Nat} {data : List Byte} (ha : s.alive = true)
    (hg : s.groupSends g = true) (hf : s.flag Dict.GROUP_PORT_HPD g = true) :
    s.takeSinkEdid g data = (s.wrDom Dict.GROUP_PORT_SINK_EDID (data.take 512) g).raise
      Event.SINK_EDID_CHANGED (0x400 + g) (data.take 512).length := if_pos ⟨ha, hg, hf⟩

theorem State.receiveCec_takes {s : State} {g : Nat} {data : List Byte} (ha : s.alive = true) (hd : data ≠ []) :
    s.receiveCec g data = if bit (s.groupAt g).cec (byteAt data 0 % 16)
      then (s.wrDom Dict.GROUP_PORT_CEC_RX (data.take 16) g).out (.pin 4 g (byteAt data 0 % 16))
      else s.wrDom Dict.GROUP_PORT_CEC_RX (data.take 16) g := if_pos ⟨ha, hd⟩

theorem State.authenticate_takes {s : State} {g depth : Nat} {ids : List (List Byte)} (ha : s.alive = true)
    (hh : s.rd Dict.GROUP_PORT_HDCP_STATE g = 1) (hk : s.rd Dict.KEY_STORE_HDCP_STATE = 1)
    (hl : ids.length ≤ 31) (hd : depth ≤ 4) :
    s.authenticate g depth ids =
      (((s.putGroup g { s.groupAt g with devices := ids.length, hdcpDown := ids, depth := depth }).wr
        Dict.GROUP_PORT_HDCP_STATE 2 g).raise Event.HDCP_AUTHENTICATED (0x400 + g) ids.length).tellUpstream :=
  if_pos ⟨ha, hh, hk, hl, hd⟩

/-- More than 31 devices or 4 levels of repeaters are no authentication. -/
theorem State.authenticate_too_many {s : State} {g depth : Nat} {ids : List (List Byte)}
    (h : 31 < ids.length ∨ 4 < depth) : s.authenticate g depth ids = s :=
  if_neg fun ⟨_, _, _, hl, hd⟩ => by omega

theorem State.authenticate_without_keys {s : State} {g depth : Nat} {ids : List (List Byte)}
    (h : s.rd Dict.KEY_STORE_HDCP_STATE ≠ 1) : s.authenticate g depth ids = s :=
  if_neg fun ⟨_, _, hk, _⟩ => h hk

theorem State.failHdcp_fails {s : State} {g st : Nat} (ha : s.alive = true)
    (hv : s.rd Dict.GROUP_PORT_HDCP_STATE g = 1 ∨ s.rd Dict.GROUP_PORT_HDCP_STATE g = 2) :
    s.failHdcp g st = (((s.putGroup g { s.groupAt g with devices := 0, hdcpDown := [], depth := 0 }).wr
      Dict.GROUP_PORT_HDCP_STATE 3 g).raise Event.HDCP_FAILED (0x400 + g) st).tellUpstream := if_pos ⟨ha, hv⟩

theorem State.failLink_fails {s : State} {g rate : Nat} (ha : s.alive = true) (hs : s.rd Dict.GROUP_PORT_STATE g = 1)
    (hm : s.rd Dict.GROUP_PORT_MODE g ≤ 4) :
    s.failLink g rate = (s.putGroup g { s.groupAt g with lastRate := min rate (s.rd Dict.GROUP_PORT_MAX_RATE g) }).raise
      Event.DLINK_TRAIN_FAIL (0x400 + g) (min rate (s.rd Dict.GROUP_PORT_MAX_RATE g) / 1000) := if_pos ⟨ha, hs, hm⟩

theorem State.takeEdid_receives {s : State} {g : Nat} (h : s.groupReceives g = true) :
    let d := s.dom Dict.GROUP_PORT_EDID g
    let v := s.putGroup g { s.groupAt g with edid := d, edidDue := false }
    s.takeEdid g = ((v.putGroup g { v.groupAt g with hpdLowUntil := s.now + 200000000 }).out
      (.packet packetEdid g d)).driveHpd g := if_pos h

theorem State.takeEdid_sends {s : State} {g : Nat} (h : s.groupReceives g = false) :
    s.takeEdid g = s.putGroup g { s.groupAt g with edid := s.dom Dict.GROUP_PORT_EDID g, edidDue := false } :=
  if_neg (Bool.eq_false_iff.mp h)

/-- Settles O20: each command by the branch that its premises choose. -/
theorem groupPorts : Obligations.GroupPorts :=
  ⟨fun _ _ _ hp h => congrArg Host.Outcome.next (State.writeScalar_accepts hp (State.groupUp_starts h)),
    fun _ _ _ _ hp h => congrArg Host.Outcome.next (State.writeScalar_refuses hp (State.groupUp_refuses h)),
    fun _ _ _ hp => congrArg Host.Outcome.next (State.writeScalar_accepts hp rfl),
    fun _ _ h => State.driveHpd_of_receives h,
    fun _ _ _ ha hg => ⟨fun hl ht => congrArg Host.Outcome.next (State.takeHpd_takes ha hg hl ht),
      fun h => congrArg Host.Outcome.next (State.takeHpd_ignores h)⟩,
    fun _ _ _ ha hm hf => ⟨fun h1 h2 => congrArg Host.Outcome.next (State.takeIrqHpd_takes ha hm hf h1 h2),
      fun h => congrArg Host.Outcome.next (State.takeIrqHpd_ignores h)⟩,
    fun _ _ _ _ hp =>
      ⟨fun h => congrArg Host.Outcome.next (State.writeBlock_accepts hp (State.writeEdid_paced h)),
        fun h => congrArg Host.Outcome.next (State.writeBlock_accepts hp (State.writeEdid_live h))⟩,
    fun _ _ => ⟨fun h => State.takeEdid_receives h, fun h => State.takeEdid_sends h⟩,
    fun _ _ ha h0 => ⟨fun ht => congrArg Host.Outcome.next (State.releaseHpd_due ha h0 ht),
      fun ht => congrArg Host.Outcome.next (State.releaseHpd_early ht)⟩,
    fun _ _ _ ha hg hf => congrArg Host.Outcome.next (State.takeSinkEdid_takes ha hg hf),
    fun _ _ _ _ hp => congrArg Host.Outcome.next (State.writeBlock_accepts hp rfl),
    fun _ _ _ ha hd => ⟨fun h => congrArg Host.Outcome.next ((State.receiveCec_takes ha hd).trans (if_pos h)),
      fun h => congrArg Host.Outcome.next ((State.receiveCec_takes ha hd).trans (if_neg (Bool.eq_false_iff.mp h)))⟩,
    fun _ _ _ _ ha hh hk => ⟨fun hl hd => congrArg Host.Outcome.next (State.authenticate_takes ha hh hk hl hd),
      fun h => congrArg Host.Outcome.next (State.authenticate_too_many h)⟩,
    fun _ _ _ _ h => congrArg Host.Outcome.next (State.authenticate_without_keys h),
    fun _ _ _ ha hv => congrArg Host.Outcome.next (State.failHdcp_fails ha hv),
    fun _ _ _ ha hs hm => congrArg Host.Outcome.next (State.failLink_fails ha hs hm)⟩

end Sys2Proof.Machine
end

-- ==== Proofs: PCIe and the management links (R80 to R91) ====
section
/-! PROOFS. One equation for each branch of their commands, and O21. -/
namespace Sys2Proof.Machine
open Sys2Proof
set_option Elab.async false

/-! ### PCIe (R80 to R88) -/

theorem State.pcieUp_alive {s : State} (ha : s.alive = true) (speed width : Nat) :
    let v := min speed (s.rd Dict.PCIE_TARGET_SPEED)
    s.pcieUp speed width = ((((s.wr Dict.PCIE_LINK_STATE 2).wr Dict.PCIE_LINK_SPEED v).wr Dict.PCIE_LINK_WIDTH
      width).judgeHosts.raise Event.PCIE_LINK_UP 0x500 (v * 256 + width)) := if_pos ha

theorem State.pcieDown_up {s : State} (ha : s.alive = true) (hl : s.rd Dict.PCIE_LINK_STATE = 2) (ltssm : Nat) :
    s.pcieDown ltssm = ((((s.wr Dict.PCIE_LINK_STATE 0).wr Dict.PCIE_LINK_SPEED 0).wr Dict.PCIE_LINK_WIDTH
      0).judgeHosts.raise Event.PCIE_LINK_DOWN 0x500 ltssm).dropRights 3 3 := if_pos ⟨ha, hl⟩

theorem State.aer_uncorrectable {s : State} (ha : s.alive = true) (status : Nat) :
    s.aer true status = (s.inc Dict.PCIE_AER_UNCORRECTABLE).raise Event.PCIE_AER 0x500 status := if_pos ha

theorem State.aer_correctable {s : State} (ha : s.alive = true) (status : Nat) :
    s.aer false status = (s.inc Dict.PCIE_AER_CORRECTABLE).raise Event.PCIE_AER 0x500 status := if_pos ha

/-- A read that runs past the end of the window is answered with all ones, and counted. -/
theorem State.bar2_read_outside {s : State} {offset length : Nat} (ha : s.alive = true)
    (hl : s.rd Dict.PCIE_LINK_STATE = 2) (h : s.dramSetting 4 * 1048576 < offset + length) (data : List Byte) :
    s.bar2 false offset length data = ((s.out (.packet 6 0 (List.replicate length 0xFF))).inc
      Dict.PCIE_DRAM_WINDOW_FAULTS).raise Event.PCIE_WINDOW_FAULT 0x500 (offset / 1048576) :=
  (if_pos ⟨ha, hl⟩).trans (if_neg (Nat.not_le.mpr h))

/-- A write that runs past the end of the window is dropped, and counted. -/
theorem State.bar2_write_outside {s : State} {offset : Nat} {data : List Byte} (ha : s.alive = true)
    (hl : s.rd Dict.PCIE_LINK_STATE = 2) (h : s.dramSetting 4 * 1048576 < offset + data.length) (length : Nat) :
    s.bar2 true offset length data =
      (s.inc Dict.PCIE_DRAM_WINDOW_FAULTS).raise Event.PCIE_WINDOW_FAULT 0x500 (offset / 1048576) :=
  (if_pos ⟨ha, hl⟩).trans (if_neg (Nat.not_le.mpr h))

theorem State.refuseDevice_enabled {s : State} {k : Nat} (ha : s.alive = true)
    (hk : bit (s.rd Dict.PCIE_RP_ENABLE) k = true) : s.refuseDevice k = s.wr Dict.PCIE_RP_STATE 3 0 k := if_pos ⟨ha, hk⟩

/-! ### The management links (R89 to R91) -/

theorem State.mgmtLink_changes {s : State} {v : Nat} (ha : s.alive = true) (h : s.rd Dict.MANAGEMENT_MGMT_SPEED ≠ v) :
    s.mgmtLink v = (s.wr Dict.MANAGEMENT_MGMT_SPEED v).raise Event.MGMT_LINK
      (0x600 + Config.interfaceNumber 0 % 256) v := if_pos ⟨ha, h⟩

theorem State.mgmtLink_same {s : State} {v : Nat} (h : s.rd Dict.MANAGEMENT_MGMT_SPEED = v) : s.mgmtLink v = s :=
  if_neg fun hc => hc.2 h

/-- A CAN interface is named by its number. -/
theorem mgmtCode_can (i : Fin 2) : mgmtCode i = 0x600 + i.val :=
  congrArg (0x600 + ·) (Nat.mod_eq_of_lt (i.isLt.trans (by decide)))

theorem State.busOff_goes {s : State} {i : Nat} (ha : s.alive = true) (h : s.canState i ≠ 2) (tec : Nat) :
    s.busOff i tec = (((s.setCanState i 2).putCan i { s.canAt i with offAt := s.now }).raise Event.CAN_BUS_OFF
      (mgmtCode i) tec).dropRights i 3 := if_pos ⟨ha, h⟩

/-- Timing that has not changed is not told. -/
theorem State.tellTiming_same (s : State) : s.tellTiming ([0, 1].map s.canTiming) = s := by
  simp [State.tellTiming]

section
variable {s : State} {i : Nat} {e : CanCounts} (ha : s.alive = true)
include ha

theorem State.errorPassive_bus_on (h : s.canState i ≠ 2) :
    s.errorPassive i e = if 128 ≤ e.transmit ∨ 128 ≤ e.receive then
      (if s.canState i = 1 then s else (s.setCanState i 1).raise Event.CAN_ERROR_PASSIVE (mgmtCode i) e.transmit)
      else s.setCanState i 0 :=
  (if_neg (Bool.not_eq_false _ ▸ ha)).trans (if_neg h)

theorem State.errorPassive_bus_off (h : s.canState i = 2) :
    s.errorPassive i e = if e.transmit = 0 ∧ e.receive = 0 ∧ s.canRecovers i then s.setCanState i 0 else s :=
  (if_neg (Bool.not_eq_false _ ▸ ha)).trans (if_pos h)

theorem State.errorPassive_enters (h : s.canState i = 0 ∨ s.canState i = 3) (he : 128 ≤ e.transmit ∨ 128 ≤ e.receive) :
    s.errorPassive i e = (s.setCanState i 1).raise Event.CAN_ERROR_PASSIVE (mgmtCode i) e.transmit :=
  (State.errorPassive_bus_on ha (by omega)).trans ((if_pos he).trans (if_neg (by omega)))

theorem State.errorPassive_active (h : s.canState i ≠ 2) (h1 : e.transmit < 128) (h2 : e.receive < 128) :
    s.errorPassive i e = s.setCanState i 0 :=
  (State.errorPassive_bus_on ha h).trans (if_neg (by omega))

theorem State.errorPassive_stays (h : s.canState i = 1) (he : 128 ≤ e.transmit ∨ 128 ≤ e.receive) :
    s.errorPassive i e = s :=
  (State.errorPassive_bus_on ha (by omega)).trans ((if_pos he).trans (if_pos h))

theorem State.errorPassive_recovers (h : s.canState i = 2) (hr : s.canRecovers i = true) (h1 : e.transmit = 0)
    (h2 : e.receive = 0) : s.errorPassive i e = s.setCanState i 0 :=
  (State.errorPassive_bus_off ha h).trans (if_pos ⟨h1, h2, hr⟩)

/-- A bus that is off recovers only after 128 times 11 bits with both counts at 0 (R89). -/
theorem State.errorPassive_off (h : s.canState i = 2)
    (hr : s.canRecovers i = false ∨ e.transmit ≠ 0 ∨ e.receive ≠ 0) : s.errorPassive i e = s :=
  (State.errorPassive_bus_off ha h).trans (if_neg fun ⟨h1, h2, h3⟩ =>
    hr.elim (fun h0 => Bool.noConfusion (h0.symm.trans h3)) fun h0 => h0.elim (· h1) (· h2))

/-- While the one field waits, nothing is taken and the CAN timing is the same. -/
theorem State.applyMgmt_early {key v due : Nat} (hw : s.mgmtWait = [(key, v, due)]) (ht : s.now < due) :
    s.applyMgmt = s := by
  refine (if_pos ha).trans ?_
  have hs : { s with mgmtWait := [(key, v, due)] } = s := hw ▸ rfl
  simp only [hw, List.filter_cons, decide_eq_true ht, decide_eq_false (Nat.not_le.mpr ht), List.filter_nil,
    Bool.false_eq_true, if_true, if_false, List.foldl_nil, hs]
  exact s.tellTiming_same

/-- The one field that waits is taken when its 100 ms are over, and the CAN timing that it changes is told (R91). -/
theorem State.applyMgmt_due {key v due : Nat} (hw : s.mgmtWait = [(key, v, due)]) (ht : due ≤ s.now) :
    s.applyMgmt = State.tellTiming { s.setReg key v with mgmtWait := [] } [s.canTiming 0, s.canTiming 1] := by
  refine (if_pos ha).trans ?_
  simp only [hw, List.filter_cons, decide_eq_true ht, decide_eq_false (Nat.not_lt.mpr ht), List.filter_nil,
    Bool.false_eq_true, if_true, if_false, List.foldl_cons, List.foldl_nil]
  rfl

end

/-- The field of one interface holds what is written, and the other's is kept. -/
theorem State.setCanState_canState (s : State) (v : Fin 4) :
    (s.setCanState 0 v).canState 0 = v ∧ (s.setCanState 1 v).canState 1 = v ∧
      (s.setCanState 0 v).canState 1 = s.canState 1 ∧ (s.setCanState 1 v).canState 0 = s.canState 0 := by
  have hv := v.isLt
  have h0 : (s.setCanState 0 v).rd Dict.MANAGEMENT_CAN_STATE = (s.rd Dict.MANAGEMENT_CAN_STATE / 4 * 4 + v) % 2 ^ (8 * 1) :=
    State.wr_rd ..
  have h1 : (s.setCanState 1 v).rd Dict.MANAGEMENT_CAN_STATE = (s.rd Dict.MANAGEMENT_CAN_STATE % 4 + 4 * v) % 2 ^ (8 * 1) :=
    State.wr_rd ..
  simp only [State.canState, h0, h1]
  omega

/-- Settles O21: each command by the branch that its premises choose. -/
theorem pcieAndManagementLinks : Obligations.PcieAndManagementLinks :=
  ⟨fun _ _ _ ha => congrArg Host.Outcome.next (State.pcieUp_alive ha _ _),
    fun _ _ ha hl => congrArg Host.Outcome.next (State.pcieDown_up ha hl _),
    fun _ _ => rfl,
    fun _ _ ha => ⟨congrArg Host.Outcome.next (State.aer_uncorrectable ha _),
      congrArg Host.Outcome.next (State.aer_correctable ha _)⟩,
    fun _ _ _ _ ha hl _ => ⟨fun h => congrArg Host.Outcome.next (State.bar2_read_outside ha hl h _),
      fun h => congrArg Host.Outcome.next (State.bar2_write_outside ha hl h _)⟩,
    fun _ _ _ hp => congrArg Host.Outcome.next (State.writeScalar_accepts hp rfl),
    fun _ _ ha hk => congrArg Host.Outcome.next (State.refuseDevice_enabled ha hk),
    fun _ _ ha => ⟨fun h => congrArg Host.Outcome.next (State.mgmtLink_changes ha h),
      fun h => congrArg Host.Outcome.next (State.mgmtLink_same h)⟩,
    fun _ i _ ha h => congrArg Host.Outcome.next (mgmtCode_can i ▸ State.busOff_goes ha h _),
    fun _ i _ ha h he => congrArg Host.Outcome.next (mgmtCode_can i ▸ State.errorPassive_enters ha h he),
    fun _ _ _ ha => ⟨fun h h1 h2 => congrArg Host.Outcome.next (State.errorPassive_active ha h h1 h2),
      fun h he => congrArg Host.Outcome.next (State.errorPassive_stays ha h he),
      fun h hr h1 h2 => congrArg Host.Outcome.next (State.errorPassive_recovers ha h hr h1 h2),
      fun h hr => congrArg Host.Outcome.next (State.errorPassive_off ha h hr)⟩,
    fun s v => s.setCanState_canState v,
    fun _ _ _ _ ha hw => ⟨fun ht => congrArg Host.Outcome.next (State.applyMgmt_due ha hw ht),
      fun ht => congrArg Host.Outcome.next (State.applyMgmt_early ha hw ht)⟩⟩

end Sys2Proof.Machine
end

-- ==== Proofs: video inputs (R93 to R115) ====
section
/-! PROOFS. The end of a frame, packets and signals of an input, and O22. -/
namespace Sys2Proof.Machine
open Sys2Proof
set_option Elab.async false

/-! ### Video inputs are enabled and disabled (R93) -/

theorem State.enableInput_on {s : State} {n : Nat} (h : s.flag Dict.INPUT_ENABLE n = true) : s.enableInput n = .done s := if_pos h

theorem State.enableInput_starts {s : State} {n : Nat} (h : s.flag Dict.INPUT_ENABLE n = false) (hj : s.judgeInput n = none) :
    s.enableInput n = .done ((((s.wr Dict.INPUT_ENABLE 1 n).takeStore n).countMotion).applyInput n) := by
  simp only [State.enableInput, h, hj, Bool.false_eq_true, if_false]

theorem State.enableInput_refuses {s : State} {n : Nat} {r : Refuse} (h : s.flag Dict.INPUT_ENABLE n = false)
    (hj : s.judgeInput n = some r) : s.enableInput n = .refused r s := by
  simp only [State.enableInput, h, hj, Bool.false_eq_true, if_false]

theorem State.disableInput_stops {s : State} {n : Nat} (h : s.flag Dict.INPUT_ENABLE n = true) :
    s.disableInput n = .done (((s.wr Dict.INPUT_ENABLE 0 n).countMotion).applyInput n) := if_pos h

theorem State.disableInput_off {s : State} {n : Nat} (h : s.flag Dict.INPUT_ENABLE n = false) :
    s.disableInput n = .done s := if_neg (Bool.eq_false_iff.mp h)

/-! ### The frames of an input (R99 to R109) -/

theorem State.frameDamaged_of_whole {s : State} {n : Nat} (h : (s.inputAt n).damaged = false) : s.frameDamaged n = false := by
  simp only [State.frameDamaged, h, Bool.false_and]

theorem State.damageFrame_eq {s : State} {n : Nat} (h : s.frameDamaged n = false) (line cause : Nat) :
    s.damageFrame n line cause = (((s.putInput n { s.inputAt n with
      damaged := true, damagedLine := line, damagedAt := s.timebase, cause := cause
      nextFrame := (s.inputAt n).nextFrame + 1, sawFrame := true
      intact := 0, clean := 0 }).inc Dict.INPUT_FRAMES_DAMAGED n).raise Event.INPUT_FRAME_DAMAGED (0x100 + n) line).bandBreaks
        n line := if_neg (Bool.eq_false_iff.mp h)

/-- What a band that breaks leaves of the inputs and the time. -/
theorem State.bandBreaks_keeps (s : State) (n line : Nat) :
    (s.bandBreaks n line).inputs = s.inputs ∧ (s.bandBreaks n line).timebase = s.timebase :=
  iteInduction (motive := fun u : State => u.inputs = s.inputs ∧ u.timebase = s.timebase)
    (fun _ => ⟨foldl_same State.inputs _ fun _ _ => rfl, foldl_same State.timebase _ fun _ _ => rfl⟩) fun _ => ⟨rfl, rfl⟩

/-- A frame with a damage counts as damaged from there on. -/
theorem State.damageFrame_frameDamaged (s : State) (n line cause : Nat) :
    (s.damageFrame n line cause).frameDamaged n = true := by
  by_cases h : s.frameDamaged n = true
  · exact (congrArg (State.frameDamaged · n) (if_pos h)).trans h
  · rw [State.damageFrame_eq (Bool.eq_false_iff.mpr h)]
    obtain ⟨hi, ht⟩ := State.bandBreaks_keeps (((s.putInput n { s.inputAt n with
      damaged := true, damagedLine := line, damagedAt := s.timebase, cause := cause
      nextFrame := (s.inputAt n).nextFrame + 1, sawFrame := true
      intact := 0, clean := 0 }).inc Dict.INPUT_FRAMES_DAMAGED n).raise Event.INPUT_FRAME_DAMAGED (0x100 + n) line) n line
    have hv := (congrArg (fun m => Store.read initialInput m n) hi).trans (State.putInput_inputAt s n _)
    have hd := congrArg Input.damaged hv
    have ha := congrArg Input.damagedAt hv
    simp only [State.frameDamaged, Bool.and_eq_true, decide_eq_true_eq]
    exact ⟨hd, ht.le.trans (ha.ge.trans (Nat.le_add_right _ _))⟩

section
variable {s v w : State} {n : Nat} {f : InputFrame} (ha : s.alive = true) (h1 : 1 ≤ s.rd Dict.INPUT_HEALTH n)
  (ht : s.rd Dict.INPUT_TRANSPORT n < 3)
  (hv : v = (s.wr Dict.INPUT_MEASURED_RATE f.rate n).wr Dict.INPUT_PROTECTED f.isProtected.toNat n)
  (hs : v.rtpStepBad n f.rtp = false) (hw : w = v.putInput n { s.inputAt n with stepBad := false })
include ha h1 ht hv hs hw

/-- The end of a frame of packets that is in step with the ones before (R100). -/
theorem State.endInputFrame_packets {x y : State} (hx : x = f.damage.elim w fun line => w.damageFrame n line 2)
    (hy : y = if x.frameDamaged n then x.endDamaged n (s.inputAt n).errorsNow f.rtp
      else ((x.bandArrives n (x.storedRaster n).2 (x.ingested n f.picture)).takeFrame n (x.ingested n f.picture)
        (s.inputAt n).errorsNow f.rtp).capture (0x100 + n) (x.inputPeriod n) (x.ingested n f.picture)) :
    s.endInputFrame n f = y.groupFrame (y.groupOfInput n) := by
  unfold State.endInputFrame
  extract_lets h dlane m s1 s2 differs step s3 followed errors s4 p s5
  have hd : dlane = false := decide_eq_false (by omega)
  have h2 : s2 = v := (if_neg (Bool.eq_false_iff.mp hd)).trans hv.symm
  have hdiff : differs = false := by simp only [differs, hd, Bool.false_and]
  have hstep : step = false := by simp only [step, hd, h2, hs, Bool.not_false, Bool.and_false]
  have h3 : s3 = w := by
    simp only [s3, h2, hstep, hw]
    subst hv
    rfl
  have hfol : followed = false := by simp only [followed, hd, Bool.false_and]
  have herr : errors = (s.inputAt n).errorsNow := by
    simp only [errors, h3, hd, Bool.false_and, Bool.or_false, hw, State.putInput_inputAt]
  have h4 : s4 = x := by
    simp only [s4, hdiff, hstep, h3, hx, Bool.false_eq_true, or_self, if_false]
    cases f.damage with
    | none => rfl
    | some line => rfl
  have h5 : s5 = y := by
    simp only [s5, p, h4, herr, hfol, hy, Bool.not_false, Bool.and_true]
  refine (if_pos ⟨ha, h1⟩).trans ?_
  simp only [hd, h5, Bool.false_eq_true, if_false]

/-- A frame without a damage is taken. -/
theorem State.endInputFrame_whole {p : Raster} {z : State} (hw0 : (s.inputAt n).damaged = false) (hf : f.damage = none)
    (hp : p = w.ingested n f.picture) (hz : z = ((w.bandArrives n (w.storedRaster n).2 p).takeFrame n p
      (s.inputAt n).errorsNow f.rtp).capture (0x100 + n) (w.inputPeriod n) p) :
    s.endInputFrame n f = z.groupFrame (z.groupOfInput n) := by
  refine State.endInputFrame_packets ha h1 ht hv hs hw (x := w) (by rw [hf]; rfl) ?_
  have hwd : w.frameDamaged n = false := State.frameDamaged_of_whole (by
    rw [hw, State.putInput_inputAt]
    exact hw0)
  rw [hwd, hz, hp]
  rfl

/-- A frame with a damage is given up at its end. -/
theorem State.endInputFrame_damaged {d e : State} {line : Nat} (hf : f.damage = some line)
    (hd : d = (w.damageFrame n line 2).modInput n (fun i => { i with
      damaged := false, bandLines := 0, band := Raster.init, errorsNow := false, gapSeen := false
      lastRtp := f.rtp % 2 ^ 32 + 1 }))
    (he : e = if (s.inputAt n).errorsNow = true ∧ d.rd Dict.INPUT_HEALTH n = 2 then d.degrade n true false else d) :
    s.endInputFrame n f = e.groupFrame (e.groupOfInput n) := by
  refine State.endInputFrame_packets ha h1 ht hv hs hw (x := w.damageFrame n line 2) (by rw [hf]; rfl) ?_
  rw [State.damageFrame_frameDamaged, he, hd]
  rfl

end

/-! ### Frames that do not come, signals and packets (R95 to R114) -/

section
variable {s : State} {n : Nat}

theorem State.missInputFrame_due (ha : s.alive = true) (h1 : 1 ≤ s.rd Dict.INPUT_HEALTH n)
    (ht : (s.inputAt n).lastIntactAt + s.inputPeriod n ≤ s.timebase) {w : State}
    (hw : w = (s.putInput n { s.inputAt n with
      missing := (s.inputAt n).missing + 1, intact := 0, clean := 0, sawFrame := false
      nextFrame := if (s.inputAt n).sawFrame then (s.inputAt n).nextFrame else (s.inputAt n).nextFrame + 1
      lastIntactAt := (s.inputAt n).lastIntactAt + s.inputPeriod n }).inc Dict.INPUT_FRAMES_MISSING n) :
    s.missInputFrame n = if (s.rd Dict.INPUT_HEALTH n = 2 ∨ s.rd Dict.INPUT_HEALTH n = 3) ∧ 1 ≤ (s.inputAt n).missing
      then w.loseInput n else w := hw ▸ if_pos ⟨ha, h1, ht⟩

theorem State.loseSignal_dlane (ha : s.alive = true) (h1 : 1 ≤ s.rd Dict.INPUT_HEALTH n)
    (h : 3 ≤ s.rd Dict.INPUT_TRANSPORT n) (line : Nat) : s.loseSignal n line = s.damageFrame n line 1 := if_pos ⟨ha, h1, h⟩

theorem State.loseSignal_packets (h : s.rd Dict.INPUT_TRANSPORT n < 3) (line : Nat) : s.loseSignal n line = s :=
  if_neg fun hc => absurd hc.2.2 (Nat.not_le.mpr h)

/-- The only path of an input is lost after its gap, and the frame is damaged. -/
theorem State.losePath_alone {path : Nat} (ha : s.alive = true) (h1 : 1 ≤ s.rd Dict.INPUT_HEALTH n)
    (hb : bit (s.rd Dict.INPUT_PATH_STATE n) path = true) (h0 : (s.inputAt n).pathTime path ≠ 0)
    (ht : (s.inputAt n).pathTime path - 1 + s.rd Dict.INPUT_GAP_TIMEOUT n * 1000 ≤ s.now)
    (hp : s.rd Dict.INPUT_PORT_B n = 0xFF) (line : Nat) :
    s.losePath n path line =
      ((s.wr Dict.INPUT_PATH_STATE (putBit (s.rd Dict.INPUT_PATH_STATE n) path false) n).damageFrame n line 4).modInput n
        (fun i => { i with packets := [], nextSeq := 0, buffer := [], lines := 0, gapSeen := true }) := by
  have hw : (s.wr Dict.INPUT_PATH_STATE (putBit (s.rd Dict.INPUT_PATH_STATE n) path false) n).rd Dict.INPUT_PORT_B n = 0xFF :=
    (State.wr_rd_ne _ _ _ _ _ _ _ _ (by simp [EntryDef.key])).trans hp
  refine (if_pos ⟨ha, h1, hb, h0, ht⟩).trans ?_
  simp only [hw, bne_self_eq_false, State.raiseIf, Bool.false_eq_true, false_and, if_false]

theorem State.losePath_early {path : Nat}
    (ht : s.now < (s.inputAt n).pathTime path - 1 + s.rd Dict.INPUT_GAP_TIMEOUT n * 1000) (line : Nat) :
    s.losePath n path line = s := if_neg fun ⟨_, _, _, _, h⟩ => absurd h (Nat.not_le.mpr ht)

theorem State.findSignal_acquires {m : List Byte} (ha : s.alive = true) (hh : s.rd Dict.INPUT_HEALTH n = 4)
    (hm : s.rd Dict.INPUT_TRANSPORT n ≤ 2 ∧ (s.inputAt n).stepBad = false ∨
      3 ≤ s.rd Dict.INPUT_TRANSPORT n ∧ s.formatDiffers n m = false) :
    s.findSignal n m = ((s.putInput n { s.inputAt n with
      intact := 0, clean := 0, missing := 0, damaged := false, cause := 0, lastRtp := 0, lastIntactAt := s.timebase
      carried := none }).setHealth n 1).raise Event.INPUT_ACQUIRING (0x100 + n) 4 := by
  have hs : s.signalMatches n m = true := by
    rcases hm with ⟨h2, hb⟩ | ⟨h3, hf⟩
    · exact (if_pos h2).trans (congrArg not hb)
    · exact (if_neg (by omega)).trans (congrArg not hf)
  exact (if_pos ⟨ha, hh, hs⟩).trans (congrArg (State.raise _ _ _) hh)

/-- A packet on the only path of an input is counted, and its sequence number is judged. -/
theorem State.receiveRtp_alone {p : RtpPacket} {w : State} (ha : s.alive = true) (h1 : 1 ≤ s.rd Dict.INPUT_HEALTH n)
    (hs : 2 ≤ s.rd Dict.PORT_STATE p.port) (hp : s.pathOf n p = some 0) (hb : s.rd Dict.INPUT_PORT_B n = 0xFF)
    (hw : w = ((s.inc Dict.PORT_RX_FRAMES p.port).wr Dict.INPUT_PATH_STATE
      (putBit (s.rd Dict.INPUT_PATH_STATE n) 0 true) n).modInput n fun i =>
        { i with pathAt := Store.write (fun _ => 0) i.pathAt 0 (s.now + 1) }) :
    s.receiveRtp n p = if w.bufferOverflows n p then w else w.bufferPacket n p := by
  refine (if_pos ⟨ha, h1, hs⟩).trans ?_
  simp only [hp, hb, bne_self_eq_false, Bool.false_and, State.raiseIf, Bool.false_eq_true, if_false, hw]
  rfl

theorem State.receiveRtp_foreign {p : RtpPacket} (hp : s.pathOf n p = none) : s.receiveRtp n p = s := by
  simp only [State.receiveRtp, hp, ite_self]

theorem State.bufferPacket_late {p : RtpPacket} (h : (s.inputAt n).late (p.seq % 65536) = true) : s.bufferPacket n p = s :=
  if_pos (.inl h)

theorem State.gapOver_alone (h : s.rd Dict.INPUT_PORT_B n = 0xFF) : s.gapOver n =
    decide (Config.receiveBuffer (s.rd Dict.INPUT_RX_TIMING n) < (s.inputAt n).buffer.length) := if_pos h

/-- A packet in its turn does not stay in the buffer. -/
theorem Input.drain_next {i : Input} {q x : Nat} (hb : i.buffer = []) (hx : x = q + 1) (at_ lines : Nat) :
    Input.drain { i with nextSeq := x, buffer := [(q, at_, lines)] } 1 =
      { i with nextSeq := (q + 1) % 65536 + 1, lines := lines } := by
  simp [Input.drain, hb, hx]

/-- A packet that comes to an empty buffer waits there alone or goes through. -/
theorem State.bufferPacket_first {p : RtpPacket} (hl : (s.inputAt n).late (p.seq % 65536) = false)
    (hb : (s.inputAt n).buffer = []) {u : State}
    (hu : u = s.putInput n ({ s.inputAt n with
      nextSeq := if (s.inputAt n).nextSeq = 0 then p.seq % 65536 + 1 else (s.inputAt n).nextSeq
      buffer := [(p.seq % 65536, s.now, p.lines)] }.drain 1)) :
    s.bufferPacket n p = if u.gapOver n then u.closeGap n else u := by
  simp only [State.bufferPacket, hl, hb, List.any_nil, Bool.false_eq_true, or_self, if_false, List.nil_append,
    List.length_singleton, ← hu]
  rfl

/-- The next packet in order goes through. -/
theorem State.bufferPacket_in_order {p : RtpPacket} (hl : (s.inputAt n).late (p.seq % 65536) = false)
    (hb : (s.inputAt n).buffer = []) (hB : s.rd Dict.INPUT_PORT_B n = 0xFF)
    (hn : (s.inputAt n).nextSeq = p.seq % 65536 + 1 ∨ (s.inputAt n).nextSeq = 0) :
    s.bufferPacket n p = s.putInput n { s.inputAt n with
      nextSeq := (p.seq % 65536 + 1) % 65536 + 1, lines := p.lines } := by
  have hx : (if (s.inputAt n).nextSeq = 0 then p.seq % 65536 + 1 else (s.inputAt n).nextSeq) = p.seq % 65536 + 1 := by
    split <;> omega
  refine (State.bufferPacket_first hl hb (congrArg (s.putInput n) (Input.drain_next hb hx _ _).symm)).trans (if_neg ?_)
  have hg := State.gapOver_alone (s := s.putInput n { s.inputAt n with
    nextSeq := (p.seq % 65536 + 1) % 65536 + 1, lines := p.lines }) (n := n) hB
  rw [hg, State.putInput_inputAt]
  simp only [hb, List.length_nil, Nat.not_lt_zero, decide_false, Bool.false_eq_true, not_false_eq_true]

/-- A packet ahead of its turn waits, if the buffer holds any. -/
theorem State.bufferPacket_ahead {p : RtpPacket} {u : State} (hl : (s.inputAt n).late (p.seq % 65536) = false)
    (hb : (s.inputAt n).buffer = []) (hB : s.rd Dict.INPUT_PORT_B n = 0xFF)
    (hn : (s.inputAt n).nextSeq ≠ p.seq % 65536 + 1) (h0 : (s.inputAt n).nextSeq ≠ 0)
    (hu : u = s.putInput n { s.inputAt n with buffer := [(p.seq % 65536, s.now, p.lines)] }) :
    s.bufferPacket n p = if Config.receiveBuffer (s.rd Dict.INPUT_RX_TIMING n) = 0 then u.closeGap n else u := by
  refine (State.bufferPacket_first hl hb (u := u) ?_).trans ?_
  · simp only [hu, if_neg h0, Input.drain, List.find?_singleton, beq_false_of_ne hn.symm, Bool.false_eq_true, if_false]
  · have hg : u.gapOver n = decide (Config.receiveBuffer (s.rd Dict.INPUT_RX_TIMING n) = 0) := by
      refine (State.gapOver_alone (hu ▸ hB)).trans ?_
      rw [hu, State.putInput_inputAt]
      exact decide_eq_decide.mpr Nat.lt_one_iff
    simp only [hg, decide_eq_true_eq]

end

/-- A packet counted on a port leaves the second port of the inputs as it is. -/
theorem State.countPacket_portB (s : State) (port n v : Nat) :
    ((s.inc Dict.PORT_RX_FRAMES port).wr Dict.INPUT_PATH_STATE v n).rd Dict.INPUT_PORT_B n = s.rd Dict.INPUT_PORT_B n :=
  (State.wr_rd_ne _ _ _ _ _ _ _ _ (by simp [EntryDef.key])).trans
    (State.wr_rd_ne _ _ _ _ _ _ _ _ (by simp [EntryDef.key]; omega))

/-- Settles O22: each command by the branch that its premises choose. -/
theorem videoInputs : Obligations.VideoInputs :=
  ⟨fun _ _ _ hp => ⟨fun h => congrArg Host.Outcome.next (State.writeScalar_accepts hp (State.enableInput_on h)),
      fun h hj => congrArg Host.Outcome.next (State.writeScalar_accepts hp (State.enableInput_starts h hj)),
      fun _ h hj => congrArg Host.Outcome.next (State.writeScalar_refuses hp (State.enableInput_refuses h hj))⟩,
    fun _ _ _ hp => ⟨fun h => congrArg Host.Outcome.next (State.writeScalar_accepts hp (State.disableInput_stops h)),
      fun h => congrArg Host.Outcome.next (State.writeScalar_accepts hp (State.disableInput_off h))⟩,
    fun _ _ _ ha h1 ht hs hd =>
      ⟨fun hf => congrArg Host.Outcome.next (State.endInputFrame_whole ha h1 ht rfl hs rfl hd hf rfl rfl),
        fun _ hf => congrArg Host.Outcome.next (State.endInputFrame_damaged ha h1 ht rfl hs rfl hf rfl rfl)⟩,
    fun _ _ _ _ h => State.damageFrame_eq h _ _,
    fun _ _ _ ha h1 ht hm => by
      subst hm
      exact ⟨fun h hm => congrArg Host.Outcome.next ((State.missInputFrame_due ha h1 ht rfl).trans (if_pos ⟨h, hm⟩)),
        fun h => congrArg Host.Outcome.next ((State.missInputFrame_due ha h1 ht rfl).trans (if_neg (by omega)))⟩,
    fun _ _ => rfl,
    fun _ _ _ ha h1 => ⟨fun h => congrArg Host.Outcome.next (State.loseSignal_dlane ha h1 h _),
      fun h => congrArg Host.Outcome.next (State.loseSignal_packets h _)⟩,
    fun _ _ _ _ ha h1 hb h0 => ⟨fun ht hp => congrArg Host.Outcome.next (State.losePath_alone ha h1 hb h0 ht hp _),
      fun ht => congrArg Host.Outcome.next (State.losePath_early ht _)⟩,
    fun _ _ _ ha hh hm => congrArg Host.Outcome.next (State.findSignal_acquires ha hh hm),
    fun s n p ha h1 _ hs hq hB => by
      have hr := State.receiveRtp_alone ha h1 hs hq hB rfl
      have hb := (State.countPacket_portB s.begin p.port n
        (putBit (s.begin.rd Dict.INPUT_PATH_STATE n) 0 true)).trans hB
      refine ⟨congrArg Host.Outcome.next hr, fun ho he hl => ⟨fun hn => ?_, fun hn h0 => ?_⟩, fun ho hl => ?_⟩
      · exact congrArg Host.Outcome.next (hr.trans ((if_neg (Bool.eq_false_iff.mp ho)).trans
          (State.bufferPacket_in_order hl he hb hn)))
      · exact congrArg Host.Outcome.next (hr.trans ((if_neg (Bool.eq_false_iff.mp ho)).trans
          (State.bufferPacket_ahead hl he hb hn h0 rfl)))
      · exact congrArg Host.Outcome.next (hr.trans ((if_neg (Bool.eq_false_iff.mp ho)).trans (State.bufferPacket_late hl))),
    fun _ _ _ hp => congrArg Host.Outcome.next (State.receiveRtp_foreign hp)⟩

end Sys2Proof.Machine
end

-- ==== Proofs: host surfaces (R116 to R121) ====
section
/-! PROOFS. Flips, fetches and releases, and O23. -/
namespace Sys2Proof.Machine
open Sys2Proof
set_option Elab.async false

/-! ### Host surfaces and their flips (R116 to R121) -/

section
variable {s : State} {n : Nat}

theorem State.enableSurface_starts (h : s.flag Dict.HOST_SOURCE_ENABLE n = false) (hj : s.judgeSurface n = none) :
    s.enableSurface n = .done ((((s.wr Dict.HOST_SOURCE_ENABLE 1 n).takePool (poolHost n)
      (if s.rd Dict.HOST_SOURCE_LOCATION n = 0 then 0 else units2M (2 * s.hostBytesOf n))).judgeHost n).tellAspm s.aspmL1) := by
  simp only [State.enableSurface, h, hj, Bool.false_eq_true, if_false]

theorem State.enableSurface_refuses {r : Refuse} (h : s.flag Dict.HOST_SOURCE_ENABLE n = false)
    (hj : s.judgeSurface n = some r) : s.enableSurface n = .refused r s := by
  simp only [State.enableSurface, h, hj, Bool.false_eq_true, if_false]

/-- The stride of a surface is a multiple of 64 bytes (R116). -/
theorem State.judgeSurface_stride (h : s.rd Dict.HOST_SOURCE_STRIDE n % 64 ≠ 0) :
    s.judgeSurface n = some (.atField 0x12 (0x2440 + n) 6) :=
  firstOf_cons_true ((Bool.or_eq_true _ _).mpr (.inl (bne_iff_ne.mpr h)))

theorem State.disableSurface_done (s : State) (n : Nat) : s.disableSurface n = .done
    ((((((s.wr Dict.HOST_SOURCE_ENABLE 0 n).takePool (poolHost n) 0).wr Dict.HOST_SOURCE_FLIP_STATE 0 n).putHost n
      { HostSurf.init with releases := (s.hostAt n).releases }).judgeHost n).tellAspm s.aspmL1) := rfl

theorem State.flip_waits {v : Nat} (h : s.rd Dict.HOST_SOURCE_FLIP_STATE n ≠ 0) :
    s.flip n v = .refused (.atField 0x12 (0x2440 + n) 0x0E) s := by
  simp only [State.flip, firstOf_cons_true (bne_iff_ne.mpr h)]

theorem State.flip_front {v : Nat} (h : s.rd Dict.HOST_SOURCE_FLIP_STATE n = 0) (hv : s.rd Dict.HOST_SOURCE_FRONT n = v) :
    s.flip n v = .refused (.atField 0x12 (0x2440 + n) 0x0D) s := by
  simp only [State.flip, firstOf_cons_false (bne_eq_false_iff_eq.mpr h), firstOf_cons_true (beq_iff_eq.mpr hv)]

/-- A flip to the other buffer is taken, and waits for the fetch of a surface in the host's memory. -/
theorem State.flip_takes {v : Nat} (h : s.rd Dict.HOST_SOURCE_FLIP_STATE n = 0) (hv : s.rd Dict.HOST_SOURCE_FRONT n ≠ v) :
    s.flip n v = .done ((s.putHost n { s.hostAt n with
      want := v, ready := !(s.rd Dict.HOST_SOURCE_LOCATION n == 1), latches := 0 }).wr Dict.HOST_SOURCE_FLIP_STATE
        (if s.rd Dict.HOST_SOURCE_LOCATION n == 1 then 2 else 1) n) := by
  have hf : firstOf
      [(s.rd Dict.HOST_SOURCE_FLIP_STATE n != 0, Refuse.atField 0x12 (0x2440 + n) 0x0E),
       (s.rd Dict.HOST_SOURCE_FRONT n == v, .atField 0x12 (0x2440 + n) 0x0D)] = none :=
    (firstOf_cons_false (bne_eq_false_iff_eq.mpr h)).trans (firstOf_cons_false (beq_eq_false_iff_ne.mpr hv))
  simp only [State.flip, hf]
  rfl

theorem State.flip_dram {v : Nat} (h : s.rd Dict.HOST_SOURCE_FLIP_STATE n = 0) (hv : s.rd Dict.HOST_SOURCE_FRONT n ≠ v)
    (hl : s.rd Dict.HOST_SOURCE_LOCATION n = 0) : s.flip n v = .done
      ((s.putHost n { s.hostAt n with want := v, ready := true, latches := 0 }).wr Dict.HOST_SOURCE_FLIP_STATE 1 n) := by
  rw [State.flip_takes h hv, hl]
  rfl

theorem State.flip_host {v : Nat} (h : s.rd Dict.HOST_SOURCE_FLIP_STATE n = 0) (hv : s.rd Dict.HOST_SOURCE_FRONT n ≠ v)
    (hl : s.rd Dict.HOST_SOURCE_LOCATION n = 1) : s.flip n v = .done
      ((s.putHost n { s.hostAt n with want := v, ready := false, latches := 0 }).wr Dict.HOST_SOURCE_FLIP_STATE 2 n) := by
  rw [State.flip_takes h hv, hl]
  rfl

theorem State.endFetch_fetching (ha : s.alive = true) (h : s.rd Dict.HOST_SOURCE_FLIP_STATE n = 2) (data : List Byte) :
    s.endFetch n data = (s.putHost n (if (s.hostAt n).want = 0
      then { s.hostAt n with ready := true, copy0 := data.take (s.hostBytesOf n) }
      else { s.hostAt n with ready := true, copy1 := data.take (s.hostBytesOf n) })).wr Dict.HOST_SOURCE_FLIP_STATE 1 n :=
  if_pos ⟨ha, h⟩

theorem State.failFetch_fetching (ha : s.alive = true) (h : s.rd Dict.HOST_SOURCE_FLIP_STATE n = 2) (status : Nat) :
    s.failFetch n status = (s.wr Dict.HOST_SOURCE_FLIP_STATE 0 n).raise Event.HOST_FETCH_FAULT (0x200 + n) status :=
  if_pos ⟨ha, h⟩

theorem State.releaseHost_none (h : (s.hostAt n).releases = []) : s.releaseHost n = s := by
  simp only [State.releaseHost, h]

section
variable {x : Nat} {readers : List Nat} {rest : List (Nat × List Nat)}
  (hr : (s.hostAt n).releases = (x, readers) :: rest)
include hr

/-- A buffer is released when no one reads it any more (R120). -/
theorem State.releaseHost_free (ha : s.alive = true) (h : readers.any s.readsOld = false) :
    s.releaseHost n = (((s.putHost n { s.hostAt n with releases := rest }).inc Dict.HOST_SOURCE_RELEASE_COUNT n).fire
      (s.rd Dict.HOST_SOURCE_MSIX_VECTOR n)).raise Event.HOST_RELEASED (0x200 + n) x := by
  simp only [State.releaseHost, hr]
  exact if_pos ⟨ha, h⟩

theorem State.releaseHost_read (h : readers.any s.readsOld = true) : s.releaseHost n = s := by
  simp only [State.releaseHost, hr]
  exact if_neg fun hc => Bool.noConfusion (h.symm.trans hc.2)

end
end

/-- Settles O23: each command by the branch that its premises choose. -/
theorem hostSurfaces : Obligations.HostSurfaces :=
  ⟨fun _ _ _ hp h => ⟨fun hj => congrArg Host.Outcome.next (State.writeScalar_accepts hp (State.enableSurface_starts h hj)),
      fun _ hj => congrArg Host.Outcome.next (State.writeScalar_refuses hp (State.enableSurface_refuses h hj))⟩,
    fun _ _ h => State.judgeSurface_stride h,
    fun _ _ n hp => congrArg Host.Outcome.next (State.writeScalar_accepts hp (State.disableSurface_done _ n)),
    fun _ _ _ _ hp => ⟨fun h => congrArg Host.Outcome.next (State.writeScalar_refuses hp (State.flip_waits h)),
      fun h hv => congrArg Host.Outcome.next (State.writeScalar_refuses hp (State.flip_front h hv)),
      fun h hv => ⟨fun hl => congrArg Host.Outcome.next (State.writeScalar_accepts hp (State.flip_dram h hv hl)),
        fun hl => congrArg Host.Outcome.next (State.writeScalar_accepts hp (State.flip_host h hv hl))⟩⟩,
    fun s n _ ha h => ⟨fun h0 => congrArg Host.Outcome.next ((State.endFetch_fetching ha h _).trans
        (congrArg (fun v => (s.begin.putHost n v).wr Dict.HOST_SOURCE_FLIP_STATE 1 n) (if_pos h0))),
      fun h0 => congrArg Host.Outcome.next ((State.endFetch_fetching ha h _).trans
        (congrArg (fun v => (s.begin.putHost n v).wr Dict.HOST_SOURCE_FLIP_STATE 1 n) (if_neg h0)))⟩,
    fun _ _ _ ha h => congrArg Host.Outcome.next (State.failFetch_fetching ha h _),
    fun _ _ _ _ _ ha hr => ⟨fun h => congrArg Host.Outcome.next (State.releaseHost_free hr ha h),
      fun h => congrArg Host.Outcome.next (State.releaseHost_read hr h)⟩,
    fun _ _ h => congrArg Host.Outcome.next (State.releaseHost_none h)⟩

end Sys2Proof.Machine
end

-- ==== Proofs: Pocket players (R122 to R126) ====
section
/-! PROOFS. What a player holds and what it gives back, and O24. -/
namespace Sys2Proof.Machine
open Sys2Proof
set_option Elab.async false

/-! ### Pocket players (R122 to R126) -/

section
variable {s : State} {n : Nat}

/-- While a base frame of the player's FTG is to come, the enable waits for it. -/
theorem State.writePlayerEnable_waits {v : Nat}
    (h : (s.wr Dict.POCKET_PLAYER_ENABLE v n).ftgLatches ((s.wr Dict.POCKET_PLAYER_ENABLE v n).rd Dict.POCKET_PLAYER_FTG n) =
      true) : s.writePlayerEnable n v = .done (s.wr Dict.POCKET_PLAYER_ENABLE v n) := congrArg Effect.done (if_pos h)

theorem State.writePlayerEnable_now {v : Nat}
    (h : (s.wr Dict.POCKET_PLAYER_ENABLE v n).ftgLatches ((s.wr Dict.POCKET_PLAYER_ENABLE v n).rd Dict.POCKET_PLAYER_FTG n) =
      false) : s.writePlayerEnable n v = .done ((s.wr Dict.POCKET_PLAYER_ENABLE v n).takeEnable n) :=
  congrArg Effect.done (if_neg (Bool.eq_false_iff.mp h))

theorem State.enablePlayer_flag (s : State) (n : Nat) :
    (s.wr Dict.POCKET_PLAYER_ENABLE 1 n).flag Dict.POCKET_PLAYER_ENABLE n = true :=
  bne_iff_ne.mpr ((State.wr_rd ..).trans_ne (by decide))

theorem State.disablePlayer_flag (s : State) (n : Nat) :
    (s.wr Dict.POCKET_PLAYER_ENABLE 0 n).flag Dict.POCKET_PLAYER_ENABLE n = false :=
  bne_eq_false_iff_eq.mpr ((State.wr_rd ..).trans (by decide))

theorem State.takeEnable_same (h : s.flag Dict.POCKET_PLAYER_ENABLE n = (s.playerAt n).on) : s.takeEnable n = s := if_pos h

theorem State.takeEnable_starts (hf : s.flag Dict.POCKET_PLAYER_ENABLE n = true) (h : (s.playerAt n).on = false) :
    s.takeEnable n = (s.putPlayer n { s.playerAt n with on := true }).judgePlayer n :=
  (if_neg fun hc => Bool.noConfusion (hf.symm.trans (hc.trans h))).trans (if_pos hf)

theorem State.takeEnable_stops (hf : s.flag Dict.POCKET_PLAYER_ENABLE n = false) (h : (s.playerAt n).on = true) :
    s.takeEnable n = s.dropPlayer n :=
  (if_neg fun hc => Bool.noConfusion (hf.symm.trans (hc.trans h))).trans (if_neg (Bool.eq_false_iff.mp hf))

theorem State.takePool_players (s : State) (k u : Nat) : (s.takePool k u).players = s.players := rfl

theorem State.takePool_poolAt (s : State) (k u : Nat) : (s.takePool k u).poolAt k = u := Store.read_write_self ..

theorem State.takePool_rd (s : State) (k u : Nat) {e : EntryDef} {n : Nat} (h : e.key n 0 ≠ Dict.DRAM_POOL_FREE.key 0 0) :
    (s.takePool k u).rd e n = s.rd e n := State.wr_rd_ne _ _ _ _ _ _ _ _ h

/-- A player that is dropped is as at power-on, and its prefetch is free again. -/
theorem State.dropPlayer_spec (s : State) (n : Nat) :
    (s.dropPlayer n).rd Dict.POCKET_PLAYER_ENABLE n = s.rd Dict.POCKET_PLAYER_ENABLE n ∧
      (s.dropPlayer n).rd Dict.POCKET_PLAYER_PLAY_STATE n = 0 ∧ (s.dropPlayer n).rd Dict.POCKET_PLAYER_HEALTH n = 0 ∧
      (s.dropPlayer n).playerAt n = Player.init ∧ (s.dropPlayer n).poolAt (poolPlayer n) = 0 := by
  unfold State.dropPlayer
  extract_lets u
  have hu : u.playerAt n = Player.init := (congrArg (Store.read initialPlayer · n)
    (State.takePool_players ..)).trans (State.putPlayer_playerAt s n _)
  have hq : u.poolAt (poolPlayer n) = 0 := State.takePool_poolAt ..
  have he : u.rd Dict.POCKET_PLAYER_ENABLE n = s.rd Dict.POCKET_PLAYER_ENABLE n :=
    State.takePool_rd _ _ _ (by simp [EntryDef.key]; omega)
  clear_value u
  refine ⟨?_, ?_, ?_, hu, hq⟩
  · exact (State.wr_rd_ne _ _ _ _ _ _ _ _ (by simp [EntryDef.key])).trans
      ((State.wr_rd_ne _ _ _ _ _ _ _ _ (by simp [EntryDef.key])).trans he)
  · exact (State.wr_rd_ne _ _ _ _ _ _ _ _ (by simp [EntryDef.key])).trans (State.wr_rd ..)
  · refine (State.wr_rd ..).trans ((congrArg (· % _) (if_pos ?_)).trans (Nat.zero_mod _))
    exact congrArg Player.on hu

/-- A request that is taken holds its prefetch and forgets the last fault. -/
theorem State.takeRequest_eq (s : State) (n v : Nat) : s.takeRequest n v =
    (((s.wr Dict.POCKET_PLAYER_TRANSPORT v n).takePool (poolPlayer n) (s.prefetchUnits n)).putPlayer n
      { s.playerAt n with request := v, askedBase := 0, readFault := false }).judgePlayer n := by
  have hp : ((s.wr Dict.POCKET_PLAYER_TRANSPORT v n).takePool (poolPlayer n) (s.prefetchUnits n)).playerAt n =
      s.playerAt n := congrArg (Store.read initialPlayer · n) (State.takePool_players ..)
  simp only [State.takeRequest, State.modPlayer, hp]

theorem State.writeTransport_halts {v : Nat} (h : v = 0 ∨ v = 4) : s.writeTransport n v =
    .done ((s.wr Dict.POCKET_PLAYER_TRANSPORT v n).putPlayer n { s.playerAt n with request := v }) := if_pos h

theorem State.writeTransport_takes {v : Nat} (h : ¬(v = 0 ∨ v = 4)) (hr : s.playRefused n = none) : s.writeTransport n v =
    .done ((((s.wr Dict.POCKET_PLAYER_TRANSPORT v n).takePool (poolPlayer n) (s.prefetchUnits n)).putPlayer n
      { s.playerAt n with request := v, askedBase := 0, readFault := false }).judgePlayer n) := by
  refine (if_neg h).trans ?_
  simp only [State.askPlay, hr, State.takeRequest_eq]

/-- A request for which the drive has no read rate left is refused (R371). -/
theorem State.writeTransport_refuses {v : Nat} (h : ¬(v = 0 ∨ v = 4))
    (hb : overBudget (s.rd Dict.POCKET_READ_BUDGET 0 (s.askedClip n).drive)
      (addRate (s.readClaim n (s.askedClip n).drive) (s.askedClip n).rateBytes) = true) :
    s.writeTransport n v = .refused (.rule 0x81) s := by
  have hr : s.playRefused n = some (.rule 0x81) := firstOf_cons_true hb
  refine (if_neg h).trans ?_
  simp only [State.askPlay, hr]

end

/-- A frame is read by its blocks, which go to the drive in their order. -/
theorem State.readBlocks_wire (s : State) (c : Clip) (frame : Nat) : (s.readBlocks c frame).wire =
    s.wire ++ (c.place (frame * c.frameBlocks) c.frameBlocks).map (fun e => .nvme c.drive (.read e.1 e.2)) := by
  unfold State.readBlocks
  induction c.place (frame * c.frameBlocks) c.frameBlocks generalizing s with
  | nil => exact (List.append_nil _).symm
  | cons e es ih =>
    refine (ih _).trans ?_
    simp only [State.out_wire, List.append_assoc, List.singleton_append, List.map_cons]

theorem State.readBlocks_playerAt (s : State) (c : Clip) (frame n : Nat) :
    (s.readBlocks c frame).playerAt n = s.playerAt n := foldl_same (State.playerAt · n) s fun _ _ => rfl

section
variable {s : State} {n frame : Nat} (ha : s.alive = true) (hh : s.rd Dict.POCKET_PLAYER_HEALTH n = 2)
  (h1 : s.rd Dict.POCKET_PLAYER_PLAY_STATE n = 1) (hf : frame < (s.playerClip n).frames)
  (hd : s.aheadOf n frame (s.playerAt n).startFrame = true)
  (hk : (s.playerAt n).held.any (fun e => e.1 == frame) = false)
include ha hh h1 hf hd hk

/-- A prefetch that a cued player waits for is read from the drive. -/
theorem State.prefetched_awaited (p : Raster) (audio : List Int) (ok : Bool) :
    s.prefetched n frame p audio ok = if ok then (s.readBlocks (s.playerClip n) frame).putPlayer n
        { s.playerAt n with held := (s.playerAt n).held ++ [(frame, p, audio)] }
      else (s.readBlocks (s.playerClip n) frame).readFaultOf n (s.playerClip n).drive := by
  refine if_pos ⟨ha, hh, h1.ge, h1.trans_le (by decide), hf, ?_, congrArg not hk⟩
  rw [if_pos (.inl h1)]
  exact hd

theorem State.prefetched_fault (p : Raster) (audio : List Int) :
    s.prefetched n frame p audio false =
      ((((s.readBlocks (s.playerClip n) frame).putPlayer n { s.playerAt n with readFault := true, held := [] }).judgePlayer
        n).raise Event.POCKET_READ_FAULT (0x300 + n) (s.playerClip n).drive) := by
  refine (State.prefetched_awaited ha hh h1 hf hd hk p audio false).trans ?_
  rw [← State.readBlocks_playerAt s (s.playerClip n) frame n]
  rfl

end

/-- Settles O24: each command by the branch that its premises choose. -/
theorem pocketPlayers : Obligations.PocketPlayers :=
  ⟨fun s k n hp => ⟨fun h => congrArg Host.Outcome.next (State.writeScalar_accepts hp (by
        rcases Bool.eq_false_or_eq_true (((s.begin.actBy k).wr Dict.POCKET_PLAYER_ENABLE 1 n).ftgLatches
          (((s.begin.actBy k).wr Dict.POCKET_PLAYER_ENABLE 1 n).rd Dict.POCKET_PLAYER_FTG n)) with hl | hl
        · exact State.writePlayerEnable_waits hl
        · have ho := h.resolve_left (Bool.eq_false_iff.mp hl)
          exact (State.writePlayerEnable_now hl).trans (congrArg Effect.done
            (State.takeEnable_same ((State.enablePlayer_flag _ _).trans ho.symm))))),
      fun hl ho => congrArg Host.Outcome.next (State.writeScalar_accepts hp ((State.writePlayerEnable_now hl).trans
        (congrArg Effect.done (State.takeEnable_starts (State.enablePlayer_flag _ _) ho))))⟩,
    fun s k n hp => ⟨fun h => congrArg Host.Outcome.next (State.writeScalar_accepts hp (State.writePlayerEnable_waits h)),
      fun hl ho => by
        obtain ⟨he, hs, hh, hi, hq⟩ := ((s.begin.actBy k).wr Dict.POCKET_PLAYER_ENABLE 0 n).dropPlayer_spec n
        exact ⟨_, congrArg Host.Outcome.next (State.writeScalar_accepts hp ((State.writePlayerEnable_now hl).trans
          (congrArg Effect.done (State.takeEnable_stops (State.disablePlayer_flag _ _) ho)))),
          he.trans (State.wr_rd ..), hs, hh, hi, hq⟩⟩,
    fun _ _ => rfl,
    fun _ _ _ => ⟨fun hp => congrArg Host.Outcome.next
        (State.writeScalar_accepts hp (State.writeTransport_halts (.inl rfl))),
      fun hp => congrArg Host.Outcome.next (State.writeScalar_accepts hp (State.writeTransport_halts (.inr rfl)))⟩,
    fun _ _ _ hr => ⟨fun hp => congrArg Host.Outcome.next
        (State.writeScalar_accepts hp (State.writeTransport_takes (by decide) hr)),
      fun hp => congrArg Host.Outcome.next (State.writeScalar_accepts hp (State.writeTransport_takes (by decide) hr)),
      fun hp => congrArg Host.Outcome.next (State.writeScalar_accepts hp (State.writeTransport_takes (by decide) hr))⟩,
    fun _ _ _ hb => ⟨fun hp => congrArg Host.Outcome.next
        (State.writeScalar_refuses hp (State.writeTransport_refuses (by decide) hb)),
      fun hp => congrArg Host.Outcome.next (State.writeScalar_refuses hp (State.writeTransport_refuses (by decide) hb)),
      fun hp => congrArg Host.Outcome.next (State.writeScalar_refuses hp (State.writeTransport_refuses (by decide) hb))⟩,
    fun _ _ _ _ _ ha hh h1 hf hd hk =>
      ⟨congrArg Host.Outcome.next (State.prefetched_awaited ha hh h1 hf hd hk _ _ true),
        congrArg Host.Outcome.next (State.prefetched_fault ha hh h1 hf hd hk _ _)⟩,
    fun s c frame => s.readBlocks_wire c frame⟩

end Sys2Proof.Machine
end

-- ==== Proofs: the end of a validation (R132 to R139) ====
section
/-! PROOFS. What a verdict leaves, the grid of a head, and O27. -/
namespace Sys2Proof.Machine
open Sys2Proof
set_option Elab.async false

/-! ### What the frames of a head are counted by (R232) -/

/-- The registers that the frame grid of a head is made of. -/
def headGrid : List EntryDef :=
  [Dict.HEAD_CLONE_OF, Dict.HEAD_SLOT_SELECT, Dict.HEAD_SLOTS, Dict.HEAD_FTG, Dict.FTG_RATE_NUM, Dict.FTG_RATE_DEN]

/-- Two states with the same grid of heads count the same latches between two instants. -/
theorem State.latchesBetween_congr {s u : State} (h : ∀ e ∈ headGrid, ∀ n, u.rd e n = s.rd e n) (n a b : Nat) :
    u.latchesBetween 1 n a b = s.latchesBetween 1 n a b := by
  simp only [headGrid, List.forall_mem_cons] at h
  obtain ⟨hc, hss, hs, hf, hn, hd, -⟩ := h
  have hp : u.parentOf n = s.parentOf n := by rw [State.parentOf, State.parentOf, hc]
  have hall : u.allSlots n = s.allSlots n := by simp only [State.allSlots, State.headRd, hp, hss, hs]
  have hr : u.headRate n = s.headRate n := by rw [State.headRate, State.headRate, hall, State.headRd, State.headRd, hp, hs]
  have hg : u.scopeFtg 1 n = s.scopeFtg 1 n := (congrArg (fun p => u.rd Dict.HEAD_FTG p) hp).trans (hf _)
  have hN (f : Nat) : u.ftgNum f = s.ftgNum f := by rw [State.ftgNum, State.ftgNum, hd]
  have hD (f : Nat) : u.ftgDen f = s.ftgDen f := by rw [State.ftgDen, State.ftgDen, hn]
  have hhn : u.headNum n = s.headNum n := (congrArg u.ftgNum hg).trans (hN _)
  have hhd : u.headDen n = s.headDen n := congrArg₂ (· * ·) ((congrArg u.ftgDen hg).trans (hD _)) hr
  unfold State.latchesBetween
  rw [hr, hhn, hhd, hg, hN, hD]

/-- The count of late commits is no part of a head's grid. -/
theorem State.lateCount_grid (s : State) (m : Nat) :
    ∀ e ∈ headGrid, ∀ n, (s.inc Dict.HEAD_COMMIT_LATE_COUNT m).rd e n = s.rd e n := by
  simp only [headGrid, List.forall_mem_cons]
  refine ⟨fun n => ?_, fun n => ?_, fun n => ?_, fun n => ?_, fun n => ?_, fun n => ?_, fun _ h => absurd h List.not_mem_nil⟩
  all_goals exact State.wr_rd_ne _ _ _ _ _ _ _ _ (by simp only [EntryDef.key]; omega)

/-! ### The validation of a commit ends (R132 to R139) -/

section
variable {s : State} {m : Commit} {rest : List Commit}

theorem State.acknowledge_idle (h : s.validating = []) : s.acknowledge = s := by
  simp only [State.acknowledge, h]

section
variable {u : State} {n : Commit} (hu : u = { s.actBy m.sess with validating := rest }) 
  (hn : n = { m with ack := (s.actBy m.sess).timebase })
  (hd : s.dictUp = true) (hv : s.validating = m :: rest)
include hu hn hd hv

/-- A commit that its rules refuse. -/
theorem State.acknowledge_refused {r : Refuse} (hj : u.judgeCommit n = some r) :
    s.acknowledge = (((u.refuseCommit n r).actBy 0xFF).applyDeferred).commitStates := by
  simp only [State.acknowledge, hv, hd, if_true, ← hn, ← hu, hj]

/-- A commit of one head that nothing refuses is taken and answered. -/
theorem State.acknowledge_accepted (hj : u.judgeCommit n = none) (hk : m.kind = 1) (hc : m.canvases = 0)
    (hs : m.udpSess = 0xFF) : s.acknowledge =
      (((((allCanvases.foldl State.takeWriteBack (u.acceptSingle n).takeBuffers).raiseTargets.inUse.respond m.sess
        n.entry.1 n.answer false).actBy 0xFF).applyDeferred).commitStates) := by
  have hkn : m.kind ≠ 3 := by rw [hk]; decide
  have hcn : bitsSet m.canvases 8 = [] := by rw [hc]; decide
  have han : n.answered = true := by rw [hn, Commit.answered, hs]; rfl
  simp only [State.acknowledge, hv, hd, if_true, ← hn, ← hu, hj, hcn, hkn, han, List.foldl_nil, if_false]

end

theorem State.refuseCommit_head {r : Refuse} (hk : m.kind = 1) (hu : m.udpSess = 0xFF) (hr : m.retime = none) :
    s.refuseCommit m r = ((((s.inc Dict.HEAD_COMMIT_REFUSED_COUNT m.num).raiseBy m.sess Event.COMMIT_REFUSED (0x100 + m.num)
      (r.detail * 65536 + r.fieldIndex % 65536)).noteRefusal m.sess (0x2C40 + m.num) 1 r).abort m.sess (0x2C40 + m.num) r) := by
  have he : m.entry = (0x2C40 + m.num, 1) := by simp [Commit.entry, hk, hr]
  simp only [State.refuseCommit, hk, hu, he]
  rfl

theorem State.judgeCommit_memberless (hg : m.grouped = true) (hm : m.members = []) :
    s.judgeCommit m = some (.field 0x17 Dict.STITCH_GROUP_HEAD_MASK) := by
  refine firstOf_cons_true ?_
  rw [hg, hm]
  rfl

/-- A commit waits for no other one of its scopes (R135). -/
theorem State.judgeCommit_pending (hm : m.members ≠ []) (hp : m.members.any (fun x => s.groupPending x.1 x.2) = true) :
    s.judgeCommit m = some (.atField 0x18 m.entry.1 m.entry.2) := by
  refine (firstOf_cons_false ?_).trans (firstOf_cons_true hp)
  rw [List.isEmpty_eq_false_iff.mpr hm, Bool.and_false]

theorem State.acceptSingle_still {k n : Nat} (hk : m.kind = k) (hn : m.num = n) (hr : m.retime = none)
    (h : s.scopeRuns k n = false) : s.acceptSingle m = (s.pend m k n s.timebase s.timebase).landPending k n := by
  subst hk hn
  simp only [State.acceptSingle, hr, h, if_true]

theorem State.acceptSingle_runs {k n : Nat} (hk : m.kind = k) (hn : m.num = n) (hr : m.retime = none)
    (h : s.scopeRuns k n = true) : s.acceptSingle m = (s.pend m k n (s.scopeLatch k n m.receipt)
      (s.scopeLatch k n m.ack)).noteLate k n (s.scopeLatch k n m.receipt) (s.scopeLatch k n m.ack) := by
  subst hk hn
  simp only [State.acceptSingle, hr, h, Bool.true_eq_false, if_false]

theorem State.noteLate_in_time {k n aim land : Nat} (h : land ≤ aim) : s.noteLate k n aim land = s :=
  if_neg (Nat.not_lt.mpr h)

/-- A commit of a head that misses its latch is counted and told with the latches that it missed. -/
theorem State.noteLate_head {n aim land : Nat} (h : aim < land) : s.noteLate 1 n aim land =
    (s.inc Dict.HEAD_COMMIT_LATE_COUNT n).raise Event.LATE_COMMIT (1 * 256 + n)
      ((s.inc Dict.HEAD_COMMIT_LATE_COUNT n).latchesBetween 1 n aim land) := by
  rw [State.latchesBetween_congr (s.lateCount_grid n)]
  exact if_pos h

/-- A commit takes the place of the one that its head still waited for. -/
theorem State.supersede_head {old : Commit} {h : Nat} (hf : s.pendingCommits.find? (fun e => e.1 == 64 + h) = some (64 + h, old)) :
    s.supersede 1 h = (s.inc Dict.HEAD_COMMIT_SUPERSEDED_COUNT h).raise Event.COMMIT_SUPERSEDED (0x100 + h)
      (old.receipt % 1000000000) := by
  have hf' : s.pendingCommits.find? (fun e => e.1 == scopeKey 1 h) = some (64 + h, old) := hf
  simp only [State.supersede, hf', if_true]

end

/-- Settles O27: the end of a validation by the verdict, and an accepted commit by its scope and its latches. -/
theorem commitAcknowledged : Obligations.CommitAcknowledged :=
  ⟨fun _ _ _ _ hd hv hj => congrArg Host.Outcome.next (State.acknowledge_refused rfl rfl hd hv hj),
    fun _ _ _ hk hu hr => State.refuseCommit_head hk hu hr,
    fun _ _ hg hm => State.judgeCommit_memberless hg hm,
    fun _ _ hm hp => State.judgeCommit_pending hm hp,
    fun _ _ _ hd hv hj hk hc hs => congrArg Host.Outcome.next (State.acknowledge_accepted rfl rfl hd hv hj hk hc hs),
    fun _ _ hr => ⟨fun h => State.acceptSingle_still rfl rfl hr h, fun h =>
      ⟨fun hl => (State.acceptSingle_runs rfl rfl hr h).trans (State.noteLate_in_time hl),
        fun hl hk => (State.acceptSingle_runs rfl rfl hr h).trans (by
          rw [hk]
          exact State.noteLate_head (hk ▸ hl))⟩⟩,
    fun _ _ _ hf => State.supersede_head hf,
    fun _ h => congrArg Host.Outcome.next (State.acknowledge_idle h)⟩

end Sys2Proof.Machine
end

-- ==== Proofs: routes and switches (R146 to R154) ====
section
/-! PROOFS. What an entry that is taken changes, and O28. -/
namespace Sys2Proof.Machine
open Sys2Proof
set_option Elab.async false

/-! ### The route table (R146, R147) -/

section
variable {s t : State} {k : Nat} {e : List Byte}

theorem State.writeRoutes_done {sess : Nat} {data : List Byte}
    (h : firstBad (s.judgeRoute (putEntries State.writeRoute s (s.window sess Dict.ROUTE_CONTROL_TABLE_WINDOW)
      (chunks 32 data.length data))) (s.window sess Dict.ROUTE_CONTROL_TABLE_WINDOW) (chunks 32 data.length data) = none) :
    s.writeRoutes sess data = .done (putEntries State.writeRoute s (s.window sess Dict.ROUTE_CONTROL_TABLE_WINDOW)
      (chunks 32 data.length data)) := by
  simp only [State.writeRoutes, h]

theorem State.writeRoutes_refused {sess : Nat} {data : List Byte} {r : Refuse}
    (h : firstBad (s.judgeRoute (putEntries State.writeRoute s (s.window sess Dict.ROUTE_CONTROL_TABLE_WINDOW)
      (chunks 32 data.length data))) (s.window sess Dict.ROUTE_CONTROL_TABLE_WINDOW) (chunks 32 data.length data) = some r) :
    s.writeRoutes sess data = .refused r s := by
  simp only [State.writeRoutes, h]

theorem State.judgeRoute_active (h : s.routeActive k = true) : s.judgeRoute t k e = some (.tableEntry 0x20 k) := if_pos h

section
variable (ha : s.routeActive k = false) (hv : (Route.ofBytes e).valid = true) (hr : (Route.ofBytes e).inRange = true)
include ha hv hr

theorem State.judgeRoute_known (h : t.routes.any (fun x => x.1 != k && (Route.ofBytes x.2).same (Route.ofBytes e)) = true) :
    s.judgeRoute t k e = some (.tableEntry 0x23 k) :=
  (if_neg (Bool.eq_false_iff.mp ha)).trans ((if_neg (Bool.not_eq_false _ ▸ hv)).trans
    ((if_neg (Bool.not_eq_false _ ▸ hr)).trans (if_pos h)))

theorem State.judgeRoute_new (h : t.routes.any (fun x => x.1 != k && (Route.ofBytes x.2).same (Route.ofBytes e)) = false) :
    s.judgeRoute t k e = if s.protectedFlow (Route.ofBytes e) = true then some (.tableEntry 0x16 k) else none :=
  (if_neg (Bool.eq_false_iff.mp ha)).trans ((if_neg (Bool.not_eq_false _ ▸ hv)).trans
    ((if_neg (Bool.not_eq_false _ ▸ hr)).trans (if_neg (Bool.eq_false_iff.mp h))))

end
end

/-! ### Switches (R148 to R151) -/

section
variable {s : State}

theorem State.requestSwitch_done {sess : Nat} (h : s.judgeSwitch (s.rd Dict.ROUTE_CONTROL_SWITCH_OUTPUT)
      (s.rd Dict.ROUTE_CONTROL_SWITCH_ENTRY) = none) :
    s.requestSwitch sess = .done ({ s with switches := Store.put (Store.erase s.switches
      (s.rd Dict.ROUTE_CONTROL_SWITCH_OUTPUT)) (s.rd Dict.ROUTE_CONTROL_SWITCH_OUTPUT) ⟨s.rd Dict.ROUTE_CONTROL_SWITCH_ENTRY,
        s.rd Dict.ROUTE_CONTROL_SWITCH_AT_S * 1000000000 + s.rd Dict.ROUTE_CONTROL_SWITCH_AT_NS, sess, s.timebase,
        s.rd Dict.ROUTE_CONTROL_WINDOW_LINES⟩ }.countRoutes) := by
  simp only [State.requestSwitch, h]

theorem State.requestSwitch_refused {sess : Nat} {r : Refuse} (h : s.judgeSwitch (s.rd Dict.ROUTE_CONTROL_SWITCH_OUTPUT)
      (s.rd Dict.ROUTE_CONTROL_SWITCH_ENTRY) = some r) :
    s.requestSwitch sess = .refused { r with ownEvent := true } (s.raiseBy sess Event.ROUTE_REFUSED
      (5 * 65536 + s.rd Dict.ROUTE_CONTROL_SWITCH_OUTPUT) (r.detail * 65536 + s.rd Dict.ROUTE_CONTROL_SWITCH_ENTRY)) := by
  simp only [State.requestSwitch, h]

/-- An output is switched to a valid entry of its own only. -/
theorem State.judgeSwitch_foreign {o k : Nat} (hk : k ≠ 0xFFFF) (h : (s.route k).valid = false ∨ (s.route k).output ≠ o) :
    s.judgeSwitch o k = some (.atField 0x24 0x2501 3) :=
  (if_neg hk).trans (firstOf_cons_true ((Bool.or_eq_true _ _).mpr (h.imp (congrArg not) bne_iff_ne.mpr)))

theorem State.carriesVideo_iff (s : State) (k : Nat) : s.carriesVideo k = true ↔ (s.route k).kind = 1 ∨ (s.route k).kind = 5 := by
  simp only [State.carriesVideo, Bool.or_eq_true, beq_iff_eq]

section
variable {o : Nat} {q : SwitchReq} (hq : s.switchOf o = some q) (hn : q.entry ≠ 0xFFFF)
include hq hn

section
variable (ho : s.activeAt o ≠ 0xFFFF) (hc : cleanSwitch q.window (s.flowAt (s.activeAt o)) (s.flowAt q.entry) = true)
include ho hc

theorem State.cleanAt_clean (ha : s.alive = true) (ht : q.at_ ≤ s.timebase) (hv : s.carriesVideo q.entry = true) :
    s.cleanAt o = ((s.takeEntry o q.entry).inc Dict.ROUTE_CONTROL_CLEAN_SWITCHES).raise
      Event.ROUTE_SWITCHED (5 * 65536 + o) q.entry := by
  simp only [State.cleanAt, hq]
  exact (if_neg fun h => hn h.2.2.1).trans (if_pos ⟨ha, ht, hn, hv, ho, hc⟩)

omit hn in
theorem State.roughAt_clean : s.roughAt o = s := by
  simp only [State.roughAt, hq]
  exact if_neg fun ⟨_, _, _, _, h⟩ => h.elim ho fun h => Bool.noConfusion (h.symm.trans hc)

end

section
variable (h : s.activeAt o = 0xFFFF ∨ cleanSwitch q.window (s.flowAt (s.activeAt o)) (s.flowAt q.entry) = false)
include h

theorem State.roughAt_rough (ha : s.alive = true) (ht : q.at_ ≤ s.timebase) (hv : s.carriesVideo q.entry = true) :
    s.roughAt o = ((s.takeEntry o q.entry).inc Dict.ROUTE_CONTROL_ROUGH_SWITCHES).raise
      Event.ROUGH_SWITCH (5 * 65536 + o) (q.entry * 65536 + min 65535 (phaseLines (s.flowAt (s.activeAt o))
        (s.flowAt q.entry))) := by
  simp only [State.roughAt, hq]
  exact if_pos ⟨ha, ht, hn, hv, h⟩

theorem State.cleanAt_rough : s.cleanAt o = s := by
  simp only [State.cleanAt, hq]
  exact (if_neg fun h' => hn h'.2.2.1).trans (if_neg fun ⟨_, _, _, _, ho, hc⟩ =>
    h.elim ho fun h => Bool.noConfusion (h.symm.trans hc))

end

/-- Sound and data that follow no output switch at their time. -/
theorem State.followAt_alone (ha : s.alive = true) (h2 : 2 ≤ (s.route q.entry).kind) (h4 : (s.route q.entry).kind ≤ 4)
    (hf : (s.route q.entry).follow = 0xFFFF) (ht : q.at_ ≤ s.timebase) (m : Nat) :
    s.followAt o m = (s.takeEntry o q.entry).raise Event.ROUTE_SWITCHED (5 * 65536 + o) q.entry := by
  simp only [State.followAt, hq, if_neg hn]
  exact if_pos ⟨ha, h2, h4, (if_pos hf).trans (decide_eq_true ht)⟩

end

/-! ### Entries taken and flows (R151 to R154) -/

theorem State.takeEntry_activeAt (s : State) (o k : Nat) : (s.takeEntry o k).activeAt o = k := Store.read_write_self ..

theorem State.takeEntry_activeAt_ne (s : State) {o p : Nat} (k : Nat) (h : p ≠ o) :
    (s.takeEntry o k).activeAt p = s.activeAt p := Store.read_write_ne _ _ _ h

theorem State.takeEntry_switchOf (s : State) (o k : Nat) : (s.takeEntry o k).switchOf o = none := by
  have h : (Store.erase s.switches o).find? (fun e => e.1 == o) = none :=
    List.find?_eq_none.mpr fun e he => by simpa using Store.erase_key_ne _ _ e he
  exact congrArg (Option.map Prod.snd) h

theorem State.takeEntry_route (s : State) (o k j : Nat) : (s.takeEntry o k).route j = s.route j := by
  simp only [State.route, State.takeEntry, State.countRoutes, State.wr_routeAt]
  rfl

theorem State.takeEntry_rtpAt (s : State) (o k : Nat) :
    (s.takeEntry o k).rtpAt (3 * o + 2) = if s.carriesVideo k then 2 else 1 := by
  simp only [State.takeEntry, State.countRoutes, State.wr_rtpAt, State.putRtp_rtpAt]
  rfl

/-- A video route that is taken forwards from its next frame on. -/
theorem State.takeEntry_forwards (s : State) {o k : Nat} (ho : (s.route k).output = o)
    (ha : (s.takeEntry o k).routeActive k = true) : (s.takeEntry o k).forwards k true = true ∧
      ((s.route k).kind = 1 ∨ (s.route k).kind = 5 → (s.takeEntry o k).forwards k false = false) := by
  refine ⟨?_, fun hv => ?_⟩
  · simp only [State.forwards, ha, Bool.true_or, Bool.and_self]
  · have hr : (s.takeEntry o k).rtpAt (3 * ((s.takeEntry o k).route k).output + 2) = 2 := by
      rw [State.takeEntry_route, ho, State.takeEntry_rtpAt, if_pos ((s.carriesVideo_iff k).mpr hv)]
    simp only [State.forwards, hr, bne_self_eq_false, Bool.or_self, Bool.and_false]

section
variable {p dest source udp seq : Nat} {start : Bool} {lines full : Nat} {payload : List Byte} {k : Nat}

theorem State.forward_matched (ha : s.alive = true) (hp : s.rd Dict.PORT_STATE p = 2 ∨ s.rd Dict.PORT_STATE p = 3)
    (hm : s.matchRoute p dest source udp = some k) {seen : State}
    (hs : seen = (s.inc Dict.PORT_RX_FRAMES p).observe k start lines) :
    s.forward p dest source udp seq start lines full payload =
      if seen.forwards k start then seen.sendRouted (seen.route k) seq full payload else seen := by
  subst hs
  refine (if_pos ⟨ha, hp⟩).trans ?_
  simp only [hm]

end

theorem State.loseFlow_silent {k : Nat} (ha : s.alive = true) (hr : s.routeActive k = true) (hl : (s.flowAt k).lost = false)
    (ht : (s.flowAt k).lastPacket - 1 + 100000000 ≤ s.now) : s.loseFlow k =
      (s.putFlow k { s.flowAt k with lost := true }).raise Event.ROUTE_FLOW_LOST (5 * 65536 + (s.route k).output) k :=
  if_pos ⟨ha, hr, hl, ht⟩

theorem State.loseFlow_heard {k : Nat} (ht : s.now < (s.flowAt k).lastPacket - 1 + 100000000) : s.loseFlow k = s :=
  if_neg fun h => absurd h.2.2.2 (Nat.not_le.mpr ht)

/-- A reserve that the pixels and the routes of its port leave free is taken (R153). -/
theorem State.writeReserve_done {p v : Nat} (hp : s.pixelOver p v = false)
    (hr : s.routedRate 8192 16384 p = 0 ∨ s.routesOver p v (s.routedRate 8192 16384 p) = false) :
    s.writeReserve p v = .done (s.wr Dict.ROUTE_CONTROL_RESERVE v 0 p) := by
  refine if_neg (Bool.eq_false_iff.mp ?_)
  rcases hr with hr | hr
  · simp only [hp, hr, Nat.lt_irrefl, decide_false, Bool.false_and, Bool.or_self]
  · simp only [hp, hr, Bool.and_false, Bool.or_self]

theorem State.writeReserve_refused {p v : Nat} (hp : s.pixelOver p v = true) :
    s.writeReserve p v = .refused (.rule 0x21) s := if_pos ((Bool.or_eq_true _ _).mpr (.inl hp))

end

/-- Settles O28: each command by the branch that its premises choose. -/
theorem routesAndSwitches : Obligations.RoutesAndSwitches :=
  ⟨fun _ _ _ hp => ⟨fun h => congrArg Host.Outcome.next (State.writeBlock_accepts hp (State.writeRoutes_done h)),
      fun _ h => congrArg Host.Outcome.next (State.writeBlock_refuses hp (State.writeRoutes_refused h))⟩,
    fun _ _ _ _ h => State.judgeRoute_active h,
    fun _ _ _ _ ha hv hr => ⟨fun h => State.judgeRoute_known ha hv hr h, fun h => State.judgeRoute_new ha hv hr h⟩,
    fun _ _ _ hp => ⟨fun h => congrArg Host.Outcome.next (State.writeScalar_accepts hp (State.requestSwitch_done h)),
      fun _ h => congrArg Host.Outcome.next (State.writeScalar_refuses hp (State.requestSwitch_refused h))⟩,
    fun _ _ _ hk h => State.judgeSwitch_foreign hk h,
    fun s _ q ha hq ht hn hk => by
      have hv := (s.begin.carriesVideo_iff q.entry).mpr hk
      exact ⟨fun ho hc => ⟨congrArg Host.Outcome.next (State.cleanAt_clean hq hn ho hc ha ht hv),
          congrArg Host.Outcome.next (State.roughAt_clean hq ho hc)⟩,
        fun h => ⟨congrArg Host.Outcome.next (State.roughAt_rough hq hn h ha ht hv),
          congrArg Host.Outcome.next (State.cleanAt_rough hq hn h)⟩⟩,
    fun _ _ m _ ha hq hn h2 h4 hf ht => congrArg Host.Outcome.next (State.followAt_alone hq hn ha h2 h4 hf ht m),
    fun s o k => ⟨s.takeEntry_activeAt o k, s.takeEntry_switchOf o k, fun _ h => s.takeEntry_activeAt_ne k h,
      fun _ ho ha => s.takeEntry_forwards ho ha⟩,
    fun _ _ _ _ _ _ _ _ _ _ _ ha hp hm =>
      ⟨fun h => congrArg Host.Outcome.next ((State.forward_matched ha hp hm rfl).trans (if_pos h)),
        fun h => congrArg Host.Outcome.next ((State.forward_matched ha hp hm rfl).trans (if_neg (Bool.eq_false_iff.mp h)))⟩,
    fun _ _ ha hr hl => ⟨fun ht => congrArg Host.Outcome.next (State.loseFlow_silent ha hr hl ht),
      fun ht => congrArg Host.Outcome.next (State.loseFlow_heard ht)⟩,
    fun _ _ p _ hp => ⟨fun h hr => congrArg Host.Outcome.next (State.writeScalar_accepts hp (State.writeReserve_done h hr)
        (hj := by have := p.isLt; show 0x20 + p.val ≤ 0x4F; omega)),
      fun h => congrArg Host.Outcome.next (State.writeScalar_refuses hp (State.writeReserve_refused h)
        (hj := by have := p.isLt; show 0x20 + p.val ≤ 0x4F; omega))⟩⟩

end Sys2Proof.Machine
end

-- ==== Proofs: tables and motion estimation (R164 to R187) ====
section
/-! PROOFS. Loads, estimations and the counters of the engines, and O29. -/
namespace Sys2Proof.Machine
open Sys2Proof
set_option Elab.async false

/-! ### Coefficient banks and tables (R164 to R174) -/

section
variable {s : State} {k n : Nat} {data : List Byte}

section
variable (hn : s.window k Dict.COEFF_BANKS_BANK_WINDOW = n)
include hn

theorem State.loadBank_fixed (h : n < 4) : s.loadBank k data = .refused (.rule 0x33) s := by
  subst hn
  simp only [State.loadBank, firstOf_cons_true (decide_eq_true h)]

theorem State.loadBank_used (h : 4 ≤ n) (hu : bit (s.inUse.rd Dict.COEFF_BANKS_BANK_IN_USE) n = true) :
    s.loadBank k data = .refused (.rule 0x30) s := by
  subst hn
  simp only [State.loadBank, firstOf_cons_false (decide_eq_false (Nat.not_lt.mpr h)), firstOf_cons_true hu]

theorem State.loadBank_invalid (h : 4 ≤ n) (hu : bit (s.inUse.rd Dict.COEFF_BANKS_BANK_IN_USE) n = false)
    (hb : bankValid data = false) : s.loadBank k data = .refused (.rule 0x31) s := by
  subst hn
  simp only [State.loadBank, firstOf_cons_false (decide_eq_false (Nat.not_lt.mpr h)), firstOf_cons_false hu,
    firstOf_cons_true (congrArg not hb)]

theorem State.loadBank_done (h : 4 ≤ n) (hu : bit (s.inUse.rd Dict.COEFF_BANKS_BANK_IN_USE) n = false)
    (hb : bankValid data = true) : s.loadBank k data = .done (((s.putBank n data).wr Dict.COEFF_BANKS_BANK_LOADED
      (putBit (s.rd Dict.COEFF_BANKS_BANK_LOADED) n true)).raiseBy k Event.COEFF_BANK_LOADED n 0) := by
  subst hn
  simp only [State.loadBank, firstOf_cons_false (decide_eq_false (Nat.not_lt.mpr h)), firstOf_cons_false hu,
    firstOf_cons_false (congrArg not hb)]
  rfl

end

section
variable (hn : s.window k Dict.COLOUR_LUTS_LUT_WINDOW = n)
include hn

theorem State.loadLut_fixed (h : n < 8) : s.loadLut k data = .refused (.rule 0x33) s := by
  subst hn
  simp only [State.loadLut, firstOf_cons_true (decide_eq_true h)]

theorem State.loadLut_used (h : 8 ≤ n) (hu : bit (s.inUse.rd Dict.COLOUR_LUTS_LUT_IN_USE) n = true) :
    s.loadLut k data = .refused (.rule 0x30) s := by
  subst hn
  simp only [State.loadLut, firstOf_cons_false (decide_eq_false (Nat.not_lt.mpr h)), firstOf_cons_true hu]

theorem State.loadLut_done (h : 8 ≤ n) (hu : bit (s.inUse.rd Dict.COLOUR_LUTS_LUT_IN_USE) n = false) :
    s.loadLut k data = .done (((s.putLut n data).wr Dict.COLOUR_LUTS_LUT_LOADED
      (putBit (s.rd Dict.COLOUR_LUTS_LUT_LOADED) n true)).raiseBy k Event.LUT_LOADED (256 + n) 0) := by
  subst hn
  simp only [State.loadLut, firstOf_cons_false (decide_eq_false (Nat.not_lt.mpr h)), firstOf_cons_false hu]
  rfl

end

theorem State.loadLut3d_used (hu : bit (s.inUse.rd Dict.COLOUR_LUTS_LUT3D_STATE)
    (4 + s.window k Dict.COLOUR_LUTS_LUT3D_WINDOW) = true) : s.loadLut3d k data = .refused (.rule 0x30) s := if_pos hu

theorem State.loadLut3d_done (hu : bit (s.inUse.rd Dict.COLOUR_LUTS_LUT3D_STATE)
    (4 + s.window k Dict.COLOUR_LUTS_LUT3D_WINDOW) = false) :
    s.loadLut3d k data = .done (((s.putLut3d (s.window k Dict.COLOUR_LUTS_LUT3D_WINDOW) data).wr
      Dict.COLOUR_LUTS_LUT3D_STATE (putBit (s.rd Dict.COLOUR_LUTS_LUT3D_STATE) (s.window k Dict.COLOUR_LUTS_LUT3D_WINDOW)
        true)).raiseBy k Event.LUT_LOADED (512 + s.window k Dict.COLOUR_LUTS_LUT3D_WINDOW) 0) :=
  if_neg (Bool.eq_false_iff.mp hu)

/-! ### Motion estimation (R179 to R183) -/

/-- The estimation of a pair starts when its second frame has come. -/
theorem State.startEstimation_starts {x y : Frame} {l : List Frame} {at_ : Nat} {held : State} (ha : s.alive = true)
    (hf : (s.inputAt n).frames = x :: y :: l) (hp : s.pairNeeded n y.time = some at_)
    (he : s.flag Dict.INPUT_ENABLE n = true) (hc : s.rd Dict.INPUT_TIMING_CLASS n = 2) (hv : s.conversionOf n = 2)
    (hx : x.number = y.number + 1) (hfrom : (s.inputAt n).estimateFrom ≤ x.number) (ht : x.arrival ≤ s.timebase)
    (hd : (s.inputAt n).fields.any (fun f => f.pair == x.number) = false)
    (hh : held = (s.putInput n { s.inputAt n with
      fields := (⟨x.number, false, false, [], s.rd Dict.ENGINE_POOL_MOTION_FALLBACK_MAD,
        s.rd Dict.ENGINE_POOL_MOTION_CUT_FRACTION⟩ :: (s.inputAt n).fields).take 4 }).dropOldFields n) :
    s.startEstimation n = held.enqueue (held.estimateStrips n x.number (at_ - 20000)) := by
  simp only [State.startEstimation, hf, hp]
  refine (if_pos ⟨ha, he, hc, hv, hx, hfrom, ht, hd⟩).trans ?_
  rw [hh]
  rfl

theorem State.endEstimation_idle {found : List (Int × Int)} (h : (s.inputAt n).fields = []) :
    s.endEstimation n found = s := by
  simp only [State.endEstimation, h, List.find?_nil]

/-- The one field of an input that waits for its strips is complete when they all are done. -/
theorem State.endEstimation_completes {found : List (Int × Int)} {f : VectorField} {count : Nat} {cut : Bool} {held : State}
    {made : Store (Int × Int × Bool) × Nat} (ha : s.alive = true) (hf : (s.inputAt n).fields = [f]) (hc : f.complete = false)
    (h0 : (s.stripsOf StripKind.estimate n).filter (fun a => a.slot == f.pair % 256) ≠ [])
    (hd : ((s.stripsOf StripKind.estimate n).filter (fun a => a.slot == f.pair % 256)).all (fun a => a.done) = true)
    (hcount : count = blockCount (s.storedRaster n))
    (hm : made = fieldOf (s.blockMisses n f.limit (s.pairFrames n f.pair).1 (s.pairFrames n f.pair).2) count found)
    (hcut : cut = decide (f.fraction * count < 100 * made.2))
    (hh : held = s.putInput n { s.inputAt n with
      motionWaits := false, fields := [{ f with complete := true, cut := cut, vectors := made.1 }] }) :
    s.endEstimation n found = { held with strips := s.strips.filter (fun a =>
      !(a.kind == StripKind.estimate && a.owner == n && a.slot == f.pair % 256)) }.raiseIf cut Event.MOTION_FALLBACK n
        (100 * made.2 / max 1 count) := by
  have hfin : (!f.complete && !((s.stripsOf StripKind.estimate n).filter (fun a => a.slot == f.pair % 256)).isEmpty &&
      ((s.stripsOf StripKind.estimate n).filter (fun a => a.slot == f.pair % 256)).all (fun a => a.done)) = true := by
    simp only [hc, hd, List.isEmpty_eq_false_iff.mpr h0, Bool.not_false, Bool.and_self]
  subst hcount hm hcut hh
  simp only [State.endEstimation, hf, List.find?_singleton, hfin, if_true, ha, State.modInput, List.map_cons, List.map_nil]
  rfl

end

/-! ### The counters of the engines (R187) -/

/-- What each engine holds after a change of them all that sets it. -/
theorem State.foldl_modEngine {P : Engine → Prop} {f : Engine → Engine} (hf : ∀ g, P (f g)) {l : List Nat} (s : State)
    {e : Nat} (h : e ∈ l ∨ P (s.engineAt e)) : P ((l.foldl (fun s e => s.modEngine e f) s).engineAt e) := by
  induction l generalizing s with
  | nil => exact h.resolve_left List.not_mem_nil
  | cons a l ih =>
    refine ih (s.modEngine a f) ?_
    rcases eq_or_ne e a with rfl | hne
    · exact .inr ((State.putEngine_engineAt s e _).symm ▸ hf _)
    · exact h.imp (fun h => (List.mem_cons.mp h).resolve_left hne) fun h => (State.putEngine_engineAt_ne s a e _ hne).symm ▸ h

theorem State.clearEngines_rd (s : State) (d : EntryDef) :
    s.clearEngines.rd d = ((((s.wr Dict.ENGINE_POOL_STRIPS_COMPLETED 0).wr Dict.ENGINE_POOL_STRIPS_REISSUED 0).wr
      Dict.ENGINE_POOL_STRIPS_RETRIED 0).wr Dict.ENGINE_POOL_STRIPS_ABANDONED 0).rd d := by
  unfold State.clearEngines
  extract_lets u v
  exact foldl_same (State.rd · d) v fun _ _ => rfl

/-- The counters of the pool and of each engine are 0 after a clear. -/
theorem State.clearEngines_spec (s : State) : s.clearEngines.rd Dict.ENGINE_POOL_STRIPS_COMPLETED = 0 ∧
    s.clearEngines.rd Dict.ENGINE_POOL_STRIPS_REISSUED = 0 ∧ s.clearEngines.rd Dict.ENGINE_POOL_STRIPS_RETRIED = 0 ∧
    s.clearEngines.rd Dict.ENGINE_POOL_STRIPS_ABANDONED = 0 ∧
    ∀ e, e < 104 → (s.clearEngines.engineAt e).eccCorrected = 0 ∧ (s.clearEngines.engineAt e).timeouts = 0 ∧
      (s.clearEngines.engineAt e).resets = 0 := by
  have hr := s.clearEngines_rd
  refine ⟨?_, ?_, ?_, ?_, fun e he => State.foldl_modEngine
    (P := fun g => g.eccCorrected = 0 ∧ g.timeouts = 0 ∧ g.resets = 0) (fun _ => ⟨rfl, rfl, rfl⟩) _ (.inl (List.mem_range.mpr he))⟩
  · exact (hr _).trans ((State.wr_rd_ne _ _ _ _ _ _ _ _ (by decide)).trans ((State.wr_rd_ne _ _ _ _ _ _ _ _ (by decide)).trans
      ((State.wr_rd_ne _ _ _ _ _ _ _ _ (by decide)).trans (State.wr_rd ..))))
  · exact (hr _).trans ((State.wr_rd_ne _ _ _ _ _ _ _ _ (by decide)).trans ((State.wr_rd_ne _ _ _ _ _ _ _ _ (by decide)).trans
      (State.wr_rd ..)))
  · exact (hr _).trans ((State.wr_rd_ne _ _ _ _ _ _ _ _ (by decide)).trans (State.wr_rd ..))
  · exact (hr _).trans (State.wr_rd ..)

/-- Settles O29: each command by the branch that its premises choose. -/
theorem tablesAndMotion : Obligations.TablesAndMotion :=
  ⟨fun _ _ _ hp => ⟨fun h => congrArg Host.Outcome.next (State.writeBlock_refuses hp (State.loadBank_fixed rfl h)),
      fun h hu => congrArg Host.Outcome.next (State.writeBlock_refuses hp (State.loadBank_used rfl h hu)),
      fun h hu hb => congrArg Host.Outcome.next (State.writeBlock_refuses hp (State.loadBank_invalid rfl h hu hb)),
      fun h hu hb => congrArg Host.Outcome.next (State.writeBlock_accepts hp (State.loadBank_done rfl h hu hb))⟩,
    fun _ _ _ hp => ⟨fun h => congrArg Host.Outcome.next (State.writeBlock_refuses hp (State.loadLut_fixed rfl h)),
      fun h hu => congrArg Host.Outcome.next (State.writeBlock_refuses hp (State.loadLut_used rfl h hu)),
      fun h hu => congrArg Host.Outcome.next (State.writeBlock_accepts hp (State.loadLut_done rfl h hu))⟩,
    fun _ _ _ hp => ⟨fun hu => congrArg Host.Outcome.next (State.writeBlock_refuses hp (State.loadLut3d_used hu)),
      fun hu => congrArg Host.Outcome.next (State.writeBlock_accepts hp (State.loadLut3d_done hu))⟩,
    fun _ _ _ _ _ _ ha hf hp he hc hv hx hfrom ht hn =>
      congrArg Host.Outcome.next (State.startEstimation_starts ha hf hp he hc hv hx hfrom ht hn rfl),
    fun _ _ _ h => congrArg Host.Outcome.next (State.endEstimation_idle h),
    fun _ _ _ _ ha hf hc h0 hd =>
      congrArg Host.Outcome.next (State.endEstimation_completes ha hf hc h0 hd rfl rfl rfl rfl),
    fun s k _ hp => ⟨_, congrArg Host.Outcome.next (State.writeScalar_accepts hp rfl), (s.begin.actBy k).clearEngines_spec⟩⟩

end Sys2Proof.Machine
end

-- ==== Proofs: the Overcoat's content (R213 to R220) ====
section
/-! PROOFS. Its pin and its images, and O31. -/
namespace Sys2Proof.Machine
open Sys2Proof
set_option Elab.async false

theorem firstOf_nil : firstOf [] = none := rfl

/-! ### The Overcoat's pin and its images (R213 to R220) -/

section
variable {s : State} {k i : Nat} {d data : List Byte}

theorem State.overcoatPinTo_changes {level : Bool} (ha : s.alive = true) (h : level ≠ s.dev.overcoatPin) :
    s.overcoatPinTo level = { s with dev := { s.dev with
      overcoatPin := level, overcoatLatched := s.dev.overcoatLatched || level } }.wr Dict.OVERCOAT_PIN_STATE level.toNat :=
  if_pos ⟨ha, h⟩

theorem State.overcoatPinTo_same {level : Bool} (h : level = s.dev.overcoatPin) : s.overcoatPinTo level = s :=
  if_neg fun hc => hc.2 h

section
variable (hi : s.window k Dict.OVERCOAT_IMAGE_WINDOW = i)
include hi

omit hi in
theorem State.writeDesc_invalid (h : descValid d = false) :
    s.writeDesc k d = .refused (.plain 0x06090030 0x12) s := by
  simp only [State.writeDesc, firstOf_cons_true (congrArg not h)]

section
variable (h : descValid d = true)
include h

omit hi in
theorem State.writeDesc_shut (ho : s.overcoatOpen = false) : s.writeDesc k d = .refused (.rule 0x40) s := by
  simp only [State.writeDesc, firstOf_cons_false (congrArg not h), firstOf_cons_true (congrArg not ho)]

section
variable (ho : s.overcoatOpen = true)
include ho

/-- An image that a layer names keeps its description. -/
theorem State.writeDesc_named (hw : leAt d 0 2 ≠ 0) (hn : s.imageNamed i = true) :
    s.writeDesc k d = .refused (.rule 0x30) s := by
  subst hi
  simp only [State.writeDesc, firstOf_cons_false (congrArg not h), firstOf_cons_false (congrArg not ho),
    firstOf_cons_true ((Bool.and_eq_true _ _).mpr ⟨bne_iff_ne.mpr hw, hn⟩)]

section
variable (hn : leAt d 0 2 = 0 ∨ s.imageNamed i = false)
include hn

theorem State.writeDesc_too_large (hs : 33554432 < s.imageBytes i + leAt d 0 2 * leAt d 2 2 * 4) :
    s.writeDesc k d = .refused (.rule 0x44) s := by
  subst hi
  have hx : (leAt d 0 2 != 0 && s.imageNamed (s.window k Dict.OVERCOAT_IMAGE_WINDOW)) = false :=
    (Bool.and_eq_false_iff).mpr (hn.imp_left bne_eq_false_iff_eq.mpr)
  simp only [State.writeDesc, firstOf_cons_false (congrArg not h), firstOf_cons_false (congrArg not ho),
    firstOf_cons_false hx, firstOf_cons_true (decide_eq_true hs)]

/-- A description takes the place of the image that stood there. -/
theorem State.writeDesc_done (hs : s.imageBytes i + leAt d 0 2 * leAt d 2 2 * 4 ≤ 33554432) :
    s.writeDesc k d = .done
      (((((((s.putImageDesc i (if leAt d 0 2 = 0 then zeros 16 else d)).putImageData i []).putImageCrc i 0).putImageBad i
        false).wr Dict.OVERCOAT_IMAGES_LOADED (putBit (s.rd Dict.OVERCOAT_IMAGES_LOADED) i false)).countImages).raiseIf
          (bit (s.rd Dict.OVERCOAT_IMAGES_LOADED) i && leAt d 0 2 == 0) Event.OVERCOAT_CHANGED (256 + i) 0) := by
  subst hi
  have hx : (leAt d 0 2 != 0 && s.imageNamed (s.window k Dict.OVERCOAT_IMAGE_WINDOW)) = false :=
    (Bool.and_eq_false_iff).mpr (hn.imp_left bne_eq_false_iff_eq.mpr)
  simp only [State.writeDesc, firstOf_cons_false (congrArg not h), firstOf_cons_false (congrArg not ho),
    firstOf_cons_false hx, firstOf_cons_false (decide_eq_false (Nat.not_lt.mpr hs)), firstOf_nil, State.putImageBad_rd,
    State.putImageCrc_rd, State.putImageData_rd, State.putImageDesc_rd]

end
end
end

section
variable (ho : s.overcoatOpen = true) (hn : s.imageNamed i = false)
include ho hn

theorem State.writeImage_misfit (h : (s.imageSize i).1 = 0 ∨ data.length ≠ (s.imageSize i).1 * (s.imageSize i).2 * 4) :
    s.writeImage k data = .refused (.rule 0x44) s := by
  subst hi
  have hx : ((s.imageSize (s.window k Dict.OVERCOAT_IMAGE_WINDOW)).1 == 0 ||
      data.length != (s.imageSize (s.window k Dict.OVERCOAT_IMAGE_WINDOW)).1 *
        (s.imageSize (s.window k Dict.OVERCOAT_IMAGE_WINDOW)).2 * 4 ||
      decide (33554432 < s.imageBytes (s.window k Dict.OVERCOAT_IMAGE_WINDOW) +
        (s.imageSize (s.window k Dict.OVERCOAT_IMAGE_WINDOW)).1 *
          (s.imageSize (s.window k Dict.OVERCOAT_IMAGE_WINDOW)).2 * 4)) = true := by
    simp only [Bool.or_eq_true, beq_iff_eq, bne_iff_ne]
    exact .inl h
  simp only [State.writeImage, firstOf_cons_false (congrArg not ho), firstOf_cons_false hn, firstOf_cons_true hx]

/-- An image of the size that its description gives is loaded. -/
theorem State.writeImage_done (h0 : (s.imageSize i).1 ≠ 0) (hl : data.length = (s.imageSize i).1 * (s.imageSize i).2 * 4)
    (hs : s.imageBytes i + (s.imageSize i).1 * (s.imageSize i).2 * 4 ≤ 33554432) :
    s.writeImage k data = .done
      ((((((s.putImageData i data).putImageCrc i (crc32 data)).putImageBad i false).wr Dict.OVERCOAT_IMAGES_LOADED
        (putBit (s.rd Dict.OVERCOAT_IMAGES_LOADED) i true)).countImages).raise Event.OVERCOAT_CHANGED (256 + i)
          (crc32 data)) := by
  subst hi
  have hx : ((s.imageSize (s.window k Dict.OVERCOAT_IMAGE_WINDOW)).1 == 0 ||
      data.length != (s.imageSize (s.window k Dict.OVERCOAT_IMAGE_WINDOW)).1 *
        (s.imageSize (s.window k Dict.OVERCOAT_IMAGE_WINDOW)).2 * 4 ||
      decide (33554432 < s.imageBytes (s.window k Dict.OVERCOAT_IMAGE_WINDOW) +
        (s.imageSize (s.window k Dict.OVERCOAT_IMAGE_WINDOW)).1 *
          (s.imageSize (s.window k Dict.OVERCOAT_IMAGE_WINDOW)).2 * 4)) = false := by
    simp only [Bool.or_eq_false_iff, beq_eq_false_iff_ne, bne_eq_false_iff_eq, decide_eq_false_iff_not]
    exact ⟨⟨h0, hl⟩, Nat.not_lt.mpr hs⟩
  simp only [State.writeImage, firstOf_cons_false (congrArg not ho), firstOf_cons_false hn, firstOf_cons_false hx, firstOf_nil,
    State.putImageBad_rd, State.putImageCrc_rd, State.putImageData_rd]

end
end
end

/-- Settles O31: each command by the branch that its premises choose. -/
theorem overcoatContent : Obligations.OvercoatContent :=
  ⟨fun _ _ ha => ⟨fun h => congrArg Host.Outcome.next (State.overcoatPinTo_changes ha h),
      fun h => congrArg Host.Outcome.next (State.overcoatPinTo_same h)⟩,
    fun _ _ _ hp => congrArg Host.Outcome.next (State.writeScalar_accepts hp rfl),
    fun _ _ _ hp => congrArg Host.Outcome.next (State.writeScalar_accepts hp rfl),
    fun _ _ _ hp => ⟨fun h => congrArg Host.Outcome.next (State.writeBlock_refuses hp (State.writeDesc_invalid h)),
      fun h ho => congrArg Host.Outcome.next (State.writeBlock_refuses hp (State.writeDesc_shut h ho)),
      fun h ho hw hn => congrArg Host.Outcome.next (State.writeBlock_refuses hp (State.writeDesc_named rfl h ho hw hn)),
      fun h ho hn hs => congrArg Host.Outcome.next (State.writeBlock_refuses hp (State.writeDesc_too_large rfl h ho hn hs)),
      fun h ho hn hs => congrArg Host.Outcome.next (State.writeBlock_accepts hp (State.writeDesc_done rfl h ho hn hs))⟩,
    fun _ _ _ hp ho hn =>
      ⟨fun h => congrArg Host.Outcome.next (State.writeBlock_refuses hp (State.writeImage_misfit rfl ho hn h)),
        fun h0 hl hs => congrArg Host.Outcome.next (State.writeBlock_accepts hp (State.writeImage_done rfl ho hn h0 hl hs))⟩⟩

end Sys2Proof.Machine
end

-- ==== Proofs: heads (R230 to R243) ====
section
/-! PROOFS. One equation for each branch of their commands, and O33. -/
namespace Sys2Proof.Machine
open Sys2Proof
set_option Elab.async false

/-! ### Heads start, stop and run their frames (R230 to R243) -/

section
variable {s : State} {h : Nat}

theorem State.enableHead_on (he : s.flag Dict.HEAD_ENABLE h = true) : s.enableHead h = .done s := if_pos he

theorem State.enableHead_starts {filled : State} (he : s.flag Dict.HEAD_ENABLE h = false) (hj : s.judgeHead h = none)
    (hf : filled = (((s.wr Dict.HEAD_ENABLE 1 h).takeBuffers).takeFifo h).wr Dict.HEAD_STATUS_FIFO_LOW_WATER
      (1024 * (((s.wr Dict.HEAD_ENABLE 1 h).takeBuffers).takeFifo h).rd Dict.HEAD_STATUS_FIFO_SIZE h) h) :
    s.enableHead h = .done (filled.modHead h fun a => { a with
      stopping := false, startAfter := if a.running then 0 else filled.timebase + 1000000 }) := by
  subst hf
  simp only [State.enableHead, he, hj, Bool.false_eq_true, if_false]

theorem State.enableHead_refuses {r : Refuse} (he : s.flag Dict.HEAD_ENABLE h = false) (hj : s.judgeHead h = some r) :
    s.enableHead h = .refused r s := by
  simp only [State.enableHead, he, hj, Bool.false_eq_true, if_false]

theorem State.disableHead_running (hr : (s.headAt h).running = true) : s.disableHead h =
    .done ((s.wr Dict.HEAD_ENABLE 0 h).putHead h { s.headAt h with stopping := true }) := if_pos hr

theorem State.disableHead_still (hr : (s.headAt h).running = false) : s.disableHead h =
    .done ((((s.wr Dict.HEAD_ENABLE 0 h).putHead h { s.headAt h with startAfter := 0 }).takeBuffers).takeFifo h) :=
  if_neg (Bool.eq_false_iff.mp hr)

theorem State.headFrame_none {low : Nat} (hn : s.nextFrame h = none) : s.headFrame h low = s := by
  simp only [State.headFrame, hn]

section
variable {low t : Nat} (ha : s.alive = true) (hn : s.nextFrame h = some t) (ht : t ≤ s.timebase)
include ha hn ht

theorem State.headFrame_stops (hr : (s.headAt h).running = true) (hs : (s.headAt h).stopping = true) :
    s.headFrame h low = s.stopWithClones h := by
  simp only [State.headFrame, hn]
  exact (if_pos ⟨ha, ht⟩).trans (if_pos ⟨hr, hs⟩)

/-- The first frame of a head has no FIFO yet whose low water would be kept. -/
theorem State.headFrame_starts (hr : (s.headAt h).running = false) : s.headFrame h low = s.beginFrame h t true false := by
  simp only [State.headFrame, hn, ha, ht, hr, Bool.false_eq_true, false_and, and_self, if_true, if_false, Bool.not_false]

section
variable (hr : (s.headAt h).running = true) (hs : (s.headAt h).stopping = false)
include hr hs

theorem State.headFrame_plain (hf : s.rd Dict.HEAD_STATUS_FIFO_SIZE h = 0) :
    s.headFrame h low = s.beginFrame h t false false := by
  simp only [State.headFrame, hn, ha, ht, hr, hs, hf, Bool.false_eq_true, and_self, and_false, ne_eq, not_true_eq_false,
    if_true, if_false, Bool.not_true]

theorem State.headFrame_fifo (hf : s.rd Dict.HEAD_STATUS_FIFO_SIZE h ≠ 0) : s.headFrame h low =
    (s.wr Dict.HEAD_STATUS_FIFO_LOW_WATER (min low (s.rd Dict.HEAD_STATUS_FIFO_LOW_WATER h)) h).beginFrame h t false false := by
  simp only [State.headFrame, hn, ha, ht, hr, hs, hf, Bool.false_eq_true, and_self, and_false, ne_eq, not_false_eq_true,
    if_true, if_false, Bool.not_true]

end
end

/-! ### The moments of a frame (R131, R239 to R241) -/

/-- At its flip latch a head takes its due commits, and its canvas flips if the head leads it. -/
theorem State.flipLatch_due {w : State} (ha : s.alive = true) (hr : (s.headAt h).running = true)
    (hf : (s.headAt h).flipped = false) (ht : (s.headAt h).frameStart + s.flipOffset h ≤ s.timebase)
    (hw : w = s.putHead h { s.headAt h with flipped := true }) :
    s.flipLatch h = (if s.shownCanvas h < 8 ∧ w.leadHead (s.shownCanvas h) = some h then w.flipSlot (s.shownCanvas h)
      else w).landDue 1 h ((s.headAt h).frameStart + s.flipOffset h) := hw ▸ if_pos ⟨ha, hr, hf, ht⟩

theorem State.flipLatch_early (ht : s.timebase < (s.headAt h).frameStart + s.flipOffset h) : s.flipLatch h = s :=
  if_neg fun hc => absurd hc.2.2.2 (Nat.not_le.mpr ht)

theorem State.startOfBlank_due (ha : s.alive = true) (hr : (s.headAt h).running = true) (hb : (s.headAt h).blanked = false)
    (ht : (s.headAt h).frameStart + s.vb0Offset h ≤ s.timebase) : s.startOfBlank h =
      (s.putHead h { s.headAt h with blanked := true }).setLegacy Dict.LEGACY_EVENTS_STATUS_START_OF_BLANK
        Dict.LEGACY_EVENTS_ENABLE_START_OF_BLANK h := if_pos ⟨ha, hr, hb, ht⟩

theorem State.startOfBlank_past (hb : (s.headAt h).blanked = true) : s.startOfBlank h = s :=
  if_neg fun hc => Bool.noConfusion (hb.symm.trans hc.2.2.1)

theorem State.lineMatch_due (ha : s.alive = true) (hr : (s.headAt h).running = true) (hm : (s.headAt h).matched = false)
    (hl : s.rd Dict.LEGACY_EVENTS_MATCH_LINE 0 h < s.rd Dict.HEAD_V_TOTAL h)
    (ht : (s.headAt h).frameStart + s.lineTime h (s.rd Dict.LEGACY_EVENTS_MATCH_LINE 0 h) ≤ s.timebase) :
    s.lineMatch h = (s.putHead h { s.headAt h with matched := true }).setLegacy Dict.LEGACY_EVENTS_STATUS_LINE_MATCH
      Dict.LEGACY_EVENTS_ENABLE_LINE_MATCH h := if_pos ⟨ha, hr, hm, hl, ht⟩

theorem State.lineMatch_past (hm : (s.headAt h).matched = true) : s.lineMatch h = s :=
  if_neg fun hc => Bool.noConfusion (hm.symm.trans hc.2.2.1)

/-- A line that the frame has passed already matches in the next frame. -/
theorem State.writeMatchLine_done {v : Nat} (hv : v < s.rd Dict.HEAD_V_TOTAL h) : s.writeMatchLine h v =
    .done ((s.wr Dict.LEGACY_EVENTS_MATCH_LINE v 0 h).putHead h { s.headAt h with
      matched := decide ((s.headAt h).frameStart + s.lineTime h v ≤ s.timebase) }) :=
  if_neg (by simpa using hv)

theorem State.underrun_not_content {line x : Nat} (hc : (s.headAt h).shown ≠ .content) : s.underrun h line x = s :=
  if_neg fun hx => hc hx.2.2.1

section
variable {line x : Nat} {u : State} (ha : s.alive = true) (hr : (s.headAt h).running = true)
  (hc : (s.headAt h).shown = .content) (hm : s.headRd h Dict.HEAD_BUFFER_MODE = 1)
  (hl : line < s.headRd h Dict.HEAD_V_ACTIVE) (hx : x < s.headRd h Dict.HEAD_H_ACTIVE)
  (hs : (s.headAt h).short.all (fun e => e.1 != line) = true)
  (hu : u = ((s.putHead h { s.headAt h with
    underruns := (s.headAt h).underruns + 1, short := Store.put (s.headAt h).short line x }).inc
      Dict.HEAD_STATUS_UNDERRUN_LINES h).wr Dict.HEAD_STATUS_FIFO_LOW_WATER 0 h)
include ha hr hc hm hl hx hs hu

/-- A line that the FIFO cannot fill is filled with the background (R240). -/
theorem State.underrun_shown (ht : u.rd Dict.HEAD_TYPE h ≠ 1) : s.underrun h line x =
    (u.out (.pixels h line ((s.asScanned h).rasterLine h (s.headAt h).carried .content 0 x line ++
      (s.asScanned h).rasterLine h (s.headAt h).carried .background x (s.headRd h Dict.HEAD_H_ACTIVE - x) line))).setLegacy
        Dict.LEGACY_EVENTS_STATUS_UNDERRUN Dict.LEGACY_EVENTS_ENABLE_UNDERRUN h := by
  subst hu
  refine (if_pos ⟨ha, hr, hc, hm, hl, hx, hs⟩).trans ?_
  exact congrArg (State.setLegacy · _ _ _) (if_neg ht)

/-- A tile head only tells the underrun. -/
theorem State.underrun_tile (ht : u.rd Dict.HEAD_TYPE h = 1) : s.underrun h line x =
    u.setLegacy Dict.LEGACY_EVENTS_STATUS_UNDERRUN Dict.LEGACY_EVENTS_ENABLE_UNDERRUN h := by
  subst hu
  refine (if_pos ⟨ha, hr, hc, hm, hl, hx, hs⟩).trans ?_
  exact congrArg (State.setLegacy · _ _ _) (if_pos ht)

end
end

/-- Settles O33: each command by the branch that its premises choose. -/
theorem headsRun : Obligations.HeadsRun :=
  ⟨fun _ _ _ hp => ⟨fun he => congrArg Host.Outcome.next (State.writeScalar_accepts hp (State.enableHead_on he)),
      fun he hj => congrArg Host.Outcome.next (State.writeScalar_accepts hp (State.enableHead_starts he hj rfl)),
      fun _ he hj => congrArg Host.Outcome.next (State.writeScalar_refuses hp (State.enableHead_refuses he hj))⟩,
    fun _ _ _ hp => ⟨fun hr => congrArg Host.Outcome.next (State.writeScalar_accepts hp (State.disableHead_running hr)),
      fun hr => congrArg Host.Outcome.next (State.writeScalar_accepts hp (State.disableHead_still hr))⟩,
    fun _ _ _ _ ha hn ht => ⟨fun hr hs => congrArg Host.Outcome.next (State.headFrame_stops ha hn ht hr hs),
      fun hr => congrArg Host.Outcome.next (State.headFrame_starts ha hn ht hr),
      fun hr hs hf => congrArg Host.Outcome.next (State.headFrame_plain ha hn ht hr hs hf),
      fun hr hs hf => congrArg Host.Outcome.next (State.headFrame_fifo ha hn ht hr hs hf)⟩,
    fun _ _ _ hn => congrArg Host.Outcome.next (State.headFrame_none hn),
    fun _ _ ha hr hf =>
      ⟨fun ht hc hl => congrArg Host.Outcome.next ((State.flipLatch_due ha hr hf ht rfl).trans
          (congrArg (State.landDue · _ _ _) (if_pos ⟨hc, hl⟩))),
        fun ht _ hl => congrArg Host.Outcome.next ((State.flipLatch_due ha hr hf ht rfl).trans
          (congrArg (State.landDue · _ _ _) (if_neg fun h => hl h.2))),
        fun ht hc => congrArg Host.Outcome.next ((State.flipLatch_due ha hr hf ht rfl).trans
          (congrArg (State.landDue · _ _ _) (if_neg fun h => absurd h.1 (Nat.not_lt.mpr hc)))),
        fun ht => congrArg Host.Outcome.next (State.flipLatch_early ht)⟩,
    fun _ _ ha hr => ⟨fun hb ht => congrArg Host.Outcome.next (State.startOfBlank_due ha hr hb ht),
      fun hb => congrArg Host.Outcome.next (State.startOfBlank_past hb),
      fun hm hl ht => congrArg Host.Outcome.next (State.lineMatch_due ha hr hm hl ht),
      fun hm => congrArg Host.Outcome.next (State.lineMatch_past hm)⟩,
    fun _ _ _ hv => State.writeMatchLine_done hv,
    fun _ _ _ _ ha hr hc hm hl hx hs =>
      ⟨fun ht => congrArg Host.Outcome.next (State.underrun_shown ha hr hc hm hl hx hs rfl ht),
        fun ht => congrArg Host.Outcome.next (State.underrun_tile ha hr hc hm hl hx hs rfl ht)⟩,
    fun _ _ _ _ hc => congrArg Host.Outcome.next (State.underrun_not_content hc),
    fun _ _ _ => ⟨fun hp => congrArg Host.Outcome.next (State.writeScalar_accepts hp rfl),
      fun hp => congrArg Host.Outcome.next (State.writeScalar_accepts hp rfl),
      fun hp => congrArg Host.Outcome.next (State.writeScalar_accepts hp rfl),
      fun hp => congrArg Host.Outcome.next (State.writeScalar_accepts hp rfl)⟩⟩

end Sys2Proof.Machine
end

-- ==== Proofs: check windows and RETIME (R248 to R256) ====
section
/-! PROOFS. What a mismatch and a new timing leave, and O34. -/
namespace Sys2Proof.Machine
open Sys2Proof
set_option Elab.async false

/-! ### Check windows and the SAFE fill (R248 to R253) -/

section
variable {s : State} {h w echo : Nat}

theorem State.checkWindow_unwatched (hc : s.checksWindow h w = false) : s.checkWindow h w echo = s :=
  if_neg fun hx => Bool.noConfusion (hc.symm.trans hx.2)

section
variable {seen : State} (ha : s.alive = true) (hc : s.checksWindow h w = true)
  (hs : seen = s.modHead h fun a => { a with
    checked := Store.change (fun _ => 0) a.checked w (fun n => (n + 1) % 2 ^ 32) })
include ha hc hs

theorem State.checkWindow_match (he : seen.expectedCrc h (s.checkedWindow h w) = echo)
    (hw : seen.windowShort h (s.checkedWindow h w) = false) : s.checkWindow h w echo =
      (seen.modHead h fun a => { a with consecutive := Store.write (fun _ => 0) a.consecutive w 0 }).wr
        Dict.HEAD_STATUS_CHECK_STATUS (putBit (s.rd Dict.HEAD_STATUS_CHECK_STATUS h) w false) h := by
  subst hs
  exact (if_pos ⟨ha, hc⟩).trans (if_pos ⟨he, hw⟩)

/-- A window that does not match is counted, told, and may ask for the SAFE fill. -/
theorem State.checkWindow_mismatch {n : Nat} (hn : n = Store.read (fun _ => 0) (seen.headAt h).consecutive w + 1)
    (he : seen.expectedCrc h (s.checkedWindow h w) ≠ echo ∨ seen.windowShort h (s.checkedWindow h w) = true) :
    ∃ v : Head, s.checkWindow h w echo = ((seen.putHead h v).wr Dict.HEAD_STATUS_CHECK_STATUS
        (putBit (s.rd Dict.HEAD_STATUS_CHECK_STATUS h) w true) h).raise Event.CHECK_MISMATCH h (w * 65536 + n % 65536) ∧
      v.consecutive = Store.write (fun _ => 0) (seen.headAt h).consecutive w n ∧
      v.safeRequest = if bit (byteAt (s.checkedWindow h w) 0) 1 ∧ seen.headLive h 2 = 1 ∧ seen.headLive h 1 ≤ n ∧
        (seen.headAt h).safeRequest = none then some w else (seen.headAt h).safeRequest := by
  subst hs hn
  exact ⟨_, (if_pos ⟨ha, hc⟩).trans (if_neg fun hx => he.elim (· hx.1) fun h => Bool.noConfusion (h.symm.trans hx.2)),
    rfl, rfl⟩

end

theorem State.clearSafe_safe (ha : (s.headAt h).safe = true) :
    s.clearSafe h = .done (s.putHead h { s.headAt h with safeClear := true }) := congrArg Effect.done (if_pos ha)

theorem State.clearSafe_content (ha : (s.headAt h).safe = false) : s.clearSafe h = .done s :=
  congrArg Effect.done (if_neg (Bool.eq_false_iff.mp ha))

theorem State.endSafe_clears (ha : (s.headAt h).safeClear = true) :
    s.endSafe h = ((s.putHead h { s.headAt h with safe := false, safeClear := false, safeFrames := 0 }).wr
      Dict.HEAD_STATUS_SAFE_WINDOW 0xFF h).raise Event.HEAD_SAFE_CLEARED h (s.headAt h).safeFrames := if_pos ha

theorem State.endSafe_stays (ha : (s.headAt h).safeClear = false) : s.endSafe h = s := if_neg (Bool.eq_false_iff.mp ha)

/-! ### New timing (R254 to R256) -/

theorem State.retimed_none (hd : s.retimeDue h = none) : s.retimed h = s := by
  simp only [State.retimed, hd]

section
variable {t : Nat} {r : Retime} (ha : s.alive = true) (hd : s.retimeDue h = some (t, r))
include ha hd

theorem State.retimed_stops (hs : (s.headAt h).stopping = true) : s.retimed h = s.stopWithClones h := by
  simp only [State.retimed, hd]
  exact if_pos ⟨ha, hs⟩

/-- The new timing begins with a frame of its own, and the clones follow. -/
theorem State.retimed_begins {f u v : State} (hs : (s.headAt h).stopping = false)
    (hv : v = (((s.clonesOf h).filter (fun g => (s.headAt g).running)).filterMap fun g =>
      (s.nextFrame g).map (fun t => (g, t))).foldl (fun s e => s.followTiming e.1 e.2)
        (((s.putTiming h r.timing).setPixelClock h).wrDom Dict.HEAD_NEW_TIMING [] h))
    (hu : u = (v.modHead h (fun a => { a with retime := none })).landPending 1 h)
    (hf : f = ((h :: u.clonesOf h).foldl State.takeFifo u).beginFrame h t false true) :
    s.retimed h = f.endRetime h (if f.rd Dict.HEAD_TYPE h = 2 ∨ f.rd Dict.HEAD_TYPE h = 3 then (t - r.oldEnd) / 1000000
      else (f.headAt h).background.toNat) := by
  simp only [State.retimed, hd, hs, ha, Bool.false_eq_true, and_false, if_false, if_true, ← hv, ← hu, ← hf]

end
end

/-- The next state of a window that does not match, by its parts. -/
theorem exec_checkWindowEnd_mismatch {s : State} {h : Fin 32} {w : Fin 16} {echo n : Nat} {d : List Byte} {seen : State}
    (ha : s.begin.alive = true) (hc : s.begin.checksWindow h w = true) (hd : d = s.begin.checkedWindow h w)
    (hs : seen = s.begin.modHead h fun a => { a with
      checked := Store.change (fun _ => 0) a.checked w (fun n => (n + 1) % 2 ^ 32) })
    (hn : n = Store.read (fun _ => 0) (seen.headAt h).consecutive w + 1)
    (he : seen.expectedCrc h d ≠ echo ∨ seen.windowShort h d = true) :
    ∃ t, exec (.checkWindowEnd h w echo) s = .next t ∧
      Safety.raised s.begin t Event.CHECK_MISMATCH h (w * 65536 + n % 65536) ∧
      t.rd Dict.HEAD_STATUS_CHECK_STATUS h = putBit (s.begin.rd Dict.HEAD_STATUS_CHECK_STATUS h) w true % 65536 ∧
      Store.read (fun _ => 0) (t.headAt h).consecutive w = n ∧
      (bit (byteAt d 0) 1 = true → seen.headLive h 2 = 1 → seen.headLive h 1 ≤ n → (seen.headAt h).safeRequest = none →
        (t.headAt h).safeRequest = some w.val) ∧
      (seen.headLive h 2 ≠ 1 → (t.headAt h).safeRequest = (seen.headAt h).safeRequest) := by
  subst hd
  obtain ⟨v, hx, hcv, hr⟩ := State.checkWindow_mismatch ha hc hs hn he
  have hq : ((seen.putHead h v).wr Dict.HEAD_STATUS_CHECK_STATUS
      (putBit (s.begin.rd Dict.HEAD_STATUS_CHECK_STATUS h) w true) h).ev.queue = s.begin.ev.queue := hs ▸ rfl
  have hv : (((seen.putHead h v).wr Dict.HEAD_STATUS_CHECK_STATUS (putBit (s.begin.rd Dict.HEAD_STATUS_CHECK_STATUS h) w true)
      h).raise Event.CHECK_MISMATCH h (w * 65536 + n % 65536)).headAt h = v := State.putHead_headAt seen h v
  refine ⟨_, congrArg Host.Outcome.next hx, raised_raise_own hq, State.wr_rd .., ?_, fun hb h2 h1 h0 => ?_, fun h2 => ?_⟩
  · rw [hv, hcv]
    exact Store.read_write_self ..
  · rw [hv, hr, if_pos ⟨hb, h2, h1, h0⟩]
  · rw [hv, hr, if_neg fun hc => h2 hc.2.1]

/-- Settles O34: each command by the branch that its premises choose. -/
theorem checksAndRetime : Obligations.ChecksAndRetime :=
  ⟨fun _ _ _ _ ha hc => ⟨fun he hw => congrArg Host.Outcome.next (State.checkWindow_match ha hc rfl he hw),
      fun he => exec_checkWindowEnd_mismatch ha hc rfl rfl rfl he⟩,
    fun _ _ _ _ hc => congrArg Host.Outcome.next (State.checkWindow_unwatched hc),
    fun _ _ _ _ hp => ⟨fun ha => congrArg Host.Outcome.next (State.writeScalar_accepts hp (State.clearSafe_safe ha)),
      fun ha => congrArg Host.Outcome.next (State.writeScalar_accepts hp (State.clearSafe_content ha))⟩,
    fun _ _ => ⟨fun ha => State.endSafe_clears ha, fun ha => State.endSafe_stays ha⟩,
    fun _ _ _ _ hp => congrArg Host.Outcome.next (State.writeScalar_waits hp rfl),
    fun _ _ _ _ ha hd hs => ⟨fun ht => congrArg Host.Outcome.next ((State.retimed_begins ha hd hs rfl rfl rfl).trans
        (congrArg _ (if_pos ht))),
      fun h2 h3 => congrArg Host.Outcome.next ((State.retimed_begins ha hd hs rfl rfl rfl).trans
        (congrArg _ (if_neg fun h => h.elim h2 h3)))⟩,
    fun _ _ _ _ ha hd hs => congrArg Host.Outcome.next (State.retimed_stops ha hd hs),
    fun _ _ hd => congrArg Host.Outcome.next (State.retimed_none hd)⟩

end Sys2Proof.Machine
end

-- ==== Proofs: the tile map and its packets (R266 to R290) ====
section
/-! PROOFS. What an entry and a STATUS leave, and O35. -/
namespace Sys2Proof.Machine
open Sys2Proof
set_option Elab.async false

/-! ### The tile map and the calibrations (R270 to R275) -/

section
variable {s : State} {sess k : Nat} {e data : List Byte}

section
variable {w : Nat} {entries : List (List Byte)} {t : State} (hw : w = s.window sess Dict.TILE_MAP_CONTROL_MAP_WINDOW)
  (he : entries = chunks 32 data.length data)
  (ht : t = putEntries State.putTileShadow (s.deferredWrites.foldl State.applyHeld s) w entries)
include hw he ht

theorem State.writeTiles_done
    (h : firstBad (fun k b => if s.tileBreaks t k b then some (.tableEntry 0x58 k) else none) w entries = none) :
    s.writeTiles sess data = .done (((putEntries State.storeTile s w (entries.map tileStored)).countTiles).inUse) := by
  subst ht he hw
  simp only [State.writeTiles, h]

theorem State.writeTiles_refused {r : Refuse}
    (h : firstBad (fun k b => if s.tileBreaks t k b then some (.tableEntry 0x58 k) else none) w entries = some r) :
    s.writeTiles sess data = .refused r
      ((s.wr Dict.TILE_MAP_CONTROL_LAST_BAD_ENTRY r.entry).raiseBy sess Event.TILE_MAP_REFUSED r.entry 0x58) := by
  subst ht he hw
  simp only [State.writeTiles, h]

end

/-- An entry that a commit validates over waits, and any other one lands. -/
theorem State.storeTile_held (h : s.holds (heldTile k) e = true) :
    s.storeTile k e = { s with deferredWrites := s.deferredWrites ++ [⟨heldTile k, 0, some e⟩] } := if_pos h

theorem State.storeTile_lands (h : s.holds (heldTile k) e = false) :
    s.storeTile k e = (s.putTileShadow k e).landTile k e := if_neg (Bool.eq_false_iff.mp h)

theorem State.storeCalib_held (h : s.holds (heldCalib k) e = true) :
    s.storeCalib k e = { s with deferredWrites := s.deferredWrites ++ [⟨heldCalib k, 0, some e⟩] } := if_pos h

theorem State.storeCalib_lands (h : s.holds (heldCalib k) e = false) :
    s.storeCalib k e = (s.putCalibShadow k e).landCalib k e := if_neg (Bool.eq_false_iff.mp h)

theorem State.landTile_sent (h : allHeads.any (fun h => s.sendsTile h k e) = true) : s.landTile k e = s := if_pos h

theorem State.enforceTile_entry (s : State) (k : Nat) (e : List Byte) : (s.enforceTile k e).tileEntryAt k = e :=
  (apply_ite (State.tileEntryAt · k) _ _ _).trans
    ((ite_self _).trans (State.putTileEntry_tileEntryAt s k e))

/-- An entry that no head sends is the tile's at once. -/
theorem State.landTile_entry (h : allHeads.any (fun h => s.sendsTile h k e) = false)
    (hv : (TileEntry.ofBytes e).valid = false) : (s.landTile k e).tileEntryAt k = e := by
  have hl : s.landTile k e = s.enforceTile k e := (if_neg (Bool.eq_false_iff.mp h)).trans (if_neg (by simp [hv]))
  rw [hl]
  exact s.enforceTile_entry k e

/-! ### Packets sent and received (R266, R276 to R290) -/

theorem State.repeatCalib_due {h : Nat} (ha : s.alive = true) (hr : (s.headAt h).running = true)
    (ht : s.rd Dict.HEAD_TYPE h = 1) (hc : (s.headAt h).calibBase + 1024 ≤ s.rd Dict.HEAD_STATUS_BASE_FRAME_COUNT h) :
    s.repeatCalib h = (s.allCalibsDue h).sendCalibs h := if_pos ⟨ha, hr, ht, hc⟩

theorem State.repeatCalib_early {h : Nat}
    (hc : s.rd Dict.HEAD_STATUS_BASE_FRAME_COUNT h < (s.headAt h).calibBase + 1024) : s.repeatCalib h = s :=
  if_neg fun hx => absurd hx.2.2.2 (Nat.not_le.mpr hc)

section
variable {h : Nat} {v : State} {t : TileEntry} (hv : v = s.asScanned h) (ht : t = TileEntry.ofBytes (v.tileEntryAt k))
include hv ht

theorem State.sendTile_sends (ha : s.alive = true) (hr : (s.headAt h).running = true)
    (hs : v.sendsEntry h (v.tileEntryAt k) = true) (hx : t.x + t.w ≤ s.rd Dict.CANVAS_WIDTH t.canvas)
    (hy : t.y + t.h ≤ s.rd Dict.CANVAS_HEIGHT t.canvas) (hb : bit t.pattern (s.headAt h).carried = true) :
    s.sendTile h k = (s.sendPixels h k false).sendPixels h k true := by
  subst ht hv
  exact if_pos ⟨ha, hr, hs, decide_eq_true ⟨hx, hy⟩, hb⟩

theorem State.sendTile_unpatterned (hb : bit t.pattern (s.headAt h).carried = false) : s.sendTile h k = s := by
  subst ht hv
  exact if_neg fun hx => Bool.noConfusion (hb.symm.trans hx.2.2.2.2)

/-- A head sends on its own ports only. -/
theorem State.sendPixels_foreign (hb : bit (s.rd Dict.HEAD_PORT_MASK h) t.port = false) : s.sendPixels h k false = s := by
  subst ht hv
  unfold State.sendPixels
  extract_lets v t p a all ready key done
  have hp : bit (s.rd Dict.HEAD_PORT_MASK h) p = false := hb
  clear_value p
  split
  exact if_pos (.inl hp)

end

section
variable {p gen tile : Nat} {auth : Bool} (ha : s.alive = true)
  (hp : s.rd Dict.PORT_STATE p = 2 ∨ s.rd Dict.PORT_STATE p = 3) (hg : gen = s.rd Dict.PTL_GENERATION 0 p)
  (hau : auth = bit (byteAt data 1) 0) (hti : tile = beNat ((data.drop 8).take 2))
include ha hp hg hau

theorem State.receiveStatus_discards (h : gen = 0 ∨ bit (byteAt data 1) 1 = true ∨ gen = 1 ∧ auth = true) :
    s.receiveStatus p data = s.inc Dict.PORT_RX_DISCARDS p := by
  subst hg hau
  refine (if_pos ⟨ha, hp⟩).trans (if_pos ?_)
  rcases h with h | h | h
  · exact .inl h
  · exact .inr (.inr (.inl h))
  · exact .inr (.inr (.inr (.inl h)))

section
variable (h0 : gen ≠ 0) (hty : byteAt data 0 = 16 * gen + 5) (hen : bit (byteAt data 1) 1 = false)
  (h1 : gen = 1 → auth = false) (hn : beNat ((data.drop 13).take 2) = 32)
  (hl : data.length = 48 + (if auth then 16 else 0))
include hti h0 hty hen h1 hn hl

/-- A STATUS in form is judged by its tag and named by its tile. -/
theorem State.receiveStatus_in_form : s.receiveStatus p data =
    if (gen == 2 && s.rd Dict.PTL_KEY_STATE == 1) && !s.statusTag p data then s.rejectStatus p tile
    else (s.tileOf p tile).elim (s.inc Dict.PORT_RX_DISCARDS p) fun k =>
      (s.inc Dict.PORT_RX_FRAMES p).noteStatus k p ((data.drop 16).take 32) := by
  subst hg hau hti
  refine (if_pos ⟨ha, hp⟩).trans ((if_neg ?_).trans ?_)
  · rintro (h | h | h | ⟨h, h'⟩ | h | h)
    · exact h0 h
    · exact h hty
    · exact Bool.noConfusion (hen.symm.trans h)
    · exact Bool.noConfusion ((h1 h).symm.trans h')
    · exact h hn
    · exact h hl
  · cases s.tileOf p (beNat ((data.drop 8).take 2)) <;> rfl

theorem State.receiveStatus_forged (hg2 : gen = 2) (hk : s.rd Dict.PTL_KEY_STATE = 1) (ht : s.statusTag p data = false) :
    s.receiveStatus p data = s.rejectStatus p tile :=
  (State.receiveStatus_in_form ha hp hg hau hti h0 hty hen h1 hn hl).trans (if_pos (by simp [hg2, hk, ht]))

theorem State.receiveStatus_taken (ht : gen ≠ 2 ∨ s.rd Dict.PTL_KEY_STATE ≠ 1 ∨ s.statusTag p data = true) :
    s.receiveStatus p data = (s.tileOf p tile).elim (s.inc Dict.PORT_RX_DISCARDS p) fun k =>
      (s.inc Dict.PORT_RX_FRAMES p).noteStatus k p ((data.drop 16).take 32) := by
  refine (State.receiveStatus_in_form ha hp hg hau hti h0 hty hen h1 hn hl).trans (if_neg ?_)
  simp only [Bool.and_eq_true, beq_iff_eq, Bool.not_eq_true']
  rintro ⟨⟨hx, hy⟩, hz⟩
  rcases ht with ht | ht | ht
  · exact ht hx
  · exact ht hy
  · exact Bool.noConfusion (hz.symm.trans ht)

end
end

theorem State.rejectStatus_first {p tile : Nat} (h : s.authFailAt p = 0) : s.rejectStatus p tile =
    ((s.inc Dict.PTL_AUTH_REJECTS).putAuthFail p (s.now + 1)).raise Event.PTL_AUTH_FAIL p tile := if_pos (.inl h)

section
variable {t : TileEntry} {x : Tile} (ht : t = TileEntry.ofBytes (s.tileEntryAt k)) (hx : x = s.tileAt k)
include ht hx

theorem State.missTile_due (ha : s.alive = true) (hv : t.valid = true) (hn : t.noStatus = false) (hs : x.state ≠ 2)
    (hk : s.skippedTiles.contains k = false) (h0 : x.watchAt ≠ 0)
    (hd : x.watchAt - 1 + s.rd Dict.PTL_STATUS_TIMEOUT * 1000000 ≤ s.now) :
    s.missTile k = ((s.putTile k { x with state := 2 }).countTiles).raise Event.TILE_MISSING k t.tile := by
  subst ht hx
  exact if_pos ⟨ha, hv, hn, hs, hk, h0, hd⟩

omit ht in
theorem State.missTile_early (hd : s.now < x.watchAt - 1 + s.rd Dict.PTL_STATUS_TIMEOUT * 1000000) : s.missTile k = s := by
  subst hx
  exact if_neg fun ⟨_, _, _, _, _, _, h⟩ => absurd h (Nat.not_le.mpr hd)

end
end

/-- Settles O35: each command by the branch that its premises choose. -/
theorem tileLink : Obligations.TileLink :=
  ⟨fun _ _ _ hp => ⟨fun h => congrArg Host.Outcome.next (State.writeBlock_accepts hp (State.writeTiles_done rfl rfl rfl h)),
      fun _ h => congrArg Host.Outcome.next (State.writeBlock_refuses hp (State.writeTiles_refused rfl rfl rfl h))⟩,
    fun _ _ _ hp => congrArg Host.Outcome.next (State.writeBlock_accepts hp rfl),
    fun _ _ _ => ⟨fun _ => rfl, fun h => State.storeTile_held h, fun h => State.storeTile_lands h,
      fun h => State.storeCalib_held h, fun h => State.storeCalib_lands h⟩,
    fun _ _ _ h hv => State.landTile_entry h hv,
    fun _ _ _ h => State.landTile_sent h,
    fun _ _ ha hr ht => ⟨fun hc => congrArg Host.Outcome.next (State.repeatCalib_due ha hr ht hc),
      fun hc => congrArg Host.Outcome.next (State.repeatCalib_early hc)⟩,
    fun _ _ _ ha hr hs hx hy =>
      ⟨fun hb => congrArg Host.Outcome.next (State.sendTile_sends rfl rfl ha hr hs hx hy hb),
        fun hb => congrArg Host.Outcome.next (State.sendTile_unpatterned rfl rfl hb)⟩,
    fun _ _ _ hb => State.sendPixels_foreign rfl rfl hb,
    fun _ _ _ ha hp => ⟨fun h => congrArg Host.Outcome.next (State.receiveStatus_discards ha hp rfl rfl h),
      fun h0 hty hen h1 hn hl =>
        ⟨fun hg hk ht => congrArg Host.Outcome.next
            (State.receiveStatus_forged ha hp rfl rfl rfl h0 hty hen h1 hn hl hg hk ht),
          fun ht _ hk => congrArg Host.Outcome.next
            ((State.receiveStatus_taken ha hp rfl rfl rfl h0 hty hen h1 hn hl ht).trans (by rw [hk]; rfl)),
          fun ht hk => congrArg Host.Outcome.next
            ((State.receiveStatus_taken ha hp rfl rfl rfl h0 hty hen h1 hn hl ht).trans (by rw [hk]; rfl))⟩⟩,
    fun _ _ _ h => State.rejectStatus_first h,
    fun _ _ ha hv hn hs hk h0 => ⟨fun hd => congrArg Host.Outcome.next (State.missTile_due rfl rfl ha hv hn hs hk h0 hd),
      fun hd => congrArg Host.Outcome.next (State.missTile_early rfl hd)⟩⟩

end Sys2Proof.Machine
end

-- ==== Proofs: keys, HEARTBEAT and CONTROL of the tile link (R282 to R286) ====
section
/-! PROOFS. What a rekey leaves, and O36. -/
namespace Sys2Proof.Machine
open Sys2Proof
set_option Elab.async false

/-! ### The keys of the tile link (R282, R283) -/

section
variable {s : State}

theorem State.writeKeySlot_takes {v : Nat} (h : v = 0xFF ∨ s.derives v = true) :
    s.writeKeySlot v = .done (s.wr Dict.PTL_KEY_SLOT v).startRekey := by
  refine if_neg (Bool.eq_false_iff.mp ?_)
  rcases h with rfl | h
  · rfl
  · rw [h, Bool.not_true, Bool.and_false]

theorem State.writeKeySlot_refuses {v : Nat} (h : v ≠ 0xFF) (hd : s.derives v = false) :
    s.writeKeySlot v = .refused (.rule 0x5A) s := if_pos ((Bool.and_eq_true _ _).mpr ⟨bne_iff_ne.mpr h, congrArg not hd⟩)

/-- A rekey that is asked for while another runs begins after it. -/
theorem State.startRekey_again (h : s.ptl.countdown ≠ 0) : s.startRekey = { s with ptl := { s.ptl with again := true } } :=
  if_pos h

/-- A rekey draws its salt, and the key in use stays until it ends. -/
theorem State.startRekey_begins (h : s.ptl.countdown = 0) : s.startRekey.ptl.countdown = 9 ∧
    s.startRekey.ptl.nextSalt = (s.draw 8).1 ∧ s.startRekey.ptl.nextSlot = s.rd Dict.PTL_KEY_SLOT ∧
    s.startRekey.ptl.salt = s.ptl.salt ∧ s.startRekey.ptl.slot = s.ptl.slot := by
  rw [State.startRekey, if_neg (not_not_intro h)]
  exact ⟨rfl, rfl, rfl, rfl, rfl⟩

/-- A judgement of the key leaves the salts and the epoch, and may tell a lost key. -/
theorem State.judgePtlKey_spec (s : State) : s.judgePtlKey.ptl = s.ptl ∧
    s.judgePtlKey.rd Dict.PTL_KEY_EPOCH = s.rd Dict.PTL_KEY_EPOCH ∧ Grew s s.judgePtlKey := by
  unfold State.judgePtlKey
  extract_lets k was now
  refine ⟨State.raiseIf_ptl .., (State.raiseIf_rd ..).trans (State.wr_rd_ne _ _ _ _ _ _ _ _ (by decide)), ?_⟩
  have hg : Grew s (s.wr Dict.PTL_KEY_STATE now) := .of _ _ rfl
  exact iteInduction (motive := Grew s) (fun _ => hg.raise ..) fun _ => hg

/-- A rekey that ends puts its salt and its slot in use. -/
theorem State.finishRekey_spec (h : s.ptl.again = false) : s.finishRekey.ptl.salt = s.ptl.nextSalt ∧
    s.finishRekey.ptl.slot = s.ptl.nextSlot ∧ s.finishRekey.ptl.countdown = 0 ∧
    s.finishRekey.rd Dict.PTL_KEY_EPOCH = (s.rd Dict.PTL_KEY_EPOCH + 1) % 256 ∧
    Safety.raised s s.finishRekey Event.PTL_REKEY ((s.rd Dict.PTL_KEY_EPOCH + 1) % 256) 0 := by
  unfold State.finishRekey
  extract_lets again _ u v w
  obtain ⟨hp, he, hg⟩ := (u.inc Dict.PTL_KEY_EPOCH).judgePtlKey_spec
  have hv : v.rd Dict.PTL_KEY_EPOCH = (s.rd Dict.PTL_KEY_EPOCH + 1) % 256 := he.trans (u.inc_rd_self Dict.PTL_KEY_EPOCH 0 0 1)
  have hgs : Grew s v := Grew.trans (Grew.of s (u.inc Dict.PTL_KEY_EPOCH) rfl) hg
  have hw : w.ptl = u.ptl := hp
  have hr : Safety.raised s w Event.PTL_REKEY ((s.rd Dict.PTL_KEY_EPOCH + 1) % 256) 0 := hv ▸ raised_last hgs ..
  rw [if_neg (Bool.eq_false_iff.mp h), hw]
  exact ⟨rfl, rfl, rfl, hv, hr⟩

/-! ### HEARTBEAT and CONTROL (R284 to R286) -/

theorem State.sendHeartbeat_first (ha : s.alive = true) (h : s.ptl.heartbeatAt = 0) :
    s.sendHeartbeat = s.ptlPorts.foldl (fun u p => u.sendCounted p (u.rd Dict.PTL_BEACON_MAC) 6 0xFFFF
      (beBytes 4 s.life.opSeconds ++ beBytes 1 s.devState ++ zeros 11)) { s with ptl := { s.ptl with heartbeatAt := s.now + 1 } } :=
  if_pos ⟨ha, .inl h⟩

theorem State.sendHeartbeat_early (h : s.ptl.heartbeatAt ≠ 0)
    (ht : s.now < s.ptl.heartbeatAt - 1 + s.rd Dict.PTL_HEARTBEAT_INTERVAL * 1000000) : s.sendHeartbeat = s :=
  if_neg fun hx => hx.2.elim h fun hs => by simp [State.since] at hs; omega

section
variable {sess p tile : Nat} {data : List Byte}

theorem State.sendControl_keyless (hk : s.rd Dict.PTL_KEY_STATE = 2) :
    s.sendControl sess data = .refused (.rule 0x5B) s := if_pos (beq_iff_eq.mpr hk)

section
variable (hk : s.rd Dict.PTL_KEY_STATE ≠ 2) (hp : p = s.rd Dict.PTL_CONTROL_PORT) (ht : tile = s.rd Dict.PTL_CONTROL_TILE)
include hk ht

theorem State.sendControl_broadcast (hx : tile = 0xFFFF) (hn : s.ptlPorts ≠ []) : s.sendControl sess data = .done
    (((s.ptlPorts.foldl (fun u p => u.sendCounted p (s.rd Dict.PTL_BEACON_MAC) 4 tile data) s).inc
      Dict.PTL_CONTROL_SENT).raiseBy sess Event.PTL_CONTROL_SENT tile data.length) := by
  subst ht
  refine (if_neg (by simpa using hk)).trans ?_
  simp only [hx, if_true, List.isEmpty_eq_false_iff.mpr hn, Bool.false_eq_true, if_false]

include hp

theorem State.sendControl_tile {j : Nat} (hx : tile ≠ 0xFFFF) (hf : s.ptlPorts.filter (· == p) = [p])
    (hj : s.tileOf p tile = some j) : s.sendControl sess data = .done
      (((s.sendCounted p (TileEntry.ofBytes (s.tileEntryAt j)).mac 4 tile data).inc Dict.PTL_CONTROL_SENT).raiseBy sess
        Event.PTL_CONTROL_SENT tile data.length) := by
  subst ht hp
  refine (if_neg (by simpa using hk)).trans ?_
  simp only [hx, if_false, hf, hj, List.isEmpty_cons, Bool.false_eq_true, List.foldl_cons, List.foldl_nil]

/-- Without a port to send on, a CONTROL is dropped. -/
theorem State.sendControl_portless
    (h : tile = 0xFFFF ∧ s.ptlPorts = [] ∨ tile ≠ 0xFFFF ∧ s.ptlPorts.contains p = false) :
    s.sendControl sess data = .done s := by
  subst ht hp
  refine (if_neg (by simpa using hk)).trans (if_pos ?_)
  rcases h with ⟨hx, hn⟩ | ⟨hx, hn⟩
  · rw [if_pos hx, hn]
    rfl
  · rw [if_neg hx, List.isEmpty_iff, List.filter_eq_nil_iff]
    intro a ha he
    exact absurd (beq_iff_eq.mp he ▸ ha) (by simpa using hn)

end
end
end

/-- Settles O36: each command by the branch that its premises choose. -/
theorem tileLinkKeys : Obligations.TileLinkKeys :=
  ⟨fun _ _ _ hp => ⟨fun h => congrArg Host.Outcome.next (State.writeScalar_accepts hp (State.writeKeySlot_takes h)),
      fun h hd => congrArg Host.Outcome.next (State.writeScalar_refuses hp (State.writeKeySlot_refuses h hd))⟩,
    fun _ _ _ hp => congrArg Host.Outcome.next (State.writeScalar_accepts hp rfl),
    fun _ h => State.startRekey_again h,
    fun _ h => State.startRekey_begins h,
    fun _ => ⟨fun h => congrArg Host.Outcome.next (if_pos h),
      fun h => congrArg Host.Outcome.next (if_neg (Bool.eq_false_iff.mp h))⟩,
    fun _ h => State.finishRekey_spec h,
    fun _ ha => ⟨fun h => congrArg Host.Outcome.next (State.sendHeartbeat_first ha h),
      fun h ht => congrArg Host.Outcome.next (State.sendHeartbeat_early h ht)⟩,
    fun _ _ _ hp => ⟨fun hk => congrArg Host.Outcome.next (State.writeBlock_refuses hp (State.sendControl_keyless hk)),
      fun hk hx hn => congrArg Host.Outcome.next (State.writeBlock_accepts hp (State.sendControl_broadcast hk rfl hx hn)),
      fun _ hk hx hf hj => congrArg Host.Outcome.next
        (State.writeBlock_accepts hp (State.sendControl_tile hk rfl rfl hx hf hj)),
      fun hk h => congrArg Host.Outcome.next (State.writeBlock_accepts hp (State.sendControl_portless hk rfl rfl h))⟩⟩

end Sys2Proof.Machine
end

-- ==== Proofs: the candidates of Hentis (R291 to R299) ====
section
/-! PROOFS. What a measurement leaves, and O37. -/
namespace Sys2Proof.Machine
open Sys2Proof
set_option Elab.async false

/-! ### Candidates are enabled and disabled (R291, R292) -/

section
variable {s : State} {n : Nat}

theorem State.judgeRef_untyped (h : s.refType n = 0) : s.judgeRef n = some (.field 0x60 Dict.REF_SOURCE n) :=
  firstOf_cons_true ((Bool.or_eq_true _ _).mpr (.inl (beq_iff_eq.mpr h)))

/-- A pin of a clock without a rate has nothing to be judged by. -/
theorem State.judgeRef_rateless (ht : s.refType n = 3) (hs : s.rd Dict.REF_SOURCE n ≤ 3)
    (hn : s.rd Dict.REF_NOMINAL_NUM n = 0) (ho : ∀ m < 12, m ≠ n → s.flag Dict.REF_ENABLE m = false) :
    s.judgeRef n = some (.field 0x60 Dict.REF_NOMINAL_NUM n) := by
  have hany : (List.range 12).any (fun m => m != n && s.flag Dict.REF_ENABLE m && s.refType m != 0 &&
      (refSource (s.refType m)).1 == 1 && s.rd Dict.REF_SOURCE m == s.rd Dict.REF_SOURCE n &&
      !((3 : Nat) == 8 && s.refType m == 8)) = false := by
    refine List.any_eq_false.mpr fun m hm => ?_
    rcases eq_or_ne m n with rfl | hne
    · simp
    · simp [ho m (List.mem_range.mp hm) hne]
  have h3 : refSource 3 = (1, 3) := rfl
  simp only [State.judgeRef, ht, h3, hany]
  refine (firstOf_cons_false ?_).trans ((firstOf_cons_false rfl).trans ((firstOf_cons_false rfl).trans
    ((firstOf_cons_false rfl).trans (firstOf_cons_true ?_))))
  · simpa using hs
  · simp [hn]

theorem State.enableRef_refused {r : Refuse} (h : s.judgeRef n = some r) : s.enableRef n = .refused r s := by
  simp only [State.enableRef, h]

theorem State.enableRef_on (h : s.judgeRef n = none) (he : s.flag Dict.REF_ENABLE n = true) :
    s.enableRef n = .done s := by
  simp only [State.enableRef, h]
  exact if_pos he

/-- A candidate that is enabled begins afresh, and fails until it is heard. -/
theorem State.enableRef_starts (h : s.judgeRef n = none) (he : s.flag Dict.REF_ENABLE n = false) : s.enableRef n =
    .done (((((s.putRef n { Ref.init with
      meanAtQual := (s.refAt n).meanAtQual
      everQual := (s.refAt n).everQual
      intervalAt := s.now
      failedAt := s.now }).wr
      Dict.REF_ENABLE 1 n).wr Dict.REF_FAIL_CAUSE 1 n).wr Dict.REF_PTP_PORT_STATE (if s.refType n = 7 then 1 else 0)
        n).setQual n 1) := by
  have ht (u : State) : ((u.wr Dict.REF_ENABLE 1 n).wr Dict.REF_FAIL_CAUSE 1 n).refType n = u.refType n :=
    (State.wr_rd_ne _ _ _ _ _ _ _ _ (by simp [EntryDef.key])).trans
      (State.wr_rd_ne _ _ _ _ _ _ _ _ (by simp [EntryDef.key]))
  simp only [State.enableRef, h, he, Bool.false_eq_true, if_false, ht]
  rfl

/-! ### The activity of a candidate (R294, R295) -/

/-- What follows a candidate is all that an interruption of it holds. -/
theorem State.ignoreRef_eq (s : State) (n : Nat) : ∃ h : Hentis, s.ignoreRef n = { s with hentis := h } :=
  iteInduction (motive := fun u : State => ∃ h : Hentis, u = { s with hentis := h }) (fun _ => ⟨_, rfl⟩) fun _ => ⟨_, rfl⟩

section
variable {vertical : Bool} {age : Nat} {ig : State} (hd : s.dictUp = true) (hq : s.rd Dict.REF_QUAL_STATE n ≠ 0)
  (hig : ig = s.ignoreRef n)
include hd hq hig

theorem State.loseActivity_kept (h : ig.activityOver n vertical age = false) : s.loseActivity n vertical age = ig := by
  subst hig
  exact (if_pos ⟨hd, hq⟩).trans (if_neg (Bool.eq_false_iff.mp h))

variable {mark : State} {bits : Nat} (hm : mark = ig.modRef n (fun r => { r with intervalAt := s.now }))
  (hb : bits = putBit (s.rd Dict.REF_FAIL_CAUSE n) 0 true) (h : ig.activityOver n vertical age = true)
include hm hb h

theorem State.loseActivity_signal (ht : s.refType n ≠ 7) :
    s.loseActivity n vertical age = mark.setCause n bits ((s.refAt n).goodEdge (s.now - age)) := by
  subst hm hb hig
  refine (if_pos ⟨hd, hq⟩).trans ((if_pos h).trans ?_)
  obtain ⟨x, hx⟩ := s.ignoreRef_eq n
  rw [hx]
  have ht' : State.refType { s with hentis := x } n ≠ 7 := ht
  rw [if_neg ht']
  simp only [State.failActivity, beq_false_of_ne ht', Bool.false_eq_true, if_false]
  rfl

theorem State.loseActivity_ptp (ht : s.refType n = 7) : s.loseActivity n vertical age =
    (mark.wr Dict.REF_PTP_PORT_STATE 1 n).setCause n (putBit bits 4 true) ((s.refAt n).goodAt - 1) := by
  subst hm hb hig
  refine (if_pos ⟨hd, hq⟩).trans ((if_pos h).trans ?_)
  obtain ⟨x, hx⟩ := s.ignoreRef_eq n
  rw [hx]
  have ht' : State.refType { s with hentis := x } n = 7 := ht
  have hc (u : State) : (u.wr Dict.REF_PTP_PORT_STATE 1 n).rd Dict.REF_FAIL_CAUSE n = u.rd Dict.REF_FAIL_CAUSE n :=
    State.wr_rd_ne _ _ _ _ _ _ _ _ (by simp [EntryDef.key])
  rw [if_pos ht']
  simp only [State.failActivity, ht', beq_self_eq_true, if_true, hc]
  rfl

end
end

theorem State.activityOver_ground (s : State) (n age : Nat) :
    let (num, den) := s.refNominal n
    (s.refType n = 5 → s.activityOver n false age = decide (1500000000 ≤ age)) ∧
    (s.refType n = 7 → s.activityOver n false age = decide ((s.refAt n).syncAt + 3 * (s.refAt n).syncInterval ≤ s.now + 1)) ∧
    (s.refType n = 7 → s.activityOver n true age = (s.bestMaster n).isNone) ∧
    (s.refType n = 3 → 0 < num → s.activityOver n false age = decide (2 * 1000000000 * den ≤ age * num)) ∧
    (s.refType n = 1 ∨ s.refType n = 2 → 0 < num →
      s.activityOver n false age = decide (2 * 1000000000 * den ≤ age * num * max 1 (s.refLines n)) ∧
      s.activityOver n true age = decide (2 * 1000000000 * den ≤ age * num)) := by
  rcases hx : s.refNominal n with ⟨num, den⟩
  refine ⟨fun h => ?_, fun h => ?_, fun h => ?_, fun h h0 => ?_, fun h h0 => ?_⟩
  · simp only [State.activityOver, h]
  · simp only [State.activityOver, h, Bool.false_eq_true, if_false]
  · simp only [State.activityOver, h, if_true]
  · simp [State.activityOver, hx, h, h0.ne', nsPerS]
  · rcases h with h | h
    · simp [State.activityOver, hx, h, h0.ne', nsPerS]
    · simp [State.activityOver, hx, h, h0.ne', nsPerS]


/-! ### Glitches and measurements (R296 to R299) -/

section
variable {s : State} {n : Nat} (hd : s.dictUp = true) (hq : s.rd Dict.REF_QUAL_STATE n ≠ 0)

theorem State.glitch_none {interval : Nat} (h : s.isGlitch n interval = false) : s.glitch n interval = s :=
  if_neg fun hx => Bool.noConfusion (h.symm.trans hx.2.2)

include hd hq

/-- A glitch is counted and told, and enough of them in the span fail the candidate. -/
theorem State.glitch_counts {interval good : Nat} {counted told : State} (h : s.isGlitch n interval = true)
    (hg : good = if s.refType n = 7 then (s.refAt n).goodAt else (s.refAt n).goodEdge (s.now - interval) + 1)
    (hc : counted = (s.modRef n (fun r => { r with
      goodAt := good
      glitchTimes := List.filter (fun t => decide (s.now < t + s.glitchSpan n)) (s.now :: r.glitchTimes) })).inc
        Dict.REF_GLITCHES n)
    (ht : told = (counted.raise Event.REF_GLITCH n (min interval 4294967295)).ignoreRef n) :
    s.glitch n interval = if told.glitchy n then
      told.setCause n (putBit (told.rd Dict.REF_FAIL_CAUSE n) 1 true) (good - 1)
      else told := by
  subst ht hc hg
  exact if_pos ⟨hd, hq, h⟩

omit hd hq in
theorem State.measure_early {m : RefMeasure} (h : s.now < (s.refAt n).intervalAt + refInterval (s.refType n) * nsPerS) :
    s.measure n m = s := if_neg fun hx => absurd hx.2.2 (Nat.not_le.mpr h)

theorem State.measure_due {m : RefMeasure} {u v : State} {cause : Nat}
    (h : (s.refAt n).intervalAt + refInterval (s.refType n) * nsPerS ≤ s.now) (hu : u = s.takeMeasure n m)
    (hc : cause = u.causesAt n m (s.rateChanged n m)) (hv : v = (u.loopMeasure n m cause).setCause n cause u.now) :
    s.measure n m = if v.flag Dict.REF_DRIFT_ALARM n = s.flag Dict.REF_DRIFT_ALARM n then v else v.select := by
  subst hv hc hu
  exact if_pos ⟨hd, hq, h⟩

end

/-- The registers and the candidate that a measurement leaves. -/
def Measured (n : Nat) (m : RefMeasure) (drift : Int) (at_ : Nat) (u : State) : Prop :=
  u.rdInt Dict.REF_OFFSET n = signed 64 (unsigned 64 m.offset) ∧
    u.rdInt Dict.REF_DRIFT n = signed 64 (unsigned 64 drift) ∧
    u.rd Dict.REF_MEASURED_RATE n = m.rate % 2 ^ 64 ∧ (u.refAt n).mean = m.offset ∧ (u.refAt n).intervalAt = at_

/-- A signed register reads as what was written. -/
theorem State.wrInt_rdInt (s : State) (e : EntryDef) (v : Int) (n : Nat) :
    (s.wrInt e v n).rdInt e n = signed (8 * e.type.size) (unsigned (8 * e.type.size) v) := by
  have h : (s.wrInt e v n).rd e n = unsigned (8 * e.type.size) v % 2 ^ (8 * e.type.size) := State.wr_rd ..
  simp only [State.rdInt, h, signed, Nat.mod_mod]

section
variable {s u : State} {n : Nat} {m : RefMeasure} {drift : Int} {at_ : Nat}

/-- A write of another register and a change of what is kept beside them leave a measurement. -/
theorem Measured.wr {e : EntryDef} {v : Nat} (h : Measured n m drift at_ u)
    (h1 : Dict.REF_OFFSET.key n 0 ≠ e.key n 0) (h2 : Dict.REF_DRIFT.key n 0 ≠ e.key n 0)
    (h3 : Dict.REF_MEASURED_RATE.key n 0 ≠ e.key n 0) : Measured n m drift at_ (u.wr e v n) := by
  obtain ⟨ho, hd, hr, hm, hi⟩ := h
  exact ⟨(congrArg (signed 64) (u.wr_rd_ne e Dict.REF_OFFSET v n 0 n 0 h1)).trans ho,
    (congrArg (signed 64) (u.wr_rd_ne e Dict.REF_DRIFT v n 0 n 0 h2)).trans hd,
    (State.wr_rd_ne _ _ _ _ _ _ _ _ h3).trans hr, hm, hi⟩

theorem Measured.modRef {f : Ref → Ref} (h : Measured n m drift at_ u) (hm : ∀ r, (f r).mean = r.mean)
    (hi : ∀ r, (f r).intervalAt = r.intervalAt) : Measured n m drift at_ (u.modRef n f) := by
  obtain ⟨ho, hd, hr, hmean, hint⟩ := h
  have hx : (u.modRef n f).refAt n = f (u.refAt n) := State.putRef_refAt ..
  exact ⟨ho, hd, hr, by rw [hx, hm, hmean], by rw [hx, hi, hint]⟩

theorem Measured.raise {d : EventDef} {a b : Nat} (h : Measured n m drift at_ u) :
    Measured n m drift at_ (u.raise d a b) := h

theorem Measured.setPhase (h : Measured n m drift at_ u) (x : Int) : Measured n m drift at_ (u.setPhase n x) :=
  (h.wr (by simp [EntryDef.key]) (by simp [EntryDef.key]) (by simp [EntryDef.key])).modRef (fun _ => rfl) fun _ => rfl

theorem Measured.judgeAlarm (h : Measured n m drift at_ u) (d : Int) : Measured n m drift at_ (u.judgeAlarm n d) := by
  have hw (v : Nat) : Measured n m drift at_ (u.wr Dict.REF_DRIFT_ALARM v n) :=
    h.wr (by simp [EntryDef.key]) (by simp [EntryDef.key]) (by simp [EntryDef.key])
  have hr (v : Nat) :
      Measured n m drift at_ ((u.wr Dict.REF_DRIFT_ALARM 1 n).modRef n fun r => { r with alarmSince := v }) :=
    (hw 1).modRef (fun _ => rfl) fun _ => rfl
  have hl : Measured n m drift at_ ((u.wr Dict.REF_DRIFT_ALARM 0 n).modRef n fun r => { r with alarmSince := 0 }) :=
    (hw 0).modRef (fun _ => rfl) fun _ => rfl
  exact iteInduction (motive := Measured n m drift at_) (fun _ => (hr _).raise) fun _ =>
    iteInduction (motive := Measured n m drift at_) (fun _ => hl.raise) fun _ => h

end

/-! ### The drift alarm (R298) -/

section
variable {s u : State} {n : Nat} {d : Int} (hg : Grew s u)

theorem State.judgeAlarm_begins (hf : u.flag Dict.REF_DRIFT_ALARM n = false)
    (hw : u.rd Dict.REF_FREQ_WINDOW n * 65536 ≤ 2 * d.natAbs) : u.judgeAlarm n d =
      ((u.wr Dict.REF_DRIFT_ALARM 1 n).modRef n (fun r => { r with alarmSince := u.now + 1 })).raise
        Event.REF_DRIFT_ALARM n (param (ppb d)) := if_pos ⟨hf, by omega⟩

theorem State.judgeAlarm_ends (hf : u.flag Dict.REF_DRIFT_ALARM n = true)
    (hw : 10 * d.natAbs < 4 * (u.rd Dict.REF_FREQ_WINDOW n * 65536)) : u.judgeAlarm n d =
      ((u.wr Dict.REF_DRIFT_ALARM 0 n).modRef n (fun r => { r with alarmSince := 0 })).raise
        Event.REF_DRIFT_ALARM_END n (param (ppb d)) :=
  (if_neg fun hx => Bool.noConfusion (hf.symm.trans hx.1)).trans (if_pos ⟨hf, by omega⟩)

theorem State.judgeAlarm_quiet (hf : u.flag Dict.REF_DRIFT_ALARM n = false)
    (hw : 2 * d.natAbs < u.rd Dict.REF_FREQ_WINDOW n * 65536) : u.judgeAlarm n d = u :=
  (if_neg fun hx => by have := hx.2; omega).trans (if_neg fun hx => Bool.noConfusion (hf.symm.trans hx.1))

theorem State.judgeAlarm_lasts (hf : u.flag Dict.REF_DRIFT_ALARM n = true)
    (hw : 4 * (u.rd Dict.REF_FREQ_WINDOW n * 65536) ≤ 10 * d.natAbs) : u.judgeAlarm n d = u :=
  (if_neg fun hx => Bool.noConfusion (hf.symm.trans hx.1)).trans (if_neg fun hx => by have := hx.2; omega)

include hg

theorem State.judgeAlarm_told (hf : u.flag Dict.REF_DRIFT_ALARM n = false)
    (hw : u.rd Dict.REF_FREQ_WINDOW n * 65536 ≤ 2 * d.natAbs) :
    (u.judgeAlarm n d).flag Dict.REF_DRIFT_ALARM n = true ∧
      Safety.raised s (u.judgeAlarm n d) Event.REF_DRIFT_ALARM n (param (ppb d)) := by
  have h1 : (u.wr Dict.REF_DRIFT_ALARM 1 n).flag Dict.REF_DRIFT_ALARM n = true :=
    bne_iff_ne.mpr ((State.wr_rd ..).trans_ne (by decide))
  have hq : Grew s ((u.wr Dict.REF_DRIFT_ALARM 1 n).modRef n fun r => { r with alarmSince := u.now + 1 }) :=
    hg.trans_eq rfl
  rw [State.judgeAlarm_begins hf hw]
  exact ⟨h1, raised_last hq ..⟩

theorem State.judgeAlarm_end_told (hf : u.flag Dict.REF_DRIFT_ALARM n = true)
    (hw : 10 * d.natAbs < 4 * (u.rd Dict.REF_FREQ_WINDOW n * 65536)) :
    (u.judgeAlarm n d).flag Dict.REF_DRIFT_ALARM n = false ∧
      Safety.raised s (u.judgeAlarm n d) Event.REF_DRIFT_ALARM_END n (param (ppb d)) := by
  have h1 : (u.wr Dict.REF_DRIFT_ALARM 0 n).flag Dict.REF_DRIFT_ALARM n = false :=
    bne_eq_false_iff_eq.mpr ((State.wr_rd ..).trans (by decide))
  have hq : Grew s ((u.wr Dict.REF_DRIFT_ALARM 0 n).modRef n fun r => { r with alarmSince := 0 }) := hg.trans_eq rfl
  rw [State.judgeAlarm_ends hf hw]
  exact ⟨h1, raised_last hq ..⟩

end

/-- A rate that is detected is a matter of the candidate and of its event. -/
theorem State.takeDetected_spec (s : State) (n : Nat) (m : RefMeasure) :
    (s.takeDetected n m).regs = s.regs ∧ Grew s (s.takeDetected n m) := by
  unfold State.takeDetected
  extract_lets r t
  have ht : Grew s t := .of _ _ rfl
  have hm : Grew s (t.modRef n fun r => { r with detNum := m.detNum, detDen := m.detDen }) := .of _ _ rfl
  refine iteInduction (motive := fun u : State => u.regs = s.regs ∧ Grew s u) (fun _ => ?_) fun _ => ⟨rfl, ht⟩
  exact iteInduction (motive := fun u : State => u.regs = s.regs ∧ Grew s u)
    (fun _ => ⟨rfl, hm.raise ..⟩) fun _ => ⟨rfl, hm⟩

/-- The registers of a measurement are written. -/
theorem State.writeMeasure_measured (s : State) {n at_ : Nat} {m : RefMeasure} (drift : Int)
    (hm : (s.refAt n).mean = m.offset)
    (hi : (s.refAt n).intervalAt = at_) : Measured n m drift at_ (((s.wr Dict.REF_MEASURED_RATE m.rate n).wrInt
      Dict.REF_OFFSET m.offset n).wrInt Dict.REF_DRIFT drift n) := by
  refine ⟨?_, State.wrInt_rdInt .., ?_, hm, hi⟩
  · refine (congrArg (signed 64)
      (State.wr_rd_ne _ Dict.REF_DRIFT Dict.REF_OFFSET _ n 0 n 0 (by simp [EntryDef.key]))).trans ?_
    exact State.wrInt_rdInt (s.wr Dict.REF_MEASURED_RATE m.rate n) Dict.REF_OFFSET m.offset n
  · exact (State.wr_rd_ne _ _ _ _ _ _ _ _ (by simp [EntryDef.key])).trans ((State.wr_rd_ne _ _ _ _ _ _ _ _
      (by simp [EntryDef.key])).trans (State.wr_rd ..))

/-- What a measurement leaves before its alarm is judged. -/
theorem State.takeMeasure_spec (s : State) (n : Nat) (m : RefMeasure) : ∃ u : State,
    s.takeMeasure n m = u.judgeAlarm n (s.driftOf n m.offset) ∧ Measured n m (s.driftOf n m.offset) s.now u ∧
      u.flag Dict.REF_DRIFT_ALARM n = s.flag Dict.REF_DRIFT_ALARM n ∧
      u.rd Dict.REF_FREQ_WINDOW n = s.rd Dict.REF_FREQ_WINDOW n ∧ Grew s u := by
  unfold State.takeMeasure
  extract_lets drift w t1 t2 t3
  obtain ⟨hr, hg⟩ := s.takeDetected_spec n m
  have h1 : (t1.refAt n).mean = m.offset ∧ (t1.refAt n).intervalAt = s.now := by
    have hx : t1.refAt n = _ := State.putRef_refAt ..
    exact ⟨congrArg Ref.mean hx, congrArg Ref.intervalAt hx⟩
  have hrd (e : EntryDef) : t1.rd e n = s.rd e n := congrArg (fun x => Store.read dictDefault x (e.key n)) hr
  have hg1 : Grew s t1 := hg.trans_eq rfl
  clear_value t1
  have h2 : Measured n m drift s.now t2 := t1.writeMeasure_measured drift h1.1 h1.2
  have h2rd (e : EntryDef) (ha : e.key n 0 ≠ Dict.REF_MEASURED_RATE.key n 0) (hb : e.key n 0 ≠ Dict.REF_OFFSET.key n 0)
      (hc : e.key n 0 ≠ Dict.REF_DRIFT.key n 0) : t2.rd e n = s.rd e n :=
    (State.wr_rd_ne _ _ _ _ _ _ _ _ hc).trans ((State.wr_rd_ne _ _ _ _ _ _ _ _ hb).trans
      ((State.wr_rd_ne _ _ _ _ _ _ _ _ ha).trans (hrd e)))
  have h2g : Grew s t2 := hg1.trans_eq rfl
  clear_value t2
  have h3 : Measured n m drift s.now t3 :=
    iteInduction (motive := Measured n m drift s.now) (fun _ => h2) fun _ => h2.setPhase _
  have h3rd (e : EntryDef) (hp : e.key n 0 ≠ Dict.REF_PHASE_OFFSET.key n 0) : t3.rd e n = t2.rd e n :=
    iteInduction (motive := fun u : State => u.rd e n = t2.rd e n) (fun _ => rfl)
      fun _ => State.wr_rd_ne _ _ _ _ _ _ _ _ hp
  have h3g : Grew s t3 := iteInduction (motive := Grew s) (fun _ => h2g) fun _ => h2g.trans_eq rfl
  refine ⟨t3, rfl, h3, congrArg (· != 0) ((h3rd _ ?_).trans (h2rd _ ?_ ?_ ?_)), (h3rd _ ?_).trans (h2rd _ ?_ ?_ ?_), h3g⟩
  all_goals simp [EntryDef.key]

/-! ### Qualification and PTP (R293, R299) -/

section
variable {s : State} {n : Nat}

theorem State.qualify_waits (h : s.now < (s.refAt n).waitSince + (s.refAt n).wait * nsPerS) : s.qualify n = s :=
  if_neg fun hx => absurd hx.2.2 (Nat.not_le.mpr h)

theorem State.qualify_due (hd : s.dictUp = true) (hq : s.rd Dict.REF_QUAL_STATE n = 2)
    (h : (s.refAt n).waitSince + (s.refAt n).wait * nsPerS ≤ s.now) : s.qualify n =
      ((((s.modRef n (fun r => { r with meanAtQual := r.mean, everQual := true })).wr Dict.REF_QUAL_S s.tS n).raise
        Event.REF_QUALIFIED n (s.refAt n).wait).setQual n 3) := if_pos ⟨hd, hq, h⟩

/-- The first offset of a grandmaster is taken as it is. -/
theorem State.takeOffset_first {offset : Int} (h : (s.refAt n).offsetValid = false) : s.takeOffset n offset =
    ((s.putRef n { s.refAt n with offsetValid := true, goodAt := s.now + 1 }).wr Dict.REF_PTP_PORT_STATE 3 n).setPhase n
      (offset * 1000) := by
  simp only [State.takeOffset, State.modRef, h, Bool.false_eq_true, if_false, or_true, if_true]

/-- A later one passes the filter, and may be a glitch. -/
theorem State.takeOffset_later {offset : Int} {far : Nat} {g : State} (h : (s.refAt n).offsetValid = true)
    (hf : far = (offset - (s.refAt n).offset).natAbs) (hg : g = s.glitch n far) : s.takeOffset n offset =
      ((g.modRef n (fun u => { u with
        offsetValid := true
        goodAt := if far ≤ 1000 ∨ u.offsetValid = false then g.now + 1 else u.goodAt })).wr
        Dict.REF_PTP_PORT_STATE 3 n).setPhase n (Config.ptpFilter (s.refAt n).offset offset * 1000) := by
  subst hg hf
  simp only [State.takeOffset, h, if_true]

theorem State.sendDelayReq_refAt (s : State) (n : Nat) : ((s.sendDelayReq n).refAt n).reqAt = s.timebase + 1 :=
  congrArg Ref.reqAt (State.putRef_refAt s n _)

theorem State.takeSync_unheard {domain sender : Nat} {p : PtpSync} {delay : Option Int}
    (h : s.hearsPtp n domain = false ∨ 128 * p.interval < 1000000000) : s.takeSync n domain sender p delay = s :=
  if_neg fun hx => h.elim (fun h => Bool.noConfusion (h.symm.trans hx.1)) fun h => absurd hx.2 (Nat.not_le.mpr h)

section
variable {domain sender : Nat} {p : PtpSync} {delay : Option Int} {w u : State} {r : Ref}
  (hh : s.hearsPtp n domain = true) (hp : 1000000000 ≤ 128 * p.interval) (hw : w = s.takeMaster n) (hr : r = w.refAt n)
include hh hp hw hr

theorem State.takeSync_other (hc : r.chosen ≠ sender + 1) : s.takeSync n domain sender p delay = w := by
  subst hr hw
  exact (if_pos ⟨hh, hp⟩).trans (if_pos hc)

variable (hc : r.chosen = sender + 1) (hu : u = w.putRef n { r with syncAt := w.now + 1, syncInterval := p.interval })
include hc hu

/-- A Sync of the chosen master moves its instant and asks for the delay. -/
theorem State.takeSync_chosen : s.takeSync n domain sender p delay = (match syncSentAt p with
    | none => u
    | some t1 =>
      let lag := (u.timebase : Int) - t1
      let v := match delay with | some t4 => u.takeDelay n lag t4 | none => u
      if (v.refAt n).delayValid then v.takeOffset n (lag - v.rd Dict.REF_MEAN_PATH_DELAY n) else v).sendDelayReq n := by
  subst hu hr hw
  exact (if_pos ⟨hh, hp⟩).trans (if_neg (not_not.mpr hc))

theorem State.takeSync_untimed (ht : syncSentAt p = none) : s.takeSync n domain sender p delay = u.sendDelayReq n := by
  rw [State.takeSync_chosen hh hp hw hr hc hu, ht]

variable {t1 lag : Int} (ht : syncSentAt p = some t1) (hl : lag = (u.timebase : Int) - t1)
include ht

theorem State.takeSync_undelayed (hd : delay = none) (hv : r.delayValid = false) :
    s.takeSync n domain sender p delay = u.sendDelayReq n := by
  have hx : (u.refAt n).delayValid = false := by rw [hu, State.putRef_refAt]; exact hv
  rw [State.takeSync_chosen hh hp hw hr hc hu, ht, hd]
  simp only [hx, Bool.false_eq_true, if_false]

include hl

theorem State.takeSync_offset (hd : delay = none) (hv : r.delayValid = true) : s.takeSync n domain sender p delay =
    (u.takeOffset n (lag - u.rd Dict.REF_MEAN_PATH_DELAY n)).sendDelayReq n := by
  have hx : (u.refAt n).delayValid = true := by rw [hu, State.putRef_refAt]; exact hv
  rw [State.takeSync_chosen hh hp hw hr hc hu, ht, hd, hl]
  simp only [hx, if_true]

/-- The answer to a delay request gives the path's delay. -/
theorem State.takeSync_delay {t4 : Int} {q : State} (hd : delay = some t4) (h0 : r.reqAt ≠ 0)
    (hq : q = (u.wr Dict.REF_MEAN_PATH_DELAY ((lag + (t4 - (r.reqAt - 1 : Nat))) / 2).toNat n).modRef n (fun r =>
      { r with reqAt := 0, delayValid := true })) : s.takeSync n domain sender p delay =
    (q.takeOffset n (lag - q.rd Dict.REF_MEAN_PATH_DELAY n)).sendDelayReq n := by
  have hx : (u.refAt n).reqAt = r.reqAt := by rw [hu, State.putRef_refAt]
  have hv : (q.refAt n).delayValid = true := by rw [hq]; exact congrArg Ref.delayValid (State.putRef_refAt ..)
  have ht' : u.takeDelay n lag t4 = q := by
    rw [hq, ← hx]
    exact if_neg (hx.trans_ne h0)
  subst hl
  rw [State.takeSync_chosen hh hp hw hr hc hu, ht, hd]
  simp only [ht', hv, if_true]

end
end

/-- Settles O37: the branches of each command one by one; for a measurement, its registers stand before
the alarm is judged, and the alarm changes none of them. -/
theorem candidatesAreJudged : Obligations.CandidatesAreJudged := by
  refine ⟨fun s k n => ?_, fun s k n => ?_, fun s n vertical age => ?_, fun s n age => s.activityOver_ground n age,
    fun s n interval => ?_, fun s n m => ?_, fun s n m => ?_, fun s n => ?_, fun s n domain sender p delay => ?_,
    fun s n offset => ?_, fun s n => ⟨rfl, State.sendDelayReq_refAt s n⟩, fun s n a => ?_⟩
  · exact fun hp => ⟨
      fun h => congrArg Host.Outcome.next (State.writeScalar_refuses hp
        (State.enableRef_refused (State.judgeRef_untyped h))),
      fun h3 hs hn ho => congrArg Host.Outcome.next (State.writeScalar_refuses hp
        (State.enableRef_refused (State.judgeRef_rateless h3 hs hn ho))),
      fun r h => congrArg Host.Outcome.next (State.writeScalar_refuses hp (State.enableRef_refused h)),
      fun h he => congrArg Host.Outcome.next (State.writeScalar_accepts hp (State.enableRef_on h he)),
      fun h he => congrArg Host.Outcome.next (State.writeScalar_accepts hp (State.enableRef_starts h he))⟩
  · exact fun hp => congrArg Host.Outcome.next (State.writeScalar_accepts hp rfl)
  · exact fun hd hq => ⟨fun h => congrArg Host.Outcome.next (State.loseActivity_kept hd hq rfl h),
      fun h ht => congrArg Host.Outcome.next (State.loseActivity_signal hd hq rfl rfl rfl h ht),
      fun h ht => congrArg Host.Outcome.next (State.loseActivity_ptp hd hq rfl rfl rfl h ht)⟩
  · exact fun hd hq => ⟨fun h => congrArg Host.Outcome.next (State.glitch_none h),
      fun h hg => congrArg Host.Outcome.next ((State.glitch_counts hd hq h rfl rfl rfl).trans
        (if_neg (Bool.eq_false_iff.mp hg))),
      fun h hg => congrArg Host.Outcome.next ((State.glitch_counts hd hq h rfl rfl rfl).trans (if_pos hg))⟩
  · exact fun hd hq => ⟨fun h => congrArg Host.Outcome.next (State.measure_early h),
      fun h => ⟨fun hf => congrArg Host.Outcome.next ((State.measure_due hd hq h rfl rfl rfl).trans (if_pos hf)),
        fun hf => congrArg Host.Outcome.next ((State.measure_due hd hq h rfl rfl rfl).trans (if_neg hf))⟩⟩
  · obtain ⟨u, hu, hm, hf, hw, hg⟩ := s.takeMeasure_spec n m
    obtain ⟨ho, hd, hr, hmean, hi⟩ := hm.judgeAlarm (s.driftOf n m.offset)
    have hfl {t : State} (h : t = u) : t.flag Dict.REF_DRIFT_ALARM n = u.flag Dict.REF_DRIFT_ALARM n := by rw [h]
    rw [hu, ← hw, ← hf]
    exact ⟨ho, hd, hr, hmean, hi,
      fun h => ⟨State.judgeAlarm_told hg h, fun hx => (hfl (State.judgeAlarm_quiet h hx)).trans h⟩,
      fun h => ⟨State.judgeAlarm_end_told hg h, fun hx => (hfl (State.judgeAlarm_lasts h hx)).trans h⟩⟩
  · exact fun hd hq => ⟨fun h => congrArg Host.Outcome.next (State.qualify_waits h),
      fun h => congrArg Host.Outcome.next (State.qualify_due hd hq h)⟩
  · exact ⟨fun h => congrArg Host.Outcome.next (State.takeSync_unheard h),
      fun hh hp hc => congrArg Host.Outcome.next (State.takeSync_other hh hp rfl rfl hc),
      fun hh hp hc => ⟨fun ht => congrArg Host.Outcome.next (State.takeSync_untimed hh hp rfl rfl hc rfl ht),
        fun t1 ht => ⟨fun hd hv => congrArg Host.Outcome.next (State.takeSync_undelayed hh hp rfl rfl hc rfl ht hd hv),
          fun hd hv => congrArg Host.Outcome.next (State.takeSync_offset hh hp rfl rfl hc rfl ht rfl hd hv),
          fun t4 hd h0 => congrArg Host.Outcome.next (State.takeSync_delay hh hp rfl rfl hc rfl ht rfl hd h0 rfl)⟩⟩⟩
  · exact ⟨State.takeOffset_first, fun h => State.takeOffset_later h rfl rfl⟩
  · exact ⟨fun h => congrArg Host.Outcome.next (if_pos h),
      fun h => congrArg Host.Outcome.next (if_neg (Bool.eq_false_iff.mp h))⟩

end Sys2Proof.Machine
end

-- ==== Proofs: alignments (R310 to R314) ====
section
/-! PROOFS. What a jump of the timebase leaves, and O39. -/
namespace Sys2Proof.Machine
open Sys2Proof
set_option Elab.async false

/-! ### An alignment begins (R310 to R312) -/

section
variable {s : State} {sess : Nat}

theorem State.align_busy (h : s.aligning = true) : s.align sess = .refused (.rule 0x62) s := by
  simp only [State.align, h]

theorem State.align_aimless (h : s.alignStep = none) : s.align sess = .refused (.rule 0x62) s := by
  unfold State.align
  cases s.aligning <;> simp only [h]

variable {d : Int} {ptp : Bool} (ha : s.aligning = false) (hs : s.alignStep = some (d, ptp))
include ha hs

theorem State.align_jumps (hm : s.rd Dict.HENTIS_ALIGN_MODE = 0) : s.align sess = .done (s.startJump sess 0 d ptp) := by
  simp only [State.align, ha, hs]
  exact if_pos hm

theorem State.align_slews (hm : s.rd Dict.HENTIS_ALIGN_MODE ≠ 0)
    (ht : s.rd Dict.HENTIS_ALIGN_TARGET ≠ 0 ∨ s.slowestFtg = none) : s.align sess = .done (s.startSlew sess d ptp) := by
  simp only [State.align, ha, hs]
  refine (if_neg hm).trans ?_
  split
  · next h0 hf => exact absurd ht (by simp [h0, hf])
  · rfl

/-- A slew to a candidate goes the shorter way to a frame of the slowest FTG. -/
theorem State.align_slews_frame (hm : s.rd Dict.HENTIS_ALIGN_MODE ≠ 0) (ht : s.rd Dict.HENTIS_ALIGN_TARGET = 0) {n : Nat}
    (hf : s.slowestFtg = some n) : s.align sess =
      .done (s.startSlew sess (reduceBy (1000 * s.ftgNum n) (s.ftgDen n) d) ptp) := by
  simp only [State.align, ha, hs, ht, hf]
  exact if_neg hm

end

/-! ### What a jump of the timebase leaves (R310, R311) -/

/-- The timebase and the jump that waits are in `t` what they are in `r`, and its event queue has entries put before it at
most. -/
structure KeepsClock (r t : State) : Prop where
  view : (t.timebase, t.dcoRest, t.hentis.jump) = (r.timebase, r.dcoRest, r.hentis.jump)
  queue : Grew r t

section
variable {r s t : State} (h : KeepsClock r s)
include h

theorem KeepsClock.same (hv : (t.timebase, t.dcoRest, t.hentis.jump) = (s.timebase, s.dcoRest, s.hentis.jump))
    (hq : t.ev.queue = s.ev.queue) : KeepsClock r t := ⟨hv.trans h.view, h.queue.trans_eq hq⟩

theorem KeepsClock.foldl {α : Type} {f : State → α → State} (l : List α)
    (hf : ∀ u a, KeepsClock r u → KeepsClock r (f u a)) : KeepsClock r (l.foldl f s) :=
  List.foldlRecOn (motive := KeepsClock r) l _ h fun u hu a _ => hf u a hu

theorem KeepsClock.raise {d : EventDef} {a b : Nat} : KeepsClock r (s.raise d a b) :=
  ⟨h.view, h.queue.raise ..⟩

theorem KeepsClock.countSlips {kind num d : Nat} : KeepsClock r (s.countSlips kind num d) := by
  unfold State.countSlips
  extract_lets k e slips due u1 u2 u3
  have h1 : KeepsClock r u1 := h.same rfl rfl
  have h2 : KeepsClock r u2 := iteInduction (motive := KeepsClock r) (fun _ => h1.same rfl rfl) fun _ => h1
  have h3 : KeepsClock r u3 := h2.same rfl rfl
  exact iteInduction (motive := KeepsClock r) (fun _ => h) fun _ =>
    iteInduction (motive := KeepsClock r) (fun _ => h3.raise) fun _ => h3

theorem KeepsClock.moveFrames {d ps : Int} : KeepsClock r (s.moveFrames d ps) := by
  unfold State.moveFrames
  extract_lets _ _ _ _ s1 s2 s3 s4
  have h1 : KeepsClock r s1 := h.foldl _ fun u n hu => by
    extract_lets
    refine iteInduction (motive := KeepsClock r) (fun _ => ?_) fun _ => hu.same rfl rfl
    split
    extract_lets v
    have hv : KeepsClock r v := iteInduction (motive := KeepsClock r) (fun _ => hu.same rfl rfl) fun _ => hu
    clear_value v
    exact hv.same rfl rfl
  have h2 : KeepsClock r s2 := h1.foldl _ fun u n hu =>
    iteInduction (motive := KeepsClock r) (fun _ => hu.same rfl rfl) fun _ => hu.same rfl rfl
  have h3 : KeepsClock r s3 := h2.foldl _ fun u c hu => hu.same rfl rfl
  have h4 : KeepsClock r s4 := h3.foldl _ fun u n hu => hu.same rfl rfl
  clear_value s4
  exact h4.same rfl rfl

theorem KeepsClock.movePhases {d : Int} : KeepsClock r (s.movePhases d) := by
  unfold State.movePhases
  extract_lets s1
  have h1 : KeepsClock r s1 := h.foldl _ fun u n hu => hu.same rfl rfl
  exact h1.same rfl rfl

theorem KeepsClock.jumpAudio {d : Int} : KeepsClock r (s.jumpAudio d) := by
  unfold State.jumpAudio
  extract_lets _ _ _ _ _ _ _ s1 s2 s3 s4
  have h1 : KeepsClock r s1 := h.same rfl rfl
  have h2 : KeepsClock r s2 := h1.foldl _ fun u n hu =>
    iteInduction (motive := KeepsClock r) (fun _ => hu) fun _ => hu.same rfl rfl
  have h3 : KeepsClock r s3 := h2.foldl _ fun u e hu => by
    extract_lets p v
    have hv : KeepsClock r v := hu.same rfl rfl
    exact iteInduction (motive := KeepsClock r) (fun _ => hv.countSlips) fun _ => hv
  have h4 : KeepsClock r s4 := h3.foldl _ fun u c hu => hu.same rfl rfl
  exact h4.foldl _ fun u n hu => hu.same rfl rfl

end

theorem State.alignDone_spec {s t : State} (h : Grew s t) (mode : Nat) (d : Int) :
    let v := t.alignDone mode d
    (v.timebase, v.dcoRest, v.hentis.jump) = (t.timebase, t.dcoRest, t.hentis.jump) ∧
      Safety.raised s v Event.ALIGN_DONE mode (param (d / 1000)) := by
  unfold State.alignDone
  extract_lets u
  have hu : (u.timebase, u.dcoRest, u.hentis.jump) = (t.timebase, t.dcoRest, t.hentis.jump) ∧ Grew s u :=
    iteInduction (motive := fun u : State => (u.timebase, u.dcoRest, u.hentis.jump) = (t.timebase, t.dcoRest, t.hentis.jump) ∧
      Grew s u) (fun _ => ⟨rfl, h.trans_eq rfl⟩) fun _ =>
      iteInduction (motive := fun u : State => (u.timebase, u.dcoRest, u.hentis.jump) = (t.timebase, t.dcoRest, t.hentis.jump) ∧
        Grew s u) (fun _ => ⟨rfl, h.trans_eq rfl⟩) fun _ => ⟨rfl, h⟩
  exact ⟨hu.1, raised_last hu.2 ..⟩

/-- The timebase, counted in the units of the DCO, is moved by them. -/
theorem State.moveTimebase_units (s : State) {units : Int}
    (h : 0 ≤ (s.timebase : Int) * 65536000000000 + s.dcoRest + units) :
    ((s.moveTimebase units).timebase : Int) * 65536000000000 + (s.moveTimebase units).dcoRest =
      (s.timebase : Int) * 65536000000000 + s.dcoRest + units := by
  have hu : ((s.timebase * dcoUnit + s.dcoRest : Nat) : Int) + units =
      (s.timebase : Int) * 65536000000000 + s.dcoRest + units := by
    rw [Nat.cast_add, Nat.cast_mul, show (dcoUnit : Int) = 65536000000000 by norm_num [dcoUnit]]
  have ht : ((s.moveTimebase units).timebase : Int) = ((s.timebase : Int) * 65536000000000 + s.dcoRest + units) /
      65536000000000 := (congrArg (fun x : Int => ((x / 65536000000000).toNat : Int)) hu).trans (Int.toNat_of_nonneg
    (Int.ediv_nonneg h (by norm_num)))
  have hr : ((s.moveTimebase units).dcoRest : Int) = ((s.timebase : Int) * 65536000000000 + s.dcoRest + units) %
      65536000000000 := (congrArg (fun x : Int => ((x % 65536000000000).toNat : Int)) hu).trans (Int.toNat_of_nonneg
    (Int.emod_nonneg _ (by norm_num)))
  rw [ht, hr]
  exact Int.ediv_mul_add_emod ..

/-- No jump waits any more, and the second is not a clean one. -/
def State.jumped (s : State) : State := { s with hentis := { s.hentis with jump := none, secondClean := false } }

theorem State.jumpNow_eq (s : State) (mode : Nat) (d : Int) {t : State} (ht : t = s.moveTimebase (d * 65536000000)) :
    s.jumpNow mode d = ((((((t.jumped.moveFrames ((t.timebase : Int) - s.timebase) d).movePhases d).jumpAudio (d / 1000)).inc
      Dict.TIMEBASE_JUMPS).wrInt Dict.TIMEBASE_LAST_JUMP (d / 1000)).alignDone mode d) := by
  subst ht
  rfl

/-- What is carried with a jump leaves the clock, and is told when it is done. -/
theorem State.jumpTold_spec {s u t : State} (hg : Grew s u) (hk : KeepsClock u t) (y d : Int) (mode : Nat) :
    let v := ((t.inc Dict.TIMEBASE_JUMPS).wrInt Dict.TIMEBASE_LAST_JUMP y).alignDone mode d
    (v.timebase, v.dcoRest, v.hentis.jump) = (u.timebase, u.dcoRest, u.hentis.jump) ∧
      Safety.raised s v Event.ALIGN_DONE mode (param (d / 1000)) := by
  have h3 : KeepsClock u ((t.inc Dict.TIMEBASE_JUMPS).wrInt Dict.TIMEBASE_LAST_JUMP y) := hk.same rfl rfl
  obtain ⟨hv, hr⟩ := State.alignDone_spec (hg.trans h3.queue) mode d
  exact ⟨hv.trans h3.view, hr⟩

theorem KeepsClock.carried (u : State) (a d x : Int) :
    KeepsClock u (((u.moveFrames a d).movePhases d).jumpAudio x) :=
  (KeepsClock.mk rfl (.of u u rfl)).moveFrames.movePhases.jumpAudio

theorem State.jumpNow_spec (s : State) (mode : Nat) (d : Int) :
    let t := s.jumpNow mode d
    t.hentis.jump = none ∧ (0 ≤ (s.timebase : Int) * 65536000000000 + s.dcoRest + d * 65536000000 →
      (t.timebase : Int) * 65536000000000 + t.dcoRest =
        (s.timebase : Int) * 65536000000000 + s.dcoRest + d * 65536000000) ∧
    Safety.raised s t Event.ALIGN_DONE mode (param (d / 1000)) := by
  have hm : Grew s (s.moveTimebase (d * 65536000000)) := .of _ _ rfl
  have hu := s.moveTimebase_units (units := d * 65536000000)
  have hw := s.jumpNow_eq mode d rfl
  generalize s.moveTimebase (d * 65536000000) = t at hm hu hw
  have hj : Grew s t.jumped := hm.trans_eq rfl
  obtain ⟨hv, hr⟩ := State.jumpTold_spec hj (KeepsClock.carried (t.jumped) _ d (d / 1000)) (d / 1000) d mode
  rw [← hw] at hv hr
  generalize s.jumpNow mode d = v at hv hr
  have htb : v.timebase = t.timebase := congrArg (·.1) hv
  have hrest : v.dcoRest = t.dcoRest := congrArg (·.2.1) hv
  exact ⟨congrArg (·.2.2) hv, fun h0 => Eq.trans (by rw [htb, hrest]) (hu h0), hr⟩

/-! ### Setting the time and steering the phase (R313, R314) -/

section
variable {s : State} {sess : Nat}

theorem State.endSlew_idle (h : s.hentis.slewing = false) : s.endSlew = s := if_neg (Bool.eq_false_iff.mp h)

theorem State.jumpIfDue_none (h : s.hentis.jump = none) : s.jumpIfDue = s := by simp only [State.jumpIfDue, h]

theorem State.jumpIfDue_early (h : s.jumpDue = false) : s.jumpIfDue = s := by
  unfold State.jumpIfDue
  split
  · exact if_neg (Bool.eq_false_iff.mp h)
  · rfl

theorem State.jumpIfDue_due {mode : Nat} {d : Int} (hj : s.hentis.jump = some (mode, d)) (h : s.jumpDue = true) :
    s.jumpIfDue = s.jumpNow mode d := by
  simp only [State.jumpIfDue, hj]
  exact if_pos h

theorem State.setTime_busy (h : s.aligning = true) : s.setTime sess = .refused (.rule 0x62) s := if_pos h

/-- The time is set at once where no FTG runs, and otherwise at the next base frame of the slowest. -/
theorem State.setTime_now (h : s.aligning = false) (hf : s.slowestFtg = none) : s.setTime sess =
    .done (s.startJump sess 3 (((s.rd Dict.TIMEBASE_SET_S * 1000000000 + s.rd Dict.TIMEBASE_SET_NS : Nat) -
      (s.timebase : Int)) * 1000) false) := by
  simp only [State.setTime, h, hf, Effect.unless, Bool.false_eq_true, if_false, nsPerS]

theorem State.setTime_frame {n : Nat} (h : s.aligning = false) (hf : s.slowestFtg = some n) : s.setTime sess =
    .done (s.startJump sess 3 (((s.rd Dict.TIMEBASE_SET_S * 1000000000 + s.rd Dict.TIMEBASE_SET_NS : Nat) -
      ((s.ftgAt n).nextStart : Int)) * 1000) false) := by
  simp only [State.setTime, h, hf, Effect.unless, Bool.false_eq_true, if_false, nsPerS]

end

/-- Settles O39: what a jump carries keeps the timebase that it set, and the rest are the branches of each command. -/
theorem alignments : Obligations.Alignments := by
  refine ⟨fun s k => ?_, fun s sess d ptp => ?_, State.jumpNow_spec, fun s k => ?_, fun s => ?_, fun s => ?_, fun s k v => ?_,
    fun s k v => ?_⟩
  · exact fun hp => ⟨fun h => congrArg Host.Outcome.next (State.writeScalar_refuses hp (State.align_busy h)),
      fun h => congrArg Host.Outcome.next (State.writeScalar_refuses hp (State.align_aimless h)),
      fun d ptp ha hs => ⟨
        fun hm => congrArg Host.Outcome.next (State.writeScalar_accepts hp (State.align_jumps ha hs hm)),
        fun hm ht => congrArg Host.Outcome.next (State.writeScalar_accepts hp (State.align_slews ha hs hm (.inl ht))),
        fun hm _ hf => congrArg Host.Outcome.next (State.writeScalar_accepts hp (State.align_slews ha hs hm (.inr hf))),
        fun n hm ht hf => congrArg Host.Outcome.next
          (State.writeScalar_accepts hp (State.align_slews_frame ha hs hm ht hf))⟩⟩
  · exact ⟨rfl, rfl, rfl, rfl, rfl, rfl, raised_raiseBy rfl⟩
  · exact fun hp => congrArg Host.Outcome.next (State.writeScalar_accepts hp rfl)
  · exact ⟨State.endSlew_idle, fun h => if_pos h⟩
  · exact ⟨fun hd h => congrArg Host.Outcome.next (if_pos ⟨hd, h⟩),
      fun _ h => congrArg Host.Outcome.next (if_neg fun hx => h hx.2),
      fun h => congrArg Host.Outcome.next (iteInduction (motive := (· = s.begin)) (fun _ => State.jumpIfDue_none h) fun _ => rfl),
      fun mode d hd hj h => congrArg Host.Outcome.next ((if_pos hd).trans (State.jumpIfDue_due hj h)),
      fun h => congrArg Host.Outcome.next (iteInduction (motive := (· = s.begin)) (fun _ => State.jumpIfDue_early h) fun _ => rfl)⟩
  · exact fun hp => ⟨fun h => congrArg Host.Outcome.next (State.writeScalar_refuses hp (State.setTime_busy h)),
      fun h hf => congrArg Host.Outcome.next (State.writeScalar_accepts hp (State.setTime_now h hf)),
      fun n h hf => congrArg Host.Outcome.next (State.writeScalar_accepts hp (State.setTime_frame h hf))⟩
  · exact fun hp => ⟨fun h => congrArg Host.Outcome.next (State.writeScalar_refuses hp (if_pos (bne_iff_ne.mpr h))),
      fun h => congrArg Host.Outcome.next (State.writeScalar_accepts hp
        (if_neg (Bool.eq_false_iff.mp (bne_eq_false_iff_eq.mpr h))))⟩

end Sys2Proof.Machine
end

-- ==== Proofs: frame timing generators (R307, R308) ====
section
/-! PROOFS. The branches of a base-frame start, and O40. -/
namespace Sys2Proof.Machine
open Sys2Proof
set_option Elab.async false

/-! ### Frame timing generators (R307, R308) -/

section
variable {s : State} {n : Nat}

theorem State.judgeFtg_rate {num den : Nat} (hn : num = s.rd Dict.FTG_RATE_NUM n) (hd : den = s.rd Dict.FTG_RATE_DEN n)
    (h : num < den ∨ 240 * den < num) : s.judgeFtg n = some (.field 0x12 Dict.FTG_RATE_NUM n) := by
  subst hn hd
  exact firstOf_cons_true (decide_eq_true h)

section
variable {num den : Nat} (hn : num = s.rd Dict.FTG_RATE_NUM n) (hd : den = s.rd Dict.FTG_RATE_DEN n) (h1 : den ≤ num)
  (h2 : num ≤ 240 * den)
include hn hd h1 h2

theorem State.judgeFtg_offset (h : s.ftgNum n ≤ s.rd Dict.FTG_OFFSET n * s.ftgDen n) :
    s.judgeFtg n = some (.field 0x12 Dict.FTG_OFFSET n) := by
  subst hn hd
  exact (firstOf_cons_false (decide_eq_false (by omega))).trans (firstOf_cons_true (decide_eq_true h))

theorem State.judgeFtg_passes (h : s.rd Dict.FTG_OFFSET n * s.ftgDen n < s.ftgNum n) : s.judgeFtg n = none := by
  subst hn hd
  exact (firstOf_cons_false (decide_eq_false (by omega))).trans (firstOf_cons_false (decide_eq_false (Nat.not_le.mpr h)))

end

theorem State.enableFtg_refused {r : Refuse} (h : s.judgeFtg n = some r) : s.enableFtg n = .refused r s := by
  simp only [State.enableFtg, h]

theorem State.enableFtg_running (h : s.judgeFtg n = none) (hr : (s.ftgAt n).running = true) : s.enableFtg n =
    .done ((s.wr Dict.FTG_ENABLE 1 n).modFtg n (fun f => { f with stopping := false })) := by
  simp only [State.enableFtg, h]
  exact if_pos hr

theorem State.enableFtg_waiting (h : s.judgeFtg n = none) (hr : (s.ftgAt n).running = false)
    (he : s.flag Dict.FTG_ENABLE n = true) : s.enableFtg n = .done (s.wr Dict.FTG_ENABLE 1 n) := by
  simp only [State.enableFtg, h]
  exact (if_neg (Bool.eq_false_iff.mp hr)).trans (if_pos he)

theorem State.enableFtg_arms (h : s.judgeFtg n = none) (hr : (s.ftgAt n).running = false)
    (he : s.flag Dict.FTG_ENABLE n = false) : s.enableFtg n = .done ((s.wr Dict.FTG_ENABLE 1 n).armFtg n) := by
  simp only [State.enableFtg, h]
  exact (if_neg (Bool.eq_false_iff.mp hr)).trans (if_neg (Bool.eq_false_iff.mp he))

theorem State.disableFtg_running (hr : (s.ftgAt n).running = true) : s.disableFtg n =
    .done ((s.wr Dict.FTG_ENABLE 0 n).putFtg n { s.ftgAt n with stopping := true }) :=
  congrArg (fun f => Effect.done ((s.wr Dict.FTG_ENABLE 0 n).putFtg n f)) (if_pos hr)

theorem State.disableFtg_idle (hr : (s.ftgAt n).running = false) : s.disableFtg n =
    .done ((s.wr Dict.FTG_ENABLE 0 n).putFtg n { s.ftgAt n with startAfter := 0 }) :=
  congrArg (fun f => Effect.done ((s.wr Dict.FTG_ENABLE 0 n).putFtg n f)) (if_neg (Bool.eq_false_iff.mp hr))

/-! ### A base frame starts (R308) -/

section
variable {j : State} {f : Ftg} (hj : j = if s.dictUp = true ∧ s.slowestFtg = some n then s.jumpIfDue else s)
  (hf : f = j.ftgAt n)
include hj hf

theorem State.ftgFrame_waits (hr : f.running = true) (ht : j.timebase < f.nextStart) : s.ftgFrame n = j := by
  subst hf
  simp only [State.ftgFrame, ← hj, hr, decide_eq_false (Nat.not_le.mpr ht), Bool.and_false, Bool.not_true, Bool.false_and,
    Bool.false_eq_true, if_false]

theorem State.ftgFrame_off (hr : f.running = false) (he : j.flag Dict.FTG_ENABLE n = false) : s.ftgFrame n = j := by
  subst hf
  simp only [State.ftgFrame, ← hj, hr, he, Bool.and_false, Bool.false_and, Bool.false_eq_true, if_false]

variable (hu : j.ftgsUp = true)
include hu

theorem State.ftgFrame_stops (hr : f.running = true) (ht : f.nextStart ≤ j.timebase) (hs : f.stopping = true) :
    s.ftgFrame n = j.stopFtg n := by
  subst hf
  simp only [State.ftgFrame, ← hj, hu, hr, hs, decide_eq_true ht, Bool.and_true, if_true]

theorem State.ftgFrame_runs (hr : f.running = true) (ht : f.nextStart ≤ j.timebase) (hs : f.stopping = false) :
    s.ftgFrame n = (j.inc Dict.FTG_BASE_FRAMES n).baseFrame n f.nextStart := by
  subst hf
  simp only [State.ftgFrame, ← hj, hu, hr, hs, decide_eq_true ht, Bool.and_true, if_true, Bool.false_eq_true, if_false]

theorem State.ftgFrame_starts {w : State} (hr : f.running = false) (he : j.flag Dict.FTG_ENABLE n = true)
    (h0 : f.startAfter ≠ 0) (ht : j.ftgNext n f.startAfter ≤ j.timebase)
    (hw : w = if f.everRun then j.inc Dict.FTG_BASE_FRAMES n else j) : s.ftgFrame n =
      ((w.wr Dict.FTG_STATE 1 n).raise Event.FTG_STARTED n (w.rd Dict.FTG_RATE_NUM n)).baseFrame n
        (j.ftgNext n f.startAfter) := by
  subst hf hw
  simp only [State.ftgFrame, ← hj, hu, hr, he, decide_eq_true ht, bne_iff_ne.mpr h0, Bool.and_true, Bool.and_false,
    Bool.false_and, Bool.not_false, if_true, Bool.false_eq_true, if_false]

end
end

theorem State.ftgsUp_of_state {s : State} (h3 : 3 ≤ s.devState) (h5 : s.devState ≤ 5) : s.ftgsUp = true := by
  simp only [State.ftgsUp, Bool.or_eq_true, beq_iff_eq]
  omega

/-- Settles O40: the judgement of an FTG, and the branches of its base-frame start. -/
theorem frameTimingGenerators : Obligations.FrameTimingGenerators := by
  refine ⟨fun s k n => ?_, fun s k n => ?_, fun s n => ?_⟩
  · exact fun hp => ⟨fun h => congrArg Host.Outcome.next (State.writeScalar_refuses hp
        (State.enableFtg_refused (State.judgeFtg_rate rfl rfl h))),
      fun h1 h2 h => congrArg Host.Outcome.next (State.writeScalar_refuses hp
        (State.enableFtg_refused (State.judgeFtg_offset rfl rfl h1 h2 h))),
      fun h1 h2 h =>
        have hj := State.judgeFtg_passes rfl rfl h1 h2 h
        ⟨fun hr => congrArg Host.Outcome.next (State.writeScalar_accepts hp (State.enableFtg_running hj hr)),
          fun hr he => congrArg Host.Outcome.next (State.writeScalar_accepts hp (State.enableFtg_waiting hj hr he)),
          fun hr he => congrArg Host.Outcome.next (State.writeScalar_accepts hp (State.enableFtg_arms hj hr he))⟩⟩
  · exact fun hp => ⟨
      fun hr => congrArg Host.Outcome.next (State.writeScalar_accepts hp (State.disableFtg_running hr)),
      fun hr => congrArg Host.Outcome.next (State.writeScalar_accepts hp (State.disableFtg_idle hr))⟩
  · exact fun h3 h5 =>
      have hu := State.ftgsUp_of_state h3 h5
      ⟨fun hr ht hs => congrArg Host.Outcome.next (State.ftgFrame_stops rfl rfl hu hr ht hs),
        fun hr ht hs => congrArg Host.Outcome.next (State.ftgFrame_runs rfl rfl hu hr ht hs),
        fun hr ht => congrArg Host.Outcome.next (State.ftgFrame_waits rfl rfl hr ht),
        fun hr he => congrArg Host.Outcome.next (State.ftgFrame_off rfl rfl hr he),
        fun hr he h0 ht => congrArg Host.Outcome.next (State.ftgFrame_starts rfl rfl hu hr he h0 ht rfl)⟩

end Sys2Proof.Machine
end

-- ==== Proofs: serial ports and common starts (R317 to R332) ====
section
/-! PROOFS. What a frame of a clock slave passes, and O41. -/
namespace Sys2Proof.Machine
open Sys2Proof
set_option Elab.async false

/-! ### Serial ports are enabled and disabled (R318 to R320) -/

section
variable {s : State} {n : Nat}

theorem State.enableSap_on (h : s.flag Dict.SAP_ENABLE n = true) : s.enableSap n = .done s := if_pos h

section
variable (h : s.flag Dict.SAP_ENABLE n = false)
include h

theorem State.enableSap_fast (hf : s.rd Dict.SAP_FORMAT n = 2) (hw : 49152000 < 32 * s.sapSlots n * s.matrixRate) :
    s.enableSap n = .refused (.atField 0x74 (0x3000 + n) 4) s := by
  simp only [State.enableSap, h, hf, decide_eq_true hw, beq_self_eq_true, Bool.and_true, Bool.false_eq_true, if_false,
    firstOf_cons_true]

variable {on : State} (hon : on = s.wr Dict.SAP_ENABLE 1 n)
  (hw : s.rd Dict.SAP_FORMAT n ≠ 2 ∨ 32 * s.sapSlots n * s.matrixRate ≤ 49152000)
include hon hw

omit h hon in
theorem State.sapPace_fits : (s.rd Dict.SAP_FORMAT n == 2 && decide (49152000 < 32 * s.sapSlots n * s.matrixRate)) = false := by
  rcases hw with h | h
  · simp [h]
  · simp [Nat.not_lt.mpr h]

theorem State.enableSap_unfed {d : Nat} (hd : on.destRefusal 1 n = some d) :
    s.enableSap n = .refused (.atField d (0x3000 + n) 0x0B) s := by
  subst hon
  simp only [State.enableSap, h, State.sapPace_fits hw, hd, Bool.false_eq_true, if_false, firstOf_cons_false, Option.isSome_some,
    firstOf_cons_true, Option.getD_some]

theorem State.enableSap_unfit (hd : on.destRefusal 1 n = none) (hf : s.delayFits = false) :
    s.enableSap n = .refused (.rule 0x14) s := by
  subst hon
  simp only [State.enableSap, h, State.sapPace_fits hw, hd, hf, Bool.false_eq_true, if_false, firstOf_cons_false,
    Option.isSome_none, Bool.not_false, firstOf_cons_true]

theorem State.enableSap_starts (hd : on.destRefusal 1 n = none) (hf : s.delayFits = true) : s.enableSap n =
    .done ((((on.setDividers n).putEndpoint (256 + n) Endpoint.init).settleDelay).startAlone.judgeSap n) := by
  subst hon
  simp only [State.enableSap, h, State.sapPace_fits hw, hd, hf, Bool.false_eq_true, if_false, firstOf_cons_false,
    Option.isSome_none, Bool.not_true, firstOf_nil]

end

theorem State.disableSap_eq (s : State) (n : Nat) : s.disableSap n =
    .done (((((s.wr Dict.SAP_ENABLE 0 n).putEndpoint (256 + n) Endpoint.init).settleDelay).judgeSap n).raiseIf
      (s.endpointAt (256 + n)).started Event.AUDIO_STOPPED (2 ^ n) 0) := rfl

theorem State.disableSap_started (h : (s.endpointAt (256 + n)).started = true) : s.disableSap n =
    .done (((((s.wr Dict.SAP_ENABLE 0 n).putEndpoint (256 + n) Endpoint.init).settleDelay).judgeSap n).raise
      Event.AUDIO_STOPPED (2 ^ n) 0) := s.disableSap_eq n |>.trans (congrArg Effect.done (if_pos h))

theorem State.disableSap_silent (h : (s.endpointAt (256 + n)).started = false) : s.disableSap n =
    .done ((((s.wr Dict.SAP_ENABLE 0 n).putEndpoint (256 + n) Endpoint.init).settleDelay).judgeSap n) :=
  s.disableSap_eq n |>.trans (congrArg Effect.done (if_neg (Bool.eq_false_iff.mp h)))

/-! ### Clock slaves (R321, R322, R327) -/

section
variable {x : List Int} {w : State} {e : Endpoint} (ha : s.alive = true) (hn : s.flag Dict.SAP_ENABLE n = true)
  (hc : s.sapSlave n = true)

section
variable (hw : w = s.modEndpoint (256 + n) (fun e => { e with seenAt := Store.write (fun _ => 0) e.seenAt 0 (s.now + 1) }))
  (he : e = w.endpointAt (256 + n))
include ha hn hc hw he

theorem State.slaveFrame_clocks (h : e.started = false ∨ e.lostNow = true) : s.slaveFrame n x = w := by
  subst he hw
  exact (if_pos ⟨ha, hn, hc⟩).trans (if_pos (h.imp_left (congrArg not)))

variable (hs : e.started = true) (hl : e.lostNow = false)
include hs hl

theorem State.slaveFrame_passes : s.slaveFrame n x =
    if w.sapSends n then
      match e.fifo with
      | x :: rest => (w.putEndpoint (256 + n) { e with fifo := rest, last := x }).out (.audio 1 n x)
      | [] => (w.countError n true).out (.audio 1 n e.last)
    else if e.fifo.length < 64 then w.putEndpoint (256 + n) { e with fifo := e.fifo ++ [x] }
    else w.countError n false := by
  subst he hw
  refine (if_pos ⟨ha, hn, hc⟩).trans (if_neg fun hx => ?_)
  rcases hx with h | h
  · exact Bool.noConfusion ((congrArg not hs).symm.trans h)
  · exact Bool.noConfusion (hl.symm.trans h)

theorem State.slaveFrame_sends (ho : w.sapSends n = true) {y : List Int} {rest : List (List Int)} (hf : e.fifo = y :: rest) :
    s.slaveFrame n x = (w.putEndpoint (256 + n) { e with fifo := rest, last := y }).out (.audio 1 n y) := by
  rw [State.slaveFrame_passes ha hn hc hw he hs hl, if_pos ho, hf]

theorem State.slaveFrame_underruns (ho : w.sapSends n = true) (hf : e.fifo = []) :
    s.slaveFrame n x = (w.countError n true).out (.audio 1 n e.last) := by
  rw [State.slaveFrame_passes ha hn hc hw he hs hl, if_pos ho, hf]

theorem State.slaveFrame_takes (ho : w.sapSends n = false) (hf : e.fifo.length < 64) :
    s.slaveFrame n x = w.putEndpoint (256 + n) { e with fifo := e.fifo ++ [x] } := by
  rw [State.slaveFrame_passes ha hn hc hw he hs hl, if_neg (Bool.eq_false_iff.mp ho), if_pos hf]

theorem State.slaveFrame_overruns (ho : w.sapSends n = false) (hf : 64 ≤ e.fifo.length) :
    s.slaveFrame n x = w.countError n false := by
  rw [State.slaveFrame_passes ha hn hc hw he hs hl, if_neg (Bool.eq_false_iff.mp ho), if_neg (Nat.not_lt.mpr hf)]

end

theorem State.loseClock_lost (h : (s.endpointAt (256 + n)).lostNow = true) : s.loseClock n = s :=
  if_neg fun ⟨_, _, _, hl, _⟩ => Bool.noConfusion ((congrArg not h).symm.trans hl)

/-- A clock that was not seen for two sample frames is lost. -/
theorem State.loseClock_loses (he : e = s.endpointAt (256 + n)) (hl : e.lostNow = false)
    (h : s.since (max 1 (Store.read (fun _ => 0) e.seenAt 0)) (2 * 1000000000 / s.matrixRate) = true) (ha : s.alive = true)
    (hn : s.flag Dict.SAP_ENABLE n = true) (hc : s.sapSlave n = true) : s.loseClock n =
      (((s.putEndpoint (256 + n) { e with lostNow := true, good := false }).inc Dict.SAP_CLOCK_LOSSES n).judgeSap n).raise
        Event.SAP_CLOCK_LOST (256 + n) 0 := by
  subst he
  refine if_pos ⟨ha, hn, hc, congrArg not hl, ?_⟩
  rcases Nat.eq_zero_or_pos (Store.read (fun _ => 0) (s.endpointAt (256 + n)).seenAt 0) with h0 | h0
  · exact .inl h0
  · rw [max_eq_right h0] at h
    exact .inr h

end
end

/-! ### Clocks that return, and their rates (R322, R323) -/

section
variable {s w : State} {kind num key ramp : Nat} {e : Endpoint} (hk : key = audioKey kind num) (he : e = s.endpointAt key)
include hk he

theorem State.restoreClock_sound (hl : e.lostNow = false) (hm : e.mismatch = false) : s.restoreClock kind num = s := by
  subst he hk
  refine if_neg fun hx => ?_
  obtain ⟨-, -, h, -⟩ := hx
  rcases h with ⟨-, h⟩ | h
  · exact Bool.noConfusion (hl.symm.trans h)
  · exact Bool.noConfusion (hm.symm.trans h)

variable (ha : s.alive = true) (hc : s.clocked kind num = true) (hg : e.good = true)
  (hr : ramp = s.framesIn (s.rd Dict.AUDIO_START_MUTE_RAMP))
  (hw : w = s.putEndpoint key { e with
    lostNow := kind = 3 && e.lostNow
    mismatch := false
    fifo := halfFull
    rampLeft := ramp
    rampLength := ramp })
include ha hc hg hr hw

theorem State.restoreClock_port (h1 : kind = 1) (h : e.lostNow = true ∨ e.mismatch = true) : s.restoreClock kind num =
    (w.judgeSap num).raise Event.SAP_CLOCK_RESTORED key (e.rate / 1000000) := by
  subst hr hw he hk
  exact (if_pos ⟨ha, hc, h.imp_left fun h => ⟨h1, h⟩, hg⟩).trans
    (congrArg (fun u : State => u.raise Event.SAP_CLOCK_RESTORED _ _) (if_pos h1))

theorem State.restoreClock_stream (h1 : kind ≠ 1) (h : e.mismatch = true) : s.restoreClock kind num =
    w.raise Event.SAP_CLOCK_RESTORED key (e.rate / 1000000) := by
  subst hr hw he hk
  exact (if_pos ⟨ha, hc, .inr h, hg⟩).trans (congrArg (fun u : State => u.raise Event.SAP_CLOCK_RESTORED _ _) (if_neg h1))

end

section
variable {s w : State} {num rate nominal gap : Nat} {pcm : Bool} {e : Endpoint} (ha : s.alive = true)
  (hn : nominal = s.matrixRate * 1000000) (hg : gap = rateGap rate nominal)
include ha hn hg

omit ha hn hg in
theorem State.clocked_group (s : State) (num : Nat) : s.clocked 2 num = false := by simp [State.clocked]

/-- The clock that a group carries is judged by its rate and its coding alone. -/
theorem State.rateWindow_group (he : e = s.endpointAt (512 + num))
    (hw : w = s.putEndpoint (512 + num) { e with rate := rate, good := decide (gap * 1000000 ≤ 500 * nominal) }) {bad : Bool}
    (hb : (decide (1000 * nominal < gap * 1000000) || !pcm) = bad) : s.rateWindow 2 num rate pcm =
      (w.modEndpoint (512 + num) (fun e => { e with mismatch := bad })).raiseIf (bad && !e.mismatch)
        Event.AUDIO_RATE_MISMATCH (512 + num) (rate / 1000000) := by
  have h21 : ¬(2 : Nat) = 1 := by decide
  have hk : audioKey 2 num = 512 + num := rfl
  simp only [State.rateWindow, ha, if_true, hk, ← he, ← hn, ← hg, h21, if_false, ← hw, w.clocked_group, Bool.false_eq_true, hb]

variable (he : e = s.endpointAt (256 + num))
  (hw : w = (s.putEndpoint (256 + num) { e with rate := rate, good := decide (gap * 1000000 ≤ 500 * nominal) }).wr
    Dict.SAP_MEASURED_RATE rate num) (hc : w.clocked 1 num = true)
  (hr : e.rate = 0 ∨ rateGap rate e.rate * 1000000 ≤ 100 * e.rate)
include he hw hc hr

theorem State.rateWindow_port : s.rateWindow 1 num rate pcm =
    if decide (1000 * nominal < gap * 1000000) ∧ !e.mismatch ∧ !e.lostNow then
      ((w.modEndpoint (256 + num) (fun e => { e with mismatch := true })).judgeSap num).raise
        Event.AUDIO_RATE_MISMATCH (256 + num) (rate / 1000000)
    else w := by
  have hq : (e.rate != 0 && decide (100 * e.rate < rateGap rate e.rate * 1000000)) = false := by
    rcases hr with h | h
    · simp [h]
    · simp [Nat.not_lt.mpr h]
  have hraise : w.raiseIf (e.rate != 0 && decide (100 * e.rate < rateGap rate e.rate * 1000000)) Event.AUDIO_RATE_CHANGE
      (256 + num) (rate / 1000000) = w := if_neg (Bool.eq_false_iff.mp hq)
  have hk : audioKey 1 num = 256 + num := rfl
  simp only [State.rateWindow, ha, if_true, hk, ← he, ← hn, ← hg, ← hw, hc, hraise]

end

/-! ### Common starts (R329 to R332) -/

theorem State.startAudio_eq (s : State) (h : s.alive = true) {u : State} (hu : u = if s.indexDue s.audio.startAt then
      ({ s with audio := { s.audio with startAt := 0 } } : State).startTogether (starters.filter fun e =>
        s.starterOn e.1 e.2 && s.masked e.1 e.2 && !(s.endpointAt (audioKey e.1 e.2)).started) (s.audio.startAt - 1)
        (s.rd Dict.AUDIO_START_SAP_MASK)
      else s) {l : List (Nat × Nat)}
    (hl : starters.filter (fun e => u.indexDue (u.endpointAt (audioKey e.1 e.2)).startAt) = l) : s.startAudio =
      match l.head? with
      | none => u
      | some e => u.startTogether l ((u.endpointAt (audioKey e.1 e.2)).startAt - 1)
        (maskOf ((l.filter (fun e => e.1 == 1)).map Prod.snd)) := by
  subst hl hu
  exact if_pos h

/-- Settles O41: what a frame of a clock slave passes, what a rate is judged by, and the starts that fall due. -/
theorem serialPortsAndStarts : Obligations.SerialPortsAndStarts := by
  refine ⟨fun s k n => ?_, fun s k n => ?_, fun s n x => ?_, fun s n => ?_, fun s kind num => ?_, fun s num rate pcm => ?_,
    fun s num rate pcm => ?_, fun s k => ?_, fun s k => ?_, fun s => ?_, fun s => ?_⟩
  · exact fun hp => ⟨fun h => congrArg Host.Outcome.next (State.writeScalar_accepts hp (State.enableSap_on h)),
      fun h hf hw => congrArg Host.Outcome.next (State.writeScalar_refuses hp (State.enableSap_fast h hf hw)),
      fun h hw => ⟨
        fun d hd => congrArg Host.Outcome.next (State.writeScalar_refuses hp (State.enableSap_unfed h rfl hw hd)),
        fun hd hf => congrArg Host.Outcome.next (State.writeScalar_refuses hp (State.enableSap_unfit h rfl hw hd hf)),
        fun hd hf => congrArg Host.Outcome.next (State.writeScalar_accepts hp (State.enableSap_starts h rfl hw hd hf))⟩⟩
  · exact fun hp => ⟨
      fun h => congrArg Host.Outcome.next (State.writeScalar_accepts hp (State.disableSap_started h)),
      fun h => congrArg Host.Outcome.next (State.writeScalar_accepts hp (State.disableSap_silent h))⟩
  · exact fun ha hn hc => ⟨fun h => congrArg Host.Outcome.next (State.slaveFrame_clocks ha hn hc rfl rfl h),
      fun hs hl ho => ⟨
        fun y rest hf => congrArg Host.Outcome.next (State.slaveFrame_sends ha hn hc rfl rfl hs hl ho hf),
        fun hf => congrArg Host.Outcome.next (State.slaveFrame_underruns ha hn hc rfl rfl hs hl ho hf)⟩,
      fun hs hl ho => ⟨
        fun hf => congrArg Host.Outcome.next (State.slaveFrame_takes ha hn hc rfl rfl hs hl ho hf),
        fun hf => congrArg Host.Outcome.next (State.slaveFrame_overruns ha hn hc rfl rfl hs hl ho hf)⟩⟩
  · exact fun ha hn hc => ⟨fun h => congrArg Host.Outcome.next (State.loseClock_lost h),
      fun hl h => congrArg Host.Outcome.next (State.loseClock_loses rfl hl h ha hn hc)⟩
  · exact fun ha hc hg => ⟨
      fun h1 h => congrArg Host.Outcome.next (State.restoreClock_port rfl rfl ha hc hg rfl rfl h1 h),
      fun h1 h => congrArg Host.Outcome.next (State.restoreClock_stream rfl rfl ha hc hg rfl rfl h1 h),
      fun hl hm => congrArg Host.Outcome.next (State.restoreClock_sound rfl rfl hl hm)⟩
  · refine fun ha => ⟨fun hg hp => ?_, fun h hm => ?_, fun h hm => ?_⟩
    · exact congrArg Host.Outcome.next ((State.rateWindow_group ha rfl rfl rfl rfl
        ((Bool.or_eq_false_iff.mpr ⟨decide_eq_false (Nat.not_lt.mpr hg), congrArg not hp⟩))).trans rfl)
    · exact congrArg Host.Outcome.next ((State.rateWindow_group ha rfl rfl rfl rfl
        ((Bool.or_eq_true _ _).mpr (h.imp decide_eq_true (congrArg not)))).trans
          (if_neg (Bool.eq_false_iff.mp (congrArg (true && !·) hm))))
    · exact congrArg Host.Outcome.next ((State.rateWindow_group ha rfl rfl rfl rfl
        ((Bool.or_eq_true _ _).mpr (h.imp decide_eq_true (congrArg not)))).trans
          (if_pos (congrArg (true && !·) hm)))
  · refine fun ha hc hr => ⟨fun h => congrArg Host.Outcome.next ((State.rateWindow_port ha rfl rfl rfl rfl hc hr).trans
      (if_neg fun ⟨hg, hm, hl⟩ => ?_)),
      fun hg hm hl => congrArg Host.Outcome.next ((State.rateWindow_port ha rfl rfl rfl rfl hc hr).trans
        (if_pos ⟨decide_eq_true hg, congrArg not hm, congrArg not hl⟩))⟩
    rcases h with h | h | h
    · exact absurd (of_decide_eq_true hg) (Nat.not_lt.mpr h)
    · exact Bool.noConfusion ((congrArg not h).symm.trans hm)
    · exact Bool.noConfusion ((congrArg not h).symm.trans hl)
  · exact fun hp => ⟨fun h => congrArg Host.Outcome.next (State.writeScalar_accepts hp
        (congrArg (fun i => Effect.done (State.scheduleStart _ i)) (if_pos h))),
      fun h => congrArg Host.Outcome.next (State.writeScalar_accepts hp
        (congrArg (fun i => Effect.done (State.scheduleStart _ i)) (if_neg h)))⟩
  · exact fun hp => congrArg Host.Outcome.next (State.writeScalar_accepts hp rfl)
  · exact ⟨fun ha hp => congrArg Host.Outcome.next (if_pos ⟨ha, hp⟩),
      fun hp => congrArg Host.Outcome.next (if_neg fun hx => Bool.noConfusion (hp.symm.trans hx.2))⟩
  · exact fun ha => ⟨
      fun hi hd => congrArg Host.Outcome.next (State.startAudio_eq _ ha (if_neg (Bool.eq_false_iff.mp hi)).symm hd),
      fun hi hd => congrArg Host.Outcome.next (State.startAudio_eq _ ha (if_pos hi).symm hd),
      fun e rest hi hd => congrArg Host.Outcome.next ((State.startAudio_eq _ ha (if_neg (Bool.eq_false_iff.mp hi)).symm
        hd).trans (by rw [hd]; rfl))⟩

end Sys2Proof.Machine
end

-- ==== Proofs: the sound matrix and streams (R324 to R335) ====
section
/-! PROOFS. The stages of a sample frame, and O42. -/
namespace Sys2Proof.Machine
open Sys2Proof
set_option Elab.async false

/-! ### A sample frame (R324 to R328) -/

theorem State.sampleFrame_early {s : State} {saps : List (Nat × List Int)} {inputs : List (Nat × List (List Int))}
    (h : s.timebase * s.matrixRate < s.audio.next * 1000000000) : s.sampleFrame saps inputs = s :=
  if_neg fun hx => absurd hx.2.2 (Nat.not_le.mpr h)

/-- A sample frame that is due is mixed, sent and counted. -/
theorem State.sampleFrame_due {s : State} {saps : List (Nat × List Int)} {inputs : List (Nat × List (List Int))} {i : Nat}
    {p : State × List Nat} {mixed sent t : State}
    (h3 : 3 ≤ s.devState) (h5 : s.devState ≤ 5) (hi : i = s.audio.next) (h : i * 1000000000 ≤ s.timebase * s.matrixRate)
    (hp : p = (s.takeSources (s.sampleAt i) saps inputs).passPresents (s.sampleAt i))
    (hm : mixed = (List.range 256).foldl (fun s k => s.stepChannel p.2 k) p.1)
    (hs : sent = allHeads.foldl State.feedHead ((List.range 64).foldl State.feedSender
      ((List.range 8).foldl State.feedSap ((List.range 8).foldl State.driveClocks mixed))))
    (ht : t = (List.range 8).foldl State.judgeSap ([0, 1].foldl State.feedCapture sent).endStops) :
    s.sampleFrame saps inputs = { t with audio := { t.audio with next := i + 1 } } := by
  obtain ⟨u, passed⟩ := p
  unfold State.sampleFrame
  extract_lets i' t' s1
  have hi' : i' = i := hi.symm
  have hp' : s1.passPresents t' = (u, passed) := by rw [hp]; subst hi; rfl
  rw [if_pos ⟨h3, h5, hi' ▸ h⟩, hp', hi']
  dsimp only
  rw [← hm, ← hs, ← ht]

/-! ### Streams (R333 to R335) -/

section
variable {s : State} {k path : Nat} {e : Endpoint} (he : e = s.endpointAt (768 + k)) (ha : s.alive = true)
  (ho : s.streamOn k = true)

section
variable {seq : Nat} {x : List (List Int)} {row : List Byte} (hr : row = s.streamEntryAt k)
  (hp : path = 0 ∨ byteAt row 2 ≠ 0xFF) {heard : Endpoint} (hh : heard = { e with
    seenAt := Store.write (fun _ => 0) e.seenAt path (s.now + 1)
    lostPaths := putBit e.lostPaths path false })
include he ha ho hr hp hh

theorem State.takePacket_runs (hs : e.started = true) (hl : e.lostNow = false) : s.takePacket k path seq x =
    s.putEndpoint (768 + k) (s.holdPacket heard (leAt row 20 2) (seq % 65536) x) := by
  subst hh hr he
  exact (if_pos ⟨ha, ho, hp⟩).trans (congrArg (fun e => s.putEndpoint (768 + k) (s.holdPacket e _ (seq % 65536) x))
    (if_pos ⟨hs, congrArg not hl⟩))

/-- The first packet starts a stream, or starts it again. -/
theorem State.takePacket_starts (h : e.started = false ∨ e.lostNow = true) : s.takePacket k path seq x =
    s.putEndpoint (768 + k) (s.holdPacket
      { heard with started := true, lostNow := false, fifo := halfFull, held := [], nextSeq := 0 } (leAt row 20 2)
      (seq % 65536) x) := by
  subst hh hr he
  refine (if_pos ⟨ha, ho, hp⟩).trans (congrArg (fun e => s.putEndpoint (768 + k) (s.holdPacket e _ (seq % 65536) x))
    (if_neg fun hx => ?_))
  rcases h with h | h
  · exact Bool.noConfusion (h.symm.trans hx.1)
  · exact Bool.noConfusion ((congrArg not h).symm.trans hx.2)

end

variable {pair : Bool} {lost : Nat} (hpair : pair = (byteAt (s.streamEntryAt k) 2 != 0xFF))
  (hlost : lost = putBit e.lostPaths path true) (hp : path = 0 ∨ pair = true) (hb : bit e.lostPaths path = false)
  (hd : s.since (max 1 (Store.read (fun _ => 0) e.seenAt path)) (3 * s.packetTime k) = true)
include he ha ho hpair hlost hp hb hd

theorem State.loseStreamPath_due {all : Bool} (hall : decide (lost = if pair then 3 else 1) = all) : s.loseStreamPath k path =
    (s.putEndpoint (768 + k) { e with
      lostPaths := lost
      lostNow := all
      held := if all then [] else e.held }).raise Event.STREAM_LOST (768 + k) (if all ∧ pair then 2 else path) := by
  subst hall hlost hpair he
  exact if_pos ⟨ha, ho, hp, congrArg not hb, hd⟩

theorem State.loseStreamPath_one (h : pair = true) (hl : lost ≠ 3) : s.loseStreamPath k path =
    (s.putEndpoint (768 + k) { e with
      lostPaths := lost
      lostNow := false }).raise Event.STREAM_LOST (768 + k) path := by
  refine (State.loseStreamPath_due he ha ho hpair hlost hp hb hd (all := false) (decide_eq_false ?_)).trans ?_
  · rwa [if_pos h]
  · simp only [Bool.false_eq_true, if_false, false_and]

theorem State.loseStreamPath_both (h : pair = true) (hl : lost = 3) : s.loseStreamPath k path =
    (s.putEndpoint (768 + k) { e with
      lostPaths := lost
      lostNow := true
      held := [] }).raise Event.STREAM_LOST (768 + k) 2 := by
  refine (State.loseStreamPath_due he ha ho hpair hlost hp hb hd (all := true) (decide_eq_true ?_)).trans ?_
  · rwa [if_pos h]
  · simp only [h, if_true, and_self]

theorem State.loseStreamPath_only (h : pair = false) (hl : lost = 1) : s.loseStreamPath k path =
    (s.putEndpoint (768 + k) { e with
      lostPaths := lost
      lostNow := true
      held := [] }).raise Event.STREAM_LOST (768 + k) path := by
  refine (State.loseStreamPath_due he ha ho hpair hlost hp hb hd (all := true) (decide_eq_true ?_)).trans ?_
  · rwa [if_neg (Bool.eq_false_iff.mp h)]
  · simp only [h, if_true, Bool.false_eq_true, and_false, if_false]

end

theorem State.holdPacket_first {s : State} {e : Endpoint} {playout seq : Nat} {x : List (List Int)} (h : e.nextSeq = 0) :
    s.holdPacket e playout seq x =
      { e with held := e.held ++ [(seq, s.now + playout * 1000, x)], nextSeq := (seq + 1) % 65536 + 1 } := if_pos (.inl h)

/-! ### The tables that direct the sound (R324, R325, R333) -/

section
variable {s t : State} {sess w : Nat} {data : List Byte} {entries : List (List Byte)}

section
variable {bad : Nat → List Byte → Option Refuse} (hw : w = s.window sess Dict.AUDIO_MATRIX_CHANNEL_WINDOW)
  (he : entries = chunks 16 data.length data) (ht : t = putEntries State.putChannelEntry s w entries)
  (hb : bad = fun j row => if t.channelValid row then (t.channelRefusal j).map (fun d => .tableEntry d j)
    else some { Refuse.plain 0x06090030 0x12 with entry := j })
include hw he ht hb

theorem State.writeChannels_accepts (h : firstBad bad w entries = none) : s.writeChannels sess data = .done t := by
  subst hb ht he hw
  simp only [State.writeChannels, h]

theorem State.writeChannels_refuses {r : Refuse} (h : firstBad bad w entries = some r) :
    s.writeChannels sess data = .refused r s := by
  subst hb ht he hw
  simp only [State.writeChannels, h]

end

section
variable (hw : w = s.window sess Dict.AUDIO_MATRIX_STREAM_WINDOW) (he : entries = chunks 32 data.length data)
  (ht : t = putEntries State.setStream s w entries)
include hw he ht

theorem State.writeStreams_accepts (h : firstBad (s.judgeStream t) w entries = none) :
    s.writeStreams sess data = .done t.settleDelay.startAlone := by
  subst ht he hw
  simp only [State.writeStreams, h]

theorem State.writeStreams_refuses {r : Refuse} (h : firstBad (s.judgeStream t) w entries = some r) :
    s.writeStreams sess data = .refused r s := by
  subst ht he hw
  simp only [State.writeStreams, h]

end

variable (ht : t = s.wrDom Dict.AUDIO_MATRIX_HEAD_MAP data)
include ht

theorem State.writeHeadMap_misnamed {r : Refuse} (h : allHeads.findSome? (t.judgeHeadMap data) = some r) :
    s.writeHeadMap data = .refused r s := by
  subst ht
  simp only [State.writeHeadMap, h]

variable (h : allHeads.findSome? (t.judgeHeadMap data) = none)
include h

theorem State.writeHeadMap_unfit (ha : t.audioAllOff = false) (hf : s.delayFits = false) :
    s.writeHeadMap data = .refused (.rule 0x14) s := by
  subst ht
  simp only [State.writeHeadMap, h, ha, hf, Bool.not_false, Bool.and_true, if_true]

theorem State.writeHeadMap_fits (hf : t.audioAllOff = true ∨ s.delayFits = true) :
    s.writeHeadMap data = .done t.settleDelay := by
  have hx : (!t.audioAllOff && !s.delayFits) = false := by
    rcases hf with hf | hf <;> simp [hf]
  subst ht
  simp only [State.writeHeadMap, h, hx, Bool.false_eq_true, if_false]

end

theorem State.setMatrixRate_eq {s w : State} {v : Nat} (hw : w = s.wr Dict.AUDIO_MATRIX_MATRIX_RATE_NUM v) :
    s.setMatrixRate v =
      { w with audio := { w.audio with next := w.sampleFrom w.timebase, lines := [], startAt := 0 } } := by
  simp only [State.setMatrixRate, ← hw]

/-- Settles O42: the stages of a sample frame in their order, what the packets of a stream leave, and the judgement of
each table. -/
theorem soundMatrixAndStreams : Obligations.SoundMatrixAndStreams := by
  refine ⟨fun s saps inputs => ?_, fun s k path seq x => ?_, fun s e playout seq x h _ => State.holdPacket_first h,
    fun s k path => ?_, fun s k data => ?_, fun s k data => ?_, fun s k data => ?_, fun s k v => ?_⟩
  · exact fun h3 h5 => ⟨fun h => congrArg Host.Outcome.next (State.sampleFrame_due h3 h5 rfl h rfl rfl rfl rfl),
      fun h => congrArg Host.Outcome.next (State.sampleFrame_early h)⟩
  · exact fun ha ho hp => ⟨
      fun hs hl => congrArg Host.Outcome.next (State.takePacket_runs rfl ha ho rfl hp rfl hs hl),
      fun h => congrArg Host.Outcome.next (State.takePacket_starts rfl ha ho rfl hp rfl h)⟩
  · exact fun ha ho hp hb hd => ⟨
      fun h hl => congrArg Host.Outcome.next (State.loseStreamPath_one rfl ha ho rfl rfl hp hb hd h hl),
      fun h hl => congrArg Host.Outcome.next (State.loseStreamPath_both rfl ha ho rfl rfl hp hb hd h hl),
      fun h hl => congrArg Host.Outcome.next (State.loseStreamPath_only rfl ha ho rfl rfl hp hb hd h hl)⟩
  · exact fun hp => ⟨
      fun h => congrArg Host.Outcome.next (State.writeBlock_accepts hp (State.writeChannels_accepts rfl rfl rfl rfl h)),
      fun r h => congrArg Host.Outcome.next (State.writeBlock_refuses hp (State.writeChannels_refuses rfl rfl rfl rfl h))⟩
  · exact fun hp => ⟨
      fun h => congrArg Host.Outcome.next (State.writeBlock_accepts hp (State.writeStreams_accepts rfl rfl rfl h)),
      fun r h => congrArg Host.Outcome.next (State.writeBlock_refuses hp (State.writeStreams_refuses rfl rfl rfl h))⟩
  · exact fun hp => ⟨
      fun r h => congrArg Host.Outcome.next (State.writeBlock_refuses hp (State.writeHeadMap_misnamed rfl h)),
      fun h ha hf => congrArg Host.Outcome.next (State.writeBlock_refuses hp (State.writeHeadMap_unfit rfl h ha hf)),
      fun h hf => congrArg Host.Outcome.next (State.writeBlock_accepts hp (State.writeHeadMap_fits rfl h hf))⟩
  · exact ⟨fun hp => congrArg Host.Outcome.next (State.writeScalar_accepts hp
        (congrArg Effect.done (State.setMatrixRate_eq rfl))),
      fun hp => congrArg Host.Outcome.next (State.writeScalar_accepts hp rfl)⟩

end Sys2Proof.Machine
end

-- ==== Proofs: the store tier and DRAM (R348 to R364) ====
section
/-! PROOFS. Parity, channels that sleep, and O43. -/
namespace Sys2Proof.Machine
open Sys2Proof
set_option Elab.async false

/-! ### The partitions of the store tier and its errors (R348 to R351) -/

section
variable {s w : State} {v sum : Nat}

/-- The Lining has what SCAN and STAGE leave. -/
theorem State.writePartition_fits {stage : Bool} (hw : w = if stage then s.wr Dict.STORE_TIER_STAGE_MIB v else
      s.wr Dict.STORE_TIER_SCAN_MIB v) (hs : sum = w.rd Dict.STORE_TIER_SCAN_MIB + w.rd Dict.STORE_TIER_STAGE_MIB)
    (h : sum ≤ 336) : s.writePartition stage v = .done (w.wr Dict.STORE_TIER_LINING_MIB (336 - sum)) := by
  subst hs hw
  exact if_neg (Bool.eq_false_iff.mp (decide_eq_false (Nat.not_lt.mpr h)))

theorem State.writePartition_over {stage : Bool} (hw : w = if stage then s.wr Dict.STORE_TIER_STAGE_MIB v else
      s.wr Dict.STORE_TIER_SCAN_MIB v) (hs : sum = w.rd Dict.STORE_TIER_SCAN_MIB + w.rd Dict.STORE_TIER_STAGE_MIB)
    (h : 336 < sum) : s.writePartition stage v = .refused (.atField 0x80 0x3200 (if stage then 2 else 1)) s := by
  subst hs hw
  exact if_pos (decide_eq_true h)

end

section
variable {s : State} {w : StoreWord} {base stripe slice row : Nat} (ha : s.alive = true)
  (hb : base = s.partitionBase (partitionOf w.hit)) (hst : stripe = (base + w.offset) / 4) (hsl : slice = stripe % 64)
  (hr : row = (17 * slice + w.bank) * 8192 + w.row)
include ha hb hst hsl hr

theorem State.storeError_corrected : s.storeError w false = (((s.inc Dict.STORE_TIER_CORRECTED).raise Event.STORE_CORRECTED
    slice stripe).noteCorrected).rowCorrected 2 row := by
  subst hr hsl hst hb
  exact if_pos ha

theorem State.storeError_lost : s.storeError w true = (((s.inc Dict.STORE_TIER_UNCORRECTABLE).raise Event.STORE_UNCORRECTABLE
    (partitionOf w.hit) w.offset).hitStore w.offset w.hit).hardFault 2 row 2 := by
  subst hr hsl hst hb
  exact if_pos ha

end

/-! ### DRAM: parity and channels (R353 to R357) -/

theorem zero_xor_byte (a : Byte) : 0 ^^^ a = a := BitVec.zero_xor

theorem foldl_xor (l : List Byte) : ∀ a : Byte, l.foldl (· ^^^ ·) a = a ^^^ parityOf l := by
  induction l with
  | nil => exact fun a => (BitVec.xor_zero (x := a)).symm
  | cons b l ih => exact fun a => (ih (a ^^^ b)).trans ((BitVec.xor_assoc ..).trans (congrArg (a ^^^ ·)
      (((ih (0 ^^^ b)).trans (by rw [zero_xor_byte])).symm)))

theorem parityOf_cons (a : Byte) (l : List Byte) : parityOf (a :: l) = a ^^^ parityOf l :=
  (foldl_xor l (0 ^^^ a)).trans (by rw [zero_xor_byte])

/-- A byte and the parity of the others make the parity of all. -/
theorem parityOf_eraseIdx : ∀ (l : List Byte) (j : Nat) (h : j < l.length), parityOf l = l[j] ^^^ parityOf (l.eraseIdx j)
  | a :: l, 0, _ => parityOf_cons a l
  | a :: l, j + 1, h => by
    have ih := parityOf_eraseIdx l j (Nat.lt_of_succ_lt_succ h)
    rw [List.eraseIdx_cons_succ, parityOf_cons, parityOf_cons, ih, List.getElem_cons_succ, ← BitVec.xor_assoc,
      BitVec.xor_comm a, BitVec.xor_assoc]

theorem rebuiltByte_eq (l : List Byte) (j : Nat) (h : j < l.length) : rebuiltByte l (parityOf l) j = l[j] := by
  rw [rebuiltByte, parityOf_cons, parityOf_eraseIdx l j h, BitVec.xor_assoc, BitVec.xor_self, BitVec.xor_zero]

/-- The parity of a stripe lies in the group of its data, on another channel. -/
theorem State.stripeChannel_parity (s : State) (a : Nat) : s.stripeChannel a true / 8 = s.stripeChannel a false / 8 ∧
    s.stripeChannel a true ≠ s.stripeChannel a false := by
  simp only [State.stripeChannel, if_true, Bool.false_eq_true, if_false]
  generalize (s.liveGroups[a / 1792 % max 1 s.liveGroups.length]?).getD 0 = g
  generalize hp : a / 1792 / max 1 s.liveGroups.length % 8 = p
  have hp : p < 8 := hp ▸ Nat.mod_lt _ (by decide)
  have hj : a % 1792 / 256 < 7 := by omega
  split <;> omega

/-! ### What an uncorrectable error of DRAM hits (R358) -/

theorem State.hitDram_region (s : State) (a : Nat) (h : a < s.dramSetting 4 * 1048576) (x : Nat) :
    (s.hitDram (.region a)).hostByte x = if a / 8 * 8 ≤ x ∧ x < a / 8 * 8 + 8 then 0 else s.hostByte x := by
  have hx : s.hitDram (.region a) = s.setHostBytes (a / 8 * 8) (zeros 8) := if_pos h
  have hl : (zeros 8).length = 8 := List.length_replicate
  rw [hx]
  split
  · next hin =>
    obtain ⟨i, rfl⟩ := Nat.exists_eq_add_of_le hin.1
    have hi : i < 8 := by omega
    have hr := State.setHostBytes_read (zeros 8) (a / 8 * 8) s i (by rwa [hl])
    exact Option.some.inj (hr.trans (List.getElem?_replicate_of_lt hi))
  · next hout => exact State.setHostBytes_other _ _ _ _ (by omega)

theorem State.hitDram_inputFrame (s : State) (n : Fin 64) (frame : Nat) : let t := s.hitDram (.inputFrame n frame)
    (t.inputAt n).frames = (s.inputAt n).frames.filter (fun f => f.number != frame) ∧
    t.rd Dict.INPUT_FRAMES_DAMAGED n = (s.inc Dict.INPUT_FRAMES_DAMAGED n).rd Dict.INPUT_FRAMES_DAMAGED n :=
  ⟨congrArg Input.frames (State.putInput_inputAt ..), (State.inc_rd_self ..).trans
    ((congrArg (fun x => (x + 1) % _) (State.putInput_rd ..)).trans (State.inc_rd_self ..).symm)⟩

section
variable {s : State} {w : DramWord} {m row : Nat} (ha : s.alive = true)
  (hm : m = if s.codewordGuarded w.hit then s.stripeChannel w.address w.parity else s.openChannel w.address)
  (hr : row = m * 524288 + w.row % 524288)
include ha hm hr

theorem State.dramError_corrected {c : State} (hc : c = (s.inc Dict.DRAM_CORRECTED).raise Event.DRAM_CORRECTED m w.row) :
    s.dramError w false = ({ c with life := { c.life with
      dramCorrections := Store.change (fun _ => 0) c.life.dramCorrections m (· + 1) } } : State).noteCorrected.rowCorrected
        5 row := by
  subst hc hr hm
  exact if_pos ha

variable {u : State} (hu : u = s.inc Dict.DRAM_UNCORRECTABLE)
include hu

theorem State.dramError_guarded (hg : u.codewordGuarded w.hit = true) : s.dramError w true = u.hardFault 5 row 2 := by
  subst hu hr hm
  exact (if_pos ha).trans (congrArg (fun x : State => x.hardFault 5 _ 2) (if_pos hg))

theorem State.dramError_hits (hg : u.codewordGuarded w.hit = false) : s.dramError w true =
    ((u.hitDram w.hit).raise Event.DRAM_UNCORRECTABLE m (w.address / 1048576)).hardFault 5 row 2 := by
  subst hu hr hm
  exact (if_pos ha).trans (congrArg (fun x : State => x.hardFault 5 _ 2) (if_neg (Bool.eq_false_iff.mp hg)))

end

/-! ### Channels that sleep, and their centring (R361 to R364) -/

section
variable {s : State}

theorem State.rowRemapped_ends {m row : Nat} (ha : s.alive = true)
    (h : s.resil.copying.any (fun e => e.1 == unitCode 5 (m * 524288 + row)) = true) :
    s.rowRemapped m row = (s.endRemap m row).endCopy 5 (m * 524288 + row) := if_pos ⟨ha, h⟩

theorem State.rowRemapped_none {m row : Nat}
    (h : s.resil.copying.any (fun e => e.1 == unitCode 5 (m * 524288 + row)) = false) : s.rowRemapped m row = s :=
  if_neg fun hx => Bool.noConfusion (h.symm.trans hx.2)

theorem State.cycleDue_iff (s : State) (cause : DramWake) : s.cycleDue cause = true ↔ match cause with
    | .timer => s.dram.cycleAt = 0 ∨ s.since s.dram.cycleAt (s.cycleUs * 1000) = true
    | .gather _ fill => 32768 ≤ fill
    | .fifo h fill => (s.headAt h).running = true ∧ s.headRd h Dict.HEAD_BUFFER_MODE = 1 ∧ fill ≤ s.fifoFloor h := by
  cases cause with
  | timer => simp [State.cycleDue]
  | gather n fill => simp [State.cycleDue]
  | fifo h fill => simp [State.cycleDue, and_assoc]

theorem State.startCycle_due {cause : DramWake} (hr : s.dramRuns = true) (ha : s.dramAwake = false)
    (h : s.cycleDue cause = true) : s.startCycle cause = { s with dram := { s.dram with
      cycleAt := s.now + 1, channel := s.dram.channel.filter (fun e => e.2 != 1) } } := if_pos ⟨hr, congrArg not ha, h⟩

theorem State.startCycle_early {cause : DramWake} (h : ¬s.cycleDue cause = true) : s.startCycle cause = s :=
  if_neg fun hx => h hx.2.2

theorem State.sleepChannels_due (hr : s.dramRuns = true) (ha : s.dramAwake = false)
    (h : s.dram.cycleAt = 0 ∨ s.since s.dram.cycleAt ((15 + s.dramPower 2) * 1000) = true) : s.sleepChannels =
      (List.range 24).foldl (fun s m => if s.dramChannel m = 0 then s.setChannel m 1 else s) s :=
  if_pos ⟨hr, congrArg not ha, h⟩

theorem State.sleepChannels_kept (h : s.dramAwake = true ∨
    ¬(s.dram.cycleAt = 0 ∨ s.since s.dram.cycleAt ((15 + s.dramPower 2) * 1000) = true)) : s.sleepChannels = s :=
  if_neg fun ⟨_, ha, hi⟩ => h.elim (fun h => Bool.noConfusion ((congrArg not h).symm.trans ha)) fun h => h hi

/-- What each step settles for its own item and keeps for the others is settled for all items in the end. -/
theorem foldl_settles {P : State → Nat → Prop} {f : State → Nat → State} (hf : ∀ s m k, P s k ∨ k = m → P (f s m) k)
    (l : List Nat) : ∀ s k, P s k ∨ k ∈ l → P (l.foldl f s) k := by
  induction l with
  | nil => exact fun s k h => h.resolve_right List.not_mem_nil
  | cons m l ih =>
    refine fun s k h => ih _ k ?_
    rcases h with h | h
    · exact .inl (hf s m k (.inl h))
    · exact (List.mem_cons.mp h).imp (fun hk => hf s m k (.inr hk)) id

theorem State.setChannel_dramChannel (s : State) (m v k : Nat) :
    (s.setChannel m v).dramChannel k = if k = m then v else s.dramChannel k := Store.read_write ..

/-- Putting a channel to sleep leaves none of it in use, and wakes no other. -/
theorem State.sleepChannel_ne (s : State) (m k : Nat) (h : s.dramChannel k ≠ 0 ∨ k = m) :
    (if s.dramChannel m = 0 then s.setChannel m 1 else s).dramChannel k ≠ 0 := by
  split
  · rw [State.setChannel_dramChannel]
    split
    · exact Nat.one_ne_zero
    · next hk => exact h.resolve_right hk
  · next hm => exact h.elim id fun hk => hk ▸ hm

theorem State.sleepChannels_all (s : State) {k : Nat} (hk : k < 24) :
    ((List.range 24).foldl (fun s m => if s.dramChannel m = 0 then s.setChannel m 1 else s) s).dramChannel k ≠ 0 :=
  foldl_settles (P := fun s k => s.dramChannel k ≠ 0) State.sleepChannel_ne _ s k (.inr (List.mem_range.mpr hk))

theorem State.recentre_due {failed : List Nat} (hr : s.dramRuns = true)
    (h : s.dram.recentreAt = 0 ∨ s.since s.dram.recentreAt 100000000 = true) : s.recentre failed =
      (List.range 24).foldl (fun s m => if m ∈ failed ∧ s.dramChannel m ≠ 3 then s.fault 6 m else s)
        { s with dram := { s.dram with recentreAt := s.now + 1 } } := by
  refine (if_pos ⟨hr, h⟩).trans ?_
  simp only [List.contains_iff_mem]

theorem State.recentre_early {failed : List Nat} (h0 : s.dram.recentreAt ≠ 0)
    (h : s.since s.dram.recentreAt 100000000 = false) : s.recentre failed = s :=
  if_neg fun hx => hx.2.elim h0 fun hx => Bool.noConfusion (h.symm.trans hx)

end

/-! ### The training of DRAM ends (R360) -/

/-- DRAM is up, and trained in the way that `kind` names. -/
def State.dramUp (s : State) (kind : Nat) : State :=
  ({ (s.wr Dict.DRAM_TRAINING kind).wr Dict.DRAM_DATA_CAPACITY
      (dataCapacity (s.dramSetting 1) (s.dramSetting 2) (s.dramSetting 3)) with
    dev := { ((s.wr Dict.DRAM_TRAINING kind).wr Dict.DRAM_DATA_CAPACITY
      (dataCapacity (s.dramSetting 1) (s.dramSetting 2) (s.dramSetting 3))).dev with dramDone := true } } : State).wr
    Dict.DRAM_STATE (if (List.range 24).any (fun m => s.dramChannel m == 3) then 3 else 2)

/-- The pool is measured, and the instant of DRAM's start is noted. -/
def State.dramTold (s : State) : State := (s.wr Dict.DRAM_POOL_FREE (2 * s.poolFree)).milestone 2

/-- Channels that failed their training are lost. -/
def State.loseUntrained (s : State) (failed : List Nat) : State :=
  (List.range 24).foldl (fun s m => if failed.contains m then s.hardFault 6 m 2 else s) s

section
variable {s : State} {identity : Nat} {failed key : List Nat} (hk : key = identity :: s.dram.inForce.take 3)

theorem State.endTraining_early
    (h : s.now < s.dev.bootAt + (s.dev.startTimes[1]?).getD 0 * 1000000 + 1100000000) :
    s.endTraining identity false failed = s :=
  if_neg fun ⟨_, _, _, hx⟩ => hx.elim (fun hx => Bool.noConfusion hx) fun hx => absurd hx (Nat.not_le.mpr h)

variable (hd : s.devState = 1) (hb : s.dev.bistDone = true) (h0 : s.dev.dramDone = false)
include hd hb h0

include hk in
theorem State.endTraining_stored (h : s.dram.trained = key) : s.endTraining identity true failed =
    (s.dramUp 1).dramTold.raise Event.DRAM_TRAINED 1 ((s.dramUp 1).dramTold.msSince 1) := by
  have hs : (true && s.dram.trained == identity :: s.dram.inForce.take 3) = true := beq_iff_eq.mpr (h.trans hk)
  refine (if_pos ⟨hd, hb, h0, .inl hs⟩).trans ?_
  simp only [hs, if_true]
  rfl

/-- A full training is stored, or kept for when the floor has ended. -/
theorem State.endTraining_full (hk : key = identity :: s.dram.inForce.take 3)
    (h : s.dev.bootAt + (s.dev.startTimes[1]?).getD 0 * 1000000 + 1100000000 ≤ s.now) {w : State}
    (hw : w = if (s.dramUp 2).floor then
        { s.dramUp 2 with dram := { (s.dramUp 2).dram with training := key, trainedNew := true } }
      else { s.dramUp 2 with dram := { (s.dramUp 2).dram with training := key, trained := key } }) :
    s.endTraining identity false failed = ((w.loseUntrained failed).dramTold).raise Event.DRAM_TRAINED 2
      (((w.loseUntrained failed).dramTold).msSince 1) := by
  subst hw hk
  refine (if_pos ⟨hd, hb, h0, .inr h⟩).trans ?_
  simp only [Bool.false_and, Bool.false_eq_true, if_false]
  rfl

end

/-- Settles O43: what an error hits, the parity of stripes, the channels that sleep, and how DRAM's training ends. -/
theorem storeTierAndDram : Obligations.StoreTierAndDram := by
  refine ⟨fun s k v hp => ?_, fun s k v hp => ?_, fun s w => ?_, fun s offset line x buffer y m c h n i k => ?_,
    fun s w ha => ?_, rebuiltByte_eq, State.stripeChannel_parity, State.hitDram_region, State.hitDram_inputFrame,
    fun s k frame a => ?_, fun s m row ha => ?_, fun s cause => ?_, fun s => ?_, fun s hr ha hc t ht m hm => ?_,
    fun s failed => ?_, fun s identity failed => ?_⟩
  · exact ⟨fun h => congrArg Host.Outcome.next (State.writeScalar_accepts hp (State.writePartition_fits rfl rfl h)),
      fun h => congrArg Host.Outcome.next (State.writeScalar_refuses hp (State.writePartition_over rfl rfl h))⟩
  · exact ⟨fun h => congrArg Host.Outcome.next (State.writeScalar_accepts hp (State.writePartition_fits rfl rfl h)),
      fun h => congrArg Host.Outcome.next (State.writeScalar_refuses hp (State.writePartition_over rfl rfl h))⟩
  · intro b base stripe slice row ha
    have hb : base = b.partitionBase (partitionOf w.hit) := rfl
    exact ⟨congrArg Host.Outcome.next (State.storeError_corrected ha hb rfl rfl rfl),
      congrArg Host.Outcome.next (State.storeError_lost ha hb rfl rfl rfl)⟩
  · exact ⟨rfl, rfl, rfl, rfl, rfl, rfl, fun hb => if_pos (congrArg not hb),
      fun hb => if_neg (Bool.eq_false_iff.mp (congrArg not hb))⟩
  · exact ⟨congrArg Host.Outcome.next (State.dramError_corrected ha rfl rfl rfl),
      fun h => congrArg Host.Outcome.next (State.dramError_guarded ha rfl rfl rfl h),
      fun h => congrArg Host.Outcome.next (State.dramError_hits ha rfl rfl rfl h)⟩
  · exact congrArg Capture.holes (State.putCapture_captureAt ..)
  · exact ⟨fun h => congrArg Host.Outcome.next (State.rowRemapped_ends ha h),
      fun h => congrArg Host.Outcome.next (State.rowRemapped_none h)⟩
  · intro b woken hr ha due
    have hdue := b.cycleDue_iff cause
    exact ⟨fun h => congrArg Host.Outcome.next (State.startCycle_due hr ha (hdue.mpr h)),
      fun h => congrArg Host.Outcome.next (State.startCycle_early (mt hdue.mp h))⟩
  · exact ⟨fun hr ha h => congrArg Host.Outcome.next (State.sleepChannels_due hr ha h),
      fun _ h => congrArg Host.Outcome.next (State.sleepChannels_kept h)⟩
  · have hx : t = _ := (Host.Outcome.next.inj ht).symm.trans (State.sleepChannels_due (s := s.begin) hr ha (.inl hc))
    rw [hx]
    exact State.sleepChannels_all _ hm
  · exact fun hr => ⟨fun h => congrArg Host.Outcome.next (State.recentre_due hr h),
      fun h0 h => congrArg Host.Outcome.next (State.recentre_early h0 h)⟩
  · exact fun hd hb h0 => ⟨fun h => congrArg Host.Outcome.next (State.endTraining_stored rfl hd hb h0 h),
      fun h hf => congrArg Host.Outcome.next (State.endTraining_full hd hb h0 rfl h (if_neg (Bool.eq_false_iff.mp hf)).symm),
      fun h hf => congrArg Host.Outcome.next (State.endTraining_full hd hb h0 rfl h (if_pos hf).symm),
      fun h => congrArg Host.Outcome.next (State.endTraining_early h)⟩

end Sys2Proof.Machine
end

-- ==== Proofs: keys are written and erased (R442 to R451) ====
section
/-! PROOFS. What judges a key, and O47. -/
namespace Sys2Proof.Machine
open Sys2Proof
set_option Elab.async false

/-! ### Keys are written (R442, R443) -/

section
variable {s : State} {sess n : Nat} {key : List Byte} {rank : Nat}

theorem State.judgeKeyWrite_spare (h : s.spareOrPatch n = true) : s.judgeKeyWrite rank n key = some (.rule 0xA2) :=
  firstOf_cons_true ((Bool.or_eq_true _ _).mpr (.inl h))

theorem State.judgeKeyWrite_busy (h : s.spareOrPatch n = false) (hb : (s.namedSlot n).state ≠ .bad)
    (hf : s.floor = true ∨ s.keys.writing = true) : s.judgeKeyWrite rank n key = some (.rule 0xA3) :=
  (firstOf_cons_false (Bool.or_eq_false_iff.mpr ⟨h, by simp [hb]⟩)).trans
    (firstOf_cons_true ((Bool.or_eq_true _ _).mpr hf))

theorem State.writeKey_refused {r : Refuse} (h : s.judgeKeyWrite (s.sessAt sess).rights.rank n key = some r) :
    s.writeKey sess n key = .refused r s := by
  simp only [State.writeKey, h]

section
variable {w : State} {m root : Nat} {a : Slot} (h : s.judgeKeyWrite rank n key = none)
  (hr : rank = (s.sessAt sess).rights.rank) (hw : w = if (s.namedSlot n).state = .bad then s.patchSlot n else s)
  (hm : m = w.storageOf n) (ha : a = w.slotAt m) (hroot : root = (w.bindRoot rank (w.rd Dict.KEY_SLOT_ROOT n)).getD 0)
  {incoming : Option (List Byte × Nat × Nat × Nat × Nat)}
  (hi : incoming = some (key, w.rd Dict.KEY_SLOT_ATTRIBUTE n, w.rd Dict.KEY_SLOT_ALGORITHM n, w.rd Dict.KEY_SLOT_OWNER n,
    root))
include h hr hw hm ha hroot hi

/-- A key that is written directly loads at once. -/
theorem State.writeKey_direct {direct : State} (hd : direct = w.putSlot m { a with
      incoming := incoming
      former := a.state
      state := .loading }) (hx : w.atomicKeys = false) : s.writeKey sess n key = .done ({ direct with keys := { direct.keys with
      writing := true, writingSlot := n, writingSess := 0xFF, writer := sess } } : State).judgeKeys := by
  subst hr hd hi hroot ha hm
  simp only [State.writeKey, h, ← hw, hx, Bool.false_eq_true, if_false]

theorem State.writeKey_atomic {atomic : State} (hd : atomic = w.putSlot m { a with
      incoming := incoming
      former := a.state }) (hx : w.atomicKeys = true) : s.writeKey sess n key = .waits { atomic with keys := { atomic.keys with
      writing := true, writingSlot := n, writingSess := sess, writer := sess } } := by
  subst hr hd hi hroot ha hm
  simp only [State.writeKey, h, ← hw, hx, if_true]

end

/-! ### The write ends (R442, R443, R451) -/

section
variable {m : Nat} {a : Slot} (hn : n = s.keys.writingSlot) {b : State} (hb : s = b.actBy b.keys.writer)
include hn hb

theorem State.commitKey_slot (h72 : n < 72) (hm : m = s.storageOf n) (ha : a = s.slotAt m)
    {attr alg owner root : Nat} (hi : a.incoming = some (key, attr, alg, owner, root)) : b.commitKey =
      ((((s.putSlot m ({ a with
        state := if a.serves = 0xFF then .loaded else .patch
        key := key
        attr := attr
        algorithm := alg
        owner := owner
        root := root
        generation := s.keys.fuses
        kcv := keyCheck alg key
        writes := a.writes + 1
        incoming := none } : Slot).sealed).answerKeyWrite.raise Event.KEY_WRITTEN n (keyCheck alg key)).judgeKeys).rekeyFor n) := by
  subst ha hm hn
  simp only [State.commitKey, ← hb, h72, if_true, hi]

theorem State.commitKey_hdcp (h72 : 72 ≤ n) {data wrap : List Byte} (hi : s.keys.hdcpIncoming = some (data, wrap)) {w : State}
    (hw : w = { s with keys := { s.keys with
      hdcpKeys := data, hdcpWrap := wrap, hdcpKcv := keyCheck 0 (data.take 16), hdcpIncoming := none } }) :
    b.commitKey = (w.answerKeyWrite.raise Event.HDCP_KEYS_LOADED
      (w.rd Dict.KEY_STORE_HDCP_WRAP_SLOT) (keyCheck 0 (data.take 16))).judgeHdcp := by
  subst hw hn
  simp only [State.commitKey, ← hb, Nat.not_lt.mpr h72, if_false, hi]

end

/-- The session that waited for a key is answered, and none is any more. -/
theorem State.answerKeyWrite_spec (s : State) : let t := s.answerKeyWrite
    t.keys.writing = false ∧ t.keys.writingSess = 0xFF ∧ (s.keys.writingSess = 0xFF → t.wire = s.wire) ∧
    (s.keys.writingSess ≠ 0xFF → WireItem.response ⟨s.keys.writingSess, 0, 0, [], false⟩ ∈ t.wire) := by
  let w : State := { s with keys := { s.keys with writing := false, writingSess := 0xFF } }
  have hx : s.answerKeyWrite = if s.keys.writingSess = 0xFF then w else w.respond s.keys.writingSess s.keyIndex [] false := rfl
  have hk : s.answerKeyWrite.keys = w.keys := by
    rw [hx]
    split
    · rfl
    · exact State.answer_keys ..
  refine ⟨congrArg KeyStore.writing hk, congrArg KeyStore.writingSess hk, fun h => ?_, fun h => ?_⟩
  · rw [hx, if_pos h]
  · rw [hx, if_neg h]
    exact State.answer_wire w ..

/-! ### Keys are erased (R445) -/

section
variable (hs : s.spareOrPatch n = false)

theorem State.eraseKey_spare (h : s.spareOrPatch n = true) : s.eraseKey sess n = .refused (.rule 0xA2) s := by
  simp only [State.eraseKey, h, firstOf_cons_true]

include hs

theorem State.eraseKey_busy (h : s.floor = true ∨ s.keys.writing = true) : s.eraseKey sess n = .refused (.rule 0xA3) s := by
  simp only [State.eraseKey, hs, (Bool.or_eq_true _ _).mpr h, firstOf_cons_false, firstOf_cons_true]

variable (hf : s.floor = false) (hw : s.keys.writing = false)
include hf hw

theorem State.eraseKey_lowly (h : (s.sessAt sess).rights.rank < s.presentOwner n) :
    s.eraseKey sess n = .refused (.rule 0xA0) s := by
  simp only [State.eraseKey, hs, hf, hw, Bool.or_false, decide_eq_true h, firstOf_cons_false, firstOf_cons_true]

variable (ho : s.presentOwner n ≤ (s.sessAt sess).rights.rank)
include ho

theorem State.eraseKey_wraps (h : s.wrapsHdcp n = true) : s.eraseKey sess n = .refused (.rule 0xA6) s := by
  simp only [State.eraseKey, hs, hf, hw, Bool.or_false, decide_eq_false (Nat.not_lt.mpr ho), h, firstOf_cons_false,
    firstOf_cons_true]

/-- An erased slot keeps whom it serves and how often it was written. -/
theorem State.eraseKey_erases {st : SlotState} {m : Nat} {a : Slot} (h : s.wrapsHdcp n = false) (hm : m = s.storageOf n)
    (ha : a = s.slotAt m) (hst : (if a.state = .bad then SlotState.bad else if a.serves = 0xFF then .empty else .patch) = st) :
    s.eraseKey sess n = .done ((((s.putSlot m { Slot.init with
      state := st
      serves := a.serves
      writes := a.writes }).raise Event.KEY_ERASED n 0).judgeKeys).rekeyFor n) := by
  subst hst ha hm
  simp only [State.eraseKey, hs, hf, hw, Bool.or_false, decide_eq_false (Nat.not_lt.mpr ho), h, firstOf_cons_false, firstOf_nil]

end

/-! ### The keys of HDCP (R451) -/

theorem State.judgeHdcpWrite_unfit {data : List Byte} (hn : n = s.rd Dict.KEY_STORE_HDCP_WRAP_SLOT)
    (h : s.usable n = false ∨ (s.namedSlot n).attr ≠ 2 ∨ (s.namedSlot n).algorithm ≠ 1) :
    s.judgeHdcpWrite data = some (.atField 0xA6 0x3400 7) := by
  subst hn
  refine firstOf_cons_true ?_
  rcases h with h | h | h
  · simp [h]
  · simp [beq_false_of_ne h]
  · simp [beq_false_of_ne h]

theorem State.writeHdcpKeys_refused {data : List Byte} {r : Refuse} (h : s.judgeHdcpWrite data = some r) :
    s.writeHdcpKeys sess data = .refused r s := by
  simp only [State.writeHdcpKeys, h]

section
variable {data : List Byte} {w : Nat → State} (hw : w = fun k => { s with keys := { s.keys with
  writing := true
  writingSlot := 72
  writingSess := k
  writer := sess
  hdcpIncoming := some (data, s.keyOf (s.rd Dict.KEY_STORE_HDCP_WRAP_SLOT)) } })
  (h : s.judgeHdcpWrite data = none)
include hw h

theorem State.writeHdcpKeys_atomic (ha : s.atomicKeys = true) : s.writeHdcpKeys sess data = .waits (w sess) := by
  subst hw
  simp only [State.writeHdcpKeys, h, ha, if_true]

theorem State.writeHdcpKeys_direct (ha : s.atomicKeys = false) : s.writeHdcpKeys sess data = .done (w 0xFF).judgeHdcp := by
  subst hw
  simp only [State.writeHdcpKeys, h, ha, Bool.false_eq_true, if_false]

end
end

/-- Settles O47: what judges a key, what its write leaves before and after, and what an erasure keeps. -/
theorem keysWritten : Obligations.KeysWritten := by
  refine ⟨fun s k n key => ?_, fun s rank n key => ⟨State.judgeKeyWrite_spare, State.judgeKeyWrite_busy⟩, fun s hd => ?_,
    fun a => ⟨rfl, rfl, rfl, rfl⟩, State.answerKeyWrite_spec, fun s k n v => ?_, fun s k data => ?_⟩
  · exact fun hp => ⟨fun r h => congrArg Host.Outcome.next (State.writeBlock_refuses hp (State.writeKey_refused h)),
      fun h hx => congrArg Host.Outcome.next (State.writeBlock_accepts hp
        (State.writeKey_direct h rfl rfl rfl rfl rfl rfl rfl hx)),
      fun h hx => congrArg Host.Outcome.next (State.writeBlock_waits hp
        (State.writeKey_atomic h rfl rfl rfl rfl rfl rfl rfl hx))⟩
  · exact ⟨fun h => congrArg Host.Outcome.next (if_neg fun hx => Bool.noConfusion (h.symm.trans hx.2)),
      fun h => ⟨fun key attr alg owner root h72 hi => congrArg Host.Outcome.next ((if_pos ⟨hd, h⟩).trans
          (State.commitKey_slot rfl rfl h72 rfl rfl hi)),
        fun data wrap h72 hi => congrArg Host.Outcome.next ((if_pos ⟨hd, h⟩).trans
          (State.commitKey_hdcp rfl rfl h72 hi rfl))⟩⟩
  · exact fun hp => ⟨fun h => congrArg Host.Outcome.next (State.writeScalar_refuses hp (State.eraseKey_spare h)),
      fun hs h => congrArg Host.Outcome.next (State.writeScalar_refuses hp (State.eraseKey_busy hs h)),
      fun hs hf hw => ⟨fun h => congrArg Host.Outcome.next (State.writeScalar_refuses hp (State.eraseKey_lowly hs hf hw h)),
        fun ho => ⟨
          fun h => congrArg Host.Outcome.next (State.writeScalar_refuses hp (State.eraseKey_wraps hs hf hw ho h)),
          fun h hb => congrArg Host.Outcome.next (State.writeScalar_accepts hp
            (State.eraseKey_erases hs hf hw ho h rfl rfl (if_pos hb))),
          fun h hb he => congrArg Host.Outcome.next (State.writeScalar_accepts hp
            (State.eraseKey_erases hs hf hw ho h rfl rfl ((if_neg hb).trans (if_pos he)))),
          fun h hb he => congrArg Host.Outcome.next (State.writeScalar_accepts hp
            (State.eraseKey_erases hs hf hw ho h rfl rfl ((if_neg hb).trans (if_neg he))))⟩⟩⟩
  · exact fun hp => ⟨
      fun h => congrArg Host.Outcome.next (State.writeBlock_refuses hp
        (State.writeHdcpKeys_refused (State.judgeHdcpWrite_unfit rfl h))),
      fun r h => congrArg Host.Outcome.next (State.writeBlock_refuses hp (State.writeHdcpKeys_refused h)),
      fun h ha => congrArg Host.Outcome.next (State.writeBlock_waits hp (State.writeHdcpKeys_atomic rfl h ha)),
      fun h ha => congrArg Host.Outcome.next (State.writeBlock_accepts hp (State.writeHdcpKeys_direct rfl h ha))⟩

end Sys2Proof.Machine
end

-- ==== Proofs: the life-cycle and zeroisation (R441 to R449) ====
section
/-! PROOFS. What zeroisation does to the slots, and O48. -/
namespace Sys2Proof.Machine
open Sys2Proof
set_option Elab.async false

/-! ### The life-cycle (R441) -/

section
variable {s : State} {v : Nat} {spent : State} (hs : spent = { s with keys := { s.keys with challenge := none } })

theorem lifecycleMoves_iff (a b : Nat) : lifecycleMoves a b = true ↔
    (a = 1 ∧ b = 2) ∨ (a = 2 ∧ b = 3) ∨ (a = 3 ∧ b = 2) ∨ (b = 4 ∧ 1 ≤ a ∧ a ≤ 3) := by
  simp [lifecycleMoves, or_assoc, and_assoc]

include hs

theorem State.confirmLifecycle_busy (h : s.floor = true ∨ s.keys.writing = true) :
    s.confirmLifecycle v = .refused (.rule 0xA3) spent := by
  subst hs
  have hx : (State.floor { s with keys := { s.keys with challenge := none } } || s.keys.writing) = true :=
    (Bool.or_eq_true _ _).mpr h
  simp only [State.confirmLifecycle, hx, firstOf_cons_true]

/-- What is amiss with a confirmation, once none is in its way. -/
def State.confirmFails (s : State) (v : Nat) : Bool :=
  !(s.keys.challenge == some v && decide (s.now ≤ s.keys.challengeAt + 10 * nsPerS)) || !s.standbyLike ||
    s.keys.transition.isSome || !lifecycleMoves s.keys.lifecycle (s.rd Dict.LIFECYCLE_TARGET)

omit hs in
theorem State.confirmFails_false : s.confirmFails v = false ↔ s.keys.challenge = some v ∧
    s.now ≤ s.keys.challengeAt + 10000000000 ∧ s.standbyLike = true ∧ s.keys.transition = none ∧
    lifecycleMoves s.keys.lifecycle (s.rd Dict.LIFECYCLE_TARGET) = true := by
  simp [State.confirmFails, nsPerS, and_assoc]

variable (hf : s.floor = false) (hw : s.keys.writing = false)
include hf hw

omit hs in
theorem State.confirmLifecycle_free :
    (State.floor { s with keys := { s.keys with challenge := none } } || s.keys.writing) = false :=
  Bool.or_eq_false_iff.mpr ⟨hf, hw⟩

theorem State.confirmLifecycle_fails (h : s.confirmFails v = true) : s.confirmLifecycle v = .refused (.rule 0xA5) spent := by
  subst hs
  have h' : (!(s.keys.challenge == some v && decide (s.now ≤ s.keys.challengeAt + 10 * nsPerS)) ||
      !State.standbyLike { s with keys := { s.keys with challenge := none } } ||
      s.keys.transition.isSome || !lifecycleMoves s.keys.lifecycle (s.rd Dict.LIFECYCLE_TARGET)) = true := h
  simp only [State.confirmLifecycle, State.confirmLifecycle_free hf hw, firstOf_cons_false, h', firstOf_cons_true]

omit hs in
theorem State.confirmLifecycle_starts (h : s.confirmFails v = false) : s.confirmLifecycle v =
    .done { s with keys := { s.keys with
      challenge := none, transition := some (s.rd Dict.LIFECYCLE_TARGET), writer := s.actor } } := by
  have h' : (!(s.keys.challenge == some v && decide (s.now ≤ s.keys.challengeAt + 10 * nsPerS)) ||
      !State.standbyLike { s with keys := { s.keys with challenge := none } } ||
      s.keys.transition.isSome || !lifecycleMoves s.keys.lifecycle (s.rd Dict.LIFECYCLE_TARGET)) = false := h
  simp only [State.confirmLifecycle, State.confirmLifecycle_free hf hw, firstOf_cons_false, h', firstOf_nil]

end

/-! ### The transition ends (R441, R446) -/

section
variable {s b : State} (hb : b = s.actBy s.keys.writer)
include hb

theorem State.completeLifecycle_none (h : b.keys.transition = none) : s.completeLifecycle = b := by
  subst hb
  simp only [State.completeLifecycle, h]

theorem State.completeLifecycle_moves {t : Nat} (h : b.keys.transition = some t) (h4 : t ≠ 4) : s.completeLifecycle =
    (((({ b with keys := { b.keys with lifecycle := t, transition := none } } : State).raise Event.LIFECYCLE_CHANGED t
      b.keys.lifecycle).dropAll 4).judgeKeys) := by
  subst hb
  simp only [State.completeLifecycle, h]

theorem State.completeLifecycle_end (h : b.keys.transition = some 4) : s.completeLifecycle =
    (((({ b with keys := { b.keys with transition := none } } : State).zeroise 0).reachEnd 1).judgeKeys) := by
  subst hb
  simp only [State.completeLifecycle, h]

end

/-! ### Zeroisation (R446 to R449) -/

theorem State.putSlot_slotAt (s : State) (m : Nat) (a : Slot) (k : Nat) :
    (s.putSlot m a).slotAt k = if k = m then a else s.slotAt k := Store.read_write ..

theorem State.clearKeys_slot (s : State) {k : Nat} (hk : k < 72) :
    ((s.clearKeys).slotAt k).key = [] ∧ ((s.clearKeys).slotAt k).incoming = none := by
  refine foldl_settles (P := fun s k => (s.slotAt k).key = [] ∧ (s.slotAt k).incoming = none) (fun u m j h => ?_) _ s k
    (.inr (List.mem_range.mpr hk))
  dsimp only
  split
  · next hx => exact h.elim id fun hj => hj ▸ ⟨List.isEmpty_iff.mp hx.1, Option.isNone_iff_eq_none.mp hx.2.2⟩
  · rw [State.putSlot_slotAt]
    split
    · exact ⟨rfl, rfl⟩
    · next hj => exact h.resolve_right hj

/-- A slot that is overwritten is stale no longer. -/
theorem State.overwriteSlots_stale (s : State) {k : Nat} (hk : k < 72) : (State.slotAt ((List.range 72).foldl (fun s k =>
    let a := s.slotAt k
    match a.state with
    | .stale => s.putSlot k { Slot.init with
        state := if a.serves = 0xFF then .empty else .patch, serves := a.serves, writes := a.writes }
    | _ => s) s) k).state ≠ .stale := by
  refine foldl_settles (P := fun s k => (s.slotAt k).state ≠ .stale) (fun u m j h => ?_) _ s k
    (.inr (List.mem_range.mpr hk))
  dsimp only
  split
  · rw [State.putSlot_slotAt]
    split
    · dsimp only
      split <;> simp
    · next hj => exact h.resolve_right hj
  · next hx => exact h.elim id fun hj => hj ▸ hx

theorem State.dropRights_keys (s : State) (k cause : Nat) : (s.dropRights k cause).keys = s.keys :=
  iteInduction (motive := fun u : State => u.keys = s.keys)
    (fun _ => iteInduction (motive := fun u : State => u.keys = s.keys) (fun _ => rfl) fun _ => rfl) fun _ => rfl

theorem State.dropAll_keys (s : State) (cause : Nat) : (s.dropAll cause).keys = s.keys :=
  foldl_same State.keys s fun u k => u.dropRights_keys k cause

/-- Once its end is reached, the key store is of life-cycle END. -/
theorem State.reachEnd_keys (s : State) (cause : Nat) :
    (s.reachEnd cause).keys.lifecycle = 4 ∧ (s.reachEnd cause).keys.endFuse = true := by
  have hk (u : State) : (((u.raise Event.LIFECYCLE_CHANGED 4 s.keys.lifecycle).raise Event.KEY_STORE_END cause 0).dropAll
      4).keys = u.keys := State.dropAll_keys ..
  unfold State.reachEnd
  extract_lets old _ w
  have hw : w.keys.lifecycle = 4 ∧ w.keys.endFuse = true := ⟨rfl, rfl⟩
  split
  · exact hw
  · split
    · rw [hk]
      exact hw
    · exact hw

section
variable {s : State}

theorem State.burnFuse_burns (h : s.keys.fuses < 15) :
    s.burnFuse = { s with keys := { s.keys with fuses := s.keys.fuses + 1 } } := if_pos h

theorem State.burnFuse_end (h : 15 ≤ s.keys.fuses) : s.burnFuse.keys.lifecycle = 4 ∧ s.burnFuse.keys.endFuse = true := by
  have hx : s.burnFuse = s.reachEnd 2 := if_neg (Nat.not_lt.mpr h)
  rw [hx]
  exact s.reachEnd_keys 2

/-- The overwriting is told, and no slot waits for it any more. -/
theorem State.overwriteKeys_spec (s : State) : s.overwriteKeys.keys.overwritePending = false ∧
    s.overwriteKeys.keys.recorded = s.keys.fuses ∧ Safety.raised s s.overwriteKeys Event.KEY_OVERWRITE_DONE 72 0 ∧
    ∀ k, k < 72 → (s.overwriteKeys.slotAt k).state ≠ .stale := by
  have hstale := fun k (hk : k < 72) => s.overwriteSlots_stale hk
  unfold State.overwriteKeys
  generalize hu : (List.range 72).foldl _ s = u at hstale ⊢
  have hf : (u.keys.fuses, u.ev.queue) = (s.keys.fuses, s.ev.queue) := by
    rw [← hu]
    refine foldl_same (fun s : State => (s.keys.fuses, s.ev.queue)) s fun v k => ?_
    dsimp only
    split
    · rfl
    · rfl
  obtain ⟨hfuse, hq⟩ := Prod.mk.injEq .. ▸ hf
  exact ⟨rfl, hfuse, raised_raise_own hq, hstale⟩

end

/-- Settles O48: the judgement of a confirmation, what its transition leaves, and what zeroisation does to the slots. -/
theorem lifecycleAndZeroisation : Obligations.LifecycleAndZeroisation := by
  refine ⟨fun s k v hp => congrArg Host.Outcome.next (State.writeScalar_accepts hp rfl), fun s k v => ?_, lifecycleMoves_iff,
    fun s hd => ?_, fun s => ?_, fun s k hk => s.clearKeys_slot hk, fun s => ⟨State.burnFuse_burns, State.burnFuse_end⟩,
    fun s => ?_, fun s => ?_⟩
  · refine fun hp => ⟨fun h => congrArg Host.Outcome.next (State.writeScalar_refuses hp (State.confirmLifecycle_busy rfl h)),
      fun hf hw => ⟨fun h => ?_, fun hc ha hst ht hm => congrArg Host.Outcome.next (State.writeScalar_accepts hp
        (State.confirmLifecycle_starts hf hw (State.confirmFails_false.mpr ⟨hc, ha, hst, ht, hm⟩)))⟩⟩
    refine congrArg Host.Outcome.next (State.writeScalar_refuses hp (State.confirmLifecycle_fails rfl hf hw
      (Bool.not_eq_false _ ▸ fun hx => ?_)))
    obtain ⟨hc, ha, hst, ht, hm⟩ := State.confirmFails_false.mp hx
    rcases h with h | h | h | h | h
    · exact h hc
    · exact absurd h (Nat.not_lt.mpr ha)
    · exact Bool.noConfusion (h.symm.trans hst)
    · exact h ht
    · exact Bool.noConfusion (h.symm.trans hm)
  · exact ⟨fun h => congrArg Host.Outcome.next (if_neg fun hx => Bool.noConfusion ((congrArg not h).symm.trans hx.2)),
      fun h ht => congrArg Host.Outcome.next ((if_pos ⟨hd, congrArg not h⟩).trans (State.completeLifecycle_none rfl ht)),
      fun t h ht h4 => congrArg Host.Outcome.next ((if_pos ⟨hd, congrArg not h⟩).trans
        (State.completeLifecycle_moves rfl ht h4)),
      fun h ht => congrArg Host.Outcome.next ((if_pos ⟨hd, congrArg not h⟩).trans (State.completeLifecycle_end rfl ht))⟩
  · exact ⟨fun h => congrArg Host.Outcome.next (if_pos h), fun h => congrArg Host.Outcome.next (if_neg (Bool.eq_false_iff.mp h)),
      fun h hg => congrArg Host.Outcome.next (if_pos ⟨h, hg⟩),
      fun hg => congrArg Host.Outcome.next (if_neg fun hx => Bool.noConfusion (hg.symm.trans hx.2)),
      fun h => congrArg Host.Outcome.next (if_pos h), fun h => congrArg Host.Outcome.next (if_neg (Bool.eq_false_iff.mp h))⟩
  · refine ⟨fun ha hp hf => ⟨_, congrArg Host.Outcome.next (if_pos ⟨ha, hp, congrArg not hf⟩), s.begin.overwriteKeys_spec⟩,
      fun h => congrArg Host.Outcome.next (if_neg fun ⟨_, hp, hf⟩ => h.elim (fun h => Bool.noConfusion (h.symm.trans hp))
        fun h => Bool.noConfusion ((congrArg not h).symm.trans hf))⟩
  · exact ⟨fun h ha => congrArg Host.Outcome.next ((if_pos h).trans (if_pos ha)),
      fun h ha => congrArg Host.Outcome.next ((if_pos h).trans (if_neg (Bool.eq_false_iff.mp ha))),
      fun h => congrArg Host.Outcome.next (if_neg (Bool.eq_false_iff.mp h))⟩

end Sys2Proof.Machine
end

-- ==== Proofs: requests, auto-run and resets (R481 to R505) ====
section
/-! PROOFS. What a device state leaves when it is entered, and O50. -/
namespace Sys2Proof.Machine
open Sys2Proof
set_option Elab.async false

/-! ### What a device state leaves when it is entered (R487, R488) -/

/-- The alert pin's item is all that telling it leaves. -/
theorem State.tellAlert_same {β : Type} (f : State → β) (hf : ∀ (u : State) w, f { u with wire := w } = f u) (s : State)
    (was : Bool) : f (s.tellAlert was) = f s := by
  obtain ⟨w, hw⟩ := s.tellAlert_eq was
  rw [hw, hf]

section
variable (s : State) (source st : Nat)

/-- Before the change is told, the state's register, the alert pin, a count and a mark of the device are all that changed. -/
theorem State.enterState_eq : ∃ (t : State) (d : Device), s.enterState source st =
    ({ t.inc Dict.DEVICE_STATE_STATE_CHANGES with dev := d } : State).raiseBy source Event.DEVICE_STATE_CHANGED st
      (s.rd Dict.DEVICE_STATE_STATE) ∧ t = (s.wr Dict.DEVICE_STATE_STATE st).tellAlert s.alertPin :=
  ⟨_, _, rfl, rfl⟩

theorem State.enterState_rd_ne (e : EntryDef) (n k : Nat) (h1 : e.key n k ≠ Dict.DEVICE_STATE_STATE.key 0 0)
    (h2 : e.key n k ≠ Dict.DEVICE_STATE_STATE_CHANGES.key 0 0) : (s.enterState source st).rd e n k = s.rd e n k := by
  obtain ⟨t, d, hx, ht⟩ := s.enterState_eq source st
  have hrd : t.rd e n k = s.rd e n k := by
    rw [ht]
    exact (State.tellAlert_same (·.rd e n k) (fun _ _ => rfl) _ _).trans (State.wr_rd_ne s _ _ _ _ _ _ _ h1)
  rw [hx]
  exact (State.wr_rd_ne t _ _ _ _ _ _ _ h2).trans hrd

theorem State.enterState_state (h : st < 256) : (s.enterState source st).rd Dict.DEVICE_STATE_STATE = st := by
  obtain ⟨t, d, hx, ht⟩ := s.enterState_eq source st
  have hrd : t.rd Dict.DEVICE_STATE_STATE = st := by
    rw [ht]
    exact (State.tellAlert_same (·.rd Dict.DEVICE_STATE_STATE) (fun _ _ => rfl) _ _).trans
      ((State.wr_rd s ..).trans (Nat.mod_eq_of_lt h))
  rw [hx]
  exact (State.wr_rd_ne t _ _ _ _ _ _ _ (by decide)).trans hrd

theorem State.enterState_audio : (s.enterState source st).audio = s.audio := by
  obtain ⟨t, d, hx, ht⟩ := s.enterState_eq source st
  have ha : t.audio = s.audio := by
    rw [ht]
    exact State.tellAlert_same State.audio (fun _ _ => rfl) ..
  rw [hx]
  exact ha

theorem State.enterState_spec (h : st < 256) : let t := s.enterState source st
    t.rd Dict.DEVICE_STATE_STATE = st ∧ t.now = s.now ∧ t.pending = s.pending ∧
    Safety.raised s t Event.DEVICE_STATE_CHANGED st (s.rd Dict.DEVICE_STATE_STATE) ∧
    ((s.wr Dict.DEVICE_STATE_STATE st).alertPin ≠ s.alertPin →
      .pin 15 0 (s.wr Dict.DEVICE_STATE_STATE st).alertPin.toNat ∈ t.wire) := by
  have hst := s.enterState_state source st h
  obtain ⟨t, d, hx, ht⟩ := s.enterState_eq source st
  have hsame : (t.now, t.pending, t.ev.queue) = (s.now, s.pending, s.ev.queue) := by
    rw [ht]
    exact State.tellAlert_same (fun u : State => (u.now, u.pending, u.ev.queue)) (fun _ _ => rfl) ..
  have hw (ha : (s.wr Dict.DEVICE_STATE_STATE st).alertPin ≠ s.alertPin) :
      WireItem.pin 15 0 (s.wr Dict.DEVICE_STATE_STATE st).alertPin.toNat ∈ t.wire := by
    rw [ht, State.tellAlert, if_neg ha]
    exact List.mem_append_right _ (List.mem_singleton.mpr rfl)
  rw [hx] at hst ⊢
  simp only [Prod.mk.injEq] at hsame
  obtain ⟨hnow, hpending, hq⟩ := hsame
  have hq' : ({ t.inc Dict.DEVICE_STATE_STATE_CHANGES with dev := d } : State).ev.queue = s.ev.queue := hq
  refine ⟨hst, hnow, hpending, raised_raiseBy hq', fun ha => ?_⟩
  rw [State.raiseBy_wire]
  exact List.mem_append_left _ (hw ha)

end

theorem State.alertPin_iff (s : State) : s.alertPin = true ↔ bit (s.rd Dict.GOVERNOR_STATUS_FLAGS) 0 = true ∨
    bit (s.rd Dict.GOVERNOR_STATUS_FLAGS) 1 = true ∨ s.rd Dict.DEVICE_STATE_STATE = 5 := by
  simp only [State.alertPin, Bool.or_eq_true, beq_iff_eq, or_assoc]

/-! ### RUN, STANDBY and SAFE (R488 to R492) -/

section
variable {s : State} {source : Nat}

theorem State.judgeRun_state (h3 : s.devState ≠ 3) (h5 : s.devState ≠ 5) : s.judgeRun = some (.rule 0xD0) :=
  if_pos ⟨h3, h5⟩

theorem State.judgeRun_hot (h : s.devState = 3 ∨ s.devState = 5)
    (ht : (s.rd Dict.DEVICE_STATE_SAFE_TEMP : Int) * 16 - 80 ≤ s.gov.dieTemp) : s.judgeRun = some (.rule 0xD2) :=
  (if_neg fun hx => h.elim hx.1 hx.2).trans (if_pos ht)

theorem State.requestRun_refused {r : Refuse} (h : s.judgeRun = some r) : s.requestRun source = .refused r s := by
  simp only [State.requestRun, h]

theorem State.requestRun_runs (h : s.judgeRun = none) : s.requestRun source = .done (s.startRun source) := by
  simp only [State.requestRun, h]

theorem State.milestone_regs (s : State) (i : Nat) : (s.milestone i).regs = s.regs :=
  iteInduction (motive := fun u : State => u.regs = s.regs) (fun _ => rfl) fun _ => rfl

theorem State.startAlone_regs (s : State) : s.startAlone.regs = s.regs :=
  foldl_same State.regs s fun _ _ => iteInduction (motive := fun u : State => u.regs = _) (fun _ => rfl) fun _ => rfl

/-- The targets of the islands leave the device's state. -/
theorem State.setTargets_state (s : State) (lower : Bool) :
    (s.setTargets lower).rd Dict.DEVICE_STATE_STATE = s.rd Dict.DEVICE_STATE_STATE := by
  have hc (u : State) : u.judgeCeilings.rd Dict.DEVICE_STATE_STATE = u.rd Dict.DEVICE_STATE_STATE :=
    foldl_same (fun u : State => u.rd Dict.DEVICE_STATE_STATE) u fun _ _ => State.raiseIf_rd ..
  refine (hc _).trans (foldl_same (fun u : State => u.rd Dict.DEVICE_STATE_STATE) s fun u i => ?_)
  extract_lets old new _ v
  have hv : v.rd Dict.DEVICE_STATE_STATE = u.rd Dict.DEVICE_STATE_STATE :=
    iteInduction (motive := fun v : State => v.rd Dict.DEVICE_STATE_STATE = u.rd Dict.DEVICE_STATE_STATE) (fun _ => rfl)
      fun _ => rfl
  refine (State.wr_rd_ne _ _ _ _ _ _ _ _ ?_).trans hv
  simp [EntryDef.key]
  omega

theorem State.armCanvas_state (s : State) (c : Nat) :
    (s.armCanvas c).rd Dict.DEVICE_STATE_STATE = s.rd Dict.DEVICE_STATE_STATE := rfl

theorem State.startRun_state (s : State) (source : Nat) : (s.startRun source).rd Dict.DEVICE_STATE_STATE = 4 := by
  unfold State.startRun
  extract_lets safe t u
  have ht : t.rd Dict.DEVICE_STATE_STATE = 4 := (congrArg (Store.read dictDefault · _) (State.milestone_regs _ 5)).trans
    (State.enterState_state _ source 4 (by decide))
  clear_value t
  have hu : u.rd Dict.DEVICE_STATE_STATE = 4 := (foldl_same (State.rd · Dict.DEVICE_STATE_STATE) t fun u c =>
    u.armCanvas_state c).trans ht
  clear_value u
  refine (State.setTargets_state _ _).trans (iteInduction (motive := fun u : State => u.rd Dict.DEVICE_STATE_STATE = 4)
    (fun _ => ?_) fun _ => hu)
  exact (congrArg (Store.read dictDefault · _) u.startAlone_regs).trans hu

theorem State.requestStandby_refused (h4 : s.devState ≠ 4) (h5 : s.devState ≠ 5) :
    s.requestStandby source = .refused (.rule 0xD0) s := if_pos ⟨h4, h5⟩

theorem State.requestStandby_run (h : s.devState = 4) : s.requestStandby source = .done (s.leaveRun.enterState source 3) := by
  refine (if_neg fun hx => hx.1 h).trans (congrArg Effect.done (if_neg ?_))
  rw [h]
  decide

/-- The sound that SAFE stopped starts again. -/
theorem State.requestStandby_safe (h : s.devState = 5) :
    s.requestStandby source = .done (s.leaveRun.enterState source 3).startAlone := by
  refine (if_neg fun hx => hx.2 h).trans (congrArg Effect.done (if_pos ?_))
  rw [h]
  decide

theorem State.beginStop_audio (s : State) (kind num : Nat) : (s.beginStop kind num).audio = s.audio := rfl

/-- SAFE is told with its cause, and touches the sound no more. -/
theorem State.safeTold_spec (s : State) (source x : Nat) {cause : Nat} (h : cause < 256) :
    let t := ((s.wr Dict.DEVICE_STATE_SAFE_CAUSE cause).enterState source 5).raiseBy source Event.SAFE_ENTERED cause x
    t.rd Dict.DEVICE_STATE_STATE = 5 ∧ t.rd Dict.DEVICE_STATE_SAFE_CAUSE = cause ∧ t.audio = s.audio := by
  have ha := State.enterState_audio (s.wr Dict.DEVICE_STATE_SAFE_CAUSE cause) source 5
  have hs := State.enterState_state (s.wr Dict.DEVICE_STATE_SAFE_CAUSE cause) source 5 (by decide)
  have hc : ((s.wr Dict.DEVICE_STATE_SAFE_CAUSE cause).enterState source 5).rd Dict.DEVICE_STATE_SAFE_CAUSE = cause :=
    (State.enterState_rd_ne _ _ _ _ _ _ (by decide) (by decide)).trans
      ((State.wr_rd s ..).trans (Nat.mod_eq_of_lt h))
  generalize (s.wr Dict.DEVICE_STATE_SAFE_CAUSE cause).enterState source 5 = u at ha hs hc
  exact ⟨(State.raiseWith_rd ..).trans hs, (State.raiseWith_rd ..).trans hc, (State.raiseWith_audio ..).trans ha⟩

theorem State.enterSafe_spec (s : State) (source : Nat) {cause : Nat} (h : cause < 256) : let t := s.enterSafe source cause
    t.rd Dict.DEVICE_STATE_STATE = 5 ∧ t.rd Dict.DEVICE_STATE_SAFE_CAUSE = cause ∧ t.audio.startAt = 0 := by
  unfold State.enterSafe
  extract_lets t1 _ t2 t3 t4
  have h2 : t2.audio.startAt = 0 := rfl
  clear_value t2
  have h3 : t3.audio = t2.audio := foldl_same State.audio t2 fun u e =>
    iteInduction (motive := fun v : State => v.audio = u.audio) (fun _ => u.beginStop_audio ..) fun _ => rfl
  clear_value t3
  obtain ⟨hs, hc, ha⟩ := t3.safeTold_spec source (unsigned 32 t4.gov.dieTemp) h
  exact ⟨hs, hc, (congrArg Audio.startAt (ha.trans h3)).trans h2⟩

/-! ### Auto-run and FULL_BIST (R483, R505) -/

section
variable {tried : State} (ht : tried = { s with dev := { s.dev with autoTried := true } })
include ht

theorem State.autoRun_runs (h : tried.judgeRun = none) : s.autoRun = tried.startRun 0xFF := by
  subst ht
  simp only [State.autoRun, State.requestRun_runs h]

theorem State.autoRun_refused {r : Refuse} (h : tried.judgeRun = some r) : s.autoRun =
    tried.raise Event.RUN_REFUSED (r.detail * 65536 + r.fieldIndex) r.fieldSub := by
  subst ht
  simp only [State.autoRun, State.requestRun_refused h]

end

theorem State.autoRunLate_due (ho : s.autoRunOpen = true) (hr : s.autoRunReady = false) {limit : Nat}
    (hl : limit = s.rd Dict.DEVICE_STATE_AUTO_RUN_TIMEOUT) (h : s.dev.standbyAt + limit * 1000000000 ≤ s.now) :
    s.autoRunLate = (s.raise Event.AUTO_RUN_TIMEOUT (s.rd Dict.HENTIS_STATE) limit).autoRun := by
  subst hl
  simp only [State.autoRunLate, ho, hr, Bool.not_false, Bool.and_true, nsPerS, decide_eq_true h, if_true]

theorem State.autoRunLate_early {limit : Nat} (hl : limit = s.rd Dict.DEVICE_STATE_AUTO_RUN_TIMEOUT)
    (h : s.autoRunOpen = false ∨ s.autoRunReady = true ∨ s.now < s.dev.standbyAt + limit * 1000000000) :
    s.autoRunLate = s := by
  subst hl
  refine if_neg fun hx => ?_
  simp only [Bool.and_eq_true, Bool.not_eq_true', decide_eq_true_eq] at hx
  obtain ⟨⟨ho, hr⟩, ht⟩ := hx
  rcases h with h | h | h
  · exact Bool.noConfusion (h.symm.trans ho)
  · exact Bool.noConfusion (hr.symm.trans h)
  · exact absurd ht (Nat.not_le.mpr h)

theorem State.endFullBist_none {l : List (Nat × Nat)} (h : s.devState ≠ 2 ∨ s.dev.fullBist = false) : s.endFullBist l = s :=
  if_neg fun hx => h.elim (fun h => h hx.1) fun h => Bool.noConfusion (h.symm.trans hx.2)

end

/-! ### The device resets itself (R481) -/

/-- Of what a reset clears, the alert pin is judged last, and told where it falls. -/
theorem State.clearVolatile_wire (s : State) : s.clearVolatile.wire = s.wire ++ (if s.alertPin = true then [.pin 15 0 0] else []) ∧
    s.clearVolatile.dev.porstN = s.dev.porstN ∧ s.clearVolatile.dev.nextCause = s.dev.nextCause := by
  obtain ⟨u, hx, hw, hp, hn⟩ : ∃ u : State, s.clearVolatile = (if u.rd Dict.SUPPLY_FLOOR_STATE = 2 then
      u.wr Dict.SUPPLY_FLOOR_STATE 1 else u).loadLife.tellAlert s.alertPin ∧ u.wire = s.wire ∧
      u.dev.porstN = s.dev.porstN ∧ u.dev.nextCause = s.dev.nextCause := ⟨_, rfl, rfl, rfl, rfl⟩
  obtain ⟨-, -, -, -, -, -, -, -, -, -, -, -, -, hreg⟩ := s.clearVolatile_spec
  generalize s.clearVolatile = t at hx hreg ⊢
  have hv : (if u.rd Dict.SUPPLY_FLOOR_STATE = 2 then u.wr Dict.SUPPLY_FLOOR_STATE 1 else u).wire = u.wire ∧
      (if u.rd Dict.SUPPLY_FLOOR_STATE = 2 then u.wr Dict.SUPPLY_FLOOR_STATE 1 else u).dev = u.dev :=
    iteInduction (motive := fun v : State => v.wire = u.wire ∧ v.dev = u.dev) (fun _ => ⟨rfl, rfl⟩) fun _ => ⟨rfl, rfl⟩
  generalize (if u.rd Dict.SUPPLY_FLOOR_STATE = 2 then u.wr Dict.SUPPLY_FLOOR_STATE 1 else u) = v at hx hv
  obtain ⟨l, x, hl, -⟩ := v.loadLife_eq
  have hlife : v.loadLife.wire = v.wire ∧ v.loadLife.dev = v.dev := by rw [hl]; exact ⟨rfl, rfl⟩
  generalize v.loadLife = w at hx hlife
  obtain ⟨y, hy⟩ := w.tellAlert_eq s.alertPin
  have hrd (e : EntryDef) (he : keptReg (e.key 0 0) = false) : w.rd e = dictDefault (e.key 0 0) := by
    have := hreg _ he
    rw [hx, hy] at this
    exact this
  have hpin : w.alertPin = false := by
    simp only [State.alertPin, hrd Dict.GOVERNOR_STATUS_FLAGS (by decide), hrd Dict.DEVICE_STATE_STATE (by decide)]
    decide
  have hdev : t.dev = w.dev := by rw [hx, hy]
  obtain ⟨hv1, hv2⟩ := hv
  obtain ⟨hl1, hl2⟩ := hlife
  refine ⟨?_, ?_, ?_⟩
  · rw [hx, ← hw, ← hv1, ← hl1, State.tellAlert, hpin]
    cases s.alertPin
    · exact (List.append_nil _).symm
    · rfl
  · rw [hdev, hl2, hv2, hp]
  · rw [hdev, hl2, hv2, hn]

theorem State.resetSelf_spec (s : State) (source cause : Nat) : let t := s.resetSelf source cause
    t.dev.porstN = false ∧ t.dev.nextCause = cause ∧ t.devState = 0 ∧
      t.wire = ((s.enterState source 0).dropAll Config.resetCause).wire ++
      (if ((s.enterState source 0).dropAll Config.resetCause).alertPin = true then [.pin 15 0 0] else []) := by
  unfold State.resetSelf
  generalize (s.enterState source 0).dropAll Config.resetCause = u
  obtain ⟨hw, hp, hc⟩ := State.clearVolatile_wire { u with dev := { u.dev with porstN := false, nextCause := cause } }
  refine ⟨hp, hc, ?_, hw⟩
  simp only [State.devState, hp, Bool.false_and, Bool.false_eq_true, if_false]

/-- Settles O50: what the state entered last leaves, the judgement of RUN, and what a reset tells. -/
theorem requestsAndAutoRun : Obligations.RequestsAndAutoRun := by
  refine ⟨fun s source st h => s.enterState_spec source st h, State.alertPin_iff, fun s k hp => ?_, State.startRun_state,
    fun s k hp => ?_, fun s k hp => ?_, fun s source cause h => s.enterSafe_spec source h, fun s => ?_, fun s => ?_,
    fun s => ?_, fun s k v hp => ?_, fun s l => ?_, fun s k v hp => congrArg Host.Outcome.next (State.writeScalar_waits hp rfl),
    State.resetSelf_spec⟩
  · exact ⟨fun h3 h5 => congrArg Host.Outcome.next (State.writeScalar_refuses hp
        (State.requestRun_refused (State.judgeRun_state h3 h5))),
      fun h ht => congrArg Host.Outcome.next (State.writeScalar_refuses hp
        (State.requestRun_refused (State.judgeRun_hot h ht))),
      fun r h => congrArg Host.Outcome.next (State.writeScalar_refuses hp (State.requestRun_refused h)),
      fun h => congrArg Host.Outcome.next (State.writeScalar_accepts hp (State.requestRun_runs h))⟩
  · exact ⟨fun h4 h5 => congrArg Host.Outcome.next (State.writeScalar_refuses hp (State.requestStandby_refused h4 h5)),
      fun h => congrArg Host.Outcome.next (State.writeScalar_accepts hp (State.requestStandby_run h)),
      fun h => congrArg Host.Outcome.next (State.writeScalar_accepts hp (State.requestStandby_safe h))⟩
  · exact ⟨fun h => congrArg Host.Outcome.next (State.writeScalar_accepts hp (if_neg fun hx => h.elim hx.1 hx.2)),
      fun h3 h4 => congrArg Host.Outcome.next (State.writeScalar_refuses hp (if_pos ⟨h3, h4⟩))⟩
  · exact ⟨fun h ht => congrArg Host.Outcome.next (if_pos ⟨h, ht⟩),
      fun h => congrArg Host.Outcome.next (if_neg fun hx => Bool.noConfusion (h.symm.trans hx.2))⟩
  · exact ⟨fun h => congrArg Host.Outcome.next (if_neg fun hx => h.elim
        (fun h => Bool.noConfusion (h.symm.trans (Bool.and_eq_true _ _ ▸ hx).1))
        fun h => Bool.noConfusion (h.symm.trans (Bool.and_eq_true _ _ ▸ hx).2)),
      fun ho hr => ⟨
        fun h => congrArg Host.Outcome.next ((if_pos (Bool.and_eq_true _ _ ▸ ⟨ho, hr⟩)).trans (State.autoRun_runs rfl h)),
        fun r h => congrArg Host.Outcome.next ((if_pos (Bool.and_eq_true _ _ ▸ ⟨ho, hr⟩)).trans
          (State.autoRun_refused rfl h))⟩⟩
  · exact ⟨fun ho hr h => congrArg Host.Outcome.next (State.autoRunLate_due ho hr rfl h),
      fun h => congrArg Host.Outcome.next (State.autoRunLate_early rfl h)⟩
  · exact ⟨fun h => congrArg Host.Outcome.next (State.writeScalar_accepts hp
        (if_neg (Bool.eq_false_iff.mp (bne_eq_false_iff_eq.mpr h)))),
      fun h => congrArg Host.Outcome.next (State.writeScalar_refuses hp (if_pos (bne_iff_ne.mpr h)))⟩
  · exact ⟨fun h hb => congrArg Host.Outcome.next (if_pos ⟨h, hb⟩),
      fun h => congrArg Host.Outcome.next (State.endFullBist_none h)⟩

end Sys2Proof.Machine
end
